-- ==== Sys2Proof/Word.lean ====
section
/-! DEFINITION. The byte, the sparse map type and the plainest arithmetic of the model. -/

namespace Sys2Proof

/-- One byte. -/
abbrev Byte := BitVec 8

/-- A sparse map from an index to a value: keys strictly rising, no entry equal to what an unlisted key reads as. -/
abbrev SMap (α : Type) := List (Nat × α)

/-- A field of `n` bits whose lowest bit is bit `lo` (the manual writes `[lo+n-1:lo]`, R7). -/
abbrev bits (v lo n : Nat) : Nat := (v >>> lo) % 2 ^ n

end Sys2Proof
end

