-- ==== Sys2Proof/Syntax.lean ====
section
/-! DEFINITION. The commands of the block: one constructor of `Instr` per row of spec/opcode_table.json,
with the operand structures they carry. -/

namespace Sys2Proof

/-- A mailbox command as it stands in a slot (R54, Table 2-4). `win` is the client window, or 64 for the
management bus (R405). `ops` is the operand area read as one little-endian number, so that the manual's
operand bit ranges are bit ranges of it. `host` is what stands in host memory at the host address the
operands name (outside the device; it is laid over the model's host memory before the command runs). -/
structure Cmd where
  win : Nat
  slot : Nat
  tag : Nat := 0
  flags : Nat := 0
  opLen : Nat := 0
  rsvd06 : Nat := 0
  seq : Nat := 0
  ver : Nat := 1
  rsvd0D : Nat := 0
  ops : Nat := 0
  host : List Byte := []
  deriving DecidableEq, Repr

/-- How a received packet ended (R87, R106). -/
inductive PktEnd where
  | eop | eopBad | missing
  deriving DecidableEq, Repr

/-- A camera link packet at the demultiplexer (R89, R90): the group, the time its SOP arrived, the 8 header
bytes, the payload and the payload CRC as received. -/
structure CamPkt where
  group : Nat
  time : Nat
  hdr : List Byte
  payload : List Byte
  crc : Nat
  fin : PktEnd := .eop
  deriving DecidableEq, Repr

/-- A Midway packet received on a tile port, or (R234) on the partner link. -/
structure TilePkt where
  port : Nat
  time : Nat
  hdr : List Byte
  payload : List Byte
  crc : Nat
  fin : PktEnd := .eop
  deriving DecidableEq, Repr

/-- One ALIGN ordered set received on a physical lane (R87). -/
structure AlignSet where
  lane : Nat
  d1 : Nat
  d2 : Nat
  d3 : Nat
  deriving DecidableEq, Repr

/-- The partner named by kind, position and hop (Table 2-24). -/
structure PartnerId where
  kind : Nat
  pos : Nat
  hop : Nat := 0
  deriving DecidableEq, Repr

/-- A block boundary of Table 1-9 at which staged writes take effect. -/
inductive Boundary where
  | master
  | frame (pl : Nat)
  | show (canvas : Nat)
  | loop (lp : Nat)
  | lane (lg : Nat)
  | picture (engine : Nat)
  | irap (engine : Nat)
  | tdm (port : Nat)
  | busStart
  deriving DecidableEq, Repr

/-- What resets the host interface (R53). -/
inductive HostReset where
  | perst | hot | flrPf | flrVf (n : Nat)
  deriving DecidableEq, Repr

/-- A DRAM granule error that a read meets (R284). -/
structure ScrubFinding where
  chan : Nat
  bank : Nat
  row : Nat
  granule : Nat
  addr : Nat
  uncorrectable : Bool
  deriving DecidableEq, Repr

/-- What enumeration over CXL.io reads from an expander (R293). -/
structure ExpanderInfo where
  serial : Nat
  port : Nat
  swPort : Nat := 255
  volGiB : Nat := 0
  persGiB : Nat := 0
  gpf : Bool := true
  phase2Ms : Nat := 8
  lsa : Bool := true
  locked : Bool := false
  type3 : Bool := true
  dirtyCount : Nat := 0
  patrol : Bool := false
  foreignLabel : Bool := false
  /-- The root port's link as CXL_PORT_LINK shows it: width, GT/s, 256-byte flits. -/
  link : Nat := 0x14010
  deriving DecidableEq, Repr

/-- How a codec picture came out (R359 to R371); the H.265 coding itself is the standard's. Encode: the bits of each CTU at its chosen
quantiser, and the access unit. Decode: the SPS it activated (width, height, sps_max_dec_pic_buffering, whether it lies within what the engine
decodes), the damage that decoding found, the cropped picture's samples, and the pictures that the output process outputs with it. -/
structure PicOutcome where
  picType : Nat
  poc : Nat
  bits : Nat
  qpAvg : Nat := 26
  ctuBits : List Nat := []
  /-- Encode: for each slice, the bits before its first CTU (start code, header; in the first also the delimiter), the parameter sets apart. -/
  headBits : List Nat := []
  nal : List Byte := []
  sps : Option (Nat × Nat × Nat × Bool) := none
  syntaxError : Bool := false
  missingRef : Bool := false
  marked : List Nat := []
  width : Nat := 0
  height : Nat := 0
  bitDepth : Nat := 8
  /-- Chroma format: 0 monochrome, 1 4:2:0, 2 4:2:2. -/
  chroma : Nat := 1
  y : List Nat := []
  cb : List Nat := []
  cr : List Nat := []
  output : List Nat := []
  deriving DecidableEq, Repr

/-- A register of a window as a PCIe function's BAR0 reaches it (R49): the function and the page. -/
structure HostPage where
  fn : Nat
  win : Nat
  deriving DecidableEq, Repr

/-- A phase raster is complete, and the tick at which its capture's frame-close fence completes (R202). -/
structure PhaseDone where
  phase : Nat
  fence : Nat
  deriving DecidableEq, Repr

/-- When a calibration window starts, and what it measures, by lane (R261). -/
structure WindowStart where
  start : Nat
  quality : List (Nat × Nat)
  deriving DecidableEq, Repr

/-- A bank that is refreshed, and what had decayed in it (R288). -/
structure BankRefresh where
  bank : Nat
  decayed : List ScrubFinding
  deriving DecidableEq, Repr

/-- A STATUS read to an address; a bare one has no command byte (R398). -/
structure StatusRead where
  addr : Nat
  bare : Bool
  deriving DecidableEq, Repr

inductive Instr where
  -- 01 architecture
  | masterPeriodBoundary (t : Nat)
  | genrefEdge (t : Nat)
  | trigInEdge (t : Nat)
  -- 02 control
  | doorbell (page : HostPage) (value : Nat)
  | deferTimeout (win slot : Nat)
  | eventTailWrite (page : HostPage) (value : Nat)
  | registerWrite (fn win offset : Nat) (data : List (Option Byte))
  | overflow (win : Nat)
  | ping (c : Cmd)
  | fence (c : Cmd)
  | identify (c : Cmd)
  | ackBarker (c : Cmd)
  | windowOpen (c : Cmd)
  | windowClose (c : Cmd)
  | eventMaskSet (c : Cmd)
  | eventMaskGet (c : Cmd)
  | faultLogRead (c : Cmd)
  | paramGet (c : Cmd)
  | paramSet (c : Cmd)
  | paramSetGroup (c : Cmd)
  | paramDescribe (c : Cmd)
  | stagedChangeApply (b : Boundary)
  | tableRead (c : Cmd)
  | tableWrite (c : Cmd)
  | tableCommit (c : Cmd)
  | tableDiscard (c : Cmd)
  | fwStage (c : Cmd)
  | fwActivate (c : Cmd)
  | fwStatus (c : Cmd)
  | fwKeyRevoke (c : Cmd)
  | quarantineRelease (c : Cmd)
  | partnerArrivalReport (p : PartnerId)
  | quarantineExpiry (p : PartnerId)
  | hostInterfaceReset (r : HostReset)
  | vfEnableChange (enable : Bool) (numVfs : Nat)
  | poisonedTlp (offset : Nat)
  -- 03 camera
  | cgSignalDetect (g lane : Nat)
  | cgTrainTimeout (g : Nat)
  | cameraAlign (g : Nat) (sets : List AlignSet)
  | discoverRetry (g : Nat)
  | identity (p : CamPkt)
  | vcAnnounce (p : CamPkt)
  | frameStart (p : CamPkt)
  | line (p : CamPkt) (late : List Nat)
  | frameEnd (p : CamPkt)
  | embedded (p : CamPkt)
  | ctrlReply (p : CamPkt)
  | headStatus (p : CamPkt)
  | cameraBadPacket (p : CamPkt)
  | probeSend (g t : Nat)
  | probeEcho (g pseq d2 d3 t : Nat)
  | probeTimeout (g pseq : Nat)
  | tsyncSend (g vcMask t : Nat)
  | camCtrlTimeout (g tag : Nat)
  | cameraLaneLost (g lane : Nat)
  | cameraHeadLost (g : Nat)
  | sensorBind (c : Cmd)
  | sensorUnbind (c : Cmd)
  | camExpose (c : Cmd)
  | camCtrlWrite (c : Cmd)
  | camCtrlRead (c : Cmd)
  | camRetrain (c : Cmd)
  -- 04 raw pipeline
  | pipelineWaitTimeout (pl : Nat)
  | sidGateTimeout (pl : Nat)
  | statsReady (pl : Nat)
  | statsRead (c : Cmd)
  -- 05 colour
  | colourProbe (c : Cmd)
  | colourProbeCapture (k : Nat)
  | probeMissed (k : Nat)
  -- 06 canvases
  | showPeriodBoundary (cv t : Nat)
  | phaseBoundary (cv phase : Nat)
  | canvasLine (cv phase y : Nat) (late : List (Nat × Nat)) (badCells : List Nat)
  | frameDone (cv : Nat) (done : PhaseDone)
  | layerFetch (cv src y : Nat)
  | frameStoreComplete (pl t : Nat)
  | phaseSyncRise (n phase : Nat)
  | phaseSyncFall (n t : Nat)
  | layerFlip (c : Cmd)
  | canvasStatus (c : Cmd)
  -- 07 Midway
  | fsoSend (cv phase : Nat)
  | tileLineSend (lp hop cv phase y : Nat)
  | discoverInterval (lp side : Nat)
  | tileId (p : TilePkt)
  | cfgReply (p : TilePkt)
  | tileStatus (p : TilePkt)
  | tileAlarmReceived (port d1 d2 d3 t : Nat)
  | feedWatchdog (lp side : Nat)
  | failoverTrained (lp : Nat)
  | tilePoll (lp hop : Nat)
  | tilePollTimeout (lp hop : Nat)
  | tileCfgTimeout (lp tag : Nat)
  | revertHoldExpiry (lp : Nat)
  | handoverReady (lp : Nat)
  | handoverAbandon (lp : Nat)
  | pIdentity (p : TilePkt)
  | pHeartbeat (p : TilePkt)
  | pmark (t d1 d2 d3 : Nat)
  | pLoop (p : TilePkt)
  | pHandover (p : TilePkt)
  | pTile (p : TilePkt)
  | partnerConfig (c : Cmd)
  | loopDiscover (c : Cmd)
  | tileCfgWrite (c : Cmd)
  | tileCfgRead (c : Cmd)
  | tileStatusRead (c : Cmd)
  | loopFeed (c : Cmd)
  -- 08 lanes
  | laneSignalDetect (lane : Nat)
  | laneSignalLoss (lane : Nat)
  | laneComma (lane phase : Nat)
  | laneInvalidSymbol (lane : Nat) (before : List Nat) (group : Nat)
  | laneCommaTimeout (lane : Nat)
  | skipReceived (lane : Nat) (drift : Int) (d1 d2 d3 : Nat)
  | skipSend (lane : Nat)
  | fomWindow (lane a sigma : Nat)
  | laneMonitor (lg : Nat) (scans : List (Nat × Nat))
  | laneWakeDone (lane : Nat) (tx : Bool)
  | calWindow (lg : Nat) (window : WindowStart)
  | calMeasureDone (lane quality : Nat)
  | calDeferLimit (lg : Nat)
  | patternSync (lane : Nat) (before : List Bool) (bit : Bool) (after : List Bool)
  | laneStatus (c : Cmd)
  | laneCalibrate (c : Cmd)
  | eyeScan (c : Cmd)
  | eyeScanDone (lane : Nat) (aborted : Bool) (points : List (Nat × Nat)) (t : Nat)
  | patternSet (c : Cmd)
  | patternStatus (c : Cmd)
  | laneInject (c : Cmd)
  | laneTxSet (c : Cmd)
  -- 09 memory
  | memAlloc (c : Cmd)
  | memFree (c : Cmd)
  | memWrite (c : Cmd)
  | memRead (c : Cmd)
  | addressFault (addr : Nat) (write : Bool)
  | rowRetired (chan bank : Nat)
  | dramRefresh (chan : Nat) (refresh : BankRefresh)
  | mr4Read (chan rate : Nat)
  | wckTrack (chan : Nat) (delays : List Nat)
  | retrainInterval (chan : Nat)
  | retrainSlice (t : Nat)
  | patrolScrub (granules : Nat) (found : List ScrubFinding)
  | expanderPresent (e : ExpanderInfo)
  | enumerationDone (slot : Nat)
  | expanderSurpriseRemove (slot : Nat)
  | cxlEventPoll (slot : Nat) (ranges : List (Nat × Nat))
  | cxlVerify (region offset : Nat) (poisoned : Bool)
  | regionVerifyDone (region : Nat)
  | gpfStart (trigger : Nat)
  | gpfPhase1Done (t : Nat)
  | gpfDone (late : List Nat) (t : Nat)
  | cxlRegionCreate (c : Cmd)
  | cxlRegionDelete (c : Cmd)
  | cxlRegionAccept (c : Cmd)
  | cxlExpanderRemove (c : Cmd)
  | removalDrainDone (slot : Nat)
  | relocationDone (slot : Nat)
  | slotPowerOff (slot : Nat)
  | cxlPersistFlush (c : Cmd)
  | attentionButton (slot : Nat)
  | attentionTimer (slot : Nat)
  -- 10 recording
  | recordFenceDone (pl : Nat)
  | recordDeadline (pl : Nat)
  | checkpoint (bin : Nat)
  | binRecovery (bin : Nat)
  | wearMove (bin : Nat)
  | clipProtect (c : Cmd)
  | clipMark (c : Cmd)
  -- 11 clip queues
  | sqTail (page : HostPage) (pair value : Nat) (entries : List Byte)
  | cqHead (page : HostPage) (pair value : Nat)
  | sqFetch (win pair : Nat)
  | read (win pair cid : Nat)
  | readFrame (win pair cid : Nat)
  | dirRead (win pair cid : Nat)
  | indexRead (win pair cid : Nat)
  | importClip (win pair cid : Nat) (data : List Byte)
  | cqFence (win pair cid : Nat)
  | cqCommandTimeout (win pair cid : Nat)
  | cqInterruptTimer (win pair : Nat)
  | queueCreate (c : Cmd)
  | queueDelete (c : Cmd)
  | queueRestart (c : Cmd)
  | queueResume (win pair : Nat)
  | queueErrorLog (c : Cmd)
  | queueStatus (c : Cmd)
  | binCreate (c : Cmd)
  | binDelete (c : Cmd)
  | binFormat (c : Cmd)
  | binSanitise (c : Cmd)
  | binAdminStatus (c : Cmd)
  | adminProgress (bin : Nat) (failedLines : Nat)
  | adminDone (bin : Nat)
  -- 12 codec
  | vcOpen (c : Cmd)
  | vcClose (c : Cmd)
  | keyNow (c : Cmd)
  | vcDecFeed (c : Cmd)
  | feedTimeout (engine : Nat)
  | vcPictureRead (c : Cmd)
  | decodePace (engine t : Nat)
  | pictureDone (engine t : Nat) (o : PicOutcome)
  | pictureDeadline (engine : Nat)
  -- 13 audio
  | audioClockDetect (port : Nat)
  | audioClockLost (port : Nat)
  | fsEdge (port t bclk : Nat) (samples : List Nat) (overrun : Bool)
  | fsFlywheel (port : Nat) (samples : List Nat)
  | audioRateMeasure (port rate : Nat)
  | audioBlockFetch (port block : Nat) (late : Bool)
  | audioBlockDeadline (port block : Nat)
  | audioStart (c : Cmd)
  | audioStatus (c : Cmd)
  -- 14 housekeeping and bus
  | hkConversion (raw : Nat)
  | status (access : StatusRead)
  | slotState (addr : Nat)
  | submit (addr slot : Nat) (len : Nat) (frame : List Byte) (pec : Option Nat)
  | reply (addr slot : Nat)
  | hkRead (addr : Nat)
  | replyAck (addr slot : Nat) (pec : Option Nat)
  | mbStretchTimeout (addr code : Nat)
  | mbBusTimeout (addr code : Nat)
  | telemetryCollect (powerMw : Nat) (d2d : List Nat)
  | pageZeroing (pages : Nat)
  | hkStatus (c : Cmd)
  | bgStatus (c : Cmd)
  -- 15 power
  | vauxValid (mgtAddr : Nat)
  | dramTrainingDone (failed : List Nat)
  | deviceReset (c : Cmd)
  | powerStateSet (c : Cmd)
  -- lanes and partner link bring-up, pins
  | tilePortAlign (port d1 d2 d3 t : Nat)
  | discoverReceived (p : TilePkt)
  | fsoReceived (port d1 d2 d3 t : Nat)
  | partnerSignalDetect (lane : Nat)
  | partnerAlign (sets : List AlignSet)
  | partnerProbe (pseq d2 d3 t : Nat)
  | perstNRise (clkMode : Nat)
  -- the rows that carry no operand (kept last: Lean's compiled code numbers at most 244 constructors with fields)
  | genrefMissedEdge
  | lockstepMismatch
  | aipexRestartDone
  | aipexTick
  | tableSwap
  | switchoverImport
  | switchoverComplete
  | switchoverRollback
  | unifBankCopyDone
  | unifCommitDone
  | pHeartbeatSend
  | partnerHeartbeatTimeout
  | calibrationStart
  | drainDone
  | throttleStep
  | mbAbort
  | bgScheduler
  | scrubBehind
  | pwrgdRise
  | startupComplete
  | pwrgdFall
  | coldReset
  | deviceResetFire
  | darkReached
  | darkExitDone
  | darkReturnTimer
  | partnerTrainTimeout
  | vauxLoss
  | refclkCoreLoss
  | refclkCoreReturn
  deriving DecidableEq, Repr

end Sys2Proof
end

