-- ==== Sys2Proof/Decode.lean ====
section
/-! DEFINITION. Reading a command from a word: the opcode table gives its rows no bits, so no word spells a command. -/

namespace Sys2Proof

/-- spec/opcode_table.json gives no row a bit, so no word of any length spells a command of this block. -/
def decodeTableWord (_nbits _w : Nat) : Option Instr := none

end Sys2Proof
end

