-- ==== Sys2Proof/Machine/Maps.lean ====
section
/-! DEFINITION. Sparse maps in canonical form, byte lists, rounding and the two CRCs: the plain operations every family uses. -/

namespace Sys2Proof.Machine

/-- The value listed at key `k`, if any. -/
def SMap.find {α : Type} (k : Nat) : SMap α → Option α
  | [] => none
  | (j, v) :: r => if j = k then some v else SMap.find k r

/-- The value at key `k`; an unlisted key reads as `d k`. -/
def SMap.get {α : Type} (d : Nat → α) (m : SMap α) (k : Nat) : α := (SMap.find k m).getD (d k)

/-- `m` without key `k`. -/
def SMap.del {α : Type} (k : Nat) : SMap α → SMap α
  | [] => []
  | (j, v) :: r => if j = k then SMap.del k r else (j, v) :: SMap.del k r

/-- `m` with `v` listed at key `k`. -/
def SMap.ins {α : Type} (k : Nat) (v : α) : SMap α → SMap α
  | [] => [(k, v)]
  | (j, w) :: r => if j = k then (k, v) :: r else if k < j then (k, v) :: (j, w) :: r else (j, w) :: SMap.ins k v r

/-- `m` with value `v` at key `k`, in canonical form: a value equal to what an unlisted key reads as is not listed. -/
def SMap.set {α : Type} [DecidableEq α] (d : Nat → α) (m : SMap α) (k : Nat) (v : α) : SMap α :=
  if v = d k then SMap.del k m else SMap.ins k v m

/-- The canonical form: keys strictly rising, no entry equal to what an unlisted key reads as. -/
abbrev SMap.wf {α : Type} (d : Nat → α) (m : SMap α) : Prop :=
  m.Pairwise (fun a b => a.1 < b.1) ∧ ∀ e ∈ m, e.2 ≠ d e.1

/-- The bytes `l` written from address `a` up. -/
def putBytes (d : Nat → Byte) : SMap Byte → Nat → List Byte → SMap Byte
  | m, _, [] => m
  | m, a, b :: r => putBytes d (SMap.set d m a b) (a + 1) r

/-- The `n` bytes from address `a` up. -/
def takeBytes (d : Nat → Byte) (m : SMap Byte) (a : Nat) : Nat → List Byte
  | 0 => []
  | n + 1 => SMap.get d m a :: takeBytes d m (a + 1) n

/-- The `n` bytes of `v`, least significant first (R50). -/
def leBytes (v : Nat) : Nat → List Byte
  | 0 => []
  | n + 1 => BitVec.ofNat 8 v :: leBytes (v / 256) n

/-- The number whose bytes, least significant first, are `l` (R50). -/
def ofLE : List Byte → Nat
  | [] => 0
  | b :: r => b.toNat + 256 * ofLE r

/-- Byte memory of which nothing has been written reads zero. -/
abbrev zeroByte : Nat → Byte := fun _ => 0#8

/-- A value placed at bit `lo`. -/
abbrev at' (lo v : Nat) : Nat := v <<< lo

/-- A truth value as a bit. -/
abbrev b2n (b : Bool) : Nat := if b then 1 else 0

/-- An 8-bit shift of the CRC-8 register (R92). -/
def crc8Step (c : Nat) : Nat := let d := c * 2 % 256; if c < 128 then d else d ^^^ 0x07

def crc8Byte (c : Nat) (b : Byte) : Nat :=
  crc8Step <| crc8Step <| crc8Step <| crc8Step <| crc8Step <| crc8Step <| crc8Step <| crc8Step (c ^^^ b.toNat)

/-- The CRC-8 of R92: polynomial 0x07, initial value 0x00, no reflection, no final XOR. -/
def crc8 (l : List Byte) : Nat := l.foldl crc8Byte 0

def crc32Step (c : Nat) : Nat := if c % 2 = 1 then (c / 2) ^^^ 0x82F63B78 else c / 2

def crc32Byte (c : Nat) (b : Byte) : Nat :=
  crc32Step <| crc32Step <| crc32Step <| crc32Step <| crc32Step <| crc32Step <| crc32Step <| crc32Step (c ^^^ b.toNat)

/-- The CRC-32C of R92, reflected, initial value and final XOR all ones. -/
def crc32c (l : List Byte) : Nat := l.foldl crc32Byte 0xFFFFFFFF ^^^ 0xFFFFFFFF

/-- `n / d` rounded to the nearest integer, ties towards plus infinity (R469). -/
def rdiv (n : Int) (d : Nat) : Int := (2 * n + d) / (2 * (d : Int))

/-- The same on naturals. -/
def rdivN (n d : Nat) : Nat := (2 * n + d) / (2 * d)

/-- `n / d` rounded up. -/
def cdiv (n d : Nat) : Nat := (n + d - 1) / d

/-- `v` limited to `lo..hi`. -/
def clampI (lo hi v : Int) : Int := max lo (min hi v)

/-- A count that stays at its largest 32-bit value. -/
def sat32 (n : Nat) : Nat := min n 0xFFFFFFFF

/-- A count that wraps at 32 bits. -/
abbrev wrap32 (n : Nat) : Nat := n % 0x100000000

/-- A signed value as its 64-bit two's complement (R67). -/
def toU64 (v : Int) : Nat := (v % 0x10000000000000000).toNat

/-- The signed value of a 64-bit two's complement (R67). -/
def toS64 (v : Nat) : Int := if v < 0x8000000000000000 then v else (v : Int) - 0x10000000000000000

/-- An `n`-bit two's complement field as a signed value. -/
def signed (n v : Nat) : Int := if v % 2 ^ n < 2 ^ (n - 1) then (v % 2 ^ n : Nat) else (v % 2 ^ n : Nat) - (2 ^ n : Nat)

/-- A signed value as an `n`-bit two's complement field. -/
def unsigned (n : Nat) (v : Int) : Nat := (v % (2 ^ n : Nat)).toNat

/-- How many of the `n` lowest bits of `m` are 1. -/
def popcount (m : Nat) : Nat → Nat
  | 0 => 0
  | n + 1 => popcount m n + (if m.testBit n then 1 else 0)

/-- `m` with bit `i` set. -/
abbrev setBit (m i : Nat) : Nat := m ||| (1 <<< i)

/-- `m` with bit `i` clear. -/
def clrBit (m i : Nat) : Nat := if m.testBit i then m ^^^ (1 <<< i) else m

/-- The first of `0 .. n-1` that satisfies `p`. -/
def firstBelow (p : Nat → Bool) (n : Nat) : Option Nat := (List.range n).find? p

/-- `l` with the element at `i` changed by `f`. -/
def modAt {α : Type} (f : α → α) : Nat → List α → List α
  | _, [] => []
  | 0, a :: r => f a :: r
  | n + 1, a :: r => a :: modAt f n r

/-- `l` split into pieces of `n` elements. -/
def piecesOf {α : Type} (n : Nat) : Nat → List α → List (List α)
  | 0, _ => []
  | k + 1, l => l.take n :: piecesOf n k (l.drop n)

end Sys2Proof.Machine
end

