-- ==== Sys2Proof/Machine/RawMath.lean ====
section
/-! DEFINITION. The arithmetic of the raw pipeline: black level, recording tap, defect correction, noise reduction, lens shading, white balance,
demosaic and the statistics (R116 to R144), as functions of a frame and the parameters in force. -/

namespace Sys2Proof.Machine

/-- A frame of values, line by line. -/
abbrev Img := List (List Int)

/-- The value at column `x` of line `y`, inside the frame. -/
def Img.at (im : Img) (x y : Nat) : Int := (im.getD y []).getD x 0

/-- Reflection of a coordinate at the edges of `0 .. n-1`, the edge not repeated, as often as it takes to come inside (R120, R160). -/
def reflect (n : Nat) (i : Int) : Nat :=
  if n ≤ 1 then 0
  else
    let r := (i % (2 * ((n : Int) - 1))).toNat
    if r < n then r else 2 * (n - 1) - r

/-- The value at a window position, reflected outside the frame (R120). -/
def Img.px (im : Img) (w h : Nat) (x y : Int) : Int := im.at (reflect w x) (reflect h y)

/-- A frame of `w` by `h` values, each from its column and line. -/
def mkImg (w h : Nat) (f : Nat → Nat → Int) : Img := (List.range h).map fun y => (List.range w).map fun x => f x y

/-- Saturation to S25 (R117). -/
def sat25 (v : Int) : Int := clampI (-0x1000000) 0xFFFFFF v

/-- A sensor's format (Table 3-5). -/
structure Format where
  bits : Nat := 0
  cfa : Nat := 0
  embed : Nat := 0
  width : Nat := 0
  height : Nat := 0
  total : Nat := 0
  line0 : Nat := 0
  /-- Frame period in ps. -/
  period : Nat := 0
  deriving DecidableEq, Repr

/-- The channel of the photosite at column `x`, line `y` (Table 4-2): 0 R, 1 Gr, 2 Gb, 3 B. -/
def channelOf (cfa x y : Nat) : Nat :=
  let q := 2 * (y % 2) + x % 2
  match cfa with
  | 0 => q
  | 1 => [1, 0, 3, 2].getD q 0
  | 2 => [2, 3, 0, 1].getD q 0
  | 3 => [3, 2, 1, 0].getD q 0
  | _ => 0

/-- The parameters of a pipeline in force for a frame (Table 4-12) and its tables. -/
structure RawCfg where
  stageEn : Nat
  black : List Nat
  white : Nat
  pedestal : Nat
  dynK : Nat
  defects : List (Nat × Nat)
  nsig : List Nat
  strength : Nat
  spatialW : List Nat
  rangeLut : List Nat
  alphaLut : List Nat
  gridW : Nat
  gridH : Nat
  log2Sx : Nat
  log2Sy : Nat
  /-- The gain of node `n`, channel `c` stands at 4n + c. -/
  gains : List Nat
  wb : List Nat
  dmMode : Nat
  edgeRatio : Nat

/-- The derived black level gain of channel `c` (R122). -/
def blackGain (k : RawCfg) (c : Nat) : Int := rdiv ((2 : Int) ^ 36) ((k.white : Int) - (k.black.getD c 0)).toNat

/-- The photosite code left-justified to 16 bits (R122). -/
def in16 (bits code : Nat) : Nat := code <<< (16 - bits)

/-- The black level stage (R122). -/
def blackStage (k : RawCfg) (bits c code : Nat) : Int :=
  let d := (in16 bits code : Int) - k.black.getD c 0
  sat25 ((d * blackGain k c + 0x8000) / 65536)

/-- The recording tap (R124). -/
def tapCode (k : RawCfg) (bits c code : Nat) : Nat :=
  (clampI 0 (2 ^ bits - 1) (((in16 bits code : Int) - k.black.getD c 0 + k.pedestal) / 2 ^ (16 - bits))).toNat

/-- The noise model (R128), in units of 2^-16. -/
def noiseSigma (nsig : List Nat) (v : Int) : Int :=
  let u := (clampI 0 0xFFFFF v).toNat
  let i := u >>> 14
  let f := u % 0x4000
  let a : Int := nsig.getD i 0
  a + (((nsig.getD (i + 1) 0 : Int) - a) * f) / 0x4000

/-- The rounded mean of two middle values or the middle one (R127). -/
def median (l : List Int) : Int :=
  let s := l.mergeSort (fun a b => decide (a ≤ b))
  let n := s.length
  if n % 2 = 1 then s.getD (n / 2) 0 else rdiv (s.getD (n / 2 - 1) 0 + s.getD (n / 2) 0) 2

/-- Dynamic defect correction of the photosite at column `x` of a line (R127): the value, and whether it was replaced.
Photosites are in units of 2^-20 and σ of 2^-16, so K × σ is DPC_DYN_K × σ. -/
def dynamicFix (k : RawCfg) (step : Nat) (listed : Nat → Bool) (row : List Int) (x : Nat) : Int × Bool :=
  let p := row.getD x 0
  let cols := (if 2 * step ≤ x then [x - 2 * step] else []) ++ (if step ≤ x then [x - step] else []) ++ [x + step, x + 2 * step]
  let n := ((cols.filter fun i => decide (i < row.length) && !listed i).map fun i => row.getD i 0)
  match n with
  | a :: b :: r =>
    let mx := (b :: r).foldl max a
    let mn := (b :: r).foldl min a
    let hot := p > mx + k.dynK * noiseSigma k.nsig mx
    let cold := p < mn - k.dynK * noiseSigma k.nsig (max mn 0)
    if hot ∨ cold then (median n, true) else (p, false)
  | _ => (p, false)

/-- Static correction of a listed photosite (R125): the mean of the good members of the first pair that has any. -/
def staticFix (step : Nat) (bad : Nat → Bool) (row : List Int) (x : Nat) : Int :=
  let good := fun (i : Nat) => decide (i < row.length) && !bad i
  let pair := fun (d : Nat) => ((if d ≤ x then [x - d] else []) ++ [x + d]).filter good |>.map fun i => row.getD i 0
  match pair step with
  | [] => match pair (2 * step) with
    | [] => row.getD x 0
    | [a] => a
    | a :: b :: _ => rdiv (a + b) 2
  | [a] => a
  | a :: b :: _ => rdiv (a + b) 2

/-- Defect correction of line `y` (R125, R127): the line, and how many photosites the list and the test corrected. -/
def defectLine (k : RawCfg) (mono : Bool) (y : Nat) (row : List Int) : List Int × Nat × Nat :=
  let step := if mono then 1 else 2
  let static := k.stageEn.testBit 0
  let dynamic := k.stageEn.testBit 1
  let xs := if static then (k.defects.filter fun d => d.2 == y && decide (d.1 < row.length)).map Prod.fst else []
  let listed := fun (i : Nat) => xs.contains i
  let dyn := (List.range row.length).map fun x =>
    if dynamic && !listed x then dynamicFix k step listed row x else (row.getD x 0, false)
  let bad := fun (i : Nat) => listed i || (dyn.getD i (0, false)).2
  ((List.range row.length).map fun x => if listed x then staticFix step bad row x else (dyn.getD x (0, false)).1,
    xs.length, (dyn.filter fun e => e.2).length)

/-- The distance class of a window offset (R129). -/
def distClass (dx dy : Int) : Nat :=
  let a := dx.natAbs
  let b := dy.natAbs
  if a = 0 ∧ b = 0 then 0 else if a + b = 1 then 1 else if a = 1 ∧ b = 1 then 2
  else if a + b = 2 then 3 else if a + b = 3 then 4 else 5

/-- The distance classes that a site of channel `c` uses (R129). -/
def classUsed (mono : Bool) (c cls : Nat) : Bool :=
  mono || cls == 0 || cls == 3 || cls == 5 || (cls == 2 && (c == 1 || c == 2))

/-- The offsets of the 5 × 5 window. -/
def window5 : List (Int × Int) :=
  ([-2, -1, 0, 1, 2] : List Int).flatMap fun dy => ([-2, -1, 0, 1, 2] : List Int).map fun dx => (dx, dy)

/-- Spatial noise reduction of the photosite at (x, y) (R129). -/
def spatialNr (k : RawCfg) (mono : Bool) (c : Nat) (im : Img) (w h x y : Nat) : Int :=
  let pc := im.at x y
  let sigma := noiseSigma k.nsig (max pc 0)
  let acc := (window5.filter fun d => classUsed mono c (distClass d.1 d.2)).foldl (init := ((0, 0) : Int × Int)) fun a d =>
    let p := im.px w h (x + d.1) (y + d.2)
    let kk := min ((p - pc).natAbs / (2 * sigma).toNat) 31
    let wt : Int := (k.spatialW.getD (distClass d.1 d.2) 0 * k.rangeLut.getD kk 0 : Nat)
    (a.1 + wt * p, a.2 + wt)
  let f := if acc.2 = 0 then pc else rdiv acc.1 acc.2.toNat
  sat25 (pc + (k.strength * (f - pc) + 128) / 256)

/-- A stored reference value decoded (R131). -/
def refDecode (r16 : Nat) : Int := (r16 : Int) * 32 - 0x10000

/-- A blended value encoded for the reference (R130). -/
def refEncode (out : Int) : Nat := (clampI 0 0xFFFF ((out + 0x10010) / 32)).toNat

/-- The blend of R130 with a valid, timely reference: `s` and `r` at x-k, x, x+k. -/
def tnrBlend (k : RawCfg) (sl s sr rl r rr : Int) : Int :=
  let d := ((sl - rl).natAbs + 2 * (s - r).natAbs + (sr - rr).natAbs) / 4
  let sig := (noiseSigma k.nsig (max s 0)).toNat
  let a : Int := k.alphaLut.getD (min (d / sig) 63) 0
  sat25 (r + (a * (s - r) + 0x4000) / 0x8000)

/-- Lens shading gain at (x, y) of channel `c`, unsigned 4.12 (R135). -/
def lensGain (k : RawCfg) (c x y : Nat) : Int :=
  let sx := 2 ^ k.log2Sx
  let sy := 2 ^ k.log2Sy
  let i := min (x / sx) (k.gridW - 2)
  let j := min (y / sy) (k.gridH - 2)
  let fx := min (x - i * sx) sx
  let fy := min (y - j * sy) sy
  let g := fun (a b : Nat) => k.gains.getD (4 * (b * k.gridW + a) + c) 0
  ((g i j * (sx - fx) * (sy - fy) + g (i + 1) j * fx * (sy - fy) + g i (j + 1) * (sx - fx) * fy + g (i + 1) (j + 1) * fx * fy
    + sx * sy / 2) / (sx * sy) : Nat)

/-- Lens shading (R135). -/
def lensStage (k : RawCfg) (c x y : Nat) (v : Int) : Int := sat25 ((v * lensGain k c x y + 0x800) / 4096)

/-- White balance (R136). -/
def wbStage (k : RawCfg) (c : Nat) (v : Int) : Int := sat25 ((v * k.wb.getD c 0 + 0x8000) / 65536)

/-- An L24 component (R139). -/
def toL24 (v : Int) : Nat := (clampI 0 0xFFFFFF v).toNat

/-- Green at an R or B site, edge-directed (R137). -/
def greenEdge (k : RawCfg) (p : Int → Int → Int) : Int :=
  let c := p 0 0
  let gh := (2 * (p (-1) 0 + p 1 0) + 2 * c - p (-2) 0 - p 2 0 + 2) / 4
  let gv := (2 * (p 0 (-1) + p 0 1) + 2 * c - p 0 (-2) - p 0 2 + 2) / 4
  let dh := (p (-1) 0 - p 1 0).natAbs + (2 * c - p (-2) 0 - p 2 0).natAbs
  let dv := (p 0 (-1) - p 0 1).natAbs + (2 * c - p 0 (-2) - p 0 2).natAbs
  if 128 * dh < k.edgeRatio * dv then gh else if 128 * dv < k.edgeRatio * dh then gv else (gh + gv + 1) / 2

/-- The kernels of Table 4-6, coefficients × 16, line by line. -/
def kernelA : List Int := [0, 0, 1, 0, 0, 0, -2, 0, -2, 0, -2, 8, 10, 8, -2, 0, -2, 0, -2, 0, 0, 0, 1, 0, 0]
def kernelB : List Int := [0, 0, -2, 0, 0, 0, -2, 8, -2, 0, 1, 0, 10, 0, 1, 0, -2, 8, -2, 0, 0, 0, -2, 0, 0]
def kernelC : List Int := [0, 0, -3, 0, 0, 0, 4, 0, 4, 0, -3, 0, 12, 0, -3, 0, 4, 0, 4, 0, 0, 0, -3, 0, 0]

/-- A kernel applied at a site (R138). -/
def applyKernel (ker : List Int) (p : Int → Int → Int) : Int :=
  ((List.zip window5 ker).foldl (fun a e => a + e.2 * p e.1.1 e.1.2) 0 + 8) / 16

/-- The R, G and B of a site of channel `c` from its neighbourhood (R137 to R139). -/
def demosaicSite (k : RawCfg) (mono : Bool) (c : Nat) (p : Int → Int → Int) : Nat × Nat × Nat :=
  let v := p 0 0
  if mono then (toL24 v, toL24 v, toL24 v)
  else if k.dmMode = 1 then
    let row := rdiv (p (-1) 0 + p 1 0) 2
    let col := rdiv (p 0 (-1) + p 0 1) 2
    let diag := rdiv (p (-1) (-1) + p 1 (-1) + p (-1) 1 + p 1 1) 4
    let g4 := rdiv (p (-1) 0 + p 1 0 + p 0 (-1) + p 0 1) 4
    if c = 0 then (toL24 v, toL24 g4, toL24 diag)
    else if c = 3 then (toL24 diag, toL24 g4, toL24 v)
    else if c = 1 then (toL24 row, toL24 v, toL24 col)
    else (toL24 col, toL24 v, toL24 row)
  else
    if c = 0 then (toL24 v, toL24 (greenEdge k p), toL24 (applyKernel kernelC p))
    else if c = 3 then (toL24 (applyKernel kernelC p), toL24 (greenEdge k p), toL24 v)
    else if c = 1 then (toL24 (applyKernel kernelA p), toL24 v, toL24 (applyKernel kernelB p))
    else (toL24 (applyKernel kernelB p), toL24 v, toL24 (applyKernel kernelA p))

/-- The photosites of a LINE payload (R93). -/
def unpackLine (bits width : Nat) (payload : List Byte) : List Nat :=
  let v := ofLE payload
  (List.range width).map fun j => (v >>> (j * bits)) % 2 ^ bits

/-- Photosites packed in the bit order of R93. -/
def packLine (bits : Nat) (l : List Nat) : Nat := (l.zipIdx).foldl (fun a e => a + (e.1 <<< (e.2 * bits))) 0

end Sys2Proof.Machine
end

