-- ==== Sys2Proof/Machine/BlockCodec.lean ====
section
/-! DEFINITION. The compressed block format of recording: prediction, tokens, encoder and decompressor (R322 to R328). -/

namespace Sys2Proof.Machine

/-- A block header's fields (Table 10-7). -/
structure BlockHdr where
  version : Nat := 1
  kind : Nat
  bits : Nat
  lines : Nat
  width : Nat
  bayer : Nat
  predictor : Nat
  k0 : Nat
  payloadLen : Nat
  dcrc : Nat
  deriving DecidableEq, Repr

/-- DECODED_LEN (R322). -/
def BlockHdr.decodedLen (h : BlockHdr) : Nat := h.lines * h.width * h.bits / 8

/-- The 16 header bytes. -/
def BlockHdr.bytes (h : BlockHdr) : List Byte :=
  leBytes (h.version * 16 + h.kind) 1 ++ leBytes h.bits 1 ++ leBytes h.lines 2 ++ leBytes h.width 2 ++ leBytes (h.bayer * 4 + h.predictor) 1
    ++ leBytes h.k0 1 ++ leBytes h.payloadLen 4 ++ leBytes h.dcrc 4

/-- The fields of 16 header bytes, and whether a reserved field is not 0. -/
def readBlockHdr (l : List Byte) : BlockHdr × Bool :=
  let v := ofLE (l.take 16)
  ({ version := bits v 4 4, kind := bits v 0 4, bits := bits v 8 8, lines := bits v 16 16, width := bits v 32 16, bayer := bits v 50 1
     predictor := bits v 48 2, k0 := bits v 56 8, payloadLen := bits v 64 32, dcrc := bits v 96 32 }, bits v 51 5 != 0)

/-! ### Prediction (R323) -/

/-- The prediction from the neighbours inside the block. -/
def predict (bits predictor : Nat) (a b : Option Nat) (c : Nat) : Nat :=
  match a, b with
  | none, none => 2 ^ (bits - 1)
  | some a, none => a
  | none, some b => b
  | some a, some b =>
    if predictor = 0 then a else if predictor = 1 then b else if predictor = 2 then (a + b) / 2
    else if max a b ≤ c then min a b else if c ≤ min a b then max a b else a + b - c

/-- The prediction of column `x` given the line so far, newest first, and the line `k` above, if any. -/
def predictAt (bits predictor k : Nat) (left : List Nat) (above : Option (List Nat)) (x : Nat) : Nat :=
  let a := if k ≤ x then left[k - 1]? else none
  let b := above.bind fun r => r[x]?
  let c := match above with
    | some r => if k ≤ x then r.getD (x - k) 0 else 0
    | none => 0
  predict bits predictor a b c

/-- The residual *u* of a value against its prediction, and |*r*|. -/
def residual (bits v pred : Nat) : Nat × Nat :=
  let e := (v + 2 ^ bits - pred) % 2 ^ bits
  if 2 ^ (bits - 1) ≤ e then (2 * (2 ^ bits - e) - 1, 2 ^ bits - e) else (2 * e, e)

/-- The value of a residual *u* against its prediction. -/
def unresidual (bits u pred : Nat) : Nat :=
  if u % 2 = 1 then (pred + 2 ^ bits - (u + 1) / 2 % 2 ^ bits) % 2 ^ bits else (pred + u / 2) % 2 ^ bits

/-- The residuals of a line. -/
def lineResiduals (bits predictor k : Nat) (above : Option (List Nat)) : List Nat → List Nat → Nat → List (Nat × Nat)
  | [], _, _ => []
  | v :: r, left, x => residual bits v (predictAt bits predictor k left above x) :: lineResiduals bits predictor k above r (v :: left) (x + 1)

/-- The residuals of a block's lines, in line order. -/
def blockResiduals (bits predictor k : Nat) (lines : List (List Nat)) : List (Nat × Nat) :=
  (List.range lines.length).flatMap fun y =>
    lineResiduals bits predictor k (if k ≤ y then lines[y - k]? else none) (lines.getD y []) [] 0

/-- The values of a line from its residuals. -/
def lineValues (bits predictor k : Nat) (above : Option (List Nat)) : List Nat → List Nat → Nat → List Nat
  | [], left, _ => left.reverse
  | u :: r, left, x => lineValues bits predictor k above r (unresidual bits u (predictAt bits predictor k left above x) :: left) (x + 1)

/-- The lines of a block from its residuals, line by line; `done` holds the lines so far, newest first. -/
def blockValues (bits predictor k width : Nat) : Nat → List Nat → List (List Nat) → List (List Nat)
  | 0, _, done => done.reverse
  | n + 1, us, done =>
    blockValues bits predictor k width n (us.drop width) (lineValues bits predictor k done[k - 1]? (us.take width) [] 0 :: done)

/-! ### Tokens (R324, R325) -/

/-- The `n` bits of `v`, most significant first. -/
def msbBits (v : Nat) : Nat → List Bool
  | 0 => []
  | n + 1 => v.testBit n :: msbBits v n

/-- A Rice code; an escape carries the value in `esc` bits. -/
def riceBits (v k esc : Nat) : List Bool :=
  if v / 2 ^ k < 24 then List.replicate (v / 2 ^ k) true ++ false :: msbBits v k else List.replicate 24 true ++ msbBits v esc

/-- The dictionary with entry `i` moved to the front. -/
def toFront (i : Nat) (d : List (List Nat)) : List (List Nat) := d.getD i [] :: d.eraseIdx i

/-- The parameter after a LITERAL. -/
def nextK (bits : Nat) (q : List Nat) : Nat :=
  let m := (q.sum + 2) / 4
  if m = 0 then 0 else min (Nat.log2 m) (bits - 1)

/-- The coder's state: the dictionary and *k*. -/
structure Coder where
  dict : List (List Nat) := List.replicate 16 [0, 0, 0, 0]
  k : Nat
  deriving DecidableEq, Repr

def Coder.literal (bits : Nat) (q : List Nat) (c : Coder) : Coder := { dict := q :: c.dict.take 15, k := nextK bits q }

/-- The tokens of the quads (R326): `run` zero quads stand before them. -/
def encodeQuads (bits : Nat) : List (List Nat) → Nat → Coder → List Bool × Coder
  | [], run, c => (if run = 0 then [] else true :: true :: riceBits (run - 1) 3 16, c)
  | q :: r, run, c =>
    if q = [0, 0, 0, 0] then encodeQuads bits r (run + 1) c
    else
      let pre := if run = 0 then [] else true :: true :: riceBits (run - 1) 3 16
      match c.dict.findIdx? (· == q) with
      | some i =>
        let t := encodeQuads bits r 0 { c with dict := toFront i c.dict }
        (pre ++ (true :: false :: msbBits i 4) ++ t.1, t.2)
      | none =>
        let t := encodeQuads bits r 0 (c.literal bits q)
        (pre ++ (false :: q.flatMap fun v => riceBits v c.k bits) ++ t.1, t.2)

/-- Bits packed most significant first into bytes, the last byte filled with zeros. -/
def packBits (l : List Bool) : List Byte :=
  (piecesOf 8 (cdiv l.length 8) l).map fun c => BitVec.ofNat 8 ((List.range 8).foldl (fun a i => a * 2 + b2n (c.getD i false)) 0)

/-- The bits of bytes, most significant first. -/
def unpackBits (l : List Byte) : List Bool := l.flatMap fun b => msbBits b.toNat 8

/-- A Rice code read from the front: the value, and the bits after it; none where the bits end or an escape breaks R324. -/
def readRice (k esc : Nat) (l : List Bool) : Option (Nat × List Bool) :=
  let q := ((l.take 24).takeWhile id).length
  let num := fun (t : List Bool) (n : Nat) => (t.take n).foldl (fun a b => a * 2 + b2n b) 0
  if q < 24 then
    let t := l.drop (q + 1)
    if l.length < q + 1 ∨ t.length < k then none else some (q * 2 ^ k + num t k, t.drop k)
  else
    let t := l.drop 24
    let v := num t esc
    if t.length < esc ∨ v / 2 ^ k < 24 then none else some (v, t.drop esc)

/-- The quads of a payload: those decoded, and whether the stream was sound. `n` quads are to be defined. -/
def decodeQuads (bits : Nat) : Nat → Nat → List Bool → Coder → List (List Nat) × Bool
  | _, 0, _, _ => ([], true)
  | 0, _ + 1, _, _ => ([], false)
  | fuel + 1, n + 1, l, c =>
    match l with
    | false :: l1 =>
      match readRice c.k bits l1 with
      | none => ([], false)
      | some (a, l2) => match readRice c.k bits l2 with
        | none => ([], false)
        | some (b, l3) => match readRice c.k bits l3 with
          | none => ([], false)
          | some (d, l4) => match readRice c.k bits l4 with
            | none => ([], false)
            | some (e, l5) =>
              let t := decodeQuads bits fuel n l5 (c.literal bits [a, b, d, e])
              ([a, b, d, e] :: t.1, t.2)
    | true :: false :: l1 =>
      if l1.length < 4 then ([], false)
      else
        let i := (l1.take 4).foldl (fun a b => a * 2 + b2n b) 0
        let t := decodeQuads bits fuel n (l1.drop 4) { c with dict := toFront i c.dict }
        (c.dict.getD i [0, 0, 0, 0] :: t.1, t.2)
    | true :: true :: l1 =>
      match readRice 3 16 l1 with
      | none => ([], false)
      | some (v, l2) =>
        if n < v then ([], false)
        else
          let t := decodeQuads bits fuel (n - v) l2 c
          (List.replicate (v + 1) [0, 0, 0, 0] ++ t.1, t.2)
    | _ => ([], false)

/-! ### Blocks (R322, R326 to R328) -/

/-- Lines packed in the order of the tap (R93, R124). -/
def tapBytes (bits : Nat) (lines : List (List Nat)) : List Byte :=
  lines.flatMap fun l => leBytes (packLine bits l) (l.length * bits / 8)

/-- What one block hands to the next of its frame: the predictor and K0. -/
structure BlockCarry where
  predictor : Nat := 3
  k0 : Nat := 4
  deriving DecidableEq, Repr

/-- One block encoded: its stored bytes, padded to 16, whether it is RAW, and what the next block takes over. -/
def encodeBlock (bits cfa : Nat) (lines : List (List Nat)) (c : BlockCarry) : List Byte × Bool × BlockCarry :=
  let bayer := if cfa ≤ 3 then 1 else 0
  let k := if bayer = 1 then 2 else 1
  let width := (lines.headD []).length
  let raw := tapBytes bits lines
  let us := (blockResiduals bits c.predictor k lines).map Prod.fst
  let enc := encodeQuads bits (piecesOf 4 (us.length / 4) us) 0 { k := c.k0 }
  let pay := packBits enc.1
  let sums := (List.range 4).map fun p => ((blockResiduals bits p k lines).map Prod.snd).sum
  let best := (List.range 4).foldl (fun b p => if sums.getD p 0 < sums.getD b 0 then p else b) 0
  let isRaw := decide (raw.length ≤ pay.length)
  let body := if isRaw then raw else pay
  let h : BlockHdr := { kind := b2n (!isRaw), bits := bits, lines := lines.length, width := width, bayer := bayer
                        predictor := if isRaw then 0 else c.predictor, k0 := if isRaw then 0 else c.k0, payloadLen := body.length, dcrc := crc32c raw }
  (h.bytes ++ body ++ List.replicate ((16 - body.length % 16) % 16) 0, isRaw, { predictor := best, k0 := enc.2.k })

/-- The blocks of a frame: `n` lines each. -/
def encodeBlocks (bits cfa n : Nat) : Nat → List (List Nat) → BlockCarry → List (List Byte × Bool)
  | 0, _, _ => []
  | fuel + 1, lines, c =>
    if lines.isEmpty then []
    else
      let b := encodeBlock bits cfa (lines.take n) c
      (b.1, b.2.1) :: encodeBlocks bits cfa n fuel (lines.drop n) b.2.2

/-- Lines in a block (R322). -/
def blockLines (bits width : Nat) : Nat := 65536 / max (width * bits / 8) 1

/-- The header check of R327 for a block that has `space` bytes. -/
def blockHdrOk (h : BlockHdr) (reserved : Bool) (space : Nat) : Bool :=
  h.version == 1 && decide (h.kind ≤ 1) && [10, 12, 14, 16].contains h.bits && h.width % 8 == 0 && decide (8 ≤ h.width ∧ h.width ≤ 12288)
    && decide (1 ≤ h.lines) && decide (h.decodedLen ≤ 65536) && decide (h.k0 < h.bits) && !reserved
    && (if h.kind = 0 then h.payloadLen == h.decodedLen else decide (h.payloadLen < h.decodedLen))
    && 16 + cdiv h.payloadLen 16 * 16 == space

/-- One block decoded: its tap bytes, and whether it is sound (R327, R328). -/
def decodeBlock (l : List Byte) : List Byte × Bool :=
  let r := readBlockHdr l
  let h := r.1
  if l.length < 16 ∨ !blockHdrOk h r.2 l.length then ((if h.decodedLen ≤ 65536 then List.replicate h.decodedLen 0 else []), false)
  else
    let pay := (l.drop 16).take h.payloadLen
    if h.kind = 0 then (pay, crc32c pay == h.dcrc)
    else
      let n := h.lines * h.width / 4
      let d := decodeQuads h.bits n n (unpackBits pay) { k := h.k0 }
      let us := d.1.flatten
      let vals := (blockValues h.bits h.predictor (if h.bayer = 1 then 2 else 1) h.width h.lines us []).flatten.take us.length
      let all := vals ++ List.replicate (h.lines * h.width - us.length) 0
      let out := tapBytes h.bits (piecesOf h.width h.lines all)
      (out, d.2 && crc32c out == h.dcrc)

end Sys2Proof.Machine
end

