-- ==== Sys2Proof/Config.lean ====
section
/-! DEFINITION. The free values of the model: opaque constants with no body that anything can evaluate, each named in a log entry. -/

namespace Sys2Proof

/-- A value the manual leaves open, fresh for each value of the free counter of `State` (log 1). -/
opaque Config.freeValue : Nat → Nat

/-- The number that the module's serial number is made of (Table 2-10, log 8). -/
opaque Config.serialSeed : Nat

/-- The module's serial number: some nonzero 64-bit value (Table 2-10, log 8). -/
def Config.serial : Nat := Config.serialSeed % 0xFFFFFFFFFFFFFFFF + 1

/-- The hash of a firmware key held in one-time-programmable memory, by key index (R81, log 7). -/
opaque Config.otpKeyHash : Nat → Nat

/-- Whether stepping B1 supports a release other than 4.1 (R83, log 7). -/
opaque Config.fwReleaseSupported : Nat → Bool

/-- The 32 bytes of FW_STATUS as a number, from the values that it gives: the manual does not state their layout (Table 2-9, log 12). -/
opaque Config.fwStatusLayout : List Nat → Nat

/-- The SECDED code over the 32 bytes of a granule: the manual does not state its matrix (R283, log 157). -/
opaque Config.secded : List Byte → Nat

/-- MiB of carve-out 0 that the running firmware uses; the manual says only that it never exceeds 2,048 (R276). -/
opaque Config.carve0Use : Nat → Nat

/-- Whether a firmware release other than 4.1 supports a table (R6, log 9). -/
opaque Config.fwSupportsTable : Nat → Nat → Bool

/-- Whether a firmware release other than 4.1 supports an opcode (R6, R62); this manual describes release 4.1 alone (log 9). -/
opaque Config.fwSupports : Nat → Nat → Bool

end Sys2Proof
end

