-- ==== Sys2Proof/Machine/FixMath.lean ====
section
/-! DEFINITION. IEEE 754 double precision for the curves and coefficients that Aipex generates (R162, R167, R188, R361): each operation is exact
and then rounded to 53 significant bits, ties to even; sines and powers are found in fixed point with 96 fraction bits and then rounded (log 11). -/

namespace Sys2Proof.Machine

/-- The unit of the fixed point values of this file. -/
abbrev fxOne : Int := 2 ^ 96

/-- A rational as a fixed point value. -/
def fxOf (n : Int) (d : Nat) : Int := n * fxOne / d

def fxMul (a b : Int) : Int := a * b / fxOne

def fxDiv (a b : Int) : Int := if b = 0 then 0 else a * fxOne / b

/-- π in fixed point. -/
def fxPi : Int := 248902613312231085230521944622

/-- ln 2 in fixed point. -/
def fxLn2 : Int := 54916777467707473351141471128

/-- Σ x^k/k! from term `k` on, `t` being the term before. -/
def fxExpTerms (x : Int) : Nat → Nat → Int → Int
  | 0, _, _ => 0
  | n + 1, k, t => let u := fxMul t x / k; u + fxExpTerms x n (k + 1) u

/-- e^x, with x reduced by a whole number of ln 2. -/
def fxExp (x : Int) : Int :=
  let k := x / fxLn2
  let r := x - k * fxLn2
  let y := fxOne + fxExpTerms r 40 1 fxOne
  if 0 ≤ k then y * 2 ^ k.toNat else y / 2 ^ (-k).toNat

/-- Σ z^(2i+1)/(2i+1), the odd powers of the area tangent. -/
def fxAtanhTerms (z2 : Int) : Nat → Nat → Int → Int
  | 0, _, _ => 0
  | n + 1, k, p => p / k + fxAtanhTerms z2 n (k + 2) (fxMul p z2)

/-- ln x for x > 0, with x reduced to 1 .. 2 by a power of 2. -/
def fxLn (x : Int) : Int :=
  let b : Int := x.toNat.log2
  let k := b - 96
  let m := if 0 ≤ k then x / 2 ^ k.toNat else x * 2 ^ (-k).toNat
  let z := fxDiv (m - fxOne) (m + fxOne)
  k * fxLn2 + 2 * fxAtanhTerms (fxMul z z) 40 1 z

/-- x^(n/d) for x ≥ 0. -/
def fxPow (x : Int) (n d : Nat) : Int := if x ≤ 0 then 0 else fxExp (fxLn x * n / d)

/-- The alternating series of the sine. -/
def fxSinTerms (x2 : Int) : Nat → Nat → Int → Int
  | 0, _, _ => 0
  | n + 1, k, t => t + fxSinTerms x2 n (k + 2) (-(fxMul t x2) / ((k + 1) * (k + 2)))

/-- sin(π x), x reduced to -1 .. 1. -/
def fxSinPi (x : Int) : Int :=
  let r := (x + fxOne) % (2 * fxOne) - fxOne
  let y := fxMul fxPi r
  fxSinTerms (fxMul y y) 30 1 y

/-! ### Double precision -/

/-- A double: the value `m / 2^k`. No value here is large or small enough to overflow or to lose bits below the normal range. -/
structure Dbl where
  m : Int
  k : Nat
  deriving DecidableEq, Repr

/-- `n / d` rounded to the nearest integer, ties to even. -/
def halfEven (n d : Nat) : Nat :=
  let q := n / d
  let r := n % d
  if d < 2 * r ∨ (2 * r = d ∧ q % 2 = 1) then q + 1 else q

/-- The position of the leading 1 of `n / d`, which is not 0. -/
def leadBit (n d : Nat) : Int :=
  let l : Int := (n.log2 : Int) - d.log2
  if n * 2 ^ (-l).toNat < d * 2 ^ l.toNat then l - 1 else l

/-- The double nearest to `n / d`. -/
def dRat (n : Int) (d : Nat) : Dbl :=
  let a := n.natAbs
  if a = 0 ∨ d = 0 then ⟨0, 0⟩
  else
    let s := 52 - leadBit a d
    let q := halfEven (a * 2 ^ s.toNat) (d * 2 ^ (-s).toNat) * 2 ^ (-s).toNat
    ⟨if n < 0 then -(q : Int) else q, s.toNat⟩

/-- An integer as a double; those here have at most 53 bits. -/
abbrev dNat (n : Nat) : Dbl := ⟨n, 0⟩

def dAdd (a b : Dbl) : Dbl := dRat (a.m * 2 ^ b.k + b.m * 2 ^ a.k) (2 ^ (a.k + b.k))

def dNeg (a : Dbl) : Dbl := ⟨-a.m, a.k⟩

def dSub (a b : Dbl) : Dbl := dAdd a (dNeg b)

def dMul (a b : Dbl) : Dbl := dRat (a.m * b.m) (2 ^ (a.k + b.k))

/-- Division; by 0 it gives 0. -/
def dDiv (a b : Dbl) : Dbl := dRat ((if b.m < 0 then -a.m else a.m) * 2 ^ b.k) (b.m.natAbs * 2 ^ a.k)

def dLt (a b : Dbl) : Bool := decide (a.m * 2 ^ b.k < b.m * 2 ^ a.k)

def dMin (a b : Dbl) : Dbl := if dLt b a then b else a

def dMax (a b : Dbl) : Dbl := if dLt a b then b else a

def dAbs (a : Dbl) : Dbl := ⟨a.m.natAbs, a.k⟩

/-- A double as a fixed point value. -/
def dFx (a : Dbl) : Int := a.m * fxOne / (2 ^ a.k : Nat)

/-- The double nearest to a fixed point value. -/
def dOfFx (x : Int) : Dbl := dRat x (2 ^ 96)

/-- x^y for x ≥ 0 and y > 0. -/
def dPow (x y : Dbl) : Dbl := if x.m ≤ 0 then ⟨0, 0⟩ else if x.m = 2 ^ x.k then ⟨1, 0⟩ else dOfFx (fxExp (fxMul (fxLn (dFx x)) (dFx y)))

/-- sin x. -/
def dSin (x : Dbl) : Dbl := dOfFx (fxSinPi (fxDiv (dFx x) fxPi))

/-- The double nearest to π. -/
def dPi : Dbl := ⟨884279719003555, 48⟩

/-- A double rounded to an integer, ties towards plus infinity (R469). -/
def dRound (a : Dbl) : Int := rdiv a.m (2 ^ a.k)

end Sys2Proof.Machine
end

