-- ==== Sys2Proof/Machine/ColourMath.lean ====
section
/-! DEFINITION. The arithmetic of colour: matrices, curves, the 3D LUT, the scaler, the output colour stage, uniformity cells, dither and
quantisation (R152 to R169). -/

namespace Sys2Proof.Machine

/-- A pixel of three L24 components, R, G, B. -/
structure Rgb where
  r : Nat := 0
  g : Nat := 0
  b : Nat := 0
  deriving DecidableEq, Repr

/-- A pixel from a function of the component number. -/
def Rgb.of (f : Nat → Nat) : Rgb := ⟨f 0, f 1, f 2⟩

/-- Component `c` of a pixel. -/
def Rgb.get (p : Rgb) (c : Nat) : Nat := if c = 0 then p.r else if c = 1 then p.g else p.b

/-- Saturation to L24 (R153). -/
def sat24 (v : Int) : Nat := (clampI 0 0xFFFFFF v).toNat

/-- Component `o` of a 3 × 3 matrix of s4.16 coefficients with an s4.20 offset, before saturation (R155). -/
def matrixRaw (coef offset : List Int) (p : Rgb) (o : Nat) : Int :=
  (coef.getD (3 * o) 0 * p.r + coef.getD (3 * o + 1) 0 * p.g + coef.getD (3 * o + 2) 0 * p.b + 0x8000) / 65536 + offset.getD o 0

/-- The matrix stage (R155, R165). -/
def matrixStage (coef offset : List Int) (p : Rgb) : Rgb := Rgb.of fun o => sat24 (matrixRaw coef offset p o)

/-- Some component of the matrix result saturates (R155). -/
def matrixClips (coef offset : List Int) (p : Rgb) : Bool :=
  (List.range 3).any fun o => let v := matrixRaw coef offset p o; decide (v < 0 ∨ 0xFFFFFF < v)

/-- The input value of entry `i` of a 4,096-entry curve (R156). -/
def curveNode (i : Nat) : Nat := if i < 256 then 2 * i else 2 ^ (i / 256 + 8) + (i % 256) * 2 ^ (i / 256)

/-- A curve of 4,096 entries at input `v` (R156). -/
def curveAt (e : Nat → Nat) (v : Nat) : Int :=
  let k := v.log2
  let seg : Nat := if v < 0x200 then 0 else k - 8
  let sh : Nat := if v < 0x200 then 1 else k - 8
  let pos : Nat := if v < 0x200 then v else v - 2 ^ k
  let i := seg * 256 + pos / 2 ^ sh
  let f := pos % 2 ^ sh
  let lo : Int := e i
  let hi : Int := if i = 4095 then e 4095 else e (i + 1)
  lo + ((hi - lo) * (f : Int) + ((2 ^ (sh - 1) : Nat) : Int)) / ((2 ^ sh : Nat) : Int)

/-- The 3D LUT of `n` nodes per axis, `c` giving the node values (R158). -/
def cubeStage (n : Nat) (c : Nat → Nat → Nat → Rgb) (p : Rgb) : Rgb :=
  let n1 := n - 1
  let sh := if n1 = 64 then 14 else 15
  let u := fun (k : Nat) => min (p.get k) 0x100000
  let i := fun (k : Nat) => min (u k / 2 ^ sh) (n1 - 1)
  let f : Nat → Nat := fun k => u k - i k * 2 ^ sh
  let at3 := fun (a b d : Nat) => c (i 0 + a) (i 1 + b) (i 2 + d)
  let (fr, fg, fb) := (f 0, f 1, f 2)
  let (v1, v2, x1, x2, x3) :=
    if fg ≤ fr ∧ fb ≤ fg then (at3 1 0 0, at3 1 1 0, fr, fg, fb)
    else if fb ≤ fr ∧ fg ≤ fb then (at3 1 0 0, at3 1 0 1, fr, fb, fg)
    else if fr ≤ fb ∧ fg ≤ fr then (at3 0 0 1, at3 1 0 1, fb, fr, fg)
    else if fr ≤ fg ∧ fb ≤ fr then (at3 0 1 0, at3 1 1 0, fg, fr, fb)
    else if fb ≤ fg ∧ fr ≤ fb then (at3 0 1 0, at3 0 1 1, fg, fb, fr)
    else (at3 0 0 1, at3 0 1 1, fb, fg, fr)
  let c0 := at3 0 0 0
  let c7 := at3 1 1 1
  Rgb.of fun k =>
    let z : Int := c0.get k
    sat24 (z + ((x1 : Int) * (v1.get k - z) + (x2 : Int) * ((v2.get k : Int) - v1.get k) + (x3 : Int) * ((c7.get k : Int) - v2.get k) + ((2 ^ (sh - 1) : Nat) : Int)) / ((2 ^ sh : Nat) : Int))

/-! ### Scaler (R160 to R163) -/

/-- sinc(x) = sin(πx)/(πx) (Table 5-6). -/
def dSinc (x : Dbl) : Dbl := if x.m = 0 then dNat 1 else let y := dMul dPi x; dDiv (dSin y) y

/-- A kernel of Table 5-6 at position `t`, its terms taken from left to right (log 11). -/
def kernelAt (code : Nat) (t : Dbl) : Dbl :=
  let a := dAbs t
  let c := fun (n d : Nat) (x : Dbl) => dMul (dRat n d) x
  let a2 := dMul a a
  let a3 := dMul a2 a
  match code with
  | 0 => if dLt a (dNat 1) then dSub (dNat 1) a else dNat 0
  | 1 =>
    if dLt a (dNat 1) then dAdd (dSub (c 3 2 a3) (c 5 2 a2)) (dNat 1)
    else if dLt a (dNat 2) then dAdd (dSub (dAdd (dNeg (c 1 2 a3)) (c 5 2 a2)) (c 4 1 a)) (dNat 2)
    else dNat 0
  | _ => if dLt a (dNat 3) then dMul (dSinc t) (dSinc (dDiv t (dNat 3))) else dNat 0

/-- The support of a kernel (Table 5-6). -/
def kernelSupport (code : Nat) : Nat := code + 1

/-- The index of the first largest element. -/
def argMax (l : List Dbl) : Nat := (l.zipIdx.foldl (fun (b : Dbl × Nat) e => if dLt b.1 e.1 then (e.1, e.2) else b) (l.headD (dNat 0), 0)).2

/-- The coefficients of phase `phi` for `taps` taps from offset `first` on, stretched by `s` (R162). -/
def scalerCoefs (code : Nat) (first : Int) (taps : Nat) (s : Dbl) (phi : Nat) : List Int :=
  let k := (List.range taps).map fun j => kernelAt code (dDiv (dRat (64 * (first + j) - phi) 64) s)
  let total := k.foldl dAdd (dNat 0)
  let c := k.map fun v => dRound (dDiv (dMul (dNat 1024) v) total)
  modAt (fun v => v + (1024 - c.sum)) (argMax k) c

/-- The stretch of the horizontal kernel (R162). -/
def scalerStretch (code step : Nat) : Dbl := dMin (dMax (dNat 1) (dRat step (2 ^ 20))) (dDiv (dNat 3) (dNat (kernelSupport code)))

/-- The geometry of a scaler in force: crop rectangle, output size, steps, kernels. -/
structure ScalerCfg where
  x0 : Nat := 0
  y0 : Nat := 0
  cropW : Nat := 0
  cropH : Nat := 0
  outW : Nat := 0
  outH : Nat := 0
  stepX : Nat := 0
  stepY : Nat := 0
  kerH : Nat := 1
  kerV : Nat := 1
  deriving DecidableEq, Repr

/-- The crop clamped to a frame of `w` by `h`, an empty result selecting the whole frame, and the output size and steps (R160). -/
def scalerGeometry (w h cx0 cy0 cx1 cy1 ow oh kerH kerV : Nat) : ScalerCfg :=
  let x1 := min cx1 w
  let y1 := min cy1 h
  let full := x1 ≤ cx0 ∨ y1 ≤ cy0
  let (x0, y0, cw, ch) := if full then (0, 0, w, h) else (cx0, cy0, x1 - cx0, y1 - cy0)
  let ow' := if ow = 0 then cw else ow
  let oh' := if oh = 0 then ch else oh
  { x0 := x0, y0 := y0, cropW := cw, cropH := ch, outW := ow', outH := oh'
    stepX := rdivN (2 ^ 20 * cw) ow', stepY := rdivN (2 ^ 20 * ch) oh', kerH := kerH, kerV := kerV }

/-- The limits of R163 that depend on the format; the frame period is in ps. -/
def scalerFits (k : ScalerCfg) (periodPs : Nat) : Bool :=
  decide (2 ^ 17 ≤ k.stepX ∧ k.stepX ≤ 2 ^ 23 ∧ 2 ^ 17 ≤ k.stepY ∧ k.stepY ≤ 2 ^ 22 ∧ k.outW ≤ 16384
    ∧ k.outW * k.outH * 10000 ≤ 96 * periodPs)

/-- The position of output sample `j`: integer part and phase (R160). -/
def scalerPos (start step j : Nat) : Int × Nat :=
  let pos : Int := (start : Int) * 2 ^ 20 + ((step : Int) - 2 ^ 20) / 2 + j * step
  (pos / 2 ^ 20, ((pos / 2 ^ 14) % 64).toNat)

/-- One output pixel of the scaler from a frame of pixels (R161). -/
def scaledPixel (k : ScalerCfg) (src : Nat → Nat → Rgb) (x y : Nat) : Rgb :=
  let (ny, py) := scalerPos k.y0 k.stepY y
  let (nx, pxh) := scalerPos k.x0 k.stepX x
  let cv := scalerCoefs k.kerV (-2) 4 (dNat 1) py
  let ch := scalerCoefs k.kerH (-3) 8 (scalerStretch k.kerH k.stepX) pxh
  let row := fun (i : Int) => k.y0 + reflect k.cropH (i - k.y0)
  let col := fun (i : Int) => k.x0 + reflect k.cropW (i - k.x0)
  Rgb.of fun c =>
    let inter := fun (xx : Nat) =>
      (((List.range 4).foldl (fun a t => a + cv.getD t 0 * (src xx (row (ny - 2 + t))).get c) (0 : Int)) + 512) / 1024
    sat24 ((((List.range 8).foldl (fun a t => a + ch.getD t 0 * inter (col (nx - 3 + t))) (0 : Int)) + 512) / 1024)

/-! ### Output colour stage (R164 to R169) -/

/-- Entry `i` of the tone curve that Aipex generates (R167). -/
def toneEntry (white peak knee i : Nat) : Nat :=
  let one := dNat 1
  let w := dDiv (dNat white) (dNat peak)
  let k := dDiv (dNat knee) (dNat 1000)
  let a := dMul (dRat (curveNode i) (2 ^ 20)) w
  let x := dSub a k
  let y := if dLt k a then dAdd k (dDiv (dMul (dSub one k) x) (dSub (dAdd x one) k)) else a
  (dRound (dMul y (dNat (2 ^ 20)))).toNat

/-- The wall gamut matrix and phase gain (R165). -/
def wallStage (enabled : Bool) (coef : List Int) (gain : Nat) (p : Rgb) : Rgb :=
  let q := if enabled then matrixStage coef [] p else p
  Rgb.of fun c => sat24 (((q.get c : Int) * gain + 0x8000) / 65536)

/-- The tone map, per channel or max-RGB (R166). -/
def toneStage (mode : Nat) (t : Nat → Nat) (p : Rgb) : Rgb :=
  if mode = 0 then Rgb.of fun c => sat24 (curveAt t (p.get c))
  else
    let m := max p.r (max p.g p.b)
    if m = 0 then {}
    else Rgb.of fun c => sat24 (((p.get c : Int) * curveAt t m + m / 2) / m)

/-- A tile's uniformity binding in force (Table 5-9). -/
structure UnifBinding where
  base : Nat
  size : Nat
  interp : Bool
  deriving DecidableEq, Repr

/-- The cells that the pixel at tile-local (tx, ty) reads, with their weights out of (2 × cell size)² (R168). -/
def unifTaps (k : UnifBinding) (tileW tileH tx ty : Nat) : List (Nat × Nat) :=
  let cs := 2 ^ (3 + k.size)
  let cols := (tileW + cs - 1) / cs
  let rows := (tileH + cs - 1) / cs
  let d := 2 * cs
  if !k.interp then [(k.base + ty / cs * cols + tx / cs, d * d)]
  else
    let pos := fun (t n : Nat) => (clampI 0 (2 * cs * ((n : Int) - 1)) (2 * (t : Int) + 1 - cs)).toNat
    let p := pos tx cols
    let q := pos ty rows
    let i := min (p / d) (cols - 2)
    let j := min (q / d) (rows - 2)
    let fx := p - i * d
    let fy := q - j * d
    let tap := fun (a b : Nat) => (k.base + (j + b) * cols + (i + a), (if a = 0 then d - fx else fx) * (if b = 0 then d - fy else fy))
    [tap 0 0, tap 1 0, tap 0 1, tap 1 1].filter fun e => e.2 != 0

/-- The gain and offset of a component at a pixel that reads `taps`; `cell n` gives those of cell `n` (R168). -/
def unifAt (k : UnifBinding) (taps : List (Nat × Nat)) (cell : Nat → Nat × Int) : Nat × Int :=
  let l := 3 + k.size
  let g := (taps.map fun e => e.2 * (cell e.1).1).sum
  let o : Int := (taps.map fun e => (e.2 : Int) * (cell e.1).2).sum
  ((g + 2 ^ (2 * l + 1)) / 2 ^ (2 * l + 2), (o + 2 ^ (2 * l + 1)) / 2 ^ (2 * l + 2))

/-- Correction of one component (R168). -/
def unifApply (g : Nat) (o : Int) (v : Nat) : Nat := sat24 (((v : Int) * g + 0x2000) / 0x4000 + o)

/-- The ordered dither value at canvas position (x, y) (R169). -/
def orderedDither (temporal : Bool) (tag phase x y : Nat) : Int :=
  let t := tag * 4 + phase
  let ox := if temporal then t * 5 % 8 else 0
  let oy := if temporal then t * 3 % 8 else 0
  let xx := (x + ox) % 8
  let yy := (y + oy) % 8
  let a := xx ^^^ yy
  let b := yy
  let m := (a &&& 1) <<< 5 ||| (b &&& 1) <<< 4 ||| (a &&& 2) <<< 2 ||| (b &&& 2) <<< 1 ||| (a &&& 4) >>> 1 ||| (b &&& 4) >>> 2
  (2 * (m : Int) - 63) * 2 ^ 13

/-- One step of the random dither's LFSR (R169). -/
def lfsrStep (r : Nat) : Nat := if r % 2 = 1 then (r / 2) ^^^ 0x80200003 else r / 2

/-- `n` steps. -/
def lfsrSteps (r : Nat) : Nat → Nat
  | 0 => r
  | n + 1 => lfsrSteps (lfsrStep r) n

/-- The seed of a pixel lane at the start of a phase raster (R169). -/
def lfsrSeed (tag cv lane phase : Nat) : Nat :=
  let v := wrap32 (tag ^^^ (cv <<< 24) ^^^ (lane <<< 20) ^^^ (phase <<< 16))
  if v = 0 then 1 else v

/-- The random dither value of the LFSR state after a pixel's 32 steps (R169). -/
def randomDither (r : Nat) : Int := ((r % 65536 * 8 + r / 65536 * 8 : Nat) : Int) - 0x80000

/-- The drive code before clamping (R169). -/
def driveRaw (v : Nat) (dith : Int) : Int := ((v : Int) * 65535 + 0x80000 + dith) / 2 ^ 20

/-- The drive code (R169). -/
def driveCode (v : Nat) (dith : Int) : Nat := (clampI 0 65535 (driveRaw v dith)).toNat

end Sys2Proof.Machine
end

