-- ==== Sys2Proof/Machine/Params.lean ====
section
/-! DEFINITION. The parameter register file's description: one row for every parameter of Tables 1-4, 1-13, 2-14 and of the
parameter tables of chapters 03 to 15 (R66, R70), with its name, element count, width, access, whether it is
immediate, sign, lowest and highest value accepted, one further value accepted, and default. -/

namespace Sys2Proof.Machine

abbrev P.DEVICE_ID : Nat := 0x0000
abbrev P.STEPPING : Nat := 0x0001
abbrev P.FW_RELEASE : Nat := 0x0002
abbrev P.FW_ACTIVE_SLOT : Nat := 0x0003
abbrev P.FW_SECURITY_FLOOR : Nat := 0x0004
abbrev P.SERIAL : Nat := 0x0005
abbrev P.EVENT_QUOTA : Nat := 0x0008
abbrev P.EVENT_OVER_QUOTA : Nat := 0x0009
abbrev P.DEFER_TIMEOUT_US : Nat := 0x000A
abbrev P.RM_SOURCE : Nat := 0x0040
abbrev P.RM_REF_RATE_NUM : Nat := 0x0041
abbrev P.RM_REF_RATE_DEN : Nat := 0x0042
abbrev P.RM_ACCEPT_WIN : Nat := 0x0043
abbrev P.RM_RELOCK_EDGES : Nat := 0x0044
abbrev P.RM_SLEW_LIMIT : Nat := 0x0045
abbrev P.RM_STATE : Nat := 0x0046
abbrev P.RM_PHASE_ERR : Nat := 0x0047
abbrev P.RM_INVALID_TOTAL : Nat := 0x0048
abbrev P.TRIG_ARM : Nat := 0x0049
abbrev P.TRIG_TIME : Nat := 0x004A
abbrev P.TRIG_COUNT : Nat := 0x004B
abbrev P.BW_RESERVABLE_PCT : Nat := 0x0060
abbrev P.BW_RESERVED : Nat := 0x0061
abbrev P.BW_SHORTFALL : Nat := 0x0062
abbrev P.PW_STATE : Nat := 0x0080
abbrev P.PW_DARK_RETURN_MS : Nat := 0x0081
abbrev P.PW_RESET_CAUSE : Nat := 0x0082
abbrev P.PW_AUTO_EXITS : Nat := 0x0083
abbrev P.PW_LAST_CHANGE : Nat := 0x0084
abbrev P.CG_ENABLE : Nat := 0x0100
abbrev P.CG_STATE : Nat := 0x0101
abbrev P.CG_WIDTH : Nat := 0x0102
abbrev P.CG_SPARE_MAP : Nat := 0x0103
abbrev P.CG_LINK_DELAY : Nat := 0x0104
abbrev P.CG_HEAD_SERIAL : Nat := 0x0105
abbrev P.CG_GENLOCK : Nat := 0x0106
abbrev P.CG_TSYNC_TRIM : Nat := 0x0107
abbrev P.CG_TRAIN_TIMEOUT : Nat := 0x0108
abbrev P.CG_ORPHAN_FRAMES : Nat := 0x0109
abbrev P.CG_HDR_ERRORS : Nat := 0x010A
abbrev P.CG_PCRC_ERRORS : Nat := 0x010B
abbrev P.CG_LINES_REPLACED : Nat := 0x010C
abbrev P.CG_FRAMES_LOST : Nat := 0x010D
abbrev P.CG_LAST_SETTINGS : Nat := 0x010E
abbrev P.PL_STATE : Nat := 0x0400
abbrev P.PL_STAGE_EN : Nat := 0x0401
abbrev P.PL_FORMAT : Nat := 0x0402
abbrev P.PL_HEIGHT : Nat := 0x0403
abbrev P.PL_SID_GATE : Nat := 0x0404
abbrev P.PL_SID_GATE_TIMEOUT : Nat := 0x0405
abbrev P.BL_LEVEL : Nat := 0x0410
abbrev P.BL_WHITE : Nat := 0x0411
abbrev P.BL_MODE : Nat := 0x0412
abbrev P.BL_OB_RECT : Nat := 0x0413
abbrev P.BL_TRACK_SHIFT : Nat := 0x0414
abbrev P.BL_TRACK_LIMIT : Nat := 0x0415
abbrev P.BL_IN_FORCE : Nat := 0x0416
abbrev P.TAP_PEDESTAL : Nat := 0x0417
abbrev P.DPC_DYN_K : Nat := 0x0420
abbrev P.DPC_STATIC_COUNT : Nat := 0x0421
abbrev P.DPC_CORRECTED : Nat := 0x0422
abbrev P.NOISE_SIGMA : Nat := 0x0428
abbrev P.SNR_STRENGTH : Nat := 0x0430
abbrev P.SNR_SPATIAL_W : Nat := 0x0431
abbrev P.SNR_RANGE_LUT : Nat := 0x0432
abbrev P.TNR_ALPHA_LUT : Nat := 0x0438
abbrev P.TNR_RESET : Nat := 0x0439
abbrev P.TNR_REF_VALID : Nat := 0x043A
abbrev P.TNR_PASSED : Nat := 0x043B
abbrev P.TNR_REF_BYTES : Nat := 0x043C
abbrev P.WB_GAIN : Nat := 0x0440
abbrev P.DM_MODE : Nat := 0x0448
abbrev P.DM_EDGE_RATIO : Nat := 0x0449
abbrev P.ST_WINDOW : Nat := 0x0450
abbrev P.ST_HIST_MODE : Nat := 0x0451
abbrev P.ST_CLIP_LEVEL : Nat := 0x0452
abbrev P.ST_WB_LO : Nat := 0x0453
abbrev P.ST_RECORDS : Nat := 0x0454
abbrev P.ST_DROPS : Nat := 0x0455
abbrev P.PL_COLOUR_EN : Nat := 0x0480
abbrev P.CM_COEF : Nat := 0x0481
abbrev P.CM_OFFSET : Nat := 0x0482
abbrev P.CM_CLIP_COUNT : Nat := 0x0483
abbrev P.SC_CROP : Nat := 0x0488
abbrev P.SC_OUT_SIZE : Nat := 0x0489
abbrev P.SC_KERNEL_H : Nat := 0x048A
abbrev P.SC_KERNEL_V : Nat := 0x048B
abbrev P.SC_STEP : Nat := 0x048C
abbrev P.CV_ENABLE : Nat := 0x0C00
abbrev P.CV_STATE : Nat := 0x0C01
abbrev P.CV_WIDTH : Nat := 0x0C02
abbrev P.CV_HEIGHT : Nat := 0x0C03
abbrev P.CV_TOTAL_LINES : Nat := 0x0C04
abbrev P.CV_RATE : Nat := 0x0C05
abbrev P.CV_PHASES : Nat := 0x0C06
abbrev P.CV_START_OFFSET : Nat := 0x0C07
abbrev P.CV_BACKGROUND : Nat := 0x0C08
abbrev P.CV_ZORDER : Nat := 0x0C09
abbrev P.CV_LINE_MATCH : Nat := 0x0C0A
abbrev P.CV_EVENT_EN : Nat := 0x0C0B
abbrev P.CV_FETCH_LEAD : Nat := 0x0C0C
abbrev P.CV_UNDERRUNS : Nat := 0x0C0D
abbrev P.CV_SOURCES_OFF : Nat := 0x0C0E
abbrev P.CV_LINE_TIME : Nat := 0x0C0F
abbrev P.CV_BW_RESERVED : Nat := 0x0C10
abbrev P.CV_COMPOSE_LOAD : Nat := 0x0C11
abbrev P.CV_PSO_PHASES : Nat := 0x0C12
abbrev P.CV_PSO_OFFSET : Nat := 0x0C13
abbrev P.CV_PSO_WIDTH : Nat := 0x0C14
abbrev P.LY_FORMAT : Nat := 0x0C20
abbrev P.LY_BASE : Nat := 0x0C21
abbrev P.LY_STRIDE : Nat := 0x0C22
abbrev P.LY_POS : Nat := 0x0C23
abbrev P.LY_SIZE : Nat := 0x0C24
abbrev P.LY_OPACITY : Nat := 0x0C25
abbrev P.LY_BLEND : Nat := 0x0C26
abbrev P.LY_FLAGS : Nat := 0x0C27
abbrev P.LY_XFER : Nat := 0x0C28
abbrev P.LY_WHITE : Nat := 0x0C29
abbrev P.LY_PHASES : Nat := 0x0C2A
abbrev P.LY_SOURCE : Nat := 0x0C2B
abbrev P.LY_BASE_IN_FORCE : Nat := 0x0C2C
abbrev P.LI_PIPELINE : Nat := 0x0C40
abbrev P.LI_POS : Nat := 0x0C41
abbrev P.LI_OPACITY : Nat := 0x0C42
abbrev P.LI_BLEND : Nat := 0x0C43
abbrev P.LI_PHASES : Nat := 0x0C44
abbrev P.LI_LOSS : Nat := 0x0C45
abbrev P.LI_FORCE_BUFFERED : Nat := 0x0C46
abbrev P.LI_MODE : Nat := 0x0C47
abbrev P.LI_STALE_PERIODS : Nat := 0x0C48
abbrev P.LI_LOSS_COUNT : Nat := 0x0C49
abbrev P.OC_EN : Nat := 0x0C60
abbrev P.OC_MATRIX : Nat := 0x0C61
abbrev P.OC_PHASE_GAIN : Nat := 0x0C62
abbrev P.OT_MODE : Nat := 0x0C63
abbrev P.OT_AUTO : Nat := 0x0C64
abbrev P.OC_WHITE_NITS : Nat := 0x0C65
abbrev P.OC_PEAK_NITS : Nat := 0x0C66
abbrev P.OC_KNEE : Nat := 0x0C67
abbrev P.OC_DITHER : Nat := 0x0C68
abbrev P.OC_DITHER_TEMPORAL : Nat := 0x0C69
abbrev P.OC_UNIF_BANK : Nat := 0x0C6A
abbrev P.OC_UNIF_FAULTS : Nat := 0x0C6B
abbrev P.OC_CLIP_COUNT : Nat := 0x0C6C
abbrev P.MW_CTRL_RESERVE : Nat := 0x1400
abbrev P.MW_POLL_INTERVAL : Nat := 0x1401
abbrev P.MW_DISCOVER_INTERVAL : Nat := 0x1402
abbrev P.MW_REVERT : Nat := 0x1403
abbrev P.MW_REVERT_HOLD : Nat := 0x1404
abbrev P.MW_LOOP_STATE : Nat := 0x1405
abbrev P.MW_REACH : Nat := 0x1406
abbrev P.MW_PORT_LOAD : Nat := 0x1407
abbrev P.MW_ABANDONED : Nat := 0x1408
abbrev P.MW_UP_HCRC_ERRORS : Nat := 0x1409
abbrev P.MW_UP_PCRC_ERRORS : Nat := 0x140A
abbrev P.MW_FAILOVERS : Nat := 0x140B
abbrev P.MW_ALARMS : Nat := 0x140C
abbrev P.PT_STATE : Nat := 0x1418
abbrev P.PT_WIDTH : Nat := 0x1419
abbrev P.PT_PARTNER_SERIAL : Nat := 0x141A
abbrev P.PT_LINK_DELAY : Nat := 0x141B
abbrev P.PT_TIME_ERR : Nat := 0x141C
abbrev P.PT_HEARTBEAT_LOST : Nat := 0x141D
abbrev P.PT_TIMEOUT : Nat := 0x141E
abbrev P.LN_CAL_ENABLE : Nat := 0x1600
abbrev P.LN_CAL_DELTA : Nat := 0x1601
abbrev P.LN_TRAPEZE : Nat := 0x1602
abbrev P.LN_MEASURE : Nat := 0x1603
abbrev P.LN_QUALITY_MIN : Nat := 0x1604
abbrev P.LN_MON_INTERVAL : Nat := 0x1605
abbrev P.LN_TX_PRESET : Nat := 0x1606
abbrev P.LN_TX_SWING : Nat := 0x1607
abbrev P.LN_CAL_PARALLEL : Nat := 0x1608
abbrev P.LN_TRAPEZE_LOOPS : Nat := 0x1609
abbrev P.LN_CAL_DEFER_LIMIT : Nat := 0x160A
abbrev P.LN_CAL_STATE : Nat := 0x1610
abbrev P.LN_CAL_TEMP : Nat := 0x1611
abbrev P.LN_CAL_LAST : Nat := 0x1612
abbrev P.LN_CAL_RUNS : Nat := 0x1613
abbrev P.LN_WORST : Nat := 0x1614
abbrev P.LN_SCANS_ACTIVE : Nat := 0x1615
abbrev P.MEM_CARVE_QUOTA : Nat := 0x1700
abbrev P.MEM_CARVE_USED : Nat := 0x1701
abbrev P.MEM_CARVE_ORDER : Nat := 0x1702
abbrev P.MEM_WINDOW_QUOTA : Nat := 0x1703
abbrev P.MEM_WINDOW_USED : Nat := 0x1704
abbrev P.MEM_POOL_FREE : Nat := 0x1705
abbrev P.MEM_RETRAIN_DELTA : Nat := 0x1708
abbrev P.MEM_RETRAIN_MAX : Nat := 0x1709
abbrev P.MEM_RETRAIN_TEMP : Nat := 0x170A
abbrev P.MEM_SCRUB_HOURS : Nat := 0x170B
abbrev P.MEM_SCRUB_PROGRESS : Nat := 0x170C
abbrev P.MEM_CE_COUNT : Nat := 0x170D
abbrev P.MEM_UE_COUNT : Nat := 0x170E
abbrev P.MEM_RETIRED_ROWS : Nat := 0x170F
abbrev P.CXL_PORT_LINK : Nat := 0x1720
abbrev P.CXL_EXP_SERIAL : Nat := 0x1721
abbrev P.CXL_EXP_STATE : Nat := 0x1722
abbrev P.CXL_EXP_PORT : Nat := 0x1723
abbrev P.CXL_EXP_CAPACITY : Nat := 0x1724
abbrev P.CXL_EXP_POISON : Nat := 0x1725
abbrev P.CXL_REGION_STATE : Nat := 0x1728
abbrev P.CXL_REGION_BASE : Nat := 0x1729
abbrev P.CXL_REGION_SIZE : Nat := 0x172A
abbrev P.CXL_PERSIST_TOTAL : Nat := 0x172B
abbrev P.CXL_VERIFY_DAYS : Nat := 0x172C
abbrev P.CXL_PATROL_HOURS : Nat := 0x172D
abbrev P.CXL_REMOVE_POLICY : Nat := 0x172E
abbrev P.CXL_VERIFY_PROGRESS : Nat := 0x172F
abbrev P.FR_RESERVE_RATIO : Nat := 0x1780
abbrev P.FR_BIN_SOURCES : Nat := 0x1781
abbrev P.FR_BIN_ARM : Nat := 0x1782
abbrev P.FR_BIN_QUOTA : Nat := 0x1783
abbrev P.FR_CLIP_PERIODS : Nat := 0x1784
abbrev P.FR_TRIG_ENABLE : Nat := 0x1785
abbrev P.FR_TRIG_PRE_MS : Nat := 0x1786
abbrev P.FR_TRIG_POST_MS : Nat := 0x1787
abbrev P.FR_CHECKPOINT_MS : Nat := 0x1788
abbrev P.FR_WEAR_LAG : Nat := 0x1789
abbrev P.FR_BIN_STATE : Nat := 0x178A
abbrev P.FR_BIN_USED : Nat := 0x178B
abbrev P.FR_BIN_PROTECTED : Nat := 0x178C
abbrev P.FR_BIN_OLDEST : Nat := 0x178D
abbrev P.FR_GAP_FRAMES : Nat := 0x178E
abbrev P.FR_RATIO : Nat := 0x178F
abbrev P.FR_RAW_BLOCKS : Nat := 0x1790
abbrev P.FR_WB_USED : Nat := 0x1791
abbrev P.FR_DECODE_ERRORS : Nat := 0x1792
abbrev P.CQ_PAIR_LIMIT : Nat := 0x17A0
abbrev P.CQ_PAIRS_IN_USE : Nat := 0x17A1
abbrev P.CQ_FREEZES : Nat := 0x17A2
abbrev P.BIN_ADMIN_RATE : Nat := 0x17A3
abbrev P.BIN_ADMIN_PROGRESS : Nat := 0x17A4
abbrev P.VC_STATE : Nat := 0x17C0
abbrev P.VC_HOLDER : Nat := 0x17C1
abbrev P.VC_MODE : Nat := 0x17C2
abbrev P.VC_DIV : Nat := 0x17C3
abbrev P.VC_CAP_CANVAS : Nat := 0x17C4
abbrev P.VC_CAP_PHASE : Nat := 0x17C5
abbrev P.VC_CAP_RECT : Nat := 0x17C6
abbrev P.VC_CAP_DECIM : Nat := 0x17C7
abbrev P.VC_CAP_XFER : Nat := 0x17C8
abbrev P.VC_CAP_WHITE : Nat := 0x17C9
abbrev P.VC_CAP_MATRIX : Nat := 0x17CA
abbrev P.VC_ENC_BIN : Nat := 0x17CB
abbrev P.VC_ENC_PROFILE : Nat := 0x17CC
abbrev P.VC_BITRATE : Nat := 0x17CD
abbrev P.VC_VBV_KBITS : Nat := 0x17CE
abbrev P.VC_GOP : Nat := 0x17CF
abbrev P.VC_REFS : Nat := 0x17D0
abbrev P.VC_QP_RANGE : Nat := 0x17D1
abbrev P.VC_I_WEIGHT : Nat := 0x17D2
abbrev P.VC_SLICE_ROWS : Nat := 0x17D3
abbrev P.VC_DEC_MODE : Nat := 0x17D4
abbrev P.VC_DEC_PACE : Nat := 0x17D5
abbrev P.VC_DEC_INTERVAL : Nat := 0x17D6
abbrev P.VC_PICTURES : Nat := 0x17D7
abbrev P.VC_SKIPPED : Nat := 0x17D8
abbrev P.VC_DAMAGED : Nat := 0x17D9
abbrev P.VC_CLAMPED : Nat := 0x17DA
abbrev P.VC_KEYS : Nat := 0x17DB
abbrev P.VC_VBV_FULL : Nat := 0x17DC
abbrev P.VC_BW_RESERVED : Nat := 0x17DD
abbrev P.VC_LOAD : Nat := 0x17DE
abbrev P.VC_INPUT_FREE : Nat := 0x17DF
abbrev P.AP_ENABLE : Nat := 0x1800
abbrev P.AP_STATE : Nat := 0x1801
abbrev P.AP_RATE : Nat := 0x1802
abbrev P.AP_FORMAT : Nat := 0x1803
abbrev P.AP_IN_MASK : Nat := 0x1804
abbrev P.AP_OUT_MASK : Nat := 0x1805
abbrev P.AP_ROUTE : Nat := 0x1806
abbrev P.AP_DELAY : Nat := 0x1807
abbrev P.AP_FADE_US : Nat := 0x1808
abbrev P.AP_GROUP : Nat := 0x1809
abbrev P.AP_POSITION : Nat := 0x180A
abbrev P.AP_POS_TIME : Nat := 0x180B
abbrev P.AP_RATE_ERR : Nat := 0x180C
abbrev P.AP_FADES : Nat := 0x180D
abbrev P.AP_FRAMING_ERRORS : Nat := 0x180E
abbrev P.AP_SLIPS : Nat := 0x180F
abbrev P.HK_READING : Nat := 0x1900
abbrev P.HK_MIN : Nat := 0x1901
abbrev P.HK_MAX : Nat := 0x1902
abbrev P.HK_LIMIT_LO : Nat := 0x1903
abbrev P.HK_LIMIT_HI : Nat := 0x1904
abbrev P.HK_ROUNDS : Nat := 0x1905
abbrev P.TH_WARN : Nat := 0x1910
abbrev P.TH_THROTTLE : Nat := 0x1911
abbrev P.TH_SHUTDOWN : Nat := 0x1912
abbrev P.TH_HYST : Nat := 0x1913
abbrev P.TH_STEP_MS : Nat := 0x1914
abbrev P.TH_STEP_MAX : Nat := 0x1915
abbrev P.TH_STEP : Nat := 0x1916
abbrev P.TH_HOTTEST : Nat := 0x1917
abbrev P.MB_ADDR : Nat := 0x1920
abbrev P.MB_ADDR_MODE : Nat := 0x1921
abbrev P.MB_ADDR_MASK : Nat := 0x1922
abbrev P.MB_FILTER : Nat := 0x1923
abbrev P.MB_SETUP : Nat := 0x1924
abbrev P.MB_HOLD : Nat := 0x1925
abbrev P.MB_STRETCH_LIMIT : Nat := 0x1926
abbrev P.MB_BUS_TIMEOUT : Nat := 0x1927
abbrev P.MB_PEC_REQUIRED : Nat := 0x1928
abbrev P.MB_PEC_ERRORS : Nat := 0x1929
abbrev P.MB_ABORTS : Nat := 0x192A
abbrev P.MB_SLOT_ERRORS : Nat := 0x192B
abbrev P.MB_RESETS : Nat := 0x192C
abbrev P.MB_LAST_ADDR : Nat := 0x192D
abbrev P.BG_ENABLE : Nat := 0x1930
abbrev P.BG_SHARE : Nat := 0x1931
abbrev P.BG_STATE : Nat := 0x1932
abbrev P.BG_TELEMETRY_MS : Nat := 0x1933

/-- How the default of an element follows from its index. -/
inductive Dflt where
  | const (n : Nat)
  | list (l : List Nat)
  | sigma | alpha | zorder | pso | hkLo | hkHi | route
  deriving DecidableEq, Repr

/-- One assigned parameter identifier of instance 0 of its family (R66), with what PARAM_DESCRIBE reports of it
(R70). `name` is the ASCII name read as a little-endian number. `acc` is the ACCESS code of Table 2-13. -/
structure ParamRow where
  id : Nat
  name : Nat
  count : Nat
  w64 : Bool
  acc : Nat
  imm : Bool
  signed : Bool
  lo : Int
  hi : Int
  alt : Option Nat
  dflt : Dflt
  deriving DecidableEq, Repr

def paramsDevice0 : List ParamRow := [
  ⟨P.DEVICE_ID, 0x44495F454349564544, 0, false, 1, true, false, 0, 4294967295, none, (.const 4132)⟩,
  ⟨P.STEPPING, 0x474E495050455453, 0, false, 1, true, false, 0, 4294967295, none, (.const 177)⟩,
  ⟨P.FW_RELEASE, 0x455341454C45525F5746, 0, false, 1, true, false, 0, 4294967295, none, (.const 0x04010000)⟩,
  ⟨P.FW_ACTIVE_SLOT, 0x544F4C535F4556495443415F5746, 0, false, 1, true, false, 0, 4294967295, none, (.const 0)⟩,
  ⟨P.FW_SECURITY_FLOOR, 0x524F4F4C465F59544952554345535F5746, 0, false, 1, true, false, 0, 4294967295, none, (.const 0)⟩,
  ⟨P.SERIAL, 0x4C4149524553, 0, true, 1, true, false, 0, 18446744073709551615, none, (.const 0)⟩,
  ⟨P.EVENT_QUOTA, 0x41544F55515F544E455645, 64, false, 2, true, false, 16, 65536, none, (.const 65536)⟩,
  ⟨P.EVENT_OVER_QUOTA, 0x41544F55515F5245564F5F544E455645, 64, false, 1, true, false, 0, 4294967295, none, (.const 0)⟩,
  ⟨P.DEFER_TIMEOUT_US, 0x53555F54554F454D49545F5245464544, 0, false, 2, true, false, 20, 1000, none, (.const 100)⟩,
  ⟨P.RM_SOURCE, 0x454352554F535F4D52, 0, false, 0, false, false, 0, 1, none, (.const 0)⟩,
  ⟨P.RM_REF_RATE_NUM, 0x4D554E5F455441525F4645525F4D52, 0, false, 0, false, false, 0, 4294967295, none, (.const 60)⟩,
  ⟨P.RM_REF_RATE_DEN, 0x4E45445F455441525F4645525F4D52, 0, false, 0, false, false, 0, 4294967295, none, (.const 1)⟩,
  ⟨P.RM_ACCEPT_WIN, 0x4E49575F5450454343415F4D52, 0, false, 0, true, false, 100, 100000, none, (.const 1000)⟩,
  ⟨P.RM_RELOCK_EDGES, 0x53454744455F4B434F4C45525F4D52, 0, false, 0, true, false, 2, 16, none, (.const 4)⟩,
  ⟨P.RM_SLEW_LIMIT, 0x54494D494C5F57454C535F4D52, 0, false, 0, true, false, 0, 4294967295, none, (.const 1000)⟩,
  ⟨P.RM_STATE, 0x45544154535F4D52, 0, false, 1, true, false, 0, 4294967295, none, (.const 0)⟩,
  ⟨P.RM_PHASE_ERR, 0x5252455F45534148505F4D52, 0, false, 1, true, true, (-2147483648), 2147483647, none, (.const 0)⟩,
  ⟨P.RM_INVALID_TOTAL, 0x4C41544F545F44494C41564E495F4D52, 0, false, 1, true, false, 0, 4294967295, none, (.const 0)⟩,
  ⟨P.TRIG_ARM, 0x4D52415F47495254, 0, false, 0, true, false, 0, 1, none, (.const 0)⟩,
  ⟨P.TRIG_TIME, 0x454D49545F47495254, 0, true, 1, true, false, 0, 18446744073709551615, none, (.const 0)⟩,
  ⟨P.TRIG_COUNT, 0x544E554F435F47495254, 0, false, 1, true, false, 0, 4294967295, none, (.const 0)⟩,
  ⟨P.BW_RESERVABLE_PCT, 0x5443505F454C42415652455345525F5742, 0, false, 0, false, false, 60, 90, none, (.const 85)⟩,
  ⟨P.BW_RESERVED, 0x44455652455345525F5742, 5, false, 1, true, false, 0, 4294967295, none, (.const 0)⟩,
  ⟨P.BW_SHORTFALL, 0x4C4C414654524F48535F5742, 5, false, 1, true, false, 0, 4294967295, none, (.const 0)⟩]

def paramsDevice1 : List ParamRow := [
  ⟨P.PW_STATE, 0x45544154535F5750, 0, false, 1, true, false, 0, 4294967295, none, (.const 1)⟩,
  ⟨P.PW_DARK_RETURN_MS, 0x534D5F4E52555445525F4B5241445F5750, 0, false, 2, true, false, 10, 3600000, some 0, (.const 0)⟩,
  ⟨P.PW_RESET_CAUSE, 0x45535541435F54455345525F5750, 0, false, 1, true, false, 0, 4294967295, none, (.const 0)⟩,
  ⟨P.PW_AUTO_EXITS, 0x53544958455F4F5455415F5750, 0, false, 1, true, false, 0, 4294967295, none, (.const 0)⟩,
  ⟨P.PW_LAST_CHANGE, 0x45474E4148435F5453414C5F5750, 0, true, 1, true, false, 0, 18446744073709551615, none, (.const 0)⟩]

/-- The rows of the family Device (Table 2-11). -/
def paramsDevice : List ParamRow := paramsDevice0 ++ paramsDevice1

def paramsCamera0 : List ParamRow := [
  ⟨P.CG_ENABLE, 0x454C42414E455F4743, 0, false, 0, true, false, 0, 1, none, (.const 1)⟩,
  ⟨P.CG_STATE, 0x45544154535F4743, 0, false, 1, true, false, 0, 4294967295, none, (.const 0)⟩,
  ⟨P.CG_WIDTH, 0x48544449575F4743, 0, false, 1, true, false, 0, 4294967295, none, (.const 0)⟩,
  ⟨P.CG_SPARE_MAP, 0x50414D5F45524150535F4743, 0, false, 1, true, false, 0, 4294967295, none, (.const 255)⟩,
  ⟨P.CG_LINK_DELAY, 0x59414C45445F4B4E494C5F4743, 0, false, 1, true, false, 0, 4294967295, none, (.const 0)⟩,
  ⟨P.CG_HEAD_SERIAL, 0x4C41495245535F444145485F4743, 0, true, 1, true, false, 0, 18446744073709551615, none, (.const 0)⟩,
  ⟨P.CG_GENLOCK, 0x4B434F4C4E45475F4743, 4, false, 0, false, false, 0, 1, none, (.const 1)⟩,
  ⟨P.CG_TSYNC_TRIM, 0x4D4952545F434E5953545F4743, 4, false, 0, true, true, (-10000), 10000, none, (.const 0)⟩,
  ⟨P.CG_TRAIN_TIMEOUT, 0x54554F454D49545F4E494152545F4743, 0, false, 0, true, false, 10, 1000, none, (.const 100)⟩,
  ⟨P.CG_ORPHAN_FRAMES, 0x53454D4152465F4E414850524F5F4743, 4, false, 3, true, false, 0, 4294967295, none, (.const 0)⟩,
  ⟨P.CG_HDR_ERRORS, 0x53524F5252455F5244485F4743, 0, false, 3, true, false, 0, 4294967295, none, (.const 0)⟩,
  ⟨P.CG_PCRC_ERRORS, 0x53524F5252455F435243505F4743, 4, false, 3, true, false, 0, 4294967295, none, (.const 0)⟩,
  ⟨P.CG_LINES_REPLACED, 0x444543414C5045525F53454E494C5F4743, 4, false, 3, true, false, 0, 4294967295, none, (.const 0)⟩,
  ⟨P.CG_FRAMES_LOST, 0x54534F4C5F53454D4152465F4743, 4, false, 3, true, false, 0, 4294967295, none, (.const 0)⟩,
  ⟨P.CG_LAST_SETTINGS, 0x53474E49545445535F5453414C5F4743, 4, false, 1, true, false, 0, 4294967295, none, (.const 0)⟩]

/-- The rows of the family Camera (Table 2-11). -/
def paramsCamera : List ParamRow := paramsCamera0

def paramsPipeline0 : List ParamRow := [
  ⟨P.PL_STATE, 0x45544154535F4C50, 0, false, 1, true, false, 0, 4294967295, none, (.const 0)⟩,
  ⟨P.PL_STAGE_EN, 0x4E455F45474154535F4C50, 0, false, 0, false, false, 0, 63, none, (.const 55)⟩,
  ⟨P.PL_FORMAT, 0x54414D524F465F4C50, 0, false, 1, true, false, 0, 4294967295, none, (.const 0)⟩,
  ⟨P.PL_HEIGHT, 0x5448474945485F4C50, 0, false, 1, true, false, 0, 4294967295, none, (.const 0)⟩,
  ⟨P.PL_SID_GATE, 0x455441475F4449535F4C50, 0, false, 0, true, false, 0, 255, none, (.const 0)⟩,
  ⟨P.PL_SID_GATE_TIMEOUT, 0x54554F454D49545F455441475F4449535F4C50, 0, false, 0, true, false, 1, 64, none, (.const 8)⟩,
  ⟨P.BL_LEVEL, 0x4C4556454C5F4C42, 4, false, 0, false, false, 0, 61439, none, (.const 4096)⟩,
  ⟨P.BL_WHITE, 0x45544948575F4C42, 0, false, 0, false, false, 0, 65535, none, (.const 65535)⟩,
  ⟨P.BL_MODE, 0x45444F4D5F4C42, 0, false, 0, false, false, 0, 1, none, (.const 0)⟩,
  ⟨P.BL_OB_RECT, 0x544345525F424F5F4C42, 4, false, 0, false, false, 0, 4294967295, none, (.const 0)⟩,
  ⟨P.BL_TRACK_SHIFT, 0x54464948535F4B434152545F4C42, 0, false, 0, false, false, 0, 8, none, (.const 3)⟩,
  ⟨P.BL_TRACK_LIMIT, 0x54494D494C5F4B434152545F4C42, 0, false, 0, false, false, 0, 8192, none, (.const 1024)⟩,
  ⟨P.BL_IN_FORCE, 0x4543524F465F4E495F4C42, 4, false, 1, true, false, 0, 4294967295, none, (.const 4096)⟩,
  ⟨P.TAP_PEDESTAL, 0x4C415453454445505F504154, 0, false, 0, false, false, 0, 32768, none, (.const 4096)⟩,
  ⟨P.DPC_DYN_K, 0x4B5F4E59445F435044, 0, false, 0, false, false, 16, 255, none, (.const 64)⟩,
  ⟨P.DPC_STATIC_COUNT, 0x544E554F435F4349544154535F435044, 0, false, 1, true, false, 0, 4294967295, none, (.const 0)⟩,
  ⟨P.DPC_CORRECTED, 0x444554434552524F435F435044, 2, false, 1, true, false, 0, 4294967295, none, (.const 0)⟩,
  ⟨P.NOISE_SIGMA, 0x414D4749535F4553494F4E, 65, false, 0, false, false, 1, 65535, none, (.sigma)⟩,
  ⟨P.SNR_STRENGTH, 0x4854474E455254535F524E53, 0, false, 0, false, false, 0, 256, none, (.const 192)⟩,
  ⟨P.SNR_SPATIAL_W, 0x575F4C4149544150535F524E53, 6, false, 0, false, false, 0, 255, none, (.list [255, 192, 160, 128, 96, 64])⟩,
  ⟨P.SNR_RANGE_LUT, 0x54554C5F45474E41525F524E53, 32, false, 0, false, false, 0, 255, none, (.list [255, 253, 247, 238, 225, 210, 192, 174, 155, 135, 117, 99, 83, 68, 55, 44, 35, 27, 20, 15, 11, 8, 6, 4, 3, 2, 1, 1, 1, 0, 0, 0])⟩,
  ⟨P.TNR_ALPHA_LUT, 0x54554C5F4148504C415F524E54, 64, false, 0, false, false, 0, 32768, none, (.alpha)⟩,
  ⟨P.TNR_RESET, 0x54455345525F524E54, 0, false, 0, false, false, 0, 1, none, (.const 0)⟩,
  ⟨P.TNR_REF_VALID, 0x44494C41565F4645525F524E54, 0, false, 1, true, false, 0, 4294967295, none, (.const 0)⟩]

def paramsPipeline1 : List ParamRow := [
  ⟨P.TNR_PASSED, 0x4445535341505F524E54, 0, false, 1, true, false, 0, 4294967295, none, (.const 0)⟩,
  ⟨P.TNR_REF_BYTES, 0x53455459425F4645525F524E54, 0, true, 1, true, false, 0, 18446744073709551615, none, (.const 0)⟩,
  ⟨P.WB_GAIN, 0x4E4941475F4257, 4, false, 0, false, false, 0, 1048575, none, (.const 65536)⟩,
  ⟨P.DM_MODE, 0x45444F4D5F4D44, 0, false, 0, false, false, 0, 1, none, (.const 0)⟩,
  ⟨P.DM_EDGE_RATIO, 0x4F495441525F454744455F4D44, 0, false, 0, false, false, 1, 128, none, (.const 96)⟩,
  ⟨P.ST_WINDOW, 0x574F444E49575F5453, 4, false, 0, false, false, 0, 4294967295, none, (.list [0, 0, 65535, 65535])⟩,
  ⟨P.ST_HIST_MODE, 0x45444F4D5F545349485F5453, 0, false, 0, false, false, 0, 1, none, (.const 0)⟩,
  ⟨P.ST_CLIP_LEVEL, 0x4C4556454C5F50494C435F5453, 0, false, 0, false, false, 1, 1048575, none, (.const 1032192)⟩,
  ⟨P.ST_WB_LO, 0x4F4C5F42575F5453, 0, false, 0, false, false, 0, 4294967295, none, (.const 1024)⟩,
  ⟨P.ST_RECORDS, 0x5344524F4345525F5453, 0, false, 3, true, false, 0, 4294967295, none, (.const 0)⟩,
  ⟨P.ST_DROPS, 0x53504F52445F5453, 0, false, 3, true, false, 0, 4294967295, none, (.const 0)⟩,
  ⟨P.PL_COLOUR_EN, 0x4E455F52554F4C4F435F4C50, 0, false, 0, false, false, 0, 7, none, (.const 7)⟩,
  ⟨P.CM_COEF, 0x46454F435F4D43, 9, false, 0, false, true, (-1048576), 1048575, none, (.list [65536, 0, 0, 0, 65536, 0, 0, 0, 65536])⟩,
  ⟨P.CM_OFFSET, 0x54455346464F5F4D43, 3, false, 0, false, true, (-16777216), 16777215, none, (.const 0)⟩,
  ⟨P.CM_CLIP_COUNT, 0x544E554F435F50494C435F4D43, 0, false, 3, true, false, 0, 4294967295, none, (.const 0)⟩,
  ⟨P.SC_CROP, 0x504F52435F4353, 4, false, 0, false, false, 0, 4294967295, none, (.list [0, 0, 65535, 65535])⟩,
  ⟨P.SC_OUT_SIZE, 0x455A49535F54554F5F4353, 2, false, 0, false, false, 0, 4294967295, none, (.const 0)⟩,
  ⟨P.SC_KERNEL_H, 0x485F4C454E52454B5F4353, 0, false, 0, false, false, 0, 2, none, (.const 1)⟩,
  ⟨P.SC_KERNEL_V, 0x565F4C454E52454B5F4353, 0, false, 0, false, false, 0, 1, none, (.const 1)⟩,
  ⟨P.SC_STEP, 0x504554535F4353, 2, false, 1, true, false, 0, 4294967295, none, (.const 0)⟩]

/-- The rows of the family Pipeline (Table 2-11). -/
def paramsPipeline : List ParamRow := paramsPipeline0 ++ paramsPipeline1

def paramsCanvas0 : List ParamRow := [
  ⟨P.CV_ENABLE, 0x454C42414E455F5643, 0, false, 0, false, false, 0, 1, none, (.const 0)⟩,
  ⟨P.CV_STATE, 0x45544154535F5643, 0, false, 1, true, false, 0, 4294967295, none, (.const 0)⟩,
  ⟨P.CV_WIDTH, 0x48544449575F5643, 0, false, 0, false, false, 64, 65528, none, (.const 3840)⟩,
  ⟨P.CV_HEIGHT, 0x5448474945485F5643, 0, false, 0, false, false, 8, 32767, none, (.const 2160)⟩,
  ⟨P.CV_TOTAL_LINES, 0x53454E494C5F4C41544F545F5643, 0, false, 0, false, false, 9, 65535, none, (.const 2250)⟩,
  ⟨P.CV_RATE, 0x455441525F5643, 0, false, 0, false, false, 1, 56, none, (.const 1)⟩,
  ⟨P.CV_PHASES, 0x5345534148505F5643, 0, false, 0, false, false, 1, 4, none, (.const 1)⟩,
  ⟨P.CV_START_OFFSET, 0x54455346464F5F54524154535F5643, 0, false, 0, false, false, 0, 4294967295, none, (.const 0)⟩,
  ⟨P.CV_BACKGROUND, 0x444E554F52474B4341425F5643, 3, false, 0, false, false, 0, 16777215, none, (.const 0)⟩,
  ⟨P.CV_ZORDER, 0x524544524F5A5F5643, 16, false, 0, false, false, 0, 15, some 255, (.zorder)⟩,
  ⟨P.CV_LINE_MATCH, 0x484354414D5F454E494C5F5643, 2, false, 0, false, false, 0, 4294967295, none, (.const 65535)⟩,
  ⟨P.CV_EVENT_EN, 0x4E455F544E4556455F5643, 0, false, 0, false, false, 0, 247, none, (.const 20)⟩,
  ⟨P.CV_FETCH_LEAD, 0x4441454C5F48435445465F5643, 0, false, 0, false, false, 1, 4, none, (.const 2)⟩,
  ⟨P.CV_UNDERRUNS, 0x534E55525245444E555F5643, 0, false, 3, true, false, 0, 4294967295, none, (.const 0)⟩,
  ⟨P.CV_SOURCES_OFF, 0x46464F5F53454352554F535F5643, 0, false, 1, true, false, 0, 4294967295, none, (.const 0)⟩,
  ⟨P.CV_LINE_TIME, 0x454D49545F454E494C5F5643, 0, true, 1, true, false, 0, 18446744073709551615, none, (.const 0)⟩,
  ⟨P.CV_BW_RESERVED, 0x44455652455345525F57425F5643, 0, false, 1, true, false, 0, 4294967295, none, (.const 0)⟩,
  ⟨P.CV_COMPOSE_LOAD, 0x44414F4C5F45534F504D4F435F5643, 0, false, 1, true, false, 0, 4294967295, none, (.const 0)⟩,
  ⟨P.CV_PSO_PHASES, 0x5345534148505F4F53505F5643, 4, false, 0, false, false, 0, 4294967295, none, (.pso)⟩,
  ⟨P.CV_PSO_OFFSET, 0x54455346464F5F4F53505F5643, 4, false, 0, false, false, 0, 4294967295, none, (.const 0)⟩,
  ⟨P.CV_PSO_WIDTH, 0x48544449575F4F53505F5643, 4, false, 0, false, false, 100, 1000000, none, (.const 10000)⟩,
  ⟨P.LY_FORMAT, 0x54414D524F465F594C, 8, false, 0, false, false, 0, 6, none, (.const 0)⟩,
  ⟨P.LY_BASE, 0x455341425F594C, 8, true, 0, false, false, 0, 18446744073709551615, none, (.const 0)⟩,
  ⟨P.LY_STRIDE, 0x4544495254535F594C, 8, false, 0, false, false, 0, 4294967295, none, (.const 0)⟩]

def paramsCanvas1 : List ParamRow := [
  ⟨P.LY_POS, 0x534F505F594C, 8, false, 0, false, false, 0, 4294967295, none, (.const 0)⟩,
  ⟨P.LY_SIZE, 0x455A49535F594C, 8, false, 0, false, false, 0, 4294967295, none, (.const 0)⟩,
  ⟨P.LY_OPACITY, 0x5954494341504F5F594C, 8, false, 0, false, false, 0, 65536, none, (.const 65536)⟩,
  ⟨P.LY_BLEND, 0x444E454C425F594C, 8, false, 0, false, false, 0, 2, none, (.const 0)⟩,
  ⟨P.LY_FLAGS, 0x5347414C465F594C, 8, false, 0, false, false, 0, 3, none, (.const 0)⟩,
  ⟨P.LY_XFER, 0x524546585F594C, 8, false, 0, false, false, 0, 3, none, (.const 0)⟩,
  ⟨P.LY_WHITE, 0x45544948575F594C, 8, false, 0, false, false, 1, 16777215, none, (.const 1048576)⟩,
  ⟨P.LY_PHASES, 0x5345534148505F594C, 8, false, 0, false, false, 0, 4294967295, none, (.const 15)⟩,
  ⟨P.LY_SOURCE, 0x454352554F535F594C, 8, false, 0, false, false, 0, 2, none, (.const 0)⟩,
  ⟨P.LY_BASE_IN_FORCE, 0x4543524F465F4E495F455341425F594C, 8, true, 1, true, false, 0, 18446744073709551615, none, (.const 0)⟩,
  ⟨P.LI_PIPELINE, 0x454E494C455049505F494C, 8, false, 0, false, false, 0, 7, some 255, (.const 255)⟩,
  ⟨P.LI_POS, 0x534F505F494C, 8, false, 0, false, false, 0, 4294967295, none, (.const 0)⟩,
  ⟨P.LI_OPACITY, 0x5954494341504F5F494C, 8, false, 0, false, false, 0, 65536, none, (.const 65536)⟩,
  ⟨P.LI_BLEND, 0x444E454C425F494C, 8, false, 0, false, false, 0, 2, none, (.const 0)⟩,
  ⟨P.LI_PHASES, 0x5345534148505F494C, 8, false, 0, false, false, 0, 4294967295, none, (.const 15)⟩,
  ⟨P.LI_LOSS, 0x53534F4C5F494C, 8, false, 0, false, false, 0, 2, none, (.const 1)⟩,
  ⟨P.LI_FORCE_BUFFERED, 0x44455245464655425F4543524F465F494C, 8, false, 0, false, false, 0, 1, none, (.const 0)⟩,
  ⟨P.LI_MODE, 0x45444F4D5F494C, 8, false, 1, true, false, 0, 4294967295, none, (.const 0)⟩,
  ⟨P.LI_STALE_PERIODS, 0x53444F495245505F454C4154535F494C, 8, false, 0, false, false, 1, 16, none, (.const 2)⟩,
  ⟨P.LI_LOSS_COUNT, 0x544E554F435F53534F4C5F494C, 8, false, 3, true, false, 0, 4294967295, none, (.const 0)⟩,
  ⟨P.OC_EN, 0x4E455F434F, 0, false, 0, false, false, 0, 7, none, (.const 7)⟩,
  ⟨P.OC_MATRIX, 0x58495254414D5F434F, 9, false, 0, false, true, (-1048576), 1048575, none, (.list [65536, 0, 0, 0, 65536, 0, 0, 0, 65536])⟩,
  ⟨P.OC_PHASE_GAIN, 0x4E4941475F45534148505F434F, 4, false, 0, false, false, 0, 1048575, none, (.const 65536)⟩,
  ⟨P.OT_MODE, 0x45444F4D5F544F, 0, false, 0, false, false, 0, 1, none, (.const 0)⟩]

def paramsCanvas2 : List ParamRow := [
  ⟨P.OT_AUTO, 0x4F5455415F544F, 0, false, 0, false, false, 0, 1, none, (.const 1)⟩,
  ⟨P.OC_WHITE_NITS, 0x5354494E5F45544948575F434F, 0, false, 0, false, false, 1, 10000, none, (.const 500)⟩,
  ⟨P.OC_PEAK_NITS, 0x5354494E5F4B4145505F434F, 0, false, 0, false, false, 1, 10000, none, (.const 1500)⟩,
  ⟨P.OC_KNEE, 0x45454E4B5F434F, 0, false, 0, false, false, 500, 950, none, (.const 750)⟩,
  ⟨P.OC_DITHER, 0x5245485449445F434F, 0, false, 0, false, false, 0, 2, none, (.const 1)⟩,
  ⟨P.OC_DITHER_TEMPORAL, 0x4C41524F504D45545F5245485449445F434F, 0, false, 0, false, false, 0, 1, none, (.const 1)⟩,
  ⟨P.OC_UNIF_BANK, 0x4B4E41425F46494E555F434F, 0, false, 1, true, false, 0, 4294967295, none, (.const 0)⟩,
  ⟨P.OC_UNIF_FAULTS, 0x53544C5541465F46494E555F434F, 0, false, 1, true, false, 0, 4294967295, none, (.const 0)⟩,
  ⟨P.OC_CLIP_COUNT, 0x544E554F435F50494C435F434F, 0, false, 1, true, false, 0, 4294967295, none, (.const 0)⟩]

/-- The rows of the family Canvas (Table 2-11). -/
def paramsCanvas : List ParamRow := paramsCanvas0 ++ paramsCanvas1 ++ paramsCanvas2

def paramsMidway0 : List ParamRow := [
  ⟨P.MW_CTRL_RESERVE, 0x455652455345525F4C5254435F574D, 0, false, 0, false, false, 10, 100, none, (.const 25)⟩,
  ⟨P.MW_POLL_INTERVAL, 0x4C41565245544E495F4C4C4F505F574D, 0, false, 0, true, false, 1000, 1000000, none, (.const 10000)⟩,
  ⟨P.MW_DISCOVER_INTERVAL, 0x4C41565245544E495F5245564F435349445F574D, 0, false, 0, true, false, 10, 10000, none, (.const 100)⟩,
  ⟨P.MW_REVERT, 0x5452455645525F574D, 0, false, 0, true, false, 0, 1, none, (.const 1)⟩,
  ⟨P.MW_REVERT_HOLD, 0x444C4F485F5452455645525F574D, 0, false, 0, true, false, 10, 60000, none, (.const 1000)⟩,
  ⟨P.MW_LOOP_STATE, 0x45544154535F504F4F4C5F574D, 32, false, 1, true, false, 0, 4294967295, none, (.const 0)⟩,
  ⟨P.MW_REACH, 0x48434145525F574D, 32, false, 1, true, false, 0, 4294967295, none, (.const 0)⟩,
  ⟨P.MW_PORT_LOAD, 0x44414F4C5F54524F505F574D, 32, false, 1, true, false, 0, 4294967295, none, (.const 0)⟩,
  ⟨P.MW_ABANDONED, 0x44454E4F444E4142415F574D, 64, false, 3, true, false, 0, 4294967295, none, (.const 0)⟩,
  ⟨P.MW_UP_HCRC_ERRORS, 0x53524F5252455F435243485F50555F574D, 64, false, 3, true, false, 0, 4294967295, none, (.const 0)⟩,
  ⟨P.MW_UP_PCRC_ERRORS, 0x53524F5252455F435243505F50555F574D, 64, false, 3, true, false, 0, 4294967295, none, (.const 0)⟩,
  ⟨P.MW_FAILOVERS, 0x535245564F4C4941465F574D, 32, false, 3, true, false, 0, 4294967295, none, (.const 0)⟩,
  ⟨P.MW_ALARMS, 0x534D52414C415F574D, 32, false, 3, true, false, 0, 4294967295, none, (.const 0)⟩,
  ⟨P.PT_STATE, 0x45544154535F5450, 0, false, 1, true, false, 0, 4294967295, none, (.const 0)⟩,
  ⟨P.PT_WIDTH, 0x48544449575F5450, 0, false, 1, true, false, 0, 4294967295, none, (.const 0)⟩,
  ⟨P.PT_PARTNER_SERIAL, 0x4C41495245535F52454E545241505F5450, 0, true, 1, true, false, 0, 18446744073709551615, none, (.const 0)⟩,
  ⟨P.PT_LINK_DELAY, 0x59414C45445F4B4E494C5F5450, 0, false, 1, true, false, 0, 4294967295, none, (.const 0)⟩,
  ⟨P.PT_TIME_ERR, 0x5252455F454D49545F5450, 0, false, 1, true, true, (-2147483648), 2147483647, none, (.const 0)⟩,
  ⟨P.PT_HEARTBEAT_LOST, 0x54534F4C5F5441454254524145485F5450, 0, false, 3, true, false, 0, 4294967295, none, (.const 0)⟩,
  ⟨P.PT_TIMEOUT, 0x54554F454D49545F5450, 0, false, 0, true, false, 20, 1000, none, (.const 50)⟩]

/-- The rows of the family Midway (Table 2-11). -/
def paramsMidway : List ParamRow := paramsMidway0

def paramsLanes0 : List ParamRow := [
  ⟨P.LN_CAL_ENABLE, 0x454C42414E455F4C41435F4E4C, 28, false, 0, true, false, 0, 1, none, (.const 1)⟩,
  ⟨P.LN_CAL_DELTA, 0x41544C45445F4C41435F4E4C, 28, false, 0, true, false, 1, 15, none, (.const 4)⟩,
  ⟨P.LN_TRAPEZE, 0x455A45504152545F4E4C, 28, false, 0, true, false, 0, 1, none, (.const 1)⟩,
  ⟨P.LN_MEASURE, 0x4552555341454D5F4E4C, 28, false, 0, true, false, 0, 1, none, (.const 0)⟩,
  ⟨P.LN_QUALITY_MIN, 0x4E494D5F5954494C4155515F4E4C, 28, false, 0, true, false, 16, 224, none, (.const 64)⟩,
  ⟨P.LN_MON_INTERVAL, 0x4C41565245544E495F4E4F4D5F4E4C, 28, false, 0, true, false, 100, 60000, none, (.const 1000)⟩,
  ⟨P.LN_TX_PRESET, 0x5445534552505F58545F4E4C, 28, false, 0, false, false, 0, 7, none, (.const 4)⟩,
  ⟨P.LN_TX_SWING, 0x474E4957535F58545F4E4C, 28, false, 0, false, false, 400, 1000, none, (.const 800)⟩,
  ⟨P.LN_CAL_PARALLEL, 0x4C454C4C415241505F4C41435F4E4C, 0, false, 0, true, false, 1, 28, none, (.const 4)⟩,
  ⟨P.LN_TRAPEZE_LOOPS, 0x53504F4F4C5F455A45504152545F4E4C, 0, false, 0, true, false, 1, 32, none, (.const 8)⟩,
  ⟨P.LN_CAL_DEFER_LIMIT, 0x54494D494C5F52454645445F4C41435F4E4C, 0, false, 0, true, false, 10, 3600, none, (.const 60)⟩,
  ⟨P.LN_CAL_STATE, 0x45544154535F4C41435F4E4C, 28, false, 1, true, false, 0, 4294967295, none, (.const 0)⟩,
  ⟨P.LN_CAL_TEMP, 0x504D45545F4C41435F4E4C, 28, false, 1, true, true, (-2147483648), 2147483647, none, (.const 0)⟩,
  ⟨P.LN_CAL_LAST, 0x5453414C5F4C41435F4E4C, 28, true, 1, true, false, 0, 18446744073709551615, none, (.const 0)⟩,
  ⟨P.LN_CAL_RUNS, 0x534E55525F4C41435F4E4C, 28, false, 1, true, false, 0, 4294967295, none, (.const 0)⟩,
  ⟨P.LN_WORST, 0x5453524F575F4E4C, 28, false, 1, true, false, 0, 4294967295, none, (.const 0)⟩,
  ⟨P.LN_SCANS_ACTIVE, 0x4556495443415F534E4143535F4E4C, 0, false, 1, true, false, 0, 4294967295, none, (.const 0)⟩]

/-- The rows of the family Lanes (Table 2-11). -/
def paramsLanes : List ParamRow := paramsLanes0

def paramsMemory0 : List ParamRow := [
  ⟨P.MEM_CARVE_QUOTA, 0x41544F55515F45565241435F4D454D, 5, false, 2, false, false, 0, 4294967295, none, (.list [2048, 32768, 49152, 12288, 16384])⟩,
  ⟨P.MEM_CARVE_USED, 0x444553555F45565241435F4D454D, 5, false, 1, true, false, 0, 4294967295, none, (.const 0)⟩,
  ⟨P.MEM_CARVE_ORDER, 0x524544524F5F45565241435F4D454D, 5, false, 0, false, false, 0, 2, none, (.list [2, 1, 1, 2, 1])⟩,
  ⟨P.MEM_WINDOW_QUOTA, 0x41544F55515F574F444E49575F4D454D, 64, false, 2, true, false, 0, 4294967295, none, (.const 122880)⟩,
  ⟨P.MEM_WINDOW_USED, 0x444553555F574F444E49575F4D454D, 64, false, 1, true, false, 0, 4294967295, none, (.const 0)⟩,
  ⟨P.MEM_POOL_FREE, 0x454552465F4C4F4F505F4D454D, 0, false, 1, true, false, 0, 4294967295, none, (.const 0)⟩,
  ⟨P.MEM_RETRAIN_DELTA, 0x41544C45445F4E4941525445525F4D454D, 0, false, 0, true, false, 1, 15, none, (.const 4)⟩,
  ⟨P.MEM_RETRAIN_MAX, 0x58414D5F4E4941525445525F4D454D, 0, false, 0, true, false, 60, 86400, none, (.const 600)⟩,
  ⟨P.MEM_RETRAIN_TEMP, 0x504D45545F4E4941525445525F4D454D, 16, false, 1, true, true, (-2147483648), 2147483647, none, (.const 0)⟩,
  ⟨P.MEM_SCRUB_HOURS, 0x5352554F485F42555243535F4D454D, 0, false, 0, true, false, 1, 168, none, (.const 24)⟩,
  ⟨P.MEM_SCRUB_PROGRESS, 0x53534552474F52505F42555243535F4D454D, 0, false, 1, true, false, 0, 4294967295, none, (.const 0)⟩,
  ⟨P.MEM_CE_COUNT, 0x544E554F435F45435F4D454D, 16, false, 3, true, false, 0, 4294967295, none, (.const 0)⟩,
  ⟨P.MEM_UE_COUNT, 0x544E554F435F45555F4D454D, 16, false, 3, true, false, 0, 4294967295, none, (.const 0)⟩,
  ⟨P.MEM_RETIRED_ROWS, 0x53574F525F444552495445525F4D454D, 16, false, 1, true, false, 0, 4294967295, none, (.const 0)⟩,
  ⟨P.CXL_PORT_LINK, 0x4B4E494C5F54524F505F4C5843, 4, false, 1, true, false, 0, 4294967295, none, (.const 0)⟩,
  ⟨P.CXL_EXP_SERIAL, 0x4C41495245535F5058455F4C5843, 32, true, 1, true, false, 0, 18446744073709551615, none, (.const 0)⟩,
  ⟨P.CXL_EXP_STATE, 0x45544154535F5058455F4C5843, 32, false, 1, true, false, 0, 4294967295, none, (.const 0)⟩,
  ⟨P.CXL_EXP_PORT, 0x54524F505F5058455F4C5843, 32, false, 1, true, false, 0, 4294967295, none, (.const 0)⟩,
  ⟨P.CXL_EXP_CAPACITY, 0x59544943415041435F5058455F4C5843, 32, true, 1, true, false, 0, 18446744073709551615, none, (.const 0)⟩,
  ⟨P.CXL_EXP_POISON, 0x4E4F53494F505F5058455F4C5843, 32, false, 3, true, false, 0, 4294967295, none, (.const 0)⟩,
  ⟨P.CXL_REGION_STATE, 0x45544154535F4E4F494745525F4C5843, 32, false, 1, true, false, 0, 4294967295, none, (.const 0)⟩,
  ⟨P.CXL_REGION_BASE, 0x455341425F4E4F494745525F4C5843, 32, true, 1, true, false, 0, 18446744073709551615, none, (.const 0)⟩,
  ⟨P.CXL_REGION_SIZE, 0x455A49535F4E4F494745525F4C5843, 32, true, 1, true, false, 0, 18446744073709551615, none, (.const 0)⟩,
  ⟨P.CXL_PERSIST_TOTAL, 0x4C41544F545F545349535245505F4C5843, 0, true, 1, true, false, 0, 18446744073709551615, none, (.const 0)⟩]

def paramsMemory1 : List ParamRow := [
  ⟨P.CXL_VERIFY_DAYS, 0x535941445F5946495245565F4C5843, 0, false, 0, true, false, 1, 90, none, (.const 7)⟩,
  ⟨P.CXL_PATROL_HOURS, 0x5352554F485F4C4F525441505F4C5843, 0, false, 0, true, false, 12, 168, none, (.const 24)⟩,
  ⟨P.CXL_REMOVE_POLICY, 0x5943494C4F505F45564F4D45525F4C5843, 0, false, 0, true, false, 0, 2, none, (.const 0)⟩,
  ⟨P.CXL_VERIFY_PROGRESS, 0x53534552474F52505F5946495245565F4C5843, 0, false, 1, true, false, 0, 4294967295, none, (.const 0)⟩]

/-- The rows of the family Memory (Table 2-11). -/
def paramsMemory : List ParamRow := paramsMemory0 ++ paramsMemory1

def paramsRecording0 : List ParamRow := [
  ⟨P.FR_RESERVE_RATIO, 0x4F495441525F455652455345525F5246, 0, false, 0, false, false, 1000, 4000, none, (.const 1700)⟩,
  ⟨P.FR_BIN_SOURCES, 0x53454352554F535F4E49425F5246, 64, false, 0, false, false, 0, 16777215, none, (.const 0)⟩,
  ⟨P.FR_BIN_ARM, 0x4D52415F4E49425F5246, 64, false, 0, false, false, 0, 1, none, (.const 0)⟩,
  ⟨P.FR_BIN_QUOTA, 0x41544F55515F4E49425F5246, 64, false, 2, true, false, 0, 4294967295, none, (.const 0)⟩,
  ⟨P.FR_CLIP_PERIODS, 0x53444F495245505F50494C435F5246, 64, false, 0, false, false, 1, 3600, none, (.const 60)⟩,
  ⟨P.FR_TRIG_ENABLE, 0x454C42414E455F474952545F5246, 64, false, 0, true, false, 0, 1, none, (.const 0)⟩,
  ⟨P.FR_TRIG_PRE_MS, 0x534D5F4552505F474952545F5246, 64, false, 0, true, false, 0, 60000, none, (.const 5000)⟩,
  ⟨P.FR_TRIG_POST_MS, 0x534D5F54534F505F474952545F5246, 64, false, 0, true, false, 0, 60000, none, (.const 2000)⟩,
  ⟨P.FR_CHECKPOINT_MS, 0x534D5F544E494F504B434548435F5246, 0, false, 0, true, false, 100, 10000, none, (.const 1000)⟩,
  ⟨P.FR_WEAR_LAG, 0x47414C5F524145575F5246, 0, false, 0, true, false, 2, 1000, none, (.const 8)⟩,
  ⟨P.FR_BIN_STATE, 0x45544154535F4E49425F5246, 64, false, 1, true, false, 0, 4294967295, none, (.const 0)⟩,
  ⟨P.FR_BIN_USED, 0x444553555F4E49425F5246, 64, true, 1, true, false, 0, 18446744073709551615, none, (.const 0)⟩,
  ⟨P.FR_BIN_PROTECTED, 0x4445544345544F52505F4E49425F5246, 64, true, 1, true, false, 0, 18446744073709551615, none, (.const 0)⟩,
  ⟨P.FR_BIN_OLDEST, 0x545345444C4F5F4E49425F5246, 64, false, 1, true, false, 0, 4294967295, none, (.const 0)⟩,
  ⟨P.FR_GAP_FRAMES, 0x53454D4152465F5041475F5246, 8, false, 3, true, false, 0, 4294967295, none, (.const 0)⟩,
  ⟨P.FR_RATIO, 0x4F495441525F5246, 8, false, 1, true, false, 0, 4294967295, none, (.const 0)⟩,
  ⟨P.FR_RAW_BLOCKS, 0x534B434F4C425F5741525F5246, 8, false, 3, true, false, 0, 4294967295, none, (.const 0)⟩,
  ⟨P.FR_WB_USED, 0x444553555F42575F5246, 0, false, 1, true, false, 0, 4294967295, none, (.const 0)⟩,
  ⟨P.FR_DECODE_ERRORS, 0x53524F5252455F45444F4345445F5246, 8, false, 3, true, false, 0, 4294967295, none, (.const 0)⟩,
  ⟨P.CQ_PAIR_LIMIT, 0x54494D494C5F524941505F5143, 64, false, 2, true, false, 0, 16, none, (.const 16)⟩,
  ⟨P.CQ_PAIRS_IN_USE, 0x4553555F4E495F53524941505F5143, 0, false, 1, true, false, 0, 4294967295, none, (.const 0)⟩,
  ⟨P.CQ_FREEZES, 0x53455A454552465F5143, 64, false, 3, true, false, 0, 4294967295, none, (.const 0)⟩,
  ⟨P.BIN_ADMIN_RATE, 0x455441525F4E494D44415F4E4942, 0, false, 0, true, false, 500, 16000, none, (.const 8000)⟩,
  ⟨P.BIN_ADMIN_PROGRESS, 0x53534552474F52505F4E494D44415F4E4942, 64, false, 1, true, false, 0, 4294967295, none, (.const 0)⟩]

/-- The rows of the family Recording (Table 2-11). -/
def paramsRecording : List ParamRow := paramsRecording0

def paramsCodec0 : List ParamRow := [
  ⟨P.VC_STATE, 0x45544154535F4356, 0, false, 1, true, false, 0, 4294967295, none, (.const 0)⟩,
  ⟨P.VC_HOLDER, 0x5245444C4F485F4356, 0, false, 1, true, false, 0, 4294967295, none, (.const 255)⟩,
  ⟨P.VC_MODE, 0x45444F4D5F4356, 0, false, 1, true, false, 0, 4294967295, none, (.const 0)⟩,
  ⟨P.VC_DIV, 0x5649445F4356, 0, false, 0, false, false, 1, 8, none, (.const 1)⟩,
  ⟨P.VC_CAP_CANVAS, 0x5341564E41435F5041435F4356, 0, false, 0, false, false, 0, 15, none, (.const 0)⟩,
  ⟨P.VC_CAP_PHASE, 0x45534148505F5041435F4356, 0, false, 0, false, false, 0, 3, none, (.const 0)⟩,
  ⟨P.VC_CAP_RECT, 0x544345525F5041435F4356, 4, false, 0, false, false, 0, 4294967295, none, (.list [0, 0, 65535, 65535])⟩,
  ⟨P.VC_CAP_DECIM, 0x4D494345445F5041435F4356, 0, false, 0, false, false, 0, 10, none, (.const 0)⟩,
  ⟨P.VC_CAP_XFER, 0x524546585F5041435F4356, 0, false, 0, false, false, 0, 2, none, (.const 0)⟩,
  ⟨P.VC_CAP_WHITE, 0x45544948575F5041435F4356, 0, false, 0, false, false, 1, 16777215, none, (.const 1048576)⟩,
  ⟨P.VC_CAP_MATRIX, 0x58495254414D5F5041435F4356, 0, false, 0, false, false, 0, 1, none, (.const 1)⟩,
  ⟨P.VC_ENC_BIN, 0x4E49425F434E455F4356, 0, false, 0, false, false, 0, 63, some 255, (.const 255)⟩,
  ⟨P.VC_ENC_PROFILE, 0x454C49464F52505F434E455F4356, 0, false, 0, false, false, 0, 2, none, (.const 2)⟩,
  ⟨P.VC_BITRATE, 0x455441525449425F4356, 0, false, 0, false, false, 1000, 2000000, none, (.const 200000)⟩,
  ⟨P.VC_VBV_KBITS, 0x535449424B5F5642565F4356, 0, false, 0, false, false, 100, 200000, none, (.const 16000)⟩,
  ⟨P.VC_GOP, 0x504F475F4356, 0, false, 0, false, false, 1, 4096, none, (.const 120)⟩,
  ⟨P.VC_REFS, 0x534645525F4356, 0, false, 0, false, false, 1, 2, none, (.const 1)⟩,
  ⟨P.VC_QP_RANGE, 0x45474E41525F50515F4356, 0, false, 0, false, false, 0, 13107, none, (.const 13066)⟩,
  ⟨P.VC_I_WEIGHT, 0x5448474945575F495F4356, 0, false, 0, false, false, 16, 256, none, (.const 64)⟩,
  ⟨P.VC_SLICE_ROWS, 0x53574F525F4543494C535F4356, 0, false, 0, false, false, 0, 68, none, (.const 8)⟩,
  ⟨P.VC_DEC_MODE, 0x45444F4D5F4345445F4356, 0, false, 0, false, false, 0, 1, none, (.const 0)⟩,
  ⟨P.VC_DEC_PACE, 0x454341505F4345445F4356, 0, false, 0, false, false, 0, 15, some 255, (.const 255)⟩,
  ⟨P.VC_DEC_INTERVAL, 0x4C41565245544E495F4345445F4356, 0, false, 0, false, false, 4166666, 1000000000, none, (.const 16666667)⟩,
  ⟨P.VC_PICTURES, 0x53455255544349505F4356, 0, false, 3, true, false, 0, 4294967295, none, (.const 0)⟩]

def paramsCodec1 : List ParamRow := [
  ⟨P.VC_SKIPPED, 0x44455050494B535F4356, 0, false, 3, true, false, 0, 4294967295, none, (.const 0)⟩,
  ⟨P.VC_DAMAGED, 0x444547414D41445F4356, 0, false, 3, true, false, 0, 4294967295, none, (.const 0)⟩,
  ⟨P.VC_CLAMPED, 0x4445504D414C435F4356, 0, false, 3, true, false, 0, 4294967295, none, (.const 0)⟩,
  ⟨P.VC_KEYS, 0x5359454B5F4356, 0, false, 3, true, false, 0, 4294967295, none, (.const 0)⟩,
  ⟨P.VC_VBV_FULL, 0x4C4C55465F5642565F4356, 0, false, 1, true, false, 0, 4294967295, none, (.const 0)⟩,
  ⟨P.VC_BW_RESERVED, 0x44455652455345525F57425F4356, 0, false, 1, true, false, 0, 4294967295, none, (.const 0)⟩,
  ⟨P.VC_LOAD, 0x44414F4C5F4356, 0, false, 1, true, false, 0, 4294967295, none, (.const 0)⟩,
  ⟨P.VC_INPUT_FREE, 0x454552465F5455504E495F4356, 0, false, 1, true, false, 0, 4294967295, none, (.const 0)⟩]

/-- The rows of the family Codec (Table 2-11). -/
def paramsCodec : List ParamRow := paramsCodec0 ++ paramsCodec1

def paramsCalliope0 : List ParamRow := [
  ⟨P.AP_ENABLE, 0x454C42414E455F5041, 0, false, 0, false, false, 0, 1, none, (.const 0)⟩,
  ⟨P.AP_STATE, 0x45544154535F5041, 0, false, 1, true, false, 0, 4294967295, none, (.const 0)⟩,
  ⟨P.AP_RATE, 0x455441525F5041, 0, false, 0, false, false, 0, 3, none, (.const 1)⟩,
  ⟨P.AP_FORMAT, 0x54414D524F465F5041, 0, false, 0, false, false, 0, 15, none, (.const 1)⟩,
  ⟨P.AP_IN_MASK, 0x4B53414D5F4E495F5041, 0, false, 0, false, false, 0, 65535, none, (.const 65535)⟩,
  ⟨P.AP_OUT_MASK, 0x4B53414D5F54554F5F5041, 0, false, 0, false, false, 0, 65535, none, (.const 0)⟩,
  ⟨P.AP_ROUTE, 0x4554554F525F5041, 16, false, 0, false, false, 0, 255, none, (.route)⟩,
  ⟨P.AP_DELAY, 0x59414C45445F5041, 0, false, 0, false, false, 128, 768000, none, (.const 4800)⟩,
  ⟨P.AP_FADE_US, 0x53555F454441465F5041, 0, false, 0, false, false, 1000, 20000, none, (.const 5000)⟩,
  ⟨P.AP_GROUP, 0x50554F52475F5041, 0, false, 1, true, false, 0, 4294967295, none, (.const 255)⟩,
  ⟨P.AP_POSITION, 0x4E4F495449534F505F5041, 0, true, 1, true, false, 0, 18446744073709551615, none, (.const 0)⟩,
  ⟨P.AP_POS_TIME, 0x454D49545F534F505F5041, 0, true, 1, true, false, 0, 18446744073709551615, none, (.const 0)⟩,
  ⟨P.AP_RATE_ERR, 0x5252455F455441525F5041, 0, false, 1, true, false, 0, 4294967295, none, (.const 0)⟩,
  ⟨P.AP_FADES, 0x53454441465F5041, 0, false, 3, true, false, 0, 4294967295, none, (.const 0)⟩,
  ⟨P.AP_FRAMING_ERRORS, 0x53524F5252455F474E494D4152465F5041, 0, false, 3, true, false, 0, 4294967295, none, (.const 0)⟩,
  ⟨P.AP_SLIPS, 0x5350494C535F5041, 0, false, 3, true, false, 0, 4294967295, none, (.const 0)⟩]

/-- The rows of the family Calliope (Table 2-11). -/
def paramsCalliope : List ParamRow := paramsCalliope0

def paramsHk0 : List ParamRow := [
  ⟨P.HK_READING, 0x474E49444145525F4B48, 32, false, 1, true, false, 0, 4294967295, none, (.const 0)⟩,
  ⟨P.HK_MIN, 0x4E494D5F4B48, 32, false, 3, true, false, 0, 4294967295, none, (.const 0)⟩,
  ⟨P.HK_MAX, 0x58414D5F4B48, 32, false, 3, true, false, 0, 4294967295, none, (.const 0)⟩,
  ⟨P.HK_LIMIT_LO, 0x4F4C5F54494D494C5F4B48, 32, false, 0, true, false, 0, 65535, none, (.hkLo)⟩,
  ⟨P.HK_LIMIT_HI, 0x49485F54494D494C5F4B48, 32, false, 0, true, false, 0, 65535, none, (.hkHi)⟩,
  ⟨P.HK_ROUNDS, 0x53444E554F525F4B48, 0, false, 3, true, false, 0, 4294967295, none, (.const 0)⟩,
  ⟨P.TH_WARN, 0x4E5241575F4854, 0, false, 0, true, false, 60, 105, none, (.const 95)⟩,
  ⟨P.TH_THROTTLE, 0x454C54544F5248545F4854, 0, false, 0, true, false, 70, 110, none, (.const 103)⟩,
  ⟨P.TH_SHUTDOWN, 0x4E574F44545548535F4854, 0, false, 2, true, false, 105, 125, none, (.const 115)⟩,
  ⟨P.TH_HYST, 0x545359485F4854, 0, false, 0, true, false, 1, 15, none, (.const 5)⟩,
  ⟨P.TH_STEP_MS, 0x534D5F504554535F4854, 0, false, 0, true, false, 50, 5000, none, (.const 250)⟩,
  ⟨P.TH_STEP_MAX, 0x58414D5F504554535F4854, 0, false, 2, true, false, 0, 6, none, (.const 6)⟩,
  ⟨P.TH_STEP, 0x504554535F4854, 0, false, 1, true, false, 0, 4294967295, none, (.const 0)⟩,
  ⟨P.TH_HOTTEST, 0x54534554544F485F4854, 0, false, 1, true, false, 0, 4294967295, none, (.const 0)⟩,
  ⟨P.MB_ADDR, 0x524444415F424D, 4, false, 2, false, false, 0, 511, none, (.list [0x1D8, 0, 0, 0])⟩,
  ⟨P.MB_ADDR_MODE, 0x45444F4D5F524444415F424D, 0, false, 2, false, false, 0, 1, none, (.const 0)⟩,
  ⟨P.MB_ADDR_MASK, 0x4B53414D5F524444415F424D, 0, false, 2, false, false, 0, 127, none, (.const 0)⟩,
  ⟨P.MB_FILTER, 0x5245544C49465F424D, 0, false, 0, true, false, 1, 10, none, (.const 3)⟩,
  ⟨P.MB_SETUP, 0x50555445535F424D, 0, false, 0, true, false, 1, 10, none, (.const 1)⟩,
  ⟨P.MB_HOLD, 0x444C4F485F424D, 0, false, 0, true, false, 1, 150, none, (.const 15)⟩,
  ⟨P.MB_STRETCH_LIMIT, 0x54494D494C5F484354455254535F424D, 0, false, 0, true, false, 100, 25000, none, (.const 1000)⟩,
  ⟨P.MB_BUS_TIMEOUT, 0x54554F454D49545F5355425F424D, 0, false, 0, true, false, 10, 100, none, (.const 35)⟩,
  ⟨P.MB_PEC_REQUIRED, 0x44455249555145525F4345505F424D, 0, false, 0, true, false, 0, 1, none, (.const 1)⟩,
  ⟨P.MB_PEC_ERRORS, 0x53524F5252455F4345505F424D, 0, false, 3, true, false, 0, 4294967295, none, (.const 0)⟩]

def paramsHk1 : List ParamRow := [
  ⟨P.MB_ABORTS, 0x5354524F42415F424D, 0, false, 3, true, false, 0, 4294967295, none, (.const 0)⟩,
  ⟨P.MB_SLOT_ERRORS, 0x53524F5252455F544F4C535F424D, 0, false, 3, true, false, 0, 4294967295, none, (.const 0)⟩,
  ⟨P.MB_RESETS, 0x5354455345525F424D, 0, false, 3, true, false, 0, 4294967295, none, (.const 0)⟩,
  ⟨P.MB_LAST_ADDR, 0x524444415F5453414C5F424D, 0, false, 1, true, false, 0, 4294967295, none, (.const 0)⟩,
  ⟨P.BG_ENABLE, 0x454C42414E455F4742, 4, false, 0, true, false, 0, 1, none, (.const 1)⟩,
  ⟨P.BG_SHARE, 0x45524148535F4742, 4, false, 0, true, false, 1, 100, none, (.list [40, 30, 20, 10])⟩,
  ⟨P.BG_STATE, 0x45544154535F4742, 11, false, 1, true, false, 0, 4294967295, none, (.const 0)⟩,
  ⟨P.BG_TELEMETRY_MS, 0x534D5F595254454D454C45545F4742, 0, false, 0, true, false, 100, 60000, none, (.const 1000)⟩]

/-- The rows of the family Hk (Table 2-11). -/
def paramsHk : List ParamRow := paramsHk0 ++ paramsHk1

/-- The Table 14-4 limits of channel `i`, low then high. -/
def hkDefaultLimits (i : Nat) : Nat × Nat :=
  if i = 5 then (11400, 12600) else if 6 ≤ i ∧ i ≤ 9 then (12160, 13440)
  else if i = 10 then (13680, 15120) else if i = 11 then (18240, 20160)
  else if i = 12 then (12920, 14280) else if i = 13 then (27360, 30240)
  else if i = 14 then (50160, 55440) else (0, 65535)

/-- The default of element `idx` of instance `inst`. -/
def Dflt.eval (d : Dflt) (inst idx : Nat) : Nat :=
  match d with
  | .const n => n
  | .list l => l.getD idx 0
  | .sigma => 64 + 12 * idx
  | .alpha => min 0x8000 (0x1000 + idx * 0x0800)
  | .zorder => (idx + 8) % 16
  | .pso => if inst = 0 then 1 <<< idx else 0
  | .hkLo => (hkDefaultLimits idx).1
  | .hkHi => (hkDefaultLimits idx).2
  | .route => (idx <<< 4) ||| inst

/-- A parameter identifier as its identifier in instance 0 of its family and its instance (R66). -/
def paramBase (id : Nat) : Nat × Nat :=
  if id < 0x100 then (id, 0)
  else if id < 0x400 then (0x100 + (id - 0x100) % 0x60, (id - 0x100) / 0x60)
  else if id < 0xC00 then (0x400 + id % 0x100, (id - 0x400) / 0x100)
  else if id < 0x1400 then (0xC00 + id % 0x80, (id - 0xC00) / 0x80)
  else if id < 0x1600 then (0x1400 + id % 0x20, (id - 0x1400) / 0x20)
  else if id < 0x17C0 then (id, 0)
  else if id < 0x1800 then (0x17C0 + id % 0x20, (id - 0x17C0) / 0x20)
  else if id < 0x1900 then (0x1800 + id % 0x10, (id - 0x1800) / 0x10)
  else (id, 0)

/-- The family rows an instance 0 identifier is looked up in. -/
def paramFamily (id0 : Nat) : List ParamRow :=
  if id0 < 0x100 then paramsDevice else if id0 < 0x400 then paramsCamera
  else if id0 < 0xC00 then paramsPipeline else if id0 < 0x1400 then paramsCanvas
  else if id0 < 0x1600 then paramsMidway else if id0 < 0x1700 then paramsLanes
  else if id0 < 0x1780 then paramsMemory else if id0 < 0x17C0 then paramsRecording
  else if id0 < 0x1800 then paramsCodec else if id0 < 0x1900 then paramsCalliope
  else if id0 < 0x1980 then paramsHk else []

/-- The row of an assigned identifier. The partner link parameters PT_* exist once, in the block of port group 0 (R240). -/
def paramRow? (id : Nat) : Option ParamRow :=
  let b := paramBase id
  if 0x1418 ≤ b.1 ∧ b.1 ≤ 0x141E ∧ b.2 ≠ 0 then none
  else (paramFamily b.1).find? fun r => r.id == b.1

/-- The value of an element after cold reset (R70), where no strap or configuration bears on it. -/
def paramDefault (id idx : Nat) : Nat :=
  match paramRow? id with
  | some r => r.dflt.eval (paramBase id).2 idx
  | none => 0

/-- The register file key of an element. -/
abbrev pkey (id idx : Nat) : Nat := id * 4096 + idx

/-- The default read at a register file key. -/
abbrev pdef (k : Nat) : Nat := paramDefault (k / 4096) (k % 4096)

end Sys2Proof.Machine
end

