-- ==== Sys2Proof/Machine/State.lean ====
section
/-! DEFINITION. The state of the TLX-1024 as plain data: the command queue, the parameter register file, and the state of each subsystem;
the faults and refusals a step can end in; the state at reset. -/

namespace Sys2Proof.Machine

/-- Why a step stops. -/
inductive Fault where
  /-- A command names a unit, lane, port, index or time that the device does not have (`Instr.wellFormed` is false), so no such event
  can happen at the hardware. Raised by every meaning through `guarded`. Safe. -/
  | noSuchUnit
  deriving DecidableEq, Repr

/-- Why a command has no meaning. -/
inductive Refusal where
  /-- The command has not been given its meaning yet. Raised by an arm of `exec` alone. Safe. -/
  | notModelled (mnemonic : String)
  deriving DecidableEq, Repr

/-! ## Control (01, 02) -/

/-- How far the device has come after VAUX became valid (R426, R52). -/
inductive Boot where
  /-- VAUX is absent: the device is unpowered (R436). -/
  | off
  /-- PWRGD is low: only the VAUX domain runs (R406). -/
  | auxOnly
  /-- PWRGD has risen: PLLs lock, the boot code checks the images and LPDDR5X trains. -/
  | training
  /-- An image runs; CXL ports train and expanders are enumerated. -/
  | starting
  /-- Start-up is complete. -/
  | running
  /-- No slot holds a valid image: the boot code serves W00 (R82). -/
  | recoveryImage
  /-- LPDDR5X training failed (R289). -/
  | recoveryDram
  deriving DecidableEq, Repr

/-- The states of a client window (R52). RECOVERY is W00's alone and follows `Boot`. -/
inductive WinState where
  | closed | opened | recovery
  deriving DecidableEq, Repr

/-- A reply record (R56, Table 2-5). `result` holds the result bytes as a little-endian number. -/
structure Reply where
  status : Nat := 0
  tag : Nat := 0
  final : Bool := false
  len : Nat := 0
  seq : Nat := 0
  opcode : Nat := 0
  result : Nat := 0
  deriving DecidableEq, Repr

/-- One client window (Tables 2-2, 2-3), or as number 64 the management bus's slots (R399). -/
structure Window where
  state : WinState := .closed
  /-- Slot bytes at slot × 256 + offset. -/
  slots : SMap Byte := []
  busy : Nat := 0
  ready : Nat := 0
  derr : Nat := 0
  /-- Slots rung and not yet taken by Aipex. -/
  rung : Nat := 0
  /-- Rung bus slots whose address was PRIVILEGED (R405). -/
  rungPriv : Nat := 0
  replies : SMap Reply := []
  base : Nat := 0
  sizeLog2 : Nat := 0
  head : Nat := 0
  tail : Nat := 0
  /-- Records written since the window opened; its pass through the ring gives the phase bit (R76). -/
  written : Nat := 0
  lost : Nat := 0
  tailRejects : Nat := 0
  mask : Nat := 0
  pendLoss : Nat := 0
  firstLoss : Nat := 0
  deriving DecidableEq, Repr

/-- A command Aipex has taken and that has no final reply yet. `ticket` orders the commands of a window (R34). -/
structure Flight where
  ticket : Nat
  opcode : Nat
  cmd : Cmd
  priv : Bool
  started : Bool := false
  /-- Its POWER_HELD reply has been written (R434). -/
  held : Bool := false
  deriving DecidableEq, Repr

/-- One view of the device status word (R59): its latched bits, its sequence number, and 1 + the Aipex tick in which it last advanced. -/
structure View where
  fault : Bool := false
  config : Bool := false
  fwNotice : Bool := false
  seq : Nat := 0
  adv : Nat := 0
  deriving DecidableEq, Repr

/-- A fault log entry (Table 2-25). -/
structure FaultEntry where
  seq : Nat
  time : Nat
  cls : Nat
  idx : Nat
  code : Nat
  detail : Nat
  deriving DecidableEq, Repr

/-- The conditions that raise SERVICE_NEEDED (R59), each with its cause. -/
inductive ServiceCond where
  | holdover                     -- R20
  | binOver (bin : Nat)          -- R44
  | loop (lp : Nat)              -- R226
  | loopOverload (lp : Nat)      -- R229
  | pairMismatch (lp : Nat)      -- R236
  | calDeferred (lg : Nat)       -- R264
  | rowPool (chan bank : Nat)    -- R286
  | hkLimit (chan : Nat)         -- R409
  | throttle                     -- R411
  deriving DecidableEq, Repr

/-- What a staged change is (R36, R72). -/
inductive StagedWhat where
  /-- Parameter writes: identifier, index, value. -/
  | params (l : List (Nat × Nat × Nat))
  /-- Table copies to swap in: table, its number, contents. -/
  | tables (l : List (Nat × Nat × SMap Byte))
  /-- A lane's transmit preset, or none to follow its group's (R271). -/
  | laneTx (lane : Nat) (preset : Option Nat)
  /-- MW_CTRL_RESERVE of one loop (R239). -/
  | reserve (lp v : Nat)
  deriving DecidableEq, Repr

/-- A change staged until every boundary of `ats` falls at one instant (R69). `ticket` is the command that still waits for its
final reply; `left` counts the master periods before NO_COMMON_BOUNDARY. -/
structure Staged where
  ats : List Boundary
  what : StagedWhat
  ticket : Option Nat
  left : Nat
  deriving DecidableEq, Repr

/-- A table's staging copy (R72). -/
structure Staging where
  table : Nat
  num : Nat
  owner : Nat
  bytes : SMap Byte
  /-- Its 4 KiB blocks that have been written (Table 5-10, step 2). -/
  touched : List Nat := []
  deriving DecidableEq, Repr

/-- A firmware slot in the boot flash (R81 to R84). -/
structure FwSlot where
  image : List Byte := []
  /-- Bytes staged so far since the FIRST chunk. -/
  next : Nat := 0
  valid : Bool := false
  release : Nat := 0
  security : Nat := 0
  key : Nat := 0
  /-- A staged valid image stands in Aipex private memory. -/
  staged : Bool := false
  deriving DecidableEq, Repr

/-- A hitless switchover in progress (Table 2-22). -/
structure Switchover where
  start : Nat
  imported : Bool
  ticket : Nat
  raiseFloor : Bool
  deriving DecidableEq, Repr

/-- What the device knows of one partner (R46). -/
structure Partner where
  present : Bool := false
  since : Nat := 0
  reported : Bool := false
  departs : List Nat := []
  quarantined : Bool := false
  qPosted : Bool := false
  /-- Source class × 4096 + index of its records. -/
  src : Nat := 0
  /-- The identity its PARTNER_ARRIVED record carries. -/
  payload : Nat := 0
  deriving DecidableEq, Repr

/-- What the device sends on its lanes and pins: the model's own log. -/
inductive Tx where
  /-- An ordered set on a camera group's return channel: its second symbol as a code, and its data bytes. -/
  | camSet (g kind d1 d2 d3 : Nat)
  | camPkt (g : Nat) (hdr payload : List Byte)
  | tileSet (port kind d1 d2 d3 : Nat)
  | tilePkt (port : Nat) (hdr payload : List Byte)
  | partnerSet (kind d1 d2 d3 : Nat)
  | partnerPkt (hdr payload : List Byte)
  | lane (lane kind d1 d2 d3 : Nat)
  | bus (bytes : List Byte)
  | busNak
  | msix (win vector : Nat)
  | audio (port : Nat) (slots : List Nat)
  | dram (kind chan arg : Nat)
  | cxl (kind slot : Nat) (args : List Nat)
  /-- Held back: it leaves at tick `t`, when the window in progress ends (R261, R262). -/
  | later (t : Nat) (x : Tx)
  deriving DecidableEq, Repr

/-- Ringmaster beyond its parameters (R20 to R22). Times are in units of 2^-16 ns. -/
structure Ringmaster where
  lastValid : Nat := 0
  invalid : Nat := 0
  prevEdge : Option Nat := none
  run : Nat := 0
  /-- The valid intervals measured since ACQUIRE was entered, newest first, at most 16. -/
  intervals : List Nat := []
  period : Nat := 1092266666667
  boundary : Nat := 0
  next : Nat := 1092266666667
  /-- The tick at which TRIG_IN was armed. -/
  armedAt : Nat := 0
  /-- The frame tag of the master period in progress. -/
  tag : Nat := 0
  deriving DecidableEq, Repr

/-- The control plane: windows, status views, commands in progress, staged changes, tables, firmware, partners. -/
structure Control where
  boot : Boot := .auxOnly
  perstN : Bool := false
  fwReady : Bool := false
  restarting : Bool := false
  switch : Option Switchover := none
  /-- Final replies that wait until Aipex runs again: ticket, code, length, result (Table 1-2). -/
  heldReplies : List (Nat × Nat × Nat × Nat) := []
  wins : SMap Window := []
  views : List View := List.replicate 65 {}
  faultLog : List FaultEntry := []
  faultNext : Nat := 1
  vfEnable : Bool := false
  numVfs : Nat := 0
  ticket : Nat := 1
  flights : List Flight := []
  /-- Parameter elements claimed, with the claiming window and the Aipex tick (R68). -/
  claims : List (Nat × Nat × Nat) := []
  service : List ServiceCond := []
  staged : List Staged := []
  /-- The boundaries reached at the newest instant, and that instant (R69). -/
  reached : List Boundary := []
  reachedAt : Nat := 0
  tables : SMap Byte := []
  staging : List Staging := []
  fwA : FwSlot := { valid := true, release := 0x04010000 }
  fwB : FwSlot := {}
  /-- The slot marked active for the next cold reset: 0 A, 1 B. -/
  bootSlot : Nat := 0
  fwFloor : Nat := 0
  revoked : Nat := 0
  partners : SMap Partner := []
  hostMem : SMap Byte := []
  /-- Environment: ranges of host memory, base and length, on which DMA fails. -/
  hostFault : List (Nat × Nat) := []
  /-- PCIe errors reported under AER (R80). -/
  aer : Nat := 0
  deriving DecidableEq, Repr

/-! ## Housekeeping, background work, management bus, power (14, 15) -/

/-- A diode channel's run of invalid and valid rounds and the thresholds it is at or above (R408, R410). -/
structure Diode where
  badRun : Nat := 0
  goodRun : Nat := 0
  faulty : Bool := false
  /-- [0] warning, [1] throttle, [2] shutdown crossed rising. -/
  above : Nat := 0
  deriving DecidableEq, Repr

/-- A background task's progress (R414, Table 14-9); its state code is BG_STATE. -/
structure BgTask where
  due : Bool := false
  progress : Nat := 0
  runs : Nat := 0
  last : Nat := 0
  deriving DecidableEq, Repr

structure House where
  next : Nat := 0
  diodes : List Diode := List.replicate 5 {}
  /-- THERMTRIP_N is driven low. -/
  trip : Bool := false
  /-- Since the trip, consecutive rounds with every valid diode below the release level. -/
  coolRound : Bool := false
  /-- When the throttle step last changed, or its timer last restarted. -/
  stepTime : Nat := 0
  /-- Bits of channels out of limits, and whether above (1) or below (0). -/
  outHigh : Nat := 0
  /-- Channels of which a reading has been taken since reset (R420). -/
  seen : Nat := 0
  tasks : List BgTask := List.replicate 11 {}
  powerMw : Nat := 0
  d2d : List Nat := [0, 0, 0, 0]
  telemetryTime : Nat := 0
  /-- Scrub passes posted behind: bit 32 the patrol scrub, bit r region r. -/
  behind : Nat := 0
  patrolStart : Nat := 0
  verifyStart : SMap Nat := []
  lastRound : Nat := 0
  deriving DecidableEq, Repr

/-- The management bus target beyond its slots, which are window 64 of the control plane (R395 to R406). -/
structure Bus where
  /-- The straps sampled when VAUX became valid (R396). -/
  mgtAddr : Nat := 0
  deriving DecidableEq, Repr

/-- How far a power-state change has come (Tables 15-6, 15-7). -/
inductive PwStep where
  | none | toIntermission | toShow | handover | awaitBoundary | draining | flushing | sleeping | exiting
  deriving DecidableEq, Repr

structure Power where
  step : PwStep := .none
  start : Nat := 0
  /-- POWER_STATE_SETs that wait for the target. -/
  tickets : List Nat := []
  /-- An entry to DARK follows once INTERMISSION is reached: 2, or with HANDOVER 0x102. -/
  thenTarget : Option Nat := Option.none
  /-- POWER_CHANGE reason of the change in progress. -/
  reason : Nat := 0
  /-- A held command asks for an exit from DARK once it is reached (R434). -/
  exitWanted : Bool := false
  /-- PW_DARK_RETURN_MS counts from here after an automatic exit (R435). -/
  returnFrom : Option Nat := Option.none
  /-- Canvases still to finish the show period in progress, or to resume. -/
  canvases : List Nat := []
  /-- The tick of the cold reset that DEVICE_RESET ordered (R428). -/
  resetAt : Option Nat := Option.none
  /-- REFCLK_CORE is present. -/
  refclk : Bool := true
  /-- The device is to stop once its Global Persistent Flush is complete: the reset code that follows (R424), or 0 for PWRGD low. -/
  stop : Option Nat := Option.none
  /-- The PCIe clocking mode that PERST_N's rise sampled (R455). -/
  clkMode : Nat := 0
  deriving DecidableEq, Repr


/-! ## Camera link (03) -/

/-- What a head's IDENTITY says (Table 3-5). -/
structure Head where
  serial : Nat := 0
  vendor : Nat := 0
  model : Nat := 0
  caps : Nat := 0
  turn : Nat := 0
  fsDelay : Nat := 0
  jitter : Nat := 0
  deriving DecidableEq, Repr

/-- An EXPOSE sent to a head: the last FRAME_NUMBER received before it, or how many frames have been received since (R99). -/
structure Exposed where
  after : Option Nat
  frames : Nat := 0
  id : Nat
  deriving DecidableEq, Repr

/-- A frame as the demultiplexer assembles it, with its descriptor (R106, R107, R110). -/
structure Frame where
  number : Nat := 0
  settings : Nat := 0
  inferred : Bool := false
  damaged : Bool := false
  gated : Bool := false
  tnrNoRef : Bool := false
  tag : Nat := 0
  start : Nat := 0
  exposure : Nat := 0
  fmt : Format := {}
  /-- Each line's photosite codes, and whether it was replaced at ingest. -/
  lines : List (List Nat × Bool) := []
  embedded : List (List Byte) := []
  /-- The photosites whose reference value had not returned when they reached the blend (R131). -/
  late : List (Nat × Nat) := []
  complete : Bool := false
  /-- The reference became invalid while the frame was being received, so that the frame does not make it valid again (R132). -/
  refStale : Bool := false
  deriving DecidableEq, Repr

/-- What the demultiplexer does with the open frame of a virtual channel (R109). -/
inductive OpenFrame where
  | none | orphan | pipe (p : Nat)
  deriving DecidableEq, Repr

/-- A sensor, by group × 4 + virtual channel. -/
structure Sensor where
  present : Bool := false
  serial : Nat := 0
  fmt : Format := {}
  /-- A newly announced format, in force from the next FRAME_START (R94). -/
  next : Option Format := none
  lastNumber : Option Nat := none
  exposed : List Exposed := []
  settings : Nat := 0
  inferred : Bool := false
  openFrame : OpenFrame := .none
  orphanPosted : Bool := false
  /-- The newest line number of a lost frame that is being received, once it has been counted (R106). -/
  lostLine : Option Nat := none
  lastStart : Nat := 0
  /-- The tick at which its last FRAME_END ended (Table 8-8). -/
  lastEnd : Nat := 0
  /-- HEAD_SERIAL of the head that announced it last (R105). -/
  head : Nat := 0
  /-- FORMAT_REJECT has been posted for the newest VC_ANNOUNCE (Table 3-12). -/
  rejectPosted : Bool := false
  /-- The TSYNC target aimed at last, in units of 2^-16 ns (R95). -/
  aimed : Nat := 0
  deriving DecidableEq, Repr

/-- A camera group beyond its parameters. -/
structure CamGroup where
  /-- Logical lane named by each physical lane. -/
  lanes : SMap Nat := []
  /-- The physical lane that the head drives as LSP (R86). -/
  lsp : Nat := 16
  /-- The ASEQ of the device's own next ALIGN column (R87). -/
  aseqTx : Nat := 0
  headWidth : Nat := 0
  lastAseq : Nat := 0
  alignedRun : Nat := 0
  /-- The device sends ALIGN with TRAINING = 0. -/
  trained : Bool := false
  /-- The lane asked for on LSP in training, or substituted there. -/
  askSpare : Option Nat := none
  lspSeen : Bool := false
  /-- LANE_MAP sent: lane (255 none) and the ASEQ from which it applies. -/
  pendingMap : Option (Nat × Nat) := none
  badLanes : Nat := 0
  discovers : Nat := 0
  head : Option Head := none
  pseq : Nat := 0
  /-- PROBEs without an echo: PSEQ and time sent. -/
  probes : List (Nat × Nat) := []
  probesDone : Nat := 0
  /-- Round trips of the last 16 echoes, newest first. -/
  echoes : List Nat := []
  lostRun : Nat := 0
  tseq : Nat := 0
  /-- TSYNCs sent, newest first: TSEQ and the frame tag in progress. -/
  tsyncs : List (Nat × Nat) := []
  tsyncTime : Nat := 0
  retSeq : SMap Nat := []
  fwdSeq : SMap Nat := []
  /-- Packets missing from the forward sequence (R90). -/
  seqLost : Nat := 0
  status : Nat := 0
  /-- Control commands waiting for a CTRL_REPLY: tag and ticket. -/
  ctrl : List (Nat × Nat) := []
  ctrlTag : Nat := 0
  /-- The frame tag stamped on the group's newest frame (R77). -/
  lastTag : Option Nat := none
  /-- IDENTITY has been received since IDENTIFY was entered. -/
  identified : Bool := false
  /-- Logical lanes that missed the last ALIGN column (R104). -/
  missed : Nat := 0
  /-- The lane that the head mirrors on LSP. -/
  mirror : Option Nat := none
  deriving DecidableEq, Repr

structure Camera where
  groups : SMap CamGroup := []
  sensors : SMap Sensor := []
  deriving DecidableEq, Repr

/-! ## Pipelines and colour (04, 05) -/

/-- A binding: sensor position and the identities it matches, 0 matching any (R111, R113). -/
structure Binding where
  sensor : Nat
  head : Nat := 0
  serial : Nat := 0
  deriving DecidableEq, Repr

/-- A binding change accepted and not yet in force; `none` unbinds (R111). -/
structure BindChange where
  target : Option Binding
  /-- The sensor whose FRAME_START makes it effective. -/
  sensor : Nat
  ticket : Option Nat
  deriving DecidableEq, Repr

/-- A complete statistics record (Table 4-7): its header values, and the contents after the header. -/
structure StatRecord where
  tag : Nat := 0
  number : Nat := 0
  settings : Nat := 0
  flags : Nat := 0
  bytes : List Byte := []
  deriving DecidableEq, Repr

/-- A pipeline beyond its parameters. -/
structure Pipe where
  bind : Option Binding := none
  change : Option BindChange := none
  frames : Nat := 0
  fmt : Option Format := none
  /-- The format that was in force last: the size at which a lost input is blanked (R198). -/
  lastFmt : Option Format := none
  rejected : Bool := false
  /-- The frame being received, and the last one delivered. -/
  cur : Option Frame := none
  last : Option Frame := none
  /-- Black levels tracked, in force from the next frame start (R123). -/
  nextBlack : List Nat := []
  /-- Channels that stand at a clamp limit: upper bits 4-7, lower bits 0-3. -/
  limits : Nat := 0
  /-- The decoded-to-be reference in force, by line, and the one the last frame wrote (R130). -/
  ref : List (List Nat) := []
  refNext : List (List Nat) := []
  refBase : Nat := 0
  /-- The buffer or bandwidth could not be had (Table 4-4 reason 4). -/
  tnrStarved : Bool := false
  /-- The statistics record of the last delivered frame while it is not complete (R145). -/
  building : Option StatRecord := none
  /-- The last four complete statistics records, newest first (R146). -/
  records : List StatRecord := []
  /-- Frames delivered since the settings ID gate was set (R148). -/
  gateFrames : Nat := 0
  /-- PL_SID_GATE_TIMEOUT delivered frames have passed (R148). -/
  gateExpired : Bool := false
  /-- The settings ID of a gate that a write of 0 released, until the next frame start. -/
  gateReleased : Nat := 0
  deriving DecidableEq, Repr

/-- An outstanding COLOUR_PROBE (R177). -/
structure Probe where
  canvas : Bool
  unit : Nat
  phase : Nat
  x : Nat
  y : Nat
  ticket : Nat
  /-- When Aipex took the command. -/
  since : Nat := 0
  /-- The result captured from the frame or show period begun first after it. -/
  result : Option Nat := none
  deriving DecidableEq, Repr

/-- A commit of UNIF_CELLS under way (Table 5-10). -/
structure UnifCommit where
  bytes : SMap Byte
  copied : Bool := false
  waiting : List Nat := []
  ticket : Option Nat := none
  deriving DecidableEq, Repr

structure Colour where
  /-- Outstanding probes by slot 0 to 3. -/
  probes : SMap (Option Probe) := []
  /-- Contents of the two uniformity banks by byte offset. -/
  bank0 : SMap Byte := []
  bank1 : SMap Byte := []
  commit : Option UnifCommit := none
  /-- The bank that the newest commit filled. -/
  newest : Nat := 0
  /-- Tiles under a binding fault: loop × 32 + hop - 1. -/
  faults : List Nat := []
  /-- Cells with an uncorrectable error (R172). -/
  badCells : List Nat := []
  /-- The 4 KiB blocks that the commit of UNIF_CELLS in progress changes (Table 5-10). -/
  dirty : List Nat := []
  deriving DecidableEq, Repr

/-! ## Canvases (06) -/

/-- One of a frame store's three buffers (R197): the picture in it, when its fence completed, and whether it has. -/
structure StoreBuf where
  img : List (List Rgb) := []
  /-- When its frame was delivered. -/
  written : Nat := 0
  doneAt : Nat := 0
  complete : Bool := false
  deriving DecidableEq, Repr

/-- The frame store of a pipeline (R197). -/
structure FrameStore where
  base : Nat
  width : Nat
  height : Nat
  bufs : List StoreBuf := [{}, {}, {}]
  newest : Option Nat := none
  /-- The buffer whose frame awaits its fence. -/
  writing : Option Nat := none
  deriving DecidableEq, Repr

/-- A canvas beyond its parameters. Times are in units of 2^-16 ns (R181). -/
structure Canvas where
  /-- Held by the power state: it composes nothing (R429). -/
  held : Bool := true
  /-- *S* of the show period in progress, and of the next. -/
  start : Nat := 0
  next : Nat := 0
  /-- *S* of the show period before, while the canvas has run it. -/
  prevStart : Option Nat := none
  /-- What `start` and `next` fall short of the exact instants (R181), over the denominator of the factor of R180. -/
  rem : Nat := 0
  nextRem : Nat := 0
  tag : Nat := 0
  phase : Nat := 0
  /-- The phase raster in progress is being composed. -/
  composing : Bool := false
  /-- The next line of the phase raster. -/
  line : Nat := 0
  /-- Where each source was switched off in this phase raster: line × 65536 + x (R201). -/
  offAt : SMap Nat := []
  underruns : Nat := 0
  /-- Inputs lost in this phase raster and in the one before it, and those whose loss has been posted (R198). -/
  lost : Nat := 0
  lostPrev : Nat := 0
  lostPosted : Nat := 0
  /-- Inputs whose first frame after a change of mode or binding has not arrived. -/
  waiting : Nat := 0
  /-- By input, the tick of its last change of mode or binding. -/
  waitSince : SMap Nat := []
  /-- By input, 1 + the start of the camera frame that an input in through mode shows in this phase raster (R196). -/
  through : SMap Nat := []
  /-- The frame store buffer that each input reads in this phase raster, plus 1. -/
  selected : SMap Nat := []
  /-- The decoded picture that each layer reads in this show period, plus 1 (R193). -/
  picture : SMap Nat := []
  /-- Bytes fetched for a source's line: source × 65536 + line (R200). -/
  fetched : SMap (List Byte) := []
  /-- The composed lines of the phase raster. -/
  rows : SMap (List Rgb) := []
  /-- The random dither's LFSR of each pixel lane (R169). -/
  lfsr : List Nat := []
  /-- Drive codes of tile rows handed to Midway and not yet sent: (loop × 32 + hop - 1) × 65536 + canvas line. -/
  out : SMap (List Nat) := []
  clips : Nat := 0
  /-- LAYER_FLIPs pending: layer, base, ticket (R192). -/
  flips : List (Nat × Nat × Nat) := []
  deriving DecidableEq, Repr

structure Canvases where
  cvs : SMap Canvas := []
  stores : SMap (Option FrameStore) := []
  /-- PHASE_SYNC_OUT levels. -/
  pso : Nat := 0
  /-- The tick at which each output rose last, and its CV_PSO_WIDTH at that time. -/
  psoRise : SMap (Nat × Nat) := []
  deriving DecidableEq, Repr

/-! ## Midway (07) -/

/-- What a TILE_ID says of a tile (Table 7-6). -/
structure TileInfo where
  serial : Nat := 0
  vendor : Nat := 0
  model : Nat := 0
  protocol : Nat := 0
  loopCapable : Bool := false
  maxPhases : Nat := 0
  width : Nat := 0
  height : Nat := 0
  fwd : Nat := 0
  display : Nat := 0
  deriving DecidableEq, Repr

/-- A tile frame opened on a port and not yet closed (R221). -/
structure TileFrame where
  phase : Nat
  tag : Nat
  rows : Nat
  deriving DecidableEq, Repr

/-- A tile position, loop × 32 + hop - 1. -/
structure Tile where
  info : Option TileInfo := none
  /-- Reachable from the A end, and from the B end. -/
  fromA : Bool := false
  fromB : Bool := false
  /-- TILE_STATE 2 or 3: identity, or geometry or protocol mismatch (R224). -/
  mismatch : Nat := 0
  /-- The newest TILE_STATUS payload. -/
  status : List Byte := []
  misses : Nat := 0
  poll : Option Nat := none
  frame : Option TileFrame := none
  deriving DecidableEq, Repr

/-- One end of a loop: its link, its discovery, its feed. -/
structure LoopEnd where
  trained : Bool := false
  asleep : Bool := false
  /-- It trains in order to start feeding (R230, R232). -/
  starting : Bool := false
  discId : Nat := 0
  /-- Hops that have answered the newest DISCOVER. -/
  answers : List Nat := []
  running : Bool := false
  /-- A discovery has been completed. -/
  done : Bool := false
  found : Nat := 0
  /-- The tiles this end feeds. -/
  reach : Nat := 0
  /-- The ALARM acted on, kind and HOPS: its repeats are only counted (R217). -/
  heard : Option (Nat × Nat) := none
  /-- The serials of tiles found beyond hop *n* (R224). -/
  extra : List Nat := []
  deriving DecidableEq, Repr

/-- A feed handover in progress (Table 7-12). -/
structure Handover where
  /-- The frame tag of F, if a canvas runs on the loop. -/
  tag : Option Nat
  reachA : Nat
  reachB : Nat
  /-- FEED_CHANGE kind: 1 revert, 2 handover. -/
  kind : Nat
  ticket : Option Nat
  /-- The incoming end has trained, where this device has it. -/
  ready : Bool := false
  /-- The partner has answered, on a paired loop. -/
  acked : Bool := true
  /-- LOOP_STATE's reason: 2 heal, 3 command, 4 partner. -/
  reason : Nat := 3
  deriving DecidableEq, Repr

/-- A loop. -/
structure Loop where
  a : LoopEnd := {}
  b : LoopEnd := {}
  /-- A DISCOVER from the A end has reached the B end with COUNT n (R224). -/
  intact : Bool := false
  /-- LOOP_FEED's mode: 0 automatic, 1 all from A, 2 all from B. -/
  forced : Nat := 0
  handover : Option Handover := none
  suspended : Bool := false
  /-- CFG commands that wait for their CFG_REPLY: tag, hop, ticket. -/
  cfg : List (Nat × Nat × Nat) := []
  cfgTag : Nat := 0
  /-- LOOP_DISCOVERs that wait. -/
  discWait : List Nat := []
  /-- The HOPS of the last ALARM, or 255. -/
  alarm : Nat := 255
  /-- Trapeze on the loop (Table 8-10): 0 none, 1 the watch port is measured, 2 handover, 3 the former feeding port is measured, 4 handover
  back, 5 done; and the former feeding port. -/
  trap : Nat := 0
  trapPort : Nat := 0
  /-- The partner's findings (P_LOOP): state, reach, tiles reachable, last ALARM HOPS, digest. -/
  peer : Nat × Nat × Nat × Nat × Nat := (0, 0, 0, 255, 0)
  /-- The partner's FEEDER decides the A end (R236). -/
  yields : Bool := false
  /-- The P_LOOP payload sent last. -/
  told : List Byte := []
  deriving DecidableEq, Repr

/-- The partner link (R233 to R236). -/
structure PartnerLink where
  /-- PARTNER_CONFIG in force. -/
  enabled : Bool := false
  role : Nat := 0
  mask : Nat := 0
  want : Nat := 0
  lanes : SMap Nat := []
  /-- The ASEQ of the device's own next ALIGN column. -/
  aseqTx : Nat := 0
  alignedRun : Nat := 0
  trained : Bool := false
  /-- The partner's P_IDENTITY: serial, release, role. -/
  peer : Option (Nat × Nat × Nat) := none
  probes : List (Nat × Nat) := []
  echoes : List Nat := []
  probesDone : Nat := 0
  pseq : Nat := 0
  lostRun : Nat := 0
  hbSeq : Nat := 0
  /-- The sequence number expected of the next P_HEARTBEAT. -/
  hbNext : Option Nat := none
  lastHb : Nat := 0
  /-- PARTNER_CONFIG action 2 waits for these loops. -/
  handing : List Nat := []
  handTickets : List Nat := []
  handFailed : Bool := false
  deriving DecidableEq, Repr

structure Midway where
  loops : SMap Loop := []
  tiles : SMap Tile := []
  link : PartnerLink := {}
  abandoned : SMap Nat := []
  /-- MW_CTRL_RESERVE as it is in force on each loop (R239). -/
  reserve : SMap Nat := []
  /-- The ASEQ of each tile port's next ALIGN (R211). -/
  aseq : SMap Nat := []
  deriving DecidableEq, Repr

/-! ## Serial lanes (08) -/

/-- The pattern generator and checker of a lane beyond what PATTERN_SET gives (R268). -/
structure PatternState where
  /-- The generator's newest 40 bits, the newest lowest; for the user pattern the index of the next bit. -/
  out : Nat := 0
  /-- Generator bits still to be inverted (R270). -/
  flip : Nat := 0
  /-- The bits that seed the checker, or in sync its own prediction, the newest lowest; for the user pattern the index of the next bit. -/
  ref : Nat := 0
  /-- Bits received since the checker began to seed itself, up to 40. -/
  seen : Nat := 0
  /-- Matching bits in a row. -/
  run : Nat := 0
  /-- The mismatches among the last 128 bits. -/
  hist : Nat := 0
  deriving DecidableEq, Repr

/-- A lane, by lane number (Table 8-1). `lock` and the direction states are the codes of Tables 8-2 and 8-5. -/
structure Lane where
  tx : Nat := 1
  rx : Nat := 1
  lock : Nat := 0
  /-- The signal detector has seen a signal for 100 ns. -/
  signal : Bool := false
  /-- The running disparity of what is received is positive (R241). -/
  rd : Bool := false
  /-- Valid symbols in a row, counted to 16 (R242). -/
  validRun : Nat := 0
  /-- The elastic buffer's fill (R246). -/
  fill : Nat := 8
  /-- FILL_MIN and FILL_MAX have been zeroed and no fill seen since (R272). -/
  fillClear : Bool := false
  /-- The receiver has adapted since it last left DEEP (R251); its 8 taps, as one free value. -/
  adapted : Bool := false
  taps : Nat := 0
  /-- The corrections in force and the previous ones, as free values (R258). -/
  corr : Nat := 0
  corrOld : Nat := 0
  /-- The tick at which the lane's calibration window ends (R261). -/
  winEnd : Nat := 0
  pat : PatternState := {}
  /-- ACQUIRE: commas seen in a row, and their boundary. -/
  commas : Nat := 0
  phase : Nat := 0
  /-- The error count of LOCKED. -/
  errs : Nat := 0
  /-- A loss has been declared and the lock not regained. -/
  lost : Bool := false
  lastPost : Option Nat := none
  unposted : Nat := 0
  fillMin : Nat := 8
  fillMax : Nat := 8
  fom : Nat := 0
  /-- The lowest FOM since the monitor last ran. -/
  fomLow : Option Nat := none
  quality : Nat := 0
  /-- LANE_QUALITY has been posted as below. -/
  low : Bool := false
  /-- LANE_TX_SET's preset. -/
  preset : Option Nat := none
  ctle : Nat := 0
  violations : Nat := 0
  disparity : Nat := 0
  losses : Nat := 0
  skipIns : Nat := 0
  skipDel : Nat := 0
  skipErr : Nat := 0
  elastic : Nat := 0
  calTime : Nat := 0
  /-- A calibration measurement is under way. -/
  measuring : Bool := false
  gen : Nat := 0
  chk : Nat := 0
  loopback : Nat := 0
  user : Nat := 0
  sync : Bool := false
  compared : Nat := 0
  errors : Nat := 0
  syncLosses : Nat := 0
  injected : Nat := 0
  deriving DecidableEq, Repr

/-- A lane of a calibration run not yet applied: its method (0 Trapeze, 1 windows, 2 idle) and the slices measured in windows. -/
structure CalLane where
  lane : Nat
  method : Nat
  slices : Nat := 0
  deriving DecidableEq, Repr

/-- A calibration run (R259). -/
structure CalRun where
  reason : Nat
  start : Nat
  temp : Int
  delta : Int
  todo : List CalLane
  /-- Bits of the methods used. -/
  methods : Nat := 0
  done : Nat := 0
  worst : Nat := 255
  restored : Nat := 0
  /-- Lanes whose previous corrections are restored at the next window. -/
  restore : List Nat := []
  deriving DecidableEq, Repr

/-- A lane group's calibration; its state code is LN_CAL_STATE. -/
structure LaneGroup where
  reason : Nat := 0
  windowsOnly : Bool := false
  tickets : List Nat := []
  run : Option CalRun := none
  /-- Trapeze on a camera group (Table 8-9): the logical lane, 16 for LSP, and the step: 1 LANE_MAP sent, 2 on LSP and measuring,
  3 applied, 4 LANE_MAP 0xFF sent, 5 back. -/
  trapLane : Nat := 0
  trapStep : Nat := 0
  /-- It has become due again during its run, for this reason (R259). -/
  again : Option Nat := none
  /-- The tick at which the group's calibration window ends (R261). -/
  winEnd : Nat := 0
  deriving DecidableEq, Repr

/-- A running EYE_SCAN (R253). -/
structure EyeScan where
  lane : Nat
  h : Nat
  v : Nat
  d : Nat
  host : Nat
  ticket : Nat
  start : Nat
  deriving DecidableEq, Repr

structure Lanes where
  lanes : SMap Lane := []
  groups : SMap LaneGroup := []
  scans : List EyeScan := []
  deriving DecidableEq, Repr

/-! ## Memory (09) -/

/-- Who holds a buffer. -/
inductive BufOwner where
  | window (w : Nat) | reference (p : Nat) | frameStore (p i : Nat) | codec (e i : Nat) | writeBuffer | delay (n : Nat)
  deriving DecidableEq, Repr

/-- A buffer of a carve-out (R277): device address, size, and the physical page behind each of its pages, with their order code. -/
structure Buffer where
  carve : Nat
  base : Nat
  bytes : Nat
  owner : BufOwner
  pages : List Nat
  order : Nat
  deriving DecidableEq, Repr

/-- A retraining run in progress (R290). -/
structure RetrainRun where
  mask : Nat
  reason : Nat
  start : Nat
  temp : Int
  slices : Nat
  deriving DecidableEq, Repr

structure Dram where
  buffers : List Buffer := []
  /-- Physical pages freed and not yet zeroed (R277). -/
  dirty : List Nat := []
  /-- Bytes by device address; memory of which nothing is listed reads zero. -/
  bytes : SMap Byte := []
  /-- Poisoned ranges: device address and length. -/
  poison : List (Nat × Nat) := []
  /-- Correctable errors kept for 24 hours: channel, bank, row, granule, time (R286). -/
  ceLog : List (Nat × Nat × Nat × Nat × Nat) := []
  /-- Retirement candidates: channel, bank, row. -/
  candidates : List (Nat × Nat × Nat) := []
  /-- Rows remapped: channel, bank, row, spare row; kept in the boot flash record area. -/
  remap : List (Nat × Nat × Nat × Nat) := []
  /-- Granules whose bits have decayed, until a read meets them or a write covers them (R284). -/
  flaws : List ScrubFinding := []
  patrolPos : Nat := 0
  retrainDue : Nat := 0
  retrainReason : Nat := 0
  retrain : Option RetrainRun := none
  lastRetrain : SMap Nat := []
  mr4 : SMap Nat := []
  /-- The WCK-to-DQ delay of each byte lane, by channel × 4 + lane (R290). -/
  wck : SMap Nat := []
  refreshes : SMap Nat := []
  /-- Reservations of R42 in MB/s at rank × 4096 + owner. -/
  bw : SMap Nat := []
  deriving DecidableEq, Repr

/-- An expander slot beyond its parameters (R293). -/
structure Expander where
  serial : Nat := 0
  port : Nat := 0
  sw : Nat := 255
  vol : Nat := 0
  pers : Nat := 0
  gpf : Bool := false
  phase2Ms : Nat := 0
  lsa : Bool := false
  locked : Bool := false
  type3 : Bool := true
  patrol : Bool := false
  foreign : Bool := false
  dirty : Nat := 0
  /-- The Dirty Shutdown Count at its last successful GPF. -/
  recorded : Nat := 0
  assigned : Bool := false
  /-- The regions whose definitions this device has written into its Label Storage Area (R294). -/
  labels : List Nat := []
  /-- The scrub cycle set in its Patrol Scrub Control, in hours (R299). -/
  cycle : Nat := 0
  deriving DecidableEq, Repr

/-- A region (R294); its state code is CXL_REGION_STATE. -/
structure Region where
  persistent : Bool := false
  slots : List Nat := []
  serials : List Nat := []
  gib : Nat := 0
  base : Nat := 0
  /-- Where each member's capacity lies in its partition: pieces of first GiB and length. -/
  parts : List (List (Nat × Nat)) := []
  verifyPos : Nat := 0
  verifying : Bool := false
  deriving DecidableEq, Repr

/-- A Global Persistent Flush under way (R297). -/
structure Gpf where
  trigger : Nat
  start : Nat
  phase2 : Bool := false
  /-- When phase 2 began. -/
  flushAt : Nat := 0
  slots : List Nat
  ticket : Option Nat := none
  deriving DecidableEq, Repr

/-- A removal command under way (Table 9-9). -/
structure Removal where
  policy : Nat
  step : Nat := 1
  ticket : Option Nat := none
  relocated : Nat := 0
  dropped : Nat := 0
  gib : Nat := 0
  deriving DecidableEq, Repr

structure Cxl where
  exps : SMap Expander := []
  regions : SMap Region := []
  gpf : Option Gpf := none
  removals : SMap (Option Removal) := []
  /-- Slots whose attention button was pressed (R440), and the indicators. -/
  blinking : Nat := 0
  powerOff : Nat := 0
  /-- Slots whose attention indicator blinks (R301). -/
  attention : Nat := 0
  /-- CXL_PERSIST_FLUSH commands that wait for their flush. -/
  flushers : List Nat := []
  deriving DecidableEq, Repr

/-! ## Recording (10) -/

/-- A record of a bin (Table 10-5): what its header and its body from offset 0x20 hold, and where it stands, as pieces of segment, offset and
length. `wb` is 1 + the write buffer frame that still holds it, or 0 once it has drained. -/
structure Rec where
  typ : Nat
  source : Nat
  seq : Nat
  tag : Nat
  body : List Byte := []
  pieces : List (Nat × Nat × Nat) := []
  wb : Nat := 0
  /-- Poisoned ranges of the record on CXL: offset and length. -/
  poison : List (Nat × Nat) := []
  deriving DecidableEq, Repr

/-- A clip: the run of frame tags it holds, its records in ascending SEQ, and when it began and ended. -/
structure Clip where
  id : Nat
  first : Nat
  last : Nat
  recs : List Rec := []
  periods : Nat := 0
  t0 : Nat := 0
  t1 : Nat := 0
  /-- 0 open; 1 its periods are over and frames of it await their fence; 2 closed; 3 an import. -/
  phase : Nat := 0
  /-- FLAGS of CLIP_CLOSE. -/
  flags : Nat := 0
  /-- FR_BIN_SOURCES in force. -/
  sources : Nat := 0
  deriving DecidableEq, Repr

/-- A run of frames refused or discarded (R315). -/
structure GapRun where
  source : Nat
  reason : Nat
  count : Nat
  tag : Nat
  number : Nat
  deriving DecidableEq, Repr

/-- A trigger that a bin is acting on (R311). -/
structure BinTrig where
  count : Nat
  lo : Nat
  hi : Nat
  clips : List Nat := []
  refused : Bool := false
  deriving DecidableEq, Repr

/-- A bin administration operation (R350, R351): 1 format, 2 sanitise. -/
structure BinAdmin where
  op : Nat
  pos : Nat := 0
  total : Nat := 0
  failed : Nat := 0
  resumed : Nat := 0
  start : Nat := 0
  deriving DecidableEq, Repr

/-- A bin; its state code is FR_BIN_STATE. -/
structure Bin where
  region : Nat := 0
  segs : Nat := 0
  quota : Nat := 0
  /-- PASSES of each segment. -/
  passes : SMap Nat := []
  hdrA : Nat := 0
  hdrB : Nat := 1
  /-- Anchor and checkpoint generations. -/
  gen : Nat := 0
  ckpt : Nat := 0
  ckptTime : Nat := 0
  /-- The write position. -/
  wseg : Nat := 0
  woff : Nat := 0
  seq : Nat := 0
  nextClip : Nat := 1
  clips : List Clip := []
  /-- Tag ranges of the clips shed since the format. -/
  shed : List (Nat × Nat) := []
  runs : List GapRun := []
  admin : Option BinAdmin := none
  /-- CLIP_MARK has been taken. -/
  mark : Bool := false
  trigs : List BinTrig := []
  noSpace : Bool := false
  quotaOver : Bool := false
  /-- Records below this SEQ were written before the last Global Persistent Flush. -/
  durable : Nat := 0
  /-- It has to be recovered: its region came back, or the device started. -/
  recover : Bool := false
  /-- The BIN_DELETE that waits for reads in flight (R352). -/
  deleting : Option Nat := none
  deriving DecidableEq, Repr

/-- A frame, audio record or picture in the write buffer (R313, R316): 0 being received, 1 awaiting its fence, 2 draining. -/
structure WbFrame where
  id : Nat
  source : Nat
  typ : Nat
  tag : Nat
  number : Nat := 0
  size : Nat
  addr : Nat := 0
  bins : List Nat := []
  phase : Nat := 0
  body : List Byte := []
  raw : Nat := 0
  deriving DecidableEq, Repr

structure Recording where
  bins : SMap (Option Bin) := []
  wb : List WbFrame := []
  nextId : Nat := 0
  pressure : Bool := false
  /-- Credits of R314 by pipeline, in bytes, and when they were renewed. -/
  credits : List Nat := [0, 0, 0, 0, 0, 0, 0, 0]
  renewed : Nat := 0
  /-- Raw and stored bytes of the second in progress, by pipeline. -/
  rawBytes : List Nat := [0, 0, 0, 0, 0, 0, 0, 0]
  stored : List Nat := [0, 0, 0, 0, 0, 0, 0, 0]
  /-- CLIP_ID by bin, kept in the boot flash record area (R318). -/
  volClip : SMap Nat := []
  deriving DecidableEq, Repr

/-! ## Clip queues (11) -/

/-- A clip queue command fetched and not yet complete. -/
structure QCmd where
  cid : Nat
  entry : List Byte
  time : Nat
  /-- Its POWER_HELD entry has been written (R345). -/
  held : Bool := false
  /-- What has met it since it was fetched: 0 nothing; 1 its bin is being deleted, and waits for it (R352); else the code it completes with: CLIP_SHED, its
  bin having been formatted (R350), or MEDIA_ERROR, an expander of its bin having departed (R302). -/
  fate : Nat := 0
  deriving DecidableEq, Repr

/-- A clip queue pair (R332 to R338). -/
structure Pair where
  sqLog : Nat := 4
  cqLog : Nat := 4
  vector : Nat := 0xFF
  aggCount : Nat := 1
  aggTime : Nat := 0
  sqBase : Nat := 0
  cqBase : Nat := 0
  sqHead : Nat := 0
  sqTail : Nat := 0
  cqHead : Nat := 0
  cqTail : Nat := 0
  /-- Entries written since the pair was created; its pass through the ring gives PHASE. -/
  written : Nat := 0
  cmds : List QCmd := []
  frozen : Bool := false
  /-- A QUEUE_RESTART that waits: ticket and DISCARD. -/
  restart : Option (Nat × Bool) := none
  unsignalled : Nat := 0
  oldest : Nat := 0
  newestLog : Nat := 0
  deriving DecidableEq, Repr

/-- An entry of a window's error log (Table 11-7). -/
structure QueueLog where
  seq : Nat
  froze : Bool
  queue : Nat
  cid : Nat
  time : Nat
  opcode : Nat
  code : Nat
  bin : Nat := 0
  field : Nat := 0
  clip : Nat := 0
  detail : Nat := 0
  sqHead : Nat := 0
  aborted : Nat := 0
  faultSeq : Nat := 0
  deriving DecidableEq, Repr

structure ClipQueues where
  /-- Pairs at window × 16 + number. -/
  pairs : SMap (Option Pair) := []
  logs : SMap (List QueueLog) := []
  /-- The newest LOG_SEQ of each window. -/
  logSeq : SMap Nat := []
  /-- The pair served last, as window × 16 + number (R335, R38). -/
  served : Nat := 1023
  deriving DecidableEq, Repr

/-! ## Codec engines (12) -/

/-- A kept picture record (Table 12-6); `flags` is byte 0x0D. -/
structure PicRecord where
  tag : Nat := 0
  number : Nat := 0
  poc : Nat := 0
  picType : Nat := 0
  flags : Nat := 0
  firstClamped : Nat := 0xFFFF
  buffer : Nat := 0
  stride : Nat := 0
  width : Nat := 0
  height : Nat := 0
  start : Nat := 0
  done : Nat := 0
  bits : Nat := 0
  budget : Nat := 0
  qp : Nat := 0
  phase : Nat := 0
  skipped : Nat := 0
  damage : List Nat := []
  deriving DecidableEq, Repr

/-- A picture in progress. -/
structure PicWork where
  number : Nat
  tag : Nat
  start : Nat
  deadline : Nat
  phase : Nat := 0
  /-- The IDR's reason (Table 12-4). -/
  idr : Option Nat := none
  budget : Nat := 0
  buffer : Nat := 0
  /-- Decode: the access unit. -/
  unit : List Byte := []
  /-- Decode: its record was read poisoned (R285). -/
  poisoned : Bool := false
  deriving DecidableEq, Repr

/-- A VC_DEC_FEED that waits for space (R367). -/
structure Feed where
  ticket : Nat
  bytes : List Byte
  fin : Bool
  since : Nat
  /-- Its source buffer on the device: address and length. -/
  source : Option (Nat × Nat) := none
  deriving DecidableEq, Repr

/-- A codec engine beyond its parameters. -/
structure Engine where
  /-- The record read last was poisoned (R285). -/
  badUnit : Bool := false
  bin : Nat := 0
  recEngine : Nat := 0
  clip : Nat := 0
  tag : Nat := 0
  /-- Show periods of the captured or pacing canvas begun since the stream entered RUNNING, or since its pacing was chosen. -/
  period : Nat := 0
  /-- A decoder's next pacing boundary: when, with VC_DEC_PACE = 255; or that the canvas's has come (R359). -/
  pace : Option Nat := none
  paceDue : Bool := false
  number : Nat := 0
  gop : Nat := 0
  /-- Reasons for an IDR at the next picture boundary (Table 12-4). -/
  idr : List Nat := []
  keys : List Nat := []
  /-- Bits of the previous completed picture not yet taken off the buffer. -/
  prevBits : Nat := 0
  first : Bool := true
  work : Option PicWork := none
  skipped : Nat := 0
  dropped : Nat := 0
  records : List PicRecord := []
  /-- Proxy source buffers or DPB output buffers, and the one used last. -/
  bufs : List Nat := []
  width : Nat := 0
  height : Nat := 0
  input : List Byte := []
  ended : Bool := false
  feeds : List Feed := []
  /-- Decoding has begun at an IRAP picture, and RASL pictures of a CRA it began at are skipped. -/
  begun : Bool := false
  skipRasl : Bool := false
  /-- DECODE_BIN: the SEQ of the next record, once the start has been found. -/
  nextSeq : Option Nat := none
  /-- Pictures under an SPS that cannot be decoded are dropped until the next IRAP: STREAM_ERROR reason. -/
  badSps : Option Nat := none
  /-- The numbers and buffers of decoded pictures, and the newest output. -/
  pics : List (Nat × Nat) := []
  newest : Option (Nat × Nat) := none
  /-- VC_DEC_MODE in force since the last IRAP. -/
  mode : Nat := 0
  /-- The buffer of the last good picture (R371). -/
  good : Option Nat := none
  /-- The engine is to be released at the next picture boundary: reason, and the tickets of VC_CLOSE. -/
  closing : Option (Nat × List Nat) := none
  /-- Buffers of released streams that layers still select. -/
  freeing : List Nat := []
  nextStart : Nat := 0
  deriving DecidableEq, Repr

structure Codec where
  engines : SMap Engine := []
  deriving DecidableEq, Repr

/-! ## Audio (13) -/

/-- A gain envelope (R387 to R389) from position `start` on: 1 ramping up to full, 3 fading to silence, over `len` positions from gain `g0`
(numerator, denominator). -/
structure Env where
  mode : Nat := 0
  start : Nat := 0
  len : Nat := 1
  g0 : Nat × Nat := (0, 1)
  deriving DecidableEq, Repr

/-- An output slot: its envelopes, newest first, and the source it plays (route and delay), where a change of it awaits the end of its fade. -/
structure OutSlot where
  env : List Env := []
  route : Nat := 0
  delay : Nat := 0
  on : Bool := false
  /-- The position at which the route and delay in force are taken. -/
  switch : Option Nat := none
  /-- The route is to a port outside the group (R386), as AUDIO_ROUTE has last reported. -/
  cut : Bool := false
  deriving DecidableEq, Repr

/-- An audio port beyond its parameters. -/
structure AudioPort where
  /-- BCLK is present. -/
  clock : Bool := false
  /-- SYNCING: edges accepted in a row. -/
  edges : Nat := 0
  /-- The BCLK count at which the frame in progress began. -/
  bclk : Nat := 0
  missed : Nat := 0
  group : Option Nat := none
  /-- It takes position 0 at its next accepted edge (R382). -/
  zero : Bool := false
  pos : Option Nat := none
  /-- When the frame in progress began. -/
  posTime : Nat := 0
  boundary : Option Nat := none
  boundaryTag : Nat := 0
  /-- The slot mask at the boundary position (R390). -/
  recMask : Nat := 0
  line : Option Nat := none
  /-- Frames written of each block of 32 positions. -/
  written : SMap Nat := []
  /-- Output blocks fetched, those of them that are missing, and source blocks that an input FIFO overrun spoilt. -/
  fetched : List Nat := []
  missing : List Nat := []
  overrun : List Nat := []
  /-- The newest output block to come to its output time, and that it was missing. -/
  judged : Option Nat := none
  gone : Bool := true
  out : List OutSlot := List.replicate 16 {}
  /-- Envelopes of the slots handed to recording (R389); none is full. -/
  inEnv : List (List Env) := List.replicate 16 []
  /-- Missing blocks in this master period. -/
  lost : Nat := 0
  deriving DecidableEq, Repr

/-- An AUDIO_START accepted and awaiting T0. -/
structure AudioStart where
  mask : Nat
  mode : Nat
  tag : Nat
  ticket : Nat
  deriving DecidableEq, Repr

structure Audio where
  ports : SMap AudioPort := []
  starts : List AudioStart := []
  /-- Groups made so far. -/
  groups : Nat := 0
  /-- The last position of each group and its FS timestamp. -/
  lastPos : SMap (Nat × Nat) := []
  deriving DecidableEq, Repr

/-- The state of the device. -/
structure State where
  /-- The commands waiting, first in, first out. -/
  pending : List Instr := []
  /-- The Ringmaster count of 1 ns ticks (R13). -/
  now : Nat := 0
  /-- The model's own: the argument of the next free value. -/
  free : Nat := 0
  /-- The parameter register file; an unlisted element reads its default. -/
  params : SMap Nat := []
  /-- The model's own log of what left the lanes and pins, newest first. -/
  sent : List Tx := []
  ctl : Control := {}
  ring : Ringmaster := {}
  hk : House := {}
  bus : Bus := {}
  pw : Power := {}
  cq : ClipQueues := {}
  cam : Camera := {}
  pipes : SMap Pipe := []
  colour : Colour := {}
  dram : Dram := {}
  cxl : Cxl := {}
  cv : Canvases := {}
  mw : Midway := {}
  ln : Lanes := {}
  fr : Recording := {}
  vc : Codec := {}
  au : Audio := {}
  deriving DecidableEq, Repr

/-- The state right after VAUX became valid (reset code 0 of Table 15-2): PWRGD is low, every parameter is at its default. -/
def State.reset : State := {}

end Sys2Proof.Machine
end

