-- ==== Sys2Proof/Machine/Flags.lean ====
section
/-! DEFINITION. The device status word: the barker bits of each view, the status sequence number, and what advances it (R14, R15, R59). -/

namespace Sys2Proof.Machine

/-- Element `idx` of parameter `id`, as in force. -/
def State.getP (s : State) (id idx : Nat) : Nat := SMap.get pdef s.params (pkey id idx)

/-- `s` with element `idx` of parameter `id` in force at `v`. -/
def State.setP (s : State) (id idx v : Nat) : State := { s with params := SMap.set pdef s.params (pkey id idx) v }

/-- A signed parameter's value (R67). -/
def State.getPI (s : State) (id idx : Nat) : Int := toS64 (s.getP id idx)

/-- A 32-bit saturating counter raised by `n`. -/
def State.bumpSat (s : State) (id idx n : Nat) : State := s.setP id idx (sat32 (s.getP id idx + n))

/-- A 32-bit wrapping counter raised by `n`. -/
def State.bumpWrap (s : State) (id idx n : Nat) : State := s.setP id idx (wrap32 (s.getP id idx + n))

/-- The identifier of a camera group, pipeline, canvas, codec engine or audio port's parameter (Table 2-11). -/
abbrev P.cg (g id : Nat) : Nat := id + g * 0x60
abbrev P.pl (p id : Nat) : Nat := id + p * 0x100
abbrev P.cv (c id : Nat) : Nat := id + c * 0x80
abbrev P.mw (i id : Nat) : Nat := id + i * 0x20
abbrev P.vc (e id : Nat) : Nat := id + e * 0x20
abbrev P.ap (n id : Nat) : Nat := id + n * 0x10

/-- What a window number that has not been used reads as. -/
abbrev winDef : Nat → Window := fun _ => {}

/-- Window `w`; 64 is the management bus. -/
def State.win (s : State) (w : Nat) : Window := SMap.get winDef s.ctl.wins w

def State.setWin (s : State) (w : Nat) (x : Window) : State :=
  { s with ctl := { s.ctl with wins := SMap.set winDef s.ctl.wins w x } }

/-- The power state code of PW_STATE (R447): 0 SHOW, 1 INTERMISSION, 2 DARK. -/
def State.powerState (s : State) : Nat := s.getP P.PW_STATE 0 % 256

/-- A power-state change is in progress (PW_STATE [16]). -/
def State.powerChanging (s : State) : Bool := (s.getP P.PW_STATE 0).testBit 16

/-- THERMAL: some diode, or its stand-in, is at or above the warning threshold and has not fallen below it less the hysteresis (R59, R410). -/
def State.thermal (s : State) : Bool := s.hk.diodes.any fun d => d.above.testBit 0

/-- A clip queue of window `w` is frozen. -/
def State.queueFrozen (s : State) (w : Nat) : Bool :=
  s.cq.pairs.any fun e => e.1 / 16 == w && (e.2.map fun p => p.frozen).getD false

/-- The window whose EVENT_PENDING and QUEUE_FROZEN view `v` shows: its own, or W00's for the management bus (R59). -/
abbrev viewWin (v : Nat) : Nat := if v = 64 then 0 else v

/-- EVENT_HEAD differs from EVENT_TAIL. -/
def State.eventPending (s : State) (w : Nat) : Bool := (s.win w).head != (s.win w).tail

/-- View `v`. -/
def State.view (s : State) (v : Nat) : View := s.ctl.views.getD v {}

/-- The barker byte of view `v` (Tables 0-8, 2-6). -/
def State.barker (s : State) (v : Nat) : Nat :=
  b2n (s.eventPending (viewWin v)) + 2 * b2n s.thermal + 4 * b2n (s.view v).fault
    + 8 * b2n (!s.ctl.service.isEmpty) + 16 * b2n (s.view v).config + 32 * b2n (s.queueFrozen (viewWin v))
    + 64 * b2n (s.powerState != 0 || s.powerChanging) + 128 * b2n (s.view v).fwNotice

/-- The status word of view `v` with completion code `code` (Table 0-7). -/
def State.statusWord (s : State) (v code : Nat) : Nat := (s.view v).seq * 65536 + s.barker v * 256 + code

/-- The Aipex tick of 1 µs in which an instant lies, counted from 1. -/
abbrev aipexTickOf (now : Nat) : Nat := now / 1000 + 1

/-- The status sequence number advances, at most once in an Aipex tick (R15). -/
def View.advance (now : Nat) (v : View) : View :=
  if v.adv = aipexTickOf now then v else { v with seq := (v.seq + 1) % 65536, adv := aipexTickOf now }

/-- `s` with its views changed by `f`. -/
def State.mapViews (f : View → View) (s : State) : State := { s with ctl := { s.ctl with views := s.ctl.views.map f } }

/-- `s` with view `v` changed by `f`. -/
def State.modView (f : View → View) (v : Nat) (s : State) : State := { s with ctl := { s.ctl with views := modAt f v s.ctl.views } }

/-- A change or occurrence of a level or latched bit advances every view. -/
def State.advanceAll (s : State) : State := s.mapViews (View.advance s.now)

/-- An occurrence in window `w` advances its view, and the management bus's for W00. -/
def State.advanceWin (w : Nat) (s : State) : State :=
  let s := s.modView (View.advance s.now) w
  if w = 0 then s.modView (View.advance s.now) 64 else s

/-- FAULT is set in every view, with an occurrence (R59). -/
def State.latchFault (s : State) : State := s.mapViews fun v => View.advance s.now { v with fault := true }

/-- CONFIG_CHANGED is set in every view, with an occurrence. -/
def State.latchConfig (s : State) : State := s.mapViews fun v => View.advance s.now { v with config := true }

/-- FW_NOTICE is set in every view, with an occurrence. -/
def State.latchFwNotice (s : State) : State := s.mapViews fun v => View.advance s.now { v with fwNotice := true }

/-- A condition that raises SERVICE_NEEDED begins. -/
def State.raiseService (c : ServiceCond) (s : State) : State :=
  if s.ctl.service.contains c then s
  else State.advanceAll { s with ctl := { s.ctl with service := c :: s.ctl.service } }

/-- A condition that raises SERVICE_NEEDED ends. -/
def State.clearService (c : ServiceCond) (s : State) : State :=
  if s.ctl.service.contains c then State.advanceAll { s with ctl := { s.ctl with service := s.ctl.service.filter (· != c) } } else s

end Sys2Proof.Machine
end

