-- ==== Sys2Proof/WellFormed.lean ====
section
/-! DEFINITION. Well-formed commands: those that name windows, slots, groups, lanes, ports and other units that the device has. -/

namespace Sys2Proof

/-- The fields fit their widths (Table 2-4) and the window has the slot (R51, R399). -/
def Cmd.wf (c : Cmd) : Bool :=
  decide (c.win < 64 ∧ c.slot < 16 ∨ c.win = 64 ∧ c.slot < 4) && decide (c.tag < 256) && decide (c.flags < 256)
    && decide (c.opLen < 65536) && decide (c.rsvd06 < 65536) && decide (c.seq < 2 ^ 32) && decide (c.ver < 256)
    && decide (c.rsvd0D < 2 ^ 24) && decide (c.ops < 2 ^ 1920)

/-- A camera link packet of a group the device has, with an 8-byte header (R89). -/
def CamPkt.wf (p : CamPkt) : Bool := decide (p.group < 8) && p.hdr.length == 8

/-- The TYPE nibble of a packet header (Tables 3-2 and 7-4). -/
def hdrType (h : List Byte) : Nat := (h.getD 0 0).toNat / 16

/-- A Midway packet of a tile port, with an 8-byte header (R211). -/
def TilePkt.wf (p : TilePkt) : Bool := decide (p.port < 1024) && p.hdr.length == 8

/-- The row takes packets of its own type, and those that no row names, which R215 discards. -/
def rowType (own : Nat) (rows : List Nat) (h : List Byte) : Bool := hdrType h == own || !rows.contains (hdrType h)

/-- The types of upstream packets and of a DISCOVER of the other end (Table 7-4), and of partner packets (Table 7-13). -/
abbrev tileTypes : List Nat := [4, 5, 8, 10]
abbrev partnerTypes : List Nat := [1, 2, 3, 4, 5]

/-- A packet of the partner link, which has one logical port (R234). -/
def TilePkt.wfPartner (p : TilePkt) : Bool := p.hdr.length == 8

/-- A physical lane of a group or of the partner link, and three data bytes. -/
def AlignSet.wf (a : AlignSet) : Bool := decide (a.lane < 17) && decide (a.d1 < 256) && decide (a.d2 < 256) && decide (a.d3 < 256)

/-- A kind and position of Table 2-24. -/
def PartnerId.wf (p : PartnerId) : Bool :=
  if p.kind = 0 then decide (p.pos < 8) && p.hop == 0 else if p.kind = 1 then decide (p.pos < 32) && p.hop == 0
  else if p.kind = 2 then decide (p.pos < 512) && decide (1 ≤ p.hop ∧ p.hop ≤ 32)
  else if p.kind = 3 then p.pos == 0 && p.hop == 0 else if p.kind = 4 then decide (p.pos < 32) && p.hop == 0
  else if p.kind = 5 then decide (p.pos < 64) && p.hop == 0
  else if p.kind = 6 then decide (p.pos < 16) && p.hop == 0 else false

/-- A boundary of a block that exists (Table 1-9). -/
def Boundary.wf : Boundary → Bool
  | .master | .busStart => true
  | .frame p => decide (p < 8)
  | .show c => decide (c < 16)
  | .loop l => decide (l < 512)
  | .lane l => decide (l < 28)
  | .picture e | .irap e => decide (e < 2)
  | .tdm n => decide (n < 16)

/-- A virtual function that exists (R48). -/
def HostReset.wf : HostReset → Bool
  | .perst | .hot | .flrPf => true
  | .flrVf n => decide (1 ≤ n ∧ n ≤ 63)

def HostPage.wf (p : HostPage) : Bool := decide (p.fn < 64) && decide (p.win < 64)

/-- The command names units that the device has. Probes run on camera groups 0 to 7 and, as 8, on the partner link (R97, R233). -/
def Instr.wellFormed : Instr → Bool
  | .masterPeriodBoundary _ => true
  | .genrefEdge _ => true
  | .genrefMissedEdge => true
  | .trigInEdge _ => true
  | .lockstepMismatch => true
  | .aipexRestartDone => true
  | .doorbell page value => page.wf && decide (value < 65536)
  | .aipexTick => true
  | .deferTimeout win slot => decide (win < 64 ∧ slot < 16 ∨ win = 64 ∧ slot < 4)
  | .eventTailWrite page value => page.wf && decide (value < 65536)
  | .registerWrite fn win offset data => decide (fn < 64) && decide (win < 64) && decide (offset + data.length ≤ 0x10000)
  | .overflow win => decide (win < 64)
  | .ping c => c.wf
  | .fence c => c.wf
  | .identify c => c.wf
  | .ackBarker c => c.wf
  | .windowOpen c => c.wf
  | .windowClose c => c.wf
  | .eventMaskSet c => c.wf
  | .eventMaskGet c => c.wf
  | .faultLogRead c => c.wf
  | .paramGet c => c.wf
  | .paramSet c => c.wf
  | .paramSetGroup c => c.wf
  | .paramDescribe c => c.wf
  | .stagedChangeApply b => b.wf
  | .tableRead c => c.wf
  | .tableWrite c => c.wf
  | .tableCommit c => c.wf
  | .tableSwap => true
  | .tableDiscard c => c.wf
  | .fwStage c => c.wf
  | .fwActivate c => c.wf
  | .switchoverImport => true
  | .switchoverComplete => true
  | .switchoverRollback => true
  | .fwStatus c => c.wf
  | .fwKeyRevoke c => c.wf
  | .quarantineRelease c => c.wf
  | .partnerArrivalReport p => p.wf
  | .quarantineExpiry p => p.wf
  | .hostInterfaceReset r => r.wf
  | .vfEnableChange _ _ => true
  | .poisonedTlp _ => true
  | .cgSignalDetect g lane => decide (g < 8) && decide (lane < 17)
  | .cgTrainTimeout g => decide (g < 8)
  | .cameraAlign g sets => decide (g < 8) && sets.all AlignSet.wf
  | .discoverRetry g => decide (g < 8)
  | .identity p => p.wf && hdrType p.hdr == 5
  | .vcAnnounce p => p.wf && hdrType p.hdr == 6
  | .frameStart p => p.wf && hdrType p.hdr == 1
  | .line p late => p.wf && hdrType p.hdr == 2 && late.all fun x => decide (x < 16384)
  | .frameEnd p => p.wf && hdrType p.hdr == 3
  | .embedded p => p.wf && hdrType p.hdr == 4
  | .ctrlReply p => p.wf && hdrType p.hdr == 7
  | .headStatus p => p.wf && hdrType p.hdr == 8
  | .cameraBadPacket p => p.wf
  | .probeSend g _ => decide (g < 9)
  | .probeEcho g pseq d2 d3 _ => decide (g < 9) && decide (pseq < 65536) && decide (d2 < 256) && decide (d3 < 256)
  | .probeTimeout g pseq => decide (g < 9) && decide (pseq < 65536)
  | .tsyncSend g vcMask _ => decide (g < 8) && decide (vcMask < 16)
  | .camCtrlTimeout g tag => decide (g < 8) && decide (tag < 65536)
  | .cameraLaneLost g lane => decide (g < 8) && decide (lane < 17)
  | .cameraHeadLost g => decide (g < 8)
  | .sensorBind c => c.wf
  | .sensorUnbind c => c.wf
  | .camExpose c => c.wf
  | .camCtrlWrite c => c.wf
  | .camCtrlRead c => c.wf
  | .camRetrain c => c.wf
  | .pipelineWaitTimeout pl => decide (pl < 8)
  | .sidGateTimeout pl => decide (pl < 8)
  | .statsReady pl => decide (pl < 8)
  | .statsRead c => c.wf
  | .colourProbe c => c.wf
  | .colourProbeCapture k => decide (k < 4)
  | .probeMissed k => decide (k < 4)
  | .unifBankCopyDone => true
  | .unifCommitDone => true
  | .showPeriodBoundary cv _ => decide (cv < 16)
  | .phaseBoundary cv phase => decide (cv < 16) && decide (phase < 4)
  | .canvasLine cv phase _ _ bad => decide (cv < 16) && decide (phase < 4) && bad.all fun n => decide (n < 1048576)
  | .frameDone cv done => decide (cv < 16) && decide (done.phase < 4)
  | .layerFetch cv src _ => decide (cv < 16) && decide (src < 16)
  | .frameStoreComplete pl _ => decide (pl < 8)
  | .phaseSyncRise n phase => decide (n < 4) && decide (phase < 4)
  | .phaseSyncFall n _ => decide (n < 4)
  | .layerFlip c => c.wf
  | .canvasStatus c => c.wf
  | .fsoSend cv phase => decide (cv < 16) && decide (phase < 4)
  | .tileLineSend lp hop cv phase _ => decide (lp < 512) && decide (1 ≤ hop ∧ hop ≤ 32) && decide (cv < 16) && decide (phase < 4)
  | .discoverInterval lp side => decide (lp < 512) && decide (side < 2)
  | .tileId p => p.wf && rowType 5 tileTypes p.hdr
  | .cfgReply p => p.wf && rowType 8 tileTypes p.hdr
  | .tileStatus p => p.wf && rowType 10 tileTypes p.hdr
  | .tileAlarmReceived port d1 d2 d3 _ => decide (port < 1024) && decide (d1 < 256) && decide (d2 < 256) && decide (d3 < 256)
  | .feedWatchdog lp side => decide (lp < 512) && decide (side < 2)
  | .failoverTrained lp => decide (lp < 512)
  | .tilePoll lp hop => decide (lp < 512) && decide (1 ≤ hop ∧ hop ≤ 32)
  | .tilePollTimeout lp hop => decide (lp < 512) && decide (1 ≤ hop ∧ hop ≤ 32)
  | .tileCfgTimeout lp tag => decide (lp < 512) && decide (tag < 256)
  | .revertHoldExpiry lp => decide (lp < 512)
  | .handoverReady lp => decide (lp < 512)
  | .handoverAbandon lp => decide (lp < 512)
  | .pIdentity p => p.wfPartner && rowType 1 partnerTypes p.hdr
  | .pHeartbeat p => p.wfPartner && rowType 2 partnerTypes p.hdr
  | .pHeartbeatSend => true
  | .partnerHeartbeatTimeout => true
  | .pmark _ d1 d2 d3 => decide (d1 < 256) && decide (d2 < 256) && decide (d3 < 256)
  | .pLoop p => p.wfPartner && rowType 3 partnerTypes p.hdr
  | .pHandover p => p.wfPartner && rowType 4 partnerTypes p.hdr
  | .pTile p => p.wfPartner && rowType 5 partnerTypes p.hdr
  | .partnerConfig c => c.wf
  | .loopDiscover c => c.wf
  | .tileCfgWrite c => c.wf
  | .tileCfgRead c => c.wf
  | .tileStatusRead c => c.wf
  | .loopFeed c => c.wf
  | .laneSignalDetect lane => decide (lane < 1168)
  | .laneSignalLoss lane => decide (lane < 1168)
  | .laneComma lane phase => decide (lane < 1168) && decide (phase < 10)
  | .laneInvalidSymbol lane before group => decide (lane < 1168) && decide (group < 1024) && before.all fun x => decide (x < 1024)
  | .laneCommaTimeout lane => decide (lane < 1168)
  | .skipReceived lane _ d1 d2 d3 => decide (lane < 1168) && decide (d1 < 256) && decide (d2 < 256) && decide (d3 < 256)
  | .skipSend lane => decide (lane < 1168)
  | .fomWindow lane _ _ => decide (lane < 1168)
  | .laneMonitor lg _ => decide (lg < 28)
  | .laneWakeDone lane _ => decide (lane < 1168)
  | .calibrationStart => true
  | .calWindow lg _ => decide (lg < 28)
  | .calMeasureDone lane _ => decide (lane < 1168)
  | .calDeferLimit lg => decide (lg < 28)
  | .patternSync lane _ _ _ => decide (lane < 1168)
  | .laneStatus c => c.wf
  | .laneCalibrate c => c.wf
  | .eyeScan c => c.wf
  | .eyeScanDone lane _ _ _ => decide (lane < 1168)
  | .patternSet c => c.wf
  | .patternStatus c => c.wf
  | .laneInject c => c.wf
  | .laneTxSet c => c.wf
  | .memAlloc c => c.wf
  | .memFree c => c.wf
  | .memWrite c => c.wf
  | .memRead c => c.wf
  | .addressFault _ _ => true
  | .rowRetired chan bank => decide (chan < 16) && decide (bank < 16)
  | .dramRefresh chan refresh => decide (chan < 16) && decide (refresh.bank < 16)
  | .mr4Read chan _ => decide (chan < 16)
  | .wckTrack chan delays => decide (chan < 16) && decide (delays.length ≤ 4)
  | .retrainInterval chan => decide (chan < 16)
  | .retrainSlice _ => true
  | .patrolScrub _ _ => true
  | .expanderPresent e => decide (e.port < 4)
  | .enumerationDone slot => decide (slot < 32)
  | .expanderSurpriseRemove slot => decide (slot < 32)
  | .cxlEventPoll slot _ => decide (slot < 32)
  | .cxlVerify region _ _ => decide (region < 32)
  | .regionVerifyDone region => decide (region < 32)
  | .gpfStart _ => true
  | .gpfPhase1Done _ => true
  | .gpfDone _ _ => true
  | .cxlRegionCreate c => c.wf
  | .cxlRegionDelete c => c.wf
  | .cxlRegionAccept c => c.wf
  | .cxlExpanderRemove c => c.wf
  | .removalDrainDone slot => decide (slot < 32)
  | .relocationDone slot => decide (slot < 32)
  | .slotPowerOff slot => decide (slot < 32)
  | .cxlPersistFlush c => c.wf
  | .attentionButton slot => decide (slot < 32)
  | .attentionTimer slot => decide (slot < 32)
  | .recordFenceDone pl => decide (pl < 8)
  | .recordDeadline pl => decide (pl < 8)
  | .drainDone => true
  | .checkpoint bin => decide (bin < 64)
  | .binRecovery bin => decide (bin < 64)
  | .wearMove bin => decide (bin < 64)
  | .clipProtect c => c.wf
  | .clipMark c => c.wf
  | .sqTail page pair value _ => page.wf && decide (pair < 16) && decide (value < 65536)
  | .cqHead page pair value => page.wf && decide (pair < 16) && decide (value < 65536)
  | .sqFetch win pair => decide (win < 64) && decide (pair < 16)
  | .read win pair cid => decide (win < 64) && decide (pair < 16) && decide (cid < 65536)
  | .readFrame win pair cid => decide (win < 64) && decide (pair < 16) && decide (cid < 65536)
  | .dirRead win pair cid => decide (win < 64) && decide (pair < 16) && decide (cid < 65536)
  | .indexRead win pair cid => decide (win < 64) && decide (pair < 16) && decide (cid < 65536)
  | .importClip win pair cid _ => decide (win < 64) && decide (pair < 16) && decide (cid < 65536)
  | .cqFence win pair cid => decide (win < 64) && decide (pair < 16) && decide (cid < 65536)
  | .cqCommandTimeout win pair cid => decide (win < 64) && decide (pair < 16) && decide (cid < 65536)
  | .cqInterruptTimer win pair => decide (win < 64) && decide (pair < 16)
  | .queueCreate c => c.wf
  | .queueDelete c => c.wf
  | .queueRestart c => c.wf
  | .queueResume win pair => decide (win < 64) && decide (pair < 16)
  | .queueErrorLog c => c.wf
  | .queueStatus c => c.wf
  | .binCreate c => c.wf
  | .binDelete c => c.wf
  | .binFormat c => c.wf
  | .binSanitise c => c.wf
  | .binAdminStatus c => c.wf
  | .adminProgress bin _ => decide (bin < 64)
  | .adminDone bin => decide (bin < 64)
  | .vcOpen c => c.wf
  | .vcClose c => c.wf
  | .keyNow c => c.wf
  | .vcDecFeed c => c.wf
  | .feedTimeout engine => decide (engine < 2)
  | .vcPictureRead c => c.wf
  | .decodePace engine _ => decide (engine < 2)
  | .pictureDone engine _ _ => decide (engine < 2)
  | .pictureDeadline engine => decide (engine < 2)
  | .audioClockDetect port => decide (port < 16)
  | .audioClockLost port => decide (port < 16)
  | .fsEdge port _ _ _ _ => decide (port < 16)
  | .fsFlywheel port _ => decide (port < 16)
  | .audioRateMeasure port _ => decide (port < 16)
  | .audioBlockFetch port _ _ => decide (port < 16)
  | .audioBlockDeadline port _ => decide (port < 16)
  | .audioStart c => c.wf
  | .audioStatus c => c.wf
  | .hkConversion _ => true
  | .throttleStep => true
  | .status access => decide (access.addr < 128)
  | .slotState addr => decide (addr < 128)
  | .submit addr slot _ _ _ => decide (addr < 128) && decide (slot < 4)
  | .reply addr slot => decide (addr < 128) && decide (slot < 4)
  | .hkRead addr => decide (addr < 128)
  | .replyAck addr slot _ => decide (addr < 128) && decide (slot < 4)
  | .mbAbort => true
  | .mbStretchTimeout addr _ => decide (addr < 128)
  | .mbBusTimeout addr _ => decide (addr < 128)
  | .bgScheduler => true
  | .telemetryCollect _ _ => true
  | .scrubBehind => true
  | .pageZeroing _ => true
  | .hkStatus c => c.wf
  | .bgStatus c => c.wf
  | .vauxValid mgtAddr => decide (mgtAddr < 4)
  | .pwrgdRise => true
  | .dramTrainingDone _ => true
  | .startupComplete => true
  | .pwrgdFall => true
  | .coldReset => true
  | .deviceReset c => c.wf
  | .deviceResetFire => true
  | .powerStateSet c => c.wf
  | .darkReached => true
  | .darkExitDone => true
  | .darkReturnTimer => true
  | .tilePortAlign port d1 d2 d3 _ => decide (port < 1024) && decide (d1 < 256) && decide (d2 < 256) && decide (d3 < 256)
  | .discoverReceived p => p.wf && hdrType p.hdr == 4
  | .fsoReceived port d1 d2 d3 _ => decide (port < 1024) && decide (d1 < 256) && decide (d2 < 256) && decide (d3 < 256)
  | .partnerSignalDetect lane => decide (lane < 8)
  | .partnerAlign sets => sets.all AlignSet.wf
  | .partnerTrainTimeout => true
  | .partnerProbe pseq d2 d3 _ => decide (pseq < 65536) && decide (d2 < 256) && decide (d3 < 256)
  | .perstNRise clkMode => decide (clkMode < 4)
  | .vauxLoss => true
  | .refclkCoreLoss => true
  | .refclkCoreReturn => true

end Sys2Proof
end

