-- ==== Sys2Proof/Machine/Ops.lean ====
section
/-! DEFINITION. The operations shared by every family: time, free values, host memory, event records, the fault log, partners, and replies. -/

namespace Sys2Proof.Machine

/-- The outcome type of a meaning. -/
abbrev Result := Host.Outcome State Fault Refusal

/-- A meaning of command `i` on state `s`: it runs if the command names units that the device has, and comes to `t`; the queue is not the
command's to change. -/
def guarded (i : Instr) (s t : State) : Result := if i.wellFormed then .next { t with pending := s.pending } else .fault .noSuchUnit

/-- Time is at least `t` Ringmaster ticks. -/
def State.atLeast (t : Nat) (s : State) : State := { s with now := max s.now t }

/-- A fresh free value and the state that has used it (log 1). -/
def State.fresh (s : State) : Nat × State := (Config.freeValue s.free, { s with free := s.free + 1 })

/-- Something leaves the lanes or pins. -/
def State.emit (x : Tx) (s : State) : State := { s with sent := x :: s.sent }

/-! ### Host memory -/

/-- The first of the `n` host bytes from `a` on which DMA fails, counted from `a`; `n` if none. -/
def State.hostGood (s : State) (a n : Nat) : Nat :=
  s.ctl.hostFault.foldl (fun g f => if f.1 ≤ a then (if a < f.1 + f.2 then 0 else g) else min g (f.1 - a)) n

/-- DMA to host memory: the bytes before the first failing one are written, and whether all were. -/
def State.hostWrite (a : Nat) (l : List Byte) (s : State) : State × Bool :=
  let g := s.hostGood a l.length
  ({ s with ctl := { s.ctl with hostMem := putBytes zeroByte s.ctl.hostMem a (l.take g) } }, decide (g = l.length))

/-- DMA from host memory: the bytes before the first failing one. -/
def State.hostRead (s : State) (a n : Nat) : List Byte := takeBytes zeroByte s.ctl.hostMem a (s.hostGood a n)

/-! ### Event records (R76 to R80) -/

/-- An event: type, source class and index, payload, frame tag. -/
structure Event where
  typ : Nat
  cls : Nat
  idx : Nat
  payload : Nat := 0
  tag : Nat := 0
  deriving DecidableEq, Repr

/-- Unconsumed records of a window's ring. -/
def Window.count (w : Window) : Nat := (w.head + 2 ^ w.sizeLog2 - w.tail) % 2 ^ w.sizeLog2

/-- The record limit *L* of window `n` (R80). -/
def State.recordLimit (s : State) (n : Nat) : Nat := min (s.getP P.EVENT_QUOTA n) (2 ^ (s.win n).sizeLog2 - 1)

/-- The bytes of an event record (Table 2-17). -/
def eventBytes (e : Event) (phase : Bool) (status time : Nat) : List Byte :=
  leBytes (e.cls * 4096 + e.idx) 2 ++ leBytes (e.typ + 0x8000 * b2n phase) 2 ++ leBytes status 4 ++ leBytes time 8
    ++ leBytes e.tag 4 ++ leBytes e.payload 12

/-- A record of window `n` is lost (R80). -/
def State.loseRecord (n : Nat) (s : State) : State :=
  let w := s.win n
  s.setWin n { w with lost := sat32 (w.lost + 1), pendLoss := w.pendLoss + 1, firstLoss := if w.pendLoss = 0 then s.now else w.firstLoss }

/-- A record written at EVENT_HEAD of window `n`; whether the write to host memory succeeded (R76, R80). -/
def State.writeRecord (n : Nat) (e : Event) (s : State) : State × Bool :=
  let w := s.win n
  let a := w.base + 32 * w.head
  if s.hostGood a 32 < 32 then ({ s with ctl := { s.ctl with aer := s.ctl.aer + 1 } }, false)
  else
    let s1 := (s.setWin n { w with head := (w.head + 1) % 2 ^ w.sizeLog2, written := w.written + 1 }).advanceWin n
    let phase := (w.written / 2 ^ w.sizeLog2) % 2 == 0
    (s1.hostWrite a (eventBytes e phase (s1.statusWord n 0) s.now)).1 |> fun s2 => (s2, true)

/-- A record generated for window `n` is written, or lost (R80). -/
def State.postTo (n : Nat) (e : Event) (s : State) : State :=
  let w := s.win n
  if w.state ≠ .opened then s
  else if w.pendLoss = 0 ∧ w.count + 1 < s.recordLimit n then
    let r := s.writeRecord n e
    if r.2 then r.1 else r.1.loseRecord n
  else s.loseRecord n

/-- The event of type QUEUE_FROZEN goes to one window only, OVERFLOW has its own operation; any other goes to every open window
whose mask enables it (R79). -/
def State.postEvent (e : Event) (s : State) : State :=
  (s.ctl.wins.map Prod.fst).foldl (fun t n => if (t.win n).mask.testBit e.typ then t.postTo n e else t) s

/-- The tag stamped at ingest on the newest frame of camera group `g` (R77); before the first one the master period's. -/
def State.ingestTag (s : State) (g : Nat) : Nat := ((SMap.get (fun _ => {}) s.cam.groups g : CamGroup).lastTag).getD s.ring.tag

/-- The FRAME_TAG of an event by its source (R77): of a camera group (class 0x2, its sensors 0x3), of a pipeline's newest frame (0x4), of a canvas's
show period (0x5), of the master period in progress. -/
def State.sourceTag (s : State) (cls idx : Nat) : Nat :=
  if cls = 0x2 then s.ingestTag idx
  else if cls = 0x3 then s.ingestTag (idx / 4)
  else if cls = 0x4 then
    let x : Pipe := SMap.get (fun _ => {}) s.pipes idx
    match x.cur, x.last with
    | some f, _ => f.tag
    | none, some f => f.tag
    | none, none => s.ring.tag
  else if cls = 0x5 then (SMap.get (fun _ => {}) s.cv.cvs idx : Canvas).tag
  else s.ring.tag

/-- An event whose frame tag its source gives (R77). -/
def State.post (typ cls idx payload : Nat) (s : State) : State :=
  s.postEvent { typ := typ, cls := cls, idx := idx, payload := payload, tag := s.sourceTag cls idx }

/-- An event of a canvas, camera group or pipeline, with a frame tag of its own (R77). -/
def State.postTagged (typ cls idx payload tag : Nat) (s : State) : State :=
  s.postEvent { typ := typ, cls := cls, idx := idx, payload := payload, tag := tag }

/-- The OVERFLOW record of window `n`, if losses are pending and the count is below *L* (R80, R467). -/
def State.overflow (n : Nat) (s : State) : State :=
  let w := s.win n
  if w.state = .opened ∧ 0 < w.pendLoss ∧ w.count < s.recordLimit n then
    let r := s.writeRecord n { typ := 0x01, cls := 0xE, idx := n, payload := wrap32 w.pendLoss + at' 32 w.firstLoss, tag := s.ring.tag }
    if r.2 then r.1.setWin n { r.1.win n with pendLoss := 0, firstLoss := 0 } else r.1
  else s

/-- A deadline drop: the task is a row of Table 1-10 counted from 0 (R37). -/
def State.deadlineDrop (task cls idx count : Nat) (s : State) : State := s.post 0x08 cls idx (task + at' 8 count)

/-- QUOTA_CHANGE (Table 2-26): holder kind, over or within, source. -/
def State.quotaChange (isOver : Bool) (kind cls idx carve : Nat) (s : State) : State :=
  s.post 0x09 cls idx (b2n isOver + at' 8 kind + at' 16 carve)

/-- EVENT_OVER_QUOTA of window `n` follows its unconsumed count and its quota (R44, Table 1-14). -/
def State.reviewEventQuota (n : Nat) (s : State) : State :=
  let isOver := decide (s.getP P.EVENT_QUOTA n < (s.win n).count)
  if isOver == (s.getP P.EVENT_OVER_QUOTA n == 1) then s
  else (s.setP P.EVENT_OVER_QUOTA n (b2n isOver)).quotaChange isOver 1 0xE n 0

/-! ### Fault log (R468) -/

/-- An entry is added to the fault log, of which the newest 64 are kept (R425); FAULT is raised and its event posted. -/
def State.logFault (cls idx code detail : Nat) (s : State) : State :=
  let q := s.ctl.faultNext
  let e : FaultEntry := { seq := q, time := s.now, cls := cls, idx := idx, code := code, detail := detail }
  let l := s.ctl.faultLog ++ [e]
  let s1 : State := { s with ctl := { s.ctl with faultLog := l.drop (l.length - 64), faultNext := wrap32 (q + 1) } }
  s1.latchFault.post 0x0D cls idx (q + at' 32 code)

/-- A firmware notice of the given kind (Table 2-19). -/
def State.fwNotice (kind release : Nat) (s : State) : State := s.latchFwNotice.post 0x06 0x0 0 (kind + at' 8 release)

/-! ### Partners (R45, R46) -/

/-- A partner's number: kind, position and hop (Table 2-24). -/
abbrev partnerKey (p : PartnerId) : Nat := p.kind * 0x1000000 + p.pos * 0x100 + p.hop

abbrev partnerDef : Nat → Partner := fun _ => {}

def State.partner (s : State) (p : PartnerId) : Partner := SMap.get partnerDef s.ctl.partners (partnerKey p)

def State.setPartner (p : PartnerId) (x : Partner) (s : State) : State :=
  { s with ctl := { s.ctl with partners := SMap.set partnerDef s.ctl.partners (partnerKey p) x } }

/-- The source class and index of a partner's records (Table 2-18, R466), as one number. -/
abbrev srcOf (cls idx : Nat) : Nat := cls * 4096 + idx

/-- The partner arrives physically; its arrival is reported after 10 ms. -/
def State.partnerArrives (p : PartnerId) (src payload : Nat) (s : State) : State :=
  let x := s.partner p
  s.setPartner p { x with present := true, since := s.now, reported := false, src := src, payload := payload }

/-- The record that a quarantine was entered or left (Table 2-19, 0x04). -/
def State.postQuarantine (entered : Bool) (p : PartnerId) (s : State) : State :=
  s.post 0x04 ((s.partner p).src / 4096) ((s.partner p).src % 4096) (b2n entered + at' 8 p.kind + at' 16 p.pos + at' 32 p.hop)

/-- The arrival has stayed for 10 ms, so it is reported; a quarantined partner's record follows it (R46). -/
def State.reportArrival (p : PartnerId) (s : State) : State :=
  let x := s.partner p
  if x.present && !x.reported then
    let s1 := ((s.setPartner p { x with reported := true, qPosted := x.qPosted || x.quarantined }).latchConfig).post
      0x02 (x.src / 4096) (x.src % 4096) x.payload
    if x.quarantined then s1.postQuarantine true p else s1
  else s

/-- The partner departs: counted for quarantine, and reported if its arrival was (R46). -/
def State.partnerDeparts (p : PartnerId) (s : State) : State :=
  let x := s.partner p
  if x.present then
    let d := s.now :: x.departs.filter (fun t => s.now < t + 10000000000)
    let s1 := s.setPartner p { x with present := false, reported := false, departs := d, quarantined := x.quarantined || 8 ≤ d.length }
    if x.reported then s1.latchConfig.post 0x03 (x.src / 4096) (x.src % 4096) x.payload else s1
  else s

/-- The partner leaves quarantine; its count of departures restarts from 0 (R46). -/
def State.leaveQuarantine (p : PartnerId) (s : State) : State :=
  let x := s.partner p
  let s1 := s.setPartner p { x with quarantined := false, qPosted := false, departs := [] }
  if x.qPosted then s1.postQuarantine false p else s1

/-- The partner is present and may be given traffic. -/
def State.partnerUsable (s : State) (p : PartnerId) : Bool := (s.partner p).present && !(s.partner p).quarantined

/-! ### Commands and replies (R55, R56) -/

/-- The reply record for command `f`, with view `f.cmd.win`'s status word at this moment. -/
def State.replyFor (s : State) (f : Flight) (final : Bool) (code len result : Nat) : Reply :=
  { status := s.statusWord f.cmd.win code, tag := f.cmd.tag, final := final, len := len, seq := f.cmd.seq, opcode := f.opcode
    result := result % 2 ^ (8 * len) }

abbrev replyDef : Nat → Reply := fun _ => {}

/-- A reply is written to the record of its slot, and REPLY_READY set; a bus slot becomes READY by a final reply only (R399). -/
def State.writeReply (w slot : Nat) (r : Reply) (s : State) : State :=
  let x := s.win w
  s.setWin w { x with replies := SMap.set replyDef x.replies slot r
                      ready := if r.final || w != 64 then setBit x.ready slot else x.ready
                      busy := if r.final then clrBit x.busy slot else x.busy }

/-- The command with this ticket, while it has no final reply. -/
def State.flight? (s : State) (tk : Nat) : Option Flight := s.ctl.flights.find? fun f => f.ticket == tk

/-- The commands that the device runs in DARK without an exit (R434). -/
def darkExempt (op : Nat) : Bool := [0x0001, 0x0003, 0x0004, 0x0009, 0x0010, 0x0013, 0x0032, 0x0A01].contains op

/-- Aipex does not run: it restarts, or a switchover has exported its state (R18, R19, Table 2-22). -/
def State.aipexDown (s : State) : Bool := !s.ctl.fwReady && (s.ctl.restarting || (s.ctl.switch.map Switchover.imported).getD false)

/-- The final reply of the command with ticket `tk` is written: SLOT_BUSY clears. Nothing happens if it has had one. -/
def State.writeFinal (tk code len result : Nat) (s : State) : State :=
  match s.flight? tk with
  | none => s
  | some f =>
    let s1 : State := { s with ctl := { s.ctl with flights := s.ctl.flights.filter fun g => g.ticket != tk } }
    let s2 := s1.writeReply f.cmd.win f.cmd.slot (s.replyFor f true code len result)
    if s2.pw.returnFrom.isSome && !darkExempt f.opcode then { s2 with pw := { s2.pw with returnFrom := some s2.now } } else s2

/-- The command with ticket `tk` has completed: its final reply is written, or waits until Aipex runs again (Table 1-2). -/
def State.finalReply (tk code len result : Nat) (s : State) : State :=
  if s.aipexDown then
    (if (s.flight? tk).isSome && !(s.ctl.heldReplies.any fun e => e.1 == tk) then
      { s with ctl := { s.ctl with heldReplies := s.ctl.heldReplies ++ [(tk, code, len, result)] } }
    else s)
  else s.writeFinal tk code len result

/-- Aipex runs again: the replies that waited are written. -/
def State.releaseReplies (s : State) : State :=
  s.ctl.heldReplies.foldl (fun t e => t.writeFinal e.1 e.2.1 e.2.2.1 e.2.2.2) { s with ctl := { s.ctl with heldReplies := [] } }

/-- A reply with FINAL = 0 (DEFERRED or POWER_HELD). -/
def State.interimReply (tk code : Nat) (s : State) : State :=
  match s.flight? tk with
  | none => s
  | some f => s.writeReply f.cmd.win f.cmd.slot (s.replyFor f false code 0 0)

/-- The command with ticket `tk` has started. -/
def State.startFlight (tk : Nat) (s : State) : State :=
  { s with ctl := { s.ctl with flights := s.ctl.flights.map fun f => if f.ticket = tk then { f with started := true } else f } }

/-- The device's interface that a command comes through is up: PCIe answers from INTERMISSION or RECOVERY on (R427) and does not train with
PCIE_CLKMODE 0b11 (R455); the bus takes commands once PWRGD is high (R406). -/
def State.reachable (s : State) (w : Nat) : Bool :=
  if w = 64 then s.ctl.boot != .off && s.ctl.boot != .auxOnly
  else s.ctl.perstN && s.pw.clkMode != 3 && (s.ctl.boot == .running || s.ctl.boot == .recoveryImage || s.ctl.boot == .recoveryDram)

/-- The function through which window `w` is used: VF `w` while it is enabled, else the PF (R49). -/
def State.windowFunction (s : State) (w : Nat) : Nat := if s.ctl.vfEnable ∧ 1 ≤ w ∧ w ≤ s.ctl.numVfs then w else 0

/-- Accesses of function `fn` (0 the PF, *n* VF *n*) to window `w` reach it: the PF's are ignored, and read 0, while the window's VF is enabled (R49). -/
def State.hostTakes (s : State) (fn w : Nat) : Bool := s.reachable w && s.windowFunction w == fn

/-- The state of W00, which boot may have put in RECOVERY (R52). -/
def State.winState (s : State) (w : Nat) : WinState :=
  if s.ctl.boot = .recoveryImage ∨ s.ctl.boot = .recoveryDram then (if w = 0 then .recovery else .closed) else (s.win w).state

end Sys2Proof.Machine
end

