-- ==== Sys2Proof/Machine/Operands.lean ====
section
/-! DEFINITION. How a mailbox command is submitted, held, checked and answered (R34, R54 to R58, R62, R405, R434), whatever its opcode. -/

namespace Sys2Proof

/-- Operand bits `[lo+n-1:lo]`. -/
abbrev Cmd.f (c : Cmd) (lo n : Nat) : Nat := bits c.ops lo n

/-- The IMMEDIATE flag. -/
abbrev Cmd.immediate (c : Cmd) : Bool := c.flags.testBit 2

end Sys2Proof

namespace Sys2Proof.Machine

/-- A command as its meaning sees it: its slot contents, the ticket its final reply is owed to, its privilege. -/
structure Call where
  c : Cmd
  tk : Nat
  priv : Bool

/-- What a command answers at once: a final reply with a completion code, result length and result, or nothing yet. -/
inductive Ans where
  | done (code len result : Nat)
  | wait
  deriving DecidableEq, Repr

/-- Final reply OK without results. -/
abbrev Ans.ok : Ans := .done 0 0 0

/-- Final reply with completion code `code` and no results. -/
abbrev Ans.err (code : Nat) : Ans := .done code 0 0

/-! Completion codes (Table 2-7). -/
abbrev cOK : Nat := 0x00
abbrev cDEFERRED : Nat := 0x01
abbrev cBUSY : Nat := 0x02
abbrev cBAD_OPCODE : Nat := 0x03
abbrev cBAD_PARAM : Nat := 0x04
abbrev cNOT_PERMITTED : Nat := 0x05
abbrev cNO_RESOURCE : Nat := 0x06
abbrev cQUOTA : Nat := 0x07
abbrev cFROZEN : Nat := 0x08
abbrev cTIMEOUT : Nat := 0x09
abbrev cMEDIA_ERROR : Nat := 0x0A
abbrev cABORTED : Nat := 0x0B
abbrev cLATE : Nat := 0x0C
abbrev cDAMAGED : Nat := 0x0D
abbrev cPOWER_HELD : Nat := 0x0E
abbrev cVERSION : Nat := 0x0F
abbrev cBAD_SIGNATURE : Nat := 0x10
abbrev cROLLBACK : Nat := 0x11
abbrev cWINDOW_CLOSED : Nat := 0x12
abbrev cNO_COMMON_BOUNDARY : Nat := 0x13

/-- What the opcode tables say of an opcode: number, privilege, the operand lengths it defines (R54), its reserved operand bits,
and which of its forms the management bus may issue (R405). -/
structure OpSpec where
  op : Nat
  priv : Bool := false
  /-- Forms that are privileged although the opcode is not. -/
  privIf : Cmd → Bool := fun _ => false
  len : Cmd → Bool
  rsvd : Nat := 0
  bus : Cmd → Bool := fun _ => true

/-- An opcode with operands of `n` bytes. -/
abbrev OpSpec.fixed (op n : Nat) : OpSpec := { op := op, len := fun c => c.opLen == n }

/-- The meaning of an opcode from step 7 of R62 on. -/
abbrev Body := Call → State → State × Ans

/-- A command before which a FENCE stands, or which is one (R34). -/
def Flight.fenceBefore (f : Flight) : Bool := f.opcode == 0x0002 || f.cmd.flags.testBit 1 || f.cmd.flags.testBit 0

/-- A command after which a FENCE stands, or which is one. -/
def Flight.fenceAfter (f : Flight) : Bool := f.opcode == 0x0002 || f.cmd.flags.testBit 0

/-- Command `g` of `f`'s window was submitted before `f` and has not completed. -/
def Flight.earlier (f g : Flight) : Bool := g.cmd.win == f.cmd.win && decide (g.ticket < f.ticket)

/-- The fences of its window let the command start (R34): none stands before it, and none that lies earlier in its window, before or after a
command that has not completed, still waits. -/
def State.fencesOpen (s : State) (f : Flight) : Bool :=
  s.ctl.flights.all fun g =>
    !f.earlier g || (!f.fenceBefore && !g.fenceAfter && !(g.fenceBefore && s.ctl.flights.any fun h => g.earlier h))

/-- Some step of an entry to DARK is under way, or DARK is being left (Tables 15-6, 15-7). -/
def PwStep.dark : PwStep → Bool
  | .handover | .awaitBoundary | .draining | .flushing | .sleeping | .exiting => true
  | _ => false

/-- The command arrives in DARK or during its entry, and is not one that runs there (R434). -/
def State.powerHolds (s : State) (f : Flight) : Bool :=
  (s.pw.step.dark || s.powerState == 2) && !darkExempt f.opcode && !(f.opcode == 0x0040 && f.cmd.f 0 8 == 2 && s.pw.step != .exiting)

/-- The exit from DARK starts (R432, R434). -/
def State.beginDarkExit (reason : Nat) (s : State) : State :=
  let s1 : State := { s with pw := { s.pw with step := .exiting, start := s.now, reason := reason, exitWanted := false } }
  (s1.setP P.PW_STATE 0 (0x10000 + 0x100 * 1 + 2)).advanceAll

/-- The command is held: POWER_HELD with FINAL = 0, and the device leaves DARK for it as soon as DARK is reached (R434). -/
def State.powerHold (f : Flight) (s : State) : State :=
  let s1 := if f.held then s else s.interimReply f.ticket cPOWER_HELD
  let s2 : State := { s1 with ctl := { s1.ctl with
    flights := s1.ctl.flights.map fun g => if g.ticket = f.ticket then { g with held := true } else g } }
  if s2.powerState == 2 && s2.pw.step == .none then s2.beginDarkExit 1
  else if s2.pw.step == .exiting then s2 else { s2 with pw := { s2.pw with exitWanted := true } }

/-- The commands that W00 accepts in RECOVERY (R82, R289). -/
def State.recoveryAccepts (s : State) (op : Nat) (c : Cmd) : Bool :=
  if s.ctl.boot = .recoveryImage then [0x0001, 0x0003, 0x0009, 0x0030, 0x0032].contains op || (op == 0x0031 && c.ops.testBit 0)
  else [0x0001, 0x0003, 0x0009, 0x0032].contains op

/-- The firmware that runs is the release that the manual describes, or the boot code (R6, R82). -/
def State.fwCurrent (s : State) : Bool :=
  s.ctl.boot == .recoveryImage || s.ctl.boot == .recoveryDram || s.getP P.FW_RELEASE 0 / 65536 == 0x0401

/-- The running firmware supports the opcode (R6). -/
def State.fwSupports (s : State) (op : Nat) : Bool := s.fwCurrent || Config.fwSupports (s.getP P.FW_RELEASE 0) op

/-- The running firmware supports the table (R6). -/
def State.fwSupportsTable (s : State) (t : Nat) : Bool := s.fwCurrent || Config.fwSupportsTable (s.getP P.FW_RELEASE 0) t

/-- Step 4 of R62: the window's state. -/
def State.windowCheck (s : State) (op : Nat) (c : Cmd) : Option Nat :=
  if c.win = 64 then none
  else match s.winState c.win with
    | .opened => none
    | .closed =>
      if [0x0001, 0x0003].contains op then none
      else if op = 0x0005 then
        if s.ctl.boot = .recoveryImage ∨ s.ctl.boot = .recoveryDram then some cNOT_PERMITTED else none
      else some cWINDOW_CLOSED
    | .recovery => if s.recoveryAccepts op c then none else some cNOT_PERMITTED

/-- Steps 1 to 6 of R62: the first failure found. DESIGN CHOICE (log 138): a failure found here carries no result, also for PARAM_SET_GROUP: an
OPERAND_LEN above 240 or a reserved header bit names no element, so index 0xFFFF of R69 is not given for it. -/
def State.checkCmd (spec : OpSpec) (f : Flight) (s : State) : Option Nat :=
  let c := f.cmd
  if c.ver ≠ 1 then some cVERSION
  else if !s.fwSupports spec.op then some cVERSION
  else match s.windowCheck spec.op c with
    | some e => some e
    | none =>
      if (spec.priv || spec.privIf c) && !f.priv then some cNOT_PERMITTED
      else if c.win == 64 && !spec.bus c then some cNOT_PERMITTED
      else if c.flags / 8 ≠ 0 ∨ c.rsvd06 ≠ 0 ∨ c.rsvd0D ≠ 0 ∨ 240 < c.opLen then some cBAD_PARAM
      else if !spec.len c then some cBAD_PARAM
      else if (c.ops % 2 ^ (8 * c.opLen)) &&& spec.rsvd ≠ 0 then some cBAD_PARAM
      else none

/-- The checks, then the command's meaning, then its final reply unless it must wait. -/
def runFlight (spec : OpSpec) (body : Body) (f : Flight) (s : State) : State :=
  let s1 := s.startFlight f.ticket
  match s1.checkCmd spec f with
  | some code => s1.finalReply f.ticket code 0 0
  | none =>
    let r := body { c := f.cmd, tk := f.ticket, priv := f.priv } s1
    match r.2 with
    | .done code len result => r.1.finalReply f.ticket code len result
    | .wait => r.1

/-- A taken command is held by the power state, waits behind a fence, or runs. -/
def tryFlight (spec : OpSpec) (body : Body) (f : Flight) (s : State) : State :=
  if s.powerHolds f then s.powerHold f
  else if s.fencesOpen f then runFlight spec body f s
  else s

/-- The header and operands of a command as they stand in its slot (Table 2-4). -/
def slotBytes (op : Nat) (c : Cmd) : List Byte :=
  leBytes op 2 ++ leBytes c.tag 1 ++ leBytes c.flags 1 ++ leBytes c.opLen 2 ++ leBytes c.rsvd06 2 ++ leBytes c.seq 4
    ++ leBytes c.ver 1 ++ leBytes c.rsvd0D 3 ++ leBytes c.ops (min c.opLen 240)

/-- The opcode and command that stand in slot `slot` of window `w`. -/
def State.slotCmd (s : State) (w slot : Nat) : Nat × Cmd :=
  let b := fun (o n : Nat) => ofLE (takeBytes zeroByte (s.win w).slots (slot * 256 + o) n)
  (b 0 2, { win := w, slot := slot, tag := b 2 1, flags := b 3 1, opLen := b 4 2, rsvd06 := b 6 2, seq := b 8 4, ver := b 12 1
            rsvd0D := b 13 3, ops := b 16 (min (b 4 2) 240) })

/-- Where in the operands of an opcode the host address stands, in bytes, if it has one. -/
def hostAddrField (op : Nat) : Option Nat :=
  (([(0x0020, 0x10), (0x0021, 0x10), (0x0030, 0x08), (0x0603, 0x08), (0x0804, 0x08)] : List (Nat × Nat)).find? fun e => e.1 == op).map Prod.snd

/-- The bytes the command says stand in host memory at its host address (environment). -/
def hostOverlay (op : Nat) (c : Cmd) (s : State) : State :=
  match hostAddrField op with
  | some o => if c.host.isEmpty then s
              else { s with ctl := { s.ctl with hostMem := putBytes zeroByte s.ctl.hostMem (c.f (8 * o) 64) c.host } }
  | none => s

/-- A privileged bus address answered last (R405). -/
def State.busPrivileged (s : State) : Bool :=
  let a := s.getP P.MB_LAST_ADDR 0
  if s.getP P.MB_ADDR_MODE 0 = 1 then (s.getP P.MB_ADDR 0).testBit 8
  else (List.range 4).any fun i => (s.getP P.MB_ADDR i) % 128 == a && (s.getP P.MB_ADDR i).testBit 7 && (s.getP P.MB_ADDR i).testBit 8

/-- The slot is neither busy nor unacknowledged (R55, R399). -/
def State.slotFree (s : State) (w slot : Nat) : Bool := !(s.win w).busy.testBit slot && !(s.win w).ready.testBit slot

/-- A doorbell for a slot that is not free (R55, R399). -/
def State.doorbellError (w slot : Nat) (s : State) : State :=
  if w = 64 then s.bumpSat P.MB_SLOT_ERRORS 0 1
  else s.setWin w { s.win w with derr := setBit (s.win w).derr slot }

/-- The slot is rung: SLOT_BUSY is set, and the slot waits for Aipex. -/
def State.ring' (w slot : Nat) (priv : Bool) (s : State) : State :=
  let x := s.win w
  s.setWin w { x with busy := setBit x.busy slot, rung := setBit x.rung slot
                      rungPriv := if priv then setBit x.rungPriv slot else clrBit x.rungPriv slot }

/-- A ticket above those of the commands in progress and of every command taken before. -/
def State.newTicket (s : State) : Nat := s.ctl.flights.foldl (fun m f => max m (f.ticket + 1)) s.ctl.ticket

/-- Aipex takes a rung slot: the copy of it becomes a command in progress. -/
def State.take (op : Nat) (c : Cmd) (s : State) : Flight × State :=
  let x := s.win c.win
  let f : Flight := { ticket := s.newTicket, opcode := op, cmd := c, priv := c.win == 0 || (c.win == 64 && x.rungPriv.testBit c.slot) }
  let s1 := s.setWin c.win { x with rung := clrBit x.rung c.slot }
  (f, { s1 with ctl := { s1.ctl with ticket := s.newTicket + 1, flights := s1.ctl.flights ++ [f] } })

/-- A write to a slot from byte `o` of it on: a window's is dropped while the slot is busy (R55), the bus's unless it is FREE (R399). -/
def State.writeSlot (w slot o : Nat) (l : List Byte) (s : State) : State :=
  let x := s.win w
  if x.busy.testBit slot || (w == 64 && x.ready.testBit slot) then s else s.setWin w { x with slots := putBytes zeroByte x.slots (slot * 256 + o) l }

/-- A mailbox command: it is written to its slot and rung; if Aipex is taking doorbells it is taken and executed in this tick,
otherwise it stays rung until it does. -/
def submit (spec : OpSpec) (body : Body) (c : Cmd) (s : State) : State :=
  if !s.reachable c.win then s
  else
    let s0 := s.writeSlot c.win c.slot 0 (slotBytes spec.op c)
    if !s.slotFree c.win c.slot then s0.doorbellError c.win c.slot
    else
    let s1 := hostOverlay spec.op c s0
    let s2 := s1.ring' c.win c.slot (c.win == 64 && s.busPrivileged)
    if s.ctl.fwReady then
      let r := s2.take spec.op c
      tryFlight spec body r.1 r.2
    else s2

end Sys2Proof.Machine
end

