-- ==== Sys2Proof/Machine/Dram.lean ====
section
/-! DEFINITION. Local DRAM: bandwidth reservations, buffers of the carve-outs, ECC results, row retirement, retraining, refresh and patrol scrub
(R42, R275 to R291). -/

namespace Sys2Proof.Machine

/-! ### Die temperatures (R408) -/

/-- The signed reading of a diode channel in 1/16 °C. -/
def State.hkReading (s : State) (n : Nat) : Int := signed 16 (s.getP P.HK_READING n)

/-- The hottest valid diode reading, if any. -/
def State.hottestValid (s : State) : Option Int :=
  ((List.range 5).filter fun n => !(s.hk.diodes.getD n {}).faulty).foldl (init := none) fun a n =>
    match a with
    | none => some (s.hkReading n)
    | some t => some (max t (s.hkReading n))

/-- The temperature of die `n` (C, E0 to E3): its reading, or while its channel is FAULTY the hottest valid diode plus 10 °C. -/
def State.dieTemp (s : State) (n : Nat) : Int :=
  if (s.hk.diodes.getD n {}).faulty then (s.hottestValid.getD 0) + 160 else s.hkReading n

/-! ### Bandwidth (R40 to R43) -/

/-- The reservation key of an owner at a rank. -/
abbrev bwKey (rank owner : Nat) : Nat := rank * 4096 + owner

/-- What rank `r` asks for, in bytes/s. -/
def State.bwAsked (s : State) (r : Nat) : Nat := ((s.dram.bw.filter fun e => e.1 / 4096 == r).map Prod.snd).sum

/-- What all ranks may reserve together, in bytes/s. -/
def State.bwLimit (s : State) : Nat := s.getP P.BW_RESERVABLE_PCT 0 * 6144000000

/-- What the throttle step leaves of a rank's capacity (Table 14-5). -/
def throttleShare (step rank kept : Nat) : Nat :=
  if rank = 3 then (if 4 ≤ step then 0 else if 3 ≤ step then kept / 2 else kept)
  else if rank = 2 then (if 6 ≤ step then 0 else if 5 ≤ step then kept / 2 else kept)
  else kept

/-- What rank `r` keeps after the ranks above it, in bytes/s (R40, R411). Rank 1 loses nothing. -/
def State.bwKept (s : State) (r : Nat) : Nat :=
  let before := ((List.range r).map fun i => s.bwAsked i).sum
  if r = 1 then s.bwAsked 1 else throttleShare (s.getP P.TH_STEP 0) r (min (s.bwAsked r) (s.bwLimit - before))

/-- BW_RESERVED and BW_SHORTFALL follow the reservations (R43). -/
def State.bwReport (s : State) : State :=
  (List.range 5).foldl (init := s) fun t i =>
    let asked := rdivN (s.bwAsked (i + 1)) 1000000
    let kept := min asked (rdivN (s.bwKept (i + 1)) 1000000)
    (t.setP P.BW_RESERVED i kept).setP P.BW_SHORTFALL i (asked - kept)

/-- The reservation of an owner at a rank becomes `bps` bytes/s. -/
def State.bwSet (rank owner bps : Nat) (s : State) : State :=
  State.bwReport { s with dram := { s.dram with bw := SMap.set (fun _ => 0) s.dram.bw (bwKey rank owner) bps } }

/-- The reservation of an owner at a rank. -/
def State.bwOf (s : State) (rank owner : Nat) : Nat := SMap.get (fun _ => 0) s.dram.bw (bwKey rank owner)

/-- A rank 1 reservation is accepted: it does not push rank 1 past the limit, or does not raise it (R42). -/
def State.bwAccepts (s : State) (owner bps : Nat) : Bool :=
  let old := s.bwAsked 1
  let new := old - s.bwOf 1 owner + bps
  decide (new ≤ s.bwLimit) || decide (new ≤ old)

/-! ### Buffers (R275 to R278) -/

/-- 2 MiB, the page. -/
abbrev pageBytes : Nat := 0x200000

/-- The pages of the shared pool of 122,880 MiB. -/
abbrev poolPages : Nat := 61440

/-- The base of carve-out `k`'s window of 128 GiB (Table 9-1). -/
abbrev carveWindow (k : Nat) : Nat := k * 0x2000000000

/-- MiB of carve-out 0 that the firmware uses: an unknown number of 2 MiB pages, at most 1,024 (R276). -/
def State.carve0MiB (s : State) : Nat := 2 * min 1024 (Config.carve0Use (s.getP P.FW_RELEASE 0))

/-- Bytes of the Ferris write buffer in use (R313, R316). -/
def State.wbUsed (s : State) : Nat := (s.fr.wb.map fun f => f.size).sum

/-- Pages in use in carve-outs 1 to 4; the write buffer's use is counted in whole pages. -/
def State.usedPages (s : State) : Nat := (s.dram.buffers.map fun b => b.pages.length).sum + cdiv s.wbUsed pageBytes

/-- `n` more pages are free: even beside the largest carve-out 0, or beside what it uses. -/
def State.pagesFree (s : State) (n : Nat) : Bool :=
  decide (s.usedPages + n ≤ poolPages - 1024) || decide (s.usedPages + n ≤ poolPages - s.carve0MiB / 2)

/-- MiB in use in carve-out `k`. -/
def State.carveUsed (s : State) (k : Nat) : Nat :=
  if k = 0 then s.carve0MiB
  else ((s.dram.buffers.filter fun b => b.carve == k).map fun b => b.bytes / 0x100000).sum + (if k = 4 then 2 * cdiv s.wbUsed pageBytes else 0)

/-- Free MiB of the pool. -/
def State.poolFree (s : State) : Nat := 122880 - s.carve0MiB - 2 * s.usedPages

/-- Lowest free physical pages from `from'` up, clean ones only where `clean`. -/
def pickPages (used : List Nat) (dirty : List Nat) (clean : Bool) : Nat → Nat → Nat → List Nat
  | 0, _, _ => []
  | _ + 1, _, 0 => []
  | fuel + 1, p, n + 1 =>
    if poolPages ≤ p then []
    else if used.contains p || (clean && dirty.contains p) then pickPages used dirty clean fuel (p + 1) (n + 1)
    else p :: pickPages used dirty clean fuel (p + 1) n

/-- The pages for an allocation: zeroed ones first (R277); pages 0 to 1,023 are left to carve-out 0 while others are free. -/
def State.choosePages (s : State) (n : Nat) : List Nat :=
  let used := s.dram.buffers.flatMap fun b => b.pages
  let a := pickPages used s.dram.dirty true poolPages 1024 n
  let b := if a.length < n then pickPages (used ++ a) [] false poolPages 1024 (n - a.length) else []
  let c := if a.length + b.length < n then pickPages (used ++ a ++ b) [] false 1024 0 (n - a.length - b.length) else []
  a ++ b ++ c

/-- The first 2 MiB boundary at or after offset `o` of the window where `bytes` fit beside the buffers, kept in rising order. -/
def firstFit (bytes : Nat) : List (Nat × Nat) → Nat → Option Nat
  | [], o => if o + bytes ≤ 0x2000000000 then some o else none
  | (b, n) :: r, o => if o + bytes ≤ b then some o else firstFit bytes r (max o (b + n))

/-- First-fit placement in carve-out `k`'s window. -/
def State.placeBuffer (s : State) (k bytes : Nat) : Option Nat :=
  let l := ((s.dram.buffers.filter fun b => b.carve == k).map fun b => (b.base - carveWindow k, b.bytes)).mergeSort (fun a b => decide (a.1 ≤ b.1))
  (firstFit bytes l 0).map (· + carveWindow k)

/-- The bytes and poison of a device address range are gone (zero-filled, with valid check words). -/
def State.clearRange (a n : Nat) (s : State) : State :=
  { s with dram := { s.dram with bytes := s.dram.bytes.filter fun e => e.1 < a || a + n ≤ e.1
                                 poison := s.dram.poison.filter fun e => e.1 < a || a + n ≤ e.1 } }

/-- QUOTA_CHANGE of a memory quota: a carve-out's (kind 2) or a window's (kind 3) (Table 2-26). -/
def State.memQuotaEvent (isOver : Bool) (kind i : Nat) (s : State) : State :=
  if kind = 2 then s.quotaChange isOver 2 0x0 0 i else s.quotaChange isOver 3 0xE i 0

/-- The use that a memory quota counts becomes `v`; passing the quota either way posts QUOTA_CHANGE (R44). -/
def State.setUse (used quota kind i v : Nat) (s : State) : State :=
  let q := s.getP quota i
  let was := decide (q < s.getP used i)
  let now := decide (q < v)
  let s1 := s.setP used i v
  if was == now then s1 else s1.memQuotaEvent now kind i

/-- A memory quota changes from `old` to `v`: a cut below the use, or its end, posts QUOTA_CHANGE (R44). -/
def State.moveQuota (used kind i old v : Nat) (s : State) : State :=
  let u := s.getP used i
  if decide (old < u) == decide (v < u) then s else s.memQuotaEvent (decide (v < u)) kind i

/-- MEM_CARVE_USED and MEM_WINDOW_USED follow the buffers. -/
def State.memReport (s : State) : State :=
  let s1 := [1, 2, 3, 4].foldl (fun t k => t.setUse P.MEM_CARVE_USED P.MEM_CARVE_QUOTA 2 k (s.carveUsed k)) s
  (List.range 64).foldl (init := s1) fun t w =>
    t.setUse P.MEM_WINDOW_USED P.MEM_WINDOW_QUOTA 3 w (((s.dram.buffers.filter fun b => b.owner == .window w).map fun b => b.bytes / 0x100000).sum)

/-- An allocation's outcome: the buffer's base, or the completion code. -/
inductive AllocResult where
  | base (a : Nat)
  | fail (code : Nat)
  deriving DecidableEq, Repr

/-- A buffer of `bytes`, rounded up to whole pages, in carve-out `k` (R277): QUOTA before NO_RESOURCE. -/
def State.allocBuffer (k bytes : Nat) (owner : BufOwner) (s : State) : State × AllocResult :=
  let n := cdiv bytes pageBytes
  let size := n * pageBytes
  if s.getP P.MEM_CARVE_QUOTA k < s.carveUsed k + 2 * n then (s, .fail cQUOTA)
  else if !s.pagesFree n then (s, .fail cNO_RESOURCE)
  else match s.placeBuffer k size with
    | none => (s, .fail cNO_RESOURCE)
    | some a =>
      let pg := s.choosePages n
      let b : Buffer := { carve := k, base := a, bytes := size, owner := owner, pages := pg, order := s.getP P.MEM_CARVE_ORDER k }
      let s1 : State := { s with dram := { s.dram with buffers := s.dram.buffers ++ [b], dirty := s.dram.dirty.filter fun p => !pg.contains p } }
      ((s1.clearRange a size).memReport, .base a)

/-- The buffer at `base` is released; its pages wait to be zeroed. -/
def State.freeBuffer (base : Nat) (s : State) : State :=
  let gone := s.dram.buffers.filter fun b => b.base == base
  let s1 : State := { s with dram := { s.dram with buffers := s.dram.buffers.filter fun b => b.base != base
                                                   dirty := s.dram.dirty ++ gone.flatMap fun b => b.pages } }
  (gone.foldl (fun t b => t.clearRange b.base b.bytes) s1).memReport

/-- The buffers of an owner are released. -/
def State.freeOwned (o : BufOwner) (s : State) : State :=
  ((s.dram.buffers.filter fun b => b.owner == o).map fun b => b.base).foldl (fun t a => t.freeBuffer a) s

/-- The buffer that holds the whole range. -/
def State.bufferAt (s : State) (a n : Nat) : Option Buffer :=
  s.dram.buffers.find? fun b => decide (b.base ≤ a ∧ a + n ≤ b.base + b.bytes)

/-- The Ferris write buffer's range: its pages in carve-out 4's window, placed first-fit beside the delay lines (R277). DESIGN CHOICE (log 156): one range,
as its frames lie in the model by record alone. -/
def State.wbRange (s : State) : Nat × Nat :=
  let n := cdiv s.wbUsed pageBytes * pageBytes
  ((s.placeBuffer 4 n).getD 0, n)

/-- A device address is mapped: in a buffer, in the Ferris write buffer, in what Aipex uses of carve-out 0, or in a defined region (Table 9-1). -/
def State.mapped (s : State) (a : Nat) : Bool :=
  (s.bufferAt a 1).isSome || decide (a < s.carve0MiB * 0x100000) || decide (s.wbRange.1 ≤ a ∧ a < s.wbRange.1 + s.wbRange.2) ||
    (List.range 32).any fun r => s.getP P.CXL_REGION_STATE r != 0 && s.getP P.CXL_REGION_STATE r != 4
      && decide (s.getP P.CXL_REGION_BASE r ≤ a ∧ a < s.getP P.CXL_REGION_BASE r + s.getP P.CXL_REGION_SIZE r)

/-- The byte at a device address. -/
def State.devByte (s : State) (a : Nat) : Byte := SMap.get zeroByte s.dram.bytes a

/-- `n` bytes from a device address. -/
def State.devRead (s : State) (a n : Nat) : List Byte := takeBytes zeroByte s.dram.bytes a n

/-- The granule or line that holds the address reads poisoned. -/
def State.poisoned (s : State) (a : Nat) : Bool := s.dram.poison.any fun e => decide (e.1 ≤ a ∧ a < e.1 + e.2)

/-- The first poisoned byte among `n` from `a`, as an offset. -/
def State.firstPoison (s : State) (a n : Nat) : Option Nat :=
  s.dram.poison.foldl (init := none) fun acc e =>
    if e.1 + e.2 ≤ a ∨ a + n ≤ e.1 then acc
    else let o := e.1 - a; match acc with
      | none => some o
      | some p => some (min p o)

/-- The first byte that is not mapped among `n` from `a`, as an offset, where `n` is at most a page (R275). -/
def State.firstUnmapped (s : State) (a n : Nat) : Option Nat := ([0, pageBytes - a % pageBytes].filter (· < n)).find? fun o => !s.mapped (a + o)

/-- The bytes before the first poisoned one among `n` from `a`; unmapped bytes are zeros marked poisoned (R275). -/
def State.goodBytes (s : State) (a n : Nat) : Nat := min ((s.firstPoison a n).getD n) ((s.firstUnmapped a n).getD n)

/-- A write of `n` bytes from `a`: granules of `unit` bytes written whole lose their poison (R284, R299). -/
def State.unpoison (a n unit : Nat) (s : State) : State :=
  { s with dram := { s.dram with
      poison := s.dram.poison.flatMap fun e =>
        let lo := max e.1 (cdiv a unit * unit)
        let hi := min (e.1 + e.2) ((a + n) / unit * unit)
        if hi ≤ lo then [e]
        else (if e.1 < lo then [(e.1, lo - e.1)] else []) ++ (if hi < e.1 + e.2 then [(hi, e.1 + e.2 - hi)] else []) } }

/-! ### Errors (R281 to R286) -/

/-- The physical address of a device address in a buffer (R277). -/
def State.physical (s : State) (a : Nat) : Option (Nat × Nat) :=
  (s.bufferAt a 1).map fun b =>
    let o := a - b.base
    (b.pages.getD (o / pageBytes) 0 * pageBytes + o % pageBytes, b.order)

/-- Channel, bank, row and column of a physical address under an order code (R281, R282). -/
def dramPlace (pa order : Nat) : Nat × Nat × Nat × Nat :=
  let ca := (pa / 4096) * 256 + pa % 256
  let bank := if order = 0 then ca / 4096 % 16 else if order = 1 then ca / 256 % 16 else (ca / 4096 % 16) ^^^ (ca / 65536 % 16)
  let col := if order = 1 then (ca / 4096 % 16) * 256 + ca % 256 else ca % 4096
  (pa / 256 % 16, bank, ca / 65536 % 131072, col)

/-- Where the check word of the granule at a row and column lies: row and byte, in the same bank (R283). -/
def checkPlace (row col : Nat) : Nat × Nat := (122880 + row / 16, row % 16 * 256 + col / 32 * 2)

/-- The check word of the granule at a device address (R283): SECDED code, whose matrix is not stated, and POISON. -/
def State.checkWord (s : State) (a : Nat) : Nat := Config.secded (s.devRead (a / 32 * 32) 32) % 1024 + 1024 * b2n (s.poisoned a)

/-- The rows from 130,560 on are spare (R283); the first one free in a bank. DESIGN CHOICE (log 157). -/
def State.spareRow (s : State) (chan bank : Nat) : Nat := 130560 + (s.dram.remap.filter fun r => r.1 == chan && r.2.1 == bank).length

/-- MEM_ERROR (Table 9-12). -/
def State.postMemError (kind idx addr bytes : Nat) (s : State) : State :=
  s.post 0x68 0x9 idx (kind + at' 16 (addr % 2 ^ 48) + at' 64 bytes)

/-- A row becomes a retirement candidate (R286). -/
def State.addCandidate (chan bank row : Nat) (s : State) : State :=
  if s.dram.candidates.contains (chan, bank, row) || s.dram.remap.any (fun r => (r.1, r.2.1, r.2.2.1) == (chan, bank, row)) then s
  else { s with dram := { s.dram with candidates := s.dram.candidates ++ [(chan, bank, row)] } }

/-- A read of a granule finds an error (R284, R286); one whose POISON is set is not decoded. -/
def State.dramError (e : ScrubFinding) (s : State) : State :=
  if s.poisoned e.addr then s
  else if e.uncorrectable then
    let s1 : State := { s with dram := { s.dram with poison := (e.addr / 32 * 32, 32) :: s.dram.poison } }
    (((s1.bumpSat P.MEM_UE_COUNT e.chan 1).logFault 0x9 e.chan 0x0601 0).postMemError 1 e.chan e.addr 32).addCandidate e.chan e.bank e.row
  else
    let keep := s.dram.ceLog.filter fun c => decide (s.now < c.2.2.2.2 + 86400000000000)
    let log := (e.chan, e.bank, e.row, e.granule, s.now) :: keep.filter fun c => (c.1, c.2.1, c.2.2.1, c.2.2.2.1) != (e.chan, e.bank, e.row, e.granule)
    let s1 : State := { s with dram := { s.dram with ceLog := log } }
    let s2 := (s1.bumpSat P.MEM_CE_COUNT e.chan 1).postMemError 0 e.chan e.addr 32
    if 8 ≤ (log.filter fun c => (c.1, c.2.1, c.2.2.1) == (e.chan, e.bank, e.row)).length then s2.addCandidate e.chan e.bank e.row else s2

/-- A read of `n` bytes from a device address meets the decayed granules there (R284). -/
def State.demandRead (a n : Nat) (s : State) : State :=
  let hit := fun (e : ScrubFinding) => decide (a < e.addr / 32 * 32 + 32 ∧ e.addr / 32 * 32 < a + n)
  if s.dram.flaws.any hit then
    (s.dram.flaws.filter hit).foldl (fun t e => t.dramError e) { s with dram := { s.dram with flaws := s.dram.flaws.filter fun e => !hit e } }
  else s

/-- A write to device memory: granules written whole lose their poison and their errors; another is a read-modify-write (R283, R284). -/
def State.devWrite (a : Nat) (l : List Byte) (unit : Nat) (s : State) : State :=
  let whole := fun (e : ScrubFinding) => decide (a ≤ e.addr / 32 * 32 ∧ e.addr / 32 * 32 + 32 ≤ a + l.length)
  let s0 : State := if s.dram.flaws.any whole then { s with dram := { s.dram with flaws := s.dram.flaws.filter fun e => !whole e } } else s
  let s1 := (s0.demandRead a l.length).unpoison a l.length unit
  { s1 with dram := { s1.dram with bytes := putBytes zeroByte s1.dram.bytes a l } }

/-! ### Retirement, retraining, scrub (R286 to R291) -/

/-- Background work of a task is held (Table 14-7). -/
def State.bgHeld (s : State) (task : Nat) : Bool :=
  s.ctl.switch.isSome || s.ctl.restarting || (s.powerState == 2 && task != 6)
    || (decide (7 ≤ task) && (decide (1 ≤ s.getP P.TH_STEP 0) || s.getP P.BG_ENABLE (task - 7) == 0))

/-- A background task's data. -/
def State.modTask (n : Nat) (f : BgTask → BgTask) (s : State) : State :=
  { s with hk := { s.hk with tasks := modAt f n s.hk.tasks } }

/-- One run of a background task completes. -/
def State.taskDone (n : Nat) (s : State) : State :=
  s.modTask n fun t => { t with due := false, runs := wrap32 (t.runs + 1), last := s.now }

/-- ADDRESS_FAULT (R275): a request to an unmapped address; a read returns poisoned zeros, a write is discarded. -/
def execAddressFault (addr : Nat) (write : Bool) (s : State) : Result :=
  guarded (.addressFault addr write) s (if s.mapped addr then s else s.logFault 0x9 0 0x0602 0)

/-- ROW_RETIRED (R286): a candidate row of the bank is copied to a spare row and remapped, or the bank's table is full. -/
def execRowRetired (chan bank : Nat) (s : State) : Result :=
  guarded (.rowRetired chan bank) s <|
    match s.dram.candidates.find? fun c => c.1 == chan && c.2.1 == bank with
    | none => s
    | some c =>
      let s1 : State := { s with dram := { s.dram with candidates := s.dram.candidates.filter (· != c) } }
      if (s.dram.remap.filter fun r => r.1 == chan && r.2.1 == bank).length < 32 then
        let s2 : State := { s1 with dram := { s1.dram with remap := s1.dram.remap ++ [(c.1, c.2.1, c.2.2, s.spareRow chan bank)] } }
        ((s2.bumpWrap P.MEM_RETIRED_ROWS chan 1).post 0x69 0x9 chan (bank + at' 8 c.2.2)).taskDone 0
      else (s1.raiseService (.rowPool chan bank)).post 0x69 0x9 chan (bank + at' 8 c.2.2 + at' 32 1)

/-- DRAM_REFRESH (R288): per bank, at the rate that MR4 requires; cells that have decayed had not held their charge until then, and the next read of
their granules meets an error (R284). -/
def execDramRefresh (chan : Nat) (refresh : BankRefresh) (s : State) : Result :=
  guarded (.dramRefresh chan refresh) s <|
    let k := chan * 32 + refresh.bank
    State.emit (.dram 0 chan (refresh.bank + 32 * SMap.get (fun _ => 0) s.dram.mr4 chan))
      { s with dram := { s.dram with refreshes := SMap.set (fun _ => 0) s.dram.refreshes k (SMap.get (fun _ => 0) s.dram.refreshes k + 1)
                                     flaws := s.dram.flaws ++ refresh.decayed } }

/-- MR4_READ (R288): the refresh rate the device requires. -/
def execMr4Read (chan rate : Nat) (s : State) : Result :=
  guarded (.mr4Read chan rate) s { s with dram := { s.dram with mr4 := SMap.set (fun _ => 0) s.dram.mr4 chan rate } }

/-- WCK_TRACK (R290): the WCK-to-DQ delay of each byte lane of a channel is tracked. -/
def execWckTrack (chan : Nat) (delays : List Nat) (s : State) : Result :=
  guarded (.wckTrack chan delays) s
    { s with dram := { s.dram with wck := delays.zipIdx.foldl (fun m e => SMap.set (fun _ => 0) m (4 * chan + e.2) e.1) s.dram.wck } }

/-- A channel falls due for retraining, for temperature (0) or interval (1). -/
def State.retrainDue (mask reason : Nat) (s : State) : State :=
  if mask = 0 then s
  else State.modTask 3 (fun t => { t with due := true })
    { s with dram := { s.dram with retrainDue := s.dram.retrainDue ||| mask, retrainReason := if s.dram.retrainDue = 0 then reason else s.dram.retrainReason } }

/-- RETRAIN_INTERVAL (R290): MEM_RETRAIN_MAX seconds have passed since the channel's last run. -/
def execRetrainInterval (chan : Nat) (s : State) : Result :=
  guarded (.retrainInterval chan) s <|
    (s.atLeast (SMap.get (fun _ => 0) s.dram.lastRetrain chan + s.getP P.MEM_RETRAIN_MAX 0 * 1000000000)).retrainDue (1 <<< chan) 1

/-- The channels whose HK00 has moved by more than MEM_RETRAIN_DELTA at the end of a housekeeping round (R290). -/
def State.retrainCheck (s : State) : State :=
  let mask := (List.range 16).foldl (fun m c =>
    if s.getP P.MEM_RETRAIN_DELTA 0 * 16 < (s.dieTemp 0 - s.getPI P.MEM_RETRAIN_TEMP c).natAbs then setBit m c else m) 0
  s.retrainDue mask 0

/-- The end of a retraining run (R290, R304). -/
def State.retrainEnd (r : RetrainRun) (s : State) : State :=
  let chans := (List.range 16).filter fun c => r.mask.testBit c
  let low := chans.headD 0
  let change := unsigned 16 (r.temp - s.getPI P.MEM_RETRAIN_TEMP low)
  let s1 := chans.foldl (fun t c => t.setP P.MEM_RETRAIN_TEMP c (toU64 r.temp)) s
  let last := chans.foldl (fun m c => SMap.set (fun _ => 0) m c s1.now) s1.dram.lastRetrain
  let s2 : State := { s1 with dram := { s1.dram with retrain := none, lastRetrain := last } }
  (s2.post 0x0A 0x9 low (r.mask + at' 16 r.reason + at' 24 64 + at' 32 (unsigned 16 r.temp) + at' 48 change
    + at' 64 ((s2.now - r.start) / 1000))).taskDone 3

/-- RETRAIN_SLICE (R290): every due channel takes a slice; the first starts the run, the 64th ends it. A run in DARK is deferred. -/
def execRetrainSlice (t : Nat) (s : State) : Result :=
  guarded (.retrainSlice t) s <|
    let s := s.atLeast t
    match s.dram.retrain with
    | some r =>
      if 64 ≤ r.slices + 1 then s.retrainEnd r
      else { s with dram := { s.dram with retrain := some { r with slices := r.slices + 1 } } }
    | none =>
      if s.dram.retrainDue = 0 ∨ s.bgHeld 3 then s
      else { s with dram := { s.dram with
        retrain := some { mask := s.dram.retrainDue, reason := s.dram.retrainReason, start := t, temp := s.dieTemp 0, slices := 1 }
        retrainDue := 0 } }

/-- Granules of all data rows. -/
abbrev patrolTotal : Nat := 4026531840

/-- PATROL_SCRUB (R291): the next granules are read, and errors found are handled. -/
def execPatrolScrub (granules : Nat) (found : List ScrubFinding) (s : State) : Result :=
  guarded (.patrolScrub granules found) s <|
    if s.bgHeld 7 then s
    else
      let known := fun (e : ScrubFinding) => found.any fun d => d.addr / 32 == e.addr / 32
      let s0 : State := { s with dram := { s.dram with flaws := s.dram.flaws.filter fun e => !known e } }
      let s1 := found.foldl (fun t e => t.dramError e) s0
      let p := s.dram.patrolPos + granules
      if patrolTotal ≤ p then
        State.taskDone 7 (State.modTask 7 (fun t => { t with progress := 0 })
          (State.setP { s1 with dram := { s1.dram with patrolPos := 0 }, hk := { s1.hk with patrolStart := s1.now } } P.MEM_SCRUB_PROGRESS 0 0))
      else
        let m := p * 1000 / patrolTotal
        State.modTask 7 (fun t => { t with progress := m })
          (State.setP { s1 with dram := { s1.dram with patrolPos := p } } P.MEM_SCRUB_PROGRESS 0 m)

end Sys2Proof.Machine
end

