-- ==== Sys2Proof/Machine/Ringmaster.lean ====
section
/-! DEFINITION. Ringmaster: qualification of GENREF_IN edges, state changes, the master period (R20 to R22), and the Aipex lockstep restart (R19). -/

namespace Sys2Proof.Machine

abbrev canvasDef : Nat → Canvas := fun _ => {}

def State.canvas (s : State) (c : Nat) : Canvas := SMap.get canvasDef s.cv.cvs c

def State.setCanvas (c : Nat) (x : Canvas) (s : State) : State := { s with cv := { s.cv with cvs := SMap.set canvasDef s.cv.cvs c x } }

def State.modCanvas (c : Nat) (f : Canvas → Canvas) (s : State) : State := s.setCanvas c (f (s.canvas c))

/-- A parameter of canvas `c`. -/
abbrev State.cvp (s : State) (c id idx : Nat) : Nat := s.getP (P.cv c id) idx

/-- CV_STATE (Table 6-2). -/
abbrev State.cvState (s : State) (c : Nat) : Nat := s.cvp c P.CV_STATE 0

/-- Input `i` of canvas `c` is lost until its first frame after a change of mode or binding (Table 6-5). -/
def State.awaitInput (c i : Nat) (s : State) : State :=
  s.modCanvas c fun x => { x with waiting := setBit x.waiting i, waitSince := SMap.set (fun _ => 0) x.waitSince i s.now }

/-- The inputs in use that name pipeline `p` await their first frame after a change of its binding. -/
def State.awaitPipe (p : Nat) (s : State) : State :=
  (List.range 16).foldl (init := s) fun t c => (List.range 8).foldl (init := t) fun u i =>
    if u.cvp c P.LI_PIPELINE i == p && u.cvp c P.LI_MODE i != 0 then u.awaitInput c i else u

/-- Ringmaster keeps its times in units of 2^-16 ns, those of R181. -/
abbrev subTick : Nat := 65536

/-- The nominal master period of RM_REF_RATE (R20), rounded to a sub-tick (R469). -/
def nominalPeriod (num den : Nat) : Nat := rdivN (den * 1000000000 * subTick) num

/-- RM_ACCEPT_WIN in sub-ticks. -/
def State.acceptWin (s : State) : Nat := s.getP P.RM_ACCEPT_WIN 0 * subTick

/-- RM_PHASE_ERR takes a phase in sub-ticks, rounded to a tick (R469). -/
def State.setPhaseErr (e : Int) (s : State) : State := s.setP P.RM_PHASE_ERR 0 (toU64 (rdiv e subTick))

/-- Ringmaster takes its reference from PMARK: a secondary on an ACTIVE partner link (R235). -/
def State.partnerTiming (s : State) : Bool := s.getP P.PT_STATE 0 == 5 && s.mw.link.role == 1

/-- Ringmaster enters state `new`: the state change posts its event, and HOLDOVER raises SERVICE_NEEDED until it is left (R20). -/
def State.setRmState (new : Nat) (s : State) : State :=
  let old := s.getP P.RM_STATE 0
  if old = new then s
  else
    let s1 := s.setP P.RM_STATE 0 new
    let s2 := if new = 3 then s1.raiseService .holdover else s1.clearService .holdover
    s2.post 0x0B 0x1 0 (new + at' 8 old)

/-- The mean of the valid intervals kept, at most the last 16 (R22), rounded to a sub-tick. -/
def meanInterval (l : List Nat) : Nat := rdivN l.sum l.length

/-- Ringmaster enters HOLDOVER with the mean in force; the relock count starts afresh (R22). -/
def State.enterHoldover (s : State) : State :=
  State.setRmState 3 { s with ring := { s.ring with prevEdge := none, run := 0 } }

/-- One more invalid edge in LOCKED; the eighth in a row is the loss of the reference (R21). -/
def State.countInvalid (s : State) : State :=
  let n := s.ring.invalid + 1
  let s1 := State.bumpSat { s with ring := { s.ring with invalid := n } } P.RM_INVALID_TOTAL 0 1
  if 8 ≤ n then s1.enterHoldover else s1

/-- No valid edge by expected + accept_win: counted, and last_valid flywheels (R21). -/
def State.missedEdge (s : State) : State :=
  let e := s.ring.lastValid + s.ring.period
  State.countInvalid { s with ring := { s.ring with lastValid := e }, now := max s.now ((e + s.acceptWin) / subTick) }

/-- The missed edges of the acceptance windows that have passed before sub-tick `t`. -/
def State.missedBefore (t : Nat) : Nat → State → State
  | 0, s => s
  | n + 1, s =>
    if s.getP P.RM_STATE 0 = 2 ∧ s.ring.lastValid + s.ring.period + s.acceptWin < t
    then State.missedBefore t n s.missedEdge else s

/-! ### The phase of derived timings (R22, R23) -/

/-- How far the phase moves towards the reference at a boundary: at most RM_SLEW_LIMIT, or the whole error if that is 0 (R22). -/
def slewStep (limit : Nat) (err : Int) : Int := if limit = 0 then err else clampI (-((limit * subTick : Nat) : Int)) ((limit * subTick : Nat) : Int) err

/-- The error of a boundary expected at `t` against the reference phase: the distance to the nearest instant a whole number of
periods from last_valid. -/
def phaseErrorAt (lastValid period t : Nat) : Int :=
  let d := ((lastValid : Int) - t) % (period : Int)
  if 2 * d ≤ period then d else d - period

/-- The correction of the phase that is due by a boundary nominally at `t`, in LOCKED (R22). A PMARK's edge stands 50 ns after its boundary (R233). -/
def State.correction (s : State) (t : Nat) : Int :=
  let ref := if s.partnerTiming then s.ring.lastValid - 50 * subTick else s.ring.lastValid
  if s.getP P.RM_STATE 0 = 2 then slewStep (s.getP P.RM_SLEW_LIMIT 0) (phaseErrorAt ref s.ring.period t) else 0

/-- An instant `x` at or beyond the end `a` of the master period follows that end to `b`, and what lies beyond it scales from period `p` to `q`. -/
def follow (a b p q x : Nat) : Nat := if x ≠ 0 ∧ a ≤ x + subTick then ((b : Int) + ((x : Int) - a) * q / p).toNat else x

/-- The end of the master period moves from `a` to `b`: the show periods keep their phase relation to it (R23). `p` is the period that held. -/
def State.moveBoundary (a b p : Nat) (s : State) : State :=
  (List.range 16).foldl (init := s) fun t c =>
    if t.cvState c = 1 ∨ t.cvState c = 2 then t.modCanvas c fun x => { x with next := follow a b p t.ring.period x.next } else t

/-- An edge in LOCKED has set the period and the reference phase: the next boundary is aimed at anew. `p` is the period that held. -/
def State.aim (p : Nat) (s : State) : State :=
  let nominal := s.ring.boundary + s.ring.period
  let n := ((nominal : Int) + s.correction nominal).toNat
  State.moveBoundary s.ring.next n p { s with ring := { s.ring with next := n } }

/-- An instant nominally at `x`, reckoned from `start` in the master period in progress: beyond the end of that period it has its correction. -/
def State.corrected (s : State) (start x : Nat) : Nat :=
  let nominal := s.ring.boundary + s.ring.period
  if start + subTick < s.ring.next ∧ nominal ≤ x + subTick then x + s.ring.next - nominal else x

/-! ### Edges -/

/-- An edge in ACQUIRE or HOLDOVER (R22). -/
def State.relockEdge (t : Nat) (s : State) : State :=
  match s.ring.prevEdge with
  | none => { s with ring := { s.ring with prevEdge := some t } }
  | some p =>
    let win := s.acceptWin
    if p + s.ring.period ≤ t + win ∧ t ≤ p + s.ring.period + win then
      let iv := ((t - p) :: s.ring.intervals).take 16
      let n := s.ring.run + 1
      let s1 : State := { s with ring := { s.ring with prevEdge := some t, run := n, intervals := iv } }
      let s2 := s1.setPhaseErr ((t : Int) - (p + s.ring.period))
      if s.getP P.RM_RELOCK_EDGES 0 ≤ n then
        (State.setRmState 2 { s2 with ring := { s2.ring with lastValid := t, invalid := 0, period := meanInterval iv } }).aim s.ring.period
      else s2
    else State.bumpSat { s with ring := { s.ring with prevEdge := some t, run := 0 } } P.RM_INVALID_TOTAL 0 1

/-- An edge in LOCKED at or before the end of the acceptance window (R21, R22). -/
def State.lockedEdge (t : Nat) (s : State) : State :=
  let e := s.ring.lastValid + s.ring.period
  if t + s.acceptWin < e then s.countInvalid
  else
    let iv := ((t - s.ring.lastValid) :: s.ring.intervals).take 16
    (State.setPhaseErr ((t : Int) - e) { s with ring := { s.ring with invalid := 0, lastValid := t, intervals := iv, period := meanInterval iv } }).aim
      s.ring.period

/-- A rising edge of the reference in force at sub-tick `t` (R21, R22). -/
def State.referenceEdge (t : Nat) (s : State) : State :=
  let s1 := (s.missedBefore t 8).atLeast (t / subTick)
  let st := s1.getP P.RM_STATE 0
  if st = 0 then s1 else if st = 2 then s1.lockedEdge t else s1.relockEdge t

/-- Ringmaster leaves FREE_RUN for ACQUIRE, with no interval measured yet (R20, R22). -/
def State.enterAcquire (s : State) : State :=
  State.setRmState 1 { s with ring := { s.ring with prevEdge := none, run := 0, intervals := [], invalid := 0 } }

/-- RM_SOURCE and RM_REF_RATE as in force at a master period boundary (R20). -/
def State.applySource (s : State) : State :=
  let nom := nominalPeriod (s.getP P.RM_REF_RATE_NUM 0) (s.getP P.RM_REF_RATE_DEN 0)
  let st := s.getP P.RM_STATE 0
  if s.partnerTiming then s
  else if s.getP P.RM_SOURCE 0 = 0 then State.setRmState 0 { s with ring := { s.ring with period := nom } }
  else if st = 0 then State.enterAcquire { s with ring := { s.ring with period := nom } }
  else if st = 1 then { s with ring := { s.ring with period := nom } }
  else s

/-- The exact sub-tick of an instant that Ringmaster expects at `next` and that falls in tick `t`. -/
def exactTime (next t : Nat) : Nat := if next / subTick = t then next else t * subTick

/-- A master period boundary at tick `t`: a new frame tag starts, and the next boundary follows the phase rule (R22, R36). -/
def State.startMasterPeriod (t : Nat) (s : State) : State :=
  let s1 := s.atLeast t
  let r := s1.ring
  let b := exactTime r.next t
  let nominal := b + r.period
  let n := ((nominal : Int) + s1.correction nominal).toNat
  State.moveBoundary (r.next + r.period) n r.period { s1 with ring := { r with boundary := b, next := n, tag := wrap32 (r.tag + 1) } }

/-- GENREF_EDGE (R21, R22). -/
def execGenrefEdge (t : Nat) (s : State) : Result :=
  guarded (.genrefEdge t) s (if s.getP P.RM_SOURCE 0 = 1 && !s.partnerTiming then s.referenceEdge (t * subTick) else s.atLeast t)

/-- GENREF_MISSED_EDGE (R21): edges are missed in LOCKED only. -/
def execGenrefMissedEdge (s : State) : Result :=
  guarded .genrefMissedEdge s (if s.getP P.RM_STATE 0 = 2 then s.missedEdge else s)

/-- Aipex restarts from the active slot; the data paths keep their last configuration (R19). -/
def State.restartAipex (s : State) : State := { s with ctl := { s.ctl with restarting := true, fwReady := false } }

/-- LOCKSTEP_MISMATCH (R19). -/
def execLockstepMismatch (s : State) : Result :=
  guarded .lockstepMismatch s (if s.ctl.boot = .off ∨ s.ctl.boot = .auxOnly then s else s.restartAipex)

/-- AIPEX_RESTART_DONE (R19): FW_READY returns, fault 0x0001 is logged, and the notice of kind 3 is posted. -/
def execAipexRestartDone (s : State) : Result :=
  guarded .aipexRestartDone s
    (if s.ctl.restarting then
      let up := s.ctl.boot == .running || s.ctl.boot == .recoveryImage || s.ctl.boot == .recoveryDram
      let s1 : State := { s with ctl := { s.ctl with restarting := false, fwReady := up } }
      (s1.releaseReplies.logFault 0x0 0 0x0001 0).fwNotice 3 (s.getP P.FW_RELEASE 0)
    else s)

end Sys2Proof.Machine
end

