-- ==== Sys2Proof/Machine/Staging.lean ====
section
/-! DEFINITION. Changes staged for a boundary: how they join the others, and the values as they will be (R36, R67, R68, R69). -/

namespace Sys2Proof.Machine

/-- The parameter writes of a staged change. -/
def Staged.writes (g : Staged) : List (Nat × Nat × Nat) := match g.what with
  | .params l => l
  | .reserve lp v => [(P.mw (lp / 32) P.MW_CTRL_RESERVE, 0, v)]
  | .tables _ | .laneTx _ _ => []

/-- Parameter writes in force. -/
def State.putParams (l : List (Nat × Nat × Nat)) (s : State) : State := l.foldl (fun t e => t.setP e.1 e.2.1 e.2.2) s

/-- The state with every staged parameter write in force: checks against staged values are made on it. -/
def State.preview (s : State) : State := s.ctl.staged.foldl (fun t g => t.putParams g.writes) s

/-- The value staged for an element, if any; the newest one counts. -/
def State.stagedValue (s : State) (id idx : Nat) : Option Nat :=
  (s.ctl.staged.flatMap Staged.writes).foldl (fun a e => if e.1 = id ∧ e.2.1 = idx then some e.2.2 else a) none

/-- A staged change without its writes of the elements `es`: a later write is the one left staged (R68). -/
def Staged.without (es : List (Nat × Nat)) (g : Staged) : Staged := match g.what with
  | .params l => { g with what := .params (l.filter fun e => !es.contains (e.1, e.2.1)) }
  | .reserve lp _ => if es.contains (P.mw (lp / 32) P.MW_CTRL_RESERVE, 0) then { g with what := .params [] } else g
  | .tables _ | .laneTx _ _ => g

/-- Changes join those staged; of two writes of one element the later is left staged (R68). -/
def State.stage (gs : List Staged) (s : State) : State :=
  let es := (gs.flatMap Staged.writes).map fun e => (e.1, e.2.1)
  { s with ctl := { s.ctl with staged := s.ctl.staged.map (Staged.without es) ++ gs } }

/-- A write of the element has been claimed in this Aipex tick by another window (R39, R68). DESIGN CHOICE (log 137): each element of an arrayed
parameter, its identifier with its index, is a resource of its own; the manual does not say whether the whole array is one. -/
def State.claimedByOther (s : State) (win key : Nat) : Bool :=
  s.ctl.claims.any fun e => e.1 == key && e.2.1 != win && e.2.2 == aipexTickOf s.now

/-- A window claims elements for this Aipex tick. -/
def State.claim (win : Nat) (keys : List Nat) (s : State) : State :=
  { s with ctl := { s.ctl with claims := (s.ctl.claims.filter fun e => e.2.2 == aipexTickOf s.now) ++ keys.map fun k => (k, win, aipexTickOf s.now) } }

end Sys2Proof.Machine
end

