-- ==== Sys2Proof/Machine/Tables.lean ====
section
/-! DEFINITION. The tables' layouts: sizes, entry sizes, reset contents, and reading numbers from the active copies (R72 to R75 and the tables of
chapters 03 to 07). -/

namespace Sys2Proof.Machine

/-- The bytes of a table, and its entry size (Table 2-16 and the tables' chapters). -/
def tableSize (t : Nat) : Nat × Nat :=
  if t = 0x0001 then (196620, 12) else if t = 0x0002 then (1056, 32)
  else if t = 0x0003 then (12779520, 12) else if t = 0x0004 then (49152, 4)
  else if t = 0x0005 then (3295512, 12) else if t = 0x0006 then (262148, 4)
  else if t = 0x0007 then (133144, 8) else if t = 0x0008 then (16384, 4)
  else if t = 0x0009 then (256, 32) else (0, 1)

/-- How many of a table there are (Table 2-16). -/
def tableCount (t : Nat) : Nat :=
  if t = 0x0001 ∨ t = 0x0008 then 16 else if t = 0x0002 then 512
  else if t = 0x0004 ∨ t = 0x0005 ∨ t = 0x0006 ∨ t = 0x0007 then 8
  else if t = 0x0003 ∨ t = 0x0009 then 1 else 0

/-- Where the bytes of table `t`, number `n`, stand. -/
abbrev tableBase (t n : Nat) : Nat := (t * 1024 + n) * 0x10000000

/-- Byte `i` of a number. -/
abbrev byteOf (v i : Nat) : Byte := BitVec.ofNat 8 (v >>> (8 * i))

/-- A byte of a table's reset contents (Tables 4-5, 5-3, 5-5, 5-8, 5-9). -/
def tableDefault (key : Nat) : Byte :=
  let t := key / 0x10000000 / 1024
  let o := key % 0x10000000
  if t = 0x0003 then
    if o < 0xC00000 then byteOf (if o % 12 < 6 then 0x4000 else 0) (o % 2) else 0
  else if t = 0x0004 then byteOf (curveNode (o % 0x4000 / 4)) (o % 4)
  else if t = 0x0005 then
    if o < 12 then 0
    else
      let n := o / 12 - 1
      let v := if n < 35937 then (if o % 12 < 4 then n % 33 else if o % 12 < 8 then n / 33 % 33 else n / 1089) * 32768 else 0
      byteOf v (o % 4)
  else if t = 0x0007 then
    if o < 8 then byteOf (2 + at' 16 2 + at' 32 11 + at' 40 11) o else if o < 16 then 0 else byteOf 0x1000 (o % 2)
  else if t = 0x0008 then byteOf (toneEntry 500 1500 750 (o / 4)) (o % 4)
  else 0

/-- The number in `n` bytes at offset `o` of the active copy of a table. -/
def State.tableNum (s : State) (t num o n : Nat) : Nat := ofLE (takeBytes tableDefault s.ctl.tables (tableBase t num + o) n)

/-- A PORT_MAP entry in use (Table 7-10), with its number from 1. -/
structure MapEntry where
  num : Nat
  loop : Nat
  hop : Nat
  x : Nat
  y : Nat
  mx : Bool
  my : Bool
  deriving DecidableEq, Repr

/-- The enabled entries of a PORT_MAP whose fields `get o n` reads. -/
def mapEntries (get : Nat → Nat → Nat) : List MapEntry :=
  (List.range (get 0 2 % 0x8000)).filterMap fun i =>
    let o := 12 * (i + 1)
    let v := get o 4
    if v.testBit 24 then
      some { num := i + 1, loop := v % 65536, hop := v / 65536 % 256, x := get (o + 4) 2, y := get (o + 6) 2, mx := v.testBit 25, my := v.testBit 26 }
    else none

/-- The enabled PORT_MAP entries in force of a canvas, in order. -/
def State.portMap (s : State) (c : Nat) : List MapEntry := mapEntries fun o n => s.tableNum 0x0001 c o n

/-- A host field of a loop's TILE_DIRECTORY header (Table 7-9). -/
def State.dirMode (s : State) (lp : Nat) : Nat := s.tableNum 0x0002 lp 0 1
def State.dirFeeder (s : State) (lp : Nat) : Nat := s.tableNum 0x0002 lp 1 1
def State.dirCount (s : State) (lp : Nat) : Nat := s.tableNum 0x0002 lp 2 1

/-- A host field of a tile's TILE_DIRECTORY entry, at offset `o` of it. -/
def State.dirTile (s : State) (lp hop o n : Nat) : Nat := s.tableNum 0x0002 lp (0x20 + 32 * (hop - 1) + o) n

/-- A tile's width and height in the directory. -/
def State.tileDims (s : State) (lp hop : Nat) : Nat × Nat := (s.dirTile lp hop 8 2, s.dirTile lp hop 10 2)

/-- The DEFECT_LIST in force of a pipeline: columns and lines (Table 4-3). -/
def State.defectList (s : State) (p : Nat) : List (Nat × Nat) :=
  (List.range (s.tableNum 0x0006 p 0 3 % 0x20000)).map fun i =>
    let e := s.tableNum 0x0006 p (4 + 4 * i) 4
    (e % 0x4000, e / 65536 % 0x4000)

end Sys2Proof.Machine
end

