-- ==== Sys2Proof/Machine/Pipeline.lean ====
section
/-! DEFINITION. A raw pipeline's frame: its stages on the lines received, the reference, black level tracking, statistics, the settings ID gate,
and STATS_READ (04). -/

namespace Sys2Proof.Machine

abbrev pipeDef : Nat → Pipe := fun _ => {}
abbrev sensorDef : Nat → Sensor := fun _ => {}
abbrev groupDef : Nat → CamGroup := fun _ => {}

def State.pipe (s : State) (p : Nat) : Pipe := SMap.get pipeDef s.pipes p

def State.setPipe (p : Nat) (x : Pipe) (s : State) : State := { s with pipes := SMap.set pipeDef s.pipes p x }

def State.sensor (s : State) (k : Nat) : Sensor := SMap.get sensorDef s.cam.sensors k

def State.setSensor (k : Nat) (x : Sensor) (s : State) : State :=
  { s with cam := { s.cam with sensors := SMap.set sensorDef s.cam.sensors k x } }

def State.group (s : State) (g : Nat) : CamGroup := SMap.get groupDef s.cam.groups g

def State.setGroup (g : Nat) (x : CamGroup) (s : State) : State :=
  { s with cam := { s.cam with groups := SMap.set groupDef s.cam.groups g x } }

/-- The parameters of pipeline `p` in force (Table 4-12) and its tables, for a frame of `fmt`. -/
def State.rawCfg (s : State) (p : Nat) : RawCfg :=
  let q := fun (id idx : Nat) => s.getP (P.pl p id) idx
  let l := fun (id n : Nat) => (List.range n).map (q id)
  let ls := fun (o n : Nat) => s.tableNum 0x0007 p o n
  let gw := ls 0 2
  let gh := ls 2 2
  { stageEn := q P.PL_STAGE_EN 0, black := l P.BL_IN_FORCE 4, white := q P.BL_WHITE 0, pedestal := q P.TAP_PEDESTAL 0
    dynK := q P.DPC_DYN_K 0, defects := s.defectList p, nsig := l P.NOISE_SIGMA 65, strength := q P.SNR_STRENGTH 0
    spatialW := l P.SNR_SPATIAL_W 6, rangeLut := l P.SNR_RANGE_LUT 32, alphaLut := l P.TNR_ALPHA_LUT 64
    gridW := gw, gridH := gh, log2Sx := ls 4 1, log2Sy := ls 5 1
    gains := (List.range (4 * (gw * gh))).map fun i => ls (0x10 + 2 * i) 2
    wb := l P.WB_GAIN 4, dmMode := q P.DM_MODE 0, edgeRatio := q P.DM_EDGE_RATIO 0 }

/-- The photosite codes of a frame, line by line. -/
def Frame.codes (f : Frame) (y : Nat) : List Nat := (f.lines.getD y ([], false)).1

/-- Line `y` was replaced at ingest. -/
def Frame.replaced (f : Frame) (y : Nat) : Bool := (f.lines.getD y ([], false)).2

/-- The images after each raw stage (R116): S1 after defect correction, S2 after lens shading, and the white-balanced image. -/
structure RawStages where
  s1 : Img
  snr : Img
  tnr : Img
  s2 : Img
  wb : Img
  static : Nat
  dynamic : Nat
  passed : Nat
  dropped : Nat

/-- The stages of R116 on a frame; `ref` is the reference in force, `poison` says whether its value at (x, y) reads poisoned. -/
def rawStages (k : RawCfg) (f : Frame) (refValid : Bool) (ref : List (List Nat)) (poison : Nat → Nat → Bool) : RawStages :=
  let w := f.fmt.width
  let h := f.fmt.height
  let mono := f.fmt.cfa == 4
  let ch := fun (x y : Nat) => channelOf f.fmt.cfa x y
  let step := if mono then 1 else 2
  let bl := mkImg w h fun x y => blackStage k f.fmt.bits (ch x y) ((f.codes y).getD x 0)
  let dl := (List.range h).map fun y => defectLine k mono y (bl.getD y [])
  let s1 : Img := dl.map fun e => e.1
  let snr := if k.stageEn.testBit 2 then mkImg w h fun x y => spatialNr k mono (ch x y) s1 w h x y else s1
  let rv := fun (x y : Nat) => refDecode ((ref.getD y []).getD x 0)
  let near := fun (q : Nat → Nat → Bool) (x y : Nat) => q (reflect w ((x : Int) - step)) y || q x y || q (reflect w ((x : Int) + step)) y
  let isLate := near fun x y => f.late.contains (x, y)
  let bad := fun (x y : Nat) => isLate x y || near poison x y
  let tnr := if k.stageEn.testBit 3 && refValid then
      mkImg w h fun x y =>
        let v := snr.at x y
        if f.replaced y || bad x y then v
        else
          let xl := reflect w ((x : Int) - step)
          let xr := reflect w ((x : Int) + step)
          tnrBlend k (snr.at xl y) v (snr.at xr y) (rv xl y) (rv x y) (rv xr y)
    else snr
  let count := fun (q : Nat → Nat → Bool) => if k.stageEn.testBit 3 && refValid then
      ((List.range h).map fun y => if f.replaced y then 0 else ((List.range w).filter fun x => q x y).length).sum
    else 0
  let s2 := if k.stageEn.testBit 4 then mkImg w h fun x y => lensStage k (ch x y) x y (tnr.at x y) else tnr
  let wb := if k.stageEn.testBit 5 then mkImg w h fun x y => wbStage k (ch x y) (s2.at x y) else s2
  { s1 := s1, snr := snr, tnr := tnr, s2 := s2, wb := wb
    static := (dl.map fun e => e.2.1).sum, dynamic := (dl.map fun e => e.2.2).sum, passed := count bad, dropped := count isLate }

/-- Pipeline `p`'s reference is valid (TNR_REF_VALID). -/
def State.refValid (s : State) (p : Nat) : Bool := s.getP (P.pl p P.TNR_REF_VALID) 0 == 1

/-- Frame `f` blends against the reference: it was valid at the frame's start. A frame during which it became invalid goes on with it (R132). -/
def State.refFor (s : State) (p : Nat) (f : Frame) : Bool := (s.refValid p || f.refStale) && !f.tnrNoRef

/-- The stages of pipeline `p` on frame `f`, with the reference in force. -/
def State.stagesOf (s : State) (p : Nat) (f : Frame) : RawStages :=
  let x := s.pipe p
  rawStages (s.rawCfg p) f (s.refFor p f) x.ref fun a b => s.poisoned (x.refBase + 2 * (b * f.fmt.width + a))

/-- The reference that a frame writes (R130, R131): a replaced line leaves a valid reference unchanged. -/
def newReference (f : Frame) (refValid : Bool) (ref : List (List Nat)) (tnr : Img) : List (List Nat) :=
  (List.range f.fmt.height).map fun y =>
    if refValid && f.replaced y then ref.getD y [] else (tnr.getD y []).map refEncode

/-- The demosaic output at a site (R137 to R139). -/
def demosaicAt (k : RawCfg) (fmt : Format) (wb : Img) (x y : Nat) : Rgb :=
  let d := demosaicSite k (fmt.cfa == 4) (channelOf fmt.cfa x y) fun dx dy => wb.px fmt.width fmt.height (x + dx) (y + dy)
  ⟨d.1, d.2.1, d.2.2⟩

/-! ### Colour stages of a pipeline (R154 to R163) -/

/-- The camera-to-working matrix of pipeline `p`. -/
def State.camMatrix (s : State) (p : Nat) : List Int × List Int :=
  ((List.range 9).map fun i => s.getPI (P.pl p P.CM_COEF) i, (List.range 3).map fun i => s.getPI (P.pl p P.CM_OFFSET) i)

/-- The matrix, shaper and 3D LUT outputs of a demosaiced pixel, each stage bypassed by its PL_COLOUR_EN bit (R154). -/
def State.colourStages (s : State) (p : Nat) (d : Rgb) : Rgb × Rgb × Rgb :=
  let en := s.getP (P.pl p P.PL_COLOUR_EN) 0
  let m := s.camMatrix p
  let a := if en.testBit 0 then matrixStage m.1 m.2 d else d
  let b := if en.testBit 1 then Rgb.of fun c => sat24 (curveAt (fun i => s.tableNum 0x0004 p (0x4000 * c + 4 * i) 3) (a.get c)) else a
  let n := if s.tableNum 0x0005 p 0 1 = 1 then 65 else 33
  let node := fun (r g bl : Nat) =>
    let o := 0x0C + 12 * ((bl * n + g) * n + r)
    Rgb.of fun c => s.tableNum 0x0005 p (o + 4 * c) 3
  let e := if en.testBit 2 then cubeStage n node b else b
  (a, b, e)

/-- The scaler of pipeline `p` for a format (R160). -/
def State.scalerOf (s : State) (p : Nat) (fmt : Format) : ScalerCfg :=
  let q := fun (id idx : Nat) => s.getP (P.pl p id) idx
  scalerGeometry fmt.width fmt.height (q P.SC_CROP 0) (q P.SC_CROP 1) (q P.SC_CROP 2) (q P.SC_CROP 3) (q P.SC_OUT_SIZE 0) (q P.SC_OUT_SIZE 1)
    (q P.SC_KERNEL_H 0) (q P.SC_KERNEL_V 0)

/-- The pixel of pipeline `p`'s output at (x, y) for a frame: the working-space picture at its size on the canvas. -/
def State.pipeOutput (s : State) (p : Nat) (f : Frame) (x y : Nat) : Rgb :=
  let k := s.rawCfg p
  let st := s.stagesOf p f
  scaledPixel (s.scalerOf p f.fmt) (fun a b => (s.colourStages p (demosaicAt k f.fmt st.wb a b)).2.2) x y

/-! ### Statistics (R140 to R146) -/

/-- The statistics window as applied (R140). -/
def State.statWindow (s : State) (p : Nat) (fmt : Format) : Nat × Nat × Nat × Nat :=
  let e := fun (i lim : Nat) => min (s.getP (P.pl p P.ST_WINDOW) i / 2 * 2) lim
  let (x0, y0, x1, y1) := (e 0 fmt.width, e 1 fmt.height, e 2 fmt.width, e 3 fmt.height)
  if x1 ≤ x0 ∨ y1 ≤ y0 then (0, 0, fmt.width, fmt.height) else (x0, y0, x1, y1)

/-- Zone `z` of `n` of a span (R140): first and past-last position. -/
def zoneOf (a b n z : Nat) : Nat × Nat := (a + z * (b - a) / n, a + (z + 1) * (b - a) / n)

/-- Positions from `a` to `b - 1`. -/
def span (a b : Nat) : List Nat := (List.range (b - a)).map (· + a)

/-- Integer square root (R141). -/
def isqrt (n : Nat) : Nat := Nat.sqrt n

/-- floor(sum / count) with negative values counted as 0; 0 with no sample (R140). DESIGN CHOICE (log 140): a mean that exceeds 24 bits, as one of
R144 can, reads 0xFFFFFF. -/
def statMean (l : List Int) : Nat :=
  if l.isEmpty then 0 else min 0xFFFFFF ((l.map fun v => (max v 0).toNat).sum / l.length)

/-- The statistics record of a frame (Table 4-7) after the header's first 0x40 bytes. -/
def State.statBody (s : State) (p : Nat) (f : Frame) (st : RawStages) : List Byte :=
  let k := s.rawCfg p
  let fmt := f.fmt
  let (x0, y0, x1, y1) := s.statWindow p fmt
  let ok := fun (y : Nat) => !f.replaced y
  let clip : Int := s.getP (P.pl p P.ST_CLIP_LEVEL) 0
  let wbLo : Int := s.getP (P.pl p P.ST_WB_LO) 0
  let pts := (span y0 y1).filter ok |>.flatMap fun y => (span x0 x1).map fun x => (x, y)
  let bin := fun (x y : Nat) =>
    let v := (clampI 0 0xFFFFF (st.s1.at x y)).toNat
    if s.getP (P.pl p P.ST_HIST_MODE) 0 = 0 then v >>> 12 else isqrt v >>> 2
  let hist := (List.range 4).flatMap fun c => (List.range 256).flatMap fun b =>
    leBytes (pts.filter fun e => channelOf fmt.cfa e.1 e.2 == c && bin e.1 e.2 == b).length 4
  let zone := fun (n zx m zy : Nat) =>
    let (a, b) := zoneOf x0 x1 n zx
    let (c, d) := zoneOf y0 y1 m zy
    ((span c d).filter ok).flatMap fun y => (span a b).map fun x => (x, y)
  let expo := (List.range 16).flatMap fun zy => (List.range 16).flatMap fun zx => (List.range 4).flatMap fun c =>
    let z := (zone 16 zx 16 zy).filter fun e => channelOf fmt.cfa e.1 e.2 == c
    let n := z.length
    let nc := (z.filter fun e => decide (clip ≤ st.s1.at e.1 e.2)).length
    leBytes (statMean (z.map fun e => st.s2.at e.1 e.2) + at' 24 (if n = 0 then 0 else 255 * nc / n)) 4
  let quads := fun (zx zy : Nat) =>
    let (a, b) := zoneOf (x0 / 2) (x1 / 2) 32 zx
    let (c, d) := zoneOf (y0 / 2) (y1 / 2) 24 zy
    ((span c d).filter fun y => ok (2 * y) && ok (2 * y + 1)).flatMap fun y => (span a b).map fun x => (2 * x, 2 * y)
  let quad := fun (x y : Nat) =>
    let v := fun (im : Img) (c : Nat) =>
      (([(x, y), (x + 1, y), (x, y + 1), (x + 1, y + 1)].find? fun e => channelOf fmt.cfa e.1 e.2 == c).map fun e => im.at e.1 e.2).getD 0
    (v st.s2 0, (v st.s2 1 + v st.s2 2) / 2, v st.s2 3, [v st.s1 0, v st.s1 1, v st.s1 2, v st.s1 3])
  let wbz := (List.range 24).flatMap fun zy => (List.range 32).flatMap fun zx =>
    if fmt.cfa = 4 then leBytes 0 16
    else
      let q := ((quads zx zy).map fun e => quad e.1 e.2).filter fun e =>
        !(e.2.2.2.any fun v => decide (clip ≤ v)) && !(decide (e.1 < wbLo ∧ e.2.1 < wbLo ∧ e.2.2.1 < wbLo))
      leBytes (statMean (q.map fun e => e.1) + at' 32 (statMean (q.map fun e => e.2.1)) + at' 64 (statMean (q.map fun e => e.2.2.1))
        + at' 96 q.length) 16
  let g := fun (x y : Nat) => ((demosaicAt k fmt st.wb x y).g : Int)
  let focus := (List.range 16).flatMap fun zy => (List.range 16).flatMap fun zx =>
    let z := zone 16 zx 16 zy
    let fh := (z.filter fun e => decide (1 ≤ e.1 ∧ e.1 + 1 < fmt.width)).map fun e =>
      ((g (e.1 - 1) e.2 - 2 * g e.1 e.2 + g (e.1 + 1) e.2).natAbs : Int)
    let fv := (z.filter fun e => decide (1 ≤ e.2 ∧ e.2 + 1 < fmt.height)).map fun e =>
      ((g e.1 (e.2 - 1) - 2 * g e.1 e.2 + g e.1 (e.2 + 1)).natAbs : Int)
    leBytes (statMean fh + at' 32 (statMean fv)) 8
  hist ++ expo ++ wbz ++ focus

/-- FLAGS of a statistics record. -/
def Frame.statFlags (f : Frame) : Nat := b2n f.inferred + 2 * b2n f.damaged + 4 * b2n f.tnrNoRef + 8 * b2n f.gated

/-- The statistics record of a frame as it is delivered (Table 4-7). -/
def State.statRecord (s : State) (p : Nat) (f : Frame) : StatRecord :=
  let st := s.stagesOf p f
  let (x0, y0, x1, y1) := s.statWindow p f.fmt
  let repl := (f.lines.filter fun l => l.2).length
  { tag := f.tag, number := f.number, settings := f.settings, flags := f.statFlags
    bytes := leBytes f.tag 4 ++ leBytes f.number 4 ++ leBytes f.settings 1 ++ leBytes f.statFlags 1 ++ leBytes p 1 ++ leBytes f.fmt.cfa 1
      ++ leBytes f.fmt.width 2 ++ leBytes f.fmt.height 2 ++ leBytes f.start 8 ++ leBytes st.static 4 ++ leBytes st.dynamic 4
      ++ leBytes st.passed 4 ++ leBytes repl 4 ++ leBytes (x0 + at' 16 y0 + at' 32 x1 + at' 48 y1) 8
      ++ ((List.range 4).flatMap fun c => leBytes (s.getP (P.pl p P.BL_IN_FORCE) c) 2)
      ++ leBytes (s.getP (P.pl p P.ST_HIST_MODE) 0) 1 ++ leBytes 0 7 ++ s.statBody p f st }

/-- STATS_READY (R145): the record of the last delivered frame, as it was computed, completes. -/
def execStatsReady (pl : Nat) (s : State) : Result :=
  guarded (.statsReady pl) s <|
    let x := s.pipe pl
    match x.building with
    | some r =>
      let s1 := s.setPipe pl { x with building := none, records := (r :: x.records).take 4 }
      (s1.bumpWrap (P.pl pl P.ST_RECORDS) 0 1).postTagged 0x48 0x4 pl (r.number + at' 32 r.settings + at' 40 r.flags) r.tag
    | none => s

/-! ### States, binding, temporal reference (R109 to R111, R123, R132, R147) -/

/-- PL_STATE changes, with its event. While a binding change is staged the SENSOR_BINDING entry's state is 1, which PL_STATE shows as UNBOUND (R147). -/
def State.setPlState (p new : Nat) (s : State) : State :=
  let old := s.getP (P.pl p P.PL_STATE) 0
  let new := if (s.pipe p).change.isSome then 0 else new
  if old = new then s
  else (s.setP (P.pl p P.PL_STATE) 0 new).postTagged 0x4C 0x4 p (new + at' 8 old) ((s.pipe p).last.map (·.tag) |>.getD s.ring.tag)

/-- The reference of pipeline `p` becomes invalid for a reason of Table 4-4, posted while temporal noise reduction is in force (R132). A frame in
progress goes on blending, and what it writes stays invalid. -/
def State.invalidateRef (p reason : Nat) (s : State) : State :=
  if (s.getP (P.pl p P.PL_STAGE_EN) 0).testBit 3 then
    let x := s.pipe p
    let y : Pipe := match x.cur with
      | some f => { x with cur := some { f with refStale := true }, refNext := [] }
      | none => { x with ref := [], refNext := [] }
    ((s.setPipe p y).setP (P.pl p P.TNR_REF_VALID) 0 0).postTagged 0x49 0x4 p reason ((s.pipe p).last.map (·.tag) |>.getD s.ring.tag)
  else s

/-- The pixel rate of a format, in photosites/s. -/
def Format.rate (f : Format) : Nat := f.width * f.height * 1000000000000 / max f.period 1

/-- The reference buffer and its reservation are released (R133). -/
def State.releaseRef (p : Nat) (s : State) : State :=
  let s1 := ((s.freeOwned (.reference p)).bwSet 1 p 0).setP (P.pl p P.TNR_REF_BYTES) 0 0
  (s1.setPipe p { s1.pipe p with ref := [], refNext := [], refBase := 0, tnrStarved := false }).setP (P.pl p P.TNR_REF_VALID) 0 0

/-- The reference buffer and reservation for a format, if they can be had (R131, R133). -/
def State.tryRef (p : Nat) (f : Format) (s : State) : Option State :=
  let s0 := s.freeOwned (.reference p)
  let bps := 4 * f.rate
  if !s.bwAccepts p bps then none
  else match s0.allocBuffer 1 (f.width * f.height * 2) (.reference p) with
    | (s1, .base a) =>
      some (((s1.bwSet 1 p bps).setP (P.pl p P.TNR_REF_BYTES) 0 (cdiv (f.width * f.height * 2) pageBytes * pageBytes)).setPipe p
        { s1.pipe p with refBase := a, tnrStarved := false })
    | (_, .fail _) => none

/-- The reference for the format in force, made or marked starved (Table 4-4 reason 4). -/
def State.acquireRef (p : Nat) (s : State) : State :=
  let x := s.pipe p
  if !(s.getP (P.pl p P.PL_STAGE_EN) 0).testBit 3 then s
  else match x.fmt with
    | none => s
    | some f =>
      match s.tryRef p f with
      | some t => t
      | none => ((s.releaseRef p).invalidateRef p 4).setPipe p { (s.releaseRef p).pipe p with tnrStarved := true }

/-- Black level tracking restarts from BL_LEVEL (R123). -/
def State.restartBlack (p : Nat) (s : State) : State :=
  let lv := (List.range 4).map fun c => s.getP (P.pl p P.BL_LEVEL) c
  let s1 := s.setPipe p { s.pipe p with nextBlack := [], limits := 0 }
  (List.range 4).foldl (fun t c => t.setP (P.pl p P.BL_IN_FORCE) c (lv.getD c 0)) s1

/-- SC_STEP reads the steps in force, 0 while unbound (Table 5-11). -/
def State.reportSteps (p : Nat) (s : State) : State :=
  match (s.pipe p).bind, (s.pipe p).fmt with
  | some _, some f =>
    let k := s.scalerOf p f
    (s.setP (P.pl p P.SC_STEP) 0 k.stepX).setP (P.pl p P.SC_STEP) 1 k.stepY
  | _, _ => (s.setP (P.pl p P.SC_STEP) 0 0).setP (P.pl p P.SC_STEP) 1 0

/-- Some canvas shows pipeline `p` in through mode. -/
def State.shownThrough (s : State) (p : Nat) : Bool :=
  (List.range 16).any fun c => (List.range 8).any fun i => s.cvp c P.LI_PIPELINE i == p && s.cvp c P.LI_MODE i == 1

/-- R163 on pipeline `p`'s geometry for a format. -/
def State.geometryFits (s : State) (p : Nat) (f : Format) : Bool :=
  let k := s.scalerOf p f
  scalerFits k f.period && (!s.shownThrough p || decide (k.outW * f.total * 10000 ≤ 96 * f.period))

/-- Why a pipeline refuses a format (R121, R163, Table 3-12): 0 width, 1 pixel rate or geometry, 2 bit depth. DESIGN CHOICE (log 141): of several
failures the first one tested here is named. -/
def State.rejectReason (s : State) (p : Nat) (f : Format) : Option Nat :=
  if !([10, 12, 14, 16].contains f.bits) then some 2
  else if 12288 < f.width ∨ f.width < 256 ∨ f.width % 8 ≠ 0 then some 0
  else if 96 * f.period < f.width * f.total * 10000 then some 1
  else if !s.geometryFits p f then some 1
  else none

/-- The settings ID gate of pipeline `p` holds its staged changes back (R148). -/
def State.gateHeld (s : State) (p : Nat) : Bool := s.getP (P.pl p P.PL_SID_GATE) 0 != 0 || (s.pipe p).gateReleased != 0

/-- The values that pipeline `p` will have at its next frame start: those staged too, unless the gate holds them back. -/
def State.nextValues (s : State) (p : Nat) : State := if s.gateHeld p then s else s.preview

/-- Pipeline `p` is REJECTED for a reason of Table 3-12; FORMAT_REJECT is posted once for a VC_ANNOUNCE of sensor `k` (R114, R121, R163). -/
def State.rejectFormat (p k r : Nat) (s : State) : State :=
  let s1 := (s.setPipe p { s.pipe p with rejected := true }).setPlState p 3
  if (s1.sensor k).rejectPosted then s1
  else (s1.setSensor k { s1.sensor k with rejectPosted := true }).post 0x44 0x3 k r

/-- The pipeline bound to a sensor by the binding in force, identities matching (R109, R111). -/
def State.boundPipe (s : State) (k : Nat) : Option Nat :=
  (List.range 8).find? fun p => match (s.pipe p).bind with
    | some b => b.sensor == k
    | none => false

/-- The identities of a binding match the head and sensor present (R111). -/
def State.bindingMatches (s : State) (b : Binding) : Bool :=
  (b.head == 0 || some b.head == ((s.group (b.sensor / 4)).head.map (·.serial))) && (b.serial == 0 || b.serial == (s.sensor b.sensor).serial)

/-- A format takes force in a pipeline: PL_FORMAT, PL_HEIGHT, the scaler's steps, black level tracking, the reference (R94, R123, R132). -/
def State.applyFormat (p : Nat) (f : Format) (s : State) : State :=
  let s1 := s.setPipe p { s.pipe p with fmt := some f, lastFmt := some f }
  let s2 := (s1.setP (P.pl p P.PL_FORMAT) 0 (f.width + at' 16 f.bits + at' 24 f.cfa)).setP (P.pl p P.PL_HEIGHT) 0 f.height
  ((s2.reportSteps p).restartBlack p).acquireRef p

/-- A binding or unbinding takes effect (R111): frames are counted afresh, and the reference is invalid for reason 0. Once a sensor has been
unbound, its next orphan frame is reported (R109). -/
def State.applyBinding (p : Nat) (s : State) : State :=
  let x := s.pipe p
  match x.change with
  | none => s
  | some ch =>
    let s1 := (s.invalidateRef p 0).setPipe p { (s.invalidateRef p 0).pipe p with bind := ch.target, change := none, frames := 0, fmt := none, rejected := false }
    let s2 := ((s1.restartBlack p).reportSteps p).awaitPipe p
    let s3 := match ch.target with
      | none =>
        let t := match x.bind with
          | some b => s2.setSensor b.sensor { s2.sensor b.sensor with orphanPosted := false }
          | none => s2
        (((t.releaseRef p).setP (P.pl p P.PL_FORMAT) 0 0).setP (P.pl p P.PL_HEIGHT) 0 0).setPlState p 0
      | some b =>
        if (s2.sensor b.sensor).present && (s2.sensor b.sensor).fmt != ({} : Format) then
          match (s2.nextValues p).rejectReason p (s2.sensor b.sensor).fmt with
          | some r => s2.rejectFormat p b.sensor r
          | none => (s2.applyFormat p (s2.sensor b.sensor).fmt).setPlState p 1
        else s2.setPlState p 1
    match ch.ticket with
    | some tk => s3.finalReply tk cOK 0 0
    | none => s3

/-- Black level tracking at the end of an undamaged frame (R123); a channel with no photosite in the region keeps its value. -/
def State.trackBlack (p : Nat) (f : Frame) (s : State) : State :=
  let q := fun (id idx : Nat) => s.getP (P.pl p id) idx
  if q P.BL_MODE 0 = 0 ∨ f.damaged then s
  else
    let region := (span (q P.BL_OB_RECT 1) (min (q P.BL_OB_RECT 3) f.fmt.height)).flatMap fun y =>
      (span (q P.BL_OB_RECT 0) (min (q P.BL_OB_RECT 2) f.fmt.width)).map fun x => (x, y)
    let pts := fun (c : Nat) => region.filter fun e => channelOf f.fmt.cfa e.1 e.2 == c
    let old := fun (c : Nat) => ((q P.BL_IN_FORCE c : Nat) : Int)
    let m := fun (c : Nat) => ((((pts c).map fun e => in16 f.fmt.bits ((f.codes e.2).getD e.1 0)).sum / (pts c).length : Nat) : Int)
    let lo := fun (c : Nat) => ((q P.BL_LEVEL c : Int) - q P.BL_TRACK_LIMIT 0)
    let hi := fun (c : Nat) => ((q P.BL_LEVEL c : Int) + q P.BL_TRACK_LIMIT 0)
    let new := (List.range 4).map fun c =>
      if (pts c).isEmpty then old c else clampI (lo c) (hi c) (old c + (m c - old c) / 2 ^ (q P.BL_TRACK_SHIFT 0))
    let was := (s.pipe p).limits
    let up := (List.range 4).foldl (init := 0) fun u c =>
      if (pts c).isEmpty then u + was % 2 ^ (c + 1) / 2 ^ c * 2 ^ c + was / 16 % 2 ^ (c + 1) / 2 ^ c * 2 ^ (4 + c)
      else if new.getD c 0 = hi c then setBit u (4 + c) else if new.getD c 0 = lo c then setBit u c else u
    let x := s.pipe p
    let s1 := s.setPipe p { x with nextBlack := new.map Int.toNat, limits := up }
    (List.range 8).foldl (init := s1) fun t i =>
      if up.testBit i && !x.limits.testBit i then
        t.postTagged 0x4A 0x4 p (i % 4 + at' 8 (i / 4) + at' 16 ((new.getD (i % 4) 0).toNat)) f.tag
      else t

/-! ### Colour probes (R177) -/

def State.probe (s : State) (k : Nat) : Option Probe := SMap.get (fun _ => none) s.colour.probes k

def State.setProbe (k : Nat) (x : Option Probe) (s : State) : State :=
  { s with colour := { s.colour with probes := SMap.set (fun _ => none) s.colour.probes k x } }

/-- The outstanding probes that have no result yet take the one that `r` gives for them. -/
def State.captureProbes (r : Probe → Option Nat) (s : State) : State :=
  (List.range 4).foldl (init := s) fun t k => match t.probe k with
    | none => t
    | some q => if q.result.isSome then t else match r q with
      | none => t
      | some v => t.setProbe k (some { q with result := some v })

/-- Three components as a STAGE field (Table 5-14). -/
def stageWord (p : Rgb) : Nat := p.r + at' 32 p.g + at' 64 p.b

/-- The COLOUR_PROBE result: tag, loop, hop, stages. -/
def probeResult (tag loop hop : Nat) (stages : List Rgb) : Nat :=
  (stages.zipIdx.foldl (fun n e => n + at' (64 + 96 * e.2) (stageWord e.1)) (tag + at' 32 loop + at' 48 hop))

/-- The stages of a probed photosite of a frame. -/
def State.probePipe (s : State) (p : Nat) (f : Frame) (x y : Nat) : Nat :=
  let d := demosaicAt (s.rawCfg p) f.fmt (s.stagesOf p f).wb x y
  let (a, b, e) := s.colourStages p d
  probeResult f.tag 0 0 [d, a, b, e]

/-- The result that frame `f` of pipeline `p` gives a probe: the frame started after the command was taken, and has the photosite. -/
def State.frameProbe (s : State) (p : Nat) (f : Frame) (q : Probe) : Option Nat :=
  if !q.canvas && q.unit == p && decide (q.since ≤ f.start ∧ q.x < f.fmt.width ∧ q.y < f.fmt.height) then some (s.probePipe p f q.x q.y) else none

/-! ### Frame end (R106, R123, R130, R145) -/

/-- The reference that frame `f` leaves (R130, R132), none if none is kept. -/
def State.nextRef (s : State) (p : Nat) (f : Frame) (st : RawStages) : List (List Nat) :=
  let x := s.pipe p
  if (s.getP (P.pl p P.PL_STAGE_EN) 0).testBit 3 && !x.tnrStarved then newReference f (s.refFor p f) x.ref st.tnr else []

/-- The reference's writes of a frame: every line but those that leave a valid reference unchanged clears its granules of poison (R131, R284). -/
def State.writeRef (p : Nat) (f : Frame) (s : State) : State :=
  (List.range f.fmt.height).foldl (init := s) fun t y =>
    if s.refFor p f && f.replaced y then t else t.unpoison ((s.pipe p).refBase + 2 * f.fmt.width * y) (2 * f.fmt.width) 32

/-- The pixels of a frame that the camera matrix clipped (Table 5-11). -/
def State.matrixClipped (s : State) (p : Nat) (f : Frame) (wb : Img) : Nat :=
  let m := s.camMatrix p
  if (s.getP (P.pl p P.PL_COLOUR_EN) 0).testBit 0 then
    ((List.range f.fmt.height).map fun y => ((List.range f.fmt.width).filter fun x =>
      matrixClips m.1 m.2 (demosaicAt (s.rawCfg p) f.fmt wb x y)).length).sum
  else 0

/-- A delivered frame ends: its counts, its probes, the new reference, tracking; its statistics record is being built, and blends dropped for a late
reference are reported as task 2 (R37). -/
def State.endFrame (p : Nat) (f : Frame) (s : State) : State :=
  let f := { f with complete := true }
  let s := if s.refFor p f then s.demandRead (s.pipe p).refBase (2 * f.fmt.width * f.fmt.height) else s
  let st := s.stagesOf p f
  let new := s.nextRef p f st
  let next := if f.refStale then [] else new
  let s0 := (if new.isEmpty then s else s.writeRef p f).captureProbes (s.frameProbe p f)
  let s1 := s0.setPipe p { s0.pipe p with cur := none, last := some f, ref := if f.refStale then [] else (s.pipe p).ref, refNext := next
                                          building := some (s.statRecord p f) }
  let s2 := ((s1.setP (P.pl p P.DPC_CORRECTED) 0 st.static).setP (P.pl p P.DPC_CORRECTED) 1 st.dynamic).setP (P.pl p P.TNR_PASSED) 0 st.passed
  let s3 := if next.isEmpty then s2 else s2.setP (P.pl p P.TNR_REF_VALID) 0 1
  let s4 := (s3.setP (P.pl p P.CM_CLIP_COUNT) 0 (s.matrixClipped p f st.wb)).trackBlack p f
  if st.dropped = 0 then s4 else s4.postTagged 0x08 0x4 p (2 + at' 8 st.dropped) f.tag

/-- PIPELINE_WAIT_TIMEOUT (R147): no FRAME_START for 2 frame periods, so RUNNING becomes WAITING. -/
def execPipelineWaitTimeout (pl : Nat) (s : State) : Result :=
  guarded (.pipelineWaitTimeout pl) s (if s.getP (P.pl pl P.PL_STATE) 0 = 2 then s.setPlState pl 1 else s)

/-- SID_GATE_TIMEOUT (R148): if PL_SID_GATE_TIMEOUT delivered frames have passed, the held set applies at the next frame start. -/
def execSidGateTimeout (pl : Nat) (s : State) : Result :=
  guarded (.sidGateTimeout pl) s
    (if s.getP (P.pl pl P.PL_SID_GATE) 0 = 0 ∨ (s.pipe pl).gateFrames < s.getP (P.pl pl P.PL_SID_GATE_TIMEOUT) 0 then s
     else s.setPipe pl { s.pipe pl with gateExpired := true })

/-! ### STATS_READ (R146, R149) -/

def statsReadSpec : OpSpec := { op := 0x0201, len := fun c => c.opLen == 20, rsvd := 0xFFFF0000 }

/-- STATS_READ from step 7 on. -/
def statsReadBody : Body := fun k s =>
  let c := k.c
  let p := c.f 0 8
  let sel := c.f 8 8
  let host := c.f 64 64
  let n := c.f 128 32
  if 8 ≤ p ∨ 2 ≤ sel ∨ host = 0 ∨ host % 64 ≠ 0 ∨ n < 64 ∨ 22592 < n ∨ n % 64 ≠ 0 then (s, .err cBAD_PARAM)
  else
    let l := (s.pipe p).records
    match (if sel = 0 then l.head? else l.find? fun r => r.tag == c.f 32 32) with
    | none => (s, .err 0x28)
    | some r =>
      let w := s.hostWrite host (r.bytes.take n)
      if w.2 then (w.1, .done cOK 8 (r.tag + at' 32 n)) else (w.1, .err cABORTED)

/-- STATS_READ (R146). -/
def execStatsRead (c : Cmd) (s : State) : Result := guarded (.statsRead c) s (submit statsReadSpec statsReadBody c s)

end Sys2Proof.Machine
end

