-- ==== Sys2Proof/Machine/Recording.lean ====
section
/-! DEFINITION. Recording and the Ferris ring (chapter 10): bins, segments, clips, records, gaps, the write buffer, capture, recovery, protection, wear. -/

namespace Sys2Proof.Machine

/-! ### Bins and records -/

/-- The frame tag before `t`. -/
abbrev prevTag (t : Nat) : Nat := (t + 0xFFFFFFFF) % 0x100000000

abbrev binDef : Nat → Option Bin := fun _ => none

/-- Bin `b`, if it has been created. -/
def State.bin? (s : State) (b : Nat) : Option Bin := SMap.get binDef s.fr.bins b

def State.setBin (b : Nat) (x : Option Bin) (s : State) : State := { s with fr := { s.fr with bins := SMap.set binDef s.fr.bins b x } }

/-- A bin that exists is changed. -/
def State.modBin (b : Nat) (f : Bin → Bin) (s : State) : State :=
  match s.bin? b with
  | some x => s.setBin b (some (f x))
  | none => s

/-- The numbers of the bins that exist. -/
def State.binList (s : State) : List Nat := s.fr.bins.map Prod.fst

/-- The state code of a bin (Table 10-1). -/
abbrev State.binState (s : State) (b : Nat) : Nat := s.getP P.FR_BIN_STATE b

/-- A segment's bytes. -/
abbrev segBytes : Nat := 0x10000000

/-- The bytes of a record whose body is `l`, a multiple of 64 (R320). -/
def recBytesFor (l : List Byte) : Nat := (0x20 + l.length + 63) / 64 * 64

/-- A body padded so that its record is a multiple of 64 bytes. -/
def padBody (l : List Byte) : List Byte := l ++ List.replicate (recBytesFor l - 0x20 - l.length) 0

/-- A record's length. -/
def Rec.len (r : Rec) : Nat := 0x20 + r.body.length

/-- A record's bytes in clip `clip` (Table 10-5). -/
def Rec.bytes (r : Rec) (clip : Nat) : List Byte :=
  let h := leBytes r.typ 1 ++ leBytes r.source 1 ++ leBytes 0 2 ++ leBytes r.len 4 ++ leBytes r.seq 8 ++ leBytes r.tag 4 ++ leBytes clip 4 ++ leBytes 0 4
  h ++ leBytes (crc32c h) 4 ++ r.body

/-- A number in a record's body, by its offset in the record. -/
def Rec.field (r : Rec) (o n : Nat) : Nat := ofLE ((r.body.drop (o - 0x20)).take n)

/-- The bytes of a clip's records. -/
def Clip.bytes (c : Clip) : Nat := (c.recs.map fun r => r.len).sum

/-- The clip stands protected. -/
abbrev Clip.isProtected (c : Clip) : Bool := c.flags.testBit 0

/-- Frame tag `t` lies in the range from `a` to `b`, modulo 2^32 (R309). -/
def tagIn (t a b : Nat) : Bool := decide ((t + 0x100000000 - a % 0x100000000) % 0x100000000 ≤ (b + 0x100000000 - a % 0x100000000) % 0x100000000)

/-- Two ranges of frame tags overlap. -/
def tagsMeet (a b c d : Nat) : Bool := tagIn a c d || tagIn c a b

/-- The body of CLIP_CLOSE (Table 10-6) for a clip with the byte count `bytes`. -/
def Clip.closeBody (c : Clip) (firstSeq bytes : Nat) : List Byte :=
  let frames := (c.recs.filter fun r => r.typ == 1).length
  let lost := ((c.recs.filter fun r => r.typ == 2 && decide (r.source < 8) && r.field 0x20 4 != 0xFFFFFFFF).map fun r => r.field 0x20 4).sum
  leBytes c.first 4 ++ leBytes c.last 4 ++ leBytes firstSeq 8 ++ leBytes bytes 8 ++ leBytes frames 4 ++ leBytes lost 4 ++ leBytes c.flags 4
    ++ leBytes c.sources 4 ++ leBytes 0 0x38

/-- A GAP record's body (Table 10-5). -/
def gapBody (count reason number : Nat) : List Byte := leBytes count 4 ++ leBytes reason 1 ++ leBytes 0 3 ++ leBytes number 4 ++ leBytes 0 0x14

/-! ### Segments (R307, R308, R310) -/

/-- The clip has a record in the segment. -/
def Clip.uses (c : Clip) (g : Nat) : Bool := c.recs.any fun r => r.pieces.any fun p => p.1 == g

/-- Some clip has a record in the segment. -/
def Bin.used (b : Bin) (g : Nat) : Bool := b.clips.any fun c => c.uses g

/-- The segment is pinned: it holds a record of a protected clip (R310). -/
def Bin.pinned (b : Bin) (g : Nat) : Bool := b.clips.any fun c => c.isProtected && c.uses g

/-- The data segments: those that are not header segments. -/
def Bin.data (b : Bin) : List Nat := (List.range b.segs).filter fun g => g != b.hdrA && g != b.hdrB

/-- Data segments that hold records. -/
def Bin.held (b : Bin) : Nat := (b.data.filter fun g => b.used g).length

/-- The next segment in ring order after the write position (R308). -/
def Bin.nextSeg (b : Bin) : Option Nat :=
  ((List.range b.segs).map fun i => (b.wseg + 1 + i) % b.segs).find? fun g => g != b.hdrA && g != b.hdrB && !b.pinned g

/-- The oldest unprotected closed clip. -/
def Bin.victim (b : Bin) : Option Clip := b.clips.find? fun c => c.phase == 2 && !c.isProtected

/-- A clip is shed. -/
def Bin.dropClip (b : Bin) (c : Clip) : Bin :=
  { b with clips := b.clips.filter fun x => x.id != c.id, shed := b.shed ++ [(c.first, c.last)] }

/-- The segment taken for the write position, or none if nothing is left to shed, and the clips shed on the way (R308, R44). -/
def Bin.takeSeg : Nat → Bin → List Nat → Bin × List Nat × Bool
  | 0, b, gone => (b, gone, false)
  | fuel + 1, b, gone =>
    let take := match b.nextSeg with
      | some g => if !b.used g && decide (b.held < b.quota) then some g else none
      | none => none
    match take with
    | some g => ({ b with wseg := g, woff := 0, passes := SMap.set (fun _ => 0) b.passes g (SMap.get (fun _ => 0) b.passes g + 1) }, gone, true)
    | none => match b.victim with
      | some c => Bin.takeSeg fuel (b.dropClip c) (gone ++ [c.id])
      | none => (b, gone, false)

/-- `n` bytes at the write position, over as many segments as they need. -/
def Bin.allot : Nat → Nat → Bin → List (Nat × Nat × Nat) → List Nat → Bin × List (Nat × Nat × Nat) × List Nat × Bool
  | 0, _, b, pc, gone => (b, pc, gone, false)
  | fuel + 1, n, b, pc, gone =>
    let room := segBytes - b.woff
    if n ≤ room then ({ b with woff := b.woff + n }, pc ++ (if n = 0 then [] else [(b.wseg, b.woff, n)]), gone, true)
    else
      let pc1 := pc ++ (if room = 0 then [] else [(b.wseg, b.woff, room)])
      let r := Bin.takeSeg (b.clips.length + 1) b gone
      if r.2.2 then Bin.allot fuel (n - room) r.1 pc1 r.2.1 else (r.1, pc1, r.2.1, false)

/-- FR_BIN_USED, FR_BIN_PROTECTED and FR_BIN_OLDEST follow the clips held. -/
def State.binReport (b : Nat) (s : State) : State :=
  match s.bin? b with
  | none => ((s.setP P.FR_BIN_USED b 0).setP P.FR_BIN_PROTECTED b 0).setP P.FR_BIN_OLDEST b 0
  | some x =>
    ((s.setP P.FR_BIN_USED b ((x.clips.map Clip.bytes).sum)).setP P.FR_BIN_PROTECTED b ((x.data.filter fun g => x.pinned g).length * segBytes)).setP
      P.FR_BIN_OLDEST b ((x.clips.head?.map fun c => c.first).getD 0)

/-- A checkpoint is written, to the two header segments in turn; a volatile bin's CLIP_ID is kept in the boot flash record area (R307, R318). -/
def State.writeCheckpoint (b : Nat) (s : State) : State :=
  match s.bin? b with
  | none => s
  | some x =>
    let g := if x.ckpt % 2 = 0 then x.hdrA else x.hdrB
    let y := { x with ckpt := x.ckpt + 1, ckptTime := s.now, passes := SMap.set (fun _ => 0) x.passes g (SMap.get (fun _ => 0) x.passes g + 1) }
    let s1 := s.setBin b (some y)
    { s1 with fr := { s1.fr with volClip := SMap.set (fun _ => 0) s1.fr.volClip b x.nextClip } }

/-- CLIPS_SHED for one pass of shedding (R308). -/
def State.postShed (b : Nat) (gone : List Nat) (overQuota : Bool) (s : State) : State :=
  match gone with
  | [] => s
  | c :: _ => (s.post 0x72 0xA b (c + at' 32 gone.length + at' 48 (b2n overQuota))).writeCheckpoint b

/-- The bin comes within its quota, or ceases to: QUOTA_CHANGE (R44), and SERVICE_NEEDED while nothing is left to shed. -/
def State.reviewBinQuota (b : Nat) (s : State) : State :=
  match s.bin? b with
  | none => s.clearService (.binOver b)
  | some x =>
    let isOver := decide (x.quota < x.held)
    let s1 := if isOver == x.quotaOver then s
              else (s.setBin b (some { x with quotaOver := isOver })).quotaChange isOver 0 0xA b 0
    if (isOver && x.victim.isNone) || x.noSpace then s1.raiseService (.binOver b) else s1.clearService (.binOver b)

/-- Over-quota shedding: the oldest unprotected clips go until the bin is within its quota (R44, Table 1-14). -/
def Bin.shedOver : Nat → Bin → List Nat → Bin × List Nat
  | 0, b, gone => (b, gone)
  | fuel + 1, b, gone =>
    if b.held ≤ b.quota then (b, gone)
    else match b.victim with
      | some c => Bin.shedOver fuel (b.dropClip c) (gone ++ [c.id])
      | none => (b, gone)

/-- FR_BIN_QUOTA takes effect. -/
def State.applyBinQuota (b : Nat) (s : State) : State :=
  match s.bin? b with
  | none => s
  | some x =>
    let y := { x with quota := s.getP P.FR_BIN_QUOTA b }
    let s1 := (s.setBin b (some y)).reviewBinQuota b
    let y1 := (s1.bin? b).getD y
    let r := Bin.shedOver y1.clips.length y1 []
    (((s1.setBin b (some { r.1 with noSpace := r.1.noSpace && r.2.isEmpty })).postShed b r.2 true).reviewBinQuota b).binReport b

/-- A record is appended to clip `clip` of a bin at its write position (R308); whether there was space. A bin over its quota sheds first, and with nothing
left to shed takes gap records only (Table 1-14). -/
def State.binAppend (b clip : Nat) (r : Rec) (s : State) : State × Bool :=
  match s.bin? b with
  | none => (s, false)
  | some x0 =>
    let o := Bin.shedOver x0.clips.length x0 []
    let x := o.1
    let a := Bin.allot (r.len / segBytes + 2) r.len x [] o.2
    let y := a.1
    let settle := fun (z : Bin) (gone : List Nat) => (((s.setBin b (some z)).postShed b gone x0.quotaOver).reviewBinQuota b).binReport b
    if x.quota < x.held ∧ r.typ ≠ 2 then (settle { x with noSpace := true } o.2, false)
    else if a.2.2.2 then
      let rr := { r with seq := x.seq, pieces := a.2.1 }
      (settle { y with seq := x.seq + 1, noSpace := false
                       clips := y.clips.map fun c => if c.id = clip then { c with recs := c.recs ++ [rr] } else c } a.2.2.1, true)
    else (settle { y with wseg := x.wseg, woff := x.woff, noSpace := true } a.2.2.1, false)

/-! ### Gap runs (R315) -/

/-- Frames of a source are refused or discarded for a reason. -/
def State.addRun (b source reason tag number n : Nat) (s : State) : State :=
  s.modBin b fun x =>
    if x.runs.any fun r => r.source == source && r.reason == reason then
      { x with runs := x.runs.map fun r => if r.source == source && r.reason == reason then { r with count := r.count + n } else r }
    else { x with runs := x.runs ++ [{ source := source, reason := reason, count := n, tag := tag, number := number }] }

/-- A gap record is appended to a clip, and GAP_WRITTEN posted; a run for which there is no space goes on. -/
def State.writeGap (b clip : Nat) (g : GapRun) (s : State) : State :=
  let r := s.binAppend b clip { typ := 2, source := g.source, seq := 0, tag := g.tag, body := gapBody g.count g.reason g.number }
  if r.2 then
    (r.1.modBin b fun x => { x with runs := x.runs.filter (· != g) }).post 0x70 0xA b
      (g.source + at' 8 g.reason + at' 16 g.count + at' 48 g.tag)
  else r.1

/-- The runs of a bin that `p` names end in clip `clip`. -/
def State.endRuns (b clip : Nat) (p : GapRun → Bool) (s : State) : State :=
  match s.bin? b with
  | none => s
  | some x => (x.runs.filter p).foldl (fun t g => t.writeGap b clip g) s

/-- Frames of a source are lost to gaps: FR_GAP_FRAMES counts each once. -/
def State.gapFrames (p n : Nat) (s : State) : State := if p < 8 then s.bumpSat P.FR_GAP_FRAMES p n else s

/-! ### Clips (R309 to R311) -/

/-- Clip `id` of a bin. -/
def Bin.clip? (b : Bin) (id : Nat) : Option Clip := b.clips.find? fun c => c.id == id

/-- The open clip. -/
def Bin.openClip (b : Bin) : Option Clip := b.clips.find? fun c => c.phase == 0

/-- A clip of a bin is changed. -/
def State.modClip (b id : Nat) (f : Clip → Clip) (s : State) : State :=
  s.modBin b fun x => { x with clips := x.clips.map fun c => if c.id = id then f c else c }

/-- Protecting these clips as well keeps R310's two limits. -/
def Bin.mayProtect (b : Bin) (ids : List Nat) : Bool :=
  let y : Bin := { b with clips := b.clips.map fun (c : Clip) => if ids.contains c.id then { c with flags := setBit c.flags 0 } else c }
  decide (4 ≤ (y.data.filter fun g => !y.pinned g).length) && decide ((y.clips.filter fun c => c.isProtected).length ≤ 65535)

/-- The clip's time meets the trigger's span. -/
def BinTrig.meets (g : BinTrig) (c : Clip) (now : Nat) : Bool :=
  decide (c.t0 ≤ g.hi) && decide (g.lo ≤ (if c.phase = 0 then max c.t1 now else c.t1))

/-- A clip that has closed in a trigger's span is protected, or refused (R311). -/
def State.trigProtect (b id : Nat) (s : State) : State :=
  match s.bin? b with
  | none => s
  | some x => match x.clip? id with
    | none => s
    | some (c : Clip) =>
      if x.trigs.any fun g => g.meets c s.now && !g.clips.contains id then
        let ok := c.isProtected || x.mayProtect [id]
        let y := { x with
          clips := if ok then x.clips.map fun k => if k.id = id then { k with flags := k.flags ||| 9 } else k else x.clips
          trigs := x.trigs.map fun g => if g.meets c s.now && !g.clips.contains id then
            (if ok then { g with clips := g.clips ++ [id] } else { g with refused := true }) else g }
        ((s.setBin b (some y)).writeCheckpoint b).binReport b
      else s

/-- The triggers whose last clip has closed post TRIGGER_PROTECT (R311). -/
def State.trigReview (b : Nat) (s : State) : State :=
  match s.bin? b with
  | none => s
  | some x =>
    let open' := x.clips.filter fun c => c.phase < 2
    let waits := fun (g : BinTrig) => (open'.any fun c => g.meets c s.now) || (s.binState b == 4 && decide (s.now < g.hi))
    let done := x.trigs.filter fun g => !waits g
    done.foldl (fun t g => t.post 0x73 0xA b (g.count + at' 32 (g.clips.headD 0) + at' 64 g.clips.length + at' 80 (b2n g.refused)))
      (s.setBin b (some { x with trigs := x.trigs.filter waits }))

/-- The oldest unprotected closed clip is shed where the directory is full (R308). -/
def State.directoryRoom (b : Nat) (s : State) : State :=
  match s.bin? b with
  | none => s
  | some x =>
    if 65536 ≤ (x.clips.filter fun c => c.phase == 2).length then
      match x.victim with
      | some c => (s.setBin b (some (x.dropClip c))).postShed b [c.id] false
      | none => s
    else s

/-- A clip enters the directory: its runs end, triggers protect it, CLIP_CLOSE is appended, CLIP_CLOSED is posted, a checkpoint is written (R307, R309,
R311, R315). -/
def State.finishClip (b id : Nat) (s : State) : State :=
  let s1 := (((s.endRuns b id fun _ => true).directoryRoom b).modClip b id fun k => { k with t1 := if k.t1 = 0 then s.now else k.t1 }).trigProtect b id
  match (s1.bin? b).bind fun x => (x.clip? id).map fun c => (x, c) with
  | none => s1
  | some (x, c) =>
    let firstSeq := (c.recs.head?.map fun r => r.seq).getD x.seq
    let body := c.closeBody firstSeq (c.bytes + 128)
    let s2 := (s1.binAppend b id { typ := 4, source := 255, seq := 0, tag := c.last, body := body }).1
    let s3 := s2.modClip b id fun k => { k with phase := 2 }
    let bytes := (((s3.bin? b).bind fun y => y.clip? id).map Clip.bytes).getD 0
    (((s3.post 0x71 0xA b (id + at' 32 (rdivN bytes 0x100000) + at' 64 (c.flags % 16))).writeCheckpoint b).binReport b).trigReview b

/-- Frames of these tags that the bin is to receive are still being received or await their fence. -/
def State.clipPending (s : State) (b : Nat) (c : Clip) : Bool :=
  s.fr.wb.any fun f => f.bins.contains b && decide (f.phase < 2) && tagIn f.tag c.first c.last

/-- Clips whose periods are over and whose frames have all come are closed. -/
def State.settleClips (b : Nat) (s : State) : State :=
  match s.bin? b with
  | none => s
  | some x => (x.clips.filter fun c => c.phase == 1 && !s.clipPending b c).foldl (fun t c => t.finishClip b c.id) s

/-- The open clip ends with the master period of tag `last`. -/
def State.closeClip (b last : Nat) (s : State) : State :=
  match (s.bin? b).bind Bin.openClip with
  | none => s
  | some c => (s.modClip b c.id fun k => { k with phase := 1, last := last, t1 := s.now }).settleClips b

/-- A clip opens with the master period in progress. -/
def State.openClip (b : Nat) (s : State) : State :=
  s.modBin b fun x =>
    { x with nextClip := x.nextClip + 1, mark := false
             clips := x.clips ++ [{ id := x.nextClip, first := s.ring.tag, last := s.ring.tag, t0 := s.now, sources := s.getP P.FR_BIN_SOURCES b }] }

/-! ### Bin states (R306) -/

/-- A change of a bin's state posts BIN_STATE. -/
def State.setBinState (b new reason : Nat) (s : State) : State :=
  let old := s.binState b
  if old = new then s else (s.setP P.FR_BIN_STATE b new).post 0x75 0xA b (new + at' 8 old + at' 16 reason)

/-- An import in progress is discarded (R347). -/
def State.discardImport (b : Nat) (s : State) : State := (s.modBin b fun x => { x with clips := x.clips.filter fun c => c.phase != 3 }).binReport b

/-- Capture into bins is held by the power state: from step 2 of the entry to DARK until DARK has been left (R429, R433). -/
def State.captureHeld (s : State) : Bool :=
  s.powerState == 2 || (match s.pw.step with
    | .draining | .flushing | .sleeping | .exiting => true
    | _ => false)

/-- The bins that capture a source: pipelines are sources 0 to 7, audio ports 16 to 31. -/
def State.capturing (s : State) (source : Nat) : List Nat :=
  let bit := if source < 8 then source else source - 8
  s.binList.filter fun b => s.binState b == 4 && !s.captureHeld && (s.getP P.FR_BIN_SOURCES b).testBit bit

/-- The bins whose capture of a source is suspended. -/
def State.suspendedFor (s : State) (source : Nat) : List Nat :=
  let bit := if source < 8 then source else source - 8
  s.binList.filter fun b => s.binState b == 5 && s.getP P.FR_BIN_ARM b == 1 && (s.getP P.FR_BIN_SOURCES b).testBit bit

/-- The compressed rate that pipeline `p` needs, in bytes/s, at FR_RESERVE_RATIO (R42, R314). -/
def State.recordRate (s : State) (p : Nat) : Nat :=
  match (s.pipe p).fmt with
  | some f => if (s.capturing p).isEmpty then 0 else f.rate * f.bits * 125 / s.getP P.FR_RESERVE_RATIO 0
  | none => 0

/-- The rank 2 reservations follow the pipelines recorded: written, then drained (Table 1-12). -/
def State.recordBw (s : State) : State := (List.range 8).foldl (fun t p => t.bwSet 2 p (2 * s.recordRate p)) s

/-- The rank 1 and rank 2 reservations together keep within the limit (R42). -/
def State.recordBwOk (s : State) : Bool :=
  decide (s.bwAsked 1 + 2 * ((List.range 8).map fun p => s.recordRate p).sum ≤ s.bwLimit)

/-- Capture begins or resumes in a bin: a clip opens, and the runs of a suspension end in it (R296, R315). -/
def State.startCapture (b : Nat) (s : State) : State :=
  let s1 := s.openClip b
  match (s1.bin? b).bind Bin.openClip with
  | some c => (s1.endRuns b c.id fun _ => true).recordBw
  | none => s1

/-- A clip that holds gap records only, closed at once: for runs that end while nothing is captured. -/
def State.gapClip (b : Nat) (flags : Nat) (gaps : List GapRun) (s : State) : State :=
  if gaps.isEmpty then s
  else
    let s1 := s.openClip b
    match (s1.bin? b).bind Bin.openClip with
    | some c =>
      let s2 := s1.modClip b c.id fun k => { k with phase := 1, flags := flags }
      (gaps.foldl (fun t g => t.writeGap b c.id g) s2).finishClip b c.id
    | none => s1

/-- FR_BIN_ARM in force at a master period boundary: IDLE bins start, CAPTURING ones stop (Table 10-1). -/
def State.applyArm (b : Nat) (s : State) : State :=
  let arm := s.getP P.FR_BIN_ARM b == 1
  if s.binState b = 3 ∧ arm ∧ ((s.bin? b).any fun x => x.deleting.isNone) = true then
    let s1 := (s.discardImport b).setBinState b 4 0
    if s.captureHeld then s1 else s1.startCapture b
  else if s.binState b = 4 ∧ !arm then ((s.closeClip b (prevTag s.ring.tag)).setBinState b 3 0).recordBw
  else s

/-! ### The write buffer (R313, R316) -/

/-- The write buffer's space: the FERRIS carve-out less the Calliope delay lines in it. -/
def State.wbSpace (s : State) : Nat :=
  (s.getP P.MEM_CARVE_QUOTA 4 - ((s.dram.buffers.filter fun b => b.carve == 4).map fun b => b.bytes / 0x100000).sum) * 0x100000

/-- FR_WB_USED, MEM_CARVE_USED and WB_PRESSURE follow the use of the write buffer: 90 % up, 75 % down. -/
def State.wbReport (s : State) : State :=
  let used := s.wbUsed
  let mib := rdivN used 0x100000
  let s1 := (s.setP P.FR_WB_USED 0 mib).memReport
  let space := s.wbSpace
  if !s.fr.pressure && decide (space * 90 ≤ used * 100) && decide (0 < used) then
    State.post 0x76 0x0 0 (1 + at' 8 mib) { s1 with fr := { s1.fr with pressure := true } }
  else if s.fr.pressure && decide (used * 100 < space * 75) then
    State.post 0x76 0x0 0 (at' 8 mib) { s1 with fr := { s1.fr with pressure := false } }
  else s1

/-- The write buffer has `n` free bytes. -/
def State.wbFits (s : State) (n : Nat) : Bool :=
  decide (s.wbUsed + n ≤ s.wbSpace) && s.pagesFree (cdiv (s.wbUsed + n) pageBytes - cdiv s.wbUsed pageBytes)

/-- Where in carve-out 4's window a frame of `n` bytes is kept: first-fit above the delay lines' first GiB. -/
def State.wbPlace (s : State) (n : Nat) : Nat :=
  let l := (s.fr.wb.map fun f => (f.addr - carveWindow 4, f.size)).mergeSort fun a b => decide (a.1 ≤ b.1)
  (firstFit n l 0x40000000).getD 0x40000000 + carveWindow 4

/-- A frame enters the write buffer. -/
def State.wbAdd (f : WbFrame) (s : State) : State :=
  let g := { f with id := s.fr.nextId, addr := s.wbPlace f.size }
  State.wbReport (State.clearRange g.addr g.size { s with fr := { s.fr with wb := s.fr.wb ++ [g], nextId := s.fr.nextId + 1 } })

/-- A frame leaves the write buffer. -/
def State.wbDrop (id : Nat) (s : State) : State :=
  State.wbReport { s with fr := { s.fr with wb := s.fr.wb.filter fun f => f.id != id } }

/-- A frame in the write buffer is changed. -/
def State.wbMod (id : Nat) (f : WbFrame → WbFrame) (s : State) : State :=
  { s with fr := { s.fr with wb := s.fr.wb.map fun x => if x.id = id then f x else x } }

/-! ### Capture (R313 to R315) -/

/-- Blocks of a frame (R322). -/
def frameBlocks (f : Format) : Nat := cdiv f.height (max (blockLines f.bits f.width) 1)

/-- A frame's largest stored size (R313): every block at its raw size plus 31 bytes. -/
def largestStored (f : Format) : Nat :=
  let n := frameBlocks f
  (0x60 + 4 * n + f.embed * (4 + 32768) + (f.height * f.width * f.bits / 8 + 31 * n) + 63) / 64 * 64

/-- A frame of pipeline `p` is refused or discarded for a reason, in these bins. -/
def State.refuse (p reason tag number : Nat) (bins : List Nat) (s : State) : State :=
  if bins.isEmpty then s else (bins.foldl (fun t b => t.addRun b p reason tag number 1) s).gapFrames p 1

/-- A frame in the write buffer is given up for a reason: its bins count it, and the clips that waited for it close. -/
def State.wbRefuse (f : WbFrame) (reason : Nat) (s : State) : State :=
  let s1 := ((f.bins.foldl (fun t b => t.addRun b f.source reason f.tag f.number 1) s).gapFrames f.source (if f.bins.isEmpty then 0 else 1)).wbDrop f.id
  f.bins.foldl (fun t b => t.settleClips b) s1

/-- The credits of R314 are renewed each second, and FR_RATIO reports the second that ended. -/
def State.renewCredits (s : State) : State :=
  if s.now < s.fr.renewed + 1000000000 then s
  else
    let s1 := (List.range 8).foldl (fun t p =>
      t.setP P.FR_RATIO p (if s.fr.stored.getD p 0 = 0 then 0 else rdivN (s.fr.rawBytes.getD p 0 * 1000) (s.fr.stored.getD p 0))) s
    let left := s1.bwKept 2 / 2
    let cr := ((List.range 8).foldl (fun (a : List Nat × Nat) p =>
      let c := min (s1.recordRate p) a.2
      (a.1 ++ [c], a.2 - c)) ([], left)).1
    { s1 with fr := { s1.fr with credits := cr, renewed := s1.now, rawBytes := List.replicate 8 0, stored := List.replicate 8 0 } }

/-- A camera frame starts on pipeline `p` (R313, R314): space is reserved, or the frame is refused. -/
def State.captureStart (p : Nat) (f : Frame) (s : State) : State :=
  let s := (s.fr.wb.filter fun x => x.source == p && x.phase == 0).foldl (fun t x => t.wbRefuse x 0) s
  let bins := s.capturing p
  let susp := s.suspendedFor p
  let s1 := susp.foldl (fun t b => t.addRun b p 4 f.tag f.number 1) s
  if bins.isEmpty then s1.gapFrames p (if susp.isEmpty then 0 else 1)
  else
    let n := largestStored f.fmt
    if 0 < s1.getP P.BW_SHORTFALL 1 ∧ s1.fr.credits.getD p 0 * s1.getP P.FR_RESERVE_RATIO 0 < n * 1000 then s1.refuse p 1 f.tag f.number bins
    else if !s1.wbFits n then s1.refuse p 2 f.tag f.number bins
    else s1.wbAdd { id := 0, source := p, typ := 1, tag := f.tag, number := f.number, size := n, bins := bins }

/-- The FRAME record's body (Table 10-5) of a frame whose blocks are given. -/
def State.frameBody (s : State) (p : Nat) (f : Frame) (blocks : List (List Byte)) : List Byte :=
  let emb := f.embedded.flatMap fun e => leBytes e.length 4 ++ e
  let at0 := 0x60 + 4 * blocks.length + emb.length
  let base := (at0 + 15) / 16 * 16
  let offs := (blocks.foldl (fun (a : List Nat × Nat) b => (a.1 ++ [a.2], a.2 + b.length)) ([], base)).1
  leBytes f.number 4 ++ leBytes f.settings 1 ++ leBytes (b2n f.inferred) 1 ++ leBytes f.fmt.width 2 ++ leBytes f.fmt.height 2 ++ leBytes f.fmt.bits 1
    ++ leBytes f.fmt.cfa 1 ++ leBytes blocks.length 2 ++ leBytes f.embedded.length 2 ++ leBytes f.start 8
    ++ ((List.range 4).flatMap fun c => leBytes (s.getP (P.pl p P.BL_IN_FORCE) c) 2) ++ leBytes (s.getP (P.pl p P.TAP_PEDESTAL) 0) 2 ++ leBytes 0 0x1E
    ++ offs.flatMap (fun o => leBytes o 4) ++ emb ++ List.replicate (base - at0) 0 ++ blocks.flatten

/-- The tap's codes of a frame (R124). -/
def State.tapLines (s : State) (p : Nat) (f : Frame) : List (List Nat) :=
  (List.range f.fmt.height).map fun y => (List.range f.fmt.width).map fun x =>
    tapCode (s.rawCfg p) f.fmt.bits (channelOf f.fmt.cfa x y) ((f.codes y).getD x 0)

/-- A delivered camera frame ends (R313, R315): ZE*n* has coded it and its fence is issued; a damaged one is not stored. -/
def State.captureEnd (p : Nat) (f : Frame) (s : State) : State :=
  match s.fr.wb.find? fun x => x.source == p && x.phase == 0 with
  | none => s
  | some x =>
    if f.damaged then s.wbRefuse x 0
    else
      let bl := encodeBlocks f.fmt.bits f.fmt.cfa (max (blockLines f.fmt.bits f.fmt.width) 1) f.fmt.height (s.tapLines p f) {}
      let body := padBody (s.frameBody p f (bl.map Prod.fst))
      (s.bumpSat P.FR_RAW_BLOCKS p ((bl.filter fun b => b.2).length)).wbMod x.id fun w =>
        { w with phase := 1, body := body, raw := f.fmt.height * f.fmt.width * f.fmt.bits / 8 }

/-- The clip of a bin that takes a record of frame tag `tag`: the open one, or one whose periods are over and that holds the tag. -/
def Bin.clipFor (b : Bin) (tag : Nat) : Option Nat :=
  match b.clips.find? fun c => c.phase == 1 && tagIn tag c.first c.last with
  | some c => some c.id
  | none => b.openClip.map fun c => c.id

/-- A frame's fence completes in one bin: its source's runs end, and it is given its SEQ (R313, R315). -/
def State.storeIn (b : Nat) (f : WbFrame) (s : State) : State × Bool :=
  match (s.bin? b).bind fun x => x.clipFor f.tag with
  | none => (s, false)
  | some id =>
    let s1 := s.endRuns b id fun g => g.source == f.source
    let r := s1.binAppend b id { typ := f.typ, source := f.source, seq := 0, tag := f.tag, body := f.body, wb := f.id + 1 }
    if r.2 then r else (r.1.addRun b f.source 5 f.tag f.number 1, false)

/-- A frame that has been given its SEQ drains behind those that have theirs (R316). -/
def State.wbStored (id n : Nat) (bins : List Nat) (s : State) : State :=
  let (a, r) := s.fr.wb.partition fun x => x.id == id
  State.wbReport { s with fr := { s.fr with wb := r ++ a.map fun w => { w with phase := 2, size := n, bins := bins } } }

/-- A frame's fence completes: it is stored in its bins, the unused part of its reservation is released, and it drains (R313, R316). -/
def State.fenceDone (f : WbFrame) (s : State) : State :=
  let r := f.bins.foldl (fun (a : State × List Nat) b =>
    let q := a.1.storeIn b f
    (q.1, if q.2 then a.2 ++ [b] else a.2)) (s, [])
  let n := 0x20 + f.body.length
  let s1 := r.1.gapFrames f.source (if r.2.length < f.bins.length then 1 else 0)
  let s2 := if r.2.isEmpty then s1.wbDrop f.id else s1.wbStored f.id n r.2
  let s3 : State := if f.source < 8 then { s2 with fr := { s2.fr with
      credits := modAt (fun c => c - n) f.source s2.fr.credits
      rawBytes := modAt (· + f.raw) f.source s2.fr.rawBytes, stored := modAt (· + n) f.source s2.fr.stored } } else s2
  f.bins.foldl (fun t b => t.settleClips b) s3

/-- An audio record or a picture is stored at once; whether it was appended anywhere (R317, R365). -/
def State.storeNow (source typ tag number : Nat) (body : List Byte) (bins : List Nat) (s : State) : State × Bool :=
  if bins.isEmpty then (s, false)
  else
    let bd := padBody body
    let n := 0x20 + bd.length
    if !s.wbFits n then (bins.foldl (fun t b => t.addRun b source 2 tag number 1) s, false)
    else
      let s1 := s.wbAdd { id := 0, source := source, typ := typ, tag := tag, number := number, size := n, bins := bins, phase := 1, body := bd }
      match s1.fr.wb.getLast? with
      | some f => let t := s1.fenceDone f; (t, t.fr.wb.any fun g => g.id == f.id)
      | none => (s1, false)

/-- RECORD_FENCE_DONE (R313): the oldest frame of the pipeline that awaits its fence. -/
def execRecordFenceDone (pl : Nat) (s : State) : Result :=
  guarded (.recordFenceDone pl) s <|
    match s.fr.wb.find? fun f => f.source == pl && f.phase == 1 with
    | some f => s.fenceDone f
    | none => s

/-- RECORD_DEADLINE (R313, Table 1-10): the oldest frame of the pipeline whose fence has not completed is discarded. -/
def execRecordDeadline (pl : Nat) (s : State) : Result :=
  guarded (.recordDeadline pl) s <|
    match s.fr.wb.find? fun f => f.source == pl && f.phase == 1 with
    | some f => (s.wbRefuse f 3).deadlineDrop 3 0xF pl 1
    | none => s

/-- A record of a bin becomes fill: what the drain could not read is not stored (Table 9-4, Table 10-4). -/
def State.padRecord (b : Nat) (f : WbFrame) (s : State) : State :=
  let pad := fun (r : Rec) => if r.wb = f.id + 1 then { r with typ := 5, source := 255, body := List.replicate r.body.length 0, wb := 0 } else r
  (s.modBin b fun x => { x with clips := x.clips.map fun c => { c with recs := c.recs.map pad } }).addRun b f.source 7 f.tag f.number 1

/-- A frame is read from the write buffer and written to bins: fill where the read is poisoned (Table 9-4). -/
def State.drainInto (f : WbFrame) (bins : List Nat) (s : State) : State :=
  let s := s.demandRead f.addr f.size
  match s.firstPoison f.addr f.size with
  | some _ => (bins.foldl (fun t b => t.padRecord b f) s).gapFrames f.source 1
  | none =>
    let drained := fun (r : Rec) => if r.wb = f.id + 1 then { r with wb := 0 } else r
    bins.foldl (fun t b => t.modBin b fun x => { x with clips := x.clips.map fun c => { c with recs := c.recs.map drained } }) s

/-- The oldest draining frame has been written to every bin of its own (R316): its space is released. -/
def State.drainOne (s : State) : State :=
  match s.fr.wb.find? fun f => f.phase == 2 with
  | none => s
  | some (f : WbFrame) => (s.drainInto f f.bins).wbDrop f.id

/-- CHECKPOINT (R307): FR_CHECKPOINT_MS has elapsed. -/
def execCheckpoint (bin : Nat) (s : State) : Result :=
  guarded (.checkpoint bin) s <| match s.bin? bin with
    | some x =>
      if s.binState bin = 3 ∨ s.binState bin = 4 then (s.atLeast (x.ckptTime + s.getP P.FR_CHECKPOINT_MS 0 * 1000000)).writeCheckpoint bin else s
    | none => s

/-! ### Master periods -/

/-- A bin at a master period boundary: its clip closes when it has run its periods or CLIP_MARK was taken, and another opens (R309). -/
def State.clipPeriod (b : Nat) (s : State) : State :=
  if s.binState b = 4 ∧ !s.captureHeld then
    match (s.bin? b).bind fun x => x.openClip.map fun c => (x, c) with
    | some (x, c) =>
      let n := c.periods + 1
      if s.getP P.FR_CLIP_PERIODS b ≤ n ∨ x.mark then
        ((s.modClip b c.id fun k => { k with periods := n }).closeClip b (prevTag s.ring.tag)).openClip b
      else s.modClip b c.id fun k => { k with periods := n }
    | none => s
  else s

/-- The bins at a master period boundary; a new frame tag has begun, staged parameters are in force. -/
def State.recordPeriod (s : State) : State :=
  let s1 := s.binList.foldl (fun t b => ((t.clipPeriod b).applyArm b).trigReview b) s
  s1.recordBw.renewCredits

/-- A counted trigger edge at bin `b` (R311). -/
def State.binTrigger (b : Nat) (s : State) : State :=
  let t := s.getP P.TRIG_TIME 0
  if s.getP P.FR_TRIG_ENABLE b = 1 then
    let s1 := s.modBin b fun x => { x with trigs := x.trigs ++ [{ count := s.getP P.TRIG_COUNT 0
                                                                  lo := t - s.getP P.FR_TRIG_PRE_MS b * 1000000
                                                                  hi := t + s.getP P.FR_TRIG_POST_MS b * 1000000 }] }
    let ids := ((s1.bin? b).map fun x => (x.clips.filter fun c => c.phase == 2).map fun c => c.id).getD []
    (ids.foldl (fun u id => u.trigProtect b id) s1).trigReview b
  else s

/-- A counted trigger edge: every bin that acts on it. -/
def State.recordTrigger (s : State) : State := s.binList.foldl (fun t b => t.binTrigger b) s

/-! ### Suspension and recovery (R296, R318) -/

/-- The region of a bin leaves ONLINE: capture is suspended. On QUIESCING what is in the write buffer still drains; otherwise it is lost to
the bin (Table 9-8, R302). -/
def State.suspendBin (b : Nat) (drains : Bool) (s : State) : State :=
  let was := s.binState b
  let s1 := if was = 4 then (if drains then s.closeClip b s.ring.tag else s) else s
  let s2 := if was = 3 then s1.discardImport b else s1
  let s3 := if was = 5 ∨ was = 0 then s2 else s2.setBinState b 5 1
  let s4 := if drains then s3
    else
      let mine := s3.fr.wb.filter fun f => f.bins.contains b
      let t := mine.foldl (fun t f => if f.phase < 2 then (t.addRun b f.source 4 f.tag f.number 1).gapFrames f.source 1 else t) s3
      let t1 := mine.foldl (fun u f => u.wbMod f.id fun w => { w with bins := w.bins.filter (· != b) }) t
      (mine.filter fun f => f.bins == [b]).foldl (fun u f => u.wbDrop f.id) (t1.modBin b fun x => { x with recover := true })
  s4.recordBw

/-- The first record lost: not drained, or written after the last flush by a free number of records (R297, R302). -/
def Bin.lostFrom (b : Bin) (free : Nat) : Nat :=
  let recs := b.clips.flatMap fun c => c.recs
  let undrained := (recs.filter fun r => r.wb != 0).foldl (fun m r => min m r.seq) b.seq
  let n := undrained - b.durable
  if undrained ≤ b.durable then undrained else b.durable + free % (n + 1)

/-- The write position after the last record kept. -/
def Bin.position (b : Bin) : Nat × Nat :=
  match (b.clips.flatMap fun c => c.recs).getLast? with
  | some r => match r.pieces.getLast? with
    | some p => (p.1, p.2.1 + p.2.2)
    | none => (b.segs - 1, segBytes)
  | none => (b.segs - 1, segBytes)

/-- What recovery keeps of a bin (steps 1 to 3 of R318): the records before the first lost one; clips without any are gone. -/
def Bin.cut (b : Bin) (q : Nat) : Bin :=
  let cl := (b.clips.filter fun c => c.phase != 3).map fun c => { c with recs := c.recs.filter fun r => decide (r.seq < q) }
  let keep := (cl.filter fun c => !c.recs.isEmpty).map fun c => if c.phase = 2 ∧ (c.recs.any fun r => r.typ == 4) then c
    else { c with phase := 1, flags := setBit c.flags 2, last := (c.recs.getLast?.map fun r => r.tag).getD c.first, t1 := max c.t1 c.t0 }
  let y := { b with clips := keep, seq := q }
  { y with wseg := y.position.1, woff := y.position.2, nextClip := b.nextClip }

/-- The region of a bin is ONLINE again: an interrupted administration resumes, otherwise the bin is RECOVERING, with what its region has kept; on
a volatile region that is nothing (R318, R351). -/
def State.returnBin (b : Nat) (s : State) : State :=
  match s.bin? b with
  | none => s
  | some x =>
    if x.admin.isSome then
      let a := x.admin.getD { op := 1 }
      let volatile := !((SMap.get (fun _ => ({} : Region)) s.cxl.regions x.region).persistent)
      let pos := if volatile && x.recover then 0 else a.pos
      let s1 := s.setBin b (some { x with admin := some { a with pos := pos, resumed := a.resumed + 1 }, recover := false })
      (s1.setBinState b 1 1).post 0x79 0xA b (a.op + at' 16 pos)
    else
      let volatile := !((SMap.get (fun _ => ({} : Region)) s.cxl.regions x.region).persistent)
      let fr := s.fresh
      let empty := { x with clips := [], seq := 0, wseg := x.segs - 1, woff := segBytes, nextClip := max 1 (SMap.get (fun _ => 0) s.fr.volClip b) }
      let s1 := if !x.recover then s else if volatile then s.setBin b (some empty) else fr.2.setBin b (some (x.cut (x.lostFrom fr.1)))
      (s1.modBin b fun y => { y with recover := false }).setBinState b 2 1

/-- The region of a bin changes state: ONLINE 1, SUSPECT 2, QUIESCING 3, OFFLINE 4 (Table 10-1). -/
def State.binRegion (b st : Nat) (s : State) : State :=
  if st = 1 then (if s.binState b = 5 ∨ s.binState b = 0 then s.returnBin b else s)
  else s.suspendBin b (st == 3)

/-- The bin on a region. -/
def State.binOn (s : State) (r : Nat) : Option Nat := s.binList.find? fun b => (s.bin? b).any fun x => x.region == r

/-- The sources of a bin, as their codes. -/
def sourceCodes (m : Nat) : List Nat := (List.range 24).filterMap fun i => if m.testBit i then some (if i < 8 then i else i + 8) else none

/-- The gaps of reason POWER_LOSS that recovery writes, one for each source (step 4 of R318). -/
def Bin.lossGaps (b : Bin) (sources : Nat) : List GapRun :=
  let recs := b.clips.flatMap fun c => c.recs
  let tag := wrap32 ((recs.getLast?.map fun r => r.tag).getD 0 + 1)
  (sourceCodes sources).map fun q =>
    let number := if q < 8 then match (recs.filter fun r => r.typ == 1 && r.source == q).getLast? with
      | some r => wrap32 (r.field 0x20 4 + 1)
      | none => 0 else 0
    { source := q, reason := 6, count := 0xFFFFFFFF, tag := tag, number := number }

/-- BIN_RECOVERY (R318): a RECOVERING bin, cut at the first record lost, closes its open clip, and writes its gap records and a checkpoint. -/
def execBinRecovery (bin : Nat) (s : State) : Result :=
  guarded (.binRecovery bin) s <|
    match s.bin? bin with
    | none => s
    | some x =>
      if s.binState bin ≠ 2 then s
      else
        let open' := (x.clips.filter fun c => c.phase < 2).head?
        let sources := (open'.map fun c => c.sources).getD (s.getP P.FR_BIN_SOURCES bin)
        let gaps := x.lossGaps sources
        let s2 := (x.clips.filter fun c => c.phase == 1).foldl (fun t c => t.finishClip bin c.id) s
        let s3 := s2.setP P.FR_BIN_QUOTA bin x.quota
        let arm := s.getP P.FR_BIN_ARM bin == 1
        let s4 := if arm then
            let t := s3.setBinState bin 4 2
            if s.captureHeld then t
            else
              let u := t.startCapture bin
              match (u.bin? bin).bind Bin.openClip with
              | some c => gaps.foldl (fun v g => v.writeGap bin c.id g) u
              | none => u
          else ((s3.gapClip bin 4 (x.runs ++ gaps)).modBin bin fun b => { b with runs := [] }).setBinState bin 3 2
        (s4.writeCheckpoint bin).binReport bin

/-- The records of the persistent bins that have drained are durable (R297). -/
def State.binsDurable (s : State) : State :=
  s.binList.foldl (fun t b => t.modBin b fun x =>
    { x with durable := ((x.clips.flatMap fun c => c.recs).filter fun r => r.wb != 0).foldl (fun m r => min m r.seq) x.seq }) s

/-- Capture stops at step 2 of the entry to DARK: open clips close (Table 15-7). -/
def State.stopCapture (s : State) : State :=
  s.binList.foldl (fun t b => if t.binState b = 4 then t.closeClip b (prevTag t.ring.tag) else t) s

/-- Capture resumes when DARK has been left: each bin writes one gap record with reason SUSPENDED for each source (R435). -/
def State.resumeCapture (s : State) : State :=
  s.binList.foldl (fun t b =>
    if t.binState b = 4 then
      let from' := wrap32 ((((t.bin? b).bind fun x => x.clips.getLast?).map fun c => c.last).getD (prevTag t.ring.tag) + 1)
      let t1 := (sourceCodes (t.getP P.FR_BIN_SOURCES b)).foldl (fun u q =>
        u.addRun b q 4 from' (if q < 8 then wrap32 ((((u.pipe q).last).map fun f => f.number).getD 0 + 1) else 0)
          (if q < 8 then 0xFFFFFFFF else (t.ring.tag + 0x100000000 - from') % 0x100000000)) t
      t1.startCapture b
    else t) s

/-! ### Poison (R319) -/

/-- Where a piece of a bin stands: its device address. -/
def State.pieceAddr (s : State) (x : Bin) (p : Nat × Nat × Nat) : Nat := s.getP P.CXL_REGION_BASE x.region + segBytes * (p.1 + 1) + p.2.1

/-- The ranges of a record, as offset and length in it, that meet `n` bytes from device address `a`. -/
def State.recordMeets (s : State) (x : Bin) (r : Rec) (a n : Nat) : List (Nat × Nat) :=
  (r.pieces.foldl (fun (acc : List (Nat × Nat) × Nat) p =>
    let lo := s.pieceAddr x p
    let from' := max lo a
    let upto := min (lo + p.2.2) (a + n)
    (if from' < upto then acc.1 ++ [(acc.2 + (from' - lo), upto - from')] else acc.1, acc.2 + p.2.2)) ([], 0)).1

/-- A poison report for a range of a region marks the frames of its bin whose blocks meet it (R319). -/
def State.poisonReport (region a n : Nat) (s : State) : State :=
  match s.binOn region with
  | none => s
  | some b => match s.bin? b with
    | none => s
    | some x =>
      let hit := fun (r : Rec) => r.wb == 0 && !(s.recordMeets x r a n).isEmpty
      let marks := x.clips.filterMap fun c =>
        let k := (c.recs.filter fun r => hit r && r.typ == 1).length
        if (c.recs.any hit) then some (c.id, k) else none
      let mark := fun (c : Clip) =>
        if c.recs.any hit then
          { c with flags := if (c.recs.any fun r => hit r && r.typ == 1) then setBit c.flags 1 else c.flags
                   recs := c.recs.map fun r => if hit r then { r with poison := r.poison ++ s.recordMeets x r a n } else r }
        else c
      let y := { x with clips := x.clips.map mark }
      (marks.filter fun m => 0 < m.2).foldl (fun t m => t.post 0x77 0xA b (m.1 + at' 32 m.2)) (s.setBin b (some y))

/-! ### Wear rotation (R321) -/

/-- A segment's records move to another segment. -/
def Bin.moveSeg (b : Bin) (from' into : Nat) : Bin :=
  { b with passes := SMap.set (fun _ => 0) b.passes into (SMap.get (fun _ => 0) b.passes into + 1)
           clips := b.clips.map fun c => { c with recs := c.recs.map fun r =>
             { r with pieces := r.pieces.map fun p => if p.1 = from' then (into, p.2.1, p.2.2) else p } } }

/-- WEAR_MOVE (R321): a lagging pinned segment is copied to the free segment furthest ahead, or the header segments move to two free ones. -/
def execWearMove (bin : Nat) (s : State) : Result :=
  guarded (.wearMove bin) s <|
    match s.bin? bin with
    | none => s
    | some x =>
      if s.bgHeld 9 ∨ !(s.binState bin == 3 || s.binState bin == 4) then s
      else
        let pass := fun (g : Nat) => SMap.get (fun _ => 0) x.passes g
        let data := x.data
        let total := (data.map pass).sum
        let lag := s.getP P.FR_WEAR_LAG 0
        let ahead := (((List.range x.segs).map fun i => (x.wseg + x.segs - i) % x.segs).filter fun g =>
          g != x.hdrA && g != x.hdrB && g != x.wseg && !x.used g)
        match data.find? fun g => x.pinned g && decide ((pass g + lag) * data.length < total), ahead with
        | some g, t :: _ =>
          ((((s.setBin bin (some (x.moveSeg g t))).writeCheckpoint bin).post 0x74 0xA bin (g + at' 32 t)).binReport bin).taskDone 9
        | _, t :: u :: _ =>
          if total + 64 * lag * data.length < max (pass x.hdrA) (pass x.hdrB) * data.length then
            let y := { x with hdrA := t, hdrB := u, gen := x.gen + 1 }
            ((((s.setBin bin (some y)).writeCheckpoint bin).post 0x74 0xA bin (x.hdrA + at' 32 t + at' 64 1)).post 0x74 0xA bin
              (x.hdrB + at' 32 u + at' 64 1)).taskDone 9
          else s
        | _, _ => s

/-! ### Commands (R329) -/

def clipProtectSpec : OpSpec := { op := 0x0701, len := fun c => c.opLen == 12, rsvd := 0xFFFFFE00 }

/-- CLIP_PROTECT from its operands on (R310, R312). -/
def clipProtectBody : Body := fun k s =>
  let b := k.c.f 0 8
  let on := k.c.f 8 1 == 1
  let lo := k.c.f 32 32
  let hi := k.c.f 64 32
  if 64 ≤ b then (s, .err cBAD_PARAM)
  else match s.bin? b with
    | none => (s, .err cNOT_PERMITTED)
    | some x =>
      if s.binState b = 1 ∨ s.binState b = 2 then (s, .err cNOT_PERMITTED)
      else
        let last := fun (c : Clip) => if c.phase = 0 then s.ring.tag else c.last
        let hit := x.clips.filter fun c => c.phase != 3 && tagsMeet c.first (last c) lo hi && (c.isProtected != on)
        let gone := (x.shed.filter fun e => tagsMeet e.1 e.2 lo hi).length
        let ids := hit.map fun c => c.id
        if on && !x.mayProtect ids then (s, .err cQUOTA)
        else
          let mark := fun (c : Clip) => if ids.contains c.id then { c with flags := if on then setBit c.flags 0 else clrBit c.flags 0 } else c
          let y := { x with clips := x.clips.map mark }
          let s1 := s.setBin b (some y)
          let s2 := if ids.isEmpty then s1 else s1.writeCheckpoint b
          let s3 := if on then s2.binReport b else (s2.applyBinQuota b).binReport b
          (s3, .done cOK 8 (ids.length + at' 32 gone))

def execClipProtect (c : Cmd) (s : State) : Result := guarded (.clipProtect c) s (submit clipProtectSpec clipProtectBody c s)

def clipMarkSpec : OpSpec := { op := 0x0702, len := fun c => c.opLen == 1 }

/-- CLIP_MARK (R309, Table 10-8): the clip in progress closes at the next master period boundary. -/
def clipMarkBody : Body := fun k s =>
  let b := k.c.f 0 8
  if 64 ≤ b then (s, .err cBAD_PARAM)
  else match s.bin? b with
    | none => (s, .err cNOT_PERMITTED)
    | some x =>
      if s.binState b ≠ 4 then (s, .err cNOT_PERMITTED)
      else (s.modBin b fun y => { y with mark := true }, .done cOK 4 (wrap32 x.nextClip))

def execClipMark (c : Cmd) (s : State) : Result := guarded (.clipMark c) s (submit clipMarkSpec clipMarkBody c s)

end Sys2Proof.Machine
end

