-- ==== Sys2Proof/Machine/Audio.lean ====
section
/-! DEFINITION. Calliope: port states and framing, sample positions and alignment groups, delay lines, routes, fades, audio records, and the audio
commands (13). FS edges, which are TDM frame boundaries, are in Machine/Frames.lean. -/

namespace Sys2Proof.Machine

abbrev portDef : Nat → AudioPort := fun _ => {}

def State.port (s : State) (n : Nat) : AudioPort := SMap.get portDef s.au.ports n

def State.modPort (n : Nat) (f : AudioPort → AudioPort) (s : State) : State :=
  { s with au := { s.au with ports := SMap.set portDef s.au.ports n (f (s.port n)) } }

/-- A parameter of port `n`. -/
abbrev State.app (s : State) (n id : Nat) : Nat := s.getP (P.ap n id) 0

/-- AP_STATE (Table 13-2). -/
abbrev State.apState (s : State) (n : Nat) : Nat := s.app n P.AP_STATE

/-- The audio clock source of a port as a partner (Table 2-24). -/
abbrev clockId (n : Nat) : PartnerId := { kind := 6, pos := n }

/-- BCLK is present, and its source is not quarantined (R46). -/
def State.clockUsable (s : State) (n : Nat) : Bool := (s.port n).clock && !(s.partner (clockId n)).quarantined

/-- An event of a port (Table 13-6). -/
def State.postAp (typ n payload : Nat) (s : State) : State := s.post typ 0xC n payload

/-- A change of state posts AUDIO_STATE (R381). -/
def State.setApState (n new reason : Nat) (s : State) : State :=
  let old := s.apState n
  if old = new then s else (s.setP (P.ap n P.AP_STATE) 0 new).postAp 0x88 n (new + at' 8 old + at' 16 reason)

/-! ### Rates and lines (Table 13-1, R385, R386) -/

/-- Frames a second. -/
def audioRate (code : Nat) : Nat := if code = 0 then 44100 else if code = 1 then 48000 else if code = 2 then 96000 else 192000

/-- Slots of a frame. -/
def audioSlots (code : Nat) : Nat := if code = 3 then 8 else 16

/-- BCLK periods of a frame. -/
def audioFrameBits (code : Nat) : Nat := if code = 3 then 256 else 512

abbrev State.apHz (s : State) (n : Nat) : Nat := audioRate (s.app n P.AP_RATE)

/-- *F*, the fade length in positions (R386). -/
def State.fadeLen (s : State) (n : Nat) : Nat := cdiv (s.app n P.AP_FADE_US * s.apHz n) 1000000

/-- Positions of a delay line, and its bytes (R385). -/
def linePositions (code : Nat) : Nat := 4 * audioRate code + 4096

def lineBytes (code : Nat) : Nat := linePositions code * audioSlots code * 3

/-- Positions of a block. -/
abbrev blockLen : Nat := 32

/-- Where a sample stands in a port's line. -/
def State.sampleAddr (s : State) (n base p slot : Nat) : Nat :=
  base + ((p % linePositions (s.app n P.AP_RATE)) * audioSlots (s.app n P.AP_RATE) + slot) * 3

/-- A source block is valid: every frame of it was written, or every frame so far of the block in progress (R385). -/
def AudioPort.blockValid (x : AudioPort) (b : Nat) : Bool :=
  let w := SMap.get (fun _ => 0) x.written b
  !x.overrun.contains b && (w == blockLen || x.pos.any fun p => p / blockLen == b && w == p % blockLen + 1)

/-- A sample of a port's line, signed. -/
def State.lineSample (s : State) (n p slot : Nat) : Int := match (s.port n).line with
  | some base => signed 24 (ofLE (s.devRead (s.sampleAddr n base p slot) 3))
  | none => 0

/-! ### Envelopes (R387 to R389) -/

/-- The gain of an envelope at position `p`. -/
def Env.gain (e : Env) (p : Nat) : Nat × Nat :=
  let i := p - e.start
  if e.len ≤ i + 1 then (if e.mode = 1 then (1, 1) else (0, 1))
  else if e.mode = 1 then (e.g0.1 * e.len + (e.g0.2 - e.g0.1) * (i + 1), e.g0.2 * e.len)
  else (e.g0.1 * (e.len - 1 - i), e.g0.2 * e.len)

/-- The gain that a slot's envelopes give at position `p`. -/
def gainAt (l : List Env) (before : Nat × Nat) (p : Nat) : Nat × Nat := match l.find? fun e => decide (e.start ≤ p) with
  | some e => e.gain p
  | none => before

/-- A sample times its gain (R387). -/
def applyGain (x : Int) (g : Nat × Nat) : Int := clampI (-0x800000) 0x7FFFFF ((x * rdivN (65536 * g.1) g.2 + 0x8000) / 65536)

/-- A fade to silence begins at position `p`. -/
def OutSlot.fade (f p : Nat) (o : OutSlot) : OutSlot :=
  { o with env := ({ mode := 3, start := p, len := f, g0 := gainAt o.env (0, 1) p } :: o.env).take 4 }

/-- A ramp to full begins at position `p`. -/
def OutSlot.ramp (f p : Nat) (o : OutSlot) : OutSlot :=
  { o with env := ({ mode := 1, start := p, len := f, g0 := gainAt o.env (0, 1) p } :: o.env).take 4 }

/-- ENVELOPE of AUDIO_STATUS: 0 silent, 1 ramping up, 2 full, 3 fading, by the enabled slots. -/
def State.envelopeCode (s : State) (n : Nat) : Nat :=
  let x := s.port n
  match x.pos with
  | none => 0
  | some p =>
    let codes := x.out.filterMap fun o =>
      if o.on then (match o.env.find? fun e => decide (e.start ≤ p) with
        | some e => some (if e.len ≤ p - e.start + 1 then (if e.mode = 1 then 2 else 0) else e.mode)
        | none => some 0) else none
    if codes.contains 3 then 3 else if codes.contains 1 then 1 else if codes.contains 2 then 2 else 0

/-! ### Groups and routes (R382, R383, R386) -/

/-- Members of a group. -/
def State.groupPorts (s : State) (g : Nat) : List Nat := (List.range 16).filter fun n => (s.port n).group == some g

/-- The reference of a group: its lowest-numbered RUNNING port that has a position. -/
def State.reference (s : State) (g : Nat) : Option Nat := (s.groupPorts g).find? fun n => s.apState n == 4 && (s.port n).pos.isSome

/-- Both ports are in one alignment group. -/
def State.sameGroup (s : State) (a b : Nat) : Bool := (s.port a).group.isSome && (s.port a).group == (s.port b).group

/-- AP_GROUP follows the groups, and AUDIO_ROUTE tells of enabled slots whose route leaves or rejoins the group (R386). -/
def State.groupReview (s : State) : State :=
  let s1 := (List.range 16).foldl (init := s) fun t n =>
    t.setP (P.ap n P.AP_GROUP) 0 (match (t.port n).group with
      | some g => (t.groupPorts g).headD 255
      | none => 255)
  (List.range 16).foldl (init := s1) fun t n =>
    (List.range 16).foldl (init := t) fun u k =>
      let o := (u.port n).out.getD k {}
      let src := u.getP (P.ap n P.AP_ROUTE) k % 16
      let cut := u.apState n != 0 && (u.app n P.AP_OUT_MASK).testBit k && !u.sameGroup n src
      if cut == o.cut then u
      else
        let v := u.modPort n fun x => { x with out := modAt (fun o => { o with cut := cut }) k x.out }
        if cut || (u.app n P.AP_OUT_MASK).testBit k then v.postAp 0x8C n (k + at' 8 src + at' 16 (b2n cut)) else v

/-- A port leaves RUNNING or READY: it has no position and sends silence. -/
def AudioPort.unplaced (x : AudioPort) : AudioPort :=
  { x with pos := none, fetched := [], missing := [], judged := none, gone := true, out := x.out.map fun o => { o with env := [], switch := none, on := false } }

/-- A port leaves its alignment group. -/
def State.leaveGroup (n : Nat) (s : State) : State := s.modPort n fun x => { x.unplaced with group := none, zero := false }

/-- The state of a port that is enabled and has its line, by its clock. -/
def State.apStart (n reason : Nat) (s : State) : State :=
  (s.modPort n fun x => { x.unplaced with edges := 0, missed := 0 }).setApState n (if s.clockUsable n then 2 else 1) reason

/-- The delay line of an enabled port is allocated, or the port enters NO_MEMORY (R385). -/
def State.apAllocate (n reason : Nat) (s : State) : State :=
  match s.allocBuffer 4 (lineBytes (s.app n P.AP_RATE)) (.delay n) with
  | (_, .fail _) => s.setApState n 6 5
  | (t, .base a) => (t.modPort n fun x => { x with line := some a, written := [], overrun := [] }).apStart n reason

/-- AP_ENABLE, AP_RATE or AP_FORMAT takes effect (R385, R389): the port leaves its group, and starts afresh or is DISABLED. -/
def State.apRestart (n : Nat) (line : Bool) (s : State) : State :=
  let s1 := s.leaveGroup n
  if s1.app n P.AP_ENABLE = 0 then
    (((s1.freeOwned (.delay n)).modPort n fun x => { x with line := none, written := [], overrun := [] }).setApState n 0 0).groupReview
  else if line || (s1.port n).line.isNone then
    (((s1.freeOwned (.delay n)).modPort n fun x => { x with line := none }).apAllocate n 0).groupReview
  else (s1.apStart n 3).groupReview

/-- The output slots' masks, routes and delays take effect (R389): at a frame boundary of a RUNNING port by ramps and fades, else at once. -/
def State.apOutputs (n : Nat) (s : State) : State :=
  let f := s.fadeLen n
  let mask := s.app n P.AP_OUT_MASK
  let one := fun (pos : Option Nat) (gone : Bool) (o : OutSlot) (k : Nat) =>
    let want := mask.testBit k
    let r := s.getP (P.ap n P.AP_ROUTE) k
    let d := s.app n P.AP_DELAY
    match pos with
    | none => { o with on := want, route := r, delay := d, env := [], switch := none }
    | some p =>
      if !want then (if o.on then { o.fade f p with on := false } else o)
      else if !o.on then
        let o1 := { o with on := true, route := r, delay := d, switch := none }
        if gone then o1 else o1.ramp f p
      else if o.route = r ∧ o.delay = d then { o with switch := none }
      else if o.switch.isSome then o
      else
        let o1 := o.fade f p
        let o2 := if gone then o1 else o1.ramp f (p + f)
        { o2 with switch := some (p + f) }
  (s.modPort n fun x => { x with out := (x.out.zipIdx).map fun e => one x.pos x.gone e.1 e.2 }).groupReview

/-- AP_IN_MASK takes effect (R389): slots handed to recording ramp in and out. -/
def State.apInputs (n old : Nat) (s : State) : State :=
  let f := s.fadeLen n
  let new := s.app n P.AP_IN_MASK
  let one := fun (p : Nat) (e : List Env × Nat) =>
    if old.testBit e.2 == new.testBit e.2 then e.1
    else
      let g := if e.1.isEmpty then (if old.testBit e.2 then (1, 1) else (0, 1)) else gainAt e.1 (1, 1) p
      (({ mode := if new.testBit e.2 then 1 else 3, start := p, len := f, g0 := g } : Env) :: e.1).take 4
  s.modPort n fun x => match x.pos with
    | none => { x with inEnv := List.replicate 16 [] }
    | some p => { x with inEnv := x.inEnv.zipIdx.map (one p) }

/-! ### Clock, framing and rate (R379, R380) -/

/-- AUDIO_CLOCK_DETECT (R380): the audio clock source arrives; an enabled port starts syncing. -/
def execAudioClockDetect (port : Nat) (s : State) : Result :=
  guarded (.audioClockDetect port) s <|
    if (s.port port).clock then s
    else
      let s1 := (s.modPort port fun x => { x with clock := true, edges := 0, missed := 0 }).partnerArrives (clockId port) (srcOf 0xC port) 0
      if s1.apState port = 1 ∧ s1.clockUsable port = true then s1.setApState port 2 2 else s1

/-- AUDIO_CLOCK_LOST (R380): the audio clock source departs; the port stays in its group. -/
def execAudioClockLost (port : Nat) (s : State) : Result :=
  guarded (.audioClockLost port) s <|
    if !(s.port port).clock then s
    else
      let st := s.apState port
      let s1 := s.modPort port fun x => { x with clock := false }
      let s2 := if st = 2 ∨ st = 3 ∨ st = 4 ∨ st = 5 then (s1.modPort port AudioPort.unplaced).setApState port 1 1 else s1
      s2.partnerDeparts (clockId port)

/-- AUDIO_RATE_MEASURE (R380): the FS rate over 100 ms, in millionths of Hz. -/
def execAudioRateMeasure (port rate : Nat) (s : State) : Result :=
  guarded (.audioRateMeasure port rate) s <|
    let st := s.apState port
    if st ≠ 3 ∧ st ≠ 4 ∧ st ≠ 5 then s
    else
      let nom := s.apHz port * 1000000
      let err := ((rate : Int) - nom)
      let s1 := s.setP (P.ap port P.AP_RATE_ERR) 0 (unsigned 32 (rdiv (err * 100000000) nom))
      if nom < err.natAbs * 1000 then (s1.modPort port AudioPort.unplaced).setApState port 5 4
      else if st = 5 then s1.setApState port 3 4 else s1

/-! ### Positions (R382, R383) -/

/-- The position of the frame of port `n` that begins at tick `t`, if it has one, and the reference it was taken from. -/
def State.positionAt (s : State) (n t : Nat) : Option (Nat × Option Nat) :=
  let x := s.port n
  if x.zero then some (0, none)
  else match x.group with
    | none => none
    | some g =>
      match s.reference g, x.pos with
      | some k, own =>
        if k = n then own.map fun p => (p + 1, none)
        else
          let r := s.port k
          r.pos.map fun p => ((p : Int) + rdiv (((t : Int) - r.posTime) * s.apHz n) 1000000000 |>.toNat, some k)
      | none, _ =>
        let l := SMap.get (fun _ => (0, 0)) s.au.lastPos g
        let err := signed 32 (s.app n P.AP_RATE_ERR)
        some (((l.1 : Int) + rdiv (((t : Int) - l.2) * s.apHz n * (100000000 + err)) 100000000000000000).toNat, none)

/-- A frame of a RUNNING port is written into its line, unless an input FIFO overrun lost it (R385). -/
def State.writeFrame (n p : Nat) (samples : List Nat) (overrun repeated : Bool) (s : State) : State :=
  let x := s.port n
  let code := s.app n P.AP_RATE
  let b := p / blockLen
  let keep := linePositions code / blockLen
  match x.line with
  | none => s
  | some base =>
    if overrun then s.modPort n fun y => { y with overrun := (b :: y.overrun).filter fun i => decide (b < i + keep) }
    else
      let l := (List.range (audioSlots code)).flatMap fun k => leBytes (samples.getD k 0) 3
      let s1 := s.devWrite (s.sampleAddr n base p 0) l 32
      if repeated then s1
      else s1.modPort n fun y => { y with
        overrun := if p % blockLen = 0 then y.overrun.filter fun i => i != b else y.overrun
        written := (SMap.set (fun _ => 0) y.written b (if p % blockLen = 0 then 1 else SMap.get (fun _ => 0) y.written b + 1)).filter fun e =>
          decide (b < e.1 + keep) }

/-- An output slot's 24 bits at position `q` (R378, R386 to R388): 0x1000000 stands for high impedance. -/
def State.outSample (s : State) (n k : Nat) : Nat :=
  let x := s.port n
  let o := x.out.getD k {}
  let idle := if (s.app n P.AP_FORMAT).testBit 3 then 0x1000000 else 0
  let held := s.captureHeld || s.apState n == 0
  match x.pos with
  | none => if (s.app n P.AP_OUT_MASK).testBit k && !held then 0 else idle
  | some q =>
    let g := gainAt o.env (0, 1) q
    if held ∨ (!o.on ∧ g.1 = 0) then idle
    else if o.cut || x.missing.contains (q / blockLen) || q < o.delay then 0
    else unsigned 24 (applyGain (s.lineSample (o.route % 16) (q - o.delay) (o.route / 16)) g)

/-- A frame leaves on SDO; a slot whose fade has ended takes its new source first. -/
def State.sendFrame (n : Nat) (s : State) : State :=
  let x := s.port n
  let turn := fun (q : Nat) (e : OutSlot × Nat) =>
    if e.1.switch.any fun a => decide (a ≤ q) then
      { e.1 with route := s.getP (P.ap n P.AP_ROUTE) e.2, delay := s.app n P.AP_DELAY, switch := none }
    else e.1
  let s1 := match x.pos with
    | none => s
    | some q => s.modPort n fun y => { y with out := y.out.zipIdx.map (turn q) }
  s1.emit (.audio n ((List.range (audioSlots (s.app n P.AP_RATE))).map fun k => s1.outSample n k))

/-- A frame of a framed port begins at tick `t`, by an accepted FS edge or by flywheel (R379, R383 to R388). -/
def State.audioFrame (n t : Nat) (edge : Bool) (reason : Nat) (samples : List Nat) (overrun : Bool) (s : State) : State :=
  let st := s.apState n
  let x := s.port n
  if (st ≠ 3 ∧ st ≠ 4) ∨ s.captureHeld ∨ (x.zero ∧ !edge) then (s.modPort n fun y => { y with posTime := t }).sendFrame n
  else match s.positionAt n t with
    | none => (s.modPort n fun y => { y with posTime := t }).sendFrame n
    | some (p, src) =>
      let first := x.pos.isNone || x.zero
      let repeated := x.pos == some p && !x.zero
      let s1 := s.modPort n fun y => { (if first then y.unplaced else y) with pos := some p, posTime := t, zero := false }
      let s2 := if edge then (s1.setP (P.ap n P.AP_POSITION) 0 p).setP (P.ap n P.AP_POS_TIME) 0 t else s1
      let s3 := if st = 4 then s2 else s2.setApState n 4 reason
      let s4 := if first then s3.apOutputs n else s3
      let s5 := match src, x.pos with
        | some k, some o =>
          if x.zero ∨ p = o + 1 then s4
          else (s4.bumpSat (P.ap n P.AP_SLIPS) 0 1).postAp 0x8B n (k + at' 8 (b2n (decide (p ≤ o))) + at' 16 p)
        | _, _ => s4
      let s6 := match (s5.port n).group with
        | some g => if s5.reference g = some n then { s5 with au := { s5.au with lastPos := SMap.set (fun _ => (0, 0)) s5.au.lastPos g (p, t) } } else s5
        | none => s5
      (s6.writeFrame n p samples overrun repeated).sendFrame n

/-- FS_FLYWHEEL (R379): the expected edge is missing; after 8 frames in a row the port returns to SYNCING. -/
def execFsFlywheel (port : Nat) (samples : List Nat) (s : State) : Result :=
  guarded (.fsFlywheel port samples) s <|
    let st := s.apState port
    let x := s.port port
    if st = 2 then s.modPort port fun y => { y with edges := 0 }
    else if st ≠ 3 ∧ st ≠ 4 ∧ st ≠ 5 then s
    else
      let t := x.posTime + rdivN 1000000000 (s.apHz port)
      let s1 := (s.atLeast t).modPort port fun y => { y with bclk := y.bclk + audioFrameBits (s.app port P.AP_RATE), missed := y.missed + 1 }
      let s2 := s1.audioFrame port t false 3 samples false
      if 8 ≤ x.missed + 1 then (s2.modPort port fun y => { y.unplaced with edges := 0, missed := 0 }).setApState port 2 3 else s2

/-- An FS edge at BCLK count `bclk` (R379): accepted, or ignored and counted; `apply` is what a TDM frame boundary applies. -/
def State.fsEdge (n t bclk : Nat) (samples : List Nat) (overrun : Bool) (apply : State → State) (s : State) : State :=
  let st := s.apState n
  let x := s.port n
  let s := s.atLeast t
  let due := x.bclk + audioFrameBits (s.app n P.AP_RATE)
  if st = 2 then
    if x.edges = 0 then s.modPort n fun y => { y with edges := 1, bclk := bclk, posTime := t }
    else if bclk ≠ due then s.bumpSat (P.ap n P.AP_FRAMING_ERRORS) 0 1
    else
      let s1 := s.modPort n fun y => { y with edges := y.edges + 1, bclk := bclk, posTime := t, missed := 0 }
      if x.edges + 1 < 3 then s1
      else
        let s2 := apply s1
        if s2.apState n ≠ 2 ∨ (s2.port n).edges < 3 then s2
        else if (s2.port n).group.isNone ∨ s2.captureHeld then (s2.setApState n 3 3).audioFrame n t true 3 samples overrun
        else
          match s2.positionAt n t with
          | none => (s2.setApState n 3 3).audioFrame n t true 3 samples overrun
          | some _ => (s2.setApState n 4 3).audioFrame n t true 3 samples overrun
  else if st = 3 ∨ st = 4 ∨ st = 5 then
    if bclk ≠ due then s.bumpSat (P.ap n P.AP_FRAMING_ERRORS) 0 1
    else
      let s1 := apply (s.modPort n fun y => { y with bclk := bclk, missed := 0 })
      if s1.apState n = st then s1.audioFrame n t true 3 samples overrun else s1
  else s

/-! ### Output blocks (R387, R388) -/

/-- A block of a port lacks data: an enabled slot's source block is invalid or reads poisoned. -/
def State.blockLacks (s : State) (n b : Nat) : Bool :=
  let x := s.port n
  x.out.any fun o => o.on && !o.cut &&
    (let k := o.route % 16
     let p0 := b * blockLen
     decide (p0 < o.delay) ||
      (let lo := p0 - o.delay
       let hi := lo + blockLen - 1
       !(s.port k).blockValid (lo / blockLen) || !(s.port k).blockValid (hi / blockLen) ||
        match (s.port k).line with
        | some base => (List.range blockLen).any fun i => (s.firstPoison (s.sampleAddr k base (lo + i) (o.route / 16)) 3).isSome
        | none => true))

/-- The reads of a block's sources in the delay lines meet decayed granules (R284). -/
def State.readBlock (n b : Nat) (s : State) : State :=
  if s.dram.flaws.isEmpty then s
  else (s.port n).out.foldl (init := s) fun t o => match (s.port (o.route % 16)).line with
    | some base => (List.range blockLen).foldl (fun u i => u.demandRead (u.sampleAddr (o.route % 16) base (b * blockLen - o.delay + i) (o.route / 16)) 3) t
    | none => t

/-- Block `b` lies within *F* + 64 positions of the output, and has not gone by (R387). -/
def State.blockNear (s : State) (n b : Nat) : Bool :=
  (s.port n).pos.any fun q => decide (b * blockLen ≤ q + s.fadeLen n + 64 ∧ q < (b + 1) * blockLen)

/-- The output is about to reach the output time of block `b`, *F* positions before it, or has passed it, and the block has not been judged yet (R387). -/
def State.blockDue (s : State) (n b : Nat) : Bool :=
  (s.port n).pos.any (fun q => decide (b * blockLen ≤ q + 1 + s.fadeLen n)) && !(s.port n).judged.any fun j => decide (b ≤ j)

/-- AUDIO_BLOCK_FETCH (R387): a block comes within *F* + 64 positions of the output. -/
def execAudioBlockFetch (port block : Nat) (late : Bool) (s : State) : Result :=
  guarded (.audioBlockFetch port block late) s <|
    if s.apState port ≠ 4 ∨ s.blockNear port block = false then s
    else
      let s := s.readBlock port block
      let bad := late || s.blockLacks port block
      s.modPort port fun x => { x with
        fetched := block :: x.fetched.filter fun b => decide (block < b + 2000)
        missing := (if bad then [block] else []) ++ x.missing.filter fun b => b != block && decide (block < b + 2000) }

/-- The missing block is one whose source an input FIFO overrun spoilt. -/
def State.blockOverrun (s : State) (n b : Nat) : Bool :=
  (s.port n).out.any fun o => o.on && (s.port (o.route % 16)).overrun.any fun i =>
    decide (i * blockLen < b * blockLen + blockLen - o.delay ∧ b * blockLen - o.delay < (i + 1) * blockLen)

/-- AUDIO_BLOCK_DEADLINE (R388): at a block's output time a missing block starts a fade, and the next that is not missing a ramp. -/
def execAudioBlockDeadline (port block : Nat) (s : State) : Result :=
  guarded (.audioBlockDeadline port block) s <|
    if s.apState port ≠ 4 ∨ s.blockDue port block = false then s
    else
      let s := s.modPort port fun y => { y with judged := some block }
      let x := s.port port
      let f := s.fadeLen port
      let m := block * blockLen
      let each := fun (g : OutSlot → OutSlot) (y : AudioPort) => { y with out := y.out.map fun (o : OutSlot) => if o.on then g o else o }
      if x.missing.contains block || !x.fetched.contains block then
        let s1 := s.modPort port fun y => { y with lost := y.lost + 1, missing := if y.missing.contains block then y.missing else block :: y.missing }
        if x.gone then s1
        else
          let s2 := s1.modPort port fun y => { each (OutSlot.fade f (m - f)) y with gone := true }
          (s2.bumpSat (P.ap port P.AP_FADES) 0 1).postAp 0x89 port (b2n (s.blockOverrun port block) + at' 16 m)
      else if x.gone then
        (s.modPort port fun y => { each (OutSlot.ramp f m) y with gone := false }).postAp 0x89 port (2 + at' 16 m)
      else s

/-! ### Common start, boundary positions, records (R382, R384, R390) -/

/-- The boundary position of port `n` at a boundary at tick `b`: the first position whose FS timestamp is at or after it. A member that is not
RUNNING takes its reference's. -/
def State.boundaryPosition (s : State) (n b : Nat) : Option Nat :=
  let x := s.port n
  let own := fun (y : AudioPort) => y.pos.map fun p => if b ≤ y.posTime then p else p + 1
  if x.zero then some 0
  else if s.apState n = 4 then own x
  else match x.group.bind fun g => s.reference g with
    | some k => own (s.port k)
    | none => none

/-- A slot's sample of an audio record at position `p`, and whether it counts as silent (R390). -/
def State.recordSample (s : State) (n p k : Nat) : Int × Bool :=
  let x := s.port n
  if !x.blockValid (p / blockLen) then (0, true)
  else
    let l := x.inEnv.getD k []
    let v := applyGain (s.lineSample n p k) (gainAt l (1, 1) p)
    (v, v == 0 && l.any fun e => e.mode == 1 && decide (e.start ≤ p ∧ p < e.start + e.len))

/-- The body of an AUDIO record for positions from `a`, or of a port without a position (Table 10-5, R390). -/
def State.audioBody (s : State) (n mask : Nat) (range : Option (Nat × Nat)) : List Byte :=
  let slots := (List.range 16).filter fun k => mask.testBit k
  let ps := match range with
    | some (a, b) => (List.range (b - a)).map fun i => a + i
    | none => []
  let rows := ps.map fun p => slots.map fun k => s.recordSample n p k
  let silent := (rows.filter fun r => r.any Prod.snd).length
  leBytes (s.app n P.AP_RATE) 1 ++ leBytes slots.length 1 ++ leBytes mask 2 ++ leBytes ps.length 4
    ++ leBytes (match range with | some (a, _) => a | none => 0xFFFFFFFFFFFFFFFF) 8 ++ leBytes silent 4 ++ leBytes 0 12
    ++ rows.flatMap fun r => r.flatMap fun e => leBytes (unsigned 24 e.1) 3

/-- At a master period boundary: each recorded port's AUDIO record of the period of tag `tag`, which ends; a bin whose capture is suspended counts the
period (R296, R317, R390). -/
def State.audioRecords (tag b : Nat) (s : State) : State :=
  (List.range 16).foldl (init := s) fun t n =>
    let bins := t.capturing (16 + n)
    let t := (t.suspendedFor (16 + n)).foldl (fun u b => u.addRun b (16 + n) 4 tag 0 1) t
    if bins.isEmpty then t
    else
      let x := t.port n
      let range := match x.boundary, t.boundaryPosition n b with
        | some a, some z => if a ≤ z then some (a, z) else none
        | _, _ => none
      (t.storeNow (16 + n) 3 tag 0 (t.audioBody n x.recMask range) bins).1

/-- A common start at tick `t0` (R382): the ports named leave their groups and form one; the reply carries T0. -/
def State.commonStart (t0 : Nat) (a : AudioStart) (s : State) : State :=
  let g := s.au.groups + 1
  let ports := (List.range 16).filter fun n => a.mask.testBit n && s.apState n != 0
  let s1 : State := { s with au := { s.au with
    groups := g, starts := s.au.starts.filter (· != a), lastPos := SMap.set (fun _ => (0, 0)) s.au.lastPos g (0, t0) } }
  let s2 := ports.foldl (init := s1) fun t n =>
    let framed := t.apState n == 3 || t.apState n == 4
    let t1 := t.modPort n fun x => { x.unplaced with group := some g, zero := framed, written := [], overrun := [] }
    if t.apState n = 4 then t1.setApState n 3 6 else t1
  let first := ((List.range 16).filter fun n => a.mask.testBit n).headD 0
  ((s2.groupReview).postAp 0x8A first (a.mask + at' 32 t0)).finalReply a.ticket cOK 8 t0

/-- At a master period boundary at tick `b`, with tag `s.ring.tag` begun: common starts, retries of lines, boundary positions, missing blocks of
the period that ended (R382, R384, R385, R388). -/
def State.audioPeriod (b : Nat) (s : State) : State :=
  let s1 := (s.au.starts.filter fun a => a.mode == 0 && a.tag == s.ring.tag).foldl (fun t a => t.commonStart b a) s
  (List.range 16).foldl (init := s1) fun t n =>
    let t1 := if (t.port n).lost = 0 then t else (t.deadlineDrop 6 0xC n (t.port n).lost).modPort n fun x => { x with lost := 0 }
    let t2 := if t1.apState n = 6 then (t1.apAllocate n 5) else t1
    let bp := t2.boundaryPosition n b
    t2.modPort n fun x => { x with boundary := bp, boundaryTag := s.ring.tag, recMask := t2.app n P.AP_IN_MASK % 0x10000 }

/-- A counted trigger edge at tick `t`: the common starts that wait for it (R382). -/
def State.audioTrigger (t : Nat) (s : State) : State := (s.au.starts.filter fun a => a.mode == 1).foldl (fun u a => u.commonStart t a) s

/-- Step 2 of the entry to DARK: Calliope ports enter READY (Table 15-7). -/
def State.audioDark (s : State) : State :=
  (List.range 16).foldl (fun t n => if t.apState n = 4 then (t.modPort n AudioPort.unplaced).setApState n 3 3 else t) s

/-- The value rules of R386 and Table 13-7 for port `n` on values `s`. -/
def State.audioOk (s : State) (n : Nat) : Bool :=
  let code := s.app n P.AP_RATE
  let wide := decide (code < 3)
  (wide || decide (s.app n P.AP_IN_MASK < 256 ∧ s.app n P.AP_OUT_MASK < 256))
    && decide (s.fadeLen n + 128 ≤ s.app n P.AP_DELAY ∧ s.app n P.AP_DELAY ≤ 4 * audioRate code)

/-- R386's rule on one route: the source's rate is the same, and it has the slot. -/
def State.routeOk (s : State) (n v : Nat) : Bool :=
  s.app (v % 16) P.AP_RATE == s.app n P.AP_RATE && decide (v / 16 < audioSlots (s.app (v % 16) P.AP_RATE))

/-! ### Commands (R382, R391, R392) -/

abbrev cPORT_UNUSABLE : Nat := 0x68

def audioStartSpec : OpSpec := { op := 0x0901, len := fun c => c.opLen == 8, rsvd := 0xFFFE0000 }

/-- AUDIO_START from step 7 on (R382). -/
def audioStartBody : Body := fun k s =>
  let mask := k.c.f 0 16
  let mode := k.c.f 16 1
  let tag := k.c.f 32 32
  let ports := (List.range 16).filter fun n => mask.testBit n
  let ahead := (tag + 0x100000000 - s.ring.tag) % 0x100000000
  if mask = 0 ∨ ports.any fun n => s.app n P.AP_RATE != s.app (ports.headD 0) P.AP_RATE then (s, .err cBAD_PARAM)
  else if ports.any fun n => s.apState n == 0 || s.apState n == 5 || s.apState n == 6 then (s, .err cPORT_UNUSABLE)
  else if mode = 0 ∧ (ahead = 0 ∨ 0x80000000 ≤ ahead ∨ s.ring.next - s.now * 65536 + (ahead - 1) * s.ring.period < 2 * s.ring.period) then (s, .err cLATE)
  else if s.au.starts.any fun a => a.mask &&& mask != 0 then (s, .err cBUSY)
  else
    let im := k.c.immediate
    let s1 : State := { s with au := { s.au with
      starts := s.au.starts ++ [{ mask := mask, mode := mode, tag := if mode = 0 then tag else 0, ticket := if im then 0 else k.tk }] } }
    let s2 : State := if mode = 1 ∧ s1.getP P.TRIG_ARM 0 = 0 then
        State.setP { s1 with ring := { s1.ring with armedAt := s.now } } P.TRIG_ARM 0 1 else s1
    (s2, if im then .ok else .wait)

/-- AUDIO_START. -/
def execAudioStart (c : Cmd) (s : State) : Result := guarded (.audioStart c) s (submit audioStartSpec audioStartBody c s)

def audioStatusSpec : OpSpec := .fixed 0x0902 1

/-- AUDIO_STATUS from step 7 on (Table 13-5). -/
def audioStatusBody : Body := fun k s =>
  let n := k.c.f 0 8
  if 16 ≤ n then (s, .err cBAD_PARAM)
  else
    let x := s.port n
    let ref := ((x.group.bind fun g => s.reference g).getD 255)
    (s, .done cOK 40 (s.apState n + at' 8 (s.app n P.AP_GROUP) + at' 16 ref + at' 24 (s.envelopeCode n) + at' 32 x.boundaryTag
      + at' 64 (x.boundary.getD 0) + at' 128 (s.app n P.AP_POSITION) + at' 192 (s.app n P.AP_POS_TIME) + at' 256 (s.app n P.AP_RATE_ERR)))

/-- AUDIO_STATUS. -/
def execAudioStatus (c : Cmd) (s : State) : Result := guarded (.audioStatus c) s (submit audioStatusSpec audioStatusBody c s)

end Sys2Proof.Machine
end

