-- ==== Sys2Proof/Machine/LaneStates.lean ====
section
/-! DEFINITION. Lanes as the links above them see them: groups and loop ends, roles, the direction states of Tables 8-6 and 15-5, and
what Trapeze needs of the camera link and of Midway (R240, R256, R257, R265 to R267). -/

namespace Sys2Proof.Machine

abbrev loopDef : Nat → Loop := fun _ => {}

def State.loop (s : State) (l : Nat) : Loop := SMap.get loopDef s.mw.loops l

def State.modLoop (l : Nat) (f : Loop → Loop) (s : State) : State :=
  { s with mw := { s.mw with loops := SMap.set loopDef s.mw.loops l (f (s.loop l)) } }

abbrev tileDef : Nat → Tile := fun _ => {}

/-- The tile at a loop's hop. -/
abbrev tileKey (l hop : Nat) : Nat := l * 32 + hop - 1

def State.tile (s : State) (l hop : Nat) : Tile := SMap.get tileDef s.mw.tiles (tileKey l hop)

/-- An end of a loop: 0 A, 1 B. -/
def Loop.side (x : Loop) (e : Nat) : LoopEnd := if e = 0 then x.a else x.b

def Loop.withSide (e : Nat) (f : LoopEnd → LoopEnd) (x : Loop) : Loop := if e = 0 then { x with a := f x.a } else { x with b := f x.b }

def State.modEnd (l e : Nat) (f : LoopEnd → LoopEnd) (s : State) : State := s.modLoop l (Loop.withSide e f)

/-- A loop's parameter of its port group (R239). -/
abbrev mwLoop (l id : Nat) : Nat := P.mw (l / 32) id

/-- The end of a paired loop that this device has: its FEEDER's, or the other while it yields to the timing primary (R236). -/
def State.feeder (s : State) (l : Nat) : Nat := if (s.loop l).yields then 1 - s.dirFeeder l else s.dirFeeder l

/-- This device has end `e` of the loop (Table 7-1). -/
def State.ownsEnd (s : State) (l e : Nat) : Bool :=
  match s.dirMode l with
  | 1 => e == 0
  | 2 => true
  | 3 => e == s.feeder l
  | _ => false

/-- The tile port of an end. -/
def State.endPort (s : State) (l e : Nat) : Nat := if s.dirMode l = 2 ∧ e = 1 then 2 * l + 1 else 2 * l

/-- The end that a tile port serves, if a loop mode uses the port. -/
def State.portEnd (s : State) (port : Nat) : Option Nat :=
  let l := port / 2
  match s.dirMode l with
  | 1 => if port % 2 = 0 then some 0 else none
  | 2 => some (port % 2)
  | 3 => if port % 2 = 0 then some (s.feeder l) else none
  | _ => none

/-- CG_STATE (Table 3-7). -/
abbrev State.camState (s : State) (g : Nat) : Nat := s.getP (P.cg g P.CG_STATE) 0

/-- The widest of 16, 8, 4, 2 and 1 lanes, up to the head's width, whose logical lanes are all good, LSP standing in for one (R104). -/
def CamGroup.width (x : CamGroup) : Nat :=
  ([16, 8, 4, 2, 1].find? fun w => decide (w ≤ x.headWidth) &&
    (popcount x.badLanes w == 0 || (popcount x.badLanes w == 1 && x.lspSeen))).getD x.headWidth

/-! ### Lanes and groups (R240) -/

abbrev laneDef : Nat → Lane := fun _ => {}
abbrev laneGroupDef : Nat → LaneGroup := fun _ => {}

def State.lane (s : State) (k : Nat) : Lane := SMap.get laneDef s.ln.lanes k

def State.modLane (k : Nat) (f : Lane → Lane) (s : State) : State :=
  { s with ln := { s.ln with lanes := SMap.set laneDef s.ln.lanes k (f (s.lane k)) } }

def State.laneGroup (s : State) (g : Nat) : LaneGroup := SMap.get laneGroupDef s.ln.groups g

def State.modLaneGroup (g : Nat) (f : LaneGroup → LaneGroup) (s : State) : State :=
  { s with ln := { s.ln with groups := SMap.set laneGroupDef s.ln.groups g (f (s.laneGroup g)) } }

/-- The lane group of a lane (Table 8-1). -/
def laneGroupOf (k : Nat) : Nat := if k < 1024 then k / 64 else if k < 1160 then 16 + (k - 1024) / 17 else 24 + (k - 1160) / 2

/-- The lanes of a group (Table 8-1). -/
def groupLanes (g : Nat) : List Nat :=
  if g < 16 then (List.range 64).map (64 * g + ·) else if g < 24 then (List.range 17).map (1024 + 17 * (g - 16) + ·)
  else [1160 + 2 * (g - 24), 1161 + 2 * (g - 24)]

/-- The edge die of a group (Table 8-1). -/
def groupDie (g : Nat) : Nat := if g < 16 then g / 4 else if g < 24 then (g - 16) / 2 else g - 24

/-- The source of a lane's events, and of a group's (R273). -/
def laneSource (k : Nat) : Nat × Nat := if k < 1024 then (0x6, k) else if k < 1160 then (0x2, (k - 1024) / 17) else (0x8, k - 1160)
def groupSource (g : Nat) : Nat × Nat := if g < 16 then (0x6, 64 * g) else if g < 24 then (0x2, g - 16) else (0x8, 2 * (g - 24))

/-- The camera group and physical lane, 16 for LSP, of a camera lane. -/
abbrev laneCam (k : Nat) : Nat × Nat := ((k - 1024) / 17, (k - 1024) % 17)

/-- The logical lane that a camera group's physical lane carries: 16 for the one that the head names LSP (R86), while it is free, 255 for none. A lane
whose logical lane is on LSP carries none. -/
def State.logicalLane (s : State) (g l : Nat) : Nat :=
  let map := s.getP (P.cg g P.CG_SPARE_MAP) 0
  let n := SMap.get (fun _ => 31) (s.group g).lanes l
  if n = 16 then (if map = 255 then 16 else map) else if n < 16 ∧ n ≠ map then n else 255

/-- The physical lane that the head drives as logical lane `l`, 16 for LSP. -/
def CamGroup.physOf (x : CamGroup) (l : Nat) : Nat := (firstBelow (fun i => SMap.get (fun _ => 31) x.lanes i == l) 17).getD x.lsp

/-- An end of a loop that watches and does not feed. -/
def State.watchEnd (s : State) (l e : Nat) : Bool :=
  let x := s.loop l
  (s.dirMode l == 2 || s.dirMode l == 3) && (x.side e).reach == 0 && !(x.side e).starting && (e == 1 || (x.side (1 - e)).reach != 0)

/-- ROLE (Table 8-13). -/
def State.laneRole (s : State) (k : Nat) : Nat :=
  if k < 1024 then
    match s.portEnd k with
    | none => 0
    | some e => if s.watchEnd (k / 2) e then 2 else 1
  else if k < 1160 then
    if s.camState (laneCam k).1 = 0 then 0
    else if (laneCam k).2 = (s.group (laneCam k).1).lsp then 4 else 3
  else if s.mw.link.enabled && s.mw.link.mask.testBit (k - 1160) then 5 else 0

/-- A lane is in use (R269). -/
def State.laneInUse (s : State) (k : Nat) : Bool :=
  if k < 1024 then s.dirMode (k / 2) != 0
  else if k < 1160 then s.getP (P.cg (laneCam k).1 P.CG_ENABLE) 0 == 1
  else s.mw.link.enabled

/-- The lane delivers symbols to its protocol: it is LOCKED, and what arrives during its own measurement is discarded (R242, R263). -/
def State.hears (s : State) (k : Nat) : Bool := (s.lane k).lock == 3 && !(s.lane k).measuring

/-- Every logical lane of a camera group is delivered: its own lane, or LSP in its place, delivers (R86, R242). -/
def State.groupHears (s : State) (g : Nat) : Bool :=
  let x := s.group g
  let map := s.getP (P.cg g P.CG_SPARE_MAP) 0
  (List.range (max x.width 1)).all fun l => s.hears (1024 + 17 * g + (if l = map then x.lsp else x.physOf l))

/-- Every lane of the partner link's mask delivers. -/
def State.linkHears (s : State) : Bool := (List.range 8).all fun i => !s.mw.link.mask.testBit i || s.hears (1160 + i)

/-- The direction states in service, transmit and receive (Tables 8-6 and 15-5); a watch port sleeps once its link is trained. -/
def State.laneWanted (s : State) (k : Nat) : Nat × Nat :=
  let dark := s.pw.step == .sleeping || (s.powerState == 2 && s.pw.step != .exiting)
  if s.ctl.boot = .off ∨ s.ctl.boot = .auxOnly ∨ s.ctl.boot = .training then (1, 1)
  else if k < 1024 then
    if dark then (1, 1)
    else match s.portEnd k with
      | none => (1, 1)
      | some e => if s.watchEnd (k / 2) e && ((s.loop (k / 2)).side e).trained then (2, 3) else (3, 3)
  else if k < 1160 then
    let g := (laneCam k).1
    let map := s.getP (P.cg g P.CG_SPARE_MAP) 0
    let n := SMap.get (fun _ => 31) (s.group g).lanes (laneCam k).2
    let zero := n = 0 ∨ n = 16 ∧ map = 0
    let st := s.camState g
    if dark then (if s.logicalLane g (laneCam k).2 = 0 then (3, 2) else (1, 1))
    else if st = 0 then (1, 1)
    else if st = 1 then (3, 2)
    else if st < 5 then (3, 3)
    else if zero then (3, 3)
    else if n = 16 ∨ n < (s.group g).width then (1, 3)
    else (1, 1)
  else if s.laneRole k = 5 then (3, 3) else (1, 1)

/-- An ALIGN leaves a tile port, with its ASEQ (R211). -/
def State.sendAlign (port d1 : Nat) (s : State) : State :=
  let q := SMap.get (fun _ => 0) s.mw.aseq port
  let s1 : State := { s with mw := { s.mw with aseq := SMap.set (fun _ => 0) s.mw.aseq port ((q + 1) % 256) } }
  s1.emit (.tileSet port 5 d1 q (255 - q))

/-- The lane takes at once a state that holds less than the one it is in, a tile port after an ALIGN with SLEEP = 1 (R257); a state that holds
more waits for its wake-up (LANE_WAKE_DONE). A receiver that is not ON has no symbol lock, and one in DEEP holds nothing adapted (R251, R256). A lane
taken into use drops its pattern (R269). -/
def State.settleLane (k : Nat) (s : State) : State :=
  let w := s.laneWanted k
  let x := s.lane k
  let s1 := if k < 1024 ∧ w.1 < x.tx ∧ x.tx = 3 then s.sendAlign k 0x40 else s
  let used := s.laneInUse k
  let rx := min x.rx w.2
  s1.modLane k fun y => { y with tx := min y.tx w.1, rx := rx, adapted := y.adapted && rx != 1
                                 lock := if rx < 3 then 0 else y.lock, commas := if rx < 3 then 0 else y.commas, errs := if rx < 3 then 0 else y.errs
                                 gen := if used then 0 else y.gen, chk := if used then 0 else y.chk, loopback := if used then 0 else y.loopback }

def State.settleLanes (l : List Nat) (s : State) : State := l.foldl (fun t k => t.settleLane k) s

/-! ### Calibration windows, as the links above meet them (R261, R262) -/

/-- Control traffic leaves now, or when the window that ends at `t` does. -/
def State.emitAfter (t : Nat) (x : Tx) (s : State) : State := s.emit (if s.now < t then .later t x else x)

/-- The end of the partner quiet window in progress, 2 to 18 µs after a master period boundary whose frame tag is a multiple of 4 (Table 8-8). -/
def State.quietEnd (s : State) : Option Nat :=
  let b := s.ring.boundary / subTick
  if s.ring.tag % 4 = 0 ∧ b + 2000 ≤ s.now ∧ s.now < b + 18000 then some (b + 18000) else none

/-! ### Trapeze, as the camera link and Midway meet it (R265 to R267) -/

/-- CAL_DEFERRED (Table 8-14). -/
def State.calDeferred (g reason : Nat) (s : State) : State := s.post 0x62 (groupSource g).1 (groupSource g).2 (g + at' 8 reason)

/-- TRAPEZE (Table 8-14). -/
def State.postTrapeze (k : Nat) (off otherEnd : Bool) (tag : Nat) (s : State) : State :=
  s.post 0x63 (laneSource k).1 (laneSource k).2 (k + at' 16 (b2n off) + at' 17 (b2n otherEnd) + at' 24 tag)

/-- Lanes of a run still to be applied are given the window method. -/
def State.toWindows (g : Nat) (p : Nat → Bool) (s : State) : State :=
  s.modLaneGroup g fun x => { x with run := x.run.map fun r => { r with todo := r.todo.map fun c => if p c.lane && c.method == 0 then { c with method := 1 } else c } }

/-- Trapeze on a camera group ends for the run; the lanes left are calibrated in windows. -/
def State.stopCamTrapeze (g : Nat) (s : State) : State :=
  (groupLanes (16 + g)).foldl (fun t k => t.modLane k fun y => { y with measuring := false })
    ((s.modLaneGroup (16 + g) fun x => { x with trapStep := 0 }).toWindows (16 + g) fun _ => true)

/-- A Trapeze handover of a loop has taken effect (Table 8-10, steps 2 and 4). -/
def State.trapMoved (l : Nat) (s : State) : State :=
  let x := s.loop l
  if x.trap = 2 then
    ((s.postTrapeze x.trapPort true true s.ring.tag).modLoop l fun y => { y with trap := 3 }).modLane x.trapPort fun y => { y with measuring := true }
  else if x.trap = 4 then (s.postTrapeze x.trapPort false true s.ring.tag).modLoop l fun y => { y with trap := 5 }
  else s

/-- A Trapeze handover of a loop has been abandoned or refused: its ports complete in windows (R266). -/
def State.trapAbandoned (l : Nat) (s : State) : State :=
  let x := s.loop l
  if x.trap = 2 ∨ x.trap = 4 then
    let g := l / 32
    ((s.modLoop l fun y => { y with trap := 0 }).toWindows g fun k => k / 2 == l).calDeferred g 2
  else s

/-- A break or alarm of the loop: a port under measurement resumes with its old corrections (R267). -/
def State.trapBroken (l : Nat) (s : State) : State :=
  let x := s.loop l
  if x.trap = 0 then s
  else (((s.modLoop l fun y => { y with trap := 0 }).toWindows (l / 32) fun k => k / 2 == l).modLane (2 * l) fun y => { y with measuring := false }).modLane (2 * l + 1)
    fun y => { y with measuring := false }

end Sys2Proof.Machine
end

