-- ==== Sys2Proof/Machine/Camera.lean ====
section
/-! DEFINITION. Camera groups: training, identification, probes, TSYNC, the return channel, lane and head loss, sensor announcement, binding
commands (03). Frames are in Machine/Frames.lean. -/

namespace Sys2Proof.Machine

/-! ### Packet headers (R90 to R92), shared by the camera link and Midway -/

/-- Byte `i` of a header or payload. -/
def byteAt (l : List Byte) (i : Nat) : Nat := (l.getD i 0).toNat

/-- The `n`-byte field at offset `o`. -/
def fieldAt (l : List Byte) (o n : Nat) : Nat := ofLE ((l.drop o).take n)

abbrev hdrVc (h : List Byte) : Nat := byteAt h 0 / 4 % 4
abbrev hdrLen (h : List Byte) : Nat := fieldAt h 2 2
abbrev hdrAux (h : List Byte) : Nat := fieldAt h 4 2
abbrev hdrFlags (h : List Byte) : Nat := byteAt h 6

/-- HCRC matches (R92). -/
def hdrCrcOk (h : List Byte) : Bool := crc8 (h.take 7) == byteAt h 7

/-- A packet header (Table 3-2), with its HCRC. -/
def mkHdr (typ vc seq len aux flags : Nat) : List Byte :=
  let h := leBytes (typ * 16 + vc * 4) 1 ++ leBytes seq 1 ++ leBytes len 2 ++ leBytes aux 2 ++ leBytes flags 1
  h ++ leBytes (crc8 h) 1

/-- A packet's payload with the 4 CRC bytes that follow it (R92); nothing follows an empty payload. -/
def withCrc (l : List Byte) : List Byte := if l.isEmpty then l else l ++ leBytes (crc32c l) 4

/-! ### Groups -/

/-- `s` with group `g` changed by `f`. -/
def State.modGroup (g : Nat) (f : CamGroup → CamGroup) (s : State) : State := s.setGroup g (f (s.group g))

/-- `s` with sensor `k` changed by `f`. -/
def State.modSensor (k : Nat) (f : Sensor → Sensor) (s : State) : State := s.setSensor k (f (s.sensor k))

/-- `s` with pipeline `p` changed by `f`. -/
def State.modPipe (p : Nat) (f : Pipe → Pipe) (s : State) : State := s.setPipe p (f (s.pipe p))

/-- A capability bit of the head present (Table 3-5): 0 ECHO, 1 GENLOCK, 2 SPARE, 3 EMBEDDED. -/
def CamGroup.cap (x : CamGroup) (i : Nat) : Bool := match x.head with
  | some h => h.caps.testBit i
  | none => false

/-- An event of a camera group or its sensors, with the tag stamped on the group's newest frame (R77). -/
def State.postCam (typ cls idx payload g : Nat) (s : State) : State :=
  s.postTagged typ cls idx payload ((s.group g).lastTag.getD s.ring.tag)

/-- The width code of a head's width (Table 3-1). -/
def widthCode (w : Nat) : Nat := if w = 16 then 4 else if w = 8 then 3 else if w = 4 then 2 else if w = 2 then 1 else 0

/-- The device's own ALIGN column in DETECT to IDENTIFY, on the transmit direction of all 17 lanes (R87, R103): D1 names the lane that the head names there,
31 while none is known, or on LSP asks for lane 0 (R102); D3 has the width code and TRAINING. -/
def State.sendAligns (g : Nat) (s : State) : State :=
  let x := s.group g
  let d1 := fun (l : Nat) => if x.askSpare = some 0 ∧ l = x.lsp then 0x80 else SMap.get (fun _ => 31) x.lanes l
  let d3 := widthCode x.headWidth * 32 + 16 * b2n (!x.trained)
  let s1 := (List.range 17).foldl (fun t l => t.emit (.lane (1024 + 17 * g + l) 5 (d1 l) x.aseqTx d3)) s
  s1.modGroup g fun y => { y with aseqTx := (y.aseqTx + 1) % 256 }

/-- The head's arrival needs ACTIVE for 10 ms on end (R105): a group that leaves it before has shown none. -/
def State.dropArrival (g : Nat) (s : State) : State :=
  let p : PartnerId := { kind := 0, pos := g }
  if (s.partner p).reported then s else s.setPartner p { s.partner p with present := false }

/-- The group enters a state of Table 3-7, posting GROUP_STATE; CG_WIDTH is 0 outside ACTIVE (R102, R115). Nothing is posted where the state stays. -/
def State.enterGroup (g new reason : Nat) (s : State) : State :=
  let old := s.camState g
  let w := if new = 5 then (s.group g).width else 0
  let s1 := if old = new then s
    else (((s.setP (P.cg g P.CG_STATE) 0 new).setP (P.cg g P.CG_WIDTH) 0 w).postCam 0x40 0x2 g
      (new + at' 8 old + at' 16 reason + at' 24 w) g).settleLanes (groupLanes (16 + g))
  let s2 := if old = 5 ∧ new ≠ 5 then s1.dropArrival g else s1
  if 1 ≤ new ∧ new ≤ 4 then s2.sendAligns g else s2

/-- What training has learnt is forgotten; `keepBad` keeps the lanes known bad for a retrain (R104). -/
def State.resetTraining (g : Nat) (keepBad : Bool) (s : State) : State :=
  let s1 := s.modGroup g fun x => { x with
    lanes := [], alignedRun := 0, trained := false, askSpare := none, pendingMap := none, discovers := 0, probes := [], probesDone := 0
    echoes := [], lostRun := 0, identified := false, missed := 0, mirror := none
    lspSeen := keepBad && x.lspSeen, badLanes := if keepBad then x.badLanes else 0, headWidth := if keepBad then x.headWidth else 0 }
  s1.setP (P.cg g P.CG_SPARE_MAP) 0 255

/-- The group returns to DETECT for a reason of Table 3-12. -/
def State.toDetect (g reason : Nat) (s : State) : State := (s.resetTraining g false).enterGroup g 1 reason

/-- A packet leaves on the return lane, after a calibration window (R261): SEQ counts by direction and VC (R90). -/
def State.sendReturn (g typ vc aux : Nat) (payload : List Byte) (s : State) : State :=
  let q := SMap.get (fun _ => 0) (s.group g).retSeq vc
  let s1 := s.modGroup g fun x => { x with retSeq := SMap.set (fun _ => 0) x.retSeq vc ((q + 1) % 256) }
  s1.emitAfter (s.laneGroup (16 + g)).winEnd (.camPkt g (mkHdr typ vc q payload.length aux 0) (withCrc payload))

/-- DISCOVER (R102). -/
def State.sendDiscover (g : Nat) (s : State) : State :=
  (s.modGroup g fun x => { x with discovers := x.discovers + 1 }).sendReturn g 0x9 0 0 []

/-- LANE_MAP for a logical lane, 2 ALIGNs ahead of the current one (R101). -/
def State.sendLaneMap (g lane : Nat) (s : State) : State :=
  let a := ((s.group g).lastAseq + 2) % 256
  (s.modGroup g fun x => { x with pendingMap := some (lane, a) }).sendReturn g 0xD 0 0 (leBytes (lane + at' 8 a) 4)

/-! ### Partners on the link (R105, R47) -/

abbrev headId (g : Nat) : PartnerId := { kind := 0, pos := g }
abbrev sensorId (k : Nat) : PartnerId := { kind := 1, pos := k }

/-- A sensor departs (R105): its frame in progress is not resumed, and its pipeline waits. -/
def State.sensorDeparts (k : Nat) (s : State) : State :=
  if (s.sensor k).present then
    let s1 := (s.partnerDeparts (sensorId k)).modSensor k fun x => { x with present := false, openFrame := .none, lastNumber := none, exposed := [], next := none, settings := 0 }
    match s1.boundPipe k with
    | some p => (s1.modPipe p fun x => { x with cur := none }).setPlState p 1
    | none => s1
  else s

/-- The head departs, and its sensors with it (R105). -/
def State.headDeparts (g : Nat) (s : State) : State :=
  let s1 := (List.range 4).foldl (fun t vc => t.sensorDeparts (4 * g + vc)) s
  ((s1.partnerDeparts (headId g)).modGroup g fun x => { x with head := none }).setP (P.cg g P.CG_HEAD_SERIAL) 0 0

/-- ACTIVE is entered: the head arrives unless it is present already (R102, R105). -/
def State.groupActive (g : Nat) (s : State) : State :=
  let s1 := s.enterGroup g 5 0
  if (s1.partner (headId g)).present then s1
  else match (s1.group g).head with
    | some h => s1.partnerArrives (headId g) (srcOf 0x2 g) h.serial
    | none => s1

/-! ### Training (R102 to R104) -/

/-- CG_SIGNAL_DETECT (R102). -/
def execCgSignalDetect (g lane : Nat) (s : State) : Result :=
  guarded (.cgSignalDetect g lane) s (if s.camState g = 1 then s.enterGroup g 2 0 else s)

/-- CG_TRAIN_TIMEOUT (R102): in LOCK, DESKEW and IDENTIFY. -/
def execCgTrainTimeout (g : Nat) (s : State) : Result :=
  guarded (.cgTrainTimeout g) s (if 2 ≤ s.camState g ∧ s.camState g ≤ 4 then s.toDetect g 1 else s)

/-- The lane that LSP mirrors in an ALIGN column, if it mirrors one. -/
def columnMirror (sets : List AlignSet) : Option Nat := (sets.find? fun a => a.d1.testBit 7).map fun a => a.d1 % 32

/-- The physical lanes' ALIGNs are read: LANE, the width code, which lane is LSP, and what it mirrors (Table 3-1, R86). -/
def readAligns (sets : List AlignSet) (x : CamGroup) : CamGroup :=
  sets.foldl (init := { x with mirror := columnMirror sets }) fun x a =>
    let spare := a.d1.testBit 7 || a.d1 % 32 == 16
    { x with
      headWidth := if a.d3 / 32 ≤ 4 then 2 ^ (a.d3 / 32) else x.headWidth
      lastAseq := a.d2
      lspSeen := x.lspSeen || spare
      lsp := if spare then a.lane else x.lsp
      lanes := SMap.set (fun _ => 31) x.lanes a.lane (if spare then 16 else a.d1 % 32) }

/-- How many physical lanes name logical lane `l`. -/
def CamGroup.named (x : CamGroup) (l : Nat) : Nat := (x.lanes.filter fun e => e.2 == l).length

/-- The logical lanes below *W* that no physical lane names. -/
def CamGroup.missing (x : CamGroup) : List Nat := (List.range x.width).filter fun l => x.named l == 0

/-- Each logical lane appears exactly once (R86). -/
def CamGroup.unique (x : CamGroup) : Bool := (List.range x.width).all fun l => decide (x.named l ≤ 1)

/-- An ALIGN column in LOCK (R102): a missing lane 0 is asked for on LSP, and DESKEW entered once LSP mirrors it. -/
def State.alignLock (g : Nat) (sets : List AlignSet) (s : State) : State :=
  let s1 := s.modGroup g (readAligns sets)
  let x := s1.group g
  if x.width = 0 ∨ !x.unique then s1
  else match x.missing with
    | [] => s1.enterGroup g 3 0
    | [m] =>
      if !x.lspSeen then s1
      else if m = 0 ∧ x.mirror ≠ some 0 then s1.modGroup g fun y => { y with askSpare := some 0 }
      else s1.enterGroup g 3 0
    | _ => s1

/-- The lanes that carry logical lanes or the substituted lane in a column, and whether all show the same ASEQ. -/
def alignedColumn (x : CamGroup) (sets : List AlignSet) : Bool :=
  let used := sets.filter fun a => decide (a.d1 % 32 < x.width)
  match used with
  | [] => false
  | a :: r => r.all (fun b => b.d2 == a.d2) && (List.range x.width).all fun l =>
      used.any (fun b => b.d1 % 32 == l) || x.missing == [l]

/-- IDENTIFY is entered: a missing lane other than 0 is placed on LSP, then DISCOVER is sent (R102, R104). -/
def State.toIdentify (g : Nat) (s : State) : State :=
  let s1 := s.enterGroup g 4 0
  let s2 := match (s1.group g).missing with
    | m :: _ => if m = 0 then s1 else s1.sendLaneMap g m
    | [] => s1
  s2.sendDiscover g

/-- Logical lane 0 is read from LSP from the first ALIGN of DESKEW in which LSP mirrors it (R102). -/
def State.spareZero (g : Nat) (s : State) : State :=
  let x := s.group g
  if x.missing = [0] ∧ x.mirror = some 0 ∧ s.getP (P.cg g P.CG_SPARE_MAP) 0 = 255 then
    ((s.modGroup g fun y => { y with askSpare := none }).setP (P.cg g P.CG_SPARE_MAP) 0 0).postCam 0x41 0x2 g (at' 8 x.lastAseq) g
  else s

/-- An ALIGN column in DESKEW (R102). -/
def State.alignDeskew (g : Nat) (sets : List AlignSet) (s : State) : State :=
  let s1 := (s.modGroup g (readAligns sets)).spareZero g
  let x := s1.group g
  if alignedColumn x sets then
    if x.trained && sets.all (fun a => !a.d3.testBit 4) then s1.toIdentify g
    else s1.modGroup g fun y => { y with alignedRun := y.alignedRun + 1, trained := y.trained || decide (4 ≤ y.alignedRun + 1) }
  else s1.modGroup g fun y => { y with alignedRun := 0 }

/-- A lane of an ACTIVE group is lost (R104): spared with LANE_MAP, or the group retrains. A lane whose LANE_MAP is on its way is lost already; a lane that
LSP carries is lost with LSP. A loss takes precedence over Trapeze: the lane being calibrated stays on LSP, where it is or will be; for another lane one
LANE_MAP moves it there (R267). -/
def State.camLaneLost (g lane : Nat) (s : State) : State :=
  let map := s.getP (P.cg g P.CG_SPARE_MAP) 0
  let x := s.group g
  let lg := s.laneGroup (16 + g)
  let pend := x.pendingMap.map Prod.fst
  if s.camState g ≠ 5 ∨ (x.width ≤ lane ∧ lane ≠ 16) then s
  else
    let s1 := s.modGroup g fun y => if lane = 16 then { y with lspSeen := false } else { y with badLanes := setBit y.badLanes lane }
    if lane ≠ 16 ∧ lg.trapStep ≠ 0 ∧ lg.trapLane ≠ 16 then
      let s2 := s1.stopCamTrapeze g
      if lane = lg.trapLane ∧ (pend = some lane ∨ (map = lane ∧ pend ≠ some 255)) then s2 else s2.sendLaneMap g lane
    else if lane ≠ 16 ∧ pend = some lane then s1
    else if lane = 16 ∧ map = 255 ∧ pend = none then s1
    else if lane ≠ 16 ∧ map = 255 ∧ pend = none ∧ x.lspSeen = true ∧ x.cap 2 = true then s1.sendLaneMap g lane
    else
      let s2 := if lane = map then s1.modGroup g fun y => { y with lspSeen := false } else s1
      (s2.resetTraining g true).enterGroup g 2 3

/-- An ALIGN column in IDENTIFY or ACTIVE: a lane map applies at its ASEQ, and a logical lane that misses 2 columns in a row is lost. A lane that Trapeze
has moved to LSP is measured from the next ALIGN on, if LSP shows that it mirrors the lane (Table 8-9; DESIGN CHOICE, log 151: if not, it goes back). -/
def State.alignActive (g : Nat) (sets : List AlignSet) (s : State) : State :=
  match sets with
  | [] => s
  | a :: _ =>
    let s1 := s.modGroup g fun x => { x with lastAseq := a.d2, mirror := columnMirror sets, lspSeen := x.lspSeen || sets.any fun b => b.d1 % 32 == 16 || b.d1.testBit 7 }
    let x := s1.group g
    let s2 := match x.pendingMap with
      | some (l, q) =>
        if (a.d2 + 256 - q) % 256 < 128 then
          let s2 := ((s1.modGroup g fun x => { x with pendingMap := none }).setP (P.cg g P.CG_SPARE_MAP) 0 l).settleLanes (groupLanes (16 + g))
          let lg := s2.laneGroup (16 + g)
          let phys := 1024 + 17 * g + x.physOf lg.trapLane
          let tag := ((s2.group g).lastTag.getD s2.ring.tag)
          if lg.trapStep = 1 ∧ l = lg.trapLane then
            if columnMirror sets = some l then (s2.modLaneGroup (16 + g) fun y => { y with trapStep := 6 }).postTrapeze phys true false tag
            else (s2.stopCamTrapeze g).sendLaneMap g 255
          else if lg.trapStep = 4 ∧ l = 255 then (s2.modLaneGroup (16 + g) fun y => { y with trapStep := 5 }).postTrapeze phys false false tag
          else s2.postCam 0x41 0x2 g (l + at' 8 q) g
        else s1
      | none =>
        if (s1.laneGroup (16 + g)).trapStep = 6 then
          (s1.modLaneGroup (16 + g) fun y => { y with trapStep := 2 }).modLane (1024 + 17 * g + x.physOf (s1.laneGroup (16 + g)).trapLane) fun y =>
            { y with measuring := true }
        else s1
    let x := s2.group g
    let now := (List.range x.width).foldl (fun m l => if sets.any fun b => b.d1 % 32 == l then m else setBit m l) 0
    let s3 := s2.modGroup g fun y => { y with missed := now }
    (List.range x.width).foldl (fun t l => if now.testBit l && x.missed.testBit l && !x.badLanes.testBit l then t.camLaneLost g l else t) s3

/-- An ALIGN column of a group (R102 to R104), which during training the device's own follows. -/
def State.alignColumn (g : Nat) (sets : List AlignSet) (s : State) : State :=
  let st := s.camState g
  let t := if st = 2 then s.alignLock g sets else if st = 3 then s.alignDeskew g sets else if st = 4 ∨ st = 5 then s.alignActive g sets else s
  if 2 ≤ st ∧ st ≤ 4 ∧ t.camState g = st then t.sendAligns g else t

/-- DISCOVER_RETRY (R102): at most 3 DISCOVERs. DESIGN CHOICE (log 145): the return to DETECT has reason 1. -/
def execDiscoverRetry (g : Nat) (s : State) : Result :=
  guarded (.discoverRetry g) s <|
    if s.camState g ≠ 4 ∨ (s.group g).identified then s
    else if (s.group g).discovers < 3 then s.sendDiscover g else s.toDetect g 1

/-- CAMERA_LANE_LOST (R104). -/
def execCameraLaneLost (g lane : Nat) (s : State) : Result := guarded (.cameraLaneLost g lane) s (s.camLaneLost g lane)

/-- CAMERA_HEAD_LOST (R105): the head departs and the group passes through DOWN to DETECT. -/
def execCameraHeadLost (g : Nat) (s : State) : Result :=
  guarded (.cameraHeadLost g) s <|
    let s1 := s.headDeparts g
    if s1.camState g = 0 then s1 else ((s1.resetTraining g false).enterGroup g 0 0).enterGroup g 1 0

/-- CG_ENABLE takes effect (R102). -/
def State.applyCgEnable (g : Nat) (s : State) : State :=
  if s.getP (P.cg g P.CG_ENABLE) 0 = 0 then (if s.camState g = 0 then s else (s.resetTraining g false).enterGroup g 0 0)
  else if s.camState g = 0 then s.enterGroup g 1 0 else s

/-! ### Received packets (R90 to R92, R106) -/

end Sys2Proof.Machine

namespace Sys2Proof

open Sys2Proof.Machine

/-- The faults of Table 3-8 that discard a packet as a header error. DESIGN CHOICE (log 144): reserved header bits are ignored. -/
def CamPkt.faulty (p : CamPkt) : Bool :=
  !hdrCrcOk p.hdr || !decide (1 ≤ hdrType p.hdr ∧ hdrType p.hdr ≤ 8) || decide (32768 < hdrLen p.hdr) || p.fin != .eop
    || p.payload.length != hdrLen p.hdr

/-- The payload CRC does not match (R92). -/
def CamPkt.crcBad (p : CamPkt) : Bool := p.payload.length != 0 && crc32c p.payload != p.crc

abbrev CamPkt.vc (p : CamPkt) : Nat := hdrVc p.hdr

/-- The sensor that a packet names. -/
abbrev CamPkt.sensor (p : CamPkt) : Nat := 4 * p.group + p.vc

end Sys2Proof

namespace Sys2Proof.Machine

/-- Packets missing before this one, by SEQ (R90). -/
def State.countSeq (p : CamPkt) (s : State) : State :=
  let q := byteAt p.hdr 1
  s.modGroup p.group fun x =>
    let gap := match SMap.find p.vc x.fwdSeq with
      | some e => (q + 256 - e) % 256
      | none => 0
    { x with seqLost := x.seqLost + gap, fwdSeq := SMap.ins p.vc ((q + 1) % 256) x.fwdSeq }

/-- A header error is counted (R106). -/
def State.camHdrError (g : Nat) (s : State) : State := s.bumpSat (P.cg g P.CG_HDR_ERRORS) 0 1

/-- A packet arrives: checked under R106, and given to `k` if its group takes it. IDENTIFY takes IDENTITY and VC_ANNOUNCE
only. In DARK what arrives is discarded unchecked (R430). -/
def State.camReceive (p : CamPkt) (k : State → State) (s : State) : State :=
  let s1 := s.atLeast p.time
  let st := s1.camState p.group
  let t := hdrType p.hdr
  if (st ≠ 4 ∧ st ≠ 5) ∨ s.powerState = 2 ∨ s1.groupHears p.group = false then s1
  else if p.faulty then s1.camHdrError p.group
  else
    let s2 := s1.countSeq p
    if st = 4 ∧ t ≠ 5 ∧ t ≠ 6 then s2
    else if p.crcBad && t != 2 then s2.bumpSat (P.cg p.group P.CG_PCRC_ERRORS) 0 1
    else k s2

/-- CAMERA_BAD_PACKET (R106). -/
def execCameraBadPacket (p : CamPkt) (s : State) : Result :=
  guarded (.cameraBadPacket p) s <|
    let s1 := s.atLeast p.time
    if (s1.camState p.group = 4 ∨ s1.camState p.group = 5) ∧ s1.powerState ≠ 2 ∧ p.faulty = true ∧ s1.groupHears p.group = true
      then s1.camHdrError p.group else s1

/-- What an IDENTITY says (Table 3-5). -/
def headOf (l : List Byte) : Head :=
  { serial := fieldAt l 0 8, vendor := fieldAt l 8 2, model := fieldAt l 10 2, caps := byteAt l 13 % 16, turn := fieldAt l 14 2
    fsDelay := fieldAt l 16 4, jitter := fieldAt l 20 2 }

/-- IDENTITY (R102): PROTOCOL is checked, and the probes begin. A head with another serial number is another partner. -/
def execIdentity (p : CamPkt) (s : State) : Result :=
  guarded (.identity p) s <| s.camReceive p fun s =>
    if s.camState p.group ≠ 4 ∨ p.payload.length ≠ 32 then s
    else if byteAt p.payload 12 ≠ 1 then s.toDetect p.group 2
    else
      let h := headOf p.payload
      let s1 := match (s.group p.group).head with
        | some o => if o.serial = h.serial then s else s.headDeparts p.group
        | none => s
      (s1.modGroup p.group fun x => { x with head := some h, identified := true }).setP (P.cg p.group P.CG_HEAD_SERIAL) 0 h.serial

/-- What a VC_ANNOUNCE says (Table 3-5). -/
def formatOf (l : List Byte) : Format :=
  { bits := byteAt l 1, cfa := byteAt l 2, embed := byteAt l 3, width := fieldAt l 4 2, height := fieldAt l 6 2, total := fieldAt l 8 2
    line0 := fieldAt l 12 4, period := fieldAt l 16 8 }

/-- The sensor's arrival record: head serial number and VC (R114). -/
def State.sensorPayload (s : State) (k : Nat) : Nat :=
  (((s.group (k / 4)).head.map (·.serial)).getD 0) + at' 64 (k % 4)

/-- A sensor is announced (R94, R105, R121): a new format is accepted or rejected by the pipeline bound to it, on the geometry that it will have. DESIGN
CHOICE: another SENSOR_SERIAL while the sensor is present is a departure and an arrival (log 146); one TNR_REF_RESET with reason 0 serves a rejoin with
another identity and format (log 142). -/
def State.announce (k : Nat) (f : Format) (serial : Nat) (s : State) : State :=
  let head := (((s.group (k / 4)).head.map (·.serial)).getD 0)
  let s0 := if (s.sensor k).present && (s.sensor k).serial != serial then s.sensorDeparts k else s
  let x := s0.sensor k
  let rejoin := !x.present && (x.serial != 0 || x.head != 0) && (x.serial != serial || x.head != head)
  let s1 := if x.present then s0 else s0.partnerArrives (sensorId k) (srcOf 0x3 k) (s0.sensorPayload k)
  let s2 := s1.modSensor k fun y => { y with
    present := true, serial := serial, head := head, next := some f, rejectPosted := false, orphanPosted := y.orphanPosted && x.present }
  match s2.boundPipe k with
  | none => s2
  | some p =>
    let s3 := if rejoin then s2.invalidateRef p 0 else if (s2.pipe p).fmt ≠ some f then s2.invalidateRef p 1 else s2
    match (s3.nextValues p).rejectReason p f with
    | some r => s3.rejectFormat p k r
    | none =>
      let s4 := s3.modPipe p fun y => { y with rejected := false }
      if s4.getP (P.pl p P.PL_STATE) 0 = 3 then s4.setPlState p 1 else s4

/-- VC_ANNOUNCE (R94, R105, R121). -/
def execVcAnnounce (p : CamPkt) (s : State) : Result :=
  guarded (.vcAnnounce p) s <| s.camReceive p fun s =>
    if p.payload.length ≠ 32 then s
    else if byteAt p.payload 0 % 2 = 1 then s.announce p.sensor (formatOf p.payload) (fieldAt p.payload 24 8)
    else s.sensorDeparts p.sensor

/-- CTRL_REPLY (R100): the command with its tag completes. -/
def execCtrlReply (p : CamPkt) (s : State) : Result :=
  guarded (.ctrlReply p) s <| s.camReceive p fun s =>
    match (s.group p.group).ctrl.find? fun e => e.1 == hdrAux p.hdr with
    | none => s
    | some e =>
      let r := byteAt p.payload 8
      if p.payload.length ≠ 12 ∨ 2 < r then s
      else
        let s1 := s.modGroup p.group fun x => { x with ctrl := x.ctrl.filter (· != e) }
        let len := match s1.flight? e.2 with
          | some f => if f.opcode = 0x0105 then 4 else 0
          | none => 0
        if r = 0 then s1.finalReply e.2 cOK len (if len = 4 then fieldAt p.payload 4 4 else 0) else s1.finalReply e.2 0x21 0 0

/-- CAM_CTRL_TIMEOUT (R100). -/
def execCamCtrlTimeout (g tag : Nat) (s : State) : Result :=
  guarded (.camCtrlTimeout g tag) s <|
    match (s.group g).ctrl.find? fun e => e.1 == tag with
    | none => s
    | some e => (s.modGroup g fun x => { x with ctrl := x.ctrl.filter (· != e) }).finalReply e.2 cTIMEOUT 0 0

/-- HEAD_STATUS (R91, R114): HEAD_ALARM when the alarm bits change. -/
def execHeadStatus (p : CamPkt) (s : State) : Result :=
  guarded (.headStatus p) s <| s.camReceive p fun s =>
    if p.payload.length ≠ 8 then s
    else
      let v := fieldAt p.payload 0 3
      let s1 := s.modGroup p.group fun x => { x with status := v }
      if (s.group p.group).status / 65536 = v / 65536 then s1 else s1.postCam 0x43 0x2 p.group v p.group

/-! ### Probes and genlock (R95 to R97) -/

/-- The group sends probes: in IDENTIFY after IDENTITY, and in ACTIVE; not in DARK. -/
def State.probing (s : State) (g : Nat) : Bool :=
  (s.camState g == 5 || (s.camState g == 4 && (s.group g).identified)) && s.powerState != 2

/-- A PROBE leaves on a group's return lane (R97), after a calibration window (R261). -/
def State.groupProbe (g t : Nat) (s : State) : State :=
  let s := s.atLeast t
  if s.probing g then
    let q := (s.group g).pseq
    let at' := max t (s.laneGroup (16 + g)).winEnd
    (s.modGroup g fun x => { x with pseq := (q + 1) % 256, probes := (q, at') :: x.probes }).emitAfter at' (.camSet g 6 q 0 (255 - q))
  else s

/-- The median of the delays (R97): of an even count, the mean of the two middle values. -/
def medianOf (l : List Nat) : Nat :=
  let m := l.mergeSort (fun a b => decide (a ≤ b))
  let n := m.length
  if n = 0 then 0 else if n % 2 = 1 then m.getD (n / 2) 0 else (m.getD (n / 2 - 1) 0 + m.getD (n / 2) 0) / 2

/-- A probe of IDENTIFY is done; the 16th ends the state (R97, R102). -/
def State.probeDone (g : Nat) (s : State) : State :=
  let s1 := s.modGroup g fun x => { x with probesDone := x.probesDone + 1 }
  if s1.camState g = 4 ∧ 16 ≤ (s1.group g).probesDone then s1.groupActive g else s1

/-- A PROBE_ECHO arrives on a group's forward lane 0 (R88, R97). -/
def State.groupEcho (g pseq d2 d3 t : Nat) (s : State) : State :=
  let s := s.atLeast t
  if d2 ≠ 1 ∨ pseq + d3 ≠ 255 ∨ s.groupHears g = false then s
  else match (s.group g).probes.find? fun e => e.1 == pseq with
    | none => s
    | some e =>
      let turn := ((s.group g).head.map (·.turn)).getD 0
      let s1 := s.modGroup g fun x => { x with
        probes := x.probes.filter (· != e), echoes := ((t - e.2 - turn) / 2 :: x.echoes).take 16, lostRun := 0 }
      (s1.setP (P.cg g P.CG_LINK_DELAY) 0 (medianOf (s1.group g).echoes)).probeDone g

/-- A PROBE of a group has had no echo within 10 µs (R97). -/
def State.groupProbeLost (g pseq : Nat) (s : State) : State :=
  match (s.group g).probes.find? fun e => e.1 == pseq with
  | none => s
  | some e =>
    let s1 := s.modGroup g fun x => { x with probes := x.probes.filter (· != e), lostRun := x.lostRun + 1 }
    if 16 ≤ (s1.group g).lostRun then s1.toDetect g 4 else s1.probeDone g

/-- A TSYNC may be sent for VC `vc` (R95), whose head and sensor are not quarantined (R46). -/
def State.genlocked (s : State) (g vc : Nat) : Bool :=
  s.camState g == 5 && s.powerState != 2 && (s.group g).cap 1 && (s.sensor (4 * g + vc)).present
    && !(s.partner (headId g)).quarantined && !(s.partner (sensorId (4 * g + vc))).quarantined && s.getP (P.cg g P.CG_GENLOCK) vc == 1

/-! ### Commands (R111, R112) -/

/-- A binding change names the pipeline or the sensor (R111). -/
def State.bindHeld (s : State) (p k : Nat) : Bool :=
  (List.range 8).any fun q => match (s.pipe q).change with
    | some ch => q == p || ch.sensor == k
    | none => false

def sensorBindSpec : OpSpec := { op := 0x0101, len := fun c => c.opLen == 20, rsvd := 0xFF000000 }

/-- SENSOR_BIND from step 7 on. -/
def sensorBindBody : Body := fun q s =>
  let c := q.c
  let p := c.f 0 8
  let k := 4 * c.f 8 8 + c.f 16 8
  if 8 ≤ p ∨ 8 ≤ c.f 8 8 ∨ 4 ≤ c.f 16 8 then (s, .err cBAD_PARAM)
  else if s.bindHeld p k then (s, .err cBUSY)
  else if (s.pipe p).bind.isSome ∨ (s.boundPipe k).isSome then (s, .err cNO_RESOURCE)
  else
    let b : Binding := { sensor := k, head := c.f 32 64, serial := c.f 96 64 }
    let ch : BindChange := { target := some b, sensor := k, ticket := if c.immediate then none else some q.tk }
    ((s.modPipe p fun x => { x with change := some ch }).setPlState p 0, if c.immediate then .ok else .wait)

/-- SENSOR_BIND (R111). -/
def execSensorBind (c : Cmd) (s : State) : Result := guarded (.sensorBind c) s (submit sensorBindSpec sensorBindBody c s)

def sensorUnbindSpec : OpSpec := .fixed 0x0102 1

/-- SENSOR_UNBIND from step 7 on. -/
def sensorUnbindBody : Body := fun q s =>
  let p := q.c.f 0 8
  if 8 ≤ p then (s, .err cBAD_PARAM)
  else match (s.pipe p).bind with
    | none => (s, .err (if s.bindHeld p 0x1000 then cBUSY else cNO_RESOURCE))
    | some b =>
      if s.bindHeld p b.sensor then (s, .err cBUSY)
      else
        let ch : BindChange := { target := none, sensor := b.sensor, ticket := if q.c.immediate then none else some q.tk }
        ((s.modPipe p fun x => { x with change := some ch }).setPlState p 0, if q.c.immediate then .ok else .wait)

/-- SENSOR_UNBIND (R111). -/
def execSensorUnbind (c : Cmd) (s : State) : Result := guarded (.sensorUnbind c) s (submit sensorUnbindSpec sensorUnbindBody c s)

/-- The group is ACTIVE and its head may be given traffic (Table 3-10, R46). -/
def State.headUsable (s : State) (g : Nat) : Bool := s.camState g == 5 && !(s.partner (headId g)).quarantined

/-- The sensor is present and may be given traffic. -/
def State.sensorUsable (s : State) (k : Nat) : Bool :=
  s.headUsable (k / 4) && (s.sensor k).present && !(s.partner (sensorId k)).quarantined

/-- CAM_EXPOSE's length follows VENDOR_LEN (Tables 3-6, 3-9). -/
def camExposeSpec : OpSpec :=
  { op := 0x0103, len := fun c => decide (c.f 40 8 ≤ 32) && c.opLen == 12 + c.f 40 8, rsvd := 0xFFFF0000 }

/-- CAM_EXPOSE from step 7 on. -/
def camExposeBody : Body := fun q s =>
  let c := q.c
  let g := c.f 0 8
  let vc := c.f 8 8
  if 8 ≤ g ∨ 4 ≤ vc ∨ c.f 32 8 = 0 then (s, .err cBAD_PARAM)
  else if !s.sensorUsable (4 * g + vc) then (s, .err 0x20)
  else
    let s1 := s.sendReturn g 0xA vc 0 (leBytes (c.ops >>> 32) (c.opLen - 4))
    let s2 := if (s.group g).cap 0 then s1
      else s1.modSensor (4 * g + vc) fun x => { x with exposed := { after := x.lastNumber, id := c.f 32 8 } :: x.exposed }
    (s2, .ok)

/-- CAM_EXPOSE (R98, R99). -/
def execCamExpose (c : Cmd) (s : State) : Result := guarded (.camExpose c) s (submit camExposeSpec camExposeBody c s)

/-- CTRL_WRITE or CTRL_READ is sent with the device's next tag, and the command waits for its CTRL_REPLY (R100). -/
def State.sendCtrl (g typ tk : Nat) (payload : List Byte) (s : State) : State :=
  let t := ((s.group g).ctrlTag + 1) % 65536
  (s.modGroup g fun x => { x with ctrlTag := t, ctrl := x.ctrl ++ [(t, tk)] }).sendReturn g typ 0 t payload

def camCtrlWriteSpec : OpSpec := { op := 0x0104, len := fun c => c.opLen == 12, rsvd := 0xFFFFFF00 }

/-- CAM_CTRL_WRITE from step 7 on. -/
def camCtrlWriteBody : Body := fun q s =>
  let g := q.c.f 0 8
  if 8 ≤ g then (s, .err cBAD_PARAM)
  else if !s.headUsable g then (s, .err 0x20)
  else (s.sendCtrl g 0xB q.tk (leBytes (q.c.f 32 64) 8), .wait)

/-- CAM_CTRL_WRITE (R100). -/
def execCamCtrlWrite (c : Cmd) (s : State) : Result := guarded (.camCtrlWrite c) s (submit camCtrlWriteSpec camCtrlWriteBody c s)

def camCtrlReadSpec : OpSpec := { op := 0x0105, len := fun c => c.opLen == 8, rsvd := 0xFFFFFF00 }

/-- CAM_CTRL_READ from step 7 on. -/
def camCtrlReadBody : Body := fun q s =>
  let g := q.c.f 0 8
  if 8 ≤ g then (s, .err cBAD_PARAM)
  else if !s.headUsable g then (s, .err 0x20)
  else (s.sendCtrl g 0xC q.tk (leBytes (q.c.f 32 32) 4), .wait)

/-- CAM_CTRL_READ (R100). -/
def execCamCtrlRead (c : Cmd) (s : State) : Result := guarded (.camCtrlRead c) s (submit camCtrlReadSpec camCtrlReadBody c s)

def camRetrainSpec : OpSpec := .fixed 0x0106 1

/-- CAM_RETRAIN from step 7 on; a group held in DOWN stays there. -/
def camRetrainBody : Body := fun q s =>
  let g := q.c.f 0 8
  if 8 ≤ g then (s, .err cBAD_PARAM)
  else if s.camState g = 0 then (s, .ok)
  else (s.toDetect g 5, .ok)

/-- CAM_RETRAIN (R112). -/
def execCamRetrain (c : Cmd) (s : State) : Result := guarded (.camRetrain c) s (submit camRetrainSpec camRetrainBody c s)

/-- NO_GENLOCK (Table 3-10): a write of CG_GENLOCK = 1 for a VC whose present head lacks the capability. -/
def State.noGenlock (s : State) (g value : Nat) : Bool :=
  value == 1 && (s.group g).head.isSome && !(s.group g).cap 1

end Sys2Proof.Machine
end

