-- ==== Sys2Proof/Machine/Canvas.lean ====
section
/-! DEFINITION. Canvases: raster timing and checks, layers, live inputs and frame stores, composition, the output colour stage of each tile-bound
copy, and the canvas commands (06, R164 to R173). Show period and phase boundaries are in Machine/Show.lean. -/

namespace Sys2Proof.Machine

/-- An event of a canvas, with the frame tag of its show period (R77, R202). -/
def State.postCv (typ c payload : Nat) (s : State) : State := s.postTagged typ 0x5 c payload (s.canvas c).tag

/-! ### Raster and timing (R179 to R182) -/

/-- The factor of R180 as numerator and denominator: show period / master period. -/
def State.showFactor (s : State) (c : Nat) : Nat × Nat :=
  let r := s.cvp c P.CV_RATE 0
  let k := r % 16
  let q := if r.testBit 5 then (1001, 1000) else (1, 1)
  if r.testBit 4 then (q.1, q.2 * max k 1) else (q.1 * k, q.2)

/-- The show period in units of 2^-16 ns, rounded down (R180). -/
def State.showPeriod (s : State) (c : Nat) : Nat := let f := s.showFactor c; s.ring.period * f.1 / f.2

/-- The end of a show period that starts `rem` parts of the factor's denominator after `start`, and what it falls short of the exact instant (R181). -/
def State.showEnd (s : State) (c start rem : Nat) : Nat × Nat :=
  let f := s.showFactor c
  (start + (rem + s.ring.period * f.1) / f.2, (rem + s.ring.period * f.1) % f.2)

/-- The instant `n`/`d` of the show period in progress, by exact accumulation from *S* (R181). -/
def State.showTime (s : State) (c n d : Nat) : Nat :=
  let f := s.showFactor c
  (s.canvas c).start + ((s.canvas c).rem * d + n * s.ring.period * f.1) / (f.2 * d)

/-- The nominal show period in ns, as numerator and denominator, at the master rate in force. -/
def State.showNominal (s : State) (c : Nat) : Nat × Nat :=
  let f := s.showFactor c
  (1000000000 * s.getP P.RM_REF_RATE_DEN 0 * f.1, max (s.getP P.RM_REF_RATE_NUM 0 * f.2) 1)

/-- The start of phase raster `p`, *B*_p (R181). -/
def State.phaseTime (s : State) (c p : Nat) : Nat := s.showTime c p (max (s.cvp c P.CV_PHASES 0) 1)

/-- The compose time *C*(p, y) (R181). -/
def State.composeTime (s : State) (c p y : Nat) : Nat :=
  let h := max (s.cvp c P.CV_TOTAL_LINES 0) 1
  s.showTime c (p * h + y) (max (s.cvp c P.CV_PHASES 0) 1 * h)

/-- The wall line time *lw* in units of 2^-16 ns. -/
def State.lineTime (s : State) (c : Nat) : Nat := s.showPeriod c / max (s.cvp c P.CV_PHASES 0 * s.cvp c P.CV_TOTAL_LINES 0) 1

/-- The raster checks of Table 6-1 on the values of `s`, in order: the first failure's code. -/
def State.rasterCheck (s : State) (c : Nat) : Option Nat :=
  let w := s.cvp c P.CV_WIDTH 0
  let h := s.cvp c P.CV_HEIGHT 0
  let tl := s.cvp c P.CV_TOTAL_LINES 0
  let r := s.cvp c P.CV_RATE 0
  let ph := s.cvp c P.CV_PHASES 0
  let (n, d) := s.showNominal c
  if w % 8 ≠ 0 ∨ w < 64 ∨ 65528 < w then some cBAD_PARAM
  else if h < 8 ∨ 32767 < h then some cBAD_PARAM
  else if tl < h + 1 ∨ 65535 < tl then some cBAD_PARAM
  else if r % 16 < 1 ∨ 8 < r % 16 ∨ 64 ≤ r ∨ n * 240 < 1000000000 * d ∨ 1000000000000 * d < n * 23976 then some cBAD_PARAM
  else if ph < 1 ∨ 4 < ph then some cBAD_PARAM
  else if n ≤ s.cvp c P.CV_START_OFFSET 0 * d then some cBAD_PARAM
  else if 240 * n < ph * 1000000000 * d then some 0x38
  else if n * 12 / (d * ph * tl * 10) < w / 8 + 64 then some 0x38
  else none

/-- The raster parameters (R182). -/
abbrev rasterIds : List Nat := [P.CV_WIDTH, P.CV_HEIGHT, P.CV_TOTAL_LINES, P.CV_RATE, P.CV_PHASES, P.CV_START_OFFSET]

/-- The raster in force. -/
def State.raster (s : State) (c : Nat) : List Nat := rasterIds.map fun i => s.cvp c i 0

/-! ### Sources (R185, R187 to R194, R199) -/

/-- Bytes per pixel of a layer format (Table 6-3). -/
def layerBpp (f : Nat) : Nat := if f = 1 ∨ f = 2 then 2 else if f = 3 then 3 else if f = 4 ∨ f = 5 ∨ f = 6 then 4 else 0

/-- A memory layer as the engine reads it in a show period. -/
structure Layer where
  format : Nat
  base : Nat
  stride : Nat
  x : Nat
  y : Nat
  w : Nat
  h : Nat
  deriving DecidableEq, Repr

/-- Source `src` is named in CV_ZORDER (R199). -/
def State.named (s : State) (c src : Nat) : Bool := (List.range 16).any fun i => s.cvp c P.CV_ZORDER i == src

/-- The phases below CV_PHASES that a mask admits. -/
def State.admitted (s : State) (c mask : Nat) : Nat := mask % 2 ^ s.cvp c P.CV_PHASES 0

/-- Layer `l` of canvas `c` by its parameters, if it is active (R185, R187, R190, R191, R199); `pic` gives a decoder's picture: address and stride. -/
def State.layerOf (s : State) (c l : Nat) (pic : Nat → Option (Nat × Nat)) : Option Layer :=
  let p := fun (id : Nat) => s.cvp c id l
  let src := p P.LY_SOURCE
  let size := p P.LY_SIZE
  let base := if src = 0 then some (p P.LY_BASE, p P.LY_STRIDE) else pic l
  match base with
  | none => none
  | some (b, st) =>
    let f := if src = 0 then p P.LY_FORMAT else 6
    if f = 0 ∨ size % 65536 = 0 ∨ size / 65536 = 0 ∨ p P.LY_OPACITY = 0 ∨ s.admitted c (p P.LY_PHASES) = 0 ∨ !s.named c l then none
    else some { format := f, base := b, stride := st, x := p P.LY_POS % 65536, y := p P.LY_POS / 65536, w := size % 65536, h := size / 65536 }

/-- Live input `i` of canvas `c` takes part: it names a pipeline, and it is in the stacking order for some phase (R194, R199). -/
def State.inputActive (s : State) (c i : Nat) : Bool :=
  decide (s.cvp c P.LI_PIPELINE i < 8) && s.named c (8 + i) && s.admitted c (s.cvp c P.LI_PHASES i) != 0 && s.cvp c P.LI_OPACITY i != 0

/-- The rules of R191 on a layer's staged values, at a write of one of its parameters (DEDUCED, log 46): a layer that has a buffer and a size keeps them
all; while its configuration is not complete, those that name the parameter written. A layer that another source fills has no buffer. -/
def State.layerRange (s : State) (c l id : Nat) : Bool :=
  let p := fun (i : Nat) => s.cvp c i l
  let bpp := layerBpp (p P.LY_FORMAT)
  let w := p P.LY_SIZE % 65536
  let h := p P.LY_SIZE / 65536
  let baseOk := p P.LY_BASE % 64 == 0
  let strideOk := p P.LY_STRIDE % 64 == 0 && decide (w * bpp ≤ p P.LY_STRIDE)
  let rangeOk := decide (carveWindow 2 ≤ p P.LY_BASE ∧ p P.LY_BASE < carveWindow 3 ∧ p P.LY_BASE + p P.LY_STRIDE * h ≤ carveWindow 3)
  let evenOk := p P.LY_FORMAT != 6 || (p P.LY_POS % 2 == 0 && w % 2 == 0)
  if p P.LY_SOURCE ≠ 0 then true
  else if p P.LY_FORMAT ≠ 0 ∧ w ≠ 0 ∧ h ≠ 0 then baseOk && strideOk && rangeOk && evenOk
  else if id = P.LY_BASE then baseOk && rangeOk
  else if id = P.LY_STRIDE then strideOk && rangeOk
  else if id = P.LY_SIZE then strideOk && rangeOk && evenOk
  else if id = P.LY_FORMAT then strideOk && evenOk
  else if id = P.LY_POS then evenOk
  else true

/-- A layer's covered pixels on the canvas (R204). -/
def State.covered (s : State) (c : Nat) (y : Layer) : Nat :=
  (min (y.x + y.w) (s.cvp c P.CV_WIDTH 0) - y.x) * (min (y.y + y.h) (s.cvp c P.CV_HEIGHT 0) - y.y)

/-- What the layers of a canvas reserve at rank 1, in bytes/s (R42, R204). -/
def State.layersBps (s : State) (c : Nat) : Nat :=
  let (n, d) := s.showNominal c
  ((List.range 8).map fun l =>
    match s.layerOf c l (fun _ => some (0, 0)) with
    | none => 0
    | some y => layerBpp y.format * s.covered c y * popcount (s.cvp c P.LY_PHASES l) (s.cvp c P.CV_PHASES 0) * 1000000000 * d / max n 1).sum

/-- The compose load in Mpx/s (Table 6-9). -/
def State.composeLoad (s : State) (c : Nat) : Nat :=
  let (n, d) := s.showNominal c
  rdivN (s.cvp c P.CV_WIDTH 0 * s.cvp c P.CV_HEIGHT 0 * s.cvp c P.CV_PHASES 0 * 1000 * d) (max n 1)

/-- The reports and the reservation of a canvas follow its parameters in force (R183, R204, R207). -/
def State.canvasReport (c : Nat) (s : State) : State :=
  let bps := if s.cvState c = 0 then 0 else s.layersBps c
  let s1 := s.bwSet 1 (0x100 + c) bps
  let idle := s.cvState c == 0
  ((s1.setP (P.cv c P.CV_BW_RESERVED) 0 (rdivN bps 1000000)).setP (P.cv c P.CV_COMPOSE_LOAD) 0 (if idle then 0 else s.composeLoad c)).setP
    (P.cv c P.CV_LINE_TIME) 0 (if idle then 0 else s.lineTime c)

/-! ### Frame stores and input modes (R195 to R197) -/

def State.store (s : State) (p : Nat) : Option FrameStore := SMap.get (fun _ => none) s.cv.stores p

def State.setStore (p : Nat) (x : Option FrameStore) (s : State) : State :=
  { s with cv := { s.cv with stores := SMap.set (fun _ => none) s.cv.stores p x } }

/-- The scaler of a pipeline with a format in force and a sensor present. -/
def State.liveScaler (s : State) (p : Nat) : Option (ScalerCfg × Format) :=
  match (s.pipe p).bind, (s.pipe p).fmt with
  | some b, some f => if (s.sensor b.sensor).present then some (s.scalerOf p f, f) else none
  | _, _ => none

/-- R17 for an input of canvas `c` that names pipeline `p`. -/
def State.meetsThrough (s : State) (c p : Nat) : Bool :=
  match (s.pipe p).bind, s.liveScaler p with
  | some b, some (k, f) =>
    let (n, d) := s.showNominal c
    let e := d * s.cvp c P.CV_PHASES 0
    s.genlocked (b.sensor / 4) (b.sensor % 4) && decide (n * 1000 < (f.period + 1) * e ∧ f.period * e < n * 1000 + e)
      && decide (k.outH ≤ k.cropH) && decide (f.width * f.total * 10000 ≤ 96 * f.period)
      && decide (k.outW ≤ 8 * (f.period * 12 / (f.total * 10000)))
  | _, _ => false

/-- An input's mode (1 through, 2 buffered) and the reason for buffered mode, before it is known whether another takes the pipeline. -/
def State.inputMode (s : State) (c i : Nat) : Nat × Nat :=
  let p := s.cvp c P.LI_PIPELINE i
  if !s.meetsThrough c p then (2, 0)
  else if s.cvp c P.LI_FORCE_BUFFERED i ≠ 0 then (2, 1)
  else match s.liveScaler p with
    | some (k, f) => if f.total * 2 ^ 20 < s.cvp c P.CV_TOTAL_LINES 0 * k.stepY then (2, 2) else (1, 0)
    | none => (2, 0)

/-- The modes of all inputs of canvases that run: canvas, input, pipeline, mode, reason; the first through input of a pipeline has it (R195). -/
def State.inputModes (s : State) (runs : Nat → Bool) : List (Nat × Nat × Nat × Nat × Nat) :=
  ((List.range 16).flatMap fun c => (List.range 8).map fun i => (c, i)).foldl (init := []) fun acc (c, i) =>
    if runs c && s.inputActive c i then
      let p := s.cvp c P.LI_PIPELINE i
      let m := s.inputMode c i
      let m := if m.1 = 1 ∧ acc.any (fun e => e.2.2.1 == p && e.2.2.2.1 == 1) then (2, 3) else m
      acc ++ [(c, i, p, m.1, m.2)]
    else acc

/-- Pipelines that need a frame store under the modes: a buffered input, or HOLD in through mode (R197, R198). -/
def State.storesNeeded (s : State) (modes : List (Nat × Nat × Nat × Nat × Nat)) : List Nat :=
  (List.range 8).filter fun p => modes.any fun e => e.2.2.1 == p && (e.2.2.2.1 == 2 || s.cvp e.1 P.LI_LOSS e.2.1 == 2)

/-- The reservation of a frame store (Table 1-12). -/
def storeBps (k : ScalerCfg) (f : Format) : Nat := 16 * (k.outW * k.outH) * 1000000000000 / max f.period 1

/-- The reservation owner of a pipeline's frame store. -/
abbrev storeOwner (p : Nat) : Nat := 0x400 + p

/-- The store is released. -/
def State.dropStore (p : Nat) (s : State) : State := ((s.freeOwned (.frameStore p 0)).bwSet 1 (storeOwner p) 0).setStore p none

/-- The store that a pipeline's output needs, if it can be had; one of another size is replaced (R197). -/
def State.makeStore (p : Nat) (s : State) : Option State :=
  match s.liveScaler p with
  | none => some s
  | some (k, f) =>
    let same := match s.store p with
      | some x => x.width == k.outW && x.height == k.outH
      | none => false
    if same then some s
    else if !s.bwAccepts (storeOwner p) (storeBps k f) then none
    else match (s.dropStore p).allocBuffer 1 (3 * (k.outW * k.outH * 8)) (.frameStore p 0) with
      | (t, .base a) => some ((t.bwSet 1 (storeOwner p) (storeBps k f)).setStore p (some { base := a, width := k.outW, height := k.outH }))
      | (_, .fail _) => none

/-- The canvas holds its reservations: it is ARMED, RUNNING or in RESTART (R183). -/
def State.cvRuns (s : State) (c : Nat) : Bool := s.cvState c != 0

/-- Frame stores that no input needs are dropped and those needed made; the pipelines whose store cannot be had (R183, R197). -/
def State.fitStores (s : State) : State × List Nat :=
  let need := s.storesNeeded (s.inputModes s.cvRuns)
  let s1 := (List.range 8).foldl (fun t p => if need.contains p || (t.store p).isNone then t else t.dropStore p) s
  need.foldl (fun (a : State × List Nat) p => match a.1.makeStore p with
    | some t => (t, a.2)
    | none => (a.1, p :: a.2)) (s1, [])

/-- The modes of canvas `c`'s inputs are chosen again at its boundary; a change posts LIVE_MODE (R195). An input whose store cannot be had is
unused. -/
def State.chooseModes (c : Nat) (s : State) : State :=
  let modes := s.inputModes s.cvRuns
  let r := s.fitStores
  (List.range 8).foldl (init := r.1) fun t i =>
    let e := modes.find? fun e => e.1 == c && e.2.1 == i
    let m : Nat × Nat := match e with
      | some e => if e.2.2.2.1 = 2 ∧ r.2.contains e.2.2.1 then (0, 0) else (e.2.2.2.1, e.2.2.2.2)
      | none => (0, 0)
    if m.1 = t.cvp c P.LI_MODE i then t
    else
      let t1 := (t.setP (P.cv c P.LI_MODE) i m.1).awaitInput c i
      if m.1 = 0 then t1 else t1.postCv 0x51 c (i + at' 4 m.1 + at' 8 m.2)

/-- The buffers of pipeline `p`'s store that some input reads. -/
def State.storeSelected (s : State) (p : Nat) : List Nat :=
  s.cv.cvs.flatMap fun e => e.2.selected.filterMap fun x => if s.cvp e.1 P.LI_PIPELINE x.1 = p ∧ x.2 ≠ 0 then some (x.2 - 1) else none

/-- A component in the FS64 layout, read back (R197). -/
def fs64 (p : Rgb) : Rgb := Rgb.of fun c => p.get c / 8 * 8

/-- A delivered frame is written into the store's free buffer, where it awaits its fence (R197). -/
def State.storeFrame (p : Nat) (f : Frame) (s : State) : State :=
  match s.store p with
  | none => s
  | some x =>
    let used := s.storeSelected p
    match (List.range 3).find? fun b => !used.contains b && x.newest != some b with
    | none => s
    | some b =>
      let img := (List.range x.height).map fun y => (List.range x.width).map fun xx => fs64 (s.pipeOutput p f xx y)
      s.setStore p (some { x with writing := some b, bufs := modAt (fun _ => { img := img, written := s.now, doneAt := 0, complete := false }) b x.bufs })

/-- FRAME_STORE_COMPLETE (R197): the fence has completed, so the buffer is the newest complete one. -/
def execFrameStoreComplete (pl t : Nat) (s : State) : Result :=
  guarded (.frameStoreComplete pl t) s <|
    let s := s.atLeast t
    match s.store pl with
    | some x => match x.writing with
      | some b => s.setStore pl (some { x with writing := none, newest := some b, bufs := modAt (fun v => { v with doneAt := t, complete := true }) b x.bufs })
      | none => s
    | none => s

/-! ### Layer pixels (R187 to R191) -/

/-- The constants of SMPTE ST 2084, all exact. -/
def pqM1 : Dbl := dRat 2610 16384
def pqM2 : Dbl := dRat (128 * 2523) 4096
def pqC1 : Dbl := dRat 3424 4096
def pqC2 : Dbl := dRat (32 * 2413) 4096
def pqC3 : Dbl := dRat (32 * 2392) 4096

/-- The EOTF of SMPTE ST 2084 at a code from 0 to 1, in cd/m². -/
def pqEotf (e : Dbl) : Dbl :=
  let q := dPow e (dDiv (dNat 1) pqM2)
  let n := dMax (dSub q pqC1) (dNat 0)
  dMul (dNat 10000) (dPow (dDiv n (dSub pqC2 (dMul pqC3 q))) (dDiv (dNat 1) pqM1))

/-- The EOTF of IEC 61966-2-1 at a code from 0 to 1. -/
def srgbEotf (e : Dbl) : Dbl :=
  if dLt (dRat 4045 100000) e then dPow (dDiv (dAdd e (dRat 55 1000)) (dRat 1055 1000)) (dRat 24 10) else dDiv e (dRat 1292 100)

/-- Entry `k` of a layer's decode table (R188). -/
def decodeEntry (xfer white nits k : Nat) : Nat :=
  let e := dDiv (dNat k) (dNat 1023)
  let w := dRat white (2 ^ 20)
  let y := if xfer = 0 then dMul w e else if xfer = 1 then dMul w (dPow e (dRat 24 10)) else if xfer = 2 then dMul w (srgbEotf e)
           else dDiv (pqEotf e) (dNat nits)
  (dRound (dMul (dNat (2 ^ 20)) (dMin y (dRat 0xFFFFFF (2 ^ 20))))).toNat

/-- A colour code of `n` bits as a decode index (R188). -/
def widen (n c : Nat) : Nat := if n = 10 then c else c * 2 ^ (10 - n) + c / 2 ^ (2 * n - 10)

/-- The decode indexes of a YC422 pixel (R189, Table 6-4). -/
def ycIndexes (bt2020 : Bool) (y cb cr : Nat) : Nat × Nat × Nat :=
  let (kr, kb, gb, gr) := if bt2020 then (96639, 123299, 10784, 37444) else (103206, 121609, 12276, 30679)
  let ys : Int := ((y : Int) - 64) * 76534
  let u : Int := ((cb : Int) - 512) * 74825
  let v : Int := ((cr : Int) - 512) * 74825
  let idx := fun (x : Int) => (clampI 0 1023 ((x + 0x8000) / 65536)).toNat
  (idx (ys + (kr : Int) * v / 65536), idx (ys - ((gb : Int) * u + (gr : Int) * v) / 65536), idx (ys + (kb : Int) * u / 65536))

/-- Alpha from an 8-bit code (R190). -/
def alpha8 (a : Nat) : Nat := a * 256 + a + a / 128

/-- The decode indexes and alpha of pixel `i` of a layer row, from its bytes (Table 6-3). -/
def layerPixel (f : Nat) (bt2020 : Bool) (row : List Byte) (i : Nat) : (Nat × Nat × Nat) × Nat :=
  let word := fun (k : Nat) => fieldAt row (layerBpp f * k) (layerBpp f)
  let v := word i
  match f with
  | 1 => ((widen 5 (v / 2048), widen 6 (v / 32 % 64), widen 5 (v % 32)), 0x10000)
  | 2 => let l := widen 8 (v % 256); ((l, l, l), alpha8 (v / 256))
  | 3 => ((widen 8 (v / 65536), widen 8 (v / 256 % 256), widen 8 (v % 256)), 0x10000)
  | 4 => ((widen 8 (v / 65536 % 256), widen 8 (v / 256 % 256), widen 8 (v % 256)), alpha8 (v / 0x1000000))
  | 5 => ((v / 2 ^ 20 % 1024, v / 1024 % 1024, v % 1024), v / 2 ^ 30 * 21845 + v / 2 ^ 31)
  | _ =>
    let e := i / 2 * 2
    (ycIndexes bt2020 (v % 1024) (word e / 1024 % 1024) (word (e + 1) / 1024 % 1024), 0x10000)

/-- Opacity on a decoded pixel: premultiplied components and alpha (R190). -/
def applyOpacity (premult : Bool) (opacity : Nat) (col : Rgb) (alpha : Nat) : Rgb × Nat :=
  let a := (alpha * opacity + 0x8000) / 65536
  (Rgb.of fun c => (col.get c * (if premult then opacity else a) + 0x8000) / 65536, a)

/-- One source on the stack below it (R199). -/
def blendOver (mode : Nat) (d : Rgb) (p : Rgb) (a : Nat) : Rgb :=
  match mode with
  | 0 => Rgb.of fun c => sat24 ((p.get c : Int) + ((d.get c : Int) * (0x10000 - (a : Int)) + 0x8000) / 65536)
  | 1 => Rgb.of fun c => sat24 ((d.get c : Int) + p.get c)
  | _ => p

/-! ### Composition of a line (R198 to R201) -/

/-- The decoder picture a layer reads in this show period (R193). -/
def State.pictureOf (s : State) (c : Nat) (pics : Nat → Option (Nat × Nat)) (l : Nat) : Option (Nat × Nat) :=
  match SMap.get (fun _ => 0) (s.canvas c).picture l with
  | 0 => none
  | a + 1 => pics a

/-- The size of pipeline `p`'s output on a canvas (R160, R194): by the format in force, or by the one in force last, at which a lost input is blanked. -/
def State.shownSize (s : State) (p : Nat) : Option (Nat × Nat) :=
  match ((s.pipe p).fmt).orElse fun _ => (s.pipe p).lastFmt, s.store p with
  | some f, _ => let k := s.scalerOf p f; some (k.outW, k.outH)
  | none, some x => some (x.width, x.height)
  | none, none => none

/-- The rectangle of a source on the canvas, if it takes part in phase `p`: left, top, width, height. -/
def State.sourceRect (s : State) (c p src : Nat) (pics : Nat → Option (Nat × Nat)) : Option (Nat × Nat × Nat × Nat) :=
  if src < 8 then
    match s.layerOf c src (s.pictureOf c pics) with
    | some y => if (s.cvp c P.LY_PHASES src).testBit p then some (y.x, y.y, y.w, y.h) else none
    | none => none
  else
    let i := src - 8
    let pl := s.cvp c P.LI_PIPELINE i
    if s.inputActive c i && (s.cvp c P.LI_PHASES i).testBit p && s.cvp c P.LI_MODE i != 0 then
      match s.shownSize pl with
      | some d => some (s.cvp c P.LI_POS i % 65536, s.cvp c P.LI_POS i / 65536, d.1, d.2)
      | none => none
    else none

/-- The camera frame that an input in through mode will show in phase raster `p`: at the input's first line, the newest one started within one frame
period of it, and since the input's last change of mode or binding (R196, R198). -/
def State.throughPick (s : State) (c p i : Nat) : Option Frame :=
  let pl := s.cvp c P.LI_PIPELINE i
  let first := s.composeTime c p (s.cvp c P.LI_POS i / 65536)
  let ok := fun (f : Frame) => decide (first < (f.start + f.fmt.period / 1000) * 65536)
    && (!(s.canvas c).waiting.testBit i || decide (SMap.get (fun _ => 0) (s.canvas c).waitSince i ≤ f.start))
  ((s.pipe pl).cur.filter ok).orElse fun _ => if (s.pipe pl).cur.isSome then none else (s.pipe pl).last.filter ok

/-- The camera frame that an input in through mode shows, as chosen at its first line. -/
def State.throughFrame (s : State) (c i : Nat) : Option Frame :=
  let x := s.pipe (s.cvp c P.LI_PIPELINE i)
  match SMap.get (fun _ => 0) (s.canvas c).through i with
  | 0 => none
  | t + 1 =>
    let is := fun (f : Frame) => f.start == t
    (x.cur.filter is).orElse fun _ => x.last.filter is

/-- The lines of a frame that row `y` of the scaler's output needs (Table 1-7): four rows of the scaler, two more below for demosaic, and two for spatial
noise reduction. -/
def State.linesNeeded (s : State) (p : Nat) (f : Frame) (y : Nat) : Nat :=
  let k := s.scalerOf p f.fmt
  let n := (scalerPos k.y0 k.stepY y).1
  let row := (List.range 4).foldl (fun m t => max m (k.y0 + reflect k.cropH (n - 2 + (t : Nat) - k.y0))) 0
  min f.fmt.height (row + 3 + (if (s.getP (P.pl p P.PL_STAGE_EN) 0).testBit 2 then 2 else 0))

/-- A picture row of the newest complete buffer of a store (HOLD). -/
def State.heldPixel (s : State) (pl x y : Nat) : Option Rgb :=
  match s.store pl with
  | some k => match k.newest with
    | some b => some (((k.bufs.getD b {}).img.getD y []).getD x {})
    | none => none
  | none => none

/-- What a source contributes at a pixel: premultiplied components and alpha, or nothing. -/
def State.sourcePixel (s : State) (c p src x y : Nat) (pics : Nat → Option (Nat × Nat)) (offAt : SMap Nat) (lost : Nat) : Option (Rgb × Nat) :=
  match s.sourceRect c p src pics with
  | none => none
  | some (x0, y0, w, h) =>
    if x < x0 ∨ x0 + w ≤ x ∨ y < y0 ∨ y0 + h ≤ y then none
    else
      let isOff := match SMap.find src offAt with
        | some o => decide (o ≤ y * 65536 + x)
        | none => false
      if src < 8 then
        if isOff then none
        else
          let fl := s.cvp c P.LY_FLAGS src
          let f := if s.cvp c P.LY_SOURCE src = 0 then s.cvp c P.LY_FORMAT src else 6
          let row := SMap.get (fun _ => []) (s.canvas c).fetched (src * 65536 + y)
          let px := layerPixel f (fl.testBit 1) row (x - x0)
          let dec := fun (k : Nat) => decodeEntry (s.cvp c P.LY_XFER src) (s.cvp c P.LY_WHITE src) (s.cvp c P.OC_WHITE_NITS 0) k
          some (applyOpacity (fl.testBit 0) (s.cvp c P.LY_OPACITY src) ⟨dec px.1.1, dec px.1.2.1, dec px.1.2.2⟩ px.2)
      else
        let i := src - 8
        let pl := s.cvp c P.LI_PIPELINE i
        let op := s.cvp c P.LI_OPACITY i
        let shown : Option Rgb :=
          if s.cvp c P.LI_MODE i = 1 then (s.throughFrame c i).map fun f => s.pipeOutput pl f (x - x0) (y - y0)
          else match SMap.get (fun _ => 0) (s.canvas c).selected i with
            | 0 => none
            | b + 1 => (s.store pl).map fun k => (((k.bufs.getD b {}).img.getD (y - y0) []).getD (x - x0) {})
        let black := applyOpacity false op {} 0x10000
        if isOff || lost.testBit i || shown.isNone then
          match s.cvp c P.LI_LOSS i with
          | 0 => none
          | 1 => some black
          | _ =>
            if isOff && s.cvp c P.LI_MODE i == 2 then some black
            else match s.heldPixel pl (x - x0) (y - y0) with
              | some v => some (applyOpacity false op v 0x10000)
              | none => some black
        else shown.map fun v => applyOpacity false op v 0x10000

/-- The composed pixel (R199). -/
def State.composePixel (s : State) (c p x y : Nat) (pics : Nat → Option (Nat × Nat)) (offAt : SMap Nat) (lost : Nat) : Rgb :=
  (List.range 16).foldl (init := Rgb.of fun k => s.cvp c P.CV_BACKGROUND k) fun d i =>
    let src := s.cvp c P.CV_ZORDER i
    if 16 ≤ src then d
    else match s.sourcePixel c p src x y pics offAt lost with
      | none => d
      | some (v, a) => blendOver (if src < 8 then s.cvp c P.LY_BLEND src else s.cvp c P.LI_BLEND (src - 8)) d v a

/-- The first pixel of line `y` that a source must supply and that its buffer lacks (R200, R285). -/
def State.missingPixel (s : State) (c p src y : Nat) (late : List (Nat × Nat)) (pics : Nat → Option (Nat × Nat)) (lost : Nat) : Option Nat :=
  match s.sourceRect c p src pics with
  | none => none
  | some (x0, y0, w, h) =>
    if y < y0 ∨ y0 + h ≤ y ∨ (SMap.find src (s.canvas c).offAt).isSome ∨ (8 ≤ src ∧ lost.testBit (src - 8)) then none
    else
      let x1 := min (x0 + w) (s.cvp c P.CV_WIDTH 0)
      let op := (late.filter fun e => e.1 == src && decide (x0 ≤ e.2 ∧ e.2 < x1)).map Prod.snd
      let own : List Nat :=
        if src < 8 then
          let f := if s.cvp c P.LY_SOURCE src = 0 then s.cvp c P.LY_FORMAT src else 6
          match SMap.find (src * 65536 + y) (s.canvas c).fetched with
          | none => [x0]
          | some row => if row.length < layerBpp f * (x1 - x0) then [x0 + row.length / layerBpp f] else []
        else if s.cvp c P.LI_MODE (src - 8) = 2 then
          match SMap.find (src * 65536 + y) (s.canvas c).fetched with
          | none => [x0]
          | some row => if row.length < x1 - x0 then [x0 + row.length] else []
        else match s.throughFrame c (src - 8) with
          | some f =>
            if f.complete || decide (s.linesNeeded (s.cvp c P.LI_PIPELINE (src - 8)) f (y - y0) ≤ f.lines.length) then [] else [x0]
          | none => []
      match op ++ own with
      | [] => none
      | a :: r => if x1 ≤ x0 then none else some (r.foldl min a)

/-- An input becomes lost in the phase raster in progress (R198): counted once per raster, posted at the first. -/
def State.loseInput (c i : Nat) (s : State) : State :=
  if (s.canvas c).lost.testBit i then s
  else
    let s1 := (s.modCanvas c fun x => { x with lost := setBit x.lost i }).bumpSat (P.cv c P.LI_LOSS_COUNT) i 1
    if (s1.canvas c).lostPosted.testBit i then s1
    else (s1.modCanvas c fun x => { x with lostPosted := setBit x.lostPosted i }).postCv 0x52 c (i + at' 4 1 + at' 8 (s.cvp c P.LI_LOSS i))

/-- An input in through mode comes to its first line: it takes its camera frame, or is lost (R196, R198). -/
def State.takeThrough (c p i : Nat) (s : State) : State :=
  match s.throughPick c p i with
  | none => s.loseInput c i
  | some f => s.modCanvas c fun x => { x with through := SMap.set (fun _ => 0) x.through i (f.start + 1) }

/-- A source underruns at a pixel: it is switched off for the rest of the phase raster (R201). -/
def State.underrun (c p src y x : Nat) (s : State) : State :=
  let s1 := s.modCanvas c fun k => { k with offAt := SMap.ins src (y * 65536 + x) k.offAt, underruns := k.underruns + 1 }
  let s2 := ((s1.atLeast ((s.composeTime c p y + x / 8 * subTick * 5 / 6) / subTick)).bumpSat (P.cv c P.CV_UNDERRUNS) 0 1).postCv 0x13 c
    (p + at' 8 src + at' 16 y + at' 32 x)
  if 8 ≤ src then s2.loseInput c (src - 8) else s2

/-- Sources switched off so far, by source code. -/
def Canvas.offMask (x : Canvas) : Nat := x.offAt.foldl (fun m e => setBit m e.1) 0

/-! ### Output colour stage (R164 to R173) -/

/-- The contents of the uniformity bank that canvas `c` reads, from offset `o`. -/
def State.unifNum (s : State) (bank o n : Nat) : Nat :=
  ofLE (takeBytes (fun k => tableDefault (tableBase 0x0003 0 + k)) (if bank = 0 then s.colour.bank0 else s.colour.bank1) o n)

/-- A tile's uniformity binding in a bank: ENABLE and the rest (Table 5-9). -/
def State.unifBinding (s : State) (bank loop hop : Nat) : Bool × UnifBinding :=
  let v := s.unifNum bank (0xC00000 + 12 * (loop * 32 + hop - 1)) 4
  (v.testBit 23, { base := v % 2 ^ 20, size := v / 2 ^ 20 % 4, interp := v.testBit 22 })

/-- The cells that a binding of a tile of `w` by `h` takes. -/
def UnifBinding.cells (k : UnifBinding) (w h : Nat) : Nat := cdiv w (2 ^ (3 + k.size)) * cdiv h (2 ^ (3 + k.size))

/-- The gain and offset of component `k` of cell `n`. -/
def State.unifCell (s : State) (bank k n : Nat) : Nat × Int := (s.unifNum bank (12 * n + 2 * k) 2, signed 16 (s.unifNum bank (12 * n + 6 + 2 * k) 2))

/-- The values of a composed pixel after the wall matrix with phase gain, and after the tone map (R165, R166). -/
def State.wallTone (s : State) (c p : Nat) (v : Rgb) : Rgb × Rgb :=
  let en := s.cvp c P.OC_EN 0
  let m := wallStage (en.testBit 0) ((List.range 9).map fun i => s.getPI (P.cv c P.OC_MATRIX) i) (s.cvp c P.OC_PHASE_GAIN p) v
  (m, if en.testBit 1 then toneStage (s.cvp c P.OT_MODE 0) (fun i => s.tableNum 0x0008 c (4 * i) 3) m else m)

/-- The uniformity output for a tile at its local column and row; `none` is a pixel of no tile (R168). A pixel that reads a cell with an uncorrectable
error has gain 1.0 and offset 0 (R172). -/
def State.unifOut (s : State) (c : Nat) (tile : Option (Nat × Nat × Nat × Nat)) (v : Rgb) : Rgb :=
  match tile with
  | none => v
  | some (loop, hop, tx, ty) =>
    let bank := s.cvp c P.OC_UNIF_BANK 0
    let b := s.unifBinding bank loop hop
    if !(s.cvp c P.OC_EN 0).testBit 2 || !b.1 || s.colour.faults.contains (loop * 32 + hop - 1) then v
    else
      let d := s.tileDims loop hop
      let taps := unifTaps b.2 d.1 d.2 tx ty
      if taps.any fun e => s.colour.badCells.contains e.1 then v
      else Rgb.of fun k => let go := unifAt b.2 taps (s.unifCell bank k); unifApply go.1 go.2 (v.get k)

/-- The dither values of the pixels of a line, and the lanes' LFSRs after it (R169). -/
def State.lineDither (s : State) (c p y w : Nat) : List Int × List Nat :=
  let x := s.canvas c
  match s.cvp c P.OC_DITHER 0 with
  | 0 => (List.replicate w 0, x.lfsr)
  | 1 => ((List.range w).map fun xx => orderedDither (s.cvp c P.OC_DITHER_TEMPORAL 0 == 1) x.tag p xx y, x.lfsr)
  | _ =>
    let step := fun (l k : Nat) => lfsrSteps (x.lfsr.getD l 1) (32 * (k + 1))
    ((List.range w).map fun xx => randomDither (step (xx % 8) (xx / 8)), (List.range 8).map fun l => if w / 8 = 0 then x.lfsr.getD l 1 else step l (w / 8 - 1))

/-- Where the tile-local column and row of an entry fall for canvas pixel (x, y) (R220, R228). -/
def MapEntry.local (e : MapEntry) (dims : Nat × Nat) (x y : Nat) : Nat × Nat :=
  (if e.mx then dims.1 - 1 - (x - e.x) else x - e.x, if e.my then dims.2 - 1 - (y - e.y) else y - e.y)

/-- The key of a tile's row in `Canvas.out`. -/
abbrev outKey (loop hop y : Nat) : Nat := (loop * 32 + hop - 1) * 65536 + y

/-- A composed line passes the output colour stage: each covering tile's drive codes are handed to Midway, R, G, B of each column in canvas
order, and clipped pixels are counted (R164, R169). -/
def State.outputLine (c p y : Nat) (row : List Rgb) (s : State) : State :=
  let w := row.length
  let (dith, lf) := s.lineDither c p y w
  let tone := row.map fun v => (s.wallTone c p v).2
  let entries := (s.portMap c).filter fun e => let d := s.tileDims e.loop e.hop; decide (e.y ≤ y ∧ y < e.y + d.2)
  let raws := fun (tile : Option (Nat × Nat × Nat × Nat)) (x : Nat) =>
    let u := s.unifOut c tile (tone.getD x {})
    (List.range 3).map fun k => driveRaw (u.get k) (dith.getD x 0)
  let copyOf := fun (e : MapEntry) (x : Nat) =>
    let l := e.local (s.tileDims e.loop e.hop) x y
    raws (some (e.loop, e.hop, l.1, l.2)) x
  let above := fun (l : List Int) => l.any fun v => decide (65535 < v)
  let clips := ((List.range w).filter fun x =>
    let here := entries.filter fun e => decide (e.x ≤ x ∧ x < e.x + (s.tileDims e.loop e.hop).1)
    if here.isEmpty then above (raws none x) else here.any fun e => above (copyOf e x)).length
  let out := entries.foldl (init := (s.canvas c).out) fun m e =>
    SMap.ins (outKey e.loop e.hop y)
      ((span e.x (e.x + (s.tileDims e.loop e.hop).1)).flatMap fun x => (copyOf e x).map fun v => (clampI 0 65535 v).toNat) m
  s.modCanvas c fun k => { k with out := out, lfsr := lf, clips := k.clips + clips }

/-- The dither of one pixel of a phase raster (R169). -/
def State.pixelDither (s : State) (c p x y : Nat) : Int :=
  match s.cvp c P.OC_DITHER 0 with
  | 0 => 0
  | 1 => orderedDither (s.cvp c P.OC_DITHER_TEMPORAL 0 == 1) (s.canvas c).tag p x y
  | _ => randomDither (lfsrSteps (lfsrSeed (s.canvas c).tag c (x % 8) p) (32 * (y * (s.cvp c P.CV_WIDTH 0 / 8) + x / 8 + 1)))

/-- The stages of a probed canvas pixel, for the first tile that holds it (R177). -/
def State.probeCanvas (s : State) (c p x y : Nat) (v : Rgb) : Nat :=
  let tile := (s.portMap c).find? fun e =>
    let d := s.tileDims e.loop e.hop
    decide (e.x ≤ x ∧ x < e.x + d.1 ∧ e.y ≤ y ∧ y < e.y + d.2)
  let (m, t) := s.wallTone c p v
  let at0 := tile.map fun e => let l := e.local (s.tileDims e.loop e.hop) x y; (e.loop, e.hop, l.1, l.2)
  let u := s.unifOut c at0 t
  let code := Rgb.of fun k => driveCode (u.get k) (s.pixelDither c p x y)
  probeResult (s.canvas c).tag ((tile.map (·.loop)).getD 0xFFFF) ((tile.map (·.hop)).getD 0) [v, m, t, u, code]

/-- The result that line `y` of a phase raster gives a probe: its show period started after the command was taken, and the line has the pixel. -/
def State.rasterProbe (s : State) (c p y : Nat) (row : List Rgb) (q : Probe) : Option Nat :=
  if q.canvas && q.unit == c && q.phase == p && q.y == y && decide (q.since * subTick ≤ (s.canvas c).start ∧ q.x < row.length) then
    some (s.probeCanvas c p q.x y (row.getD q.x {}))
  else none

/-! ### Lines, blanking and fetches (R181, R200, R202) -/

/-- An event kind of CV_EVENT_EN is enabled for phase `p` (R202). -/
def State.eventEnabled (s : State) (c kind p : Nat) : Bool :=
  (s.cvp c P.CV_EVENT_EN 0).testBit kind && (s.cvp c P.CV_EVENT_EN 0).testBit (4 + p)

/-- A line of a phase raster (R179, R199 to R202): line events, underruns in order, composition, and the output colour stage. -/
def State.canvasLine (c p y : Nat) (late : List (Nat × Nat)) (pics : Nat → Option (Nat × Nat)) (s : State) : State :=
  let w := s.cvp c P.CV_WIDTH 0
  let h := s.cvp c P.CV_HEIGHT 0
  let s0 := (s.atLeast (s.composeTime c p y / subTick)).modCanvas c fun x => { x with line := y + 1 }
  let off := at' 16 (s0.canvas c).offMask
  let s1 := (List.range 2).foldl (init := s0) fun t m =>
    if t.cvp c P.CV_LINE_MATCH m == y && t.eventEnabled c 1 p then t.postCv 0x11 c (p + at' 2 m + at' 16 y) else t
  let s2 := if y = h && s1.eventEnabled c 0 p then s1.postCv 0x10 c (p + off) else s1
  if h ≤ y then s2
  else
    let thru := (List.range 8).filter fun i =>
      s2.inputActive c i && (s2.cvp c P.LI_PHASES i).testBit p && s2.cvp c P.LI_MODE i == 1 && s2.cvp c P.LI_POS i / 65536 == y
    let s3 := thru.foldl (fun t i => t.takeThrough c p i) s2
    let lost := (s3.canvas c).lost
    let miss := ((List.range 16).filterMap fun src => (s3.missingPixel c p src y late pics lost).map fun x => (x / 8, src, x)).mergeSort
      fun a b => decide (a.1 < b.1 ∨ (a.1 = b.1 ∧ a.2.1 ≤ b.2.1))
    let lostBefore := lost
    let s4 := miss.foldl (fun t e => t.underrun c p e.2.1 y e.2.2) s3
    let row := (List.range w).map fun x => s4.composePixel c p x y pics (s4.canvas c).offAt lostBefore
    let s5 := s4.modCanvas c fun k => { k with rows := SMap.ins y row k.rows, fetched := k.fetched.filter fun e => e.1 % 65536 != y }
    (s5.outputLine c p y row).captureProbes (s5.rasterProbe c p y row)

/-- LAYER_FETCH's reads for line `y`: of a layer's row the bytes before the first poisoned one, of a buffered input its row (R200, R285). A read
of unmapped memory is an address fault (R275). -/
def State.fetchLine (c src y : Nat) (pics : Nat → Option (Nat × Nat)) (s : State) : State :=
  let w := s.cvp c P.CV_WIDTH 0
  if src < 8 then
    match s.layerOf c src (s.pictureOf c pics) with
    | none => s
    | some k =>
      if y < k.y ∨ k.y + k.h ≤ y then s
      else
        let a := k.base + (y - k.y) * k.stride
        let n := layerBpp k.format * (min (k.x + k.w) w - k.x)
        let s1 := s.demandRead a n
        let l := s1.devRead a (s1.goodBytes a n)
        let s2 := if (s.firstUnmapped a n).isSome then s1.logFault 0x9 0 0x0602 0 else s1
        s2.modCanvas c fun k => { k with fetched := SMap.ins (src * 65536 + y) l k.fetched }
  else
    let i := src - 8
    match s.store (s.cvp c P.LI_PIPELINE i) with
    | none => s
    | some k =>
      let y0 := s.cvp c P.LI_POS i / 65536
      let x0 := s.cvp c P.LI_POS i % 65536
      if s.cvp c P.LI_MODE i ≠ 2 ∨ y < y0 ∨ y0 + k.height ≤ y then s
      else
        let b := SMap.get (fun _ => 0) (s.canvas c).selected i - 1
        let a := k.base + (b * k.height + (y - y0)) * k.width * 8
        let n := min (x0 + k.width) w - x0
        let s1 := s.demandRead a (8 * n)
        let l := List.replicate (((s1.firstPoison a (8 * n)).getD (8 * n)) / 8) 0
        s1.modCanvas c fun k => { k with fetched := SMap.ins (src * 65536 + y) l k.fetched }

/-- Output `n` of PHASE_SYNC_OUT is driven by the canvas whose CV_PSO_PHASES is not 0 (R186). -/
def State.psoCanvas (s : State) (n : Nat) : Option Nat := (List.range 16).find? fun c => s.cvp c P.CV_PSO_PHASES n != 0

/-- Output `n` rises for phase `p` of the show period that starts at sub-tick `b`: on the first tick at or after *B*_p + CV_PSO_OFFSET. -/
def State.riseAt (s : State) (c n b : Nat) : Nat := cdiv b subTick + s.cvp c P.CV_PSO_OFFSET n

/-- PHASE_SYNC_RISE (R186): output `n` rises for phase `p` in its mask, while the driving canvas runs, and not in DARK. The rise of a late phase whose
offset passes the end of its show period belongs to the show period before. -/
def execPhaseSyncRise (n phase : Nat) (s : State) : Result :=
  guarded (.phaseSyncRise n phase) s <|
    match s.psoCanvas n with
    | none => s
    | some c =>
      let x := s.canvas c
      if s.cvState c = 2 ∧ s.powerState ≠ 2 ∧ phase < s.cvp c P.CV_PHASES 0 ∧ (s.cvp c P.CV_PSO_PHASES n).testBit phase = true then
        let b := s.phaseTime c phase
        let before := x.prevStart.map fun a => s.riseAt c n (b - (x.start - a))
        let t := match before with
          | some u => if s.now ≤ u then u else s.riseAt c n b
          | none => s.riseAt c n b
        let s1 := s.atLeast t
        { s1 with cv := { s1.cv with pso := setBit s1.cv.pso n
                                     psoRise := SMap.set (fun _ => (0, 0)) s1.cv.psoRise n (t, s.cvp c P.CV_PSO_WIDTH n) } }
      else s

/-- PHASE_SYNC_FALL (R186), as tick `t` has come: the output falls CV_PSO_WIDTH after it rose; a pulse in progress completes its width whatever the
canvas does. -/
def execPhaseSyncFall (n t : Nat) (s : State) : Result :=
  guarded (.phaseSyncFall n t) s <|
    let r := SMap.get (fun _ => (0, 0)) s.cv.psoRise n
    if s.cv.pso.testBit n ∧ r.1 + r.2 ≤ t then
      let s := s.atLeast (r.1 + r.2)
      { s with cv := { s.cv with pso := clrBit s.cv.pso n } }
    else s

/-! ### The uniformity bank in use (R173) -/

/-- A canvas switches to a bank, posting UNIF_SWAP (R173). -/
def State.switchBank (c bank : Nat) (s : State) : State :=
  if s.cvp c P.OC_UNIF_BANK 0 = bank then s else (s.setP (P.cv c P.OC_UNIF_BANK) 0 bank).postCv 0x4D c bank

/-- A canvas reaches a show period boundary, or does not run, with a commit's bank filled: it switches. -/
def State.unifSwitch (c : Nat) (s : State) : State :=
  match s.colour.commit with
  | none => s
  | some k =>
    if k.copied then
      (State.switchBank c s.colour.newest { s with colour := { s.colour with commit := some { k with waiting := k.waiting.filter (· != c) } } })
    else s

/-! ### States (R183, R184) -/

/-- A show period ends: its underruns and its abandoned tile frames are posted, its clipped pixels reported (R201, R221, Table 5-12). -/
def State.endShow (c : Nat) (s : State) : State :=
  let x := s.canvas c
  let n := SMap.get (fun _ => 0) s.mw.abandoned c
  let s1 := if x.underruns = 0 then s else s.postCv 0x08 c (1 + at' 8 x.underruns)
  let s2 := if n = 0 then s1 else State.postCv 0x08 c (at' 8 n) { s1 with mw := { s1.mw with abandoned := SMap.set (fun _ => 0) s1.mw.abandoned c 0 } }
  (s2.setP (P.cv c P.OC_CLIP_COUNT) 0 x.clips).modCanvas c fun y => { y with underruns := 0, clips := 0 }

/-- A canvas enters a state, posting CANVAS_STATE with a reason of Table 6-8. Outside RUNNING it reads nothing and shows nothing, and a filled
uniformity bank is its own at once (R173); in STOPPED it holds no reservation (R183). -/
def State.enterCanvas (c new reason : Nat) (s : State) : State :=
  let old := s.cvState c
  let s1 := ((s.setP (P.cv c P.CV_STATE) 0 new).postCv 0x50 c (new + at' 8 old + at' 16 reason))
  let s2 := if new = 2 then s1 else (s1.modCanvas c fun x => { x with
      composing := false, offAt := [], lost := 0, selected := [], through := [], fetched := [], rows := [], out := [], picture := [], underruns := 0
      prevStart := none }).unifSwitch c
  let s3 := if new = 0 then ((List.range 8).foldl (fun t i => t.setP (P.cv c P.LI_MODE) i 0) s2).fitStores.1 else s2
  s3.canvasReport c

/-- A canvas is ARMED at master period boundary `b`: its first show period starts CV_START_OFFSET later, and its reservations are made (R180, R183). -/
def State.armCanvas (c b reason : Nat) (s : State) : State :=
  ((s.modCanvas c fun x => { x with next := s.corrected b (b + s.cvp c P.CV_START_OFFSET 0 * subTick), nextRem := 0 }).enterCanvas c 1 reason).fitStores.1

/-! ### Commands (R205, R206) -/

/-- Where a canvas's writes take effect: its show period boundary, or the master period boundary in STOPPED and RESTART (R36, R183). -/
def State.canvasBoundary (s : State) (c : Nat) : Boundary :=
  if s.cvState c = 0 ∨ s.cvState c = 3 then .master else .show c

def layerFlipSpec : OpSpec := { op := 0x0301, len := fun c => c.opLen == 68, rsvd := 0xFFFF0000 }

/-- LAYER_FLIP from step 7 on: the bases are checked under R191 and staged together; the reply is owed at the boundary. -/
def layerFlipBody : Body := fun q s =>
  let c := q.c.f 0 8
  let mask := q.c.f 8 8
  if 16 ≤ c ∨ mask = 0 then (s, .err cBAD_PARAM)
  else
    let ls := (List.range 8).filter fun l => mask.testBit l
    let base := fun (l : Nat) => q.c.f (32 + 64 * l) 64
    let w := ls.map fun l => (P.cv c P.LY_BASE, l, base l)
    let v := s.preview.putParams w
    if ls.any fun l => !v.layerRange c l P.LY_BASE then (s, .err 0x39)
    else if ls.any fun l => s.claimedByOther q.c.win (pkey (P.cv c P.LY_BASE) l) then (s, .err cBUSY)
    else
      let g : Staged := { ats := [s.canvasBoundary c], what := .params w, ticket := none, left := 0 }
      let s1 := (s.stage [g]).claim q.c.win (ls.map fun l => pkey (P.cv c P.LY_BASE) l)
      (s1.modCanvas c fun x => { x with flips := x.flips ++ ls.map fun l => (l, base l, if q.c.immediate then 0 else q.tk) },
        if q.c.immediate then .ok else .wait)

/-- LAYER_FLIP (R192, R205). -/
def execLayerFlip (c : Cmd) (s : State) : Result := guarded (.layerFlip c) s (submit layerFlipSpec layerFlipBody c s)

/-- The LAYER_FLIPs `all` of a canvas, at their boundary: one whose base is in force posts LAYER_FLIP and completes with the show period's frame tag; one
whose base was replaced completes with ABORTED (R192, R205). -/
def State.finishFlips (c tag : Nat) (all : List (Nat × Nat × Nat)) (s : State) : State :=
  let s0 := s.modCanvas c fun x => { x with flips := x.flips.filter fun e => !all.contains e }
  let good := fun (e : Nat × Nat × Nat) => s.cvp c P.LY_BASE e.1 == e.2.1
  let s1 := (List.range 8).foldl (fun t l => if all.any fun e => e.1 == l && good e then t.postCv 0x53 c (l + at' 32 (s.cvp c P.LY_BASE l % 2 ^ 32)) else t) s0
  ((all.map fun e => e.2.2).eraseDups).foldl (fun t tk => if tk = 0 then t
    else if (all.filter fun e => e.2.2 == tk).all good then t.finalReply tk cOK 4 tag else t.finalReply tk cABORTED 0 0) s1

/-- A LAYER_FLIP's base is still staged for a boundary to come. -/
def State.flipStaged (s : State) (c : Nat) (e : Nat × Nat × Nat) : Bool := s.stagedValue (P.cv c P.LY_BASE) e.1 == some e.2.1

/-- The LAYER_FLIPs of a canvas whose bases are no longer staged have taken effect or been replaced; a command's layers settle together (R192). -/
def State.settleFlips (c tag : Nat) (s : State) : State :=
  let fl := (s.canvas c).flips
  let held := fun (e : Nat × Nat × Nat) => if e.2.2 = 0 then s.flipStaged c e else fl.any fun g => g.2.2 == e.2.2 && s.flipStaged c g
  match fl.filter fun e => !held e with
  | [] => s
  | l => s.finishFlips c tag l

def canvasStatusSpec : OpSpec := .fixed 0x0302 1

/-- CANVAS_STATUS from step 7 on (Table 6-12). -/
def canvasStatusBody : Body := fun q s =>
  let c := q.c.f 0 8
  if 16 ≤ c then (s, .err cBAD_PARAM)
  else
    let x := s.canvas c
    let st := s.cvState c
    let modes := (List.range 8).foldl (fun m i => m + at' (2 * i) (s.cvp c P.LI_MODE i)) 0
    (s, .done cOK 32 (st + at' 8 (s.cvp c P.CV_PHASES 0) + at' 16 (s.cvp c P.CV_SOURCES_OFF 0) + at' 32 (if st = 2 then x.tag else 0)
      + at' 64 modes + at' 80 x.lostPrev + at' 96 (s.cvp c P.CV_UNDERRUNS 0) + at' 128 (s.cvp c P.CV_BW_RESERVED 0)
      + at' 160 (s.cvp c P.CV_COMPOSE_LOAD 0) + at' 192 (if st = 0 ∨ st = 3 then 0 else x.next / subTick)))

/-- CANVAS_STATUS (R206). -/
def execCanvasStatus (c : Cmd) (s : State) : Result := guarded (.canvasStatus c) s (submit canvasStatusSpec canvasStatusBody c s)

end Sys2Proof.Machine
end

