-- ==== Sys2Proof/Machine/Cxl.lean ====
section
/-! DEFINITION. Host buffers in DRAM, and CXL memory: expanders, regions, flushes, poison, verification, removal, attention buttons (R278, R279, R292 to R304,
R440). -/

namespace Sys2Proof.Machine

/-! ### Host buffers (R278, R279) -/

/-- Memory completion codes (Table 9-11). -/
abbrev cNOT_MAPPED : Nat := 0x50
abbrev cREGION_OFFLINE : Nat := 0x51
abbrev cEXPANDER_UNFIT : Nat := 0x52
abbrev cEXPANDER_ABSENT : Nat := 0x53

def memAllocSpec : OpSpec := { op := 0x0601, len := fun c => c.opLen == 12, rsvd := 0xFFFFFF00 }

/-- MEM_ALLOC (R277, R278): QUOTA before NO_RESOURCE. -/
def memAllocBody : Body := fun k s =>
  let cv := k.c.f 0 8
  let n := k.c.f 32 64
  let mib := 2 * cdiv n pageBytes
  if !(cv == 2 || cv == 3) ∨ n = 0 then (s, .err cBAD_PARAM)
  else if k.c.win < 64 ∧ s.getP P.MEM_WINDOW_QUOTA k.c.win < s.getP P.MEM_WINDOW_USED k.c.win + mib then (s, .err cQUOTA)
  else match s.allocBuffer cv n (.window k.c.win) with
    | (t, .base a) => (t, .done cOK 8 a)
    | (t, .fail code) => (t, .err code)

def execMemAlloc (c : Cmd) (s : State) : Result := guarded (.memAlloc c) s (submit memAllocSpec memAllocBody c s)

/-- The window that owns a buffer, if MEM_ALLOC allocated it. -/
def Buffer.window (b : Buffer) : Option Nat := match b.owner with
  | .window w => some w
  | _ => none

/-- The window, or W00, may use the buffer (R278). -/
def Buffer.allows (b : Buffer) (w : Nat) (priv : Bool) : Bool := b.window == some w || priv

/-- MEM_FREE of the buffer must wait: a layer's base lies in it, a LAYER_FLIP names it, or a codec feed reads it (R278). -/
def State.bufferBusy (s : State) (b : Buffer) : Bool :=
  let inside := fun (a : Nat) => decide (b.base ≤ a ∧ a < b.base + b.bytes)
  ((List.range 16).any fun c => ((List.range 8).any fun l =>
      inside (s.cvp c P.LY_BASE l) || (s.stagedValue (P.cv c P.LY_BASE) l).any inside) || (s.canvas c).flips.any fun f => inside f.2.1)
    || s.vc.engines.any fun e => e.2.feeds.any fun f => f.source.any fun r => inside r.1

def memFreeSpec : OpSpec := { op := 0x0602, len := fun c => c.opLen == 8 }

/-- MEM_FREE (R278). -/
def memFreeBody : Body := fun k s =>
  match s.dram.buffers.find? fun b => b.base == k.c.f 0 64 && b.window.isSome with
  | none => (s, .err cNOT_MAPPED)
  | some b =>
    if !b.allows k.c.win k.priv then (s, .err cNOT_PERMITTED)
    else if s.bufferBusy b then (s, .err cBUSY)
    else (s.freeBuffer b.base, .ok)

def execMemFree (c : Cmd) (s : State) : Result := guarded (.memFree c) s (submit memFreeSpec memFreeBody c s)

/-- The host buffer that holds the whole range. -/
def State.hostBuffer (s : State) (a n : Nat) : Option Buffer :=
  s.dram.buffers.find? fun b => b.window.isSome && decide (b.base ≤ a ∧ a + n ≤ b.base + b.bytes)

/-- The operands that MEM_WRITE and MEM_READ share, from step 7 of R62 on (R279). -/
def memMove (move : Nat → Nat → Nat → State → State × Ans) : Body := fun k s =>
  let a := k.c.f 0 64
  let h := k.c.f 64 64
  let n := k.c.f 128 32
  if h = 0 ∨ n = 0 ∨ 0x1000000 < n then (s, .err cBAD_PARAM)
  else match s.hostBuffer a n with
    | none => (s, .err cNOT_MAPPED)
    | some b => if b.allows k.c.win k.priv then move a h n s else (s, .err cNOT_PERMITTED)

def memWriteSpec : OpSpec := { op := 0x0603, len := fun c => c.opLen == 20, bus := fun _ => false }

/-- MEM_WRITE (R279): with a DMA fault, exactly the bytes before it are written. -/
def memWriteBody : Body := memMove fun a h n s =>
  let l := s.hostRead h n
  let s1 := s.devWrite a l 32
  if l.length = n then (s1, .ok) else (s1, .done cABORTED 4 l.length)

def execMemWrite (c : Cmd) (s : State) : Result := guarded (.memWrite c) s (submit memWriteSpec memWriteBody c s)

def memReadSpec : OpSpec := { op := 0x0604, len := fun c => c.opLen == 20, bus := fun _ => false }

/-- MEM_READ (R279): poisoned data ends it at the first poisoned byte. -/
def memReadBody : Body := memMove fun a h n s =>
  let s := s.demandRead a n
  let m := (s.firstPoison a n).getD n
  let r := s.hostWrite h (s.devRead a m)
  if !r.2 then (r.1, .done cABORTED 4 (s.hostGood h m))
  else if m < n then (r.1, .done cMEDIA_ERROR 4 m)
  else (r.1, .ok)

def execMemRead (c : Cmd) (s : State) : Result := guarded (.memRead c) s (submit memReadSpec memReadBody c s)

/-! ### Expanders (R293) -/

abbrev expDef : Nat → Expander := fun _ => {}
abbrev regionDef : Nat → Region := fun _ => {}

def State.expander (s : State) (n : Nat) : Expander := SMap.get expDef s.cxl.exps n

def State.modExpander (n : Nat) (f : Expander → Expander) (s : State) : State :=
  { s with cxl := { s.cxl with exps := SMap.set expDef s.cxl.exps n (f (s.expander n)) } }

def State.region (s : State) (r : Nat) : Region := SMap.get regionDef s.cxl.regions r

def State.modRegion (r : Nat) (f : Region → Region) (s : State) : State :=
  { s with cxl := { s.cxl with regions := SMap.set regionDef s.cxl.regions r (f (s.region r)) } }

/-- The partner that an expander slot is. -/
abbrev expanderId (slot : Nat) : PartnerId := { kind := 4, pos := slot }

/-- A change of an expander's state posts EXPANDER_STATE (Table 9-12). -/
def State.setExpState (slot new reason : Nat) (s : State) : State :=
  let old := s.getP P.CXL_EXP_STATE slot
  if old = new then s else (s.setP P.CXL_EXP_STATE slot new).post 0x6A 0x9 (32 + slot) (new + at' 8 old + at' 16 reason)

/-- The regions defined that include the slot. -/
def State.regionsOf (s : State) (slot : Nat) : List Nat := (s.cxl.regions.filter fun e => e.2.slots.contains slot).map Prod.fst

/-- CXL_PERSIST_TOTAL and each region's base and size follow the definitions. -/
def State.regionReport (s : State) : State :=
  let bytes := fun (g : Region) => g.slots.length * g.gib * 0x40000000
  let s1 := s.setP P.CXL_PERSIST_TOTAL 0 (((s.cxl.regions.filter fun e => e.2.persistent).map fun e => bytes e.2).sum)
  (List.range 32).foldl (init := s1) fun t r => (t.setP P.CXL_REGION_BASE r (s.region r).base).setP P.CXL_REGION_SIZE r (bytes (s.region r))

/-- A change of a region's state posts REGION_STATE, and its bin follows (Tables 9-8, 9-12, 10-1). -/
def State.setRegionState (r new reason : Nat) (s : State) : State :=
  let old := s.getP P.CXL_REGION_STATE r
  if old = new then s
  else
    let s1 := (s.setP P.CXL_REGION_STATE r new).post 0x6B 0x9 (32 + (s.region r).slots.headD 0) (r + at' 8 new + at' 16 old + at' 24 reason)
    match s1.binOn r with
    | some b => s1.binRegion b new
    | none => s1

/-- Every member is present with its recorded serial number. -/
def State.membersBack (s : State) (g : Region) : Bool :=
  (g.slots.zip g.serials).all fun e =>
    s.getP P.CXL_EXP_STATE e.1 == 2 && (s.expander e.1).serial == e.2 && !(s.partner (expanderId e.1)).quarantined

/-- Some member's Dirty Shutdown Count has risen since its last flush (R298). -/
def State.dirtyRegion (s : State) (g : Region) : Bool :=
  g.persistent && g.slots.any fun n => decide ((s.expander n).recorded < (s.expander n).dirty)

/-- A read-verify pass of a region begins (R416). -/
def State.startPass (r : Nat) (s : State) : State :=
  { s with hk := { s.hk with verifyStart := SMap.set (fun _ => 0) s.hk.verifyStart r s.now } }

/-- A region is rebuilt from its labels once its members are back (R295, R298). -/
def State.rebuildRegion (r : Nat) (s : State) : State :=
  let g := s.region r
  if s.getP P.CXL_REGION_STATE r ≠ 4 ∨ !s.membersBack g then s
  else if s.dirtyRegion g then
    State.modTask 8 (fun t => { t with due := true })
      (((s.startPass r).setRegionState r 2 3).modRegion r fun x => { x with verifying := true, verifyPos := 0 })
  else s.setRegionState r 1 2

/-- The slot for an expander: its own, or one never assigned, or one whose expander is absent and in no region (R293). -/
def State.slotFor (s : State) (serial : Nat) : Option Nat :=
  match firstBelow (fun n => (s.expander n).assigned && (s.expander n).serial == serial) 32 with
  | some n => some n
  | none => match firstBelow (fun n => !(s.expander n).assigned) 32 with
    | some n => some n
    | none => firstBelow (fun n => s.getP P.CXL_EXP_STATE n == 0 && (s.regionsOf n).isEmpty) 32

/-- EXPANDER_PRESENT (R293): enumeration starts in the expander's slot; with every slot taken it is refused. -/
def execExpanderPresent (e : ExpanderInfo) (s : State) : Result :=
  guarded (.expanderPresent e) s <|
    let s := s.setP P.CXL_PORT_LINK e.port e.link
    let full := decide (16 ≤ ((List.range 32).filter fun n => s.getP P.CXL_EXP_STATE n != 0 && (s.expander n).port == e.port).length)
    match if full then none else s.slotFor e.serial with
    | none => s.post 0x6A 0x9 (16 + e.port) (5 + at' 16 5)
    | some n =>
      if s.getP P.CXL_EXP_STATE n ≠ 0 then s
      else
        let s1 := s.modExpander n fun x =>
          { serial := e.serial, port := e.port, sw := e.swPort, vol := e.volGiB, pers := e.persGiB, gpf := e.gpf, phase2Ms := e.phase2Ms, lsa := e.lsa
            locked := e.locked, type3 := e.type3, patrol := e.patrol, foreign := e.foreignLabel, dirty := e.dirtyCount
            recorded := if x.assigned && x.serial == e.serial then x.recorded else e.dirtyCount
            labels := if x.assigned && x.serial == e.serial then x.labels else [], assigned := true }
        let s2 := (((s1.setP P.CXL_EXP_SERIAL n e.serial).setP P.CXL_EXP_PORT n (e.port + at' 8 e.swPort)).setP P.CXL_EXP_CAPACITY n
          (e.volGiB + at' 32 e.persGiB)).setP P.CXL_EXP_POISON n
          (if (s.expander n).assigned && (s.expander n).serial == e.serial then s.getP P.CXL_EXP_POISON n else 0)
        State.setExpState n 1 0 { s2 with cxl := { s2.cxl with powerOff := clrBit s2.cxl.powerOff n, attention := clrBit s2.cxl.attention n } }

/-- The scrub cycle of an expander that implements Patrol Scrub Control follows CXL_PATROL_HOURS (R299). -/
def State.setPatrol (slot : Nat) (s : State) : State :=
  let h := s.getP P.CXL_PATROL_HOURS 0
  if (s.expander slot).patrol && s.getP P.CXL_EXP_STATE slot == 2 then (s.modExpander slot fun x => { x with cycle := h }).emit (.cxl 4 slot [h]) else s

/-- ENUMERATION_DONE (R293, R295, R298, R299). -/
def execEnumerationDone (slot : Nat) (s : State) : Result :=
  guarded (.enumerationDone slot) s <|
    if s.getP P.CXL_EXP_STATE slot ≠ 1 then s
    else
      let x := s.expander slot
      let s1 := if x.locked then s.setExpState slot 5 3 else if !x.type3 then s.setExpState slot 5 4 else s.setExpState slot 2 0
      let s2 := s1.partnerArrives (expanderId slot) (srcOf 0x9 (32 + slot)) x.serial
      if s2.getP P.CXL_EXP_STATE slot = 2 then
        let s3 := (if x.foreign then s2.post 0x6A 0x9 (32 + slot) (2 + at' 8 2 + at' 16 6) else s2).setPatrol slot
        (s3.regionsOf slot).foldl (fun t r => t.rebuildRegion r) s3
      else s2

/-- A removal ends without having reached step 6: its command completes (R301). -/
def State.endRemoval (slot code len result : Nat) (s : State) : State :=
  match SMap.get (fun _ => none) s.cxl.removals slot with
  | none => s
  | some m =>
    let s1 : State := { s with cxl := { s.cxl with removals := SMap.set (fun _ => none) s.cxl.removals slot none } }
    match m.ticket with
    | some tk => s1.finalReply tk code len result
    | none => s1

/-- Clip queue commands of these opcodes on these bins meet something while they are in progress. -/
def State.meetCmds (ops bins : List Nat) (fate : Nat) (s : State) : State :=
  let hit := fun (c : QCmd) => ops.contains (ofLE (c.entry.take 1)) && bins.contains (ofLE ((c.entry.drop 4).take 1)) && decide (c.fate < 2)
  { s with cq := { s.cq with pairs := s.cq.pairs.map fun e =>
    (e.1, e.2.map fun p => { p with cmds := p.cmds.map fun c => if hit c then { c with fate := fate } else c }) } }

/-- EXPANDER_SURPRISE_REMOVE (R301, R302): the slot is empty; one that was REMOVABLE has departed already. -/
def execExpanderSurpriseRemove (slot : Nat) (s : State) : Result :=
  guarded (.expanderSurpriseRemove slot) s <|
    let old := s.getP P.CXL_EXP_STATE slot
    if old = 0 then s
    else
      let s1 : State := { s with cxl := { s.cxl with blinking := clrBit s.cxl.blinking slot } }
      let s2 := s1.setExpState slot 0 (if old = 4 then 1 else 2)
      let s3 := ((s2.regionsOf slot).foldl (fun t r => if t.getP P.CXL_REGION_STATE r = 0 then t else t.setRegionState r 4 1) s2).meetCmds [1, 2, 5]
        ((s2.regionsOf slot).filterMap fun r => s2.binOn r) 0x0A
      (s3.partnerDeparts (expanderId slot)).endRemoval slot cMEDIA_ERROR 0 0

/-! ### Poison and verification (R298, R299) -/

/-- The region that holds a device address. -/
def State.regionAt (s : State) (a : Nat) : Option Nat :=
  firstBelow (fun r => s.getP P.CXL_REGION_STATE r != 0
    && decide (s.getP P.CXL_REGION_BASE r ≤ a ∧ a < s.getP P.CXL_REGION_BASE r + s.getP P.CXL_REGION_SIZE r)) 32

/-- A poisoned range on an expander, by a read, a verification or the poison list (R299). -/
def State.cxlPoison (slot kind a n : Nat) (s : State) : State :=
  let s1 := ((s.postMemError kind (32 + slot) a n).logFault 0x9 (32 + slot) 0x0603 0).bumpSat P.CXL_EXP_POISON slot 1
  match s1.regionAt a with
  | some r => s1.poisonReport r a n
  | none => s1

/-- CXL_EVENT_POLL (R299): event records are read, and the poison list's ranges reported. -/
def execCxlEventPoll (slot : Nat) (ranges : List (Nat × Nat)) (s : State) : Result :=
  guarded (.cxlEventPoll slot ranges) s <|
    let st := s.getP P.CXL_EXP_STATE slot
    if !(st == 2 || st == 3) || s.bgHeld 4 then s
    else (ranges.foldl (fun t e => t.cxlPoison slot 2 e.1 e.2) s).taskDone 4

/-- The member of a region that holds an offset: 4 KiB interleave (Table 9-6). -/
def Region.memberAt (g : Region) (o : Nat) : Nat := g.slots.getD (o / 4096 % max g.slots.length 1) 0

/-- CXL_VERIFY (R298, R299): 64 KiB of a persistent region are read back. -/
def execCxlVerify (region offset : Nat) (poisoned : Bool) (s : State) : Result :=
  guarded (.cxlVerify region offset poisoned) s <|
    let g := s.region region
    let st := s.getP P.CXL_REGION_STATE region
    let size := s.getP P.CXL_REGION_SIZE region
    if s.bgHeld 8 ∨ !g.persistent ∨ !(st == 1 || st == 2 || st == 3) ∨ size ≤ offset then s
    else
      let s1 := if poisoned then s.cxlPoison (g.memberAt offset) 4 (s.getP P.CXL_REGION_BASE region + offset) 0x10000 else s
      let m := min (offset + 0x10000) size * 1000 / size
      State.modTask 8 (fun t => { t with progress := m }) ((s1.modRegion region fun x => { x with verifyPos := offset + 0x10000 }).setP
        P.CXL_VERIFY_PROGRESS 0 m)

/-- REGION_VERIFY_DONE (R298): a SUSPECT region whose pass completes becomes ONLINE. -/
def execRegionVerifyDone (region : Nat) (s : State) : Result :=
  guarded (.regionVerifyDone region) s <|
    if !(s.region region).persistent then s
    else
      let s1 := (s.modRegion region fun x => { x with verifyPos := 0, verifying := false }).setP P.CXL_VERIFY_PROGRESS 0 0
      let s2 : State := State.taskDone 8 (State.modTask 8 (fun t => { t with progress := 0 })
        { s1 with hk := { s1.hk with verifyStart := SMap.set (fun _ => 0) s1.hk.verifyStart region s1.now } })
      if s2.getP P.CXL_REGION_STATE region = 2 then s2.setRegionState region 1 4 else s2

/-! ### Global Persistent Flush (R297) -/

/-- The present expanders that hold a persistent member. -/
def State.flushSlots (s : State) : List Nat :=
  (List.range 32).filter fun n => (s.getP P.CXL_EXP_STATE n == 2 || s.getP P.CXL_EXP_STATE n == 3)
    && (s.regionsOf n).any fun r => (s.region r).persistent

/-- The slot whose removal has reached step 4 (Table 9-9). -/
def State.removalFlush (s : State) : Option Nat :=
  (s.cxl.removals.find? fun e => e.2.any fun m => m.step == 4).map Prod.fst

/-- A trigger of R297 stands: the device is to stop, DARK is being entered, a command waits, or a removal has come to step 4. -/
def State.flushWanted (s : State) (trigger : Nat) : Bool :=
  if trigger = 0 then s.pw.stop.isSome
  else if trigger = 1 then s.pw.step == .flushing
  else if trigger = 2 then !s.cxl.flushers.isEmpty
  else trigger == 3 && s.removalFlush.isSome

/-- GPF_START (R297): the trigger that stands starts the flush, with phase 1. -/
def execGpfStart (trigger : Nat) (s : State) : Result :=
  guarded (.gpfStart trigger) s <|
    if s.cxl.gpf.isSome ∨ !s.flushWanted trigger then s
    else
      let slots := if trigger = 3 then (s.removalFlush.map fun n => [n]).getD [] else s.flushSlots
      State.emit (.cxl 1 trigger slots) { s with cxl := { s.cxl with gpf := some { trigger := trigger, start := s.now, slots := slots } } }

/-- GPF_PHASE1_DONE (R297): the completions have returned, after at most 1 ms, so the expanders flush to media. -/
def execGpfPhase1Done (t : Nat) (s : State) : Result :=
  guarded (.gpfPhase1Done t) s <|
    match s.cxl.gpf with
    | some g => if g.phase2 then s else
        let s1 := s.atLeast (min t (g.start + 1000000))
        State.emit (.cxl 2 g.trigger g.slots) { s1 with cxl := { s1.cxl with gpf := some { g with phase2 := true, flushAt := s1.now } } }
    | none => s

/-- The bins on regions whose every member has flushed: what has drained is durable. -/
def State.binsFlushed (slots late : List Nat) (s : State) : State :=
  s.binList.foldl (fun t b =>
    match t.bin? b with
    | none => t
    | some x =>
      let g := t.region x.region
      if g.slots.all fun n => (slots.contains n && !late.contains n) then
        t.setBin b (some { x with durable := ((x.clips.flatMap fun c => c.recs).filter fun r => r.wb != 0).foldl (fun m r => min m r.seq) x.seq })
      else t) s

/-- The flush ends: late expanders are logged, GPF_DONE is posted, and what waited for it goes on (R297). -/
def State.endFlush (late : List Nat) (t : Nat) (s : State) : State :=
  match s.cxl.gpf with
  | none => s
  | some g =>
    let late' := g.slots.filter fun n => late.contains n
    let s0 := s.atLeast (if late'.isEmpty then min t (g.flushAt + 8000000) else g.flushAt + 8000000)
    let us := (s0.now - g.start) / 1000
    let s1 := late'.foldl (fun u n => u.logFault 0x9 (32 + n) 0x0605 0) s0
    let s2 := (g.slots.filter fun n => !late'.contains n).foldl (fun u n => u.modExpander n fun x => { x with recorded := x.dirty }) s1
    let s3 := (s2.binsFlushed g.slots late').post 0x6C 0x9 0 (g.trigger + at' 32 us + at' 64 late'.length)
    let s4 : State := { s3 with cxl := { s3.cxl with gpf := none } }
    if g.trigger = 2 then
      s4.cxl.flushers.foldl (fun u tk => u.finalReply tk cOK 4 (wrap32 us)) { s4 with cxl := { s4.cxl with flushers := [] } }
    else if g.trigger = 3 then
      g.slots.foldl (fun u n =>
        let v := match SMap.get (fun _ => none) u.cxl.removals n with
          | some m => { u with cxl := { u.cxl with removals := SMap.set (fun _ => none) u.cxl.removals n (some { m with step := 5 }) } }
          | none => u
        (v.regionsOf n).foldl (fun w r => if w.getP P.CXL_REGION_STATE r = 3 then w.setRegionState r 4 6 else w) v) s4
    else s4

def cxlPersistFlushSpec : OpSpec := { op := 0x0614, priv := true, len := fun c => c.opLen == 0 }

/-- CXL_PERSIST_FLUSH (R297): the reply follows the flush. -/
def cxlPersistFlushBody : Body := fun k s => ({ s with cxl := { s.cxl with flushers := s.cxl.flushers ++ [k.tk] } }, .wait)

def execCxlPersistFlush (c : Cmd) (s : State) : Result := guarded (.cxlPersistFlush c) s (submit cxlPersistFlushSpec cxlPersistFlushBody c s)

/-! ### Regions (R294, R295, R298, R441) -/

/-- GiB of a slot's partition of a kind in use. -/
def State.slotUse (s : State) (slot : Nat) (persistent : Bool) : Nat :=
  ((s.cxl.regions.filter fun e => e.2.slots.contains slot && e.2.persistent == persistent).map fun e => e.2.gib).sum

/-- The lowest free GiB of a partition, from `pos` on: `want` of them, among pieces in use in rising order (R294). -/
def lowestFree : List (Nat × Nat) → Nat → Nat → List (Nat × Nat)
  | [], pos, want => if want = 0 then [] else [(pos, want)]
  | (a, n) :: r, pos, want =>
    let k := min want (a - pos)
    (if k = 0 then [] else [(pos, k)]) ++ lowestFree r (max pos (a + n)) (want - k)

/-- Where `gib` of a slot's partition of a kind would lie. -/
def State.slotPieces (s : State) (slot : Nat) (persistent : Bool) (gib : Nat) : List (Nat × Nat) :=
  let used := (s.cxl.regions.filter fun e => e.2.persistent == persistent).flatMap fun e =>
    (e.2.slots.zip e.2.parts).flatMap fun q => if q.1 = slot then q.2 else []
  lowestFree (used.mergeSort fun a b => decide (a.1 ≤ b.1)) 0 gib

/-- First-fit in the CXL region space of 32 TiB, among regions in rising order of base. -/
def fitRegion (bytes : Nat) : List (Nat × Nat) → Nat → Option Nat
  | [], a => if a + bytes ≤ 0x400000000000 then some a else none
  | (b, n) :: r, a => if a + bytes ≤ b then some a else fitRegion bytes r (max a (b + n))

def cxlRegionCreateSpec : OpSpec := { op := 0x0610, priv := true, len := fun c => c.opLen == 16, rsvd := 0xFF00FC00 }

/-- CXL_REGION_CREATE (R294, R295): the cases are checked in the order that R294 lists them. -/
def cxlRegionCreateBody : Body := fun k s =>
  let r := k.c.f 0 8
  let pers := k.c.f 8 1 == 1
  let force := k.c.f 9 1 == 1
  let ways := k.c.f 16 8
  let gib := k.c.f 32 32
  let mem := (List.range 8).map fun i => k.c.f (64 + 8 * i) 8
  let slots := mem.take ways
  if 32 ≤ r ∨ !([1, 2, 4, 8].contains ways) ∨ gib = 0 ∨ (slots.any fun n => decide (32 ≤ n)) ∨ slots.eraseDups.length ≠ ways
      ∨ ((mem.drop ways).any fun n => n != 0xFF) then (s, .err cBAD_PARAM)
  else if s.getP P.CXL_REGION_STATE r ≠ 0 then (s, .err cBUSY)
  else if slots.any fun n => s.getP P.CXL_EXP_STATE n != 2 then (s, .err cEXPANDER_ABSENT)
  else
    let free := fun (n : Nat) => (if pers then (s.expander n).pers else (s.expander n).vol) - s.slotUse n pers
    if slots.any fun n => decide (free n < gib) || ((s.expander n).foreign && !force) then (s, .err cNO_RESOURCE)
    else if pers && slots.any fun n => (!(s.expander n).gpf || !(s.expander n).lsa || decide (8 < (s.expander n).phase2Ms)) then
      (s, .err cEXPANDER_UNFIT)
    else
      let bytes := ways * gib * 0x40000000
      let l := ((s.cxl.regions.filter fun e => !e.2.slots.isEmpty).map fun e => (e.2.base, e.2.slots.length * e.2.gib * 0x40000000)).mergeSort
        fun a b => decide (a.1 ≤ b.1)
      match fitRegion bytes l 0x200000000000 with
      | none => (s, .err cNO_RESOURCE)
      | some a =>
        if pers && decide (0x100000000000 < s.getP P.CXL_PERSIST_TOTAL 0 + bytes) then (s, .err cNO_RESOURCE)
        else
          let g : Region := { persistent := pers, slots := slots, serials := slots.map fun n => (s.expander n).serial, gib := gib, base := a
                              parts := slots.map fun n => s.slotPieces n pers gib }
          let s1 := slots.foldl (fun t n => t.modExpander n fun x =>
            { x with foreign := false, labels := if x.lsa then x.labels ++ [r] else x.labels }) (s.modRegion r fun _ => g)
          ((s1.regionReport.startPass r).setRegionState r 1 0, .done cOK 8 a)

def execCxlRegionCreate (c : Cmd) (s : State) : Result := guarded (.cxlRegionCreate c) s (submit cxlRegionCreateSpec cxlRegionCreateBody c s)

def cxlRegionDeleteSpec : OpSpec := { op := 0x0611, priv := true, len := fun c => c.opLen == 1 }

/-- CXL_REGION_DELETE (R294, R441): of an OFFLINE region nothing is written to the expanders, whose labels are foreign from then on. -/
def cxlRegionDeleteBody : Body := fun k s =>
  let r := k.c.f 0 8
  if 32 ≤ r then (s, .err cBAD_PARAM)
  else
    let st := s.getP P.CXL_REGION_STATE r
    if st = 0 then (s, .err cNOT_PERMITTED)
    else if st = 3 ∨ (s.binOn r).isSome then (s, .err cBUSY)
    else
      let g := s.region r
      let s1 := s.setRegionState r 0 7
      let s2 := if st = 4 then g.slots.foldl (fun t n => t.modExpander n fun x => { x with foreign := x.lsa }) s1
                else g.slots.foldl (fun t n => t.modExpander n fun x => { x with labels := x.labels.filter (· != r) }) s1
      ((s2.modRegion r fun _ => {}).regionReport, .ok)

def execCxlRegionDelete (c : Cmd) (s : State) : Result := guarded (.cxlRegionDelete c) s (submit cxlRegionDeleteSpec cxlRegionDeleteBody c s)

def cxlRegionAcceptSpec : OpSpec := { op := 0x0612, priv := true, len := fun c => c.opLen == 1 }

/-- CXL_REGION_ACCEPT (R298). -/
def cxlRegionAcceptBody : Body := fun k s =>
  let r := k.c.f 0 8
  if 32 ≤ r then (s, .err cBAD_PARAM)
  else if s.getP P.CXL_REGION_STATE r ≠ 2 then (s, .err cNOT_PERMITTED)
  else ((s.modRegion r fun x => { x with verifying := false }).setRegionState r 1 5, .ok)

def execCxlRegionAccept (c : Cmd) (s : State) : Result := guarded (.cxlRegionAccept c) s (submit cxlRegionAcceptSpec cxlRegionAcceptBody c s)

/-! ### Expander removal (R301, R440) -/

/-- Step 1 of Table 9-9: the expander and its regions enter QUIESCING. -/
def State.startRemoval (slot policy : Nat) (ticket : Option Nat) (s : State) : State :=
  let s1 : State := { s with cxl := { s.cxl with removals := SMap.set (fun _ => none) s.cxl.removals slot (some { policy := policy, ticket := ticket }) } }
  let s2 := s1.setExpState slot 3 1
  (s2.regionsOf slot).foldl (fun t r =>
    if t.getP P.CXL_REGION_STATE r = 1 ∨ t.getP P.CXL_REGION_STATE r = 2 then t.setRegionState r 3 6 else t) s2

def cxlExpanderRemoveSpec : OpSpec := { op := 0x0613, priv := true, len := fun c => c.opLen == 2 }

/-- CXL_EXPANDER_REMOVE (R301). -/
def cxlExpanderRemoveBody : Body := fun k s =>
  let slot := k.c.f 0 8
  let pol := k.c.f 8 8
  if 32 ≤ slot ∨ (2 < pol ∧ pol ≠ 0xFF) then (s, .err cBAD_PARAM)
  else if s.getP P.CXL_EXP_STATE slot ≠ 2 then (s, .err cEXPANDER_ABSENT)
  else (s.startRemoval slot (if pol = 0xFF then s.getP P.CXL_REMOVE_POLICY 0 else pol) (some k.tk), .wait)

def execCxlExpanderRemove (c : Cmd) (s : State) : Result := guarded (.cxlExpanderRemove c) s (submit cxlExpanderRemoveSpec cxlExpanderRemoveBody c s)

/-- Everything of a bin in the write buffer has been written to it. -/
def State.drainBin (b : Nat) (s : State) : State :=
  (s.fr.wb.filter fun f => f.bins.contains b && f.phase == 2).foldl (init := s) fun t f =>
    let t1 := t.drainInto f [b]
    if f.bins == [b] then t1.wbDrop f.id else t1.wbMod f.id fun w => { w with bins := w.bins.filter (· != b) }

/-- The bins on the regions of a slot. -/
def State.slotBins (s : State) (slot : Nat) : List Nat := (s.regionsOf slot).filterMap fun r => s.binOn r

/-- Camera frames of bins on the slot's regions have still to end: their capture is suspended only at their boundary (Table 9-9). -/
def State.slotCapturing (s : State) (slot : Nat) : Bool :=
  s.fr.wb.any fun f => decide (f.phase < 2) && (s.slotBins slot).any fun b => f.bins.contains b

/-- REMOVAL_DRAIN_DONE (R301): step 2 of Table 9-9 is over, once no frame of those bins is still being captured. -/
def execRemovalDrainDone (slot : Nat) (s : State) : Result :=
  guarded (.removalDrainDone slot) s <|
    match SMap.get (fun _ => none) s.cxl.removals slot with
    | some m =>
      if 2 < m.step ∨ s.slotCapturing slot = true then s
      else (s.slotBins slot).foldl (fun t b => t.drainBin b)
        { s with cxl := { s.cxl with removals := SMap.set (fun _ => none) s.cxl.removals slot (some { m with step := 3 }) } }
    | none => s

/-- The segments of a region of `bytes` bytes (R349). -/
def regionSegs (bytes : Nat) : Nat := bytes / segBytes - 1

/-- The region that a bin's clips can be relocated into: ONLINE, persistent, of other expanders, holding no bin, of at least 8 segments. -/
def State.relocTarget (s : State) (slot : Nat) : Option Nat :=
  firstBelow (fun r => s.getP P.CXL_REGION_STATE r == 1 && (s.region r).persistent && !(s.region r).slots.contains slot && (s.binOn r).isNone
    && decide (8 ≤ regionSegs (s.getP P.CXL_REGION_SIZE r))) 32

/-- The clips that a policy relocates into `room` bytes (R301): protected ones, every one that fits (the newest first), or none. -/
def clipsToMove (policy room : Nat) (l : List Clip) : List Clip :=
  if policy = 2 then []
  else
    let prot := l.filter fun c => c.isProtected
    if policy = 0 then prot
    else
      let r := room - (prot.map Clip.bytes).sum
      let more := ((l.filter fun c => !c.isProtected).reverse.foldl (fun (a : List Nat × Nat × Bool) c =>
        if a.2.2 && decide (c.bytes ≤ a.2.1) then (c.id :: a.1, a.2.1 - c.bytes, true) else (a.1, a.2.1, false)) ([], r, true)).1
      l.filter fun c => c.isProtected || more.contains c.id

/-- The records of the clips kept are laid out afresh in a region of `segs` segments. -/
def Bin.relaid (b : Bin) (region segs : Nat) (keep : List Clip) : Bin :=
  let b0 : Bin := { b with region := region, segs := segs, quota := min b.quota (segs - 2), passes := [], hdrA := 0, hdrB := 1, gen := b.gen + 1
                           wseg := segs - 1, woff := segBytes, clips := [], recover := false }
  keep.foldl (fun x c =>
    let r := c.recs.foldl (fun (a : Bin × List Rec) q =>
      let al := Bin.allot (q.len / segBytes + 2) q.len a.1 [] []
      (al.1, a.2 ++ [{ q with pieces := al.2.1 }])) (x, [])
    { r.1 with clips := r.1.clips ++ [{ c with recs := r.2 }] }) b0

/-- Step 3 of Table 9-9 for one bin: the clips relocated and dropped and the GiB moved, or none if protected clips do not fit. -/
def State.relocateBin (b slot policy : Nat) (s : State) : Option (State × Nat × Nat × Nat) :=
  match s.bin? b with
  | none => some (s, 0, 0, 0)
  | some x =>
    let target := s.relocTarget slot
    let segs := regionSegs ((target.map fun r => s.getP P.CXL_REGION_SIZE r).getD 0)
    let room := match target with
      | some _ => (segs - 2) * segBytes
      | none => 0
    let held := x.clips.filter fun c => c.phase == 2
    let move := clipsToMove policy room held
    let drop := held.filter fun c => !(move.any fun m => m.id == c.id)
    let bytes := (move.map Clip.bytes).sum
    let gone := x.shed ++ drop.map fun c => (c.first, c.last)
    if room < bytes then none
    else match target with
      | some r =>
        if move.isEmpty then
          some ((s.setBin b (some { x with clips := [], shed := gone })).postShed b (drop.map fun c => c.id) false, 0, drop.length, 0)
        else
          let y := { x.relaid r segs move with shed := gone }
          let s1 := (s.setBin b (some y)).postShed b (drop.map fun c => c.id) false
          some (((s1.setP P.FR_BIN_QUOTA b y.quota).returnBin b).binReport b, move.length, drop.length, rdivN bytes 0x40000000)
      | none =>
        if move.isEmpty then
          some ((s.setBin b (some { x with clips := [], shed := gone })).postShed b (drop.map fun c => c.id) false, 0, drop.length, 0)
        else none

/-- RELOCATION_DONE (R301): clips are relocated or dropped; if protected clips do not fit, the regions return to ONLINE and the command fails. -/
def execRelocationDone (slot : Nat) (s : State) : Result :=
  guarded (.relocationDone slot) s <|
    match SMap.get (fun _ => none) s.cxl.removals slot with
    | none => s
    | some m =>
      if m.step ≠ 3 then s
      else
        let r := (s.slotBins slot).foldl (fun (a : Option (State × Nat × Nat × Nat)) b =>
          match a with
          | none => none
          | some (t, x, y, z) => match t.relocateBin b slot m.policy with
            | none => none
            | some (u, p, q, w) => some (u, x + p, y + q, z + w)) (some (s, 0, 0, 0))
        match r with
        | some (t, moved, dropped, gib) =>
          let n : Option Removal := some { m with step := 4, relocated := moved, dropped := dropped, gib := gib }
          { t with cxl := { t.cxl with removals := SMap.set (fun _ => none) t.cxl.removals slot n } }
        | none =>
          let s1 := s.setExpState slot 2 1
          ((s1.regionsOf slot).foldl (fun t q => if t.getP P.CXL_REGION_STATE q = 3 then t.setRegionState q 1 6 else t) s1).endRemoval slot cNO_RESOURCE 0 0

/-- SLOT_POWER_OFF (R301): step 6 of Table 9-9; the power indicator goes off, the attention indicator blinks. -/
def execSlotPowerOff (slot : Nat) (s : State) : Result :=
  guarded (.slotPowerOff slot) s <|
    match SMap.get (fun _ => none) s.cxl.removals slot with
    | none => s
    | some m =>
      if m.step ≠ 5 then s
      else
        let s1 : State := { s with cxl := { s.cxl with powerOff := setBit s.cxl.powerOff slot, attention := setBit s.cxl.attention slot } }
        (((s1.emit (.cxl 3 slot [])).setExpState slot 4 1).partnerDeparts (expanderId slot)).endRemoval slot cOK 12
          (wrap32 m.relocated + at' 32 (wrap32 m.dropped) + at' 64 (wrap32 m.gib))

/-- ATTENTION_BUTTON (R440): a press starts the 5 s blink, a second one within it cancels. -/
def execAttentionButton (slot : Nat) (s : State) : Result :=
  guarded (.attentionButton slot) s <|
    if s.cxl.blinking.testBit slot then { s with cxl := { s.cxl with blinking := clrBit s.cxl.blinking slot } }
    else if s.getP P.CXL_EXP_STATE slot = 2 then { s with cxl := { s.cxl with blinking := setBit s.cxl.blinking slot } }
    else s

/-- ATTENTION_TIMER (R440): the blink ends uncancelled, so the removal runs with CXL_REMOVE_POLICY. -/
def execAttentionTimer (slot : Nat) (s : State) : Result :=
  guarded (.attentionTimer slot) s <|
    if s.cxl.blinking.testBit slot then
      let s1 : State := { s with cxl := { s.cxl with blinking := clrBit s.cxl.blinking slot } }
      if s1.getP P.CXL_EXP_STATE slot = 2 then s1.startRemoval slot (s1.getP P.CXL_REMOVE_POLICY 0) none else s1
    else s

/-- The regions known from the labels and the boot flash record area, at start-up: OFFLINE until their members are back (R295, R425). -/
def State.regionsAtStart (s : State) : State :=
  let s1 := s.regionReport
  (s1.cxl.regions.map Prod.fst).foldl (fun t r => (t.setP P.CXL_REGION_STATE r 4)) s1

/-- The bins at start-up: those on regions that are ONLINE recover, the others are SUSPENDED (R318, R349). -/
def State.binsAtStart (s : State) : State :=
  s.binList.foldl (fun t b => t.setBinState b 5 1) s

end Sys2Proof.Machine
end

