-- ==== Sys2Proof/Machine/Genlock.lean ====
section
/-! DEFINITION. Genlock: the target and the send time of each TSYNC (R29, R95, R196). -/

namespace Sys2Proof.Machine

/-- The canvas and input that show sensor `k` in through mode. -/
def State.throughOf (s : State) (k : Nat) : Option (Nat × Nat) :=
  (s.boundPipe k).bind fun p =>
    ((List.range 16).flatMap fun c => (List.range 8).map fun i => (c, i)).find? fun e =>
      s.cvState e.1 == 2 && s.cvp e.1 P.LI_MODE e.2 == 1 && s.cvp e.1 P.LI_PIPELINE e.2 == p

/-- The through-mode offset of R29 in sub-ticks: 6 camera line times plus 200 ns, rounded up to an FCLK cycle of 1/1.2 ns. -/
def throughOffset (f : Format) : Nat :=
  let total := max f.total 1
  cdiv (6 * (6 * f.period + 200000 * total)) (5000 * total) * 5 * subTick / 6

/-- The first instant at or after `a` on a grid through `base` with the step `n`/`d`. -/
def gridFrom (base n d a : Int) : Int := base + (-((base - a) * d / n)) * n / d

/-- The target of a frame that an input in through mode shows (R196): from it the frame's line 0 SOP comes the through-mode offset before the first tile line
packet of canvas line LI_POS y, 100 ns after that line's compose time. The frames follow each other by the Carousel phase interval. -/
def State.throughTarget (s : State) (c i : Nat) (f : Format) (a : Int) : Int :=
  let y := s.cvp c P.LI_POS i / 65536
  let base : Int := (s.composeTime c 0 y : Int) + 100 * subTick - throughOffset f - f.line0 * subTick
  gridFrom base (max (s.showPeriod c) 1) (max (s.cvp c P.CV_PHASES 0) 1) a

/-- The target of a frame that no canvas shows in through mode: on the grid of its frame period through the master period boundary (R95). DEDUCED (log 149):
a frame period that is a whole multiple or part of the master period follows it; one of several master periods, or of none, goes on from `aimed`. -/
def State.masterTarget (s : State) (f : Format) (aimed : Nat) (a : Int) : Int :=
  let per : Nat := max (f.period * subTick / 1000) 1
  let tm : Nat := max s.ring.period 1
  let m := max (rdivN per tm) 1
  let q := max (rdivN tm per) 1
  let b : Int := s.ring.boundary
  let near := fun (x y : Nat) => decide (1000 * (max x y - min x y) < tm)
  let (n, d) := if near per (m * tm) then (m * tm, 1) else if near tm (q * per) then (tm, q) else (per, 1)
  if (m = 1 ∧ near (m * tm * d) (n * d * d)) ∨ aimed = 0 ∨ (aimed : Int) + 4 * n < a then gridFrom b n d a
  else
    let from' : Int := if near per (m * tm) then b + rdiv ((aimed : Int) - b) tm * tm else aimed
    gridFrom from' n d a

/-- The target of sensor `k`'s next TSYNC, in sub-ticks (R95): beyond the one aimed at last, and such that its send time has not passed. -/
def State.tsyncTarget (s : State) (k : Nat) : Int :=
  let g := k / 4
  let x := s.sensor k
  let f := x.next.getD x.fmt
  let lead : Int := (((s.group g).head.map (·.fsDelay)).getD 0 + 2 * s.getP (P.cg g P.CG_LINK_DELAY) 0 : Nat) - s.getPI (P.cg g P.CG_TSYNC_TRIM) (k % 4)
  let a : Int := max ((x.aimed : Int) + (f.period * subTick / 2000 : Nat)) (((s.now : Int) + lead) * subTick)
  match s.throughOf k with
  | some (c, i) => s.throughTarget c i f a
  | none => s.masterTarget f x.aimed a

/-- The send time of R95 for a target, in sub-ticks. -/
def State.tsyncTime (s : State) (k : Nat) (target : Int) : Int :=
  let g := k / 4
  target - ((((s.group g).head.map (·.fsDelay)).getD 0 + 2 * s.getP (P.cg g P.CG_LINK_DELAY) 0 : Nat) : Int) * subTick
    + s.getPI (P.cg g P.CG_TSYNC_TRIM) (k % 4) * subTick

/-- The next TSYNCs of the genlocked sensors of a group: sensor, target, send time. -/
def State.tsyncsDue (s : State) (g : Nat) : List (Nat × Int × Int) :=
  ((List.range 4).filter fun vc => s.genlocked g vc).map fun vc => let k := 4 * g + vc; let t := s.tsyncTarget k; (k, t, s.tsyncTime k t)

/-- TSYNC_SEND (R95): the TSYNC of the first due of the VCs in `vcMask`, for all those with the same target and send time. It starts at tick `t`, exact to
±1 tick plus one symbol period. -/
def execTsyncSend (g vcMask t : Nat) (s : State) : Result :=
  guarded (.tsyncSend g vcMask t) s <|
    match (s.tsyncsDue g).filter fun e => vcMask.testBit (e.1 % 4) with
    | [] => s
    | v :: r =>
      let first := r.foldl (fun m e => if e.2.2 < m.2.2 then e else m) v
      let l := (s.tsyncsDue g).filter fun e => e.2 == first.2
      let mask := l.foldl (fun m e => setBit m (e.1 % 4)) 0
      let q := (s.group g).tseq
      let exact := first.2.2.toNat / subTick
      let at0 := max (exact - 1) (min (exact + 2) t)
      let s1 := l.foldl (fun t e => t.modSensor e.1 fun x => { x with aimed := first.2.1.toNat }) (s.atLeast at0)
      (s1.modGroup g fun x => { x with tseq := (q + 1) % 256, tsyncs := ((q, s1.ring.tag) :: x.tsyncs).take 256, tsyncTime := at0 }).emit
        (.camSet g 2 mask q (255 - q))

end Sys2Proof.Machine
end

