-- ==== Sys2Proof/Machine/LineCode.lean ====
section
/-! DEFINITION. The line code of the lanes: the 8b/10b code groups of IEEE 802.3 Clause 36, their running disparity and validity (R241), and the test
patterns with their checker (R268, R269). Bit *a* of a code group, sent first, is bit 0. -/

namespace Sys2Proof.Machine

/-! ### 8b/10b (R241) -/

/-- The 5b/6b column for negative running disparity, D0 to D31. -/
def code6 : List Nat := [57, 46, 45, 35, 43, 37, 38, 7, 39, 41, 42, 11, 44, 13, 14, 58]
  ++ [54, 49, 50, 19, 52, 21, 22, 23, 51, 25, 26, 27, 28, 29, 30, 53]

/-- The 3b/4b column for negative running disparity, Dx.0 to Dx.7, and for K symbols at positive running disparity. -/
def code4 : List Nat := [13, 9, 10, 3, 11, 5, 6, 7]
def codeK4 : List Nat := [2, 9, 10, 12, 4, 5, 6, 1]

/-- The number of 1 bits. -/
def ones (n v : Nat) : Nat := popcount v n

/-- The other column of a sub-block of `n` bits: unbalanced codes are complemented, and `odd` ones. -/
def otherColumn (n v odd : Nat) (positive : Bool) : Nat :=
  if positive && (2 * ones n v != n || v == odd) then 2 ^ n - 1 - v else v

/-- The running disparity after a sub-block of `n` bits: it follows the majority; the codes `up` and `down` set it too. -/
def rdAfter (n v up down : Nat) (rd : Bool) : Bool :=
  if n < 2 * ones n v || v == up then true else if 2 * ones n v < n || v == down then false else rd

/-- The running disparity after a code group. -/
def rdGroup (g : Nat) (rd : Bool) : Bool := rdAfter 4 (g / 64) 12 3 (rdAfter 6 (g % 64) 56 7 rd)

/-- The code group of a symbol at a running disparity. -/
def codeGroup (k : Bool) (b : Nat) (rd : Bool) : Nat :=
  let x := b % 32
  let y := b / 32
  let six := if k && x == 28 then otherColumn 6 60 60 rd else otherColumn 6 (code6.getD x 0) 7 rd
  let rd6 := rdAfter 6 six 56 7 rd
  let alternate := y == 7 && (if rd6 then [11, 13, 14] else [17, 18, 20]).contains x
  let four := if k then (if rd6 then codeK4.getD y 0 else 15 - codeK4.getD y 0)
    else if alternate then (if rd6 then 1 else 14) else otherColumn 4 (code4.getD y 0) 3 rd6
  six + 64 * four

/-- The K symbols of the code: K28.0 to K28.7, K23.7, K27.7, K29.7, K30.7; and those that the lanes use. -/
def kSymbols : List Nat := [28, 60, 92, 124, 156, 188, 220, 252, 247, 251, 253, 254]
def kUsed : List Nat := [251, 28, 92, 124, 156, 188, 220, 253, 254]

/-- The symbol of a code group at a running disparity. -/
def symbolOf (g : Nat) (rd : Bool) : Option (Bool × Nat) :=
  ((kSymbols.find? fun b => codeGroup true b rd == g).map fun b => (true, b)).orElse fun _ =>
    (firstBelow (fun b => codeGroup false b rd == g) 256).map fun b => (false, b)

/-- What a receiver makes of a code group. -/
inductive GroupCheck where
  | valid | violation | disparity
  deriving DecidableEq, Repr

/-- A symbol that the lanes use. -/
def usedSymbol (x : Bool × Nat) : Bool := !x.1 || kUsed.contains x.2

/-- A code group is valid, a code violation (unused K symbols among them), or has the wrong disparity (R241). -/
def checkGroup (g : Nat) (rd : Bool) : GroupCheck :=
  match symbolOf g rd with
  | some x => if usedSymbol x then .valid else .violation
  | none => match symbolOf g (!rd) with
    | some x => if usedSymbol x then .disparity else .violation
    | none => .violation

/-! ### Test patterns (R268) -/

/-- The two taps of PRBS7, PRBS15 and PRBS31, and the bits that seed a checker: 40 for the user pattern. -/
def prbsTaps (kind : Nat) : Nat × Nat := if kind = 1 then (7, 6) else if kind = 2 then (15, 14) else (31, 28)
def seedBits (kind : Nat) : Nat := if kind = 4 then 40 else (prbsTaps kind).1

/-- The bit that follows the newest bits `r`, or for the user pattern bit `r` of it. -/
def patternBit (kind user r : Nat) : Bool :=
  if kind = 4 then user.testBit r else r.testBit ((prbsTaps kind).1 - 1) != r.testBit ((prbsTaps kind).2 - 1)

/-- The newest bits, or the index, after one more bit. -/
def patternNext (kind r : Nat) (b : Bool) : Nat := if kind = 4 then (r + 1) % 40 else (2 * r + b2n b) % 2 ^ 40

/-- `n` bits of a lane's generator, the first `flip` of them inverted (R270), and the generator after them. -/
def generate (kind user : Nat) : Nat → PatternState → List Bool × PatternState
  | 0, p => ([], p)
  | n + 1, p =>
    let b := patternBit kind user p.out
    let r := generate kind user n { p with out := patternNext kind p.out b, flip := p.flip - 1 }
    ((b != decide (0 < p.flip)) :: r.1, r.2)

/-- The index in the user pattern of the oldest of 40 bits `r`, newest lowest, if they are the pattern from there on. -/
def userPhase (user r : Nat) : Option Nat :=
  firstBelow (fun i => (List.range 40).all fun j => user.testBit ((i + j) % 40) == r.testBit (39 - j)) 40

/-- The checker outside sync takes a bit: it seeds itself, and 64 matching bits in a row give sync. -/
def Lane.seekBit (x : Lane) (b : Bool) : Lane :=
  let p := x.pat
  let n := seedBits x.chk
  if p.seen ≤ n ∧ (p.seen < n ∨ x.chk = 4) then
    let r := (2 * p.ref + b2n b) % 2 ^ 40
    let q := { p with ref := r, seen := min (p.seen + 1) 40, run := 0 }
    if x.chk ≠ 4 ∨ q.seen < 40 then { x with pat := q }
    else match userPhase x.user r with
      | some i => { x with pat := { q with ref := i, seen := 41 } }
      | none => { x with pat := q }
  else
    let good := patternBit x.chk x.user p.ref == b
    if good && 64 ≤ p.run + 1 then { x with sync := true, pat := { p with ref := patternNext x.chk p.ref b, run := 0, hist := 0 } }
    else if x.chk = 4 ∧ good = false then { x with pat := { p with ref := 0, seen := 0, run := 0 } }
    else { x with pat := { p with ref := patternNext x.chk p.ref b, run := if good then p.run + 1 else 0 } }

/-- The checker in sync takes a bit: 32 mismatches among the last 128 bits lose sync, and it seeds itself again. -/
def Lane.compareBit (x : Lane) (b : Bool) : Lane :=
  let p := x.pat
  let want := patternBit x.chk x.user p.ref
  let hist := (2 * p.hist + b2n (want != b)) % 2 ^ 128
  let y := { x with compared := (x.compared + 1) % 2 ^ 64, errors := sat32 (x.errors + b2n (want != b)) }
  if 32 ≤ popcount hist 128 then
    { y with sync := false, syncLosses := sat32 (x.syncLosses + 1), pat := { p with ref := 0, seen := 0, run := 0, hist := 0 } }
  else { y with pat := { p with ref := patternNext x.chk p.ref want, hist := hist } }

/-- The checker takes bits: the lane after them, and the changes of sync in order, true where it is lost. -/
def Lane.checkBits (x : Lane) (bits : List Bool) : Lane × List Bool :=
  bits.foldl (init := (x, [])) fun r b =>
    let y := if r.1.sync then r.1.compareBit b else r.1.seekBit b
    (y, if y.sync == r.1.sync then r.2 else r.2 ++ [r.1.sync])

end Sys2Proof.Machine
end

