-- ==== Sys2Proof/Machine/Colour.lean ====
section
/-! DEFINITION. Colour probes (R177), and the uniformity cell store's banks, commits and binding faults (R170 to R174). -/

namespace Sys2Proof.Machine

def colourProbeSpec : OpSpec := { op := 0x0240, len := fun c => c.opLen == 8, rsvd := 0xFFFC0000 }

/-- COLOUR_PROBE from step 7 on: at most 4 are outstanding. -/
def colourProbeBody : Body := fun q s =>
  let c := q.c
  let kind := c.f 0 8
  let unit := c.f 8 8
  if 2 ≤ kind ∨ (kind = 0 ∧ 8 ≤ unit) ∨ (kind = 1 ∧ 16 ≤ unit) then (s, .err cBAD_PARAM)
  else match (List.range 4).find? fun k => (s.probe k).isNone with
    | none => (s, .err cNO_RESOURCE)
    | some k =>
      (s.setProbe k (some { canvas := kind == 1, unit := unit, phase := c.f 16 2, x := c.f 32 16, y := c.f 48 16, ticket := q.tk, since := s.now }), .wait)

/-- COLOUR_PROBE (R177). -/
def execColourProbe (c : Cmd) (s : State) : Result := guarded (.colourProbe c) s (submit colourProbeSpec colourProbeBody c s)

/-- COLOUR_PROBE_CAPTURE (R177): the pixel has been produced, by the first frame or show period that started after the command was taken. -/
def execColourProbeCapture (k : Nat) (s : State) : Result :=
  guarded (.colourProbeCapture k) s <|
    match s.probe k with
    | none => s
    | some q => match q.result with
      | some v => (s.setProbe k none).finalReply q.ticket cOK 80 v
      | none => s

/-- PROBE_MISSED (R177): 4 frames or show periods have passed without the pixel. -/
def execProbeMissed (k : Nat) (s : State) : Result :=
  guarded (.probeMissed k) s <|
    match s.probe k with
    | none => s
    | some q => if q.result.isSome then s else (s.setProbe k none).finalReply q.ticket 0x30 0 0

/-! ### Uniformity banks (R171 to R173) -/

/-- Cell `n` lies in blocks that the commit in progress changes. -/
def State.cellRewritten (s : State) (n : Nat) : Bool := s.colour.dirty.contains (12 * n / 4096) && s.colour.dirty.contains ((12 * n + 11) / 4096)

/-- The bank's contents become those committed; cells rewritten are no longer faulty (R172). -/
def State.fillBank (bank : Nat) (m : SMap Byte) (s : State) : State :=
  let bad := s.colour.badCells.filter fun n => !s.cellRewritten n
  { s with colour := if bank = 0 then { s.colour with bank0 := m, badCells := bad } else { s.colour with bank1 := m, badCells := bad } }

/-- Cells that canvas `c` reads with an uncorrectable error: each that is newly found is logged, and stays faulty (R172). -/
def State.badCellsFound (c : Nat) (l : List Nat) (s : State) : State :=
  (l.eraseDups.filter fun n => !s.colour.badCells.contains n).foldl (init := s) fun t n =>
    ({ t with colour := { t.colour with badCells := t.colour.badCells ++ [n] } } : State).logFault 0x5 c 0x0503 0

/-- UNIF_BANK_COPY_DONE (Table 5-10, step 2): the bank that no canvas reads holds the new contents. Canvases that do not run switch at once. -/
def execUnifBankCopyDone (s : State) : Result :=
  guarded .unifBankCopyDone s <|
    match s.colour.commit with
    | none => s
    | some k =>
      if k.copied then s
      else
        let bank := 1 - s.colour.newest
        let run := (List.range 16).filter fun c => s.cvState c == 2
        let s1 := s.fillBank bank k.bytes
        let s2 : State := { s1 with colour := { s1.colour with newest := bank, commit := some { k with copied := true, waiting := run } } }
        ((List.range 16).filter fun c => !run.contains c).foldl (fun t c => t.unifSwitch c) s2

/-- UNIF_COMMIT_DONE (Table 5-10, step 4): after the last switch the old bank holds the new contents too, and the reply is written. -/
def execUnifCommitDone (s : State) : Result :=
  guarded .unifCommitDone s <|
    match s.colour.commit with
    | none => s
    | some k =>
      if k.copied && k.waiting.isEmpty then
        let s1 := s.fillBank (1 - s.colour.newest) k.bytes
        let s2 : State := { s1 with colour := { s1.colour with commit := none } }
        match k.ticket with
        | some tk => s2.finalReply tk cOK 0 0
        | none => s2
      else s

/-- The tiles present of a canvas whose enabled binding overruns the store (R171). -/
def State.unifOverruns (s : State) (c : Nat) : List Nat :=
  (s.portMap c).filterMap fun e =>
    let b := s.unifBinding (s.cvp c P.OC_UNIF_BANK 0) e.loop e.hop
    let d := s.tileDims e.loop e.hop
    if b.1 && ((s.tile e.loop e.hop).fromA || (s.tile e.loop e.hop).fromB) && decide (2 ^ 20 < b.2.base + b.2.cells d.1 d.2) then some (e.loop * 32 + e.hop - 1) else none

/-- Binding faults are entered and cleared at a show period boundary (R171). -/
def State.unifFaults (c : Nat) (s : State) : State :=
  let mine := (s.portMap c).map fun e => e.loop * 32 + e.hop - 1
  let now := s.unifOverruns c
  let old := s.colour.faults.filter fun k => mine.contains k
  let post := fun (v : Nat) (t : State) (k : Nat) => t.postCv 0x4E c (k / 32 + at' 16 (k % 32 + 1) + at' 24 v)
  let s1 := (now.filter fun k => !old.contains k).foldl (post 1) s
  let s2 := (old.filter fun k => !now.contains k).foldl (post 0) s1
  State.setP { s2 with colour := { s2.colour with faults := (s2.colour.faults.filter fun k => !mine.contains k) ++ now } }
    (P.cv c P.OC_UNIF_FAULTS) 0 now.length

end Sys2Proof.Machine
end

