-- ==== Sys2Proof/Machine/Midway.lean ====
section
/-! DEFINITION. Midway: ports, discovery, loop states, the line budget, tile frames, alarms, failover, feed handover and the tile commands
(R208 to R232, R237 to R239). -/

namespace Sys2Proof.Machine

def State.modTile (l hop : Nat) (f : Tile → Tile) (s : State) : State :=
  { s with mw := { s.mw with tiles := SMap.set tileDef s.mw.tiles (tileKey l hop) (f (s.tile l hop)) } }

/-- The hop at position `c` from an end (R224). -/
def State.hopAt (s : State) (l e c : Nat) : Nat := if e = 0 then c else s.dirCount l + 1 - c

/-- The distance of a hop from an end (R209). -/
def State.distOf (s : State) (l e hop : Nat) : Nat := if e = 0 then hop - 1 else s.dirCount l - hop

/-- The tile from which an upstream packet comes, by DIST (Table 7-3). -/
def State.hopOfDist (s : State) (l e dist : Nat) : Nat := if e = 0 then dist + 1 else s.dirCount l - dist

/-- MW_LOOP_STATE (Table 7-8). -/
abbrev State.loopState (s : State) (l : Nat) : Nat := s.getP (mwLoop l P.MW_LOOP_STATE) (l % 32)

/-- The canvas whose PORT_MAP in force names the loop (R210). -/
def State.loopCanvas (s : State) (l : Nat) : Option Nat := (List.range 16).find? fun c => (s.portMap c).any fun e => e.loop == l

/-- The frame tag that the loop's next FSO carries. -/
def State.nextTag (s : State) (l : Nat) : Nat :=
  match s.loopCanvas l with
  | none => s.ring.tag
  | some c =>
    let x := s.canvas c
    if s.cvState c ≠ 2 then s.ring.tag
    else if x.phase + 1 < s.cvp c P.CV_PHASES 0 then x.tag else wrap32 (x.tag + 1)

/-- MW_REACH follows the loop's feed. -/
def State.reachReport (l : Nat) (s : State) : State :=
  (s.setP (mwLoop l P.MW_REACH) (l % 32) ((s.loop l).a.reach + at' 8 (s.loop l).b.reach)).settleLanes [2 * l, 2 * l + 1]

/-! ### The partner's packets (R234, R236) -/

/-- The partner link is ACTIVE. -/
def State.linkActive (s : State) : Bool := s.getP P.PT_STATE 0 == 5

/-- The partner may be given configured traffic (R46). -/
def State.linkUsable (s : State) : Bool := s.linkActive && !(s.partner { kind := 3, pos := 0 }).quarantined

/-- The configuration digest of a paired loop (R236): directory host fields, with FEEDER `feeder` given as the role of the device that has the A end,
the PORT_MAP entries in order, the raster. -/
def State.digestWith (s : State) (l feeder : Nat) : Nat :=
  let role := s.mw.link.role
  let dir := leBytes (s.dirMode l) 1 ++ leBytes (if feeder = 0 then role else 1 - role) 1 ++ leBytes (s.dirCount l) 1
    ++ (List.range 32).flatMap fun h => takeBytes tableDefault s.ctl.tables (tableBase 0x0002 l + 0x20 + 32 * h) 14
  match s.loopCanvas l with
  | none => crc32c dir
  | some c =>
    let map := ((s.portMap c).filter fun e => e.loop == l).flatMap fun e => takeBytes tableDefault s.ctl.tables (tableBase 0x0001 c + 12 * e.num) 12
    crc32c (dir ++ map ++ (s.raster c).flatMap fun v => leBytes v 4)

abbrev State.loopDigest (s : State) (l : Nat) : Nat := s.digestWith l (s.dirFeeder l)

/-- A partner packet leaves (Table 7-13), one that falls due in a quiet window when the window ends (R262). -/
def State.sendPartner (typ : Nat) (payload : List Byte) (s : State) : State :=
  let h := leBytes (typ * 16) 1 ++ leBytes 0 1 ++ leBytes payload.length 2 ++ leBytes 0 3
  s.emitAfter (s.quietEnd.getD 0) (.partnerPkt (h ++ leBytes (crc8 h) 1) (withCrc payload))

/-- What P_LOOP says of a paired loop: the state, and this device's end (Table 7-13). -/
def State.pLoopBytes (s : State) (l : Nat) : List Byte :=
  let x := s.loop l
  let e := x.side (s.feeder l)
  leBytes (l + at' 16 (s.loopState l) + at' 24 e.reach + at' 32 e.found + at' 40 x.alarm + at' 64 (s.loopDigest l)) 16

/-- P_LOOP for a paired loop, while the link is ACTIVE. -/
def State.sendPLoop (l : Nat) (s : State) : State :=
  if s.linkUsable && s.dirMode l == 3 then
    let b := s.pLoopBytes l
    (s.modLoop l fun y => { y with told := b }).sendPartner 0x3 b
  else s

/-- P_LOOP on a change of what it says (R234). -/
def State.noteLoop (l : Nat) (s : State) : State :=
  if s.linkUsable && s.dirMode l == 3 && s.pLoopBytes l != (s.loop l).told then s.sendPLoop l else s

/-- P_TILE: an upstream packet of a paired loop is relayed to the partner. -/
def State.relayTile (l hop kind : Nat) (payload : List Byte) (s : State) : State :=
  if s.linkUsable && s.dirMode l == 3 then
    s.sendPartner 0x5 ((leBytes (l + at' 16 hop + at' 24 kind) 16 ++ payload ++ List.replicate 32 0).take 48)
  else s

/-- A loop changes state for a reason of Table 7-16; SERVICE_NEEDED follows SPLIT, UNPROTECTED and NO_TILES of a protected loop (R226). -/
def State.setLoopState (l new reason : Nat) (s : State) : State :=
  let old := s.loopState l
  let s1 := if 3 ≤ new ∧ (s.dirMode l = 2 ∨ s.dirMode l = 3) then s.raiseService (.loop l) else s.clearService (.loop l)
  if old = new then s1
  else
    let x := s1.loop l
    ((s1.setP (mwLoop l P.MW_LOOP_STATE) (l % 32) new).post 0x58 0x7 l (new + at' 8 old + at' 16 reason + at' 24 x.a.reach + at' 32 x.b.reach)).noteLoop l

/-- FEED_CHANGE (Table 7-16); kinds 0 and 3 count as failovers. -/
def State.feedChange (l kind : Nat) (s : State) : State :=
  let x := s.loop l
  let s1 := (s.reachReport l).post 0x59 0x7 l (kind + at' 8 x.a.reach + at' 16 x.b.reach + at' 24 (s.nextTag l))
  (if kind = 0 ∨ kind = 3 then s1.bumpSat (mwLoop l P.MW_FAILOVERS) (l % 32) 1 else s1).noteLoop l

/-! ### Packets (R211 to R215) -/

/-- A tile packet header (Table 7-3). -/
def tileHdr (typ phase dist len aux flags : Nat) : List Byte :=
  let h := leBytes (typ * 16 + phase * 4) 1 ++ leBytes dist 1 ++ leBytes len 2 ++ leBytes aux 2 ++ leBytes flags 1
  h ++ leBytes (crc8 h) 1

/-- A packet leaves on the port of an end, after a calibration window of the port (R261). -/
def State.sendTile (l e typ phase dist aux flags : Nat) (payload : List Byte) (s : State) : State :=
  s.emitAfter (s.lane (s.endPort l e)).winEnd (.tilePkt (s.endPort l e) (tileHdr typ phase dist payload.length aux flags) (withCrc payload))

/-- The end that feeds a hop, if its REACH covers it (R226). -/
def State.fedFrom (s : State) (l hop : Nat) : Option Nat :=
  let x := s.loop l
  if hop = 0 ∨ s.dirCount l < hop then none
  else if hop ≤ x.a.reach then some 0
  else if s.dirCount l < hop + x.b.reach then some 1
  else none

abbrev tileId (l hop : Nat) : PartnerId := { kind := 2, pos := l, hop := hop }

/-- TILE_STATE (Table 7-9). -/
def State.tileState (s : State) (l hop : Nat) : Nat :=
  let t := s.tile l hop
  if !(t.fromA || t.fromB) then 0
  else if (s.partner (tileId l hop)).quarantined then 4
  else if t.mismatch ≠ 0 then t.mismatch
  else 1

/-- The end from which a tile can be sent control packets: the one that feeds it, or one that reaches it. -/
def State.ctrlEnd (s : State) (l hop : Nat) : Option Nat :=
  let t := s.tile l hop
  match s.fedFrom l hop with
  | some e => if (if e = 0 then t.fromA else t.fromB) && s.ownsEnd l e then some e
              else if t.fromA && s.ownsEnd l 0 then some 0 else if t.fromB && s.ownsEnd l 1 then some 1 else none
  | none => if t.fromA && s.ownsEnd l 0 then some 0 else if t.fromB && s.ownsEnd l 1 then some 1 else none

/-! ### Tile presence (R224, R225) -/

/-- A tile's arrival record: serial, hop, loop (R238). -/
def tilePayload (l hop serial : Nat) : Nat := serial + at' 64 hop + at' 72 l

/-- The port of the end that feeds a hop, or that reaches it. -/
def State.tilePort (s : State) (l hop : Nat) : Nat := s.endPort l (((s.fedFrom l hop).orElse fun _ => s.ctrlEnd l hop).getD 0)

/-- A tile's reachability from an end changes: it arrives when some end reaches it, and departs at once when none does. -/
def State.setReachable (l hop e : Nat) (v : Bool) (s : State) : State :=
  let t := s.tile l hop
  let s1 := s.modTile l hop fun t => if e = 0 then { t with fromA := v } else { t with fromB := v }
  let t1 := s1.tile l hop
  let was := t.fromA || t.fromB
  let is := t1.fromA || t1.fromB
  if was && !is then
    (s1.partnerDeparts (tileId l hop)).modTile l hop fun t => { t with info := none, mismatch := 0, misses := 0, poll := none, frame := none, status := [] }
  else if !was && is then
    s1.partnerArrives (tileId l hop) (srcOf 0x6 (s1.tilePort l hop)) (tilePayload l hop ((t1.info.map (·.serial)).getD 0))
  else s1

/-- Open tile frames of the hops that satisfy `p` are closed at once with ABANDONED (R221). -/
def State.abandonFrames (l : Nat) (p : Nat → Bool) (s : State) : State :=
  (List.range 32).foldl (init := s) fun s i =>
    let hop := i + 1
    match (s.tile l hop).frame with
    | none => s
    | some f =>
      if p hop then
        let e := (s.fedFrom l hop).getD 0
        let port := s.endPort l e
        let s1 := (s.modTile l hop fun t => { t with frame := none }).sendTile l e 0x3 f.phase (s.distOf l e hop) 0 0
          (leBytes (f.tag + at' 32 f.rows + at' 48 1) 8)
        let s2 := s1.bumpSat (P.mw (port / 64) P.MW_ABANDONED) (port % 64) 1
        match s2.loopCanvas l with
        | some c => { s2 with mw := { s2.mw with abandoned := SMap.set (fun _ => 0) s2.mw.abandoned c (SMap.get (fun _ => 0) s2.mw.abandoned c + 1) } }
        | none => s2
      else s

/-! ### Loop evaluation (R224 to R226) -/

/-- The loop's state by what its ends feed and find (Table 7-8). DESIGN CHOICE (log 152): a loop whose other end has still to take up the tiles is
UNPROTECTED, and an intact loop fed from B alone is NORMAL. -/
def State.evalLoop (l reason : Nat) (s : State) : State :=
  let x := s.loop l
  let n := s.dirCount l
  let m := s.dirMode l
  let s := s.reachReport l
  let state := if m = 0 then 0
    else if !x.a.done && !x.b.done then 1
    else if x.a.reach = 0 ∧ x.b.reach = 0 then (if x.a.found = 0 ∧ x.b.found = 0 then 5 else if x.a.starting || x.b.starting then 4 else 1)
    else if x.a.reach ≠ 0 ∧ x.b.reach ≠ 0 then 3
    else if x.a.reach = n ∧ (m = 1 ∨ x.intact = true) then 2
    else if x.b.reach = n ∧ x.intact = true then 2
    else 4
  (s.setLoopState l state reason).noteLoop l

/-- What the A end feeds follows what it finds while no other end feeds; it never exceeds it. An end of a protected loop that finds fewer than all
tiles starts the other end (R223, R230). -/
def State.adjustFeed (l reason : Nat) (s : State) : State :=
  let x := s.loop l
  let n := s.dirCount l
  let m := s.dirMode l
  let a := if !x.a.done then 0 else if x.b.reach = 0 ∧ !x.b.starting ∧ x.forced ≠ 2 then min x.a.found n else min x.a.reach x.a.found
  let b := if !x.b.done then 0 else min x.b.reach x.b.found
  let s1 := s.abandonFrames l fun h => decide (a < h ∧ h ≤ x.a.reach)
  let s2 := s1.modLoop l fun y => { y with a := { y.a with reach := a }, b := { y.b with reach := b }, intact := y.intact && decide (x.a.found = n ∨ x.b.found = n) }
  let s3 := if m = 2 ∧ x.a.done = true ∧ a < n ∧ b = 0 ∧ n ≠ 0 then s2.modEnd l 1 fun e => { e with starting := true } else s2
  s3.evalLoop l reason

/-- The discovery of an end ends: tiles that did not answer are no longer reachable from it; LOOP_DISCOVERs complete. -/
def State.closeDiscovery (l e : Nat) (s : State) : State :=
  let x := (s.loop l).side e
  if !x.running then s
  else
    let found := ((List.range 32).takeWhile fun c => x.answers.contains (s.hopAt l e (c + 1))).length
    let s1 := (List.range 32).foldl (fun t i => if x.answers.contains (i + 1) then t else t.setReachable l (i + 1) e false) s
    let s2 := s1.modEnd l e fun y => { y with running := false, done := true, found := found, answers := [] }
    let s3 := s2.adjustFeed l 0
    let busy := (List.range 2).any fun k => s3.ownsEnd l k && ((s3.loop l).side k).running
    if busy then s3
    else
      let y := s3.loop l
      y.discWait.foldl (fun t tk => t.finalReply tk cOK 2 (y.a.found + at' 8 (if y.intact then y.a.found else y.b.found))) (s3.modLoop l fun z => { z with discWait := [] })

/-- DISCOVER leaves an end: COUNT 0, its FROM_END, a new DISCOVER_ID (R223). -/
def State.sendDiscoverFrom (l e : Nat) (s : State) : State :=
  let s1 := s.closeDiscovery l e
  let id := (((s1.loop l).side e).discId + 1) % 65536
  (s1.modEnd l e fun y => { y with discId := id, running := true, answers := [] }).sendTile l e 0x4 0 63 0 0 (leBytes (id + at' 16 e) 4)

/-- The end feeds, or has to find out whether it will. -/
def State.feedingEnd (s : State) (l e : Nat) : Bool :=
  s.ownsEnd l e && ((s.loop l).side e).trained
    && (e == 0 && (s.loop l).forced != 2 || ((s.loop l).side e).reach != 0 || ((s.loop l).side e).starting)

/-- Every feeding end of the loop runs discovery: a link on the loop has been trained (R223). -/
def State.discoverLoop (l : Nat) (s : State) : State := (List.range 2).foldl (fun t e => if t.feedingEnd l e then t.sendDiscoverFrom l e else t) s

/-- DISCOVER_INTERVAL (R223). -/
def execDiscoverInterval (lp side : Nat) (s : State) : Result :=
  guarded (.discoverInterval lp side) s <|
    if s.powerState = 2 then s
    else
      let s1 := (s.closeDiscovery lp side).sendPLoop lp
      if s1.feedingEnd lp side then s1.sendDiscoverFrom lp side else s1

/-! ### Received packets (R213 to R215, R237) -/

/-- A packet is a header error (R215): HCRC, a type other than `typ`, length, its end. -/
def tileFaulty (typ : Nat) (p : TilePkt) : Bool :=
  !hdrCrcOk p.hdr || hdrType p.hdr != typ || decide (3840 < hdrLen p.hdr) || p.fin != .eop || p.payload.length != hdrLen p.hdr

/-- A packet of type `typ` arrives at a port that a loop uses and whose lane delivers: errors are counted, the rest goes to `k` with the end. -/
def State.tileReceive (typ : Nat) (p : TilePkt) (k : Nat → State → State) (s : State) : State :=
  let s := s.atLeast p.time
  match s.portEnd p.port with
  | none => s
  | some e =>
    if !s.hears p.port then s
    else if tileFaulty typ p || (typ == 4 && s.dirMode (p.port / 2) == 1) then s.bumpSat (P.mw (p.port / 64) P.MW_UP_HCRC_ERRORS) (p.port % 64) 1
    else if p.payload.length != 0 && crc32c p.payload != p.crc then s.bumpSat (P.mw (p.port / 64) P.MW_UP_PCRC_ERRORS) (p.port % 64) 1
    else k e s

/-- What a TILE_ID says. -/
def tileInfoOf (l : List Byte) : TileInfo :=
  { serial := fieldAt l 0 8, vendor := fieldAt l 8 2, model := fieldAt l 10 2, protocol := byteAt l 12, loopCapable := (byteAt l 13).testBit 2
    maxPhases := byteAt l 13 % 4, width := fieldAt l 14 2, height := fieldAt l 16 2, fwd := fieldAt l 18 2, display := fieldAt l 20 4 }

/-- TILE_MISMATCH (Table 7-16). -/
def State.postMismatch (l hop reason : Nat) (s : State) : State := s.post 0x5B 0x6 (s.tilePort l hop) (hop + at' 8 reason)

/-- The check of a tile against its directory entry (R224): the reason, if any. -/
def State.tileCheck (s : State) (l hop : Nat) (i : TileInfo) : Option Nat :=
  let want := s.dirTile l hop 0 8
  if want ≠ 0 ∧ want ≠ i.serial then some 0
  else if s.tileDims l hop ≠ (i.width, i.height) then some 1
  else if i.protocol ≠ 1 then some 3
  else none

/-- A tile beyond hop *n*: TILE_MISMATCH with reason 0, once for each arrival of it, with its place among all the tiles reachable. DESIGN CHOICE (log 153):
the place counts on from the other end's tiles. -/
def State.tileBeyond (l e place : Nat) (i : TileInfo) (s : State) : State :=
  if ((s.loop l).side e).extra.contains i.serial then s
  else (s.modEnd l e fun y => { y with extra := y.extra ++ [i.serial] }).post 0x5B 0x6 (s.endPort l e) (place % 256)

/-- A tile answers a DISCOVER of end `e` from position `c` (R224, R222). A tile at a hop that the other end's chain already fills lies beyond *n*. -/
def State.tileFound (l e c : Nat) (i : TileInfo) (s : State) : State :=
  let n := s.dirCount l
  let hop := s.hopAt l e c
  let t := s.tile l hop
  let mine := if e = 0 then t.fromA else t.fromB
  let taken := (if e = 0 then t.fromB else t.fromA) && !mine && (t.info.map (·.serial)) != some i.serial
  if c = 0 then s
  else if n < c then s.tileBeyond l e c i
  else if taken then s.tileBeyond l e (c + ((s.loop l).side (1 - e)).found) i
  else
    let new := !(t.fromA || t.fromB) || t.info != some i
    let s0 := if new && (t.fromA || t.fromB) && (t.info.map (·.serial)) != some i.serial then
        (s.setReachable l hop 0 false).setReachable l hop 1 false else s
    let why := s0.tileCheck l hop i
    let mm := match why with
      | none => 0
      | some 0 => 2
      | some _ => 3
    let s1 := s0.modTile l hop fun t => { t with info := some i, mismatch := mm }
    let s2 := s1.setReachable l hop e true
    let s3 := match why with
      | some r => if new then s2.postMismatch l hop r else s2
      | none => s2
    let phases := match s3.loopCanvas l with
      | some cv => s3.cvp cv P.CV_PHASES 0
      | none => 1
    let s4 := if new && decide (i.maxPhases + 1 < phases) then s3.postMismatch l hop 2 else s3
    s4.modEnd l e fun y => { y with answers := y.answers ++ [hop] }

/-- A TILE_ID counts for the end whose newest DISCOVER it answers, at whichever end it arrives (R224); the answer of the last tile ends the discovery. -/
def State.tileIdHeard (l : Nat) (b : List Byte) (s : State) : State :=
  let e := byteAt b 25
  let x := (s.loop l).side e
  if 1 < e ∨ !x.running ∨ fieldAt b 26 2 ≠ x.discId then s
  else
    let s1 := s.tileFound l e (byteAt b 24) (tileInfoOf b)
    if ((s1.loop l).side e).answers.length = s1.dirCount l then s1.closeDiscovery l e else s1

/-- TILE_ID (R224), relayed to the partner of a paired loop (R234). -/
def execTileId (p : TilePkt) (s : State) : Result :=
  guarded (.tileId p) s <| s.tileReceive 5 p fun _ s =>
    let l := p.port / 2
    if p.payload.length ≠ 32 then s
    else (s.relayTile l (s.hopAt l (byteAt p.payload 25) (byteAt p.payload 24)) 0 p.payload).tileIdHeard l p.payload

/-- The loop is proven intact: no break of it is known, so an ALARM of the next one acts (R217, R224). -/
def State.loopIntact (l : Nat) (s : State) : State :=
  s.modLoop l fun y => { y with intact := true, a := { y.a with heard := none }, b := { y.b with heard := none } }

/-- DISCOVER_RECEIVED (R224): a DISCOVER of the A end arrives at the B end; COUNT n proves the loop intact. -/
def execDiscoverReceived (p : TilePkt) (s : State) : Result :=
  guarded (.discoverReceived p) s <| s.tileReceive 4 p fun e s =>
    let l := p.port / 2
    if p.payload.length = 4 ∧ byteAt p.payload 2 ≠ e ∧ hdrAux p.hdr = s.dirCount l then
      (s.loopIntact l).evalLoop l (if s.loopState l = 4 then 2 else 0)
    else s

/-- CFG_REPLY (R237): the CFG command with its tag completes. -/
def State.cfgReply (l : Nat) (tag : Nat) (payload : List Byte) (s : State) : State :=
  match (s.loop l).cfg.find? fun e => e.1 == tag with
  | none => s
  | some e =>
    let r := byteAt payload 8
    if payload.length ≠ 12 ∨ 2 < r then s
    else
      let s1 := s.modLoop l fun y => { y with cfg := y.cfg.filter (· != e) }
      let len := match s1.flight? e.2.2 with
        | some f => if f.opcode = 0x0403 then 4 else 0
        | none => 0
      if r = 0 then s1.finalReply e.2.2 cOK len (if len = 4 then fieldAt payload 4 4 else 0) else s1.finalReply e.2.2 0x41 0 0

def execCfgReply (p : TilePkt) (s : State) : Result :=
  guarded (.cfgReply p) s <| s.tileReceive 8 p fun e s =>
    (s.cfgReply (p.port / 2) (hdrAux p.hdr) p.payload).relayTile (p.port / 2) (s.hopOfDist (p.port / 2) e (byteAt p.hdr 1 % 64)) 2 p.payload

/-- TILE_CFG_TIMEOUT (R237). -/
def execTileCfgTimeout (lp tag : Nat) (s : State) : Result :=
  guarded (.tileCfgTimeout lp tag) s <|
    match (s.loop lp).cfg.find? fun e => e.1 == tag with
    | none => s
    | some e => (s.modLoop lp fun y => { y with cfg := y.cfg.filter (· != e) }).finalReply e.2.2 cTIMEOUT 0 0

/-- TILE_STATUS (R237): stored; the tile has answered its POLL. -/
def execTileStatus (p : TilePkt) (s : State) : Result :=
  guarded (.tileStatus p) s <| s.tileReceive 10 p fun e s =>
    let l := p.port / 2
    let hop := s.hopOfDist l e (byteAt p.hdr 1 % 64)
    if p.payload.length ≠ 16 ∨ hop < 1 ∨ 32 < hop then s
    else (s.modTile l hop fun t => { t with status := p.payload, misses := 0, poll := none }).relayTile l hop 1 p.payload

/-- TILE_POLL (R237): background work polls each reachable tile that is not quarantined (R46). -/
def execTilePoll (lp hop : Nat) (s : State) : Result :=
  guarded (.tilePoll lp hop) s <|
    match s.ctrlEnd lp hop with
    | none => s
    | some e =>
      if s.powerState = 2 ∨ s.tileState lp hop = 4 then s
      else
        let tag := ((s.loop lp).cfgTag + 1) % 256
        let s1 := (s.modLoop lp fun y => { y with cfgTag := tag }).modTile lp hop fun t => { t with poll := some tag }
        s1.sendTile lp e 0x9 0 (s1.distOf lp e hop) tag 0 []

/-- TILE_ALARM (Table 7-16). -/
def State.postAlarm (l hop kind : Nat) (s : State) : State :=
  s.post 0x5A 0x6 (s.tilePort l hop) (hop + at' 8 kind + at' 16 (byteAt (s.tile l hop).status 2))

/-- TILE_POLL_TIMEOUT (R237): the third miss in a row of a reachable tile posts TILE_ALARM of kind 3. -/
def execTilePollTimeout (lp hop : Nat) (s : State) : Result :=
  guarded (.tilePollTimeout lp hop) s <|
    let t := s.tile lp hop
    if t.poll.isNone ∨ s.tileState lp hop = 0 then s
    else
      let s1 := s.modTile lp hop fun t => { t with poll := none, misses := t.misses + 1 }
      if t.misses + 1 = 3 then s1.postAlarm lp hop 3 else s1

/-! ### Links, alarms, failover (R217, R223, R230, R231) -/

/-- An entry to DARK ends before it has begun: the device stays in INTERMISSION, and POWER_STATE_SET completes with the code (R433). -/
def State.darkRefused (code : Nat) (s : State) : State :=
  let s1 : State := { s with pw := { s.pw with step := .none, tickets := [], thenTarget := none, exitWanted := false } }
  s.pw.tickets.foldl (fun t tk => t.finalReply tk code 0 0) (s1.setP P.PW_STATE 0 1).advanceAll

/-- The handover with which an entry to DARK begins has ended (R433). -/
def State.darkHanded (failed : Bool) (s : State) : State :=
  if s.pw.step = .handover then
    (if failed then s.darkRefused cTIMEOUT else { s with pw := { s.pw with step := .awaitBoundary } })
  else s

/-- PARTNER_CONFIG action 2 is told that a loop's handover has ended; after the last one every such command completes, with TIMEOUT if any was abandoned. -/
def State.handingDone (l : Nat) (ok : Bool) (s : State) : State :=
  let k := s.mw.link
  if !k.handing.contains l then s
  else
    let left := k.handing.filter (· != l)
    let failed := k.handFailed || !ok
    let s1 : State := { s with mw := { s.mw with link := { k with handing := left, handFailed := failed && !left.isEmpty
                                                                  handTickets := if left.isEmpty then [] else k.handTickets } } }
    if !left.isEmpty then s1
    else k.handTickets.foldl (fun t tk => t.finalReply tk (if failed then cTIMEOUT else cOK) 0 0) (s1.darkHanded failed)

/-- A handover is abandoned (Table 7-12, step 2): the feed is unchanged and the command completes with TIMEOUT. -/
def State.abandonHandover (l : Nat) (s : State) : State :=
  match (s.loop l).handover with
  | none => s
  | some h =>
    let s0 := s.modLoop l fun y => { y with handover := none, a := { y.a with starting := false }, b := { y.b with starting := false } }
    let s1 := (s0.handingDone l false).trapAbandoned l
    match h.ticket with
    | some tk => s1.finalReply tk cTIMEOUT 0 0
    | none => s1

/-- Failover takes precedence over Trapeze (R267). -/
def State.breakTrapeze (l : Nat) (s : State) : State :=
  if (s.loop l).trap = 0 then s else ((if (s.loop l).handover.isSome then s.abandonHandover l else s)).trapBroken l

/-- A break leaves end `e` of the loop the tiles up to position `reach`. Those beyond stay reachable from the other end where it can reach them, which
failover then shows (R225, R231); a tile that no end can reach departs. -/
def State.cutReach (l e reach : Nat) (intact : Bool) (s : State) : State :=
  let n := s.dirCount l
  let o := (s.loop l).side (1 - e)
  (List.range n).foldl (init := s) fun t i =>
    let h := t.hopAt l e (i + 1)
    let known := (t.tile l h).info.isSome
    if i < reach then (if known then t.setReachable l h e true else t)
    else
      let there := intact || (o.done && decide (n - i ≤ o.found))
      (if there && known && s.dirMode l != 1 then t.setReachable l h (1 - e) true else t).setReachable l h e false

/-- The end that failover starts is known to reach what a break leaves it, until its own DISCOVER or ALARM says otherwise (R231). -/
def State.startOther (l e reach : Nat) (intact : Bool) (s : State) : State :=
  let o := 1 - e
  let n := s.dirCount l
  let s1 := if intact ∧ s.dirMode l ≠ 1 then s.modEnd l o fun y => if y.done then y else { y with found := n - reach } else s
  if s.dirMode l = 2 ∧ ((s.loop l).side o).reach = 0 then s1.modEnd l o fun y => { y with starting := true } else s1

/-- A port's link is lost: nothing is reached from its end, and the other end of a local loop starts (R230, R231). -/
def State.portLost (port : Nat) (s : State) : State :=
  match s.portEnd port with
  | none => s
  | some e =>
    let l := port / 2
    let was := (s.loop l).intact
    if !((s.loop l).side e).trained then s
    else
      let s1 := s.abandonFrames l fun h => s.fedFrom l h == some e
      let s2 := s1.modEnd l e fun y => { y with trained := false, asleep := false, running := false, answers := [], found := 0, reach := 0, done := true, heard := none }
      let s3 := (s2.modLoop l fun y => { y with intact := false }).startOther l e 0 was
      ((s3.breakTrapeze l).evalLoop l 1).cutReach l e 0 was

/-- TILE_PORT_ALIGN (R211, R217, R223): while the port trains, its own ALIGN follows each; training ends when the tile answers with TRAINING = 0, and
discovery runs; SLEEP announces a quiet side. -/
def execTilePortAlign (port d1 d2 d3 t : Nat) (s : State) : Result :=
  guarded (.tilePortAlign port d1 d2 d3 t) s <|
    let s := s.atLeast t
    match s.portEnd port with
    | none => s
    | some e =>
      let l := port / 2
      if d2 + d3 ≠ 255 ∨ d1 % 64 ≠ 0 ∨ s.hears port = false then s
      else if d1.testBit 7 then (if ((s.loop l).side e).trained then s else s.sendAlign port 0x80)
      else if d1.testBit 6 then s.modEnd l e fun y => { y with asleep := true }
      else if ((s.loop l).side e).trained then s.modEnd l e fun y => { y with asleep := false }
      else ((s.modEnd l e fun y => { y with trained := true, asleep := false }).discoverLoop l).settleLane port

/-- FSO_RECEIVED (R230): an FSO of the other end is heard; with D3 right it restarts the feed watchdog and shows the loop intact. -/
def execFsoReceived (port d1 d2 d3 t : Nat) (s : State) : Result :=
  guarded (.fsoReceived port d1 d2 d3 t) s <|
    let s := s.atLeast t
    match s.portEnd port with
    | none => s
    | some _ =>
      if (d1 ^^^ d2) + d3 ≠ 255 ∨ s.hears port = false then s
      else
        let l := port / 2
        if (s.loop l).a.reach = s.dirCount l ∧ (s.loop l).b.reach = 0 then
          (s.loopIntact l).evalLoop l 2
        else s

/-- An ALARM narrows the feed of the end that hears it to the tiles up to the one it names, and makes the end start if it does not feed (R230); only then
is a tile that no end can reach reported (R225). -/
def State.alarmFeed (l e reach : Nat) (s : State) : State :=
  let x := (s.loop l).side e
  let n := s.dirCount l
  let was := (s.loop l).intact
  let gone := fun (h : Nat) => decide (reach < (if e = 0 then h else n + 1 - h))
  let s1 := s.abandonFrames l fun h => gone h && s.fedFrom l h == some e
  let s2 := s1.modEnd l e fun y => { y with found := min reach n, done := true, reach := if x.reach = 0 then 0 else min x.reach reach, starting := y.starting || x.reach == 0 }
  let s3 := (s2.modLoop l fun y => { y with intact := false }).startOther l e (min reach n) was
  (((s3.breakTrapeze l).reachReport l).evalLoop l 1).cutReach l e reach was

/-- TILE_ALARM_RECEIVED (R217, R230): the first ALARM of a loss acts, and its repeats are only counted. -/
def execTileAlarmReceived (port d1 d2 d3 t : Nat) (s : State) : Result :=
  guarded (.tileAlarmReceived port d1 d2 d3 t) s <|
    let s := s.atLeast t
    match s.portEnd port with
    | none => s
    | some e =>
      if (d1 ^^^ d2) + d3 ≠ 255 ∨ s.hears port = false then s
      else
        let l := port / 2
        let kind := d1 / 16
        let s1 := s.bumpSat (mwLoop l P.MW_ALARMS) (l % 32) 1
        let hop := s1.hopOfDist l e d2
        if kind = 1 then s1.postAlarm l hop 1
        else if kind = 0 ∨ kind = 2 then
          if ((s1.loop l).side e).heard = some (kind, d2) then s1
          else
            let s2 := (s1.modLoop l fun y => { y with alarm := d2 }).modEnd l e fun y => { y with heard := some (kind, d2) }
            (s2.postAlarm l hop kind).alarmFeed l e (if kind = 0 then d2 + 1 else d2)
        else s1

/-- FEED_WATCHDOG (R230): an end that does not feed has heard neither FSO nor DISCOVER; it runs DISCOVER and starts feeding. -/
def execFeedWatchdog (lp side : Nat) (s : State) : Result :=
  guarded (.feedWatchdog lp side) s <|
    let x := (s.loop lp).side side
    if !s.ownsEnd lp side ∨ x.reach ≠ 0 ∨ s.powerState = 2 then s
    else
      let s1 := ((s.modLoop lp fun y => { y with intact := false }).modEnd lp side fun y => { y with starting := true }).breakTrapeze lp
      if x.trained then s1.sendDiscoverFrom lp side else s1

/-- What an end that starts feeding takes: the tiles that it reaches and that the other end does not feed. -/
def State.startReach (s : State) (l e : Nat) : Nat :=
  let n := s.dirCount l
  let x := (s.loop l).side e
  let other := ((s.loop l).side (1 - e)).reach
  min (n - other) (if x.done then max x.found 0 else n - other)

/-- FAILOVER_TRAINED (R231): the end that was started has trained its link and feeds from the next FSO. -/
def execFailoverTrained (lp : Nat) (s : State) : Result :=
  guarded (.failoverTrained lp) s <|
    let e := if (s.loop lp).b.starting then 1 else 0
    let x := (s.loop lp).side e
    if !x.starting ∨ !s.ownsEnd lp e then s
    else
      let r := s.startReach lp e
      let other := ((s.loop lp).side (1 - e)).reach
      let s1 := s.modEnd lp e fun y => { y with trained := true, asleep := false, starting := false, reach := r, done := true, found := max y.found r }
      let s2 := (List.range r).foldl (fun t i => if (t.tile lp (t.hopAt lp e (i + 1))).info.isSome then t.setReachable lp (t.hopAt lp e (i + 1)) e true else t) s1
      let s3 := if r = 0 then s2 else s2.feedChange lp (if other = 0 then 3 else 0)
      (s3.evalLoop lp 1).discoverLoop lp

/-! ### The line budget (R229) -/

/-- MW_CTRL_RESERVE in force on a loop (R239). -/
def State.ctrlReserve (s : State) (l : Nat) : Nat := SMap.get (fun _ => 25) s.mw.reserve l

/-- The line budget of a loop of canvas `c`, in symbols. -/
def State.lineBudget (s : State) (c l : Nat) : Nat :=
  let (n, d) := s.showNominal c
  n * 5 * (1000 - s.ctrlReserve l) / max (d * s.cvp c P.CV_PHASES 0 * s.cvp c P.CV_TOTAL_LINES 0 * 4000) 1

/-- The cost of canvas line `y` of a loop's entries with their tile sizes. -/
def lineCost (es : List (MapEntry × Nat × Nat)) (y : Nat) : Nat :=
  (es.map fun e =>
    if e.1.y ≤ y ∧ y < e.1.y + e.2.2 then
      6 * e.2.1 + 14 + (if y = e.1.y then 26 else 0) + (if y + 1 = e.1.y + e.2.2 then 22 else 0)
    else 0).sum

/-- The worst line of a loop's entries and its cost: it is the first or last line of some entry. -/
def worstLine (es : List (MapEntry × Nat × Nat)) : Nat × Nat :=
  (es.flatMap fun e => [e.1.y, e.1.y + e.2.2 - 1]).foldl (init := (0, 0)) fun (b : Nat × Nat) y => if b.2 < lineCost es y then (y, lineCost es y) else b

/-- The entries of a loop in a map, with the directory's tile sizes. -/
def State.loopEntries (s : State) (m : List MapEntry) (l : Nat) : List (MapEntry × Nat × Nat) :=
  (m.filter fun e => e.loop == l).map fun e => (e, s.tileDims l e.hop)

/-- A loop's entries keep the rules of R229 on the rasters and directories of `s`. -/
def State.loopFits (s : State) (c l : Nat) : Bool :=
  let es := s.loopEntries (s.portMap c) l
  decide ((worstLine es).2 ≤ s.lineBudget c l) && es.all fun e =>
    decide (1 ≤ e.1.hop ∧ e.1.hop ≤ s.dirCount l ∧ e.1.x + e.2.1 ≤ s.cvp c P.CV_WIDTH 0 ∧ e.1.y + e.2.2 ≤ s.cvp c P.CV_HEIGHT 0)

/-- The loops that a canvas's PORT_MAP in force names. -/
def State.canvasLoops (s : State) (c : Nat) : List Nat := ((s.portMap c).map (·.loop)).eraseDups

/-- The rules are reviewed for a canvas's loops: MW_PORT_LOAD, and suspension with LOOP_OVERLOAD and SERVICE_NEEDED; only a PORT_MAP commit
(`commit`) lifts a suspension (R229). -/
def State.reviewLoads (c : Nat) (commit : Bool) (s : State) : State :=
  (s.canvasLoops c).foldl (init := s) fun t l =>
    let w := worstLine (t.loopEntries (t.portMap c) l)
    let b := max (t.lineBudget c l) 1
    let t1 := t.setP (mwLoop l P.MW_PORT_LOAD) (l % 32) (cdiv (w.2 * 1000) b)
    let fits := t1.loopFits c l
    let t2 := if !fits && !(t1.loop l).suspended then
        (((t1.modLoop l fun y => { y with suspended := true }).raiseService (.loopOverload l)).post 0x5C 0x7 l (1 + at' 16 w.1))
      else if fits && commit && (t1.loop l).suspended then
        (((t1.modLoop l fun y => { y with suspended := false }).clearService (.loopOverload l)).post 0x5C 0x7 l (at' 16 w.1))
      else t1
    t2.noteLoop l

/-! ### Tile frames (R219 to R222) -/

/-- FSO of an end (R211, R219): REACH is what it feeds, plus 1 when it feeds the whole loop. -/
def State.sendFso (c p l e : Nat) (s : State) : State :=
  let r := ((s.loop l).side e).reach
  if r = 0 ∨ !s.ownsEnd l e then s
  else
    let reach := if r = s.dirCount l ∧ ((s.loop l).side (1 - e)).reach = 0 then r + 1 else r
    let d1 := p * 64 + reach % 64
    let d2 := (s.canvas c).tag % 256
    s.emit (.tileSet (s.endPort l e) 4 d1 d2 (255 - (d1 ^^^ d2)))

/-- FSO_SEND (R219, R221): tile frames still open are abandoned, then every feeding end of the canvas's loops sends its FSO. -/
def execFsoSend (cv phase : Nat) (s : State) : Result :=
  guarded (.fsoSend cv phase) s <|
    if s.cvState cv ≠ 2 ∨ s.powerState = 2 ∨ s.cvp cv P.CV_PHASES 0 ≤ phase then s
    else
      let s0 := s.atLeast ((s.phaseTime cv phase + 100 * subTick) / subTick)
      (s0.canvasLoops cv).foldl (init := s0) fun t l =>
        (List.range 2).foldl (fun u e => u.sendFso cv phase l e) (t.abandonFrames l fun _ => true)

/-- A tile takes tile frames of a phase: it is fed, present without mismatch or quarantine, its loop is not suspended, and it has the phase (R222). -/
def State.takesFrames (s : State) (l hop phase : Nat) : Bool :=
  (s.fedFrom l hop).isSome && s.tileState l hop == 1 && !(s.loop l).suspended
    && decide (phase ≤ (((s.tile l hop).info.map (·.maxPhases)).getD 0))
    && (s.ownsEnd l ((s.fedFrom l hop).getD 0))

/-- A row's pixels as payload bytes, columns reversed under MIRROR_X (R215, R220). -/
def rowBytes (w : Nat) (mx : Bool) (codes : List Nat) : List Byte :=
  let cols := (List.range w).map fun i => if mx then w - 1 - i else i
  cols.flatMap fun x => (List.range 3).flatMap fun k => leBytes (codes.getD (3 * x + k) 0) 2

/-- The packets of a tile for a canvas line (R220): TFH on its first line, TLINE, TFE on its last. -/
def State.sendTileLine (l hop c p y : Nat) (m : MapEntry) (s : State) : State :=
  let e := (s.fedFrom l hop).getD 0
  let (w, h) := s.tileDims l hop
  let d := s.distOf l e hop
  let tag := (s.canvas c).tag
  let first := y = m.y
  let last := y + 1 = m.y + h
  let row := if m.my then h - 1 - (y - m.y) else y - m.y
  let s1 := if first then
      (s.modTile l hop fun t => { t with frame := some { phase := p, tag := tag, rows := 0 } }).sendTile l e 0x1 p d 0 0
        (leBytes (tag + at' 32 w + at' 48 h + at' 64 (s.dirTile l hop 12 1) + at' 72 (s.dirTile l hop 13 1 % 2)
          + at' 80 (s.cvp c P.CV_PHASES 0 - 1)) 12)
    else s
  match (s1.tile l hop).frame with
  | none => s1
  | some f =>
    if f.phase ≠ p ∨ f.tag ≠ tag then s1
    else
      let codes := SMap.get (fun _ => []) (s1.canvas c).out (outKey l hop y)
      let s2 := (s1.modTile l hop fun t => { t with frame := some { f with rows := f.rows + 1 } }).sendTile l e 0x2 p d row (b2n (decide last))
        (rowBytes w m.mx codes)
      if last then
        (s2.modTile l hop fun t => { t with frame := none }).sendTile l e 0x3 p d 0 0 (leBytes (tag + at' 32 (f.rows + 1)) 8)
      else s2

/-- TILE_LINE_SEND (R220): at the tile's ready time its packets for a line that the engine has handed over leave; a row is handed over once. -/
def execTileLineSend (lp hop cv phase y : Nat) (s : State) : Result :=
  guarded (.tileLineSend lp hop cv phase y) s <|
    let x := s.canvas cv
    match (s.portMap cv).find? fun e => e.loop == lp && e.hop == hop, SMap.find (outKey lp hop y) x.out with
    | some m, some _ =>
      let s0 := s.atLeast ((s.composeTime cv phase y + 100 * subTick + m.x / 8 * subTick * 5 / 6) / subTick)
      let s1 := if s0.takesFrames lp hop phase && s0.cvState cv == 2 && x.phase == phase then s0.sendTileLine lp hop cv phase y m else s0
      s1.modCanvas cv fun k => { k with out := SMap.del (outKey lp hop y) k.out }
    | _, _ => s

/-! ### Handover (R232) -/

/-- F: the frame tag of the first show period of the loop's canvas at least `lead` ns ahead; none while no canvas runs. -/
def State.handoverTag (s : State) (l lead : Nat) : Option Nat :=
  match s.loopCanvas l with
  | none => none
  | some c =>
    if s.cvState c ≠ 2 then none
    else
      let x := s.canvas c
      let t := max (s.showPeriod c) 1
      let want := (s.now + lead) * subTick
      some (wrap32 (x.tag + 1 + (if want ≤ x.next then 0 else cdiv (want - x.next) t)))

/-- The handover takes effect at the start of F (Table 7-12, step 4): an end whose REACH becomes 0 announces SLEEP. -/
def State.applyHandover (l : Nat) (s : State) : State :=
  match (s.loop l).handover with
  | none => s
  | some h =>
    let s0 := s.abandonFrames l fun hop => s.fedFrom l hop != (if hop ≤ h.reachA then some 0 else some 1)
    let s1 := s0.modLoop l fun y => { y with
      handover := none, a := { y.a with reach := h.reachA, starting := false, heard := none }, b := { y.b with reach := h.reachB, starting := false, heard := none } }
    let s3 := (((s1.feedChange l h.kind).evalLoop l h.reason).handingDone l true).trapMoved l
    match h.ticket with
    | some tk => s3.finalReply tk cOK 0 0
    | none => s3

/-- Step 2 of Table 7-12 is met: the incoming end has trained, and the partner has answered on a paired loop. -/
def Handover.goes (h : Handover) : Bool := h.ready && h.acked

/-- A handover to the reaches given is triggered (Table 7-12, step 1); on a paired loop the partner is asked. -/
def State.startHandover (l ra rb kind reason : Nat) (ticket : Option Nat) (s : State) : State :=
  let paired := s.dirMode l = 3
  let tag := s.handoverTag l (if paired then 1000000 else 100000)
  let inc := if ra ≠ 0 then 0 else 1
  let h : Handover := { tag := tag, reachA := ra, reachB := rb, kind := kind, ticket := ticket, ready := !s.ownsEnd l inc, acked := !paired, reason := reason }
  let s1 := s.modLoop l fun y => { y with handover := some h }
  let s2 := s1.modEnd l inc fun y => { y with starting := y.starting || y.reach == 0 }
  if paired then
    let own := s.feeder l
    s2.sendPartner 0x4 (leBytes (l + at' 32 (tag.getD s.ring.tag) + at' 64 (if own = 0 then ra else rb) + at' 72 (if own = 0 then rb else ra)) 12)
  else s2

/-- HANDOVER_READY (Table 7-12, step 2): the incoming end is trained, so discovery runs (R223); with no canvas running the feed moves at once, after the
partner's ACK on a paired loop. -/
def execHandoverReady (lp : Nat) (s : State) : Result :=
  guarded (.handoverReady lp) s <|
    match (s.loop lp).handover with
    | none => s
    | some h =>
      let h1 := { h with ready := true }
      let s1 := s.modLoop lp fun y => { y with handover := some h1 }
      let inc := if h.reachA ≠ 0 then 0 else 1
      let s2 := s1.modEnd lp inc fun y => { y with trained := true, asleep := false, done := true, found := max y.found (if inc = 0 then h.reachA else h.reachB) }
      let s3 := if h.ready then s2 else s2.discoverLoop lp
      if h.tag.isNone && h1.goes then s3.applyHandover lp else s3

/-- HANDOVER_ABANDON (R232). -/
def execHandoverAbandon (lp : Nat) (s : State) : Result :=
  guarded (.handoverAbandon lp) s <|
    match (s.loop lp).handover with
    | some h => if h.goes then s else s.abandonHandover lp
    | none => s

/-- REVERT_HOLD_EXPIRY (R232): a split loop proven intact for MW_REVERT_HOLD reverts to its A end. -/
def execRevertHoldExpiry (lp : Nat) (s : State) : Result :=
  guarded (.revertHoldExpiry lp) s <|
    let x := s.loop lp
    let n := s.dirCount lp
    if x.b.reach ≠ 0 ∧ x.intact = true ∧ x.forced = 0 ∧ x.trap = 0 ∧ s.getP (mwLoop lp P.MW_REVERT) 0 = 1 ∧ x.handover = none then
      s.startHandover lp n 0 1 2 none
    else s

/-! ### Commands (R237) -/

def loopDiscoverSpec : OpSpec := .fixed 0x0401 2

/-- LOOP_DISCOVER from step 7 on: a DISABLED loop reaches no tile. -/
def loopDiscoverBody : Body := fun q s =>
  let l := q.c.f 0 16
  if 512 ≤ l then (s, .err cBAD_PARAM)
  else
    let ends := (List.range 2).filter fun e => s.feedingEnd l e
    if ends.isEmpty then (s, .done cOK 2 ((s.loop l).a.found + at' 8 (s.loop l).b.found))
    else (ends.foldl (fun t e => t.sendDiscoverFrom l e) (s.modLoop l fun y => { y with discWait := y.discWait ++ [q.tk] }), .wait)

/-- LOOP_DISCOVER (R237). -/
def execLoopDiscover (c : Cmd) (s : State) : Result := guarded (.loopDiscover c) s (submit loopDiscoverSpec loopDiscoverBody c s)

/-- CFG_WRITE or CFG_READ to a tile: TILE_ABSENT unless some end reaches it. -/
def cfgBody (typ n : Nat) : Body := fun q s =>
  let l := q.c.f 0 16
  let hop := q.c.f 16 8
  if 512 ≤ l ∨ hop < 1 ∨ 32 < hop then (s, .err cBAD_PARAM)
  else match (if s.tileState l hop = 4 then none else s.ctrlEnd l hop) with
    | none => (s, .err 0x40)
    | some e =>
      let tag := ((s.loop l).cfgTag + 1) % 256
      let s1 := s.modLoop l fun y => { y with cfgTag := tag, cfg := y.cfg ++ [(tag, hop, q.tk)] }
      (s1.sendTile l e typ 0 (s1.distOf l e hop) tag 0 (leBytes (q.c.f 32 (8 * n)) n), .wait)

def tileCfgWriteSpec : OpSpec := { op := 0x0402, len := fun c => c.opLen == 12, rsvd := 0xFF000000 }

/-- TILE_CFG_WRITE from step 7 on. -/
def tileCfgWriteBody : Body := cfgBody 0x6 8

/-- TILE_CFG_WRITE (R237). -/
def execTileCfgWrite (c : Cmd) (s : State) : Result := guarded (.tileCfgWrite c) s (submit tileCfgWriteSpec tileCfgWriteBody c s)

def tileCfgReadSpec : OpSpec := { op := 0x0403, len := fun c => c.opLen == 8, rsvd := 0xFF000000 }

/-- TILE_CFG_READ from step 7 on. -/
def tileCfgReadBody : Body := cfgBody 0x7 4

/-- TILE_CFG_READ (R237). -/
def execTileCfgRead (c : Cmd) (s : State) : Result := guarded (.tileCfgRead c) s (submit tileCfgReadSpec tileCfgReadBody c s)

def tileStatusReadSpec : OpSpec := .fixed 0x0404 4

/-- TILE_STATUS_READ from step 7 on: 20 bytes for each tile. -/
def tileStatusReadBody : Body := fun q s =>
  let l := q.c.f 0 16
  let hop := q.c.f 16 8
  let n := q.c.f 24 8
  if 512 ≤ l ∨ hop < 1 ∨ 32 < hop ∨ n < 1 ∨ 12 < n ∨ 33 < hop + n then (s, .err cBAD_PARAM)
  else
    let one := fun (i : Nat) => hop + i + at' 8 (s.tileState l (hop + i)) + at' 32 (ofLE (s.tile l (hop + i)).status)
    (s, .done cOK (20 * n) ((List.range n).foldl (fun v i => v + at' (160 * i) (one i)) 0))

/-- TILE_STATUS_READ (R237). -/
def execTileStatusRead (c : Cmd) (s : State) : Result := guarded (.tileStatusRead c) s (submit tileStatusReadSpec tileStatusReadBody c s)

def loopFeedSpec : OpSpec := .fixed 0x0405 3

/-- An end can reach every tile of the loop. -/
def State.reachesAll (s : State) (l e : Nat) : Bool :=
  let n := s.dirCount l
  n != 0 && ((s.loop l).intact || ((s.loop l).side e).found == n || (s.dirMode l == 3 && !s.ownsEnd l e && (s.loop l).peer.2.2.1 == n))

/-- LOOP_FEED from step 7 on. -/
def loopFeedBody : Body := fun q s =>
  let l := q.c.f 0 16
  let mode := q.c.f 16 8
  if 512 ≤ l ∨ 2 < mode then (s, .err cBAD_PARAM)
  else if (s.loop l).handover.isSome then (s, .err cBUSY)
  else
    let n := s.dirCount l
    let e := if mode = 2 then 1 else 0
    let x := s.loop l
    let there := (if e = 0 then x.a.reach else x.b.reach) == n && (if e = 0 then x.b.reach else x.a.reach) == 0
    let can := (s.dirMode l == 2 || s.dirMode l == 3 || (s.dirMode l == 1 && e == 0)) && s.reachesAll l e
    let s1 := s.modLoop l fun y => { y with forced := mode }
    if mode = 0 then
      if there || !can then (s1, .ok) else (s1.startHandover l n 0 2 3 (some q.tk), .wait)
    else if !can then (s, .err cNO_RESOURCE)
    else if there then (s1, .ok)
    else (s1.startHandover l (if e = 0 then n else 0) (if e = 0 then 0 else n) 2 3 (some q.tk), .wait)

/-- LOOP_FEED (R237). -/
def execLoopFeed (c : Cmd) (s : State) : Result := guarded (.loopFeed c) s (submit loopFeedSpec loopFeedBody c s)

/-- The loop begins anew, in DISCOVERING: its frames are abandoned, a handover in progress ends with TIMEOUT, its tiles depart (R227, R232). -/
def State.resetLoop (l reason : Nat) (s : State) : State :=
  let s0 := s.abandonFrames l fun _ => true
  let s1 := ((if (s0.loop l).handover.isSome then s0.abandonHandover l else s0).trapBroken l)
  let s2 := (List.range 32).foldl (fun t i => (t.setReachable l (i + 1) 0 false).setReachable l (i + 1) 1 false) s1
  let s3 := s2.modLoop l fun y => { a := {}, b := {}, cfg := y.cfg, cfgTag := y.cfgTag, discWait := y.discWait, peer := y.peer, suspended := y.suspended
                                    forced := y.forced, yields := y.yields, told := y.told }
  (s3.reachReport l).setLoopState l (if s3.dirMode l = 0 then 0 else 1) reason

/-- The FEEDER of the timing primary decides the A end (R236): a secondary whose digest agrees with the partner's but for FEEDER takes the other end. -/
def State.reviewFeeder (l : Nat) (s : State) : State :=
  let x := s.loop l
  let y := s.dirMode l == 3 && s.mw.link.role == 1 && x.peer.2.2.2.2 == s.digestWith l (1 - s.dirFeeder l) && x.peer.2.2.2.2 != s.loopDigest l
  if x.yields = y then s
  else ((s.modLoop l fun z => { z with yields := y }).resetLoop l 4)

/-- A TILE_DIRECTORY commit takes effect on a loop: a change of MODE or EXPECTED returns it to DISCOVERING (R227). -/
def State.directoryCommitted (l : Nat) (changed : Bool) (s : State) : State :=
  let s1 := if changed then s.resetLoop l 5
    else (List.range 32).foldl (init := s) fun t i => match (t.tile l (i + 1)).info with
      | none => t
      | some f => t.modTile l (i + 1) fun y => { y with mismatch := match t.tileCheck l (i + 1) f with
          | none => 0
          | some 0 => 2
          | some _ => 3 }
  if s1.dirMode l = 3 then (s1.reviewFeeder l).noteLoop l else s1.modLoop l fun y => if y.yields then { y with yields := false } else y

end Sys2Proof.Machine
end

