-- ==== Sys2Proof/Machine/PartnerLink.lean ====
section
/-! DEFINITION. The partner link: bring-up, probes, timing from PMARK, heartbeats, paired loops, PARTNER_CONFIG (R233 to R237). -/

namespace Sys2Proof.Machine

abbrev linkId : PartnerId := { kind := 3, pos := 0 }

def State.modLink (f : PartnerLink → PartnerLink) (s : State) : State := { s with mw := { s.mw with link := f s.mw.link } }

abbrev State.linkState (s : State) : Nat := s.getP P.PT_STATE 0

/-- The width of the link: the lanes of PARTNER_CONFIG's mask. -/
def PartnerLink.width (x : PartnerLink) : Nat := popcount x.mask 8

/-- The device's own ALIGN column on the lanes of the mask, in ascending order of lane (R87, R233): D1 names the logical lane, D2 is ASEQ, D3 has the width
code and TRAINING. -/
def State.sendPartnerAligns (s : State) : State :=
  let x := s.mw.link
  let lanes := (List.range 8).filter fun i => x.mask.testBit i
  let d3 := widthCode x.width * 32 + 16 * b2n (!x.trained)
  let s1 := lanes.zipIdx.foldl (fun t e => t.emit (.lane (1160 + e.1) 5 e.2 x.aseqTx d3)) s
  s1.modLink fun y => { y with aseqTx := (y.aseqTx + 1) % 256 }

/-- The link enters a state of Table 3-7, posting PARTNER_LINK; PT_WIDTH is 0 outside ACTIVE. -/
def State.enterLink (new reason : Nat) (s : State) : State :=
  let w := if new = 5 then s.mw.link.width else 0
  let s1 := (((s.setP P.PT_STATE 0 new).setP P.PT_WIDTH 0 w).post 0x5D 0x8 0 (new + at' 8 w + at' 16 reason)).settleLanes ((List.range 8).map (1160 + ·))
  if 1 ≤ new ∧ new ≤ 4 then s1.sendPartnerAligns else s1

/-- The link with nothing known of a partner. -/
def PartnerLink.forgotten (x : PartnerLink) : PartnerLink :=
  { x with lanes := [], alignedRun := 0, trained := false, peer := none, probes := [], echoes := [], probesDone := 0, lostRun := 0, hbNext := none }

/-- ACTIVE is left, or training begins anew: the partner departs, and a secondary enters HOLDOVER at once (R233, R235). -/
def State.partnerGone (new reason : Nat) (s : State) : State :=
  let timing := s.partnerTiming
  let active := s.linkActive
  let s2 := ((s.modLink PartnerLink.forgotten).setP P.PT_PARTNER_SERIAL 0 0).enterLink new reason
  let s3 := if active then s2.partnerDeparts linkId else s2
  if timing then s3.enterHoldover else s3

/-- PARTNER_SIGNAL_DETECT (R233): signal on a lane of the mask in DETECT. -/
def execPartnerSignalDetect (lane : Nat) (s : State) : Result :=
  guarded (.partnerSignalDetect lane) s (if s.linkState = 1 ∧ s.mw.link.mask.testBit lane = true then s.enterLink 2 0 else s)

/-- This device's P_IDENTITY leaves (Table 7-13). -/
def State.sendIdentity (s : State) : State :=
  let x := s.mw.link
  s.sendPartner 0x1 (leBytes (Config.serial + at' 64 (s.getP P.FW_RELEASE 0) + at' 96 x.role + at' 104 x.width + at' 112 1) 32)

/-- Every logical lane below the width is named by exactly one of the column's ALIGNs. -/
def fullColumn (w : Nat) (sets : List AlignSet) : Bool := (List.range w).all fun l => (sets.filter fun a => a.d1 % 32 == l).length == 1

/-- The column shows one ASEQ. -/
def equalAseq : List AlignSet → Bool
  | [] => false
  | a :: r => r.all fun b => b.d2 == a.d2

/-- An ALIGN column of the partner (R233, as R102): LOCK ends when every logical lane is named; DESKEW after 4 aligned columns, when the partner shows
TRAINING = 0; IDENTIFY begins with this device's P_IDENTITY. -/
def State.partnerColumn (sets : List AlignSet) (s : State) : State :=
  let x := s.mw.link
  let s1 := s.modLink fun y => { y with lanes := sets.foldl (fun m a => SMap.set (fun _ => 31) m a.lane (a.d1 % 32)) y.lanes }
  if s.linkState = 2 then (if fullColumn x.width sets then s1.enterLink 3 0 else s1)
  else if s.linkState = 3 then
    if fullColumn x.width sets && equalAseq sets then
      if x.trained && sets.all (fun a => !a.d3.testBit 4) then (s1.enterLink 4 0).sendIdentity
      else s1.modLink fun y => { y with alignedRun := y.alignedRun + 1, trained := y.trained || decide (4 ≤ y.alignedRun + 1) }
    else s1.modLink fun y => { y with alignedRun := 0 }
  else s

/-- PARTNER_ALIGN (R233), of the lanes that deliver; while the link trains, the device's own column follows. -/
def execPartnerAlign (sets : List AlignSet) (s : State) : Result :=
  guarded (.partnerAlign sets) s <|
    let st := s.linkState
    let t := s.partnerColumn (sets.filter fun a => s.hears (1160 + a.lane))
    if 2 ≤ st ∧ st ≤ 4 ∧ t.linkState = st then t.sendPartnerAligns else t

/-- PARTNER_TRAIN_TIMEOUT (R233): in LOCK, DESKEW and IDENTIFY. -/
def execPartnerTrainTimeout (s : State) : Result :=
  guarded .partnerTrainTimeout s (if 2 ≤ s.linkState ∧ s.linkState ≤ 4 then s.partnerGone 1 1 else s)

/-- ACTIVE is entered: the partner arrives, and a secondary's Ringmaster begins to take PMARKs (R233, R235). -/
def State.linkUp (s : State) : State :=
  let s1 := s.enterLink 5 0
  let serial := ((s.mw.link.peer.map (·.1)).getD 0)
  let s2 := (s1.partnerArrives linkId (srcOf 0x8 0) serial).modLink fun x => { x with lastHb := s.now }
  if s2.partnerTiming && s2.getP P.RM_STATE 0 == 0 then s2.enterAcquire else s2

/-- IDENTIFY ends when the partner is identified and the 16 PROBEs are done. -/
def State.linkReview (s : State) : State :=
  if s.linkState = 4 ∧ s.mw.link.peer.isSome = true ∧ 16 ≤ s.mw.link.probesDone then s.linkUp else s

/-- A partner packet of type `typ` that is sound is given to `k` (R234, R215); any other is discarded. -/
def State.partnerReceive (typ : Nat) (p : TilePkt) (n : Nat) (k : State → State) (s : State) : State :=
  let s := s.atLeast p.time
  if (s.linkState = 4 ∨ s.linkState = 5) ∧ s.linkHears = true ∧ tileFaulty typ p = false ∧ p.payload.length = n ∧ crc32c p.payload = p.crc then k s else s

/-- P_IDENTITY (R233): the protocol, the roles and the serial number are checked. -/
def execPIdentity (p : TilePkt) (s : State) : Result :=
  guarded (.pIdentity p) s <| s.partnerReceive 1 p 32 fun s =>
    let l := p.payload
    let x := s.mw.link
    if s.linkState ≠ 4 then s
    else if byteAt l 14 ≠ 1 then s.partnerGone 1 2
    else if byteAt l 12 = x.role ∨ (x.want ≠ 0 ∧ x.want ≠ fieldAt l 0 8) then s.partnerGone 1 0
    else ((s.modLink fun y => { y with peer := some (fieldAt l 0 8, fieldAt l 8 4, byteAt l 12) }).setP P.PT_PARTNER_SERIAL 0 (fieldAt l 0 8)).linkReview

/-! ### Probes (R97, R233) -/

/-- A PROBE leaves for the partner, once it is identified. -/
def State.linkProbe (t : Nat) (s : State) : State :=
  let s := s.atLeast t
  if s.linkState = 5 ∨ (s.linkState = 4 ∧ s.mw.link.peer.isSome = true) then
    let q := s.mw.link.pseq
    (s.modLink fun x => { x with pseq := (q + 1) % 256, probes := (q, t) :: x.probes }).emit (.partnerSet 6 q 0 (255 - q))
  else s

/-- The partner's PROBE_ECHO: its turnaround is 100 ns. -/
def State.linkEcho (pseq d2 d3 t : Nat) (s : State) : State :=
  let s := s.atLeast t
  if d2 ≠ 1 ∨ pseq + d3 ≠ 255 ∨ s.linkHears = false then s
  else match s.mw.link.probes.find? fun e => e.1 == pseq with
    | none => s
    | some e =>
      let s1 := s.modLink fun x => { x with
        probes := x.probes.filter (· != e), echoes := ((t - e.2 - 100) / 2 :: x.echoes).take 16, lostRun := 0, probesDone := x.probesDone + 1 }
      (s1.setP P.PT_LINK_DELAY 0 (medianOf s1.mw.link.echoes)).linkReview

/-- A PROBE to the partner has had no echo; the 16th in a row ends the link. -/
def State.linkProbeLost (pseq : Nat) (s : State) : State :=
  match s.mw.link.probes.find? fun e => e.1 == pseq with
  | none => s
  | some e =>
    let s1 := s.modLink fun x => { x with probes := x.probes.filter (· != e), lostRun := x.lostRun + 1, probesDone := x.probesDone + 1 }
    if 16 ≤ s1.mw.link.lostRun then s1.partnerGone 1 4 else s1.linkReview

/-- PROBE_SEND (R97, R233); group 8 is the partner link. -/
def execProbeSend (g t : Nat) (s : State) : Result := guarded (.probeSend g t) s (if g = 8 then s.linkProbe t else s.groupProbe g t)

/-- PROBE_ECHO (R97, R233). -/
def execProbeEcho (g pseq d2 d3 t : Nat) (s : State) : Result :=
  guarded (.probeEcho g pseq d2 d3 t) s (if g = 8 then s.linkEcho pseq d2 d3 t else s.groupEcho g pseq d2 d3 t)

/-- PROBE_TIMEOUT (R97, R233). -/
def execProbeTimeout (g pseq : Nat) (s : State) : Result :=
  guarded (.probeTimeout g pseq) s (if g = 8 then s.linkProbeLost pseq else s.groupProbeLost g pseq)

/-- PARTNER_PROBE (R233): the echo leaves 100 ns after the PROBE arrives. -/
def execPartnerProbe (pseq d2 d3 t : Nat) (s : State) : Result :=
  guarded (.partnerProbe pseq d2 d3 t) s <|
    let s := s.atLeast t
    if d2 = 0 ∧ pseq + d3 = 255 ∧ s.linkHears = true ∧ (s.linkState = 4 ∨ s.linkState = 5) then (s.atLeast (t + 100)).emit (.partnerSet 6 pseq 1 (255 - pseq)) else s

/-! ### Timing (R234, R235) -/

/-- P_HEARTBEAT: the secondary takes its frame tag; missed sequence numbers are counted. -/
def execPHeartbeat (p : TilePkt) (s : State) : Result :=
  guarded (.pHeartbeat p) s <| s.partnerReceive 2 p 8 fun s =>
    if s.linkState ≠ 5 then s
    else
      let q := fieldAt p.payload 4 2
      let lost := match s.mw.link.hbNext with
        | some e => (q + 65536 - e) % 65536
        | none => 0
      let s1 := (s.modLink fun x => { x with lastHb := s.now, hbNext := some ((q + 1) % 65536) }).bumpSat P.PT_HEARTBEAT_LOST 0 lost
      if s1.mw.link.role = 1 then { s1 with ring := { s1.ring with tag := fieldAt p.payload 0 4 } } else s1

/-- P_HEARTBEAT_SEND (R234): none is sent in a partner quiet window (R262). -/
def execPHeartbeatSend (s : State) : Result :=
  guarded .pHeartbeatSend s <|
    if s.linkActive && s.quietEnd.isNone then
      let q := s.mw.link.hbSeq
      (s.modLink fun x => { x with hbSeq := (q + 1) % 65536 }).sendPartner 0x2 (leBytes (s.ring.tag + at' 32 q) 8)
    else s

/-- PARTNER_HEARTBEAT_TIMEOUT (R233): PT_TIMEOUT does not run in a partner quiet window (R262). -/
def execPartnerHeartbeatTimeout (s : State) : Result :=
  guarded .partnerHeartbeatTimeout s (if s.linkActive && s.quietEnd.isNone then s.partnerGone 1 1 else s)

/-- PMARK (R233, R235): its arrival less PT_LINK_DELAY is a reference edge of a secondary; PT_TIME_ERR takes the phase error. -/
def execPmark (t d1 d2 d3 : Nat) (s : State) : Result :=
  guarded (.pmark t d1 d2 d3) s <|
    let s := s.atLeast t
    if s.partnerTiming && s.linkHears && d1 + d3 == 255 then
      let s1 := s.referenceEdge ((t - s.getP P.PT_LINK_DELAY 0) * subTick)
      s1.setP P.PT_TIME_ERR 0 (s1.getP P.RM_PHASE_ERR 0)
    else s

/-- The timing primary marks a master period boundary for its partner (R233). -/
def State.sendPmark (s : State) : State :=
  if s.linkActive && s.mw.link.role == 0 then
    let d1 := s.ring.tag % 256
    s.emit (.partnerSet 2 d1 (s.ring.tag / 256 % 256) (255 - d1))
  else s

/-! ### Paired loops (R232, R234, R236) -/

/-- The end of a paired loop that the partner has. -/
abbrev State.peerEnd (s : State) (l : Nat) : Nat := 1 - s.feeder l

/-- P_LOOP: the partner's findings at its end are taken; a tile that it no longer reaches is not reachable from there (R225); the digests are compared, and
the timing primary's FEEDER decides (R236). -/
def execPLoop (p : TilePkt) (s : State) : Result :=
  guarded (.pLoop p) s <| s.partnerReceive 3 p 16 fun s =>
    let b := p.payload
    let l := fieldAt b 0 2
    if s.linkState ≠ 5 ∨ 512 ≤ l ∨ s.dirMode l ≠ 3 then s
    else
      let digest := fieldAt b 8 4
      let own := s.loopDigest l
      let s0 := (s.modLoop l fun y => { y with peer := (byteAt b 2, byteAt b 3, byteAt b 4, byteAt b 5, digest) }).reviewFeeder l
      let e := s0.peerEnd l
      let s1 := (s0.modEnd l e fun y => { y with reach := byteAt b 3, found := byteAt b 4, done := true }).evalLoop l 4
      let s2 := (List.range (s1.dirCount l)).foldl (fun t i => if byteAt b 4 ≤ i then t.setReachable l (t.hopAt l e (i + 1)) e false else t) s1
      if digest = own then s2.clearService (.pairMismatch l)
      else if s2.ctl.service.contains (.pairMismatch l) then s2
      else (s2.raiseService (.pairMismatch l)).post 0x5E 0x7 l (own + at' 32 digest)

/-- A REQUEST for a loop: accepted for a paired loop that is not already being handed over, if this device's end can feed what it is asked to. -/
def State.handoverAsked (l tag theirs ours : Nat) (s : State) : State :=
  let e := s.feeder l
  let can := s.dirMode l == 3 && (s.loop l).handover.isNone && (ours == 0 || s.reachesAll l e)
  let reply := fun (k : Nat) (t : State) => t.sendPartner 0x4 (leBytes (l + at' 16 k + at' 32 tag + at' 64 ours + at' 72 theirs) 12)
  if !can then reply 2 s
  else
    let f : Option Nat := match s.loopCanvas l with
      | some c => if s.cvState c = 2 then some tag else none
      | none => none
    let h : Handover := { tag := f, reachA := if e = 0 then ours else theirs, reachB := if e = 0 then theirs else ours, kind := 2, ticket := none
                          ready := ours == 0, reason := 4 }
    let s1 := reply 1 (s.modLoop l fun y => { y with handover := some h })
    let s2 := if ours = 0 then s1 else s1.modEnd l e fun y => { y with starting := y.starting || y.reach == 0 }
    if h.ready && f.isNone then s2.applyHandover l else s2

/-- ACK of this device's REQUEST: with the incoming end ready and no show period to wait for, the feed moves at once. -/
def State.handoverAcked (l : Nat) (s : State) : State :=
  match (s.loop l).handover with
  | none => s
  | some h =>
    let h1 := { h with acked := true }
    let s1 := s.modLoop l fun y => { y with handover := some h1 }
    if h.tag.isNone && h1.goes then s1.applyHandover l else s1

/-- P_HANDOVER (R232, R234). -/
def execPHandover (p : TilePkt) (s : State) : Result :=
  guarded (.pHandover p) s <| s.partnerReceive 4 p 12 fun s =>
    let b := p.payload
    let loops := (List.range 512).filter fun l => s.dirMode l == 3 && (fieldAt b 0 2 == l || fieldAt b 0 2 == 0xFFFF)
    if s.linkState ≠ 5 then s
    else if byteAt b 2 = 0 then loops.foldl (fun t l => t.handoverAsked l (fieldAt b 4 4) (byteAt b 8) (byteAt b 9)) s
    else if byteAt b 2 = 1 then loops.foldl (fun t l => t.handoverAcked l) s
    else if byteAt b 2 = 2 then loops.foldl (fun t l => t.abandonHandover l) s
    else s

/-- P_TILE: the partner relays what it heard from a tile at its end; a TILE_ID may answer either device's DISCOVER (R224). -/
def execPTile (p : TilePkt) (s : State) : Result :=
  guarded (.pTile p) s <| s.partnerReceive 5 p 48 fun s =>
    let b := p.payload
    let l := fieldAt b 0 2
    let hop := byteAt b 2
    let heard := b.drop 16
    let e := s.peerEnd l
    if s.linkState ≠ 5 ∨ 512 ≤ l ∨ s.dirMode l ≠ 3 ∨ hop < 1 ∨ 32 < hop then s
    else if byteAt b 3 = 0 then
      (if byteAt heard 25 = e then (s.tileFound l e (byteAt heard 24) (tileInfoOf heard)).modEnd l e fun y => { y with answers := [] }
       else s.tileIdHeard l heard)
    else if byteAt b 3 = 1 then s.modTile l hop fun t => { t with status := heard.take 16, misses := 0, poll := none }
    else if byteAt b 3 = 2 then
      match (s.loop l).cfg.find? fun e => e.2.1 == hop with
      | some e => s.cfgReply l e.1 (heard.take 12)
      | none => s
    else s

/-! ### PARTNER_CONFIG (R237) -/

/-- The paired loops that this device feeds. -/
def State.fedPaired (s : State) : List Nat :=
  (List.range 512).filter fun l => s.dirMode l == 3 && ((s.loop l).side (s.feeder l)).reach != 0

/-- Every one of these paired loops is handed to the partner; `ticket` or the entry to DARK waits for them, and for those that are being handed already
(R232, R433). -/
def State.handOver (fed : List Nat) (ticket : Option Nat) (s : State) : State :=
  let k := s.mw.link
  let new := fed.filter fun l => !k.handing.contains l
  let s1 := s.modLink fun x => { x with handing := x.handing ++ new, handTickets := x.handTickets ++ ticket.toList }
  new.foldl (init := s1) fun t l =>
    if (t.loop l).handover.isSome || !t.reachesAll l (t.peerEnd l) then t.handingDone l false
    else
      let n := t.dirCount l
      t.startHandover l (if t.feeder l = 0 then 0 else n) (if t.feeder l = 0 then n else 0) 2 3 none

def partnerConfigSpec : OpSpec := { op := 0x0041, priv := true, len := fun c => c.opLen == 12, rsvd := 0xFF000000 }

/-- PARTNER_CONFIG from step 7 on. -/
def partnerConfigBody : Body := fun q s =>
  let c := q.c
  let act := c.f 0 8
  let role := c.f 8 8
  let mask := c.f 16 8
  if 2 < act then (s, .err cBAD_PARAM)
  else if act = 0 then
    let s1 := if s.linkState = 0 then s else s.partnerGone 0 0
    (s1.modLink fun x => { x with enabled := false }, .ok)
  else if act = 1 then
    if 1 < role ∨ !([1, 2, 4, 8].contains (popcount mask 8)) then (s, .err cBAD_PARAM)
    else
      let s1 := if s.linkState = 0 then s else s.partnerGone 0 0
      ((s1.modLink fun x => { x with enabled := true, role := role, mask := mask, want := c.f 32 64 }).enterLink 1 0, .ok)
  else if !s.linkActive then (s, .err 0x43)
  else
    let fed := s.fedPaired
    if fed.isEmpty then (s, .ok) else (s.handOver fed (some q.tk), .wait)

/-- PARTNER_CONFIG (R237). -/
def execPartnerConfig (c : Cmd) (s : State) : Result := guarded (.partnerConfig c) s (submit partnerConfigSpec partnerConfigBody c s)

end Sys2Proof.Machine
end

