-- ==== Sys2Proof/Machine/Lanes.lean ====
section
/-! DEFINITION. Serial lanes: symbol lock, rate matching, signal quality, eye scan, calibration and Trapeze, pattern testing, the lane commands
(R240 to R274). -/

namespace Sys2Proof.Machine

/-! ### Symbol lock (R241 to R243) -/

/-- LANE_LOCK (Table 8-14), at most once per lane per 100 ms; losses not posted are counted in the next record. -/
def State.postLock (k : Nat) (lost : Bool) (cause : Nat) (s : State) : State :=
  let x := s.lane k
  let quiet := match x.lastPost with
    | some t => decide (s.now < t + 100000000)
    | none => false
  if quiet then (if lost then s.modLane k fun y => { y with unposted := y.unposted + 1 } else s)
  else
    let src := laneSource k
    (s.modLane k fun y => { y with lastPost := some s.now, unposted := 0 }).post 0x60 src.1 src.2
      (k + at' 16 (b2n lost) + at' 24 cause + at' 32 (min x.unposted 65535))

/-- What a loss of lock does to the link that the lane carries (R104, R230, R233). -/
def State.reportLoss (k : Nat) (s : State) : State :=
  if k < 1024 then s.portLost k
  else if k < 1160 then
    let g := (laneCam k).1
    let n := s.logicalLane g (laneCam k).2
    if n ≤ 16 then s.camLaneLost g n else s
  else if s.linkActive && (List.range 8).all (fun i => !s.mw.link.mask.testBit i || (s.lane (1160 + i)).lock != 3) then s.partnerGone 1 3
  else s

/-- The far end of a tile link announced SLEEP before going quiet (R217). -/
def State.farAsleep (s : State) (k : Nat) : Bool :=
  decide (k < 1024) && (match s.portEnd k with
    | some e => ((s.loop (k / 2)).side e).asleep
    | none => false)

/-- LOCKED is left for state `new`: the loss is declared, unless the far end sleeps or the lane is being calibrated or in a window (R243). -/
def State.loseLock (k new cause : Nat) (s : State) : State :=
  let x := s.lane k
  let s1 := s.modLane k fun y => { y with lock := new, commas := 0, errs := 0, validRun := 0 }
  if x.lock ≠ 3 ∨ s.farAsleep k = true ∨ x.measuring = true ∨ s.now < x.winEnd then s1
  else ((s1.modLane k fun y => { y with losses := sat32 (y.losses + 1), lost := true }).postLock k true cause).reportLoss k

/-- The signal detector of a lane runs: in DEEP only for a lane of an enabled loop or camera group (Table 8-5). -/
def State.detects (s : State) (k : Nat) : Bool := (s.lane k).rx != 1 || (decide (k < 1160) && s.laneInUse k)

/-- LANE_SIGNAL_DETECT (R242, R256): a signal is itself a wake request, and a receiver that is ON begins to SEARCH. -/
def execLaneSignalDetect (lane : Nat) (s : State) : Result :=
  guarded (.laneSignalDetect lane) s <|
    if s.detects lane then s.modLane lane fun x => { x with signal := true, lock := if x.lock = 0 ∧ x.rx = 3 then 1 else x.lock } else s

/-- LANE_SIGNAL_LOSS (R242): only LOCKED is left. -/
def execLaneSignalLoss (lane : Nat) (s : State) : Result :=
  guarded (.laneSignalLoss lane) s <|
    let s1 := s.modLane lane fun x => { x with signal := false }
    if (s.lane lane).lock = 3 then s1.loseLock lane 0 0 else s1

/-- LOCKED is entered with an error count of 0. What the first adaptation since DEEP has found is free values (log 1); a later lock keeps it (R251). -/
def State.laneLocked (k : Nat) (s : State) : State :=
  let r := s.fresh
  let s1 := if (s.lane k).adapted then s.modLane k fun y => { y with lock := 3, errs := 0, validRun := 0 }
    else r.2.modLane k fun y => { y with lock := 3, errs := 0, validRun := 0, adapted := true, ctle := r.1 % 16, taps := r.1 / 16 }
  if (s.lane k).lost then (s1.modLane k fun y => { y with lost := false }).postLock k false 0 else s1

/-- LANE_COMMA (R242): a comma gives ACQUIRE its boundary, and the fourth on it in a row gives LOCKED. -/
def execLaneComma (lane phase : Nat) (s : State) : Result :=
  guarded (.laneComma lane phase) s <|
    let x := s.lane lane
    if x.measuring then s
    else if x.lock = 1 then s.modLane lane fun y => { y with lock := 2, phase := phase, commas := 1 }
    else if x.lock = 2 then
      if phase ≠ x.phase then s.modLane lane fun y => { y with lock := 1, commas := 0 }
      else if 4 ≤ x.commas + 1 then (s.modLane lane fun y => { y with commas := 0 }).laneLocked lane
      else s.modLane lane fun y => { y with commas := y.commas + 1 }
    else s

/-- `n` invalid symbols in LOCKED: the error count, and the loss of lock when it reaches 4 (R242). -/
def State.countSymbols (k n cause : Nat) (s : State) : State :=
  let e := (s.lane k).errs + n
  if (s.lane k).lock ≠ 3 then s
  else if 4 ≤ e then s.loseLock k 1 cause
  else s.modLane k fun y => { y with errs := e, validRun := 0 }

/-- A code group arrives (R241, R242): the running disparity follows it; each run of 16 valid ones takes 1 from the error count; an invalid one is counted,
and ends ACQUIRE. -/
def State.takeGroup (k g : Nat) (s : State) : State :=
  let x := s.lane k
  let s1 := s.modLane k fun y => { y with rd := rdGroup g y.rd }
  match checkGroup g x.rd with
  | .valid => s1.modLane k fun y => if 16 ≤ y.validRun + 1 then { y with validRun := 0, errs := y.errs - 1 } else { y with validRun := y.validRun + 1 }
  | c =>
    let s2 := s1.modLane k fun y => if c = .disparity then { y with disparity := sat32 (y.disparity + 1) } else { y with violations := sat32 (y.violations + 1) }
    if x.lock = 2 then s2.modLane k fun y => { y with lock := 1, commas := 0, validRun := 0 } else s2.countSymbols k 1 1

/-- LANE_INVALID_SYMBOL (R241, R242): the code groups received before it, since the last such command, and it. What arrives during the lane's measurement
is discarded (R263). -/
def execLaneInvalidSymbol (lane : Nat) (before : List Nat) (group : Nat) (s : State) : Result :=
  guarded (.laneInvalidSymbol lane before group) s <|
    (before ++ [group]).foldl (init := s) fun t g => if (t.lane lane).lock < 2 || (t.lane lane).measuring then t else t.takeGroup lane g

/-- LANE_COMMA_TIMEOUT (R242). -/
def execLaneCommaTimeout (lane : Nat) (s : State) : Result :=
  guarded (.laneCommaTimeout lane) s (if (s.lane lane).lock = 3 then s.loseLock lane 1 2 else s)

/-! ### Rate matching (R244 to R248) -/

/-- The lanes bonded with a lane, and whether the lane decides for them: it carries logical lane 0 (R247). A tile port stands alone. -/
def State.bonded (s : State) (k : Nat) : List Nat × Bool :=
  if k < 1024 then ([k], true)
  else if k < 1160 then
    let g := (laneCam k).1
    (groupLanes (16 + g), s.logicalLane g (laneCam k).2 == 0)
  else ((List.range 8).filterMap fun i => if s.mw.link.mask.testBit i then some (1160 + i) else none,
    SMap.get (fun _ => 31) s.mw.link.lanes (k - 1160) == 0)

/-- A lane's elastic buffer takes a fill, and FILL_MIN and FILL_MAX follow it (R246, R272). -/
def Lane.setFill (n : Nat) (x : Lane) : Lane :=
  { x with fill := n, fillClear := false, fillMin := if x.fillClear then n else min x.fillMin n, fillMax := if x.fillClear then n else max x.fillMax n }

/-- The decision of the lane that leads a bonded column, applied to a lane that delivers (R246, R247). -/
def Lane.rateMatch (lead : Nat) (x : Lane) : Lane :=
  if x.lock ≠ 3 then x
  else if 10 ≤ lead then { x.setFill (x.fill - 4) with skipDel := sat32 (x.skipDel + 1) }
  else if lead ≤ 6 then { x.setFill (min (x.fill + 4) 16) with skipIns := sat32 (x.skipIns + 1) }
  else x

/-- SKIP_RECEIVED (R244, R246 to R248): the fill has drifted by `drift` symbols since the last SKIP. A buffer that would overflow or run empty is recentred
to 8, which discards or repeats 8 symbols. -/
def execSkipReceived (lane : Nat) (drift : Int) (d1 d2 d3 : Nat) (s : State) : Result :=
  guarded (.skipReceived lane drift d1 d2 d3) s <|
    if !s.hears lane then s
    else
      let bad := !(d1 == 0x5A && d2 == 0xA5 && d3 == 0x5A)
      let v : Int := (s.lane lane).fill + drift
      let fill := (clampI 0 16 v).toNat
      let s1 := s.modLane lane fun y => { y.setFill fill with skipErr := if bad then sat32 (y.skipErr + 1) else y.skipErr }
      if v ≤ 0 ∨ 16 < v then
        (s1.modLane lane fun y => { y.setFill 8 with elastic := sat32 (y.elastic + 1) }).countSymbols lane 8 3
      else
        let b := s.bonded lane
        if b.2 then b.1.foldl (fun t k => t.modLane k (Lane.rateMatch fill)) s1 else s1

/-- SKIP_SEND (R244, R245): on bonded lanes in the same column on every lane that transmits. -/
def execSkipSend (lane : Nat) (s : State) : Result :=
  guarded (.skipSend lane) s <|
    if (s.lane lane).tx ≠ 3 then s
    else ((s.bonded lane).1.filter fun k => (s.lane k).tx == 3).foldl (fun t k => t.emit (.lane k 0 0x5A 0xA5 0x5A)) s

/-! ### Signal quality (R252 to R255) -/

/-- The figure of merit (R252). -/
def figureOfMerit (a sigma : Nat) : Nat := (clampI 0 255 (256 * ((a : Int) - 6 * sigma) / (a : Int))).toNat

/-- FOM_WINDOW (R252, R251): a window of a LOCKED lane. A mean of 0 gives no stated value (log 1); the boost and taps in force are free. -/
def execFomWindow (lane a sigma : Nat) (s : State) : Result :=
  guarded (.fomWindow lane a sigma) s <|
    if (s.lane lane).lock ≠ 3 then s
    else
      let r := s.fresh
      let f := if a = 0 then r.1 / 16 % 256 else figureOfMerit a sigma
      r.2.modLane lane fun y => { y with fom := f, fomLow := some (min f (y.fomLow.getD 255)), ctle := r.1 % 16, taps := r.1 / 4096 }

/-- A group becomes due for a reason of R259; one that is running, for low quality again after its run. -/
def State.makeDue (g reason : Nat) (s : State) : State :=
  let st := s.getP P.LN_CAL_STATE g
  if st = 0 then (s.setP P.LN_CAL_STATE g 1).modLaneGroup g fun x => { x with reason := reason }
  else if st = 2 ∧ reason = 2 then s.modLaneGroup g fun x => { x with again := some 2 }
  else s

/-- LN_WORST of a group: its lowest quality, and the first lane that has it. -/
def State.reportWorst (g : Nat) (s : State) : State :=
  let l := (groupLanes g).filter fun k => (s.lane k).lock == 3
  match l.foldl (fun (b : Option (Nat × Nat)) k => match b with
      | none => some ((s.lane k).quality, k)
      | some w => if (s.lane k).quality < w.1 then some ((s.lane k).quality, k) else b) none with
  | some w => s.setP P.LN_WORST g (w.1 + at' 16 w.2)
  | none => s

/-- A lane's monitored quality (R255): LANE_QUALITY, and the group due. -/
def State.takeQuality (k q method : Nat) (s : State) : State :=
  let g := laneGroupOf k
  let m := s.getP P.LN_QUALITY_MIN g
  let x := s.lane k
  let s1 := s.modLane k fun y => { y with quality := q, fomLow := none }
  let src := laneSource k
  let note := fun (below : Bool) (t : State) => (t.modLane k fun y => { y with low := below }).post 0x61 src.1 src.2
    (k + at' 16 q + at' 24 (b2n below) + at' 25 method)
  if q < m then
    let s2 := if x.low then s1 else note true s1
    if s2.getP P.LN_CAL_ENABLE g = 1 then s2.makeDue g 2 else s2
  else if x.low ∧ m + 16 ≤ q then note false s1
  else s1

/-- LANE_MONITOR (R255): the quality of each LOCKED lane, by FOM or by the monitor scan, which waits while an EYE_SCAN runs on the lane. -/
def execLaneMonitor (lg : Nat) (scans : List (Nat × Nat)) (s : State) : Result :=
  guarded (.laneMonitor lg scans) s <|
    let one := fun (t : State) (k : Nat) =>
      let x := t.lane k
      if x.lock ≠ 3 then t
      else if t.getP P.LN_MEASURE lg = 0 then (match x.fomLow with
        | some q => t.takeQuality k q 0
        | none => t)
      else if t.ln.scans.any (fun e => e.lane == k) then t
      else match scans.find? fun e => e.1 == k with
        | some e => t.takeQuality k (min e.2 254) 1
        | none => t
    ((groupLanes lg).foldl one s).reportWorst lg

/-- LANE_WAKE_DONE (R256, R258): a direction reaches the state it has in service; an exit from DEEP calibrates the lane. A receiver that is ON begins to
SEARCH on a signal, with negative running disparity (R241). -/
def execLaneWakeDone (lane : Nat) (tx : Bool) (s : State) : Result :=
  guarded (.laneWakeDone lane tx) s <|
    let w := s.laneWanted lane
    let x := s.lane lane
    let deep := (if tx then x.tx else x.rx) = 1
    let r := s.fresh
    let s1 := if deep then r.2.modLane lane fun y => { y with calTime := s.now, corr := r.1, corrOld := y.corr } else s
    if tx then (if w.1 ≤ x.tx then s else s1.modLane lane fun y => { y with tx := w.1 })
    else if w.2 ≤ x.rx then s
    else s1.modLane lane fun y => { y with rx := w.2, rd := false, lock := if y.lock = 0 ∧ y.signal = true ∧ w.2 = 3 then 1 else y.lock }

/-! ### Eye scan (R253, R254) -/

def eyeScanSpec : OpSpec := { op := 0x0503, len := fun c => c.opLen == 20, rsvd := 0xFFFFFF0000000000 }

/-- The phases of a row, in UI/64, earliest first, and the offsets, in a/128, highest first. -/
def scanPhases (h : Nat) : List Int := (List.range (64 / h)).map fun i => ((i : Int) - (32 / h : Nat)) * h
def scanOffsets (v : Nat) : List Int := (List.range (2 * (127 / v) + 1)).map fun i => (((127 / v : Nat) : Int) - i) * v

def scanPoints (h v : Nat) : Nat := 64 / h * (2 * (127 / v) + 1)

/-- EYE_SCAN from step 7 on. -/
def eyeScanBody : Body := fun q s =>
  let c := q.c
  let k := c.f 0 16
  let h := c.f 16 8
  let v := c.f 24 8
  let d := c.f 32 8
  let host := c.f 64 64
  if 1168 ≤ k ∨ !([1, 2, 4, 8, 16].contains h) ∨ v < 1 ∨ 127 < v ∨ d < 20 ∨ 36 < d ∨ host = 0 ∨ host % 64 ≠ 0 ∨ c.f 128 32 < 32 + 8 * scanPoints h v then
    (s, .err cBAD_PARAM)
  else if (s.lane k).lock ≠ 3 then (s, .err 0x49)
  else if 4 ≤ s.ln.scans.length then (s, .err cNO_RESOURCE)
  else
    let l := s.ln.scans ++ [{ lane := k, h := h, v := v, d := d, host := host, ticket := q.tk, start := s.now }]
    (State.setP { s with ln := { s.ln with scans := l } } P.LN_SCANS_ACTIVE 0 l.length, .wait)

/-- EYE_SCAN (R253, R254). -/
def execEyeScan (c : Cmd) (s : State) : Result := guarded (.eyeScan c) s (submit eyeScanSpec eyeScanBody c s)

/-- The extent of the contiguous run of error-free points, given in steps from the centre: `f i` says whether point `i` above (below) has no error. -/
def cleanRun (f : Nat → Bool) (n : Nat) : Nat := ((List.range n).takeWhile fun i => f (i + 1)).length

/-- Inner height and inner width of a scan's points (R253). -/
def innerEye (h v : Nat) (points : List (Nat × Nat)) : Nat × Nat :=
  let cols := 64 / h
  let rows := 2 * (127 / v) + 1
  let r0 := 127 / v
  let c0 := 32 / h
  let clean := fun (r c : Nat) => (points.getD (r * cols + c) (0, 0)).1 == 0
  if !clean r0 c0 then (0, 0)
  else
    let height := (cleanRun (fun i => clean (r0 - i) c0) r0 + cleanRun (fun i => clean (r0 + i) c0) (rows - 1 - r0)) * v
    let width := (cleanRun (fun i => clean r0 (c0 - i)) c0 + cleanRun (fun i => clean r0 (c0 + i)) (cols - 1 - c0)) * h
    (height, width)

/-- A scan ends: EYE_SCAN_DONE, and the command's reply. -/
def State.endScan (e : EyeScan) (aborted : Bool) (quality code len result : Nat) (s : State) : State :=
  let l := s.ln.scans.filter (· != e)
  let s1 := State.setP { s with ln := { s.ln with scans := l } } P.LN_SCANS_ACTIVE 0 l.length
  let src := laneSource e.lane
  (s1.post 0x64 src.1 src.2 (e.lane + at' 16 quality + at' 24 (b2n aborted))).finalReply e.ticket code len result

/-- The scans of a lane are aborted (R267). -/
def State.abortScans (k : Nat) (s : State) : State :=
  (s.ln.scans.filter fun e => e.lane == k).foldl (fun t e => t.endScan e true 0 cABORTED 0 0) s

/-- A complete scan is written to host memory, header last (Table 8-4). -/
def State.writeScan (e : EyeScan) (points : List (Nat × Nat)) (t : Nat) (s : State) : State :=
  let n := scanPoints e.h e.v
  let eye := innerEye e.h e.v points
  let q := min eye.1 254
  let x := s.lane e.lane
  let body := (List.range n).flatMap fun i =>
    let p := points.getD i (0, 0)
    leBytes (min p.1 0xFFFFFFFF) 4 ++ leBytes (min (p.2 / 256) 0xFFFFFFFF) 4
  let head := leBytes (e.lane + 1) 2 ++ leBytes e.h 1 ++ leBytes e.v 1 ++ leBytes e.d 1 ++ leBytes (64 / e.h) 1 ++ leBytes (2 * (127 / e.v) + 1) 2
    ++ leBytes e.start 8 ++ leBytes ((t - e.start) / 1000) 4 ++ leBytes eye.2 1 ++ leBytes q 1 ++ leBytes x.ctle 1 ++ leBytes x.fom 1 ++ leBytes 0 8
  let w := s.hostWrite (e.host + 32) body
  if !w.2 then w.1.endScan e true q cABORTED 0 0
  else
    let w2 := w.1.hostWrite e.host head
    if w2.2 then w2.1.endScan e false q cOK 5 (32 + 8 * n + at' 32 q) else w2.1.endScan e true q cABORTED 0 0

/-- EYE_SCAN_DONE (R254). -/
def execEyeScanDone (lane : Nat) (aborted : Bool) (points : List (Nat × Nat)) (t : Nat) (s : State) : Result :=
  guarded (.eyeScanDone lane aborted points t) s <|
    let s := s.atLeast t
    match s.ln.scans.find? fun e => e.lane == lane with
    | none => s
    | some e => if aborted then s.endScan e true 0 cABORTED 0 0 else s.writeScan e points t

/-! ### Calibration (R258 to R267) -/

/-- A group's temperature in 1/16 °C: that of its edge die (R240). -/
def State.groupTemp (s : State) (g : Nat) : Int := s.dieTemp (1 + groupDie g)

/-- The comparison at the end of a housekeeping round (R259). -/
def State.calTempReview (s : State) : State :=
  (List.range 28).foldl (init := s) fun t g =>
    if t.getP P.LN_CAL_ENABLE g = 1 ∧ ((t.getP P.LN_CAL_DELTA g * 16 : Nat) : Int) < (t.groupTemp g - t.getPI P.LN_CAL_TEMP g).natAbs then t.makeDue g 0 else t

/-- The lane carries traffic. -/
def State.laneTraffic (s : State) (k : Nat) : Bool :=
  if k < 1024 then s.laneRole k != 0
  else if k < 1160 then s.camState (laneCam k).1 == 5 && decide (s.logicalLane (laneCam k).1 (laneCam k).2 < 16)
  else s.laneRole k == 5 && s.linkActive

/-- Trapeze can move the traffic of the lane's group or loop (R260). -/
def State.trapezeFits (s : State) (k : Nat) : Bool :=
  if k < 1024 then (s.dirMode (k / 2) == 2 || s.dirMode (k / 2) == 3) && s.getP (P.mw (k / 2 / 32) P.MW_LOOP_STATE) (k / 2 % 32) == 2
  else if k < 1160 then
    let g := (laneCam k).1
    s.camState g == 5 && (s.group g).cap 2 && (s.group g).lspSeen && s.getP (P.cg g P.CG_SPARE_MAP) 0 == 255 && (s.group g).pendingMap.isNone
  else false

/-- The calibration method of a lane (R260): a lane without traffic, a free LSP among them, is idle. -/
def State.calMethod (s : State) (k : Nat) (windowsOnly : Bool) : Nat :=
  if !s.laneTraffic k then 2
  else if !windowsOnly && s.getP P.LN_TRAPEZE (laneGroupOf k) == 1 && s.trapezeFits k then 0
  else 1

/-- A sensor's frame on the link, in ns: from its FRAME_START to its last line (R94), and its period. -/
def Format.active (f : Format) : Nat := f.line0 + f.period * f.height / (1000 * max f.total 1)
def Format.periodNs (f : Format) : Nat := f.period / 1000

/-- The sensors present on a camera group. -/
def State.groupSensors (s : State) (g : Nat) : List Sensor := ((List.range 4).map fun v => s.sensor (4 * g + v)).filter fun x => x.present

/-- A camera head leaves 20 µs free of open frames: together where its sensors' frames keep their distance, having one period, else each by itself (R264). -/
def blankingFits (l : List Sensor) : Bool :=
  match l with
  | [] => true
  | a :: _ =>
    let p := a.fmt.periodNs
    if l.all (fun x => x.fmt.periodNs == p && x.lastStart != 0) then
      l.any fun x =>
        let e := x.lastStart + x.fmt.active
        l.all fun y => decide (y.fmt.active ≤ (e + p * (y.lastStart + 1) - y.lastStart) % max p 1 ∧ 20000 ≤ (y.lastStart + p * (e + 1) - e) % max p 1)
    else l.all fun x => decide (x.fmt.active + 20000 ≤ x.fmt.periodNs)

/-- The lane's kind can be given a calibration window (R261, R264). -/
def State.windowFits (s : State) (k : Nat) : Bool :=
  if k < 1024 then
    match s.loopCanvas (k / 2) with
    | none => true
    | some c => s.cvState c != 2 || decide (18000 * subTick ≤ (s.cvp c P.CV_TOTAL_LINES 0 - s.cvp c P.CV_HEIGHT 0) * s.lineTime c)
  else if k < 1160 then blankingFits (s.groupSensors (laneCam k).1)
  else true

/-- A calibration window of 16 µs that starts now lies in the interval of the lane's kind (Table 8-8). -/
def State.windowOpen (s : State) (k : Nat) : Bool :=
  if k < 1024 then
    match s.loopCanvas (k / 2) with
    | none => true
    | some c =>
      let x := s.canvas c
      s.cvState c != 2 || decide (s.composeTime c x.phase (s.cvp c P.CV_HEIGHT 0) + 1000 * subTick ≤ s.now * subTick
        ∧ (s.now + 17000) * subTick ≤ (if x.phase + 1 < s.cvp c P.CV_PHASES 0 then s.phaseTime c (x.phase + 1) else x.next))
  else if k < 1160 then
    let g := (laneCam k).1
    (s.groupSensors g).all (fun x => x.openFrame == .none && decide (x.lastEnd + 2000 ≤ s.now)
      && (x.lastStart == 0 || decide (s.now + 18000 ≤ x.lastStart + x.fmt.periodNs)))
      && (s.tsyncsDue g).all fun e => decide (e.2.2 < s.now * subTick ∨ ((s.now : Int) + 16000) * subTick < e.2.2)
  else match s.quietEnd with
    | some t => decide (s.now + 16000 ≤ t)
    | none => false

/-- A lane is measured; a scan running on it is aborted (R267). -/
def State.startMeasure (k : Nat) (s : State) : State := (s.abortScans k).modLane k fun y => { y with measuring := true }

/-- A lane that has a signal seeks its lock anew. -/
def Lane.relock (x : Lane) : Lane := { x with lock := min x.lock 1, commas := 0, errs := 0, validRun := 0 }

/-- The payload of CALIBRATION_RUN (R273). -/
def CalRun.payload (r : CalRun) (g now : Nat) : Nat :=
  let m := if r.methods = 1 then 0 else if r.methods = 2 then 1 else if r.methods = 4 then 2 else 3
  g + at' 8 r.reason + at' 16 m + at' 24 r.done + at' 32 (unsigned 16 r.temp) + at' 48 (unsigned 16 r.delta) + at' 64 r.worst + at' 72 r.restored
    + at' 80 (min ((now - r.start) / 1000000) 65535)

/-- A run ends: CALIBRATION_RUN, LN_CAL_TEMP, the waiting commands; the group is due again at once if the temperature
has moved again, or a lane's quality has fallen meanwhile (R259). -/
def State.finishRun (g : Nat) (r : CalRun) (s : State) : State :=
  let v := r.payload g s.now
  let src := groupSource g
  let x := s.laneGroup g
  let s1 := s.modLaneGroup g fun y => { y with run := none, tickets := [], windowsOnly := false, trapStep := 0, again := none }
  let s2 := (((s1.setP P.LN_CAL_TEMP g (toU64 r.temp)).setP P.LN_CAL_LAST g s.now).bumpWrap P.LN_CAL_RUNS g 1).setP P.LN_CAL_STATE g 0
  let s3 := (s2.clearService (.calDeferred g)).post 0x0A src.1 src.2 v
  let s4 := x.tickets.foldl (fun t tk => t.finalReply tk cOK 12 v) s3
  if s4.getP P.LN_CAL_ENABLE g ≠ 1 then s4
  else if ((s4.getP P.LN_CAL_DELTA g * 16 : Nat) : Int) < (s4.groupTemp g - r.temp).natAbs then s4.makeDue g 0
  else match x.again with
    | some why => s4.makeDue g why
    | none => s4

/-- The corrections of a lane are applied (R258): they are free values (log 1), and the lane seeks its lock again. Corrections that lower the quality are
replaced by the previous ones at the next window. -/
def State.applyCal (g k method quality : Nat) (r : CalRun) (s : State) : State :=
  let x := s.lane k
  let bad := decide (quality + 16 < x.quality ∧ quality < s.getP P.LN_QUALITY_MIN g)
  let r1 : CalRun := { r with
    todo := r.todo.filter fun c => c.lane != k, methods := setBit r.methods method, done := r.done + 1, worst := min r.worst quality
    restore := if bad then r.restore ++ [k] else r.restore }
  let v := s.fresh
  (v.2.modLane k fun y => { y.relock with measuring := false, calTime := s.now, quality := quality, corr := v.1, corrOld := y.corr }).modLaneGroup g fun y =>
    { y with run := some r1 }

/-- Trapeze on a camera group takes its next lane: the lowest logical lane left, then LSP, which is measured directly (R265). -/
def State.trapNextCam (g : Nat) (s : State) : State :=
  let lg := 16 + g
  let x := s.laneGroup lg
  match x.run with
  | none => s
  | some r =>
    if x.trapStep ≠ 0 then s
    else
      let left := (r.todo.filter fun c => c.method == 0).map fun c => (s.logicalLane g (laneCam c.lane).2, c.lane)
      match left.foldl (fun (b : Option (Nat × Nat)) e => match b with
          | none => some e
          | some w => if e.1 < w.1 then some e else b) none with
      | none =>
        match r.todo.find? fun c => c.method == 2 && (laneCam c.lane).2 == (s.group g).lsp && !(s.lane c.lane).measuring with
        | some c => (s.modLaneGroup lg fun y => { y with trapLane := 16, trapStep := 2 }).startMeasure c.lane
        | none => s
      | some (n, k) =>
        if s.trapezeFits k then ((s.abortScans k).modLaneGroup lg fun y => { y with trapLane := n, trapStep := 1 }).sendLaneMap g n
        else s.toWindows lg fun _ => true

/-- A loop begins its Trapeze (Table 8-10): its watch port is measured, or on a paired loop that is fed here the handover is asked for at once. -/
def State.trapStartLoop (l : Nat) (ports : List Nat) (s : State) : State :=
  let x := s.loop l
  let feedA := x.a.reach != 0
  let feedPort := s.endPort l (if feedA then 0 else 1)
  let watch := ports.find? fun k => (s.portEnd k) != some (if feedA then 0 else 1)
  let s1 := ports.foldl (fun t k => t.abortScans k) s
  match watch with
  | some k => (s1.modLoop l fun y => { y with trap := 1, trapPort := feedPort }).startMeasure k
  | none =>
    let n := s.dirCount l
    (s1.modLoop l fun y => { y with trap := 2, trapPort := feedPort }).startHandover l (if feedA then 0 else n) (if feedA then n else 0) 2 3 none

/-- Trapeze on the loops of a group: at most LN_TRAPEZE_LOOPS at one time, in ascending order (R266). -/
def State.trapNextLoops (g : Nat) (s : State) : State :=
  (List.range 32).foldl (init := s) fun t i =>
    let l := 32 * g + i
    let t := if (t.loop l).trap = 5 then t.modLoop l fun y => { y with trap := 0 } else t
    match (t.laneGroup g).run with
    | none => t
    | some r =>
      let ports := (r.todo.filter fun c => c.method == 0 && c.lane / 2 == l).map (·.lane)
      let busy := ((List.range 32).filter fun j => (t.loop (32 * g + j)).trap != 0).length
      if ports.isEmpty ∨ (t.loop l).trap ≠ 0 ∨ s.getP P.LN_TRAPEZE_LOOPS 0 ≤ busy then t
      else if (t.loop l).handover.isSome ∨ ports.any (fun k => !t.trapezeFits k) = true then t.toWindows g fun k => k / 2 == l
      else t.trapStartLoop l ports

/-- A run goes on: Trapeze takes what comes next, and with nothing left to apply or to restore the run ends. -/
def State.calReview (g : Nat) (s : State) : State :=
  let s1 := if g < 16 then s.trapNextLoops g else if g < 24 then s.trapNextCam (g - 16) else s
  match (s1.laneGroup g).run with
  | none => s1
  | some r =>
    let back := decide (g < 16) && (List.range 32).any fun i => (s1.loop (32 * g + i)).trap != 0
    let away := decide (16 ≤ g ∧ g < 24) && (s1.laneGroup g).trapStep != 0
    if r.todo.isEmpty && r.restore.isEmpty && !back && !away then s1.finishRun g r else s1

/-- A due group starts its run (R259, R260): idle lanes are measured at once, but LSP after the lanes that need it for Trapeze (R265). -/
def State.startRun (g : Nat) (s : State) : State :=
  let x := s.laneGroup g
  let live := (groupLanes g).filter fun k => !((s.lane k).tx == 1 && (s.lane k).rx == 1)
  let todo := live.map fun k => ({ lane := k, method := s.calMethod k x.windowsOnly } : CalLane)
  let t := s.groupTemp g
  let run : CalRun := { reason := x.reason, start := s.now, temp := t, delta := t - s.getPI P.LN_CAL_TEMP g, todo := todo }
  let s1 := (s.modLaneGroup g fun y => { y with run := some run, trapStep := 0 }).setP P.LN_CAL_STATE g 2
  let last := fun (k : Nat) => decide (16 ≤ g ∧ g < 24) && (laneCam k).2 == (s.group (g - 16)).lsp && todo.any fun c => c.method == 0
  let s2 := todo.foldl (fun u c => if c.method = 2 ∧ last c.lane = false then u.startMeasure c.lane else u) s1
  s2.calReview g

/-- The window-method lanes of a due group can all be given a window. -/
def State.runFits (s : State) (g : Nat) : Bool :=
  (groupLanes g).all fun k => s.calMethod k (s.laneGroup g).windowsOnly != 1 || s.windowFits k

/-- CALIBRATION_START (R259, R264): the lowest due group under LN_CAL_PARALLEL; one that cannot be given a window is deferred and stays due. -/
def execCalibrationStart (s : State) : Result :=
  guarded .calibrationStart s <|
    let running := ((List.range 28).filter fun g => s.getP P.LN_CAL_STATE g == 2).length
    if s.getP P.LN_CAL_PARALLEL 0 ≤ running then s
    else match (List.range 28).find? fun g => s.getP P.LN_CAL_STATE g == 1 || (s.getP P.LN_CAL_STATE g == 3 && s.runFits g) with
      | none => s
      | some g => if s.runFits g then s.startRun g else (s.setP P.LN_CAL_STATE g 3).calDeferred g 0

/-- A window for one lane (Table 8-7): a slice is measured, or after the eighth the corrections are applied; the lane's receiver then seeks its lock again,
and a tile port sends ALIGNs with SLEEP and then with TRAINING. -/
def State.windowLane (g : Nat) (quality : List (Nat × Nat)) (c : CalLane) (s : State) : State :=
  match (s.laneGroup g).run with
  | none => s
  | some r =>
    let s0 := if c.lane < 1024 then (s.sendAlign c.lane 0x40).sendAlign c.lane 0x80 else s
    let s1 := (s0.abortScans c.lane).modLane c.lane fun y => { y.relock with winEnd := s.now + 16000 }
    if c.slices < 8 then
      s1.modLaneGroup g fun y => { y with run := some { r with todo := r.todo.map fun d => if d.lane = c.lane then { d with slices := d.slices + 1 } else d } }
    else s1.applyCal g c.lane 1 (((quality.find? fun e => e.1 == c.lane).map (·.2)).getD (s.lane c.lane).quality) r

/-- CAL_WINDOW (R258, R261): in an interval that holds the window for every one of its lanes, the restores come first, then every window-method lane of the
group; control traffic waits until it ends. -/
def execCalWindow (lg : Nat) (window : WindowStart) (s : State) : Result :=
  guarded (.calWindow lg window) s <|
    let s := s.atLeast window.start
    match (s.laneGroup lg).run with
    | none => s
    | some r =>
      let lanes := r.todo.filter fun c => c.method == 1
      if (lanes.map (·.lane) ++ r.restore).any (fun k => !s.windowOpen k) || (lanes.isEmpty && r.restore.isEmpty) then s
      else
        let s1 := s.modLaneGroup lg fun y => { y with
          winEnd := s.now + 16000, run := some { r with restored := r.restored + r.restore.length, restore := [] } }
        let s2 := r.restore.foldl (fun t k => t.modLane k fun y => { y.relock with corr := y.corrOld, winEnd := s.now + 16000 }) s1
        (lanes.foldl (fun t c => t.windowLane lg window.quality c) s2).calReview lg

/-- What follows the measurement of a Trapeze lane (Table 8-9 step 5, Table 8-10 steps 2 and 4). -/
def State.trapMeasured (g k : Nat) (s : State) : State :=
  if g < 16 then
    let l := k / 2
    let x := s.loop l
    let n := s.dirCount l
    if x.trap = 1 then
      if (s.portEnd x.trapPort).isNone ∨ s.dirMode l = 3 then s.modLoop l fun y => { y with trap := 0 }
      else
        let toB := x.a.reach != 0
        (s.modLoop l fun y => { y with trap := 2 }).startHandover l (if toB then 0 else n) (if toB then n else 0) 2 3 none
    else if x.trap = 3 then
      let toA := x.b.reach != 0
      (s.modLoop l fun y => { y with trap := 4 }).startHandover l (if toA then n else 0) (if toA then 0 else n) 2 3 none
    else s
  else s.modLaneGroup g fun y => if y.trapStep = 2 then { y with trapStep := if y.trapLane = 16 then 0 else 3 } else y

/-- CAL_MEASURE_DONE (R258): the measurement of a lane taken in one piece ends, and its corrections are applied. -/
def execCalMeasureDone (lane quality : Nat) (s : State) : Result :=
  guarded (.calMeasureDone lane quality) s <|
    let g := laneGroupOf lane
    match (s.laneGroup g).run with
    | none => s
    | some r =>
      match r.todo.find? fun c => c.lane == lane && c.method != 1 with
      | none => s
      | some c =>
        if !(s.lane lane).measuring then s
        else
          let s1 := s.applyCal g lane c.method quality r
          let spare := decide (16 ≤ g ∧ g < 24 ∧ (s.laneGroup g).trapLane = 16 ∧ (laneCam lane).2 = (s.group (g - 16)).lsp)
          (if c.method = 0 ∨ spare = true then s1.trapMeasured g lane else s1).calReview g

/-- A FRAME_END of the group: a lane calibrated by Trapeze goes back at the next ALIGN (Table 8-9, step 5). -/
def State.trapFrameEnd (g : Nat) (s : State) : State :=
  if (s.laneGroup (16 + g)).trapStep = 3 then (s.modLaneGroup (16 + g) fun y => { y with trapStep := 4 }).sendLaneMap g 255 else s

/-- CAMERA_ALIGN (R102 to R104, R265), of the lanes that deliver (R242). -/
def execCameraAlign (g : Nat) (sets : List AlignSet) (s : State) : Result :=
  guarded (.cameraAlign g sets) s <|
    let s1 := s.alignColumn g (sets.filter fun a => s.hears (1024 + 17 * g + a.lane))
    if (s1.laneGroup (16 + g)).trapStep = 5 then (s1.modLaneGroup (16 + g) fun y => { y with trapStep := 0 }).calReview (16 + g) else s1

/-- CAL_DEFER_LIMIT (R264): a due group, running or not, posts CAL_DEFERRED and raises SERVICE_NEEDED; LANE_CALIBRATE commands time out. -/
def execCalDeferLimit (lg : Nat) (s : State) : Result :=
  guarded (.calDeferLimit lg) s <|
    let st := s.getP P.LN_CAL_STATE lg
    if st = 0 then s
    else
      let s1 := (s.calDeferred lg 1).raiseService (.calDeferred lg)
      (s.laneGroup lg).tickets.foldl (fun t tk => t.finalReply tk cTIMEOUT 0 0) (s1.modLaneGroup lg fun y => { y with tickets := [] })

def laneCalibrateSpec : OpSpec := { op := 0x0502, len := fun c => c.opLen == 4, rsvd := 0xFFFFFE00 }

/-- LANE_CALIBRATE from step 7 on. -/
def laneCalibrateBody : Body := fun q s =>
  let g := q.c.f 0 8
  if 28 ≤ g then (s, .err cBAD_PARAM)
  else if s.getP P.LN_CAL_STATE g = 2 then (s, .err cBUSY)
  else
    ((s.setP P.LN_CAL_STATE g 1).modLaneGroup g fun y => { y with reason := 1, windowsOnly := q.c.ops.testBit 8, tickets := y.tickets ++ [q.tk] }, .wait)

/-- LANE_CALIBRATE (R259, R264, R267). -/
def execLaneCalibrate (c : Cmd) (s : State) : Result := guarded (.laneCalibrate c) s (submit laneCalibrateSpec laneCalibrateBody c s)

/-! ### Status (R272) -/

/-- A lane's status record (Table 8-13), as a number. -/
def State.laneRecord (s : State) (k : Nat) : Nat :=
  let x := s.lane k
  let st := fun (d pat : Nat) => if x.measuring then 4 else if pat ≠ 0 then 5 else d
  let logical := if 1024 ≤ k ∧ k < 1160 then s.logicalLane (laneCam k).1 (laneCam k).2 else 255
  k + at' 16 (st x.tx x.gen) + at' 24 (st x.rx x.chk) + at' 32 x.lock + at' 40 (s.laneRole k) + at' 48 logical + at' 56 x.quality
    + at' 64 (x.preset.getD (s.getP P.LN_TX_PRESET (laneGroupOf k))) + at' 72 x.ctle + at' 80 x.fillMin + at' 88 x.fillMax + at' 96 x.violations
    + at' 128 x.disparity + at' 160 x.losses + at' 192 x.skipIns + at' 224 x.skipDel + at' 256 x.skipErr + at' 288 x.elastic + at' 320 x.calTime

def laneStatusSpec : OpSpec := { op := 0x0501, len := fun c => c.opLen == 4, rsvd := 0xFE000000 }

/-- LANE_STATUS from step 7 on. -/
def laneStatusBody : Body := fun q s =>
  let k := q.c.f 0 16
  let n := q.c.f 16 8
  if n < 1 ∨ 5 < n ∨ 1168 < k + n then (s, .err cBAD_PARAM)
  else
    let v := (List.range n).foldl (fun a i => a + at' (384 * i) (s.laneRecord (k + i))) 0
    let clear := fun (t : State) (i : Nat) => t.modLane (k + i) fun y =>
      { y with fillMin := 0, fillMax := 0, fillClear := true, violations := 0, disparity := 0, losses := 0, skipIns := 0, skipDel := 0, skipErr := 0, elastic := 0 }
    ((if q.c.ops.testBit 24 then (List.range n).foldl clear s else s), .done cOK (48 * n) v)

/-- LANE_STATUS (R272). -/
def execLaneStatus (c : Cmd) (s : State) : Result := guarded (.laneStatus c) s (submit laneStatusSpec laneStatusBody c s)

/-! ### Pattern testing (R268 to R270) -/

/-- PATTERN_SYNC (R268, R269): the checker takes the bits received since the last such command, up to the one that may change its sync and after it, in
near-end loopback as many of the lane's own generator's; each change of sync is posted. -/
def execPatternSync (lane : Nat) (before : List Bool) (bit : Bool) (after : List Bool) (s : State) : Result :=
  guarded (.patternSync lane before bit after) s <|
    let x := s.lane lane
    let bits := before ++ bit :: after
    if x.chk = 0 then s
    else
      let own := generate x.gen x.user (if x.gen = 0 then 0 else bits.length) x.pat
      let r := if x.loopback = 1 then ({ x with pat := own.2 }).checkBits own.1 else x.checkBits bits
      let src := laneSource lane
      r.2.foldl (fun t lost => t.post 0x65 src.1 src.2 (lane + at' 16 (b2n lost))) (s.modLane lane fun _ => r.1)

def patternSetSpec : OpSpec := { op := 0x0504, len := fun c => c.opLen == 12, rsvd := 0xFFFFFF0000000000FC880000 }

/-- PATTERN_SET from step 7 on; it starts the checker's counters afresh, and a PRBS generator from all ones (DESIGN CHOICE, log 154). -/
def patternSetBody : Body := fun q s =>
  let c := q.c
  let k := c.f 0 16
  if 1168 ≤ k ∨ 4 < c.f 16 3 ∨ 4 < c.f 20 3 ∨ 1 < c.f 24 2 then (s, .err cBAD_PARAM)
  else if s.getP P.LN_CAL_STATE (laneGroupOf k) = 2 then (s, .err cBUSY)
  else if s.laneInUse k then (s, .err 0x48)
  else
    (s.modLane k fun y => { y with gen := c.f 16 3, chk := c.f 20 3, loopback := c.f 24 2, user := c.f 32 40, sync := false, compared := 0, errors := 0
                                   syncLosses := 0, injected := 0, pat := { out := if c.f 16 3 = 4 then 0 else 2 ^ 40 - 1 } }, .ok)

/-- PATTERN_SET (R268, R269). -/
def execPatternSet (c : Cmd) (s : State) : Result := guarded (.patternSet c) s (submit patternSetSpec patternSetBody c s)

def patternStatusSpec : OpSpec := { op := 0x0505, len := fun c => c.opLen == 4, rsvd := 0xFFFE0000 }

/-- PATTERN_STATUS from step 7 on. -/
def patternStatusBody : Body := fun q s =>
  let k := q.c.f 0 16
  if 1168 ≤ k then (s, .err cBAD_PARAM)
  else
    let x := s.lane k
    let v := b2n x.sync + at' 8 x.chk + at' 32 x.compared + at' 96 x.errors + at' 128 x.syncLosses + at' 160 x.injected
    ((if q.c.ops.testBit 16 then s.modLane k fun y => { y with compared := 0, errors := 0, syncLosses := 0, injected := 0 } else s), .done cOK 24 v)

/-- PATTERN_STATUS (R268). -/
def execPatternStatus (c : Cmd) (s : State) : Result := guarded (.patternStatus c) s (submit patternStatusSpec patternStatusBody c s)

def laneInjectSpec : OpSpec := { op := 0x0506, privIf := fun c => c.ops.testBit 24, len := fun c => c.opLen == 4, rsvd := 0xFE000000 }

/-- LANE_INJECT from step 7 on: the inverted bits leave with the generator's next output or with the next data symbol. -/
def laneInjectBody : Body := fun q s =>
  let k := q.c.f 0 16
  let n := q.c.f 16 8
  let live := q.c.ops.testBit 24
  if 1168 ≤ k ∨ n < 1 ∨ 64 < n ∨ (live = false ∧ (s.lane k).gen = 0) then (s, .err cBAD_PARAM)
  else ((s.modLane k fun y => { y with injected := sat32 (y.injected + 1), pat := { y.pat with flip := y.pat.flip + (if live then 0 else n) } }).emit (.lane k 7 n (b2n live) 0), .ok)

/-- LANE_INJECT (R270). -/
def execLaneInject (c : Cmd) (s : State) : Result := guarded (.laneInject c) s (submit laneInjectSpec laneInjectBody c s)

def laneTxSetSpec : OpSpec := { op := 0x0507, len := fun c => c.opLen == 4, rsvd := 0xFF000000 }

/-- LANE_TX_SET from step 7 on: it is staged for the lane's boundary, and its final reply waits unless IMMEDIATE is set (R69). -/
def laneTxSetBody : Body := fun q s =>
  let k := q.c.f 0 16
  let v := q.c.f 16 8
  if 1168 ≤ k ∨ (7 < v ∧ v ≠ 255) then (s, .err cBAD_PARAM)
  else
    let g : Staged := { ats := [.lane (laneGroupOf k)], what := .laneTx k (if v = 255 then none else some v)
                        ticket := if q.c.immediate then none else some q.tk, left := 8 }
    (s.stage [g], if q.c.immediate then .ok else .wait)

/-- LANE_TX_SET (R249, R271). -/
def execLaneTxSet (c : Cmd) (s : State) : Result := guarded (.laneTxSet c) s (submit laneTxSetSpec laneTxSetBody c s)

end Sys2Proof.Machine
end

