-- ==== Sys2Proof/Machine/House.lean ====
section
/-! DEFINITION. Housekeeping conversions, thermal control, background work, and their commands (R407 to R420). -/

namespace Sys2Proof.Machine

/-! ### Conversions (R407 to R410) -/

/-- The hottest die: its temperature in 1/16 °C and its channel. -/
def State.hottest (s : State) : Int × Nat :=
  (List.range 5).foldl (fun b n => if b.1 < s.dieTemp n then (s.dieTemp n, n) else b) (s.dieTemp 0, 0)

/-- TH_HOTTEST in 1/16 °C as it stands. -/
def State.hottestReading (s : State) : Int := signed 16 (s.getP P.TH_HOTTEST 0)

/-- A threshold in 1/16 °C: 0 warning, 1 throttle, 2 shutdown. -/
def State.threshold (s : State) (i : Nat) : Int :=
  ((if i = 0 then s.getP P.TH_WARN 0 else if i = 1 then s.getP P.TH_THROTTLE 0 else s.getP P.TH_SHUTDOWN 0) * 16 : Nat)

/-- The hysteresis in 1/16 °C. -/
def State.hyst (s : State) : Int := (s.getP P.TH_HYST 0 * 16 : Nat)

/-- The throttle step becomes `new` (R411): the shortfalls follow, THROTTLE_STEP is posted, and SERVICE_NEEDED from step 5 upwards. -/
def State.setStep (new : Nat) (s : State) : State :=
  let old := s.getP P.TH_STEP 0
  let s0 : State := { s with hk := { s.hk with stepTime := s.now } }
  if old = new then s0
  else
    let h := s.hottest
    let s1 := ((s0.setP P.TH_STEP 0 new).bwReport).post 0x90 0x0 0 (new + at' 8 old + at' 16 (unsigned 16 h.1) + at' 32 h.2)
    if 5 ≤ new then s1.raiseService .throttle else s1.clearService .throttle

def State.modDiode (n : Nat) (f : Diode → Diode) (s : State) : State := { s with hk := { s.hk with diodes := modAt f n s.hk.diodes } }

def State.diode (s : State) (n : Nat) : Diode := s.hk.diodes.getD n {}

/-- HK_READING's flags follow the channel: VALID, FAULTY, OUT_OF_LIMITS. -/
def hkFlags (raw : Nat) (valid faulty out : Bool) : Nat := raw % 0x10000 + at' 16 (b2n valid) + at' 17 (b2n faulty) + at' 18 (b2n out)

/-- HK_MIN and HK_MAX take in a valid reading; `le` orders readings. -/
def State.hkRange (n raw : Nat) (le : Nat → Nat → Bool) (s : State) : State :=
  let fresh := !s.hk.seen.testBit n
  let s : State := { s with hk := { s.hk with seen := setBit s.hk.seen n } }
  let s1 := if fresh || le raw (s.getP P.HK_MIN n) then s.setP P.HK_MIN n raw else s
  if fresh || le (s.getP P.HK_MAX n) raw then s1.setP P.HK_MAX n raw else s1

/-- A diode's validity over rounds (R408). -/
def State.diodeRound (n raw : Nat) (valid : Bool) (s : State) : State :=
  let d := s.diode n
  if valid then
    let s1 := s.modDiode n fun x => { x with badRun := 0, goodRun := x.goodRun + 1 }
    if d.faulty ∧ 16 ≤ d.goodRun + 1 then (s1.modDiode n fun x => { x with faulty := false }).post 0x93 0xD n (at' 16 raw) else s1
  else
    let s1 := s.modDiode n fun x => { x with badRun := x.badRun + 1, goodRun := 0 }
    if !d.faulty ∧ 2 ≤ d.badRun + 1 then
      ((s1.modDiode n fun x => { x with faulty := true }).logFault 0xD n 0x0A01 0).post 0x93 0xD n (1 + at' 16 raw)
    else s1

/-- A channel's reading or stand-in against one threshold (R410): each crossing posts THERMAL_CROSSING, an occurrence of THERMAL. -/
def State.crossing (n i : Nat) (s : State) : State :=
  let t := s.dieTemp n
  let above := (s.diode n).above.testBit i
  if !above ∧ s.threshold i ≤ t then
    (State.advanceAll (s.modDiode n fun x => { x with above := setBit x.above i })).post 0x05 0xD n (i + at' 8 1 + at' 16 (unsigned 16 t))
  else if above ∧ t < s.threshold i - s.hyst then
    (State.advanceAll (s.modDiode n fun x => { x with above := clrBit x.above i })).post 0x05 0xD n (i + at' 16 (unsigned 16 t))
  else s

/-- Every diode is FAULTY. -/
def State.allFaulty (s : State) : Bool := (List.range 5).all fun n => (s.diode n).faulty

/-- The thermal trip (R412): THERMTRIP_N, throttle step 6, a fault log entry. -/
def State.thermalTrip (n : Nat) (s : State) : State :=
  if s.hk.trip then s
  else (State.setStep 6 { s with hk := { s.hk with trip := true, coolRound := false } }).logFault 0xD n 0x0A02 0

/-- A diode conversion. An invalid one keeps the last reading, without VALID. -/
def State.diodeConversion (n raw : Nat) (s : State) : State :=
  let t := signed 16 raw
  let valid := decide (-640 ≤ t ∧ t ≤ 2400)
  let before := s.hottestReading
  let s1 := s.diodeRound n raw valid
  let s2 := if valid then s1.hkRange n raw (fun a b => decide (signed 16 a ≤ signed 16 b)) else s1
  let s3 := s2.setP P.HK_READING n (hkFlags (if valid then raw else s.getP P.HK_READING n) valid (s2.diode n).faulty false)
  let s4 := if valid || (s3.diode n).faulty then [0, 1, 2].foldl (fun u i => u.crossing n i) s3 else s3
  let h := s4.hottest
  let s5 := s4.setP P.TH_HOTTEST 0 (unsigned 16 h.1 + at' 16 h.2)
  let s6 := if (valid && decide (s5.threshold 2 ≤ t)) || s5.allFaulty then s5.thermalTrip n else s5
  if before < s6.threshold 1 ∧ s6.threshold 1 ≤ h.1 ∧ !s6.hk.trip then s6.setStep (min (s6.getP P.TH_STEP 0 + 1) (s6.getP P.TH_STEP_MAX 0)) else s6

/-- A supply or board input conversion against its limits (R409). -/
def State.supplyConversion (n raw : Nat) (s : State) : State :=
  let lo := s.getP P.HK_LIMIT_LO n
  let hi := s.getP P.HK_LIMIT_HI n
  let was := (s.getP P.HK_READING n).testBit 18
  let free := lo = 0 ∧ hi = 65535
  let bad := !free && (decide (raw < lo) || decide (hi < raw))
  let well := free || (decide (hi - lo ≤ (raw - lo) * 64) && decide (lo ≤ raw ∧ raw ≤ hi) && decide (hi - lo ≤ (hi - raw) * 64))
  let out := bad || (was && !well)
  let s1 := (s.hkRange n raw (fun a b => decide (a ≤ b))).setP P.HK_READING n (hkFlags raw true false out)
  if out && !was then
    let high := decide (hi < raw)
    (State.raiseService (.hkLimit n) { s1 with hk := { s1.hk with outHigh := if high then setBit s1.hk.outHigh n else clrBit s1.hk.outHigh n } }).post
      0x91 0xD n (1 + at' 1 (b2n high) + at' 16 raw)
  else if was && !out then (s1.clearService (.hkLimit n)).post 0x91 0xD n (at' 1 (b2n (s1.hk.outHigh.testBit n)) + at' 16 raw)
  else s1

/-- The valid diodes are all below the release level, and there is one (R412). -/
def State.coolEnough (s : State) : Bool :=
  (!s.allFaulty) && (List.range 5).all fun n => (s.diode n).faulty || decide (s.hkReading n < s.threshold 2 - s.hyst)

/-- The end of a round: the release of THERMTRIP_N after one whole round below the release level, and the checks of R259 and R290. -/
def State.roundEnd (s : State) : State :=
  let s1 := s.bumpWrap P.HK_ROUNDS 0 1
  let s2 : State :=
    if s1.hk.trip then
      if s1.hk.coolRound && s1.coolEnough then { s1 with hk := { s1.hk with trip := false, stepTime := s1.now } }
      else { s1 with hk := { s1.hk with coolRound := true } }
    else s1
  let s3 : State := { s2 with hk := { s2.hk with lastRound := s2.now } }
  if s3.ctl.boot = .running then (s3.retrainCheck).calTempReview else s3

/-- HK_CONVERSION (R407): the next channel of the round is converted; `raw` is its 16-bit result. A board input above 1,200 mV gives 19,200 (R452). -/
def execHkConversion (raw : Nat) (s : State) : Result :=
  guarded (.hkConversion raw) s <| if s.ctl.boot = .off then s else
    let n := s.hk.next
    let r := if n < 15 then raw % 0x10000 else min (raw % 0x10000) 19200
    let s0 : State := { s with hk := { s.hk with next := (n + 1) % 32 } }
    let s1 := if n < 5 then s0.diodeConversion n r else s0.supplyConversion n r
    if n = 31 then s1.roundEnd else s1

/-- THROTTLE_STEP (R411): TH_STEP_MS has elapsed. While THERMTRIP_N is low the step stays at 6. -/
def execThrottleStep (s : State) : Result :=
  guarded .throttleStep s <|
    let s := s.atLeast (s.hk.stepTime + s.getP P.TH_STEP_MS 0 * 1000000)
    let h := s.hottest.1
    let k := s.getP P.TH_STEP 0
    if s.hk.trip then { s with hk := { s.hk with stepTime := s.now } }
    else if s.threshold 1 ≤ h then s.setStep (max k (min (k + 1) (s.getP P.TH_STEP_MAX 0)))
    else if h < s.threshold 1 - s.hyst then s.setStep (k - 1)
    else { s with hk := { s.hk with stepTime := s.now } }

/-- HK_MIN and HK_MAX reset to the current reading (R420). -/
def State.resetRange (id n : Nat) (s : State) : State := s.setP id n (s.getP P.HK_READING n % 0x10000)

/-! ### Background work (R413 to R417) -/

/-- An expander's event records have not been read for 1 s (R299). -/
def State.pollDue (s : State) : Bool :=
  decide ((s.hk.tasks.getD 4 {}).last + 1000000000 ≤ s.now) && (List.range 32).any fun n => s.getP P.CXL_EXP_STATE n == 2 || s.getP P.CXL_EXP_STATE n == 3

/-- BG_TELEMETRY_MS has passed since the last collection (Table 14-6). -/
def State.telemetryDue (s : State) : Bool := decide (s.hk.telemetryTime + s.getP P.BG_TELEMETRY_MS 0 * 1000000 ≤ s.now)

/-- A task has work to do. -/
def State.taskDue (s : State) (t : Nat) : Bool :=
  (s.hk.tasks.getD t {}).due || (t == 0 && !s.dram.candidates.isEmpty) || (t == 2 && (List.range 28).any fun g => s.getP P.LN_CAL_STATE g == 1)
    || (t == 3 && s.dram.retrainDue != 0) || (t == 4 && s.pollDue) || (t == 6 && s.telemetryDue) || (t == 10 && !s.dram.dirty.isEmpty)

/-- The task runs: a run of it is under way, or it is a continuous one. -/
def State.taskRuns (s : State) (t : Nat) : Bool :=
  t == 7 || (t == 2 && s.ln.groups.any fun g => g.2.run.isSome) || (t == 3 && s.dram.retrain.isSome)
    || (t == 8 && s.cxl.regions.any fun r => r.2.persistent)

/-- The state code of a task (Table 14-9): 0 idle, 1 due, 2 running, 3 held, 4 paused. -/
def State.taskState (s : State) (t : Nat) : Nat :=
  if 7 ≤ t ∧ s.getP P.BG_ENABLE (t - 7) = 0 then 4
  else if !(s.taskDue t || s.taskRuns t) then 0
  else if s.bgHeld t then 3
  else if s.taskRuns t || (7 ≤ t && s.taskDue t) then 2 else 1

/-- BG_SCHEDULER (R414): each 1 ms, the states of the tasks follow what is due, held or paused. -/
def execBgScheduler (s : State) : Result :=
  guarded .bgScheduler s ((List.range 11).foldl (fun u t => u.setP P.BG_STATE t (s.taskState t)) s)

/-- TELEMETRY_COLLECT (R413, Table 14-10): at most BG_TELEMETRY_MS apart, in every power state. -/
def execTelemetryCollect (powerMw : Nat) (d2d : List Nat) (s : State) : Result :=
  guarded (.telemetryCollect powerMw d2d) s <|
    if s.bgHeld 6 then s
    else
      let s := s.atLeast (s.hk.telemetryTime + s.getP P.BG_TELEMETRY_MS 0 * 1000000)
      State.taskDone 6 { s with hk := { s.hk with powerMw := wrap32 powerMw, d2d := (List.range 4).map fun i => min (d2d.getD i 0) 65535
                                                  telemetryTime := s.now } }

/-- PAGE_ZEROING (R277): the next freed pages are zeroed. -/
def execPageZeroing (pages : Nat) (s : State) : Result :=
  guarded (.pageZeroing pages) s <|
    if s.bgHeld 10 ∨ s.dram.dirty.isEmpty then s
    else
      let left := s.dram.dirty.drop pages
      let s1 : State := { s with dram := { s.dram with dirty := left } }
      if left.isEmpty then s1.taskDone 10 else s1

/-- One scrub pass against its interval (R416): bit `bit` of `behind` remembers that it has been posted. -/
def State.scrubCheck (bit kind region idx progress start interval : Nat) (s : State) : State :=
  let elapsed := (s.now - start) * 1000 / max interval 1
  let p := kind + at' 8 region + at' 32 progress + at' 48 (min elapsed 65535)
  if !s.hk.behind.testBit bit ∧ progress + 50 < elapsed then
    State.post 0x0E 0x9 idx (p + at' 16 1) { s with hk := { s.hk with behind := setBit s.hk.behind bit } }
  else if s.hk.behind.testBit bit ∧ elapsed ≤ progress then
    State.post 0x0E 0x9 idx p { s with hk := { s.hk with behind := clrBit s.hk.behind bit } }
  else s

/-- The pass clocks have stood for `d` ticks of DARK (Table 14-7). -/
def State.shiftPasses (d : Nat) (s : State) : State :=
  { s with hk := { s.hk with
    patrolStart := s.hk.patrolStart + d
    verifyStart := (s.cxl.regions.filter fun e => e.2.persistent).foldl (fun m e => SMap.set (fun _ => 0) m e.1 (SMap.get (fun _ => 0) m e.1 + d)) s.hk.verifyStart } }

/-- SCRUB_BEHIND (R416): each scrub pass is compared with its interval; in DARK the pass clocks stand. -/
def execScrubBehind (s : State) : Result :=
  guarded .scrubBehind s <|
    if s.powerState = 2 then s
    else
      let s1 := s.scrubCheck 32 0 0 0 (s.getP P.MEM_SCRUB_PROGRESS 0) s.hk.patrolStart (s.getP P.MEM_SCRUB_HOURS 0 * 3600000000000)
      (s1.cxl.regions.filter fun e => e.2.persistent).foldl (init := s1) fun t e =>
        t.scrubCheck e.1 1 e.1 (32 + e.2.slots.headD 0) (e.2.verifyPos * 1000 / max (t.getP P.CXL_REGION_SIZE e.1) 1)
          (SMap.get (fun _ => 0) t.hk.verifyStart e.1) (t.getP P.CXL_VERIFY_DAYS 0 * 86400000000000)

/-! ### Commands (R418) -/

def hkStatusSpec : OpSpec := .fixed 0x0A01 0

/-- HK_STATUS (Table 14-10). -/
def hkStatusBody : Body := fun _ s =>
  let head := leBytes (s.getP P.TH_STEP 0) 1 ++ leBytes (s.getP P.TH_HOTTEST 0 / 65536) 1 ++ leBytes (s.getP P.TH_HOTTEST 0) 2
    ++ leBytes (s.getP P.HK_ROUNDS 0) 4 ++ leBytes s.hk.powerMw 4 ++ (List.range 4).flatMap (fun i => leBytes (s.hk.d2d.getD i 0) 2)
    ++ leBytes 0 4 ++ leBytes s.hk.telemetryTime 8
  (s, .done cOK 160 (ofLE (head ++ (List.range 32).flatMap fun n => leBytes (s.getP P.HK_READING n) 4)))

/-- HK_STATUS. -/
def execHkStatus (c : Cmd) (s : State) : Result := guarded (.hkStatus c) s (submit hkStatusSpec hkStatusBody c s)

def bgStatusSpec : OpSpec := .fixed 0x0A02 0

/-- BG_STATUS (Table 14-9). -/
def bgStatusBody : Body := fun _ s =>
  let task := fun (t : Nat) =>
    let x := s.hk.tasks.getD t {}
    leBytes (s.taskState t) 2 ++ leBytes x.progress 2 ++ leBytes x.runs 4 ++ leBytes x.last 8
  (s, .done cOK 184 (ofLE (leBytes 0 8 ++ (List.range 11).flatMap task)))

/-- BG_STATUS. -/
def execBgStatus (c : Cmd) (s : State) : Result := guarded (.bgStatus c) s (submit bgStatusSpec bgStatusBody c s)

end Sys2Proof.Machine
end

