-- ==== Sys2Proof/Machine/ClipQueues.lean ====
section
/-! DEFINITION. Clip queues and bin administration (chapter 11): pairs, doorbells, fetching, completions, freezing, reads, import, formats. -/

namespace Sys2Proof.Machine

/-! ### Pairs -/

abbrev pairDef : Nat → Option Pair := fun _ => none

/-- Pair `q` of window `w`. -/
def State.pair? (s : State) (w q : Nat) : Option Pair := SMap.get pairDef s.cq.pairs (w * 16 + q)

def State.setPair (w q : Nat) (x : Option Pair) (s : State) : State := { s with cq := { s.cq with pairs := SMap.set pairDef s.cq.pairs (w * 16 + q) x } }

/-- A pair that exists is changed. -/
def State.modPair (w q : Nat) (f : Pair → Pair) (s : State) : State :=
  match s.pair? w q with
  | some x => s.setPair w q (some (f x))
  | none => s

/-- Completion codes of Tables 11-6 and 11-9. -/
abbrev cCLIP_SHED : Nat := 0x58
abbrev cHOST_FAULT : Nat := 0x5A
abbrev cRESTART_SEQ : Nat := 0x5B

/-- Aipex fetches and writes entries: its firmware runs, and no switchover or restart is in progress (R345). -/
def State.queuesRun (s : State) : Bool := s.ctl.fwReady && s.ctl.switch.isNone && !s.ctl.restarting

/-- CQ entries written and not yet released by CQ_HEAD. -/
def Pair.unreleased (p : Pair) : Nat := (p.cqTail + 2 ^ p.cqLog - p.cqHead) % 2 ^ p.cqLog

/-- The vector of a CQ is signalled for the entries not yet signalled (R338). -/
def State.signalCq (w q : Nat) (s : State) : State :=
  match s.pair? w q with
  | some p => if p.vector = 0xFF ∨ p.unsignalled = 0 then s else (s.setPair w q (some { p with unsignalled := 0 })).emit (.msix w p.vector)
  | none => s

/-- A CQ entry (R337, Table 11-3). -/
def State.writeCq (w q cid code : Nat) (final : Bool) (r0 r1 r2 : Nat) (s : State) : State :=
  match s.pair? w q with
  | none => s
  | some p =>
    let phase := b2n ((p.written / 2 ^ p.cqLog) % 2 == 0)
    let e := leBytes (s.statusWord w code) 4 ++ leBytes cid 2 ++ leBytes p.sqHead 2 ++ leBytes (q + at' 14 (b2n final) + at' 15 phase) 2 ++ leBytes 0 2
      ++ leBytes r0 4 ++ leBytes r1 8 ++ leBytes r2 8
    let s1 := (s.hostWrite (p.cqBase + 32 * p.cqTail) e).1
    let n := p.unsignalled + 1
    let p1 := { p with cqTail := (p.cqTail + 1) % 2 ^ p.cqLog, written := p.written + 1, unsignalled := n
                       oldest := if p.unsignalled = 0 then s.now else p.oldest }
    let s2 := s1.setPair w q (some p1)
    if p.aggCount ≤ n ∨ p.aggTime = 0 then s2.signalCq w q else s2

/-- A window's error log gets an entry; the newest 16 are kept (R343). -/
def State.logQueue (w q : Nat) (e : QueueLog) (s : State) : State :=
  let n := wrap32 (SMap.get (fun _ => 0) s.cq.logSeq w + 1)
  let l := SMap.get (fun _ => []) s.cq.logs w ++ [{ e with seq := n, time := s.now }]
  let s1 : State := { s with cq := { s.cq with logSeq := SMap.set (fun _ => 0) s.cq.logSeq w n, logs := SMap.set (fun _ => []) s.cq.logs w (l.drop (l.length - 16)) } }
  s1.modPair w q fun p => { p with newestLog := n }

/-- A field of an SQ entry. -/
abbrev sqField (e : List Byte) (o n : Nat) : Nat := ofLE ((e.drop o).take n)

/-- A bin ceases to exist; what the write buffer still holds for it goes with it (R352). -/
def State.removeBin (b : Nat) (s : State) : State :=
  let mine := s.fr.wb.filter fun f => f.bins.contains b
  let s1 := mine.foldl (fun t f => t.wbMod f.id fun w => { w with bins := w.bins.filter (· != b) }) s
  let s2 := (mine.filter fun f => f.bins == [b]).foldl (fun t f => t.wbDrop f.id) s1
  (((s2.setBin b none).setBinState b 0 0).reviewBinQuota b).binReport b

/-- Reads of the bin that were in flight when its deletion began. -/
def State.readsLeft (s : State) (b : Nat) : Bool :=
  s.cq.pairs.any fun e => e.2.any fun p => p.cmds.any fun c => c.fate == 1 && sqField c.entry 4 1 == b

/-- A BIN_DELETE whose last read has ended completes (R352). -/
def State.reviewDeletes (s : State) : State :=
  s.binList.foldl (init := s) fun t b => match (t.bin? b).bind fun x => x.deleting with
    | some tk => if t.readsLeft b then t else (t.removeBin b).finalReply tk cOK 0 0
    | none => t

/-- The commands of a pair that have not completed complete with ABORTED. -/
def State.abortPair (w q : Nat) (s : State) : State :=
  match s.pair? w q with
  | none => s
  | some p => (p.cmds.foldl (fun t c => t.writeCq w q c.cid cABORTED true 0 0 0) (s.setPair w q (some { p with cmds := [] }))).reviewDeletes

/-- A freezing failure of a pair (R342): log entry, the failing command's CQ entry, ABORTED for what has not started, QUEUE_FROZEN. A doorbell fault
has no command. -/
def State.freeze (w q : Nat) (e : QueueLog) (cmd : Option (Nat × Nat × Nat)) (s : State) : State :=
  match s.pair? w q with
  | none => s
  | some p =>
    let first := !p.frozen
    let s1 := s.logQueue w q { e with froze := first, queue := q, sqHead := p.sqHead, aborted := if first then p.cmds.length else 0 }
    let seq := SMap.get (fun _ => 0) s1.cq.logSeq w
    let s2 := match cmd with
      | some (cid, r0, r1) => s1.writeCq w q cid e.code true r0 r1 seq
      | none => s1
    if first then
      let s3 := (s2.modPair w q fun x => { x with frozen := true }).abortPair w q
      let s4 := (s3.bumpSat P.CQ_FREEZES w 1).advanceWin w
      if (s4.win w).mask.testBit 7 then s4.postTo w { typ := 0x07, cls := 0xE, idx := w, payload := q + at' 16 seq, tag := s4.ring.tag } else s4
    else s2

/-! ### Doorbells and fetching (R334, R335) -/

/-- A write of SQ_TAIL (R334): the entries that the host has written lie at the SQ's old tail. A value that the ring cannot hold freezes the pair. -/
def State.writeSqTail (win pair value : Nat) (entries : List Byte) (s : State) : State :=
  match s.pair? win pair with
  | none => s
  | some p =>
    let n := 2 ^ p.sqLog
    let put := fun (t : State) (i : Nat) =>
      { t with ctl := { t.ctl with hostMem := putBytes zeroByte t.ctl.hostMem (p.sqBase + 64 * ((p.sqTail + i) % n)) ((entries.drop (64 * i)).take 64) } }
    let s1 := (List.range (cdiv entries.length 64)).foldl put s
    let pend := (p.sqTail + n - p.sqHead) % n + (value + n - p.sqTail) % n
    if n ≤ value ∨ n ≤ pend then
      s1.freeze win pair { seq := 0, froze := true, queue := pair, cid := 0xFFFF, time := 0, opcode := 0, code := cBAD_PARAM, detail := value } none
    else s1.modPair win pair fun x => { x with sqTail := value }

/-- A write of CQ_HEAD (R334). -/
def State.writeCqHead (win pair value : Nat) (s : State) : State :=
  match s.pair? win pair with
  | none => s
  | some p =>
    if 2 ^ p.cqLog ≤ value then
      s.freeze win pair { seq := 0, froze := true, queue := pair, cid := 0xFFFF, time := 0, opcode := 0, code := cBAD_PARAM, detail := value } none
    else s.setPair win pair (some { p with cqHead := value })

/-- SQ_TAIL. -/
def execSqTail (page : HostPage) (pair value : Nat) (entries : List Byte) (s : State) : Result :=
  guarded (.sqTail page pair value entries) s (if s.hostTakes page.fn page.win then s.writeSqTail page.win pair value entries else s)

/-- CQ_HEAD. -/
def execCqHead (page : HostPage) (pair value : Nat) (s : State) : Result :=
  guarded (.cqHead page pair value) s (if s.hostTakes page.fn page.win then s.writeCqHead page.win pair value else s)

/-- A held command asks for an exit from DARK, at once where DARK has been reached (R434, R345). -/
def State.wantExit (s : State) : State :=
  if s.powerState == 2 && s.pw.step == .none then s.beginDarkExit 1
  else if s.pw.step == .exiting then s else { s with pw := { s.pw with exitWanted := true } }

/-- The power state holds clip queue commands (R345). -/
def State.queuesHeld (s : State) : Bool := s.pw.step.dark || s.powerState == 2

/-- Commands of all pairs that are in progress. -/
def State.queueCmds (s : State) : Nat := (s.cq.pairs.map fun e => (e.2.map fun p => p.cmds.length).getD 0).sum

/-- The pair is ready to fetch an entry (R335): its CQ can still hold every completion owed. -/
def State.fetchReady (s : State) (p : Pair) : Bool :=
  s.queuesRun && !p.frozen && p.sqHead != p.sqTail && decide (p.cmds.length + p.unreleased + b2n s.queuesHeld < 2 ^ p.cqLog - 1 ∧ p.cmds.length < 64
    ∧ s.queueCmds < 1024)

/-- The pair that is served next, as window × 16 + number: of those ready, the first after the one served last (R38). -/
def State.nextFetch (s : State) : Option Nat :=
  let l := (s.cq.pairs.filter fun e => e.2.any s.fetchReady).map Prod.fst
  (l.find? fun k => decide (s.cq.served < k)).or l.head?

/-- SQ_FETCH (R335, R345): one entry of the pair whose turn it is. -/
def execSqFetch (win pair : Nat) (s : State) : Result :=
  guarded (.sqFetch win pair) s <|
    match s.pair? win pair with
    | none => s
    | some p =>
      if s.nextFetch ≠ some (win * 16 + pair) then s
      else
        let s : State := { s with cq := { s.cq with served := win * 16 + pair } }
        let a := p.sqBase + 64 * p.sqHead
        let e := s.hostRead a 64
        if e.length < 64 then
          s.freeze win pair { seq := 0, froze := true, queue := pair, cid := 0xFFFF, time := 0, opcode := 0, code := cHOST_FAULT, detail := a } none
        else
          let cid := sqField e 2 2
          let p1 := { p with sqHead := (p.sqHead + 1) % 2 ^ p.sqLog }
          let op := sqField e 0 1
          if op = 0 ∨ 6 < op then
            (s.setPair win pair (some p1)).freeze win pair
              { seq := 0, froze := true, queue := pair, cid := cid, time := 0, opcode := op, code := cBAD_OPCODE, bin := sqField e 4 1, clip := sqField e 8 4 }
              (some (cid, 0, 0))
          else
            let held := s.queuesHeld
            let s1 := s.setPair win pair (some { p1 with cmds := p1.cmds ++ [{ cid := cid, entry := e, time := s.now, held := held }] })
            if held then (s1.writeCq win pair cid cPOWER_HELD false 0 0 0).wantExit else s1

/-! ### Running a command -/

/-- What a clip queue command answers: its code, RESULT0, RESULT1, and for the error log the faulting field, detail and device fault entry. -/
structure QAns where
  code : Nat := 0
  r0 : Nat := 0
  r1 : Nat := 0
  field : Nat := 0
  detail : Nat := 0
  fault : Nat := 0
  deriving DecidableEq, Repr

/-- The codes that freeze the queue (Table 11-6). -/
def freezing (code : Nat) : Bool := [cBAD_OPCODE, cBAD_PARAM, cMEDIA_ERROR, cHOST_FAULT].contains code

/-- The fields of Table 11-2 that an opcode does not use: offset, bytes. -/
def unusedFields (op : Nat) : List (Nat × Nat) :=
  (if op = 6 then [(4, 1)] else []) ++ (if op = 2 then [] else [(5, 1)]) ++ [(6, 2)] ++ (if op = 5 ∨ op = 6 then [(8, 4)] else [])
    ++ (if op = 2 then [] else [(0x0C, 4)]) ++ (if op = 1 ∨ op = 4 then [] else [(0x10, 8)]) ++ (if op = 6 then [(0x18, 8), (0x20, 4)] else [])
    ++ (if op = 2 then [] else [(0x28, 8)]) ++ [(0x30, 8), (0x38, 8)]

/-- The first bad field of an entry (R336, R339, R340), by its offset. -/
def badField (e : List Byte) : Option Nat :=
  let op := sqField e 0 1
  let fl := sqField e 1 1
  let len := sqField e 0x20 4
  let bad := (if 4 ≤ fl ∨ (op ≠ 5 ∧ fl ≠ 0) then [1] else []) ++ (if 64 ≤ sqField e 4 1 then [4] else [])
    ++ (if op = 2 ∧ 8 ≤ sqField e 5 1 then [5] else [])
    ++ ((unusedFields op).filter fun u => sqField e u.1 u.2 != 0).map Prod.fst
    ++ (if op ≠ 6 ∧ sqField e 0x18 8 = 0 then [0x18] else [])
    ++ (if op ≠ 6 ∧ (len = 0 ∨ 0x1000000 < len) then [0x20] else [])
    ++ (if op = 3 ∧ len % 128 ≠ 0 then [0x20] else []) ++ (if op = 4 ∧ len % 32 ≠ 0 then [0x20] else [])
    ++ (if 600000 < sqField e 0x24 4 then [0x24] else [])
  bad.min?

/-- The command may start: it is of this opcode, the power state and the firmware let it run, and no FENCE stands in its way (R35). -/
def State.queueCmd (s : State) (w q cid op : Nat) : Option QCmd :=
  match s.pair? w q with
  | none => none
  | some p =>
    if !s.queuesRun ∨ s.queuesHeld then none
    else
      let before := p.cmds.takeWhile fun c => !(c.cid == cid && sqField c.entry 0 1 == op)
      match p.cmds.find? fun c => c.cid == cid && sqField c.entry 0 1 == op with
      | none => none
      | some c => if before.any (fun d => sqField d.entry 0 1 == 6) || (op == 6 && !before.isEmpty) then none else some c

/-- A command leaves its pair and completes; a freezing code freezes the pair (R337, R342). -/
def State.completeCmd (w q : Nat) (c : QCmd) (a : QAns) (s : State) : State :=
  let s1 := (s.modPair w q fun p => { p with cmds := p.cmds.erase c }).reviewDeletes
  if freezing a.code then
    s1.freeze w q { seq := 0, froze := true, queue := q, cid := c.cid, time := 0, opcode := sqField c.entry 0 1, code := a.code, bin := sqField c.entry 4 1
                    field := a.field, clip := sqField c.entry 8 4, detail := a.detail, faultSeq := a.fault } (some (c.cid, a.r0, a.r1))
  else s1.writeCq w q c.cid a.code true a.r0 a.r1 0

/-- A fetched command runs: its fields are checked, then it does what its opcode says, unless its bin has been formatted or is being deleted, or an
expander of it has departed meanwhile (R302, R350, R352). -/
def State.runCmd (w q cid op : Nat) (run : List Byte → State → State × QAns) (s : State) : State :=
  match s.queueCmd w q cid op with
  | none => s
  | some c =>
    let o := sqField c.entry 0x10 8
    match badField c.entry with
    | some f => s.completeCmd w q c { code := cBAD_PARAM, field := f }
    | none =>
      if c.fate = cMEDIA_ERROR then s.completeCmd w q c { code := cMEDIA_ERROR, r1 := o, detail := o }
      else if 2 ≤ c.fate then s.completeCmd w q c { code := c.fate }
      else if op ≠ 6 ∧ c.fate = 0 ∧ ((s.bin? (sqField c.entry 4 1)).any fun x => x.deleting.isSome) = true then s.completeCmd w q c { code := cNOT_PERMITTED }
      else let r := run c.entry s; r.1.completeCmd w q c r.2

/-- The bin of a reading command, or the code with which it fails (Table 11-6). -/
def State.readBin (s : State) (e : List Byte) : Bin ⊕ QAns :=
  let b := sqField e 4 1
  match s.bin? b with
  | none => .inr { code := cNOT_PERMITTED }
  | some x =>
    if s.binState b = 0 ∨ s.binState b = 1 then .inr { code := cNOT_PERMITTED }
    else if s.getP P.CXL_REGION_STATE x.region = 4 then .inr { code := cREGION_OFFLINE }
    else .inl x

/-- The clip that a reading command names: shed before (CLIP_SHED), or never made. -/
def Bin.readClip (x : Bin) (id : Nat) : Clip ⊕ QAns :=
  match x.clips.find? fun c => c.id == id && c.phase != 3 with
  | some c => .inl c
  | none => if 1 ≤ id ∧ id < x.nextClip then .inr { code := cCLIP_SHED } else .inr { code := cBAD_PARAM, field := 8 }

/-- Poisoned ranges of a record: on CXL, or in the write buffer while it is there (R33). -/
def State.recPoison (s : State) (r : Rec) : List (Nat × Nat) :=
  if r.wb = 0 then r.poison
  else match s.fr.wb.find? fun f => f.id + 1 == r.wb with
    | some f => match s.firstPoison f.addr r.len with
      | some o => [(o, 1)]
      | none => []
    | none => []

/-- The reads of a clip's records in the write buffer meet decayed granules (R284). -/
def State.readRecs (c : Clip) (s : State) : State :=
  if s.dram.flaws.isEmpty then s
  else c.recs.foldl (init := s) fun t r => match t.fr.wb.find? fun f => r.wb != 0 && f.id + 1 == r.wb with
    | some f => t.demandRead f.addr r.len
    | none => t

/-- The first poisoned byte of a clip's stream among `n` from `o`. -/
def State.streamPoison (s : State) (c : Clip) (o n : Nat) : Option Nat :=
  let all := (c.recs.foldl (fun (a : List (Nat × Nat) × Nat) r => (a.1 ++ (s.recPoison r).map fun e => (a.2 + e.1, e.2), a.2 + r.len)) ([], 0)).1
  (all.filterMap fun e => if e.1 + e.2 ≤ o ∨ o + n ≤ e.1 then none else some (max e.1 o)).min?

/-- Where byte `o` of a clip's stream stands on CXL, if it has drained. -/
def State.streamAddr (s : State) (x : Bin) (c : Clip) (o : Nat) : Option Nat :=
  (c.recs.foldl (fun (a : Option Nat × Nat) r =>
    if a.1.isNone && decide (a.2 ≤ o ∧ o < a.2 + r.len) && r.wb == 0 then
      ((r.pieces.foldl (fun (b : Option Nat × Nat) p =>
        (if b.1.isNone && decide (b.2 ≤ o - a.2 ∧ o - a.2 < b.2 + p.2.2) then some (s.pieceAddr x p + (o - a.2 - b.2)) else b.1, b.2 + p.2.2)) (none, 0)).1,
        a.2 + r.len)
    else (a.1, a.2 + r.len)) (none, 0)).1

/-- A poisoned read on CXL is reported (R299); answers the fault log entry's sequence, 0 for a read of the write buffer. -/
def State.reportPoison (x : Bin) (c : Clip) (o : Nat) (s : State) : State × Nat :=
  match s.streamAddr x c o with
  | none => (s, 0)
  | some a =>
    let slot := (s.region x.region).memberAt (a - s.getP P.CXL_REGION_BASE x.region)
    let q := s.ctl.faultNext
    ((((s.postMemError 2 (32 + slot) a 64).logFault 0x9 (32 + slot) 0x0603 0).bumpSat P.CXL_EXP_POISON slot 1), q)

/-- Bytes to host memory, or HOST_FAULT. -/
def State.toHost (h : Nat) (l : List Byte) (ans : QAns) (s : State) : State × QAns :=
  let r := s.hostWrite h l
  if r.2 then (r.1, { ans with r0 := ans.r0 + l.length })
  else let g := s.hostGood h l.length; (r.1, { code := cHOST_FAULT, r0 := g, detail := h + g })

/-- READ (R340, R341). -/
def readRun (e : List Byte) (s : State) : State × QAns :=
  match s.readBin e with
  | .inr a => (s, a)
  | .inl x => match x.readClip (sqField e 8 4) with
    | .inr a => (s, a)
    | .inl c =>
      let s := s.readRecs c
      let o := sqField e 0x10 8
      let held := c.bytes
      let n := min (sqField e 0x20 4) (held - o)
      let stream := c.recs.flatMap fun r => r.bytes c.id
      let r1 := held + at' 63 (b2n (c.phase == 2))
      match s.streamPoison c o n with
      | none => s.toHost (sqField e 0x18 8) ((stream.drop o).take n) { r1 := r1 }
      | some p =>
        let t := s.reportPoison x c p
        t.1.toHost (sqField e 0x18 8) ((stream.drop o).take (p - o)) { code := cMEDIA_ERROR, r1 := p, detail := p, fault := t.2 }

/-- READ. -/
def execRead (win pair cid : Nat) (s : State) : Result := guarded (.read win pair cid) s (s.runCmd win pair cid 1 readRun)

/-- The blocks of a FRAME record by its block table; the last one ends with its own padding. -/
def frameBlockBytes (r : Rec) : List (List Byte) :=
  let n := r.field 0x2C 2
  let all := List.replicate 0x20 0 ++ r.body
  let off := fun (i : Nat) => r.field (0x60 + 4 * i) 4
  (List.range n).map fun i =>
    let d := all.drop (off i)
    if i + 1 < n then d.take (off (i + 1) - off i)
    else
      let want := 16 + cdiv (readBlockHdr d).1.payloadLen 16 * 16
      if want ≤ d.length ∧ d.length < want + 64 then d.take want else d

/-- The compression engine whose decompressor decodes: the lowest whose encoder is idle, or the frame's own (R340). -/
def State.decodeEngine (s : State) (p : Nat) : Nat :=
  (firstBelow (fun i => !(s.fr.wb.any fun f => f.source == i && f.phase == 0)) 8).getD p

/-- READ_FRAME (R328, R340, R341). -/
def readFrameRun (e : List Byte) (s : State) : State × QAns :=
  match s.readBin e with
  | .inr a => (s, a)
  | .inl x => match x.readClip (sqField e 8 4) with
    | .inr a => (s, a)
    | .inl c =>
      let s := s.readRecs c
      let src := sqField e 5 1
      match c.recs.find? fun r => r.typ == 1 && r.source == src && r.tag == sqField e 0x0C 4 with
      | none => (s, { code := cBAD_PARAM, field := 0x0C })
      | some r =>
        let bits := r.field 0x2A 1
        let line := r.field 0x26 2 * bits / 8
        let total := r.field 0x28 2 * line
        let h := sqField e 0x18 8
        if sqField e 0x20 4 < total then (s, { code := cBAD_PARAM, field := 0x20 })
        else
          let blocks := frameBlockBytes r
          let step := max (blockLines bits (r.field 0x26 2)) 1 * line
          let base := (c.recs.takeWhile fun q => q != r).foldl (fun n q => n + q.len) 0
          let poison := s.streamPoison c base r.len
          let soundTo := match poison with
            | some p => ((List.range blocks.length).filter fun i => decide (base + r.field (0x60 + 4 * i) 4 + (blocks.getD i []).length ≤ p)).length
            | none => blocks.length
          let dec := (blocks.take soundTo).map decodeBlock
          let bad := (List.range dec.length).filter fun i => !(dec.getD i ([], true)).2
          let writes := (List.range dec.length).map fun i => (i * step, (dec.getD i ([], true)).1.take (min step (total - i * step)))
          let s1 := s.bumpSat P.FR_DECODE_ERRORS (s.decodeEngine src) bad.length
          let out := writes.foldl (fun (a : State × QAns) w =>
            if a.2.code = cHOST_FAULT then a else let u := a.1.toHost (h + w.1) w.2 a.2; (u.1, { u.2 with r0 := if u.2.code = cHOST_FAULT then a.2.r0 + u.2.r0 else u.2.r0 }))
            (s1, ({} : QAns))
          if out.2.code = cHOST_FAULT then out
          else match poison with
            | some p => let t := out.1.reportPoison x c p; (t.1, { out.2 with code := cMEDIA_ERROR, r1 := p, detail := p, fault := t.2 })
            | none =>
              let ans : QAns := { out.2 with code := if bad.isEmpty then cOK else cDAMAGED
                                             r1 := blocks.length + at' 16 bad.length + at' 32 (r.field 0x20 4) }
              let d := sqField e 0x28 8
              if d = 0 then (out.1, ans)
              else out.1.toHost d (leBytes (bad.foldl setBit 0) (cdiv blocks.length 8)) ans

/-- READ_FRAME. -/
def execReadFrame (win pair cid : Nat) (s : State) : Result := guarded (.readFrame win pair cid) s (s.runCmd win pair cid 2 readFrameRun)

/-- The CLIP_CLOSE record of a closed clip, with its flags as the directory holds them. -/
def Clip.dirEntry (c : Clip) : List Byte :=
  let firstSeq := (c.recs.head?.map fun r => r.seq).getD 0
  match c.recs.find? fun r => r.typ == 4 with
  | some r => { r with body := c.closeBody firstSeq c.bytes }.bytes c.id
  | none => (({ typ := 4, source := 255, seq := 0, tag := c.last, body := c.closeBody firstSeq c.bytes } : Rec)).bytes c.id

/-- DIR_READ (R340). -/
def dirReadRun (e : List Byte) (s : State) : State × QAns :=
  match s.readBin e with
  | .inr a => (s, a)
  | .inl x =>
    let l := (x.clips.filter fun c => c.phase == 2 && decide (sqField e 8 4 ≤ c.id)).take (sqField e 0x20 4 / 128)
    s.toHost (sqField e 0x18 8) (l.flatMap Clip.dirEntry) { r1 := l.length + at' 32 ((x.openClip.map fun c => wrap32 c.id).getD 0) }

/-- DIR_READ. -/
def execDirRead (win pair cid : Nat) (s : State) : Result := guarded (.dirRead win pair cid) s (s.runCmd win pair cid 3 dirReadRun)

/-- An index entry (Table 11-5). -/
def indexEntry (r : Rec) (o : Nat) : List Byte :=
  leBytes r.seq 8 ++ leBytes o 8 ++ leBytes r.len 4 ++ leBytes r.tag 4 ++ leBytes r.typ 1 ++ leBytes r.source 1 ++ leBytes (b2n (r.wb != 0)) 1 ++ leBytes 0 1
    ++ leBytes (if r.typ = 1 then r.field 0x20 4 else 0) 4

/-- INDEX_READ (R340). -/
def indexReadRun (e : List Byte) (s : State) : State × QAns :=
  match s.readBin e with
  | .inr a => (s, a)
  | .inl x => match x.readClip (sqField e 8 4) with
    | .inr a => (s, a)
    | .inl c =>
      let all := (c.recs.foldl (fun (a : List (List Byte) × Nat) r => (a.1 ++ [indexEntry r a.2], a.2 + r.len)) ([], 0)).1
      let l := (all.drop (sqField e 0x10 8)).take (sqField e 0x20 4 / 32)
      s.toHost (sqField e 0x18 8) l.flatten { r1 := l.length + at' 32 c.recs.length }

/-- INDEX_READ. -/
def execIndexRead (win pair cid : Nat) (s : State) : Result := guarded (.indexRead win pair cid) s (s.runCmd win pair cid 4 indexReadRun)

/-- FENCE of a clip queue (R35). -/
def execCqFence (win pair cid : Nat) (s : State) : Result := guarded (.cqFence win pair cid) s (s.runCmd win pair cid 6 fun _ t => (t, {}))

/-! ### Import (R347) -/

/-- The record at the front of imported data, if it is well-formed: TYPE, SOURCE, LENGTH, and what its type asks for. -/
def importRecord (l : List Byte) : Option (Rec × Nat) :=
  let f := fun (o n : Nat) => ofLE ((l.drop o).take n)
  let typ := f 0 1
  let src := f 1 1
  let len := f 4 4
  let body := (l.take len).drop 0x20
  let r : Rec := { typ := typ, source := src, seq := 0, tag := f 0x10 4, body := body }
  let cam := decide (src < 8)
  let aud := decide (16 ≤ src ∧ src < 32)
  let vid := src == 32 || src == 33
  if l.length < 64 ∨ len < 64 ∨ len % 64 ≠ 0 ∨ l.length < len then none
  else
    let ok := if typ = 1 then
        let n := r.field 0x2C 2
        let offs := (List.range n).map fun i => r.field (0x60 + 4 * i) 4
        cam && decide (0x60 + 4 * n ≤ len) && (offs.all fun o => o % 16 == 0 && decide (0x60 + 4 * n ≤ o ∧ o + 16 ≤ len))
          && offs.Pairwise (· < ·) && (frameBlockBytes r).all fun b => let h := readBlockHdr b; blockHdrOk h.1 h.2 b.length
      else if typ = 2 then cam || aud || vid
      else if typ = 3 then aud
      else if typ = 6 then vid && decide (r.field 0x2C 4 ≤ len - 0x40)
      else false
    if ok then some (r, len) else none

/-- The records of imported data, or none if one fails its checks. -/
def importRecords : Nat → List Byte → List Rec → Option (List Rec)
  | 0, _, acc => some acc
  | fuel + 1, l, acc =>
    if l.isEmpty then some acc
    else match importRecord l with
      | some (r, n) => importRecords fuel (l.drop n) (acc ++ [r])
      | none => none

/-- IMPORT (R347). -/
def importRun (e : List Byte) (s : State) : State × QAns :=
  let b := sqField e 4 1
  let isFirst := (sqField e 1 1).testBit 0
  let isLast := (sqField e 1 1).testBit 1
  match s.bin? b with
  | none => (s, { code := cNOT_PERMITTED })
  | some x =>
    if s.binState b ≠ 3 then (s, { code := cNOT_PERMITTED })
    else
      let cur := x.clips.find? fun c => c.phase == 3
      if isFirst ∧ cur.isSome then (s, { code := cBUSY })
      else if !isFirst ∧ cur.isNone then (s, { code := cBAD_PARAM, field := 1 })
      else
        let h := sqField e 0x18 8
        let n := sqField e 0x20 4
        let l := s.hostRead h n
        if l.length < n then (s, { code := cHOST_FAULT, detail := h + l.length })
        else match importRecords n l [] with
          | none => (s.discardImport b, { code := cBAD_PARAM, field := 0x18 })
          | some recs =>
            let tag0 := (recs.head?.map fun r => r.tag).getD 0
            let s1 := if isFirst then s.modBin b fun y =>
                { y with nextClip := y.nextClip + 1
                         clips := y.clips ++ [{ id := y.nextClip, first := tag0, last := tag0, t0 := s.now, phase := 3, sources := s.getP P.FR_BIN_SOURCES b }] }
              else s
            let id := (((s1.bin? b).bind fun y => y.clips.find? fun c => c.phase == 3).map fun c => c.id).getD 0
            let r := recs.foldl (fun (a : State × Bool) q => if a.2 then a.1.binAppend b id q else a) (s1, true)
            if !r.2 then (r.1.discardImport b, { code := cNO_RESOURCE, r0 := n })
            else
              let s2 := r.1.modClip b id fun c => { c with last := (c.recs.getLast?.map fun q => q.tag).getD c.last }
              let s3 := if isLast then (s2.modClip b id fun c => { c with phase := 1 }).finishClip b id else s2
              (s3, { r0 := n, r1 := wrap32 id })

/-- IMPORT: `data` is what stands in host memory at the entry's HOST_ADDR. -/
def execImportClip (win pair cid : Nat) (data : List Byte) (s : State) : Result :=
  guarded (.importClip win pair cid data) s <|
    match s.queueCmd win pair cid 5 with
    | none => s
    | some c =>
      let s1 : State := if data.isEmpty then s else
        { s with ctl := { s.ctl with hostMem := putBytes zeroByte s.ctl.hostMem (sqField c.entry 0x18 8) data } }
      s1.runCmd win pair cid 5 importRun

/-! ### Timers -/

/-- CQ_COMMAND_TIMEOUT (R340). -/
def execCqCommandTimeout (win pair cid : Nat) (s : State) : Result :=
  guarded (.cqCommandTimeout win pair cid) s <|
    match (s.pair? win pair).bind fun p => p.cmds.find? fun c => c.cid == cid with
    | none => s
    | some c =>
      let ms := sqField c.entry 0x24 4
      if ms = 0 ∨ !s.queuesRun then s
      else (s.atLeast (c.time + ms * 1000000)).completeCmd win pair c { code := cTIMEOUT }

/-- CQ_INTERRUPT_TIMER (R338): the oldest entry not signalled is AGG_TIME old. -/
def execCqInterruptTimer (win pair : Nat) (s : State) : Result :=
  guarded (.cqInterruptTimer win pair) s <|
    match s.pair? win pair with
    | none => s
    | some p => if p.unsignalled = 0 then s else (s.atLeast (p.oldest + p.aggTime * 1000)).signalCq win pair

/-! ### Queue commands (R332, R333, R342 to R346) -/

/-- CQ_PAIRS_IN_USE. -/
def State.pairReport (s : State) : State := s.setP P.CQ_PAIRS_IN_USE 0 s.cq.pairs.length

def queueCreateSpec : OpSpec := { op := 0x0710, len := fun c => c.opLen == 24, rsvd := 0xFFFF0000000000F0, bus := fun _ => false }

/-- QUEUE_CREATE (R332, R333, R338). -/
def queueCreateBody : Body := fun k s =>
  let q := k.c.f 0 4
  let sn := k.c.f 8 4
  let cn := k.c.f 12 4
  let v := k.c.f 16 8
  let agg := k.c.f 24 8
  let time := k.c.f 32 16
  let sb := k.c.f 64 64
  let cb := k.c.f 128 64
  let w := k.c.win
  if sn < 4 ∨ 12 < sn ∨ cn < 4 ∨ 12 < cn ∨ (15 < v ∧ v ≠ 0xFF) ∨ agg = 0 ∨ 1000 < time ∨ sb % 4096 ≠ 0 ∨ cb % 4096 ≠ 0 then
    (s, .err cBAD_PARAM)
  else if (s.pair? w q).isSome then (s, .err cBUSY)
  else if s.getP P.CQ_PAIR_LIMIT w ≤ (s.cq.pairs.filter fun e => e.1 / 16 == w).length ∨ 256 ≤ s.cq.pairs.length then (s, .err cNO_RESOURCE)
  else ((s.setPair w q (some { sqLog := sn, cqLog := cn, vector := v, aggCount := agg, aggTime := time, sqBase := sb, cqBase := cb })).pairReport, .ok)

def execQueueCreate (c : Cmd) (s : State) : Result := guarded (.queueCreate c) s (submit queueCreateSpec queueCreateBody c s)

/-- A pair goes: a restart that waited is aborted, and QUEUE_FROZEN follows the pairs left (R344, R346). -/
def State.dropPair (w q : Nat) (s : State) : State :=
  match s.pair? w q with
  | none => s
  | some p =>
    let s1 := (s.setPair w q none).pairReport
    let s2 := match p.restart with
      | some r => s1.finalReply r.1 cABORTED 0 0
      | none => s1
    (if p.frozen && !s2.queueFrozen w then s2.advanceWin w else s2).reviewDeletes

def queueDeleteSpec : OpSpec := { op := 0x0711, len := fun c => c.opLen == 1, rsvd := 0xF0, bus := fun _ => false }

/-- QUEUE_DELETE (R346). -/
def queueDeleteBody : Body := fun k s =>
  let q := k.c.f 0 4
  if (s.pair? k.c.win q).isNone then (s, .err cNOT_PERMITTED) else ((s.abortPair k.c.win q).dropPair k.c.win q, .ok)

def execQueueDelete (c : Cmd) (s : State) : Result := guarded (.queueDelete c) s (submit queueDeleteSpec queueDeleteBody c s)

def queueRestartSpec : OpSpec := { op := 0x0712, len := fun c => c.opLen == 8, rsvd := 0xFFFFFFE0, bus := fun _ => false }

/-- QUEUE_RESTART (R344): the newest LOG_SEQ of the pair must be named. -/
def queueRestartBody : Body := fun k s =>
  let q := k.c.f 0 4
  match s.pair? k.c.win q with
  | none => (s, .err cNOT_PERMITTED)
  | some p =>
    if !p.frozen then (s, .err cNOT_PERMITTED)
    else if p.restart.isSome then (s, .err cBUSY)
    else if k.c.f 32 32 ≠ p.newestLog then (s, .err cRESTART_SEQ)
    else (s.setPair k.c.win q (some { p with restart := some (k.tk, k.c.f 4 1 == 1) }), .wait)

def execQueueRestart (c : Cmd) (s : State) : Result := guarded (.queueRestart c) s (submit queueRestartSpec queueRestartBody c s)

/-- QUEUE_RESUME (R344): no command of the restarted pair is in progress, so the freeze clears. -/
def execQueueResume (win pair : Nat) (s : State) : Result :=
  guarded (.queueResume win pair) s <|
    match s.pair? win pair with
    | none => s
    | some p => match p.restart with
      | none => s
      | some r =>
        if !p.cmds.isEmpty then s
        else
          let s1 := s.setPair win pair (some { p with frozen := false, restart := none, sqHead := if r.2 then p.sqTail else p.sqHead })
          (if s1.queueFrozen win then s1 else s1.advanceWin win).finalReply r.1 cOK 0 0

/-- An error log entry's bytes (Table 11-7). -/
def QueueLog.bytes (e : QueueLog) : List Byte :=
  leBytes e.seq 4 ++ leBytes (b2n e.froze) 1 ++ leBytes e.queue 1 ++ leBytes e.cid 2 ++ leBytes e.time 8 ++ leBytes e.opcode 1 ++ leBytes e.code 1
    ++ leBytes e.bin 1 ++ leBytes e.field 1 ++ leBytes e.clip 4 ++ leBytes e.detail 8 ++ leBytes e.sqHead 2 ++ leBytes e.aborted 2 ++ leBytes e.faultSeq 4
    ++ leBytes 0 0x18

def queueErrorLogSpec : OpSpec := { op := 0x0713, len := fun c => c.opLen == 4, bus := fun _ => false }

/-- QUEUE_ERROR_LOG (R343): up to three entries from the sequence named. -/
def queueErrorLogBody : Body := fun k s =>
  let a := k.c.f 0 32
  let l := ((SMap.get (fun _ => []) s.cq.logs k.c.win).filter fun e => decide ((e.seq + 0x100000000 - a) % 0x100000000 < 0x80000000)).take 3
  let r := leBytes (SMap.get (fun _ => 0) s.cq.logSeq k.c.win) 4 ++ leBytes l.length 2 ++ leBytes 0 2 ++ l.flatMap QueueLog.bytes
  (s, .done cOK r.length (ofLE r))

def execQueueErrorLog (c : Cmd) (s : State) : Result := guarded (.queueErrorLog c) s (submit queueErrorLogSpec queueErrorLogBody c s)

def queueStatusSpec : OpSpec := { op := 0x0714, len := fun c => c.opLen == 1, rsvd := 0xF0, bus := fun _ => false }

/-- QUEUE_STATUS (Table 11-8). -/
def queueStatusBody : Body := fun k s =>
  match s.pair? k.c.win (k.c.f 0 4) with
  | none => (s, .done cOK 8 0)
  | some p => (s, .done cOK 8 ((if p.frozen then 2 else 1) + at' 8 p.cmds.length + at' 16 p.sqHead + at' 32 p.cqTail))

def execQueueStatus (c : Cmd) (s : State) : Result := guarded (.queueStatus c) s (submit queueStatusSpec queueStatusBody c s)

/-- The closure of a window deletes every pair of it; no CQ entry is written (R346), and its error log starts afresh when it opens (R343). -/
def State.closeQueues (w : Nat) (s : State) : State :=
  let s1 := (List.range 16).foldl (fun t q => t.dropPair w q) s
  { s1 with cq := { s1.cq with logs := SMap.set (fun _ => []) s1.cq.logs w [], logSeq := SMap.set (fun _ => 0) s1.cq.logSeq w 0 } }

/-! ### Bin administration (R348 to R352) -/

/-- An administration operation of `total` bytes starts: the bin enters ADMIN and every clip is gone (R350, R351). -/
def State.startAdmin (b op : Nat) (s : State) : State :=
  let s1 := ((s.discardImport b).meetCmds [1, 2, 3, 4] [b] cCLIP_SHED).modBin b fun x =>
    { x with clips := [], shed := [], runs := [], trigs := [], seq := 0, nextClip := 1, noSpace := false, wseg := x.segs - 1, woff := segBytes
             admin := some { op := op, total := (x.segs + 1) * segBytes, start := s.now } }
  (((s1.setP P.BIN_ADMIN_PROGRESS b 0).setBinState b 1 0).reviewBinQuota b).binReport b

def binCreateSpec : OpSpec := { op := 0x0720, priv := true, len := fun c => c.opLen == 8, rsvd := 0xFFFF0000 }

/-- BIN_CREATE (R349). -/
def binCreateBody : Body := fun k s =>
  let b := k.c.f 0 8
  let r := k.c.f 8 8
  let quota := k.c.f 32 32
  if 64 ≤ b ∨ 32 ≤ r then (s, .err cBAD_PARAM)
  else if s.binState b ≠ 0 ∨ (s.bin? b).isSome then (s, .err cNOT_PERMITTED)
  else if s.getP P.CXL_REGION_STATE r ≠ 1 then (s, .err cREGION_OFFLINE)
  else if (s.binOn r).isSome then (s, .err cBUSY)
  else
    let n := regionSegs (s.getP P.CXL_REGION_SIZE r)
    if n < 8 then (s, .err cNO_RESOURCE)
    else if n - 2 < quota then (s, .err cBAD_PARAM)
    else
      let q := if quota = 0 then n - 2 else quota
      let s1 := (s.setBin b (some { region := r, segs := n, quota := q })).setP P.FR_BIN_QUOTA b q
      (s1.startAdmin b 1, .done cOK 8 (n + at' 32 q))

def execBinCreate (c : Cmd) (s : State) : Result := guarded (.binCreate c) s (submit binCreateSpec binCreateBody c s)

/-- The bin holds protected clips. -/
def Bin.hasProtected (x : Bin) : Bool := x.clips.any fun c => c.isProtected

def binDeleteSpec : OpSpec := { op := 0x0721, priv := true, len := fun c => c.opLen == 4, rsvd := 0xFFFFFE00 }

/-- BIN_DELETE (R352, R441): it waits for reads in flight. -/
def binDeleteBody : Body := fun k s =>
  let b := k.c.f 0 8
  if 64 ≤ b then (s, .err cBAD_PARAM)
  else match s.bin? b with
    | none => (s, .err cNOT_PERMITTED)
    | some x =>
      let st := s.binState b
      if st = 1 ∨ x.deleting.isSome = true then (s, .err cBUSY)
      else if st = 5 ∧ s.getP P.CXL_REGION_STATE x.region = 3 then (s, .err cBUSY)
      else if !(st == 3 || st == 5) ∨ s.getP P.FR_BIN_ARM b = 1 then (s, .err cNOT_PERMITTED)
      else if x.hasProtected ∧ k.c.f 8 1 = 0 then (s, .err cNOT_PERMITTED)
      else
        let s1 := (s.discardImport b).meetCmds [1, 2, 3, 4] [b] 1
        if s1.readsLeft b then (s1.modBin b fun y => { y with deleting := some k.tk }, .wait) else (s.removeBin b, .ok)

def execBinDelete (c : Cmd) (s : State) : Result := guarded (.binDelete c) s (submit binDeleteSpec binDeleteBody c s)

/-- BIN_FORMAT and BIN_SANITISE from their checks on (R350, R351). -/
def adminBody (op b : Nat) (force : Bool) (s : State) : State × Ans :=
  match s.bin? b with
  | none => (s, .err cNOT_PERMITTED)
  | some x =>
    let st := s.binState b
    if st = 1 ∨ x.deleting.isSome = true then (s, .err cBUSY)
    else if st ≠ 3 ∨ s.getP P.FR_BIN_ARM b = 1 then (s, .err cNOT_PERMITTED)
    else if x.hasProtected && !force then (s, .err cNOT_PERMITTED)
    else (s.startAdmin b op, .ok)

def binFormatSpec : OpSpec := { op := 0x0722, priv := true, len := fun c => c.opLen == 4, rsvd := 0xFFFFFE00 }

/-- BIN_FORMAT (R350). -/
def binFormatBody : Body := fun k s => if 64 ≤ k.c.f 0 8 then (s, .err cBAD_PARAM) else adminBody 1 (k.c.f 0 8) (k.c.f 8 1 == 1) s

def execBinFormat (c : Cmd) (s : State) : Result := guarded (.binFormat c) s (submit binFormatSpec binFormatBody c s)

def binSanitiseSpec : OpSpec := { op := 0x0723, priv := true, len := fun c => c.opLen == 8, rsvd := 0xFFFFFE00 }

/-- BIN_SANITISE (R350). -/
def binSanitiseBody : Body := fun k s =>
  if 64 ≤ k.c.f 0 8 ∨ k.c.f 32 32 ≠ 0x53414E49 then (s, .err cBAD_PARAM) else adminBody 2 (k.c.f 0 8) (k.c.f 8 1 == 1) s

def execBinSanitise (c : Cmd) (s : State) : Result := guarded (.binSanitise c) s (submit binSanitiseSpec binSanitiseBody c s)

def binAdminStatusSpec : OpSpec := { op := 0x0724, len := fun c => c.opLen == 1 }

/-- BIN_ADMIN_STATUS (Table 11-8). -/
def binAdminStatusBody : Body := fun k s =>
  let b := k.c.f 0 8
  if 64 ≤ b then (s, .err cBAD_PARAM)
  else match (s.bin? b).bind fun x => x.admin with
    | none => (s, .done cOK 24 0)
    | some a => (s, .done cOK 24 (a.op + at' 16 (a.resumed % 65536) + at' 32 a.pos + at' 96 a.total + at' 160 (wrap32 a.failed)))

def execBinAdminStatus (c : Cmd) (s : State) : Result := guarded (.binAdminStatus c) s (submit binAdminStatusSpec binAdminStatusBody c s)

/-- ADMIN_PROGRESS (R350, R351): another GiB is done; each line that failed verification makes a fault log entry. -/
def execAdminProgress (bin failedLines : Nat) (s : State) : Result :=
  guarded (.adminProgress bin failedLines) s <|
    match (s.bin? bin).bind fun x => x.admin.map fun a => (x, a) with
    | none => s
    | some (x, a) =>
      if s.binState bin ≠ 1 then s
      else
        let n := if a.op = 2 then failedLines else 0
        let y := { a with pos := min (a.pos + 0x40000000) a.total, failed := a.failed + n }
        let s1 := (List.range n).foldl (fun t _ => t.logFault 0xA bin 0x0701 0) s
        (s1.setBin bin (some { x with admin := some y })).setP P.BIN_ADMIN_PROGRESS bin (y.pos * 1000 / max y.total 1)

/-- ADMIN_DONE (R350): the bin is empty and IDLE, with new anchors and checkpoints. -/
def execAdminDone (bin : Nat) (s : State) : Result :=
  guarded (.adminDone bin) s <|
    match (s.bin? bin).bind fun x => x.admin.map fun a => (x, a) with
    | none => s
    | some (x, a) =>
      if s.binState bin ≠ 1 then s
      else
        let y := { x with admin := none, hdrA := 0, hdrB := 1, gen := x.gen + 1, ckpt := 0, ckptTime := s.now, durable := 0, passes := [(0, 1), (1, 1)] }
        (((s.setBin bin (some y)).setP P.BIN_ADMIN_PROGRESS bin 1000).post 0x78 0xA bin
          (a.op + at' 16 (wrap32 a.failed) + at' 48 (wrap32 ((s.now - a.start) / 1000000000)))).setBinState bin 3 3

end Sys2Proof.Machine
end

