-- ==== Sys2Proof/Machine/Codec.lean ====
section
/-! DEFINITION. HEVC codec engines: capture geometry and conversion, limits, states, buffers, picture records, and the codec commands (12).
What happens at a picture boundary is in Machine/Pictures.lean. -/

namespace Sys2Proof.Machine

abbrev engineDef : Nat → Engine := fun _ => {}

def State.engine (s : State) (e : Nat) : Engine := SMap.get engineDef s.vc.engines e

def State.modEngine (e : Nat) (f : Engine → Engine) (s : State) : State :=
  { s with vc := { s.vc with engines := SMap.set engineDef s.vc.engines e (f (s.engine e)) } }

/-- A parameter of engine `e`. -/
abbrev State.vcp (s : State) (e id : Nat) : Nat := s.getP (P.vc e id) 0

/-- VC_STATE (Table 12-2). -/
abbrev State.vcState (s : State) (e : Nat) : Nat := s.vcp e P.VC_STATE

/-- An event of an engine (Table 12-9). -/
def State.postVc (typ e payload : Nat) (s : State) : State := s.post typ 0xB e payload

/-- A change of state posts CODEC_STATE (R358). -/
def State.setVcState (e new reason : Nat) (s : State) : State :=
  let old := s.vcState e
  if old = new then s
  else (s.setP (P.vc e P.VC_STATE) 0 new).postVc 0x80 e (new + at' 8 old + at' 16 reason + at' 24 (s.vcp e P.VC_MODE))

/-- STREAM_ERROR (Table 12-9). -/
def State.streamError (e reason number : Nat) (s : State) : State := s.postVc 0x84 e (reason + at' 8 number)

/-! ### Geometry and limits (R355, R357, R360, R363) -/

/-- What an encoder captures: the crop, its reductions, and the output size (R360). -/
structure Capture where
  x0 : Nat
  y0 : Nat
  h : Nat
  v : Nat
  outW : Nat
  outH : Nat
  deriving DecidableEq, Repr

/-- The capture of an engine by its parameters. -/
def State.capture (s : State) (e : Nat) : Capture :=
  let cv := s.vcp e P.VC_CAP_CANVAS
  let r := fun (i : Nat) => s.getP (P.vc e P.VC_CAP_RECT) i
  let w := s.cvp cv P.CV_WIDTH 0
  let h := s.cvp cv P.CV_HEIGHT 0
  let x1 := min (r 2) w
  let y1 := min (r 3) h
  let full := x1 ≤ r 0 ∨ y1 ≤ r 1
  let dh := s.vcp e P.VC_CAP_DECIM % 4
  let dv := s.vcp e P.VC_CAP_DECIM / 4
  if full then { x0 := 0, y0 := 0, h := dh, v := dv, outW := w / 2 ^ dh, outH := h / 2 ^ dv }
  else { x0 := r 0, y0 := r 1, h := dh, v := dv, outW := (x1 - r 0) / 2 ^ dh, outH := (y1 - r 1) / 2 ^ dv }

/-- A picture size of Table 12-1, multiples of `m`. -/
def pictureSizeOk (m w h : Nat) : Bool :=
  w % m == 0 && h % m == 0 && decide (256 ≤ w ∧ w ≤ 8192 ∧ 128 ≤ h ∧ h ≤ 4352 ∧ w * h ≤ 35651584)

/-- CTU columns and rows of a picture. -/
abbrev ctuCols (w : Nat) : Nat := cdiv w 64
abbrev ctuRows (h : Nat) : Nat := cdiv h 64

/-- Slices of a picture of `rows` CTU rows (R362). -/
def slicesOf (sliceRows rows : Nat) : Nat := if sliceRows = 0 then 1 else cdiv rows sliceRows

/-- The least VBV size of R363, in bits. -/
def vbvFloor (w h sliceRows : Nat) : Nat := 768 * (ctuCols w * ctuRows h) + 8192 + 4096 * slicesOf sliceRows (ctuRows h)

/-- MaxBR and MaxCPB of level 6.2 High tier, scaled by the profile's CpbBrVclFactor: 800,000 × 1,000, or × 1,667 for Main 4:2:2 10 (R363;
the numbers are H.265's own). -/
def levelBits (profile : Nat) : Nat := if profile = 2 then 1333600000 else 800000000

/-- VC_BITRATE and VC_VBV_KBITS lie within the level bound (R363). -/
def State.levelOk (s : State) (e : Nat) : Bool :=
  let m := levelBits (s.vcp e P.VC_ENC_PROFILE)
  decide (s.vcp e P.VC_BITRATE * 1000 ≤ m) && decide (s.vcp e P.VC_VBV_KBITS * 1000 ≤ m)

/-- The picture interval of VC_DIV show periods of a canvas in ns, as numerator and denominator. -/
def State.divInterval (s : State) (e cv : Nat) : Nat × Nat := let p := s.showNominal cv; (s.vcp e P.VC_DIV * p.1, p.2)

/-- The pixel rate of an engine's stream in pixels/s: an encoder's from its capture; a decoder's from its pacing, at the largest picture of
Table 12-1 and its greatest rate (R355, R357). -/
def State.vcRate (s : State) (e mode : Nat) : Nat :=
  if mode = 1 then
    let k := s.capture e
    let i := s.divInterval e (s.vcp e P.VC_CAP_CANVAS)
    k.outW * k.outH * 1000000000 * i.2 / max i.1 1
  else
    let pace := s.vcp e P.VC_DEC_PACE
    let i := if pace = 255 then (s.vcp e P.VC_DEC_INTERVAL, 1) else s.divInterval e pace
    min 2400000000 (35651584 * 1000000000 * i.2 / max i.1 1)

/-- An ENCODE whose capture keeps within Table 12-1 and whose rate control keeps to R363. -/
def State.encodeOk (s : State) (e : Nat) : Bool :=
  let k := s.capture e
  pictureSizeOk 8 k.outW k.outH && decide (s.vcRate e 1 ≤ 2400000000) && s.levelOk e
    && decide (vbvFloor k.outW k.outH (s.vcp e P.VC_SLICE_ROWS) ≤ s.vcp e P.VC_VBV_KBITS * 1000)

/-- A decoder's pacing gives a picture interval of at least 4,166,666 ns (R357). -/
def State.paceOk (s : State) (e : Nat) : Bool :=
  let pace := s.vcp e P.VC_DEC_PACE
  if pace = 255 then decide (4166666 ≤ s.vcp e P.VC_DEC_INTERVAL)
  else let i := s.divInterval e pace; decide (4166666 * i.2 ≤ i.1)

/-- The claim's parameters hold on values `s` (R357, R360, R363). -/
def State.streamOk (s : State) (e mode : Nat) : Bool := if mode = 1 then s.encodeOk e else s.paceOk e

/-- The reservation and the load reports of an engine follow its stream (R42, R357, R376). -/
def State.codecReport (e : Nat) (s : State) : State :=
  let m := s.vcp e P.VC_MODE
  let rate := if m = 0 then 0 else s.vcRate e m
  ((s.bwSet 3 e (20 * rate)).setP (P.vc e P.VC_BW_RESERVED) 0 (rdivN (20 * rate) 1000000)).setP (P.vc e P.VC_LOAD) 0 (rdivN rate 1000000)

/-! ### Capture conversion (R360, R361) -/

/-- Entry value of the capture curve E at an L24 input (R361). -/
def captureEntry (xfer white nits i : Nat) : Nat :=
  let v := dRat (curveNode i) (2 ^ 20)
  let r := dMin (dDiv v (dRat white (2 ^ 20))) (dNat 1)
  let y :=
    if xfer = 0 then dPow r (dDiv (dNat 1) (dRat 24 10))
    else if xfer = 1 then
      (if dLt (dRat 31308 10000000) r then dSub (dMul (dRat 1055 1000) (dPow r (dDiv (dNat 1) (dRat 24 10)))) (dRat 55 1000)
       else dMul (dRat 1292 100) r)
    else
      let m := dPow (dMin (dDiv (dMul v (dNat nits)) (dNat 10000)) (dNat 1)) pqM1
      dPow (dDiv (dAdd pqC1 (dMul pqC2 m)) (dAdd (dNat 1) (dMul pqC3 m))) pqM2
  min (dRound (dMul (dNat 65535) y)).toNat 65535

/-- Table 12-3. -/
def captureCoefs (bt2020 : Bool) : List Int :=
  if bt2020 then [58913, 152048, 13298, 32028, 82662, 114690, 114690, 105465, 9225]
  else [47677, 160390, 16192, 26280, 88410, 114690, 114690, 104173, 10517]

/-- The words of one column pair in the YC422 layout from its curve outputs (R361). -/
def capturePair (k : List Int) (p0 p1 : Int × Int × Int) : Nat × Nat :=
  let c := fun (i : Nat) => k.getD i 0
  let y := fun (p : Int × Int × Int) => clampI 4 1019 (64 + (c 0 * p.1 + c 1 * p.2.1 + c 2 * p.2.2 + 2 ^ 23) / 2 ^ 24)
  let r := p0.1 + p1.1
  let g := p0.2.1 + p1.2.1
  let b := p0.2.2 + p1.2.2
  let cb := clampI 4 1019 (512 + (-c 3 * r - c 4 * g + c 5 * b + 2 ^ 24) / 2 ^ 25)
  let cr := clampI 4 1019 (512 + (c 6 * r - c 7 * g - c 8 * b + 2 ^ 24) / 2 ^ 25)
  ((y p0 + cb * 1024).toNat, (y p1 + cr * 1024).toNat)

/-- The captured line `y` of the output: crop, decimation, conversion (R360, R361). -/
def captureLine (k : Capture) (coefs : List Int) (curve : Nat → Nat) (rows : Nat → List Rgb) (y : Nat) : List Byte :=
  let lines := (List.range (2 ^ k.v)).map fun j => rows (k.y0 + y * 2 ^ k.v + j)
  let px := fun (x : Nat) =>
    let l := lines.flatMap fun r => (r.drop (k.x0 + x * 2 ^ k.h)).take (2 ^ k.h)
    let m := fun (c : Nat) => curveAt curve (rdivN ((l.map fun p => p.get c).sum) (2 ^ (k.h + k.v)))
    (m 0, m 1, m 2)
  (List.range (k.outW / 2)).flatMap fun m =>
    let w := capturePair coefs (px (2 * m)) (px (2 * m + 1))
    leBytes w.1 4 ++ leBytes w.2 4

/-- The stride of a YC422 buffer (R360, R368). -/
abbrev ycStride (w : Nat) : Nat := cdiv (w * 4) 64 * 64

/-- The captured phase raster is written into a proxy source buffer (R360). -/
def State.writeCapture (e buffer : Nat) (s : State) : State :=
  let k := s.capture e
  let cv := s.vcp e P.VC_CAP_CANVAS
  let curve := captureEntry (s.vcp e P.VC_CAP_XFER) (s.vcp e P.VC_CAP_WHITE) (s.cvp cv P.OC_WHITE_NITS 0)
  let rows := fun (y : Nat) => SMap.get (fun _ => []) (s.canvas cv).rows y
  (List.range k.outH).foldl (init := s) fun t y =>
    t.devWrite (buffer + y * ycStride k.outW) (captureLine k (captureCoefs (s.vcp e P.VC_CAP_MATRIX == 1)) curve rows y) 32

/-! ### Buffers and the claim (R356 to R358, R368) -/

/-- Packed form of a picture that layers read: address and stride. -/
abbrev packPicture (addr stride : Nat) : Nat := addr + stride * 2 ^ 64

/-- Some canvas reads the buffer in its show period (R193). -/
def State.pictureSelected (s : State) (addr : Nat) : Bool := s.cv.cvs.any fun e => e.2.picture.any fun p => p.2 != 0 && (p.2 - 1) % 2 ^ 64 == addr

/-- The newest decoded picture of an engine whose frame done has been posted (R193, R368), packed. -/
def State.newestPicture (s : State) (e : Nat) : Option Nat := (s.engine e).newest.map fun p => packPicture p.2 (ycStride (s.engine e).width)

/-- The buffers of released streams that no layer selects are freed (R368). -/
def State.codecFree (s : State) : State :=
  (List.range 2).foldl (init := s) fun t e =>
    let gone := (t.engine e).freeing.filter fun a => !t.pictureSelected a
    (gone.foldl (fun u a => u.freeBuffer a) t).modEngine e fun x => { x with freeing := x.freeing.filter fun a => !gone.contains a }

/-- `n` buffers of `bytes` each in carve-out 3, or the code with which the first one fails. -/
def State.codecAlloc (e bytes : Nat) : Nat → State → State × List Nat × Option Nat
  | 0, s => (s, [], none)
  | n + 1, s => match s.allocBuffer 3 bytes (.codec e n) with
    | (_, .fail c) => (s, [], some c)
    | (t, .base a) =>
      let r := State.codecAlloc e bytes n t
      match r.2.2 with
      | some c => (s, [], some c)
      | none => (r.1, a :: r.2.1, none)

/-- The bytes of the input ring of DECODE_HOST (R367). -/
abbrev ringBytes : Nat := 0x4000000

/-- VC_INPUT_FREE follows the ring. -/
def State.inputReport (e : Nat) (s : State) : State :=
  s.setP (P.vc e P.VC_INPUT_FREE) 0 (if s.vcp e P.VC_MODE = 2 then ringBytes - (s.engine e).input.length else 0)

/-- The engine is released: commands that wait complete, its buffers are freed when no layer selects them (R356 to R358, R368). -/
def State.releaseEngine (e : Nat) (s : State) : State :=
  let x := s.engine e
  let reason := (x.closing.map Prod.fst).getD 1
  let mine := (s.dram.buffers.filter fun b => match b.owner with | .codec k _ => k == e && !x.freeing.contains b.base | _ => false).map fun b => b.base
  let s1 := (s.setVcState e 0 reason).modEngine e fun _ =>
    { records := x.records, freeing := x.freeing ++ mine, dropped := x.dropped }
  let s2 := (((s1.setP (P.vc e P.VC_HOLDER) 0 255).setP (P.vc e P.VC_MODE) 0 0).codecReport e).inputReport e
  let s3 := x.feeds.foldl (fun t f => t.finalReply f.ticket cABORTED 0 0) (x.keys.foldl (fun t k => t.finalReply k cABORTED 0 0) s2)
  let s4 := ((x.closing.map Prod.snd).getD []).foldl (fun t k => t.finalReply k cOK 0 0) s3
  if (List.range 16).any fun c => s4.cvState c == 2 then s4 else s4.codecFree

/-- The stream is to end at the next picture boundary: at once where no picture can be in progress (R357). -/
def State.closeEngine (e reason : Nat) (tickets : List Nat) (s : State) : State :=
  let s1 := s.modEngine e fun x => { x with closing := some (match x.closing with
    | some c => (c.1, c.2 ++ tickets)
    | none => (reason, tickets)) }
  if s.vcState e = 2 ∨ (s.engine e).work.isSome then s1 else s1.releaseEngine e

/-- The closure of a window releases the engines it holds (R53, R357). -/
def State.closeCodec (w : Nat) (s : State) : State :=
  (List.range 2).foldl (fun t e => if t.vcState e ≠ 0 ∧ t.vcp e P.VC_HOLDER = w then t.closeEngine e 2 [] else t) s

/-- VC_OPEN's operands lie in their ranges: engine, mode, and for mode 3 the bin and recorded engine. -/
def vcOpenOperands (c : Cmd) : Bool :=
  decide (c.f 0 8 < 2) && decide (1 ≤ c.f 8 8 ∧ c.f 8 8 ≤ 3) && (c.f 8 8 != 3 || decide (c.f 16 8 < 64 ∧ c.f 24 8 < 2))

def vcOpenSpec : OpSpec := { op := 0x0801, len := fun c => c.opLen == 12, bus := fun _ => false }

/-- VC_OPEN from step 7 on (R356, R357, R367). -/
def vcOpenBody : Body := fun k s =>
  let e := k.c.f 0 8
  let mode := k.c.f 8 8
  if !vcOpenOperands k.c then (s, .err cBAD_PARAM)
  else if !s.preview.streamOk e mode then (s, .err cBAD_PARAM)
  else if mode = 3 ∧ (s.bin? (k.c.f 16 8)).isNone then (s, .err cNOT_PERMITTED)
  else if s.vcState e ≠ 0 then (s, .err cBUSY)
  else
    let cap := s.preview.capture e
    let r : State × List Nat × Option Nat :=
      if mode = 1 then s.codecAlloc e (ycStride cap.outW * cap.outH) 2 else if mode = 2 then s.codecAlloc e ringBytes 1 else (s, [], none)
    match r.2.2 with
    | some code => (s, .err code)
    | none =>
      let s1 := r.1.modEngine e fun x =>
        { bin := k.c.f 16 8, recEngine := k.c.f 24 8, clip := if mode = 3 then k.c.f 32 32 else 0, tag := k.c.f 64 32, bufs := r.2.1
          width := cap.outW, height := cap.outH, freeing := x.freeing, dropped := x.dropped }
      let s2 := (s1.setP (P.vc e P.VC_HOLDER) 0 k.c.win).setP (P.vc e P.VC_MODE) 0 mode
      let s3 := (s2.codecReport e).inputReport e
      let cv := s.vcp e P.VC_CAP_CANVAS
      let run := mode = 1 ∧ s.cvState cv = 2 ∧ (s.canvas cv).held = false
      (s3.setVcState e (if run then 2 else 1) 0, .done cOK 4 (s3.vcp e P.VC_BW_RESERVED))

/-- VC_OPEN. -/
def execVcOpen (c : Cmd) (s : State) : Result := guarded (.vcOpen c) s (submit vcOpenSpec vcOpenBody c s)

/-! Completion codes of Table 12-8. -/
abbrev cWRONG_MODE : Nat := 0x60
abbrev cNOT_HOLDER : Nat := 0x61
abbrev cPICTURE_EXPIRED : Nat := 0x62
abbrev cSTREAM_END : Nat := 0x63

/-- The window holds the engine. -/
def State.holds (s : State) (w e : Nat) : Bool := s.vcState e != 0 && s.vcp e P.VC_HOLDER == w

def vcCloseSpec : OpSpec := { op := 0x0802, len := fun c => c.opLen == 1, bus := fun _ => false }

/-- VC_CLOSE from step 7 on (R356, R357). -/
def vcCloseBody : Body := fun k s =>
  let e := k.c.f 0 8
  if 2 ≤ e then (s, .err cBAD_PARAM)
  else if !s.holds k.c.win e && !(k.c.win == 0 && s.vcState e != 0) then (s, .err cNOT_HOLDER)
  else if k.c.immediate then (s.closeEngine e 1 [], .ok)
  else (s.closeEngine e 1 [k.tk], .wait)

/-- VC_CLOSE. -/
def execVcClose (c : Cmd) (s : State) : Result := guarded (.vcClose c) s (submit vcCloseSpec vcCloseBody c s)

def keyNowSpec : OpSpec := { op := 0x0803, len := fun c => c.opLen == 1, bus := fun _ => false }

/-- KEY_NOW from step 7 on (R362). -/
def keyNowBody : Body := fun k s =>
  let e := k.c.f 0 8
  if 2 ≤ e then (s, .err cBAD_PARAM)
  else if !s.holds k.c.win e then (s, .err cNOT_HOLDER)
  else if s.vcp e P.VC_MODE ≠ 1 then (s, .err cWRONG_MODE)
  else
    let im := k.c.immediate
    (s.modEngine e fun x => { x with idr := 1 :: x.idr, keys := if im then x.keys else x.keys ++ [k.tk] }, if im then .ok else .wait)

/-- KEY_NOW. -/
def execKeyNow (c : Cmd) (s : State) : Result := guarded (.keyNow c) s (submit keyNowSpec keyNowBody c s)

/-- The chunk of a feed as it stands when it is copied: from host memory as taken, or from its source buffer (R367). -/
def State.feedBytes (s : State) (f : Feed) : List Byte := match f.source with
  | some (a, n) => s.devRead a n
  | none => f.bytes

/-- Feeds are copied into the ring in order while they fit (R367). -/
def State.takeFeeds (e : Nat) : Nat → State → State
  | 0, s => s
  | n + 1, s =>
    let x := s.engine e
    match x.feeds with
    | [] => s
    | f :: r =>
      let l := s.feedBytes f
      if ringBytes < x.input.length + l.length then s
      else State.takeFeeds e n
        (((s.modEngine e fun y => { y with feeds := r, input := y.input ++ l, ended := y.ended || f.fin }).inputReport e).finalReply f.ticket cOK 0 0)

def vcDecFeedSpec : OpSpec := { op := 0x0804, len := fun c => c.opLen == 16, rsvd := 0xFFFFFC00, bus := fun _ => false }

/-- VC_DEC_FEED from step 7 on (R367). -/
def vcDecFeedBody : Body := fun k s =>
  let c := k.c
  let e := c.f 0 8
  let n := c.f 32 32
  let a := c.f 64 64
  let fin := c.f 8 1 == 1
  if 2 ≤ e ∨ 0x1000000 < n ∨ (n = 0 ∧ !fin) then (s, .err cBAD_PARAM)
  else if !s.holds c.win e then (s, .err cNOT_HOLDER)
  else if s.vcp e P.VC_MODE ≠ 2 then (s, .err cWRONG_MODE)
  else if (s.engine e).ended || (s.engine e).feeds.any fun f => f.fin then (s, .err cSTREAM_END)
  else
    let take := fun (t : State) (f : Feed) => (State.takeFeeds e 1 (t.modEngine e fun x => { x with feeds := x.feeds ++ [f] }), Ans.wait)
    if c.f 9 1 = 1 then
      match s.hostBuffer a n with
      | none => if n = 0 then take s { ticket := k.tk, bytes := [], fin := fin, since := s.now } else (s, .err cNOT_MAPPED)
      | some b =>
        if b.carve ≠ 2 ∧ b.carve ≠ 3 then (s, .err cNOT_MAPPED)
        else if !b.allows c.win k.priv then (s, .err cNOT_PERMITTED)
        else
          let s := s.demandRead a n
          if (s.firstPoison a n).isSome then (s, .err cMEDIA_ERROR)
          else take s { ticket := k.tk, bytes := [], fin := fin, since := s.now, source := some (a, n) }
    else
      let l := s.hostRead a n
      if l.length < n then (s, .err cABORTED) else take s { ticket := k.tk, bytes := l, fin := fin, since := s.now }

/-- VC_DEC_FEED. -/
def execVcDecFeed (c : Cmd) (s : State) : Result := guarded (.vcDecFeed c) s (submit vcDecFeedSpec vcDecFeedBody c s)

/-- FEED_TIMEOUT (R367): the chunk that has waited longest completes with TIMEOUT, having copied nothing; those behind it may fit. -/
def execFeedTimeout (engine : Nat) (s : State) : Result :=
  guarded (.feedTimeout engine) s <|
    match (s.engine engine).feeds with
    | [] => s
    | f :: r =>
      let s1 := ((s.atLeast (f.since + 1000000000)).modEngine engine fun x => { x with feeds := r }).finalReply f.ticket cTIMEOUT 0 0
      State.takeFeeds engine r.length s1

/-! ### Picture records (R373) -/

/-- The damage map's bytes: bit *i* mod 8 of byte *i* div 8 is unit *i*. -/
def damageMap (l : List Nat) : List Byte := leBytes (l.foldl (fun m i => if i < 16384 then setBit m i else m) 0) 2048

/-- The 2,112 bytes of a picture record (Table 12-6). -/
def PicRecord.toBytes (r : PicRecord) : List Byte :=
  leBytes r.tag 4 ++ leBytes r.number 4 ++ leBytes r.poc 4 ++ leBytes r.picType 1 ++ leBytes r.flags 1 ++ leBytes r.firstClamped 2
    ++ leBytes r.buffer 8 ++ leBytes r.stride 4 ++ leBytes r.width 2 ++ leBytes r.height 2 ++ leBytes r.start 8 ++ leBytes r.done 8
    ++ leBytes r.bits 4 ++ leBytes r.budget 4 ++ leBytes r.qp 1 ++ leBytes r.phase 1 ++ leBytes r.skipped 2
    ++ leBytes r.damage.length 2 ++ leBytes (cdiv r.width 64) 2 ++ damageMap r.damage

/-- A completed picture's record is kept with the 15 newest before it. -/
def State.keepRecord (e : Nat) (r : PicRecord) (s : State) : State :=
  (s.modEngine e fun x => { x with records := (r :: x.records).take 16 }).bumpWrap (P.vc e P.VC_PICTURES) 0 1

def vcPictureReadSpec : OpSpec := { op := 0x0805, len := fun c => c.opLen == 20, rsvd := 0xFFFF0000, bus := fun _ => false }

/-- VC_PICTURE_READ from step 7 on (R373). -/
def vcPictureReadBody : Body := fun k s =>
  let c := k.c
  let e := c.f 0 8
  let sel := c.f 8 8
  let host := c.f 64 64
  let n := c.f 128 32
  if 2 ≤ e ∨ 2 ≤ sel ∨ host = 0 ∨ host % 64 ≠ 0 ∨ n < 64 ∨ 2112 < n ∨ n % 64 ≠ 0 then (s, .err cBAD_PARAM)
  else
    let l := (s.engine e).records
    match (if sel = 0 then l.head? else l.find? fun r => r.number == c.f 32 32) with
    | none => (s, .err cPICTURE_EXPIRED)
    | some r =>
      let w := s.hostWrite host (r.toBytes.take n)
      if w.2 then (w.1, .done cOK 8 (r.number + at' 32 n)) else (w.1, .err cABORTED)

/-- VC_PICTURE_READ. -/
def execVcPictureRead (c : Cmd) (s : State) : Result := guarded (.vcPictureRead c) s (submit vcPictureReadSpec vcPictureReadBody c s)

/-! ### Dropped pictures (R37, R359) -/

/-- A picture of the stream is dropped. -/
def State.dropPicture (e : Nat) (s : State) : State :=
  (s.modEngine e fun x => { x with work := none, skipped := x.skipped + 1, dropped := x.dropped + 1, idr := (x.work.bind fun w => w.idr).toList ++ x.idr }).bumpSat
    (P.vc e P.VC_SKIPPED) 0 1

/-- A decoder paced by VC_DEC_INTERVAL counts its intervals from the first master period boundary (R359). -/
def State.startPacing (e : Nat) (s : State) : State :=
  if 2 ≤ s.vcp e P.VC_MODE ∧ s.vcp e P.VC_DEC_PACE = 255 ∧ (s.engine e).pace = none then s.modEngine e fun x => { x with pace := some s.now } else s

/-- At the end of each master period in which pictures were dropped, one DEADLINE_DROP is posted (R359). -/
def State.codecPeriod (s : State) : State :=
  (List.range 2).foldl (init := (List.range 2).foldl (fun t e => t.startPacing e) s) fun t e =>
    let n := (t.engine e).dropped
    if n = 0 then t else (t.deadlineDrop 5 0xB e n).modEngine e fun x => { x with dropped := 0 }

/-- The canvas that an engine captures or is paced by stops: no picture can start (Table 12-2). A stream that was to end ends now, unless a
picture is in progress. -/
def State.codecCanvasStopped (c : Nat) (s : State) : State :=
  (List.range 2).foldl (init := s) fun t e =>
    let uses := if t.vcp e P.VC_MODE = 1 then t.vcp e P.VC_CAP_CANVAS == c else t.vcp e P.VC_MODE != 0 && t.vcp e P.VC_DEC_PACE == c
    if uses && t.vcState e == 2 then
      let t1 := t.setVcState e 1 4
      if (t1.engine e).closing.isSome && (t1.engine e).work.isNone then t1.releaseEngine e else t1
    else t

/-- A show period of a canvas begins: its encoders run, and count it; every VC_DIV-th one is a pacing boundary of its decoders (R359). -/
def State.codecShowPeriod (c : Nat) (s : State) : State :=
  (List.range 2).foldl (init := s.codecFree) fun t e =>
    if t.vcp e P.VC_MODE = 1 ∧ t.vcp e P.VC_CAP_CANVAS = c then
      if t.vcState e = 1 ∧ t.encodeOk e then (t.setVcState e 2 0).modEngine e fun x => { x with period := 1 }
      else if t.vcState e = 2 then t.modEngine e fun x => { x with period := x.period + 1 } else t
    else if 2 ≤ t.vcp e P.VC_MODE ∧ t.vcp e P.VC_DEC_PACE = c then
      t.modEngine e fun x => { x with period := x.period + 1, paceDue := x.paceDue || x.period % max (t.vcp e P.VC_DIV) 1 == 0 }
    else t

end Sys2Proof.Machine
end

