-- ==== Sys2Proof/Machine/Windows.lean ====
section
/-! DEFINITION. Client windows: registers, doorbells, opening and closing, the event ring's host side, and the generic commands on them
(R48 to R65, R76 to R80, R466, R468). -/

namespace Sys2Proof.Machine

/-! ### Registers (R50, R51, R55, R76) -/

/-- DOORBELL (R55): each slot named is rung, or its DOORBELL_ERR bit set. -/
def State.ringSlots (win value : Nat) (s : State) : State :=
  (List.range 16).foldl (init := s) fun t k =>
    if !value.testBit k then t
    else if t.slotFree win k then t.ring' win k false
    else t.doorbellError win k

/-- DOORBELL: Aipex takes the slots at its next tick. -/
def execDoorbell (page : HostPage) (value : Nat) (s : State) : Result :=
  guarded (.doorbell page value) s (if s.hostTakes page.fn page.win then s.ringSlots page.win value else s)

/-- A write of EVENT_TAIL (R76): taken if it lies in the unconsumed span. -/
def State.writeTail (win value : Nat) (s : State) : State :=
  let w := s.win win
  let n := 2 ^ w.sizeLog2
  if value < n ∧ (value + n - w.tail) % n ≤ w.count then
    let s1 := s.setWin win { w with tail := value }
    let s2 := if s1.eventPending win == s.eventPending win then s1 else s1.advanceWin win
    s2.reviewEventQuota win
  else s.setWin win { w with tailRejects := sat32 (w.tailRejects + 1) }

/-- EVENT_TAIL. -/
def execEventTailWrite (page : HostPage) (value : Nat) (s : State) : Result :=
  guarded (.eventTailWrite page value) s (if s.hostTakes page.fn page.win then s.writeTail page.win value else s)

/-- A 32-bit write to a register of Table 2-3 or a doorbell of Table 11-1. -/
def State.writeReg (win offset v : Nat) (s : State) : State :=
  let w := s.win win
  let closed := s.winState win = .closed
  if offset = 0x2000 then s.ringSlots win v
  else if offset = 0x2008 then s.setWin win { w with ready := (List.range 16).foldl (fun m k => if v.testBit k then clrBit m k else m) w.ready }
  else if offset = 0x200C then s.setWin win { w with derr := (List.range 16).foldl (fun m k => if v.testBit k then clrBit m k else m) w.derr }
  else if offset = 0x2018 then (if closed then s.setWin win { w with base := w.base / 0x100000000 * 0x100000000 + v / 32 * 32 } else s)
  else if offset = 0x201C then (if closed then s.setWin win { w with base := w.base % 0x100000000 + v * 0x100000000 } else s)
  else if offset = 0x2020 then (if closed then s.setWin win { w with sizeLog2 := v % 32 } else s)
  else if offset = 0x2028 then s.writeTail win (v % 0x10000)
  else if 0x3000 ≤ offset ∧ offset < 0x3080 then
    if offset % 8 = 0 then s.writeSqTail win ((offset - 0x3000) / 8) (v % 0x10000) [] else s.writeCqHead win ((offset - 0x3000) / 8) (v % 0x10000)
  else s

/-- The bytes of a write to the command slots, each dropped if its byte enable is off or its slot is busy (R50, R55). -/
def State.writeSlots (win : Nat) : Nat → List (Option Byte) → State → State
  | _, [], s => s
  | o, none :: r, s => s.writeSlots win (o + 1) r
  | o, some b :: r, s =>
    State.writeSlots win (o + 1) r (if o < 0x1000 then s.writeSlot win (o / 256) (o % 256) [b] else s)

/-- REGISTER_WRITE (R49 to R51, R55): `data` are the bytes written from `offset` up, `none` where a byte is not enabled. Command slots take any size
and byte enables; the registers only naturally aligned whole 32-bit and 64-bit accesses; the rest of a window ignores writes. -/
def execRegisterWrite (fn win offset : Nat) (data : List (Option Byte)) (s : State) : Result :=
  guarded (.registerWrite fn win offset data) s <|
    if !s.hostTakes fn win then s
    else if offset < 0x1000 then s.writeSlots win offset data
    else if 0x2000 ≤ offset ∧ offset < 0x4000 ∧ data.all Option.isSome = true then
      let v := ofLE (data.filterMap id)
      if data.length = 4 ∧ offset % 4 = 0 then s.writeReg win offset v
      else if data.length = 8 ∧ offset % 8 = 0 then (s.writeReg win offset (v % 0x100000000)).writeReg win (offset + 4) (v / 0x100000000)
      else s
    else s

/-! ### Reads (R49 to R51, R56, R60) -/

/-- The 16-byte header of a reply and its results, as they stand in its record (Table 2-5). -/
def Reply.bytes (r : Reply) : List Byte :=
  leBytes r.status 4 ++ leBytes r.tag 1 ++ leBytes (b2n r.final) 1 ++ leBytes r.len 2 ++ leBytes r.seq 4 ++ leBytes r.opcode 2 ++ leBytes 0 2
    ++ leBytes r.result 240

/-- WINDOW_STATE (Table 2-3). -/
def WinState.code : WinState → Nat
  | .closed => 0
  | .opened => 1
  | .recovery => 2

/-- A 32-bit register of Table 2-3. -/
def State.readReg (s : State) (win offset : Nat) : Nat :=
  let w := s.win win
  if offset = 0x2004 then w.busy
  else if offset = 0x2008 then w.ready
  else if offset = 0x200C then w.derr
  else if offset = 0x2010 then s.statusWord win cOK
  else if offset = 0x2014 then (s.winState win).code + at' 8 (b2n s.ctl.fwReady) + at' 9 (b2n (win == 0)) + at' 16 win
  else if offset = 0x2018 then w.base % 0x100000000
  else if offset = 0x201C then w.base / 0x100000000
  else if offset = 0x2020 then w.sizeLog2
  else if offset = 0x2024 then w.head
  else if offset = 0x2028 then w.tail
  else if offset = 0x202C then w.lost
  else if offset = 0x2030 then 0x00040001
  else if offset = 0x2034 then w.tailRejects
  else 0

/-- What function `fn` reads from `n` bytes at `offset` of a window: slots and replies at any size, registers by naturally aligned 32-bit and 64-bit
accesses, and 0 elsewhere. A read changes nothing, so the model has no command for it. -/
def State.readWindow (s : State) (fn win offset n : Nat) : Nat :=
  if !s.hostTakes fn win then 0
  else if offset + n ≤ 0x1000 then ofLE (takeBytes zeroByte (s.win win).slots offset n)
  else if 0x1000 ≤ offset ∧ offset + n ≤ 0x2000 then
    ofLE ((span offset (offset + n)).map fun a => (SMap.get replyDef (s.win win).replies ((a - 0x1000) / 256)).bytes.getD (a % 256) 0)
  else if 0x2000 ≤ offset ∧ offset < 0x4000 then
    if n = 4 ∧ offset % 4 = 0 then s.readReg win offset
    else if n = 8 ∧ offset % 8 = 0 then s.readReg win offset + 0x100000000 * s.readReg win (offset + 4)
    else 0
  else 0

/-- OVERFLOW (R80): the end of an Aipex tick with pending losses and room below the limit. -/
def execOverflow (win : Nat) (s : State) : Result := guarded (.overflow win) s (s.overflow win)

/-- DEFER_TIMEOUT (R58, R405): a rung slot not taken within DEFER_TIMEOUT_US gets DEFERRED with FINAL = 0; it stays pending. -/
def execDeferTimeout (win slot : Nat) (s : State) : Result :=
  guarded (.deferTimeout win slot) s <|
    if (s.win win).rung.testBit slot then
      let oc := s.slotCmd win slot
      s.writeReply win slot (s.replyFor { ticket := 0, opcode := oc.1, cmd := oc.2, priv := false } false cDEFERRED 0 0)
    else s

/-- POISONED_TLP (R48, R468): the write is dropped and logged with fault code 0x0002, its window and its BAR0 offset. -/
def execPoisonedTlp (offset : Nat) (s : State) : Result :=
  guarded (.poisonedTlp offset) s (s.logFault 0xE (offset / 0x10000 % 64) 0x0002 offset)

/-! ### Opening and closing (R52, R53, R79, R466) -/

/-- A client window as a partner (Table 2-24), and the function it reports (R49, R466). -/
abbrev windowId (w : Nat) : PartnerId := { kind := 5, pos := w }

/-- The default event mask (R79). -/
def defaultMask (w : Nat) : Nat := if w = 0 then 2 ^ 256 - 1 else 0xFE

/-- The view of a window follows its EVENT_PENDING (R59). -/
def State.notePending (was : Bool) (w : Nat) (s : State) : State := if s.eventPending w == was then s else s.advanceWin w

/-- A window closes (R53): the slots that are busy, but for the one whose ticket is `keep`, complete with ABORTED; staging copies, codec claims
and clip queues go; the event ring stops. `toReset`: its registers, slots and replies return to their reset values. -/
def State.closeWindow (w keep : Nat) (toReset : Bool) (s : State) : State :=
  let was := s.eventPending w
  let mine := (s.ctl.flights.filter fun f => f.cmd.win == w && f.ticket != keep).map fun f => f.ticket
  let s1 := mine.foldl (fun t k => t.writeFinal k cABORTED 0 0) s
  let s2 := (List.range 16).foldl (init := s1) fun t k =>
    if !(t.win w).rung.testBit k then t
    else
      let oc := t.slotCmd w k
      t.writeReply w k (t.replyFor { ticket := 0, opcode := oc.1, cmd := oc.2, priv := false } true cABORTED 0 0)
  let opened := (s2.win w).state = .opened
  let x := s2.win w
  let s3 := s2.setWin w { x with state := .closed, slots := [], rung := 0, pendLoss := 0 }
  let s4 : State := { s3 with ctl := { s3.ctl with staging := s3.ctl.staging.filter fun g => g.owner != w } }
  let s5 := (s4.closeQueues w).closeCodec w
  let s6 := if toReset then s5.setWin w {} else s5
  let s7 := if opened then s6.partnerDeparts (windowId w) else s6
  (s7.notePending was w).reviewEventQuota w

/-- HOST_INTERFACE_RESET (R53): PERST_N, hot reset and an FLR of the PF close every window and disable every VF; an FLR of VF *n* closes Wn. -/
def execHostInterfaceReset (r : HostReset) (s : State) : Result :=
  guarded (.hostInterfaceReset r) s <|
    match r with
    | .flrVf n => s.closeWindow n 0 true
    | _ =>
      let s1 := (List.range 64).foldl (fun t w => t.closeWindow w 0 true) s
      let s2 : State := { s1 with ctl := { s1.ctl with vfEnable := false, numVfs := 0 } }
      if r = .perst then { s2 with ctl := { s2.ctl with perstN := false } } else s2

/-- VF_ENABLE_CHANGE (R49, R53): the windows of functions that are disabled close. -/
def execVfEnableChange (enable : Bool) (numVfs : Nat) (s : State) : Result :=
  guarded (.vfEnableChange enable numVfs) s <|
    let n := min numVfs 63
    let keep := if enable then n else 0
    let s1 := (List.range 64).foldl (init := s) fun t w => if s.windowFunction w ≠ 0 ∧ keep < w then t.closeWindow w 0 true else t
    { s1 with ctl := { s1.ctl with vfEnable := enable, numVfs := n } }

/-! ### Generic commands (Table 2-9) -/

def pingSpec : OpSpec := .fixed 0x0001 0

/-- PING (R60). -/
def pingBody : Body := fun _ s => (s, .ok)

/-- PING. -/
def execPing (c : Cmd) (s : State) : Result := guarded (.ping c) s (submit pingSpec pingBody c s)

def fenceSpec : OpSpec := .fixed 0x0002 0

/-- FENCE (R34): it starts once every earlier command of its window has completed, and so completes at once. -/
def fenceBody : Body := fun _ s => (s, .ok)

/-- FENCE. -/
def execFence (c : Cmd) (s : State) : Result := guarded (.fence c) s (submit fenceSpec fenceBody c s)

def identifySpec : OpSpec := .fixed 0x0003 0

/-- IDENTIFY (Table 2-10). -/
def identifyBody : Body := fun k s =>
  (s, .done cOK 64 (0x1024 + at' 32 0xB1 + at' 64 (s.getP P.FW_RELEASE 0) + at' 96 0x00040001 + at' 128 Config.serial + at' 192 k.c.win
    + at' 200 (if s.ctl.vfEnable then s.ctl.numVfs else 0) + at' 208 (s.getP P.FW_ACTIVE_SLOT 0)))

/-- IDENTIFY. -/
def execIdentify (c : Cmd) (s : State) : Result := guarded (.identify c) s (submit identifySpec identifyBody c s)

def ackBarkerSpec : OpSpec := { op := 0x0004, len := fun c => c.opLen == 8, rsvd := 0xFFFFFF00 }

/-- The sequence of the newest fault log entry. -/
def State.newestFault (s : State) : Nat := (s.ctl.faultNext + 0xFFFFFFFF) % 0x100000000

/-- ACK_BARKER (R59): latched bits clear in this view; FAULT only with the newest sequence. -/
def ackBarkerBody : Body := fun k s =>
  let v := s.view k.c.win
  let x : View := { v with
    fault := v.fault && !(k.c.f 2 1 == 1 && k.c.f 32 32 == s.newestFault)
    config := v.config && k.c.f 4 1 == 0
    fwNotice := v.fwNotice && k.c.f 7 1 == 0 }
  (s.modView (fun _ => if x = v then v else View.advance s.now x) k.c.win, .ok)

/-- ACK_BARKER. -/
def execAckBarker (c : Cmd) (s : State) : Result := guarded (.ackBarker c) s (submit ackBarkerSpec ackBarkerBody c s)

/-- The event ring registers of a window are valid (R52). -/
def Window.ringValid (w : Window) : Bool :=
  decide (6 ≤ w.sizeLog2 ∧ w.sizeLog2 ≤ 16) && w.base != 0 && decide (w.base + 32 * 2 ^ w.sizeLog2 ≤ 2 ^ 64)

def windowOpenSpec : OpSpec := { op := 0x0005, len := fun c => c.opLen == 0, bus := fun _ => false }

/-- WINDOW_OPEN (R52, R45). -/
def windowOpenBody : Body := fun k s =>
  let n := k.c.win
  let w := s.win n
  if w.state = .opened then (s, .err cNOT_PERMITTED)
  else if !w.ringValid then (s, .err cBAD_PARAM)
  else
    let s1 := s.setWin n { w with state := .opened, head := 0, tail := 0, written := 0, lost := 0, tailRejects := 0, mask := defaultMask n
                                  pendLoss := 0, firstLoss := 0 }
    (((s1.notePending (s.eventPending n) n).reviewEventQuota n).partnerArrives (windowId n) (srcOf 0xE n) (n + at' 8 (s.windowFunction n)), .ok)

/-- WINDOW_OPEN. -/
def execWindowOpen (c : Cmd) (s : State) : Result := guarded (.windowOpen c) s (submit windowOpenSpec windowOpenBody c s)

def windowCloseSpec : OpSpec := { op := 0x0006, len := fun c => c.opLen == 0, bus := fun _ => false }

/-- WINDOW_CLOSE (R53): it completes after the other slots. -/
def windowCloseBody : Body := fun k s => (s.closeWindow k.c.win k.tk false, .ok)

/-- WINDOW_CLOSE. -/
def execWindowClose (c : Cmd) (s : State) : Result := guarded (.windowClose c) s (submit windowCloseSpec windowCloseBody c s)

def eventMaskSetSpec : OpSpec := { op := 0x0007, len := fun c => c.opLen == 32, bus := fun _ => false }

/-- EVENT_MASK_SET (R79): the OVERFLOW bit is ignored. -/
def eventMaskSetBody : Body := fun k s => (s.setWin k.c.win { s.win k.c.win with mask := setBit (k.c.f 0 256) 1 }, .ok)

/-- EVENT_MASK_SET. -/
def execEventMaskSet (c : Cmd) (s : State) : Result := guarded (.eventMaskSet c) s (submit eventMaskSetSpec eventMaskSetBody c s)

def eventMaskGetSpec : OpSpec := { op := 0x0008, len := fun c => c.opLen == 0, bus := fun _ => false }

/-- EVENT_MASK_GET (R79): the OVERFLOW bit reads 1. -/
def eventMaskGetBody : Body := fun k s => (s, .done cOK 32 (setBit (s.win k.c.win).mask 1))

/-- EVENT_MASK_GET. -/
def execEventMaskGet (c : Cmd) (s : State) : Result := guarded (.eventMaskGet c) s (submit eventMaskGetSpec eventMaskGetBody c s)

/-- A fault log entry's 32 bytes (Table 2-25). -/
def FaultEntry.bytes (e : FaultEntry) : List Byte :=
  leBytes e.seq 4 ++ leBytes 0 4 ++ leBytes e.time 8 ++ leBytes (e.cls * 4096 + e.idx) 2 ++ leBytes e.code 2 ++ leBytes 0 4 ++ leBytes e.detail 8

def faultLogReadSpec : OpSpec := .fixed 0x0009 4

/-- FAULT_LOG_READ (R468): up to 7 entries from the first kept whose sequence is at least the one named. -/
def faultLogReadBody : Body := fun k s =>
  let l := (s.ctl.faultLog.dropWhile fun e => decide (e.seq < k.c.f 0 32)).take 7
  (s, .done cOK (32 * l.length) (ofLE (l.flatMap fun e => e.bytes)))

/-- FAULT_LOG_READ. -/
def execFaultLogRead (c : Cmd) (s : State) : Result := guarded (.faultLogRead c) s (submit faultLogReadSpec faultLogReadBody c s)

end Sys2Proof.Machine
end

