-- ==== Sys2Proof/Machine/Applied.lean ====
section
/-! DEFINITION. What takes effect with a parameter's new value, where each parameter's boundary lies, and how boundaries are reached
(R36, R67 to R69, R74). -/

namespace Sys2Proof.Machine

/-! ### The effect of a value that comes into force -/

/-- New thresholds are compared with the readings at once: each crossing and limit event may follow (R59, R409, R410). -/
def State.thresholdsChanged (s : State) : State :=
  (List.range 5).foldl (init := s) fun t n =>
    if (t.getP P.HK_READING n).testBit 16 || (t.diode n).faulty then [0, 1, 2].foldl (fun u i => u.crossing n i) t else t

/-- A parameter of the device, the memory, the recorder, housekeeping or the management bus. -/
def State.deviceApplied (id idx old v : Nat) (s : State) : State :=
  if id = P.EVENT_QUOTA then s.reviewEventQuota idx
  else if id = P.TRIG_ARM ∧ v = 1 then { s with ring := { s.ring with armedAt := s.now } }
  else if id = P.BW_RESERVABLE_PCT then s.bwReport
  else if id = P.RM_SOURCE ∨ id = P.RM_REF_RATE_NUM ∨ id = P.RM_REF_RATE_DEN then
    let s1 := s.applySource
    let s2 : State := if s1.ring.period = s.ring.period ∧ s1.getP P.RM_STATE 0 ≠ 0 then s1
      else
        let n := s1.ring.boundary + s1.ring.period
        State.moveBoundary s1.ring.next n s.ring.period { s1 with ring := { s1.ring with next := n } }
    (List.range 16).foldl (init := s2) fun t c =>
      if t.cvState c != 0 && (t.rasterCheck c).isSome then ((if t.cvState c = 2 then t.endShow c else t).enterCanvas c 0 3).codecCanvasStopped c
      else t.canvasReport c
  else if id = P.MEM_CARVE_QUOTA then
    (List.range 8).foldl (fun t p => if (t.pipe p).tnrStarved then t.acquireRef p else t) (s.moveQuota P.MEM_CARVE_USED 2 idx old v)
  else if id = P.MEM_WINDOW_QUOTA then s.moveQuota P.MEM_WINDOW_USED 3 idx old v
  else if id = P.FR_BIN_QUOTA then s.applyBinQuota idx
  else if id = P.CXL_PATROL_HOURS then (List.range 32).foldl (fun t n => t.setPatrol n) s
  else if id = P.TH_STEP_MAX ∧ v < s.getP P.TH_STEP 0 ∧ s.hk.trip = false then s.setStep v
  else if id = P.TH_WARN ∨ id = P.TH_THROTTLE ∨ id = P.TH_SHUTDOWN ∨ id = P.TH_HYST then s.thresholdsChanged
  else if (id = P.HK_LIMIT_LO ∨ id = P.HK_LIMIT_HI) ∧ 5 ≤ idx then
    (if (s.getP P.HK_READING idx).testBit 16 then s.supplyConversion idx (s.getP P.HK_READING idx % 0x10000) else s)
  else if id = P.HK_MIN ∨ id = P.HK_MAX then s.resetRange id idx
  else s

/-- A pipeline's parameter (R123, R132, R148). -/
def State.pipelineApplied (p id0 old v : Nat) (s : State) : State :=
  if id0 = P.PL_STAGE_EN then
    if v.testBit 3 && !old.testBit 3 then (s.invalidateRef p 3).acquireRef p
    else if old.testBit 3 && !v.testBit 3 then s.releaseRef p else s
  else if id0 = P.PL_SID_GATE then
    s.modPipe p fun x => { x with gateFrames := 0, gateExpired := false, gateReleased := if v = 0 then old else 0 }
  else if id0 = P.BL_LEVEL ∨ id0 = P.BL_MODE then s.restartBlack p
  else if id0 = P.TNR_RESET ∧ v = 1 then
    let s1 := (s.setP (P.pl p P.TNR_RESET) 0 0).invalidateRef p 2
    if (s1.pipe p).tnrStarved then s1.acquireRef p else s1
  else if id0 = P.SC_CROP ∨ id0 = P.SC_OUT_SIZE ∨ id0 = P.SC_KERNEL_H ∨ id0 = P.SC_KERNEL_V then s.reportSteps p
  else s

/-- The tone curve that OT_AUTO generates becomes the active OUTPUT_TONE table (R166). -/
def State.generateTone (c : Nat) (s : State) : State :=
  let l := (List.range 4096).flatMap fun k => leBytes (toneEntry (s.cvp c P.OC_WHITE_NITS 0) (s.cvp c P.OC_PEAK_NITS 0) (s.cvp c P.OC_KNEE 0) k) 4
  { s with ctl := { s.ctl with tables := putBytes tableDefault s.ctl.tables (tableBase 0x0008 c) l } }

/-- A canvas's parameter (R166, R183, R198). -/
def State.canvasApplied (c id0 idx old v : Nat) (s : State) : State :=
  let s1 := s.canvasReport c
  if (id0 = P.OT_AUTO ∨ id0 = P.OC_WHITE_NITS ∨ id0 = P.OC_PEAK_NITS ∨ id0 = P.OC_KNEE) ∧ s.cvp c P.OT_AUTO 0 = 1 then s1.generateTone c
  else if id0 = P.LI_PIPELINE ∧ s.cvp c P.LI_MODE idx ≠ 0 then s1.awaitInput c idx
  else if id0 = P.CV_ENABLE ∧ old = 0 ∧ v = 1 ∧ s.cvState c = 0 then s1.armCanvas c s.ring.boundary 0
  else s1

/-- The capture and coding parameters whose change starts an IDR picture (Table 12-4, reason 4). -/
def idrParams : List Nat :=
  [P.VC_DIV, P.VC_CAP_RECT, P.VC_CAP_DECIM, P.VC_CAP_XFER, P.VC_CAP_WHITE, P.VC_CAP_MATRIX, P.VC_ENC_PROFILE, P.VC_REFS]

/-- A codec engine's parameter (R359, R362, R376). -/
def State.codecApplied (e id0 : Nat) (s : State) : State :=
  if s.vcState e = 0 then s
  else
    let m := s.vcp e P.VC_MODE
    let s1 := if id0 = P.VC_DEC_PACE ∧ m ≠ 1 then (s.codecReport e).modEngine e fun x => { x with period := 0, pace := none, paceDue := false } else s.codecReport e
    let s2 := if m = 1 ∧ idrParams.contains id0 = true then s1.modEngine e fun x => { x with idr := x.idr ++ [4] } else s1
    let cv := if m = 1 then s.vcp e P.VC_CAP_CANVAS else s.vcp e P.VC_DEC_PACE
    if (id0 = P.VC_CAP_CANVAS ∧ m = 1 ∨ id0 = P.VC_DEC_PACE ∧ m ≠ 1) ∧ s.vcState e = 2 ∧ cv < 16 ∧ s.cvState cv ≠ 2 then s2.setVcState e 1 4 else s2

/-- An audio port's parameter (R385, R389). -/
def State.audioApplied (n id0 old : Nat) (s : State) : State :=
  if id0 = P.AP_ENABLE ∨ id0 = P.AP_RATE then s.apRestart n true
  else if id0 = P.AP_FORMAT then s.apRestart n false
  else if id0 = P.AP_OUT_MASK ∨ id0 = P.AP_ROUTE ∨ id0 = P.AP_DELAY then s.apOutputs n
  else if id0 = P.AP_IN_MASK then s.apInputs n old
  else s

/-- The loops of port group `i` whose canvases show their loads anew (R229, R239). -/
def State.reserveApplied (l v : Nat) (s : State) : State :=
  let s1 : State := { s with mw := { s.mw with reserve := SMap.set (fun _ => 25) s.mw.reserve l v } }
  match s1.loopCanvas l with
  | some c => s1.reviewLoads c false
  | none => s1

/-- What else happens when element `idx` of parameter `id` changes from `old` to `v`, which is in force. -/
def State.paramApplied (id idx old v : Nat) (s : State) : State :=
  let (id0, i) := paramBase id
  if id < 0x100 then s.deviceApplied id idx old v
  else if id < 0x400 then (if id0 = P.CG_ENABLE then s.applyCgEnable i else s)
  else if id < 0xC00 then s.pipelineApplied i id0 old v
  else if id < 0x1400 then s.canvasApplied i id0 idx old v
  else if id < 0x1600 then (if id0 = P.MW_CTRL_RESERVE then (List.range 32).foldl (fun t k => t.reserveApplied (32 * i + k) v) s else s)
  else if id < 0x17C0 then s.deviceApplied id idx old v
  else if id < 0x1800 then s.codecApplied i id0
  else if id < 0x1900 then s.audioApplied i id0 old
  else s.deviceApplied id idx old v

/-- A write that has an effect: not of the value in force, and not TRIG_ARM = 0 (R68); HK_MIN and HK_MAX take a write of 0 (R420). -/
def State.effective (s : State) (e : Nat × Nat × Nat) : Bool :=
  if e.1 = P.HK_MIN ∨ e.1 = P.HK_MAX then true
  else if e.1 = P.TRIG_ARM then e.2.2 == 1 && s.getP e.1 e.2.1 != 1
  else s.getP e.1 e.2.1 != e.2.2

/-- Writes take effect together (R36, R69). -/
def State.applyWrites (l : List (Nat × Nat × Nat)) (s : State) : State :=
  let m := l.filter fun e => s.effective e
  m.foldl (fun t e => t.paramApplied e.1 e.2.1 (s.getP e.1 e.2.1) e.2.2) (s.putParams m)

/-! ### Boundaries -/

/-- Where a write of a parameter takes effect (Table 1-9, R183, R240); none for one that is immediate. A group's CG_GENLOCK waits for
the frame start of the sensor on its virtual channel. -/
def State.boundariesOf (s : State) (id idx : Nat) : List Boundary :=
  let (id0, i) := paramBase id
  match paramRow? id with
  | none => []
  | some r =>
    if r.imm ∨ r.acc = 3 then []
    else if id < 0x100 then [.master]
    else if id < 0x400 then
      (match s.boundPipe (4 * i + idx) with
      | some p => [.frame p]
      | none => [.master])
    else if id < 0xC00 then [.frame i]
    else if id < 0x1400 then [s.canvasBoundary i]
    else if id < 0x1600 then (if id0 = P.MW_CTRL_RESERVE then (List.range 32).map fun k => .loop (32 * i + k) else [.master])
    else if id < 0x1700 then [.lane idx]
    else if id < 0x17C0 then [.master]
    else if id < 0x1800 then
      [if s.vcState i = 0 then .master else if id0 = P.VC_DEC_MODE ∧ s.vcp i P.VC_MODE ≠ 1 then .irap i else .picture i]
    else if id < 0x1900 then [if 3 ≤ s.apState i ∧ s.apState i ≤ 5 then .tdm i else .master]
    else if P.MB_ADDR ≤ id ∧ id ≤ P.MB_LAST_ADDR then [.busStart]
    else [.master]

/-- Where a table's swap takes effect: its block's boundary (R74, R148, R173). -/
def State.tableBoundaries (s : State) (t n : Nat) : List Boundary :=
  if t = 0x0001 ∨ t = 0x0008 then [s.canvasBoundary n]
  else if t = 0x0002 then [.loop n]
  else if 0x0004 ≤ t ∧ t ≤ 0x0007 then [.frame n]
  else [.master]

/-- A block that reaches no boundary of its own: the master period boundary serves (Table 1-9). -/
def State.idleAt (s : State) : Boundary → Bool
  | .frame p => (s.pipe p).bind.isNone && !s.gateHeld p
  | .show c => s.cvState c == 0
  | .loop l => match s.loopCanvas l with
    | none => true
    | some c => s.cvState c == 0
  | .lane g => !(groupLanes g).any s.laneInUse
  | .picture e | .irap e => s.vcState e == 0
  | .tdm n => !decide (3 ≤ s.apState n ∧ s.apState n ≤ 5)
  | .master | .busStart => false

/-- This instant is a boundary `b` (R69). -/
def State.reach (b : Boundary) (s : State) : State :=
  let old := if s.ctl.reachedAt = s.now then s.ctl.reached else []
  { s with ctl := { s.ctl with reached := if old.contains b then old else b :: old, reachedAt := s.now } }

/-- `b` has been reached at this instant. -/
def State.hasReached (s : State) (b : Boundary) : Bool :=
  let l := if s.ctl.reachedAt = s.now then s.ctl.reached else []
  l.contains b || (s.idleAt b && l.contains .master)
    || (match b with
      | .loop lp => (match s.loopCanvas lp with
        | some c => l.contains (.show c)
        | none => false)
      | _ => false)

/-- A staged change is ready: all its boundaries have been reached at this instant. -/
def State.ready (s : State) (g : Staged) : Bool := g.ats.all s.hasReached

/-- It swaps tables, which TABLE_SWAP does. -/
def Staged.isTable (g : Staged) : Bool := match g.what with
  | .tables _ => true
  | _ => false

/-- Final replies of the tickets of which nothing is staged any more (R57). -/
def State.answerApplied (l : List Staged) (s : State) : State :=
  (l.filterMap Staged.ticket).eraseDups.foldl (init := s) fun t tk =>
    if t.ctl.staged.any fun g => g.ticket == some tk then t else t.finalReply tk cOK 0 0

/-- One loop's MW_CTRL_RESERVE: the register follows when every loop of the group has the value. -/
def State.applyReserve (lp v : Nat) (s : State) : State :=
  let s1 := s.reserveApplied lp v
  let i := lp / 32
  if ((List.range 32).all fun k => s1.ctrlReserve (32 * i + k) == v) then s1.setP (P.mw i P.MW_CTRL_RESERVE) 0 v else s1

/-- Staged changes other than tables take effect together; a write held to another time stays staged. -/
def State.applyChanges (l : List Staged) (s : State) : State :=
  let s0 : State := { s with ctl := { s.ctl with staged := s.ctl.staged.filter fun g => !l.contains g } }
  let s1 := s0.applyWrites (l.flatMap fun g => match g.what with
    | .params w => w
    | _ => [])
  let s2 := l.foldl (init := s1) fun t g => match g.what with
    | .reserve lp v => t.applyReserve lp v
    | .laneTx k p => t.modLane k fun x => { x with preset := p }
    | _ => t
  s2.answerApplied l

/-- Boundary `b` is reached: what is staged for it and ready takes effect, tables apart. -/
def State.applyReached (b : Boundary) (s : State) : State :=
  let s1 := s.reach b
  s1.applyChanges (s1.ctl.staged.filter fun g => !g.isTable && s1.ready g)

/-- One more master period has passed for the changes that wait for several boundaries at one instant; at the eighth they are given up
with NO_COMMON_BOUNDARY (R69). -/
def State.countPeriods (s : State) : State :=
  let waits := fun (g : Staged) => decide (1 < g.ats.length) && g.left != 0
  let dropped := s.ctl.staged.filter fun g => waits g && g.left == 1
  let kept := (s.ctl.staged.filter fun g => !(waits g && g.left == 1)).map fun g => if waits g then { g with left := g.left - 1 } else g
  let s1 : State := { s with ctl := { s.ctl with staged := kept } }
  (dropped.filterMap Staged.ticket).eraseDups.foldl (fun t tk => t.finalReply tk cNO_COMMON_BOUNDARY 0 0) s1

end Sys2Proof.Machine
end

