-- ==== Sys2Proof/Machine/Boundaries.lean ====
section
/-! DEFINITION. The master period boundary, the staged changes of other boundaries, and the trigger input (R24, R36, R69, R433). -/

namespace Sys2Proof.Machine

/-- A canvas's raster parameters or CV_ENABLE are staged to change, and the change is ready (R184). -/
def State.rasterReady (s : State) (c : Nat) : Bool :=
  s.ctl.staged.any fun g => s.ready g && g.writes.any fun e => (rasterIds.map fun i => P.cv c i).contains e.1 && s.getP e.1 e.2.1 != e.2.2

/-- STAGED_CHANGE_APPLY (R36): a block boundary is reached. A canvas's own boundaries are its show periods, of which a raster change makes a
restart (R184); a frame start while the settings ID gate holds is none (R148). -/
def execStagedChangeApply (b : Boundary) (s : State) : Result :=
  guarded (.stagedChangeApply b) s <| match b with
    | .show c =>
      if s.cvState c = 2 ∧ (s.reach b).rasterReady c = false then (s.applyReached b).settleFlips c (s.canvas c).tag else s
    | .frame p => if s.gateHeld p then s else s.applyReached b
    | _ => s.applyReached b

/-- Codec engines enter WAITING, claimed as they are (R429). -/
def State.codecHold (s : State) : State :=
  (List.range 2).foldl (fun t e => if t.vcState e = 2 then t.setVcState e 1 4 else t) s

/-- Step 2 of the entry to DARK (Table 15-7): the first master period boundary at least 100 µs after the command was taken. -/
def State.darkBoundary (s : State) : State :=
  if s.pw.step = .awaitBoundary ∧ s.pw.start + 100000 ≤ s.now then
    let s1 := ((State.stopCapture { s with pw := { s.pw with step := .draining } }).audioDark).codecHold
    if s1.fr.wb.isEmpty then { s1 with pw := { s1.pw with step := .flushing } } else s1
  else s

/-- Binding changes whose sensor is absent take effect (R111). -/
def State.absentBindings (s : State) : State :=
  (List.range 8).foldl (init := s) fun t p => match (t.pipe p).change with
    | some ch => if (t.sensor ch.sensor).present then t else t.applyBinding p
    | none => t

/-- Canvases in RESTART are ARMED with the new raster, canvases that do not run switch to a filled uniformity bank (R173, R183). -/
def State.canvasMaster (b : Nat) (s : State) : State :=
  (List.range 16).foldl (init := s) fun t c =>
    let t1 := if t.cvState c = 3 then t.armCanvas c b 2 else t
    match t1.colour.commit with
    | some k => if k.waiting.contains c && t1.cvState c != 2 then t1.unifSwitch c else t1
    | none => t1

/-- The calibration runs under way look for what they can do next. -/
def State.calRuns (s : State) : State :=
  (List.range 28).foldl (fun t g => if (t.laneGroup g).run.isSome then t.calReview g else t) s

/-- A master period boundary at tick `t` (R36, R69, R111, R183, R309, R382, R390, R433): the audio records of the period that ends are taken first;
then a new frame tag is in progress and what is staged for the boundary takes effect. -/
def State.masterBoundary (t : Nat) (s : State) : State :=
  let tag := s.ring.tag
  let s1 := s.startMasterPeriod t
  let b := s1.ring.boundary / subTick
  let s2 := (s1.audioRecords tag b).applyReached .master
  let s3 := (List.range 16).foldl (fun u c => if u.canvasBoundary c == .master then u.settleFlips c u.ring.tag else u) s2
  let s4 := ((s3.absentBindings.audioPeriod b).darkBoundary.recordPeriod).codecPeriod
  (((s4.canvasMaster s4.ring.boundary).calRuns).sendPmark).countPeriods

/-- MASTER_PERIOD_BOUNDARY. -/
def execMasterPeriodBoundary (t : Nat) (s : State) : Result := guarded (.masterPeriodBoundary t) s (s.masterBoundary t)

/-- TRIG_IN_EDGE (R24): an armed input counts the first edge at least 1 tick after it was armed; bins and common starts follow (R311, R382). -/
def execTrigInEdge (t : Nat) (s : State) : Result :=
  guarded (.trigInEdge t) s <|
    let s := s.atLeast t
    if s.getP P.TRIG_ARM 0 = 1 ∧ s.ring.armedAt + 1 ≤ t then
      let s1 := (((s.setP P.TRIG_TIME 0 t).bumpWrap P.TRIG_COUNT 0 1).setP P.TRIG_ARM 0 0)
      ((s1.post 0x0C 0x1 1 (s1.getP P.TRIG_COUNT 0)).recordTrigger).audioTrigger t
    else s

end Sys2Proof.Machine
end

