-- ==== Sys2Proof/Machine/Crypto.lean ====
section
/-! DEFINITION. SHA-384 (FIPS 180-4) and the verification of an ECDSA signature on P-384 (FIPS 186), which the check of a firmware image names
(R81). The numbers are those of the standards, which the manual names and does not repeat (log 7). -/

namespace Sys2Proof.Machine

/-! ### SHA-384 -/

/-- The round constants: the first 64 fraction bits of the cube roots of the first 40 primes. -/
def shaK0 : List Nat :=
  [0x428a2f98d728ae22, 0x7137449123ef65cd, 0xb5c0fbcfec4d3b2f, 0xe9b5dba58189dbbc,
   0x3956c25bf348b538, 0x59f111f1b605d019, 0x923f82a4af194f9b, 0xab1c5ed5da6d8118,
   0xd807aa98a3030242, 0x12835b0145706fbe, 0x243185be4ee4b28c, 0x550c7dc3d5ffb4e2,
   0x72be5d74f27b896f, 0x80deb1fe3b1696b1, 0x9bdc06a725c71235, 0xc19bf174cf692694,
   0xe49b69c19ef14ad2, 0xefbe4786384f25e3, 0x0fc19dc68b8cd5b5, 0x240ca1cc77ac9c65,
   0x2de92c6f592b0275, 0x4a7484aa6ea6e483, 0x5cb0a9dcbd41fbd4, 0x76f988da831153b5,
   0x983e5152ee66dfab, 0xa831c66d2db43210, 0xb00327c898fb213f, 0xbf597fc7beef0ee4,
   0xc6e00bf33da88fc2, 0xd5a79147930aa725, 0x06ca6351e003826f, 0x142929670a0e6e70,
   0x27b70a8546d22ffc, 0x2e1b21385c26c926, 0x4d2c6dfc5ac42aed, 0x53380d139d95b3df,
   0x650a73548baf63de, 0x766a0abb3c77b2a8, 0x81c2c92e47edaee6, 0x92722c851482353b]

/-- Those of the next 40 primes. -/
def shaK1 : List Nat :=
  [0xa2bfe8a14cf10364, 0xa81a664bbc423001, 0xc24b8b70d0f89791, 0xc76c51a30654be30,
   0xd192e819d6ef5218, 0xd69906245565a910, 0xf40e35855771202a, 0x106aa07032bbd1b8,
   0x19a4c116b8d2d0c8, 0x1e376c085141ab53, 0x2748774cdf8eeb99, 0x34b0bcb5e19b48a8,
   0x391c0cb3c5c95a63, 0x4ed8aa4ae3418acb, 0x5b9cca4f7763e373, 0x682e6ff3d6b2b8a3,
   0x748f82ee5defb2fc, 0x78a5636f43172f60, 0x84c87814a1f0ab72, 0x8cc702081a6439ec,
   0x90befffa23631e28, 0xa4506cebde82bde9, 0xbef9a3f7b2c67915, 0xc67178f2e372532b,
   0xca273eceea26619c, 0xd186b8c721c0c207, 0xeada7dd6cde0eb1e, 0xf57d4f7fee6ed178,
   0x06f067aa72176fba, 0x0a637dc5a2c898a6, 0x113f9804bef90dae, 0x1b710b35131c471b,
   0x28db77f523047d84, 0x32caab7b40c72493, 0x3c9ebe0a15c9bebc, 0x431d67c49c100d4c,
   0x4cc5d4becb3e42b6, 0x597f299cfc657e2a, 0x5fcb6fab3ad6faec, 0x6c44198c4a475817]

/-- The initial hash value: those of the square roots of the ninth to sixteenth primes. -/
def shaInit : List Nat :=
  [0xcbbb9d5dc1059ed8, 0x629a292a367cd507, 0x9159015a3070dd17, 0x152fecd8f70e5939,
   0x67332667ffc00b31, 0x8eb44a8768581511, 0xdb0c2e0d64f98fa7, 0x47b5481dbefa4fa4]

/-- A sum of 64-bit words. -/
abbrev add64 (a b : Nat) : Nat := (a + b) % 2 ^ 64

/-- A 64-bit word rotated right by `n`. -/
def rotr64 (n a : Nat) : Nat := a / 2 ^ n + a % 2 ^ n * 2 ^ (64 - n)

def shaSum0 (a : Nat) : Nat := rotr64 28 a ^^^ rotr64 34 a ^^^ rotr64 39 a

def shaSum1 (a : Nat) : Nat := rotr64 14 a ^^^ rotr64 18 a ^^^ rotr64 41 a

def shaSig0 (a : Nat) : Nat := rotr64 1 a ^^^ rotr64 8 a ^^^ a / 2 ^ 7

def shaSig1 (a : Nat) : Nat := rotr64 19 a ^^^ rotr64 61 a ^^^ a / 2 ^ 6

/-- The message schedule: `w` holds the newest 16 words, newest first; `n` more are taken. -/
def shaSchedule : Nat → List Nat → List Nat
  | 0, _ => []
  | n + 1, w =>
    let v := add64 (add64 (shaSig1 (w.getD 1 0)) (w.getD 6 0)) (add64 (shaSig0 (w.getD 14 0)) (w.getD 15 0))
    v :: shaSchedule n (v :: w.take 15)

/-- One round on the eight working words. -/
def shaRound (h : List Nat) (e : Nat × Nat) : List Nat :=
  match h with
  | [a, b, c, d, e4, f, g, i] =>
    let ch := (e4 &&& f) ^^^ ((2 ^ 64 - 1 - e4) &&& g)
    let t1 := add64 (add64 i (shaSum1 e4)) (add64 (add64 ch e.1) e.2)
    let t2 := add64 (shaSum0 a) ((a &&& b) ^^^ (a &&& c) ^^^ (b &&& c))
    [add64 t1 t2, a, b, c, add64 d t1, e4, f, g]
  | _ => h

/-- A number whose bytes, most significant first, are `l`. -/
def ofBE (l : List Byte) : Nat := l.foldl (fun n b => n * 256 + b.toNat) 0

/-- One block of 128 bytes. -/
def shaBlock (h : List Nat) (l : List Byte) : List Nat :=
  let w := (piecesOf 8 16 l).map ofBE
  List.zipWith add64 h ((List.zip (shaK0 ++ shaK1) (w ++ shaSchedule 64 w.reverse)).foldl shaRound h)

/-- The message with its padding. -/
def shaPad (l : List Byte) : List Byte :=
  l ++ 0x80#8 :: List.replicate ((111 + 128 - l.length % 128) % 128) 0#8 ++ (leBytes (8 * l.length) 16).reverse

/-- SHA-384 of a message, as a number whose most significant byte is the first. -/
def sha384 (l : List Byte) : Nat :=
  let m := shaPad l
  (((piecesOf 128 (m.length / 128) m).foldl shaBlock shaInit).take 6).foldl (fun n v => n * 2 ^ 64 + v) 0

/-! ### P-384 -/

def p384P : Nat := 2 ^ 384 - 2 ^ 128 - 2 ^ 96 + 2 ^ 32 - 1

def p384N : Nat := 0xffffffffffffffffffffffffffffffffffffffffffffffffc7634d81f4372ddf581a0db248b0a77aecec196accc52973

def p384B : Nat := 0xb3312fa7e23ee7e4988e056be3f82d19181d9c6efe8141120314088f5013875ac656398d8a2ed19d2a85c8edd3ec2aef

def p384G : Nat × Nat :=
  (0xaa87ca22be8b05378eb1c71ef320ad746e1d3b628ba79b9859f741e082542a385502f25dbf55296c3a545e3872760ab7,
   0x3617de4a96262c6f5d9e98bf9292dc29f8f41dbd289a147ce9da3113b5f0b8c00a60b1ce1d7e819d7a431d7c90ea0e5f)

/-- x^k mod m, by the `n` low bits of k. -/
def powMod (m x : Nat) : Nat → Nat → Nat
  | 0, _ => 1 % m
  | n + 1, k =>
    let h := powMod m x n (k / 2)
    if k % 2 = 1 then h * h % m * x % m else h * h % m

/-- The inverse of `x` modulo a prime `m` of 384 bits. -/
def invMod (m x : Nat) : Nat := powMod m (x % m) 384 (m - 2)

/-- A point of the curve; none is the point at infinity. -/
abbrev CurvePoint := Option (Nat × Nat)

/-- The sum of two points. -/
def curveAdd (a b : CurvePoint) : CurvePoint :=
  match a, b with
  | none, q => q
  | p, none => p
  | some (x1, y1), some (x2, y2) =>
    if x1 = x2 ∧ (y1 + y2) % p384P = 0 then none
    else
      let l := if x1 = x2 then (3 * (x1 * x1) + (p384P - 3)) * invMod p384P (2 * y1) % p384P
               else (y2 + p384P - y1) * invMod p384P (x2 + p384P - x1) % p384P
      let x := (l * l + 2 * p384P - x1 - x2) % p384P
      some (x, (l * (x1 + p384P - x) + p384P - y1) % p384P)

/-- k times a point, by the `n` low bits of k. -/
def curveMul (a : CurvePoint) : Nat → Nat → CurvePoint
  | 0, _ => none
  | n + 1, k =>
    let h := curveMul a n (k / 2)
    let d := curveAdd h h
    if k % 2 = 1 then curveAdd d a else d

/-- The point lies on the curve. -/
def onCurve (q : Nat × Nat) : Bool :=
  decide (q.1 < p384P ∧ q.2 < p384P) && (q.2 * q.2) % p384P == (q.1 * q.1 * q.1 + (p384P - 3) * q.1 + p384B) % p384P

/-- The signature (r, s) of a message hash verifies with the public key. -/
def ecdsaVerify (key : Nat × Nat) (hash r s : Nat) : Bool :=
  onCurve key && decide (1 ≤ r ∧ r < p384N ∧ 1 ≤ s ∧ s < p384N) &&
    (let w := invMod p384N s
     match curveAdd (curveMul (some p384G) 384 (hash * w % p384N)) (curveMul (some key) 384 (r * w % p384N)) with
     | none => false
     | some q => q.1 % p384N == r)

end Sys2Proof.Machine
end

