-- ==== Sys2Proof/Machine/ParamCmds.lean ====
section
/-! DEFINITION. PARAM_GET, PARAM_SET, PARAM_SET_GROUP and PARAM_DESCRIBE, with every check that a chapter makes on a written value
(R66 to R70 and the rules named at each check). -/

namespace Sys2Proof.Machine

/-- The row of an element that exists: an identifier assigned and an index within its array (R66, R67, R70). -/
def knownElement (id idx : Nat) : Option ParamRow :=
  (paramRow? id).filter fun r => decide (idx < max r.count 1)

/-- The value of an element in force; some are read from the machine. -/
def State.readParam (s : State) (id idx : Nat) : Nat :=
  if id = P.SERIAL then Config.serial
  else if id = P.MEM_POOL_FREE then s.poolFree
  else if id = P.MEM_CARVE_USED then s.carveUsed idx
  else if (paramBase id).1 = P.DPC_STATIC_COUNT then s.tableNum 0x0006 (paramBase id).2 0 3 % 0x20000
  else s.getP id idx

def paramGetSpec : OpSpec := { op := 0x0010, len := fun c => c.opLen == 16, rsvd := 0xFFFFFFFE00000000 }

/-- PARAM_GET from step 7 on (R67). -/
def paramGetBody : Body := fun k s =>
  let id := k.c.f 0 16
  let idx := k.c.f 16 16
  match knownElement id idx with
  | none => (s, .err cBAD_PARAM)
  | some _ =>
    let v := if k.c.f 32 1 = 1 then (s.stagedValue id idx).getD (s.readParam id idx) else s.readParam id idx
    (s, .done cOK 8 v)

/-- PARAM_GET. -/
def execParamGet (c : Cmd) (s : State) : Result := guarded (.paramGet c) s (submit paramGetSpec paramGetBody c s)

/-! ### The checks of a write -/

/-- A written value lies in the element's range (R67 and the parameter tables). -/
def valueFits (r : ParamRow) (v : Nat) : Bool :=
  if r.signed then decide (r.lo ≤ toS64 v ∧ toS64 v ≤ r.hi)
  else decide (r.lo ≤ (v : Int) ∧ (v : Int) ≤ r.hi) || r.alt == some v

/-- Who may write it (R67, Table 2-13, R276, R376): a claimed codec engine is its holder's and W00's. -/
def State.accessCode (s : State) (w : Nat) (priv : Bool) (r : ParamRow) (id idx v : Nat) : Option Nat :=
  let e := (paramBase id).2
  if r.acc = 1 ∨ (r.acc = 3 ∧ v ≠ 0) ∨ (r.acc = 2 ∧ priv = false) then some cNOT_PERMITTED
  else if id = P.MEM_CARVE_QUOTA ∧ idx = 0 then some cNOT_PERMITTED
  else if 0x17C0 ≤ id ∧ id < 0x1800 ∧ s.vcState e ≠ 0 ∧ priv = false ∧ s.vcp e P.VC_HOLDER ≠ w then some cNOT_PERMITTED
  else none

/-- The canvas's PHASE_SYNC_OUT pulses fit its phases and its show period (R186), on values `v`. -/
def State.psoFits (v : State) (c : Nat) : Bool :=
  let (n, d) := v.showNominal c
  (List.range 4).all fun i =>
    decide (v.cvp c P.CV_PSO_WIDTH i * v.cvp c P.CV_PHASES 0 * d < n)
      && decide ((v.cvp c P.CV_PSO_OFFSET i + v.cvp c P.CV_PSO_WIDTH i) * d < n)

/-- The value rules of a pipeline's parameters (R122, R163). -/
def State.pipelineValue (v : State) (p id0 : Nat) : Option Nat :=
  let q := fun (id idx : Nat) => v.getP (P.pl p id) idx
  if id0 = P.BL_WHITE ∨ id0 = P.BL_LEVEL ∨ id0 = P.BL_TRACK_LIMIT then
    if (List.range 4).all fun c => decide (q P.BL_LEVEL c + q P.BL_TRACK_LIMIT 0 + 4096 ≤ q P.BL_WHITE 0) then none else some cBAD_PARAM
  else if P.SC_CROP ≤ id0 ∧ id0 ≤ P.SC_KERNEL_V then
    if 16384 < q P.SC_OUT_SIZE 0 then some cBAD_PARAM
    else match (v.pipe p).fmt with
      | none => none
      | some f =>
        if v.geometryFits p f then none else some cBAD_PARAM
  else none

/-- The value rules of a canvas's parameters (R167, R182, R186, R191, R199, R202). -/
def State.canvasValue (v : State) (c id0 idx val : Nat) : Option Nat :=
  if rasterIds.contains id0 then
    match v.rasterCheck c with
    | some e => some e
    | none => if v.psoFits c then none else some cBAD_PARAM
  else if id0 = P.CV_PSO_PHASES ∨ id0 = P.CV_PSO_OFFSET ∨ id0 = P.CV_PSO_WIDTH then (if v.psoFits c then none else some cBAD_PARAM)
  else if id0 = P.CV_EVENT_EN ∧ val.testBit 3 = true then some cBAD_PARAM
  else if id0 = P.CV_ZORDER ∧ val ≠ 255 ∧ (List.range 16).any (fun i => i != idx && v.cvp c P.CV_ZORDER i == val) = true then some cBAD_PARAM
  else if P.LY_FORMAT ≤ id0 ∧ id0 ≤ P.LY_SOURCE ∧ v.layerRange c idx id0 = false then some 0x39
  else if (id0 = P.OC_WHITE_NITS ∨ id0 = P.OC_PEAK_NITS) ∧ v.cvp c P.OC_PEAK_NITS 0 < v.cvp c P.OC_WHITE_NITS 0 then some cBAD_PARAM
  else none

/-- The value rules of a codec engine's parameters (R357, R360, R363); the geometry is that of a claimed stream. -/
def State.codecValue (v : State) (e id0 val : Nat) : Option Nat :=
  let m := if v.vcState e = 0 then 0 else v.vcp e P.VC_MODE
  let ok := if id0 = P.VC_CAP_DECIM then decide (val % 4 ≤ 2 ∧ val / 4 % 4 ≤ 2)
    else if id0 = P.VC_QP_RANGE then decide (val % 256 ≤ val / 256 % 256 ∧ val / 256 ≤ 51)
    else if id0 = P.VC_BITRATE ∨ id0 = P.VC_VBV_KBITS ∨ id0 = P.VC_ENC_PROFILE then v.levelOk e
    else true
  if ok && (m != 1 || v.encodeOk e) && ((m != 2 && m != 3) || v.paceOk e) then none else some cBAD_PARAM

/-- An address that the device must not answer (R396). -/
def badBusAddress (a : Nat) : Bool := decide (a < 8 ∨ 0x78 ≤ a)

/-- The management bus addresses on values `v` keep R396. -/
def State.busAddressesOk (v : State) : Bool :=
  let mask := v.getP P.MB_ADDR_MASK 0
  decide (popcount mask 7 ≤ 2)
    && (if v.getP P.MB_ADDR_MODE 0 = 0 then
        (List.range 4).all fun i => !(v.getP P.MB_ADDR i).testBit 7 || !badBusAddress (v.getP P.MB_ADDR i % 128)
      else (List.range 128).all fun a => ((a ^^^ v.getP P.MB_ADDR 0) &&& (127 ^^^ mask) &&& 127) != 0 || !badBusAddress a)

/-- The value rules of housekeeping and the management bus (R396, R409, R410). -/
def State.houseValue (v : State) (id idx : Nat) : Option Nat :=
  let q := fun (i : Nat) => v.getP i 0
  if P.MB_ADDR ≤ id ∧ id ≤ P.MB_ADDR_MASK then (if v.busAddressesOk then none else some cBAD_PARAM)
  else if id = P.HK_LIMIT_LO ∨ id = P.HK_LIMIT_HI then (if v.getP P.HK_LIMIT_HI idx < v.getP P.HK_LIMIT_LO idx then some cBAD_PARAM else none)
  else if P.TH_WARN ≤ id ∧ id ≤ P.TH_HYST then
    if q P.TH_WARN + q P.TH_HYST ≤ q P.TH_THROTTLE ∧ q P.TH_THROTTLE + q P.TH_HYST ≤ q P.TH_SHUTDOWN then none else some cBAD_PARAM
  else none

/-- The value rules that go beyond an element's range, on the values `v` as they will be (R62 step 7). -/
def State.valueCode (s v : State) (id idx val : Nat) : Option Nat :=
  let (id0, i) := paramBase id
  if id = P.RM_REF_RATE_NUM ∨ id = P.RM_REF_RATE_DEN then
    let num := v.getP P.RM_REF_RATE_NUM 0
    let den := v.getP P.RM_REF_RATE_DEN 0
    if 0 < den ∧ 23976 * den ≤ 1000 * num ∧ num ≤ 240 * den then none else some cBAD_PARAM
  else if id < 0x100 then none
  else if id < 0x400 then (if id0 = P.CG_GENLOCK ∧ s.noGenlock i val = true then some 0x22 else none)
  else if id < 0xC00 then v.pipelineValue i id0
  else if id < 0x1400 then v.canvasValue i id0 idx val
  else if id < 0x17C0 then (if id = P.LN_TX_SWING ∧ val % 50 ≠ 0 then some cBAD_PARAM else none)
  else if id < 0x1800 then v.codecValue i id0 val
  else if id < 0x1900 then
    if id0 = P.AP_ROUTE then (if v.routeOk i val then none else some cBAD_PARAM)
    else if v.audioOk i then none else some cBAD_PARAM
  else v.houseValue id idx

/-- Step 7 of R62 for one written element: identifier and index, access, value. -/
def State.entryCode (s v : State) (w : Nat) (priv : Bool) (e : Nat × Nat × Nat) : Option Nat :=
  match knownElement e.1 e.2.1 with
  | none => some cBAD_PARAM
  | some r =>
    match s.accessCode w priv r e.1 e.2.1 e.2.2 with
    | some c => some c
    | none => if r.acc = 3 then none else if valueFits r e.2.2 then s.valueCode v e.1 e.2.1 e.2.2 else some cBAD_PARAM

/-! ### The resources of a write (R39, R42, R62 step 8) -/

/-- What the layers of every enabled canvas ask for on values `v`. -/
def State.plannedLayers (s v : State) : Nat :=
  ((List.range 16).map fun c =>
    if v.cvp c P.CV_ENABLE 0 = 1 ∧ (s.cvState c ≠ 0 ∨ s.cvp c P.CV_ENABLE 0 = 0) then v.layersBps c else 0).sum

/-- Canvas `c` will hold reservations on values `v`. -/
def State.plannedRuns (s v : State) (c : Nat) : Bool := v.cvp c P.CV_ENABLE 0 == 1 && (s.cvState c != 0 || s.cvp c P.CV_ENABLE 0 == 0)

/-- The frame stores that values `v` call for, by pipeline (R197). -/
def State.plannedStores (s v : State) : List Nat := v.storesNeeded (v.inputModes (s.plannedRuns v))

/-- The references that values `v` call for (R133): the pipelines with temporal noise reduction and a format, save those that run bypassed. -/
def State.plannedRefs (v : State) : List (Nat × Format) :=
  (List.range 8).filterMap fun p => match (v.pipe p).fmt with
    | some f => if (v.getP (P.pl p P.PL_STAGE_EN) 0).testBit 3 && !(v.pipe p).tnrStarved then some (p, f) else none
    | none => none

/-- The rank 1 reservations on values `v` (R42): layers, references, frame stores. -/
def State.plannedRank1 (s v : State) : Nat :=
  s.plannedLayers v + (v.plannedRefs.map fun e => 4 * e.2.rate).sum
    + ((s.plannedStores v).map fun p => match v.liveScaler p with
      | some (k, f) => storeBps k f
      | none => s.bwOf 1 (storeOwner p)).sum

/-- The buffers of the pipeline carve-out that values `v` call for, and their sizes. -/
def State.plannedBuffers (s v : State) : List (BufOwner × Nat) :=
  (v.plannedRefs.map fun e => (.reference e.1, e.2.width * e.2.height * 2)) ++
    (s.plannedStores v).filterMap fun p => (v.liveScaler p).map fun k => (.frameStore p 0, 3 * (k.1.outW * k.1.outH * 8))

/-- The buffers of an owner have the size. -/
def State.ownsBytes (s : State) (o : BufOwner) (n : Nat) : Bool :=
  s.dram.buffers.any fun b => b.owner == o && b.bytes == cdiv n pageBytes * pageBytes

/-- The buffers `l` can be had together, those that stand already apart. -/
def State.canHold (s : State) (l : List (BufOwner × Nat)) : Bool :=
  let new := l.filter fun e => !s.ownsBytes e.1 e.2
  let s0 := new.foldl (fun t e => t.freeOwned e.1) s
  (new.foldl (init := some s0) fun a e => a.bind fun t => match t.allocBuffer 1 e.2 e.1 with
    | (u, .base _) => some u
    | (_, .fail _) => none).isSome

/-- The rank 1 reservations and buffers that a write calls for can be had (R42, R133, R197): `p` holds the values staged before it, `v` those with it.
A write that raises nothing is accepted. -/
def State.planOk (s p v : State) : Bool :=
  let new := s.plannedRank1 v
  let need := s.plannedBuffers v
  (decide (new ≤ v.bwLimit) || decide (new ≤ s.plannedRank1 p))
    && (need.all (s.plannedBuffers p).contains || s.canHold need)

/-- The rank 2 reservation of the pipelines that armed bins record, on values `v` (R42). -/
def State.plannedRank2 (s v : State) : Nat :=
  ((List.range 8).map fun p =>
    let armed := s.binList.any fun b => (s.binState b == 3 || s.binState b == 4) && v.getP P.FR_BIN_ARM b == 1 && (v.getP P.FR_BIN_SOURCES b).testBit p
    match (s.pipe p).fmt with
    | some f => if armed then 2 * (f.rate * f.bits * 125 / max (v.getP P.FR_RESERVE_RATIO 0) 1) else 0
    | none => 0).sum

/-- The resource that one written element asks for: `p` holds the values staged before the command, `v` those with it (R42, R186, R197, R276). -/
def State.resourceCode (s p v : State) (ws : List (Nat × Nat × Nat)) (e : Nat × Nat × Nat) : Option Nat :=
  let (id0, i) := paramBase e.1
  if id0 = P.CV_PSO_PHASES ∧ e.2.2 ≠ 0 ∧ ((List.range 16).any fun c => c != i &&
      (v.cvp c P.CV_PSO_PHASES e.2.1 != 0 || (s.cvp c P.CV_PSO_PHASES e.2.1 != 0 && !(ws.any fun x => x.1 == P.cv c P.CV_PSO_PHASES && x.2.1 == e.2.1)))) = true
    then some cBUSY
  else if e.1 = P.MEM_CARVE_QUOTA then
    if 122880 < ((List.range 5).map fun k => v.getP P.MEM_CARVE_QUOTA k).sum then some cNO_RESOURCE else none
  else if id0 = P.PL_STAGE_EN ∨ (0xC00 ≤ e.1 ∧ e.1 < 0x1400) ∨ e.1 = P.RM_REF_RATE_NUM ∨ e.1 = P.RM_REF_RATE_DEN
      ∨ (P.SC_CROP ≤ id0 ∧ id0 ≤ P.SC_KERNEL_V ∧ 0x400 ≤ e.1 ∧ e.1 < 0xC00) then
    if s.planOk p v then none else some cNO_RESOURCE
  else if e.1 = P.FR_BIN_ARM ∨ e.1 = P.FR_BIN_SOURCES ∨ e.1 = P.FR_RESERVE_RATIO then
    let new := s.plannedRank2 v
    if s.plannedRank2 p < new ∧ v.bwLimit < s.bwAsked 1 + new then some cNO_RESOURCE else none
  else none

/-- Step 8 of R62 for one written element: the claim, then the resource. -/
def State.claimCode (s p v : State) (w : Nat) (ws : List (Nat × Nat × Nat)) (e : Nat × Nat × Nat) : Option Nat :=
  if s.claimedByOther w (pkey e.1 e.2.1) then some cBUSY else s.resourceCode p v ws e

/-! ### Staging -/

/-- The element takes effect at once: immediate, or a counter that clears (R36, Table 2-13). -/
def immediateElement (id : Nat) : Bool := ((paramRow? id).map fun r => r.imm || r.acc == 3).getD false

/-- Writes accepted of immediate elements take effect now; older staged writes of them are superseded (R68). -/
def State.writeNow (ws : List (Nat × Nat × Nat)) (s : State) : State :=
  let es := ws.map fun e => (e.1, e.2.1)
  State.applyWrites ws { s with ctl := { s.ctl with staged := s.ctl.staged.map (Staged.without es) } }

/-- What a single accepted write stages: MW_CTRL_RESERVE one change for each loop of its group (Table 1-9). -/
def State.stagedOf (s : State) (e : Nat × Nat × Nat) (ticket : Option Nat) : List Staged :=
  let (id0, i) := paramBase e.1
  if id0 = P.MW_CTRL_RESERVE then
    (List.range 32).map fun k => { ats := [.loop (32 * i + k)], what := .reserve (32 * i + k) e.2.2, ticket := ticket, left := 0 }
  else [{ ats := s.boundariesOf e.1 e.2.1, what := .params [e], ticket := ticket, left := 0 }]

def paramSetSpec : OpSpec := { op := 0x0011, len := fun c => c.opLen == 16, rsvd := 0xFFFFFFFF00000000 }

/-- PARAM_SET from step 7 on (R67, R68). -/
def paramSetBody : Body := fun k s =>
  let e := (k.c.f 0 16, k.c.f 16 16, k.c.f 64 64)
  let p := s.preview
  let v := p.putParams [e]
  match s.entryCode v k.c.win k.priv e with
  | some code => (s, .err code)
  | none =>
    match s.claimCode p v k.c.win [e] e with
    | some code => (s, .err code)
    | none =>
      let s1 := s.claim k.c.win [pkey e.1 e.2.1]
      if immediateElement e.1 then (s1.writeNow [e], .ok)
      else if k.c.immediate then (s1.stage (s.stagedOf e none), .ok)
      else (s1.stage (s.stagedOf e (some k.tk)), .wait)

/-- PARAM_SET. -/
def execParamSet (c : Cmd) (s : State) : Result := guarded (.paramSet c) s (submit paramSetSpec paramSetBody c s)

/-- The operand length of a group is checked with its header. -/
def paramSetGroupSpec : OpSpec := { op := 0x0012, len := fun _ => true }

/-- The entries of a group: identifier, index, value. -/
def groupEntries (c : Cmd) : List (Nat × Nat × Nat) :=
  (List.range (c.f 0 16)).map fun i => (c.f (64 + 128 * i) 16, c.f (80 + 128 * i) 16, c.f (128 + 128 * i) 64)

/-- The header of a group is sound: COUNT from 1 to 14, its reserved bytes 0, and the length it gives (R69). -/
def groupHeaderOk (c : Cmd) : Bool := decide (1 ≤ c.f 0 16 ∧ c.f 0 16 ≤ 14 ∧ c.f 16 48 = 0 ∧ c.opLen = 8 + 16 * c.f 0 16)

/-- The first entry, with its index, on which `f` fails. -/
def firstFailure (f : Nat → Nat × Nat × Nat → Option Nat) (l : List (Nat × Nat × Nat)) : Option (Nat × Nat) :=
  l.zipIdx.findSome? fun e => (f e.2 e.1).map fun code => (e.2, code)

/-- The checks of a group in the order of R69: the first failing entry and its code. -/
def State.groupCheck (s : State) (c : Cmd) (priv : Bool) : Option (Nat × Nat) :=
  let l := groupEntries c
  let p := s.preview
  let v := p.putParams l
  if !groupHeaderOk c then some (0xFFFF, cBAD_PARAM)
  else
    (firstFailure (fun i _ => if c.f (96 + 128 * i) 32 = 0 then none else some cBAD_PARAM) l).orElse fun _ =>
      (firstFailure (fun i e =>
          match s.entryCode v c.win priv e with
          | some code => some code
          | none => if (l.take i).any fun x => x.1 == e.1 && x.2.1 == e.2.1 then some cBAD_PARAM else none) l).orElse fun _ =>
        firstFailure (fun _ e => s.claimCode p v c.win l e) l

/-- PARAM_SET_GROUP from its header on (R69). -/
def paramSetGroupBody : Body := fun k s =>
  let l := groupEntries k.c
  match s.groupCheck k.c k.priv with
  | some (i, code) => (s, .done code 2 i)
  | none =>
    let s1 := s.claim k.c.win (l.map fun e => pkey e.1 e.2.1)
    if l.all fun e => immediateElement e.1 then (s1.writeNow l, .ok)
    else
      let ats := (l.flatMap fun e => s.boundariesOf e.1 e.2.1).eraseDups
      let g : Staged := { ats := ats, what := .params l, ticket := if k.c.immediate then none else some k.tk, left := 8 }
      (s1.stage [g], if k.c.immediate then .ok else .wait)

/-- PARAM_SET_GROUP. -/
def execParamSetGroup (c : Cmd) (s : State) : Result := guarded (.paramSetGroup c) s (submit paramSetGroupSpec paramSetGroupBody c s)

/-! ### PARAM_DESCRIBE -/

/-- The value of an element after cold reset, with the straps and the configuration of that reset (R70). -/
def State.describeDefault (s : State) (id idx : Nat) : Nat :=
  if id = P.SERIAL ∨ id = P.FW_RELEASE ∨ id = P.FW_ACTIVE_SLOT ∨ id = P.FW_SECURITY_FLOOR ∨ id = P.PW_RESET_CAUSE then s.readParam id idx
  else if id = P.MB_ADDR ∧ idx = 0 then 0x1D8 + s.bus.mgtAddr
  else if id = P.MEM_POOL_FREE then 122880 - s.carve0MiB
  else if id = P.MEM_CARVE_USED ∧ idx = 0 then s.carve0MiB
  else paramDefault id idx

def paramDescribeSpec : OpSpec := .fixed 0x0013 4

/-- The lowest value an element accepts. -/
def ParamRow.bottom (r : ParamRow) : Int := match r.alt with
  | some a => min r.lo a
  | none => r.lo

/-- The highest value an element accepts; that of an output width is R163's. -/
def ParamRow.top (r : ParamRow) (id idx : Nat) : Int :=
  if (paramBase id).1 = P.SC_OUT_SIZE ∧ idx = 0 then 16384 else match r.alt with
    | some a => max r.hi a
    | none => r.hi

/-- The 64 bytes of Table 2-13. -/
def State.describe (s : State) (r : ParamRow) (id idx : Nat) : List Byte :=
  leBytes id 2 ++ leBytes r.count 2 ++ leBytes (if r.w64 then 64 else 32) 1 ++ leBytes r.acc 1
    ++ leBytes (b2n (!r.imm && r.acc != 1 && r.acc != 3)) 1 ++ leBytes (b2n r.signed) 1
    ++ leBytes (toU64 r.bottom) 8 ++ leBytes (toU64 (r.top id idx)) 8 ++ leBytes (s.describeDefault id idx) 8 ++ leBytes r.name 32

/-- PARAM_DESCRIBE from step 7 on (R70). -/
def paramDescribeBody : Body := fun k s =>
  match knownElement (k.c.f 0 16) (k.c.f 16 16) with
  | none => (s, .err cBAD_PARAM)
  | some r => (s, .done cOK 64 (ofLE (s.describe r (k.c.f 0 16) (k.c.f 16 16))))

/-- PARAM_DESCRIBE. -/
def execParamDescribe (c : Cmd) (s : State) : Result := guarded (.paramDescribe c) s (submit paramDescribeSpec paramDescribeBody c s)

end Sys2Proof.Machine
end

