-- ==== Sys2Proof/Machine/TableCmds.lean ====
section
/-! DEFINITION. The table commands and the swap of committed copies: TABLE_READ, TABLE_WRITE, TABLE_COMMIT with the validation of every
table, TABLE_DISCARD, TABLE_SWAP (R72 to R75, R113, R126, R134, R157, R159, R166, R170 to R174, R227 to R229). -/

namespace Sys2Proof.Machine

/-! ### Copies -/

/-- What an unlisted byte of a copy of a table reads as: its reset contents. -/
abbrev copyDef (t n : Nat) : Nat → Byte := fun o => tableDefault (tableBase t n + o)

/-- The active copy of a table, by byte offset. -/
def State.activeCopy (s : State) (t n : Nat) : SMap Byte :=
  (s.ctl.tables.filter fun e => decide (tableBase t n ≤ e.1 ∧ e.1 < tableBase t n + 0x10000000)).map fun e => (e.1 - tableBase t n, e.2)

/-- The contents of a commit accepted and not yet in force (R72). -/
def State.pendingCopy (s : State) (t n : Nat) : Option (SMap Byte) :=
  ((s.ctl.staged.flatMap fun g => match g.what with
    | .tables l => l
    | _ => []).findSome? fun e => if e.1 = t ∧ e.2.1 = n then some e.2.2 else none).orElse fun _ =>
      if t = 0x0003 then s.colour.commit.map fun k => k.bytes else none

/-- The newest committed contents (R72); UNIF_CELLS stand in their banks. -/
def State.committedCopy (s : State) (t n : Nat) : SMap Byte :=
  (s.pendingCopy t n).getD (if t = 0x0003 then (if s.colour.newest = 0 then s.colour.bank0 else s.colour.bank1) else s.activeCopy t n)

/-- The staging copy of a table, if it has one. -/
def State.staging? (s : State) (t n : Nat) : Option Staging := s.ctl.staging.find? fun g => g.table == t && g.num == n

/-- The number in `w` bytes at offset `o` of a copy. -/
def copyNum (t n : Nat) (m : SMap Byte) (o w : Nat) : Nat := ofLE (takeBytes (copyDef t n) m o w)

/-- A read-only byte of TILE_DIRECTORY (Table 7-9). -/
def State.directoryByte (s : State) (l o : Nat) : Option Byte :=
  let x := s.loop l
  if o < 0x20 then
    if o = 4 then some (BitVec.ofNat 8 (s.loopState l))
    else if o = 5 then some (BitVec.ofNat 8 x.a.reach)
    else if o = 6 then some (BitVec.ofNat 8 x.b.reach)
    else if o = 7 then some (BitVec.ofNat 8 ((List.range (s.dirCount l)).filter fun i => (s.tile l (i + 1)).fromA || (s.tile l (i + 1)).fromB).length)
    else none
  else
    let hop := (o - 0x20) / 32 + 1
    let r := (o - 0x20) % 32
    let info := (s.tile l hop).info
    if r < 0x10 then none
    else if r < 0x18 then some (byteOf ((info.map fun i => i.serial).getD 0) (r - 0x10))
    else if r = 0x18 then some (BitVec.ofNat 8 (s.tileState l hop))
    else if r = 0x19 then some (BitVec.ofNat 8 ((info.map fun i => i.maxPhases + 1).getD 0))
    else if r = 0x1A then some (match s.fedFrom l hop with
      | some e => BitVec.ofNat 8 (e + 1)
      | none => 0)
    else some 0

/-- STATE of a SENSOR_BINDING entry (Table 3-11). -/
def State.bindingState (s : State) (p : Nat) : Nat :=
  let x := s.pipe p
  if x.change.isSome then 1
  else match x.bind with
    | none => 0
    | some b => if !(s.sensor b.sensor).present then 2 else if s.bindingMatches b then 3 else 4

/-- The 32 bytes of a SENSOR_BINDING entry. -/
def State.bindingBytes (s : State) (p : Nat) : List Byte :=
  let x := s.pipe p
  let b : Option Binding := x.bind.orElse fun _ => x.change.bind fun ch => ch.target
  let k := (b.map fun e => e.sensor).getD 0
  leBytes (s.bindingState p) 1 ++ leBytes (k / 4) 1 ++ leBytes (k % 4) 1 ++ leBytes 0 5 ++ leBytes ((b.map fun e => e.head).getD 0) 8
    ++ leBytes ((b.map fun e => e.serial).getD 0) 8 ++ leBytes x.frames 4 ++ leBytes 0 4

/-- `n` bytes of a copy from offset `o` as TABLE_READ gives them. -/
def State.readCopy (s : State) (t num : Nat) (m : SMap Byte) (o n : Nat) : List Byte :=
  if t = 0x0009 then (((List.range 8).flatMap fun p => s.bindingBytes p).drop o).take n
  else if t = 0x0002 then
    (List.range n).map fun i => (s.directoryByte num (o + i)).getD (SMap.get (copyDef t num) m (o + i))
  else takeBytes (copyDef t num) m o n

/-! ### TABLE_READ and TABLE_WRITE -/

/-- The byte count, offset and host address of Table 2-15. -/
abbrev tblLen (c : Cmd) : Nat := 2 * c.f 33 31
abbrev tblOffset (c : Cmd) : Nat := c.f 64 64
abbrev tblHost (c : Cmd) : Nat := c.f 128 64

/-- The table and instance exist, and the range lies within the table in whole entries (R73). -/
def tableRangeOk (c : Cmd) : Bool :=
  let t := c.f 0 16
  let (bytes, entry) := tableSize t
  decide (c.f 16 16 < tableCount t ∧ tblOffset c + tblLen c ≤ bytes ∧ tblOffset c % entry = 0 ∧ tblLen c % entry = 0
    ∧ tblLen c ≤ (if tblHost c = 0 then 216 else 0x1000000))

def tableReadSpec : OpSpec := { op := 0x0020, len := fun c => c.opLen == 24, bus := fun c => tblHost c == 0 }

/-- TABLE_READ from step 7 on (R6, R72, R73). -/
def tableReadBody : Body := fun k s =>
  let c := k.c
  let t := c.f 0 16
  let n := c.f 16 16
  if !s.fwSupportsTable t then (s, .err cVERSION)
  else if !tableRangeOk c then (s, .err cBAD_PARAM)
  else
    let active := if t = 0x0003 then (if s.colour.newest = 0 then s.colour.bank0 else s.colour.bank1) else s.activeCopy t n
    let m := if c.f 32 1 = 0 then active else match s.staging? t n with
      | some g => g.bytes
      | none => s.committedCopy t n
    let l := s.readCopy t n m (tblOffset c) (tblLen c)
    if tblHost c = 0 then (s, .done cOK l.length (ofLE l))
    else
      let r := s.hostWrite (tblHost c) l
      (r.1, if r.2 then .ok else .err cABORTED)

/-- TABLE_READ. -/
def execTableRead (c : Cmd) (s : State) : Result := guarded (.tableRead c) s (submit tableReadSpec tableReadBody c s)

/-- The operand length counts the inline data (R54). -/
def tableWriteSpec : OpSpec :=
  { op := 0x0021, len := fun c => c.opLen == 24 + (if tblHost c = 0 then tblLen c else 0), bus := fun c => tblHost c == 0 }

/-- A staging copy with new contents. -/
def State.putStaging (g : Staging) (s : State) : State :=
  { s with ctl := { s.ctl with staging := (s.ctl.staging.filter fun x => !(x.table == g.table && x.num == g.num)) ++ [g] } }

/-- TABLE_WRITE from step 7 on (R72, R73, R113, R167). -/
def tableWriteBody : Body := fun k s =>
  let c := k.c
  let t := c.f 0 16
  let n := c.f 16 16
  if n < tableCount t ∧ (t = 0x0009 ∨ (t = 0x0008 ∧ s.cvp n P.OT_AUTO 0 = 1)) then (s, .err cNOT_PERMITTED)
  else if !tableRangeOk c || c.f 32 1 == 1 then (s, .err cBAD_PARAM)
  else
    let g := (s.staging? t n).getD { table := t, num := n, owner := c.win, bytes := s.committedCopy t n }
    if g.owner ≠ c.win then (s, .err cBUSY)
    else
      let l := if tblHost c = 0 then leBytes (c.f 192 (8 * tblLen c)) (tblLen c) else s.hostRead (tblHost c) (tblLen c)
      (s.putStaging { g with
        bytes := putBytes (copyDef t n) g.bytes (tblOffset c) l
        touched := (g.touched ++ (List.range ((tblLen c + 4095) / 4096 + 1)).filterMap fun i =>
          let b := tblOffset c / 4096 + i
          if b * 4096 < tblOffset c + tblLen c then some b else none).eraseDups }, if l.length = tblLen c then .ok else .err cABORTED)

/-- TABLE_WRITE. -/
def execTableWrite (c : Cmd) (s : State) : Result := guarded (.tableWrite c) s (submit tableWriteSpec tableWriteBody c s)

/-! ### TABLE_COMMIT -/

/-- A validation failure: completion code and byte offset of the first invalid entry. -/
abbrev TableFault := Option (Nat × Nat)

/-- A copy in place of the active one. -/
def State.putTable (t n : Nat) (m : SMap Byte) (s : State) : State :=
  let others := s.ctl.tables.filter fun e => !decide (tableBase t n ≤ e.1 ∧ e.1 < tableBase t n + 0x10000000)
  { s with ctl := { s.ctl with tables := m.foldl (fun acc e => SMap.set tableDefault acc (tableBase t n + e.1) e.2) others } }

/-- The state with these copies, those committed before and every staged parameter in force: what a commit is validated against. -/
def State.withTables (l : List (Nat × Nat × SMap Byte)) (s : State) : State :=
  let pending := s.ctl.staged.flatMap fun g => match g.what with
    | .tables x => x
    | _ => []
  (pending ++ l).foldl (fun t e => t.putTable e.1 e.2.1 e.2.2) s.preview

/-- DEFECT_LIST (R126). -/
def defectListFault (get : Nat → Nat → Nat) : TableFault :=
  let h := get 0 4
  let e := fun (i : Nat) => get (4 + 4 * i) 4
  let key := fun (i : Nat) => e i / 65536 * 65536 + e i % 65536
  if 65536 < h then some (cBAD_PARAM, 0)
  else ((List.range h).find? fun i =>
      decide (16384 ≤ e i % 65536 ∨ 16384 ≤ e i / 65536) || (i != 0 && decide (key i ≤ key (i - 1)))
        || (decide (4 ≤ i) && e i / 8 == e (i - 4) / 8)).map fun i => (cBAD_PARAM, 4 + 4 * i)

/-- LENS_SHADING (R134). -/
def lensFault (get : Nat → Nat → Nat) : TableFault :=
  let inside := fun (lo hi v : Nat) => decide (lo ≤ v ∧ v ≤ hi)
  if !(inside 2 129 (get 0 2) && inside 2 129 (get 2 2) && inside 4 11 (get 4 1) && inside 4 11 (get 5 1) && get 6 2 == 0) then some (cBAD_PARAM, 0)
  else if get 8 8 ≠ 0 then some (cBAD_PARAM, 8) else none

/-- The first listed byte of a copy that satisfies `p`, as the offset of its entry. -/
def firstListed (m : SMap Byte) (entry : Nat) (p : Nat → Bool) : TableFault :=
  (m.find? fun e => e.2 != 0 && p e.1).map fun e => (cBAD_PARAM, e.1 / entry * entry)

/-- CUBE_LUT (R159): SIZE, and the reserved bytes of the header and of the nodes used. -/
def cubeFault (get : Nat → Nat → Nat) (m : SMap Byte) : TableFault :=
  let nodes := if get 0 1 = 0 then 35937 else 274625
  if 1 < get 0 1 ∨ get 1 11 ≠ 0 then some (cBAD_PARAM, 0)
  else firstListed m 12 fun o => decide (12 ≤ o ∧ o < 12 + 12 * nodes) && o % 4 == 3

/-- OUTPUT_TONE (R166): an entry above full drive. -/
def toneFault (get : Nat → Nat → Nat) (m : SMap Byte) : TableFault :=
  (m.find? fun e => decide (0x100000 < get (e.1 / 4 * 4) 4)).map fun e => (cBAD_PARAM, e.1 / 4 * 4)

/-- UNIF_CELLS (R171), with the tile sizes of the directory that will be in force. -/
def State.unifFault (v : State) (get : Nat → Nat → Nat) : TableFault :=
  ((List.range 16384).find? fun t =>
    let o := 0xC00000 + 12 * t
    let w := get o 4
    let k : UnifBinding := { base := w % 2 ^ 20, size := w / 2 ^ 20 % 4, interp := w.testBit 22 }
    let x := SMap.get tileDef v.mw.tiles t
    let d := v.tileDims (t / 32) (t % 32 + 1)
    decide (2 ^ 24 ≤ w) || get (o + 4) 8 != 0
      || (w.testBit 23 && (x.fromA || x.fromB) && decide (2 ^ 20 < k.base + k.cells d.1 d.2))).map fun t => (cBAD_PARAM, 0xC00000 + 12 * t)

/-- TILE_DIRECTORY (R227), at the first fault in the order given. -/
def State.directoryFault (v : State) (get : Nat → Nat → Nat) : TableFault :=
  let base := fun (i : Nat) => 0x20 + 32 * i
  let badSize := fun (i : Nat) => !decide (8 ≤ get (base i + 8) 2 ∧ get (base i + 8) 2 ≤ 640 ∧ 8 ≤ get (base i + 10) 2 ∧ get (base i + 10) 2 ≤ 640)
  let badRsvd := fun (i : Nat) => decide (2 ≤ get (base i + 0xD) 1) || get (base i + 0xE) 2 != 0
  if 3 < get 0 1 ∨ (get 0 1 = 3 ∧ v.mw.link.enabled = false) ∨ 32 < get 2 1 then some (cBAD_PARAM, 0)
  else match (List.range (get 2 1)).find? badSize with
    | some i => some (cBAD_PARAM, base i)
    | none =>
      if get 3 1 ≠ 0 ∨ get 8 24 ≠ 0 then some (cBAD_PARAM, 0)
      else ((List.range 32).find? badRsvd).map fun i => (cBAD_PARAM, base i)

/-- PORT_MAP (R229, R210): `v` has the maps, directories and rasters as they will be, `mine` the canvases whose maps this commit names. -/
def State.portMapFault (s v : State) (c : Nat) (mine : List Nat) (get : Nat → Nat → Nat) : TableFault :=
  let count := get 0 4
  let es := v.portMap c
  let others := (List.range 16).filter fun k => k != c
  let taken := fun (l : Nat) => others.any fun k =>
    ((v.portMap k).any fun e => e.loop == l) || (!mine.contains k && (s.portMap k).any fun e => e.loop == l)
  let overload := fun (l : Nat) => decide (v.lineBudget c l < (worstLine (v.loopEntries es l)).2)
  let entryFault := fun (i : Nat) =>
    let o := 12 * i
    let w := get o 4
    if 2 ^ 27 ≤ w ∨ get (o + 8) 4 ≠ 0 then some (cBAD_PARAM, o)
    else if !w.testBit 24 then none
    else
      let l := w % 65536
      let h := w / 65536 % 256
      let d := v.tileDims l h
      let twice := (es.takeWhile fun e => decide (e.num < i)).any fun e => e.loop == l && e.hop == h
      let inside := decide (l < 512 ∧ 1 ≤ h ∧ h ≤ v.dirCount l ∧ get (o + 4) 2 + d.1 ≤ v.cvp c P.CV_WIDTH 0 ∧ get (o + 6) 2 + d.2 ≤ v.cvp c P.CV_HEIGHT 0)
      if twice || taken l || !inside then some (cBAD_PARAM, o)
      else if ((es.find? fun e => e.loop == l).map fun e => e.num) = some i ∧ overload l = true then some (0x42, o)
      else none
  if 16384 < count ∨ get 4 8 ≠ 0 then some (cBAD_PARAM, 0)
  else (List.range count).findSome? fun i => entryFault (i + 1)

/-- The validation of a staging copy under its table's chapter (R74 step 3). -/
def State.tableFault (s v : State) (mine : List Nat) (t n : Nat) (m : SMap Byte) : TableFault :=
  let get := copyNum t n m
  if t = 0x0001 then s.portMapFault v n mine get
  else if t = 0x0002 then v.directoryFault get
  else if t = 0x0003 then v.unifFault get
  else if t = 0x0004 then firstListed m 4 fun o => o % 4 == 3
  else if t = 0x0005 then cubeFault get m
  else if t = 0x0006 then defectListFault get
  else if t = 0x0007 then lensFault get
  else toneFault get m

/-- The pairs that a TABLE_COMMIT names. -/
def commitPairs (c : Cmd) : List (Nat × Nat) := (List.range (c.opLen / 4)).map fun i => (c.f (32 * i) 16, c.f (32 * i + 16) 16)

/-- A commit accepted of this table copy has not yet taken effect (R74 step 2, R173). -/
def State.commitPending (s : State) (t n : Nat) : Bool := (s.pendingCopy t n).isSome

/-- Where the copies swap together (R74, R174): UNIF_CELLS beside other tables bring in every canvas with a mapped tile. -/
def State.commitBoundaries (s v : State) (l : List (Nat × Nat)) : List Boundary :=
  (l.flatMap fun e =>
    if e.1 = 0x0003 then ((List.range 16).filter fun c => !(v.portMap c).isEmpty || !(s.portMap c).isEmpty).map fun c => s.canvasBoundary c
    else s.tableBoundaries e.1 e.2).eraseDups

def tableCommitSpec : OpSpec := { op := 0x0022, len := fun c => c.opLen % 4 == 0 && decide (4 ≤ c.opLen ∧ c.opLen ≤ 32) }

/-- TABLE_COMMIT from its operands on (R6, R74). -/
def tableCommitBody : Body := fun k s =>
  let l := commitPairs k.c
  if l.any fun e => !s.fwSupportsTable e.1 then (s, .err cVERSION)
  else
  let copies := l.filterMap fun e => (s.staging? e.1 e.2).filter fun g => g.owner == k.c.win
  if copies.length ≠ l.length ∨ l.eraseDups.length ≠ l.length then (s, .err cBAD_PARAM)
  else if l.any fun e => s.commitPending e.1 e.2 then (s, .err cBUSY)
  else
    let ts := copies.map fun g => (g.table, g.num, g.bytes)
    let v := s.withTables ts
    let mine := (l.filter fun e => e.1 == 0x0001).map Prod.snd
    match ts.findSome? fun e => s.tableFault v mine e.1 e.2.1 e.2.2 with
    | some (code, off) => (s, .done code 8 off)
    | none =>
      let s1 : State := { s with ctl := { s.ctl with staging := s.ctl.staging.filter fun g => !copies.contains g }, colour := { s.colour with
        dirty := ((copies.find? fun g => g.table == 0x0003).map fun g => g.touched).getD s.colour.dirty } }
      let ticket := if k.c.immediate then none else some k.tk
      let ans : Ans := if k.c.immediate then .ok else .wait
      if l = [(0x0003, 0)] then
        ({ s1 with colour := { s1.colour with commit := some { bytes := (copies.map fun g => g.bytes).headD [], ticket := ticket } } }, ans)
      else
        (s1.stage [{ ats := s.commitBoundaries v l, what := .tables ts, ticket := ticket, left := 8 }], ans)

/-- TABLE_COMMIT. -/
def execTableCommit (c : Cmd) (s : State) : Result := guarded (.tableCommit c) s (submit tableCommitSpec tableCommitBody c s)

def tableDiscardSpec : OpSpec := .fixed 0x0023 4

/-- TABLE_DISCARD from step 7 on (R6, R74). -/
def tableDiscardBody : Body := fun k s =>
  let t := k.c.f 0 16
  let n := k.c.f 16 16
  if !s.fwSupportsTable t then (s, .err cVERSION)
  else if tableCount t ≤ n then (s, .err cBAD_PARAM)
  else match s.staging? t n with
    | none => (s, .ok)
    | some g =>
      if g.owner ≠ k.c.win ∧ k.c.win ≠ 0 then (s, .err cNOT_PERMITTED)
      else ({ s with ctl := { s.ctl with staging := s.ctl.staging.filter (· != g) } }, .ok)

/-- TABLE_DISCARD. -/
def execTableDiscard (c : Cmd) (s : State) : Result := guarded (.tableDiscard c) s (submit tableDiscardSpec tableDiscardBody c s)

/-! ### TABLE_SWAP -/

/-- Read-only bytes of a directory copy are ignored at commit (R227). -/
def hostDirectory (m : SMap Byte) : SMap Byte :=
  m.filter fun e => if e.1 < 0x20 then decide (e.1 < 4 ∨ 8 ≤ e.1) else decide ((e.1 - 0x20) % 32 < 0x10)

/-- UNIF_CELLS swapped with other tables (R174): every canvas with a mapped tile switches to the bank with the new contents; the other bank
gets them within 2 ms (UNIF_COMMIT_DONE). -/
def State.swapUnif (m : SMap Byte) (ticket : Option Nat) (s : State) : State :=
  let bank := 1 - s.colour.newest
  let s1 := s.fillBank bank m
  let s2 : State := { s1 with colour := { s1.colour with newest := bank, commit := some { bytes := m, copied := true, ticket := ticket } } }
  ((List.range 16).filter fun c => !(s2.portMap c).isEmpty).foldl (fun t c => t.switchBank c bank) s2

/-- A loop that a PORT_MAP no longer names has no load, and nothing of it is suspended (R229). -/
def State.loopUnmapped (l : Nat) (s : State) : State :=
  let s1 := s.setP (mwLoop l P.MW_PORT_LOAD) (l % 32) 0
  if (s1.loop l).suspended then ((s1.modLoop l fun y => { y with suspended := false }).clearService (.loopOverload l)).post 0x5C 0x7 l 0 else s1

/-- One committed copy becomes active, and what follows from it happens. -/
def State.swapTable (ticket : Option Nat) (e : Nat × Nat × SMap Byte) (s : State) : State :=
  let (t, n, m) := e
  if t = 0x0003 then s.swapUnif m ticket
  else if t = 0x0002 then
    let s1 := s.putTable t n (hostDirectory m)
    let s2 := s1.directoryCommitted n (s1.dirMode n != s.dirMode n || s1.dirCount n != s.dirCount n)
    match s2.loopCanvas n with
    | some c => s2.reviewLoads c false
    | none => s2
  else if t = 0x0001 then
    let old := s.canvasLoops n
    let s1 := s.putTable t n m
    let gone := old.filter fun l => !(s1.canvasLoops n).contains l
    (gone.foldl (fun u l => u.loopUnmapped l) s1).reviewLoads n true
  else s.putTable t n m

/-- Directories swap before the maps that are checked against them. -/
def swapOrder (l : List (Nat × Nat × SMap Byte)) : List (Nat × Nat × SMap Byte) :=
  (l.filter fun e => e.1 == 0x0002) ++ (l.filter fun e => e.1 != 0x0002 && e.1 != 0x0003) ++ l.filter fun e => e.1 == 0x0003

/-- One accepted commit takes effect: its copies become active together. A commit with UNIF_CELLS is answered after the second bank
has been written. -/
def State.swapCommit (g : Staged) (s : State) : State :=
  match g.what with
  | .tables l =>
    let s0 : State := { s with ctl := { s.ctl with staged := s.ctl.staged.filter (· != g) } }
    let s1 := (swapOrder l).foldl (fun t e => t.swapTable g.ticket e) s0
    if l.any fun e => e.1 == 0x0003 then s1 else s1.answerApplied [g]
  | _ => s

/-- TABLE_SWAP (R74): the commits all of whose boundaries are reached at this instant. -/
def execTableSwap (s : State) : Result :=
  guarded .tableSwap s ((s.ctl.staged.filter fun g => g.isTable && s.ready g).foldl (fun t g => t.swapCommit g) s)

end Sys2Proof.Machine
end

