-- ==== Sys2Proof/Machine/PartnersCmds.lean ====
section
/-! DEFINITION. Arrivals reported after 10 ms, quarantine and its release, for every kind of partner (R46, R47, R64). -/

namespace Sys2Proof.Machine

/-- The configured traffic of a partner that has left quarantine resumes (R47): an audio port starts syncing on its clock, the regions of an
expander come back, a tile and its loop are judged anew, a paired loop's findings are sent. Heads and sensors need no more than the mark. -/
def State.resumeTraffic (p : PartnerId) (s : State) : State :=
  if !(s.partner p).present then s
  else if p.kind = 2 then s.adjustFeed p.pos 5
  else if p.kind = 3 then (List.range 512).foldl (fun t l => t.sendPLoop l) s
  else if p.kind = 4 then (s.regionsOf p.pos).foldl (fun t r => t.rebuildRegion r) s
  else if p.kind = 6 then (if s.apState p.pos = 1 then s.setApState p.pos 2 2 else s)
  else s

/-- PARTNER_ARRIVAL_REPORT (R46): the partner has stayed present for 10 ms, a camera head in ACTIVE (R105). -/
def execPartnerArrivalReport (p : PartnerId) (s : State) : Result :=
  guarded (.partnerArrivalReport p) s <|
    let x := s.partner p
    if x.present && (p.kind != 0 || s.camState p.pos == 5) then (s.atLeast (x.since + 10000000)).reportArrival p else s

/-- QUARANTINE_EXPIRY (R46): a quarantined partner has been present for 60 s, so it leaves quarantine. -/
def execQuarantineExpiry (p : PartnerId) (s : State) : Result :=
  guarded (.quarantineExpiry p) s <|
    let x := s.partner p
    if x.present && x.quarantined then ((s.atLeast (x.since + 60000000000)).leaveQuarantine p).resumeTraffic p else s

/-- The partner that the operands of Table 2-24 name. -/
def namedPartner (c : Cmd) : PartnerId := { kind := c.f 0 8, pos := c.f 16 16, hop := c.f 32 8 }

def quarantineReleaseSpec : OpSpec := { op := 0x0042, priv := true, len := fun c => c.opLen == 8, rsvd := 0xFFFFFF000000FF00 }

/-- QUARANTINE_RELEASE from step 7 on (R64). -/
def quarantineReleaseBody : Body := fun k s =>
  let p := namedPartner k.c
  if p.wf && (s.partner p).quarantined then ((s.leaveQuarantine p).resumeTraffic p, .ok) else (s, .err cBAD_PARAM)

/-- QUARANTINE_RELEASE. -/
def execQuarantineRelease (c : Cmd) (s : State) : Result := guarded (.quarantineRelease c) s (submit quarantineReleaseSpec quarantineReleaseBody c s)

end Sys2Proof.Machine
end

