-- ==== Sys2Proof/Machine/Firmware.lean ====
section
/-! DEFINITION. Firmware images and the hitless switchover (R81, R83, R84): FW_STAGE, FW_ACTIVATE, FW_STATUS, FW_KEY_REVOKE, and the steps of
Table 2-22. -/

namespace Sys2Proof.Machine

/-- The bytes of a firmware slot: the header and the largest payload (Table 2-20). -/
abbrev fwSlotBytes : Nat := 0x1000000

/-- A firmware slot: 0 A, 1 B. -/
def State.fwSlot (s : State) (n : Nat) : FwSlot := if n = 0 then s.ctl.fwA else s.ctl.fwB

def State.setFwSlot (n : Nat) (x : FwSlot) (s : State) : State :=
  { s with ctl := if n = 0 then { s.ctl with fwA := x } else { s.ctl with fwB := x } }

/-- The slot that the running firmware did not come from; in RECOVERY the one not marked active. DESIGN CHOICE (log 139): FW_ACTIVATE with mode 1
does not change it, so that a later FW_STAGE erases the slot just marked active for the next cold reset. -/
def State.inactiveSlot (s : State) : Nat := 1 - (if s.ctl.boot = .recoveryImage then s.ctl.bootSlot else s.getP P.FW_ACTIVE_SLOT 0)

/-- A field of an image's header (Table 2-20). -/
abbrev fwField (l : List Byte) (o n : Nat) : Nat := ofLE ((l.drop o).take n)

/-- Slot `n` holds a valid image: its key is not revoked, and its security version is not below the floor (R81). -/
def State.slotValid (s : State) (n : Nat) : Bool :=
  let x := s.fwSlot n
  x.valid && !s.ctl.revoked.testBit x.key && decide (s.ctl.fwFloor ≤ x.security)

/-- MAGIC, HDR_VERSION and PAYLOAD_LEN are those of Table 2-20. DESIGN CHOICE (log 84): a KEY_INDEX above 3, or a staged length other than 512 +
PAYLOAD_LEN, counts as a bad header too. -/
def fwHeaderOk (l : List Byte) : Bool :=
  fwField l 0 4 == 0x46584C54 && fwField l 4 2 == 1 && decide (fwField l 6 2 < 4 ∧ fwField l 0x10 4 ≤ 16776704)
    && l.length == 0x200 + fwField l 0x10 4

/-- A big-endian field of an image's header: the point, the hash and the signature (Table 2-20; PRESUMED, log 7). -/
abbrev fwBE (l : List Byte) (o n : Nat) : Nat := ofBE ((l.drop o).take n)

/-- PUBLIC_KEY is an uncompressed point whose SHA-384 is the hash in one-time-programmable memory for KEY_INDEX (R81). -/
def fwKeyKnown (l : List Byte) : Bool := fwField l 0x20 1 == 4 && sha384 ((l.drop 0x20).take 97) == Config.otpKeyHash (fwField l 6 2)

/-- SIG_R and SIG_S verify over the SHA-384 of header bytes 0x000 to 0x0FF (R81). -/
def fwSignatureOk (l : List Byte) : Bool :=
  ecdsaVerify (fwBE l 0x21 48, fwBE l 0x51 48) (sha384 (l.take 0x100)) (fwBE l 0x100 48) (fwBE l 0x130 48)

/-- PAYLOAD_HASH matches the payload (R81). -/
def fwPayloadHashOk (l : List Byte) : Bool := sha384 (l.drop 0x200) == fwBE l 0xA0 48

/-- Stepping B1 supports the release: the one that the manual describes, and such others as it may (R6, R83). -/
def fwReleaseOk (release : Nat) : Bool := release / 65536 == 0x0401 || Config.fwReleaseSupported release

/-- The checks of R81 on a staged image: the completion code of the first that fails (R83). -/
def State.fwVerify (s : State) (l : List Byte) : Option Nat :=
  if !fwHeaderOk l then some cBAD_PARAM
  else if !fwKeyKnown l || s.ctl.revoked.testBit (fwField l 6 2) || !fwSignatureOk l || !fwPayloadHashOk l
    then some cBAD_SIGNATURE
  else if fwField l 0xC 4 < s.ctl.fwFloor then some cROLLBACK
  else if !fwReleaseOk (fwField l 8 4) then some cVERSION
  else none

def fwStageSpec : OpSpec :=
  { op := 0x0030, priv := true, len := fun c => c.opLen == 20, rsvd := 0xFFFFFFFC00000000000000000000000000000000, bus := fun _ => false }

/-- The last chunk has come: the image is verified, and marked valid or invalid. -/
def State.fwFinish (n : Nat) (x : FwSlot) (s : State) : State × Ans :=
  match s.fwVerify x.image with
  | some code => (s.setFwSlot n { x with valid := false, staged := false, next := 0 }, .err code)
  | none =>
    let y := { x with valid := true, staged := true, next := 0, release := fwField x.image 8 4, security := fwField x.image 0xC 4, key := fwField x.image 6 2 }
    ((s.setFwSlot n y).fwNotice 0 y.release, .ok)

/-- FW_STAGE from step 7 on (R83). -/
def fwStageBody : Body := fun k s =>
  let off := k.c.f 0 32
  let n := k.c.f 32 32
  let first := k.c.f 128 1 == 1
  let slot := s.inactiveSlot
  let x := s.fwSlot slot
  let expected := if first then 0 else x.next
  if n < 1 ∨ 0x1000000 < n ∨ fwSlotBytes < off + n ∨ off ≠ expected ∨ (first = false ∧ x.next = 0) then (s, .err cBAD_PARAM)
  else if s.ctl.switch.isSome then (s, .err cBUSY)
  else
    let l := s.hostRead (k.c.f 64 64) n
    let y : FwSlot := if first then { key := x.key } else x
    if l.length < n then (s.setFwSlot slot { y with valid := false, staged := false }, .err cABORTED)
    else
      let z := { y with image := y.image ++ l, next := off + n, valid := false, staged := false }
      if k.c.f 129 1 = 1 then s.fwFinish slot z else (s.setFwSlot slot z, .ok)

/-- FW_STAGE. -/
def execFwStage (c : Cmd) (s : State) : Result := guarded (.fwStage c) s (submit fwStageSpec fwStageBody c s)

def fwActivateSpec : OpSpec := { op := 0x0031, priv := true, len := fun c => c.opLen == 1, rsvd := 0xFC }

/-- FW_ACTIVATE from step 7 on (R84): mode 0 begins a switchover with DEFERRED, and FW_READY goes to 0 (Table 2-22, step 1). -/
def fwActivateBody : Body := fun k s =>
  let x := s.fwSlot s.inactiveSlot
  if s.ctl.switch.isSome then (s, .err cBUSY)
  else if !(s.slotValid s.inactiveSlot && (x.staged || k.c.f 0 1 == 1)) then (s, .err cNO_RESOURCE)
  else if k.c.f 0 1 = 1 then ({ s with ctl := { s.ctl with bootSlot := s.inactiveSlot } }, .ok)
  else
    let s1 := s.interimReply k.tk cDEFERRED
    let w : Switchover := { start := s.now, imported := false, ticket := k.tk, raiseFloor := k.c.f 1 1 == 1 }
    ({ s1 with ctl := { s1.ctl with fwReady := false, switch := some w } }, .wait)

/-- FW_ACTIVATE. -/
def execFwActivate (c : Cmd) (s : State) : Result := guarded (.fwActivate c) s (submit fwActivateSpec fwActivateBody c s)

/-- SWITCHOVER_IMPORT (Table 2-22, step 4): at t0 + 2 ms the new image starts and imports the state. -/
def execSwitchoverImport (s : State) : Result :=
  guarded .switchoverImport s <|
    match s.ctl.switch with
    | none => s
    | some w => { s with now := max s.now (w.start + 2000000), ctl := { s.ctl with switch := some { w with imported := true } } }

/-- SWITCHOVER_COMPLETE (Table 2-22, step 5). -/
def execSwitchoverComplete (s : State) : Result :=
  guarded .switchoverComplete s <|
    match s.ctl.switch with
    | none => s
    | some w =>
      if !w.imported then s
      else
        let n := s.inactiveSlot
        let x := s.fwSlot n
        let floor := if w.raiseFloor then max s.ctl.fwFloor x.security else s.ctl.fwFloor
        let s1 : State := { s with ctl := { s.ctl with switch := none, fwReady := true, bootSlot := n, fwFloor := floor } }
        let s2 := (((s1.setFwSlot n { x with staged := false }).setP P.FW_RELEASE 0 x.release).setP P.FW_ACTIVE_SLOT 0 n).setP P.FW_SECURITY_FLOOR 0 floor
        (s2.releaseReplies.finalReply w.ticket cOK 0 0).fwNotice 1 x.release

/-- SWITCHOVER_ROLLBACK (Table 2-22, step 6): the previous image runs again. -/
def execSwitchoverRollback (s : State) : Result :=
  guarded .switchoverRollback s <|
    match s.ctl.switch with
    | none => s
    | some w =>
      let s1 : State := { s with now := max s.now (w.start + 20000000), ctl := { s.ctl with switch := none, fwReady := true } }
      (s1.releaseReplies.finalReply w.ticket cABORTED 0 0).fwNotice 2 (s1.getP P.FW_RELEASE 0)

def fwStatusSpec : OpSpec := .fixed 0x0032 0

/-- The state of a firmware slot: 0 empty, 1 being staged or invalid, 2 valid, 3 valid and staged. -/
def FwSlot.stateCode (x : FwSlot) : Nat := if x.staged then 3 else if x.valid then 2 else if x.image.isEmpty then 0 else 1

/-- FW_STATUS from step 7 on: 32 bytes that give slot states, releases, security versions, floor and active slot; how they are laid out and the
codes of the slot states the manual leaves open (log 12). -/
def fwStatusBody : Body := fun _ s =>
  let f := fun (x : FwSlot) => [x.stateCode, x.release, x.security]
  (s, .done cOK 32 (Config.fwStatusLayout (f s.ctl.fwA ++ f s.ctl.fwB ++ [s.ctl.fwFloor, s.getP P.FW_ACTIVE_SLOT 0])))

/-- FW_STATUS. -/
def execFwStatus (c : Cmd) (s : State) : Result := guarded (.fwStatus c) s (submit fwStatusSpec fwStatusBody c s)

def fwKeyRevokeSpec : OpSpec := { op := 0x0033, priv := true, len := fun c => c.opLen == 8 }

/-- FW_KEY_REVOKE from step 7 on (Table 2-9): irreversible; the active image's own key stays. -/
def fwKeyRevokeBody : Body := fun k s =>
  let n := k.c.f 0 32
  if 4 ≤ n ∨ k.c.f 32 32 ≠ 0x5245564B then (s, .err cBAD_PARAM)
  else if (s.fwSlot (s.getP P.FW_ACTIVE_SLOT 0)).key = n then (s, .err cNOT_PERMITTED)
  else ({ s with ctl := { s.ctl with revoked := setBit s.ctl.revoked n } }, .ok)

/-- FW_KEY_REVOKE. -/
def execFwKeyRevoke (c : Cmd) (s : State) : Result := guarded (.fwKeyRevoke c) s (submit fwKeyRevokeSpec fwKeyRevokeBody c s)

end Sys2Proof.Machine
end

