-- ==== Sys2Proof/Machine/PowerChange.lean ====
section
/-! DEFINITION. Changes of power state as the canvases, the partner link and the commands meet them (R429, R432, R433, R446). -/

namespace Sys2Proof.Machine

/-- A change towards `target` begins: PW_STATE shows it (R447), an occurrence of POWER_STATE (R59). -/
def State.beginChange (target : Nat) (step : PwStep) (s : State) : State :=
  (State.setP { s with pw := { s.pw with step := step, start := s.now } } P.PW_STATE 0 (s.powerState + at' 8 target + 0x10000)).advanceAll

/-- A power state is reached: PW_STATE, PW_LAST_CHANGE, POWER_CHANGE (R446). -/
def State.reachPower (new reason : Nat) (s : State) : State :=
  let old := s.powerState
  let s1 : State := { s with pw := { s.pw with step := .none } }
  (((s1.setP P.PW_STATE 0 new).setP P.PW_LAST_CHANGE 0 s.now).advanceAll).post 0x98 0x0 0 (new + at' 8 old + at' 16 reason)

/-- The POWER_STATE_SETs that wait are answered with the state reached and its tick (R432, R445). -/
def State.answerPower (s : State) : State :=
  s.pw.tickets.foldl (fun t tk => t.finalReply tk cOK 12 (s.powerState + at' 32 s.now)) { s with pw := { s.pw with tickets := [] } }

/-- The entry to DARK begins, with HANDOVER by the handover of PARTNER_CONFIG action 2 (R433). -/
def State.beginDark (handover : Bool) (reason : Nat) (s : State) : State :=
  let s1 := State.beginChange 2 .awaitBoundary { s with pw := { s.pw with reason := reason, thenTarget := none, returnFrom := none } }
  if !handover then s1
  else if !s1.linkActive then s1.darkRefused 0x43
  else if s1.fedPaired.isEmpty then s1
  else State.handOver s1.fedPaired none { s1 with pw := { s1.pw with step := .handover } }

/-- A change between SHOW and INTERMISSION completes when no canvas is left to be held or to resume (R432). -/
def State.changeReview (s : State) : State :=
  if !s.pw.canvases.isEmpty then s
  else match s.pw.step with
    | .toShow => (s.reachPower 0 s.pw.reason).answerPower
    | .toIntermission =>
      let s1 := s.reachPower 1 s.pw.reason
      match s.pw.thenTarget with
      | some k => s1.beginDark (decide (256 ≤ k)) 0
      | none => s1.answerPower
    | _ => s

/-- A canvas has done its part of a change between SHOW and INTERMISSION. -/
def State.canvasSettled (c : Nat) (s : State) : State :=
  if s.pw.canvases.contains c then State.changeReview { s with pw := { s.pw with canvases := s.pw.canvases.filter (· != c) } } else s

def State.setHeld (c : Nat) (v : Bool) (s : State) : State :=
  { s with cv := { s.cv with cvs := SMap.set canvasDef s.cv.cvs c { s.canvas c with held := v } } }

/-- A show period of a running canvas starts at tick `t`: it is held from the first boundary after a change to INTERMISSION, and resumes at the first
one at least 100 µs after a change to SHOW (Table 15-6). -/
def State.holdCanvas (c t : Nat) (s : State) : State :=
  match s.pw.step with
  | .toIntermission => (s.setHeld c true).canvasSettled c
  | .toShow => if s.pw.start + 100000 ≤ t then (s.setHeld c false).canvasSettled c else s.setHeld c true
  | .none => s.setHeld c (s.powerState != 0)
  | _ => s.setHeld c true

end Sys2Proof.Machine
end

