-- ==== Sys2Proof/Machine/Show.lean ====
section
/-! DEFINITION. Show period and phase boundaries of canvases, their lines and fetches (R173, R180 to R184, R193, R195 to R202, R232). -/

namespace Sys2Proof.Machine

/-- The decoded picture that a packed value of `Canvas.picture` names: address and stride. -/
abbrev unpackPicture (v : Nat) : Option (Nat × Nat) := some (v % 2 ^ 64, v / 2 ^ 64)

/-- Each layer fed by a decoder takes its newest decoded picture for the show period (R193). -/
def State.selectPictures (c : Nat) (s : State) : State :=
  let pick := fun (l : Nat) => match s.cvp c P.LY_SOURCE l with
    | 0 => 0
    | e => ((s.newestPicture (e - 1)).map fun v => v + 1).getD 0
  s.modCanvas c fun x => { x with picture := (List.range 8).foldl (fun m l => SMap.set (fun _ => 0) m l (pick l)) [] }

/-- The handovers of a canvas's loops at the start of the show period of `tag`: those of F move, those not ready before F - 1 are abandoned
(Table 7-12). -/
def State.showHandovers (c tag : Nat) (s : State) : State :=
  (s.canvasLoops c).foldl (init := s) fun t l => match (t.loop l).handover with
    | some h =>
      if h.tag = some tag then (if h.goes then t.applyHandover l else t.abandonHandover l)
      else if h.tag = some (wrap32 (tag + 1)) ∧ h.goes = false then t.abandonHandover l else t
    | none => t

/-- A canvas has left RUNNING: no show period of it is to come for handovers, codec engines and power changes to wait for. -/
def State.leftRunning (c : Nat) (s : State) : State :=
  let s1 := (s.canvasLoops c).foldl (init := s.codecCanvasStopped c) fun t l => match (t.loop l).handover with
    | some h => if h.goes then t.applyHandover l else t.modLoop l fun y => { y with handover := some { h with tag := none } }
    | none => t
  s1.canvasSettled c

/-- A canvas's show period of `tag` starts at sub-tick `start`, and `rem` parts later, the parameters of the period in force. -/
def State.beginShow (c tag start rem : Nat) (s : State) : State :=
  let e := s.showEnd c start rem
  let s1 := s.modCanvas c fun x => { x with start := start, rem := rem, next := s.corrected start e.1, nextRem := e.2, tag := tag, phase := 0 }
  let s2 := (List.range 8).foldl (fun t l => t.setP (P.cv c P.LY_BASE_IN_FORCE) l (t.cvp c P.LY_BASE l)) (s1.settleFlips c tag)
  let s3 := ((s2.selectPictures c).holdCanvas c (start / subTick)).canvasReport c
  let s4 := if (s3.canvas c).held then s3.codecFree else s3.codecShowPeriod c
  ((((s4.unifSwitch c).unifFaults c).reviewLoads c false).chooseModes c).showHandovers c tag |>.calRuns

/-- The instant of a canvas's show period boundary in tick `t`: the exact one where it falls in that tick. -/
def Canvas.boundaryAt (x : Canvas) (t : Nat) : Nat × Nat := if x.next / subTick = t then (x.next, x.nextRem) else (t * subTick, 0)

/-- The raster parameters and CV_ENABLE that are staged for the boundary take effect; what else is staged for it stays so until the canvas starts
again (R184). -/
def State.applyRaster (c : Nat) (s : State) : State :=
  let ids := (P.CV_ENABLE :: rasterIds).map fun i => P.cv c i
  let mine := fun (e : Nat × Nat × Nat) => ids.contains e.1
  let ready := s.ctl.staged.filter fun g => !g.isTable && s.ready g
  let rest := fun (g : Staged) => match g.what with
    | .params l => { g with what := .params (l.filter fun e => !mine e) }
    | _ => g
  let kept := (s.ctl.staged.map fun g => if ready.contains g then rest g else g).filter fun g => match g.what with
    | .params l => !l.isEmpty
    | _ => true
  (State.applyWrites ((ready.flatMap Staged.writes).filter mine) { s with ctl := { s.ctl with staged := kept } }).answerApplied ready

/-- A RUNNING canvas comes to the end of its show period (R183, R184). -/
def State.nextShow (c t : Nat) (s : State) : State :=
  let tag := wrap32 ((s.canvas c).tag + 1)
  let at0 := (s.canvas c).boundaryAt t
  let s1 := (s.endShow c).reach (.show c)
  if s1.rasterReady c then
    let s2 := s1.applyRaster c
    if s2.cvp c P.CV_ENABLE 0 = 0 then (s2.enterCanvas c 0 0).leftRunning c else (s2.enterCanvas c 3 1).leftRunning c
  else
    let s2 := s1.applyReached (.show c)
    if s2.cvp c P.CV_ENABLE 0 = 0 then ((s2.settleFlips c tag).enterCanvas c 0 0).leftRunning c 
    else (s2.modCanvas c fun x => { x with prevStart := some x.start }).beginShow c tag at0.1 at0.2

/-- An ARMED canvas reaches *S* (R180, R183). -/
def State.firstShow (c t : Nat) (s : State) : State :=
  let tag := s.ring.tag
  let at0 := (s.canvas c).boundaryAt t
  let s1 := (s.applyReached (.show c)).modCanvas c fun x => { x with tag := tag }
  (s1.enterCanvas c 2 0).beginShow c tag at0.1 at0.2

/-- SHOW_PERIOD_BOUNDARY (R36, R180, R183). -/
def execShowPeriodBoundary (cv t : Nat) (s : State) : Result :=
  guarded (.showPeriodBoundary cv t) s <|
    let s := s.atLeast t
    match s.cvState cv with
    | 1 => s.firstShow cv t
    | 2 => s.nextShow cv t
    | _ => s

/-- The newest complete buffer of the store that an input reads, when its frame was delivered, and when it was complete. -/
def State.newestStore (s : State) (c i : Nat) : Option (Nat × Nat × Nat) :=
  (s.store (s.cvp c P.LI_PIPELINE i)).bind fun k => k.newest.map fun b => (b, (k.bufs.getD b {}).written, (k.bufs.getD b {}).doneAt)

/-- An input at a phase boundary (R197, R198): its buffer is selected; it is lost for the raster when the store has nothing fresh enough, or when
its first frame in its present mode has not come. -/
def State.phaseInput (c b i : Nat) (s : State) : State :=
  if s.cvp c P.LI_MODE i ≠ 2 then s
  else
    let new := s.newestStore c i
    let s1 := s.modCanvas c fun x => { x with selected := SMap.set (fun _ => 0) x.selected i ((new.map fun e => e.1 + 1).getD 0) }
    match new with
    | none => s1.loseInput c i
    | some e =>
      let s2 := if SMap.get (fun _ => 0) (s1.canvas c).waitSince i ≤ e.2.1 then s1.modCanvas c fun x => { x with waiting := clrBit x.waiting i } else s1
      if (s2.canvas c).waiting.testBit i ∨ e.2.2 * subTick + s.cvp c P.LI_STALE_PERIODS i * s.showPeriod c < b then s2.loseInput c i else s2

/-- PHASE_BOUNDARY (R181, R185, R197, R198): a phase raster begins, unless the canvas is held. -/
def execPhaseBoundary (cv phase : Nat) (s : State) : Result :=
  guarded (.phaseBoundary cv phase) s <|
    if s.cvState cv ≠ 2 ∨ s.cvp cv P.CV_PHASES 0 ≤ phase then s
    else
      let b := s.phaseTime cv phase
      let held := (s.canvas cv).held
      let s1 := (s.atLeast (b / subTick)).modCanvas cv fun x => { x with
        phase := phase, composing := !held, line := 0, offAt := [], lost := 0, selected := [], through := [], rows := []
        lfsr := (List.range 8).map fun l => lfsrSeed x.tag cv l phase }
      if held then s1 else (List.range 8).foldl (fun t i => if t.inputActive cv i && (t.cvp cv P.LI_PHASES i).testBit phase then t.phaseInput cv b i else t) s1

/-- CANVAS_LINE (R172, R179, R181, R199 to R202): a line of the phase raster that is being composed. -/
def execCanvasLine (cv phase y : Nat) (late : List (Nat × Nat)) (badCells : List Nat) (s : State) : Result :=
  guarded (.canvasLine cv phase y late badCells) s <|
    let x := s.canvas cv
    if s.cvState cv = 2 ∧ x.composing = true ∧ x.phase = phase ∧ y < s.cvp cv P.CV_TOTAL_LINES 0 then (s.badCellsFound cv badCells).canvasLine cv phase y late unpackPicture else s

/-- The instant from which LAYER_FETCH may read line `y` (R200), CV_FETCH_LEAD lines ahead, and whether the line belongs to the next phase raster: none where
the line is past, where the source has no room for it (CV_FETCH_LEAD + 1 lines), or where the source is switched off. -/
def State.fetchAt (s : State) (c src y : Nat) : Option (Nat × Bool) :=
  let x := s.canvas c
  let lead := s.cvp c P.CV_FETCH_LEAD 0
  let total := s.cvp c P.CV_TOTAL_LINES 0
  let line := s.showTime c 1 (max (s.cvp c P.CV_PHASES 0) 1 * max total 1) - x.start
  if s.cvState c = 1 then (if y < lead then some (x.next - (lead - y) * line, true) else none)
  else if s.cvState c ≠ 2 ∨ x.held = true then none
  else if y < x.line then
    (if y + total ≤ x.line + lead ∧ y < lead then some (s.composeTime c x.phase (total + y - lead), true) else none)
  else if y ≤ x.line + lead ∧ (SMap.find src x.offAt).isNone then
    some (if lead ≤ y then s.composeTime c x.phase (y - lead) else s.phaseTime c x.phase - (lead - y) * line, false)
  else none

/-- LAYER_FETCH (R200): the reads for a source's line. Those for the first lines of a raster are made in the one before it; before the first raster of
a show period they are of the bases and pictures that the period will have. -/
def execLayerFetch (cv src y : Nat) (s : State) : Result :=
  guarded (.layerFetch cv src y) s <|
    match s.fetchAt cv src y with
    | none => s
    | some (t, early) =>
      let s1 := s.atLeast (t / subTick)
      if early ∧ (s.cvState cv = 1 ∨ s.cvp cv P.CV_PHASES 0 ≤ (s.canvas cv).phase + 1) then
        let v := (s1.preview.selectPictures cv).fetchLine cv src y unpackPicture
        s1.modCanvas cv fun k => { k with fetched := (v.canvas cv).fetched }
      else s1.fetchLine cv src y unpackPicture

end Sys2Proof.Machine
end

