-- ==== Sys2Proof/Machine/Pictures.lean ====
section
/-! DEFINITION. Codec pictures: their starts, their completion, the decoders' input; and FRAME_DONE, at which captures start (R31, R202, R359 to R373). -/

namespace Sys2Proof.Machine

/-! ### Starts (R359, R411) -/

/-- A picture boundary of an engine: an unfinished picture is dropped, a stream that was to end is released, staged writes take effect. -/
def State.pictureBoundary (e : Nat) (s : State) : State :=
  let s1 := if (s.engine e).work.isSome then s.dropPicture e else s
  if (s1.engine e).closing.isSome then s1.releaseEngine e else s1.applyReached (.picture e)

/-- The throttle step skips the engine's `n`-th picture (Table 14-5). -/
def State.throttled (s : State) (n : Nat) : Bool :=
  let k := s.getP P.TH_STEP 0
  decide (4 ≤ k) || (k == 3 && n % 2 == 1)

/-- *F* before a picture (R363). -/
def State.vbvFull (s : State) (e : Nat) : Nat :=
  let top := s.vcp e P.VC_VBV_KBITS * 1000
  let x := s.engine e
  if x.first then top
  else
    let i := s.divInterval e (s.vcp e P.VC_CAP_CANVAS)
    min top (s.vcp e P.VC_VBV_FULL - x.prevBits + s.vcp e P.VC_BITRATE * 1000 * i.1 / (i.2 * 1000000000))

/-- The open clip of the bin that an encoder appends to, 0 without one. -/
def State.encClip (s : State) (e : Nat) : Nat :=
  let b := s.vcp e P.VC_ENC_BIN
  if b < 64 ∧ s.binState b = 4 then (((s.bin? b).bind Bin.openClip).map fun c => c.id).getD 0 else 0

/-- The triggers of Table 12-4 that stand before a picture. -/
def State.idrReasons (s : State) (e : Nat) : List Nat :=
  let x := s.engine e
  let c := s.encClip e
  x.idr ++ (if s.vcp e P.VC_GOP ≤ x.gop then [0] else []) ++ (if x.first then [5] else []) ++ (if x.clip ≠ 0 ∧ c ≠ 0 ∧ c ≠ x.clip then [2] else [])

/-- The proxy source buffers fit the capture's size: others are allocated when the geometry has changed (R360). -/
def State.captureBuffers (e : Nat) (s : State) : State :=
  let k := s.capture e
  let x := s.engine e
  if x.bufs ≠ [] ∧ x.width = k.outW ∧ x.height = k.outH then s
  else
    let s1 := (x.bufs.foldl (fun t a => t.freeBuffer a) s).modEngine e fun y => { y with bufs := [] }
    let r := s1.codecAlloc e (ycStride k.outW * k.outH) 2
    r.1.modEngine e fun y => { y with bufs := r.2.1, width := k.outW, height := k.outH }

/-- The FRAME_DONE point of a captured phase raster: the picture starts (R359, R360, R362, R363), and whether a capture was written. -/
def State.encodeStart (e cv phase : Nat) (s : State) : State × Bool :=
  let due := fun (t : State) => t.vcp e P.VC_MODE == 1 && t.vcState e == 2 && t.vcp e P.VC_CAP_CANVAS == cv && t.vcp e P.VC_CAP_PHASE == phase
    && (t.engine e).period != 0 && ((t.engine e).period - 1) % max (t.vcp e P.VC_DIV) 1 == 0
  if !due s then (s, false)
  else
    let s1 := s.pictureBoundary e
    if !due s1 then (s1, false)
    else
      let full := s1.vbvFull e
      let s2 := ((s1.setP (P.vc e P.VC_VBV_FULL) 0 full).modEngine e fun x => { x with prevBits := 0 }).captureBuffers e
      let x := s2.engine e
      match x.bufs with
      | [] => (s2.dropPicture e, false)
      | a :: r =>
        if s2.throttled ((x.period - 1) / max (s2.vcp e P.VC_DIV) 1) then (s2.dropPicture e, false)
        else
          let why := s2.idrReasons e
          let reason := why.foldl (fun (m : Option Nat) v => some (match m with
            | some k => min k v
            | none => v)) none
          let w : PicWork := { number := x.number, tag := (s2.canvas cv).tag, start := s2.now, phase := phase, idr := reason, budget := full, buffer := a
                               deadline := s2.now + s2.vcp e P.VC_DIV * s2.showPeriod cv / subTick }
          let clip := s2.encClip e
          let s3 := (s2.writeCapture e a).modEngine e fun y => { y with
            work := some w, bufs := r ++ [a], clip := if clip = 0 then y.clip else clip
            idr := if reason.isSome then [] else y.idr, keys := if reason.isSome then [] else y.keys }
          match reason with
          | none => (s3, true)
          | some k => (x.keys.foldl (fun t tk => t.finalReply tk cOK 4 x.number) (s3.postVc 0x81 e (x.number + at' 32 k)), true)

/-! ### FRAME_DONE (R198, R202, R203) -/

/-- Inputs that came through a phase raster without loss are restored (R198). -/
def State.restoreInputs (c p : Nat) (s : State) : State :=
  (List.range 8).foldl (init := s) fun t i =>
    if (t.canvas c).lost.testBit i || !(t.cvp c P.LI_PHASES i).testBit p then t
    else
      let was := (t.canvas c).lostPosted.testBit i
      let t1 := t.modCanvas c fun x => { x with lostPosted := clrBit x.lostPosted i, waiting := clrBit x.waiting i }
      if was && t.cvp c P.LI_MODE i != 0 then t1.postCv 0x52 c (i + at' 8 (t.cvp c P.LI_LOSS i)) else t1

/-- FRAME_DONE (R202): the phase raster's output is complete; encoders that capture it start their pictures. With a capture the event waits for the
capture's frame-close fence. -/
def execFrameDone (cv : Nat) (done : PhaseDone) (s : State) : Result :=
  guarded (.frameDone cv done) s <|
    let phase := done.phase
    let x := s.canvas cv
    if s.cvState cv ≠ 2 ∨ x.composing = false ∨ x.phase ≠ phase then s
    else
      let h := s.cvp cv P.CV_HEIGHT 0
      let t := (s.composeTime cv phase (h - 1) + (s.cvp cv P.CV_WIDTH 0 / 8 + 60) * subTick * 5 / 6) / subTick
      let s1 := ((s.atLeast t).setP (P.cv cv P.CV_SOURCES_OFF) 0 x.offMask).modCanvas cv fun y => { y with lostPrev := y.lost }
      let s2 := s1.restoreInputs cv phase
      let r := (List.range 2).foldl (fun (a : State × Bool) e => let b := a.1.encodeStart e cv phase; (b.1, a.2 || b.2)) (s2, false)
      let s3 := if r.2 then r.1.atLeast done.fence else r.1
      if s3.eventEnabled cv 2 phase then s3.postCv 0x12 cv (phase + at' 2 (b2n r.2) + at' 16 x.offMask) else s3

/-! ### Encode completion (R362 to R366) -/

/-- The first CTU that the budget test of R364 clamps: `c` is the next CTU, `bits` the CTUs' bits from it on. -/
def firstClamped (budget floor ctus perSlice slices : Nat) (heads : List Nat) : List Nat → Nat → Nat → Option Nat
  | [], _, _ => none
  | b :: r, c, spent =>
    let spent1 := if c % max perSlice 1 = 0 then spent + heads.getD (c / max perSlice 1) 0 else spent
    let begun := c / max perSlice 1 + 1
    if budget < spent1 + b + floor * (ctus - c - 1) + 4096 * (slices - begun) then some c
    else firstClamped budget floor ctus perSlice slices heads r (c + 1) (spent1 + b)

/-- The body of a PICTURE record (Table 12-5). -/
def pictureBody (r : PicRecord) (profile : Nat) (nal : List Byte) : List Byte :=
  leBytes r.number 4 ++ leBytes r.poc 4 ++ leBytes r.picType 1 ++ leBytes ((if r.picType = 0 then 2 else 0) + r.flags / 2 % 2) 1
    ++ leBytes r.firstClamped 2 ++ leBytes nal.length 4 ++ leBytes r.width 2 ++ leBytes r.height 2 ++ leBytes r.phase 1
    ++ leBytes profile 1 ++ leBytes r.skipped 2 ++ leBytes 0 8 ++ nal

/-- A completed picture goes to its bin; whether it is there, or no bin is named (R365, R366). -/
def State.appendPicture (e : Nat) (r : PicRecord) (nal : List Byte) (s : State) : State × Bool :=
  let b := s.vcp e P.VC_ENC_BIN
  if 64 ≤ b then (s, true)
  else if s.binState b ≠ 4 ∨ s.captureHeld then (s, false)
  else s.storeNow (32 + e) 6 r.tag r.number (pictureBody r (s.vcp e P.VC_ENC_PROFILE) nal) [b]

/-- The units of a picture of `width` × `height` whose places are poisoned in the buffers at `bases` (R285). DESIGN CHOICE (log 155): a picture predicts from
the same place of its reference, where poison counts as a marked unit (R370). -/
def State.poisonUnits (s : State) (bases : List Nat) (width height : Nat) : List Nat :=
  let stride := max (ycStride width) 1
  bases.flatMap fun b => s.dram.poison.flatMap fun p =>
    if p.1 + p.2 ≤ b ∨ b + stride * height ≤ p.1 then []
    else (List.range (cdiv p.2 32)).filterMap fun i =>
      let o := max p.1 b - b + 32 * i
      if o / stride < height ∧ o % stride / 4 < width then some (o / stride / 64 * cdiv width 64 + o % stride / 4 / 64) else none

/-- A picture with marked units is counted and posted (R370). -/
def State.pictureDamaged (e number units extra : Nat) (s : State) : State :=
  if units = 0 then s else (s.bumpSat (P.vc e P.VC_DAMAGED) 0 1).postVc 0x82 e (number + at' 32 units + at' 48 extra)

/-- An encoded picture completes (R363 to R366, R373); its source read poisoned damages it (R285). -/
def State.encodeDone (e t : Nat) (w : PicWork) (o : PicOutcome) (s : State) : State :=
  let x := s.engine e
  let idr := w.idr.isSome
  let cols := ctuCols x.width
  let ctus := cols * ctuRows x.height
  let rows := s.vcp e P.VC_SLICE_ROWS
  let perSlice := if rows = 0 then ctus else cols * rows
  let clamp := firstClamped w.budget (if idr then 768 else 32) ctus perSlice (slicesOf rows (ctuRows x.height)) o.headBits o.ctuBits 0 (if idr then 8192 else 0)
  let row := (clamp.map fun c => c / max cols 1).getD 0xFFFF
  let marked := (s.poisonUnits [w.buffer] x.width x.height).eraseDups
  let r : PicRecord := { tag := w.tag, number := w.number, poc := o.poc, picType := if idr then 0 else 2
                         flags := 16 + 2 * b2n clamp.isSome + b2n (!marked.isEmpty), damage := marked
                         firstClamped := row, buffer := w.buffer, stride := ycStride x.width, width := x.width, height := x.height
                         start := w.start, done := t, bits := min o.bits w.budget, budget := w.budget, qp := o.qpAvg, phase := w.phase, skipped := x.skipped }
  let s0 := s.pictureDamaged e w.number marked.length 0
  let s1 := if clamp.isSome then (s0.bumpSat (P.vc e P.VC_CLAMPED) 0 1).postVc 0x83 e (w.number + at' 32 row + at' 48 w.budget) else s0
  let s2 := if idr then s1.bumpWrap (P.vc e P.VC_KEYS) 0 1 else s1
  let a := (s2.keepRecord e r).appendPicture e r o.nal
  a.1.modEngine e fun y => { y with
    work := none, first := false, prevBits := r.bits, number := wrap32 (y.number + 1), skipped := 0
    gop := if idr then 1 else y.gop + 1, idr := if a.2 then y.idr else 3 :: y.idr }

/-! ### Decode input (R367) -/

/-- Where start codes stand in a byte stream. -/
def startCodes : List Byte → Nat → List Nat
  | a :: b :: c :: r, i =>
    if a = 0 ∧ b = 0 ∧ c = 1 then i :: startCodes (b :: c :: r) (i + 1) else startCodes (b :: c :: r) (i + 1)
  | _, _ => []

/-- nal_unit_type of the NAL unit whose start code stands at `p`, and its first_slice_segment_in_pic_flag. -/
def nalType (l : List Byte) (p : Nat) : Nat := byteAt l (p + 3) / 2 % 64
def nalFirst (l : List Byte) (p : Nat) : Bool := (byteAt l (p + 5)).testBit 7

/-- After a VCL NAL unit, a NAL unit of such a type, or another picture's first slice segment, begins the next access unit. -/
def nalOpens (l : List Byte) (p : Nat) : Bool :=
  let n := nalType l p
  if n < 32 then nalFirst l p else n ≤ 35 || n == 39 || (41 ≤ n && n ≤ 44) || (48 ≤ n && n ≤ 55)

/-- Where the first access unit of a stream ends, given its start codes; and the type of its first VCL NAL unit so far. -/
def unitEnd (l : List Byte) : List Nat → Option Nat → Option Nat × Option Nat
  | [], v => (none, v)
  | p :: r, v =>
    if v.isSome && nalOpens l p then (some p, v)
    else unitEnd l r (v.orElse fun _ => if nalType l p < 32 then some (nalType l p) else none)

/-- The next access unit of DECODE_HOST: the unit, its picture's NAL unit type, and what follows. A last unit is whole once the stream has ended. -/
def nextUnit (l : List Byte) (ended : Bool) : Option (List Byte × Nat × List Byte) :=
  match unitEnd l (startCodes l 0) none with
  | (some p, some v) => some (l.take p, v, l.drop p)
  | (none, some v) => if ended then some (l, v, []) else none
  | _ => none

/-- The next access unit that decoding takes from the ring: units before the first IRAP picture, and RASL pictures of a CRA picture at which it
begins, are discarded. -/
def State.hostUnit (e : Nat) : Nat → State → State × Option (List Byte × Bool)
  | 0, s => (s, none)
  | n + 1, s =>
    let x := s.engine e
    match nextUnit x.input (x.ended && x.feeds.isEmpty) with
    | none => (s, none)
    | some (u, v, rest) =>
      let irap := decide (16 ≤ v ∧ v ≤ 23)
      let s1 := s.modEngine e fun y => { y with
        input := rest, begun := y.begun || irap, skipRasl := if irap then !y.begun && v == 21 else y.skipRasl }
      if (!x.begun && !irap) || (x.skipRasl && (v == 8 || v == 9)) then State.hostUnit e n s1 else (s1, some (u, irap))

/-- A bin's picture records of a recorded engine, by clip. -/
def State.proxyRecords (s : State) (e : Nat) : List (Nat × List Rec) :=
  match s.bin? (s.engine e).bin with
  | none => []
  | some x => x.clips.map fun c => (c.id, c.recs.filter fun r => r.typ == 6 && r.source == 32 + (s.engine e).recEngine)

/-- The record holds an IDR picture. -/
def Rec.isIdr (r : Rec) : Bool := r.field 0x28 1 == 0

/-- Where DECODE_BIN begins in its clip: the last IDR at or before the frame tag, or the first (R367). -/
def proxyStart (tag : Nat) (l : List Rec) : Option Rec :=
  let idrs := l.filter Rec.isIdr
  match (idrs.filter fun r => decide ((tag + 0x100000000 - r.tag) % 0x100000000 < 0x80000000)).getLast? with
  | some r => some r
  | none => idrs.head?

/-- The next picture of DECODE_BIN. A clip that it needs and that has been shed is passed over with STREAM_ERROR, to the first IDR of the oldest
newer clip held. -/
def State.binUnit (e : Nat) (s : State) : State × Option (List Byte × Bool) :=
  let x := s.engine e
  let l := s.proxyRecords e
  let give := fun (t : State) (clip : Nat) (r : Rec) =>
    (t.modEngine e fun y => { y with clip := clip, nextSeq := some (r.seq + 1), begun := true, badUnit := !(t.recPoison r).isEmpty },
      some ((r.body.drop 0x20).take (r.field 0x2C 4), r.isIdr))
  let here := l.find? fun c => c.1 == x.clip
  let later := l.filter fun c => decide (x.clip < c.1)
  let fresh := later.findSome? fun c => (c.2.find? Rec.isIdr).map fun r => (c.1, r)
  match here with
  | none => match fresh with
    | some (c, r) => give (s.streamError e 3 x.number) c r
    | none => (s, none)
  | some c => match x.nextSeq with
    | none => match proxyStart x.tag c.2 with
      | some r => give s c.1 r
      | none => match fresh with
        | some (k, r) => give s k r
        | none => (s, none)
    | some q => match (c :: later).findSome? fun k => (k.2.find? fun r => decide (q ≤ r.seq)).map fun r => (k.1, r) with
      | some (k, r) => give s k r
      | none => (s, none)

/-- The stream has been read to its end. -/
def Engine.atEnd (x : Engine) : Bool := x.ended && x.feeds.isEmpty && (nextUnit x.input true).isNone

/-- A pacing boundary of a decode stream has come (R359): when, if it is paced by VC_DEC_INTERVAL. -/
def State.paceTime (s : State) (e : Nat) : Option Nat :=
  let x := s.engine e
  if s.vcp e P.VC_DEC_PACE = 255 then x.pace else if x.paceDue then some 0 else none

/-- The stream's next pacing boundary is the one after this. -/
def State.nextPace (e p : Nat) (s : State) : State :=
  let d := s.vcp e P.VC_DEC_INTERVAL
  s.modEngine e fun x => { x with paceDue := false, pace := x.pace.map fun _ => p + d }

/-- DECODE_PACE (R359, R367, R369): a pacing boundary; the next picture in decoding order starts. -/
def execDecodePace (engine t : Nat) (s : State) : Result :=
  guarded (.decodePace engine t) s <|
    let e := engine
    let s := s.atLeast t
    if s.vcState e = 0 ∨ s.vcState e = 3 ∨ s.vcp e P.VC_MODE < 2 then s
    else match s.paceTime e with
    | none => s
    | some p =>
      let s1 := ((s.atLeast p).nextPace e p).pictureBoundary e
      let pace := s1.vcp e P.VC_DEC_PACE
      if s1.vcState e = 0 then s1
      else if (pace < 16 ∧ s1.cvState pace ≠ 2) ∨ s1.powerState = 2 ∨ s1.captureHeld then
        (if s1.vcState e = 2 then s1.setVcState e 1 4 else s1)
      else
        let host := s1.vcp e P.VC_MODE = 2
        let r := if host then s1.hostUnit e ((s1.engine e).input.length + 1) else s1.binUnit e
        let s2 := if host then (State.takeFeeds e (r.1.engine e).feeds.length r.1).inputReport e else r.1
        match r.2 with
        | none =>
          if host ∧ (s2.engine e).atEnd then s2.setVcState e 3 3
          else if !host ∧ s2.vcState e = 2 then s2.setVcState e 1 3 else s2
        | some (u, irap) =>
          let s3 := if irap then (let v := s2.applyReached (.irap e); v.modEngine e fun y => { y with mode := v.vcp e P.VC_DEC_MODE }) else s2
          let s4 := if s3.vcState e = 1 then s3.setVcState e 2 0 else s3
          let n := (s4.engine e).number
          let gap := if pace < 16 then s4.vcp e P.VC_DIV * s4.showPeriod pace / subTick else s4.vcp e P.VC_DEC_INTERVAL
          let w : PicWork := { number := n, tag := if pace < 16 then (s4.canvas pace).tag else s4.ring.tag, start := s4.now
                               deadline := (if pace < 16 then s4.now else p) + gap, idr := if irap then some 0 else none, unit := u
                               poisoned := !host && (s4.engine e).badUnit }
          let s5 := s4.modEngine e fun y => { y with work := some w, number := wrap32 (y.number + 1) }
          if s5.throttled n then s5.dropPicture e else s5

/-! ### Decode completion (R368 to R371) -/

/-- A picture's words in the YC422 layout at (x, y) (R368). -/
def pictureWord (o : PicOutcome) (x y : Nat) : Nat :=
  let up := fun (v : Nat) => if o.bitDepth = 8 then v * 4 else v
  let c := if o.chroma = 0 then 512
    else
      let i := (if o.chroma = 1 then y / 2 else y) * cdiv o.width 2 + x / 2
      up ((if x % 2 = 0 then o.cb else o.cr).getD i (if o.bitDepth = 8 then 128 else 512))
  up (o.y.getD (y * o.width + x) 0) + at' 10 c

/-- The output line of a decoded picture; a concealed unit is copied from the last good picture, or is mid-grey (R371). -/
def State.outputRow (s : State) (o : PicOutcome) (conceal : Bool) (good : Option Nat) (y : Nat) : List Byte :=
  (List.range o.width).flatMap fun x =>
    if conceal && o.marked.contains (y / 64 * cdiv o.width 64 + x / 64) then
      (match good with
      | some a => s.devRead (a + y * ycStride o.width + 4 * x) 4
      | none => leBytes (512 + at' 10 512) 4)
    else leBytes (pictureWord o x y) 4

/-- An SPS is activated (R355, R368, R371): it is supported and its output buffers are had, or pictures are dropped until another IRAP. -/
def State.activateSps (e number : Nat) (sps : Nat × Nat × Nat × Bool) (o : PicOutcome) (s : State) : State :=
  let (w, h, dpb, fits) := sps
  let x := s.engine e
  let compat := decide (w ≤ 4096 ∧ h ≤ 2176) && o.chroma == 1 && decide (o.bitDepth ≤ 10)
  if !fits || !(pictureSizeOk 1 w h && decide (o.bitDepth ≤ 10 ∧ o.chroma ≤ 2)) || (x.mode == 1 && !compat) then (s.streamError e 1 number).modEngine e fun y => { y with badSps := some 1 }
  else
    let s1 := (s.modEngine e fun y => { y with freeing := y.freeing ++ y.bufs, bufs := [], pics := [], newest := none, good := none }).codecFree
    let r := s1.codecAlloc e (ycStride w * h) (dpb + 2)
    match r.2.2 with
    | some _ => (r.1.streamError e 2 number).modEngine e fun y => { y with badSps := some 2 }
    | none => r.1.modEngine e fun y => { y with bufs := r.2.1, width := w, height := h, badSps := none }

/-- The output process outputs a picture: its frame done (R368). -/
def State.outputPicture (e t : Nat) (s : State) (n : Nat) : State :=
  match (s.engine e).pics.find? fun p => p.1 == n with
  | none => s
  | some p =>
    let sound := (s.engine e).records.any fun r => r.number == n && r.damage.isEmpty
    s.modEngine e fun y => { y with
      newest := some p, good := if sound then some p.2 else y.good, pics := y.pics.filter fun q => q.1 != n
      records := y.records.map fun r => if r.number = n then { r with done := t } else r }

/-- A decoded picture completes; a poisoned record damages it whole, poisoned references where they are (R285). -/
def State.decodeDone (e t : Nat) (w : PicWork) (o0 : PicOutcome) (s : State) : State :=
  let e0 := s.engine e
  let refs := e0.pics.map Prod.snd ++ (e0.newest.map Prod.snd).toList
  let bad := if w.poisoned then List.range (cdiv o0.width 64 * cdiv o0.height 64) else if o0.picType < 2 then [] else s.poisonUnits refs o0.width o0.height
  let o := { o0 with marked := (o0.marked ++ bad).eraseDups }
  let s0 := match o.sps with
    | some k => s.activateSps e w.number k o
    | none => s
  let x := s0.engine e
  let used := fun (a : Nat) => s0.pictureSelected a || x.newest.any (fun p => p.2 == a) || x.good == some a || x.pics.any fun p => p.2 == a
  match (if x.badSps.isSome then none else x.bufs.find? fun a => !used a) with
  | none => (s0.bumpSat (P.vc e P.VC_SKIPPED) 0 1).modEngine e fun y => { y with work := none, skipped := y.skipped + 1 }
  | some a =>
    let compat := x.mode == 1
    let s1 := if o.syntaxError then s0.streamError e 0 w.number else s0
    let s2 := if o.missingRef && !compat then s1.streamError e 4 w.number else s1
    let damaged := !o.marked.isEmpty
    let flags := b2n damaged + 4 * b2n (o.missingRef && !compat) + 8 * b2n (compat && damaged)
    let s3 := s2.pictureDamaged e w.number o.marked.length (flags / 4 % 2 + 2 * (flags / 8))
    let s4 := (List.range o.height).foldl (fun u y => u.devWrite (a + y * ycStride o.width) (s0.outputRow o compat x.good y) 32) s3
    let r : PicRecord := { tag := w.tag, number := w.number, poc := o.poc, picType := o.picType, flags := flags, buffer := a
                           stride := ycStride o.width, width := o.width, height := o.height, start := w.start, done := t, bits := o.bits, qp := o.qpAvg
                           skipped := x.skipped, damage := o.marked }
    let s5 := (s4.keepRecord e r).modEngine e fun y => { y with work := none, skipped := 0, pics := y.pics ++ [(w.number, a)] }
    o.output.foldl (fun u n => u.outputPicture e t n) s5

/-- What follows the end of a picture: a decode stream that has been read to its end is ENDED; a stream that was to end, and that no boundary
will reach, is released. -/
def State.afterPicture (e : Nat) (s : State) : State :=
  let s1 := if s.vcp e P.VC_MODE = 2 ∧ (s.vcState e = 2 ∨ s.vcState e = 1) ∧ (s.engine e).atEnd then s.setVcState e 3 3 else s
  if (s1.engine e).closing.isSome ∧ s1.vcState e ≠ 2 ∧ (s1.engine e).work.isNone then s1.releaseEngine e else s1

/-- PICTURE_DONE (R359): the picture in progress completes, unless its deadline has passed. -/
def execPictureDone (engine t : Nat) (o : PicOutcome) (s : State) : Result :=
  guarded (.pictureDone engine t o) s <|
    let s := s.atLeast t
    match (s.engine engine).work with
    | none => s
    | some w =>
      State.afterPicture engine
        (if w.deadline < t then s.dropPicture engine
        else if s.vcp engine P.VC_MODE = 1 then s.encodeDone engine t w o else s.decodeDone engine t w o)

/-- PICTURE_DEADLINE (R37, R359): the picture in progress is dropped. -/
def execPictureDeadline (engine : Nat) (s : State) : Result :=
  guarded (.pictureDeadline engine) s <|
    match (s.engine engine).work with
    | none => s
    | some w => State.afterPicture engine ((s.atLeast w.deadline).dropPicture engine)

end Sys2Proof.Machine
end

