-- ==== Sys2Proof/Machine/Frames.lean ====
section
/-! DEFINITION. Frames at the demultiplexer: FRAME_START, LINE, FRAME_END, EMBEDDED, orphans, the settings ID gate, and the boundaries that a
frame start and a TDM frame are (03, R148, R379). -/

namespace Sys2Proof.Machine

/-- Photosite `j` of a line packed at `b` bits (R93). -/
def photositeAt (l : List Byte) (b j : Nat) : Nat := fieldAt l (j * b / 8) 4 / 2 ^ (j * b % 8) % 2 ^ b

/-- The photosite codes of a LINE payload (R93). -/
def lineCodes (l : List Byte) (b w : Nat) : List Nat := (List.range w).map (photositeAt l b)

/-- The bytes of a line of a format (R93). -/
def formatLineBytes (f : Format) : Nat := f.width * f.bits / 8

/-- Lines from the next one up to `n` are replaced by copies of line *k* - 2, or by 0 (R107); how many. -/
def Frame.fill (f : Frame) (n : Nat) : Frame :=
  (List.range (n - f.lines.length)).foldl (init := f) fun g _ =>
    let k := g.lines.length
    { g with damaged := true, lines := g.lines ++ [(if k < 2 then List.replicate g.fmt.width 0 else g.codes (k - 2), true)] }

/-- A good line joins the frame. -/
def Frame.addLine (f : Frame) (l : List Byte) : Frame := { f with lines := f.lines ++ [(lineCodes l f.fmt.bits f.fmt.width, false)] }

/-- Missing lines of the open frame of sensor `k` are replaced and counted (R106, R107). -/
def State.fillLines (p k n : Nat) (s : State) : State :=
  match (s.pipe p).cur with
  | none => s
  | some f => (s.modPipe p fun x => { x with cur := some (f.fill n) }).bumpSat (P.cg (k / 4) P.CG_LINES_REPLACED) (k % 4) (n - f.lines.length)

/-- The open frame of sensor `k` on pipeline `p` closes: it is processed, recorded and written to its frame store (R106, R108). DESIGN CHOICE (log 147):
CG_LAST_SETTINGS follows delivered frames only. -/
def State.closeFrame (p k : Nat) (s : State) : State :=
  let s0 := s.modSensor k fun x => { x with openFrame := .none }
  match (s0.pipe p).cur with
  | none => s0
  | some f0 =>
    let s1 := s0.fillLines p k f0.fmt.height
    let f := ((s1.pipe p).cur).getD f0
    let s2 := (s1.modPipe p fun x => { x with frames := wrap32 (x.frames + 1), gateFrames := x.gateFrames + 1 }).setP (P.cg (k / 4) P.CG_LAST_SETTINGS) (k % 4)
      (f.settings + at' 8 (b2n f.inferred))
    ((s2.captureEnd p f).storeFrame p f).endFrame p f

/-- The pipeline that takes the frames of sensor `k`: it is present, bound by the binding in force, and its identities match (R109, R111). -/
def State.feeds (s : State) (k : Nat) : Option Nat :=
  (s.boundPipe k).filter fun p => (s.sensor k).present && ((s.pipe p).bind).any fun b => s.bindingMatches b

/-- A packet of a frame whose FRAME_START was lost (R106): the frame is counted once, by its first packet. DEDUCED (log 148): one of a sensor that feeds no
pipeline is an orphan, whose number is not known. -/
def State.frameLost (k : Nat) (s : State) : State :=
  s.bumpSat (P.cg (k / 4) (if (s.feeds k).isSome then P.CG_FRAMES_LOST else P.CG_ORPHAN_FRAMES)) (k % 4) 1

/-- A LINE with no open frame: of a lost frame not counted yet, or of another one, whose lines begin again. -/
def State.lineLost (k y : Nat) (s : State) : State :=
  let s1 := s.modSensor k fun x => { x with lostLine := some y }
  match (s.sensor k).lostLine with
  | some l => if y ≤ l then s1.frameLost k else s1
  | none => s1.frameLost k

/-- A FRAME_END with no open frame ends a lost frame. -/
def State.endLost (k : Nat) (s : State) : State :=
  let s1 := s.modSensor k fun x => { x with lostLine := none }
  if (s.sensor k).lostLine.isSome then s1 else s1.frameLost k

/-- The settings ID of a frame of a head without ECHO (R99): that of the newest EXPOSE that applies, which it and older ones then leave. -/
def Sensor.infer (x : Sensor) (num : Nat) : Sensor :=
  let l := x.exposed.map fun e => { e with frames := e.frames + 1 }
  let applies := fun (e : Exposed) => match e.after with
    | some n => decide (2 ≤ wrap32 (num + 2 ^ 32 - n) ∧ wrap32 (num + 2 ^ 32 - n) < 2 ^ 31)
    | none => decide (2 ≤ e.frames)
  match l.find? applies with
  | some e => { x with settings := e.id, inferred := true, exposed := l.takeWhile fun e => !applies e }
  | none => { x with inferred := true, exposed := l }

/-- The frame is an orphan (R109): counted, and the first one posted. -/
def State.orphanFrame (k num : Nat) (s : State) : State :=
  let x := s.sensor k
  let s1 := (s.modSensor k fun y => { y with openFrame := .orphan, orphanPosted := true }).bumpSat (P.cg (k / 4) P.CG_ORPHAN_FRAMES) (k % 4) 1
  if x.orphanPosted then s1 else s1.postCam 0x42 0x3 k num (k / 4)

/-- What the gate of pipeline `p` does at a frame start with a settings ID (R148): no gate is held (`none`), it stays held, or it opens with
the kind and settings ID of SID_GATE. It times out after PL_SID_GATE_TIMEOUT delivered frames. -/
def State.gateAt (s : State) (p settings : Nat) : Option (Option (Nat × Nat)) :=
  let v := s.getP (P.pl p P.PL_SID_GATE) 0
  let x := s.pipe p
  if v ≠ 0 then
    some (if settings = v then some (0, v)
          else if x.gateExpired || decide (s.getP (P.pl p P.PL_SID_GATE_TIMEOUT) 0 ≤ x.gateFrames) then some (1, v) else none)
  else if x.gateReleased ≠ 0 then some (some (2, x.gateReleased)) else none

/-- The frame start as pipeline `p`'s boundary (R36, R148), and whether a gated set applied. -/
def State.frameBoundary (p settings tag : Nat) (s : State) : State × Bool :=
  match s.gateAt p settings with
  | none => (s.applyReached (.frame p), false)
  | some none => (s, false)
  | some (some (kind, id)) =>
    let s1 := s.applyReached (.frame p)
    let s2 := ((s1.modPipe p fun x => { x with gateFrames := 0, gateExpired := false, gateReleased := 0 }).setP (P.pl p P.PL_SID_GATE) 0 0)
    (s2.postTagged 0x4B 0x4 p (kind + at' 8 id) tag, true)

/-- What the last frame left comes into force at the next frame start: tracked black levels and the new reference (R123, R130). -/
def State.frameInForce (p : Nat) (s : State) : State :=
  let x := s.pipe p
  let s1 := if s.getP (P.pl p P.BL_MODE) 0 = 1 ∧ x.nextBlack.length = 4 then
      (List.range 4).foldl (fun t c => t.setP (P.pl p P.BL_IN_FORCE) c (x.nextBlack.getD c 0)) s
    else s
  if x.refNext.isEmpty then s1
  else s1.modPipe p fun y => { y with ref := y.refNext, refNext := [] }

/-- A statistics record not complete by the next frame start is dropped, task 4 (R145). -/
def State.dropStats (p : Nat) (s : State) : State :=
  if (s.pipe p).building.isSome then
    ((s.modPipe p fun x => { x with building := none }).bumpSat (P.pl p P.ST_DROPS) 0 1).postTagged 0x08 0x4 p (4 + at' 8 1)
      (((s.pipe p).last.map fun (f : Frame) => f.tag).getD s.ring.tag)
  else s

/-- A frame of sensor `k` opens on pipeline `p`, its binding being in force (R110, R148), unless the geometry that comes into force with it breaks R163. -/
def State.openOn (p k : Nat) (d : Frame) (s : State) : State :=
  let r := s.frameBoundary p d.settings d.tag
  let s1 := (r.1.frameInForce p).dropStats p
  match s1.rejectReason p d.fmt with
  | some e => (s1.rejectFormat p k e).modSensor k fun x => { x with openFrame := .orphan }
  | none =>
    let f := { d with gated := r.2, tnrNoRef := (s1.getP (P.pl p P.PL_STAGE_EN) 0).testBit 3 && !s1.refValid p }
    let s2 := (s1.modPipe p fun x => { x with cur := some f }).modSensor k fun x => { x with openFrame := .pipe p }
    (((s2.modGroup (k / 4) fun x => { x with lastTag := some d.tag }).setPlState p 2)).captureStart p f

/-- Binding changes that wait for a frame start of sensor `k` take effect (R111), and its new format comes into force (R94). -/
def State.startChanges (k : Nat) (s : State) : State :=
  let s1 := s.modSensor k fun x => match x.next with
    | some f => { x with fmt := f, next := none }
    | none => x
  let s2 := (List.range 8).foldl (init := s1) fun t p => match (t.pipe p).change with
    | some ch => if ch.sensor = k then t.applyBinding p else t
    | none => t
  match s2.boundPipe k with
  | some p => if (s2.pipe p).fmt = some (s2.sensor k).fmt ∨ (s2.pipe p).rejected = true then s2 else s2.applyFormat p (s2.sensor k).fmt
  | none => s2

/-- The frame in progress of sensor `k` closes because another starts (R106). -/
def State.cutFrame (k : Nat) (s : State) : State :=
  match (s.sensor k).openFrame with
  | .pipe p => (s.modPipe p fun x => { x with cur := x.cur.map fun (f : Frame) => { f with damaged := true } }).closeFrame p k
  | _ => s.modSensor k fun x => { x with openFrame := .none }

/-- The descriptor of a frame that starts (R110). -/
def State.descriptor (s : State) (g k : Nat) (p : CamPkt) : Frame :=
  let l := p.payload
  let x := s.sensor k
  let tag := if byteAt l 6 % 2 = 1 then (((s.group g).tsyncs.find? fun e => e.1 == byteAt l 5).map Prod.snd).getD s.ring.tag else s.ring.tag
  { number := fieldAt l 0 4, settings := x.settings, inferred := x.inferred, tag := tag, start := p.time, exposure := fieldAt l 8 4, fmt := x.fmt }

/-- The head or sensor is quarantined: its frames are discarded (R46). -/
def State.frameBarred (s : State) (k : Nat) : Bool := (s.partner (headId (k / 4))).quarantined || (s.partner (sensorId k)).quarantined

/-- FRAME_START (R94, R99, R106, R109 to R111, R148). -/
def execFrameStart (p : CamPkt) (s : State) : Result :=
  guarded (.frameStart p) s <| s.camReceive p fun s =>
    if p.payload.length ≠ 16 then s
    else
      let k := p.sensor
      let num := fieldAt p.payload 0 4
      let s1 := (s.cutFrame k).startChanges k
      let echo := (s1.group p.group).cap 0
      let s2 := s1.modSensor k fun x =>
        let y := if echo then { x with settings := byteAt p.payload 4, inferred := false } else x.infer num
        { y with lastNumber := some num, lostLine := none, lastStart := p.time }
      match s2.feeds k with
      | none => s2.orphanFrame k num
      | some q =>
        if (s2.pipe q).rejected || s2.frameBarred k then s2.modSensor k fun x => { x with openFrame := .orphan }
        else s2.openOn q k (s2.descriptor p.group k p)

/-- Line `y` of the open frame arrives (R93, R106): lines that it skips are replaced, and a faulty one is replaced itself. -/
def State.takeLine (q k y : Nat) (p : CamPkt) (late : List Nat) (s : State) : State :=
  match (s.pipe q).cur with
  | none => s
  | some f0 =>
    if f0.fmt.height ≤ y ∨ y < f0.lines.length then s
    else
      let s1 := s.fillLines q k y
      let bad := p.crcBad || p.payload.length != formatLineBytes f0.fmt
      let s2 := s1.modPipe q fun x => { x with cur := x.cur.map fun f => if bad then f.fill (y + 1) else
        { f.addLine p.payload with late := f.late ++ late.map fun x => (x, y) } }
      let s3 := if bad then (s2.bumpSat (P.cg (k / 4) P.CG_PCRC_ERRORS) (k % 4) 1) else s2
      if (hdrFlags p.hdr).testBit 0 then s3.fillLines q k f0.fmt.height else s3

/-- LINE (R93, R106, R107); `late` are its photosites whose reference value is late at the blend (R131). -/
def execLine (p : CamPkt) (late : List Nat) (s : State) : Result :=
  guarded (.line p late) s <| s.camReceive p fun s =>
    let k := p.sensor
    match (s.sensor k).openFrame with
    | .none => s.lineLost k (hdrAux p.hdr)
    | .orphan => s
    | .pipe q => s.takeLine q k (hdrAux p.hdr) p late

/-- FRAME_END (R106): READOUT_ERR marks the frame damaged; a lane calibrated by Trapeze goes back. -/
def execFrameEnd (p : CamPkt) (s : State) : Result :=
  guarded (.frameEnd p) s <| s.camReceive p fun s =>
    let k := p.sensor
    if p.payload.length ≠ 8 then s
    else
      let s1 := match (s.sensor k).openFrame with
        | .none => s.endLost k
        | .orphan => s.modSensor k fun x => { x with openFrame := .none }
        | .pipe q =>
          (s.modPipe q fun x => { x with cur := x.cur.map fun (f : Frame) => { f with damaged := f.damaged || byteAt p.payload 6 % 2 == 1 } }).closeFrame q k
      let eop := s1.now + cdiv (4 * (14 + p.payload.length)) (5 * max (s1.group p.group).width 1)
      (s1.modSensor k fun x => { x with lastEnd := eop }).trapFrameEnd p.group

/-- EMBEDDED (R91): carried with its frame to the recording. -/
def execEmbedded (p : CamPkt) (s : State) : Result :=
  guarded (.embedded p) s <| s.camReceive p fun s =>
    if p.payload.isEmpty then s
    else match (s.sensor p.sensor).openFrame with
      | .pipe q => s.modPipe q fun x => { x with cur := x.cur.map fun f => { f with embedded := f.embedded ++ [p.payload] } }
      | _ => s

/-- FS_EDGE (R379, R380): an accepted edge is the port's TDM frame boundary. -/
def execFsEdge (port t bclk : Nat) (samples : List Nat) (overrun : Bool) (s : State) : Result :=
  guarded (.fsEdge port t bclk samples overrun) s (s.fsEdge port t bclk samples overrun fun x => x.applyReached (.tdm port))

end Sys2Proof.Machine
end

