-- ==== Sys2Proof/Machine/Power.lean ====
section
/-! DEFINITION. Resets, start-up, and the power states: POWER_STATE_SET, the entry to DARK and the exit from it, DEVICE_RESET, the power pins
(R421 to R437, R82, R289, R297). -/

namespace Sys2Proof.Machine

/-! ### Resets (R424, R425) -/

/-- A parameter of the VAUX domain, P:0x1900 to P:0x192D. -/
def vauxParam (key : Nat) : Bool := decide (0x1900 ≤ key / 4096 ∧ key / 4096 ≤ 0x192D)

/-- A bin as it stands on CXL and in the boot flash record area after a loss of power to the device: what had not drained is lost, and the bin
has to be recovered (R297, R318). -/
def State.binsLose (s : State) : State :=
  s.binList.foldl (fun t b => (t.suspendBin b false).modBin b fun x => { x with runs := [], mark := false, trigs := [], recover := true, deleting := none }) s

/-- What the boot flash and the one-time-programmable memory hold (R425), and what the CXL memory holds. -/
def State.kept (s : State) : State :=
  let t := s.binsLose
  let c : Control := { fwA := { s.ctl.fwA with staged := false, next := 0 }, fwB := { s.ctl.fwB with staged := false, next := 0 }, bootSlot := s.ctl.bootSlot,
                       fwFloor := s.ctl.fwFloor, revoked := s.ctl.revoked, faultLog := s.ctl.faultLog, faultNext := s.ctl.faultNext
                       hostMem := s.ctl.hostMem, hostFault := s.ctl.hostFault, perstN := s.ctl.perstN
                       service := s.ctl.service.filter fun c => match c with
                         | .rowPool _ _ => true
                         | _ => false }
  { State.reset with pending := s.pending, free := s.free, sent := s.sent, ctl := c, dram := { remap := t.dram.remap }
                     cxl := { exps := t.cxl.exps, regions := t.cxl.regions.map fun e => (e.1, { e.2 with verifying := false }) }
                     fr := { bins := t.fr.bins, volClip := t.fr.volClip }, pw := { refclk := t.pw.refclk, clkMode := t.pw.clkMode } }

/-- Everything outside the VAUX domain is reset; Ringmaster counts from 0 (Table 15-2, codes 1 to 3). -/
def State.mainReset (s : State) : State :=
  let h : House := { next := s.hk.next, diodes := s.hk.diodes, trip := s.hk.trip, coolRound := s.hk.coolRound, outHigh := s.hk.outHigh, seen := s.hk.seen }
  { s.kept with params := s.params.filter (fun e => vauxParam e.1), hk := h, bus := s.bus }

/-! ### Start-up (Table 15-3) -/

/-- The boot code selects the image (R82): the other slot is a fallback, and without a valid image W00 is in RECOVERY. -/
def State.bootSelect (s : State) : State :=
  let n := s.ctl.bootSlot
  if s.slotValid n then s
  else if s.slotValid (1 - n) then
    let s1 : State := { s with ctl := { s.ctl with bootSlot := 1 - n } }
    (s1.logFault 0x0 0 0x0003 (1 - n)).fwNotice 4 (s.fwSlot (1 - n)).release
  else { s with ctl := { s.ctl with boot := .recoveryImage, fwReady := true } }

/-- The device starts after a reset with code `cause` (Table 15-3, steps 2 and 3). -/
def State.startUp (cause : Nat) (s : State) : State :=
  let s1 : State := { s with ctl := { s.ctl with boot := .training } }
  (s1.setP P.PW_RESET_CAUSE 0 cause).bootSelect

/-- The device stops, its flush complete: it stays in reset while PWRGD is low, or starts again (R424). -/
def State.stopNow (code : Nat) (s : State) : State :=
  if code = 0 then s.mainReset else s.mainReset.startUp code

/-- The device is to stop, by a reset of Table 15-2 or, 0, because PWRGD fell, which goes before the others. -/
def State.orderStop (code : Nat) (s : State) : State :=
  if s.ctl.boot = .off ∨ s.ctl.boot = .auxOnly ∨ s.pw.stop = some 0 then s else { s with pw := { s.pw with stop := some code } }

/-- VAUX_VALID (R396, R426, step 1): the straps are sampled, and MB_ADDR[0] takes its address from them. -/
def execVauxValid (mgtAddr : Nat) (s : State) : Result :=
  guarded (.vauxValid mgtAddr) s <|
    if s.ctl.boot ≠ .off ∧ s.ctl.boot ≠ .auxOnly then s
    else
      let s1 : State := { s with ctl := { s.ctl with boot := .auxOnly }, bus := { s.bus with mgtAddr := mgtAddr } }
      (s1.setP P.MB_ADDR 0 (0x180 + 0x58 + mgtAddr)).setP P.PW_RESET_CAUSE 0 0

/-- PWRGD_RISE (R424, R426, steps 2 and 3). A stop that PWRGD's fall ordered is completed first. -/
def execPwrgdRise (s : State) : Result :=
  guarded .pwrgdRise s <|
    if s.ctl.boot = .auxOnly then s.mainReset.startUp 1
    else if s.pw.stop = some 0 then { s with pw := { s.pw with stop := some 1 } }
    else s

/-- DRAM_TRAINING_DONE (R289, R426, steps 4 and 5): channels that have failed twice are module faults; otherwise Aipex runs the image. Without a valid
image W00 is in RECOVERY already (R82). -/
def execDramTrainingDone (failed : List Nat) (s : State) : Result :=
  guarded (.dramTrainingDone failed) s <|
    if s.ctl.boot ≠ .training ∧ s.ctl.boot ≠ .recoveryImage then s
    else if !failed.isEmpty then
      let s1 := failed.foldl (fun t ch => t.logFault 0x9 ch 0x0604 ch) s
      if s.ctl.boot = .training then { s1 with ctl := { s1.ctl with boot := .recoveryDram, fwReady := true } } else s1
    else if s.ctl.boot ≠ .training then s
    else
      let n := s.ctl.bootSlot
      let s1 : State := { s with ctl := { s.ctl with boot := .starting } }
      let s2 := ((s1.setP P.FW_RELEASE 0 (s.fwSlot n).release).setP P.FW_ACTIVE_SLOT 0 n).setP P.FW_SECURITY_FLOOR 0 s.ctl.fwFloor
      (List.range 8).foldl (fun t g => t.applyCgEnable g) ((s2.memReport.bwReport).regionsAtStart).binsAtStart

/-- STARTUP_COMPLETE (R426, step 7): INTERMISSION is reached. -/
def execStartupComplete (s : State) : Result :=
  guarded .startupComplete s <|
    if s.ctl.boot ≠ .starting then s
    else
      let s1 : State := { s with ctl := { s.ctl with boot := .running, fwReady := true } }
      (s1.setP P.PW_LAST_CHANGE 0 s.now).post 0x98 0x0 0 (1 + at' 8 0xFF + at' 16 3 + at' 24 (s.getP P.PW_RESET_CAUSE 0))

/-- PERST_N_RISE (R427, R455): the straps are sampled at the edge. With 0b11 the endpoint does not train, and the fault log says so, under the
device's own source (log 159). PERST_N that is high already has no rising edge. -/
def execPerstNRise (clkMode : Nat) (s : State) : Result :=
  guarded (.perstNRise clkMode) s <|
    if s.ctl.perstN then s
    else
      let s1 : State := { s with ctl := { s.ctl with perstN := true }, pw := { s.pw with clkMode := clkMode } }
      if clkMode = 3 then s1.logFault 0x0 0 0x0A03 0 else s1

/-! ### Stops -/

/-- PWRGD_FALL (R422, R424, R297): the flush is ordered, after which the device stops. -/
def execPwrgdFall (s : State) : Result := guarded .pwrgdFall s (s.orderStop 0)

/-- COLD_RESET (R424): COLD_RESET_N is pulsed. -/
def execColdReset (s : State) : Result := guarded .coldReset s (s.orderStop 2)

def deviceResetSpec : OpSpec := { op := 0x0A10, priv := true, len := fun c => c.opLen == 4 }

/-- DEVICE_RESET from step 7 on (R428, R445). -/
def deviceResetBody : Body := fun k s =>
  if k.c.f 0 32 ≠ 0x52534554 then (s, .err cBAD_PARAM) else ({ s with pw := { s.pw with resetAt := some (s.now + 1000000) } }, .ok)

/-- DEVICE_RESET. -/
def execDeviceReset (c : Cmd) (s : State) : Result := guarded (.deviceReset c) s (submit deviceResetSpec deviceResetBody c s)

/-- DEVICE_RESET_FIRE (R428): 1 ms after the reply. -/
def execDeviceResetFire (s : State) : Result :=
  guarded .deviceResetFire s <| match s.pw.resetAt with
    | some t => (State.atLeast t { s with pw := { s.pw with resetAt := none } }).orderStop 3
    | none => s

/-- VAUX_LOSS (R436): the device is unpowered; the boot flash, the fuses and the CXL memory keep what they hold. -/
def execVauxLoss (s : State) : Result := guarded .vauxLoss s { s.kept with ctl := { s.kept.ctl with boot := .off } }

/-- REFCLK_CORE_LOSS (R407): HKCLK runs on from the VAUX oscillator. -/
def execRefclkCoreLoss (s : State) : Result := guarded .refclkCoreLoss s { s with pw := { s.pw with refclk := false } }

/-- REFCLK_CORE_RETURN (R26). -/
def execRefclkCoreReturn (s : State) : Result := guarded .refclkCoreReturn s { s with pw := { s.pw with refclk := true } }

/-! ### Power states (R429 to R435) -/

/-- Every lane. -/
abbrev allLanes : List Nat := (List.range 28).flatMap groupLanes

def powerStateSetSpec : OpSpec := { op := 0x0040, priv := true, len := fun c => c.opLen == 4, rsvd := 0xFFFFFE00 }

/-- The canvases that run. -/
def State.runningCanvases (s : State) : List Nat := (List.range 16).filter fun c => s.cvState c == 2

/-- A change that a POWER_STATE_SET asks for begins (Table 15-6); it passes through INTERMISSION. -/
def State.changePower (target : Nat) (handover : Bool) (s : State) : State :=
  let old := s.powerState
  if old = 0 then
    let w : Option Nat := if target = 2 then some (2 + 256 * b2n handover) else none
    State.changeReview (State.beginChange target .toIntermission
      { s with pw := { s.pw with reason := 0, canvases := s.runningCanvases, thenTarget := w, returnFrom := none } })
  else if target = 0 then
    State.changeReview (State.beginChange 0 .toShow { s with pw := { s.pw with reason := 0, canvases := s.runningCanvases, returnFrom := none } })
  else s.beginDark handover 0

/-- POWER_STATE_SET from step 7 on (R432 to R434, R445). -/
def powerStateSetBody : Body := fun k s =>
  let target := k.c.f 0 8
  let handover := k.c.f 8 1 == 1
  if 2 < target ∨ (handover = true ∧ target ≠ 2) then (s, .err cBAD_PARAM)
  else if s.pw.step = .toIntermission ∨ s.pw.step = .toShow then (s, .err cBUSY)
  else if s.pw.step = .none ∧ target = s.powerState then
    (s, if k.c.immediate then .ok else .done cOK 12 (target + at' 32 (s.getP P.PW_LAST_CHANGE 0)))
  else
    let s1 : State := if k.c.immediate then s else { s with pw := { s.pw with tickets := s.pw.tickets ++ [k.tk] } }
    (if s.pw.step = .none then s1.changePower target handover else s1, if k.c.immediate then .ok else .wait)

/-- POWER_STATE_SET. -/
def execPowerStateSet (c : Cmd) (s : State) : Result := guarded (.powerStateSet c) s (submit powerStateSetSpec powerStateSetBody c s)

/-- DRAIN_DONE (R316): the oldest frame has been written to every bin of its own; an entry to DARK goes on once the buffer is empty. -/
def execDrainDone (s : State) : Result :=
  guarded .drainDone s <|
    let s1 := s.drainOne
    if s1.pw.step = .draining ∧ s1.fr.wb.isEmpty = true then { s1 with pw := { s1.pw with step := .flushing } } else s1

/-- GPF_DONE (R297): phase 2 is over; the device stops, or the lanes take the states of DARK (Table 15-7, step 5). -/
def execGpfDone (late : List Nat) (t : Nat) (s : State) : Result :=
  guarded (.gpfDone late t) s <|
    match s.cxl.gpf with
    | none => s
    | some g =>
      let s1 := s.endFlush late t
      if g.trigger = 0 then s1.stopNow (s1.pw.stop.getD 0)
      else if g.trigger = 1 ∧ s1.pw.step = .flushing then State.settleLanes allLanes { s1 with pw := { s1.pw with step := .sleeping } }
      else s1

/-- Frames in progress at the cameras do not go on through DARK (R430). -/
def State.freezeCameras (s : State) : State :=
  let s1 := (List.range 32).foldl (fun t k => t.modSensor k fun x => { x with openFrame := .none }) s
  (List.range 8).foldl (fun t p => t.modPipe p fun x => { x with cur := none }) s1

/-- DARK_REACHED (Table 15-7, step 6): PHASE_SYNC_OUT is low; a command that is held ends the stay at once (R434). -/
def execDarkReached (s : State) : Result :=
  guarded .darkReached s <|
    if s.pw.step ≠ .sleeping then s
    else
      let s1 := (s.freezeCameras.reachPower 2 s.pw.reason).answerPower
      let s2 : State := { s1 with cv := { s1.cv with pso := 0 } }
      if s2.pw.exitWanted then s2.beginDarkExit 1 else s2

/-- DARK_EXIT_DONE (R430, R432, R434, R435): camera groups that were ACTIVE retrain, capture resumes; held commands execute at Aipex's next tick. -/
def execDarkExitDone (s : State) : Result :=
  guarded .darkExitDone s <|
    if s.pw.step ≠ .exiting then s
    else
      let s1 := ((s.shiftPasses (s.now - s.getP P.PW_LAST_CHANGE 0)).reachPower 1 s.pw.reason).bumpWrap P.PW_AUTO_EXITS 0 1
      let s2 := (List.range 8).foldl (fun t g => if t.camState g = 5 then (t.enterGroup g 2 0).resetTraining g true else t) s1
      let s3 := (State.settleLanes allLanes s2).resumeCapture
      { s3 with pw := { s3.pw with returnFrom := some s3.now } }

/-- DARK_RETURN_TIMER (R435): PW_DARK_RETURN_MS has passed since the last final reply that counts. -/
def execDarkReturnTimer (s : State) : Result :=
  guarded .darkReturnTimer s <|
    match s.pw.returnFrom with
    | some f =>
      if s.powerState = 1 ∧ s.pw.step = .none ∧ s.getP P.PW_DARK_RETURN_MS 0 ≠ 0 then
        (s.atLeast (f + s.getP P.PW_DARK_RETURN_MS 0 * 1000000)).beginDark false 2
      else s
    | none => s

end Sys2Proof.Machine
end

