-- ==== Sys2Proof/Machine/Mailbox.lean ====
section
/-! DEFINITION. The mailbox opcodes (Table 2-8 and the chapters' opcode tables): what a slot's command runs, whichever way the slot was rung. -/

namespace Sys2Proof.Machine

/-- Opcodes 0x0000 to 0x02FF: generic, control, camera, pipeline and colour commands. -/
def opRows0 : List (OpSpec × Body) :=
  [(pingSpec, pingBody), (fenceSpec, fenceBody), (identifySpec, identifyBody), (ackBarkerSpec, ackBarkerBody),
   (windowOpenSpec, windowOpenBody), (windowCloseSpec, windowCloseBody), (eventMaskSetSpec, eventMaskSetBody),
   (eventMaskGetSpec, eventMaskGetBody), (faultLogReadSpec, faultLogReadBody), (paramGetSpec, paramGetBody),
   (paramSetSpec, paramSetBody), (paramSetGroupSpec, paramSetGroupBody), (paramDescribeSpec, paramDescribeBody),
   (tableReadSpec, tableReadBody), (tableWriteSpec, tableWriteBody), (tableCommitSpec, tableCommitBody),
   (tableDiscardSpec, tableDiscardBody), (fwStageSpec, fwStageBody), (fwActivateSpec, fwActivateBody), (fwStatusSpec, fwStatusBody),
   (fwKeyRevokeSpec, fwKeyRevokeBody), (powerStateSetSpec, powerStateSetBody), (partnerConfigSpec, partnerConfigBody),
   (quarantineReleaseSpec, quarantineReleaseBody), (sensorBindSpec, sensorBindBody), (sensorUnbindSpec, sensorUnbindBody),
   (camExposeSpec, camExposeBody), (camCtrlWriteSpec, camCtrlWriteBody), (camCtrlReadSpec, camCtrlReadBody),
   (camRetrainSpec, camRetrainBody), (statsReadSpec, statsReadBody), (colourProbeSpec, colourProbeBody)]

/-- Opcodes 0x0300 to 0x06FF: canvas, Midway, lane and memory commands. -/
def opRows3 : List (OpSpec × Body) :=
  [(layerFlipSpec, layerFlipBody), (canvasStatusSpec, canvasStatusBody), (loopDiscoverSpec, loopDiscoverBody),
   (tileCfgWriteSpec, tileCfgWriteBody), (tileCfgReadSpec, tileCfgReadBody), (tileStatusReadSpec, tileStatusReadBody),
   (loopFeedSpec, loopFeedBody), (laneStatusSpec, laneStatusBody), (laneCalibrateSpec, laneCalibrateBody), (eyeScanSpec, eyeScanBody),
   (patternSetSpec, patternSetBody), (patternStatusSpec, patternStatusBody), (laneInjectSpec, laneInjectBody),
   (laneTxSetSpec, laneTxSetBody), (memAllocSpec, memAllocBody), (memFreeSpec, memFreeBody), (memWriteSpec, memWriteBody),
   (memReadSpec, memReadBody), (cxlRegionCreateSpec, cxlRegionCreateBody), (cxlRegionDeleteSpec, cxlRegionDeleteBody),
   (cxlRegionAcceptSpec, cxlRegionAcceptBody), (cxlExpanderRemoveSpec, cxlExpanderRemoveBody),
   (cxlPersistFlushSpec, cxlPersistFlushBody)]

/-- Opcodes 0x0700 to 0x0AFF: recording, clip queue, codec, audio, housekeeping and power commands. -/
def opRows7 : List (OpSpec × Body) :=
  [(clipProtectSpec, clipProtectBody), (clipMarkSpec, clipMarkBody), (queueCreateSpec, queueCreateBody),
   (queueDeleteSpec, queueDeleteBody), (queueRestartSpec, queueRestartBody), (queueErrorLogSpec, queueErrorLogBody),
   (queueStatusSpec, queueStatusBody), (binCreateSpec, binCreateBody), (binDeleteSpec, binDeleteBody), (binFormatSpec, binFormatBody),
   (binSanitiseSpec, binSanitiseBody), (binAdminStatusSpec, binAdminStatusBody), (vcOpenSpec, vcOpenBody), (vcCloseSpec, vcCloseBody),
   (keyNowSpec, keyNowBody), (vcDecFeedSpec, vcDecFeedBody), (vcPictureReadSpec, vcPictureReadBody), (audioStartSpec, audioStartBody),
   (audioStatusSpec, audioStatusBody), (hkStatusSpec, hkStatusBody), (bgStatusSpec, bgStatusBody), (deviceResetSpec, deviceResetBody)]

/-- The row of an opcode, if it is assigned. -/
def mailboxRow (op : Nat) : Option (OpSpec × Body) := (opRows0 ++ opRows3 ++ opRows7).find? fun r => r.1.op == op

/-- A command with an unassigned opcode (R62, steps 1 and 2). -/
def tryUnassigned (f : Flight) (s : State) : State :=
  if s.powerHolds f then s.powerHold f
  else if s.fencesOpen f then s.finalReply f.ticket (if f.cmd.ver ≠ 1 then cVERSION else cBAD_OPCODE) 0 0
  else s

/-- A command that Aipex has taken is held, waits, or runs. -/
def tryTaken (f : Flight) (s : State) : State :=
  match mailboxRow f.opcode with
  | some r => tryFlight r.1 r.2 f s
  | none => tryUnassigned f s

/-- Aipex takes what stands in a rung slot (R55). -/
def State.takeSlot (w slot : Nat) (s : State) : State :=
  let oc := s.slotCmd w slot
  let r := s.take oc.1 oc.2
  tryTaken r.1 r.2

/-- The rung slots of window `w` are taken in ascending order (R39), until FW_READY goes to 0 (Table 2-22, step 1). -/
def State.takeRung (w : Nat) (s : State) : State :=
  (List.range 16).foldl (fun t k => if t.ctl.fwReady && (t.win w).rung.testBit k then t.takeSlot w k else t) s

/-- Commands taken earlier that have not started are tried again, oldest first (R34, R434). -/
def State.retryFlights (s : State) : State :=
  (s.ctl.flights.filter fun f => !f.started).foldl (init := s) fun t f => match t.flight? f.ticket with
    | some g => if g.started || !t.ctl.fwReady then t else tryTaken g t
    | none => t

/-- The Aipex tick that ends: OVERFLOW records are written (R80). -/
def State.endTick (s : State) : State :=
  let s1 := (s.ctl.wins.map Prod.fst).foldl (fun t n => t.overflow n) s
  { s1 with ctl := { s1.ctl with claims := [] } }

/-- Aipex reads its memory in carve-out 0: poison there restarts it (Table 9-4), and the restart writes that memory anew. DESIGN CHOICE (log 158): it meets
the poison in its next tick. -/
def State.aipexReads (s : State) : State :=
  let used := s.carve0MiB * 0x100000
  if s.dram.poison.any (fun e => decide (e.1 < used)) ∧ s.ctl.fwReady = true ∧ s.ctl.boot = .running then
    State.restartAipex (s.unpoison 0 used 32)
  else s

/-- AIPEX_TICK (R39): 1 µs later, commands taken before go on, and each doorbell is examined in window and slot order, the bus ranking as window 64. -/
def execAipexTick (s : State) : Result :=
  guarded .aipexTick s <|
    let s1 := (State.endTick { s with now := s.now + 1000 }).aipexReads
    if !s1.ctl.fwReady then s1
    else (s1.ctl.wins.map Prod.fst).foldl (fun t w => t.takeRung w) s1.retryFlights

end Sys2Proof.Machine
end

