-- ==== Sys2Proof/Machine/Bus.lean ====
section
/-! DEFINITION. The management bus target (R395 to R406): addresses, the transactions of Table 14-3, packet error checking, self-reset. -/

namespace Sys2Proof.Machine

/-- The device answers a 7-bit address (R396). -/
def State.busAnswers (s : State) (addr : Nat) : Bool :=
  let e := fun (i : Nat) => s.getP P.MB_ADDR i
  if s.ctl.boot = .off then false
  else if s.getP P.MB_ADDR_MODE 0 = 1 then
    (List.range 7).all fun b => (s.getP P.MB_ADDR_MASK 0).testBit b || addr.testBit b == (e 0).testBit b
  else (List.range 4).any fun i => e i % 128 == addr && (e i).testBit 7

/-- A transaction to `addr` starts: address changes take effect at its START (R396); `k` runs if the device answers it. -/
def State.busTransaction (addr : Nat) (k : State → State) (s : State) : State :=
  let s1 := if s.ctl.boot = .off then s else s.applyReached .busStart
  if s1.busAnswers addr then k (s1.setP P.MB_LAST_ADDR 0 addr) else s1.emit .busNak

/-- The bytes of a write and of a read's address, as they stand on the wire (R400). -/
abbrev busWrite (addr code : Nat) : List Byte := leBytes (2 * addr) 1 ++ leBytes code 1
abbrev busRead (addr : Nat) : List Byte := leBytes (2 * addr + 1) 1

/-- A read's response leaves, with the PEC over the whole transaction (R398, R400). -/
def State.busRespond (addr code : Nat) (l : List Byte) (s : State) : State :=
  s.emit (.bus (l ++ leBytes (crc8 (busWrite addr code ++ busRead addr ++ l)) 1))

/-- The status word as the bus reads it; while PWRGD is low, as R406 gives it. -/
def State.busStatus (s : State) : Nat := if s.ctl.boot = .auxOnly then 0x00004001 else s.statusWord 64 cOK

/-- STATUS (R398, R406); a `bare` one is a read addressed without a command byte, and its PEC covers no more. -/
def execStatus (access : StatusRead) (s : State) : Result :=
  guarded (.status access) s <| s.busTransaction access.addr fun t =>
    let l := leBytes t.busStatus 4
    if access.bare then t.emit (.bus (l ++ leBytes (crc8 (busRead access.addr ++ l)) 1)) else t.busRespond access.addr 0x00 l

/-- SLOT_STATE (R398, R399). -/
def execSlotState (addr : Nat) (s : State) : Result :=
  guarded (.slotState addr) s <| s.busTransaction addr fun t =>
    t.busRespond addr 0x01 (leBytes ((t.win 64).busy % 16 + at' 4 ((t.win 64).ready % 16)) 1)

/-- A channel as HK_READ gives it (Table 14-3). -/
def State.hkWord (s : State) (n : Nat) : Nat :=
  let r := s.getP P.HK_READING n
  if r.testBit 16 && !r.testBit 17 then r % 0x10000 else 0x8000

/-- HK_READ (R398). -/
def execHkRead (addr : Nat) (s : State) : Result :=
  guarded (.hkRead addr) s <| s.busTransaction addr fun t => t.busRespond addr 0x30 ((List.range 32).flatMap fun n => leBytes (t.hkWord n) 2)

/-- The end of a write whose bytes so far are `l` (R400): `k` if its PEC is right, or not required and absent. -/
def State.busCheck (l : List Byte) (pec : Option Nat) (k : State → State) (s : State) : State :=
  match pec with
  | none => if s.getP P.MB_PEC_REQUIRED 0 = 1 then s.bumpSat P.MB_PEC_ERRORS 0 1 else k s
  | some v => if crc8 l = v then k s else (s.bumpSat P.MB_PEC_ERRORS 0 1).emit .busNak

/-- A frame as it is handed on: one whose OPERAND_LEN is not LEN - 16 shall be answered BAD_PARAM, so an OPERAND_LEN stands in it that step 6 of R62
refuses (R399). -/
def busFrame (frame : List Byte) : List Byte :=
  if ofLE ((frame.drop 4).take 2) = frame.length - 16 then frame else frame.take 4 ++ leBytes 0xFFFF 2 ++ frame.drop 6

/-- A frame is committed to a FREE slot: Aipex takes it at once while it takes doorbells. -/
def State.busCommit (slot : Nat) (frame : List Byte) (s : State) : State :=
  let x := s.win 64
  let s1 := (s.setWin 64 { x with slots := putBytes zeroByte x.slots (slot * 256) (busFrame frame) }).ring' 64 slot s.busPrivileged
  if s1.ctl.fwReady then s1.takeSlot 64 slot else s1

/-- SUBMIT (R398 to R401, R405, R406). A frame that ends early is an unfinished one. -/
def execSubmit (addr slot len : Nat) (frame : List Byte) (pec : Option Nat) (s : State) : Result :=
  guarded (.submit addr slot len frame pec) s <| s.busTransaction addr fun t =>
    if t.ctl.boot = .auxOnly then t.emit .busNak
    else if !t.slotFree 64 slot then (t.bumpSat P.MB_SLOT_ERRORS 0 1).emit .busNak
    else if len < 16 ∨ 256 < len then t.emit .busNak
    else if frame.length < len then t.bumpSat P.MB_ABORTS 0 1
    else t.busCheck (busWrite addr (0x10 + slot) ++ leBytes len 2 ++ frame.take len) pec fun u => u.busCommit slot (frame.take len)

/-- REPLY (R398, R399): the newest reply written for the slot. -/
def execReply (addr slot : Nat) (s : State) : Result :=
  guarded (.reply addr slot) s <| s.busTransaction addr fun t =>
    if t.ctl.boot = .auxOnly then t.emit .busNak
    else
      t.busRespond addr (0x20 + slot) <| match SMap.find slot (t.win 64).replies with
        | some r => leBytes (16 + r.len) 2 ++ r.bytes.take (16 + r.len)
        | none => leBytes 0 2

/-- REPLY_ACK (R398 to R401, R406): a READY slot becomes FREE. -/
def execReplyAck (addr slot : Nat) (pec : Option Nat) (s : State) : Result :=
  guarded (.replyAck addr slot pec) s <| s.busTransaction addr fun t =>
    if t.ctl.boot = .auxOnly ∨ (t.win 64).busy.testBit slot = true then t.emit .busNak
    else t.busCheck (busWrite addr (0x40 + slot)) pec fun u =>
      let x := u.win 64
      if x.ready.testBit slot then u.setWin 64 { x with ready := clrBit x.ready slot, replies := SMap.del slot x.replies } else u

/-- MB_ABORT (R401): the transaction is discarded and counted. -/
def execMbAbort (s : State) : Result := guarded .mbAbort s (if s.ctl.boot = .off then s else s.bumpSat P.MB_ABORTS 0 1)

/-- The target resets itself (R404): counted, and posted with its cause, the address and the command code. -/
def State.busReset (cause addr code : Nat) (s : State) : State :=
  s.busTransaction addr fun t => (t.bumpSat P.MB_RESETS 0 1).post 0x92 0x0 0 (cause + at' 8 addr + at' 16 code)

/-- MB_STRETCH_TIMEOUT (R404). -/
def execMbStretchTimeout (addr code : Nat) (s : State) : Result := guarded (.mbStretchTimeout addr code) s (s.busReset 0 addr code)

/-- MB_BUS_TIMEOUT (R404). -/
def execMbBusTimeout (addr code : Nat) (s : State) : Result := guarded (.mbBusTimeout addr code) s (s.busReset 1 addr code)

end Sys2Proof.Machine
end

