-- ==== Sys2Proof/Machine/Dispatch.lean ====
section
/-! DEFINITION. Every command's meaning, one arm per row of the opcode table. -/

namespace Sys2Proof.Machine

def exec (i : Instr) (s : State) : Host.Outcome State Fault Refusal :=
  match i with
  | .masterPeriodBoundary t => Sys2Proof.Machine.execMasterPeriodBoundary t s
  | .genrefEdge t => Sys2Proof.Machine.execGenrefEdge t s
  | .trigInEdge t => Sys2Proof.Machine.execTrigInEdge t s
  | .doorbell page value => Sys2Proof.Machine.execDoorbell page value s
  | .deferTimeout win slot => Sys2Proof.Machine.execDeferTimeout win slot s
  | .eventTailWrite page value => Sys2Proof.Machine.execEventTailWrite page value s
  | .registerWrite fn win offset data => Sys2Proof.Machine.execRegisterWrite fn win offset data s
  | .overflow win => Sys2Proof.Machine.execOverflow win s
  | .ping c => Sys2Proof.Machine.execPing c s
  | .fence c => Sys2Proof.Machine.execFence c s
  | .identify c => Sys2Proof.Machine.execIdentify c s
  | .ackBarker c => Sys2Proof.Machine.execAckBarker c s
  | .windowOpen c => Sys2Proof.Machine.execWindowOpen c s
  | .windowClose c => Sys2Proof.Machine.execWindowClose c s
  | .eventMaskSet c => Sys2Proof.Machine.execEventMaskSet c s
  | .eventMaskGet c => Sys2Proof.Machine.execEventMaskGet c s
  | .faultLogRead c => Sys2Proof.Machine.execFaultLogRead c s
  | .paramGet c => Sys2Proof.Machine.execParamGet c s
  | .paramSet c => Sys2Proof.Machine.execParamSet c s
  | .paramSetGroup c => Sys2Proof.Machine.execParamSetGroup c s
  | .paramDescribe c => Sys2Proof.Machine.execParamDescribe c s
  | .stagedChangeApply b => Sys2Proof.Machine.execStagedChangeApply b s
  | .tableRead c => Sys2Proof.Machine.execTableRead c s
  | .tableWrite c => Sys2Proof.Machine.execTableWrite c s
  | .tableCommit c => Sys2Proof.Machine.execTableCommit c s
  | .tableDiscard c => Sys2Proof.Machine.execTableDiscard c s
  | .fwStage c => Sys2Proof.Machine.execFwStage c s
  | .fwActivate c => Sys2Proof.Machine.execFwActivate c s
  | .fwStatus c => Sys2Proof.Machine.execFwStatus c s
  | .fwKeyRevoke c => Sys2Proof.Machine.execFwKeyRevoke c s
  | .quarantineRelease c => Sys2Proof.Machine.execQuarantineRelease c s
  | .partnerArrivalReport p => Sys2Proof.Machine.execPartnerArrivalReport p s
  | .quarantineExpiry p => Sys2Proof.Machine.execQuarantineExpiry p s
  | .hostInterfaceReset r => Sys2Proof.Machine.execHostInterfaceReset r s
  | .vfEnableChange enable numVfs => Sys2Proof.Machine.execVfEnableChange enable numVfs s
  | .poisonedTlp offset => Sys2Proof.Machine.execPoisonedTlp offset s
  | .cgSignalDetect g lane => Sys2Proof.Machine.execCgSignalDetect g lane s
  | .cgTrainTimeout g => Sys2Proof.Machine.execCgTrainTimeout g s
  | .cameraAlign g sets => Sys2Proof.Machine.execCameraAlign g sets s
  | .discoverRetry g => Sys2Proof.Machine.execDiscoverRetry g s
  | .identity p => Sys2Proof.Machine.execIdentity p s
  | .vcAnnounce p => Sys2Proof.Machine.execVcAnnounce p s
  | .frameStart p => Sys2Proof.Machine.execFrameStart p s
  | .line p late => Sys2Proof.Machine.execLine p late s
  | .frameEnd p => Sys2Proof.Machine.execFrameEnd p s
  | .embedded p => Sys2Proof.Machine.execEmbedded p s
  | .ctrlReply p => Sys2Proof.Machine.execCtrlReply p s
  | .headStatus p => Sys2Proof.Machine.execHeadStatus p s
  | .cameraBadPacket p => Sys2Proof.Machine.execCameraBadPacket p s
  | .probeSend g t => Sys2Proof.Machine.execProbeSend g t s
  | .probeEcho g pseq d2 d3 t => Sys2Proof.Machine.execProbeEcho g pseq d2 d3 t s
  | .probeTimeout g pseq => Sys2Proof.Machine.execProbeTimeout g pseq s
  | .tsyncSend g vcMask t => Sys2Proof.Machine.execTsyncSend g vcMask t s
  | .camCtrlTimeout g tag => Sys2Proof.Machine.execCamCtrlTimeout g tag s
  | .cameraLaneLost g lane => Sys2Proof.Machine.execCameraLaneLost g lane s
  | .cameraHeadLost g => Sys2Proof.Machine.execCameraHeadLost g s
  | .sensorBind c => Sys2Proof.Machine.execSensorBind c s
  | .sensorUnbind c => Sys2Proof.Machine.execSensorUnbind c s
  | .camExpose c => Sys2Proof.Machine.execCamExpose c s
  | .camCtrlWrite c => Sys2Proof.Machine.execCamCtrlWrite c s
  | .camCtrlRead c => Sys2Proof.Machine.execCamCtrlRead c s
  | .camRetrain c => Sys2Proof.Machine.execCamRetrain c s
  | .pipelineWaitTimeout pl => Sys2Proof.Machine.execPipelineWaitTimeout pl s
  | .sidGateTimeout pl => Sys2Proof.Machine.execSidGateTimeout pl s
  | .statsReady pl => Sys2Proof.Machine.execStatsReady pl s
  | .statsRead c => Sys2Proof.Machine.execStatsRead c s
  | .colourProbe c => Sys2Proof.Machine.execColourProbe c s
  | .colourProbeCapture k => Sys2Proof.Machine.execColourProbeCapture k s
  | .probeMissed k => Sys2Proof.Machine.execProbeMissed k s
  | .showPeriodBoundary cv t => Sys2Proof.Machine.execShowPeriodBoundary cv t s
  | .phaseBoundary cv phase => Sys2Proof.Machine.execPhaseBoundary cv phase s
  | .canvasLine cv phase y late badCells => Sys2Proof.Machine.execCanvasLine cv phase y late badCells s
  | .frameDone cv done => Sys2Proof.Machine.execFrameDone cv done s
  | .layerFetch cv src y => Sys2Proof.Machine.execLayerFetch cv src y s
  | .frameStoreComplete pl t => Sys2Proof.Machine.execFrameStoreComplete pl t s
  | .phaseSyncRise n phase => Sys2Proof.Machine.execPhaseSyncRise n phase s
  | .phaseSyncFall n t => Sys2Proof.Machine.execPhaseSyncFall n t s
  | .layerFlip c => Sys2Proof.Machine.execLayerFlip c s
  | .canvasStatus c => Sys2Proof.Machine.execCanvasStatus c s
  | .fsoSend cv phase => Sys2Proof.Machine.execFsoSend cv phase s
  | .tileLineSend lp hop cv phase y => Sys2Proof.Machine.execTileLineSend lp hop cv phase y s
  | .discoverInterval lp side => Sys2Proof.Machine.execDiscoverInterval lp side s
  | .tileId p => Sys2Proof.Machine.execTileId p s
  | .cfgReply p => Sys2Proof.Machine.execCfgReply p s
  | .tileStatus p => Sys2Proof.Machine.execTileStatus p s
  | .tileAlarmReceived port d1 d2 d3 t => Sys2Proof.Machine.execTileAlarmReceived port d1 d2 d3 t s
  | .feedWatchdog lp side => Sys2Proof.Machine.execFeedWatchdog lp side s
  | .failoverTrained lp => Sys2Proof.Machine.execFailoverTrained lp s
  | .tilePoll lp hop => Sys2Proof.Machine.execTilePoll lp hop s
  | .tilePollTimeout lp hop => Sys2Proof.Machine.execTilePollTimeout lp hop s
  | .tileCfgTimeout lp tag => Sys2Proof.Machine.execTileCfgTimeout lp tag s
  | .revertHoldExpiry lp => Sys2Proof.Machine.execRevertHoldExpiry lp s
  | .handoverReady lp => Sys2Proof.Machine.execHandoverReady lp s
  | .handoverAbandon lp => Sys2Proof.Machine.execHandoverAbandon lp s
  | .pIdentity p => Sys2Proof.Machine.execPIdentity p s
  | .pHeartbeat p => Sys2Proof.Machine.execPHeartbeat p s
  | .pmark t d1 d2 d3 => Sys2Proof.Machine.execPmark t d1 d2 d3 s
  | .pLoop p => Sys2Proof.Machine.execPLoop p s
  | .pHandover p => Sys2Proof.Machine.execPHandover p s
  | .pTile p => Sys2Proof.Machine.execPTile p s
  | .partnerConfig c => Sys2Proof.Machine.execPartnerConfig c s
  | .loopDiscover c => Sys2Proof.Machine.execLoopDiscover c s
  | .tileCfgWrite c => Sys2Proof.Machine.execTileCfgWrite c s
  | .tileCfgRead c => Sys2Proof.Machine.execTileCfgRead c s
  | .tileStatusRead c => Sys2Proof.Machine.execTileStatusRead c s
  | .loopFeed c => Sys2Proof.Machine.execLoopFeed c s
  | .laneSignalDetect lane => Sys2Proof.Machine.execLaneSignalDetect lane s
  | .laneSignalLoss lane => Sys2Proof.Machine.execLaneSignalLoss lane s
  | .laneComma lane phase => Sys2Proof.Machine.execLaneComma lane phase s
  | .laneInvalidSymbol lane before group => Sys2Proof.Machine.execLaneInvalidSymbol lane before group s
  | .laneCommaTimeout lane => Sys2Proof.Machine.execLaneCommaTimeout lane s
  | .skipReceived lane drift d1 d2 d3 => Sys2Proof.Machine.execSkipReceived lane drift d1 d2 d3 s
  | .skipSend lane => Sys2Proof.Machine.execSkipSend lane s
  | .fomWindow lane a sigma => Sys2Proof.Machine.execFomWindow lane a sigma s
  | .laneMonitor lg scans => Sys2Proof.Machine.execLaneMonitor lg scans s
  | .laneWakeDone lane tx => Sys2Proof.Machine.execLaneWakeDone lane tx s
  | .calWindow lg window => Sys2Proof.Machine.execCalWindow lg window s
  | .calMeasureDone lane quality => Sys2Proof.Machine.execCalMeasureDone lane quality s
  | .calDeferLimit lg => Sys2Proof.Machine.execCalDeferLimit lg s
  | .patternSync lane before bit after => Sys2Proof.Machine.execPatternSync lane before bit after s
  | .laneStatus c => Sys2Proof.Machine.execLaneStatus c s
  | .laneCalibrate c => Sys2Proof.Machine.execLaneCalibrate c s
  | .eyeScan c => Sys2Proof.Machine.execEyeScan c s
  | .eyeScanDone lane aborted points t => Sys2Proof.Machine.execEyeScanDone lane aborted points t s
  | .patternSet c => Sys2Proof.Machine.execPatternSet c s
  | .patternStatus c => Sys2Proof.Machine.execPatternStatus c s
  | .laneInject c => Sys2Proof.Machine.execLaneInject c s
  | .laneTxSet c => Sys2Proof.Machine.execLaneTxSet c s
  | .memAlloc c => Sys2Proof.Machine.execMemAlloc c s
  | .memFree c => Sys2Proof.Machine.execMemFree c s
  | .memWrite c => Sys2Proof.Machine.execMemWrite c s
  | .memRead c => Sys2Proof.Machine.execMemRead c s
  | .addressFault addr write => Sys2Proof.Machine.execAddressFault addr write s
  | .rowRetired chan bank => Sys2Proof.Machine.execRowRetired chan bank s
  | .dramRefresh chan refresh => Sys2Proof.Machine.execDramRefresh chan refresh s
  | .mr4Read chan rate => Sys2Proof.Machine.execMr4Read chan rate s
  | .wckTrack chan delays => Sys2Proof.Machine.execWckTrack chan delays s
  | .retrainInterval chan => Sys2Proof.Machine.execRetrainInterval chan s
  | .retrainSlice t => Sys2Proof.Machine.execRetrainSlice t s
  | .patrolScrub granules found => Sys2Proof.Machine.execPatrolScrub granules found s
  | .expanderPresent e => Sys2Proof.Machine.execExpanderPresent e s
  | .enumerationDone slot => Sys2Proof.Machine.execEnumerationDone slot s
  | .expanderSurpriseRemove slot => Sys2Proof.Machine.execExpanderSurpriseRemove slot s
  | .cxlEventPoll slot ranges => Sys2Proof.Machine.execCxlEventPoll slot ranges s
  | .cxlVerify region offset poisoned => Sys2Proof.Machine.execCxlVerify region offset poisoned s
  | .regionVerifyDone region => Sys2Proof.Machine.execRegionVerifyDone region s
  | .gpfStart trigger => Sys2Proof.Machine.execGpfStart trigger s
  | .gpfPhase1Done t => Sys2Proof.Machine.execGpfPhase1Done t s
  | .gpfDone late t => Sys2Proof.Machine.execGpfDone late t s
  | .cxlRegionCreate c => Sys2Proof.Machine.execCxlRegionCreate c s
  | .cxlRegionDelete c => Sys2Proof.Machine.execCxlRegionDelete c s
  | .cxlRegionAccept c => Sys2Proof.Machine.execCxlRegionAccept c s
  | .cxlExpanderRemove c => Sys2Proof.Machine.execCxlExpanderRemove c s
  | .removalDrainDone slot => Sys2Proof.Machine.execRemovalDrainDone slot s
  | .relocationDone slot => Sys2Proof.Machine.execRelocationDone slot s
  | .slotPowerOff slot => Sys2Proof.Machine.execSlotPowerOff slot s
  | .cxlPersistFlush c => Sys2Proof.Machine.execCxlPersistFlush c s
  | .attentionButton slot => Sys2Proof.Machine.execAttentionButton slot s
  | .attentionTimer slot => Sys2Proof.Machine.execAttentionTimer slot s
  | .recordFenceDone pl => Sys2Proof.Machine.execRecordFenceDone pl s
  | .recordDeadline pl => Sys2Proof.Machine.execRecordDeadline pl s
  | .checkpoint bin => Sys2Proof.Machine.execCheckpoint bin s
  | .binRecovery bin => Sys2Proof.Machine.execBinRecovery bin s
  | .wearMove bin => Sys2Proof.Machine.execWearMove bin s
  | .clipProtect c => Sys2Proof.Machine.execClipProtect c s
  | .clipMark c => Sys2Proof.Machine.execClipMark c s
  | .sqTail page pair value entries => Sys2Proof.Machine.execSqTail page pair value entries s
  | .cqHead page pair value => Sys2Proof.Machine.execCqHead page pair value s
  | .sqFetch win pair => Sys2Proof.Machine.execSqFetch win pair s
  | .read win pair cid => Sys2Proof.Machine.execRead win pair cid s
  | .readFrame win pair cid => Sys2Proof.Machine.execReadFrame win pair cid s
  | .dirRead win pair cid => Sys2Proof.Machine.execDirRead win pair cid s
  | .indexRead win pair cid => Sys2Proof.Machine.execIndexRead win pair cid s
  | .importClip win pair cid data => Sys2Proof.Machine.execImportClip win pair cid data s
  | .cqFence win pair cid => Sys2Proof.Machine.execCqFence win pair cid s
  | .cqCommandTimeout win pair cid => Sys2Proof.Machine.execCqCommandTimeout win pair cid s
  | .cqInterruptTimer win pair => Sys2Proof.Machine.execCqInterruptTimer win pair s
  | .queueCreate c => Sys2Proof.Machine.execQueueCreate c s
  | .queueDelete c => Sys2Proof.Machine.execQueueDelete c s
  | .queueRestart c => Sys2Proof.Machine.execQueueRestart c s
  | .queueResume win pair => Sys2Proof.Machine.execQueueResume win pair s
  | .queueErrorLog c => Sys2Proof.Machine.execQueueErrorLog c s
  | .queueStatus c => Sys2Proof.Machine.execQueueStatus c s
  | .binCreate c => Sys2Proof.Machine.execBinCreate c s
  | .binDelete c => Sys2Proof.Machine.execBinDelete c s
  | .binFormat c => Sys2Proof.Machine.execBinFormat c s
  | .binSanitise c => Sys2Proof.Machine.execBinSanitise c s
  | .binAdminStatus c => Sys2Proof.Machine.execBinAdminStatus c s
  | .adminProgress bin failedLines => Sys2Proof.Machine.execAdminProgress bin failedLines s
  | .adminDone bin => Sys2Proof.Machine.execAdminDone bin s
  | .vcOpen c => Sys2Proof.Machine.execVcOpen c s
  | .vcClose c => Sys2Proof.Machine.execVcClose c s
  | .keyNow c => Sys2Proof.Machine.execKeyNow c s
  | .vcDecFeed c => Sys2Proof.Machine.execVcDecFeed c s
  | .feedTimeout engine => Sys2Proof.Machine.execFeedTimeout engine s
  | .vcPictureRead c => Sys2Proof.Machine.execVcPictureRead c s
  | .decodePace engine t => Sys2Proof.Machine.execDecodePace engine t s
  | .pictureDone engine t o => Sys2Proof.Machine.execPictureDone engine t o s
  | .pictureDeadline engine => Sys2Proof.Machine.execPictureDeadline engine s
  | .audioClockDetect port => Sys2Proof.Machine.execAudioClockDetect port s
  | .audioClockLost port => Sys2Proof.Machine.execAudioClockLost port s
  | .fsEdge port t bclk samples overrun => Sys2Proof.Machine.execFsEdge port t bclk samples overrun s
  | .fsFlywheel port samples => Sys2Proof.Machine.execFsFlywheel port samples s
  | .audioRateMeasure port rate => Sys2Proof.Machine.execAudioRateMeasure port rate s
  | .audioBlockFetch port block late => Sys2Proof.Machine.execAudioBlockFetch port block late s
  | .audioBlockDeadline port block => Sys2Proof.Machine.execAudioBlockDeadline port block s
  | .audioStart c => Sys2Proof.Machine.execAudioStart c s
  | .audioStatus c => Sys2Proof.Machine.execAudioStatus c s
  | .hkConversion raw => Sys2Proof.Machine.execHkConversion raw s
  | .status access => Sys2Proof.Machine.execStatus access s
  | .slotState addr => Sys2Proof.Machine.execSlotState addr s
  | .submit addr slot len frame pec => Sys2Proof.Machine.execSubmit addr slot len frame pec s
  | .reply addr slot => Sys2Proof.Machine.execReply addr slot s
  | .hkRead addr => Sys2Proof.Machine.execHkRead addr s
  | .replyAck addr slot pec => Sys2Proof.Machine.execReplyAck addr slot pec s
  | .mbStretchTimeout addr code => Sys2Proof.Machine.execMbStretchTimeout addr code s
  | .mbBusTimeout addr code => Sys2Proof.Machine.execMbBusTimeout addr code s
  | .telemetryCollect powerMw d2d => Sys2Proof.Machine.execTelemetryCollect powerMw d2d s
  | .pageZeroing pages => Sys2Proof.Machine.execPageZeroing pages s
  | .hkStatus c => Sys2Proof.Machine.execHkStatus c s
  | .bgStatus c => Sys2Proof.Machine.execBgStatus c s
  | .vauxValid mgtAddr => Sys2Proof.Machine.execVauxValid mgtAddr s
  | .dramTrainingDone failed => Sys2Proof.Machine.execDramTrainingDone failed s
  | .deviceReset c => Sys2Proof.Machine.execDeviceReset c s
  | .powerStateSet c => Sys2Proof.Machine.execPowerStateSet c s
  | .tilePortAlign port d1 d2 d3 t => Sys2Proof.Machine.execTilePortAlign port d1 d2 d3 t s
  | .discoverReceived p => Sys2Proof.Machine.execDiscoverReceived p s
  | .fsoReceived port d1 d2 d3 t => Sys2Proof.Machine.execFsoReceived port d1 d2 d3 t s
  | .partnerSignalDetect lane => Sys2Proof.Machine.execPartnerSignalDetect lane s
  | .partnerAlign sets => Sys2Proof.Machine.execPartnerAlign sets s
  | .partnerProbe pseq d2 d3 t => Sys2Proof.Machine.execPartnerProbe pseq d2 d3 t s
  | .perstNRise clkMode => Sys2Proof.Machine.execPerstNRise clkMode s
  | .genrefMissedEdge => Sys2Proof.Machine.execGenrefMissedEdge s
  | .lockstepMismatch => Sys2Proof.Machine.execLockstepMismatch s
  | .aipexRestartDone => Sys2Proof.Machine.execAipexRestartDone s
  | .aipexTick => Sys2Proof.Machine.execAipexTick s
  | .tableSwap => Sys2Proof.Machine.execTableSwap s
  | .switchoverImport => Sys2Proof.Machine.execSwitchoverImport s
  | .switchoverComplete => Sys2Proof.Machine.execSwitchoverComplete s
  | .switchoverRollback => Sys2Proof.Machine.execSwitchoverRollback s
  | .unifBankCopyDone => Sys2Proof.Machine.execUnifBankCopyDone s
  | .unifCommitDone => Sys2Proof.Machine.execUnifCommitDone s
  | .pHeartbeatSend => Sys2Proof.Machine.execPHeartbeatSend s
  | .partnerHeartbeatTimeout => Sys2Proof.Machine.execPartnerHeartbeatTimeout s
  | .calibrationStart => Sys2Proof.Machine.execCalibrationStart s
  | .drainDone => Sys2Proof.Machine.execDrainDone s
  | .throttleStep => Sys2Proof.Machine.execThrottleStep s
  | .mbAbort => Sys2Proof.Machine.execMbAbort s
  | .bgScheduler => Sys2Proof.Machine.execBgScheduler s
  | .scrubBehind => Sys2Proof.Machine.execScrubBehind s
  | .pwrgdRise => Sys2Proof.Machine.execPwrgdRise s
  | .startupComplete => Sys2Proof.Machine.execStartupComplete s
  | .pwrgdFall => Sys2Proof.Machine.execPwrgdFall s
  | .coldReset => Sys2Proof.Machine.execColdReset s
  | .deviceResetFire => Sys2Proof.Machine.execDeviceResetFire s
  | .darkReached => Sys2Proof.Machine.execDarkReached s
  | .darkExitDone => Sys2Proof.Machine.execDarkExitDone s
  | .darkReturnTimer => Sys2Proof.Machine.execDarkReturnTimer s
  | .partnerTrainTimeout => Sys2Proof.Machine.execPartnerTrainTimeout s
  | .vauxLoss => Sys2Proof.Machine.execVauxLoss s
  | .refclkCoreLoss => Sys2Proof.Machine.execRefclkCoreLoss s
  | .refclkCoreReturn => Sys2Proof.Machine.execRefclkCoreReturn s

end Sys2Proof.Machine
end

