-- ==== Sys2Proof/Safety.lean ====
section
/-! DEFINITION. What counts as a sound state, a safe step and an accepted, answered or waiting mailbox command, in the terms the statements use. -/

namespace Sys2Proof

open Sys2Proof.Machine in
/-- The opcode that a mailbox command's row is, and the command as it stands in its slot. -/
def Instr.mailbox : Instr → Option (OpSpec × Cmd)
  | .ping c => some (pingSpec, c)
  | .fence c => some (fenceSpec, c)
  | .identify c => some (identifySpec, c)
  | .ackBarker c => some (ackBarkerSpec, c)
  | .windowOpen c => some (windowOpenSpec, c)
  | .windowClose c => some (windowCloseSpec, c)
  | .eventMaskSet c => some (eventMaskSetSpec, c)
  | .eventMaskGet c => some (eventMaskGetSpec, c)
  | .faultLogRead c => some (faultLogReadSpec, c)
  | .paramGet c => some (paramGetSpec, c)
  | .paramSet c => some (paramSetSpec, c)
  | .paramSetGroup c => some (paramSetGroupSpec, c)
  | .paramDescribe c => some (paramDescribeSpec, c)
  | .tableRead c => some (tableReadSpec, c)
  | .tableWrite c => some (tableWriteSpec, c)
  | .tableCommit c => some (tableCommitSpec, c)
  | .tableDiscard c => some (tableDiscardSpec, c)
  | .fwStage c => some (fwStageSpec, c)
  | .fwActivate c => some (fwActivateSpec, c)
  | .fwStatus c => some (fwStatusSpec, c)
  | .fwKeyRevoke c => some (fwKeyRevokeSpec, c)
  | .quarantineRelease c => some (quarantineReleaseSpec, c)
  | .sensorBind c => some (sensorBindSpec, c)
  | .sensorUnbind c => some (sensorUnbindSpec, c)
  | .camExpose c => some (camExposeSpec, c)
  | .camCtrlWrite c => some (camCtrlWriteSpec, c)
  | .camCtrlRead c => some (camCtrlReadSpec, c)
  | .camRetrain c => some (camRetrainSpec, c)
  | .statsRead c => some (statsReadSpec, c)
  | .colourProbe c => some (colourProbeSpec, c)
  | .layerFlip c => some (layerFlipSpec, c)
  | .canvasStatus c => some (canvasStatusSpec, c)
  | .partnerConfig c => some (partnerConfigSpec, c)
  | .loopDiscover c => some (loopDiscoverSpec, c)
  | .tileCfgWrite c => some (tileCfgWriteSpec, c)
  | .tileCfgRead c => some (tileCfgReadSpec, c)
  | .tileStatusRead c => some (tileStatusReadSpec, c)
  | .loopFeed c => some (loopFeedSpec, c)
  | .laneStatus c => some (laneStatusSpec, c)
  | .laneCalibrate c => some (laneCalibrateSpec, c)
  | .eyeScan c => some (eyeScanSpec, c)
  | .patternSet c => some (patternSetSpec, c)
  | .patternStatus c => some (patternStatusSpec, c)
  | .laneInject c => some (laneInjectSpec, c)
  | .laneTxSet c => some (laneTxSetSpec, c)
  | .memAlloc c => some (memAllocSpec, c)
  | .memFree c => some (memFreeSpec, c)
  | .memWrite c => some (memWriteSpec, c)
  | .memRead c => some (memReadSpec, c)
  | .cxlRegionCreate c => some (cxlRegionCreateSpec, c)
  | .cxlRegionDelete c => some (cxlRegionDeleteSpec, c)
  | .cxlRegionAccept c => some (cxlRegionAcceptSpec, c)
  | .cxlExpanderRemove c => some (cxlExpanderRemoveSpec, c)
  | .cxlPersistFlush c => some (cxlPersistFlushSpec, c)
  | .clipProtect c => some (clipProtectSpec, c)
  | .clipMark c => some (clipMarkSpec, c)
  | .queueCreate c => some (queueCreateSpec, c)
  | .queueDelete c => some (queueDeleteSpec, c)
  | .queueRestart c => some (queueRestartSpec, c)
  | .queueErrorLog c => some (queueErrorLogSpec, c)
  | .queueStatus c => some (queueStatusSpec, c)
  | .binCreate c => some (binCreateSpec, c)
  | .binDelete c => some (binDeleteSpec, c)
  | .binFormat c => some (binFormatSpec, c)
  | .binSanitise c => some (binSanitiseSpec, c)
  | .binAdminStatus c => some (binAdminStatusSpec, c)
  | .vcOpen c => some (vcOpenSpec, c)
  | .vcClose c => some (vcCloseSpec, c)
  | .keyNow c => some (keyNowSpec, c)
  | .vcDecFeed c => some (vcDecFeedSpec, c)
  | .vcPictureRead c => some (vcPictureReadSpec, c)
  | .audioStart c => some (audioStartSpec, c)
  | .audioStatus c => some (audioStatusSpec, c)
  | .hkStatus c => some (hkStatusSpec, c)
  | .bgStatus c => some (bgStatusSpec, c)
  | .deviceReset c => some (deviceResetSpec, c)
  | .powerStateSet c => some (powerStateSetSpec, c)
  | _ => none

/-- The header is one that R54 allows: format version 1, reserved fields and flags 0, at most 240 bytes of operands. -/
abbrev Cmd.headerOk (c : Cmd) : Prop := c.ver = 1 ∧ c.flags < 8 ∧ c.rsvd06 = 0 ∧ c.rsvd0D = 0 ∧ c.opLen ≤ 240

/-- The operands are `n` bytes long and the bits of `rsvd` in them are 0 (R54). -/
abbrev Cmd.operands (c : Cmd) (n rsvd : Nat) : Prop := c.opLen = n ∧ (c.ops % 2 ^ (8 * n)) &&& rsvd = 0

end Sys2Proof

namespace Sys2Proof.Machine

/-- A step that neither faults nor refuses. -/
def Progresses (s : State) : Prop := ∃ t, step s = .next t

/-- The commands waiting name units that the device has. -/
abbrev QueueWellFormed (s : State) : Prop := ∀ i ∈ s.pending, i.wellFormed = true

/-- A client of privilege (R45, R405): W00, or a bus address whose PRIVILEGED bit is set. -/
abbrev State.privilegedClient (s : State) (c : Cmd) : Prop := c.win = 0 ∨ c.win = 64 ∧ s.busPrivileged = true

/-- Nothing of the power state holds opcode `op` (R434): no DARK, no entry to it and no exit from it, or an opcode that runs there. -/
abbrev State.awakeFor (s : State) (op : Nat) : Prop := s.pw.step.dark = false ∧ s.powerState ≠ 2 ∨ darkExempt op = true

/-- No command in progress of the same window keeps this one waiting (R34): none of them is followed by a fence, or preceded by one that still
waits for an earlier command, and none stands there if this one is preceded by a fence. -/
abbrev State.noFence (s : State) (op : Nat) (c : Cmd) : Prop :=
  ∀ g ∈ s.ctl.flights, g.cmd.win = c.win → g.fenceAfter = false ∧ op ≠ 0x0002 ∧ c.flags.testBit 0 = false ∧ c.flags.testBit 1 = false
    ∧ (g.fenceBefore = true → ∀ h ∈ s.ctl.flights, g.earlier h = false)

/-- The command can be written to its slot and rung, Aipex takes doorbells, and neither the power state nor a fence holds it. -/
abbrev State.takes (s : State) (op : Nat) (c : Cmd) : Prop :=
  c.wf = true ∧ s.reachable c.win = true ∧ s.slotFree c.win c.slot = true ∧ s.ctl.fwReady = true ∧ s.awakeFor op ∧ s.noFence op c

/-- A command that passes every check of R62 but those of its operands: it can be taken, its header is sound, the firmware supports the opcode,
its window is open or it comes over the management bus, and if `priv` its client is privileged. -/
abbrev State.accepts (s : State) (priv : Bool) (op : Nat) (c : Cmd) : Prop :=
  s.takes op c ∧ c.headerOk ∧ s.fwSupports op = true ∧ (c.win = 64 ∨ s.winState c.win = .opened) ∧ (priv = true → s.privilegedClient c)

/-- The reply record of a command's slot. -/
def State.replyTo (s : State) (c : Cmd) : Reply := SMap.get replyDef (s.win c.win).replies c.slot

/-- Command `c` of opcode `op` has its final reply (R55, R56): completion code, result length and result, the tag and sequence number that it
was given; REPLY_READY is set and SLOT_BUSY clear. -/
def Answered (op : Nat) (c : Cmd) (code len result : Nat) (t : State) : Prop :=
  (t.replyTo c).final = true ∧ (t.replyTo c).status % 256 = code ∧ (t.replyTo c).tag = c.tag ∧ (t.replyTo c).seq = c.seq
    ∧ (t.replyTo c).opcode = op ∧ (t.replyTo c).len = len ∧ (t.replyTo c).result = result % 2 ^ (8 * len)
    ∧ (t.win c.win).ready.testBit c.slot = true ∧ (t.win c.win).busy.testBit c.slot = false

/-- Command `c` of opcode `op` has started and has no final reply yet: its slot is busy. -/
def Unanswered (op : Nat) (c : Cmd) (t : State) : Prop :=
  (∃ f ∈ t.ctl.flights, f.cmd = c ∧ f.opcode = op ∧ f.started = true) ∧ (t.win c.win).busy.testBit c.slot = true

/-- Every parameter element but those at the keys `l` reads the same. -/
def SameParams (l : List Nat) (s t : State) : Prop := ∀ k, k ∉ l → SMap.get pdef t.params k = SMap.get pdef s.params k

/-- Nothing waits for a master period boundary: no staged change, binding change, power change, running canvas, flip, common start, port without
buffers, unposted loss, bin, uniformity commit or calibration run. -/
abbrev State.atRest (s : State) : Prop :=
  s.ctl.staged = [] ∧ (∀ p, p < 8 → (s.pipe p).change = none) ∧ s.pw.step = .none ∧ (∀ c, c < 16 → s.cvState c = 0 ∧ (s.canvas c).flips = []) ∧ s.au.starts = []
    ∧ (∀ n, n < 16 → s.apState n ≠ 6 ∧ (s.port n).lost = 0) ∧ s.binList = [] ∧ (∀ e, e < 2 → (s.engine e).dropped = 0) ∧ s.colour.commit = none
    ∧ ∀ g, g < 28 → (s.laneGroup g).run = none

/-- The command in progress `f`, of ticket `tk`, awaits its final reply, and Aipex runs to write it. -/
abbrev State.awaits (s : State) (tk : Nat) (f : Flight) : Prop := s.flight? tk = some f ∧ s.aipexDown = false

/-- Nothing but the control plane differs. -/
def OnlyControl (s t : State) : Prop := t = { s with ctl := t.ctl }

/-- Window `x` is `y` but for the record of slot `k`: its bytes, its state bits and its reply. -/
def Window.sameButSlot (k : Nat) (x y : Window) : Prop :=
  x = { y with slots := x.slots, busy := x.busy, ready := x.ready, rung := x.rung, rungPriv := x.rungPriv, replies := x.replies }
    ∧ ∀ j, j ≠ k → x.busy.testBit j = y.busy.testBit j ∧ x.ready.testBit j = y.ready.testBit j ∧ x.rung.testBit j = y.rung.testBit j
        ∧ SMap.get replyDef x.replies j = SMap.get replyDef y.replies j

/-- `t` is `s` but for what taking and answering command `c` does whatever the command: its slot's record, what its row says stands in host
memory, the next ticket, and the DARK return timer. No other command, slot or window is touched. -/
def CommandOnly (c : Cmd) (s t : State) : Prop :=
  t = { s with ctl := { s.ctl with wins := t.ctl.wins, hostMem := t.ctl.hostMem, ticket := t.ctl.ticket }, pw := { s.pw with returnFrom := t.pw.returnFrom } }
    ∧ (∀ w, w ≠ c.win → t.win w = s.win w) ∧ (t.win c.win).sameButSlot c.slot (s.win c.win)
    ∧ (c.host = [] → t.ctl.hostMem = s.ctl.hostMem)

/-- `t` differs from `s` in what writing event records may change: the rings' windows, the status views' sequence numbers, host memory and AER. -/
def EventOnly (s t : State) : Prop :=
  ∃ w v h a, t = { s with ctl := { s.ctl with wins := w, views := v, hostMem := h, aer := a } }

/-- Window `n` but for its ring's head and loss counts. -/
def Window.sameButRing (x y : Window) : Prop :=
  x = { y with head := x.head, written := x.written, lost := x.lost, pendLoss := x.pendLoss, firstLoss := x.firstLoss }

/-- No window's registers, slots, replies or mask change. -/
def RingsOnly (s t : State) : Prop := ∀ n, (t.win n).sameButRing (s.win n)

/-- `t` is `s` but for event records that were written or lost (R76 to R80). -/
def EventsOnly (s t : State) : Prop := EventOnly s t ∧ RingsOnly s t

/-- Window `x` is `y` but for what event records and the record of slot `k` may change in it. -/
def Window.sameButSlotAndRing (k : Nat) (x y : Window) : Prop := ∃ z, z.sameButSlot k y ∧ x.sameButRing z

/-- `t` is `s` but for what taking and answering command `c` does whatever the command, and event records that were written or lost. -/
def CommandEvents (c : Cmd) (s t : State) : Prop :=
  t = { s with ctl := { s.ctl with wins := t.ctl.wins, views := t.ctl.views, hostMem := t.ctl.hostMem, aer := t.ctl.aer, ticket := t.ctl.ticket }
               pw := { s.pw with returnFrom := t.pw.returnFrom } }
    ∧ (∀ w, w ≠ c.win → (t.win w).sameButRing (s.win w)) ∧ (t.win c.win).sameButSlotAndRing c.slot (s.win c.win)

/-- Command `c` of opcode `op` has started, has no final reply yet, and besides its own record the state is `e`. -/
def Waits (op : Nat) (c : Cmd) (e t : State) : Prop :=
  (∃ f : Flight, t.ctl.flights = e.ctl.flights ++ [f] ∧ f.cmd = c ∧ f.opcode = op ∧ f.started = true ∧ f.ticket = e.newTicket)
    ∧ (t.win c.win).busy.testBit c.slot = true
    ∧ t = { e with ctl := { e.ctl with wins := t.ctl.wins, hostMem := t.ctl.hostMem, ticket := t.ctl.ticket, flights := t.ctl.flights } }
    ∧ (∀ w, w ≠ c.win → t.win w = e.win w) ∧ (t.win c.win).sameButSlot c.slot (e.win c.win) ∧ (c.host = [] → t.ctl.hostMem = e.ctl.hostMem)

/-- The device's own ALIGN column of camera group `g` in training, in order of lane (R87, R103): D1 names the head's lane, 31 while none is known, or asks
on LSP for lane 0; D2 is the group's ASEQ; D3 has the width code and TRAINING. -/
def alignsOf (g : Nat) (x : CamGroup) : List Tx :=
  (List.range 17).map fun l => .lane (1024 + 17 * g + l) 5 (if x.askSpare = some 0 ∧ l = x.lsp then 0x80 else SMap.get (fun _ => 31) x.lanes l) x.aseqTx
    (widthCode x.headWidth * 32 + 16 * b2n (!x.trained))

/-- A transmission that a window that ends at `w` holds back until then (R261). -/
abbrev State.held (s : State) (w : Nat) (x : Tx) : Tx := if s.now < w then .later w x else x

/-- The end of the calibration window of camera group `g` that stands. -/
abbrev State.camWindow (s : State) (g : Nat) : Nat := (s.laneGroup (16 + g)).winEnd

/-- Camera group `g` has come to state `n` of Table 3-7 from another, of width 0 unless that is ACTIVE; in training its own ALIGN column leaves. A head that
was present in ACTIVE and not reported yet has not arrived (R105). Besides that, the direction states of its own lanes and event records, `t` is `e`. -/
def GroupIn (g n : Nat) (e t : State) : Prop :=
  t.camState g = n ∧ t.getP (P.cg g P.CG_WIDTH) 0 = (if n = 5 then (e.group g).width else 0)
    ∧ SameParams [pkey (P.cg g P.CG_STATE) 0, pkey (P.cg g P.CG_WIDTH) 0] e t ∧ (∀ k, k ∉ groupLanes (16 + g) → t.lane k = e.lane k)
    ∧ t.sent = (if 1 ≤ n ∧ n ≤ 4 then (alignsOf g (e.group g)).reverse else []) ++ e.sent
    ∧ t.group g = (if 1 ≤ n ∧ n ≤ 4 then { e.group g with aseqTx := ((e.group g).aseqTx + 1) % 256 } else e.group g)
    ∧ (∀ h, h ≠ g → t.group h = e.group h) ∧ t.cam.sensors = e.cam.sensors
    ∧ (t.partner (headId g)).present = ((e.partner (headId g)).present && (e.camState g != 5 || n == 5 || (e.partner (headId g)).reported))
    ∧ (∀ q, partnerKey q ≠ partnerKey (headId g) → t.partner q = e.partner q)
    ∧ EventsOnly { e with
        params := t.params, ln := { e.ln with lanes := t.ln.lanes }, cam := t.cam, sent := t.sent, ctl := { e.ctl with partners := t.ctl.partners } } t

/-- Packets of camera group `g` are received: it is in IDENTIFY or ACTIVE, the device is not in DARK, and all its logical lanes deliver. -/
abbrev State.receives (s : State) (g : Nat) : Prop := (s.camState g = 4 ∨ s.camState g = 5) ∧ s.powerState ≠ 2 ∧ s.groupHears g = true

/-- Nothing but time acts on canvas `c`: nothing is staged, no flip is pending, no layer, input or tile takes part on it, no input takes part and no
frame store stands on any canvas, no codec stream is open, and no power change, uniformity commit or calibration run is in progress. -/
abbrev State.quietCanvas (s : State) (c : Nat) : Prop :=
  s.ctl.staged = [] ∧ (s.canvas c).flips = [] ∧ s.portMap c = [] ∧ (∀ n, n < 16 → ∀ i, i < 8 → s.inputActive n i = false) ∧ s.cv.stores = []
    ∧ (∀ e, e < 2 → s.vcp e P.VC_MODE = 0 ∧ (s.engine e).freeing = []) ∧ s.pw.step = .none ∧ s.colour.commit = none ∧ ∀ g, g < 28 → (s.laneGroup g).run = none

/-- `t` is `e` but for the final reply to the command in progress `g`: its slot's record, its place among the commands in progress, and the DARK
return timer. -/
def Replied (g : Flight) (e t : State) : Prop :=
  t = { e with ctl := { e.ctl with wins := t.ctl.wins, flights := e.ctl.flights.filter fun f => f.ticket != g.ticket }
               pw := { e.pw with returnFrom := t.pw.returnFrom } }
    ∧ (∀ w, w ≠ g.cmd.win → t.win w = e.win w) ∧ (t.win g.cmd.win).sameButSlot g.cmd.slot (e.win g.cmd.win)

/-- Command `c` of opcode `op` has started, has no final reply yet, and besides its own record and event records the state is `e`. -/
def WaitsEvents (op : Nat) (c : Cmd) (e t : State) : Prop :=
  (∃ f : Flight, t.ctl.flights = e.ctl.flights ++ [f] ∧ f.cmd = c ∧ f.opcode = op ∧ f.started = true ∧ f.ticket = e.newTicket)
    ∧ (t.win c.win).busy.testBit c.slot = true
    ∧ t = { e with ctl := { e.ctl with wins := t.ctl.wins, views := t.ctl.views, hostMem := t.ctl.hostMem, aer := t.ctl.aer, ticket := t.ctl.ticket
                                       flights := t.ctl.flights } }
    ∧ (∀ w, w ≠ c.win → (t.win w).sameButRing (e.win w)) ∧ (t.win c.win).sameButSlotAndRing c.slot (e.win c.win)

/-- The parameters that follow the buffers of the carve-outs (R277). -/
def memoryKeys : List Nat := ([1, 2, 3, 4].map fun k => pkey P.MEM_CARVE_USED k) ++ (List.range 64).map fun w => pkey P.MEM_WINDOW_USED w

/-- The parameters that follow the regions defined (R294). -/
def regionKeys : List Nat :=
  pkey P.CXL_PERSIST_TOTAL 0 :: (List.range 32).flatMap fun r => [pkey P.CXL_REGION_BASE r, pkey P.CXL_REGION_SIZE r]

/-- `t` is `e` but for the final reply to the command in progress `g` and event records that were written or lost. -/
def RepliedEvents (g : Flight) (e t : State) : Prop :=
  t = { e with ctl := { e.ctl with wins := t.ctl.wins, views := t.ctl.views, hostMem := t.ctl.hostMem, aer := t.ctl.aer
                                   flights := e.ctl.flights.filter fun f => f.ticket != g.ticket }
               pw := { e.pw with returnFrom := t.pw.returnFrom } }
    ∧ (∀ w, w ≠ g.cmd.win → (t.win w).sameButRing (e.win w)) ∧ (t.win g.cmd.win).sameButSlotAndRing g.cmd.slot (e.win g.cmd.win)

/-- Nothing but lane `k`'s own record differs. -/
def LaneOnly (k : Nat) (s t : State) : Prop := (∀ j, j ≠ k → t.lane j = s.lane j) ∧ t = { s with ln := { s.ln with lanes := t.ln.lanes } }

/-- Lane `k` leaves LOCKED for state `n`, a loss that its counter records; the link carries nothing, so besides that there are event records only. -/
def LockLost (k n : Nat) (s t : State) : Prop :=
  (t.lane k).lock = n ∧ (t.lane k).losses = min ((s.lane k).losses + 1) (2 ^ 32 - 1) ∧ (t.lane k).lost = true ∧ (t.lane k).errs = 0
    ∧ (∀ j, j ≠ k → t.lane j = s.lane j) ∧ EventsOnly { s with ln := { s.ln with lanes := t.ln.lanes } } t

/-- The parameters of Table 7-14 that loop `l` and its two ports have for themselves. -/
def loopKeys (l : Nat) : List Nat :=
  ([P.MW_LOOP_STATE, P.MW_REACH, P.MW_ALARMS, P.MW_FAILOVERS].map fun i => pkey (mwLoop l i) (l % 32))
    ++ [2 * l, 2 * l + 1].map fun p => pkey (P.mw (p / 64) P.MW_ABANDONED) (p % 64)

/-- Besides loop `l` and its tiles, their reports, the direction states of its two ports' lanes, what is sent, the service conditions, its tiles as
partners and event records, `t` is `e`. -/
def LoopOnly (l : Nat) (e t : State) : Prop :=
  (∀ k, k ≠ l → t.loop k = e.loop k) ∧ (∀ k h, k ≠ l → 1 ≤ h → h ≤ 32 → t.tile k h = e.tile k h) ∧ SameParams (loopKeys l) e t
    ∧ (∀ k, k ≠ 2 * l → k ≠ 2 * l + 1 → t.lane k = e.lane k)
    ∧ (∀ q, (∀ h, 1 ≤ h → h ≤ 32 → partnerKey q ≠ partnerKey (tileId l h)) → t.partner q = e.partner q)
    ∧ ∃ w v h a, t = { e with
        params := t.params, sent := t.sent
        ctl := { e.ctl with wins := w, views := v, hostMem := h, aer := a, service := t.ctl.service, partners := t.ctl.partners }
        mw := { e.mw with loops := t.mw.loops, tiles := t.mw.tiles, abandoned := t.mw.abandoned, aseq := t.mw.aseq }, ln := { e.ln with lanes := t.ln.lanes } }

/-- The device's own ALIGN column on the partner lanes, in order of lane (R87, R233): D1 the logical lane, D2 the ASEQ, D3 the width code and TRAINING. -/
def linkAligns (x : PartnerLink) : List Tx :=
  ((List.range 8).filter fun i => x.mask.testBit i).zipIdx.map fun e => .lane (1160 + e.1) 5 e.2 x.aseqTx (widthCode x.width * 32 + 16 * b2n (!x.trained))

/-- The partner link after it has sent its ALIGN column. -/
abbrev PartnerLink.aligned (x : PartnerLink) : PartnerLink := { x with aseqTx := (x.aseqTx + 1) % 256 }

/-- The partner link has come to state `n` of Table 3-7, of width 0 unless that is ACTIVE; in training its own ALIGN column leaves. Besides that, the
direction states of its own lanes and event records, `t` is `e`. -/
def LinkIn (n : Nat) (e t : State) : Prop :=
  t.linkState = n ∧ t.getP P.PT_WIDTH 0 = (if n = 5 then e.mw.link.width else 0) ∧ SameParams [pkey P.PT_STATE 0, pkey P.PT_WIDTH 0] e t
    ∧ (∀ k, k < 1160 ∨ 1168 ≤ k → t.lane k = e.lane k) ∧ t.sent = (if 1 ≤ n ∧ n ≤ 4 then (linkAligns e.mw.link).reverse else []) ++ e.sent
    ∧ EventsOnly { e with params := t.params, ln := { e.ln with lanes := t.ln.lanes }, sent := t.sent
                          mw := { e.mw with link := if 1 ≤ n ∧ n ≤ 4 then e.mw.link.aligned else e.mw.link } } t

/-- The parameters that follow the clips that bin `b` holds. -/
def binKeys (b : Nat) : List Nat := [pkey P.FR_BIN_USED b, pkey P.FR_BIN_PROTECTED b, pkey P.FR_BIN_OLDEST b]

/-- The parameters that follow the bandwidth reservations (R42). -/
def bwKeys : List Nat := (List.range 5).flatMap fun i => [pkey P.BW_RESERVED i, pkey P.BW_SHORTFALL i]

/-- The bin after a checkpoint at tick `now`: written to the header segments in turn, which counts a pass of the one written (R307). -/
def Bin.checkpointed (x : Bin) (now : Nat) : Bin :=
  let g := if x.ckpt % 2 = 0 then x.hdrA else x.hdrB
  { x with ckpt := x.ckpt + 1, ckptTime := now, passes := SMap.set (fun _ => 0) x.passes g (SMap.get (fun _ => 0) x.passes g + 1) }

/-- The free segments of a bin, the one furthest ahead of the write position first (R321). -/
def Bin.freeAhead (x : Bin) : List Nat :=
  ((List.range x.segs).map fun i => (x.wseg + x.segs - i) % x.segs).filter fun g => g != x.hdrA && g != x.hdrB && g != x.wseg && !x.used g

/-- A pinned segment whose passes lag the average of the data segments by more than `lag` (R321). -/
def Bin.lagging (x : Bin) (lag : Nat) : Option Nat :=
  x.data.find? fun g => x.pinned g
    && decide ((SMap.get (fun _ => 0) x.passes g + lag) * x.data.length < (x.data.map fun g => SMap.get (fun _ => 0) x.passes g).sum)

/-- The parameters that are bin `b`'s own. -/
def binOwn (b : Nat) : List Nat := pkey P.FR_BIN_STATE b :: pkey P.FR_BIN_QUOTA b :: pkey P.BIN_ADMIN_PROGRESS b :: binKeys b

/-- Besides bin `b`, its parameters, its service condition and event records, `t` is `e`. -/
def BinOnly (b : Nat) (e t : State) : Prop :=
  (∀ k, k ≠ b → t.bin? k = e.bin? k) ∧ SameParams (binOwn b) e t
    ∧ EventsOnly { e with params := t.params, ctl := { e.ctl with service := t.ctl.service }, fr := { e.fr with bins := t.fr.bins, volClip := t.fr.volClip } } t

/-- A pair without what has met its commands. -/
def Pair.unmet (p : Pair) : Pair := { p with cmds := p.cmds.map fun c => { c with fate := 0 } }

/-- The clip queue pairs are the same but for what has met the commands in progress (R302, R350, R352). -/
def SamePairs (e t : State) : Prop := ∀ k, (SMap.get pairDef t.cq.pairs k).map Pair.unmet = (SMap.get pairDef e.cq.pairs k).map Pair.unmet

/-- No BIN_DELETE waits for reads in progress. -/
abbrev State.noDeletes (s : State) : Prop := (s.fr.bins.all fun e => e.2.all fun x => x.deleting.isNone) = true

/-- Commands in progress read bin `b`: READ, READ_FRAME, DIR_READ or INDEX_READ that nothing has met, or one that a deletion waits for. -/
def State.binRead (s : State) (b : Nat) : Bool :=
  s.cq.pairs.any fun e => e.2.any fun p => p.cmds.any fun c =>
    sqField c.entry 4 1 == b && (c.fate == 1 || c.fate == 0 && [1, 2, 3, 4].contains (sqField c.entry 0 1))

/-- Besides bin `b`, its parameters, its service condition, the record of command `c`, event records and what has met fetched commands, `t` is `e`. -/
def BinCommand (c : Cmd) (b : Nat) (e t : State) : Prop :=
  (∀ k, k ≠ b → t.bin? k = e.bin? k) ∧ SameParams (binOwn b) e t
    ∧ CommandEvents c { e with
        params := t.params, ctl := { e.ctl with service := t.ctl.service }, cq := { e.cq with pairs := t.cq.pairs }
        fr := { e.fr with bins := t.fr.bins, volClip := t.fr.volClip } } t ∧ SamePairs e t

/-- No pair but pair `q` of window `w` differs. -/
def OtherPairs (w q : Nat) (s t : State) : Prop := ∀ k, k ≠ w * 16 + q → SMap.get pairDef t.cq.pairs k = SMap.get pairDef s.cq.pairs k

/-- Command `c` of pair `q` of window `w`, which was `p`, has left it, and the CQ entry with this code and these results stands at what was
the CQ's tail (R337), signalled where R338 says; besides that, `t` is `e`. -/
def Completed (w q : Nat) (c : QCmd) (p : Pair) (code r0 r1 r2 : Nat) (e t : State) : Prop :=
  (∃ y, t.pair? w q = some y ∧ y.cmds = p.cmds.erase c ∧ y.sqHead = p.sqHead ∧ y.sqTail = p.sqTail ∧ y.cqHead = p.cqHead
      ∧ y.cqTail = (p.cqTail + 1) % 2 ^ p.cqLog ∧ y.written = p.written + 1 ∧ y.frozen = p.frozen ∧ y.restart = p.restart)
    ∧ takeBytes zeroByte t.ctl.hostMem (p.cqBase + 32 * p.cqTail) 32
      = leBytes (e.statusWord w code) 4 ++ leBytes c.cid 2 ++ leBytes p.sqHead 2
        ++ leBytes (q + at' 14 1 + at' 15 (b2n ((p.written / 2 ^ p.cqLog) % 2 == 0))) 2 ++ leBytes 0 2 ++ leBytes r0 4 ++ leBytes r1 8 ++ leBytes r2 8
    ∧ (∀ a, (a < p.cqBase + 32 * p.cqTail ∨ p.cqBase + 32 * p.cqTail + 32 ≤ a) → SMap.get zeroByte t.ctl.hostMem a = SMap.get zeroByte e.ctl.hostMem a)
    ∧ t.sent = (if p.vector ≠ 0xFF ∧ (p.aggCount ≤ p.unsignalled + 1 ∨ p.aggTime = 0) then .msix w p.vector :: e.sent else e.sent) ∧ OtherPairs w q e t
    ∧ t = { e with sent := t.sent, ctl := { e.ctl with hostMem := t.ctl.hostMem }, cq := { e.cq with pairs := t.cq.pairs } }

/-- Pair `q` of window `w` has frozen for a failure with this code (R342): nothing is in progress, the newest entry of the window's error log tells
it, and CQ_FREEZES counts it; besides that, CQ entries and event records, `t` is `e`. -/
def Froze (w q cid op code : Nat) (e t : State) : Prop :=
  (∃ y, t.pair? w q = some y ∧ y.frozen = true ∧ y.cmds = [])
    ∧ SMap.get (fun _ => 0) t.cq.logSeq w = (SMap.get (fun _ => 0) e.cq.logSeq w + 1) % 2 ^ 32
    ∧ (∃ g, (SMap.get (fun _ => []) t.cq.logs w).getLast? = some g ∧ g.seq = SMap.get (fun _ => 0) t.cq.logSeq w ∧ g.froze = true ∧ g.queue = q ∧ g.cid = cid
      ∧ g.opcode = op ∧ g.code = code ∧ g.time = e.now)
    ∧ (∀ k, k ≠ w → SMap.get (fun _ => []) t.cq.logs k = SMap.get (fun _ => []) e.cq.logs k
      ∧ SMap.get (fun _ => 0) t.cq.logSeq k = SMap.get (fun _ => 0) e.cq.logSeq k) ∧ OtherPairs w q e t
    ∧ t.getP P.CQ_FREEZES w = min (e.getP P.CQ_FREEZES w + 1) (2 ^ 32 - 1) ∧ SameParams [pkey P.CQ_FREEZES w] e t
    ∧ EventsOnly { e with params := t.params, sent := t.sent, cq := t.cq } t

/-- The parameters that opening and releasing engine `e` changes. -/
def engineKeys (e : Nat) : List Nat :=
  [P.VC_HOLDER, P.VC_MODE, P.VC_STATE, P.VC_BW_RESERVED, P.VC_LOAD, P.VC_INPUT_FREE].map fun i => pkey (P.vc e i) 0

/-- The first CTU of the picture in progress that the budget clamps (R364). -/
def State.clampAt (s : State) (e : Nat) (w : PicWork) (o : PicOutcome) : Option Nat :=
  let x := s.engine e
  let ctus := ctuCols x.width * ctuRows x.height
  let rows := s.vcp e P.VC_SLICE_ROWS
  firstClamped w.budget (if w.idr.isSome then 768 else 32) ctus (if rows = 0 then ctus else ctuCols x.width * rows) (slicesOf rows (ctuRows x.height))
    o.headBits o.ctuBits 0 (if w.idr.isSome then 8192 else 0)

/-- No other engine differs. -/
def OtherEngines (e : Nat) (s t : State) : Prop := ∀ k, k ≠ e → t.engine k = s.engine k

/-- A read over the management bus at an address that the device answers (R396, R398, R400): these bytes and their PEC leave, MB_LAST_ADDR is the
address, and nothing else changes. -/
def BusRead (addr code : Nat) (l : List Byte) (s t : State) : Prop :=
  t.getP P.MB_LAST_ADDR 0 = addr ∧ SameParams [pkey P.MB_LAST_ADDR 0] s t
    ∧ t = { s with
        params := t.params, sent := .bus (l ++ leBytes (crc8 (busWrite addr code ++ busRead addr ++ l)) 1) :: s.sent
        ctl := { s.ctl with reached := t.ctl.reached, reachedAt := t.ctl.reachedAt } }

/-- A bus transaction that has no effect but MB_LAST_ADDR, the counter `id`, if any, which counts it, and a NAK if `nak`. -/
def BusRefused (addr : Nat) (id : Option Nat) (nak : Bool) (s t : State) : Prop :=
  t.getP P.MB_LAST_ADDR 0 = addr ∧ (∀ i, id = some i → t.getP i 0 = min (s.getP i 0 + 1) (2 ^ 32 - 1))
    ∧ SameParams (pkey P.MB_LAST_ADDR 0 :: (id.map fun i => pkey i 0).toList) s t
    ∧ t = { s with
        params := t.params, sent := if nak then .busNak :: s.sent else s.sent
        ctl := { s.ctl with reached := t.ctl.reached, reachedAt := t.ctl.reachedAt } }

/-- `t` is `s` after everything outside the VAUX domain has been reset, and started with reset code `cause` (R424, R425). -/
def Restarted (cause : Nat) (s t : State) : Prop :=
  t.now = 0 ∧ t.getP P.PW_RESET_CAUSE 0 = cause ∧ (∀ k, vauxParam k = true → k ≠ pkey P.PW_RESET_CAUSE 0 → SMap.get pdef t.params k = SMap.get pdef s.params k)
    ∧ (∀ k, vauxParam k = false → k ≠ pkey P.PW_RESET_CAUSE 0 → SMap.get pdef t.params k = pdef k) ∧ t.sent = s.sent ∧ t.free = s.free ∧ t.bus = s.bus ∧ t.hk.diodes = s.hk.diodes
    ∧ t.hk.next = s.hk.next ∧ t.hk.trip = s.hk.trip ∧ t.hk.tasks = State.reset.hk.tasks ∧ t.ctl.wins = [] ∧ t.ctl.flights = [] ∧ t.ctl.staged = []
    ∧ t.ctl.tables = [] ∧ t.ctl.partners = []
    ∧ t.ctl.service = (s.ctl.service.filter fun c => match c with | .rowPool _ _ => true | _ => false) ∧ t.ctl.faultLog = s.ctl.faultLog ∧ t.ctl.fwFloor = s.ctl.fwFloor
    ∧ t.ctl.revoked = s.ctl.revoked ∧ t.ctl.bootSlot = s.ctl.bootSlot ∧ t.ring = {} ∧ t.cq = {} ∧ t.cam = {} ∧ t.pipes = [] ∧ t.colour = {} ∧ t.cv = {} ∧ t.mw = {}
    ∧ t.ln = {} ∧ t.vc = {} ∧ t.au = {} ∧ t.dram = { remap := s.dram.remap } ∧ t.pw = { refclk := s.pw.refclk, clkMode := s.pw.clkMode }
    ∧ t.cxl.exps = s.cxl.exps ∧ ∀ r, t.region r = { s.region r with verifying := false }

end Sys2Proof.Machine

namespace Sys2Proof

open Sys2Proof.Machine in
/-- A packet of a camera group's forward link that passes every check of R106: type `n`, its HCRC and its payload CRC right. -/
abbrev CamPkt.sound (n : Nat) (p : CamPkt) : Prop := p.wf = true ∧ hdrType p.hdr = n ∧ p.faulty = false ∧ p.crcBad = false

open Sys2Proof.Machine in
/-- An upstream packet of type `n` that passes every check of R215. -/
abbrev TilePkt.sound (n : Nat) (p : TilePkt) : Prop :=
  p.wf = true ∧ hdrType p.hdr = n ∧ tileFaulty n p = false ∧ (p.payload.length = 0 ∨ crc32c p.payload = p.crc)

open Sys2Proof.Machine in
/-- A partner packet of type `n` with `len` bytes of payload that passes every check of R234. -/
abbrev TilePkt.soundPartner (n len : Nat) (p : TilePkt) : Prop :=
  p.wfPartner = true ∧ hdrType p.hdr = n ∧ tileFaulty n p = false ∧ p.payload.length = len ∧ crc32c p.payload = p.crc

end Sys2Proof
end

