-- ==== Sys2Proof/Certificates/Slice0/Obligations.lean ====
section
/-! DEFINITION. The statements about the block: whole-machine rules first, then for each family of commands what its rows do, where they complete,
and what they leave as it was. -/

open Sys2Proof Sys2Proof.Machine

/-- A step takes the command at the front of the queue and runs it with the rest. That an empty queue idles is the model's choice (log 10).
(01_architecture.md, 02_control.md) -/
def Obligations.StepRunsFrontCommand : Prop :=
  (∀ (i : Instr) (rest : List Instr) (s : State), step { s with pending := i :: rest } = exec i { s with pending := rest })
    ∧ ∀ s : State, s.pending = [] → step s = .next s

/-- Every command that names existing units answers a next state with the queue as it was; any other stops with noSuchUnit (00_scope.md, 02_control.md) -/
def Obligations.CommandsRunWhereUnitsExist : Prop :=
  ∀ (i : Instr) (s : State),
    (i.wellFormed = true → ∃ t, exec i s = .next t ∧ t.pending = s.pending) ∧ (i.wellFormed = false → exec i s = .fault .noSuchUnit)

/-- Well-formed queues are invariant: no step stops, and a queue runs to its end in as many steps as it has commands (01_architecture.md, 02_control.md) -/
def Obligations.WellFormedQueueIsInvariant : Prop :=
  (∀ s : State, QueueWellFormed s → ∃ t, step s = .next t ∧ QueueWellFormed t ∧ t.pending = s.pending.tail)
  ∧ (∀ s : State, QueueWellFormed s → ∃ t, Sys2Proof.core.run s.pending.length s = .next t ∧ t.pending = [])

/-- The state after reset: no command waits, every window is CLOSED with empty registers, every parameter reads its default (02_control.md,
15_power_service.md) -/
def Obligations.ResetMeetsInvariants : Prop :=
  QueueWellFormed State.reset ∧ State.reset.pending = [] ∧ (∀ w, State.reset.win w = {}) ∧ (∀ id e, State.reset.getP id e = pdef (pkey id e))
    ∧ (∀ p, (State.reset.partner p).present = false) ∧ State.reset.ctl.flights = [] ∧ State.reset.ctl.faultLog = []
    ∧ SMap.wf pdef State.reset.params ∧ SMap.wf zeroByte State.reset.ctl.hostMem

/-- Submitted commands answer VERSION first, then NOT_PRIVILEGED, then BAD_PARAM for reserved fields (02_control.md, 14_housekeeping.md) -/
def Obligations.HeaderChecksRunInOrder : Prop :=
  ((∀ (i : Instr) (spec : OpSpec) (c : Cmd) (s : State), i.mailbox = some (spec, c) → s.takes spec.op c →
    (c.ver ≠ 1 ∨ s.fwSupports spec.op = false) → ∃ t, exec i s = .next t ∧ Answered spec.op c 0x0F 0 0 t ∧ CommandOnly c s t)
  ∧ (∀ (i : Instr) (spec : OpSpec) (c : Cmd) (s : State), i.mailbox = some (spec, c) → spec.priv = true → s.takes spec.op c → c.ver = 1 →
    s.fwSupports spec.op = true → (c.win = 64 ∨ s.winState c.win = .opened) → ¬ s.privilegedClient c →
    ∃ t, exec i s = .next t ∧ Answered spec.op c 0x05 0 0 t ∧ CommandOnly c s t))
  ∧ (∀ (i : Instr) (spec : OpSpec) (c : Cmd) (s : State), i.mailbox = some (spec, c) → s.takes spec.op c → c.ver = 1 →
    s.fwSupports spec.op = true → (c.win = 64 ∨ s.winState c.win = .opened) → ((spec.priv || spec.privIf c) = true → s.privilegedClient c) →
    (c.win = 64 → spec.bus c = true) →
    (8 ≤ c.flags ∨ c.rsvd06 ≠ 0 ∨ c.rsvd0D ≠ 0 ∨ 240 < c.opLen ∨ spec.len c = false ∨ (c.ops % 2 ^ (8 * c.opLen)) &&& spec.rsvd ≠ 0) →
    ∃ t, exec i s = .next t ∧ Answered spec.op c 0x04 0 0 t ∧ CommandOnly c s t)

/-- A CLOSED window accepts only PING, IDENTIFY and WINDOW_OPEN (R52) -/
def Obligations.ClosedWindowRejectsCommands : Prop :=
  (∀ (i : Instr) (spec : OpSpec) (c : Cmd) (s : State), i.mailbox = some (spec, c) → s.takes spec.op c → c.ver = 1 →
    s.fwSupports spec.op = true → c.win ≠ 64 → s.winState c.win = .closed → spec.op ≠ 0x0001 → spec.op ≠ 0x0003 → spec.op ≠ 0x0005 →
    ∃ t, exec i s = .next t ∧ Answered spec.op c 0x12 0 0 t ∧ CommandOnly c s t)
  ∧ (∀ (c : Cmd) (s : State), s.takes 0x0001 c → c.headerOk → c.operands 0 0 → s.fwSupports 0x0001 = true → c.win ≠ 64 →
    s.winState c.win = .closed → ∃ t, exec (.ping c) s = .next t ∧ Answered 0x0001 c 0 0 0 t ∧ CommandOnly c s t)
  ∧ (∀ (c : Cmd) (s : State), s.takes 0x0003 c → c.headerOk → c.operands 0 0 → s.fwSupports 0x0003 = true → c.win ≠ 64 →
    s.winState c.win = .closed → ∃ t r, exec (.identify c) s = .next t ∧ Answered 0x0003 c 0 64 r t ∧ CommandOnly c s t)
  ∧ (∀ (c : Cmd) (s : State), s.takes 0x0005 c → c.headerOk → c.operands 0 0 → s.fwSupports 0x0005 = true → c.win ≠ 64 →
    s.winState c.win = .closed → s.ctl.boot = .running → s.getP P.EVENT_OVER_QUOTA c.win = 0 → 6 ≤ (s.win c.win).sizeLog2 → (s.win c.win).sizeLog2 ≤ 16 → (s.win c.win).base ≠ 0 →
    (s.win c.win).base + 32 * 2 ^ (s.win c.win).sizeLog2 ≤ 2 ^ 64 →
    ∃ t, exec (.windowOpen c) s = .next t ∧ Answered 0x0005 c 0 0 0 t ∧ (t.win c.win).state = .opened ∧ (t.win c.win).head = 0
      ∧ (t.win c.win).tail = 0 ∧ (t.win c.win).tailRejects = 0 ∧ (t.win c.win).mask = defaultMask c.win)

/-- A command rung in a slot that is busy or whose REPLY_READY is 1 is ignored and sets the slot's DOORBELL_ERR bit (R55) -/
def Obligations.DoorbellOfBusySlotIsIgnored : Prop :=
  (∀ (i : Instr) (spec : OpSpec) (c : Cmd) (s : State), i.mailbox = some (spec, c) → c.wf = true → s.reachable c.win = true →
    s.slotFree c.win c.slot = false → exec i s = .next (if c.win = 64 then s.bumpSat P.MB_SLOT_ERRORS 0 1
      else s.setWin c.win { s.win c.win with
        derr := setBit (s.win c.win).derr c.slot
        slots := if (s.win c.win).busy.testBit c.slot then (s.win c.win).slots
          else putBytes zeroByte (s.win c.win).slots (c.slot * 256) (slotBytes spec.op c) }))
  ∧ (∀ (fn win value : Nat) (s : State), fn < 64 → win < 64 → value < 65536 → s.hostTakes fn win = false → exec (.doorbell ⟨fn, win⟩ value) s = .next s)
  ∧ (∀ (fn win value : Nat) (s : State), fn < 64 → win < 64 → value < 65536 → s.hostTakes fn win = true → ∃ t, exec (.doorbell ⟨fn, win⟩ value) s = .next t
    ∧ t = { s with ctl := { s.ctl with wins := t.ctl.wins } } ∧ (∀ w, w ≠ win → t.win w = s.win w)
    ∧ (t.win win).slots = (s.win win).slots ∧ (t.win win).ready = (s.win win).ready ∧ (t.win win).replies = (s.win win).replies
    ∧ ∀ k, k < 16 →
      ((t.win win).busy.testBit k = ((s.win win).busy.testBit k || (value.testBit k && s.slotFree win k)))
      ∧ ((t.win win).rung.testBit k = ((s.win win).rung.testBit k || (value.testBit k && s.slotFree win k)))
      ∧ ((t.win win).derr.testBit k = ((s.win win).derr.testBit k || (value.testBit k && !s.slotFree win k))))
  ∧ (∀ (i : Instr) (spec : OpSpec) (c : Cmd) (s : State), i.mailbox = some (spec, c) → c.wf = true → s.reachable c.win = true →
    s.slotFree c.win c.slot = true → s.ctl.fwReady = false → ∃ t, exec i s = .next t ∧ (t.win c.win).busy.testBit c.slot = true
      ∧ (t.win c.win).rung.testBit c.slot = true ∧ (t.win c.win).derr = (s.win c.win).derr ∧ (t.win c.win).replies = (s.win c.win).replies
      ∧ t.ctl.flights = s.ctl.flights ∧ t = { s with ctl := { s.ctl with wins := t.ctl.wins, hostMem := t.ctl.hostMem } })

/-- In DARK commands wait with POWER_HELD; in RECOVERY all but a few commands are answered NOT_PERMITTED (15_power_service.md, 02_control.md,
09_memory.md) -/
def Obligations.DarkHoldsAndRecoveryRejects : Prop :=
  (∀ (i : Instr) (spec : OpSpec) (c : Cmd) (s : State), i.mailbox = some (spec, c) → c.wf = true → s.reachable c.win = true →
    s.slotFree c.win c.slot = true → s.ctl.fwReady = true → s.getP P.PW_STATE 0 = 2 → s.pw.step = .none → darkExempt spec.op = false →
    ¬ (spec.op = 0x0040 ∧ c.f 0 8 = 2) →
    ∃ t, exec i s = .next t ∧ (t.replyTo c).final = false ∧ (t.replyTo c).status % 256 = 0x0E ∧ (t.replyTo c).tag = c.tag
      ∧ (t.win c.win).busy.testBit c.slot = true ∧ (∃ f ∈ t.ctl.flights, f.cmd = c ∧ f.opcode = spec.op ∧ f.started = false ∧ f.held = true)
      ∧ t.pw.step = .exiting ∧ t.getP P.PW_STATE 0 = 0x10102 ∧ t = { s with ctl := t.ctl, pw := t.pw, params := t.params })
  ∧ ((∀ (i : Instr) (spec : OpSpec) (c : Cmd) (s : State), i.mailbox = some (spec, c) → s.takes spec.op c → c.ver = 1 → c.win = 0 →
    (s.ctl.boot = .recoveryImage ∧ spec.op ∉ [0x0001, 0x0003, 0x0009, 0x0030, 0x0032] ∧ ¬ (spec.op = 0x0031 ∧ c.ops.testBit 0 = true)
      ∨ s.ctl.boot = .recoveryDram ∧ spec.op ∉ [0x0001, 0x0003, 0x0009, 0x0032]) →
    ∃ t, exec i s = .next t ∧ Answered spec.op c 0x05 0 0 t ∧ CommandOnly c s t)
  ∧ (∀ (c : Cmd) (s : State), s.takes 0x0005 c → c.ver = 1 → c.win ≠ 0 → c.win ≠ 64 → (s.ctl.boot = .recoveryImage ∨ s.ctl.boot = .recoveryDram) →
    ∃ t, exec (.windowOpen c) s = .next t ∧ Answered 0x0005 c 0x05 0 0 t ∧ CommandOnly c s t))

/-- PING, FENCE, IDENTIFY, ACK_BARKER, EVENT_MASK_GET and FAULT_LOG_READ complete with their results and change nothing else (02_control.md,
01_architecture.md) -/
def Obligations.GenericCommandsComplete : Prop :=
  (∀ (c : Cmd) (s : State), s.accepts false 0x0001 c → c.operands 0 0 → ∃ t, exec (.ping c) s = .next t ∧ Answered 0x0001 c 0 0 0 t ∧ CommandOnly c s t)
  ∧ (∀ (c : Cmd) (s : State), s.accepts false 0x0002 c → c.operands 0 0 → ∃ t, exec (.fence c) s = .next t ∧ Answered 0x0002 c 0 0 0 t ∧ CommandOnly c s t)
  ∧ (∀ (c : Cmd) (s : State), s.accepts false 0x0003 c → c.operands 0 0 → ∃ t, exec (.identify c) s = .next t ∧ CommandOnly c s t
    ∧ Answered 0x0003 c 0 64 (0x1024 + 0xB1 * 2 ^ 32 + s.getP P.FW_RELEASE 0 * 2 ^ 64 + 0x00040001 * 2 ^ 96 + Config.serial * 2 ^ 128
      + c.win * 2 ^ 192 + (if s.ctl.vfEnable then s.ctl.numVfs else 0) * 2 ^ 200 + s.getP P.FW_ACTIVE_SLOT 0 * 2 ^ 208) t)
  ∧ (∀ (c : Cmd) (s : State), s.accepts false 0x0008 c → c.operands 0 0 → c.win ≠ 64 → ∃ t, exec (.eventMaskGet c) s = .next t
    ∧ Answered 0x0008 c 0 32 (setBit (s.win c.win).mask 1) t ∧ CommandOnly c s t)
  ∧ (∀ (c : Cmd) (s : State), s.accepts false 0x0009 c → c.operands 4 0 → ∃ t, exec (.faultLogRead c) s = .next t ∧ CommandOnly c s t
    ∧ Answered 0x0009 c 0 (32 * ((s.ctl.faultLog.dropWhile fun e => decide (e.seq < c.f 0 32)).take 7).length)
      (ofLE (((s.ctl.faultLog.dropWhile fun e => decide (e.seq < c.f 0 32)).take 7).flatMap fun e =>
        leBytes e.seq 4 ++ leBytes 0 4 ++ leBytes e.time 8 ++ leBytes (e.cls * 4096 + e.idx) 2 ++ leBytes e.code 2 ++ leBytes 0 4 ++ leBytes e.detail 8)) t)
  ∧ (∀ (c : Cmd) (s : State), s.accepts false 0x0004 c → c.operands 8 0xFFFFFF00 → ∃ t v, exec (.ackBarker c) s = .next t ∧ Answered 0x0004 c 0 0 0 t
    ∧ CommandOnly c { s with ctl := { s.ctl with views := v } } t ∧ (∀ w, w ≠ c.win → t.view w = s.view w)
    ∧ (t.view c.win).config = ((s.view c.win).config && c.f 4 1 == 0) ∧ (t.view c.win).fwNotice = ((s.view c.win).fwNotice && c.f 7 1 == 0)
    ∧ (t.view c.win).fault = ((s.view c.win).fault && !(c.f 2 1 == 1 && c.f 32 32 == (s.ctl.faultNext + 0xFFFFFFFF) % 0x100000000)))

/-- WINDOW_CLOSE, EVENT_MASK_SET, host interface resets and VF_ENABLE_CHANGE act on windows and leave the rest running (02_control.md) -/
def Obligations.WindowsCloseByCommandAndReset : Prop :=
  ((∀ (c : Cmd) (s : State), s.accepts false 0x0006 c → c.operands 0 0 → c.win ≠ 64 → (∀ q, q < 16 → s.pair? c.win q = none) →
    (∀ e, e < 2 → s.vcState e = 0 ∨ s.vcp e P.VC_HOLDER ≠ c.win) → ∃ t, exec (.windowClose c) s = .next t ∧ Answered 0x0006 c 0 0 0 t
      ∧ (t.win c.win).state = .closed ∧ t.ctl.staging = (s.ctl.staging.filter fun g => g.owner != c.win) ∧ (∀ g ∈ t.ctl.flights, g.cmd.win ≠ c.win)
      ∧ t.ctl.tables = s.ctl.tables ∧ t = { s with ctl := t.ctl, cq := t.cq, pw := t.pw })
  ∧ (∀ (c : Cmd) (s : State), s.accepts false 0x0007 c → c.operands 32 0 → c.win ≠ 64 → ∃ t, exec (.eventMaskSet c) s = .next t
    ∧ Answered 0x0007 c 0 0 0 t ∧ (t.win c.win).mask = setBit (c.f 0 256) 1 ∧ (∀ w, w ≠ c.win → t.win w = s.win w)
    ∧ t = { s with ctl := { s.ctl with wins := t.ctl.wins, hostMem := t.ctl.hostMem, ticket := t.ctl.ticket }, pw := t.pw })
  ∧ (∀ (n : Nat) (s : State), 1 ≤ n → n ≤ 63 → ∃ t, exec (.hostInterfaceReset (.flrVf n)) s = .next t ∧ t.win n = {})
  ∧ (∀ (on : Bool) (n : Nat) (s : State), ∃ t, exec (.vfEnableChange on n) s = .next t ∧ t.ctl.vfEnable = on ∧ t.ctl.numVfs = min n 63))
  ∧ (∀ (r : HostReset) (s : State), (∀ n, r ≠ .flrVf n) → ∃ t, exec (.hostInterfaceReset r) s = .next t ∧ (∀ w, w < 64 → (t.win w).state = .closed)
    ∧ t.ctl.vfEnable = false ∧ t.ctl.numVfs = 0 ∧ t.ctl.perstN = (s.ctl.perstN && r != .perst))

/-- Register writes: EVENT_TAIL within the unconsumed span, slots unless busy, W1C bits, ring registers only when CLOSED (02_control.md) -/
def Obligations.WindowRegistersTakeWrites : Prop :=
  ((∀ (fn win v : Nat) (s : State), fn < 64 → win < 64 → v < 65536 → s.hostTakes fn win = true → v < 2 ^ (s.win win).sizeLog2 →
    (v + 2 ^ (s.win win).sizeLog2 - (s.win win).tail) % 2 ^ (s.win win).sizeLog2 ≤ (s.win win).count →
    ∃ t, exec (.eventTailWrite ⟨fn, win⟩ v) s = .next t ∧ (t.win win).tail = v ∧ (t.win win).tailRejects = (s.win win).tailRejects
      ∧ (∀ w, w ≠ win → (t.win w).tail = (s.win w).tail) ∧ t = { s with ctl := t.ctl, params := t.params })
  ∧ (∀ (fn win v : Nat) (s : State), fn < 64 → win < 64 → v < 65536 → s.hostTakes fn win = true →
    (2 ^ (s.win win).sizeLog2 ≤ v ∨ (s.win win).count < (v + 2 ^ (s.win win).sizeLog2 - (s.win win).tail) % 2 ^ (s.win win).sizeLog2) →
    exec (.eventTailWrite ⟨fn, win⟩ v) s = .next (s.setWin win { s.win win with tailRejects := min ((s.win win).tailRejects + 1) 0xFFFFFFFF }))
  ∧ (∀ (fn win v : Nat) (s : State), fn < 64 → win < 64 → v < 65536 → exec (.registerWrite fn win 0x2028 ((leBytes v 4).map some)) s = exec (.eventTailWrite ⟨fn, win⟩ v) s)
  ∧ (∀ (fn win v : Nat) (s : State), fn < 64 → win < 64 → v < 65536 → s.hostTakes fn win = false → exec (.eventTailWrite ⟨fn, win⟩ v) s = .next s))
  ∧ ((∀ (fn win k o : Nat) (b : Byte) (s : State), fn < 64 → win < 64 → s.hostTakes fn win = true → k < 16 → o < 256 →
    exec (.registerWrite fn win (k * 256 + o) [some b]) s = .next (if (s.win win).busy.testBit k then s
      else s.setWin win { s.win win with slots := SMap.set zeroByte (s.win win).slots (k * 256 + o) b }))
  ∧ (∀ (fn win o : Nat) (s : State), fn < 64 → win < 64 → o < 0x1000 → exec (.registerWrite fn win o [none]) s = .next s)
  ∧ (∀ (fn win o : Nat) (x : Option Byte) (l : List (Option Byte)) (s : State), fn < 64 → win < 64 → o + l.length < 0x1000 → l ≠ [] →
    ∃ t, exec (.registerWrite fn win o [x]) s = .next t ∧ exec (.registerWrite fn win o (x :: l)) s = exec (.registerWrite fn win (o + 1) l) t)
  ∧ (∀ (fn win v : Nat) (s : State), fn < 64 → win < 64 → v < 2 ^ 32 → s.hostTakes fn win = true →
    ∃ t, exec (.registerWrite fn win 0x2008 ((leBytes v 4).map some)) s = .next t
    ∧ (∀ k, k < 16 → (t.win win).ready.testBit k = ((s.win win).ready.testBit k && !v.testBit k))
    ∧ t = s.setWin win { s.win win with ready := (t.win win).ready })
  ∧ (∀ (fn win v : Nat) (s : State), fn < 64 → win < 64 → v < 2 ^ 32 → s.hostTakes fn win = true → s.winState win = .closed →
    exec (.registerWrite fn win 0x2018 ((leBytes v 4).map some)) s = .next (s.setWin win { s.win win with base := (s.win win).base / 2 ^ 32 * 2 ^ 32 + v / 32 * 32 })
    ∧ exec (.registerWrite fn win 0x201C ((leBytes v 4).map some)) s = .next (s.setWin win { s.win win with base := (s.win win).base % 2 ^ 32 + v * 2 ^ 32 })
    ∧ exec (.registerWrite fn win 0x2020 ((leBytes v 4).map some)) s = .next (s.setWin win { s.win win with sizeLog2 := v % 32 }))
  ∧ (∀ (fn win v : Nat) (s : State), fn < 64 → win < 64 → v < 2 ^ 32 → s.hostTakes fn win = true → s.winState win ≠ .closed →
    exec (.registerWrite fn win 0x2018 ((leBytes v 4).map some)) s = .next s ∧ exec (.registerWrite fn win 0x201C ((leBytes v 4).map some)) s = .next s
    ∧ exec (.registerWrite fn win 0x2020 ((leBytes v 4).map some)) s = .next s)
  ∧ (∀ (fn win o : Nat) (l : List (Option Byte)) (s : State), fn < 64 → win < 64 → 0x2000 ≤ o → o + l.length ≤ 0x4000 →
    (l.all Option.isSome = false ∨ ¬ (l.length = 4 ∧ o % 4 = 0) ∧ ¬ (l.length = 8 ∧ o % 8 = 0)) → exec (.registerWrite fn win o l) s = .next s)
  ∧ (∀ (fn win o : Nat) (l : List (Option Byte)) (s : State), fn < 64 → win < 64 → o + l.length ≤ 0x10000 → s.hostTakes fn win = false →
    exec (.registerWrite fn win o l) s = .next s))

/-- A record is written at EVENT_HEAD below the limit and lost at it; OVERFLOW reports the losses and ends them (02_control.md) -/
def Obligations.EventRecordsFillTheRing : Prop :=
  (∀ (n : Nat) (e : Event) (s : State), (s.win n).state = .opened → (s.win n).pendLoss = 0 →
    (s.win n).count < min (s.getP P.EVENT_QUOTA n) (2 ^ (s.win n).sizeLog2 - 1) - 1 → 32 ≤ s.hostGood ((s.win n).base + 32 * (s.win n).head) 32 →
    ((s.postTo n e).win n).head = ((s.win n).head + 1) % 2 ^ (s.win n).sizeLog2 ∧ ((s.postTo n e).win n).lost = (s.win n).lost
    ∧ (∃ w, takeBytes zeroByte (s.postTo n e).ctl.hostMem ((s.win n).base + 32 * (s.win n).head) 32 =
      leBytes (e.cls * 4096 + e.idx) 2 ++ leBytes (e.typ + (if (s.win n).written / 2 ^ (s.win n).sizeLog2 % 2 = 0 then 0x8000 else 0)) 2
        ++ leBytes w 4 ++ leBytes s.now 8 ++ leBytes e.tag 4 ++ leBytes e.payload 12)
    ∧ (∀ a, a < (s.win n).base + 32 * (s.win n).head ∨ (s.win n).base + 32 * (s.win n).head + 32 ≤ a →
      SMap.get zeroByte (s.postTo n e).ctl.hostMem a = SMap.get zeroByte s.ctl.hostMem a)
    ∧ ∀ w, w ≠ n → (s.postTo n e).win w = s.win w)
  ∧ (∀ (n : Nat) (e : Event) (s : State), (s.win n).state = .opened →
    ((s.win n).pendLoss ≠ 0 ∨ min (s.getP P.EVENT_QUOTA n) (2 ^ (s.win n).sizeLog2 - 1) - 1 ≤ (s.win n).count) →
    s.postTo n e = s.setWin n { s.win n with lost := min ((s.win n).lost + 1) 0xFFFFFFFF, pendLoss := (s.win n).pendLoss + 1
                                             firstLoss := if (s.win n).pendLoss = 0 then s.now else (s.win n).firstLoss })
  ∧ (∀ (n : Nat) (s : State), n < 64 → (s.win n).state = .opened → 0 < (s.win n).pendLoss →
    (s.win n).count < min (s.getP P.EVENT_QUOTA n) (2 ^ (s.win n).sizeLog2 - 1) → 32 ≤ s.hostGood ((s.win n).base + 32 * (s.win n).head) 32 →
    ∃ t, exec (.overflow n) s = .next t ∧ (t.win n).pendLoss = 0 ∧ (t.win n).head = ((s.win n).head + 1) % 2 ^ (s.win n).sizeLog2
      ∧ (t.win n).lost = (s.win n).lost ∧ (∀ w, w ≠ n → t.win w = s.win w) ∧ OnlyControl s t)
  ∧ (∀ (n : Nat) (s : State), n < 64 → (s.win n).pendLoss = 0 → exec (.overflow n) s = .next s)

/-- A poisoned TLP is logged in sequence with FAULT raised; a rung slot not taken in time gets DEFERRED with FINAL = 0 (02_control.md) -/
def Obligations.FaultLogAndDeferredReplies : Prop :=
  (∀ (o : Nat) (s : State), ∃ t, exec (.poisonedTlp o) s = .next t
    ∧ (∃ l, s.ctl.faultLog = l ++ t.ctl.faultLog.dropLast ∧ t.ctl.faultLog.getLast? =
        some { seq := s.ctl.faultNext, time := s.now, cls := 0xE, idx := o / 0x10000 % 64, code := 0x0002, detail := o })
    ∧ (t.ctl.faultLog.length = min (s.ctl.faultLog.length + 1) 64)
    ∧ t.ctl.faultNext = (s.ctl.faultNext + 1) % 2 ^ 32 ∧ (∀ v, v < s.ctl.views.length → (t.view v).fault = true)
    ∧ (∀ v, (t.view v).config = (s.view v).config ∧ (t.view v).fwNotice = (s.view v).fwNotice)
    ∧ (∀ w, (t.win w).slots = (s.win w).slots ∧ (t.win w).busy = (s.win w).busy ∧ (t.win w).replies = (s.win w).replies) ∧ OnlyControl s t)
  ∧ ((∀ (w k : Nat) (s : State), (w < 64 ∧ k < 16 ∨ w = 64 ∧ k < 4) → (s.win w).rung.testBit k = true → ∃ t, exec (.deferTimeout w k) s = .next t
    ∧ (SMap.get replyDef (t.win w).replies k).final = false ∧ (SMap.get replyDef (t.win w).replies k).status % 256 = 0x01
    ∧ (SMap.get replyDef (t.win w).replies k).tag = (s.slotCmd w k).2.tag ∧ (t.win w).busy = (s.win w).busy ∧ (t.win w).rung = (s.win w).rung
    ∧ (∀ j, j ≠ k → SMap.get replyDef (t.win w).replies j = SMap.get replyDef (s.win w).replies j)
    ∧ t = s.setWin w { s.win w with replies := (t.win w).replies, ready := (t.win w).ready })
  ∧ (∀ (w k : Nat) (s : State), (w < 64 ∧ k < 16 ∨ w = 64 ∧ k < 4) → (s.win w).rung.testBit k = false → exec (.deferTimeout w k) s = .next s))

/-- PARAM_GET, PARAM_SET, PARAM_SET_GROUP and PARAM_DESCRIBE: value in force, range, access, staging, all or nothing (02_control.md) -/
def Obligations.ParametersAreReadAndWritten : Prop :=
  (∀ (c : Cmd) (s : State) (r : ParamRow), s.accepts false 0x0010 c → c.operands 16 0xFFFFFFFE00000000 → c.f 32 1 = 0 →
    paramRow? (c.f 0 16) = some r → c.f 16 16 < max r.count 1 → c.f 0 16 ≠ P.SERIAL → c.f 0 16 ≠ P.MEM_POOL_FREE → c.f 0 16 ≠ P.MEM_CARVE_USED →
    (paramBase (c.f 0 16)).1 ≠ P.DPC_STATIC_COUNT →
    ∃ t, exec (.paramGet c) s = .next t ∧ Answered 0x0010 c 0 8 (s.getP (c.f 0 16) (c.f 16 16)) t ∧ CommandOnly c s t)
  ∧ (∀ (c : Cmd) (s : State), s.accepts false 0x0010 c → c.operands 16 0xFFFFFFFE00000000 → paramRow? (c.f 0 16) = none →
    ∃ t, exec (.paramGet c) s = .next t ∧ Answered 0x0010 c 4 0 0 t ∧ CommandOnly c s t)
  ∧ (∀ (c : Cmd) (s : State), s.accepts true 0x0011 c → c.operands 16 0xFFFFFFFF00000000 → c.f 0 16 = 0x000A → c.f 16 16 = 0 →
    20 ≤ c.f 64 64 → c.f 64 64 ≤ 1000 → s.claimedByOther c.win (pkey 0x000A 0) = false →
    ∃ t, exec (.paramSet c) s = .next t ∧ Answered 0x0011 c 0 0 0 t ∧ t.getP 0x000A 0 = c.f 64 64 ∧ SameParams [pkey 0x000A 0] s t
      ∧ CommandOnly c { s with params := t.params, ctl := { s.ctl with claims := t.ctl.claims, staged := t.ctl.staged } } t)
  ∧ (∀ (c : Cmd) (s : State), s.accepts true 0x0011 c → c.operands 16 0xFFFFFFFF00000000 → c.f 0 16 = 0x000A → c.f 16 16 = 0 →
    (c.f 64 64 < 20 ∨ 1000 < c.f 64 64) → ∃ t, exec (.paramSet c) s = .next t ∧ Answered 0x0011 c 4 0 0 t ∧ CommandOnly c s t)
  ∧ (∀ (c : Cmd) (s : State), s.accepts false 0x0011 c → c.operands 16 0xFFFFFFFF00000000 → c.f 0 16 = 0x0000 → c.f 16 16 = 0 →
    ∃ t, exec (.paramSet c) s = .next t ∧ Answered 0x0011 c 5 0 0 t ∧ CommandOnly c s t)
  ∧ (∀ (c : Cmd) (s : State), s.accepts false 0x0011 c → c.operands 16 0xFFFFFFFF00000000 → c.f 0 16 = P.BW_RESERVABLE_PCT → c.f 16 16 = 0 →
    60 ≤ c.f 64 64 → c.f 64 64 ≤ 90 → s.claimedByOther c.win (pkey P.BW_RESERVABLE_PCT 0) = false → c.immediate = false →
    ∃ t, exec (.paramSet c) s = .next t ∧ Unanswered 0x0011 c t ∧ t.params = s.params ∧ t.stagedValue P.BW_RESERVABLE_PCT 0 = some (c.f 64 64)
      ∧ (∃ g ∈ t.ctl.staged, g.ats = [.master] ∧ g.what = .params [(P.BW_RESERVABLE_PCT, 0, c.f 64 64)]) ∧ OnlyControl s t)
  ∧ (∀ (c : Cmd) (s : State), s.accepts true 0x0012 c → c.opLen = 40 → c.f 0 16 = 2 → c.f 16 48 = 0 → c.f 64 16 = 0x000A → c.f 80 16 = 0 →
    c.f 96 32 = 0 → 20 ≤ c.f 128 64 → c.f 128 64 ≤ 1000 → c.f 224 32 = 0 → paramRow? (c.f 192 16) = none →
    ∃ t, exec (.paramSetGroup c) s = .next t ∧ Answered 0x0012 c 4 2 1 t ∧ CommandOnly c s t)
  ∧ (∀ (c : Cmd) (s : State), s.accepts true 0x0012 c → c.opLen = 24 → c.f 0 16 = 1 → c.f 16 48 = 0 → c.f 64 16 = 0x000A → c.f 80 16 = 0 →
    c.f 96 32 = 0 → 20 ≤ c.f 128 64 → c.f 128 64 ≤ 1000 → s.claimedByOther c.win (pkey 0x000A 0) = false →
    ∃ t, exec (.paramSetGroup c) s = .next t ∧ Answered 0x0012 c 0 0 0 t ∧ t.getP 0x000A 0 = c.f 128 64 ∧ SameParams [pkey 0x000A 0] s t)
  ∧ (∀ (c : Cmd) (s : State), s.accepts false 0x0013 c → c.operands 4 0 → c.f 0 16 = 0x000A → c.f 16 16 = 0 →
    ∃ t r, exec (.paramDescribe c) s = .next t ∧ Answered 0x0013 c 0 64 r t ∧ CommandOnly c s t ∧ r % 2 ^ 16 = 0x000A
      ∧ r / 2 ^ 64 % 2 ^ 64 = 20 ∧ r / 2 ^ 128 % 2 ^ 64 = 1000 ∧ r / 2 ^ 192 % 2 ^ 64 = 100)

/-- TABLE_READ, TABLE_WRITE, TABLE_COMMIT, TABLE_DISCARD and TABLE_SWAP, and a staged lane preset at its boundary (02_control.md, 04_raw_pipeline.md,
08_serial_lanes.md) -/
def Obligations.TablesAreStagedAndSwapped : Prop :=
  (∀ (c : Cmd) (s : State), s.accepts false 0x0020 c → c.operands 24 0 → tblHost c = 0 → tableRangeOk c = true → c.f 32 1 = 0 →
    c.f 0 16 ≠ 0x0002 → c.f 0 16 ≠ 0x0003 → c.f 0 16 ≠ 0x0009 → ∃ t, exec (.tableRead c) s = .next t ∧ CommandOnly c s t
      ∧ Answered 0x0020 c 0 (tblLen c) (ofLE (takeBytes (copyDef (c.f 0 16) (c.f 16 16)) (s.activeCopy (c.f 0 16) (c.f 16 16)) (tblOffset c) (tblLen c))) t)
  ∧ (∀ (c : Cmd) (s : State), s.accepts false 0x0021 c → c.opLen = 24 + tblLen c → tblHost c = 0 → tableRangeOk c = true → c.f 32 1 = 0 →
    c.f 0 16 ≠ 0x0008 → c.f 0 16 ≠ 0x0009 → (∀ g, s.staging? (c.f 0 16) (c.f 16 16) = some g → g.owner = c.win) →
    ∃ t g, exec (.tableWrite c) s = .next t ∧ Answered 0x0021 c 0 0 0 t ∧ t.staging? (c.f 0 16) (c.f 16 16) = some g ∧ g.owner = c.win
      ∧ g.bytes = putBytes (copyDef (c.f 0 16) (c.f 16 16)) (((s.staging? (c.f 0 16) (c.f 16 16)).map fun x => x.bytes).getD
          (s.committedCopy (c.f 0 16) (c.f 16 16))) (tblOffset c) (leBytes (c.f 192 (8 * tblLen c)) (tblLen c))
      ∧ (∀ k n, ¬ (k = c.f 0 16 ∧ n = c.f 16 16) → t.staging? k n = s.staging? k n)
      ∧ CommandOnly c { s with ctl := { s.ctl with staging := t.ctl.staging } } t)
  ∧ (∀ (c : Cmd) (s : State) (g : Staging), s.accepts false 0x0022 c → c.opLen = 4 → c.f 0 16 = 0x0004 → s.staging? 0x0004 (c.f 16 16) = some g →
    g.owner = c.win → s.commitPending 0x0004 (c.f 16 16) = false → (∀ e ∈ g.bytes, e.1 % 4 ≠ 3) → c.immediate = false →
    ∃ t k, exec (.tableCommit c) s = .next t ∧ Unanswered 0x0022 c t ∧ t.ctl.tables = s.ctl.tables ∧ t.ctl.staging = (s.ctl.staging.filter (· != g))
      ∧ k ∈ t.ctl.staged ∧ k.what = .tables [(0x0004, c.f 16 16, g.bytes)]
      ∧ k.ats = [.frame (c.f 16 16)] ∧ OnlyControl s t)
  ∧ (∀ (n k : Nat) (m : SMap Byte) (b : Boundary) (s : State),
    s.ctl.staged = [{ ats := [b], what := .tables [(0x0004, n, m)], ticket := none, left := k }] → s.hasReached b = true →
    exec .tableSwap s = .next (State.putTable 0x0004 n m { s with ctl := { s.ctl with staged := [] } }))
  ∧ (∀ (c : Cmd) (s : State) (g : Staging), s.accepts false 0x0023 c → c.operands 4 0 → c.f 16 16 < tableCount (c.f 0 16) →
    s.staging? (c.f 0 16) (c.f 16 16) = some g → g.owner = c.win → ∃ t, exec (.tableDiscard c) s = .next t ∧ Answered 0x0023 c 0 0 0 t
      ∧ CommandOnly c { s with ctl := { s.ctl with staging := s.ctl.staging.filter (· != g) } } t)
  ∧ (∀ (c : Cmd) (s : State), s.accepts false 0x0023 c → c.operands 4 0 → c.f 16 16 < tableCount (c.f 0 16) →
    s.staging? (c.f 0 16) (c.f 16 16) = none → ∃ t, exec (.tableDiscard c) s = .next t ∧ Answered 0x0023 c 0 0 0 t ∧ CommandOnly c s t)
  ∧ (∀ (lg k : Nat) (p : Option Nat) (s : State), lg < 28 → s.ctl.staged = [{ ats := [.lane lg], what := .laneTx k p, ticket := none, left := 0 }] →
    ∃ t, exec (.stagedChangeApply (.lane lg)) s = .next t ∧ (t.lane k).preset = p ∧ (∀ j, j ≠ k → t.lane j = s.lane j) ∧ t.ctl.staged = []
      ∧ t = { s with ln := t.ln, ctl := { s.ctl with staged := [], reached := t.ctl.reached, reachedAt := s.now } })

/-- Edges in, missing from and beside the acceptance window, and the master period boundary that follows them (01_architecture.md) -/
def Obligations.RingmasterFollowsItsReference : Prop :=
  (∀ (t : Nat) (s : State), s.getP P.RM_SOURCE 0 = 1 → s.partnerTiming = false → s.getP P.RM_STATE 0 = 2 →
    s.ring.lastValid + s.ring.period ≤ t * 65536 + s.getP P.RM_ACCEPT_WIN 0 * 65536 →
    t * 65536 ≤ s.ring.lastValid + s.ring.period + s.getP P.RM_ACCEPT_WIN 0 * 65536 →
    ∃ u, exec (.genrefEdge t) s = .next u ∧ u.ring = { s.ring with
        invalid := 0, lastValid := t * 65536, intervals := ((t * 65536 - s.ring.lastValid) :: s.ring.intervals).take 16
        period := meanInterval (((t * 65536 - s.ring.lastValid) :: s.ring.intervals).take 16), next := u.ring.next }
      ∧ u.ring.next = (((s.ring.boundary + u.ring.period : Nat) : Int) + slewStep (s.getP P.RM_SLEW_LIMIT 0)
          (phaseErrorAt (t * 65536) u.ring.period (s.ring.boundary + u.ring.period))).toNat
      ∧ (∀ c, u.canvas c = if c < 16 ∧ (s.cvState c = 1 ∨ s.cvState c = 2)
          then { s.canvas c with next := follow s.ring.next u.ring.next s.ring.period u.ring.period (s.canvas c).next } else s.canvas c)
      ∧ u.getP P.RM_PHASE_ERR 0 = toU64 (rdiv (((t * 65536 : Nat) : Int) - (s.ring.lastValid + s.ring.period : Nat)) 65536)
      ∧ SameParams [pkey P.RM_PHASE_ERR 0] s u
      ∧ u = { s with now := max s.now t, ring := u.ring, params := u.params, cv := { s.cv with cvs := u.cv.cvs } })
  ∧ (∀ (t : Nat) (s : State), s.getP P.RM_SOURCE 0 = 1 → s.partnerTiming = false → s.getP P.RM_STATE 0 = 2 → s.ring.invalid < 7 →
    t * 65536 + s.getP P.RM_ACCEPT_WIN 0 * 65536 < s.ring.lastValid + s.ring.period →
    exec (.genrefEdge t) s = .next (State.bumpSat { s with now := max s.now t, ring := { s.ring with invalid := s.ring.invalid + 1 } } P.RM_INVALID_TOTAL 0 1))
  ∧ (∀ (t : Nat) (s : State), s.getP P.RM_SOURCE 0 = 0 → exec (.genrefEdge t) s = .next { s with now := max s.now t })
  ∧ (∀ (s : State), s.getP P.RM_STATE 0 = 2 → s.ring.invalid < 7 → ∃ u, exec .genrefMissedEdge s = .next u
    ∧ u.ring = { s.ring with lastValid := s.ring.lastValid + s.ring.period, invalid := s.ring.invalid + 1 }
    ∧ u.getP P.RM_INVALID_TOTAL 0 = min (s.getP P.RM_INVALID_TOTAL 0 + 1) 0xFFFFFFFF ∧ SameParams [pkey P.RM_INVALID_TOTAL 0] s u
    ∧ u = { s with now := u.now, ring := u.ring, params := u.params })
  ∧ (∀ (s : State), s.getP P.RM_STATE 0 = 2 → s.ring.invalid = 7 → ∃ u, exec .genrefMissedEdge s = .next u ∧ u.getP P.RM_STATE 0 = 3
    ∧ u.ring.period = s.ring.period ∧ ServiceCond.holdover ∈ u.ctl.service)
  ∧ (∀ (t : Nat) (s : State), s.atRest → s.getP P.RM_STATE 0 ≠ 2 → ∃ u, exec (.masterPeriodBoundary t) s = .next u
    ∧ u.ring = { s.ring with tag := (s.ring.tag + 1) % 2 ^ 32
                             boundary := if s.ring.next / 65536 = t then s.ring.next else t * 65536
                             next := (if s.ring.next / 65536 = t then s.ring.next else t * 65536) + s.ring.period } ∧ u.now = max s.now t)
  ∧ (∀ (t : Nat) (s : State), s.getP P.TRIG_ARM 0 = 1 → s.ring.armedAt + 1 ≤ t → s.binList = [] → s.au.starts = [] →
    ∃ u, exec (.trigInEdge t) s = .next u ∧ u.getP P.TRIG_TIME 0 = t ∧ u.getP P.TRIG_COUNT 0 = (s.getP P.TRIG_COUNT 0 + 1) % 2 ^ 32
      ∧ u.getP P.TRIG_ARM 0 = 0 ∧ SameParams [pkey P.TRIG_TIME 0, pkey P.TRIG_COUNT 0, pkey P.TRIG_ARM 0] s u
      ∧ u = { s with now := max s.now t, params := u.params, ctl := u.ctl })
  ∧ (∀ (t : Nat) (s : State), s.getP P.TRIG_ARM 0 = 0 → exec (.trigInEdge t) s = .next { s with now := max s.now t })

/-- Aipex ticks and restarts; firmware is staged, verified, activated and switched over or rolled back (01_architecture.md, 02_control.md) -/
def Obligations.AipexRestartsAndFirmwareSwitches : Prop :=
  ((∀ (s : State), (∀ w, (s.win w).pendLoss = 0 ∧ (s.win w).rung = 0) → (∀ f ∈ s.ctl.flights, f.started = true) → s.dram.poison = [] →
    exec .aipexTick s = .next { s with now := s.now + 1000, ctl := { s.ctl with claims := [] } })
  ∧ (∀ (s : State), s.ctl.boot = .running → exec .lockstepMismatch s = .next { s with ctl := { s.ctl with restarting := true, fwReady := false } })
  ∧ (∀ (s : State), s.ctl.boot = .running → s.ctl.restarting = true → s.ctl.heldReplies = [] → ∃ t, exec .aipexRestartDone s = .next t ∧ t.ctl.fwReady = true
    ∧ t.ctl.restarting = false ∧ (t.ctl.faultLog.getLast?.map fun e => (e.seq, e.code)) = some (s.ctl.faultNext, 0x0001)
    ∧ (∀ v, v < s.ctl.views.length → (t.view v).fault = true ∧ (t.view v).fwNotice = true) ∧ t.ctl.flights = s.ctl.flights ∧ t.ctl.staged = s.ctl.staged
    ∧ OnlyControl s t)
  ∧ (∀ (tk code len r : Nat) (f : Flight) (s : State), s.ctl.boot = .running → s.ctl.restarting = true → s.ctl.heldReplies = [(tk, code, len, r)] →
    s.flight? tk = some f → code < 256 → ∃ t, exec .aipexRestartDone s = .next t ∧ Answered f.opcode f.cmd code len r t ∧ t.ctl.heldReplies = []
      ∧ t.ctl.flights = s.ctl.flights.filter fun g => g.ticket != tk)
  ∧ (∀ (k : Nat) (q : Probe) (g : Flight) (s : State), k < 4 → s.probe k = some q → s.flight? q.ticket = some g → s.aipexDown = true →
    (∀ e ∈ s.ctl.heldReplies, e.1 ≠ q.ticket) → ∃ t, exec (.probeMissed k) s = .next t ∧ t.probe k = none
      ∧ t.ctl.heldReplies = s.ctl.heldReplies ++ [(q.ticket, 0x30, 0, 0)] ∧ t.ctl.flights = s.ctl.flights ∧ t.ctl.wins = s.ctl.wins))
  ∧ ((∀ (c : Cmd) (s : State), s.accepts true 0x0030 c → c.operands 20 0xFFFFFFFC00000000000000000000000000000000 → c.win ≠ 64 → c.f 0 32 = 0 →
    1 ≤ c.f 32 32 → c.f 32 32 ≤ 0x1000000 → c.f 128 1 = 1 → c.f 129 1 = 0 → s.ctl.switch = none → c.f 32 32 ≤ s.hostGood (c.f 64 64) (c.f 32 32) → c.host = [] →
    ∃ t, exec (.fwStage c) s = .next t ∧ Answered 0x0030 c 0 0 0 t
      ∧ (t.fwSlot s.inactiveSlot).image = takeBytes zeroByte s.ctl.hostMem (c.f 64 64) (c.f 32 32) ∧ (t.fwSlot s.inactiveSlot).valid = false
      ∧ (t.fwSlot s.inactiveSlot).next = c.f 32 32 ∧ CommandOnly c { s with ctl := { s.ctl with fwA := t.ctl.fwA, fwB := t.ctl.fwB } } t)
  ∧ (∀ (c : Cmd) (s : State), s.accepts true 0x0031 c → c.operands 1 0xFC → s.ctl.switch = none → s.slotValid s.inactiveSlot = true → c.f 0 1 = 1 →
    ∃ t, exec (.fwActivate c) s = .next t ∧ Answered 0x0031 c 0 0 0 t ∧ CommandOnly c { s with ctl := { s.ctl with bootSlot := s.inactiveSlot } } t)
  ∧ (∀ (c : Cmd) (s : State), s.accepts true 0x0031 c → c.operands 1 0xFC → s.ctl.switch = none → s.slotValid s.inactiveSlot = true →
    (s.fwSlot s.inactiveSlot).staged = true → c.f 0 1 = 0 → ∃ t w, exec (.fwActivate c) s = .next t ∧ Unanswered 0x0031 c t
      ∧ (t.replyTo c).final = false ∧ (t.replyTo c).status % 256 = 0x01 ∧ t.ctl.fwReady = false ∧ t.ctl.switch = some w ∧ w.start = s.now
      ∧ w.imported = false ∧ w.raiseFloor = (c.f 1 1 == 1) ∧ OnlyControl s t)
  ∧ (∀ (c : Cmd) (s : State), s.accepts true 0x0031 c → c.operands 1 0xFC → s.ctl.switch = none → s.slotValid s.inactiveSlot = false →
    ∃ t, exec (.fwActivate c) s = .next t ∧ Answered 0x0031 c 6 0 0 t ∧ CommandOnly c s t)
  ∧ (∀ (c : Cmd) (s : State), s.accepts true 0x0033 c → c.operands 8 0 → c.f 0 32 < 4 → c.f 32 32 = 0x5245564B →
    (s.fwSlot (s.getP P.FW_ACTIVE_SLOT 0)).key ≠ c.f 0 32 → ∃ t, exec (.fwKeyRevoke c) s = .next t ∧ Answered 0x0033 c 0 0 0 t
      ∧ CommandOnly c { s with ctl := { s.ctl with revoked := setBit s.ctl.revoked (c.f 0 32) } } t)
  ∧ (∀ (c : Cmd) (s : State), s.accepts false 0x0032 c → c.operands 0 0 → ∃ t r, exec (.fwStatus c) s = .next t ∧ Answered 0x0032 c 0 32 r t ∧ CommandOnly c s t)
  ∧ (∀ (w : Switchover) (s : State), s.ctl.switch = some w → exec .switchoverImport s =
    .next { s with now := max s.now (w.start + 2000000), ctl := { s.ctl with switch := some { w with imported := true } } })
  ∧ (∀ (w : Switchover) (s : State), s.ctl.switch = some w → w.imported = true → ∃ t, exec .switchoverComplete s = .next t ∧ t.ctl.switch = none
    ∧ t.ctl.fwReady = true ∧ t.ctl.bootSlot = s.inactiveSlot ∧ t.getP P.FW_RELEASE 0 = (s.fwSlot s.inactiveSlot).release
    ∧ t.getP P.FW_ACTIVE_SLOT 0 = s.inactiveSlot ∧ t.ctl.fwFloor = (if w.raiseFloor then max s.ctl.fwFloor (s.fwSlot s.inactiveSlot).security else s.ctl.fwFloor)
    ∧ (∀ v, v < s.ctl.views.length → (t.view v).fwNotice = true)
    ∧ SameParams [pkey P.FW_RELEASE 0, pkey P.FW_ACTIVE_SLOT 0, pkey P.FW_SECURITY_FLOOR 0] s t ∧ t = { s with ctl := t.ctl, params := t.params, pw := t.pw })
  ∧ (∀ (w : Switchover) (s : State), s.ctl.switch = some w → ∃ t, exec .switchoverRollback s = .next t ∧ t.ctl.switch = none ∧ t.ctl.fwReady = true
    ∧ t.params = s.params ∧ t.ctl.bootSlot = s.ctl.bootSlot ∧ (∀ v, v < s.ctl.views.length → (t.view v).fwNotice = true)
    ∧ t = { s with now := max s.now (w.start + 20000000), ctl := t.ctl, pw := t.pw }))

/-- An arrival is reported after 10 ms, the eighth departure within 10 s quarantines, and quarantine ends by time or command (01_architecture.md,
02_control.md) -/
def Obligations.PartnersAreReportedAndQuarantined : Prop :=
  (∀ (p : PartnerId) (s : State), p.wf = true → (s.partner p).present = true → (s.partner p).reported = false →
    (p.kind = 0 → s.camState p.pos = 5) → ∃ t, exec (.partnerArrivalReport p) s = .next t ∧ (t.partner p).reported = true ∧ (t.partner p).present = true
      ∧ (∀ v, v < s.ctl.views.length → (t.view v).config = true) ∧ (∀ q, partnerKey q ≠ partnerKey p → t.partner q = s.partner q)
      ∧ t = { s with now := max s.now ((s.partner p).since + 10000000), ctl := t.ctl })
  ∧ (∀ (p : PartnerId) (s : State), (s.partner p).present = true → ((s.partnerDeparts p).partner p).present = false
    ∧ ((s.partnerDeparts p).partner p).departs = s.now :: ((s.partner p).departs.filter fun d => decide (s.now < d + 10000000000))
    ∧ ((s.partnerDeparts p).partner p).quarantined = ((s.partner p).quarantined
        || decide (7 ≤ ((s.partner p).departs.filter fun d => decide (s.now < d + 10000000000)).length))
    ∧ ((s.partner p).reported = false → (s.partnerDeparts p).ctl.views = s.ctl.views ∧ (s.partnerDeparts p).ctl.hostMem = s.ctl.hostMem))
  ∧ (∀ (w : Nat) (s : State), w < 64 → (s.partner { kind := 5, pos := w }).present = true → (s.partner { kind := 5, pos := w }).quarantined = true →
    ∃ t, exec (.quarantineExpiry { kind := 5, pos := w }) s = .next t ∧ (t.partner { kind := 5, pos := w }).quarantined = false
      ∧ (t.partner { kind := 5, pos := w }).departs = [] ∧ (t.partner { kind := 5, pos := w }).present = true
      ∧ t = { s with now := max s.now ((s.partner { kind := 5, pos := w }).since + 60000000000), ctl := t.ctl })
  ∧ (∀ (c : Cmd) (s : State), s.accepts true 0x0042 c → c.operands 8 0xFFFFFF000000FF00 → c.f 0 8 = 5 → c.f 16 16 < 64 → c.f 32 8 = 0 →
    (s.partner { kind := 5, pos := c.f 16 16 }).quarantined = true → ∃ t, exec (.quarantineRelease c) s = .next t ∧ Answered 0x0042 c 0 0 0 t
      ∧ (t.partner { kind := 5, pos := c.f 16 16 }).quarantined = false ∧ (t.partner { kind := 5, pos := c.f 16 16 }).departs = []
      ∧ t = { s with ctl := t.ctl, pw := t.pw })
  ∧ (∀ (c : Cmd) (s : State), s.accepts true 0x0042 c → c.operands 8 0xFFFFFF000000FF00 → c.f 0 8 = 5 → c.f 16 16 < 64 → c.f 32 8 = 0 →
    (s.partner { kind := 5, pos := c.f 16 16 }).quarantined = false → ∃ t, exec (.quarantineRelease c) s = .next t ∧ Answered 0x0042 c 4 0 0 t ∧ CommandOnly c s t)

/-- A camera group trains: signal, an ALIGN on every lane, four aligned columns, TRAINING = 0, IDENTITY; and falls back to DETECT (03_camera_ingest.md) -/
def Obligations.CameraGroupTrains : Prop :=
  (∀ (g lane : Nat) (s : State), g < 8 → lane < 17 → s.camState g = 1 → ∃ t, exec (.cgSignalDetect g lane) s = .next t ∧ GroupIn g 2 s t)
  ∧ (∀ (g lane : Nat) (s : State), g < 8 → lane < 17 → s.camState g ≠ 1 → exec (.cgSignalDetect g lane) s = .next s)
  ∧ (∀ (g : Nat) (sets : List AlignSet) (s : State), g < 8 → sets.all AlignSet.wf = true → (∀ a ∈ sets, s.hears (1024 + 17 * g + a.lane) = true) → s.camState g = 2 →
    (s.laneGroup (16 + g)).trapStep ≠ 5 → (readAligns sets (s.group g)).width ≠ 0 → (readAligns sets (s.group g)).unique = true → (readAligns sets (s.group g)).missing = [] →
    ∃ t, exec (.cameraAlign g sets) s = .next t ∧ GroupIn g 3 (s.modGroup g (readAligns sets)) t)
  ∧ (∀ (g : Nat) (sets : List AlignSet) (s : State), g < 8 → sets.all AlignSet.wf = true → (∀ a ∈ sets, s.hears (1024 + 17 * g + a.lane) = true) → s.camState g = 3 →
    (s.laneGroup (16 + g)).trapStep ≠ 5 → (s.group g).trained = false → alignedColumn (readAligns sets (s.group g)) sets = true →
    (readAligns sets (s.group g)).missing ≠ [0] → ∃ t, exec (.cameraAlign g sets) s = .next t ∧ t.cam.sensors = s.cam.sensors
      ∧ (∀ h, h ≠ g → t.group h = s.group h)
      ∧ t.group g = { readAligns sets (s.group g) with
          alignedRun := (s.group g).alignedRun + 1, trained := decide (4 ≤ (s.group g).alignedRun + 1), aseqTx := ((s.group g).aseqTx + 1) % 256 }
      ∧ t.sent = (alignsOf g { t.group g with aseqTx := (s.group g).aseqTx }).reverse ++ s.sent ∧ t = { s with cam := t.cam, sent := t.sent })
  ∧ (∀ (g : Nat) (sets : List AlignSet) (s : State), g < 8 → sets.all AlignSet.wf = true → (∀ a ∈ sets, s.hears (1024 + 17 * g + a.lane) = true) → s.camState g = 3 →
    (s.laneGroup (16 + g)).trapStep ≠ 5 → (s.group g).trained = false → (readAligns sets (s.group g)).missing = [0] → columnMirror sets = some 0 →
    s.getP (P.cg g P.CG_SPARE_MAP) 0 = 255 → ∃ t, exec (.cameraAlign g sets) s = .next t ∧ t.getP (P.cg g P.CG_SPARE_MAP) 0 = 0
      ∧ (t.group g).askSpare = none ∧ t.camState g = 3 ∧ SameParams [pkey (P.cg g P.CG_SPARE_MAP) 0] s t)
  ∧ (∀ (g : Nat) (sets : List AlignSet) (s : State), g < 8 → sets.all AlignSet.wf = true → (∀ a ∈ sets, s.hears (1024 + 17 * g + a.lane) = true) → s.camState g = 3 →
    (s.laneGroup (16 + g)).trapStep ≠ 5 → (s.group g).trained = true → alignedColumn (readAligns sets (s.group g)) sets = true → (∀ a ∈ sets, a.d3.testBit 4 = false) →
    (readAligns sets (s.group g)).missing = [] →
    ∃ t u, exec (.cameraAlign g sets) s = .next t ∧ GroupIn g 4 (s.modGroup g (readAligns sets)) u ∧ t = u.sendDiscover g
      ∧ t.sent = s.held (s.camWindow g) (.camPkt g (mkHdr 0x9 0 (SMap.get (fun _ => 0) (s.group g).retSeq 0) 0 0 0) []) :: u.sent)
  ∧ (∀ (g : Nat) (s : State), g < 8 → 2 ≤ s.camState g → s.camState g ≤ 4 → ∃ t, exec (.cgTrainTimeout g) s = .next t
    ∧ GroupIn g 1 (s.resetTraining g false) t ∧ t.getP (P.cg g P.CG_SPARE_MAP) 0 = 255)
  ∧ (∀ (g : Nat) (s : State), g < 8 → (s.camState g < 2 ∨ 4 < s.camState g) → exec (.cgTrainTimeout g) s = .next s)
  ∧ (∀ (g : Nat) (s : State), g < 8 → s.camState g = 4 → (s.group g).identified = false → (s.group g).discovers < 3 →
    ∃ t, exec (.discoverRetry g) s = .next t ∧ t = { s with cam := t.cam, sent := t.sent } ∧ (t.group g).discovers = (s.group g).discovers + 1
      ∧ t.sent = s.held (s.camWindow g) (.camPkt g (mkHdr 0x9 0 (SMap.get (fun _ => 0) (s.group g).retSeq 0) 0 0 0) []) :: s.sent
      ∧ (∀ h, h ≠ g → t.group h = s.group h))
  ∧ (∀ (g : Nat) (s : State), g < 8 → s.camState g = 4 → (s.group g).identified = false → 3 ≤ (s.group g).discovers →
    ∃ t, exec (.discoverRetry g) s = .next t ∧ GroupIn g 1 (s.resetTraining g false) t)
  ∧ (∀ (p : CamPkt) (s : State), p.sound 5 → s.camState p.group = 4 → s.receives p.group → p.payload.length = 32 → byteAt p.payload 12 = 1 →
    (∀ o, (s.group p.group).head = some o → o.serial = fieldAt p.payload 0 8) →
    ∃ t, exec (.identity p) s = .next t ∧ (t.group p.group).head = some (headOf p.payload) ∧ (t.group p.group).identified = true
      ∧ t.getP (P.cg p.group P.CG_HEAD_SERIAL) 0 = fieldAt p.payload 0 8 ∧ SameParams [pkey (P.cg p.group P.CG_HEAD_SERIAL) 0] s t
      ∧ (∀ h, h ≠ p.group → t.group h = s.group h) ∧ t.cam.sensors = s.cam.sensors
      ∧ t = { s with now := max s.now p.time, cam := t.cam, params := t.params })
  ∧ (∀ (p : CamPkt) (s : State), p.sound 5 → s.camState p.group = 4 → s.receives p.group → p.payload.length = 32 → byteAt p.payload 12 ≠ 1 →
    ∃ t, exec (.identity p) s = .next t ∧ GroupIn p.group 1 (((s.atLeast p.time).countSeq p).resetTraining p.group false) t)

/-- Camera packets: header and CRC checks, sequence gaps, and what HEAD_STATUS, VC_ANNOUNCE, EMBEDDED and CTRL_REPLY do (03_camera_ingest.md) -/
def Obligations.CameraPacketsAreChecked : Prop :=
  (∀ (p : CamPkt) (late : List Nat) (s : State), p.faulty = true → s.receives p.group →
    ∀ i ∈ [Instr.cameraBadPacket p, .identity p, .vcAnnounce p, .frameStart p, .line p late, .frameEnd p, .embedded p, .ctrlReply p, .headStatus p],
      i.wellFormed = true → exec i s = .next (State.bumpSat (s.atLeast p.time) (P.cg p.group P.CG_HDR_ERRORS) 0 1))
  ∧ (∀ (p : CamPkt) (s : State), p.faulty = false → p.crcBad = true → s.camState p.group = 5 → s.receives p.group →
    ∀ i ∈ [Instr.identity p, .vcAnnounce p, .frameStart p, .frameEnd p, .embedded p, .ctrlReply p, .headStatus p], i.wellFormed = true →
      exec i s = .next (State.bumpSat ((s.atLeast p.time).countSeq p) (P.cg p.group P.CG_PCRC_ERRORS) 0 1))
  ∧ (∀ (p : CamPkt) (late : List Nat) (s : State), ¬ s.receives p.group →
    ∀ i ∈ [Instr.cameraBadPacket p, .identity p, .vcAnnounce p, .frameStart p, .line p late, .frameEnd p, .embedded p, .ctrlReply p, .headStatus p],
      i.wellFormed = true → exec i s = .next (s.atLeast p.time))
  ∧ (∀ (p : CamPkt) (s : State) (e : Nat), SMap.find p.vc (s.group p.group).fwdSeq = some e → ((s.countSeq p).group p.group).seqLost
    = (s.group p.group).seqLost + (byteAt p.hdr 1 + 256 - e) % 256 ∧ SMap.find p.vc ((s.countSeq p).group p.group).fwdSeq = some ((byteAt p.hdr 1 + 1) % 256)
    ∧ s.countSeq p = { s with cam := (s.countSeq p).cam })
  ∧ (∀ (p : CamPkt) (s : State), p.sound 8 → s.camState p.group = 5 → s.receives p.group → p.payload.length = 8 → ∃ t, exec (.headStatus p) s = .next t
    ∧ (t.group p.group).status = fieldAt p.payload 0 3 ∧ EventsOnly { s with now := max s.now p.time, cam := t.cam } t
    ∧ (∀ h, h ≠ p.group → t.group h = s.group h) ∧ t.cam.sensors = s.cam.sensors
    ∧ ((s.group p.group).status / 65536 = fieldAt p.payload 0 3 / 65536 → t.ctl = s.ctl))
  ∧ (∀ (p : CamPkt) (s : State), p.sound 6 → s.receives p.group → p.payload.length = 32 → byteAt p.payload 0 % 2 = 1 →
    (s.sensor p.sensor).present = false → s.boundPipe p.sensor = none → ∃ t, exec (.vcAnnounce p) s = .next t
    ∧ t.sensor p.sensor = { s.sensor p.sensor with
        present := true, serial := fieldAt p.payload 24 8, head := (((s.group p.group).head.map (·.serial)).getD 0), next := some (formatOf p.payload)
        rejectPosted := false, orphanPosted := false }
    ∧ (t.partner (sensorId p.sensor)).present = true ∧ (t.partner (sensorId p.sensor)).reported = false ∧ (∀ k, k ≠ p.sensor → t.sensor k = s.sensor k)
    ∧ (∀ q, partnerKey q ≠ partnerKey (sensorId p.sensor) → t.partner q = s.partner q)
    ∧ t = { s with now := max s.now p.time, cam := t.cam, ctl := { s.ctl with partners := t.ctl.partners } })
  ∧ (∀ (p : CamPkt) (s : State) (q : Nat) (f : Frame), p.sound 4 → s.camState p.group = 5 → s.receives p.group → p.payload ≠ [] →
    (s.sensor p.sensor).openFrame = .pipe q → (s.pipe q).cur = some f → ∃ t, exec (.embedded p) s = .next t
    ∧ t.pipe q = { s.pipe q with cur := some { f with embedded := f.embedded ++ [p.payload] } } ∧ (∀ n, n ≠ q → t.pipe n = s.pipe n)
    ∧ t.cam.sensors = s.cam.sensors ∧ t = { s with now := max s.now p.time, cam := t.cam, pipes := t.pipes })
  ∧ (∀ (p : CamPkt) (s : State) (e : Nat × Nat) (f : Flight), p.sound 7 → s.camState p.group = 5 → s.receives p.group → p.payload.length = 12 →
    ((s.group p.group).ctrl.find? fun x => x.1 == hdrAux p.hdr) = some e → s.awaits e.2 f → ∃ t, exec (.ctrlReply p) s = .next t
    ∧ (byteAt p.payload 8 = 0 → f.opcode = 0x0105 → Answered 0x0105 f.cmd 0 4 (fieldAt p.payload 4 4) t)
    ∧ (byteAt p.payload 8 = 0 → f.opcode = 0x0104 → Answered 0x0104 f.cmd 0 0 0 t)
    ∧ (byteAt p.payload 8 = 1 ∨ byteAt p.payload 8 = 2 → Answered f.opcode f.cmd 0x21 0 0 t)
    ∧ (byteAt p.payload 8 ≤ 2 → (t.group p.group).ctrl = (s.group p.group).ctrl.filter (· != e)) ∧ t.params = s.params ∧ t.cam.sensors = s.cam.sensors
    ∧ t = { s with now := t.now, cam := t.cam, ctl := { s.ctl with wins := t.ctl.wins, flights := t.ctl.flights }, pw := t.pw })
  ∧ (∀ (p : CamPkt) (s : State), p.sound 7 → s.camState p.group = 5 → s.receives p.group →
    ((s.group p.group).ctrl.find? fun x => x.1 == hdrAux p.hdr) = none → exec (.ctrlReply p) s = .next ((s.atLeast p.time).countSeq p))
  ∧ crc8 ((List.range 9).map fun i => BitVec.ofNat 8 (0x31 + i)) = 0xF4 ∧ crc32c ((List.range 9).map fun i => BitVec.ofNat 8 (0x31 + i)) = 0xE3069283

/-- Frames: FRAME_START opens one or is an orphan, LINE joins, missing and faulty lines are replaced at once, FRAME_END delivers (03_camera_ingest.md) -/
def Obligations.FramesAreAssembled : Prop :=
  (∀ (f : Frame) (n k : Nat), f.lines.length ≤ n → (f.fill n).lines.length = n ∧ (k < f.lines.length → (f.fill n).codes k = f.codes k)
    ∧ (f.lines.length ≤ k → k < n → (f.fill n).replaced k = true ∧ (f.fill n).damaged = true
      ∧ (f.fill n).codes k = if k < 2 then List.replicate f.fmt.width 0 else (f.fill n).codes (k - 2)))
  ∧ (∀ (p : CamPkt) (late : List Nat) (s : State) (q : Nat) (f : Frame), (∀ x ∈ late, x < 16384) → p.sound 2 → s.camState p.group = 5 → s.receives p.group → (s.sensor p.sensor).openFrame = .pipe q →
    (s.pipe q).cur = some f → f.lines.length ≤ hdrAux p.hdr → hdrAux p.hdr < f.fmt.height → p.payload.length = formatLineBytes f.fmt →
    (hdrFlags p.hdr).testBit 0 = false → ∃ t, exec (.line p late) s = .next t
    ∧ t.pipe q = { s.pipe q with cur := some { (f.fill (hdrAux p.hdr)).addLine p.payload with
        late := f.late ++ late.map fun x => (x, hdrAux p.hdr) } }
    ∧ (∀ n, n ≠ q → t.pipe n = s.pipe n)
    ∧ t.getP (P.cg p.group P.CG_LINES_REPLACED) p.vc = min (s.getP (P.cg p.group P.CG_LINES_REPLACED) p.vc + (hdrAux p.hdr - f.lines.length)) 0xFFFFFFFF
    ∧ SameParams [pkey (P.cg p.group P.CG_LINES_REPLACED) p.vc] s t ∧ t.cam.sensors = s.cam.sensors
    ∧ t = { s with now := max s.now p.time, cam := t.cam, pipes := t.pipes, params := t.params })
  ∧ (∀ (p : CamPkt) (late : List Nat) (s : State) (q : Nat) (f : Frame), (∀ x ∈ late, x < 16384) → p.wf = true → hdrType p.hdr = 2 → p.faulty = false → s.camState p.group = 5 → s.receives p.group →
    (s.sensor p.sensor).openFrame = .pipe q → (s.pipe q).cur = some f → f.lines.length ≤ hdrAux p.hdr → hdrAux p.hdr < f.fmt.height →
    (p.crcBad = true ∨ p.payload.length ≠ formatLineBytes f.fmt) → (hdrFlags p.hdr).testBit 0 = false → ∃ t, exec (.line p late) s = .next t
    ∧ t.pipe q = { s.pipe q with cur := some ((f.fill (hdrAux p.hdr)).fill (hdrAux p.hdr + 1)) } ∧ (∀ n, n ≠ q → t.pipe n = s.pipe n)
    ∧ t.getP (P.cg p.group P.CG_PCRC_ERRORS) p.vc = min (s.getP (P.cg p.group P.CG_PCRC_ERRORS) p.vc + 1) 0xFFFFFFFF
    ∧ SameParams [pkey (P.cg p.group P.CG_LINES_REPLACED) p.vc, pkey (P.cg p.group P.CG_PCRC_ERRORS) p.vc] s t)
  ∧ (∀ (p : CamPkt) (late : List Nat) (s : State), (∀ x ∈ late, x < 16384) → p.sound 2 → s.camState p.group = 5 → s.receives p.group → (s.sensor p.sensor).openFrame = .none →
    (s.sensor p.sensor).lostLine = none → ∃ t id, exec (.line p late) s = .next t ∧ (t.sensor p.sensor).lostLine = some (hdrAux p.hdr) ∧ t.pipes = s.pipes
    ∧ id = P.cg p.group (if (s.feeds p.sensor).isSome then P.CG_FRAMES_LOST else P.CG_ORPHAN_FRAMES)
    ∧ t.getP id p.vc = min (s.getP id p.vc + 1) 0xFFFFFFFF ∧ SameParams [pkey id p.vc] s t ∧ t = { s with now := max s.now p.time, cam := t.cam, params := t.params })
  ∧ (∀ (p : CamPkt) (late : List Nat) (s : State) (l : Nat), (∀ x ∈ late, x < 16384) → p.sound 2 → s.camState p.group = 5 → s.receives p.group →
    (s.sensor p.sensor).openFrame = .none → (s.sensor p.sensor).lostLine = some l → l < hdrAux p.hdr →
    ∃ t, exec (.line p late) s = .next t ∧ (t.sensor p.sensor).lostLine = some (hdrAux p.hdr) ∧ t = { s with now := max s.now p.time, cam := t.cam })
  ∧ (∀ (p : CamPkt) (s : State), p.sound 1 → s.camState p.group = 5 → s.receives p.group → p.payload.length = 16 → (s.sensor p.sensor).openFrame = .none →
    (∀ n, n < 8 → (s.pipe n).change = none) → s.boundPipe p.sensor = none → ∃ t, exec (.frameStart p) s = .next t
    ∧ (t.sensor p.sensor).openFrame = .orphan ∧ (t.sensor p.sensor).lastNumber = some (fieldAt p.payload 0 4) ∧ t.pipes = s.pipes
    ∧ t.getP (P.cg p.group P.CG_ORPHAN_FRAMES) p.vc = min (s.getP (P.cg p.group P.CG_ORPHAN_FRAMES) p.vc + 1) 0xFFFFFFFF
    ∧ SameParams [pkey (P.cg p.group P.CG_ORPHAN_FRAMES) p.vc] s t ∧ EventsOnly { s with now := max s.now p.time, cam := t.cam, params := t.params } t)
  ∧ (∀ (p : CamPkt) (s : State) (q : Nat) (b : Binding), p.sound 1 → s.camState p.group = 5 → s.receives p.group → p.payload.length = 16 →
    (s.sensor p.sensor).openFrame = .none → (s.sensor p.sensor).next = none → (s.sensor p.sensor).present = true → (s.group p.group).cap 0 = true →
    (∀ n, n < 8 → (s.pipe n).change = none) → s.boundPipe p.sensor = some q → (s.pipe q).bind = some b → s.bindingMatches b = true → (s.pipe q).rejected = false →
    s.frameBarred p.sensor = false → (s.pipe q).fmt = some (s.sensor p.sensor).fmt → s.getP (P.pl q P.PL_SID_GATE) 0 = 0 → (s.pipe q).gateReleased = 0 →
    s.ctl.staged = [] → s.rejectReason q (s.sensor p.sensor).fmt = none → (s.pipe q).building = none → (s.pipe q).refNext = [] → s.getP (P.pl q P.BL_MODE) 0 = 0 → s.fr.wb = [] → s.binList = [] →
    byteAt p.payload 6 % 2 = 0 → ∃ t f, exec (.frameStart p) s = .next t ∧ (t.pipe q).cur = some f ∧ f.number = fieldAt p.payload 0 4
      ∧ f.settings = byteAt p.payload 4 ∧ f.inferred = false ∧ f.damaged = false ∧ f.gated = false ∧ f.tag = s.ring.tag ∧ f.start = p.time
      ∧ f.exposure = fieldAt p.payload 8 4 ∧ f.fmt = (s.sensor p.sensor).fmt ∧ f.lines = []
      ∧ (t.sensor p.sensor).openFrame = .pipe q
      ∧ (t.sensor p.sensor).lastNumber = some (fieldAt p.payload 0 4) ∧ t.getP (P.pl q P.PL_STATE) 0 = 2 ∧ (∀ n, n ≠ q → t.pipe n = s.pipe n)
      ∧ (∀ k, k ≠ p.sensor → t.sensor k = s.sensor k) ∧ SameParams [pkey (P.pl q P.PL_STATE) 0, pkey P.FR_GAP_FRAMES q] s t
      ∧ t = { s with now := max s.now p.time, cam := t.cam, pipes := t.pipes, params := t.params, ctl := t.ctl })
  ∧ (∀ (p : CamPkt) (s : State) (q : Nat) (f : Frame), p.sound 3 → s.camState p.group = 5 → s.receives p.group → p.payload.length = 8 →
    (s.sensor p.sensor).openFrame = .pipe q → (s.pipe q).cur = some f → (s.laneGroup (16 + p.group)).trapStep ≠ 3 → s.fr.wb = [] → s.store q = none →
    f.lines.length ≤ f.fmt.height → ∃ t, exec (.frameEnd p) s = .next t ∧ (t.sensor p.sensor).openFrame = .none ∧ (t.pipe q).cur = none
    ∧ (t.pipe q).frames = ((s.pipe q).frames + 1) % 2 ^ 32
    ∧ (t.pipe q).last = some { Frame.fill { f with damaged := f.damaged || byteAt p.payload 6 % 2 == 1 } f.fmt.height with complete := true }
    ∧ (∀ n, n ≠ q → t.pipe n = s.pipe n) ∧ t.getP (P.cg p.group P.CG_LAST_SETTINGS) p.vc = f.settings + at' 8 (b2n f.inferred)
    ∧ t = { s with now := t.now, cam := t.cam, pipes := t.pipes, params := t.params, ctl := t.ctl })

/-- Camera links are probed and sent TSYNC; lane losses, head loss and CAM_RETRAIN retrain them (03_camera_ingest.md) -/
def Obligations.CameraLinksAreProbedAndRetrained : Prop :=
  ((∀ (g t : Nat) (s : State), g < 8 → s.camState g = 5 → s.powerState ≠ 2 → ∃ u, exec (.probeSend g t) s = .next u
    ∧ u.group g = { s.group g with pseq := ((s.group g).pseq + 1) % 256, probes := ((s.group g).pseq, max t (s.camWindow g)) :: (s.group g).probes }
    ∧ (∀ h, h ≠ g → u.group h = s.group h)
    ∧ u.sent = u.held (max t (s.camWindow g)) (.camSet g 6 (s.group g).pseq 0 (255 - (s.group g).pseq)) :: s.sent
    ∧ u.cam.sensors = s.cam.sensors ∧ u = { s with now := max s.now t, cam := u.cam, sent := u.sent })
  ∧ (∀ (g t : Nat) (s : State), g < 8 → s.camState g ≠ 5 → (s.camState g ≠ 4 ∨ (s.group g).identified = false) → exec (.probeSend g t) s = .next (s.atLeast t))
  ∧ (∀ (g q d3 t t0 : Nat) (s : State), g < 8 → d3 < 256 → q + d3 = 255 → s.camState g = 5 → s.groupHears g = true →
    ((s.group g).probes.find? fun e => e.1 == q) = some (q, t0) → ∃ u, exec (.probeEcho g q 1 d3 t) s = .next u
    ∧ (u.group g).echoes = ((t - t0 - ((s.group g).head.map (·.turn)).getD 0) / 2 :: (s.group g).echoes).take 16 ∧ (u.group g).lostRun = 0
    ∧ (u.group g).probes = (s.group g).probes.filter (· != (q, t0)) ∧ u.getP (P.cg g P.CG_LINK_DELAY) 0 = medianOf (u.group g).echoes
    ∧ SameParams [pkey (P.cg g P.CG_LINK_DELAY) 0] s u ∧ (∀ h, h ≠ g → u.group h = s.group h)
    ∧ u = { s with now := max s.now t, cam := u.cam, params := u.params })
  ∧ (∀ (g q d2 d3 t : Nat) (s : State), g < 8 → q < 65536 → d2 < 256 → d3 < 256 →
    (d2 ≠ 1 ∨ q + d3 ≠ 255 ∨ s.groupHears g = false ∨ ((s.group g).probes.find? fun e => e.1 == q) = none) → exec (.probeEcho g q d2 d3 t) s = .next (s.atLeast t))
  ∧ (∀ (g q : Nat) (e : Nat × Nat) (s : State), g < 8 → q < 65536 → s.camState g = 5 → ((s.group g).probes.find? fun x => x.1 == q) = some e →
    (s.group g).lostRun < 15 → ∃ u, exec (.probeTimeout g q) s = .next u ∧ (u.group g).lostRun = (s.group g).lostRun + 1
    ∧ (u.group g).probes = (s.group g).probes.filter (· != e) ∧ (∀ h, h ≠ g → u.group h = s.group h) ∧ u = { s with cam := u.cam })
  ∧ (∀ (g q : Nat) (e : Nat × Nat) (s : State), g < 8 → q < 65536 → ((s.group g).probes.find? fun x => x.1 == q) = some e → (s.group g).lostRun = 15 →
    (s.camState g = 4 ∨ s.camState g = 5) → ∃ u, exec (.probeTimeout g q) s = .next u ∧ u.camState g = 1 ∧ u.getP (P.cg g P.CG_WIDTH) 0 = 0 ∧ (u.group g).lostRun = 0 ∧ (u.group g).probes = []
    ∧ SameParams [pkey (P.cg g P.CG_STATE) 0, pkey (P.cg g P.CG_WIDTH) 0, pkey (P.cg g P.CG_SPARE_MAP) 0] s u)
  ∧ (∀ (g m t a : Nat) (e : Nat × Int × Int) (s : State), g < 8 → m < 16 → e ∈ s.tsyncsDue g → m.testBit (e.1 % 4) = true → (∀ x ∈ s.tsyncsDue g, x.2 = e.2) →
    a = max (e.2.2.toNat / 65536 - 1) (min (e.2.2.toNat / 65536 + 2) t) → ∃ u, exec (.tsyncSend g m t) s = .next u ∧ (u.group g).tsyncTime = a ∧ (∀ x ∈ s.tsyncsDue g, (u.sensor x.1).aimed = e.2.1.toNat)
    ∧ (u.group g).tsyncs.head? = some ((s.group g).tseq, s.ring.tag) ∧ (u.group g).tseq = ((s.group g).tseq + 1) % 256
    ∧ u.sent = .camSet g 2 ((s.tsyncsDue g).foldl (fun m x => setBit m (x.1 % 4)) 0) (s.group g).tseq (255 - (s.group g).tseq) :: s.sent
    ∧ (∀ h, h ≠ g → u.group h = s.group h) ∧ u = { s with now := max s.now a, cam := u.cam, sent := u.sent })
  ∧ (∀ (g vc : Nat) (s : State), g < 8 → vc < 4 → s.genlocked g vc = true → (4 * g + vc, s.tsyncTarget (4 * g + vc), s.tsyncTarget (4 * g + vc)
    - (((s.group g).head.map (·.fsDelay)).getD 0 + 2 * s.getP (P.cg g P.CG_LINK_DELAY) 0 : Nat) * 65536 + s.getPI (P.cg g P.CG_TSYNC_TRIM) vc * 65536) ∈ s.tsyncsDue g)
  ∧ (∀ (g m t : Nat) (s : State), g < 8 → m < 16 → (∀ vc, vc < 4 → m.testBit vc = true → s.genlocked g vc = false) → exec (.tsyncSend g m t) s = .next s))
  ∧ ((∀ (g lane : Nat) (s : State), g < 8 → lane < 16 → s.camState g = 5 → lane < (s.group g).width → s.getP (P.cg g P.CG_SPARE_MAP) 0 = 255 →
    (s.group g).pendingMap = none → (s.group g).lspSeen = true → (s.group g).cap 2 = true → (s.laneGroup (16 + g)).trapStep = 0 →
    ∃ t, exec (.cameraLaneLost g lane) s = .next t ∧ (t.group g).pendingMap = some (lane, ((s.group g).lastAseq + 2) % 256)
      ∧ (t.group g).badLanes = setBit (s.group g).badLanes lane
      ∧ t.sent = s.held (s.camWindow g) (.camPkt g (mkHdr 0xD 0 (SMap.get (fun _ => 0) (s.group g).retSeq 0) 4 0 0)
          (withCrc (leBytes (lane + at' 8 (((s.group g).lastAseq + 2) % 256)) 4))) :: s.sent
      ∧ (∀ h, h ≠ g → t.group h = s.group h) ∧ t = { s with cam := t.cam, sent := t.sent })
  ∧ (∀ (g : Nat) (s : State), g < 8 → s.camState g = 5 → s.getP (P.cg g P.CG_SPARE_MAP) 0 = 255 → (s.group g).pendingMap = none →
    exec (.cameraLaneLost g 16) s = .next (s.modGroup g fun y => { y with lspSeen := false }))
  ∧ (∀ (g lane m : Nat) (s : State), g < 8 → lane < 16 → s.camState g = 5 → lane < (s.group g).width → s.getP (P.cg g P.CG_SPARE_MAP) 0 = m → m < 16 →
    (s.group g).pendingMap = none → (s.laneGroup (16 + g)).trapStep = 0 → ∃ t, exec (.cameraLaneLost g lane) s = .next t ∧ t.camState g = 2 ∧ t.getP (P.cg g P.CG_SPARE_MAP) 0 = 255
      ∧ t.getP (P.cg g P.CG_WIDTH) 0 = 0 ∧ (t.group g).badLanes = setBit (s.group g).badLanes lane ∧ (t.group g).lanes = [] ∧ (t.group g).trained = false
      ∧ SameParams [pkey (P.cg g P.CG_STATE) 0, pkey (P.cg g P.CG_WIDTH) 0, pkey (P.cg g P.CG_SPARE_MAP) 0] s t ∧ (∀ h, h ≠ g → t.group h = s.group h))
  ∧ (∀ (g lane : Nat) (s : State), g < 8 → lane < 17 → (s.camState g ≠ 5 ∨ (s.group g).width ≤ lane ∧ lane ≠ 16) →
    exec (.cameraLaneLost g lane) s = .next s)
  ∧ (∀ (g : Nat) (s : State), g < 8 → s.camState g ≠ 0 → ∃ t, exec (.cameraHeadLost g) s = .next t ∧ t.camState g = 1 ∧ (t.group g).head = none
    ∧ (t.partner (headId g)).present = false ∧ t.getP (P.cg g P.CG_HEAD_SERIAL) 0 = 0 ∧ t.getP (P.cg g P.CG_SPARE_MAP) 0 = 255
    ∧ (∀ vc, vc < 4 → (t.sensor (4 * g + vc)).present = false
        ∧ ((s.sensor (4 * g + vc)).present = true → (t.partner (sensorId (4 * g + vc))).present = false))
    ∧ (∀ k, k / 4 ≠ g → t.sensor k = s.sensor k) ∧ (∀ h, h ≠ g → t.group h = s.group h)
    ∧ t = { s with cam := t.cam, pipes := t.pipes, params := t.params, ln := t.ln, ctl := t.ctl, sent := t.sent })
  ∧ (∀ (c : Cmd) (s : State), s.accepts false 0x0106 c → c.operands 1 0 → c.f 0 8 < 8 → s.camState (c.f 0 8) ≠ 0 → ∃ t, exec (.camRetrain c) s = .next t
    ∧ Answered 0x0106 c 0 0 0 t ∧ t.camState (c.f 0 8) = 1 ∧ t.group (c.f 0 8) = { (s.resetTraining (c.f 0 8) false).group (c.f 0 8) with
        aseqTx := ((s.group (c.f 0 8)).aseqTx + 1) % 256 }
    ∧ SameParams [pkey (P.cg (c.f 0 8) P.CG_STATE) 0, pkey (P.cg (c.f 0 8) P.CG_WIDTH) 0, pkey (P.cg (c.f 0 8) P.CG_SPARE_MAP) 0] s t
    ∧ (∀ h, h ≠ c.f 0 8 → t.group h = s.group h) ∧ (∀ q, partnerKey q ≠ partnerKey (headId (c.f 0 8)) → t.partner q = s.partner q)
    ∧ CommandEvents c { s with cam := t.cam, params := t.params, ln := t.ln, sent := t.sent, ctl := { s.ctl with partners := t.ctl.partners } } t)
  ∧ (∀ (c : Cmd) (s : State), s.accepts false 0x0106 c → c.operands 1 0 → c.f 0 8 < 8 → s.camState (c.f 0 8) = 0 →
    ∃ t, exec (.camRetrain c) s = .next t ∧ Answered 0x0106 c 0 0 0 t ∧ CommandOnly c s t)
  ∧ (∀ (c : Cmd) (s : State), s.accepts false 0x0106 c → c.operands 1 0 → 8 ≤ c.f 0 8 →
    ∃ t, exec (.camRetrain c) s = .next t ∧ Answered 0x0106 c 4 0 0 t ∧ CommandOnly c s t))

/-- SENSOR_BIND, SENSOR_UNBIND, CAM_EXPOSE, CAM_CTRL_WRITE, CAM_CTRL_READ and the control timeout (03_camera_ingest.md) -/
def Obligations.CameraCommandsBindAndControl : Prop :=
  (∀ (c : Cmd) (s : State), s.accepts false 0x0101 c → c.operands 20 0xFF000000 → c.f 0 8 < 8 → c.f 8 8 < 8 → c.f 16 8 < 4 →
    s.bindHeld (c.f 0 8) (4 * c.f 8 8 + c.f 16 8) = false → (s.pipe (c.f 0 8)).bind = none → s.boundPipe (4 * c.f 8 8 + c.f 16 8) = none →
    (c.immediate = false → ∃ t, exec (.sensorBind c) s = .next t ∧ Waits 0x0101 c ((s.modPipe (c.f 0 8) fun x => { x with change := some {
        target := some { sensor := 4 * c.f 8 8 + c.f 16 8, head := c.f 32 64, serial := c.f 96 64 }, sensor := 4 * c.f 8 8 + c.f 16 8
        ticket := some s.newTicket } }).setPlState (c.f 0 8) 0) t)
    ∧ (c.immediate = true → ∃ t, exec (.sensorBind c) s = .next t ∧ Answered 0x0101 c 0 0 0 t ∧ CommandOnly c ((s.modPipe (c.f 0 8) fun x => { x with change := some {
        target := some { sensor := 4 * c.f 8 8 + c.f 16 8, head := c.f 32 64, serial := c.f 96 64 }, sensor := 4 * c.f 8 8 + c.f 16 8
        ticket := none } }).setPlState (c.f 0 8) 0) t))
  ∧ (∀ (c : Cmd) (s : State), s.accepts false 0x0101 c → c.operands 20 0xFF000000 → c.f 0 8 < 8 → c.f 8 8 < 8 → c.f 16 8 < 4 →
    ∃ t, (exec (.sensorBind c) s = .next t) ∧ (s.bindHeld (c.f 0 8) (4 * c.f 8 8 + c.f 16 8) = true → Answered 0x0101 c 2 0 0 t ∧ CommandOnly c s t)
      ∧ (s.bindHeld (c.f 0 8) (4 * c.f 8 8 + c.f 16 8) = false → ((s.pipe (c.f 0 8)).bind ≠ none ∨ s.boundPipe (4 * c.f 8 8 + c.f 16 8) ≠ none) →
          Answered 0x0101 c 6 0 0 t ∧ CommandOnly c s t))
  ∧ (∀ (c : Cmd) (s : State) (b : Binding), s.accepts false 0x0102 c → c.operands 1 0 → c.f 0 8 < 8 → (s.pipe (c.f 0 8)).bind = some b →
    s.bindHeld (c.f 0 8) b.sensor = false →
    (c.immediate = false → ∃ t, exec (.sensorUnbind c) s = .next t ∧ Waits 0x0102 c ((s.modPipe (c.f 0 8) fun x => { x with
        change := some { target := none, sensor := b.sensor, ticket := some s.newTicket } }).setPlState (c.f 0 8) 0) t)
    ∧ (c.immediate = true → ∃ t, exec (.sensorUnbind c) s = .next t ∧ Answered 0x0102 c 0 0 0 t ∧ CommandOnly c ((s.modPipe (c.f 0 8) fun x => { x with
        change := some { target := none, sensor := b.sensor, ticket := none } }).setPlState (c.f 0 8) 0) t))
  ∧ (∀ (c : Cmd) (s : State), s.accepts false 0x0102 c → c.operands 1 0 → c.f 0 8 < 8 → (s.pipe (c.f 0 8)).bind = none → (∀ n, n < 8 → (s.pipe n).change = none) →
    ∃ t, exec (.sensorUnbind c) s = .next t ∧ Answered 0x0102 c 6 0 0 t ∧ CommandOnly c s t)
  ∧ (∀ (c : Cmd) (s : State), s.accepts false 0x0103 c → c.f 40 8 ≤ 32 → c.operands (12 + c.f 40 8) 0xFFFF0000 → c.f 0 8 < 8 → c.f 8 8 < 4 → c.f 32 8 ≠ 0 →
    s.sensorUsable (4 * c.f 0 8 + c.f 8 8) = true → ∃ t, exec (.camExpose c) s = .next t ∧ Answered 0x0103 c 0 0 0 t
      ∧ t.sent = s.held (s.camWindow (c.f 0 8)) (.camPkt (c.f 0 8) (mkHdr 0xA (c.f 8 8) (SMap.get (fun _ => 0) (s.group (c.f 0 8)).retSeq (c.f 8 8)) (8 + c.f 40 8) 0 0)
          (withCrc (leBytes (c.ops >>> 32) (8 + c.f 40 8)))) :: s.sent
      ∧ (t.sensor (4 * c.f 0 8 + c.f 8 8)).exposed = (if (s.group (c.f 0 8)).cap 0 then (s.sensor (4 * c.f 0 8 + c.f 8 8)).exposed
          else { after := (s.sensor (4 * c.f 0 8 + c.f 8 8)).lastNumber, id := c.f 32 8 } :: (s.sensor (4 * c.f 0 8 + c.f 8 8)).exposed)
      ∧ (∀ k, k ≠ 4 * c.f 0 8 + c.f 8 8 → t.sensor k = s.sensor k) ∧ (∀ h, h ≠ c.f 0 8 → t.group h = s.group h)
      ∧ CommandOnly c { s with cam := t.cam, sent := t.sent } t)
  ∧ (∀ (c : Cmd) (s : State), s.accepts false 0x0103 c → c.f 40 8 ≤ 32 → c.operands (12 + c.f 40 8) 0xFFFF0000 → c.f 0 8 < 8 → c.f 8 8 < 4 → c.f 32 8 ≠ 0 →
    s.sensorUsable (4 * c.f 0 8 + c.f 8 8) = false → ∃ t, exec (.camExpose c) s = .next t ∧ Answered 0x0103 c 0x20 0 0 t ∧ CommandOnly c s t)
  ∧ (∀ (c : Cmd) (s : State), s.accepts false 0x0104 c → c.operands 12 0xFFFFFF00 → c.f 0 8 < 8 → s.headUsable (c.f 0 8) = true →
    ∃ t, exec (.camCtrlWrite c) s = .next t ∧ Waits 0x0104 c (s.sendCtrl (c.f 0 8) 0xB s.newTicket (leBytes (c.f 32 64) 8)) t
      ∧ (t.group (c.f 0 8)).ctrl = (s.group (c.f 0 8)).ctrl ++ [(((s.group (c.f 0 8)).ctrlTag + 1) % 65536, s.newTicket)])
  ∧ (∀ (c : Cmd) (s : State), s.accepts false 0x0105 c → c.operands 8 0xFFFFFF00 → c.f 0 8 < 8 → s.headUsable (c.f 0 8) = true →
    ∃ t, exec (.camCtrlRead c) s = .next t ∧ Waits 0x0105 c (s.sendCtrl (c.f 0 8) 0xC s.newTicket (leBytes (c.f 32 32) 4)) t
      ∧ (t.group (c.f 0 8)).ctrl = (s.group (c.f 0 8)).ctrl ++ [(((s.group (c.f 0 8)).ctrlTag + 1) % 65536, s.newTicket)])
  ∧ (∀ (c : Cmd) (s : State), c.f 0 8 < 8 → s.headUsable (c.f 0 8) = false →
    (s.accepts false 0x0104 c → c.operands 12 0xFFFFFF00 → ∃ t, exec (.camCtrlWrite c) s = .next t ∧ Answered 0x0104 c 0x20 0 0 t ∧ CommandOnly c s t)
    ∧ (s.accepts false 0x0105 c → c.operands 8 0xFFFFFF00 → ∃ t, exec (.camCtrlRead c) s = .next t ∧ Answered 0x0105 c 0x20 0 0 t ∧ CommandOnly c s t))
  ∧ (∀ (g tag : Nat) (e : Nat × Nat) (f : Flight) (s : State), g < 8 → tag < 65536 → ((s.group g).ctrl.find? fun x => x.1 == tag) = some e →
    s.awaits e.2 f → ∃ t, exec (.camCtrlTimeout g tag) s = .next t ∧ Answered f.opcode f.cmd 9 0 0 t
      ∧ (t.group g).ctrl = (s.group g).ctrl.filter (· != e) ∧ t.flight? e.2 = none ∧ (∀ h, h ≠ g → t.group h = s.group h)
      ∧ t = { s with cam := t.cam, ctl := { s.ctl with wins := t.ctl.wins, flights := t.ctl.flights }, pw := t.pw })

/-- A pipeline's wait and gate timeouts, its statistics record, and STATS_READ (04_raw_pipeline.md) -/
def Obligations.PipelineWaitsGatesAndStatistics : Prop :=
  (∀ (p : Nat) (s : State), p < 8 → s.getP (P.pl p P.PL_STATE) 0 = 2 → (s.pipe p).change = none → ∃ t, exec (.pipelineWaitTimeout p) s = .next t
    ∧ t.getP (P.pl p P.PL_STATE) 0 = 1 ∧ SameParams [pkey (P.pl p P.PL_STATE) 0] s t ∧ EventsOnly { s with params := t.params } t)
  ∧ (∀ (p : Nat) (s : State), p < 8 → s.getP (P.pl p P.PL_STATE) 0 ≠ 2 → exec (.pipelineWaitTimeout p) s = .next s)
  ∧ (∀ (p : Nat) (s : State), p < 8 → s.getP (P.pl p P.PL_SID_GATE) 0 ≠ 0 → s.getP (P.pl p P.PL_SID_GATE_TIMEOUT) 0 ≤ (s.pipe p).gateFrames →
    exec (.sidGateTimeout p) s = .next (s.setPipe p { s.pipe p with gateExpired := true }))
  ∧ (∀ (p : Nat) (s : State), p < 8 → (s.getP (P.pl p P.PL_SID_GATE) 0 = 0 ∨ (s.pipe p).gateFrames < s.getP (P.pl p P.PL_SID_GATE_TIMEOUT) 0) →
    exec (.sidGateTimeout p) s = .next s)
  ∧ (∀ (p : Nat) (f : Frame) (s : State), p < 8 → (s.statRecord p f).bytes.length = 22592 ∧ (s.statRecord p f).bytes.take 8 = leBytes f.tag 4 ++ leBytes f.number 4)
  ∧ (∀ (p : Nat) (r : StatRecord) (s : State), p < 8 → (s.pipe p).building = some r → ∃ t, exec (.statsReady p) s = .next t
    ∧ t.pipe p = { s.pipe p with building := none, records := (r :: (s.pipe p).records).take 4 } ∧ (∀ n, n ≠ p → t.pipe n = s.pipe n)
    ∧ t.getP (P.pl p P.ST_RECORDS) 0 = (s.getP (P.pl p P.ST_RECORDS) 0 + 1) % 2 ^ 32 ∧ SameParams [pkey (P.pl p P.ST_RECORDS) 0] s t
    ∧ EventsOnly { s with pipes := t.pipes, params := t.params } t)
  ∧ (∀ (p : Nat) (s : State), p < 8 → (s.pipe p).building = none → exec (.statsReady p) s = .next s)
  ∧ (∀ (c : Cmd) (r : StatRecord) (l : List StatRecord) (s : State), s.accepts false 0x0201 c → c.operands 20 0xFFFF0000 → c.host = [] → c.f 0 8 < 8 →
    c.f 8 8 = 0 → c.f 64 64 ≠ 0 → c.f 64 64 % 64 = 0 → 64 ≤ c.f 128 32 → c.f 128 32 ≤ 22592 → c.f 128 32 % 64 = 0 →
    (s.pipe (c.f 0 8)).records = r :: l → s.hostGood (c.f 64 64) (r.bytes.take (c.f 128 32)).length = (r.bytes.take (c.f 128 32)).length →
    ∃ t, exec (.statsRead c) s = .next t ∧ Answered 0x0201 c 0 8 (r.tag + at' 32 (c.f 128 32)) t
      ∧ takeBytes zeroByte t.ctl.hostMem (c.f 64 64) (r.bytes.take (c.f 128 32)).length = r.bytes.take (c.f 128 32)
      ∧ (∀ a, (a < c.f 64 64 ∨ c.f 64 64 + (r.bytes.take (c.f 128 32)).length ≤ a) → SMap.get zeroByte t.ctl.hostMem a = SMap.get zeroByte s.ctl.hostMem a)
      ∧ CommandOnly c { s with ctl := { s.ctl with hostMem := t.ctl.hostMem } } t)
  ∧ (∀ (c : Cmd) (s : State), s.accepts false 0x0201 c → c.operands 20 0xFFFF0000 → c.f 0 8 < 8 → c.f 8 8 = 0 → c.f 64 64 ≠ 0 → c.f 64 64 % 64 = 0 →
    64 ≤ c.f 128 32 → c.f 128 32 ≤ 22592 → c.f 128 32 % 64 = 0 → (s.pipe (c.f 0 8)).records = [] →
    ∃ t, exec (.statsRead c) s = .next t ∧ Answered 0x0201 c 0x28 0 0 t ∧ CommandOnly c s t)
  ∧ (∀ (c : Cmd) (s : State), s.accepts false 0x0201 c → c.operands 20 0xFFFF0000 → (c.f 64 64 % 64 ≠ 0 ∨ c.f 128 32 < 64 ∨ 22592 < c.f 128 32) →
    ∃ t, exec (.statsRead c) s = .next t ∧ Answered 0x0201 c 4 0 0 t ∧ CommandOnly c s t)

/-- COLOUR_PROBE takes a slot and is answered by its capture or miss; a UNIF_CELLS commit fills one bank, then the other (05_colour_science.md) -/
def Obligations.ColourProbesAndUniformityBanks : Prop :=
  (∀ (c : Cmd) (k : Nat) (s : State), s.accepts false 0x0240 c → c.operands 8 0xFFFC0000 →
    (c.f 0 8 = 0 ∧ c.f 8 8 < 8 ∨ c.f 0 8 = 1 ∧ c.f 8 8 < 16) → k < 4 → s.probe k = none → (∀ j, j < k → s.probe j ≠ none) →
    ∃ t, exec (.colourProbe c) s = .next t ∧ Waits 0x0240 c (s.setProbe k (some {
      canvas := c.f 0 8 == 1, unit := c.f 8 8, phase := c.f 16 2, x := c.f 32 16, y := c.f 48 16, ticket := s.newTicket, since := s.now })) t)
  ∧ (∀ (c : Cmd) (s : State), s.accepts false 0x0240 c → c.operands 8 0xFFFC0000 → (c.f 0 8 = 0 ∧ c.f 8 8 < 8 ∨ c.f 0 8 = 1 ∧ c.f 8 8 < 16) →
    (∀ j, j < 4 → s.probe j ≠ none) → ∃ t, exec (.colourProbe c) s = .next t ∧ Answered 0x0240 c 6 0 0 t ∧ CommandOnly c s t)
  ∧ (∀ (c : Cmd) (s : State), s.accepts false 0x0240 c → c.operands 8 0xFFFC0000 → (2 ≤ c.f 0 8 ∨ c.f 0 8 = 0 ∧ 8 ≤ c.f 8 8 ∨ c.f 0 8 = 1 ∧ 16 ≤ c.f 8 8) →
    ∃ t, exec (.colourProbe c) s = .next t ∧ Answered 0x0240 c 4 0 0 t ∧ CommandOnly c s t)
  ∧ (∀ (q : Probe) (f : Frame) (s : State), q.canvas = false → f.tag < 2 ^ 32 →
    (q.since ≤ f.start → q.x < f.fmt.width → q.y < f.fmt.height → ∃ r, s.frameProbe q.unit f q = some r ∧ r % 2 ^ 32 = f.tag)
      ∧ (f.start < q.since → s.frameProbe q.unit f q = none))
  ∧ (∀ (k : Nat) (q : Probe) (r : Nat) (g : Flight) (s : State), k < 4 → s.probe k = some q → q.result = some r → s.awaits q.ticket g →
    ∃ t, exec (.colourProbeCapture k) s = .next t ∧ Answered g.opcode g.cmd 0 80 r t ∧ t.probe k = none ∧ (∀ j, j ≠ k → t.probe j = s.probe j)
    ∧ t = { s with colour := t.colour, ctl := { s.ctl with wins := t.ctl.wins, flights := t.ctl.flights }, pw := t.pw })
  ∧ (∀ (k : Nat) (s : State), k < 4 → (∀ q, s.probe k = some q → q.result = none) →
    exec (.colourProbeCapture k) s = .next s)
  ∧ (∀ (k : Nat) (q : Probe) (g : Flight) (s : State), k < 4 → s.probe k = some q → q.result = none → s.awaits q.ticket g → ∃ t, exec (.probeMissed k) s = .next t
    ∧ Answered g.opcode g.cmd 0x30 0 0 t ∧ t.probe k = none ∧ (∀ j, j ≠ k → t.probe j = s.probe j) ∧ t.flight? q.ticket = none
    ∧ t = { s with colour := t.colour, ctl := { s.ctl with wins := t.ctl.wins, flights := t.ctl.flights }, pw := t.pw })
  ∧ (∀ (k : UnifCommit) (s : State), s.colour.commit = some k → k.copied = false → ∃ t, exec .unifBankCopyDone s = .next t
    ∧ t.colour.newest = 1 - s.colour.newest ∧ (if t.colour.newest = 0 then t.colour.bank0 else t.colour.bank1) = k.bytes
    ∧ (if t.colour.newest = 0 then t.colour.bank1 = s.colour.bank1 else t.colour.bank0 = s.colour.bank0)
    ∧ t.colour.commit = some { k with copied := true, waiting := (List.range 16).filter fun c => s.cvState c == 2 }
    ∧ (∀ c, c < 16 → t.cvp c P.OC_UNIF_BANK 0 = if s.cvState c = 2 then s.cvp c P.OC_UNIF_BANK 0 else t.colour.newest)
    ∧ SameParams ((List.range 16).map fun c => pkey (P.cv c P.OC_UNIF_BANK) 0) s t ∧ EventsOnly { s with colour := t.colour, params := t.params } t)
  ∧ (∀ (k : UnifCommit) (tk : Nat) (g : Flight) (s : State), s.colour.commit = some k → k.copied = true → k.waiting = [] → k.ticket = some tk →
    s.awaits tk g → ∃ t, exec .unifCommitDone s = .next t ∧ Answered g.opcode g.cmd 0 0 0 t ∧ t.colour.commit = none
      ∧ (if s.colour.newest = 0 then t.colour.bank1 else t.colour.bank0) = k.bytes ∧ (if s.colour.newest = 0 then t.colour.bank0 = s.colour.bank0
          else t.colour.bank1 = s.colour.bank1) ∧ t.colour.newest = s.colour.newest
      ∧ t = { s with colour := t.colour, ctl := { s.ctl with wins := t.ctl.wins, flights := t.ctl.flights }, pw := t.pw })
  ∧ (∀ (k : UnifCommit) (s : State), s.colour.commit = some k → (k.copied = false ∨ k.waiting ≠ []) → exec .unifCommitDone s = .next s)

/-- Canvases start and advance at their boundaries; layer flips and phase sync outputs follow them (06_canvases.md) -/
def Obligations.CanvasesAdvanceAndFlip : Prop :=
  ((∀ (c t : Nat) (s : State), c < 16 → s.quietCanvas c → s.cvState c = 1 → ∃ u, exec (.showPeriodBoundary c t) s = .next u ∧ u.cvState c = 2
    ∧ (u.canvas c).tag = s.ring.tag ∧ ((u.canvas c).start, (u.canvas c).rem) = (s.canvas c).boundaryAt t
    ∧ (u.canvas c).next = s.corrected (u.canvas c).start (s.showEnd c (u.canvas c).start (u.canvas c).rem).1
    ∧ (u.canvas c).nextRem = (s.showEnd c (u.canvas c).start (u.canvas c).rem).2 ∧ (u.canvas c).phase = 0 ∧ (∀ n, n ≠ c → u.canvas n = s.canvas n) ∧ u.pipes = s.pipes
    ∧ u.cam = s.cam ∧ u.mw = s.mw ∧ u.ln = s.ln ∧ u.fr = s.fr ∧ u.au = s.au ∧ u.now = max s.now t ∧ u.ring = s.ring)
  ∧ (∀ (c t : Nat) (s : State), c < 16 → s.quietCanvas c → s.cvState c = 2 → s.cvp c P.CV_ENABLE 0 ≠ 0 → SMap.get (fun _ => 0) s.mw.abandoned c = 0 →
    ∃ u, exec (.showPeriodBoundary c t) s = .next u ∧ u.cvState c = 2 ∧ (u.canvas c).tag = ((s.canvas c).tag + 1) % 2 ^ 32
    ∧ ((u.canvas c).start, (u.canvas c).rem) = (s.canvas c).boundaryAt t ∧ (u.canvas c).prevStart = some (s.canvas c).start
    ∧ (u.canvas c).next = s.corrected (u.canvas c).start (s.showEnd c (u.canvas c).start (u.canvas c).rem).1
    ∧ (u.canvas c).nextRem = (s.showEnd c (u.canvas c).start (u.canvas c).rem).2 ∧ (u.canvas c).phase = 0 ∧ u.cvp c P.OC_CLIP_COUNT 0 = (s.canvas c).clips
    ∧ (u.canvas c).clips = 0 ∧ (u.canvas c).underruns = 0 ∧ (∀ n, n ≠ c → u.canvas n = s.canvas n) ∧ u.pipes = s.pipes ∧ u.cam = s.cam ∧ u.mw = s.mw
    ∧ u.ln = s.ln ∧ u.fr = s.fr ∧ u.au = s.au ∧ u.now = max s.now t ∧ u.ring = s.ring)
  ∧ (∀ (c t : Nat) (s : State), c < 16 → s.cvState c ≠ 1 → s.cvState c ≠ 2 → exec (.showPeriodBoundary c t) s = .next (s.atLeast t))
  ∧ (∀ (c p : Nat) (s : State), c < 16 → p < 4 → s.cvState c = 2 → p < s.cvp c P.CV_PHASES 0 → (∀ i, i < 8 → s.inputActive c i = false) →
    ∃ u, exec (.phaseBoundary c p) s = .next u ∧ u.canvas c = { s.canvas c with
        phase := p, composing := !(s.canvas c).held, line := 0, offAt := [], lost := 0, selected := [], through := [], rows := [],
        lfsr := (List.range 8).map fun l => lfsrSeed (s.canvas c).tag c l p } ∧ (∀ n, n ≠ c → u.canvas n = s.canvas n)
      ∧ u = { s with now := max s.now (s.phaseTime c p / 65536), cv := u.cv })
  ∧ (∀ (c p : Nat) (s : State), c < 16 → p < 4 → (s.cvState c ≠ 2 ∨ s.cvp c P.CV_PHASES 0 ≤ p) → exec (.phaseBoundary c p) s = .next s)
  ∧ (∀ (c : Cmd) (s : State), s.accepts false 0x0302 c → c.operands 1 0 → c.f 0 8 < 16 → s.cvState (c.f 0 8) < 256 → s.cvp (c.f 0 8) P.CV_PHASES 0 < 256 →
    ∃ t r, exec (.canvasStatus c) s = .next t ∧ Answered 0x0302 c 0 32 r t ∧ CommandOnly c s t ∧ r % 2 ^ 8 = s.cvState (c.f 0 8)
      ∧ r / 2 ^ 8 % 2 ^ 8 = s.cvp (c.f 0 8) P.CV_PHASES 0)
  ∧ (∀ (c : Cmd) (s : State), s.accepts false 0x0302 c → c.operands 1 0 → 16 ≤ c.f 0 8 →
    ∃ t, exec (.canvasStatus c) s = .next t ∧ Answered 0x0302 c 4 0 0 t ∧ CommandOnly c s t))
  ∧ ((∀ (c : Cmd) (l : Nat) (s : State), s.accepts false 0x0301 c → c.operands 68 0xFFFF0000 → c.f 0 8 < 16 → l < 8 → c.f 8 8 = 1 <<< l →
    State.layerRange (s.preview.putParams [(P.cv (c.f 0 8) P.LY_BASE, l, c.f (32 + 64 * l) 64)]) (c.f 0 8) l P.LY_BASE = true →
    s.claimedByOther c.win (pkey (P.cv (c.f 0 8) P.LY_BASE) l) = false →
    (c.immediate = false → ∃ t, exec (.layerFlip c) s = .next t ∧ Unanswered 0x0301 c t ∧ t.params = s.params
      ∧ (∃ g ∈ t.ctl.staged, g.ats = [s.canvasBoundary (c.f 0 8)] ∧ g.what = .params [(P.cv (c.f 0 8) P.LY_BASE, l, c.f (32 + 64 * l) 64)])
      ∧ (t.canvas (c.f 0 8)).flips = (s.canvas (c.f 0 8)).flips ++ [(l, c.f (32 + 64 * l) 64, s.newTicket)]
      ∧ t = { s with cv := t.cv, ctl := t.ctl })
    ∧ (c.immediate = true → ∃ t, exec (.layerFlip c) s = .next t ∧ Answered 0x0301 c 0 0 0 t ∧ t.params = s.params
      ∧ (∃ g ∈ t.ctl.staged, g.ats = [s.canvasBoundary (c.f 0 8)] ∧ g.what = .params [(P.cv (c.f 0 8) P.LY_BASE, l, c.f (32 + 64 * l) 64)])
      ∧ (t.canvas (c.f 0 8)).flips = (s.canvas (c.f 0 8)).flips ++ [(l, c.f (32 + 64 * l) 64, 0)]))
  ∧ (∀ (c : Cmd) (l : Nat) (s : State), s.accepts false 0x0301 c → c.operands 68 0xFFFF0000 → c.f 0 8 < 16 → l < 8 → c.f 8 8 = 1 <<< l →
    State.layerRange (s.preview.putParams [(P.cv (c.f 0 8) P.LY_BASE, l, c.f (32 + 64 * l) 64)]) (c.f 0 8) l P.LY_BASE = false →
    ∃ t, exec (.layerFlip c) s = .next t ∧ Answered 0x0301 c 0x39 0 0 t ∧ CommandOnly c s t)
  ∧ (∀ (c : Cmd) (s : State), s.accepts false 0x0301 c → c.operands 68 0xFFFF0000 → (16 ≤ c.f 0 8 ∨ c.f 8 8 = 0) →
    ∃ t, exec (.layerFlip c) s = .next t ∧ Answered 0x0301 c 4 0 0 t ∧ CommandOnly c s t)
  ∧ (∀ (n p c : Nat) (s : State), n < 4 → p < 4 → s.psoCanvas n = some c → s.cvState c = 2 → s.powerState ≠ 2 → p < s.cvp c P.CV_PHASES 0 →
    (s.cvp c P.CV_PSO_PHASES n).testBit p = true → (s.canvas c).prevStart = none → ∃ u, exec (.phaseSyncRise n p) s = .next u
    ∧ u.cv.pso.testBit n = true ∧ (∀ m, m ≠ n → u.cv.pso.testBit m = s.cv.pso.testBit m)
    ∧ SMap.get (fun _ => (0, 0)) u.cv.psoRise n = ((s.phaseTime c p + 65535) / 65536 + s.cvp c P.CV_PSO_OFFSET n, s.cvp c P.CV_PSO_WIDTH n)
    ∧ u = { s with now := max s.now ((s.phaseTime c p + 65535) / 65536 + s.cvp c P.CV_PSO_OFFSET n), cv := { s.cv with pso := u.cv.pso, psoRise := u.cv.psoRise } })
  ∧ (∀ (n p : Nat) (s : State), n < 4 → p < 4 → (s.powerState = 2 ∨ ∀ c, s.psoCanvas n = some c → s.cvState c ≠ 2 ∨ (s.cvp c P.CV_PSO_PHASES n).testBit p = false) →
    exec (.phaseSyncRise n p) s = .next s)
  ∧ (∀ (n t : Nat) (r : Nat × Nat) (s : State), n < 4 → s.cv.pso.testBit n = true → SMap.get (fun _ => (0, 0)) s.cv.psoRise n = r → r.1 + r.2 ≤ t →
    ∃ u, exec (.phaseSyncFall n t) s = .next u ∧ u.cv.pso.testBit n = false ∧ (∀ m, m ≠ n → u.cv.pso.testBit m = s.cv.pso.testBit m)
      ∧ u = { s with now := max s.now (r.1 + r.2), cv := { s.cv with pso := u.cv.pso } })
  ∧ (∀ (n t : Nat) (r : Nat × Nat) (s : State), n < 4 → SMap.get (fun _ => (0, 0)) s.cv.psoRise n = r → (s.cv.pso.testBit n = false ∨ t < r.1 + r.2) →
    exec (.phaseSyncFall n t) s = .next s))

/-- CANVAS_LINE composes on the background, LAYER_FETCH reads a layer's row, FRAME_DONE ends a raster, a frame store buffer completes (06_canvases.md,
05_colour_science.md) -/
def Obligations.CanvasLinesAreComposed : Prop :=
  (∀ (c p y : Nat) (s : State), c < 16 → p < 4 → s.cvState c = 2 → (s.canvas c).composing = true → (s.canvas c).phase = p → y < s.cvp c P.CV_TOTAL_LINES 0 →
    y < s.cvp c P.CV_HEIGHT 0 → (∀ i, i < 16 → 16 ≤ s.cvp c P.CV_ZORDER i) → s.eventEnabled c 1 p = false →
    s.portMap c = [] → (∀ k, k < 4 → s.probe k = none) →
    ∃ u, exec (.canvasLine c p y [] []) s = .next u ∧ (u.canvas c).line = y + 1
      ∧ SMap.find y (u.canvas c).rows = some (List.replicate (s.cvp c P.CV_WIDTH 0) (Rgb.of fun k => s.cvp c P.CV_BACKGROUND k))
      ∧ (∀ z, z ≠ y → SMap.find z (u.canvas c).rows = SMap.find z (s.canvas c).rows) ∧ (u.canvas c).underruns = (s.canvas c).underruns
      ∧ (u.canvas c).out = (s.canvas c).out ∧ (∀ n, n ≠ c → u.canvas n = s.canvas n) ∧ u = { s with now := u.now, cv := u.cv })
  ∧ (∀ (c p y : Nat) (late : List (Nat × Nat)) (bad : List Nat) (s : State), c < 16 → p < 4 → (∀ n ∈ bad, n < 1048576) →
    (s.cvState c ≠ 2 ∨ (s.canvas c).composing = false ∨ (s.canvas c).phase ≠ p ∨ s.cvp c P.CV_TOTAL_LINES 0 ≤ y) →
    exec (.canvasLine c p y late bad) s = .next s)
  ∧ (∀ (c p y n : Nat) (s : State), c < 16 → p < 4 → s.cvState c = 2 → (s.canvas c).composing = true → (s.canvas c).phase = p →
    y < s.cvp c P.CV_TOTAL_LINES 0 → s.cvp c P.CV_HEIGHT 0 < y → s.eventEnabled c 1 p = false → n < 1048576 → n ∉ s.colour.badCells →
    ∃ u, exec (.canvasLine c p y [] [n]) s = .next u ∧ u.colour = { s.colour with badCells := s.colour.badCells ++ [n] }
      ∧ (u.ctl.faultLog.getLast?.map fun e => (e.seq, e.cls, e.idx, e.code)) = some (s.ctl.faultNext, 0x5, c, 0x0503) ∧ u.params = s.params
      ∧ (∀ v, v < s.ctl.views.length → (u.view v).fault = true))
  ∧ (∀ (c l y w : Nat) (k : Layer) (s : State), c < 16 → l < 8 →
    s.layerOf c l (s.pictureOf c unpackPicture) = some k → k.y ≤ y → y < k.y + k.h →
    s.fetchAt c l y = some (w, false) → s.dram.flaws = [] → s.goodBytes (k.base + (y - k.y) * k.stride) (layerBpp k.format * (min (k.x + k.w) (s.cvp c P.CV_WIDTH 0) - k.x))
      = layerBpp k.format * (min (k.x + k.w) (s.cvp c P.CV_WIDTH 0) - k.x) →
    ∃ u, exec (.layerFetch c l y) s = .next u ∧ SMap.find (l * 65536 + y) (u.canvas c).fetched
        = some (s.devRead (k.base + (y - k.y) * k.stride) (layerBpp k.format * (min (k.x + k.w) (s.cvp c P.CV_WIDTH 0) - k.x)))
      ∧ (∀ j, j ≠ l * 65536 + y → SMap.find j (u.canvas c).fetched = SMap.find j (s.canvas c).fetched) ∧ (∀ n, n ≠ c → u.canvas n = s.canvas n)
      ∧ u = { s with now := max s.now (w / 65536), cv := u.cv })
  ∧ (∀ (c src y : Nat) (s : State), c < 16 → src < 16 → s.fetchAt c src y = none → exec (.layerFetch c src y) s = .next s)
  ∧ (∀ (c p fence : Nat) (s : State), c < 16 → p < 4 → s.cvState c = 2 → (s.canvas c).composing = true → (s.canvas c).phase = p → (∀ e, e < 2 → s.vcp e P.VC_MODE ≠ 1) →
    ∃ u, exec (.frameDone c ⟨p, fence⟩) s = .next u ∧ u.cvp c P.CV_SOURCES_OFF 0 = (s.canvas c).offMask ∧ (u.canvas c).lostPrev = (s.canvas c).lost
      ∧ (u.canvas c).rows = (s.canvas c).rows ∧ SameParams [pkey (P.cv c P.CV_SOURCES_OFF) 0] s u ∧ (∀ n, n ≠ c → u.canvas n = s.canvas n)
      ∧ EventsOnly { s with now := u.now, params := u.params, cv := u.cv } u)
  ∧ (∀ (c p fence : Nat) (s : State), c < 16 → p < 4 → (s.cvState c ≠ 2 ∨ (s.canvas c).composing = false ∨ (s.canvas c).phase ≠ p) →
    exec (.frameDone c ⟨p, fence⟩) s = .next s)
  ∧ (∀ (p t b : Nat) (x : FrameStore) (s : State), p < 8 → s.store p = some x → x.writing = some b → ∃ u, exec (.frameStoreComplete p t) s = .next u
    ∧ u.store p = some { x with writing := none, newest := some b, bufs := modAt (fun v => { v with doneAt := t, complete := true }) b x.bufs }
    ∧ (∀ q, q ≠ p → u.store q = s.store q) ∧ u.cv.cvs = s.cv.cvs ∧ u = { s with now := max s.now t, cv := u.cv })
  ∧ (∀ (p t : Nat) (s : State), p < 8 → (∀ x, s.store p = some x → x.writing = none) → exec (.frameStoreComplete p t) s = .next (s.atLeast t))

/-- Upstream packets are checked and answered; DISCOVER finds the tiles of a loop (07_midway.md) -/
def Obligations.TilesAreDiscoveredByCheckedPackets : Prop :=
  ((∀ (p : TilePkt) (s : State), (s.portEnd p.port = none ∨ s.hears p.port = false) → ∀ i ∈ [Instr.tileId p, .cfgReply p, .tileStatus p, .discoverReceived p], i.wellFormed = true →
    exec i s = .next (s.atLeast p.time))
  ∧ (∀ (p : TilePkt) (e : Nat) (s : State), s.portEnd p.port = some e → s.hears p.port = true →
    ∀ i ∈ [(5, Instr.tileId p), (8, .cfgReply p), (10, .tileStatus p), (4, .discoverReceived p)], i.2.wellFormed = true →
      (tileFaulty i.1 p = true ∨ i.1 = 4 ∧ s.dirMode (p.port / 2) = 1) → exec i.2 s = .next (State.bumpSat (s.atLeast p.time) (P.mw (p.port / 64) P.MW_UP_HCRC_ERRORS) (p.port % 64) 1))
  ∧ (∀ (p : TilePkt) (e : Nat) (s : State), s.portEnd p.port = some e → s.hears p.port = true → p.payload ≠ [] → crc32c p.payload ≠ p.crc →
    ∀ i ∈ [(5, Instr.tileId p), (8, .cfgReply p), (10, .tileStatus p), (4, .discoverReceived p)], i.2.wellFormed = true →
      tileFaulty i.1 p = false → (i.1 ≠ 4 ∨ s.dirMode (p.port / 2) ≠ 1) → exec i.2 s = .next (State.bumpSat (s.atLeast p.time) (P.mw (p.port / 64) P.MW_UP_PCRC_ERRORS) (p.port % 64) 1))
  ∧ (∀ (p : TilePkt) (e h : Nat) (s : State), p.sound 10 → s.portEnd p.port = some e → s.hears p.port = true → p.payload.length = 16 → s.dirMode (p.port / 2) ≠ 3 →
    s.hopOfDist (p.port / 2) e (byteAt p.hdr 1 % 64) = h → 1 ≤ h → h ≤ 32 → ∃ t, exec (.tileStatus p) s = .next t
    ∧ t.tile (p.port / 2) h = { s.tile (p.port / 2) h with status := p.payload, misses := 0, poll := none }
    ∧ (∀ l k, 1 ≤ k → l * 32 + k ≠ p.port / 2 * 32 + h → t.tile l k = s.tile l k) ∧ t = { s with now := max s.now p.time, mw := { s.mw with tiles := t.mw.tiles } })
  ∧ (∀ (p : TilePkt) (e : Nat) (k : Nat × Nat × Nat) (g : Flight) (s : State), p.sound 8 → s.portEnd p.port = some e → s.hears p.port = true → p.payload.length = 12 →
    byteAt p.payload 8 ≤ 2 → s.dirMode (p.port / 2) ≠ 3 → ((s.loop (p.port / 2)).cfg.find? fun x => x.1 == hdrAux p.hdr) = some k →
    s.awaits k.2.2 g → ∃ t, exec (.cfgReply p) s = .next t
    ∧ (byteAt p.payload 8 = 0 → g.opcode = 0x0403 → Answered g.opcode g.cmd 0 4 (fieldAt p.payload 4 4) t)
    ∧ (byteAt p.payload 8 = 0 → g.opcode ≠ 0x0403 → Answered g.opcode g.cmd 0 0 0 t)
    ∧ (byteAt p.payload 8 ≠ 0 → Answered g.opcode g.cmd 0x41 0 0 t)
    ∧ Replied g (State.modLoop (p.port / 2) (fun y => { y with cfg := y.cfg.filter (· != k) }) (s.atLeast p.time)) t)
  ∧ (∀ (p : TilePkt) (e : Nat) (s : State), p.sound 8 → s.portEnd p.port = some e → s.hears p.port = true → s.dirMode (p.port / 2) ≠ 3 →
    ((s.loop (p.port / 2)).cfg.find? fun x => x.1 == hdrAux p.hdr) = none → exec (.cfgReply p) s = .next (s.atLeast p.time))
  ∧ (∀ (l tag : Nat) (k : Nat × Nat × Nat) (g : Flight) (s : State), l < 512 → tag < 256 → ((s.loop l).cfg.find? fun x => x.1 == tag) = some k →
    s.awaits k.2.2 g → ∃ t, exec (.tileCfgTimeout l tag) s = .next t ∧ Answered g.opcode g.cmd 9 0 0 t
      ∧ Replied g (s.modLoop l fun y => { y with cfg := y.cfg.filter (· != k) }) t)
  ∧ (∀ (l tag : Nat) (s : State), l < 512 → tag < 256 → ((s.loop l).cfg.find? fun x => x.1 == tag) = none → exec (.tileCfgTimeout l tag) s = .next s)
  ∧ (∀ (l h e : Nat) (s : State), l < 512 → 1 ≤ h → h ≤ 32 → s.ctrlEnd l h = some e → s.powerState ≠ 2 → s.tileState l h ≠ 4 → ∃ t, exec (.tilePoll l h) s = .next t
    ∧ (t.loop l).cfgTag = ((s.loop l).cfgTag + 1) % 256 ∧ t.tile l h = { s.tile l h with poll := some (t.loop l).cfgTag }
    ∧ t.sent = s.held (s.lane (s.endPort l e)).winEnd (.tilePkt (s.endPort l e) (tileHdr 9 0 (s.distOf l e h) 0 (t.loop l).cfgTag 0) (withCrc [])) :: s.sent
    ∧ (∀ k, k ≠ l → t.loop k = s.loop k) ∧ (∀ k j, 1 ≤ j → k * 32 + j ≠ l * 32 + h → t.tile k j = s.tile k j)
    ∧ t.loop l = { s.loop l with cfgTag := (t.loop l).cfgTag }
    ∧ t = { s with sent := t.sent, mw := { s.mw with loops := t.mw.loops, tiles := t.mw.tiles } })
  ∧ (∀ (l h : Nat) (s : State), l < 512 → 1 ≤ h → h ≤ 32 → (s.ctrlEnd l h = none ∨ s.powerState = 2 ∨ s.tileState l h = 4) → exec (.tilePoll l h) s = .next s)
  ∧ (∀ (l h : Nat) (s : State), l < 512 → 1 ≤ h → h ≤ 32 → (s.tile l h).poll ≠ none → s.tileState l h ≠ 0 → ∃ t, exec (.tilePollTimeout l h) s = .next t
    ∧ t.tile l h = { s.tile l h with poll := none, misses := (s.tile l h).misses + 1 } ∧ (∀ k j, 1 ≤ j → k * 32 + j ≠ l * 32 + h → t.tile k j = s.tile k j)
    ∧ EventsOnly { s with mw := { s.mw with tiles := t.mw.tiles } } t ∧ ((s.tile l h).misses ≠ 2 → t.ctl = s.ctl))
  ∧ (∀ (l h : Nat) (s : State), l < 512 → 1 ≤ h → h ≤ 32 → (s.tile l h).poll = none → exec (.tilePollTimeout l h) s = .next s))
  ∧ ((∀ (l e : Nat) (s : State), l < 512 → e < 2 → s.dirMode l ≠ 3 → s.powerState ≠ 2 → s.feedingEnd l e = true → ((s.loop l).side e).running = false →
    ∃ t, exec (.discoverInterval l e) s = .next t ∧ (t.loop l).side e = { (s.loop l).side e with
        discId := (((s.loop l).side e).discId + 1) % 65536, running := true, answers := [] }
      ∧ t.sent = s.held (s.lane (s.endPort l e)).winEnd (.tilePkt (s.endPort l e) (tileHdr 4 0 63 4 0 0) (withCrc (leBytes (((t.loop l).side e).discId + at' 16 e) 4))) :: s.sent
      ∧ (∀ k, k ≠ l → t.loop k = s.loop k) ∧ t.loop l = (s.loop l).withSide e (fun _ => (t.loop l).side e)
      ∧ t = { s with sent := t.sent, mw := { s.mw with loops := t.mw.loops } })
  ∧ (∀ (l e : Nat) (s : State), l < 512 → e < 2 → s.dirMode l ≠ 3 → (s.powerState = 2 ∨ s.feedingEnd l e = false ∧ ((s.loop l).side e).running = false) →
    exec (.discoverInterval l e) s = .next s)
  ∧ (∀ (p : TilePkt) (e f c h : Nat) (s : State), e < 2 → p.sound 5 → s.portEnd p.port = some f → s.hears p.port = true → s.dirMode (p.port / 2) ≠ 3 → p.payload.length = 32 →
    ((s.loop (p.port / 2)).side e).running = true → byteAt p.payload 25 = e → fieldAt p.payload 26 2 = ((s.loop (p.port / 2)).side e).discId →
    byteAt p.payload 24 = c → 1 ≤ c → c ≤ s.dirCount (p.port / 2) → s.dirCount (p.port / 2) ≤ 32 → h = s.hopAt (p.port / 2) e c →
    (s.tile (p.port / 2) h).fromA = false → (s.tile (p.port / 2) h).fromB = false → s.tileCheck (p.port / 2) h (tileInfoOf p.payload) = none →
    (∀ v, s.loopCanvas (p.port / 2) = some v → s.cvp v P.CV_PHASES 0 ≤ (tileInfoOf p.payload).maxPhases + 1) →
    ((s.loop (p.port / 2)).side e).answers.length + 1 ≠ s.dirCount (p.port / 2) →
    ∃ t, exec (.tileId p) s = .next t
      ∧ t.tile (p.port / 2) h = { s.tile (p.port / 2) h with info := some (tileInfoOf p.payload), mismatch := 0, fromA := decide (e = 0), fromB := decide (e ≠ 0) }
      ∧ (∀ l k, 1 ≤ k → l * 32 + k ≠ p.port / 2 * 32 + h → t.tile l k = s.tile l k)
      ∧ (t.loop (p.port / 2)).side e = { (s.loop (p.port / 2)).side e with answers := ((s.loop (p.port / 2)).side e).answers ++ [h] }
      ∧ (∀ k, k ≠ p.port / 2 → t.loop k = s.loop k) ∧ (t.partner (tileId (p.port / 2) h)).present = true
      ∧ (t.partner (tileId (p.port / 2) h)).reported = false
      ∧ (∀ q, partnerKey q ≠ partnerKey (tileId (p.port / 2) h) → t.partner q = s.partner q)
      ∧ t = { s with now := max s.now p.time, mw := { s.mw with loops := t.mw.loops, tiles := t.mw.tiles }, ctl := { s.ctl with partners := t.ctl.partners } })
  ∧ (∀ (p : TilePkt) (e f : Nat) (s : State), p.sound 5 → s.portEnd p.port = some f → s.hears p.port = true → s.dirMode (p.port / 2) ≠ 3 → e = byteAt p.payload 25 →
    (1 < e ∨ ((s.loop (p.port / 2)).side e).running = false ∨ fieldAt p.payload 26 2 ≠ ((s.loop (p.port / 2)).side e).discId) → exec (.tileId p) s = .next (s.atLeast p.time))
  ∧ (∀ (l n : Nat) (s : State), l < 512 → s.dirMode l = 1 → s.dirCount l = n → 1 ≤ n → n ≤ 32 → s.powerState ≠ 2 → (s.loop l).a.running = true →
    (∀ h, h ∈ (s.loop l).a.answers ↔ 1 ≤ h ∧ h ≤ n) → (∀ h, n < h → h ≤ 32 → (s.tile l h).fromA = false) → (s.loop l).a.reach ≤ n → (s.loop l).b.reach = 0 →
    (s.loop l).b.starting = false → (s.loop l).forced ≠ 2 → (s.loop l).discWait = [] → ∃ t, exec (.discoverInterval l 0) s = .next t
      ∧ (t.loop l).a.found = n ∧ (t.loop l).a.reach = n ∧ (t.loop l).a.done = true ∧ t.loopState l = 2 ∧ LoopOnly l s t)
  ∧ (∀ (p : TilePkt) (e : Nat) (s : State), p.sound 4 → s.portEnd p.port = some e → s.hears p.port = true → s.dirMode (p.port / 2) = 2 → p.payload.length = 4 → byteAt p.payload 2 ≠ e →
    hdrAux p.hdr = s.dirCount (p.port / 2) → (s.loop (p.port / 2)).a.done = true → (s.loop (p.port / 2)).a.reach = s.dirCount (p.port / 2) →
    s.dirCount (p.port / 2) ≠ 0 → (s.loop (p.port / 2)).b.reach = 0 → ∃ t, exec (.discoverReceived p) s = .next t
    ∧ t.loop (p.port / 2) = { s.loop (p.port / 2) with intact := true, a := { (s.loop (p.port / 2)).a with heard := none }, b := { (s.loop (p.port / 2)).b with heard := none } }
    ∧ t.loopState (p.port / 2) = 2 ∧ LoopOnly (p.port / 2) (s.atLeast p.time) t)
  ∧ (∀ (p : TilePkt) (e : Nat) (s : State), p.sound 4 → s.portEnd p.port = some e → s.hears p.port = true → s.dirMode (p.port / 2) = 2 → (byteAt p.payload 2 = e ∨ hdrAux p.hdr ≠ s.dirCount (p.port / 2)) →
    exec (.discoverReceived p) s = .next (s.atLeast p.time)))

/-- Alarms, the feed watchdog, failover, handover and reversion of a loop (07_midway.md) -/
def Obligations.LoopsFailOverAndHandOver : Prop :=
  (∀ (p d1 d2 d3 t : Nat) (s : State), p < 1024 → d1 < 256 → d2 < 256 → d3 < 256 → s.portEnd p = none ∨ d2 + d3 ≠ 255 ∨ d1 % 64 ≠ 0 ∨ s.hears p = false →
    exec (.tilePortAlign p d1 d2 d3 t) s = .next (s.atLeast t))
  ∧ (∀ (p d1 d2 d3 t e : Nat) (s : State), p < 1024 → d1 < 256 → d2 + d3 = 255 → d1 % 64 = 0 → s.hears p = true → s.portEnd p = some e →
    (d1.testBit 7 = true → ((s.loop (p / 2)).side e).trained = false → ∃ u q, exec (.tilePortAlign p d1 d2 d3 t) s = .next u
      ∧ q = SMap.get (fun _ => 0) s.mw.aseq p ∧ u.sent = .tileSet p 5 0x80 q (255 - q) :: s.sent ∧ SMap.get (fun _ => 0) u.mw.aseq p = (q + 1) % 256
      ∧ u = { s with now := max s.now t, sent := u.sent, mw := { s.mw with aseq := u.mw.aseq } })
    ∧ (d1.testBit 7 = true → ((s.loop (p / 2)).side e).trained = true → exec (.tilePortAlign p d1 d2 d3 t) s = .next (s.atLeast t))
    ∧ (d1.testBit 7 = false → d1.testBit 6 = true → exec (.tilePortAlign p d1 d2 d3 t) s = .next (State.modEnd (p / 2) e (fun y => { y with asleep := true }) (s.atLeast t)))
    ∧ (d1.testBit 7 = false → d1.testBit 6 = false → ((s.loop (p / 2)).side e).trained = false → e = 0 → (s.loop (p / 2)).forced ≠ 2 → ((s.loop (p / 2)).side e).running = false →
      s.dirMode (p / 2) ≠ 3 → s.feedingEnd (p / 2) 1 = false →
      ∃ u, exec (.tilePortAlign p d1 d2 d3 t) s = .next u ∧ (u.loop (p / 2)).a = { (s.loop (p / 2)).a with
          trained := true, asleep := false, running := true, answers := [], discId := ((s.loop (p / 2)).a.discId + 1) % 65536 }
        ∧ u.loop (p / 2) = { s.loop (p / 2) with a := (u.loop (p / 2)).a } ∧ (∀ k, k ≠ p / 2 → u.loop k = s.loop k)
        ∧ (s.atLeast t).held (s.lane (s.endPort (p / 2) 0)).winEnd (.tilePkt (s.endPort (p / 2) 0) (tileHdr 4 0 63 4 0 0) (withCrc (leBytes (u.loop (p / 2)).a.discId 4))) ∈ u.sent
        ∧ LoopOnly (p / 2) (s.atLeast t) u))
  ∧ (∀ (p d1 d2 d3 t e : Nat) (s : State), p < 1024 → d1 < 256 → d2 < 256 → (d1 ^^^ d2) + d3 = 255 → s.portEnd p = some e → s.hears p = true → s.dirMode (p / 2) ≠ 3 → (s.loop (p / 2)).a.done = true →
    (s.loop (p / 2)).a.reach = s.dirCount (p / 2) → s.dirCount (p / 2) ≠ 0 → (s.loop (p / 2)).b.reach = 0 → ∃ u, exec (.fsoReceived p d1 d2 d3 t) s = .next u
      ∧ u.loop (p / 2) = { s.loop (p / 2) with intact := true, a := { (s.loop (p / 2)).a with heard := none }, b := { (s.loop (p / 2)).b with heard := none } }
      ∧ u.loopState (p / 2) = 2 ∧ LoopOnly (p / 2) (s.atLeast t) u)
  ∧ (∀ (p d1 d2 d3 t : Nat) (s : State), p < 1024 → d1 < 256 → d2 < 256 → d3 < 256 → (d1 ^^^ d2) + d3 ≠ 255 →
    exec (.fsoReceived p d1 d2 d3 t) s = .next (s.atLeast t) ∧ exec (.tileAlarmReceived p d1 d2 d3 t) s = .next (s.atLeast t))
  ∧ (∀ (p d1 d2 d3 t r : Nat) (s : State), p < 1024 → d1 < 256 → d2 < 256 → (d1 ^^^ d2) + d3 = 255 → s.portEnd p = some 0 → s.hears p = true → s.dirMode (p / 2) = 2 →
    (s.loop (p / 2)).a.heard ≠ some (d1 / 16, d2) → (d1 / 16 = 0 ∧ r = d2 + 1 ∨ d1 / 16 = 2 ∧ r = d2) → 1 ≤ r → r < s.dirCount (p / 2) → s.dirCount (p / 2) ≤ 32 → (s.loop (p / 2)).trap = 0 →
    (s.loop (p / 2)).a.reach = s.dirCount (p / 2) → (s.loop (p / 2)).a.found = s.dirCount (p / 2) → (s.loop (p / 2)).b.reach = 0 →
    ∃ u, exec (.tileAlarmReceived p d1 d2 d3 t) s = .next u ∧ (u.loop (p / 2)).a.found = r ∧ (u.loop (p / 2)).a.reach = r
      ∧ (u.loop (p / 2)).b = { (s.loop (p / 2)).b with starting := true, found := (u.loop (p / 2)).b.found } ∧ (u.loop (p / 2)).a.heard = some (d1 / 16, d2) ∧ (u.loop (p / 2)).intact = false ∧ (u.loop (p / 2)).alarm = d2
      ∧ u.loopState (p / 2) = 4 ∧ u.getP (mwLoop (p / 2) P.MW_ALARMS) (p / 2 % 32) = min (s.getP (mwLoop (p / 2) P.MW_ALARMS) (p / 2 % 32) + 1) (2 ^ 32 - 1)
      ∧ (∀ h, r < h → h ≤ s.dirCount (p / 2) → (u.tile (p / 2) h).fromA = false
          ∧ ((s.loop (p / 2)).intact = true → (s.tile (p / 2) h).info ≠ none → (u.tile (p / 2) h).fromB = true)) ∧ LoopOnly (p / 2) (s.atLeast t) u)
  ∧ (∀ (p d1 d2 d3 t e : Nat) (s : State), p < 1024 → d1 < 256 → d2 < 256 → (d1 ^^^ d2) + d3 = 255 → s.portEnd p = some e → s.hears p = true →
    (d1 / 16 = 0 ∨ d1 / 16 = 2) → ((s.loop (p / 2)).side e).heard = some (d1 / 16, d2) → exec (.tileAlarmReceived p d1 d2 d3 t) s = .next (State.bumpSat (s.atLeast t) (mwLoop (p / 2) P.MW_ALARMS) (p / 2 % 32) 1))
  ∧ (∀ (l e : Nat) (s : State), l < 512 → e < 2 → s.ownsEnd l e = true → ((s.loop l).side e).reach = 0 → s.powerState ≠ 2 → ((s.loop l).side e).trained = true →
    ((s.loop l).side e).running = false → (s.loop l).trap = 0 → ∃ t, exec (.feedWatchdog l e) s = .next t ∧ (t.loop l).side e = { (s.loop l).side e with
        starting := true, discId := (((s.loop l).side e).discId + 1) % 65536, running := true, answers := [] } ∧ (t.loop l).intact = false
      ∧ t.sent = s.held (s.lane (s.endPort l e)).winEnd (.tilePkt (s.endPort l e) (tileHdr 4 0 63 4 0 0) (withCrc (leBytes (((t.loop l).side e).discId + at' 16 e) 4))) :: s.sent
      ∧ (∀ k, k ≠ l → t.loop k = s.loop k) ∧ t.loop l = Loop.withSide e (fun _ => (t.loop l).side e) { s.loop l with intact := false }
      ∧ t = { s with sent := t.sent, mw := { s.mw with loops := t.mw.loops } })
  ∧ (∀ (l e : Nat) (s : State), l < 512 → e < 2 → (s.ownsEnd l e = false ∨ ((s.loop l).side e).reach ≠ 0 ∨ s.powerState = 2) → exec (.feedWatchdog l e) s = .next s)
  ∧ (∀ (l r : Nat) (s : State), l < 512 → s.dirMode l = 2 → s.dirCount l ≤ 32 → (s.loop l).b.starting = true → (s.loop l).b.done = true → (s.loop l).b.running = false → (s.loop l).a.running = false →
    (s.loop l).a.reach ≠ 0 → r = min (s.dirCount l - (s.loop l).a.reach) (s.loop l).b.found → r ≠ 0 → ∃ t, exec (.failoverTrained l) s = .next t
      ∧ (t.loop l).b.reach = r ∧ (t.loop l).b.trained = true ∧ (t.loop l).b.starting = false ∧ (t.loop l).a.reach = (s.loop l).a.reach ∧ t.loopState l = 3
      ∧ t.getP (mwLoop l P.MW_FAILOVERS) (l % 32) = min (s.getP (mwLoop l P.MW_FAILOVERS) (l % 32) + 1) (2 ^ 32 - 1) ∧ LoopOnly l s t)
  ∧ (∀ (l : Nat) (s : State), l < 512 → (s.loop l).a.starting = false → (s.loop l).b.starting = false → exec (.failoverTrained l) s = .next s)
  ∧ (∀ (l : Nat) (s : State), l < 512 → s.dirMode l = 2 → (s.loop l).intact = true → (s.loop l).forced = 0 →
    s.getP (mwLoop l P.MW_REVERT) 0 = 1 → (s.loop l).handover = none → (s.loop l).b.reach ≠ 0 → (s.loop l).trap = 0 → ∃ t, exec (.revertHoldExpiry l) s = .next t
      ∧ t.loop l = { s.loop l with handover := some { tag := s.handoverTag l 100000, reachA := s.dirCount l, reachB := 0, kind := 1, ticket := none, reason := 2 },
                                      a := { (s.loop l).a with starting := (s.loop l).a.starting || (s.loop l).a.reach == 0 } }
      ∧ (∀ k, k ≠ l → t.loop k = s.loop k) ∧ t = { s with mw := { s.mw with loops := t.mw.loops } })
  ∧ (∀ (l : Nat) (s : State), l < 512 → (s.getP (mwLoop l P.MW_REVERT) 0 ≠ 1 ∨ (s.loop l).intact = false ∨ (s.loop l).forced ≠ 0 ∨ (s.loop l).b.reach = 0 ∨ (s.loop l).trap ≠ 0
      ∨ (s.loop l).handover ≠ none) →
    exec (.revertHoldExpiry l) s = .next s)
  ∧ (∀ (l : Nat) (h : Handover) (s : State), l < 512 → (s.loop l).handover = some h → h.tag ≠ none → h.reachA ≠ 0 → s.dirMode l = 2 →
    (s.loop l).a.running = false → (s.loop l).b.running = false → ∃ t, exec (.handoverReady l) s = .next t ∧ (t.loop l).handover = some { h with ready := true }
      ∧ (t.loop l).a = { (s.loop l).a with trained := true, asleep := false, done := true, found := max (s.loop l).a.found h.reachA, running := (t.loop l).a.running
                                           answers := (t.loop l).a.answers, discId := (t.loop l).a.discId }
      ∧ (h.ready = false → (s.loop l).forced ≠ 2 → (t.loop l).a.running = true) ∧ LoopOnly l s t)
  ∧ (∀ (l : Nat) (h : Handover) (s : State), l < 512 → (s.loop l).handover = some h → h.tag = none → h.acked = true → h.ticket = none → s.dirMode l = 2 →
    h.reachA = s.dirCount l → h.reachA ≠ 0 → h.reachB = 0 → (s.loop l).intact = true → (s.loop l).trap = 0 → (s.loop l).a.running = false → (s.loop l).b.running = false → l ∉ s.mw.link.handing →
    ∃ t, exec (.handoverReady l) s = .next t ∧ (t.loop l).handover = none ∧ (t.loop l).a.reach = h.reachA ∧ (t.loop l).b.reach = 0 ∧ t.loopState l = 2 ∧ LoopOnly l s t)
  ∧ (∀ (l tk : Nat) (h : Handover) (g : Flight) (s : State), l < 512 → (s.loop l).handover = some h → h.goes = false → h.ticket = some tk →
    s.awaits tk g → (s.loop l).trap = 0 → l ∉ s.mw.link.handing → ∃ t, exec (.handoverAbandon l) s = .next t ∧ Answered g.opcode g.cmd 9 0 0 t
      ∧ Replied g (s.modLoop l fun y => { y with handover := none, a := { y.a with starting := false }, b := { y.b with starting := false } }) t)
  ∧ (∀ (l : Nat) (s : State), l < 512 → (∀ h, (s.loop l).handover = some h → h.goes = true) → exec (.handoverAbandon l) s = .next s)
  ∧ (∀ (l : Nat) (s : State), l < 512 → (s.loop l).handover = none → exec (.handoverReady l) s = .next s)

/-- FSO, and the packets of a tile for a canvas line (07_midway.md) -/
def Obligations.LinesAreSentToTiles : Prop :=
  (∀ (c p l r d1 d2 : Nat) (s : State), c < 16 → p < 4 → s.cvState c = 2 → s.powerState ≠ 2 → p < s.cvp c P.CV_PHASES 0 → s.canvasLoops c = [l] →
    (s.dirMode l = 1 ∨ s.dirMode l = 2) → (s.loop l).a.reach = r → r ≠ 0 → (s.loop l).b.reach = 0 →
    d1 = p * 64 + (if r = s.dirCount l then r + 1 else r) % 64 → d2 = (s.canvas c).tag % 256 →
    ((∀ h, 1 ≤ h → h ≤ 32 → (s.tile l h).frame = none) → ∃ t, exec (.fsoSend c p) s = .next t ∧ t.sent = .tileSet (2 * l) 4 d1 d2 (255 - (d1 ^^^ d2)) :: s.sent
      ∧ t = { s with now := t.now, sent := t.sent })
    ∧ (∀ (h : Nat) (f : TileFrame), 1 ≤ h → h ≤ r → r ≤ s.dirCount l → h ≤ 32 → (s.tile l h).frame = some f → (∀ k, 1 ≤ k → k ≤ 32 → k ≠ h → (s.tile l k).frame = none) →
      l < 512 → s.loopCanvas l = some c → ∃ t, exec (.fsoSend c p) s = .next t
        ∧ t.sent = .tileSet (2 * l) 4 d1 d2 (255 - (d1 ^^^ d2)) :: t.held (s.lane (2 * l)).winEnd (.tilePkt (2 * l) (tileHdr 3 f.phase (h - 1) 8 0 0)
            (withCrc (leBytes (f.tag + at' 32 f.rows + at' 48 1) 8))) :: s.sent
        ∧ t.tile l h = { s.tile l h with frame := none } ∧ (∀ k j, 1 ≤ j → k * 32 + j ≠ l * 32 + h → t.tile k j = s.tile k j)
        ∧ t.getP (P.mw (2 * l / 64) P.MW_ABANDONED) (2 * l % 64) = min (s.getP (P.mw (2 * l / 64) P.MW_ABANDONED) (2 * l % 64) + 1) (2 ^ 32 - 1)
        ∧ SameParams [pkey (P.mw (2 * l / 64) P.MW_ABANDONED) (2 * l % 64)] s t
        ∧ SMap.get (fun _ => 0) t.mw.abandoned c = SMap.get (fun _ => 0) s.mw.abandoned c + 1
        ∧ t = { s with now := t.now, sent := t.sent, params := t.params, mw := { s.mw with tiles := t.mw.tiles, abandoned := t.mw.abandoned } }))
  ∧ (∀ (c p : Nat) (s : State), c < 16 → p < 4 → (s.cvState c ≠ 2 ∨ s.powerState = 2 ∨ s.cvp c P.CV_PHASES 0 ≤ p) → exec (.fsoSend c p) s = .next s)
  ∧ (∀ (l h c p y w n e row tag : Nat) (m : MapEntry) (codes : List Nat) (s : State), l < 512 → 1 ≤ h → h ≤ 32 → c < 16 → p < 4 →
    ((s.portMap c).find? fun x => x.loop == l && x.hop == h) = some m → SMap.find (outKey l h y) (s.canvas c).out = some codes →
    s.takesFrames l h p = true → s.cvState c = 2 → (s.canvas c).phase = p → (s.canvas c).tag = tag → s.tileDims l h = (w, n) → s.fedFrom l h = some e →
    row = (if m.my then n - 1 - (y - m.y) else y - m.y) →
    (y = m.y ∨ ∃ f, (s.tile l h).frame = some f ∧ f.phase = p ∧ f.tag = tag) →
    ∃ t f, exec (.tileLineSend l h c p y) s = .next t
      ∧ f = (if y = m.y then { phase := p, tag := tag, rows := 0 } else ((s.tile l h).frame.getD { phase := p, tag := tag, rows := 0 } : TileFrame))
      ∧ t.sent = (if y + 1 = m.y + n then [t.held (s.lane (s.endPort l e)).winEnd (.tilePkt (s.endPort l e) (tileHdr 3 p (s.distOf l e h) 8 0 0)
              (withCrc (leBytes (tag + at' 32 (f.rows + 1)) 8)))] else [])
          ++ [t.held (s.lane (s.endPort l e)).winEnd (.tilePkt (s.endPort l e) (tileHdr 2 p (s.distOf l e h) (rowBytes w m.mx codes).length row
              (b2n (decide (y + 1 = m.y + n)))) (withCrc (rowBytes w m.mx codes)))]
          ++ (if y = m.y then [t.held (s.lane (s.endPort l e)).winEnd (.tilePkt (s.endPort l e) (tileHdr 1 p (s.distOf l e h) 12 0 0) (withCrc (leBytes (tag + at' 32 w + at' 48 n
              + at' 64 (s.dirTile l h 12 1) + at' 72 (s.dirTile l h 13 1 % 2) + at' 80 (s.cvp c P.CV_PHASES 0 - 1)) 12)))] else []) ++ s.sent
      ∧ (t.tile l h).frame = (if y + 1 = m.y + n then none else some { f with rows := f.rows + 1 })
      ∧ (∀ k j, 1 ≤ j → k * 32 + j ≠ l * 32 + h → t.tile k j = s.tile k j) ∧ t.tile l h = { s.tile l h with frame := (t.tile l h).frame }
      ∧ t.canvas c = { s.canvas c with out := SMap.del (outKey l h y) (s.canvas c).out } ∧ (∀ k, k ≠ c → t.canvas k = s.canvas k)
      ∧ t = { s with now := t.now, sent := t.sent, mw := { s.mw with tiles := t.mw.tiles }, cv := { s.cv with cvs := t.cv.cvs } })
  ∧ (∀ (l h c p y : Nat) (m : MapEntry) (codes : List Nat) (s : State), l < 512 → 1 ≤ h → h ≤ 32 → c < 16 → p < 4 →
    ((s.portMap c).find? fun x => x.loop == l && x.hop == h) = some m → SMap.find (outKey l h y) (s.canvas c).out = some codes → s.takesFrames l h p = false →
    ∃ t, exec (.tileLineSend l h c p y) s = .next t ∧ t.canvas c = { s.canvas c with out := SMap.del (outKey l h y) (s.canvas c).out }
      ∧ (∀ k, k ≠ c → t.canvas k = s.canvas k) ∧ t = { s with now := t.now, cv := { s.cv with cvs := t.cv.cvs } })
  ∧ (∀ (l h c p y : Nat) (s : State), l < 512 → 1 ≤ h → h ≤ 32 → c < 16 → p < 4 → SMap.find (outKey l h y) (s.canvas c).out = none →
    exec (.tileLineSend l h c p y) s = .next s)

/-- LOOP_DISCOVER, TILE_CFG_WRITE, TILE_CFG_READ, TILE_STATUS_READ, LOOP_FEED and PARTNER_CONFIG (07_midway.md) -/
def Obligations.MidwayAndPartnerCommands : Prop :=
  (∀ (c : Cmd) (l : Nat) (s : State), s.accepts false 0x0401 c → c.operands 2 0 → l = c.f 0 16 → l < 512 → s.feedingEnd l 0 = true → s.feedingEnd l 1 = false →
    (s.loop l).a.running = false → ∃ t, exec (.loopDiscover c) s = .next t ∧ Waits 0x0401 c (((s.modLoop l fun y => { y with
        discWait := y.discWait ++ [s.newTicket] }).modEnd l 0 fun y => { y with discId := (y.discId + 1) % 65536, running := true, answers := [] }).emit
      (s.held (s.lane (s.endPort l 0)).winEnd (.tilePkt (s.endPort l 0) (tileHdr 4 0 63 4 0 0) (withCrc (leBytes (((s.loop l).a.discId + 1) % 65536) 4))))) t)
  ∧ (∀ (c : Cmd) (s : State), s.accepts false 0x0401 c → c.operands 2 0 → c.f 0 16 < 512 → s.feedingEnd (c.f 0 16) 0 = false → s.feedingEnd (c.f 0 16) 1 = false →
    ∃ t, exec (.loopDiscover c) s = .next t ∧ Answered 0x0401 c 0 2 ((s.loop (c.f 0 16)).a.found + at' 8 (s.loop (c.f 0 16)).b.found) t ∧ CommandOnly c s t)
  ∧ (∀ (c : Cmd) (s : State), s.accepts false 0x0401 c → c.operands 2 0 → 512 ≤ c.f 0 16 →
    ∃ t, exec (.loopDiscover c) s = .next t ∧ Answered 0x0401 c 4 0 0 t ∧ CommandOnly c s t)
  ∧ (∀ (c : Cmd) (l h e tag : Nat) (s : State), l = c.f 0 16 → h = c.f 16 8 → l < 512 → 1 ≤ h → h ≤ 32 → s.tileState l h ≠ 4 → s.ctrlEnd l h = some e →
    tag = ((s.loop l).cfgTag + 1) % 256 →
    (s.accepts false 0x0402 c → c.operands 12 0xFF000000 → ∃ t, exec (.tileCfgWrite c) s = .next t ∧ Waits 0x0402 c ((s.modLoop l fun y => { y with
        cfgTag := tag, cfg := y.cfg ++ [(tag, h, s.newTicket)] }).emit (s.held (s.lane (s.endPort l e)).winEnd (.tilePkt (s.endPort l e)
          (tileHdr 6 0 (s.distOf l e h) 8 tag 0) (withCrc (leBytes (c.f 32 64) 8))))) t)
    ∧ (s.accepts false 0x0403 c → c.operands 8 0xFF000000 → ∃ t, exec (.tileCfgRead c) s = .next t ∧ Waits 0x0403 c ((s.modLoop l fun y => { y with
        cfgTag := tag, cfg := y.cfg ++ [(tag, h, s.newTicket)] }).emit (s.held (s.lane (s.endPort l e)).winEnd (.tilePkt (s.endPort l e)
          (tileHdr 7 0 (s.distOf l e h) 4 tag 0) (withCrc (leBytes (c.f 32 32) 4))))) t))
  ∧ (∀ (c : Cmd) (s : State), c.f 0 16 < 512 → 1 ≤ c.f 16 8 → c.f 16 8 ≤ 32 → (s.tileState (c.f 0 16) (c.f 16 8) = 4 ∨ s.ctrlEnd (c.f 0 16) (c.f 16 8) = none) →
    (s.accepts false 0x0402 c → c.operands 12 0xFF000000 → ∃ t, exec (.tileCfgWrite c) s = .next t ∧ Answered 0x0402 c 0x40 0 0 t ∧ CommandOnly c s t)
    ∧ (s.accepts false 0x0403 c → c.operands 8 0xFF000000 → ∃ t, exec (.tileCfgRead c) s = .next t ∧ Answered 0x0403 c 0x40 0 0 t ∧ CommandOnly c s t))
  ∧ (∀ (c : Cmd) (s : State), (512 ≤ c.f 0 16 ∨ c.f 16 8 = 0 ∨ 32 < c.f 16 8) →
    (s.accepts false 0x0402 c → c.operands 12 0xFF000000 → ∃ t, exec (.tileCfgWrite c) s = .next t ∧ Answered 0x0402 c 4 0 0 t ∧ CommandOnly c s t)
    ∧ (s.accepts false 0x0403 c → c.operands 8 0xFF000000 → ∃ t, exec (.tileCfgRead c) s = .next t ∧ Answered 0x0403 c 4 0 0 t ∧ CommandOnly c s t)
    ∧ (s.accepts false 0x0404 c → c.operands 4 0 → ∃ t, exec (.tileStatusRead c) s = .next t ∧ Answered 0x0404 c 4 0 0 t ∧ CommandOnly c s t))
  ∧ (∀ (c : Cmd) (l h n : Nat) (s : State), s.accepts false 0x0404 c → c.operands 4 0 → l = c.f 0 16 → h = c.f 16 8 → n = c.f 24 8 → l < 512 → 1 ≤ h → 1 ≤ n → n ≤ 12 →
    h + n ≤ 33 → (∀ i, i < n → s.tileState l (h + i) < 256 ∧ (s.tile l (h + i)).status.length ≤ 16) → ∃ t r, exec (.tileStatusRead c) s = .next t
    ∧ Answered 0x0404 c 0 (20 * n) r t ∧ CommandOnly c s t ∧ ∀ i, i < n → r / 2 ^ (160 * i) % 2 ^ 8 = h + i ∧ r / 2 ^ (160 * i + 8) % 2 ^ 8 = s.tileState l (h + i)
      ∧ r / 2 ^ (160 * i + 32) % 2 ^ 128 = ofLE (s.tile l (h + i)).status)
  ∧ (∀ (c : Cmd) (l m : Nat) (s : State), s.accepts false 0x0405 c → c.operands 3 0 → l = c.f 0 16 → m = c.f 16 8 →
    ((512 ≤ l ∨ 2 < m) → ∃ t, exec (.loopFeed c) s = .next t ∧ Answered 0x0405 c 4 0 0 t ∧ CommandOnly c s t)
    ∧ (l < 512 → m ≤ 2 → (s.loop l).handover ≠ none → ∃ t, exec (.loopFeed c) s = .next t ∧ Answered 0x0405 c 2 0 0 t ∧ CommandOnly c s t)
    ∧ (l < 512 → (m = 1 ∨ m = 2) → (s.loop l).handover = none → s.reachesAll l (m - 1) = false → ∃ t, exec (.loopFeed c) s = .next t ∧ Answered 0x0405 c 6 0 0 t
        ∧ CommandOnly c s t)
    ∧ (l < 512 → m = 1 → (s.loop l).handover = none → s.dirMode l = 2 → s.reachesAll l 0 = true → (s.loop l).a.reach = s.dirCount l → (s.loop l).b.reach = 0 →
        ∃ t, exec (.loopFeed c) s = .next t ∧ Answered 0x0405 c 0 0 0 t ∧ CommandOnly c (s.modLoop l fun y => { y with forced := 1 }) t)
    ∧ (l < 512 → m = 0 → (s.loop l).handover = none → s.reachesAll l 0 = false →
        ∃ t, exec (.loopFeed c) s = .next t ∧ Answered 0x0405 c 0 0 0 t ∧ CommandOnly c (s.modLoop l fun y => { y with forced := 0 }) t)
    ∧ (l < 512 → m = 2 → (s.loop l).handover = none → s.dirMode l = 2 → s.reachesAll l 1 = true → (s.loop l).b.reach = 0 →
        ∃ t, exec (.loopFeed c) s = .next t ∧ Waits 0x0405 c (((s.modLoop l fun y => { y with forced := 2 }).modLoop l fun y => { y with
            handover := some { tag := s.handoverTag l 100000, reachA := 0, reachB := s.dirCount l, kind := 2, ticket := some s.newTicket } }).modEnd l 1
              fun y => { y with starting := true }) t))
  ∧ (∀ (c : Cmd) (s : State), s.accepts true 0x0041 c → c.operands 12 0xFF000000 →
    ((2 < c.f 0 8 ∨ c.f 0 8 = 1 ∧ (1 < c.f 8 8 ∨ popcount (c.f 16 8) 8 ∉ [1, 2, 4, 8])) → ∃ t, exec (.partnerConfig c) s = .next t
        ∧ Answered 0x0041 c 4 0 0 t ∧ CommandOnly c s t)
    ∧ (c.f 0 8 = 0 → s.linkState = 0 → ∃ t, exec (.partnerConfig c) s = .next t ∧ Answered 0x0041 c 0 0 0 t ∧ CommandOnly c (s.modLink fun x => { x with enabled := false }) t)
    ∧ (c.f 0 8 = 1 → c.f 8 8 ≤ 1 → popcount (c.f 16 8) 8 ∈ [1, 2, 4, 8] → s.linkState = 0 → ∃ t, exec (.partnerConfig c) s = .next t ∧ Answered 0x0041 c 0 0 0 t
        ∧ t.linkState = 1 ∧ t.getP P.PT_WIDTH 0 = 0 ∧ SameParams [pkey P.PT_STATE 0, pkey P.PT_WIDTH 0] s t
        ∧ t.mw.link = { s.mw.link with enabled := true, role := c.f 8 8, mask := c.f 16 8, want := c.f 32 64, aseqTx := (s.mw.link.aseqTx + 1) % 256 }
        ∧ t.sent = (linkAligns { t.mw.link with aseqTx := s.mw.link.aseqTx }).reverse ++ s.sent ∧ (∀ k, k < 1160 ∨ 1168 ≤ k → t.lane k = s.lane k)
        ∧ CommandEvents c { s with params := t.params, mw := { s.mw with link := t.mw.link }, ln := { s.ln with lanes := t.ln.lanes }, sent := t.sent } t)
    ∧ (c.f 0 8 = 2 → s.linkActive = false → ∃ t, exec (.partnerConfig c) s = .next t ∧ Answered 0x0041 c 0x43 0 0 t ∧ CommandOnly c s t)
    ∧ (c.f 0 8 = 2 → s.linkActive = true → s.fedPaired = [] → ∃ t, exec (.partnerConfig c) s = .next t ∧ Answered 0x0041 c 0 0 0 t ∧ CommandOnly c s t))

/-- The partner link trains, identifies its partner, and measures the link (07_midway.md) -/
def Obligations.PartnerLinkTrains : Prop :=
  (∀ (k : Nat) (s : State), k < 8 → s.linkState = 1 → s.mw.link.mask.testBit k = true → ∃ t, exec (.partnerSignalDetect k) s = .next t ∧ LinkIn 2 s t)
  ∧ (∀ (k : Nat) (s : State), k < 8 → (s.linkState ≠ 1 ∨ s.mw.link.mask.testBit k = false) → exec (.partnerSignalDetect k) s = .next s)
  ∧ (∀ (l : List AlignSet) (s : State), l.all AlignSet.wf = true → (∀ a ∈ l, s.hears (1160 + a.lane) = true) → s.linkState = 2 → fullColumn s.mw.link.width l = true →
    ∃ t, exec (.partnerAlign l) s = .next t ∧ LinkIn 3 { s with mw := { s.mw with link := { s.mw.link with lanes := t.mw.link.lanes } } } t)
  ∧ (∀ (l : List AlignSet) (s : State), l.all AlignSet.wf = true → (∀ a ∈ l, s.hears (1160 + a.lane) = true) → s.linkState = 3 → s.mw.link.trained = false → fullColumn s.mw.link.width l = true →
    equalAseq l = true → ∃ t x, exec (.partnerAlign l) s = .next t ∧ x = { s.mw.link with
      lanes := t.mw.link.lanes, alignedRun := s.mw.link.alignedRun + 1, trained := decide (4 ≤ s.mw.link.alignedRun + 1) }
    ∧ t = { s with mw := { s.mw with link := x.aligned }, sent := (linkAligns x).reverse ++ s.sent })
  ∧ (∀ (l : List AlignSet) (s : State), l.all AlignSet.wf = true → (∀ a ∈ l, s.hears (1160 + a.lane) = true) → s.linkState = 3 → s.mw.link.trained = true → fullColumn s.mw.link.width l = true →
    equalAseq l = true → (∀ a ∈ l, a.d3.testBit 4 = false) → ∃ u, exec (.partnerAlign l) s
      = .next (u.emit (s.held (s.quietEnd.getD 0) (.partnerPkt (tileHdr 1 0 0 32 0 0) (withCrc (leBytes (Config.serial + at' 64 (s.getP P.FW_RELEASE 0)
          + at' 96 s.mw.link.role + at' 104 s.mw.link.width + at' 112 1) 32)))))
      ∧ LinkIn 4 { s with mw := { s.mw with link := { s.mw.link with lanes := u.mw.link.lanes } } } u)
  ∧ (∀ (l : List AlignSet) (s : State), l.all AlignSet.wf = true → s.linkState ≠ 2 → s.linkState ≠ 3 → exec (.partnerAlign l) s = .next s)
  ∧ (∀ (s : State), 2 ≤ s.linkState → s.linkState ≤ 4 → ∃ t, exec .partnerTrainTimeout s = .next t
    ∧ LinkIn 1 (State.setP { s with mw := { s.mw with link := s.mw.link.forgotten } } P.PT_PARTNER_SERIAL 0 0) t)
  ∧ (∀ (s : State), (s.linkState < 2 ∨ 4 < s.linkState) → exec .partnerTrainTimeout s = .next s)
  ∧ (∀ (p : TilePkt) (s : State), p.soundPartner 1 32 → s.linkHears = true → s.linkState = 4 → byteAt p.payload 14 = 1 → byteAt p.payload 12 ≠ s.mw.link.role →
    (s.mw.link.want = 0 ∨ s.mw.link.want = fieldAt p.payload 0 8) →
    (s.mw.link.probesDone < 16 → ∃ t, exec (.pIdentity p) s = .next t ∧ t.getP P.PT_PARTNER_SERIAL 0 = fieldAt p.payload 0 8
      ∧ SameParams [pkey P.PT_PARTNER_SERIAL 0] s t ∧ t = { s with
        now := max s.now p.time, params := t.params, mw := { s.mw with link := { s.mw.link with
          peer := some (fieldAt p.payload 0 8, fieldAt p.payload 8 4, byteAt p.payload 12) } } })
    ∧ (16 ≤ s.mw.link.probesDone → s.mw.link.role = 0 → ∃ t, exec (.pIdentity p) s = .next t ∧ t.linkState = 5 ∧ t.getP P.PT_WIDTH 0 = s.mw.link.width
      ∧ t.getP P.PT_PARTNER_SERIAL 0 = fieldAt p.payload 0 8 ∧ (t.partner linkId).present = true ∧ (t.partner linkId).reported = false
      ∧ (∀ q, partnerKey q ≠ partnerKey linkId → t.partner q = s.partner q) ∧ (∀ k, k < 1160 ∨ 1168 ≤ k → t.lane k = s.lane k)
      ∧ SameParams [pkey P.PT_PARTNER_SERIAL 0, pkey P.PT_STATE 0, pkey P.PT_WIDTH 0] s t
      ∧ EventsOnly { s with
        now := max s.now p.time, params := t.params, mw := { s.mw with link := t.mw.link }, ln := { s.ln with lanes := t.ln.lanes }
        ctl := { s.ctl with partners := t.ctl.partners } } t))
  ∧ (∀ (p : TilePkt) (s : State), p.soundPartner 1 32 → s.linkHears = true → s.linkState = 4 → byteAt p.payload 14 ≠ 1 → ∃ t, exec (.pIdentity p) s = .next t
    ∧ LinkIn 1 (State.setP { s with now := max s.now p.time, mw := { s.mw with link := s.mw.link.forgotten } } P.PT_PARTNER_SERIAL 0 0) t)
  ∧ (∀ (q d3 t : Nat) (s : State), d3 < 256 → q + d3 = 255 → s.linkHears = true → (s.linkState = 4 ∨ s.linkState = 5) →
    exec (.partnerProbe q 0 d3 t) s = .next { s with now := max s.now (t + 100), sent := .partnerSet 6 q 1 (255 - q) :: s.sent })
  ∧ (∀ (q d2 d3 t : Nat) (s : State), q < 65536 → d2 < 256 → d3 < 256 → (d2 ≠ 0 ∨ q + d3 ≠ 255 ∨ s.linkHears = false ∨ s.linkState < 4 ∨ 5 < s.linkState) →
    exec (.partnerProbe q d2 d3 t) s = .next (s.atLeast t))

/-- Heartbeats, PMARK, and the packets of paired loops (07_midway.md) -/
def Obligations.PartnersKeepTimeAndLoops : Prop :=
  (∀ (p : TilePkt) (s : State), ∀ i ∈ [(1, Instr.pIdentity p), (2, .pHeartbeat p), (3, .pLoop p), (4, .pHandover p), (5, .pTile p)], i.2.wellFormed = true →
    (tileFaulty i.1 p = true ∨ crc32c p.payload ≠ p.crc ∨ s.linkHears = false ∨ s.linkState < 4 ∨ 5 < s.linkState) → exec i.2 s = .next (s.atLeast p.time))
  ∧ (∀ (p : TilePkt) (e : Nat) (s : State), p.soundPartner 2 8 → s.linkHears = true → s.linkState = 5 → s.mw.link.hbNext = some e → e < 65536 → ∃ t, exec (.pHeartbeat p) s = .next t
    ∧ t.getP P.PT_HEARTBEAT_LOST 0 = min (s.getP P.PT_HEARTBEAT_LOST 0 + (fieldAt p.payload 4 2 + 65536 - e) % 65536) (2 ^ 32 - 1)
    ∧ SameParams [pkey P.PT_HEARTBEAT_LOST 0] s t ∧ t = { s with
        now := max s.now p.time, params := t.params
        ring := { s.ring with tag := if s.mw.link.role = 1 then fieldAt p.payload 0 4 else s.ring.tag }
        mw := { s.mw with link := { s.mw.link with lastHb := max s.now p.time, hbNext := some ((fieldAt p.payload 4 2 + 1) % 65536) } } })
  ∧ (∀ (s : State), s.linkState = 5 → s.quietEnd = none → exec .pHeartbeatSend s = .next { s with
      mw := { s.mw with link := { s.mw.link with hbSeq := (s.mw.link.hbSeq + 1) % 65536 } }
      sent := .partnerPkt (tileHdr 2 0 0 8 0 0) (withCrc (leBytes (s.ring.tag + at' 32 s.mw.link.hbSeq) 8)) :: s.sent })
  ∧ (∀ (s : State), (s.linkState ≠ 5 ∨ s.quietEnd ≠ none) → exec .pHeartbeatSend s = .next s ∧ exec .partnerHeartbeatTimeout s = .next s)
  ∧ (∀ (s : State), s.linkState = 5 → s.quietEnd = none → s.mw.link.role ≠ 1 → (s.partner linkId).present = true → ∃ t, exec .partnerHeartbeatTimeout s = .next t ∧ t.linkState = 1
    ∧ t.getP P.PT_WIDTH 0 = 0 ∧ t.getP P.PT_PARTNER_SERIAL 0 = 0 ∧ t.mw.link = s.mw.link.forgotten.aligned ∧ t.sent = (linkAligns s.mw.link.forgotten).reverse ++ s.sent ∧ (t.partner linkId).present = false
    ∧ (∀ q, partnerKey q ≠ partnerKey linkId → t.partner q = s.partner q) ∧ (∀ k, k < 1160 ∨ 1168 ≤ k → t.lane k = s.lane k)
    ∧ SameParams [pkey P.PT_PARTNER_SERIAL 0, pkey P.PT_STATE 0, pkey P.PT_WIDTH 0] s t
    ∧ EventsOnly { s with
        params := t.params, mw := { s.mw with link := t.mw.link }, ln := { s.ln with lanes := t.ln.lanes }, sent := t.sent
        ctl := { s.ctl with partners := t.ctl.partners } } t)
  ∧ (∀ (t d1 d2 d3 : Nat) (s : State), d1 + d3 = 255 → d2 < 256 → s.linkHears = true → s.partnerTiming = true → s.getP P.RM_STATE 0 = 1 → s.ring.prevEdge = none →
    ∃ u, exec (.pmark t d1 d2 d3) s = .next u ∧ u.ring = { s.ring with prevEdge := some ((t - s.getP P.PT_LINK_DELAY 0) * 65536) }
      ∧ u.getP P.PT_TIME_ERR 0 = s.getP P.RM_PHASE_ERR 0 ∧ SameParams [pkey P.PT_TIME_ERR 0] s u ∧ u = { s with now := max s.now t, ring := u.ring, params := u.params })
  ∧ (∀ (t d1 d2 d3 : Nat) (s : State), d1 < 256 → d2 < 256 → d3 < 256 → (s.partnerTiming = false ∨ s.linkHears = false ∨ d1 + d3 ≠ 255) → exec (.pmark t d1 d2 d3) s = .next (s.atLeast t))
  ∧ (∀ (p : TilePkt) (l : Nat) (s : State), p.soundPartner 3 16 → s.linkHears = true → s.linkState = 5 → s.mw.link.role = 0 → (s.loop (fieldAt p.payload 0 2)).yields = false → l = fieldAt p.payload 0 2 → l < 512 → s.dirMode l = 3 → s.dirFeeder l = 0 →
    ∃ t, exec (.pLoop p) s = .next t ∧ (t.loop l).peer = (byteAt p.payload 2, byteAt p.payload 3, byteAt p.payload 4, byteAt p.payload 5, fieldAt p.payload 8 4)
      ∧ (t.loop l).b = { (s.loop l).b with reach := byteAt p.payload 3, found := byteAt p.payload 4, done := true } ∧ (t.loop l).a = (s.loop l).a
      ∧ (ServiceCond.pairMismatch l ∈ t.ctl.service ↔ fieldAt p.payload 8 4 ≠ s.loopDigest l) ∧ LoopOnly l (s.atLeast p.time) t)
  ∧ (∀ (p : TilePkt) (l : Nat) (s : State), p.soundPartner 4 12 → s.linkHears = true → s.linkState = 5 → l = fieldAt p.payload 0 2 → l < 512 → s.dirMode l = 3 → byteAt p.payload 2 = 0 →
    (∀ h, (s.loop l).handover = some h → exec (.pHandover p) s = .next { s with
      now := max s.now p.time
      sent := (s.atLeast p.time).held ((s.atLeast p.time).quietEnd.getD 0) (.partnerPkt (tileHdr 4 0 0 12 0 0)
        (withCrc (leBytes (l + at' 16 2 + at' 32 (fieldAt p.payload 4 4) + at' 64 (byteAt p.payload 9) + at' 72 (byteAt p.payload 8)) 12))) :: s.sent })
    ∧ ((s.loop l).handover = none → s.dirFeeder l = 0 → (s.loop l).yields = false → s.reachesAll l 0 = true → byteAt p.payload 9 ≠ 0 → s.loopCanvas l = none →
      ∃ t, exec (.pHandover p) s = .next t ∧ (t.loop l).handover = some { tag := none, reachA := byteAt p.payload 9, reachB := byteAt p.payload 8, kind := 2, ticket := none, reason := 4 }
        ∧ (t.loop l).a = { (s.loop l).a with starting := (s.loop l).a.starting || (s.loop l).a.reach == 0 } ∧ (t.loop l).b = (s.loop l).b
        ∧ t.sent = t.held (t.quietEnd.getD 0) (.partnerPkt (tileHdr 4 0 0 12 0 0) (withCrc (leBytes (l + at' 16 1 + at' 32 (fieldAt p.payload 4 4) + at' 64 (byteAt p.payload 9)
            + at' 72 (byteAt p.payload 8)) 12))) :: s.sent ∧ (∀ k, k ≠ l → t.loop k = s.loop k)
        ∧ t = { s with now := max s.now p.time, sent := t.sent, mw := { s.mw with loops := t.mw.loops } }))
  ∧ (∀ (p : TilePkt) (l h : Nat) (s : State), p.soundPartner 5 48 → s.linkHears = true → s.linkState = 5 → l = fieldAt p.payload 0 2 → l < 512 → s.dirMode l = 3 → h = byteAt p.payload 2 →
    1 ≤ h → h ≤ 32 → byteAt p.payload 3 = 1 → ∃ t, exec (.pTile p) s = .next t
      ∧ t.tile l h = { s.tile l h with status := (p.payload.drop 16).take 16, misses := 0, poll := none }
      ∧ (∀ k j, 1 ≤ j → k * 32 + j ≠ l * 32 + h → t.tile k j = s.tile k j) ∧ t = { s with now := max s.now p.time, mw := { s.mw with tiles := t.mw.tiles } })

/-- Symbol lock, its loss and its counters; SKIP; wake-up of a lane (08_serial_lanes.md) -/
def Obligations.LanesLockAndCount : Prop :=
  (∀ (k : Nat) (s : State), k < 1168 → (s.detects k = false → exec (.laneSignalDetect k) s = .next s)
    ∧ (s.detects k = true → ∃ t, exec (.laneSignalDetect k) s = .next t
        ∧ t.lane k = { s.lane k with signal := true, lock := if (s.lane k).lock = 0 ∧ (s.lane k).rx = 3 then 1 else (s.lane k).lock } ∧ LaneOnly k s t))
  ∧ (∀ (k : Nat) (s : State), k < 1168 → (s.lane k).lock ≠ 3 → exec (.laneCommaTimeout k) s = .next s
    ∧ ∃ t, exec (.laneSignalLoss k) s = .next t ∧ t.lane k = { s.lane k with signal := false } ∧ LaneOnly k s t)
  ∧ (∀ (k : Nat) (s : State), k < 1168 → (s.lane k).lock = 3 → ((s.lane k).measuring = true ∨ s.now < (s.lane k).winEnd) →
    ∃ t, exec (.laneSignalLoss k) s = .next t ∧ t.lane k = { s.lane k with signal := false, lock := 0, commas := 0, errs := 0, validRun := 0 } ∧ LaneOnly k s t)
  ∧ (∀ (k : Nat) (s : State), k < 1024 → s.portEnd k = none → (s.lane k).lock = 3 → (s.lane k).measuring = false → (s.lane k).winEnd ≤ s.now →
    (∃ t, exec (.laneSignalLoss k) s = .next t ∧ (t.lane k).signal = false ∧ LockLost k 0 s t) ∧ (∃ t, exec (.laneCommaTimeout k) s = .next t ∧ LockLost k 1 s t))
  ∧ (∀ (k p : Nat) (s : State), k < 1168 → p < 10 → (s.lane k).measuring = false →
    ((s.lane k).lock = 1 → ∃ t, exec (.laneComma k p) s = .next t ∧ t.lane k = { s.lane k with lock := 2, phase := p, commas := 1 } ∧ LaneOnly k s t)
    ∧ ((s.lane k).lock = 2 → (s.lane k).phase ≠ p → ∃ t, exec (.laneComma k p) s = .next t ∧ t.lane k = { s.lane k with lock := 1, commas := 0 } ∧ LaneOnly k s t)
    ∧ ((s.lane k).lock = 2 → (s.lane k).phase = p → (s.lane k).commas < 3 → ∃ t, exec (.laneComma k p) s = .next t
        ∧ t.lane k = { s.lane k with commas := (s.lane k).commas + 1 } ∧ LaneOnly k s t)
    ∧ ((s.lane k).lock = 2 → (s.lane k).phase = p → 3 ≤ (s.lane k).commas → (s.lane k).lost = false →
        ((s.lane k).adapted = true → ∃ t, exec (.laneComma k p) s = .next t ∧ t.lane k = { s.lane k with lock := 3, commas := 0, errs := 0, validRun := 0 }
          ∧ LaneOnly k s t)
        ∧ ((s.lane k).adapted = false → ∃ t, exec (.laneComma k p) s = .next t ∧ t.lane k = { s.lane k with
              lock := 3, commas := 0, errs := 0, validRun := 0, adapted := true, ctle := (t.lane k).ctle, taps := (t.lane k).taps }
          ∧ LaneOnly k { s with free := s.free + 1 } t)))
  ∧ (∀ (k p : Nat) (s : State), k < 1168 → p < 10 → ((s.lane k).measuring = true ∨ (s.lane k).lock = 0 ∨ (s.lane k).lock = 3) → exec (.laneComma k p) s = .next s)
  ∧ (∀ (k g h : Nat) (r : List Nat) (s : State), k < 1168 → g < 1024 → h < 1024 → (∀ x ∈ r, x < 1024) →
    ∃ t, exec (.laneInvalidSymbol k [] g) s = .next t ∧ exec (.laneInvalidSymbol k (g :: r) h) s = exec (.laneInvalidSymbol k r h) t)
  ∧ (∀ (k h : Nat) (g : List Nat) (s : State), k < 1168 → h < 1024 → (∀ x ∈ g, x < 1024) → ((s.lane k).lock < 2 ∨ (s.lane k).measuring = true) →
    exec (.laneInvalidSymbol k g h) s = .next s)
  ∧ (∀ (k g : Nat) (s : State), k < 1168 → g < 1024 → (s.lane k).measuring = false → 2 ≤ (s.lane k).lock →
    (checkGroup g (s.lane k).rd = .valid → ∃ t, exec (.laneInvalidSymbol k [] g) s = .next t ∧ t.lane k = { s.lane k with
          rd := rdGroup g (s.lane k).rd, validRun := if 15 ≤ (s.lane k).validRun then 0 else (s.lane k).validRun + 1
          errs := if 15 ≤ (s.lane k).validRun then (s.lane k).errs - 1 else (s.lane k).errs } ∧ LaneOnly k s t)
    ∧ (checkGroup g (s.lane k).rd ≠ .valid → ((s.lane k).lock = 2 ∨ (s.lane k).lock = 3 ∧ (s.lane k).errs < 3) →
      ∃ t, exec (.laneInvalidSymbol k [] g) s = .next t ∧ (t.lane k).rd = rdGroup g (s.lane k).rd ∧ (t.lane k).validRun = 0
        ∧ (t.lane k).lock = (if (s.lane k).lock = 2 then 1 else 3) ∧ ((s.lane k).lock = 2 → (t.lane k).commas = 0)
        ∧ ((s.lane k).lock = 3 → (t.lane k).errs = (s.lane k).errs + 1)
        ∧ (t.lane k).disparity = (if checkGroup g (s.lane k).rd = .disparity then min ((s.lane k).disparity + 1) (2 ^ 32 - 1) else (s.lane k).disparity)
        ∧ (t.lane k).violations = (if checkGroup g (s.lane k).rd = .disparity then (s.lane k).violations else min ((s.lane k).violations + 1) (2 ^ 32 - 1))
        ∧ LaneOnly k s t)
    ∧ (checkGroup g (s.lane k).rd ≠ .valid → (s.lane k).lock = 3 → 3 ≤ (s.lane k).errs → k < 1024 → s.portEnd k = none → (s.lane k).winEnd ≤ s.now →
        ∃ t, exec (.laneInvalidSymbol k [] g) s = .next t ∧ LockLost k 1 s t))
  ∧ (∀ (k v d1 d2 d3 : Nat) (drift : Int) (s : State), k < 1024 → d1 < 256 → d2 < 256 → d3 < 256 →
    (s.hears k = false → exec (.skipReceived k drift d1 d2 d3) s = .next s)
    ∧ (s.hears k = true → (v : Int) = (s.lane k).fill + drift → 1 ≤ v → v ≤ 16 → ∃ t, exec (.skipReceived k drift d1 d2 d3) s = .next t ∧ t.lane k = { s.lane k with
          fill := if 10 ≤ v then v - 4 else if v ≤ 6 then v + 4 else v, fillClear := false, fillMin := (t.lane k).fillMin, fillMax := (t.lane k).fillMax
          skipErr := if d1 = 0x5A ∧ d2 = 0xA5 ∧ d3 = 0x5A then (s.lane k).skipErr else min ((s.lane k).skipErr + 1) (2 ^ 32 - 1)
          skipDel := if 10 ≤ v then min ((s.lane k).skipDel + 1) (2 ^ 32 - 1) else (s.lane k).skipDel
          skipIns := if v ≤ 6 then min ((s.lane k).skipIns + 1) (2 ^ 32 - 1) else (s.lane k).skipIns } ∧ LaneOnly k s t
        ∧ (t.lane k).fillMin = min (if (s.lane k).fillClear then v else min (s.lane k).fillMin v) (t.lane k).fill
        ∧ (t.lane k).fillMax = max (if (s.lane k).fillClear then v else max (s.lane k).fillMax v) (t.lane k).fill)
    ∧ (s.hears k = true → (((s.lane k).fill : Int) + drift ≤ 0 ∨ 16 < ((s.lane k).fill : Int) + drift) → s.portEnd k = none → (s.lane k).winEnd ≤ s.now →
        ∃ t, exec (.skipReceived k drift d1 d2 d3) s = .next t ∧ (t.lane k).elastic = min ((s.lane k).elastic + 1) (2 ^ 32 - 1) ∧ (t.lane k).fill = 8
          ∧ LockLost k 1 s t))
  ∧ (∀ (k : Nat) (s : State), k < 1168 → ((s.lane k).tx ≠ 3 → exec (.skipSend k) s = .next s)
    ∧ ((s.lane k).tx = 3 → exec (.skipSend k) s = .next { s with
        sent := (((s.bonded k).1.filter fun j => (s.lane j).tx == 3).map fun j => Tx.lane j 0 0x5A 0xA5 0x5A).reverse ++ s.sent }))
  ∧ (∀ (k : Nat) (s : State), k < 1168 →
    ((s.laneWanted k).1 ≤ (s.lane k).tx → exec (.laneWakeDone k true) s = .next s) ∧ ((s.laneWanted k).2 ≤ (s.lane k).rx → exec (.laneWakeDone k false) s = .next s)
    ∧ ((s.lane k).tx < (s.laneWanted k).1 →
      ((s.lane k).tx ≠ 1 → ∃ t, exec (.laneWakeDone k true) s = .next t ∧ t.lane k = { s.lane k with tx := (s.laneWanted k).1 } ∧ LaneOnly k s t)
      ∧ ((s.lane k).tx = 1 → ∃ t, exec (.laneWakeDone k true) s = .next t ∧ t.lane k = { s.lane k with
          tx := (s.laneWanted k).1, calTime := s.now, corr := (t.lane k).corr, corrOld := (s.lane k).corr } ∧ LaneOnly k { s with free := s.free + 1 } t))
    ∧ ((s.lane k).rx < (s.laneWanted k).2 → ∃ n, n = (if (s.lane k).lock = 0 ∧ (s.lane k).signal = true ∧ (s.laneWanted k).2 = 3 then 1 else (s.lane k).lock)
      ∧ ((s.lane k).rx ≠ 1 → ∃ t, exec (.laneWakeDone k false) s = .next t ∧ t.lane k = { s.lane k with rx := (s.laneWanted k).2, rd := false, lock := n }
        ∧ LaneOnly k s t)
      ∧ ((s.lane k).rx = 1 → ∃ t, exec (.laneWakeDone k false) s = .next t ∧ t.lane k = { s.lane k with
          rx := (s.laneWanted k).2, rd := false, lock := n, calTime := s.now, corr := (t.lane k).corr, corrOld := (s.lane k).corr }
        ∧ LaneOnly k { s with free := s.free + 1 } t)))

/-- The figure of merit, the lane monitor and EYE_SCAN (08_serial_lanes.md) -/
def Obligations.LaneQualityIsMeasured : Prop :=
  (∀ (k a d : Nat) (s : State), k < 1168 → ((s.lane k).lock ≠ 3 → exec (.fomWindow k a d) s = .next s)
    ∧ ((s.lane k).lock = 3 → a ≠ 0 → ∃ t, exec (.fomWindow k a d) s = .next t ∧ ((t.lane k).fom : Int) = clampI 0 255 (256 * ((a : Int) - 6 * d) / a)
        ∧ t.lane k = { s.lane k with fom := (t.lane k).fom, fomLow := some (min (t.lane k).fom ((s.lane k).fomLow.getD 255)), ctle := (t.lane k).ctle, taps := (t.lane k).taps }
        ∧ LaneOnly k { s with free := s.free + 1 } t)
    ∧ ((s.lane k).lock = 3 → a = 0 → ∃ t, exec (.fomWindow k a d) s = .next t ∧ (t.lane k).fom < 256
        ∧ t.lane k = { s.lane k with fom := (t.lane k).fom, fomLow := some (min (t.lane k).fom ((s.lane k).fomLow.getD 255)), ctle := (t.lane k).ctle, taps := (t.lane k).taps }
        ∧ LaneOnly k { s with free := s.free + 1 } t))
  ∧ (∀ (g : Nat) (l : List (Nat × Nat)) (s : State), g < 28 → (∀ k ∈ groupLanes g, (s.lane k).lock ≠ 3) → exec (.laneMonitor g l) s = .next s)
  ∧ (∀ (g k q : Nat) (l : List (Nat × Nat)) (s : State), g < 28 → k ∈ groupLanes g → (s.lane k).lock = 3 → (∀ j ∈ groupLanes g, j ≠ k → (s.lane j).lock ≠ 3) →
    s.getP P.LN_MEASURE g = 0 → (s.lane k).fomLow = some q → (s.lane k).low = false →
    (s.getP P.LN_QUALITY_MIN g ≤ q → ∃ t, exec (.laneMonitor g l) s = .next t ∧ t.lane k = { s.lane k with quality := q, fomLow := none }
      ∧ t.getP P.LN_WORST g = q + at' 16 k ∧ SameParams [pkey P.LN_WORST g] s t ∧ LaneOnly k { s with params := t.params } t)
    ∧ (q < s.getP P.LN_QUALITY_MIN g → s.getP P.LN_CAL_ENABLE g = 1 → s.getP P.LN_CAL_STATE g = 0 → ∃ t, exec (.laneMonitor g l) s = .next t
      ∧ t.lane k = { s.lane k with quality := q, fomLow := none, low := true } ∧ t.getP P.LN_CAL_STATE g = 1 ∧ (t.laneGroup g).reason = 2
      ∧ t.getP P.LN_WORST g = q + at' 16 k ∧ SameParams [pkey P.LN_WORST g, pkey P.LN_CAL_STATE g] s t ∧ (∀ j, j ≠ k → t.lane j = s.lane j)
      ∧ (∀ h, h ≠ g → t.laneGroup h = s.laneGroup h) ∧ t.ln.scans = s.ln.scans ∧ EventsOnly { s with params := t.params, ln := t.ln } t))
  ∧ (∀ (c : Cmd) (s : State), s.accepts false 0x0503 c → c.operands 20 0xFFFFFF0000000000 → c.f 0 16 < 1168 → c.f 16 8 ∈ [1, 2, 4, 8, 16] → 1 ≤ c.f 24 8 →
    c.f 24 8 ≤ 127 → 20 ≤ c.f 32 8 → c.f 32 8 ≤ 36 → c.f 64 64 ≠ 0 → c.f 64 64 % 64 = 0 → 32 + 8 * scanPoints (c.f 16 8) (c.f 24 8) ≤ c.f 128 32 →
    ((s.lane (c.f 0 16)).lock ≠ 3 → ∃ t, exec (.eyeScan c) s = .next t ∧ Answered 0x0503 c 0x49 0 0 t ∧ CommandOnly c s t)
    ∧ ((s.lane (c.f 0 16)).lock = 3 → 4 ≤ s.ln.scans.length → ∃ t, exec (.eyeScan c) s = .next t ∧ Answered 0x0503 c 6 0 0 t ∧ CommandOnly c s t)
    ∧ ((s.lane (c.f 0 16)).lock = 3 → s.ln.scans.length < 4 → ∃ t, exec (.eyeScan c) s = .next t ∧ Waits 0x0503 c (State.setP { s with ln := { s.ln with
        scans := s.ln.scans ++ [{ lane := c.f 0 16, h := c.f 16 8, v := c.f 24 8, d := c.f 32 8, host := c.f 64 64, ticket := s.newTicket, start := s.now }] } }
      P.LN_SCANS_ACTIVE 0 (s.ln.scans.length + 1)) t))
  ∧ (∀ (c : Cmd) (s : State), s.accepts false 0x0503 c → c.operands 20 0xFFFFFF0000000000 → (1168 ≤ c.f 0 16 ∨ c.f 16 8 ∉ [1, 2, 4, 8, 16] ∨ c.f 24 8 = 0
      ∨ 127 < c.f 24 8 ∨ c.f 32 8 < 20 ∨ 36 < c.f 32 8 ∨ c.f 64 64 = 0 ∨ c.f 64 64 % 64 ≠ 0) →
    ∃ t, exec (.eyeScan c) s = .next t ∧ Answered 0x0503 c 4 0 0 t ∧ CommandOnly c s t)
  ∧ (∀ (k t : Nat) (a : Bool) (l : List (Nat × Nat)) (s : State), k < 1168 → (∀ e ∈ s.ln.scans, e.lane ≠ k) → exec (.eyeScanDone k a l t) s = .next (s.atLeast t))
  ∧ (∀ (k t : Nat) (e : EyeScan) (l : List (Nat × Nat)) (g : Flight) (s : State), k < 1168 → (s.ln.scans.find? fun e => e.lane == k) = some e →
    s.awaits e.ticket g →
    (∃ u, exec (.eyeScanDone k true l t) s = .next u ∧ Answered g.opcode g.cmd 0x0B 0 0 u ∧ u.ln.scans = s.ln.scans.filter (· != e)
      ∧ u.getP P.LN_SCANS_ACTIVE 0 = u.ln.scans.length ∧ SameParams [pkey P.LN_SCANS_ACTIVE 0] s u
      ∧ RepliedEvents g { s with now := max s.now t, params := u.params, ln := { s.ln with scans := u.ln.scans } } u)
    ∧ ((∀ w, (s.win w).mask.testBit 0x64 = false) → s.hostGood (e.host + 32) (8 * scanPoints e.h e.v) = 8 * scanPoints e.h e.v → s.hostGood e.host 32 = 32 →
      ∃ u, exec (.eyeScanDone k false l t) s = .next u
        ∧ Answered g.opcode g.cmd 0 5 (32 + 8 * scanPoints e.h e.v + at' 32 (min (innerEye e.h e.v l).1 254)) u ∧ u.ln.scans = s.ln.scans.filter (· != e)
        ∧ (∀ i, i < scanPoints e.h e.v → takeBytes zeroByte u.ctl.hostMem (e.host + 32 + 8 * i) 4 = leBytes (min (l.getD i (0, 0)).1 0xFFFFFFFF) 4)
        ∧ takeBytes zeroByte u.ctl.hostMem e.host 2 = leBytes (k + 1) 2
        ∧ (∀ b, (b < e.host ∨ e.host + 32 + 8 * scanPoints e.h e.v ≤ b) → SMap.get zeroByte u.ctl.hostMem b = SMap.get zeroByte s.ctl.hostMem b)
        ∧ SameParams [pkey P.LN_SCANS_ACTIVE 0] s u ∧ RepliedEvents g { s with now := max s.now t, params := u.params, ln := { s.ln with scans := u.ln.scans } } u))

/-- Calibration: a due group starts, is measured, ends; it is deferred; LANE_CALIBRATE (08_serial_lanes.md) -/
def Obligations.GroupsAreCalibrated : Prop :=
  (∀ (s : State), (s.getP P.LN_CAL_PARALLEL 0 ≤ ((List.range 28).filter fun g => s.getP P.LN_CAL_STATE g == 2).length
      ∨ ∀ g, g < 28 → s.getP P.LN_CAL_STATE g ≠ 1 ∧ (s.getP P.LN_CAL_STATE g ≠ 3 ∨ s.runFits g = false)) → exec .calibrationStart s = .next s)
  ∧ (∀ (g : Nat) (s : State), g < 28 → ((List.range 28).filter fun g => s.getP P.LN_CAL_STATE g == 2).length < s.getP P.LN_CAL_PARALLEL 0 →
    s.getP P.LN_CAL_STATE g = 1 → (∀ h, h < g → s.getP P.LN_CAL_STATE h ≠ 1 ∧ (s.getP P.LN_CAL_STATE h ≠ 3 ∨ s.runFits h = false)) →
    (s.runFits g = false → ∃ t, exec .calibrationStart s = .next t ∧ t.getP P.LN_CAL_STATE g = 3 ∧ SameParams [pkey P.LN_CAL_STATE g] s t
      ∧ EventsOnly { s with params := t.params } t)
    ∧ (24 ≤ g → s.runFits g = true → (∀ k ∈ groupLanes g, ¬((s.lane k).tx = 1 ∧ (s.lane k).rx = 1) ∧ s.laneTraffic k = false) →
      (∀ e ∈ s.ln.scans, e.lane ∉ groupLanes g) → ∃ t r, exec .calibrationStart s = .next t ∧ t.getP P.LN_CAL_STATE g = 2 ∧ SameParams [pkey P.LN_CAL_STATE g] s t
        ∧ (t.laneGroup g).run = some r ∧ r.reason = (s.laneGroup g).reason ∧ r.start = s.now ∧ r.temp = s.groupTemp g ∧ r.done = 0
        ∧ r.todo = (groupLanes g).map (fun k => { lane := k, method := 2 }) ∧ (∀ k ∈ groupLanes g, t.lane k = { s.lane k with measuring := true })
        ∧ (∀ k, k ∉ groupLanes g → t.lane k = s.lane k) ∧ (∀ h, h ≠ g → t.laneGroup h = s.laneGroup h)
        ∧ t = { s with params := t.params, ln := { s.ln with lanes := t.ln.lanes, groups := t.ln.groups } }))
  ∧ (∀ (g k q : Nat) (r : CalRun) (x : CalLane) (s : State), k < 1168 → g = laneGroupOf k → 24 ≤ g → (s.laneGroup g).run = some r →
    (r.todo.find? fun c => c.lane == k && c.method != 1) = some x → (s.lane k).measuring = true → r.restore = [] → x.method = 2 →
    ((r.todo.filter fun c => c.lane != k) ≠ [] → ∃ t, exec (.calMeasureDone k q) s = .next t
      ∧ t.lane k = { (s.lane k).relock with measuring := false, calTime := s.now, quality := q, corr := (t.lane k).corr, corrOld := (s.lane k).corr }
      ∧ (∃ r1, (t.laneGroup g).run = some r1 ∧ r1.done = r.done + 1 ∧ r1.worst = min r.worst q ∧ r1.todo = r.todo.filter fun c => c.lane != k)
      ∧ (∀ j, j ≠ k → t.lane j = s.lane j) ∧ (∀ h, h ≠ g → t.laneGroup h = s.laneGroup h) ∧ t = { s with free := s.free + 1, ln := { s.ln with lanes := t.ln.lanes, groups := t.ln.groups } })
    ∧ ((r.todo.filter fun c => c.lane != k) = [] → (s.laneGroup g).tickets = [] → (s.laneGroup g).again = none → ((s.lane k).quality ≤ q + 16 ∨ s.getP P.LN_QUALITY_MIN g ≤ q) →
      (s.groupTemp g - r.temp).natAbs ≤ s.getP P.LN_CAL_DELTA g * 16 →
      ∃ t, exec (.calMeasureDone k q) s = .next t ∧ t.lane k = { (s.lane k).relock with
          measuring := false, calTime := s.now, quality := q, corr := (t.lane k).corr, corrOld := (s.lane k).corr }
        ∧ (t.laneGroup g).run = none ∧ t.getP P.LN_CAL_STATE g = 0 ∧ t.getP P.LN_CAL_LAST g = s.now ∧ t.getP P.LN_CAL_TEMP g = toU64 r.temp
        ∧ t.getP P.LN_CAL_RUNS g = (s.getP P.LN_CAL_RUNS g + 1) % 2 ^ 32 ∧ ServiceCond.calDeferred g ∉ t.ctl.service
        ∧ SameParams [pkey P.LN_CAL_STATE g, pkey P.LN_CAL_LAST g, pkey P.LN_CAL_TEMP g, pkey P.LN_CAL_RUNS g] s t
        ∧ (∀ j, j ≠ k → t.lane j = s.lane j) ∧ (∀ h, h ≠ g → t.laneGroup h = s.laneGroup h)
        ∧ EventsOnly { s with
            free := s.free + 1, params := t.params, ln := { s.ln with lanes := t.ln.lanes, groups := t.ln.groups }
            ctl := { s.ctl with service := t.ctl.service } } t))
  ∧ (∀ (g k q w : Nat) (l : List (Nat × Nat)) (s : State), (k < 1168 → (s.laneGroup (laneGroupOf k)).run = none → exec (.calMeasureDone k q) s = .next s)
    ∧ (g < 28 → (s.laneGroup g).run = none → exec (.calWindow g ⟨w, l⟩) s = .next (s.atLeast w)))
  ∧ (∀ (g w : Nat) (l : List (Nat × Nat)) (r : CalRun) (x : CalLane) (s : State), 24 ≤ g → g < 28 → (s.laneGroup g).run = some r → r.todo = [x] → x.method = 1 →
    r.restore = [] → x.slices < 8 → (∀ e ∈ s.ln.scans, e.lane ≠ x.lane) → 1024 ≤ x.lane →
    ((s.atLeast w).windowOpen x.lane = false → exec (.calWindow g ⟨w, l⟩) s = .next (s.atLeast w))
    ∧ ((s.atLeast w).windowOpen x.lane = true → ∃ t, exec (.calWindow g ⟨w, l⟩) s = .next t
      ∧ t.laneGroup g = { s.laneGroup g with run := some { r with todo := [{ x with slices := x.slices + 1 }] }, winEnd := max s.now w + 16000 }
      ∧ t.lane x.lane = { (s.lane x.lane).relock with winEnd := max s.now w + 16000 } ∧ (∀ k, k ≠ x.lane → t.lane k = s.lane k)
      ∧ (∀ h, h ≠ g → t.laneGroup h = s.laneGroup h) ∧ t = { s with now := max s.now w, ln := { s.ln with lanes := t.ln.lanes, groups := t.ln.groups } }))
  ∧ (∀ (g : Nat) (s : State), g < 28 → s.getP P.LN_CAL_STATE g = 0 → exec (.calDeferLimit g) s = .next s)
  ∧ (∀ (g tk : Nat) (f : Flight) (s : State), g < 28 → s.getP P.LN_CAL_STATE g ≠ 0 → (s.laneGroup g).tickets = [tk] →
    s.awaits tk f → ∃ t, exec (.calDeferLimit g) s = .next t ∧ Answered f.opcode f.cmd 9 0 0 t ∧ ServiceCond.calDeferred g ∈ t.ctl.service
      ∧ (t.laneGroup g).tickets = [] ∧ (∀ h, h ≠ g → t.laneGroup h = s.laneGroup h)
      ∧ RepliedEvents f { s with ln := { s.ln with groups := t.ln.groups }, ctl := { s.ctl with service := t.ctl.service } } t)
  ∧ (∀ (c : Cmd) (s : State), s.accepts false 0x0502 c → c.operands 4 0xFFFFFE00 →
    (28 ≤ c.f 0 8 → ∃ t, exec (.laneCalibrate c) s = .next t ∧ Answered 0x0502 c 4 0 0 t ∧ CommandOnly c s t)
    ∧ (c.f 0 8 < 28 → s.getP P.LN_CAL_STATE (c.f 0 8) = 2 → ∃ t, exec (.laneCalibrate c) s = .next t ∧ Answered 0x0502 c 2 0 0 t ∧ CommandOnly c s t)
    ∧ (c.f 0 8 < 28 → s.getP P.LN_CAL_STATE (c.f 0 8) ≠ 2 → ∃ t, exec (.laneCalibrate c) s = .next t
      ∧ Waits 0x0502 c ((s.setP P.LN_CAL_STATE (c.f 0 8) 1).modLaneGroup (c.f 0 8) fun y => { y with
          reason := 1, windowsOnly := c.ops.testBit 8, tickets := y.tickets ++ [s.newTicket] }) t))

/-- LANE_STATUS, PATTERN_SET, PATTERN_STATUS, LANE_INJECT, LANE_TX_SET, and pattern synchronisation (08_serial_lanes.md) -/
def Obligations.LaneCommandsAndPatterns : Prop :=
  (∀ (c : Cmd) (k n : Nat) (s : State), s.accepts false 0x0501 c → c.operands 4 0xFE000000 → k = c.f 0 16 → n = c.f 16 8 →
    ((n = 0 ∨ 5 < n ∨ 1168 < k + n) → ∃ t, exec (.laneStatus c) s = .next t ∧ Answered 0x0501 c 4 0 0 t ∧ CommandOnly c s t)
    ∧ (1 ≤ n → n ≤ 5 → k + n ≤ 1168 → (∀ i, i < n → s.laneRecord (k + i) < 2 ^ 384) → ∃ t r, exec (.laneStatus c) s = .next t ∧ Answered 0x0501 c 0 (48 * n) r t
      ∧ (∀ i, i < n → r / 2 ^ (384 * i) % 2 ^ 384 = s.laneRecord (k + i)) ∧ (c.ops.testBit 24 = false → CommandOnly c s t)
      ∧ (c.ops.testBit 24 = true → (∀ i, i < n → t.lane (k + i) = { s.lane (k + i) with
            fillMin := 0, fillMax := 0, fillClear := true, violations := 0, disparity := 0, losses := 0, skipIns := 0, skipDel := 0, skipErr := 0, elastic := 0 })
          ∧ (∀ j, (j < k ∨ k + n ≤ j) → t.lane j = s.lane j) ∧ CommandOnly c { s with ln := { s.ln with lanes := t.ln.lanes } } t)))
  ∧ (∀ (k : Nat) (s : State), k < 1168 → (s.lane k).tx < 4 → (s.lane k).rx < 4 → (s.lane k).lock < 4 → (s.lane k).measuring = false → (s.lane k).gen = 0 →
    (s.lane k).chk = 0 → s.laneRecord k % 2 ^ 16 = k ∧ s.laneRecord k / 2 ^ 16 % 2 ^ 8 = (s.lane k).tx ∧ s.laneRecord k / 2 ^ 24 % 2 ^ 8 = (s.lane k).rx
      ∧ s.laneRecord k / 2 ^ 32 % 2 ^ 8 = (s.lane k).lock)
  ∧ (∀ (c : Cmd) (k : Nat) (s : State), s.accepts false 0x0504 c → c.operands 12 0xFFFFFF0000000000FC880000 → k = c.f 0 16 →
    ((1168 ≤ k ∨ 4 < c.f 16 3 ∨ 4 < c.f 20 3 ∨ 1 < c.f 24 2) → ∃ t, exec (.patternSet c) s = .next t ∧ Answered 0x0504 c 4 0 0 t ∧ CommandOnly c s t)
    ∧ (k < 1168 → c.f 16 3 ≤ 4 → c.f 20 3 ≤ 4 → c.f 24 2 ≤ 1 →
      (s.laneInUse k = true → s.getP P.LN_CAL_STATE (laneGroupOf k) ≠ 2 → ∃ t, exec (.patternSet c) s = .next t ∧ Answered 0x0504 c 0x48 0 0 t ∧ CommandOnly c s t)
      ∧ (s.getP P.LN_CAL_STATE (laneGroupOf k) = 2 → ∃ t, exec (.patternSet c) s = .next t ∧ Answered 0x0504 c 2 0 0 t ∧ CommandOnly c s t)
      ∧ (s.laneInUse k = false → s.getP P.LN_CAL_STATE (laneGroupOf k) ≠ 2 → ∃ t, exec (.patternSet c) s = .next t ∧ Answered 0x0504 c 0 0 0 t
        ∧ CommandOnly c (s.modLane k fun y => { y with
            gen := c.f 16 3, chk := c.f 20 3, loopback := c.f 24 2, user := c.f 32 40, sync := false, compared := 0, errors := 0, syncLosses := 0, injected := 0
            pat := { out := if c.f 16 3 = 4 then 0 else 2 ^ 40 - 1 } }) t)))
  ∧ (∀ (c : Cmd) (k : Nat) (s : State), s.accepts false 0x0505 c → c.operands 4 0xFFFE0000 → k = c.f 0 16 →
    (1168 ≤ k → ∃ t, exec (.patternStatus c) s = .next t ∧ Answered 0x0505 c 4 0 0 t ∧ CommandOnly c s t)
    ∧ (k < 1168 → (s.lane k).chk < 2 ^ 24 → (s.lane k).compared < 2 ^ 64 → (s.lane k).errors < 2 ^ 32 → ∃ t r, exec (.patternStatus c) s = .next t
      ∧ Answered 0x0505 c 0 24 r t ∧ r % 2 ^ 8 = b2n (s.lane k).sync ∧ r / 2 ^ 32 % 2 ^ 64 = (s.lane k).compared ∧ r / 2 ^ 96 % 2 ^ 32 = (s.lane k).errors
      ∧ (c.ops.testBit 16 = false → CommandOnly c s t)
      ∧ (c.ops.testBit 16 = true → CommandOnly c (s.modLane k fun y => { y with compared := 0, errors := 0, syncLosses := 0, injected := 0 }) t)))
  ∧ (∀ (k : Nat) (b : Bool) (l r : List Bool) (s : State), k < 1168 → (s.lane k).chk = 0 → exec (.patternSync k l b r) s = .next s)
  ∧ (∀ (k : Nat) (b w : Bool) (s : State), k < 1168 → (s.lane k).chk ≠ 0 → (s.lane k).loopback ≠ 1 →
    w = patternBit (s.lane k).chk (s.lane k).user (s.lane k).pat.ref →
    ((s.lane k).sync = true → popcount ((2 * (s.lane k).pat.hist + b2n (w != b)) % 2 ^ 128) 128 < 32 → ∃ t, exec (.patternSync k [] b []) s = .next t
      ∧ t.lane k = { s.lane k with
          compared := ((s.lane k).compared + 1) % 2 ^ 64, errors := min ((s.lane k).errors + b2n (w != b)) (2 ^ 32 - 1), pat := { (s.lane k).pat with
            ref := patternNext (s.lane k).chk (s.lane k).pat.ref w, hist := (2 * (s.lane k).pat.hist + b2n (w != b)) % 2 ^ 128 } } ∧ LaneOnly k s t)
    ∧ ((s.lane k).sync = true → 32 ≤ popcount ((2 * (s.lane k).pat.hist + b2n (w != b)) % 2 ^ 128) 128 → ∃ t, exec (.patternSync k [] b []) s = .next t
      ∧ t.lane k = { s.lane k with
          compared := ((s.lane k).compared + 1) % 2 ^ 64, errors := min ((s.lane k).errors + b2n (w != b)) (2 ^ 32 - 1), sync := false
          syncLosses := min ((s.lane k).syncLosses + 1) (2 ^ 32 - 1), pat := (t.lane k).pat } ∧ (∀ j, j ≠ k → t.lane j = s.lane j)
      ∧ EventsOnly { s with ln := { s.ln with lanes := t.ln.lanes } } t)
    ∧ ((s.lane k).sync = false → (s.lane k).chk < 4 → (s.lane k).pat.seen = seedBits (s.lane k).chk → (s.lane k).pat.run = 63 → w = b →
      ∃ t, exec (.patternSync k [] b []) s = .next t ∧ t.lane k = { s.lane k with sync := true, pat := (t.lane k).pat } ∧ (∀ j, j ≠ k → t.lane j = s.lane j)
        ∧ EventsOnly { s with ln := { s.ln with lanes := t.ln.lanes } } t))
  ∧ (∀ (c : Cmd) (k n : Nat) (s : State), s.accepts (c.ops.testBit 24) 0x0506 c → c.operands 4 0xFE000000 → k = c.f 0 16 → n = c.f 16 8 →
    ((1168 ≤ k ∨ n = 0 ∨ 64 < n ∨ c.ops.testBit 24 = false ∧ (s.lane k).gen = 0) → ∃ t, exec (.laneInject c) s = .next t ∧ Answered 0x0506 c 4 0 0 t ∧ CommandOnly c s t)
    ∧ (k < 1168 → 1 ≤ n → n ≤ 64 → (c.ops.testBit 24 = true ∨ (s.lane k).gen ≠ 0) → ∃ t, exec (.laneInject c) s = .next t ∧ Answered 0x0506 c 0 0 0 t
      ∧ t.sent = .lane k 7 n (b2n (c.ops.testBit 24)) 0 :: s.sent
      ∧ CommandOnly c { s.modLane k (fun y => { y with
          injected := min (y.injected + 1) (2 ^ 32 - 1), pat := { y.pat with flip := y.pat.flip + (if c.ops.testBit 24 then 0 else n) } }) with sent := t.sent } t))
  ∧ (∀ (c : Cmd) (k v : Nat) (s : State), s.accepts false 0x0507 c → c.operands 4 0xFF000000 → k = c.f 0 16 → v = c.f 16 8 →
    ((1168 ≤ k ∨ 7 < v ∧ v ≠ 255) → ∃ t, exec (.laneTxSet c) s = .next t ∧ Answered 0x0507 c 4 0 0 t ∧ CommandOnly c s t)
    ∧ (k < 1168 → (v ≤ 7 ∨ v = 255) → c.immediate = false → ∃ t, exec (.laneTxSet c) s = .next t ∧ Waits 0x0507 c (s.stage [{
        ats := [.lane (laneGroupOf k)], what := .laneTx k (if v = 255 then none else some v), ticket := some s.newTicket, left := 8 }]) t)
    ∧ (k < 1168 → (v ≤ 7 ∨ v = 255) → c.immediate = true → ∃ t, exec (.laneTxSet c) s = .next t ∧ Answered 0x0507 c 0 0 0 t
      ∧ CommandOnly c (s.stage [{ ats := [.lane (laneGroupOf k)], what := .laneTx k (if v = 255 then none else some v), ticket := none, left := 8 }]) t))

/-- MEM_ALLOC, MEM_FREE, MEM_WRITE and MEM_READ of a window's buffers, and an unmapped address (09_memory.md) -/
def Obligations.HostBuffersAreAllocatedAndMoved : Prop :=
  (∀ (c : Cmd) (n a : Nat) (s : State), s.accepts false 0x0601 c → c.operands 12 0xFFFFFF00 → (c.f 0 8 = 2 ∨ c.f 0 8 = 3) → c.f 32 64 ≠ 0 →
    n = cdiv (c.f 32 64) pageBytes → (c.win < 64 → s.getP P.MEM_WINDOW_USED c.win + 2 * n ≤ s.getP P.MEM_WINDOW_QUOTA c.win) →
    s.carveUsed (c.f 0 8) + 2 * n ≤ s.getP P.MEM_CARVE_QUOTA (c.f 0 8) → s.pagesFree n = true → s.placeBuffer (c.f 0 8) (n * pageBytes) = some a →
    ∃ t b, exec (.memAlloc c) s = .next t ∧ Answered 0x0601 c 0 8 a t ∧ t.dram.buffers = s.dram.buffers ++ [b] ∧ b.carve = c.f 0 8 ∧ b.base = a
      ∧ b.bytes = n * 0x200000 ∧ b.owner = .window c.win ∧ (∀ x, a ≤ x → x < a + b.bytes → t.devByte x = 0)
      ∧ (∀ x, (x < a ∨ a + b.bytes ≤ x) → t.devByte x = s.devByte x) ∧ SameParams memoryKeys s t ∧ CommandEvents c { s with dram := t.dram, params := t.params } t)
  ∧ (∀ (c : Cmd) (s : State), s.accepts false 0x0601 c → c.operands 12 0xFFFFFF00 → c.win < 64 → (c.f 0 8 = 2 ∨ c.f 0 8 = 3) → c.f 32 64 ≠ 0 →
    s.getP P.MEM_WINDOW_QUOTA c.win < s.getP P.MEM_WINDOW_USED c.win + 2 * cdiv (c.f 32 64) pageBytes →
    ∃ t, exec (.memAlloc c) s = .next t ∧ Answered 0x0601 c 7 0 0 t ∧ CommandOnly c s t)
  ∧ (∀ (c : Cmd) (s : State), s.accepts false 0x0601 c → c.operands 12 0xFFFFFF00 → (c.f 0 8 ≠ 2 ∧ c.f 0 8 ≠ 3 ∨ c.f 32 64 = 0) →
    ∃ t, exec (.memAlloc c) s = .next t ∧ Answered 0x0601 c 4 0 0 t ∧ CommandOnly c s t)
  ∧ (∀ (c : Cmd) (s : State), s.accepts false 0x0602 c → c.operands 8 0 →
    ((s.dram.buffers.find? fun b => b.base == c.f 0 64 && b.window.isSome) = none → ∃ t, exec (.memFree c) s = .next t ∧ Answered 0x0602 c 0x50 0 0 t ∧ CommandOnly c s t)
    ∧ (∀ b, (s.dram.buffers.find? fun b => b.base == c.f 0 64 && b.window.isSome) = some b →
      (b.window ≠ some c.win → ¬ s.privilegedClient c → ∃ t, exec (.memFree c) s = .next t ∧ Answered 0x0602 c 5 0 0 t ∧ CommandOnly c s t)
      ∧ (b.window = some c.win → s.bufferBusy b = true → ∃ t, exec (.memFree c) s = .next t ∧ Answered 0x0602 c 2 0 0 t ∧ CommandOnly c s t)
      ∧ (b.window = some c.win → s.bufferBusy b = false → ∃ t, exec (.memFree c) s = .next t ∧ Answered 0x0602 c 0 0 0 t
        ∧ t.dram.buffers = (s.dram.buffers.filter fun x => x.base != b.base) ∧ SameParams memoryKeys s t ∧ CommandEvents c { s with dram := t.dram, params := t.params } t)))
  ∧ (∀ (c : Cmd) (a h n : Nat) (b : Buffer) (s : State), c.host = [] → c.operands 20 0 → a = c.f 0 64 → h = c.f 64 64 → n = c.f 128 32 → h ≠ 0 → 1 ≤ n → n ≤ 0x1000000 →
    s.hostBuffer a n = some b → b.window = some c.win → c.win < 64 → s.dram.flaws = [] →
    (s.accepts false 0x0603 c → s.hostGood h n = n → ∃ t, exec (.memWrite c) s = .next t ∧ Answered 0x0603 c 0 0 0 t
      ∧ t.devRead a n = takeBytes zeroByte s.ctl.hostMem h n ∧ (∀ x, (x < a ∨ a + n ≤ x) → t.devByte x = s.devByte x)
      ∧ (a % 32 = 0 → n % 32 = 0 → (∀ e ∈ s.dram.poison, 0 < e.2) → t.firstPoison a n = none)
      ∧ CommandOnly c { s with dram := { s.dram with bytes := t.dram.bytes, poison := t.dram.poison } } t)
    ∧ (s.accepts false 0x0603 c → s.hostGood h n < n → ∃ t, exec (.memWrite c) s = .next t ∧ Answered 0x0603 c 0x0B 4 (s.hostGood h n) t
      ∧ t.devRead a (s.hostGood h n) = takeBytes zeroByte s.ctl.hostMem h (s.hostGood h n)
      ∧ (∀ x, (x < a ∨ a + s.hostGood h n ≤ x) → t.devByte x = s.devByte x)
      ∧ CommandOnly c { s with dram := { s.dram with bytes := t.dram.bytes, poison := t.dram.poison } } t)
    ∧ (∀ m, s.accepts false 0x0604 c → (s.firstPoison a n).getD n = m → m ≤ n → s.hostGood h m = m → ∃ t, exec (.memRead c) s = .next t
      ∧ (m = n → Answered 0x0604 c 0 0 0 t) ∧ (m < n → Answered 0x0604 c 0x0A 4 m t) ∧ takeBytes zeroByte t.ctl.hostMem h m = s.devRead a m
      ∧ (∀ x, (x < h ∨ h + m ≤ x) → SMap.get zeroByte t.ctl.hostMem x = SMap.get zeroByte s.ctl.hostMem x)
      ∧ CommandOnly c { s with ctl := { s.ctl with hostMem := t.ctl.hostMem } } t))
  ∧ (∀ (c : Cmd) (s : State), c.operands 20 0 →
    ((c.f 64 64 = 0 ∨ c.f 128 32 = 0 ∨ 0x1000000 < c.f 128 32) →
      (s.accepts false 0x0603 c → c.win < 64 → ∃ t, exec (.memWrite c) s = .next t ∧ Answered 0x0603 c 4 0 0 t ∧ CommandOnly c s t)
      ∧ (s.accepts false 0x0604 c → c.win < 64 → ∃ t, exec (.memRead c) s = .next t ∧ Answered 0x0604 c 4 0 0 t ∧ CommandOnly c s t))
    ∧ (c.f 64 64 ≠ 0 → 1 ≤ c.f 128 32 → c.f 128 32 ≤ 0x1000000 → s.hostBuffer (c.f 0 64) (c.f 128 32) = none →
      (s.accepts false 0x0603 c → c.win < 64 → ∃ t, exec (.memWrite c) s = .next t ∧ Answered 0x0603 c 0x50 0 0 t ∧ CommandOnly c s t)
      ∧ (s.accepts false 0x0604 c → c.win < 64 → ∃ t, exec (.memRead c) s = .next t ∧ Answered 0x0604 c 0x50 0 0 t ∧ CommandOnly c s t)))
  ∧ (∀ (a : Nat) (w : Bool) (s : State), (s.mapped a = true → exec (.addressFault a w) s = .next s)
    ∧ (s.mapped a = false → ∃ t, exec (.addressFault a w) s = .next t
      ∧ (t.ctl.faultLog.getLast?.map fun e => (e.seq, e.cls, e.idx, e.code)) = some (s.ctl.faultNext, 0x9, 0, 0x0602)
      ∧ EventsOnly { s with ctl := { s.ctl with faultLog := t.ctl.faultLog, faultNext := t.ctl.faultNext } } t))

/-- Refresh, temperature and WCK tracking, row retirement, retraining and patrol scrub of the DRAM (09_memory.md) -/
def Obligations.DramIsKept : Prop :=
  (∀ (ch b r : Nat) (w : List Nat) (l : List ScrubFinding) (s : State), ch < 16 → b < 16 → w.length = 4 →
    (∃ t, exec (.dramRefresh ch ⟨b, l⟩) s = .next t ∧ SMap.get (fun _ => 0) t.dram.refreshes (ch * 32 + b) = SMap.get (fun _ => 0) s.dram.refreshes (ch * 32 + b) + 1
      ∧ (∀ k, k ≠ ch * 32 + b → SMap.get (fun _ => 0) t.dram.refreshes k = SMap.get (fun _ => 0) s.dram.refreshes k)
      ∧ t = { s with sent := .dram 0 ch (b + 32 * SMap.get (fun _ => 0) s.dram.mr4 ch) :: s.sent, dram := { s.dram with refreshes := t.dram.refreshes, flaws := s.dram.flaws ++ l } })
    ∧ (∃ t, exec (.mr4Read ch r) s = .next t ∧ SMap.get (fun _ => 0) t.dram.mr4 ch = r
      ∧ (∀ k, k ≠ ch → SMap.get (fun _ => 0) t.dram.mr4 k = SMap.get (fun _ => 0) s.dram.mr4 k) ∧ t = { s with dram := { s.dram with mr4 := t.dram.mr4 } })
    ∧ (∃ t, exec (.wckTrack ch w) s = .next t ∧ (∀ j, j < 4 → SMap.get (fun _ => 0) t.dram.wck (4 * ch + j) = w.getD j 0)
      ∧ (∀ k, k < 4 * ch ∨ 4 * ch + 4 ≤ k → SMap.get (fun _ => 0) t.dram.wck k = SMap.get (fun _ => 0) s.dram.wck k) ∧ t = { s with dram := { s.dram with wck := t.dram.wck } }))
  ∧ (∀ (ch b : Nat) (x : Nat × Nat × Nat) (s : State), ch < 16 → b < 16 → (s.dram.candidates.find? fun c => c.1 == ch && c.2.1 == b) = some x →
    (s.dram.remap.filter fun r => r.1 == ch && r.2.1 == b).length < 32 → ∃ t, exec (.rowRetired ch b) s = .next t ∧ t.dram.remap = s.dram.remap ++ [(x.1, x.2.1, x.2.2, s.spareRow ch b)]
      ∧ t.dram.candidates = s.dram.candidates.filter (· != x) ∧ t.getP P.MEM_RETIRED_ROWS ch = (s.getP P.MEM_RETIRED_ROWS ch + 1) % 2 ^ 32
      ∧ SameParams [pkey P.MEM_RETIRED_ROWS ch] s t ∧ EventsOnly { s with
          params := t.params, dram := { s.dram with remap := t.dram.remap, candidates := t.dram.candidates }, hk := { s.hk with tasks := t.hk.tasks } } t)
  ∧ (∀ (ch b : Nat) (x : Nat × Nat × Nat) (s : State), ch < 16 → b < 16 → (s.dram.candidates.find? fun c => c.1 == ch && c.2.1 == b) = some x →
    32 ≤ (s.dram.remap.filter fun r => r.1 == ch && r.2.1 == b).length → ∃ t, exec (.rowRetired ch b) s = .next t ∧ ServiceCond.rowPool ch b ∈ t.ctl.service
      ∧ t.dram = { s.dram with candidates := s.dram.candidates.filter (· != x) }
      ∧ EventsOnly { s with dram := t.dram, ctl := { s.ctl with service := t.ctl.service } } t)
  ∧ (∀ (ch b : Nat) (s : State), ch < 16 → b < 16 → (s.dram.candidates.find? fun c => c.1 == ch && c.2.1 == b) = none → exec (.rowRetired ch b) s = .next s)
  ∧ (∀ (ch : Nat) (s : State), ch < 16 → ∃ t, exec (.retrainInterval ch) s = .next t ∧ t.dram.retrainDue = s.dram.retrainDue ||| 1 <<< ch
    ∧ t.dram = { s.dram with retrainDue := t.dram.retrainDue, retrainReason := if s.dram.retrainDue = 0 then 1 else s.dram.retrainReason }
    ∧ t.hk.tasks = modAt (fun k => { k with due := true }) 3 s.hk.tasks ∧ t = { s with now := t.now, dram := t.dram, hk := { s.hk with tasks := t.hk.tasks } })
  ∧ (∀ (t : Nat) (s : State), (s.dram.retrain = none → s.dram.retrainDue ≠ 0 → s.bgHeld 3 = false → exec (.retrainSlice t) s = .next { s with
      now := max s.now t
      dram := { s.dram with
        retrain := some { mask := s.dram.retrainDue, reason := s.dram.retrainReason, start := t, temp := s.dieTemp 0, slices := 1 }, retrainDue := 0 } })
    ∧ (s.dram.retrain = none → (s.dram.retrainDue = 0 ∨ s.bgHeld 3 = true) → exec (.retrainSlice t) s = .next (s.atLeast t))
    ∧ (∀ r, s.dram.retrain = some r → r.slices < 63 → exec (.retrainSlice t) s = .next { s with
        now := max s.now t, dram := { s.dram with retrain := some { r with slices := r.slices + 1 } } })
    ∧ (∀ r, s.dram.retrain = some r → 63 ≤ r.slices → ∃ u, exec (.retrainSlice t) s = .next u ∧ u.dram.retrain = none
      ∧ (∀ c, c < 16 → u.getP P.MEM_RETRAIN_TEMP c = if r.mask.testBit c then toU64 r.temp else s.getP P.MEM_RETRAIN_TEMP c)
      ∧ SameParams ((List.range 16).map fun c => pkey P.MEM_RETRAIN_TEMP c) s u ∧ EventsOnly { s with
          now := max s.now t, params := u.params, dram := { s.dram with retrain := none, lastRetrain := u.dram.lastRetrain }, hk := { s.hk with tasks := u.hk.tasks } } u))
  ∧ (∀ (n : Nat) (l : List ScrubFinding) (s : State), s.bgHeld 7 = true → exec (.patrolScrub n l) s = .next s)
  ∧ (∀ (n : Nat) (s : State), s.bgHeld 7 = false → s.dram.patrolPos + n < patrolTotal →
    (∃ t, exec (.patrolScrub n []) s = .next t ∧ t.dram = { s.dram with patrolPos := s.dram.patrolPos + n }
      ∧ t.getP P.MEM_SCRUB_PROGRESS 0 = (s.dram.patrolPos + n) * 1000 / 4026531840 ∧ SameParams [pkey P.MEM_SCRUB_PROGRESS 0] s t
      ∧ t = { s with params := t.params, dram := t.dram, hk := { s.hk with tasks := t.hk.tasks } })
    ∧ (∀ e : ScrubFinding, e.chan < 16 → s.poisoned e.addr = false → e.uncorrectable = true → ∃ t, exec (.patrolScrub n [e]) s = .next t ∧ t.dram.poison = (e.addr / 32 * 32, 32) :: s.dram.poison
      ∧ t.getP P.MEM_UE_COUNT e.chan = min (s.getP P.MEM_UE_COUNT e.chan + 1) (2 ^ 32 - 1) ∧ SameParams [pkey P.MEM_SCRUB_PROGRESS 0, pkey P.MEM_UE_COUNT e.chan] s t
      ∧ ((e.chan, e.bank, e.row) ∈ t.dram.candidates ∨ ∃ q, (e.chan, e.bank, e.row, q) ∈ s.dram.remap) ∧ t.dram.bytes = s.dram.bytes ∧ t.dram.buffers = s.dram.buffers
      ∧ (t.ctl.faultLog.getLast?.map fun x => (x.seq, x.cls, x.idx, x.code)) = some (s.ctl.faultNext, 0x9, e.chan, 0x0601))
    ∧ (∀ e : ScrubFinding, e.chan < 16 → s.poisoned e.addr = false → e.uncorrectable = false → ∃ t, exec (.patrolScrub n [e]) s = .next t ∧ t.dram.poison = s.dram.poison
      ∧ t.getP P.MEM_CE_COUNT e.chan = min (s.getP P.MEM_CE_COUNT e.chan + 1) (2 ^ 32 - 1) ∧ SameParams [pkey P.MEM_SCRUB_PROGRESS 0, pkey P.MEM_CE_COUNT e.chan] s t
      ∧ t.ctl.faultLog = s.ctl.faultLog ∧ t.dram.bytes = s.dram.bytes ∧ t.dram.buffers = s.dram.buffers))
  ∧ (∀ (n : Nat) (s : State), s.bgHeld 7 = false → patrolTotal ≤ s.dram.patrolPos + n → ∃ t, exec (.patrolScrub n []) s = .next t ∧ t.dram = { s.dram with patrolPos := 0 }
    ∧ t.getP P.MEM_SCRUB_PROGRESS 0 = 0 ∧ SameParams [pkey P.MEM_SCRUB_PROGRESS 0] s t
    ∧ t = { s with params := t.params, dram := t.dram, hk := { s.hk with tasks := t.hk.tasks, patrolStart := t.hk.patrolStart } })

/-- Enumeration and loss of an expander, poison and verification, and the region commands (09_memory.md) -/
def Obligations.ExpandersAndRegionsComeAndGo : Prop :=
  (∀ (e : ExpanderInfo) (n : Nat) (s : State), e.port < 4 →
    ((List.range 32).filter fun m => s.getP P.CXL_EXP_STATE m != 0 && (s.expander m).port == e.port).length < 16 → (s.setP P.CXL_PORT_LINK e.port e.link).slotFor e.serial = some n → n < 32 → s.getP P.CXL_EXP_STATE n = 0 →
    ∃ t, exec (.expanderPresent e) s = .next t ∧ t.getP P.CXL_EXP_STATE n = 1 ∧ t.getP P.CXL_EXP_SERIAL n = e.serial ∧ t.getP P.CXL_EXP_PORT n = e.port + at' 8 e.swPort
      ∧ t.getP P.CXL_EXP_CAPACITY n = e.volGiB + at' 32 e.persGiB ∧ t.getP P.CXL_EXP_POISON n = (if (s.expander n).assigned = true ∧ (s.expander n).serial = e.serial then s.getP P.CXL_EXP_POISON n else 0) ∧ t.getP P.CXL_PORT_LINK e.port = e.link
      ∧ SameParams [pkey P.CXL_EXP_STATE n, pkey P.CXL_EXP_SERIAL n, pkey P.CXL_EXP_PORT n, pkey P.CXL_EXP_CAPACITY n, pkey P.CXL_EXP_POISON n, pkey P.CXL_PORT_LINK e.port] s t
      ∧ (t.expander n).serial = e.serial ∧ (t.expander n).vol = e.volGiB ∧ (t.expander n).pers = e.persGiB ∧ (t.expander n).assigned = true
      ∧ (∀ m, m ≠ n → t.expander m = s.expander m) ∧ EventsOnly { s with
          params := t.params, cxl := { s.cxl with
            exps := t.cxl.exps, powerOff := clrBit s.cxl.powerOff n, attention := clrBit s.cxl.attention n } } t)
  ∧ (∀ (e : ExpanderInfo) (s : State), e.port < 4 → ((s.setP P.CXL_PORT_LINK e.port e.link).slotFor e.serial = none
      ∨ 16 ≤ ((List.range 32).filter fun m => s.getP P.CXL_EXP_STATE m != 0 && (s.expander m).port == e.port).length) →
    ∃ t, exec (.expanderPresent e) s = .next t ∧ EventsOnly (s.setP P.CXL_PORT_LINK e.port e.link) t)
  ∧ (∀ (n : Nat) (s : State), n < 32 → (s.getP P.CXL_EXP_STATE n ≠ 1 → exec (.enumerationDone n) s = .next s)
    ∧ (s.getP P.CXL_EXP_STATE n = 1 → s.regionsOf n = [] → ∃ t, exec (.enumerationDone n) s = .next t
      ∧ t.getP P.CXL_EXP_STATE n = (if (s.expander n).locked = true ∨ (s.expander n).type3 = false then 5 else 2) ∧ SameParams [pkey P.CXL_EXP_STATE n] s t
      ∧ (t.partner (expanderId n)).present = true ∧ (∀ q, partnerKey q ≠ partnerKey (expanderId n) → t.partner q = s.partner q)
      ∧ ((s.expander n).patrol = true ∧ t.getP P.CXL_EXP_STATE n = 2 → t.sent = .cxl 4 n [s.getP P.CXL_PATROL_HOURS 0] :: s.sent
          ∧ t.expander n = { s.expander n with cycle := s.getP P.CXL_PATROL_HOURS 0 })
      ∧ (¬((s.expander n).patrol = true ∧ t.getP P.CXL_EXP_STATE n = 2) → t.sent = s.sent ∧ t.expander n = s.expander n) ∧ (∀ m, m ≠ n → t.expander m = s.expander m)
      ∧ EventsOnly { s with params := t.params, ctl := { s.ctl with partners := t.ctl.partners }, sent := t.sent, cxl := { s.cxl with exps := t.cxl.exps } } t)
    ∧ (s.getP P.CXL_EXP_STATE n = 0 → exec (.expanderSurpriseRemove n) s = .next s)
    ∧ (s.getP P.CXL_EXP_STATE n ≠ 0 → s.regionsOf n = [] → SMap.get (fun _ => none) s.cxl.removals n = none → (s.partner (expanderId n)).present = true →
      ∃ t, exec (.expanderSurpriseRemove n) s = .next t ∧ t.getP P.CXL_EXP_STATE n = 0 ∧ SameParams [pkey P.CXL_EXP_STATE n] s t ∧ t.cxl.blinking.testBit n = false
        ∧ (t.partner (expanderId n)).present = false ∧ (∀ q, partnerKey q ≠ partnerKey (expanderId n) → t.partner q = s.partner q)
        ∧ EventsOnly { s with
            params := t.params, cxl := { s.cxl with blinking := t.cxl.blinking }, ctl := { s.ctl with partners := t.ctl.partners } } t))
  ∧ (∀ (n r : Nat) (s : State), n < 32 → r < 32 → s.getP P.CXL_EXP_STATE n ≠ 0 → s.regionsOf n = [r] → s.getP P.CXL_REGION_STATE r ≠ 0 → s.binOn r = none →
    ∃ t, exec (.expanderSurpriseRemove n) s = .next t ∧ t.getP P.CXL_EXP_STATE n = 0 ∧ t.getP P.CXL_REGION_STATE r = 4
      ∧ SameParams [pkey P.CXL_EXP_STATE n, pkey P.CXL_REGION_STATE r] s t)
  ∧ (∀ (n : Nat) (l : List (Nat × Nat)) (s : State), n < 32 → (s.getP P.CXL_EXP_STATE n ≠ 2 ∧ s.getP P.CXL_EXP_STATE n ≠ 3 ∨ s.bgHeld 4 = true) →
    exec (.cxlEventPoll n l) s = .next s)
  ∧ (∀ (n a m : Nat) (s : State), n < 32 → (s.getP P.CXL_EXP_STATE n = 2 ∨ s.getP P.CXL_EXP_STATE n = 3) → s.bgHeld 4 = false → s.regionAt a = none →
    ∃ t, exec (.cxlEventPoll n [(a, m)]) s = .next t ∧ t.getP P.CXL_EXP_POISON n = min (s.getP P.CXL_EXP_POISON n + 1) (2 ^ 32 - 1)
      ∧ SameParams [pkey P.CXL_EXP_POISON n] s t ∧ (t.ctl.faultLog.getLast?.map fun x => (x.seq, x.cls, x.idx, x.code)) = some (s.ctl.faultNext, 0x9, 32 + n, 0x0603)
      ∧ EventsOnly { s with
          params := t.params, hk := { s.hk with tasks := t.hk.tasks }, ctl := { s.ctl with faultLog := t.ctl.faultLog, faultNext := t.ctl.faultNext } } t)
  ∧ (∀ (r o : Nat) (p : Bool) (s : State), r < 32 → (s.bgHeld 8 = true ∨ (s.region r).persistent = false ∨ s.getP P.CXL_REGION_STATE r = 0 ∨ 4 ≤ s.getP P.CXL_REGION_STATE r
      ∨ s.getP P.CXL_REGION_SIZE r ≤ o) → exec (.cxlVerify r o p) s = .next s)
  ∧ (∀ (r o : Nat) (s : State), r < 32 → s.bgHeld 8 = false → (s.region r).persistent = true → 1 ≤ s.getP P.CXL_REGION_STATE r → s.getP P.CXL_REGION_STATE r ≤ 3 →
    o < s.getP P.CXL_REGION_SIZE r → ∃ t, exec (.cxlVerify r o false) s = .next t ∧ t.region r = { s.region r with verifyPos := o + 0x10000 }
      ∧ (∀ k, k ≠ r → t.region k = s.region k) ∧ t.getP P.CXL_VERIFY_PROGRESS 0 = min (o + 0x10000) (s.getP P.CXL_REGION_SIZE r) * 1000 / s.getP P.CXL_REGION_SIZE r
      ∧ SameParams [pkey P.CXL_VERIFY_PROGRESS 0] s t
      ∧ t = { s with params := t.params, cxl := { s.cxl with regions := t.cxl.regions }, hk := { s.hk with tasks := t.hk.tasks } })
  ∧ (∀ (r : Nat) (s : State), r < 32 → ((s.region r).persistent = false → exec (.regionVerifyDone r) s = .next s)
    ∧ ((s.region r).persistent = true → s.binOn r = none → ∃ t, exec (.regionVerifyDone r) s = .next t
      ∧ t.region r = { s.region r with verifyPos := 0, verifying := false } ∧ (∀ k, k ≠ r → t.region k = s.region k)
      ∧ t.getP P.CXL_REGION_STATE r = (if s.getP P.CXL_REGION_STATE r = 2 then 1 else s.getP P.CXL_REGION_STATE r) ∧ t.getP P.CXL_VERIFY_PROGRESS 0 = 0
      ∧ SameParams [pkey P.CXL_REGION_STATE r, pkey P.CXL_VERIFY_PROGRESS 0] s t ∧ EventsOnly { s with
          params := t.params, cxl := { s.cxl with regions := t.cxl.regions }, hk := { s.hk with tasks := t.hk.tasks, verifyStart := t.hk.verifyStart } } t))
  ∧ (∀ (c : Cmd) (r w : Nat) (l : List Nat) (s : State), s.accepts true 0x0610 c → c.operands 16 0xFF00FC00 → r = c.f 0 8 → w = c.f 16 8 →
    l = ((List.range 8).map fun i => c.f (64 + 8 * i) 8).take w → r < 32 → w ∈ [1, 2, 4, 8] → c.f 32 32 ≠ 0 → (∀ n ∈ l, n < 32) → l.eraseDups.length = w →
    (∀ i, w ≤ i → i < 8 → c.f (64 + 8 * i) 8 = 0xFF) →
    (s.getP P.CXL_REGION_STATE r ≠ 0 → ∃ t, exec (.cxlRegionCreate c) s = .next t ∧ Answered 0x0610 c 2 0 0 t ∧ CommandOnly c s t)
    ∧ (s.getP P.CXL_REGION_STATE r = 0 → (∃ n ∈ l, s.getP P.CXL_EXP_STATE n ≠ 2) → ∃ t, exec (.cxlRegionCreate c) s = .next t ∧ Answered 0x0610 c 0x53 0 0 t ∧ CommandOnly c s t)
    ∧ (s.getP P.CXL_REGION_STATE r = 0 → (∀ n ∈ l, s.getP P.CXL_EXP_STATE n = 2) → s.cxl.regions = [] → s.binOn r = none →
      (∀ n ∈ l, c.f 32 32 ≤ (if c.f 8 1 = 1 then (s.expander n).pers else (s.expander n).vol) ∧ ((s.expander n).foreign = false ∨ c.f 9 1 = 1)
        ∧ (c.f 8 1 = 1 → (s.expander n).gpf = true ∧ (s.expander n).lsa = true ∧ (s.expander n).phase2Ms ≤ 8)) →
      w * c.f 32 32 * 0x40000000 ≤ 0x200000000000 → (c.f 8 1 = 1 → s.getP P.CXL_PERSIST_TOTAL 0 + w * c.f 32 32 * 0x40000000 ≤ 0x100000000000) →
      ∃ t, exec (.cxlRegionCreate c) s = .next t ∧ Answered 0x0610 c 0 8 0x200000000000 t ∧ t.getP P.CXL_REGION_STATE r = 1
        ∧ t.getP P.CXL_REGION_BASE r = 0x200000000000 ∧ t.getP P.CXL_REGION_SIZE r = w * c.f 32 32 * 0x40000000
        ∧ t.region r = {
            persistent := c.f 8 1 == 1, slots := l, serials := l.map fun n => (s.expander n).serial, gib := c.f 32 32, base := 0x200000000000,
            parts := l.map fun _ => [(0, c.f 32 32)] }
        ∧ (∀ n, t.expander n = if n ∈ l then { s.expander n with
            foreign := false, labels := if (s.expander n).lsa then (s.expander n).labels ++ [r] else (s.expander n).labels } else s.expander n) ∧ SameParams (pkey P.CXL_REGION_STATE r :: regionKeys) s t
        ∧ SMap.get (fun _ => 0) t.hk.verifyStart r = s.now
        ∧ CommandEvents c { s with params := t.params, cxl := { s.cxl with exps := t.cxl.exps, regions := t.cxl.regions }, hk := { s.hk with verifyStart := t.hk.verifyStart } } t))
  ∧ (∀ (c : Cmd) (s : State), s.accepts true 0x0610 c → c.operands 16 0xFF00FC00 → (32 ≤ c.f 0 8 ∨ c.f 32 32 = 0 ∨ c.f 16 8 ∉ [1, 2, 4, 8]) →
    ∃ t, exec (.cxlRegionCreate c) s = .next t ∧ Answered 0x0610 c 4 0 0 t ∧ CommandOnly c s t)
  ∧ (∀ (c : Cmd) (r : Nat) (s : State), c.operands 1 0 → r = c.f 0 8 →
    (32 ≤ r → (s.accepts true 0x0611 c → ∃ t, exec (.cxlRegionDelete c) s = .next t ∧ Answered 0x0611 c 4 0 0 t ∧ CommandOnly c s t)
      ∧ (s.accepts true 0x0612 c → ∃ t, exec (.cxlRegionAccept c) s = .next t ∧ Answered 0x0612 c 4 0 0 t ∧ CommandOnly c s t))
    ∧ (r < 32 → s.accepts true 0x0611 c →
      (s.getP P.CXL_REGION_STATE r = 0 → ∃ t, exec (.cxlRegionDelete c) s = .next t ∧ Answered 0x0611 c 5 0 0 t ∧ CommandOnly c s t)
      ∧ (s.getP P.CXL_REGION_STATE r ≠ 0 → (s.getP P.CXL_REGION_STATE r = 3 ∨ s.binOn r ≠ none) → ∃ t, exec (.cxlRegionDelete c) s = .next t ∧ Answered 0x0611 c 2 0 0 t
        ∧ CommandOnly c s t)
      ∧ ((s.getP P.CXL_REGION_STATE r = 1 ∨ s.getP P.CXL_REGION_STATE r = 2) → s.binOn r = none → ∃ t, exec (.cxlRegionDelete c) s = .next t ∧ Answered 0x0611 c 0 0 0 t
        ∧ t.getP P.CXL_REGION_STATE r = 0 ∧ t.region r = {} ∧ (∀ k, k ≠ r → t.region k = s.region k) ∧ (∀ n, t.expander n = if n ∈ (s.region r).slots then { s.expander n with labels := (s.expander n).labels.filter (· != r) } else s.expander n)
        ∧ SameParams (pkey P.CXL_REGION_STATE r :: regionKeys) s t
        ∧ CommandEvents c { s with params := t.params, cxl := { s.cxl with regions := t.cxl.regions, exps := t.cxl.exps } } t))
    ∧ (r < 32 → s.accepts true 0x0612 c →
      (s.getP P.CXL_REGION_STATE r ≠ 2 → ∃ t, exec (.cxlRegionAccept c) s = .next t ∧ Answered 0x0612 c 5 0 0 t ∧ CommandOnly c s t)
      ∧ (s.getP P.CXL_REGION_STATE r = 2 → s.binOn r = none → ∃ t, exec (.cxlRegionAccept c) s = .next t ∧ Answered 0x0612 c 0 0 0 t ∧ t.getP P.CXL_REGION_STATE r = 1
        ∧ t.region r = { s.region r with verifying := false } ∧ (∀ k, k ≠ r → t.region k = s.region k) ∧ SameParams [pkey P.CXL_REGION_STATE r] s t
        ∧ CommandEvents c { s with params := t.params, cxl := { s.cxl with regions := t.cxl.regions } } t)))

/-- Global Persistent Flush from trigger to reply, and the removal of an expander step by step (09_memory.md, 15_power_service.md) -/
def Obligations.FlushesAndRemovalsRunTheirSteps : Prop :=
  (∀ (g : Nat) (s : State), g ≠ 3 → s.cxl.gpf = none → s.flushWanted g = true → exec (.gpfStart g) s = .next { s with
      sent := .cxl 1 g s.flushSlots :: s.sent, cxl := { s.cxl with gpf := some { trigger := g, start := s.now, slots := s.flushSlots } } })
  ∧ (∀ (g : Nat) (s : State), (s.cxl.gpf ≠ none ∨ s.flushWanted g = false) → exec (.gpfStart g) s = .next s)
  ∧ (∀ (t : Nat) (s : State), (s.cxl.gpf = none → exec (.gpfPhase1Done t) s = .next s)
    ∧ (∀ g, s.cxl.gpf = some g → g.phase2 = false → exec (.gpfPhase1Done t) s = .next { s with
        now := max s.now (min t (g.start + 1000000)), sent := .cxl 2 g.trigger g.slots :: s.sent
        cxl := { s.cxl with gpf := some { g with phase2 := true, flushAt := max s.now (min t (g.start + 1000000)) } } }))
  ∧ (∀ (t : Nat) (late : List Nat) (s : State), s.cxl.gpf = none → exec (.gpfDone late t) s = .next s)
  ∧ (∀ (c : Cmd) (s : State), s.accepts true 0x0614 c → c.operands 0 0 → ∃ t, exec (.cxlPersistFlush c) s = .next t
    ∧ Waits 0x0614 c { s with cxl := { s.cxl with flushers := s.cxl.flushers ++ [s.newTicket] } } t)
  ∧ (∀ (t tk us : Nat) (g : Gpf) (f : Flight) (s : State), s.cxl.gpf = some g → g.trigger = 2 → s.cxl.flushers = [tk] → s.awaits tk f → s.fr.bins = [] →
    us = (max s.now (min t (g.flushAt + 8000000)) - g.start) / 1000 → us < 2 ^ 32 → ∃ u, exec (.gpfDone [] t) s = .next u ∧ Answered f.opcode f.cmd 0 4 us u ∧ u.cxl.gpf = none ∧ u.cxl.flushers = []
      ∧ (∀ n, u.expander n = if n ∈ g.slots then { s.expander n with recorded := (s.expander n).dirty } else s.expander n)
      ∧ RepliedEvents f { s with now := max s.now (min t (g.flushAt + 8000000)), cxl := { s.cxl with gpf := none, flushers := [], exps := u.cxl.exps } } u)
  ∧ (∀ (t n r : Nat) (g : Gpf) (m : Removal) (s : State), n < 32 → r < 32 → s.cxl.gpf = some g → g.trigger = 3 → g.slots = [n] → s.fr.bins = [] →
    SMap.get (fun _ => none) s.cxl.removals n = some m → s.regionsOf n = [r] → s.getP P.CXL_REGION_STATE r = 3 → ∃ u, exec (.gpfDone [] t) s = .next u
      ∧ SMap.get (fun _ => none) u.cxl.removals n = some { m with step := 5 } ∧ u.getP P.CXL_REGION_STATE r = 4 ∧ SameParams [pkey P.CXL_REGION_STATE r] s u
      ∧ u.cxl.gpf = none ∧ EventsOnly { s with
          now := max s.now (min t (g.flushAt + 8000000)), params := u.params, cxl := { s.cxl with gpf := none, exps := u.cxl.exps, removals := u.cxl.removals } } u)
  ∧ (∀ (c : Cmd) (n : Nat) (s : State), s.accepts true 0x0613 c → c.operands 2 0 → n = c.f 0 8 →
    ((32 ≤ n ∨ 2 < c.f 8 8 ∧ c.f 8 8 ≠ 0xFF) → ∃ t, exec (.cxlExpanderRemove c) s = .next t ∧ Answered 0x0613 c 4 0 0 t ∧ CommandOnly c s t)
    ∧ (n < 32 → (c.f 8 8 ≤ 2 ∨ c.f 8 8 = 0xFF) → s.getP P.CXL_EXP_STATE n ≠ 2 → ∃ t, exec (.cxlExpanderRemove c) s = .next t ∧ Answered 0x0613 c 0x53 0 0 t ∧ CommandOnly c s t)
    ∧ (n < 32 → (c.f 8 8 ≤ 2 ∨ c.f 8 8 = 0xFF) → s.getP P.CXL_EXP_STATE n = 2 → s.regionsOf n = [] → ∃ t, exec (.cxlExpanderRemove c) s = .next t
      ∧ t.getP P.CXL_EXP_STATE n = 3 ∧ SameParams [pkey P.CXL_EXP_STATE n] s t ∧ SMap.get (fun _ => none) t.cxl.removals n
          = some { policy := if c.f 8 8 = 0xFF then s.getP P.CXL_REMOVE_POLICY 0 else c.f 8 8, ticket := some s.newTicket }
      ∧ (∀ m, m ≠ n → SMap.get (fun _ => none) t.cxl.removals m = SMap.get (fun _ => none) s.cxl.removals m)
      ∧ WaitsEvents 0x0613 c { s with params := t.params, cxl := { s.cxl with removals := t.cxl.removals } } t))
  ∧ (∀ (n : Nat) (s : State), n < 32 → SMap.get (fun _ => none) s.cxl.removals n = none →
    exec (.removalDrainDone n) s = .next s ∧ exec (.relocationDone n) s = .next s ∧ exec (.slotPowerOff n) s = .next s)
  ∧ (∀ (n : Nat) (m : Removal) (s : State), n < 32 → SMap.get (fun _ => none) s.cxl.removals n = some m → s.slotBins n = [] →
    (m.step ≤ 2 → ∃ t, exec (.removalDrainDone n) s = .next t ∧ SMap.get (fun _ => none) t.cxl.removals n = some { m with step := 3 }
      ∧ (∀ k, k ≠ n → SMap.get (fun _ => none) t.cxl.removals k = SMap.get (fun _ => none) s.cxl.removals k)
      ∧ t = { s with cxl := { s.cxl with removals := t.cxl.removals } })
    ∧ (m.step = 3 → ∃ t, exec (.relocationDone n) s = .next t
      ∧ SMap.get (fun _ => none) t.cxl.removals n = some { m with step := 4, relocated := 0, dropped := 0, gib := 0 }
      ∧ (∀ k, k ≠ n → SMap.get (fun _ => none) t.cxl.removals k = SMap.get (fun _ => none) s.cxl.removals k)
      ∧ t = { s with cxl := { s.cxl with removals := t.cxl.removals } }))
  ∧ (∀ (n tk : Nat) (m : Removal) (f : Flight) (s : State), n < 32 → SMap.get (fun _ => none) s.cxl.removals n = some m → m.step = 5 → m.ticket = some tk →
    s.awaits tk f → (s.partner (expanderId n)).present = true → ∃ t, exec (.slotPowerOff n) s = .next t
      ∧ Answered f.opcode f.cmd 0 12 (m.relocated % 2 ^ 32 + at' 32 (m.dropped % 2 ^ 32) + at' 64 (m.gib % 2 ^ 32)) t ∧ t.getP P.CXL_EXP_STATE n = 4
      ∧ SameParams [pkey P.CXL_EXP_STATE n] s t ∧ t.cxl.powerOff.testBit n = true ∧ t.cxl.attention.testBit n = true ∧ SMap.get (fun _ => none) t.cxl.removals n = none
      ∧ (t.partner (expanderId n)).present = false ∧ (∀ q, partnerKey q ≠ partnerKey (expanderId n) → t.partner q = s.partner q)
      ∧ RepliedEvents f { s with
          params := t.params, sent := .cxl 3 n [] :: s.sent, cxl := { s.cxl with powerOff := t.cxl.powerOff, attention := t.cxl.attention, removals := t.cxl.removals }
          ctl := { s.ctl with partners := t.ctl.partners } } t)
  ∧ (∀ (n : Nat) (s : State), n < 32 →
    (s.cxl.blinking.testBit n = true → ∃ t, exec (.attentionButton n) s = .next t ∧ t.cxl.blinking.testBit n = false
      ∧ (∀ k, k ≠ n → t.cxl.blinking.testBit k = s.cxl.blinking.testBit k) ∧ t = { s with cxl := { s.cxl with blinking := t.cxl.blinking } })
    ∧ (s.cxl.blinking.testBit n = false → s.getP P.CXL_EXP_STATE n = 2 → ∃ t, exec (.attentionButton n) s = .next t ∧ t.cxl.blinking.testBit n = true
      ∧ (∀ k, k ≠ n → t.cxl.blinking.testBit k = s.cxl.blinking.testBit k) ∧ t = { s with cxl := { s.cxl with blinking := t.cxl.blinking } })
    ∧ (s.cxl.blinking.testBit n = false → s.getP P.CXL_EXP_STATE n ≠ 2 → exec (.attentionButton n) s = .next s)
    ∧ (s.cxl.blinking.testBit n = false → exec (.attentionTimer n) s = .next s)
    ∧ (s.cxl.blinking.testBit n = true → s.getP P.CXL_EXP_STATE n = 2 → s.regionsOf n = [] → ∃ t, exec (.attentionTimer n) s = .next t ∧ t.getP P.CXL_EXP_STATE n = 3
      ∧ SameParams [pkey P.CXL_EXP_STATE n] s t ∧ SMap.get (fun _ => none) t.cxl.removals n = some { policy := s.getP P.CXL_REMOVE_POLICY 0 }
      ∧ t.cxl.blinking.testBit n = false ∧ EventsOnly { s with params := t.params, cxl := { s.cxl with removals := t.cxl.removals, blinking := t.cxl.blinking } } t))

/-- A frame's fence stores it in its bin, its deadline discards it, the drain releases it; checkpoints (10_recording.md, 09_memory.md) -/
def Obligations.FramesAreStoredAndDrained : Prop :=
  (∀ (p : Nat) (s : State), p < 8 → (s.fr.wb.find? fun g => g.source == p && g.phase == 1) = none →
    exec (.recordFenceDone p) s = .next s ∧ exec (.recordDeadline p) s = .next s)
  ∧ (∀ (p b n : Nat) (f : WbFrame) (x : Bin) (c : Clip) (s : State), p < 8 → (s.fr.wb.find? fun g => g.source == p && g.phase == 1) = some f → f.bins = [b] →
    s.bin? b = some x → x.clips = [c] → c.phase = 0 → x.runs = [] → x.held ≤ x.quota → n = 0x20 + f.body.length → x.woff + n ≤ segBytes →
    ∃ t y, exec (.recordFenceDone p) s = .next t ∧ t.bin? b = some y ∧ y.seq = x.seq + 1 ∧ y.wseg = x.wseg ∧ y.woff = x.woff + n ∧ y.noSpace = false
      ∧ y.clips = [{ c with recs := c.recs ++ [{ typ := f.typ, source := p, seq := x.seq, tag := f.tag, body := f.body, pieces := [(x.wseg, x.woff, n)], wb := f.id + 1 }] }]
      ∧ t.fr.wb = (s.fr.wb.filter fun g => !(g.id == f.id)) ++ ((s.fr.wb.filter fun g => g.id == f.id).map fun g => { g with phase := 2, size := n, bins := [b] })
      ∧ t.getP P.FR_WB_USED 0 = rdivN t.wbUsed 0x100000 ∧ t.getP P.FR_GAP_FRAMES p = min (s.getP P.FR_GAP_FRAMES p) (2 ^ 32 - 1)
      ∧ SameParams (pkey P.FR_WB_USED 0 :: pkey P.FR_GAP_FRAMES p :: (binKeys b ++ memoryKeys)) s t ∧ (∀ k, k ≠ b → t.bin? k = s.bin? k)
      ∧ EventsOnly { s with
          params := t.params, ctl := { s.ctl with service := t.ctl.service }
          fr := { s.fr with bins := t.fr.bins, wb := t.fr.wb, pressure := t.fr.pressure, credits := modAt (fun k => k - n) p s.fr.credits
                            rawBytes := modAt (· + f.raw) p s.fr.rawBytes, stored := modAt (· + n) p s.fr.stored } } t)
  ∧ (∀ (p b : Nat) (f : WbFrame) (x : Bin) (s : State), p < 8 → (s.fr.wb.find? fun g => g.source == p && g.phase == 1) = some f → f.bins = [b] →
    s.bin? b = some x → (∀ c ∈ x.clips, c.phase ≠ 1) → (∀ r ∈ x.runs, r.source ≠ p ∨ r.reason ≠ 3) →
    ∃ t, exec (.recordDeadline p) s = .next t
      ∧ t.bin? b = some { x with runs := x.runs ++ [{ source := p, reason := 3, count := 1, tag := f.tag, number := f.number }] }
      ∧ t.fr.wb = (s.fr.wb.filter fun g => g.id != f.id) ∧ t.getP P.FR_WB_USED 0 = rdivN t.wbUsed 0x100000
      ∧ t.getP P.FR_GAP_FRAMES p = min (s.getP P.FR_GAP_FRAMES p + 1) (2 ^ 32 - 1)
      ∧ SameParams (pkey P.FR_WB_USED 0 :: pkey P.FR_GAP_FRAMES p :: memoryKeys) s t ∧ (∀ k, k ≠ b → t.bin? k = s.bin? k)
      ∧ EventsOnly { s with params := t.params, fr := { s.fr with bins := t.fr.bins, wb := t.fr.wb, pressure := t.fr.pressure } } t)
  ∧ (∀ (s : State), s.fr.wb ≠ [] → (∀ g ∈ s.fr.wb, g.phase ≠ 2) → exec .drainDone s = .next s)
  ∧ (∀ (s : State), s.fr.wb = [] → exec .drainDone s = .next (if s.pw.step = .draining then { s with pw := { s.pw with step := .flushing } } else s))
  ∧ (∀ (b : Nat) (f : WbFrame) (x : Bin) (s : State), (s.fr.wb.find? fun g => g.phase == 2) = some f → f.bins = [b] → s.bin? b = some x → s.dram.flaws = [] →
    (s.firstPoison f.addr f.size = none → ∃ t, exec .drainDone s = .next t
      ∧ t.bin? b = some { x with clips := x.clips.map fun c => { c with recs := c.recs.map fun r => if r.wb = f.id + 1 then { r with wb := 0 } else r } }
      ∧ (∀ k, k ≠ b → t.bin? k = s.bin? k) ∧ t.fr.wb = (s.fr.wb.filter fun g => g.id != f.id) ∧ t.getP P.FR_WB_USED 0 = rdivN t.wbUsed 0x100000
      ∧ SameParams (pkey P.FR_WB_USED 0 :: memoryKeys) s t ∧ EventsOnly { s with
          params := t.params, fr := { s.fr with bins := t.fr.bins, wb := t.fr.wb, pressure := t.fr.pressure }
          pw := if s.pw.step = .draining ∧ t.fr.wb = [] then { s.pw with step := .flushing } else s.pw } t)
    ∧ (∀ o, s.firstPoison f.addr f.size = some o → f.source < 8 → (∀ r ∈ x.runs, r.source ≠ f.source ∨ r.reason ≠ 7) → ∃ t y, exec .drainDone s = .next t
      ∧ t.bin? b = some y ∧ y.runs = x.runs ++ [{ source := f.source, reason := 7, count := 1, tag := f.tag, number := f.number }]
      ∧ y.clips = (x.clips.map fun c => { c with recs := c.recs.map fun r =>
          if r.wb = f.id + 1 then { r with typ := 5, source := 255, body := List.replicate r.body.length 0, wb := 0 } else r })
      ∧ (∀ k, k ≠ b → t.bin? k = s.bin? k) ∧ t.fr.wb = (s.fr.wb.filter fun g => g.id != f.id)
      ∧ t.getP P.FR_GAP_FRAMES f.source = min (s.getP P.FR_GAP_FRAMES f.source + 1) (2 ^ 32 - 1)
      ∧ SameParams (pkey P.FR_WB_USED 0 :: pkey P.FR_GAP_FRAMES f.source :: memoryKeys) s t ∧ EventsOnly { s with
          params := t.params, fr := { s.fr with bins := t.fr.bins, wb := t.fr.wb, pressure := t.fr.pressure }
          pw := if s.pw.step = .draining ∧ t.fr.wb = [] then { s.pw with step := .flushing } else s.pw } t))
  ∧ (∀ (b : Nat) (s : State), b < 64 → (s.bin? b = none ∨ s.binState b ≠ 3 ∧ s.binState b ≠ 4) → exec (.checkpoint b) s = .next s)
  ∧ (∀ (b : Nat) (x : Bin) (s : State), b < 64 → (s.binState b = 3 ∨ s.binState b = 4) → s.bin? b = some x → ∃ t, exec (.checkpoint b) s = .next t
    ∧ t.bin? b = some (x.checkpointed t.now) ∧ (∀ k, k ≠ b → t.bin? k = s.bin? k) ∧ SMap.get (fun _ => 0) t.fr.volClip b = x.nextClip
    ∧ (∀ k, k ≠ b → SMap.get (fun _ => 0) t.fr.volClip k = SMap.get (fun _ => 0) s.fr.volClip k)
    ∧ t = { s with now := max s.now (x.ckptTime + s.getP P.FR_CHECKPOINT_MS 0 * 1000000), fr := { s.fr with bins := t.fr.bins, volClip := t.fr.volClip } })

/-- Bins are recovered, their worn segments rotate, their clips are protected and marked (10_recording.md) -/
def Obligations.BinsRecoverMoveAndProtect : Prop :=
  (∀ (b : Nat) (s : State), b < 64 → (s.bin? b = none ∨ s.binState b ≠ 2) → exec (.binRecovery b) s = .next s)
  ∧ (∀ (b : Nat) (x : Bin) (s : State), b < 64 → s.bin? b = some x → s.binState b = 2 → (∀ c ∈ x.clips, c.phase = 2) → x.runs = [] →
    s.getP P.FR_BIN_ARM b ≠ 1 → s.getP P.FR_BIN_SOURCES b = 0 → ∃ t, exec (.binRecovery b) s = .next t ∧ t.binState b = 3
      ∧ t.bin? b = some (x.checkpointed s.now) ∧ t.getP P.FR_BIN_QUOTA b = x.quota ∧ BinOnly b s t)
  ∧ (∀ (b q : Nat) (x : Bin) (s : State), b < 64 → q < 8 → s.bin? b = some x → s.binState b = 2 → (∀ c ∈ x.clips, c.phase = 2 ∧ c.id ≠ x.nextClip) → x.runs = [] →
    s.getP P.FR_BIN_ARM b = 1 → s.getP P.FR_BIN_SOURCES b = 2 ^ q → s.captureHeld = false → x.held ≤ x.quota → x.woff + 64 ≤ segBytes →
    ∃ t y g, exec (.binRecovery b) s = .next t ∧ t.binState b = 4 ∧ x.lossGaps (2 ^ q) = [g] ∧ g.source = q ∧ g.reason = 6 ∧ g.count = 0xFFFFFFFF ∧ t.bin? b = some y
      ∧ y.nextClip = x.nextClip + 1 ∧ y.seq = x.seq + 1 ∧ y.woff = x.woff + 64 ∧ y.clips = x.clips ++ [{
          id := x.nextClip, first := s.ring.tag, last := s.ring.tag, t0 := s.now, sources := 2 ^ q
          recs := [{ typ := 2, source := q, seq := x.seq, tag := g.tag, body := gapBody g.count 6 g.number, pieces := [(x.wseg, x.woff, 64)] }] }]
      ∧ t.getP P.FR_BIN_QUOTA b = x.quota ∧ (∀ k, k ≠ b → t.bin? k = s.bin? k)
      ∧ SameParams (pkey P.FR_BIN_STATE b :: pkey P.FR_BIN_QUOTA b :: (binKeys b ++ bwKeys)) s t ∧ EventsOnly { s with
          params := t.params, ctl := { s.ctl with service := t.ctl.service }, fr := { s.fr with bins := t.fr.bins, volClip := t.fr.volClip }
          dram := { s.dram with bw := t.dram.bw } } t)
  ∧ (∀ (b : Nat) (s : State), b < 64 → (s.bin? b = none ∨ s.bgHeld 9 = true ∨ s.binState b ≠ 3 ∧ s.binState b ≠ 4) → exec (.wearMove b) s = .next s)
  ∧ (∀ (b : Nat) (x : Bin) (s : State), b < 64 → s.bin? b = some x → s.bgHeld 9 = false → (s.binState b = 3 ∨ s.binState b = 4) →
    (x.freeAhead = [] → exec (.wearMove b) s = .next s)
    ∧ (∀ g f l, x.lagging (s.getP P.FR_WEAR_LAG 0) = some g → x.freeAhead = f :: l → ∃ t, exec (.wearMove b) s = .next t
      ∧ t.bin? b = some ((x.moveSeg g f).checkpointed s.now) ∧ BinOnly b { s with hk := (s.taskDone 9).hk } t)
    ∧ (∀ f u l m, x.lagging (s.getP P.FR_WEAR_LAG 0) = none → x.freeAhead = f :: u :: l → m = (x.data.map fun g => SMap.get (fun _ => 0) x.passes g).sum →
      (max (SMap.get (fun _ => 0) x.passes x.hdrA) (SMap.get (fun _ => 0) x.passes x.hdrB) * x.data.length ≤ m + 64 * s.getP P.FR_WEAR_LAG 0 * x.data.length →
        exec (.wearMove b) s = .next s)
      ∧ (m + 64 * s.getP P.FR_WEAR_LAG 0 * x.data.length < max (SMap.get (fun _ => 0) x.passes x.hdrA) (SMap.get (fun _ => 0) x.passes x.hdrB) * x.data.length →
        ∃ t, exec (.wearMove b) s = .next t ∧ t.bin? b = some (Bin.checkpointed { x with hdrA := f, hdrB := u, gen := x.gen + 1 } s.now)
          ∧ BinOnly b { s with hk := (s.taskDone 9).hk } t)))
  ∧ (∀ (c : Cmd) (b : Nat) (s : State), s.accepts false 0x0701 c → c.operands 12 0xFFFFFE00 → b = c.f 0 8 →
    (64 ≤ b → ∃ t, exec (.clipProtect c) s = .next t ∧ Answered 0x0701 c 4 0 0 t ∧ CommandOnly c s t)
    ∧ (b < 64 → (s.bin? b = none ∨ s.binState b = 1 ∨ s.binState b = 2) → ∃ t, exec (.clipProtect c) s = .next t ∧ Answered 0x0701 c 5 0 0 t ∧ CommandOnly c s t)
    ∧ (∀ (x : Bin) (h : List Clip), b < 64 → s.bin? b = some x → s.binState b ≠ 1 → s.binState b ≠ 2 →
      h = (x.clips.filter fun k => k.phase != 3 && tagsMeet k.first (if k.phase = 0 then s.ring.tag else k.last) (c.f 32 32) (c.f 64 32)
        && (k.isProtected != (c.f 8 1 == 1))) →
      (c.f 8 1 = 1 → x.mayProtect (h.map fun k => k.id) = false → ∃ t, exec (.clipProtect c) s = .next t ∧ Answered 0x0701 c 7 0 0 t ∧ CommandOnly c s t)
      ∧ (c.f 8 1 = 1 ∧ x.mayProtect (h.map fun k => k.id) = true ∨ c.f 8 1 = 0 ∧ x.held ≤ s.getP P.FR_BIN_QUOTA b → ∃ t y, exec (.clipProtect c) s = .next t
        ∧ Answered 0x0701 c 0 8 (h.length + at' 32 (x.shed.filter fun e => tagsMeet e.1 e.2 (c.f 32 32) (c.f 64 32)).length) t ∧ t.bin? b = some y
        ∧ y.clips = (x.clips.map fun k => if k.id ∈ h.map (fun k => k.id) then { k with flags := if c.f 8 1 = 1 then setBit k.flags 0 else clrBit k.flags 0 } else k)
        ∧ y.ckpt = x.ckpt + (if h = [] then 0 else 1) ∧ BinCommand c b s t)))
  ∧ (∀ (c : Cmd) (b : Nat) (s : State), s.accepts false 0x0702 c → c.operands 1 0 → b = c.f 0 8 →
    (64 ≤ b → ∃ t, exec (.clipMark c) s = .next t ∧ Answered 0x0702 c 4 0 0 t ∧ CommandOnly c s t)
    ∧ (b < 64 → (s.bin? b = none ∨ s.binState b ≠ 4) → ∃ t, exec (.clipMark c) s = .next t ∧ Answered 0x0702 c 5 0 0 t ∧ CommandOnly c s t)
    ∧ (∀ x, b < 64 → s.binState b = 4 → s.bin? b = some x → ∃ t, exec (.clipMark c) s = .next t ∧ Answered 0x0702 c 0 4 (x.nextClip % 2 ^ 32) t
      ∧ t.bin? b = some { x with mark := true } ∧ (∀ k, k ≠ b → t.bin? k = s.bin? k)
      ∧ CommandOnly c { s with fr := { s.fr with bins := t.fr.bins } } t))

/-- Clip queue pairs: created, rung, fetched from, frozen by a fault of the ring, restarted, deleted (11_clip_queues.md) -/
def Obligations.QueuePairsAreCreatedRungAndRestarted : Prop :=
  (∀ (c : Cmd) (q : Nat) (s : State), s.accepts false 0x0710 c → c.win < 64 → c.operands 24 0xFFFF0000000000F0 → q = c.f 0 4 →
    ((c.f 8 4 < 4 ∨ 12 < c.f 8 4 ∨ c.f 12 4 < 4 ∨ 12 < c.f 12 4 ∨ 15 < c.f 16 8 ∧ c.f 16 8 ≠ 0xFF ∨ c.f 24 8 = 0 ∨ 1000 < c.f 32 16 ∨ c.f 64 64 % 4096 ≠ 0
      ∨ c.f 128 64 % 4096 ≠ 0) → ∃ t, exec (.queueCreate c) s = .next t ∧ Answered 0x0710 c 4 0 0 t ∧ CommandOnly c s t)
    ∧ (4 ≤ c.f 8 4 → c.f 8 4 ≤ 12 → 4 ≤ c.f 12 4 → c.f 12 4 ≤ 12 → (c.f 16 8 ≤ 15 ∨ c.f 16 8 = 0xFF) → c.f 24 8 ≠ 0 → c.f 32 16 ≤ 1000 → c.f 64 64 % 4096 = 0 →
      c.f 128 64 % 4096 = 0 →
      (s.pair? c.win q ≠ none → ∃ t, exec (.queueCreate c) s = .next t ∧ Answered 0x0710 c 2 0 0 t ∧ CommandOnly c s t)
      ∧ (s.pair? c.win q = none → (s.getP P.CQ_PAIR_LIMIT c.win ≤ (s.cq.pairs.filter fun e => e.1 / 16 == c.win).length ∨ 256 ≤ s.cq.pairs.length) →
        ∃ t, exec (.queueCreate c) s = .next t ∧ Answered 0x0710 c 6 0 0 t ∧ CommandOnly c s t)
      ∧ (s.pair? c.win q = none → (s.cq.pairs.filter fun e => e.1 / 16 == c.win).length < s.getP P.CQ_PAIR_LIMIT c.win → s.cq.pairs.length < 256 →
        ∃ t, exec (.queueCreate c) s = .next t ∧ Answered 0x0710 c 0 0 0 t
          ∧ t.pair? c.win q = some { sqLog := c.f 8 4, cqLog := c.f 12 4, vector := c.f 16 8, aggCount := c.f 24 8, aggTime := c.f 32 16
                                     sqBase := c.f 64 64, cqBase := c.f 128 64 }
          ∧ OtherPairs c.win q s t ∧ t.getP P.CQ_PAIRS_IN_USE 0 = t.cq.pairs.length ∧ SameParams [pkey P.CQ_PAIRS_IN_USE 0] s t
          ∧ CommandOnly c { s with params := t.params, cq := { s.cq with pairs := t.cq.pairs } } t)))
  ∧ (∀ (c : Cmd) (q : Nat) (s : State), s.accepts false 0x0711 c → c.win < 64 → c.operands 1 0xF0 → q = c.f 0 4 →
    (s.pair? c.win q = none → ∃ t, exec (.queueDelete c) s = .next t ∧ Answered 0x0711 c 5 0 0 t ∧ CommandOnly c s t)
    ∧ (∀ p, s.pair? c.win q = some p → p.restart = none → s.noDeletes → ∃ t, exec (.queueDelete c) s = .next t ∧ Answered 0x0711 c 0 0 0 t ∧ t.pair? c.win q = none
      ∧ OtherPairs c.win q s t ∧ t.getP P.CQ_PAIRS_IN_USE 0 = t.cq.pairs.length ∧ SameParams [pkey P.CQ_PAIRS_IN_USE 0] s t
      ∧ CommandEvents c { s with params := t.params, sent := t.sent, cq := { s.cq with pairs := t.cq.pairs } } t))
  ∧ (∀ (c : Cmd) (q : Nat) (s : State), s.accepts false 0x0714 c → c.win < 64 → c.operands 1 0xF0 → q = c.f 0 4 →
    (s.pair? c.win q = none → ∃ t, exec (.queueStatus c) s = .next t ∧ Answered 0x0714 c 0 8 0 t ∧ CommandOnly c s t)
    ∧ (∀ p, s.pair? c.win q = some p → ∃ t, exec (.queueStatus c) s = .next t
      ∧ Answered 0x0714 c 0 8 ((if p.frozen then 2 else 1) + at' 8 p.cmds.length + at' 16 p.sqHead + at' 32 p.cqTail) t ∧ CommandOnly c s t))
  ∧ (∀ (c : Cmd) (l : List QueueLog) (s : State), s.accepts false 0x0713 c → c.win < 64 → c.operands 4 0 →
    l = ((SMap.get (fun _ => []) s.cq.logs c.win).filter fun e => decide ((e.seq + 2 ^ 32 - c.f 0 32) % 2 ^ 32 < 2 ^ 31)).take 3 → ∃ t, exec (.queueErrorLog c) s = .next t
      ∧ Answered 0x0713 c 0 (8 + 64 * l.length)
        (ofLE (leBytes (SMap.get (fun _ => 0) s.cq.logSeq c.win) 4 ++ leBytes l.length 2 ++ leBytes 0 2 ++ l.flatMap QueueLog.bytes)) t ∧ CommandOnly c s t)
  ∧ (∀ (fn w q v : Nat) (l : List Byte) (s : State), fn < 64 → w < 64 → q < 16 → v < 65536 → s.hostTakes fn w = false →
    exec (.sqTail ⟨fn, w⟩ q v l) s = .next s ∧ exec (.cqHead ⟨fn, w⟩ q v) s = .next s)
  ∧ (∀ (fn w q v : Nat) (s : State), fn < 64 → w < 64 → q < 16 → v < 65536 → s.pair? w q = none →
    exec (.sqTail ⟨fn, w⟩ q v []) s = .next s ∧ exec (.cqHead ⟨fn, w⟩ q v) s = .next s ∧ exec (.sqFetch w q) s = .next s ∧ exec (.cqInterruptTimer w q) s = .next s
      ∧ exec (.queueResume w q) s = .next s)
  ∧ (∀ (fn w q v : Nat) (p : Pair) (s : State), fn < 64 → w < 64 → q < 16 → v < 65536 → s.hostTakes fn w = true → s.pair? w q = some p →
    (v < 2 ^ p.sqLog → (p.sqTail + 2 ^ p.sqLog - p.sqHead) % 2 ^ p.sqLog + (v + 2 ^ p.sqLog - p.sqTail) % 2 ^ p.sqLog < 2 ^ p.sqLog →
      (∃ t, exec (.sqTail ⟨fn, w⟩ q v []) s = .next t ∧ t.pair? w q = some { p with sqTail := v } ∧ OtherPairs w q s t ∧ t = { s with cq := { s.cq with pairs := t.cq.pairs } })
      ∧ ∀ l : List Byte, l.length = 64 → ∃ t, exec (.sqTail ⟨fn, w⟩ q v l) s = .next t ∧ t.pair? w q = some { p with sqTail := v } ∧ OtherPairs w q s t
        ∧ takeBytes zeroByte t.ctl.hostMem (p.sqBase + 64 * (p.sqTail % 2 ^ p.sqLog)) 64 = l
        ∧ (∀ a, (a < p.sqBase + 64 * (p.sqTail % 2 ^ p.sqLog) ∨ p.sqBase + 64 * (p.sqTail % 2 ^ p.sqLog) + 64 ≤ a) →
          SMap.get zeroByte t.ctl.hostMem a = SMap.get zeroByte s.ctl.hostMem a)
        ∧ t = { s with ctl := { s.ctl with hostMem := t.ctl.hostMem }, cq := { s.cq with pairs := t.cq.pairs } })
    ∧ (v < 2 ^ p.cqLog → ∃ t, exec (.cqHead ⟨fn, w⟩ q v) s = .next t ∧ t.pair? w q = some { p with cqHead := v } ∧ OtherPairs w q s t
      ∧ t = { s with cq := { s.cq with pairs := t.cq.pairs } })
    ∧ (p.frozen = false → s.noDeletes → (2 ^ p.sqLog ≤ v → ∃ t, exec (.sqTail ⟨fn, w⟩ q v []) s = .next t ∧ Froze w q 0xFFFF 0 4 s t)
      ∧ (2 ^ p.cqLog ≤ v → ∃ t, exec (.cqHead ⟨fn, w⟩ q v) s = .next t ∧ Froze w q 0xFFFF 0 4 s t)))
  ∧ (∀ (w q : Nat) (p : Pair) (s : State), w < 64 → q < 16 → s.pair? w q = some p →
    (s.nextFetch ≠ some (w * 16 + q) → exec (.sqFetch w q) s = .next s)
    ∧ (s.cq.pairs = [(w * 16 + q, some p)] →
      ((s.queuesRun = false ∨ p.frozen = true ∨ p.sqHead = p.sqTail ∨ 2 ^ p.cqLog - 1 ≤ p.cmds.length + p.unreleased ∨ 64 ≤ p.cmds.length) → s.nextFetch = none)
      ∧ (s.queuesRun = true → p.frozen = false → p.sqHead ≠ p.sqTail → p.cmds.length + p.unreleased + 1 < 2 ^ p.cqLog - 1 → p.cmds.length < 64 →
        s.nextFetch = some (w * 16 + q)))
    ∧ (s.nextFetch = some (w * 16 + q) → s.noDeletes →
      (s.hostGood (p.sqBase + 64 * p.sqHead) 64 < 64 → ∃ t, exec (.sqFetch w q) s = .next t ∧ Froze w q 0xFFFF 0 0x5A s t)
      ∧ ∀ e : List Byte, s.hostGood (p.sqBase + 64 * p.sqHead) 64 = 64 → e = takeBytes zeroByte s.ctl.hostMem (p.sqBase + 64 * p.sqHead) 64 →
        ((sqField e 0 1 = 0 ∨ 6 < sqField e 0 1) → ∃ t, exec (.sqFetch w q) s = .next t ∧ Froze w q (sqField e 2 2) (sqField e 0 1) 3 s t)
        ∧ (1 ≤ sqField e 0 1 → sqField e 0 1 ≤ 6 → s.queuesHeld = false → ∃ t, exec (.sqFetch w q) s = .next t ∧ OtherPairs w q s t
          ∧ t.pair? w q = some { p with sqHead := (p.sqHead + 1) % 2 ^ p.sqLog, cmds := p.cmds ++ [{ cid := sqField e 2 2, entry := e, time := s.now }] }
          ∧ t = { s with cq := { s.cq with pairs := t.cq.pairs, served := w * 16 + q } })
        ∧ (1 ≤ sqField e 0 1 → sqField e 0 1 ≤ 6 → s.queuesHeld = true → s.pw.step = .exiting → ∃ t y, exec (.sqFetch w q) s = .next t ∧ OtherPairs w q s t
          ∧ t.pair? w q = some y ∧ y.sqHead = (p.sqHead + 1) % 2 ^ p.sqLog ∧ y.cmds = p.cmds ++ [{ cid := sqField e 2 2, entry := e, time := s.now, held := true }]
          ∧ y.cqTail = (p.cqTail + 1) % 2 ^ p.cqLog ∧ y.written = p.written + 1
          ∧ t = { s with sent := t.sent, ctl := { s.ctl with hostMem := t.ctl.hostMem }, cq := { s.cq with pairs := t.cq.pairs, served := w * 16 + q } })))
  ∧ (∀ (w q : Nat) (p : Pair) (s : State), w < 64 → q < 16 → s.pair? w q = some p → (p.unsignalled = 0 → exec (.cqInterruptTimer w q) s = .next s)
    ∧ (p.unsignalled ≠ 0 → p.vector ≠ 0xFF → ∃ t, exec (.cqInterruptTimer w q) s = .next t ∧ t.pair? w q = some { p with unsignalled := 0 } ∧ OtherPairs w q s t
      ∧ t = { s with now := max s.now (p.oldest + p.aggTime * 1000), sent := .msix w p.vector :: s.sent, cq := { s.cq with pairs := t.cq.pairs } })
    ∧ ((p.restart = none ∨ p.cmds ≠ []) → exec (.queueResume w q) s = .next s)
    ∧ ∀ r f, p.restart = some r → p.cmds = [] → s.awaits r.1 f → ∃ t, exec (.queueResume w q) s = .next t ∧ Answered f.opcode f.cmd 0 0 0 t
      ∧ t.pair? w q = some { p with frozen := false, restart := none, sqHead := if r.2 then p.sqTail else p.sqHead } ∧ OtherPairs w q s t
      ∧ RepliedEvents f { s with cq := { s.cq with pairs := t.cq.pairs } } t)
  ∧ (∀ (c : Cmd) (q : Nat) (s : State), s.accepts false 0x0712 c → c.win < 64 → c.operands 8 0xFFFFFFE0 → q = c.f 0 4 →
    (s.pair? c.win q = none → ∃ t, exec (.queueRestart c) s = .next t ∧ Answered 0x0712 c 5 0 0 t ∧ CommandOnly c s t)
    ∧ ∀ p, s.pair? c.win q = some p → (p.frozen = false → ∃ t, exec (.queueRestart c) s = .next t ∧ Answered 0x0712 c 5 0 0 t ∧ CommandOnly c s t)
      ∧ (p.frozen = true → p.restart ≠ none → ∃ t, exec (.queueRestart c) s = .next t ∧ Answered 0x0712 c 2 0 0 t ∧ CommandOnly c s t)
      ∧ (p.frozen = true → p.restart = none → c.f 32 32 ≠ p.newestLog → ∃ t, exec (.queueRestart c) s = .next t ∧ Answered 0x0712 c 0x5B 0 0 t ∧ CommandOnly c s t)
      ∧ (p.frozen = true → p.restart = none → c.f 32 32 = p.newestLog → ∃ t, exec (.queueRestart c) s = .next t ∧ OtherPairs c.win q s t
        ∧ t.pair? c.win q = some { p with restart := some (s.newTicket, c.f 4 1 == 1) } ∧ Waits 0x0712 c { s with cq := { s.cq with pairs := t.cq.pairs } } t))

/-- READ, READ_FRAME, DIR_READ, INDEX_READ, IMPORT, FENCE and the command timer of a clip queue (11_clip_queues.md, 10_recording.md) -/
def Obligations.QueueCommandsReadAndImport : Prop :=
  (∀ (w q cid : Nat) (s : State), w < 64 → q < 16 → cid < 65536 →
    (s.queueCmd w q cid 1 = none → exec (.read w q cid) s = .next s) ∧ (s.queueCmd w q cid 2 = none → exec (.readFrame w q cid) s = .next s)
    ∧ (s.queueCmd w q cid 3 = none → exec (.dirRead w q cid) s = .next s) ∧ (s.queueCmd w q cid 4 = none → exec (.indexRead w q cid) s = .next s)
    ∧ (s.queueCmd w q cid 5 = none → ∀ l, exec (.importClip w q cid l) s = .next s) ∧ (s.queueCmd w q cid 6 = none → exec (.cqFence w q cid) s = .next s)
    ∧ ((s.pair? w q = none ∨ s.queuesRun = false) → exec (.cqCommandTimeout w q cid) s = .next s))
  ∧ (∀ (i : Instr) (op w q cid f : Nat) (p : Pair) (c : QCmd) (s : State),
    (i, op) ∈ [(.read w q cid, 1), (.readFrame w q cid, 2), (.dirRead w q cid, 3), (.indexRead w q cid, 4), (.importClip w q cid [], 5), (.cqFence w q cid, 6)] →
    w < 64 → q < 16 → cid < 65536 → s.pair? w q = some p → s.queueCmd w q cid op = some c → p.frozen = false → s.noDeletes → badField c.entry = some f →
    ∃ t, exec i s = .next t ∧ Froze w q cid op 4 s t)
  ∧ (∀ (i : Instr) (op w q cid : Nat) (p : Pair) (c : QCmd) (s : State),
    (i, op) ∈ [(.read w q cid, 1), (.readFrame w q cid, 2), (.dirRead w q cid, 3), (.indexRead w q cid, 4), (.importClip w q cid [], 5)] →
    w < 64 → q < 16 → cid < 65536 → s.pair? w q = some p → s.queueCmd w q cid op = some c → s.noDeletes → badField c.entry = none →
    (c.fate = 0x58 → s.hostGood (p.cqBase + 32 * p.cqTail) 32 = 32 → ∃ t, exec i s = .next t ∧ Completed w q c p 0x58 0 0 0 s t)
    ∧ (c.fate = 0xA → p.frozen = false → ∃ t, exec i s = .next t ∧ Froze w q cid op 0xA s t))
  ∧ (∀ (i : Instr) (op w q cid : Nat) (p : Pair) (c : QCmd) (s : State),
    (i, op) ∈ [(.read w q cid, 1), (.readFrame w q cid, 2), (.dirRead w q cid, 3), (.indexRead w q cid, 4), (.importClip w q cid [], 5)] →
    w < 64 → q < 16 → cid < 65536 → s.pair? w q = some p → s.queueCmd w q cid op = some c → c.fate = 0 → s.noDeletes → badField c.entry = none → s.bin? (sqField c.entry 4 1) = none →
    s.hostGood (p.cqBase + 32 * p.cqTail) 32 = 32 → ∃ t, exec i s = .next t ∧ Completed w q c p 5 0 0 0 s t)
  ∧ (∀ (w q cid b h : Nat) (p : Pair) (c : QCmd) (x : Bin) (s : State), w < 64 → q < 16 → cid < 65536 → s.pair? w q = some p →
    s.hostGood (p.cqBase + 32 * p.cqTail) 32 = 32 → c.fate = 0 → s.noDeletes → badField c.entry = none → b = sqField c.entry 4 1 → h = sqField c.entry 0x18 8 →
    s.bin? b = some x → 2 ≤ s.binState b →
    (s.getP P.CXL_REGION_STATE x.region = 4 → (s.queueCmd w q cid 1 = some c → ∃ t, exec (.read w q cid) s = .next t ∧ Completed w q c p cREGION_OFFLINE 0 0 0 s t)
      ∧ (s.queueCmd w q cid 3 = some c → ∃ t, exec (.dirRead w q cid) s = .next t ∧ Completed w q c p cREGION_OFFLINE 0 0 0 s t))
    ∧ (s.getP P.CXL_REGION_STATE x.region ≠ 4 → s.queueCmd w q cid 3 = some c → ∀ (l : List Clip) (d : List Byte),
      l = (x.clips.filter fun k => k.phase == 2 && decide (sqField c.entry 8 4 ≤ k.id)).take (sqField c.entry 0x20 4 / 128) → d = l.flatMap Clip.dirEntry →
      s.hostGood h d.length = d.length → ∃ t, exec (.dirRead w q cid) s = .next t
        ∧ Completed w q c p 0 d.length (l.length + at' 32 ((x.openClip.map fun k => k.id % 2 ^ 32).getD 0)) 0
          { s with ctl := { s.ctl with hostMem := putBytes zeroByte s.ctl.hostMem h d } } t)
    ∧ (s.getP P.CXL_REGION_STATE x.region ≠ 4 → (x.clips.find? fun k => k.id == sqField c.entry 8 4 && k.phase != 3) = none → 1 ≤ sqField c.entry 8 4 →
      sqField c.entry 8 4 < x.nextClip → (s.queueCmd w q cid 1 = some c → ∃ t, exec (.read w q cid) s = .next t ∧ Completed w q c p 0x58 0 0 0 s t)
        ∧ (s.queueCmd w q cid 4 = some c → ∃ t, exec (.indexRead w q cid) s = .next t ∧ Completed w q c p 0x58 0 0 0 s t))
    ∧ (∀ (k : Clip) (d : List Byte), s.getP P.CXL_REGION_STATE x.region ≠ 4 → s.dram.flaws = [] → (x.clips.find? fun k => k.id == sqField c.entry 8 4 && k.phase != 3) = some k →
      s.hostGood h d.length = d.length →
      (s.queueCmd w q cid 1 = some c → d = ((k.recs.flatMap fun r => r.bytes k.id).drop (sqField c.entry 0x10 8)).take (min (sqField c.entry 0x20 4) (k.bytes - sqField c.entry 0x10 8)) →
        s.streamPoison k (sqField c.entry 0x10 8) (min (sqField c.entry 0x20 4) (k.bytes - sqField c.entry 0x10 8)) = none → ∃ t, exec (.read w q cid) s = .next t
          ∧ Completed w q c p 0 d.length (k.bytes + at' 63 (b2n (k.phase == 2))) 0 { s with ctl := { s.ctl with hostMem := putBytes zeroByte s.ctl.hostMem h d } } t)
      ∧ (s.queueCmd w q cid 4 = some c →
        d = (((k.recs.foldl (fun (a : List (List Byte) × Nat) r => (a.1 ++ [indexEntry r a.2], a.2 + r.len)) ([], 0)).1.drop (sqField c.entry 0x10 8)).take
          (sqField c.entry 0x20 4 / 32)).flatten → ∃ t, exec (.indexRead w q cid) s = .next t
          ∧ Completed w q c p 0 d.length (min (sqField c.entry 0x20 4 / 32) (k.recs.length - sqField c.entry 0x10 8) + at' 32 k.recs.length) 0
            { s with ctl := { s.ctl with hostMem := putBytes zeroByte s.ctl.hostMem h d } } t)
      ∧ (∀ (r : Rec) (bl : List Byte) (ok : Bool) (n : Nat), s.queueCmd w q cid 2 = some c →
        (k.recs.find? fun r => r.typ == 1 && r.source == sqField c.entry 5 1 && r.tag == sqField c.entry 0x0C 4) = some r →
        n = r.field 0x28 2 * (r.field 0x26 2 * r.field 0x2A 1 / 8) → n ≤ sqField c.entry 0x20 4 → sqField c.entry 0x28 8 = 0 → r.field 0x2C 2 = 1 →
        r.field 0x28 2 ≤ max (blockLines (r.field 0x2A 1) (r.field 0x26 2)) 1 → frameBlockBytes r = [bl] → (decodeBlock bl).2 = ok → d = (decodeBlock bl).1.take n →
        s.streamPoison k ((k.recs.takeWhile fun q => q != r).foldl (fun n q => n + q.len) 0) r.len = none → ∃ t e, exec (.readFrame w q cid) s = .next t
          ∧ e.getP P.FR_DECODE_ERRORS (s.decodeEngine (sqField c.entry 5 1))
            = min (s.getP P.FR_DECODE_ERRORS (s.decodeEngine (sqField c.entry 5 1)) + b2n (!ok)) (2 ^ 32 - 1)
          ∧ SameParams [pkey P.FR_DECODE_ERRORS (s.decodeEngine (sqField c.entry 5 1))] s e
          ∧ e = { s with params := e.params, ctl := { s.ctl with hostMem := putBytes zeroByte s.ctl.hostMem h d } }
          ∧ Completed w q c p (if ok then 0 else 0xD) d.length (1 + at' 16 (b2n (!ok)) + at' 32 (r.field 0x20 4)) 0 e t)))
  ∧ (∀ (w q cid b h n : Nat) (l : List Byte) (m : SMap Byte) (p : Pair) (c : QCmd) (x : Bin) (r : Rec) (s : State), w < 64 → q < 16 → cid < 65536 →
    s.pair? w q = some p → s.queueCmd w q cid 5 = some c → c.fate = 0 → s.noDeletes → badField c.entry = none → s.hostGood (p.cqBase + 32 * p.cqTail) 32 = 32 → b = sqField c.entry 4 1 →
    h = sqField c.entry 0x18 8 → n = sqField c.entry 0x20 4 → sqField c.entry 1 1 = 1 → s.bin? b = some x → s.binState b = 3 → s.hostGood h n = n →
    m = (if l = [] then s.ctl.hostMem else putBytes zeroByte s.ctl.hostMem h l) → importRecords n (takeBytes zeroByte m h n) [] = some [r] →
    (∀ k ∈ x.clips, k.phase ≠ 3 ∧ k.id ≠ x.nextClip) → x.woff + r.len ≤ segBytes → 0 < r.len → x.held ≤ x.quota → ∃ t e y, exec (.importClip w q cid l) s = .next t
      ∧ Completed w q c p 0 n (x.nextClip % 2 ^ 32) 0 e t ∧ BinOnly b { s with ctl := { s.ctl with hostMem := m } } e ∧ e.bin? b = some y
      ∧ y.nextClip = x.nextClip + 1 ∧ y.seq = x.seq + 1 ∧ y.woff = x.woff + r.len ∧ y.clips = x.clips ++ [{
          id := x.nextClip, first := r.tag, last := r.tag, t0 := s.now, phase := 3, sources := s.getP P.FR_BIN_SOURCES b
          recs := [{ r with seq := x.seq, pieces := [(x.wseg, x.woff, r.len)] }] }])
  ∧ (∀ (w q cid : Nat) (p : Pair) (c : QCmd) (s : State), w < 64 → q < 16 → cid < 65536 → s.pair? w q = some p → s.hostGood (p.cqBase + 32 * p.cqTail) 32 = 32 → s.noDeletes →
    (s.queueCmd w q cid 6 = some c → c.fate = 0 → badField c.entry = none → ∃ t, exec (.cqFence w q cid) s = .next t ∧ Completed w q c p 0 0 0 0 s t)
    ∧ ((p.cmds.find? fun d => d.cid == cid) = some c → sqField c.entry 0x24 4 = 0 → exec (.cqCommandTimeout w q cid) s = .next s)
    ∧ ((p.cmds.find? fun d => d.cid == cid) = some c → sqField c.entry 0x24 4 ≠ 0 → s.queuesRun = true → ∃ t, exec (.cqCommandTimeout w q cid) s = .next t
      ∧ Completed w q c p 9 0 0 0 { s with now := max s.now (c.time + sqField c.entry 0x24 4 * 1000000) } t))

/-- BIN_CREATE, BIN_DELETE, BIN_FORMAT, BIN_SANITISE, their progress, their end and their status (11_clip_queues.md, 10_recording.md) -/
def Obligations.BinsAreAdministered : Prop :=
  (∀ (c : Cmd) (b r n v : Nat) (s : State), s.accepts true 0x0720 c → c.operands 8 0xFFFF0000 → b = c.f 0 8 → r = c.f 8 8 → n = regionSegs (s.getP P.CXL_REGION_SIZE r) →
    v = (if c.f 32 32 = 0 then n - 2 else c.f 32 32) →
    ((64 ≤ b ∨ 32 ≤ r) → ∃ t, exec (.binCreate c) s = .next t ∧ Answered 0x0720 c 4 0 0 t ∧ CommandOnly c s t)
    ∧ (b < 64 → r < 32 → (s.binState b ≠ 0 ∨ s.bin? b ≠ none) → ∃ t, exec (.binCreate c) s = .next t ∧ Answered 0x0720 c 5 0 0 t ∧ CommandOnly c s t)
    ∧ (b < 64 → r < 32 → s.binState b = 0 → s.bin? b = none →
      (s.getP P.CXL_REGION_STATE r ≠ 1 → ∃ t, exec (.binCreate c) s = .next t ∧ Answered 0x0720 c cREGION_OFFLINE 0 0 t ∧ CommandOnly c s t)
      ∧ (s.getP P.CXL_REGION_STATE r = 1 → s.binOn r ≠ none → ∃ t, exec (.binCreate c) s = .next t ∧ Answered 0x0720 c 2 0 0 t ∧ CommandOnly c s t)
      ∧ (s.getP P.CXL_REGION_STATE r = 1 → s.binOn r = none → n < 8 → ∃ t, exec (.binCreate c) s = .next t ∧ Answered 0x0720 c 6 0 0 t ∧ CommandOnly c s t)
      ∧ (s.getP P.CXL_REGION_STATE r = 1 → s.binOn r = none → 8 ≤ n → n - 2 < c.f 32 32 → ∃ t, exec (.binCreate c) s = .next t ∧ Answered 0x0720 c 4 0 0 t ∧ CommandOnly c s t)
      ∧ (s.getP P.CXL_REGION_STATE r = 1 → s.binOn r = none → 8 ≤ n → c.f 32 32 ≤ n - 2 → ∃ t, exec (.binCreate c) s = .next t ∧ Answered 0x0720 c 0 8 (n + at' 32 v) t
        ∧ t.bin? b = some { region := r, segs := n, quota := v, wseg := n - 1, woff := segBytes, admin := some { op := 1, total := (n + 1) * segBytes, start := s.now } }
        ∧ t.binState b = 1 ∧ t.getP P.FR_BIN_QUOTA b = v ∧ t.getP P.BIN_ADMIN_PROGRESS b = 0 ∧ BinCommand c b s t)))
  ∧ (∀ (c : Cmd) (b : Nat) (s : State), s.accepts true 0x0721 c → c.operands 4 0xFFFFFE00 → b = c.f 0 8 →
    (64 ≤ b → ∃ t, exec (.binDelete c) s = .next t ∧ Answered 0x0721 c 4 0 0 t ∧ CommandOnly c s t)
    ∧ (b < 64 → s.bin? b = none → ∃ t, exec (.binDelete c) s = .next t ∧ Answered 0x0721 c 5 0 0 t ∧ CommandOnly c s t)
    ∧ ∀ x, b < 64 → s.bin? b = some x →
      ((s.binState b = 1 ∨ s.binState b = 5 ∧ s.getP P.CXL_REGION_STATE x.region = 3 ∨ x.deleting ≠ none) → ∃ t, exec (.binDelete c) s = .next t ∧ Answered 0x0721 c 2 0 0 t ∧ CommandOnly c s t)
      ∧ (x.deleting = none → (s.binState b = 2 ∨ s.binState b = 4 ∨ s.binState b = 3 ∧ (s.getP P.FR_BIN_ARM b = 1 ∨ x.hasProtected = true ∧ c.f 8 1 = 0)) →
        ∃ t, exec (.binDelete c) s = .next t ∧ Answered 0x0721 c 5 0 0 t ∧ CommandOnly c s t)
      ∧ ((s.binState b = 3 ∨ s.binState b = 5 ∧ s.getP P.CXL_REGION_STATE x.region ≠ 3) → s.getP P.FR_BIN_ARM b ≠ 1 → (x.hasProtected = false ∨ c.f 8 1 = 1) →
        x.deleting = none → s.binRead b = true → ∃ t y, exec (.binDelete c) s = .next t ∧ WaitsEvents 0x0721 c { s with
            params := t.params, cq := { s.cq with pairs := t.cq.pairs }, fr := { s.fr with bins := t.fr.bins } } t ∧ SamePairs s t ∧ t.bin? b = some y
          ∧ y = { x with clips := x.clips.filter fun k => k.phase != 3, deleting := some s.newTicket } ∧ (∀ k, k ≠ b → t.bin? k = s.bin? k)
          ∧ SameParams (binKeys b) s t)
      ∧ ((s.binState b = 3 ∨ s.binState b = 5 ∧ s.getP P.CXL_REGION_STATE x.region ≠ 3) → s.getP P.FR_BIN_ARM b ≠ 1 → (x.hasProtected = false ∨ c.f 8 1 = 1) →
        x.deleting = none → s.binRead b = false → (∀ f ∈ s.fr.wb, b ∉ f.bins) → ∃ t, exec (.binDelete c) s = .next t ∧ Answered 0x0721 c 0 0 0 t ∧ t.bin? b = none ∧ t.binState b = 0
          ∧ t.getP P.FR_BIN_USED b = 0 ∧ t.getP P.FR_BIN_PROTECTED b = 0 ∧ t.getP P.FR_BIN_OLDEST b = 0 ∧ BinCommand c b s t))
  ∧ (∀ (c : Cmd) (i : Instr) (op k n r b : Nat) (s : State), (i, op, k, n, r) ∈ [(.binFormat c, 0x0722, 1, 4, 0xFFFFFE00), (.binSanitise c, 0x0723, 2, 8, 0xFFFFFE00)] →
    s.accepts true op c → c.operands n r → b = c.f 0 8 →
    ((64 ≤ b ∨ k = 2 ∧ c.f 32 32 ≠ 0x53414E49) → ∃ t, exec i s = .next t ∧ Answered op c 4 0 0 t ∧ CommandOnly c s t)
    ∧ (b < 64 → (k = 2 → c.f 32 32 = 0x53414E49) → s.bin? b = none → ∃ t, exec i s = .next t ∧ Answered op c 5 0 0 t ∧ CommandOnly c s t)
    ∧ ∀ x, b < 64 → (k = 2 → c.f 32 32 = 0x53414E49) → s.bin? b = some x →
      ((s.binState b = 1 ∨ x.deleting ≠ none) → ∃ t, exec i s = .next t ∧ Answered op c 2 0 0 t ∧ CommandOnly c s t)
      ∧ (s.binState b ≠ 1 → x.deleting = none → (s.binState b ≠ 3 ∨ s.getP P.FR_BIN_ARM b = 1 ∨ x.hasProtected = true ∧ c.f 8 1 = 0) →
        ∃ t, exec i s = .next t ∧ Answered op c 5 0 0 t ∧ CommandOnly c s t)
      ∧ (s.binState b = 3 → x.deleting = none → s.getP P.FR_BIN_ARM b ≠ 1 → (x.hasProtected = false ∨ c.f 8 1 = 1) → ∃ t y, exec i s = .next t ∧ Answered op c 0 0 0 t ∧ t.bin? b = some y
        ∧ y.clips = [] ∧ y.shed = [] ∧ y.seq = 0 ∧ y.nextClip = 1 ∧ y.region = x.region ∧ y.segs = x.segs ∧ y.quota = x.quota
        ∧ y.admin = some { op := k, total := (x.segs + 1) * segBytes, start := s.now } ∧ t.binState b = 1 ∧ t.getP P.BIN_ADMIN_PROGRESS b = 0
        ∧ t.getP P.FR_BIN_USED b = 0 ∧ BinCommand c b s t))
  ∧ (∀ (c : Cmd) (b : Nat) (s : State), s.accepts false 0x0724 c → c.operands 1 0 → b = c.f 0 8 →
    (64 ≤ b → ∃ t, exec (.binAdminStatus c) s = .next t ∧ Answered 0x0724 c 4 0 0 t ∧ CommandOnly c s t)
    ∧ (b < 64 → ((s.bin? b).bind fun x => x.admin) = none → ∃ t, exec (.binAdminStatus c) s = .next t ∧ Answered 0x0724 c 0 24 0 t ∧ CommandOnly c s t)
    ∧ (∀ a, b < 64 → ((s.bin? b).bind fun x => x.admin) = some a → ∃ t, exec (.binAdminStatus c) s = .next t
      ∧ Answered 0x0724 c 0 24 (a.op + at' 16 (a.resumed % 65536) + at' 32 a.pos + at' 96 a.total + at' 160 (a.failed % 2 ^ 32)) t ∧ CommandOnly c s t))
  ∧ (∀ (b n : Nat) (s : State), b < 64 → (((s.bin? b).bind fun x => x.admin) = none ∨ s.binState b ≠ 1) →
    exec (.adminProgress b n) s = .next s ∧ exec (.adminDone b) s = .next s)
  ∧ (∀ (b : Nat) (x : Bin) (a : BinAdmin) (s : State), b < 64 → s.bin? b = some x → x.admin = some a → s.binState b = 1 →
    ((∃ t, exec (.adminProgress b 0) s = .next t ∧ t.bin? b = some { x with admin := some { a with pos := min (a.pos + 0x40000000) a.total } }
      ∧ (∀ k, k ≠ b → t.bin? k = s.bin? k) ∧ t.getP P.BIN_ADMIN_PROGRESS b = min (a.pos + 0x40000000) a.total * 1000 / max a.total 1
      ∧ SameParams [pkey P.BIN_ADMIN_PROGRESS b] s t ∧ t = { s with params := t.params, fr := { s.fr with bins := t.fr.bins } })
    ∧ (a.op = 2 → ∃ t, exec (.adminProgress b 1) s = .next t
      ∧ t.bin? b = some { x with admin := some { a with pos := min (a.pos + 0x40000000) a.total, failed := a.failed + 1 } } ∧ (∀ k, k ≠ b → t.bin? k = s.bin? k)
      ∧ (t.ctl.faultLog.getLast?.map fun f => (f.seq, f.cls, f.idx, f.code)) = some (s.ctl.faultNext, 0xA, b, 0x0701) ∧ SameParams [pkey P.BIN_ADMIN_PROGRESS b] s t
      ∧ EventsOnly { s with
          params := t.params, fr := { s.fr with bins := t.fr.bins }, ctl := { s.ctl with faultLog := t.ctl.faultLog, faultNext := t.ctl.faultNext } } t)
    ∧ ∃ t, exec (.adminDone b) s = .next t ∧ t.binState b = 3 ∧ t.getP P.BIN_ADMIN_PROGRESS b = 1000
      ∧ t.bin? b = some { x with admin := none, hdrA := 0, hdrB := 1, gen := x.gen + 1, ckpt := 0, ckptTime := s.now, durable := 0, passes := [(0, 1), (1, 1)] }
      ∧ BinOnly b s t))
  ∧ (∀ (w q cid b tk : Nat) (p : Pair) (k : QCmd) (x : Bin) (f : Flight) (s : State), w < 64 → q < 16 → cid < 65536 → s.cq.pairs = [(w * 16 + q, some p)] →
    p.cmds = [k] → k.cid = cid → k.fate = 1 → b = sqField k.entry 4 1 → sqField k.entry 0x24 4 ≠ 0 → s.queuesRun = true → s.binList = [b] → s.bin? b = some x →
    x.deleting = some tk → s.awaits tk f → (∀ g ∈ s.fr.wb, b ∉ g.bins) → ∃ t, exec (.cqCommandTimeout w q cid) s = .next t
      ∧ Answered 0x0721 f.cmd 0 0 0 t ∧ t.bin? b = none ∧ t.binState b = 0)

/-- VC_OPEN, VC_CLOSE, KEY_NOW and VC_PICTURE_READ (12_video_codec.md) -/
def Obligations.StreamsOpenAndClose : Prop :=
  (∀ (c : Cmd) (e m : Nat) (l : List Nat) (s : State), s.accepts false 0x0801 c → c.win < 64 → c.operands 12 0 → e = c.f 0 8 → m = c.f 8 8 →
    (vcOpenOperands c = false ∨ s.preview.streamOk e m = false → ∃ t, exec (.vcOpen c) s = .next t ∧ Answered 0x0801 c 4 0 0 t ∧ CommandOnly c s t)
    ∧ (vcOpenOperands c = true → s.preview.streamOk e m = true →
      (m = 3 → s.bin? (c.f 16 8) = none → ∃ t, exec (.vcOpen c) s = .next t ∧ Answered 0x0801 c 5 0 0 t ∧ CommandOnly c s t)
      ∧ ((m = 3 → s.bin? (c.f 16 8) ≠ none) → s.vcState e ≠ 0 → ∃ t, exec (.vcOpen c) s = .next t ∧ Answered 0x0801 c 2 0 0 t ∧ CommandOnly c s t)
      ∧ ((m = 3 → s.bin? (c.f 16 8) ≠ none) → s.vcState e = 0 → ∀ r : State × List Nat × Option Nat,
        r = (if m = 1 then s.codecAlloc e (ycStride (s.preview.capture e).outW * (s.preview.capture e).outH) 2
          else if m = 2 then s.codecAlloc e 0x4000000 1 else (s, [], none)) →
        (∀ k, r.2.2 = some k → ∃ t, exec (.vcOpen c) s = .next t ∧ Answered 0x0801 c k 0 0 t ∧ CommandOnly c s t)
        ∧ (r.2 = (l, none) → ∃ t, exec (.vcOpen c) s = .next t ∧ Answered 0x0801 c 0 4 (t.vcp e P.VC_BW_RESERVED) t ∧ t.vcp e P.VC_HOLDER = c.win ∧ t.vcp e P.VC_MODE = m
          ∧ t.vcState e = (if m = 1 ∧ s.cvState (s.vcp e P.VC_CAP_CANVAS) = 2 ∧ (s.canvas (s.vcp e P.VC_CAP_CANVAS)).held = false then 2 else 1)
          ∧ t.vcp e P.VC_INPUT_FREE = (if m = 2 then 0x4000000 else 0)
          ∧ t.engine e = { bin := c.f 16 8, recEngine := c.f 24 8, clip := if m = 3 then c.f 32 32 else 0, tag := c.f 64 32, bufs := l
                           width := (s.preview.capture e).outW, height := (s.preview.capture e).outH
                           freeing := (s.engine e).freeing, dropped := (s.engine e).dropped }
          ∧ OtherEngines e s t ∧ t.dram.buffers = r.1.dram.buffers ∧ (∀ a, t.devByte a = r.1.devByte a) ∧ SameParams (engineKeys e ++ (bwKeys ++ memoryKeys)) s t
          ∧ CommandEvents c { s with params := t.params, dram := t.dram, vc := { s.vc with engines := t.vc.engines } } t))))
  ∧ (∀ (c : Cmd) (e : Nat) (s : State), s.accepts false 0x0802 c → c.win < 64 → c.operands 1 0 → e = c.f 0 8 →
    (2 ≤ e → ∃ t, exec (.vcClose c) s = .next t ∧ Answered 0x0802 c 4 0 0 t ∧ CommandOnly c s t)
    ∧ (e < 2 → (s.vcState e = 0 ∨ c.win ≠ 0 ∧ s.vcp e P.VC_HOLDER ≠ c.win) → ∃ t, exec (.vcClose c) s = .next t ∧ Answered 0x0802 c 0x61 0 0 t ∧ CommandOnly c s t)
    ∧ (e < 2 → s.vcState e ≠ 0 → (s.vcp e P.VC_HOLDER = c.win ∨ c.win = 0) → (s.engine e).closing = none →
      ((s.vcState e = 2 ∨ (s.engine e).work ≠ none) → c.immediate = false → ∃ t, exec (.vcClose c) s = .next t
        ∧ t.engine e = { s.engine e with closing := some (1, [s.newTicket]) } ∧ OtherEngines e s t ∧ Waits 0x0802 c { s with vc := { s.vc with engines := t.vc.engines } } t)
      ∧ ((s.vcState e = 2 ∨ (s.engine e).work ≠ none) → c.immediate = true → ∃ t, exec (.vcClose c) s = .next t ∧ Answered 0x0802 c 0 0 0 t
        ∧ t.engine e = { s.engine e with closing := some (1, []) } ∧ OtherEngines e s t ∧ CommandOnly c { s with vc := { s.vc with engines := t.vc.engines } } t)
      ∧ (s.vcState e ≠ 2 → (s.engine e).work = none → (s.engine e).feeds = [] → (s.engine e).keys = [] → ∃ t, exec (.vcClose c) s = .next t ∧ Answered 0x0802 c 0 0 0 t
        ∧ t.vcState e = 0 ∧ t.vcp e P.VC_HOLDER = 255 ∧ t.vcp e P.VC_MODE = 0 ∧ t.vcp e P.VC_BW_RESERVED = 0 ∧ t.vcp e P.VC_LOAD = 0 ∧ t.vcp e P.VC_INPUT_FREE = 0
        ∧ (t.engine e).closing = none ∧ (t.engine e).bufs = [] ∧ (t.engine e).records = (s.engine e).records
        ∧ (∀ k, k ≠ e → t.engine k = { s.engine k with freeing := (t.engine k).freeing }) ∧ SameParams (engineKeys e ++ (bwKeys ++ memoryKeys)) s t
        ∧ CommandEvents c { s with params := t.params, dram := t.dram, vc := { s.vc with engines := t.vc.engines } } t)))
  ∧ (∀ (c : Cmd) (e : Nat) (s : State), s.accepts false 0x0803 c → c.win < 64 → c.operands 1 0 → e = c.f 0 8 →
    (2 ≤ e → ∃ t, exec (.keyNow c) s = .next t ∧ Answered 0x0803 c 4 0 0 t ∧ CommandOnly c s t)
    ∧ (e < 2 → s.holds c.win e = false → ∃ t, exec (.keyNow c) s = .next t ∧ Answered 0x0803 c 0x61 0 0 t ∧ CommandOnly c s t)
    ∧ (e < 2 → s.holds c.win e = true → s.vcp e P.VC_MODE ≠ 1 → ∃ t, exec (.keyNow c) s = .next t ∧ Answered 0x0803 c 0x60 0 0 t ∧ CommandOnly c s t)
    ∧ (e < 2 → s.holds c.win e = true → s.vcp e P.VC_MODE = 1 → c.immediate = true → ∃ t, exec (.keyNow c) s = .next t ∧ Answered 0x0803 c 0 0 0 t
      ∧ t.engine e = { s.engine e with idr := 1 :: (s.engine e).idr } ∧ OtherEngines e s t ∧ CommandOnly c { s with vc := { s.vc with engines := t.vc.engines } } t)
    ∧ (e < 2 → s.holds c.win e = true → s.vcp e P.VC_MODE = 1 → c.immediate = false → ∃ t, exec (.keyNow c) s = .next t
      ∧ t.engine e = { s.engine e with idr := 1 :: (s.engine e).idr, keys := (s.engine e).keys ++ [s.newTicket] } ∧ OtherEngines e s t
      ∧ Waits 0x0803 c { s with vc := { s.vc with engines := t.vc.engines } } t))
  ∧ (∀ (c : Cmd) (e h n : Nat) (s : State), s.accepts false 0x0805 c → c.win < 64 → c.operands 20 0xFFFF0000 → e = c.f 0 8 → h = c.f 64 64 → n = c.f 128 32 →
    ((2 ≤ e ∨ 2 ≤ c.f 8 8 ∨ h = 0 ∨ h % 64 ≠ 0 ∨ n < 64 ∨ 2112 < n ∨ n % 64 ≠ 0) →
      ∃ t, exec (.vcPictureRead c) s = .next t ∧ Answered 0x0805 c 4 0 0 t ∧ CommandOnly c s t)
    ∧ ∀ o : Option PicRecord, e < 2 → c.f 8 8 < 2 → h ≠ 0 → h % 64 = 0 → 64 ≤ n → n ≤ 2112 → n % 64 = 0 →
      o = (if c.f 8 8 = 0 then (s.engine e).records.head? else (s.engine e).records.find? fun r => r.number == c.f 32 32) →
      (o = none → ∃ t, exec (.vcPictureRead c) s = .next t ∧ Answered 0x0805 c 0x62 0 0 t ∧ CommandOnly c s t)
      ∧ (∀ r, o = some r → c.host = [] → s.hostGood h n = n → ∃ t, exec (.vcPictureRead c) s = .next t ∧ Answered 0x0805 c 0 8 (r.number + at' 32 n) t
        ∧ takeBytes zeroByte t.ctl.hostMem h n = r.toBytes.take n
        ∧ CommandOnly c { s with ctl := { s.ctl with hostMem := putBytes zeroByte s.ctl.hostMem h (r.toBytes.take n) } } t)
      ∧ (∀ r, o = some r → c.host = [] → s.hostGood h n < n → ∃ t m, exec (.vcPictureRead c) s = .next t ∧ Answered 0x0805 c 0xB 0 0 t
        ∧ CommandOnly c { s with ctl := { s.ctl with hostMem := m } } t))

/-- VC_DEC_FEED and its timer, decode pacing, the completion of pictures and their deadline (12_video_codec.md) -/
def Obligations.PicturesAreFedDecodedAndCompleted : Prop :=
  (∀ (c : Cmd) (e n a : Nat) (s : State), s.accepts false 0x0804 c → c.win < 64 → c.operands 16 0xFFFFFC00 → e = c.f 0 8 → n = c.f 32 32 → a = c.f 64 64 →
    ((2 ≤ e ∨ 0x1000000 < n ∨ n = 0 ∧ c.f 8 1 = 0) → ∃ t, exec (.vcDecFeed c) s = .next t ∧ Answered 0x0804 c 4 0 0 t ∧ CommandOnly c s t)
    ∧ (e < 2 → n ≤ 0x1000000 → (n ≠ 0 ∨ c.f 8 1 = 1) →
      (s.holds c.win e = false → ∃ t, exec (.vcDecFeed c) s = .next t ∧ Answered 0x0804 c 0x61 0 0 t ∧ CommandOnly c s t)
      ∧ (s.holds c.win e = true → s.vcp e P.VC_MODE ≠ 2 → ∃ t, exec (.vcDecFeed c) s = .next t ∧ Answered 0x0804 c 0x60 0 0 t ∧ CommandOnly c s t)
      ∧ (s.holds c.win e = true → s.vcp e P.VC_MODE = 2 → (s.engine e).ended = true → ∃ t, exec (.vcDecFeed c) s = .next t ∧ Answered 0x0804 c 0x63 0 0 t ∧ CommandOnly c s t)
      ∧ (s.holds c.win e = true → s.vcp e P.VC_MODE = 2 → (s.engine e).ended = false → (∀ f ∈ (s.engine e).feeds, f.fin = false) → c.host = [] →
        (c.f 9 1 = 0 → s.hostGood a n < n → ∃ t, exec (.vcDecFeed c) s = .next t ∧ Answered 0x0804 c 0xB 0 0 t ∧ CommandOnly c s t)
        ∧ (c.f 9 1 = 1 → n ≠ 0 → s.hostBuffer a n = none → ∃ t, exec (.vcDecFeed c) s = .next t ∧ Answered 0x0804 c 0x50 0 0 t ∧ CommandOnly c s t)
        ∧ ∀ l : List Byte, (c.f 9 1 = 0 ∧ s.hostGood a n = n ∧ l = takeBytes zeroByte s.ctl.hostMem a n
            ∨ c.f 9 1 = 1 ∧ s.firstPoison a n = none ∧ s.dram.flaws = [] ∧ l = s.devRead a n
              ∧ ∃ b, s.hostBuffer a n = some b ∧ (b.carve = 2 ∨ b.carve = 3) ∧ b.window = some c.win) →
          ((s.engine e).feeds = [] → (s.engine e).input.length + n ≤ 0x4000000 → ∃ t, exec (.vcDecFeed c) s = .next t ∧ Answered 0x0804 c 0 0 0 t
            ∧ t.engine e = { s.engine e with input := (s.engine e).input ++ l, ended := c.f 8 1 == 1 } ∧ OtherEngines e s t
            ∧ t.vcp e P.VC_INPUT_FREE = 0x4000000 - ((s.engine e).input.length + n) ∧ SameParams [pkey (P.vc e P.VC_INPUT_FREE) 0] s t
            ∧ CommandOnly c { s with params := t.params, vc := { s.vc with engines := t.vc.engines } } t)
          ∧ (((s.engine e).feeds = [] ∧ 0x4000000 < (s.engine e).input.length + n
              ∨ ∃ g r, (s.engine e).feeds = g :: r ∧ 0x4000000 < (s.engine e).input.length + (s.feedBytes g).length) →
            ∃ t f, exec (.vcDecFeed c) s = .next t ∧ t.engine e = { s.engine e with feeds := (s.engine e).feeds ++ [f] } ∧ f.ticket = s.newTicket
              ∧ s.feedBytes f = l ∧ f.fin = (c.f 8 1 == 1) ∧ f.since = s.now ∧ OtherEngines e s t ∧ Waits 0x0804 c { s with vc := { s.vc with engines := t.vc.engines } } t))))
  ∧ (∀ (e : Nat) (s : State), e < 2 → ((s.engine e).feeds = [] → exec (.feedTimeout e) s = .next s)
    ∧ (∀ f g, (s.engine e).feeds = [f] → s.awaits f.ticket g → ∃ t, exec (.feedTimeout e) s = .next t ∧ Answered g.opcode g.cmd 9 0 0 t
      ∧ t.engine e = { s.engine e with feeds := [] } ∧ OtherEngines e s t
      ∧ Replied g { s with now := max s.now (f.since + 1000000000), vc := { s.vc with engines := t.vc.engines } } t))
  ∧ (∀ (e t : Nat) (s : State), e < 2 → (s.vcState e = 0 ∨ s.vcState e = 3 ∨ s.vcp e P.VC_MODE < 2 ∨ s.paceTime e = none) → exec (.decodePace e t) s = .next { s with now := max s.now t })
  ∧ (∀ (e t now p : Nat) (x y : Engine) (u : List Byte) (irap : Bool) (s : State), e < 2 → s.engine e = x → x.work = none → x.closing = none → s.ctl.staged = [] →
    s.captureHeld = false → s.vcp e P.VC_DEC_PACE = 255 → x.pace = some p → s.getP P.TH_STEP 0 = 0 → now = max (max s.now t) p → (s.vcState e = 1 ∨ s.vcState e = 2) →
    (s.vcp e P.VC_MODE = 2 ∧ x.feeds = [] ∧ (∃ v rest, nextUnit x.input x.ended = some (u, v, rest) ∧ irap = decide (16 ≤ v ∧ v ≤ 23) ∧ x.badUnit = false ∧ (x.begun = true ∨ irap = true)
        ∧ ¬ (x.skipRasl = true ∧ (v = 8 ∨ v = 9)) ∧ y = { x with badUnit := false, input := rest, begun := true, skipRasl := if irap then !x.begun && v == 21 else x.skipRasl })
      ∨ s.vcp e P.VC_MODE = 3 ∧ ∃ l q r, s.proxyRecords e = [(x.clip, l)] ∧ x.nextSeq = some q ∧ (l.find? fun r => decide (q ≤ r.seq)) = some r ∧ irap = r.isIdr
        ∧ u = (r.body.drop 0x20).take (r.field 0x2C 4) ∧ y = { x with nextSeq := some (r.seq + 1), begun := true, badUnit := !(s.recPoison r).isEmpty }) →
    ∃ z, exec (.decodePace e t) s = .next z ∧ z.vcState e = 2
      ∧ z.engine e = { y with
          pace := some (p + s.vcp e P.VC_DEC_INTERVAL), paceDue := false, mode := if irap then s.vcp e P.VC_DEC_MODE else x.mode, number := (x.number + 1) % 2 ^ 32
          work := some {
            number := x.number, tag := s.ring.tag, start := now, deadline := p + s.vcp e P.VC_DEC_INTERVAL, idr := if irap then some 0 else none, unit := u
            poisoned := y.badUnit } }
      ∧ OtherEngines e s z ∧ SameParams [pkey (P.vc e P.VC_STATE) 0, pkey (P.vc e P.VC_INPUT_FREE) 0] s z ∧ EventsOnly { s with
          now := now, params := z.params, vc := { s.vc with engines := z.vc.engines }
          ctl := { s.ctl with reached := z.ctl.reached, reachedAt := z.ctl.reachedAt } } z)
  ∧ (∀ (e t : Nat) (o : PicOutcome) (s : State), e < 2 → (s.engine e).work = none →
    exec (.pictureDone e t o) s = .next { s with now := max s.now t } ∧ exec (.pictureDeadline e) s = .next s)
  ∧ (∀ (e t : Nat) (o : PicOutcome) (x : Engine) (w : PicWork) (s : State), e < 2 → s.engine e = x → x.work = some w → x.closing = none →
    ¬ (s.vcp e P.VC_MODE = 2 ∧ x.atEnd = true) →
    (w.deadline < t → ∃ u, exec (.pictureDone e t o) s = .next u
      ∧ u.engine e = { x with work := none, skipped := x.skipped + 1, dropped := x.dropped + 1, idr := w.idr.toList ++ x.idr } ∧ OtherEngines e s u
      ∧ u.vcp e P.VC_SKIPPED = min (s.vcp e P.VC_SKIPPED + 1) (2 ^ 32 - 1) ∧ SameParams [pkey (P.vc e P.VC_SKIPPED) 0] s u
      ∧ u = { s with now := max s.now t, params := u.params, vc := { s.vc with engines := u.vc.engines } })
    ∧ (∃ u, exec (.pictureDeadline e) s = .next u
      ∧ u.engine e = { x with work := none, skipped := x.skipped + 1, dropped := x.dropped + 1, idr := w.idr.toList ++ x.idr } ∧ OtherEngines e s u
      ∧ u.vcp e P.VC_SKIPPED = min (s.vcp e P.VC_SKIPPED + 1) (2 ^ 32 - 1) ∧ SameParams [pkey (P.vc e P.VC_SKIPPED) 0] s u
      ∧ u = { s with now := max s.now w.deadline, params := u.params, vc := { s.vc with engines := u.vc.engines } })
    ∧ (t ≤ w.deadline → s.vcp e P.VC_MODE = 1 → 64 ≤ s.vcp e P.VC_ENC_BIN → ∀ (k : Option Nat) (m : List Nat) (r : PicRecord), s.clampAt e w o = k →
      m = (s.poisonUnits [w.buffer] x.width x.height).eraseDups →
      r = { tag := w.tag, number := w.number, poc := o.poc, picType := if w.idr.isSome then 0 else 2, flags := 16 + 2 * b2n k.isSome + b2n (!m.isEmpty), damage := m
            firstClamped := (k.map fun c => c / max (ctuCols x.width) 1).getD 0xFFFF, buffer := w.buffer, stride := ycStride x.width, width := x.width
            height := x.height, start := w.start, done := t, bits := min o.bits w.budget, budget := w.budget, qp := o.qpAvg, phase := w.phase, skipped := x.skipped } →
      ∃ u, exec (.pictureDone e t o) s = .next u ∧ u.engine e = { x with
          work := none, first := false, prevBits := r.bits, number := (x.number + 1) % 2 ^ 32, skipped := 0, gop := if w.idr.isSome then 1 else x.gop + 1
          records := (r :: x.records).take 16 }
        ∧ OtherEngines e s u ∧ u.vcp e P.VC_PICTURES = (s.vcp e P.VC_PICTURES + 1) % 2 ^ 32
        ∧ u.vcp e P.VC_KEYS = (if w.idr.isSome then (s.vcp e P.VC_KEYS + 1) % 2 ^ 32 else s.vcp e P.VC_KEYS)
        ∧ u.vcp e P.VC_CLAMPED = (if k.isSome then min (s.vcp e P.VC_CLAMPED + 1) (2 ^ 32 - 1) else s.vcp e P.VC_CLAMPED)
        ∧ u.vcp e P.VC_DAMAGED = (if m = [] then s.vcp e P.VC_DAMAGED else min (s.vcp e P.VC_DAMAGED + 1) (2 ^ 32 - 1))
        ∧ SameParams [pkey (P.vc e P.VC_PICTURES) 0, pkey (P.vc e P.VC_KEYS) 0, pkey (P.vc e P.VC_CLAMPED) 0, pkey (P.vc e P.VC_DAMAGED) 0] s u
        ∧ EventsOnly { s with now := max s.now t, params := u.params, vc := { s.vc with engines := u.vc.engines } } u)
    ∧ (t ≤ w.deadline → 2 ≤ s.vcp e P.VC_MODE → o.sps = none → x.badSps ≠ none → ∃ u, exec (.pictureDone e t o) s = .next u
      ∧ u.engine e = { x with work := none, skipped := x.skipped + 1 } ∧ OtherEngines e s u
      ∧ u.vcp e P.VC_SKIPPED = min (s.vcp e P.VC_SKIPPED + 1) (2 ^ 32 - 1) ∧ SameParams [pkey (P.vc e P.VC_SKIPPED) 0] s u
      ∧ u = { s with now := max s.now t, params := u.params, vc := { s.vc with engines := u.vc.engines } })
    ∧ (t ≤ w.deadline → 2 ≤ s.vcp e P.VC_MODE → o.sps = none → x.badSps = none → s.dram.flaws = [] → o.syntaxError = false → o.missingRef = false → o.output = [] → ∀ (a : Nat) (m : List Nat) (r : PicRecord),
      m = (o.marked ++ (if w.poisoned then List.range (cdiv o.width 64 * cdiv o.height 64) else if o.picType < 2 then []
        else s.poisonUnits (x.pics.map Prod.snd ++ (x.newest.map Prod.snd).toList) o.width o.height)).eraseDups →
      (x.bufs.find? fun a => !(s.pictureSelected a || x.newest.any (fun p => p.2 == a) || x.good == some a || x.pics.any fun p => p.2 == a)) = some a →
      r = { tag := w.tag, number := w.number, poc := o.poc, picType := o.picType, flags := b2n (!m.isEmpty) + 8 * b2n (x.mode == 1 && !m.isEmpty)
            buffer := a, stride := ycStride o.width, width := o.width, height := o.height, start := w.start, done := t, bits := o.bits, qp := o.qpAvg
            skipped := x.skipped, damage := m } →
      ∃ u, exec (.pictureDone e t o) s = .next u
        ∧ u.engine e = { x with work := none, skipped := 0, pics := x.pics ++ [(w.number, a)], records := (r :: x.records).take 16 } ∧ OtherEngines e s u
        ∧ u.vcp e P.VC_PICTURES = (s.vcp e P.VC_PICTURES + 1) % 2 ^ 32
        ∧ u.vcp e P.VC_DAMAGED = (if m = [] then s.vcp e P.VC_DAMAGED else min (s.vcp e P.VC_DAMAGED + 1) (2 ^ 32 - 1))
        ∧ (∀ y, y < o.height → u.devRead (a + y * ycStride o.width) (4 * o.width) = s.outputRow { o with marked := m } (x.mode == 1) x.good y)
        ∧ (∀ b, (b < a ∨ a + o.height * ycStride o.width ≤ b) → u.devByte b = s.devByte b)
        ∧ SameParams [pkey (P.vc e P.VC_PICTURES) 0, pkey (P.vc e P.VC_DAMAGED) 0] s u ∧ EventsOnly { s with
            now := max s.now t, params := u.params, vc := { s.vc with engines := u.vc.engines }
            dram := { s.dram with bytes := u.dram.bytes, poison := u.dram.poison } } u))

/-- Audio ports follow their clocks and frames; blocks are fetched, judged and started (13_calliope_audio.md) -/
def Obligations.AudioPortsFollowClocksAndPlayBlocks : Prop :=
  ((∀ (n : Nat) (x : AudioPort) (s : State), n < 16 → s.port n = x → (x.clock = true → exec (.audioClockDetect n) s = .next s)
    ∧ (x.clock = false → ∃ t, exec (.audioClockDetect n) s = .next t ∧ t.port n = { x with clock := true, edges := 0, missed := 0 }
      ∧ (∀ k, k ≠ n → t.port k = s.port k) ∧ t.apState n = (if s.apState n = 1 ∧ (s.partner (clockId n)).quarantined = false then 2 else s.apState n)
      ∧ (t.partner (clockId n)).present = true ∧ (t.partner (clockId n)).since = s.now
      ∧ (∀ q, partnerKey q ≠ partnerKey (clockId n) → t.partner q = s.partner q) ∧ SameParams [pkey (P.ap n P.AP_STATE) 0] s t
      ∧ EventsOnly { s with params := t.params, au := { s.au with ports := t.au.ports }, ctl := { s.ctl with partners := t.ctl.partners } } t)
    ∧ (x.clock = false → exec (.audioClockLost n) s = .next s)
    ∧ (x.clock = true → ∃ t, exec (.audioClockLost n) s = .next t
      ∧ t.port n = (if 2 ≤ s.apState n ∧ s.apState n ≤ 5 then { x.unplaced with clock := false } else { x with clock := false }) ∧ (∀ k, k ≠ n → t.port k = s.port k)
      ∧ t.apState n = (if 2 ≤ s.apState n ∧ s.apState n ≤ 5 then 1 else s.apState n) ∧ (t.partner (clockId n)).present = false
      ∧ (∀ q, partnerKey q ≠ partnerKey (clockId n) → t.partner q = s.partner q) ∧ SameParams [pkey (P.ap n P.AP_STATE) 0] s t
      ∧ EventsOnly { s with params := t.params, au := { s.au with ports := t.au.ports }, ctl := { s.ctl with partners := t.ctl.partners } } t))
  ∧ (∀ (n t b due : Nat) (l : List Nat) (o : Bool) (x : AudioPort) (s : State), n < 16 → s.port n = x → due = x.bclk + audioFrameBits (s.app n P.AP_RATE) →
    ((s.apState n < 2 ∨ 5 < s.apState n) → exec (.fsEdge n t b l o) s = .next { s with now := max s.now t })
    ∧ (s.apState n = 2 → x.edges = 0 → ∃ u, exec (.fsEdge n t b l o) s = .next u ∧ u.port n = { x with edges := 1, bclk := b, posTime := t }
      ∧ (∀ k, k ≠ n → u.port k = s.port k) ∧ u = { s with now := max s.now t, au := { s.au with ports := u.au.ports } })
    ∧ ((s.apState n = 2 ∧ x.edges ≠ 0 ∨ 3 ≤ s.apState n ∧ s.apState n ≤ 5) → b ≠ due → ∃ u, exec (.fsEdge n t b l o) s = .next u
      ∧ u.app n P.AP_FRAMING_ERRORS = min (s.app n P.AP_FRAMING_ERRORS + 1) (2 ^ 32 - 1) ∧ SameParams [pkey (P.ap n P.AP_FRAMING_ERRORS) 0] s u
      ∧ u = { s with now := max s.now t, params := u.params })
    ∧ (s.apState n = 2 → x.edges = 1 → b = due → ∃ u, exec (.fsEdge n t b l o) s = .next u ∧ u.port n = { x with edges := 2, bclk := b, posTime := t, missed := 0 }
      ∧ (∀ k, k ≠ n → u.port k = s.port k) ∧ u = { s with now := max s.now t, au := { s.au with ports := u.au.ports } })
    ∧ (s.apState n = 2 → x.edges = 2 → b = due → s.ctl.staged = [] → x.group = none → x.zero = false → x.pos = none → ∃ u m, exec (.fsEdge n t b l o) s = .next u
      ∧ u.apState n = 3 ∧ u.port n = { x with edges := 3, bclk := b, posTime := t, missed := 0 } ∧ (∀ k, k ≠ n → u.port k = s.port k)
      ∧ u.sent = .audio n m :: s.sent ∧ m.length = audioSlots (s.app n P.AP_RATE) ∧ (∀ v ∈ m, v = 0 ∨ v = 0x1000000) ∧ SameParams [pkey (P.ap n P.AP_STATE) 0] s u
      ∧ EventsOnly { s with
          now := max s.now t, params := u.params, sent := u.sent, au := { s.au with ports := u.au.ports }
          ctl := { s.ctl with reached := u.ctl.reached, reachedAt := u.ctl.reachedAt } } u)
    ∧ (∀ g p a, s.apState n = 4 → b = due → s.ctl.staged = [] → s.captureHeld = false → x.zero = false → x.group = some g → s.reference g = some n → x.pos = some p →
      x.line = some a → o = false → s.dram.flaws = [] → ∃ u m, exec (.fsEdge n t b l o) s = .next u ∧ (u.port n).pos = some (p + 1) ∧ (u.port n).posTime = t ∧ (u.port n).bclk = b
        ∧ (u.port n).missed = 0 ∧ (u.port n).group = some g ∧ (u.port n).line = some a ∧ (∀ k, k ≠ n → u.port k = s.port k)
        ∧ u.app n P.AP_POSITION = p + 1 ∧ u.app n P.AP_POS_TIME = t ∧ SameParams [pkey (P.ap n P.AP_POSITION) 0, pkey (P.ap n P.AP_POS_TIME) 0] s u
        ∧ SMap.get (fun _ => (0, 0)) u.au.lastPos g = (p + 1, t) ∧ u.sent = .audio n m :: s.sent ∧ m.length = audioSlots (s.app n P.AP_RATE)
        ∧ u.devRead (s.sampleAddr n a (p + 1) 0) (3 * audioSlots (s.app n P.AP_RATE))
          = ((List.range (audioSlots (s.app n P.AP_RATE))).flatMap fun k => leBytes (l.getD k 0) 3)
        ∧ (∀ q, (q < s.sampleAddr n a (p + 1) 0 ∨ s.sampleAddr n a (p + 1) 0 + 3 * audioSlots (s.app n P.AP_RATE) ≤ q) → u.devByte q = s.devByte q)
        ∧ u = { s with
            now := max s.now t, params := u.params, sent := u.sent, au := { s.au with ports := u.au.ports, lastPos := u.au.lastPos }
            dram := { s.dram with bytes := u.dram.bytes, poison := u.dram.poison }
            ctl := { s.ctl with reached := u.ctl.reached, reachedAt := u.ctl.reachedAt } }))
  ∧ (∀ (n t : Nat) (l : List Nat) (x : AudioPort) (s : State), n < 16 → s.port n = x → t = x.posTime + rdivN 1000000000 (s.apHz n) →
    ((s.apState n < 2 ∨ 5 < s.apState n) → exec (.fsFlywheel n l) s = .next s)
    ∧ (s.apState n = 2 → ∃ u, exec (.fsFlywheel n l) s = .next u ∧ u.port n = { x with edges := 0 } ∧ (∀ k, k ≠ n → u.port k = s.port k)
      ∧ u = { s with au := { s.au with ports := u.au.ports } })
    ∧ ((s.apState n = 5 ∨ s.apState n = 3 ∧ x.group = none ∧ x.zero = false) → x.pos = none → x.missed < 7 → ∃ u m, exec (.fsFlywheel n l) s = .next u
      ∧ u.port n = { x with bclk := x.bclk + audioFrameBits (s.app n P.AP_RATE), missed := x.missed + 1, posTime := t } ∧ (∀ k, k ≠ n → u.port k = s.port k)
      ∧ u.sent = .audio n m :: s.sent ∧ m.length = audioSlots (s.app n P.AP_RATE) ∧ (∀ v ∈ m, v = 0 ∨ v = 0x1000000)
      ∧ u = { s with now := max s.now t, sent := u.sent, au := { s.au with ports := u.au.ports } })
    ∧ ((s.apState n = 5 ∨ s.apState n = 3 ∧ x.group = none ∧ x.zero = false) → x.pos = none → 7 ≤ x.missed → ∃ u m, exec (.fsFlywheel n l) s = .next u
      ∧ u.apState n = 2 ∧ (u.port n).edges = 0 ∧ (u.port n).missed = 0 ∧ (u.port n).pos = none ∧ (u.port n).clock = x.clock ∧ (∀ k, k ≠ n → u.port k = s.port k)
      ∧ u.sent = .audio n m :: s.sent ∧ SameParams [pkey (P.ap n P.AP_STATE) 0] s u
      ∧ EventsOnly { s with now := max s.now t, params := u.params, sent := u.sent, au := { s.au with ports := u.au.ports } } u))
  ∧ (∀ (n r h : Nat) (s : State), n < 16 → h = s.apHz n * 1000000 → ((s.apState n < 3 ∨ 5 < s.apState n) → exec (.audioRateMeasure n r) s = .next s)
    ∧ (3 ≤ s.apState n → s.apState n ≤ 5 → ((r : Int) - h).natAbs * 1000 ≤ h → ∃ u, exec (.audioRateMeasure n r) s = .next u
      ∧ u.app n P.AP_RATE_ERR = unsigned 32 (rdiv (((r : Int) - h) * 100000000) h) ∧ u.apState n = (if s.apState n = 5 then 3 else s.apState n)
      ∧ SameParams [pkey (P.ap n P.AP_RATE_ERR) 0, pkey (P.ap n P.AP_STATE) 0] s u ∧ EventsOnly { s with params := u.params } u)
    ∧ (3 ≤ s.apState n → s.apState n ≤ 5 → h < ((r : Int) - h).natAbs * 1000 → ∃ u, exec (.audioRateMeasure n r) s = .next u
      ∧ u.app n P.AP_RATE_ERR = unsigned 32 (rdiv (((r : Int) - h) * 100000000) h) ∧ u.apState n = 5 ∧ u.port n = (s.port n).unplaced
      ∧ (∀ k, k ≠ n → u.port k = s.port k) ∧ SameParams [pkey (P.ap n P.AP_RATE_ERR) 0, pkey (P.ap n P.AP_STATE) 0] s u
      ∧ EventsOnly { s with params := u.params, au := { s.au with ports := u.au.ports } } u)))
  ∧ ((∀ (n b : Nat) (late : Bool) (s : State), n < 16 → ((s.apState n ≠ 4 ∨ s.blockNear n b = false) → exec (.audioBlockFetch n b late) s = .next s)
    ∧ ((s.apState n ≠ 4 ∨ s.blockDue n b = false) → exec (.audioBlockDeadline n b) s = .next s))
  ∧ (∀ (n b : Nat) (late : Bool) (x : AudioPort) (s : State), n < 16 → s.apState n = 4 → s.port n = x → s.blockNear n b = true → s.dram.flaws = [] → ∃ t, exec (.audioBlockFetch n b late) s = .next t
    ∧ t.port n = { x with
        fetched := b :: x.fetched.filter fun k => decide (b < k + 2000)
        missing := (if late = true ∨ s.blockLacks n b = true then [b] else []) ++ x.missing.filter fun k => k != b && decide (b < k + 2000) }
    ∧ (∀ k, k ≠ n → t.port k = s.port k) ∧ t = { s with au := { s.au with ports := t.au.ports } })
  ∧ (∀ (n b : Nat) (x : AudioPort) (s : State), n < 16 → s.apState n = 4 → s.port n = x → s.blockDue n b = true →
    (b ∉ x.missing → b ∈ x.fetched → x.gone = false → ∃ t, exec (.audioBlockDeadline n b) s = .next t ∧ t.port n = { x with judged := some b }
      ∧ (∀ k, k ≠ n → t.port k = s.port k) ∧ t = { s with au := { s.au with ports := t.au.ports } })
    ∧ (b ∉ x.missing → b ∈ x.fetched → x.gone = true → ∃ t, exec (.audioBlockDeadline n b) s = .next t
      ∧ t.port n = { x with judged := some b, gone := false, out := x.out.map fun o => if o.on then o.ramp (s.fadeLen n) (b * 32) else o } ∧ (∀ k, k ≠ n → t.port k = s.port k)
      ∧ EventsOnly { s with au := { s.au with ports := t.au.ports } } t)
    ∧ ((b ∈ x.missing ∨ b ∉ x.fetched) → x.gone = true → ∃ t, exec (.audioBlockDeadline n b) s = .next t
      ∧ t.port n = { x with judged := some b, lost := x.lost + 1, missing := if b ∈ x.missing then x.missing else b :: x.missing } ∧ (∀ k, k ≠ n → t.port k = s.port k)
      ∧ t = { s with au := { s.au with ports := t.au.ports } })
    ∧ ((b ∈ x.missing ∨ b ∉ x.fetched) → x.gone = false → ∃ t, exec (.audioBlockDeadline n b) s = .next t
      ∧ t.port n = { x with
          judged := some b, lost := x.lost + 1, missing := if b ∈ x.missing then x.missing else b :: x.missing, gone := true
          out := x.out.map fun o => if o.on then o.fade (s.fadeLen n) (b * 32 - s.fadeLen n) else o }
      ∧ (∀ k, k ≠ n → t.port k = s.port k) ∧ t.app n P.AP_FADES = min (s.app n P.AP_FADES + 1) (2 ^ 32 - 1) ∧ SameParams [pkey (P.ap n P.AP_FADES) 0] s t
      ∧ EventsOnly { s with params := t.params, au := { s.au with ports := t.au.ports } } t))
  ∧ (∀ (c : Cmd) (m a : Nat) (s : State), s.accepts false 0x0901 c → c.operands 8 0xFFFE0000 → m = c.f 0 16 → a = (c.f 32 32 + 2 ^ 32 - s.ring.tag) % 2 ^ 32 →
    ((m = 0 ∨ ∃ j k, j < 16 ∧ k < 16 ∧ m.testBit j = true ∧ m.testBit k = true ∧ s.app j P.AP_RATE ≠ s.app k P.AP_RATE) →
      ∃ t, exec (.audioStart c) s = .next t ∧ Answered 0x0901 c 4 0 0 t ∧ CommandOnly c s t)
    ∧ (∀ r, m ≠ 0 → (∀ k, k < 16 → m.testBit k = true → s.app k P.AP_RATE = r) →
      ((∃ k, k < 16 ∧ m.testBit k = true ∧ (s.apState k = 0 ∨ s.apState k = 5 ∨ s.apState k = 6)) →
        ∃ t, exec (.audioStart c) s = .next t ∧ Answered 0x0901 c 0x68 0 0 t ∧ CommandOnly c s t)
      ∧ ((∀ k, k < 16 → m.testBit k = true → s.apState k ≠ 0 ∧ s.apState k ≠ 5 ∧ s.apState k ≠ 6) →
        (c.f 16 1 = 0 → (a = 0 ∨ 2 ^ 31 ≤ a ∨ s.ring.next - s.now * 65536 + (a - 1) * s.ring.period < 2 * s.ring.period) →
          ∃ t, exec (.audioStart c) s = .next t ∧ Answered 0x0901 c 0xC 0 0 t ∧ CommandOnly c s t)
        ∧ ((c.f 16 1 = 0 → a ≠ 0 ∧ a < 2 ^ 31 ∧ 2 * s.ring.period ≤ s.ring.next - s.now * 65536 + (a - 1) * s.ring.period) →
          ((∃ x ∈ s.au.starts, x.mask &&& m ≠ 0) → ∃ t, exec (.audioStart c) s = .next t ∧ Answered 0x0901 c 2 0 0 t ∧ CommandOnly c s t)
          ∧ ((∀ x ∈ s.au.starts, x.mask &&& m = 0) → ∀ e : State,
            e = (if c.f 16 1 = 1 ∧ s.getP P.TRIG_ARM 0 = 0 then State.setP { s with ring := { s.ring with armedAt := s.now } } P.TRIG_ARM 0 1 else s) →
            (c.immediate = true → ∃ t, exec (.audioStart c) s = .next t ∧ Answered 0x0901 c 0 0 0 t ∧ CommandOnly c { e with
              au := { s.au with starts := s.au.starts ++ [{ mask := m, mode := c.f 16 1, tag := if c.f 16 1 = 0 then c.f 32 32 else 0, ticket := 0 }] } } t)
            ∧ (c.immediate = false → ∃ t, exec (.audioStart c) s = .next t ∧ Waits 0x0901 c { e with
              au := { s.au with starts := s.au.starts ++ [{ mask := m, mode := c.f 16 1, tag := if c.f 16 1 = 0 then c.f 32 32 else 0, ticket := s.newTicket }] } } t))))))
  ∧ (∀ (c : Cmd) (n : Nat) (s : State), s.accepts false 0x0902 c → c.operands 1 0 → n = c.f 0 8 →
    (16 ≤ n → ∃ t, exec (.audioStatus c) s = .next t ∧ Answered 0x0902 c 4 0 0 t ∧ CommandOnly c s t)
    ∧ (n < 16 → ∃ t, exec (.audioStatus c) s = .next t ∧ CommandOnly c s t
      ∧ Answered 0x0902 c 0 40 (s.apState n + at' 8 (s.app n P.AP_GROUP) + at' 16 (((s.port n).group.bind fun g => s.reference g).getD 255)
        + at' 24 (s.envelopeCode n) + at' 32 (s.port n).boundaryTag + at' 64 ((s.port n).boundary.getD 0) + at' 128 (s.app n P.AP_POSITION)
        + at' 192 (s.app n P.AP_POS_TIME) + at' 256 (s.app n P.AP_RATE_ERR)) t)))

/-- Housekeeping conversions, the thermal trip, throttling, background work and its commands (14_housekeeping.md) -/
def Obligations.ConversionsThrottleAndBackgroundWork : Prop :=
  (∀ (r : Nat) (s : State), s.ctl.boot = .off → exec (.hkConversion r) s = .next s)
  ∧ (∀ (r v n lo hi : Nat) (fresh : Bool) (s : State), s.ctl.boot ≠ .off → s.hk.next = n → 5 ≤ n → n ≤ 31 → r < 65536 → v = (if n < 15 then r else min r 19200) → lo = s.getP P.HK_LIMIT_LO n →
    hi = s.getP P.HK_LIMIT_HI n → (s.getP P.HK_READING n).testBit 18 = false → fresh = !s.hk.seen.testBit n →
    (lo ≤ v → v ≤ hi → (n = 31 → s.ctl.boot ≠ .running ∧ s.hk.trip = false) → ∃ t, exec (.hkConversion r) s = .next t ∧ t.getP P.HK_READING n = v + 0x10000
      ∧ t.getP P.HK_MIN n = (if fresh = true then v else min v (s.getP P.HK_MIN n)) ∧ t.getP P.HK_MAX n = (if fresh = true then v else max v (s.getP P.HK_MAX n))
      ∧ t.getP P.HK_ROUNDS 0 = (if n = 31 then (s.getP P.HK_ROUNDS 0 + 1) % 2 ^ 32 else s.getP P.HK_ROUNDS 0)
      ∧ SameParams [pkey P.HK_READING n, pkey P.HK_MIN n, pkey P.HK_MAX n, pkey P.HK_ROUNDS 0] s t
      ∧ t = { s with params := t.params, hk := { s.hk with
          next := (n + 1) % 32, seen := setBit s.hk.seen n, lastRound := if n = 31 then s.now else s.hk.lastRound } })
    ∧ (n < 31 → (v < lo ∨ hi < v) → ¬ (lo = 0 ∧ hi = 65535) → ∃ t, exec (.hkConversion r) s = .next t ∧ t.getP P.HK_READING n = v + 0x50000
      ∧ t.hk.outHigh.testBit n = decide (hi < v) ∧ .hkLimit n ∈ t.ctl.service ∧ SameParams [pkey P.HK_READING n, pkey P.HK_MIN n, pkey P.HK_MAX n] s t
      ∧ EventsOnly { s with params := t.params, hk := { s.hk with next := n + 1, seen := setBit s.hk.seen n, outHigh := t.hk.outHigh }, ctl := { s.ctl with service := t.ctl.service } } t))
  ∧ (∀ (r n : Nat) (v : Int) (d : Diode) (s : State), s.ctl.boot ≠ .off → s.hk.next = n → n < 5 → r < 65536 → v = signed 16 r → s.hk.diodes.length = 5 → s.diode n = d →
    d.faulty = false →
    ((∀ k, k < 5 → (s.diode k).faulty = false ∧ (k ≠ n → s.hkReading k < s.threshold 1)) → d.above = 0 → -640 ≤ v → v ≤ 2400 →
      (∀ i, i < 3 → v < s.threshold i) → ∃ t, exec (.hkConversion r) s = .next t ∧ t.getP P.HK_READING n = r + 0x10000
        ∧ t.diode n = { d with badRun := 0, goodRun := d.goodRun + 1 } ∧ (∀ k, k ≠ n → t.diode k = s.diode k)
        ∧ t.getP P.TH_HOTTEST 0 = unsigned 16 t.hottest.1 + at' 16 t.hottest.2
        ∧ SameParams [pkey P.HK_READING n, pkey P.HK_MIN n, pkey P.HK_MAX n, pkey P.TH_HOTTEST 0] s t
        ∧ t = { s with params := t.params, hk := { s.hk with next := n + 1, seen := setBit s.hk.seen n, diodes := t.hk.diodes } })
    ∧ ((∀ k, k < 5 → (s.diode k).faulty = false ∧ s.hkReading k < s.threshold 1) → d.badRun = 0 → (v < -640 ∨ 2400 < v) → ∃ t, exec (.hkConversion r) s = .next t
      ∧ t.getP P.HK_READING n = s.getP P.HK_READING n % 0x10000 ∧ t.diode n = { d with badRun := 1, goodRun := 0 } ∧ (∀ k, k ≠ n → t.diode k = s.diode k)
      ∧ SameParams [pkey P.HK_READING n, pkey P.TH_HOTTEST 0] s t ∧ t = { s with params := t.params, hk := { s.hk with next := n + 1, diodes := t.hk.diodes } })
    ∧ (s.hk.trip = false → v ≤ 2400 → -640 ≤ v → s.threshold 2 ≤ v → ∃ t, exec (.hkConversion r) s = .next t ∧ t.hk.trip = true ∧ t.getP P.TH_STEP 0 = 6
      ∧ t.getP P.HK_READING n = r + 0x10000 ∧ (t.ctl.faultLog.getLast?.map fun f => (f.seq, f.cls, f.idx, f.code)) = some (s.ctl.faultNext, 0xD, n, 0x0A02)
      ∧ SameParams ([pkey P.HK_READING n, pkey P.HK_MIN n, pkey P.HK_MAX n, pkey P.TH_HOTTEST 0, pkey P.TH_STEP 0] ++ bwKeys) s t
      ∧ EventsOnly { s with
          params := t.params
          hk := { s.hk with next := n + 1, seen := setBit s.hk.seen n, diodes := t.hk.diodes, trip := true, coolRound := false, stepTime := s.now }
          ctl := { s.ctl with service := t.ctl.service, faultLog := t.ctl.faultLog, faultNext := t.ctl.faultNext } } t))
  ∧ (∀ (now : Nat) (h : Int) (s : State), now = max s.now (s.hk.stepTime + s.getP P.TH_STEP_MS 0 * 1000000) → h = s.hottest.1 →
    ((s.hk.trip = true ∨ h < s.threshold 1 ∧ s.threshold 1 - s.hyst ≤ h) → exec .throttleStep s = .next { s with now := now, hk := { s.hk with stepTime := now } })
    ∧ (s.hk.trip = false → (s.threshold 1 ≤ h ∨ h < s.threshold 1 - s.hyst) → ∃ t, exec .throttleStep s = .next t
      ∧ t.getP P.TH_STEP 0 = (if s.threshold 1 ≤ h then max (s.getP P.TH_STEP 0) (min (s.getP P.TH_STEP 0 + 1) (s.getP P.TH_STEP_MAX 0)) else s.getP P.TH_STEP 0 - 1)
      ∧ SameParams (pkey P.TH_STEP 0 :: bwKeys) s t
      ∧ EventsOnly { s with now := now, params := t.params, hk := { s.hk with stepTime := now }, ctl := { s.ctl with service := t.ctl.service } } t))
  ∧ (∀ (s : State), ∃ t, exec .bgScheduler s = .next t ∧ (∀ k, k < 11 → t.getP P.BG_STATE k = s.taskState k)
    ∧ SameParams ((List.range 11).map fun k => pkey P.BG_STATE k) s t ∧ t = { s with params := t.params })
  ∧ (∀ (mw now : Nat) (l : List Nat) (s : State), (s.bgHeld 6 = true → exec (.telemetryCollect mw l) s = .next s)
    ∧ (s.bgHeld 6 = false → now = max s.now (s.hk.telemetryTime + s.getP P.BG_TELEMETRY_MS 0 * 1000000) → exec (.telemetryCollect mw l) s = .next (State.taskDone 6 { s with
        now := now, hk := { s.hk with powerMw := mw % 2 ^ 32, d2d := (List.range 4).map fun i => min (l.getD i 0) 65535, telemetryTime := now } })))
  ∧ (∀ (n : Nat) (s : State), ((s.bgHeld 10 = true ∨ s.dram.dirty = []) → exec (.pageZeroing n) s = .next s)
    ∧ (s.bgHeld 10 = false → n < s.dram.dirty.length → exec (.pageZeroing n) s = .next { s with dram := { s.dram with dirty := s.dram.dirty.drop n } })
    ∧ (s.bgHeld 10 = false → s.dram.dirty ≠ [] → s.dram.dirty.length ≤ n →
      exec (.pageZeroing n) s = .next { s with dram := { s.dram with dirty := [] }, hk := (s.taskDone 10).hk }))
  ∧ (∀ (s : State), s.powerState = 2 → exec .scrubBehind s = .next s)
  ∧ (∀ (e : Nat) (s : State), s.powerState ≠ 2 → s.cxl.regions = [] → e = (s.now - s.hk.patrolStart) * 1000 / max (s.getP P.MEM_SCRUB_HOURS 0 * 3600000000000) 1 →
    ((s.hk.behind.testBit 32 = false ∧ e ≤ s.getP P.MEM_SCRUB_PROGRESS 0 + 50 ∨ s.hk.behind.testBit 32 = true ∧ s.getP P.MEM_SCRUB_PROGRESS 0 < e) →
      exec .scrubBehind s = .next s)
    ∧ ((s.hk.behind.testBit 32 = false ∧ s.getP P.MEM_SCRUB_PROGRESS 0 + 50 < e ∨ s.hk.behind.testBit 32 = true ∧ e ≤ s.getP P.MEM_SCRUB_PROGRESS 0) →
      ∃ t, exec .scrubBehind s = .next t ∧ t.hk.behind.testBit 32 = !s.hk.behind.testBit 32 ∧ (∀ k, k ≠ 32 → t.hk.behind.testBit k = s.hk.behind.testBit k)
        ∧ EventsOnly { s with hk := { s.hk with behind := t.hk.behind } } t))
  ∧ (∀ (c : Cmd) (s : State), c.operands 0 0 → (s.accepts false 0x0A01 c → ∃ t, exec (.hkStatus c) s = .next t ∧ CommandOnly c s t
      ∧ Answered 0x0A01 c 0 160 (ofLE (leBytes (s.getP P.TH_STEP 0) 1 ++ leBytes (s.getP P.TH_HOTTEST 0 / 65536) 1 ++ leBytes (s.getP P.TH_HOTTEST 0) 2
        ++ leBytes (s.getP P.HK_ROUNDS 0) 4 ++ leBytes s.hk.powerMw 4 ++ (List.range 4).flatMap (fun i => leBytes (s.hk.d2d.getD i 0) 2) ++ leBytes 0 4
        ++ leBytes s.hk.telemetryTime 8 ++ (List.range 32).flatMap fun n => leBytes (s.getP P.HK_READING n) 4)) t)
    ∧ (s.accepts false 0x0A02 c → ∃ t, exec (.bgStatus c) s = .next t ∧ CommandOnly c s t
      ∧ Answered 0x0A02 c 0 184 (ofLE (leBytes 0 8 ++ (List.range 11).flatMap fun k => leBytes (s.taskState k) 2 ++ leBytes (s.hk.tasks.getD k {}).progress 2
        ++ leBytes (s.hk.tasks.getD k {}).runs 4 ++ leBytes (s.hk.tasks.getD k {}).last 8)) t))

/-- The management bus target: its reads, SUBMIT, REPLY_ACK, packet error checking and self-reset (14_housekeeping.md) -/
def Obligations.ManagementBusAnswersItsAddresses : Prop :=
  (∀ (i : Instr) (a k n x : Nat) (b : Bool) (f : List Byte) (p : Option Nat) (s : State), a < 128 → k < 4 →
    i ∈ [Instr.status ⟨a, b⟩, .slotState a, .hkRead a, .submit a k n f p, .reply a k, .replyAck a k p, .mbStretchTimeout a x, .mbBusTimeout a x] →
    s.busAnswers a = false → s.ctl.staged = [] →
    ∃ t, exec i s = .next t ∧ t = { s with sent := .busNak :: s.sent, ctl := { s.ctl with reached := t.ctl.reached, reachedAt := t.ctl.reachedAt } })
  ∧ (∀ (a : Nat) (s : State), a < 128 → s.busAnswers a = true → s.ctl.staged = [] →
    (∃ t, exec (.status ⟨a, false⟩) s = .next t ∧ BusRead a 0 (leBytes (if s.ctl.boot = .auxOnly then 0x00004001 else s.statusWord 64 0) 4) s t)
    ∧ (∀ l : List Byte, l = leBytes (if s.ctl.boot = .auxOnly then 0x00004001 else s.statusWord 64 0) 4 → ∃ t, exec (.status ⟨a, true⟩) s = .next t
      ∧ t.getP P.MB_LAST_ADDR 0 = a ∧ SameParams [pkey P.MB_LAST_ADDR 0] s t ∧ t = { s with
        params := t.params, sent := .bus (l ++ leBytes (crc8 (busRead a ++ l)) 1) :: s.sent
        ctl := { s.ctl with reached := t.ctl.reached, reachedAt := t.ctl.reachedAt } })
    ∧ (∃ t, exec (.slotState a) s = .next t ∧ BusRead a 1 (leBytes ((s.win 64).busy % 16 + at' 4 ((s.win 64).ready % 16)) 1) s t)
    ∧ (∃ t, exec (.hkRead a) s = .next t ∧ BusRead a 0x30 ((List.range 32).flatMap fun n =>
        leBytes (if (s.getP P.HK_READING n).testBit 16 = true ∧ (s.getP P.HK_READING n).testBit 17 = false then s.getP P.HK_READING n % 65536 else 0x8000) 2) s t))
  ∧ (∀ (a k : Nat) (s : State), a < 128 → k < 4 → s.busAnswers a = true → s.ctl.staged = [] →
    (s.ctl.boot = .auxOnly → ∃ t, exec (.reply a k) s = .next t ∧ BusRefused a none true s t)
    ∧ (s.ctl.boot ≠ .auxOnly → SMap.find k (s.win 64).replies = none → ∃ t, exec (.reply a k) s = .next t ∧ BusRead a (0x20 + k) (leBytes 0 2) s t)
    ∧ ∀ r : Reply, s.ctl.boot ≠ .auxOnly → SMap.find k (s.win 64).replies = some r →
      ∃ t, exec (.reply a k) s = .next t ∧ BusRead a (0x20 + k) (leBytes (16 + r.len) 2 ++ r.bytes.take (16 + r.len)) s t)
  ∧ (∀ (a k n : Nat) (f : List Byte) (p : Option Nat) (s : State), a < 128 → k < 4 → s.busAnswers a = true → s.ctl.staged = [] →
    (s.ctl.boot = .auxOnly → ∃ t, exec (.submit a k n f p) s = .next t ∧ BusRefused a none true s t)
    ∧ (s.ctl.boot ≠ .auxOnly →
      (s.slotFree 64 k = false → ∃ t, exec (.submit a k n f p) s = .next t ∧ BusRefused a (some P.MB_SLOT_ERRORS) true s t)
      ∧ (s.slotFree 64 k = true → (n < 16 ∨ 256 < n) → ∃ t, exec (.submit a k n f p) s = .next t ∧ BusRefused a none true s t)
      ∧ (s.slotFree 64 k = true → 16 ≤ n → n ≤ 256 → f.length < n → ∃ t, exec (.submit a k n f p) s = .next t ∧ BusRefused a (some P.MB_ABORTS) false s t)
      ∧ (s.slotFree 64 k = true → 16 ≤ n → n ≤ 256 → f.length = n →
        (p = none → s.getP P.MB_PEC_REQUIRED 0 = 1 → ∃ t, exec (.submit a k n f p) s = .next t ∧ BusRefused a (some P.MB_PEC_ERRORS) false s t)
        ∧ (∀ v, p = some v → v ≠ crc8 (busWrite a (0x10 + k) ++ leBytes n 2 ++ f) →
          ∃ t, exec (.submit a k n f p) s = .next t ∧ BusRefused a (some P.MB_PEC_ERRORS) true s t)
        ∧ ((p = none ∧ s.getP P.MB_PEC_REQUIRED 0 ≠ 1 ∨ p = some (crc8 (busWrite a (0x10 + k) ++ leBytes n 2 ++ f))) → ∃ u : State,
          exec (.submit a k n f p) s = .next { (if s.ctl.fwReady = true then u.takeSlot 64 k else u) with pending := s.pending }
          ∧ u.getP P.MB_LAST_ADDR 0 = a ∧ SameParams [pkey P.MB_LAST_ADDR 0] s u ∧ takeBytes zeroByte (u.win 64).slots (k * 256) n = busFrame f
          ∧ (u.win 64).busy.testBit k = true ∧ (u.win 64).rung.testBit k = true ∧ (u.win 64).rungPriv.testBit k = u.busPrivileged
          ∧ (u.win 64).sameButSlot k (s.win 64) ∧ (∀ w, w ≠ 64 → u.win w = s.win w) ∧ u = { s with
              params := u.params, ctl := { s.ctl with wins := u.ctl.wins, reached := u.ctl.reached, reachedAt := u.ctl.reachedAt } }))))
  ∧ (∀ (a k : Nat) (p : Option Nat) (s : State), a < 128 → k < 4 → s.busAnswers a = true → s.ctl.staged = [] →
    ((s.ctl.boot = .auxOnly ∨ (s.win 64).busy.testBit k = true) → ∃ t, exec (.replyAck a k p) s = .next t ∧ BusRefused a none true s t)
    ∧ (s.ctl.boot ≠ .auxOnly → (s.win 64).busy.testBit k = false →
      (p = none → s.getP P.MB_PEC_REQUIRED 0 = 1 → ∃ t, exec (.replyAck a k p) s = .next t ∧ BusRefused a (some P.MB_PEC_ERRORS) false s t)
      ∧ (∀ v, p = some v → v ≠ crc8 (busWrite a (0x40 + k)) → ∃ t, exec (.replyAck a k p) s = .next t ∧ BusRefused a (some P.MB_PEC_ERRORS) true s t)
      ∧ ((p = none ∧ s.getP P.MB_PEC_REQUIRED 0 ≠ 1 ∨ p = some (crc8 (busWrite a (0x40 + k)))) →
        ((s.win 64).ready.testBit k = false → ∃ t, exec (.replyAck a k p) s = .next t ∧ BusRefused a none false s t)
        ∧ ((s.win 64).ready.testBit k = true → ∃ t, exec (.replyAck a k p) s = .next t ∧ t.getP P.MB_LAST_ADDR 0 = a ∧ SameParams [pkey P.MB_LAST_ADDR 0] s t
          ∧ (t.win 64).ready.testBit k = false ∧ SMap.find k (t.win 64).replies = none ∧ (t.win 64).busy = (s.win 64).busy
          ∧ (t.win 64).sameButSlot k (s.win 64) ∧ (∀ w, w ≠ 64 → t.win w = s.win w) ∧ t = { s with
              params := t.params, ctl := { s.ctl with wins := t.ctl.wins, reached := t.ctl.reached, reachedAt := t.ctl.reachedAt } }))))
  ∧ (∀ (s : State), (s.ctl.boot = .off → exec .mbAbort s = .next s)
    ∧ (s.ctl.boot ≠ .off → ∃ t, exec .mbAbort s = .next t ∧ t.getP P.MB_ABORTS 0 = min (s.getP P.MB_ABORTS 0 + 1) (2 ^ 32 - 1) ∧ SameParams [pkey P.MB_ABORTS 0] s t
      ∧ t = { s with params := t.params }))
  ∧ (∀ (i : Instr) (a x : Nat) (s : State), a < 128 → s.busAnswers a = true → s.ctl.staged = [] → i ∈ [Instr.mbStretchTimeout a x, .mbBusTimeout a x] →
    ∃ t, exec i s = .next t ∧ t.getP P.MB_RESETS 0 = min (s.getP P.MB_RESETS 0 + 1) (2 ^ 32 - 1) ∧ t.getP P.MB_LAST_ADDR 0 = a
      ∧ SameParams [pkey P.MB_RESETS 0, pkey P.MB_LAST_ADDR 0] s t ∧ EventsOnly { s with
          params := t.params, ctl := { s.ctl with reached := t.ctl.reached, reachedAt := t.ctl.reachedAt } } t)

/-- Start-up, resets, the power pins, POWER_STATE_SET, DARK and the return to it (15_power_service.md) -/
def Obligations.PowerComesGoesAndChangesState : Prop :=
  (∀ (m : Nat) (s : State), m < 4 → (s.ctl.boot ≠ .off → s.ctl.boot ≠ .auxOnly → exec (.vauxValid m) s = .next s)
    ∧ ((s.ctl.boot = .off ∨ s.ctl.boot = .auxOnly) → ∃ t, exec (.vauxValid m) s = .next t ∧ t.ctl.boot = .auxOnly ∧ t.bus.mgtAddr = m ∧ t.getP P.MB_ADDR 0 = 0x1D8 + m
      ∧ t.getP P.PW_RESET_CAUSE 0 = 0 ∧ SameParams [pkey P.MB_ADDR 0, pkey P.PW_RESET_CAUSE 0] s t
      ∧ t = { s with params := t.params, ctl := { s.ctl with boot := .auxOnly }, bus := { s.bus with mgtAddr := m } }))
  ∧ (∀ (s : State), (s.ctl.boot ≠ .auxOnly → s.pw.stop ≠ some 0 → exec .pwrgdRise s = .next s)
    ∧ (s.ctl.boot ≠ .auxOnly → s.pw.stop = some 0 → exec .pwrgdRise s = .next { s with pw := { s.pw with stop := some 1 } })
    ∧ (s.ctl.boot = .auxOnly → s.slotValid s.ctl.bootSlot = true → ∃ t, exec .pwrgdRise s = .next t ∧ Restarted 1 s t ∧ t.ctl.boot = .training ∧ t.ctl.fwReady = false)
    ∧ (s.ctl.boot = .auxOnly → s.slotValid s.ctl.bootSlot = false → s.slotValid (1 - s.ctl.bootSlot) = false →
      ∃ t, exec .pwrgdRise s = .next t ∧ Restarted 1 s t ∧ t.ctl.boot = .recoveryImage ∧ t.ctl.fwReady = true))
  ∧ (∀ (l : List Nat) (s : State), (s.ctl.boot ≠ .training ∧ s.ctl.boot ≠ .recoveryImage ∨ s.ctl.boot = .recoveryImage ∧ l = []) → exec (.dramTrainingDone l) s = .next s)
  ∧ (∀ (n : Nat) (s : State), s.ctl.boot = .recoveryImage → ∃ t, exec (.dramTrainingDone [n]) s = .next t
    ∧ (t.ctl.faultLog.getLast?.map fun x => (x.seq, x.cls, x.idx, x.code)) = some (s.ctl.faultNext, 0x9, n, 0x0604)
    ∧ EventsOnly { s with ctl := { s.ctl with faultLog := t.ctl.faultLog, faultNext := t.ctl.faultNext } } t)
  ∧ (∀ (n : Nat) (s : State), s.ctl.boot = .training → ∃ t, exec (.dramTrainingDone [n]) s = .next t ∧ t.ctl.boot = .recoveryDram ∧ t.ctl.fwReady = true
    ∧ (t.ctl.faultLog.getLast?.map fun x => (x.seq, x.cls, x.idx, x.code)) = some (s.ctl.faultNext, 0x9, n, 0x0604)
    ∧ EventsOnly { s with ctl := { s.ctl with boot := .recoveryDram, fwReady := true, faultLog := t.ctl.faultLog, faultNext := t.ctl.faultNext } } t)
  ∧ (∀ (s : State), s.ctl.boot = .training → s.cxl.regions = [] → s.fr.bins = [] → (∀ g, g < 8 → s.getP (P.cg g P.CG_ENABLE) 0 = 0 ∧ s.camState g = 0) →
    ∃ t, exec (.dramTrainingDone []) s = .next t ∧ t.ctl.boot = .starting ∧ t.getP P.FW_RELEASE 0 = (s.fwSlot s.ctl.bootSlot).release
      ∧ t.getP P.FW_ACTIVE_SLOT 0 = s.ctl.bootSlot ∧ t.getP P.FW_SECURITY_FLOOR 0 = s.ctl.fwFloor
      ∧ SameParams ([pkey P.FW_RELEASE 0, pkey P.FW_ACTIVE_SLOT 0, pkey P.FW_SECURITY_FLOOR 0] ++ (memoryKeys ++ (bwKeys ++ regionKeys))) s t
      ∧ EventsOnly { s with params := t.params, ctl := { s.ctl with boot := .starting } } t)
  ∧ (∀ (s : State), (s.ctl.boot ≠ .starting → exec .startupComplete s = .next s)
    ∧ (s.ctl.boot = .starting → ∃ t, exec .startupComplete s = .next t ∧ t.ctl.boot = .running ∧ t.ctl.fwReady = true ∧ t.getP P.PW_LAST_CHANGE 0 = s.now
      ∧ SameParams [pkey P.PW_LAST_CHANGE 0] s t ∧ EventsOnly { s with params := t.params, ctl := { s.ctl with boot := .running, fwReady := true } } t)
    ∧ ((s.ctl.boot = .off ∨ s.ctl.boot = .auxOnly ∨ s.pw.stop = some 0) → exec .pwrgdFall s = .next s ∧ exec .coldReset s = .next s)
    ∧ (s.ctl.boot ≠ .off → s.ctl.boot ≠ .auxOnly → s.pw.stop ≠ some 0 → exec .pwrgdFall s = .next { s with pw := { s.pw with stop := some 0 } }
      ∧ exec .coldReset s = .next { s with pw := { s.pw with stop := some 2 } })
    ∧ (s.pw.resetAt = none → exec .deviceResetFire s = .next s)
    ∧ (∀ u, s.pw.resetAt = some u → s.ctl.boot = .running → s.pw.stop ≠ some 0 →
      exec .deviceResetFire s = .next { s with now := max s.now u, pw := { s.pw with resetAt := none, stop := some 3 } })
    ∧ (∃ t, exec .vauxLoss s = .next t ∧ t.ctl.boot = .off ∧ t.now = 0 ∧ t.params = [] ∧ t.ctl.wins = [] ∧ t.ctl.flights = [] ∧ t.ctl.staged = []
      ∧ t.ctl.faultLog = s.ctl.faultLog ∧ t.ctl.fwFloor = s.ctl.fwFloor ∧ t.ctl.revoked = s.ctl.revoked ∧ t.ctl.fwA.image = s.ctl.fwA.image ∧ t.ctl.fwB.image = s.ctl.fwB.image
      ∧ t.hk = {} ∧ t.bus = {} ∧ t.ring = {} ∧ t.cq = {} ∧ t.cam = {} ∧ t.pipes = [] ∧ t.cv = {} ∧ t.mw = {} ∧ t.ln = {} ∧ t.vc = {} ∧ t.au = {}
      ∧ t.dram = { remap := s.dram.remap } ∧ t.cxl.exps = s.cxl.exps)
    ∧ exec .refclkCoreLoss s = .next { s with pw := { s.pw with refclk := false } } ∧ exec .refclkCoreReturn s = .next { s with pw := { s.pw with refclk := true } }
    ∧ ∀ m, (m < 4 → s.ctl.perstN = true → exec (.perstNRise m) s = .next s)
      ∧ (m < 3 → s.ctl.perstN = false → exec (.perstNRise m) s = .next { s with ctl := { s.ctl with perstN := true }, pw := { s.pw with clkMode := m } })
      ∧ (m = 3 → s.ctl.perstN = false → ∃ t, exec (.perstNRise m) s = .next t
        ∧ (t.ctl.faultLog.getLast?.map fun x => (x.seq, x.cls, x.idx, x.code)) = some (s.ctl.faultNext, 0x0, 0, 0x0A03) ∧ EventsOnly { s with
          ctl := { s.ctl with perstN := true, faultLog := t.ctl.faultLog, faultNext := t.ctl.faultNext }, pw := { s.pw with clkMode := m } } t))
  ∧ (∀ (c : Cmd) (s : State), s.accepts true 0x0A10 c → c.operands 4 0 →
    (c.f 0 32 ≠ 0x52534554 → ∃ t, exec (.deviceReset c) s = .next t ∧ Answered 0x0A10 c 4 0 0 t ∧ CommandOnly c s t)
    ∧ (c.f 0 32 = 0x52534554 → ∃ t, exec (.deviceReset c) s = .next t ∧ Answered 0x0A10 c 0 0 0 t
      ∧ CommandOnly c { s with pw := { s.pw with resetAt := some (s.now + 1000000) } } t))
  ∧ (∀ (c : Cmd) (g old : Nat) (s : State), s.accepts true 0x0040 c → c.operands 4 0xFFFFFE00 → g = c.f 0 8 → old = s.powerState →
    ((2 < g ∨ c.f 8 1 = 1 ∧ g ≠ 2) → ∃ t, exec (.powerStateSet c) s = .next t ∧ Answered 0x0040 c 4 0 0 t ∧ CommandOnly c s t)
    ∧ (g ≤ 2 → (c.f 8 1 = 1 → g = 2) →
      ((s.pw.step = .toIntermission ∨ s.pw.step = .toShow) → ∃ t, exec (.powerStateSet c) s = .next t ∧ Answered 0x0040 c 2 0 0 t ∧ CommandOnly c s t)
      ∧ (s.pw.step = .none → g = old → ∃ t, exec (.powerStateSet c) s = .next t ∧ CommandOnly c s t
        ∧ (if c.immediate then Answered 0x0040 c 0 0 0 t else Answered 0x0040 c 0 12 (g + at' 32 (s.getP P.PW_LAST_CHANGE 0)) t))
      ∧ (s.pw.step = .none → s.pw.tickets = [] → c.immediate = false → s.runningCanvases ≠ [] → (old = 0 ∧ 1 ≤ g ∨ old = 1 ∧ g = 0) → ∃ t, exec (.powerStateSet c) s = .next t
        ∧ t.getP P.PW_STATE 0 = old + at' 8 g + 0x10000 ∧ SameParams [pkey P.PW_STATE 0] s t ∧ WaitsEvents 0x0040 c { s with
            params := t.params
            pw := { s.pw with
              step := if old = 0 then .toIntermission else .toShow, start := s.now, tickets := [s.newTicket], reason := 0, canvases := s.runningCanvases, returnFrom := none
              thenTarget := if old = 1 then s.pw.thenTarget else if g = 2 then some (2 + 256 * c.f 8 1) else none } } t)
      ∧ (s.pw.step = .none → s.pw.tickets = [] → c.immediate = false → s.runningCanvases = [] → (old = 0 ∧ g = 1 ∨ old = 1 ∧ g = 0) → ∃ t, exec (.powerStateSet c) s = .next t
        ∧ Answered 0x0040 c 0 12 (g + at' 32 s.now) t ∧ t.getP P.PW_STATE 0 = g ∧ t.getP P.PW_LAST_CHANGE 0 = s.now ∧ t.pw.step = .none
        ∧ SameParams [pkey P.PW_STATE 0, pkey P.PW_LAST_CHANGE 0] s t ∧ CommandEvents c { s with params := t.params, pw := t.pw } t)
      ∧ (s.pw.step = .none → s.pw.tickets = [] → c.immediate = false → old = 1 → g = 2 → c.f 8 1 = 0 → ∃ t, exec (.powerStateSet c) s = .next t
        ∧ t.getP P.PW_STATE 0 = 1 + at' 8 2 + 0x10000 ∧ SameParams [pkey P.PW_STATE 0] s t ∧ WaitsEvents 0x0040 c { s with
            params := t.params
            pw := { s.pw with step := .awaitBoundary, start := s.now, tickets := [s.newTicket], reason := 0, thenTarget := none, returnFrom := none } } t)))
  ∧ (∀ (s : State), (s.pw.step ≠ .sleeping → exec .darkReached s = .next s)
    ∧ (s.pw.step = .sleeping → s.pw.tickets = [] → s.pw.exitWanted = false → ∃ t, exec .darkReached s = .next t ∧ t.getP P.PW_STATE 0 = 2 ∧ t.getP P.PW_LAST_CHANGE 0 = s.now
      ∧ SameParams [pkey P.PW_STATE 0, pkey P.PW_LAST_CHANGE 0] s t ∧ t.cv.pso = 0 ∧ (∀ k, k < 32 → t.sensor k = { s.sensor k with openFrame := .none })
      ∧ (∀ p, p < 8 → t.pipe p = { s.pipe p with cur := none }) ∧ (∀ p, 8 ≤ p → t.pipe p = s.pipe p) ∧ EventsOnly { s with
          params := t.params, cam := { s.cam with sensors := t.cam.sensors }, pipes := t.pipes, cv := { s.cv with pso := 0 }, pw := { s.pw with step := .none } } t)
    ∧ (∀ tk f, s.pw.step = .sleeping → s.pw.tickets = [tk] → s.pw.exitWanted = false → s.awaits tk f → ∃ t, exec .darkReached s = .next t
      ∧ Answered f.opcode f.cmd 0 12 (2 + at' 32 s.now) t ∧ t.getP P.PW_STATE 0 = 2 ∧ t.pw.step = .none ∧ t.pw.tickets = [])
    ∧ (s.pw.step ≠ .exiting → exec .darkExitDone s = .next s)
    ∧ (s.pw.step = .exiting → s.fr.bins = [] → (∀ g, g < 8 → s.camState g ≠ 5) → ∃ t, exec .darkExitDone s = .next t ∧ t.getP P.PW_STATE 0 = 1
      ∧ t.getP P.PW_LAST_CHANGE 0 = s.now ∧ t.getP P.PW_AUTO_EXITS 0 = (s.getP P.PW_AUTO_EXITS 0 + 1) % 2 ^ 32
      ∧ SameParams [pkey P.PW_STATE 0, pkey P.PW_LAST_CHANGE 0, pkey P.PW_AUTO_EXITS 0] s t
      ∧ EventsOnly { s with
          params := t.params, sent := t.sent, ln := { s.ln with lanes := t.ln.lanes }, hk := (s.shiftPasses (s.now - s.getP P.PW_LAST_CHANGE 0)).hk
          mw := { s.mw with aseq := t.mw.aseq }, pw := { s.pw with step := .none, returnFrom := some s.now } } t)
    ∧ ((s.pw.returnFrom = none ∨ s.powerState ≠ 1 ∨ s.pw.step ≠ .none ∨ s.getP P.PW_DARK_RETURN_MS 0 = 0) → exec .darkReturnTimer s = .next s)
    ∧ (∀ f now, s.pw.returnFrom = some f → s.powerState = 1 → s.pw.step = .none → s.getP P.PW_DARK_RETURN_MS 0 ≠ 0 →
      now = max s.now (f + s.getP P.PW_DARK_RETURN_MS 0 * 1000000) → ∃ t, exec .darkReturnTimer s = .next t ∧ t.getP P.PW_STATE 0 = 1 + at' 8 2 + 0x10000
        ∧ SameParams [pkey P.PW_STATE 0] s t ∧ EventsOnly { s with
            now := now, params := t.params
            pw := { s.pw with step := .awaitBoundary, start := now, reason := 2, thenTarget := none, returnFrom := none } } t))

/-- Every command of the Ringmaster, windows, events, parameters, tables, firmware, partners and Aipex (chapters 1 and 2) completes (01_architecture.md,
02_control.md) -/
def Obligations.EveryRegisterAndControlCommandCompletes : Prop :=
  (∀ (t : ℕ) (s : State), s.atRest → s.getP P.RM_STATE 0 ≠ 2 → ∃ u, exec (.masterPeriodBoundary t) s = .next u ∧ u.ring.tag = (s.ring.tag + 1) % 2 ^
      32 ∧ u.now = max s.now t)
  ∧ (∀ (t : ℕ) (s : State), s.getP P.RM_SOURCE 0 = 1 → s.partnerTiming = false → s.getP P.RM_STATE 0 = 2 → s.ring.lastValid + s.ring.period ≤ t *
      65536 + s.getP P.RM_ACCEPT_WIN 0 * 65536 → t * 65536 ≤ s.ring.lastValid + s.ring.period + s.getP P.RM_ACCEPT_WIN 0 * 65536 → ∃ u, exec
      (.genrefEdge t) s = .next u ∧ u.ring.lastValid = t * 65536)
  ∧ (∀ (t : ℕ) (s : State), s.getP P.TRIG_ARM 0 = 1 → s.ring.armedAt + 1 ≤ t → s.binList = [] → s.au.starts = [] → ∃ u, exec (.trigInEdge t) s = .next
      u ∧ u.getP P.TRIG_TIME 0 = t ∧ u.getP P.TRIG_COUNT 0 = (s.getP P.TRIG_COUNT 0 + 1) % 2 ^ 32 ∧ u.getP P.TRIG_ARM 0 = 0)
  ∧ (∀ (fn : ℕ) (win : ℕ) (value : ℕ) (s : State), fn < 64 → win < 64 → value < 65536 → s.hostTakes fn win = true → ∃ t, exec (.doorbell
      { fn := fn, win := win } value) s = .next t ∧ (t.win win).slots = (s.win win).slots ∧ (t.win win).ready = (s.win win).ready)
  ∧ (∀ (w : ℕ) (k : ℕ) (s : State), (w < 64 ∧ k < 16 ∨ w = 64 ∧ k < 4) → (s.win w).rung.testBit k = true → ∃ t, exec (.deferTimeout w k) s = .next t ∧
      (SMap.get replyDef (t.win w).replies k).final = false ∧ (SMap.get replyDef (t.win w).replies k).status % 256 = 1)
  ∧ (∀ (fn : ℕ) (win : ℕ) (v : ℕ) (s : State), fn < 64 → win < 64 → v < 65536 → s.hostTakes fn win = true → v < 2 ^ (s.win win).sizeLog2 → (v + 2 ^
      (s.win win).sizeLog2 - (s.win win).tail) % 2 ^ (s.win win).sizeLog2 ≤ (s.win win).count → ∃ t, exec (.eventTailWrite { fn := fn, win := win } v)
      s = .next t ∧ (t.win win).tail = v ∧ (t.win win).tailRejects = (s.win win).tailRejects)
  ∧ (∀ (fn : ℕ) (win : ℕ) (v : ℕ) (s : State), fn < 64 → win < 64 → v < 2 ^ 32 → s.hostTakes fn win = true → ∃ t, exec (.registerWrite fn win 0x2008
      (List.map some (leBytes v 4))) s = .next t ∧ ∀ k < 16, (t.win win).ready.testBit k = ((s.win win).ready.testBit k && !v.testBit k))
  ∧ (∀ (n : ℕ) (s : State), n < 64 → (s.win n).state = WinState.opened → 0 < (s.win n).pendLoss → (s.win n).count < min (s.getP P.EVENT_QUOTA n) (2 ^
      (s.win n).sizeLog2 - 1) → 32 ≤ s.hostGood ((s.win n).base + 32 * (s.win n).head) 32 → ∃ t, exec (.overflow n) s = .next t ∧ (t.win n).pendLoss =
      0 ∧ (t.win n).head = ((s.win n).head + 1) % 2 ^ (s.win n).sizeLog2)
  ∧ (∀ (c : Cmd) (s : State), s.takes 1 c → c.headerOk → c.operands 0 0 → s.fwSupports 1 = true → c.win ≠ 64 → s.winState c.win = WinState.closed → ∃
      t, exec (.ping c) s = .next t ∧ Answered 1 c 0 0 0 t)
  ∧ (∀ (c : Cmd) (s : State), s.accepts false 2 c → c.operands 0 0 → ∃ t, exec (.fence c) s = .next t ∧ Answered 2 c 0 0 0 t)
  ∧ (∀ (c : Cmd) (s : State), s.takes 3 c → c.headerOk → c.operands 0 0 → s.fwSupports 3 = true → c.win ≠ 64 → s.winState c.win = WinState.closed → ∃
      t r, exec (.identify c) s = .next t ∧ Answered 3 c 0 64 r t)
  ∧ (∀ (c : Cmd) (s : State), s.accepts false 4 c → c.operands 8 4294967040 → ∃ t, exec (.ackBarker c) s = .next t ∧ Answered 4 c 0 0 0 t ∧ ((t.view
      c.win).config = ((s.view c.win).config && c.f 4 1 == 0)))
  ∧ (∀ (c : Cmd) (s : State), s.takes 5 c → c.headerOk → c.operands 0 0 → s.fwSupports 5 = true → c.win ≠ 64 → s.winState c.win = WinState.closed →
      s.ctl.boot = Boot.running → s.getP P.EVENT_OVER_QUOTA c.win = 0 → 6 ≤ (s.win c.win).sizeLog2 → (s.win c.win).sizeLog2 ≤ 16 → (s.win c.win).base
      ≠ 0 → (s.win c.win).base + 32 * 2 ^ (s.win c.win).sizeLog2 ≤ 2 ^ 64 → ∃ t, exec (.windowOpen c) s = .next t ∧ Answered 5 c 0 0 0 t ∧ (t.win
      c.win).state = WinState.opened)
  ∧ (∀ (c : Cmd) (s : State), s.accepts false 6 c → c.operands 0 0 → c.win ≠ 64 → (∀ q < 16, s.pair? c.win q = none) → (∀ e < 2, s.vcState e = 0 ∨
      s.vcp e P.VC_HOLDER ≠ c.win) → ∃ t, exec (.windowClose c) s = .next t ∧ Answered 6 c 0 0 0 t ∧ (t.win c.win).state = WinState.closed)
  ∧ (∀ (c : Cmd) (s : State), s.accepts false 7 c → c.operands 32 0 → c.win ≠ 64 → ∃ t, exec (.eventMaskSet c) s = .next t ∧ Answered 7 c 0 0 0 t ∧
      (t.win c.win).mask = setBit (c.f 0 256) 1)
  ∧ (∀ (c : Cmd) (s : State), s.accepts false 8 c → c.operands 0 0 → c.win ≠ 64 → ∃ t, exec (.eventMaskGet c) s = .next t ∧ Answered 8 c 0 32 (setBit
      (s.win c.win).mask 1) t)
  ∧ (∀ (c : Cmd) (s : State), s.accepts false 9 c → c.operands 4 0 → ∃ t, exec (.faultLogRead c) s = .next t ∧ Answered 9 c 0 (32 * (List.take 7
      (List.dropWhile (fun e => decide (e.seq < c.f 0 32)) s.ctl.faultLog)).length) (ofLE (List.flatMap (fun e => leBytes e.seq 4 ++ leBytes 0 4 ++
      leBytes e.time 8 ++ leBytes (e.cls * 4096 + e.idx) 2 ++ leBytes e.code 2 ++ leBytes 0 4 ++ leBytes e.detail 8) (List.take 7 (List.dropWhile (fun
      e => decide (e.seq < c.f 0 32)) s.ctl.faultLog)))) t)
  ∧ (∀ (c : Cmd) (s : State) (r : ParamRow), s.accepts false 16 c → c.operands 16 18446744065119617024 → c.f 32 1 = 0 → paramRow? (c.f 0 16) = some r
      → c.f 16 16 < max r.count 1 → c.f 0 16 ≠ P.SERIAL → c.f 0 16 ≠ P.MEM_POOL_FREE → c.f 0 16 ≠ P.MEM_CARVE_USED → (paramBase (c.f 0 16)).1 ≠
      P.DPC_STATIC_COUNT → ∃ t, exec (.paramGet c) s = .next t ∧ Answered 16 c 0 8 (s.getP (c.f 0 16) (c.f 16 16)) t)
  ∧ (∀ (c : Cmd) (s : State), s.accepts true 17 c → c.operands 16 18446744069414584320 → c.f 0 16 = 10 → c.f 16 16 = 0 → 20 ≤ c.f 64 64 → c.f 64 64 ≤
      1000 → s.claimedByOther c.win (pkey 10 0) = false → ∃ t, exec (.paramSet c) s = .next t ∧ Answered 17 c 0 0 0 t ∧ t.getP 10 0 = c.f 64 64)
  ∧ (∀ (c : Cmd) (s : State), s.accepts true 18 c → c.opLen = 24 → c.f 0 16 = 1 → c.f 16 48 = 0 → c.f 64 16 = 10 → c.f 80 16 = 0 → c.f 96 32 = 0 → 20
      ≤ c.f 128 64 → c.f 128 64 ≤ 1000 → s.claimedByOther c.win (pkey 10 0) = false → ∃ t, exec (.paramSetGroup c) s = .next t ∧ Answered 18 c 0 0 0 t
      ∧ t.getP 10 0 = c.f 128 64)
  ∧ (∀ (c : Cmd) (s : State), s.accepts false 19 c → c.operands 4 0 → c.f 0 16 = 10 → c.f 16 16 = 0 → ∃ t r, exec (.paramDescribe c) s = .next t ∧
      Answered 19 c 0 64 r t ∧ r % 2 ^ 16 = 10)
  ∧ (∀ (lg : ℕ) (k : ℕ) (p : Option ℕ) (s : State), lg < 28 → s.ctl.staged =
      [{ ats := [Boundary.lane lg], what := StagedWhat.laneTx k p, ticket := none, left := 0 }] → ∃ t, exec (.stagedChangeApply (Boundary.lane lg)) s
      = .next t ∧ (t.lane k).preset = p)
  ∧ (∀ (c : Cmd) (s : State), s.accepts false 32 c → c.operands 24 0 → tblHost c = 0 → tableRangeOk c = true → c.f 32 1 = 0 → c.f 0 16 ≠ 2 → c.f 0 16
      ≠ 3 → c.f 0 16 ≠ 9 → ∃ t, exec (.tableRead c) s = .next t ∧ Answered 32 c 0 (tblLen c) (ofLE (takeBytes (copyDef (c.f 0 16) (c.f 16 16))
      (s.activeCopy (c.f 0 16) (c.f 16 16)) (tblOffset c) (tblLen c))) t)
  ∧ (∀ (c : Cmd) (s : State), s.accepts false 33 c → c.opLen = 24 + tblLen c → tblHost c = 0 → tableRangeOk c = true → c.f 32 1 = 0 → c.f 0 16 ≠ 8 →
      c.f 0 16 ≠ 9 → (∀ (g : Staging), s.staging? (c.f 0 16) (c.f 16 16) = some g → g.owner = c.win) → ∃ t g, exec (.tableWrite c) s = .next t ∧
      Answered 33 c 0 0 0 t ∧ t.staging? (c.f 0 16) (c.f 16 16) = some g)
  ∧ (∀ (c : Cmd) (s : State) (g : Staging), s.accepts false 34 c → c.opLen = 4 → c.f 0 16 = 4 → s.staging? 4 (c.f 16 16) = some g → g.owner = c.win →
      s.commitPending 4 (c.f 16 16) = false → (∀ e ∈ g.bytes, e.1 % 4 ≠ 3) → c.immediate = false → ∃ t k, exec (.tableCommit c) s = .next t ∧
      Unanswered 34 c t ∧ k ∈ t.ctl.staged)
  ∧ (∀ (c : Cmd) (s : State), s.accepts false 35 c → c.operands 4 0 → c.f 16 16 < tableCount (c.f 0 16) → s.staging? (c.f 0 16) (c.f 16 16) = none → ∃
      t, exec (.tableDiscard c) s = .next t ∧ Answered 35 c 0 0 0 t)
  ∧ (∀ (c : Cmd) (s : State), s.accepts true 48 c → c.operands 20 1461501635969773450519930978862784589928859697152 → c.win ≠ 64 → c.f 0 32 = 0 → 1 ≤
      c.f 32 32 → c.f 32 32 ≤ 16777216 → c.f 128 1 = 1 → c.f 129 1 = 0 → s.ctl.switch = none → c.f 32 32 ≤ s.hostGood (c.f 64 64) (c.f 32 32) → c.host
      = [] → ∃ t, exec (.fwStage c) s = .next t ∧ Answered 48 c 0 0 0 t ∧ (t.fwSlot s.inactiveSlot).image = takeBytes zeroByte s.ctl.hostMem (c.f 64
      64) (c.f 32 32))
  ∧ (∀ (c : Cmd) (s : State), s.accepts true 49 c → c.operands 1 252 → s.ctl.switch = none → s.slotValid s.inactiveSlot = true → c.f 0 1 = 1 → ∃ t,
      exec (.fwActivate c) s = .next t ∧ Answered 49 c 0 0 0 t)
  ∧ (∀ (c : Cmd) (s : State), s.accepts false 50 c → c.operands 0 0 → ∃ t r, exec (.fwStatus c) s = .next t ∧ Answered 50 c 0 32 r t)
  ∧ (∀ (c : Cmd) (s : State), s.accepts true 51 c → c.operands 8 0 → c.f 0 32 < 4 → c.f 32 32 = 1380275787 → (s.fwSlot (s.getP P.FW_ACTIVE_SLOT
      0)).key ≠ c.f 0 32 → ∃ t, exec (.fwKeyRevoke c) s = .next t ∧ Answered 51 c 0 0 0 t)
  ∧ (∀ (c : Cmd) (s : State), s.accepts true 66 c → c.operands 8 18446742974197989120 → c.f 0 8 = 5 → c.f 16 16 < 64 → c.f 32 8 = 0 → (s.partner
      { kind := 5, pos := c.f 16 16 }).quarantined = true → ∃ t, exec (.quarantineRelease c) s = .next t ∧ Answered 66 c 0 0 0 t ∧ (t.partner
      { kind := 5, pos := c.f 16 16 }).quarantined = false)
  ∧ (∀ (p : PartnerId) (s : State), p.wf = true → (s.partner p).present = true → (s.partner p).reported = false → (p.kind = 0 → s.camState p.pos = 5)
      → ∃ t, exec (.partnerArrivalReport p) s = .next t ∧ (t.partner p).reported = true ∧ (t.partner p).present = true)
  ∧ (∀ (w : ℕ) (s : State), w < 64 → (s.partner { kind := 5, pos := w }).present = true → (s.partner { kind := 5, pos := w }).quarantined = true → ∃
      t, exec (.quarantineExpiry { kind := 5, pos := w }) s = .next t ∧ (t.partner { kind := 5, pos := w }).quarantined = false ∧ (t.partner
      { kind := 5, pos := w }).departs = [])
  ∧ (∀ (n : ℕ) (s : State), 1 ≤ n → n ≤ 63 → ∃ t, exec (.hostInterfaceReset (HostReset.flrVf n)) s = .next t ∧ t.win n = { })
  ∧ (∀ (on : Bool) (n : ℕ) (s : State), ∃ t, exec (.vfEnableChange on n) s = .next t ∧ t.ctl.vfEnable = on ∧ t.ctl.numVfs = min n 63)
  ∧ (∀ (o : ℕ) (s : State), ∃ t, exec (.poisonedTlp o) s = .next t ∧ (∃ l, s.ctl.faultLog = l ++ t.ctl.faultLog.dropLast ∧ t.ctl.faultLog.getLast? =
      some { seq := s.ctl.faultNext, time := s.now, cls := 14, idx := o / 65536 % 64, code := 2, detail := o }) ∧ OnlyControl s t)
  ∧ (∀ (s : State), s.getP P.RM_STATE 0 = 2 → s.ring.invalid = 7 → ∃ u, exec .genrefMissedEdge s = .next u ∧ u.getP P.RM_STATE 0 = 3 ∧ u.ring.period =
      s.ring.period)
  ∧ (∀ (s : State), s.ctl.boot = Boot.running → ∃ t, exec .lockstepMismatch s = .next t ∧ t.ctl.restarting = true)
  ∧ (∀ (s : State), s.ctl.boot = Boot.running → s.ctl.restarting = true → s.ctl.heldReplies = [] → ∃ t, exec .aipexRestartDone s = .next t ∧
      Option.map (fun e => (e.seq, e.code)) t.ctl.faultLog.getLast? = some (s.ctl.faultNext, 1) ∧ OnlyControl s t)
  ∧ (∀ (s : State), (∀ (w : ℕ), (s.win w).pendLoss = 0 ∧ (s.win w).rung = 0) → (∀ f ∈ s.ctl.flights, f.started = true) → s.dram.poison = [] → ∃ t,
      exec .aipexTick s = .next t ∧ t.now = s.now + 1000)
  ∧ (∀ (n : ℕ) (k : ℕ) (m : Sys2Proof.SMap Byte) (b : Boundary) (s : State), s.ctl.staged =
      [{ ats := [b], what := StagedWhat.tables [(4, n, m)], ticket := none, left := k }] → s.hasReached b = true → ∃ t, exec .tableSwap s = .next t ∧
      t.ctl.staged = [])
  ∧ (∀ (w : Switchover) (s : State), s.ctl.switch = some w → ∃ t, exec .switchoverImport s = .next t ∧ t.now = max s.now (w.start + 2000000))
  ∧ (∀ (w : Switchover) (s : State), s.ctl.switch = some w → w.imported = true → ∃ t, exec .switchoverComplete s = .next t ∧ t.getP P.FW_RELEASE 0 =
      (s.fwSlot s.inactiveSlot).release ∧ t.getP P.FW_ACTIVE_SLOT 0 = s.inactiveSlot)
  ∧ (∀ (w : Switchover) (s : State), s.ctl.switch = some w → ∃ t, exec .switchoverRollback s = .next t ∧ t.ctl.switch = none ∧ t.ctl.fwReady = true)

/-- Every command of the camera groups: training, packets, probes, losses and commands (chapter 3) completes (03_camera_ingest.md) -/
def Obligations.EveryCameraCommandCompletes : Prop :=
  (∀ (g : ℕ) (lane : ℕ) (s : State), g < 8 → lane < 17 → s.camState g = 1 → ∃ t, exec (.cgSignalDetect g lane) s = .next t ∧ GroupIn g 2 s t)
  ∧ (∀ (g : ℕ) (s : State), g < 8 → 2 ≤ s.camState g → s.camState g ≤ 4 → ∃ t, exec (.cgTrainTimeout g) s = .next t ∧ GroupIn g 1 (State.resetTraining
      g false s) t ∧ t.getP (P.cg g P.CG_SPARE_MAP) 0 = 255)
  ∧ (∀ (g : ℕ) (sets : List AlignSet) (s : State), g < 8 → sets.all AlignSet.wf = true → (∀ a ∈ sets, s.hears (1024 + 17 * g + a.lane) = true) →
      s.camState g = 2 → (s.laneGroup (16 + g)).trapStep ≠ 5 → (readAligns sets (s.group g)).width ≠ 0 → (readAligns sets (s.group g)).unique = true →
      (readAligns sets (s.group g)).missing = [] → ∃ t, exec (.cameraAlign g sets) s = .next t ∧ GroupIn g 3 (State.modGroup g (readAligns sets) s) t)
  ∧ (∀ (g : ℕ) (s : State), g < 8 → s.camState g = 4 → (s.group g).identified = false → (s.group g).discovers < 3 → ∃ t, exec (.discoverRetry g) s =
      .next t ∧ (t.group g).discovers = (s.group g).discovers + 1 ∧ t.sent = s.held (s.camWindow g) (Tx.camPkt g (mkHdr 9 0 (SMap.get (fun x => 0)
      (s.group g).retSeq 0) 0 0 0) []) :: s.sent)
  ∧ (∀ (p : CamPkt) (s : State), CamPkt.sound 5 p → s.camState p.group = 4 → s.receives p.group → p.payload.length = 32 → byteAt p.payload 12 = 1 → (∀
      (o : Head), (s.group p.group).head = some o → o.serial = fieldAt p.payload 0 8) → ∃ t, exec (.identity p) s = .next t ∧ (t.group p.group).head =
      some (headOf p.payload) ∧ (t.group p.group).identified = true)
  ∧ (∀ (p : CamPkt) (s : State), CamPkt.sound 6 p → s.receives p.group → p.payload.length = 32 → byteAt p.payload 0 % 2 = 1 → (s.sensor
      p.sensor).present = false → s.boundPipe p.sensor = none → ∃ t, exec (.vcAnnounce p) s = .next t ∧ (t.sensor p.sensor).present = true ∧ (t.sensor
      p.sensor).serial = fieldAt p.payload 24 8)
  ∧ (∀ (p : CamPkt) (s : State) (q : ℕ) (b : Binding), CamPkt.sound 1 p → s.camState p.group = 5 → s.receives p.group → p.payload.length = 16 →
      (s.sensor p.sensor).openFrame = OpenFrame.none → (s.sensor p.sensor).next = none → (s.sensor p.sensor).present = true → (s.group p.group).cap 0
      = true → (∀ n < 8, (s.pipe n).change = none) → s.boundPipe p.sensor = some q → (s.pipe q).bind = some b → s.bindingMatches b = true → (s.pipe
      q).rejected = false → s.frameBarred p.sensor = false → (s.pipe q).fmt = some (s.sensor p.sensor).fmt → s.getP (P.pl q P.PL_SID_GATE) 0 = 0 →
      (s.pipe q).gateReleased = 0 → s.ctl.staged = [] → s.rejectReason q (s.sensor p.sensor).fmt = none → (s.pipe q).building = none → (s.pipe
      q).refNext = [] → s.getP (P.pl q P.BL_MODE) 0 = 0 → s.fr.wb = [] → s.binList = [] → byteAt p.payload 6 % 2 = 0 → ∃ t f, exec (.frameStart p) s =
      .next t ∧ (t.pipe q).cur = some f ∧ f.number = fieldAt p.payload 0 4)
  ∧ (∀ (p : CamPkt) (late : List ℕ) (s : State) (q : ℕ) (f : Frame), (∀ x ∈ late, x < 16384) → CamPkt.sound 2 p → s.camState p.group = 5 → s.receives
      p.group → (s.sensor p.sensor).openFrame = OpenFrame.pipe q → (s.pipe q).cur = some f → f.lines.length ≤ hdrAux p.hdr → hdrAux p.hdr <
      f.fmt.height → p.payload.length = formatLineBytes f.fmt → (hdrFlags p.hdr).testBit 0 = false → ∃ t g, exec (.line p late) s = .next t ∧ (t.pipe
      q).cur = some g ∧ g.lines = ((f.fill (hdrAux p.hdr)).addLine p.payload).lines)
  ∧ (∀ (p : CamPkt) (s : State) (q : ℕ) (f : Frame), CamPkt.sound 3 p → s.camState p.group = 5 → s.receives p.group → p.payload.length = 8 → (s.sensor
      p.sensor).openFrame = OpenFrame.pipe q → (s.pipe q).cur = some f → (s.laneGroup (16 + p.group)).trapStep ≠ 3 → s.fr.wb = [] → s.store q = none →
      f.lines.length ≤ f.fmt.height → ∃ t, exec (.frameEnd p) s = .next t ∧ (t.sensor p.sensor).openFrame = OpenFrame.none ∧ (t.pipe q).cur = none)
  ∧ (∀ (p : CamPkt) (s : State) (q : ℕ) (f : Frame), CamPkt.sound 4 p → s.camState p.group = 5 → s.receives p.group → p.payload ≠ [] → (s.sensor
      p.sensor).openFrame = OpenFrame.pipe q → (s.pipe q).cur = some f → ∃ t g, exec (.embedded p) s = .next t ∧ (t.pipe q).cur = some g ∧ g.embedded
      = f.embedded ++ [p.payload])
  ∧ (∀ (p : CamPkt) (s : State) (e : ℕ × ℕ) (f : Flight), CamPkt.sound 7 p → s.camState p.group = 5 → s.receives p.group → p.payload.length = 12 →
      List.find? (fun x => x.1 == hdrAux p.hdr) (s.group p.group).ctrl = some e → s.awaits e.2 f → ∃ t, exec (.ctrlReply p) s = .next t ∧ (byteAt
      p.payload 8 = 0 → f.opcode = 261 → Answered 261 f.cmd 0 4 (fieldAt p.payload 4 4) t) ∧ (byteAt p.payload 8 = 0 → f.opcode = 260 → Answered 260
      f.cmd 0 0 0 t))
  ∧ (∀ (p : CamPkt) (s : State), CamPkt.sound 8 p → s.camState p.group = 5 → s.receives p.group → p.payload.length = 8 → ∃ t, exec (.headStatus p) s =
      .next t ∧ (t.group p.group).status = fieldAt p.payload 0 3 ∧ ((s.group p.group).status / 65536 = fieldAt p.payload 0 3 / 65536 → t.ctl = s.ctl))
  ∧ (∀ (p : CamPkt) (late : List ℕ) (s : State) (i : Instr), p.faulty = true → s.receives p.group → i ∈ [.cameraBadPacket p, .identity p, .vcAnnounce
      p, .frameStart p, .line p late, .frameEnd p, .embedded p, .ctrlReply p, .headStatus p] → i.wellFormed = true → ∃ t, exec i s = .next t ∧ t =
      (State.atLeast p.time s).bumpSat (P.cg p.group P.CG_HDR_ERRORS) 0 1)
  ∧ (∀ (g : ℕ) (t : ℕ) (s : State), g < 8 → s.camState g = 5 → s.powerState ≠ 2 → ∃ u, exec (.probeSend g t) s = .next u ∧ (u.group g).pseq =
      ((s.group g).pseq + 1) % 65536)
  ∧ (∀ (g : ℕ) (q : ℕ) (d3 : ℕ) (t : ℕ) (t0 : ℕ) (s : State), g < 8 → d3 < 256 → q + d3 = 255 → s.camState g = 5 → s.groupHears g = true → List.find?
      (fun e => e.1 == q) (s.group g).probes = some (q, t0) → ∃ u, exec (.probeEcho g q 1 d3 t) s = .next u ∧ (u.group g).echoes = List.take 16 ((t -
      t0 - (Option.map (fun x => x.turn) (s.group g).head).getD 0) / 2 :: (s.group g).echoes) ∧ (u.group g).lostRun = 0)
  ∧ (∀ (g : ℕ) (q : ℕ) (e : ℕ × ℕ) (s : State), g < 8 → q < 65536 → s.camState g = 5 → List.find? (fun x => x.1 == q) (s.group g).probes = some e →
      (s.group g).lostRun < 15 → ∃ u, exec (.probeTimeout g q) s = .next u ∧ (u.group g).lostRun = (s.group g).lostRun + 1 ∧ (u.group g).probes =
      List.filter (fun x => x != e) (s.group g).probes)
  ∧ (∀ (g : ℕ) (m : ℕ) (t : ℕ) (a : ℕ) (e : ℕ × ℤ × ℤ) (s : State), g < 8 → m < 16 → e ∈ s.tsyncsDue g → m.testBit (e.1 % 4) = true → (∀ x ∈
      s.tsyncsDue g, x.2 = e.2) → a = max (e.2.2.toNat / 65536 - 1) (min (e.2.2.toNat / 65536 + 2) t) → ∃ u, exec (.tsyncSend g m t) s = .next u ∧
      (u.group g).tsyncTime = a ∧ (u.group g).tsyncs.head? = some ((s.group g).tseq, s.ring.tag))
  ∧ (∀ (g : ℕ) (tag : ℕ) (e : ℕ × ℕ) (f : Flight) (s : State), g < 8 → tag < 65536 → List.find? (fun x => x.1 == tag) (s.group g).ctrl = some e →
      s.awaits e.2 f → ∃ t, exec (.camCtrlTimeout g tag) s = .next t ∧ Answered f.opcode f.cmd 9 0 0 t ∧ (t.group g).ctrl = List.filter (fun x => x !=
      e) (s.group g).ctrl)
  ∧ (∀ (g : ℕ) (lane : ℕ) (s : State), g < 8 → lane < 16 → s.camState g = 5 → lane < (s.group g).width → s.getP (P.cg g P.CG_SPARE_MAP) 0 = 255 →
      (s.group g).pendingMap = none → (s.group g).lspSeen = true → (s.group g).cap 2 = true → (s.laneGroup (16 + g)).trapStep = 0 → ∃ t, exec
      (.cameraLaneLost g lane) s = .next t ∧ (t.group g).pendingMap = some (lane, ((s.group g).lastAseq + 2) % 256) ∧ (t.group g).badLanes = setBit
      (s.group g).badLanes lane)
  ∧ (∀ (g : ℕ) (s : State), g < 8 → s.camState g ≠ 0 → ∃ t, exec (.cameraHeadLost g) s = .next t ∧ t.camState g = 1 ∧ (t.group g).head = none)
  ∧ (∀ (c : Cmd) (s : State), s.accepts false 257 c → c.operands 20 4278190080 → c.f 0 8 < 8 → c.f 8 8 < 8 → c.f 16 8 < 4 → s.bindHeld (c.f 0 8) (4 *
      c.f 8 8 + c.f 16 8) = false → (s.pipe (c.f 0 8)).bind = none → s.boundPipe (4 * c.f 8 8 + c.f 16 8) = none → c.immediate = true → ∃ t, exec
      (.sensorBind c) s = .next t ∧ Answered 257 c 0 0 0 t)
  ∧ (∀ (c : Cmd) (s : State) (b : Binding), s.accepts false 258 c → c.operands 1 0 → c.f 0 8 < 8 → (s.pipe (c.f 0 8)).bind = some b → s.bindHeld (c.f
      0 8) b.sensor = false → c.immediate = true → ∃ t, exec (.sensorUnbind c) s = .next t ∧ Answered 258 c 0 0 0 t)
  ∧ (∀ (c : Cmd) (s : State), s.accepts false 259 c → c.f 40 8 ≤ 32 → c.operands (12 + c.f 40 8) 4294901760 → c.f 0 8 < 8 → c.f 8 8 < 4 → c.f 32 8 ≠ 0
      → s.sensorUsable (4 * c.f 0 8 + c.f 8 8) = true → ∃ t, exec (.camExpose c) s = .next t ∧ Answered 259 c 0 0 0 t ∧ t.sent = s.held (s.camWindow
      (c.f 0 8)) (Tx.camPkt (c.f 0 8) (mkHdr 10 (c.f 8 8) (SMap.get (fun x => 0) (s.group (c.f 0 8)).retSeq (c.f 8 8)) (8 + c.f 40 8) 0 0) (withCrc
      (leBytes (c.ops >>> 32) (8 + c.f 40 8)))) :: s.sent)
  ∧ (∀ (c : Cmd) (s : State), s.accepts false 260 c → c.operands 12 4294967040 → c.f 0 8 < 8 → s.headUsable (c.f 0 8) = true → ∃ t, exec
      (.camCtrlWrite c) s = .next t ∧ Waits 260 c (State.sendCtrl (c.f 0 8) 11 s.newTicket (leBytes (c.f 32 64) 8) s) t ∧ (t.group (c.f 0 8)).ctrl =
      (s.group (c.f 0 8)).ctrl ++ [(((s.group (c.f 0 8)).ctrlTag + 1) % 65536, s.newTicket)])
  ∧ (∀ (c : Cmd) (s : State), s.accepts false 261 c → c.operands 8 4294967040 → c.f 0 8 < 8 → s.headUsable (c.f 0 8) = true → ∃ t, exec (.camCtrlRead
      c) s = .next t ∧ Waits 261 c (State.sendCtrl (c.f 0 8) 12 s.newTicket (leBytes (c.f 32 32) 4) s) t ∧ (t.group (c.f 0 8)).ctrl = (s.group (c.f 0
      8)).ctrl ++ [(((s.group (c.f 0 8)).ctrlTag + 1) % 65536, s.newTicket)])
  ∧ (∀ (c : Cmd) (s : State), s.accepts false 262 c → c.operands 1 0 → c.f 0 8 < 8 → s.camState (c.f 0 8) = 0 → ∃ t, exec (.camRetrain c) s = .next t
      ∧ Answered 262 c 0 0 0 t)

/-- Every command of the raw pipelines, colour science and canvases (chapters 4 to 6) completes (04_raw_pipeline.md, 05_colour_science.md, 06_canvases.md) -/
def Obligations.EveryPipelineAndCanvasCommandCompletes : Prop :=
  (∀ (p : ℕ) (s : State), p < 8 → s.getP (P.pl p P.PL_STATE) 0 = 2 → (s.pipe p).change = none → ∃ t, exec (.pipelineWaitTimeout p) s = .next t ∧
      t.getP (P.pl p P.PL_STATE) 0 = 1)
  ∧ (∀ (p : ℕ) (s : State), p < 8 → s.getP (P.pl p P.PL_SID_GATE) 0 ≠ 0 → s.getP (P.pl p P.PL_SID_GATE_TIMEOUT) 0 ≤ (s.pipe p).gateFrames → ∃ t, exec
      (.sidGateTimeout p) s = .next t ∧ (t.pipe p).gateExpired = true)
  ∧ (∀ (p : ℕ) (r : StatRecord) (s : State), p < 8 → (s.pipe p).building = some r → ∃ t, exec (.statsReady p) s = .next t ∧ (t.pipe p).records =
      List.take 4 (r :: (s.pipe p).records) ∧ t.getP (P.pl p P.ST_RECORDS) 0 = (s.getP (P.pl p P.ST_RECORDS) 0 + 1) % 2 ^ 32)
  ∧ (∀ (c : Cmd) (r : StatRecord) (l : List StatRecord) (s : State), s.accepts false 513 c → c.operands 20 4294901760 → c.host = [] → c.f 0 8 < 8 →
      c.f 8 8 = 0 → c.f 64 64 ≠ 0 → c.f 64 64 % 64 = 0 → 64 ≤ c.f 128 32 → c.f 128 32 ≤ 22592 → c.f 128 32 % 64 = 0 → (s.pipe (c.f 0 8)).records = r
      :: l → s.hostGood (c.f 64 64) (List.take (c.f 128 32) r.bytes).length = (List.take (c.f 128 32) r.bytes).length → ∃ t, exec (.statsRead c) s =
      .next t ∧ Answered 513 c 0 8 (r.tag + at' 32 (c.f 128 32)) t ∧ takeBytes zeroByte t.ctl.hostMem (c.f 64 64) (List.take (c.f 128 32)
      r.bytes).length = List.take (c.f 128 32) r.bytes)
  ∧ (∀ (c : Cmd) (k : ℕ) (s : State), s.accepts false 576 c → c.operands 8 4294705152 → (c.f 0 8 = 0 ∧ c.f 8 8 < 8 ∨ c.f 0 8 = 1 ∧ c.f 8 8 < 16) → k <
      4 → s.probe k = none → (∀ j < k, s.probe j ≠ none) → ∃ t, exec (.colourProbe c) s = .next t ∧ Waits 576 c (State.setProbe k (some
      { canvas := c.f 0 8 == 1, unit := c.f 8 8, phase := c.f 16 2, x := c.f 32 16, y := c.f 48 16, ticket := s.newTicket, since := s.now }) s) t)
  ∧ (∀ (k : ℕ) (q : Probe) (r : ℕ) (g : Flight) (s : State), k < 4 → s.probe k = some q → q.result = some r → s.awaits q.ticket g → ∃ t, exec
      (.colourProbeCapture k) s = .next t ∧ Answered g.opcode g.cmd 0 80 r t ∧ t.probe k = none)
  ∧ (∀ (k : ℕ) (q : Probe) (g : Flight) (s : State), k < 4 → s.probe k = some q → q.result = none → s.awaits q.ticket g → ∃ t, exec (.probeMissed k) s
      = .next t ∧ Answered g.opcode g.cmd 48 0 0 t ∧ t.probe k = none)
  ∧ (∀ (c : ℕ) (t : ℕ) (s : State), c < 16 → s.quietCanvas c → s.cvState c = 1 → ∃ u, exec (.showPeriodBoundary c t) s = .next u ∧ u.cvState c = 2 ∧
      (u.canvas c).tag = s.ring.tag)
  ∧ (∀ (c : ℕ) (p : ℕ) (s : State), c < 16 → p < 4 → s.cvState c = 2 → p < s.cvp c P.CV_PHASES 0 → (∀ i < 8, s.inputActive c i = false) → ∃ u, exec
      (.phaseBoundary c p) s = .next u ∧ (u.canvas c).phase = p ∧ (u.canvas c).composing = !(s.canvas c).held)
  ∧ (∀ (c : ℕ) (p : ℕ) (y : ℕ) (s : State), c < 16 → p < 4 → s.cvState c = 2 → (s.canvas c).composing = true → (s.canvas c).phase = p → y < s.cvp c
      P.CV_TOTAL_LINES 0 → y < s.cvp c P.CV_HEIGHT 0 → (∀ i < 16, 16 ≤ s.cvp c P.CV_ZORDER i) → s.eventEnabled c 1 p = false → s.portMap c = [] → (∀ k
      < 4, s.probe k = none) → ∃ u, exec (.canvasLine c p y [] []) s = .next u ∧ (u.canvas c).line = y + 1)
  ∧ (∀ (c : ℕ) (p : ℕ) (fence : ℕ) (s : State), c < 16 → p < 4 → s.cvState c = 2 → (s.canvas c).composing = true → (s.canvas c).phase = p → (∀ e < 2,
      s.vcp e P.VC_MODE ≠ 1) → ∃ u, exec (.frameDone c { phase := p, fence := fence }) s = .next u ∧ u.cvp c P.CV_SOURCES_OFF 0 = (s.canvas c).offMask
      ∧ (u.canvas c).lostPrev = (s.canvas c).lost)
  ∧ (∀ (c : ℕ) (l : ℕ) (y : ℕ) (w : ℕ) (k : Layer) (s : State), c < 16 → l < 8 → s.layerOf c l (s.pictureOf c unpackPicture) = some k → k.y ≤ y → y <
      k.y + k.h → s.fetchAt c l y = some (w, false) → s.dram.flaws = [] → s.goodBytes (k.base + (y - k.y) * k.stride) (layerBpp k.format * (min (k.x +
      k.w) (s.cvp c P.CV_WIDTH 0) - k.x)) = layerBpp k.format * (min (k.x + k.w) (s.cvp c P.CV_WIDTH 0) - k.x) → ∃ u, exec (.layerFetch c l y) s =
      .next u ∧ SMap.find (l * 65536 + y) (u.canvas c).fetched = some (s.devRead (k.base + (y - k.y) * k.stride) (layerBpp k.format * (min (k.x + k.w)
      (s.cvp c P.CV_WIDTH 0) - k.x))) ∧ u.now = max s.now (w / 65536))
  ∧ (∀ (p : ℕ) (t : ℕ) (b : ℕ) (x : FrameStore) (s : State), p < 8 → s.store p = some x → x.writing = some b → ∃ u, exec (.frameStoreComplete p t) s =
      .next u ∧ u.store p = some
      { base := x.base, width := x.width, height := x.height, bufs := modAt (fun v => { img := v.img, written := v.written, doneAt := t, complete := true }) b x.bufs, newest := some b }
      ∧ u.cv.cvs = s.cv.cvs)
  ∧ (∀ (n : ℕ) (p : ℕ) (c : ℕ) (s : State), n < 4 → p < 4 → s.psoCanvas n = some c → s.cvState c = 2 → s.powerState ≠ 2 → p < s.cvp c P.CV_PHASES 0 →
      (s.cvp c P.CV_PSO_PHASES n).testBit p = true → (s.canvas c).prevStart = none → ∃ u, exec (.phaseSyncRise n p) s = .next u ∧ u.cv.pso.testBit n =
      true ∧ SMap.get (fun x => (0, 0)) u.cv.psoRise n = ((s.phaseTime c p + 65535) / 65536 + s.cvp c P.CV_PSO_OFFSET n, s.cvp c P.CV_PSO_WIDTH n))
  ∧ (∀ (n : ℕ) (t : ℕ) (r : ℕ × ℕ) (s : State), n < 4 → s.cv.pso.testBit n = true → SMap.get (fun x => (0, 0)) s.cv.psoRise n = r → r.1 + r.2 ≤ t → ∃
      u, exec (.phaseSyncFall n t) s = .next u ∧ u.cv.pso.testBit n = false ∧ u.now = max s.now (r.1 + r.2))
  ∧ (∀ (c : Cmd) (l : ℕ) (s : State), s.accepts false 769 c → c.operands 68 4294901760 → c.f 0 8 < 16 → l < 8 → c.f 8 8 = 1 <<< l → (State.putParams
      [(P.cv (c.f 0 8) P.LY_BASE, l, c.f (32 + 64 * l) 64)] s.preview).layerRange (c.f 0 8) l P.LY_BASE = true → s.claimedByOther c.win (pkey (P.cv
      (c.f 0 8) P.LY_BASE) l) = false → c.immediate = true → ∃ t, exec (.layerFlip c) s = .next t ∧ Answered 769 c 0 0 0 t ∧ (∃ g ∈ t.ctl.staged,
      g.ats = [s.canvasBoundary (c.f 0 8)] ∧ g.what = StagedWhat.params [(P.cv (c.f 0 8) P.LY_BASE, l, c.f (32 + 64 * l) 64)]))
  ∧ (∀ (c : Cmd) (s : State), s.accepts false 770 c → c.operands 1 0 → c.f 0 8 < 16 → s.cvState (c.f 0 8) < 256 → s.cvp (c.f 0 8) P.CV_PHASES 0 < 256
      → ∃ t r, exec (.canvasStatus c) s = .next t ∧ Answered 770 c 0 32 r t ∧ r % 2 ^ 8 = s.cvState (c.f 0 8))
  ∧ (∀ (k : UnifCommit) (s : State), s.colour.commit = some k → k.copied = false → ∃ t, exec .unifBankCopyDone s = .next t ∧ t.colour.newest = 1 -
      s.colour.newest ∧ ((if t.colour.newest = 0 then t.colour.bank0 else t.colour.bank1) = k.bytes))
  ∧ (∀ (k : UnifCommit) (tk : ℕ) (g : Flight) (s : State), s.colour.commit = some k → k.copied = true → k.waiting = [] → k.ticket = some tk → s.awaits
      tk g → ∃ t, exec .unifCommitDone s = .next t ∧ Answered g.opcode g.cmd 0 0 0 t ∧ t.colour.commit = none)

/-- Every command of Midway and the partner link (chapter 7) completes (06_canvases.md, 07_midway.md) -/
def Obligations.EveryMidwayCommandCompletes : Prop :=
  (∀ (c : ℕ) (p : ℕ) (l : ℕ) (r : ℕ) (d1 : ℕ) (d2 : ℕ) (s : State), c < 16 → p < 4 → s.cvState c = 2 → s.powerState ≠ 2 → p < s.cvp c P.CV_PHASES 0 →
      s.canvasLoops c = [l] → (s.dirMode l = 1 ∨ s.dirMode l = 2) → (s.loop l).a.reach = r → r ≠ 0 → (s.loop l).b.reach = 0 → (d1 = p * 64 + (if r =
      s.dirCount l then r + 1 else r) % 64) → d2 = (s.canvas c).tag % 256 → (∀ (h : ℕ), 1 ≤ h → h ≤ 32 → (s.tile l h).frame = none) → ∃ t, exec
      (.fsoSend c p) s = .next t ∧ t.sent = Tx.tileSet (2 * l) 4 d1 d2 (255 - (d1 ^^^ d2)) :: s.sent)
  ∧ (∀ (l : ℕ) (h : ℕ) (c : ℕ) (p : ℕ) (y : ℕ) (m : MapEntry) (codes : List ℕ) (s : State), l < 512 → 1 ≤ h → h ≤ 32 → c < 16 → p < 4 → List.find?
      (fun x => x.loop == l && x.hop == h) (s.portMap c) = some m → SMap.find (outKey l h y) (s.canvas c).out = some codes → s.takesFrames l h p =
      false → ∃ t, exec (.tileLineSend l h c p y) s = .next t ∧ (t.canvas c).out = SMap.del (outKey l h y) (s.canvas c).out)
  ∧ (∀ (l : ℕ) (e : ℕ) (s : State), l < 512 → e < 2 → s.dirMode l ≠ 3 → s.powerState ≠ 2 → s.feedingEnd l e = true → ((s.loop l).side e).running =
      false → ∃ t, exec (.discoverInterval l e) s = .next t ∧ ((t.loop l).side e).running = true)
  ∧ (∀ (p : TilePkt) (e : ℕ) (f : ℕ) (c : ℕ) (h : ℕ) (s : State), e < 2 → TilePkt.sound 5 p → s.portEnd p.port = some f → s.hears p.port = true →
      s.dirMode (p.port / 2) ≠ 3 → p.payload.length = 32 → ((s.loop (p.port / 2)).side e).running = true → byteAt p.payload 25 = e → fieldAt p.payload
      26 2 = ((s.loop (p.port / 2)).side e).discId → byteAt p.payload 24 = c → 1 ≤ c → c ≤ s.dirCount (p.port / 2) → s.dirCount (p.port / 2) ≤ 32 → h
      = s.hopAt (p.port / 2) e c → (s.tile (p.port / 2) h).fromA = false → (s.tile (p.port / 2) h).fromB = false → s.tileCheck (p.port / 2) h
      (tileInfoOf p.payload) = none → (∀ (v : ℕ), s.loopCanvas (p.port / 2) = some v → s.cvp v P.CV_PHASES 0 ≤ (tileInfoOf p.payload).maxPhases + 1) →
      ((s.loop (p.port / 2)).side e).answers.length + 1 ≠ s.dirCount (p.port / 2) → ∃ t, exec (.tileId p) s = .next t ∧ (t.tile (p.port / 2) h).info =
      some (tileInfoOf p.payload) ∧ (t.tile (p.port / 2) h).fromA = decide (e = 0))
  ∧ (∀ (p : TilePkt) (e : ℕ) (k : ℕ × ℕ × ℕ) (g : Flight) (s : State), TilePkt.sound 8 p → s.portEnd p.port = some e → s.hears p.port = true →
      p.payload.length = 12 → byteAt p.payload 8 ≤ 2 → s.dirMode (p.port / 2) ≠ 3 → List.find? (fun x => x.1 == hdrAux p.hdr) (s.loop (p.port /
      2)).cfg = some k → s.awaits k.2.2 g → ∃ t, exec (.cfgReply p) s = .next t ∧ (byteAt p.payload 8 = 0 → g.opcode = 1027 → Answered g.opcode g.cmd
      0 4 (fieldAt p.payload 4 4) t) ∧ (byteAt p.payload 8 = 0 → g.opcode ≠ 1027 → Answered g.opcode g.cmd 0 0 0 t))
  ∧ (∀ (p : TilePkt) (e : ℕ) (h : ℕ) (s : State), TilePkt.sound 10 p → s.portEnd p.port = some e → s.hears p.port = true → p.payload.length = 16 →
      s.dirMode (p.port / 2) ≠ 3 → s.hopOfDist (p.port / 2) e (byteAt p.hdr 1 % 64) = h → 1 ≤ h → h ≤ 32 → ∃ t, exec (.tileStatus p) s = .next t ∧
      (t.tile (p.port / 2) h).status = p.payload ∧ t.now = max s.now p.time)
  ∧ (∀ (p : ℕ) (d1 : ℕ) (d2 : ℕ) (d3 : ℕ) (t : ℕ) (r : ℕ) (s : State), p < 1024 → d1 < 256 → d2 < 256 → (d1 ^^^ d2) + d3 = 255 → s.portEnd p = some 0
      → s.hears p = true → s.dirMode (p / 2) = 2 → (s.loop (p / 2)).a.heard ≠ some (d1 / 16, d2) → (d1 / 16 = 0 ∧ r = d2 + 1 ∨ d1 / 16 = 2 ∧ r = d2) →
      1 ≤ r → r < s.dirCount (p / 2) → s.dirCount (p / 2) ≤ 32 → (s.loop (p / 2)).trap = 0 → (s.loop (p / 2)).a.reach = s.dirCount (p / 2) → (s.loop
      (p / 2)).a.found = s.dirCount (p / 2) → (s.loop (p / 2)).b.reach = 0 → ∃ u, exec (.tileAlarmReceived p d1 d2 d3 t) s = .next u ∧ (u.loop (p /
      2)).a.found = r ∧ (u.loop (p / 2)).a.reach = r)
  ∧ (∀ (l : ℕ) (e : ℕ) (s : State), l < 512 → e < 2 → s.ownsEnd l e = true → ((s.loop l).side e).reach = 0 → s.powerState ≠ 2 → ((s.loop l).side
      e).trained = true → ((s.loop l).side e).running = false → (s.loop l).trap = 0 → ∃ t, exec (.feedWatchdog l e) s = .next t ∧ ((t.loop l).side
      e).starting = true)
  ∧ (∀ (l : ℕ) (r : ℕ) (s : State), l < 512 → s.dirMode l = 2 → s.dirCount l ≤ 32 → (s.loop l).b.starting = true → (s.loop l).b.done = true → (s.loop
      l).b.running = false → (s.loop l).a.running = false → (s.loop l).a.reach ≠ 0 → r = min (s.dirCount l - (s.loop l).a.reach) (s.loop l).b.found →
      r ≠ 0 → ∃ t, exec (.failoverTrained l) s = .next t ∧ (t.loop l).b.reach = r ∧ (t.loop l).b.trained = true)
  ∧ (∀ (l : ℕ) (h : ℕ) (e : ℕ) (s : State), l < 512 → 1 ≤ h → h ≤ 32 → s.ctrlEnd l h = some e → s.powerState ≠ 2 → s.tileState l h ≠ 4 → ∃ t, exec
      (.tilePoll l h) s = .next t ∧ (t.loop l).cfgTag = ((s.loop l).cfgTag + 1) % 256 ∧ (t.tile l h).poll = some (t.loop l).cfgTag)
  ∧ (∀ (l : ℕ) (h : ℕ) (s : State), l < 512 → 1 ≤ h → h ≤ 32 → (s.tile l h).poll ≠ none → s.tileState l h ≠ 0 → ∃ t, exec (.tilePollTimeout l h) s =
      .next t ∧ (t.tile l h).misses = (s.tile l h).misses + 1 ∧ ((s.tile l h).misses ≠ 2 → t.ctl = s.ctl))
  ∧ (∀ (l : ℕ) (tag : ℕ) (k : ℕ × ℕ × ℕ) (g : Flight) (s : State), l < 512 → tag < 256 → List.find? (fun x => x.1 == tag) (s.loop l).cfg = some k →
      s.awaits k.2.2 g → ∃ t, exec (.tileCfgTimeout l tag) s = .next t ∧ Answered g.opcode g.cmd 9 0 0 t)
  ∧ (∀ (l : ℕ) (s : State), l < 512 → s.dirMode l = 2 → (s.loop l).intact = true → (s.loop l).forced = 0 → s.getP (mwLoop l P.MW_REVERT) 0 = 1 →
      (s.loop l).handover = none → (s.loop l).b.reach ≠ 0 → (s.loop l).trap = 0 → ∃ t, exec (.revertHoldExpiry l) s = .next t ∧ (t.loop
      l).handover.isSome = true)
  ∧ (∀ (l : ℕ) (h : Handover) (s : State), l < 512 → (s.loop l).handover = some h → h.tag ≠ none → h.reachA ≠ 0 → s.dirMode l = 2 → (s.loop
      l).a.running = false → (s.loop l).b.running = false → ∃ t, exec (.handoverReady l) s = .next t ∧ (t.loop l).handover = some
      { tag := h.tag, reachA := h.reachA, reachB := h.reachB, kind := h.kind, ticket := h.ticket, ready := true, acked := h.acked, reason := h.reason }
      ∧ (t.loop l).a.trained = true)
  ∧ (∀ (l : ℕ) (tk : ℕ) (h : Handover) (g : Flight) (s : State), l < 512 → (s.loop l).handover = some h → h.goes = false → h.ticket = some tk →
      s.awaits tk g → (s.loop l).trap = 0 → l ∉ s.mw.link.handing → ∃ t, exec (.handoverAbandon l) s = .next t ∧ Answered g.opcode g.cmd 9 0 0 t)
  ∧ (∀ (p : TilePkt) (s : State), TilePkt.soundPartner 1 32 p → s.linkHears = true → s.linkState = 4 → byteAt p.payload 14 = 1 → byteAt p.payload 12 ≠
      s.mw.link.role → (s.mw.link.want = 0 ∨ s.mw.link.want = fieldAt p.payload 0 8) → s.mw.link.probesDone < 16 → ∃ t, exec (.pIdentity p) s = .next
      t ∧ t.getP P.PT_PARTNER_SERIAL 0 = fieldAt p.payload 0 8 ∧ t.now = max s.now p.time)
  ∧ (∀ (p : TilePkt) (e : ℕ) (s : State), TilePkt.soundPartner 2 8 p → s.linkHears = true → s.linkState = 5 → s.mw.link.hbNext = some e → e < 65536 →
      ∃ t, exec (.pHeartbeat p) s = .next t ∧ t.getP P.PT_HEARTBEAT_LOST 0 = min (s.getP P.PT_HEARTBEAT_LOST 0 + (fieldAt p.payload 4 2 + 65536 - e) %
      65536) (2 ^ 32 - 1) ∧ t.now = max s.now p.time)
  ∧ (∀ (t : ℕ) (d1 : ℕ) (d2 : ℕ) (d3 : ℕ) (s : State), d1 + d3 = 255 → d2 < 256 → s.linkHears = true → s.partnerTiming = true → s.getP P.RM_STATE 0 =
      1 → s.ring.prevEdge = none → ∃ u, exec (.pmark t d1 d2 d3) s = .next u ∧ u.ring.prevEdge = some ((t - s.getP P.PT_LINK_DELAY 0) * 65536) ∧
      u.getP P.PT_TIME_ERR 0 = s.getP P.RM_PHASE_ERR 0)
  ∧ (∀ (p : TilePkt) (l : ℕ) (s : State), TilePkt.soundPartner 3 16 p → s.linkHears = true → s.linkState = 5 → s.mw.link.role = 0 → (s.loop (fieldAt
      p.payload 0 2)).yields = false → l = fieldAt p.payload 0 2 → l < 512 → s.dirMode l = 3 → s.dirFeeder l = 0 → ∃ t, exec (.pLoop p) s = .next t ∧
      (t.loop l).peer = (byteAt p.payload 2, byteAt p.payload 3, byteAt p.payload 4, byteAt p.payload 5, fieldAt p.payload 8 4) ∧ (t.loop l).b.done =
      true)
  ∧ (∀ (p : TilePkt) (l : ℕ) (s : State), TilePkt.soundPartner 4 12 p → s.linkHears = true → s.linkState = 5 → l = fieldAt p.payload 0 2 → l < 512 →
      s.dirMode l = 3 → byteAt p.payload 2 = 0 → (s.loop l).handover = none → s.dirFeeder l = 0 → (s.loop l).yields = false → s.reachesAll l 0 = true
      → byteAt p.payload 9 ≠ 0 → s.loopCanvas l = none → ∃ t, exec (.pHandover p) s = .next t ∧ (t.loop l).handover.isSome = true)
  ∧ (∀ (p : TilePkt) (l : ℕ) (h : ℕ) (s : State), TilePkt.soundPartner 5 48 p → s.linkHears = true → s.linkState = 5 → l = fieldAt p.payload 0 2 → l <
      512 → s.dirMode l = 3 → h = byteAt p.payload 2 → 1 ≤ h → h ≤ 32 → byteAt p.payload 3 = 1 → ∃ t, exec (.pTile p) s = .next t ∧ (t.tile l
      h).status = List.take 16 (List.drop 16 p.payload) ∧ t.now = max s.now p.time)
  ∧ (∀ (c : Cmd) (s : State), s.accepts true 65 c → c.operands 12 4278190080 → c.f 0 8 = 0 → s.linkState = 0 → ∃ t, exec (.partnerConfig c) s = .next
      t ∧ Answered 65 c 0 0 0 t)
  ∧ (∀ (c : Cmd) (s : State), s.accepts false 1025 c → c.operands 2 0 → c.f 0 16 < 512 → s.feedingEnd (c.f 0 16) 0 = false → s.feedingEnd (c.f 0 16) 1
      = false → ∃ t, exec (.loopDiscover c) s = .next t ∧ Answered 1025 c 0 2 ((s.loop (c.f 0 16)).a.found + at' 8 (s.loop (c.f 0 16)).b.found) t)
  ∧ (∀ (c : Cmd) (l : ℕ) (h : ℕ) (e : ℕ) (tag : ℕ) (s : State), l = c.f 0 16 → h = c.f 16 8 → l < 512 → 1 ≤ h → h ≤ 32 → s.tileState l h ≠ 4 →
      s.ctrlEnd l h = some e → tag = ((s.loop l).cfgTag + 1) % 256 → s.accepts false 1026 c → c.operands 12 4278190080 → ∃ t, exec (.tileCfgWrite c) s
      = .next t ∧ Unanswered 1026 c t ∧ (t.loop l).cfgTag = tag)
  ∧ (∀ (c : Cmd) (l : ℕ) (h : ℕ) (e : ℕ) (tag : ℕ) (s : State), l = c.f 0 16 → h = c.f 16 8 → l < 512 → 1 ≤ h → h ≤ 32 → s.tileState l h ≠ 4 →
      s.ctrlEnd l h = some e → tag = ((s.loop l).cfgTag + 1) % 256 → s.accepts false 1027 c → c.operands 8 4278190080 → ∃ t, exec (.tileCfgRead c) s =
      .next t ∧ Unanswered 1027 c t ∧ (t.loop l).cfgTag = tag)
  ∧ (∀ (c : Cmd) (l : ℕ) (h : ℕ) (n : ℕ) (s : State), s.accepts false 1028 c → c.operands 4 0 → l = c.f 0 16 → h = c.f 16 8 → n = c.f 24 8 → l < 512 →
      1 ≤ h → 1 ≤ n → n ≤ 12 → h + n ≤ 33 → (∀ i < n, s.tileState l (h + i) < 256 ∧ (s.tile l (h + i)).status.length ≤ 16) → ∃ t r, exec
      (.tileStatusRead c) s = .next t ∧ Answered 1028 c 0 (20 * n) r t)
  ∧ (∀ (c : Cmd) (l : ℕ) (m : ℕ) (s : State), s.accepts false 1029 c → c.operands 3 0 → l = c.f 0 16 → m = c.f 16 8 → l < 512 → m = 0 → (s.loop
      l).handover = none → s.reachesAll l 0 = false → ∃ t, exec (.loopFeed c) s = .next t ∧ Answered 1029 c 0 0 0 t)
  ∧ (∀ (p : ℕ) (d1 : ℕ) (d2 : ℕ) (d3 : ℕ) (t : ℕ) (e : ℕ) (s : State), p < 1024 → d1 < 256 → d2 + d3 = 255 → d1 % 64 = 0 → s.hears p = true →
      s.portEnd p = some e → d1.testBit 7 = false → d1.testBit 6 = false → ((s.loop (p / 2)).side e).trained = false → e = 0 → (s.loop (p / 2)).forced
      ≠ 2 → ((s.loop (p / 2)).side e).running = false → s.dirMode (p / 2) ≠ 3 → s.feedingEnd (p / 2) 1 = false → ∃ u, exec (.tilePortAlign p d1 d2 d3
      t) s = .next u ∧ (u.loop (p / 2)).a.trained = true ∧ (u.loop (p / 2)).a.discId = ((s.loop (p / 2)).a.discId + 1) % 65536)
  ∧ (∀ (p : TilePkt) (e : ℕ) (s : State), TilePkt.sound 4 p → s.portEnd p.port = some e → s.hears p.port = true → s.dirMode (p.port / 2) = 2 →
      p.payload.length = 4 → byteAt p.payload 2 ≠ e → hdrAux p.hdr = s.dirCount (p.port / 2) → (s.loop (p.port / 2)).a.done = true → (s.loop (p.port /
      2)).a.reach = s.dirCount (p.port / 2) → s.dirCount (p.port / 2) ≠ 0 → (s.loop (p.port / 2)).b.reach = 0 → ∃ t, exec (.discoverReceived p) s =
      .next t ∧ (t.loop (p.port / 2)).intact = true)
  ∧ (∀ (p : ℕ) (d1 : ℕ) (d2 : ℕ) (d3 : ℕ) (t : ℕ) (e : ℕ) (s : State), p < 1024 → d1 < 256 → d2 < 256 → (d1 ^^^ d2) + d3 = 255 → s.portEnd p = some e
      → s.hears p = true → s.dirMode (p / 2) ≠ 3 → (s.loop (p / 2)).a.done = true → (s.loop (p / 2)).a.reach = s.dirCount (p / 2) → s.dirCount (p / 2)
      ≠ 0 → (s.loop (p / 2)).b.reach = 0 → ∃ u, exec (.fsoReceived p d1 d2 d3 t) s = .next u ∧ u.loopState (p / 2) = 2)
  ∧ (∀ (k : ℕ) (s : State), k < 8 → s.linkState = 1 → s.mw.link.mask.testBit k = true → ∃ t, exec (.partnerSignalDetect k) s = .next t ∧ LinkIn 2 s t)
  ∧ (∀ (l : List AlignSet) (s : State), l.all AlignSet.wf = true → (∀ a ∈ l, s.hears (1160 + a.lane) = true) → s.linkState = 2 → fullColumn
      s.mw.link.width l = true → ∃ t, exec (.partnerAlign l) s = .next t ∧ t.linkState = 3)
  ∧ (∀ (q : ℕ) (d3 : ℕ) (t : ℕ) (s : State), d3 < 256 → q + d3 = 255 → s.linkHears = true → (s.linkState = 4 ∨ s.linkState = 5) → ∃ u, exec
      (.partnerProbe q 0 d3 t) s = .next u ∧ u.sent = Tx.partnerSet 6 q 1 (255 - q) :: s.sent)
  ∧ (∀ (s : State), s.linkState = 5 → s.quietEnd = none → ∃ t, exec .pHeartbeatSend s = .next t ∧ t.mw.link.hbSeq = (s.mw.link.hbSeq + 1) % 65536)
  ∧ (∀ (s : State), s.linkState = 5 → s.quietEnd = none → s.mw.link.role ≠ 1 → (s.partner linkId).present = true → ∃ t, exec .partnerHeartbeatTimeout
      s = .next t ∧ t.linkState = 1 ∧ t.getP P.PT_WIDTH 0 = 0)
  ∧ (∀ (s : State), 2 ≤ s.linkState → s.linkState ≤ 4 → ∃ t, exec .partnerTrainTimeout s = .next t ∧ t.linkState = 1)

/-- Every command of the serial lanes (chapter 8) completes (08_serial_lanes.md) -/
def Obligations.EveryLaneCommandCompletes : Prop :=
  (∀ (k : ℕ) (s : State), k < 1168 → s.detects k = true → ∃ t, exec (.laneSignalDetect k) s = .next t ∧ ((t.lane k).lock = if (s.lane k).lock = 0 ∧
      (s.lane k).rx = 3 then 1 else (s.lane k).lock) ∧ (t.lane k).signal = true)
  ∧ (∀ (k : ℕ) (s : State), k < 1168 → (s.lane k).lock ≠ 3 → ∃ t, exec (.laneSignalLoss k) s = .next t ∧ (t.lane k).signal = false ∧ (t.lane k).lock =
      (s.lane k).lock)
  ∧ (∀ (k : ℕ) (p : ℕ) (s : State), k < 1168 → p < 10 → (s.lane k).measuring = false → (s.lane k).lock = 2 → (s.lane k).phase = p → 3 ≤ (s.lane
      k).commas → (s.lane k).lost = false → (s.lane k).adapted = true → ∃ t, exec (.laneComma k p) s = .next t ∧ (t.lane k).lock = 3)
  ∧ (∀ (k : ℕ) (g : ℕ) (s : State), k < 1168 → g < 1024 → (s.lane k).measuring = false → 2 ≤ (s.lane k).lock → checkGroup g (s.lane k).rd ≠ .valid →
      ((s.lane k).lock = 2 ∨ (s.lane k).lock = 3 ∧ (s.lane k).errs < 3) → ∃ t, exec (.laneInvalidSymbol k [] g) s = .next t ∧ (t.lane k).rd = rdGroup
      g (s.lane k).rd ∧ (t.lane k).validRun = 0)
  ∧ (∀ (k : ℕ) (s : State), k < 1024 → s.portEnd k = none → (s.lane k).lock = 3 → (s.lane k).measuring = false → (s.lane k).winEnd ≤ s.now → ∃ t, exec
      (.laneCommaTimeout k) s = .next t ∧ LockLost k 1 s t)
  ∧ (∀ (k : ℕ) (v : ℕ) (d1 : ℕ) (d2 : ℕ) (d3 : ℕ) (drift : ℤ) (s : State), k < 1024 → d1 < 256 → d2 < 256 → d3 < 256 → s.hears k = true → ↑v =
      ↑(s.lane k).fill + drift → 1 ≤ v → v ≤ 16 → ∃ t, exec (.skipReceived k drift d1 d2 d3) s = .next t ∧ ((t.lane k).fill = if 10 ≤ v then v - 4
      else if v ≤ 6 then v + 4 else v) ∧ ((t.lane k).skipIns = if v ≤ 6 then min ((s.lane k).skipIns + 1) (2 ^ 32 - 1) else (s.lane k).skipIns))
  ∧ (∀ (k : ℕ) (s : State), k < 1168 → (s.lane k).tx = 3 → ∃ t, exec (.skipSend k) s = .next t ∧ t.sent = (List.map (fun j => Tx.lane j 0 90 165 90)
      (List.filter (fun j => (s.lane j).tx == 3) (s.bonded k).1)).reverse ++ s.sent)
  ∧ (∀ (k : ℕ) (a : ℕ) (d : ℕ) (s : State), k < 1168 → (s.lane k).lock = 3 → a = 0 → ∃ t, exec (.fomWindow k a d) s = .next t ∧ (t.lane k).fom < 256 ∧
      (t.lane k).fomLow = some (min (t.lane k).fom ((s.lane k).fomLow.getD 255)))
  ∧ (∀ (g : ℕ) (k : ℕ) (q : ℕ) (l : List (ℕ × ℕ)) (s : State), g < 28 → k ∈ groupLanes g → (s.lane k).lock = 3 → (∀ j ∈ groupLanes g, j ≠ k → (s.lane
      j).lock ≠ 3) → s.getP P.LN_MEASURE g = 0 → (s.lane k).fomLow = some q → (s.lane k).low = false → s.getP P.LN_QUALITY_MIN g ≤ q → ∃ t, exec
      (.laneMonitor g l) s = .next t ∧ (t.lane k).quality = q ∧ t.getP P.LN_WORST g = q + at' 16 k)
  ∧ (∀ (k : ℕ) (s : State), k < 1168 → (s.lane k).rx < (s.laneWanted k).2 → ∃ t, exec (.laneWakeDone k false) s = .next t ∧ (t.lane k).rx =
      (s.laneWanted k).2)
  ∧ (∀ (g : ℕ) (w : ℕ) (l : List (ℕ × ℕ)) (r : CalRun) (x : CalLane) (s : State), 24 ≤ g → g < 28 → (s.laneGroup g).run = some r → r.todo = [x] →
      x.method = 1 → r.restore = [] → x.slices < 8 → (∀ e ∈ s.ln.scans, e.lane ≠ x.lane) → 1024 ≤ x.lane → (State.atLeast w s).windowOpen x.lane =
      true → ∃ t, exec (.calWindow g { start := w, quality := l }) s = .next t ∧ (t.laneGroup g).run = some
      { reason := r.reason, start := r.start, temp := r.temp, delta := r.delta, todo := [{ lane := x.lane, method := x.method, slices := x.slices + 1 }], methods := r.methods, done := r.done, worst := r.worst, restored := r.restored, restore := r.restore }
      ∧ (t.laneGroup g).winEnd = max s.now w + 16000)
  ∧ (∀ (g : ℕ) (k : ℕ) (q : ℕ) (r : CalRun) (x : CalLane) (s : State), k < 1168 → g = laneGroupOf k → 24 ≤ g → (s.laneGroup g).run = some r →
      List.find? (fun c => c.lane == k && c.method != 1) r.todo = some x → (s.lane k).measuring = true → r.restore = [] → x.method = 2 → List.filter
      (fun c => c.lane != k) r.todo ≠ [] → ∃ t, exec (.calMeasureDone k q) s = .next t ∧ (t.lane k).corrOld = (s.lane k).corr ∧ (t.lane k).quality =
      q)
  ∧ (∀ (g : ℕ) (tk : ℕ) (f : Flight) (s : State), g < 28 → s.getP P.LN_CAL_STATE g ≠ 0 → (s.laneGroup g).tickets = [tk] → s.awaits tk f → ∃ t, exec
      (.calDeferLimit g) s = .next t ∧ Answered f.opcode f.cmd 9 0 0 t ∧ ServiceCond.calDeferred g ∈ t.ctl.service)
  ∧ (∀ (k : ℕ) (b : Bool) (w : Bool) (s : State), k < 1168 → (s.lane k).chk ≠ 0 → (s.lane k).loopback ≠ 1 → w = patternBit (s.lane k).chk (s.lane
      k).user (s.lane k).pat.ref → (s.lane k).sync = true → popcount ((2 * (s.lane k).pat.hist + b2n (w != b)) % 2 ^ 128) 128 < 32 → ∃ t, exec
      (.patternSync k [] b []) s = .next t ∧ (t.lane k).compared = ((s.lane k).compared + 1) % 2 ^ 64)
  ∧ (∀ (c : Cmd) (k : ℕ) (n : ℕ) (s : State), s.accepts false 1281 c → c.operands 4 4261412864 → k = c.f 0 16 → n = c.f 16 8 → 1 ≤ n → n ≤ 5 → k + n ≤
      1168 → (∀ i < n, s.laneRecord (k + i) < 2 ^ 384) → ∃ t r, exec (.laneStatus c) s = .next t ∧ Answered 1281 c 0 (48 * n) r t ∧ (c.ops.testBit 24
      = false → CommandOnly c s t))
  ∧ (∀ (c : Cmd) (s : State), s.accepts false 1282 c → c.operands 4 4294966784 → c.f 0 8 < 28 → s.getP P.LN_CAL_STATE (c.f 0 8) ≠ 2 → ∃ t, exec
      (.laneCalibrate c) s = .next t ∧ Unanswered 1282 c t ∧ t.getP P.LN_CAL_STATE (c.f 0 8) = 1)
  ∧ (∀ (c : Cmd) (s : State), s.accepts false 1283 c → c.operands 20 18446742974197923840 → c.f 0 16 < 1168 → c.f 16 8 ∈ [1, 2, 4, 8, 16] → 1 ≤ c.f 24
      8 → c.f 24 8 ≤ 127 → 20 ≤ c.f 32 8 → c.f 32 8 ≤ 36 → c.f 64 64 ≠ 0 → c.f 64 64 % 64 = 0 → 32 + 8 * scanPoints (c.f 16 8) (c.f 24 8) ≤ c.f 128 32
      → (s.lane (c.f 0 16)).lock = 3 → s.ln.scans.length < 4 → ∃ t, exec (.eyeScan c) s = .next t ∧ Unanswered 1283 c t ∧ t.getP P.LN_SCANS_ACTIVE 0 =
      s.ln.scans.length + 1)
  ∧ (∀ (k : ℕ) (t : ℕ) (e : EyeScan) (l : List (ℕ × ℕ)) (g : Flight) (s : State), k < 1168 → List.find? (fun e => e.lane == k) s.ln.scans = some e →
      s.awaits e.ticket g → (∀ (w : ℕ), (s.win w).mask.testBit 100 = false) → s.hostGood (e.host + 32) (8 * scanPoints e.h e.v) = 8 * scanPoints e.h
      e.v → s.hostGood e.host 32 = 32 → ∃ u, exec (.eyeScanDone k false l t) s = .next u ∧ Answered g.opcode g.cmd 0 5 (32 + 8 * scanPoints e.h e.v +
      at' 32 (min (innerEye e.h e.v l).1 254)) u ∧ u.ln.scans = List.filter (fun x => x != e) s.ln.scans)
  ∧ (∀ (c : Cmd) (k : ℕ) (s : State), s.accepts false 1284 c → c.operands 12 79228157791897854728135507968 → k = c.f 0 16 → k < 1168 → c.f 16 3 ≤ 4 →
      c.f 20 3 ≤ 4 → c.f 24 2 ≤ 1 → s.laneInUse k = false → s.getP P.LN_CAL_STATE (laneGroupOf k) ≠ 2 → ∃ t, exec (.patternSet c) s = .next t ∧
      Answered 1284 c 0 0 0 t)
  ∧ (∀ (c : Cmd) (k : ℕ) (s : State), s.accepts false 1285 c → c.operands 4 4294836224 → k = c.f 0 16 → k < 1168 → (s.lane k).chk < 2 ^ 24 → (s.lane
      k).compared < 2 ^ 64 → (s.lane k).errors < 2 ^ 32 → ∃ t r, exec (.patternStatus c) s = .next t ∧ Answered 1285 c 0 24 r t ∧ r % 2 ^ 8 = b2n
      (s.lane k).sync)
  ∧ (∀ (c : Cmd) (k : ℕ) (n : ℕ) (s : State), s.accepts (c.ops.testBit 24) 1286 c → c.operands 4 4261412864 → k = c.f 0 16 → n = c.f 16 8 → k < 1168 →
      1 ≤ n → n ≤ 64 → (c.ops.testBit 24 = true ∨ (s.lane k).gen ≠ 0) → ∃ t, exec (.laneInject c) s = .next t ∧ Answered 1286 c 0 0 0 t ∧ t.sent =
      Tx.lane k 7 n (b2n (c.ops.testBit 24)) 0 :: s.sent)
  ∧ (∀ (c : Cmd) (k : ℕ) (v : ℕ) (s : State), s.accepts false 1287 c → c.operands 4 4278190080 → k = c.f 0 16 → v = c.f 16 8 → k < 1168 → (v ≤ 7 ∨ v =
      255) → c.immediate = true → ∃ t, exec (.laneTxSet c) s = .next t ∧ Answered 1287 c 0 0 0 t)
  ∧ (∀ (g : ℕ) (s : State), g < 28 → (List.filter (fun g => s.getP P.LN_CAL_STATE g == 2) (List.range 28)).length < s.getP P.LN_CAL_PARALLEL 0 →
      s.getP P.LN_CAL_STATE g = 1 → (∀ h < g, s.getP P.LN_CAL_STATE h ≠ 1 ∧ (s.getP P.LN_CAL_STATE h ≠ 3 ∨ s.runFits h = false)) → s.runFits g = false
      → ∃ t, exec .calibrationStart s = .next t ∧ t.getP P.LN_CAL_STATE g = 3)

/-- Every command of DRAM, host buffers, expanders, regions and flushes (chapter 9) completes (09_memory.md) -/
def Obligations.EveryMemoryCommandCompletes : Prop :=
  (∀ (c : Cmd) (n : ℕ) (a : ℕ) (s : State), s.accepts false 1537 c → c.operands 12 4294967040 → (c.f 0 8 = 2 ∨ c.f 0 8 = 3) → c.f 32 64 ≠ 0 → n = cdiv
      (c.f 32 64) pageBytes → (c.win < 64 → s.getP P.MEM_WINDOW_USED c.win + 2 * n ≤ s.getP P.MEM_WINDOW_QUOTA c.win) → s.carveUsed (c.f 0 8) + 2 * n
      ≤ s.getP P.MEM_CARVE_QUOTA (c.f 0 8) → s.pagesFree n = true → s.placeBuffer (c.f 0 8) (n * pageBytes) = some a → ∃ t b, exec (.memAlloc c) s =
      .next t ∧ Answered 1537 c 0 8 a t ∧ t.dram.buffers = s.dram.buffers ++ [b])
  ∧ (∀ (c : Cmd) (s : State) (b : Buffer), s.accepts false 1538 c → c.operands 8 0 → List.find? (fun b => b.base == c.f 0 64 && b.window.isSome)
      s.dram.buffers = some b → b.window = some c.win → s.bufferBusy b = false → ∃ t, exec (.memFree c) s = .next t ∧ Answered 1538 c 0 0 0 t ∧
      t.dram.buffers = List.filter (fun x => x.base != b.base) s.dram.buffers)
  ∧ (∀ (c : Cmd) (a : ℕ) (h : ℕ) (n : ℕ) (b : Buffer) (s : State), c.host = [] → c.operands 20 0 → a = c.f 0 64 → h = c.f 64 64 → n = c.f 128 32 → h ≠
      0 → 1 ≤ n → n ≤ 16777216 → s.hostBuffer a n = some b → b.window = some c.win → c.win < 64 → s.dram.flaws = [] → s.accepts false 1539 c →
      s.hostGood h n = n → ∃ t, exec (.memWrite c) s = .next t ∧ Answered 1539 c 0 0 0 t ∧ t.devRead a n = takeBytes zeroByte s.ctl.hostMem h n)
  ∧ (∀ (c : Cmd) (a : ℕ) (h : ℕ) (n : ℕ) (b : Buffer) (s : State) (m : ℕ), c.host = [] → c.operands 20 0 → a = c.f 0 64 → h = c.f 64 64 → n = c.f 128
      32 → h ≠ 0 → 1 ≤ n → n ≤ 16777216 → s.hostBuffer a n = some b → b.window = some c.win → c.win < 64 → s.dram.flaws = [] → s.accepts false 1540 c
      → (s.firstPoison a n).getD n = m → m ≤ n → s.hostGood h m = m → ∃ t, exec (.memRead c) s = .next t ∧ (m = n → Answered 1540 c 0 0 0 t) ∧ (m < n
      → Answered 1540 c 10 4 m t))
  ∧ (∀ (a : ℕ) (w : Bool) (s : State), s.mapped a = false → ∃ t, exec (.addressFault a w) s = .next t ∧ Option.map (fun e => (e.seq, e.cls, e.idx,
      e.code)) t.ctl.faultLog.getLast? = some (s.ctl.faultNext, 9, 0, 1538))
  ∧ (∀ (ch : ℕ) (b : ℕ) (x : ℕ × ℕ × ℕ) (s : State), ch < 16 → b < 16 → List.find? (fun c => c.1 == ch && c.2.1 == b) s.dram.candidates = some x → 32
      ≤ (List.filter (fun r => r.1 == ch && r.2.1 == b) s.dram.remap).length → ∃ t, exec (.rowRetired ch b) s = .next t ∧ ServiceCond.rowPool ch b ∈
      t.ctl.service ∧ t.dram.candidates = List.filter (fun x_1 => x_1 != x) s.dram.candidates)
  ∧ (∀ (ch : ℕ) (b : ℕ) (l : List ScrubFinding) (s : State), ch < 16 → b < 16 → ∃ t, exec (.dramRefresh ch { bank := b, decayed := l }) s = .next t ∧
      SMap.get (fun x => 0) t.dram.refreshes (ch * 32 + b) = SMap.get (fun x => 0) s.dram.refreshes (ch * 32 + b) + 1 ∧ t.sent = Tx.dram 0 ch (b + 32
      * SMap.get (fun x => 0) s.dram.mr4 ch) :: s.sent)
  ∧ (∀ (ch : ℕ) (r : ℕ) (s : State), ch < 16 → ∃ t, exec (.mr4Read ch r) s = .next t ∧ SMap.get (fun x => 0) t.dram.mr4 ch = r)
  ∧ (∀ (ch : ℕ) (w : List ℕ) (s : State), ch < 16 → w.length = 4 → ∃ t, exec (.wckTrack ch w) s = .next t ∧ ∀ j < 4, SMap.get (fun _ => 0) t.dram.wck
      (4 * ch + j) = w.getD j 0)
  ∧ (∀ (ch : ℕ) (s : State), ch < 16 → ∃ t, exec (.retrainInterval ch) s = .next t ∧ (t.dram.retrainDue = s.dram.retrainDue ||| 1 <<< ch) ∧
      (t.dram.retrainReason = if s.dram.retrainDue = 0 then 1 else s.dram.retrainReason))
  ∧ (∀ (t : ℕ) (s : State) (r : RetrainRun), s.dram.retrain = some r → 63 ≤ r.slices → ∃ u, exec (.retrainSlice t) s = .next u ∧ u.dram.retrain =
      none)
  ∧ (∀ (n : ℕ) (s : State), s.bgHeld 7 = false → patrolTotal ≤ s.dram.patrolPos + n → ∃ t, exec (.patrolScrub n []) s = .next t ∧ t.getP
      P.MEM_SCRUB_PROGRESS 0 = 0)
  ∧ (∀ (e : ExpanderInfo) (s : State), e.port < 4 → ((s.setP P.CXL_PORT_LINK e.port e.link).slotFor e.serial = none ∨ 16 ≤ (List.filter (fun m =>
      s.getP P.CXL_EXP_STATE m != 0 && (s.expander m).port == e.port) (List.range 32)).length) → ∃ t, exec (.expanderPresent e) s = .next t ∧ t.getP
      P.CXL_PORT_LINK e.port = e.link)
  ∧ (∀ (n : ℕ) (s : State), n < 32 → s.getP P.CXL_EXP_STATE n = 1 → s.regionsOf n = [] → ∃ t, exec (.enumerationDone n) s = .next t ∧ (t.getP
      P.CXL_EXP_STATE n = if (s.expander n).locked = true ∨ (s.expander n).type3 = false then 5 else 2) ∧ (t.partner (expanderId n)).present = true)
  ∧ (∀ (n : ℕ) (r : ℕ) (s : State), n < 32 → r < 32 → s.getP P.CXL_EXP_STATE n ≠ 0 → s.regionsOf n = [r] → s.getP P.CXL_REGION_STATE r ≠ 0 → s.binOn r
      = none → ∃ t, exec (.expanderSurpriseRemove n) s = .next t ∧ t.getP P.CXL_EXP_STATE n = 0 ∧ t.getP P.CXL_REGION_STATE r = 4)
  ∧ (∀ (n : ℕ) (a : ℕ) (m : ℕ) (s : State), n < 32 → (s.getP P.CXL_EXP_STATE n = 2 ∨ s.getP P.CXL_EXP_STATE n = 3) → s.bgHeld 4 = false → s.regionAt a
      = none → ∃ t, exec (.cxlEventPoll n [(a, m)]) s = .next t ∧ t.getP P.CXL_EXP_POISON n = min (s.getP P.CXL_EXP_POISON n + 1) (2 ^ 32 - 1) ∧
      Option.map (fun x => (x.seq, x.cls, x.idx, x.code)) t.ctl.faultLog.getLast? = some (s.ctl.faultNext, 9, 32 + n, 1539))
  ∧ (∀ (r : ℕ) (o : ℕ) (s : State), r < 32 → s.bgHeld 8 = false → (s.region r).persistent = true → 1 ≤ s.getP P.CXL_REGION_STATE r → s.getP
      P.CXL_REGION_STATE r ≤ 3 → o < s.getP P.CXL_REGION_SIZE r → ∃ t, exec (.cxlVerify r o false) s = .next t ∧ (t.region r).verifyPos = o + 65536 ∧
      t.getP P.CXL_VERIFY_PROGRESS 0 = min (o + 65536) (s.getP P.CXL_REGION_SIZE r) * 1000 / s.getP P.CXL_REGION_SIZE r)
  ∧ (∀ (r : ℕ) (s : State), r < 32 → (s.region r).persistent = true → s.binOn r = none → ∃ t, exec (.regionVerifyDone r) s = .next t ∧ (t.getP
      P.CXL_REGION_STATE r = if s.getP P.CXL_REGION_STATE r = 2 then 1 else s.getP P.CXL_REGION_STATE r) ∧ t.getP P.CXL_VERIFY_PROGRESS 0 = 0)
  ∧ (∀ (g : ℕ) (s : State), g ≠ 3 → s.cxl.gpf = none → s.flushWanted g = true → ∃ t, exec (.gpfStart g) s = .next t ∧ t.sent = Tx.cxl 1 g s.flushSlots
      :: s.sent ∧ t.cxl.gpf = some { trigger := g, start := s.now, slots := s.flushSlots })
  ∧ (∀ (t : ℕ) (s : State) (g : Gpf), s.cxl.gpf = some g → g.phase2 = false → ∃ u, exec (.gpfPhase1Done t) s = .next u ∧ u.sent = Tx.cxl 2 g.trigger
      g.slots :: s.sent)
  ∧ (∀ (t : ℕ) (tk : ℕ) (us : ℕ) (g : Gpf) (f : Flight) (s : State), s.cxl.gpf = some g → g.trigger = 2 → s.cxl.flushers = [tk] → s.awaits tk f →
      s.fr.bins = [] → us = (max s.now (min t (g.flushAt + 8000000)) - g.start) / 1000 → us < 2 ^ 32 → ∃ u, exec (.gpfDone [] t) s = .next u ∧
      Answered f.opcode f.cmd 0 4 us u ∧ u.cxl.gpf = none)
  ∧ (∀ (c : Cmd) (r : ℕ) (w : ℕ) (l : List ℕ) (s : State), s.accepts true 1552 c → c.operands 16 4278254592 → r = c.f 0 8 → w = c.f 16 8 → l =
      List.take w (List.map (fun i => c.f (64 + 8 * i) 8) (List.range 8)) → r < 32 → w ∈ [1, 2, 4, 8] → c.f 32 32 ≠ 0 → (∀ n ∈ l, n < 32) →
      l.eraseDups.length = w → (∀ (i : ℕ), w ≤ i → i < 8 → c.f (64 + 8 * i) 8 = 255) → s.getP P.CXL_REGION_STATE r = 0 → (∀ n ∈ l, s.getP
      P.CXL_EXP_STATE n = 2) → s.cxl.regions = [] → s.binOn r = none → (∀ n ∈ l, (c.f 32 32 ≤ if c.f 8 1 = 1 then (s.expander n).pers else (s.expander
      n).vol) ∧ ((s.expander n).foreign = false ∨ c.f 9 1 = 1) ∧ (c.f 8 1 = 1 → (s.expander n).gpf = true ∧ (s.expander n).lsa = true ∧ (s.expander
      n).phase2Ms ≤ 8)) → w * c.f 32 32 * 1073741824 ≤ 35184372088832 → (c.f 8 1 = 1 → s.getP P.CXL_PERSIST_TOTAL 0 + w * c.f 32 32 * 1073741824 ≤
      17592186044416) → ∃ t, exec (.cxlRegionCreate c) s = .next t ∧ Answered 1552 c 0 8 35184372088832 t ∧ t.getP P.CXL_REGION_STATE r = 1)
  ∧ (∀ (c : Cmd) (r : ℕ) (s : State), c.operands 1 0 → r = c.f 0 8 → r < 32 → s.accepts true 1553 c → (s.getP P.CXL_REGION_STATE r = 1 ∨ s.getP
      P.CXL_REGION_STATE r = 2) → s.binOn r = none → ∃ t, exec (.cxlRegionDelete c) s = .next t ∧ Answered 1553 c 0 0 0 t ∧ t.getP P.CXL_REGION_STATE
      r = 0)
  ∧ (∀ (c : Cmd) (r : ℕ) (s : State), c.operands 1 0 → r = c.f 0 8 → r < 32 → s.accepts true 1554 c → s.getP P.CXL_REGION_STATE r = 2 → s.binOn r =
      none → ∃ t, exec (.cxlRegionAccept c) s = .next t ∧ Answered 1554 c 0 0 0 t ∧ t.getP P.CXL_REGION_STATE r = 1)
  ∧ (∀ (c : Cmd) (n : ℕ) (s : State), s.accepts true 1555 c → c.operands 2 0 → n = c.f 0 8 → n < 32 → (c.f 8 8 ≤ 2 ∨ c.f 8 8 = 255) → s.getP
      P.CXL_EXP_STATE n = 2 → s.regionsOf n = [] → ∃ t, exec (.cxlExpanderRemove c) s = .next t ∧ t.getP P.CXL_EXP_STATE n = 3 ∧ (SMap.get (fun x =>
      none) t.cxl.removals n = some { policy := if c.f 8 8 = 255 then s.getP P.CXL_REMOVE_POLICY 0 else c.f 8 8, ticket := some s.newTicket }))
  ∧ (∀ (n : ℕ) (m : Removal) (s : State), n < 32 → SMap.get (fun x => none) s.cxl.removals n = some m → s.slotBins n = [] → m.step ≤ 2 → ∃ t, exec
      (.removalDrainDone n) s = .next t ∧ SMap.get (fun x => none) t.cxl.removals n = some
      { policy := m.policy, step := 3, ticket := m.ticket, relocated := m.relocated, dropped := m.dropped, gib := m.gib })
  ∧ (∀ (n : ℕ) (m : Removal) (s : State), n < 32 → SMap.get (fun x => none) s.cxl.removals n = some m → s.slotBins n = [] → m.step = 3 → ∃ t, exec
      (.relocationDone n) s = .next t ∧ SMap.get (fun x => none) t.cxl.removals n = some { policy := m.policy, step := 4, ticket := m.ticket })
  ∧ (∀ (n : ℕ) (tk : ℕ) (m : Removal) (f : Flight) (s : State), n < 32 → SMap.get (fun x => none) s.cxl.removals n = some m → m.step = 5 → m.ticket =
      some tk → s.awaits tk f → (s.partner (expanderId n)).present = true → ∃ t, exec (.slotPowerOff n) s = .next t ∧ Answered f.opcode f.cmd 0 12
      (m.relocated % 2 ^ 32 + at' 32 (m.dropped % 2 ^ 32) + at' 64 (m.gib % 2 ^ 32)) t ∧ t.getP P.CXL_EXP_STATE n = 4)
  ∧ (∀ (c : Cmd) (s : State), s.accepts true 1556 c → c.operands 0 0 → ∃ t, exec (.cxlPersistFlush c) s = .next t ∧ Unanswered 1556 c t ∧
      t.cxl.flushers = s.cxl.flushers ++ [s.newTicket])
  ∧ (∀ (n : ℕ) (s : State), n < 32 → s.cxl.blinking.testBit n = true → ∃ t, exec (.attentionButton n) s = .next t ∧ t.cxl.blinking.testBit n = false)
  ∧ (∀ (n : ℕ) (s : State), n < 32 → s.cxl.blinking.testBit n = true → s.getP P.CXL_EXP_STATE n = 2 → s.regionsOf n = [] → ∃ t, exec (.attentionTimer
      n) s = .next t ∧ t.getP P.CXL_EXP_STATE n = 3 ∧ SMap.get (fun x => none) t.cxl.removals n = some { policy := s.getP P.CXL_REMOVE_POLICY 0 })

/-- Every command of recording, bins, queue pairs and clip queue commands (chapters 10 and 11) completes (10_recording.md, 11_clip_queues.md) -/
def Obligations.EveryRecordingAndQueueCommandCompletes : Prop :=
  (∀ (p : ℕ) (b : ℕ) (n : ℕ) (f : WbFrame) (x : Bin) (c : Clip) (s : State), p < 8 → List.find? (fun g => g.source == p && g.phase == 1) s.fr.wb =
      some f → f.bins = [b] → s.bin? b = some x → x.clips = [c] → c.phase = 0 → x.runs = [] → x.held ≤ x.quota → n = 32 + f.body.length → x.woff + n ≤
      segBytes → ∃ t y, exec (.recordFenceDone p) s = .next t ∧ t.bin? b = some y ∧ y.seq = x.seq + 1)
  ∧ (∀ (p : ℕ) (b : ℕ) (f : WbFrame) (x : Bin) (s : State), p < 8 → List.find? (fun g => g.source == p && g.phase == 1) s.fr.wb = some f → f.bins =
      [b] → s.bin? b = some x → (∀ c ∈ x.clips, c.phase ≠ 1) → (∀ r ∈ x.runs, r.source ≠ p ∨ r.reason ≠ 3) → ∃ t, exec (.recordDeadline p) s = .next t
      ∧ t.getP P.FR_GAP_FRAMES p = min (s.getP P.FR_GAP_FRAMES p + 1) (2 ^ 32 - 1))
  ∧ (∀ (b : ℕ) (x : Bin) (s : State), b < 64 → (s.binState b = 3 ∨ s.binState b = 4) → s.bin? b = some x → ∃ t, exec (.checkpoint b) s = .next t ∧
      t.bin? b = some (x.checkpointed t.now) ∧ SMap.get (fun x => 0) t.fr.volClip b = x.nextClip)
  ∧ (∀ (b : ℕ) (x : Bin) (s : State), b < 64 → s.bin? b = some x → s.binState b = 2 → (∀ c ∈ x.clips, c.phase = 2) → x.runs = [] → s.getP P.FR_BIN_ARM
      b ≠ 1 → s.getP P.FR_BIN_SOURCES b = 0 → ∃ t, exec (.binRecovery b) s = .next t ∧ t.binState b = 3 ∧ t.bin? b = some (x.checkpointed s.now))
  ∧ (∀ (b : ℕ) (x : Bin) (s : State) (g : ℕ) (f : ℕ) (l : List ℕ), b < 64 → s.bin? b = some x → s.bgHeld 9 = false → (s.binState b = 3 ∨ s.binState b
      = 4) → x.lagging (s.getP P.FR_WEAR_LAG 0) = some g → x.freeAhead = f :: l → ∃ t, exec (.wearMove b) s = .next t ∧ t.bin? b = some ((x.moveSeg g
      f).checkpointed s.now))
  ∧ (∀ (c : Cmd) (b : ℕ) (s : State) (x : Bin) (h : List Clip), s.accepts false 1793 c → c.operands 12 4294966784 → b = c.f 0 8 → b < 64 → s.bin? b =
      some x → s.binState b ≠ 1 → s.binState b ≠ 2 → (h = List.filter (fun k => k.phase != 3 && tagsMeet k.first (if k.phase = 0 then s.ring.tag else
      k.last) (c.f 32 32) (c.f 64 32) && k.isProtected != (c.f 8 1 == 1)) x.clips) → (c.f 8 1 = 1 ∧ x.mayProtect (List.map (fun k => k.id) h) = true ∨
      c.f 8 1 = 0 ∧ x.held ≤ s.getP P.FR_BIN_QUOTA b) → ∃ t y, exec (.clipProtect c) s = .next t ∧ Answered 1793 c 0 8 (h.length + at' 32 (List.filter
      (fun e => tagsMeet e.1 e.2 (c.f 32 32) (c.f 64 32)) x.shed).length) t ∧ t.bin? b = some y)
  ∧ (∀ (c : Cmd) (b : ℕ) (s : State) (x : Bin), s.accepts false 1794 c → c.operands 1 0 → b = c.f 0 8 → b < 64 → s.binState b = 4 → s.bin? b = some x
      → ∃ t, exec (.clipMark c) s = .next t ∧ Answered 1794 c 0 4 (x.nextClip % 2 ^ 32) t ∧ t.bin? b = some { x with mark := true })
  ∧ (∀ (fn : ℕ) (w : ℕ) (q : ℕ) (v : ℕ) (p : Pair) (s : State) (l : List Byte), fn < 64 → w < 64 → q < 16 → v < 65536 → s.hostTakes fn w = true →
      s.pair? w q = some p → v < 2 ^ p.sqLog → (p.sqTail + 2 ^ p.sqLog - p.sqHead) % 2 ^ p.sqLog + (v + 2 ^ p.sqLog - p.sqTail) % 2 ^ p.sqLog < 2 ^
      p.sqLog → l.length = 64 → ∃ t, exec (.sqTail ⟨fn, w⟩ q v l) s = .next t ∧ (t.pair? w q).map (fun y => y.sqTail) = some v)
  ∧ (∀ (fn : ℕ) (w : ℕ) (q : ℕ) (v : ℕ) (p : Pair) (s : State), fn < 64 → w < 64 → q < 16 → v < 65536 → s.hostTakes fn w = true → s.pair? w q = some p
      → v < 2 ^ p.cqLog → ∃ t, exec (.cqHead ⟨fn, w⟩ q v) s = .next t ∧ (t.pair? w q).map (fun y => y.cqHead) = some v)
  ∧ (∀ (w : ℕ) (q : ℕ) (p : Pair) (s : State) (e : List Byte), w < 64 → q < 16 → s.pair? w q = some p → s.nextFetch = some (w * 16 + q) → s.noDeletes
      → s.hostGood (p.sqBase + 64 * p.sqHead) 64 = 64 → e = takeBytes zeroByte s.ctl.hostMem (p.sqBase + 64 * p.sqHead) 64 → 1 ≤ sqField e 0 1 →
      sqField e 0 1 ≤ 6 → s.queuesHeld = false → ∃ t y, exec (.sqFetch w q) s = .next t ∧ t.pair? w q = some y ∧ y.sqHead = (p.sqHead + 1) % 2 ^
      p.sqLog ∧ y.cmds.length = p.cmds.length + 1)
  ∧ (∀ (w : ℕ) (q : ℕ) (cid : ℕ) (b : ℕ) (h : ℕ) (p : Pair) (c : QCmd) (x : Bin) (s : State) (k : Clip) (d : List Byte), w < 64 → q < 16 → cid < 65536
      → s.pair? w q = some p → s.hostGood (p.cqBase + 32 * p.cqTail) 32 = 32 → c.fate = 0 → s.noDeletes → badField c.entry = none → b = sqField
      c.entry 4 1 → h = sqField c.entry 24 8 → s.bin? b = some x → 2 ≤ s.binState b → s.getP P.CXL_REGION_STATE x.region ≠ 4 → s.dram.flaws = [] →
      List.find? (fun k => k.id == sqField c.entry 8 4 && k.phase != 3) x.clips = some k → s.hostGood h d.length = d.length → s.queueCmd w q cid 1 =
      some c → d = List.take (min (sqField c.entry 32 4) (k.bytes - sqField c.entry 16 8)) (List.drop (sqField c.entry 16 8) (List.flatMap (fun r =>
      r.bytes k.id) k.recs)) → s.streamPoison k (sqField c.entry 16 8) (min (sqField c.entry 32 4) (k.bytes - sqField c.entry 16 8)) = none → ∃ t,
      exec (.read w q cid) s = .next t ∧ Completed w q c p 0 d.length (k.bytes + at' 63 (b2n (k.phase == 2))) 0
      { s with ctl := { s.ctl with hostMem := putBytes zeroByte s.ctl.hostMem h d } } t)
  ∧ (∀ (w : ℕ) (q : ℕ) (cid : ℕ) (b : ℕ) (h : ℕ) (p : Pair) (c : QCmd) (x : Bin) (s : State) (k : Clip) (d : List Byte) (r : Rec) (bl : List Byte) (ok
      : Bool) (n : ℕ), w < 64 → q < 16 → cid < 65536 → s.pair? w q = some p → s.hostGood (p.cqBase + 32 * p.cqTail) 32 = 32 → c.fate = 0 → s.noDeletes
      → badField c.entry = none → b = sqField c.entry 4 1 → h = sqField c.entry 24 8 → s.bin? b = some x → 2 ≤ s.binState b → s.getP
      P.CXL_REGION_STATE x.region ≠ 4 → s.dram.flaws = [] → List.find? (fun k => k.id == sqField c.entry 8 4 && k.phase != 3) x.clips = some k →
      s.hostGood h d.length = d.length → s.queueCmd w q cid 2 = some c → List.find? (fun r => r.typ == 1 && r.source == sqField c.entry 5 1 && r.tag
      == sqField c.entry 12 4) k.recs = some r → n = r.field 40 2 * (r.field 38 2 * r.field 42 1 / 8) → n ≤ sqField c.entry 32 4 → sqField c.entry 40
      8 = 0 → r.field 44 2 = 1 → r.field 40 2 ≤ max (blockLines (r.field 42 1) (r.field 38 2)) 1 → frameBlockBytes r = [bl] → (decodeBlock bl).2 = ok
      → d = List.take n (decodeBlock bl).1 → s.streamPoison k (List.foldl (fun n q => n + q.len) 0 (List.takeWhile (fun q => q != r) k.recs)) r.len =
      none → ∃ t e, exec (.readFrame w q cid) s = .next t ∧ (Completed w q c p (if ok = true then 0 else 13) d.length (1 + at' 16 (b2n (!ok)) + at' 32
      (r.field 32 4)) 0 e t))
  ∧ (∀ (w : ℕ) (q : ℕ) (cid : ℕ) (b : ℕ) (h : ℕ) (p : Pair) (c : QCmd) (x : Bin) (s : State) (l : List Clip) (d : List Byte), w < 64 → q < 16 → cid <
      65536 → s.pair? w q = some p → s.hostGood (p.cqBase + 32 * p.cqTail) 32 = 32 → c.fate = 0 → s.noDeletes → badField c.entry = none → b = sqField
      c.entry 4 1 → h = sqField c.entry 24 8 → s.bin? b = some x → 2 ≤ s.binState b → s.getP P.CXL_REGION_STATE x.region ≠ 4 → s.queueCmd w q cid 3 =
      some c → l = List.take (sqField c.entry 32 4 / 128) (List.filter (fun k => k.phase == 2 && decide (sqField c.entry 8 4 ≤ k.id)) x.clips) → d =
      List.flatMap Clip.dirEntry l → s.hostGood h d.length = d.length → ∃ t, exec (.dirRead w q cid) s = .next t ∧ Completed w q c p 0 d.length
      (l.length + at' 32 ((x.openClip.map fun k => k.id % 2 ^ 32).getD 0)) 0
      { s with ctl := { s.ctl with hostMem := putBytes zeroByte s.ctl.hostMem h d } } t)
  ∧ (∀ (w : ℕ) (q : ℕ) (cid : ℕ) (b : ℕ) (h : ℕ) (p : Pair) (c : QCmd) (x : Bin) (s : State) (k : Clip) (d : List Byte), w < 64 → q < 16 → cid < 65536
      → s.pair? w q = some p → s.hostGood (p.cqBase + 32 * p.cqTail) 32 = 32 → c.fate = 0 → s.noDeletes → badField c.entry = none → b = sqField
      c.entry 4 1 → h = sqField c.entry 24 8 → s.bin? b = some x → 2 ≤ s.binState b → s.getP P.CXL_REGION_STATE x.region ≠ 4 → s.dram.flaws = [] →
      List.find? (fun k => k.id == sqField c.entry 8 4 && k.phase != 3) x.clips = some k → s.hostGood h d.length = d.length → s.queueCmd w q cid 4 =
      some c → d = (List.take (sqField c.entry 32 4 / 32) (List.drop (sqField c.entry 16 8) (List.foldl (fun a r => (a.1 ++ [indexEntry r a.2], a.2 +
      r.len)) ([], 0) k.recs).1)).flatten → ∃ t, exec (.indexRead w q cid) s = .next t ∧ Completed w q c p 0 d.length (min (sqField c.entry 32 4 / 32)
      (k.recs.length - sqField c.entry 16 8) + at' 32 k.recs.length) 0 { s with ctl := { s.ctl with hostMem := putBytes zeroByte s.ctl.hostMem h d } }
      t)
  ∧ (∀ (w : ℕ) (q : ℕ) (cid : ℕ) (b : ℕ) (h : ℕ) (n : ℕ) (l : List Byte) (m : Sys2Proof.SMap Byte) (p : Pair) (c : QCmd) (x : Bin) (r : Rec) (s :
      State), w < 64 → q < 16 → cid < 65536 → s.pair? w q = some p → s.queueCmd w q cid 5 = some c → c.fate = 0 → s.noDeletes → badField c.entry =
      none → s.hostGood (p.cqBase + 32 * p.cqTail) 32 = 32 → b = sqField c.entry 4 1 → h = sqField c.entry 24 8 → n = sqField c.entry 32 4 → sqField
      c.entry 1 1 = 1 → s.bin? b = some x → s.binState b = 3 → s.hostGood h n = n → (m = if l = [] then s.ctl.hostMem else putBytes zeroByte
      s.ctl.hostMem h l) → importRecords n (takeBytes zeroByte m h n) [] = some [r] → (∀ k ∈ x.clips, k.phase ≠ 3 ∧ k.id ≠ x.nextClip) → x.woff +
      r.len ≤ segBytes → 0 < r.len → x.held ≤ x.quota → ∃ t e, exec (.importClip w q cid l) s = .next t ∧ Completed w q c p 0 n (x.nextClip % 2 ^ 32)
      0 e t)
  ∧ (∀ (w : ℕ) (q : ℕ) (cid : ℕ) (p : Pair) (c : QCmd) (s : State), w < 64 → q < 16 → cid < 65536 → s.pair? w q = some p → s.hostGood (p.cqBase + 32 *
      p.cqTail) 32 = 32 → s.noDeletes → s.queueCmd w q cid 6 = some c → c.fate = 0 → badField c.entry = none → ∃ t, exec (.cqFence w q cid) s = .next
      t ∧ Completed w q c p 0 0 0 0 s t)
  ∧ (∀ (w : ℕ) (q : ℕ) (cid : ℕ) (b : ℕ) (tk : ℕ) (p : Pair) (k : QCmd) (x : Bin) (f : Flight) (s : State), w < 64 → q < 16 → cid < 65536 → s.cq.pairs
      = [(w * 16 + q, some p)] → p.cmds = [k] → k.cid = cid → k.fate = 1 → b = sqField k.entry 4 1 → sqField k.entry 36 4 ≠ 0 → s.queuesRun = true →
      s.binList = [b] → s.bin? b = some x → x.deleting = some tk → s.awaits tk f → (∀ g ∈ s.fr.wb, b ∉ g.bins) → ∃ t, exec (.cqCommandTimeout w q cid)
      s = .next t ∧ Answered 1825 f.cmd 0 0 0 t ∧ t.bin? b = none)
  ∧ (∀ (w : ℕ) (q : ℕ) (p : Pair) (s : State), w < 64 → q < 16 → s.pair? w q = some p → p.unsignalled ≠ 0 → p.vector ≠ 255 → ∃ t y, exec
      (.cqInterruptTimer w q) s = .next t ∧ t.pair? w q = some y ∧ y.unsignalled = 0)
  ∧ (∀ (c : Cmd) (q : ℕ) (s : State), s.accepts false 1808 c → c.win < 64 → c.operands 24 18446462598732841200 → q = c.f 0 4 → 4 ≤ c.f 8 4 → c.f 8 4 ≤
      12 → 4 ≤ c.f 12 4 → c.f 12 4 ≤ 12 → (c.f 16 8 ≤ 15 ∨ c.f 16 8 = 255) → c.f 24 8 ≠ 0 → c.f 32 16 ≤ 1000 → c.f 64 64 % 4096 = 0 → c.f 128 64 %
      4096 = 0 → s.pair? c.win q = none → (List.filter (fun e => e.1 / 16 == c.win) s.cq.pairs).length < s.getP P.CQ_PAIR_LIMIT c.win → List.length
      s.cq.pairs < 256 → ∃ t, exec (.queueCreate c) s = .next t ∧ Answered 1808 c 0 0 0 t ∧ t.pair? c.win q = some
      { sqLog := c.f 8 4, cqLog := c.f 12 4, vector := c.f 16 8, aggCount := c.f 24 8, aggTime := c.f 32 16, sqBase := c.f 64 64, cqBase := c.f 128 64 })
  ∧ (∀ (c : Cmd) (q : ℕ) (s : State) (p : Pair), s.accepts false 1809 c → c.win < 64 → c.operands 1 240 → q = c.f 0 4 → s.pair? c.win q = some p →
      p.restart = none → s.noDeletes → ∃ t, exec (.queueDelete c) s = .next t ∧ Answered 1809 c 0 0 0 t ∧ t.pair? c.win q = none)
  ∧ (∀ (c : Cmd) (q : ℕ) (s : State) (p : Pair), s.accepts false 1810 c → c.win < 64 → c.operands 8 4294967264 → q = c.f 0 4 → s.pair? c.win q = some
      p → p.frozen = true → p.restart = none → c.f 32 32 = p.newestLog → ∃ t y, exec (.queueRestart c) s = .next t ∧ t.pair? c.win q = some y ∧
      y.restart.isSome = true)
  ∧ (∀ (w : ℕ) (q : ℕ) (p : Pair) (s : State) (r : ℕ × Bool) (f : Flight), w < 64 → q < 16 → s.pair? w q = some p → p.restart = some r → p.cmds = [] →
      s.awaits r.1 f → ∃ t y, exec (.queueResume w q) s = .next t ∧ Answered f.opcode f.cmd 0 0 0 t ∧ t.pair? w q = some y ∧ y.frozen = false)
  ∧ (∀ (c : Cmd) (l : List QueueLog) (s : State), s.accepts false 1811 c → c.win < 64 → c.operands 4 0 → l = List.take 3 (List.filter (fun e => decide
      ((e.seq + 2 ^ 32 - c.f 0 32) % 2 ^ 32 < 2 ^ 31)) (SMap.get (fun x => []) s.cq.logs c.win)) → ∃ t, exec (.queueErrorLog c) s = .next t ∧ Answered
      1811 c 0 (8 + 64 * l.length) (ofLE (leBytes (SMap.get (fun x => 0) s.cq.logSeq c.win) 4 ++ leBytes l.length 2 ++ leBytes 0 2 ++ List.flatMap
      QueueLog.bytes l)) t)
  ∧ (∀ (c : Cmd) (q : ℕ) (s : State), s.accepts false 1812 c → c.win < 64 → c.operands 1 240 → q = c.f 0 4 → s.pair? c.win q = none → ∃ t, exec
      (.queueStatus c) s = .next t ∧ Answered 1812 c 0 8 0 t)
  ∧ (∀ (c : Cmd) (b : ℕ) (r : ℕ) (n : ℕ) (v : ℕ) (s : State), s.accepts true 1824 c → c.operands 8 4294901760 → b = c.f 0 8 → r = c.f 8 8 → n =
      regionSegs (s.getP P.CXL_REGION_SIZE r) → (v = if c.f 32 32 = 0 then n - 2 else c.f 32 32) → b < 64 → r < 32 → s.binState b = 0 → s.bin? b =
      none → s.getP P.CXL_REGION_STATE r = 1 → s.binOn r = none → 8 ≤ n → c.f 32 32 ≤ n - 2 → ∃ t, exec (.binCreate c) s = .next t ∧ Answered 1824 c 0
      8 (n + at' 32 v) t ∧ t.bin? b = some
      { region := r, segs := n, quota := v, wseg := n - 1, woff := segBytes, admin := some { op := 1, total := (n + 1) * segBytes, start := s.now } })
  ∧ (∀ (c : Cmd) (b : ℕ) (s : State) (x : Bin), s.accepts true 1825 c → c.operands 4 4294966784 → b = c.f 0 8 → b < 64 → s.bin? b = some x →
      (s.binState b = 3 ∨ s.binState b = 5 ∧ s.getP P.CXL_REGION_STATE x.region ≠ 3) → s.getP P.FR_BIN_ARM b ≠ 1 → (x.hasProtected = false ∨ c.f 8 1 =
      1) → x.deleting = none → s.binRead b = false → (∀ f ∈ s.fr.wb, b ∉ f.bins) → ∃ t, exec (.binDelete c) s = .next t ∧ Answered 1825 c 0 0 0 t ∧
      t.bin? b = none)
  ∧ (∀ (c : Cmd) (i : Instr) (op : ℕ) (k : ℕ) (n : ℕ) (r : ℕ) (b : ℕ) (s : State) (x : Bin), (i, op, k, n, r) ∈ [(.binFormat c, 1826, 1, 4,
      4294966784), (.binSanitise c, 1827, 2, 8, 4294966784)] → s.accepts true op c → c.operands n r → b = c.f 0 8 → b < 64 → (k = 2 → c.f 32 32 =
      1396788809) → s.bin? b = some x → s.binState b = 3 → x.deleting = none → s.getP P.FR_BIN_ARM b ≠ 1 → (x.hasProtected = false ∨ c.f 8 1 = 1) → ∃
      t y, exec i s = .next t ∧ Answered op c 0 0 0 t ∧ t.bin? b = some y ∧ y.clips = [] ∧ t.binState b = 1)
  ∧ (∀ (c : Cmd) (b : ℕ) (s : State), s.accepts false 1828 c → c.operands 1 0 → b = c.f 0 8 → b < 64 → ((s.bin? b).bind fun x => x.admin) = none → ∃
      t, exec (.binAdminStatus c) s = .next t ∧ Answered 1828 c 0 24 0 t)
  ∧ (∀ (b : ℕ) (x : Bin) (a : BinAdmin) (s : State), b < 64 → s.bin? b = some x → x.admin = some a → s.binState b = 1 → ∃ t, exec (.adminProgress b 0)
      s = .next t ∧ t.getP P.BIN_ADMIN_PROGRESS b = min (a.pos + 1073741824) a.total * 1000 / max a.total 1)
  ∧ (∀ (b : ℕ) (x : Bin) (a : BinAdmin) (s : State), b < 64 → s.bin? b = some x → x.admin = some a → s.binState b = 1 → ∃ t, exec (.adminDone b) s =
      .next t ∧ t.binState b = 3 ∧ t.getP P.BIN_ADMIN_PROGRESS b = 1000)
  ∧ (∀ (b : ℕ) (f : WbFrame) (x : Bin) (s : State), List.find? (fun g => g.phase == 2) s.fr.wb = some f → f.bins = [b] → s.bin? b = some x →
      s.dram.flaws = [] → s.firstPoison f.addr f.size = none → ∃ t, exec .drainDone s = .next t ∧ t.fr.wb = List.filter (fun g => g.id != f.id)
      s.fr.wb)

/-- Every command of the codec engines, audio ports, housekeeping, the management bus and power (chapters 12 to 15) completes (12_video_codec.md,
13_calliope_audio.md, 14_housekeeping.md, 15_power_service.md) -/
def Obligations.EveryCodecAudioHouseAndPowerCommandCompletes : Prop :=
  (∀ (c : Cmd) (e : ℕ) (m : ℕ) (l : List ℕ) (s : State) (r : State × List ℕ × Option ℕ), s.accepts false 2049 c → c.win < 64 → c.operands 12 0 → e =
      c.f 0 8 → m = c.f 8 8 → vcOpenOperands c = true → s.preview.streamOk e m = true → (m = 3 → s.bin? (c.f 16 8) ≠ none) → s.vcState e = 0 → (r = if
      m = 1 then State.codecAlloc e (ycStride (s.preview.capture e).outW * (s.preview.capture e).outH) 2 s else if m = 2 then State.codecAlloc e
      67108864 1 s else (s, [], none)) → r.2 = (l, none) → ∃ t, exec (.vcOpen c) s = .next t ∧ Answered 2049 c 0 4 (t.vcp e P.VC_BW_RESERVED) t ∧
      t.vcp e P.VC_HOLDER = c.win)
  ∧ (∀ (c : Cmd) (e : ℕ) (s : State), s.accepts false 2050 c → c.win < 64 → c.operands 1 0 → e = c.f 0 8 → e < 2 → s.vcState e ≠ 0 → (s.vcp e
      P.VC_HOLDER = c.win ∨ c.win = 0) → (s.engine e).closing = none → (s.vcState e = 2 ∨ (s.engine e).work ≠ none) → c.immediate = true → ∃ t, exec
      (.vcClose c) s = .next t ∧ Answered 2050 c 0 0 0 t ∧ (t.engine e).closing = some (1, []))
  ∧ (∀ (c : Cmd) (e : ℕ) (s : State), s.accepts false 2051 c → c.win < 64 → c.operands 1 0 → e = c.f 0 8 → e < 2 → s.holds c.win e = true → s.vcp e
      P.VC_MODE = 1 → c.immediate = true → ∃ t, exec (.keyNow c) s = .next t ∧ Answered 2051 c 0 0 0 t ∧ (t.engine e).idr = 1 :: (s.engine e).idr)
  ∧ (∀ (c : Cmd) (e : ℕ) (n : ℕ) (a : ℕ) (s : State) (l : List Byte), s.accepts false 2052 c → c.win < 64 → c.operands 16 4294966272 → e = c.f 0 8 → n
      = c.f 32 32 → a = c.f 64 64 → e < 2 → n ≤ 16777216 → (n ≠ 0 ∨ c.f 8 1 = 1) → s.holds c.win e = true → s.vcp e P.VC_MODE = 2 → (s.engine e).ended
      = false → (∀ f ∈ (s.engine e).feeds, f.fin = false) → c.host = [] → (c.f 9 1 = 0 ∧ s.hostGood a n = n ∧ l = takeBytes zeroByte s.ctl.hostMem a n
      ∨ c.f 9 1 = 1 ∧ s.firstPoison a n = none ∧ s.dram.flaws = [] ∧ l = s.devRead a n ∧ ∃ b, s.hostBuffer a n = some b ∧ (b.carve = 2 ∨ b.carve = 3)
      ∧ b.window = some c.win) → (s.engine e).feeds = [] → (s.engine e).input.length + n ≤ 67108864 → ∃ t, exec (.vcDecFeed c) s = .next t ∧ Answered
      2052 c 0 0 0 t ∧ (t.engine e).input = (s.engine e).input ++ l)
  ∧ (∀ (e : ℕ) (s : State) (f : Feed) (g : Flight), e < 2 → (s.engine e).feeds = [f] → s.awaits f.ticket g → ∃ t, exec (.feedTimeout e) s = .next t ∧
      Answered g.opcode g.cmd 9 0 0 t)
  ∧ (∀ (c : Cmd) (e : ℕ) (h : ℕ) (n : ℕ) (s : State) (o : Option PicRecord) (r : PicRecord), s.accepts false 2053 c → c.win < 64 → c.operands 20
      4294901760 → e = c.f 0 8 → h = c.f 64 64 → n = c.f 128 32 → e < 2 → c.f 8 8 < 2 → h ≠ 0 → h % 64 = 0 → 64 ≤ n → n ≤ 2112 → n % 64 = 0 → (o = if
      c.f 8 8 = 0 then (s.engine e).records.head? else List.find? (fun r => r.number == c.f 32 32) (s.engine e).records) → o = some r → c.host = [] →
      s.hostGood h n = n → ∃ t, exec (.vcPictureRead c) s = .next t ∧ Answered 2053 c 0 8 (r.number + at' 32 n) t ∧ takeBytes zeroByte t.ctl.hostMem h
      n = List.take n r.toBytes)
  ∧ (∀ (e : ℕ) (t : ℕ) (p : ℕ) (x : Engine) (y : Engine) (u : List Byte) (irap : Bool) (s : State), e < 2 → s.engine e = x → x.work = none → x.closing
      = none → s.ctl.staged = [] → s.captureHeld = false → s.vcp e P.VC_DEC_PACE = 255 → x.pace = some p → s.getP P.TH_STEP 0 = 0 → (s.vcState e = 1 ∨
      s.vcState e = 2) → ((s.vcp e P.VC_MODE = 2 ∧ x.feeds = [] ∧ ∃ v rest, nextUnit x.input x.ended = some (u, v, rest) ∧ irap = decide (16 ≤ v ∧ v ≤
      23) ∧ x.badUnit = false ∧ (x.begun = true ∨ irap = true) ∧ ¬(x.skipRasl = true ∧ (v = 8 ∨ v = 9)) ∧ y =
      { bin := x.bin, recEngine := x.recEngine, clip := x.clip, tag := x.tag, period := x.period, pace := x.pace, paceDue := x.paceDue, number := x.number, gop := x.gop, idr := x.idr, keys := x.keys, prevBits := x.prevBits, first := x.first, work := x.work, skipped := x.skipped, dropped := x.dropped, records := x.records, bufs := x.bufs, width := x.width, height := x.height, input := rest, ended := x.ended, feeds := x.feeds, begun := true, skipRasl := if irap = true then !x.begun && v == 21 else x.skipRasl, nextSeq := x.nextSeq, badSps := x.badSps, pics := x.pics, newest := x.newest, mode := x.mode, good := x.good, closing := x.closing, freeing := x.freeing, nextStart := x.nextStart })
      ∨ s.vcp e P.VC_MODE = 3 ∧ ∃ l q r, s.proxyRecords e = [(x.clip, l)] ∧ x.nextSeq = some q ∧ List.find? (fun r => decide (q ≤ r.seq)) l = some r ∧
      irap = r.isIdr ∧ u = List.take (r.field 44 4) (List.drop 32 r.body) ∧ y =
      { badUnit := !(s.recPoison r).isEmpty, bin := x.bin, recEngine := x.recEngine, clip := x.clip, tag := x.tag, period := x.period, pace := x.pace, paceDue := x.paceDue, number := x.number, gop := x.gop, idr := x.idr, keys := x.keys, prevBits := x.prevBits, first := x.first, work := x.work, skipped := x.skipped, dropped := x.dropped, records := x.records, bufs := x.bufs, width := x.width, height := x.height, input := x.input, ended := x.ended, feeds := x.feeds, begun := true, skipRasl := x.skipRasl, nextSeq := some (r.seq + 1), badSps := x.badSps, pics := x.pics, newest := x.newest, mode := x.mode, good := x.good, closing := x.closing, freeing := x.freeing, nextStart := x.nextStart })
      → ∃ z, exec (.decodePace e t) s = .next z ∧ z.vcState e = 2)
  ∧ (∀ (e : ℕ) (t : ℕ) (o : PicOutcome) (x : Engine) (w : PicWork) (s : State) (k : Option ℕ), e < 2 → s.engine e = x → x.work = some w → x.closing =
      none → (¬(s.vcp e P.VC_MODE = 2 ∧ x.atEnd = true)) → t ≤ w.deadline → s.vcp e P.VC_MODE = 1 → 64 ≤ s.vcp e P.VC_ENC_BIN → s.clampAt e w o = k →
      ∃ z, exec (.pictureDone e t o) s = .next z ∧ (z.engine e).number = (x.number + 1) % 2 ^ 32 ∧ (z.engine e).work = none)
  ∧ (∀ (e : ℕ) (x : Engine) (w : PicWork) (s : State), e < 2 → s.engine e = x → x.work = some w → x.closing = none → (¬(s.vcp e P.VC_MODE = 2 ∧
      x.atEnd = true)) → ∃ u, exec (.pictureDeadline e) s = .next u ∧ (u.engine e).work = none)
  ∧ (∀ (n : ℕ) (x : AudioPort) (s : State), n < 16 → s.port n = x → x.clock = false → ∃ t, exec (.audioClockDetect n) s = .next t ∧ (t.port n).clock =
      true)
  ∧ (∀ (n : ℕ) (x : AudioPort) (s : State), n < 16 → s.port n = x → x.clock = true → ∃ t, exec (.audioClockLost n) s = .next t ∧ (t.apState n = if 2 ≤
      s.apState n ∧ s.apState n ≤ 5 then 1 else s.apState n) ∧ (t.partner (clockId n)).present = false)
  ∧ (∀ (n : ℕ) (t : ℕ) (b : ℕ) (l : List ℕ) (o : Bool) (x : AudioPort) (s : State), n < 16 → s.port n = x → s.apState n = 2 → x.edges = 0 → ∃ u, exec
      (.fsEdge n t b l o) s = .next u ∧ (u.port n).edges = 1 ∧ (u.port n).bclk = b)
  ∧ (∀ (n : ℕ) (l : List ℕ) (x : AudioPort) (s : State), n < 16 → s.port n = x → s.apState n = 2 → ∃ u, exec (.fsFlywheel n l) s = .next u ∧ (u.port
      n).edges = 0 ∧ (u.port n).pos = x.pos)
  ∧ (∀ (n : ℕ) (r : ℕ) (h : ℕ) (s : State), n < 16 → h = s.apHz n * 1000000 → 3 ≤ s.apState n → s.apState n ≤ 5 → h < ((r : Int) - (h : Int)).natAbs *
      1000 → ∃ u, exec (.audioRateMeasure n r) s = .next u ∧ u.apState n = 5)
  ∧ (∀ (n : ℕ) (b : ℕ) (late : Bool) (x : AudioPort) (s : State), n < 16 → s.apState n = 4 → s.port n = x → s.blockNear n b = true → s.dram.flaws = []
      → ∃ t, exec (.audioBlockFetch n b late) s = .next t ∧ b ∈ (t.port n).fetched)
  ∧ (∀ (n : ℕ) (b : ℕ) (x : AudioPort) (s : State), n < 16 → s.apState n = 4 → s.port n = x → s.blockDue n b = true → b ∉ x.missing → b ∈ x.fetched →
      x.gone = true → ∃ t, exec (.audioBlockDeadline n b) s = .next t ∧ (t.port n).judged = some b)
  ∧ (∀ (c : Cmd) (m : ℕ) (a : ℕ) (s : State) (r : ℕ), s.accepts false 2305 c → c.operands 8 4294836224 → m = c.f 0 16 → a = (c.f 32 32 + 2 ^ 32 -
      s.ring.tag) % 2 ^ 32 → m ≠ 0 → (∀ k < 16, m.testBit k = true → s.app k P.AP_RATE = r) → (∀ k < 16, m.testBit k = true → s.apState k ≠ 0 ∧
      s.apState k ≠ 5 ∧ s.apState k ≠ 6) → (c.f 16 1 = 0 → a ≠ 0 ∧ a < 2 ^ 31 ∧ 2 * s.ring.period ≤ s.ring.next - s.now * 65536 + (a - 1) *
      s.ring.period) → (∀ x ∈ s.au.starts, x.mask &&& m = 0) → c.immediate = true → ∃ t, exec (.audioStart c) s = .next t ∧ Answered 2305 c 0 0 0 t)
  ∧ (∀ (c : Cmd) (n : ℕ) (s : State), s.accepts false 2306 c → c.operands 1 0 → n = c.f 0 8 → n < 16 → ∃ t, exec (.audioStatus c) s = .next t ∧
      Answered 2306 c 0 40 (s.apState n + at' 8 (s.app n P.AP_GROUP) + at' 16 (((s.port n).group.bind fun g => s.reference g).getD 255) + at' 24
      (s.envelopeCode n) + at' 32 (s.port n).boundaryTag + at' 64 ((s.port n).boundary.getD 0) + at' 128 (s.app n P.AP_POSITION) + at' 192 (s.app n
      P.AP_POS_TIME) + at' 256 (s.app n P.AP_RATE_ERR)) t)
  ∧ (∀ (r : ℕ) (v : ℕ) (n : ℕ) (lo : ℕ) (hi : ℕ) (s : State), s.ctl.boot ≠ Boot.off → s.hk.next = n → 5 ≤ n → n ≤ 31 → r < 65536 → (v = if n < 15 then
      r else min r 19200) → lo = s.getP P.HK_LIMIT_LO n → hi = s.getP P.HK_LIMIT_HI n → (s.getP P.HK_READING n).testBit 18 = false → lo ≤ v → v ≤ hi →
      (n = 31 → s.ctl.boot ≠ Boot.running ∧ s.hk.trip = false) → ∃ t, exec (.hkConversion r) s = .next t ∧ t.getP P.HK_READING n = v + 65536)
  ∧ (∀ (a : ℕ) (s : State), a < 128 → s.busAnswers a = true → s.ctl.staged = [] → ∃ t, exec (.status { addr := a, bare := false }) s = .next t ∧
      (BusRead a 0 (leBytes (if s.ctl.boot = Boot.auxOnly then 16385 else s.statusWord 64 0) 4) s t))
  ∧ (∀ (a : ℕ) (s : State), a < 128 → s.busAnswers a = true → s.ctl.staged = [] → ∃ t, exec (.slotState a) s = .next t ∧ BusRead a 1 (leBytes ((s.win
      64).busy % 16 + at' 4 ((s.win 64).ready % 16)) 1) s t)
  ∧ (∀ (a : ℕ) (k : ℕ) (n : ℕ) (f : List Byte) (p : Option ℕ) (s : State), a < 128 → k < 4 → s.busAnswers a = true → s.ctl.staged = [] → s.ctl.boot ≠
      Boot.auxOnly → s.slotFree 64 k = true → 16 ≤ n → n ≤ 256 → f.length = n → (p = none ∧ s.getP P.MB_PEC_REQUIRED 0 ≠ 1 ∨ p = some (crc8 (busWrite
      a (16 + k) ++ leBytes n 2 ++ f))) → ∃ u : State, exec (.submit a k n f p) s = .next
      { (if s.ctl.fwReady = true then u.takeSlot 64 k else u) with pending := s.pending } ∧ takeBytes zeroByte (u.win 64).slots (k * 256) n = busFrame
      f ∧ (u.win 64).rung.testBit k = true)
  ∧ (∀ (a : ℕ) (k : ℕ) (s : State) (r : Reply), a < 128 → k < 4 → s.busAnswers a = true → s.ctl.staged = [] → s.ctl.boot ≠ Boot.auxOnly → SMap.find k
      (s.win 64).replies = some r → ∃ t, exec (.reply a k) s = .next t ∧ BusRead a (32 + k) (leBytes (16 + r.len) 2 ++ List.take (16 + r.len) r.bytes)
      s t)
  ∧ (∀ (a : ℕ) (s : State), a < 128 → s.busAnswers a = true → s.ctl.staged = [] → ∃ t, exec (.hkRead a) s = .next t ∧ (BusRead a 48 (List.flatMap (fun
      n => leBytes (if (s.getP P.HK_READING n).testBit 16 = true ∧ (s.getP P.HK_READING n).testBit 17 = false then s.getP P.HK_READING n % 65536 else
      32768) 2) (List.range 32)) s t))
  ∧ (∀ (a : ℕ) (k : ℕ) (p : Option ℕ) (s : State), a < 128 → k < 4 → s.busAnswers a = true → s.ctl.staged = [] → s.ctl.boot ≠ Boot.auxOnly → (s.win
      64).busy.testBit k = false → (p = none ∧ s.getP P.MB_PEC_REQUIRED 0 ≠ 1 ∨ p = some (crc8 (busWrite a (64 + k)))) → (s.win 64).ready.testBit k =
      true → ∃ t, exec (.replyAck a k p) s = .next t ∧ t.getP P.MB_LAST_ADDR 0 = a ∧ (t.win 64).ready.testBit k = false)
  ∧ (∀ (i : Instr) (a : ℕ) (x : ℕ) (s : State), a < 128 → s.busAnswers a = true → s.ctl.staged = [] → i ∈ [.mbStretchTimeout a x, .mbBusTimeout a x] →
      ∃ t, exec i s = .next t ∧ t.getP P.MB_RESETS 0 = min (s.getP P.MB_RESETS 0 + 1) (2 ^ 32 - 1))
  ∧ (∀ (mw : ℕ) (l : List ℕ) (s : State), s.bgHeld 6 = false → ∃ t, exec (.telemetryCollect mw l) s = .next t ∧ t.hk.powerMw = mw % 2 ^ 32)
  ∧ (∀ (n : ℕ) (s : State), s.bgHeld 10 = false → n < s.dram.dirty.length → ∃ t, exec (.pageZeroing n) s = .next t ∧ t.dram.dirty = List.drop n
      s.dram.dirty)
  ∧ (∀ (c : Cmd) (s : State), c.operands 0 0 → s.accepts false 2561 c → ∃ t, exec (.hkStatus c) s = .next t ∧ Answered 2561 c 0 160 (ofLE (leBytes
      (s.getP P.TH_STEP 0) 1 ++ leBytes (s.getP P.TH_HOTTEST 0 / 65536) 1 ++ leBytes (s.getP P.TH_HOTTEST 0) 2 ++ leBytes (s.getP P.HK_ROUNDS 0) 4 ++
      leBytes s.hk.powerMw 4 ++ List.flatMap (fun i => leBytes (s.hk.d2d.getD i 0) 2) (List.range 4) ++ leBytes 0 4 ++ leBytes s.hk.telemetryTime 8 ++
      List.flatMap (fun n => leBytes (s.getP P.HK_READING n) 4) (List.range 32))) t)
  ∧ (∀ (c : Cmd) (s : State), c.operands 0 0 → s.accepts false 2562 c → ∃ t, exec (.bgStatus c) s = .next t ∧ Answered 2562 c 0 184 (ofLE (leBytes 0 8
      ++ List.flatMap (fun k => leBytes (s.taskState k) 2 ++ leBytes (s.hk.tasks.getD k { }).progress 2 ++ leBytes (s.hk.tasks.getD k { }).runs 4 ++
      leBytes (s.hk.tasks.getD k { }).last 8) (List.range 11))) t)
  ∧ (∀ (m : ℕ) (s : State), m < 4 → (s.ctl.boot = Boot.off ∨ s.ctl.boot = Boot.auxOnly) → ∃ t, exec (.vauxValid m) s = .next t ∧ t.bus.mgtAddr = m ∧
      t.getP P.MB_ADDR 0 = 472 + m)
  ∧ (∀ (s : State), s.ctl.boot = Boot.training → s.cxl.regions = [] → s.fr.bins = [] → (∀ g < 8, s.getP (P.cg g P.CG_ENABLE) 0 = 0 ∧ s.camState g = 0)
      → ∃ t, exec (.dramTrainingDone []) s = .next t ∧ t.ctl.boot = Boot.starting)
  ∧ (∀ (c : Cmd) (s : State), s.accepts true 2576 c → c.operands 4 0 → c.f 0 32 = 1381188948 → ∃ t, exec (.deviceReset c) s = .next t ∧ Answered 2576
      c 0 0 0 t)
  ∧ (∀ (c : Cmd) (g : ℕ) (old : ℕ) (s : State), s.accepts true 64 c → c.operands 4 4294966784 → g = c.f 0 8 → old = s.powerState → g ≤ 2 → (c.f 8 1 =
      1 → g = 2) → s.pw.step = PwStep.none → s.pw.tickets = [] → c.immediate = false → s.runningCanvases = [] → (old = 0 ∧ g = 1 ∨ old = 1 ∧ g = 0) →
      ∃ t, exec (.powerStateSet c) s = .next t ∧ Answered 64 c 0 12 (g + at' 32 s.now) t ∧ t.getP P.PW_STATE 0 = g)
  ∧ (∀ (s : State) (m : ℕ), m < 3 → s.ctl.perstN = false → ∃ t, exec (.perstNRise m) s = .next t ∧ t.ctl.perstN = true)
  ∧ (∀ (h : ℤ) (s : State), h = s.hottest.1 → s.hk.trip = false → (s.threshold 1 ≤ h ∨ h < s.threshold 1 - s.hyst) → ∃ t, exec .throttleStep s = .next
      t ∧ (t.getP P.TH_STEP 0 = if s.threshold 1 ≤ h then max (s.getP P.TH_STEP 0) (min (s.getP P.TH_STEP 0 + 1) (s.getP P.TH_STEP_MAX 0)) else s.getP
      P.TH_STEP 0 - 1))
  ∧ (∀ (s : State), s.ctl.boot ≠ Boot.off → ∃ t, exec .mbAbort s = .next t ∧ t.getP P.MB_ABORTS 0 = min (s.getP P.MB_ABORTS 0 + 1) (2 ^ 32 - 1))
  ∧ (∀ (s : State), ∃ t, exec .bgScheduler s = .next t ∧ ∀ k < 11, t.getP P.BG_STATE k = s.taskState k)
  ∧ (∀ (e : ℕ) (s : State), s.powerState ≠ 2 → s.cxl.regions = [] → e = (s.now - s.hk.patrolStart) * 1000 / max (s.getP P.MEM_SCRUB_HOURS 0 *
      3600000000000) 1 → (s.hk.behind.testBit 32 = false ∧ s.getP P.MEM_SCRUB_PROGRESS 0 + 50 < e ∨ s.hk.behind.testBit 32 = true ∧ e ≤ s.getP
      P.MEM_SCRUB_PROGRESS 0) → ∃ t, exec .scrubBehind s = .next t ∧ t.hk.behind.testBit 32 = !s.hk.behind.testBit 32)
  ∧ (∀ (s : State), s.ctl.boot = Boot.auxOnly → s.slotValid s.ctl.bootSlot = true → ∃ t, exec .pwrgdRise s = .next t ∧ t.ctl.boot = Boot.training)
  ∧ (∀ (s : State), s.ctl.boot = Boot.starting → ∃ t, exec .startupComplete s = .next t ∧ t.ctl.boot = Boot.running ∧ t.ctl.fwReady = true)
  ∧ (∀ (s : State), s.ctl.boot ≠ Boot.off → s.ctl.boot ≠ Boot.auxOnly → s.pw.stop ≠ some 0 → ∃ t, exec .pwrgdFall s = .next t ∧ t.pw.stop = some 0)
  ∧ (∀ (s : State), s.ctl.boot ≠ Boot.off → s.ctl.boot ≠ Boot.auxOnly → s.pw.stop ≠ some 0 → ∃ t, exec .coldReset s = .next t ∧ t.pw.stop = some 2)
  ∧ (∀ (s : State) (u : ℕ), s.pw.resetAt = some u → s.ctl.boot = Boot.running → s.pw.stop ≠ some 0 → ∃ t, exec .deviceResetFire s = .next t ∧
      t.pw.stop = some 3)
  ∧ (∀ (s : State) (tk : ℕ) (f : Flight), s.pw.step = PwStep.sleeping → s.pw.tickets = [tk] → s.pw.exitWanted = false → s.awaits tk f → ∃ t, exec
      .darkReached s = .next t ∧ Answered f.opcode f.cmd 0 12 (2 + at' 32 s.now) t ∧ t.getP P.PW_STATE 0 = 2)
  ∧ (∀ (s : State), s.pw.step = PwStep.exiting → s.fr.bins = [] → (∀ g < 8, s.camState g ≠ 5) → ∃ t, exec .darkExitDone s = .next t ∧ t.getP
      P.PW_STATE 0 = 1 ∧ t.getP P.PW_LAST_CHANGE 0 = s.now)
  ∧ (∀ (s : State) (f : ℕ), s.pw.returnFrom = some f → s.powerState = 1 → s.pw.step = PwStep.none → s.getP P.PW_DARK_RETURN_MS 0 ≠ 0 → ∃ t, exec
      .darkReturnTimer s = .next t ∧ t.getP P.PW_STATE 0 = 1 + at' 8 2 + 65536)
  ∧ (∀ (s : State), ∃ t, exec .vauxLoss s = .next t ∧ t.now = 0 ∧ t.hk = { })
  ∧ (∀ (s : State), ∃ t, exec .refclkCoreLoss s = .next t ∧ t.pw.refclk = false)
  ∧ (∀ (s : State), ∃ t, exec .refclkCoreReturn s = .next t ∧ t.pw.refclk = true)
end

