-- ==== Sys2Proof/Laws/Maps.lean ====
section
/-! SUPPORT. What the plain operations over sparse maps and byte memories do: a read after a write, and the canonical form that every one keeps. -/

namespace Sys2Proof.Machine

theorem SMap.find_ins_same {α : Type} (k : Nat) (v : α) : ∀ m : SMap α, SMap.find k (SMap.ins k v m) = some v
  | [] => by simp [SMap.ins, SMap.find]
  | (j, w) :: r => by
    by_cases h : j = k
    · simp [SMap.ins, SMap.find, h]
    · by_cases g : k < j
      · simp [SMap.ins, SMap.find, h, g]
      · simp [SMap.ins, SMap.find, h, g, SMap.find_ins_same k v r]

theorem SMap.find_ins_other {α : Type} {k n : Nat} (h : n ≠ k) (v : α) : ∀ m : SMap α, SMap.find n (SMap.ins k v m) = SMap.find n m
  | [] => by simp [SMap.ins, SMap.find, Ne.symm h]
  | (j, w) :: r => by
    by_cases e : j = k
    · subst e; simp [SMap.ins, SMap.find, Ne.symm h]
    · by_cases g : k < j
      · simp [SMap.ins, SMap.find, e, g, Ne.symm h]
      · simp [SMap.ins, SMap.find, e, g, SMap.find_ins_other h v r]

theorem SMap.find_del_same {α : Type} (k : Nat) : ∀ m : SMap α, SMap.find k (SMap.del k m) = none
  | [] => rfl
  | (j, w) :: r => by
    by_cases h : j = k
    · simp [SMap.del, h, SMap.find_del_same k r]
    · simp [SMap.del, SMap.find, h, SMap.find_del_same k r]

theorem SMap.find_del_other {α : Type} {k n : Nat} (h : n ≠ k) : ∀ m : SMap α, SMap.find n (SMap.del k m) = SMap.find n m
  | [] => rfl
  | (j, w) :: r => by
    by_cases e : j = k
    · subst e; simp [SMap.del, SMap.find, Ne.symm h, SMap.find_del_other h r]
    · simp [SMap.del, SMap.find, e, SMap.find_del_other h r]

/-- A read after a write to the same key gives the value written. -/
@[simp] theorem SMap.get_set_same {α : Type} [DecidableEq α] (d : Nat → α) (m : SMap α) (k : Nat) (v : α) :
    SMap.get d (SMap.set d m k v) k = v := by
  unfold SMap.get SMap.set
  by_cases h : v = d k
  · simp [h, SMap.find_del_same]
  · simp [h, SMap.find_ins_same]

/-- A write leaves every other key as it was. -/
theorem SMap.get_set_other {α : Type} [DecidableEq α] (d : Nat → α) (m : SMap α) {k n : Nat} (h : n ≠ k) (v : α) :
    SMap.get d (SMap.set d m k v) n = SMap.get d m n := by
  unfold SMap.get SMap.set
  by_cases e : v = d k
  · simp [e, SMap.find_del_other h]
  · simp [e, SMap.find_ins_other h]

theorem SMap.get_set {α : Type} [DecidableEq α] (d : Nat → α) (m : SMap α) (k n : Nat) (v : α) :
    SMap.get d (SMap.set d m k v) n = if n = k then v else SMap.get d m n := by
  by_cases h : n = k
  · subst h; simp
  · simp [h, SMap.get_set_other d m h]

@[simp] theorem SMap.get_nil {α : Type} (d : Nat → α) (k : Nat) : SMap.get d [] k = d k := rfl

theorem SMap.mem_ins {α : Type} {k : Nat} {v : α} {e : Nat × α} : ∀ {m : SMap α}, e ∈ SMap.ins k v m → e = (k, v) ∨ e ∈ m
  | [], h => by simpa [SMap.ins] using h
  | (j, w) :: r, h => by
    unfold SMap.ins at h
    split at h
    · rcases List.mem_cons.1 h with h | h
      · exact .inl h
      · exact .inr (List.mem_cons_of_mem _ h)
    · split at h
      · rcases List.mem_cons.1 h with h | h
        · exact .inl h
        · exact .inr h
      · rcases List.mem_cons.1 h with h | h
        · exact .inr (h ▸ List.mem_cons_self)
        · exact (SMap.mem_ins h).imp_right (List.mem_cons_of_mem _)

theorem SMap.mem_del {α : Type} {k : Nat} {e : Nat × α} : ∀ {m : SMap α}, e ∈ SMap.del k m → e ∈ m
  | [], h => by cases h
  | (j, w) :: r, h => by
    unfold SMap.del at h
    split at h
    · exact List.mem_cons_of_mem _ (SMap.mem_del h)
    · rcases List.mem_cons.1 h with h | h
      · exact h ▸ List.mem_cons_self
      · exact List.mem_cons_of_mem _ (SMap.mem_del h)

theorem SMap.ins_rising {α : Type} (k : Nat) (v : α) : ∀ {m : SMap α}, m.Pairwise (fun a b => a.1 < b.1) →
    (SMap.ins k v m).Pairwise (fun a b => a.1 < b.1)
  | [], _ => by simp [SMap.ins]
  | (j, w) :: r, h => by
    have h' := List.pairwise_cons.1 h
    unfold SMap.ins
    split
    · next e => exact List.pairwise_cons.2 ⟨fun a ha => e ▸ h'.1 a ha, h'.2⟩
    · split
      · next g =>
        refine List.pairwise_cons.2 ⟨fun a ha => ?_, h⟩
        rcases List.mem_cons.1 ha with ha | ha
        · exact ha ▸ g
        · exact Nat.lt_trans g (h'.1 a ha)
      · refine List.pairwise_cons.2 ⟨fun a ha => ?_, SMap.ins_rising k v h'.2⟩
        rcases SMap.mem_ins ha with ha | ha
        · subst ha; simp only; omega
        · exact h'.1 a ha

theorem SMap.del_rising {α : Type} (k : Nat) : ∀ {m : SMap α}, m.Pairwise (fun a b => a.1 < b.1) →
    (SMap.del k m).Pairwise (fun a b => a.1 < b.1)
  | [], _ => by simp [SMap.del]
  | (j, w) :: r, h => by
    have h' := List.pairwise_cons.1 h
    unfold SMap.del
    split
    · exact SMap.del_rising k h'.2
    · exact List.pairwise_cons.2 ⟨fun a ha => h'.1 a (SMap.mem_del ha), SMap.del_rising k h'.2⟩

/-- A write keeps the canonical form. -/
theorem SMap.set_wf {α : Type} [DecidableEq α] {d : Nat → α} {m : SMap α} (h : SMap.wf d m) (k : Nat) (v : α) :
    SMap.wf d (SMap.set d m k v) := by
  unfold SMap.set
  split
  · exact ⟨SMap.del_rising k h.1, fun e he => h.2 e (SMap.mem_del he)⟩
  · next g =>
    refine ⟨SMap.ins_rising k v h.1, fun e he => ?_⟩
    rcases SMap.mem_ins he with he | he
    · subst he; exact g
    · exact h.2 e he

theorem SMap.nil_wf {α : Type} (d : Nat → α) : SMap.wf d ([] : SMap α) := by simp [SMap.wf]

theorem putBytes_wf {d : Nat → Byte} : ∀ {l : List Byte} {m : SMap Byte} {a : Nat}, SMap.wf d m → SMap.wf d (putBytes d m a l)
  | [], _, _, h => h
  | b :: r, m, a, h => by unfold putBytes; exact putBytes_wf (l := r) (SMap.set_wf h a b)

@[simp] theorem takeBytes_length (d : Nat → Byte) (m : SMap Byte) (a n : Nat) : (takeBytes d m a n).length = n := by
  induction n generalizing a with
  | zero => rfl
  | succ n ih => simp [takeBytes, ih]

/-- A byte outside those written reads as before. -/
theorem get_putBytes_other {d : Nat → Byte} : ∀ {l : List Byte} {m : SMap Byte} {a k : Nat}, (k < a ∨ a + l.length ≤ k) →
    SMap.get d (putBytes d m a l) k = SMap.get d m k
  | [], _, _, _, _ => rfl
  | b :: r, m, a, k, h => by
    rw [putBytes, get_putBytes_other (by simp at h; omega), SMap.get_set_other]
    simp at h; omega

/-- A byte written reads as written. -/
theorem get_putBytes_same {d : Nat → Byte} : ∀ {l : List Byte} {m : SMap Byte} {a i : Nat} (h : i < l.length),
    SMap.get d (putBytes d m a l) (a + i) = l[i]
  | b :: r, m, a, 0, _ => by
    rw [putBytes, get_putBytes_other (by omega)]; simp
  | b :: r, m, a, i + 1, h => by
    have h' : i < r.length := by simpa using h
    rw [putBytes, show a + (i + 1) = a + 1 + i by omega, get_putBytes_same h']; simp

/-- Bytes read back where they were written. -/
theorem takeBytes_putBytes (d : Nat → Byte) : ∀ (l : List Byte) (m : SMap Byte) (a : Nat), takeBytes d (putBytes d m a l) a l.length = l := by
  intro l m a
  have key : ∀ (n : Nat) (m' : SMap Byte) (b : Nat) (x : List Byte), x.length = n → (∀ i (h : i < x.length), SMap.get d m' (b + i) = x[i]) →
      takeBytes d m' b n = x := by
    intro n
    induction n with
    | zero => intro m' b x hx _; simp [takeBytes, List.length_eq_zero_iff.1 hx]
    | succ n ih =>
      intro m' b x hx hg
      match x, hx with
      | y :: ys, hx =>
        simp only [takeBytes]
        have h0 := hg 0 (by simp)
        simp only [Nat.add_zero, List.getElem_cons_zero] at h0
        rw [h0, ih m' (b + 1) ys (by simpa using hx)]
        intro i hi
        have := hg (i + 1) (by simpa using hi)
        rw [show b + 1 + i = b + (i + 1) by omega, this]; simp
  exact key l.length _ a l rfl fun i h => get_putBytes_same h

end Sys2Proof.Machine
end

