-- ==== Sys2Proof/Laws/State.lean ====
section
/-! SUPPORT. What each plain update of the state leaves alone, one lemma for each field and each update, and what it writes. -/

namespace Sys2Proof.Machine

variable (s : State)

/-! `State.setP` -/
@[simp] theorem State.setP_pending (id idx v : Nat) : (s.setP id idx v).pending = s.pending := rfl
@[simp] theorem State.setP_now (id idx v : Nat) : (s.setP id idx v).now = s.now := rfl
@[simp] theorem State.setP_free (id idx v : Nat) : (s.setP id idx v).free = s.free := rfl
@[simp] theorem State.setP_sent (id idx v : Nat) : (s.setP id idx v).sent = s.sent := rfl
@[simp] theorem State.setP_ctl (id idx v : Nat) : (s.setP id idx v).ctl = s.ctl := rfl
@[simp] theorem State.setP_ring (id idx v : Nat) : (s.setP id idx v).ring = s.ring := rfl
@[simp] theorem State.setP_hk (id idx v : Nat) : (s.setP id idx v).hk = s.hk := rfl
@[simp] theorem State.setP_bus (id idx v : Nat) : (s.setP id idx v).bus = s.bus := rfl
@[simp] theorem State.setP_pw (id idx v : Nat) : (s.setP id idx v).pw = s.pw := rfl
@[simp] theorem State.setP_cq (id idx v : Nat) : (s.setP id idx v).cq = s.cq := rfl
@[simp] theorem State.setP_cam (id idx v : Nat) : (s.setP id idx v).cam = s.cam := rfl
@[simp] theorem State.setP_pipes (id idx v : Nat) : (s.setP id idx v).pipes = s.pipes := rfl
@[simp] theorem State.setP_colour (id idx v : Nat) : (s.setP id idx v).colour = s.colour := rfl
@[simp] theorem State.setP_dram (id idx v : Nat) : (s.setP id idx v).dram = s.dram := rfl
@[simp] theorem State.setP_cxl (id idx v : Nat) : (s.setP id idx v).cxl = s.cxl := rfl
@[simp] theorem State.setP_cv (id idx v : Nat) : (s.setP id idx v).cv = s.cv := rfl
@[simp] theorem State.setP_mw (id idx v : Nat) : (s.setP id idx v).mw = s.mw := rfl
@[simp] theorem State.setP_ln (id idx v : Nat) : (s.setP id idx v).ln = s.ln := rfl
@[simp] theorem State.setP_fr (id idx v : Nat) : (s.setP id idx v).fr = s.fr := rfl
@[simp] theorem State.setP_vc (id idx v : Nat) : (s.setP id idx v).vc = s.vc := rfl
@[simp] theorem State.setP_au (id idx v : Nat) : (s.setP id idx v).au = s.au := rfl
@[simp] theorem State.setP_win (id idx v : Nat) (w' : Nat) : (s.setP id idx v).win w' = s.win w' := rfl

/-! `State.bumpSat` -/
@[simp] theorem State.bumpSat_pending (id idx n : Nat) : (s.bumpSat id idx n).pending = s.pending := rfl
@[simp] theorem State.bumpSat_now (id idx n : Nat) : (s.bumpSat id idx n).now = s.now := rfl
@[simp] theorem State.bumpSat_free (id idx n : Nat) : (s.bumpSat id idx n).free = s.free := rfl
@[simp] theorem State.bumpSat_sent (id idx n : Nat) : (s.bumpSat id idx n).sent = s.sent := rfl
@[simp] theorem State.bumpSat_ctl (id idx n : Nat) : (s.bumpSat id idx n).ctl = s.ctl := rfl
@[simp] theorem State.bumpSat_ring (id idx n : Nat) : (s.bumpSat id idx n).ring = s.ring := rfl
@[simp] theorem State.bumpSat_hk (id idx n : Nat) : (s.bumpSat id idx n).hk = s.hk := rfl
@[simp] theorem State.bumpSat_bus (id idx n : Nat) : (s.bumpSat id idx n).bus = s.bus := rfl
@[simp] theorem State.bumpSat_pw (id idx n : Nat) : (s.bumpSat id idx n).pw = s.pw := rfl
@[simp] theorem State.bumpSat_cq (id idx n : Nat) : (s.bumpSat id idx n).cq = s.cq := rfl
@[simp] theorem State.bumpSat_cam (id idx n : Nat) : (s.bumpSat id idx n).cam = s.cam := rfl
@[simp] theorem State.bumpSat_pipes (id idx n : Nat) : (s.bumpSat id idx n).pipes = s.pipes := rfl
@[simp] theorem State.bumpSat_colour (id idx n : Nat) : (s.bumpSat id idx n).colour = s.colour := rfl
@[simp] theorem State.bumpSat_dram (id idx n : Nat) : (s.bumpSat id idx n).dram = s.dram := rfl
@[simp] theorem State.bumpSat_cxl (id idx n : Nat) : (s.bumpSat id idx n).cxl = s.cxl := rfl
@[simp] theorem State.bumpSat_cv (id idx n : Nat) : (s.bumpSat id idx n).cv = s.cv := rfl
@[simp] theorem State.bumpSat_mw (id idx n : Nat) : (s.bumpSat id idx n).mw = s.mw := rfl
@[simp] theorem State.bumpSat_ln (id idx n : Nat) : (s.bumpSat id idx n).ln = s.ln := rfl
@[simp] theorem State.bumpSat_fr (id idx n : Nat) : (s.bumpSat id idx n).fr = s.fr := rfl
@[simp] theorem State.bumpSat_vc (id idx n : Nat) : (s.bumpSat id idx n).vc = s.vc := rfl
@[simp] theorem State.bumpSat_au (id idx n : Nat) : (s.bumpSat id idx n).au = s.au := rfl
@[simp] theorem State.bumpSat_win (id idx n : Nat) (w' : Nat) : (s.bumpSat id idx n).win w' = s.win w' := rfl

/-! `State.bumpWrap` -/
@[simp] theorem State.bumpWrap_pending (id idx n : Nat) : (s.bumpWrap id idx n).pending = s.pending := rfl
@[simp] theorem State.bumpWrap_now (id idx n : Nat) : (s.bumpWrap id idx n).now = s.now := rfl
@[simp] theorem State.bumpWrap_free (id idx n : Nat) : (s.bumpWrap id idx n).free = s.free := rfl
@[simp] theorem State.bumpWrap_sent (id idx n : Nat) : (s.bumpWrap id idx n).sent = s.sent := rfl
@[simp] theorem State.bumpWrap_ctl (id idx n : Nat) : (s.bumpWrap id idx n).ctl = s.ctl := rfl
@[simp] theorem State.bumpWrap_ring (id idx n : Nat) : (s.bumpWrap id idx n).ring = s.ring := rfl
@[simp] theorem State.bumpWrap_hk (id idx n : Nat) : (s.bumpWrap id idx n).hk = s.hk := rfl
@[simp] theorem State.bumpWrap_bus (id idx n : Nat) : (s.bumpWrap id idx n).bus = s.bus := rfl
@[simp] theorem State.bumpWrap_pw (id idx n : Nat) : (s.bumpWrap id idx n).pw = s.pw := rfl
@[simp] theorem State.bumpWrap_cq (id idx n : Nat) : (s.bumpWrap id idx n).cq = s.cq := rfl
@[simp] theorem State.bumpWrap_cam (id idx n : Nat) : (s.bumpWrap id idx n).cam = s.cam := rfl
@[simp] theorem State.bumpWrap_pipes (id idx n : Nat) : (s.bumpWrap id idx n).pipes = s.pipes := rfl
@[simp] theorem State.bumpWrap_colour (id idx n : Nat) : (s.bumpWrap id idx n).colour = s.colour := rfl
@[simp] theorem State.bumpWrap_dram (id idx n : Nat) : (s.bumpWrap id idx n).dram = s.dram := rfl
@[simp] theorem State.bumpWrap_cxl (id idx n : Nat) : (s.bumpWrap id idx n).cxl = s.cxl := rfl
@[simp] theorem State.bumpWrap_cv (id idx n : Nat) : (s.bumpWrap id idx n).cv = s.cv := rfl
@[simp] theorem State.bumpWrap_mw (id idx n : Nat) : (s.bumpWrap id idx n).mw = s.mw := rfl
@[simp] theorem State.bumpWrap_ln (id idx n : Nat) : (s.bumpWrap id idx n).ln = s.ln := rfl
@[simp] theorem State.bumpWrap_fr (id idx n : Nat) : (s.bumpWrap id idx n).fr = s.fr := rfl
@[simp] theorem State.bumpWrap_vc (id idx n : Nat) : (s.bumpWrap id idx n).vc = s.vc := rfl
@[simp] theorem State.bumpWrap_au (id idx n : Nat) : (s.bumpWrap id idx n).au = s.au := rfl
@[simp] theorem State.bumpWrap_win (id idx n : Nat) (w' : Nat) : (s.bumpWrap id idx n).win w' = s.win w' := rfl

/-! `State.atLeast` -/
@[simp] theorem State.atLeast_pending (t : Nat) : (s.atLeast t).pending = s.pending := rfl
@[simp] theorem State.atLeast_free (t : Nat) : (s.atLeast t).free = s.free := rfl
@[simp] theorem State.atLeast_params (t : Nat) : (s.atLeast t).params = s.params := rfl
@[simp] theorem State.atLeast_sent (t : Nat) : (s.atLeast t).sent = s.sent := rfl
@[simp] theorem State.atLeast_ctl (t : Nat) : (s.atLeast t).ctl = s.ctl := rfl
@[simp] theorem State.atLeast_ring (t : Nat) : (s.atLeast t).ring = s.ring := rfl
@[simp] theorem State.atLeast_hk (t : Nat) : (s.atLeast t).hk = s.hk := rfl
@[simp] theorem State.atLeast_bus (t : Nat) : (s.atLeast t).bus = s.bus := rfl
@[simp] theorem State.atLeast_pw (t : Nat) : (s.atLeast t).pw = s.pw := rfl
@[simp] theorem State.atLeast_cq (t : Nat) : (s.atLeast t).cq = s.cq := rfl
@[simp] theorem State.atLeast_cam (t : Nat) : (s.atLeast t).cam = s.cam := rfl
@[simp] theorem State.atLeast_pipes (t : Nat) : (s.atLeast t).pipes = s.pipes := rfl
@[simp] theorem State.atLeast_colour (t : Nat) : (s.atLeast t).colour = s.colour := rfl
@[simp] theorem State.atLeast_dram (t : Nat) : (s.atLeast t).dram = s.dram := rfl
@[simp] theorem State.atLeast_cxl (t : Nat) : (s.atLeast t).cxl = s.cxl := rfl
@[simp] theorem State.atLeast_cv (t : Nat) : (s.atLeast t).cv = s.cv := rfl
@[simp] theorem State.atLeast_mw (t : Nat) : (s.atLeast t).mw = s.mw := rfl
@[simp] theorem State.atLeast_ln (t : Nat) : (s.atLeast t).ln = s.ln := rfl
@[simp] theorem State.atLeast_fr (t : Nat) : (s.atLeast t).fr = s.fr := rfl
@[simp] theorem State.atLeast_vc (t : Nat) : (s.atLeast t).vc = s.vc := rfl
@[simp] theorem State.atLeast_au (t : Nat) : (s.atLeast t).au = s.au := rfl
@[simp] theorem State.atLeast_getP (t : Nat) (i e : Nat) : (s.atLeast t).getP i e = s.getP i e := rfl
@[simp] theorem State.atLeast_win (t : Nat) (w' : Nat) : (s.atLeast t).win w' = s.win w' := rfl

/-! `State.emit` -/
@[simp] theorem State.emit_pending (x : Tx) : (s.emit x).pending = s.pending := rfl
@[simp] theorem State.emit_now (x : Tx) : (s.emit x).now = s.now := rfl
@[simp] theorem State.emit_free (x : Tx) : (s.emit x).free = s.free := rfl
@[simp] theorem State.emit_params (x : Tx) : (s.emit x).params = s.params := rfl
@[simp] theorem State.emit_ctl (x : Tx) : (s.emit x).ctl = s.ctl := rfl
@[simp] theorem State.emit_ring (x : Tx) : (s.emit x).ring = s.ring := rfl
@[simp] theorem State.emit_hk (x : Tx) : (s.emit x).hk = s.hk := rfl
@[simp] theorem State.emit_bus (x : Tx) : (s.emit x).bus = s.bus := rfl
@[simp] theorem State.emit_pw (x : Tx) : (s.emit x).pw = s.pw := rfl
@[simp] theorem State.emit_cq (x : Tx) : (s.emit x).cq = s.cq := rfl
@[simp] theorem State.emit_cam (x : Tx) : (s.emit x).cam = s.cam := rfl
@[simp] theorem State.emit_pipes (x : Tx) : (s.emit x).pipes = s.pipes := rfl
@[simp] theorem State.emit_colour (x : Tx) : (s.emit x).colour = s.colour := rfl
@[simp] theorem State.emit_dram (x : Tx) : (s.emit x).dram = s.dram := rfl
@[simp] theorem State.emit_cxl (x : Tx) : (s.emit x).cxl = s.cxl := rfl
@[simp] theorem State.emit_cv (x : Tx) : (s.emit x).cv = s.cv := rfl
@[simp] theorem State.emit_mw (x : Tx) : (s.emit x).mw = s.mw := rfl
@[simp] theorem State.emit_ln (x : Tx) : (s.emit x).ln = s.ln := rfl
@[simp] theorem State.emit_fr (x : Tx) : (s.emit x).fr = s.fr := rfl
@[simp] theorem State.emit_vc (x : Tx) : (s.emit x).vc = s.vc := rfl
@[simp] theorem State.emit_au (x : Tx) : (s.emit x).au = s.au := rfl
@[simp] theorem State.emit_getP (x : Tx) (i e : Nat) : (s.emit x).getP i e = s.getP i e := rfl
@[simp] theorem State.emit_win (x : Tx) (w' : Nat) : (s.emit x).win w' = s.win w' := rfl

/-! `State.setWin` -/
@[simp] theorem State.setWin_pending (w : Nat) (x : Window) : (s.setWin w x).pending = s.pending := rfl
@[simp] theorem State.setWin_now (w : Nat) (x : Window) : (s.setWin w x).now = s.now := rfl
@[simp] theorem State.setWin_free (w : Nat) (x : Window) : (s.setWin w x).free = s.free := rfl
@[simp] theorem State.setWin_params (w : Nat) (x : Window) : (s.setWin w x).params = s.params := rfl
@[simp] theorem State.setWin_sent (w : Nat) (x : Window) : (s.setWin w x).sent = s.sent := rfl
@[simp] theorem State.setWin_ring (w : Nat) (x : Window) : (s.setWin w x).ring = s.ring := rfl
@[simp] theorem State.setWin_hk (w : Nat) (x : Window) : (s.setWin w x).hk = s.hk := rfl
@[simp] theorem State.setWin_bus (w : Nat) (x : Window) : (s.setWin w x).bus = s.bus := rfl
@[simp] theorem State.setWin_pw (w : Nat) (x : Window) : (s.setWin w x).pw = s.pw := rfl
@[simp] theorem State.setWin_cq (w : Nat) (x : Window) : (s.setWin w x).cq = s.cq := rfl
@[simp] theorem State.setWin_cam (w : Nat) (x : Window) : (s.setWin w x).cam = s.cam := rfl
@[simp] theorem State.setWin_pipes (w : Nat) (x : Window) : (s.setWin w x).pipes = s.pipes := rfl
@[simp] theorem State.setWin_colour (w : Nat) (x : Window) : (s.setWin w x).colour = s.colour := rfl
@[simp] theorem State.setWin_dram (w : Nat) (x : Window) : (s.setWin w x).dram = s.dram := rfl
@[simp] theorem State.setWin_cxl (w : Nat) (x : Window) : (s.setWin w x).cxl = s.cxl := rfl
@[simp] theorem State.setWin_cv (w : Nat) (x : Window) : (s.setWin w x).cv = s.cv := rfl
@[simp] theorem State.setWin_mw (w : Nat) (x : Window) : (s.setWin w x).mw = s.mw := rfl
@[simp] theorem State.setWin_ln (w : Nat) (x : Window) : (s.setWin w x).ln = s.ln := rfl
@[simp] theorem State.setWin_fr (w : Nat) (x : Window) : (s.setWin w x).fr = s.fr := rfl
@[simp] theorem State.setWin_vc (w : Nat) (x : Window) : (s.setWin w x).vc = s.vc := rfl
@[simp] theorem State.setWin_au (w : Nat) (x : Window) : (s.setWin w x).au = s.au := rfl
@[simp] theorem State.setWin_getP (w : Nat) (x : Window) (i e : Nat) : (s.setWin w x).getP i e = s.getP i e := rfl

/-! `State.mapViews` -/
@[simp] theorem State.mapViews_pending (f : View → View) : (s.mapViews f).pending = s.pending := rfl
@[simp] theorem State.mapViews_now (f : View → View) : (s.mapViews f).now = s.now := rfl
@[simp] theorem State.mapViews_free (f : View → View) : (s.mapViews f).free = s.free := rfl
@[simp] theorem State.mapViews_params (f : View → View) : (s.mapViews f).params = s.params := rfl
@[simp] theorem State.mapViews_sent (f : View → View) : (s.mapViews f).sent = s.sent := rfl
@[simp] theorem State.mapViews_ring (f : View → View) : (s.mapViews f).ring = s.ring := rfl
@[simp] theorem State.mapViews_hk (f : View → View) : (s.mapViews f).hk = s.hk := rfl
@[simp] theorem State.mapViews_bus (f : View → View) : (s.mapViews f).bus = s.bus := rfl
@[simp] theorem State.mapViews_pw (f : View → View) : (s.mapViews f).pw = s.pw := rfl
@[simp] theorem State.mapViews_cq (f : View → View) : (s.mapViews f).cq = s.cq := rfl
@[simp] theorem State.mapViews_cam (f : View → View) : (s.mapViews f).cam = s.cam := rfl
@[simp] theorem State.mapViews_pipes (f : View → View) : (s.mapViews f).pipes = s.pipes := rfl
@[simp] theorem State.mapViews_colour (f : View → View) : (s.mapViews f).colour = s.colour := rfl
@[simp] theorem State.mapViews_dram (f : View → View) : (s.mapViews f).dram = s.dram := rfl
@[simp] theorem State.mapViews_cxl (f : View → View) : (s.mapViews f).cxl = s.cxl := rfl
@[simp] theorem State.mapViews_cv (f : View → View) : (s.mapViews f).cv = s.cv := rfl
@[simp] theorem State.mapViews_mw (f : View → View) : (s.mapViews f).mw = s.mw := rfl
@[simp] theorem State.mapViews_ln (f : View → View) : (s.mapViews f).ln = s.ln := rfl
@[simp] theorem State.mapViews_fr (f : View → View) : (s.mapViews f).fr = s.fr := rfl
@[simp] theorem State.mapViews_vc (f : View → View) : (s.mapViews f).vc = s.vc := rfl
@[simp] theorem State.mapViews_au (f : View → View) : (s.mapViews f).au = s.au := rfl
@[simp] theorem State.mapViews_getP (f : View → View) (i e : Nat) : (s.mapViews f).getP i e = s.getP i e := rfl

/-! `State.modView` -/
@[simp] theorem State.modView_pending (f : View → View) (v : Nat) : (s.modView f v).pending = s.pending := rfl
@[simp] theorem State.modView_now (f : View → View) (v : Nat) : (s.modView f v).now = s.now := rfl
@[simp] theorem State.modView_free (f : View → View) (v : Nat) : (s.modView f v).free = s.free := rfl
@[simp] theorem State.modView_params (f : View → View) (v : Nat) : (s.modView f v).params = s.params := rfl
@[simp] theorem State.modView_sent (f : View → View) (v : Nat) : (s.modView f v).sent = s.sent := rfl
@[simp] theorem State.modView_ring (f : View → View) (v : Nat) : (s.modView f v).ring = s.ring := rfl
@[simp] theorem State.modView_hk (f : View → View) (v : Nat) : (s.modView f v).hk = s.hk := rfl
@[simp] theorem State.modView_bus (f : View → View) (v : Nat) : (s.modView f v).bus = s.bus := rfl
@[simp] theorem State.modView_pw (f : View → View) (v : Nat) : (s.modView f v).pw = s.pw := rfl
@[simp] theorem State.modView_cq (f : View → View) (v : Nat) : (s.modView f v).cq = s.cq := rfl
@[simp] theorem State.modView_cam (f : View → View) (v : Nat) : (s.modView f v).cam = s.cam := rfl
@[simp] theorem State.modView_pipes (f : View → View) (v : Nat) : (s.modView f v).pipes = s.pipes := rfl
@[simp] theorem State.modView_colour (f : View → View) (v : Nat) : (s.modView f v).colour = s.colour := rfl
@[simp] theorem State.modView_dram (f : View → View) (v : Nat) : (s.modView f v).dram = s.dram := rfl
@[simp] theorem State.modView_cxl (f : View → View) (v : Nat) : (s.modView f v).cxl = s.cxl := rfl
@[simp] theorem State.modView_cv (f : View → View) (v : Nat) : (s.modView f v).cv = s.cv := rfl
@[simp] theorem State.modView_mw (f : View → View) (v : Nat) : (s.modView f v).mw = s.mw := rfl
@[simp] theorem State.modView_ln (f : View → View) (v : Nat) : (s.modView f v).ln = s.ln := rfl
@[simp] theorem State.modView_fr (f : View → View) (v : Nat) : (s.modView f v).fr = s.fr := rfl
@[simp] theorem State.modView_vc (f : View → View) (v : Nat) : (s.modView f v).vc = s.vc := rfl
@[simp] theorem State.modView_au (f : View → View) (v : Nat) : (s.modView f v).au = s.au := rfl
@[simp] theorem State.modView_getP (f : View → View) (v : Nat) (i e : Nat) : (s.modView f v).getP i e = s.getP i e := rfl

/-! `State.advanceAll` -/
@[simp] theorem State.advanceAll_pending : (s.advanceAll).pending = s.pending := rfl
@[simp] theorem State.advanceAll_now : (s.advanceAll).now = s.now := rfl
@[simp] theorem State.advanceAll_free : (s.advanceAll).free = s.free := rfl
@[simp] theorem State.advanceAll_params : (s.advanceAll).params = s.params := rfl
@[simp] theorem State.advanceAll_sent : (s.advanceAll).sent = s.sent := rfl
@[simp] theorem State.advanceAll_ring : (s.advanceAll).ring = s.ring := rfl
@[simp] theorem State.advanceAll_hk : (s.advanceAll).hk = s.hk := rfl
@[simp] theorem State.advanceAll_bus : (s.advanceAll).bus = s.bus := rfl
@[simp] theorem State.advanceAll_pw : (s.advanceAll).pw = s.pw := rfl
@[simp] theorem State.advanceAll_cq : (s.advanceAll).cq = s.cq := rfl
@[simp] theorem State.advanceAll_cam : (s.advanceAll).cam = s.cam := rfl
@[simp] theorem State.advanceAll_pipes : (s.advanceAll).pipes = s.pipes := rfl
@[simp] theorem State.advanceAll_colour : (s.advanceAll).colour = s.colour := rfl
@[simp] theorem State.advanceAll_dram : (s.advanceAll).dram = s.dram := rfl
@[simp] theorem State.advanceAll_cxl : (s.advanceAll).cxl = s.cxl := rfl
@[simp] theorem State.advanceAll_cv : (s.advanceAll).cv = s.cv := rfl
@[simp] theorem State.advanceAll_mw : (s.advanceAll).mw = s.mw := rfl
@[simp] theorem State.advanceAll_ln : (s.advanceAll).ln = s.ln := rfl
@[simp] theorem State.advanceAll_fr : (s.advanceAll).fr = s.fr := rfl
@[simp] theorem State.advanceAll_vc : (s.advanceAll).vc = s.vc := rfl
@[simp] theorem State.advanceAll_au : (s.advanceAll).au = s.au := rfl
@[simp] theorem State.advanceAll_getP (i e : Nat) : (s.advanceAll).getP i e = s.getP i e := rfl

/-! `State.latchFault` -/
@[simp] theorem State.latchFault_pending : (s.latchFault).pending = s.pending := rfl
@[simp] theorem State.latchFault_now : (s.latchFault).now = s.now := rfl
@[simp] theorem State.latchFault_free : (s.latchFault).free = s.free := rfl
@[simp] theorem State.latchFault_params : (s.latchFault).params = s.params := rfl
@[simp] theorem State.latchFault_sent : (s.latchFault).sent = s.sent := rfl
@[simp] theorem State.latchFault_ring : (s.latchFault).ring = s.ring := rfl
@[simp] theorem State.latchFault_hk : (s.latchFault).hk = s.hk := rfl
@[simp] theorem State.latchFault_bus : (s.latchFault).bus = s.bus := rfl
@[simp] theorem State.latchFault_pw : (s.latchFault).pw = s.pw := rfl
@[simp] theorem State.latchFault_cq : (s.latchFault).cq = s.cq := rfl
@[simp] theorem State.latchFault_cam : (s.latchFault).cam = s.cam := rfl
@[simp] theorem State.latchFault_pipes : (s.latchFault).pipes = s.pipes := rfl
@[simp] theorem State.latchFault_colour : (s.latchFault).colour = s.colour := rfl
@[simp] theorem State.latchFault_dram : (s.latchFault).dram = s.dram := rfl
@[simp] theorem State.latchFault_cxl : (s.latchFault).cxl = s.cxl := rfl
@[simp] theorem State.latchFault_cv : (s.latchFault).cv = s.cv := rfl
@[simp] theorem State.latchFault_mw : (s.latchFault).mw = s.mw := rfl
@[simp] theorem State.latchFault_ln : (s.latchFault).ln = s.ln := rfl
@[simp] theorem State.latchFault_fr : (s.latchFault).fr = s.fr := rfl
@[simp] theorem State.latchFault_vc : (s.latchFault).vc = s.vc := rfl
@[simp] theorem State.latchFault_au : (s.latchFault).au = s.au := rfl
@[simp] theorem State.latchFault_getP (i e : Nat) : (s.latchFault).getP i e = s.getP i e := rfl

/-! `State.latchConfig` -/
@[simp] theorem State.latchConfig_pending : (s.latchConfig).pending = s.pending := rfl
@[simp] theorem State.latchConfig_now : (s.latchConfig).now = s.now := rfl
@[simp] theorem State.latchConfig_free : (s.latchConfig).free = s.free := rfl
@[simp] theorem State.latchConfig_params : (s.latchConfig).params = s.params := rfl
@[simp] theorem State.latchConfig_sent : (s.latchConfig).sent = s.sent := rfl
@[simp] theorem State.latchConfig_ring : (s.latchConfig).ring = s.ring := rfl
@[simp] theorem State.latchConfig_hk : (s.latchConfig).hk = s.hk := rfl
@[simp] theorem State.latchConfig_bus : (s.latchConfig).bus = s.bus := rfl
@[simp] theorem State.latchConfig_pw : (s.latchConfig).pw = s.pw := rfl
@[simp] theorem State.latchConfig_cq : (s.latchConfig).cq = s.cq := rfl
@[simp] theorem State.latchConfig_cam : (s.latchConfig).cam = s.cam := rfl
@[simp] theorem State.latchConfig_pipes : (s.latchConfig).pipes = s.pipes := rfl
@[simp] theorem State.latchConfig_colour : (s.latchConfig).colour = s.colour := rfl
@[simp] theorem State.latchConfig_dram : (s.latchConfig).dram = s.dram := rfl
@[simp] theorem State.latchConfig_cxl : (s.latchConfig).cxl = s.cxl := rfl
@[simp] theorem State.latchConfig_cv : (s.latchConfig).cv = s.cv := rfl
@[simp] theorem State.latchConfig_mw : (s.latchConfig).mw = s.mw := rfl
@[simp] theorem State.latchConfig_ln : (s.latchConfig).ln = s.ln := rfl
@[simp] theorem State.latchConfig_fr : (s.latchConfig).fr = s.fr := rfl
@[simp] theorem State.latchConfig_vc : (s.latchConfig).vc = s.vc := rfl
@[simp] theorem State.latchConfig_au : (s.latchConfig).au = s.au := rfl
@[simp] theorem State.latchConfig_getP (i e : Nat) : (s.latchConfig).getP i e = s.getP i e := rfl

/-! `State.latchFwNotice` -/
@[simp] theorem State.latchFwNotice_pending : (s.latchFwNotice).pending = s.pending := rfl
@[simp] theorem State.latchFwNotice_now : (s.latchFwNotice).now = s.now := rfl
@[simp] theorem State.latchFwNotice_free : (s.latchFwNotice).free = s.free := rfl
@[simp] theorem State.latchFwNotice_params : (s.latchFwNotice).params = s.params := rfl
@[simp] theorem State.latchFwNotice_sent : (s.latchFwNotice).sent = s.sent := rfl
@[simp] theorem State.latchFwNotice_ring : (s.latchFwNotice).ring = s.ring := rfl
@[simp] theorem State.latchFwNotice_hk : (s.latchFwNotice).hk = s.hk := rfl
@[simp] theorem State.latchFwNotice_bus : (s.latchFwNotice).bus = s.bus := rfl
@[simp] theorem State.latchFwNotice_pw : (s.latchFwNotice).pw = s.pw := rfl
@[simp] theorem State.latchFwNotice_cq : (s.latchFwNotice).cq = s.cq := rfl
@[simp] theorem State.latchFwNotice_cam : (s.latchFwNotice).cam = s.cam := rfl
@[simp] theorem State.latchFwNotice_pipes : (s.latchFwNotice).pipes = s.pipes := rfl
@[simp] theorem State.latchFwNotice_colour : (s.latchFwNotice).colour = s.colour := rfl
@[simp] theorem State.latchFwNotice_dram : (s.latchFwNotice).dram = s.dram := rfl
@[simp] theorem State.latchFwNotice_cxl : (s.latchFwNotice).cxl = s.cxl := rfl
@[simp] theorem State.latchFwNotice_cv : (s.latchFwNotice).cv = s.cv := rfl
@[simp] theorem State.latchFwNotice_mw : (s.latchFwNotice).mw = s.mw := rfl
@[simp] theorem State.latchFwNotice_ln : (s.latchFwNotice).ln = s.ln := rfl
@[simp] theorem State.latchFwNotice_fr : (s.latchFwNotice).fr = s.fr := rfl
@[simp] theorem State.latchFwNotice_vc : (s.latchFwNotice).vc = s.vc := rfl
@[simp] theorem State.latchFwNotice_au : (s.latchFwNotice).au = s.au := rfl
@[simp] theorem State.latchFwNotice_getP (i e : Nat) : (s.latchFwNotice).getP i e = s.getP i e := rfl

/-! `State.setPartner` -/
@[simp] theorem State.setPartner_pending (p : PartnerId) (x : Partner) : (s.setPartner p x).pending = s.pending := rfl
@[simp] theorem State.setPartner_now (p : PartnerId) (x : Partner) : (s.setPartner p x).now = s.now := rfl
@[simp] theorem State.setPartner_free (p : PartnerId) (x : Partner) : (s.setPartner p x).free = s.free := rfl
@[simp] theorem State.setPartner_params (p : PartnerId) (x : Partner) : (s.setPartner p x).params = s.params := rfl
@[simp] theorem State.setPartner_sent (p : PartnerId) (x : Partner) : (s.setPartner p x).sent = s.sent := rfl
@[simp] theorem State.setPartner_ring (p : PartnerId) (x : Partner) : (s.setPartner p x).ring = s.ring := rfl
@[simp] theorem State.setPartner_hk (p : PartnerId) (x : Partner) : (s.setPartner p x).hk = s.hk := rfl
@[simp] theorem State.setPartner_bus (p : PartnerId) (x : Partner) : (s.setPartner p x).bus = s.bus := rfl
@[simp] theorem State.setPartner_pw (p : PartnerId) (x : Partner) : (s.setPartner p x).pw = s.pw := rfl
@[simp] theorem State.setPartner_cq (p : PartnerId) (x : Partner) : (s.setPartner p x).cq = s.cq := rfl
@[simp] theorem State.setPartner_cam (p : PartnerId) (x : Partner) : (s.setPartner p x).cam = s.cam := rfl
@[simp] theorem State.setPartner_pipes (p : PartnerId) (x : Partner) : (s.setPartner p x).pipes = s.pipes := rfl
@[simp] theorem State.setPartner_colour (p : PartnerId) (x : Partner) : (s.setPartner p x).colour = s.colour := rfl
@[simp] theorem State.setPartner_dram (p : PartnerId) (x : Partner) : (s.setPartner p x).dram = s.dram := rfl
@[simp] theorem State.setPartner_cxl (p : PartnerId) (x : Partner) : (s.setPartner p x).cxl = s.cxl := rfl
@[simp] theorem State.setPartner_cv (p : PartnerId) (x : Partner) : (s.setPartner p x).cv = s.cv := rfl
@[simp] theorem State.setPartner_mw (p : PartnerId) (x : Partner) : (s.setPartner p x).mw = s.mw := rfl
@[simp] theorem State.setPartner_ln (p : PartnerId) (x : Partner) : (s.setPartner p x).ln = s.ln := rfl
@[simp] theorem State.setPartner_fr (p : PartnerId) (x : Partner) : (s.setPartner p x).fr = s.fr := rfl
@[simp] theorem State.setPartner_vc (p : PartnerId) (x : Partner) : (s.setPartner p x).vc = s.vc := rfl
@[simp] theorem State.setPartner_au (p : PartnerId) (x : Partner) : (s.setPartner p x).au = s.au := rfl
@[simp] theorem State.setPartner_getP (p : PartnerId) (x : Partner) (i e : Nat) : (s.setPartner p x).getP i e = s.getP i e := rfl

/-! `State.startFlight` -/
@[simp] theorem State.startFlight_pending (tk : Nat) : (s.startFlight tk).pending = s.pending := rfl
@[simp] theorem State.startFlight_now (tk : Nat) : (s.startFlight tk).now = s.now := rfl
@[simp] theorem State.startFlight_free (tk : Nat) : (s.startFlight tk).free = s.free := rfl
@[simp] theorem State.startFlight_params (tk : Nat) : (s.startFlight tk).params = s.params := rfl
@[simp] theorem State.startFlight_sent (tk : Nat) : (s.startFlight tk).sent = s.sent := rfl
@[simp] theorem State.startFlight_ring (tk : Nat) : (s.startFlight tk).ring = s.ring := rfl
@[simp] theorem State.startFlight_hk (tk : Nat) : (s.startFlight tk).hk = s.hk := rfl
@[simp] theorem State.startFlight_bus (tk : Nat) : (s.startFlight tk).bus = s.bus := rfl
@[simp] theorem State.startFlight_pw (tk : Nat) : (s.startFlight tk).pw = s.pw := rfl
@[simp] theorem State.startFlight_cq (tk : Nat) : (s.startFlight tk).cq = s.cq := rfl
@[simp] theorem State.startFlight_cam (tk : Nat) : (s.startFlight tk).cam = s.cam := rfl
@[simp] theorem State.startFlight_pipes (tk : Nat) : (s.startFlight tk).pipes = s.pipes := rfl
@[simp] theorem State.startFlight_colour (tk : Nat) : (s.startFlight tk).colour = s.colour := rfl
@[simp] theorem State.startFlight_dram (tk : Nat) : (s.startFlight tk).dram = s.dram := rfl
@[simp] theorem State.startFlight_cxl (tk : Nat) : (s.startFlight tk).cxl = s.cxl := rfl
@[simp] theorem State.startFlight_cv (tk : Nat) : (s.startFlight tk).cv = s.cv := rfl
@[simp] theorem State.startFlight_mw (tk : Nat) : (s.startFlight tk).mw = s.mw := rfl
@[simp] theorem State.startFlight_ln (tk : Nat) : (s.startFlight tk).ln = s.ln := rfl
@[simp] theorem State.startFlight_fr (tk : Nat) : (s.startFlight tk).fr = s.fr := rfl
@[simp] theorem State.startFlight_vc (tk : Nat) : (s.startFlight tk).vc = s.vc := rfl
@[simp] theorem State.startFlight_au (tk : Nat) : (s.startFlight tk).au = s.au := rfl
@[simp] theorem State.startFlight_getP (tk : Nat) (i e : Nat) : (s.startFlight tk).getP i e = s.getP i e := rfl

/-! `State.writeReply` -/
@[simp] theorem State.writeReply_pending (w slot : Nat) (r : Reply) : (s.writeReply w slot r).pending = s.pending := rfl
@[simp] theorem State.writeReply_now (w slot : Nat) (r : Reply) : (s.writeReply w slot r).now = s.now := rfl
@[simp] theorem State.writeReply_free (w slot : Nat) (r : Reply) : (s.writeReply w slot r).free = s.free := rfl
@[simp] theorem State.writeReply_params (w slot : Nat) (r : Reply) : (s.writeReply w slot r).params = s.params := rfl
@[simp] theorem State.writeReply_sent (w slot : Nat) (r : Reply) : (s.writeReply w slot r).sent = s.sent := rfl
@[simp] theorem State.writeReply_ring (w slot : Nat) (r : Reply) : (s.writeReply w slot r).ring = s.ring := rfl
@[simp] theorem State.writeReply_hk (w slot : Nat) (r : Reply) : (s.writeReply w slot r).hk = s.hk := rfl
@[simp] theorem State.writeReply_bus (w slot : Nat) (r : Reply) : (s.writeReply w slot r).bus = s.bus := rfl
@[simp] theorem State.writeReply_pw (w slot : Nat) (r : Reply) : (s.writeReply w slot r).pw = s.pw := rfl
@[simp] theorem State.writeReply_cq (w slot : Nat) (r : Reply) : (s.writeReply w slot r).cq = s.cq := rfl
@[simp] theorem State.writeReply_cam (w slot : Nat) (r : Reply) : (s.writeReply w slot r).cam = s.cam := rfl
@[simp] theorem State.writeReply_pipes (w slot : Nat) (r : Reply) : (s.writeReply w slot r).pipes = s.pipes := rfl
@[simp] theorem State.writeReply_colour (w slot : Nat) (r : Reply) : (s.writeReply w slot r).colour = s.colour := rfl
@[simp] theorem State.writeReply_dram (w slot : Nat) (r : Reply) : (s.writeReply w slot r).dram = s.dram := rfl
@[simp] theorem State.writeReply_cxl (w slot : Nat) (r : Reply) : (s.writeReply w slot r).cxl = s.cxl := rfl
@[simp] theorem State.writeReply_cv (w slot : Nat) (r : Reply) : (s.writeReply w slot r).cv = s.cv := rfl
@[simp] theorem State.writeReply_mw (w slot : Nat) (r : Reply) : (s.writeReply w slot r).mw = s.mw := rfl
@[simp] theorem State.writeReply_ln (w slot : Nat) (r : Reply) : (s.writeReply w slot r).ln = s.ln := rfl
@[simp] theorem State.writeReply_fr (w slot : Nat) (r : Reply) : (s.writeReply w slot r).fr = s.fr := rfl
@[simp] theorem State.writeReply_vc (w slot : Nat) (r : Reply) : (s.writeReply w slot r).vc = s.vc := rfl
@[simp] theorem State.writeReply_au (w slot : Nat) (r : Reply) : (s.writeReply w slot r).au = s.au := rfl
@[simp] theorem State.writeReply_getP (w slot : Nat) (r : Reply) (i e : Nat) : (s.writeReply w slot r).getP i e = s.getP i e := rfl

/-! `State.setPipe` -/
@[simp] theorem State.setPipe_pending (p : Nat) (x : Pipe) : (s.setPipe p x).pending = s.pending := rfl
@[simp] theorem State.setPipe_now (p : Nat) (x : Pipe) : (s.setPipe p x).now = s.now := rfl
@[simp] theorem State.setPipe_free (p : Nat) (x : Pipe) : (s.setPipe p x).free = s.free := rfl
@[simp] theorem State.setPipe_params (p : Nat) (x : Pipe) : (s.setPipe p x).params = s.params := rfl
@[simp] theorem State.setPipe_sent (p : Nat) (x : Pipe) : (s.setPipe p x).sent = s.sent := rfl
@[simp] theorem State.setPipe_ctl (p : Nat) (x : Pipe) : (s.setPipe p x).ctl = s.ctl := rfl
@[simp] theorem State.setPipe_ring (p : Nat) (x : Pipe) : (s.setPipe p x).ring = s.ring := rfl
@[simp] theorem State.setPipe_hk (p : Nat) (x : Pipe) : (s.setPipe p x).hk = s.hk := rfl
@[simp] theorem State.setPipe_bus (p : Nat) (x : Pipe) : (s.setPipe p x).bus = s.bus := rfl
@[simp] theorem State.setPipe_pw (p : Nat) (x : Pipe) : (s.setPipe p x).pw = s.pw := rfl
@[simp] theorem State.setPipe_cq (p : Nat) (x : Pipe) : (s.setPipe p x).cq = s.cq := rfl
@[simp] theorem State.setPipe_cam (p : Nat) (x : Pipe) : (s.setPipe p x).cam = s.cam := rfl
@[simp] theorem State.setPipe_colour (p : Nat) (x : Pipe) : (s.setPipe p x).colour = s.colour := rfl
@[simp] theorem State.setPipe_dram (p : Nat) (x : Pipe) : (s.setPipe p x).dram = s.dram := rfl
@[simp] theorem State.setPipe_cxl (p : Nat) (x : Pipe) : (s.setPipe p x).cxl = s.cxl := rfl
@[simp] theorem State.setPipe_cv (p : Nat) (x : Pipe) : (s.setPipe p x).cv = s.cv := rfl
@[simp] theorem State.setPipe_mw (p : Nat) (x : Pipe) : (s.setPipe p x).mw = s.mw := rfl
@[simp] theorem State.setPipe_ln (p : Nat) (x : Pipe) : (s.setPipe p x).ln = s.ln := rfl
@[simp] theorem State.setPipe_fr (p : Nat) (x : Pipe) : (s.setPipe p x).fr = s.fr := rfl
@[simp] theorem State.setPipe_vc (p : Nat) (x : Pipe) : (s.setPipe p x).vc = s.vc := rfl
@[simp] theorem State.setPipe_au (p : Nat) (x : Pipe) : (s.setPipe p x).au = s.au := rfl
@[simp] theorem State.setPipe_getP (p : Nat) (x : Pipe) (i e : Nat) : (s.setPipe p x).getP i e = s.getP i e := rfl
@[simp] theorem State.setPipe_win (p : Nat) (x : Pipe) (w' : Nat) : (s.setPipe p x).win w' = s.win w' := rfl

/-! `State.modPipe` -/
@[simp] theorem State.modPipe_pending (p : Nat) (f : Pipe → Pipe) : (s.modPipe p f).pending = s.pending := rfl
@[simp] theorem State.modPipe_now (p : Nat) (f : Pipe → Pipe) : (s.modPipe p f).now = s.now := rfl
@[simp] theorem State.modPipe_free (p : Nat) (f : Pipe → Pipe) : (s.modPipe p f).free = s.free := rfl
@[simp] theorem State.modPipe_params (p : Nat) (f : Pipe → Pipe) : (s.modPipe p f).params = s.params := rfl
@[simp] theorem State.modPipe_sent (p : Nat) (f : Pipe → Pipe) : (s.modPipe p f).sent = s.sent := rfl
@[simp] theorem State.modPipe_ctl (p : Nat) (f : Pipe → Pipe) : (s.modPipe p f).ctl = s.ctl := rfl
@[simp] theorem State.modPipe_ring (p : Nat) (f : Pipe → Pipe) : (s.modPipe p f).ring = s.ring := rfl
@[simp] theorem State.modPipe_hk (p : Nat) (f : Pipe → Pipe) : (s.modPipe p f).hk = s.hk := rfl
@[simp] theorem State.modPipe_bus (p : Nat) (f : Pipe → Pipe) : (s.modPipe p f).bus = s.bus := rfl
@[simp] theorem State.modPipe_pw (p : Nat) (f : Pipe → Pipe) : (s.modPipe p f).pw = s.pw := rfl
@[simp] theorem State.modPipe_cq (p : Nat) (f : Pipe → Pipe) : (s.modPipe p f).cq = s.cq := rfl
@[simp] theorem State.modPipe_cam (p : Nat) (f : Pipe → Pipe) : (s.modPipe p f).cam = s.cam := rfl
@[simp] theorem State.modPipe_colour (p : Nat) (f : Pipe → Pipe) : (s.modPipe p f).colour = s.colour := rfl
@[simp] theorem State.modPipe_dram (p : Nat) (f : Pipe → Pipe) : (s.modPipe p f).dram = s.dram := rfl
@[simp] theorem State.modPipe_cxl (p : Nat) (f : Pipe → Pipe) : (s.modPipe p f).cxl = s.cxl := rfl
@[simp] theorem State.modPipe_cv (p : Nat) (f : Pipe → Pipe) : (s.modPipe p f).cv = s.cv := rfl
@[simp] theorem State.modPipe_mw (p : Nat) (f : Pipe → Pipe) : (s.modPipe p f).mw = s.mw := rfl
@[simp] theorem State.modPipe_ln (p : Nat) (f : Pipe → Pipe) : (s.modPipe p f).ln = s.ln := rfl
@[simp] theorem State.modPipe_fr (p : Nat) (f : Pipe → Pipe) : (s.modPipe p f).fr = s.fr := rfl
@[simp] theorem State.modPipe_vc (p : Nat) (f : Pipe → Pipe) : (s.modPipe p f).vc = s.vc := rfl
@[simp] theorem State.modPipe_au (p : Nat) (f : Pipe → Pipe) : (s.modPipe p f).au = s.au := rfl
@[simp] theorem State.modPipe_getP (p : Nat) (f : Pipe → Pipe) (i e : Nat) : (s.modPipe p f).getP i e = s.getP i e := rfl
@[simp] theorem State.modPipe_win (p : Nat) (f : Pipe → Pipe) (w' : Nat) : (s.modPipe p f).win w' = s.win w' := rfl

/-! `State.setSensor` -/
@[simp] theorem State.setSensor_pending (k : Nat) (x : Sensor) : (s.setSensor k x).pending = s.pending := rfl
@[simp] theorem State.setSensor_now (k : Nat) (x : Sensor) : (s.setSensor k x).now = s.now := rfl
@[simp] theorem State.setSensor_free (k : Nat) (x : Sensor) : (s.setSensor k x).free = s.free := rfl
@[simp] theorem State.setSensor_params (k : Nat) (x : Sensor) : (s.setSensor k x).params = s.params := rfl
@[simp] theorem State.setSensor_sent (k : Nat) (x : Sensor) : (s.setSensor k x).sent = s.sent := rfl
@[simp] theorem State.setSensor_ctl (k : Nat) (x : Sensor) : (s.setSensor k x).ctl = s.ctl := rfl
@[simp] theorem State.setSensor_ring (k : Nat) (x : Sensor) : (s.setSensor k x).ring = s.ring := rfl
@[simp] theorem State.setSensor_hk (k : Nat) (x : Sensor) : (s.setSensor k x).hk = s.hk := rfl
@[simp] theorem State.setSensor_bus (k : Nat) (x : Sensor) : (s.setSensor k x).bus = s.bus := rfl
@[simp] theorem State.setSensor_pw (k : Nat) (x : Sensor) : (s.setSensor k x).pw = s.pw := rfl
@[simp] theorem State.setSensor_cq (k : Nat) (x : Sensor) : (s.setSensor k x).cq = s.cq := rfl
@[simp] theorem State.setSensor_pipes (k : Nat) (x : Sensor) : (s.setSensor k x).pipes = s.pipes := rfl
@[simp] theorem State.setSensor_colour (k : Nat) (x : Sensor) : (s.setSensor k x).colour = s.colour := rfl
@[simp] theorem State.setSensor_dram (k : Nat) (x : Sensor) : (s.setSensor k x).dram = s.dram := rfl
@[simp] theorem State.setSensor_cxl (k : Nat) (x : Sensor) : (s.setSensor k x).cxl = s.cxl := rfl
@[simp] theorem State.setSensor_cv (k : Nat) (x : Sensor) : (s.setSensor k x).cv = s.cv := rfl
@[simp] theorem State.setSensor_mw (k : Nat) (x : Sensor) : (s.setSensor k x).mw = s.mw := rfl
@[simp] theorem State.setSensor_ln (k : Nat) (x : Sensor) : (s.setSensor k x).ln = s.ln := rfl
@[simp] theorem State.setSensor_fr (k : Nat) (x : Sensor) : (s.setSensor k x).fr = s.fr := rfl
@[simp] theorem State.setSensor_vc (k : Nat) (x : Sensor) : (s.setSensor k x).vc = s.vc := rfl
@[simp] theorem State.setSensor_au (k : Nat) (x : Sensor) : (s.setSensor k x).au = s.au := rfl
@[simp] theorem State.setSensor_getP (k : Nat) (x : Sensor) (i e : Nat) : (s.setSensor k x).getP i e = s.getP i e := rfl
@[simp] theorem State.setSensor_win (k : Nat) (x : Sensor) (w' : Nat) : (s.setSensor k x).win w' = s.win w' := rfl

/-! `State.modSensor` -/
@[simp] theorem State.modSensor_pending (k : Nat) (f : Sensor → Sensor) : (s.modSensor k f).pending = s.pending := rfl
@[simp] theorem State.modSensor_now (k : Nat) (f : Sensor → Sensor) : (s.modSensor k f).now = s.now := rfl
@[simp] theorem State.modSensor_free (k : Nat) (f : Sensor → Sensor) : (s.modSensor k f).free = s.free := rfl
@[simp] theorem State.modSensor_params (k : Nat) (f : Sensor → Sensor) : (s.modSensor k f).params = s.params := rfl
@[simp] theorem State.modSensor_sent (k : Nat) (f : Sensor → Sensor) : (s.modSensor k f).sent = s.sent := rfl
@[simp] theorem State.modSensor_ctl (k : Nat) (f : Sensor → Sensor) : (s.modSensor k f).ctl = s.ctl := rfl
@[simp] theorem State.modSensor_ring (k : Nat) (f : Sensor → Sensor) : (s.modSensor k f).ring = s.ring := rfl
@[simp] theorem State.modSensor_hk (k : Nat) (f : Sensor → Sensor) : (s.modSensor k f).hk = s.hk := rfl
@[simp] theorem State.modSensor_bus (k : Nat) (f : Sensor → Sensor) : (s.modSensor k f).bus = s.bus := rfl
@[simp] theorem State.modSensor_pw (k : Nat) (f : Sensor → Sensor) : (s.modSensor k f).pw = s.pw := rfl
@[simp] theorem State.modSensor_cq (k : Nat) (f : Sensor → Sensor) : (s.modSensor k f).cq = s.cq := rfl
@[simp] theorem State.modSensor_pipes (k : Nat) (f : Sensor → Sensor) : (s.modSensor k f).pipes = s.pipes := rfl
@[simp] theorem State.modSensor_colour (k : Nat) (f : Sensor → Sensor) : (s.modSensor k f).colour = s.colour := rfl
@[simp] theorem State.modSensor_dram (k : Nat) (f : Sensor → Sensor) : (s.modSensor k f).dram = s.dram := rfl
@[simp] theorem State.modSensor_cxl (k : Nat) (f : Sensor → Sensor) : (s.modSensor k f).cxl = s.cxl := rfl
@[simp] theorem State.modSensor_cv (k : Nat) (f : Sensor → Sensor) : (s.modSensor k f).cv = s.cv := rfl
@[simp] theorem State.modSensor_mw (k : Nat) (f : Sensor → Sensor) : (s.modSensor k f).mw = s.mw := rfl
@[simp] theorem State.modSensor_ln (k : Nat) (f : Sensor → Sensor) : (s.modSensor k f).ln = s.ln := rfl
@[simp] theorem State.modSensor_fr (k : Nat) (f : Sensor → Sensor) : (s.modSensor k f).fr = s.fr := rfl
@[simp] theorem State.modSensor_vc (k : Nat) (f : Sensor → Sensor) : (s.modSensor k f).vc = s.vc := rfl
@[simp] theorem State.modSensor_au (k : Nat) (f : Sensor → Sensor) : (s.modSensor k f).au = s.au := rfl
@[simp] theorem State.modSensor_getP (k : Nat) (f : Sensor → Sensor) (i e : Nat) : (s.modSensor k f).getP i e = s.getP i e := rfl
@[simp] theorem State.modSensor_win (k : Nat) (f : Sensor → Sensor) (w' : Nat) : (s.modSensor k f).win w' = s.win w' := rfl

/-! `State.setGroup` -/
@[simp] theorem State.setGroup_pending (g : Nat) (x : CamGroup) : (s.setGroup g x).pending = s.pending := rfl
@[simp] theorem State.setGroup_now (g : Nat) (x : CamGroup) : (s.setGroup g x).now = s.now := rfl
@[simp] theorem State.setGroup_free (g : Nat) (x : CamGroup) : (s.setGroup g x).free = s.free := rfl
@[simp] theorem State.setGroup_params (g : Nat) (x : CamGroup) : (s.setGroup g x).params = s.params := rfl
@[simp] theorem State.setGroup_sent (g : Nat) (x : CamGroup) : (s.setGroup g x).sent = s.sent := rfl
@[simp] theorem State.setGroup_ctl (g : Nat) (x : CamGroup) : (s.setGroup g x).ctl = s.ctl := rfl
@[simp] theorem State.setGroup_ring (g : Nat) (x : CamGroup) : (s.setGroup g x).ring = s.ring := rfl
@[simp] theorem State.setGroup_hk (g : Nat) (x : CamGroup) : (s.setGroup g x).hk = s.hk := rfl
@[simp] theorem State.setGroup_bus (g : Nat) (x : CamGroup) : (s.setGroup g x).bus = s.bus := rfl
@[simp] theorem State.setGroup_pw (g : Nat) (x : CamGroup) : (s.setGroup g x).pw = s.pw := rfl
@[simp] theorem State.setGroup_cq (g : Nat) (x : CamGroup) : (s.setGroup g x).cq = s.cq := rfl
@[simp] theorem State.setGroup_pipes (g : Nat) (x : CamGroup) : (s.setGroup g x).pipes = s.pipes := rfl
@[simp] theorem State.setGroup_colour (g : Nat) (x : CamGroup) : (s.setGroup g x).colour = s.colour := rfl
@[simp] theorem State.setGroup_dram (g : Nat) (x : CamGroup) : (s.setGroup g x).dram = s.dram := rfl
@[simp] theorem State.setGroup_cxl (g : Nat) (x : CamGroup) : (s.setGroup g x).cxl = s.cxl := rfl
@[simp] theorem State.setGroup_cv (g : Nat) (x : CamGroup) : (s.setGroup g x).cv = s.cv := rfl
@[simp] theorem State.setGroup_mw (g : Nat) (x : CamGroup) : (s.setGroup g x).mw = s.mw := rfl
@[simp] theorem State.setGroup_ln (g : Nat) (x : CamGroup) : (s.setGroup g x).ln = s.ln := rfl
@[simp] theorem State.setGroup_fr (g : Nat) (x : CamGroup) : (s.setGroup g x).fr = s.fr := rfl
@[simp] theorem State.setGroup_vc (g : Nat) (x : CamGroup) : (s.setGroup g x).vc = s.vc := rfl
@[simp] theorem State.setGroup_au (g : Nat) (x : CamGroup) : (s.setGroup g x).au = s.au := rfl
@[simp] theorem State.setGroup_getP (g : Nat) (x : CamGroup) (i e : Nat) : (s.setGroup g x).getP i e = s.getP i e := rfl
@[simp] theorem State.setGroup_win (g : Nat) (x : CamGroup) (w' : Nat) : (s.setGroup g x).win w' = s.win w' := rfl

/-! `State.modGroup` -/
@[simp] theorem State.modGroup_pending (g : Nat) (f : CamGroup → CamGroup) : (s.modGroup g f).pending = s.pending := rfl
@[simp] theorem State.modGroup_now (g : Nat) (f : CamGroup → CamGroup) : (s.modGroup g f).now = s.now := rfl
@[simp] theorem State.modGroup_free (g : Nat) (f : CamGroup → CamGroup) : (s.modGroup g f).free = s.free := rfl
@[simp] theorem State.modGroup_params (g : Nat) (f : CamGroup → CamGroup) : (s.modGroup g f).params = s.params := rfl
@[simp] theorem State.modGroup_sent (g : Nat) (f : CamGroup → CamGroup) : (s.modGroup g f).sent = s.sent := rfl
@[simp] theorem State.modGroup_ctl (g : Nat) (f : CamGroup → CamGroup) : (s.modGroup g f).ctl = s.ctl := rfl
@[simp] theorem State.modGroup_ring (g : Nat) (f : CamGroup → CamGroup) : (s.modGroup g f).ring = s.ring := rfl
@[simp] theorem State.modGroup_hk (g : Nat) (f : CamGroup → CamGroup) : (s.modGroup g f).hk = s.hk := rfl
@[simp] theorem State.modGroup_bus (g : Nat) (f : CamGroup → CamGroup) : (s.modGroup g f).bus = s.bus := rfl
@[simp] theorem State.modGroup_pw (g : Nat) (f : CamGroup → CamGroup) : (s.modGroup g f).pw = s.pw := rfl
@[simp] theorem State.modGroup_cq (g : Nat) (f : CamGroup → CamGroup) : (s.modGroup g f).cq = s.cq := rfl
@[simp] theorem State.modGroup_pipes (g : Nat) (f : CamGroup → CamGroup) : (s.modGroup g f).pipes = s.pipes := rfl
@[simp] theorem State.modGroup_colour (g : Nat) (f : CamGroup → CamGroup) : (s.modGroup g f).colour = s.colour := rfl
@[simp] theorem State.modGroup_dram (g : Nat) (f : CamGroup → CamGroup) : (s.modGroup g f).dram = s.dram := rfl
@[simp] theorem State.modGroup_cxl (g : Nat) (f : CamGroup → CamGroup) : (s.modGroup g f).cxl = s.cxl := rfl
@[simp] theorem State.modGroup_cv (g : Nat) (f : CamGroup → CamGroup) : (s.modGroup g f).cv = s.cv := rfl
@[simp] theorem State.modGroup_mw (g : Nat) (f : CamGroup → CamGroup) : (s.modGroup g f).mw = s.mw := rfl
@[simp] theorem State.modGroup_ln (g : Nat) (f : CamGroup → CamGroup) : (s.modGroup g f).ln = s.ln := rfl
@[simp] theorem State.modGroup_fr (g : Nat) (f : CamGroup → CamGroup) : (s.modGroup g f).fr = s.fr := rfl
@[simp] theorem State.modGroup_vc (g : Nat) (f : CamGroup → CamGroup) : (s.modGroup g f).vc = s.vc := rfl
@[simp] theorem State.modGroup_au (g : Nat) (f : CamGroup → CamGroup) : (s.modGroup g f).au = s.au := rfl
@[simp] theorem State.modGroup_getP (g : Nat) (f : CamGroup → CamGroup) (i e : Nat) : (s.modGroup g f).getP i e = s.getP i e := rfl
@[simp] theorem State.modGroup_win (g : Nat) (f : CamGroup → CamGroup) (w' : Nat) : (s.modGroup g f).win w' = s.win w' := rfl

/-! `State.setCanvas` -/
@[simp] theorem State.setCanvas_pending (c : Nat) (x : Canvas) : (s.setCanvas c x).pending = s.pending := rfl
@[simp] theorem State.setCanvas_now (c : Nat) (x : Canvas) : (s.setCanvas c x).now = s.now := rfl
@[simp] theorem State.setCanvas_free (c : Nat) (x : Canvas) : (s.setCanvas c x).free = s.free := rfl
@[simp] theorem State.setCanvas_params (c : Nat) (x : Canvas) : (s.setCanvas c x).params = s.params := rfl
@[simp] theorem State.setCanvas_sent (c : Nat) (x : Canvas) : (s.setCanvas c x).sent = s.sent := rfl
@[simp] theorem State.setCanvas_ctl (c : Nat) (x : Canvas) : (s.setCanvas c x).ctl = s.ctl := rfl
@[simp] theorem State.setCanvas_ring (c : Nat) (x : Canvas) : (s.setCanvas c x).ring = s.ring := rfl
@[simp] theorem State.setCanvas_hk (c : Nat) (x : Canvas) : (s.setCanvas c x).hk = s.hk := rfl
@[simp] theorem State.setCanvas_bus (c : Nat) (x : Canvas) : (s.setCanvas c x).bus = s.bus := rfl
@[simp] theorem State.setCanvas_pw (c : Nat) (x : Canvas) : (s.setCanvas c x).pw = s.pw := rfl
@[simp] theorem State.setCanvas_cq (c : Nat) (x : Canvas) : (s.setCanvas c x).cq = s.cq := rfl
@[simp] theorem State.setCanvas_cam (c : Nat) (x : Canvas) : (s.setCanvas c x).cam = s.cam := rfl
@[simp] theorem State.setCanvas_pipes (c : Nat) (x : Canvas) : (s.setCanvas c x).pipes = s.pipes := rfl
@[simp] theorem State.setCanvas_colour (c : Nat) (x : Canvas) : (s.setCanvas c x).colour = s.colour := rfl
@[simp] theorem State.setCanvas_dram (c : Nat) (x : Canvas) : (s.setCanvas c x).dram = s.dram := rfl
@[simp] theorem State.setCanvas_cxl (c : Nat) (x : Canvas) : (s.setCanvas c x).cxl = s.cxl := rfl
@[simp] theorem State.setCanvas_mw (c : Nat) (x : Canvas) : (s.setCanvas c x).mw = s.mw := rfl
@[simp] theorem State.setCanvas_ln (c : Nat) (x : Canvas) : (s.setCanvas c x).ln = s.ln := rfl
@[simp] theorem State.setCanvas_fr (c : Nat) (x : Canvas) : (s.setCanvas c x).fr = s.fr := rfl
@[simp] theorem State.setCanvas_vc (c : Nat) (x : Canvas) : (s.setCanvas c x).vc = s.vc := rfl
@[simp] theorem State.setCanvas_au (c : Nat) (x : Canvas) : (s.setCanvas c x).au = s.au := rfl
@[simp] theorem State.setCanvas_getP (c : Nat) (x : Canvas) (i e : Nat) : (s.setCanvas c x).getP i e = s.getP i e := rfl
@[simp] theorem State.setCanvas_win (c : Nat) (x : Canvas) (w' : Nat) : (s.setCanvas c x).win w' = s.win w' := rfl

/-! `State.modCanvas` -/
@[simp] theorem State.modCanvas_pending (c : Nat) (f : Canvas → Canvas) : (s.modCanvas c f).pending = s.pending := rfl
@[simp] theorem State.modCanvas_now (c : Nat) (f : Canvas → Canvas) : (s.modCanvas c f).now = s.now := rfl
@[simp] theorem State.modCanvas_free (c : Nat) (f : Canvas → Canvas) : (s.modCanvas c f).free = s.free := rfl
@[simp] theorem State.modCanvas_params (c : Nat) (f : Canvas → Canvas) : (s.modCanvas c f).params = s.params := rfl
@[simp] theorem State.modCanvas_sent (c : Nat) (f : Canvas → Canvas) : (s.modCanvas c f).sent = s.sent := rfl
@[simp] theorem State.modCanvas_ctl (c : Nat) (f : Canvas → Canvas) : (s.modCanvas c f).ctl = s.ctl := rfl
@[simp] theorem State.modCanvas_ring (c : Nat) (f : Canvas → Canvas) : (s.modCanvas c f).ring = s.ring := rfl
@[simp] theorem State.modCanvas_hk (c : Nat) (f : Canvas → Canvas) : (s.modCanvas c f).hk = s.hk := rfl
@[simp] theorem State.modCanvas_bus (c : Nat) (f : Canvas → Canvas) : (s.modCanvas c f).bus = s.bus := rfl
@[simp] theorem State.modCanvas_pw (c : Nat) (f : Canvas → Canvas) : (s.modCanvas c f).pw = s.pw := rfl
@[simp] theorem State.modCanvas_cq (c : Nat) (f : Canvas → Canvas) : (s.modCanvas c f).cq = s.cq := rfl
@[simp] theorem State.modCanvas_cam (c : Nat) (f : Canvas → Canvas) : (s.modCanvas c f).cam = s.cam := rfl
@[simp] theorem State.modCanvas_pipes (c : Nat) (f : Canvas → Canvas) : (s.modCanvas c f).pipes = s.pipes := rfl
@[simp] theorem State.modCanvas_colour (c : Nat) (f : Canvas → Canvas) : (s.modCanvas c f).colour = s.colour := rfl
@[simp] theorem State.modCanvas_dram (c : Nat) (f : Canvas → Canvas) : (s.modCanvas c f).dram = s.dram := rfl
@[simp] theorem State.modCanvas_cxl (c : Nat) (f : Canvas → Canvas) : (s.modCanvas c f).cxl = s.cxl := rfl
@[simp] theorem State.modCanvas_mw (c : Nat) (f : Canvas → Canvas) : (s.modCanvas c f).mw = s.mw := rfl
@[simp] theorem State.modCanvas_ln (c : Nat) (f : Canvas → Canvas) : (s.modCanvas c f).ln = s.ln := rfl
@[simp] theorem State.modCanvas_fr (c : Nat) (f : Canvas → Canvas) : (s.modCanvas c f).fr = s.fr := rfl
@[simp] theorem State.modCanvas_vc (c : Nat) (f : Canvas → Canvas) : (s.modCanvas c f).vc = s.vc := rfl
@[simp] theorem State.modCanvas_au (c : Nat) (f : Canvas → Canvas) : (s.modCanvas c f).au = s.au := rfl
@[simp] theorem State.modCanvas_getP (c : Nat) (f : Canvas → Canvas) (i e : Nat) : (s.modCanvas c f).getP i e = s.getP i e := rfl
@[simp] theorem State.modCanvas_win (c : Nat) (f : Canvas → Canvas) (w' : Nat) : (s.modCanvas c f).win w' = s.win w' := rfl

/-! `State.setStore` -/
@[simp] theorem State.setStore_pending (p : Nat) (x : Option FrameStore) : (s.setStore p x).pending = s.pending := rfl
@[simp] theorem State.setStore_now (p : Nat) (x : Option FrameStore) : (s.setStore p x).now = s.now := rfl
@[simp] theorem State.setStore_free (p : Nat) (x : Option FrameStore) : (s.setStore p x).free = s.free := rfl
@[simp] theorem State.setStore_params (p : Nat) (x : Option FrameStore) : (s.setStore p x).params = s.params := rfl
@[simp] theorem State.setStore_sent (p : Nat) (x : Option FrameStore) : (s.setStore p x).sent = s.sent := rfl
@[simp] theorem State.setStore_ctl (p : Nat) (x : Option FrameStore) : (s.setStore p x).ctl = s.ctl := rfl
@[simp] theorem State.setStore_ring (p : Nat) (x : Option FrameStore) : (s.setStore p x).ring = s.ring := rfl
@[simp] theorem State.setStore_hk (p : Nat) (x : Option FrameStore) : (s.setStore p x).hk = s.hk := rfl
@[simp] theorem State.setStore_bus (p : Nat) (x : Option FrameStore) : (s.setStore p x).bus = s.bus := rfl
@[simp] theorem State.setStore_pw (p : Nat) (x : Option FrameStore) : (s.setStore p x).pw = s.pw := rfl
@[simp] theorem State.setStore_cq (p : Nat) (x : Option FrameStore) : (s.setStore p x).cq = s.cq := rfl
@[simp] theorem State.setStore_cam (p : Nat) (x : Option FrameStore) : (s.setStore p x).cam = s.cam := rfl
@[simp] theorem State.setStore_pipes (p : Nat) (x : Option FrameStore) : (s.setStore p x).pipes = s.pipes := rfl
@[simp] theorem State.setStore_colour (p : Nat) (x : Option FrameStore) : (s.setStore p x).colour = s.colour := rfl
@[simp] theorem State.setStore_dram (p : Nat) (x : Option FrameStore) : (s.setStore p x).dram = s.dram := rfl
@[simp] theorem State.setStore_cxl (p : Nat) (x : Option FrameStore) : (s.setStore p x).cxl = s.cxl := rfl
@[simp] theorem State.setStore_mw (p : Nat) (x : Option FrameStore) : (s.setStore p x).mw = s.mw := rfl
@[simp] theorem State.setStore_ln (p : Nat) (x : Option FrameStore) : (s.setStore p x).ln = s.ln := rfl
@[simp] theorem State.setStore_fr (p : Nat) (x : Option FrameStore) : (s.setStore p x).fr = s.fr := rfl
@[simp] theorem State.setStore_vc (p : Nat) (x : Option FrameStore) : (s.setStore p x).vc = s.vc := rfl
@[simp] theorem State.setStore_au (p : Nat) (x : Option FrameStore) : (s.setStore p x).au = s.au := rfl
@[simp] theorem State.setStore_getP (p : Nat) (x : Option FrameStore) (i e : Nat) : (s.setStore p x).getP i e = s.getP i e := rfl
@[simp] theorem State.setStore_win (p : Nat) (x : Option FrameStore) (w' : Nat) : (s.setStore p x).win w' = s.win w' := rfl

/-! `State.setProbe` -/
@[simp] theorem State.setProbe_pending (k : Nat) (x : Option Probe) : (s.setProbe k x).pending = s.pending := rfl
@[simp] theorem State.setProbe_now (k : Nat) (x : Option Probe) : (s.setProbe k x).now = s.now := rfl
@[simp] theorem State.setProbe_free (k : Nat) (x : Option Probe) : (s.setProbe k x).free = s.free := rfl
@[simp] theorem State.setProbe_params (k : Nat) (x : Option Probe) : (s.setProbe k x).params = s.params := rfl
@[simp] theorem State.setProbe_sent (k : Nat) (x : Option Probe) : (s.setProbe k x).sent = s.sent := rfl
@[simp] theorem State.setProbe_ctl (k : Nat) (x : Option Probe) : (s.setProbe k x).ctl = s.ctl := rfl
@[simp] theorem State.setProbe_ring (k : Nat) (x : Option Probe) : (s.setProbe k x).ring = s.ring := rfl
@[simp] theorem State.setProbe_hk (k : Nat) (x : Option Probe) : (s.setProbe k x).hk = s.hk := rfl
@[simp] theorem State.setProbe_bus (k : Nat) (x : Option Probe) : (s.setProbe k x).bus = s.bus := rfl
@[simp] theorem State.setProbe_pw (k : Nat) (x : Option Probe) : (s.setProbe k x).pw = s.pw := rfl
@[simp] theorem State.setProbe_cq (k : Nat) (x : Option Probe) : (s.setProbe k x).cq = s.cq := rfl
@[simp] theorem State.setProbe_cam (k : Nat) (x : Option Probe) : (s.setProbe k x).cam = s.cam := rfl
@[simp] theorem State.setProbe_pipes (k : Nat) (x : Option Probe) : (s.setProbe k x).pipes = s.pipes := rfl
@[simp] theorem State.setProbe_dram (k : Nat) (x : Option Probe) : (s.setProbe k x).dram = s.dram := rfl
@[simp] theorem State.setProbe_cxl (k : Nat) (x : Option Probe) : (s.setProbe k x).cxl = s.cxl := rfl
@[simp] theorem State.setProbe_cv (k : Nat) (x : Option Probe) : (s.setProbe k x).cv = s.cv := rfl
@[simp] theorem State.setProbe_mw (k : Nat) (x : Option Probe) : (s.setProbe k x).mw = s.mw := rfl
@[simp] theorem State.setProbe_ln (k : Nat) (x : Option Probe) : (s.setProbe k x).ln = s.ln := rfl
@[simp] theorem State.setProbe_fr (k : Nat) (x : Option Probe) : (s.setProbe k x).fr = s.fr := rfl
@[simp] theorem State.setProbe_vc (k : Nat) (x : Option Probe) : (s.setProbe k x).vc = s.vc := rfl
@[simp] theorem State.setProbe_au (k : Nat) (x : Option Probe) : (s.setProbe k x).au = s.au := rfl
@[simp] theorem State.setProbe_getP (k : Nat) (x : Option Probe) (i e : Nat) : (s.setProbe k x).getP i e = s.getP i e := rfl
@[simp] theorem State.setProbe_win (k : Nat) (x : Option Probe) (w' : Nat) : (s.setProbe k x).win w' = s.win w' := rfl

/-! `State.modTask` -/
@[simp] theorem State.modTask_pending (n : Nat) (f : BgTask → BgTask) : (s.modTask n f).pending = s.pending := rfl
@[simp] theorem State.modTask_now (n : Nat) (f : BgTask → BgTask) : (s.modTask n f).now = s.now := rfl
@[simp] theorem State.modTask_free (n : Nat) (f : BgTask → BgTask) : (s.modTask n f).free = s.free := rfl
@[simp] theorem State.modTask_params (n : Nat) (f : BgTask → BgTask) : (s.modTask n f).params = s.params := rfl
@[simp] theorem State.modTask_sent (n : Nat) (f : BgTask → BgTask) : (s.modTask n f).sent = s.sent := rfl
@[simp] theorem State.modTask_ctl (n : Nat) (f : BgTask → BgTask) : (s.modTask n f).ctl = s.ctl := rfl
@[simp] theorem State.modTask_ring (n : Nat) (f : BgTask → BgTask) : (s.modTask n f).ring = s.ring := rfl
@[simp] theorem State.modTask_bus (n : Nat) (f : BgTask → BgTask) : (s.modTask n f).bus = s.bus := rfl
@[simp] theorem State.modTask_pw (n : Nat) (f : BgTask → BgTask) : (s.modTask n f).pw = s.pw := rfl
@[simp] theorem State.modTask_cq (n : Nat) (f : BgTask → BgTask) : (s.modTask n f).cq = s.cq := rfl
@[simp] theorem State.modTask_cam (n : Nat) (f : BgTask → BgTask) : (s.modTask n f).cam = s.cam := rfl
@[simp] theorem State.modTask_pipes (n : Nat) (f : BgTask → BgTask) : (s.modTask n f).pipes = s.pipes := rfl
@[simp] theorem State.modTask_colour (n : Nat) (f : BgTask → BgTask) : (s.modTask n f).colour = s.colour := rfl
@[simp] theorem State.modTask_dram (n : Nat) (f : BgTask → BgTask) : (s.modTask n f).dram = s.dram := rfl
@[simp] theorem State.modTask_cxl (n : Nat) (f : BgTask → BgTask) : (s.modTask n f).cxl = s.cxl := rfl
@[simp] theorem State.modTask_cv (n : Nat) (f : BgTask → BgTask) : (s.modTask n f).cv = s.cv := rfl
@[simp] theorem State.modTask_mw (n : Nat) (f : BgTask → BgTask) : (s.modTask n f).mw = s.mw := rfl
@[simp] theorem State.modTask_ln (n : Nat) (f : BgTask → BgTask) : (s.modTask n f).ln = s.ln := rfl
@[simp] theorem State.modTask_fr (n : Nat) (f : BgTask → BgTask) : (s.modTask n f).fr = s.fr := rfl
@[simp] theorem State.modTask_vc (n : Nat) (f : BgTask → BgTask) : (s.modTask n f).vc = s.vc := rfl
@[simp] theorem State.modTask_au (n : Nat) (f : BgTask → BgTask) : (s.modTask n f).au = s.au := rfl
@[simp] theorem State.modTask_getP (n : Nat) (f : BgTask → BgTask) (i e : Nat) : (s.modTask n f).getP i e = s.getP i e := rfl
@[simp] theorem State.modTask_win (n : Nat) (f : BgTask → BgTask) (w' : Nat) : (s.modTask n f).win w' = s.win w' := rfl

/-! `State.modLoop` -/
@[simp] theorem State.modLoop_pending (l : Nat) (f : Loop → Loop) : (s.modLoop l f).pending = s.pending := rfl
@[simp] theorem State.modLoop_now (l : Nat) (f : Loop → Loop) : (s.modLoop l f).now = s.now := rfl
@[simp] theorem State.modLoop_free (l : Nat) (f : Loop → Loop) : (s.modLoop l f).free = s.free := rfl
@[simp] theorem State.modLoop_params (l : Nat) (f : Loop → Loop) : (s.modLoop l f).params = s.params := rfl
@[simp] theorem State.modLoop_sent (l : Nat) (f : Loop → Loop) : (s.modLoop l f).sent = s.sent := rfl
@[simp] theorem State.modLoop_ctl (l : Nat) (f : Loop → Loop) : (s.modLoop l f).ctl = s.ctl := rfl
@[simp] theorem State.modLoop_ring (l : Nat) (f : Loop → Loop) : (s.modLoop l f).ring = s.ring := rfl
@[simp] theorem State.modLoop_hk (l : Nat) (f : Loop → Loop) : (s.modLoop l f).hk = s.hk := rfl
@[simp] theorem State.modLoop_bus (l : Nat) (f : Loop → Loop) : (s.modLoop l f).bus = s.bus := rfl
@[simp] theorem State.modLoop_pw (l : Nat) (f : Loop → Loop) : (s.modLoop l f).pw = s.pw := rfl
@[simp] theorem State.modLoop_cq (l : Nat) (f : Loop → Loop) : (s.modLoop l f).cq = s.cq := rfl
@[simp] theorem State.modLoop_cam (l : Nat) (f : Loop → Loop) : (s.modLoop l f).cam = s.cam := rfl
@[simp] theorem State.modLoop_pipes (l : Nat) (f : Loop → Loop) : (s.modLoop l f).pipes = s.pipes := rfl
@[simp] theorem State.modLoop_colour (l : Nat) (f : Loop → Loop) : (s.modLoop l f).colour = s.colour := rfl
@[simp] theorem State.modLoop_dram (l : Nat) (f : Loop → Loop) : (s.modLoop l f).dram = s.dram := rfl
@[simp] theorem State.modLoop_cxl (l : Nat) (f : Loop → Loop) : (s.modLoop l f).cxl = s.cxl := rfl
@[simp] theorem State.modLoop_cv (l : Nat) (f : Loop → Loop) : (s.modLoop l f).cv = s.cv := rfl
@[simp] theorem State.modLoop_ln (l : Nat) (f : Loop → Loop) : (s.modLoop l f).ln = s.ln := rfl
@[simp] theorem State.modLoop_fr (l : Nat) (f : Loop → Loop) : (s.modLoop l f).fr = s.fr := rfl
@[simp] theorem State.modLoop_vc (l : Nat) (f : Loop → Loop) : (s.modLoop l f).vc = s.vc := rfl
@[simp] theorem State.modLoop_au (l : Nat) (f : Loop → Loop) : (s.modLoop l f).au = s.au := rfl
@[simp] theorem State.modLoop_getP (l : Nat) (f : Loop → Loop) (i e : Nat) : (s.modLoop l f).getP i e = s.getP i e := rfl
@[simp] theorem State.modLoop_win (l : Nat) (f : Loop → Loop) (w' : Nat) : (s.modLoop l f).win w' = s.win w' := rfl

/-! `State.modTile` -/
@[simp] theorem State.modTile_pending (l hop : Nat) (f : Tile → Tile) : (s.modTile l hop f).pending = s.pending := rfl
@[simp] theorem State.modTile_now (l hop : Nat) (f : Tile → Tile) : (s.modTile l hop f).now = s.now := rfl
@[simp] theorem State.modTile_free (l hop : Nat) (f : Tile → Tile) : (s.modTile l hop f).free = s.free := rfl
@[simp] theorem State.modTile_params (l hop : Nat) (f : Tile → Tile) : (s.modTile l hop f).params = s.params := rfl
@[simp] theorem State.modTile_sent (l hop : Nat) (f : Tile → Tile) : (s.modTile l hop f).sent = s.sent := rfl
@[simp] theorem State.modTile_ctl (l hop : Nat) (f : Tile → Tile) : (s.modTile l hop f).ctl = s.ctl := rfl
@[simp] theorem State.modTile_ring (l hop : Nat) (f : Tile → Tile) : (s.modTile l hop f).ring = s.ring := rfl
@[simp] theorem State.modTile_hk (l hop : Nat) (f : Tile → Tile) : (s.modTile l hop f).hk = s.hk := rfl
@[simp] theorem State.modTile_bus (l hop : Nat) (f : Tile → Tile) : (s.modTile l hop f).bus = s.bus := rfl
@[simp] theorem State.modTile_pw (l hop : Nat) (f : Tile → Tile) : (s.modTile l hop f).pw = s.pw := rfl
@[simp] theorem State.modTile_cq (l hop : Nat) (f : Tile → Tile) : (s.modTile l hop f).cq = s.cq := rfl
@[simp] theorem State.modTile_cam (l hop : Nat) (f : Tile → Tile) : (s.modTile l hop f).cam = s.cam := rfl
@[simp] theorem State.modTile_pipes (l hop : Nat) (f : Tile → Tile) : (s.modTile l hop f).pipes = s.pipes := rfl
@[simp] theorem State.modTile_colour (l hop : Nat) (f : Tile → Tile) : (s.modTile l hop f).colour = s.colour := rfl
@[simp] theorem State.modTile_dram (l hop : Nat) (f : Tile → Tile) : (s.modTile l hop f).dram = s.dram := rfl
@[simp] theorem State.modTile_cxl (l hop : Nat) (f : Tile → Tile) : (s.modTile l hop f).cxl = s.cxl := rfl
@[simp] theorem State.modTile_cv (l hop : Nat) (f : Tile → Tile) : (s.modTile l hop f).cv = s.cv := rfl
@[simp] theorem State.modTile_ln (l hop : Nat) (f : Tile → Tile) : (s.modTile l hop f).ln = s.ln := rfl
@[simp] theorem State.modTile_fr (l hop : Nat) (f : Tile → Tile) : (s.modTile l hop f).fr = s.fr := rfl
@[simp] theorem State.modTile_vc (l hop : Nat) (f : Tile → Tile) : (s.modTile l hop f).vc = s.vc := rfl
@[simp] theorem State.modTile_au (l hop : Nat) (f : Tile → Tile) : (s.modTile l hop f).au = s.au := rfl
@[simp] theorem State.modTile_getP (l hop : Nat) (f : Tile → Tile) (i e : Nat) : (s.modTile l hop f).getP i e = s.getP i e := rfl
@[simp] theorem State.modTile_win (l hop : Nat) (f : Tile → Tile) (w' : Nat) : (s.modTile l hop f).win w' = s.win w' := rfl

/-! `State.modLink` -/
@[simp] theorem State.modLink_pending (f : PartnerLink → PartnerLink) : (s.modLink f).pending = s.pending := rfl
@[simp] theorem State.modLink_now (f : PartnerLink → PartnerLink) : (s.modLink f).now = s.now := rfl
@[simp] theorem State.modLink_free (f : PartnerLink → PartnerLink) : (s.modLink f).free = s.free := rfl
@[simp] theorem State.modLink_params (f : PartnerLink → PartnerLink) : (s.modLink f).params = s.params := rfl
@[simp] theorem State.modLink_sent (f : PartnerLink → PartnerLink) : (s.modLink f).sent = s.sent := rfl
@[simp] theorem State.modLink_ctl (f : PartnerLink → PartnerLink) : (s.modLink f).ctl = s.ctl := rfl
@[simp] theorem State.modLink_ring (f : PartnerLink → PartnerLink) : (s.modLink f).ring = s.ring := rfl
@[simp] theorem State.modLink_hk (f : PartnerLink → PartnerLink) : (s.modLink f).hk = s.hk := rfl
@[simp] theorem State.modLink_bus (f : PartnerLink → PartnerLink) : (s.modLink f).bus = s.bus := rfl
@[simp] theorem State.modLink_pw (f : PartnerLink → PartnerLink) : (s.modLink f).pw = s.pw := rfl
@[simp] theorem State.modLink_cq (f : PartnerLink → PartnerLink) : (s.modLink f).cq = s.cq := rfl
@[simp] theorem State.modLink_cam (f : PartnerLink → PartnerLink) : (s.modLink f).cam = s.cam := rfl
@[simp] theorem State.modLink_pipes (f : PartnerLink → PartnerLink) : (s.modLink f).pipes = s.pipes := rfl
@[simp] theorem State.modLink_colour (f : PartnerLink → PartnerLink) : (s.modLink f).colour = s.colour := rfl
@[simp] theorem State.modLink_dram (f : PartnerLink → PartnerLink) : (s.modLink f).dram = s.dram := rfl
@[simp] theorem State.modLink_cxl (f : PartnerLink → PartnerLink) : (s.modLink f).cxl = s.cxl := rfl
@[simp] theorem State.modLink_cv (f : PartnerLink → PartnerLink) : (s.modLink f).cv = s.cv := rfl
@[simp] theorem State.modLink_ln (f : PartnerLink → PartnerLink) : (s.modLink f).ln = s.ln := rfl
@[simp] theorem State.modLink_fr (f : PartnerLink → PartnerLink) : (s.modLink f).fr = s.fr := rfl
@[simp] theorem State.modLink_vc (f : PartnerLink → PartnerLink) : (s.modLink f).vc = s.vc := rfl
@[simp] theorem State.modLink_au (f : PartnerLink → PartnerLink) : (s.modLink f).au = s.au := rfl
@[simp] theorem State.modLink_getP (f : PartnerLink → PartnerLink) (i e : Nat) : (s.modLink f).getP i e = s.getP i e := rfl
@[simp] theorem State.modLink_win (f : PartnerLink → PartnerLink) (w' : Nat) : (s.modLink f).win w' = s.win w' := rfl

/-! `State.modLane` -/
@[simp] theorem State.modLane_pending (k : Nat) (f : Lane → Lane) : (s.modLane k f).pending = s.pending := rfl
@[simp] theorem State.modLane_now (k : Nat) (f : Lane → Lane) : (s.modLane k f).now = s.now := rfl
@[simp] theorem State.modLane_free (k : Nat) (f : Lane → Lane) : (s.modLane k f).free = s.free := rfl
@[simp] theorem State.modLane_params (k : Nat) (f : Lane → Lane) : (s.modLane k f).params = s.params := rfl
@[simp] theorem State.modLane_sent (k : Nat) (f : Lane → Lane) : (s.modLane k f).sent = s.sent := rfl
@[simp] theorem State.modLane_ctl (k : Nat) (f : Lane → Lane) : (s.modLane k f).ctl = s.ctl := rfl
@[simp] theorem State.modLane_ring (k : Nat) (f : Lane → Lane) : (s.modLane k f).ring = s.ring := rfl
@[simp] theorem State.modLane_hk (k : Nat) (f : Lane → Lane) : (s.modLane k f).hk = s.hk := rfl
@[simp] theorem State.modLane_bus (k : Nat) (f : Lane → Lane) : (s.modLane k f).bus = s.bus := rfl
@[simp] theorem State.modLane_pw (k : Nat) (f : Lane → Lane) : (s.modLane k f).pw = s.pw := rfl
@[simp] theorem State.modLane_cq (k : Nat) (f : Lane → Lane) : (s.modLane k f).cq = s.cq := rfl
@[simp] theorem State.modLane_cam (k : Nat) (f : Lane → Lane) : (s.modLane k f).cam = s.cam := rfl
@[simp] theorem State.modLane_pipes (k : Nat) (f : Lane → Lane) : (s.modLane k f).pipes = s.pipes := rfl
@[simp] theorem State.modLane_colour (k : Nat) (f : Lane → Lane) : (s.modLane k f).colour = s.colour := rfl
@[simp] theorem State.modLane_dram (k : Nat) (f : Lane → Lane) : (s.modLane k f).dram = s.dram := rfl
@[simp] theorem State.modLane_cxl (k : Nat) (f : Lane → Lane) : (s.modLane k f).cxl = s.cxl := rfl
@[simp] theorem State.modLane_cv (k : Nat) (f : Lane → Lane) : (s.modLane k f).cv = s.cv := rfl
@[simp] theorem State.modLane_mw (k : Nat) (f : Lane → Lane) : (s.modLane k f).mw = s.mw := rfl
@[simp] theorem State.modLane_fr (k : Nat) (f : Lane → Lane) : (s.modLane k f).fr = s.fr := rfl
@[simp] theorem State.modLane_vc (k : Nat) (f : Lane → Lane) : (s.modLane k f).vc = s.vc := rfl
@[simp] theorem State.modLane_au (k : Nat) (f : Lane → Lane) : (s.modLane k f).au = s.au := rfl
@[simp] theorem State.modLane_getP (k : Nat) (f : Lane → Lane) (i e : Nat) : (s.modLane k f).getP i e = s.getP i e := rfl
@[simp] theorem State.modLane_win (k : Nat) (f : Lane → Lane) (w' : Nat) : (s.modLane k f).win w' = s.win w' := rfl

/-! `State.modLaneGroup` -/
@[simp] theorem State.modLaneGroup_pending (g : Nat) (f : LaneGroup → LaneGroup) : (s.modLaneGroup g f).pending = s.pending := rfl
@[simp] theorem State.modLaneGroup_now (g : Nat) (f : LaneGroup → LaneGroup) : (s.modLaneGroup g f).now = s.now := rfl
@[simp] theorem State.modLaneGroup_free (g : Nat) (f : LaneGroup → LaneGroup) : (s.modLaneGroup g f).free = s.free := rfl
@[simp] theorem State.modLaneGroup_params (g : Nat) (f : LaneGroup → LaneGroup) : (s.modLaneGroup g f).params = s.params := rfl
@[simp] theorem State.modLaneGroup_sent (g : Nat) (f : LaneGroup → LaneGroup) : (s.modLaneGroup g f).sent = s.sent := rfl
@[simp] theorem State.modLaneGroup_ctl (g : Nat) (f : LaneGroup → LaneGroup) : (s.modLaneGroup g f).ctl = s.ctl := rfl
@[simp] theorem State.modLaneGroup_ring (g : Nat) (f : LaneGroup → LaneGroup) : (s.modLaneGroup g f).ring = s.ring := rfl
@[simp] theorem State.modLaneGroup_hk (g : Nat) (f : LaneGroup → LaneGroup) : (s.modLaneGroup g f).hk = s.hk := rfl
@[simp] theorem State.modLaneGroup_bus (g : Nat) (f : LaneGroup → LaneGroup) : (s.modLaneGroup g f).bus = s.bus := rfl
@[simp] theorem State.modLaneGroup_pw (g : Nat) (f : LaneGroup → LaneGroup) : (s.modLaneGroup g f).pw = s.pw := rfl
@[simp] theorem State.modLaneGroup_cq (g : Nat) (f : LaneGroup → LaneGroup) : (s.modLaneGroup g f).cq = s.cq := rfl
@[simp] theorem State.modLaneGroup_cam (g : Nat) (f : LaneGroup → LaneGroup) : (s.modLaneGroup g f).cam = s.cam := rfl
@[simp] theorem State.modLaneGroup_pipes (g : Nat) (f : LaneGroup → LaneGroup) : (s.modLaneGroup g f).pipes = s.pipes := rfl
@[simp] theorem State.modLaneGroup_colour (g : Nat) (f : LaneGroup → LaneGroup) : (s.modLaneGroup g f).colour = s.colour := rfl
@[simp] theorem State.modLaneGroup_dram (g : Nat) (f : LaneGroup → LaneGroup) : (s.modLaneGroup g f).dram = s.dram := rfl
@[simp] theorem State.modLaneGroup_cxl (g : Nat) (f : LaneGroup → LaneGroup) : (s.modLaneGroup g f).cxl = s.cxl := rfl
@[simp] theorem State.modLaneGroup_cv (g : Nat) (f : LaneGroup → LaneGroup) : (s.modLaneGroup g f).cv = s.cv := rfl
@[simp] theorem State.modLaneGroup_mw (g : Nat) (f : LaneGroup → LaneGroup) : (s.modLaneGroup g f).mw = s.mw := rfl
@[simp] theorem State.modLaneGroup_fr (g : Nat) (f : LaneGroup → LaneGroup) : (s.modLaneGroup g f).fr = s.fr := rfl
@[simp] theorem State.modLaneGroup_vc (g : Nat) (f : LaneGroup → LaneGroup) : (s.modLaneGroup g f).vc = s.vc := rfl
@[simp] theorem State.modLaneGroup_au (g : Nat) (f : LaneGroup → LaneGroup) : (s.modLaneGroup g f).au = s.au := rfl
@[simp] theorem State.modLaneGroup_getP (g : Nat) (f : LaneGroup → LaneGroup) (i e : Nat) : (s.modLaneGroup g f).getP i e = s.getP i e := rfl
@[simp] theorem State.modLaneGroup_win (g : Nat) (f : LaneGroup → LaneGroup) (w' : Nat) : (s.modLaneGroup g f).win w' = s.win w' := rfl

/-! `State.modExpander` -/
@[simp] theorem State.modExpander_pending (n : Nat) (f : Expander → Expander) : (s.modExpander n f).pending = s.pending := rfl
@[simp] theorem State.modExpander_now (n : Nat) (f : Expander → Expander) : (s.modExpander n f).now = s.now := rfl
@[simp] theorem State.modExpander_free (n : Nat) (f : Expander → Expander) : (s.modExpander n f).free = s.free := rfl
@[simp] theorem State.modExpander_params (n : Nat) (f : Expander → Expander) : (s.modExpander n f).params = s.params := rfl
@[simp] theorem State.modExpander_sent (n : Nat) (f : Expander → Expander) : (s.modExpander n f).sent = s.sent := rfl
@[simp] theorem State.modExpander_ctl (n : Nat) (f : Expander → Expander) : (s.modExpander n f).ctl = s.ctl := rfl
@[simp] theorem State.modExpander_ring (n : Nat) (f : Expander → Expander) : (s.modExpander n f).ring = s.ring := rfl
@[simp] theorem State.modExpander_hk (n : Nat) (f : Expander → Expander) : (s.modExpander n f).hk = s.hk := rfl
@[simp] theorem State.modExpander_bus (n : Nat) (f : Expander → Expander) : (s.modExpander n f).bus = s.bus := rfl
@[simp] theorem State.modExpander_pw (n : Nat) (f : Expander → Expander) : (s.modExpander n f).pw = s.pw := rfl
@[simp] theorem State.modExpander_cq (n : Nat) (f : Expander → Expander) : (s.modExpander n f).cq = s.cq := rfl
@[simp] theorem State.modExpander_cam (n : Nat) (f : Expander → Expander) : (s.modExpander n f).cam = s.cam := rfl
@[simp] theorem State.modExpander_pipes (n : Nat) (f : Expander → Expander) : (s.modExpander n f).pipes = s.pipes := rfl
@[simp] theorem State.modExpander_colour (n : Nat) (f : Expander → Expander) : (s.modExpander n f).colour = s.colour := rfl
@[simp] theorem State.modExpander_dram (n : Nat) (f : Expander → Expander) : (s.modExpander n f).dram = s.dram := rfl
@[simp] theorem State.modExpander_cv (n : Nat) (f : Expander → Expander) : (s.modExpander n f).cv = s.cv := rfl
@[simp] theorem State.modExpander_mw (n : Nat) (f : Expander → Expander) : (s.modExpander n f).mw = s.mw := rfl
@[simp] theorem State.modExpander_ln (n : Nat) (f : Expander → Expander) : (s.modExpander n f).ln = s.ln := rfl
@[simp] theorem State.modExpander_fr (n : Nat) (f : Expander → Expander) : (s.modExpander n f).fr = s.fr := rfl
@[simp] theorem State.modExpander_vc (n : Nat) (f : Expander → Expander) : (s.modExpander n f).vc = s.vc := rfl
@[simp] theorem State.modExpander_au (n : Nat) (f : Expander → Expander) : (s.modExpander n f).au = s.au := rfl
@[simp] theorem State.modExpander_getP (n : Nat) (f : Expander → Expander) (i e : Nat) : (s.modExpander n f).getP i e = s.getP i e := rfl
@[simp] theorem State.modExpander_win (n : Nat) (f : Expander → Expander) (w' : Nat) : (s.modExpander n f).win w' = s.win w' := rfl

/-! `State.modRegion` -/
@[simp] theorem State.modRegion_pending (r : Nat) (f : Region → Region) : (s.modRegion r f).pending = s.pending := rfl
@[simp] theorem State.modRegion_now (r : Nat) (f : Region → Region) : (s.modRegion r f).now = s.now := rfl
@[simp] theorem State.modRegion_free (r : Nat) (f : Region → Region) : (s.modRegion r f).free = s.free := rfl
@[simp] theorem State.modRegion_params (r : Nat) (f : Region → Region) : (s.modRegion r f).params = s.params := rfl
@[simp] theorem State.modRegion_sent (r : Nat) (f : Region → Region) : (s.modRegion r f).sent = s.sent := rfl
@[simp] theorem State.modRegion_ctl (r : Nat) (f : Region → Region) : (s.modRegion r f).ctl = s.ctl := rfl
@[simp] theorem State.modRegion_ring (r : Nat) (f : Region → Region) : (s.modRegion r f).ring = s.ring := rfl
@[simp] theorem State.modRegion_hk (r : Nat) (f : Region → Region) : (s.modRegion r f).hk = s.hk := rfl
@[simp] theorem State.modRegion_bus (r : Nat) (f : Region → Region) : (s.modRegion r f).bus = s.bus := rfl
@[simp] theorem State.modRegion_pw (r : Nat) (f : Region → Region) : (s.modRegion r f).pw = s.pw := rfl
@[simp] theorem State.modRegion_cq (r : Nat) (f : Region → Region) : (s.modRegion r f).cq = s.cq := rfl
@[simp] theorem State.modRegion_cam (r : Nat) (f : Region → Region) : (s.modRegion r f).cam = s.cam := rfl
@[simp] theorem State.modRegion_pipes (r : Nat) (f : Region → Region) : (s.modRegion r f).pipes = s.pipes := rfl
@[simp] theorem State.modRegion_colour (r : Nat) (f : Region → Region) : (s.modRegion r f).colour = s.colour := rfl
@[simp] theorem State.modRegion_dram (r : Nat) (f : Region → Region) : (s.modRegion r f).dram = s.dram := rfl
@[simp] theorem State.modRegion_cv (r : Nat) (f : Region → Region) : (s.modRegion r f).cv = s.cv := rfl
@[simp] theorem State.modRegion_mw (r : Nat) (f : Region → Region) : (s.modRegion r f).mw = s.mw := rfl
@[simp] theorem State.modRegion_ln (r : Nat) (f : Region → Region) : (s.modRegion r f).ln = s.ln := rfl
@[simp] theorem State.modRegion_fr (r : Nat) (f : Region → Region) : (s.modRegion r f).fr = s.fr := rfl
@[simp] theorem State.modRegion_vc (r : Nat) (f : Region → Region) : (s.modRegion r f).vc = s.vc := rfl
@[simp] theorem State.modRegion_au (r : Nat) (f : Region → Region) : (s.modRegion r f).au = s.au := rfl
@[simp] theorem State.modRegion_getP (r : Nat) (f : Region → Region) (i e : Nat) : (s.modRegion r f).getP i e = s.getP i e := rfl
@[simp] theorem State.modRegion_win (r : Nat) (f : Region → Region) (w' : Nat) : (s.modRegion r f).win w' = s.win w' := rfl

/-! `State.modEngine` -/
@[simp] theorem State.modEngine_pending (e : Nat) (f : Engine → Engine) : (s.modEngine e f).pending = s.pending := rfl
@[simp] theorem State.modEngine_now (e : Nat) (f : Engine → Engine) : (s.modEngine e f).now = s.now := rfl
@[simp] theorem State.modEngine_free (e : Nat) (f : Engine → Engine) : (s.modEngine e f).free = s.free := rfl
@[simp] theorem State.modEngine_params (e : Nat) (f : Engine → Engine) : (s.modEngine e f).params = s.params := rfl
@[simp] theorem State.modEngine_sent (e : Nat) (f : Engine → Engine) : (s.modEngine e f).sent = s.sent := rfl
@[simp] theorem State.modEngine_ctl (e : Nat) (f : Engine → Engine) : (s.modEngine e f).ctl = s.ctl := rfl
@[simp] theorem State.modEngine_ring (e : Nat) (f : Engine → Engine) : (s.modEngine e f).ring = s.ring := rfl
@[simp] theorem State.modEngine_hk (e : Nat) (f : Engine → Engine) : (s.modEngine e f).hk = s.hk := rfl
@[simp] theorem State.modEngine_bus (e : Nat) (f : Engine → Engine) : (s.modEngine e f).bus = s.bus := rfl
@[simp] theorem State.modEngine_pw (e : Nat) (f : Engine → Engine) : (s.modEngine e f).pw = s.pw := rfl
@[simp] theorem State.modEngine_cq (e : Nat) (f : Engine → Engine) : (s.modEngine e f).cq = s.cq := rfl
@[simp] theorem State.modEngine_cam (e : Nat) (f : Engine → Engine) : (s.modEngine e f).cam = s.cam := rfl
@[simp] theorem State.modEngine_pipes (e : Nat) (f : Engine → Engine) : (s.modEngine e f).pipes = s.pipes := rfl
@[simp] theorem State.modEngine_colour (e : Nat) (f : Engine → Engine) : (s.modEngine e f).colour = s.colour := rfl
@[simp] theorem State.modEngine_dram (e : Nat) (f : Engine → Engine) : (s.modEngine e f).dram = s.dram := rfl
@[simp] theorem State.modEngine_cxl (e : Nat) (f : Engine → Engine) : (s.modEngine e f).cxl = s.cxl := rfl
@[simp] theorem State.modEngine_cv (e : Nat) (f : Engine → Engine) : (s.modEngine e f).cv = s.cv := rfl
@[simp] theorem State.modEngine_mw (e : Nat) (f : Engine → Engine) : (s.modEngine e f).mw = s.mw := rfl
@[simp] theorem State.modEngine_ln (e : Nat) (f : Engine → Engine) : (s.modEngine e f).ln = s.ln := rfl
@[simp] theorem State.modEngine_fr (e : Nat) (f : Engine → Engine) : (s.modEngine e f).fr = s.fr := rfl
@[simp] theorem State.modEngine_au (e : Nat) (f : Engine → Engine) : (s.modEngine e f).au = s.au := rfl
@[simp] theorem State.modEngine_getP (e : Nat) (f : Engine → Engine) (i e : Nat) : (s.modEngine e f).getP i e = s.getP i e := rfl
@[simp] theorem State.modEngine_win (e : Nat) (f : Engine → Engine) (w' : Nat) : (s.modEngine e f).win w' = s.win w' := rfl

/-! `State.modPort` -/
@[simp] theorem State.modPort_pending (n : Nat) (f : AudioPort → AudioPort) : (s.modPort n f).pending = s.pending := rfl
@[simp] theorem State.modPort_now (n : Nat) (f : AudioPort → AudioPort) : (s.modPort n f).now = s.now := rfl
@[simp] theorem State.modPort_free (n : Nat) (f : AudioPort → AudioPort) : (s.modPort n f).free = s.free := rfl
@[simp] theorem State.modPort_params (n : Nat) (f : AudioPort → AudioPort) : (s.modPort n f).params = s.params := rfl
@[simp] theorem State.modPort_sent (n : Nat) (f : AudioPort → AudioPort) : (s.modPort n f).sent = s.sent := rfl
@[simp] theorem State.modPort_ctl (n : Nat) (f : AudioPort → AudioPort) : (s.modPort n f).ctl = s.ctl := rfl
@[simp] theorem State.modPort_ring (n : Nat) (f : AudioPort → AudioPort) : (s.modPort n f).ring = s.ring := rfl
@[simp] theorem State.modPort_hk (n : Nat) (f : AudioPort → AudioPort) : (s.modPort n f).hk = s.hk := rfl
@[simp] theorem State.modPort_bus (n : Nat) (f : AudioPort → AudioPort) : (s.modPort n f).bus = s.bus := rfl
@[simp] theorem State.modPort_pw (n : Nat) (f : AudioPort → AudioPort) : (s.modPort n f).pw = s.pw := rfl
@[simp] theorem State.modPort_cq (n : Nat) (f : AudioPort → AudioPort) : (s.modPort n f).cq = s.cq := rfl
@[simp] theorem State.modPort_cam (n : Nat) (f : AudioPort → AudioPort) : (s.modPort n f).cam = s.cam := rfl
@[simp] theorem State.modPort_pipes (n : Nat) (f : AudioPort → AudioPort) : (s.modPort n f).pipes = s.pipes := rfl
@[simp] theorem State.modPort_colour (n : Nat) (f : AudioPort → AudioPort) : (s.modPort n f).colour = s.colour := rfl
@[simp] theorem State.modPort_dram (n : Nat) (f : AudioPort → AudioPort) : (s.modPort n f).dram = s.dram := rfl
@[simp] theorem State.modPort_cxl (n : Nat) (f : AudioPort → AudioPort) : (s.modPort n f).cxl = s.cxl := rfl
@[simp] theorem State.modPort_cv (n : Nat) (f : AudioPort → AudioPort) : (s.modPort n f).cv = s.cv := rfl
@[simp] theorem State.modPort_mw (n : Nat) (f : AudioPort → AudioPort) : (s.modPort n f).mw = s.mw := rfl
@[simp] theorem State.modPort_ln (n : Nat) (f : AudioPort → AudioPort) : (s.modPort n f).ln = s.ln := rfl
@[simp] theorem State.modPort_fr (n : Nat) (f : AudioPort → AudioPort) : (s.modPort n f).fr = s.fr := rfl
@[simp] theorem State.modPort_vc (n : Nat) (f : AudioPort → AudioPort) : (s.modPort n f).vc = s.vc := rfl
@[simp] theorem State.modPort_getP (n : Nat) (f : AudioPort → AudioPort) (i e : Nat) : (s.modPort n f).getP i e = s.getP i e := rfl
@[simp] theorem State.modPort_win (n : Nat) (f : AudioPort → AudioPort) (w' : Nat) : (s.modPort n f).win w' = s.win w' := rfl

/-! `State.modDiode` -/
@[simp] theorem State.modDiode_pending (n : Nat) (f : Diode → Diode) : (s.modDiode n f).pending = s.pending := rfl
@[simp] theorem State.modDiode_now (n : Nat) (f : Diode → Diode) : (s.modDiode n f).now = s.now := rfl
@[simp] theorem State.modDiode_free (n : Nat) (f : Diode → Diode) : (s.modDiode n f).free = s.free := rfl
@[simp] theorem State.modDiode_params (n : Nat) (f : Diode → Diode) : (s.modDiode n f).params = s.params := rfl
@[simp] theorem State.modDiode_sent (n : Nat) (f : Diode → Diode) : (s.modDiode n f).sent = s.sent := rfl
@[simp] theorem State.modDiode_ctl (n : Nat) (f : Diode → Diode) : (s.modDiode n f).ctl = s.ctl := rfl
@[simp] theorem State.modDiode_ring (n : Nat) (f : Diode → Diode) : (s.modDiode n f).ring = s.ring := rfl
@[simp] theorem State.modDiode_bus (n : Nat) (f : Diode → Diode) : (s.modDiode n f).bus = s.bus := rfl
@[simp] theorem State.modDiode_pw (n : Nat) (f : Diode → Diode) : (s.modDiode n f).pw = s.pw := rfl
@[simp] theorem State.modDiode_cq (n : Nat) (f : Diode → Diode) : (s.modDiode n f).cq = s.cq := rfl
@[simp] theorem State.modDiode_cam (n : Nat) (f : Diode → Diode) : (s.modDiode n f).cam = s.cam := rfl
@[simp] theorem State.modDiode_pipes (n : Nat) (f : Diode → Diode) : (s.modDiode n f).pipes = s.pipes := rfl
@[simp] theorem State.modDiode_colour (n : Nat) (f : Diode → Diode) : (s.modDiode n f).colour = s.colour := rfl
@[simp] theorem State.modDiode_dram (n : Nat) (f : Diode → Diode) : (s.modDiode n f).dram = s.dram := rfl
@[simp] theorem State.modDiode_cxl (n : Nat) (f : Diode → Diode) : (s.modDiode n f).cxl = s.cxl := rfl
@[simp] theorem State.modDiode_cv (n : Nat) (f : Diode → Diode) : (s.modDiode n f).cv = s.cv := rfl
@[simp] theorem State.modDiode_mw (n : Nat) (f : Diode → Diode) : (s.modDiode n f).mw = s.mw := rfl
@[simp] theorem State.modDiode_ln (n : Nat) (f : Diode → Diode) : (s.modDiode n f).ln = s.ln := rfl
@[simp] theorem State.modDiode_fr (n : Nat) (f : Diode → Diode) : (s.modDiode n f).fr = s.fr := rfl
@[simp] theorem State.modDiode_vc (n : Nat) (f : Diode → Diode) : (s.modDiode n f).vc = s.vc := rfl
@[simp] theorem State.modDiode_au (n : Nat) (f : Diode → Diode) : (s.modDiode n f).au = s.au := rfl
@[simp] theorem State.modDiode_getP (n : Nat) (f : Diode → Diode) (i e : Nat) : (s.modDiode n f).getP i e = s.getP i e := rfl
@[simp] theorem State.modDiode_win (n : Nat) (f : Diode → Diode) (w' : Nat) : (s.modDiode n f).win w' = s.win w' := rfl

/-! `State.setPair` -/
@[simp] theorem State.setPair_pending (w q : Nat) (x : Option Pair) : (s.setPair w q x).pending = s.pending := rfl
@[simp] theorem State.setPair_now (w q : Nat) (x : Option Pair) : (s.setPair w q x).now = s.now := rfl
@[simp] theorem State.setPair_free (w q : Nat) (x : Option Pair) : (s.setPair w q x).free = s.free := rfl
@[simp] theorem State.setPair_params (w q : Nat) (x : Option Pair) : (s.setPair w q x).params = s.params := rfl
@[simp] theorem State.setPair_sent (w q : Nat) (x : Option Pair) : (s.setPair w q x).sent = s.sent := rfl
@[simp] theorem State.setPair_ctl (w q : Nat) (x : Option Pair) : (s.setPair w q x).ctl = s.ctl := rfl
@[simp] theorem State.setPair_ring (w q : Nat) (x : Option Pair) : (s.setPair w q x).ring = s.ring := rfl
@[simp] theorem State.setPair_hk (w q : Nat) (x : Option Pair) : (s.setPair w q x).hk = s.hk := rfl
@[simp] theorem State.setPair_bus (w q : Nat) (x : Option Pair) : (s.setPair w q x).bus = s.bus := rfl
@[simp] theorem State.setPair_pw (w q : Nat) (x : Option Pair) : (s.setPair w q x).pw = s.pw := rfl
@[simp] theorem State.setPair_cam (w q : Nat) (x : Option Pair) : (s.setPair w q x).cam = s.cam := rfl
@[simp] theorem State.setPair_pipes (w q : Nat) (x : Option Pair) : (s.setPair w q x).pipes = s.pipes := rfl
@[simp] theorem State.setPair_colour (w q : Nat) (x : Option Pair) : (s.setPair w q x).colour = s.colour := rfl
@[simp] theorem State.setPair_dram (w q : Nat) (x : Option Pair) : (s.setPair w q x).dram = s.dram := rfl
@[simp] theorem State.setPair_cxl (w q : Nat) (x : Option Pair) : (s.setPair w q x).cxl = s.cxl := rfl
@[simp] theorem State.setPair_cv (w q : Nat) (x : Option Pair) : (s.setPair w q x).cv = s.cv := rfl
@[simp] theorem State.setPair_mw (w q : Nat) (x : Option Pair) : (s.setPair w q x).mw = s.mw := rfl
@[simp] theorem State.setPair_ln (w q : Nat) (x : Option Pair) : (s.setPair w q x).ln = s.ln := rfl
@[simp] theorem State.setPair_fr (w q : Nat) (x : Option Pair) : (s.setPair w q x).fr = s.fr := rfl
@[simp] theorem State.setPair_vc (w q : Nat) (x : Option Pair) : (s.setPair w q x).vc = s.vc := rfl
@[simp] theorem State.setPair_au (w q : Nat) (x : Option Pair) : (s.setPair w q x).au = s.au := rfl
@[simp] theorem State.setPair_getP (w q : Nat) (x : Option Pair) (i e : Nat) : (s.setPair w q x).getP i e = s.getP i e := rfl
@[simp] theorem State.setPair_win (w q : Nat) (x : Option Pair) (w' : Nat) : (s.setPair w q x).win w' = s.win w' := rfl

/-! Reads after writes -/

@[simp] theorem State.getP_setP_same (i e v : Nat) : (s.setP i e v).getP i e = v := by simp [State.getP, State.setP]

theorem State.getP_setP (i e v i' e' : Nat) : (s.setP i e v).getP i' e' = if pkey i' e' = pkey i e then v else s.getP i' e' := by
  simp [State.getP, State.setP, SMap.get_set]

theorem State.params_setP (i e v k : Nat) :
    SMap.get pdef (s.setP i e v).params k = if k = pkey i e then v else SMap.get pdef s.params k := by
  simp [State.setP, SMap.get_set]

@[simp] theorem State.win_setWin_same (w : Nat) (x : Window) : (s.setWin w x).win w = x := by simp [State.win, State.setWin]

theorem State.win_setWin (w : Nat) (x : Window) (n : Nat) : (s.setWin w x).win n = if n = w then x else s.win n := by
  simp [State.win, State.setWin, SMap.get_set]

@[simp] theorem State.partner_setPartner_same (p : PartnerId) (x : Partner) : (s.setPartner p x).partner p = x := by
  simp [State.partner, State.setPartner]

theorem State.pipe_setPipe (p : Nat) (x : Pipe) (n : Nat) : (s.setPipe p x).pipe n = if n = p then x else s.pipe n := by
  simp [State.pipe, State.setPipe, SMap.get_set]

theorem State.pipe_modPipe (p : Nat) (f : Pipe → Pipe) (n : Nat) : (s.modPipe p f).pipe n = if n = p then f (s.pipe p) else s.pipe n := by
  simp [State.modPipe, State.pipe_setPipe]

theorem State.sensor_setSensor (k : Nat) (x : Sensor) (n : Nat) : (s.setSensor k x).sensor n = if n = k then x else s.sensor n := by
  simp [State.sensor, State.setSensor, SMap.get_set]

theorem State.sensor_modSensor (k : Nat) (f : Sensor → Sensor) (n : Nat) :
    (s.modSensor k f).sensor n = if n = k then f (s.sensor k) else s.sensor n := by simp [State.modSensor, State.sensor_setSensor]

theorem State.group_setGroup (g : Nat) (x : CamGroup) (n : Nat) : (s.setGroup g x).group n = if n = g then x else s.group n := by
  simp [State.group, State.setGroup, SMap.get_set]

theorem State.group_modGroup (g : Nat) (f : CamGroup → CamGroup) (n : Nat) :
    (s.modGroup g f).group n = if n = g then f (s.group g) else s.group n := by simp [State.modGroup, State.group_setGroup]

theorem State.canvas_modCanvas (c : Nat) (f : Canvas → Canvas) (n : Nat) :
    (s.modCanvas c f).canvas n = if n = c then f (s.canvas c) else s.canvas n := by
  simp [State.canvas, State.modCanvas, State.setCanvas, SMap.get_set]

theorem State.loop_modLoop (l : Nat) (f : Loop → Loop) (n : Nat) : (s.modLoop l f).loop n = if n = l then f (s.loop l) else s.loop n := by
  simp [State.loop, State.modLoop, SMap.get_set]

theorem State.lane_modLane (k : Nat) (f : Lane → Lane) (n : Nat) : (s.modLane k f).lane n = if n = k then f (s.lane k) else s.lane n := by
  simp [State.lane, State.modLane, SMap.get_set]

theorem State.laneGroup_modLaneGroup (g : Nat) (f : LaneGroup → LaneGroup) (n : Nat) :
    (s.modLaneGroup g f).laneGroup n = if n = g then f (s.laneGroup g) else s.laneGroup n := by
  simp [State.laneGroup, State.modLaneGroup, SMap.get_set]

theorem State.engine_modEngine (e : Nat) (f : Engine → Engine) (n : Nat) :
    (s.modEngine e f).engine n = if n = e then f (s.engine e) else s.engine n := by simp [State.engine, State.modEngine, SMap.get_set]

theorem State.port_modPort (p : Nat) (f : AudioPort → AudioPort) (n : Nat) :
    (s.modPort p f).port n = if n = p then f (s.port p) else s.port n := by simp [State.port, State.modPort, SMap.get_set]

theorem State.expander_modExpander (k : Nat) (f : Expander → Expander) (n : Nat) :
    (s.modExpander k f).expander n = if n = k then f (s.expander k) else s.expander n := by
  simp [State.expander, State.modExpander, SMap.get_set]

theorem State.region_modRegion (r : Nat) (f : Region → Region) (n : Nat) :
    (s.modRegion r f).region n = if n = r then f (s.region r) else s.region n := by simp [State.region, State.modRegion, SMap.get_set]

end Sys2Proof.Machine
end

