-- ==== Sys2Proof/Laws/Events.lean ====
section
/-! SUPPORT. All that posting an event record, logging a fault and answering a command can do. -/

namespace Sys2Proof.Machine

theorem EventOnly.refl (s : State) : EventOnly s s := ⟨_, _, _, _, rfl⟩

theorem EventOnly.trans {s t u : State} (h : EventOnly s t) (g : EventOnly t u) : EventOnly s u := by
  obtain ⟨w, v, h, a, rfl⟩ := h
  obtain ⟨w', v', h', a', rfl⟩ := g
  exact ⟨w', v', h', a', rfl⟩

theorem eventOnly_setWin (s : State) (n : Nat) (x : Window) : EventOnly s (s.setWin n x) := ⟨_, _, _, _, rfl⟩

theorem eventOnly_modView (s : State) (f : View → View) (n : Nat) : EventOnly s (s.modView f n) := ⟨_, _, _, _, rfl⟩

theorem eventOnly_mapViews (s : State) (f : View → View) : EventOnly s (s.mapViews f) := ⟨_, _, _, _, rfl⟩

theorem eventOnly_advanceWin (s : State) (n : Nat) : EventOnly s (s.advanceWin n) := by
  unfold State.advanceWin
  split
  · exact (eventOnly_modView s _ n).trans (eventOnly_modView _ _ 64)
  · exact eventOnly_modView s _ n

theorem eventOnly_hostWrite (s : State) (a : Nat) (l : List Byte) : EventOnly s (s.hostWrite a l).1 := ⟨_, _, _, _, rfl⟩

theorem eventOnly_loseRecord (s : State) (n : Nat) : EventOnly s (s.loseRecord n) := eventOnly_setWin s n _

theorem eventOnly_writeRecord (s : State) (n : Nat) (e : Event) : EventOnly s (s.writeRecord n e).1 := by
  unfold State.writeRecord
  dsimp only
  split
  · exact ⟨_, _, _, _, rfl⟩
  · exact ((eventOnly_setWin s n _).trans (eventOnly_advanceWin _ n)).trans (eventOnly_hostWrite _ _ _)

theorem eventOnly_postTo (s : State) (n : Nat) (e : Event) : EventOnly s (s.postTo n e) := by
  unfold State.postTo
  dsimp only
  split
  · exact .refl s
  · split
    · split
      · exact eventOnly_writeRecord s n e
      · exact (eventOnly_writeRecord s n e).trans (eventOnly_loseRecord _ n)
    · exact eventOnly_loseRecord s n

theorem eventOnly_foldl {f : State → Nat → State} (h : ∀ t n, EventOnly t (f t n)) : ∀ (l : List Nat) (s : State), EventOnly s (l.foldl f s)
  | [], s => .refl s
  | n :: l, s => (h s n).trans (eventOnly_foldl h l (f s n))

theorem eventOnly_postEvent (s : State) (e : Event) : EventOnly s (s.postEvent e) := by
  refine eventOnly_foldl (fun t n => ?_) _ s
  split
  · exact eventOnly_postTo t n e
  · exact .refl t

theorem eventOnly_post (s : State) (a b c d : Nat) : EventOnly s (s.post a b c d) := eventOnly_postEvent s _

theorem eventOnly_postTagged (s : State) (a b c d e : Nat) : EventOnly s (s.postTagged a b c d e) := eventOnly_postEvent s _

theorem eventOnly_overflow (s : State) (n : Nat) : EventOnly s (s.overflow n) := by
  unfold State.overflow
  dsimp only
  split
  · split
    · exact (eventOnly_writeRecord s n _).trans (eventOnly_setWin _ n _)
    · exact eventOnly_writeRecord s n _
  · exact .refl s

theorem eventOnly_writeReply (s : State) (w k : Nat) (r : Reply) : EventOnly s (s.writeReply w k r) := eventOnly_setWin s w _

/-! ### Fields that an event record leaves alone -/

variable (s : State)

theorem Window.sameButRing.refl (x : Window) : x.sameButRing x := rfl

theorem Window.sameButRing.trans {x y z : Window} (h : x.sameButRing y) (g : y.sameButRing z) : x.sameButRing z := by
  unfold Window.sameButRing at *; rw [h, g]

theorem RingsOnly.refl (s : State) : RingsOnly s s := fun _ => rfl

theorem RingsOnly.trans {s t u : State} (h : RingsOnly s t) (g : RingsOnly t u) : RingsOnly s u := fun n => (g n).trans (h n)

theorem ringsOnly_setWin (n : Nat) (x : Window) (h : x.sameButRing (s.win n)) : RingsOnly s (s.setWin n x) := by
  intro m; rw [State.win_setWin]; split
  · next e => subst e; exact h
  · exact .refl _

theorem ringsOnly_wins {s t : State} (h : t.ctl.wins = s.ctl.wins) : RingsOnly s t := by
  intro n; simp only [State.win, h]; exact .refl _

theorem ringsOnly_loseRecord (n : Nat) : RingsOnly s (s.loseRecord n) :=
  ringsOnly_setWin s n _ (by simp [Window.sameButRing])

theorem ringsOnly_advanceWin (n : Nat) : RingsOnly s (s.advanceWin n) := by
  unfold State.advanceWin; split <;> exact ringsOnly_wins rfl

theorem ringsOnly_writeRecord (n : Nat) (e : Event) : RingsOnly s (s.writeRecord n e).1 := by
  unfold State.writeRecord
  dsimp only
  split
  · exact ringsOnly_wins rfl
  · exact ((ringsOnly_setWin s n _ (by simp [Window.sameButRing])).trans (ringsOnly_advanceWin _ n)).trans (ringsOnly_wins rfl)

theorem ringsOnly_postTo (n : Nat) (e : Event) : RingsOnly s (s.postTo n e) := by
  unfold State.postTo
  dsimp only
  split
  · exact .refl s
  · split
    · split
      · exact ringsOnly_writeRecord s n e
      · exact (ringsOnly_writeRecord s n e).trans (ringsOnly_loseRecord _ n)
    · exact ringsOnly_loseRecord s n

theorem ringsOnly_foldl {f : State → Nat → State} (h : ∀ t n, RingsOnly t (f t n)) : ∀ (l : List Nat) (s : State), RingsOnly s (l.foldl f s)
  | [], s => .refl s
  | n :: l, s => (h s n).trans (ringsOnly_foldl h l (f s n))

theorem ringsOnly_postEvent (e : Event) : RingsOnly s (s.postEvent e) := by
  refine ringsOnly_foldl (fun t n => ?_) _ s
  split
  · exact ringsOnly_postTo t n e
  · exact .refl t

/-! `State.post` -/
@[simp] theorem State.post_pending (a b c d : Nat) : (s.post a b c d).pending = s.pending := by obtain ⟨_, _, _, _, h⟩ := eventOnly_post s a b c d; rw [h]
@[simp] theorem State.post_now (a b c d : Nat) : (s.post a b c d).now = s.now := by obtain ⟨_, _, _, _, h⟩ := eventOnly_post s a b c d; rw [h]
@[simp] theorem State.post_free (a b c d : Nat) : (s.post a b c d).free = s.free := by obtain ⟨_, _, _, _, h⟩ := eventOnly_post s a b c d; rw [h]
@[simp] theorem State.post_params (a b c d : Nat) : (s.post a b c d).params = s.params := by obtain ⟨_, _, _, _, h⟩ := eventOnly_post s a b c d; rw [h]
@[simp] theorem State.post_sent (a b c d : Nat) : (s.post a b c d).sent = s.sent := by obtain ⟨_, _, _, _, h⟩ := eventOnly_post s a b c d; rw [h]
@[simp] theorem State.post_ring (a b c d : Nat) : (s.post a b c d).ring = s.ring := by obtain ⟨_, _, _, _, h⟩ := eventOnly_post s a b c d; rw [h]
@[simp] theorem State.post_hk (a b c d : Nat) : (s.post a b c d).hk = s.hk := by obtain ⟨_, _, _, _, h⟩ := eventOnly_post s a b c d; rw [h]
@[simp] theorem State.post_bus (a b c d : Nat) : (s.post a b c d).bus = s.bus := by obtain ⟨_, _, _, _, h⟩ := eventOnly_post s a b c d; rw [h]
@[simp] theorem State.post_pw (a b c d : Nat) : (s.post a b c d).pw = s.pw := by obtain ⟨_, _, _, _, h⟩ := eventOnly_post s a b c d; rw [h]
@[simp] theorem State.post_cq (a b c d : Nat) : (s.post a b c d).cq = s.cq := by obtain ⟨_, _, _, _, h⟩ := eventOnly_post s a b c d; rw [h]
@[simp] theorem State.post_cam (a b c d : Nat) : (s.post a b c d).cam = s.cam := by obtain ⟨_, _, _, _, h⟩ := eventOnly_post s a b c d; rw [h]
@[simp] theorem State.post_pipes (a b c d : Nat) : (s.post a b c d).pipes = s.pipes := by obtain ⟨_, _, _, _, h⟩ := eventOnly_post s a b c d; rw [h]
@[simp] theorem State.post_colour (a b c d : Nat) : (s.post a b c d).colour = s.colour := by obtain ⟨_, _, _, _, h⟩ := eventOnly_post s a b c d; rw [h]
@[simp] theorem State.post_dram (a b c d : Nat) : (s.post a b c d).dram = s.dram := by obtain ⟨_, _, _, _, h⟩ := eventOnly_post s a b c d; rw [h]
@[simp] theorem State.post_cxl (a b c d : Nat) : (s.post a b c d).cxl = s.cxl := by obtain ⟨_, _, _, _, h⟩ := eventOnly_post s a b c d; rw [h]
@[simp] theorem State.post_cv (a b c d : Nat) : (s.post a b c d).cv = s.cv := by obtain ⟨_, _, _, _, h⟩ := eventOnly_post s a b c d; rw [h]
@[simp] theorem State.post_mw (a b c d : Nat) : (s.post a b c d).mw = s.mw := by obtain ⟨_, _, _, _, h⟩ := eventOnly_post s a b c d; rw [h]
@[simp] theorem State.post_ln (a b c d : Nat) : (s.post a b c d).ln = s.ln := by obtain ⟨_, _, _, _, h⟩ := eventOnly_post s a b c d; rw [h]
@[simp] theorem State.post_fr (a b c d : Nat) : (s.post a b c d).fr = s.fr := by obtain ⟨_, _, _, _, h⟩ := eventOnly_post s a b c d; rw [h]
@[simp] theorem State.post_vc (a b c d : Nat) : (s.post a b c d).vc = s.vc := by obtain ⟨_, _, _, _, h⟩ := eventOnly_post s a b c d; rw [h]
@[simp] theorem State.post_au (a b c d : Nat) : (s.post a b c d).au = s.au := by obtain ⟨_, _, _, _, h⟩ := eventOnly_post s a b c d; rw [h]
@[simp] theorem State.post_ctl_boot (a b c d : Nat) : (s.post a b c d).ctl.boot = s.ctl.boot := by obtain ⟨_, _, _, _, h⟩ := eventOnly_post s a b c d; rw [h]
@[simp] theorem State.post_ctl_perstN (a b c d : Nat) : (s.post a b c d).ctl.perstN = s.ctl.perstN := by obtain ⟨_, _, _, _, h⟩ := eventOnly_post s a b c d; rw [h]
@[simp] theorem State.post_ctl_fwReady (a b c d : Nat) : (s.post a b c d).ctl.fwReady = s.ctl.fwReady := by obtain ⟨_, _, _, _, h⟩ := eventOnly_post s a b c d; rw [h]
@[simp] theorem State.post_ctl_restarting (a b c d : Nat) : (s.post a b c d).ctl.restarting = s.ctl.restarting := by obtain ⟨_, _, _, _, h⟩ := eventOnly_post s a b c d; rw [h]
@[simp] theorem State.post_ctl_switch (a b c d : Nat) : (s.post a b c d).ctl.switch = s.ctl.switch := by obtain ⟨_, _, _, _, h⟩ := eventOnly_post s a b c d; rw [h]
@[simp] theorem State.post_ctl_faultLog (a b c d : Nat) : (s.post a b c d).ctl.faultLog = s.ctl.faultLog := by obtain ⟨_, _, _, _, h⟩ := eventOnly_post s a b c d; rw [h]
@[simp] theorem State.post_ctl_faultNext (a b c d : Nat) : (s.post a b c d).ctl.faultNext = s.ctl.faultNext := by obtain ⟨_, _, _, _, h⟩ := eventOnly_post s a b c d; rw [h]
@[simp] theorem State.post_ctl_vfEnable (a b c d : Nat) : (s.post a b c d).ctl.vfEnable = s.ctl.vfEnable := by obtain ⟨_, _, _, _, h⟩ := eventOnly_post s a b c d; rw [h]
@[simp] theorem State.post_ctl_numVfs (a b c d : Nat) : (s.post a b c d).ctl.numVfs = s.ctl.numVfs := by obtain ⟨_, _, _, _, h⟩ := eventOnly_post s a b c d; rw [h]
@[simp] theorem State.post_ctl_ticket (a b c d : Nat) : (s.post a b c d).ctl.ticket = s.ctl.ticket := by obtain ⟨_, _, _, _, h⟩ := eventOnly_post s a b c d; rw [h]
@[simp] theorem State.post_ctl_flights (a b c d : Nat) : (s.post a b c d).ctl.flights = s.ctl.flights := by obtain ⟨_, _, _, _, h⟩ := eventOnly_post s a b c d; rw [h]
@[simp] theorem State.post_ctl_claims (a b c d : Nat) : (s.post a b c d).ctl.claims = s.ctl.claims := by obtain ⟨_, _, _, _, h⟩ := eventOnly_post s a b c d; rw [h]
@[simp] theorem State.post_ctl_service (a b c d : Nat) : (s.post a b c d).ctl.service = s.ctl.service := by obtain ⟨_, _, _, _, h⟩ := eventOnly_post s a b c d; rw [h]
@[simp] theorem State.post_ctl_staged (a b c d : Nat) : (s.post a b c d).ctl.staged = s.ctl.staged := by obtain ⟨_, _, _, _, h⟩ := eventOnly_post s a b c d; rw [h]
@[simp] theorem State.post_ctl_reached (a b c d : Nat) : (s.post a b c d).ctl.reached = s.ctl.reached := by obtain ⟨_, _, _, _, h⟩ := eventOnly_post s a b c d; rw [h]
@[simp] theorem State.post_ctl_reachedAt (a b c d : Nat) : (s.post a b c d).ctl.reachedAt = s.ctl.reachedAt := by obtain ⟨_, _, _, _, h⟩ := eventOnly_post s a b c d; rw [h]
@[simp] theorem State.post_ctl_tables (a b c d : Nat) : (s.post a b c d).ctl.tables = s.ctl.tables := by obtain ⟨_, _, _, _, h⟩ := eventOnly_post s a b c d; rw [h]
@[simp] theorem State.post_ctl_staging (a b c d : Nat) : (s.post a b c d).ctl.staging = s.ctl.staging := by obtain ⟨_, _, _, _, h⟩ := eventOnly_post s a b c d; rw [h]
@[simp] theorem State.post_ctl_fwA (a b c d : Nat) : (s.post a b c d).ctl.fwA = s.ctl.fwA := by obtain ⟨_, _, _, _, h⟩ := eventOnly_post s a b c d; rw [h]
@[simp] theorem State.post_ctl_fwB (a b c d : Nat) : (s.post a b c d).ctl.fwB = s.ctl.fwB := by obtain ⟨_, _, _, _, h⟩ := eventOnly_post s a b c d; rw [h]
@[simp] theorem State.post_ctl_bootSlot (a b c d : Nat) : (s.post a b c d).ctl.bootSlot = s.ctl.bootSlot := by obtain ⟨_, _, _, _, h⟩ := eventOnly_post s a b c d; rw [h]
@[simp] theorem State.post_ctl_fwFloor (a b c d : Nat) : (s.post a b c d).ctl.fwFloor = s.ctl.fwFloor := by obtain ⟨_, _, _, _, h⟩ := eventOnly_post s a b c d; rw [h]
@[simp] theorem State.post_ctl_revoked (a b c d : Nat) : (s.post a b c d).ctl.revoked = s.ctl.revoked := by obtain ⟨_, _, _, _, h⟩ := eventOnly_post s a b c d; rw [h]
@[simp] theorem State.post_ctl_partners (a b c d : Nat) : (s.post a b c d).ctl.partners = s.ctl.partners := by obtain ⟨_, _, _, _, h⟩ := eventOnly_post s a b c d; rw [h]
@[simp] theorem State.post_ctl_hostFault (a b c d : Nat) : (s.post a b c d).ctl.hostFault = s.ctl.hostFault := by obtain ⟨_, _, _, _, h⟩ := eventOnly_post s a b c d; rw [h]
@[simp] theorem State.post_getP (a b c d : Nat) (i j : Nat) : (s.post a b c d).getP i j = s.getP i j := by simp [State.getP]
@[simp] theorem State.post_win_state (a b c d : Nat) (n : Nat) : ((s.post a b c d).win n).state = (s.win n).state := by unfold State.post; rw [ringsOnly_postEvent s _ n]
@[simp] theorem State.post_win_slots (a b c d : Nat) (n : Nat) : ((s.post a b c d).win n).slots = (s.win n).slots := by unfold State.post; rw [ringsOnly_postEvent s _ n]
@[simp] theorem State.post_win_busy (a b c d : Nat) (n : Nat) : ((s.post a b c d).win n).busy = (s.win n).busy := by unfold State.post; rw [ringsOnly_postEvent s _ n]
@[simp] theorem State.post_win_ready (a b c d : Nat) (n : Nat) : ((s.post a b c d).win n).ready = (s.win n).ready := by unfold State.post; rw [ringsOnly_postEvent s _ n]
@[simp] theorem State.post_win_derr (a b c d : Nat) (n : Nat) : ((s.post a b c d).win n).derr = (s.win n).derr := by unfold State.post; rw [ringsOnly_postEvent s _ n]
@[simp] theorem State.post_win_rung (a b c d : Nat) (n : Nat) : ((s.post a b c d).win n).rung = (s.win n).rung := by unfold State.post; rw [ringsOnly_postEvent s _ n]
@[simp] theorem State.post_win_rungPriv (a b c d : Nat) (n : Nat) : ((s.post a b c d).win n).rungPriv = (s.win n).rungPriv := by unfold State.post; rw [ringsOnly_postEvent s _ n]
@[simp] theorem State.post_win_replies (a b c d : Nat) (n : Nat) : ((s.post a b c d).win n).replies = (s.win n).replies := by unfold State.post; rw [ringsOnly_postEvent s _ n]
@[simp] theorem State.post_win_base (a b c d : Nat) (n : Nat) : ((s.post a b c d).win n).base = (s.win n).base := by unfold State.post; rw [ringsOnly_postEvent s _ n]
@[simp] theorem State.post_win_sizeLog2 (a b c d : Nat) (n : Nat) : ((s.post a b c d).win n).sizeLog2 = (s.win n).sizeLog2 := by unfold State.post; rw [ringsOnly_postEvent s _ n]
@[simp] theorem State.post_win_tail (a b c d : Nat) (n : Nat) : ((s.post a b c d).win n).tail = (s.win n).tail := by unfold State.post; rw [ringsOnly_postEvent s _ n]
@[simp] theorem State.post_win_tailRejects (a b c d : Nat) (n : Nat) : ((s.post a b c d).win n).tailRejects = (s.win n).tailRejects := by unfold State.post; rw [ringsOnly_postEvent s _ n]
@[simp] theorem State.post_win_mask (a b c d : Nat) (n : Nat) : ((s.post a b c d).win n).mask = (s.win n).mask := by unfold State.post; rw [ringsOnly_postEvent s _ n]

/-! `State.postTagged` -/
@[simp] theorem State.postTagged_pending (a b c d e : Nat) : (s.postTagged a b c d e).pending = s.pending := by obtain ⟨_, _, _, _, h⟩ := eventOnly_postTagged s a b c d e; rw [h]
@[simp] theorem State.postTagged_now (a b c d e : Nat) : (s.postTagged a b c d e).now = s.now := by obtain ⟨_, _, _, _, h⟩ := eventOnly_postTagged s a b c d e; rw [h]
@[simp] theorem State.postTagged_free (a b c d e : Nat) : (s.postTagged a b c d e).free = s.free := by obtain ⟨_, _, _, _, h⟩ := eventOnly_postTagged s a b c d e; rw [h]
@[simp] theorem State.postTagged_params (a b c d e : Nat) : (s.postTagged a b c d e).params = s.params := by obtain ⟨_, _, _, _, h⟩ := eventOnly_postTagged s a b c d e; rw [h]
@[simp] theorem State.postTagged_sent (a b c d e : Nat) : (s.postTagged a b c d e).sent = s.sent := by obtain ⟨_, _, _, _, h⟩ := eventOnly_postTagged s a b c d e; rw [h]
@[simp] theorem State.postTagged_ring (a b c d e : Nat) : (s.postTagged a b c d e).ring = s.ring := by obtain ⟨_, _, _, _, h⟩ := eventOnly_postTagged s a b c d e; rw [h]
@[simp] theorem State.postTagged_hk (a b c d e : Nat) : (s.postTagged a b c d e).hk = s.hk := by obtain ⟨_, _, _, _, h⟩ := eventOnly_postTagged s a b c d e; rw [h]
@[simp] theorem State.postTagged_bus (a b c d e : Nat) : (s.postTagged a b c d e).bus = s.bus := by obtain ⟨_, _, _, _, h⟩ := eventOnly_postTagged s a b c d e; rw [h]
@[simp] theorem State.postTagged_pw (a b c d e : Nat) : (s.postTagged a b c d e).pw = s.pw := by obtain ⟨_, _, _, _, h⟩ := eventOnly_postTagged s a b c d e; rw [h]
@[simp] theorem State.postTagged_cq (a b c d e : Nat) : (s.postTagged a b c d e).cq = s.cq := by obtain ⟨_, _, _, _, h⟩ := eventOnly_postTagged s a b c d e; rw [h]
@[simp] theorem State.postTagged_cam (a b c d e : Nat) : (s.postTagged a b c d e).cam = s.cam := by obtain ⟨_, _, _, _, h⟩ := eventOnly_postTagged s a b c d e; rw [h]
@[simp] theorem State.postTagged_pipes (a b c d e : Nat) : (s.postTagged a b c d e).pipes = s.pipes := by obtain ⟨_, _, _, _, h⟩ := eventOnly_postTagged s a b c d e; rw [h]
@[simp] theorem State.postTagged_colour (a b c d e : Nat) : (s.postTagged a b c d e).colour = s.colour := by obtain ⟨_, _, _, _, h⟩ := eventOnly_postTagged s a b c d e; rw [h]
@[simp] theorem State.postTagged_dram (a b c d e : Nat) : (s.postTagged a b c d e).dram = s.dram := by obtain ⟨_, _, _, _, h⟩ := eventOnly_postTagged s a b c d e; rw [h]
@[simp] theorem State.postTagged_cxl (a b c d e : Nat) : (s.postTagged a b c d e).cxl = s.cxl := by obtain ⟨_, _, _, _, h⟩ := eventOnly_postTagged s a b c d e; rw [h]
@[simp] theorem State.postTagged_cv (a b c d e : Nat) : (s.postTagged a b c d e).cv = s.cv := by obtain ⟨_, _, _, _, h⟩ := eventOnly_postTagged s a b c d e; rw [h]
@[simp] theorem State.postTagged_mw (a b c d e : Nat) : (s.postTagged a b c d e).mw = s.mw := by obtain ⟨_, _, _, _, h⟩ := eventOnly_postTagged s a b c d e; rw [h]
@[simp] theorem State.postTagged_ln (a b c d e : Nat) : (s.postTagged a b c d e).ln = s.ln := by obtain ⟨_, _, _, _, h⟩ := eventOnly_postTagged s a b c d e; rw [h]
@[simp] theorem State.postTagged_fr (a b c d e : Nat) : (s.postTagged a b c d e).fr = s.fr := by obtain ⟨_, _, _, _, h⟩ := eventOnly_postTagged s a b c d e; rw [h]
@[simp] theorem State.postTagged_vc (a b c d e : Nat) : (s.postTagged a b c d e).vc = s.vc := by obtain ⟨_, _, _, _, h⟩ := eventOnly_postTagged s a b c d e; rw [h]
@[simp] theorem State.postTagged_au (a b c d e : Nat) : (s.postTagged a b c d e).au = s.au := by obtain ⟨_, _, _, _, h⟩ := eventOnly_postTagged s a b c d e; rw [h]
@[simp] theorem State.postTagged_ctl_boot (a b c d e : Nat) : (s.postTagged a b c d e).ctl.boot = s.ctl.boot := by obtain ⟨_, _, _, _, h⟩ := eventOnly_postTagged s a b c d e; rw [h]
@[simp] theorem State.postTagged_ctl_perstN (a b c d e : Nat) : (s.postTagged a b c d e).ctl.perstN = s.ctl.perstN := by obtain ⟨_, _, _, _, h⟩ := eventOnly_postTagged s a b c d e; rw [h]
@[simp] theorem State.postTagged_ctl_fwReady (a b c d e : Nat) : (s.postTagged a b c d e).ctl.fwReady = s.ctl.fwReady := by obtain ⟨_, _, _, _, h⟩ := eventOnly_postTagged s a b c d e; rw [h]
@[simp] theorem State.postTagged_ctl_restarting (a b c d e : Nat) : (s.postTagged a b c d e).ctl.restarting = s.ctl.restarting := by obtain ⟨_, _, _, _, h⟩ := eventOnly_postTagged s a b c d e; rw [h]
@[simp] theorem State.postTagged_ctl_switch (a b c d e : Nat) : (s.postTagged a b c d e).ctl.switch = s.ctl.switch := by obtain ⟨_, _, _, _, h⟩ := eventOnly_postTagged s a b c d e; rw [h]
@[simp] theorem State.postTagged_ctl_faultLog (a b c d e : Nat) : (s.postTagged a b c d e).ctl.faultLog = s.ctl.faultLog := by obtain ⟨_, _, _, _, h⟩ := eventOnly_postTagged s a b c d e; rw [h]
@[simp] theorem State.postTagged_ctl_faultNext (a b c d e : Nat) : (s.postTagged a b c d e).ctl.faultNext = s.ctl.faultNext := by obtain ⟨_, _, _, _, h⟩ := eventOnly_postTagged s a b c d e; rw [h]
@[simp] theorem State.postTagged_ctl_vfEnable (a b c d e : Nat) : (s.postTagged a b c d e).ctl.vfEnable = s.ctl.vfEnable := by obtain ⟨_, _, _, _, h⟩ := eventOnly_postTagged s a b c d e; rw [h]
@[simp] theorem State.postTagged_ctl_numVfs (a b c d e : Nat) : (s.postTagged a b c d e).ctl.numVfs = s.ctl.numVfs := by obtain ⟨_, _, _, _, h⟩ := eventOnly_postTagged s a b c d e; rw [h]
@[simp] theorem State.postTagged_ctl_ticket (a b c d e : Nat) : (s.postTagged a b c d e).ctl.ticket = s.ctl.ticket := by obtain ⟨_, _, _, _, h⟩ := eventOnly_postTagged s a b c d e; rw [h]
@[simp] theorem State.postTagged_ctl_flights (a b c d e : Nat) : (s.postTagged a b c d e).ctl.flights = s.ctl.flights := by obtain ⟨_, _, _, _, h⟩ := eventOnly_postTagged s a b c d e; rw [h]
@[simp] theorem State.postTagged_ctl_claims (a b c d e : Nat) : (s.postTagged a b c d e).ctl.claims = s.ctl.claims := by obtain ⟨_, _, _, _, h⟩ := eventOnly_postTagged s a b c d e; rw [h]
@[simp] theorem State.postTagged_ctl_service (a b c d e : Nat) : (s.postTagged a b c d e).ctl.service = s.ctl.service := by obtain ⟨_, _, _, _, h⟩ := eventOnly_postTagged s a b c d e; rw [h]
@[simp] theorem State.postTagged_ctl_staged (a b c d e : Nat) : (s.postTagged a b c d e).ctl.staged = s.ctl.staged := by obtain ⟨_, _, _, _, h⟩ := eventOnly_postTagged s a b c d e; rw [h]
@[simp] theorem State.postTagged_ctl_reached (a b c d e : Nat) : (s.postTagged a b c d e).ctl.reached = s.ctl.reached := by obtain ⟨_, _, _, _, h⟩ := eventOnly_postTagged s a b c d e; rw [h]
@[simp] theorem State.postTagged_ctl_reachedAt (a b c d e : Nat) : (s.postTagged a b c d e).ctl.reachedAt = s.ctl.reachedAt := by obtain ⟨_, _, _, _, h⟩ := eventOnly_postTagged s a b c d e; rw [h]
@[simp] theorem State.postTagged_ctl_tables (a b c d e : Nat) : (s.postTagged a b c d e).ctl.tables = s.ctl.tables := by obtain ⟨_, _, _, _, h⟩ := eventOnly_postTagged s a b c d e; rw [h]
@[simp] theorem State.postTagged_ctl_staging (a b c d e : Nat) : (s.postTagged a b c d e).ctl.staging = s.ctl.staging := by obtain ⟨_, _, _, _, h⟩ := eventOnly_postTagged s a b c d e; rw [h]
@[simp] theorem State.postTagged_ctl_fwA (a b c d e : Nat) : (s.postTagged a b c d e).ctl.fwA = s.ctl.fwA := by obtain ⟨_, _, _, _, h⟩ := eventOnly_postTagged s a b c d e; rw [h]
@[simp] theorem State.postTagged_ctl_fwB (a b c d e : Nat) : (s.postTagged a b c d e).ctl.fwB = s.ctl.fwB := by obtain ⟨_, _, _, _, h⟩ := eventOnly_postTagged s a b c d e; rw [h]
@[simp] theorem State.postTagged_ctl_bootSlot (a b c d e : Nat) : (s.postTagged a b c d e).ctl.bootSlot = s.ctl.bootSlot := by obtain ⟨_, _, _, _, h⟩ := eventOnly_postTagged s a b c d e; rw [h]
@[simp] theorem State.postTagged_ctl_fwFloor (a b c d e : Nat) : (s.postTagged a b c d e).ctl.fwFloor = s.ctl.fwFloor := by obtain ⟨_, _, _, _, h⟩ := eventOnly_postTagged s a b c d e; rw [h]
@[simp] theorem State.postTagged_ctl_revoked (a b c d e : Nat) : (s.postTagged a b c d e).ctl.revoked = s.ctl.revoked := by obtain ⟨_, _, _, _, h⟩ := eventOnly_postTagged s a b c d e; rw [h]
@[simp] theorem State.postTagged_ctl_partners (a b c d e : Nat) : (s.postTagged a b c d e).ctl.partners = s.ctl.partners := by obtain ⟨_, _, _, _, h⟩ := eventOnly_postTagged s a b c d e; rw [h]
@[simp] theorem State.postTagged_ctl_hostFault (a b c d e : Nat) : (s.postTagged a b c d e).ctl.hostFault = s.ctl.hostFault := by obtain ⟨_, _, _, _, h⟩ := eventOnly_postTagged s a b c d e; rw [h]
@[simp] theorem State.postTagged_getP (a b c d e : Nat) (i j : Nat) : (s.postTagged a b c d e).getP i j = s.getP i j := by simp [State.getP]
@[simp] theorem State.postTagged_win_state (a b c d e : Nat) (n : Nat) : ((s.postTagged a b c d e).win n).state = (s.win n).state := by unfold State.postTagged; rw [ringsOnly_postEvent s _ n]
@[simp] theorem State.postTagged_win_slots (a b c d e : Nat) (n : Nat) : ((s.postTagged a b c d e).win n).slots = (s.win n).slots := by unfold State.postTagged; rw [ringsOnly_postEvent s _ n]
@[simp] theorem State.postTagged_win_busy (a b c d e : Nat) (n : Nat) : ((s.postTagged a b c d e).win n).busy = (s.win n).busy := by unfold State.postTagged; rw [ringsOnly_postEvent s _ n]
@[simp] theorem State.postTagged_win_ready (a b c d e : Nat) (n : Nat) : ((s.postTagged a b c d e).win n).ready = (s.win n).ready := by unfold State.postTagged; rw [ringsOnly_postEvent s _ n]
@[simp] theorem State.postTagged_win_derr (a b c d e : Nat) (n : Nat) : ((s.postTagged a b c d e).win n).derr = (s.win n).derr := by unfold State.postTagged; rw [ringsOnly_postEvent s _ n]
@[simp] theorem State.postTagged_win_rung (a b c d e : Nat) (n : Nat) : ((s.postTagged a b c d e).win n).rung = (s.win n).rung := by unfold State.postTagged; rw [ringsOnly_postEvent s _ n]
@[simp] theorem State.postTagged_win_rungPriv (a b c d e : Nat) (n : Nat) : ((s.postTagged a b c d e).win n).rungPriv = (s.win n).rungPriv := by unfold State.postTagged; rw [ringsOnly_postEvent s _ n]
@[simp] theorem State.postTagged_win_replies (a b c d e : Nat) (n : Nat) : ((s.postTagged a b c d e).win n).replies = (s.win n).replies := by unfold State.postTagged; rw [ringsOnly_postEvent s _ n]
@[simp] theorem State.postTagged_win_base (a b c d e : Nat) (n : Nat) : ((s.postTagged a b c d e).win n).base = (s.win n).base := by unfold State.postTagged; rw [ringsOnly_postEvent s _ n]
@[simp] theorem State.postTagged_win_sizeLog2 (a b c d e : Nat) (n : Nat) : ((s.postTagged a b c d e).win n).sizeLog2 = (s.win n).sizeLog2 := by unfold State.postTagged; rw [ringsOnly_postEvent s _ n]
@[simp] theorem State.postTagged_win_tail (a b c d e : Nat) (n : Nat) : ((s.postTagged a b c d e).win n).tail = (s.win n).tail := by unfold State.postTagged; rw [ringsOnly_postEvent s _ n]
@[simp] theorem State.postTagged_win_tailRejects (a b c d e : Nat) (n : Nat) : ((s.postTagged a b c d e).win n).tailRejects = (s.win n).tailRejects := by unfold State.postTagged; rw [ringsOnly_postEvent s _ n]
@[simp] theorem State.postTagged_win_mask (a b c d e : Nat) (n : Nat) : ((s.postTagged a b c d e).win n).mask = (s.win n).mask := by unfold State.postTagged; rw [ringsOnly_postEvent s _ n]

end Sys2Proof.Machine
end

