-- ==== Sys2Proof/Laws/Replies.lean ====
section
/-! SUPPORT. All that answering a mailbox command and submitting an accepted one can do. -/

namespace Sys2Proof.Machine

variable (s : State)

theorem guarded_of_wf {i : Instr} (h : i.wellFormed = true) (t : State) : guarded i s t = .next { t with pending := s.pending } := by
  simp [guarded, h]

theorem guarded_of_not_wf {i : Instr} (h : i.wellFormed = false) (t : State) : guarded i s t = .fault .noSuchUnit := by
  simp [guarded, h]

theorem testBit_setBit_same (m i : Nat) : (setBit m i).testBit i = true := by simp [setBit, Nat.testBit_or, Nat.one_shiftLeft]

theorem testBit_clrBit_same (m i : Nat) : (clrBit m i).testBit i = false := by
  unfold clrBit
  split
  · next h => simp [Nat.testBit_xor, Nat.one_shiftLeft, h]
  · next h => simpa using h

theorem testBit_setBit_other {m i j : Nat} (h : i ≠ j) : (setBit m i).testBit j = m.testBit j := by
  simp [setBit, Nat.testBit_or, Nat.one_shiftLeft, h]

theorem testBit_clrBit_other {m i j : Nat} (h : i ≠ j) : (clrBit m i).testBit j = m.testBit j := by
  unfold clrBit
  split
  · simp [Nat.testBit_xor, Nat.one_shiftLeft, h]
  · rfl

/-- A completion code is the low byte of the status word. -/
theorem statusWord_code (v : Nat) {code : Nat} (h : code < 256) : s.statusWord v code % 256 = code := by
  unfold State.statusWord; omega

/-! ### The final reply -/

/-- While Aipex runs, the final reply is written at once. -/
theorem State.finalReply_up (h : s.aipexDown = false) (tk code len r : Nat) : s.finalReply tk code len r = s.writeFinal tk code len r := by
  simp [State.finalReply, h]

/-- While Aipex does not run, the final reply of a command in progress waits. -/
theorem State.finalReply_down (h : s.aipexDown = true) {tk : Nat} {f : Flight} (hf : s.flight? tk = some f)
    (hh : s.ctl.heldReplies.any (fun e => e.1 == tk) = false) (code len r : Nat) :
    s.finalReply tk code len r = { s with ctl := { s.ctl with heldReplies := s.ctl.heldReplies ++ [(tk, code, len, r)] } } := by
  simp [State.finalReply, h, hf, hh]

theorem State.aipexDown_of_ready (h : s.ctl.fwReady = true) : s.aipexDown = false := by simp [State.aipexDown, h]

theorem finalReply_of_none {tk : Nat} (h : s.flight? tk = none) (code len r : Nat) : s.finalReply tk code len r = s := by
  simp [State.finalReply, State.writeFinal, h]

/-- A written reply changes the control plane's windows and commands in progress and the DARK return timer only. -/
theorem writeFinal_shape (tk code len r : Nat) : ∃ W F p, s.writeFinal tk code len r =
    { s with ctl := { s.ctl with wins := W, flights := F }, pw := { s.pw with returnFrom := p } } := by
  unfold State.writeFinal
  split
  · exact ⟨_, _, _, rfl⟩
  · dsimp only
    split
    · exact ⟨_, _, _, rfl⟩
    · exact ⟨_, _, _, rfl⟩

/-- The final reply changes the control plane's windows, commands in progress and held replies and the DARK return timer only. -/
theorem finalReply_ctl (tk code len r : Nat) : ∃ W F H p, s.finalReply tk code len r =
    { s with ctl := { s.ctl with wins := W, flights := F, heldReplies := H }, pw := { s.pw with returnFrom := p } } := by
  unfold State.finalReply
  split
  · split
    · exact ⟨_, _, _, _, rfl⟩
    · exact ⟨_, _, _, _, rfl⟩
  · obtain ⟨W, F, p, h⟩ := writeFinal_shape s tk code len r
    exact ⟨W, F, s.ctl.heldReplies, p, h⟩

/-- The final reply changes the control plane and the DARK return timer only. -/
theorem finalReply_frame (tk code len r : Nat) :
    ∃ c p, s.finalReply tk code len r = { s with ctl := c, pw := { s.pw with returnFrom := p } } := by
  obtain ⟨W, F, H, p, h⟩ := finalReply_ctl s tk code len r
  exact ⟨_, _, h⟩

/-- With no reply held, none is written when Aipex runs again. -/
theorem State.releaseReplies_none (h : s.ctl.heldReplies = []) : s.releaseReplies = s := by
  have e : ({ s with ctl := { s.ctl with heldReplies := [] } } : State) = s := by rw [← h]
  simp only [State.releaseReplies, h, List.foldl_nil]
  exact e

/-- The replies that waited change the control plane's windows, commands in progress and held replies and the DARK return timer only. -/
theorem releaseReplies_ctl : ∃ W F p, s.releaseReplies =
    { s with ctl := { s.ctl with wins := W, flights := F, heldReplies := [] }, pw := { s.pw with returnFrom := p } } := by
  unfold State.releaseReplies
  generalize s.ctl.heldReplies = l
  have key : ∀ (l : List (Nat × Nat × Nat × Nat)) (t : State), ∃ W F p, l.foldl (fun t e => t.writeFinal e.1 e.2.1 e.2.2.1 e.2.2.2) t =
      { t with ctl := { t.ctl with wins := W, flights := F }, pw := { t.pw with returnFrom := p } } := by
    intro l
    induction l with
    | nil => intro t; exact ⟨_, _, _, rfl⟩
    | cons e l ih =>
      intro t
      obtain ⟨W, F, p, h⟩ := writeFinal_shape t e.1 e.2.1 e.2.2.1 e.2.2.2
      obtain ⟨W', F', p', h'⟩ := ih (t.writeFinal e.1 e.2.1 e.2.2.1 e.2.2.2)
      rw [List.foldl_cons, h', h]
      exact ⟨_, _, _, rfl⟩
  exact key l _

/-! Fields of the final reply -/

@[simp] theorem State.finalReply_pending (tk code len r : Nat) : (s.finalReply tk code len r).pending = s.pending := by
  obtain ⟨c, p, h⟩ := finalReply_frame s tk code len r; rw [h]
@[simp] theorem State.finalReply_now (tk code len r : Nat) : (s.finalReply tk code len r).now = s.now := by
  obtain ⟨c, p, h⟩ := finalReply_frame s tk code len r; rw [h]
@[simp] theorem State.finalReply_free (tk code len r : Nat) : (s.finalReply tk code len r).free = s.free := by
  obtain ⟨c, p, h⟩ := finalReply_frame s tk code len r; rw [h]
@[simp] theorem State.finalReply_params (tk code len r : Nat) : (s.finalReply tk code len r).params = s.params := by
  obtain ⟨c, p, h⟩ := finalReply_frame s tk code len r; rw [h]
@[simp] theorem State.finalReply_sent (tk code len r : Nat) : (s.finalReply tk code len r).sent = s.sent := by
  obtain ⟨c, p, h⟩ := finalReply_frame s tk code len r; rw [h]
@[simp] theorem State.finalReply_ring (tk code len r : Nat) : (s.finalReply tk code len r).ring = s.ring := by
  obtain ⟨c, p, h⟩ := finalReply_frame s tk code len r; rw [h]
@[simp] theorem State.finalReply_hk (tk code len r : Nat) : (s.finalReply tk code len r).hk = s.hk := by
  obtain ⟨c, p, h⟩ := finalReply_frame s tk code len r; rw [h]
@[simp] theorem State.finalReply_bus (tk code len r : Nat) : (s.finalReply tk code len r).bus = s.bus := by
  obtain ⟨c, p, h⟩ := finalReply_frame s tk code len r; rw [h]
@[simp] theorem State.finalReply_cq (tk code len r : Nat) : (s.finalReply tk code len r).cq = s.cq := by
  obtain ⟨c, p, h⟩ := finalReply_frame s tk code len r; rw [h]
@[simp] theorem State.finalReply_cam (tk code len r : Nat) : (s.finalReply tk code len r).cam = s.cam := by
  obtain ⟨c, p, h⟩ := finalReply_frame s tk code len r; rw [h]
@[simp] theorem State.finalReply_pipes (tk code len r : Nat) : (s.finalReply tk code len r).pipes = s.pipes := by
  obtain ⟨c, p, h⟩ := finalReply_frame s tk code len r; rw [h]
@[simp] theorem State.finalReply_colour (tk code len r : Nat) : (s.finalReply tk code len r).colour = s.colour := by
  obtain ⟨c, p, h⟩ := finalReply_frame s tk code len r; rw [h]
@[simp] theorem State.finalReply_dram (tk code len r : Nat) : (s.finalReply tk code len r).dram = s.dram := by
  obtain ⟨c, p, h⟩ := finalReply_frame s tk code len r; rw [h]
@[simp] theorem State.finalReply_cxl (tk code len r : Nat) : (s.finalReply tk code len r).cxl = s.cxl := by
  obtain ⟨c, p, h⟩ := finalReply_frame s tk code len r; rw [h]
@[simp] theorem State.finalReply_cv (tk code len r : Nat) : (s.finalReply tk code len r).cv = s.cv := by
  obtain ⟨c, p, h⟩ := finalReply_frame s tk code len r; rw [h]
@[simp] theorem State.finalReply_mw (tk code len r : Nat) : (s.finalReply tk code len r).mw = s.mw := by
  obtain ⟨c, p, h⟩ := finalReply_frame s tk code len r; rw [h]
@[simp] theorem State.finalReply_ln (tk code len r : Nat) : (s.finalReply tk code len r).ln = s.ln := by
  obtain ⟨c, p, h⟩ := finalReply_frame s tk code len r; rw [h]
@[simp] theorem State.finalReply_fr (tk code len r : Nat) : (s.finalReply tk code len r).fr = s.fr := by
  obtain ⟨c, p, h⟩ := finalReply_frame s tk code len r; rw [h]
@[simp] theorem State.finalReply_vc (tk code len r : Nat) : (s.finalReply tk code len r).vc = s.vc := by
  obtain ⟨c, p, h⟩ := finalReply_frame s tk code len r; rw [h]
@[simp] theorem State.finalReply_au (tk code len r : Nat) : (s.finalReply tk code len r).au = s.au := by
  obtain ⟨c, p, h⟩ := finalReply_frame s tk code len r; rw [h]
@[simp] theorem State.finalReply_getP (tk code len r i j : Nat) : (s.finalReply tk code len r).getP i j = s.getP i j := by simp [State.getP]
@[simp] theorem State.finalReply_ctl_boot (tk code len r : Nat) : (s.finalReply tk code len r).ctl.boot = s.ctl.boot := by
  obtain ⟨_, _, _, _, h⟩ := finalReply_ctl s tk code len r; rw [h]
@[simp] theorem State.finalReply_ctl_perstN (tk code len r : Nat) : (s.finalReply tk code len r).ctl.perstN = s.ctl.perstN := by
  obtain ⟨_, _, _, _, h⟩ := finalReply_ctl s tk code len r; rw [h]
@[simp] theorem State.finalReply_ctl_fwReady (tk code len r : Nat) : (s.finalReply tk code len r).ctl.fwReady = s.ctl.fwReady := by
  obtain ⟨_, _, _, _, h⟩ := finalReply_ctl s tk code len r; rw [h]
@[simp] theorem State.finalReply_ctl_restarting (tk code len r : Nat) : (s.finalReply tk code len r).ctl.restarting = s.ctl.restarting := by
  obtain ⟨_, _, _, _, h⟩ := finalReply_ctl s tk code len r; rw [h]
@[simp] theorem State.finalReply_ctl_switch (tk code len r : Nat) : (s.finalReply tk code len r).ctl.switch = s.ctl.switch := by
  obtain ⟨_, _, _, _, h⟩ := finalReply_ctl s tk code len r; rw [h]
@[simp] theorem State.finalReply_ctl_views (tk code len r : Nat) : (s.finalReply tk code len r).ctl.views = s.ctl.views := by
  obtain ⟨_, _, _, _, h⟩ := finalReply_ctl s tk code len r; rw [h]
@[simp] theorem State.finalReply_ctl_faultLog (tk code len r : Nat) : (s.finalReply tk code len r).ctl.faultLog = s.ctl.faultLog := by
  obtain ⟨_, _, _, _, h⟩ := finalReply_ctl s tk code len r; rw [h]
@[simp] theorem State.finalReply_ctl_faultNext (tk code len r : Nat) : (s.finalReply tk code len r).ctl.faultNext = s.ctl.faultNext := by
  obtain ⟨_, _, _, _, h⟩ := finalReply_ctl s tk code len r; rw [h]
@[simp] theorem State.finalReply_ctl_vfEnable (tk code len r : Nat) : (s.finalReply tk code len r).ctl.vfEnable = s.ctl.vfEnable := by
  obtain ⟨_, _, _, _, h⟩ := finalReply_ctl s tk code len r; rw [h]
@[simp] theorem State.finalReply_ctl_numVfs (tk code len r : Nat) : (s.finalReply tk code len r).ctl.numVfs = s.ctl.numVfs := by
  obtain ⟨_, _, _, _, h⟩ := finalReply_ctl s tk code len r; rw [h]
@[simp] theorem State.finalReply_ctl_ticket (tk code len r : Nat) : (s.finalReply tk code len r).ctl.ticket = s.ctl.ticket := by
  obtain ⟨_, _, _, _, h⟩ := finalReply_ctl s tk code len r; rw [h]
@[simp] theorem State.finalReply_ctl_claims (tk code len r : Nat) : (s.finalReply tk code len r).ctl.claims = s.ctl.claims := by
  obtain ⟨_, _, _, _, h⟩ := finalReply_ctl s tk code len r; rw [h]
@[simp] theorem State.finalReply_ctl_service (tk code len r : Nat) : (s.finalReply tk code len r).ctl.service = s.ctl.service := by
  obtain ⟨_, _, _, _, h⟩ := finalReply_ctl s tk code len r; rw [h]
@[simp] theorem State.finalReply_ctl_staged (tk code len r : Nat) : (s.finalReply tk code len r).ctl.staged = s.ctl.staged := by
  obtain ⟨_, _, _, _, h⟩ := finalReply_ctl s tk code len r; rw [h]
@[simp] theorem State.finalReply_ctl_reached (tk code len r : Nat) : (s.finalReply tk code len r).ctl.reached = s.ctl.reached := by
  obtain ⟨_, _, _, _, h⟩ := finalReply_ctl s tk code len r; rw [h]
@[simp] theorem State.finalReply_ctl_reachedAt (tk code len r : Nat) : (s.finalReply tk code len r).ctl.reachedAt = s.ctl.reachedAt := by
  obtain ⟨_, _, _, _, h⟩ := finalReply_ctl s tk code len r; rw [h]
@[simp] theorem State.finalReply_ctl_tables (tk code len r : Nat) : (s.finalReply tk code len r).ctl.tables = s.ctl.tables := by
  obtain ⟨_, _, _, _, h⟩ := finalReply_ctl s tk code len r; rw [h]
@[simp] theorem State.finalReply_ctl_staging (tk code len r : Nat) : (s.finalReply tk code len r).ctl.staging = s.ctl.staging := by
  obtain ⟨_, _, _, _, h⟩ := finalReply_ctl s tk code len r; rw [h]
@[simp] theorem State.finalReply_ctl_fwA (tk code len r : Nat) : (s.finalReply tk code len r).ctl.fwA = s.ctl.fwA := by
  obtain ⟨_, _, _, _, h⟩ := finalReply_ctl s tk code len r; rw [h]
@[simp] theorem State.finalReply_ctl_fwB (tk code len r : Nat) : (s.finalReply tk code len r).ctl.fwB = s.ctl.fwB := by
  obtain ⟨_, _, _, _, h⟩ := finalReply_ctl s tk code len r; rw [h]
@[simp] theorem State.finalReply_ctl_bootSlot (tk code len r : Nat) : (s.finalReply tk code len r).ctl.bootSlot = s.ctl.bootSlot := by
  obtain ⟨_, _, _, _, h⟩ := finalReply_ctl s tk code len r; rw [h]
@[simp] theorem State.finalReply_ctl_fwFloor (tk code len r : Nat) : (s.finalReply tk code len r).ctl.fwFloor = s.ctl.fwFloor := by
  obtain ⟨_, _, _, _, h⟩ := finalReply_ctl s tk code len r; rw [h]
@[simp] theorem State.finalReply_ctl_revoked (tk code len r : Nat) : (s.finalReply tk code len r).ctl.revoked = s.ctl.revoked := by
  obtain ⟨_, _, _, _, h⟩ := finalReply_ctl s tk code len r; rw [h]
@[simp] theorem State.finalReply_ctl_partners (tk code len r : Nat) : (s.finalReply tk code len r).ctl.partners = s.ctl.partners := by
  obtain ⟨_, _, _, _, h⟩ := finalReply_ctl s tk code len r; rw [h]
@[simp] theorem State.finalReply_ctl_hostMem (tk code len r : Nat) : (s.finalReply tk code len r).ctl.hostMem = s.ctl.hostMem := by
  obtain ⟨_, _, _, _, h⟩ := finalReply_ctl s tk code len r; rw [h]
@[simp] theorem State.finalReply_ctl_hostFault (tk code len r : Nat) : (s.finalReply tk code len r).ctl.hostFault = s.ctl.hostFault := by
  obtain ⟨_, _, _, _, h⟩ := finalReply_ctl s tk code len r; rw [h]
@[simp] theorem State.finalReply_ctl_aer (tk code len r : Nat) : (s.finalReply tk code len r).ctl.aer = s.ctl.aer := by
  obtain ⟨_, _, _, _, h⟩ := finalReply_ctl s tk code len r; rw [h]
@[simp] theorem State.finalReply_pw_step (tk code len r : Nat) : (s.finalReply tk code len r).pw.step = s.pw.step := by
  obtain ⟨c, p, h⟩ := finalReply_frame s tk code len r; rw [h]
@[simp] theorem State.finalReply_pw_start (tk code len r : Nat) : (s.finalReply tk code len r).pw.start = s.pw.start := by
  obtain ⟨c, p, h⟩ := finalReply_frame s tk code len r; rw [h]
@[simp] theorem State.finalReply_pw_tickets (tk code len r : Nat) : (s.finalReply tk code len r).pw.tickets = s.pw.tickets := by
  obtain ⟨c, p, h⟩ := finalReply_frame s tk code len r; rw [h]
@[simp] theorem State.finalReply_pw_thenTarget (tk code len r : Nat) : (s.finalReply tk code len r).pw.thenTarget = s.pw.thenTarget := by
  obtain ⟨c, p, h⟩ := finalReply_frame s tk code len r; rw [h]
@[simp] theorem State.finalReply_pw_reason (tk code len r : Nat) : (s.finalReply tk code len r).pw.reason = s.pw.reason := by
  obtain ⟨c, p, h⟩ := finalReply_frame s tk code len r; rw [h]
@[simp] theorem State.finalReply_pw_exitWanted (tk code len r : Nat) : (s.finalReply tk code len r).pw.exitWanted = s.pw.exitWanted := by
  obtain ⟨c, p, h⟩ := finalReply_frame s tk code len r; rw [h]

/-- With no DARK return timer running, the power state is as it was. -/
theorem State.finalReply_pw_of_none (h : s.pw.returnFrom = none) (tk code len r : Nat) : (s.finalReply tk code len r).pw = s.pw := by
  unfold State.finalReply State.writeFinal
  split
  · split <;> rfl
  · split <;> simp [State.writeReply, State.setWin, h]

/-- Windows other than the command's keep everything. -/
theorem State.finalReply_win_other {tk : Nat} {f : Flight} (h : s.flight? tk = some f) {w : Nat} (hw : w ≠ f.cmd.win) (code len r : Nat) :
    (s.finalReply tk code len r).win w = s.win w := by
  unfold State.finalReply State.writeFinal
  split
  · split <;> rfl
  · rw [h]; dsimp only; split <;> simp [State.writeReply, State.setWin, State.win, SMap.get_set_other _ _ hw]

/-- The command's window changes in its reply record, REPLY_READY and SLOT_BUSY only. -/
theorem State.finalReply_win_same (hd : s.aipexDown = false) {tk : Nat} {f : Flight} (h : s.flight? tk = some f) (code len r : Nat) :
    (s.finalReply tk code len r).win f.cmd.win = { s.win f.cmd.win with
      replies := SMap.set replyDef (s.win f.cmd.win).replies f.cmd.slot (s.replyFor f true code len r)
      ready := setBit (s.win f.cmd.win).ready f.cmd.slot
      busy := clrBit (s.win f.cmd.win).busy f.cmd.slot } := by
  rw [State.finalReply_up s hd]; unfold State.writeFinal; rw [h]; dsimp only
  split <;> simp [State.writeReply, State.setWin, State.win, State.replyFor]

/-- The final reply answers the command. -/
theorem finalReply_answered (hd : s.aipexDown = false) {tk : Nat} {f : Flight} (h : s.flight? tk = some f) {code : Nat} (hc : code < 256) (len r : Nat) :
    Answered f.opcode f.cmd code len r (s.finalReply tk code len r) := by
  unfold Answered State.replyTo
  rw [State.finalReply_win_same s hd h]
  simp only [SMap.get_set_same, testBit_setBit_same, testBit_clrBit_same, and_true, State.replyFor]
  exact ⟨trivial, statusWord_code s _ hc⟩

theorem State.finalReply_flights (hd : s.aipexDown = false) {tk : Nat} {f : Flight} (h : s.flight? tk = some f) (code len r : Nat) :
    (s.finalReply tk code len r).ctl.flights = s.ctl.flights.filter fun g => g.ticket != tk := by
  rw [State.finalReply_up s hd]; unfold State.writeFinal; rw [h]; dsimp only; split <;> rfl

/-! ### An accepted command starts -/

/-- The privilege of a client as Aipex notes it. -/
def State.privOf (s : State) (c : Cmd) : Bool := c.win == 0 || (c.win == 64 && s.busPrivileged)

/-- The command in progress that `c` becomes. -/
def State.flightOf (s : State) (op : Nat) (c : Cmd) : Flight := { ticket := s.newTicket, opcode := op, cmd := c, priv := s.privOf c, started := true }

/-- The state in which the meaning of `c` begins: its slot is written and busy, and it is in progress. -/
def State.entered (s : State) (op : Nat) (c : Cmd) : State :=
  let x := s.win c.win
  let s1 := hostOverlay op c (s.setWin c.win { x with slots := putBytes zeroByte x.slots (c.slot * 256) (slotBytes op c) })
  ((s1.ring' c.win c.slot (c.win == 64 && s.busPrivileged)).take op c).2.startFlight s.newTicket

/-- What the meaning gives: its state, and the final reply unless the command waits. -/
def settled (tk : Nat) (r : State × Ans) : State :=
  match r.2 with
  | .done code len result => r.1.finalReply tk code len result
  | .wait => r.1

theorem foldl_max_ge (l : List Flight) : ∀ m, m ≤ l.foldl (fun m f => max m (f.ticket + 1)) m := by
  induction l with
  | nil => intro m; exact Nat.le_refl m
  | cons f l ih => intro m; exact Nat.le_trans (Nat.le_max_left m _) (ih _)

theorem lt_foldl_max {l : List Flight} {g : Flight} (h : g ∈ l) : ∀ m, g.ticket < l.foldl (fun m f => max m (f.ticket + 1)) m := by
  induction l with
  | nil => cases h
  | cons f l ih =>
    intro m
    rcases List.mem_cons.1 h with rfl | h
    · exact Nat.lt_of_lt_of_le (by omega) (foldl_max_ge l (max m (g.ticket + 1)))
    · exact ih h _

/-- No command in progress has the new ticket. -/
theorem lt_newTicket {g : Flight} (h : g ∈ s.ctl.flights) : g.ticket < s.newTicket := lt_foldl_max h _

/-! ### Fields of the state in which a meaning begins -/

theorem hostOverlay_frame (op : Nat) (c : Cmd) : ∃ m, hostOverlay op c s = { s with ctl := { s.ctl with hostMem := m } } := by
  unfold hostOverlay
  split
  · split
    · exact ⟨_, rfl⟩
    · exact ⟨_, rfl⟩
  · exact ⟨_, rfl⟩

theorem ring'_frame (w k : Nat) (b : Bool) : ∃ m, s.ring' w k b = { s with ctl := { s.ctl with wins := m } } := ⟨_, rfl⟩

theorem take_frame (op : Nat) (c : Cmd) : ∃ m k f, (s.take op c).2 = { s with ctl := { s.ctl with wins := m, ticket := k, flights := f } } := ⟨_, _, _, rfl⟩

theorem startFlight_frame (tk : Nat) : ∃ f, s.startFlight tk = { s with ctl := { s.ctl with flights := f } } := ⟨_, rfl⟩

/-- All that starting a command changes before its meaning runs. -/
theorem entered_frame (op : Nat) (c : Cmd) : ∃ w m k f, s.entered op c =
    { s with ctl := { s.ctl with wins := w, hostMem := m, ticket := k, flights := f } } := by
  unfold State.entered
  dsimp only
  generalize s.newTicket = tk
  obtain ⟨m1, h1⟩ := hostOverlay_frame (s.setWin c.win { s.win c.win with
    slots := putBytes zeroByte (s.win c.win).slots (c.slot * 256) (slotBytes op c) }) op c
  rw [h1]
  generalize putBytes zeroByte (s.win c.win).slots (c.slot * 256) (slotBytes op c) = l
  obtain ⟨m2, h2⟩ := ring'_frame ({ (s.setWin c.win { s.win c.win with slots := l }) with
    ctl := { (s.setWin c.win { s.win c.win with slots := l }).ctl with hostMem := m1 } }) c.win c.slot (c.win == 64 && s.busPrivileged)
  rw [h2]
  obtain ⟨m3, k, f, h3⟩ := take_frame ({ (s.setWin c.win { s.win c.win with slots := l }) with
    ctl := { (s.setWin c.win { s.win c.win with slots := l }).ctl with hostMem := m1, wins := m2 } }) op c
  rw [h3]
  obtain ⟨f', h4⟩ := startFlight_frame ({ (s.setWin c.win { s.win c.win with slots := l }) with
    ctl := { (s.setWin c.win { s.win c.win with slots := l }).ctl with hostMem := m1, wins := m3, ticket := k, flights := f } }) tk
  rw [h4]
  exact ⟨_, _, _, _, rfl⟩

@[simp] theorem State.entered_pending (op : Nat) (c : Cmd) : (s.entered op c).pending = s.pending := by
  obtain ⟨_, _, _, _, h⟩ := entered_frame s op c; rw [h]
@[simp] theorem State.entered_now (op : Nat) (c : Cmd) : (s.entered op c).now = s.now := by
  obtain ⟨_, _, _, _, h⟩ := entered_frame s op c; rw [h]
@[simp] theorem State.entered_free (op : Nat) (c : Cmd) : (s.entered op c).free = s.free := by
  obtain ⟨_, _, _, _, h⟩ := entered_frame s op c; rw [h]
@[simp] theorem State.entered_params (op : Nat) (c : Cmd) : (s.entered op c).params = s.params := by
  obtain ⟨_, _, _, _, h⟩ := entered_frame s op c; rw [h]
@[simp] theorem State.entered_sent (op : Nat) (c : Cmd) : (s.entered op c).sent = s.sent := by
  obtain ⟨_, _, _, _, h⟩ := entered_frame s op c; rw [h]
@[simp] theorem State.entered_ring (op : Nat) (c : Cmd) : (s.entered op c).ring = s.ring := by
  obtain ⟨_, _, _, _, h⟩ := entered_frame s op c; rw [h]
@[simp] theorem State.entered_hk (op : Nat) (c : Cmd) : (s.entered op c).hk = s.hk := by
  obtain ⟨_, _, _, _, h⟩ := entered_frame s op c; rw [h]
@[simp] theorem State.entered_bus (op : Nat) (c : Cmd) : (s.entered op c).bus = s.bus := by
  obtain ⟨_, _, _, _, h⟩ := entered_frame s op c; rw [h]
@[simp] theorem State.entered_cq (op : Nat) (c : Cmd) : (s.entered op c).cq = s.cq := by
  obtain ⟨_, _, _, _, h⟩ := entered_frame s op c; rw [h]
@[simp] theorem State.entered_cam (op : Nat) (c : Cmd) : (s.entered op c).cam = s.cam := by
  obtain ⟨_, _, _, _, h⟩ := entered_frame s op c; rw [h]
@[simp] theorem State.entered_pipes (op : Nat) (c : Cmd) : (s.entered op c).pipes = s.pipes := by
  obtain ⟨_, _, _, _, h⟩ := entered_frame s op c; rw [h]
@[simp] theorem State.entered_colour (op : Nat) (c : Cmd) : (s.entered op c).colour = s.colour := by
  obtain ⟨_, _, _, _, h⟩ := entered_frame s op c; rw [h]
@[simp] theorem State.entered_dram (op : Nat) (c : Cmd) : (s.entered op c).dram = s.dram := by
  obtain ⟨_, _, _, _, h⟩ := entered_frame s op c; rw [h]
@[simp] theorem State.entered_cxl (op : Nat) (c : Cmd) : (s.entered op c).cxl = s.cxl := by
  obtain ⟨_, _, _, _, h⟩ := entered_frame s op c; rw [h]
@[simp] theorem State.entered_cv (op : Nat) (c : Cmd) : (s.entered op c).cv = s.cv := by
  obtain ⟨_, _, _, _, h⟩ := entered_frame s op c; rw [h]
@[simp] theorem State.entered_mw (op : Nat) (c : Cmd) : (s.entered op c).mw = s.mw := by
  obtain ⟨_, _, _, _, h⟩ := entered_frame s op c; rw [h]
@[simp] theorem State.entered_ln (op : Nat) (c : Cmd) : (s.entered op c).ln = s.ln := by
  obtain ⟨_, _, _, _, h⟩ := entered_frame s op c; rw [h]
@[simp] theorem State.entered_fr (op : Nat) (c : Cmd) : (s.entered op c).fr = s.fr := by
  obtain ⟨_, _, _, _, h⟩ := entered_frame s op c; rw [h]
@[simp] theorem State.entered_vc (op : Nat) (c : Cmd) : (s.entered op c).vc = s.vc := by
  obtain ⟨_, _, _, _, h⟩ := entered_frame s op c; rw [h]
@[simp] theorem State.entered_au (op : Nat) (c : Cmd) : (s.entered op c).au = s.au := by
  obtain ⟨_, _, _, _, h⟩ := entered_frame s op c; rw [h]
@[simp] theorem State.entered_pw (op : Nat) (c : Cmd) : (s.entered op c).pw = s.pw := by
  obtain ⟨_, _, _, _, h⟩ := entered_frame s op c; rw [h]
@[simp] theorem State.entered_getP (op : Nat) (c : Cmd) (i j : Nat) : (s.entered op c).getP i j = s.getP i j := by simp [State.getP]
@[simp] theorem State.entered_ctl_boot (op : Nat) (c : Cmd) : (s.entered op c).ctl.boot = s.ctl.boot := by
  obtain ⟨_, _, _, _, h⟩ := entered_frame s op c; rw [h]
@[simp] theorem State.entered_ctl_perstN (op : Nat) (c : Cmd) : (s.entered op c).ctl.perstN = s.ctl.perstN := by
  obtain ⟨_, _, _, _, h⟩ := entered_frame s op c; rw [h]
@[simp] theorem State.entered_ctl_fwReady (op : Nat) (c : Cmd) : (s.entered op c).ctl.fwReady = s.ctl.fwReady := by
  obtain ⟨_, _, _, _, h⟩ := entered_frame s op c; rw [h]
@[simp] theorem State.entered_ctl_restarting (op : Nat) (c : Cmd) : (s.entered op c).ctl.restarting = s.ctl.restarting := by
  obtain ⟨_, _, _, _, h⟩ := entered_frame s op c; rw [h]
@[simp] theorem State.entered_ctl_switch (op : Nat) (c : Cmd) : (s.entered op c).ctl.switch = s.ctl.switch := by
  obtain ⟨_, _, _, _, h⟩ := entered_frame s op c; rw [h]
@[simp] theorem State.entered_ctl_views (op : Nat) (c : Cmd) : (s.entered op c).ctl.views = s.ctl.views := by
  obtain ⟨_, _, _, _, h⟩ := entered_frame s op c; rw [h]
@[simp] theorem State.entered_ctl_heldReplies (op : Nat) (c : Cmd) : (s.entered op c).ctl.heldReplies = s.ctl.heldReplies := by
  obtain ⟨_, _, _, _, h⟩ := entered_frame s op c; rw [h]
@[simp] theorem State.entered_ctl_faultLog (op : Nat) (c : Cmd) : (s.entered op c).ctl.faultLog = s.ctl.faultLog := by
  obtain ⟨_, _, _, _, h⟩ := entered_frame s op c; rw [h]
@[simp] theorem State.entered_ctl_faultNext (op : Nat) (c : Cmd) : (s.entered op c).ctl.faultNext = s.ctl.faultNext := by
  obtain ⟨_, _, _, _, h⟩ := entered_frame s op c; rw [h]
@[simp] theorem State.entered_ctl_vfEnable (op : Nat) (c : Cmd) : (s.entered op c).ctl.vfEnable = s.ctl.vfEnable := by
  obtain ⟨_, _, _, _, h⟩ := entered_frame s op c; rw [h]
@[simp] theorem State.entered_ctl_numVfs (op : Nat) (c : Cmd) : (s.entered op c).ctl.numVfs = s.ctl.numVfs := by
  obtain ⟨_, _, _, _, h⟩ := entered_frame s op c; rw [h]
@[simp] theorem State.entered_ctl_claims (op : Nat) (c : Cmd) : (s.entered op c).ctl.claims = s.ctl.claims := by
  obtain ⟨_, _, _, _, h⟩ := entered_frame s op c; rw [h]
@[simp] theorem State.entered_ctl_service (op : Nat) (c : Cmd) : (s.entered op c).ctl.service = s.ctl.service := by
  obtain ⟨_, _, _, _, h⟩ := entered_frame s op c; rw [h]
@[simp] theorem State.entered_ctl_staged (op : Nat) (c : Cmd) : (s.entered op c).ctl.staged = s.ctl.staged := by
  obtain ⟨_, _, _, _, h⟩ := entered_frame s op c; rw [h]
@[simp] theorem State.entered_ctl_reached (op : Nat) (c : Cmd) : (s.entered op c).ctl.reached = s.ctl.reached := by
  obtain ⟨_, _, _, _, h⟩ := entered_frame s op c; rw [h]
@[simp] theorem State.entered_ctl_reachedAt (op : Nat) (c : Cmd) : (s.entered op c).ctl.reachedAt = s.ctl.reachedAt := by
  obtain ⟨_, _, _, _, h⟩ := entered_frame s op c; rw [h]
@[simp] theorem State.entered_ctl_tables (op : Nat) (c : Cmd) : (s.entered op c).ctl.tables = s.ctl.tables := by
  obtain ⟨_, _, _, _, h⟩ := entered_frame s op c; rw [h]
@[simp] theorem State.entered_ctl_staging (op : Nat) (c : Cmd) : (s.entered op c).ctl.staging = s.ctl.staging := by
  obtain ⟨_, _, _, _, h⟩ := entered_frame s op c; rw [h]
@[simp] theorem State.entered_ctl_fwA (op : Nat) (c : Cmd) : (s.entered op c).ctl.fwA = s.ctl.fwA := by
  obtain ⟨_, _, _, _, h⟩ := entered_frame s op c; rw [h]
@[simp] theorem State.entered_ctl_fwB (op : Nat) (c : Cmd) : (s.entered op c).ctl.fwB = s.ctl.fwB := by
  obtain ⟨_, _, _, _, h⟩ := entered_frame s op c; rw [h]
@[simp] theorem State.entered_ctl_bootSlot (op : Nat) (c : Cmd) : (s.entered op c).ctl.bootSlot = s.ctl.bootSlot := by
  obtain ⟨_, _, _, _, h⟩ := entered_frame s op c; rw [h]
@[simp] theorem State.entered_ctl_fwFloor (op : Nat) (c : Cmd) : (s.entered op c).ctl.fwFloor = s.ctl.fwFloor := by
  obtain ⟨_, _, _, _, h⟩ := entered_frame s op c; rw [h]
@[simp] theorem State.entered_ctl_revoked (op : Nat) (c : Cmd) : (s.entered op c).ctl.revoked = s.ctl.revoked := by
  obtain ⟨_, _, _, _, h⟩ := entered_frame s op c; rw [h]
@[simp] theorem State.entered_ctl_partners (op : Nat) (c : Cmd) : (s.entered op c).ctl.partners = s.ctl.partners := by
  obtain ⟨_, _, _, _, h⟩ := entered_frame s op c; rw [h]
@[simp] theorem State.entered_ctl_hostFault (op : Nat) (c : Cmd) : (s.entered op c).ctl.hostFault = s.ctl.hostFault := by
  obtain ⟨_, _, _, _, h⟩ := entered_frame s op c; rw [h]
@[simp] theorem State.entered_ctl_aer (op : Nat) (c : Cmd) : (s.entered op c).ctl.aer = s.ctl.aer := by
  obtain ⟨_, _, _, _, h⟩ := entered_frame s op c; rw [h]

theorem newTicket_congr {s t : State} (h : t.ctl.flights = s.ctl.flights) (g : t.ctl.ticket = s.ctl.ticket) : t.newTicket = s.newTicket := by
  simp [State.newTicket, h, g]

theorem map_start_of_lt {tk : Nat} : ∀ {l : List Flight}, (∀ g ∈ l, g.ticket < tk) →
    l.map (fun f => if f.ticket = tk then { f with started := true } else f) = l
  | [], _ => rfl
  | f :: l, h => by
    have hf := h f List.mem_cons_self
    rw [List.map_cons, map_start_of_lt fun g hg => h g (List.mem_cons_of_mem _ hg), if_neg (by omega)]

theorem hostOverlay_win (op : Nat) (c : Cmd) (w : Nat) : (hostOverlay op c s).win w = s.win w := by
  obtain ⟨m, h⟩ := hostOverlay_frame s op c; rw [h]; rfl

theorem State.win_ring' (w k : Nat) (b : Bool) (n : Nat) : (s.ring' w k b).win n = if n = w then
    { s.win w with busy := setBit (s.win w).busy k, rung := setBit (s.win w).rung k
                   rungPriv := if b then setBit (s.win w).rungPriv k else clrBit (s.win w).rungPriv k } else s.win n :=
  State.win_setWin s w _ n

theorem State.win_take (op : Nat) (c : Cmd) (n : Nat) : (s.take op c).2.win n = if n = c.win then
    { s.win c.win with rung := clrBit (s.win c.win).rung c.slot } else s.win n := State.win_setWin s c.win _ n

/-- The command in progress that taking a rung slot makes. -/
theorem take_ring'_flight {t : State} {op : Nat} {c : Cmd} {b : Bool} (h : t.newTicket = s.newTicket) (hb : b = (c.win == 64 && s.busPrivileged)) :
    ((t.ring' c.win c.slot b).take op c).1 = { s.flightOf op c with started := false } := by
  have e : ((t.ring' c.win c.slot b).win c.win).rungPriv.testBit c.slot = b := by
    rw [State.win_ring', if_pos rfl]
    cases b <;> simp [testBit_clrBit_same]
  have e2 : (t.ring' c.win c.slot b).newTicket = s.newTicket := h
  show ({ ticket := (t.ring' c.win c.slot b).newTicket, opcode := op, cmd := c, priv := c.win == 0 || (c.win == 64 &&
    ((t.ring' c.win c.slot b).win c.win).rungPriv.testBit c.slot) } : Flight) = _
  rw [e, e2, hb]
  by_cases h64 : c.win = 64 <;> simp [State.flightOf, State.privOf, h64]

theorem State.entered_flights (op : Nat) (c : Cmd) : (s.entered op c).ctl.flights = s.ctl.flights ++ [s.flightOf op c] := by
  have key : ∀ t : State, t.ctl.flights = s.ctl.flights → t.ctl.ticket = s.ctl.ticket →
      (((t.ring' c.win c.slot (c.win == 64 && s.busPrivileged)).take op c).2.startFlight s.newTicket).ctl.flights
        = s.ctl.flights ++ [s.flightOf op c] := by
    intro t h g
    show (t.ctl.flights ++ [((t.ring' c.win c.slot (c.win == 64 && s.busPrivileged)).take op c).1]).map _ = _
    rw [take_ring'_flight s (newTicket_congr h g) rfl, h, List.map_append, map_start_of_lt fun x hx => lt_newTicket s hx]
    simp [State.flightOf]
  unfold State.entered
  dsimp only
  obtain ⟨m, h⟩ := hostOverlay_frame (s.setWin c.win { s.win c.win with
    slots := putBytes zeroByte (s.win c.win).slots (c.slot * 256) (slotBytes op c) }) op c
  exact key _ (by rw [h]; rfl) (by rw [h]; rfl)

theorem State.entered_flight? (op : Nat) (c : Cmd) : (s.entered op c).flight? s.newTicket = some (s.flightOf op c) := by
  rw [State.flight?, State.entered_flights, List.find?_append, List.find?_eq_none.2]
  · simp [State.flightOf]
  · intro g hg; have := lt_newTicket s hg; simp; omega

theorem State.entered_win_other (op : Nat) (c : Cmd) {w : Nat} (h : w ≠ c.win) : (s.entered op c).win w = s.win w := by
  show State.win (State.take op c _).2 w = _
  simp only [State.win_take, State.win_ring', hostOverlay_win, State.win_setWin, h, if_false]

/-- The command's window: the slot is written and busy. -/
theorem State.entered_win_same (op : Nat) (c : Cmd) : (s.entered op c).win c.win = { s.win c.win with
    slots := putBytes zeroByte (s.win c.win).slots (c.slot * 256) (slotBytes op c)
    busy := setBit (s.win c.win).busy c.slot
    rung := clrBit (setBit (s.win c.win).rung c.slot) c.slot
    rungPriv := if c.win == 64 && s.busPrivileged then setBit (s.win c.win).rungPriv c.slot else clrBit (s.win c.win).rungPriv c.slot } := by
  show State.win (State.take op c _).2 c.win = _
  simp only [State.win_take, State.win_ring', hostOverlay_win, State.win_setWin, if_true]

/-- Host memory as the command finds it: what its own row says stands there is laid over it. -/
theorem State.entered_hostMem (op : Nat) (c : Cmd) (h : c.host = [] ∨ hostAddrField op = none) : (s.entered op c).ctl.hostMem = s.ctl.hostMem := by
  have key : ∀ (t : State) (b : Bool) (tk : Nat), (((t.ring' c.win c.slot b).take op c).2.startFlight tk).ctl.hostMem = t.ctl.hostMem :=
    fun _ _ _ => rfl
  unfold State.entered
  dsimp only
  rw [key]
  unfold hostOverlay
  rcases h with h | h
  · split
    · simp only [h, List.isEmpty_nil, if_true]; rfl
    · rfl
  · rw [h]; rfl

/-! ### An accepted command runs -/

theorem powerHolds_of_awake {op : Nat} (h : s.awakeFor op) (f : Flight) (hf : f.opcode = op) : s.powerHolds f = false := by
  rcases h with ⟨h1, h2⟩ | h
  · simp [State.powerHolds, h1, h2]
  · simp [State.powerHolds, hf, h]

@[simp] theorem State.entered_winState (op : Nat) (c : Cmd) (w : Nat) : (s.entered op c).winState w = s.winState w := by
  simp only [State.winState, State.entered_ctl_boot]
  by_cases h : w = c.win
  · subst h; rw [State.entered_win_same]
  · rw [State.entered_win_other s op c h]

@[simp] theorem State.entered_fwSupports (op : Nat) (c : Cmd) (o : Nat) : (s.entered op c).fwSupports o = s.fwSupports o := by
  simp [State.fwSupports, State.fwCurrent]

/-- A write to a slot that takes it stores the bytes and nothing else. -/
theorem writeSlot_free {w k : Nat} (o : Nat) (l : List Byte) (h : ((s.win w).busy.testBit k || (w == 64 && (s.win w).ready.testBit k)) = false) :
    s.writeSlot w k o l = s.setWin w { s.win w with slots := putBytes zeroByte (s.win w).slots (k * 256 + o) l } := by
  unfold State.writeSlot; simp only [h, Bool.false_eq_true, if_false]

/-- A command that can be taken is checked and runs in the state `entered`. -/
theorem submit_takes {spec : OpSpec} {body : Body} {c : Cmd} (h : s.takes spec.op c) :
    submit spec body c s = match (s.entered spec.op c).checkCmd spec (s.flightOf spec.op c) with
      | some code => (s.entered spec.op c).finalReply s.newTicket code 0 0
      | none => settled s.newTicket (body { c := c, tk := s.newTicket, priv := s.privOf c } (s.entered spec.op c)) := by
  obtain ⟨_, hr, hs, hf, ha, hn⟩ := h
  have key : ∀ t : State, t = hostOverlay spec.op c (s.setWin c.win { s.win c.win with
        slots := putBytes zeroByte (s.win c.win).slots (c.slot * 256) (slotBytes spec.op c) }) →
      (t.ctl.flights = s.ctl.flights ∧ t.ctl.ticket = s.ctl.ticket ∧ t.pw = s.pw ∧ t.params = s.params) := by
    intro t ht
    obtain ⟨m, hm⟩ := hostOverlay_frame (s.setWin c.win { s.win c.win with
      slots := putBytes zeroByte (s.win c.win).slots (c.slot * 256) (slotBytes spec.op c) }) spec.op c
    rw [ht, hm]; exact ⟨rfl, rfl, rfl, rfl⟩
  obtain ⟨k1, k2, k3, k4⟩ := key _ rfl
  generalize ht : hostOverlay spec.op c (s.setWin c.win { s.win c.win with
        slots := putBytes zeroByte (s.win c.win).slots (c.slot * 256) (slotBytes spec.op c) }) = t at k1 k2 k3 k4
  have he : s.entered spec.op c = ((t.ring' c.win c.slot (c.win == 64 && s.busPrivileged)).take spec.op c).2.startFlight s.newTicket := by
    simp only [State.entered, ht]
  set r := (t.ring' c.win c.slot (c.win == 64 && s.busPrivileged)).take spec.op c with hrdef
  have hfl : r.1 = { s.flightOf spec.op c with started := false } := take_ring'_flight s (newTicket_congr k1 k2) rfl
  have hpow : r.2.powerHolds r.1 = false := by
    refine powerHolds_of_awake (op := spec.op) r.2 ?_ r.1 (by rw [hfl]; rfl)
    have e1 : r.2.pw = s.pw := k3
    have e2 : r.2.powerState = s.powerState := by
      have : r.2.params = s.params := k4
      simp [State.powerState, State.getP, this]
    rcases ha with ⟨a1, a2⟩ | a
    · exact .inl ⟨by rw [e1]; exact a1, by rw [e2]; exact a2⟩
    · exact .inr a
  have hfence : r.2.fencesOpen r.1 = true := by
    have e : r.2.ctl.flights = s.ctl.flights ++ [r.1] := by
      show t.ctl.flights ++ [_] = _; rw [k1]; rfl
    simp only [State.fencesOpen, e, List.all_append, List.all_cons, List.all_nil, List.any_append, List.any_cons, List.any_nil, Bool.or_false,
      Bool.and_true, Bool.and_eq_true, List.all_eq_true]
    constructor
    · intro g hg
      by_cases hw : g.cmd.win = c.win
      · obtain ⟨g1, g2, g3, g4, g5⟩ := hn g hg hw
        have k : (g.fenceBefore && (s.ctl.flights.any (fun h => g.earlier h) || g.earlier r.1)) = false := by
          cases hb : g.fenceBefore
          · rfl
          · have a1 : s.ctl.flights.any (fun h => g.earlier h) = false := by
              rw [List.any_eq_false]; intro x hx; simp [g5 hb x hx]
            have a2 : g.earlier r.1 = false := by
              have := lt_newTicket s hg
              simp only [hfl, State.flightOf, Flight.earlier, Bool.and_eq_false_imp, decide_eq_false_iff_not]; omega
            simp [a1, a2]
        have hb0 : r.1.fenceBefore = false := by simp [hfl, State.flightOf, Flight.fenceBefore, g2, g3, g4]
        rw [hb0, g1, k]; simp
      · simp [hfl, State.flightOf, Flight.earlier, hw]
    · simp [Flight.earlier]
  have hbz : ((s.win c.win).busy.testBit c.slot || (c.win == 64 && (s.win c.win).ready.testBit c.slot)) = false := by
    simp only [State.slotFree, Bool.and_eq_true, Bool.not_eq_true'] at hs
    simp [hs.1, hs.2]
  have hws : s.writeSlot c.win c.slot 0 (slotBytes spec.op c) = s.setWin c.win { s.win c.win with
        slots := putBytes zeroByte (s.win c.win).slots (c.slot * 256) (slotBytes spec.op c) } := by
    rw [writeSlot_free s 0 _ hbz, Nat.add_zero (c.slot * 256)]
  unfold submit
  rw [hws]
  simp only [hr, hs, hf, Bool.not_true, Bool.false_eq_true, if_false, if_true, ht]
  rw [← hrdef]
  simp only [tryFlight, hpow, hfence, Bool.false_eq_true, if_false, if_true, runFlight]
  have htick : r.1.ticket = s.newTicket := by rw [hfl]; rfl
  rw [htick, ← he]
  have hc : (s.entered spec.op c).checkCmd spec r.1 = (s.entered spec.op c).checkCmd spec (s.flightOf spec.op c) := by
    rw [hfl]; rfl
  rw [hc]
  have e1 : r.1.cmd = c := by rw [hfl]; rfl
  have e2 : r.1.priv = s.privOf c := by rw [hfl]; rfl
  rw [e1, e2]
  rfl

/-- The checks of R62 pass for a command whose header, window, client and operands are sound. -/
theorem checkCmd_none {spec : OpSpec} {c : Cmd} (hh : c.headerOk) (hf : s.fwSupports spec.op = true)
    (hw : (s.entered spec.op c).windowCheck spec.op c = none) (hp : (spec.priv || spec.privIf c) = true → s.privilegedClient c)
    (hl : spec.len c = true) (hr : (c.ops % 2 ^ (8 * c.opLen)) &&& spec.rsvd = 0) (hb : c.win = 64 → spec.bus c = true) :
    (s.entered spec.op c).checkCmd spec (s.flightOf spec.op c) = none := by
  obtain ⟨h1, h2, h3, h4, h5⟩ := hh
  have hp' : ((spec.priv || spec.privIf c) && !s.privOf c) = false := by
    cases hq : (spec.priv || spec.privIf c)
    · rfl
    · rcases hp hq with h | ⟨h, h'⟩
      · simp [State.privOf, h]
      · simp [State.privOf, h, h']
  have hb' : (c.win == 64 && !spec.bus c) = false := by
    by_cases h64 : c.win = 64
    · simp [hb h64]
    · simp [h64]
  simp only [State.checkCmd, State.flightOf, h1, State.entered_fwSupports, hf, hw, hp', hb', hl, h3, h4, hr]
  simp; omega

theorem checkCmd_of_accepts {spec : OpSpec} {c : Cmd} (h : s.accepts (spec.priv || spec.privIf c) spec.op c) (hl : spec.len c = true)
    (hr : (c.ops % 2 ^ (8 * c.opLen)) &&& spec.rsvd = 0) (hb : c.win = 64 → spec.bus c = true) :
    (s.entered spec.op c).checkCmd spec (s.flightOf spec.op c) = none := by
  refine checkCmd_none s h.2.1 h.2.2.1 ?_ h.2.2.2.2 hl hr hb
  unfold State.windowCheck
  rcases h.2.2.2.1 with h7 | h7 <;> simp [h7]

/-- An accepted command with sound operands runs, and answers. -/
theorem submit_accepts {spec : OpSpec} {body : Body} {c : Cmd} (h : s.accepts (spec.priv || spec.privIf c) spec.op c) (hl : spec.len c = true)
    (hr : (c.ops % 2 ^ (8 * c.opLen)) &&& spec.rsvd = 0) (hb : c.win = 64 → spec.bus c = true) :
    submit spec body c s = settled s.newTicket (body { c := c, tk := s.newTicket, priv := s.privOf c } (s.entered spec.op c)) := by
  rw [submit_takes s h.1, checkCmd_of_accepts s h hl hr hb]

/-! ### What answering a command leaves alone -/

theorem State.flight?_congr {s t : State} (h : t.ctl.flights = s.ctl.flights) (tk : Nat) : t.flight? tk = s.flight? tk := by
  simp [State.flight?, h]

theorem filter_ticket {tk : Nat} : ∀ {l : List Flight}, (∀ g ∈ l, g.ticket < tk) → l.filter (fun g => g.ticket != tk) = l
  | [], _ => rfl
  | f :: l, h => by
    have hf := h f List.mem_cons_self
    rw [List.filter_cons, if_pos (by simp; omega), filter_ticket fun g hg => h g (List.mem_cons_of_mem _ hg)]

/-- The meaning's state `u` differs from the effect `e` on `s` in the control plane's record of the command only. -/
def Runs (s : State) (op : Nat) (c : Cmd) (e u : State) : Prop :=
  u = { e with ctl := { e.ctl with wins := (s.entered op c).ctl.wins, hostMem := (s.entered op c).ctl.hostMem
                                   ticket := (s.entered op c).ctl.ticket, flights := (s.entered op c).ctl.flights } }
    ∧ e.ctl.wins = s.ctl.wins ∧ e.ctl.hostMem = s.ctl.hostMem ∧ e.ctl.flights = s.ctl.flights ∧ e.aipexDown = s.aipexDown

theorem Runs.win {s e u : State} {op : Nat} {c : Cmd} (h : Runs s op c e u) (w : Nat) : u.win w = (s.entered op c).win w := by
  rw [h.1]; rfl

theorem Runs.flight? {s e u : State} {op : Nat} {c : Cmd} (h : Runs s op c e u) : u.flight? s.newTicket = some (s.flightOf op c) := by
  rw [State.flight?_congr (s := s.entered op c) (by rw [h.1])]; exact s.entered_flight? op c

theorem Runs.up {s e u : State} {op : Nat} {c : Cmd} (h : Runs s op c e u) (hd : s.aipexDown = false) : u.aipexDown = false := by
  rw [← hd, ← h.2.2.2.2, h.1]; rfl

theorem Runs.answered {s e u : State} {op : Nat} {c : Cmd} (h : Runs s op c e u) (hd : s.aipexDown = false) {code : Nat} (hc : code < 256) (len r : Nat) :
    Answered op c code len r (u.finalReply s.newTicket code len r) := finalReply_answered u (h.up hd) h.flight? hc len r

theorem setBit_same_other {m k j : Nat} (h : j ≠ k) : (setBit m k).testBit j = m.testBit j := testBit_setBit_other (Ne.symm h)

theorem clrBit_same_other {m k j : Nat} (h : j ≠ k) : (clrBit m k).testBit j = m.testBit j := testBit_clrBit_other (Ne.symm h)

theorem finalReply_shape (u : State) (hd : u.aipexDown = false) (tk code len r : Nat) : ∃ W F p, u.finalReply tk code len r =
    { u with ctl := { u.ctl with wins := W, flights := F }, pw := { u.pw with returnFrom := p } } := by
  rw [State.finalReply_up u hd]; exact writeFinal_shape u tk code len r

/-- Answering leaves everything but the command's record as its meaning left it. -/
theorem Runs.commandOnly {s e u : State} {op : Nat} {c : Cmd} (h : Runs s op c e u) (hd : s.aipexDown = false) (code len r : Nat) :
    CommandOnly c e (u.finalReply s.newTicket code len r) := by
  have hf := h.flight?
  have hwe : ∀ w, e.win w = s.win w := fun w => by simp only [State.win, h.2.1]
  have hfl : (u.finalReply s.newTicket code len r).ctl.flights = e.ctl.flights := by
    have hu : u.ctl.flights = s.ctl.flights ++ [s.flightOf op c] := by rw [h.1]; exact s.entered_flights op c
    rw [State.finalReply_flights u (h.up hd) hf, hu, List.filter_append, filter_ticket fun g hg => lt_newTicket s hg, h.2.2.2.1]
    simp [State.flightOf]
  have hw : (u.finalReply s.newTicket code len r).win c.win = { u.win c.win with
      replies := SMap.set replyDef (u.win c.win).replies c.slot (u.replyFor (s.flightOf op c) true code len r)
      ready := setBit (u.win c.win).ready c.slot
      busy := clrBit (u.win c.win).busy c.slot } := State.finalReply_win_same u (h.up hd) hf code len r
  refine ⟨?_, fun w hw => ?_, ⟨?_, fun j hj => ?_⟩, fun hh => ?_⟩
  · obtain ⟨W, F, p, hR⟩ := finalReply_shape u (h.up hd) s.newTicket code len r
    rw [hR] at hfl ⊢
    have hF : F = e.ctl.flights := hfl
    rw [hF, h.1]
  · rw [State.finalReply_win_other u hf hw, h.win, State.entered_win_other s op c hw, hwe]
  · rw [hw]
    simp only [h.win, State.entered_win_same, hwe]
  · rw [hw]
    simp only [setBit_same_other hj, clrBit_same_other hj, SMap.get_set_other _ _ hj]
    simp only [h.win, State.entered_win_same, hwe, setBit_same_other hj, clrBit_same_other hj, and_self]
  · rw [State.finalReply_ctl_hostMem, h.1]
    exact (State.entered_hostMem s op c (.inl hh)).trans h.2.2.1.symm

/-- A meaning that does nothing. -/
theorem entered_runs (op : Nat) (c : Cmd) : Runs s op c s (s.entered op c) := by
  refine ⟨?_, rfl, rfl, rfl, rfl⟩
  obtain ⟨_, _, _, _, h⟩ := entered_frame s op c; rw [h]

end Sys2Proof.Machine
end

