-- ==== Sys2Proof/Laws/Commands.lean ====
section
/-! SUPPORT. An accepted mailbox command answers a next state: the lemma that every command's completion goes through. -/

namespace Sys2Proof.Machine

theorem with_pending {t : State} {l : List Instr} (h : t.pending = l) : { t with pending := l } = t := by subst h; rfl

theorem guarded_next {i : Instr} {s t : State} (hi : i.wellFormed = true) (h : t.pending = s.pending) : guarded i s t = .next t := by
  rw [guarded_of_wf s hi, with_pending h]

/-- A checked command that answers at once: its final reply is written, and beside its own record the state is `e`. -/
theorem Runs.completes_of_check {i : Instr} {spec : OpSpec} {body : Body} {c : Cmd} {s e : State} {code len r : Nat} (hi : i.wellFormed = true)
    (ht : s.takes spec.op c) (hk : (s.entered spec.op c).checkCmd spec (s.flightOf spec.op c) = none)
    (h2 : (body { c := c, tk := s.newTicket, priv := s.privOf c } (s.entered spec.op c)).2 = .done code len r) (hc : code < 256)
    (h1 : Runs s spec.op c e (body { c := c, tk := s.newTicket, priv := s.privOf c } (s.entered spec.op c)).1) (hp : e.pending = s.pending) :
    ∃ t, guarded i s (submit spec body c s) = .next t ∧ Answered spec.op c code len r t ∧ CommandOnly c e t := by
  rw [submit_takes s ht, hk]
  dsimp only
  rw [settled, h2]
  have hd := s.aipexDown_of_ready ht.2.2.2.1
  refine ⟨_, guarded_next hi ?_, h1.answered hd hc len r, h1.commandOnly hd code len r⟩
  have := (h1.commandOnly hd code len r).1
  dsimp only
  rw [this, hp]

/-- An accepted command that answers at once. -/
theorem Runs.completes {i : Instr} {spec : OpSpec} {body : Body} {c : Cmd} {s e : State} {code len r : Nat} (hi : i.wellFormed = true)
    (ha : s.accepts (spec.priv || spec.privIf c) spec.op c) (hl : spec.len c = true) (hr : (c.ops % 2 ^ (8 * c.opLen)) &&& spec.rsvd = 0)
    (hb : c.win = 64 → spec.bus c = true)
    (h2 : (body { c := c, tk := s.newTicket, priv := s.privOf c } (s.entered spec.op c)).2 = .done code len r) (hc : code < 256)
    (h1 : Runs s spec.op c e (body { c := c, tk := s.newTicket, priv := s.privOf c } (s.entered spec.op c)).1) (hp : e.pending = s.pending) :
    ∃ t, guarded i s (submit spec body c s) = .next t ∧ Answered spec.op c code len r t ∧ CommandOnly c e t :=
  Runs.completes_of_check hi ha.1 (checkCmd_of_accepts s ha hl hr hb) h2 hc h1 hp

/-- A command that waits: it is in progress, and its meaning's state stands. -/
theorem submit_waits {i : Instr} {spec : OpSpec} {body : Body} {c : Cmd} {s : State} (hi : i.wellFormed = true)
    (ha : s.accepts (spec.priv || spec.privIf c) spec.op c) (hl : spec.len c = true) (hr : (c.ops % 2 ^ (8 * c.opLen)) &&& spec.rsvd = 0)
    (hb : c.win = 64 → spec.bus c = true)
    (h2 : (body { c := c, tk := s.newTicket, priv := s.privOf c } (s.entered spec.op c)).2 = .wait)
    (hp : (body { c := c, tk := s.newTicket, priv := s.privOf c } (s.entered spec.op c)).1.pending = s.pending) :
    guarded i s (submit spec body c s) = .next (body { c := c, tk := s.newTicket, priv := s.privOf c } (s.entered spec.op c)).1 := by
  rw [submit_accepts s ha hl hr hb, settled, h2]
  exact guarded_next hi hp

/-- A command that answers at once with its meaning's state `u`. -/
theorem submit_done {i : Instr} {spec : OpSpec} {body : Body} {c : Cmd} {s : State} {code len r : Nat} (hi : i.wellFormed = true)
    (ha : s.accepts (spec.priv || spec.privIf c) spec.op c) (hl : spec.len c = true) (hr : (c.ops % 2 ^ (8 * c.opLen)) &&& spec.rsvd = 0)
    (hb : c.win = 64 → spec.bus c = true)
    (h2 : (body { c := c, tk := s.newTicket, priv := s.privOf c } (s.entered spec.op c)).2 = .done code len r)
    (hp : (body { c := c, tk := s.newTicket, priv := s.privOf c } (s.entered spec.op c)).1.pending = s.pending) :
    guarded i s (submit spec body c s) =
      .next ((body { c := c, tk := s.newTicket, priv := s.privOf c } (s.entered spec.op c)).1.finalReply s.newTicket code len r) := by
  rw [submit_accepts s ha hl hr hb, settled, h2]
  exact guarded_next hi ((State.finalReply_pending _ _ _ _ _).trans hp)

/-- Every meaning runs guarded. -/
theorem exec_guarded (i : Instr) (s : State) : ∃ t, exec i s = guarded i s t := by
  cases i <;> exact ⟨_, rfl⟩

/-- Every mailbox command's meaning is the submission of its opcode's. -/
theorem mailbox_exec {i : Instr} {spec : OpSpec} {c : Cmd} (s : State) (h : i.mailbox = some (spec, c)) :
    ∃ body, exec i s = guarded i s (submit spec body c s) ∧ i.wellFormed = c.wf := by
  cases i <;> simp only [Instr.mailbox, Option.some.injEq, Prod.mk.injEq, reduceCtorEq] at h <;> (obtain ⟨rfl, rfl⟩ := h; exact ⟨_, rfl, rfl⟩)

/-- A command that a check refuses completes with its code, and nothing else happens. -/
theorem submit_fails {i : Instr} {spec : OpSpec} {c : Cmd} {s : State} {code : Nat} (hm : i.mailbox = some (spec, c)) (ht : s.takes spec.op c)
    (hc : code < 256) (hk : (s.entered spec.op c).checkCmd spec (s.flightOf spec.op c) = some code) :
    ∃ t, exec i s = .next t ∧ Answered spec.op c code 0 0 t ∧ CommandOnly c s t := by
  obtain ⟨body, he, hw⟩ := mailbox_exec s hm
  rw [he, submit_takes s ht, hk]
  have hr : Runs s spec.op c s (s.entered spec.op c) := entered_runs s spec.op c
  have hd := s.aipexDown_of_ready ht.2.2.2.1
  exact ⟨_, guarded_next (hw.trans ht.1) (by simp), hr.answered hd hc 0 0, hr.commandOnly hd code 0 0⟩

end Sys2Proof.Machine
end

