-- ==== Sys2Proof/Laws/PerInstr.lean ====
section
/-! SUPPORT. One lemma per command: a mailbox command is well-formed exactly when the slot header and operands that it carries are. -/

namespace Sys2Proof.Laws.Units

open Sys2Proof.Machine

/-- If the command stands in a slot, it is well-formed if what stands in the slot is. -/
def Statement (i : Instr) : Prop := ∀ (spec : OpSpec) (c : Cmd), i.mailbox = some (spec, c) → i.wellFormed = c.wf

theorem masterPeriodBoundary (t : Nat) : Statement (.masterPeriodBoundary t) := by rintro _ _ ⟨⟩
theorem genrefEdge (t : Nat) : Statement (.genrefEdge t) := by rintro _ _ ⟨⟩
theorem trigInEdge (t : Nat) : Statement (.trigInEdge t) := by rintro _ _ ⟨⟩
theorem doorbell (page : HostPage) (value : Nat) : Statement (.doorbell page value) := by rintro _ _ ⟨⟩
theorem deferTimeout (win : Nat) (slot : Nat) : Statement (.deferTimeout win slot) := by rintro _ _ ⟨⟩
theorem eventTailWrite (page : HostPage) (value : Nat) : Statement (.eventTailWrite page value) := by rintro _ _ ⟨⟩
theorem registerWrite (fn : Nat) (win : Nat) (offset : Nat) (data : List (Option Byte)) : Statement (.registerWrite fn win offset data) := by rintro _ _ ⟨⟩
theorem overflow (win : Nat) : Statement (.overflow win) := by rintro _ _ ⟨⟩
theorem ping (c : Cmd) : Statement (.ping c) := by rintro _ _ ⟨⟩; rfl
theorem fence (c : Cmd) : Statement (.fence c) := by rintro _ _ ⟨⟩; rfl
theorem identify (c : Cmd) : Statement (.identify c) := by rintro _ _ ⟨⟩; rfl
theorem ackBarker (c : Cmd) : Statement (.ackBarker c) := by rintro _ _ ⟨⟩; rfl
theorem windowOpen (c : Cmd) : Statement (.windowOpen c) := by rintro _ _ ⟨⟩; rfl
theorem windowClose (c : Cmd) : Statement (.windowClose c) := by rintro _ _ ⟨⟩; rfl
theorem eventMaskSet (c : Cmd) : Statement (.eventMaskSet c) := by rintro _ _ ⟨⟩; rfl
theorem eventMaskGet (c : Cmd) : Statement (.eventMaskGet c) := by rintro _ _ ⟨⟩; rfl
theorem faultLogRead (c : Cmd) : Statement (.faultLogRead c) := by rintro _ _ ⟨⟩; rfl
theorem paramGet (c : Cmd) : Statement (.paramGet c) := by rintro _ _ ⟨⟩; rfl
theorem paramSet (c : Cmd) : Statement (.paramSet c) := by rintro _ _ ⟨⟩; rfl
theorem paramSetGroup (c : Cmd) : Statement (.paramSetGroup c) := by rintro _ _ ⟨⟩; rfl
theorem paramDescribe (c : Cmd) : Statement (.paramDescribe c) := by rintro _ _ ⟨⟩; rfl
theorem stagedChangeApply (b : Boundary) : Statement (.stagedChangeApply b) := by rintro _ _ ⟨⟩
theorem tableRead (c : Cmd) : Statement (.tableRead c) := by rintro _ _ ⟨⟩; rfl
theorem tableWrite (c : Cmd) : Statement (.tableWrite c) := by rintro _ _ ⟨⟩; rfl
theorem tableCommit (c : Cmd) : Statement (.tableCommit c) := by rintro _ _ ⟨⟩; rfl
theorem tableDiscard (c : Cmd) : Statement (.tableDiscard c) := by rintro _ _ ⟨⟩; rfl
theorem fwStage (c : Cmd) : Statement (.fwStage c) := by rintro _ _ ⟨⟩; rfl
theorem fwActivate (c : Cmd) : Statement (.fwActivate c) := by rintro _ _ ⟨⟩; rfl
theorem fwStatus (c : Cmd) : Statement (.fwStatus c) := by rintro _ _ ⟨⟩; rfl
theorem fwKeyRevoke (c : Cmd) : Statement (.fwKeyRevoke c) := by rintro _ _ ⟨⟩; rfl
theorem quarantineRelease (c : Cmd) : Statement (.quarantineRelease c) := by rintro _ _ ⟨⟩; rfl
theorem partnerArrivalReport (p : PartnerId) : Statement (.partnerArrivalReport p) := by rintro _ _ ⟨⟩
theorem quarantineExpiry (p : PartnerId) : Statement (.quarantineExpiry p) := by rintro _ _ ⟨⟩
theorem hostInterfaceReset (r : HostReset) : Statement (.hostInterfaceReset r) := by rintro _ _ ⟨⟩
theorem vfEnableChange (enable : Bool) (numVfs : Nat) : Statement (.vfEnableChange enable numVfs) := by rintro _ _ ⟨⟩
theorem poisonedTlp (offset : Nat) : Statement (.poisonedTlp offset) := by rintro _ _ ⟨⟩
theorem cgSignalDetect (g : Nat) (lane : Nat) : Statement (.cgSignalDetect g lane) := by rintro _ _ ⟨⟩
theorem cgTrainTimeout (g : Nat) : Statement (.cgTrainTimeout g) := by rintro _ _ ⟨⟩
theorem cameraAlign (g : Nat) (sets : List AlignSet) : Statement (.cameraAlign g sets) := by rintro _ _ ⟨⟩
theorem discoverRetry (g : Nat) : Statement (.discoverRetry g) := by rintro _ _ ⟨⟩
theorem identity (p : CamPkt) : Statement (.identity p) := by rintro _ _ ⟨⟩
theorem vcAnnounce (p : CamPkt) : Statement (.vcAnnounce p) := by rintro _ _ ⟨⟩
theorem frameStart (p : CamPkt) : Statement (.frameStart p) := by rintro _ _ ⟨⟩
theorem line (p : CamPkt) (late : List Nat) : Statement (.line p late) := by rintro _ _ ⟨⟩
theorem frameEnd (p : CamPkt) : Statement (.frameEnd p) := by rintro _ _ ⟨⟩
theorem embedded (p : CamPkt) : Statement (.embedded p) := by rintro _ _ ⟨⟩
theorem ctrlReply (p : CamPkt) : Statement (.ctrlReply p) := by rintro _ _ ⟨⟩
theorem headStatus (p : CamPkt) : Statement (.headStatus p) := by rintro _ _ ⟨⟩
theorem cameraBadPacket (p : CamPkt) : Statement (.cameraBadPacket p) := by rintro _ _ ⟨⟩
theorem probeSend (g : Nat) (t : Nat) : Statement (.probeSend g t) := by rintro _ _ ⟨⟩
theorem probeEcho (g : Nat) (pseq : Nat) (d2 : Nat) (d3 : Nat) (t : Nat) : Statement (.probeEcho g pseq d2 d3 t) := by rintro _ _ ⟨⟩
theorem probeTimeout (g : Nat) (pseq : Nat) : Statement (.probeTimeout g pseq) := by rintro _ _ ⟨⟩
theorem tsyncSend (g : Nat) (vcMask : Nat) (t : Nat) : Statement (.tsyncSend g vcMask t) := by rintro _ _ ⟨⟩
theorem camCtrlTimeout (g : Nat) (tag : Nat) : Statement (.camCtrlTimeout g tag) := by rintro _ _ ⟨⟩
theorem cameraLaneLost (g : Nat) (lane : Nat) : Statement (.cameraLaneLost g lane) := by rintro _ _ ⟨⟩
theorem cameraHeadLost (g : Nat) : Statement (.cameraHeadLost g) := by rintro _ _ ⟨⟩
theorem sensorBind (c : Cmd) : Statement (.sensorBind c) := by rintro _ _ ⟨⟩; rfl
theorem sensorUnbind (c : Cmd) : Statement (.sensorUnbind c) := by rintro _ _ ⟨⟩; rfl
theorem camExpose (c : Cmd) : Statement (.camExpose c) := by rintro _ _ ⟨⟩; rfl
theorem camCtrlWrite (c : Cmd) : Statement (.camCtrlWrite c) := by rintro _ _ ⟨⟩; rfl
theorem camCtrlRead (c : Cmd) : Statement (.camCtrlRead c) := by rintro _ _ ⟨⟩; rfl
theorem camRetrain (c : Cmd) : Statement (.camRetrain c) := by rintro _ _ ⟨⟩; rfl
theorem pipelineWaitTimeout (pl : Nat) : Statement (.pipelineWaitTimeout pl) := by rintro _ _ ⟨⟩
theorem sidGateTimeout (pl : Nat) : Statement (.sidGateTimeout pl) := by rintro _ _ ⟨⟩
theorem statsReady (pl : Nat) : Statement (.statsReady pl) := by rintro _ _ ⟨⟩
theorem statsRead (c : Cmd) : Statement (.statsRead c) := by rintro _ _ ⟨⟩; rfl
theorem colourProbe (c : Cmd) : Statement (.colourProbe c) := by rintro _ _ ⟨⟩; rfl
theorem colourProbeCapture (k : Nat) : Statement (.colourProbeCapture k) := by rintro _ _ ⟨⟩
theorem probeMissed (k : Nat) : Statement (.probeMissed k) := by rintro _ _ ⟨⟩
theorem showPeriodBoundary (cv : Nat) (t : Nat) : Statement (.showPeriodBoundary cv t) := by rintro _ _ ⟨⟩
theorem phaseBoundary (cv : Nat) (phase : Nat) : Statement (.phaseBoundary cv phase) := by rintro _ _ ⟨⟩
theorem canvasLine (cv : Nat) (phase : Nat) (y : Nat) (late : List (Nat × Nat)) (badCells : List Nat) : Statement (.canvasLine cv phase y late badCells) := by rintro _ _ ⟨⟩
theorem frameDone (cv : Nat) (done : PhaseDone) : Statement (.frameDone cv done) := by rintro _ _ ⟨⟩
theorem layerFetch (cv : Nat) (src : Nat) (y : Nat) : Statement (.layerFetch cv src y) := by rintro _ _ ⟨⟩
theorem frameStoreComplete (pl : Nat) (t : Nat) : Statement (.frameStoreComplete pl t) := by rintro _ _ ⟨⟩
theorem phaseSyncRise (n : Nat) (phase : Nat) : Statement (.phaseSyncRise n phase) := by rintro _ _ ⟨⟩
theorem phaseSyncFall (n : Nat) (t : Nat) : Statement (.phaseSyncFall n t) := by rintro _ _ ⟨⟩
theorem layerFlip (c : Cmd) : Statement (.layerFlip c) := by rintro _ _ ⟨⟩; rfl
theorem canvasStatus (c : Cmd) : Statement (.canvasStatus c) := by rintro _ _ ⟨⟩; rfl
theorem fsoSend (cv : Nat) (phase : Nat) : Statement (.fsoSend cv phase) := by rintro _ _ ⟨⟩
theorem tileLineSend (lp : Nat) (hop : Nat) (cv : Nat) (phase : Nat) (y : Nat) : Statement (.tileLineSend lp hop cv phase y) := by rintro _ _ ⟨⟩
theorem discoverInterval (lp : Nat) (side : Nat) : Statement (.discoverInterval lp side) := by rintro _ _ ⟨⟩
theorem tileId (p : TilePkt) : Statement (.tileId p) := by rintro _ _ ⟨⟩
theorem cfgReply (p : TilePkt) : Statement (.cfgReply p) := by rintro _ _ ⟨⟩
theorem tileStatus (p : TilePkt) : Statement (.tileStatus p) := by rintro _ _ ⟨⟩
theorem tileAlarmReceived (port : Nat) (d1 : Nat) (d2 : Nat) (d3 : Nat) (t : Nat) : Statement (.tileAlarmReceived port d1 d2 d3 t) := by rintro _ _ ⟨⟩
theorem feedWatchdog (lp : Nat) (side : Nat) : Statement (.feedWatchdog lp side) := by rintro _ _ ⟨⟩
theorem failoverTrained (lp : Nat) : Statement (.failoverTrained lp) := by rintro _ _ ⟨⟩
theorem tilePoll (lp : Nat) (hop : Nat) : Statement (.tilePoll lp hop) := by rintro _ _ ⟨⟩
theorem tilePollTimeout (lp : Nat) (hop : Nat) : Statement (.tilePollTimeout lp hop) := by rintro _ _ ⟨⟩
theorem tileCfgTimeout (lp : Nat) (tag : Nat) : Statement (.tileCfgTimeout lp tag) := by rintro _ _ ⟨⟩
theorem revertHoldExpiry (lp : Nat) : Statement (.revertHoldExpiry lp) := by rintro _ _ ⟨⟩
theorem handoverReady (lp : Nat) : Statement (.handoverReady lp) := by rintro _ _ ⟨⟩
theorem handoverAbandon (lp : Nat) : Statement (.handoverAbandon lp) := by rintro _ _ ⟨⟩
theorem pIdentity (p : TilePkt) : Statement (.pIdentity p) := by rintro _ _ ⟨⟩
theorem pHeartbeat (p : TilePkt) : Statement (.pHeartbeat p) := by rintro _ _ ⟨⟩
theorem pmark (t : Nat) (d1 : Nat) (d2 : Nat) (d3 : Nat) : Statement (.pmark t d1 d2 d3) := by rintro _ _ ⟨⟩
theorem pLoop (p : TilePkt) : Statement (.pLoop p) := by rintro _ _ ⟨⟩
theorem pHandover (p : TilePkt) : Statement (.pHandover p) := by rintro _ _ ⟨⟩
theorem pTile (p : TilePkt) : Statement (.pTile p) := by rintro _ _ ⟨⟩
theorem partnerConfig (c : Cmd) : Statement (.partnerConfig c) := by rintro _ _ ⟨⟩; rfl
theorem loopDiscover (c : Cmd) : Statement (.loopDiscover c) := by rintro _ _ ⟨⟩; rfl
theorem tileCfgWrite (c : Cmd) : Statement (.tileCfgWrite c) := by rintro _ _ ⟨⟩; rfl
theorem tileCfgRead (c : Cmd) : Statement (.tileCfgRead c) := by rintro _ _ ⟨⟩; rfl
theorem tileStatusRead (c : Cmd) : Statement (.tileStatusRead c) := by rintro _ _ ⟨⟩; rfl
theorem loopFeed (c : Cmd) : Statement (.loopFeed c) := by rintro _ _ ⟨⟩; rfl
theorem laneSignalDetect (lane : Nat) : Statement (.laneSignalDetect lane) := by rintro _ _ ⟨⟩
theorem laneSignalLoss (lane : Nat) : Statement (.laneSignalLoss lane) := by rintro _ _ ⟨⟩
theorem laneComma (lane : Nat) (phase : Nat) : Statement (.laneComma lane phase) := by rintro _ _ ⟨⟩
theorem laneInvalidSymbol (lane : Nat) (before : List Nat) (group : Nat) : Statement (.laneInvalidSymbol lane before group) := by rintro _ _ ⟨⟩
theorem laneCommaTimeout (lane : Nat) : Statement (.laneCommaTimeout lane) := by rintro _ _ ⟨⟩
theorem skipReceived (lane : Nat) (drift : Int) (d1 : Nat) (d2 : Nat) (d3 : Nat) : Statement (.skipReceived lane drift d1 d2 d3) := by rintro _ _ ⟨⟩
theorem skipSend (lane : Nat) : Statement (.skipSend lane) := by rintro _ _ ⟨⟩
theorem fomWindow (lane : Nat) (a : Nat) (sigma : Nat) : Statement (.fomWindow lane a sigma) := by rintro _ _ ⟨⟩
theorem laneMonitor (lg : Nat) (scans : List (Nat × Nat)) : Statement (.laneMonitor lg scans) := by rintro _ _ ⟨⟩
theorem laneWakeDone (lane : Nat) (tx : Bool) : Statement (.laneWakeDone lane tx) := by rintro _ _ ⟨⟩
theorem calWindow (lg : Nat) (window : WindowStart) : Statement (.calWindow lg window) := by rintro _ _ ⟨⟩
theorem calMeasureDone (lane : Nat) (quality : Nat) : Statement (.calMeasureDone lane quality) := by rintro _ _ ⟨⟩
theorem calDeferLimit (lg : Nat) : Statement (.calDeferLimit lg) := by rintro _ _ ⟨⟩
theorem patternSync (lane : Nat) (before : List Bool) (bit : Bool) (after : List Bool) : Statement (.patternSync lane before bit after) := by rintro _ _ ⟨⟩
theorem laneStatus (c : Cmd) : Statement (.laneStatus c) := by rintro _ _ ⟨⟩; rfl
theorem laneCalibrate (c : Cmd) : Statement (.laneCalibrate c) := by rintro _ _ ⟨⟩; rfl
theorem eyeScan (c : Cmd) : Statement (.eyeScan c) := by rintro _ _ ⟨⟩; rfl
theorem eyeScanDone (lane : Nat) (aborted : Bool) (points : List (Nat × Nat)) (t : Nat) : Statement (.eyeScanDone lane aborted points t) := by rintro _ _ ⟨⟩
theorem patternSet (c : Cmd) : Statement (.patternSet c) := by rintro _ _ ⟨⟩; rfl
theorem patternStatus (c : Cmd) : Statement (.patternStatus c) := by rintro _ _ ⟨⟩; rfl
theorem laneInject (c : Cmd) : Statement (.laneInject c) := by rintro _ _ ⟨⟩; rfl
theorem laneTxSet (c : Cmd) : Statement (.laneTxSet c) := by rintro _ _ ⟨⟩; rfl
theorem memAlloc (c : Cmd) : Statement (.memAlloc c) := by rintro _ _ ⟨⟩; rfl
theorem memFree (c : Cmd) : Statement (.memFree c) := by rintro _ _ ⟨⟩; rfl
theorem memWrite (c : Cmd) : Statement (.memWrite c) := by rintro _ _ ⟨⟩; rfl
theorem memRead (c : Cmd) : Statement (.memRead c) := by rintro _ _ ⟨⟩; rfl
theorem addressFault (addr : Nat) (write : Bool) : Statement (.addressFault addr write) := by rintro _ _ ⟨⟩
theorem rowRetired (chan : Nat) (bank : Nat) : Statement (.rowRetired chan bank) := by rintro _ _ ⟨⟩
theorem dramRefresh (chan : Nat) (refresh : BankRefresh) : Statement (.dramRefresh chan refresh) := by rintro _ _ ⟨⟩
theorem mr4Read (chan : Nat) (rate : Nat) : Statement (.mr4Read chan rate) := by rintro _ _ ⟨⟩
theorem wckTrack (chan : Nat) (delays : List Nat) : Statement (.wckTrack chan delays) := by rintro _ _ ⟨⟩
theorem retrainInterval (chan : Nat) : Statement (.retrainInterval chan) := by rintro _ _ ⟨⟩
theorem retrainSlice (t : Nat) : Statement (.retrainSlice t) := by rintro _ _ ⟨⟩
theorem patrolScrub (granules : Nat) (found : List ScrubFinding) : Statement (.patrolScrub granules found) := by rintro _ _ ⟨⟩
theorem expanderPresent (e : ExpanderInfo) : Statement (.expanderPresent e) := by rintro _ _ ⟨⟩
theorem enumerationDone (slot : Nat) : Statement (.enumerationDone slot) := by rintro _ _ ⟨⟩
theorem expanderSurpriseRemove (slot : Nat) : Statement (.expanderSurpriseRemove slot) := by rintro _ _ ⟨⟩
theorem cxlEventPoll (slot : Nat) (ranges : List (Nat × Nat)) : Statement (.cxlEventPoll slot ranges) := by rintro _ _ ⟨⟩
theorem cxlVerify (region : Nat) (offset : Nat) (poisoned : Bool) : Statement (.cxlVerify region offset poisoned) := by rintro _ _ ⟨⟩
theorem regionVerifyDone (region : Nat) : Statement (.regionVerifyDone region) := by rintro _ _ ⟨⟩
theorem gpfStart (trigger : Nat) : Statement (.gpfStart trigger) := by rintro _ _ ⟨⟩
theorem gpfPhase1Done (t : Nat) : Statement (.gpfPhase1Done t) := by rintro _ _ ⟨⟩
theorem gpfDone (late : List Nat) (t : Nat) : Statement (.gpfDone late t) := by rintro _ _ ⟨⟩
theorem cxlRegionCreate (c : Cmd) : Statement (.cxlRegionCreate c) := by rintro _ _ ⟨⟩; rfl
theorem cxlRegionDelete (c : Cmd) : Statement (.cxlRegionDelete c) := by rintro _ _ ⟨⟩; rfl
theorem cxlRegionAccept (c : Cmd) : Statement (.cxlRegionAccept c) := by rintro _ _ ⟨⟩; rfl
theorem cxlExpanderRemove (c : Cmd) : Statement (.cxlExpanderRemove c) := by rintro _ _ ⟨⟩; rfl
theorem removalDrainDone (slot : Nat) : Statement (.removalDrainDone slot) := by rintro _ _ ⟨⟩
theorem relocationDone (slot : Nat) : Statement (.relocationDone slot) := by rintro _ _ ⟨⟩
theorem slotPowerOff (slot : Nat) : Statement (.slotPowerOff slot) := by rintro _ _ ⟨⟩
theorem cxlPersistFlush (c : Cmd) : Statement (.cxlPersistFlush c) := by rintro _ _ ⟨⟩; rfl
theorem attentionButton (slot : Nat) : Statement (.attentionButton slot) := by rintro _ _ ⟨⟩
theorem attentionTimer (slot : Nat) : Statement (.attentionTimer slot) := by rintro _ _ ⟨⟩
theorem recordFenceDone (pl : Nat) : Statement (.recordFenceDone pl) := by rintro _ _ ⟨⟩
theorem recordDeadline (pl : Nat) : Statement (.recordDeadline pl) := by rintro _ _ ⟨⟩
theorem checkpoint (bin : Nat) : Statement (.checkpoint bin) := by rintro _ _ ⟨⟩
theorem binRecovery (bin : Nat) : Statement (.binRecovery bin) := by rintro _ _ ⟨⟩
theorem wearMove (bin : Nat) : Statement (.wearMove bin) := by rintro _ _ ⟨⟩
theorem clipProtect (c : Cmd) : Statement (.clipProtect c) := by rintro _ _ ⟨⟩; rfl
theorem clipMark (c : Cmd) : Statement (.clipMark c) := by rintro _ _ ⟨⟩; rfl
theorem sqTail (page : HostPage) (pair : Nat) (value : Nat) (entries : List Byte) : Statement (.sqTail page pair value entries) := by rintro _ _ ⟨⟩
theorem cqHead (page : HostPage) (pair : Nat) (value : Nat) : Statement (.cqHead page pair value) := by rintro _ _ ⟨⟩
theorem sqFetch (win : Nat) (pair : Nat) : Statement (.sqFetch win pair) := by rintro _ _ ⟨⟩
theorem read (win : Nat) (pair : Nat) (cid : Nat) : Statement (.read win pair cid) := by rintro _ _ ⟨⟩
theorem readFrame (win : Nat) (pair : Nat) (cid : Nat) : Statement (.readFrame win pair cid) := by rintro _ _ ⟨⟩
theorem dirRead (win : Nat) (pair : Nat) (cid : Nat) : Statement (.dirRead win pair cid) := by rintro _ _ ⟨⟩
theorem indexRead (win : Nat) (pair : Nat) (cid : Nat) : Statement (.indexRead win pair cid) := by rintro _ _ ⟨⟩
theorem importClip (win : Nat) (pair : Nat) (cid : Nat) (data : List Byte) : Statement (.importClip win pair cid data) := by rintro _ _ ⟨⟩
theorem cqFence (win : Nat) (pair : Nat) (cid : Nat) : Statement (.cqFence win pair cid) := by rintro _ _ ⟨⟩
theorem cqCommandTimeout (win : Nat) (pair : Nat) (cid : Nat) : Statement (.cqCommandTimeout win pair cid) := by rintro _ _ ⟨⟩
theorem cqInterruptTimer (win : Nat) (pair : Nat) : Statement (.cqInterruptTimer win pair) := by rintro _ _ ⟨⟩
theorem queueCreate (c : Cmd) : Statement (.queueCreate c) := by rintro _ _ ⟨⟩; rfl
theorem queueDelete (c : Cmd) : Statement (.queueDelete c) := by rintro _ _ ⟨⟩; rfl
theorem queueRestart (c : Cmd) : Statement (.queueRestart c) := by rintro _ _ ⟨⟩; rfl
theorem queueResume (win : Nat) (pair : Nat) : Statement (.queueResume win pair) := by rintro _ _ ⟨⟩
theorem queueErrorLog (c : Cmd) : Statement (.queueErrorLog c) := by rintro _ _ ⟨⟩; rfl
theorem queueStatus (c : Cmd) : Statement (.queueStatus c) := by rintro _ _ ⟨⟩; rfl
theorem binCreate (c : Cmd) : Statement (.binCreate c) := by rintro _ _ ⟨⟩; rfl
theorem binDelete (c : Cmd) : Statement (.binDelete c) := by rintro _ _ ⟨⟩; rfl
theorem binFormat (c : Cmd) : Statement (.binFormat c) := by rintro _ _ ⟨⟩; rfl
theorem binSanitise (c : Cmd) : Statement (.binSanitise c) := by rintro _ _ ⟨⟩; rfl
theorem binAdminStatus (c : Cmd) : Statement (.binAdminStatus c) := by rintro _ _ ⟨⟩; rfl
theorem adminProgress (bin : Nat) (failedLines : Nat) : Statement (.adminProgress bin failedLines) := by rintro _ _ ⟨⟩
theorem adminDone (bin : Nat) : Statement (.adminDone bin) := by rintro _ _ ⟨⟩
theorem vcOpen (c : Cmd) : Statement (.vcOpen c) := by rintro _ _ ⟨⟩; rfl
theorem vcClose (c : Cmd) : Statement (.vcClose c) := by rintro _ _ ⟨⟩; rfl
theorem keyNow (c : Cmd) : Statement (.keyNow c) := by rintro _ _ ⟨⟩; rfl
theorem vcDecFeed (c : Cmd) : Statement (.vcDecFeed c) := by rintro _ _ ⟨⟩; rfl
theorem feedTimeout (engine : Nat) : Statement (.feedTimeout engine) := by rintro _ _ ⟨⟩
theorem vcPictureRead (c : Cmd) : Statement (.vcPictureRead c) := by rintro _ _ ⟨⟩; rfl
theorem decodePace (engine : Nat) (t : Nat) : Statement (.decodePace engine t) := by rintro _ _ ⟨⟩
theorem pictureDone (engine : Nat) (t : Nat) (o : PicOutcome) : Statement (.pictureDone engine t o) := by rintro _ _ ⟨⟩
theorem pictureDeadline (engine : Nat) : Statement (.pictureDeadline engine) := by rintro _ _ ⟨⟩
theorem audioClockDetect (port : Nat) : Statement (.audioClockDetect port) := by rintro _ _ ⟨⟩
theorem audioClockLost (port : Nat) : Statement (.audioClockLost port) := by rintro _ _ ⟨⟩
theorem fsEdge (port : Nat) (t : Nat) (bclk : Nat) (samples : List Nat) (overrun : Bool) : Statement (.fsEdge port t bclk samples overrun) := by rintro _ _ ⟨⟩
theorem fsFlywheel (port : Nat) (samples : List Nat) : Statement (.fsFlywheel port samples) := by rintro _ _ ⟨⟩
theorem audioRateMeasure (port : Nat) (rate : Nat) : Statement (.audioRateMeasure port rate) := by rintro _ _ ⟨⟩
theorem audioBlockFetch (port : Nat) (block : Nat) (late : Bool) : Statement (.audioBlockFetch port block late) := by rintro _ _ ⟨⟩
theorem audioBlockDeadline (port : Nat) (block : Nat) : Statement (.audioBlockDeadline port block) := by rintro _ _ ⟨⟩
theorem audioStart (c : Cmd) : Statement (.audioStart c) := by rintro _ _ ⟨⟩; rfl
theorem audioStatus (c : Cmd) : Statement (.audioStatus c) := by rintro _ _ ⟨⟩; rfl
theorem hkConversion (raw : Nat) : Statement (.hkConversion raw) := by rintro _ _ ⟨⟩
theorem status (access : StatusRead) : Statement (.status access) := by rintro _ _ ⟨⟩
theorem slotState (addr : Nat) : Statement (.slotState addr) := by rintro _ _ ⟨⟩
theorem submit (addr : Nat) (slot : Nat) (len : Nat) (frame : List Byte) (pec : Option Nat) : Statement (.submit addr slot len frame pec) := by rintro _ _ ⟨⟩
theorem reply (addr : Nat) (slot : Nat) : Statement (.reply addr slot) := by rintro _ _ ⟨⟩
theorem hkRead (addr : Nat) : Statement (.hkRead addr) := by rintro _ _ ⟨⟩
theorem replyAck (addr : Nat) (slot : Nat) (pec : Option Nat) : Statement (.replyAck addr slot pec) := by rintro _ _ ⟨⟩
theorem mbStretchTimeout (addr : Nat) (code : Nat) : Statement (.mbStretchTimeout addr code) := by rintro _ _ ⟨⟩
theorem mbBusTimeout (addr : Nat) (code : Nat) : Statement (.mbBusTimeout addr code) := by rintro _ _ ⟨⟩
theorem telemetryCollect (powerMw : Nat) (d2d : List Nat) : Statement (.telemetryCollect powerMw d2d) := by rintro _ _ ⟨⟩
theorem pageZeroing (pages : Nat) : Statement (.pageZeroing pages) := by rintro _ _ ⟨⟩
theorem hkStatus (c : Cmd) : Statement (.hkStatus c) := by rintro _ _ ⟨⟩; rfl
theorem bgStatus (c : Cmd) : Statement (.bgStatus c) := by rintro _ _ ⟨⟩; rfl
theorem vauxValid (mgtAddr : Nat) : Statement (.vauxValid mgtAddr) := by rintro _ _ ⟨⟩
theorem dramTrainingDone (failed : List Nat) : Statement (.dramTrainingDone failed) := by rintro _ _ ⟨⟩
theorem deviceReset (c : Cmd) : Statement (.deviceReset c) := by rintro _ _ ⟨⟩; rfl
theorem powerStateSet (c : Cmd) : Statement (.powerStateSet c) := by rintro _ _ ⟨⟩; rfl
theorem tilePortAlign (port : Nat) (d1 : Nat) (d2 : Nat) (d3 : Nat) (t : Nat) : Statement (.tilePortAlign port d1 d2 d3 t) := by rintro _ _ ⟨⟩
theorem discoverReceived (p : TilePkt) : Statement (.discoverReceived p) := by rintro _ _ ⟨⟩
theorem fsoReceived (port : Nat) (d1 : Nat) (d2 : Nat) (d3 : Nat) (t : Nat) : Statement (.fsoReceived port d1 d2 d3 t) := by rintro _ _ ⟨⟩
theorem partnerSignalDetect (lane : Nat) : Statement (.partnerSignalDetect lane) := by rintro _ _ ⟨⟩
theorem partnerAlign (sets : List AlignSet) : Statement (.partnerAlign sets) := by rintro _ _ ⟨⟩
theorem partnerProbe (pseq : Nat) (d2 : Nat) (d3 : Nat) (t : Nat) : Statement (.partnerProbe pseq d2 d3 t) := by rintro _ _ ⟨⟩
theorem perstNRise (clkMode : Nat) : Statement (.perstNRise clkMode) := by rintro _ _ ⟨⟩
theorem genrefMissedEdge : Statement .genrefMissedEdge := by rintro _ _ ⟨⟩
theorem lockstepMismatch : Statement .lockstepMismatch := by rintro _ _ ⟨⟩
theorem aipexRestartDone : Statement .aipexRestartDone := by rintro _ _ ⟨⟩
theorem aipexTick : Statement .aipexTick := by rintro _ _ ⟨⟩
theorem tableSwap : Statement .tableSwap := by rintro _ _ ⟨⟩
theorem switchoverImport : Statement .switchoverImport := by rintro _ _ ⟨⟩
theorem switchoverComplete : Statement .switchoverComplete := by rintro _ _ ⟨⟩
theorem switchoverRollback : Statement .switchoverRollback := by rintro _ _ ⟨⟩
theorem unifBankCopyDone : Statement .unifBankCopyDone := by rintro _ _ ⟨⟩
theorem unifCommitDone : Statement .unifCommitDone := by rintro _ _ ⟨⟩
theorem pHeartbeatSend : Statement .pHeartbeatSend := by rintro _ _ ⟨⟩
theorem partnerHeartbeatTimeout : Statement .partnerHeartbeatTimeout := by rintro _ _ ⟨⟩
theorem calibrationStart : Statement .calibrationStart := by rintro _ _ ⟨⟩
theorem drainDone : Statement .drainDone := by rintro _ _ ⟨⟩
theorem throttleStep : Statement .throttleStep := by rintro _ _ ⟨⟩
theorem mbAbort : Statement .mbAbort := by rintro _ _ ⟨⟩
theorem bgScheduler : Statement .bgScheduler := by rintro _ _ ⟨⟩
theorem scrubBehind : Statement .scrubBehind := by rintro _ _ ⟨⟩
theorem pwrgdRise : Statement .pwrgdRise := by rintro _ _ ⟨⟩
theorem startupComplete : Statement .startupComplete := by rintro _ _ ⟨⟩
theorem pwrgdFall : Statement .pwrgdFall := by rintro _ _ ⟨⟩
theorem coldReset : Statement .coldReset := by rintro _ _ ⟨⟩
theorem deviceResetFire : Statement .deviceResetFire := by rintro _ _ ⟨⟩
theorem darkReached : Statement .darkReached := by rintro _ _ ⟨⟩
theorem darkExitDone : Statement .darkExitDone := by rintro _ _ ⟨⟩
theorem darkReturnTimer : Statement .darkReturnTimer := by rintro _ _ ⟨⟩
theorem partnerTrainTimeout : Statement .partnerTrainTimeout := by rintro _ _ ⟨⟩
theorem vauxLoss : Statement .vauxLoss := by rintro _ _ ⟨⟩
theorem refclkCoreLoss : Statement .refclkCoreLoss := by rintro _ _ ⟨⟩
theorem refclkCoreReturn : Statement .refclkCoreReturn := by rintro _ _ ⟨⟩

end Sys2Proof.Laws.Units
end

