-- ==== Sys2Proof/Tests/Slice0.lean ====
section
/-! SUPPORT. Tests of the model. The worked examples' expected values are the spec's own; for every obligation with hypotheses, a theorem shows of each of
its clauses a concrete state and operands that meet all its hypotheses together. -/

namespace Sys2Proof.Tests

set_option maxRecDepth 10000
set_option Elab.async false
set_option linter.all false

open Sys2Proof Sys2Proof.Machine

/-! ### States that tests start from -/

/-- The device at work in INTERMISSION: an image runs, PCIe is up, W00 is OPEN with a ring of 64 records at host address 0x10000. -/
def up : State :=
  { ctl := { boot := .running, perstN := true, fwReady := true, wins := [(0, { state := .opened, base := 0x10000, sizeLog2 := 6 })] } }

/-- `s` with W01 OPEN too. -/
def up1 : State := up.setWin 1 { state := .opened, base := 0x20000, sizeLog2 := 6 }

/-- A command in slot 0 of W00 with `n` bytes of operands. -/
def cmd (n ops : Nat) : Cmd := { win := 0, slot := 0, tag := 7, seq := 1, opLen := n, ops := ops }

/-- A sound camera link packet of group `g`. -/
def camPkt (g typ vc aux flags : Nat) (payload : List Byte) : CamPkt :=
  { group := g, time := 5000, hdr := mkHdr typ vc 0 payload.length aux flags, payload := payload, crc := crc32c payload }

/-- `s` with the parameter elements of `l` in force: identifier, index, value. -/
def withP (l : List (Nat × Nat × Nat)) (s : State) : State := l.foldl (fun t e => t.setP e.1 e.2.1 e.2.2) s

/-- A 12-bit format of 4 lines of 64 photosites. -/
def fmt : Format := { bits := 12, width := 64, height := 4, total := 8, line0 := 1, period := 16666667000 }

/-- A command in progress with ticket 9. -/
def flight (op : Nat) : Flight := { ticket := 9, opcode := op, cmd := cmd 8 0, priv := true, started := true }

/-- `s` with that command in progress in slot 0 of W00. -/
def flying (op : Nat) (s : State) : State :=
  let t := s.setWin 0 { s.win 0 with busy := 1 }
  { t with ctl := { t.ctl with flights := [flight op], ticket := 10 } }

/-- `s` with the lanes of `l` LOCKED. -/
def locked (l : List Nat) (s : State) : State := l.foldl (fun t k => t.modLane k fun x => { x with lock := 3 }) s

/-- The head and sensor of camera group 0 are identified, and the group is ACTIVE. -/
def camUp : State :=
  (((locked [1024] up).setP (P.cg 0 P.CG_STATE) 0 5).setGroup 0
    { headWidth := 1, lanes := [(0, 0)], head := some { serial := 0x1234, caps := 15, fsDelay := 100 }, identified := true, lspSeen := true
      trained := true }).setSensor 0 { present := true, serial := 7, fmt := fmt }

/-- A frame of the sensor is being received on pipeline 0. -/
def camFrame : State :=
  (camUp.setPipe 0 { bind := some { sensor := 0 }, fmt := some fmt, cur := some { fmt := fmt } }).setSensor 0
    { present := true, serial := 7, fmt := fmt, openFrame := .pipe 0 }

/-- Canvas 0 is RUNNING and composes phase 0. -/
def cvUp : State := { up.setP (P.cv 0 P.CV_STATE) 0 2 with cv := { cvs := [(0, { held := false, composing := true })] } }

/-- Bytes of a table's active copy. -/
def withTable (t n o : Nat) (l : List Byte) (s : State) : State :=
  { s with ctl := { s.ctl with tables := putBytes tableDefault s.ctl.tables (tableBase t n + o) l } }

/-- Loop 0 of the given mode has two tiles of 16 by 4, the first at the origin of canvas 0; its ends and tiles are as given. -/
def loopUp (mode : Nat) (x : Loop) (tiles : SMap Tile) : State :=
  { withTable 1 0 0 (leBytes (1 + 0x1010000 <<< 96) 24) (withTable 2 0 0x28 (leBytes (16 + 4 <<< 16) 4) (withTable 2 0 0 (leBytes (mode + 2 <<< 16) 4) (locked [0, 1] up))) with
    mw := { loops := [(0, x)], tiles := tiles } }

/-- A sound upstream packet. -/
def tilePkt (port typ dist aux : Nat) (payload : List Byte) : TilePkt :=
  { port := port, time := 5000, hdr := tileHdr typ 0 dist payload.length aux 0, payload := payload, crc := crc32c payload }

/-- The partner link in state `n` of Table 3-7. -/
def linkUp (n : Nat) (x : PartnerLink) : State := { (locked [1160, 1161] up).setP P.PT_STATE 0 n with mw := { link := x } }

/-- Lane `k` as given. -/
def laneUp (k : Nat) (x : Lane) : State := { up with ln := { lanes := [(k, x)] } }

/-- An entry of a clip queue: opcode, flags, identifier, bin, source, clip, frame tag, offset, host address, length, timeout. -/
def sqe (op fl cid bin src clip tag off host len tmo : Nat) : List Byte :=
  leBytes (op ||| fl <<< 8 ||| cid <<< 16 ||| bin <<< 32 ||| src <<< 40 ||| clip <<< 64 ||| tag <<< 96 ||| off <<< 128 ||| host <<< 192 ||| len <<< 256
    ||| tmo <<< 288) 64

/-- A raw block of one line of 8 photosites of 16 bits. -/
def rawBlock : List Byte :=
  let pay := (List.range 16).map fun i => BitVec.ofNat 8 (i * 17)
  (BlockHdr.bytes { kind := 0, bits := 16, lines := 1, width := 8, bayer := 0, predictor := 0, k0 := 0, payloadLen := 16, dcrc := crc32c pay }) ++ pay

/-- A FRAME record of that one block. -/
def frameRec : Rec :=
  { typ := 1, source := 7, seq := 0, tag := 5
    body := leBytes (8 <<< 48 ||| 1 <<< 64 ||| 16 <<< 80 ||| 1 <<< 96 ||| 0x70 <<< 512) 0x50 ++ rawBlock ++ List.replicate 48 0 }

/-- A pair of W63, number 15, as given, with commands. -/
def pairUp (p : Pair) : State := { up with cq := { pairs := [(1023, some p)] } }

/-- Bin 63 as given, in state `n`. -/
def binUp (n : Nat) (x : Bin) (s : State) : State := { s.setP P.FR_BIN_STATE 63 n with fr := { bins := [(63, some x)] } }

/-- Codec engine 1 as given, in VC_STATE `st` and VC_MODE `m`, held by W00. -/
def vcUp (st m : Nat) (x : Engine) : State :=
  { withP [(P.vc 1 P.VC_STATE, 0, st), (P.vc 1 P.VC_MODE, 0, m), (P.vc 1 P.VC_HOLDER, 0, 0), (P.vc 1 P.VC_DEC_PACE, 0, 255), (P.vc 1 P.VC_DEC_INTERVAL, 0, 4166666)]
      up with
    vc := { engines := [(1, x)] } }

/-- Audio port 15 as given, in AP_STATE `st` and of rate code `r`. -/
def auUp (st r : Nat) (x : AudioPort) : State :=
  { withP [(P.ap 15 P.AP_STATE, 0, st), (P.ap 15 P.AP_RATE, 0, r)] up with au := { ports := [(15, x)] } }

/-- The device answers bus address 0x7F; nothing but VAUX is up, or an image runs. -/
def busUp (aux : Bool) (w : Window) : State :=
  let s := (up.setP P.MB_ADDR 0 0xFF).setWin 64 w
  { s with ctl := { s.ctl with boot := if aux then .auxOnly else .running } }

/-- `s` in a power change. -/
def pwUp (x : Power) (s : State) : State := { s with pw := x }

/-! ### Worked examples of the spec -/

/-- The check values of R92 for the ASCII string 123456789. -/
theorem test_crc_check_values :
    crc8 (leBytes 0x393837363534333231 9) = 0xF4 ∧ crc32c (leBytes 0x393837363534333231 9) = 0xE3069283 := by decide +kernel

/-- 03_camera_ingest.md, one frame on the wire: the header of line 1. -/
theorem test_camera_header :
    mkHdr 2 0 0x37 0x3800 1 0 = leBytes 0xA900000138003720 8 := by decide +kernel

/-- 14_housekeeping.md: the PEC of a STATUS read at 0x58. -/
theorem test_bus_pec : crc8 (busWrite 0x58 0 ++ busRead 0x58 ++ leBytes 0x002A1100 4) = 0xBE := by decide +kernel

/-- 04_raw_pipeline.md, the Gr photosite of PL2: the parameters and table entries that the example names. -/
def exampleRaw : RawCfg :=
  { stageEn := 0x3B, black := [0, 1024, 0, 0], white := 65532, pedestal := 1024, dynK := 0, defects := [], strength := 0, spatialW := [], rangeLut := []
    nsig := List.replicate 11 0 ++ [560, 580], alphaLut := [0, 0, 0, 0, 0x3000], gridW := 33, gridH := 18, log2Sx := 8, log2Sy := 8
    gains := (List.range 300).map fun n => if n = 145 then 0x1200 else if n = 149 then 0x1180 else if n = 277 then 0x11C0 else if n = 281 then 0x1140 else 0
    wb := [0x10000, 0x10000, 0x10000, 0x10000], dmMode := 0, edgeRatio := 0 }

/-- Steps 1 and 2: black level and the recording tap. -/
theorem test_black_level :
    channelOf 0 1001 500 = 1 ∧ blackGain exampleRaw 1 = 1065286 ∧ blackStage exampleRaw 14 1 3220 = 192719 ∧ tapCode exampleRaw 14 1 3220 = 3220 := by
  decide +kernel

/-- Step 4: temporal noise reduction. -/
theorem test_temporal_noise_reduction :
    refDecode 7986 = 190016 ∧ noiseSigma exampleRaw.nsig 192719 = 575
      ∧ tnrBlend exampleRaw 192100 192719 193400 190400 190016 191200 = 191030 ∧ refEncode 191030 = 8018 := by decide +kernel

/-- Steps 5 and 6: lens shading and white balance. -/
theorem test_lens_shading :
    lensGain exampleRaw 1 1001 500 = 4431 ∧ lensStage exampleRaw 1 1001 500 191030 = 206654 ∧ wbStage exampleRaw 1 206654 = 206654 := by decide +kernel

/-- 05_colour_science.md, one photosite to tile drive, steps 1 and 2: the camera-to-working matrix and the identity shaper. -/
theorem test_colour_matrix :
    matrixStage [104858, -29491, -9830, -13107, 91750, -13107, -3277, -32768, 101581] [] ⟨171966, 206654, 149811⟩ = ⟨159682, 224960, 120282⟩
      ∧ curveAt curveNode 159682 = 159682 ∧ curveAt curveNode 120282 = 120282 := by decide +kernel

/-- Step 3: the 3D LUT between the four nodes that the example gives. -/
theorem test_cube :
    cubeStage 33 (fun a b c => if (a, b, c) = (4, 6, 3) then ⟨128900, 199100, 96200⟩ else if (a, b, c) = (5, 6, 3) then ⟨162400, 197800, 95600⟩
        else if (a, b, c) = (5, 7, 3) then ⟨161300, 231500, 94900⟩ else if (a, b, c) = (5, 7, 4) then ⟨163000, 232400, 128300⟩ else ⟨0, 0, 0⟩)
      ⟨159682, 224960, 120282⟩ = ⟨158338, 227727, 117472⟩ := by decide +kernel

/-- Steps 5 and 6: the wall gamut matrix, the phase gain of 1.0 and the generated tone curve. -/
theorem test_wall_and_tone :
    wallStage true [72090, -5243, -1311, -1966, 68813, -1311, -655, -2621, 68813] 0x10000 ⟨158338, 227727, 117472⟩ = ⟨153604, 232014, 112656⟩
      ∧ toneEntry 600 1500 750 2501 = 92774 ∧ toneEntry 600 1500 750 2502 = 92979
      ∧ toneStage 0 (toneEntry 600 1500 750) ⟨153604, 232014, 112656⟩ = ⟨61442, 92805, 45062⟩ := by decide +kernel

/-- Steps 7 and 8: uniformity and quantisation. -/
theorem test_uniformity_and_quantisation :
    unifAt { base := 53280, size := 2, interp := false } (unifTaps { base := 53280, size := 2, interp := false } 384 384 201 116) (fun n => (n, 0)) = (53322, 0)
      ∧ unifApply 0x3E80 40 61442 = 60042 ∧ unifApply 0x4100 (-25) 92805 = 94230 ∧ unifApply 0x3F00 0 45062 = 44358
      ∧ driveCode 60042 0 = 0x0EA9 ∧ driveCode 94230 0 = 0x1701 ∧ driveCode 44358 0 = 0x0AD4 := by decide +kernel

/-- 06_canvases.md: CV_LINE_TIME of a canvas of 4 phases and 4,400 lines at 60 Hz. -/
theorem test_canvas_line_time :
    (withP [(P.cv 0 P.CV_PHASES, 0, 4), (P.cv 0 P.CV_TOTAL_LINES, 0, 4400), (P.cv 0 P.CV_RATE, 0, 1)] up).lineTime 0 = 62060606 := by decide +kernel

/-- 07_midway.md: the line budget of CV02, and the cost of line 216 with three TFHs and three TLINEs. -/
theorem test_line_budget :
    (withP [(P.cv 2 P.CV_PHASES, 0, 1), (P.cv 2 P.CV_TOTAL_LINES, 0, 2250), (P.cv 2 P.CV_RATE, 0, 1)] up).lineBudget 2 40 = 9027
      ∧ lineCost [({ loop := 40, num := 0, hop := 2, mx := false, my := false, x := 0, y := 216 }, 384, 216), ({ loop := 40, num := 0, hop := 19, mx := false, my := false, x := 384, y := 216 }, 384, 216),
          ({ loop := 40, num := 0, hop := 22, mx := false, my := false, x := 768, y := 216 }, 384, 216)] 216 = 7032 := by decide +kernel

/-- 09_memory.md: channel, bank, row and column of a physical address under the three orders. -/
theorem test_dram_order :
    dramPlace 0x54234A40 0 = (10, 3, 1346, 0x440) ∧ dramPlace 0x54234A40 1 = (10, 4, 1346, 0x340) ∧ dramPlace 0x54234A40 2 = (10, 1, 1346, 0x440) := by
  decide +kernel

/-- 10_recording.md: five quads coded with K0 = 3, and read back. -/
theorem test_quads :
    packBits (encodeQuads 14 [[5, 2, 0, 7], [0, 0, 0, 0], [0, 0, 0, 0], [5, 2, 0, 7], [12, 9, 3, 4]] 0 { k := 3 }).1 = leBytes 0xB88C03E30329 6
      ∧ decodeQuads 14 5 5 (unpackBits (leBytes 0xB88C03E30329 6)) { k := 3 }
        = ([[5, 2, 0, 7], [0, 0, 0, 0], [0, 0, 0, 0], [5, 2, 0, 7], [12, 9, 3, 4]], true) := by decide +kernel

/-- 12_video_codec.md: CTU 7,256 of 8,160 in 9 slices is the first that the budget clamps; one of 1,008 bits would still have fitted. -/
theorem test_budget_clamp :
    firstClamped 5600000 32 8160 960 9 [] [2400] 7256 5566000 = some 7256 ∧ firstClamped 5600000 32 8160 960 9 [] [1008] 7256 5566000 = none := by decide +kernel

/-- 13_calliope_audio.md: *F* at 48 kHz with AP_FADE_US 5,000. -/
theorem test_fade_length : ((auUp 4 1 {}).setP (P.ap 15 P.AP_FADE_US) 0 5000).fadeLen 15 = 240 := by decide +kernel

/-! ### Steps -/

/-- An idle block stays as it is. -/
theorem test_step_idle : step State.reset = .next State.reset := rfl

/-- A PING at the front of the queue leaves it, and slot 0 holds a final reply to its tag. -/
theorem test_step_ping :
    (match step { up with pending := [.ping (cmd 0 0), .aipexTick] } with
      | .next t => (t.pending, (SMap.find 0 (t.win 0).replies).map fun r => (r.tag, r.final, r.status % 256, r.seq))
      | _ => ([], none)) = ([.aipexTick], some (7, true, 0, 1)) := by decide +kernel

/-- No word spells a command of the block. -/
theorem test_no_word : decodeTableWord 32 0x12345678 = none ∧ (up.withFetchWord 32 5) = up := by decide +kernel


/-! ### A term for each check of a command's operands, which the check refuses -/

theorem test_ill_formed_0 : (([
    .doorbell { fn := 64, win := 0 } 0,
    .doorbell { fn := 0, win := 64 } 0,
    .doorbell { fn := 0, win := 0 } 65536,
    .deferTimeout 64 4,
    .deferTimeout 63 16,
    .eventTailWrite { fn := 64, win := 0 } 0,
    .eventTailWrite { fn := 0, win := 64 } 0,
    .eventTailWrite { fn := 0, win := 0 } 65536,
    .registerWrite 64 0 0 [],
    .registerWrite 0 64 0 [],
    .registerWrite 0 0 0x10000 [none],
    .overflow 64,
    .ping { win := 65, slot := 0 },
    .fence { win := 63, slot := 16 },
    .identify { win := 64, slot := 4 },
    .ackBarker { cmd 0 0 with tag := 256 },
    .windowOpen { cmd 0 0 with flags := 256 },
    .windowClose (cmd 65536 0),
    .eventMaskSet { cmd 0 0 with rsvd06 := 65536 },
    .eventMaskGet { cmd 0 0 with seq := 0x100000000 },
    .faultLogRead { cmd 0 0 with ver := 256 },
    .paramGet { cmd 0 0 with rsvd0D := 0x1000000 },
    .paramSet (cmd 0 (1 <<< 1920)),
    .paramSetGroup { win := 65, slot := 0 },
    .paramDescribe { win := 63, slot := 16 },
    .stagedChangeApply (.frame 8),
    .tableRead { win := 64, slot := 4 },
    .tableWrite { cmd 0 0 with tag := 256 },
    .tableCommit { cmd 0 0 with flags := 256 },
    .tableDiscard (cmd 65536 0),
    .fwStage { cmd 0 0 with rsvd06 := 65536 },
    .fwActivate { cmd 0 0 with seq := 0x100000000 },
    .fwStatus { cmd 0 0 with ver := 256 },
    .fwKeyRevoke { cmd 0 0 with rsvd0D := 0x1000000 },
    .quarantineRelease (cmd 0 (1 <<< 1920)),
    .partnerArrivalReport { kind := 7, pos := 0 },
    .quarantineExpiry { kind := 7, pos := 0 },
    .hostInterfaceReset (.flrVf 64),
    .cgSignalDetect 8 0,
    .cgSignalDetect 0 17] : List Instr).all fun i => !i.wellFormed) = true := by decide +kernel

theorem test_ill_formed_1 : (([
    .cgTrainTimeout 8,
    .cameraAlign 8 [],
    .cameraAlign 0 [{ lane := 17, d1 := 0, d2 := 0, d3 := 0 }],
    .discoverRetry 8,
    .identity (camPkt 8 5 0 0 0 []),
    .identity (camPkt 0 15 0 0 0 []),
    .vcAnnounce (camPkt 8 6 0 0 0 []),
    .vcAnnounce (camPkt 0 15 0 0 0 []),
    .frameStart (camPkt 8 1 0 0 0 []),
    .frameStart (camPkt 0 15 0 0 0 []),
    .line (camPkt 8 2 0 0 0 []) [],
    .line (camPkt 0 15 0 0 0 []) [],
    .line (camPkt 0 2 0 0 0 []) [16384],
    .frameEnd (camPkt 8 3 0 0 0 []),
    .frameEnd (camPkt 0 15 0 0 0 []),
    .embedded (camPkt 8 4 0 0 0 []),
    .embedded (camPkt 0 15 0 0 0 []),
    .ctrlReply (camPkt 8 7 0 0 0 []),
    .ctrlReply (camPkt 0 15 0 0 0 []),
    .headStatus (camPkt 8 8 0 0 0 []),
    .headStatus (camPkt 0 15 0 0 0 []),
    .cameraBadPacket (camPkt 8 0 0 0 0 []),
    .probeSend 9 0,
    .probeEcho 9 0 0 0 0,
    .probeEcho 0 65536 0 0 0,
    .probeEcho 0 0 256 0 0,
    .probeEcho 0 0 0 256 0,
    .probeTimeout 9 0,
    .probeTimeout 0 65536,
    .tsyncSend 8 0 0,
    .tsyncSend 0 16 0,
    .camCtrlTimeout 8 0,
    .camCtrlTimeout 0 65536,
    .cameraLaneLost 8 0,
    .cameraLaneLost 0 17,
    .cameraHeadLost 8,
    .sensorBind { win := 65, slot := 0 },
    .sensorUnbind { win := 63, slot := 16 },
    .camExpose { win := 64, slot := 4 },
    .camCtrlWrite { cmd 0 0 with tag := 256 }] : List Instr).all fun i => !i.wellFormed) = true := by decide +kernel

theorem test_ill_formed_2 : (([
    .camCtrlRead { cmd 0 0 with flags := 256 },
    .camRetrain (cmd 65536 0),
    .pipelineWaitTimeout 8,
    .sidGateTimeout 8,
    .statsReady 8,
    .statsRead { cmd 0 0 with rsvd06 := 65536 },
    .colourProbe { cmd 0 0 with seq := 0x100000000 },
    .colourProbeCapture 4,
    .probeMissed 4,
    .showPeriodBoundary 16 0,
    .phaseBoundary 16 0,
    .phaseBoundary 0 4,
    .canvasLine 16 0 0 [] [],
    .canvasLine 0 4 0 [] [],
    .canvasLine 0 0 0 [] [1048576],
    .frameDone 16 { phase := 0, fence := 0 },
    .frameDone 0 { phase := 4, fence := 0 },
    .layerFetch 16 0 0,
    .layerFetch 0 16 0,
    .frameStoreComplete 8 0,
    .phaseSyncRise 4 0,
    .phaseSyncRise 0 4,
    .phaseSyncFall 4 0,
    .layerFlip { cmd 0 0 with ver := 256 },
    .canvasStatus { cmd 0 0 with rsvd0D := 0x1000000 },
    .fsoSend 16 0,
    .fsoSend 0 4,
    .tileLineSend 512 1 0 0 0,
    .tileLineSend 0 33 0 0 0,
    .tileLineSend 0 1 16 0 0,
    .tileLineSend 0 1 0 4 0,
    .discoverInterval 512 0,
    .discoverInterval 0 2,
    .tileId (tilePkt 1024 5 0 0 []),
    .tileId (tilePkt 0 8 0 0 []),
    .cfgReply (tilePkt 1024 8 0 0 []),
    .cfgReply (tilePkt 0 10 0 0 []),
    .tileStatus (tilePkt 1024 10 0 0 []),
    .tileStatus (tilePkt 0 5 0 0 []),
    .tileAlarmReceived 1024 0 0 0 0] : List Instr).all fun i => !i.wellFormed) = true := by decide +kernel

theorem test_ill_formed_3 : (([
    .tileAlarmReceived 0 256 0 0 0,
    .tileAlarmReceived 0 0 256 0 0,
    .tileAlarmReceived 0 0 0 256 0,
    .feedWatchdog 512 0,
    .feedWatchdog 0 2,
    .failoverTrained 512,
    .tilePoll 512 1,
    .tilePoll 0 33,
    .tilePollTimeout 512 1,
    .tilePollTimeout 0 33,
    .tileCfgTimeout 512 0,
    .tileCfgTimeout 0 256,
    .revertHoldExpiry 512,
    .handoverReady 512,
    .handoverAbandon 512,
    .pIdentity { tilePkt 0 1 0 0 [] with hdr := [] },
    .pIdentity (tilePkt 0 2 0 0 []),
    .pHeartbeat { tilePkt 0 2 0 0 [] with hdr := [] },
    .pHeartbeat (tilePkt 0 3 0 0 []),
    .pmark 0 256 0 0,
    .pmark 0 0 256 0,
    .pmark 0 0 0 256,
    .pLoop { tilePkt 0 3 0 0 [] with hdr := [] },
    .pLoop (tilePkt 0 4 0 0 []),
    .pHandover { tilePkt 0 4 0 0 [] with hdr := [] },
    .pHandover (tilePkt 0 5 0 0 []),
    .pTile { tilePkt 0 5 0 0 [] with hdr := [] },
    .pTile (tilePkt 0 1 0 0 []),
    .partnerConfig (cmd 0 (1 <<< 1920)),
    .loopDiscover { win := 65, slot := 0 },
    .tileCfgWrite { win := 63, slot := 16 },
    .tileCfgRead { win := 64, slot := 4 },
    .tileStatusRead { cmd 0 0 with tag := 256 },
    .loopFeed { cmd 0 0 with flags := 256 },
    .laneSignalDetect 1168,
    .laneSignalLoss 1168,
    .laneComma 1168 0,
    .laneComma 0 10,
    .laneInvalidSymbol 1168 [] 0,
    .laneInvalidSymbol 0 [] 1024] : List Instr).all fun i => !i.wellFormed) = true := by decide +kernel

theorem test_ill_formed_4 : (([
    .laneInvalidSymbol 0 [1024] 0,
    .laneCommaTimeout 1168,
    .skipReceived 1168 0 0 0 0,
    .skipReceived 0 0 256 0 0,
    .skipReceived 0 0 0 256 0,
    .skipReceived 0 0 0 0 256,
    .skipSend 1168,
    .fomWindow 1168 0 0,
    .laneMonitor 28 [],
    .laneWakeDone 1168 false,
    .calWindow 28 { start := 0, quality := [] },
    .calMeasureDone 1168 0,
    .calDeferLimit 28,
    .patternSync 1168 [] false [],
    .laneStatus (cmd 65536 0),
    .laneCalibrate { cmd 0 0 with rsvd06 := 65536 },
    .eyeScan { cmd 0 0 with seq := 0x100000000 },
    .eyeScanDone 1168 false [] 0,
    .patternSet { cmd 0 0 with ver := 256 },
    .patternStatus { cmd 0 0 with rsvd0D := 0x1000000 },
    .laneInject (cmd 0 (1 <<< 1920)),
    .laneTxSet { win := 65, slot := 0 },
    .memAlloc { win := 63, slot := 16 },
    .memFree { win := 64, slot := 4 },
    .memWrite { cmd 0 0 with tag := 256 },
    .memRead { cmd 0 0 with flags := 256 },
    .rowRetired 16 0,
    .rowRetired 0 16,
    .dramRefresh 16 { bank := 0, decayed := [] },
    .dramRefresh 0 { bank := 16, decayed := [] },
    .mr4Read 16 0,
    .wckTrack 16 [],
    .wckTrack 0 [1, 2, 3, 4, 5],
    .retrainInterval 16,
    .expanderPresent { serial := 0, port := 4 },
    .enumerationDone 32,
    .expanderSurpriseRemove 32,
    .cxlEventPoll 32 [],
    .cxlVerify 32 0 false,
    .regionVerifyDone 32] : List Instr).all fun i => !i.wellFormed) = true := by decide +kernel

theorem test_ill_formed_5 : (([
    .cxlRegionCreate (cmd 65536 0),
    .cxlRegionDelete { cmd 0 0 with rsvd06 := 65536 },
    .cxlRegionAccept { cmd 0 0 with seq := 0x100000000 },
    .cxlExpanderRemove { cmd 0 0 with ver := 256 },
    .removalDrainDone 32,
    .relocationDone 32,
    .slotPowerOff 32,
    .cxlPersistFlush { cmd 0 0 with rsvd0D := 0x1000000 },
    .attentionButton 32,
    .attentionTimer 32,
    .recordFenceDone 8,
    .recordDeadline 8,
    .checkpoint 64,
    .binRecovery 64,
    .wearMove 64,
    .clipProtect (cmd 0 (1 <<< 1920)),
    .clipMark { win := 65, slot := 0 },
    .sqTail { fn := 64, win := 0 } 0 0 [],
    .sqTail { fn := 0, win := 64 } 0 0 [],
    .sqTail { fn := 0, win := 0 } 16 0 [],
    .sqTail { fn := 0, win := 0 } 0 65536 [],
    .cqHead { fn := 64, win := 0 } 0 0,
    .cqHead { fn := 0, win := 64 } 0 0,
    .cqHead { fn := 0, win := 0 } 16 0,
    .cqHead { fn := 0, win := 0 } 0 65536,
    .sqFetch 64 0,
    .sqFetch 0 16,
    .read 64 0 0,
    .read 0 16 0,
    .read 0 0 65536,
    .readFrame 64 0 0,
    .readFrame 0 16 0,
    .readFrame 0 0 65536,
    .dirRead 64 0 0,
    .dirRead 0 16 0,
    .dirRead 0 0 65536,
    .indexRead 64 0 0,
    .indexRead 0 16 0,
    .indexRead 0 0 65536,
    .importClip 64 0 0 []] : List Instr).all fun i => !i.wellFormed) = true := by decide +kernel

theorem test_ill_formed_6 : (([
    .importClip 0 16 0 [],
    .importClip 0 0 65536 [],
    .cqFence 64 0 0,
    .cqFence 0 16 0,
    .cqFence 0 0 65536,
    .cqCommandTimeout 64 0 0,
    .cqCommandTimeout 0 16 0,
    .cqCommandTimeout 0 0 65536,
    .cqInterruptTimer 64 0,
    .cqInterruptTimer 0 16,
    .queueCreate { win := 63, slot := 16 },
    .queueDelete { win := 64, slot := 4 },
    .queueRestart { cmd 0 0 with tag := 256 },
    .queueResume 64 0,
    .queueResume 0 16,
    .queueErrorLog { cmd 0 0 with flags := 256 },
    .queueStatus (cmd 65536 0),
    .binCreate { cmd 0 0 with rsvd06 := 65536 },
    .binDelete { cmd 0 0 with seq := 0x100000000 },
    .binFormat { cmd 0 0 with ver := 256 },
    .binSanitise { cmd 0 0 with rsvd0D := 0x1000000 },
    .binAdminStatus (cmd 0 (1 <<< 1920)),
    .adminProgress 64 0,
    .adminDone 64,
    .vcOpen { win := 65, slot := 0 },
    .vcClose { win := 63, slot := 16 },
    .keyNow { win := 64, slot := 4 },
    .vcDecFeed { cmd 0 0 with tag := 256 },
    .feedTimeout 2,
    .vcPictureRead { cmd 0 0 with flags := 256 },
    .decodePace 2 0,
    .pictureDone 2 0 { picType := 0, poc := 0, bits := 0 },
    .pictureDeadline 2,
    .audioClockDetect 16,
    .audioClockLost 16,
    .fsEdge 16 0 0 [] false,
    .fsFlywheel 16 [],
    .audioRateMeasure 16 0,
    .audioBlockFetch 16 0 false,
    .audioBlockDeadline 16 0] : List Instr).all fun i => !i.wellFormed) = true := by decide +kernel

theorem test_ill_formed_7 : (([
    .audioStart (cmd 65536 0),
    .audioStatus { cmd 0 0 with rsvd06 := 65536 },
    .status { addr := 128, bare := false },
    .slotState 128,
    .submit 128 0 0 [] none,
    .submit 0 4 0 [] none,
    .reply 128 0,
    .reply 0 4,
    .hkRead 128,
    .replyAck 128 0 none,
    .replyAck 0 4 none,
    .mbStretchTimeout 128 0,
    .mbBusTimeout 128 0,
    .hkStatus { cmd 0 0 with seq := 0x100000000 },
    .bgStatus { cmd 0 0 with ver := 256 },
    .vauxValid 4,
    .deviceReset { cmd 0 0 with rsvd0D := 0x1000000 },
    .powerStateSet (cmd 0 (1 <<< 1920)),
    .tilePortAlign 1024 0 0 0 0,
    .tilePortAlign 0 256 0 0 0,
    .tilePortAlign 0 0 256 0 0,
    .tilePortAlign 0 0 0 256 0,
    .discoverReceived (tilePkt 1024 4 0 0 []),
    .discoverReceived (tilePkt 0 15 0 0 []),
    .fsoReceived 1024 0 0 0 0,
    .fsoReceived 0 256 0 0 0,
    .fsoReceived 0 0 256 0 0,
    .fsoReceived 0 0 0 256 0,
    .partnerSignalDetect 8,
    .partnerAlign [{ lane := 17, d1 := 0, d2 := 0, d3 := 0 }],
    .partnerProbe 65536 0 0 0,
    .partnerProbe 0 256 0 0,
    .partnerProbe 0 0 256 0,
    .perstNRise 4] : List Instr).all fun i => !i.wellFormed) = true := by decide +kernel

/-! ### States and operands that meet the hypotheses of the obligations -/

/-- O1: each clause of StepRunsFrontCommand has an input. -/
theorem test_hypotheses_StepRunsFrontCommand :
  (∃ (s : Machine.State), s.pending = []) :=
  ⟨State.reset, by decide +kernel⟩

/-- O2: each clause of CommandsRunWhereUnitsExist has an input. -/
theorem test_hypotheses_CommandsRunWhereUnitsExist :
  (∃ (i : Instr) (s : Machine.State), i.wellFormed = true)
  ∧ (∃ (i : Instr) (s : Machine.State), i.wellFormed = false) :=
  ⟨⟨.overflow 63, up, by decide +kernel⟩,
   ⟨.overflow 64, up, by decide +kernel⟩⟩

/-- O3: each clause of WellFormedQueueIsInvariant has an input. -/
theorem test_hypotheses_WellFormedQueueIsInvariant :
  (∃ (s : Machine.State), QueueWellFormed s) :=
  ⟨{ up with pending := [.overflow 63, .ping (cmd 0 0)] }, by decide +kernel⟩

/-- O5: each clause of HeaderChecksRunInOrder has an input. -/
theorem test_hypotheses_HeaderChecksRunInOrder :
  (∃ (i : Instr) (spec : OpSpec) (c : Cmd) (s : Machine.State), i.mailbox = some (spec, c) ∧ s.takes spec.op c ∧ (c.ver ≠ 1 ∨ s.fwSupports spec.op = false))
  ∧ (∃ (i : Instr) (spec : OpSpec) (c : Cmd) (s : Machine.State), i.mailbox = some (spec, c) ∧ spec.priv = true ∧ s.takes spec.op c ∧ c.ver = 1 ∧ s.fwSupports spec.op = true ∧ (c.win = 64 ∨ s.winState c.win = WinState.opened) ∧ ¬s.privilegedClient c)
  ∧ (∃ (i : Instr) (spec : OpSpec) (c : Cmd) (s : Machine.State), i.mailbox = some (spec, c) ∧ s.takes spec.op c ∧ c.ver = 1 ∧ s.fwSupports spec.op = true ∧ (c.win = 64 ∨ s.winState c.win = WinState.opened) ∧ ((spec.priv || spec.privIf c) = true → s.privilegedClient c) ∧ (c.win = 64 → spec.bus c = true) ∧ (8 ≤ c.flags ∨ c.rsvd06 ≠ 0 ∨ c.rsvd0D ≠ 0 ∨ 240 < c.opLen ∨ spec.len c = false ∨ c.ops % 2 ^ (8 * c.opLen) &&& spec.rsvd ≠ 0)) :=
  ⟨⟨.ping { cmd 0 0 with ver := 2 }, pingSpec, { cmd 0 0 with ver := 2 }, up, rfl, by decide +kernel⟩,
   ⟨.quarantineRelease { cmd 8 0 with win := 1 }, quarantineReleaseSpec, { cmd 8 0 with win := 1 }, up1, rfl, by decide +kernel⟩,
   ⟨.ping { cmd 240 0 with flags := 8 }, pingSpec, { cmd 240 0 with flags := 8 }, up, by refine ⟨?_, ?_, ?_, ?_, ?_, ?_, ?_, ?_⟩ <;> first | exact (rfl) | exact (by decide +kernel) | decide +kernel⟩⟩

/-- O6: each clause of ClosedWindowRejectsCommands has an input. -/
theorem test_hypotheses_ClosedWindowRejectsCommands :
  (∃ (i : Instr) (spec : OpSpec) (c : Cmd) (s : Machine.State), i.mailbox = some (spec, c) ∧ s.takes spec.op c ∧ c.ver = 1 ∧ s.fwSupports spec.op = true ∧ c.win ≠ 64 ∧ s.winState c.win = WinState.closed ∧ spec.op ≠ 1 ∧ spec.op ≠ 3 ∧ spec.op ≠ 5)
  ∧ (∃ (c : Cmd) (s : Machine.State), s.takes 1 c ∧ c.headerOk ∧ c.operands 0 0 ∧ s.fwSupports 1 = true ∧ c.win ≠ 64 ∧ s.winState c.win = WinState.closed)
  ∧ (∃ (c : Cmd) (s : Machine.State), s.takes 3 c ∧ c.headerOk ∧ c.operands 0 0 ∧ s.fwSupports 3 = true ∧ c.win ≠ 64 ∧ s.winState c.win = WinState.closed)
  ∧ (∃ (c : Cmd) (s : Machine.State), s.takes 5 c ∧ c.headerOk ∧ c.operands 0 0 ∧ s.fwSupports 5 = true ∧ c.win ≠ 64 ∧ s.winState c.win = WinState.closed ∧ s.ctl.boot = Boot.running ∧ s.getP P.EVENT_OVER_QUOTA c.win = 0 ∧ 6 ≤ (s.win c.win).sizeLog2 ∧ (s.win c.win).sizeLog2 ≤ 16 ∧ (s.win c.win).base ≠ 0 ∧ (s.win c.win).base + 32 * 2 ^ (s.win c.win).sizeLog2 ≤ 2 ^ 64) :=
  ⟨⟨.fence { cmd 0 0 with win := 1 }, fenceSpec, { cmd 0 0 with win := 1 }, up, rfl, by decide +kernel⟩,
   ⟨{ cmd 0 0 with win := 1 }, up, by decide +kernel⟩,
   ⟨{ cmd 0 0 with win := 1 }, up, by decide +kernel⟩,
   ⟨{ cmd 0 0 with win := 63 }, up.setWin 63 { base := 0x10000, sizeLog2 := 16 }, by decide +kernel⟩⟩

/-- O7: each clause of DoorbellOfBusySlotIsIgnored has an input. -/
theorem test_hypotheses_DoorbellOfBusySlotIsIgnored :
  (∃ (i : Instr) (spec : OpSpec) (c : Cmd) (s : Machine.State), i.mailbox = some (spec, c) ∧ c.wf = true ∧ s.reachable c.win = true ∧ s.slotFree c.win c.slot = false)
  ∧ (∃ (fn : ℕ) (win : ℕ) (value : ℕ) (s : Machine.State), fn < 64 ∧ win < 64 ∧ value < 65536 ∧ s.hostTakes fn win = false)
  ∧ (∃ (fn : ℕ) (win : ℕ) (value : ℕ) (s : Machine.State), fn < 64 ∧ win < 64 ∧ value < 65536 ∧ s.hostTakes fn win = true)
  ∧ (∃ (i : Instr) (spec : OpSpec) (c : Cmd) (s : Machine.State), i.mailbox = some (spec, c) ∧ c.wf = true ∧ s.reachable c.win = true ∧ s.slotFree c.win c.slot = true ∧ s.ctl.fwReady = false) :=
  ⟨⟨.ping (cmd 0 0), pingSpec, cmd 0 0, up.setWin 0 { state := .opened, busy := 1 }, rfl, by decide +kernel⟩,
   ⟨1, 63, 65535, up, by decide +kernel⟩,
   ⟨0, 63, 65535, up, by decide +kernel⟩,
   ⟨.ping (cmd 0 0), pingSpec, cmd 0 0, { up with ctl := { up.ctl with fwReady := false } }, rfl, by decide +kernel⟩⟩

/-- O8: each clause of DarkHoldsAndRecoveryRejects has an input. -/
theorem test_hypotheses_DarkHoldsAndRecoveryRejects :
  (∃ (i : Instr) (spec : OpSpec) (c : Cmd) (s : Machine.State), i.mailbox = some (spec, c) ∧ c.wf = true ∧ s.reachable c.win = true ∧ s.slotFree c.win c.slot = true ∧ s.ctl.fwReady = true ∧ s.getP P.PW_STATE 0 = 2 ∧ s.pw.step = PwStep.none ∧ darkExempt spec.op = false ∧ (¬(spec.op = 64 ∧ c.f 0 8 = 2)))
  ∧ (∃ (i : Instr) (spec : OpSpec) (c : Cmd) (s : Machine.State), i.mailbox = some (spec, c) ∧ s.takes spec.op c ∧ c.ver = 1 ∧ c.win = 0 ∧ (s.ctl.boot = Boot.recoveryImage ∧ spec.op ∉ [1, 3, 9, 48, 50] ∧ ¬(spec.op = 49 ∧ c.ops.testBit 0 = true) ∨ s.ctl.boot = Boot.recoveryDram ∧ spec.op ∉ [1, 3, 9, 50]))
  ∧ (∃ (c : Cmd) (s : Machine.State), s.takes 5 c ∧ c.ver = 1 ∧ c.win ≠ 0 ∧ c.win ≠ 64 ∧ (s.ctl.boot = Boot.recoveryImage ∨ s.ctl.boot = Boot.recoveryDram)) :=
  ⟨⟨.fence (cmd 0 0), fenceSpec, cmd 0 0, up.setP P.PW_STATE 0 2, rfl, by decide +kernel⟩,
   ⟨.fence (cmd 0 0), fenceSpec, cmd 0 0, { up with ctl := { up.ctl with boot := .recoveryImage } }, rfl, by decide +kernel⟩,
   ⟨{ cmd 0 0 with win := 1 }, { up with ctl := { up.ctl with boot := .recoveryDram } }, by decide +kernel⟩⟩

/-- O9: each clause of GenericCommandsComplete has an input. -/
theorem test_hypotheses_GenericCommandsComplete :
  (∃ (c : Cmd) (s : Machine.State), s.accepts false 1 c ∧ c.operands 0 0)
  ∧ (∃ (c : Cmd) (s : Machine.State), s.accepts false 2 c ∧ c.operands 0 0)
  ∧ (∃ (c : Cmd) (s : Machine.State), s.accepts false 3 c ∧ c.operands 0 0)
  ∧ (∃ (c : Cmd) (s : Machine.State), s.accepts false 8 c ∧ c.operands 0 0 ∧ c.win ≠ 64)
  ∧ (∃ (c : Cmd) (s : Machine.State), s.accepts false 9 c ∧ c.operands 4 0)
  ∧ (∃ (c : Cmd) (s : Machine.State), s.accepts false 4 c ∧ c.operands 8 4294967040) :=
  ⟨⟨cmd 0 0, up, by decide +kernel⟩,
   ⟨cmd 0 0, up, by decide +kernel⟩,
   ⟨cmd 0 0, up, by decide +kernel⟩,
   ⟨cmd 0 0, up, by decide +kernel⟩,
   ⟨cmd 4 0, up, by decide +kernel⟩,
   ⟨cmd 8 0xFF, up, by decide +kernel⟩⟩

/-- O10: each clause of WindowsCloseByCommandAndReset has an input. -/
theorem test_hypotheses_WindowsCloseByCommandAndReset :
  (∃ (c : Cmd) (s : Machine.State), s.accepts false 6 c ∧ c.operands 0 0 ∧ c.win ≠ 64 ∧ (∀ q < 16, s.pair? c.win q = none) ∧ (∀ e < 2, s.vcState e = 0 ∨ s.vcp e P.VC_HOLDER ≠ c.win))
  ∧ (∃ (c : Cmd) (s : Machine.State), s.accepts false 7 c ∧ c.operands 32 0 ∧ c.win ≠ 64)
  ∧ (∃ (n : ℕ) (s : Machine.State), 1 ≤ n ∧ n ≤ 63)
  ∧ (∃ (r : HostReset) (s : Machine.State), (∀ (n : ℕ), r ≠ HostReset.flrVf n)) :=
  ⟨⟨cmd 0 0, up, by decide +kernel⟩,
   ⟨cmd 32 (2 ^ 256 - 1), up, by decide +kernel⟩,
   ⟨63, up, by decide +kernel⟩,
   ⟨.hot, up, by intro n h; cases h⟩⟩

/-- O11: each clause of WindowRegistersTakeWrites has an input. -/
theorem test_hypotheses_WindowRegistersTakeWrites :
  (∃ (fn : ℕ) (win : ℕ) (v : ℕ) (s : Machine.State), fn < 64 ∧ win < 64 ∧ v < 65536 ∧ s.hostTakes fn win = true ∧ v < 2 ^ (s.win win).sizeLog2 ∧ (v + 2 ^ (s.win win).sizeLog2 - (s.win win).tail) % 2 ^ (s.win win).sizeLog2 ≤ (s.win win).count)
  ∧ (∃ (fn : ℕ) (win : ℕ) (v : ℕ) (s : Machine.State), fn < 64 ∧ win < 64 ∧ v < 65536 ∧ s.hostTakes fn win = true ∧ (2 ^ (s.win win).sizeLog2 ≤ v ∨ (s.win win).count < (v + 2 ^ (s.win win).sizeLog2 - (s.win win).tail) % 2 ^ (s.win win).sizeLog2))
  ∧ (∃ (fn : ℕ) (win : ℕ) (v : ℕ) (s : Machine.State), fn < 64 ∧ win < 64 ∧ v < 65536 ∧ s.hostTakes fn win = false)
  ∧ (∃ (fn : ℕ) (win : ℕ) (k : ℕ) (o : ℕ) (b : Byte) (s : Machine.State), fn < 64 ∧ win < 64 ∧ s.hostTakes fn win = true ∧ k < 16 ∧ o < 256)
  ∧ (∃ (fn : ℕ) (win : ℕ) (o : ℕ) (s : Machine.State), fn < 64 ∧ win < 64 ∧ o < 4096)
  ∧ (∃ (fn : ℕ) (win : ℕ) (o : ℕ) (x : Option Byte) (l : List (Option Byte)) (s : Machine.State), fn < 64 ∧ win < 64 ∧ o + l.length < 4096 ∧ l ≠ [])
  ∧ (∃ (fn : ℕ) (win : ℕ) (v : ℕ) (s : Machine.State), fn < 64 ∧ win < 64 ∧ v < 2 ^ 32 ∧ s.hostTakes fn win = true ∧ s.winState win = WinState.closed)
  ∧ (∃ (fn : ℕ) (win : ℕ) (v : ℕ) (s : Machine.State), fn < 64 ∧ win < 64 ∧ v < 2 ^ 32 ∧ s.hostTakes fn win = true ∧ s.winState win ≠ WinState.closed)
  ∧ (∃ (fn : ℕ) (win : ℕ) (o : ℕ) (l : List (Option Byte)) (s : Machine.State), fn < 64 ∧ win < 64 ∧ 8192 ≤ o ∧ o + l.length ≤ 16384 ∧ (l.all Option.isSome = false ∨ ¬(l.length = 4 ∧ o % 4 = 0) ∧ ¬(l.length = 8 ∧ o % 8 = 0)))
  ∧ (∃ (fn : ℕ) (win : ℕ) (o : ℕ) (l : List (Option Byte)) (s : Machine.State), fn < 64 ∧ win < 64 ∧ o + l.length ≤ 65536 ∧ s.hostTakes fn win = false) :=
  ⟨⟨0, 0, 5, up.setWin 0 { state := .opened, base := 0x10000, sizeLog2 := 6, head := 5, tail := 60, written := 69 }, by decide +kernel⟩,
   ⟨0, 0, 6, up.setWin 0 { state := .opened, base := 0x10000, sizeLog2 := 6, head := 5, tail := 60, written := 69 }, by decide +kernel⟩,
   ⟨63, 0, 6, up.setWin 0 { state := .opened, base := 0x10000, sizeLog2 := 6, head := 5, tail := 60, written := 69 }, by decide +kernel⟩,
   ⟨0, 0, 15, 255, 0xFF, up, by decide +kernel⟩,
   ⟨63, 63, 4095, up, by decide +kernel⟩,
   ⟨63, 63, 4090, some 1, [none, some 2], up, by decide +kernel⟩,
   ⟨0, 1, 2 ^ 32 - 1, up, by decide +kernel⟩,
   ⟨0, 0, 17, up, by decide +kernel⟩,
   ⟨0, 0, 8218, [some 1, some 2], up, by decide +kernel⟩,
   ⟨7, 0, 8218, [some 1, some 2], up, by decide +kernel⟩⟩

/-- O12: each clause of EventRecordsFillTheRing has an input. -/
theorem test_hypotheses_EventRecordsFillTheRing :
  (∃ (n : ℕ) (e : Event) (s : Machine.State) (a4 : ℕ), (s.win n).state = WinState.opened ∧ (s.win n).pendLoss = 0 ∧ (s.win n).count < min (s.getP P.EVENT_QUOTA n) (2 ^ (s.win n).sizeLog2 - 1) - 1 ∧ 32 ≤ s.hostGood ((s.win n).base + 32 * (s.win n).head) 32 ∧ (a4 < (s.win n).base + 32 * (s.win n).head ∨ (s.win n).base + 32 * (s.win n).head + 32 ≤ a4))
  ∧ (∃ (n : ℕ) (e : Event) (s : Machine.State) (w : ℕ), (s.win n).state = WinState.opened ∧ (s.win n).pendLoss = 0 ∧ (s.win n).count < min (s.getP P.EVENT_QUOTA n) (2 ^ (s.win n).sizeLog2 - 1) - 1 ∧ 32 ≤ s.hostGood ((s.win n).base + 32 * (s.win n).head) 32 ∧ w ≠ n)
  ∧ (∃ (n : ℕ) (e : Event) (s : Machine.State), (s.win n).state = WinState.opened ∧ ((s.win n).pendLoss ≠ 0 ∨ min (s.getP P.EVENT_QUOTA n) (2 ^ (s.win n).sizeLog2 - 1) - 1 ≤ (s.win n).count))
  ∧ (∃ (n : ℕ) (s : Machine.State), n < 64 ∧ (s.win n).state = WinState.opened ∧ 0 < (s.win n).pendLoss ∧ (s.win n).count < min (s.getP P.EVENT_QUOTA n) (2 ^ (s.win n).sizeLog2 - 1) ∧ 32 ≤ s.hostGood ((s.win n).base + 32 * (s.win n).head) 32)
  ∧ (∃ (n : ℕ) (s : Machine.State), n < 64 ∧ (s.win n).pendLoss = 0) :=
  ⟨⟨0, { typ := 0x0D, cls := 0, idx := 0 }, up.setWin 0 { state := .opened, base := 0x10000, sizeLog2 := 6, head := 61, written := 61 }, 0x10000, by decide +kernel⟩,
   ⟨0, { typ := 0x0D, cls := 0, idx := 0 }, up.setWin 0 { state := .opened, base := 0x10000, sizeLog2 := 6, head := 61, written := 61 }, 1, by decide +kernel⟩,
   ⟨0, { typ := 0x0D, cls := 0, idx := 0 }, up.setWin 0 { state := .opened, base := 0x10000, sizeLog2 := 6, head := 62, written := 62 }, by decide +kernel⟩,
   ⟨0, up.setWin 0 { state := .opened, base := 0x10000, sizeLog2 := 6, head := 61, written := 61, lost := 3, pendLoss := 3, firstLoss := 9 }, by decide +kernel⟩,
   ⟨63, up, by decide +kernel⟩⟩

/-- O13: each clause of FaultLogAndDeferredReplies has an input. -/
theorem test_hypotheses_FaultLogAndDeferredReplies :
  (∃ (w : ℕ) (k : ℕ) (s : Machine.State), (w < 64 ∧ k < 16 ∨ w = 64 ∧ k < 4) ∧ (s.win w).rung.testBit k = true)
  ∧ (∃ (w : ℕ) (k : ℕ) (s : Machine.State), (w < 64 ∧ k < 16 ∨ w = 64 ∧ k < 4) ∧ (s.win w).rung.testBit k = false) :=
  ⟨⟨0, 0, up.setWin 0 { state := .opened, busy := 1, rung := 1 }, by decide +kernel⟩,
   ⟨64, 3, up, by decide +kernel⟩⟩

/-- O14: each clause of ParametersAreReadAndWritten has an input. -/
theorem test_hypotheses_ParametersAreReadAndWritten :
  (∃ (c : Cmd) (s : Machine.State) (r : ParamRow), s.accepts false 16 c ∧ c.operands 16 18446744065119617024 ∧ c.f 32 1 = 0 ∧ paramRow? (c.f 0 16) = some r ∧ c.f 16 16 < max r.count 1 ∧ c.f 0 16 ≠ P.SERIAL ∧ c.f 0 16 ≠ P.MEM_POOL_FREE ∧ c.f 0 16 ≠ P.MEM_CARVE_USED ∧ (paramBase (c.f 0 16)).1 ≠ P.DPC_STATIC_COUNT)
  ∧ (∃ (c : Cmd) (s : Machine.State), s.accepts false 16 c ∧ c.operands 16 18446744065119617024 ∧ paramRow? (c.f 0 16) = none)
  ∧ (∃ (c : Cmd) (s : Machine.State), s.accepts true 17 c ∧ c.operands 16 18446744069414584320 ∧ c.f 0 16 = 10 ∧ c.f 16 16 = 0 ∧ 20 ≤ c.f 64 64 ∧ c.f 64 64 ≤ 1000 ∧ s.claimedByOther c.win (pkey 10 0) = false)
  ∧ (∃ (c : Cmd) (s : Machine.State), s.accepts true 17 c ∧ c.operands 16 18446744069414584320 ∧ c.f 0 16 = 10 ∧ c.f 16 16 = 0 ∧ (c.f 64 64 < 20 ∨ 1000 < c.f 64 64))
  ∧ (∃ (c : Cmd) (s : Machine.State), s.accepts false 17 c ∧ c.operands 16 18446744069414584320 ∧ c.f 0 16 = 0 ∧ c.f 16 16 = 0)
  ∧ (∃ (c : Cmd) (s : Machine.State), s.accepts false 17 c ∧ c.operands 16 18446744069414584320 ∧ c.f 0 16 = P.BW_RESERVABLE_PCT ∧ c.f 16 16 = 0 ∧ 60 ≤ c.f 64 64 ∧ c.f 64 64 ≤ 90 ∧ s.claimedByOther c.win (pkey P.BW_RESERVABLE_PCT 0) = false ∧ c.immediate = false)
  ∧ (∃ (c : Cmd) (s : Machine.State), s.accepts true 18 c ∧ c.opLen = 40 ∧ c.f 0 16 = 2 ∧ c.f 16 48 = 0 ∧ c.f 64 16 = 10 ∧ c.f 80 16 = 0 ∧ c.f 96 32 = 0 ∧ 20 ≤ c.f 128 64 ∧ c.f 128 64 ≤ 1000 ∧ c.f 224 32 = 0 ∧ paramRow? (c.f 192 16) = none)
  ∧ (∃ (c : Cmd) (s : Machine.State), s.accepts true 18 c ∧ c.opLen = 24 ∧ c.f 0 16 = 1 ∧ c.f 16 48 = 0 ∧ c.f 64 16 = 10 ∧ c.f 80 16 = 0 ∧ c.f 96 32 = 0 ∧ 20 ≤ c.f 128 64 ∧ c.f 128 64 ≤ 1000 ∧ s.claimedByOther c.win (pkey 10 0) = false)
  ∧ (∃ (c : Cmd) (s : Machine.State), s.accepts false 19 c ∧ c.operands 4 0 ∧ c.f 0 16 = 10 ∧ c.f 16 16 = 0) :=
  ⟨⟨cmd 16 (10 ||| 0 <<< 64), up, (paramRow? 10).get rfl, by refine ⟨?_, ?_, ?_, ?_, ?_, ?_, ?_, ?_, ?_⟩ <;> first | exact (by decide +kernel) | decide +kernel⟩,
   ⟨cmd 16 0xFFFF, up, by decide +kernel⟩,
   ⟨cmd 16 (10 ||| 20 <<< 64), up, by decide +kernel⟩,
   ⟨cmd 16 (10 ||| 1001 <<< 64), up, by decide +kernel⟩,
   ⟨cmd 16 (5 <<< 64), up, by decide +kernel⟩,
   ⟨cmd 16 (0x60 ||| 90 <<< 64), up, by decide +kernel⟩,
   ⟨cmd 40 (2 ||| 10 <<< 64 ||| 1000 <<< 128 ||| 0xFFFF <<< 192), up, by decide +kernel⟩,
   ⟨cmd 24 (1 ||| 10 <<< 64 ||| 20 <<< 128), up, by decide +kernel⟩,
   ⟨cmd 4 10, up, by decide +kernel⟩⟩

/-- O15: each clause of TablesAreStagedAndSwapped has an input. -/
theorem test_hypotheses_TablesAreStagedAndSwapped :
  (∃ (c : Cmd) (s : Machine.State), s.accepts false 32 c ∧ c.operands 24 0 ∧ tblHost c = 0 ∧ tableRangeOk c = true ∧ c.f 32 1 = 0 ∧ c.f 0 16 ≠ 2 ∧ c.f 0 16 ≠ 3 ∧ c.f 0 16 ≠ 9)
  ∧ (∃ (c : Cmd) (s : Machine.State), s.accepts false 33 c ∧ c.opLen = 24 + tblLen c ∧ tblHost c = 0 ∧ tableRangeOk c = true ∧ c.f 32 1 = 0 ∧ c.f 0 16 ≠ 8 ∧ c.f 0 16 ≠ 9 ∧ (∀ (g : Staging), s.staging? (c.f 0 16) (c.f 16 16) = some g → g.owner = c.win))
  ∧ (∃ (c : Cmd) (s : Machine.State) (g : Staging), s.accepts false 34 c ∧ c.opLen = 4 ∧ c.f 0 16 = 4 ∧ s.staging? 4 (c.f 16 16) = some g ∧ g.owner = c.win ∧ s.commitPending 4 (c.f 16 16) = false ∧ (∀ e ∈ g.bytes, e.1 % 4 ≠ 3) ∧ c.immediate = false)
  ∧ (∃ (n : ℕ) (k : ℕ) (m : Sys2Proof.SMap Byte) (b : Boundary) (s : Machine.State), s.ctl.staged = [{ ats := [b], what := StagedWhat.tables [(4, n, m)], ticket := none, left := k }] ∧ s.hasReached b = true)
  ∧ (∃ (c : Cmd) (s : Machine.State) (g : Staging), s.accepts false 35 c ∧ c.operands 4 0 ∧ c.f 16 16 < tableCount (c.f 0 16) ∧ s.staging? (c.f 0 16) (c.f 16 16) = some g ∧ g.owner = c.win)
  ∧ (∃ (c : Cmd) (s : Machine.State), s.accepts false 35 c ∧ c.operands 4 0 ∧ c.f 16 16 < tableCount (c.f 0 16) ∧ s.staging? (c.f 0 16) (c.f 16 16) = none)
  ∧ (∃ (lg : ℕ) (k : ℕ) (p : Option ℕ) (s : Machine.State), lg < 28 ∧ s.ctl.staged = [{ ats := [Boundary.lane lg], what := StagedWhat.laneTx k p, ticket := none, left := 0 }]) :=
  ⟨⟨cmd 24 (4 ||| 4 <<< 32), up, by decide +kernel⟩,
   ⟨cmd 28 (4 ||| 4 <<< 32 ||| 0xFF <<< 192), up, by refine ⟨?_, ?_, ?_, ?_, ?_, ?_, ?_, ?_⟩ <;> first | exact (by intro g h; cases h) | decide +kernel⟩,
   ⟨cmd 4 4, { up with ctl := { up.ctl with staging := [{ table := 4, num := 0, owner := 0, bytes := [(0, 1)] }] } }, { table := 4, num := 0, owner := 0, bytes := [(0, 1)] }, by decide +kernel⟩,
   ⟨0, 0, [(0, 1)], .master, { up with ctl := { up.ctl with staged := [{ ats := [.master], what := .tables [(4, 0, [(0, 1)])], ticket := none, left := 0 }], reached := [.master] } }, by decide +kernel⟩,
   ⟨cmd 4 4, { up with ctl := { up.ctl with staging := [{ table := 4, num := 0, owner := 0, bytes := [(0, 1)] }] } }, { table := 4, num := 0, owner := 0, bytes := [(0, 1)] }, by decide +kernel⟩,
   ⟨cmd 4 4, up, by decide +kernel⟩,
   ⟨27, 1167, some 3, { up with ctl := { up.ctl with staged := [{ ats := [.lane 27], what := .laneTx 1167 (some 3), ticket := none, left := 0 }] } }, by decide +kernel⟩⟩

/-- O16: each clause of RingmasterFollowsItsReference has an input. -/
theorem test_hypotheses_RingmasterFollowsItsReference :
  (∃ (t : ℕ) (s : Machine.State), s.getP P.RM_SOURCE 0 = 1 ∧ s.partnerTiming = false ∧ s.getP P.RM_STATE 0 = 2 ∧ s.ring.lastValid + s.ring.period ≤ t * 65536 + s.getP P.RM_ACCEPT_WIN 0 * 65536 ∧ t * 65536 ≤ s.ring.lastValid + s.ring.period + s.getP P.RM_ACCEPT_WIN 0 * 65536)
  ∧ (∃ (t : ℕ) (s : Machine.State), s.getP P.RM_SOURCE 0 = 1 ∧ s.partnerTiming = false ∧ s.getP P.RM_STATE 0 = 2 ∧ s.ring.invalid < 7 ∧ t * 65536 + s.getP P.RM_ACCEPT_WIN 0 * 65536 < s.ring.lastValid + s.ring.period)
  ∧ (∃ (t : ℕ) (s : Machine.State), s.getP P.RM_SOURCE 0 = 0)
  ∧ (∃ (s : Machine.State), s.getP P.RM_STATE 0 = 2 ∧ s.ring.invalid = 7)
  ∧ (∃ (t : ℕ) (s : Machine.State), s.atRest ∧ s.getP P.RM_STATE 0 ≠ 2)
  ∧ (∃ (t : ℕ) (s : Machine.State), s.getP P.TRIG_ARM 0 = 1 ∧ s.ring.armedAt + 1 ≤ t ∧ s.binList = [] ∧ s.au.starts = [])
  ∧ (∃ (t : ℕ) (s : Machine.State), s.getP P.TRIG_ARM 0 = 0) :=
  ⟨⟨16667666, (withP [(P.RM_SOURCE, 0, 1), (P.RM_STATE, 0, 2)] up), by decide +kernel⟩,
   ⟨16665666, (withP [(P.RM_SOURCE, 0, 1), (P.RM_STATE, 0, 2)] up), by decide +kernel⟩,
   ⟨7, up, by decide +kernel⟩,
   ⟨{ (withP [(P.RM_SOURCE, 0, 1), (P.RM_STATE, 0, 2)] up) with ring := { (withP [(P.RM_SOURCE, 0, 1), (P.RM_STATE, 0, 2)] up).ring with invalid := 7 } }, by decide +kernel⟩,
   ⟨16666667, up, by decide +kernel⟩,
   ⟨1, up.setP P.TRIG_ARM 0 1, by decide +kernel⟩,
   ⟨1, up, by decide +kernel⟩⟩

/-- O17: each clause of AipexRestartsAndFirmwareSwitches has an input. -/
theorem test_hypotheses_AipexRestartsAndFirmwareSwitches :
  (∃ (s : Machine.State), (∀ (w : ℕ), (s.win w).pendLoss = 0 ∧ (s.win w).rung = 0) ∧ (∀ f ∈ s.ctl.flights, f.started = true) ∧ s.dram.poison = [])
  ∧ (∃ (s : Machine.State), s.ctl.boot = Boot.running ∧ s.ctl.restarting = true ∧ s.ctl.heldReplies = [])
  ∧ (∃ (tk : ℕ) (code : ℕ) (len : ℕ) (r : ℕ) (f : Flight) (s : Machine.State), s.ctl.boot = Boot.running ∧ s.ctl.restarting = true ∧ s.ctl.heldReplies = [(tk, code, len, r)] ∧ s.flight? tk = some f ∧ code < 256)
  ∧ (∃ (k : ℕ) (q : Probe) (g : Flight) (s : Machine.State), k < 4 ∧ s.probe k = some q ∧ s.flight? q.ticket = some g ∧ s.aipexDown = true ∧ (∀ e ∈ s.ctl.heldReplies, e.1 ≠ q.ticket))
  ∧ (∃ (c : Cmd) (s : Machine.State), s.accepts true 48 c ∧ c.operands 20 1461501635969773450519930978862784589928859697152 ∧ c.win ≠ 64 ∧ c.f 0 32 = 0 ∧ 1 ≤ c.f 32 32 ∧ c.f 32 32 ≤ 16777216 ∧ c.f 128 1 = 1 ∧ c.f 129 1 = 0 ∧ s.ctl.switch = none ∧ c.f 32 32 ≤ s.hostGood (c.f 64 64) (c.f 32 32) ∧ c.host = [])
  ∧ (∃ (c : Cmd) (s : Machine.State), s.accepts true 49 c ∧ c.operands 1 252 ∧ s.ctl.switch = none ∧ s.slotValid s.inactiveSlot = true ∧ c.f 0 1 = 1)
  ∧ (∃ (c : Cmd) (s : Machine.State), s.accepts true 49 c ∧ c.operands 1 252 ∧ s.ctl.switch = none ∧ s.slotValid s.inactiveSlot = true ∧ (s.fwSlot s.inactiveSlot).staged = true ∧ c.f 0 1 = 0)
  ∧ (∃ (c : Cmd) (s : Machine.State), s.accepts true 49 c ∧ c.operands 1 252 ∧ s.ctl.switch = none ∧ s.slotValid s.inactiveSlot = false)
  ∧ (∃ (c : Cmd) (s : Machine.State), s.accepts true 51 c ∧ c.operands 8 0 ∧ c.f 0 32 < 4 ∧ c.f 32 32 = 1380275787 ∧ (s.fwSlot (s.getP P.FW_ACTIVE_SLOT 0)).key ≠ c.f 0 32)
  ∧ (∃ (c : Cmd) (s : Machine.State), s.accepts false 50 c ∧ c.operands 0 0)
  ∧ (∃ (w : Switchover) (s : Machine.State), s.ctl.switch = some w ∧ w.imported = true) :=
  ⟨⟨State.reset, fun _ => ⟨rfl, rfl⟩, by decide +kernel⟩,
   ⟨{ up with ctl := { up.ctl with restarting := true, fwReady := false } }, by decide +kernel⟩,
   ⟨9, 4, 0, 0, flight 0x101, flying 0x101 { up with ctl := { up.ctl with restarting := true, fwReady := false, heldReplies := [(9, 4, 0, 0)] } }, by decide +kernel⟩,
   ⟨0, { canvas := false, unit := 0, phase := 0, x := 63, y := 3, ticket := 9, since := 100 }, flight 0x240, flying 0x240 { { up with ctl := { up.ctl with restarting := true, fwReady := false } } with colour := { probes := [(0, some { canvas := false, unit := 0, phase := 0, x := 63, y := 3, ticket := 9, since := 100 })] } }, by decide +kernel⟩,
   ⟨cmd 20 (1 <<< 32 ||| 0x100 <<< 64 ||| 1 <<< 128), up, by decide +kernel⟩,
   ⟨cmd 1 1, { up with ctl := { up.ctl with fwB := { valid := true, release := 0x04010001 } } }, by decide +kernel⟩,
   ⟨cmd 1 0, { up with ctl := { up.ctl with fwB := { valid := true, staged := true, release := 0x04010001 } } }, by decide +kernel⟩,
   ⟨cmd 1 0, up, by decide +kernel⟩,
   ⟨cmd 8 (3 ||| 1380275787 <<< 32), up, by decide +kernel⟩,
   ⟨cmd 0 0, up, by decide +kernel⟩,
   ⟨{ start := 0, imported := true, ticket := 1, raiseFloor := false }, { up with ctl := { up.ctl with switch := some { start := 0, imported := true, ticket := 1, raiseFloor := false } } }, by decide +kernel⟩⟩

/-- O18: each clause of PartnersAreReportedAndQuarantined has an input. -/
theorem test_hypotheses_PartnersAreReportedAndQuarantined :
  (∃ (p : PartnerId) (s : Machine.State), p.wf = true ∧ (s.partner p).present = true ∧ (s.partner p).reported = false ∧ (p.kind = 0 → s.camState p.pos = 5))
  ∧ (∃ (w : ℕ) (s : Machine.State), w < 64 ∧ (s.partner { kind := 5, pos := w }).present = true ∧ (s.partner { kind := 5, pos := w }).quarantined = true)
  ∧ (∃ (c : Cmd) (s : Machine.State), s.accepts true 66 c ∧ c.operands 8 18446742974197989120 ∧ c.f 0 8 = 5 ∧ c.f 16 16 < 64 ∧ c.f 32 8 = 0 ∧ (s.partner { kind := 5, pos := c.f 16 16 }).quarantined = true)
  ∧ (∃ (c : Cmd) (s : Machine.State), s.accepts true 66 c ∧ c.operands 8 18446742974197989120 ∧ c.f 0 8 = 5 ∧ c.f 16 16 < 64 ∧ c.f 32 8 = 0 ∧ (s.partner { kind := 5, pos := c.f 16 16 }).quarantined = false) :=
  ⟨⟨{ kind := 5, pos := 63 }, up.setPartner { kind := 5, pos := 63 } { present := true, since := 0, quarantined := false }, by decide +kernel⟩,
   ⟨63, up.setPartner { kind := 5, pos := 63 } { present := true, since := 0, quarantined := true }, by decide +kernel⟩,
   ⟨cmd 8 (5 ||| 63 <<< 16), up.setPartner { kind := 5, pos := 63 } { present := true, since := 0, quarantined := true }, by decide +kernel⟩,
   ⟨cmd 8 (5 ||| 63 <<< 16), up.setPartner { kind := 5, pos := 63 } { present := true, since := 0, quarantined := false }, by decide +kernel⟩⟩

/-- O19: each clause of CameraGroupTrains has an input. -/
theorem test_hypotheses_CameraGroupTrains :
  (∃ (g : ℕ) (lane : ℕ) (s : Machine.State), g < 8 ∧ lane < 17 ∧ s.camState g = 1)
  ∧ (∃ (g : ℕ) (lane : ℕ) (s : Machine.State), g < 8 ∧ lane < 17 ∧ s.camState g ≠ 1)
  ∧ (∃ (g : ℕ) (sets : List AlignSet) (s : Machine.State), g < 8 ∧ sets.all AlignSet.wf = true ∧ (∀ a ∈ sets, s.hears (1024 + 17 * g + a.lane) = true) ∧ s.camState g = 2 ∧ (s.laneGroup (16 + g)).trapStep ≠ 5 ∧ (readAligns sets (s.group g)).width ≠ 0 ∧ (readAligns sets (s.group g)).unique = true ∧ (readAligns sets (s.group g)).missing = [])
  ∧ (∃ (g : ℕ) (sets : List AlignSet) (s : Machine.State), g < 8 ∧ sets.all AlignSet.wf = true ∧ (∀ a ∈ sets, s.hears (1024 + 17 * g + a.lane) = true) ∧ s.camState g = 3 ∧ (s.laneGroup (16 + g)).trapStep ≠ 5 ∧ (s.group g).trained = false ∧ alignedColumn (readAligns sets (s.group g)) sets = true ∧ (readAligns sets (s.group g)).missing ≠ [0])
  ∧ (∃ (g : ℕ) (sets : List AlignSet) (s : Machine.State), g < 8 ∧ sets.all AlignSet.wf = true ∧ (∀ a ∈ sets, s.hears (1024 + 17 * g + a.lane) = true) ∧ s.camState g = 3 ∧ (s.laneGroup (16 + g)).trapStep ≠ 5 ∧ (s.group g).trained = false ∧ (readAligns sets (s.group g)).missing = [0] ∧ columnMirror sets = some 0 ∧ s.getP (P.cg g P.CG_SPARE_MAP) 0 = 255)
  ∧ (∃ (g : ℕ) (sets : List AlignSet) (s : Machine.State), g < 8 ∧ sets.all AlignSet.wf = true ∧ (∀ a ∈ sets, s.hears (1024 + 17 * g + a.lane) = true) ∧ s.camState g = 3 ∧ (s.laneGroup (16 + g)).trapStep ≠ 5 ∧ (s.group g).trained = true ∧ alignedColumn (readAligns sets (s.group g)) sets = true ∧ (∀ a ∈ sets, a.d3.testBit 4 = false) ∧ (readAligns sets (s.group g)).missing = [])
  ∧ (∃ (g : ℕ) (s : Machine.State), g < 8 ∧ 2 ≤ s.camState g ∧ s.camState g ≤ 4)
  ∧ (∃ (g : ℕ) (s : Machine.State), g < 8 ∧ (s.camState g < 2 ∨ 4 < s.camState g))
  ∧ (∃ (g : ℕ) (s : Machine.State), g < 8 ∧ s.camState g = 4 ∧ (s.group g).identified = false ∧ (s.group g).discovers < 3)
  ∧ (∃ (g : ℕ) (s : Machine.State), g < 8 ∧ s.camState g = 4 ∧ (s.group g).identified = false ∧ 3 ≤ (s.group g).discovers)
  ∧ (∃ (p : CamPkt) (s : Machine.State), CamPkt.sound 5 p ∧ s.camState p.group = 4 ∧ s.receives p.group ∧ p.payload.length = 32 ∧ byteAt p.payload 12 = 1 ∧ (∀ (o : Head), (s.group p.group).head = some o → o.serial = fieldAt p.payload 0 8))
  ∧ (∃ (p : CamPkt) (s : Machine.State), CamPkt.sound 5 p ∧ s.camState p.group = 4 ∧ s.receives p.group ∧ p.payload.length = 32 ∧ byteAt p.payload 12 ≠ 1) :=
  ⟨⟨7, 16, (up.setP (P.cg 7 P.CG_STATE) 0 1), by decide +kernel⟩,
   ⟨7, 0, up, by decide +kernel⟩,
   ⟨0, [{ lane := 0, d1 := 0, d2 := 9, d3 := 0 }], ((locked [1024] up).setP (P.cg 0 P.CG_STATE) 0 2), by decide +kernel⟩,
   ⟨0, [{ lane := 0, d1 := 0, d2 := 9, d3 := 0 }], (((locked [1024] up).setP (P.cg 0 P.CG_STATE) 0 3).setGroup 0 { headWidth := 1, lanes := [(0, 0)], lastAseq := 8, alignedRun := 7 }), by decide +kernel⟩,
   ⟨0, [{ lane := 16, d1 := 0x80, d2 := 9, d3 := 0 }, { lane := 1, d1 := 1, d2 := 9, d3 := 0x20 }], ((locked [1025, 1040] up).setP (P.cg 0 P.CG_STATE) 0 3).setGroup 0 { headWidth := 2, lanes := [(1, 1), (16, 16)], lastAseq := 8, alignedRun := 7, lspSeen := true }, by decide +kernel⟩,
   ⟨0, [{ lane := 0, d1 := 0, d2 := 9, d3 := 0 }], (((locked [1024] up).setP (P.cg 0 P.CG_STATE) 0 3).setGroup 0 { headWidth := 1, lanes := [(0, 0)], lastAseq := 8, alignedRun := 8, trained := true }), by decide +kernel⟩,
   ⟨0, (up.setP (P.cg 0 P.CG_STATE) 0 4), by decide +kernel⟩,
   ⟨7, (up.setP (P.cg 7 P.CG_STATE) 0 5), by decide +kernel⟩,
   ⟨0, ((up.setP (P.cg 0 P.CG_STATE) 0 4).setGroup 0 { discovers := 2 }), by decide +kernel⟩,
   ⟨0, ((up.setP (P.cg 0 P.CG_STATE) 0 4).setGroup 0 { discovers := 3 }), by decide +kernel⟩,
   ⟨camPkt 0 5 0 0 0 (leBytes 0x123456789A 12 ++ leBytes 1 20), (((locked [1024] up).setP (P.cg 0 P.CG_STATE) 0 4).setGroup 0 { headWidth := 1, lanes := [(0, 0)] }), by refine ⟨?_, ?_, ?_, ?_, ?_, ?_⟩ <;> first | exact (by intro o h; cases h) | decide +kernel⟩,
   ⟨camPkt 0 5 0 0 0 (leBytes 0x123456789A 12 ++ leBytes 2 20), (((locked [1024] up).setP (P.cg 0 P.CG_STATE) 0 4).setGroup 0 { headWidth := 1, lanes := [(0, 0)] }), by decide +kernel⟩⟩

/-- O20: each clause of CameraPacketsAreChecked has an input. -/
theorem test_hypotheses_CameraPacketsAreChecked :
  (∃ (p : CamPkt) (late : List ℕ) (s : Machine.State) (i : Instr), p.faulty = true ∧ s.receives p.group ∧ i ∈ [Instr.cameraBadPacket p, Instr.identity p, Instr.vcAnnounce p, Instr.frameStart p, Instr.line p late, Instr.frameEnd p, Instr.embedded p, Instr.ctrlReply p, Instr.headStatus p] ∧ i.wellFormed = true)
  ∧ (∃ (p : CamPkt) (s : Machine.State) (i : Instr), p.faulty = false ∧ p.crcBad = true ∧ s.camState p.group = 5 ∧ s.receives p.group ∧ i ∈ [Instr.identity p, Instr.vcAnnounce p, Instr.frameStart p, Instr.frameEnd p, Instr.embedded p, Instr.ctrlReply p, Instr.headStatus p] ∧ i.wellFormed = true)
  ∧ (∃ (p : CamPkt) (late : List ℕ) (s : Machine.State) (i : Instr), ¬s.receives p.group ∧ i ∈ [Instr.cameraBadPacket p, Instr.identity p, Instr.vcAnnounce p, Instr.frameStart p, Instr.line p late, Instr.frameEnd p, Instr.embedded p, Instr.ctrlReply p, Instr.headStatus p] ∧ i.wellFormed = true)
  ∧ (∃ (p : CamPkt) (s : Machine.State) (e : ℕ), SMap.find p.vc (s.group p.group).fwdSeq = some e)
  ∧ (∃ (p : CamPkt) (s : Machine.State), CamPkt.sound 8 p ∧ s.camState p.group = 5 ∧ s.receives p.group ∧ p.payload.length = 8)
  ∧ (∃ (p : CamPkt) (s : Machine.State), CamPkt.sound 6 p ∧ s.receives p.group ∧ p.payload.length = 32 ∧ byteAt p.payload 0 % 2 = 1 ∧ (s.sensor p.sensor).present = false ∧ s.boundPipe p.sensor = none)
  ∧ (∃ (p : CamPkt) (s : Machine.State) (q : ℕ) (f : Frame), CamPkt.sound 4 p ∧ s.camState p.group = 5 ∧ s.receives p.group ∧ p.payload ≠ [] ∧ (s.sensor p.sensor).openFrame = OpenFrame.pipe q ∧ (s.pipe q).cur = some f)
  ∧ (∃ (p : CamPkt) (s : Machine.State) (e : ℕ × ℕ) (f : Flight), CamPkt.sound 7 p ∧ s.camState p.group = 5 ∧ s.receives p.group ∧ p.payload.length = 12 ∧ List.find? (fun x => x.1 == hdrAux p.hdr) (s.group p.group).ctrl = some e ∧ s.awaits e.2 f)
  ∧ (∃ (p : CamPkt) (s : Machine.State), CamPkt.sound 7 p ∧ s.camState p.group = 5 ∧ s.receives p.group ∧ List.find? (fun x => x.1 == hdrAux p.hdr) (s.group p.group).ctrl = none) :=
  ⟨⟨{ camPkt 0 8 0 0 0 (leBytes 0x010203 8) with fin := .missing }, [], camUp, .headStatus ({ camPkt 0 8 0 0 0 (leBytes 0x010203 8) with fin := .missing }), by decide +kernel⟩,
   ⟨{ camPkt 0 8 0 0 0 (leBytes 0x010203 8) with crc := 0 }, camUp, .headStatus ({ camPkt 0 8 0 0 0 (leBytes 0x010203 8) with crc := 0 }), by decide +kernel⟩,
   ⟨camPkt 0 8 0 0 0 (leBytes 0x010203 8), [], up, .headStatus (camPkt 0 8 0 0 0 (leBytes 0x010203 8)), by decide +kernel⟩,
   ⟨camPkt 0 8 0 0 0 (leBytes 0x010203 8), State.modGroup 0 (fun x => { x with fwdSeq := [(0, 200)] }) camUp, 200, by decide +kernel⟩,
   ⟨camPkt 0 8 0 0 0 (leBytes 0x010203 8), camUp, by decide +kernel⟩,
   ⟨camPkt 0 6 1 0 0 (leBytes 1 32), camUp, by decide +kernel⟩,
   ⟨camPkt 0 4 0 0 0 [1, 2, 3], camFrame, 0, { fmt := fmt }, by decide +kernel⟩,
   ⟨camPkt 0 7 0 3 0 (leBytes 5 12), flying 0x105 (State.modGroup 0 (fun x => { x with ctrl := [(3, 9)] }) camUp), (3, 9), flight 0x105, by decide +kernel⟩,
   ⟨camPkt 0 7 0 4 0 (leBytes 5 12), camUp, by decide +kernel⟩⟩

/-- O21: each clause of FramesAreAssembled has an input. -/
theorem test_hypotheses_FramesAreAssembled :
  (∃ (f : Frame) (n : ℕ) (k : ℕ), f.lines.length ≤ n ∧ k < f.lines.length)
  ∧ (∃ (f : Frame) (n : ℕ) (k : ℕ), f.lines.length ≤ n ∧ f.lines.length ≤ k ∧ k < n)
  ∧ (∃ (p : CamPkt) (late : List ℕ) (s : Machine.State) (q : ℕ) (f : Frame), (∀ x ∈ late, x < 16384) ∧ CamPkt.sound 2 p ∧ s.camState p.group = 5 ∧ s.receives p.group ∧ (s.sensor p.sensor).openFrame = OpenFrame.pipe q ∧ (s.pipe q).cur = some f ∧ f.lines.length ≤ hdrAux p.hdr ∧ hdrAux p.hdr < f.fmt.height ∧ p.payload.length = formatLineBytes f.fmt ∧ (hdrFlags p.hdr).testBit 0 = false)
  ∧ (∃ (p : CamPkt) (late : List ℕ) (s : Machine.State) (q : ℕ) (f : Frame), (∀ x ∈ late, x < 16384) ∧ p.wf = true ∧ hdrType p.hdr = 2 ∧ p.faulty = false ∧ s.camState p.group = 5 ∧ s.receives p.group ∧ (s.sensor p.sensor).openFrame = OpenFrame.pipe q ∧ (s.pipe q).cur = some f ∧ f.lines.length ≤ hdrAux p.hdr ∧ hdrAux p.hdr < f.fmt.height ∧ (p.crcBad = true ∨ p.payload.length ≠ formatLineBytes f.fmt) ∧ (hdrFlags p.hdr).testBit 0 = false)
  ∧ (∃ (p : CamPkt) (late : List ℕ) (s : Machine.State), (∀ x ∈ late, x < 16384) ∧ CamPkt.sound 2 p ∧ s.camState p.group = 5 ∧ s.receives p.group ∧ (s.sensor p.sensor).openFrame = OpenFrame.none ∧ (s.sensor p.sensor).lostLine = none)
  ∧ (∃ (p : CamPkt) (late : List ℕ) (s : Machine.State) (l : ℕ), (∀ x ∈ late, x < 16384) ∧ CamPkt.sound 2 p ∧ s.camState p.group = 5 ∧ s.receives p.group ∧ (s.sensor p.sensor).openFrame = OpenFrame.none ∧ (s.sensor p.sensor).lostLine = some l ∧ l < hdrAux p.hdr)
  ∧ (∃ (p : CamPkt) (s : Machine.State), CamPkt.sound 1 p ∧ s.camState p.group = 5 ∧ s.receives p.group ∧ p.payload.length = 16 ∧ (s.sensor p.sensor).openFrame = OpenFrame.none ∧ (∀ n < 8, (s.pipe n).change = none) ∧ s.boundPipe p.sensor = none)
  ∧ (∃ (p : CamPkt) (s : Machine.State) (q : ℕ) (b : Binding), CamPkt.sound 1 p ∧ s.camState p.group = 5 ∧ s.receives p.group ∧ p.payload.length = 16 ∧ (s.sensor p.sensor).openFrame = OpenFrame.none ∧ (s.sensor p.sensor).next = none ∧ (s.sensor p.sensor).present = true ∧ (s.group p.group).cap 0 = true ∧ (∀ n < 8, (s.pipe n).change = none) ∧ s.boundPipe p.sensor = some q ∧ (s.pipe q).bind = some b ∧ s.bindingMatches b = true ∧ (s.pipe q).rejected = false ∧ s.frameBarred p.sensor = false ∧ (s.pipe q).fmt = some (s.sensor p.sensor).fmt ∧ s.getP (P.pl q P.PL_SID_GATE) 0 = 0 ∧ (s.pipe q).gateReleased = 0 ∧ s.ctl.staged = [] ∧ s.rejectReason q (s.sensor p.sensor).fmt = none ∧ (s.pipe q).building = none ∧ (s.pipe q).refNext = [] ∧ s.getP (P.pl q P.BL_MODE) 0 = 0 ∧ s.fr.wb = [] ∧ s.binList = [] ∧ byteAt p.payload 6 % 2 = 0)
  ∧ (∃ (p : CamPkt) (s : Machine.State) (q : ℕ) (f : Frame), CamPkt.sound 3 p ∧ s.camState p.group = 5 ∧ s.receives p.group ∧ p.payload.length = 8 ∧ (s.sensor p.sensor).openFrame = OpenFrame.pipe q ∧ (s.pipe q).cur = some f ∧ (s.laneGroup (16 + p.group)).trapStep ≠ 3 ∧ s.fr.wb = [] ∧ s.store q = none ∧ f.lines.length ≤ f.fmt.height) :=
  ⟨⟨{ lines := [([5], false)] }, 3, 0, by decide +kernel⟩,
   ⟨{ lines := [([5], false)] }, 3, 2, by decide +kernel⟩,
   ⟨camPkt 0 2 0 3 0 (leBytes 0x123456789 96), [3, 16383], camFrame, 0, { fmt := fmt }, by decide +kernel⟩,
   ⟨{ camPkt 0 2 0 3 0 (leBytes 0x123456789 96) with crc := 0 }, [], camFrame, 0, { fmt := fmt }, by decide +kernel⟩,
   ⟨camPkt 0 2 0 3 0 (leBytes 0x123456789 96), [], camUp, by decide +kernel⟩,
   ⟨camPkt 0 2 0 3 0 (leBytes 0x123456789 96), [], camUp.setSensor 0 { present := true, serial := 7, fmt := fmt, lostLine := some 2 }, 2, by decide +kernel⟩,
   ⟨camPkt 0 1 0 0 0 (leBytes 0x123456789 16), camUp, by decide +kernel⟩,
   ⟨camPkt 0 1 0 0 0 (leBytes 0x123456789 16), (camUp.setSensor 0 { present := true, serial := 7, fmt := { fmt with width := 256 } }).setPipe 0 { bind := some { sensor := 0 }, fmt := some { fmt with width := 256 } }, 0, { sensor := 0 }, by decide +kernel⟩,
   ⟨camPkt 0 3 0 0 0 (leBytes 4 8), camFrame, 0, { fmt := fmt }, by decide +kernel⟩⟩

/-- O22: each clause of CameraLinksAreProbedAndRetrained has an input. -/
theorem test_hypotheses_CameraLinksAreProbedAndRetrained :
  (∃ (g : ℕ) (t : ℕ) (s : Machine.State), g < 8 ∧ s.camState g = 5 ∧ s.powerState ≠ 2)
  ∧ (∃ (g : ℕ) (t : ℕ) (s : Machine.State), g < 8 ∧ s.camState g ≠ 5 ∧ (s.camState g ≠ 4 ∨ (s.group g).identified = false))
  ∧ (∃ (g : ℕ) (q : ℕ) (d3 : ℕ) (t : ℕ) (t0 : ℕ) (s : Machine.State), g < 8 ∧ d3 < 256 ∧ q + d3 = 255 ∧ s.camState g = 5 ∧ s.groupHears g = true ∧ List.find? (fun e => e.1 == q) (s.group g).probes = some (q, t0))
  ∧ (∃ (g : ℕ) (q : ℕ) (d2 : ℕ) (d3 : ℕ) (t : ℕ) (s : Machine.State), g < 8 ∧ q < 65536 ∧ d2 < 256 ∧ d3 < 256 ∧ (d2 ≠ 1 ∨ q + d3 ≠ 255 ∨ s.groupHears g = false ∨ List.find? (fun e => e.1 == q) (s.group g).probes = none))
  ∧ (∃ (g : ℕ) (q : ℕ) (e : ℕ × ℕ) (s : Machine.State), g < 8 ∧ q < 65536 ∧ s.camState g = 5 ∧ List.find? (fun x => x.1 == q) (s.group g).probes = some e ∧ (s.group g).lostRun < 15)
  ∧ (∃ (g : ℕ) (q : ℕ) (e : ℕ × ℕ) (s : Machine.State), g < 8 ∧ q < 65536 ∧ List.find? (fun x => x.1 == q) (s.group g).probes = some e ∧ (s.group g).lostRun = 15 ∧ (s.camState g = 4 ∨ s.camState g = 5))
  ∧ (∃ (g : ℕ) (m : ℕ) (t : ℕ) (a : ℕ) (e : ℕ × ℤ × ℤ) (s : Machine.State), g < 8 ∧ m < 16 ∧ e ∈ s.tsyncsDue g ∧ m.testBit (e.1 % 4) = true ∧ (∀ x ∈ s.tsyncsDue g, x.2 = e.2) ∧ a = max (e.2.2.toNat / 65536 - 1) (min (e.2.2.toNat / 65536 + 2) t))
  ∧ (∃ (g : ℕ) (vc : ℕ) (s : Machine.State), g < 8 ∧ vc < 4 ∧ s.genlocked g vc = true)
  ∧ (∃ (g : ℕ) (m : ℕ) (t : ℕ) (s : Machine.State), g < 8 ∧ m < 16 ∧ (∀ vc < 4, m.testBit vc = true → s.genlocked g vc = false))
  ∧ (∃ (g : ℕ) (lane : ℕ) (s : Machine.State), g < 8 ∧ lane < 16 ∧ s.camState g = 5 ∧ lane < (s.group g).width ∧ s.getP (P.cg g P.CG_SPARE_MAP) 0 = 255 ∧ (s.group g).pendingMap = none ∧ (s.group g).lspSeen = true ∧ (s.group g).cap 2 = true ∧ (s.laneGroup (16 + g)).trapStep = 0)
  ∧ (∃ (g : ℕ) (lane : ℕ) (m : ℕ) (s : Machine.State), g < 8 ∧ lane < 16 ∧ s.camState g = 5 ∧ lane < (s.group g).width ∧ s.getP (P.cg g P.CG_SPARE_MAP) 0 = m ∧ m < 16 ∧ (s.group g).pendingMap = none ∧ (s.laneGroup (16 + g)).trapStep = 0)
  ∧ (∃ (g : ℕ) (lane : ℕ) (s : Machine.State), g < 8 ∧ lane < 17 ∧ (s.camState g ≠ 5 ∨ (s.group g).width ≤ lane ∧ lane ≠ 16))
  ∧ (∃ (g : ℕ) (s : Machine.State), g < 8 ∧ s.camState g ≠ 0)
  ∧ (∃ (c : Cmd) (s : Machine.State), s.accepts false 262 c ∧ c.operands 1 0 ∧ c.f 0 8 < 8 ∧ s.camState (c.f 0 8) ≠ 0)
  ∧ (∃ (c : Cmd) (s : Machine.State), s.accepts false 262 c ∧ c.operands 1 0 ∧ c.f 0 8 < 8 ∧ s.camState (c.f 0 8) = 0)
  ∧ (∃ (c : Cmd) (s : Machine.State), s.accepts false 262 c ∧ c.operands 1 0 ∧ 8 ≤ c.f 0 8) :=
  ⟨⟨0, 6000, camUp, by decide +kernel⟩,
   ⟨7, 6000, up, by decide +kernel⟩,
   ⟨0, 0x12, 0xED, 9000, 8000, State.modGroup 0 (fun x => { x with probes := [(0x12, 8000)] }) camUp, by decide +kernel⟩,
   ⟨7, 65535, 255, 255, 9000, up, by decide +kernel⟩,
   ⟨0, 5, (5, 100), State.modGroup 0 (fun x => { x with probes := [(5, 100)], lostRun := 14 }) camUp, by decide +kernel⟩,
   ⟨0, 5, (5, 100), State.modGroup 0 (fun x => { x with probes := [(5, 100)], lostRun := 15 }) camUp, by decide +kernel⟩,
   ⟨0, 1, 16666567, 16666567, (0, 1092266666667, 1092260113067), camUp, by decide +kernel⟩,
   ⟨0, 0, camUp, by decide +kernel⟩,
   ⟨7, 15, 20000, up, by decide +kernel⟩,
   ⟨0, 0, camUp, by decide +kernel⟩,
   ⟨0, 0, 3, camUp.setP (P.cg 0 P.CG_SPARE_MAP) 0 3, by decide +kernel⟩,
   ⟨7, 16, up, by decide +kernel⟩,
   ⟨0, camUp, by decide +kernel⟩,
   ⟨cmd 1 0, camUp, by decide +kernel⟩,
   ⟨cmd 1 7, up, by decide +kernel⟩,
   ⟨cmd 1 8, up, by decide +kernel⟩⟩

/-- O23: each clause of CameraCommandsBindAndControl has an input. -/
theorem test_hypotheses_CameraCommandsBindAndControl :
  (∃ (c : Cmd) (s : Machine.State), s.accepts false 257 c ∧ c.operands 20 4278190080 ∧ c.f 0 8 < 8 ∧ c.f 8 8 < 8 ∧ c.f 16 8 < 4 ∧ s.bindHeld (c.f 0 8) (4 * c.f 8 8 + c.f 16 8) = false ∧ (s.pipe (c.f 0 8)).bind = none ∧ s.boundPipe (4 * c.f 8 8 + c.f 16 8) = none ∧ c.immediate = false)
  ∧ (∃ (c : Cmd) (s : Machine.State), s.accepts false 257 c ∧ c.operands 20 4278190080 ∧ c.f 0 8 < 8 ∧ c.f 8 8 < 8 ∧ c.f 16 8 < 4 ∧ s.bindHeld (c.f 0 8) (4 * c.f 8 8 + c.f 16 8) = false ∧ (s.pipe (c.f 0 8)).bind = none ∧ s.boundPipe (4 * c.f 8 8 + c.f 16 8) = none ∧ c.immediate = true)
  ∧ (∃ (c : Cmd) (s : Machine.State) (b : Binding), s.accepts false 258 c ∧ c.operands 1 0 ∧ c.f 0 8 < 8 ∧ (s.pipe (c.f 0 8)).bind = some b ∧ s.bindHeld (c.f 0 8) b.sensor = false ∧ c.immediate = false)
  ∧ (∃ (c : Cmd) (s : Machine.State) (b : Binding), s.accepts false 258 c ∧ c.operands 1 0 ∧ c.f 0 8 < 8 ∧ (s.pipe (c.f 0 8)).bind = some b ∧ s.bindHeld (c.f 0 8) b.sensor = false ∧ c.immediate = true)
  ∧ (∃ (c : Cmd) (s : Machine.State), s.accepts false 258 c ∧ c.operands 1 0 ∧ c.f 0 8 < 8 ∧ (s.pipe (c.f 0 8)).bind = none ∧ (∀ n < 8, (s.pipe n).change = none))
  ∧ (∃ (c : Cmd) (s : Machine.State), s.accepts false 259 c ∧ c.f 40 8 ≤ 32 ∧ c.operands (12 + c.f 40 8) 4294901760 ∧ c.f 0 8 < 8 ∧ c.f 8 8 < 4 ∧ c.f 32 8 ≠ 0 ∧ s.sensorUsable (4 * c.f 0 8 + c.f 8 8) = true)
  ∧ (∃ (c : Cmd) (s : Machine.State), s.accepts false 259 c ∧ c.f 40 8 ≤ 32 ∧ c.operands (12 + c.f 40 8) 4294901760 ∧ c.f 0 8 < 8 ∧ c.f 8 8 < 4 ∧ c.f 32 8 ≠ 0 ∧ s.sensorUsable (4 * c.f 0 8 + c.f 8 8) = false)
  ∧ (∃ (c : Cmd) (s : Machine.State), s.accepts false 260 c ∧ c.operands 12 4294967040 ∧ c.f 0 8 < 8 ∧ s.headUsable (c.f 0 8) = true)
  ∧ (∃ (c : Cmd) (s : Machine.State), s.accepts false 261 c ∧ c.operands 8 4294967040 ∧ c.f 0 8 < 8 ∧ s.headUsable (c.f 0 8) = true)
  ∧ (∃ (c : Cmd) (s : Machine.State), c.f 0 8 < 8 ∧ s.headUsable (c.f 0 8) = false ∧ s.accepts false 260 c ∧ c.operands 12 4294967040)
  ∧ (∃ (c : Cmd) (s : Machine.State), c.f 0 8 < 8 ∧ s.headUsable (c.f 0 8) = false ∧ s.accepts false 261 c ∧ c.operands 8 4294967040)
  ∧ (∃ (g : ℕ) (tag : ℕ) (e : ℕ × ℕ) (f : Flight) (s : Machine.State), g < 8 ∧ tag < 65536 ∧ List.find? (fun x => x.1 == tag) (s.group g).ctrl = some e ∧ s.awaits e.2 f) :=
  ⟨⟨cmd 20 0, camUp, by decide +kernel⟩,
   ⟨{ cmd 20 0x000307 with flags := 4 }, camUp, by decide +kernel⟩,
   ⟨cmd 1 7, camUp.setPipe 7 { bind := some { sensor := 0 } }, { sensor := 0 }, by decide +kernel⟩,
   ⟨{ cmd 1 7 with flags := 4 }, camUp.setPipe 7 { bind := some { sensor := 0 } }, { sensor := 0 }, by decide +kernel⟩,
   ⟨cmd 1 7, camUp, by decide +kernel⟩,
   ⟨cmd 44 (1 <<< 32 ||| 32 <<< 40 ||| 0xABC <<< 96), camUp, by decide +kernel⟩,
   ⟨cmd 12 (7 ||| 3 <<< 8 ||| 1 <<< 32), camUp, by decide +kernel⟩,
   ⟨cmd 12 (0xFF <<< 64), camUp, by decide +kernel⟩,
   ⟨cmd 8 (0xFF <<< 32), camUp, by decide +kernel⟩,
   ⟨cmd 12 7, camUp, by decide +kernel⟩,
   ⟨cmd 8 7, camUp, by decide +kernel⟩,
   ⟨0, 3, (3, 9), flight 0x105, flying 0x105 (State.modGroup 0 (fun x => { x with ctrl := [(3, 9)] }) camUp), by decide +kernel⟩⟩

/-- O24: each clause of PipelineWaitsGatesAndStatistics has an input. -/
theorem test_hypotheses_PipelineWaitsGatesAndStatistics :
  (∃ (p : ℕ) (s : Machine.State), p < 8 ∧ s.getP (P.pl p P.PL_STATE) 0 = 2 ∧ (s.pipe p).change = none)
  ∧ (∃ (p : ℕ) (s : Machine.State), p < 8 ∧ s.getP (P.pl p P.PL_STATE) 0 ≠ 2)
  ∧ (∃ (p : ℕ) (s : Machine.State), p < 8 ∧ s.getP (P.pl p P.PL_SID_GATE) 0 ≠ 0 ∧ s.getP (P.pl p P.PL_SID_GATE_TIMEOUT) 0 ≤ (s.pipe p).gateFrames)
  ∧ (∃ (p : ℕ) (s : Machine.State), p < 8 ∧ (s.getP (P.pl p P.PL_SID_GATE) 0 = 0 ∨ (s.pipe p).gateFrames < s.getP (P.pl p P.PL_SID_GATE_TIMEOUT) 0))
  ∧ (∃ (p : ℕ) (f : Frame) (s : Machine.State), p < 8)
  ∧ (∃ (p : ℕ) (r : StatRecord) (s : Machine.State), p < 8 ∧ (s.pipe p).building = some r)
  ∧ (∃ (p : ℕ) (s : Machine.State), p < 8 ∧ (s.pipe p).building = none)
  ∧ (∃ (c : Cmd) (r : StatRecord) (l : List StatRecord) (s : Machine.State), s.accepts false 513 c ∧ c.operands 20 4294901760 ∧ c.host = [] ∧ c.f 0 8 < 8 ∧ c.f 8 8 = 0 ∧ c.f 64 64 ≠ 0 ∧ c.f 64 64 % 64 = 0 ∧ 64 ≤ c.f 128 32 ∧ c.f 128 32 ≤ 22592 ∧ c.f 128 32 % 64 = 0 ∧ (s.pipe (c.f 0 8)).records = r :: l ∧ s.hostGood (c.f 64 64) (List.take (c.f 128 32) r.bytes).length = (List.take (c.f 128 32) r.bytes).length)
  ∧ (∃ (c : Cmd) (s : Machine.State), s.accepts false 513 c ∧ c.operands 20 4294901760 ∧ c.f 0 8 < 8 ∧ c.f 8 8 = 0 ∧ c.f 64 64 ≠ 0 ∧ c.f 64 64 % 64 = 0 ∧ 64 ≤ c.f 128 32 ∧ c.f 128 32 ≤ 22592 ∧ c.f 128 32 % 64 = 0 ∧ (s.pipe (c.f 0 8)).records = [])
  ∧ (∃ (c : Cmd) (s : Machine.State), s.accepts false 513 c ∧ c.operands 20 4294901760 ∧ (c.f 64 64 % 64 ≠ 0 ∨ c.f 128 32 < 64 ∨ 22592 < c.f 128 32)) :=
  ⟨⟨7, up.setP (P.pl 7 P.PL_STATE) 0 2, by decide +kernel⟩,
   ⟨7, up, by decide +kernel⟩,
   ⟨7, (up.setP (P.pl 7 P.PL_SID_GATE) 0 5).setPipe 7 { gateFrames := 60 }, by decide +kernel⟩,
   ⟨7, up, by decide +kernel⟩,
   ⟨7, { fmt := fmt }, up, by decide +kernel⟩,
   ⟨7, { bytes := List.replicate 22592 0 }, up.setPipe 7 { building := some { bytes := List.replicate 22592 0 } }, by decide +kernel⟩,
   ⟨7, up, by decide +kernel⟩,
   ⟨cmd 20 (7 ||| 64 <<< 64 ||| 22592 <<< 128), { tag := 5, bytes := leBytes 0x1234567 64 }, [], up.setPipe 7 { records := [{ tag := 5, bytes := leBytes 0x1234567 64 }] }, by decide +kernel⟩,
   ⟨cmd 20 (7 ||| 64 <<< 64 ||| 64 <<< 128), up, by decide +kernel⟩,
   ⟨cmd 20 (7 ||| 64 <<< 64 ||| 22656 <<< 128), up, by decide +kernel⟩⟩

/-- O25: each clause of ColourProbesAndUniformityBanks has an input. -/
theorem test_hypotheses_ColourProbesAndUniformityBanks :
  (∃ (c : Cmd) (k : ℕ) (s : Machine.State), s.accepts false 576 c ∧ c.operands 8 4294705152 ∧ (c.f 0 8 = 0 ∧ c.f 8 8 < 8 ∨ c.f 0 8 = 1 ∧ c.f 8 8 < 16) ∧ k < 4 ∧ s.probe k = none ∧ (∀ j < k, s.probe j ≠ none))
  ∧ (∃ (c : Cmd) (s : Machine.State), s.accepts false 576 c ∧ c.operands 8 4294705152 ∧ (c.f 0 8 = 0 ∧ c.f 8 8 < 8 ∨ c.f 0 8 = 1 ∧ c.f 8 8 < 16) ∧ (∀ j < 4, s.probe j ≠ none))
  ∧ (∃ (c : Cmd) (s : Machine.State), s.accepts false 576 c ∧ c.operands 8 4294705152 ∧ (2 ≤ c.f 0 8 ∨ c.f 0 8 = 0 ∧ 8 ≤ c.f 8 8 ∨ c.f 0 8 = 1 ∧ 16 ≤ c.f 8 8))
  ∧ (∃ (q : Probe) (f : Frame) (s : Machine.State), q.canvas = false ∧ f.tag < 2 ^ 32 ∧ q.since ≤ f.start ∧ q.x < f.fmt.width ∧ q.y < f.fmt.height)
  ∧ (∃ (q : Probe) (f : Frame) (s : Machine.State), q.canvas = false ∧ f.tag < 2 ^ 32 ∧ f.start < q.since)
  ∧ (∃ (k : ℕ) (q : Probe) (r : ℕ) (g : Flight) (s : Machine.State), k < 4 ∧ s.probe k = some q ∧ q.result = some r ∧ s.awaits q.ticket g)
  ∧ (∃ (k : ℕ) (s : Machine.State), k < 4 ∧ (∀ (q : Probe), s.probe k = some q → q.result = none))
  ∧ (∃ (k : ℕ) (q : Probe) (g : Flight) (s : Machine.State), k < 4 ∧ s.probe k = some q ∧ q.result = none ∧ s.awaits q.ticket g)
  ∧ (∃ (k : UnifCommit) (s : Machine.State), s.colour.commit = some k ∧ k.copied = false)
  ∧ (∃ (k : UnifCommit) (tk : ℕ) (g : Flight) (s : Machine.State), s.colour.commit = some k ∧ k.copied = true ∧ k.waiting = [] ∧ k.ticket = some tk ∧ s.awaits tk g)
  ∧ (∃ (k : UnifCommit) (s : Machine.State), s.colour.commit = some k ∧ (k.copied = false ∨ k.waiting ≠ [])) :=
  ⟨⟨cmd 8 (1 ||| 15 <<< 8), 3, { up with colour := { probes := [(0, some { canvas := false, unit := 0, phase := 0, x := 63, y := 3, ticket := 9, since := 100 }), (1, some { canvas := false, unit := 0, phase := 0, x := 63, y := 3, ticket := 9, since := 100 }), (2, some { canvas := false, unit := 0, phase := 0, x := 63, y := 3, ticket := 9, since := 100 })] } }, by decide +kernel⟩,
   ⟨cmd 8 (0 ||| 7 <<< 8), { up with colour := { probes := [(0, some { canvas := false, unit := 0, phase := 0, x := 63, y := 3, ticket := 9, since := 100 }), (1, some { canvas := false, unit := 0, phase := 0, x := 63, y := 3, ticket := 9, since := 100 }), (2, some { canvas := false, unit := 0, phase := 0, x := 63, y := 3, ticket := 9, since := 100 }), (3, some { canvas := false, unit := 0, phase := 0, x := 63, y := 3, ticket := 9, since := 100 })] } }, by decide +kernel⟩,
   ⟨cmd 8 (1 ||| 16 <<< 8), up, by decide +kernel⟩,
   ⟨{ canvas := false, unit := 0, phase := 0, x := 63, y := 3, ticket := 9, since := 100 }, { number := 4, tag := 5, start := 100, fmt := fmt }, up, by decide +kernel⟩,
   ⟨{ canvas := false, unit := 0, phase := 0, x := 63, y := 3, ticket := 9, since := 100 }, { fmt := fmt, start := 99 }, up, by decide +kernel⟩,
   ⟨0, { canvas := false, unit := 0, phase := 0, x := 63, y := 3, ticket := 9, since := 100, result := some 77 }, 77, flight 0x240, flying 0x240 ({ up with colour := { probes := [(0, some { canvas := false, unit := 0, phase := 0, x := 63, y := 3, ticket := 9, since := 100, result := some 77 })] } }), by decide +kernel⟩,
   ⟨3, up, by decide +kernel, by intro q h; cases h⟩,
   ⟨0, { canvas := false, unit := 0, phase := 0, x := 63, y := 3, ticket := 9, since := 100 }, flight 0x240, flying 0x240 ({ up with colour := { probes := [(0, some { canvas := false, unit := 0, phase := 0, x := 63, y := 3, ticket := 9, since := 100 })] } }), by decide +kernel⟩,
   ⟨{ bytes := [] }, { up with colour := { commit := some { bytes := [] } } }, by decide +kernel⟩,
   ⟨{ bytes := [], copied := true, waiting := [], ticket := some 9 }, 9, flight 0x22, flying 0x22 { up with colour := { commit := some { bytes := [], copied := true, waiting := [], ticket := some 9 } } }, by decide +kernel⟩,
   ⟨{ bytes := [] }, { up with colour := { commit := some { bytes := [] } } }, by decide +kernel⟩⟩

/-- O26: each clause of CanvasesAdvanceAndFlip has an input. -/
theorem test_hypotheses_CanvasesAdvanceAndFlip :
  (∃ (c : ℕ) (t : ℕ) (s : Machine.State), c < 16 ∧ s.quietCanvas c ∧ s.cvState c = 1)
  ∧ (∃ (c : ℕ) (t : ℕ) (s : Machine.State), c < 16 ∧ s.quietCanvas c ∧ s.cvState c = 2 ∧ s.cvp c P.CV_ENABLE 0 ≠ 0 ∧ SMap.get (fun x => 0) s.mw.abandoned c = 0)
  ∧ (∃ (c : ℕ) (t : ℕ) (s : Machine.State), c < 16 ∧ s.cvState c ≠ 1 ∧ s.cvState c ≠ 2)
  ∧ (∃ (c : ℕ) (p : ℕ) (s : Machine.State), c < 16 ∧ p < 4 ∧ s.cvState c = 2 ∧ p < s.cvp c P.CV_PHASES 0 ∧ (∀ i < 8, s.inputActive c i = false))
  ∧ (∃ (c : ℕ) (p : ℕ) (s : Machine.State), c < 16 ∧ p < 4 ∧ (s.cvState c ≠ 2 ∨ s.cvp c P.CV_PHASES 0 ≤ p))
  ∧ (∃ (c : Cmd) (s : Machine.State), s.accepts false 770 c ∧ c.operands 1 0 ∧ c.f 0 8 < 16 ∧ s.cvState (c.f 0 8) < 256 ∧ s.cvp (c.f 0 8) P.CV_PHASES 0 < 256)
  ∧ (∃ (c : Cmd) (s : Machine.State), s.accepts false 770 c ∧ c.operands 1 0 ∧ 16 ≤ c.f 0 8)
  ∧ (∃ (c : Cmd) (l : ℕ) (s : Machine.State), s.accepts false 769 c ∧ c.operands 68 4294901760 ∧ c.f 0 8 < 16 ∧ l < 8 ∧ c.f 8 8 = 1 <<< l ∧ (State.putParams [(P.cv (c.f 0 8) P.LY_BASE, l, c.f (32 + 64 * l) 64)] s.preview).layerRange (c.f 0 8) l P.LY_BASE = true ∧ s.claimedByOther c.win (pkey (P.cv (c.f 0 8) P.LY_BASE) l) = false ∧ c.immediate = false)
  ∧ (∃ (c : Cmd) (l : ℕ) (s : Machine.State), s.accepts false 769 c ∧ c.operands 68 4294901760 ∧ c.f 0 8 < 16 ∧ l < 8 ∧ c.f 8 8 = 1 <<< l ∧ (State.putParams [(P.cv (c.f 0 8) P.LY_BASE, l, c.f (32 + 64 * l) 64)] s.preview).layerRange (c.f 0 8) l P.LY_BASE = true ∧ s.claimedByOther c.win (pkey (P.cv (c.f 0 8) P.LY_BASE) l) = false ∧ c.immediate = true)
  ∧ (∃ (c : Cmd) (l : ℕ) (s : Machine.State), s.accepts false 769 c ∧ c.operands 68 4294901760 ∧ c.f 0 8 < 16 ∧ l < 8 ∧ c.f 8 8 = 1 <<< l ∧ (State.putParams [(P.cv (c.f 0 8) P.LY_BASE, l, c.f (32 + 64 * l) 64)] s.preview).layerRange (c.f 0 8) l P.LY_BASE = false)
  ∧ (∃ (c : Cmd) (s : Machine.State), s.accepts false 769 c ∧ c.operands 68 4294901760 ∧ (16 ≤ c.f 0 8 ∨ c.f 8 8 = 0))
  ∧ (∃ (n : ℕ) (p : ℕ) (c : ℕ) (s : Machine.State), n < 4 ∧ p < 4 ∧ s.psoCanvas n = some c ∧ s.cvState c = 2 ∧ s.powerState ≠ 2 ∧ p < s.cvp c P.CV_PHASES 0 ∧ (s.cvp c P.CV_PSO_PHASES n).testBit p = true ∧ (s.canvas c).prevStart = none)
  ∧ (∃ (n : ℕ) (p : ℕ) (s : Machine.State), n < 4 ∧ p < 4 ∧ (s.powerState = 2 ∨ ∀ (c : ℕ), s.psoCanvas n = some c → s.cvState c ≠ 2 ∨ (s.cvp c P.CV_PSO_PHASES n).testBit p = false))
  ∧ (∃ (n : ℕ) (t : ℕ) (r : ℕ × ℕ) (s : Machine.State), n < 4 ∧ s.cv.pso.testBit n = true ∧ SMap.get (fun x => (0, 0)) s.cv.psoRise n = r ∧ r.1 + r.2 ≤ t)
  ∧ (∃ (n : ℕ) (t : ℕ) (r : ℕ × ℕ) (s : Machine.State), n < 4 ∧ SMap.get (fun x => (0, 0)) s.cv.psoRise n = r ∧ (s.cv.pso.testBit n = false ∨ t < r.1 + r.2)) :=
  ⟨⟨15, 5000, up.setP (P.cv 15 P.CV_STATE) 0 1, by decide +kernel⟩,
   ⟨15, 5000, withP [(P.cv 15 P.CV_STATE, 0, 2), (P.cv 15 P.CV_ENABLE, 0, 1)] up, by decide +kernel⟩,
   ⟨15, 5000, up, by decide +kernel⟩,
   ⟨15, 0, up.setP (P.cv 15 P.CV_STATE) 0 2, by decide +kernel⟩,
   ⟨15, 3, up, by decide +kernel⟩,
   ⟨cmd 1 15, up, by decide +kernel⟩,
   ⟨cmd 1 16, up, by decide +kernel⟩,
   ⟨cmd 68 (128 <<< 8 ||| (carveWindow 2) <<< 480), 7, up, by decide +kernel⟩,
   ⟨{ cmd 68 (128 <<< 8 ||| (carveWindow 2) <<< 480) with flags := 4 }, 7, up, by decide +kernel⟩,
   ⟨cmd 68 (128 <<< 8 ||| (carveWindow 2 + 1) <<< 480), 7, up, by decide +kernel⟩,
   ⟨cmd 68 16, up, by decide +kernel⟩,
   ⟨3, 3, 0, withP [(P.cv 0 P.CV_PHASES, 0, 4)] cvUp, by decide +kernel⟩,
   ⟨3, 3, cvUp.setP P.PW_STATE 0 2, by decide +kernel, by decide +kernel, Or.inl (by decide +kernel)⟩,
   ⟨3, 7, (7, 0), { cvUp with cv := { cvUp.cv with pso := 8, psoRise := [(3, (7, 0))] } }, by decide +kernel⟩,
   ⟨3, 6, (7, 0), { cvUp with cv := { cvUp.cv with pso := 8, psoRise := [(3, (7, 0))] } }, by decide +kernel⟩⟩

/-- O27: each clause of CanvasLinesAreComposed has an input. -/
theorem test_hypotheses_CanvasLinesAreComposed :
  (∃ (c : ℕ) (p : ℕ) (y : ℕ) (s : Machine.State), c < 16 ∧ p < 4 ∧ s.cvState c = 2 ∧ (s.canvas c).composing = true ∧ (s.canvas c).phase = p ∧ y < s.cvp c P.CV_TOTAL_LINES 0 ∧ y < s.cvp c P.CV_HEIGHT 0 ∧ (∀ i < 16, 16 ≤ s.cvp c P.CV_ZORDER i) ∧ s.eventEnabled c 1 p = false ∧ s.portMap c = [] ∧ (∀ k < 4, s.probe k = none))
  ∧ (∃ (c : ℕ) (p : ℕ) (y : ℕ) (late : List (ℕ × ℕ)) (bad : List ℕ) (s : Machine.State), c < 16 ∧ p < 4 ∧ (∀ n ∈ bad, n < 1048576) ∧ (s.cvState c ≠ 2 ∨ (s.canvas c).composing = false ∨ (s.canvas c).phase ≠ p ∨ s.cvp c P.CV_TOTAL_LINES 0 ≤ y))
  ∧ (∃ (c : ℕ) (p : ℕ) (y : ℕ) (n : ℕ) (s : Machine.State), c < 16 ∧ p < 4 ∧ s.cvState c = 2 ∧ (s.canvas c).composing = true ∧ (s.canvas c).phase = p ∧ y < s.cvp c P.CV_TOTAL_LINES 0 ∧ s.cvp c P.CV_HEIGHT 0 < y ∧ s.eventEnabled c 1 p = false ∧ n < 1048576 ∧ n ∉ s.colour.badCells)
  ∧ (∃ (c : ℕ) (l : ℕ) (y : ℕ) (w : ℕ) (k : Layer) (s : Machine.State), c < 16 ∧ l < 8 ∧ s.layerOf c l (s.pictureOf c unpackPicture) = some k ∧ k.y ≤ y ∧ y < k.y + k.h ∧ s.fetchAt c l y = some (w, false) ∧ s.dram.flaws = [] ∧ s.goodBytes (k.base + (y - k.y) * k.stride) (layerBpp k.format * (min (k.x + k.w) (s.cvp c P.CV_WIDTH 0) - k.x)) = layerBpp k.format * (min (k.x + k.w) (s.cvp c P.CV_WIDTH 0) - k.x))
  ∧ (∃ (c : ℕ) (src : ℕ) (y : ℕ) (s : Machine.State), c < 16 ∧ src < 16 ∧ s.fetchAt c src y = none)
  ∧ (∃ (c : ℕ) (p : ℕ) (fence : ℕ) (s : Machine.State), c < 16 ∧ p < 4 ∧ s.cvState c = 2 ∧ (s.canvas c).composing = true ∧ (s.canvas c).phase = p ∧ (∀ e < 2, s.vcp e P.VC_MODE ≠ 1))
  ∧ (∃ (c : ℕ) (p : ℕ) (fence : ℕ) (s : Machine.State), c < 16 ∧ p < 4 ∧ (s.cvState c ≠ 2 ∨ (s.canvas c).composing = false ∨ (s.canvas c).phase ≠ p))
  ∧ (∃ (p : ℕ) (t : ℕ) (b : ℕ) (x : FrameStore) (s : Machine.State), p < 8 ∧ s.store p = some x ∧ x.writing = some b)
  ∧ (∃ (p : ℕ) (t : ℕ) (s : Machine.State), p < 8 ∧ (∀ (x : FrameStore), s.store p = some x → x.writing = none)) :=
  ⟨⟨0, 0, 2159, withP ((List.range 16).map fun i => (P.cv 0 P.CV_ZORDER, i, 255)) cvUp, by decide +kernel⟩,
   ⟨15, 3, 5, [(1, 2)], [1048575], up, by decide +kernel⟩,
   ⟨0, 0, 2249, 1048575, cvUp, by decide +kernel⟩,
   ⟨0, 0, 1, 0, { format := 1, base := carveWindow 2, stride := 64, x := 0, y := 0, w := 2, h := 2 }, withP [(P.cv 0 P.LY_FORMAT, 0, 1), (P.cv 0 P.LY_SIZE, 0, 2 + 2 * 65536), (P.cv 0 P.LY_BASE, 0, carveWindow 2), (P.cv 0 P.LY_STRIDE, 0, 64)] { cvUp with dram := { buffers := [{ base := carveWindow 2, bytes := 0x200000, carve := 2, owner := .window 0, pages := [1024], order := 0 }] } }, by decide +kernel⟩,
   ⟨15, 15, 0, up, by decide +kernel⟩,
   ⟨0, 0, 5000, cvUp, by decide +kernel⟩,
   ⟨15, 3, 5000, up, by decide +kernel⟩,
   ⟨7, 5000, 1, { base := 0, width := 2, height := 2, writing := some 1 }, { up with cv := { stores := [(7, some { base := 0, width := 2, height := 2, writing := some 1 })] } }, by decide +kernel⟩,
   ⟨7, 5000, up, by decide +kernel, by intro x h; cases h⟩⟩

/-- O28: each clause of TilesAreDiscoveredByCheckedPackets has an input. -/
theorem test_hypotheses_TilesAreDiscoveredByCheckedPackets :
  (∃ (p : TilePkt) (s : Machine.State) (i : Instr), (s.portEnd p.port = none ∨ s.hears p.port = false) ∧ i ∈ [Instr.tileId p, Instr.cfgReply p, Instr.tileStatus p, Instr.discoverReceived p] ∧ i.wellFormed = true)
  ∧ (∃ (p : TilePkt) (e : ℕ) (s : Machine.State) (i : ℕ × Instr), s.portEnd p.port = some e ∧ s.hears p.port = true ∧ i ∈ [(5, Instr.tileId p), (8, Instr.cfgReply p), (10, Instr.tileStatus p), (4, Instr.discoverReceived p)] ∧ i.2.wellFormed = true ∧ (tileFaulty i.1 p = true ∨ i.1 = 4 ∧ s.dirMode (p.port / 2) = 1))
  ∧ (∃ (p : TilePkt) (e : ℕ) (s : Machine.State) (i : ℕ × Instr), s.portEnd p.port = some e ∧ s.hears p.port = true ∧ p.payload ≠ [] ∧ crc32c p.payload ≠ p.crc ∧ i ∈ [(5, Instr.tileId p), (8, Instr.cfgReply p), (10, Instr.tileStatus p), (4, Instr.discoverReceived p)] ∧ i.2.wellFormed = true ∧ tileFaulty i.1 p = false ∧ (i.1 ≠ 4 ∨ s.dirMode (p.port / 2) ≠ 1))
  ∧ (∃ (p : TilePkt) (e : ℕ) (h : ℕ) (s : Machine.State), TilePkt.sound 10 p ∧ s.portEnd p.port = some e ∧ s.hears p.port = true ∧ p.payload.length = 16 ∧ s.dirMode (p.port / 2) ≠ 3 ∧ s.hopOfDist (p.port / 2) e (byteAt p.hdr 1 % 64) = h ∧ 1 ≤ h ∧ h ≤ 32)
  ∧ (∃ (p : TilePkt) (e : ℕ) (k : ℕ × ℕ × ℕ) (g : Flight) (s : Machine.State), TilePkt.sound 8 p ∧ s.portEnd p.port = some e ∧ s.hears p.port = true ∧ p.payload.length = 12 ∧ byteAt p.payload 8 ≤ 2 ∧ s.dirMode (p.port / 2) ≠ 3 ∧ List.find? (fun x => x.1 == hdrAux p.hdr) (s.loop (p.port / 2)).cfg = some k ∧ s.awaits k.2.2 g)
  ∧ (∃ (p : TilePkt) (e : ℕ) (s : Machine.State), TilePkt.sound 8 p ∧ s.portEnd p.port = some e ∧ s.hears p.port = true ∧ s.dirMode (p.port / 2) ≠ 3 ∧ List.find? (fun x => x.1 == hdrAux p.hdr) (s.loop (p.port / 2)).cfg = none)
  ∧ (∃ (l : ℕ) (tag : ℕ) (k : ℕ × ℕ × ℕ) (g : Flight) (s : Machine.State), l < 512 ∧ tag < 256 ∧ List.find? (fun x => x.1 == tag) (s.loop l).cfg = some k ∧ s.awaits k.2.2 g)
  ∧ (∃ (l : ℕ) (tag : ℕ) (s : Machine.State), l < 512 ∧ tag < 256 ∧ List.find? (fun x => x.1 == tag) (s.loop l).cfg = none)
  ∧ (∃ (l : ℕ) (h : ℕ) (e : ℕ) (s : Machine.State), l < 512 ∧ 1 ≤ h ∧ h ≤ 32 ∧ s.ctrlEnd l h = some e ∧ s.powerState ≠ 2 ∧ s.tileState l h ≠ 4)
  ∧ (∃ (l : ℕ) (h : ℕ) (s : Machine.State), l < 512 ∧ 1 ≤ h ∧ h ≤ 32 ∧ (s.ctrlEnd l h = none ∨ s.powerState = 2 ∨ s.tileState l h = 4))
  ∧ (∃ (l : ℕ) (h : ℕ) (s : Machine.State), l < 512 ∧ 1 ≤ h ∧ h ≤ 32 ∧ (s.tile l h).poll ≠ none ∧ s.tileState l h ≠ 0)
  ∧ (∃ (l : ℕ) (h : ℕ) (s : Machine.State), l < 512 ∧ 1 ≤ h ∧ h ≤ 32 ∧ (s.tile l h).poll = none)
  ∧ (∃ (l : ℕ) (e : ℕ) (s : Machine.State), l < 512 ∧ e < 2 ∧ s.dirMode l ≠ 3 ∧ s.powerState ≠ 2 ∧ s.feedingEnd l e = true ∧ ((s.loop l).side e).running = false)
  ∧ (∃ (l : ℕ) (e : ℕ) (s : Machine.State), l < 512 ∧ e < 2 ∧ s.dirMode l ≠ 3 ∧ (s.powerState = 2 ∨ s.feedingEnd l e = false ∧ ((s.loop l).side e).running = false))
  ∧ (∃ (p : TilePkt) (e : ℕ) (f : ℕ) (c : ℕ) (h : ℕ) (s : Machine.State), e < 2 ∧ TilePkt.sound 5 p ∧ s.portEnd p.port = some f ∧ s.hears p.port = true ∧ s.dirMode (p.port / 2) ≠ 3 ∧ p.payload.length = 32 ∧ ((s.loop (p.port / 2)).side e).running = true ∧ byteAt p.payload 25 = e ∧ fieldAt p.payload 26 2 = ((s.loop (p.port / 2)).side e).discId ∧ byteAt p.payload 24 = c ∧ 1 ≤ c ∧ c ≤ s.dirCount (p.port / 2) ∧ s.dirCount (p.port / 2) ≤ 32 ∧ h = s.hopAt (p.port / 2) e c ∧ (s.tile (p.port / 2) h).fromA = false ∧ (s.tile (p.port / 2) h).fromB = false ∧ s.tileCheck (p.port / 2) h (tileInfoOf p.payload) = none ∧ (∀ (v : ℕ), s.loopCanvas (p.port / 2) = some v → s.cvp v P.CV_PHASES 0 ≤ (tileInfoOf p.payload).maxPhases + 1) ∧ ((s.loop (p.port / 2)).side e).answers.length + 1 ≠ s.dirCount (p.port / 2))
  ∧ (∃ (p : TilePkt) (e : ℕ) (f : ℕ) (s : Machine.State), TilePkt.sound 5 p ∧ s.portEnd p.port = some f ∧ s.hears p.port = true ∧ s.dirMode (p.port / 2) ≠ 3 ∧ e = byteAt p.payload 25 ∧ (1 < e ∨ ((s.loop (p.port / 2)).side e).running = false ∨ fieldAt p.payload 26 2 ≠ ((s.loop (p.port / 2)).side e).discId))
  ∧ (∃ (l : ℕ) (n : ℕ) (s : Machine.State), l < 512 ∧ s.dirMode l = 1 ∧ s.dirCount l = n ∧ 1 ≤ n ∧ n ≤ 32 ∧ s.powerState ≠ 2 ∧ (s.loop l).a.running = true ∧ (∀ (h : ℕ), h ∈ (s.loop l).a.answers ↔ 1 ≤ h ∧ h ≤ n) ∧ (∀ (h : ℕ), n < h → h ≤ 32 → (s.tile l h).fromA = false) ∧ (s.loop l).a.reach ≤ n ∧ (s.loop l).b.reach = 0 ∧ (s.loop l).b.starting = false ∧ (s.loop l).forced ≠ 2 ∧ (s.loop l).discWait = [])
  ∧ (∃ (p : TilePkt) (e : ℕ) (s : Machine.State), TilePkt.sound 4 p ∧ s.portEnd p.port = some e ∧ s.hears p.port = true ∧ s.dirMode (p.port / 2) = 2 ∧ p.payload.length = 4 ∧ byteAt p.payload 2 ≠ e ∧ hdrAux p.hdr = s.dirCount (p.port / 2) ∧ (s.loop (p.port / 2)).a.done = true ∧ (s.loop (p.port / 2)).a.reach = s.dirCount (p.port / 2) ∧ s.dirCount (p.port / 2) ≠ 0 ∧ (s.loop (p.port / 2)).b.reach = 0)
  ∧ (∃ (p : TilePkt) (e : ℕ) (s : Machine.State), TilePkt.sound 4 p ∧ s.portEnd p.port = some e ∧ s.hears p.port = true ∧ s.dirMode (p.port / 2) = 2 ∧ (byteAt p.payload 2 = e ∨ hdrAux p.hdr ≠ s.dirCount (p.port / 2))) :=
  ⟨⟨tilePkt 1023 10 1 0 (leBytes 0x1234 16), up, .tileStatus (tilePkt 1023 10 1 0 (leBytes 0x1234 16)), by decide +kernel⟩,
   ⟨tilePkt 0 4 0 0 (leBytes 5 4), 0, loopUp 1 {} [], (4, .discoverReceived (tilePkt 0 4 0 0 (leBytes 5 4))), by decide +kernel⟩,
   ⟨{ tilePkt 1 10 1 0 (leBytes 0x1234 16) with crc := 0 }, 1, loopUp 2 {} [], (10, .tileStatus ({ tilePkt 1 10 1 0 (leBytes 0x1234 16) with crc := 0 })), by decide +kernel⟩,
   ⟨tilePkt 0 10 1 0 (leBytes 0x1234 16), 0, 2, loopUp 1 {} [], by decide +kernel⟩,
   ⟨tilePkt 0 8 0 3 (leBytes 0x1234 12), 0, (3, 1, 9), flight 0x403, flying 0x403 (loopUp 1 { cfg := [(3, 1, 9)] } []), by decide +kernel⟩,
   ⟨tilePkt 0 8 0 3 (leBytes 0x1234 12), 0, loopUp 1 {} [], by decide +kernel⟩,
   ⟨0, 3, (3, 1, 9), flight 0x403, flying 0x403 (loopUp 1 { cfg := [(3, 1, 9)] } []), by decide +kernel⟩,
   ⟨511, 255, up, by decide +kernel⟩,
   ⟨0, 1, 0, loopUp 1 { a := { trained := true, reach := 2 } } [(0, { fromA := true })], by decide +kernel⟩,
   ⟨511, 32, up, by decide +kernel⟩,
   ⟨0, 1, loopUp 1 { a := { trained := true, reach := 2 } } [(0, { fromA := true, poll := some 5, misses := 2 })], by decide +kernel⟩,
   ⟨511, 32, up, by decide +kernel⟩,
   ⟨0, 0, loopUp 2 { a := { trained := true } } [], by decide +kernel⟩,
   ⟨511, 1, up, by decide +kernel⟩,
   ⟨tilePkt 0 5 0 0 (leBytes (0xABC + 1 <<< 96 + 7 <<< 104 + 16 <<< 112 + 4 <<< 128 + 1 <<< 192 + 5 <<< 208) 32), 0, 0, 1, 1, loopUp 2 { a := { trained := true, running := true, discId := 5 } } [], by refine ⟨?_, ?_, ?_, ?_, ?_, ?_, ?_, ?_, ?_, ?_, ?_, ?_, ?_, ?_, ?_, ?_, ?_, ?_, ?_⟩ <;> first | exact (by intro v h; have e : 0 = v := Option.some.inj ((by decide +kernel : some 0 = (loopUp 2 { a := { trained := true, running := true, discId := 5 } } []).loopCanvas 0).trans h); subst e; decide +kernel) | decide +kernel⟩,
   ⟨tilePkt 1 5 0 0 (leBytes (0xABC + 1 <<< 96 + 7 <<< 104 + 16 <<< 112 + 4 <<< 128 + 1 <<< 192 + 5 <<< 208) 32), 0, 1, loopUp 2 { a := { trained := true, running := true, discId := 6 } } [], by decide +kernel⟩,
   ⟨0, 2, loopUp 1 { a := { trained := true, running := true, discId := 6, answers := [2, 1] } } [], by refine ⟨?_, ?_, ?_, ?_, ?_, ?_, ?_, ?_, ?_, ?_, ?_, ?_, ?_, ?_⟩ <;> first | exact (by intro h; show h ∈ [2, 1] ↔ 1 ≤ h ∧ h ≤ 2; simp; omega) | exact (fun _ _ _ => rfl) | decide +kernel⟩,
   ⟨tilePkt 1 4 63 2 (leBytes 6 4), 1, loopUp 2 { a := { done := true, reach := 2, found := 2 } } [], by decide +kernel⟩,
   ⟨tilePkt 1 4 63 1 (leBytes 6 4), 1, loopUp 2 { a := { done := true, reach := 2, found := 2 } } [], by decide +kernel⟩⟩

/-- O29: each clause of LoopsFailOverAndHandOver has an input. -/
theorem test_hypotheses_LoopsFailOverAndHandOver :
  (∃ (p : ℕ) (d1 : ℕ) (d2 : ℕ) (d3 : ℕ) (t : ℕ) (s : Machine.State), p < 1024 ∧ d1 < 256 ∧ d2 < 256 ∧ d3 < 256 ∧ (s.portEnd p = none ∨ d2 + d3 ≠ 255 ∨ d1 % 64 ≠ 0 ∨ s.hears p = false))
  ∧ (∃ (p : ℕ) (d1 : ℕ) (d2 : ℕ) (d3 : ℕ) (t : ℕ) (e : ℕ) (s : Machine.State), p < 1024 ∧ d1 < 256 ∧ d2 + d3 = 255 ∧ d1 % 64 = 0 ∧ s.hears p = true ∧ s.portEnd p = some e ∧ d1.testBit 7 = true ∧ ((s.loop (p / 2)).side e).trained = false)
  ∧ (∃ (p : ℕ) (d1 : ℕ) (d2 : ℕ) (d3 : ℕ) (t : ℕ) (e : ℕ) (s : Machine.State), p < 1024 ∧ d1 < 256 ∧ d2 + d3 = 255 ∧ d1 % 64 = 0 ∧ s.hears p = true ∧ s.portEnd p = some e ∧ d1.testBit 7 = true ∧ ((s.loop (p / 2)).side e).trained = true)
  ∧ (∃ (p : ℕ) (d1 : ℕ) (d2 : ℕ) (d3 : ℕ) (t : ℕ) (e : ℕ) (s : Machine.State), p < 1024 ∧ d1 < 256 ∧ d2 + d3 = 255 ∧ d1 % 64 = 0 ∧ s.hears p = true ∧ s.portEnd p = some e ∧ d1.testBit 7 = false ∧ d1.testBit 6 = true)
  ∧ (∃ (p : ℕ) (d1 : ℕ) (d2 : ℕ) (d3 : ℕ) (t : ℕ) (e : ℕ) (s : Machine.State), p < 1024 ∧ d1 < 256 ∧ d2 + d3 = 255 ∧ d1 % 64 = 0 ∧ s.hears p = true ∧ s.portEnd p = some e ∧ d1.testBit 7 = false ∧ d1.testBit 6 = false ∧ ((s.loop (p / 2)).side e).trained = false ∧ e = 0 ∧ (s.loop (p / 2)).forced ≠ 2 ∧ ((s.loop (p / 2)).side e).running = false ∧ s.dirMode (p / 2) ≠ 3 ∧ s.feedingEnd (p / 2) 1 = false)
  ∧ (∃ (p : ℕ) (d1 : ℕ) (d2 : ℕ) (d3 : ℕ) (t : ℕ) (e : ℕ) (s : Machine.State), p < 1024 ∧ d1 < 256 ∧ d2 < 256 ∧ (d1 ^^^ d2) + d3 = 255 ∧ s.portEnd p = some e ∧ s.hears p = true ∧ s.dirMode (p / 2) ≠ 3 ∧ (s.loop (p / 2)).a.done = true ∧ (s.loop (p / 2)).a.reach = s.dirCount (p / 2) ∧ s.dirCount (p / 2) ≠ 0 ∧ (s.loop (p / 2)).b.reach = 0)
  ∧ (∃ (p : ℕ) (d1 : ℕ) (d2 : ℕ) (d3 : ℕ) (t : ℕ) (s : Machine.State), p < 1024 ∧ d1 < 256 ∧ d2 < 256 ∧ d3 < 256 ∧ (d1 ^^^ d2) + d3 ≠ 255)
  ∧ (∃ (p : ℕ) (d1 : ℕ) (d2 : ℕ) (d3 : ℕ) (t : ℕ) (r : ℕ) (s : Machine.State), p < 1024 ∧ d1 < 256 ∧ d2 < 256 ∧ (d1 ^^^ d2) + d3 = 255 ∧ s.portEnd p = some 0 ∧ s.hears p = true ∧ s.dirMode (p / 2) = 2 ∧ (s.loop (p / 2)).a.heard ≠ some (d1 / 16, d2) ∧ (d1 / 16 = 0 ∧ r = d2 + 1 ∨ d1 / 16 = 2 ∧ r = d2) ∧ 1 ≤ r ∧ r < s.dirCount (p / 2) ∧ s.dirCount (p / 2) ≤ 32 ∧ (s.loop (p / 2)).trap = 0 ∧ (s.loop (p / 2)).a.reach = s.dirCount (p / 2) ∧ (s.loop (p / 2)).a.found = s.dirCount (p / 2) ∧ (s.loop (p / 2)).b.reach = 0)
  ∧ (∃ (p : ℕ) (d1 : ℕ) (d2 : ℕ) (d3 : ℕ) (t : ℕ) (e : ℕ) (s : Machine.State), p < 1024 ∧ d1 < 256 ∧ d2 < 256 ∧ (d1 ^^^ d2) + d3 = 255 ∧ s.portEnd p = some e ∧ s.hears p = true ∧ (d1 / 16 = 0 ∨ d1 / 16 = 2) ∧ ((s.loop (p / 2)).side e).heard = some (d1 / 16, d2))
  ∧ (∃ (l : ℕ) (e : ℕ) (s : Machine.State), l < 512 ∧ e < 2 ∧ s.ownsEnd l e = true ∧ ((s.loop l).side e).reach = 0 ∧ s.powerState ≠ 2 ∧ ((s.loop l).side e).trained = true ∧ ((s.loop l).side e).running = false ∧ (s.loop l).trap = 0)
  ∧ (∃ (l : ℕ) (e : ℕ) (s : Machine.State), l < 512 ∧ e < 2 ∧ (s.ownsEnd l e = false ∨ ((s.loop l).side e).reach ≠ 0 ∨ s.powerState = 2))
  ∧ (∃ (l : ℕ) (r : ℕ) (s : Machine.State), l < 512 ∧ s.dirMode l = 2 ∧ s.dirCount l ≤ 32 ∧ (s.loop l).b.starting = true ∧ (s.loop l).b.done = true ∧ (s.loop l).b.running = false ∧ (s.loop l).a.running = false ∧ (s.loop l).a.reach ≠ 0 ∧ r = min (s.dirCount l - (s.loop l).a.reach) (s.loop l).b.found ∧ r ≠ 0)
  ∧ (∃ (l : ℕ) (s : Machine.State), l < 512 ∧ (s.loop l).a.starting = false ∧ (s.loop l).b.starting = false)
  ∧ (∃ (l : ℕ) (s : Machine.State), l < 512 ∧ s.dirMode l = 2 ∧ (s.loop l).intact = true ∧ (s.loop l).forced = 0 ∧ s.getP (mwLoop l P.MW_REVERT) 0 = 1 ∧ (s.loop l).handover = none ∧ (s.loop l).b.reach ≠ 0 ∧ (s.loop l).trap = 0)
  ∧ (∃ (l : ℕ) (s : Machine.State), l < 512 ∧ (s.getP (mwLoop l P.MW_REVERT) 0 ≠ 1 ∨ (s.loop l).intact = false ∨ (s.loop l).forced ≠ 0 ∨ (s.loop l).b.reach = 0 ∨ (s.loop l).trap ≠ 0 ∨ (s.loop l).handover ≠ none))
  ∧ (∃ (l : ℕ) (h : Handover) (s : Machine.State), l < 512 ∧ (s.loop l).handover = some h ∧ h.tag ≠ none ∧ h.reachA ≠ 0 ∧ s.dirMode l = 2 ∧ (s.loop l).a.running = false ∧ (s.loop l).b.running = false)
  ∧ (∃ (l : ℕ) (h : Handover) (s : Machine.State), l < 512 ∧ (s.loop l).handover = some h ∧ h.tag = none ∧ h.acked = true ∧ h.ticket = none ∧ s.dirMode l = 2 ∧ h.reachA = s.dirCount l ∧ h.reachA ≠ 0 ∧ h.reachB = 0 ∧ (s.loop l).intact = true ∧ (s.loop l).trap = 0 ∧ (s.loop l).a.running = false ∧ (s.loop l).b.running = false ∧ l ∉ s.mw.link.handing)
  ∧ (∃ (l : ℕ) (tk : ℕ) (h : Handover) (g : Flight) (s : Machine.State), l < 512 ∧ (s.loop l).handover = some h ∧ h.goes = false ∧ h.ticket = some tk ∧ s.awaits tk g ∧ (s.loop l).trap = 0 ∧ l ∉ s.mw.link.handing)
  ∧ (∃ (l : ℕ) (s : Machine.State), l < 512 ∧ (∀ (h : Handover), (s.loop l).handover = some h → h.goes = true)) :=
  ⟨⟨1023, 255, 255, 255, 5000, up, by decide +kernel⟩,
   ⟨0, 0x80, 0xF0, 0x0F, 5000, 0, loopUp 2 {} [], by decide +kernel⟩,
   ⟨1, 0xC0, 0xF0, 0x0F, 5000, 1, loopUp 2 { b := { trained := true } } [], by decide +kernel⟩,
   ⟨1, 0x40, 0xF0, 0x0F, 5000, 1, loopUp 2 {} [], by decide +kernel⟩,
   ⟨0, 0, 0xF0, 0x0F, 5000, 0, loopUp 2 {} [], by decide +kernel⟩,
   ⟨1, 0x12, 0x34, 0xD9, 5000, 1, loopUp 2 { a := { done := true, reach := 2, found := 2 } } [], by decide +kernel⟩,
   ⟨1023, 1, 1, 0, 5000, up, by decide +kernel⟩,
   ⟨0, 0, 0, 255, 5000, 1, loopUp 2 { a := { trained := true, done := true, reach := 2, found := 2 } } [(0, { fromA := true }), (1, { fromA := true })], by decide +kernel⟩,
   ⟨1, 0, 0x34, 0xCB, 5000, 1, loopUp 2 { b := { heard := some (0, 0x34) } } [], by decide +kernel⟩,
   ⟨0, 1, loopUp 2 { b := { trained := true } } [], by decide +kernel⟩,
   ⟨511, 1, up, by decide +kernel⟩,
   ⟨0, 1, loopUp 2 { a := { done := true, reach := 1, found := 1 }, b := { starting := true, done := true, found := 2 } } [], by decide +kernel⟩,
   ⟨511, up, by decide +kernel⟩,
   ⟨0, withP [(mwLoop 0 P.MW_LOOP_STATE, 0, 3), (mwLoop 0 P.MW_REVERT, 0, 1)] (loopUp 2 { a := { done := true, reach := 1, found := 2 }, b := { done := true, reach := 1, found := 2 }, intact := true } []), by decide +kernel⟩,
   ⟨511, up, by decide +kernel⟩,
   ⟨0, { tag := some 5, reachA := 2, reachB := 0, kind := 2, ticket := none }, loopUp 2 { a := { done := true, reach := 1, found := 2 }, handover := some { tag := some 5, reachA := 2, reachB := 0, kind := 2, ticket := none } } [], by decide +kernel⟩,
   ⟨0, { tag := none, reachA := 2, reachB := 0, kind := 2, ticket := none }, loopUp 2 { a := { done := true, reach := 1, found := 2 }, b := { reach := 1 }, intact := true, handover := some { tag := none, reachA := 2, reachB := 0, kind := 2, ticket := none } } [], by decide +kernel⟩,
   ⟨0, 9, { tag := none, reachA := 2, reachB := 0, kind := 2, ticket := some 9 }, flight 0x406, flying 0x406 (loopUp 2 { a := { done := true, reach := 1, found := 2 }, handover := some { tag := none, reachA := 2, reachB := 0, kind := 2, ticket := some 9 } } []), by decide +kernel⟩,
   ⟨511, up, by decide +kernel⟩⟩

/-- O30: each clause of LinesAreSentToTiles has an input. -/
theorem test_hypotheses_LinesAreSentToTiles :
  (∃ (c : ℕ) (p : ℕ) (l : ℕ) (r : ℕ) (d1 : ℕ) (d2 : ℕ) (s : Machine.State), c < 16 ∧ p < 4 ∧ s.cvState c = 2 ∧ s.powerState ≠ 2 ∧ p < s.cvp c P.CV_PHASES 0 ∧ s.canvasLoops c = [l] ∧ (s.dirMode l = 1 ∨ s.dirMode l = 2) ∧ (s.loop l).a.reach = r ∧ r ≠ 0 ∧ (s.loop l).b.reach = 0 ∧ (d1 = p * 64 + (if r = s.dirCount l then r + 1 else r) % 64) ∧ d2 = (s.canvas c).tag % 256 ∧ (∀ (h : ℕ), 1 ≤ h → h ≤ 32 → (s.tile l h).frame = none))
  ∧ (∃ (c : ℕ) (p : ℕ) (l : ℕ) (r : ℕ) (d1 : ℕ) (d2 : ℕ) (s : Machine.State) (h : ℕ) (f : TileFrame), c < 16 ∧ p < 4 ∧ s.cvState c = 2 ∧ s.powerState ≠ 2 ∧ p < s.cvp c P.CV_PHASES 0 ∧ s.canvasLoops c = [l] ∧ (s.dirMode l = 1 ∨ s.dirMode l = 2) ∧ (s.loop l).a.reach = r ∧ r ≠ 0 ∧ (s.loop l).b.reach = 0 ∧ (d1 = p * 64 + (if r = s.dirCount l then r + 1 else r) % 64) ∧ d2 = (s.canvas c).tag % 256 ∧ 1 ≤ h ∧ h ≤ r ∧ r ≤ s.dirCount l ∧ h ≤ 32 ∧ (s.tile l h).frame = some f ∧ (∀ (k : ℕ), 1 ≤ k → k ≤ 32 → k ≠ h → (s.tile l k).frame = none) ∧ l < 512 ∧ s.loopCanvas l = some c)
  ∧ (∃ (c : ℕ) (p : ℕ) (s : Machine.State), c < 16 ∧ p < 4 ∧ (s.cvState c ≠ 2 ∨ s.powerState = 2 ∨ s.cvp c P.CV_PHASES 0 ≤ p))
  ∧ (∃ (l : ℕ) (h : ℕ) (c : ℕ) (p : ℕ) (y : ℕ) (w : ℕ) (n : ℕ) (e : ℕ) (row : ℕ) (tag : ℕ) (m : MapEntry) (codes : List ℕ) (s : Machine.State), l < 512 ∧ 1 ≤ h ∧ h ≤ 32 ∧ c < 16 ∧ p < 4 ∧ List.find? (fun x => x.loop == l && x.hop == h) (s.portMap c) = some m ∧ SMap.find (outKey l h y) (s.canvas c).out = some codes ∧ s.takesFrames l h p = true ∧ s.cvState c = 2 ∧ (s.canvas c).phase = p ∧ (s.canvas c).tag = tag ∧ s.tileDims l h = (w, n) ∧ s.fedFrom l h = some e ∧ (row = if m.my = true then n - 1 - (y - m.y) else y - m.y) ∧ (y = m.y ∨ ∃ f, (s.tile l h).frame = some f ∧ f.phase = p ∧ f.tag = tag))
  ∧ (∃ (l : ℕ) (h : ℕ) (c : ℕ) (p : ℕ) (y : ℕ) (m : MapEntry) (codes : List ℕ) (s : Machine.State), l < 512 ∧ 1 ≤ h ∧ h ≤ 32 ∧ c < 16 ∧ p < 4 ∧ List.find? (fun x => x.loop == l && x.hop == h) (s.portMap c) = some m ∧ SMap.find (outKey l h y) (s.canvas c).out = some codes ∧ s.takesFrames l h p = false)
  ∧ (∃ (l : ℕ) (h : ℕ) (c : ℕ) (p : ℕ) (y : ℕ) (s : Machine.State), l < 512 ∧ 1 ≤ h ∧ h ≤ 32 ∧ c < 16 ∧ p < 4 ∧ SMap.find (outKey l h y) (s.canvas c).out = none) :=
  ⟨⟨0, 0, 0, 2, 3, 0, withP [(P.cv 0 P.CV_STATE, 0, 2)] (loopUp 1 { a := { done := true, reach := 2, found := 2 } } []), by refine ⟨?_, ?_, ?_, ?_, ?_, ?_, ?_, ?_, ?_, ?_, ?_, ?_, ?_⟩ <;> first | exact (fun _ _ _ => rfl) | decide +kernel⟩,
   ⟨0, 0, 0, 2, 3, 0, withP [(P.cv 0 P.CV_STATE, 0, 2)] (loopUp 1 { a := { done := true, reach := 2, found := 2 } } [(0, { fromA := true, frame := some { phase := 0, tag := 0, rows := 4 } })]), 1, { phase := 0, tag := 0, rows := 4 }, by refine ⟨?_, ?_, ?_, ?_, ?_, ?_, ?_, ?_, ?_, ?_, ?_, ?_, ?_, ?_, ?_, ?_, ?_, ?_, ?_, ?_⟩ <;> first | exact (by intro k h1 h2 h3; interval_cases k <;> first | rfl | exact absurd rfl h3) | decide +kernel⟩,
   ⟨15, 3, up, by decide +kernel⟩,
   ⟨0, 1, 0, 0, 0, 16, 4, 0, 0, 0, { num := 1, loop := 0, hop := 1, x := 0, y := 0, mx := false, my := false }, List.replicate 48 5, { withP [(P.cv 0 P.CV_STATE, 0, 2)] (loopUp 1 { a := { done := true, reach := 2, found := 2 } } [(0, { fromA := true, info := some { maxPhases := 1 } })]) with cv := { cvs := [(0, { held := false, composing := true, out := [(outKey 0 1 0, List.replicate 48 5)] })] } }, by refine ⟨?_, ?_, ?_, ?_, ?_, ?_, ?_, ?_, ?_, ?_, ?_, ?_, ?_, ?_, ?_⟩ <;> first | exact (Or.inl rfl) | decide +kernel⟩,
   ⟨0, 1, 0, 0, 0, { num := 1, loop := 0, hop := 1, x := 0, y := 0, mx := false, my := false }, List.replicate 48 5, { withP [(P.cv 0 P.CV_STATE, 0, 2)] (loopUp 1 { a := { done := true, reach := 2, found := 2 } } []) with cv := { cvs := [(0, { held := false, composing := true, out := [(outKey 0 1 0, List.replicate 48 5)] })] } }, by decide +kernel⟩,
   ⟨511, 32, 15, 3, 4, up, by decide +kernel⟩⟩

/-- O31: each clause of MidwayAndPartnerCommands has an input. -/
theorem test_hypotheses_MidwayAndPartnerCommands :
  (∃ (c : Cmd) (l : ℕ) (s : Machine.State), s.accepts false 1025 c ∧ c.operands 2 0 ∧ l = c.f 0 16 ∧ l < 512 ∧ s.feedingEnd l 0 = true ∧ s.feedingEnd l 1 = false ∧ (s.loop l).a.running = false)
  ∧ (∃ (c : Cmd) (s : Machine.State), s.accepts false 1025 c ∧ c.operands 2 0 ∧ c.f 0 16 < 512 ∧ s.feedingEnd (c.f 0 16) 0 = false ∧ s.feedingEnd (c.f 0 16) 1 = false)
  ∧ (∃ (c : Cmd) (s : Machine.State), s.accepts false 1025 c ∧ c.operands 2 0 ∧ 512 ≤ c.f 0 16)
  ∧ (∃ (c : Cmd) (l : ℕ) (h : ℕ) (e : ℕ) (tag : ℕ) (s : Machine.State), l = c.f 0 16 ∧ h = c.f 16 8 ∧ l < 512 ∧ 1 ≤ h ∧ h ≤ 32 ∧ s.tileState l h ≠ 4 ∧ s.ctrlEnd l h = some e ∧ tag = ((s.loop l).cfgTag + 1) % 256 ∧ s.accepts false 1026 c ∧ c.operands 12 4278190080)
  ∧ (∃ (c : Cmd) (l : ℕ) (h : ℕ) (e : ℕ) (tag : ℕ) (s : Machine.State), l = c.f 0 16 ∧ h = c.f 16 8 ∧ l < 512 ∧ 1 ≤ h ∧ h ≤ 32 ∧ s.tileState l h ≠ 4 ∧ s.ctrlEnd l h = some e ∧ tag = ((s.loop l).cfgTag + 1) % 256 ∧ s.accepts false 1027 c ∧ c.operands 8 4278190080)
  ∧ (∃ (c : Cmd) (s : Machine.State), c.f 0 16 < 512 ∧ 1 ≤ c.f 16 8 ∧ c.f 16 8 ≤ 32 ∧ (s.tileState (c.f 0 16) (c.f 16 8) = 4 ∨ s.ctrlEnd (c.f 0 16) (c.f 16 8) = none) ∧ s.accepts false 1026 c ∧ c.operands 12 4278190080)
  ∧ (∃ (c : Cmd) (s : Machine.State), c.f 0 16 < 512 ∧ 1 ≤ c.f 16 8 ∧ c.f 16 8 ≤ 32 ∧ (s.tileState (c.f 0 16) (c.f 16 8) = 4 ∨ s.ctrlEnd (c.f 0 16) (c.f 16 8) = none) ∧ s.accepts false 1027 c ∧ c.operands 8 4278190080)
  ∧ (∃ (c : Cmd) (s : Machine.State), (512 ≤ c.f 0 16 ∨ c.f 16 8 = 0 ∨ 32 < c.f 16 8) ∧ s.accepts false 1026 c ∧ c.operands 12 4278190080)
  ∧ (∃ (c : Cmd) (s : Machine.State), (512 ≤ c.f 0 16 ∨ c.f 16 8 = 0 ∨ 32 < c.f 16 8) ∧ s.accepts false 1027 c ∧ c.operands 8 4278190080)
  ∧ (∃ (c : Cmd) (s : Machine.State), (512 ≤ c.f 0 16 ∨ c.f 16 8 = 0 ∨ 32 < c.f 16 8) ∧ s.accepts false 1028 c ∧ c.operands 4 0)
  ∧ (∃ (c : Cmd) (l : ℕ) (h : ℕ) (n : ℕ) (s : Machine.State), s.accepts false 1028 c ∧ c.operands 4 0 ∧ l = c.f 0 16 ∧ h = c.f 16 8 ∧ n = c.f 24 8 ∧ l < 512 ∧ 1 ≤ h ∧ 1 ≤ n ∧ n ≤ 12 ∧ h + n ≤ 33 ∧ (∀ i < n, s.tileState l (h + i) < 256 ∧ (s.tile l (h + i)).status.length ≤ 16))
  ∧ (∃ (c : Cmd) (l : ℕ) (m : ℕ) (s : Machine.State), s.accepts false 1029 c ∧ c.operands 3 0 ∧ l = c.f 0 16 ∧ m = c.f 16 8 ∧ (512 ≤ l ∨ 2 < m))
  ∧ (∃ (c : Cmd) (l : ℕ) (m : ℕ) (s : Machine.State), s.accepts false 1029 c ∧ c.operands 3 0 ∧ l = c.f 0 16 ∧ m = c.f 16 8 ∧ l < 512 ∧ m ≤ 2 ∧ (s.loop l).handover ≠ none)
  ∧ (∃ (c : Cmd) (l : ℕ) (m : ℕ) (s : Machine.State), s.accepts false 1029 c ∧ c.operands 3 0 ∧ l = c.f 0 16 ∧ m = c.f 16 8 ∧ l < 512 ∧ (m = 1 ∨ m = 2) ∧ (s.loop l).handover = none ∧ s.reachesAll l (m - 1) = false)
  ∧ (∃ (c : Cmd) (l : ℕ) (m : ℕ) (s : Machine.State), s.accepts false 1029 c ∧ c.operands 3 0 ∧ l = c.f 0 16 ∧ m = c.f 16 8 ∧ l < 512 ∧ m = 1 ∧ (s.loop l).handover = none ∧ s.dirMode l = 2 ∧ s.reachesAll l 0 = true ∧ (s.loop l).a.reach = s.dirCount l ∧ (s.loop l).b.reach = 0)
  ∧ (∃ (c : Cmd) (l : ℕ) (m : ℕ) (s : Machine.State), s.accepts false 1029 c ∧ c.operands 3 0 ∧ l = c.f 0 16 ∧ m = c.f 16 8 ∧ l < 512 ∧ m = 0 ∧ (s.loop l).handover = none ∧ s.reachesAll l 0 = false)
  ∧ (∃ (c : Cmd) (l : ℕ) (m : ℕ) (s : Machine.State), s.accepts false 1029 c ∧ c.operands 3 0 ∧ l = c.f 0 16 ∧ m = c.f 16 8 ∧ l < 512 ∧ m = 2 ∧ (s.loop l).handover = none ∧ s.dirMode l = 2 ∧ s.reachesAll l 1 = true ∧ (s.loop l).b.reach = 0)
  ∧ (∃ (c : Cmd) (s : Machine.State), s.accepts true 65 c ∧ c.operands 12 4278190080 ∧ (2 < c.f 0 8 ∨ c.f 0 8 = 1 ∧ (1 < c.f 8 8 ∨ popcount (c.f 16 8) 8 ∉ [1, 2, 4, 8])))
  ∧ (∃ (c : Cmd) (s : Machine.State), s.accepts true 65 c ∧ c.operands 12 4278190080 ∧ c.f 0 8 = 0 ∧ s.linkState = 0)
  ∧ (∃ (c : Cmd) (s : Machine.State), s.accepts true 65 c ∧ c.operands 12 4278190080 ∧ c.f 0 8 = 1 ∧ c.f 8 8 ≤ 1 ∧ popcount (c.f 16 8) 8 ∈ [1, 2, 4, 8] ∧ s.linkState = 0)
  ∧ (∃ (c : Cmd) (s : Machine.State), s.accepts true 65 c ∧ c.operands 12 4278190080 ∧ c.f 0 8 = 2 ∧ s.linkActive = false)
  ∧ (∃ (c : Cmd) (s : Machine.State), s.accepts true 65 c ∧ c.operands 12 4278190080 ∧ c.f 0 8 = 2 ∧ s.linkActive = true ∧ s.fedPaired = []) :=
  ⟨⟨cmd 2 0, 0, loopUp 1 { a := { trained := true } } [], by decide +kernel⟩,
   ⟨cmd 2 511, up, by decide +kernel⟩,
   ⟨cmd 2 512, up, by decide +kernel⟩,
   ⟨cmd 12 (1 <<< 16 ||| 0xAA <<< 64), 0, 1, 0, 1, loopUp 1 { a := { trained := true, done := true, reach := 2, found := 2 } } [(0, { fromA := true, status := leBytes 5 16 }), (1, { fromA := true })], by decide +kernel⟩,
   ⟨cmd 8 (1 <<< 16 ||| 0xAA <<< 32), 0, 1, 0, 1, loopUp 1 { a := { trained := true, done := true, reach := 2, found := 2 } } [(0, { fromA := true, status := leBytes 5 16 }), (1, { fromA := true })], by decide +kernel⟩,
   ⟨cmd 12 (511 ||| 32 <<< 16), up, by decide +kernel⟩,
   ⟨cmd 8 (511 ||| 32 <<< 16), up, by decide +kernel⟩,
   ⟨cmd 12 (511 ||| 33 <<< 16), up, by decide +kernel⟩,
   ⟨cmd 8 511, up, by decide +kernel⟩,
   ⟨cmd 4 (512 ||| 1 <<< 16), up, by decide +kernel⟩,
   ⟨cmd 4 (1 <<< 16 ||| 2 <<< 24), 0, 1, 2, loopUp 1 { a := { trained := true, done := true, reach := 2, found := 2 } } [(0, { fromA := true, status := leBytes 5 16 }), (1, { fromA := true })], by decide +kernel⟩,
   ⟨cmd 3 512, 512, 0, up, by decide +kernel⟩,
   ⟨cmd 3 0, 0, 0, loopUp 2 { handover := some { tag := none, reachA := 2, reachB := 0, kind := 2, ticket := none } } [], by decide +kernel⟩,
   ⟨cmd 3 (1 <<< 16), 0, 1, loopUp 2 {} [], by decide +kernel⟩,
   ⟨cmd 3 (1 <<< 16), 0, 1, loopUp 2 { a := { trained := true, done := true, reach := 2, found := 2 } } [], by decide +kernel⟩,
   ⟨cmd 3 0, 0, 0, loopUp 2 {} [], by decide +kernel⟩,
   ⟨cmd 3 (2 <<< 16), 0, 2, loopUp 2 { a := { trained := true, done := true, reach := 2, found := 2 }, b := { done := true, found := 2 } } [], by decide +kernel⟩,
   ⟨cmd 12 3, up, by decide +kernel⟩,
   ⟨cmd 12 0, up, by decide +kernel⟩,
   ⟨cmd 12 (1 ||| 1 <<< 8 ||| 255 <<< 16), up, by decide +kernel⟩,
   ⟨cmd 12 2, up, by decide +kernel⟩,
   ⟨cmd 12 2, linkUp 5 {}, by decide +kernel⟩⟩

/-- O32: each clause of PartnerLinkTrains has an input. -/
theorem test_hypotheses_PartnerLinkTrains :
  (∃ (k : ℕ) (s : Machine.State), k < 8 ∧ s.linkState = 1 ∧ s.mw.link.mask.testBit k = true)
  ∧ (∃ (k : ℕ) (s : Machine.State), k < 8 ∧ (s.linkState ≠ 1 ∨ s.mw.link.mask.testBit k = false))
  ∧ (∃ (l : List AlignSet) (s : Machine.State), l.all AlignSet.wf = true ∧ (∀ a ∈ l, s.hears (1160 + a.lane) = true) ∧ s.linkState = 2 ∧ fullColumn s.mw.link.width l = true)
  ∧ (∃ (l : List AlignSet) (s : Machine.State), l.all AlignSet.wf = true ∧ (∀ a ∈ l, s.hears (1160 + a.lane) = true) ∧ s.linkState = 3 ∧ s.mw.link.trained = false ∧ fullColumn s.mw.link.width l = true ∧ equalAseq l = true)
  ∧ (∃ (l : List AlignSet) (s : Machine.State), l.all AlignSet.wf = true ∧ (∀ a ∈ l, s.hears (1160 + a.lane) = true) ∧ s.linkState = 3 ∧ s.mw.link.trained = true ∧ fullColumn s.mw.link.width l = true ∧ equalAseq l = true ∧ (∀ a ∈ l, a.d3.testBit 4 = false))
  ∧ (∃ (l : List AlignSet) (s : Machine.State), l.all AlignSet.wf = true ∧ s.linkState ≠ 2 ∧ s.linkState ≠ 3)
  ∧ (∃ (s : Machine.State), 2 ≤ s.linkState ∧ s.linkState ≤ 4)
  ∧ (∃ (s : Machine.State), (s.linkState < 2 ∨ 4 < s.linkState))
  ∧ (∃ (p : TilePkt) (s : Machine.State), TilePkt.soundPartner 1 32 p ∧ s.linkHears = true ∧ s.linkState = 4 ∧ byteAt p.payload 14 = 1 ∧ byteAt p.payload 12 ≠ s.mw.link.role ∧ (s.mw.link.want = 0 ∨ s.mw.link.want = fieldAt p.payload 0 8) ∧ s.mw.link.probesDone < 16)
  ∧ (∃ (p : TilePkt) (s : Machine.State), TilePkt.soundPartner 1 32 p ∧ s.linkHears = true ∧ s.linkState = 4 ∧ byteAt p.payload 14 = 1 ∧ byteAt p.payload 12 ≠ s.mw.link.role ∧ (s.mw.link.want = 0 ∨ s.mw.link.want = fieldAt p.payload 0 8) ∧ 16 ≤ s.mw.link.probesDone ∧ s.mw.link.role = 0)
  ∧ (∃ (p : TilePkt) (s : Machine.State), TilePkt.soundPartner 1 32 p ∧ s.linkHears = true ∧ s.linkState = 4 ∧ byteAt p.payload 14 ≠ 1)
  ∧ (∃ (q : ℕ) (d3 : ℕ) (t : ℕ) (s : Machine.State), d3 < 256 ∧ q + d3 = 255 ∧ s.linkHears = true ∧ (s.linkState = 4 ∨ s.linkState = 5))
  ∧ (∃ (q : ℕ) (d2 : ℕ) (d3 : ℕ) (t : ℕ) (s : Machine.State), q < 65536 ∧ d2 < 256 ∧ d3 < 256 ∧ (d2 ≠ 0 ∨ q + d3 ≠ 255 ∨ s.linkHears = false ∨ s.linkState < 4 ∨ 5 < s.linkState)) :=
  ⟨⟨7, linkUp 1 { mask := 128 }, by decide +kernel⟩,
   ⟨7, up, by decide +kernel⟩,
   ⟨[{ lane := 0, d1 := 0, d2 := 9, d3 := 0 }], linkUp 2 { mask := 1 }, by decide +kernel⟩,
   ⟨[{ lane := 0, d1 := 0, d2 := 9, d3 := 0 }], linkUp 3 { mask := 1 }, by decide +kernel⟩,
   ⟨[{ lane := 0, d1 := 0, d2 := 9, d3 := 0 }], linkUp 3 { mask := 1, trained := true }, by decide +kernel⟩,
   ⟨[], up, by decide +kernel⟩,
   ⟨linkUp 4 {}, by decide +kernel⟩,
   ⟨up, by decide +kernel⟩,
   ⟨tilePkt 0 1 0 0 (leBytes (0x55 + 1 <<< 96 + 1 <<< 112) 32), linkUp 4 { mask := 1 }, by decide +kernel⟩,
   ⟨tilePkt 0 1 0 0 (leBytes (0x55 + 1 <<< 96 + 1 <<< 112) 32), linkUp 4 { mask := 1, probesDone := 16 }, by decide +kernel⟩,
   ⟨tilePkt 0 1 0 0 (leBytes (0x55 + 1 <<< 96 + 2 <<< 112) 32), linkUp 4 { mask := 1 }, by decide +kernel⟩,
   ⟨5, 250, 5000, linkUp 5 {}, by decide +kernel⟩,
   ⟨65535, 255, 255, 5000, up, by decide +kernel⟩⟩

/-- O33: each clause of PartnersKeepTimeAndLoops has an input. -/
theorem test_hypotheses_PartnersKeepTimeAndLoops :
  (∃ (p : TilePkt) (s : Machine.State) (i : ℕ × Instr), i ∈ [(1, Instr.pIdentity p), (2, Instr.pHeartbeat p), (3, Instr.pLoop p), (4, Instr.pHandover p), (5, Instr.pTile p)] ∧ i.2.wellFormed = true ∧ (tileFaulty i.1 p = true ∨ crc32c p.payload ≠ p.crc ∨ s.linkHears = false ∨ s.linkState < 4 ∨ 5 < s.linkState))
  ∧ (∃ (p : TilePkt) (e : ℕ) (s : Machine.State), TilePkt.soundPartner 2 8 p ∧ s.linkHears = true ∧ s.linkState = 5 ∧ s.mw.link.hbNext = some e ∧ e < 65536)
  ∧ (∃ (s : Machine.State), (s.linkState ≠ 5 ∨ s.quietEnd ≠ none))
  ∧ (∃ (s : Machine.State), s.linkState = 5 ∧ s.quietEnd = none ∧ s.mw.link.role ≠ 1 ∧ (s.partner linkId).present = true)
  ∧ (∃ (t : ℕ) (d1 : ℕ) (d2 : ℕ) (d3 : ℕ) (s : Machine.State), d1 + d3 = 255 ∧ d2 < 256 ∧ s.linkHears = true ∧ s.partnerTiming = true ∧ s.getP P.RM_STATE 0 = 1 ∧ s.ring.prevEdge = none)
  ∧ (∃ (t : ℕ) (d1 : ℕ) (d2 : ℕ) (d3 : ℕ) (s : Machine.State), d1 < 256 ∧ d2 < 256 ∧ d3 < 256 ∧ (s.partnerTiming = false ∨ s.linkHears = false ∨ d1 + d3 ≠ 255))
  ∧ (∃ (p : TilePkt) (l : ℕ) (s : Machine.State), TilePkt.soundPartner 3 16 p ∧ s.linkHears = true ∧ s.linkState = 5 ∧ s.mw.link.role = 0 ∧ (s.loop (fieldAt p.payload 0 2)).yields = false ∧ l = fieldAt p.payload 0 2 ∧ l < 512 ∧ s.dirMode l = 3 ∧ s.dirFeeder l = 0)
  ∧ (∃ (p : TilePkt) (l : ℕ) (s : Machine.State) (h : Handover), TilePkt.soundPartner 4 12 p ∧ s.linkHears = true ∧ s.linkState = 5 ∧ l = fieldAt p.payload 0 2 ∧ l < 512 ∧ s.dirMode l = 3 ∧ byteAt p.payload 2 = 0 ∧ (s.loop l).handover = some h)
  ∧ (∃ (p : TilePkt) (l : ℕ) (s : Machine.State), TilePkt.soundPartner 4 12 p ∧ s.linkHears = true ∧ s.linkState = 5 ∧ l = fieldAt p.payload 0 2 ∧ l < 512 ∧ s.dirMode l = 3 ∧ byteAt p.payload 2 = 0 ∧ (s.loop l).handover = none ∧ s.dirFeeder l = 0 ∧ (s.loop l).yields = false ∧ s.reachesAll l 0 = true ∧ byteAt p.payload 9 ≠ 0 ∧ s.loopCanvas l = none)
  ∧ (∃ (p : TilePkt) (l : ℕ) (h : ℕ) (s : Machine.State), TilePkt.soundPartner 5 48 p ∧ s.linkHears = true ∧ s.linkState = 5 ∧ l = fieldAt p.payload 0 2 ∧ l < 512 ∧ s.dirMode l = 3 ∧ h = byteAt p.payload 2 ∧ 1 ≤ h ∧ h ≤ 32 ∧ byteAt p.payload 3 = 1) :=
  ⟨⟨tilePkt 0 5 0 0 (leBytes 7 48), linkUp 6 {}, (5, .pTile (tilePkt 0 5 0 0 (leBytes 7 48))), by decide +kernel⟩,
   ⟨tilePkt 0 2 0 0 (leBytes 7 8), 5, linkUp 5 { hbNext := some 5 }, by decide +kernel⟩,
   ⟨up, by decide +kernel⟩,
   ⟨(linkUp 5 {}).setPartner linkId { present := true, reported := true }, by decide +kernel⟩,
   ⟨5000, 9, 0, 246, withP [(P.RM_STATE, 0, 1), (P.RM_SOURCE, 0, 1)] (linkUp 5 { role := 1 }), by decide +kernel⟩,
   ⟨5000, 255, 255, 255, up, by decide +kernel⟩,
   ⟨tilePkt 0 3 0 0 (leBytes (2 <<< 16 + 2 <<< 24) 16), 0, withP [(P.PT_STATE, 0, 5)] (loopUp 3 {} []), by decide +kernel⟩,
   ⟨tilePkt 0 4 0 0 (leBytes (0 <<< 16) 12), 0, withP [(P.PT_STATE, 0, 5)] (loopUp 3 { handover := some { tag := none, reachA := 2, reachB := 0, kind := 2, ticket := none } } []), { tag := none, reachA := 2, reachB := 0, kind := 2, ticket := none }, by decide +kernel⟩,
   ⟨tilePkt 0 4 0 0 (leBytes (1 + 1 <<< 64 + 2 <<< 72) 12), 1, { withP [(P.PT_STATE, 0, 5)] (withTable 2 1 0 (leBytes (3 + 2 <<< 16) 4) up) with mw := { loops := [(1, { a := { trained := true, done := true, found := 2 } })] } }, by decide +kernel⟩,
   ⟨tilePkt 0 5 0 0 (leBytes (1 <<< 16 + 1 <<< 24 + 0xAB <<< 128) 48), 0, 1, withP [(P.PT_STATE, 0, 5)] (loopUp 3 {} []), by decide +kernel⟩⟩

/-- O34: each clause of LanesLockAndCount has an input. -/
theorem test_hypotheses_LanesLockAndCount :
  (∃ (k : ℕ) (s : Machine.State), k < 1168 ∧ s.detects k = false)
  ∧ (∃ (k : ℕ) (s : Machine.State), k < 1168 ∧ s.detects k = true)
  ∧ (∃ (k : ℕ) (s : Machine.State), k < 1168 ∧ (s.lane k).lock ≠ 3)
  ∧ (∃ (k : ℕ) (s : Machine.State), k < 1168 ∧ (s.lane k).lock = 3 ∧ ((s.lane k).measuring = true ∨ s.now < (s.lane k).winEnd))
  ∧ (∃ (k : ℕ) (p : ℕ) (s : Machine.State), k < 1168 ∧ p < 10 ∧ (s.lane k).measuring = false ∧ (s.lane k).lock = 1)
  ∧ (∃ (k : ℕ) (p : ℕ) (s : Machine.State), k < 1168 ∧ p < 10 ∧ (s.lane k).measuring = false ∧ (s.lane k).lock = 2 ∧ (s.lane k).phase ≠ p)
  ∧ (∃ (k : ℕ) (p : ℕ) (s : Machine.State), k < 1168 ∧ p < 10 ∧ (s.lane k).measuring = false ∧ (s.lane k).lock = 2 ∧ (s.lane k).phase = p ∧ (s.lane k).commas < 3)
  ∧ (∃ (k : ℕ) (p : ℕ) (s : Machine.State), k < 1168 ∧ p < 10 ∧ (s.lane k).measuring = false ∧ (s.lane k).lock = 2 ∧ (s.lane k).phase = p ∧ 3 ≤ (s.lane k).commas ∧ (s.lane k).lost = false ∧ (s.lane k).adapted = true)
  ∧ (∃ (k : ℕ) (p : ℕ) (s : Machine.State), k < 1168 ∧ p < 10 ∧ (s.lane k).measuring = false ∧ (s.lane k).lock = 2 ∧ (s.lane k).phase = p ∧ 3 ≤ (s.lane k).commas ∧ (s.lane k).lost = false ∧ (s.lane k).adapted = false)
  ∧ (∃ (k : ℕ) (p : ℕ) (s : Machine.State), k < 1168 ∧ p < 10 ∧ ((s.lane k).measuring = true ∨ (s.lane k).lock = 0 ∨ (s.lane k).lock = 3))
  ∧ (∃ (k : ℕ) (g : ℕ) (h : ℕ) (r : List ℕ) (s : Machine.State), k < 1168 ∧ g < 1024 ∧ h < 1024 ∧ (∀ x ∈ r, x < 1024))
  ∧ (∃ (k : ℕ) (h : ℕ) (g : List ℕ) (s : Machine.State), k < 1168 ∧ h < 1024 ∧ (∀ x ∈ g, x < 1024) ∧ ((s.lane k).lock < 2 ∨ (s.lane k).measuring = true))
  ∧ (∃ (k : ℕ) (g : ℕ) (s : Machine.State), k < 1168 ∧ g < 1024 ∧ (s.lane k).measuring = false ∧ 2 ≤ (s.lane k).lock ∧ checkGroup g (s.lane k).rd = GroupCheck.valid)
  ∧ (∃ (k : ℕ) (g : ℕ) (s : Machine.State), k < 1168 ∧ g < 1024 ∧ (s.lane k).measuring = false ∧ 2 ≤ (s.lane k).lock ∧ checkGroup g (s.lane k).rd ≠ GroupCheck.valid ∧ ((s.lane k).lock = 2 ∨ (s.lane k).lock = 3 ∧ (s.lane k).errs < 3))
  ∧ (∃ (k : ℕ) (g : ℕ) (s : Machine.State), k < 1168 ∧ g < 1024 ∧ (s.lane k).measuring = false ∧ 2 ≤ (s.lane k).lock ∧ checkGroup g (s.lane k).rd ≠ GroupCheck.valid ∧ (s.lane k).lock = 3 ∧ 3 ≤ (s.lane k).errs ∧ k < 1024 ∧ s.portEnd k = none ∧ (s.lane k).winEnd ≤ s.now)
  ∧ (∃ (k : ℕ) (v : ℕ) (d1 : ℕ) (d2 : ℕ) (d3 : ℕ) (drift : ℤ) (s : Machine.State), k < 1024 ∧ d1 < 256 ∧ d2 < 256 ∧ d3 < 256 ∧ s.hears k = false)
  ∧ (∃ (k : ℕ) (v : ℕ) (d1 : ℕ) (d2 : ℕ) (d3 : ℕ) (drift : ℤ) (s : Machine.State), k < 1024 ∧ d1 < 256 ∧ d2 < 256 ∧ d3 < 256 ∧ s.hears k = true ∧ ↑v = ↑(s.lane k).fill + drift ∧ 1 ≤ v ∧ v ≤ 16)
  ∧ (∃ (k : ℕ) (v : ℕ) (d1 : ℕ) (d2 : ℕ) (d3 : ℕ) (drift : ℤ) (s : Machine.State), k < 1024 ∧ d1 < 256 ∧ d2 < 256 ∧ d3 < 256 ∧ s.hears k = true ∧ (↑(s.lane k).fill + drift ≤ 0 ∨ 16 < ↑(s.lane k).fill + drift) ∧ s.portEnd k = none ∧ (s.lane k).winEnd ≤ s.now)
  ∧ (∃ (k : ℕ) (s : Machine.State), k < 1168 ∧ (s.lane k).tx ≠ 3)
  ∧ (∃ (k : ℕ) (s : Machine.State), k < 1168 ∧ (s.lane k).tx = 3)
  ∧ (∃ (k : ℕ) (s : Machine.State), k < 1168 ∧ (s.laneWanted k).1 ≤ (s.lane k).tx)
  ∧ (∃ (k : ℕ) (s : Machine.State), k < 1168 ∧ (s.laneWanted k).2 ≤ (s.lane k).rx)
  ∧ (∃ (k : ℕ) (s : Machine.State), k < 1168 ∧ (s.lane k).tx < (s.laneWanted k).1 ∧ (s.lane k).tx ≠ 1)
  ∧ (∃ (k : ℕ) (s : Machine.State), k < 1168 ∧ (s.lane k).tx < (s.laneWanted k).1 ∧ (s.lane k).tx = 1)
  ∧ (∃ (k : ℕ) (s : Machine.State), k < 1168 ∧ (s.lane k).rx < (s.laneWanted k).2) :=
  ⟨⟨1167, laneUp 1167 { tx := 3 }, by decide +kernel⟩,
   ⟨1167, laneUp 1167 { rx := 3 }, by decide +kernel⟩,
   ⟨1167, up, by decide +kernel⟩,
   ⟨1167, laneUp 1167 { lock := 3, winEnd := 5 }, by decide +kernel⟩,
   ⟨1167, 9, laneUp 1167 { lock := 1 }, by decide +kernel⟩,
   ⟨1167, 9, laneUp 1167 { lock := 2, commas := 1 }, by decide +kernel⟩,
   ⟨1167, 9, laneUp 1167 { lock := 2, commas := 2, phase := 9 }, by decide +kernel⟩,
   ⟨1167, 9, laneUp 1167 { lock := 2, commas := 3, phase := 9, adapted := true }, by decide +kernel⟩,
   ⟨1167, 9, laneUp 1167 { lock := 2, commas := 3, phase := 9 }, by decide +kernel⟩,
   ⟨1167, 9, up, by decide +kernel⟩,
   ⟨1167, 0, 1023, [1, 2], laneUp 1167 { lock := 3 }, by decide +kernel⟩,
   ⟨1167, 1023, [0, 1], laneUp 1167 { lock := 1 }, by decide +kernel⟩,
   ⟨1167, 0x17C, laneUp 1167 { lock := 3 }, by decide +kernel⟩,
   ⟨1167, 1023, laneUp 1167 { lock := 3, errs := 2 }, by decide +kernel⟩,
   ⟨1023, 0, laneUp 1023 { lock := 3, errs := 3 }, by decide +kernel⟩,
   ⟨1023, 3, 255, 255, 255, -2, up, by decide +kernel⟩,
   ⟨1023, 16, 255, 255, 255, 8, laneUp 1023 { lock := 3 }, by decide +kernel⟩,
   ⟨1023, 0, 0, 0, 0, 9, laneUp 1023 { lock := 3 }, by decide +kernel⟩,
   ⟨1167, up, by decide +kernel⟩,
   ⟨1167, laneUp 1167 { tx := 3 }, by decide +kernel⟩,
   ⟨1167, up, by decide +kernel⟩,
   ⟨1167, up, by decide +kernel⟩,
   ⟨1023, laneUp 1023 { tx := 0 }, by decide +kernel⟩,
   ⟨0, loopUp 2 { a := { trained := true, reach := 2 } } [], by decide +kernel⟩,
   ⟨0, loopUp 2 { a := { trained := true, reach := 2 } } [], by decide +kernel⟩⟩

/-- O35: each clause of LaneQualityIsMeasured has an input. -/
theorem test_hypotheses_LaneQualityIsMeasured :
  (∃ (k : ℕ) (a : ℕ) (d : ℕ) (s : Machine.State), k < 1168 ∧ (s.lane k).lock ≠ 3)
  ∧ (∃ (k : ℕ) (a : ℕ) (d : ℕ) (s : Machine.State), k < 1168 ∧ (s.lane k).lock = 3 ∧ a ≠ 0)
  ∧ (∃ (k : ℕ) (a : ℕ) (d : ℕ) (s : Machine.State), k < 1168 ∧ (s.lane k).lock = 3 ∧ a = 0)
  ∧ (∃ (g : ℕ) (l : List (ℕ × ℕ)) (s : Machine.State), g < 28 ∧ (∀ k ∈ groupLanes g, (s.lane k).lock ≠ 3))
  ∧ (∃ (g : ℕ) (k : ℕ) (q : ℕ) (l : List (ℕ × ℕ)) (s : Machine.State), g < 28 ∧ k ∈ groupLanes g ∧ (s.lane k).lock = 3 ∧ (∀ j ∈ groupLanes g, j ≠ k → (s.lane j).lock ≠ 3) ∧ s.getP P.LN_MEASURE g = 0 ∧ (s.lane k).fomLow = some q ∧ (s.lane k).low = false ∧ s.getP P.LN_QUALITY_MIN g ≤ q)
  ∧ (∃ (g : ℕ) (k : ℕ) (q : ℕ) (l : List (ℕ × ℕ)) (s : Machine.State), g < 28 ∧ k ∈ groupLanes g ∧ (s.lane k).lock = 3 ∧ (∀ j ∈ groupLanes g, j ≠ k → (s.lane j).lock ≠ 3) ∧ s.getP P.LN_MEASURE g = 0 ∧ (s.lane k).fomLow = some q ∧ (s.lane k).low = false ∧ q < s.getP P.LN_QUALITY_MIN g ∧ s.getP P.LN_CAL_ENABLE g = 1 ∧ s.getP P.LN_CAL_STATE g = 0)
  ∧ (∃ (c : Cmd) (s : Machine.State), s.accepts false 1283 c ∧ c.operands 20 18446742974197923840 ∧ c.f 0 16 < 1168 ∧ c.f 16 8 ∈ [1, 2, 4, 8, 16] ∧ 1 ≤ c.f 24 8 ∧ c.f 24 8 ≤ 127 ∧ 20 ≤ c.f 32 8 ∧ c.f 32 8 ≤ 36 ∧ c.f 64 64 ≠ 0 ∧ c.f 64 64 % 64 = 0 ∧ 32 + 8 * scanPoints (c.f 16 8) (c.f 24 8) ≤ c.f 128 32 ∧ (s.lane (c.f 0 16)).lock ≠ 3)
  ∧ (∃ (c : Cmd) (s : Machine.State), s.accepts false 1283 c ∧ c.operands 20 18446742974197923840 ∧ c.f 0 16 < 1168 ∧ c.f 16 8 ∈ [1, 2, 4, 8, 16] ∧ 1 ≤ c.f 24 8 ∧ c.f 24 8 ≤ 127 ∧ 20 ≤ c.f 32 8 ∧ c.f 32 8 ≤ 36 ∧ c.f 64 64 ≠ 0 ∧ c.f 64 64 % 64 = 0 ∧ 32 + 8 * scanPoints (c.f 16 8) (c.f 24 8) ≤ c.f 128 32 ∧ (s.lane (c.f 0 16)).lock = 3 ∧ 4 ≤ s.ln.scans.length)
  ∧ (∃ (c : Cmd) (s : Machine.State), s.accepts false 1283 c ∧ c.operands 20 18446742974197923840 ∧ c.f 0 16 < 1168 ∧ c.f 16 8 ∈ [1, 2, 4, 8, 16] ∧ 1 ≤ c.f 24 8 ∧ c.f 24 8 ≤ 127 ∧ 20 ≤ c.f 32 8 ∧ c.f 32 8 ≤ 36 ∧ c.f 64 64 ≠ 0 ∧ c.f 64 64 % 64 = 0 ∧ 32 + 8 * scanPoints (c.f 16 8) (c.f 24 8) ≤ c.f 128 32 ∧ (s.lane (c.f 0 16)).lock = 3 ∧ s.ln.scans.length < 4)
  ∧ (∃ (c : Cmd) (s : Machine.State), s.accepts false 1283 c ∧ c.operands 20 18446742974197923840 ∧ (1168 ≤ c.f 0 16 ∨ c.f 16 8 ∉ [1, 2, 4, 8, 16] ∨ c.f 24 8 = 0 ∨ 127 < c.f 24 8 ∨ c.f 32 8 < 20 ∨ 36 < c.f 32 8 ∨ c.f 64 64 = 0 ∨ c.f 64 64 % 64 ≠ 0))
  ∧ (∃ (k : ℕ) (t : ℕ) (a : Bool) (l : List (ℕ × ℕ)) (s : Machine.State), k < 1168 ∧ (∀ e ∈ s.ln.scans, e.lane ≠ k))
  ∧ (∃ (k : ℕ) (t : ℕ) (e : EyeScan) (l : List (ℕ × ℕ)) (g : Flight) (s : Machine.State), k < 1168 ∧ List.find? (fun e => e.lane == k) s.ln.scans = some e ∧ s.awaits e.ticket g ∧ (∀ (w : ℕ), (s.win w).mask.testBit 100 = false) ∧ s.hostGood (e.host + 32) (8 * scanPoints e.h e.v) = 8 * scanPoints e.h e.v ∧ s.hostGood e.host 32 = 32) :=
  ⟨⟨1167, 0, 0, up, by decide +kernel⟩,
   ⟨1167, 100, 3, laneUp 1167 { lock := 3 }, by decide +kernel⟩,
   ⟨1167, 0, 5, laneUp 1167 { lock := 3 }, by decide +kernel⟩,
   ⟨27, [], up, by decide +kernel⟩,
   ⟨27, 1167, 64, [], laneUp 1167 { lock := 3, fomLow := some 64 }, by decide +kernel⟩,
   ⟨27, 1167, 63, [], laneUp 1167 { lock := 3, fomLow := some 63 }, by decide +kernel⟩,
   ⟨cmd 20 (1167 ||| 16 <<< 16 ||| 127 <<< 24 ||| 36 <<< 32 ||| 64 <<< 64 ||| 128 <<< 128), up, by decide +kernel⟩,
   ⟨cmd 20 (1167 ||| 16 <<< 16 ||| 127 <<< 24 ||| 36 <<< 32 ||| 64 <<< 64 ||| 128 <<< 128), { up with ln := { lanes := [(1167, { lock := 3 })], scans := List.replicate 4 { lane := 0, h := 1, v := 1, d := 20, host := 64, ticket := 2, start := 0 } } }, by decide +kernel⟩,
   ⟨cmd 20 (1167 ||| 16 <<< 16 ||| 127 <<< 24 ||| 20 <<< 32 ||| 64 <<< 64 ||| 128 <<< 128), laneUp 1167 { lock := 3 }, by decide +kernel⟩,
   ⟨cmd 20 (1167 ||| 16 <<< 16 ||| 127 <<< 24 ||| 37 <<< 32 ||| 64 <<< 64 ||| 0xFFFFFFFF <<< 128), up, by decide +kernel⟩,
   ⟨1167, 5000, true, [], up, by decide +kernel⟩,
   ⟨1167, 5000, { lane := 1167, h := 16, v := 127, d := 36, host := 0x4000, ticket := 9, start := 0 }, [(5, 100), (0, 100)], flight 0x503, { up with ln := { scans := [{ lane := 1167, h := 16, v := 127, d := 36, host := 0x4000, ticket := 9, start := 0 }] }, ctl := { up.ctl with wins := [], flights := [flight 0x503] } }, by refine ⟨?_, ?_, ?_, ?_, ?_, ?_⟩ <;> first | exact (fun w => by simp [State.win, SMap.get, SMap.find]) | decide +kernel⟩⟩

/-- O36: each clause of GroupsAreCalibrated has an input. -/
theorem test_hypotheses_GroupsAreCalibrated :
  (∃ (s : Machine.State), (s.getP P.LN_CAL_PARALLEL 0 ≤ (List.filter (fun g => s.getP P.LN_CAL_STATE g == 2) (List.range 28)).length ∨ ∀ g < 28, s.getP P.LN_CAL_STATE g ≠ 1 ∧ (s.getP P.LN_CAL_STATE g ≠ 3 ∨ s.runFits g = false)))
  ∧ (∃ (g : ℕ) (s : Machine.State), g < 28 ∧ (List.filter (fun g => s.getP P.LN_CAL_STATE g == 2) (List.range 28)).length < s.getP P.LN_CAL_PARALLEL 0 ∧ s.getP P.LN_CAL_STATE g = 1 ∧ (∀ h < g, s.getP P.LN_CAL_STATE h ≠ 1 ∧ (s.getP P.LN_CAL_STATE h ≠ 3 ∨ s.runFits h = false)) ∧ s.runFits g = false)
  ∧ (∃ (g : ℕ) (s : Machine.State), g < 28 ∧ (List.filter (fun g => s.getP P.LN_CAL_STATE g == 2) (List.range 28)).length < s.getP P.LN_CAL_PARALLEL 0 ∧ s.getP P.LN_CAL_STATE g = 1 ∧ (∀ h < g, s.getP P.LN_CAL_STATE h ≠ 1 ∧ (s.getP P.LN_CAL_STATE h ≠ 3 ∨ s.runFits h = false)) ∧ 24 ≤ g ∧ s.runFits g = true ∧ (∀ k ∈ groupLanes g, ¬((s.lane k).tx = 1 ∧ (s.lane k).rx = 1) ∧ s.laneTraffic k = false) ∧ (∀ e ∈ s.ln.scans, e.lane ∉ groupLanes g))
  ∧ (∃ (g : ℕ) (k : ℕ) (q : ℕ) (r : CalRun) (x : CalLane) (s : Machine.State), k < 1168 ∧ g = laneGroupOf k ∧ 24 ≤ g ∧ (s.laneGroup g).run = some r ∧ List.find? (fun c => c.lane == k && c.method != 1) r.todo = some x ∧ (s.lane k).measuring = true ∧ r.restore = [] ∧ x.method = 2 ∧ List.filter (fun c => c.lane != k) r.todo ≠ [])
  ∧ (∃ (g : ℕ) (k : ℕ) (q : ℕ) (r : CalRun) (x : CalLane) (s : Machine.State), k < 1168 ∧ g = laneGroupOf k ∧ 24 ≤ g ∧ (s.laneGroup g).run = some r ∧ List.find? (fun c => c.lane == k && c.method != 1) r.todo = some x ∧ (s.lane k).measuring = true ∧ r.restore = [] ∧ x.method = 2 ∧ List.filter (fun c => c.lane != k) r.todo = [] ∧ (s.laneGroup g).tickets = [] ∧ (s.laneGroup g).again = none ∧ ((s.lane k).quality ≤ q + 16 ∨ s.getP P.LN_QUALITY_MIN g ≤ q) ∧ (s.groupTemp g - r.temp).natAbs ≤ s.getP P.LN_CAL_DELTA g * 16)
  ∧ (∃ (g : ℕ) (k : ℕ) (q : ℕ) (w : ℕ) (l : List (ℕ × ℕ)) (s : Machine.State), k < 1168 ∧ (s.laneGroup (laneGroupOf k)).run = none)
  ∧ (∃ (g : ℕ) (k : ℕ) (q : ℕ) (w : ℕ) (l : List (ℕ × ℕ)) (s : Machine.State), g < 28 ∧ (s.laneGroup g).run = none)
  ∧ (∃ (g : ℕ) (w : ℕ) (l : List (ℕ × ℕ)) (r : CalRun) (x : CalLane) (s : Machine.State), 24 ≤ g ∧ g < 28 ∧ (s.laneGroup g).run = some r ∧ r.todo = [x] ∧ x.method = 1 ∧ r.restore = [] ∧ x.slices < 8 ∧ (∀ e ∈ s.ln.scans, e.lane ≠ x.lane) ∧ 1024 ≤ x.lane ∧ (State.atLeast w s).windowOpen x.lane = false)
  ∧ (∃ (g : ℕ) (w : ℕ) (l : List (ℕ × ℕ)) (r : CalRun) (x : CalLane) (s : Machine.State), 24 ≤ g ∧ g < 28 ∧ (s.laneGroup g).run = some r ∧ r.todo = [x] ∧ x.method = 1 ∧ r.restore = [] ∧ x.slices < 8 ∧ (∀ e ∈ s.ln.scans, e.lane ≠ x.lane) ∧ 1024 ≤ x.lane ∧ (State.atLeast w s).windowOpen x.lane = true)
  ∧ (∃ (g : ℕ) (s : Machine.State), g < 28 ∧ s.getP P.LN_CAL_STATE g = 0)
  ∧ (∃ (g : ℕ) (tk : ℕ) (f : Flight) (s : Machine.State), g < 28 ∧ s.getP P.LN_CAL_STATE g ≠ 0 ∧ (s.laneGroup g).tickets = [tk] ∧ s.awaits tk f)
  ∧ (∃ (c : Cmd) (s : Machine.State), s.accepts false 1282 c ∧ c.operands 4 4294966784 ∧ 28 ≤ c.f 0 8)
  ∧ (∃ (c : Cmd) (s : Machine.State), s.accepts false 1282 c ∧ c.operands 4 4294966784 ∧ c.f 0 8 < 28 ∧ s.getP P.LN_CAL_STATE (c.f 0 8) = 2)
  ∧ (∃ (c : Cmd) (s : Machine.State), s.accepts false 1282 c ∧ c.operands 4 4294966784 ∧ c.f 0 8 < 28 ∧ s.getP P.LN_CAL_STATE (c.f 0 8) ≠ 2) :=
  ⟨⟨up, by decide +kernel⟩,
   ⟨0, withP [(P.CV_STATE, 0, 2), (P.CV_HEIGHT, 0, 2250), (P.LN_CAL_STATE, 0, 1)] (loopUp 2 { a := { trained := true, reach := 2 } } []), by decide +kernel⟩,
   ⟨27, { up.setP P.LN_CAL_STATE 27 1 with ln := { lanes := [(1166, { tx := 3, rx := 3 }), (1167, { tx := 3, rx := 3 })] } }, by decide +kernel⟩,
   ⟨27, 1166, 200, { reason := 1, start := 0, temp := 0, delta := 0, todo := [{ lane := 1166, method := 2 }, { lane := 1167, method := 2 }] }, { lane := 1166, method := 2 }, { up with ln := { lanes := [(1166, { measuring := true })], groups := [(27, { run := some { reason := 1, start := 0, temp := 0, delta := 0, todo := [{ lane := 1166, method := 2 }, { lane := 1167, method := 2 }] } })] } }, by decide +kernel⟩,
   ⟨27, 1166, 200, { reason := 1, start := 0, temp := 0, delta := 0, todo := [{ lane := 1166, method := 2 }] }, { lane := 1166, method := 2 }, { up with ln := { lanes := [(1166, { measuring := true })], groups := [(27, { run := some { reason := 1, start := 0, temp := 0, delta := 0, todo := [{ lane := 1166, method := 2 }] } })] } }, by decide +kernel⟩,
   ⟨0, 1167, 0, 7, [], up, by decide +kernel⟩,
   ⟨27, 0, 0, 7, [], up, by decide +kernel⟩,
   ⟨27, 1999, [], { reason := 1, start := 0, temp := 0, delta := 0, todo := [{ lane := 1166, method := 1, slices := 7 }] }, { lane := 1166, method := 1, slices := 7 }, { up with ln := { groups := [(27, { run := some { reason := 1, start := 0, temp := 0, delta := 0, todo := [{ lane := 1166, method := 1, slices := 7 }] } })] } }, by decide +kernel⟩,
   ⟨27, 2000, [], { reason := 1, start := 0, temp := 0, delta := 0, todo := [{ lane := 1166, method := 1, slices := 7 }] }, { lane := 1166, method := 1, slices := 7 }, { up with ln := { groups := [(27, { run := some { reason := 1, start := 0, temp := 0, delta := 0, todo := [{ lane := 1166, method := 1, slices := 7 }] } })] } }, by decide +kernel⟩,
   ⟨27, up, by decide +kernel⟩,
   ⟨27, 9, flight 0x502, flying 0x502 { up.setP P.LN_CAL_STATE 27 3 with ln := { groups := [(27, { tickets := [9] })] } }, by decide +kernel⟩,
   ⟨cmd 4 28, up, by decide +kernel⟩,
   ⟨cmd 4 27, up.setP P.LN_CAL_STATE 27 2, by decide +kernel⟩,
   ⟨cmd 4 (27 ||| 1 <<< 8), up, by decide +kernel⟩⟩

/-- O37: each clause of LaneCommandsAndPatterns has an input. -/
theorem test_hypotheses_LaneCommandsAndPatterns :
  (∃ (c : Cmd) (k : ℕ) (n : ℕ) (s : Machine.State), s.accepts false 1281 c ∧ c.operands 4 4261412864 ∧ k = c.f 0 16 ∧ n = c.f 16 8 ∧ (n = 0 ∨ 5 < n ∨ 1168 < k + n))
  ∧ (∃ (c : Cmd) (k : ℕ) (n : ℕ) (s : Machine.State), s.accepts false 1281 c ∧ c.operands 4 4261412864 ∧ k = c.f 0 16 ∧ n = c.f 16 8 ∧ 1 ≤ n ∧ n ≤ 5 ∧ k + n ≤ 1168 ∧ (∀ i < n, s.laneRecord (k + i) < 2 ^ 384))
  ∧ (∃ (k : ℕ) (s : Machine.State), k < 1168 ∧ (s.lane k).tx < 4 ∧ (s.lane k).rx < 4 ∧ (s.lane k).lock < 4 ∧ (s.lane k).measuring = false ∧ (s.lane k).gen = 0 ∧ (s.lane k).chk = 0)
  ∧ (∃ (c : Cmd) (k : ℕ) (s : Machine.State), s.accepts false 1284 c ∧ c.operands 12 79228157791897854728135507968 ∧ k = c.f 0 16 ∧ (1168 ≤ k ∨ 4 < c.f 16 3 ∨ 4 < c.f 20 3 ∨ 1 < c.f 24 2))
  ∧ (∃ (c : Cmd) (k : ℕ) (s : Machine.State), s.accepts false 1284 c ∧ c.operands 12 79228157791897854728135507968 ∧ k = c.f 0 16 ∧ k < 1168 ∧ c.f 16 3 ≤ 4 ∧ c.f 20 3 ≤ 4 ∧ c.f 24 2 ≤ 1 ∧ s.laneInUse k = true ∧ s.getP P.LN_CAL_STATE (laneGroupOf k) ≠ 2)
  ∧ (∃ (c : Cmd) (k : ℕ) (s : Machine.State), s.accepts false 1284 c ∧ c.operands 12 79228157791897854728135507968 ∧ k = c.f 0 16 ∧ k < 1168 ∧ c.f 16 3 ≤ 4 ∧ c.f 20 3 ≤ 4 ∧ c.f 24 2 ≤ 1 ∧ s.getP P.LN_CAL_STATE (laneGroupOf k) = 2)
  ∧ (∃ (c : Cmd) (k : ℕ) (s : Machine.State), s.accepts false 1284 c ∧ c.operands 12 79228157791897854728135507968 ∧ k = c.f 0 16 ∧ k < 1168 ∧ c.f 16 3 ≤ 4 ∧ c.f 20 3 ≤ 4 ∧ c.f 24 2 ≤ 1 ∧ s.laneInUse k = false ∧ s.getP P.LN_CAL_STATE (laneGroupOf k) ≠ 2)
  ∧ (∃ (c : Cmd) (k : ℕ) (s : Machine.State), s.accepts false 1285 c ∧ c.operands 4 4294836224 ∧ k = c.f 0 16 ∧ 1168 ≤ k)
  ∧ (∃ (c : Cmd) (k : ℕ) (s : Machine.State), s.accepts false 1285 c ∧ c.operands 4 4294836224 ∧ k = c.f 0 16 ∧ k < 1168 ∧ (s.lane k).chk < 2 ^ 24 ∧ (s.lane k).compared < 2 ^ 64 ∧ (s.lane k).errors < 2 ^ 32)
  ∧ (∃ (k : ℕ) (b : Bool) (l : List Bool) (r : List Bool) (s : Machine.State), k < 1168 ∧ (s.lane k).chk = 0)
  ∧ (∃ (k : ℕ) (b : Bool) (w : Bool) (s : Machine.State), k < 1168 ∧ (s.lane k).chk ≠ 0 ∧ (s.lane k).loopback ≠ 1 ∧ w = patternBit (s.lane k).chk (s.lane k).user (s.lane k).pat.ref ∧ (s.lane k).sync = true ∧ popcount ((2 * (s.lane k).pat.hist + b2n (w != b)) % 2 ^ 128) 128 < 32)
  ∧ (∃ (k : ℕ) (b : Bool) (w : Bool) (s : Machine.State), k < 1168 ∧ (s.lane k).chk ≠ 0 ∧ (s.lane k).loopback ≠ 1 ∧ w = patternBit (s.lane k).chk (s.lane k).user (s.lane k).pat.ref ∧ (s.lane k).sync = true ∧ 32 ≤ popcount ((2 * (s.lane k).pat.hist + b2n (w != b)) % 2 ^ 128) 128)
  ∧ (∃ (k : ℕ) (b : Bool) (w : Bool) (s : Machine.State), k < 1168 ∧ (s.lane k).chk ≠ 0 ∧ (s.lane k).loopback ≠ 1 ∧ w = patternBit (s.lane k).chk (s.lane k).user (s.lane k).pat.ref ∧ (s.lane k).sync = false ∧ (s.lane k).chk < 4 ∧ (s.lane k).pat.seen = seedBits (s.lane k).chk ∧ (s.lane k).pat.run = 63 ∧ w = b)
  ∧ (∃ (c : Cmd) (k : ℕ) (n : ℕ) (s : Machine.State), s.accepts (c.ops.testBit 24) 1286 c ∧ c.operands 4 4261412864 ∧ k = c.f 0 16 ∧ n = c.f 16 8 ∧ (1168 ≤ k ∨ n = 0 ∨ 64 < n ∨ c.ops.testBit 24 = false ∧ (s.lane k).gen = 0))
  ∧ (∃ (c : Cmd) (k : ℕ) (n : ℕ) (s : Machine.State), s.accepts (c.ops.testBit 24) 1286 c ∧ c.operands 4 4261412864 ∧ k = c.f 0 16 ∧ n = c.f 16 8 ∧ k < 1168 ∧ 1 ≤ n ∧ n ≤ 64 ∧ (c.ops.testBit 24 = true ∨ (s.lane k).gen ≠ 0))
  ∧ (∃ (c : Cmd) (k : ℕ) (v : ℕ) (s : Machine.State), s.accepts false 1287 c ∧ c.operands 4 4278190080 ∧ k = c.f 0 16 ∧ v = c.f 16 8 ∧ (1168 ≤ k ∨ 7 < v ∧ v ≠ 255))
  ∧ (∃ (c : Cmd) (k : ℕ) (v : ℕ) (s : Machine.State), s.accepts false 1287 c ∧ c.operands 4 4278190080 ∧ k = c.f 0 16 ∧ v = c.f 16 8 ∧ k < 1168 ∧ (v ≤ 7 ∨ v = 255) ∧ c.immediate = false)
  ∧ (∃ (c : Cmd) (k : ℕ) (v : ℕ) (s : Machine.State), s.accepts false 1287 c ∧ c.operands 4 4278190080 ∧ k = c.f 0 16 ∧ v = c.f 16 8 ∧ k < 1168 ∧ (v ≤ 7 ∨ v = 255) ∧ c.immediate = true) :=
  ⟨⟨cmd 4 (1167 ||| 2 <<< 16), 1167, 2, up, by decide +kernel⟩,
   ⟨cmd 4 (1163 ||| 5 <<< 16), 1163, 5, up, by decide +kernel⟩,
   ⟨1167, up, by decide +kernel⟩,
   ⟨cmd 12 1168, 1168, up, by decide +kernel⟩,
   ⟨cmd 12 0, 0, loopUp 2 {} [], by decide +kernel⟩,
   ⟨cmd 12 (1167 ||| 4 <<< 16 ||| 4 <<< 20 ||| 1 <<< 24), 1167, up.setP P.LN_CAL_STATE 27 2, by decide +kernel⟩,
   ⟨cmd 12 (1167 ||| 4 <<< 16 ||| 4 <<< 20 ||| 1 <<< 24), 1167, up, by decide +kernel⟩,
   ⟨cmd 4 1168, 1168, up, by decide +kernel⟩,
   ⟨cmd 4 1167, 1167, up, by decide +kernel⟩,
   ⟨1167, true, [false], [true], up, by decide +kernel⟩,
   ⟨1167, true, false, laneUp 1167 { chk := 1, sync := true, pat := { hist := 1 } }, by decide +kernel⟩,
   ⟨1167, true, false, laneUp 1167 { chk := 3, sync := true, pat := { hist := 0x7FFFFFFF } }, by decide +kernel⟩,
   ⟨1167, true, true, laneUp 1167 { chk := 1, pat := { ref := 64, seen := 7, run := 63 } }, by decide +kernel⟩,
   ⟨cmd 4 (1167 ||| 65 <<< 16), 1167, 65, up, by decide +kernel⟩,
   ⟨cmd 4 (1167 ||| 64 <<< 16 ||| 1 <<< 24), 1167, 64, up, by decide +kernel⟩,
   ⟨cmd 4 (1167 ||| 8 <<< 16), 1167, 8, up, by decide +kernel⟩,
   ⟨cmd 4 (1167 ||| 255 <<< 16), 1167, 255, up, by decide +kernel⟩,
   ⟨{ cmd 4 (1167 ||| 7 <<< 16) with flags := 4 }, 1167, 7, up, by decide +kernel⟩⟩

/-- O38: each clause of HostBuffersAreAllocatedAndMoved has an input. -/
theorem test_hypotheses_HostBuffersAreAllocatedAndMoved :
  (∃ (c : Cmd) (n : ℕ) (a : ℕ) (s : Machine.State), s.accepts false 1537 c ∧ c.operands 12 4294967040 ∧ (c.f 0 8 = 2 ∨ c.f 0 8 = 3) ∧ c.f 32 64 ≠ 0 ∧ n = cdiv (c.f 32 64) pageBytes ∧ (c.win < 64 → s.getP P.MEM_WINDOW_USED c.win + 2 * n ≤ s.getP P.MEM_WINDOW_QUOTA c.win) ∧ s.carveUsed (c.f 0 8) + 2 * n ≤ s.getP P.MEM_CARVE_QUOTA (c.f 0 8) ∧ s.pagesFree n = true ∧ s.placeBuffer (c.f 0 8) (n * pageBytes) = some a)
  ∧ (∃ (c : Cmd) (s : Machine.State), s.accepts false 1537 c ∧ c.operands 12 4294967040 ∧ c.win < 64 ∧ (c.f 0 8 = 2 ∨ c.f 0 8 = 3) ∧ c.f 32 64 ≠ 0 ∧ s.getP P.MEM_WINDOW_QUOTA c.win < s.getP P.MEM_WINDOW_USED c.win + 2 * cdiv (c.f 32 64) pageBytes)
  ∧ (∃ (c : Cmd) (s : Machine.State), s.accepts false 1537 c ∧ c.operands 12 4294967040 ∧ (c.f 0 8 ≠ 2 ∧ c.f 0 8 ≠ 3 ∨ c.f 32 64 = 0))
  ∧ (∃ (c : Cmd) (s : Machine.State), s.accepts false 1538 c ∧ c.operands 8 0 ∧ List.find? (fun b => b.base == c.f 0 64 && b.window.isSome) s.dram.buffers = none)
  ∧ (∃ (c : Cmd) (s : Machine.State) (b : Buffer), s.accepts false 1538 c ∧ c.operands 8 0 ∧ List.find? (fun b => b.base == c.f 0 64 && b.window.isSome) s.dram.buffers = some b ∧ b.window ≠ some c.win ∧ ¬s.privilegedClient c)
  ∧ (∃ (c : Cmd) (s : Machine.State) (b : Buffer), s.accepts false 1538 c ∧ c.operands 8 0 ∧ List.find? (fun b => b.base == c.f 0 64 && b.window.isSome) s.dram.buffers = some b ∧ b.window = some c.win ∧ s.bufferBusy b = true)
  ∧ (∃ (c : Cmd) (s : Machine.State) (b : Buffer), s.accepts false 1538 c ∧ c.operands 8 0 ∧ List.find? (fun b => b.base == c.f 0 64 && b.window.isSome) s.dram.buffers = some b ∧ b.window = some c.win ∧ s.bufferBusy b = false)
  ∧ (∃ (c : Cmd) (a : ℕ) (h : ℕ) (n : ℕ) (b : Buffer) (s : Machine.State), c.host = [] ∧ c.operands 20 0 ∧ a = c.f 0 64 ∧ h = c.f 64 64 ∧ n = c.f 128 32 ∧ h ≠ 0 ∧ 1 ≤ n ∧ n ≤ 16777216 ∧ s.hostBuffer a n = some b ∧ b.window = some c.win ∧ c.win < 64 ∧ s.dram.flaws = [] ∧ s.accepts false 1539 c ∧ s.hostGood h n = n)
  ∧ (∃ (c : Cmd) (a : ℕ) (h : ℕ) (n : ℕ) (b : Buffer) (s : Machine.State), c.host = [] ∧ c.operands 20 0 ∧ a = c.f 0 64 ∧ h = c.f 64 64 ∧ n = c.f 128 32 ∧ h ≠ 0 ∧ 1 ≤ n ∧ n ≤ 16777216 ∧ s.hostBuffer a n = some b ∧ b.window = some c.win ∧ c.win < 64 ∧ s.dram.flaws = [] ∧ s.accepts false 1539 c ∧ s.hostGood h n < n)
  ∧ (∃ (c : Cmd) (a : ℕ) (h : ℕ) (n : ℕ) (b : Buffer) (s : Machine.State) (m : ℕ), c.host = [] ∧ c.operands 20 0 ∧ a = c.f 0 64 ∧ h = c.f 64 64 ∧ n = c.f 128 32 ∧ h ≠ 0 ∧ 1 ≤ n ∧ n ≤ 16777216 ∧ s.hostBuffer a n = some b ∧ b.window = some c.win ∧ c.win < 64 ∧ s.dram.flaws = [] ∧ s.accepts false 1540 c ∧ (s.firstPoison a n).getD n = m ∧ m ≤ n ∧ s.hostGood h m = m)
  ∧ (∃ (c : Cmd) (s : Machine.State), c.operands 20 0 ∧ (c.f 64 64 = 0 ∨ c.f 128 32 = 0 ∨ 16777216 < c.f 128 32) ∧ s.accepts false 1539 c ∧ c.win < 64)
  ∧ (∃ (c : Cmd) (s : Machine.State), c.operands 20 0 ∧ (c.f 64 64 = 0 ∨ c.f 128 32 = 0 ∨ 16777216 < c.f 128 32) ∧ s.accepts false 1540 c ∧ c.win < 64)
  ∧ (∃ (c : Cmd) (s : Machine.State), c.operands 20 0 ∧ c.f 64 64 ≠ 0 ∧ 1 ≤ c.f 128 32 ∧ c.f 128 32 ≤ 16777216 ∧ s.hostBuffer (c.f 0 64) (c.f 128 32) = none ∧ s.accepts false 1539 c ∧ c.win < 64)
  ∧ (∃ (c : Cmd) (s : Machine.State), c.operands 20 0 ∧ c.f 64 64 ≠ 0 ∧ 1 ≤ c.f 128 32 ∧ c.f 128 32 ≤ 16777216 ∧ s.hostBuffer (c.f 0 64) (c.f 128 32) = none ∧ s.accepts false 1540 c ∧ c.win < 64)
  ∧ (∃ (a : ℕ) (w : Bool) (s : Machine.State), s.mapped a = true)
  ∧ (∃ (a : ℕ) (w : Bool) (s : Machine.State), s.mapped a = false) :=
  ⟨⟨cmd 12 (2 ||| 0x200001 <<< 32), 2, carveWindow 2, up, by decide +kernel⟩,
   ⟨cmd 12 (3 ||| 0x200001 <<< 32), up.setP P.MEM_WINDOW_QUOTA 0 3, by decide +kernel⟩,
   ⟨cmd 12 (4 ||| 1 <<< 32), up, by decide +kernel⟩,
   ⟨cmd 8 (carveWindow 2), up, by decide +kernel⟩,
   ⟨{ cmd 8 (carveWindow 2) with win := 1 }, { up1 with dram := { buffers := [{ carve := 2, base := carveWindow 2, bytes := 0x200000, owner := .window 0, pages := [1024], order := 0 }] } }, { carve := 2, base := carveWindow 2, bytes := 0x200000, owner := .window 0, pages := [1024], order := 0 }, by decide +kernel⟩,
   ⟨cmd 8 (carveWindow 2), withP [(P.LY_BASE, 0, carveWindow 2)] { up with dram := { buffers := [{ carve := 2, base := carveWindow 2, bytes := 0x200000, owner := .window 0, pages := [1024], order := 0 }] } }, { carve := 2, base := carveWindow 2, bytes := 0x200000, owner := .window 0, pages := [1024], order := 0 }, by decide +kernel⟩,
   ⟨cmd 8 (carveWindow 2), { up with dram := { buffers := [{ carve := 2, base := carveWindow 2, bytes := 0x200000, owner := .window 0, pages := [1024], order := 0 }] } }, { carve := 2, base := carveWindow 2, bytes := 0x200000, owner := .window 0, pages := [1024], order := 0 }, by decide +kernel⟩,
   ⟨cmd 20 (carveWindow 2 ||| 0x40 <<< 64 ||| 4 <<< 128), carveWindow 2, 0x40, 4, { carve := 2, base := carveWindow 2, bytes := 0x200000, owner := .window 0, pages := [1024], order := 0 }, { up with dram := { buffers := [{ carve := 2, base := carveWindow 2, bytes := 0x200000, owner := .window 0, pages := [1024], order := 0 }] }, ctl := { up.ctl with hostMem := [(0x40, 9), (0x43, 7)], hostFault := [] } }, by decide +kernel⟩,
   ⟨cmd 20 (carveWindow 2 ||| 0x40 <<< 64 ||| 4 <<< 128), carveWindow 2, 0x40, 4, { carve := 2, base := carveWindow 2, bytes := 0x200000, owner := .window 0, pages := [1024], order := 0 }, { up with dram := { buffers := [{ carve := 2, base := carveWindow 2, bytes := 0x200000, owner := .window 0, pages := [1024], order := 0 }] }, ctl := { up.ctl with hostMem := [(0x40, 9), (0x43, 7)], hostFault := [(0x42, 1)] } }, by decide +kernel⟩,
   ⟨cmd 20 (carveWindow 2 ||| 0x40 <<< 64 ||| 4 <<< 128), carveWindow 2, 0x40, 4, { carve := 2, base := carveWindow 2, bytes := 0x200000, owner := .window 0, pages := [1024], order := 0 }, { up with dram := { buffers := [{ carve := 2, base := carveWindow 2, bytes := 0x200000, owner := .window 0, pages := [1024], order := 0 }] }, ctl := { up.ctl with hostMem := [(0x40, 9), (0x43, 7)], hostFault := [] } }, 4, by decide +kernel⟩,
   ⟨cmd 20 (64 <<< 64 ||| 0x1000001 <<< 128), up, by decide +kernel⟩,
   ⟨cmd 20 (64 <<< 64 ||| 0x1000001 <<< 128), up, by decide +kernel⟩,
   ⟨cmd 20 (64 <<< 64 ||| 0x1000000 <<< 128), up, by decide +kernel⟩,
   ⟨cmd 20 (64 <<< 64 ||| 0x1000000 <<< 128), up, by decide +kernel⟩,
   ⟨carveWindow 2 + 0x1FFFFF, true, { up with dram := { buffers := [{ carve := 2, base := carveWindow 2, bytes := 0x200000, owner := .window 0, pages := [1024], order := 0 }] } }, by decide +kernel⟩,
   ⟨0x80000000, false, up, by (have h : decide (0x80000000 < State.carve0MiB up * 0x100000) = false := decide_eq_false (by unfold State.carve0MiB; omega)); unfold State.mapped; rw [h]; decide +kernel⟩⟩

/-- O39: each clause of DramIsKept has an input. -/
theorem test_hypotheses_DramIsKept :
  (∃ (ch : ℕ) (b : ℕ) (r : ℕ) (w : List ℕ) (l : List ScrubFinding) (s : Machine.State), ch < 16 ∧ b < 16 ∧ w.length = 4)
  ∧ (∃ (ch : ℕ) (b : ℕ) (x : ℕ × ℕ × ℕ) (s : Machine.State), ch < 16 ∧ b < 16 ∧ List.find? (fun c => c.1 == ch && c.2.1 == b) s.dram.candidates = some x ∧ (List.filter (fun r => r.1 == ch && r.2.1 == b) s.dram.remap).length < 32)
  ∧ (∃ (ch : ℕ) (b : ℕ) (x : ℕ × ℕ × ℕ) (s : Machine.State), ch < 16 ∧ b < 16 ∧ List.find? (fun c => c.1 == ch && c.2.1 == b) s.dram.candidates = some x ∧ 32 ≤ (List.filter (fun r => r.1 == ch && r.2.1 == b) s.dram.remap).length)
  ∧ (∃ (ch : ℕ) (b : ℕ) (s : Machine.State), ch < 16 ∧ b < 16 ∧ List.find? (fun c => c.1 == ch && c.2.1 == b) s.dram.candidates = none)
  ∧ (∃ (t : ℕ) (s : Machine.State), s.dram.retrain = none ∧ s.dram.retrainDue ≠ 0 ∧ s.bgHeld 3 = false)
  ∧ (∃ (t : ℕ) (s : Machine.State), s.dram.retrain = none ∧ (s.dram.retrainDue = 0 ∨ s.bgHeld 3 = true))
  ∧ (∃ (t : ℕ) (s : Machine.State) (r : RetrainRun), s.dram.retrain = some r ∧ r.slices < 63)
  ∧ (∃ (t : ℕ) (s : Machine.State) (r : RetrainRun), s.dram.retrain = some r ∧ 63 ≤ r.slices)
  ∧ (∃ (n : ℕ) (l : List ScrubFinding) (s : Machine.State), s.bgHeld 7 = true)
  ∧ (∃ (n : ℕ) (s : Machine.State) (e : ScrubFinding), s.bgHeld 7 = false ∧ s.dram.patrolPos + n < patrolTotal ∧ e.chan < 16 ∧ s.poisoned e.addr = false ∧ e.uncorrectable = true)
  ∧ (∃ (n : ℕ) (s : Machine.State) (e : ScrubFinding), s.bgHeld 7 = false ∧ s.dram.patrolPos + n < patrolTotal ∧ e.chan < 16 ∧ s.poisoned e.addr = false ∧ e.uncorrectable = false)
  ∧ (∃ (n : ℕ) (s : Machine.State), s.bgHeld 7 = false ∧ patrolTotal ≤ s.dram.patrolPos + n) :=
  ⟨⟨15, 15, 7, [1, 2, 3, 4], [], up, by decide +kernel⟩,
   ⟨15, 15, (15, 15, 3), { up with dram := { candidates := [(15, 15, 3)] } }, by decide +kernel⟩,
   ⟨15, 15, (15, 15, 3), { up with dram := { candidates := [(15, 15, 3)], remap := List.replicate 32 (15, 15, 1) } }, by decide +kernel⟩,
   ⟨15, 15, up, by decide +kernel⟩,
   ⟨5000, { up with dram := { retrainDue := 5 } }, by decide +kernel⟩,
   ⟨5000, up, by decide +kernel⟩,
   ⟨5000, { up with dram := { retrain := some { mask := 1, reason := 0, start := 0, temp := 0, slices := 62 } } }, { mask := 1, reason := 0, start := 0, temp := 0, slices := 62 }, by decide +kernel⟩,
   ⟨5000, { up with dram := { retrain := some { mask := 1, reason := 0, start := 0, temp := 0, slices := 63 } } }, { mask := 1, reason := 0, start := 0, temp := 0, slices := 63 }, by decide +kernel⟩,
   ⟨16, [], up.setP P.BG_ENABLE 0 0, by decide +kernel⟩,
   ⟨16, up, { chan := 15, bank := 15, row := 3, granule := 4, addr := 100, uncorrectable := true }, by decide +kernel⟩,
   ⟨16, up, { chan := 15, bank := 15, row := 3, granule := 4, addr := 100, uncorrectable := false }, by decide +kernel⟩,
   ⟨patrolTotal, up, by decide +kernel⟩⟩

/-- O40: each clause of ExpandersAndRegionsComeAndGo has an input. -/
theorem test_hypotheses_ExpandersAndRegionsComeAndGo :
  (∃ (e : ExpanderInfo) (n : ℕ) (s : Machine.State), e.port < 4 ∧ (List.filter (fun m => s.getP P.CXL_EXP_STATE m != 0 && (s.expander m).port == e.port) (List.range 32)).length < 16 ∧ (s.setP P.CXL_PORT_LINK e.port e.link).slotFor e.serial = some n ∧ n < 32 ∧ s.getP P.CXL_EXP_STATE n = 0)
  ∧ (∃ (e : ExpanderInfo) (s : Machine.State), e.port < 4 ∧ ((s.setP P.CXL_PORT_LINK e.port e.link).slotFor e.serial = none ∨ 16 ≤ (List.filter (fun m => s.getP P.CXL_EXP_STATE m != 0 && (s.expander m).port == e.port) (List.range 32)).length))
  ∧ (∃ (n : ℕ) (s : Machine.State), n < 32 ∧ s.getP P.CXL_EXP_STATE n ≠ 1)
  ∧ (∃ (n : ℕ) (s : Machine.State), n < 32 ∧ s.getP P.CXL_EXP_STATE n = 1 ∧ s.regionsOf n = [])
  ∧ (∃ (n : ℕ) (s : Machine.State), n < 32 ∧ s.getP P.CXL_EXP_STATE n ≠ 0 ∧ s.regionsOf n = [] ∧ SMap.get (fun x => none) s.cxl.removals n = none ∧ (s.partner (expanderId n)).present = true)
  ∧ (∃ (n : ℕ) (r : ℕ) (s : Machine.State), n < 32 ∧ r < 32 ∧ s.getP P.CXL_EXP_STATE n ≠ 0 ∧ s.regionsOf n = [r] ∧ s.getP P.CXL_REGION_STATE r ≠ 0 ∧ s.binOn r = none)
  ∧ (∃ (n : ℕ) (l : List (ℕ × ℕ)) (s : Machine.State), n < 32 ∧ (s.getP P.CXL_EXP_STATE n ≠ 2 ∧ s.getP P.CXL_EXP_STATE n ≠ 3 ∨ s.bgHeld 4 = true))
  ∧ (∃ (n : ℕ) (a : ℕ) (m : ℕ) (s : Machine.State), n < 32 ∧ (s.getP P.CXL_EXP_STATE n = 2 ∨ s.getP P.CXL_EXP_STATE n = 3) ∧ s.bgHeld 4 = false ∧ s.regionAt a = none)
  ∧ (∃ (r : ℕ) (o : ℕ) (p : Bool) (s : Machine.State), r < 32 ∧ (s.bgHeld 8 = true ∨ (s.region r).persistent = false ∨ s.getP P.CXL_REGION_STATE r = 0 ∨ 4 ≤ s.getP P.CXL_REGION_STATE r ∨ s.getP P.CXL_REGION_SIZE r ≤ o))
  ∧ (∃ (r : ℕ) (o : ℕ) (s : Machine.State), r < 32 ∧ s.bgHeld 8 = false ∧ (s.region r).persistent = true ∧ 1 ≤ s.getP P.CXL_REGION_STATE r ∧ s.getP P.CXL_REGION_STATE r ≤ 3 ∧ o < s.getP P.CXL_REGION_SIZE r)
  ∧ (∃ (r : ℕ) (s : Machine.State), r < 32 ∧ (s.region r).persistent = false)
  ∧ (∃ (r : ℕ) (s : Machine.State), r < 32 ∧ (s.region r).persistent = true ∧ s.binOn r = none)
  ∧ (∃ (c : Cmd) (r : ℕ) (w : ℕ) (l : List ℕ) (s : Machine.State), s.accepts true 1552 c ∧ c.operands 16 4278254592 ∧ r = c.f 0 8 ∧ w = c.f 16 8 ∧ l = List.take w (List.map (fun i => c.f (64 + 8 * i) 8) (List.range 8)) ∧ r < 32 ∧ w ∈ [1, 2, 4, 8] ∧ c.f 32 32 ≠ 0 ∧ (∀ n ∈ l, n < 32) ∧ l.eraseDups.length = w ∧ (∀ (i : ℕ), w ≤ i → i < 8 → c.f (64 + 8 * i) 8 = 255) ∧ s.getP P.CXL_REGION_STATE r ≠ 0)
  ∧ (∃ (c : Cmd) (r : ℕ) (w : ℕ) (l : List ℕ) (s : Machine.State), s.accepts true 1552 c ∧ c.operands 16 4278254592 ∧ r = c.f 0 8 ∧ w = c.f 16 8 ∧ l = List.take w (List.map (fun i => c.f (64 + 8 * i) 8) (List.range 8)) ∧ r < 32 ∧ w ∈ [1, 2, 4, 8] ∧ c.f 32 32 ≠ 0 ∧ (∀ n ∈ l, n < 32) ∧ l.eraseDups.length = w ∧ (∀ (i : ℕ), w ≤ i → i < 8 → c.f (64 + 8 * i) 8 = 255) ∧ s.getP P.CXL_REGION_STATE r = 0 ∧ (∃ n ∈ l, s.getP P.CXL_EXP_STATE n ≠ 2))
  ∧ (∃ (c : Cmd) (r : ℕ) (w : ℕ) (l : List ℕ) (s : Machine.State), s.accepts true 1552 c ∧ c.operands 16 4278254592 ∧ r = c.f 0 8 ∧ w = c.f 16 8 ∧ l = List.take w (List.map (fun i => c.f (64 + 8 * i) 8) (List.range 8)) ∧ r < 32 ∧ w ∈ [1, 2, 4, 8] ∧ c.f 32 32 ≠ 0 ∧ (∀ n ∈ l, n < 32) ∧ l.eraseDups.length = w ∧ (∀ (i : ℕ), w ≤ i → i < 8 → c.f (64 + 8 * i) 8 = 255) ∧ s.getP P.CXL_REGION_STATE r = 0 ∧ (∀ n ∈ l, s.getP P.CXL_EXP_STATE n = 2) ∧ s.cxl.regions = [] ∧ s.binOn r = none ∧ (∀ n ∈ l, (c.f 32 32 ≤ if c.f 8 1 = 1 then (s.expander n).pers else (s.expander n).vol) ∧ ((s.expander n).foreign = false ∨ c.f 9 1 = 1) ∧ (c.f 8 1 = 1 → (s.expander n).gpf = true ∧ (s.expander n).lsa = true ∧ (s.expander n).phase2Ms ≤ 8)) ∧ w * c.f 32 32 * 1073741824 ≤ 35184372088832 ∧ (c.f 8 1 = 1 → s.getP P.CXL_PERSIST_TOTAL 0 + w * c.f 32 32 * 1073741824 ≤ 17592186044416))
  ∧ (∃ (c : Cmd) (s : Machine.State), s.accepts true 1552 c ∧ c.operands 16 4278254592 ∧ (32 ≤ c.f 0 8 ∨ c.f 32 32 = 0 ∨ c.f 16 8 ∉ [1, 2, 4, 8]))
  ∧ (∃ (c : Cmd) (r : ℕ) (s : Machine.State), c.operands 1 0 ∧ r = c.f 0 8 ∧ 32 ≤ r ∧ s.accepts true 1553 c)
  ∧ (∃ (c : Cmd) (r : ℕ) (s : Machine.State), c.operands 1 0 ∧ r = c.f 0 8 ∧ 32 ≤ r ∧ s.accepts true 1554 c)
  ∧ (∃ (c : Cmd) (r : ℕ) (s : Machine.State), c.operands 1 0 ∧ r = c.f 0 8 ∧ r < 32 ∧ s.accepts true 1553 c ∧ s.getP P.CXL_REGION_STATE r = 0)
  ∧ (∃ (c : Cmd) (r : ℕ) (s : Machine.State), c.operands 1 0 ∧ r = c.f 0 8 ∧ r < 32 ∧ s.accepts true 1553 c ∧ s.getP P.CXL_REGION_STATE r ≠ 0 ∧ (s.getP P.CXL_REGION_STATE r = 3 ∨ s.binOn r ≠ none))
  ∧ (∃ (c : Cmd) (r : ℕ) (s : Machine.State), c.operands 1 0 ∧ r = c.f 0 8 ∧ r < 32 ∧ s.accepts true 1553 c ∧ (s.getP P.CXL_REGION_STATE r = 1 ∨ s.getP P.CXL_REGION_STATE r = 2) ∧ s.binOn r = none)
  ∧ (∃ (c : Cmd) (r : ℕ) (s : Machine.State), c.operands 1 0 ∧ r = c.f 0 8 ∧ r < 32 ∧ s.accepts true 1554 c ∧ s.getP P.CXL_REGION_STATE r ≠ 2)
  ∧ (∃ (c : Cmd) (r : ℕ) (s : Machine.State), c.operands 1 0 ∧ r = c.f 0 8 ∧ r < 32 ∧ s.accepts true 1554 c ∧ s.getP P.CXL_REGION_STATE r = 2 ∧ s.binOn r = none) :=
  ⟨⟨{ serial := 77, port := 3, patrol := true }, 31, { up with cxl := { exps := (List.range 31).map fun i => (i, { assigned := true, serial := i }) } }, by decide +kernel⟩,
   ⟨{ serial := 77, port := 3 }, { withP ((List.range 32).map fun i => (P.CXL_EXP_STATE, i, 2)) up with cxl := { exps := (List.range 32).map fun i => (i, { assigned := true, serial := i }) } }, by decide +kernel⟩,
   ⟨31, up.setP P.CXL_EXP_STATE 31 2, by decide +kernel⟩,
   ⟨31, up.setP P.CXL_EXP_STATE 31 1, by decide +kernel⟩,
   ⟨31, (up.setP P.CXL_EXP_STATE 31 2).setPartner (expanderId 31) { present := true }, by decide +kernel⟩,
   ⟨31, 31, { withP [(P.CXL_EXP_STATE, 31, 2), (P.CXL_REGION_STATE, 31, 1)] up with cxl := { regions := [(31, { slots := [31] })] } }, by decide +kernel⟩,
   ⟨31, [(64, 64)], up, by decide +kernel⟩,
   ⟨31, 0, 64, up.setP P.CXL_EXP_STATE 31 3, by decide +kernel⟩,
   ⟨31, 0, true, up, by decide +kernel⟩,
   ⟨31, 63, { withP [(P.CXL_REGION_SIZE, 31, 64), (P.CXL_REGION_STATE, 31, 3)] up with cxl := { regions := [(31, { persistent := true })] } }, by decide +kernel⟩,
   ⟨31, up, by decide +kernel⟩,
   ⟨31, { up with cxl := { regions := [(31, { persistent := true, verifyPos := 9 })] } }, by decide +kernel⟩,
   ⟨cmd 16 (31 ||| 1 <<< 8 ||| 1 <<< 16 ||| 8 <<< 32 ||| 0xFFFFFFFFFFFFFF1F <<< 64), 31, 1, [31], up.setP P.CXL_REGION_STATE 31 1, by refine ⟨?_, ?_, ?_, ?_, ?_, ?_, ?_, ?_, ?_, ?_, ?_, ?_⟩ <;> first | exact (by intro i h1 h2; interval_cases i <;> decide +kernel) | decide +kernel⟩,
   ⟨cmd 16 (31 ||| 1 <<< 8 ||| 1 <<< 16 ||| 8 <<< 32 ||| 0xFFFFFFFFFFFFFF1F <<< 64), 31, 1, [31], up, by refine ⟨?_, ?_, ?_, ?_, ?_, ?_, ?_, ?_, ?_, ?_, ?_, ?_, ?_⟩ <;> first | exact (by intro i h1 h2; interval_cases i <;> decide +kernel) | decide +kernel⟩,
   ⟨cmd 16 (31 ||| 0 <<< 8 ||| 8 <<< 16 ||| 4096 <<< 32 ||| 0x18191A1B1C1D1E1F <<< 64), 31, 8, [31, 30, 29, 28, 27, 26, 25, 24], { withP ((List.range 32).map fun i => (P.CXL_EXP_STATE, i, 2)) up with cxl := { exps := (List.range 32).map fun i => (i, { vol := 4096 }) } }, by refine ⟨?_, ?_, ?_, ?_, ?_, ?_, ?_, ?_, ?_, ?_, ?_, ?_, ?_, ?_, ?_, ?_, ?_, ?_⟩ <;> first | exact (by intro i h1 h2; interval_cases i <;> decide +kernel) | decide +kernel⟩,
   ⟨cmd 16 (32 ||| 0 <<< 8 ||| 1 <<< 16 ||| 8 <<< 32 ||| 0xFFFFFFFFFFFFFF1F <<< 64), up, by decide +kernel⟩,
   ⟨cmd 1 32, 32, up, by decide +kernel⟩,
   ⟨cmd 1 32, 32, up, by decide +kernel⟩,
   ⟨cmd 1 31, 31, up, by decide +kernel⟩,
   ⟨cmd 1 31, 31, up.setP P.CXL_REGION_STATE 31 3, by decide +kernel⟩,
   ⟨cmd 1 31, 31, { up.setP P.CXL_REGION_STATE 31 2 with cxl := { regions := [(31, { slots := [31], persistent := true, gib := 8 })] } }, by decide +kernel⟩,
   ⟨cmd 1 31, 31, up.setP P.CXL_REGION_STATE 31 1, by decide +kernel⟩,
   ⟨cmd 1 31, 31, up.setP P.CXL_REGION_STATE 31 2, by decide +kernel⟩⟩

/-- O41: each clause of FlushesAndRemovalsRunTheirSteps has an input. -/
theorem test_hypotheses_FlushesAndRemovalsRunTheirSteps :
  (∃ (g : ℕ) (s : Machine.State), g ≠ 3 ∧ s.cxl.gpf = none ∧ s.flushWanted g = true)
  ∧ (∃ (g : ℕ) (s : Machine.State), (s.cxl.gpf ≠ none ∨ s.flushWanted g = false))
  ∧ (∃ (t : ℕ) (s : Machine.State), s.cxl.gpf = none)
  ∧ (∃ (t : ℕ) (s : Machine.State) (g : Gpf), s.cxl.gpf = some g ∧ g.phase2 = false)
  ∧ (∃ (t : ℕ) (late : List ℕ) (s : Machine.State), s.cxl.gpf = none)
  ∧ (∃ (c : Cmd) (s : Machine.State), s.accepts true 1556 c ∧ c.operands 0 0)
  ∧ (∃ (t : ℕ) (tk : ℕ) (us : ℕ) (g : Gpf) (f : Flight) (s : Machine.State), s.cxl.gpf = some g ∧ g.trigger = 2 ∧ s.cxl.flushers = [tk] ∧ s.awaits tk f ∧ s.fr.bins = [] ∧ us = (max s.now (min t (g.flushAt + 8000000)) - g.start) / 1000 ∧ us < 2 ^ 32)
  ∧ (∃ (t : ℕ) (n : ℕ) (r : ℕ) (g : Gpf) (m : Removal) (s : Machine.State), n < 32 ∧ r < 32 ∧ s.cxl.gpf = some g ∧ g.trigger = 3 ∧ g.slots = [n] ∧ s.fr.bins = [] ∧ SMap.get (fun x => none) s.cxl.removals n = some m ∧ s.regionsOf n = [r] ∧ s.getP P.CXL_REGION_STATE r = 3)
  ∧ (∃ (c : Cmd) (n : ℕ) (s : Machine.State), s.accepts true 1555 c ∧ c.operands 2 0 ∧ n = c.f 0 8 ∧ (32 ≤ n ∨ 2 < c.f 8 8 ∧ c.f 8 8 ≠ 255))
  ∧ (∃ (c : Cmd) (n : ℕ) (s : Machine.State), s.accepts true 1555 c ∧ c.operands 2 0 ∧ n = c.f 0 8 ∧ n < 32 ∧ (c.f 8 8 ≤ 2 ∨ c.f 8 8 = 255) ∧ s.getP P.CXL_EXP_STATE n ≠ 2)
  ∧ (∃ (c : Cmd) (n : ℕ) (s : Machine.State), s.accepts true 1555 c ∧ c.operands 2 0 ∧ n = c.f 0 8 ∧ n < 32 ∧ (c.f 8 8 ≤ 2 ∨ c.f 8 8 = 255) ∧ s.getP P.CXL_EXP_STATE n = 2 ∧ s.regionsOf n = [])
  ∧ (∃ (n : ℕ) (s : Machine.State), n < 32 ∧ SMap.get (fun x => none) s.cxl.removals n = none)
  ∧ (∃ (n : ℕ) (m : Removal) (s : Machine.State), n < 32 ∧ SMap.get (fun x => none) s.cxl.removals n = some m ∧ s.slotBins n = [] ∧ m.step ≤ 2)
  ∧ (∃ (n : ℕ) (m : Removal) (s : Machine.State), n < 32 ∧ SMap.get (fun x => none) s.cxl.removals n = some m ∧ s.slotBins n = [] ∧ m.step = 3)
  ∧ (∃ (n : ℕ) (tk : ℕ) (m : Removal) (f : Flight) (s : Machine.State), n < 32 ∧ SMap.get (fun x => none) s.cxl.removals n = some m ∧ m.step = 5 ∧ m.ticket = some tk ∧ s.awaits tk f ∧ (s.partner (expanderId n)).present = true)
  ∧ (∃ (n : ℕ) (s : Machine.State), n < 32 ∧ s.cxl.blinking.testBit n = false ∧ s.getP P.CXL_EXP_STATE n = 2)
  ∧ (∃ (n : ℕ) (s : Machine.State), n < 32 ∧ s.cxl.blinking.testBit n = false ∧ s.getP P.CXL_EXP_STATE n ≠ 2)
  ∧ (∃ (n : ℕ) (s : Machine.State), n < 32 ∧ s.cxl.blinking.testBit n = true ∧ s.getP P.CXL_EXP_STATE n = 2 ∧ s.regionsOf n = []) :=
  ⟨⟨2, { up with cxl := { flushers := [9] } }, by decide +kernel⟩,
   ⟨2, up, by decide +kernel⟩,
   ⟨5000, up, by decide +kernel⟩,
   ⟨5000, { up with cxl := { gpf := some { trigger := 2, start := 0, slots := [] } } }, { trigger := 2, start := 0, slots := [] }, by decide +kernel⟩,
   ⟨5000, [], up, by decide +kernel⟩,
   ⟨cmd 0 0, up, by decide +kernel⟩,
   ⟨5000, 9, 5, { trigger := 2, start := 0, slots := [], phase2 := true }, flight 0x614, flying 0x614 { up with cxl := { gpf := some { trigger := 2, start := 0, slots := [], phase2 := true }, flushers := [9] } }, by decide +kernel⟩,
   ⟨5000, 31, 31, { trigger := 3, start := 0, slots := [31] }, { policy := 0, step := 4 }, { up.setP P.CXL_REGION_STATE 31 3 with cxl := { removals := [(31, some { policy := 0, step := 4 })], gpf := some { trigger := 3, start := 0, slots := [31] }, regions := [(31, { slots := [31] })] } }, by decide +kernel⟩,
   ⟨cmd 2 32, 32, up, by decide +kernel⟩,
   ⟨cmd 2 (31 ||| 255 <<< 8), 31, up, by decide +kernel⟩,
   ⟨cmd 2 (31 ||| 2 <<< 8), 31, up.setP P.CXL_EXP_STATE 31 2, by decide +kernel⟩,
   ⟨31, up, by decide +kernel⟩,
   ⟨31, { policy := 0, step := 2 }, { up with cxl := { removals := [(31, some { policy := 0, step := 2 })] } }, by decide +kernel⟩,
   ⟨31, { policy := 0, step := 3 }, { up with cxl := { removals := [(31, some { policy := 0, step := 3 })] } }, by decide +kernel⟩,
   ⟨31, 9, { policy := 0, step := 5, ticket := some 9, relocated := 3, dropped := 1, gib := 64 }, flight 0x613, (flying 0x613 { up.setP P.CXL_EXP_STATE 31 3 with cxl := { removals := [(31, some { policy := 0, step := 5, ticket := some 9, relocated := 3, dropped := 1, gib := 64 })] } }).setPartner (expanderId 31) { present := true }, by decide +kernel⟩,
   ⟨31, up.setP P.CXL_EXP_STATE 31 2, by decide +kernel⟩,
   ⟨31, up, by decide +kernel⟩,
   ⟨31, { up.setP P.CXL_EXP_STATE 31 2 with cxl := { blinking := 0x80000000 } }, by decide +kernel⟩⟩

/-- O42: each clause of FramesAreStoredAndDrained has an input. -/
theorem test_hypotheses_FramesAreStoredAndDrained :
  (∃ (p : ℕ) (s : Machine.State), p < 8 ∧ List.find? (fun g => g.source == p && g.phase == 1) s.fr.wb = none)
  ∧ (∃ (p : ℕ) (b : ℕ) (n : ℕ) (f : WbFrame) (x : Bin) (c : Clip) (s : Machine.State), p < 8 ∧ List.find? (fun g => g.source == p && g.phase == 1) s.fr.wb = some f ∧ f.bins = [b] ∧ s.bin? b = some x ∧ x.clips = [c] ∧ c.phase = 0 ∧ x.runs = [] ∧ x.held ≤ x.quota ∧ n = 32 + f.body.length ∧ x.woff + n ≤ segBytes)
  ∧ (∃ (p : ℕ) (b : ℕ) (f : WbFrame) (x : Bin) (s : Machine.State), p < 8 ∧ List.find? (fun g => g.source == p && g.phase == 1) s.fr.wb = some f ∧ f.bins = [b] ∧ s.bin? b = some x ∧ (∀ c ∈ x.clips, c.phase ≠ 1) ∧ (∀ r ∈ x.runs, r.source ≠ p ∨ r.reason ≠ 3))
  ∧ (∃ (s : Machine.State), s.fr.wb ≠ [] ∧ (∀ g ∈ s.fr.wb, g.phase ≠ 2))
  ∧ (∃ (s : Machine.State), s.fr.wb = [])
  ∧ (∃ (b : ℕ) (f : WbFrame) (x : Bin) (s : Machine.State), List.find? (fun g => g.phase == 2) s.fr.wb = some f ∧ f.bins = [b] ∧ s.bin? b = some x ∧ s.dram.flaws = [] ∧ s.firstPoison f.addr f.size = none)
  ∧ (∃ (b : ℕ) (f : WbFrame) (x : Bin) (s : Machine.State) (o : ℕ), List.find? (fun g => g.phase == 2) s.fr.wb = some f ∧ f.bins = [b] ∧ s.bin? b = some x ∧ s.dram.flaws = [] ∧ s.firstPoison f.addr f.size = some o ∧ f.source < 8 ∧ (∀ r ∈ x.runs, r.source ≠ f.source ∨ r.reason ≠ 7))
  ∧ (∃ (b : ℕ) (s : Machine.State), b < 64 ∧ (s.bin? b = none ∨ s.binState b ≠ 3 ∧ s.binState b ≠ 4))
  ∧ (∃ (b : ℕ) (x : Bin) (s : Machine.State), b < 64 ∧ (s.binState b = 3 ∨ s.binState b = 4) ∧ s.bin? b = some x) :=
  ⟨⟨7, up, by decide +kernel⟩,
   ⟨7, 63, 35, { id := 1, source := 7, typ := 1, tag := 5, size := 8, bins := [63], phase := 1, body := [1, 2, 3] }, { segs := 8, wseg := 2, nextClip := 2, clips := [{ id := 1, first := 5, last := 5 }], woff := segBytes - 35 }, { id := 1, first := 5, last := 5 }, { up.setP P.FR_BIN_STATE 63 4 with fr := { bins := [(63, some { segs := 8, wseg := 2, nextClip := 2, clips := [{ id := 1, first := 5, last := 5 }], woff := segBytes - 35 })], wb := [{ id := 1, source := 7, typ := 1, tag := 5, size := 8, bins := [63], phase := 1, body := [1, 2, 3] }] } }, by decide +kernel⟩,
   ⟨7, 63, { id := 1, source := 7, typ := 1, tag := 5, size := 8, bins := [63], phase := 1, body := [1, 2, 3] }, { segs := 8, wseg := 2 }, { up.setP P.FR_BIN_STATE 63 4 with fr := { bins := [(63, some { segs := 8, wseg := 2 })], wb := [{ id := 1, source := 7, typ := 1, tag := 5, size := 8, bins := [63], phase := 1, body := [1, 2, 3] }] } }, by decide +kernel⟩,
   ⟨{ up with fr := { wb := [{ id := 1, source := 7, typ := 1, tag := 5, size := 8, bins := [63], phase := 1, body := [1, 2, 3] }] } }, by decide +kernel⟩,
   ⟨up, by decide +kernel⟩,
   ⟨63, { id := 1, source := 7, typ := 1, tag := 5, size := 8, bins := [63], phase := 2, body := [1, 2, 3] }, { segs := 8, wseg := 2 }, { up.setP P.FR_BIN_STATE 63 4 with fr := { bins := [(63, some { segs := 8, wseg := 2 })], wb := [{ id := 1, source := 7, typ := 1, tag := 5, size := 8, bins := [63], phase := 2, body := [1, 2, 3] }] } }, by decide +kernel⟩,
   ⟨63, { id := 1, source := 7, typ := 1, tag := 5, size := 8, bins := [63], phase := 2, body := [1, 2, 3] }, { segs := 8, wseg := 2 }, { up.setP P.FR_BIN_STATE 63 4 with fr := { bins := [(63, some { segs := 8, wseg := 2 })], wb := [{ id := 1, source := 7, typ := 1, tag := 5, size := 8, bins := [63], phase := 2, body := [1, 2, 3] }] }, dram := { poison := [(7, 1)] } }, 7, by decide +kernel⟩,
   ⟨63, up, by decide +kernel⟩,
   ⟨63, { segs := 8, wseg := 2 }, { up.setP P.FR_BIN_STATE 63 3 with fr := { bins := [(63, some { segs := 8, wseg := 2 })] } }, by decide +kernel⟩⟩

/-- O43: each clause of BinsRecoverMoveAndProtect has an input. -/
theorem test_hypotheses_BinsRecoverMoveAndProtect :
  (∃ (b : ℕ) (s : Machine.State), b < 64 ∧ (s.bin? b = none ∨ s.binState b ≠ 2))
  ∧ (∃ (b : ℕ) (x : Bin) (s : Machine.State), b < 64 ∧ s.bin? b = some x ∧ s.binState b = 2 ∧ (∀ c ∈ x.clips, c.phase = 2) ∧ x.runs = [] ∧ s.getP P.FR_BIN_ARM b ≠ 1 ∧ s.getP P.FR_BIN_SOURCES b = 0)
  ∧ (∃ (b : ℕ) (q : ℕ) (x : Bin) (s : Machine.State), b < 64 ∧ q < 8 ∧ s.bin? b = some x ∧ s.binState b = 2 ∧ (∀ c ∈ x.clips, c.phase = 2 ∧ c.id ≠ x.nextClip) ∧ x.runs = [] ∧ s.getP P.FR_BIN_ARM b = 1 ∧ s.getP P.FR_BIN_SOURCES b = 2 ^ q ∧ s.captureHeld = false ∧ x.held ≤ x.quota ∧ x.woff + 64 ≤ segBytes)
  ∧ (∃ (b : ℕ) (s : Machine.State), b < 64 ∧ (s.bin? b = none ∨ s.bgHeld 9 = true ∨ s.binState b ≠ 3 ∧ s.binState b ≠ 4))
  ∧ (∃ (b : ℕ) (x : Bin) (s : Machine.State), b < 64 ∧ s.bin? b = some x ∧ s.bgHeld 9 = false ∧ (s.binState b = 3 ∨ s.binState b = 4) ∧ x.freeAhead = [])
  ∧ (∃ (b : ℕ) (x : Bin) (s : Machine.State) (g : ℕ) (f : ℕ) (l : List ℕ), b < 64 ∧ s.bin? b = some x ∧ s.bgHeld 9 = false ∧ (s.binState b = 3 ∨ s.binState b = 4) ∧ x.lagging (s.getP P.FR_WEAR_LAG 0) = some g ∧ x.freeAhead = f :: l)
  ∧ (∃ (b : ℕ) (x : Bin) (s : Machine.State) (f : ℕ) (u : ℕ) (l : List ℕ) (m : ℕ), b < 64 ∧ s.bin? b = some x ∧ s.bgHeld 9 = false ∧ (s.binState b = 3 ∨ s.binState b = 4) ∧ x.lagging (s.getP P.FR_WEAR_LAG 0) = none ∧ x.freeAhead = f :: u :: l ∧ m = (List.map (fun g => SMap.get (fun x => 0) x.passes g) x.data).sum ∧ max (SMap.get (fun x => 0) x.passes x.hdrA) (SMap.get (fun x => 0) x.passes x.hdrB) * x.data.length ≤ m + 64 * s.getP P.FR_WEAR_LAG 0 * x.data.length)
  ∧ (∃ (b : ℕ) (x : Bin) (s : Machine.State) (f : ℕ) (u : ℕ) (l : List ℕ) (m : ℕ), b < 64 ∧ s.bin? b = some x ∧ s.bgHeld 9 = false ∧ (s.binState b = 3 ∨ s.binState b = 4) ∧ x.lagging (s.getP P.FR_WEAR_LAG 0) = none ∧ x.freeAhead = f :: u :: l ∧ m = (List.map (fun g => SMap.get (fun x => 0) x.passes g) x.data).sum ∧ m + 64 * s.getP P.FR_WEAR_LAG 0 * x.data.length < max (SMap.get (fun x => 0) x.passes x.hdrA) (SMap.get (fun x => 0) x.passes x.hdrB) * x.data.length)
  ∧ (∃ (c : Cmd) (b : ℕ) (s : Machine.State), s.accepts false 1793 c ∧ c.operands 12 4294966784 ∧ b = c.f 0 8 ∧ 64 ≤ b)
  ∧ (∃ (c : Cmd) (b : ℕ) (s : Machine.State), s.accepts false 1793 c ∧ c.operands 12 4294966784 ∧ b = c.f 0 8 ∧ b < 64 ∧ (s.bin? b = none ∨ s.binState b = 1 ∨ s.binState b = 2))
  ∧ (∃ (c : Cmd) (b : ℕ) (s : Machine.State) (x : Bin) (h : List Clip), s.accepts false 1793 c ∧ c.operands 12 4294966784 ∧ b = c.f 0 8 ∧ b < 64 ∧ s.bin? b = some x ∧ s.binState b ≠ 1 ∧ s.binState b ≠ 2 ∧ (h = List.filter (fun k => k.phase != 3 && tagsMeet k.first (if k.phase = 0 then s.ring.tag else k.last) (c.f 32 32) (c.f 64 32) && k.isProtected != (c.f 8 1 == 1)) x.clips) ∧ c.f 8 1 = 1 ∧ x.mayProtect (List.map (fun k => k.id) h) = false)
  ∧ (∃ (c : Cmd) (b : ℕ) (s : Machine.State) (x : Bin) (h : List Clip), s.accepts false 1793 c ∧ c.operands 12 4294966784 ∧ b = c.f 0 8 ∧ b < 64 ∧ s.bin? b = some x ∧ s.binState b ≠ 1 ∧ s.binState b ≠ 2 ∧ (h = List.filter (fun k => k.phase != 3 && tagsMeet k.first (if k.phase = 0 then s.ring.tag else k.last) (c.f 32 32) (c.f 64 32) && k.isProtected != (c.f 8 1 == 1)) x.clips) ∧ (c.f 8 1 = 1 ∧ x.mayProtect (List.map (fun k => k.id) h) = true ∨ c.f 8 1 = 0 ∧ x.held ≤ s.getP P.FR_BIN_QUOTA b))
  ∧ (∃ (c : Cmd) (b : ℕ) (s : Machine.State), s.accepts false 1794 c ∧ c.operands 1 0 ∧ b = c.f 0 8 ∧ 64 ≤ b)
  ∧ (∃ (c : Cmd) (b : ℕ) (s : Machine.State), s.accepts false 1794 c ∧ c.operands 1 0 ∧ b = c.f 0 8 ∧ b < 64 ∧ (s.bin? b = none ∨ s.binState b ≠ 4))
  ∧ (∃ (c : Cmd) (b : ℕ) (s : Machine.State) (x : Bin), s.accepts false 1794 c ∧ c.operands 1 0 ∧ b = c.f 0 8 ∧ b < 64 ∧ s.binState b = 4 ∧ s.bin? b = some x) :=
  ⟨⟨63, up, by decide +kernel⟩,
   ⟨63, { segs := 8, wseg := 2 }, { up.setP P.FR_BIN_STATE 63 2 with fr := { bins := [(63, some { segs := 8, wseg := 2 })] } }, by decide +kernel⟩,
   ⟨63, 7, { segs := 8, wseg := 2, woff := segBytes - 64 }, { (withP [(P.FR_BIN_ARM, 63, 1), (P.FR_BIN_SOURCES, 63, 128)] up).setP P.FR_BIN_STATE 63 2 with fr := { bins := [(63, some { segs := 8, wseg := 2, woff := segBytes - 64 })] } }, by decide +kernel⟩,
   ⟨63, up, by decide +kernel⟩,
   ⟨63, { segs := 3, wseg := 2 }, { up.setP P.FR_BIN_STATE 63 3 with fr := { bins := [(63, some { segs := 3, wseg := 2 })] } }, by decide +kernel⟩,
   ⟨63, { segs := 8, wseg := 2, clips := [{ id := 1, first := 5, last := 6, phase := 2, flags := 1, recs := [{ typ := 1, source := 0, seq := 0, tag := 5, pieces := [(3, 0, 64)] }] }], passes := [(4, 49)] }, { up.setP P.FR_BIN_STATE 63 4 with fr := { bins := [(63, some { segs := 8, wseg := 2, clips := [{ id := 1, first := 5, last := 6, phase := 2, flags := 1, recs := [{ typ := 1, source := 0, seq := 0, tag := 5, pieces := [(3, 0, 64)] }] }], passes := [(4, 49)] })] } }, 3, 7, [6, 5, 4], by decide +kernel⟩,
   ⟨63, { segs := 8, wseg := 2, passes := [(0, 512)] }, { up.setP P.FR_BIN_STATE 63 4 with fr := { bins := [(63, some { segs := 8, wseg := 2, passes := [(0, 512)] })] } }, 7, 6, [5, 4, 3], 0, by decide +kernel⟩,
   ⟨63, { segs := 8, wseg := 2, passes := [(0, 513)] }, { up.setP P.FR_BIN_STATE 63 4 with fr := { bins := [(63, some { segs := 8, wseg := 2, passes := [(0, 513)] })] } }, 7, 6, [5, 4, 3], 0, by decide +kernel⟩,
   ⟨cmd 12 (64 ||| 1 <<< 8 ||| 6 <<< 32 ||| 10 <<< 64), 64, up, by decide +kernel⟩,
   ⟨cmd 12 (63 ||| 1 <<< 8 ||| 6 <<< 32 ||| 10 <<< 64), 63, up, by decide +kernel⟩,
   ⟨cmd 12 (63 ||| 1 <<< 8 ||| 6 <<< 32 ||| 10 <<< 64), 63, { up.setP P.FR_BIN_STATE 63 3 with fr := { bins := [(63, some { segs := 5, wseg := 2, clips := [{ id := 1, first := 5, last := 6, phase := 2 }] })] } }, { segs := 5, wseg := 2, clips := [{ id := 1, first := 5, last := 6, phase := 2 }] }, [{ id := 1, first := 5, last := 6, phase := 2 }], by decide +kernel⟩,
   ⟨cmd 12 (63 ||| 1 <<< 8 ||| 6 <<< 32 ||| 10 <<< 64), 63, { up.setP P.FR_BIN_STATE 63 3 with fr := { bins := [(63, some { segs := 6, wseg := 2, clips := [{ id := 1, first := 5, last := 6, phase := 2 }] })] } }, { segs := 6, wseg := 2, clips := [{ id := 1, first := 5, last := 6, phase := 2 }] }, [{ id := 1, first := 5, last := 6, phase := 2 }], by decide +kernel⟩,
   ⟨cmd 1 64, 64, up, by decide +kernel⟩,
   ⟨cmd 1 63, 63, up, by decide +kernel⟩,
   ⟨cmd 1 63, 63, { up.setP P.FR_BIN_STATE 63 4 with fr := { bins := [(63, some { segs := 8, wseg := 2 })] } }, { segs := 8, wseg := 2 }, by decide +kernel⟩⟩

/-- O44: each clause of QueuePairsAreCreatedRungAndRestarted has an input. -/
theorem test_hypotheses_QueuePairsAreCreatedRungAndRestarted :
  (∃ (c : Cmd) (q : ℕ) (s : Machine.State), s.accepts false 1808 c ∧ c.win < 64 ∧ c.operands 24 18446462598732841200 ∧ q = c.f 0 4 ∧ (c.f 8 4 < 4 ∨ 12 < c.f 8 4 ∨ c.f 12 4 < 4 ∨ 12 < c.f 12 4 ∨ 15 < c.f 16 8 ∧ c.f 16 8 ≠ 255 ∨ c.f 24 8 = 0 ∨ 1000 < c.f 32 16 ∨ c.f 64 64 % 4096 ≠ 0 ∨ c.f 128 64 % 4096 ≠ 0))
  ∧ (∃ (c : Cmd) (q : ℕ) (s : Machine.State), s.accepts false 1808 c ∧ c.win < 64 ∧ c.operands 24 18446462598732841200 ∧ q = c.f 0 4 ∧ 4 ≤ c.f 8 4 ∧ c.f 8 4 ≤ 12 ∧ 4 ≤ c.f 12 4 ∧ c.f 12 4 ≤ 12 ∧ (c.f 16 8 ≤ 15 ∨ c.f 16 8 = 255) ∧ c.f 24 8 ≠ 0 ∧ c.f 32 16 ≤ 1000 ∧ c.f 64 64 % 4096 = 0 ∧ c.f 128 64 % 4096 = 0 ∧ s.pair? c.win q ≠ none)
  ∧ (∃ (c : Cmd) (q : ℕ) (s : Machine.State), s.accepts false 1808 c ∧ c.win < 64 ∧ c.operands 24 18446462598732841200 ∧ q = c.f 0 4 ∧ 4 ≤ c.f 8 4 ∧ c.f 8 4 ≤ 12 ∧ 4 ≤ c.f 12 4 ∧ c.f 12 4 ≤ 12 ∧ (c.f 16 8 ≤ 15 ∨ c.f 16 8 = 255) ∧ c.f 24 8 ≠ 0 ∧ c.f 32 16 ≤ 1000 ∧ c.f 64 64 % 4096 = 0 ∧ c.f 128 64 % 4096 = 0 ∧ s.pair? c.win q = none ∧ (s.getP P.CQ_PAIR_LIMIT c.win ≤ (List.filter (fun e => e.1 / 16 == c.win) s.cq.pairs).length ∨ 256 ≤ List.length s.cq.pairs))
  ∧ (∃ (c : Cmd) (q : ℕ) (s : Machine.State), s.accepts false 1808 c ∧ c.win < 64 ∧ c.operands 24 18446462598732841200 ∧ q = c.f 0 4 ∧ 4 ≤ c.f 8 4 ∧ c.f 8 4 ≤ 12 ∧ 4 ≤ c.f 12 4 ∧ c.f 12 4 ≤ 12 ∧ (c.f 16 8 ≤ 15 ∨ c.f 16 8 = 255) ∧ c.f 24 8 ≠ 0 ∧ c.f 32 16 ≤ 1000 ∧ c.f 64 64 % 4096 = 0 ∧ c.f 128 64 % 4096 = 0 ∧ s.pair? c.win q = none ∧ (List.filter (fun e => e.1 / 16 == c.win) s.cq.pairs).length < s.getP P.CQ_PAIR_LIMIT c.win ∧ List.length s.cq.pairs < 256)
  ∧ (∃ (c : Cmd) (q : ℕ) (s : Machine.State), s.accepts false 1809 c ∧ c.win < 64 ∧ c.operands 1 240 ∧ q = c.f 0 4 ∧ s.pair? c.win q = none)
  ∧ (∃ (c : Cmd) (q : ℕ) (s : Machine.State) (p : Pair), s.accepts false 1809 c ∧ c.win < 64 ∧ c.operands 1 240 ∧ q = c.f 0 4 ∧ s.pair? c.win q = some p ∧ p.restart = none ∧ s.noDeletes)
  ∧ (∃ (c : Cmd) (q : ℕ) (s : Machine.State), s.accepts false 1812 c ∧ c.win < 64 ∧ c.operands 1 240 ∧ q = c.f 0 4 ∧ s.pair? c.win q = none)
  ∧ (∃ (c : Cmd) (q : ℕ) (s : Machine.State) (p : Pair), s.accepts false 1812 c ∧ c.win < 64 ∧ c.operands 1 240 ∧ q = c.f 0 4 ∧ s.pair? c.win q = some p)
  ∧ (∃ (c : Cmd) (l : List QueueLog) (s : Machine.State), s.accepts false 1811 c ∧ c.win < 64 ∧ c.operands 4 0 ∧ l = List.take 3 (List.filter (fun e => decide ((e.seq + 2 ^ 32 - c.f 0 32) % 2 ^ 32 < 2 ^ 31)) (SMap.get (fun x => []) s.cq.logs c.win)))
  ∧ (∃ (fn : ℕ) (w : ℕ) (q : ℕ) (v : ℕ) (l : List Byte) (s : Machine.State), fn < 64 ∧ w < 64 ∧ q < 16 ∧ v < 65536 ∧ s.hostTakes fn w = false)
  ∧ (∃ (fn : ℕ) (w : ℕ) (q : ℕ) (v : ℕ) (s : Machine.State), fn < 64 ∧ w < 64 ∧ q < 16 ∧ v < 65536 ∧ s.pair? w q = none)
  ∧ (∃ (fn : ℕ) (w : ℕ) (q : ℕ) (v : ℕ) (p : Pair) (s : Machine.State) (l : List Byte), fn < 64 ∧ w < 64 ∧ q < 16 ∧ v < 65536 ∧ s.hostTakes fn w = true ∧ s.pair? w q = some p ∧ v < 2 ^ p.sqLog ∧ (p.sqTail + 2 ^ p.sqLog - p.sqHead) % 2 ^ p.sqLog + (v + 2 ^ p.sqLog - p.sqTail) % 2 ^ p.sqLog < 2 ^ p.sqLog ∧ l.length = 64)
  ∧ (∃ (fn : ℕ) (w : ℕ) (q : ℕ) (v : ℕ) (p : Pair) (s : Machine.State), fn < 64 ∧ w < 64 ∧ q < 16 ∧ v < 65536 ∧ s.hostTakes fn w = true ∧ s.pair? w q = some p ∧ v < 2 ^ p.cqLog)
  ∧ (∃ (fn : ℕ) (w : ℕ) (q : ℕ) (v : ℕ) (p : Pair) (s : Machine.State), fn < 64 ∧ w < 64 ∧ q < 16 ∧ v < 65536 ∧ s.hostTakes fn w = true ∧ s.pair? w q = some p ∧ p.frozen = false ∧ s.noDeletes ∧ 2 ^ p.sqLog ≤ v)
  ∧ (∃ (fn : ℕ) (w : ℕ) (q : ℕ) (v : ℕ) (p : Pair) (s : Machine.State), fn < 64 ∧ w < 64 ∧ q < 16 ∧ v < 65536 ∧ s.hostTakes fn w = true ∧ s.pair? w q = some p ∧ p.frozen = false ∧ s.noDeletes ∧ 2 ^ p.cqLog ≤ v)
  ∧ (∃ (w : ℕ) (q : ℕ) (p : Pair) (s : Machine.State), w < 64 ∧ q < 16 ∧ s.pair? w q = some p ∧ s.nextFetch ≠ some (w * 16 + q))
  ∧ (∃ (w : ℕ) (q : ℕ) (p : Pair) (s : Machine.State), w < 64 ∧ q < 16 ∧ s.pair? w q = some p ∧ s.cq.pairs = [(w * 16 + q, some p)] ∧ (s.queuesRun = false ∨ p.frozen = true ∨ p.sqHead = p.sqTail ∨ 2 ^ p.cqLog - 1 ≤ p.cmds.length + p.unreleased ∨ 64 ≤ p.cmds.length))
  ∧ (∃ (w : ℕ) (q : ℕ) (p : Pair) (s : Machine.State), w < 64 ∧ q < 16 ∧ s.pair? w q = some p ∧ s.cq.pairs = [(w * 16 + q, some p)] ∧ s.queuesRun = true ∧ p.frozen = false ∧ p.sqHead ≠ p.sqTail ∧ p.cmds.length + p.unreleased + 1 < 2 ^ p.cqLog - 1 ∧ p.cmds.length < 64)
  ∧ (∃ (w : ℕ) (q : ℕ) (p : Pair) (s : Machine.State), w < 64 ∧ q < 16 ∧ s.pair? w q = some p ∧ s.nextFetch = some (w * 16 + q) ∧ s.noDeletes ∧ s.hostGood (p.sqBase + 64 * p.sqHead) 64 < 64)
  ∧ (∃ (w : ℕ) (q : ℕ) (p : Pair) (s : Machine.State) (e : List Byte), w < 64 ∧ q < 16 ∧ s.pair? w q = some p ∧ s.nextFetch = some (w * 16 + q) ∧ s.noDeletes ∧ s.hostGood (p.sqBase + 64 * p.sqHead) 64 = 64 ∧ e = takeBytes zeroByte s.ctl.hostMem (p.sqBase + 64 * p.sqHead) 64 ∧ (sqField e 0 1 = 0 ∨ 6 < sqField e 0 1))
  ∧ (∃ (w : ℕ) (q : ℕ) (p : Pair) (s : Machine.State) (e : List Byte), w < 64 ∧ q < 16 ∧ s.pair? w q = some p ∧ s.nextFetch = some (w * 16 + q) ∧ s.noDeletes ∧ s.hostGood (p.sqBase + 64 * p.sqHead) 64 = 64 ∧ e = takeBytes zeroByte s.ctl.hostMem (p.sqBase + 64 * p.sqHead) 64 ∧ 1 ≤ sqField e 0 1 ∧ sqField e 0 1 ≤ 6 ∧ s.queuesHeld = false)
  ∧ (∃ (w : ℕ) (q : ℕ) (p : Pair) (s : Machine.State) (e : List Byte), w < 64 ∧ q < 16 ∧ s.pair? w q = some p ∧ s.nextFetch = some (w * 16 + q) ∧ s.noDeletes ∧ s.hostGood (p.sqBase + 64 * p.sqHead) 64 = 64 ∧ e = takeBytes zeroByte s.ctl.hostMem (p.sqBase + 64 * p.sqHead) 64 ∧ 1 ≤ sqField e 0 1 ∧ sqField e 0 1 ≤ 6 ∧ s.queuesHeld = true ∧ s.pw.step = PwStep.exiting)
  ∧ (∃ (w : ℕ) (q : ℕ) (p : Pair) (s : Machine.State), w < 64 ∧ q < 16 ∧ s.pair? w q = some p ∧ p.unsignalled = 0)
  ∧ (∃ (w : ℕ) (q : ℕ) (p : Pair) (s : Machine.State), w < 64 ∧ q < 16 ∧ s.pair? w q = some p ∧ p.unsignalled ≠ 0 ∧ p.vector ≠ 255)
  ∧ (∃ (w : ℕ) (q : ℕ) (p : Pair) (s : Machine.State), w < 64 ∧ q < 16 ∧ s.pair? w q = some p ∧ (p.restart = none ∨ p.cmds ≠ []))
  ∧ (∃ (w : ℕ) (q : ℕ) (p : Pair) (s : Machine.State) (r : ℕ × Bool) (f : Flight), w < 64 ∧ q < 16 ∧ s.pair? w q = some p ∧ p.restart = some r ∧ p.cmds = [] ∧ s.awaits r.1 f)
  ∧ (∃ (c : Cmd) (q : ℕ) (s : Machine.State), s.accepts false 1810 c ∧ c.win < 64 ∧ c.operands 8 4294967264 ∧ q = c.f 0 4 ∧ s.pair? c.win q = none)
  ∧ (∃ (c : Cmd) (q : ℕ) (s : Machine.State) (p : Pair), s.accepts false 1810 c ∧ c.win < 64 ∧ c.operands 8 4294967264 ∧ q = c.f 0 4 ∧ s.pair? c.win q = some p ∧ p.frozen = false)
  ∧ (∃ (c : Cmd) (q : ℕ) (s : Machine.State) (p : Pair), s.accepts false 1810 c ∧ c.win < 64 ∧ c.operands 8 4294967264 ∧ q = c.f 0 4 ∧ s.pair? c.win q = some p ∧ p.frozen = true ∧ p.restart ≠ none)
  ∧ (∃ (c : Cmd) (q : ℕ) (s : Machine.State) (p : Pair), s.accepts false 1810 c ∧ c.win < 64 ∧ c.operands 8 4294967264 ∧ q = c.f 0 4 ∧ s.pair? c.win q = some p ∧ p.frozen = true ∧ p.restart = none ∧ c.f 32 32 ≠ p.newestLog)
  ∧ (∃ (c : Cmd) (q : ℕ) (s : Machine.State) (p : Pair), s.accepts false 1810 c ∧ c.win < 64 ∧ c.operands 8 4294967264 ∧ q = c.f 0 4 ∧ s.pair? c.win q = some p ∧ p.frozen = true ∧ p.restart = none ∧ c.f 32 32 = p.newestLog) :=
  ⟨⟨cmd 24 (15 ||| 3 <<< 8 ||| 12 <<< 12 ||| 255 <<< 16 ||| 1 <<< 24 ||| 1000 <<< 32 ||| 0x40000 <<< 64 ||| 0x80000 <<< 128), 15, up, by decide +kernel⟩,
   ⟨cmd 24 (15 ||| 4 <<< 8 ||| 12 <<< 12 ||| 255 <<< 16 ||| 1 <<< 24 ||| 1000 <<< 32 ||| 0x40000 <<< 64 ||| 0x80000 <<< 128), 15, { up with cq := { pairs := [(15, some {})] } }, by decide +kernel⟩,
   ⟨cmd 24 (15 ||| 4 <<< 8 ||| 12 <<< 12 ||| 255 <<< 16 ||| 1 <<< 24 ||| 1000 <<< 32 ||| 0x40000 <<< 64 ||| 0x80000 <<< 128), 15, up.setP P.CQ_PAIR_LIMIT 0 0, by decide +kernel⟩,
   ⟨cmd 24 (15 ||| 4 <<< 8 ||| 12 <<< 12 ||| 255 <<< 16 ||| 1 <<< 24 ||| 1000 <<< 32 ||| 0x40000 <<< 64 ||| 0x80000 <<< 128), 15, up, by decide +kernel⟩,
   ⟨cmd 1 15, 15, up, by decide +kernel⟩,
   ⟨cmd 1 15, 15, { up with cq := { pairs := [(15, some { frozen := true })] } }, { frozen := true }, by decide +kernel⟩,
   ⟨cmd 1 15, 15, up, by decide +kernel⟩,
   ⟨cmd 1 15, 15, { up with cq := { pairs := [(15, some { frozen := true, newestLog := 77 })] } }, { frozen := true, newestLog := 77 }, by decide +kernel⟩,
   ⟨cmd 4 5, [{ seq := 5, froze := true, queue := 15, cid := 0xFFFF, time := 9, opcode := 1, code := 4 }], { up with cq := { logs := [(0, [{ seq := 5, froze := true, queue := 15, cid := 0xFFFF, time := 9, opcode := 1, code := 4 }])] } }, by decide +kernel⟩,
   ⟨0, 63, 15, 65535, [1], { pairUp {} with ctl := { up.ctl with vfEnable := true, numVfs := 63 } }, by decide +kernel⟩,
   ⟨63, 63, 15, 65535, up, by decide +kernel⟩,
   ⟨63, 63, 15, 15, {}, { pairUp {} with ctl := { up.ctl with vfEnable := true, numVfs := 63 } }, List.replicate 64 7, by decide +kernel⟩,
   ⟨63, 63, 15, 15, {}, { pairUp {} with ctl := { up.ctl with vfEnable := true, numVfs := 63 } }, by decide +kernel⟩,
   ⟨63, 63, 15, 16, {}, { pairUp {} with ctl := { up.ctl with vfEnable := true, numVfs := 63 } }, by decide +kernel⟩,
   ⟨0, 63, 15, 16, {}, pairUp {}, by decide +kernel⟩,
   ⟨63, 15, {}, pairUp {}, by decide +kernel⟩,
   ⟨63, 15, {}, pairUp {}, by decide +kernel⟩,
   ⟨63, 15, { sqBase := 0x40000, sqTail := 1 }, { pairUp { sqBase := 0x40000, sqTail := 1 } with ctl := { up.ctl with hostFault := [(0x4003F, 1)] } }, by decide +kernel⟩,
   ⟨63, 15, { sqBase := 0x40000, sqTail := 1 }, { pairUp { sqBase := 0x40000, sqTail := 1 } with ctl := { up.ctl with hostFault := [(0x4003F, 1)] } }, by decide +kernel⟩,
   ⟨63, 15, { sqBase := 0x40000, sqTail := 1 }, pairUp { sqBase := 0x40000, sqTail := 1 }, List.replicate 64 0, by decide +kernel⟩,
   ⟨63, 15, { sqBase := 0x40000, sqTail := 1 }, { pairUp { sqBase := 0x40000, sqTail := 1 } with ctl := { up.ctl with hostMem := [(0x40000, 1)] } }, 1 :: List.replicate 63 0, by decide +kernel⟩,
   ⟨63, 15, { sqBase := 0x40000, sqTail := 1 }, { pairUp { sqBase := 0x40000, sqTail := 1 } with ctl := { up.ctl with hostMem := [(0x40000, 6)] }, pw := { step := .exiting } }, 6 :: List.replicate 63 0, by decide +kernel⟩,
   ⟨63, 15, {}, pairUp {}, by decide +kernel⟩,
   ⟨63, 15, { vector := 15, unsignalled := 3 }, pairUp { vector := 15, unsignalled := 3 }, by decide +kernel⟩,
   ⟨63, 15, {}, pairUp {}, by decide +kernel⟩,
   ⟨0, 15, { frozen := true, restart := some (9, false) }, flying 0x712 { up with cq := { pairs := [(15, some { frozen := true, restart := some (9, false) })] } }, (9, false), flight 0x712, by decide +kernel⟩,
   ⟨cmd 8 15, 15, up, by decide +kernel⟩,
   ⟨cmd 8 15, 15, { up with cq := { pairs := [(15, some {})] } }, {}, by decide +kernel⟩,
   ⟨cmd 8 15, 15, { up with cq := { pairs := [(15, some { frozen := true, restart := some (9, false) })] } }, { frozen := true, restart := some (9, false) }, by decide +kernel⟩,
   ⟨cmd 8 (15 ||| 76 <<< 32), 15, { up with cq := { pairs := [(15, some { frozen := true, newestLog := 77 })] } }, { frozen := true, newestLog := 77 }, by decide +kernel⟩,
   ⟨cmd 8 (31 ||| 77 <<< 32), 15, { up with cq := { pairs := [(15, some { frozen := true, newestLog := 77 })] } }, { frozen := true, newestLog := 77 }, by decide +kernel⟩⟩

/-- O45: each clause of QueueCommandsReadAndImport has an input. -/
theorem test_hypotheses_QueueCommandsReadAndImport :
  (∃ (w : ℕ) (q : ℕ) (cid : ℕ) (s : Machine.State), w < 64 ∧ q < 16 ∧ cid < 65536 ∧ s.queueCmd w q cid 1 = none)
  ∧ (∃ (w : ℕ) (q : ℕ) (cid : ℕ) (s : Machine.State), w < 64 ∧ q < 16 ∧ cid < 65536 ∧ s.queueCmd w q cid 2 = none)
  ∧ (∃ (w : ℕ) (q : ℕ) (cid : ℕ) (s : Machine.State), w < 64 ∧ q < 16 ∧ cid < 65536 ∧ s.queueCmd w q cid 3 = none)
  ∧ (∃ (w : ℕ) (q : ℕ) (cid : ℕ) (s : Machine.State), w < 64 ∧ q < 16 ∧ cid < 65536 ∧ s.queueCmd w q cid 4 = none)
  ∧ (∃ (w : ℕ) (q : ℕ) (cid : ℕ) (s : Machine.State) (l : List Byte), w < 64 ∧ q < 16 ∧ cid < 65536 ∧ s.queueCmd w q cid 5 = none)
  ∧ (∃ (w : ℕ) (q : ℕ) (cid : ℕ) (s : Machine.State), w < 64 ∧ q < 16 ∧ cid < 65536 ∧ s.queueCmd w q cid 6 = none)
  ∧ (∃ (w : ℕ) (q : ℕ) (cid : ℕ) (s : Machine.State), w < 64 ∧ q < 16 ∧ cid < 65536 ∧ (s.pair? w q = none ∨ s.queuesRun = false))
  ∧ (∃ (i : Instr) (op : ℕ) (w : ℕ) (q : ℕ) (cid : ℕ) (f : ℕ) (p : Pair) (c : QCmd) (s : Machine.State), (i, op) ∈ [(Instr.read w q cid, 1), (Instr.readFrame w q cid, 2), (Instr.dirRead w q cid, 3), (Instr.indexRead w q cid, 4), (Instr.importClip w q cid [], 5), (Instr.cqFence w q cid, 6)] ∧ w < 64 ∧ q < 16 ∧ cid < 65536 ∧ s.pair? w q = some p ∧ s.queueCmd w q cid op = some c ∧ p.frozen = false ∧ s.noDeletes ∧ badField c.entry = some f)
  ∧ (∃ (i : Instr) (op : ℕ) (w : ℕ) (q : ℕ) (cid : ℕ) (p : Pair) (c : QCmd) (s : Machine.State), (i, op) ∈ [(Instr.read w q cid, 1), (Instr.readFrame w q cid, 2), (Instr.dirRead w q cid, 3), (Instr.indexRead w q cid, 4), (Instr.importClip w q cid [], 5)] ∧ w < 64 ∧ q < 16 ∧ cid < 65536 ∧ s.pair? w q = some p ∧ s.queueCmd w q cid op = some c ∧ s.noDeletes ∧ badField c.entry = none ∧ c.fate = 88 ∧ s.hostGood (p.cqBase + 32 * p.cqTail) 32 = 32)
  ∧ (∃ (i : Instr) (op : ℕ) (w : ℕ) (q : ℕ) (cid : ℕ) (p : Pair) (c : QCmd) (s : Machine.State), (i, op) ∈ [(Instr.read w q cid, 1), (Instr.readFrame w q cid, 2), (Instr.dirRead w q cid, 3), (Instr.indexRead w q cid, 4), (Instr.importClip w q cid [], 5)] ∧ w < 64 ∧ q < 16 ∧ cid < 65536 ∧ s.pair? w q = some p ∧ s.queueCmd w q cid op = some c ∧ s.noDeletes ∧ badField c.entry = none ∧ c.fate = 10 ∧ p.frozen = false)
  ∧ (∃ (i : Instr) (op : ℕ) (w : ℕ) (q : ℕ) (cid : ℕ) (p : Pair) (c : QCmd) (s : Machine.State), (i, op) ∈ [(Instr.read w q cid, 1), (Instr.readFrame w q cid, 2), (Instr.dirRead w q cid, 3), (Instr.indexRead w q cid, 4), (Instr.importClip w q cid [], 5)] ∧ w < 64 ∧ q < 16 ∧ cid < 65536 ∧ s.pair? w q = some p ∧ s.queueCmd w q cid op = some c ∧ c.fate = 0 ∧ s.noDeletes ∧ badField c.entry = none ∧ s.bin? (sqField c.entry 4 1) = none ∧ s.hostGood (p.cqBase + 32 * p.cqTail) 32 = 32)
  ∧ (∃ (w : ℕ) (q : ℕ) (cid : ℕ) (b : ℕ) (h : ℕ) (p : Pair) (c : QCmd) (x : Bin) (s : Machine.State), w < 64 ∧ q < 16 ∧ cid < 65536 ∧ s.pair? w q = some p ∧ s.hostGood (p.cqBase + 32 * p.cqTail) 32 = 32 ∧ c.fate = 0 ∧ s.noDeletes ∧ badField c.entry = none ∧ b = sqField c.entry 4 1 ∧ h = sqField c.entry 24 8 ∧ s.bin? b = some x ∧ 2 ≤ s.binState b ∧ s.getP P.CXL_REGION_STATE x.region = 4 ∧ s.queueCmd w q cid 1 = some c)
  ∧ (∃ (w : ℕ) (q : ℕ) (cid : ℕ) (b : ℕ) (h : ℕ) (p : Pair) (c : QCmd) (x : Bin) (s : Machine.State), w < 64 ∧ q < 16 ∧ cid < 65536 ∧ s.pair? w q = some p ∧ s.hostGood (p.cqBase + 32 * p.cqTail) 32 = 32 ∧ c.fate = 0 ∧ s.noDeletes ∧ badField c.entry = none ∧ b = sqField c.entry 4 1 ∧ h = sqField c.entry 24 8 ∧ s.bin? b = some x ∧ 2 ≤ s.binState b ∧ s.getP P.CXL_REGION_STATE x.region = 4 ∧ s.queueCmd w q cid 3 = some c)
  ∧ (∃ (w : ℕ) (q : ℕ) (cid : ℕ) (b : ℕ) (h : ℕ) (p : Pair) (c : QCmd) (x : Bin) (s : Machine.State) (l : List Clip) (d : List Byte), w < 64 ∧ q < 16 ∧ cid < 65536 ∧ s.pair? w q = some p ∧ s.hostGood (p.cqBase + 32 * p.cqTail) 32 = 32 ∧ c.fate = 0 ∧ s.noDeletes ∧ badField c.entry = none ∧ b = sqField c.entry 4 1 ∧ h = sqField c.entry 24 8 ∧ s.bin? b = some x ∧ 2 ≤ s.binState b ∧ s.getP P.CXL_REGION_STATE x.region ≠ 4 ∧ s.queueCmd w q cid 3 = some c ∧ l = List.take (sqField c.entry 32 4 / 128) (List.filter (fun k => k.phase == 2 && decide (sqField c.entry 8 4 ≤ k.id)) x.clips) ∧ d = List.flatMap Clip.dirEntry l ∧ s.hostGood h d.length = d.length)
  ∧ (∃ (w : ℕ) (q : ℕ) (cid : ℕ) (b : ℕ) (h : ℕ) (p : Pair) (c : QCmd) (x : Bin) (s : Machine.State), w < 64 ∧ q < 16 ∧ cid < 65536 ∧ s.pair? w q = some p ∧ s.hostGood (p.cqBase + 32 * p.cqTail) 32 = 32 ∧ c.fate = 0 ∧ s.noDeletes ∧ badField c.entry = none ∧ b = sqField c.entry 4 1 ∧ h = sqField c.entry 24 8 ∧ s.bin? b = some x ∧ 2 ≤ s.binState b ∧ s.getP P.CXL_REGION_STATE x.region ≠ 4 ∧ List.find? (fun k => k.id == sqField c.entry 8 4 && k.phase != 3) x.clips = none ∧ 1 ≤ sqField c.entry 8 4 ∧ sqField c.entry 8 4 < x.nextClip ∧ s.queueCmd w q cid 1 = some c)
  ∧ (∃ (w : ℕ) (q : ℕ) (cid : ℕ) (b : ℕ) (h : ℕ) (p : Pair) (c : QCmd) (x : Bin) (s : Machine.State), w < 64 ∧ q < 16 ∧ cid < 65536 ∧ s.pair? w q = some p ∧ s.hostGood (p.cqBase + 32 * p.cqTail) 32 = 32 ∧ c.fate = 0 ∧ s.noDeletes ∧ badField c.entry = none ∧ b = sqField c.entry 4 1 ∧ h = sqField c.entry 24 8 ∧ s.bin? b = some x ∧ 2 ≤ s.binState b ∧ s.getP P.CXL_REGION_STATE x.region ≠ 4 ∧ List.find? (fun k => k.id == sqField c.entry 8 4 && k.phase != 3) x.clips = none ∧ 1 ≤ sqField c.entry 8 4 ∧ sqField c.entry 8 4 < x.nextClip ∧ s.queueCmd w q cid 4 = some c)
  ∧ (∃ (w : ℕ) (q : ℕ) (cid : ℕ) (b : ℕ) (h : ℕ) (p : Pair) (c : QCmd) (x : Bin) (s : Machine.State) (k : Clip) (d : List Byte), w < 64 ∧ q < 16 ∧ cid < 65536 ∧ s.pair? w q = some p ∧ s.hostGood (p.cqBase + 32 * p.cqTail) 32 = 32 ∧ c.fate = 0 ∧ s.noDeletes ∧ badField c.entry = none ∧ b = sqField c.entry 4 1 ∧ h = sqField c.entry 24 8 ∧ s.bin? b = some x ∧ 2 ≤ s.binState b ∧ s.getP P.CXL_REGION_STATE x.region ≠ 4 ∧ s.dram.flaws = [] ∧ List.find? (fun k => k.id == sqField c.entry 8 4 && k.phase != 3) x.clips = some k ∧ s.hostGood h d.length = d.length ∧ s.queueCmd w q cid 1 = some c ∧ d = List.take (min (sqField c.entry 32 4) (k.bytes - sqField c.entry 16 8)) (List.drop (sqField c.entry 16 8) (List.flatMap (fun r => r.bytes k.id) k.recs)) ∧ s.streamPoison k (sqField c.entry 16 8) (min (sqField c.entry 32 4) (k.bytes - sqField c.entry 16 8)) = none)
  ∧ (∃ (w : ℕ) (q : ℕ) (cid : ℕ) (b : ℕ) (h : ℕ) (p : Pair) (c : QCmd) (x : Bin) (s : Machine.State) (k : Clip) (d : List Byte), w < 64 ∧ q < 16 ∧ cid < 65536 ∧ s.pair? w q = some p ∧ s.hostGood (p.cqBase + 32 * p.cqTail) 32 = 32 ∧ c.fate = 0 ∧ s.noDeletes ∧ badField c.entry = none ∧ b = sqField c.entry 4 1 ∧ h = sqField c.entry 24 8 ∧ s.bin? b = some x ∧ 2 ≤ s.binState b ∧ s.getP P.CXL_REGION_STATE x.region ≠ 4 ∧ s.dram.flaws = [] ∧ List.find? (fun k => k.id == sqField c.entry 8 4 && k.phase != 3) x.clips = some k ∧ s.hostGood h d.length = d.length ∧ s.queueCmd w q cid 4 = some c ∧ d = (List.take (sqField c.entry 32 4 / 32) (List.drop (sqField c.entry 16 8) (List.foldl (fun a r => (a.1 ++ [indexEntry r a.2], a.2 + r.len)) ([], 0) k.recs).1)).flatten)
  ∧ (∃ (w : ℕ) (q : ℕ) (cid : ℕ) (b : ℕ) (h : ℕ) (p : Pair) (c : QCmd) (x : Bin) (s : Machine.State) (k : Clip) (d : List Byte) (r : Rec) (bl : List Byte) (ok : Bool) (n : ℕ), w < 64 ∧ q < 16 ∧ cid < 65536 ∧ s.pair? w q = some p ∧ s.hostGood (p.cqBase + 32 * p.cqTail) 32 = 32 ∧ c.fate = 0 ∧ s.noDeletes ∧ badField c.entry = none ∧ b = sqField c.entry 4 1 ∧ h = sqField c.entry 24 8 ∧ s.bin? b = some x ∧ 2 ≤ s.binState b ∧ s.getP P.CXL_REGION_STATE x.region ≠ 4 ∧ s.dram.flaws = [] ∧ List.find? (fun k => k.id == sqField c.entry 8 4 && k.phase != 3) x.clips = some k ∧ s.hostGood h d.length = d.length ∧ s.queueCmd w q cid 2 = some c ∧ List.find? (fun r => r.typ == 1 && r.source == sqField c.entry 5 1 && r.tag == sqField c.entry 12 4) k.recs = some r ∧ n = r.field 40 2 * (r.field 38 2 * r.field 42 1 / 8) ∧ n ≤ sqField c.entry 32 4 ∧ sqField c.entry 40 8 = 0 ∧ r.field 44 2 = 1 ∧ r.field 40 2 ≤ max (blockLines (r.field 42 1) (r.field 38 2)) 1 ∧ frameBlockBytes r = [bl] ∧ (decodeBlock bl).2 = ok ∧ d = List.take n (decodeBlock bl).1 ∧ s.streamPoison k (List.foldl (fun n q => n + q.len) 0 (List.takeWhile (fun q => q != r) k.recs)) r.len = none)
  ∧ (∃ (w : ℕ) (q : ℕ) (cid : ℕ) (b : ℕ) (h : ℕ) (n : ℕ) (l : List Byte) (m : Sys2Proof.SMap Byte) (p : Pair) (c : QCmd) (x : Bin) (r : Rec) (s : Machine.State), w < 64 ∧ q < 16 ∧ cid < 65536 ∧ s.pair? w q = some p ∧ s.queueCmd w q cid 5 = some c ∧ c.fate = 0 ∧ s.noDeletes ∧ badField c.entry = none ∧ s.hostGood (p.cqBase + 32 * p.cqTail) 32 = 32 ∧ b = sqField c.entry 4 1 ∧ h = sqField c.entry 24 8 ∧ n = sqField c.entry 32 4 ∧ sqField c.entry 1 1 = 1 ∧ s.bin? b = some x ∧ s.binState b = 3 ∧ s.hostGood h n = n ∧ (m = if l = [] then s.ctl.hostMem else putBytes zeroByte s.ctl.hostMem h l) ∧ importRecords n (takeBytes zeroByte m h n) [] = some [r] ∧ (∀ k ∈ x.clips, k.phase ≠ 3 ∧ k.id ≠ x.nextClip) ∧ x.woff + r.len ≤ segBytes ∧ 0 < r.len ∧ x.held ≤ x.quota)
  ∧ (∃ (w : ℕ) (q : ℕ) (cid : ℕ) (p : Pair) (c : QCmd) (s : Machine.State), w < 64 ∧ q < 16 ∧ cid < 65536 ∧ s.pair? w q = some p ∧ s.hostGood (p.cqBase + 32 * p.cqTail) 32 = 32 ∧ s.noDeletes ∧ s.queueCmd w q cid 6 = some c ∧ c.fate = 0 ∧ badField c.entry = none)
  ∧ (∃ (w : ℕ) (q : ℕ) (cid : ℕ) (p : Pair) (c : QCmd) (s : Machine.State), w < 64 ∧ q < 16 ∧ cid < 65536 ∧ s.pair? w q = some p ∧ s.hostGood (p.cqBase + 32 * p.cqTail) 32 = 32 ∧ s.noDeletes ∧ List.find? (fun d => d.cid == cid) p.cmds = some c ∧ sqField c.entry 36 4 = 0)
  ∧ (∃ (w : ℕ) (q : ℕ) (cid : ℕ) (p : Pair) (c : QCmd) (s : Machine.State), w < 64 ∧ q < 16 ∧ cid < 65536 ∧ s.pair? w q = some p ∧ s.hostGood (p.cqBase + 32 * p.cqTail) 32 = 32 ∧ s.noDeletes ∧ List.find? (fun d => d.cid == cid) p.cmds = some c ∧ sqField c.entry 36 4 ≠ 0 ∧ s.queuesRun = true) :=
  ⟨⟨63, 15, 0xFFFF, up, by decide +kernel⟩,
   ⟨63, 15, 0xFFFF, up, by decide +kernel⟩,
   ⟨63, 15, 0xFFFF, up, by decide +kernel⟩,
   ⟨63, 15, 0xFFFF, up, by decide +kernel⟩,
   ⟨63, 15, 0xFFFF, up, [], by decide +kernel⟩,
   ⟨63, 15, 0xFFFF, up, by decide +kernel⟩,
   ⟨63, 15, 0xFFFF, up, by decide +kernel⟩,
   ⟨.read 63 15 0xFFFF, 1, 63, 15, 0xFFFF, 32, { cmds := [{ cid := 0xFFFF, entry := (sqe 1 0 0xFFFF 63 0 0 0 0 0x50000 0 0), time := 0 }], cqBase := 0x80000 }, { cid := 0xFFFF, entry := (sqe 1 0 0xFFFF 63 0 0 0 0 0x50000 0 0), time := 0 }, pairUp { cmds := [{ cid := 0xFFFF, entry := (sqe 1 0 0xFFFF 63 0 0 0 0 0x50000 0 0), time := 0 }], cqBase := 0x80000 }, by decide +kernel⟩,
   ⟨.indexRead 63 15 0xFFFF, 4, 63, 15, 0xFFFF, { cmds := [{ cid := 0xFFFF, entry := (sqe 4 0 0xFFFF 63 0 0 0 0 0x50000 32 0), time := 0, fate := 88 }], cqBase := 0x80000 }, { cid := 0xFFFF, entry := (sqe 4 0 0xFFFF 63 0 0 0 0 0x50000 32 0), time := 0, fate := 88 }, pairUp { cmds := [{ cid := 0xFFFF, entry := (sqe 4 0 0xFFFF 63 0 0 0 0 0x50000 32 0), time := 0, fate := 88 }], cqBase := 0x80000 }, by decide +kernel⟩,
   ⟨.indexRead 63 15 0xFFFF, 4, 63, 15, 0xFFFF, { cmds := [{ cid := 0xFFFF, entry := (sqe 4 0 0xFFFF 63 0 0 0 0 0x50000 32 0), time := 0, fate := 10 }], cqBase := 0x80000 }, { cid := 0xFFFF, entry := (sqe 4 0 0xFFFF 63 0 0 0 0 0x50000 32 0), time := 0, fate := 10 }, pairUp { cmds := [{ cid := 0xFFFF, entry := (sqe 4 0 0xFFFF 63 0 0 0 0 0x50000 32 0), time := 0, fate := 10 }], cqBase := 0x80000 }, by decide +kernel⟩,
   ⟨.indexRead 63 15 0xFFFF, 4, 63, 15, 0xFFFF, { cmds := [{ cid := 0xFFFF, entry := (sqe 4 0 0xFFFF 63 0 0 0 0 0x50000 32 0), time := 0 }], cqBase := 0x80000 }, { cid := 0xFFFF, entry := (sqe 4 0 0xFFFF 63 0 0 0 0 0x50000 32 0), time := 0 }, pairUp { cmds := [{ cid := 0xFFFF, entry := (sqe 4 0 0xFFFF 63 0 0 0 0 0x50000 32 0), time := 0 }], cqBase := 0x80000 }, by decide +kernel⟩,
   ⟨63, 15, 0xFFFF, 63, 0x50000, { cmds := [{ cid := 0xFFFF, entry := (sqe 1 0 0xFFFF 63 0 2 0 0 0x50000 128 0), time := 0 }], cqBase := 0x80000 }, { cid := 0xFFFF, entry := (sqe 1 0 0xFFFF 63 0 2 0 0 0x50000 128 0), time := 0 }, { nextClip := 3 }, binUp 2 { nextClip := 3 } ((pairUp { cmds := [{ cid := 0xFFFF, entry := (sqe 1 0 0xFFFF 63 0 2 0 0 0x50000 128 0), time := 0 }], cqBase := 0x80000 }).setP P.CXL_REGION_STATE 0 4), by decide +kernel⟩,
   ⟨63, 15, 0xFFFF, 63, 0x50000, { cmds := [{ cid := 0xFFFF, entry := (sqe 3 0 0xFFFF 63 0 0 0 0 0x50000 128 0), time := 0 }], cqBase := 0x80000 }, { cid := 0xFFFF, entry := (sqe 3 0 0xFFFF 63 0 0 0 0 0x50000 128 0), time := 0 }, { nextClip := 3 }, binUp 2 { nextClip := 3 } ((pairUp { cmds := [{ cid := 0xFFFF, entry := (sqe 3 0 0xFFFF 63 0 0 0 0 0x50000 128 0), time := 0 }], cqBase := 0x80000 }).setP P.CXL_REGION_STATE 0 4), by decide +kernel⟩,
   ⟨63, 15, 0xFFFF, 63, 0x50000, { cmds := [{ cid := 0xFFFF, entry := (sqe 3 0 0xFFFF 63 0 0 0 0 0x50000 128 0), time := 0 }], cqBase := 0x80000 }, { cid := 0xFFFF, entry := (sqe 3 0 0xFFFF 63 0 0 0 0 0x50000 128 0), time := 0 }, { nextClip := 3, clips := [{ id := 2, first := 5, last := 6, phase := 2, recs := [frameRec] }] }, binUp 3 { nextClip := 3, clips := [{ id := 2, first := 5, last := 6, phase := 2, recs := [frameRec] }] } ((pairUp { cmds := [{ cid := 0xFFFF, entry := (sqe 3 0 0xFFFF 63 0 0 0 0 0x50000 128 0), time := 0 }], cqBase := 0x80000 }).setP P.CXL_REGION_STATE 0 1), [{ id := 2, first := 5, last := 6, phase := 2, recs := [frameRec] }], List.flatMap Clip.dirEntry [{ id := 2, first := 5, last := 6, phase := 2, recs := [frameRec] }], by decide +kernel⟩,
   ⟨63, 15, 0xFFFF, 63, 0x50000, { cmds := [{ cid := 0xFFFF, entry := (sqe 1 0 0xFFFF 63 0 2 0 0 0x50000 128 0), time := 0 }], cqBase := 0x80000 }, { cid := 0xFFFF, entry := (sqe 1 0 0xFFFF 63 0 2 0 0 0x50000 128 0), time := 0 }, { nextClip := 3 }, binUp 2 { nextClip := 3 } ((pairUp { cmds := [{ cid := 0xFFFF, entry := (sqe 1 0 0xFFFF 63 0 2 0 0 0x50000 128 0), time := 0 }], cqBase := 0x80000 }).setP P.CXL_REGION_STATE 0 1), by decide +kernel⟩,
   ⟨63, 15, 0xFFFF, 63, 0x50000, { cmds := [{ cid := 0xFFFF, entry := (sqe 4 0 0xFFFF 63 0 2 0 0 0x50000 32 0), time := 0 }], cqBase := 0x80000 }, { cid := 0xFFFF, entry := (sqe 4 0 0xFFFF 63 0 2 0 0 0x50000 32 0), time := 0 }, { nextClip := 3 }, binUp 2 { nextClip := 3 } ((pairUp { cmds := [{ cid := 0xFFFF, entry := (sqe 4 0 0xFFFF 63 0 2 0 0 0x50000 32 0), time := 0 }], cqBase := 0x80000 }).setP P.CXL_REGION_STATE 0 1), by decide +kernel⟩,
   ⟨63, 15, 0xFFFF, 63, 0x50000, { cmds := [{ cid := 0xFFFF, entry := (sqe 1 0 0xFFFF 63 0 2 0 188 0x50000 4096 0), time := 0 }], cqBase := 0x80000 }, { cid := 0xFFFF, entry := (sqe 1 0 0xFFFF 63 0 2 0 188 0x50000 4096 0), time := 0 }, { nextClip := 3, clips := [{ id := 2, first := 5, last := 6, phase := 2, recs := [frameRec] }] }, binUp 3 { nextClip := 3, clips := [{ id := 2, first := 5, last := 6, phase := 2, recs := [frameRec] }] } ((pairUp { cmds := [{ cid := 0xFFFF, entry := (sqe 1 0 0xFFFF 63 0 2 0 188 0x50000 4096 0), time := 0 }], cqBase := 0x80000 }).setP P.CXL_REGION_STATE 0 1), { id := 2, first := 5, last := 6, phase := 2, recs := [frameRec] }, ((frameRec.bytes 2).drop 188).take 4, by decide +kernel⟩,
   ⟨63, 15, 0xFFFF, 63, 0x50000, { cmds := [{ cid := 0xFFFF, entry := (sqe 4 0 0xFFFF 63 0 2 0 0 0x50000 32 0), time := 0 }], cqBase := 0x80000 }, { cid := 0xFFFF, entry := (sqe 4 0 0xFFFF 63 0 2 0 0 0x50000 32 0), time := 0 }, { nextClip := 3, clips := [{ id := 2, first := 5, last := 6, phase := 2, recs := [frameRec] }] }, binUp 3 { nextClip := 3, clips := [{ id := 2, first := 5, last := 6, phase := 2, recs := [frameRec] }] } ((pairUp { cmds := [{ cid := 0xFFFF, entry := (sqe 4 0 0xFFFF 63 0 2 0 0 0x50000 32 0), time := 0 }], cqBase := 0x80000 }).setP P.CXL_REGION_STATE 0 1), { id := 2, first := 5, last := 6, phase := 2, recs := [frameRec] }, indexEntry frameRec 0, by decide +kernel⟩,
   ⟨63, 15, 0xFFFF, 63, 0x50000, { cmds := [{ cid := 0xFFFF, entry := (sqe 2 0 0xFFFF 63 7 2 5 0 0x50000 16 0), time := 0 }], cqBase := 0x80000 }, { cid := 0xFFFF, entry := (sqe 2 0 0xFFFF 63 7 2 5 0 0x50000 16 0), time := 0 }, { nextClip := 3, clips := [{ id := 2, first := 5, last := 6, phase := 2, recs := [frameRec] }] }, binUp 3 { nextClip := 3, clips := [{ id := 2, first := 5, last := 6, phase := 2, recs := [frameRec] }] } ((pairUp { cmds := [{ cid := 0xFFFF, entry := (sqe 2 0 0xFFFF 63 7 2 5 0 0x50000 16 0), time := 0 }], cqBase := 0x80000 }).setP P.CXL_REGION_STATE 0 1), { id := 2, first := 5, last := 6, phase := 2, recs := [frameRec] }, (decodeBlock rawBlock).1, frameRec, rawBlock, true, 16, by decide +kernel⟩,
   ⟨63, 15, 0xFFFF, 63, 0x50000, 64, Rec.bytes { typ := 2, source := 7, seq := 0, tag := 5, body := gapBody 1 2 3 } 0, putBytes zeroByte [] 0x50000 (Rec.bytes { typ := 2, source := 7, seq := 0, tag := 5, body := gapBody 1 2 3 } 0), { cmds := [{ cid := 0xFFFF, entry := (sqe 5 1 0xFFFF 63 0 0 0 0 0x50000 64 0), time := 0 }], cqBase := 0x80000 }, { cid := 0xFFFF, entry := (sqe 5 1 0xFFFF 63 0 0 0 0 0x50000 64 0), time := 0 }, {}, { typ := 2, source := 7, seq := 0, tag := 5, body := gapBody 1 2 3 }, binUp 3 {} ((pairUp { cmds := [{ cid := 0xFFFF, entry := (sqe 5 1 0xFFFF 63 0 0 0 0 0x50000 64 0), time := 0 }], cqBase := 0x80000 }).setP P.CXL_REGION_STATE 0 1), by decide +kernel⟩,
   ⟨63, 15, 0xFFFF, { cmds := [{ cid := 0xFFFF, entry := (sqe 6 0 0xFFFF 0 0 0 0 0 0 0 0), time := 0 }], cqBase := 0x80000 }, { cid := 0xFFFF, entry := (sqe 6 0 0xFFFF 0 0 0 0 0 0 0 0), time := 0 }, pairUp { cmds := [{ cid := 0xFFFF, entry := (sqe 6 0 0xFFFF 0 0 0 0 0 0 0 0), time := 0 }], cqBase := 0x80000 }, by decide +kernel⟩,
   ⟨63, 15, 0xFFFF, { cmds := [{ cid := 0xFFFF, entry := (sqe 1 0 0xFFFF 63 0 0 0 0 0x50000 128 0), time := 0 }], cqBase := 0x80000 }, { cid := 0xFFFF, entry := (sqe 1 0 0xFFFF 63 0 0 0 0 0x50000 128 0), time := 0 }, pairUp { cmds := [{ cid := 0xFFFF, entry := (sqe 1 0 0xFFFF 63 0 0 0 0 0x50000 128 0), time := 0 }], cqBase := 0x80000 }, by decide +kernel⟩,
   ⟨63, 15, 0xFFFF, { cmds := [{ cid := 0xFFFF, entry := (sqe 1 0 0xFFFF 63 0 0 0 0 0x50000 128 600000), time := 0 }], cqBase := 0x80000 }, { cid := 0xFFFF, entry := (sqe 1 0 0xFFFF 63 0 0 0 0 0x50000 128 600000), time := 0 }, pairUp { cmds := [{ cid := 0xFFFF, entry := (sqe 1 0 0xFFFF 63 0 0 0 0 0x50000 128 600000), time := 0 }], cqBase := 0x80000 }, by decide +kernel⟩⟩

/-- O46: each clause of BinsAreAdministered has an input. -/
theorem test_hypotheses_BinsAreAdministered :
  (∃ (c : Cmd) (b : ℕ) (r : ℕ) (n : ℕ) (v : ℕ) (s : Machine.State), s.accepts true 1824 c ∧ c.operands 8 4294901760 ∧ b = c.f 0 8 ∧ r = c.f 8 8 ∧ n = regionSegs (s.getP P.CXL_REGION_SIZE r) ∧ (v = if c.f 32 32 = 0 then n - 2 else c.f 32 32) ∧ (64 ≤ b ∨ 32 ≤ r))
  ∧ (∃ (c : Cmd) (b : ℕ) (r : ℕ) (n : ℕ) (v : ℕ) (s : Machine.State), s.accepts true 1824 c ∧ c.operands 8 4294901760 ∧ b = c.f 0 8 ∧ r = c.f 8 8 ∧ n = regionSegs (s.getP P.CXL_REGION_SIZE r) ∧ (v = if c.f 32 32 = 0 then n - 2 else c.f 32 32) ∧ b < 64 ∧ r < 32 ∧ (s.binState b ≠ 0 ∨ s.bin? b ≠ none))
  ∧ (∃ (c : Cmd) (b : ℕ) (r : ℕ) (n : ℕ) (v : ℕ) (s : Machine.State), s.accepts true 1824 c ∧ c.operands 8 4294901760 ∧ b = c.f 0 8 ∧ r = c.f 8 8 ∧ n = regionSegs (s.getP P.CXL_REGION_SIZE r) ∧ (v = if c.f 32 32 = 0 then n - 2 else c.f 32 32) ∧ b < 64 ∧ r < 32 ∧ s.binState b = 0 ∧ s.bin? b = none ∧ s.getP P.CXL_REGION_STATE r ≠ 1)
  ∧ (∃ (c : Cmd) (b : ℕ) (r : ℕ) (n : ℕ) (v : ℕ) (s : Machine.State), s.accepts true 1824 c ∧ c.operands 8 4294901760 ∧ b = c.f 0 8 ∧ r = c.f 8 8 ∧ n = regionSegs (s.getP P.CXL_REGION_SIZE r) ∧ (v = if c.f 32 32 = 0 then n - 2 else c.f 32 32) ∧ b < 64 ∧ r < 32 ∧ s.binState b = 0 ∧ s.bin? b = none ∧ s.getP P.CXL_REGION_STATE r = 1 ∧ s.binOn r ≠ none)
  ∧ (∃ (c : Cmd) (b : ℕ) (r : ℕ) (n : ℕ) (v : ℕ) (s : Machine.State), s.accepts true 1824 c ∧ c.operands 8 4294901760 ∧ b = c.f 0 8 ∧ r = c.f 8 8 ∧ n = regionSegs (s.getP P.CXL_REGION_SIZE r) ∧ (v = if c.f 32 32 = 0 then n - 2 else c.f 32 32) ∧ b < 64 ∧ r < 32 ∧ s.binState b = 0 ∧ s.bin? b = none ∧ s.getP P.CXL_REGION_STATE r = 1 ∧ s.binOn r = none ∧ n < 8)
  ∧ (∃ (c : Cmd) (b : ℕ) (r : ℕ) (n : ℕ) (v : ℕ) (s : Machine.State), s.accepts true 1824 c ∧ c.operands 8 4294901760 ∧ b = c.f 0 8 ∧ r = c.f 8 8 ∧ n = regionSegs (s.getP P.CXL_REGION_SIZE r) ∧ (v = if c.f 32 32 = 0 then n - 2 else c.f 32 32) ∧ b < 64 ∧ r < 32 ∧ s.binState b = 0 ∧ s.bin? b = none ∧ s.getP P.CXL_REGION_STATE r = 1 ∧ s.binOn r = none ∧ 8 ≤ n ∧ n - 2 < c.f 32 32)
  ∧ (∃ (c : Cmd) (b : ℕ) (r : ℕ) (n : ℕ) (v : ℕ) (s : Machine.State), s.accepts true 1824 c ∧ c.operands 8 4294901760 ∧ b = c.f 0 8 ∧ r = c.f 8 8 ∧ n = regionSegs (s.getP P.CXL_REGION_SIZE r) ∧ (v = if c.f 32 32 = 0 then n - 2 else c.f 32 32) ∧ b < 64 ∧ r < 32 ∧ s.binState b = 0 ∧ s.bin? b = none ∧ s.getP P.CXL_REGION_STATE r = 1 ∧ s.binOn r = none ∧ 8 ≤ n ∧ c.f 32 32 ≤ n - 2)
  ∧ (∃ (c : Cmd) (b : ℕ) (s : Machine.State), s.accepts true 1825 c ∧ c.operands 4 4294966784 ∧ b = c.f 0 8 ∧ 64 ≤ b)
  ∧ (∃ (c : Cmd) (b : ℕ) (s : Machine.State), s.accepts true 1825 c ∧ c.operands 4 4294966784 ∧ b = c.f 0 8 ∧ b < 64 ∧ s.bin? b = none)
  ∧ (∃ (c : Cmd) (b : ℕ) (s : Machine.State) (x : Bin), s.accepts true 1825 c ∧ c.operands 4 4294966784 ∧ b = c.f 0 8 ∧ b < 64 ∧ s.bin? b = some x ∧ (s.binState b = 1 ∨ s.binState b = 5 ∧ s.getP P.CXL_REGION_STATE x.region = 3 ∨ x.deleting ≠ none))
  ∧ (∃ (c : Cmd) (b : ℕ) (s : Machine.State) (x : Bin), s.accepts true 1825 c ∧ c.operands 4 4294966784 ∧ b = c.f 0 8 ∧ b < 64 ∧ s.bin? b = some x ∧ x.deleting = none ∧ (s.binState b = 2 ∨ s.binState b = 4 ∨ s.binState b = 3 ∧ (s.getP P.FR_BIN_ARM b = 1 ∨ x.hasProtected = true ∧ c.f 8 1 = 0)))
  ∧ (∃ (c : Cmd) (b : ℕ) (s : Machine.State) (x : Bin), s.accepts true 1825 c ∧ c.operands 4 4294966784 ∧ b = c.f 0 8 ∧ b < 64 ∧ s.bin? b = some x ∧ (s.binState b = 3 ∨ s.binState b = 5 ∧ s.getP P.CXL_REGION_STATE x.region ≠ 3) ∧ s.getP P.FR_BIN_ARM b ≠ 1 ∧ (x.hasProtected = false ∨ c.f 8 1 = 1) ∧ x.deleting = none ∧ s.binRead b = true)
  ∧ (∃ (c : Cmd) (b : ℕ) (s : Machine.State) (x : Bin), s.accepts true 1825 c ∧ c.operands 4 4294966784 ∧ b = c.f 0 8 ∧ b < 64 ∧ s.bin? b = some x ∧ (s.binState b = 3 ∨ s.binState b = 5 ∧ s.getP P.CXL_REGION_STATE x.region ≠ 3) ∧ s.getP P.FR_BIN_ARM b ≠ 1 ∧ (x.hasProtected = false ∨ c.f 8 1 = 1) ∧ x.deleting = none ∧ s.binRead b = false ∧ (∀ f ∈ s.fr.wb, b ∉ f.bins))
  ∧ (∃ (c : Cmd) (i : Instr) (op : ℕ) (k : ℕ) (n : ℕ) (r : ℕ) (b : ℕ) (s : Machine.State), (i, op, k, n, r) ∈ [(Instr.binFormat c, 1826, 1, 4, 4294966784), (Instr.binSanitise c, 1827, 2, 8, 4294966784)] ∧ s.accepts true op c ∧ c.operands n r ∧ b = c.f 0 8 ∧ (64 ≤ b ∨ k = 2 ∧ c.f 32 32 ≠ 1396788809))
  ∧ (∃ (c : Cmd) (i : Instr) (op : ℕ) (k : ℕ) (n : ℕ) (r : ℕ) (b : ℕ) (s : Machine.State), (i, op, k, n, r) ∈ [(Instr.binFormat c, 1826, 1, 4, 4294966784), (Instr.binSanitise c, 1827, 2, 8, 4294966784)] ∧ s.accepts true op c ∧ c.operands n r ∧ b = c.f 0 8 ∧ b < 64 ∧ (k = 2 → c.f 32 32 = 1396788809) ∧ s.bin? b = none)
  ∧ (∃ (c : Cmd) (i : Instr) (op : ℕ) (k : ℕ) (n : ℕ) (r : ℕ) (b : ℕ) (s : Machine.State) (x : Bin), (i, op, k, n, r) ∈ [(Instr.binFormat c, 1826, 1, 4, 4294966784), (Instr.binSanitise c, 1827, 2, 8, 4294966784)] ∧ s.accepts true op c ∧ c.operands n r ∧ b = c.f 0 8 ∧ b < 64 ∧ (k = 2 → c.f 32 32 = 1396788809) ∧ s.bin? b = some x ∧ (s.binState b = 1 ∨ x.deleting ≠ none))
  ∧ (∃ (c : Cmd) (i : Instr) (op : ℕ) (k : ℕ) (n : ℕ) (r : ℕ) (b : ℕ) (s : Machine.State) (x : Bin), (i, op, k, n, r) ∈ [(Instr.binFormat c, 1826, 1, 4, 4294966784), (Instr.binSanitise c, 1827, 2, 8, 4294966784)] ∧ s.accepts true op c ∧ c.operands n r ∧ b = c.f 0 8 ∧ b < 64 ∧ (k = 2 → c.f 32 32 = 1396788809) ∧ s.bin? b = some x ∧ s.binState b ≠ 1 ∧ x.deleting = none ∧ (s.binState b ≠ 3 ∨ s.getP P.FR_BIN_ARM b = 1 ∨ x.hasProtected = true ∧ c.f 8 1 = 0))
  ∧ (∃ (c : Cmd) (i : Instr) (op : ℕ) (k : ℕ) (n : ℕ) (r : ℕ) (b : ℕ) (s : Machine.State) (x : Bin), (i, op, k, n, r) ∈ [(Instr.binFormat c, 1826, 1, 4, 4294966784), (Instr.binSanitise c, 1827, 2, 8, 4294966784)] ∧ s.accepts true op c ∧ c.operands n r ∧ b = c.f 0 8 ∧ b < 64 ∧ (k = 2 → c.f 32 32 = 1396788809) ∧ s.bin? b = some x ∧ s.binState b = 3 ∧ x.deleting = none ∧ s.getP P.FR_BIN_ARM b ≠ 1 ∧ (x.hasProtected = false ∨ c.f 8 1 = 1))
  ∧ (∃ (c : Cmd) (b : ℕ) (s : Machine.State), s.accepts false 1828 c ∧ c.operands 1 0 ∧ b = c.f 0 8 ∧ 64 ≤ b)
  ∧ (∃ (c : Cmd) (b : ℕ) (s : Machine.State), s.accepts false 1828 c ∧ c.operands 1 0 ∧ b = c.f 0 8 ∧ b < 64 ∧ ((s.bin? b).bind fun x => x.admin) = none)
  ∧ (∃ (c : Cmd) (b : ℕ) (s : Machine.State) (a3 : BinAdmin), s.accepts false 1828 c ∧ c.operands 1 0 ∧ b = c.f 0 8 ∧ b < 64 ∧ ((s.bin? b).bind fun x => x.admin) = some a3)
  ∧ (∃ (b : ℕ) (n : ℕ) (s : Machine.State), b < 64 ∧ (((s.bin? b).bind fun x => x.admin) = none ∨ s.binState b ≠ 1))
  ∧ (∃ (b : ℕ) (x : Bin) (a : BinAdmin) (s : Machine.State), b < 64 ∧ s.bin? b = some x ∧ x.admin = some a ∧ s.binState b = 1 ∧ a.op = 2)
  ∧ (∃ (w : ℕ) (q : ℕ) (cid : ℕ) (b : ℕ) (tk : ℕ) (p : Pair) (k : QCmd) (x : Bin) (f : Flight) (s : Machine.State), w < 64 ∧ q < 16 ∧ cid < 65536 ∧ s.cq.pairs = [(w * 16 + q, some p)] ∧ p.cmds = [k] ∧ k.cid = cid ∧ k.fate = 1 ∧ b = sqField k.entry 4 1 ∧ sqField k.entry 36 4 ≠ 0 ∧ s.queuesRun = true ∧ s.binList = [b] ∧ s.bin? b = some x ∧ x.deleting = some tk ∧ s.awaits tk f ∧ (∀ g ∈ s.fr.wb, b ∉ g.bins)) :=
  ⟨⟨cmd 8 (64 ||| 31 <<< 8 ||| 0 <<< 32), 64, 31, 8, 6, (withP [(P.CXL_REGION_SIZE, 31, 0x90000000), (P.CXL_REGION_STATE, 31, 1)] up), by decide +kernel⟩,
   ⟨cmd 8 (63 ||| 31 <<< 8 ||| 0 <<< 32), 63, 31, 8, 6, binUp 3 { segs := 8, wseg := 2 } (withP [(P.CXL_REGION_SIZE, 31, 0x90000000), (P.CXL_REGION_STATE, 31, 1)] up), by decide +kernel⟩,
   ⟨cmd 8 (63 ||| 31 <<< 8 ||| 0 <<< 32), 63, 31, 0, 0, up, by decide +kernel⟩,
   ⟨cmd 8 (63 ||| 31 <<< 8 ||| 0 <<< 32), 63, 31, 8, 6, { (withP [(P.CXL_REGION_SIZE, 31, 0x90000000), (P.CXL_REGION_STATE, 31, 1)] up) with fr := { bins := [(5, some { region := 31 })] } }, by decide +kernel⟩,
   ⟨cmd 8 (63 ||| 31 <<< 8 ||| 0 <<< 32), 63, 31, 7, 5, (withP [(P.CXL_REGION_SIZE, 31, 0x8FFFFFFF), (P.CXL_REGION_STATE, 31, 1)] up), by decide +kernel⟩,
   ⟨cmd 8 (63 ||| 31 <<< 8 ||| 7 <<< 32), 63, 31, 8, 7, (withP [(P.CXL_REGION_SIZE, 31, 0x90000000), (P.CXL_REGION_STATE, 31, 1)] up), by decide +kernel⟩,
   ⟨cmd 8 (63 ||| 31 <<< 8 ||| 0 <<< 32), 63, 31, 8, 6, (withP [(P.CXL_REGION_SIZE, 31, 0x90000000), (P.CXL_REGION_STATE, 31, 1)] up), by decide +kernel⟩,
   ⟨cmd 4 (64 ||| 0 <<< 8), 64, up, by decide +kernel⟩,
   ⟨cmd 4 (63 ||| 0 <<< 8), 63, up, by decide +kernel⟩,
   ⟨cmd 4 (63 ||| 0 <<< 8), 63, binUp 5 { region := 31, segs := 8, wseg := 2, clips := [{ id := 1, first := 5, last := 6, phase := 2, flags := 1 }] } (up.setP P.CXL_REGION_STATE 31 3), { region := 31, segs := 8, wseg := 2, clips := [{ id := 1, first := 5, last := 6, phase := 2, flags := 1 }] }, by decide +kernel⟩,
   ⟨cmd 4 (63 ||| 0 <<< 8), 63, binUp 3 { region := 31, segs := 8, wseg := 2, clips := [{ id := 1, first := 5, last := 6, phase := 2, flags := 1 }] } up, { region := 31, segs := 8, wseg := 2, clips := [{ id := 1, first := 5, last := 6, phase := 2, flags := 1 }] }, by decide +kernel⟩,
   ⟨cmd 4 (63 ||| 1 <<< 8), 63, { binUp 3 { region := 31, segs := 8, wseg := 2, clips := [{ id := 1, first := 5, last := 6, phase := 2, flags := 1 }] } up with cq := { pairs := [(1023, some { cmds := [{ cid := 9, entry := sqe 1 0 9 63 0 1 0 0 0x50000 128 0, time := 0 }] })] } }, { region := 31, segs := 8, wseg := 2, clips := [{ id := 1, first := 5, last := 6, phase := 2, flags := 1 }] }, by decide +kernel⟩,
   ⟨cmd 4 (63 ||| 1 <<< 8), 63, binUp 3 { region := 31, segs := 8, wseg := 2, clips := [{ id := 1, first := 5, last := 6, phase := 2, flags := 1 }] } up, { region := 31, segs := 8, wseg := 2, clips := [{ id := 1, first := 5, last := 6, phase := 2, flags := 1 }] }, by decide +kernel⟩,
   ⟨cmd 4 (64 ||| 0 <<< 8), .binFormat (cmd 4 (64 ||| 0 <<< 8)), 0x722, 1, 4, 0xFFFFFE00, 64, up, by decide +kernel⟩,
   ⟨cmd 8 (63 ||| 0 <<< 8 ||| 1396788809 <<< 32), .binSanitise (cmd 8 (63 ||| 0 <<< 8 ||| 1396788809 <<< 32)), 0x723, 2, 8, 0xFFFFFE00, 63, up, by decide +kernel⟩,
   ⟨cmd 8 (63 ||| 0 <<< 8 ||| 1396788809 <<< 32), .binSanitise (cmd 8 (63 ||| 0 <<< 8 ||| 1396788809 <<< 32)), 0x723, 2, 8, 0xFFFFFE00, 63, binUp 1 { region := 31, segs := 8, wseg := 2, clips := [{ id := 1, first := 5, last := 6, phase := 2, flags := 1 }] } up, { region := 31, segs := 8, wseg := 2, clips := [{ id := 1, first := 5, last := 6, phase := 2, flags := 1 }] }, by decide +kernel⟩,
   ⟨cmd 4 (63 ||| 0 <<< 8), .binFormat (cmd 4 (63 ||| 0 <<< 8)), 0x722, 1, 4, 0xFFFFFE00, 63, binUp 3 { region := 31, segs := 8, wseg := 2, clips := [{ id := 1, first := 5, last := 6, phase := 2, flags := 1 }] } up, { region := 31, segs := 8, wseg := 2, clips := [{ id := 1, first := 5, last := 6, phase := 2, flags := 1 }] }, by decide +kernel⟩,
   ⟨cmd 8 (63 ||| 1 <<< 8 ||| 1396788809 <<< 32), .binSanitise (cmd 8 (63 ||| 1 <<< 8 ||| 1396788809 <<< 32)), 0x723, 2, 8, 0xFFFFFE00, 63, binUp 3 { region := 31, segs := 8, wseg := 2, clips := [{ id := 1, first := 5, last := 6, phase := 2, flags := 1 }] } up, { region := 31, segs := 8, wseg := 2, clips := [{ id := 1, first := 5, last := 6, phase := 2, flags := 1 }] }, by decide +kernel⟩,
   ⟨cmd 1 64, 64, up, by decide +kernel⟩,
   ⟨cmd 1 63, 63, up, by decide +kernel⟩,
   ⟨cmd 1 63, 63, binUp 1 { region := 31, segs := 8, wseg := 2, admin := some { op := 2, pos := 3, total := 8, start := 0 } } up, { op := 2, pos := 3, total := 8, start := 0 }, by decide +kernel⟩,
   ⟨63, 0, up, by decide +kernel⟩,
   ⟨63, { region := 31, segs := 8, wseg := 2, admin := some { op := 2, pos := 3, total := 8, start := 0 } }, { op := 2, pos := 3, total := 8, start := 0 }, binUp 1 { region := 31, segs := 8, wseg := 2, admin := some { op := 2, pos := 3, total := 8, start := 0 } } up, by decide +kernel⟩,
   ⟨63, 15, 0xFFFF, 63, 9, { cmds := [{ cid := 0xFFFF, entry := (sqe 1 0 0xFFFF 63 0 1 0 0 0x50000 128 600000), time := 0, fate := 1 }], cqBase := 0x80000 }, { cid := 0xFFFF, entry := (sqe 1 0 0xFFFF 63 0 1 0 0 0x50000 128 600000), time := 0, fate := 1 }, { region := 31, segs := 8, wseg := 2, deleting := some 9 }, flight 0x721, flying 0x721 { binUp 3 { region := 31, segs := 8, wseg := 2, deleting := some 9 } up with cq := { pairs := [(1023, some { cmds := [{ cid := 0xFFFF, entry := (sqe 1 0 0xFFFF 63 0 1 0 0 0x50000 128 600000), time := 0, fate := 1 }], cqBase := 0x80000 })] } }, by decide +kernel⟩⟩

/-- O47: each clause of StreamsOpenAndClose has an input. -/
theorem test_hypotheses_StreamsOpenAndClose :
  (∃ (c : Cmd) (e : ℕ) (m : ℕ) (l : List ℕ) (s : Machine.State), s.accepts false 2049 c ∧ c.win < 64 ∧ c.operands 12 0 ∧ e = c.f 0 8 ∧ m = c.f 8 8 ∧ (vcOpenOperands c = false ∨ s.preview.streamOk e m = false))
  ∧ (∃ (c : Cmd) (e : ℕ) (m : ℕ) (l : List ℕ) (s : Machine.State), s.accepts false 2049 c ∧ c.win < 64 ∧ c.operands 12 0 ∧ e = c.f 0 8 ∧ m = c.f 8 8 ∧ vcOpenOperands c = true ∧ s.preview.streamOk e m = true ∧ m = 3 ∧ s.bin? (c.f 16 8) = none)
  ∧ (∃ (c : Cmd) (e : ℕ) (m : ℕ) (l : List ℕ) (s : Machine.State), s.accepts false 2049 c ∧ c.win < 64 ∧ c.operands 12 0 ∧ e = c.f 0 8 ∧ m = c.f 8 8 ∧ vcOpenOperands c = true ∧ s.preview.streamOk e m = true ∧ (m = 3 → s.bin? (c.f 16 8) ≠ none) ∧ s.vcState e ≠ 0)
  ∧ (∃ (c : Cmd) (e : ℕ) (m : ℕ) (l : List ℕ) (s : Machine.State) (r : Machine.State × List ℕ × Option ℕ) (k : ℕ), s.accepts false 2049 c ∧ c.win < 64 ∧ c.operands 12 0 ∧ e = c.f 0 8 ∧ m = c.f 8 8 ∧ vcOpenOperands c = true ∧ s.preview.streamOk e m = true ∧ (m = 3 → s.bin? (c.f 16 8) ≠ none) ∧ s.vcState e = 0 ∧ (r = if m = 1 then State.codecAlloc e (ycStride (s.preview.capture e).outW * (s.preview.capture e).outH) 2 s else if m = 2 then State.codecAlloc e 67108864 1 s else (s, [], none)) ∧ r.2.2 = some k)
  ∧ (∃ (c : Cmd) (e : ℕ) (m : ℕ) (l : List ℕ) (s : Machine.State) (r : Machine.State × List ℕ × Option ℕ), s.accepts false 2049 c ∧ c.win < 64 ∧ c.operands 12 0 ∧ e = c.f 0 8 ∧ m = c.f 8 8 ∧ vcOpenOperands c = true ∧ s.preview.streamOk e m = true ∧ (m = 3 → s.bin? (c.f 16 8) ≠ none) ∧ s.vcState e = 0 ∧ (r = if m = 1 then State.codecAlloc e (ycStride (s.preview.capture e).outW * (s.preview.capture e).outH) 2 s else if m = 2 then State.codecAlloc e 67108864 1 s else (s, [], none)) ∧ r.2 = (l, none))
  ∧ (∃ (c : Cmd) (e : ℕ) (s : Machine.State), s.accepts false 2050 c ∧ c.win < 64 ∧ c.operands 1 0 ∧ e = c.f 0 8 ∧ 2 ≤ e)
  ∧ (∃ (c : Cmd) (e : ℕ) (s : Machine.State), s.accepts false 2050 c ∧ c.win < 64 ∧ c.operands 1 0 ∧ e = c.f 0 8 ∧ e < 2 ∧ (s.vcState e = 0 ∨ c.win ≠ 0 ∧ s.vcp e P.VC_HOLDER ≠ c.win))
  ∧ (∃ (c : Cmd) (e : ℕ) (s : Machine.State), s.accepts false 2050 c ∧ c.win < 64 ∧ c.operands 1 0 ∧ e = c.f 0 8 ∧ e < 2 ∧ s.vcState e ≠ 0 ∧ (s.vcp e P.VC_HOLDER = c.win ∨ c.win = 0) ∧ (s.engine e).closing = none ∧ (s.vcState e = 2 ∨ (s.engine e).work ≠ none) ∧ c.immediate = false)
  ∧ (∃ (c : Cmd) (e : ℕ) (s : Machine.State), s.accepts false 2050 c ∧ c.win < 64 ∧ c.operands 1 0 ∧ e = c.f 0 8 ∧ e < 2 ∧ s.vcState e ≠ 0 ∧ (s.vcp e P.VC_HOLDER = c.win ∨ c.win = 0) ∧ (s.engine e).closing = none ∧ (s.vcState e = 2 ∨ (s.engine e).work ≠ none) ∧ c.immediate = true)
  ∧ (∃ (c : Cmd) (e : ℕ) (s : Machine.State), s.accepts false 2050 c ∧ c.win < 64 ∧ c.operands 1 0 ∧ e = c.f 0 8 ∧ e < 2 ∧ s.vcState e ≠ 0 ∧ (s.vcp e P.VC_HOLDER = c.win ∨ c.win = 0) ∧ (s.engine e).closing = none ∧ s.vcState e ≠ 2 ∧ (s.engine e).work = none ∧ (s.engine e).feeds = [] ∧ (s.engine e).keys = [])
  ∧ (∃ (c : Cmd) (e : ℕ) (s : Machine.State), s.accepts false 2051 c ∧ c.win < 64 ∧ c.operands 1 0 ∧ e = c.f 0 8 ∧ 2 ≤ e)
  ∧ (∃ (c : Cmd) (e : ℕ) (s : Machine.State), s.accepts false 2051 c ∧ c.win < 64 ∧ c.operands 1 0 ∧ e = c.f 0 8 ∧ e < 2 ∧ s.holds c.win e = false)
  ∧ (∃ (c : Cmd) (e : ℕ) (s : Machine.State), s.accepts false 2051 c ∧ c.win < 64 ∧ c.operands 1 0 ∧ e = c.f 0 8 ∧ e < 2 ∧ s.holds c.win e = true ∧ s.vcp e P.VC_MODE ≠ 1)
  ∧ (∃ (c : Cmd) (e : ℕ) (s : Machine.State), s.accepts false 2051 c ∧ c.win < 64 ∧ c.operands 1 0 ∧ e = c.f 0 8 ∧ e < 2 ∧ s.holds c.win e = true ∧ s.vcp e P.VC_MODE = 1 ∧ c.immediate = true)
  ∧ (∃ (c : Cmd) (e : ℕ) (s : Machine.State), s.accepts false 2051 c ∧ c.win < 64 ∧ c.operands 1 0 ∧ e = c.f 0 8 ∧ e < 2 ∧ s.holds c.win e = true ∧ s.vcp e P.VC_MODE = 1 ∧ c.immediate = false)
  ∧ (∃ (c : Cmd) (e : ℕ) (h : ℕ) (n : ℕ) (s : Machine.State), s.accepts false 2053 c ∧ c.win < 64 ∧ c.operands 20 4294901760 ∧ e = c.f 0 8 ∧ h = c.f 64 64 ∧ n = c.f 128 32 ∧ (2 ≤ e ∨ 2 ≤ c.f 8 8 ∨ h = 0 ∨ h % 64 ≠ 0 ∨ n < 64 ∨ 2112 < n ∨ n % 64 ≠ 0))
  ∧ (∃ (c : Cmd) (e : ℕ) (h : ℕ) (n : ℕ) (s : Machine.State) (o : Option PicRecord), s.accepts false 2053 c ∧ c.win < 64 ∧ c.operands 20 4294901760 ∧ e = c.f 0 8 ∧ h = c.f 64 64 ∧ n = c.f 128 32 ∧ e < 2 ∧ c.f 8 8 < 2 ∧ h ≠ 0 ∧ h % 64 = 0 ∧ 64 ≤ n ∧ n ≤ 2112 ∧ n % 64 = 0 ∧ (o = if c.f 8 8 = 0 then (s.engine e).records.head? else List.find? (fun r => r.number == c.f 32 32) (s.engine e).records) ∧ o = none)
  ∧ (∃ (c : Cmd) (e : ℕ) (h : ℕ) (n : ℕ) (s : Machine.State) (o : Option PicRecord) (r : PicRecord), s.accepts false 2053 c ∧ c.win < 64 ∧ c.operands 20 4294901760 ∧ e = c.f 0 8 ∧ h = c.f 64 64 ∧ n = c.f 128 32 ∧ e < 2 ∧ c.f 8 8 < 2 ∧ h ≠ 0 ∧ h % 64 = 0 ∧ 64 ≤ n ∧ n ≤ 2112 ∧ n % 64 = 0 ∧ (o = if c.f 8 8 = 0 then (s.engine e).records.head? else List.find? (fun r => r.number == c.f 32 32) (s.engine e).records) ∧ o = some r ∧ c.host = [] ∧ s.hostGood h n = n)
  ∧ (∃ (c : Cmd) (e : ℕ) (h : ℕ) (n : ℕ) (s : Machine.State) (o : Option PicRecord) (r : PicRecord), s.accepts false 2053 c ∧ c.win < 64 ∧ c.operands 20 4294901760 ∧ e = c.f 0 8 ∧ h = c.f 64 64 ∧ n = c.f 128 32 ∧ e < 2 ∧ c.f 8 8 < 2 ∧ h ≠ 0 ∧ h % 64 = 0 ∧ 64 ≤ n ∧ n ≤ 2112 ∧ n % 64 = 0 ∧ (o = if c.f 8 8 = 0 then (s.engine e).records.head? else List.find? (fun r => r.number == c.f 32 32) (s.engine e).records) ∧ o = some r ∧ c.host = [] ∧ s.hostGood h n < n) :=
  ⟨⟨cmd 12 (1 ||| 4 <<< 8 ||| 0 <<< 16), 1, 4, [], vcUp 0 0 {}, by decide +kernel⟩,
   ⟨cmd 12 (1 ||| 3 <<< 8 ||| 63 <<< 16), 1, 3, [], vcUp 0 0 {}, by decide +kernel⟩,
   ⟨cmd 12 (1 ||| 2 <<< 8 ||| 0 <<< 16), 1, 2, [], vcUp 1 2 {}, by decide +kernel⟩,
   ⟨cmd 12 (1 ||| 2 <<< 8 ||| 0 <<< 16), 1, 2, [], (vcUp 0 0 {}).setP P.MEM_CARVE_QUOTA 3 0, State.codecAlloc 1 0x4000000 1 ((vcUp 0 0 {}).setP P.MEM_CARVE_QUOTA 3 0), 7, by decide +kernel⟩,
   ⟨cmd 12 (1 ||| 2 <<< 8 ||| 0 <<< 16), 1, 2, [carveWindow 3], vcUp 0 0 {}, State.codecAlloc 1 0x4000000 1 (vcUp 0 0 {}), by decide +kernel⟩,
   ⟨cmd 1 2, 2, up, by decide +kernel⟩,
   ⟨cmd 1 1, 1, up, by decide +kernel⟩,
   ⟨cmd 1 1, 1, vcUp 2 2 {}, by decide +kernel⟩,
   ⟨{ cmd 1 1 with flags := 4 }, 1, vcUp 2 2 {}, by decide +kernel⟩,
   ⟨cmd 1 1, 1, vcUp 1 2 {}, by decide +kernel⟩,
   ⟨cmd 1 2, 2, up, by decide +kernel⟩,
   ⟨cmd 1 1, 1, up, by decide +kernel⟩,
   ⟨cmd 1 1, 1, vcUp 1 2 {}, by decide +kernel⟩,
   ⟨{ cmd 1 1 with flags := 4 }, 1, vcUp 1 1 {}, by decide +kernel⟩,
   ⟨cmd 1 1, 1, vcUp 2 1 {}, by decide +kernel⟩,
   ⟨cmd 20 (1 ||| 0 <<< 8 ||| 0x50000 <<< 64 ||| 2113 <<< 128), 1, 0x50000, 2113, up, by decide +kernel⟩,
   ⟨cmd 20 (1 ||| 0 <<< 8 ||| 0x50000 <<< 64 ||| 64 <<< 128), 1, 0x50000, 64, up, none, by decide +kernel⟩,
   ⟨cmd 20 (1 ||| 0 <<< 8 ||| 0x50000 <<< 64 ||| 2112 <<< 128), 1, 0x50000, 2112, vcUp 1 1 { records := [{ tag := 5, number := 3, width := 256, height := 128 }] }, some { tag := 5, number := 3, width := 256, height := 128 }, { tag := 5, number := 3, width := 256, height := 128 }, by decide +kernel⟩,
   ⟨cmd 20 (1 ||| 3 <<< 32 ||| 1 <<< 8 ||| 0x50000 <<< 64 ||| 128 <<< 128), 1, 0x50000, 128, { vcUp 1 1 { records := [{ tag := 5, number := 3, width := 256, height := 128 }] } with ctl := { up.ctl with hostFault := [(0x50040, 1)] } }, some { tag := 5, number := 3, width := 256, height := 128 }, { tag := 5, number := 3, width := 256, height := 128 }, by decide +kernel⟩⟩

/-- O48: each clause of PicturesAreFedDecodedAndCompleted has an input. -/
theorem test_hypotheses_PicturesAreFedDecodedAndCompleted :
  (∃ (c : Cmd) (e : ℕ) (n : ℕ) (a : ℕ) (s : Machine.State), s.accepts false 2052 c ∧ c.win < 64 ∧ c.operands 16 4294966272 ∧ e = c.f 0 8 ∧ n = c.f 32 32 ∧ a = c.f 64 64 ∧ (2 ≤ e ∨ 16777216 < n ∨ n = 0 ∧ c.f 8 1 = 0))
  ∧ (∃ (c : Cmd) (e : ℕ) (n : ℕ) (a : ℕ) (s : Machine.State), s.accepts false 2052 c ∧ c.win < 64 ∧ c.operands 16 4294966272 ∧ e = c.f 0 8 ∧ n = c.f 32 32 ∧ a = c.f 64 64 ∧ e < 2 ∧ n ≤ 16777216 ∧ (n ≠ 0 ∨ c.f 8 1 = 1) ∧ s.holds c.win e = false)
  ∧ (∃ (c : Cmd) (e : ℕ) (n : ℕ) (a : ℕ) (s : Machine.State), s.accepts false 2052 c ∧ c.win < 64 ∧ c.operands 16 4294966272 ∧ e = c.f 0 8 ∧ n = c.f 32 32 ∧ a = c.f 64 64 ∧ e < 2 ∧ n ≤ 16777216 ∧ (n ≠ 0 ∨ c.f 8 1 = 1) ∧ s.holds c.win e = true ∧ s.vcp e P.VC_MODE ≠ 2)
  ∧ (∃ (c : Cmd) (e : ℕ) (n : ℕ) (a : ℕ) (s : Machine.State), s.accepts false 2052 c ∧ c.win < 64 ∧ c.operands 16 4294966272 ∧ e = c.f 0 8 ∧ n = c.f 32 32 ∧ a = c.f 64 64 ∧ e < 2 ∧ n ≤ 16777216 ∧ (n ≠ 0 ∨ c.f 8 1 = 1) ∧ s.holds c.win e = true ∧ s.vcp e P.VC_MODE = 2 ∧ (s.engine e).ended = true)
  ∧ (∃ (c : Cmd) (e : ℕ) (n : ℕ) (a : ℕ) (s : Machine.State), s.accepts false 2052 c ∧ c.win < 64 ∧ c.operands 16 4294966272 ∧ e = c.f 0 8 ∧ n = c.f 32 32 ∧ a = c.f 64 64 ∧ e < 2 ∧ n ≤ 16777216 ∧ (n ≠ 0 ∨ c.f 8 1 = 1) ∧ s.holds c.win e = true ∧ s.vcp e P.VC_MODE = 2 ∧ (s.engine e).ended = false ∧ (∀ f ∈ (s.engine e).feeds, f.fin = false) ∧ c.host = [] ∧ c.f 9 1 = 0 ∧ s.hostGood a n < n)
  ∧ (∃ (c : Cmd) (e : ℕ) (n : ℕ) (a : ℕ) (s : Machine.State), s.accepts false 2052 c ∧ c.win < 64 ∧ c.operands 16 4294966272 ∧ e = c.f 0 8 ∧ n = c.f 32 32 ∧ a = c.f 64 64 ∧ e < 2 ∧ n ≤ 16777216 ∧ (n ≠ 0 ∨ c.f 8 1 = 1) ∧ s.holds c.win e = true ∧ s.vcp e P.VC_MODE = 2 ∧ (s.engine e).ended = false ∧ (∀ f ∈ (s.engine e).feeds, f.fin = false) ∧ c.host = [] ∧ c.f 9 1 = 1 ∧ n ≠ 0 ∧ s.hostBuffer a n = none)
  ∧ (∃ (c : Cmd) (e : ℕ) (n : ℕ) (a : ℕ) (s : Machine.State) (l : List Byte), s.accepts false 2052 c ∧ c.win < 64 ∧ c.operands 16 4294966272 ∧ e = c.f 0 8 ∧ n = c.f 32 32 ∧ a = c.f 64 64 ∧ e < 2 ∧ n ≤ 16777216 ∧ (n ≠ 0 ∨ c.f 8 1 = 1) ∧ s.holds c.win e = true ∧ s.vcp e P.VC_MODE = 2 ∧ (s.engine e).ended = false ∧ (∀ f ∈ (s.engine e).feeds, f.fin = false) ∧ c.host = [] ∧ (c.f 9 1 = 0 ∧ s.hostGood a n = n ∧ l = takeBytes zeroByte s.ctl.hostMem a n ∨ c.f 9 1 = 1 ∧ s.firstPoison a n = none ∧ s.dram.flaws = [] ∧ l = s.devRead a n ∧ ∃ b, s.hostBuffer a n = some b ∧ (b.carve = 2 ∨ b.carve = 3) ∧ b.window = some c.win) ∧ (s.engine e).feeds = [] ∧ (s.engine e).input.length + n ≤ 67108864)
  ∧ (∃ (c : Cmd) (e : ℕ) (n : ℕ) (a : ℕ) (s : Machine.State) (l : List Byte), s.accepts false 2052 c ∧ c.win < 64 ∧ c.operands 16 4294966272 ∧ e = c.f 0 8 ∧ n = c.f 32 32 ∧ a = c.f 64 64 ∧ e < 2 ∧ n ≤ 16777216 ∧ (n ≠ 0 ∨ c.f 8 1 = 1) ∧ s.holds c.win e = true ∧ s.vcp e P.VC_MODE = 2 ∧ (s.engine e).ended = false ∧ (∀ f ∈ (s.engine e).feeds, f.fin = false) ∧ c.host = [] ∧ (c.f 9 1 = 0 ∧ s.hostGood a n = n ∧ l = takeBytes zeroByte s.ctl.hostMem a n ∨ c.f 9 1 = 1 ∧ s.firstPoison a n = none ∧ s.dram.flaws = [] ∧ l = s.devRead a n ∧ ∃ b, s.hostBuffer a n = some b ∧ (b.carve = 2 ∨ b.carve = 3) ∧ b.window = some c.win) ∧ ((s.engine e).feeds = [] ∧ 67108864 < (s.engine e).input.length + n ∨ ∃ g r, (s.engine e).feeds = g :: r ∧ 67108864 < (s.engine e).input.length + (s.feedBytes g).length))
  ∧ (∃ (e : ℕ) (s : Machine.State) (f : Feed) (g : Flight), e < 2 ∧ (s.engine e).feeds = [f] ∧ s.awaits f.ticket g)
  ∧ (∃ (e : ℕ) (t : ℕ) (s : Machine.State), e < 2 ∧ (s.vcState e = 0 ∨ s.vcState e = 3 ∨ s.vcp e P.VC_MODE < 2 ∨ s.paceTime e = none))
  ∧ (∃ (e : ℕ) (t : ℕ) (now : ℕ) (p : ℕ) (x : Engine) (y : Engine) (u : List Byte) (irap : Bool) (s : Machine.State), e < 2 ∧ s.engine e = x ∧ x.work = none ∧ x.closing = none ∧ s.ctl.staged = [] ∧ s.captureHeld = false ∧ s.vcp e P.VC_DEC_PACE = 255 ∧ x.pace = some p ∧ s.getP P.TH_STEP 0 = 0 ∧ now = max (max s.now t) p ∧ (s.vcState e = 1 ∨ s.vcState e = 2) ∧ ((s.vcp e P.VC_MODE = 2 ∧ x.feeds = [] ∧ ∃ v rest, nextUnit x.input x.ended = some (u, v, rest) ∧ irap = decide (16 ≤ v ∧ v ≤ 23) ∧ x.badUnit = false ∧ (x.begun = true ∨ irap = true) ∧ ¬(x.skipRasl = true ∧ (v = 8 ∨ v = 9)) ∧ y = { bin := x.bin, recEngine := x.recEngine, clip := x.clip, tag := x.tag, period := x.period, pace := x.pace, paceDue := x.paceDue, number := x.number, gop := x.gop, idr := x.idr, keys := x.keys, prevBits := x.prevBits, first := x.first, work := x.work, skipped := x.skipped, dropped := x.dropped, records := x.records, bufs := x.bufs, width := x.width, height := x.height, input := rest, ended := x.ended, feeds := x.feeds, begun := true, skipRasl := if irap = true then !x.begun && v == 21 else x.skipRasl, nextSeq := x.nextSeq, badSps := x.badSps, pics := x.pics, newest := x.newest, mode := x.mode, good := x.good, closing := x.closing, freeing := x.freeing, nextStart := x.nextStart }) ∨ s.vcp e P.VC_MODE = 3 ∧ ∃ l q r, s.proxyRecords e = [(x.clip, l)] ∧ x.nextSeq = some q ∧ List.find? (fun r => decide (q ≤ r.seq)) l = some r ∧ irap = r.isIdr ∧ u = List.take (r.field 44 4) (List.drop 32 r.body) ∧ y = { badUnit := !(s.recPoison r).isEmpty, bin := x.bin, recEngine := x.recEngine, clip := x.clip, tag := x.tag, period := x.period, pace := x.pace, paceDue := x.paceDue, number := x.number, gop := x.gop, idr := x.idr, keys := x.keys, prevBits := x.prevBits, first := x.first, work := x.work, skipped := x.skipped, dropped := x.dropped, records := x.records, bufs := x.bufs, width := x.width, height := x.height, input := x.input, ended := x.ended, feeds := x.feeds, begun := true, skipRasl := x.skipRasl, nextSeq := some (r.seq + 1), badSps := x.badSps, pics := x.pics, newest := x.newest, mode := x.mode, good := x.good, closing := x.closing, freeing := x.freeing, nextStart := x.nextStart }))
  ∧ (∃ (e : ℕ) (t : ℕ) (o : PicOutcome) (s : Machine.State), e < 2 ∧ (s.engine e).work = none)
  ∧ (∃ (e : ℕ) (t : ℕ) (o : PicOutcome) (x : Engine) (w : PicWork) (s : Machine.State), e < 2 ∧ s.engine e = x ∧ x.work = some w ∧ x.closing = none ∧ (¬(s.vcp e P.VC_MODE = 2 ∧ x.atEnd = true)) ∧ w.deadline < t)
  ∧ (∃ (e : ℕ) (t : ℕ) (o : PicOutcome) (x : Engine) (w : PicWork) (s : Machine.State) (k : Option ℕ) (m : List ℕ) (r : PicRecord), e < 2 ∧ s.engine e = x ∧ x.work = some w ∧ x.closing = none ∧ (¬(s.vcp e P.VC_MODE = 2 ∧ x.atEnd = true)) ∧ t ≤ w.deadline ∧ s.vcp e P.VC_MODE = 1 ∧ 64 ≤ s.vcp e P.VC_ENC_BIN ∧ s.clampAt e w o = k ∧ m = (s.poisonUnits [w.buffer] x.width x.height).eraseDups ∧ (r = { tag := w.tag, number := w.number, poc := o.poc, picType := if w.idr.isSome = true then 0 else 2, flags := 16 + 2 * b2n k.isSome + b2n !m.isEmpty, firstClamped := (Option.map (fun c => c / max (ctuCols x.width) 1) k).getD 65535, buffer := w.buffer, stride := ycStride x.width, width := x.width, height := x.height, start := w.start, done := t, bits := min o.bits w.budget, budget := w.budget, qp := o.qpAvg, phase := w.phase, skipped := x.skipped, damage := m }))
  ∧ (∃ (e : ℕ) (t : ℕ) (o : PicOutcome) (x : Engine) (w : PicWork) (s : Machine.State), e < 2 ∧ s.engine e = x ∧ x.work = some w ∧ x.closing = none ∧ (¬(s.vcp e P.VC_MODE = 2 ∧ x.atEnd = true)) ∧ t ≤ w.deadline ∧ 2 ≤ s.vcp e P.VC_MODE ∧ o.sps = none ∧ x.badSps ≠ none)
  ∧ (∃ (e : ℕ) (t : ℕ) (o : PicOutcome) (x : Engine) (w : PicWork) (s : Machine.State) (a13 : ℕ) (m : List ℕ) (r : PicRecord), e < 2 ∧ s.engine e = x ∧ x.work = some w ∧ x.closing = none ∧ (¬(s.vcp e P.VC_MODE = 2 ∧ x.atEnd = true)) ∧ t ≤ w.deadline ∧ 2 ≤ s.vcp e P.VC_MODE ∧ o.sps = none ∧ x.badSps = none ∧ s.dram.flaws = [] ∧ o.syntaxError = false ∧ o.missingRef = false ∧ o.output = [] ∧ (m = (o.marked ++ if w.poisoned = true then List.range (cdiv o.width 64 * cdiv o.height 64) else if o.picType < 2 then [] else s.poisonUnits (List.map Prod.snd x.pics ++ (Option.map Prod.snd x.newest).toList) o.width o.height).eraseDups) ∧ List.find? (fun a => !(s.pictureSelected a || Option.any (fun p => p.2 == a) x.newest || x.good == some a || x.pics.any fun p => p.2 == a)) x.bufs = some a13 ∧ r = { tag := w.tag, number := w.number, poc := o.poc, picType := o.picType, flags := (b2n !m.isEmpty) + 8 * b2n (x.mode == 1 && !m.isEmpty), buffer := a13, stride := ycStride o.width, width := o.width, height := o.height, start := w.start, done := t, bits := o.bits, qp := o.qpAvg, skipped := x.skipped, damage := m }) :=
  ⟨⟨cmd 16 (1 ||| 0 <<< 8 ||| 0 <<< 32 ||| 0x50000 <<< 64), 1, 0, 0x50000, up, by decide +kernel⟩,
   ⟨cmd 16 (1 ||| 1 <<< 8 ||| 0 <<< 32 ||| 0x50000 <<< 64), 1, 0, 0x50000, up, by decide +kernel⟩,
   ⟨cmd 16 (1 ||| 0 <<< 8 ||| 4 <<< 32 ||| 0x50000 <<< 64), 1, 4, 0x50000, vcUp 1 1 {}, by decide +kernel⟩,
   ⟨cmd 16 (1 ||| 0 <<< 8 ||| 4 <<< 32 ||| 0x50000 <<< 64), 1, 4, 0x50000, vcUp 1 2 { ended := true }, by decide +kernel⟩,
   ⟨cmd 16 (1 ||| 0 <<< 8 ||| 4 <<< 32 ||| 0x50000 <<< 64), 1, 4, 0x50000, { vcUp 1 2 {} with ctl := { up.ctl with hostFault := [(0x50003, 1)] } }, by decide +kernel⟩,
   ⟨cmd 16 (1 ||| 2 <<< 8 ||| 4 <<< 32 ||| 0x50000 <<< 64), 1, 4, 0x50000, vcUp 1 2 {}, by decide +kernel⟩,
   ⟨cmd 16 (1 ||| 2 <<< 8 ||| 4 <<< 32 ||| carveWindow 2 <<< 64), 1, 4, carveWindow 2, { vcUp 1 2 {} with dram := { buffers := [{ carve := 2, base := carveWindow 2, bytes := 0x200000, owner := .window 0, pages := [1024], order := 0 }] } }, [0, 0, 0, 0], by decide +kernel⟩,
   ⟨cmd 16 (1 ||| 0 <<< 8 ||| 4 <<< 32 ||| 0x50000 <<< 64), 1, 4, 0x50000, vcUp 1 2 { input := List.replicate 67108863 0 }, [0, 0, 0, 0], by refine ⟨?_, ?_, ?_, ?_, ?_, ?_, ?_, ?_, ?_, ?_, ?_, ?_, ?_, ?_, ?_, ?_⟩ <;> first | exact (Or.inl ⟨by decide +kernel, by rw [show (State.engine (vcUp 1 2 { input := List.replicate 67108863 0 }) 1).input.length = 67108863 from List.length_replicate]; decide⟩) | decide +kernel⟩,
   ⟨1, flying 0x804 (vcUp 1 2 { feeds := [{ ticket := 9, bytes := [1, 2], fin := false, since := 0 }] }), { ticket := 9, bytes := [1, 2], fin := false, since := 0 }, flight 0x804, by decide +kernel⟩,
   ⟨1, 5000, up, by decide +kernel⟩,
   ⟨1, 5000, 6000, 6000, { input := [0, 0, 1, 0x26, 1, 0x80, 7], ended := true, pace := some 6000 }, { input := [], ended := true, begun := true, pace := some 6000 }, [0, 0, 1, 0x26, 1, 0x80, 7], true, vcUp 1 2 { input := [0, 0, 1, 0x26, 1, 0x80, 7], ended := true, pace := some 6000 }, by refine ⟨?_, ?_, ?_, ?_, ?_, ?_, ?_, ?_, ?_, ?_, ?_, ?_⟩ <;> first | exact (Or.inl ⟨by decide +kernel, by decide +kernel, 19, [], by decide +kernel⟩) | decide +kernel⟩,
   ⟨1, 5000, { picType := 2, poc := 4, bits := 100 }, up, by decide +kernel⟩,
   ⟨1, 9001, { picType := 2, poc := 4, bits := 100 }, { work := some { number := 1, tag := 5, start := 0, deadline := 9000, budget := 100000, buffer := 0x60000 }, width := 256, height := 128 }, { number := 1, tag := 5, start := 0, deadline := 9000, budget := 100000, buffer := 0x60000 }, vcUp 2 2 { work := some { number := 1, tag := 5, start := 0, deadline := 9000, budget := 100000, buffer := 0x60000 }, width := 256, height := 128 }, by decide +kernel⟩,
   ⟨1, 9000, { picType := 2, poc := 4, bits := 100 }, { work := some { number := 1, tag := 5, start := 0, deadline := 9000, budget := 100000, buffer := 0x60000 }, width := 256, height := 128 }, { number := 1, tag := 5, start := 0, deadline := 9000, budget := 100000, buffer := 0x60000 }, (vcUp 2 1 { work := some { number := 1, tag := 5, start := 0, deadline := 9000, budget := 100000, buffer := 0x60000 }, width := 256, height := 128 }).setP (P.vc 1 P.VC_ENC_BIN) 0 64, none, [], { tag := 5, number := 1, poc := 4, picType := 2, flags := 16, buffer := 0x60000, stride := ycStride 256, width := 256, height := 128, done := 9000, bits := 100, budget := 100000, qp := 26 }, by decide +kernel⟩,
   ⟨1, 9000, { picType := 2, poc := 4, bits := 100 }, { work := some { number := 1, tag := 5, start := 0, deadline := 9000, budget := 100000, buffer := 0x60000 }, width := 256, height := 128, badSps := some 1 }, { number := 1, tag := 5, start := 0, deadline := 9000, budget := 100000, buffer := 0x60000 }, vcUp 2 2 { work := some { number := 1, tag := 5, start := 0, deadline := 9000, budget := 100000, buffer := 0x60000 }, width := 256, height := 128, badSps := some 1 }, by decide +kernel⟩,
   ⟨1, 9000, { picType := 2, poc := 4, bits := 100 }, { work := some { number := 1, tag := 5, start := 0, deadline := 9000, budget := 100000, buffer := 0x60000 }, width := 256, height := 128, bufs := [0x70000] }, { number := 1, tag := 5, start := 0, deadline := 9000, budget := 100000, buffer := 0x60000 }, vcUp 2 3 { work := some { number := 1, tag := 5, start := 0, deadline := 9000, budget := 100000, buffer := 0x60000 }, width := 256, height := 128, bufs := [0x70000] }, 0x70000, [], { tag := 5, number := 1, poc := 4, picType := 2, buffer := 0x70000, stride := ycStride 0, done := 9000, bits := 100, qp := 26 }, by decide +kernel⟩⟩

/-- O49: each clause of AudioPortsFollowClocksAndPlayBlocks has an input. -/
theorem test_hypotheses_AudioPortsFollowClocksAndPlayBlocks :
  (∃ (n : ℕ) (x : AudioPort) (s : Machine.State), n < 16 ∧ s.port n = x ∧ x.clock = true)
  ∧ (∃ (n : ℕ) (x : AudioPort) (s : Machine.State), n < 16 ∧ s.port n = x ∧ x.clock = false)
  ∧ (∃ (n : ℕ) (t : ℕ) (b : ℕ) (due : ℕ) (l : List ℕ) (o : Bool) (x : AudioPort) (s : Machine.State), n < 16 ∧ s.port n = x ∧ due = x.bclk + audioFrameBits (s.app n P.AP_RATE) ∧ (s.apState n < 2 ∨ 5 < s.apState n))
  ∧ (∃ (n : ℕ) (t : ℕ) (b : ℕ) (due : ℕ) (l : List ℕ) (o : Bool) (x : AudioPort) (s : Machine.State), n < 16 ∧ s.port n = x ∧ due = x.bclk + audioFrameBits (s.app n P.AP_RATE) ∧ s.apState n = 2 ∧ x.edges = 0)
  ∧ (∃ (n : ℕ) (t : ℕ) (b : ℕ) (due : ℕ) (l : List ℕ) (o : Bool) (x : AudioPort) (s : Machine.State), n < 16 ∧ s.port n = x ∧ due = x.bclk + audioFrameBits (s.app n P.AP_RATE) ∧ (s.apState n = 2 ∧ x.edges ≠ 0 ∨ 3 ≤ s.apState n ∧ s.apState n ≤ 5) ∧ b ≠ due)
  ∧ (∃ (n : ℕ) (t : ℕ) (b : ℕ) (due : ℕ) (l : List ℕ) (o : Bool) (x : AudioPort) (s : Machine.State), n < 16 ∧ s.port n = x ∧ due = x.bclk + audioFrameBits (s.app n P.AP_RATE) ∧ s.apState n = 2 ∧ x.edges = 1 ∧ b = due)
  ∧ (∃ (n : ℕ) (t : ℕ) (b : ℕ) (due : ℕ) (l : List ℕ) (o : Bool) (x : AudioPort) (s : Machine.State), n < 16 ∧ s.port n = x ∧ due = x.bclk + audioFrameBits (s.app n P.AP_RATE) ∧ s.apState n = 2 ∧ x.edges = 2 ∧ b = due ∧ s.ctl.staged = [] ∧ x.group = none ∧ x.zero = false ∧ x.pos = none)
  ∧ (∃ (n : ℕ) (t : ℕ) (b : ℕ) (due : ℕ) (l : List ℕ) (o : Bool) (x : AudioPort) (s : Machine.State) (g : ℕ) (p : ℕ) (a3 : ℕ), n < 16 ∧ s.port n = x ∧ due = x.bclk + audioFrameBits (s.app n P.AP_RATE) ∧ s.apState n = 4 ∧ b = due ∧ s.ctl.staged = [] ∧ s.captureHeld = false ∧ x.zero = false ∧ x.group = some g ∧ s.reference g = some n ∧ x.pos = some p ∧ x.line = some a3 ∧ o = false ∧ s.dram.flaws = [])
  ∧ (∃ (n : ℕ) (t : ℕ) (l : List ℕ) (x : AudioPort) (s : Machine.State), n < 16 ∧ s.port n = x ∧ t = x.posTime + rdivN 1000000000 (s.apHz n) ∧ (s.apState n < 2 ∨ 5 < s.apState n))
  ∧ (∃ (n : ℕ) (t : ℕ) (l : List ℕ) (x : AudioPort) (s : Machine.State), n < 16 ∧ s.port n = x ∧ t = x.posTime + rdivN 1000000000 (s.apHz n) ∧ s.apState n = 2)
  ∧ (∃ (n : ℕ) (t : ℕ) (l : List ℕ) (x : AudioPort) (s : Machine.State), n < 16 ∧ s.port n = x ∧ t = x.posTime + rdivN 1000000000 (s.apHz n) ∧ (s.apState n = 5 ∨ s.apState n = 3 ∧ x.group = none ∧ x.zero = false) ∧ x.pos = none ∧ x.missed < 7)
  ∧ (∃ (n : ℕ) (t : ℕ) (l : List ℕ) (x : AudioPort) (s : Machine.State), n < 16 ∧ s.port n = x ∧ t = x.posTime + rdivN 1000000000 (s.apHz n) ∧ (s.apState n = 5 ∨ s.apState n = 3 ∧ x.group = none ∧ x.zero = false) ∧ x.pos = none ∧ 7 ≤ x.missed)
  ∧ (∃ (n : ℕ) (r : ℕ) (h : ℕ) (s : Machine.State), n < 16 ∧ h = s.apHz n * 1000000 ∧ (s.apState n < 3 ∨ 5 < s.apState n))
  ∧ (∃ (n : ℕ) (r : ℕ) (h : ℕ) (s : Machine.State), n < 16 ∧ h = s.apHz n * 1000000 ∧ 3 ≤ s.apState n ∧ s.apState n ≤ 5 ∧ ((r : Int) - (h : Int)).natAbs * 1000 ≤ h)
  ∧ (∃ (n : ℕ) (r : ℕ) (h : ℕ) (s : Machine.State), n < 16 ∧ h = s.apHz n * 1000000 ∧ 3 ≤ s.apState n ∧ s.apState n ≤ 5 ∧ h < ((r : Int) - (h : Int)).natAbs * 1000)
  ∧ (∃ (n : ℕ) (b : ℕ) (late : Bool) (s : Machine.State), n < 16 ∧ (s.apState n ≠ 4 ∨ s.blockNear n b = false))
  ∧ (∃ (n : ℕ) (b : ℕ) (late : Bool) (s : Machine.State), n < 16 ∧ (s.apState n ≠ 4 ∨ s.blockDue n b = false))
  ∧ (∃ (n : ℕ) (b : ℕ) (late : Bool) (x : AudioPort) (s : Machine.State), n < 16 ∧ s.apState n = 4 ∧ s.port n = x ∧ s.blockNear n b = true ∧ s.dram.flaws = [])
  ∧ (∃ (n : ℕ) (b : ℕ) (x : AudioPort) (s : Machine.State), n < 16 ∧ s.apState n = 4 ∧ s.port n = x ∧ s.blockDue n b = true ∧ b ∉ x.missing ∧ b ∈ x.fetched ∧ x.gone = false)
  ∧ (∃ (n : ℕ) (b : ℕ) (x : AudioPort) (s : Machine.State), n < 16 ∧ s.apState n = 4 ∧ s.port n = x ∧ s.blockDue n b = true ∧ b ∉ x.missing ∧ b ∈ x.fetched ∧ x.gone = true)
  ∧ (∃ (n : ℕ) (b : ℕ) (x : AudioPort) (s : Machine.State), n < 16 ∧ s.apState n = 4 ∧ s.port n = x ∧ s.blockDue n b = true ∧ (b ∈ x.missing ∨ b ∉ x.fetched) ∧ x.gone = true)
  ∧ (∃ (n : ℕ) (b : ℕ) (x : AudioPort) (s : Machine.State), n < 16 ∧ s.apState n = 4 ∧ s.port n = x ∧ s.blockDue n b = true ∧ (b ∈ x.missing ∨ b ∉ x.fetched) ∧ x.gone = false)
  ∧ (∃ (c : Cmd) (m : ℕ) (a : ℕ) (s : Machine.State), s.accepts false 2305 c ∧ c.operands 8 4294836224 ∧ m = c.f 0 16 ∧ a = (c.f 32 32 + 2 ^ 32 - s.ring.tag) % 2 ^ 32 ∧ (m = 0 ∨ ∃ j k, j < 16 ∧ k < 16 ∧ m.testBit j = true ∧ m.testBit k = true ∧ s.app j P.AP_RATE ≠ s.app k P.AP_RATE))
  ∧ (∃ (c : Cmd) (m : ℕ) (a : ℕ) (s : Machine.State) (r : ℕ), s.accepts false 2305 c ∧ c.operands 8 4294836224 ∧ m = c.f 0 16 ∧ a = (c.f 32 32 + 2 ^ 32 - s.ring.tag) % 2 ^ 32 ∧ m ≠ 0 ∧ (∀ k < 16, m.testBit k = true → s.app k P.AP_RATE = r) ∧ (∃ k < 16, m.testBit k = true ∧ (s.apState k = 0 ∨ s.apState k = 5 ∨ s.apState k = 6)))
  ∧ (∃ (c : Cmd) (m : ℕ) (a : ℕ) (s : Machine.State) (r : ℕ), s.accepts false 2305 c ∧ c.operands 8 4294836224 ∧ m = c.f 0 16 ∧ a = (c.f 32 32 + 2 ^ 32 - s.ring.tag) % 2 ^ 32 ∧ m ≠ 0 ∧ (∀ k < 16, m.testBit k = true → s.app k P.AP_RATE = r) ∧ (∀ k < 16, m.testBit k = true → s.apState k ≠ 0 ∧ s.apState k ≠ 5 ∧ s.apState k ≠ 6) ∧ c.f 16 1 = 0 ∧ (a = 0 ∨ 2 ^ 31 ≤ a ∨ s.ring.next - s.now * 65536 + (a - 1) * s.ring.period < 2 * s.ring.period))
  ∧ (∃ (c : Cmd) (m : ℕ) (a : ℕ) (s : Machine.State) (r : ℕ), s.accepts false 2305 c ∧ c.operands 8 4294836224 ∧ m = c.f 0 16 ∧ a = (c.f 32 32 + 2 ^ 32 - s.ring.tag) % 2 ^ 32 ∧ m ≠ 0 ∧ (∀ k < 16, m.testBit k = true → s.app k P.AP_RATE = r) ∧ (∀ k < 16, m.testBit k = true → s.apState k ≠ 0 ∧ s.apState k ≠ 5 ∧ s.apState k ≠ 6) ∧ (c.f 16 1 = 0 → a ≠ 0 ∧ a < 2 ^ 31 ∧ 2 * s.ring.period ≤ s.ring.next - s.now * 65536 + (a - 1) * s.ring.period) ∧ (∃ x ∈ s.au.starts, x.mask &&& m ≠ 0))
  ∧ (∃ (c : Cmd) (m : ℕ) (a : ℕ) (s : Machine.State) (r : ℕ) (e : Machine.State), s.accepts false 2305 c ∧ c.operands 8 4294836224 ∧ m = c.f 0 16 ∧ a = (c.f 32 32 + 2 ^ 32 - s.ring.tag) % 2 ^ 32 ∧ m ≠ 0 ∧ (∀ k < 16, m.testBit k = true → s.app k P.AP_RATE = r) ∧ (∀ k < 16, m.testBit k = true → s.apState k ≠ 0 ∧ s.apState k ≠ 5 ∧ s.apState k ≠ 6) ∧ (c.f 16 1 = 0 → a ≠ 0 ∧ a < 2 ^ 31 ∧ 2 * s.ring.period ≤ s.ring.next - s.now * 65536 + (a - 1) * s.ring.period) ∧ (∀ x ∈ s.au.starts, x.mask &&& m = 0) ∧ (e = if c.f 16 1 = 1 ∧ s.getP P.TRIG_ARM 0 = 0 then { s with ring := { s.ring with armedAt := s.now } }.setP P.TRIG_ARM 0 1 else s) ∧ c.immediate = true)
  ∧ (∃ (c : Cmd) (m : ℕ) (a : ℕ) (s : Machine.State) (r : ℕ) (e : Machine.State), s.accepts false 2305 c ∧ c.operands 8 4294836224 ∧ m = c.f 0 16 ∧ a = (c.f 32 32 + 2 ^ 32 - s.ring.tag) % 2 ^ 32 ∧ m ≠ 0 ∧ (∀ k < 16, m.testBit k = true → s.app k P.AP_RATE = r) ∧ (∀ k < 16, m.testBit k = true → s.apState k ≠ 0 ∧ s.apState k ≠ 5 ∧ s.apState k ≠ 6) ∧ (c.f 16 1 = 0 → a ≠ 0 ∧ a < 2 ^ 31 ∧ 2 * s.ring.period ≤ s.ring.next - s.now * 65536 + (a - 1) * s.ring.period) ∧ (∀ x ∈ s.au.starts, x.mask &&& m = 0) ∧ (e = if c.f 16 1 = 1 ∧ s.getP P.TRIG_ARM 0 = 0 then { s with ring := { s.ring with armedAt := s.now } }.setP P.TRIG_ARM 0 1 else s) ∧ c.immediate = false)
  ∧ (∃ (c : Cmd) (n : ℕ) (s : Machine.State), s.accepts false 2306 c ∧ c.operands 1 0 ∧ n = c.f 0 8 ∧ 16 ≤ n)
  ∧ (∃ (c : Cmd) (n : ℕ) (s : Machine.State), s.accepts false 2306 c ∧ c.operands 1 0 ∧ n = c.f 0 8 ∧ n < 16) :=
  ⟨⟨15, { clock := true }, auUp 0 1 { clock := true }, by decide +kernel⟩,
   ⟨15, {}, auUp 0 1 {}, by decide +kernel⟩,
   ⟨15, 5000, 7, 512, [], false, {}, auUp 1 1 {}, by decide +kernel⟩,
   ⟨15, 5000, 7, 512, [], false, {}, auUp 2 1 {}, by decide +kernel⟩,
   ⟨15, 5000, 7, 256, [], false, {}, auUp 5 3 {}, by decide +kernel⟩,
   ⟨15, 5000, 1512, 1512, [], false, { edges := 1, bclk := 1000 }, auUp 2 1 { edges := 1, bclk := 1000 }, by decide +kernel⟩,
   ⟨15, 5000, 1512, 1512, [], false, { edges := 2, bclk := 1000 }, auUp 2 1 { edges := 2, bclk := 1000 }, by decide +kernel⟩,
   ⟨15, 5000, 1512, 1512, [1, 2], false, { bclk := 1000, group := some 0, pos := some 31, line := some 0x100000 }, auUp 4 1 { bclk := 1000, group := some 0, pos := some 31, line := some 0x100000 }, 0, 31, 0x100000, by decide +kernel⟩,
   ⟨15, (rdivN 1000000000 (audioRate 1)), [], {}, auUp 6 1 {}, by decide +kernel⟩,
   ⟨15, (rdivN 1000000000 (audioRate 1)), [], {}, auUp 2 1 {}, by decide +kernel⟩,
   ⟨15, (rdivN 1000000000 (audioRate 3)), [], { missed := 6 }, auUp 5 3 { missed := 6 }, by decide +kernel⟩,
   ⟨15, (rdivN 1000000000 (audioRate 1)), [], { missed := 7 }, auUp 3 1 { missed := 7 }, by decide +kernel⟩,
   ⟨15, 5, 48000000000, auUp 2 1 {}, by decide +kernel⟩,
   ⟨15, 48048000000, 48000000000, auUp 4 1 {}, by decide +kernel⟩,
   ⟨15, 48048000001, 48000000000, auUp 5 1 {}, by decide +kernel⟩,
   ⟨15, 0, true, up, by decide +kernel⟩,
   ⟨15, 0, true, up, by decide +kernel⟩,
   ⟨15, 5, true, { pos := some 160 }, auUp 4 1 { pos := some 160 }, by decide +kernel⟩,
   ⟨15, 5, { pos := some 160, fetched := [5], gone := false }, auUp 4 1 { pos := some 160, fetched := [5], gone := false }, by decide +kernel⟩,
   ⟨15, 5, { pos := some 160, fetched := [5], gone := true }, auUp 4 1 { pos := some 160, fetched := [5], gone := true }, by decide +kernel⟩,
   ⟨15, 5, { pos := some 160, missing := [5], fetched := [5], gone := true }, auUp 4 1 { pos := some 160, missing := [5], fetched := [5], gone := true }, by decide +kernel⟩,
   ⟨15, 5, { pos := some 160, fetched := [4], gone := false }, auUp 4 1 { pos := some 160, fetched := [4], gone := false }, by decide +kernel⟩,
   ⟨cmd 8 (0x8001 ||| 0 <<< 16 ||| 5 <<< 32), 0x8001, 5, auUp 3 2 {}, by refine ⟨?_, ?_, ?_, ?_, ?_⟩ <;> first | exact (Or.inr ⟨0, 15, by decide +kernel⟩) | decide +kernel⟩,
   ⟨cmd 8 (0x8000 ||| 0 <<< 16 ||| 5 <<< 32), 0x8000, 5, auUp 6 1 {}, 1, by decide +kernel⟩,
   ⟨cmd 8 (0x8000 ||| 0 <<< 16 ||| 0x80000000 <<< 32), 0x8000, 0x80000000, auUp 3 1 {}, 1, by refine ⟨?_, ?_, ?_, ?_, ?_, ?_, ?_, ?_, ?_⟩ <;> first | exact (by decide +kernel) | decide +kernel⟩,
   ⟨cmd 8 (0x8000 ||| 0 <<< 16 ||| 5 <<< 32), 0x8000, 5, { auUp 3 1 {} with au := { ports := [(15, {})], starts := [{ mask := 0xFFFF, mode := 0, tag := 9, ticket := 3 }] } }, 1, by refine ⟨?_, ?_, ?_, ?_, ?_, ?_, ?_, ?_, ?_⟩ <;> first | exact (⟨_, List.mem_singleton_self _, by decide⟩) | decide +kernel⟩,
   ⟨{ cmd 8 (0x8000 ||| 0 <<< 16 ||| 4 <<< 32) with flags := 4 }, 0x8000, 4, auUp 3 1 {}, 1, auUp 3 1 {}, by refine ⟨?_, ?_, ?_, ?_, ?_, ?_, ?_, ?_, ?_, ?_, ?_⟩ <;> first | exact (by decide +kernel) | decide +kernel⟩,
   ⟨cmd 8 (0x8000 ||| 1 <<< 16 ||| 0 <<< 32), 0x8000, 0, auUp 3 1 {}, 1, ({ auUp 3 1 {} with ring := { (auUp 3 1 {}).ring with armedAt := (auUp 3 1 {}).now } } : State).setP P.TRIG_ARM 0 1, by refine ⟨?_, ?_, ?_, ?_, ?_, ?_, ?_, ?_, ?_, ?_, ?_⟩ <;> first | exact (by decide +kernel) | decide +kernel⟩,
   ⟨cmd 1 16, 16, up, by decide +kernel⟩,
   ⟨cmd 1 15, 15, auUp 3 1 {}, by decide +kernel⟩⟩

/-- O50: each clause of ConversionsThrottleAndBackgroundWork has an input. -/
theorem test_hypotheses_ConversionsThrottleAndBackgroundWork :
  (∃ (r : ℕ) (s : Machine.State), s.ctl.boot = Boot.off)
  ∧ (∃ (r : ℕ) (v : ℕ) (n : ℕ) (lo : ℕ) (hi : ℕ) (fresh : Bool) (s : Machine.State), s.ctl.boot ≠ Boot.off ∧ s.hk.next = n ∧ 5 ≤ n ∧ n ≤ 31 ∧ r < 65536 ∧ (v = if n < 15 then r else min r 19200) ∧ lo = s.getP P.HK_LIMIT_LO n ∧ hi = s.getP P.HK_LIMIT_HI n ∧ (s.getP P.HK_READING n).testBit 18 = false ∧ fresh = !s.hk.seen.testBit n ∧ lo ≤ v ∧ v ≤ hi ∧ (n = 31 → s.ctl.boot ≠ Boot.running ∧ s.hk.trip = false))
  ∧ (∃ (r : ℕ) (v : ℕ) (n : ℕ) (lo : ℕ) (hi : ℕ) (fresh : Bool) (s : Machine.State), s.ctl.boot ≠ Boot.off ∧ s.hk.next = n ∧ 5 ≤ n ∧ n ≤ 31 ∧ r < 65536 ∧ (v = if n < 15 then r else min r 19200) ∧ lo = s.getP P.HK_LIMIT_LO n ∧ hi = s.getP P.HK_LIMIT_HI n ∧ (s.getP P.HK_READING n).testBit 18 = false ∧ fresh = !s.hk.seen.testBit n ∧ n < 31 ∧ (v < lo ∨ hi < v) ∧ (¬(lo = 0 ∧ hi = 65535)))
  ∧ (∃ (r : ℕ) (n : ℕ) (v : ℤ) (d : Diode) (s : Machine.State), s.ctl.boot ≠ Boot.off ∧ s.hk.next = n ∧ n < 5 ∧ r < 65536 ∧ v = signed 16 r ∧ s.hk.diodes.length = 5 ∧ s.diode n = d ∧ d.faulty = false ∧ (∀ k < 5, (s.diode k).faulty = false ∧ (k ≠ n → s.hkReading k < s.threshold 1)) ∧ d.above = 0 ∧ -640 ≤ v ∧ v ≤ 2400 ∧ (∀ i < 3, v < s.threshold i))
  ∧ (∃ (r : ℕ) (n : ℕ) (v : ℤ) (d : Diode) (s : Machine.State), s.ctl.boot ≠ Boot.off ∧ s.hk.next = n ∧ n < 5 ∧ r < 65536 ∧ v = signed 16 r ∧ s.hk.diodes.length = 5 ∧ s.diode n = d ∧ d.faulty = false ∧ (∀ k < 5, (s.diode k).faulty = false ∧ s.hkReading k < s.threshold 1) ∧ d.badRun = 0 ∧ (v < -640 ∨ 2400 < v))
  ∧ (∃ (r : ℕ) (n : ℕ) (v : ℤ) (d : Diode) (s : Machine.State), s.ctl.boot ≠ Boot.off ∧ s.hk.next = n ∧ n < 5 ∧ r < 65536 ∧ v = signed 16 r ∧ s.hk.diodes.length = 5 ∧ s.diode n = d ∧ d.faulty = false ∧ s.hk.trip = false ∧ v ≤ 2400 ∧ -640 ≤ v ∧ s.threshold 2 ≤ v)
  ∧ (∃ (now : ℕ) (h : ℤ) (s : Machine.State), now = max s.now (s.hk.stepTime + s.getP P.TH_STEP_MS 0 * 1000000) ∧ h = s.hottest.1 ∧ (s.hk.trip = true ∨ h < s.threshold 1 ∧ s.threshold 1 - s.hyst ≤ h))
  ∧ (∃ (now : ℕ) (h : ℤ) (s : Machine.State), now = max s.now (s.hk.stepTime + s.getP P.TH_STEP_MS 0 * 1000000) ∧ h = s.hottest.1 ∧ s.hk.trip = false ∧ (s.threshold 1 ≤ h ∨ h < s.threshold 1 - s.hyst))
  ∧ (∃ (mw : ℕ) (now : ℕ) (l : List ℕ) (s : Machine.State), s.bgHeld 6 = true)
  ∧ (∃ (mw : ℕ) (now : ℕ) (l : List ℕ) (s : Machine.State), s.bgHeld 6 = false ∧ now = max s.now (s.hk.telemetryTime + s.getP P.BG_TELEMETRY_MS 0 * 1000000))
  ∧ (∃ (n : ℕ) (s : Machine.State), (s.bgHeld 10 = true ∨ s.dram.dirty = []))
  ∧ (∃ (n : ℕ) (s : Machine.State), s.bgHeld 10 = false ∧ n < s.dram.dirty.length)
  ∧ (∃ (n : ℕ) (s : Machine.State), s.bgHeld 10 = false ∧ s.dram.dirty ≠ [] ∧ s.dram.dirty.length ≤ n)
  ∧ (∃ (s : Machine.State), s.powerState = 2)
  ∧ (∃ (e : ℕ) (s : Machine.State), s.powerState ≠ 2 ∧ s.cxl.regions = [] ∧ e = (s.now - s.hk.patrolStart) * 1000 / max (s.getP P.MEM_SCRUB_HOURS 0 * 3600000000000) 1 ∧ (s.hk.behind.testBit 32 = false ∧ e ≤ s.getP P.MEM_SCRUB_PROGRESS 0 + 50 ∨ s.hk.behind.testBit 32 = true ∧ s.getP P.MEM_SCRUB_PROGRESS 0 < e))
  ∧ (∃ (e : ℕ) (s : Machine.State), s.powerState ≠ 2 ∧ s.cxl.regions = [] ∧ e = (s.now - s.hk.patrolStart) * 1000 / max (s.getP P.MEM_SCRUB_HOURS 0 * 3600000000000) 1 ∧ (s.hk.behind.testBit 32 = false ∧ s.getP P.MEM_SCRUB_PROGRESS 0 + 50 < e ∨ s.hk.behind.testBit 32 = true ∧ e ≤ s.getP P.MEM_SCRUB_PROGRESS 0))
  ∧ (∃ (c : Cmd) (s : Machine.State), c.operands 0 0 ∧ s.accepts false 2561 c)
  ∧ (∃ (c : Cmd) (s : Machine.State), c.operands 0 0 ∧ s.accepts false 2562 c) :=
  ⟨⟨7, { ctl := { boot := .off } }, by decide +kernel⟩,
   ⟨65535, 19200, 31, ({ ({ ctl := { boot := .starting } } : State) with hk := { next := 31 } } : State).getP P.HK_LIMIT_LO 31, ({ ({ ctl := { boot := .starting } } : State) with hk := { next := 31 } } : State).getP P.HK_LIMIT_HI 31, true, ({ ({ ctl := { boot := .starting } } : State) with hk := { next := 31 } } : State), by decide +kernel⟩,
   ⟨21, 21, 30, 10, 20, true, { (withP [(P.HK_LIMIT_LO, 30, 10), (P.HK_LIMIT_HI, 30, 20)] up) with hk := { next := 30 } }, by decide +kernel⟩,
   ⟨320, 4, 320, {}, { up with hk := { next := 4 } }, by decide +kernel⟩,
   ⟨64895, 0, -641, {}, { up with hk := { next := 0 } }, by decide +kernel⟩,
   ⟨2400, 4, 2400, {}, { up with hk := { next := 4 } }, by decide +kernel⟩,
   ⟨max 0 (0 + up.getP P.TH_STEP_MS 0 * 1000000), 0, { up with hk := { next := 0, trip := true } }, by decide +kernel⟩,
   ⟨max 0 (0 + up.getP P.TH_STEP_MS 0 * 1000000), 0, up, by decide +kernel⟩,
   ⟨0, 0, [], { (up.setP P.PW_STATE 0 2) with ctl := { up.ctl with restarting := true } }, by decide +kernel⟩,
   ⟨777, max 0 (0 + up.getP P.BG_TELEMETRY_MS 0 * 1000000), [5, 6], up, by decide +kernel⟩,
   ⟨3, up, by decide +kernel⟩,
   ⟨1, { up with dram := { dirty := [4, 5] } }, by decide +kernel⟩,
   ⟨2, { up with dram := { dirty := [4, 5] } }, by decide +kernel⟩,
   ⟨up.setP P.PW_STATE 0 2, by decide +kernel⟩,
   ⟨1000, withP [(P.MEM_SCRUB_HOURS, 0, 1), (P.MEM_SCRUB_PROGRESS, 0, 950)] { up with now := 3600000000000, hk := { behind := 0 } }, by decide +kernel⟩,
   ⟨1000, withP [(P.MEM_SCRUB_HOURS, 0, 1), (P.MEM_SCRUB_PROGRESS, 0, 949)] { up with now := 3600000000000, hk := { behind := 0 } }, by decide +kernel⟩,
   ⟨cmd 0 0, up, by decide +kernel⟩,
   ⟨cmd 0 0, up, by decide +kernel⟩⟩

/-- O51: each clause of ManagementBusAnswersItsAddresses has an input. -/
theorem test_hypotheses_ManagementBusAnswersItsAddresses :
  (∃ (i : Instr) (a : ℕ) (k : ℕ) (n : ℕ) (x : ℕ) (b : Bool) (f : List Byte) (p : Option ℕ) (s : Machine.State), a < 128 ∧ k < 4 ∧ i ∈ [Instr.status { addr := a, bare := b }, Instr.slotState a, Instr.hkRead a, Instr.submit a k n f p, Instr.reply a k, Instr.replyAck a k p, Instr.mbStretchTimeout a x, Instr.mbBusTimeout a x] ∧ s.busAnswers a = false ∧ s.ctl.staged = [])
  ∧ (∃ (a : ℕ) (s : Machine.State) (l : List Byte), a < 128 ∧ s.busAnswers a = true ∧ s.ctl.staged = [] ∧ (l = leBytes (if s.ctl.boot = Boot.auxOnly then 16385 else s.statusWord 64 0) 4))
  ∧ (∃ (a : ℕ) (k : ℕ) (s : Machine.State), a < 128 ∧ k < 4 ∧ s.busAnswers a = true ∧ s.ctl.staged = [] ∧ s.ctl.boot = Boot.auxOnly)
  ∧ (∃ (a : ℕ) (k : ℕ) (s : Machine.State), a < 128 ∧ k < 4 ∧ s.busAnswers a = true ∧ s.ctl.staged = [] ∧ s.ctl.boot ≠ Boot.auxOnly ∧ SMap.find k (s.win 64).replies = none)
  ∧ (∃ (a : ℕ) (k : ℕ) (s : Machine.State) (r : Reply), a < 128 ∧ k < 4 ∧ s.busAnswers a = true ∧ s.ctl.staged = [] ∧ s.ctl.boot ≠ Boot.auxOnly ∧ SMap.find k (s.win 64).replies = some r)
  ∧ (∃ (a : ℕ) (k : ℕ) (n : ℕ) (f : List Byte) (p : Option ℕ) (s : Machine.State), a < 128 ∧ k < 4 ∧ s.busAnswers a = true ∧ s.ctl.staged = [] ∧ s.ctl.boot = Boot.auxOnly)
  ∧ (∃ (a : ℕ) (k : ℕ) (n : ℕ) (f : List Byte) (p : Option ℕ) (s : Machine.State), a < 128 ∧ k < 4 ∧ s.busAnswers a = true ∧ s.ctl.staged = [] ∧ s.ctl.boot ≠ Boot.auxOnly ∧ s.slotFree 64 k = false)
  ∧ (∃ (a : ℕ) (k : ℕ) (n : ℕ) (f : List Byte) (p : Option ℕ) (s : Machine.State), a < 128 ∧ k < 4 ∧ s.busAnswers a = true ∧ s.ctl.staged = [] ∧ s.ctl.boot ≠ Boot.auxOnly ∧ s.slotFree 64 k = true ∧ (n < 16 ∨ 256 < n))
  ∧ (∃ (a : ℕ) (k : ℕ) (n : ℕ) (f : List Byte) (p : Option ℕ) (s : Machine.State), a < 128 ∧ k < 4 ∧ s.busAnswers a = true ∧ s.ctl.staged = [] ∧ s.ctl.boot ≠ Boot.auxOnly ∧ s.slotFree 64 k = true ∧ 16 ≤ n ∧ n ≤ 256 ∧ f.length < n)
  ∧ (∃ (a : ℕ) (k : ℕ) (n : ℕ) (f : List Byte) (p : Option ℕ) (s : Machine.State), a < 128 ∧ k < 4 ∧ s.busAnswers a = true ∧ s.ctl.staged = [] ∧ s.ctl.boot ≠ Boot.auxOnly ∧ s.slotFree 64 k = true ∧ 16 ≤ n ∧ n ≤ 256 ∧ f.length = n ∧ p = none ∧ s.getP P.MB_PEC_REQUIRED 0 = 1)
  ∧ (∃ (a : ℕ) (k : ℕ) (n : ℕ) (f : List Byte) (p : Option ℕ) (s : Machine.State) (v : ℕ), a < 128 ∧ k < 4 ∧ s.busAnswers a = true ∧ s.ctl.staged = [] ∧ s.ctl.boot ≠ Boot.auxOnly ∧ s.slotFree 64 k = true ∧ 16 ≤ n ∧ n ≤ 256 ∧ f.length = n ∧ p = some v ∧ v ≠ crc8 (busWrite a (16 + k) ++ leBytes n 2 ++ f))
  ∧ (∃ (a : ℕ) (k : ℕ) (n : ℕ) (f : List Byte) (p : Option ℕ) (s : Machine.State), a < 128 ∧ k < 4 ∧ s.busAnswers a = true ∧ s.ctl.staged = [] ∧ s.ctl.boot ≠ Boot.auxOnly ∧ s.slotFree 64 k = true ∧ 16 ≤ n ∧ n ≤ 256 ∧ f.length = n ∧ (p = none ∧ s.getP P.MB_PEC_REQUIRED 0 ≠ 1 ∨ p = some (crc8 (busWrite a (16 + k) ++ leBytes n 2 ++ f))))
  ∧ (∃ (a : ℕ) (k : ℕ) (p : Option ℕ) (s : Machine.State), a < 128 ∧ k < 4 ∧ s.busAnswers a = true ∧ s.ctl.staged = [] ∧ (s.ctl.boot = Boot.auxOnly ∨ (s.win 64).busy.testBit k = true))
  ∧ (∃ (a : ℕ) (k : ℕ) (p : Option ℕ) (s : Machine.State), a < 128 ∧ k < 4 ∧ s.busAnswers a = true ∧ s.ctl.staged = [] ∧ s.ctl.boot ≠ Boot.auxOnly ∧ (s.win 64).busy.testBit k = false ∧ p = none ∧ s.getP P.MB_PEC_REQUIRED 0 = 1)
  ∧ (∃ (a : ℕ) (k : ℕ) (p : Option ℕ) (s : Machine.State) (v : ℕ), a < 128 ∧ k < 4 ∧ s.busAnswers a = true ∧ s.ctl.staged = [] ∧ s.ctl.boot ≠ Boot.auxOnly ∧ (s.win 64).busy.testBit k = false ∧ p = some v ∧ v ≠ crc8 (busWrite a (64 + k)))
  ∧ (∃ (a : ℕ) (k : ℕ) (p : Option ℕ) (s : Machine.State), a < 128 ∧ k < 4 ∧ s.busAnswers a = true ∧ s.ctl.staged = [] ∧ s.ctl.boot ≠ Boot.auxOnly ∧ (s.win 64).busy.testBit k = false ∧ (p = none ∧ s.getP P.MB_PEC_REQUIRED 0 ≠ 1 ∨ p = some (crc8 (busWrite a (64 + k)))) ∧ (s.win 64).ready.testBit k = false)
  ∧ (∃ (a : ℕ) (k : ℕ) (p : Option ℕ) (s : Machine.State), a < 128 ∧ k < 4 ∧ s.busAnswers a = true ∧ s.ctl.staged = [] ∧ s.ctl.boot ≠ Boot.auxOnly ∧ (s.win 64).busy.testBit k = false ∧ (p = none ∧ s.getP P.MB_PEC_REQUIRED 0 ≠ 1 ∨ p = some (crc8 (busWrite a (64 + k)))) ∧ (s.win 64).ready.testBit k = true)
  ∧ (∃ (s : Machine.State), s.ctl.boot = Boot.off)
  ∧ (∃ (s : Machine.State), s.ctl.boot ≠ Boot.off)
  ∧ (∃ (i : Instr) (a : ℕ) (x : ℕ) (s : Machine.State), a < 128 ∧ s.busAnswers a = true ∧ s.ctl.staged = [] ∧ i ∈ [Instr.mbStretchTimeout a x, Instr.mbBusTimeout a x]) :=
  ⟨⟨.status { addr := 127, bare := true }, 127, 3, 16, 5, true, [], none, {}, by decide +kernel⟩,
   ⟨127, busUp false {}, leBytes ((busUp false {}).statusWord 64 0) 4, by decide +kernel⟩,
   ⟨127, 3, busUp true {}, by decide +kernel⟩,
   ⟨127, 3, busUp false {}, by decide +kernel⟩,
   ⟨127, 3, busUp false { replies := [(3, { len := 4, tag := 7, seq := 2, opcode := 1, result := 0x01020304 })], ready := 8 }, { len := 4, tag := 7, seq := 2, opcode := 1, result := 0x01020304 }, by decide +kernel⟩,
   ⟨127, 3, 16, (List.replicate 16 3), none, busUp true {}, by decide +kernel⟩,
   ⟨127, 3, 16, (List.replicate 16 3), none, busUp false { busy := 8 }, by decide +kernel⟩,
   ⟨127, 3, 257, [], none, busUp false {}, by decide +kernel⟩,
   ⟨127, 3, 256, [1], none, busUp false {}, by decide +kernel⟩,
   ⟨127, 3, 16, (List.replicate 16 3), none, (busUp false {}).setP P.MB_PEC_REQUIRED 0 1, by decide +kernel⟩,
   ⟨127, 3, 16, (List.replicate 16 3), some (crc8 (busWrite 127 19 ++ leBytes 16 2 ++ (List.replicate 16 3)) + 1), busUp false {}, crc8 (busWrite 127 19 ++ leBytes 16 2 ++ (List.replicate 16 3)) + 1, by decide +kernel⟩,
   ⟨127, 3, 256, (List.replicate 256 3), some (crc8 (busWrite 127 19 ++ leBytes 256 2 ++ (List.replicate 256 3))), busUp false {}, by decide +kernel⟩,
   ⟨127, 3, none, busUp false { busy := 8 }, by decide +kernel⟩,
   ⟨127, 3, none, (busUp false {}).setP P.MB_PEC_REQUIRED 0 1, by decide +kernel⟩,
   ⟨127, 3, some (crc8 (busWrite 127 67) + 1), busUp false {}, crc8 (busWrite 127 67) + 1, by decide +kernel⟩,
   ⟨127, 3, some (crc8 (busWrite 127 67)), busUp false {}, by decide +kernel⟩,
   ⟨127, 3, some (crc8 (busWrite 127 67)), busUp false { replies := [(3, { len := 4, tag := 7, seq := 2, opcode := 1, result := 0x01020304 })], ready := 8 }, by decide +kernel⟩,
   ⟨{ ctl := { boot := .off } }, by decide +kernel⟩,
   ⟨up, by decide +kernel⟩,
   ⟨.mbBusTimeout 127 5, 127, 5, busUp false {}, by decide +kernel⟩⟩

/-- O52: each clause of PowerComesGoesAndChangesState has an input. -/
theorem test_hypotheses_PowerComesGoesAndChangesState :
  (∃ (m : ℕ) (s : Machine.State), m < 4 ∧ s.ctl.boot ≠ Boot.off ∧ s.ctl.boot ≠ Boot.auxOnly)
  ∧ (∃ (m : ℕ) (s : Machine.State), m < 4 ∧ (s.ctl.boot = Boot.off ∨ s.ctl.boot = Boot.auxOnly))
  ∧ (∃ (s : Machine.State), s.ctl.boot ≠ Boot.auxOnly ∧ s.pw.stop = some 0)
  ∧ (∃ (s : Machine.State), s.ctl.boot = Boot.auxOnly ∧ s.slotValid s.ctl.bootSlot = true)
  ∧ (∃ (s : Machine.State), s.ctl.boot = Boot.auxOnly ∧ s.slotValid s.ctl.bootSlot = false ∧ s.slotValid (1 - s.ctl.bootSlot) = false)
  ∧ (∃ (l : List ℕ) (s : Machine.State), (s.ctl.boot ≠ Boot.training ∧ s.ctl.boot ≠ Boot.recoveryImage ∨ s.ctl.boot = Boot.recoveryImage ∧ l = []))
  ∧ (∃ (n : ℕ) (s : Machine.State), s.ctl.boot = Boot.recoveryImage)
  ∧ (∃ (n : ℕ) (s : Machine.State), s.ctl.boot = Boot.training)
  ∧ (∃ (s : Machine.State), s.ctl.boot = Boot.training ∧ s.cxl.regions = [] ∧ s.fr.bins = [] ∧ (∀ g < 8, s.getP (P.cg g P.CG_ENABLE) 0 = 0 ∧ s.camState g = 0))
  ∧ (∃ (s : Machine.State), s.ctl.boot ≠ Boot.starting)
  ∧ (∃ (s : Machine.State), s.ctl.boot = Boot.starting)
  ∧ (∃ (s : Machine.State), (s.ctl.boot = Boot.off ∨ s.ctl.boot = Boot.auxOnly ∨ s.pw.stop = some 0))
  ∧ (∃ (s : Machine.State), s.ctl.boot ≠ Boot.off ∧ s.ctl.boot ≠ Boot.auxOnly ∧ s.pw.stop ≠ some 0)
  ∧ (∃ (s : Machine.State), s.pw.resetAt = none)
  ∧ (∃ (s : Machine.State) (u : ℕ), s.pw.resetAt = some u ∧ s.ctl.boot = Boot.running ∧ s.pw.stop ≠ some 0)
  ∧ (∃ (s : Machine.State) (m : ℕ), m < 4 ∧ s.ctl.perstN = true)
  ∧ (∃ (s : Machine.State) (m : ℕ), m < 3 ∧ s.ctl.perstN = false)
  ∧ (∃ (s : Machine.State) (m : ℕ), m = 3 ∧ s.ctl.perstN = false)
  ∧ (∃ (c : Cmd) (s : Machine.State), s.accepts true 2576 c ∧ c.operands 4 0 ∧ c.f 0 32 ≠ 1381188948)
  ∧ (∃ (c : Cmd) (s : Machine.State), s.accepts true 2576 c ∧ c.operands 4 0 ∧ c.f 0 32 = 1381188948)
  ∧ (∃ (c : Cmd) (g : ℕ) (old : ℕ) (s : Machine.State), s.accepts true 64 c ∧ c.operands 4 4294966784 ∧ g = c.f 0 8 ∧ old = s.powerState ∧ (2 < g ∨ c.f 8 1 = 1 ∧ g ≠ 2))
  ∧ (∃ (c : Cmd) (g : ℕ) (old : ℕ) (s : Machine.State), s.accepts true 64 c ∧ c.operands 4 4294966784 ∧ g = c.f 0 8 ∧ old = s.powerState ∧ g ≤ 2 ∧ (c.f 8 1 = 1 → g = 2) ∧ (s.pw.step = PwStep.toIntermission ∨ s.pw.step = PwStep.toShow))
  ∧ (∃ (c : Cmd) (g : ℕ) (old : ℕ) (s : Machine.State), s.accepts true 64 c ∧ c.operands 4 4294966784 ∧ g = c.f 0 8 ∧ old = s.powerState ∧ g ≤ 2 ∧ (c.f 8 1 = 1 → g = 2) ∧ s.pw.step = PwStep.none ∧ g = old)
  ∧ (∃ (c : Cmd) (g : ℕ) (old : ℕ) (s : Machine.State), s.accepts true 64 c ∧ c.operands 4 4294966784 ∧ g = c.f 0 8 ∧ old = s.powerState ∧ g ≤ 2 ∧ (c.f 8 1 = 1 → g = 2) ∧ s.pw.step = PwStep.none ∧ s.pw.tickets = [] ∧ c.immediate = false ∧ s.runningCanvases ≠ [] ∧ (old = 0 ∧ 1 ≤ g ∨ old = 1 ∧ g = 0))
  ∧ (∃ (c : Cmd) (g : ℕ) (old : ℕ) (s : Machine.State), s.accepts true 64 c ∧ c.operands 4 4294966784 ∧ g = c.f 0 8 ∧ old = s.powerState ∧ g ≤ 2 ∧ (c.f 8 1 = 1 → g = 2) ∧ s.pw.step = PwStep.none ∧ s.pw.tickets = [] ∧ c.immediate = false ∧ s.runningCanvases = [] ∧ (old = 0 ∧ g = 1 ∨ old = 1 ∧ g = 0))
  ∧ (∃ (c : Cmd) (g : ℕ) (old : ℕ) (s : Machine.State), s.accepts true 64 c ∧ c.operands 4 4294966784 ∧ g = c.f 0 8 ∧ old = s.powerState ∧ g ≤ 2 ∧ (c.f 8 1 = 1 → g = 2) ∧ s.pw.step = PwStep.none ∧ s.pw.tickets = [] ∧ c.immediate = false ∧ old = 1 ∧ g = 2 ∧ c.f 8 1 = 0)
  ∧ (∃ (s : Machine.State), s.pw.step ≠ PwStep.sleeping)
  ∧ (∃ (s : Machine.State), s.pw.step = PwStep.sleeping ∧ s.pw.tickets = [] ∧ s.pw.exitWanted = false)
  ∧ (∃ (s : Machine.State) (tk : ℕ) (f : Flight), s.pw.step = PwStep.sleeping ∧ s.pw.tickets = [tk] ∧ s.pw.exitWanted = false ∧ s.awaits tk f)
  ∧ (∃ (s : Machine.State), s.pw.step ≠ PwStep.exiting)
  ∧ (∃ (s : Machine.State), s.pw.step = PwStep.exiting ∧ s.fr.bins = [] ∧ (∀ g < 8, s.camState g ≠ 5))
  ∧ (∃ (s : Machine.State), (s.pw.returnFrom = none ∨ s.powerState ≠ 1 ∨ s.pw.step ≠ PwStep.none ∨ s.getP P.PW_DARK_RETURN_MS 0 = 0))
  ∧ (∃ (s : Machine.State) (f : ℕ) (now : ℕ), s.pw.returnFrom = some f ∧ s.powerState = 1 ∧ s.pw.step = PwStep.none ∧ s.getP P.PW_DARK_RETURN_MS 0 ≠ 0 ∧ now = max s.now (f + s.getP P.PW_DARK_RETURN_MS 0 * 1000000)) :=
  ⟨⟨3, up, by decide +kernel⟩,
   ⟨3, {}, by decide +kernel⟩,
   ⟨pwUp { stop := some 0 } up, by decide +kernel⟩,
   ⟨({ ctl := { boot := .auxOnly, fwA := { valid := true } } } : State), by decide +kernel⟩,
   ⟨({ ctl := { boot := .auxOnly, fwA := {}, fwB := {} } } : State), by decide +kernel⟩,
   ⟨[3], up, by decide +kernel⟩,
   ⟨63, ({ ctl := { boot := .recoveryImage } } : State), by decide +kernel⟩,
   ⟨63, ({ ctl := { boot := .training } } : State), by decide +kernel⟩,
   ⟨withP ((List.range 8).map fun g => (P.cg g P.CG_ENABLE, 0, 0)) ({ ctl := { boot := .training } } : State), by decide +kernel⟩,
   ⟨up, by decide +kernel⟩,
   ⟨({ ctl := { boot := .starting } } : State), by decide +kernel⟩,
   ⟨{}, by decide +kernel⟩,
   ⟨up, by decide +kernel⟩,
   ⟨up, by decide +kernel⟩,
   ⟨pwUp { resetAt := some 5000 } up, 5000, by decide +kernel⟩,
   ⟨up, 3, by decide +kernel⟩,
   ⟨{}, 2, by decide +kernel⟩,
   ⟨{}, 3, by decide +kernel⟩,
   ⟨cmd 4 0, up, by decide +kernel⟩,
   ⟨cmd 4 1381188948, up, by decide +kernel⟩,
   ⟨cmd 4 (1 ||| 1 <<< 8), 1, 1, up, by decide +kernel⟩,
   ⟨cmd 4 (2 ||| 1 <<< 8), 2, 1, pwUp { step := .toShow } up, by decide +kernel⟩,
   ⟨cmd 4 (1 ||| 0 <<< 8), 1, 1, up, by decide +kernel⟩,
   ⟨cmd 4 (0 ||| 0 <<< 8), 0, 1, cvUp, by decide +kernel⟩,
   ⟨cmd 4 (1 ||| 0 <<< 8), 1, 0, up.setP P.PW_STATE 0 0, by decide +kernel⟩,
   ⟨cmd 4 (2 ||| 0 <<< 8), 2, 1, up, by decide +kernel⟩,
   ⟨up, by decide +kernel⟩,
   ⟨pwUp { step := .sleeping } up, by decide +kernel⟩,
   ⟨pwUp { step := .sleeping, tickets := [9] } (flying 0x40 up), 9, flight 0x40, by decide +kernel⟩,
   ⟨up, by decide +kernel⟩,
   ⟨pwUp { step := .exiting } (up.setP P.PW_STATE 0 2), by decide +kernel⟩,
   ⟨up, by decide +kernel⟩,
   ⟨pwUp { returnFrom := some 0 } (up.setP P.PW_DARK_RETURN_MS 0 5), 0, 5000000, by decide +kernel⟩⟩

/-- O53: each clause of EveryRegisterAndControlCommandCompletes has an input. -/
theorem test_hypotheses_EveryRegisterAndControlCommandCompletes :
  (∃ (t : ℕ) (s : Machine.State), s.atRest ∧ s.getP P.RM_STATE 0 ≠ 2)
  ∧ (∃ (t : ℕ) (s : Machine.State), s.getP P.RM_SOURCE 0 = 1 ∧ s.partnerTiming = false ∧ s.getP P.RM_STATE 0 = 2 ∧ s.ring.lastValid + s.ring.period ≤ t * 65536 + s.getP P.RM_ACCEPT_WIN 0 * 65536 ∧ t * 65536 ≤ s.ring.lastValid + s.ring.period + s.getP P.RM_ACCEPT_WIN 0 * 65536)
  ∧ (∃ (t : ℕ) (s : Machine.State), s.getP P.TRIG_ARM 0 = 1 ∧ s.ring.armedAt + 1 ≤ t ∧ s.binList = [] ∧ s.au.starts = [])
  ∧ (∃ (fn : ℕ) (win : ℕ) (value : ℕ) (s : Machine.State), fn < 64 ∧ win < 64 ∧ value < 65536 ∧ s.hostTakes fn win = true)
  ∧ (∃ (w : ℕ) (k : ℕ) (s : Machine.State), (w < 64 ∧ k < 16 ∨ w = 64 ∧ k < 4) ∧ (s.win w).rung.testBit k = true)
  ∧ (∃ (fn : ℕ) (win : ℕ) (v : ℕ) (s : Machine.State), fn < 64 ∧ win < 64 ∧ v < 65536 ∧ s.hostTakes fn win = true ∧ v < 2 ^ (s.win win).sizeLog2 ∧ (v + 2 ^ (s.win win).sizeLog2 - (s.win win).tail) % 2 ^ (s.win win).sizeLog2 ≤ (s.win win).count)
  ∧ (∃ (fn : ℕ) (win : ℕ) (v : ℕ) (s : Machine.State), fn < 64 ∧ win < 64 ∧ v < 2 ^ 32 ∧ s.hostTakes fn win = true)
  ∧ (∃ (n : ℕ) (s : Machine.State), n < 64 ∧ (s.win n).state = WinState.opened ∧ 0 < (s.win n).pendLoss ∧ (s.win n).count < min (s.getP P.EVENT_QUOTA n) (2 ^ (s.win n).sizeLog2 - 1) ∧ 32 ≤ s.hostGood ((s.win n).base + 32 * (s.win n).head) 32)
  ∧ (∃ (c : Cmd) (s : Machine.State), s.takes 1 c ∧ c.headerOk ∧ c.operands 0 0 ∧ s.fwSupports 1 = true ∧ c.win ≠ 64 ∧ s.winState c.win = WinState.closed)
  ∧ (∃ (c : Cmd) (s : Machine.State), s.accepts false 2 c ∧ c.operands 0 0)
  ∧ (∃ (c : Cmd) (s : Machine.State), s.takes 3 c ∧ c.headerOk ∧ c.operands 0 0 ∧ s.fwSupports 3 = true ∧ c.win ≠ 64 ∧ s.winState c.win = WinState.closed)
  ∧ (∃ (c : Cmd) (s : Machine.State), s.accepts false 4 c ∧ c.operands 8 4294967040)
  ∧ (∃ (c : Cmd) (s : Machine.State), s.takes 5 c ∧ c.headerOk ∧ c.operands 0 0 ∧ s.fwSupports 5 = true ∧ c.win ≠ 64 ∧ s.winState c.win = WinState.closed ∧ s.ctl.boot = Boot.running ∧ s.getP P.EVENT_OVER_QUOTA c.win = 0 ∧ 6 ≤ (s.win c.win).sizeLog2 ∧ (s.win c.win).sizeLog2 ≤ 16 ∧ (s.win c.win).base ≠ 0 ∧ (s.win c.win).base + 32 * 2 ^ (s.win c.win).sizeLog2 ≤ 2 ^ 64)
  ∧ (∃ (c : Cmd) (s : Machine.State), s.accepts false 6 c ∧ c.operands 0 0 ∧ c.win ≠ 64 ∧ (∀ q < 16, s.pair? c.win q = none) ∧ (∀ e < 2, s.vcState e = 0 ∨ s.vcp e P.VC_HOLDER ≠ c.win))
  ∧ (∃ (c : Cmd) (s : Machine.State), s.accepts false 7 c ∧ c.operands 32 0 ∧ c.win ≠ 64)
  ∧ (∃ (c : Cmd) (s : Machine.State), s.accepts false 8 c ∧ c.operands 0 0 ∧ c.win ≠ 64)
  ∧ (∃ (c : Cmd) (s : Machine.State), s.accepts false 9 c ∧ c.operands 4 0)
  ∧ (∃ (c : Cmd) (s : Machine.State) (r : ParamRow), s.accepts false 16 c ∧ c.operands 16 18446744065119617024 ∧ c.f 32 1 = 0 ∧ paramRow? (c.f 0 16) = some r ∧ c.f 16 16 < max r.count 1 ∧ c.f 0 16 ≠ P.SERIAL ∧ c.f 0 16 ≠ P.MEM_POOL_FREE ∧ c.f 0 16 ≠ P.MEM_CARVE_USED ∧ (paramBase (c.f 0 16)).1 ≠ P.DPC_STATIC_COUNT)
  ∧ (∃ (c : Cmd) (s : Machine.State), s.accepts true 17 c ∧ c.operands 16 18446744069414584320 ∧ c.f 0 16 = 10 ∧ c.f 16 16 = 0 ∧ 20 ≤ c.f 64 64 ∧ c.f 64 64 ≤ 1000 ∧ s.claimedByOther c.win (pkey 10 0) = false)
  ∧ (∃ (c : Cmd) (s : Machine.State), s.accepts true 18 c ∧ c.opLen = 24 ∧ c.f 0 16 = 1 ∧ c.f 16 48 = 0 ∧ c.f 64 16 = 10 ∧ c.f 80 16 = 0 ∧ c.f 96 32 = 0 ∧ 20 ≤ c.f 128 64 ∧ c.f 128 64 ≤ 1000 ∧ s.claimedByOther c.win (pkey 10 0) = false)
  ∧ (∃ (c : Cmd) (s : Machine.State), s.accepts false 19 c ∧ c.operands 4 0 ∧ c.f 0 16 = 10 ∧ c.f 16 16 = 0)
  ∧ (∃ (lg : ℕ) (k : ℕ) (p : Option ℕ) (s : Machine.State), lg < 28 ∧ s.ctl.staged = [{ ats := [Boundary.lane lg], what := StagedWhat.laneTx k p, ticket := none, left := 0 }])
  ∧ (∃ (c : Cmd) (s : Machine.State), s.accepts false 32 c ∧ c.operands 24 0 ∧ tblHost c = 0 ∧ tableRangeOk c = true ∧ c.f 32 1 = 0 ∧ c.f 0 16 ≠ 2 ∧ c.f 0 16 ≠ 3 ∧ c.f 0 16 ≠ 9)
  ∧ (∃ (c : Cmd) (s : Machine.State), s.accepts false 33 c ∧ c.opLen = 24 + tblLen c ∧ tblHost c = 0 ∧ tableRangeOk c = true ∧ c.f 32 1 = 0 ∧ c.f 0 16 ≠ 8 ∧ c.f 0 16 ≠ 9 ∧ (∀ (g : Staging), s.staging? (c.f 0 16) (c.f 16 16) = some g → g.owner = c.win))
  ∧ (∃ (c : Cmd) (s : Machine.State) (g : Staging), s.accepts false 34 c ∧ c.opLen = 4 ∧ c.f 0 16 = 4 ∧ s.staging? 4 (c.f 16 16) = some g ∧ g.owner = c.win ∧ s.commitPending 4 (c.f 16 16) = false ∧ (∀ e ∈ g.bytes, e.1 % 4 ≠ 3) ∧ c.immediate = false)
  ∧ (∃ (c : Cmd) (s : Machine.State), s.accepts false 35 c ∧ c.operands 4 0 ∧ c.f 16 16 < tableCount (c.f 0 16) ∧ s.staging? (c.f 0 16) (c.f 16 16) = none)
  ∧ (∃ (c : Cmd) (s : Machine.State), s.accepts true 48 c ∧ c.operands 20 1461501635969773450519930978862784589928859697152 ∧ c.win ≠ 64 ∧ c.f 0 32 = 0 ∧ 1 ≤ c.f 32 32 ∧ c.f 32 32 ≤ 16777216 ∧ c.f 128 1 = 1 ∧ c.f 129 1 = 0 ∧ s.ctl.switch = none ∧ c.f 32 32 ≤ s.hostGood (c.f 64 64) (c.f 32 32) ∧ c.host = [])
  ∧ (∃ (c : Cmd) (s : Machine.State), s.accepts true 49 c ∧ c.operands 1 252 ∧ s.ctl.switch = none ∧ s.slotValid s.inactiveSlot = true ∧ c.f 0 1 = 1)
  ∧ (∃ (c : Cmd) (s : Machine.State), s.accepts false 50 c ∧ c.operands 0 0)
  ∧ (∃ (c : Cmd) (s : Machine.State), s.accepts true 51 c ∧ c.operands 8 0 ∧ c.f 0 32 < 4 ∧ c.f 32 32 = 1380275787 ∧ (s.fwSlot (s.getP P.FW_ACTIVE_SLOT 0)).key ≠ c.f 0 32)
  ∧ (∃ (c : Cmd) (s : Machine.State), s.accepts true 66 c ∧ c.operands 8 18446742974197989120 ∧ c.f 0 8 = 5 ∧ c.f 16 16 < 64 ∧ c.f 32 8 = 0 ∧ (s.partner { kind := 5, pos := c.f 16 16 }).quarantined = true)
  ∧ (∃ (p : PartnerId) (s : Machine.State), p.wf = true ∧ (s.partner p).present = true ∧ (s.partner p).reported = false ∧ (p.kind = 0 → s.camState p.pos = 5))
  ∧ (∃ (w : ℕ) (s : Machine.State), w < 64 ∧ (s.partner { kind := 5, pos := w }).present = true ∧ (s.partner { kind := 5, pos := w }).quarantined = true)
  ∧ (∃ (n : ℕ) (s : Machine.State), 1 ≤ n ∧ n ≤ 63)
  ∧ (∃ (s : Machine.State), s.getP P.RM_STATE 0 = 2 ∧ s.ring.invalid = 7)
  ∧ (∃ (s : Machine.State), s.ctl.boot = Boot.running ∧ s.ctl.restarting = true ∧ s.ctl.heldReplies = [])
  ∧ (∃ (s : Machine.State), (∀ (w : ℕ), (s.win w).pendLoss = 0 ∧ (s.win w).rung = 0) ∧ (∀ f ∈ s.ctl.flights, f.started = true) ∧ s.dram.poison = [])
  ∧ (∃ (n : ℕ) (k : ℕ) (m : Sys2Proof.SMap Byte) (b : Boundary) (s : Machine.State), s.ctl.staged = [{ ats := [b], what := StagedWhat.tables [(4, n, m)], ticket := none, left := k }] ∧ s.hasReached b = true)
  ∧ (∃ (w : Switchover) (s : Machine.State), s.ctl.switch = some w ∧ w.imported = true) :=
  ⟨⟨16666667, up, by decide +kernel⟩,
   ⟨16667666, (withP [(P.RM_SOURCE, 0, 1), (P.RM_STATE, 0, 2)] up), by decide +kernel⟩,
   ⟨1, up.setP P.TRIG_ARM 0 1, by decide +kernel⟩,
   ⟨0, 63, 65535, up, by decide +kernel⟩,
   ⟨0, 0, up.setWin 0 { state := .opened, busy := 1, rung := 1 }, by decide +kernel⟩,
   ⟨0, 0, 5, up.setWin 0 { state := .opened, base := 0x10000, sizeLog2 := 6, head := 5, tail := 60, written := 69 }, by decide +kernel⟩,
   ⟨0, 1, 2 ^ 32 - 1, up, by decide +kernel⟩,
   ⟨0, up.setWin 0 { state := .opened, base := 0x10000, sizeLog2 := 6, head := 61, written := 61, lost := 3, pendLoss := 3, firstLoss := 9 }, by decide +kernel⟩,
   ⟨{ cmd 0 0 with win := 1 }, up, by decide +kernel⟩,
   ⟨cmd 0 0, up, by decide +kernel⟩,
   ⟨{ cmd 0 0 with win := 1 }, up, by decide +kernel⟩,
   ⟨cmd 8 0xFF, up, by decide +kernel⟩,
   ⟨{ cmd 0 0 with win := 63 }, up.setWin 63 { base := 0x10000, sizeLog2 := 16 }, by decide +kernel⟩,
   ⟨cmd 0 0, up, by decide +kernel⟩,
   ⟨cmd 32 (2 ^ 256 - 1), up, by decide +kernel⟩,
   ⟨cmd 0 0, up, by decide +kernel⟩,
   ⟨cmd 4 0, up, by decide +kernel⟩,
   ⟨cmd 16 (10 ||| 0 <<< 64), up, (paramRow? 10).get rfl, by refine ⟨?_, ?_, ?_, ?_, ?_, ?_, ?_, ?_, ?_⟩ <;> first | exact (by decide +kernel) | decide +kernel⟩,
   ⟨cmd 16 (10 ||| 20 <<< 64), up, by decide +kernel⟩,
   ⟨cmd 24 (1 ||| 10 <<< 64 ||| 20 <<< 128), up, by decide +kernel⟩,
   ⟨cmd 4 10, up, by decide +kernel⟩,
   ⟨27, 1167, some 3, { up with ctl := { up.ctl with staged := [{ ats := [.lane 27], what := .laneTx 1167 (some 3), ticket := none, left := 0 }] } }, by decide +kernel⟩,
   ⟨cmd 24 (4 ||| 4 <<< 32), up, by decide +kernel⟩,
   ⟨cmd 28 (4 ||| 4 <<< 32 ||| 0xFF <<< 192), up, by refine ⟨?_, ?_, ?_, ?_, ?_, ?_, ?_, ?_⟩ <;> first | exact (by intro g h; cases h) | decide +kernel⟩,
   ⟨cmd 4 4, { up with ctl := { up.ctl with staging := [{ table := 4, num := 0, owner := 0, bytes := [(0, 1)] }] } }, { table := 4, num := 0, owner := 0, bytes := [(0, 1)] }, by decide +kernel⟩,
   ⟨cmd 4 4, up, by decide +kernel⟩,
   ⟨cmd 20 (1 <<< 32 ||| 0x100 <<< 64 ||| 1 <<< 128), up, by decide +kernel⟩,
   ⟨cmd 1 1, { up with ctl := { up.ctl with fwB := { valid := true, release := 0x04010001 } } }, by decide +kernel⟩,
   ⟨cmd 0 0, up, by decide +kernel⟩,
   ⟨cmd 8 (3 ||| 1380275787 <<< 32), up, by decide +kernel⟩,
   ⟨cmd 8 (5 ||| 63 <<< 16), up.setPartner { kind := 5, pos := 63 } { present := true, since := 0, quarantined := true }, by decide +kernel⟩,
   ⟨{ kind := 5, pos := 63 }, up.setPartner { kind := 5, pos := 63 } { present := true, since := 0, quarantined := false }, by decide +kernel⟩,
   ⟨63, up.setPartner { kind := 5, pos := 63 } { present := true, since := 0, quarantined := true }, by decide +kernel⟩,
   ⟨63, up, by decide +kernel⟩,
   ⟨{ (withP [(P.RM_SOURCE, 0, 1), (P.RM_STATE, 0, 2)] up) with ring := { (withP [(P.RM_SOURCE, 0, 1), (P.RM_STATE, 0, 2)] up).ring with invalid := 7 } }, by decide +kernel⟩,
   ⟨{ up with ctl := { up.ctl with restarting := true, fwReady := false } }, by decide +kernel⟩,
   ⟨State.reset, fun _ => ⟨rfl, rfl⟩, by decide +kernel⟩,
   ⟨0, 0, [(0, 1)], .master, { up with ctl := { up.ctl with staged := [{ ats := [.master], what := .tables [(4, 0, [(0, 1)])], ticket := none, left := 0 }], reached := [.master] } }, by decide +kernel⟩,
   ⟨{ start := 0, imported := true, ticket := 1, raiseFloor := false }, { up with ctl := { up.ctl with switch := some { start := 0, imported := true, ticket := 1, raiseFloor := false } } }, by decide +kernel⟩⟩

/-- O54: each clause of EveryCameraCommandCompletes has an input. -/
theorem test_hypotheses_EveryCameraCommandCompletes :
  (∃ (g : ℕ) (lane : ℕ) (s : Machine.State), g < 8 ∧ lane < 17 ∧ s.camState g = 1)
  ∧ (∃ (g : ℕ) (s : Machine.State), g < 8 ∧ 2 ≤ s.camState g ∧ s.camState g ≤ 4)
  ∧ (∃ (g : ℕ) (sets : List AlignSet) (s : Machine.State), g < 8 ∧ sets.all AlignSet.wf = true ∧ (∀ a ∈ sets, s.hears (1024 + 17 * g + a.lane) = true) ∧ s.camState g = 2 ∧ (s.laneGroup (16 + g)).trapStep ≠ 5 ∧ (readAligns sets (s.group g)).width ≠ 0 ∧ (readAligns sets (s.group g)).unique = true ∧ (readAligns sets (s.group g)).missing = [])
  ∧ (∃ (g : ℕ) (s : Machine.State), g < 8 ∧ s.camState g = 4 ∧ (s.group g).identified = false ∧ (s.group g).discovers < 3)
  ∧ (∃ (p : CamPkt) (s : Machine.State), CamPkt.sound 5 p ∧ s.camState p.group = 4 ∧ s.receives p.group ∧ p.payload.length = 32 ∧ byteAt p.payload 12 = 1 ∧ (∀ (o : Head), (s.group p.group).head = some o → o.serial = fieldAt p.payload 0 8))
  ∧ (∃ (p : CamPkt) (s : Machine.State), CamPkt.sound 6 p ∧ s.receives p.group ∧ p.payload.length = 32 ∧ byteAt p.payload 0 % 2 = 1 ∧ (s.sensor p.sensor).present = false ∧ s.boundPipe p.sensor = none)
  ∧ (∃ (p : CamPkt) (s : Machine.State) (q : ℕ) (b : Binding), CamPkt.sound 1 p ∧ s.camState p.group = 5 ∧ s.receives p.group ∧ p.payload.length = 16 ∧ (s.sensor p.sensor).openFrame = OpenFrame.none ∧ (s.sensor p.sensor).next = none ∧ (s.sensor p.sensor).present = true ∧ (s.group p.group).cap 0 = true ∧ (∀ n < 8, (s.pipe n).change = none) ∧ s.boundPipe p.sensor = some q ∧ (s.pipe q).bind = some b ∧ s.bindingMatches b = true ∧ (s.pipe q).rejected = false ∧ s.frameBarred p.sensor = false ∧ (s.pipe q).fmt = some (s.sensor p.sensor).fmt ∧ s.getP (P.pl q P.PL_SID_GATE) 0 = 0 ∧ (s.pipe q).gateReleased = 0 ∧ s.ctl.staged = [] ∧ s.rejectReason q (s.sensor p.sensor).fmt = none ∧ (s.pipe q).building = none ∧ (s.pipe q).refNext = [] ∧ s.getP (P.pl q P.BL_MODE) 0 = 0 ∧ s.fr.wb = [] ∧ s.binList = [] ∧ byteAt p.payload 6 % 2 = 0)
  ∧ (∃ (p : CamPkt) (late : List ℕ) (s : Machine.State) (q : ℕ) (f : Frame), (∀ x ∈ late, x < 16384) ∧ CamPkt.sound 2 p ∧ s.camState p.group = 5 ∧ s.receives p.group ∧ (s.sensor p.sensor).openFrame = OpenFrame.pipe q ∧ (s.pipe q).cur = some f ∧ f.lines.length ≤ hdrAux p.hdr ∧ hdrAux p.hdr < f.fmt.height ∧ p.payload.length = formatLineBytes f.fmt ∧ (hdrFlags p.hdr).testBit 0 = false)
  ∧ (∃ (p : CamPkt) (s : Machine.State) (q : ℕ) (f : Frame), CamPkt.sound 3 p ∧ s.camState p.group = 5 ∧ s.receives p.group ∧ p.payload.length = 8 ∧ (s.sensor p.sensor).openFrame = OpenFrame.pipe q ∧ (s.pipe q).cur = some f ∧ (s.laneGroup (16 + p.group)).trapStep ≠ 3 ∧ s.fr.wb = [] ∧ s.store q = none ∧ f.lines.length ≤ f.fmt.height)
  ∧ (∃ (p : CamPkt) (s : Machine.State) (q : ℕ) (f : Frame), CamPkt.sound 4 p ∧ s.camState p.group = 5 ∧ s.receives p.group ∧ p.payload ≠ [] ∧ (s.sensor p.sensor).openFrame = OpenFrame.pipe q ∧ (s.pipe q).cur = some f)
  ∧ (∃ (p : CamPkt) (s : Machine.State) (e : ℕ × ℕ) (f : Flight), CamPkt.sound 7 p ∧ s.camState p.group = 5 ∧ s.receives p.group ∧ p.payload.length = 12 ∧ List.find? (fun x => x.1 == hdrAux p.hdr) (s.group p.group).ctrl = some e ∧ s.awaits e.2 f)
  ∧ (∃ (p : CamPkt) (s : Machine.State), CamPkt.sound 8 p ∧ s.camState p.group = 5 ∧ s.receives p.group ∧ p.payload.length = 8)
  ∧ (∃ (p : CamPkt) (late : List ℕ) (s : Machine.State) (i : Instr), p.faulty = true ∧ s.receives p.group ∧ i ∈ [Instr.cameraBadPacket p, Instr.identity p, Instr.vcAnnounce p, Instr.frameStart p, Instr.line p late, Instr.frameEnd p, Instr.embedded p, Instr.ctrlReply p, Instr.headStatus p] ∧ i.wellFormed = true)
  ∧ (∃ (g : ℕ) (t : ℕ) (s : Machine.State), g < 8 ∧ s.camState g = 5 ∧ s.powerState ≠ 2)
  ∧ (∃ (g : ℕ) (q : ℕ) (d3 : ℕ) (t : ℕ) (t0 : ℕ) (s : Machine.State), g < 8 ∧ d3 < 256 ∧ q + d3 = 255 ∧ s.camState g = 5 ∧ s.groupHears g = true ∧ List.find? (fun e => e.1 == q) (s.group g).probes = some (q, t0))
  ∧ (∃ (g : ℕ) (q : ℕ) (e : ℕ × ℕ) (s : Machine.State), g < 8 ∧ q < 65536 ∧ s.camState g = 5 ∧ List.find? (fun x => x.1 == q) (s.group g).probes = some e ∧ (s.group g).lostRun < 15)
  ∧ (∃ (g : ℕ) (m : ℕ) (t : ℕ) (a : ℕ) (e : ℕ × ℤ × ℤ) (s : Machine.State), g < 8 ∧ m < 16 ∧ e ∈ s.tsyncsDue g ∧ m.testBit (e.1 % 4) = true ∧ (∀ x ∈ s.tsyncsDue g, x.2 = e.2) ∧ a = max (e.2.2.toNat / 65536 - 1) (min (e.2.2.toNat / 65536 + 2) t))
  ∧ (∃ (g : ℕ) (tag : ℕ) (e : ℕ × ℕ) (f : Flight) (s : Machine.State), g < 8 ∧ tag < 65536 ∧ List.find? (fun x => x.1 == tag) (s.group g).ctrl = some e ∧ s.awaits e.2 f)
  ∧ (∃ (g : ℕ) (lane : ℕ) (s : Machine.State), g < 8 ∧ lane < 16 ∧ s.camState g = 5 ∧ lane < (s.group g).width ∧ s.getP (P.cg g P.CG_SPARE_MAP) 0 = 255 ∧ (s.group g).pendingMap = none ∧ (s.group g).lspSeen = true ∧ (s.group g).cap 2 = true ∧ (s.laneGroup (16 + g)).trapStep = 0)
  ∧ (∃ (g : ℕ) (s : Machine.State), g < 8 ∧ s.camState g ≠ 0)
  ∧ (∃ (c : Cmd) (s : Machine.State), s.accepts false 257 c ∧ c.operands 20 4278190080 ∧ c.f 0 8 < 8 ∧ c.f 8 8 < 8 ∧ c.f 16 8 < 4 ∧ s.bindHeld (c.f 0 8) (4 * c.f 8 8 + c.f 16 8) = false ∧ (s.pipe (c.f 0 8)).bind = none ∧ s.boundPipe (4 * c.f 8 8 + c.f 16 8) = none ∧ c.immediate = true)
  ∧ (∃ (c : Cmd) (s : Machine.State) (b : Binding), s.accepts false 258 c ∧ c.operands 1 0 ∧ c.f 0 8 < 8 ∧ (s.pipe (c.f 0 8)).bind = some b ∧ s.bindHeld (c.f 0 8) b.sensor = false ∧ c.immediate = true)
  ∧ (∃ (c : Cmd) (s : Machine.State), s.accepts false 259 c ∧ c.f 40 8 ≤ 32 ∧ c.operands (12 + c.f 40 8) 4294901760 ∧ c.f 0 8 < 8 ∧ c.f 8 8 < 4 ∧ c.f 32 8 ≠ 0 ∧ s.sensorUsable (4 * c.f 0 8 + c.f 8 8) = true)
  ∧ (∃ (c : Cmd) (s : Machine.State), s.accepts false 260 c ∧ c.operands 12 4294967040 ∧ c.f 0 8 < 8 ∧ s.headUsable (c.f 0 8) = true)
  ∧ (∃ (c : Cmd) (s : Machine.State), s.accepts false 261 c ∧ c.operands 8 4294967040 ∧ c.f 0 8 < 8 ∧ s.headUsable (c.f 0 8) = true)
  ∧ (∃ (c : Cmd) (s : Machine.State), s.accepts false 262 c ∧ c.operands 1 0 ∧ c.f 0 8 < 8 ∧ s.camState (c.f 0 8) = 0) :=
  ⟨⟨7, 16, (up.setP (P.cg 7 P.CG_STATE) 0 1), by decide +kernel⟩,
   ⟨0, (up.setP (P.cg 0 P.CG_STATE) 0 4), by decide +kernel⟩,
   ⟨0, [{ lane := 0, d1 := 0, d2 := 9, d3 := 0 }], ((locked [1024] up).setP (P.cg 0 P.CG_STATE) 0 2), by decide +kernel⟩,
   ⟨0, ((up.setP (P.cg 0 P.CG_STATE) 0 4).setGroup 0 { discovers := 2 }), by decide +kernel⟩,
   ⟨camPkt 0 5 0 0 0 (leBytes 0x123456789A 12 ++ leBytes 1 20), (((locked [1024] up).setP (P.cg 0 P.CG_STATE) 0 4).setGroup 0 { headWidth := 1, lanes := [(0, 0)] }), by refine ⟨?_, ?_, ?_, ?_, ?_, ?_⟩ <;> first | exact (by intro o h; cases h) | decide +kernel⟩,
   ⟨camPkt 0 6 1 0 0 (leBytes 1 32), camUp, by decide +kernel⟩,
   ⟨camPkt 0 1 0 0 0 (leBytes 0x123456789 16), (camUp.setSensor 0 { present := true, serial := 7, fmt := { fmt with width := 256 } }).setPipe 0 { bind := some { sensor := 0 }, fmt := some { fmt with width := 256 } }, 0, { sensor := 0 }, by decide +kernel⟩,
   ⟨camPkt 0 2 0 3 0 (leBytes 0x123456789 96), [3, 16383], camFrame, 0, { fmt := fmt }, by decide +kernel⟩,
   ⟨camPkt 0 3 0 0 0 (leBytes 4 8), camFrame, 0, { fmt := fmt }, by decide +kernel⟩,
   ⟨camPkt 0 4 0 0 0 [1, 2, 3], camFrame, 0, { fmt := fmt }, by decide +kernel⟩,
   ⟨camPkt 0 7 0 3 0 (leBytes 5 12), flying 0x105 (State.modGroup 0 (fun x => { x with ctrl := [(3, 9)] }) camUp), (3, 9), flight 0x105, by decide +kernel⟩,
   ⟨camPkt 0 8 0 0 0 (leBytes 0x010203 8), camUp, by decide +kernel⟩,
   ⟨{ camPkt 0 8 0 0 0 (leBytes 0x010203 8) with fin := .missing }, [], camUp, .headStatus ({ camPkt 0 8 0 0 0 (leBytes 0x010203 8) with fin := .missing }), by decide +kernel⟩,
   ⟨0, 6000, camUp, by decide +kernel⟩,
   ⟨0, 0x12, 0xED, 9000, 8000, State.modGroup 0 (fun x => { x with probes := [(0x12, 8000)] }) camUp, by decide +kernel⟩,
   ⟨0, 5, (5, 100), State.modGroup 0 (fun x => { x with probes := [(5, 100)], lostRun := 14 }) camUp, by decide +kernel⟩,
   ⟨0, 1, 16666567, 16666567, (0, 1092266666667, 1092260113067), camUp, by decide +kernel⟩,
   ⟨0, 3, (3, 9), flight 0x105, flying 0x105 (State.modGroup 0 (fun x => { x with ctrl := [(3, 9)] }) camUp), by decide +kernel⟩,
   ⟨0, 0, camUp, by decide +kernel⟩,
   ⟨0, camUp, by decide +kernel⟩,
   ⟨{ cmd 20 0x000307 with flags := 4 }, camUp, by decide +kernel⟩,
   ⟨{ cmd 1 7 with flags := 4 }, camUp.setPipe 7 { bind := some { sensor := 0 } }, { sensor := 0 }, by decide +kernel⟩,
   ⟨cmd 44 (1 <<< 32 ||| 32 <<< 40 ||| 0xABC <<< 96), camUp, by decide +kernel⟩,
   ⟨cmd 12 (0xFF <<< 64), camUp, by decide +kernel⟩,
   ⟨cmd 8 (0xFF <<< 32), camUp, by decide +kernel⟩,
   ⟨cmd 1 7, up, by decide +kernel⟩⟩

/-- O55: each clause of EveryPipelineAndCanvasCommandCompletes has an input. -/
theorem test_hypotheses_EveryPipelineAndCanvasCommandCompletes :
  (∃ (p : ℕ) (s : Machine.State), p < 8 ∧ s.getP (P.pl p P.PL_STATE) 0 = 2 ∧ (s.pipe p).change = none)
  ∧ (∃ (p : ℕ) (s : Machine.State), p < 8 ∧ s.getP (P.pl p P.PL_SID_GATE) 0 ≠ 0 ∧ s.getP (P.pl p P.PL_SID_GATE_TIMEOUT) 0 ≤ (s.pipe p).gateFrames)
  ∧ (∃ (p : ℕ) (r : StatRecord) (s : Machine.State), p < 8 ∧ (s.pipe p).building = some r)
  ∧ (∃ (c : Cmd) (r : StatRecord) (l : List StatRecord) (s : Machine.State), s.accepts false 513 c ∧ c.operands 20 4294901760 ∧ c.host = [] ∧ c.f 0 8 < 8 ∧ c.f 8 8 = 0 ∧ c.f 64 64 ≠ 0 ∧ c.f 64 64 % 64 = 0 ∧ 64 ≤ c.f 128 32 ∧ c.f 128 32 ≤ 22592 ∧ c.f 128 32 % 64 = 0 ∧ (s.pipe (c.f 0 8)).records = r :: l ∧ s.hostGood (c.f 64 64) (List.take (c.f 128 32) r.bytes).length = (List.take (c.f 128 32) r.bytes).length)
  ∧ (∃ (c : Cmd) (k : ℕ) (s : Machine.State), s.accepts false 576 c ∧ c.operands 8 4294705152 ∧ (c.f 0 8 = 0 ∧ c.f 8 8 < 8 ∨ c.f 0 8 = 1 ∧ c.f 8 8 < 16) ∧ k < 4 ∧ s.probe k = none ∧ (∀ j < k, s.probe j ≠ none))
  ∧ (∃ (k : ℕ) (q : Probe) (r : ℕ) (g : Flight) (s : Machine.State), k < 4 ∧ s.probe k = some q ∧ q.result = some r ∧ s.awaits q.ticket g)
  ∧ (∃ (k : ℕ) (q : Probe) (g : Flight) (s : Machine.State), k < 4 ∧ s.probe k = some q ∧ q.result = none ∧ s.awaits q.ticket g)
  ∧ (∃ (c : ℕ) (t : ℕ) (s : Machine.State), c < 16 ∧ s.quietCanvas c ∧ s.cvState c = 1)
  ∧ (∃ (c : ℕ) (p : ℕ) (s : Machine.State), c < 16 ∧ p < 4 ∧ s.cvState c = 2 ∧ p < s.cvp c P.CV_PHASES 0 ∧ (∀ i < 8, s.inputActive c i = false))
  ∧ (∃ (c : ℕ) (p : ℕ) (y : ℕ) (s : Machine.State), c < 16 ∧ p < 4 ∧ s.cvState c = 2 ∧ (s.canvas c).composing = true ∧ (s.canvas c).phase = p ∧ y < s.cvp c P.CV_TOTAL_LINES 0 ∧ y < s.cvp c P.CV_HEIGHT 0 ∧ (∀ i < 16, 16 ≤ s.cvp c P.CV_ZORDER i) ∧ s.eventEnabled c 1 p = false ∧ s.portMap c = [] ∧ (∀ k < 4, s.probe k = none))
  ∧ (∃ (c : ℕ) (p : ℕ) (fence : ℕ) (s : Machine.State), c < 16 ∧ p < 4 ∧ s.cvState c = 2 ∧ (s.canvas c).composing = true ∧ (s.canvas c).phase = p ∧ (∀ e < 2, s.vcp e P.VC_MODE ≠ 1))
  ∧ (∃ (c : ℕ) (l : ℕ) (y : ℕ) (w : ℕ) (k : Layer) (s : Machine.State), c < 16 ∧ l < 8 ∧ s.layerOf c l (s.pictureOf c unpackPicture) = some k ∧ k.y ≤ y ∧ y < k.y + k.h ∧ s.fetchAt c l y = some (w, false) ∧ s.dram.flaws = [] ∧ s.goodBytes (k.base + (y - k.y) * k.stride) (layerBpp k.format * (min (k.x + k.w) (s.cvp c P.CV_WIDTH 0) - k.x)) = layerBpp k.format * (min (k.x + k.w) (s.cvp c P.CV_WIDTH 0) - k.x))
  ∧ (∃ (p : ℕ) (t : ℕ) (b : ℕ) (x : FrameStore) (s : Machine.State), p < 8 ∧ s.store p = some x ∧ x.writing = some b)
  ∧ (∃ (n : ℕ) (p : ℕ) (c : ℕ) (s : Machine.State), n < 4 ∧ p < 4 ∧ s.psoCanvas n = some c ∧ s.cvState c = 2 ∧ s.powerState ≠ 2 ∧ p < s.cvp c P.CV_PHASES 0 ∧ (s.cvp c P.CV_PSO_PHASES n).testBit p = true ∧ (s.canvas c).prevStart = none)
  ∧ (∃ (n : ℕ) (t : ℕ) (r : ℕ × ℕ) (s : Machine.State), n < 4 ∧ s.cv.pso.testBit n = true ∧ SMap.get (fun x => (0, 0)) s.cv.psoRise n = r ∧ r.1 + r.2 ≤ t)
  ∧ (∃ (c : Cmd) (l : ℕ) (s : Machine.State), s.accepts false 769 c ∧ c.operands 68 4294901760 ∧ c.f 0 8 < 16 ∧ l < 8 ∧ c.f 8 8 = 1 <<< l ∧ (State.putParams [(P.cv (c.f 0 8) P.LY_BASE, l, c.f (32 + 64 * l) 64)] s.preview).layerRange (c.f 0 8) l P.LY_BASE = true ∧ s.claimedByOther c.win (pkey (P.cv (c.f 0 8) P.LY_BASE) l) = false ∧ c.immediate = true)
  ∧ (∃ (c : Cmd) (s : Machine.State), s.accepts false 770 c ∧ c.operands 1 0 ∧ c.f 0 8 < 16 ∧ s.cvState (c.f 0 8) < 256 ∧ s.cvp (c.f 0 8) P.CV_PHASES 0 < 256)
  ∧ (∃ (k : UnifCommit) (s : Machine.State), s.colour.commit = some k ∧ k.copied = false)
  ∧ (∃ (k : UnifCommit) (tk : ℕ) (g : Flight) (s : Machine.State), s.colour.commit = some k ∧ k.copied = true ∧ k.waiting = [] ∧ k.ticket = some tk ∧ s.awaits tk g) :=
  ⟨⟨7, up.setP (P.pl 7 P.PL_STATE) 0 2, by decide +kernel⟩,
   ⟨7, (up.setP (P.pl 7 P.PL_SID_GATE) 0 5).setPipe 7 { gateFrames := 60 }, by decide +kernel⟩,
   ⟨7, { bytes := List.replicate 22592 0 }, up.setPipe 7 { building := some { bytes := List.replicate 22592 0 } }, by decide +kernel⟩,
   ⟨cmd 20 (7 ||| 64 <<< 64 ||| 22592 <<< 128), { tag := 5, bytes := leBytes 0x1234567 64 }, [], up.setPipe 7 { records := [{ tag := 5, bytes := leBytes 0x1234567 64 }] }, by decide +kernel⟩,
   ⟨cmd 8 (1 ||| 15 <<< 8), 3, { up with colour := { probes := [(0, some { canvas := false, unit := 0, phase := 0, x := 63, y := 3, ticket := 9, since := 100 }), (1, some { canvas := false, unit := 0, phase := 0, x := 63, y := 3, ticket := 9, since := 100 }), (2, some { canvas := false, unit := 0, phase := 0, x := 63, y := 3, ticket := 9, since := 100 })] } }, by decide +kernel⟩,
   ⟨0, { canvas := false, unit := 0, phase := 0, x := 63, y := 3, ticket := 9, since := 100, result := some 77 }, 77, flight 0x240, flying 0x240 ({ up with colour := { probes := [(0, some { canvas := false, unit := 0, phase := 0, x := 63, y := 3, ticket := 9, since := 100, result := some 77 })] } }), by decide +kernel⟩,
   ⟨0, { canvas := false, unit := 0, phase := 0, x := 63, y := 3, ticket := 9, since := 100 }, flight 0x240, flying 0x240 ({ up with colour := { probes := [(0, some { canvas := false, unit := 0, phase := 0, x := 63, y := 3, ticket := 9, since := 100 })] } }), by decide +kernel⟩,
   ⟨15, 5000, up.setP (P.cv 15 P.CV_STATE) 0 1, by decide +kernel⟩,
   ⟨15, 0, up.setP (P.cv 15 P.CV_STATE) 0 2, by decide +kernel⟩,
   ⟨0, 0, 2159, withP ((List.range 16).map fun i => (P.cv 0 P.CV_ZORDER, i, 255)) cvUp, by decide +kernel⟩,
   ⟨0, 0, 5000, cvUp, by decide +kernel⟩,
   ⟨0, 0, 1, 0, { format := 1, base := carveWindow 2, stride := 64, x := 0, y := 0, w := 2, h := 2 }, withP [(P.cv 0 P.LY_FORMAT, 0, 1), (P.cv 0 P.LY_SIZE, 0, 2 + 2 * 65536), (P.cv 0 P.LY_BASE, 0, carveWindow 2), (P.cv 0 P.LY_STRIDE, 0, 64)] { cvUp with dram := { buffers := [{ base := carveWindow 2, bytes := 0x200000, carve := 2, owner := .window 0, pages := [1024], order := 0 }] } }, by decide +kernel⟩,
   ⟨7, 5000, 1, { base := 0, width := 2, height := 2, writing := some 1 }, { up with cv := { stores := [(7, some { base := 0, width := 2, height := 2, writing := some 1 })] } }, by decide +kernel⟩,
   ⟨3, 3, 0, withP [(P.cv 0 P.CV_PHASES, 0, 4)] cvUp, by decide +kernel⟩,
   ⟨3, 7, (7, 0), { cvUp with cv := { cvUp.cv with pso := 8, psoRise := [(3, (7, 0))] } }, by decide +kernel⟩,
   ⟨{ cmd 68 (128 <<< 8 ||| (carveWindow 2) <<< 480) with flags := 4 }, 7, up, by decide +kernel⟩,
   ⟨cmd 1 15, up, by decide +kernel⟩,
   ⟨{ bytes := [] }, { up with colour := { commit := some { bytes := [] } } }, by decide +kernel⟩,
   ⟨{ bytes := [], copied := true, waiting := [], ticket := some 9 }, 9, flight 0x22, flying 0x22 { up with colour := { commit := some { bytes := [], copied := true, waiting := [], ticket := some 9 } } }, by decide +kernel⟩⟩

/-- O56: each clause of EveryMidwayCommandCompletes has an input. -/
theorem test_hypotheses_EveryMidwayCommandCompletes :
  (∃ (c : ℕ) (p : ℕ) (l : ℕ) (r : ℕ) (d1 : ℕ) (d2 : ℕ) (s : Machine.State), c < 16 ∧ p < 4 ∧ s.cvState c = 2 ∧ s.powerState ≠ 2 ∧ p < s.cvp c P.CV_PHASES 0 ∧ s.canvasLoops c = [l] ∧ (s.dirMode l = 1 ∨ s.dirMode l = 2) ∧ (s.loop l).a.reach = r ∧ r ≠ 0 ∧ (s.loop l).b.reach = 0 ∧ (d1 = p * 64 + (if r = s.dirCount l then r + 1 else r) % 64) ∧ d2 = (s.canvas c).tag % 256 ∧ (∀ (h : ℕ), 1 ≤ h → h ≤ 32 → (s.tile l h).frame = none))
  ∧ (∃ (l : ℕ) (h : ℕ) (c : ℕ) (p : ℕ) (y : ℕ) (m : MapEntry) (codes : List ℕ) (s : Machine.State), l < 512 ∧ 1 ≤ h ∧ h ≤ 32 ∧ c < 16 ∧ p < 4 ∧ List.find? (fun x => x.loop == l && x.hop == h) (s.portMap c) = some m ∧ SMap.find (outKey l h y) (s.canvas c).out = some codes ∧ s.takesFrames l h p = false)
  ∧ (∃ (l : ℕ) (e : ℕ) (s : Machine.State), l < 512 ∧ e < 2 ∧ s.dirMode l ≠ 3 ∧ s.powerState ≠ 2 ∧ s.feedingEnd l e = true ∧ ((s.loop l).side e).running = false)
  ∧ (∃ (p : TilePkt) (e : ℕ) (f : ℕ) (c : ℕ) (h : ℕ) (s : Machine.State), e < 2 ∧ TilePkt.sound 5 p ∧ s.portEnd p.port = some f ∧ s.hears p.port = true ∧ s.dirMode (p.port / 2) ≠ 3 ∧ p.payload.length = 32 ∧ ((s.loop (p.port / 2)).side e).running = true ∧ byteAt p.payload 25 = e ∧ fieldAt p.payload 26 2 = ((s.loop (p.port / 2)).side e).discId ∧ byteAt p.payload 24 = c ∧ 1 ≤ c ∧ c ≤ s.dirCount (p.port / 2) ∧ s.dirCount (p.port / 2) ≤ 32 ∧ h = s.hopAt (p.port / 2) e c ∧ (s.tile (p.port / 2) h).fromA = false ∧ (s.tile (p.port / 2) h).fromB = false ∧ s.tileCheck (p.port / 2) h (tileInfoOf p.payload) = none ∧ (∀ (v : ℕ), s.loopCanvas (p.port / 2) = some v → s.cvp v P.CV_PHASES 0 ≤ (tileInfoOf p.payload).maxPhases + 1) ∧ ((s.loop (p.port / 2)).side e).answers.length + 1 ≠ s.dirCount (p.port / 2))
  ∧ (∃ (p : TilePkt) (e : ℕ) (k : ℕ × ℕ × ℕ) (g : Flight) (s : Machine.State), TilePkt.sound 8 p ∧ s.portEnd p.port = some e ∧ s.hears p.port = true ∧ p.payload.length = 12 ∧ byteAt p.payload 8 ≤ 2 ∧ s.dirMode (p.port / 2) ≠ 3 ∧ List.find? (fun x => x.1 == hdrAux p.hdr) (s.loop (p.port / 2)).cfg = some k ∧ s.awaits k.2.2 g)
  ∧ (∃ (p : TilePkt) (e : ℕ) (h : ℕ) (s : Machine.State), TilePkt.sound 10 p ∧ s.portEnd p.port = some e ∧ s.hears p.port = true ∧ p.payload.length = 16 ∧ s.dirMode (p.port / 2) ≠ 3 ∧ s.hopOfDist (p.port / 2) e (byteAt p.hdr 1 % 64) = h ∧ 1 ≤ h ∧ h ≤ 32)
  ∧ (∃ (p : ℕ) (d1 : ℕ) (d2 : ℕ) (d3 : ℕ) (t : ℕ) (r : ℕ) (s : Machine.State), p < 1024 ∧ d1 < 256 ∧ d2 < 256 ∧ (d1 ^^^ d2) + d3 = 255 ∧ s.portEnd p = some 0 ∧ s.hears p = true ∧ s.dirMode (p / 2) = 2 ∧ (s.loop (p / 2)).a.heard ≠ some (d1 / 16, d2) ∧ (d1 / 16 = 0 ∧ r = d2 + 1 ∨ d1 / 16 = 2 ∧ r = d2) ∧ 1 ≤ r ∧ r < s.dirCount (p / 2) ∧ s.dirCount (p / 2) ≤ 32 ∧ (s.loop (p / 2)).trap = 0 ∧ (s.loop (p / 2)).a.reach = s.dirCount (p / 2) ∧ (s.loop (p / 2)).a.found = s.dirCount (p / 2) ∧ (s.loop (p / 2)).b.reach = 0)
  ∧ (∃ (l : ℕ) (e : ℕ) (s : Machine.State), l < 512 ∧ e < 2 ∧ s.ownsEnd l e = true ∧ ((s.loop l).side e).reach = 0 ∧ s.powerState ≠ 2 ∧ ((s.loop l).side e).trained = true ∧ ((s.loop l).side e).running = false ∧ (s.loop l).trap = 0)
  ∧ (∃ (l : ℕ) (r : ℕ) (s : Machine.State), l < 512 ∧ s.dirMode l = 2 ∧ s.dirCount l ≤ 32 ∧ (s.loop l).b.starting = true ∧ (s.loop l).b.done = true ∧ (s.loop l).b.running = false ∧ (s.loop l).a.running = false ∧ (s.loop l).a.reach ≠ 0 ∧ r = min (s.dirCount l - (s.loop l).a.reach) (s.loop l).b.found ∧ r ≠ 0)
  ∧ (∃ (l : ℕ) (h : ℕ) (e : ℕ) (s : Machine.State), l < 512 ∧ 1 ≤ h ∧ h ≤ 32 ∧ s.ctrlEnd l h = some e ∧ s.powerState ≠ 2 ∧ s.tileState l h ≠ 4)
  ∧ (∃ (l : ℕ) (h : ℕ) (s : Machine.State), l < 512 ∧ 1 ≤ h ∧ h ≤ 32 ∧ (s.tile l h).poll ≠ none ∧ s.tileState l h ≠ 0)
  ∧ (∃ (l : ℕ) (tag : ℕ) (k : ℕ × ℕ × ℕ) (g : Flight) (s : Machine.State), l < 512 ∧ tag < 256 ∧ List.find? (fun x => x.1 == tag) (s.loop l).cfg = some k ∧ s.awaits k.2.2 g)
  ∧ (∃ (l : ℕ) (s : Machine.State), l < 512 ∧ s.dirMode l = 2 ∧ (s.loop l).intact = true ∧ (s.loop l).forced = 0 ∧ s.getP (mwLoop l P.MW_REVERT) 0 = 1 ∧ (s.loop l).handover = none ∧ (s.loop l).b.reach ≠ 0 ∧ (s.loop l).trap = 0)
  ∧ (∃ (l : ℕ) (h : Handover) (s : Machine.State), l < 512 ∧ (s.loop l).handover = some h ∧ h.tag ≠ none ∧ h.reachA ≠ 0 ∧ s.dirMode l = 2 ∧ (s.loop l).a.running = false ∧ (s.loop l).b.running = false)
  ∧ (∃ (l : ℕ) (tk : ℕ) (h : Handover) (g : Flight) (s : Machine.State), l < 512 ∧ (s.loop l).handover = some h ∧ h.goes = false ∧ h.ticket = some tk ∧ s.awaits tk g ∧ (s.loop l).trap = 0 ∧ l ∉ s.mw.link.handing)
  ∧ (∃ (p : TilePkt) (s : Machine.State), TilePkt.soundPartner 1 32 p ∧ s.linkHears = true ∧ s.linkState = 4 ∧ byteAt p.payload 14 = 1 ∧ byteAt p.payload 12 ≠ s.mw.link.role ∧ (s.mw.link.want = 0 ∨ s.mw.link.want = fieldAt p.payload 0 8) ∧ s.mw.link.probesDone < 16)
  ∧ (∃ (p : TilePkt) (e : ℕ) (s : Machine.State), TilePkt.soundPartner 2 8 p ∧ s.linkHears = true ∧ s.linkState = 5 ∧ s.mw.link.hbNext = some e ∧ e < 65536)
  ∧ (∃ (t : ℕ) (d1 : ℕ) (d2 : ℕ) (d3 : ℕ) (s : Machine.State), d1 + d3 = 255 ∧ d2 < 256 ∧ s.linkHears = true ∧ s.partnerTiming = true ∧ s.getP P.RM_STATE 0 = 1 ∧ s.ring.prevEdge = none)
  ∧ (∃ (p : TilePkt) (l : ℕ) (s : Machine.State), TilePkt.soundPartner 3 16 p ∧ s.linkHears = true ∧ s.linkState = 5 ∧ s.mw.link.role = 0 ∧ (s.loop (fieldAt p.payload 0 2)).yields = false ∧ l = fieldAt p.payload 0 2 ∧ l < 512 ∧ s.dirMode l = 3 ∧ s.dirFeeder l = 0)
  ∧ (∃ (p : TilePkt) (l : ℕ) (s : Machine.State), TilePkt.soundPartner 4 12 p ∧ s.linkHears = true ∧ s.linkState = 5 ∧ l = fieldAt p.payload 0 2 ∧ l < 512 ∧ s.dirMode l = 3 ∧ byteAt p.payload 2 = 0 ∧ (s.loop l).handover = none ∧ s.dirFeeder l = 0 ∧ (s.loop l).yields = false ∧ s.reachesAll l 0 = true ∧ byteAt p.payload 9 ≠ 0 ∧ s.loopCanvas l = none)
  ∧ (∃ (p : TilePkt) (l : ℕ) (h : ℕ) (s : Machine.State), TilePkt.soundPartner 5 48 p ∧ s.linkHears = true ∧ s.linkState = 5 ∧ l = fieldAt p.payload 0 2 ∧ l < 512 ∧ s.dirMode l = 3 ∧ h = byteAt p.payload 2 ∧ 1 ≤ h ∧ h ≤ 32 ∧ byteAt p.payload 3 = 1)
  ∧ (∃ (c : Cmd) (s : Machine.State), s.accepts true 65 c ∧ c.operands 12 4278190080 ∧ c.f 0 8 = 0 ∧ s.linkState = 0)
  ∧ (∃ (c : Cmd) (s : Machine.State), s.accepts false 1025 c ∧ c.operands 2 0 ∧ c.f 0 16 < 512 ∧ s.feedingEnd (c.f 0 16) 0 = false ∧ s.feedingEnd (c.f 0 16) 1 = false)
  ∧ (∃ (c : Cmd) (l : ℕ) (h : ℕ) (e : ℕ) (tag : ℕ) (s : Machine.State), l = c.f 0 16 ∧ h = c.f 16 8 ∧ l < 512 ∧ 1 ≤ h ∧ h ≤ 32 ∧ s.tileState l h ≠ 4 ∧ s.ctrlEnd l h = some e ∧ tag = ((s.loop l).cfgTag + 1) % 256 ∧ s.accepts false 1026 c ∧ c.operands 12 4278190080)
  ∧ (∃ (c : Cmd) (l : ℕ) (h : ℕ) (e : ℕ) (tag : ℕ) (s : Machine.State), l = c.f 0 16 ∧ h = c.f 16 8 ∧ l < 512 ∧ 1 ≤ h ∧ h ≤ 32 ∧ s.tileState l h ≠ 4 ∧ s.ctrlEnd l h = some e ∧ tag = ((s.loop l).cfgTag + 1) % 256 ∧ s.accepts false 1027 c ∧ c.operands 8 4278190080)
  ∧ (∃ (c : Cmd) (l : ℕ) (h : ℕ) (n : ℕ) (s : Machine.State), s.accepts false 1028 c ∧ c.operands 4 0 ∧ l = c.f 0 16 ∧ h = c.f 16 8 ∧ n = c.f 24 8 ∧ l < 512 ∧ 1 ≤ h ∧ 1 ≤ n ∧ n ≤ 12 ∧ h + n ≤ 33 ∧ (∀ i < n, s.tileState l (h + i) < 256 ∧ (s.tile l (h + i)).status.length ≤ 16))
  ∧ (∃ (c : Cmd) (l : ℕ) (m : ℕ) (s : Machine.State), s.accepts false 1029 c ∧ c.operands 3 0 ∧ l = c.f 0 16 ∧ m = c.f 16 8 ∧ l < 512 ∧ m = 0 ∧ (s.loop l).handover = none ∧ s.reachesAll l 0 = false)
  ∧ (∃ (p : ℕ) (d1 : ℕ) (d2 : ℕ) (d3 : ℕ) (t : ℕ) (e : ℕ) (s : Machine.State), p < 1024 ∧ d1 < 256 ∧ d2 + d3 = 255 ∧ d1 % 64 = 0 ∧ s.hears p = true ∧ s.portEnd p = some e ∧ d1.testBit 7 = false ∧ d1.testBit 6 = false ∧ ((s.loop (p / 2)).side e).trained = false ∧ e = 0 ∧ (s.loop (p / 2)).forced ≠ 2 ∧ ((s.loop (p / 2)).side e).running = false ∧ s.dirMode (p / 2) ≠ 3 ∧ s.feedingEnd (p / 2) 1 = false)
  ∧ (∃ (p : TilePkt) (e : ℕ) (s : Machine.State), TilePkt.sound 4 p ∧ s.portEnd p.port = some e ∧ s.hears p.port = true ∧ s.dirMode (p.port / 2) = 2 ∧ p.payload.length = 4 ∧ byteAt p.payload 2 ≠ e ∧ hdrAux p.hdr = s.dirCount (p.port / 2) ∧ (s.loop (p.port / 2)).a.done = true ∧ (s.loop (p.port / 2)).a.reach = s.dirCount (p.port / 2) ∧ s.dirCount (p.port / 2) ≠ 0 ∧ (s.loop (p.port / 2)).b.reach = 0)
  ∧ (∃ (p : ℕ) (d1 : ℕ) (d2 : ℕ) (d3 : ℕ) (t : ℕ) (e : ℕ) (s : Machine.State), p < 1024 ∧ d1 < 256 ∧ d2 < 256 ∧ (d1 ^^^ d2) + d3 = 255 ∧ s.portEnd p = some e ∧ s.hears p = true ∧ s.dirMode (p / 2) ≠ 3 ∧ (s.loop (p / 2)).a.done = true ∧ (s.loop (p / 2)).a.reach = s.dirCount (p / 2) ∧ s.dirCount (p / 2) ≠ 0 ∧ (s.loop (p / 2)).b.reach = 0)
  ∧ (∃ (k : ℕ) (s : Machine.State), k < 8 ∧ s.linkState = 1 ∧ s.mw.link.mask.testBit k = true)
  ∧ (∃ (l : List AlignSet) (s : Machine.State), l.all AlignSet.wf = true ∧ (∀ a ∈ l, s.hears (1160 + a.lane) = true) ∧ s.linkState = 2 ∧ fullColumn s.mw.link.width l = true)
  ∧ (∃ (q : ℕ) (d3 : ℕ) (t : ℕ) (s : Machine.State), d3 < 256 ∧ q + d3 = 255 ∧ s.linkHears = true ∧ (s.linkState = 4 ∨ s.linkState = 5))
  ∧ (∃ (s : Machine.State), s.linkState = 5 ∧ s.quietEnd = none ∧ s.mw.link.role ≠ 1 ∧ (s.partner linkId).present = true)
  ∧ (∃ (s : Machine.State), 2 ≤ s.linkState ∧ s.linkState ≤ 4) :=
  ⟨⟨0, 0, 0, 2, 3, 0, withP [(P.cv 0 P.CV_STATE, 0, 2)] (loopUp 1 { a := { done := true, reach := 2, found := 2 } } []), by refine ⟨?_, ?_, ?_, ?_, ?_, ?_, ?_, ?_, ?_, ?_, ?_, ?_, ?_⟩ <;> first | exact (fun _ _ _ => rfl) | decide +kernel⟩,
   ⟨0, 1, 0, 0, 0, { num := 1, loop := 0, hop := 1, x := 0, y := 0, mx := false, my := false }, List.replicate 48 5, { withP [(P.cv 0 P.CV_STATE, 0, 2)] (loopUp 1 { a := { done := true, reach := 2, found := 2 } } []) with cv := { cvs := [(0, { held := false, composing := true, out := [(outKey 0 1 0, List.replicate 48 5)] })] } }, by decide +kernel⟩,
   ⟨0, 0, loopUp 2 { a := { trained := true } } [], by decide +kernel⟩,
   ⟨tilePkt 0 5 0 0 (leBytes (0xABC + 1 <<< 96 + 7 <<< 104 + 16 <<< 112 + 4 <<< 128 + 1 <<< 192 + 5 <<< 208) 32), 0, 0, 1, 1, loopUp 2 { a := { trained := true, running := true, discId := 5 } } [], by refine ⟨?_, ?_, ?_, ?_, ?_, ?_, ?_, ?_, ?_, ?_, ?_, ?_, ?_, ?_, ?_, ?_, ?_, ?_, ?_⟩ <;> first | exact (by intro v h; have e : 0 = v := Option.some.inj ((by decide +kernel : some 0 = (loopUp 2 { a := { trained := true, running := true, discId := 5 } } []).loopCanvas 0).trans h); subst e; decide +kernel) | decide +kernel⟩,
   ⟨tilePkt 0 8 0 3 (leBytes 0x1234 12), 0, (3, 1, 9), flight 0x403, flying 0x403 (loopUp 1 { cfg := [(3, 1, 9)] } []), by decide +kernel⟩,
   ⟨tilePkt 0 10 1 0 (leBytes 0x1234 16), 0, 2, loopUp 1 {} [], by decide +kernel⟩,
   ⟨0, 0, 0, 255, 5000, 1, loopUp 2 { a := { trained := true, done := true, reach := 2, found := 2 } } [(0, { fromA := true }), (1, { fromA := true })], by decide +kernel⟩,
   ⟨0, 1, loopUp 2 { b := { trained := true } } [], by decide +kernel⟩,
   ⟨0, 1, loopUp 2 { a := { done := true, reach := 1, found := 1 }, b := { starting := true, done := true, found := 2 } } [], by decide +kernel⟩,
   ⟨0, 1, 0, loopUp 1 { a := { trained := true, reach := 2 } } [(0, { fromA := true })], by decide +kernel⟩,
   ⟨0, 1, loopUp 1 { a := { trained := true, reach := 2 } } [(0, { fromA := true, poll := some 5, misses := 2 })], by decide +kernel⟩,
   ⟨0, 3, (3, 1, 9), flight 0x403, flying 0x403 (loopUp 1 { cfg := [(3, 1, 9)] } []), by decide +kernel⟩,
   ⟨0, withP [(mwLoop 0 P.MW_LOOP_STATE, 0, 3), (mwLoop 0 P.MW_REVERT, 0, 1)] (loopUp 2 { a := { done := true, reach := 1, found := 2 }, b := { done := true, reach := 1, found := 2 }, intact := true } []), by decide +kernel⟩,
   ⟨0, { tag := some 5, reachA := 2, reachB := 0, kind := 2, ticket := none }, loopUp 2 { a := { done := true, reach := 1, found := 2 }, handover := some { tag := some 5, reachA := 2, reachB := 0, kind := 2, ticket := none } } [], by decide +kernel⟩,
   ⟨0, 9, { tag := none, reachA := 2, reachB := 0, kind := 2, ticket := some 9 }, flight 0x406, flying 0x406 (loopUp 2 { a := { done := true, reach := 1, found := 2 }, handover := some { tag := none, reachA := 2, reachB := 0, kind := 2, ticket := some 9 } } []), by decide +kernel⟩,
   ⟨tilePkt 0 1 0 0 (leBytes (0x55 + 1 <<< 96 + 1 <<< 112) 32), linkUp 4 { mask := 1 }, by decide +kernel⟩,
   ⟨tilePkt 0 2 0 0 (leBytes 7 8), 5, linkUp 5 { hbNext := some 5 }, by decide +kernel⟩,
   ⟨5000, 9, 0, 246, withP [(P.RM_STATE, 0, 1), (P.RM_SOURCE, 0, 1)] (linkUp 5 { role := 1 }), by decide +kernel⟩,
   ⟨tilePkt 0 3 0 0 (leBytes (2 <<< 16 + 2 <<< 24) 16), 0, withP [(P.PT_STATE, 0, 5)] (loopUp 3 {} []), by decide +kernel⟩,
   ⟨tilePkt 0 4 0 0 (leBytes (1 + 1 <<< 64 + 2 <<< 72) 12), 1, { withP [(P.PT_STATE, 0, 5)] (withTable 2 1 0 (leBytes (3 + 2 <<< 16) 4) up) with mw := { loops := [(1, { a := { trained := true, done := true, found := 2 } })] } }, by decide +kernel⟩,
   ⟨tilePkt 0 5 0 0 (leBytes (1 <<< 16 + 1 <<< 24 + 0xAB <<< 128) 48), 0, 1, withP [(P.PT_STATE, 0, 5)] (loopUp 3 {} []), by decide +kernel⟩,
   ⟨cmd 12 0, up, by decide +kernel⟩,
   ⟨cmd 2 511, up, by decide +kernel⟩,
   ⟨cmd 12 (1 <<< 16 ||| 0xAA <<< 64), 0, 1, 0, 1, loopUp 1 { a := { trained := true, done := true, reach := 2, found := 2 } } [(0, { fromA := true, status := leBytes 5 16 }), (1, { fromA := true })], by decide +kernel⟩,
   ⟨cmd 8 (1 <<< 16 ||| 0xAA <<< 32), 0, 1, 0, 1, loopUp 1 { a := { trained := true, done := true, reach := 2, found := 2 } } [(0, { fromA := true, status := leBytes 5 16 }), (1, { fromA := true })], by decide +kernel⟩,
   ⟨cmd 4 (1 <<< 16 ||| 2 <<< 24), 0, 1, 2, loopUp 1 { a := { trained := true, done := true, reach := 2, found := 2 } } [(0, { fromA := true, status := leBytes 5 16 }), (1, { fromA := true })], by decide +kernel⟩,
   ⟨cmd 3 0, 0, 0, loopUp 2 {} [], by decide +kernel⟩,
   ⟨0, 0, 0xF0, 0x0F, 5000, 0, loopUp 2 {} [], by decide +kernel⟩,
   ⟨tilePkt 1 4 63 2 (leBytes 6 4), 1, loopUp 2 { a := { done := true, reach := 2, found := 2 } } [], by decide +kernel⟩,
   ⟨1, 0x12, 0x34, 0xD9, 5000, 1, loopUp 2 { a := { done := true, reach := 2, found := 2 } } [], by decide +kernel⟩,
   ⟨7, linkUp 1 { mask := 128 }, by decide +kernel⟩,
   ⟨[{ lane := 0, d1 := 0, d2 := 9, d3 := 0 }], linkUp 2 { mask := 1 }, by decide +kernel⟩,
   ⟨5, 250, 5000, linkUp 5 {}, by decide +kernel⟩,
   ⟨(linkUp 5 {}).setPartner linkId { present := true, reported := true }, by decide +kernel⟩,
   ⟨linkUp 4 {}, by decide +kernel⟩⟩

/-- O57: each clause of EveryLaneCommandCompletes has an input. -/
theorem test_hypotheses_EveryLaneCommandCompletes :
  (∃ (k : ℕ) (s : Machine.State), k < 1168 ∧ s.detects k = true)
  ∧ (∃ (k : ℕ) (s : Machine.State), k < 1168 ∧ (s.lane k).lock ≠ 3)
  ∧ (∃ (k : ℕ) (p : ℕ) (s : Machine.State), k < 1168 ∧ p < 10 ∧ (s.lane k).measuring = false ∧ (s.lane k).lock = 2 ∧ (s.lane k).phase = p ∧ 3 ≤ (s.lane k).commas ∧ (s.lane k).lost = false ∧ (s.lane k).adapted = true)
  ∧ (∃ (k : ℕ) (g : ℕ) (s : Machine.State), k < 1168 ∧ g < 1024 ∧ (s.lane k).measuring = false ∧ 2 ≤ (s.lane k).lock ∧ checkGroup g (s.lane k).rd ≠ GroupCheck.valid ∧ ((s.lane k).lock = 2 ∨ (s.lane k).lock = 3 ∧ (s.lane k).errs < 3))
  ∧ (∃ (k : ℕ) (s : Machine.State), k < 1024 ∧ s.portEnd k = none ∧ (s.lane k).lock = 3 ∧ (s.lane k).measuring = false ∧ (s.lane k).winEnd ≤ s.now)
  ∧ (∃ (k : ℕ) (v : ℕ) (d1 : ℕ) (d2 : ℕ) (d3 : ℕ) (drift : ℤ) (s : Machine.State), k < 1024 ∧ d1 < 256 ∧ d2 < 256 ∧ d3 < 256 ∧ s.hears k = true ∧ ↑v = ↑(s.lane k).fill + drift ∧ 1 ≤ v ∧ v ≤ 16)
  ∧ (∃ (k : ℕ) (s : Machine.State), k < 1168 ∧ (s.lane k).tx = 3)
  ∧ (∃ (k : ℕ) (a : ℕ) (d : ℕ) (s : Machine.State), k < 1168 ∧ (s.lane k).lock = 3 ∧ a = 0)
  ∧ (∃ (g : ℕ) (k : ℕ) (q : ℕ) (l : List (ℕ × ℕ)) (s : Machine.State), g < 28 ∧ k ∈ groupLanes g ∧ (s.lane k).lock = 3 ∧ (∀ j ∈ groupLanes g, j ≠ k → (s.lane j).lock ≠ 3) ∧ s.getP P.LN_MEASURE g = 0 ∧ (s.lane k).fomLow = some q ∧ (s.lane k).low = false ∧ s.getP P.LN_QUALITY_MIN g ≤ q)
  ∧ (∃ (k : ℕ) (s : Machine.State), k < 1168 ∧ (s.lane k).rx < (s.laneWanted k).2)
  ∧ (∃ (g : ℕ) (w : ℕ) (l : List (ℕ × ℕ)) (r : CalRun) (x : CalLane) (s : Machine.State), 24 ≤ g ∧ g < 28 ∧ (s.laneGroup g).run = some r ∧ r.todo = [x] ∧ x.method = 1 ∧ r.restore = [] ∧ x.slices < 8 ∧ (∀ e ∈ s.ln.scans, e.lane ≠ x.lane) ∧ 1024 ≤ x.lane ∧ (State.atLeast w s).windowOpen x.lane = true)
  ∧ (∃ (g : ℕ) (k : ℕ) (q : ℕ) (r : CalRun) (x : CalLane) (s : Machine.State), k < 1168 ∧ g = laneGroupOf k ∧ 24 ≤ g ∧ (s.laneGroup g).run = some r ∧ List.find? (fun c => c.lane == k && c.method != 1) r.todo = some x ∧ (s.lane k).measuring = true ∧ r.restore = [] ∧ x.method = 2 ∧ List.filter (fun c => c.lane != k) r.todo ≠ [])
  ∧ (∃ (g : ℕ) (tk : ℕ) (f : Flight) (s : Machine.State), g < 28 ∧ s.getP P.LN_CAL_STATE g ≠ 0 ∧ (s.laneGroup g).tickets = [tk] ∧ s.awaits tk f)
  ∧ (∃ (k : ℕ) (b : Bool) (w : Bool) (s : Machine.State), k < 1168 ∧ (s.lane k).chk ≠ 0 ∧ (s.lane k).loopback ≠ 1 ∧ w = patternBit (s.lane k).chk (s.lane k).user (s.lane k).pat.ref ∧ (s.lane k).sync = true ∧ popcount ((2 * (s.lane k).pat.hist + b2n (w != b)) % 2 ^ 128) 128 < 32)
  ∧ (∃ (c : Cmd) (k : ℕ) (n : ℕ) (s : Machine.State), s.accepts false 1281 c ∧ c.operands 4 4261412864 ∧ k = c.f 0 16 ∧ n = c.f 16 8 ∧ 1 ≤ n ∧ n ≤ 5 ∧ k + n ≤ 1168 ∧ (∀ i < n, s.laneRecord (k + i) < 2 ^ 384))
  ∧ (∃ (c : Cmd) (s : Machine.State), s.accepts false 1282 c ∧ c.operands 4 4294966784 ∧ c.f 0 8 < 28 ∧ s.getP P.LN_CAL_STATE (c.f 0 8) ≠ 2)
  ∧ (∃ (c : Cmd) (s : Machine.State), s.accepts false 1283 c ∧ c.operands 20 18446742974197923840 ∧ c.f 0 16 < 1168 ∧ c.f 16 8 ∈ [1, 2, 4, 8, 16] ∧ 1 ≤ c.f 24 8 ∧ c.f 24 8 ≤ 127 ∧ 20 ≤ c.f 32 8 ∧ c.f 32 8 ≤ 36 ∧ c.f 64 64 ≠ 0 ∧ c.f 64 64 % 64 = 0 ∧ 32 + 8 * scanPoints (c.f 16 8) (c.f 24 8) ≤ c.f 128 32 ∧ (s.lane (c.f 0 16)).lock = 3 ∧ s.ln.scans.length < 4)
  ∧ (∃ (k : ℕ) (t : ℕ) (e : EyeScan) (l : List (ℕ × ℕ)) (g : Flight) (s : Machine.State), k < 1168 ∧ List.find? (fun e => e.lane == k) s.ln.scans = some e ∧ s.awaits e.ticket g ∧ (∀ (w : ℕ), (s.win w).mask.testBit 100 = false) ∧ s.hostGood (e.host + 32) (8 * scanPoints e.h e.v) = 8 * scanPoints e.h e.v ∧ s.hostGood e.host 32 = 32)
  ∧ (∃ (c : Cmd) (k : ℕ) (s : Machine.State), s.accepts false 1284 c ∧ c.operands 12 79228157791897854728135507968 ∧ k = c.f 0 16 ∧ k < 1168 ∧ c.f 16 3 ≤ 4 ∧ c.f 20 3 ≤ 4 ∧ c.f 24 2 ≤ 1 ∧ s.laneInUse k = false ∧ s.getP P.LN_CAL_STATE (laneGroupOf k) ≠ 2)
  ∧ (∃ (c : Cmd) (k : ℕ) (s : Machine.State), s.accepts false 1285 c ∧ c.operands 4 4294836224 ∧ k = c.f 0 16 ∧ k < 1168 ∧ (s.lane k).chk < 2 ^ 24 ∧ (s.lane k).compared < 2 ^ 64 ∧ (s.lane k).errors < 2 ^ 32)
  ∧ (∃ (c : Cmd) (k : ℕ) (n : ℕ) (s : Machine.State), s.accepts (c.ops.testBit 24) 1286 c ∧ c.operands 4 4261412864 ∧ k = c.f 0 16 ∧ n = c.f 16 8 ∧ k < 1168 ∧ 1 ≤ n ∧ n ≤ 64 ∧ (c.ops.testBit 24 = true ∨ (s.lane k).gen ≠ 0))
  ∧ (∃ (c : Cmd) (k : ℕ) (v : ℕ) (s : Machine.State), s.accepts false 1287 c ∧ c.operands 4 4278190080 ∧ k = c.f 0 16 ∧ v = c.f 16 8 ∧ k < 1168 ∧ (v ≤ 7 ∨ v = 255) ∧ c.immediate = true)
  ∧ (∃ (g : ℕ) (s : Machine.State), g < 28 ∧ (List.filter (fun g => s.getP P.LN_CAL_STATE g == 2) (List.range 28)).length < s.getP P.LN_CAL_PARALLEL 0 ∧ s.getP P.LN_CAL_STATE g = 1 ∧ (∀ h < g, s.getP P.LN_CAL_STATE h ≠ 1 ∧ (s.getP P.LN_CAL_STATE h ≠ 3 ∨ s.runFits h = false)) ∧ s.runFits g = false) :=
  ⟨⟨1167, laneUp 1167 { rx := 3 }, by decide +kernel⟩,
   ⟨1167, up, by decide +kernel⟩,
   ⟨1167, 9, laneUp 1167 { lock := 2, commas := 3, phase := 9, adapted := true }, by decide +kernel⟩,
   ⟨1167, 1023, laneUp 1167 { lock := 3, errs := 2 }, by decide +kernel⟩,
   ⟨1023, laneUp 1023 { lock := 3, errs := 3 }, by decide +kernel⟩,
   ⟨1023, 16, 255, 255, 255, 8, laneUp 1023 { lock := 3 }, by decide +kernel⟩,
   ⟨1167, laneUp 1167 { tx := 3 }, by decide +kernel⟩,
   ⟨1167, 0, 5, laneUp 1167 { lock := 3 }, by decide +kernel⟩,
   ⟨27, 1167, 64, [], laneUp 1167 { lock := 3, fomLow := some 64 }, by decide +kernel⟩,
   ⟨0, loopUp 2 { a := { trained := true, reach := 2 } } [], by decide +kernel⟩,
   ⟨27, 2000, [], { reason := 1, start := 0, temp := 0, delta := 0, todo := [{ lane := 1166, method := 1, slices := 7 }] }, { lane := 1166, method := 1, slices := 7 }, { up with ln := { groups := [(27, { run := some { reason := 1, start := 0, temp := 0, delta := 0, todo := [{ lane := 1166, method := 1, slices := 7 }] } })] } }, by decide +kernel⟩,
   ⟨27, 1166, 200, { reason := 1, start := 0, temp := 0, delta := 0, todo := [{ lane := 1166, method := 2 }, { lane := 1167, method := 2 }] }, { lane := 1166, method := 2 }, { up with ln := { lanes := [(1166, { measuring := true })], groups := [(27, { run := some { reason := 1, start := 0, temp := 0, delta := 0, todo := [{ lane := 1166, method := 2 }, { lane := 1167, method := 2 }] } })] } }, by decide +kernel⟩,
   ⟨27, 9, flight 0x502, flying 0x502 { up.setP P.LN_CAL_STATE 27 3 with ln := { groups := [(27, { tickets := [9] })] } }, by decide +kernel⟩,
   ⟨1167, true, false, laneUp 1167 { chk := 1, sync := true, pat := { hist := 1 } }, by decide +kernel⟩,
   ⟨cmd 4 (1163 ||| 5 <<< 16), 1163, 5, up, by decide +kernel⟩,
   ⟨cmd 4 (27 ||| 1 <<< 8), up, by decide +kernel⟩,
   ⟨cmd 20 (1167 ||| 16 <<< 16 ||| 127 <<< 24 ||| 20 <<< 32 ||| 64 <<< 64 ||| 128 <<< 128), laneUp 1167 { lock := 3 }, by decide +kernel⟩,
   ⟨1167, 5000, { lane := 1167, h := 16, v := 127, d := 36, host := 0x4000, ticket := 9, start := 0 }, [(5, 100), (0, 100)], flight 0x503, { up with ln := { scans := [{ lane := 1167, h := 16, v := 127, d := 36, host := 0x4000, ticket := 9, start := 0 }] }, ctl := { up.ctl with wins := [], flights := [flight 0x503] } }, by refine ⟨?_, ?_, ?_, ?_, ?_, ?_⟩ <;> first | exact (fun w => by simp [State.win, SMap.get, SMap.find]) | decide +kernel⟩,
   ⟨cmd 12 (1167 ||| 4 <<< 16 ||| 4 <<< 20 ||| 1 <<< 24), 1167, up, by decide +kernel⟩,
   ⟨cmd 4 1167, 1167, up, by decide +kernel⟩,
   ⟨cmd 4 (1167 ||| 64 <<< 16 ||| 1 <<< 24), 1167, 64, up, by decide +kernel⟩,
   ⟨{ cmd 4 (1167 ||| 7 <<< 16) with flags := 4 }, 1167, 7, up, by decide +kernel⟩,
   ⟨0, withP [(P.CV_STATE, 0, 2), (P.CV_HEIGHT, 0, 2250), (P.LN_CAL_STATE, 0, 1)] (loopUp 2 { a := { trained := true, reach := 2 } } []), by decide +kernel⟩⟩

/-- O58: each clause of EveryMemoryCommandCompletes has an input. -/
theorem test_hypotheses_EveryMemoryCommandCompletes :
  (∃ (c : Cmd) (n : ℕ) (a : ℕ) (s : Machine.State), s.accepts false 1537 c ∧ c.operands 12 4294967040 ∧ (c.f 0 8 = 2 ∨ c.f 0 8 = 3) ∧ c.f 32 64 ≠ 0 ∧ n = cdiv (c.f 32 64) pageBytes ∧ (c.win < 64 → s.getP P.MEM_WINDOW_USED c.win + 2 * n ≤ s.getP P.MEM_WINDOW_QUOTA c.win) ∧ s.carveUsed (c.f 0 8) + 2 * n ≤ s.getP P.MEM_CARVE_QUOTA (c.f 0 8) ∧ s.pagesFree n = true ∧ s.placeBuffer (c.f 0 8) (n * pageBytes) = some a)
  ∧ (∃ (c : Cmd) (s : Machine.State) (b : Buffer), s.accepts false 1538 c ∧ c.operands 8 0 ∧ List.find? (fun b => b.base == c.f 0 64 && b.window.isSome) s.dram.buffers = some b ∧ b.window = some c.win ∧ s.bufferBusy b = false)
  ∧ (∃ (c : Cmd) (a : ℕ) (h : ℕ) (n : ℕ) (b : Buffer) (s : Machine.State), c.host = [] ∧ c.operands 20 0 ∧ a = c.f 0 64 ∧ h = c.f 64 64 ∧ n = c.f 128 32 ∧ h ≠ 0 ∧ 1 ≤ n ∧ n ≤ 16777216 ∧ s.hostBuffer a n = some b ∧ b.window = some c.win ∧ c.win < 64 ∧ s.dram.flaws = [] ∧ s.accepts false 1539 c ∧ s.hostGood h n = n)
  ∧ (∃ (c : Cmd) (a : ℕ) (h : ℕ) (n : ℕ) (b : Buffer) (s : Machine.State) (m : ℕ), c.host = [] ∧ c.operands 20 0 ∧ a = c.f 0 64 ∧ h = c.f 64 64 ∧ n = c.f 128 32 ∧ h ≠ 0 ∧ 1 ≤ n ∧ n ≤ 16777216 ∧ s.hostBuffer a n = some b ∧ b.window = some c.win ∧ c.win < 64 ∧ s.dram.flaws = [] ∧ s.accepts false 1540 c ∧ (s.firstPoison a n).getD n = m ∧ m ≤ n ∧ s.hostGood h m = m)
  ∧ (∃ (a : ℕ) (w : Bool) (s : Machine.State), s.mapped a = false)
  ∧ (∃ (ch : ℕ) (b : ℕ) (x : ℕ × ℕ × ℕ) (s : Machine.State), ch < 16 ∧ b < 16 ∧ List.find? (fun c => c.1 == ch && c.2.1 == b) s.dram.candidates = some x ∧ 32 ≤ (List.filter (fun r => r.1 == ch && r.2.1 == b) s.dram.remap).length)
  ∧ (∃ (ch : ℕ) (b : ℕ) (l : List ScrubFinding) (s : Machine.State), ch < 16 ∧ b < 16)
  ∧ (∃ (ch : ℕ) (r : ℕ) (s : Machine.State), ch < 16)
  ∧ (∃ (ch : ℕ) (w : List ℕ) (s : Machine.State), ch < 16 ∧ w.length = 4)
  ∧ (∃ (t : ℕ) (s : Machine.State) (r : RetrainRun), s.dram.retrain = some r ∧ 63 ≤ r.slices)
  ∧ (∃ (n : ℕ) (s : Machine.State), s.bgHeld 7 = false ∧ patrolTotal ≤ s.dram.patrolPos + n)
  ∧ (∃ (e : ExpanderInfo) (s : Machine.State), e.port < 4 ∧ ((s.setP P.CXL_PORT_LINK e.port e.link).slotFor e.serial = none ∨ 16 ≤ (List.filter (fun m => s.getP P.CXL_EXP_STATE m != 0 && (s.expander m).port == e.port) (List.range 32)).length))
  ∧ (∃ (n : ℕ) (s : Machine.State), n < 32 ∧ s.getP P.CXL_EXP_STATE n = 1 ∧ s.regionsOf n = [])
  ∧ (∃ (n : ℕ) (r : ℕ) (s : Machine.State), n < 32 ∧ r < 32 ∧ s.getP P.CXL_EXP_STATE n ≠ 0 ∧ s.regionsOf n = [r] ∧ s.getP P.CXL_REGION_STATE r ≠ 0 ∧ s.binOn r = none)
  ∧ (∃ (n : ℕ) (a : ℕ) (m : ℕ) (s : Machine.State), n < 32 ∧ (s.getP P.CXL_EXP_STATE n = 2 ∨ s.getP P.CXL_EXP_STATE n = 3) ∧ s.bgHeld 4 = false ∧ s.regionAt a = none)
  ∧ (∃ (r : ℕ) (o : ℕ) (s : Machine.State), r < 32 ∧ s.bgHeld 8 = false ∧ (s.region r).persistent = true ∧ 1 ≤ s.getP P.CXL_REGION_STATE r ∧ s.getP P.CXL_REGION_STATE r ≤ 3 ∧ o < s.getP P.CXL_REGION_SIZE r)
  ∧ (∃ (r : ℕ) (s : Machine.State), r < 32 ∧ (s.region r).persistent = true ∧ s.binOn r = none)
  ∧ (∃ (g : ℕ) (s : Machine.State), g ≠ 3 ∧ s.cxl.gpf = none ∧ s.flushWanted g = true)
  ∧ (∃ (t : ℕ) (s : Machine.State) (g : Gpf), s.cxl.gpf = some g ∧ g.phase2 = false)
  ∧ (∃ (t : ℕ) (tk : ℕ) (us : ℕ) (g : Gpf) (f : Flight) (s : Machine.State), s.cxl.gpf = some g ∧ g.trigger = 2 ∧ s.cxl.flushers = [tk] ∧ s.awaits tk f ∧ s.fr.bins = [] ∧ us = (max s.now (min t (g.flushAt + 8000000)) - g.start) / 1000 ∧ us < 2 ^ 32)
  ∧ (∃ (c : Cmd) (r : ℕ) (w : ℕ) (l : List ℕ) (s : Machine.State), s.accepts true 1552 c ∧ c.operands 16 4278254592 ∧ r = c.f 0 8 ∧ w = c.f 16 8 ∧ l = List.take w (List.map (fun i => c.f (64 + 8 * i) 8) (List.range 8)) ∧ r < 32 ∧ w ∈ [1, 2, 4, 8] ∧ c.f 32 32 ≠ 0 ∧ (∀ n ∈ l, n < 32) ∧ l.eraseDups.length = w ∧ (∀ (i : ℕ), w ≤ i → i < 8 → c.f (64 + 8 * i) 8 = 255) ∧ s.getP P.CXL_REGION_STATE r = 0 ∧ (∀ n ∈ l, s.getP P.CXL_EXP_STATE n = 2) ∧ s.cxl.regions = [] ∧ s.binOn r = none ∧ (∀ n ∈ l, (c.f 32 32 ≤ if c.f 8 1 = 1 then (s.expander n).pers else (s.expander n).vol) ∧ ((s.expander n).foreign = false ∨ c.f 9 1 = 1) ∧ (c.f 8 1 = 1 → (s.expander n).gpf = true ∧ (s.expander n).lsa = true ∧ (s.expander n).phase2Ms ≤ 8)) ∧ w * c.f 32 32 * 1073741824 ≤ 35184372088832 ∧ (c.f 8 1 = 1 → s.getP P.CXL_PERSIST_TOTAL 0 + w * c.f 32 32 * 1073741824 ≤ 17592186044416))
  ∧ (∃ (c : Cmd) (r : ℕ) (s : Machine.State), c.operands 1 0 ∧ r = c.f 0 8 ∧ r < 32 ∧ s.accepts true 1553 c ∧ (s.getP P.CXL_REGION_STATE r = 1 ∨ s.getP P.CXL_REGION_STATE r = 2) ∧ s.binOn r = none)
  ∧ (∃ (c : Cmd) (r : ℕ) (s : Machine.State), c.operands 1 0 ∧ r = c.f 0 8 ∧ r < 32 ∧ s.accepts true 1554 c ∧ s.getP P.CXL_REGION_STATE r = 2 ∧ s.binOn r = none)
  ∧ (∃ (c : Cmd) (n : ℕ) (s : Machine.State), s.accepts true 1555 c ∧ c.operands 2 0 ∧ n = c.f 0 8 ∧ n < 32 ∧ (c.f 8 8 ≤ 2 ∨ c.f 8 8 = 255) ∧ s.getP P.CXL_EXP_STATE n = 2 ∧ s.regionsOf n = [])
  ∧ (∃ (n : ℕ) (m : Removal) (s : Machine.State), n < 32 ∧ SMap.get (fun x => none) s.cxl.removals n = some m ∧ s.slotBins n = [] ∧ m.step ≤ 2)
  ∧ (∃ (n : ℕ) (m : Removal) (s : Machine.State), n < 32 ∧ SMap.get (fun x => none) s.cxl.removals n = some m ∧ s.slotBins n = [] ∧ m.step = 3)
  ∧ (∃ (n : ℕ) (tk : ℕ) (m : Removal) (f : Flight) (s : Machine.State), n < 32 ∧ SMap.get (fun x => none) s.cxl.removals n = some m ∧ m.step = 5 ∧ m.ticket = some tk ∧ s.awaits tk f ∧ (s.partner (expanderId n)).present = true)
  ∧ (∃ (c : Cmd) (s : Machine.State), s.accepts true 1556 c ∧ c.operands 0 0)
  ∧ (∃ (n : ℕ) (s : Machine.State), n < 32 ∧ s.cxl.blinking.testBit n = true ∧ s.getP P.CXL_EXP_STATE n = 2 ∧ s.regionsOf n = []) :=
  ⟨⟨cmd 12 (2 ||| 0x200001 <<< 32), 2, carveWindow 2, up, by decide +kernel⟩,
   ⟨cmd 8 (carveWindow 2), { up with dram := { buffers := [{ carve := 2, base := carveWindow 2, bytes := 0x200000, owner := .window 0, pages := [1024], order := 0 }] } }, { carve := 2, base := carveWindow 2, bytes := 0x200000, owner := .window 0, pages := [1024], order := 0 }, by decide +kernel⟩,
   ⟨cmd 20 (carveWindow 2 ||| 0x40 <<< 64 ||| 4 <<< 128), carveWindow 2, 0x40, 4, { carve := 2, base := carveWindow 2, bytes := 0x200000, owner := .window 0, pages := [1024], order := 0 }, { up with dram := { buffers := [{ carve := 2, base := carveWindow 2, bytes := 0x200000, owner := .window 0, pages := [1024], order := 0 }] }, ctl := { up.ctl with hostMem := [(0x40, 9), (0x43, 7)], hostFault := [] } }, by decide +kernel⟩,
   ⟨cmd 20 (carveWindow 2 ||| 0x40 <<< 64 ||| 4 <<< 128), carveWindow 2, 0x40, 4, { carve := 2, base := carveWindow 2, bytes := 0x200000, owner := .window 0, pages := [1024], order := 0 }, { up with dram := { buffers := [{ carve := 2, base := carveWindow 2, bytes := 0x200000, owner := .window 0, pages := [1024], order := 0 }] }, ctl := { up.ctl with hostMem := [(0x40, 9), (0x43, 7)], hostFault := [] } }, 4, by decide +kernel⟩,
   ⟨0x80000000, false, up, by (have h : decide (0x80000000 < State.carve0MiB up * 0x100000) = false := decide_eq_false (by unfold State.carve0MiB; omega)); unfold State.mapped; rw [h]; decide +kernel⟩,
   ⟨15, 15, (15, 15, 3), { up with dram := { candidates := [(15, 15, 3)], remap := List.replicate 32 (15, 15, 1) } }, by decide +kernel⟩,
   ⟨15, 15, [], up, by decide +kernel⟩,
   ⟨15, 7, up, by decide +kernel⟩,
   ⟨15, [1, 2, 3, 4], up, by decide +kernel⟩,
   ⟨5000, { up with dram := { retrain := some { mask := 1, reason := 0, start := 0, temp := 0, slices := 63 } } }, { mask := 1, reason := 0, start := 0, temp := 0, slices := 63 }, by decide +kernel⟩,
   ⟨patrolTotal, up, by decide +kernel⟩,
   ⟨{ serial := 77, port := 3 }, { withP ((List.range 32).map fun i => (P.CXL_EXP_STATE, i, 2)) up with cxl := { exps := (List.range 32).map fun i => (i, { assigned := true, serial := i }) } }, by decide +kernel⟩,
   ⟨31, up.setP P.CXL_EXP_STATE 31 1, by decide +kernel⟩,
   ⟨31, 31, { withP [(P.CXL_EXP_STATE, 31, 2), (P.CXL_REGION_STATE, 31, 1)] up with cxl := { regions := [(31, { slots := [31] })] } }, by decide +kernel⟩,
   ⟨31, 0, 64, up.setP P.CXL_EXP_STATE 31 3, by decide +kernel⟩,
   ⟨31, 63, { withP [(P.CXL_REGION_SIZE, 31, 64), (P.CXL_REGION_STATE, 31, 3)] up with cxl := { regions := [(31, { persistent := true })] } }, by decide +kernel⟩,
   ⟨31, { up with cxl := { regions := [(31, { persistent := true, verifyPos := 9 })] } }, by decide +kernel⟩,
   ⟨2, { up with cxl := { flushers := [9] } }, by decide +kernel⟩,
   ⟨5000, { up with cxl := { gpf := some { trigger := 2, start := 0, slots := [] } } }, { trigger := 2, start := 0, slots := [] }, by decide +kernel⟩,
   ⟨5000, 9, 5, { trigger := 2, start := 0, slots := [], phase2 := true }, flight 0x614, flying 0x614 { up with cxl := { gpf := some { trigger := 2, start := 0, slots := [], phase2 := true }, flushers := [9] } }, by decide +kernel⟩,
   ⟨cmd 16 (31 ||| 0 <<< 8 ||| 8 <<< 16 ||| 4096 <<< 32 ||| 0x18191A1B1C1D1E1F <<< 64), 31, 8, [31, 30, 29, 28, 27, 26, 25, 24], { withP ((List.range 32).map fun i => (P.CXL_EXP_STATE, i, 2)) up with cxl := { exps := (List.range 32).map fun i => (i, { vol := 4096 }) } }, by refine ⟨?_, ?_, ?_, ?_, ?_, ?_, ?_, ?_, ?_, ?_, ?_, ?_, ?_, ?_, ?_, ?_, ?_, ?_⟩ <;> first | exact (by intro i h1 h2; interval_cases i <;> decide +kernel) | decide +kernel⟩,
   ⟨cmd 1 31, 31, { up.setP P.CXL_REGION_STATE 31 2 with cxl := { regions := [(31, { slots := [31], persistent := true, gib := 8 })] } }, by decide +kernel⟩,
   ⟨cmd 1 31, 31, up.setP P.CXL_REGION_STATE 31 2, by decide +kernel⟩,
   ⟨cmd 2 (31 ||| 2 <<< 8), 31, up.setP P.CXL_EXP_STATE 31 2, by decide +kernel⟩,
   ⟨31, { policy := 0, step := 2 }, { up with cxl := { removals := [(31, some { policy := 0, step := 2 })] } }, by decide +kernel⟩,
   ⟨31, { policy := 0, step := 3 }, { up with cxl := { removals := [(31, some { policy := 0, step := 3 })] } }, by decide +kernel⟩,
   ⟨31, 9, { policy := 0, step := 5, ticket := some 9, relocated := 3, dropped := 1, gib := 64 }, flight 0x613, (flying 0x613 { up.setP P.CXL_EXP_STATE 31 3 with cxl := { removals := [(31, some { policy := 0, step := 5, ticket := some 9, relocated := 3, dropped := 1, gib := 64 })] } }).setPartner (expanderId 31) { present := true }, by decide +kernel⟩,
   ⟨cmd 0 0, up, by decide +kernel⟩,
   ⟨31, { up.setP P.CXL_EXP_STATE 31 2 with cxl := { blinking := 0x80000000 } }, by decide +kernel⟩⟩

/-- O59: each clause of EveryRecordingAndQueueCommandCompletes has an input. -/
theorem test_hypotheses_EveryRecordingAndQueueCommandCompletes :
  (∃ (p : ℕ) (b : ℕ) (n : ℕ) (f : WbFrame) (x : Bin) (c : Clip) (s : Machine.State), p < 8 ∧ List.find? (fun g => g.source == p && g.phase == 1) s.fr.wb = some f ∧ f.bins = [b] ∧ s.bin? b = some x ∧ x.clips = [c] ∧ c.phase = 0 ∧ x.runs = [] ∧ x.held ≤ x.quota ∧ n = 32 + f.body.length ∧ x.woff + n ≤ segBytes)
  ∧ (∃ (p : ℕ) (b : ℕ) (f : WbFrame) (x : Bin) (s : Machine.State), p < 8 ∧ List.find? (fun g => g.source == p && g.phase == 1) s.fr.wb = some f ∧ f.bins = [b] ∧ s.bin? b = some x ∧ (∀ c ∈ x.clips, c.phase ≠ 1) ∧ (∀ r ∈ x.runs, r.source ≠ p ∨ r.reason ≠ 3))
  ∧ (∃ (b : ℕ) (x : Bin) (s : Machine.State), b < 64 ∧ s.bin? b = some x ∧ s.binState b = 2 ∧ (∀ c ∈ x.clips, c.phase = 2) ∧ x.runs = [] ∧ s.getP P.FR_BIN_ARM b ≠ 1 ∧ s.getP P.FR_BIN_SOURCES b = 0)
  ∧ (∃ (b : ℕ) (x : Bin) (s : Machine.State) (g : ℕ) (f : ℕ) (l : List ℕ), b < 64 ∧ s.bin? b = some x ∧ s.bgHeld 9 = false ∧ (s.binState b = 3 ∨ s.binState b = 4) ∧ x.lagging (s.getP P.FR_WEAR_LAG 0) = some g ∧ x.freeAhead = f :: l)
  ∧ (∃ (c : Cmd) (b : ℕ) (s : Machine.State) (x : Bin) (h : List Clip), s.accepts false 1793 c ∧ c.operands 12 4294966784 ∧ b = c.f 0 8 ∧ b < 64 ∧ s.bin? b = some x ∧ s.binState b ≠ 1 ∧ s.binState b ≠ 2 ∧ (h = List.filter (fun k => k.phase != 3 && tagsMeet k.first (if k.phase = 0 then s.ring.tag else k.last) (c.f 32 32) (c.f 64 32) && k.isProtected != (c.f 8 1 == 1)) x.clips) ∧ (c.f 8 1 = 1 ∧ x.mayProtect (List.map (fun k => k.id) h) = true ∨ c.f 8 1 = 0 ∧ x.held ≤ s.getP P.FR_BIN_QUOTA b))
  ∧ (∃ (c : Cmd) (b : ℕ) (s : Machine.State) (x : Bin), s.accepts false 1794 c ∧ c.operands 1 0 ∧ b = c.f 0 8 ∧ b < 64 ∧ s.binState b = 4 ∧ s.bin? b = some x)
  ∧ (∃ (fn : ℕ) (w : ℕ) (q : ℕ) (v : ℕ) (p : Pair) (s : Machine.State) (l : List Byte), fn < 64 ∧ w < 64 ∧ q < 16 ∧ v < 65536 ∧ s.hostTakes fn w = true ∧ s.pair? w q = some p ∧ v < 2 ^ p.sqLog ∧ (p.sqTail + 2 ^ p.sqLog - p.sqHead) % 2 ^ p.sqLog + (v + 2 ^ p.sqLog - p.sqTail) % 2 ^ p.sqLog < 2 ^ p.sqLog ∧ l.length = 64)
  ∧ (∃ (fn : ℕ) (w : ℕ) (q : ℕ) (v : ℕ) (p : Pair) (s : Machine.State), fn < 64 ∧ w < 64 ∧ q < 16 ∧ v < 65536 ∧ s.hostTakes fn w = true ∧ s.pair? w q = some p ∧ v < 2 ^ p.cqLog)
  ∧ (∃ (w : ℕ) (q : ℕ) (p : Pair) (s : Machine.State) (e : List Byte), w < 64 ∧ q < 16 ∧ s.pair? w q = some p ∧ s.nextFetch = some (w * 16 + q) ∧ s.noDeletes ∧ s.hostGood (p.sqBase + 64 * p.sqHead) 64 = 64 ∧ e = takeBytes zeroByte s.ctl.hostMem (p.sqBase + 64 * p.sqHead) 64 ∧ 1 ≤ sqField e 0 1 ∧ sqField e 0 1 ≤ 6 ∧ s.queuesHeld = false)
  ∧ (∃ (w : ℕ) (q : ℕ) (cid : ℕ) (b : ℕ) (h : ℕ) (p : Pair) (c : QCmd) (x : Bin) (s : Machine.State) (k : Clip) (d : List Byte), w < 64 ∧ q < 16 ∧ cid < 65536 ∧ s.pair? w q = some p ∧ s.hostGood (p.cqBase + 32 * p.cqTail) 32 = 32 ∧ c.fate = 0 ∧ s.noDeletes ∧ badField c.entry = none ∧ b = sqField c.entry 4 1 ∧ h = sqField c.entry 24 8 ∧ s.bin? b = some x ∧ 2 ≤ s.binState b ∧ s.getP P.CXL_REGION_STATE x.region ≠ 4 ∧ s.dram.flaws = [] ∧ List.find? (fun k => k.id == sqField c.entry 8 4 && k.phase != 3) x.clips = some k ∧ s.hostGood h d.length = d.length ∧ s.queueCmd w q cid 1 = some c ∧ d = List.take (min (sqField c.entry 32 4) (k.bytes - sqField c.entry 16 8)) (List.drop (sqField c.entry 16 8) (List.flatMap (fun r => r.bytes k.id) k.recs)) ∧ s.streamPoison k (sqField c.entry 16 8) (min (sqField c.entry 32 4) (k.bytes - sqField c.entry 16 8)) = none)
  ∧ (∃ (w : ℕ) (q : ℕ) (cid : ℕ) (b : ℕ) (h : ℕ) (p : Pair) (c : QCmd) (x : Bin) (s : Machine.State) (k : Clip) (d : List Byte) (r : Rec) (bl : List Byte) (ok : Bool) (n : ℕ), w < 64 ∧ q < 16 ∧ cid < 65536 ∧ s.pair? w q = some p ∧ s.hostGood (p.cqBase + 32 * p.cqTail) 32 = 32 ∧ c.fate = 0 ∧ s.noDeletes ∧ badField c.entry = none ∧ b = sqField c.entry 4 1 ∧ h = sqField c.entry 24 8 ∧ s.bin? b = some x ∧ 2 ≤ s.binState b ∧ s.getP P.CXL_REGION_STATE x.region ≠ 4 ∧ s.dram.flaws = [] ∧ List.find? (fun k => k.id == sqField c.entry 8 4 && k.phase != 3) x.clips = some k ∧ s.hostGood h d.length = d.length ∧ s.queueCmd w q cid 2 = some c ∧ List.find? (fun r => r.typ == 1 && r.source == sqField c.entry 5 1 && r.tag == sqField c.entry 12 4) k.recs = some r ∧ n = r.field 40 2 * (r.field 38 2 * r.field 42 1 / 8) ∧ n ≤ sqField c.entry 32 4 ∧ sqField c.entry 40 8 = 0 ∧ r.field 44 2 = 1 ∧ r.field 40 2 ≤ max (blockLines (r.field 42 1) (r.field 38 2)) 1 ∧ frameBlockBytes r = [bl] ∧ (decodeBlock bl).2 = ok ∧ d = List.take n (decodeBlock bl).1 ∧ s.streamPoison k (List.foldl (fun n q => n + q.len) 0 (List.takeWhile (fun q => q != r) k.recs)) r.len = none)
  ∧ (∃ (w : ℕ) (q : ℕ) (cid : ℕ) (b : ℕ) (h : ℕ) (p : Pair) (c : QCmd) (x : Bin) (s : Machine.State) (l : List Clip) (d : List Byte), w < 64 ∧ q < 16 ∧ cid < 65536 ∧ s.pair? w q = some p ∧ s.hostGood (p.cqBase + 32 * p.cqTail) 32 = 32 ∧ c.fate = 0 ∧ s.noDeletes ∧ badField c.entry = none ∧ b = sqField c.entry 4 1 ∧ h = sqField c.entry 24 8 ∧ s.bin? b = some x ∧ 2 ≤ s.binState b ∧ s.getP P.CXL_REGION_STATE x.region ≠ 4 ∧ s.queueCmd w q cid 3 = some c ∧ l = List.take (sqField c.entry 32 4 / 128) (List.filter (fun k => k.phase == 2 && decide (sqField c.entry 8 4 ≤ k.id)) x.clips) ∧ d = List.flatMap Clip.dirEntry l ∧ s.hostGood h d.length = d.length)
  ∧ (∃ (w : ℕ) (q : ℕ) (cid : ℕ) (b : ℕ) (h : ℕ) (p : Pair) (c : QCmd) (x : Bin) (s : Machine.State) (k : Clip) (d : List Byte), w < 64 ∧ q < 16 ∧ cid < 65536 ∧ s.pair? w q = some p ∧ s.hostGood (p.cqBase + 32 * p.cqTail) 32 = 32 ∧ c.fate = 0 ∧ s.noDeletes ∧ badField c.entry = none ∧ b = sqField c.entry 4 1 ∧ h = sqField c.entry 24 8 ∧ s.bin? b = some x ∧ 2 ≤ s.binState b ∧ s.getP P.CXL_REGION_STATE x.region ≠ 4 ∧ s.dram.flaws = [] ∧ List.find? (fun k => k.id == sqField c.entry 8 4 && k.phase != 3) x.clips = some k ∧ s.hostGood h d.length = d.length ∧ s.queueCmd w q cid 4 = some c ∧ d = (List.take (sqField c.entry 32 4 / 32) (List.drop (sqField c.entry 16 8) (List.foldl (fun a r => (a.1 ++ [indexEntry r a.2], a.2 + r.len)) ([], 0) k.recs).1)).flatten)
  ∧ (∃ (w : ℕ) (q : ℕ) (cid : ℕ) (b : ℕ) (h : ℕ) (n : ℕ) (l : List Byte) (m : Sys2Proof.SMap Byte) (p : Pair) (c : QCmd) (x : Bin) (r : Rec) (s : Machine.State), w < 64 ∧ q < 16 ∧ cid < 65536 ∧ s.pair? w q = some p ∧ s.queueCmd w q cid 5 = some c ∧ c.fate = 0 ∧ s.noDeletes ∧ badField c.entry = none ∧ s.hostGood (p.cqBase + 32 * p.cqTail) 32 = 32 ∧ b = sqField c.entry 4 1 ∧ h = sqField c.entry 24 8 ∧ n = sqField c.entry 32 4 ∧ sqField c.entry 1 1 = 1 ∧ s.bin? b = some x ∧ s.binState b = 3 ∧ s.hostGood h n = n ∧ (m = if l = [] then s.ctl.hostMem else putBytes zeroByte s.ctl.hostMem h l) ∧ importRecords n (takeBytes zeroByte m h n) [] = some [r] ∧ (∀ k ∈ x.clips, k.phase ≠ 3 ∧ k.id ≠ x.nextClip) ∧ x.woff + r.len ≤ segBytes ∧ 0 < r.len ∧ x.held ≤ x.quota)
  ∧ (∃ (w : ℕ) (q : ℕ) (cid : ℕ) (p : Pair) (c : QCmd) (s : Machine.State), w < 64 ∧ q < 16 ∧ cid < 65536 ∧ s.pair? w q = some p ∧ s.hostGood (p.cqBase + 32 * p.cqTail) 32 = 32 ∧ s.noDeletes ∧ s.queueCmd w q cid 6 = some c ∧ c.fate = 0 ∧ badField c.entry = none)
  ∧ (∃ (w : ℕ) (q : ℕ) (cid : ℕ) (b : ℕ) (tk : ℕ) (p : Pair) (k : QCmd) (x : Bin) (f : Flight) (s : Machine.State), w < 64 ∧ q < 16 ∧ cid < 65536 ∧ s.cq.pairs = [(w * 16 + q, some p)] ∧ p.cmds = [k] ∧ k.cid = cid ∧ k.fate = 1 ∧ b = sqField k.entry 4 1 ∧ sqField k.entry 36 4 ≠ 0 ∧ s.queuesRun = true ∧ s.binList = [b] ∧ s.bin? b = some x ∧ x.deleting = some tk ∧ s.awaits tk f ∧ (∀ g ∈ s.fr.wb, b ∉ g.bins))
  ∧ (∃ (w : ℕ) (q : ℕ) (p : Pair) (s : Machine.State), w < 64 ∧ q < 16 ∧ s.pair? w q = some p ∧ p.unsignalled ≠ 0 ∧ p.vector ≠ 255)
  ∧ (∃ (c : Cmd) (q : ℕ) (s : Machine.State), s.accepts false 1808 c ∧ c.win < 64 ∧ c.operands 24 18446462598732841200 ∧ q = c.f 0 4 ∧ 4 ≤ c.f 8 4 ∧ c.f 8 4 ≤ 12 ∧ 4 ≤ c.f 12 4 ∧ c.f 12 4 ≤ 12 ∧ (c.f 16 8 ≤ 15 ∨ c.f 16 8 = 255) ∧ c.f 24 8 ≠ 0 ∧ c.f 32 16 ≤ 1000 ∧ c.f 64 64 % 4096 = 0 ∧ c.f 128 64 % 4096 = 0 ∧ s.pair? c.win q = none ∧ (List.filter (fun e => e.1 / 16 == c.win) s.cq.pairs).length < s.getP P.CQ_PAIR_LIMIT c.win ∧ List.length s.cq.pairs < 256)
  ∧ (∃ (c : Cmd) (q : ℕ) (s : Machine.State) (p : Pair), s.accepts false 1809 c ∧ c.win < 64 ∧ c.operands 1 240 ∧ q = c.f 0 4 ∧ s.pair? c.win q = some p ∧ p.restart = none ∧ s.noDeletes)
  ∧ (∃ (c : Cmd) (q : ℕ) (s : Machine.State) (p : Pair), s.accepts false 1810 c ∧ c.win < 64 ∧ c.operands 8 4294967264 ∧ q = c.f 0 4 ∧ s.pair? c.win q = some p ∧ p.frozen = true ∧ p.restart = none ∧ c.f 32 32 = p.newestLog)
  ∧ (∃ (w : ℕ) (q : ℕ) (p : Pair) (s : Machine.State) (r : ℕ × Bool) (f : Flight), w < 64 ∧ q < 16 ∧ s.pair? w q = some p ∧ p.restart = some r ∧ p.cmds = [] ∧ s.awaits r.1 f)
  ∧ (∃ (c : Cmd) (l : List QueueLog) (s : Machine.State), s.accepts false 1811 c ∧ c.win < 64 ∧ c.operands 4 0 ∧ l = List.take 3 (List.filter (fun e => decide ((e.seq + 2 ^ 32 - c.f 0 32) % 2 ^ 32 < 2 ^ 31)) (SMap.get (fun x => []) s.cq.logs c.win)))
  ∧ (∃ (c : Cmd) (q : ℕ) (s : Machine.State), s.accepts false 1812 c ∧ c.win < 64 ∧ c.operands 1 240 ∧ q = c.f 0 4 ∧ s.pair? c.win q = none)
  ∧ (∃ (c : Cmd) (b : ℕ) (r : ℕ) (n : ℕ) (v : ℕ) (s : Machine.State), s.accepts true 1824 c ∧ c.operands 8 4294901760 ∧ b = c.f 0 8 ∧ r = c.f 8 8 ∧ n = regionSegs (s.getP P.CXL_REGION_SIZE r) ∧ (v = if c.f 32 32 = 0 then n - 2 else c.f 32 32) ∧ b < 64 ∧ r < 32 ∧ s.binState b = 0 ∧ s.bin? b = none ∧ s.getP P.CXL_REGION_STATE r = 1 ∧ s.binOn r = none ∧ 8 ≤ n ∧ c.f 32 32 ≤ n - 2)
  ∧ (∃ (c : Cmd) (b : ℕ) (s : Machine.State) (x : Bin), s.accepts true 1825 c ∧ c.operands 4 4294966784 ∧ b = c.f 0 8 ∧ b < 64 ∧ s.bin? b = some x ∧ (s.binState b = 3 ∨ s.binState b = 5 ∧ s.getP P.CXL_REGION_STATE x.region ≠ 3) ∧ s.getP P.FR_BIN_ARM b ≠ 1 ∧ (x.hasProtected = false ∨ c.f 8 1 = 1) ∧ x.deleting = none ∧ s.binRead b = false ∧ (∀ f ∈ s.fr.wb, b ∉ f.bins))
  ∧ (∃ (c : Cmd) (i : Instr) (op : ℕ) (k : ℕ) (n : ℕ) (r : ℕ) (b : ℕ) (s : Machine.State) (x : Bin), (i, op, k, n, r) ∈ [(Instr.binFormat c, 1826, 1, 4, 4294966784), (Instr.binSanitise c, 1827, 2, 8, 4294966784)] ∧ s.accepts true op c ∧ c.operands n r ∧ b = c.f 0 8 ∧ b < 64 ∧ (k = 2 → c.f 32 32 = 1396788809) ∧ s.bin? b = some x ∧ s.binState b = 3 ∧ x.deleting = none ∧ s.getP P.FR_BIN_ARM b ≠ 1 ∧ (x.hasProtected = false ∨ c.f 8 1 = 1))
  ∧ (∃ (c : Cmd) (b : ℕ) (s : Machine.State), s.accepts false 1828 c ∧ c.operands 1 0 ∧ b = c.f 0 8 ∧ b < 64 ∧ ((s.bin? b).bind fun x => x.admin) = none)
  ∧ (∃ (b : ℕ) (x : Bin) (a : BinAdmin) (s : Machine.State), b < 64 ∧ s.bin? b = some x ∧ x.admin = some a ∧ s.binState b = 1)
  ∧ (∃ (b : ℕ) (f : WbFrame) (x : Bin) (s : Machine.State), List.find? (fun g => g.phase == 2) s.fr.wb = some f ∧ f.bins = [b] ∧ s.bin? b = some x ∧ s.dram.flaws = [] ∧ s.firstPoison f.addr f.size = none) :=
  ⟨⟨7, 63, 35, { id := 1, source := 7, typ := 1, tag := 5, size := 8, bins := [63], phase := 1, body := [1, 2, 3] }, { segs := 8, wseg := 2, nextClip := 2, clips := [{ id := 1, first := 5, last := 5 }], woff := segBytes - 35 }, { id := 1, first := 5, last := 5 }, { up.setP P.FR_BIN_STATE 63 4 with fr := { bins := [(63, some { segs := 8, wseg := 2, nextClip := 2, clips := [{ id := 1, first := 5, last := 5 }], woff := segBytes - 35 })], wb := [{ id := 1, source := 7, typ := 1, tag := 5, size := 8, bins := [63], phase := 1, body := [1, 2, 3] }] } }, by decide +kernel⟩,
   ⟨7, 63, { id := 1, source := 7, typ := 1, tag := 5, size := 8, bins := [63], phase := 1, body := [1, 2, 3] }, { segs := 8, wseg := 2 }, { up.setP P.FR_BIN_STATE 63 4 with fr := { bins := [(63, some { segs := 8, wseg := 2 })], wb := [{ id := 1, source := 7, typ := 1, tag := 5, size := 8, bins := [63], phase := 1, body := [1, 2, 3] }] } }, by decide +kernel⟩,
   ⟨63, { segs := 8, wseg := 2 }, { up.setP P.FR_BIN_STATE 63 2 with fr := { bins := [(63, some { segs := 8, wseg := 2 })] } }, by decide +kernel⟩,
   ⟨63, { segs := 8, wseg := 2, clips := [{ id := 1, first := 5, last := 6, phase := 2, flags := 1, recs := [{ typ := 1, source := 0, seq := 0, tag := 5, pieces := [(3, 0, 64)] }] }], passes := [(4, 49)] }, { up.setP P.FR_BIN_STATE 63 4 with fr := { bins := [(63, some { segs := 8, wseg := 2, clips := [{ id := 1, first := 5, last := 6, phase := 2, flags := 1, recs := [{ typ := 1, source := 0, seq := 0, tag := 5, pieces := [(3, 0, 64)] }] }], passes := [(4, 49)] })] } }, 3, 7, [6, 5, 4], by decide +kernel⟩,
   ⟨cmd 12 (63 ||| 1 <<< 8 ||| 6 <<< 32 ||| 10 <<< 64), 63, { up.setP P.FR_BIN_STATE 63 3 with fr := { bins := [(63, some { segs := 6, wseg := 2, clips := [{ id := 1, first := 5, last := 6, phase := 2 }] })] } }, { segs := 6, wseg := 2, clips := [{ id := 1, first := 5, last := 6, phase := 2 }] }, [{ id := 1, first := 5, last := 6, phase := 2 }], by decide +kernel⟩,
   ⟨cmd 1 63, 63, { up.setP P.FR_BIN_STATE 63 4 with fr := { bins := [(63, some { segs := 8, wseg := 2 })] } }, { segs := 8, wseg := 2 }, by decide +kernel⟩,
   ⟨63, 63, 15, 15, {}, { pairUp {} with ctl := { up.ctl with vfEnable := true, numVfs := 63 } }, List.replicate 64 7, by decide +kernel⟩,
   ⟨63, 63, 15, 15, {}, { pairUp {} with ctl := { up.ctl with vfEnable := true, numVfs := 63 } }, by decide +kernel⟩,
   ⟨63, 15, { sqBase := 0x40000, sqTail := 1 }, { pairUp { sqBase := 0x40000, sqTail := 1 } with ctl := { up.ctl with hostMem := [(0x40000, 1)] } }, 1 :: List.replicate 63 0, by decide +kernel⟩,
   ⟨63, 15, 0xFFFF, 63, 0x50000, { cmds := [{ cid := 0xFFFF, entry := (sqe 1 0 0xFFFF 63 0 2 0 188 0x50000 4096 0), time := 0 }], cqBase := 0x80000 }, { cid := 0xFFFF, entry := (sqe 1 0 0xFFFF 63 0 2 0 188 0x50000 4096 0), time := 0 }, { nextClip := 3, clips := [{ id := 2, first := 5, last := 6, phase := 2, recs := [frameRec] }] }, binUp 3 { nextClip := 3, clips := [{ id := 2, first := 5, last := 6, phase := 2, recs := [frameRec] }] } ((pairUp { cmds := [{ cid := 0xFFFF, entry := (sqe 1 0 0xFFFF 63 0 2 0 188 0x50000 4096 0), time := 0 }], cqBase := 0x80000 }).setP P.CXL_REGION_STATE 0 1), { id := 2, first := 5, last := 6, phase := 2, recs := [frameRec] }, ((frameRec.bytes 2).drop 188).take 4, by decide +kernel⟩,
   ⟨63, 15, 0xFFFF, 63, 0x50000, { cmds := [{ cid := 0xFFFF, entry := (sqe 2 0 0xFFFF 63 7 2 5 0 0x50000 16 0), time := 0 }], cqBase := 0x80000 }, { cid := 0xFFFF, entry := (sqe 2 0 0xFFFF 63 7 2 5 0 0x50000 16 0), time := 0 }, { nextClip := 3, clips := [{ id := 2, first := 5, last := 6, phase := 2, recs := [frameRec] }] }, binUp 3 { nextClip := 3, clips := [{ id := 2, first := 5, last := 6, phase := 2, recs := [frameRec] }] } ((pairUp { cmds := [{ cid := 0xFFFF, entry := (sqe 2 0 0xFFFF 63 7 2 5 0 0x50000 16 0), time := 0 }], cqBase := 0x80000 }).setP P.CXL_REGION_STATE 0 1), { id := 2, first := 5, last := 6, phase := 2, recs := [frameRec] }, (decodeBlock rawBlock).1, frameRec, rawBlock, true, 16, by decide +kernel⟩,
   ⟨63, 15, 0xFFFF, 63, 0x50000, { cmds := [{ cid := 0xFFFF, entry := (sqe 3 0 0xFFFF 63 0 0 0 0 0x50000 128 0), time := 0 }], cqBase := 0x80000 }, { cid := 0xFFFF, entry := (sqe 3 0 0xFFFF 63 0 0 0 0 0x50000 128 0), time := 0 }, { nextClip := 3, clips := [{ id := 2, first := 5, last := 6, phase := 2, recs := [frameRec] }] }, binUp 3 { nextClip := 3, clips := [{ id := 2, first := 5, last := 6, phase := 2, recs := [frameRec] }] } ((pairUp { cmds := [{ cid := 0xFFFF, entry := (sqe 3 0 0xFFFF 63 0 0 0 0 0x50000 128 0), time := 0 }], cqBase := 0x80000 }).setP P.CXL_REGION_STATE 0 1), [{ id := 2, first := 5, last := 6, phase := 2, recs := [frameRec] }], List.flatMap Clip.dirEntry [{ id := 2, first := 5, last := 6, phase := 2, recs := [frameRec] }], by decide +kernel⟩,
   ⟨63, 15, 0xFFFF, 63, 0x50000, { cmds := [{ cid := 0xFFFF, entry := (sqe 4 0 0xFFFF 63 0 2 0 0 0x50000 32 0), time := 0 }], cqBase := 0x80000 }, { cid := 0xFFFF, entry := (sqe 4 0 0xFFFF 63 0 2 0 0 0x50000 32 0), time := 0 }, { nextClip := 3, clips := [{ id := 2, first := 5, last := 6, phase := 2, recs := [frameRec] }] }, binUp 3 { nextClip := 3, clips := [{ id := 2, first := 5, last := 6, phase := 2, recs := [frameRec] }] } ((pairUp { cmds := [{ cid := 0xFFFF, entry := (sqe 4 0 0xFFFF 63 0 2 0 0 0x50000 32 0), time := 0 }], cqBase := 0x80000 }).setP P.CXL_REGION_STATE 0 1), { id := 2, first := 5, last := 6, phase := 2, recs := [frameRec] }, indexEntry frameRec 0, by decide +kernel⟩,
   ⟨63, 15, 0xFFFF, 63, 0x50000, 64, Rec.bytes { typ := 2, source := 7, seq := 0, tag := 5, body := gapBody 1 2 3 } 0, putBytes zeroByte [] 0x50000 (Rec.bytes { typ := 2, source := 7, seq := 0, tag := 5, body := gapBody 1 2 3 } 0), { cmds := [{ cid := 0xFFFF, entry := (sqe 5 1 0xFFFF 63 0 0 0 0 0x50000 64 0), time := 0 }], cqBase := 0x80000 }, { cid := 0xFFFF, entry := (sqe 5 1 0xFFFF 63 0 0 0 0 0x50000 64 0), time := 0 }, {}, { typ := 2, source := 7, seq := 0, tag := 5, body := gapBody 1 2 3 }, binUp 3 {} ((pairUp { cmds := [{ cid := 0xFFFF, entry := (sqe 5 1 0xFFFF 63 0 0 0 0 0x50000 64 0), time := 0 }], cqBase := 0x80000 }).setP P.CXL_REGION_STATE 0 1), by decide +kernel⟩,
   ⟨63, 15, 0xFFFF, { cmds := [{ cid := 0xFFFF, entry := (sqe 6 0 0xFFFF 0 0 0 0 0 0 0 0), time := 0 }], cqBase := 0x80000 }, { cid := 0xFFFF, entry := (sqe 6 0 0xFFFF 0 0 0 0 0 0 0 0), time := 0 }, pairUp { cmds := [{ cid := 0xFFFF, entry := (sqe 6 0 0xFFFF 0 0 0 0 0 0 0 0), time := 0 }], cqBase := 0x80000 }, by decide +kernel⟩,
   ⟨63, 15, 0xFFFF, 63, 9, { cmds := [{ cid := 0xFFFF, entry := (sqe 1 0 0xFFFF 63 0 1 0 0 0x50000 128 600000), time := 0, fate := 1 }], cqBase := 0x80000 }, { cid := 0xFFFF, entry := (sqe 1 0 0xFFFF 63 0 1 0 0 0x50000 128 600000), time := 0, fate := 1 }, { region := 31, segs := 8, wseg := 2, deleting := some 9 }, flight 0x721, flying 0x721 { binUp 3 { region := 31, segs := 8, wseg := 2, deleting := some 9 } up with cq := { pairs := [(1023, some { cmds := [{ cid := 0xFFFF, entry := (sqe 1 0 0xFFFF 63 0 1 0 0 0x50000 128 600000), time := 0, fate := 1 }], cqBase := 0x80000 })] } }, by decide +kernel⟩,
   ⟨63, 15, { vector := 15, unsignalled := 3 }, pairUp { vector := 15, unsignalled := 3 }, by decide +kernel⟩,
   ⟨cmd 24 (15 ||| 4 <<< 8 ||| 12 <<< 12 ||| 255 <<< 16 ||| 1 <<< 24 ||| 1000 <<< 32 ||| 0x40000 <<< 64 ||| 0x80000 <<< 128), 15, up, by decide +kernel⟩,
   ⟨cmd 1 15, 15, { up with cq := { pairs := [(15, some { frozen := true })] } }, { frozen := true }, by decide +kernel⟩,
   ⟨cmd 8 (31 ||| 77 <<< 32), 15, { up with cq := { pairs := [(15, some { frozen := true, newestLog := 77 })] } }, { frozen := true, newestLog := 77 }, by decide +kernel⟩,
   ⟨0, 15, { frozen := true, restart := some (9, false) }, flying 0x712 { up with cq := { pairs := [(15, some { frozen := true, restart := some (9, false) })] } }, (9, false), flight 0x712, by decide +kernel⟩,
   ⟨cmd 4 5, [{ seq := 5, froze := true, queue := 15, cid := 0xFFFF, time := 9, opcode := 1, code := 4 }], { up with cq := { logs := [(0, [{ seq := 5, froze := true, queue := 15, cid := 0xFFFF, time := 9, opcode := 1, code := 4 }])] } }, by decide +kernel⟩,
   ⟨cmd 1 15, 15, up, by decide +kernel⟩,
   ⟨cmd 8 (63 ||| 31 <<< 8 ||| 0 <<< 32), 63, 31, 8, 6, (withP [(P.CXL_REGION_SIZE, 31, 0x90000000), (P.CXL_REGION_STATE, 31, 1)] up), by decide +kernel⟩,
   ⟨cmd 4 (63 ||| 1 <<< 8), 63, binUp 3 { region := 31, segs := 8, wseg := 2, clips := [{ id := 1, first := 5, last := 6, phase := 2, flags := 1 }] } up, { region := 31, segs := 8, wseg := 2, clips := [{ id := 1, first := 5, last := 6, phase := 2, flags := 1 }] }, by decide +kernel⟩,
   ⟨cmd 8 (63 ||| 1 <<< 8 ||| 1396788809 <<< 32), .binSanitise (cmd 8 (63 ||| 1 <<< 8 ||| 1396788809 <<< 32)), 0x723, 2, 8, 0xFFFFFE00, 63, binUp 3 { region := 31, segs := 8, wseg := 2, clips := [{ id := 1, first := 5, last := 6, phase := 2, flags := 1 }] } up, { region := 31, segs := 8, wseg := 2, clips := [{ id := 1, first := 5, last := 6, phase := 2, flags := 1 }] }, by decide +kernel⟩,
   ⟨cmd 1 63, 63, up, by decide +kernel⟩,
   ⟨63, { region := 31, segs := 8, wseg := 2, admin := some { op := 2, pos := 3, total := 8, start := 0 } }, { op := 2, pos := 3, total := 8, start := 0 }, binUp 1 { region := 31, segs := 8, wseg := 2, admin := some { op := 2, pos := 3, total := 8, start := 0 } } up, by decide +kernel⟩,
   ⟨63, { id := 1, source := 7, typ := 1, tag := 5, size := 8, bins := [63], phase := 2, body := [1, 2, 3] }, { segs := 8, wseg := 2 }, { up.setP P.FR_BIN_STATE 63 4 with fr := { bins := [(63, some { segs := 8, wseg := 2 })], wb := [{ id := 1, source := 7, typ := 1, tag := 5, size := 8, bins := [63], phase := 2, body := [1, 2, 3] }] } }, by decide +kernel⟩⟩

/-- O60: each clause of EveryCodecAudioHouseAndPowerCommandCompletes has an input. -/
theorem test_hypotheses_EveryCodecAudioHouseAndPowerCommandCompletes :
  (∃ (c : Cmd) (e : ℕ) (m : ℕ) (l : List ℕ) (s : Machine.State) (r : Machine.State × List ℕ × Option ℕ), s.accepts false 2049 c ∧ c.win < 64 ∧ c.operands 12 0 ∧ e = c.f 0 8 ∧ m = c.f 8 8 ∧ vcOpenOperands c = true ∧ s.preview.streamOk e m = true ∧ (m = 3 → s.bin? (c.f 16 8) ≠ none) ∧ s.vcState e = 0 ∧ (r = if m = 1 then State.codecAlloc e (ycStride (s.preview.capture e).outW * (s.preview.capture e).outH) 2 s else if m = 2 then State.codecAlloc e 67108864 1 s else (s, [], none)) ∧ r.2 = (l, none))
  ∧ (∃ (c : Cmd) (e : ℕ) (s : Machine.State), s.accepts false 2050 c ∧ c.win < 64 ∧ c.operands 1 0 ∧ e = c.f 0 8 ∧ e < 2 ∧ s.vcState e ≠ 0 ∧ (s.vcp e P.VC_HOLDER = c.win ∨ c.win = 0) ∧ (s.engine e).closing = none ∧ (s.vcState e = 2 ∨ (s.engine e).work ≠ none) ∧ c.immediate = true)
  ∧ (∃ (c : Cmd) (e : ℕ) (s : Machine.State), s.accepts false 2051 c ∧ c.win < 64 ∧ c.operands 1 0 ∧ e = c.f 0 8 ∧ e < 2 ∧ s.holds c.win e = true ∧ s.vcp e P.VC_MODE = 1 ∧ c.immediate = true)
  ∧ (∃ (c : Cmd) (e : ℕ) (n : ℕ) (a : ℕ) (s : Machine.State) (l : List Byte), s.accepts false 2052 c ∧ c.win < 64 ∧ c.operands 16 4294966272 ∧ e = c.f 0 8 ∧ n = c.f 32 32 ∧ a = c.f 64 64 ∧ e < 2 ∧ n ≤ 16777216 ∧ (n ≠ 0 ∨ c.f 8 1 = 1) ∧ s.holds c.win e = true ∧ s.vcp e P.VC_MODE = 2 ∧ (s.engine e).ended = false ∧ (∀ f ∈ (s.engine e).feeds, f.fin = false) ∧ c.host = [] ∧ (c.f 9 1 = 0 ∧ s.hostGood a n = n ∧ l = takeBytes zeroByte s.ctl.hostMem a n ∨ c.f 9 1 = 1 ∧ s.firstPoison a n = none ∧ s.dram.flaws = [] ∧ l = s.devRead a n ∧ ∃ b, s.hostBuffer a n = some b ∧ (b.carve = 2 ∨ b.carve = 3) ∧ b.window = some c.win) ∧ (s.engine e).feeds = [] ∧ (s.engine e).input.length + n ≤ 67108864)
  ∧ (∃ (e : ℕ) (s : Machine.State) (f : Feed) (g : Flight), e < 2 ∧ (s.engine e).feeds = [f] ∧ s.awaits f.ticket g)
  ∧ (∃ (c : Cmd) (e : ℕ) (h : ℕ) (n : ℕ) (s : Machine.State) (o : Option PicRecord) (r : PicRecord), s.accepts false 2053 c ∧ c.win < 64 ∧ c.operands 20 4294901760 ∧ e = c.f 0 8 ∧ h = c.f 64 64 ∧ n = c.f 128 32 ∧ e < 2 ∧ c.f 8 8 < 2 ∧ h ≠ 0 ∧ h % 64 = 0 ∧ 64 ≤ n ∧ n ≤ 2112 ∧ n % 64 = 0 ∧ (o = if c.f 8 8 = 0 then (s.engine e).records.head? else List.find? (fun r => r.number == c.f 32 32) (s.engine e).records) ∧ o = some r ∧ c.host = [] ∧ s.hostGood h n = n)
  ∧ (∃ (e : ℕ) (t : ℕ) (p : ℕ) (x : Engine) (y : Engine) (u : List Byte) (irap : Bool) (s : Machine.State), e < 2 ∧ s.engine e = x ∧ x.work = none ∧ x.closing = none ∧ s.ctl.staged = [] ∧ s.captureHeld = false ∧ s.vcp e P.VC_DEC_PACE = 255 ∧ x.pace = some p ∧ s.getP P.TH_STEP 0 = 0 ∧ (s.vcState e = 1 ∨ s.vcState e = 2) ∧ ((s.vcp e P.VC_MODE = 2 ∧ x.feeds = [] ∧ ∃ v rest, nextUnit x.input x.ended = some (u, v, rest) ∧ irap = decide (16 ≤ v ∧ v ≤ 23) ∧ x.badUnit = false ∧ (x.begun = true ∨ irap = true) ∧ ¬(x.skipRasl = true ∧ (v = 8 ∨ v = 9)) ∧ y = { bin := x.bin, recEngine := x.recEngine, clip := x.clip, tag := x.tag, period := x.period, pace := x.pace, paceDue := x.paceDue, number := x.number, gop := x.gop, idr := x.idr, keys := x.keys, prevBits := x.prevBits, first := x.first, work := x.work, skipped := x.skipped, dropped := x.dropped, records := x.records, bufs := x.bufs, width := x.width, height := x.height, input := rest, ended := x.ended, feeds := x.feeds, begun := true, skipRasl := if irap = true then !x.begun && v == 21 else x.skipRasl, nextSeq := x.nextSeq, badSps := x.badSps, pics := x.pics, newest := x.newest, mode := x.mode, good := x.good, closing := x.closing, freeing := x.freeing, nextStart := x.nextStart }) ∨ s.vcp e P.VC_MODE = 3 ∧ ∃ l q r, s.proxyRecords e = [(x.clip, l)] ∧ x.nextSeq = some q ∧ List.find? (fun r => decide (q ≤ r.seq)) l = some r ∧ irap = r.isIdr ∧ u = List.take (r.field 44 4) (List.drop 32 r.body) ∧ y = { badUnit := !(s.recPoison r).isEmpty, bin := x.bin, recEngine := x.recEngine, clip := x.clip, tag := x.tag, period := x.period, pace := x.pace, paceDue := x.paceDue, number := x.number, gop := x.gop, idr := x.idr, keys := x.keys, prevBits := x.prevBits, first := x.first, work := x.work, skipped := x.skipped, dropped := x.dropped, records := x.records, bufs := x.bufs, width := x.width, height := x.height, input := x.input, ended := x.ended, feeds := x.feeds, begun := true, skipRasl := x.skipRasl, nextSeq := some (r.seq + 1), badSps := x.badSps, pics := x.pics, newest := x.newest, mode := x.mode, good := x.good, closing := x.closing, freeing := x.freeing, nextStart := x.nextStart }))
  ∧ (∃ (e : ℕ) (t : ℕ) (o : PicOutcome) (x : Engine) (w : PicWork) (s : Machine.State) (k : Option ℕ), e < 2 ∧ s.engine e = x ∧ x.work = some w ∧ x.closing = none ∧ (¬(s.vcp e P.VC_MODE = 2 ∧ x.atEnd = true)) ∧ t ≤ w.deadline ∧ s.vcp e P.VC_MODE = 1 ∧ 64 ≤ s.vcp e P.VC_ENC_BIN ∧ s.clampAt e w o = k)
  ∧ (∃ (n : ℕ) (x : AudioPort) (s : Machine.State), n < 16 ∧ s.port n = x ∧ x.clock = false)
  ∧ (∃ (n : ℕ) (x : AudioPort) (s : Machine.State), n < 16 ∧ s.port n = x ∧ x.clock = true)
  ∧ (∃ (n : ℕ) (t : ℕ) (b : ℕ) (l : List ℕ) (o : Bool) (x : AudioPort) (s : Machine.State), n < 16 ∧ s.port n = x ∧ s.apState n = 2 ∧ x.edges = 0)
  ∧ (∃ (n : ℕ) (r : ℕ) (h : ℕ) (s : Machine.State), n < 16 ∧ h = s.apHz n * 1000000 ∧ 3 ≤ s.apState n ∧ s.apState n ≤ 5 ∧ h < ((r : Int) - (h : Int)).natAbs * 1000)
  ∧ (∃ (n : ℕ) (b : ℕ) (late : Bool) (x : AudioPort) (s : Machine.State), n < 16 ∧ s.apState n = 4 ∧ s.port n = x ∧ s.blockNear n b = true ∧ s.dram.flaws = [])
  ∧ (∃ (n : ℕ) (b : ℕ) (x : AudioPort) (s : Machine.State), n < 16 ∧ s.apState n = 4 ∧ s.port n = x ∧ s.blockDue n b = true ∧ b ∉ x.missing ∧ b ∈ x.fetched ∧ x.gone = true)
  ∧ (∃ (c : Cmd) (m : ℕ) (a : ℕ) (s : Machine.State) (r : ℕ), s.accepts false 2305 c ∧ c.operands 8 4294836224 ∧ m = c.f 0 16 ∧ a = (c.f 32 32 + 2 ^ 32 - s.ring.tag) % 2 ^ 32 ∧ m ≠ 0 ∧ (∀ k < 16, m.testBit k = true → s.app k P.AP_RATE = r) ∧ (∀ k < 16, m.testBit k = true → s.apState k ≠ 0 ∧ s.apState k ≠ 5 ∧ s.apState k ≠ 6) ∧ (c.f 16 1 = 0 → a ≠ 0 ∧ a < 2 ^ 31 ∧ 2 * s.ring.period ≤ s.ring.next - s.now * 65536 + (a - 1) * s.ring.period) ∧ (∀ x ∈ s.au.starts, x.mask &&& m = 0) ∧ c.immediate = true)
  ∧ (∃ (c : Cmd) (n : ℕ) (s : Machine.State), s.accepts false 2306 c ∧ c.operands 1 0 ∧ n = c.f 0 8 ∧ n < 16)
  ∧ (∃ (r : ℕ) (v : ℕ) (n : ℕ) (lo : ℕ) (hi : ℕ) (s : Machine.State), s.ctl.boot ≠ Boot.off ∧ s.hk.next = n ∧ 5 ≤ n ∧ n ≤ 31 ∧ r < 65536 ∧ (v = if n < 15 then r else min r 19200) ∧ lo = s.getP P.HK_LIMIT_LO n ∧ hi = s.getP P.HK_LIMIT_HI n ∧ (s.getP P.HK_READING n).testBit 18 = false ∧ lo ≤ v ∧ v ≤ hi ∧ (n = 31 → s.ctl.boot ≠ Boot.running ∧ s.hk.trip = false))
  ∧ (∃ (a : ℕ) (k : ℕ) (n : ℕ) (f : List Byte) (p : Option ℕ) (s : Machine.State), a < 128 ∧ k < 4 ∧ s.busAnswers a = true ∧ s.ctl.staged = [] ∧ s.ctl.boot ≠ Boot.auxOnly ∧ s.slotFree 64 k = true ∧ 16 ≤ n ∧ n ≤ 256 ∧ f.length = n ∧ (p = none ∧ s.getP P.MB_PEC_REQUIRED 0 ≠ 1 ∨ p = some (crc8 (busWrite a (16 + k) ++ leBytes n 2 ++ f))))
  ∧ (∃ (a : ℕ) (k : ℕ) (s : Machine.State) (r : Reply), a < 128 ∧ k < 4 ∧ s.busAnswers a = true ∧ s.ctl.staged = [] ∧ s.ctl.boot ≠ Boot.auxOnly ∧ SMap.find k (s.win 64).replies = some r)
  ∧ (∃ (a : ℕ) (k : ℕ) (p : Option ℕ) (s : Machine.State), a < 128 ∧ k < 4 ∧ s.busAnswers a = true ∧ s.ctl.staged = [] ∧ s.ctl.boot ≠ Boot.auxOnly ∧ (s.win 64).busy.testBit k = false ∧ (p = none ∧ s.getP P.MB_PEC_REQUIRED 0 ≠ 1 ∨ p = some (crc8 (busWrite a (64 + k)))) ∧ (s.win 64).ready.testBit k = true)
  ∧ (∃ (i : Instr) (a : ℕ) (x : ℕ) (s : Machine.State), a < 128 ∧ s.busAnswers a = true ∧ s.ctl.staged = [] ∧ i ∈ [Instr.mbStretchTimeout a x, Instr.mbBusTimeout a x])
  ∧ (∃ (mw : ℕ) (l : List ℕ) (s : Machine.State), s.bgHeld 6 = false)
  ∧ (∃ (n : ℕ) (s : Machine.State), s.bgHeld 10 = false ∧ n < s.dram.dirty.length)
  ∧ (∃ (c : Cmd) (s : Machine.State), c.operands 0 0 ∧ s.accepts false 2561 c)
  ∧ (∃ (c : Cmd) (s : Machine.State), c.operands 0 0 ∧ s.accepts false 2562 c)
  ∧ (∃ (m : ℕ) (s : Machine.State), m < 4 ∧ (s.ctl.boot = Boot.off ∨ s.ctl.boot = Boot.auxOnly))
  ∧ (∃ (s : Machine.State), s.ctl.boot = Boot.training ∧ s.cxl.regions = [] ∧ s.fr.bins = [] ∧ (∀ g < 8, s.getP (P.cg g P.CG_ENABLE) 0 = 0 ∧ s.camState g = 0))
  ∧ (∃ (c : Cmd) (s : Machine.State), s.accepts true 2576 c ∧ c.operands 4 0 ∧ c.f 0 32 = 1381188948)
  ∧ (∃ (c : Cmd) (g : ℕ) (old : ℕ) (s : Machine.State), s.accepts true 64 c ∧ c.operands 4 4294966784 ∧ g = c.f 0 8 ∧ old = s.powerState ∧ g ≤ 2 ∧ (c.f 8 1 = 1 → g = 2) ∧ s.pw.step = PwStep.none ∧ s.pw.tickets = [] ∧ c.immediate = false ∧ s.runningCanvases = [] ∧ (old = 0 ∧ g = 1 ∨ old = 1 ∧ g = 0))
  ∧ (∃ (s : Machine.State) (m : ℕ), m < 3 ∧ s.ctl.perstN = false)
  ∧ (∃ (h : ℤ) (s : Machine.State), h = s.hottest.1 ∧ s.hk.trip = false ∧ (s.threshold 1 ≤ h ∨ h < s.threshold 1 - s.hyst))
  ∧ (∃ (e : ℕ) (s : Machine.State), s.powerState ≠ 2 ∧ s.cxl.regions = [] ∧ e = (s.now - s.hk.patrolStart) * 1000 / max (s.getP P.MEM_SCRUB_HOURS 0 * 3600000000000) 1 ∧ (s.hk.behind.testBit 32 = false ∧ s.getP P.MEM_SCRUB_PROGRESS 0 + 50 < e ∨ s.hk.behind.testBit 32 = true ∧ e ≤ s.getP P.MEM_SCRUB_PROGRESS 0))
  ∧ (∃ (s : Machine.State), s.ctl.boot = Boot.auxOnly ∧ s.slotValid s.ctl.bootSlot = true)
  ∧ (∃ (s : Machine.State), s.ctl.boot = Boot.starting)
  ∧ (∃ (s : Machine.State), s.ctl.boot ≠ Boot.off ∧ s.ctl.boot ≠ Boot.auxOnly ∧ s.pw.stop ≠ some 0)
  ∧ (∃ (s : Machine.State) (u : ℕ), s.pw.resetAt = some u ∧ s.ctl.boot = Boot.running ∧ s.pw.stop ≠ some 0)
  ∧ (∃ (s : Machine.State) (tk : ℕ) (f : Flight), s.pw.step = PwStep.sleeping ∧ s.pw.tickets = [tk] ∧ s.pw.exitWanted = false ∧ s.awaits tk f)
  ∧ (∃ (s : Machine.State), s.pw.step = PwStep.exiting ∧ s.fr.bins = [] ∧ (∀ g < 8, s.camState g ≠ 5))
  ∧ (∃ (s : Machine.State) (f : ℕ), s.pw.returnFrom = some f ∧ s.powerState = 1 ∧ s.pw.step = PwStep.none ∧ s.getP P.PW_DARK_RETURN_MS 0 ≠ 0) :=
  ⟨⟨cmd 12 (1 ||| 2 <<< 8 ||| 0 <<< 16), 1, 2, [carveWindow 3], vcUp 0 0 {}, State.codecAlloc 1 0x4000000 1 (vcUp 0 0 {}), by decide +kernel⟩,
   ⟨{ cmd 1 1 with flags := 4 }, 1, vcUp 2 2 {}, by decide +kernel⟩,
   ⟨{ cmd 1 1 with flags := 4 }, 1, vcUp 1 1 {}, by decide +kernel⟩,
   ⟨cmd 16 (1 ||| 2 <<< 8 ||| 4 <<< 32 ||| carveWindow 2 <<< 64), 1, 4, carveWindow 2, { vcUp 1 2 {} with dram := { buffers := [{ carve := 2, base := carveWindow 2, bytes := 0x200000, owner := .window 0, pages := [1024], order := 0 }] } }, [0, 0, 0, 0], by decide +kernel⟩,
   ⟨1, flying 0x804 (vcUp 1 2 { feeds := [{ ticket := 9, bytes := [1, 2], fin := false, since := 0 }] }), { ticket := 9, bytes := [1, 2], fin := false, since := 0 }, flight 0x804, by decide +kernel⟩,
   ⟨cmd 20 (1 ||| 0 <<< 8 ||| 0x50000 <<< 64 ||| 2112 <<< 128), 1, 0x50000, 2112, vcUp 1 1 { records := [{ tag := 5, number := 3, width := 256, height := 128 }] }, some { tag := 5, number := 3, width := 256, height := 128 }, { tag := 5, number := 3, width := 256, height := 128 }, by decide +kernel⟩,
   ⟨1, 5000, 6000, { input := [0, 0, 1, 0x26, 1, 0x80, 7], ended := true, pace := some 6000 }, { input := [], ended := true, begun := true, pace := some 6000 }, [0, 0, 1, 0x26, 1, 0x80, 7], true, vcUp 1 2 { input := [0, 0, 1, 0x26, 1, 0x80, 7], ended := true, pace := some 6000 }, by refine ⟨?_, ?_, ?_, ?_, ?_, ?_, ?_, ?_, ?_, ?_, ?_⟩ <;> first | exact (Or.inl ⟨by decide +kernel, by decide +kernel, 19, [], by decide +kernel⟩) | decide +kernel⟩,
   ⟨1, 9000, { picType := 2, poc := 4, bits := 100 }, { work := some { number := 1, tag := 5, start := 0, deadline := 9000, budget := 100000, buffer := 0x60000 }, width := 256, height := 128 }, { number := 1, tag := 5, start := 0, deadline := 9000, budget := 100000, buffer := 0x60000 }, (vcUp 2 1 { work := some { number := 1, tag := 5, start := 0, deadline := 9000, budget := 100000, buffer := 0x60000 }, width := 256, height := 128 }).setP (P.vc 1 P.VC_ENC_BIN) 0 64, none, by decide +kernel⟩,
   ⟨15, {}, auUp 0 1 {}, by decide +kernel⟩,
   ⟨15, { clock := true }, auUp 0 1 { clock := true }, by decide +kernel⟩,
   ⟨15, 5000, 7, [], false, {}, auUp 2 1 {}, by decide +kernel⟩,
   ⟨15, 48048000001, 48000000000, auUp 5 1 {}, by decide +kernel⟩,
   ⟨15, 5, true, { pos := some 160 }, auUp 4 1 { pos := some 160 }, by decide +kernel⟩,
   ⟨15, 5, { pos := some 160, fetched := [5], gone := true }, auUp 4 1 { pos := some 160, fetched := [5], gone := true }, by decide +kernel⟩,
   ⟨{ cmd 8 (0x8000 ||| 0 <<< 16 ||| 4 <<< 32) with flags := 4 }, 0x8000, 4, auUp 3 1 {}, 1, by refine ⟨?_, ?_, ?_, ?_, ?_, ?_, ?_, ?_, ?_, ?_⟩ <;> first | exact (by decide +kernel) | decide +kernel⟩,
   ⟨cmd 1 15, 15, auUp 3 1 {}, by decide +kernel⟩,
   ⟨65535, 19200, 31, ({ ({ ctl := { boot := .starting } } : State) with hk := { next := 31 } } : State).getP P.HK_LIMIT_LO 31, ({ ({ ctl := { boot := .starting } } : State) with hk := { next := 31 } } : State).getP P.HK_LIMIT_HI 31, ({ ({ ctl := { boot := .starting } } : State) with hk := { next := 31 } } : State), by decide +kernel⟩,
   ⟨127, 3, 256, (List.replicate 256 3), some (crc8 (busWrite 127 19 ++ leBytes 256 2 ++ (List.replicate 256 3))), busUp false {}, by decide +kernel⟩,
   ⟨127, 3, busUp false { replies := [(3, { len := 4, tag := 7, seq := 2, opcode := 1, result := 0x01020304 })], ready := 8 }, { len := 4, tag := 7, seq := 2, opcode := 1, result := 0x01020304 }, by decide +kernel⟩,
   ⟨127, 3, some (crc8 (busWrite 127 67)), busUp false { replies := [(3, { len := 4, tag := 7, seq := 2, opcode := 1, result := 0x01020304 })], ready := 8 }, by decide +kernel⟩,
   ⟨.mbBusTimeout 127 5, 127, 5, busUp false {}, by decide +kernel⟩,
   ⟨777, [5, 6], up, by decide +kernel⟩,
   ⟨1, { up with dram := { dirty := [4, 5] } }, by decide +kernel⟩,
   ⟨cmd 0 0, up, by decide +kernel⟩,
   ⟨cmd 0 0, up, by decide +kernel⟩,
   ⟨3, {}, by decide +kernel⟩,
   ⟨withP ((List.range 8).map fun g => (P.cg g P.CG_ENABLE, 0, 0)) ({ ctl := { boot := .training } } : State), by decide +kernel⟩,
   ⟨cmd 4 1381188948, up, by decide +kernel⟩,
   ⟨cmd 4 (1 ||| 0 <<< 8), 1, 0, up.setP P.PW_STATE 0 0, by decide +kernel⟩,
   ⟨{}, 2, by decide +kernel⟩,
   ⟨0, up, by decide +kernel⟩,
   ⟨1000, withP [(P.MEM_SCRUB_HOURS, 0, 1), (P.MEM_SCRUB_PROGRESS, 0, 949)] { up with now := 3600000000000, hk := { behind := 0 } }, by decide +kernel⟩,
   ⟨({ ctl := { boot := .auxOnly, fwA := { valid := true } } } : State), by decide +kernel⟩,
   ⟨({ ctl := { boot := .starting } } : State), by decide +kernel⟩,
   ⟨up, by decide +kernel⟩,
   ⟨pwUp { resetAt := some 5000 } up, 5000, by decide +kernel⟩,
   ⟨pwUp { step := .sleeping, tickets := [9] } (flying 0x40 up), 9, flight 0x40, by decide +kernel⟩,
   ⟨pwUp { step := .exiting } (up.setP P.PW_STATE 0 2), by decide +kernel⟩,
   ⟨pwUp { returnFrom := some 0 } (up.setP P.PW_DARK_RETURN_MS 0 5), 0, by decide +kernel⟩⟩

end Sys2Proof.Tests
end

section
/-! What a CLOSED window accepts (R52): step 4 of R62 decides it, and WINDOW_OPEN, which passes there, leaves the window with an empty ring and
the default mask. -/

namespace Sys2Proof.Machine

/-! ### The window's state among the checks of R62 -/

/-- A CLOSED window rejects every opcode but PING, IDENTIFY and WINDOW_OPEN. -/
theorem windowCheck_closed_rejects {s : State} {op : Nat} {c : Cmd} (hw : c.win ≠ 64) (hc : s.winState c.win = .closed)
    (h1 : op ≠ 0x0001) (h3 : op ≠ 0x0003) (h5 : op ≠ 0x0005) : s.windowCheck op c = some cWINDOW_CLOSED := by
  simp [State.windowCheck, hw, hc, h1, h3, h5]

/-- A CLOSED window accepts PING and IDENTIFY. -/
theorem windowCheck_closed_accepts {s : State} {op : Nat} {c : Cmd} (hc : s.winState c.win = .closed) (hop : op = 0x0001 ∨ op = 0x0003) :
    s.windowCheck op c = none := by
  rcases hop with rfl | rfl <;> simp [State.windowCheck, hc]

/-- Outside RECOVERY, a CLOSED window accepts WINDOW_OPEN. -/
theorem windowCheck_closed_windowOpen {s : State} {c : Cmd} (hc : s.winState c.win = .closed) (hb : s.ctl.boot = .running) :
    s.windowCheck 0x0005 c = none := by
  simp [State.windowCheck, hc, hb]

/-- Where the firmware supports the opcode, the window's state is the first check that can fail. -/
theorem checkCmd_of_windowCheck {s : State} {spec : OpSpec} {f : Flight} {code : Nat} (hv : f.cmd.ver = 1) (hf : s.fwSupports spec.op = true)
    (hw : s.windowCheck spec.op f.cmd = some code) : s.checkCmd spec f = some code := by
  simp [State.checkCmd, hv, hf, hw]

/-- In a CLOSED window, PING and IDENTIFY pass every check if their headers are sound and they have no operands. -/
theorem checkCmd_closed_fixed {s : State} {op : Nat} {c : Cmd} (hop : op = 0x0001 ∨ op = 0x0003) (hh : c.headerOk) (ho : c.operands 0 0)
    (hf : s.fwSupports op = true) (hc : s.winState c.win = .closed) :
    (s.entered op c).checkCmd (.fixed op 0) (s.flightOf op c) = none :=
  checkCmd_none s (spec := .fixed op 0) hh hf (windowCheck_closed_accepts (by simpa using hc) hop) (by simp) (by simp [ho.1]) (by simp) fun _ => rfl

/-- In a CLOSED window, outside RECOVERY, WINDOW_OPEN passes every check if its header is sound and it has no operands. -/
theorem checkCmd_closed_windowOpen {s : State} {c : Cmd} (hh : c.headerOk) (ho : c.operands 0 0) (hf : s.fwSupports 0x0005 = true)
    (hw : c.win ≠ 64) (hc : s.winState c.win = .closed) (hb : s.ctl.boot = .running) :
    (s.entered 0x0005 c).checkCmd windowOpenSpec (s.flightOf 0x0005 c) = none :=
  checkCmd_none s (spec := windowOpenSpec) hh hf (windowCheck_closed_windowOpen (by simpa using hc) (by simpa using hb))
    (by simp [windowOpenSpec]) (by simp [windowOpenSpec, ho.1]) (by simp [windowOpenSpec]) fun h => absurd h hw

/-! ### WINDOW_OPEN -/

/-- The window as WINDOW_OPEN leaves it: an empty ring and the default mask (R52, R79). -/
def Window.openedAs (n : Nat) (w : Window) : Window :=
  { w with state := .opened, head := 0, tail := 0, written := 0, lost := 0, tailRejects := 0, mask := defaultMask n, pendLoss := 0, firstLoss := 0 }

theorem Window.openedAs_count (n : Nat) (w : Window) : (w.openedAs n).count = 0 := by
  simp [Window.openedAs, Window.count]

/-- The ring registers are valid in the terms of R52. -/
theorem Window.ringValid_iff {w : Window} :
    w.ringValid = true ↔ 6 ≤ w.sizeLog2 ∧ w.sizeLog2 ≤ 16 ∧ w.base ≠ 0 ∧ w.base + 32 * 2 ^ w.sizeLog2 ≤ 2 ^ 64 := by
  simp [Window.ringValid, and_assoc]

/-- Following EVENT_PENDING changes the status views only. -/
theorem notePending_frame (s : State) (was : Bool) (n : Nat) : ∃ v, s.notePending was n = { s with ctl := { s.ctl with views := v } } := by
  unfold State.notePending
  split
  · exact ⟨_, rfl⟩
  · unfold State.advanceWin
    split <;> exact ⟨_, rfl⟩

/-- A window whose ring is empty and that is within its event quota stays within it. -/
theorem reviewEventQuota_of_empty {s : State} {n : Nat} (hq : s.getP P.EVENT_OVER_QUOTA n = 0) (hc : (s.win n).count = 0) :
    s.reviewEventQuota n = s := by
  simp [State.reviewEventQuota, hq, hc]

/-- WINDOW_OPEN of a window that is not OPEN, with valid ring registers and within its event quota, opens it; no command in progress changes. -/
theorem windowOpenBody_opens {s : State} {k : Call} (hs : (s.win k.c.win).state ≠ .opened) (hr : (s.win k.c.win).ringValid = true)
    (hq : s.getP P.EVENT_OVER_QUOTA k.c.win = 0) : ∃ u, windowOpenBody k s = (u, .ok) ∧ u.win k.c.win = (s.win k.c.win).openedAs k.c.win
      ∧ u.ctl.flights = s.ctl.flights ∧ u.ctl.fwReady = s.ctl.fwReady ∧ u.pending = s.pending := by
  set x := s.setWin k.c.win ((s.win k.c.win).openedAs k.c.win)
  have hwin : x.win k.c.win = (s.win k.c.win).openedAs k.c.win := State.win_setWin_same s _ _
  obtain ⟨v, hv⟩ := notePending_frame x (s.eventPending k.c.win) k.c.win
  have hkeeps : (x.notePending (s.eventPending k.c.win) k.c.win).reviewEventQuota k.c.win = { x with ctl := { x.ctl with views := v } } := by
    rw [hv]; exact reviewEventQuota_of_empty hq ((congrArg Window.count hwin).trans (Window.openedAs_count _ _))
  refine ⟨({ x with ctl := { x.ctl with views := v } } : State).partnerArrives (windowId k.c.win) (srcOf 0xE k.c.win)
    (k.c.win + at' 8 (s.windowFunction k.c.win)), ?_, hwin, rfl, rfl, rfl⟩
  rw [← hkeeps]
  simp only [windowOpenBody, hs, hr, if_false, Bool.not_true, Bool.false_eq_true]
  rfl

/-- The window of a command that is answered keeps all but the record of the command's slot. -/
theorem finalReply_win_sameButSlot {u : State} (hd : u.aipexDown = false) {tk : Nat} {f : Flight} (hf : u.flight? tk = some f) (code len r : Nat) :
    ((u.finalReply tk code len r).win f.cmd.win).sameButSlot f.cmd.slot (u.win f.cmd.win) := by
  rw [State.finalReply_win_same u hd hf]
  exact ⟨rfl, fun j hj => by simp [setBit_same_other hj, clrBit_same_other hj, SMap.get_set_other _ _ hj]⟩

/-- WINDOW_OPEN in a CLOSED window whose ring registers are valid and that is within its event quota opens the window and completes with OK. -/
theorem windowOpen_completes {c : Cmd} {s : State} (ht : s.takes 0x0005 c) (hh : c.headerOk) (ho : c.operands 0 0)
    (hf : s.fwSupports 0x0005 = true) (hw : c.win ≠ 64) (hc : s.winState c.win = .closed) (hb : s.ctl.boot = .running)
    (hq : s.getP P.EVENT_OVER_QUOTA c.win = 0) (hr : (s.win c.win).ringValid = true) :
    ∃ t, exec (.windowOpen c) s = .next t ∧ Answered 0x0005 c 0 0 0 t
      ∧ (t.win c.win).sameButSlot c.slot (((s.entered 0x0005 c).win c.win).openedAs c.win) := by
  have ⟨hwf, _, _, hfw, _⟩ := ht
  have hstate : (s.win c.win).state = .closed := by simpa [State.winState, hb] using hc
  obtain ⟨u, hu, hwin, hfl, hready, hqueue⟩ := windowOpenBody_opens (s := s.entered 0x0005 c)
    (k := { c := c, tk := s.newTicket, priv := s.privOf c }) (by simp [State.entered_win_same, hstate])
    (by simpa [State.entered_win_same, Window.ringValid_iff] using hr) (by simpa using hq)
  have hflight : u.flight? s.newTicket = some (s.flightOf 0x0005 c) := (State.flight?_congr hfl _).trans (s.entered_flight? 0x0005 c)
  have hup : u.aipexDown = false := u.aipexDown_of_ready (hready.trans (by simpa using hfw))
  have hexec : exec (.windowOpen c) s = .next (u.finalReply s.newTicket 0 0 0) := by
    change guarded (.windowOpen c) s (submit windowOpenSpec windowOpenBody c s) = _
    rw [submit_takes s ht, show windowOpenSpec.op = 0x0005 from rfl, checkCmd_closed_windowOpen hh ho hf hw hc hb]
    change guarded _ s (settled s.newTicket (windowOpenBody _ _)) = _
    rw [hu]
    exact guarded_next hwf (by simp [settled, hqueue])
  refine ⟨_, hexec, finalReply_answered u hup hflight (by decide) 0 0, ?_⟩
  rw [← show u.win c.win = ((s.entered 0x0005 c).win c.win).openedAs c.win from hwin]
  exact finalReply_win_sameButSlot hup hflight 0 0 0

end Sys2Proof.Machine

open Sys2Proof.Machine in
/-- Settles O6: step 4 of R62 rejects or passes each opcode, and the meanings of the three that pass answer OK. -/
theorem closedWindowRejectsCommands : Obligations.ClosedWindowRejectsCommands := by
  unfold Obligations.ClosedWindowRejectsCommands
  refine ⟨?rejects, ?ping, ?identify, ?windowOpen⟩
  case rejects =>
    intro i spec c s hm ht hv hf hw hc h1 h3 h5
    have hwc : (s.entered spec.op c).windowCheck spec.op c = some cWINDOW_CLOSED :=
      windowCheck_closed_rejects hw ((s.entered_winState spec.op c c.win).trans hc) h1 h3 h5
    exact submit_fails hm ht (by decide) (checkCmd_of_windowCheck hv (by simpa using hf) hwc)
  case ping =>
    intro c s ht hh ho hf _ hc
    exact Runs.completes_of_check (i := .ping c) (spec := pingSpec) (body := pingBody) ht.1 ht (checkCmd_closed_fixed (.inl rfl) hh ho hf hc) rfl
      (by decide) (entered_runs s _ c) rfl
  case identify =>
    intro c s ht hh ho hf _ hc
    obtain ⟨t, he, ha, hcmd⟩ := Runs.completes_of_check (i := .identify c) (spec := identifySpec) (body := identifyBody) ht.1 ht
      (checkCmd_closed_fixed (.inr rfl) hh ho hf hc) rfl (by decide) (entered_runs s _ c) rfl
    exact ⟨t, _, he, ha, hcmd⟩
  case windowOpen =>
    intro c s ht hh ho hf hw hc hb hq h6 h16 hbase hend
    obtain ⟨t, he, ha, hsame, _⟩ := windowOpen_completes ht hh ho hf hw hc hb hq (Window.ringValid_iff.2 ⟨h6, h16, hbase, hend⟩)
    refine ⟨t, he, ha, ?_⟩
    rw [hsame]
    exact ⟨rfl, rfl, rfl, rfl, rfl⟩
end

section
/-! Doorbells (R55): what a command does at a slot that is not free, at a free slot that Aipex does not take yet, and what DOORBELL rings. -/

namespace Sys2Proof.Machine

/-! ### Two writes to one window -/

theorem SMap.ins_ins {α : Type} (k : Nat) (a b : α) : ∀ m : SMap α, SMap.ins k b (SMap.ins k a m) = SMap.ins k b m
  | [] => by simp [SMap.ins]
  | (j, w) :: r => by
    by_cases h : j = k
    · simp [SMap.ins, h]
    · by_cases g : k < j
      · simp [SMap.ins, h, g]
      · simp [SMap.ins, h, g, SMap.ins_ins k a b r]

theorem SMap.del_ins {α : Type} (k : Nat) (a : α) : ∀ m : SMap α, SMap.del k (SMap.ins k a m) = SMap.del k m
  | [] => by simp [SMap.ins, SMap.del]
  | (j, w) :: r => by
    by_cases h : j = k
    · simp [SMap.ins, SMap.del, h]
    · by_cases g : k < j
      · simp [SMap.ins, SMap.del, h, g]
      · simp [SMap.ins, SMap.del, h, g, SMap.del_ins k a r]

/-- A later write to the same key stands alone, if the earlier one listed the key. -/
theorem SMap.set_set {α : Type} [DecidableEq α] {d : Nat → α} {k : Nat} {a : α} (h : a ≠ d k) (m : SMap α) (b : α) :
    SMap.set d (SMap.set d m k a) k b = SMap.set d m k b := by
  simp only [SMap.set, h, if_false, SMap.del_ins, SMap.ins_ins]

theorem State.setWin_setWin (s : State) {w : Nat} {x : Window} (h : x ≠ winDef w) (y : Window) : (s.setWin w x).setWin w y = s.setWin w y := by
  simp only [State.setWin, SMap.set_set h]

/-! ### A command rung in a slot that is not free -/

theorem slotFree_eq_false {s : State} {w k : Nat} :
    s.slotFree w k = false ↔ (s.win w).busy.testBit k = true ∨ (s.win w).ready.testBit k = true := by
  simp only [State.slotFree, Bool.and_eq_false_iff, Bool.not_eq_false']

/-- A write to a slot that does not take it is dropped. -/
theorem writeSlot_dropped (s : State) {w k : Nat} (o : Nat) (l : List Byte)
    (h : (s.win w).busy.testBit k = true ∨ w = 64 ∧ (s.win w).ready.testBit k = true) : s.writeSlot w k o l = s := by
  have hdrop : ((s.win w).busy.testBit k || (w == 64 && (s.win w).ready.testBit k)) = true := by
    simpa only [Bool.or_eq_true, Bool.and_eq_true, beq_iff_eq] using h
  unfold State.writeSlot
  simp only [hdrop, if_true]

theorem writeSlot_frame (s : State) (w k o : Nat) (l : List Byte) :
    ∃ m, s.writeSlot w k o l = { s with ctl := { s.ctl with wins := m } } := by
  unfold State.writeSlot
  dsimp only
  split
  · exact ⟨_, rfl⟩
  · exact ⟨_, rfl⟩

theorem doorbellError_window (s : State) {w : Nat} (h : w ≠ 64) (k : Nat) :
    s.doorbellError w k = s.setWin w { s.win w with derr := setBit (s.win w).derr k } := if_neg h

/-- The error bit is set over what was just written to the window, if one of its slots is unacknowledged. -/
theorem doorbellError_setWin (s : State) {w k j : Nat} (hw : w ≠ 64) {x : Window} (hx : x.ready.testBit j = true) :
    (s.setWin w x).doorbellError w k = s.setWin w { x with derr := setBit x.derr k } := by
  have hused : x ≠ winDef w := by rintro rfl; simp at hx
  rw [doorbellError_window _ hw, State.win_setWin_same, State.setWin_setWin s hused]

/-- The doorbell of a slot that is not free is ignored: the command is not taken, and the error is noted. -/
theorem submit_not_free {spec : OpSpec} {body : Body} {c : Cmd} {s : State} (hr : s.reachable c.win = true)
    (hs : s.slotFree c.win c.slot = false) :
    submit spec body c s = (s.writeSlot c.win c.slot 0 (slotBytes spec.op c)).doorbellError c.win c.slot := by
  simp only [submit, hr, hs, Bool.not_true, Bool.not_false, Bool.false_eq_true, if_false, if_true]

/-- What the error leaves: the bus counts it, and a client window keeps the bytes written to its slot unless the slot is busy. -/
theorem doorbellError_writeSlot {s : State} {w k : Nat} (l : List Byte) (hs : s.slotFree w k = false) :
    (s.writeSlot w k 0 l).doorbellError w k = if w = 64 then s.bumpSat P.MB_SLOT_ERRORS 0 1
      else s.setWin w { s.win w with
        derr := setBit (s.win w).derr k
        slots := if (s.win w).busy.testBit k then (s.win w).slots else putBytes zeroByte (s.win w).slots (k * 256) l } := by
  have hs' := slotFree_eq_false.1 hs
  by_cases h64 : w = 64
  · rw [writeSlot_dropped s 0 l (hs'.imp_right fun h => ⟨h64, h⟩), if_pos h64]
    exact if_pos h64
  rw [if_neg h64]
  by_cases hbusy : (s.win w).busy.testBit k = true
  · rw [writeSlot_dropped s 0 l (.inl hbusy), doorbellError_window s h64, if_pos hbusy]
  · have hready : (s.win w).ready.testBit k = true := hs'.resolve_left hbusy
    rw [writeSlot_free s 0 l (by simp [hbusy, h64]), Nat.add_zero (k * 256), if_neg hbusy]
    exact doorbellError_setWin s h64 (j := k) hready

theorem doorbellError_pending (s : State) (w k : Nat) : (s.doorbellError w k).pending = s.pending := by
  unfold State.doorbellError; split <;> rfl

/-! ### A free slot rung while Aipex takes no doorbells -/

/-- A command that is not taken stands in its slot, which is rung. -/
theorem submit_not_ready {spec : OpSpec} {body : Body} {c : Cmd} {s : State} (hr : s.reachable c.win = true)
    (hs : s.slotFree c.win c.slot = true) (hf : s.ctl.fwReady = false) :
    submit spec body c s = (hostOverlay spec.op c (s.writeSlot c.win c.slot 0 (slotBytes spec.op c))).ring' c.win c.slot
      (c.win == 64 && s.busPrivileged) := by
  simp only [submit, hr, hs, hf, Bool.not_true, Bool.false_eq_true, if_false]

/-- A write to a slot changes the window's slot bytes only. -/
theorem writeSlot_win (s : State) (w k o : Nat) (l : List Byte) :
    ∃ b, (s.writeSlot w k o l).win w = { s.win w with slots := b } := by
  unfold State.writeSlot
  dsimp only
  split
  · exact ⟨_, rfl⟩
  · exact ⟨_, State.win_setWin_same s w _⟩

/-- A command that is not taken: its slot is written, busy and rung, and host memory is as its row says; nothing else changes. -/
theorem submit_not_ready_effect {spec : OpSpec} {body : Body} {c : Cmd} {s : State} (hr : s.reachable c.win = true)
    (hs : s.slotFree c.win c.slot = true) (hf : s.ctl.fwReady = false) :
    (∃ w m, submit spec body c s = { s with ctl := { s.ctl with wins := w, hostMem := m } })
      ∧ ∃ b p, (submit spec body c s).win c.win = { s.win c.win with
        slots := b, busy := setBit (s.win c.win).busy c.slot, rung := setBit (s.win c.win).rung c.slot, rungPriv := p } := by
  rw [submit_not_ready hr hs hf]
  constructor
  · obtain ⟨m, hm⟩ := hostOverlay_frame (s.writeSlot c.win c.slot 0 (slotBytes spec.op c)) spec.op c
    obtain ⟨w, hw⟩ := writeSlot_frame s c.win c.slot 0 (slotBytes spec.op c)
    rw [hm, hw]
    exact ⟨_, m, rfl⟩
  · obtain ⟨b, hb⟩ := writeSlot_win s c.win c.slot 0 (slotBytes spec.op c)
    rw [State.win_ring', if_pos rfl, hostOverlay_win, hb]
    exact ⟨b, _, rfl⟩

/-! ### DOORBELL -/

/-- DOORBELL of `value` at slot `k`. -/
def State.ringNamed (win value : Nat) (s : State) (k : Nat) : State :=
  if !value.testBit k then s
  else if s.slotFree win k then s.ring' win k false
  else s.doorbellError win k

theorem ringSlots_eq (s : State) (win value : Nat) : s.ringSlots win value = (List.range 16).foldl (State.ringNamed win value) s := rfl

/-- A named slot becomes busy and rung if it is free; otherwise its DOORBELL_ERR bit is set. -/
theorem ringNamed_win (s : State) {win : Nat} (hw : win ≠ 64) (value k : Nat) : (s.ringNamed win value k).win win = { s.win win with
    busy := if value.testBit k && s.slotFree win k then setBit (s.win win).busy k else (s.win win).busy
    rung := if value.testBit k && s.slotFree win k then setBit (s.win win).rung k else (s.win win).rung
    rungPriv := if value.testBit k && s.slotFree win k then clrBit (s.win win).rungPriv k else (s.win win).rungPriv
    derr := if value.testBit k && !s.slotFree win k then setBit (s.win win).derr k else (s.win win).derr } := by
  cases hv : value.testBit k
  · simp [State.ringNamed, hv]
  · cases hf : s.slotFree win k <;> simp [State.ringNamed, hv, hf, State.win_ring', doorbellError_window s hw]

theorem ringNamed_win_other (s : State) {win w : Nat} (hw : win ≠ 64) (h : w ≠ win) (value k : Nat) : (s.ringNamed win value k).win w = s.win w := by
  unfold State.ringNamed
  split
  · rfl
  · split
    · rw [State.win_ring', if_neg h]
    · rw [doorbellError_window s hw, State.win_setWin, if_neg h]

theorem ringNamed_frame (s : State) {win : Nat} (hw : win ≠ 64) (value k : Nat) :
    ∃ m, s.ringNamed win value k = { s with ctl := { s.ctl with wins := m } } := by
  unfold State.ringNamed
  split
  · exact ⟨_, rfl⟩
  · split
    · exact ⟨_, rfl⟩
    · rw [doorbellError_window s hw]; exact ⟨_, rfl⟩

/-- DOORBELL of `value` has reached the slots below `n` of window `win`: the free ones among those named are rung, and the others' DOORBELL_ERR
bits are set. -/
structure RungBelow (win value n : Nat) (s t : State) : Prop where
  frame : ∃ m, t = { s with ctl := { s.ctl with wins := m } }
  other : ∀ w, w ≠ win → t.win w = s.win w
  slots : (t.win win).slots = (s.win win).slots
  ready : (t.win win).ready = (s.win win).ready
  replies : (t.win win).replies = (s.win win).replies
  busy : ∀ k, (t.win win).busy.testBit k = ((s.win win).busy.testBit k || (decide (k < n) && (value.testBit k && s.slotFree win k)))
  rung : ∀ k, (t.win win).rung.testBit k = ((s.win win).rung.testBit k || (decide (k < n) && (value.testBit k && s.slotFree win k)))
  derr : ∀ k, (t.win win).derr.testBit k = ((s.win win).derr.testBit k || (decide (k < n) && (value.testBit k && !s.slotFree win k)))

theorem RungBelow.refl (win value : Nat) (s : State) : RungBelow win value 0 s s where
  frame := ⟨_, rfl⟩
  other _ _ := rfl
  slots := rfl
  ready := rfl
  replies := rfl
  busy k := by simp
  rung k := by simp
  derr k := by simp

/-- A slot that DOORBELL has not reached is as free as before. -/
theorem RungBelow.slotFree {win value n : Nat} {s t : State} (h : RungBelow win value n s t) : t.slotFree win n = s.slotFree win n := by
  simp [State.slotFree, h.busy, h.ready]

theorem testBit_setBit_if (b : Bool) (m k j : Nat) : (if b then setBit m k else m).testBit j = (m.testBit j || (decide (j = k) && b)) := by
  cases b
  · simp
  · by_cases h : j = k
    · simp [h]
    · simp [h, setBit_same_other h]

theorem or_below_succ (b : Bool) (p : Nat → Bool) (n k : Nat) :
    (b || (decide (k < n) && p k) || (decide (k = n) && p n)) = (b || (decide (k < n + 1) && p k)) := by
  by_cases h : k = n
  · simp [h]
  · have hlt : decide (k < n + 1) = decide (k < n) := decide_eq_decide.2 (by omega)
    rw [hlt]; simp [h]

/-- DOORBELL takes one slot more. -/
theorem RungBelow.succ {win value n : Nat} {s t : State} (hw : win ≠ 64) (h : RungBelow win value n s t) :
    RungBelow win value (n + 1) s (t.ringNamed win value n) where
  frame := by
    obtain ⟨m, hm⟩ := ringNamed_frame t hw value n
    obtain ⟨m', hm'⟩ := h.frame
    exact ⟨m, by rw [hm, hm']⟩
  other w hne := (ringNamed_win_other t hw hne value n).trans (h.other w hne)
  slots := by rw [ringNamed_win t hw]; exact h.slots
  ready := by rw [ringNamed_win t hw]; exact h.ready
  replies := by rw [ringNamed_win t hw]; exact h.replies
  busy k := by
    rw [ringNamed_win t hw, testBit_setBit_if, h.busy, h.slotFree]
    exact or_below_succ _ (fun k => value.testBit k && s.slotFree win k) n k
  rung k := by
    rw [ringNamed_win t hw, testBit_setBit_if, h.rung, h.slotFree]
    exact or_below_succ _ (fun k => value.testBit k && s.slotFree win k) n k
  derr k := by
    rw [ringNamed_win t hw, testBit_setBit_if, h.derr, h.slotFree]
    exact or_below_succ _ (fun k => value.testBit k && !s.slotFree win k) n k

theorem rungBelow_foldl {win : Nat} (hw : win ≠ 64) (value : Nat) (s : State) :
    ∀ n, RungBelow win value n s ((List.range n).foldl (State.ringNamed win value) s)
  | 0 => .refl win value s
  | n + 1 => by
    rw [List.range_succ, List.foldl_append]
    exact (rungBelow_foldl hw value s n).succ hw

/-- DOORBELL reaches all 16 slots. -/
theorem ringSlots_rung {win : Nat} (hw : win ≠ 64) (value : Nat) (s : State) : RungBelow win value 16 s (s.ringSlots win value) := by
  rw [ringSlots_eq]; exact rungBelow_foldl hw value s 16

/-- DOORBELL on a page that exists leaves the queue as it was. -/
theorem exec_doorbell {fn win value : Nat} {s : State} (hfn : fn < 64) (hwin : win < 64) (hv : value < 65536) :
    exec (.doorbell ⟨fn, win⟩ value) s = .next (if s.hostTakes fn win then s.ringSlots win value else s) := by
  refine guarded_next (by simp [Instr.wellFormed, HostPage.wf, hfn, hwin, hv]) ?_
  split
  · obtain ⟨m, hm⟩ := (ringSlots_rung (Nat.ne_of_lt hwin) value s).frame
    rw [hm]
  · rfl

end Sys2Proof.Machine

open Sys2Proof.Machine in
/-- Settles O7: what submitting does at a slot that is not free and at a free one that is not taken yet, and DOORBELL by induction on the slots. -/
theorem doorbellOfBusySlotIsIgnored : Obligations.DoorbellOfBusySlotIsIgnored := by
  unfold Obligations.DoorbellOfBusySlotIsIgnored
  refine ⟨?notFree, ?ignored, ?rung, ?waits⟩
  case notFree =>
    intro i spec c s hm hwf hr hs
    obtain ⟨body, he, hi⟩ := mailbox_exec s hm
    rw [he, ← doorbellError_writeSlot _ hs, ← submit_not_free (body := body) hr hs]
    refine guarded_next (hi.trans hwf) ?_
    obtain ⟨w, hw⟩ := writeSlot_frame s c.win c.slot 0 (slotBytes spec.op c)
    rw [submit_not_free hr hs, doorbellError_pending, hw]
  case ignored =>
    intro fn win value s hfn hwin hv ht
    rw [exec_doorbell hfn hwin hv, ht]
    rfl
  case rung =>
    intro fn win value s hfn hwin hv ht
    have h := ringSlots_rung (Nat.ne_of_lt hwin) value s
    obtain ⟨m, hm⟩ := h.frame
    refine ⟨s.ringSlots win value, by rw [exec_doorbell hfn hwin hv, if_pos ht], by rw [hm], h.other, h.slots, h.ready, h.replies, fun k hk => ?_⟩
    simp only [h.busy, h.rung, h.derr, hk, decide_true, Bool.true_and, and_self]
  case waits =>
    intro i spec c s hm hwf hr hs hf
    obtain ⟨body, he, hi⟩ := mailbox_exec s hm
    obtain ⟨⟨w, m, ht⟩, b, p, hwin⟩ := submit_not_ready_effect (body := body) hr hs hf
    refine ⟨submit spec body c s, he.trans (guarded_next (hi.trans hwf) (by rw [ht])), ?_, ?_, by rw [hwin], by rw [hwin], by rw [ht], by rw [ht]⟩
    · rw [hwin]; exact testBit_setBit_same _ _
    · rw [hwin]; exact testBit_setBit_same _ _
end

section
/-! Steps and queues: what a step does with the front command, that no command of existing units stops or touches the queue, and that a queue whose
commands all name existing units runs to its end. -/

namespace Sys2Proof.Machine

theorem step_cons {s : State} {i : Instr} {rest : List Instr} (h : s.pending = i :: rest) : step s = exec i { s with pending := rest } := by
  simp only [step, h]

theorem step_of_empty {s : State} (h : s.pending = []) : step s = .next s := by
  simp only [step, h]

/-- A command that names existing units answers a next state with the queue as it was. -/
theorem exec_of_wf {i : Instr} (h : i.wellFormed = true) (s : State) : ∃ t, exec i s = .next t ∧ t.pending = s.pending := by
  obtain ⟨t, ht⟩ := exec_guarded i s
  exact ⟨_, ht.trans (guarded_of_wf s h t), rfl⟩

/-- A command that names a unit the device does not have stops with noSuchUnit. -/
theorem exec_of_not_wf {i : Instr} (h : i.wellFormed = false) (s : State) : exec i s = .fault .noSuchUnit := by
  obtain ⟨t, ht⟩ := exec_guarded i s
  exact ht.trans (guarded_of_not_wf s h t)

/-- A step of a well-formed queue answers a next state whose queue is the rest. -/
theorem step_of_queueWellFormed {s : State} (h : QueueWellFormed s) : ∃ t, step s = .next t ∧ t.pending = s.pending.tail := by
  cases hq : s.pending with
  | nil => exact ⟨s, step_of_empty hq, hq⟩
  | cons i rest =>
    obtain ⟨t, ht, hp⟩ := exec_of_wf (h i (by simp [hq])) { s with pending := rest }
    exact ⟨t, (step_cons hq).trans ht, hp⟩

/-- A state whose queue is the rest of a well-formed queue has a well-formed queue. -/
theorem QueueWellFormed.of_tail {s t : State} (h : QueueWellFormed s) (ht : t.pending = s.pending.tail) : QueueWellFormed t :=
  fun i hi => h i (List.mem_of_mem_tail (ht ▸ hi))

theorem run_succ_of_step {n : Nat} {s t : State} (h : step s = .next t) : Sys2Proof.core.run (n + 1) s = Sys2Proof.core.run n t := by
  simp only [Host.Core.run, show Sys2Proof.core.step s = .next t from h]

/-- As many steps as there are commands empty a well-formed queue. -/
theorem run_of_queueWellFormed : ∀ (n : Nat) (s : State), s.pending.length = n → QueueWellFormed s →
    ∃ t, Sys2Proof.core.run n s = .next t ∧ t.pending = []
  | 0, s, hn, _ => ⟨s, rfl, List.length_eq_zero_iff.1 hn⟩
  | n + 1, s, hn, h => by
    obtain ⟨t, ht, hp⟩ := step_of_queueWellFormed h
    rw [run_succ_of_step ht]
    exact run_of_queueWellFormed n t (by rw [hp, List.length_tail, hn, Nat.add_sub_cancel]) (h.of_tail hp)

end Sys2Proof.Machine

open Sys2Proof.Machine in
/-- Settles O1: by the definition of a step. -/
theorem stepRunsFrontCommand : Obligations.StepRunsFrontCommand :=
  ⟨fun _ _ _ => step_cons rfl, fun _ => step_of_empty⟩

open Sys2Proof.Machine in
/-- Settles O2: every meaning runs guarded, and the guard alone stops a command. -/
theorem commandsRunWhereUnitsExist : Obligations.CommandsRunWhereUnitsExist :=
  fun _ s => ⟨fun h => exec_of_wf h s, fun h => exec_of_not_wf h s⟩

open Sys2Proof.Machine in
/-- Settles O3: the step lemma, and by it induction on the number of commands waiting. -/
theorem wellFormedQueueIsInvariant : Obligations.WellFormedQueueIsInvariant := by
  refine ⟨fun s h => ?step, fun s h => run_of_queueWellFormed _ s rfl h⟩
  case step =>
    obtain ⟨t, ht, hp⟩ := step_of_queueWellFormed h
    exact ⟨t, ht, h.of_tail hp, hp⟩

open Sys2Proof.Machine in
/-- Settles O4: nothing is listed in the maps of the state after reset. -/
theorem resetMeetsInvariants : Obligations.ResetMeetsInvariants :=
  ⟨fun _ h => (List.not_mem_nil h).elim, rfl, fun _ => rfl, fun _ _ => rfl, fun _ => rfl, rfl, rfl, SMap.nil_wf _, SMap.nil_wf _⟩
end

section
/-! The checks of R62 in order: version, privilege, header and operands. -/

namespace Sys2Proof.Machine

/-- A client that is not privileged is noted as such. -/
theorem privOf_eq_false {s : State} {c : Cmd} (h : ¬ s.privilegedClient c) : s.privOf c = false := by
  obtain ⟨h0, h64⟩ := not_or.1 h
  simp only [State.privOf, Bool.or_eq_false_iff, Bool.and_eq_false_imp, beq_eq_false_iff_ne, beq_iff_eq]
  exact ⟨h0, fun hw => by simpa [hw] using h64⟩

theorem privOf_eq_true {s : State} {c : Cmd} (h : s.privilegedClient c) : s.privOf c = true := by
  rcases h with h | ⟨h, hp⟩
  · simp [State.privOf, h]
  · simp [State.privOf, h, hp]

/-- An OPEN window and the management bus pass step 4 of R62. -/
theorem windowCheck_of_open {s : State} {op : Nat} {c : Cmd} (h : c.win = 64 ∨ s.winState c.win = .opened) : s.windowCheck op c = none := by
  rcases h with h | h <;> simp [State.windowCheck, h]

/-- Another format version than 1, or an opcode that the firmware does not support, fails first. -/
theorem checkCmd_version {s : State} {spec : OpSpec} {f : Flight} (h : f.cmd.ver ≠ 1 ∨ s.fwSupports spec.op = false) :
    s.checkCmd spec f = some cVERSION := by
  by_cases hv : f.cmd.ver = 1
  · simp [State.checkCmd, hv, h.resolve_left (not_not_intro hv)]
  · simp [State.checkCmd, hv]

/-- A privileged opcode of another client fails before its operands are looked at. -/
theorem checkCmd_not_permitted {s : State} {spec : OpSpec} {f : Flight} (hv : f.cmd.ver = 1) (hf : s.fwSupports spec.op = true)
    (hw : s.windowCheck spec.op f.cmd = none) (hs : spec.priv = true) (hp : f.priv = false) : s.checkCmd spec f = some cNOT_PERMITTED := by
  simp [State.checkCmd, hv, hf, hw, hs, hp]

/-- A client that may issue the opcode, with a fault in the header or the operands. -/
theorem checkCmd_bad_param {s : State} {spec : OpSpec} {f : Flight} (hv : f.cmd.ver = 1) (hf : s.fwSupports spec.op = true)
    (hw : s.windowCheck spec.op f.cmd = none) (hp : (spec.priv || spec.privIf f.cmd) = true → f.priv = true)
    (hb : f.cmd.win = 64 → spec.bus f.cmd = true)
    (h : 8 ≤ f.cmd.flags ∨ f.cmd.rsvd06 ≠ 0 ∨ f.cmd.rsvd0D ≠ 0 ∨ 240 < f.cmd.opLen ∨ spec.len f.cmd = false
      ∨ (f.cmd.ops % 2 ^ (8 * f.cmd.opLen)) &&& spec.rsvd ≠ 0) : s.checkCmd spec f = some cBAD_PARAM := by
  have hpriv : ((spec.priv || spec.privIf f.cmd) && !f.priv) = false := by
    cases hq : (spec.priv || spec.privIf f.cmd)
    · rfl
    · rw [hp hq]; rfl
  have hbus : (f.cmd.win == 64 && !spec.bus f.cmd) = false := by
    by_cases h64 : f.cmd.win = 64
    · simp [hb h64]
    · simp [h64]
  simp only [State.checkCmd, hv, hf, hw, hpriv, hbus, ne_eq, not_true_eq_false, Bool.not_true, Bool.false_eq_true, if_false]
  split
  · rfl
  next hhdr =>
    simp only [not_or, not_not] at hhdr
    obtain ⟨hflags, h06, h0D, hlen⟩ := hhdr
    have hfault : spec.len f.cmd = false ∨ (f.cmd.ops % 2 ^ (8 * f.cmd.opLen)) &&& spec.rsvd ≠ 0 := by
      rcases h with h | h | h | h | h
      · omega
      · exact absurd h06 h
      · exact absurd h0D h
      · exact absurd h hlen
      · exact h
    split
    · rfl
    next hl => rw [if_pos (hfault.resolve_left (by simpa using hl))]

end Sys2Proof.Machine

open Sys2Proof.Machine in
/-- Settles O5: each failure is the first of R62's checks that fails, and a check that fails answers at once. -/
theorem headerChecksRunInOrder : Obligations.HeaderChecksRunInOrder := by
  unfold Obligations.HeaderChecksRunInOrder
  refine ⟨⟨?version, ?privilege⟩, ?header⟩
  case version =>
    intro i spec c s hm ht h
    exact submit_fails hm ht (by decide) (checkCmd_version (h.imp_right fun h => by simpa using h))
  case privilege =>
    intro i spec c s hm hs ht hv hf hw hp
    exact submit_fails hm ht (by decide) (checkCmd_not_permitted hv (by simpa using hf) (windowCheck_of_open (c := c) (by simpa using hw)) hs (privOf_eq_false hp))
  case header =>
    intro i spec c s hm ht hv hf hw hp hb h
    exact submit_fails hm ht (by decide)
      (checkCmd_bad_param hv (by simpa using hf) (windowCheck_of_open (c := c) (by simpa using hw)) (fun hq => privOf_eq_true (hp hq)) hb h)
end

section
/-! DARK and RECOVERY (R434, R82, R289): a command that arrives in DARK is held and ends it, and what W00 and WINDOW_OPEN answer in RECOVERY. -/

namespace Sys2Proof.Machine

/-! ### A command that Aipex takes -/

/-- The command in progress that a taken command is before it starts. -/
abbrev State.newFlight (s : State) (op : Nat) (c : Cmd) : Flight := { s.flightOf op c with started := false }

/-- A command submitted to a free slot while Aipex takes doorbells is taken: it joins the commands in progress, and its slot is busy. -/
theorem submit_taken {spec : OpSpec} {body : Body} {c : Cmd} {s : State} (hr : s.reachable c.win = true) (hs : s.slotFree c.win c.slot = true)
    (hf : s.ctl.fwReady = true) : ∃ r : State, submit spec body c s = tryFlight spec body (s.newFlight spec.op c) r ∧ r = { s with ctl := r.ctl }
      ∧ r.ctl.flights = s.ctl.flights ++ [s.newFlight spec.op c] ∧ (r.win c.win).busy.testBit c.slot = true := by
  set t := hostOverlay spec.op c (s.writeSlot c.win c.slot 0 (slotBytes spec.op c))
  obtain ⟨w, m, ht⟩ : ∃ w m, t = { s with ctl := { s.ctl with wins := w, hostMem := m } } := by
    obtain ⟨w, hw⟩ := writeSlot_frame s c.win c.slot 0 (slotBytes spec.op c)
    obtain ⟨m, hm⟩ := hostOverlay_frame (s.writeSlot c.win c.slot 0 (slotBytes spec.op c)) spec.op c
    exact ⟨w, m, by rw [show t = _ from hm, hw]⟩
  set b := c.win == 64 && s.busPrivileged
  have hfl : ((t.ring' c.win c.slot b).take spec.op c).1 = s.newFlight spec.op c :=
    take_ring'_flight s (newTicket_congr (by rw [ht]) (by rw [ht])) rfl
  refine ⟨((t.ring' c.win c.slot b).take spec.op c).2, ?_, ?_, ?_, ?_⟩
  · rw [← hfl]
    simp only [submit, hr, hs, hf, Bool.not_true, Bool.false_eq_true, if_false, if_true]
    rfl
  · rw [ht]; rfl
  · rw [← hfl, show s.ctl.flights = t.ctl.flights by rw [ht]]
    rfl
  · rw [State.win_take, if_pos rfl, State.win_ring', if_pos rfl]
    exact testBit_setBit_same _ _

/-! ### POWER_HELD -/

/-- A command that arrives in DARK, at rest, is answered POWER_HELD with FINAL = 0 and held; the exit from DARK starts. -/
theorem powerHold_in_dark {f : Flight} {r : State} (hfl : r.flight? f.ticket = some f) (hmem : f ∈ r.ctl.flights) (hh : f.held = false)
    (hp : r.powerState = 2) (hstep : r.pw.step = .none) :
    (SMap.get replyDef ((r.powerHold f).win f.cmd.win).replies f.cmd.slot = r.replyFor f false cPOWER_HELD 0 0)
      ∧ ((r.powerHold f).win f.cmd.win).busy = (r.win f.cmd.win).busy ∧ { f with held := true } ∈ (r.powerHold f).ctl.flights
      ∧ (r.powerHold f).pw.step = .exiting ∧ (r.powerHold f).getP P.PW_STATE 0 = 0x10102
      ∧ r.powerHold f = { r with ctl := (r.powerHold f).ctl, pw := (r.powerHold f).pw, params := (r.powerHold f).params } := by
  set u : State := { r.writeReply f.cmd.win f.cmd.slot (r.replyFor f false cPOWER_HELD 0 0) with
    ctl := { (r.writeReply f.cmd.win f.cmd.slot (r.replyFor f false cPOWER_HELD 0 0)).ctl with
      flights := r.ctl.flights.map fun g => if g.ticket = f.ticket then { g with held := true } else g } } with hu
  have ht : r.powerHold f = u.beginDarkExit 1 := by
    have hdark : (u.powerState == 2 && u.pw.step == .none) = true := by
      rw [show u.powerState = r.powerState from rfl, show u.pw = r.pw from rfl, hp, hstep]; rfl
    simp only [State.powerHold, hh, Bool.false_eq_true, if_false, State.interimReply, hfl]
    exact if_pos hdark
  have hwin : (u.beginDarkExit 1).win f.cmd.win = (r.writeReply f.cmd.win f.cmd.slot (r.replyFor f false cPOWER_HELD 0 0)).win f.cmd.win := rfl
  have hpw : (u.beginDarkExit 1).getP P.PW_STATE 0 = 0x10102 := by simp [State.beginDarkExit]
  rw [ht, hwin, State.writeReply, State.win_setWin_same]
  exact ⟨by simp only [SMap.get_set_same], rfl, List.mem_map.2 ⟨f, hmem, if_pos rfl⟩, rfl, hpw, rfl⟩

/-- The command that was taken last is the one with its ticket. -/
theorem flight?_newFlight {s r : State} {op : Nat} {c : Cmd} (h : r.ctl.flights = s.ctl.flights ++ [s.newFlight op c]) :
    r.flight? (s.newFlight op c).ticket = some (s.newFlight op c) := by
  rw [State.flight?, h, List.find?_append, List.find?_eq_none.2]
  · simp
  · intro g hg
    have := lt_newTicket s hg
    simp only [State.flightOf, beq_iff_eq]; omega

/-! ### RECOVERY -/

/-- The boot code supports every opcode. -/
theorem fwSupports_of_recovery {s : State} (h : s.ctl.boot = .recoveryImage ∨ s.ctl.boot = .recoveryDram) (op : Nat) : s.fwSupports op = true := by
  rcases h with h | h <;> simp [State.fwSupports, State.fwCurrent, h]

/-- In RECOVERY W00 rejects the opcodes that R82 and R289 do not name. -/
theorem windowCheck_recovery_rejects {s : State} {op : Nat} {c : Cmd} (hw : c.win = 0)
    (h : s.ctl.boot = .recoveryImage ∧ op ∉ [0x0001, 0x0003, 0x0009, 0x0030, 0x0032] ∧ ¬ (op = 0x0031 ∧ c.ops.testBit 0 = true)
      ∨ s.ctl.boot = .recoveryDram ∧ op ∉ [0x0001, 0x0003, 0x0009, 0x0032]) : s.windowCheck op c = some cNOT_PERMITTED := by
  rcases h with ⟨hb, ho, hact⟩ | ⟨hb, ho⟩
  · have hrej : s.recoveryAccepts op c = false := by
      simp only [State.recoveryAccepts, hb, if_true, Bool.or_eq_false_iff]
      exact ⟨by simpa using ho, by simpa using hact⟩
    simp [State.windowCheck, State.winState, hw, hb, hrej]
  · have hrej : s.recoveryAccepts op c = false := by
      simpa [State.recoveryAccepts, hb] using ho
    simp [State.windowCheck, State.winState, hw, hb, hrej]

/-- In RECOVERY no window but W00 can be opened. -/
theorem windowCheck_recovery_windowOpen {s : State} {c : Cmd} (h0 : c.win ≠ 0) (h64 : c.win ≠ 64)
    (hb : s.ctl.boot = .recoveryImage ∨ s.ctl.boot = .recoveryDram) : s.windowCheck 0x0005 c = some cNOT_PERMITTED := by
  simp [State.windowCheck, State.winState, h0, h64, hb]

end Sys2Proof.Machine

open Sys2Proof.Machine in
/-- Settles O8: a taken command is held by the power state, and step 4 of R62 rejects in RECOVERY. -/
theorem darkHoldsAndRecoveryRejects : Obligations.DarkHoldsAndRecoveryRejects := by
  unfold Obligations.DarkHoldsAndRecoveryRejects
  refine ⟨?dark, ?w00, ?windowOpen⟩
  case dark =>
    intro i spec c s hm hwf hr hs hf hp hstep hex hset
    obtain ⟨body, he, hi⟩ := mailbox_exec s hm
    obtain ⟨r, hsub, hshape, hflights, hbusy⟩ := submit_taken (spec := spec) (body := body) hr hs hf
    have hdark : r.powerState = 2 := by
      rw [hshape]
      exact congrArg (· % 256) hp
    have hstep' : r.pw.step = .none := by rw [hshape]; exact hstep
    have hholds : r.powerHolds (s.newFlight spec.op c) = true := by
      simp only [State.powerHolds, hdark, hex, hstep', State.flightOf, beq_self_eq_true, Bool.or_true, Bool.not_false, Bool.true_and, Bool.not_eq_true',
        Bool.and_eq_false_imp, Bool.and_eq_true, beq_iff_eq]
      exact fun h => absurd h hset
    have ht : tryFlight spec body (s.newFlight spec.op c) r = r.powerHold (s.newFlight spec.op c) := if_pos hholds
    obtain ⟨hreply, hb, hmem, hexit, hpw, hframe⟩ := powerHold_in_dark (flight?_newFlight hflights) (by simp [hflights]) rfl hdark hstep'
    refine ⟨r.powerHold (s.newFlight spec.op c), ?_, ?_, ?_, ?_, ?_, ⟨_, hmem, rfl, rfl, rfl, rfl⟩, hexit, hpw, ?_⟩
    · rw [he, hsub, ht]
      exact guarded_next (hi.trans hwf) (by rw [hframe, hshape])
    · exact congrArg Reply.final hreply
    · exact (congrArg (·.status % 256) hreply).trans (statusWord_code _ _ (by decide))
    · exact congrArg Reply.tag hreply
    · exact (congrArg (·.testBit c.slot) hb).trans hbusy
    · rw [hframe, hshape]
  case w00 =>
    intro i spec c s hm ht hv hw h
    have hb : s.ctl.boot = .recoveryImage ∨ s.ctl.boot = .recoveryDram := h.imp And.left And.left
    exact submit_fails hm ht (by decide) (checkCmd_of_windowCheck hv ((s.entered_fwSupports spec.op c spec.op).trans (fwSupports_of_recovery hb _))
      (windowCheck_recovery_rejects (c := c) hw (by simpa using h)))
  case windowOpen =>
    intro c s ht hv h0 h64 hb
    exact submit_fails (i := .windowOpen c) (spec := windowOpenSpec) rfl ht (by decide) (checkCmd_of_windowCheck hv
      ((s.entered_fwSupports _ c _).trans (fwSupports_of_recovery hb _)) (windowCheck_recovery_windowOpen (c := c) h0 h64 (by simpa using hb)))
end

section
/-! The generic commands (Table 2-9): what a meaning that only reads answers, and the view that ACK_BARKER leaves. -/

namespace Sys2Proof.Machine

/-- A command of existing units whose meaning comes to `u`, which has the queue of the state before. -/
theorem exec_next {i : Instr} {s t u : State} (hx : exec i s = guarded i s t) (hi : i.wellFormed = true) (ht : t = u) (hp : u.pending = s.pending) :
    exec i s = .next u := by
  rw [hx, ht]; exact guarded_next hi hp

/-! ### Views after an update -/

theorem modAt_getD {α : Type} (f : α → α) (d : α) : ∀ (n v : Nat) (l : List α),
    (modAt f n l).getD v d = if v = n ∧ n < l.length then f (l.getD v d) else l.getD v d
  | _, v, [] => by simp [modAt]
  | 0, 0, a :: r => by simp [modAt]
  | 0, v + 1, a :: r => by simp [modAt]
  | n + 1, 0, a :: r => by simp [modAt]
  | n + 1, v + 1, a :: r => by simpa [modAt] using modAt_getD f d n v r

theorem State.view_modView (s : State) (f : View → View) (n v : Nat) :
    (s.modView f n).view v = if v = n ∧ n < s.ctl.views.length then f (s.view v) else s.view v :=
  modAt_getD f {} n v s.ctl.views

theorem State.view_mapViews {s : State} {v : Nat} (h : v < s.ctl.views.length) (f : View → View) : (s.mapViews f).view v = f (s.view v) := by
  simp [State.view, State.mapViews, List.getD, h]

theorem State.view_mapViews_none {s : State} {v : Nat} (h : ¬ v < s.ctl.views.length) (f : View → View) : (s.mapViews f).view v = s.view v := by
  simp [State.view, State.mapViews, List.getD, Nat.not_lt.1 h]

/-- Advancing the sequence number keeps the latched bits. -/
@[simp] theorem View.advance_fault (now : Nat) (v : View) : (v.advance now).fault = v.fault := by unfold View.advance; split <;> rfl
@[simp] theorem View.advance_config (now : Nat) (v : View) : (v.advance now).config = v.config := by unfold View.advance; split <;> rfl
@[simp] theorem View.advance_fwNotice (now : Nat) (v : View) : (v.advance now).fwNotice = v.fwNotice := by unfold View.advance; split <;> rfl

/-! ### Meanings whose effect does not depend on the command's own record -/

/-- A meaning `F` that neither reads nor changes the control plane's record of the command runs on it as on the state before. -/
theorem runs_of_comm {s : State} {op : Nat} {c : Cmd} (F : State → State)
    (hc : ∀ w m k f, F { s with ctl := { s.ctl with wins := w, hostMem := m, ticket := k, flights := f } }
      = { F s with ctl := { (F s).ctl with wins := w, hostMem := m, ticket := k, flights := f } })
    (hw : (F s).ctl.wins = s.ctl.wins) (hm : (F s).ctl.hostMem = s.ctl.hostMem) (hf : (F s).ctl.flights = s.ctl.flights)
    (hd : (F s).aipexDown = s.aipexDown) : Runs s op c (F s) (F (s.entered op c)) := by
  refine ⟨?_, hw, hm, hf, hd⟩
  obtain ⟨w, m, k, f, h⟩ := entered_frame s op c
  rw [h, hc]

/-! ### ACK_BARKER -/

/-- The view after ACK_BARKER of `c` with `newest` as the newest fault's sequence number. -/
def View.acked (c : Cmd) (newest now : Nat) (v : View) : View :=
  let x : View := { v with
    fault := v.fault && !(c.f 2 1 == 1 && c.f 32 32 == newest), config := v.config && c.f 4 1 == 0, fwNotice := v.fwNotice && c.f 7 1 == 0 }
  if x = v then v else x.advance now

theorem View.acked_flags (c : Cmd) (newest now : Nat) (v : View) :
    (v.acked c newest now).fault = (v.fault && !(c.f 2 1 == 1 && c.f 32 32 == newest))
      ∧ (v.acked c newest now).config = (v.config && c.f 4 1 == 0) ∧ (v.acked c newest now).fwNotice = (v.fwNotice && c.f 7 1 == 0) := by
  unfold View.acked
  dsimp only
  split
  next h => exact ⟨(congrArg View.fault h).symm, (congrArg View.config h).symm, (congrArg View.fwNotice h).symm⟩
  · simp

/-- ACK_BARKER acts on the view of its window only. -/
theorem ackBarkerBody_eq (k : Call) (s : State) :
    ackBarkerBody k s = (s.modView (fun _ => (s.view k.c.win).acked k.c s.newestFault s.now) k.c.win, .ok) := rfl

/-- A view that is not there reads with no bit latched, as ACK_BARKER would leave it. -/
theorem view_acked (s : State) (c : Cmd) :
    let x := (s.modView (fun _ => (s.view c.win).acked c s.newestFault s.now) c.win).view c.win
    x.fault = ((s.view c.win).fault && !(c.f 2 1 == 1 && c.f 32 32 == s.newestFault))
      ∧ x.config = ((s.view c.win).config && c.f 4 1 == 0) ∧ x.fwNotice = ((s.view c.win).fwNotice && c.f 7 1 == 0) := by
  dsimp only
  rw [State.view_modView]
  by_cases h : c.win < s.ctl.views.length
  · rw [if_pos ⟨rfl, h⟩]; exact View.acked_flags ..
  · have hdef : s.view c.win = {} := by simp [State.view, List.getD, Nat.not_lt.1 h]
    rw [if_neg (fun hc => h hc.2), hdef]; exact ⟨rfl, rfl, rfl⟩

end Sys2Proof.Machine

open Sys2Proof.Machine in
/-- Settles O9: five meanings only read, and ACK_BARKER changes the view of its window. -/
theorem genericCommandsComplete : Obligations.GenericCommandsComplete := by
  unfold Obligations.GenericCommandsComplete
  refine ⟨?ping, ?fence, ?identify, ?maskGet, ?faultLogRead, ?ackBarker⟩
  case ping =>
    intro c s ha ho
    exact Runs.completes (i := .ping c) (spec := pingSpec) (body := pingBody) ha.1.1 ha (by simp [pingSpec, ho.1]) (by simp [pingSpec])
      (fun _ => rfl) rfl (by decide) (entered_runs s _ c) rfl
  case fence =>
    intro c s ha ho
    exact Runs.completes (i := .fence c) (spec := fenceSpec) (body := fenceBody) ha.1.1 ha (by simp [fenceSpec, ho.1]) (by simp [fenceSpec])
      (fun _ => rfl) rfl (by decide) (entered_runs s _ c) rfl
  case identify =>
    intro c s ha ho
    obtain ⟨t, he, hans, hcmd⟩ := Runs.completes (i := .identify c) (spec := identifySpec) (body := identifyBody) ha.1.1 ha
      (by simp [identifySpec, ho.1]) (by simp [identifySpec]) (fun _ => rfl) rfl (by decide) (entered_runs s _ c) rfl
    exact ⟨t, he, hcmd, by simpa [Nat.shiftLeft_eq, identifySpec] using hans⟩
  case maskGet =>
    intro c s ha ho hw
    obtain ⟨t, he, hans, hcmd⟩ := Runs.completes (i := .eventMaskGet c) (spec := eventMaskGetSpec) (body := eventMaskGetBody) ha.1.1 ha
      (by simp [eventMaskGetSpec, ho.1]) (by simp [eventMaskGetSpec]) (fun h => absurd h hw) rfl (by decide) (entered_runs s _ c) rfl
    exact ⟨t, he, by simpa [State.entered_win_same, eventMaskGetSpec] using hans, hcmd⟩
  case faultLogRead =>
    intro c s ha ho
    obtain ⟨t, he, hans, hcmd⟩ := Runs.completes (i := .faultLogRead c) (spec := faultLogReadSpec) (body := faultLogReadBody) ha.1.1 ha
      (by simp [faultLogReadSpec, ho.1]) (by simp [faultLogReadSpec]) (fun _ => rfl) rfl (by decide) (entered_runs s _ c) rfl
    exact ⟨t, he, hcmd, by simpa [faultLogReadSpec, FaultEntry.bytes] using hans⟩
  case ackBarker =>
    intro c s ha ho
    let F : State → State := fun t => t.modView (fun _ => (t.view c.win).acked c t.newestFault t.now) c.win
    obtain ⟨t, he, hans, hcmd⟩ := Runs.completes (i := .ackBarker c) (spec := ackBarkerSpec) (body := ackBarkerBody) ha.1.1 ha
      (by simp [ackBarkerSpec, ho.1]) (by simpa [ackBarkerSpec, ho.1] using ho.2) (fun _ => rfl) rfl (by decide)
      (runs_of_comm F (fun _ _ _ _ => rfl) rfl rfl rfl rfl) rfl
    have hview : ∀ v, t.view v = (F s).view v := fun v => by simp only [State.view]; rw [hcmd.1]
    obtain ⟨hfault, hconfig, hnotice⟩ := view_acked s c
    refine ⟨t, (F s).ctl.views, he, hans, hcmd, fun w hw => ?_, ?_, ?_, ?_⟩
    · rw [hview, State.view_modView, if_neg (fun h => hw h.1)]
    · rw [hview]; exact hconfig
    · rw [hview]; exact hnotice
    · rw [hview]; exact hfault
end

section
/-! The fault log (R468) and replies that are deferred (R58). -/

namespace Sys2Proof.Machine

/-! ### What an event record leaves of the views -/

/-- The latched bits of every view are the same. -/
def SameFlags (s t : State) : Prop :=
  ∀ v, (t.view v).fault = (s.view v).fault ∧ (t.view v).config = (s.view v).config ∧ (t.view v).fwNotice = (s.view v).fwNotice

theorem SameFlags.refl (s : State) : SameFlags s s := fun _ => ⟨rfl, rfl, rfl⟩

theorem SameFlags.trans {s t u : State} (h : SameFlags s t) (g : SameFlags t u) : SameFlags s u := fun v =>
  ⟨(g v).1.trans (h v).1, (g v).2.1.trans (h v).2.1, (g v).2.2.trans (h v).2.2⟩

theorem sameFlags_advance (s : State) (n now : Nat) : SameFlags s (s.modView (View.advance now) n) := fun v => by
  rw [State.view_modView]; split <;> simp

theorem sameFlags_advanceWin (s : State) (n : Nat) : SameFlags s (s.advanceWin n) := by
  unfold State.advanceWin
  split
  · exact (sameFlags_advance s n _).trans (sameFlags_advance _ 64 _)
  · exact sameFlags_advance s n _

theorem sameFlags_writeRecord (s : State) (n : Nat) (e : Event) : SameFlags s (s.writeRecord n e).1 := by
  unfold State.writeRecord
  dsimp only
  split
  · exact .refl s
  · exact sameFlags_advanceWin (s.setWin n _) n

theorem sameFlags_postTo (s : State) (n : Nat) (e : Event) : SameFlags s (s.postTo n e) := by
  unfold State.postTo
  dsimp only
  split
  · exact .refl s
  · split
    · split
      · exact sameFlags_writeRecord s n e
      · exact sameFlags_writeRecord s n e
    · exact .refl s

theorem sameFlags_foldl {f : State → Nat → State} (h : ∀ t n, SameFlags t (f t n)) : ∀ (l : List Nat) (s : State), SameFlags s (l.foldl f s)
  | [], s => .refl s
  | n :: l, s => (h s n).trans (sameFlags_foldl h l (f s n))

theorem sameFlags_post (s : State) (a b c d : Nat) : SameFlags s (s.post a b c d) := by
  refine sameFlags_foldl (fun t n => ?_) _ s
  split
  · exact sameFlags_postTo t n _
  · exact .refl t

/-! ### The fault log -/

/-- The newest 64 of a log that grows by one entry: those kept before end the log before. -/
theorem drop_concat_kept {α : Type} (l : List α) (e : α) (n : Nat) (hn : 0 < n) :
    (l ++ [e]).drop ((l ++ [e]).length - n) = l.drop (l.length + 1 - n) ++ [e] := by
  rw [List.length_append, List.length_singleton, List.drop_append_of_le_length (by omega)]

/-- Logging a fault: the log, its next sequence number, the latched bits and the windows. -/
theorem logFault_effect (s : State) (cls idx code detail : Nat) :
    let t := s.logFault cls idx code detail
    t.ctl.faultLog = s.ctl.faultLog.drop (s.ctl.faultLog.length + 1 - 64)
        ++ [{ seq := s.ctl.faultNext, time := s.now, cls := cls, idx := idx, code := code, detail := detail }]
      ∧ t.ctl.faultNext = (s.ctl.faultNext + 1) % 2 ^ 32 ∧ (∀ v, v < s.ctl.views.length → (t.view v).fault = true)
      ∧ (∀ v, (t.view v).config = (s.view v).config ∧ (t.view v).fwNotice = (s.view v).fwNotice) ∧ RingsOnly s t ∧ OnlyControl s t := by
  dsimp only
  unfold State.logFault
  dsimp only
  set x : State := { s with ctl := { s.ctl with
    faultLog := (s.ctl.faultLog ++ [(⟨s.ctl.faultNext, s.now, cls, idx, code, detail⟩ : FaultEntry)]).drop
      ((s.ctl.faultLog ++ [(⟨s.ctl.faultNext, s.now, cls, idx, code, detail⟩ : FaultEntry)]).length - 64)
    faultNext := wrap32 (s.ctl.faultNext + 1) } } with hx
  have hflags := sameFlags_post x.latchFault 0x0D cls idx (s.ctl.faultNext + at' 32 code)
  refine ⟨?_, ?_, fun v hv => ?_, fun v => ?_, ?_, ?_⟩
  · rw [State.post_ctl_faultLog]
    exact drop_concat_kept s.ctl.faultLog _ 64 (by decide)
  · rw [State.post_ctl_faultNext]; rfl
  · rw [(hflags v).1, State.latchFault, State.view_mapViews (s := x) hv]; simp
  · rw [(hflags v).2.1, (hflags v).2.2, State.latchFault]
    by_cases hv : v < s.ctl.views.length
    · rw [State.view_mapViews (s := x) hv]; simp [hx, State.view]
    · rw [State.view_mapViews_none (s := x) hv]; exact ⟨rfl, rfl⟩
  · exact ringsOnly_postEvent x.latchFault _
  · obtain ⟨w, v, m, a, h⟩ := eventOnly_post x.latchFault 0x0D cls idx (s.ctl.faultNext + at' 32 code)
    rw [OnlyControl, h]; rfl

end Sys2Proof.Machine

open Sys2Proof Sys2Proof.Machine in
/-- Settles O13: what logging a fault does, and the reply that DEFER_TIMEOUT writes. -/
theorem faultLogAndDeferredReplies : Obligations.FaultLogAndDeferredReplies := by
  unfold Obligations.FaultLogAndDeferredReplies
  refine ⟨?poisoned, ?deferred, ?notRung⟩
  case poisoned =>
    intro o s
    obtain ⟨hlog, hnext, hfault, hother, hrings, hctl⟩ := logFault_effect s 0xE (o / 0x10000 % 64) 0x0002 o
    refine ⟨_, exec_next (i := .poisonedTlp o) rfl rfl rfl (by rw [hctl]), ⟨s.ctl.faultLog.take (s.ctl.faultLog.length + 1 - 64), ?_, ?_⟩, ?_, hnext, hfault,
      hother, fun w => by rw [hrings w]; exact ⟨rfl, rfl, rfl⟩, hctl⟩
    · rw [hlog, List.dropLast_concat, List.take_append_drop]
    · rw [hlog, List.getLast?_concat]
    · rw [hlog, List.length_append, List.length_drop, List.length_singleton]; omega
  case deferred =>
    intro w k s hwk hr
    have he : exec (.deferTimeout w k) s = .next (s.writeReply w k (s.replyFor
        { ticket := 0, opcode := (s.slotCmd w k).1, cmd := (s.slotCmd w k).2, priv := false } false cDEFERRED 0 0)) :=
      exec_next (i := .deferTimeout w k) rfl (by simpa [Instr.wellFormed] using hwk) (if_pos hr) rfl
    refine ⟨_, he, ?_⟩
    simp only [State.writeReply, State.win_setWin_same, SMap.get_set_same, State.replyFor]
    exact ⟨trivial, statusWord_code _ _ (by decide), trivial, rfl, trivial, fun j hj => SMap.get_set_other _ _ hj _, rfl⟩
  case notRung =>
    intro w k s hwk hr
    exact exec_next (i := .deferTimeout w k) rfl (by simpa [Instr.wellFormed] using hwk) (if_neg (by simp [hr])) rfl
end

section
/-! Writes to a window's registers and command slots (R49 to R51, R55, R76). -/

namespace Sys2Proof.Machine

/-! ### Little-endian numbers -/

theorem ofLE_leBytes : ∀ (n v : Nat), ofLE (leBytes v n) = v % 256 ^ n
  | 0, v => by simp [leBytes, ofLE, Nat.mod_one]
  | n + 1, v => by
    rw [leBytes, ofLE, ofLE_leBytes n, BitVec.toNat_ofNat, show (256 : Nat) ^ (n + 1) = 256 * 256 ^ n from Nat.pow_succ', Nat.mod_mul]

@[simp] theorem leBytes_length : ∀ (n v : Nat), (leBytes v n).length = n
  | 0, _ => rfl
  | n + 1, v => by simp [leBytes, leBytes_length n]

/-! ### A write of a whole aligned register -/

theorem execRegisterWrite_guarded (fn win o : Nat) (l : List (Option Byte)) (s : State) :
    ∃ x, exec (.registerWrite fn win o l) s = guarded (.registerWrite fn win o l) s x ∧ x = (if !s.hostTakes fn win then s
      else if o < 0x1000 then s.writeSlots win o l
      else if 0x2000 ≤ o ∧ o < 0x4000 ∧ l.all Option.isSome = true then
        if l.length = 4 ∧ o % 4 = 0 then s.writeReg win o (ofLE (l.filterMap id))
        else if l.length = 8 ∧ o % 8 = 0 then
          (s.writeReg win o (ofLE (l.filterMap id) % 0x100000000)).writeReg win (o + 4) (ofLE (l.filterMap id) / 0x100000000)
        else s
      else s) := ⟨_, rfl, rfl⟩

/-- A register write of existing units whose meaning comes to `u`, which has the queue of the state before. -/
theorem registerWrite_next {fn win o : Nat} {l : List (Option Byte)} {s u : State} (hfn : fn < 64) (hwin : win < 64) (ho : o + l.length ≤ 0x10000)
    (hu : (if !s.hostTakes fn win then s
      else if o < 0x1000 then s.writeSlots win o l
      else if 0x2000 ≤ o ∧ o < 0x4000 ∧ l.all Option.isSome = true then
        if l.length = 4 ∧ o % 4 = 0 then s.writeReg win o (ofLE (l.filterMap id))
        else if l.length = 8 ∧ o % 8 = 0 then
          (s.writeReg win o (ofLE (l.filterMap id) % 0x100000000)).writeReg win (o + 4) (ofLE (l.filterMap id) / 0x100000000)
        else s
      else s) = u) (hp : u.pending = s.pending) : exec (.registerWrite fn win o l) s = .next u := by
  obtain ⟨x, hx, rfl⟩ := execRegisterWrite_guarded fn win o l s
  exact exec_next hx (by simp [Instr.wellFormed, hfn, hwin, ho]) hu hp

/-- A whole aligned 32-bit register write through the window's function. -/
theorem registerWrite_32 {fn win o v : Nat} {s u : State} (hfn : fn < 64) (hwin : win < 64) (ht : s.hostTakes fn win = true) (hv : v < 2 ^ 32)
    (h2 : 0x2000 ≤ o) (h4 : o < 0x4000) (ho : o % 4 = 0) (hu : s.writeReg win o v = u) (hp : u.pending = s.pending) :
    exec (.registerWrite fn win o ((leBytes v 4).map some)) s = .next u := by
  refine registerWrite_next hfn hwin (by simp; omega) ?_ hp
  have hval : ofLE (((leBytes v 4).map some).filterMap id) = v := by
    rw [List.filterMap_map]
    simp only [Function.comp_def, id_eq, List.filterMap_some, ofLE_leBytes]
    exact Nat.mod_eq_of_lt hv
  rw [hval, ht, ← hu]
  have hall : ((leBytes v 4).map some).all Option.isSome = true := by simp
  simp only [Bool.not_true, Bool.false_eq_true, if_false, h2, h4, hall, and_self, if_true, List.length_map, leBytes_length, ho,
    show ¬ o < 0x1000 by omega]

/-- Through another function than the window's, nothing happens. -/
theorem registerWrite_ignored {fn win o : Nat} {l : List (Option Byte)} {s : State} (hfn : fn < 64) (hwin : win < 64) (ho : o + l.length ≤ 0x10000)
    (ht : s.hostTakes fn win = false) : exec (.registerWrite fn win o l) s = .next s :=
  registerWrite_next hfn hwin ho (by rw [ht]; rfl) rfl

/-! ### EVENT_TAIL -/

/-- Reviewing the event quota posts an event at most, and moves no tail. -/
theorem reviewEventQuota_keeps (s : State) (n : Nat) :
    RingsOnly s (s.reviewEventQuota n) ∧ s.reviewEventQuota n = { s with ctl := (s.reviewEventQuota n).ctl, params := (s.reviewEventQuota n).params } := by
  unfold State.reviewEventQuota
  dsimp only
  split
  · exact ⟨.refl s, rfl⟩
  · set x := s.setP P.EVENT_OVER_QUOTA n (b2n (decide (s.getP P.EVENT_QUOTA n < (s.win n).count)))
    refine ⟨ringsOnly_postEvent x _, ?_⟩
    obtain ⟨w, v, m, a, h⟩ := eventOnly_post x 0x09 0xE n (b2n (decide (s.getP P.EVENT_QUOTA n < (s.win n).count)) + at' 8 1 + at' 16 0)
    rw [State.quotaChange, h]; rfl

/-- A value within the unconsumed span becomes EVENT_TAIL. -/
theorem writeTail_taken {s : State} {win v : Nat} (h1 : v < 2 ^ (s.win win).sizeLog2)
    (h2 : (v + 2 ^ (s.win win).sizeLog2 - (s.win win).tail) % 2 ^ (s.win win).sizeLog2 ≤ (s.win win).count) :
    ((s.writeTail win v).win win).tail = v ∧ ((s.writeTail win v).win win).tailRejects = (s.win win).tailRejects
      ∧ (∀ w, w ≠ win → ((s.writeTail win v).win w).tail = (s.win w).tail)
      ∧ s.writeTail win v = { s with ctl := (s.writeTail win v).ctl, params := (s.writeTail win v).params } := by
  set x := s.setWin win { s.win win with tail := v } with hx
  obtain ⟨y, hy, hwins, hframe⟩ : ∃ y : State, s.writeTail win v = y.reviewEventQuota win ∧ (∀ n, y.win n = x.win n) ∧ y = { s with ctl := y.ctl } := by
    refine ⟨x.notePending (s.eventPending win) win, ?_, fun n => ?_, ?_⟩
    · simp only [State.writeTail, h1, h2, and_self, if_true, State.notePending, hx]
    · obtain ⟨w, hw⟩ := notePending_frame x (s.eventPending win) win
      rw [hw]; rfl
    · obtain ⟨w, hw⟩ := notePending_frame x (s.eventPending win) win
      rw [hw]; rfl
  obtain ⟨hrings, hrev⟩ := reviewEventQuota_keeps y win
  rw [hy]
  refine ⟨?_, ?_, fun w hw => ?_, ?_⟩
  · rw [hrings win, hwins, hx, State.win_setWin_same]
  · rw [hrings win, hwins, hx, State.win_setWin_same]
  · rw [hrings w, hwins, hx, State.win_setWin, if_neg hw]
  · rw [hrev]
    generalize (y.reviewEventQuota win).ctl = a, (y.reviewEventQuota win).params = b
    rw [hframe]

/-- Any other value leaves EVENT_TAIL and counts a rejection. -/
theorem writeTail_rejected {s : State} {win v : Nat} (h : 2 ^ (s.win win).sizeLog2 ≤ v
      ∨ (s.win win).count < (v + 2 ^ (s.win win).sizeLog2 - (s.win win).tail) % 2 ^ (s.win win).sizeLog2) :
    s.writeTail win v = s.setWin win { s.win win with tailRejects := min ((s.win win).tailRejects + 1) 0xFFFFFFFF } := by
  unfold State.writeTail
  exact if_neg (by omega)

theorem eventTailWrite_next {fn win v : Nat} {s u : State} (hfn : fn < 64) (hwin : win < 64) (hv : v < 65536)
    (hu : (if s.hostTakes fn win then s.writeTail win v else s) = u) (hp : u.pending = s.pending) : exec (.eventTailWrite ⟨fn, win⟩ v) s = .next u :=
  exec_next (i := .eventTailWrite ⟨fn, win⟩ v) rfl (by simp [Instr.wellFormed, HostPage.wf, hfn, hwin, hv]) hu hp

/-- Writing EVENT_TAIL leaves the queue. -/
theorem writeTail_pending (s : State) (win v : Nat) : (s.writeTail win v).pending = s.pending := by
  by_cases h : v < 2 ^ (s.win win).sizeLog2 ∧ (v + 2 ^ (s.win win).sizeLog2 - (s.win win).tail) % 2 ^ (s.win win).sizeLog2 ≤ (s.win win).count
  · rw [(writeTail_taken h.1 h.2).2.2.2]
  · rw [writeTail_rejected (by omega)]; rfl

/-! ### Command slots -/

/-- One byte written to a slot: discarded while the slot is busy. -/
theorem writeSlots_byte {s : State} {win k o : Nat} (hwin : win < 64) (hk : k < 16) (ho : o < 256) (b : Byte) :
    s.writeSlots win (k * 256 + o) [some b] = if (s.win win).busy.testBit k then s
      else s.setWin win { s.win win with slots := SMap.set zeroByte (s.win win).slots (k * 256 + o) b } := by
  have hdiv : (k * 256 + o) / 256 = k := by omega
  have hmod : (k * 256 + o) % 256 = o := by omega
  have h64 : (win == 64) = false := beq_eq_false_iff_ne.2 (by omega)
  simp only [State.writeSlots, show k * 256 + o < 0x1000 by omega, if_true, hdiv, hmod, State.writeSlot, h64, Bool.false_and, Bool.or_false, putBytes]

/-- The byte at the front of a write to the slots, and then the rest. -/
theorem writeSlots_cons (s : State) (win o : Nat) (x : Option Byte) (l : List (Option Byte)) :
    s.writeSlots win o (x :: l) = (s.writeSlots win o [x]).writeSlots win (o + 1) l := by
  cases x <;> rfl

/-- A byte written to the slots changes windows only. -/
theorem writeSlots_single_frame (s : State) (win o : Nat) (x : Option Byte) :
    ∃ w, s.writeSlots win o [x] = { s with ctl := { s.ctl with wins := w } } := by
  cases x with
  | none => exact ⟨_, rfl⟩
  | some b =>
    simp only [State.writeSlots]
    split
    · exact writeSlot_frame s win _ _ _
    · exact ⟨_, rfl⟩

/-- A write to the slots leaves the queue. -/
theorem writeSlots_pending : ∀ (l : List (Option Byte)) (s : State) (win o : Nat), (s.writeSlots win o l).pending = s.pending
  | [], _, _, _ => rfl
  | x :: l, s, win, o => by
    obtain ⟨w, hw⟩ := writeSlots_single_frame s win o x
    rw [writeSlots_cons, writeSlots_pending l, hw]

/-- A write to the slots, through any function. -/
theorem registerWrite_slots {fn win o : Nat} {l : List (Option Byte)} {s : State} (hfn : fn < 64) (hwin : win < 64) (ho : o < 0x1000)
    (hl : o + l.length ≤ 0x10000) :
    exec (.registerWrite fn win o l) s = .next (if s.hostTakes fn win then s.writeSlots win o l else s) := by
  refine registerWrite_next hfn hwin hl ?_ ?_
  · cases s.hostTakes fn win <;> simp [ho]
  · split
    · exact writeSlots_pending l s win o
    · rfl

/-! ### W1C bits -/

/-- The bits named among the lowest `n` are cleared, and no other. -/
theorem testBit_clear_foldl (v m k : Nat) : ∀ n, ((List.range n).foldl (fun m j => if v.testBit j then clrBit m j else m) m).testBit k
    = (m.testBit k && !(decide (k < n) && v.testBit k))
  | 0 => by simp
  | n + 1 => by
    rw [List.range_succ, List.foldl_append, List.foldl_cons, List.foldl_nil]
    have ih := testBit_clear_foldl v m k n
    by_cases hkn : k = n
    · subst hkn
      cases hv : v.testBit k
      · simp [ih, hv]
      · simp [testBit_clrBit_same]
    · have hlt : decide (k < n + 1) = decide (k < n) := decide_eq_decide.2 (by omega)
      rw [hlt, ← ih]
      split
      · exact clrBit_same_other hkn
      · rfl

/-- The ring registers of a window that is not CLOSED take no writes. -/
theorem writeReg_ring_ignored {s : State} {win o v : Nat} (hc : s.winState win ≠ .closed) (ho : o = 0x2018 ∨ o = 0x201C ∨ o = 0x2020) :
    s.writeReg win o v = s := by
  rcases ho with rfl | rfl | rfl <;> simp [State.writeReg, hc]

end Sys2Proof.Machine

open Sys2Proof Sys2Proof.Machine in
/-- Settles O11: each register's own rule, and the slots byte by byte. -/
theorem windowRegistersTakeWrites : Obligations.WindowRegistersTakeWrites := by
  unfold Obligations.WindowRegistersTakeWrites
  refine ⟨⟨?taken, ?rejected, ?asRegister, ?otherFn⟩, ?byte, ?disabled, ?bytes, ?ready, ?ringClosed, ?ringOpen, ?unaligned, ?ignored⟩
  case taken =>
    intro fn win v s hfn hwin hv ht h1 h2
    obtain ⟨htail, hrej, hother, hframe⟩ := writeTail_taken h1 h2
    exact ⟨_, eventTailWrite_next hfn hwin hv (if_pos ht) (writeTail_pending s win v), htail, hrej, hother, hframe⟩
  case rejected =>
    intro fn win v s hfn hwin hv ht h
    exact eventTailWrite_next hfn hwin hv ((if_pos ht).trans (writeTail_rejected h)) rfl
  case asRegister =>
    intro fn win v s hfn hwin hv
    cases ht : s.hostTakes fn win with
    | false =>
      rw [registerWrite_ignored hfn hwin (by simp) ht, eventTailWrite_next hfn hwin hv (if_neg (by simp [ht])) rfl]
    | true =>
      have hreg : s.writeReg win 0x2028 v = s.writeTail win v := by simp [State.writeReg, Nat.mod_eq_of_lt hv]
      rw [registerWrite_32 hfn hwin ht (by omega) (by decide) (by decide) (by decide) hreg (writeTail_pending s win v),
        eventTailWrite_next hfn hwin hv (if_pos ht) (writeTail_pending s win v)]
  case otherFn =>
    intro fn win v s hfn hwin hv ht
    exact eventTailWrite_next hfn hwin hv (if_neg (by simp [ht])) rfl
  case byte =>
    intro fn win k o b s hfn hwin ht hk ho
    rw [registerWrite_slots hfn hwin (by omega) (by simp; omega), if_pos ht, writeSlots_byte hwin hk ho]
  case disabled =>
    intro fn win o s hfn hwin ho
    rw [registerWrite_slots hfn hwin ho (by simp; omega)]
    exact congrArg _ (ite_self s)
  case bytes =>
    intro fn win o x l s hfn hwin hol hl
    have hpos : 0 < l.length := List.length_pos_iff.2 hl
    refine ⟨_, registerWrite_slots hfn hwin (by omega) (by simp; omega), ?_⟩
    rw [registerWrite_slots hfn hwin (by omega) (by simp; omega), registerWrite_slots hfn hwin (by omega) (by omega)]
    cases ht : s.hostTakes fn win with
    | false => simp [ht]
    | true =>
      obtain ⟨w, hw⟩ := writeSlots_single_frame s win o x
      have htakes : (s.writeSlots win o [x]).hostTakes fn win = true := by rw [hw]; exact ht
      simp only [if_true, htakes, writeSlots_cons s win o x l]
  case ready =>
    intro fn win v s hfn hwin hv ht
    refine ⟨_, registerWrite_32 hfn hwin ht hv (by decide) (by decide) (by decide) rfl rfl, fun k hk => ?_, ?_⟩
    · simp only [State.writeReg, show (0x2008 : Nat) ≠ 0x2000 by decide, if_false, if_true, State.win_setWin_same, testBit_clear_foldl, hk, decide_true,
        Bool.true_and]
    · simp only [State.writeReg, show (0x2008 : Nat) ≠ 0x2000 by decide, if_false, if_true, State.win_setWin_same]
  case ringClosed =>
    intro fn win v s hfn hwin hv ht hc
    exact ⟨registerWrite_32 hfn hwin ht hv (by decide) (by decide) (by decide) (by simp [State.writeReg, hc]) rfl,
      registerWrite_32 hfn hwin ht hv (by decide) (by decide) (by decide) (by simp [State.writeReg, hc]) rfl,
      registerWrite_32 hfn hwin ht hv (by decide) (by decide) (by decide) (by simp [State.writeReg, hc]) rfl⟩
  case ringOpen =>
    intro fn win v s hfn hwin hv ht hc
    exact ⟨registerWrite_32 hfn hwin ht hv (by decide) (by decide) (by decide) (writeReg_ring_ignored hc (.inl rfl)) rfl,
      registerWrite_32 hfn hwin ht hv (by decide) (by decide) (by decide) (writeReg_ring_ignored hc (.inr (.inl rfl))) rfl,
      registerWrite_32 hfn hwin ht hv (by decide) (by decide) (by decide) (writeReg_ring_ignored hc (.inr (.inr rfl))) rfl⟩
  case unaligned =>
    intro fn win o l s hfn hwin h2 h4 h
    refine registerWrite_next hfn hwin (by omega) ?_ rfl
    rw [if_neg (show ¬ o < 0x1000 by omega)]
    rcases h with h | ⟨hw4, hw8⟩
    · simp only [h, Bool.false_eq_true, and_false, if_false, ite_self]
    · simp only [hw4, hw8, if_false, ite_self]
  case ignored =>
    intro fn win o l s hfn hwin ho ht
    exact registerWrite_ignored hfn hwin ho ht
end

section
/-! The parameter commands (R67 to R70): PARAM_GET and PARAM_DESCRIBE read, PARAM_SET and PARAM_SET_GROUP check their entries, then write an
immediate element or stage the write. -/

namespace Sys2Proof.Machine

/-! ### The elements of the statements -/

/-- DEFER_TIMEOUT_US: a privileged, immediate element from 20 to 1,000. -/
def deferTimeoutRow : ParamRow :=
  ⟨P.DEFER_TIMEOUT_US, 0x53555F54554F454D49545F5245464544, 0, false, 2, true, false, 20, 1000, none, (.const 100)⟩

theorem knownElement_deferTimeout : knownElement 0x000A 0 = some deferTimeoutRow := by decide

/-- The entry's access and value decide for DEFER_TIMEOUT_US. -/
theorem entryCode_deferTimeout (s v : State) (w x : Nat) :
    s.entryCode v w true (0x000A, 0, x) = if 20 ≤ x ∧ x ≤ 1000 then none else some cBAD_PARAM := by
  have hrow : knownElement 0x000A 0 = some deferTimeoutRow := knownElement_deferTimeout
  have hacc : s.accessCode w true deferTimeoutRow 0x000A 0 x = none := by simp [State.accessCode, deferTimeoutRow]
  have hval : s.valueCode v 0x000A 0 x = none := by simp [State.valueCode]
  have hfit : valueFits deferTimeoutRow x = decide (20 ≤ x ∧ x ≤ 1000) := by
    simp only [valueFits, deferTimeoutRow, Bool.false_eq_true, if_false, Bool.or_false, show ((none : Option Nat) == some x) = false from rfl]
    exact decide_eq_decide.2 (by omega)
  simp only [State.entryCode, hrow, hacc, hfit, hval, show deferTimeoutRow.acc ≠ 3 by decide, if_false, decide_eq_true_eq]

/-- An unclaimed write of DEFER_TIMEOUT_US asks for no resource. -/
theorem claimCode_deferTimeout {s : State} {w : Nat} (p v : State) (ws : List (Nat × Nat × Nat)) (x : Nat)
    (h : s.claimedByOther w (pkey 0x000A 0) = false) : s.claimCode p v w ws (0x000A, 0, x) = none := by
  simp [State.claimCode, h, State.resourceCode, paramBase]

/-- DEFER_TIMEOUT_US comes into force, and nothing follows from it. -/
theorem applyWrites_deferTimeout (s : State) (x : Nat) : s.applyWrites [(0x000A, 0, x)]
    = { s with params := if s.getP 0x000A 0 = x then s.params else SMap.set pdef s.params (pkey 0x000A 0) x } := by
  by_cases h : s.getP 0x000A 0 = x
  · have he : s.effective (0x000A, 0, x) = false := by simp [State.effective, h]
    simp only [State.applyWrites, List.filter_cons, he, Bool.false_eq_true, if_false, List.filter_nil, List.foldl_nil, State.putParams, h, if_true]
  · have he : s.effective (0x000A, 0, x) = true := by simp [State.effective, h]
    simp only [State.applyWrites, List.filter_cons, he, if_true, List.filter_nil, List.foldl_cons, List.foldl_nil, State.putParams, h, if_false]
    rfl

/-- What a write of DEFER_TIMEOUT_US does: claims, what is staged, and the element. -/
def State.deferWritten (w x : Nat) (s : State) : State :=
  { s with
    params := if s.getP 0x000A 0 = x then s.params else SMap.set pdef s.params (pkey 0x000A 0) x
    ctl := { s.ctl with
      claims := (s.claim w [pkey 0x000A 0]).ctl.claims, staged := s.ctl.staged.map (Staged.without [(0x000A, 0)]) } }

theorem writeNow_deferTimeout (s : State) (w x : Nat) : (s.claim w [pkey 0x000A 0]).writeNow [(0x000A, 0, x)] = s.deferWritten w x :=
  applyWrites_deferTimeout _ x

theorem deferWritten_params (s : State) (w x : Nat) : (s.deferWritten w x).getP 0x000A 0 = x ∧ SameParams [pkey 0x000A 0] s (s.deferWritten w x) := by
  unfold State.deferWritten
  by_cases h : s.getP 0x000A 0 = x
  · simp only [h, if_true]
    exact ⟨h, fun _ _ => rfl⟩
  · simp only [h, if_false]
    exact ⟨SMap.get_set_same pdef _ _ _, fun k hk => SMap.get_set_other pdef _ (by simpa using hk) _⟩

/-- A command whose meaning is a write of DEFER_TIMEOUT_US. -/
theorem runs_deferWritten (s : State) (op : Nat) (c : Cmd) (w x : Nat) : Runs s op c (s.deferWritten w x) ((s.entered op c).deferWritten w x) :=
  runs_of_comm (State.deferWritten w x) (fun _ _ _ _ => rfl) rfl rfl rfl rfl

theorem entered_claimedByOther (s : State) (op : Nat) (c : Cmd) (w key : Nat) : (s.entered op c).claimedByOther w key = s.claimedByOther w key := by
  simp [State.claimedByOther]

/-! ### PARAM_SET -/

/-- An entry that fails step 7 of R62. -/
theorem paramSetBody_fails {k : Call} {s : State} {code : Nat}
    (h : s.entryCode (s.preview.putParams [(k.c.f 0 16, k.c.f 16 16, k.c.f 64 64)]) k.c.win k.priv (k.c.f 0 16, k.c.f 16 16, k.c.f 64 64) = some code) :
    paramSetBody k s = (s, .err code) := by
  simp only [paramSetBody, h]

/-- An entry that passes its checks. -/
theorem paramSetBody_passes {k : Call} {s : State} {e : Nat × Nat × Nat} (he : (k.c.f 0 16, k.c.f 16 16, k.c.f 64 64) = e)
    (h7 : s.entryCode (s.preview.putParams [e]) k.c.win k.priv e = none) (h8 : s.claimCode s.preview (s.preview.putParams [e]) k.c.win [e] e = none) :
    paramSetBody k s =
      let s1 := s.claim k.c.win [pkey e.1 e.2.1]
      if immediateElement e.1 then (s1.writeNow [e], .ok)
      else if k.c.immediate then (s1.stage (s.stagedOf e none), .ok)
      else (s1.stage (s.stagedOf e (some k.tk)), .wait) := by
  subst he
  simp only [paramSetBody, h7, h8]

/-- A command that answers BAD_PARAM or another failure in its meaning, or only reads, completes and changes nothing else. -/
theorem completes_reading {i : Instr} {spec : OpSpec} {body : Body} {c : Cmd} {s : State} {code len r : Nat} (hi : i.wellFormed = true)
    (ha : s.accepts (spec.priv || spec.privIf c) spec.op c) (hl : spec.len c = true) (hr : (c.ops % 2 ^ (8 * c.opLen)) &&& spec.rsvd = 0)
    (hb : c.win = 64 → spec.bus c = true) (hc : code < 256)
    (hbody : body { c := c, tk := s.newTicket, priv := s.privOf c } (s.entered spec.op c) = (s.entered spec.op c, .done code len r)) :
    ∃ t, guarded i s (submit spec body c s) = .next t ∧ Answered spec.op c code len r t ∧ CommandOnly c s t :=
  Runs.completes hi ha hl hr hb (by rw [hbody]) hc (by rw [hbody]; exact entered_runs s _ c) rfl

/-! ### BW_RESERVABLE_PCT -/

/-- BW_RESERVABLE_PCT: an element from 60 to 90 that waits for a master period boundary. -/
def reservablePctRow : ParamRow := ⟨P.BW_RESERVABLE_PCT, 0x5443505F454C42415652455345525F5742, 0, false, 0, false, false, 60, 90, none, (.const 85)⟩

theorem entryCode_reservablePct {x : Nat} (s v : State) (w : Nat) (priv : Bool) (h60 : 60 ≤ x) (h90 : x ≤ 90) :
    s.entryCode v w priv (P.BW_RESERVABLE_PCT, 0, x) = none := by
  have hrow : knownElement P.BW_RESERVABLE_PCT 0 = some reservablePctRow := by decide
  have hacc : s.accessCode w priv reservablePctRow P.BW_RESERVABLE_PCT 0 x = none := by simp [State.accessCode, reservablePctRow, P.BW_RESERVABLE_PCT]
  have hval : s.valueCode v P.BW_RESERVABLE_PCT 0 x = none := by simp [State.valueCode, P.BW_RESERVABLE_PCT]
  have hfit : valueFits reservablePctRow x = true := by
    have hrange : decide (reservablePctRow.lo ≤ (x : Int) ∧ (x : Int) ≤ reservablePctRow.hi) = true :=
      decide_eq_true (show (60 : Int) ≤ x ∧ (x : Int) ≤ 90 by omega)
    rw [valueFits, hrange]; rfl
  simp only [State.entryCode, hrow, hacc, hfit, hval, show reservablePctRow.acc ≠ 3 by decide, if_false, if_true]

theorem claimCode_reservablePct {s : State} {w : Nat} (p v : State) (ws : List (Nat × Nat × Nat)) (x : Nat)
    (h : s.claimedByOther w (pkey P.BW_RESERVABLE_PCT 0) = false) : s.claimCode p v w ws (P.BW_RESERVABLE_PCT, 0, x) = none := by
  simp [State.claimCode, show s.claimedByOther w 393216 = false from h, State.resourceCode, paramBase, P.BW_RESERVABLE_PCT]

/-- What a write of BW_RESERVABLE_PCT stages. -/
def reservablePctStaged (x tk : Nat) : Staged :=
  { ats := [.master], what := .params [(P.BW_RESERVABLE_PCT, 0, x)], ticket := some tk, left := 0 }

theorem stagedOf_reservablePct (s : State) (x tk : Nat) : s.stagedOf (P.BW_RESERVABLE_PCT, 0, x) (some tk) = [reservablePctStaged x tk] := by
  have hrow : paramRow? P.BW_RESERVABLE_PCT = some reservablePctRow := by decide
  have hats : s.boundariesOf P.BW_RESERVABLE_PCT 0 = [.master] := by
    simp only [State.boundariesOf, hrow]
    simp [reservablePctRow, P.BW_RESERVABLE_PCT]
  simp only [State.stagedOf, hats, reservablePctStaged]
  rfl

/-- The change that is staged last counts. -/
theorem stagedValue_stage (s : State) (x tk : Nat) :
    (s.stage [reservablePctStaged x tk]).stagedValue P.BW_RESERVABLE_PCT 0 = some x := by
  simp [State.stage, State.stagedValue, List.flatMap_append, List.foldl_append, reservablePctStaged, Staged.writes]

/-- A started command of the window is in progress, and its slot is busy. -/
theorem entered_unanswered {s u : State} {op : Nat} {c : Cmd} (hf : u.ctl.flights = (s.entered op c).ctl.flights)
    (hw : u.ctl.wins = (s.entered op c).ctl.wins) : Unanswered op c u := by
  refine ⟨⟨s.flightOf op c, by rw [hf, State.entered_flights]; simp, rfl, rfl, rfl⟩, ?_⟩
  rw [show u.win c.win = (s.entered op c).win c.win by simp only [State.win, hw], State.entered_win_same]
  exact testBit_setBit_same _ _

/-! ### PARAM_SET_GROUP -/

/-- A group of one sound write of DEFER_TIMEOUT_US. -/
theorem paramSetGroupBody_deferTimeout {k : Call} {s : State} (hlen : k.c.opLen = 24) (hcount : k.c.f 0 16 = 1) (hrsvd : k.c.f 16 48 = 0)
    (hid : k.c.f 64 16 = 0x000A) (hidx : k.c.f 80 16 = 0) (hpad : k.c.f 96 32 = 0) (h20 : 20 ≤ k.c.f 128 64) (h1000 : k.c.f 128 64 ≤ 1000)
    (hp : k.priv = true) (hc : s.claimedByOther k.c.win (pkey 0x000A 0) = false) :
    paramSetGroupBody k s = (s.deferWritten k.c.win (k.c.f 128 64), .ok) := by
  have hentries : groupEntries k.c = [(0x000A, 0, k.c.f 128 64)] := by
    simp only [groupEntries, hcount, List.range_one, List.map_cons, List.map_nil, Nat.mul_zero, Nat.add_zero, hid, hidx]
  have hheader : groupHeaderOk k.c = true := by simp [groupHeaderOk, hcount, hrsvd, hlen]
  have hcheck : s.groupCheck k.c k.priv = none := by
    simp only [State.groupCheck, hentries, hheader, hp, firstFailure, List.zipIdx_cons, List.zipIdx_nil, List.findSome?_cons, List.findSome?_nil,
      entryCode_deferTimeout, claimCode_deferTimeout _ _ _ _ hc, h20, h1000, and_self, if_true, Nat.mul_zero, Nat.add_zero, hpad, Option.map_none,
      List.take_zero, List.any_nil, Bool.not_true, Bool.false_eq_true, if_false, Option.orElse_none]
  have himm : immediateElement 0x000A = true := by decide
  simp only [paramSetGroupBody, hcheck, hentries, List.map_cons, List.map_nil, List.all_cons, List.all_nil, himm, Bool.and_self, if_true]
  rw [writeNow_deferTimeout]

/-- A group whose second entry names no parameter fails there, and nothing is written. -/
theorem paramSetGroupBody_unknown {k : Call} {s : State} (hlen : k.c.opLen = 40) (hcount : k.c.f 0 16 = 2) (hrsvd : k.c.f 16 48 = 0)
    (hid : k.c.f 64 16 = 0x000A) (hidx : k.c.f 80 16 = 0) (hpad : k.c.f 96 32 = 0) (h20 : 20 ≤ k.c.f 128 64) (h1000 : k.c.f 128 64 ≤ 1000)
    (hpad2 : k.c.f 224 32 = 0) (hrow : paramRow? (k.c.f 192 16) = none) (hp : k.priv = true) :
    paramSetGroupBody k s = (s, .done cBAD_PARAM 2 1) := by
  have hentries : groupEntries k.c = [(0x000A, 0, k.c.f 128 64), (k.c.f 192 16, k.c.f 208 16, k.c.f 256 64)] := by
    simp only [groupEntries, hcount, show List.range 2 = [0, 1] from rfl, List.map_cons, List.map_nil, Nat.mul_zero, Nat.mul_one, Nat.add_zero, hid, hidx,
      Nat.reduceAdd]
  have hheader : groupHeaderOk k.c = true := by simp [groupHeaderOk, hcount, hrsvd, hlen]
  have hunknown : ∀ v : State, s.entryCode v k.c.win true (k.c.f 192 16, k.c.f 208 16, k.c.f 256 64) = some cBAD_PARAM := fun v => by
    simp only [State.entryCode, knownElement, hrow, Option.filter_none]
  have hcheck : s.groupCheck k.c k.priv = some (1, cBAD_PARAM) := by
    simp only [State.groupCheck, hentries, hheader, hp, firstFailure, List.zipIdx_cons, List.zipIdx_nil, List.findSome?_cons, List.findSome?_nil,
      entryCode_deferTimeout, hunknown, h20, h1000, and_self, if_true, Nat.mul_zero, Nat.add_zero, Nat.zero_add, Nat.mul_one, Nat.reduceAdd, hpad, hpad2,
      Option.map_none, Option.map_some, List.take_zero, List.any_nil, Bool.not_true, Bool.false_eq_true, if_false, Option.orElse_none, Option.orElse_some]
  simp only [paramSetGroupBody, hcheck]

/-! ### PARAM_DESCRIBE -/

/-- What PARAM_DESCRIBE says of DEFER_TIMEOUT_US does not depend on the state. -/
theorem describe_deferTimeout (s : State) : s.describe deferTimeoutRow 0x000A 0
    = leBytes 0x000A 2 ++ leBytes 0 2 ++ leBytes 32 1 ++ leBytes 2 1 ++ leBytes 0 1 ++ leBytes 0 1 ++ leBytes 20 8 ++ leBytes 1000 8
      ++ leBytes 100 8 ++ leBytes 0x53555F54554F454D49545F5245464544 32 := rfl

end Sys2Proof.Machine

open Sys2Proof Sys2Proof.Machine in
/-- Settles O14: each command's checks and effect for one element of each kind. -/
theorem parametersAreReadAndWritten : Obligations.ParametersAreReadAndWritten := by
  unfold Obligations.ParametersAreReadAndWritten
  refine ⟨?get, ?getUnknown, ?setNow, ?outOfRange, ?readOnly, ?staged, ?groupUnknown, ?group, ?describe⟩
  case get =>
    intro c s r ha ho hst hr hidx hserial hpool hcarve hstatic
    refine completes_reading (i := .paramGet c) (spec := paramGetSpec) (body := paramGetBody) ha.1.1 ha (by simp [paramGetSpec, ho.1])
      (by rw [ho.1]; exact ho.2) (fun _ => rfl) (by decide) ?_
    have hknown : knownElement (c.f 0 16) (c.f 16 16) = some r := by rw [knownElement, hr, Option.filter_some, if_pos (decide_eq_true hidx)]
    simp only [paramGetBody, hknown, hst, Nat.zero_ne_one, if_false, State.readParam, hserial, hpool, hcarve, hstatic, State.entered_getP]
  case getUnknown =>
    intro c s ha ho hr
    exact completes_reading (i := .paramGet c) (spec := paramGetSpec) (body := paramGetBody) ha.1.1 ha (by simp [paramGetSpec, ho.1])
      (by rw [ho.1]; exact ho.2) (fun _ => rfl) (by decide) (by simp only [paramGetBody, knownElement, hr, Option.filter_none])
  case setNow =>
    intro c s ha ho hid hidx h20 h1000 hclaim
    have hp := privOf_eq_true (ha.2.2.2.2 rfl)
    have hbody : paramSetBody { c := c, tk := s.newTicket, priv := s.privOf c } (s.entered 0x0011 c)
        = ((s.entered 0x0011 c).deferWritten c.win (c.f 64 64), .ok) := by
      rw [paramSetBody_passes (e := (0x000A, 0, c.f 64 64)) (by simp only [hid, hidx]) (by simp only [hp, entryCode_deferTimeout, h20, h1000, and_self, if_true])
        (claimCode_deferTimeout _ _ _ _ ((entered_claimedByOther ..).trans hclaim))]
      simp only [show immediateElement 0x000A = true by decide, if_true, writeNow_deferTimeout]
    obtain ⟨t, he, hans, hcmd⟩ := Runs.completes (i := .paramSet c) (spec := paramSetSpec) (body := paramSetBody)
      (e := s.deferWritten c.win (c.f 64 64)) ha.1.1
      ⟨ha.1, ha.2.1, ha.2.2.1, ha.2.2.2.1, fun _ => ha.2.2.2.2 rfl⟩ (by simp [paramSetSpec, ho.1]) (by rw [ho.1]; exact ho.2) (fun _ => rfl)
      (by rw [show paramSetSpec.op = 0x0011 from rfl, hbody]) (by decide)
      (by rw [show paramSetSpec.op = 0x0011 from rfl, hbody]; exact runs_deferWritten s 0x0011 c c.win (c.f 64 64)) rfl
    have hparams : t.params = (s.deferWritten c.win (c.f 64 64)).params := by rw [hcmd.1]
    obtain ⟨hval, hsame⟩ := deferWritten_params s c.win (c.f 64 64)
    refine ⟨t, he, hans, (by rw [State.getP, hparams]; exact hval), fun k hk => by rw [hparams]; exact hsame k hk, ?_⟩
    have hclaims : t.ctl.claims = (s.deferWritten c.win (c.f 64 64)).ctl.claims := by rw [hcmd.1]
    have hstaged : t.ctl.staged = (s.deferWritten c.win (c.f 64 64)).ctl.staged := by rw [hcmd.1]
    rw [hparams, hclaims, hstaged]
    exact hcmd
  case outOfRange =>
    intro c s ha ho hid hidx hout
    have hp := privOf_eq_true (ha.2.2.2.2 rfl)
    refine completes_reading (i := .paramSet c) (spec := paramSetSpec) (body := paramSetBody) ha.1.1
      ⟨ha.1, ha.2.1, ha.2.2.1, ha.2.2.2.1, fun _ => ha.2.2.2.2 rfl⟩ (by simp [paramSetSpec, ho.1]) (by rw [ho.1]; exact ho.2) (fun _ => rfl) (by decide)
      (paramSetBody_fails ?_)
    simp only [hid, hidx, hp, entryCode_deferTimeout]
    exact if_neg (by omega)
  case readOnly =>
    intro c s ha ho hid hidx
    refine completes_reading (i := .paramSet c) (spec := paramSetSpec) (body := paramSetBody) ha.1.1 ha (by simp [paramSetSpec, ho.1])
      (by rw [ho.1]; exact ho.2) (fun _ => rfl) (by decide) (paramSetBody_fails ?_)
    simp only [hid, hidx]
    rfl
  case staged =>
    intro c s ha ho hid hidx h60 h90 hclaim himm
    set u := (s.entered 0x0011 c).claim c.win [pkey P.BW_RESERVABLE_PCT 0]
    have hbody : paramSetBody { c := c, tk := s.newTicket, priv := s.privOf c } (s.entered 0x0011 c)
        = (u.stage [reservablePctStaged (c.f 64 64) s.newTicket], .wait) := by
      rw [paramSetBody_passes (e := (P.BW_RESERVABLE_PCT, 0, c.f 64 64)) (by simp only [hid, hidx]) (entryCode_reservablePct _ _ _ _ h60 h90)
        (claimCode_reservablePct _ _ _ _ ((entered_claimedByOther ..).trans hclaim))]
      simp only [show immediateElement P.BW_RESERVABLE_PCT = false by decide, himm, Bool.false_eq_true, if_false, stagedOf_reservablePct]
      rfl
    have hframe : u.stage [reservablePctStaged (c.f 64 64) s.newTicket] = { s with ctl := (u.stage [reservablePctStaged (c.f 64 64) s.newTicket]).ctl } := by
      obtain ⟨w, m, k, f, h⟩ := entered_frame s 0x0011 c
      simp only [u, h]; rfl
    have he := submit_waits (i := .paramSet c) (spec := paramSetSpec) (body := paramSetBody) ha.1.1 ha (by simp [paramSetSpec, ho.1])
      (by rw [ho.1]; exact ho.2) (fun _ => rfl) (by rw [show paramSetSpec.op = 0x0011 from rfl, hbody])
      (by rw [show paramSetSpec.op = 0x0011 from rfl, hbody, hframe])
    rw [show paramSetSpec.op = 0x0011 from rfl, hbody] at he
    exact ⟨_, he, entered_unanswered (s := s) rfl rfl, by rw [hframe], stagedValue_stage _ _ _,
      ⟨reservablePctStaged (c.f 64 64) s.newTicket, List.mem_append_right _ (List.mem_singleton.2 rfl), rfl, rfl⟩, hframe⟩
  case groupUnknown =>
    intro c s ha hlen hcount hrsvd hid hidx hpad h20 h1000 hpad2 hrow
    exact completes_reading (i := .paramSetGroup c) (spec := paramSetGroupSpec) (body := paramSetGroupBody) ha.1.1
      ⟨ha.1, ha.2.1, ha.2.2.1, ha.2.2.2.1, fun _ => ha.2.2.2.2 rfl⟩ rfl (by simp [paramSetGroupSpec]) (fun _ => rfl) (by decide)
      (paramSetGroupBody_unknown hlen hcount hrsvd hid hidx hpad h20 h1000 hpad2 hrow (privOf_eq_true (ha.2.2.2.2 rfl)))
  case group =>
    intro c s ha hlen hcount hrsvd hid hidx hpad h20 h1000 hclaim
    have hbody := paramSetGroupBody_deferTimeout (k := { c := c, tk := s.newTicket, priv := s.privOf c }) (s := s.entered 0x0012 c) hlen hcount hrsvd hid
      hidx hpad h20 h1000 (privOf_eq_true (ha.2.2.2.2 rfl)) ((entered_claimedByOther ..).trans hclaim)
    obtain ⟨t, he, hans, hcmd⟩ := Runs.completes (i := .paramSetGroup c) (spec := paramSetGroupSpec) (body := paramSetGroupBody)
      (e := s.deferWritten c.win (c.f 128 64)) ha.1.1
      ⟨ha.1, ha.2.1, ha.2.2.1, ha.2.2.2.1, fun _ => ha.2.2.2.2 rfl⟩ rfl (by simp [paramSetGroupSpec]) (fun _ => rfl)
      (by rw [show paramSetGroupSpec.op = 0x0012 from rfl, hbody]) (by decide)
      (by rw [show paramSetGroupSpec.op = 0x0012 from rfl, hbody]; exact runs_deferWritten s 0x0012 c c.win (c.f 128 64)) rfl
    have hparams : t.params = (s.deferWritten c.win (c.f 128 64)).params := by rw [hcmd.1]
    obtain ⟨hval, hsame⟩ := deferWritten_params s c.win (c.f 128 64)
    exact ⟨t, he, hans, (by rw [State.getP, hparams]; exact hval), fun k hk => by rw [hparams]; exact hsame k hk⟩
  case describe =>
    intro c s ha ho hid hidx
    obtain ⟨t, he, hans, hcmd⟩ := completes_reading (i := .paramDescribe c) (spec := paramDescribeSpec) (body := paramDescribeBody) (s := s) (code := 0)
      (len := 64) (r := ofLE (s.describe deferTimeoutRow 0x000A 0)) ha.1.1 ha (by simp [paramDescribeSpec, ho.1]) (by simp [paramDescribeSpec])
      (fun _ => rfl) (by decide) (by simp only [paramDescribeBody, hid, hidx, knownElement_deferTimeout, describe_deferTimeout])
    rw [describe_deferTimeout] at hans
    exact ⟨t, _, he, hans, hcmd, by decide, by decide, by decide, by decide⟩
end

section
/-! Ringmaster (R20 to R24, R36): edges of its reference, the master period boundary of a device at rest, and the trigger input. -/

namespace Sys2Proof.Machine

/-! ### Folds -/

/-- A fold whose steps leave the state as it is. -/
theorem foldl_fixed_of_mem {α β : Type} {f : β → α → β} {b : β} {l : List α} (h : ∀ a ∈ l, f b a = b) : l.foldl f b = b := by
  induction l with
  | nil => rfl
  | cons a l ih => rw [List.foldl_cons, h a (by simp)]; exact ih fun x hx => h x (by simp [hx])

/-! ### Conditions that call for service -/

theorem raiseService_frame (c : ServiceCond) (s : State) :
    ∃ v, s.raiseService c = { s with ctl := { s.ctl with service := (s.raiseService c).ctl.service, views := v } } := by
  unfold State.raiseService
  split <;> exact ⟨_, rfl⟩

theorem mem_raiseService (c : ServiceCond) (s : State) : c ∈ (s.raiseService c).ctl.service := by
  unfold State.raiseService
  split
  · next h => exact List.contains_iff_mem.1 h
  · exact List.mem_cons_self

theorem clearService_frame (c : ServiceCond) (s : State) :
    ∃ v, s.clearService c = { s with ctl := { s.ctl with service := (s.clearService c).ctl.service, views := v } } := by
  unfold State.clearService
  split <;> exact ⟨_, rfl⟩

theorem not_mem_clearService (c : ServiceCond) (s : State) : c ∉ (s.clearService c).ctl.service := by
  unfold State.clearService
  split
  · intro h
    have := (List.mem_filter.1 (show c ∈ s.ctl.service.filter (· != c) from h)).2
    simp at this
  · next h => exact fun hm => h (List.contains_iff_mem.2 hm)

/-- The instant within the acceptance window has missed no edge before it. -/
theorem missedBefore_of_inside {s : State} {t : Nat} (h : ¬ (s.ring.lastValid + s.ring.period + s.acceptWin < t)) : ∀ n, State.missedBefore t n s = s
  | 0 => rfl
  | _ + 1 => if_neg fun hc => h hc.2

/-! ### The boundary that follows an edge -/

/-- The canvas after the end of the master period has moved. -/
theorem canvas_moveBoundary (a b p : Nat) (s : State) (c : Nat) : (s.moveBoundary a b p).canvas c
    = if c < 16 ∧ (s.cvState c = 1 ∨ s.cvState c = 2) then { s.canvas c with next := follow a b p s.ring.period (s.canvas c).next } else s.canvas c := by
  have key : ∀ n, let t := (List.range n).foldl (init := s) fun t c =>
        if t.cvState c = 1 ∨ t.cvState c = 2 then t.modCanvas c fun x => { x with next := follow a b p t.ring.period x.next } else t
      t = { s with cv := { s.cv with cvs := t.cv.cvs } } ∧ ∀ c, t.canvas c = if c < n ∧ (s.cvState c = 1 ∨ s.cvState c = 2)
          then { s.canvas c with next := follow a b p s.ring.period (s.canvas c).next } else s.canvas c := by
    intro n
    induction n with
    | zero => exact ⟨rfl, fun c => by simp⟩
    | succ n ih =>
      obtain ⟨hf, hc⟩ := ih
      simp only [List.range_succ, List.foldl_append, List.foldl_cons, List.foldl_nil]
      generalize (List.range n).foldl _ s = t at hf hc ⊢
      have hst : t.cvState n = s.cvState n := by rw [hf]; rfl
      have hring : t.ring = s.ring := by rw [hf]
      simp only [hst, hring]
      split
      · next h =>
        refine ⟨by rw [hf]; rfl, fun c => ?_⟩
        rw [State.canvas_modCanvas]
        by_cases hcn : c = n
        · subst hcn; simp [hc, h]
        · rw [if_neg hcn, hc]
          exact if_congr (by rw [show c < n + 1 ↔ c < n by omega]) rfl rfl
      · next h =>
        refine ⟨hf, fun c => ?_⟩
        rw [hc]
        by_cases hcn : c = n
        · subst hcn; simp [h]
        · exact if_congr (by rw [show c < n + 1 ↔ c < n by omega]) rfl rfl
  exact (key 16).2 c

theorem moveBoundary_frame (a b p : Nat) (s : State) : ∃ x, s.moveBoundary a b p = { s with cv := { s.cv with cvs := x } } := by
  unfold State.moveBoundary
  refine List.foldlRecOn (motive := fun t : State => ∃ x, t = { s with cv := { s.cv with cvs := x } }) _ _ ⟨_, rfl⟩ ?_
  rintro t ⟨x, rfl⟩ c -
  split
  · exact ⟨_, rfl⟩
  · exact ⟨_, rfl⟩

theorem moveBoundary_idle {s : State} (h : ∀ c, c < 16 → s.cvState c = 0) (a b p : Nat) : s.moveBoundary a b p = s :=
  foldl_fixed_of_mem fun c hc => if_neg (by rw [h c (List.mem_range.1 hc)]; decide)

/-- What aiming at the next boundary changes. -/
theorem aim_frame (p : Nat) (s : State) : ∃ x, s.aim p
    = { s with ring := { s.ring with next := (((s.ring.boundary + s.ring.period : Nat) : Int) + s.correction (s.ring.boundary + s.ring.period)).toNat }
               cv := { s.cv with cvs := x } } := moveBoundary_frame _ _ _ _

/-- A valid edge in LOCKED. -/
def State.edgeTaken (t : Nat) (s : State) : State :=
  let iv := ((t - s.ring.lastValid) :: s.ring.intervals).take 16
  State.setPhaseErr ((t : Int) - (s.ring.lastValid + s.ring.period : Nat))
    { s with ring := { s.ring with invalid := 0, lastValid := t, intervals := iv, period := meanInterval iv } }

theorem lockedEdge_valid {s : State} {t : Nat} (h : ¬ (t + s.acceptWin < s.ring.lastValid + s.ring.period)) :
    s.lockedEdge t = (s.edgeTaken t).aim s.ring.period := by
  simp only [State.lockedEdge, h, if_false]; rfl

theorem referenceEdge_locked {s : State} {t : Nat} (hl : s.getP P.RM_STATE 0 = 2) (h : ¬ (s.ring.lastValid + s.ring.period + s.acceptWin < t)) :
    s.referenceEdge t = (s.atLeast (t / subTick)).lockedEdge t := by
  simp only [State.referenceEdge, missedBefore_of_inside h, State.atLeast_getP, hl]; rfl

theorem getP_of_params {s t : State} (h : t.params = s.params) (i e : Nat) : t.getP i e = s.getP i e := by simp only [State.getP, h]

theorem genrefEdge_valid (t : Nat) (s : State) (hsrc : s.getP P.RM_SOURCE 0 = 1) (hpt : s.partnerTiming = false) (hl : s.getP P.RM_STATE 0 = 2)
    (hlo : s.ring.lastValid + s.ring.period ≤ t * 65536 + s.getP P.RM_ACCEPT_WIN 0 * 65536)
    (hhi : t * 65536 ≤ s.ring.lastValid + s.ring.period + s.getP P.RM_ACCEPT_WIN 0 * 65536) :
    exec (.genrefEdge t) s = .next (((s.atLeast t).edgeTaken (t * subTick)).aim s.ring.period) := by
  refine exec_next (i := .genrefEdge t) rfl (by simp [Instr.wellFormed]) ?_ (by obtain ⟨x, hx⟩ := aim_frame s.ring.period ((s.atLeast t).edgeTaken (t * subTick)); rw [hx]; rfl)
  have hw : s.acceptWin = s.getP P.RM_ACCEPT_WIN 0 * 65536 := rfl
  rw [if_pos (by simp [hsrc, hpt]), referenceEdge_locked hl (by rw [hw]; exact Nat.not_lt.2 hhi), Nat.mul_div_cancel _ (by decide : 0 < subTick),
    lockedEdge_valid (s := s.atLeast t) (t := t * subTick) (Nat.not_lt.2 hlo)]
  rfl

/-- An edge within the window of the one expected. -/
theorem genrefEdge_valid_effect (t : Nat) (s : State) (hsrc : s.getP P.RM_SOURCE 0 = 1) (hpt : s.partnerTiming = false) (hl : s.getP P.RM_STATE 0 = 2)
    (hlo : s.ring.lastValid + s.ring.period ≤ t * 65536 + s.getP P.RM_ACCEPT_WIN 0 * 65536)
    (hhi : t * 65536 ≤ s.ring.lastValid + s.ring.period + s.getP P.RM_ACCEPT_WIN 0 * 65536) :
    ∃ u, exec (.genrefEdge t) s = .next u ∧ u.ring = { s.ring with
        invalid := 0, lastValid := t * 65536, intervals := ((t * 65536 - s.ring.lastValid) :: s.ring.intervals).take 16
        period := meanInterval (((t * 65536 - s.ring.lastValid) :: s.ring.intervals).take 16), next := u.ring.next }
      ∧ u.ring.next = (((s.ring.boundary + u.ring.period : Nat) : Int) + slewStep (s.getP P.RM_SLEW_LIMIT 0)
          (phaseErrorAt (t * 65536) u.ring.period (s.ring.boundary + u.ring.period))).toNat
      ∧ (∀ c, u.canvas c = if c < 16 ∧ (s.cvState c = 1 ∨ s.cvState c = 2)
          then { s.canvas c with next := follow s.ring.next u.ring.next s.ring.period u.ring.period (s.canvas c).next } else s.canvas c)
      ∧ u.getP P.RM_PHASE_ERR 0 = toU64 (rdiv (((t * 65536 : Nat) : Int) - (s.ring.lastValid + s.ring.period : Nat)) 65536)
      ∧ SameParams [pkey P.RM_PHASE_ERR 0] s u
      ∧ u = { s with now := max s.now t, ring := u.ring, params := u.params, cv := { s.cv with cvs := u.cv.cvs } } := by
  refine ⟨_, genrefEdge_valid t s hsrc hpt hl hlo hhi, ?_⟩
  generalize hw : (s.atLeast t).edgeTaken (t * subTick) = w
  have hring : w.ring = { s.ring with
        invalid := 0, lastValid := t * 65536, intervals := ((t * 65536 - s.ring.lastValid) :: s.ring.intervals).take 16
        period := meanInterval (((t * 65536 - s.ring.lastValid) :: s.ring.intervals).take 16) } := by rw [← hw]; rfl
  have hpar : ∀ i e, pkey i e ≠ pkey P.RM_PHASE_ERR 0 → w.getP i e = s.getP i e := fun i e h => by
    rw [← hw]; simp only [State.edgeTaken, State.setPhaseErr]; rw [State.getP_setP, if_neg h]; rfl
  have hcv : ∀ c, w.cvState c = s.cvState c := fun c => hpar _ _ (by
    simp only [pkey, P.RM_PHASE_ERR, P.cv, P.CV_STATE]; omega)
  have htiming : w.partnerTiming = false := by
    rw [← hpt]; simp only [State.partnerTiming, hpar P.PT_STATE 0 (by decide)]; rw [← hw]; rfl
  have hcorr : w.correction (s.ring.boundary + w.ring.period)
      = slewStep (s.getP P.RM_SLEW_LIMIT 0) (phaseErrorAt (t * 65536) w.ring.period (s.ring.boundary + w.ring.period)) := by
    simp only [State.correction, htiming, hpar P.RM_STATE 0 (by decide), hl, hpar P.RM_SLEW_LIMIT 0 (by decide)]
    rw [hring]; rfl
  have hbound : w.ring.boundary = s.ring.boundary := by rw [hring]
  have hcan := canvas_moveBoundary w.ring.next (((w.ring.boundary + w.ring.period : Nat) : Int) + w.correction (w.ring.boundary + w.ring.period)).toNat
    s.ring.period { w with ring := { w.ring with
      next := (((w.ring.boundary + w.ring.period : Nat) : Int) + w.correction (w.ring.boundary + w.ring.period)).toNat } }
  obtain ⟨x, hx⟩ := aim_frame s.ring.period w
  have hwc : ∀ c, w.canvas c = s.canvas c := fun c => by rw [← hw]; rfl
  have hnext : w.ring.next = s.ring.next := by rw [hring]
  refine ⟨?_, ?_, fun c => ?_, ?_, fun k hk => ?_, ?_⟩
  · rw [hx]; simp only [hring]
  · rw [hx]; dsimp only; rw [hbound, hcorr]
  · have h1 : (w.aim s.ring.period).ring.next
        = (((w.ring.boundary + w.ring.period : Nat) : Int) + w.correction (w.ring.boundary + w.ring.period)).toNat := by rw [hx]
    have h2 : (w.aim s.ring.period).ring.period = w.ring.period := by rw [hx]
    rw [h1, h2]
    refine (hcan c).trans ?_
    rw [hnext]
    exact if_congr (by rw [← hcv c]; rfl) (by rw [← hwc c]; rfl) (hwc c)
  · rw [hx, ← hw]; exact State.getP_setP_same _ _ _ _
  · rw [hx, ← hw]; exact SMap.get_set_other _ _ (by simpa using hk) _
  · rw [hx, ← hw]; rfl

/-! ### Invalid and missed edges -/

theorem countInvalid_early {s : State} (h : s.ring.invalid < 7) :
    s.countInvalid = State.bumpSat { s with ring := { s.ring with invalid := s.ring.invalid + 1 } } P.RM_INVALID_TOTAL 0 1 := by
  simp only [State.countInvalid, show ¬ 8 ≤ s.ring.invalid + 1 by omega, if_false]

theorem countInvalid_last {s : State} (h : s.ring.invalid = 7) :
    s.countInvalid = (State.bumpSat { s with ring := { s.ring with invalid := 8 } } P.RM_INVALID_TOTAL 0 1).enterHoldover := by
  simp [State.countInvalid, h]

/-- The loss of the reference in LOCKED. -/
theorem enterHoldover_locked {s : State} (h : s.getP P.RM_STATE 0 = 2) :
    s.enterHoldover.getP P.RM_STATE 0 = 3 ∧ s.enterHoldover.ring = { s.ring with prevEdge := none, run := 0 }
      ∧ ServiceCond.holdover ∈ s.enterHoldover.ctl.service ∧ s.enterHoldover.pending = s.pending := by
  have hold : State.getP { s with ring := { s.ring with prevEdge := none, run := 0 } } P.RM_STATE 0 = 2 := h
  simp only [State.enterHoldover, State.setRmState, hold, show ¬ (2 = 3) by decide, if_false, if_true]
  generalize hw : State.setP { s with ring := { s.ring with prevEdge := none, run := 0 } } P.RM_STATE 0 3 = w
  have hstate : w.getP P.RM_STATE 0 = 3 := by rw [← hw]; exact State.getP_setP_same _ _ _ _
  have hring : w.ring = { s.ring with prevEdge := none, run := 0 } := by rw [← hw]; rfl
  have hpend : w.pending = s.pending := by rw [← hw]; rfl
  obtain ⟨v, hv⟩ := raiseService_frame .holdover w
  refine ⟨?_, ?_, by rw [State.post_ctl_service]; exact mem_raiseService _ _, ?_⟩
  · rw [State.post_getP, hv]; exact hstate
  · rw [State.post_ring, hv]; exact hring
  · rw [State.post_pending, hv]; exact hpend

theorem genrefEdge_early (t : Nat) (s : State) (hsrc : s.getP P.RM_SOURCE 0 = 1) (hpt : s.partnerTiming = false) (hl : s.getP P.RM_STATE 0 = 2)
    (hinv : s.ring.invalid < 7) (hlo : t * 65536 + s.getP P.RM_ACCEPT_WIN 0 * 65536 < s.ring.lastValid + s.ring.period) :
    exec (.genrefEdge t) s
      = .next (State.bumpSat { s with now := max s.now t, ring := { s.ring with invalid := s.ring.invalid + 1 } } P.RM_INVALID_TOTAL 0 1) := by
  refine exec_next (i := .genrefEdge t) rfl (by simp [Instr.wellFormed]) ?_ rfl
  have hin : ¬ (s.ring.lastValid + s.ring.period + s.acceptWin < t * subTick) := by
    have : subTick = 65536 := rfl
    rw [this]; omega
  rw [if_pos (by simp [hsrc, hpt]), referenceEdge_locked hl hin, Nat.mul_div_cancel _ (by decide : 0 < subTick), State.lockedEdge]
  exact (if_pos hlo).trans (countInvalid_early hinv)

theorem genrefMissedEdge_locked {s : State} (hl : s.getP P.RM_STATE 0 = 2) (hp : s.missedEdge.pending = s.pending) :
    exec .genrefMissedEdge s = .next s.missedEdge :=
  exec_next rfl rfl (if_pos hl) hp

/-- A missed edge that is not the eighth. -/
theorem genrefMissedEdge_counted (s : State) (hl : s.getP P.RM_STATE 0 = 2) (hinv : s.ring.invalid < 7) :
    ∃ u, exec .genrefMissedEdge s = .next u
      ∧ u.ring = { s.ring with lastValid := s.ring.lastValid + s.ring.period, invalid := s.ring.invalid + 1 }
      ∧ u.getP P.RM_INVALID_TOTAL 0 = min (s.getP P.RM_INVALID_TOTAL 0 + 1) 0xFFFFFFFF ∧ SameParams [pkey P.RM_INVALID_TOTAL 0] s u
      ∧ u = { s with now := u.now, ring := u.ring, params := u.params } := by
  have he : s.missedEdge = _ := countInvalid_early (s := { s with
    ring := { s.ring with lastValid := s.ring.lastValid + s.ring.period }
    now := max s.now ((s.ring.lastValid + s.ring.period + s.acceptWin) / subTick) }) hinv
  refine ⟨_, genrefMissedEdge_locked hl (by rw [he]; rfl), ?_⟩
  rw [he]
  exact ⟨rfl, State.getP_setP_same _ _ _ _, fun k hk => SMap.get_set_other _ _ (by simpa using hk) _, rfl⟩

/-- The eighth invalid edge in a row. -/
theorem genrefMissedEdge_holdover (s : State) (hl : s.getP P.RM_STATE 0 = 2) (hinv : s.ring.invalid = 7) :
    ∃ u, exec .genrefMissedEdge s = .next u ∧ u.getP P.RM_STATE 0 = 3 ∧ u.ring.period = s.ring.period ∧ ServiceCond.holdover ∈ u.ctl.service := by
  have he : s.missedEdge = _ := countInvalid_last (s := { s with
    ring := { s.ring with lastValid := s.ring.lastValid + s.ring.period }
    now := max s.now ((s.ring.lastValid + s.ring.period + s.acceptWin) / subTick) }) hinv
  generalize hw : State.bumpSat _ P.RM_INVALID_TOTAL 0 1 = w at he
  have hlw : w.getP P.RM_STATE 0 = 2 := by
    rw [← hw, ← hl]; exact (State.getP_setP _ _ _ _ _ _).trans (if_neg (by decide))
  have hring : w.ring.period = s.ring.period := by rw [← hw]; rfl
  have hpend : w.pending = s.pending := by rw [← hw]; rfl
  obtain ⟨hstate, hr, hserv, hp⟩ := enterHoldover_locked hlw
  refine ⟨_, genrefMissedEdge_locked hl (by rw [he, hp, hpend]), ?_⟩
  rw [he]
  exact ⟨hstate, by rw [hr, ← hring], hserv⟩

/-! ### The trigger input -/

/-- A counted trigger edge of a device that has no bin and no common start. -/
theorem trigInEdge_counted (t : Nat) (s : State) (harm : s.getP P.TRIG_ARM 0 = 1) (hat : s.ring.armedAt + 1 ≤ t) (hbins : s.binList = [])
    (hstarts : s.au.starts = []) : ∃ u, exec (.trigInEdge t) s = .next u ∧ u.getP P.TRIG_TIME 0 = t
      ∧ u.getP P.TRIG_COUNT 0 = (s.getP P.TRIG_COUNT 0 + 1) % 2 ^ 32
      ∧ u.getP P.TRIG_ARM 0 = 0 ∧ SameParams [pkey P.TRIG_TIME 0, pkey P.TRIG_COUNT 0, pkey P.TRIG_ARM 0] s u
      ∧ u = { s with now := max s.now t, params := u.params, ctl := u.ctl } := by
  generalize hw : (((s.atLeast t).setP P.TRIG_TIME 0 t).bumpWrap P.TRIG_COUNT 0 1).setP P.TRIG_ARM 0 0 = w
  have hexec : exec (.trigInEdge t) s = .next (w.post 0x0C 0x1 1 (w.getP P.TRIG_COUNT 0)) := by
    have hb : (w.post 0x0C 0x1 1 (w.getP P.TRIG_COUNT 0)).binList = [] := by rw [State.binList, State.post_fr, ← hw]; exact hbins
    have hs : (w.post 0x0C 0x1 1 (w.getP P.TRIG_COUNT 0)).au.starts = [] := by rw [State.post_au, ← hw]; exact hstarts
    refine exec_next (i := .trigInEdge t) rfl (by simp [Instr.wellFormed]) ?_ (by rw [State.post_pending, ← hw]; rfl)
    refine (if_pos ⟨harm, hat⟩).trans ?_
    simp only [hw, State.recordTrigger, hb, List.foldl_nil, State.audioTrigger, hs, List.filter_nil]
  have hpar : w.params = SMap.set pdef (SMap.set pdef (SMap.set pdef s.params (pkey P.TRIG_TIME 0) t) (pkey P.TRIG_COUNT 0)
      ((s.getP P.TRIG_COUNT 0 + 1) % 2 ^ 32)) (pkey P.TRIG_ARM 0) 0 := by
    rw [← hw]; simp only [State.setP, State.bumpWrap, State.getP]
    rw [SMap.get_set_other _ _ (by decide)]; rfl
  refine ⟨_, hexec, ?_, ?_, ?_, fun k hk => ?_, ?_⟩
  · rw [State.post_getP, State.getP, hpar, SMap.get_set_other _ _ (by decide), SMap.get_set_other _ _ (by decide), SMap.get_set_same]
  · rw [State.post_getP, State.getP, hpar, SMap.get_set_other _ _ (by decide), SMap.get_set_same]
  · rw [State.post_getP, State.getP, hpar, SMap.get_set_same]
  · simp only [List.mem_cons, List.not_mem_nil, or_false, not_or] at hk
    obtain ⟨h1, h2, h3⟩ := hk
    rw [State.post_params, hpar, SMap.get_set_other _ _ h3, SMap.get_set_other _ _ h2, SMap.get_set_other _ _ h1]
  · obtain ⟨_, _, _, _, h⟩ := eventOnly_post w 0x0C 0x1 1 (w.getP P.TRIG_COUNT 0)
    rw [h, ← hw]; rfl

theorem trigInEdge_disarmed (t : Nat) (s : State) (harm : s.getP P.TRIG_ARM 0 = 0) : exec (.trigInEdge t) s = .next { s with now := max s.now t } :=
  exec_next (i := .trigInEdge t) rfl (by simp [Instr.wellFormed]) (if_neg fun h => absurd (harm.symm.trans h.1) (by decide)) rfl

/-! ### Parameters that differ -/

theorem SameParams.trans {l : List Nat} {s t u : State} (h : SameParams l s t) (g : SameParams l t u) : SameParams l s u :=
  fun k hk => (g k hk).trans (h k hk)

theorem SameParams.mono {l m : List Nat} {s t : State} (h : SameParams l s t) (hm : ∀ k ∈ l, k ∈ m) : SameParams m s t :=
  fun k hk => h k fun hl => hk (hm k hl)

theorem sameParams_of_params {l : List Nat} {s t : State} (h : t.params = s.params) : SameParams l s t := fun k _ => by rw [h]

theorem sameParams_setP {l : List Nat} {s : State} {i e : Nat} (hm : pkey i e ∈ l) (v : Nat) : SameParams l s (s.setP i e v) :=
  fun _ hk => SMap.get_set_other _ _ (fun h => hk (by rw [h]; exact hm)) _

theorem SameParams.getP {l : List Nat} {s t : State} (h : SameParams l s t) {i e : Nat} (hk : pkey i e ∉ l) : t.getP i e = s.getP i e := h _ hk

/-- The parameters at the keys `l` may differ, and nothing else. -/
def ParamsOnly (l : List Nat) (s t : State) : Prop := t = { s with params := t.params } ∧ SameParams l s t

theorem ParamsOnly.refl (l : List Nat) (s : State) : ParamsOnly l s s := ⟨rfl, fun _ _ => rfl⟩

theorem ParamsOnly.trans {l : List Nat} {s t u : State} (h : ParamsOnly l s t) (g : ParamsOnly l t u) : ParamsOnly l s u := by
  obtain ⟨hf, hp⟩ := h
  obtain ⟨gf, gp⟩ := g
  refine ⟨?_, hp.trans gp⟩
  generalize u.params = q at gf ⊢
  rw [gf, hf]

theorem paramsOnly_setP {l : List Nat} {i e : Nat} (hm : pkey i e ∈ l) (s : State) (v : Nat) : ParamsOnly l s (s.setP i e v) :=
  ⟨rfl, sameParams_setP hm v⟩

theorem ParamsOnly.setP {l : List Nat} {s t : State} (h : ParamsOnly l s t) {i e : Nat} (hm : pkey i e ∈ l) (v : Nat) : ParamsOnly l s (t.setP i e v) :=
  h.trans (paramsOnly_setP hm t v)

/-- A fold whose steps change parameters at the keys `l` only. -/
theorem paramsOnly_foldl {α : Type} {l : List Nat} {f : State → α → State} {m : List α} (h : ∀ a ∈ m, ∀ t, ParamsOnly l t (f t a)) (s : State) :
    ParamsOnly l s (m.foldl f s) :=
  List.foldlRecOn (motive := fun t : State => ParamsOnly l s t) m f (ParamsOnly.refl _ _) fun t ht a ha => ht.trans (h a ha t)

/-! ### Bandwidth -/

theorem bw_mem_bwKeys {i : Nat} (hi : i < 5) : pkey P.BW_RESERVED i ∈ bwKeys ∧ pkey P.BW_SHORTFALL i ∈ bwKeys := by
  simp only [bwKeys, List.mem_flatMap]
  exact ⟨⟨i, List.mem_range.2 hi, List.mem_cons_self⟩, ⟨i, List.mem_range.2 hi, List.mem_cons_of_mem _ List.mem_cons_self⟩⟩

/-- What follows the reservations: their own parameters only. -/
theorem bwReport_paramsOnly (s : State) : ParamsOnly bwKeys s s.bwReport := by
  unfold State.bwReport
  refine List.foldlRecOn (motive := fun t : State => ParamsOnly bwKeys s t) _ _ (ParamsOnly.refl _ _) fun t ht i hi => ?_
  have hmem := bw_mem_bwKeys (List.mem_range.1 hi)
  exact (ht.setP hmem.1 _).setP hmem.2 _

theorem bwSet_frame (rank owner bps : Nat) (s : State) :
    s.bwSet rank owner bps = { s with params := (s.bwSet rank owner bps).params, dram := { s.dram with bw := SMap.set (fun _ => 0) s.dram.bw (bwKey rank owner) bps } }
      ∧ SameParams bwKeys s (s.bwSet rank owner bps) :=
  bwReport_paramsOnly { s with dram := { s.dram with bw := SMap.set (fun _ => 0) s.dram.bw (bwKey rank owner) bps } }

/-- Parameters and the DRAM controller may differ, and nothing else. -/
def State.withDram (s : State) (p : SMap Nat) (d : Dram) : State := { s with params := p, dram := d }

theorem recordBw_frame (s : State) : ∃ p d, s.recordBw = s.withDram p d ∧ SameParams bwKeys s s.recordBw := by
  have key : ∀ (m : List Nat) (f : Nat → Nat), ∃ p d, m.foldl (fun t i => t.bwSet 2 i (f i)) s = s.withDram p d
      ∧ SameParams bwKeys s (m.foldl (fun t i => t.bwSet 2 i (f i)) s) := by
    intro m f
    refine List.foldlRecOn (motive := fun t : State => ∃ p d, t = s.withDram p d ∧ SameParams bwKeys s t) m _ ⟨_, _, rfl, fun _ _ => rfl⟩ ?_
    rintro _ ⟨p, d, rfl, hp⟩ i -
    obtain ⟨hf, hs⟩ := bwSet_frame 2 i (f i) (s.withDram p d)
    exact ⟨_, _, hf, hp.trans hs⟩
  exact key (List.range 8) fun p => 2 * s.recordRate p

/-- The parameters that credits report. -/
def ratioKeys : List Nat := (List.range 8).map fun p => pkey P.FR_RATIO p

theorem renewCredits_frame (s : State) :
    (∃ p f, s.renewCredits = { s with params := p, fr := f } ∧ f.bins = s.fr.bins) ∧ SameParams ratioKeys s s.renewCredits := by
  unfold State.renewCredits
  split
  · exact ⟨⟨_, _, rfl, rfl⟩, fun _ _ => rfl⟩
  · have key := paramsOnly_foldl (l := ratioKeys) (m := List.range 8)
      (f := fun t i => t.setP P.FR_RATIO i (if s.fr.stored.getD i 0 = 0 then 0 else rdivN (s.fr.rawBytes.getD i 0 * 1000) (s.fr.stored.getD i 0)))
      (fun i hi t => paramsOnly_setP (List.mem_map.2 ⟨i, hi, rfl⟩) t _) s
    generalize List.foldl _ s (List.range 8) = u at key ⊢
    obtain ⟨hf, hp⟩ := key
    generalize u.params = q at hf
    subst hf
    exact ⟨⟨_, _, rfl, rfl⟩, hp⟩

/-! ### The master period boundary of a device at rest -/

/-- What the rest of a master period boundary finds to do nothing. -/
def State.still (s : State) : Prop :=
  s.ctl.staged = [] ∧ (∀ p, p < 8 → (s.pipe p).change = none) ∧ s.pw.step = .none ∧ (∀ c, c < 16 → s.cvState c = 0 ∧ (s.canvas c).flips = [])
    ∧ s.au.starts = [] ∧ (∀ n, n < 16 → s.apState n ≠ 6 ∧ (s.port n).lost = 0) ∧ s.binList = [] ∧ (∀ e, e < 2 → (s.engine e).dropped = 0)
    ∧ s.colour.commit = none ∧ ∀ g, g < 28 → (s.laneGroup g).run = none

/-- A master period begins at tick `t`, and the next one follows a period later. -/
def State.nextPeriod (t : Nat) (s : State) : State :=
  { s with
    now := max s.now t
    ring := { s.ring with tag := (s.ring.tag + 1) % 2 ^ 32, boundary := exactTime s.ring.next t, next := exactTime s.ring.next t + s.ring.period } }

theorem startMasterPeriod_still {s : State} (h : s.still) (hl : s.getP P.RM_STATE 0 ≠ 2) (t : Nat) : s.startMasterPeriod t = s.nextPeriod t := by
  obtain ⟨-, -, -, hcv, -⟩ := h
  have hcorr : ∀ n, (s.atLeast t).correction n = 0 := fun n => if_neg hl
  simp only [State.startMasterPeriod, hcorr, Int.add_zero, Int.toNat_natCast]
  refine (moveBoundary_idle (fun c hc => ?_) _ _ _).trans ?_
  · exact (hcv c hc).1
  · simp only [State.atLeast, State.nextPeriod, Nat.reducePow]

theorem audioRecords_still {s : State} (h : s.still) (tag b : Nat) : s.audioRecords tag b = s := by
  obtain ⟨-, -, -, -, -, -, hbins, -⟩ := h
  exact foldl_fixed_of_mem fun n _ => by simp [State.capturing, State.suspendedFor, hbins]

theorem applyReached_still {s : State} (h : s.still) (b : Boundary) : s.applyReached b = s.reach b := by
  obtain ⟨hstaged, -⟩ := h
  have hs : (s.reach b).ctl.staged = [] := hstaged
  simp only [State.applyReached, State.applyChanges, hs, List.filter_nil, List.flatMap_nil, List.foldl_nil, State.answerApplied, List.filterMap_nil,
    List.eraseDups_nil, State.applyWrites, State.putParams]
  rw [show (s.reach b) = { s.reach b with ctl := { (s.reach b).ctl with staged := [] } } by rw [← hs]]

theorem still_reach {s : State} (h : s.still) (b : Boundary) : (s.reach b).still := h

theorem settleFlips_still {s : State} (h : s.still) {c : Nat} (hc : c < 16) (tag : Nat) : s.settleFlips c tag = s := by
  obtain ⟨-, -, -, hcv, -⟩ := h
  simp [State.settleFlips, (hcv c hc).2]

theorem absentBindings_still {s : State} (h : s.still) : s.absentBindings = s := by
  obtain ⟨-, hch, -⟩ := h
  exact foldl_fixed_of_mem fun p hp => by simp [hch p (List.mem_range.1 hp)]

theorem still_modPort {s : State} (h : s.still) (n : Nat) (f : AudioPort → AudioPort) (hf : ∀ x, (f x).lost = x.lost) : (s.modPort n f).still := by
  obtain ⟨h1, h2, h3, h4, h5, h6, h7⟩ := h
  refine ⟨h1, h2, h3, h4, h5, fun k hk => ⟨(h6 k hk).1, ?_⟩, h7⟩
  rw [State.port_modPort]
  split
  · next he => subst he; rw [hf]; exact (h6 _ hk).2
  · exact (h6 k hk).2

theorem audioPeriod_still {s : State} (h : s.still) (b : Nat) :
    (s.audioPeriod b).still ∧ (s.audioPeriod b).ring = s.ring ∧ (s.audioPeriod b).now = s.now ∧ (s.audioPeriod b).pending = s.pending := by
  have hstarts : s.au.starts = [] := by obtain ⟨-, -, -, -, hs, -⟩ := h; exact hs
  unfold State.audioPeriod
  simp only [hstarts, List.filter_nil, List.foldl_nil]
  refine List.foldlRecOn (motive := fun t : State => t.still ∧ t.ring = s.ring ∧ t.now = s.now ∧ t.pending = s.pending) _ _ ⟨h, rfl, rfl, rfl⟩ ?_
  rintro t ⟨ht, hr, hn, hp⟩ k hk
  have hport := by obtain ⟨-, -, -, -, -, hport, -⟩ := ht; exact hport k (List.mem_range.1 hk)
  rw [if_pos hport.2, if_neg hport.1]
  exact ⟨still_modPort ht _ _ fun _ => rfl, hr, hn, hp⟩

theorem darkBoundary_still {s : State} (h : s.still) : s.darkBoundary = s := by
  obtain ⟨-, -, hpw, -⟩ := h
  exact if_neg fun hc => by rw [hpw] at hc; exact absurd hc.1 (by decide)

theorem cvState_not_mem_bwKeys (c : Nat) : pkey (P.cv c P.CV_STATE) 0 ∉ bwKeys := by
  intro h
  obtain ⟨i, hi, h⟩ := List.mem_flatMap.1 h
  have := List.mem_range.1 hi
  simp only [List.mem_cons, List.not_mem_nil, or_false, pkey, P.cv, P.CV_STATE, P.BW_RESERVED, P.BW_SHORTFALL] at h
  omega

theorem cvState_not_mem_ratioKeys {c : Nat} (_ : c < 16) : pkey (P.cv c P.CV_STATE) 0 ∉ ratioKeys := by
  intro h
  obtain ⟨i, hi, h⟩ := List.mem_map.1 h
  have := List.mem_range.1 hi
  simp only [pkey, P.cv, P.CV_STATE, P.FR_RATIO] at h
  omega

/-- A state that differs where bandwidth and credits are reported is as still. -/
theorem still_of_records {s t : State} (h : s.still) (hf : ∃ p d f, t = { s with params := p, dram := d, fr := f } ∧ f.bins = s.fr.bins)
    (hcv : ∀ c, c < 16 → t.cvState c = s.cvState c) (hap : ∀ n, n < 16 → t.apState n = s.apState n) : t.still := by
  obtain ⟨h1, h2, h3, h4, h5, h6, h7, h8, h9, h10⟩ := h
  obtain ⟨p, d, f, rfl, hb⟩ := hf
  exact ⟨h1, h2, h3, fun c hc => ⟨(hcv c hc).trans (h4 c hc).1, (h4 c hc).2⟩, h5, fun n hn => ⟨by rw [hap n hn]; exact (h6 n hn).1, (h6 n hn).2⟩,
    (congrArg (List.map Prod.fst) hb).trans h7, h8, h9, h10⟩

theorem apState_not_mem (n : Nat) : pkey (P.ap n P.AP_STATE) 0 ∉ bwKeys ∧ pkey (P.ap n P.AP_STATE) 0 ∉ ratioKeys := by
  constructor
  · intro h
    obtain ⟨i, hi, h⟩ := List.mem_flatMap.1 h
    have := List.mem_range.1 hi
    simp only [List.mem_cons, List.not_mem_nil, or_false, pkey, P.ap, P.AP_STATE, P.BW_RESERVED, P.BW_SHORTFALL] at h
    omega
  · intro h
    obtain ⟨i, hi, h⟩ := List.mem_map.1 h
    have := List.mem_range.1 hi
    simp only [pkey, P.ap, P.AP_STATE, P.FR_RATIO] at h
    omega

theorem recordPeriod_still {s : State} (h : s.still) :
    s.recordPeriod.still ∧ s.recordPeriod.ring = s.ring ∧ s.recordPeriod.now = s.now ∧ s.recordPeriod.pending = s.pending := by
  have hbins : s.binList = [] := by obtain ⟨-, -, -, -, -, -, hb, -⟩ := h; exact hb
  simp only [State.recordPeriod, hbins, List.foldl_nil]
  obtain ⟨p, d, hrec, hrp⟩ := recordBw_frame s
  obtain ⟨⟨q, f, hren, hb⟩, hcp⟩ := renewCredits_frame s.recordBw
  have hsame : ∀ i e, pkey i e ∉ bwKeys → pkey i e ∉ ratioKeys → s.recordBw.renewCredits.getP i e = s.getP i e :=
    fun i e h1 h2 => (hcp.getP h2).trans (hrp.getP h1)
  rw [hrec] at hren hb
  rw [← hrec] at hren
  have hfinal : s.recordBw.renewCredits = { s with params := q, dram := d, fr := f } := by rw [hren, hrec]; rfl
  refine ⟨still_of_records h ⟨q, d, f, hfinal, hb⟩
    (fun c hc => hsame (P.cv c P.CV_STATE) 0 (cvState_not_mem_bwKeys c) (cvState_not_mem_ratioKeys hc))
    (fun n _ => hsame (P.ap n P.AP_STATE) 0 (apState_not_mem n).1 (apState_not_mem n).2), ?_⟩
  rw [hfinal]
  exact ⟨rfl, rfl, rfl⟩

theorem still_modEngine {s : State} (h : s.still) (n : Nat) (f : Engine → Engine) (hf : ∀ x, (f x).dropped = x.dropped) : (s.modEngine n f).still := by
  obtain ⟨h1, h2, h3, h4, h5, h6, h7, h8, h9⟩ := h
  refine ⟨h1, h2, h3, h4, h5, h6, h7, fun e he => ?_, h9⟩
  rw [State.engine_modEngine]
  split
  · next hn => subst hn; rw [hf]; exact h8 _ he
  · exact h8 e he

theorem codecPeriod_still {s : State} (h : s.still) :
    s.codecPeriod.still ∧ s.codecPeriod.ring = s.ring ∧ s.codecPeriod.now = s.now ∧ s.codecPeriod.pending = s.pending := by
  unfold State.codecPeriod
  have hpace : (fun t : State => t.still ∧ t.ring = s.ring ∧ t.now = s.now ∧ t.pending = s.pending)
      ((List.range 2).foldl (fun t e => t.startPacing e) s) := by
    refine List.foldlRecOn (motive := fun t : State => t.still ∧ t.ring = s.ring ∧ t.now = s.now ∧ t.pending = s.pending) _ _ ⟨h, rfl, rfl, rfl⟩ ?_
    rintro t ⟨ht, hr, hn, hp⟩ e -
    simp only [State.startPacing]
    split
    · exact ⟨still_modEngine ht _ _ fun _ => rfl, hr, hn, hp⟩
    · exact ⟨ht, hr, hn, hp⟩
  generalize (List.range 2).foldl (fun t e => State.startPacing e t) s = u at hpace ⊢
  obtain ⟨hu, hr, hn, hp⟩ := hpace
  have hfix : (List.range 2).foldl (init := u) (fun t e =>
      let n := (t.engine e).dropped
      if n = 0 then t else (t.deadlineDrop 5 0xB e n).modEngine e fun x => { x with dropped := 0 }) = u := by
    obtain ⟨-, -, -, -, -, -, -, hdrop, -⟩ := hu
    exact foldl_fixed_of_mem fun e he => if_pos (hdrop e (List.mem_range.1 he))
  rw [hfix]
  exact ⟨hu, hr, hn, hp⟩

theorem canvasMaster_still {s : State} (h : s.still) (b : Nat) : s.canvasMaster b = s := by
  obtain ⟨-, -, -, hcv, -, -, -, -, hcommit, -⟩ := h
  exact foldl_fixed_of_mem fun c hc => by simp [(hcv c (List.mem_range.1 hc)).1, hcommit]

theorem calRuns_still {s : State} (h : s.still) : s.calRuns = s := by
  obtain ⟨-, -, -, -, -, -, -, -, -, hrun⟩ := h
  exact foldl_fixed_of_mem fun g hg => by simp [hrun g (List.mem_range.1 hg)]

theorem countPeriods_unstaged {s : State} (h : s.ctl.staged = []) : s.countPeriods = s := by
  simp only [State.countPeriods, h, List.filter_nil, List.map_nil, List.filterMap_nil, List.eraseDups_nil, List.foldl_nil]
  rw [show s = { s with ctl := { s.ctl with staged := [] } } by rw [← h]]

theorem sendPmark_frame (s : State) : ∃ l, s.sendPmark = { s with sent := l } := by
  unfold State.sendPmark
  split <;> exact ⟨_, rfl⟩

theorem sendPmark_fields (s : State) :
    s.sendPmark.ctl = s.ctl ∧ s.sendPmark.ring = s.ring ∧ s.sendPmark.now = s.now ∧ s.sendPmark.pending = s.pending := by
  obtain ⟨l, h⟩ := sendPmark_frame s
  rw [h]
  exact ⟨rfl, rfl, rfl, rfl⟩

theorem still_staged {s : State} (h : s.still) : s.ctl.staged = [] := h.1

/-- A master period boundary of a device at rest. -/
theorem masterBoundary_still {s : State} (h : s.still) (hl : s.getP P.RM_STATE 0 ≠ 2) (t : Nat) :
    (s.masterBoundary t).ring = (s.nextPeriod t).ring
      ∧ (s.masterBoundary t).now = max s.now t ∧ (s.masterBoundary t).pending = s.pending := by
  simp only [State.masterBoundary]
  have hstart := startMasterPeriod_still h hl t
  have h1 : (s.startMasterPeriod t).still := by rw [hstart]; exact h
  rw [audioRecords_still h1, applyReached_still h1]
  have h2 : ((s.startMasterPeriod t).reach .master).still := still_reach h1 _
  have hring : ((s.startMasterPeriod t).reach .master).ring = (s.nextPeriod t).ring := by rw [hstart]; rfl
  have hnow : ((s.startMasterPeriod t).reach .master).now = max s.now t := by rw [hstart]; rfl
  have hpend : ((s.startMasterPeriod t).reach .master).pending = s.pending := by rw [hstart]; rfl
  generalize (s.startMasterPeriod t).reach .master = u at h2 hring hnow hpend ⊢
  generalize (s.startMasterPeriod t).ring.boundary / subTick = b
  have hflips : (List.range 16).foldl (fun v c => if v.canvasBoundary c == .master then v.settleFlips c v.ring.tag else v) u = u :=
    foldl_fixed_of_mem fun c hc => ite_eq_right_iff.2 fun _ => settleFlips_still h2 (List.mem_range.1 hc) _
  rw [hflips, absentBindings_still h2]
  obtain ⟨h3, hr3, hn3, hp3⟩ := audioPeriod_still h2 b
  rw [darkBoundary_still h3]
  obtain ⟨h4, hr4, hn4, hp4⟩ := recordPeriod_still h3
  obtain ⟨h5, hr5, hn5, hp5⟩ := codecPeriod_still h4
  rw [canvasMaster_still h5, calRuns_still h5]
  generalize (u.audioPeriod b).recordPeriod.codecPeriod = v at h5 hr5 hn5 hp5 ⊢
  obtain ⟨hc6, hr6, hn6, hp6⟩ := sendPmark_fields v
  rw [countPeriods_unstaged (by rw [hc6]; exact still_staged h5)]
  exact ⟨hr6.trans (hr5.trans (hr4.trans (hr3.trans hring))), hn6.trans (hn5.trans (hn4.trans (hn3.trans hnow))),
    hp6.trans (hp5.trans (hp4.trans (hp3.trans hpend)))⟩

end Sys2Proof.Machine

open Sys2Proof Sys2Proof.Machine in
/-- Settles O16: an edge within the acceptance window aims the next boundary at the reference, other edges and missed ones are counted only, and a
master period boundary of a device at rest finds nothing to do but start the next frame tag. -/
theorem ringmasterFollowsItsReference : Obligations.RingmasterFollowsItsReference := by
  unfold Obligations.RingmasterFollowsItsReference
  refine ⟨genrefEdge_valid_effect, genrefEdge_early, fun t s hsrc => ?_, genrefMissedEdge_counted, genrefMissedEdge_holdover, fun t s hrest hl => ?_,
    trigInEdge_counted, trigInEdge_disarmed⟩
  · exact exec_next (i := .genrefEdge t) rfl (by simp [Instr.wellFormed]) (if_neg (by simp [hsrc])) rfl
  · obtain ⟨hring, hnow, hpend⟩ := masterBoundary_still hrest hl t
    exact ⟨_, exec_next (i := .masterPeriodBoundary t) rfl (by simp [Instr.wellFormed]) rfl hpend, hring, hnow⟩
end

section
/-! A statement of the firmware family that does not hold: a captured probe is no missed one (R177). -/

namespace Sys2Proof.Machine

/-- A probe of pipeline 0 whose pixel has been captured; its reply is still owed. -/
def capturedProbe : Probe := { canvas := false, unit := 0, phase := 0, x := 0, y := 0, ticket := 0, result := some 0 }

/-- Aipex restarts while the command of `capturedProbe` is in progress. -/
def restartingWithProbe : State :=
  let s := State.reset.setProbe 0 (some capturedProbe)
  { s with ctl := { s.ctl with
    restarting := true, flights := [{ ticket := 0, opcode := 0x0200, cmd := { win := 0, slot := 0 }, priv := true, started := true }] } }

/-- PROBE_MISSED of a probe that has its result does nothing. -/
theorem probeMissed_captured {k : Nat} {q : Probe} {s : State} (hk : k < 4) (hq : s.probe k = some q) (hr : q.result.isSome = true) :
    exec (.probeMissed k) s = .next s := by
  refine exec_next (i := .probeMissed k) rfl (decide_eq_true hk) ?_ rfl
  simp [hq, hr]

end Sys2Proof.Machine

open Sys2Proof Sys2Proof.Machine in
/-- Refutes O17: its clause on a final reply that falls due while Aipex does not run speaks of PROBE_MISSED of any probe. One that was captured (R177)
keeps its place, and no reply is owed. -/
theorem not_aipexRestartsAndFirmwareSwitches : ¬ Obligations.AipexRestartsAndFirmwareSwitches := by
  unfold Obligations.AipexRestartsAndFirmwareSwitches
  rintro ⟨⟨-, -, -, -, hmissed⟩, -⟩
  have hprobe : restartingWithProbe.probe 0 = some capturedProbe := rfl
  obtain ⟨t, ht, hnone, -⟩ := hmissed 0 capturedProbe _ restartingWithProbe (by decide) hprobe rfl rfl (fun _ h => absurd h List.not_mem_nil)
  have heq : restartingWithProbe = t := by
    have := (probeMissed_captured (by decide) hprobe rfl).symm.trans ht
    simpa using this
  rw [← heq, hprobe] at hnone
  exact absurd hnone (by simp)
end

section
/-! Partners (R45, R46, R64): arrivals reported, departures counted, quarantine and its ends. -/

namespace Sys2Proof.Machine

/-! ### Partner records and event records -/

theorem partner_post (s : State) (a b c d : Nat) (p : PartnerId) : (s.post a b c d).partner p = s.partner p := by
  simp only [State.partner, State.post_ctl_partners]

theorem post_onlyControl (s : State) (a b c d : Nat) : OnlyControl s (s.post a b c d) := by
  obtain ⟨w, v, m, e, h⟩ := eventOnly_post s a b c d
  rw [OnlyControl, h]

theorem OnlyControl.trans {s t u : State} (h : OnlyControl s t) (g : OnlyControl t u) : OnlyControl s u := by
  unfold OnlyControl at h g ⊢
  generalize u.ctl = x at g ⊢
  rw [g, h]

theorem setPartner_onlyControl (s : State) (p : PartnerId) (x : Partner) : OnlyControl s (s.setPartner p x) := rfl

theorem latchConfig_onlyControl (s : State) : OnlyControl s s.latchConfig := rfl

theorem partner_latchConfig (s : State) (q : PartnerId) : s.latchConfig.partner q = s.partner q := rfl

theorem view_latchConfig {s : State} {v : Nat} (h : v < s.ctl.views.length) : (s.latchConfig.view v).config = true := by
  rw [State.latchConfig, State.view_mapViews h, View.advance_config]

theorem view_post_config (s : State) (a b c d v : Nat) : ((s.post a b c d).view v).config = (s.view v).config := (sameFlags_post s a b c d v).2.1

theorem partner_setPartner_other (s : State) {p q : PartnerId} (x : Partner) (h : partnerKey q ≠ partnerKey p) :
    (s.setPartner p x).partner q = s.partner q := SMap.get_set_other _ _ h _

theorem postQuarantine_partner (e : Bool) (p q : PartnerId) (s : State) : (s.postQuarantine e p).partner q = s.partner q := partner_post _ _ _ _ _ _

theorem postQuarantine_onlyControl (e : Bool) (p : PartnerId) (s : State) : OnlyControl s (s.postQuarantine e p) := post_onlyControl _ _ _ _ _

/-- What reporting an arrival does. -/
theorem reportArrival_effect {p : PartnerId} {s : State} (hp : (s.partner p).present = true) (hr : (s.partner p).reported = false) :
    let t := s.reportArrival p
    (t.partner p).reported = true ∧ (t.partner p).present = true ∧ (∀ v, v < s.ctl.views.length → (t.view v).config = true)
      ∧ (∀ q, partnerKey q ≠ partnerKey p → t.partner q = s.partner q) ∧ OnlyControl s t := by
  dsimp only
  unfold State.reportArrival
  dsimp only
  rw [if_pos (by simp [hp, hr])]
  generalize hx : ({ s.partner p with reported := true, qPosted := (s.partner p).qPosted || (s.partner p).quarantined } : Partner) = x
  have hxr : x.reported = true ∧ x.present = true := by rw [← hx]; exact ⟨rfl, hp⟩
  generalize hy : ((s.setPartner p x).latchConfig).post 0x02 ((s.partner p).src / 4096) ((s.partner p).src % 4096) (s.partner p).payload = y
  have hpart : ∀ q, y.partner q = (s.setPartner p x).partner q := fun q => by rw [← hy, partner_post, partner_latchConfig]
  have hview : ∀ v, v < s.ctl.views.length → (y.view v).config = true := fun v hv => by
    rw [← hy, view_post_config]
    exact view_latchConfig (s := s.setPartner p x) hv
  have hctl : OnlyControl s y := by
    rw [← hy]
    exact ((setPartner_onlyControl s p x).trans (latchConfig_onlyControl _)).trans (post_onlyControl _ _ _ _ _)
  split
  · refine ⟨?_, ?_, fun v hv => ?_, fun q hq => ?_, hctl.trans (postQuarantine_onlyControl _ _ _)⟩
    · rw [postQuarantine_partner, hpart, State.partner_setPartner_same]; exact hxr.1
    · rw [postQuarantine_partner, hpart, State.partner_setPartner_same]; exact hxr.2
    · exact (view_post_config _ _ _ _ _ v).trans (hview v hv)
    · rw [postQuarantine_partner, hpart, partner_setPartner_other _ _ hq]
  · refine ⟨?_, ?_, hview, fun q hq => ?_, hctl⟩
    · rw [hpart, State.partner_setPartner_same]; exact hxr.1
    · rw [hpart, State.partner_setPartner_same]; exact hxr.2
    · rw [hpart, partner_setPartner_other _ _ hq]

/-- What leaving quarantine does. -/
theorem leaveQuarantine_effect (p : PartnerId) (s : State) :
    let t := s.leaveQuarantine p
    (t.partner p).quarantined = false ∧ (t.partner p).departs = [] ∧ (t.partner p).present = (s.partner p).present ∧ OnlyControl s t
      ∧ t.ctl.flights = s.ctl.flights ∧ t.aipexDown = s.aipexDown := by
  dsimp only
  unfold State.leaveQuarantine
  dsimp only
  split
  · refine ⟨?_, ?_, ?_, (setPartner_onlyControl s p _).trans (postQuarantine_onlyControl _ _ _), ?_, ?_⟩
    · rw [postQuarantine_partner, State.partner_setPartner_same]
    · rw [postQuarantine_partner, State.partner_setPartner_same]
    · rw [postQuarantine_partner, State.partner_setPartner_same]
    · exact State.post_ctl_flights _ _ _ _ _
    · simp only [State.postQuarantine, State.aipexDown, State.post_ctl_fwReady, State.post_ctl_restarting, State.post_ctl_switch]; rfl
  · refine ⟨?_, ?_, ?_, rfl, rfl, rfl⟩ <;> rw [State.partner_setPartner_same]

/-- A client window has no traffic of its own to resume. -/
theorem resumeTraffic_client (w : Nat) (s : State) : s.resumeTraffic { kind := 5, pos := w } = s := by
  simp [State.resumeTraffic]

theorem partnerDeparts_effect (p : PartnerId) (s : State) (hp : (s.partner p).present = true) :
    ((s.partnerDeparts p).partner p).present = false
      ∧ ((s.partnerDeparts p).partner p).departs = s.now :: ((s.partner p).departs.filter fun d => decide (s.now < d + 10000000000))
      ∧ ((s.partnerDeparts p).partner p).quarantined = ((s.partner p).quarantined
          || decide (7 ≤ ((s.partner p).departs.filter fun d => decide (s.now < d + 10000000000)).length))
      ∧ ((s.partner p).reported = false → (s.partnerDeparts p).ctl.views = s.ctl.views ∧ (s.partnerDeparts p).ctl.hostMem = s.ctl.hostMem) := by
  have hlen : ∀ n, decide (8 ≤ n + 1) = decide (7 ≤ n) := fun n => decide_eq_decide.2 (by omega)
  unfold State.partnerDeparts
  simp only [hp, if_true, List.length_cons, hlen]
  split
  · next hr =>
    refine ⟨?_, ?_, ?_, fun h => absurd (hr.symm.trans h) (by decide)⟩ <;>
      rw [partner_post, partner_latchConfig, State.partner_setPartner_same]
  · refine ⟨?_, ?_, ?_, fun _ => ⟨rfl, rfl⟩⟩ <;> rw [State.partner_setPartner_same]

theorem partnerArrivalReport_effect (p : PartnerId) (s : State) (hwf : p.wf = true) (hp : (s.partner p).present = true)
    (hr : (s.partner p).reported = false) (hcam : p.kind = 0 → s.camState p.pos = 5) :
    ∃ t, exec (.partnerArrivalReport p) s = .next t ∧ (t.partner p).reported = true ∧ (t.partner p).present = true
      ∧ (∀ v, v < s.ctl.views.length → (t.view v).config = true) ∧ (∀ q, partnerKey q ≠ partnerKey p → t.partner q = s.partner q)
      ∧ t = { s with now := max s.now ((s.partner p).since + 10000000), ctl := t.ctl } := by
  have hcond : ((s.partner p).present && (p.kind != 0 || s.camState p.pos == 5)) = true := by
    by_cases hk : p.kind = 0
    · simp [hp, hk, hcam hk]
    · simp [hp, hk]
  obtain ⟨h1, h2, h3, h4, h5⟩ := reportArrival_effect (s := s.atLeast ((s.partner p).since + 10000000)) (p := p) hp hr
  refine ⟨_, exec_next (i := .partnerArrivalReport p) rfl hwf (if_pos hcond) ?_, h1, h2, h3, h4, h5⟩
  rw [h5]; rfl

theorem quarantineExpiry_effect (w : Nat) (s : State) (hw : w < 64) (hp : (s.partner { kind := 5, pos := w }).present = true)
    (hq : (s.partner { kind := 5, pos := w }).quarantined = true) :
    ∃ t, exec (.quarantineExpiry { kind := 5, pos := w }) s = .next t ∧ (t.partner { kind := 5, pos := w }).quarantined = false
      ∧ (t.partner { kind := 5, pos := w }).departs = [] ∧ (t.partner { kind := 5, pos := w }).present = true
      ∧ t = { s with now := max s.now ((s.partner { kind := 5, pos := w }).since + 60000000000), ctl := t.ctl } := by
  obtain ⟨h1, h2, h3, h4, -⟩ := leaveQuarantine_effect { kind := 5, pos := w } (s.atLeast ((s.partner { kind := 5, pos := w }).since + 60000000000))
  refine ⟨_, exec_next (i := .quarantineExpiry { kind := 5, pos := w }) rfl (by simp [Instr.wellFormed, PartnerId.wf, hw])
    ((if_pos (by simp [hp, hq])).trans (resumeTraffic_client w _)) ?_, h1, h2, h3.trans hp, h4⟩
  rw [h4]; rfl

theorem namedPartner_client {c : Cmd} (hk : c.f 0 8 = 5) (hh : c.f 32 8 = 0) : namedPartner c = { kind := 5, pos := c.f 16 16 } := by
  simp only [namedPartner, hk, hh]

theorem entered_partner (s : State) (op : Nat) (c : Cmd) (p : PartnerId) : (s.entered op c).partner p = s.partner p := by
  obtain ⟨w, m, k, f, h⟩ := entered_frame s op c
  rw [h]; rfl

theorem quarantineRelease_effect (c : Cmd) (s : State) (ha : s.accepts true 0x0042 c) (ho : c.operands 8 0xFFFFFF000000FF00) (hk : c.f 0 8 = 5)
    (hpos : c.f 16 16 < 64) (hh : c.f 32 8 = 0) (hq : (s.partner { kind := 5, pos := c.f 16 16 }).quarantined = true) :
    ∃ t, exec (.quarantineRelease c) s = .next t ∧ Answered 0x0042 c 0 0 0 t
      ∧ (t.partner { kind := 5, pos := c.f 16 16 }).quarantined = false ∧ (t.partner { kind := 5, pos := c.f 16 16 }).departs = []
      ∧ t = { s with ctl := t.ctl, pw := t.pw } := by
  generalize hp : ({ kind := 5, pos := c.f 16 16 } : PartnerId) = p at hq ⊢
  have hwf : p.wf = true := by rw [← hp]; simp [PartnerId.wf, hpos]
  have hbody : quarantineReleaseBody { c := c, tk := s.newTicket, priv := s.privOf c } (s.entered 0x0042 c)
      = ((s.entered 0x0042 c).leaveQuarantine p, .ok) := by
    simp only [quarantineReleaseBody, namedPartner_client hk hh, hp, hwf, entered_partner, hq, Bool.and_self, if_true]
    rw [← hp, resumeTraffic_client]
  obtain ⟨h1, h2, -, h4, h5, h6⟩ := leaveQuarantine_effect p (s.entered 0x0042 c)
  have hd := s.aipexDown_of_ready ha.1.2.2.2.1
  have hfl : ((s.entered 0x0042 c).leaveQuarantine p).flight? s.newTicket = some (s.flightOf 0x0042 c) :=
    (State.flight?_congr h5 _).trans (s.entered_flight? 0x0042 c)
  have hup : ((s.entered 0x0042 c).leaveQuarantine p).aipexDown = false := by
    rw [h6]; exact (entered_runs s 0x0042 c).up hd
  have hpend : ((s.entered 0x0042 c).leaveQuarantine p).pending = s.pending := by rw [h4]; exact s.entered_pending 0x0042 c
  have hdone := submit_done (i := .quarantineRelease c) (spec := quarantineReleaseSpec) (body := quarantineReleaseBody) (code := 0) (len := 0) (r := 0)
    ha.1.1 ha (by simp [quarantineReleaseSpec, ho.1]) (by simpa [quarantineReleaseSpec, ho.1] using ho.2) (fun _ => rfl)
    (by rw [show quarantineReleaseSpec.op = 0x0042 from rfl, hbody])
    (by rw [show quarantineReleaseSpec.op = 0x0042 from rfl, hbody]; exact hpend)
  rw [show quarantineReleaseSpec.op = 0x0042 from rfl, hbody] at hdone
  refine ⟨_, hdone, finalReply_answered _ hup hfl (by decide) 0 0, ?_, ?_, ?_⟩
  · simp only [State.partner, State.finalReply_ctl_partners]; exact h1
  · simp only [State.partner, State.finalReply_ctl_partners]; exact h2
  · obtain ⟨x, y, h⟩ := finalReply_frame ((s.entered 0x0042 c).leaveQuarantine p) s.newTicket 0 0 0
    obtain ⟨w, m, k, f, he⟩ := entered_frame s 0x0042 c
    rw [h, h4, he]

end Sys2Proof.Machine

open Sys2Proof Sys2Proof.Machine in
/-- Settles O18: what reporting an arrival, counting a departure and leaving quarantine do to the partner's record and to the views. -/
theorem partnersAreReportedAndQuarantined : Obligations.PartnersAreReportedAndQuarantined := by
  unfold Obligations.PartnersAreReportedAndQuarantined
  refine ⟨partnerArrivalReport_effect, partnerDeparts_effect, quarantineExpiry_effect, quarantineRelease_effect, ?notQuarantined⟩
  case notQuarantined =>
    intro c s ha ho hk _ hh hq
    exact completes_reading (i := .quarantineRelease c) (spec := quarantineReleaseSpec) (body := quarantineReleaseBody) ha.1.1 ha
      (by simp [quarantineReleaseSpec, ho.1]) (by simpa [quarantineReleaseSpec, ho.1] using ho.2) (fun _ => rfl) (by decide)
      (by simp [quarantineReleaseBody, namedPartner_client hk hh, entered_partner, hq])
end

section
/-! The camera link (R86 to R105): what entering a state of Table 3-7 does, and the steps of training. -/

namespace Sys2Proof.Machine

/-! ### Event records -/

theorem EventsOnly.refl (s : State) : EventsOnly s s := ⟨EventOnly.refl s, RingsOnly.refl s⟩

theorem EventsOnly.trans {s t u : State} (h : EventsOnly s t) (g : EventsOnly t u) : EventsOnly s u := ⟨h.1.trans g.1, h.2.trans g.2⟩

theorem eventsOnly_postEvent (s : State) (e : Event) : EventsOnly s (s.postEvent e) := ⟨eventOnly_postEvent s e, ringsOnly_postEvent s e⟩

theorem eventsOnly_post (s : State) (a b c d : Nat) : EventsOnly s (s.post a b c d) := eventsOnly_postEvent s _

theorem eventsOnly_postTagged (s : State) (a b c d e : Nat) : EventsOnly s (s.postTagged a b c d e) := eventsOnly_postEvent s _

/-- The records that an event wrote, as new values of the control plane's rings. -/
theorem EventsOnly.rings {s t : State} (h : EventsOnly s t) :
    ∃ w v m a, t = { s with ctl := { s.ctl with wins := w, views := v, hostMem := m, aer := a } }
      ∧ ∀ n, (SMap.get (fun _ => {}) w n : Window).sameButRing (s.win n) := by
  obtain ⟨⟨w, v, m, a, rfl⟩, hr⟩ := h
  exact ⟨w, v, m, a, rfl, hr⟩

/-! ### Lane states -/

theorem settleLane_camera {k : Nat} (h : 1024 ≤ k) (s : State) : ∃ f, s.settleLane k = s.modLane k f := by
  unfold State.settleLane
  simp only [show ¬ (k < 1024 ∧ (s.laneWanted k).1 < (s.lane k).tx ∧ (s.lane k).tx = 3) by omega, if_false]
  exact ⟨_, rfl⟩

/-- Only the lanes named take another direction state. -/
theorem settleLanes_camera {l : List Nat} (h : ∀ k ∈ l, 1024 ≤ k) (s : State) :
    ∃ x, s.settleLanes l = { s with ln := { s.ln with lanes := x } } ∧ ∀ k, k ∉ l → SMap.get laneDef x k = s.lane k := by
  unfold State.settleLanes
  induction l generalizing s with
  | nil => exact ⟨_, rfl, fun _ _ => rfl⟩
  | cons j l ih =>
    obtain ⟨f, hf⟩ := settleLane_camera (h j (by simp)) s
    obtain ⟨x, hx, hl⟩ := ih (fun k hk => h k (by simp [hk])) (s.settleLane j)
    refine ⟨x, ?_, fun k hk => ?_⟩
    · rw [List.foldl_cons, hx, hf]; rfl
    · obtain ⟨hj, hk⟩ := not_or.1 (List.mem_cons.not.1 hk)
      rw [hl k hk, hf, State.lane_modLane, if_neg hj]

theorem groupLanes_camera {g k : Nat} (hg : g < 8) (hk : k ∈ groupLanes (16 + g)) : 1024 ≤ k := by
  simp only [groupLanes, show ¬ 16 + g < 16 by omega, show 16 + g < 24 by omega, if_false, if_true, List.mem_map] at hk
  obtain ⟨i, -, rfl⟩ := hk
  omega

/-! ### The device's own ALIGN column -/

theorem foldl_emit (f : Nat → Tx) : ∀ (l : List Nat) (s : State), l.foldl (fun t k => t.emit (f k)) s = { s with sent := (l.map f).reverse ++ s.sent }
  | [], s => rfl
  | k :: l, s => by rw [List.foldl_cons, foldl_emit f l]; simp [State.emit]

theorem sendAligns_eq (g : Nat) (s : State) : s.sendAligns g
    = State.modGroup g (fun y => { y with aseqTx := (y.aseqTx + 1) % 256 }) { s with sent := (alignsOf g (s.group g)).reverse ++ s.sent } := by
  simp only [State.sendAligns, foldl_emit, alignsOf]

/-! ### States of Table 3-7 -/

/-- The group's state and width, as Table 3-13 gives them. -/
def State.cgSet (g n : Nat) (s : State) : State :=
  (s.setP (P.cg g P.CG_STATE) 0 n).setP (P.cg g P.CG_WIDTH) 0 (if n = 5 then (s.group g).width else 0)

theorem cg_key_ne {g i j : Nat} (h : i ≠ j) : pkey (P.cg g i) 0 ≠ pkey (P.cg g j) 0 := by simp only [pkey, P.cg]; omega

theorem cgSet_params (g n : Nat) (s : State) : (s.cgSet g n).camState g = n ∧ (s.cgSet g n).getP (P.cg g P.CG_WIDTH) 0 = (if n = 5 then (s.group g).width else 0)
    ∧ SameParams [pkey (P.cg g P.CG_STATE) 0, pkey (P.cg g P.CG_WIDTH) 0] s (s.cgSet g n) := by
  refine ⟨?_, State.getP_setP_same _ _ _ _, (sameParams_setP (by simp) _).trans (sameParams_setP (by simp) _)⟩
  rw [State.camState, State.cgSet, State.getP_setP, if_neg (cg_key_ne (by decide)), State.getP_setP_same]

theorem dropArrival_frame (g : Nat) (s : State) : ∃ p, s.dropArrival g = { s with ctl := { s.ctl with partners := p } }
    ∧ (SMap.get partnerDef p (partnerKey (headId g))).present = ((s.partner (headId g)).present && (s.partner (headId g)).reported)
    ∧ ∀ q, partnerKey q ≠ partnerKey (headId g) → SMap.get partnerDef p (partnerKey q) = s.partner q := by
  unfold State.dropArrival
  dsimp only
  split
  · next h => exact ⟨_, rfl, by rw [h, Bool.and_true]; rfl, fun _ _ => rfl⟩
  · next h =>
    refine ⟨_, rfl, ?_, fun q hq => SMap.get_set_other _ _ hq _⟩
    rw [SMap.get_set_same, Bool.eq_false_iff.2 h, Bool.and_false]

/-- The head's arrival is dropped where ACTIVE is left. -/
theorem dropArrival_if (c : Prop) [Decidable c] (g : Nat) (s : State) :
    ∃ p, (if c then s.dropArrival g else s) = { s with ctl := { s.ctl with partners := p } }
      ∧ (SMap.get partnerDef p (partnerKey (headId g))).present = ((s.partner (headId g)).present && (!decide c || (s.partner (headId g)).reported))
      ∧ ∀ q, partnerKey q ≠ partnerKey (headId g) → SMap.get partnerDef p (partnerKey q) = s.partner q := by
  by_cases h : c
  · obtain ⟨p, h1, h2, h3⟩ := dropArrival_frame g s
    exact ⟨p, (if_pos h).trans h1, by rw [h2]; simp [h], h3⟩
  · exact ⟨_, if_neg h, by simp [h]; rfl, fun _ _ => rfl⟩

/-- Another state is entered: its parameters, the lanes' directions, the head that had not arrived, and in training the ALIGN column. -/
theorem enterGroup_groupIn {g n : Nat} {s : State} (hg : g < 8) (hn : s.camState g ≠ n) (reason : Nat) : GroupIn g n s (s.enterGroup g n reason) := by
  obtain ⟨hstate, hwidth, hsame⟩ := cgSet_params g n s
  have hframe : ∃ p, s.cgSet g n = { s with params := p } := ⟨_, rfl⟩
  unfold State.enterGroup
  dsimp only
  rw [if_neg hn]
  rw [show (s.setP (P.cg g P.CG_STATE) 0 n).setP (P.cg g P.CG_WIDTH) 0 (if n = 5 then (s.group g).width else 0) = s.cgSet g n from rfl]
  generalize s.cgSet g n = s1 at hstate hwidth hsame hframe ⊢
  obtain ⟨p, rfl⟩ := hframe
  obtain ⟨w, v, m, a, hpost, hrings⟩ := (eventsOnly_postTagged { s with params := p } 0x40 0x2 g
    (n + at' 8 (s.camState g) + at' 16 reason + at' 24 (if n = 5 then (s.group g).width else 0))
    (((State.group { s with params := p } g).lastTag).getD s.ring.tag)).rings
  rw [show ∀ x, State.postCam 0x40 0x2 g x g { s with params := p }
    = State.postTagged 0x40 0x2 g x (((State.group { s with params := p } g).lastTag).getD s.ring.tag) { s with params := p } from fun _ => rfl, hpost]
  obtain ⟨x, hset, hlanes⟩ := settleLanes_camera (fun k => groupLanes_camera hg)
    { s with params := p, ctl := { s.ctl with wins := w, views := v, hostMem := m, aer := a } }
  rw [hset]
  obtain ⟨pt, hdrop, hhead, hothers⟩ := dropArrival_if (s.camState g = 5 ∧ n ≠ 5) g
    { s with params := p, ctl := { s.ctl with wins := w, views := v, hostMem := m, aer := a }, ln := { s.ln with lanes := x } }
  rw [hdrop]
  have hpres : (SMap.get partnerDef pt (partnerKey (headId g))).present
      = ((s.partner (headId g)).present && (s.camState g != 5 || n == 5 || (s.partner (headId g)).reported)) := by
    refine hhead.trans (congrArg (fun b => (s.partner (headId g)).present && (b || (s.partner (headId g)).reported)) ?_)
    by_cases h5 : s.camState g = 5 <;> by_cases hn5 : n = 5 <;> simp [h5, hn5]
  by_cases ht : 1 ≤ n ∧ n ≤ 4
  · rw [if_pos ht, sendAligns_eq]
    simp only [GroupIn, if_pos ht]
    refine ⟨hstate, hwidth, hsame, fun k hk => hlanes k hk, rfl, ?_, fun h hh => ?_, rfl, hpres, hothers, ⟨_, _, _, _, rfl⟩, hrings⟩
    · rw [State.group_modGroup, if_pos rfl]; rfl
    · rw [State.group_modGroup, if_neg hh]; rfl
  · rw [if_neg ht]
    refine ⟨hstate, hwidth, hsame, fun k hk => hlanes k hk, ?_, ?_, fun _ _ => rfl, rfl, hpres, hothers, ⟨_, _, _, _, rfl⟩, hrings⟩
    · rw [if_neg ht]; rfl
    · rw [if_neg ht]; rfl

/-! ### What a state change keeps for the steps that follow -/

theorem GroupIn.pending {g n : Nat} {e t : State} (h : GroupIn g n e t) : t.pending = e.pending := by
  obtain ⟨-, -, -, -, -, -, -, -, -, -, ⟨_, _, _, _, hf⟩, -⟩ := h
  rw [hf]

theorem GroupIn.laneGroup {g n : Nat} {e t : State} (h : GroupIn g n e t) (k : Nat) : t.laneGroup k = e.laneGroup k := by
  obtain ⟨-, -, -, -, -, -, -, -, -, -, ⟨_, _, _, _, hf⟩, -⟩ := h
  rw [hf]; rfl

theorem GroupIn.now {g n : Nat} {e t : State} (h : GroupIn g n e t) : t.now = e.now := by
  obtain ⟨-, -, -, -, -, -, -, -, -, -, ⟨_, _, _, _, hf⟩, -⟩ := h
  rw [hf]

theorem GroupIn.state {g n : Nat} {e t : State} (h : GroupIn g n e t) : t.camState g = n := h.1

theorem GroupIn.keeps {g n : Nat} {e t : State} (h : GroupIn g n e t) {i j : Nat}
    (hk : pkey i j ∉ [pkey (P.cg g P.CG_STATE) 0, pkey (P.cg g P.CG_WIDTH) 0]) : t.getP i j = e.getP i j := h.2.2.1.getP hk

theorem GroupIn.group {g n : Nat} {e t : State} (h : GroupIn g n e t) (h1 : 1 ≤ n ∧ n ≤ 4) :
    t.group g = { e.group g with aseqTx := ((e.group g).aseqTx + 1) % 256 } := by
  obtain ⟨-, -, -, -, -, hg, -⟩ := h
  rw [hg, if_pos h1]

/-! ### ALIGN columns -/

theorem all_hears {g : Nat} {sets : List AlignSet} {s : State} (h : ∀ a ∈ sets, s.hears (1024 + 17 * g + a.lane) = true) :
    (sets.filter fun a => s.hears (1024 + 17 * g + a.lane)) = sets := List.filter_eq_self.2 h

theorem cameraAlign_column {g : Nat} {sets : List AlignSet} {s : State} (hg : g < 8) (hs : sets.all AlignSet.wf = true)
    (hh : ∀ a ∈ sets, s.hears (1024 + 17 * g + a.lane) = true) (ht : ((s.alignColumn g sets).laneGroup (16 + g)).trapStep ≠ 5)
    (hp : (s.alignColumn g sets).pending = s.pending) : exec (.cameraAlign g sets) s = .next (s.alignColumn g sets) :=
  exec_next (i := .cameraAlign g sets) rfl (by simp [Instr.wellFormed, hg, hs]) (by rw [all_hears hh, if_neg ht]) hp

theorem alignColumn_left {g n : Nat} {sets : List AlignSet} {s u : State} (hst : s.camState g = n) (hn : n = 2 ∧ s.alignLock g sets = u
    ∨ n = 3 ∧ s.alignDeskew g sets = u) (hu : u.camState g ≠ n) : s.alignColumn g sets = u := by
  rcases hn with ⟨rfl, h⟩ | ⟨rfl, h⟩ <;> simp [State.alignColumn, hst, h, hu]

theorem alignColumn_stays {g : Nat} {sets : List AlignSet} {s u : State} (hst : s.camState g = 3) (h : s.alignDeskew g sets = u)
    (hu : u.camState g = 3) : s.alignColumn g sets = u.sendAligns g := by
  simp [State.alignColumn, hst, h, hu]

/-- What reading an ALIGN column leaves of a group. -/
theorem readAligns_keeps (sets : List AlignSet) (x : CamGroup) :
    (readAligns sets x).mirror = columnMirror sets ∧ (readAligns sets x).trained = x.trained ∧ (readAligns sets x).alignedRun = x.alignedRun
      ∧ (readAligns sets x).aseqTx = x.aseqTx ∧ (readAligns sets x).retSeq = x.retSeq := by
  unfold readAligns
  exact List.foldlRecOn (motive := fun y : CamGroup => y.mirror = columnMirror sets ∧ y.trained = x.trained ∧ y.alignedRun = x.alignedRun
    ∧ y.aseqTx = x.aseqTx ∧ y.retSeq = x.retSeq) sets _ ⟨rfl, rfl, rfl, rfl, rfl⟩ fun y hy a _ => hy

theorem group_modGroup_same (s : State) (g : Nat) (f : CamGroup → CamGroup) : (s.modGroup g f).group g = f (s.group g) := by
  rw [State.group_modGroup, if_pos rfl]

theorem spareZero_eq_self {g : Nat} {s : State} (h : (s.group g).missing ≠ [0]) : s.spareZero g = s := if_neg fun hc => h hc.1

/-- A column in LOCK that names each logical lane once. -/
theorem alignLock_complete {g : Nat} {sets : List AlignSet} {s : State} (hw : (readAligns sets (s.group g)).width ≠ 0)
    (hu : (readAligns sets (s.group g)).unique = true) (hm : (readAligns sets (s.group g)).missing = []) :
    s.alignLock g sets = (s.modGroup g (readAligns sets)).enterGroup g 3 0 := by
  simp [State.alignLock, group_modGroup_same, hw, hu, hm]

/-- A DESKEW column that counts. -/
def countedColumn (x : CamGroup) : CamGroup := { x with alignedRun := x.alignedRun + 1, trained := x.trained || decide (4 ≤ x.alignedRun + 1) }

theorem alignDeskew_counts {g : Nat} {sets : List AlignSet} {s : State} (ht : (s.group g).trained = false)
    (ha : alignedColumn (readAligns sets (s.group g)) sets = true) (hm : (readAligns sets (s.group g)).missing ≠ [0]) :
    s.alignDeskew g sets = (s.modGroup g (readAligns sets)).modGroup g countedColumn := by
  have htr : (readAligns sets (s.group g)).trained = false := (readAligns_keeps sets _).2.1.trans ht
  have hz : (s.modGroup g (readAligns sets)).spareZero g = s.modGroup g (readAligns sets) :=
    spareZero_eq_self (by rw [group_modGroup_same]; exact hm)
  simp only [State.alignDeskew, hz, group_modGroup_same, ha, htr, Bool.false_and, Bool.false_eq_true, if_true, if_false]
  rfl

/-- A DESKEW column of a trained group in which the head's TRAINING is 0. -/
theorem alignDeskew_identifies {g : Nat} {sets : List AlignSet} {s : State} (ht : (s.group g).trained = true)
    (ha : alignedColumn (readAligns sets (s.group g)) sets = true) (hd : ∀ a ∈ sets, a.d3.testBit 4 = false)
    (hm : (readAligns sets (s.group g)).missing = []) : s.alignDeskew g sets = (s.modGroup g (readAligns sets)).toIdentify g := by
  have htr : (readAligns sets (s.group g)).trained = true := (readAligns_keeps sets _).2.1.trans ht
  have hz : (s.modGroup g (readAligns sets)).spareZero g = s.modGroup g (readAligns sets) :=
    spareZero_eq_self (by rw [group_modGroup_same, hm]; simp)
  have hall : sets.all (fun a => !a.d3.testBit 4) = true := List.all_eq_true.2 fun a h => by simp [hd a h]
  simp only [State.alignDeskew, hz, group_modGroup_same, ha, htr, hall, Bool.and_self, if_true]

/-- Nothing is missing, so DISCOVER alone is sent. -/
theorem toIdentify_complete {g : Nat} {s : State} (hm : ((s.enterGroup g 4 0).group g).missing = []) :
    s.toIdentify g = (s.enterGroup g 4 0).sendDiscover g := by
  simp only [State.toIdentify, hm]

/-! ### DISCOVER -/

theorem sendReturn_frame (g typ vc aux : Nat) (payload : List Byte) (s : State) : ∃ x, s.sendReturn g typ vc aux payload = { s with
    cam := { s.cam with groups := SMap.set groupDef s.cam.groups g x }
    sent := s.held (s.camWindow g) (.camPkt g (mkHdr typ vc (SMap.get (fun _ => 0) (s.group g).retSeq vc) payload.length aux 0) (withCrc payload)) :: s.sent }
      ∧ x = { s.group g with retSeq := SMap.set (fun _ => 0) (s.group g).retSeq vc ((SMap.get (fun _ => 0) (s.group g).retSeq vc + 1) % 256) } :=
  ⟨_, rfl, rfl⟩

/-- DISCOVER is counted and leaves, held back by a calibration window. -/
theorem sendDiscover_effect (g : Nat) (s : State) : s.sendDiscover g = { s with cam := (s.sendDiscover g).cam, sent := (s.sendDiscover g).sent }
    ∧ ((s.sendDiscover g).group g).discovers = (s.group g).discovers + 1
    ∧ (s.sendDiscover g).sent
      = s.held (s.camWindow g) (.camPkt g (mkHdr 0x9 0 (SMap.get (fun _ => 0) (s.group g).retSeq 0) 0 0 0) []) :: s.sent
    ∧ ∀ h, h ≠ g → (s.sendDiscover g).group h = s.group h := by
  have hret : ((s.modGroup g fun x => { x with discovers := x.discovers + 1 }).group g).retSeq = (s.group g).retSeq := by rw [group_modGroup_same]
  obtain ⟨x, hx, hxe⟩ := sendReturn_frame g 0x9 0 0 [] (s.modGroup g fun x => { x with discovers := x.discovers + 1 })
  rw [hret] at hx
  unfold State.sendDiscover
  rw [hx]
  refine ⟨rfl, ?_, rfl, fun h hh => ?_⟩
  · rw [State.group]
    dsimp only
    rw [SMap.get_set_same, hxe, group_modGroup_same]
  · rw [State.group]
    dsimp only
    rw [SMap.get_set_other _ _ hh]
    exact (State.group_modGroup s g _ h).trans (if_neg hh)

/-! ### The steps of training -/

theorem cgSignalDetect_effect (g lane : Nat) (s : State) (hg : g < 8) (hl : lane < 17) (hst : s.camState g = 1) :
    ∃ t, exec (.cgSignalDetect g lane) s = .next t ∧ GroupIn g 2 s t := by
  have h := enterGroup_groupIn (s := s) (n := 2) hg (by rw [hst]; decide) 0
  exact ⟨_, exec_next (i := .cgSignalDetect g lane) rfl (by simp [Instr.wellFormed, hg, hl]) (if_pos hst) h.pending, h⟩

theorem cameraAlign_lock (g : Nat) (sets : List AlignSet) (s : State) (hg : g < 8) (hs : sets.all AlignSet.wf = true)
    (hh : ∀ a ∈ sets, s.hears (1024 + 17 * g + a.lane) = true) (hst : s.camState g = 2) (ht : (s.laneGroup (16 + g)).trapStep ≠ 5)
    (hw : (readAligns sets (s.group g)).width ≠ 0) (hu : (readAligns sets (s.group g)).unique = true) (hm : (readAligns sets (s.group g)).missing = []) :
    ∃ t, exec (.cameraAlign g sets) s = .next t ∧ GroupIn g 3 (s.modGroup g (readAligns sets)) t := by
  have h := enterGroup_groupIn (s := s.modGroup g (readAligns sets)) (n := 3) hg (by rw [show (s.modGroup g (readAligns sets)).camState g = 2 from hst]; decide) 0
  have hcol := alignColumn_left hst (.inl ⟨rfl, alignLock_complete hw hu hm⟩) (by rw [h.state]; decide)
  have he := cameraAlign_column hg hs hh (by rw [hcol, h.laneGroup]; exact ht) (by rw [hcol, h.pending]; rfl)
  exact ⟨_, he, by rw [hcol]; exact h⟩

theorem cameraAlign_counts (g : Nat) (sets : List AlignSet) (s : State) (hg : g < 8) (hs : sets.all AlignSet.wf = true)
    (hh : ∀ a ∈ sets, s.hears (1024 + 17 * g + a.lane) = true) (hst : s.camState g = 3) (ht : (s.laneGroup (16 + g)).trapStep ≠ 5)
    (htr : (s.group g).trained = false) (ha : alignedColumn (readAligns sets (s.group g)) sets = true) (hm : (readAligns sets (s.group g)).missing ≠ [0]) :
    ∃ t, exec (.cameraAlign g sets) s = .next t ∧ t.cam.sensors = s.cam.sensors ∧ (∀ h, h ≠ g → t.group h = s.group h)
      ∧ t.group g = { readAligns sets (s.group g) with
          alignedRun := (s.group g).alignedRun + 1, trained := decide (4 ≤ (s.group g).alignedRun + 1), aseqTx := ((s.group g).aseqTx + 1) % 256 }
      ∧ t.sent = (alignsOf g { t.group g with aseqTx := (s.group g).aseqTx }).reverse ++ s.sent ∧ t = { s with cam := t.cam, sent := t.sent } := by
  have hcol := alignColumn_stays (s := s) (sets := sets) hst (alignDeskew_counts htr ha hm) hst
  rw [sendAligns_eq] at hcol
  obtain ⟨-, hrt, hrun, hseq, -⟩ := readAligns_keeps sets (s.group g)
  have hgroup : ((s.modGroup g (readAligns sets)).modGroup g countedColumn).group g = { readAligns sets (s.group g) with
      alignedRun := (s.group g).alignedRun + 1, trained := decide (4 ≤ (s.group g).alignedRun + 1) } := by
    rw [group_modGroup_same, group_modGroup_same, countedColumn, hrt, htr, hrun, Bool.false_or]
  have hother : ∀ h, h ≠ g → ((s.modGroup g (readAligns sets)).modGroup g countedColumn).group h = s.group h := fun h hne => by
    rw [State.group_modGroup, if_neg hne, State.group_modGroup, if_neg hne]
  rw [hgroup] at hcol
  have hframe : ∃ x, (s.modGroup g (readAligns sets)).modGroup g countedColumn = { s with cam := { s.cam with groups := x } } := ⟨_, rfl⟩
  generalize ((s.modGroup g (readAligns sets)).modGroup g countedColumn) = u at hcol hgroup hother hframe
  obtain ⟨gs, rfl⟩ := hframe
  have he := cameraAlign_column hg hs hh (by rw [hcol]; exact ht) (by rw [hcol]; rfl)
  rw [hcol] at he
  generalize hX : ({ readAligns sets (s.group g) with
      alignedRun := (s.group g).alignedRun + 1, trained := decide (4 ≤ (s.group g).alignedRun + 1) } : CamGroup) = X at he hgroup
  have hXseq : X.aseqTx = (s.group g).aseqTx := by rw [← hX]; exact hseq
  have htg : (State.modGroup g (fun y => { y with aseqTx := (y.aseqTx + 1) % 256 })
      { s with cam := { s.cam with groups := gs }, sent := (alignsOf g X).reverse ++ s.sent }).group g = { X with aseqTx := (X.aseqTx + 1) % 256 } := by
    rw [group_modGroup_same]; exact congrArg (fun y : CamGroup => { y with aseqTx := (y.aseqTx + 1) % 256 }) hgroup
  refine ⟨_, he, rfl, fun h hne => ?_, ?_, ?_, rfl⟩
  · rw [State.group_modGroup, if_neg hne]; exact hother h hne
  · rw [htg, hXseq, ← hX]
  · rw [htg, ← hXseq]; rfl

/-- LSP mirrors the missing lane 0: it is read from there. -/
theorem spareZero_taken {g : Nat} {s : State} (hm : (s.group g).missing = [0]) (hi : (s.group g).mirror = some 0)
    (hmap : s.getP (P.cg g P.CG_SPARE_MAP) 0 = 255) :
    s.spareZero g = ((s.modGroup g fun y => { y with askSpare := none }).setP (P.cg g P.CG_SPARE_MAP) 0 0).postCam 0x41 0x2 g
      (at' 8 (s.group g).lastAseq) g := if_pos ⟨hm, hi, hmap⟩

theorem postCam_eventsOnly (a b c d g : Nat) (s : State) : EventsOnly s (s.postCam a b c d g) := eventsOnly_postTagged _ _ _ _ _ _

theorem spareZero_taken_effect {g : Nat} {s : State} (hm : (s.group g).missing = [0]) (hi : (s.group g).mirror = some 0)
    (hmap : s.getP (P.cg g P.CG_SPARE_MAP) 0 = 255) :
    (s.spareZero g).group g = { s.group g with askSpare := none } ∧ (s.spareZero g).params = SMap.set pdef s.params (pkey (P.cg g P.CG_SPARE_MAP) 0) 0
      ∧ (s.spareZero g).pending = s.pending ∧ (s.spareZero g).ln = s.ln := by
  rw [spareZero_taken hm hi hmap]
  obtain ⟨w, v, m, a, h, -⟩ := (postCam_eventsOnly 0x41 0x2 g (at' 8 (s.group g).lastAseq) g
    ((s.modGroup g fun y => { y with askSpare := none }).setP (P.cg g P.CG_SPARE_MAP) 0 0)).rings
  rw [h]
  exact ⟨group_modGroup_same s g fun y => { y with askSpare := none }, rfl, rfl, rfl⟩

/-- A DESKEW column of a group not trained yet changes the group's record only, once lane 0 has been placed. -/
theorem alignDeskew_untrained {g : Nat} {sets : List AlignSet} {s : State} (h : (((s.modGroup g (readAligns sets)).spareZero g).group g).trained = false) :
    ∃ f : CamGroup → CamGroup, s.alignDeskew g sets = ((s.modGroup g (readAligns sets)).spareZero g).modGroup g f
      ∧ ∀ x, (f x).askSpare = x.askSpare := by
  unfold State.alignDeskew
  simp only [h, Bool.false_and, Bool.false_eq_true, if_false]
  split
  · exact ⟨_, rfl, fun _ => rfl⟩
  · exact ⟨_, rfl, fun _ => rfl⟩

theorem cameraAlign_spare (g : Nat) (sets : List AlignSet) (s : State) (hg : g < 8) (hs : sets.all AlignSet.wf = true)
    (hh : ∀ a ∈ sets, s.hears (1024 + 17 * g + a.lane) = true) (hst : s.camState g = 3) (ht : (s.laneGroup (16 + g)).trapStep ≠ 5)
    (htr : (s.group g).trained = false) (hm : (readAligns sets (s.group g)).missing = [0]) (hc : columnMirror sets = some 0)
    (hmap : s.getP (P.cg g P.CG_SPARE_MAP) 0 = 255) : ∃ t, exec (.cameraAlign g sets) s = .next t ∧ t.getP (P.cg g P.CG_SPARE_MAP) 0 = 0
      ∧ (t.group g).askSpare = none ∧ t.camState g = 3 ∧ SameParams [pkey (P.cg g P.CG_SPARE_MAP) 0] s t := by
  obtain ⟨hmir, hrt, -⟩ := readAligns_keeps sets (s.group g)
  obtain ⟨hgroup, hparams, hpend, hln⟩ := spareZero_taken_effect (g := g) (s := s.modGroup g (readAligns sets)) (by rw [group_modGroup_same]; exact hm)
    (by rw [group_modGroup_same, hmir, hc]) hmap
  rw [group_modGroup_same] at hgroup
  obtain ⟨f, hf, hask⟩ := alignDeskew_untrained (s := s) (g := g) (sets := sets) (by rw [hgroup]; exact hrt.trans htr)
  generalize ((s.modGroup g (readAligns sets)).spareZero g) = u at hgroup hparams hpend hln hf
  have hsame : SameParams [pkey (P.cg g P.CG_SPARE_MAP) 0] s u := fun k hk => by
    rw [hparams]; exact SMap.get_set_other _ _ (by simpa using hk) _
  have hust : u.camState g = 3 := (hsame.getP (by simp)).trans hst
  have hcol := alignColumn_stays hst hf hust
  rw [sendAligns_eq] at hcol
  have he := cameraAlign_column hg hs hh (by rw [hcol]; show (SMap.get laneGroupDef u.ln.groups (16 + g)).trapStep ≠ 5; rw [hln]; exact ht)
    (by rw [hcol]; exact hpend)
  rw [hcol] at he
  refine ⟨_, he, ?_, ?_, hust, hsame⟩
  · show SMap.get pdef u.params _ = 0
    rw [hparams, SMap.get_set_same]
  · rw [group_modGroup_same]
    show ((u.modGroup g f).group g).askSpare = none
    rw [group_modGroup_same, hask, hgroup]

theorem cameraAlign_identifies (g : Nat) (sets : List AlignSet) (s : State) (hg : g < 8) (hs : sets.all AlignSet.wf = true)
    (hh : ∀ a ∈ sets, s.hears (1024 + 17 * g + a.lane) = true) (hst : s.camState g = 3) (ht : (s.laneGroup (16 + g)).trapStep ≠ 5)
    (htr : (s.group g).trained = true) (ha : alignedColumn (readAligns sets (s.group g)) sets = true) (hd : ∀ a ∈ sets, a.d3.testBit 4 = false)
    (hm : (readAligns sets (s.group g)).missing = []) :
    ∃ t u, exec (.cameraAlign g sets) s = .next t ∧ GroupIn g 4 (s.modGroup g (readAligns sets)) u ∧ t = u.sendDiscover g
      ∧ t.sent = s.held (s.camWindow g) (.camPkt g (mkHdr 0x9 0 (SMap.get (fun _ => 0) (s.group g).retSeq 0) 0 0 0) []) :: u.sent := by
  have h := enterGroup_groupIn (s := s.modGroup g (readAligns sets)) (n := 4) hg (by rw [show (s.modGroup g (readAligns sets)).camState g = 3 from hst]; decide) 0
  have hug : (((s.modGroup g (readAligns sets)).enterGroup g 4 0).group g)
      = { readAligns sets (s.group g) with aseqTx := ((readAligns sets (s.group g)).aseqTx + 1) % 256 } := by
    rw [h.group (by decide), group_modGroup_same]
  have hdes : s.alignDeskew g sets = ((s.modGroup g (readAligns sets)).enterGroup g 4 0).sendDiscover g := by
    rw [alignDeskew_identifies htr ha hd hm, toIdentify_complete (by rw [hug]; exact hm)]
  generalize ((s.modGroup g (readAligns sets)).enterGroup g 4 0) = u at h hug hdes
  obtain ⟨hf, -, hsent, -⟩ := sendDiscover_effect g u
  have hcam : (u.sendDiscover g).camState g = 4 := by rw [hf]; exact h.state
  have hcol := alignColumn_left hst (.inr ⟨rfl, hdes⟩) (by rw [hcam]; decide)
  have he := cameraAlign_column hg hs hh (by rw [hcol, hf]; exact (congrArg LaneGroup.trapStep (h.laneGroup (16 + g))).trans_ne ht)
    (by rw [hcol, hf]; exact h.pending)
  refine ⟨_, u, he, h, hcol, ?_⟩
  rw [hcol, hsent]
  have hret : (u.group g).retSeq = (s.group g).retSeq := by rw [hug]; exact (readAligns_keeps sets _).2.2.2.2
  have hwin : u.camWindow g = s.camWindow g := congrArg LaneGroup.winEnd (h.laneGroup (16 + g))
  have hnow : u.now = s.now := h.now
  rw [hret, hwin, State.held, hnow]

theorem cgTrainTimeout_effect (g : Nat) (s : State) (hg : g < 8) (h2 : 2 ≤ s.camState g) (h4 : s.camState g ≤ 4) :
    ∃ t, exec (.cgTrainTimeout g) s = .next t ∧ GroupIn g 1 (s.resetTraining g false) t ∧ t.getP (P.cg g P.CG_SPARE_MAP) 0 = 255 := by
  have hst : (s.resetTraining g false).camState g = s.camState g := (State.getP_setP _ _ _ _ _ _).trans (if_neg (cg_key_ne (by decide)))
  have h := enterGroup_groupIn (s := s.resetTraining g false) (n := 1) hg (by rw [hst]; omega) 1
  refine ⟨_, exec_next (i := .cgTrainTimeout g) rfl (by simp [Instr.wellFormed, hg]) (if_pos ⟨h2, h4⟩) h.pending, h, ?_⟩
  exact (h.keeps (by simp)).trans (State.getP_setP_same _ _ _ _)

theorem discoverRetry_sends (g : Nat) (s : State) (hg : g < 8) (hst : s.camState g = 4) (hi : (s.group g).identified = false)
    (hd : (s.group g).discovers < 3) : ∃ t, exec (.discoverRetry g) s = .next t ∧ t = { s with cam := t.cam, sent := t.sent }
      ∧ (t.group g).discovers = (s.group g).discovers + 1
      ∧ t.sent = s.held (s.camWindow g) (.camPkt g (mkHdr 0x9 0 (SMap.get (fun _ => 0) (s.group g).retSeq 0) 0 0 0) []) :: s.sent
      ∧ (∀ h, h ≠ g → t.group h = s.group h) := by
  obtain ⟨hf, hrest⟩ := sendDiscover_effect g s
  refine ⟨_, exec_next (i := .discoverRetry g) rfl (by simp [Instr.wellFormed, hg]) ?_ (by rw [hf]), hf, hrest⟩
  rw [if_neg (by simp [hst, hi]), if_pos hd]

theorem discoverRetry_gives_up (g : Nat) (s : State) (hg : g < 8) (hst : s.camState g = 4) (hi : (s.group g).identified = false)
    (hd : 3 ≤ (s.group g).discovers) : ∃ t, exec (.discoverRetry g) s = .next t ∧ GroupIn g 1 (s.resetTraining g false) t := by
  have hst' : (s.resetTraining g false).camState g = s.camState g := (State.getP_setP _ _ _ _ _ _).trans (if_neg (cg_key_ne (by decide)))
  have h := enterGroup_groupIn (s := s.resetTraining g false) (n := 1) hg (by rw [hst', hst]; decide) 1
  refine ⟨_, exec_next (i := .discoverRetry g) rfl (by simp [Instr.wellFormed, hg]) ?_ h.pending, h⟩
  rw [if_neg (by simp [hst, hi]), if_neg (Nat.not_lt.2 hd)]
  rfl

/-! ### Received packets -/

/-- A sound packet in a state that takes its type is counted by SEQ and handled. -/
theorem camReceive_taken {p : CamPkt} {s : State} (k : State → State) (hr : s.receives p.group) (hf : p.faulty = false)
    (h4 : s.camState p.group = 4 → hdrType p.hdr = 5 ∨ hdrType p.hdr = 6) (hc : p.crcBad = false ∨ hdrType p.hdr = 2) :
    s.camReceive p k = k ((s.atLeast p.time).countSeq p) := by
  obtain ⟨hst, hpow, hhear⟩ := hr
  have h1 : ¬ (((s.atLeast p.time).camState p.group ≠ 4 ∧ (s.atLeast p.time).camState p.group ≠ 5) ∨ s.powerState = 2
      ∨ (s.atLeast p.time).groupHears p.group = false) := by
    rintro (⟨h, h'⟩ | h | h)
    · exact hst.elim h h'
    · exact hpow h
    · exact absurd (hhear.symm.trans h) (by decide)
  have h2 : ¬ ((s.atLeast p.time).camState p.group = 4 ∧ hdrType p.hdr ≠ 5 ∧ hdrType p.hdr ≠ 6) := fun ⟨h, h5, h6⟩ => (h4 h).elim h5 h6
  have h3 : (p.crcBad && hdrType p.hdr != 2) = false := by rcases hc with h | h <;> simp [h]
  simp only [State.camReceive, h1, hf, h2, h3, if_false, Bool.false_eq_true]

/-- A group's record after a packet that SEQ counts. -/
def CamGroup.seqCounted (p : CamPkt) (x : CamGroup) : CamGroup :=
  { x with
    seqLost := x.seqLost + (match SMap.find p.vc x.fwdSeq with
      | some e => (byteAt p.hdr 1 + 256 - e) % 256
      | none => 0)
    fwdSeq := SMap.ins p.vc ((byteAt p.hdr 1 + 1) % 256) x.fwdSeq }

/-- Counting a packet by SEQ changes its group's record only. -/
theorem countSeq_eq (p : CamPkt) (s : State) : s.countSeq p = s.modGroup p.group (CamGroup.seqCounted p) := rfl

/-- An IDENTITY has come. -/
def CamGroup.identifiedAs (h : Head) (x : CamGroup) : CamGroup := { x with head := some h, identified := true }

theorem identity_recorded (p : CamPkt) (s : State) (hp : p.sound 5) (hst : s.camState p.group = 4) (hr : s.receives p.group)
    (hlen : p.payload.length = 32) (hproto : byteAt p.payload 12 = 1)
    (hser : ∀ o, (s.group p.group).head = some o → o.serial = fieldAt p.payload 0 8) :
    ∃ t, exec (.identity p) s = .next t ∧ (t.group p.group).head = some (headOf p.payload) ∧ (t.group p.group).identified = true
      ∧ t.getP (P.cg p.group P.CG_HEAD_SERIAL) 0 = fieldAt p.payload 0 8 ∧ SameParams [pkey (P.cg p.group P.CG_HEAD_SERIAL) 0] s t
      ∧ (∀ h, h ≠ p.group → t.group h = s.group h) ∧ t.cam.sensors = s.cam.sensors
      ∧ t = { s with now := max s.now p.time, cam := t.cam, params := t.params } := by
  obtain ⟨hwf, htyp, hfault, hcrc⟩ := hp
  have hhead : (((s.atLeast p.time).countSeq p).group p.group).head = (s.group p.group).head := by
    rw [countSeq_eq, group_modGroup_same]; rfl
  have hgroup : ∀ u : State, ((u.modGroup p.group (CamGroup.identifiedAs (headOf p.payload))).group p.group)
      = (u.group p.group).identifiedAs (headOf p.payload) := fun u => group_modGroup_same u _ _
  have hother : ∀ h, h ≠ p.group → ((((s.atLeast p.time).countSeq p).modGroup p.group (CamGroup.identifiedAs (headOf p.payload))).group h) = s.group h :=
    fun h hh => by rw [State.group_modGroup, if_neg hh, countSeq_eq, State.group_modGroup, if_neg hh]; rfl
  have he : exec (.identity p) s = .next ((((s.atLeast p.time).countSeq p).modGroup p.group (CamGroup.identifiedAs (headOf p.payload))).setP
      (P.cg p.group P.CG_HEAD_SERIAL) 0 (headOf p.payload).serial) := by
    refine exec_next (i := .identity p) rfl (by simp [Instr.wellFormed, hwf, htyp]) ?_ rfl
    rw [camReceive_taken _ hr hfault (fun _ => .inl htyp) (.inl hcrc), if_neg (by
      rintro (h | h)
      · exact h hst
      · exact h hlen), if_neg (not_not_intro hproto)]
    simp only [hhead]
    cases hh : (s.group p.group).head with
    | none => rfl
    | some o => simp only [if_pos (show o.serial = (headOf p.payload).serial from hser o hh)]; rfl
  exact ⟨_, he, congrArg CamGroup.head (hgroup _), congrArg CamGroup.identified (hgroup _), State.getP_setP_same _ _ _ _,
    fun k hk => SMap.get_set_other _ _ (by simpa using hk) _, hother, rfl, rfl⟩

theorem identity_other_protocol (p : CamPkt) (s : State) (hp : p.sound 5) (hst : s.camState p.group = 4) (hr : s.receives p.group)
    (hlen : p.payload.length = 32) (hproto : byteAt p.payload 12 ≠ 1) :
    ∃ t, exec (.identity p) s = .next t ∧ GroupIn p.group 1 (((s.atLeast p.time).countSeq p).resetTraining p.group false) t := by
  obtain ⟨hwf, htyp, hfault, hcrc⟩ := hp
  have hg : p.group < 8 := by
    simp only [CamPkt.wf, Bool.and_eq_true, decide_eq_true_eq] at hwf
    exact hwf.1
  have hst' : (((s.atLeast p.time).countSeq p).resetTraining p.group false).camState p.group = 4 :=
    ((State.getP_setP _ _ _ _ _ _).trans (if_neg (cg_key_ne (by decide)))).trans hst
  have h := enterGroup_groupIn (s := ((s.atLeast p.time).countSeq p).resetTraining p.group false) (n := 1) hg (by rw [hst']; decide) 2
  refine ⟨_, exec_next (i := .identity p) rfl (by simp [Instr.wellFormed, hwf, htyp]) ?_ h.pending, h⟩
  rw [camReceive_taken _ hr hfault (fun _ => .inl htyp) (.inl hcrc), if_neg (by
    rintro (h | h)
    · exact h hst
    · exact h hlen), if_pos hproto]
  rfl

end Sys2Proof.Machine

open Sys2Proof Sys2Proof.Machine in
/-- Settles O19: each step of training is the entry of a state (`enterGroup_groupIn`), or changes the group's own record. -/
theorem cameraGroupTrains : Obligations.CameraGroupTrains := by
  unfold Obligations.CameraGroupTrains
  refine ⟨cgSignalDetect_effect, fun g lane s hg hl hst => ?_, cameraAlign_lock, cameraAlign_counts, cameraAlign_spare, cameraAlign_identifies,
    cgTrainTimeout_effect, fun g s hg hst => ?_, discoverRetry_sends, discoverRetry_gives_up, identity_recorded, identity_other_protocol⟩
  · exact exec_next (i := .cgSignalDetect g lane) rfl (by simp [Instr.wellFormed, hg, hl]) (if_neg hst) rfl
  · exact exec_next (i := .cgTrainTimeout g) rfl (by simp [Instr.wellFormed, hg]) (if_neg (by omega)) rfl
end

section
/-! A statement of the frame family that does not hold: a frame's end captures the colour probes of its pipeline (R177). -/

namespace Sys2Proof.Machine

/-- A check of the state that a command answers; a fault or a refusal does not pass. -/
def answers (p : State → Bool) : Result → Bool
  | .next t => p t
  | _ => false

theorem of_answers {p : State → Bool} {r : Result} {t : State} (h : answers p r = true) (hr : r = .next t) : p t = true := by
  subst hr; exact h

/-- A frame of one photosite. -/
def onePhotosite : Frame := { fmt := { bits := 12, width := 1, height := 1 } }

/-- Camera group 0 is ACTIVE with one lane that delivers, and `onePhotosite` is being received on pipeline 0. -/
def receivingOnePhotosite : State :=
  (((({ ctl := { boot := .running, fwReady := true } } : State).modLane 1024 fun x => { x with lock := 3 }).setP (P.cg 0 P.CG_STATE) 0 5).setGroup 0
    { headWidth := 1, lanes := [(0, 0)] }).setSensor 0 { present := true, openFrame := .pipe 0 } |>.setPipe 0 { cur := some onePhotosite }

/-- A colour probe of pipeline 0 is outstanding. -/
def probedWhileReceiving : State :=
  receivingOnePhotosite.setProbe 0 (some { canvas := false, unit := 0, phase := 0, x := 0, y := 0, ticket := 0 })

/-- The FRAME_END of the frame. -/
def endOfFrame : CamPkt :=
  { group := 0, time := 0, hdr := mkHdr 3 0 0 8 0 0, payload := List.replicate 8 0, crc := crc32c (List.replicate 8 0) }

theorem frameEnd_captures : answers (fun t => ((t.probe 0).bind Probe.result).isSome) (exec (.frameEnd endOfFrame) probedWhileReceiving) = true := by
  decide +kernel

end Sys2Proof.Machine

open Sys2Proof Sys2Proof.Machine in
/-- Refutes O21: its clause on FRAME_END lets only the clock, the cameras, pipelines, parameters and the control plane change, but the frame's end also
gives an outstanding colour probe of the pipeline its result (R177). -/
theorem not_framesAreAssembled : ¬ Obligations.FramesAreAssembled := by
  unfold Obligations.FramesAreAssembled
  rintro ⟨-, -, -, -, -, -, -, hend⟩
  obtain ⟨t, ht, -, -, -, -, -, -, hframe⟩ := hend endOfFrame probedWhileReceiving 0 onePhotosite (by decide +kernel) (by decide +kernel) (by decide +kernel)
    rfl (by decide +kernel) (by decide +kernel) (by decide +kernel) rfl (by decide +kernel) (by decide)
  have hcaptured := of_answers frameEnd_captures ht
  have hkept : t.probe 0 = probedWhileReceiving.probe 0 := congrArg (fun u => u.probe 0) hframe
  rw [hkept] at hcaptured
  exact absurd hcaptured (by decide +kernel)
end

section
/-! Final replies of commands in progress, and the packets of the camera link (R90 to R106). -/

namespace Sys2Proof.Machine

/-! ### The final reply of a command in progress -/

theorem flight?_ticket {s : State} {tk : Nat} {f : Flight} (h : s.flight? tk = some f) : f.ticket = tk := by
  simpa using List.find?_some h

/-- The final reply of a command in progress: its slot's record, its place among the commands in progress, and the DARK return timer. -/
theorem finalReply_replied {s : State} {tk : Nat} {f : Flight} (h : s.awaits tk f) (code len r : Nat) : Replied f s (s.finalReply tk code len r) := by
  obtain ⟨hf, hd⟩ := h
  have hfl := State.finalReply_flights s hd hf code len r
  refine ⟨?_, fun w hw => State.finalReply_win_other s hf hw code len r, ?_, fun j hj => ?_⟩
  · obtain ⟨W, F, p, hR⟩ := finalReply_shape s hd tk code len r
    rw [hR] at hfl ⊢
    have hF : F = s.ctl.flights.filter fun g => g.ticket != f.ticket := by rw [flight?_ticket hf]; exact hfl
    rw [hF]
  · rw [State.finalReply_win_same s hd hf]
  · rw [State.finalReply_win_same s hd hf]
    exact ⟨clrBit_same_other hj, setBit_same_other hj, rfl, SMap.get_set_other _ _ hj _⟩

theorem finalReply_flight?_none {s : State} {tk : Nat} {f : Flight} (h : s.awaits tk f) (code len r : Nat) :
    (s.finalReply tk code len r).flight? tk = none := by
  rw [State.flight?, State.finalReply_flights s h.2 h.1, List.find?_eq_none]
  intro g hg
  simpa using (List.mem_filter.1 hg).2

/-- What a written final reply may change. -/
theorem finalReply_fields {s : State} {tk : Nat} {f : Flight} (h : s.awaits tk f) (code len r : Nat) : ∃ W F p, s.finalReply tk code len r =
    { s with ctl := { s.ctl with wins := W, flights := F }, pw := { s.pw with returnFrom := p } } := finalReply_shape s h.2 tk code len r

/-! ### Packets that are discarded or taken (R106) -/

theorem camReceive_faulty {p : CamPkt} {s : State} (k : State → State) (hr : s.receives p.group) (hf : p.faulty = true) :
    s.camReceive p k = State.bumpSat (s.atLeast p.time) (P.cg p.group P.CG_HDR_ERRORS) 0 1 := by
  obtain ⟨hst, hpow, hhear⟩ := hr
  have h1 : ¬ (((s.atLeast p.time).camState p.group ≠ 4 ∧ (s.atLeast p.time).camState p.group ≠ 5) ∨ s.powerState = 2
      ∨ (s.atLeast p.time).groupHears p.group = false) := by
    rintro (⟨h, h'⟩ | h | h)
    · exact hst.elim h h'
    · exact hpow h
    · exact absurd (hhear.symm.trans h) (by decide)
  simp only [State.camReceive, h1, hf, if_true, if_false, State.camHdrError]

theorem camReceive_deaf {p : CamPkt} {s : State} (k : State → State) (hr : ¬ s.receives p.group) : s.camReceive p k = s.atLeast p.time := by
  refine if_pos (Classical.byContradiction fun h => hr ?_)
  obtain ⟨h1, h2⟩ := not_or.1 h
  obtain ⟨h2, h3⟩ := not_or.1 h2
  exact ⟨by
    by_cases h4 : s.camState p.group = 4
    · exact .inl h4
    · exact .inr (Classical.byContradiction fun h5 => h1 ⟨h4, h5⟩), h2, Bool.eq_true_of_not_eq_false h3⟩

theorem camReceive_badCrc {p : CamPkt} {s : State} (k : State → State) (h5 : s.camState p.group = 5) (hr : s.receives p.group) (hf : p.faulty = false)
    (hc : p.crcBad = true) (ht : hdrType p.hdr ≠ 2) :
    s.camReceive p k = State.bumpSat ((s.atLeast p.time).countSeq p) (P.cg p.group P.CG_PCRC_ERRORS) 0 1 := by
  obtain ⟨-, hpow, hhear⟩ := hr
  have hst : (s.atLeast p.time).camState p.group = 5 := h5
  have hh : (s.atLeast p.time).groupHears p.group = true := hhear
  simp [State.camReceive, hst, hpow, hh, hf, hc, ht]

/-- The rows that take a packet of the forward link. -/
theorem camPacket_exec {p : CamPkt} {late : List Nat} {i : Instr}
    (hi : i ∈ [Instr.identity p, .vcAnnounce p, .frameStart p, .line p late, .frameEnd p, .embedded p, .ctrlReply p, .headStatus p]) :
    ∃ k : State → State, ∀ s, exec i s = guarded i s (s.camReceive p k) := by
  simp only [List.mem_cons, List.not_mem_nil, or_false] at hi
  rcases hi with rfl | rfl | rfl | rfl | rfl | rfl | rfl | rfl <;> exact ⟨_, fun _ => rfl⟩

/-- Their types but LINE's. -/
theorem camPacket_type {p : CamPkt} {i : Instr}
    (hi : i ∈ [Instr.identity p, .vcAnnounce p, .frameStart p, .frameEnd p, .embedded p, .ctrlReply p, .headStatus p]) (hw : i.wellFormed = true) :
    hdrType p.hdr ≠ 2 := by
  have key : ∀ n, (p.wf && hdrType p.hdr == n) = true → n ≠ 2 → hdrType p.hdr ≠ 2 := fun n h hn => by
    simp only [Bool.and_eq_true, beq_iff_eq] at h
    omega
  simp only [List.mem_cons, List.not_mem_nil, or_false] at hi
  rcases hi with rfl | rfl | rfl | rfl | rfl | rfl | rfl <;> exact key _ hw (by decide)

theorem cameraPacket_faulty (p : CamPkt) (late : List Nat) (s : State) (hf : p.faulty = true) (hr : s.receives p.group) (i : Instr)
    (hi : i ∈ [Instr.cameraBadPacket p, .identity p, .vcAnnounce p, .frameStart p, .line p late, .frameEnd p, .embedded p, .ctrlReply p, .headStatus p])
    (hw : i.wellFormed = true) : exec i s = .next (State.bumpSat (s.atLeast p.time) (P.cg p.group P.CG_HDR_ERRORS) 0 1) := by
  rcases List.mem_cons.1 hi with rfl | hi
  · exact exec_next (i := .cameraBadPacket p) rfl hw (if_pos ⟨hr.1, hr.2.1, hf, hr.2.2⟩) rfl
  · obtain ⟨k, hk⟩ := camPacket_exec hi
    exact exec_next (hk s) hw (camReceive_faulty k hr hf) rfl

theorem cameraPacket_deaf (p : CamPkt) (late : List Nat) (s : State) (hr : ¬ s.receives p.group) (i : Instr)
    (hi : i ∈ [Instr.cameraBadPacket p, .identity p, .vcAnnounce p, .frameStart p, .line p late, .frameEnd p, .embedded p, .ctrlReply p, .headStatus p])
    (hw : i.wellFormed = true) : exec i s = .next (s.atLeast p.time) := by
  rcases List.mem_cons.1 hi with rfl | hi
  · exact exec_next (i := .cameraBadPacket p) rfl hw (if_neg fun ⟨h1, h2, _, h3⟩ => hr ⟨h1, h2, h3⟩) rfl
  · obtain ⟨k, hk⟩ := camPacket_exec hi
    exact exec_next (hk s) hw (camReceive_deaf k hr) rfl

theorem cameraPacket_badCrc (p : CamPkt) (s : State) (hf : p.faulty = false) (hc : p.crcBad = true) (h5 : s.camState p.group = 5) (hr : s.receives p.group)
    (i : Instr) (hi : i ∈ [Instr.identity p, .vcAnnounce p, .frameStart p, .frameEnd p, .embedded p, .ctrlReply p, .headStatus p])
    (hw : i.wellFormed = true) : exec i s = .next (State.bumpSat ((s.atLeast p.time).countSeq p) (P.cg p.group P.CG_PCRC_ERRORS) 0 1) := by
  obtain ⟨k, hk⟩ := camPacket_exec (late := []) (i := i) (p := p) (by
    simp only [List.mem_cons, List.not_mem_nil, or_false] at hi ⊢
    tauto)
  exact exec_next (hk s) hw (camReceive_badCrc k h5 hr hf hc (camPacket_type hi hw)) rfl

theorem countSeq_counts (p : CamPkt) (s : State) (e : Nat) (h : SMap.find p.vc (s.group p.group).fwdSeq = some e) :
    ((s.countSeq p).group p.group).seqLost = (s.group p.group).seqLost + (byteAt p.hdr 1 + 256 - e) % 256
      ∧ SMap.find p.vc ((s.countSeq p).group p.group).fwdSeq = some ((byteAt p.hdr 1 + 1) % 256) ∧ s.countSeq p = { s with cam := (s.countSeq p).cam } := by
  rw [countSeq_eq, group_modGroup_same]
  refine ⟨?_, SMap.find_ins_same _ _ _, rfl⟩
  simp only [CamGroup.seqCounted, h]

theorem seqCounted_keeps (p : CamPkt) (x : CamGroup) : (x.seqCounted p).status = x.status ∧ (x.seqCounted p).ctrl = x.ctrl ∧ (x.seqCounted p).head = x.head :=
  ⟨rfl, rfl, rfl⟩

/-- A packet that is taken: only the clock and its group's record have changed. -/
theorem counted_frame (p : CamPkt) (s : State) : ∃ x, (s.atLeast p.time).countSeq p = { s with now := max s.now p.time, cam := { s.cam with groups := x } }
    ∧ (SMap.get groupDef x p.group : CamGroup) = (s.group p.group).seqCounted p ∧ ∀ h, h ≠ p.group → (SMap.get groupDef x h : CamGroup) = s.group h :=
  ⟨_, rfl, SMap.get_set_same _ _ _ _, fun _ hh => SMap.get_set_other _ _ hh _⟩

/-- A sound packet of type `n` in ACTIVE. -/
theorem camReceive_sound {p : CamPkt} {n : Nat} {s : State} (k : State → State) (hp : p.sound n) (hst : s.camState p.group = 5)
    (hr : s.receives p.group) : s.camReceive p k = k ((s.atLeast p.time).countSeq p) :=
  camReceive_taken k hr hp.2.2.1 (fun h => absurd (hst.symm.trans h) (by decide)) (.inl hp.2.2.2)

/-! ### What the packets do -/

theorem headStatus_recorded (p : CamPkt) (s : State) (hp : p.sound 8) (hst : s.camState p.group = 5) (hr : s.receives p.group) (hlen : p.payload.length = 8) :
    ∃ t, exec (.headStatus p) s = .next t ∧ (t.group p.group).status = fieldAt p.payload 0 3
      ∧ EventsOnly { s with now := max s.now p.time, cam := t.cam } t ∧ (∀ h, h ≠ p.group → t.group h = s.group h) ∧ t.cam.sensors = s.cam.sensors
      ∧ ((s.group p.group).status / 65536 = fieldAt p.payload 0 3 / 65536 → t.ctl = s.ctl) := by
  have hwf : (Instr.headStatus p).wellFormed = true := by simp [Instr.wellFormed, hp.1, hp.2.1]
  obtain ⟨x, hx, hgx, hox⟩ := counted_frame p s
  have hold : (((s.atLeast p.time).countSeq p).group p.group).status = (s.group p.group).status := by
    rw [hx]; exact (congrArg CamGroup.status hgx :)
  have hbody : ∀ {u : State}, (if (s.group p.group).status / 65536 = fieldAt p.payload 0 3 / 65536
        then ((s.atLeast p.time).countSeq p).modGroup p.group fun x => { x with status := fieldAt p.payload 0 3 }
        else State.postCam 0x43 0x2 p.group (fieldAt p.payload 0 3) p.group
          (((s.atLeast p.time).countSeq p).modGroup p.group fun x => { x with status := fieldAt p.payload 0 3 })) = u →
      u.pending = s.pending → exec (.headStatus p) s = .next u := fun {u} h hu => by
    refine exec_next (i := .headStatus p) rfl hwf ?_ hu
    rw [camReceive_sound _ hp hst hr, if_neg (not_not_intro hlen), hold]
    exact h
  have hstatus : (((((s.atLeast p.time).countSeq p).modGroup p.group fun x => { x with status := fieldAt p.payload 0 3 }).group p.group).status)
      = fieldAt p.payload 0 3 := congrArg CamGroup.status (group_modGroup_same _ _ _)
  have hother : ∀ h, h ≠ p.group → (((s.atLeast p.time).countSeq p).modGroup p.group fun x => { x with status := fieldAt p.payload 0 3 }).group h
      = s.group h := fun h hh => by rw [State.group_modGroup, if_neg hh, hx]; exact hox h hh
  have hframe : ∃ y, (((s.atLeast p.time).countSeq p).modGroup p.group fun x => { x with status := fieldAt p.payload 0 3 })
      = { s with now := max s.now p.time, cam := { s.cam with groups := y } } := ⟨_, by rw [hx]; rfl⟩
  generalize (((s.atLeast p.time).countSeq p).modGroup p.group fun x => { x with status := fieldAt p.payload 0 3 }) = m at hbody hstatus hother hframe
  obtain ⟨y, rfl⟩ := hframe
  by_cases hc : (s.group p.group).status / 65536 = fieldAt p.payload 0 3 / 65536
  · exact ⟨_, hbody (if_pos hc) rfl, hstatus, EventsOnly.refl _, hother, rfl, fun _ => rfl⟩
  · obtain ⟨w, v, m, a, hpost, hrings⟩ := (postCam_eventsOnly 0x43 0x2 p.group (fieldAt p.payload 0 3) p.group
      { s with now := max s.now p.time, cam := { s.cam with groups := y } }).rings
    exact ⟨_, hbody ((if_neg hc).trans hpost) rfl, hstatus, ⟨⟨w, v, m, a, rfl⟩, hrings⟩, hother, rfl, fun h => absurd h hc⟩

theorem sensor_group_vc (p : CamPkt) : p.sensor / 4 = p.group := by
  have : p.vc < 4 := Nat.mod_lt _ (by decide)
  unfold CamPkt.sensor; omega

/-- A sensor that was absent and feeds no pipeline is announced. -/
theorem announce_arrives {k : Nat} {f : Format} {serial : Nat} {s : State} (h1 : (s.sensor k).present = false) (h2 : s.boundPipe k = none) :
    s.announce k f serial = (s.partnerArrives (sensorId k) (srcOf 0x3 k) (s.sensorPayload k)).modSensor k fun y => { y with
      present := true, serial := serial, head := (((s.group (k / 4)).head.map (·.serial)).getD 0), next := some f, rejectPosted := false
      orphanPosted := false } := by
  have hb : ∀ g, ((s.partnerArrives (sensorId k) (srcOf 0x3 k) (s.sensorPayload k)).modSensor k g).boundPipe k = none := fun _ => h2
  unfold State.announce
  simp only [h1, Bool.false_and, Bool.and_false, Bool.false_eq_true, if_false, hb]

theorem partner_partnerArrives_same (q : PartnerId) (src v : Nat) (s : State) :
    (s.partnerArrives q src v).partner q = { s.partner q with present := true, since := s.now, reported := false, src := src, payload := v } :=
  State.partner_setPartner_same _ _ _

theorem partner_partnerArrives_other {q r : PartnerId} (h : partnerKey r ≠ partnerKey q) (src v : Nat) (s : State) :
    (s.partnerArrives q src v).partner r = s.partner r := partner_setPartner_other _ _ h

theorem vcAnnounce_arrives (p : CamPkt) (s : State) (hp : p.sound 6) (hr : s.receives p.group) (hlen : p.payload.length = 32)
    (hpres : byteAt p.payload 0 % 2 = 1) (habs : (s.sensor p.sensor).present = false) (hbind : s.boundPipe p.sensor = none) :
    ∃ t, exec (.vcAnnounce p) s = .next t
      ∧ t.sensor p.sensor = { s.sensor p.sensor with
          present := true, serial := fieldAt p.payload 24 8, head := (((s.group p.group).head.map (·.serial)).getD 0), next := some (formatOf p.payload)
          rejectPosted := false, orphanPosted := false }
      ∧ (t.partner (sensorId p.sensor)).present = true ∧ (t.partner (sensorId p.sensor)).reported = false ∧ (∀ k, k ≠ p.sensor → t.sensor k = s.sensor k)
      ∧ (∀ q, partnerKey q ≠ partnerKey (sensorId p.sensor) → t.partner q = s.partner q)
      ∧ t = { s with now := max s.now p.time, cam := t.cam, ctl := { s.ctl with partners := t.ctl.partners } } := by
  have hwf : (Instr.vcAnnounce p).wellFormed = true := by simp [Instr.wellFormed, hp.1, hp.2.1]
  obtain ⟨x, hx, hgx, hox⟩ := counted_frame p s
  have hhead : (((s.atLeast p.time).countSeq p).group (p.sensor / 4)).head = (s.group p.group).head := by
    rw [hx, sensor_group_vc]; exact (congrArg CamGroup.head hgx :)
  refine ⟨_, exec_next (i := .vcAnnounce p) rfl hwf ((camReceive_taken _ hr hp.2.2.1 (fun _ => .inr hp.2.1) (.inl hp.2.2.2)).trans
    ((if_neg (not_not_intro hlen)).trans ((if_pos hpres).trans (announce_arrives (by rw [hx]; exact habs) (by rw [hx]; exact hbind))))) (by rw [hx]; rfl),
    ?_, ?_, ?_, fun k hk => ?_, fun q hq => ?_, by rw [hx]; rfl⟩
  · rw [hhead, State.modSensor, State.sensor_setSensor, if_pos rfl, hx]; rfl
  · exact congrArg Partner.present (partner_partnerArrives_same (sensorId p.sensor) _ _ _)
  · exact congrArg Partner.reported (partner_partnerArrives_same (sensorId p.sensor) _ _ _)
  · rw [State.modSensor, State.sensor_setSensor, if_neg hk, hx]; rfl
  · exact (partner_partnerArrives_other hq _ _ _).trans (by rw [hx]; rfl)

theorem embedded_joins (p : CamPkt) (s : State) (q : Nat) (f : Frame) (hp : p.sound 4) (hst : s.camState p.group = 5) (hr : s.receives p.group)
    (hne : p.payload ≠ []) (hopen : (s.sensor p.sensor).openFrame = .pipe q) (hcur : (s.pipe q).cur = some f) : ∃ t, exec (.embedded p) s = .next t
      ∧ t.pipe q = { s.pipe q with cur := some { f with embedded := f.embedded ++ [p.payload] } } ∧ (∀ n, n ≠ q → t.pipe n = s.pipe n)
      ∧ t.cam.sensors = s.cam.sensors ∧ t = { s with now := max s.now p.time, cam := t.cam, pipes := t.pipes } := by
  have hwf : (Instr.embedded p).wellFormed = true := by simp [Instr.wellFormed, hp.1, hp.2.1]
  obtain ⟨x, hx, -, -⟩ := counted_frame p s
  have hopen' : (((s.atLeast p.time).countSeq p).sensor p.sensor).openFrame = .pipe q := by rw [hx]; exact hopen
  have hbody : exec (.embedded p) s = .next (((s.atLeast p.time).countSeq p).modPipe q fun x => { x with
      cur := x.cur.map fun f => { f with embedded := f.embedded ++ [p.payload] } }) := by
    refine exec_next (i := .embedded p) rfl hwf ?_ (by rw [hx]; rfl)
    rw [camReceive_sound _ hp hst hr, if_neg (by rwa [List.isEmpty_iff]), hopen']
  refine ⟨_, hbody, ?_, fun n hn => ?_, ?_, ?_⟩
  · rw [State.modPipe, State.pipe_setPipe, if_pos rfl, hx]
    show ({ s.pipe q with cur := (s.pipe q).cur.map _ } : Pipe) = _
    rw [hcur]; rfl
  · rw [State.modPipe, State.pipe_setPipe, if_neg hn, hx]; rfl
  · rw [hx]; rfl
  · rw [hx]; rfl

theorem ctrlReply_completes (p : CamPkt) (s : State) (e : Nat × Nat) (f : Flight) (hp : p.sound 7) (hst : s.camState p.group = 5) (hr : s.receives p.group)
    (hlen : p.payload.length = 12) (hfind : ((s.group p.group).ctrl.find? fun x => x.1 == hdrAux p.hdr) = some e) (haw : s.awaits e.2 f) :
    ∃ t, exec (.ctrlReply p) s = .next t
      ∧ (byteAt p.payload 8 = 0 → f.opcode = 0x0105 → Answered 0x0105 f.cmd 0 4 (fieldAt p.payload 4 4) t)
      ∧ (byteAt p.payload 8 = 0 → f.opcode = 0x0104 → Answered 0x0104 f.cmd 0 0 0 t)
      ∧ (byteAt p.payload 8 = 1 ∨ byteAt p.payload 8 = 2 → Answered f.opcode f.cmd 0x21 0 0 t)
      ∧ (byteAt p.payload 8 ≤ 2 → (t.group p.group).ctrl = (s.group p.group).ctrl.filter (· != e)) ∧ t.params = s.params ∧ t.cam.sensors = s.cam.sensors
      ∧ t = { s with now := t.now, cam := t.cam, ctl := { s.ctl with wins := t.ctl.wins, flights := t.ctl.flights }, pw := t.pw } := by
  have hwf : (Instr.ctrlReply p).wellFormed = true := by simp [Instr.wellFormed, hp.1, hp.2.1]
  obtain ⟨x, hx, hgx, -⟩ := counted_frame p s
  have hgroup : ((s.atLeast p.time).countSeq p).group p.group = (s.group p.group).seqCounted p := by rw [hx]; exact hgx
  have hctrl : (((s.atLeast p.time).countSeq p).group p.group).ctrl = (s.group p.group).ctrl := (congrArg CamGroup.ctrl hgroup :)
  by_cases h2 : 2 < byteAt p.payload 8
  · have hbody : exec (.ctrlReply p) s = .next ((s.atLeast p.time).countSeq p) := by
      refine exec_next (i := .ctrlReply p) rfl hwf ?_ (by rw [hx])
      rw [camReceive_sound _ hp hst hr, hctrl, hfind]
      exact if_pos (.inr h2)
    exact ⟨_, hbody, fun h => by omega, fun h => by omega, fun h => by omega, fun h => by omega, by rw [hx], by rw [hx], by rw [hx]⟩
  · have hbody : ∀ {u v : State}, (((s.atLeast p.time).countSeq p).modGroup p.group fun x => { x with ctrl := x.ctrl.filter (· != e) }) = u →
        u.flight? e.2 = some f → u.pending = s.pending →
        (if byteAt p.payload 8 = 0 then u.finalReply e.2 cOK (if f.opcode = 0x0105 then 4 else 0) (if f.opcode = 0x0105 then fieldAt p.payload 4 4 else 0)
          else u.finalReply e.2 0x21 0 0) = v → exec (.ctrlReply p) s = .next v := fun {u v} hu hf hp' hv => by
      refine exec_next (i := .ctrlReply p) rfl hwf ?_ (by rw [← hv]; split <;> exact (State.finalReply_pending _ _ _ _ _).trans hp')
      rw [camReceive_sound _ hp hst hr, hctrl, hfind, ← hv]
      dsimp only
      rw [if_neg (by omega), hu, hf]
      by_cases hop : f.opcode = 0x0105 <;> simp [hop]
    have hu : ((((s.atLeast p.time).countSeq p).modGroup p.group fun x => { x with ctrl := x.ctrl.filter (· != e) }).group p.group).ctrl
        = (s.group p.group).ctrl.filter (· != e) := (congrArg CamGroup.ctrl (group_modGroup_same _ _ _)).trans (congrArg (List.filter (· != e)) hctrl)
    have hframe : ∃ y, (((s.atLeast p.time).countSeq p).modGroup p.group fun x => { x with ctrl := x.ctrl.filter (· != e) })
        = { s with now := max s.now p.time, cam := { s.cam with groups := y } } := ⟨_, by rw [hx]; rfl⟩
    generalize (((s.atLeast p.time).countSeq p).modGroup p.group fun x => { x with ctrl := x.ctrl.filter (· != e) }) = u at hbody hu hframe
    obtain ⟨y, rfl⟩ := hframe
    have haw' : State.awaits { s with now := max s.now p.time, cam := { s.cam with groups := y } } e.2 f := haw
    by_cases h0 : byteAt p.payload 8 = 0
    · obtain ⟨W, F, q, hR⟩ := finalReply_fields haw' cOK (if f.opcode = 0x0105 then 4 else 0) (if f.opcode = 0x0105 then fieldAt p.payload 4 4 else 0)
      have hans := finalReply_answered _ haw'.2 haw'.1 (code := cOK) (by decide) (if f.opcode = 0x0105 then 4 else 0)
        (if f.opcode = 0x0105 then fieldAt p.payload 4 4 else 0)
      rw [hR] at hans
      refine ⟨_, hbody rfl haw'.1 rfl ((if_pos h0).trans hR), fun _ hop => ?_, fun _ hop => ?_, fun h => by omega, fun _ => hu, rfl, rfl, rfl⟩
      · simp only [if_pos hop] at hans; rw [hop] at hans; exact hans
      · simp only [if_neg (show ¬ f.opcode = 0x0105 by rw [hop]; decide)] at hans; rw [hop] at hans; exact hans
    · obtain ⟨W, F, q, hR⟩ := finalReply_fields haw' 0x21 0 0
      have hans := finalReply_answered _ haw'.2 haw'.1 (code := 0x21) (by decide) 0 0
      rw [hR] at hans
      exact ⟨_, hbody rfl haw'.1 rfl ((if_neg h0).trans hR), fun h => absurd h h0, fun h => absurd h h0, fun _ => hans, fun _ => hu, rfl, rfl, rfl⟩

theorem ctrlReply_unasked (p : CamPkt) (s : State) (hp : p.sound 7) (hst : s.camState p.group = 5) (hr : s.receives p.group)
    (hfind : ((s.group p.group).ctrl.find? fun x => x.1 == hdrAux p.hdr) = none) :
    exec (.ctrlReply p) s = .next ((s.atLeast p.time).countSeq p) := by
  have hctrl : (((s.atLeast p.time).countSeq p).group p.group).ctrl = (s.group p.group).ctrl := by rw [countSeq_eq, group_modGroup_same]; rfl
  refine exec_next (i := .ctrlReply p) rfl (by simp [Instr.wellFormed, hp.1, hp.2.1]) ?_ rfl
  rw [camReceive_sound _ hp hst hr]
  simp only [hctrl, hfind]

/-- The check values of R92. -/
theorem crc8_check : crc8 ((List.range 9).map fun i => BitVec.ofNat 8 (0x31 + i)) = 0xF4 := by decide +kernel
theorem crc32c_check : crc32c ((List.range 9).map fun i => BitVec.ofNat 8 (0x31 + i)) = 0xE3069283 := by decide +kernel

end Sys2Proof.Machine

open Sys2Proof Sys2Proof.Machine in
/-- Settles O20: a packet is discarded, counted or handled (`camReceive_faulty`, `camReceive_badCrc`, `camReceive_taken`), and each row then does its part. -/
theorem cameraPacketsAreChecked : Obligations.CameraPacketsAreChecked := by
  unfold Obligations.CameraPacketsAreChecked
  exact ⟨cameraPacket_faulty, cameraPacket_badCrc, cameraPacket_deaf, countSeq_counts, headStatus_recorded, vcAnnounce_arrives, embedded_joins,
    ctrlReply_completes, ctrlReply_unasked, crc8_check, crc32c_check⟩
end

section
/-! Commands whose meaning posts events, and probes, genlock, lane losses and departures of the camera link (R95 to R112). -/

namespace Sys2Proof.Machine

/-! ### Commands whose meaning posts events -/

/-- What the meaning of a command gives before its reply: the record that taking it made, an effect `e` and event records. -/
def RunsEvents (s : State) (op : Nat) (c : Cmd) (e u : State) : Prop := ∃ v, Runs s op c e v ∧ EventsOnly v u

theorem Runs.events {s e u : State} {op : Nat} {c : Cmd} (h : Runs s op c e u) : RunsEvents s op c e u := ⟨u, h, EventsOnly.refl u⟩

theorem EventsOnly.flights {s t : State} (h : EventsOnly s t) : t.ctl.flights = s.ctl.flights := by
  obtain ⟨⟨_, _, _, _, rfl⟩, -⟩ := h; rfl

theorem EventsOnly.aipexDown {s t : State} (h : EventsOnly s t) : t.aipexDown = s.aipexDown := by
  obtain ⟨⟨_, _, _, _, rfl⟩, -⟩ := h; rfl

theorem EventsOnly.pending {s t : State} (h : EventsOnly s t) : t.pending = s.pending := by
  obtain ⟨⟨_, _, _, _, rfl⟩, -⟩ := h; rfl

theorem EventsOnly.partner {s t : State} (h : EventsOnly s t) (q : PartnerId) : t.partner q = s.partner q := by
  obtain ⟨⟨_, _, _, _, rfl⟩, -⟩ := h; rfl

theorem RunsEvents.up {s e u : State} {op : Nat} {c : Cmd} (h : RunsEvents s op c e u) (hd : s.aipexDown = false) : u.aipexDown = false := by
  obtain ⟨v, hv, hev⟩ := h
  rw [hev.aipexDown]; exact hv.up hd

theorem RunsEvents.flight? {s e u : State} {op : Nat} {c : Cmd} (h : RunsEvents s op c e u) : u.flight? s.newTicket = some (s.flightOf op c) := by
  obtain ⟨v, hv, hev⟩ := h
  rw [State.flight?_congr hev.flights]; exact hv.flight?

theorem RunsEvents.flights {s e u : State} {op : Nat} {c : Cmd} (h : RunsEvents s op c e u) : u.ctl.flights = e.ctl.flights ++ [s.flightOf op c] := by
  obtain ⟨v, hv, hev⟩ := h
  rw [hev.flights, hv.1]
  exact (s.entered_flights op c).trans (by rw [hv.2.2.2.1])

theorem RunsEvents.pending {s e u : State} {op : Nat} {c : Cmd} (h : RunsEvents s op c e u) : u.pending = e.pending := by
  obtain ⟨v, hv, hev⟩ := h
  rw [hev.pending, hv.1]

/-- The windows: the slot of the command, and rings. -/
theorem RunsEvents.win {s e u : State} {op : Nat} {c : Cmd} (h : RunsEvents s op c e u) (w : Nat) : (u.win w).sameButRing ((s.entered op c).win w) := by
  obtain ⟨v, hv, hev⟩ := h
  rw [← hv.win w]; exact hev.2 w

theorem RunsEvents.e_win {s e u : State} {op : Nat} {c : Cmd} (h : RunsEvents s op c e u) (w : Nat) : e.win w = s.win w := by
  obtain ⟨v, hv, -⟩ := h
  simp only [State.win, hv.2.1]

theorem RunsEvents.busy {s e u : State} {op : Nat} {c : Cmd} (h : RunsEvents s op c e u) : (u.win c.win).busy.testBit c.slot = true := by
  rw [h.win c.win, State.entered_win_same]
  exact testBit_setBit_same _ _

theorem entered_sameButSlot (s : State) (op : Nat) (c : Cmd) : ((s.entered op c).win c.win).sameButSlot c.slot (s.win c.win) := by
  rw [State.entered_win_same]
  exact ⟨rfl, fun j hj => ⟨setBit_same_other hj, rfl, (clrBit_same_other hj).trans (setBit_same_other hj), rfl⟩⟩

theorem RunsEvents.windows {s e u : State} {op : Nat} {c : Cmd} (h : RunsEvents s op c e u) :
    (∀ w, w ≠ c.win → (u.win w).sameButRing (e.win w)) ∧ (u.win c.win).sameButSlotAndRing c.slot (e.win c.win) := by
  refine ⟨fun w hw => ?_, (s.entered op c).win c.win, ?_, h.win c.win⟩
  · rw [h.e_win, ← State.entered_win_other s op c hw]; exact h.win w
  · rw [h.e_win]; exact entered_sameButSlot s op c

theorem RunsEvents.frame {s e u : State} {op : Nat} {c : Cmd} (h : RunsEvents s op c e u) : ∃ w v m a k f,
    u = { e with ctl := { e.ctl with wins := w, views := v, hostMem := m, aer := a, ticket := k, flights := f } } := by
  obtain ⟨v, hv, ⟨⟨w, x, m, a, hu⟩, -⟩⟩ := h
  rw [hv.1] at hu
  exact ⟨_, _, _, _, _, _, hu⟩

/-- A window of which a slot and the ring have changed, and then the reply of that slot was written. -/
theorem Window.sameButSlotAndRing_reply {k : Nat} {x y : Window} (h : x.sameButSlotAndRing k y) (r : Reply) :
    Window.sameButSlotAndRing k { x with replies := SMap.set replyDef x.replies k r, ready := setBit x.ready k, busy := clrBit x.busy k } y := by
  obtain ⟨z, ⟨hz, hj⟩, hx⟩ := h
  refine ⟨{ z with replies := SMap.set replyDef z.replies k r, ready := setBit z.ready k, busy := clrBit z.busy k }, ⟨?_, fun j hne => ?_⟩, ?_⟩
  · rw [hz]
  · obtain ⟨h1, h2, h3, h4⟩ := hj j hne
    exact ⟨(clrBit_same_other hne).trans h1, (setBit_same_other hne).trans h2, h3, (SMap.get_set_other _ _ hne _).trans h4⟩
  · unfold Window.sameButRing at hx ⊢
    rw [hx]

theorem RunsEvents.answered {s e u : State} {op : Nat} {c : Cmd} (h : RunsEvents s op c e u) (hd : s.aipexDown = false) {code : Nat} (hc : code < 256)
    (len r : Nat) : Answered op c code len r (u.finalReply s.newTicket code len r) := finalReply_answered u (h.up hd) h.flight? hc len r

theorem RunsEvents.commandEvents {s e u : State} {op : Nat} {c : Cmd} (h : RunsEvents s op c e u) (hd : s.aipexDown = false) (code len r : Nat)
    (hp : e.ctl.flights = s.ctl.flights) : CommandEvents c e (u.finalReply s.newTicket code len r) := by
  have hfl : (u.finalReply s.newTicket code len r).ctl.flights = e.ctl.flights := by
    rw [State.finalReply_flights u (h.up hd) h.flight?, h.flights, List.filter_append, filter_ticket fun g hg => lt_newTicket s (hp ▸ hg)]
    simp [State.flightOf]
  obtain ⟨hother, hsame⟩ := h.windows
  refine ⟨?_, fun w hw => ?_, ?_⟩
  · obtain ⟨W, F, p, hR⟩ := finalReply_shape u (h.up hd) s.newTicket code len r
    rw [hR] at hfl ⊢
    have hF : F = e.ctl.flights := hfl
    obtain ⟨w, v, m, a, k, f, hu⟩ := h.frame
    rw [hF, hu]
  · rw [State.finalReply_win_other u h.flight? hw]; exact hother w hw
  · rw [show (u.finalReply s.newTicket code len r).win c.win = _ from State.finalReply_win_same u (h.up hd) h.flight? code len r]
    exact Window.sameButSlotAndRing_reply hsame _

/-- An accepted command whose meaning posts events and answers at once. -/
theorem RunsEvents.completes {i : Instr} {spec : OpSpec} {body : Body} {c : Cmd} {s e u : State} {code len r : Nat} (hi : i.wellFormed = true)
    (ha : s.accepts (spec.priv || spec.privIf c) spec.op c) (hl : spec.len c = true) (hr : (c.ops % 2 ^ (8 * c.opLen)) &&& spec.rsvd = 0)
    (hb : c.win = 64 → spec.bus c = true)
    (h2 : body { c := c, tk := s.newTicket, priv := s.privOf c } (s.entered spec.op c) = (u, .done code len r)) (hc : code < 256)
    (h1 : RunsEvents s spec.op c e u) (hp : e.pending = s.pending) :
    ∃ t, guarded i s (submit spec body c s) = .next t ∧ Answered spec.op c code len r t ∧ CommandEvents c e t ∧ t = u.finalReply s.newTicket code len r := by
  have hd := s.aipexDown_of_ready ha.1.2.2.2.1
  refine ⟨_, submit_done (code := code) (len := len) (r := r) hi ha hl hr hb (by rw [h2]) (by rw [h2]; exact h1.pending.trans hp), ?_, ?_, ?_⟩
  · rw [h2]; exact h1.answered hd hc len r
  · rw [h2]
    exact h1.commandEvents hd code len r (by obtain ⟨v, hv, -⟩ := h1; exact hv.2.2.2.1)
  · rw [h2]

/-- An accepted command whose meaning posts events and waits. -/
theorem RunsEvents.waits {i : Instr} {spec : OpSpec} {body : Body} {c : Cmd} {s e u : State} (hi : i.wellFormed = true)
    (ha : s.accepts (spec.priv || spec.privIf c) spec.op c) (hl : spec.len c = true) (hr : (c.ops % 2 ^ (8 * c.opLen)) &&& spec.rsvd = 0)
    (hb : c.win = 64 → spec.bus c = true)
    (h2 : body { c := c, tk := s.newTicket, priv := s.privOf c } (s.entered spec.op c) = (u, .wait))
    (h1 : RunsEvents s spec.op c e u) (hp : e.pending = s.pending) (ht : e.ctl.ticket = s.ctl.ticket) :
    guarded i s (submit spec body c s) = .next u ∧ WaitsEvents spec.op c e u := by
  refine ⟨?_, ⟨s.flightOf spec.op c, h1.flights, rfl, rfl, rfl, ?_⟩, h1.busy, ?_, h1.windows⟩
  · have h := submit_waits (i := i) (body := body) hi ha hl hr hb (by rw [h2]) (by rw [h2]; exact h1.pending.trans hp)
    rwa [h2] at h
  · obtain ⟨v, hv, -⟩ := h1
    exact (newTicket_congr hv.2.2.2.1 ht).symm
  · obtain ⟨w, v, m, a, k, f, hu⟩ := h1.frame
    rw [hu]

/-! ### Probes (R97) -/

/-- A packet or set leaves, held back by a window that stands. -/
theorem emitAfter_eq (t : Nat) (x : Tx) (s : State) : s.emitAfter t x = { s with sent := s.held t x :: s.sent } := rfl

theorem group_emitAfter (t : Nat) (x : Tx) (s : State) (g : Nat) : (s.emitAfter t x).group g = s.group g := rfl

theorem group_setP (i j v : Nat) (s : State) (g : Nat) : (s.setP i j v).group g = s.group g := rfl

theorem group_modGroup_other (s : State) {g h : Nat} (hh : h ≠ g) (f : CamGroup → CamGroup) : (s.modGroup g f).group h = s.group h :=
  (State.group_modGroup s g f h).trans (if_neg hh)

theorem probeSend_sends (g t : Nat) (s : State) (hg : g < 8) (hst : s.camState g = 5) (hp : s.powerState ≠ 2) :
    ∃ u, exec (.probeSend g t) s = .next u
      ∧ u.group g = { s.group g with pseq := ((s.group g).pseq + 1) % 256, probes := ((s.group g).pseq, max t (s.camWindow g)) :: (s.group g).probes }
      ∧ (∀ h, h ≠ g → u.group h = s.group h)
      ∧ u.sent = u.held (max t (s.camWindow g)) (.camSet g 6 (s.group g).pseq 0 (255 - (s.group g).pseq)) :: s.sent
      ∧ u.cam.sensors = s.cam.sensors ∧ u = { s with now := max s.now t, cam := u.cam, sent := u.sent } := by
  have hprob : (s.atLeast t).probing g = true := by
    have h1 : (s.atLeast t).camState g = 5 := hst
    have h2 : (s.atLeast t).powerState ≠ 2 := hp
    simp [State.probing, h1, h2]
  refine ⟨_, exec_next (i := .probeSend g t) rfl (by simp [Instr.wellFormed]; omega) ((if_neg (by omega)).trans (if_pos hprob)) rfl, ?_, fun h hh => ?_,
    rfl, rfl, rfl⟩
  · rw [group_emitAfter, group_modGroup_same]; rfl
  · rw [group_emitAfter, group_modGroup_other _ hh]; rfl

theorem probeSend_silent (g t : Nat) (s : State) (hg : g < 8) (h5 : s.camState g ≠ 5) (h4 : s.camState g ≠ 4 ∨ (s.group g).identified = false) :
    exec (.probeSend g t) s = .next (s.atLeast t) := by
  have hprob : (s.atLeast t).probing g = false := by
    have h1 : (s.atLeast t).camState g = s.camState g := rfl
    have h2 : (s.atLeast t).group g = s.group g := rfl
    rcases h4 with h | h <;> simp [State.probing, h1, h2, h5, h]
  refine exec_next (i := .probeSend g t) rfl (by simp [Instr.wellFormed]; omega) ((if_neg (by omega)).trans (if_neg (by rw [hprob]; decide))) rfl

/-- A probe of an ACTIVE group is done: nothing but its number changes. -/
theorem probeDone_active {g : Nat} {s : State} (h : s.camState g = 5) :
    s.probeDone g = s.modGroup g fun x => { x with probesDone := x.probesDone + 1 } := by
  refine if_neg fun hc => ?_
  have h4 : s.camState g = 4 := hc.1
  omega

/-- The echo of the PROBE `e` is taken, with delay `d`. -/
def CamGroup.echoed (e : Nat × Nat) (d : Nat) (x : CamGroup) : CamGroup :=
  { x with probes := x.probes.filter (· != e), echoes := (d :: x.echoes).take 16, lostRun := 0 }

theorem groupEcho_taken {g q d3 t : Nat} {e : Nat × Nat} {s : State} (hq : q + d3 = 255) (hh : s.groupHears g = true)
    (hf : ((s.group g).probes.find? fun e => e.1 == q) = some e) : s.groupEcho g q 1 d3 t
      = (((s.atLeast t).modGroup g (CamGroup.echoed e ((t - e.2 - ((s.group g).head.map (·.turn)).getD 0) / 2))).setP (P.cg g P.CG_LINK_DELAY) 0
          (medianOf ((s.group g).echoed e ((t - e.2 - ((s.group g).head.map (·.turn)).getD 0) / 2)).echoes)).probeDone g := by
  have hh' : (s.atLeast t).groupHears g = true := hh
  have hg : (s.atLeast t).group g = s.group g := rfl
  simp only [State.groupEcho, hh', hg, hf, hq, ne_eq, not_true, false_or, Bool.true_eq_false, if_false, group_modGroup_same]
  rfl

theorem probeEcho_taken (g q d3 t t0 : Nat) (s : State) (hg : g < 8) (hd : d3 < 256) (hq : q + d3 = 255) (hst : s.camState g = 5)
    (hh : s.groupHears g = true) (hf : ((s.group g).probes.find? fun e => e.1 == q) = some (q, t0)) : ∃ u, exec (.probeEcho g q 1 d3 t) s = .next u
      ∧ (u.group g).echoes = ((t - t0 - ((s.group g).head.map (·.turn)).getD 0) / 2 :: (s.group g).echoes).take 16 ∧ (u.group g).lostRun = 0
      ∧ (u.group g).probes = (s.group g).probes.filter (· != (q, t0)) ∧ u.getP (P.cg g P.CG_LINK_DELAY) 0 = medianOf (u.group g).echoes
      ∧ SameParams [pkey (P.cg g P.CG_LINK_DELAY) 0] s u ∧ (∀ h, h ≠ g → u.group h = s.group h)
      ∧ u = { s with now := max s.now t, cam := u.cam, params := u.params } := by
  have hbody := groupEcho_taken (t := t) hq hh hf
  generalize (t - (q, t0).2 - ((s.group g).head.map (·.turn)).getD 0) / 2 = d at hbody
  have hst' : (((s.atLeast t).modGroup g (CamGroup.echoed (q, t0) d)).setP (P.cg g P.CG_LINK_DELAY) 0
      (medianOf ((s.group g).echoed (q, t0) d).echoes)).camState g = 5 := (State.getP_setP _ _ _ _ _ _).trans ((if_neg (cg_key_ne (by decide))).trans hst)
  rw [probeDone_active hst'] at hbody
  have hgroup : ∀ n, ((((s.atLeast t).modGroup g (CamGroup.echoed (q, t0) d)).setP (P.cg g P.CG_LINK_DELAY) 0 n).modGroup g fun x => { x with
      probesDone := x.probesDone + 1 }).group g = { (s.group g).echoed (q, t0) d with probesDone := (s.group g).probesDone + 1 } := fun n => by
    rw [group_modGroup_same, group_setP, group_modGroup_same]; rfl
  refine ⟨_, exec_next (i := .probeEcho g q 1 d3 t) rfl (by simp [Instr.wellFormed]; omega) ((if_neg (by omega)).trans hbody) rfl, ?_, ?_, ?_, ?_, ?_, ?_, rfl⟩
  · rw [hgroup]; rfl
  · rw [hgroup]; rfl
  · rw [hgroup]; rfl
  · rw [hgroup]; exact State.getP_setP_same _ _ _ _
  · exact fun k hk => SMap.get_set_other _ _ (by simpa using hk) _
  · intro h hne
    rw [group_modGroup_other _ hne, group_setP, group_modGroup_other _ hne]; rfl

theorem probeEcho_ignored (g q d2 d3 t : Nat) (s : State) (hg : g < 8) (hq : q < 65536) (h2 : d2 < 256) (h3 : d3 < 256)
    (h : d2 ≠ 1 ∨ q + d3 ≠ 255 ∨ s.groupHears g = false ∨ ((s.group g).probes.find? fun e => e.1 == q) = none) :
    exec (.probeEcho g q d2 d3 t) s = .next (s.atLeast t) := by
  refine exec_next (i := .probeEcho g q d2 d3 t) rfl (by simp [Instr.wellFormed]; omega) ((if_neg (by omega)).trans ?_) rfl
  have hh : (s.atLeast t).groupHears g = s.groupHears g := rfl
  have hgr : (s.atLeast t).group g = s.group g := rfl
  unfold State.groupEcho
  dsimp only
  rw [hh, hgr]
  by_cases hc : d2 ≠ 1 ∨ q + d3 ≠ 255 ∨ s.groupHears g = false
  · rw [if_pos hc]
  · rw [if_neg hc, show ((s.group g).probes.find? fun e => e.1 == q) = none by tauto]

theorem probeTimeout_counted (g q : Nat) (e : Nat × Nat) (s : State) (hg : g < 8) (hq : q < 65536) (hst : s.camState g = 5)
    (hf : ((s.group g).probes.find? fun x => x.1 == q) = some e) (hr : (s.group g).lostRun < 15) : ∃ u, exec (.probeTimeout g q) s = .next u
      ∧ (u.group g).lostRun = (s.group g).lostRun + 1 ∧ (u.group g).probes = (s.group g).probes.filter (· != e)
      ∧ (∀ h, h ≠ g → u.group h = s.group h) ∧ u = { s with cam := u.cam } := by
  have hgroup : ∀ f : CamGroup → CamGroup, (s.modGroup g f).group g = f (s.group g) := group_modGroup_same s g
  refine ⟨_, exec_next (i := .probeTimeout g q) rfl (by simp [Instr.wellFormed]; omega) (u := ((s.modGroup g fun x => { x with
      probes := x.probes.filter (· != e), lostRun := x.lostRun + 1 }).modGroup g fun x => { x with probesDone := x.probesDone + 1 }))
      ((if_neg (by omega)).trans ?_) rfl, ?_, ?_, fun h hne => ?_, rfl⟩
  · simp only [State.groupProbeLost, hf, hgroup]
    rw [if_neg (by omega)]
    exact probeDone_active hst
  · rw [group_modGroup_same, group_modGroup_same]
  · rw [group_modGroup_same, group_modGroup_same]
  · rw [group_modGroup_other _ hne, group_modGroup_other _ hne]

/-! ### The return to DETECT -/

/-- The group as training begins again. -/
def CamGroup.untrained (x : CamGroup) : CamGroup :=
  { x with
    lanes := [], alignedRun := 0, trained := false, askSpare := none, pendingMap := none, discovers := 0, probes := [], probesDone := 0
    echoes := [], lostRun := 0, identified := false, missed := 0, mirror := none, lspSeen := false, badLanes := 0, headWidth := 0 }

theorem resetTraining_group (g : Nat) (s : State) : (s.resetTraining g false).group g = (s.group g).untrained := by
  rw [State.resetTraining, group_setP, group_modGroup_same]; rfl

theorem resetTraining_frame (g : Nat) (b : Bool) (s : State) : ∃ x, s.resetTraining g b = { s with
    cam := { s.cam with groups := SMap.set groupDef s.cam.groups g x }, params := SMap.set pdef s.params (pkey (P.cg g P.CG_SPARE_MAP) 0) 255 } := ⟨_, rfl⟩

theorem resetTraining_camState (g : Nat) (b : Bool) (s : State) : (s.resetTraining g b).camState g = s.camState g :=
  (State.getP_setP _ _ _ _ _ _).trans (if_neg (cg_key_ne (by decide)))

theorem resetTraining_spareMap (g : Nat) (b : Bool) (s : State) : (s.resetTraining g b).getP (P.cg g P.CG_SPARE_MAP) 0 = 255 := State.getP_setP_same _ _ _ _

/-- The parameters of a group's state. -/
abbrev cgStateKeys (g : Nat) : List Nat := [pkey (P.cg g P.CG_STATE) 0, pkey (P.cg g P.CG_WIDTH) 0, pkey (P.cg g P.CG_SPARE_MAP) 0]

theorem resetTraining_sameParams (g : Nat) (b : Bool) (s : State) : SameParams (cgStateKeys g) s (s.resetTraining g b) := sameParams_setP (by simp) _

/-- Entering a state where a reset has been made changes the group's three parameters. -/
theorem GroupIn.sameParams {g n : Nat} {s e t : State} (h : GroupIn g n e t) (he : SameParams (cgStateKeys g) s e) : SameParams (cgStateKeys g) s t :=
  he.trans (h.2.2.1.mono (by simp))

theorem probeTimeout_detects (g q : Nat) (e : Nat × Nat) (s : State) (hg : g < 8) (hq : q < 65536)
    (hf : ((s.group g).probes.find? fun x => x.1 == q) = some e) (hr : (s.group g).lostRun = 15) (hst : s.camState g = 4 ∨ s.camState g = 5) :
    ∃ u, exec (.probeTimeout g q) s = .next u ∧ u.camState g = 1 ∧ u.getP (P.cg g P.CG_WIDTH) 0 = 0 ∧ (u.group g).lostRun = 0 ∧ (u.group g).probes = []
      ∧ SameParams (cgStateKeys g) s u := by
  have hgroup : ∀ f : CamGroup → CamGroup, (s.modGroup g f).group g = f (s.group g) := group_modGroup_same s g
  have hin := enterGroup_groupIn (n := 1) (s := (s.modGroup g fun x => { x with
    probes := x.probes.filter (· != e), lostRun := x.lostRun + 1 }).resetTraining g false) hg (by
      rw [resetTraining_camState]; show s.camState g ≠ 1; omega) 4
  refine ⟨_, exec_next (i := .probeTimeout g q) rfl (by simp [Instr.wellFormed]; omega) ((if_neg (by omega)).trans ?_) hin.pending, hin.state, hin.2.1, ?_, ?_,
    hin.sameParams ((resetTraining_sameParams g false _ :))⟩
  · simp only [State.groupProbeLost, hf, hgroup, hr]
    rfl
  · rw [hin.group (by decide), resetTraining_group]; rfl
  · rw [hin.group (by decide), resetTraining_group]; rfl

/-! ### TSYNC (R95) -/

theorem group_emit (x : Tx) (s : State) (g : Nat) : (s.emit x).group g = s.group g := rfl

theorem sensor_emit (x : Tx) (s : State) (k : Nat) : (s.emit x).sensor k = s.sensor k := rfl

/-- The sensors of a list are aimed at a target. -/
theorem aimAll_frame (v : Nat) : ∀ (l : List (Nat × Int × Int)) (s : State), ∃ x,
    l.foldl (fun t e => t.modSensor e.1 fun y => { y with aimed := v }) s = { s with cam := { s.cam with sensors := x } }
  | [], s => ⟨_, rfl⟩
  | e :: l, s => by
    obtain ⟨x, h⟩ := aimAll_frame v l (s.modSensor e.1 fun y => { y with aimed := v })
    exact ⟨x, h⟩

theorem aimAll_aimed (v : Nat) : ∀ (l : List (Nat × Int × Int)) (s : State) (k : Nat), (∃ e ∈ l, e.1 = k) ∨ (s.sensor k).aimed = v →
    ((l.foldl (fun t e => t.modSensor e.1 fun y => { y with aimed := v }) s).sensor k).aimed = v
  | [], s, k, h => by simpa using h
  | e :: l, s, k, h => by
    refine aimAll_aimed v l _ k ?_
    rw [State.sensor_modSensor]
    by_cases hk : k = e.1
    · right; rw [if_pos hk]
    · rw [if_neg hk]
      rcases h with ⟨x, hx, hxk⟩ | h
      · rcases List.mem_cons.1 hx with rfl | hx
        · exact absurd hxk.symm hk
        · exact .inl ⟨x, hx, hxk⟩
      · exact .inr h

/-- The first due of a list all of whose members have the same target and send time. -/
theorem first_due {l : List (Nat × Int × Int)} {d : Int × Int} {v : Nat × Int × Int} (hv : v.2 = d) (h : ∀ x ∈ l, x.2 = d) :
    (l.foldl (fun m e => if e.2.2 < m.2.2 then e else m) v).2 = d :=
  List.foldlRecOn (motive := fun m : Nat × Int × Int => m.2 = d) l _ hv fun m hm e he => by
    split
    · exact h e he
    · exact hm

theorem tsyncSend_leaves (g m t a : Nat) (e : Nat × Int × Int) (s : State) (hg : g < 8) (hm : m < 16) (he : e ∈ s.tsyncsDue g)
    (hbit : m.testBit (e.1 % 4) = true) (hall : ∀ x ∈ s.tsyncsDue g, x.2 = e.2)
    (ha : a = max (e.2.2.toNat / 65536 - 1) (min (e.2.2.toNat / 65536 + 2) t)) : ∃ u, exec (.tsyncSend g m t) s = .next u ∧ (u.group g).tsyncTime = a
      ∧ (∀ x ∈ s.tsyncsDue g, (u.sensor x.1).aimed = e.2.1.toNat) ∧ (u.group g).tsyncs.head? = some ((s.group g).tseq, s.ring.tag)
      ∧ (u.group g).tseq = ((s.group g).tseq + 1) % 256
      ∧ u.sent = .camSet g 2 ((s.tsyncsDue g).foldl (fun m x => setBit m (x.1 % 4)) 0) (s.group g).tseq (255 - (s.group g).tseq) :: s.sent
      ∧ (∀ h, h ≠ g → u.group h = s.group h) ∧ u = { s with now := max s.now a, cam := u.cam, sent := u.sent } := by
  have hne : (s.tsyncsDue g).filter (fun x => m.testBit (x.1 % 4)) ≠ [] := List.ne_nil_of_mem (List.mem_filter.2 ⟨he, hbit⟩)
  obtain ⟨v, r, hvr⟩ := List.exists_cons_of_ne_nil hne
  have hmem : ∀ x ∈ v :: r, x.2 = e.2 := fun x hx => hall x (List.mem_filter.1 (hvr ▸ hx)).1
  have hfirst := first_due (l := r) (hmem v (by simp)) fun x hx => hmem x (List.mem_cons_of_mem _ hx)
  have hfilter : ((s.tsyncsDue g).filter fun x => x.2 == e.2) = s.tsyncsDue g := List.filter_eq_self.2 fun x hx => by simp [hall x hx]
  obtain ⟨y, hy⟩ := aimAll_frame e.2.1.toNat (s.tsyncsDue g) (s.atLeast a)
  refine ⟨_, exec_next (i := .tsyncSend g m t) rfl (by simp [Instr.wellFormed]; omega) (u := ((((s.tsyncsDue g).foldl (fun t e' => t.modSensor e'.1 fun x => {
      x with aimed := e.2.1.toNat }) (s.atLeast a)).modGroup g fun x => { x with
        tseq := ((s.group g).tseq + 1) % 256, tsyncs := (((s.group g).tseq, s.ring.tag) :: x.tsyncs).take 256, tsyncTime := a }).emit
      (.camSet g 2 ((s.tsyncsDue g).foldl (fun m x => setBit m (x.1 % 4)) 0) (s.group g).tseq (255 - (s.group g).tseq)))) ?_ (by rw [hy]; rfl),
    ?_, fun x hx => ?_, ?_, ?_, ?_, fun h hh => ?_, ?_⟩
  · simp only [hvr, hfirst, hfilter, ← ha]
    rw [hy]
    rfl
  · rw [group_emit, group_modGroup_same]
  · rw [sensor_emit]
    exact aimAll_aimed _ _ _ _ (.inl ⟨x, hx, rfl⟩)
  · rw [group_emit, group_modGroup_same]; rfl
  · rw [group_emit, group_modGroup_same]
  · rw [hy]; rfl
  · rw [group_emit, group_modGroup_other _ hh, hy]; rfl
  · rw [hy]; rfl

theorem tsyncsDue_genlocked (g vc : Nat) (s : State) (_ : g < 8) (hv : vc < 4) (h : s.genlocked g vc = true) :
    (4 * g + vc, s.tsyncTarget (4 * g + vc), s.tsyncTarget (4 * g + vc)
      - (((s.group g).head.map (·.fsDelay)).getD 0 + 2 * s.getP (P.cg g P.CG_LINK_DELAY) 0 : Nat) * 65536 + s.getPI (P.cg g P.CG_TSYNC_TRIM) vc * 65536)
        ∈ s.tsyncsDue g := by
  have h1 : (4 * g + vc) / 4 = g := by omega
  have h2 : (4 * g + vc) % 4 = vc := by omega
  refine List.mem_map.2 ⟨vc, List.mem_filter.2 ⟨List.mem_range.2 hv, h⟩, ?_⟩
  simp only [State.tsyncTime, h1, h2]
  rfl

theorem tsyncSend_none (g m t : Nat) (s : State) (hg : g < 8) (hm : m < 16) (h : ∀ vc, vc < 4 → m.testBit vc = true → s.genlocked g vc = false) :
    exec (.tsyncSend g m t) s = .next s := by
  have hnil : (s.tsyncsDue g).filter (fun x => m.testBit (x.1 % 4)) = [] := by
    refine List.filter_eq_nil_iff.2 fun x hx hb => ?_
    obtain ⟨vc, hvc, rfl⟩ := List.mem_map.1 hx
    obtain ⟨hv, hl⟩ := List.mem_filter.1 hvc
    have hlt := List.mem_range.1 hv
    have h2 : (4 * g + vc) % 4 = vc := by omega
    have hb : m.testBit ((4 * g + vc) % 4) = true := hb
    rw [h2] at hb
    exact absurd (hl.symm.trans (h vc hlt hb)) (by decide)
  refine exec_next (i := .tsyncSend g m t) rfl (by simp [Instr.wellFormed]; omega) ?_ rfl
  simp only [hnil]

/-! ### Lanes lost (R104) -/

theorem cameraLaneLost_spared (g lane : Nat) (s : State) (hg : g < 8) (hl : lane < 16) (hst : s.camState g = 5) (hw : lane < (s.group g).width)
    (hmap : s.getP (P.cg g P.CG_SPARE_MAP) 0 = 255) (hpend : (s.group g).pendingMap = none) (hseen : (s.group g).lspSeen = true)
    (hcap : (s.group g).cap 2 = true) (htrap : (s.laneGroup (16 + g)).trapStep = 0) :
    ∃ t, exec (.cameraLaneLost g lane) s = .next t ∧ (t.group g).pendingMap = some (lane, ((s.group g).lastAseq + 2) % 256)
      ∧ (t.group g).badLanes = setBit (s.group g).badLanes lane
      ∧ t.sent = s.held (s.camWindow g) (.camPkt g (mkHdr 0xD 0 (SMap.get (fun _ => 0) (s.group g).retSeq 0) 4 0 0)
          (withCrc (leBytes (lane + at' 8 (((s.group g).lastAseq + 2) % 256)) 4))) :: s.sent
      ∧ (∀ h, h ≠ g → t.group h = s.group h) ∧ t = { s with cam := t.cam, sent := t.sent } := by
  have hbody : s.camLaneLost g lane = (s.modGroup g fun y => { y with badLanes := setBit y.badLanes lane }).sendLaneMap g lane := by
    have h16 : lane ≠ 16 := by omega
    simp only [State.camLaneLost, hst, hmap, hpend, hseen, hcap, htrap, h16, Nat.not_le.2 hw, ne_eq, not_true, not_false_iff, false_and, and_false,
      false_or, if_false, if_true, Option.map_none, reduceCtorEq, and_self]
  have hgroup : (s.modGroup g fun y => { y with badLanes := setBit y.badLanes lane }).group g = { s.group g with badLanes := setBit (s.group g).badLanes lane } :=
    group_modGroup_same s g _
  unfold State.sendLaneMap at hbody
  rw [hgroup] at hbody
  obtain ⟨x, hx, hxe⟩ := sendReturn_frame g 0xD 0 0 (leBytes (lane + at' 8 (((s.group g).lastAseq + 2) % 256)) 4)
    ((s.modGroup g fun y => { y with badLanes := setBit y.badLanes lane }).modGroup g fun x => { x with
      pendingMap := some (lane, ((s.group g).lastAseq + 2) % 256) })
  rw [group_modGroup_same, hgroup] at hx hxe
  refine ⟨_, exec_next (i := .cameraLaneLost g lane) rfl (by simp [Instr.wellFormed]; omega) (hbody.trans hx) rfl, ?_, ?_, rfl, fun h hh => ?_, rfl⟩
  · exact (congrArg CamGroup.pendingMap (SMap.get_set_same groupDef _ g x)).trans (by rw [hxe])
  · exact (congrArg CamGroup.badLanes (SMap.get_set_same groupDef _ g x)).trans (by rw [hxe])
  · refine (SMap.get_set_other groupDef _ hh x).trans ?_
    exact (group_modGroup_other _ hh _).trans (group_modGroup_other s hh _)

theorem cameraLaneLost_lsp (g : Nat) (s : State) (hg : g < 8) (hst : s.camState g = 5) (hmap : s.getP (P.cg g P.CG_SPARE_MAP) 0 = 255)
    (hpend : (s.group g).pendingMap = none) : exec (.cameraLaneLost g 16) s = .next (s.modGroup g fun y => { y with lspSeen := false }) := by
  refine exec_next (i := .cameraLaneLost g 16) rfl (by simp [Instr.wellFormed]; omega) ?_ rfl
  simp [State.camLaneLost, hst, hmap, hpend]

theorem cameraLaneLost_idle (g lane : Nat) (s : State) (hg : g < 8) (hl : lane < 17) (h : s.camState g ≠ 5 ∨ (s.group g).width ≤ lane ∧ lane ≠ 16) :
    exec (.cameraLaneLost g lane) s = .next s :=
  exec_next (i := .cameraLaneLost g lane) rfl (by simp [Instr.wellFormed]; omega) (if_pos h) rfl

theorem cameraLaneLost_retrains (g lane m : Nat) (s : State) (hg : g < 8) (hl : lane < 16) (hst : s.camState g = 5) (hw : lane < (s.group g).width)
    (hmap : s.getP (P.cg g P.CG_SPARE_MAP) 0 = m) (hm : m < 16) (hpend : (s.group g).pendingMap = none) (htrap : (s.laneGroup (16 + g)).trapStep = 0) :
    ∃ t, exec (.cameraLaneLost g lane) s = .next t ∧ t.camState g = 2 ∧ t.getP (P.cg g P.CG_SPARE_MAP) 0 = 255 ∧ t.getP (P.cg g P.CG_WIDTH) 0 = 0
      ∧ (t.group g).badLanes = setBit (s.group g).badLanes lane ∧ (t.group g).lanes = [] ∧ (t.group g).trained = false
      ∧ SameParams (cgStateKeys g) s t ∧ (∀ h, h ≠ g → t.group h = s.group h) := by
  have hst2 : ∃ u : State, s.camLaneLost g lane = (u.resetTraining g true).enterGroup g 2 3 ∧ (u.group g).badLanes = setBit (s.group g).badLanes lane
      ∧ u.params = s.params ∧ u.pending = s.pending ∧ ∀ h, h ≠ g → u.group h = s.group h := by
    have h16 : lane ≠ 16 := by omega
    have h255 : m ≠ 255 := by omega
    simp only [State.camLaneLost, hst, hmap, hpend, htrap, h16, h255, Nat.not_le.2 hw, ne_eq, not_true, not_false_iff, false_and, and_false,
      false_or, if_false, Option.map_none, reduceCtorEq]
    refine ⟨_, rfl, ?_⟩
    split
    · refine ⟨?_, rfl, rfl, fun h hh => ?_⟩
      · rw [group_modGroup_same, group_modGroup_same]
      · rw [group_modGroup_other _ hh, group_modGroup_other _ hh]
    · refine ⟨?_, rfl, rfl, fun h hh => ?_⟩
      · rw [group_modGroup_same]
      · rw [group_modGroup_other _ hh]
  obtain ⟨u, hu, hbad, hpar, hpd, hothers⟩ := hst2
  have hcam : u.camState g = 5 := (getP_of_params hpar _ _).trans hst
  have hin := enterGroup_groupIn (s := u.resetTraining g true) (n := 2) hg (by rw [resetTraining_camState, hcam]; decide) 3
  have hgroup : (u.resetTraining g true).group g = _ := (group_setP _ _ _ _ g).trans (group_modGroup_same u g _)
  refine ⟨_, exec_next (i := .cameraLaneLost g lane) rfl (by simp [Instr.wellFormed]; omega) hu (hin.pending.trans hpd), hin.state,
    (hin.keeps (by simp)).trans (resetTraining_spareMap g true u), hin.2.1, ?_, ?_, ?_,
    hin.sameParams ((sameParams_of_params hpar).trans (resetTraining_sameParams g true u)), fun h hh => ?_⟩
  · rw [hin.group (by decide), hgroup]; exact hbad
  · rw [hin.group (by decide), hgroup]
  · rw [hin.group (by decide), hgroup]
  · obtain ⟨-, -, -, -, -, -, ho, -⟩ := hin
    rw [ho h hh, State.resetTraining, group_setP, group_modGroup_other _ hh, hothers h hh]

/-! ### Departures (R105) -/

/-- A pipeline enters a state, posting it: PL_STATE and event records. -/
theorem setPlState_events (p n : Nat) (s : State) : ∃ x, EventsOnly { s with params := x } (s.setPlState p n)
    ∧ ∀ k, k ≠ pkey (P.pl p P.PL_STATE) 0 → SMap.get pdef x k = SMap.get pdef s.params k := by
  unfold State.setPlState
  dsimp only
  generalize (if (s.pipe p).change.isSome then 0 else n) = m
  split
  · exact ⟨s.params, EventsOnly.refl s, fun _ _ => rfl⟩
  · exact ⟨_, eventsOnly_postTagged _ _ _ _ _ _, fun k hk => SMap.get_set_other _ _ hk _⟩

theorem partnerDeparts_absent (p : PartnerId) (s : State) : ((s.partnerDeparts p).partner p).present = false := by
  cases h : (s.partner p).present with
  | true => exact (partnerDeparts_effect p s h).1
  | false => rw [State.partnerDeparts]; simp only [h, Bool.false_eq_true, if_false]

theorem partnerDeparts_onlyControl (p : PartnerId) (s : State) : OnlyControl s (s.partnerDeparts p) := by
  unfold State.partnerDeparts
  dsimp only
  split
  · split
    · exact ((setPartner_onlyControl s p _).trans (latchConfig_onlyControl _)).trans (post_onlyControl _ _ _ _ _)
    · exact setPartner_onlyControl s p _
  · rfl

theorem partnerDeparts_other {p q : PartnerId} (h : partnerKey q ≠ partnerKey p) (s : State) : (s.partnerDeparts p).partner q = s.partner q := by
  unfold State.partnerDeparts
  dsimp only
  split
  · split
    · rw [partner_post, partner_latchConfig, partner_setPartner_other _ _ h]
    · rw [partner_setPartner_other _ _ h]
  · rfl

theorem partner_congr {p q : PartnerId} (h : partnerKey p = partnerKey q) (s : State) : s.partner p = s.partner q := congrArg (SMap.get partnerDef s.ctl.partners) h

/-- A departure makes no partner present. -/
theorem partnerDeparts_keeps_absent (p q : PartnerId) (s : State) (h : (s.partner q).present = false) : ((s.partnerDeparts p).partner q).present = false := by
  by_cases hk : partnerKey q = partnerKey p
  · rw [partner_congr hk]; exact partnerDeparts_absent p s
  · rw [partnerDeparts_other hk]; exact h

/-- The states of the pipelines. -/
abbrev plStateKeys : List Nat := (List.range 8).map fun p => pkey (P.pl p P.PL_STATE) 0

theorem boundPipe_lt {s : State} {k p : Nat} (h : s.boundPipe k = some p) : p < 8 := List.mem_range.1 (List.mem_of_find?_eq_some h)

/-- What the departure of the sensors in `l` does and leaves. -/
def SensorsGone (l : List Nat) (s t : State) : Prop :=
  (∀ k ∈ l, (t.sensor k).present = false ∧ ((s.sensor k).present = true → (t.partner (sensorId k)).present = false))
    ∧ (∀ k, k ∉ l → t.sensor k = s.sensor k) ∧ SameParams plStateKeys s t
    ∧ (∀ q, (s.partner q).present = false → (t.partner q).present = false)
    ∧ ∃ x p v c, t = { s with cam := { s.cam with sensors := x }, pipes := p, params := v, ctl := c }

theorem sensorDeparts_gone (k : Nat) (s : State) : SensorsGone [k] s (s.sensorDeparts k) := by
  unfold State.sensorDeparts
  split
  · next hp =>
    have hctl := partnerDeparts_onlyControl (sensorId k) s
    have habs := partnerDeparts_absent (sensorId k) s
    have hkeep := fun q => partnerDeparts_keeps_absent (sensorId k) q s
    generalize s.partnerDeparts (sensorId k) = u at hctl habs hkeep
    have hu : ∃ c, u = { s with ctl := c } := ⟨_, hctl⟩
    obtain ⟨c, rfl⟩ := hu
    dsimp only
    generalize hm : (State.modSensor k (fun x => { x with
      present := false, openFrame := .none, lastNumber := none, exposed := [], next := none, settings := 0 }) { s with ctl := c }) = m
    have hgone : (m.sensor k).present = false := by rw [← hm, State.sensor_modSensor, if_pos rfl]
    have hother : ∀ j, j ≠ k → m.sensor j = s.sensor j := fun j hj => by rw [← hm, State.sensor_modSensor, if_neg hj]; rfl
    have hpart : ∀ q, m.partner q = State.partner { s with ctl := c } q := fun q => by rw [← hm]; rfl
    have hf : ∃ x, m = { s with cam := { s.cam with sensors := x }, ctl := c } := ⟨_, hm.symm⟩
    split
    · next p hb =>
      obtain ⟨x, hev, hx⟩ := setPlState_events p 1 (m.modPipe p fun x => { x with cur := none })
      obtain ⟨w, v, h, a, hs, -⟩ := hev.rings
      obtain ⟨y, rfl⟩ := hf
      rw [hs]
      refine ⟨fun j hj => ?_, fun j hj => hother j (by simpa using hj), fun j hj => hx j fun h => hj ?_, fun q hq => (congrArg Partner.present (hpart q)).trans (hkeep q hq),
        _, _, _, _, rfl⟩
      · obtain rfl := List.mem_singleton.1 hj
        exact ⟨hgone, fun _ => (congrArg Partner.present (hpart _)).trans habs⟩
      · exact List.mem_map.2 ⟨p, List.mem_range.2 (boundPipe_lt hb), h.symm⟩
    · obtain ⟨y, rfl⟩ := hf
      refine ⟨fun j hj => ?_, fun j hj => hother j (by simpa using hj), fun _ _ => rfl, fun q hq => (congrArg Partner.present (hpart q)).trans (hkeep q hq), _, _, _, _, rfl⟩
      obtain rfl := List.mem_singleton.1 hj
      exact ⟨hgone, fun _ => (congrArg Partner.present (hpart _)).trans habs⟩
  · next hp =>
    refine ⟨fun j hj => ?_, fun _ _ => rfl, fun _ _ => rfl, fun _ h => h, _, _, _, _, rfl⟩
    obtain rfl := List.mem_singleton.1 hj
    exact ⟨Bool.eq_false_iff.2 hp, fun h => absurd h hp⟩

theorem SensorsGone.cons {k : Nat} {l : List Nat} {s t u : State} (h : SensorsGone [k] s t) (g : SensorsGone l t u) : SensorsGone (k :: l) s u := by
  obtain ⟨h1, h2, h3, h4, x, p, v, c, hf⟩ := h
  obtain ⟨g1, g2, g3, g4, x', p', v', c', gf⟩ := g
  refine ⟨fun j hj => ?_, fun j hj => ?_, h3.trans g3, fun q hq => g4 q (h4 q hq), x', p', v', c', by rw [gf, hf]⟩
  · by_cases hjk : j = k
    · subst hjk
      obtain ⟨ha, hb⟩ := h1 j (by simp)
      refine ⟨?_, fun hp => g4 _ (hb hp)⟩
      by_cases hjl : j ∈ l
      · exact (g1 j hjl).1
      · rw [g2 j hjl]; exact ha
    · have hjl : j ∈ l := by simpa [hjk] using hj
      refine ⟨(g1 j hjl).1, fun hp => (g1 j hjl).2 ?_⟩
      rw [h2 j (by simpa using hjk)]; exact hp
  · obtain ⟨hk, hl⟩ := not_or.1 (List.mem_cons.not.1 hj)
    rw [g2 j hl, h2 j (by simpa using hk)]

theorem sensorsDepart_gone : ∀ (l : List Nat) (s : State), SensorsGone l s (l.foldl (fun t k => t.sensorDeparts k) s)
  | [], _ => ⟨fun _ h => absurd h List.not_mem_nil, fun _ _ => rfl, fun _ _ => rfl, fun _ h => h, _, _, _, _, rfl⟩
  | k :: l, s => (sensorDeparts_gone k s).cons (sensorsDepart_gone l (s.sensorDeparts k))

/-- The head departs with its sensors. -/
theorem headDeparts_effect (g : Nat) (s : State) : ∃ u, SensorsGone ((List.range 4).map (4 * g + ·)) s u
    ∧ s.headDeparts g = ((u.partnerDeparts (headId g)).modGroup g fun x => { x with head := none }).setP (P.cg g P.CG_HEAD_SERIAL) 0 0 := by
  refine ⟨_, sensorsDepart_gone _ s, ?_⟩
  rw [List.foldl_map]
  rfl

theorem sensorId_ne_headId {k g : Nat} (hg : g < 8) : partnerKey (sensorId k) ≠ partnerKey (headId g) := by simp only [partnerKey]; omega

theorem plState_ne_cg {g i : Nat} (hg : g < 8) (hi : i < 0x60 + P.CG_ENABLE) : pkey (P.cg g i) 0 ∉ plStateKeys := by
  simp only [List.mem_map, List.mem_range, not_exists, not_and]
  intro p hp
  simp only [pkey, P.pl, P.cg, P.PL_STATE, P.CG_ENABLE] at hi ⊢
  omega

/-- The state in which the head and its sensors have departed. -/
structure HeadGone (g : Nat) (s e : State) : Prop where
  head : (e.group g).head = none
  absent : (e.partner (headId g)).present = false
  serial : e.getP (P.cg g P.CG_HEAD_SERIAL) 0 = 0
  state : e.camState g = s.camState g
  sensors : ∀ vc, vc < 4 → (e.sensor (4 * g + vc)).present = false
    ∧ ((s.sensor (4 * g + vc)).present = true → (e.partner (sensorId (4 * g + vc))).present = false)
  otherSensors : ∀ k, k / 4 ≠ g → e.sensor k = s.sensor k
  otherGroups : ∀ h, h ≠ g → e.group h = s.group h
  frame : ∃ x p v c, e = { s with cam := x, pipes := p, params := v, ctl := c }

theorem headDeparts_gone {g : Nat} (hg : g < 8) (s : State) : HeadGone g s (s.headDeparts g) := by
  obtain ⟨u, ⟨hl, hothers, hparams, hkeep, x, p, v, c, rfl⟩, hu⟩ := headDeparts_effect g s
  rw [hu]
  have hctl := partnerDeparts_onlyControl (headId g) { s with cam := { s.cam with sensors := x }, pipes := p, params := v, ctl := c }
  have habs := partnerDeparts_absent (headId g) { s with cam := { s.cam with sensors := x }, pipes := p, params := v, ctl := c }
  have hkeep2 := fun q => partnerDeparts_keeps_absent (headId g) q { s with cam := { s.cam with sensors := x }, pipes := p, params := v, ctl := c }
  generalize State.partnerDeparts (headId g) _ = m at hctl habs hkeep2 ⊢
  have hm : ∃ c', m = { s with cam := { s.cam with sensors := x }, pipes := p, params := v, ctl := c' } := ⟨_, hctl⟩
  obtain ⟨c', rfl⟩ := hm
  exact {
    head := by rw [group_setP, group_modGroup_same]
    absent := habs
    serial := State.getP_setP_same _ _ _ _
    state := (State.getP_setP _ _ _ _ _ _).trans ((if_neg (cg_key_ne (by decide))).trans (hparams.getP (plState_ne_cg hg (by decide))))
    sensors := fun vc hv => by
      obtain ⟨h1, h2⟩ := hl (4 * g + vc) (List.mem_map.2 ⟨vc, List.mem_range.2 hv, rfl⟩)
      exact ⟨h1, fun hp => hkeep2 _ (h2 hp)⟩
    otherSensors := fun k hk => hothers k fun h => by
      obtain ⟨vc, hv, rfl⟩ := List.mem_map.1 h
      have := List.mem_range.1 hv
      omega
    otherGroups := fun h hh => by rw [group_setP, group_modGroup_other _ hh]; rfl
    frame := ⟨_, _, _, _, rfl⟩ }

/-- The fields that entering a state changes. -/
theorem GroupIn.frame {g n : Nat} {e t : State} (h : GroupIn g n e t) :
    ∃ p l x q c, t = { e with params := p, ln := l, cam := x, sent := q, ctl := c } := by
  obtain ⟨-, -, -, -, -, -, -, -, -, -, ⟨_, _, _, _, hf⟩, -⟩ := h
  exact ⟨_, _, _, _, _, hf⟩

theorem GroupIn.otherGroups {g n : Nat} {e t : State} (h : GroupIn g n e t) {k : Nat} (hk : k ≠ g) : t.group k = e.group k := by
  obtain ⟨-, -, -, -, -, -, ho, -⟩ := h
  exact ho k hk

theorem GroupIn.sensor {g n : Nat} {e t : State} (h : GroupIn g n e t) (k : Nat) : t.sensor k = e.sensor k := by
  obtain ⟨-, -, -, -, -, -, -, hs, -⟩ := h
  exact congrArg (fun m => SMap.get sensorDef m k) hs

theorem GroupIn.headAbsent {g n : Nat} {e t : State} (h : GroupIn g n e t) (ha : (e.partner (headId g)).present = false) :
    (t.partner (headId g)).present = false := by
  obtain ⟨-, -, -, -, -, -, -, -, hp, -⟩ := h
  rw [hp, ha, Bool.false_and]

theorem GroupIn.otherPartners {g n : Nat} {e t : State} (h : GroupIn g n e t) {q : PartnerId} (hq : partnerKey q ≠ partnerKey (headId g)) :
    t.partner q = e.partner q := by
  obtain ⟨-, -, -, -, -, -, -, -, -, ho, -⟩ := h
  exact ho q hq

theorem HeadGone.reset {g : Nat} {s e : State} (h : HeadGone g s e) : HeadGone g s (e.resetTraining g false) where
  head := by rw [resetTraining_group]; exact h.head
  absent := h.absent
  serial := (State.getP_setP _ _ _ _ _ _).trans ((if_neg (cg_key_ne (by decide))).trans h.serial)
  state := (resetTraining_camState g false e).trans h.state
  sensors := h.sensors
  otherSensors := h.otherSensors
  otherGroups := fun k hk => by rw [State.resetTraining, group_setP, group_modGroup_other _ hk]; exact h.otherGroups k hk
  frame := by
    obtain ⟨x, p, v, c, hf⟩ := h.frame
    obtain ⟨y, hy⟩ := resetTraining_frame g false e
    rw [hy, hf]
    exact ⟨_, _, _, _, rfl⟩

theorem cameraHeadLost_effect (g : Nat) (s : State) (hg : g < 8) (hst : s.camState g ≠ 0) :
    ∃ t, exec (.cameraHeadLost g) s = .next t ∧ t.camState g = 1 ∧ (t.group g).head = none
      ∧ (t.partner (headId g)).present = false ∧ t.getP (P.cg g P.CG_HEAD_SERIAL) 0 = 0 ∧ t.getP (P.cg g P.CG_SPARE_MAP) 0 = 255
      ∧ (∀ vc, vc < 4 → (t.sensor (4 * g + vc)).present = false
          ∧ ((s.sensor (4 * g + vc)).present = true → (t.partner (sensorId (4 * g + vc))).present = false))
      ∧ (∀ k, k / 4 ≠ g → t.sensor k = s.sensor k) ∧ (∀ h, h ≠ g → t.group h = s.group h)
      ∧ t = { s with cam := t.cam, pipes := t.pipes, params := t.params, ln := t.ln, ctl := t.ctl, sent := t.sent } := by
  have h1 := headDeparts_gone hg s
  have he := h1.reset
  have hin0 := enterGroup_groupIn (n := 0) (s := (s.headDeparts g).resetTraining g false) hg (by rw [he.state]; exact hst) 0
  have hin1 := enterGroup_groupIn (n := 1) (s := ((s.headDeparts g).resetTraining g false).enterGroup g 0 0) hg (by rw [hin0.state]; decide) 0
  have hspare := resetTraining_spareMap g false (s.headDeparts g)
  have hbody : exec (.cameraHeadLost g) s = guarded (.cameraHeadLost g) s
      (if (s.headDeparts g).camState g = 0 then s.headDeparts g else (((s.headDeparts g).resetTraining g false).enterGroup g 0 0).enterGroup g 1 0) := rfl
  rw [if_neg (by rw [h1.state]; exact hst)] at hbody
  generalize (s.headDeparts g).resetTraining g false = e at he hin0 hin1 hspare hbody
  generalize e.enterGroup g 0 0 = t0 at hin0 hin1 hbody
  generalize t0.enterGroup g 1 0 = t at hin1 hbody
  have hgroup0 : t0.group g = e.group g := by obtain ⟨-, -, -, -, -, h, -⟩ := hin0; exact h
  obtain ⟨x, p, v, c, hf⟩ := he.frame
  obtain ⟨p0, l0, x0, q0, c0, hf0⟩ := hin0.frame
  obtain ⟨p1, l1, x1, q1, c1, hf1⟩ := hin1.frame
  refine ⟨t, exec_next hbody (by simp [Instr.wellFormed]; omega) rfl (by rw [hf1, hf0, hf]), hin1.state, ?_, hin1.headAbsent (hin0.headAbsent he.absent), ?_, ?_,
    fun vc hv => ?_, fun k hk => ?_, fun h hh => ?_, by rw [hf1, hf0, hf]⟩
  · rw [hin1.group (by decide), hgroup0]; exact he.head
  · exact (hin1.keeps (by simp [P.CG_STATE, P.CG_WIDTH, P.CG_HEAD_SERIAL])).trans ((hin0.keeps (by simp [P.CG_STATE, P.CG_WIDTH, P.CG_HEAD_SERIAL])).trans he.serial)
  · exact (hin1.keeps (by simp)).trans ((hin0.keeps (by simp)).trans hspare)
  · rw [hin1.sensor, hin0.sensor, hin1.otherPartners (sensorId_ne_headId hg), hin0.otherPartners (sensorId_ne_headId hg)]
    exact he.sensors vc hv
  · rw [hin1.sensor, hin0.sensor, he.otherSensors k hk]
  · rw [hin1.otherGroups hh, hin0.otherGroups hh, he.otherGroups h hh]

/-! ### CAM_RETRAIN (R112) -/

/-- Entering the state of training that the group is in sends its ALIGN column only. -/
theorem enterGroup_same {g n : Nat} {s : State} (hn : s.camState g = n) (h1 : 1 ≤ n ∧ n ≤ 4) (reason : Nat) : s.enterGroup g n reason = s.sendAligns g := by
  unfold State.enterGroup
  dsimp only
  rw [if_pos h1, if_neg (by omega), if_pos hn]

/-- The group is in DETECT, whatever state it was in. -/
structure Detecting (g : Nat) (s u : State) : Prop where
  state : u.camState g = 1
  group : u.group g = { (s.group g).untrained with aseqTx := ((s.group g).aseqTx + 1) % 256 }
  params : SameParams (cgStateKeys g) s u
  otherGroups : ∀ h, h ≠ g → u.group h = s.group h
  otherPartners : ∀ q, partnerKey q ≠ partnerKey (headId g) → u.partner q = s.partner q
  events : EventsOnly { s with cam := u.cam, params := u.params, ln := u.ln, sent := u.sent, ctl := { s.ctl with partners := u.ctl.partners } } u

theorem toDetect_detecting {g : Nat} {s : State} (hg : g < 8) (reason : Nat) : Detecting g s (s.toDetect g reason) := by
  have hgr := resetTraining_group g s
  have hst := resetTraining_camState g false s
  have hsame := resetTraining_sameParams g false s
  have hog : ∀ h, h ≠ g → (s.resetTraining g false).group h = s.group h := fun h hh => by
    rw [State.resetTraining, group_setP, group_modGroup_other _ hh]
  obtain ⟨x, hx⟩ := resetTraining_frame g false s
  unfold State.toDetect
  by_cases h1 : s.camState g = 1
  · rw [enterGroup_same (hst.trans h1) (by decide), sendAligns_eq]
    generalize s.resetTraining g false = e at hgr hst hsame hog hx
    exact {
      state := hst.trans h1
      group := by rw [group_modGroup_same]; exact (congrArg (fun y : CamGroup => { y with aseqTx := (y.aseqTx + 1) % 256 }) hgr :)
      params := hsame
      otherGroups := fun h hh => by rw [group_modGroup_other _ hh]; exact hog h hh
      otherPartners := fun q _ => by rw [hx]; rfl
      events := by rw [hx]; exact EventsOnly.refl _ }
  · have hin := enterGroup_groupIn (n := 1) (s := s.resetTraining g false) hg (by rw [hst]; exact h1) reason
    generalize s.resetTraining g false = e at hgr hst hsame hog hx hin
    generalize e.enterGroup g 1 reason = u at hin
    exact {
      state := hin.state
      group := by rw [hin.group (by decide), hgr]; rfl
      params := hin.sameParams hsame
      otherGroups := fun h hh => (hin.otherGroups hh).trans (hog h hh)
      otherPartners := fun q hq => (hin.otherPartners hq).trans (by rw [hx]; rfl)
      events := by
        obtain ⟨-, -, -, -, -, -, -, -, -, -, hev⟩ := hin
        rw [hx] at hev
        have hln : u.ln = { s.ln with lanes := u.ln.lanes } := by
          obtain ⟨⟨_, _, _, _, hu⟩, -⟩ := hev
          exact congrArg State.ln hu
        rw [hln]
        exact hev }

theorem camRetrain_detects (c : Cmd) (s : State) (ha : s.accepts false 0x0106 c) (ho : c.operands 1 0) (hg : c.f 0 8 < 8) (hst : s.camState (c.f 0 8) ≠ 0) :
    ∃ t, exec (.camRetrain c) s = .next t ∧ Answered 0x0106 c 0 0 0 t ∧ t.camState (c.f 0 8) = 1
      ∧ t.group (c.f 0 8) = { (s.resetTraining (c.f 0 8) false).group (c.f 0 8) with aseqTx := ((s.group (c.f 0 8)).aseqTx + 1) % 256 }
      ∧ SameParams (cgStateKeys (c.f 0 8)) s t
      ∧ (∀ h, h ≠ c.f 0 8 → t.group h = s.group h) ∧ (∀ q, partnerKey q ≠ partnerKey (headId (c.f 0 8)) → t.partner q = s.partner q)
      ∧ CommandEvents c { s with cam := t.cam, params := t.params, ln := t.ln, sent := t.sent, ctl := { s.ctl with partners := t.ctl.partners } } t := by
  obtain ⟨W, M, K, F, hE⟩ := entered_frame s 0x0106 c
  have hst' : (s.entered 0x0106 c).camState (c.f 0 8) ≠ 0 := by rw [State.camState, State.entered_getP]; exact hst
  have hdet := toDetect_detecting (s := s.entered 0x0106 c) hg 5
  have hbody : camRetrainBody { c := c, tk := s.newTicket, priv := s.privOf c } (s.entered 0x0106 c)
      = ((s.entered 0x0106 c).toDetect (c.f 0 8) 5, .ok) := by simp only [camRetrainBody, Nat.not_le.2 hg, if_false, hst']
  generalize (s.entered 0x0106 c).toDetect (c.f 0 8) 5 = u at hdet hbody
  have hrun : RunsEvents s 0x0106 c { s with
      cam := u.cam, params := u.params, ln := u.ln, sent := u.sent, ctl := { s.ctl with partners := u.ctl.partners } } u :=
    ⟨_, ⟨by rw [hE], rfl, rfl, rfl, rfl⟩, hdet.events⟩
  obtain ⟨t, ht, hans, hev, rfl⟩ := hrun.completes (i := .camRetrain c) (spec := camRetrainSpec) (body := camRetrainBody) ha.1.1 ha
    (by simp [camRetrainSpec, OpSpec.fixed, ho.1]) (by simp [camRetrainSpec, OpSpec.fixed]) (fun _ => rfl) hbody (by decide) rfl
  have hgroup : ∀ h, ((u.finalReply s.newTicket 0 0 0).group h) = u.group h := fun h => by simp only [State.group, State.finalReply_cam]
  have hpartner : ∀ q, ((u.finalReply s.newTicket 0 0 0).partner q) = u.partner q := fun q => by simp only [State.partner, State.finalReply_ctl_partners]
  refine ⟨_, ht, hans, ?_, ?_, ?_, fun h hh => ?_, fun q hq => ?_, ?_⟩
  · rw [State.camState, State.finalReply_getP]; exact hdet.state
  · rw [hgroup, hdet.group, resetTraining_group]
    rw [hE]; rfl
  · have := hdet.params
    rw [hE] at this
    exact this.trans (sameParams_of_params (State.finalReply_params _ _ _ _ _))
  · rw [hgroup, hdet.otherGroups h hh, hE]; rfl
  · rw [hpartner, hdet.otherPartners q hq, hE]; rfl
  · rw [State.finalReply_cam, State.finalReply_params, State.finalReply_ln, State.finalReply_sent, State.finalReply_ctl_partners]
    exact hev

theorem camRetrain_none (c : Cmd) (s : State) (ha : s.accepts false 0x0106 c) (ho : c.operands 1 0) (code : Nat) (hc : code < 256)
    (hb : camRetrainBody { c := c, tk := s.newTicket, priv := s.privOf c } (s.entered 0x0106 c) = (s.entered 0x0106 c, .done code 0 0)) :
    ∃ t, exec (.camRetrain c) s = .next t ∧ Answered 0x0106 c code 0 0 t ∧ CommandOnly c s t :=
  completes_reading (i := .camRetrain c) (spec := camRetrainSpec) (body := camRetrainBody) ha.1.1 ha
    (by simp [camRetrainSpec, OpSpec.fixed, ho.1]) (by simp [camRetrainSpec, OpSpec.fixed]) (fun _ => rfl) hc hb

end Sys2Proof.Machine

open Sys2Proof Sys2Proof.Machine in
/-- Settles O22: probes, TSYNC and the losses of lanes change the group's own record; retraining, the loss of a head and CAM_RETRAIN enter states of Table 3-7
(`enterGroup_groupIn`). -/
theorem cameraLinksAreProbedAndRetrained : Obligations.CameraLinksAreProbedAndRetrained := by
  unfold Obligations.CameraLinksAreProbedAndRetrained
  refine ⟨⟨probeSend_sends, probeSend_silent, probeEcho_taken, probeEcho_ignored, probeTimeout_counted, probeTimeout_detects, tsyncSend_leaves,
    tsyncsDue_genlocked, tsyncSend_none⟩, cameraLaneLost_spared, cameraLaneLost_lsp, cameraLaneLost_retrains, cameraLaneLost_idle, cameraHeadLost_effect,
    camRetrain_detects, fun c s ha ho hg hst => ?_, fun c s ha ho hg => ?_⟩
  · refine camRetrain_none c s ha ho 0 (by decide) ?_
    have hst' : (s.entered 0x0106 c).camState (c.f 0 8) = 0 := (State.entered_getP _ _ _ _ _).trans hst
    simp only [camRetrainBody, Nat.not_le.2 hg, if_false, hst', if_true]
  · exact camRetrain_none c s ha ho 4 (by decide) (by simp only [camRetrainBody, hg, if_true])
end

section
/-! A statement of the camera command family that does not hold of every state: the event that PL_STATE's change posts goes once to each entry of the
window file (R79), and taking a command can give a window a second entry where that file is not in ascending order. -/

namespace Sys2Proof.Machine

/-- Windows 1 and 0 in that order, both OPEN; window 0 takes PIPELINE_STATE events, and its ring holds none. Pipeline 0 is RUNNING. -/
def windowsOutOfOrder : State :=
  ({ ctl := { boot := .running, perstN := true, fwReady := true, wins := [(1, { state := .opened }), (0, { state := .opened, mask := 2 ^ 0x4C })] } } : State).setP
    (P.pl 0 P.PL_STATE) 0 2

/-- SENSOR_BIND of pipeline 0 to sensor 0. -/
def bindFirst : Cmd := { win := 0, slot := 0, opLen := 20 }

theorem sensorBind_losesTwice : answers (fun t => (t.win 0).lost == 2) (exec (.sensorBind bindFirst) windowsOutOfOrder) = true := by
  decide +kernel

/-- The same change of PL_STATE in the state before the command is taken. -/
theorem bindUnentered_losesOnce : (((windowsOutOfOrder.modPipe (bindFirst.f 0 8) fun x => { x with change := some {
    target := some { sensor := 4 * bindFirst.f 8 8 + bindFirst.f 16 8, head := bindFirst.f 32 64, serial := bindFirst.f 96 64 },
    sensor := 4 * bindFirst.f 8 8 + bindFirst.f 16 8, ticket := some windowsOutOfOrder.newTicket } }).setPlState (bindFirst.f 0 8) 0).win 0).lost = 1 := by
  decide +kernel

end Sys2Proof.Machine

open Sys2Proof Sys2Proof.Machine in
/-- Refutes O23: its clause on a waiting SENSOR_BIND compares the windows with those after the same PIPELINE_STATE event in the state before, which loses
one record there; the command is taken first, which enters window 0 in the window file once more, and two records are lost. -/
theorem not_cameraCommandsBindAndControl : ¬ Obligations.CameraCommandsBindAndControl := by
  unfold Obligations.CameraCommandsBindAndControl
  rintro ⟨hbind, -⟩
  obtain ⟨hwaits, -⟩ := hbind bindFirst windowsOutOfOrder (by decide +kernel) (by decide +kernel) (by decide) (by decide) (by decide) (by decide +kernel)
    rfl (by decide +kernel)
  obtain ⟨t, ht, -, -, -, -, ⟨hwin, -⟩, -⟩ := hwaits rfl
  have htwice : (t.win 0).lost = 2 := by simpa using of_answers sensorBind_losesTwice ht
  have honce : (t.win 0).lost = 1 := (congrArg Window.lost hwin).trans bindUnentered_losesOnce
  omega
end

section
/-! The raw pipelines: what their timers, their statistics and STATS_READ do (R140 to R148). -/

namespace Sys2Proof.Machine

/-! ### Commands that write host memory -/

/-- Host memory with other contents. -/
abbrev State.withHostMem (m : SMap Byte) (s : State) : State := { s with ctl := { s.ctl with hostMem := m } }

theorem finalReply_withHostMem (s : State) (m : SMap Byte) (tk code len r : Nat) :
    (s.withHostMem m).finalReply tk code len r = (s.finalReply tk code len r).withHostMem m := by
  unfold State.finalReply State.writeFinal
  rw [show (s.withHostMem m).aipexDown = s.aipexDown from rfl, show (s.withHostMem m).flight? tk = s.flight? tk from rfl]
  split
  · split <;> rfl
  · cases s.flight? tk with
    | none => rfl
    | some f =>
      dsimp only [State.writeReply, State.setWin]
      by_cases h : (s.pw.returnFrom.isSome && !darkExempt f.opcode) = true
      · rw [if_pos h, if_pos h]; rfl
      · rw [if_neg h, if_neg h]; rfl

/-- A command that answers at once and has written host memory: what stands there then is `m`, and the rest is `e`. -/
theorem Runs.completes_writing {i : Instr} {spec : OpSpec} {body : Body} {c : Cmd} {s e v : State} {m : SMap Byte} {code len r : Nat}
    (hi : i.wellFormed = true) (ha : s.accepts (spec.priv || spec.privIf c) spec.op c) (hl : spec.len c = true)
    (hr : (c.ops % 2 ^ (8 * c.opLen)) &&& spec.rsvd = 0) (hb : c.win = 64 → spec.bus c = true)
    (hbody : body { c := c, tk := s.newTicket, priv := s.privOf c } (s.entered spec.op c) = (v.withHostMem m, .done code len r)) (hc : code < 256)
    (hrun : Runs s spec.op c e v) (hp : e.pending = s.pending) :
    ∃ t, guarded i s (submit spec body c s) = .next t ∧ Answered spec.op c code len r t ∧ CommandOnly c (e.withHostMem m) t ∧ t.ctl.hostMem = m := by
  have hd := s.aipexDown_of_ready ha.1.2.2.2.1
  obtain ⟨hframe, hwins, hwin, -⟩ := hrun.commandOnly hd code len r
  refine ⟨_, submit_done (code := code) (len := len) (r := r) hi ha hl hr hb (by rw [hbody]) (by rw [hbody, ← hp, hrun.1]), ?_, ?_, ?_⟩
  · rw [hbody, finalReply_withHostMem]; exact hrun.answered hd hc len r
  · rw [hbody, finalReply_withHostMem]
    exact ⟨by rw [hframe], hwins, hwin, fun _ => rfl⟩
  · rw [hbody, finalReply_withHostMem]

/-! ### Timers and the settings ID gate -/

/-- With no binding change staged, PL_STATE takes the new state, with its event. -/
theorem setPlState_changes {s : State} {p n : Nat} (hch : (s.pipe p).change = none) (h : s.getP (P.pl p P.PL_STATE) 0 ≠ n) : ∃ tag,
    s.setPlState p n = (s.setP (P.pl p P.PL_STATE) 0 n).postTagged 0x4C 0x4 p (n + at' 8 (s.getP (P.pl p P.PL_STATE) 0)) tag := by
  refine ⟨((s.pipe p).last.map (·.tag)).getD s.ring.tag, ?_⟩
  unfold State.setPlState
  simp only [hch, Option.isSome_none, Bool.false_eq_true, if_false]
  exact if_neg h

theorem pipelineWaitTimeout_waits (p : Nat) (s : State) (hp : p < 8) (hrun : s.getP (P.pl p P.PL_STATE) 0 = 2) (hch : (s.pipe p).change = none) :
    ∃ t, exec (.pipelineWaitTimeout p) s = .next t ∧ t.getP (P.pl p P.PL_STATE) 0 = 1 ∧ SameParams [pkey (P.pl p P.PL_STATE) 0] s t
      ∧ EventsOnly { s with params := t.params } t := by
  obtain ⟨tag, he⟩ := setPlState_changes (n := 1) hch (by rw [hrun]; decide)
  obtain ⟨w, v, m, a, hpost, hrings⟩ := (eventsOnly_postTagged (s.setP (P.pl p P.PL_STATE) 0 1) 0x4C 0x4 p (1 + at' 8 (s.getP (P.pl p P.PL_STATE) 0))
    tag).rings
  rw [hpost] at he
  exact ⟨_, exec_next (i := .pipelineWaitTimeout p) rfl (by simp [Instr.wellFormed, hp]) ((if_pos hrun).trans he) rfl, State.getP_setP_same _ _ _ _,
    fun k hk => SMap.get_set_other pdef _ (by simpa using hk) _, ⟨⟨w, v, m, a, rfl⟩, hrings⟩⟩

theorem pipelineWaitTimeout_idle (p : Nat) (s : State) (hp : p < 8) (hrun : s.getP (P.pl p P.PL_STATE) 0 ≠ 2) : exec (.pipelineWaitTimeout p) s = .next s :=
  exec_next (i := .pipelineWaitTimeout p) rfl (by simp [Instr.wellFormed, hp]) (if_neg hrun) rfl

theorem sidGateTimeout_expires (p : Nat) (s : State) (hp : p < 8) (hgate : s.getP (P.pl p P.PL_SID_GATE) 0 ≠ 0)
    (hframes : s.getP (P.pl p P.PL_SID_GATE_TIMEOUT) 0 ≤ (s.pipe p).gateFrames) :
    exec (.sidGateTimeout p) s = .next (s.setPipe p { s.pipe p with gateExpired := true }) :=
  exec_next (i := .sidGateTimeout p) rfl (by simp [Instr.wellFormed, hp]) (if_neg (by omega)) rfl

theorem sidGateTimeout_idle (p : Nat) (s : State) (hp : p < 8)
    (h : s.getP (P.pl p P.PL_SID_GATE) 0 = 0 ∨ (s.pipe p).gateFrames < s.getP (P.pl p P.PL_SID_GATE_TIMEOUT) 0) :
    exec (.sidGateTimeout p) s = .next s :=
  exec_next (i := .sidGateTimeout p) rfl (by simp [Instr.wellFormed, hp]) (if_pos h) rfl

/-! ### The statistics record (Table 4-7) -/

theorem length_flatMap_const {α β : Type} {f : α → List β} {k : Nat} (h : ∀ x, (f x).length = k) (l : List α) : (l.flatMap f).length = k * l.length := by
  rw [List.length_flatMap, List.map_congr_left fun x _ => h x, List.map_const', List.sum_replicate, smul_eq_mul, Nat.mul_comm]

/-- Of the zones of white balance, a monochrome format has empty ones. -/
theorem length_ite_leBytes (b : Prop) [Decidable b] (u v n : Nat) : (if b then leBytes u n else leBytes v n).length = n := by
  split <;> exact leBytes_length _ _

theorem statBody_length (s : State) (p : Nat) (f : Frame) (st : RawStages) : (s.statBody p f st).length = 22528 := by
  have hist : ∀ n : Nat → Nat → Nat, ((List.range 4).flatMap fun c => (List.range 256).flatMap fun b => leBytes (n c b) 4).length = 4096 := fun n => by
    rw [length_flatMap_const fun c => (length_flatMap_const (fun b => leBytes_length 4 (n c b)) _)]; simp
  have zones : ∀ n : Nat → Nat → Nat → Nat, ((List.range 16).flatMap fun zy => (List.range 16).flatMap fun zx => (List.range 4).flatMap fun c =>
      leBytes (n zy zx c) 4).length = 4096 := fun n => by
    rw [length_flatMap_const fun zy => (length_flatMap_const (fun zx => length_flatMap_const (fun c => leBytes_length 4 (n zy zx c)) _) _)]; simp
  have white : ∀ n : Nat → Nat → Nat, ((List.range 24).flatMap fun zy => (List.range 32).flatMap fun zx =>
      if f.fmt.cfa = 4 then leBytes 0 16 else leBytes (n zy zx) 16).length = 12288 := fun n => by
    rw [length_flatMap_const fun zy => (length_flatMap_const (fun zx => length_ite_leBytes _ 0 (n zy zx) 16) _)]; simp
  have focus : ∀ n : Nat → Nat → Nat, ((List.range 16).flatMap fun zy => (List.range 16).flatMap fun zx => leBytes (n zy zx) 8).length = 2048 := fun n => by
    rw [length_flatMap_const fun zy => (length_flatMap_const (fun zx => leBytes_length 8 (n zy zx)) _)]; simp
  unfold State.statBody
  dsimp only
  rw [List.length_append, List.length_append, List.length_append, hist, zones, white, focus]

theorem statRecord_bytes (p : Nat) (f : Frame) (s : State) (_ : p < 8) : (s.statRecord p f).bytes.length = 22592
    ∧ (s.statRecord p f).bytes.take 8 = leBytes f.tag 4 ++ leBytes f.number 4 := by
  have hlevels : ((List.range 4).flatMap fun c => leBytes (s.getP (P.pl p P.BL_IN_FORCE) c) 2).length = 8 := by
    rw [length_flatMap_const fun c => leBytes_length 2 _]; simp
  unfold State.statRecord
  dsimp only
  constructor
  · simp only [List.length_append, leBytes_length, hlevels, statBody_length]
  · simp only [List.append_assoc]
    rw [← List.append_assoc]
    exact List.take_left' (by simp)

/-- STATS_READY puts the record being built among the newest four. -/
theorem statsReady_completes (p : Nat) (r : StatRecord) (s : State) (hp : p < 8) (hb : (s.pipe p).building = some r) : ∃ t, exec (.statsReady p) s = .next t
    ∧ t.pipe p = { s.pipe p with building := none, records := (r :: (s.pipe p).records).take 4 } ∧ (∀ n, n ≠ p → t.pipe n = s.pipe n)
    ∧ t.getP (P.pl p P.ST_RECORDS) 0 = (s.getP (P.pl p P.ST_RECORDS) 0 + 1) % 2 ^ 32 ∧ SameParams [pkey (P.pl p P.ST_RECORDS) 0] s t
    ∧ EventsOnly { s with pipes := t.pipes, params := t.params } t := by
  have hbody : ∀ {u : State}, ((s.setPipe p { s.pipe p with building := none, records := (r :: (s.pipe p).records).take 4 }).bumpWrap
      (P.pl p P.ST_RECORDS) 0 1).postTagged 0x48 0x4 p (r.number + at' 32 r.settings + at' 40 r.flags) r.tag = u → u.pending = s.pending →
      exec (.statsReady p) s = .next u := fun {u} h hu =>
    exec_next (i := .statsReady p) rfl (by simp [Instr.wellFormed, hp]) (by rw [← h]; simp only [hb]) hu
  obtain ⟨w, v, m, a, hpost, hrings⟩ := (eventsOnly_postTagged ((s.setPipe p { s.pipe p with
    building := none, records := (r :: (s.pipe p).records).take 4 }).bumpWrap (P.pl p P.ST_RECORDS) 0 1) 0x48 0x4 p
    (r.number + at' 32 r.settings + at' 40 r.flags) r.tag).rings
  exact ⟨_, hbody hpost rfl, SMap.get_set_same _ _ _ _, fun n hn => SMap.get_set_other _ _ hn _, State.getP_setP_same _ _ _ _,
    fun k hk => SMap.get_set_other pdef _ (by simpa using hk) _, ⟨⟨w, v, m, a, rfl⟩, hrings⟩⟩

theorem statsReady_idle (p : Nat) (s : State) (hp : p < 8) (hb : (s.pipe p).building = none) : exec (.statsReady p) s = .next s :=
  exec_next (i := .statsReady p) rfl (by simp [Instr.wellFormed, hp]) (by simp only [hb]) rfl

/-! ### STATS_READ -/

theorem statsRead_reads (c : Cmd) (r : StatRecord) (l : List StatRecord) (s : State) (ha : s.accepts false 0x0201 c) (ho : c.operands 20 0xFFFF0000)
    (hhost : c.host = []) (hp : c.f 0 8 < 8) (hsel : c.f 8 8 = 0) (haddr : c.f 64 64 ≠ 0) (halign : c.f 64 64 % 64 = 0) (hlo : 64 ≤ c.f 128 32)
    (hhi : c.f 128 32 ≤ 22592) (hlen : c.f 128 32 % 64 = 0) (hrec : (s.pipe (c.f 0 8)).records = r :: l)
    (hgood : s.hostGood (c.f 64 64) (r.bytes.take (c.f 128 32)).length = (r.bytes.take (c.f 128 32)).length) :
    ∃ t, exec (.statsRead c) s = .next t ∧ Answered 0x0201 c 0 8 (r.tag + at' 32 (c.f 128 32)) t
      ∧ takeBytes zeroByte t.ctl.hostMem (c.f 64 64) (r.bytes.take (c.f 128 32)).length = r.bytes.take (c.f 128 32)
      ∧ (∀ a, (a < c.f 64 64 ∨ c.f 64 64 + (r.bytes.take (c.f 128 32)).length ≤ a) → SMap.get zeroByte t.ctl.hostMem a = SMap.get zeroByte s.ctl.hostMem a)
      ∧ CommandOnly c { s with ctl := { s.ctl with hostMem := t.ctl.hostMem } } t := by
  have hgood' : (s.entered statsReadSpec.op c).hostGood (c.f 64 64) (r.bytes.take (c.f 128 32)).length = (r.bytes.take (c.f 128 32)).length := by
    rw [State.hostGood, State.entered_ctl_hostFault]; exact hgood
  have hrec' : ((s.entered statsReadSpec.op c).pipe (c.f 0 8)).records = r :: l := by rw [← hrec]; simp [State.pipe]
  have hw : (s.entered statsReadSpec.op c).hostWrite (c.f 64 64) (r.bytes.take (c.f 128 32))
      = ((s.entered statsReadSpec.op c).withHostMem (putBytes zeroByte s.ctl.hostMem (c.f 64 64) (r.bytes.take (c.f 128 32))), true) := by
    rw [State.hostWrite, hgood', State.entered_hostMem s _ c (.inl hhost), List.take_length, decide_eq_true rfl]
  obtain ⟨t, ht, hans, honly, hmem⟩ := Runs.completes_writing (i := .statsRead c) (spec := statsReadSpec) (body := statsReadBody) (c := c) (s := s)
    (code := cOK) (len := 8) (r := r.tag + at' 32 (c.f 128 32)) ha.1.1 ha (by simp [statsReadSpec, ho.1]) (by rw [ho.1]; exact ho.2) (fun _ => rfl)
    (by
      simp only [statsReadBody]
      rw [if_neg (by omega), if_pos hsel, hrec', List.head?_cons]
      dsimp only
      rw [hw]; rfl)
    (by decide) (entered_runs s _ c) rfl
  refine ⟨t, ht, hans, ?_, fun a h => ?_, ?_⟩
  · rw [hmem]; exact takeBytes_putBytes _ _ _ _
  · rw [hmem]; exact get_putBytes_other h
  · rw [hmem]; exact honly

theorem statsRead_none (c : Cmd) (s : State) (ha : s.accepts false 0x0201 c) (ho : c.operands 20 0xFFFF0000) (hp : c.f 0 8 < 8) (hsel : c.f 8 8 = 0)
    (haddr : c.f 64 64 ≠ 0) (halign : c.f 64 64 % 64 = 0) (hlo : 64 ≤ c.f 128 32) (hhi : c.f 128 32 ≤ 22592) (hlen : c.f 128 32 % 64 = 0)
    (hrec : (s.pipe (c.f 0 8)).records = []) : ∃ t, exec (.statsRead c) s = .next t ∧ Answered 0x0201 c 0x28 0 0 t ∧ CommandOnly c s t := by
  have hrec' : ((s.entered statsReadSpec.op c).pipe (c.f 0 8)).records = [] := by rw [← hrec]; simp [State.pipe]
  refine completes_reading (i := .statsRead c) (spec := statsReadSpec) (body := statsReadBody) ha.1.1 ha (by simp [statsReadSpec, ho.1])
    (by rw [ho.1]; exact ho.2) (fun _ => rfl) (by decide) ?_
  simp only [statsReadBody]
  rw [if_neg (by omega), if_pos hsel, hrec', List.head?_nil]

theorem statsRead_badParam (c : Cmd) (s : State) (ha : s.accepts false 0x0201 c) (ho : c.operands 20 0xFFFF0000)
    (hbad : c.f 64 64 % 64 ≠ 0 ∨ c.f 128 32 < 64 ∨ 22592 < c.f 128 32) :
    ∃ t, exec (.statsRead c) s = .next t ∧ Answered 0x0201 c 4 0 0 t ∧ CommandOnly c s t := by
  refine completes_reading (i := .statsRead c) (spec := statsReadSpec) (body := statsReadBody) ha.1.1 ha (by simp [statsReadSpec, ho.1])
    (by rw [ho.1]; exact ho.2) (fun _ => rfl) (by decide) ?_
  simp only [statsReadBody]
  rw [if_pos (by omega)]

end Sys2Proof.Machine

open Sys2Proof Sys2Proof.Machine in
/-- Settles O24: each timer and command by its case, the record by the lengths of its four parts (`statBody_length`), and STATS_READ by what it puts in
host memory (`Runs.completes_writing`). -/
theorem pipelineWaitsGatesAndStatistics : Obligations.PipelineWaitsGatesAndStatistics := by
  unfold Obligations.PipelineWaitsGatesAndStatistics
  exact ⟨pipelineWaitTimeout_waits, pipelineWaitTimeout_idle, sidGateTimeout_expires, sidGateTimeout_idle, statRecord_bytes, statsReady_completes,
    statsReady_idle, statsRead_reads, statsRead_none, statsRead_badParam⟩
end

section
/-! Colour probes, and the commits of the uniformity cell store (R171 to R177). -/

namespace Sys2Proof.Machine

/-- A command that waits and posts nothing. -/
theorem Runs.waits {i : Instr} {spec : OpSpec} {body : Body} {c : Cmd} {s e u : State} (hi : i.wellFormed = true)
    (ha : s.accepts (spec.priv || spec.privIf c) spec.op c) (hl : spec.len c = true) (hr : (c.ops % 2 ^ (8 * c.opLen)) &&& spec.rsvd = 0)
    (hb : c.win = 64 → spec.bus c = true)
    (hbody : body { c := c, tk := s.newTicket, priv := s.privOf c } (s.entered spec.op c) = (u, .wait))
    (hrun : Runs s spec.op c e u) (hp : e.pending = s.pending) (ht : e.ctl.ticket = s.ctl.ticket) :
    ∃ t, guarded i s (submit spec body c s) = .next t ∧ Waits spec.op c e t := by
  obtain ⟨hu, hwins, hmem, hfl, -⟩ := id hrun
  have hwe : ∀ w, e.win w = s.win w := fun w => by simp only [State.win, hwins]
  have hnext := submit_waits (i := i) (body := body) hi ha hl hr hb (by rw [hbody]) (by rw [hbody, ← hp, hu])
  rw [hbody] at hnext
  refine ⟨u, hnext, ⟨s.flightOf spec.op c, ?_, rfl, rfl, rfl, (newTicket_congr hfl ht).symm⟩, ?_, ?_, fun w hw => ?_, ?_, fun hh => ?_⟩
  · rw [hfl, ← s.entered_flights spec.op c, hu]
  · rw [hrun.win, State.entered_win_same]; exact testBit_setBit_same _ _
  · rw [hu]
  · rw [hrun.win, State.entered_win_other s spec.op c hw, hwe]
  · rw [hrun.win, hwe]; exact entered_sameButSlot s spec.op c
  · rw [hmem, ← State.entered_hostMem s spec.op c (.inl hh), hu]

/-! ### COLOUR_PROBE (R177) -/

theorem entered_probe (s : State) (op : Nat) (c : Cmd) (k : Nat) : (s.entered op c).probe k = s.probe k := by simp [State.probe]

/-- The first free slot. -/
theorem freeProbe_eq {s : State} {k : Nat} (hk : k < 4) (hfree : s.probe k = none) (htaken : ∀ j, j < k → s.probe j ≠ none) :
    ((List.range 4).find? fun j => (s.probe j).isNone) = some k := by
  rw [List.find?_range_eq_some]
  refine ⟨by simp [hfree], List.mem_range.2 hk, fun j hj => ?_⟩
  simpa [Option.ne_none_iff_isSome] using htaken j hj

theorem colourProbe_waits (c : Cmd) (k : Nat) (s : State) (ha : s.accepts false 0x0240 c) (ho : c.operands 8 0xFFFC0000)
    (hunit : c.f 0 8 = 0 ∧ c.f 8 8 < 8 ∨ c.f 0 8 = 1 ∧ c.f 8 8 < 16) (hk : k < 4) (hfree : s.probe k = none) (htaken : ∀ j, j < k → s.probe j ≠ none) :
    ∃ t, exec (.colourProbe c) s = .next t ∧ Waits 0x0240 c (s.setProbe k (some {
      canvas := c.f 0 8 == 1, unit := c.f 8 8, phase := c.f 16 2, x := c.f 32 16, y := c.f 48 16, ticket := s.newTicket, since := s.now })) t := by
  refine Runs.waits (i := .colourProbe c) (spec := colourProbeSpec) (body := colourProbeBody) ha.1.1 ha (by simp [colourProbeSpec, ho.1])
    (by rw [ho.1]; exact ho.2) (fun _ => rfl) (u := (s.entered colourProbeSpec.op c).setProbe k (some {
      canvas := c.f 0 8 == 1, unit := c.f 8 8, phase := c.f 16 2, x := c.f 32 16, y := c.f 48 16, ticket := s.newTicket, since := s.now })) ?_
    (runs_of_comm (State.setProbe k _) (fun _ _ _ _ => rfl) rfl rfl rfl rfl) rfl rfl
  simp only [colourProbeBody, entered_probe, freeProbe_eq hk hfree htaken, State.entered_now]
  rw [if_neg (by omega)]

theorem colourProbe_full (c : Cmd) (s : State) (ha : s.accepts false 0x0240 c) (ho : c.operands 8 0xFFFC0000)
    (hunit : c.f 0 8 = 0 ∧ c.f 8 8 < 8 ∨ c.f 0 8 = 1 ∧ c.f 8 8 < 16) (htaken : ∀ j, j < 4 → s.probe j ≠ none) :
    ∃ t, exec (.colourProbe c) s = .next t ∧ Answered 0x0240 c 6 0 0 t ∧ CommandOnly c s t := by
  have hnone : ((List.range 4).find? fun j => (s.probe j).isNone) = none :=
    List.find?_eq_none.2 fun j hj => by simpa [Option.isNone_iff_eq_none] using htaken j (List.mem_range.1 hj)
  refine completes_reading (i := .colourProbe c) (spec := colourProbeSpec) (body := colourProbeBody) ha.1.1 ha (by simp [colourProbeSpec, ho.1])
    (by rw [ho.1]; exact ho.2) (fun _ => rfl) (by decide) ?_
  simp only [colourProbeBody, entered_probe, hnone]
  rw [if_neg (by omega)]

theorem colourProbe_badParam (c : Cmd) (s : State) (ha : s.accepts false 0x0240 c) (ho : c.operands 8 0xFFFC0000)
    (hunit : 2 ≤ c.f 0 8 ∨ c.f 0 8 = 0 ∧ 8 ≤ c.f 8 8 ∨ c.f 0 8 = 1 ∧ 16 ≤ c.f 8 8) :
    ∃ t, exec (.colourProbe c) s = .next t ∧ Answered 0x0240 c 4 0 0 t ∧ CommandOnly c s t :=
  completes_reading (i := .colourProbe c) (spec := colourProbeSpec) (body := colourProbeBody) ha.1.1 ha (by simp [colourProbeSpec, ho.1])
    (by rw [ho.1]; exact ho.2) (fun _ => rfl) (by decide) (if_pos hunit)

/-- The stages stand above the tag, loop and hop, so the result begins with the tag. -/
theorem probeResult_tag {tag : Nat} (h : tag < 2 ^ 32) (stages : List Rgb) : probeResult tag 0 0 stages % 2 ^ 32 = tag := by
  have key : ∀ (l : List (Rgb × Nat)) (n : Nat), (l.foldl (fun n e => n + at' (64 + 96 * e.2) (stageWord e.1)) n) % 2 ^ 32 = n % 2 ^ 32 := by
    intro l
    induction l with
    | nil => exact fun _ => rfl
    | cons e l ih =>
      intro n
      rw [List.foldl_cons, ih, at', Nat.shiftLeft_eq, show 64 + 96 * e.2 = 32 + (32 + 96 * e.2) by omega, pow_add, ← Nat.mul_assoc, Nat.mul_right_comm,
        Nat.add_mul_mod_self_right]
  rw [probeResult, key]
  exact Nat.mod_eq_of_lt (by simpa using h)

theorem frameProbe_captures (q : Probe) (f : Frame) (s : State) (hq : q.canvas = false) (htag : f.tag < 2 ^ 32) :
    (q.since ≤ f.start → q.x < f.fmt.width → q.y < f.fmt.height → ∃ r, s.frameProbe q.unit f q = some r ∧ r % 2 ^ 32 = f.tag)
      ∧ (f.start < q.since → s.frameProbe q.unit f q = none) := by
  refine ⟨fun h1 h2 h3 => ⟨s.probePipe q.unit f q.x q.y, ?_, probeResult_tag htag _⟩, fun h => ?_⟩
  · exact if_pos (by simp [hq, h1, h2, h3])
  · exact if_neg (by simp [hq, Nat.not_le.2 h])

/-! ### The replies to a probe -/

theorem probe_setProbe_same (s : State) (k : Nat) (x : Option Probe) : (s.setProbe k x).probe k = x := SMap.get_set_same _ _ _ _

theorem probe_setProbe_other (s : State) {k j : Nat} (h : j ≠ k) (x : Option Probe) : (s.setProbe k x).probe j = s.probe j := SMap.get_set_other _ _ h _

/-- The slot is freed and the command answered. -/
theorem probe_answered {i : Instr} {k code len r : Nat} {q : Probe} {g : Flight} {s : State} (hi : i.wellFormed = true) (haw : s.awaits q.ticket g)
    (hexec : exec i s = guarded i s ((s.setProbe k none).finalReply q.ticket code len r)) (hc : code < 256) :
    ∃ t, exec i s = .next t ∧ Answered g.opcode g.cmd code len r t ∧ t.probe k = none ∧ (∀ j, j ≠ k → t.probe j = s.probe j) ∧ t.flight? q.ticket = none
      ∧ t = { s with colour := t.colour, ctl := { s.ctl with wins := t.ctl.wins, flights := t.ctl.flights }, pw := t.pw } := by
  have haw' : (s.setProbe k none).awaits q.ticket g := haw
  have hans := finalReply_answered _ haw'.2 haw'.1 hc len r
  have hgone := finalReply_flight?_none haw' code len r
  obtain ⟨W, F, p, hR⟩ := finalReply_fields haw' code len r
  rw [hR] at hexec hans hgone
  exact ⟨_, hexec.trans (guarded_next hi rfl), hans, probe_setProbe_same s k none, fun j hj => probe_setProbe_other s hj none, hgone, rfl⟩

theorem colourProbeCapture_answers (k : Nat) (q : Probe) (r : Nat) (g : Flight) (s : State) (hk : k < 4) (hq : s.probe k = some q) (hres : q.result = some r)
    (haw : s.awaits q.ticket g) : ∃ t, exec (.colourProbeCapture k) s = .next t ∧ Answered g.opcode g.cmd 0 80 r t ∧ t.probe k = none
      ∧ (∀ j, j ≠ k → t.probe j = s.probe j)
      ∧ t = { s with colour := t.colour, ctl := { s.ctl with wins := t.ctl.wins, flights := t.ctl.flights }, pw := t.pw } := by
  obtain ⟨t, ht, hans, hfree, hother, -, hframe⟩ := probe_answered (i := .colourProbeCapture k) (k := k) (code := cOK) (len := 80) (r := r)
    (by simp [Instr.wellFormed, hk]) haw (congrArg (guarded _ s) (by simp only [hq, hres])) (by decide)
  exact ⟨t, ht, hans, hfree, hother, hframe⟩

theorem colourProbeCapture_idle (k : Nat) (s : State) (hk : k < 4) (h : ∀ q, s.probe k = some q → q.result = none) :
    exec (.colourProbeCapture k) s = .next s := by
  refine exec_next (i := .colourProbeCapture k) rfl (by simp [Instr.wellFormed, hk]) ?_ rfl
  cases hq : s.probe k with
  | none => rfl
  | some q => simp only [h q hq]

theorem probeMissed_answers (k : Nat) (q : Probe) (g : Flight) (s : State) (hk : k < 4) (hq : s.probe k = some q) (hres : q.result = none)
    (haw : s.awaits q.ticket g) : ∃ t, exec (.probeMissed k) s = .next t ∧ Answered g.opcode g.cmd 0x30 0 0 t ∧ t.probe k = none
      ∧ (∀ j, j ≠ k → t.probe j = s.probe j) ∧ t.flight? q.ticket = none
      ∧ t = { s with colour := t.colour, ctl := { s.ctl with wins := t.ctl.wins, flights := t.ctl.flights }, pw := t.pw } :=
  probe_answered (i := .probeMissed k) (by simp [Instr.wellFormed, hk]) haw
    (congrArg (guarded _ s) (by simp only [hq, hres, Option.isSome_none, Bool.false_eq_true, if_false])) (by decide)

/-! ### Uniformity banks (Table 5-10) -/

/-- The bank of a canvas, and the other parameters. -/
theorem switchBank_effect (c bank : Nat) (s : State) : ∃ x, EventsOnly { s with params := x } (s.switchBank c bank)
    ∧ SMap.get pdef x (pkey (P.cv c P.OC_UNIF_BANK) 0) = bank
    ∧ ∀ k, k ≠ pkey (P.cv c P.OC_UNIF_BANK) 0 → SMap.get pdef x k = SMap.get pdef s.params k := by
  unfold State.switchBank
  by_cases h : s.cvp c P.OC_UNIF_BANK 0 = bank
  · rw [if_pos h]; exact ⟨s.params, EventsOnly.refl s, h, fun _ _ => rfl⟩
  · rw [if_neg h]
    exact ⟨_, eventsOnly_postTagged _ _ _ _ _ _, SMap.get_set_same _ _ _ _, fun k hk => SMap.get_set_other _ _ hk _⟩

/-- Of a commit that has filled its bank and does not wait for the canvas, only the canvas's bank and its event are left. -/
theorem unifSwitch_eq {s : State} {k : UnifCommit} {c : Nat} (h : s.colour.commit = some k) (hcopied : k.copied = true) (hc : c ∉ k.waiting) :
    s.unifSwitch c = s.switchBank c s.colour.newest := by
  have hfilter : k.waiting.filter (· != c) = k.waiting := List.filter_eq_self.2 fun d hd => by
    simpa using fun e : d = c => hc (e ▸ hd)
  unfold State.unifSwitch
  rw [h]
  dsimp only
  rw [if_pos hcopied, hfilter]
  congr 1
  rw [← h]

/-- The same event records stand whatever the parameters are. -/
theorem EventsOnly.withParams {s t : State} (h : EventsOnly s t) (x : SMap Nat) : EventsOnly { s with params := x } { t with params := x } := by
  obtain ⟨⟨w, v, m, a, rfl⟩, hrings⟩ := h
  exact ⟨⟨w, v, m, a, rfl⟩, hrings⟩

theorem unifBank_key_ne {c d : Nat} (h : c ≠ d) : pkey (P.cv c P.OC_UNIF_BANK) 0 ≠ pkey (P.cv d P.OC_UNIF_BANK) 0 := by
  dsimp only [pkey, P.cv]; omega

/-- Canvases switch to the newest bank. -/
theorem unifSwitches_effect {k : UnifCommit} (hcopied : k.copied = true) : ∀ (l : List Nat) (s : State), s.colour.commit = some k → (∀ c ∈ l, c ∉ k.waiting) →
    ∃ x, EventsOnly { s with params := x } (l.foldl (fun t c => t.unifSwitch c) s)
      ∧ (∀ c ∈ l, SMap.get pdef x (pkey (P.cv c P.OC_UNIF_BANK) 0) = s.colour.newest)
      ∧ ∀ j, (∀ c ∈ l, j ≠ pkey (P.cv c P.OC_UNIF_BANK) 0) → SMap.get pdef x j = SMap.get pdef s.params j
  | [], s, _, _ => ⟨s.params, EventsOnly.refl s, by simp, fun _ _ => rfl⟩
  | c :: l, s, h, hl => by
    obtain ⟨x, hev, hsame, hother⟩ := switchBank_effect c s.colour.newest s
    rw [List.foldl_cons, unifSwitch_eq h hcopied (hl c List.mem_cons_self)]
    generalize s.switchBank c s.colour.newest = u at hev
    obtain ⟨hcol, hpar⟩ : u.colour = s.colour ∧ u.params = x := by obtain ⟨⟨_, _, _, _, rfl⟩, -⟩ := hev; exact ⟨rfl, rfl⟩
    obtain ⟨y, hev', hsame', hother'⟩ := unifSwitches_effect hcopied l u (by rw [hcol]; exact h) fun d hd => hl d (List.mem_cons_of_mem _ hd)
    rw [hcol] at hsame'
    rw [hpar] at hother'
    refine ⟨y, (hev.withParams y).trans hev', fun d hd => ?_, fun j hj => ?_⟩
    · by_cases hmem : d ∈ l
      · exact hsame' d hmem
      · obtain rfl : d = c := (List.mem_cons.1 hd).resolve_right hmem
        exact (hother' _ fun e he => unifBank_key_ne fun h : d = e => hmem (h ▸ he)).trans hsame
    · exact (hother' j fun d hd => hj d (List.mem_cons_of_mem _ hd)).trans (hother j (hj c List.mem_cons_self))

/-- The bank that no canvas reads holds a commit's contents, and is the newest; the commit waits for the canvases that run. -/
def State.bankFilled (k : UnifCommit) (s : State) : State :=
  let s1 := s.fillBank (1 - s.colour.newest) k.bytes
  { s1 with colour := { s1.colour with
    newest := 1 - s.colour.newest, commit := some { k with copied := true, waiting := (List.range 16).filter fun c => s.cvState c == 2 } } }

theorem bankFilled_eq (k : UnifCommit) (s : State) : ∃ col : Colour, s.bankFilled k = { s with colour := col } ∧ col.newest = 1 - s.colour.newest
    ∧ (if col.newest = 0 then col.bank0 else col.bank1) = k.bytes ∧ (if col.newest = 0 then col.bank1 = s.colour.bank1 else col.bank0 = s.colour.bank0)
    ∧ col.commit = some { k with copied := true, waiting := (List.range 16).filter fun c => s.cvState c == 2 } := by
  refine ⟨(s.bankFilled k).colour, rfl, rfl, ?_, ?_, rfl⟩
  all_goals
    by_cases h : 1 - s.colour.newest = 0
    · simp [State.bankFilled, State.fillBank, h]
    · simp [State.bankFilled, State.fillBank, h]

theorem unifBankCopyDone_fills (k : UnifCommit) (s : State) (hk : s.colour.commit = some k) (hcopied : k.copied = false) :
    ∃ t, exec .unifBankCopyDone s = .next t
      ∧ t.colour.newest = 1 - s.colour.newest ∧ (if t.colour.newest = 0 then t.colour.bank0 else t.colour.bank1) = k.bytes
      ∧ (if t.colour.newest = 0 then t.colour.bank1 = s.colour.bank1 else t.colour.bank0 = s.colour.bank0)
      ∧ t.colour.commit = some { k with copied := true, waiting := (List.range 16).filter fun c => s.cvState c == 2 }
      ∧ (∀ c, c < 16 → t.cvp c P.OC_UNIF_BANK 0 = if s.cvState c = 2 then s.cvp c P.OC_UNIF_BANK 0 else t.colour.newest)
      ∧ SameParams ((List.range 16).map fun c => pkey (P.cv c P.OC_UNIF_BANK) 0) s t ∧ EventsOnly { s with colour := t.colour, params := t.params } t := by
  obtain ⟨col, hfilled, hnewest, hfill, hkeep, hcommit⟩ := bankFilled_eq k s
  have hbody : exec .unifBankCopyDone s = guarded .unifBankCopyDone s
      (((List.range 16).filter fun c => !((List.range 16).filter fun c => s.cvState c == 2).contains c).foldl (fun t c => t.unifSwitch c)
        (s.bankFilled k)) := by
    refine (show exec .unifBankCopyDone s = guarded .unifBankCopyDone s _ from rfl).trans ?_
    simp only [hk, hcopied, Bool.false_eq_true, if_false]
    rfl
  have hidle : ∀ c, c ∈ ((List.range 16).filter fun c => !((List.range 16).filter fun c => s.cvState c == 2).contains c) ↔ c < 16 ∧ s.cvState c ≠ 2 :=
    fun c => by
      simp only [List.mem_filter, List.mem_range, List.contains_iff_mem, Bool.not_eq_true', beq_iff_eq, ← Bool.not_eq_true]
      tauto
  obtain ⟨x, hev, hsame, hother⟩ := unifSwitches_effect (k := { k with copied := true, waiting := (List.range 16).filter fun c => s.cvState c == 2 }) rfl
    ((List.range 16).filter fun c => !((List.range 16).filter fun c => s.cvState c == 2).contains c) { s with colour := col } hcommit fun c hc => by
      have := ((hidle c).1 hc).2
      simp [this]
  rw [hfilled] at hbody
  obtain ⟨w, v, m, a, hpost, hrings⟩ := hev.rings
  rw [hpost] at hbody
  refine ⟨_, hbody.trans (guarded_next (by simp [Instr.wellFormed]) rfl), hnewest, hfill, hkeep, hcommit, fun c hc => ?_, fun j hj => ?_,
    ⟨⟨w, v, m, a, rfl⟩, hrings⟩⟩
  · show SMap.get pdef x (pkey (P.cv c P.OC_UNIF_BANK) 0) = _
    by_cases hrun : s.cvState c = 2
    · rw [if_pos hrun]
      exact hother _ fun d hd => unifBank_key_ne fun h => ((hidle d).1 hd).2 (h ▸ hrun)
    · rw [if_neg hrun]
      exact hsame c ((hidle c).2 ⟨hc, hrun⟩)
  · exact hother j fun d hd h => hj (List.mem_map.2 ⟨d, List.mem_range.2 ((hidle d).1 hd).1, h.symm⟩)

/-- The old bank holds the contents too, and the commit has ended. -/
theorem unifCommitDone_completes (k : UnifCommit) (tk : Nat) (g : Flight) (s : State) (hk : s.colour.commit = some k) (hcopied : k.copied = true)
    (hwait : k.waiting = []) (htk : k.ticket = some tk) (haw : s.awaits tk g) :
    ∃ t, exec .unifCommitDone s = .next t ∧ Answered g.opcode g.cmd 0 0 0 t ∧ t.colour.commit = none
      ∧ (if s.colour.newest = 0 then t.colour.bank1 else t.colour.bank0) = k.bytes
      ∧ (if s.colour.newest = 0 then t.colour.bank0 = s.colour.bank0 else t.colour.bank1 = s.colour.bank1) ∧ t.colour.newest = s.colour.newest
      ∧ t = { s with colour := t.colour, ctl := { s.ctl with wins := t.ctl.wins, flights := t.ctl.flights }, pw := t.pw } := by
  obtain ⟨col, hcol, hcommit, hfill, hkeep, hnewest⟩ : ∃ col : Colour,
      ({ s.fillBank (1 - s.colour.newest) k.bytes with colour := { (s.fillBank (1 - s.colour.newest) k.bytes).colour with commit := none } } : State)
        = { s with colour := col } ∧ col.commit = none ∧ (if s.colour.newest = 0 then col.bank1 else col.bank0) = k.bytes
        ∧ (if s.colour.newest = 0 then col.bank0 = s.colour.bank0 else col.bank1 = s.colour.bank1) ∧ col.newest = s.colour.newest := by
    by_cases h : s.colour.newest = 0
    · exact ⟨_, rfl, rfl, by simp [State.fillBank, h], by simp [State.fillBank, h], by simp [State.fillBank, h]⟩
    · have h' : 1 - s.colour.newest = 0 := by omega
      exact ⟨_, rfl, rfl, by simp [State.fillBank, h, h'], by simp [State.fillBank, h, h'], by simp [State.fillBank, h']⟩
  have haw' : State.awaits { s with colour := col } tk g := haw
  have hans := finalReply_answered _ haw'.2 haw'.1 (code := cOK) (by decide) 0 0
  obtain ⟨W, F, p, hR⟩ := finalReply_fields haw' cOK 0 0
  rw [hR] at hans
  have hbody : exec .unifCommitDone s = guarded .unifCommitDone s (State.finalReply tk cOK 0 0 { s with colour := col }) := by
    refine (show exec .unifCommitDone s = guarded .unifCommitDone s _ from rfl).trans ?_
    simp only [hk, hcopied, hwait, htk, List.isEmpty_nil, Bool.and_self, if_true]
    rw [hcol]
  rw [hR] at hbody
  exact ⟨_, hbody.trans (guarded_next (by simp [Instr.wellFormed]) rfl), hans, hcommit, hfill, hkeep, hnewest, rfl⟩

theorem unifCommitDone_waits (k : UnifCommit) (s : State) (hk : s.colour.commit = some k) (h : k.copied = false ∨ k.waiting ≠ []) :
    exec .unifCommitDone s = .next s := by
  refine exec_next (i := .unifCommitDone) rfl (by simp [Instr.wellFormed]) ?_ rfl
  have hnot : (k.copied && k.waiting.isEmpty) = false := by
    rcases h with h | h <;> simp [h]
  simp only [hk, hnot, Bool.false_eq_true, if_false]

end Sys2Proof.Machine

open Sys2Proof Sys2Proof.Machine in
/-- Settles O25: a probe is answered from its slot (`probe_answered`), and a commit fills one bank, switches the canvases that do not run
(`unifSwitches_effect`), then fills the other. -/
theorem colourProbesAndUniformityBanks : Obligations.ColourProbesAndUniformityBanks := by
  unfold Obligations.ColourProbesAndUniformityBanks
  exact ⟨colourProbe_waits, colourProbe_full, colourProbe_badParam, frameProbe_captures, colourProbeCapture_answers, colourProbeCapture_idle,
    probeMissed_answers, unifBankCopyDone_fills, unifCommitDone_completes, unifCommitDone_waits⟩
end

section
/-! Show period boundaries of canvases on which nothing but time acts (R180 to R183). -/

namespace Sys2Proof.Machine

/-! ### What a show period boundary may change -/

/-- The canvas parameters that follow a show period boundary. -/
def showIds : List Nat := [P.LY_BASE_IN_FORCE, P.CV_BW_RESERVED, P.CV_COMPOSE_LOAD, P.CV_LINE_TIME, P.OC_UNIF_FAULTS, P.LI_MODE]

def showKeys (c : Nat) : List Nat := bwKeys ++ showIds.flatMap fun i => (List.range 8).map fun j => pkey (P.cv c i) j

theorem mem_showKeys {c i j : Nat} (hi : i ∈ showIds) (hj : j < 8) : pkey (P.cv c i) j ∈ showKeys c :=
  List.mem_append_right _ (List.mem_flatMap.2 ⟨i, hi, List.mem_map.2 ⟨j, List.mem_range.2 hj, rfl⟩⟩)

/-- Every other canvas parameter keeps its value. -/
theorem cvp_not_mem_showKeys {n c i j : Nat} (hi : i ∉ showIds) (hlo : 0xC00 ≤ i) (hhi : i < 0xC80) (hj : j < 4096) : pkey (P.cv n i) j ∉ showKeys c := by
  intro h
  rcases List.mem_append.1 h with h | h
  · have hbw : ∀ k ∈ bwKeys, k < 0x100000 := by decide
    have := hbw _ h
    simp only [pkey, P.cv] at this
    omega
  · obtain ⟨m, hm, h⟩ := List.mem_flatMap.1 h
    obtain ⟨l, hl, h⟩ := List.mem_map.1 h
    have hids : ∀ k ∈ showIds, 0xC00 ≤ k ∧ k < 0xC80 := by decide
    have hl := List.mem_range.1 hl
    obtain ⟨h1, h2⟩ := hids m hm
    simp only [pkey, P.cv] at h
    have : m = i := by omega
    exact hi (this ▸ hm)

/-- What the statements say of a canvas's timing and counts. -/
def Canvas.timing (x : Canvas) : (Nat × Nat × Nat × Nat) × (Nat × Nat × Option Nat) × (Nat × Nat × List (Nat × Nat × Nat)) :=
  ((x.start, x.rem, x.next, x.nextRem), (x.tag, x.phase, x.prevStart), (x.clips, x.underruns, x.flips))

/-- A step of a show period boundary of canvas `c` that leaves its timing: parameters that follow the boundary, the rest of the canvas's record, the
DRAM controller, the codec engines, uniformity faults and event records. -/
structure ShowStep (c : Nat) (s t : State) : Prop where
  params : SameParams (showKeys c) s t
  others : ∀ n, n ≠ c → t.canvas n = s.canvas n
  timing : (t.canvas c).timing = (s.canvas c).timing
  engines : ∀ e, t.engine e = s.engine e
  frame : ∃ x y d vc f w v m a, t = { s with
    params := x, dram := d, cv := { s.cv with cvs := y }, vc := vc, colour := { s.colour with faults := f }
    ctl := { s.ctl with wins := w, views := v, hostMem := m, aer := a } }

theorem ShowStep.refl (c : Nat) (s : State) : ShowStep c s s := ⟨fun _ _ => rfl, fun _ _ => rfl, rfl, fun _ => rfl, ⟨_, _, _, _, _, _, _, _, _, rfl⟩⟩

theorem ShowStep.trans {c : Nat} {s t u : State} (h : ShowStep c s t) (g : ShowStep c t u) : ShowStep c s u := by
  refine ⟨h.params.trans g.params, fun n hn => (g.others n hn).trans (h.others n hn), g.timing.trans h.timing, fun e => (g.engines e).trans (h.engines e), ?_⟩
  obtain ⟨_, _, _, _, _, _, _, _, _, ht⟩ := h.frame
  obtain ⟨_, _, _, _, _, _, _, _, _, hu⟩ := g.frame
  rw [ht] at hu
  exact ⟨_, _, _, _, _, _, _, _, _, hu⟩

theorem ShowStep.foldl {α : Type} {c : Nat} {f : State → α → State} {l : List α} (h : ∀ a ∈ l, ∀ t, ShowStep c t (f t a)) (s : State) :
    ShowStep c s (l.foldl f s) :=
  List.foldlRecOn (motive := fun t : State => ShowStep c s t) _ _ (ShowStep.refl c s) fun t ht a ha => ht.trans (h a ha t)

theorem EventsOnly.showStep {c : Nat} {s t : State} (h : EventsOnly s t) : ShowStep c s t := by
  obtain ⟨⟨_, _, _, _, rfl⟩, -⟩ := h
  exact ⟨fun _ _ => rfl, fun _ _ => rfl, rfl, fun _ => rfl, ⟨_, _, _, _, _, _, _, _, _, rfl⟩⟩

theorem showStep_setP {c i j : Nat} (hi : i ∈ showIds) (hj : j < 8) (s : State) (v : Nat) : ShowStep c s (s.setP (P.cv c i) j v) :=
  ⟨sameParams_setP (mem_showKeys hi hj) v, fun _ _ => rfl, rfl, fun _ => rfl, ⟨_, _, _, _, _, _, _, _, _, rfl⟩⟩

theorem showStep_modCanvas {c : Nat} {f : Canvas → Canvas} (hf : ∀ x, (f x).timing = x.timing) (s : State) : ShowStep c s (s.modCanvas c f) := by
  refine ⟨fun _ _ => rfl, fun n hn => ?_, ?_, fun _ => rfl, ⟨_, _, _, _, _, _, _, _, _, rfl⟩⟩
  · rw [State.canvas_modCanvas, if_neg hn]
  · rw [State.canvas_modCanvas, if_pos rfl, hf]

theorem showStep_canvasReport (c : Nat) (s : State) : ShowStep c s (s.canvasReport c) := by
  have hbw : ∀ bps, ShowStep c s (s.bwSet 1 (0x100 + c) bps) := fun bps => by
    obtain ⟨hframe, hsame⟩ := bwSet_frame 1 (0x100 + c) bps s
    generalize s.bwSet 1 (0x100 + c) bps = u at hframe hsame
    obtain ⟨x, d, rfl⟩ : ∃ x d, u = { s with params := x, dram := d } := ⟨_, _, hframe⟩
    exact ⟨hsame.mono fun k hk => List.mem_append_left _ hk, fun _ _ => rfl, rfl, fun _ => rfl, ⟨_, _, _, _, _, _, _, _, _, rfl⟩⟩
  have hset : ∀ (i v : Nat) (t : State), i ∈ showIds → ShowStep c t (t.setP (P.cv c i) 0 v) := fun i v t hi => showStep_setP hi (by decide) t v
  exact (((hbw _).trans (hset P.CV_BW_RESERVED _ _ (by decide))).trans (hset P.CV_COMPOSE_LOAD _ _ (by decide))).trans (hset P.CV_LINE_TIME _ _ (by decide))

/-- The parameters of a canvas that decide its timing, its sources and its state. -/
theorem ShowStep.cvp {c : Nat} {s t : State} (h : ShowStep c s t) (n : Nat) {i j : Nat} (hi : i ∉ showIds) (hlo : 0xC00 ≤ i) (hhi : i < 0xC80)
    (hj : j < 4096) : t.cvp n i j = s.cvp n i j := h.params.getP (cvp_not_mem_showKeys hi hlo hhi hj)

theorem ShowStep.vcp {c : Nat} (hc : c < 16) {s t : State} (h : ShowStep c s t) (e : Nat) {i : Nat} (hi : 0x1400 ≤ i) : t.vcp e i = s.vcp e i := by
  refine h.params.getP fun hmem => ?_
  rcases List.mem_append.1 hmem with hmem | hmem
  · have hbw : ∀ k ∈ bwKeys, k < 0x100000 := by decide
    have := hbw _ hmem
    simp only [pkey, P.vc] at this
    omega
  · obtain ⟨m, hm, h⟩ := List.mem_flatMap.1 hmem
    obtain ⟨l, hl, h⟩ := List.mem_map.1 h
    have hids : ∀ k ∈ showIds, 0xC00 ≤ k ∧ k < 0xC80 := by decide
    have hl := List.mem_range.1 hl
    obtain ⟨h1, h2⟩ := hids m hm
    simp only [pkey, P.cv, P.vc] at h
    omega

theorem inputActive_congr {s t : State} (n i : Nat) (h : ∀ k j, k ∈ [P.LI_PIPELINE, P.CV_ZORDER, P.CV_PHASES, P.LI_PHASES, P.LI_OPACITY] → j < 4096 →
    t.cvp n k j = s.cvp n k j) (hi : i < 4096) : t.inputActive n i = s.inputActive n i := by
  have hz : ∀ src, t.named n src = s.named n src := fun src => by
    unfold State.named
    rw [Bool.eq_iff_iff, List.any_eq_true, List.any_eq_true]
    refine exists_congr fun k => and_congr_right fun hk => ?_
    rw [h P.CV_ZORDER k (by decide) (by have := List.mem_range.1 hk; omega)]
  unfold State.inputActive State.admitted
  rw [hz, h P.LI_PIPELINE i (by decide) hi, h P.LI_PHASES i (by decide) hi, h P.LI_OPACITY i (by decide) hi, h P.CV_PHASES 0 (by decide) (by decide)]

/-- The canvas stays one on which nothing but time acts. -/
theorem ShowStep.quiet {c : Nat} (hc : c < 16) {s t : State} (h : ShowStep c s t) (hq : s.quietCanvas c) : t.quietCanvas c := by
  obtain ⟨hstaged, hflips, hmap, hin, hstores, heng, hpw, hcommit, hrun⟩ := hq
  have hflips' : (t.canvas c).flips = (s.canvas c).flips := congrArg (fun x => x.2.2.2.2) h.timing
  have hin' : ∀ n, n < 16 → ∀ i, i < 8 → t.inputActive n i = false := fun n hn i hi => by
    rw [← hin n hn i hi]
    refine inputActive_congr n i (fun k j hk hj => ?_) (by omega)
    have hids : ∀ k ∈ [P.LI_PIPELINE, P.CV_ZORDER, P.CV_PHASES, P.LI_PHASES, P.LI_OPACITY], k ∉ showIds ∧ 0xC00 ≤ k ∧ k < 0xC80 := by decide
    obtain ⟨h1, h2, h3⟩ := hids k hk
    exact h.cvp n h1 h2 h3 hj
  have heng' : ∀ e, e < 2 → t.vcp e P.VC_MODE = 0 ∧ (t.engine e).freeing = [] := fun e he => by
    rw [h.engines e, h.vcp hc e (by decide)]; exact heng e he
  obtain ⟨_, _, _, _, _, _, _, _, _, rfl⟩ := h.frame
  exact ⟨hstaged, hflips'.trans hflips, hmap, hin', hstores, heng', hpw, hcommit, hrun⟩

/-! ### The steps of a show period boundary -/

theorem State.quietCanvas.flips {s : State} {c : Nat} (h : s.quietCanvas c) : (s.canvas c).flips = [] := h.2.1

theorem State.quietCanvas.portMap {s : State} {c : Nat} (h : s.quietCanvas c) : s.portMap c = [] := h.2.2.1

theorem State.quietCanvas.inputs {s : State} {c : Nat} (h : s.quietCanvas c) : ∀ n, n < 16 → ∀ i, i < 8 → s.inputActive n i = false := h.2.2.2.1

theorem State.quietCanvas.stores {s : State} {c : Nat} (h : s.quietCanvas c) : s.cv.stores = [] := h.2.2.2.2.1

theorem State.quietCanvas.engines {s : State} {c : Nat} (h : s.quietCanvas c) : ∀ e, e < 2 → s.vcp e P.VC_MODE = 0 ∧ (s.engine e).freeing = [] :=
  h.2.2.2.2.2.1

theorem State.quietCanvas.step {s : State} {c : Nat} (h : s.quietCanvas c) : s.pw.step = .none := h.2.2.2.2.2.2.1

theorem State.quietCanvas.commit {s : State} {c : Nat} (h : s.quietCanvas c) : s.colour.commit = none := h.2.2.2.2.2.2.2.1

theorem State.quietCanvas.runs {s : State} {c : Nat} (h : s.quietCanvas c) : ∀ g, g < 28 → (s.laneGroup g).run = none := h.2.2.2.2.2.2.2.2

theorem showStep_selectPictures (c : Nat) (s : State) : ShowStep c s (s.selectPictures c) :=
  showStep_modCanvas (f := fun x => { x with picture := (List.range 8).foldl (fun m l => SMap.set (fun _ => 0) m l
    (match s.cvp c P.LY_SOURCE l with
    | 0 => 0
    | e => ((s.newestPicture (e - 1)).map fun v => v + 1).getD 0)) [] }) (fun _ => rfl) s

theorem enterCanvas_running (c reason : Nat) (s : State) : ShowStep c (s.setP (P.cv c P.CV_STATE) 0 2) (s.enterCanvas c 2 reason) := by
  unfold State.enterCanvas
  dsimp only
  rw [if_pos rfl, if_neg (by decide)]
  exact (eventsOnly_postTagged _ _ _ _ _ _).showStep.trans (showStep_canvasReport c _)

theorem settleFlips_none {s : State} {c : Nat} (h : (s.canvas c).flips = []) (tag : Nat) : s.settleFlips c tag = s := by
  simp [State.settleFlips, h]

theorem showStep_holdCanvas {c : Nat} {s : State} (h : s.pw.step = .none) (t : Nat) : ShowStep c s (s.holdCanvas c t) := by
  have hset : s.holdCanvas c t = s.modCanvas c fun x => { x with held := s.powerState != 0 } := by
    unfold State.holdCanvas
    simp only [h]
    rfl
  rw [hset]
  exact showStep_modCanvas (f := fun x => { x with held := s.powerState != 0 }) (fun _ => rfl) s

theorem Engine.filter_freeing {x : Engine} (h : x.freeing = []) (p : Nat → Bool) : { x with freeing := x.freeing.filter p } = x := by
  cases x
  dsimp only at h
  subst h
  rfl

/-- With nothing to free, the engines are as they were. -/
theorem showStep_codecFree {c : Nat} {s : State} (h : ∀ e, e < 2 → (s.engine e).freeing = []) : ShowStep c s s.codecFree := by
  have key : ∀ l : List Nat, (∀ e ∈ l, e < 2) → ∀ t : State, (∀ e, t.engine e = s.engine e) → ShowStep c t (l.foldl (init := t) fun t e =>
      let gone := (t.engine e).freeing.filter fun a => !t.pictureSelected a
      (gone.foldl (fun u a => u.freeBuffer a) t).modEngine e fun x => { x with freeing := x.freeing.filter fun a => !gone.contains a }) := by
    intro l
    induction l with
    | nil => exact fun _ t _ => ShowStep.refl c t
    | cons e l ih =>
      intro hl t ht
      have hfree : (t.engine e).freeing = [] := by rw [ht]; exact h e (hl e List.mem_cons_self)
      rw [List.foldl_cons]
      dsimp only
      rw [hfree, List.filter_nil, List.foldl_nil]
      have hsame : ∀ k, (t.modEngine e fun x => { x with freeing := x.freeing.filter fun a => !([] : List Nat).contains a }).engine k = t.engine k := fun k => by
        rw [State.engine_modEngine]
        by_cases hk : k = e
        · subst hk; rw [if_pos rfl]; exact Engine.filter_freeing hfree _
        · rw [if_neg hk]
      have hstep : ShowStep c t (t.modEngine e fun x => { x with freeing := x.freeing.filter fun a => !([] : List Nat).contains a }) :=
        ⟨fun _ _ => rfl, fun _ _ => rfl, rfl, hsame, ⟨_, _, _, _, _, _, _, _, _, rfl⟩⟩
      exact hstep.trans (ih (fun k hk => hl k (List.mem_cons_of_mem _ hk)) _ fun k => (hsame k).trans (ht k))
  exact key _ (fun e he => List.mem_range.1 he) s fun _ => rfl

theorem codecShowPeriod_closed {s : State} (h : ∀ e, e < 2 → s.codecFree.vcp e P.VC_MODE = 0) (c : Nat) : s.codecShowPeriod c = s.codecFree := by
  unfold State.codecShowPeriod
  refine foldl_fixed_of_mem fun e he => ?_
  have := h e (List.mem_range.1 he)
  simp only [this]
  rw [if_neg (by omega), if_neg (by omega)]

/-- With no tile on the canvas, no binding can overrun. -/
theorem showStep_unifFaults {c : Nat} {s : State} (h : s.portMap c = []) : ShowStep c s (s.unifFaults c) := by
  have hover : s.unifOverruns c = [] := by simp [State.unifOverruns, h]
  unfold State.unifFaults
  simp only [h, hover, List.map_nil, List.contains_nil, List.filter_nil, List.foldl_nil, List.filter_false]
  have hfaults : ∀ f, ShowStep c s { s with colour := { s.colour with faults := f } } := fun _ =>
    ⟨fun _ _ => rfl, fun _ _ => rfl, rfl, fun _ => rfl, ⟨_, _, _, _, _, _, _, _, _, rfl⟩⟩
  exact (hfaults _).trans (showStep_setP (by decide) (by decide) _ 0)

theorem reviewLoads_none {c : Nat} {s : State} (h : s.portMap c = []) (b : Bool) : s.reviewLoads c b = s := by
  simp [State.reviewLoads, State.canvasLoops, h]

theorem showHandovers_none {c : Nat} {s : State} (h : s.portMap c = []) (tag : Nat) : s.showHandovers c tag = s := by
  simp [State.showHandovers, State.canvasLoops, h]

/-- With no input in use there is nothing to store. -/
theorem fitStores_none {s : State} (hin : ∀ n, n < 16 → ∀ i, i < 8 → s.inputActive n i = false) (hstores : s.cv.stores = []) :
    s.inputModes s.cvRuns = [] ∧ s.fitStores = (s, []) := by
  have hmodes : s.inputModes s.cvRuns = [] := by
    unfold State.inputModes
    refine foldl_fixed_of_mem fun e he => ?_
    obtain ⟨n, hn, he⟩ := List.mem_flatMap.1 he
    obtain ⟨i, hi, rfl⟩ := List.mem_map.1 he
    simp only [hin n (List.mem_range.1 hn) i (List.mem_range.1 hi), Bool.and_false, Bool.false_eq_true, if_false]
  refine ⟨hmodes, ?_⟩
  have hneed : s.storesNeeded (s.inputModes s.cvRuns) = [] := by simp [State.storesNeeded, hmodes]
  have hstore : ∀ p, s.store p = none := fun p => by simp [State.store, hstores]
  have hdrop : (List.range 8).foldl (fun (t : State) p => if ([] : List Nat).contains p || (t.store p).isNone then t else t.dropStore p) s = s :=
    foldl_fixed_of_mem fun p _ => by simp [hstore]
  unfold State.fitStores
  rw [hneed]
  exact congrArg (fun t => (t, ([] : List Nat))) hdrop

theorem showStep_awaitInput (c i : Nat) (s : State) : ShowStep c s (s.awaitInput c i) :=
  showStep_modCanvas (f := fun x => { x with waiting := setBit x.waiting i, waitSince := SMap.set (fun _ => 0) x.waitSince i s.now }) (fun _ => rfl) s

theorem showStep_chooseModes {c : Nat} {s : State} (hin : ∀ n, n < 16 → ∀ i, i < 8 → s.inputActive n i = false) (hstores : s.cv.stores = []) :
    ShowStep c s (s.chooseModes c) := by
  obtain ⟨hmodes, hfit⟩ := fitStores_none hin hstores
  unfold State.chooseModes
  simp only [hmodes, hfit, List.find?_nil]
  refine ShowStep.foldl (fun i hi t => ?_) s
  split
  · exact ShowStep.refl c t
  · rw [if_pos trivial]
    exact (showStep_setP (i := P.LI_MODE) (by decide) (List.mem_range.1 hi) t 0).trans (showStep_awaitInput c i _)

theorem calRuns_none {s : State} (h : ∀ g, g < 28 → (s.laneGroup g).run = none) : s.calRuns = s :=
  foldl_fixed_of_mem fun g hg => by simp [h g (List.mem_range.1 hg)]

/-- A show period of a canvas on which nothing but time acts: the timing, then steps that leave it. -/
theorem beginShow_showStep {c : Nat} (hc : c < 16) {s : State} (hq : s.quietCanvas c) (tag start rem : Nat) :
    ShowStep c (s.modCanvas c fun x => { x with
      start := start, rem := rem, next := s.corrected start (s.showEnd c start rem).1, nextRem := (s.showEnd c start rem).2, tag := tag, phase := 0 })
      (s.beginShow c tag start rem) := by
  have hq1 : (s.modCanvas c fun x => { x with start := start, rem := rem, next := s.corrected start (s.showEnd c start rem).1
                                              nextRem := (s.showEnd c start rem).2, tag := tag, phase := 0 }).quietCanvas c := by
    obtain ⟨hstaged, hflips, hrest⟩ := hq
    exact ⟨hstaged, by rw [State.canvas_modCanvas, if_pos rfl]; exact hflips, hrest⟩
  unfold State.beginShow
  dsimp only
  generalize (s.modCanvas c fun x => { x with start := start, rem := rem, next := s.corrected start (s.showEnd c start rem).1
                                              nextRem := (s.showEnd c start rem).2, tag := tag, phase := 0 }) = s1 at hq1 ⊢
  rw [settleFlips_none hq1.flips]
  have h2 : ShowStep c s1 ((List.range 8).foldl (fun t l => t.setP (P.cv c P.LY_BASE_IN_FORCE) l (t.cvp c P.LY_BASE l)) s1) :=
    ShowStep.foldl (fun l hl t => showStep_setP (by decide) (List.mem_range.1 hl) t _) s1
  generalize (List.range 8).foldl (fun t l => State.setP t (P.cv c P.LY_BASE_IN_FORCE) l (t.cvp c P.LY_BASE l)) s1 = s2 at h2 ⊢
  have h3 : ShowStep c s1 (s2.selectPictures c) := h2.trans (showStep_selectPictures c s2)
  have h4 : ShowStep c s1 (((s2.selectPictures c).holdCanvas c (start / subTick)).canvasReport c) :=
    (h3.trans (showStep_holdCanvas (h3.quiet hc hq1).step _)).trans (showStep_canvasReport c _)
  generalize ((s2.selectPictures c).holdCanvas c (start / subTick)).canvasReport c = s3 at h4 ⊢
  have hq3 := h4.quiet hc hq1
  have hfree : ShowStep c s3 s3.codecFree := showStep_codecFree fun e he => (hq3.engines e he).2
  have hclosed : s3.codecShowPeriod c = s3.codecFree := codecShowPeriod_closed (fun e he => ((hfree.quiet hc hq3).engines e he).1) c
  have h5 : ShowStep c s1 (if (s3.canvas c).held then s3.codecFree else s3.codecShowPeriod c) := by
    rw [hclosed, ite_self]; exact h4.trans hfree
  generalize (if (s3.canvas c).held then s3.codecFree else s3.codecShowPeriod c) = s4 at h5 ⊢
  have hq4 := h5.quiet hc hq1
  have hswitch : s4.unifSwitch c = s4 := by simp only [State.unifSwitch, hq4.commit]
  rw [hswitch]
  have h6 : ShowStep c s1 (s4.unifFaults c) := h5.trans (showStep_unifFaults hq4.portMap)
  have hq6 := h6.quiet hc hq1
  rw [reviewLoads_none hq6.portMap]
  have h7 : ShowStep c s1 ((s4.unifFaults c).chooseModes c) := h6.trans (showStep_chooseModes hq6.inputs hq6.stores)
  have hq7 := h7.quiet hc hq1
  rw [showHandovers_none hq7.portMap, calRuns_none hq7.runs]
  exact h7

/-! ### First and later show periods -/

/-- What a show period boundary leaves of the rest of the device. -/
def ShowFrame (c : Nat) (s u : State) : Prop :=
  (∀ n, n ≠ c → u.canvas n = s.canvas n) ∧ u.pipes = s.pipes ∧ u.cam = s.cam ∧ u.mw = s.mw ∧ u.ln = s.ln ∧ u.fr = s.fr ∧ u.au = s.au ∧ u.now = s.now
    ∧ u.ring = s.ring

theorem ShowFrame.trans {c : Nat} {s t u : State} (h : ShowFrame c s t) (g : ShowFrame c t u) : ShowFrame c s u := by
  obtain ⟨h1, h2, h3, h4, h5, h6, h7, h8, h9⟩ := h
  obtain ⟨g1, g2, g3, g4, g5, g6, g7, g8, g9⟩ := g
  exact ⟨fun n hn => (g1 n hn).trans (h1 n hn), g2.trans h2, g3.trans h3, g4.trans h4, g5.trans h5, g6.trans h6, g7.trans h7, g8.trans h8, g9.trans h9⟩

theorem ShowStep.showFrame {c : Nat} {s t : State} (h : ShowStep c s t) : ShowFrame c s t := by
  have ho := h.others
  obtain ⟨_, _, _, _, _, _, _, _, _, rfl⟩ := h.frame
  exact ⟨ho, rfl, rfl, rfl, rfl, rfl, rfl, rfl, rfl⟩

theorem ShowStep.pending {c : Nat} {s t : State} (h : ShowStep c s t) : t.pending = s.pending := by
  obtain ⟨_, _, _, _, _, _, _, _, _, rfl⟩ := h.frame
  rfl

theorem showFrame_modCanvas (c : Nat) (f : Canvas → Canvas) (s : State) : ShowFrame c s (s.modCanvas c f) :=
  ⟨fun n hn => by rw [State.canvas_modCanvas, if_neg hn], rfl, rfl, rfl, rfl, rfl, rfl, rfl, rfl⟩

theorem showFrame_setP (c i j v : Nat) (s : State) : ShowFrame c s (s.setP i j v) := ⟨fun _ _ => rfl, rfl, rfl, rfl, rfl, rfl, rfl, rfl, rfl⟩

theorem showFrame_reach (c : Nat) (b : Boundary) (s : State) : ShowFrame c s (s.reach b) := ⟨fun _ _ => rfl, rfl, rfl, rfl, rfl, rfl, rfl, rfl, rfl⟩

/-- A parameter of a canvas that its activity does not depend on. -/
theorem State.quietCanvas.setP {c : Nat} {s : State} (hc : c < 16) (h : s.quietCanvas c) {i : Nat} (hi : i ∈ [P.CV_STATE, P.OC_CLIP_COUNT]) (v : Nat) :
    (s.setP (P.cv c i) 0 v).quietCanvas c := by
  have hid : 0xC00 ≤ i ∧ i < 0xC80 ∧ i ∉ [P.LI_PIPELINE, P.CV_ZORDER, P.CV_PHASES, P.LI_PHASES, P.LI_OPACITY] :=
    (by decide : ∀ i ∈ [P.CV_STATE, P.OC_CLIP_COUNT], 0xC00 ≤ i ∧ i < 0xC80 ∧ i ∉ [P.LI_PIPELINE, P.CV_ZORDER, P.CV_PHASES, P.LI_PHASES, P.LI_OPACITY]) i hi
  obtain ⟨hstaged, hflips, hmap, hin, hstores, heng, hrest⟩ := h
  refine ⟨hstaged, hflips, hmap, fun n hn k hk => ?_, hstores, fun e he => ⟨?_, (heng e he).2⟩, hrest⟩
  · rw [← hin n hn k hk]
    refine inputActive_congr n k (fun l j hl hj => SMap.get_set_other pdef _ ?_ _) (by omega)
    have hl' : 0xC00 ≤ l ∧ l < 0xC80 :=
      (by decide : ∀ l ∈ [P.LI_PIPELINE, P.CV_ZORDER, P.CV_PHASES, P.LI_PHASES, P.LI_OPACITY], 0xC00 ≤ l ∧ l < 0xC80) l hl
    have hne : l ≠ i := fun h => hid.2.2 (h ▸ hl)
    simp only [pkey, P.cv]
    omega
  · refine (SMap.get_set_other pdef _ ?_ _).trans (heng e he).1
    simp only [pkey, P.cv, P.vc, P.VC_MODE]
    omega

theorem State.quietCanvas.modCanvas {c : Nat} {s : State} (h : s.quietCanvas c) (f : Canvas → Canvas) (hf : ∀ x, (f x).flips = x.flips) :
    (s.modCanvas c f).quietCanvas c := by
  obtain ⟨hstaged, hflips, hrest⟩ := h
  exact ⟨hstaged, by rw [State.canvas_modCanvas, if_pos rfl, hf]; exact hflips, hrest⟩

/-- The show period that begins. -/
theorem beginShow_effect {c : Nat} (hc : c < 16) {s : State} (hq : s.quietCanvas c) (tag start rem : Nat) :
    ((s.beginShow c tag start rem).canvas c).timing = ((start, rem, s.corrected start (s.showEnd c start rem).1, (s.showEnd c start rem).2),
        (tag, 0, (s.canvas c).prevStart), ((s.canvas c).clips, (s.canvas c).underruns, (s.canvas c).flips))
      ∧ (∀ i, i ∈ [P.CV_STATE, P.OC_CLIP_COUNT] → (s.beginShow c tag start rem).cvp c i 0 = s.cvp c i 0) ∧ ShowFrame c s (s.beginShow c tag start rem)
      ∧ (s.beginShow c tag start rem).pending = s.pending := by
  have hstep := beginShow_showStep hc hq tag start rem
  refine ⟨hstep.timing.trans ?_, fun i hi => ?_, (showFrame_modCanvas c _ s).trans hstep.showFrame, hstep.pending⟩
  · rw [State.canvas_modCanvas, if_pos rfl]; rfl
  · have hid : i ∉ showIds ∧ 0xC00 ≤ i ∧ i < 0xC80 :=
      (by decide : ∀ i ∈ [P.CV_STATE, P.OC_CLIP_COUNT], i ∉ showIds ∧ 0xC00 ≤ i ∧ i < 0xC80) i hi
    exact hstep.cvp c hid.1 hid.2.1 hid.2.2 (by decide)

/-- With nothing staged, a boundary that is reached is only noted. -/
theorem applyReached_unstaged {s : State} (h : s.ctl.staged = []) (b : Boundary) : s.applyReached b = s.reach b := by
  have hs : (s.reach b).ctl.staged = [] := h
  simp only [State.applyReached, State.applyChanges, hs, List.filter_nil, List.flatMap_nil, List.foldl_nil, State.answerApplied, List.filterMap_nil,
    List.eraseDups_nil, State.applyWrites, State.putParams]
  rw [show (s.reach b) = { s.reach b with ctl := { (s.reach b).ctl with staged := [] } } by rw [← hs]]

theorem showEnd_congr {s t : State} {c : Nat} (hring : t.ring = s.ring) (hrate : t.cvp c P.CV_RATE 0 = s.cvp c P.CV_RATE 0) (start rem : Nat) :
    t.showEnd c start rem = s.showEnd c start rem := by
  simp only [State.showEnd, State.showFactor, hring, hrate]

theorem corrected_congr {s t : State} (hring : t.ring = s.ring) (start x : Nat) : t.corrected start x = s.corrected start x := by
  simp only [State.corrected, hring]

theorem firstShow_effect (c t : Nat) (s : State) (hc : c < 16) (hq : s.quietCanvas c) (hst : s.cvState c = 1) :
    ∃ u, exec (.showPeriodBoundary c t) s = .next u ∧ u.cvState c = 2
    ∧ (u.canvas c).tag = s.ring.tag ∧ ((u.canvas c).start, (u.canvas c).rem) = (s.canvas c).boundaryAt t
    ∧ (u.canvas c).next = s.corrected (u.canvas c).start (s.showEnd c (u.canvas c).start (u.canvas c).rem).1
    ∧ (u.canvas c).nextRem = (s.showEnd c (u.canvas c).start (u.canvas c).rem).2 ∧ (u.canvas c).phase = 0 ∧ (∀ n, n ≠ c → u.canvas n = s.canvas n) ∧ u.pipes = s.pipes
    ∧ u.cam = s.cam ∧ u.mw = s.mw ∧ u.ln = s.ln ∧ u.fr = s.fr ∧ u.au = s.au ∧ u.now = max s.now t ∧ u.ring = s.ring := by
  have hst' : (s.atLeast t).cvState c = 1 := hst
  set s1 := ((s.atLeast t).applyReached (.show c)).modCanvas c fun x => { x with tag := s.ring.tag }
  have hs1 : s1 = ((s.atLeast t).reach (.show c)).modCanvas c fun x => { x with tag := s.ring.tag } := by
    show State.modCanvas c _ _ = _
    rw [applyReached_unstaged (s := s.atLeast t) hq.1]
  have hq1 : (s1.setP (P.cv c P.CV_STATE) 0 2).quietCanvas c := by
    rw [hs1]
    exact State.quietCanvas.setP hc (State.quietCanvas.modCanvas (s := (s.atLeast t).reach (.show c)) hq (fun x => { x with tag := s.ring.tag }) fun _ => rfl) (i := P.CV_STATE) (by decide) 2
  have hstep : ShowStep c (s1.setP (P.cv c P.CV_STATE) 0 2) (s1.enterCanvas c 2 0) := enterCanvas_running c 0 s1
  obtain ⟨htime, hcvp, hframe, hpend⟩ := beginShow_effect hc (hstep.quiet hc hq1) s.ring.tag ((s.canvas c).boundaryAt t).1 ((s.canvas c).boundaryAt t).2
  have hF : ShowFrame c (s.atLeast t) (s1.setP (P.cv c P.CV_STATE) 0 2) := by
    rw [hs1]
    exact ((showFrame_reach c (.show c) (s.atLeast t)).trans (showFrame_modCanvas c _ _)).trans (showFrame_setP c _ _ _ _)
  have hstate : (s1.enterCanvas c 2 0).cvState c = 2 := (hstep.cvp c (by decide) (by decide) (by decide) (by decide)).trans (State.getP_setP_same _ _ _ _)
  have hrate : (s1.enterCanvas c 2 0).cvp c P.CV_RATE 0 = s.cvp c P.CV_RATE 0 := by
    refine (hstep.cvp c (by decide) (by decide) (by decide) (by decide)).trans ((SMap.get_set_other pdef _ ?_ _).trans (by rw [hs1]; rfl))
    simp only [pkey, P.cv, P.CV_STATE, P.CV_RATE]; omega
  have hexec : exec (.showPeriodBoundary c t) s = .next ((s1.enterCanvas c 2 0).beginShow c s.ring.tag ((s.canvas c).boundaryAt t).1 ((s.canvas c).boundaryAt t).2) := by
    refine exec_next (i := .showPeriodBoundary c t) rfl (by simp [Instr.wellFormed, hc]) ?_ (hpend.trans (hstep.pending.trans (by rw [hs1]; rfl)))
    simp only [hst']
    rfl
  generalize (s1.enterCanvas c 2 0).beginShow c s.ring.tag ((s.canvas c).boundaryAt t).1 ((s.canvas c).boundaryAt t).2 = u at htime hcvp hframe hexec
  have hall := (hF.trans hstep.showFrame).trans hframe
  have hring := (hF.trans hstep.showFrame).2.2.2.2.2.2.2.2
  rw [corrected_congr hring, showEnd_congr hring hrate] at htime
  simp only [Canvas.timing, Prod.mk.injEq] at htime
  obtain ⟨⟨hstart, hrem, hnext, hnextRem⟩, ⟨htag, hphase, -⟩, -⟩ := htime
  refine ⟨u, hexec, (hcvp _ (by decide)).trans hstate, htag, by rw [hstart, hrem], ?_, ?_, hphase, hall⟩
  · rw [hstart, hrem]; exact hnext
  · rw [hstart, hrem]; exact hnextRem

/-- A show period that had no underrun and no abandoned tile frame, or only posts them. -/
theorem endShow_effect {c : Nat} {s : State} (hab : SMap.get (fun _ => 0) s.mw.abandoned c = 0) : ∃ v,
    EventsOnly s v ∧ s.endShow c = (v.setP (P.cv c P.OC_CLIP_COUNT) 0 (s.canvas c).clips).modCanvas c fun y => { y with underruns := 0, clips := 0 } := by
  unfold State.endShow
  simp only [hab, if_true]
  split
  · exact ⟨s, EventsOnly.refl s, rfl⟩
  · exact ⟨_, eventsOnly_postTagged _ _ _ _ _ _, rfl⟩

/-- The end of a show period leaves the canvas as quiet as it was, its counts reported and cleared. -/
theorem endShow_quiet {c : Nat} (hc : c < 16) {s : State} (hq : s.quietCanvas c) (hab : SMap.get (fun _ => 0) s.mw.abandoned c = 0) :
    (s.endShow c).quietCanvas c ∧ (s.endShow c).canvas c = { s.canvas c with underruns := 0, clips := 0 } ∧ ShowFrame c s (s.endShow c)
      ∧ (s.endShow c).cvp c P.OC_CLIP_COUNT 0 = (s.canvas c).clips
      ∧ (∀ i, i ∈ [P.CV_ENABLE, P.CV_RATE, P.CV_STATE] → (s.endShow c).cvp c i 0 = s.cvp c i 0) ∧ (s.endShow c).pending = s.pending := by
  obtain ⟨v, hev, hend⟩ := endShow_effect hab
  have hstep : ShowStep c s v := hev.showStep
  have hcv : v.canvas c = s.canvas c := by obtain ⟨⟨_, _, _, _, rfl⟩, -⟩ := hev; rfl
  have hparams : v.params = s.params := by obtain ⟨⟨_, _, _, _, rfl⟩, -⟩ := hev; rfl
  rw [hend]
  refine ⟨State.quietCanvas.modCanvas (State.quietCanvas.setP hc (hstep.quiet hc hq) (i := P.OC_CLIP_COUNT) (by decide) _)
    (fun y => { y with underruns := 0, clips := 0 }) fun _ => rfl, ?_,
    (hstep.showFrame.trans (showFrame_setP c _ _ _ _)).trans (showFrame_modCanvas c _ _), SMap.get_set_same pdef _ _ _,
    fun i hi => (SMap.get_set_other pdef _ ?_ _).trans (by rw [hparams]; rfl), hev.pending⟩
  · rw [State.canvas_modCanvas, if_pos rfl, show (v.setP (P.cv c P.OC_CLIP_COUNT) 0 (s.canvas c).clips).canvas c = v.canvas c from rfl, hcv]
  · have hne : ∀ i ∈ [P.CV_ENABLE, P.CV_RATE, P.CV_STATE], i ≠ P.OC_CLIP_COUNT := by decide
    have := hne i hi
    simp only [pkey, P.cv]
    omega

theorem rasterReady_unstaged {s : State} (h : s.ctl.staged = []) (c : Nat) : s.rasterReady c = false := by simp [State.rasterReady, h]

/-- The next show period of a canvas whose last one ended in `s1`. -/
theorem nextShow_eq {c t : Nat} {s s1 : State} (h : s.endShow c = s1) (hstaged : s1.ctl.staged = []) (hen : s1.cvp c P.CV_ENABLE 0 ≠ 0) :
    s.nextShow c t = (((s1.reach (.show c)).reach (.show c)).modCanvas c fun x => { x with prevStart := some x.start }).beginShow c
      (wrap32 ((s.canvas c).tag + 1)) ((s.canvas c).boundaryAt t).1 ((s.canvas c).boundaryAt t).2 := by
  have hraster : (s1.reach (.show c)).rasterReady c = false := rasterReady_unstaged (s := s1.reach (.show c)) hstaged c
  have hreach : (s1.reach (.show c)).applyReached (.show c) = (s1.reach (.show c)).reach (.show c) := applyReached_unstaged (s := s1.reach (.show c)) hstaged _
  have hen' : ((s1.reach (.show c)).reach (.show c)).cvp c P.CV_ENABLE 0 ≠ 0 := hen
  unfold State.nextShow
  dsimp only
  rw [h, hraster, hreach, if_neg (by decide), if_neg hen']

theorem nextShow_effect (c t : Nat) (s : State) (hc : c < 16) (hq : s.quietCanvas c) (hst : s.cvState c = 2) (hen : s.cvp c P.CV_ENABLE 0 ≠ 0)
    (hab : SMap.get (fun _ => 0) s.mw.abandoned c = 0) :
    ∃ u, exec (.showPeriodBoundary c t) s = .next u ∧ u.cvState c = 2 ∧ (u.canvas c).tag = ((s.canvas c).tag + 1) % 2 ^ 32
    ∧ ((u.canvas c).start, (u.canvas c).rem) = (s.canvas c).boundaryAt t ∧ (u.canvas c).prevStart = some (s.canvas c).start
    ∧ (u.canvas c).next = s.corrected (u.canvas c).start (s.showEnd c (u.canvas c).start (u.canvas c).rem).1
    ∧ (u.canvas c).nextRem = (s.showEnd c (u.canvas c).start (u.canvas c).rem).2 ∧ (u.canvas c).phase = 0 ∧ u.cvp c P.OC_CLIP_COUNT 0 = (s.canvas c).clips
    ∧ (u.canvas c).clips = 0 ∧ (u.canvas c).underruns = 0 ∧ (∀ n, n ≠ c → u.canvas n = s.canvas n) ∧ u.pipes = s.pipes ∧ u.cam = s.cam ∧ u.mw = s.mw
    ∧ u.ln = s.ln ∧ u.fr = s.fr ∧ u.au = s.au ∧ u.now = max s.now t ∧ u.ring = s.ring := by
  have hst' : (s.atLeast t).cvState c = 2 := hst
  obtain ⟨hq1, hcv1, hF1, hclip1, hkeep1, hpend1⟩ := endShow_quiet (s := s.atLeast t) hc hq hab
  have heq := nextShow_eq (t := t) (s := s.atLeast t) (c := c) rfl hq1.1 (by rw [hkeep1 _ (by decide)]; exact hen)
  generalize (s.atLeast t).endShow c = s1 at hq1 hcv1 hF1 hclip1 hkeep1 hpend1 heq
  have hq2 : (((s1.reach (.show c)).reach (.show c)).modCanvas c fun x => { x with prevStart := some x.start }).quietCanvas c :=
    State.quietCanvas.modCanvas (s := (s1.reach (.show c)).reach (.show c)) hq1 (fun x => { x with prevStart := some x.start }) fun _ => rfl
  have hcv2 : (((s1.reach (.show c)).reach (.show c)).modCanvas c fun x => { x with prevStart := some x.start }).canvas c
      = { s.canvas c with underruns := 0, clips := 0, prevStart := some (s.canvas c).start } := by
    rw [State.canvas_modCanvas, if_pos rfl, show ((s1.reach (.show c)).reach (.show c)).canvas c = s1.canvas c from rfl, hcv1]
    rfl
  have hF2 : ShowFrame c (s.atLeast t) (((s1.reach (.show c)).reach (.show c)).modCanvas c fun x => { x with prevStart := some x.start }) :=
    ((hF1.trans (showFrame_reach c _ _)).trans (showFrame_reach c _ _)).trans (showFrame_modCanvas c _ _)
  have hkeep2 : ∀ i, i ∈ [P.CV_ENABLE, P.CV_RATE, P.CV_STATE] →
      (((s1.reach (.show c)).reach (.show c)).modCanvas c fun x => { x with prevStart := some x.start }).cvp c i 0 = s.cvp c i 0 := hkeep1
  have hclip2 : (((s1.reach (.show c)).reach (.show c)).modCanvas c fun x => { x with prevStart := some x.start }).cvp c P.OC_CLIP_COUNT 0
      = (s.canvas c).clips := hclip1
  have hpend2 : (((s1.reach (.show c)).reach (.show c)).modCanvas c fun x => { x with prevStart := some x.start }).pending = s.pending := hpend1
  generalize ((s1.reach (.show c)).reach (.show c)).modCanvas c (fun x => { x with prevStart := some x.start }) = s2 at hq2 hcv2 hF2 hkeep2 hclip2 hpend2 heq
  obtain ⟨htime, hcvp, hframe, hpend⟩ := beginShow_effect hc hq2 (wrap32 ((s.canvas c).tag + 1)) ((s.canvas c).boundaryAt t).1 ((s.canvas c).boundaryAt t).2
  have hexec : exec (.showPeriodBoundary c t) s = .next (s2.beginShow c (wrap32 ((s.canvas c).tag + 1)) ((s.canvas c).boundaryAt t).1
      ((s.canvas c).boundaryAt t).2) := by
    refine exec_next (i := .showPeriodBoundary c t) rfl (by simp [Instr.wellFormed, hc]) ?_ (hpend.trans hpend2)
    simp only [hst']
    exact heq
  generalize s2.beginShow c (wrap32 ((s.canvas c).tag + 1)) ((s.canvas c).boundaryAt t).1 ((s.canvas c).boundaryAt t).2 = u at htime hcvp hframe hexec
  have hall := hF2.trans hframe
  have hring := hF2.2.2.2.2.2.2.2.2
  rw [corrected_congr hring, showEnd_congr hring (hkeep2 _ (by decide)), hcv2] at htime
  simp only [Canvas.timing, Prod.mk.injEq] at htime
  obtain ⟨⟨hstart, hrem, hnext, hnextRem⟩, ⟨htag, hphase, hprev⟩, hclips, hunder, -⟩ := htime
  refine ⟨u, hexec, (hcvp _ (by decide)).trans ((hkeep2 _ (by decide)).trans hst), htag, by rw [hstart, hrem], hprev, ?_, ?_, hphase,
    (hcvp _ (by decide)).trans hclip2, hclips, hunder, hall⟩
  · rw [hstart, hrem]; exact hnext
  · rw [hstart, hrem]; exact hnextRem

theorem showPeriodBoundary_stopped (c t : Nat) (s : State) (hc : c < 16) (h1 : s.cvState c ≠ 1) (h2 : s.cvState c ≠ 2) :
    exec (.showPeriodBoundary c t) s = .next (s.atLeast t) := by
  have h1' : (s.atLeast t).cvState c ≠ 1 := h1
  have h2' : (s.atLeast t).cvState c ≠ 2 := h2
  refine exec_next (i := .showPeriodBoundary c t) rfl (by simp [Instr.wellFormed, hc]) ?_ rfl
  dsimp only
  split
  · contradiction
  · contradiction
  · rfl

end Sys2Proof.Machine
end

section
/-! Phase boundaries, phase sync outputs, CANVAS_STATUS and LAYER_FLIP (R181, R186, R191, R192, R205, R206). -/

namespace Sys2Proof.Machine

/-! ### PHASE_BOUNDARY -/

theorem phaseBoundary_begins (c p : Nat) (s : State) (hc : c < 16) (hp : p < 4) (hst : s.cvState c = 2) (hph : p < s.cvp c P.CV_PHASES 0)
    (hin : ∀ i, i < 8 → s.inputActive c i = false) : ∃ u, exec (.phaseBoundary c p) s = .next u ∧ u.canvas c = { s.canvas c with
        phase := p, composing := !(s.canvas c).held, line := 0, offAt := [], lost := 0, selected := [], through := [], rows := [],
        lfsr := (List.range 8).map fun l => lfsrSeed (s.canvas c).tag c l p } ∧ (∀ n, n ≠ c → u.canvas n = s.canvas n)
      ∧ u = { s with now := max s.now (s.phaseTime c p / 65536), cv := u.cv } := by
  have hnone : ∀ t : State, (∀ i, i < 8 → t.inputActive c i = false) →
      (List.range 8).foldl (fun t i => if t.inputActive c i && (t.cvp c P.LI_PHASES i).testBit p then t.phaseInput c (s.phaseTime c p) i else t) t = t :=
    fun t ht => foldl_fixed_of_mem fun i hi => by simp [ht i (List.mem_range.1 hi)]
  refine ⟨(s.atLeast (s.phaseTime c p / subTick)).modCanvas c fun x => { x with
    phase := p, composing := !(s.canvas c).held, line := 0, offAt := [], lost := 0, selected := [], through := [], rows := []
    lfsr := (List.range 8).map fun l => lfsrSeed x.tag c l p },
    exec_next (i := .phaseBoundary c p) rfl (by simp [Instr.wellFormed, hc, hp]) ?_ rfl, ?_, fun n hn => ?_, rfl⟩
  · rw [if_neg (by omega)]
    dsimp only
    rw [hnone (State.modCanvas c _ (s.atLeast _)) fun i hi => hin i hi, ite_self]
  · rw [State.canvas_modCanvas, if_pos rfl]; rfl
  · rw [State.canvas_modCanvas, if_neg hn]; rfl

theorem phaseBoundary_idle (c p : Nat) (s : State) (hc : c < 16) (hp : p < 4) (h : s.cvState c ≠ 2 ∨ s.cvp c P.CV_PHASES 0 ≤ p) :
    exec (.phaseBoundary c p) s = .next s :=
  exec_next (i := .phaseBoundary c p) rfl (by simp [Instr.wellFormed, hc, hp]) (if_pos h) rfl

/-! ### PHASE_SYNC_OUT (R186) -/

theorem phaseSyncRise_rises (n p c : Nat) (s : State) (hn : n < 4) (hp : p < 4) (hcv : s.psoCanvas n = some c) (hst : s.cvState c = 2)
    (hpw : s.powerState ≠ 2) (hph : p < s.cvp c P.CV_PHASES 0) (hmask : (s.cvp c P.CV_PSO_PHASES n).testBit p = true)
    (hprev : (s.canvas c).prevStart = none) : ∃ u, exec (.phaseSyncRise n p) s = .next u
    ∧ u.cv.pso.testBit n = true ∧ (∀ m, m ≠ n → u.cv.pso.testBit m = s.cv.pso.testBit m)
    ∧ SMap.get (fun _ => (0, 0)) u.cv.psoRise n = ((s.phaseTime c p + 65535) / 65536 + s.cvp c P.CV_PSO_OFFSET n, s.cvp c P.CV_PSO_WIDTH n)
    ∧ u = { s with now := max s.now ((s.phaseTime c p + 65535) / 65536 + s.cvp c P.CV_PSO_OFFSET n), cv := { s.cv with pso := u.cv.pso, psoRise := u.cv.psoRise } } := by
  refine ⟨_, exec_next (i := .phaseSyncRise n p) (u := { s with
    now := max s.now ((s.phaseTime c p + 65535) / 65536 + s.cvp c P.CV_PSO_OFFSET n)
    cv := { s.cv with
      pso := setBit s.cv.pso n
      psoRise := SMap.set (fun _ => (0, 0)) s.cv.psoRise n ((s.phaseTime c p + 65535) / 65536 + s.cvp c P.CV_PSO_OFFSET n, s.cvp c P.CV_PSO_WIDTH n) } })
    rfl (by simp [Instr.wellFormed, hn, hp]) ?_ rfl, testBit_setBit_same _ _, fun m hm => setBit_same_other hm, SMap.get_set_same _ _ _ _, rfl⟩
  simp only [hcv]
  rw [if_pos ⟨hst, hpw, hph, hmask⟩]
  simp only [hprev, Option.map_none, State.riseAt, cdiv, subTick]
  rfl

theorem phaseSyncRise_idle (n p : Nat) (s : State) (hn : n < 4) (hp : p < 4)
    (h : s.powerState = 2 ∨ ∀ c, s.psoCanvas n = some c → s.cvState c ≠ 2 ∨ (s.cvp c P.CV_PSO_PHASES n).testBit p = false) :
    exec (.phaseSyncRise n p) s = .next s := by
  refine exec_next (i := .phaseSyncRise n p) rfl (by simp [Instr.wellFormed, hn, hp]) ?_ rfl
  cases hcv : s.psoCanvas n with
  | none => rfl
  | some c =>
    dsimp only
    refine if_neg fun ⟨hst, hpw, _, hmask⟩ => ?_
    rcases h with h | h
    · exact hpw h
    · rcases h c hcv with h | h
      · exact h hst
      · exact absurd (hmask.symm.trans h) (by decide)

theorem phaseSyncFall_falls (n t : Nat) (r : Nat × Nat) (s : State) (hn : n < 4) (hup : s.cv.pso.testBit n = true)
    (hr : SMap.get (fun _ => (0, 0)) s.cv.psoRise n = r) (ht : r.1 + r.2 ≤ t) :
    ∃ u, exec (.phaseSyncFall n t) s = .next u ∧ u.cv.pso.testBit n = false ∧ (∀ m, m ≠ n → u.cv.pso.testBit m = s.cv.pso.testBit m)
      ∧ u = { s with now := max s.now (r.1 + r.2), cv := { s.cv with pso := u.cv.pso } } := by
  subst hr
  exact ⟨_, exec_next (i := .phaseSyncFall n t) rfl (by simp [Instr.wellFormed, hn]) (if_pos ⟨hup, ht⟩) rfl, testBit_clrBit_same _ _,
    fun m hm => clrBit_same_other hm, rfl⟩

theorem phaseSyncFall_idle (n t : Nat) (r : Nat × Nat) (s : State) (hn : n < 4) (hr : SMap.get (fun _ => (0, 0)) s.cv.psoRise n = r)
    (h : s.cv.pso.testBit n = false ∨ t < r.1 + r.2) : exec (.phaseSyncFall n t) s = .next s := by
  subst hr
  refine exec_next (i := .phaseSyncFall n t) rfl (by simp [Instr.wellFormed, hn]) (if_neg fun ⟨h1, h2⟩ => ?_) rfl
  rcases h with h | h
  · exact absurd (h1.symm.trans h) (by decide)
  · omega

/-! ### CANVAS_STATUS (R206) -/

/-- A status whose first two bytes are `a` and `b`. -/
theorem status_firstBytes {a b r : Nat} (ha : a < 256) (hb : b < 256) {x1 x2 x3 x4 x5 x6 x7 x8 : Nat}
    (h : r = a + b <<< 8 + x1 <<< 16 + x2 <<< 32 + x3 <<< 64 + x4 <<< 80 + x5 <<< 96 + x6 <<< 128 + x7 <<< 160 + x8 <<< 192) :
    r % 2 ^ 8 = a ∧ r / 2 ^ 8 % 2 ^ 8 = b := by
  obtain ⟨k, hk⟩ : ∃ k, r = a + 256 * b + 65536 * k :=
    ⟨x1 + x2 * 2 ^ 16 + x3 * 2 ^ 48 + x4 * 2 ^ 64 + x5 * 2 ^ 80 + x6 * 2 ^ 112 + x7 * 2 ^ 144 + x8 * 2 ^ 176, by
      rw [h]; simp only [Nat.shiftLeft_eq]; ring⟩
  omega

theorem canvasStatusBody_eq {k : Call} {s : State} (hc : k.c.f 0 8 < 16) (hst : s.cvState (k.c.f 0 8) < 256) (hph : s.cvp (k.c.f 0 8) P.CV_PHASES 0 < 256) :
    ∃ r, canvasStatusBody k s = (s, .done cOK 32 r) ∧ r % 2 ^ 8 = s.cvState (k.c.f 0 8) ∧ r / 2 ^ 8 % 2 ^ 8 = s.cvp (k.c.f 0 8) P.CV_PHASES 0 :=
  ⟨_, if_neg (by omega), status_firstBytes hst hph rfl⟩

theorem canvasStatus_answers (c : Cmd) (s : State) (ha : s.accepts false 0x0302 c) (ho : c.operands 1 0) (hc : c.f 0 8 < 16) (hst : s.cvState (c.f 0 8) < 256)
    (hph : s.cvp (c.f 0 8) P.CV_PHASES 0 < 256) : ∃ t r, exec (.canvasStatus c) s = .next t ∧ Answered 0x0302 c 0 32 r t ∧ CommandOnly c s t
      ∧ r % 2 ^ 8 = s.cvState (c.f 0 8) ∧ r / 2 ^ 8 % 2 ^ 8 = s.cvp (c.f 0 8) P.CV_PHASES 0 := by
  have hst' : (s.entered canvasStatusSpec.op c).cvState (c.f 0 8) = s.cvState (c.f 0 8) := by simp
  have hph' : (s.entered canvasStatusSpec.op c).cvp (c.f 0 8) P.CV_PHASES 0 = s.cvp (c.f 0 8) P.CV_PHASES 0 := by simp
  obtain ⟨r, hbody, hr1, hr2⟩ := canvasStatusBody_eq (k := { c := c, tk := s.newTicket, priv := s.privOf c }) hc (hst'.trans_lt hst) (hph'.trans_lt hph)
  obtain ⟨t, ht, hans, honly⟩ := completes_reading (i := .canvasStatus c) (spec := canvasStatusSpec) (body := canvasStatusBody) (c := c) (s := s)
    (code := cOK) ha.1.1 ha (by simp [canvasStatusSpec, ho.1]) (by simp [canvasStatusSpec]) (fun _ => rfl) (by decide) hbody
  exact ⟨t, r, ht, hans, honly, hr1.trans hst', hr2.trans hph'⟩

theorem canvasStatus_badParam (c : Cmd) (s : State) (ha : s.accepts false 0x0302 c) (ho : c.operands 1 0) (hc : 16 ≤ c.f 0 8) :
    ∃ t, exec (.canvasStatus c) s = .next t ∧ Answered 0x0302 c 4 0 0 t ∧ CommandOnly c s t :=
  completes_reading (i := .canvasStatus c) (spec := canvasStatusSpec) (body := canvasStatusBody) ha.1.1 ha (by simp [canvasStatusSpec, ho.1])
    (by simp [canvasStatusSpec]) (fun _ => rfl) (by decide) (if_pos hc)

/-! ### LAYER_FLIP (R191, R192, R205) -/

/-- The layers of a mask of one bit. -/
theorem maskLayers_one {l : Nat} (hl : l < 8) : ((List.range 8).filter fun k => (1 <<< l).testBit k) = [l] := by
  have : ∀ l, l < 8 → ((List.range 8).filter fun k => (1 <<< l).testBit k) = [l] := by decide
  exact this l hl

theorem putParams_congr {s t : State} (h : t.params = s.params) (l : List (Nat × Nat × Nat)) : (t.putParams l).params = (s.putParams l).params := by
  induction l generalizing s t with
  | nil => exact h
  | cons e l ih => exact ih (congrArg (fun p => SMap.set pdef p (pkey e.1 e.2.1) e.2.2) h)

theorem preview_congr {s t : State} (h : t.params = s.params) (hs : t.ctl.staged = s.ctl.staged) : t.preview.params = s.preview.params := by
  have key : ∀ (l : List Staged) (s t : State), t.params = s.params →
      (l.foldl (fun t g => t.putParams g.writes) t).params = (l.foldl (fun t g => t.putParams g.writes) s).params := by
    intro l
    induction l with
    | nil => exact fun _ _ h => h
    | cons g l ih => exact fun s t h => ih _ _ (putParams_congr h g.writes)
  unfold State.preview
  rw [hs]
  exact key _ s t h

/-- The rule of R191 reads parameters only. -/
theorem layerRange_congr {s t : State} (h : t.params = s.params) (c l id : Nat) : t.layerRange c l id = s.layerRange c l id := by
  simp only [State.layerRange, State.getP, h]

/-- The staged values are the same once a command is in progress. -/
theorem layerRange_entered (s : State) (op : Nat) (c : Cmd) (w : List (Nat × Nat × Nat)) (n l id : Nat) :
    State.layerRange ((s.entered op c).preview.putParams w) n l id = State.layerRange (s.preview.putParams w) n l id :=
  layerRange_congr (putParams_congr (preview_congr (State.entered_params s op c) (State.entered_ctl_staged s op c)) w) n l id

/-- A flip of layer `l`, of which ticket `tk` is owed a reply: the base is staged for the canvas's boundary, and claimed. -/
def State.flipStagedFor (win c l base tk : Nat) (s : State) : State :=
  let g : Staged := { ats := [s.canvasBoundary c], what := .params [(P.cv c P.LY_BASE, l, base)], ticket := none, left := 0 }
  ((s.stage [g]).claim win [pkey (P.cv c P.LY_BASE) l]).modCanvas c fun x => { x with flips := x.flips ++ [(l, base, tk)] }

theorem flipStagedFor_effect (win c l base tk : Nat) (s : State) : (s.flipStagedFor win c l base tk).params = s.params
    ∧ (∃ g ∈ (s.flipStagedFor win c l base tk).ctl.staged, g.ats = [s.canvasBoundary c] ∧ g.what = .params [(P.cv c P.LY_BASE, l, base)])
    ∧ ((s.flipStagedFor win c l base tk).canvas c).flips = (s.canvas c).flips ++ [(l, base, tk)]
    ∧ s.flipStagedFor win c l base tk = { s with cv := (s.flipStagedFor win c l base tk).cv, ctl := (s.flipStagedFor win c l base tk).ctl } := by
  refine ⟨rfl, ⟨_, List.mem_append_right _ List.mem_cons_self, rfl, rfl⟩, ?_, rfl⟩
  unfold State.flipStagedFor
  rw [State.canvas_modCanvas, if_pos rfl]
  rfl

theorem runs_flipStagedFor (s : State) (op : Nat) (c : Cmd) (win n l base tk : Nat) :
    Runs s op c (s.flipStagedFor win n l base tk) ((s.entered op c).flipStagedFor win n l base tk) :=
  runs_of_comm (State.flipStagedFor win n l base tk) (fun _ _ _ _ => rfl) rfl rfl rfl rfl

/-- LAYER_FLIP of one layer whose new base satisfies R191 and is not claimed by another window. -/
theorem layerFlipBody_one {k : Call} {s : State} {l : Nat} (hc : k.c.f 0 8 < 16) (hl : l < 8) (hmask : k.c.f 8 8 = 1 <<< l)
    (hrange : State.layerRange (s.preview.putParams [(P.cv (k.c.f 0 8) P.LY_BASE, l, k.c.f (32 + 64 * l) 64)]) (k.c.f 0 8) l P.LY_BASE = true)
    (hclaim : s.claimedByOther k.c.win (pkey (P.cv (k.c.f 0 8) P.LY_BASE) l) = false) :
    layerFlipBody k s = (s.flipStagedFor k.c.win (k.c.f 0 8) l (k.c.f (32 + 64 * l) 64) (if k.c.immediate then 0 else k.tk),
      if k.c.immediate then .ok else .wait) := by
  have hne : (1 : Nat) <<< l ≠ 0 := by rw [Nat.shiftLeft_eq, Nat.one_mul]; positivity
  simp only [layerFlipBody, hmask, maskLayers_one hl, List.map_cons, List.map_nil, List.any_cons, List.any_nil, hrange, hclaim, Bool.not_true, Bool.or_false,
    Bool.false_eq_true, if_false]
  rw [if_neg (by omega)]
  rfl

section
variable {c : Cmd} {l : Nat} {s : State} (ha : s.accepts false 0x0301 c) (ho : c.operands 68 0xFFFF0000) (hc : c.f 0 8 < 16) (hl : l < 8)
  (hmask : c.f 8 8 = 1 <<< l)
  (hrange : State.layerRange (s.preview.putParams [(P.cv (c.f 0 8) P.LY_BASE, l, c.f (32 + 64 * l) 64)]) (c.f 0 8) l P.LY_BASE = true)
  (hclaim : s.claimedByOther c.win (pkey (P.cv (c.f 0 8) P.LY_BASE) l) = false)

include hc hl hmask hrange hclaim in
theorem layerFlipBody_entered : layerFlipBody { c := c, tk := s.newTicket, priv := s.privOf c } (s.entered layerFlipSpec.op c)
    = ((s.entered layerFlipSpec.op c).flipStagedFor c.win (c.f 0 8) l (c.f (32 + 64 * l) 64) (if c.immediate then 0 else s.newTicket),
      if c.immediate then .ok else .wait) :=
  layerFlipBody_one (k := { c := c, tk := s.newTicket, priv := s.privOf c }) hc hl hmask (by rw [layerRange_entered]; exact hrange)
    (by rw [entered_claimedByOther]; exact hclaim)

include ha ho hc hl hmask hrange hclaim in
theorem layerFlip_waits (himm : c.immediate = false) : ∃ t, exec (.layerFlip c) s = .next t ∧ Unanswered 0x0301 c t ∧ t.params = s.params
    ∧ (∃ g ∈ t.ctl.staged, g.ats = [s.canvasBoundary (c.f 0 8)] ∧ g.what = .params [(P.cv (c.f 0 8) P.LY_BASE, l, c.f (32 + 64 * l) 64)])
    ∧ (t.canvas (c.f 0 8)).flips = (s.canvas (c.f 0 8)).flips ++ [(l, c.f (32 + 64 * l) 64, s.newTicket)]
    ∧ t = { s with cv := t.cv, ctl := t.ctl } := by
  have hbody := layerFlipBody_entered hc hl hmask hrange hclaim
  simp only [himm, Bool.false_eq_true, if_false] at hbody
  obtain ⟨hpar, hstaged, hflips, hframe⟩ := flipStagedFor_effect c.win (c.f 0 8) l (c.f (32 + 64 * l) 64) s.newTicket s
  obtain ⟨t, ht, ⟨f, hf, hcmd, hop, hstart, -⟩, hbusy, hrest, -⟩ := Runs.waits (i := .layerFlip c) (spec := layerFlipSpec) (body := layerFlipBody) ha.1.1 ha
    (by simp [layerFlipSpec, ho.1]) (by rw [ho.1]; exact ho.2) (fun _ => rfl) hbody (runs_flipStagedFor s _ c _ _ _ _ _) rfl rfl
  generalize s.flipStagedFor c.win (c.f 0 8) l (c.f (32 + 64 * l) 64) s.newTicket = e at hpar hstaged hflips hframe hf hrest
  refine ⟨t, ht, ⟨⟨f, by rw [hf]; exact List.mem_append_right _ List.mem_cons_self, hcmd, hop, hstart⟩, hbusy⟩, ?_, ?_, ?_, ?_⟩
  · rw [hrest]; exact hpar
  · rw [hrest]; exact hstaged
  · rw [hrest]; exact hflips
  · rw [hrest, hframe]

include ha ho hc hl hmask hrange hclaim in
theorem layerFlip_immediate (himm : c.immediate = true) : ∃ t, exec (.layerFlip c) s = .next t ∧ Answered 0x0301 c 0 0 0 t ∧ t.params = s.params
    ∧ (∃ g ∈ t.ctl.staged, g.ats = [s.canvasBoundary (c.f 0 8)] ∧ g.what = .params [(P.cv (c.f 0 8) P.LY_BASE, l, c.f (32 + 64 * l) 64)])
    ∧ (t.canvas (c.f 0 8)).flips = (s.canvas (c.f 0 8)).flips ++ [(l, c.f (32 + 64 * l) 64, 0)] := by
  have hbody := layerFlipBody_entered hc hl hmask hrange hclaim
  simp only [himm, if_true] at hbody
  obtain ⟨hpar, hstaged, hflips, -⟩ := flipStagedFor_effect c.win (c.f 0 8) l (c.f (32 + 64 * l) 64) 0 s
  obtain ⟨t, ht, hans, hrest, -⟩ := Runs.completes (i := .layerFlip c) (spec := layerFlipSpec) (body := layerFlipBody) (c := c) (s := s)
    (code := cOK) (len := 0) (r := 0) ha.1.1 ha
    (e := s.flipStagedFor c.win (c.f 0 8) l (c.f (32 + 64 * l) 64) 0)
    (by simp [layerFlipSpec, ho.1]) (by rw [ho.1]; exact ho.2) (fun _ => rfl) (by rw [hbody]) (by decide)
    (by rw [hbody]; exact runs_flipStagedFor s _ c _ _ _ _ _) rfl
  refine ⟨t, ht, hans, ?_, ?_, ?_⟩
  · rw [hrest]; exact hpar
  · rw [hrest]; exact hstaged
  · rw [hrest]; exact hflips

end

theorem layerFlip_range (c : Cmd) (l : Nat) (s : State) (ha : s.accepts false 0x0301 c) (ho : c.operands 68 0xFFFF0000) (hc : c.f 0 8 < 16) (hl : l < 8)
    (hmask : c.f 8 8 = 1 <<< l)
    (hrange : State.layerRange (s.preview.putParams [(P.cv (c.f 0 8) P.LY_BASE, l, c.f (32 + 64 * l) 64)]) (c.f 0 8) l P.LY_BASE = false) :
    ∃ t, exec (.layerFlip c) s = .next t ∧ Answered 0x0301 c 0x39 0 0 t ∧ CommandOnly c s t := by
  have hne : (1 : Nat) <<< l ≠ 0 := by rw [Nat.shiftLeft_eq, Nat.one_mul]; positivity
  refine completes_reading (i := .layerFlip c) (spec := layerFlipSpec) (body := layerFlipBody) ha.1.1 ha (by simp [layerFlipSpec, ho.1])
    (by rw [ho.1]; exact ho.2) (fun _ => rfl) (by decide) ?_
  simp only [layerFlipBody, hmask, maskLayers_one hl, List.map_cons, List.map_nil, List.any_cons, List.any_nil, layerRange_entered, hrange, Bool.not_false,
    Bool.or_false, if_true]
  exact if_neg (by omega)

theorem layerFlip_badParam (c : Cmd) (s : State) (ha : s.accepts false 0x0301 c) (ho : c.operands 68 0xFFFF0000) (hbad : 16 ≤ c.f 0 8 ∨ c.f 8 8 = 0) :
    ∃ t, exec (.layerFlip c) s = .next t ∧ Answered 0x0301 c 4 0 0 t ∧ CommandOnly c s t :=
  completes_reading (i := .layerFlip c) (spec := layerFlipSpec) (body := layerFlipBody) ha.1.1 ha (by simp [layerFlipSpec, ho.1])
    (by rw [ho.1]; exact ho.2) (fun _ => rfl) (by decide) (if_pos hbad)

end Sys2Proof.Machine

open Sys2Proof Sys2Proof.Machine in
/-- Settles O26: a show period begins through steps that leave the canvas's timing (`beginShow_showStep`), and a flip only stages its base
(`flipStagedFor_effect`). -/
theorem canvasesAdvanceAndFlip : Obligations.CanvasesAdvanceAndFlip := by
  unfold Obligations.CanvasesAdvanceAndFlip
  exact ⟨⟨firstShow_effect, nextShow_effect, showPeriodBoundary_stopped, phaseBoundary_begins, phaseBoundary_idle, canvasStatus_answers, canvasStatus_badParam⟩,
    fun _ _ _ ha ho hc hl hmask hrange hclaim => ⟨layerFlip_waits ha ho hc hl hmask hrange hclaim, layerFlip_immediate ha ho hc hl hmask hrange hclaim⟩,
    layerFlip_range, layerFlip_badParam, phaseSyncRise_rises, phaseSyncRise_idle, phaseSyncFall_falls, phaseSyncFall_idle⟩
end

section
/-! Lines of a phase raster, a layer's fetches, the end of a raster, and frame store buffers (R172, R179, R185, R187, R197 to R202). -/

namespace Sys2Proof.Machine

/-! ### Sources that the stacking order does not name -/

/-- A stacking order that names no source. -/
def State.noneNamed (s : State) (c : Nat) : Prop := ∀ i, i < 16 → 16 ≤ s.cvp c P.CV_ZORDER i

theorem State.noneNamed.named {s : State} {c : Nat} (h : s.noneNamed c) {src : Nat} (hsrc : src < 16) : s.named c src = false := by
  unfold State.named
  rw [List.any_eq_false]
  intro i hi
  have := h i (List.mem_range.1 hi)
  simp only [beq_iff_eq]
  omega

theorem State.noneNamed.layerOf {s : State} {c : Nat} (h : s.noneNamed c) {l : Nat} (hl : l < 8) (pic : Nat → Option (Nat × Nat)) :
    s.layerOf c l pic = none := by
  unfold State.layerOf
  rw [h.named (by omega)]
  dsimp only
  split
  · rfl
  · exact if_pos (by simp)

theorem State.noneNamed.inputActive {s : State} {c : Nat} (h : s.noneNamed c) {i : Nat} (hi : i < 8) : s.inputActive c i = false := by
  unfold State.inputActive
  rw [h.named (by omega)]
  simp

theorem State.noneNamed.sourceRect {s : State} {c : Nat} (h : s.noneNamed c) {src : Nat} (hsrc : src < 16) (p : Nat) (pics : Nat → Option (Nat × Nat)) :
    s.sourceRect c p src pics = none := by
  unfold State.sourceRect
  by_cases h8 : src < 8
  · rw [if_pos h8, h.layerOf h8]
  · have hi : s.inputActive c (src - 8) = false := h.inputActive (by omega)
    simp [h8, hi]

theorem State.noneNamed.missingPixel {s : State} {c : Nat} (h : s.noneNamed c) {src : Nat} (hsrc : src < 16) (p y : Nat) (late : List (Nat × Nat))
    (pics : Nat → Option (Nat × Nat)) (lost : Nat) : s.missingPixel c p src y late pics lost = none := by
  unfold State.missingPixel
  rw [h.sourceRect hsrc]

/-- With no source in the stacking order, the background shows at every pixel. -/
theorem State.noneNamed.composePixel {s : State} {c : Nat} (h : s.noneNamed c) (p x y : Nat) (pics : Nat → Option (Nat × Nat)) (off : SMap Nat)
    (lost : Nat) : s.composePixel c p x y pics off lost = Rgb.of fun k => s.cvp c P.CV_BACKGROUND k := by
  unfold State.composePixel
  exact foldl_fixed_of_mem fun i hi => if_pos (h i (List.mem_range.1 hi))

/-! ### CANVAS_LINE (R179, R199 to R202) -/

theorem captureProbes_none {s : State} (h : ∀ k, k < 4 → s.probe k = none) (r : Probe → Option Nat) : s.captureProbes r = s := by
  unfold State.captureProbes
  exact foldl_fixed_of_mem fun k hk => by rw [h k (List.mem_range.1 hk)]

/-- The line events of a phase whose match events are not enabled. -/
theorem lineEvents_none {s : State} {c p : Nat} (h : s.eventEnabled c 1 p = false) (y : Nat) :
    (List.range 2).foldl (fun t m => if t.cvp c P.CV_LINE_MATCH m == y && t.eventEnabled c 1 p then t.postCv 0x11 c (p + at' 2 m + at' 16 y) else t) s
      = s :=
  foldl_fixed_of_mem fun m _ => by rw [h, Bool.and_false]; rfl

/-- A line that is composed: it is the next one expected, and its pixels are kept. -/
def State.lineComposed (c p y : Nat) (s : State) : State :=
  ((s.atLeast (s.composeTime c p y / subTick)).modCanvas c fun x => { x with line := y + 1 }).modCanvas c fun k =>
    { k with rows := SMap.ins y (List.replicate (s.cvp c P.CV_WIDTH 0) (Rgb.of fun k => s.cvp c P.CV_BACKGROUND k)) k.rows
             fetched := k.fetched.filter fun e => e.1 % 65536 != y }

theorem canvasLine_background {c p y : Nat} {s : State} {pics : Nat → Option (Nat × Nat)} (hy : y < s.cvp c P.CV_HEIGHT 0) (hz : s.noneNamed c)
    (hev : s.eventEnabled c 1 p = false) (hprobe : ∀ k, k < 4 → s.probe k = none) :
    s.canvasLine c p y [] pics = (s.lineComposed c p y).outputLine c p y (List.replicate (s.cvp c P.CV_WIDTH 0) (Rgb.of fun k => s.cvp c P.CV_BACKGROUND k)) := by
  have hz0 : ((s.atLeast (s.composeTime c p y / subTick)).modCanvas c fun x => { x with line := y + 1 }).noneNamed c := hz
  have hev0 : ((s.atLeast (s.composeTime c p y / subTick)).modCanvas c fun x => { x with line := y + 1 }).eventEnabled c 1 p = false := hev
  unfold State.lineComposed
  unfold State.canvasLine
  dsimp only
  generalize hs0 : (s.atLeast (s.composeTime c p y / subTick)).modCanvas c (fun x => { x with line := y + 1 }) = s0 at hz0 hev0
  have hpar : ∀ i j, s0.cvp c i j = s.cvp c i j := fun i j => by rw [← hs0]; rfl
  have hpr : s0.colour = s.colour := by rw [← hs0]; rfl
  rw [lineEvents_none hev0, if_neg (by omega : ¬ s.cvp c P.CV_HEIGHT 0 ≤ y), decide_eq_false (by omega : ¬ y = s.cvp c P.CV_HEIGHT 0)]
  simp only [Bool.false_and, Bool.false_eq_true, if_false]
  have hthru : ((List.range 8).filter fun i => s0.inputActive c i && (s0.cvp c P.LI_PHASES i).testBit p && s0.cvp c P.LI_MODE i == 1
      && s0.cvp c P.LI_POS i / 65536 == y) = [] := by
    rw [List.filter_eq_nil_iff]
    intro i hi
    rw [hz0.inputActive (List.mem_range.1 hi)]
    simp
  have hmiss : ∀ lost, ((List.range 16).filterMap fun src => (s0.missingPixel c p src y [] pics lost).map fun x => (x / 8, src, x)) = [] := fun lost => by
    rw [List.filterMap_eq_nil_iff]
    intro src hsrc
    rw [hz0.missingPixel (List.mem_range.1 hsrc)]
    rfl
  rw [hthru]
  dsimp only [List.foldl_nil]
  rw [hmiss]
  simp only [List.mergeSort_nil, List.foldl_nil, hz0.composePixel, hpar, List.map_const', List.length_range]
  exact captureProbes_none (fun k hk => by rw [← hprobe k hk]; exact congrArg (fun x : Colour => SMap.get (fun _ => none) x.probes k) hpr) _

/-- A line of a canvas that no tile shows only counts clipped pixels and moves the dither on. -/
theorem outputLine_unmapped {c : Nat} {s : State} (h : s.portMap c = []) (p y : Nat) (row : List Rgb) :
    ∃ lf k, s.outputLine c p y row = s.modCanvas c fun x => { x with lfsr := lf, clips := k } := by
  unfold State.outputLine
  simp only [h, List.filter_nil, List.foldl_nil]
  exact ⟨(s.lineDither c p y row.length).2, _, rfl⟩

theorem canvasLine_composes (c p y : Nat) (s : State) (hc : c < 16) (hp : p < 4) (hst : s.cvState c = 2) (hcomp : (s.canvas c).composing = true)
    (hph : (s.canvas c).phase = p) (htot : y < s.cvp c P.CV_TOTAL_LINES 0) (hy : y < s.cvp c P.CV_HEIGHT 0)
    (hz : ∀ i, i < 16 → 16 ≤ s.cvp c P.CV_ZORDER i) (hev : s.eventEnabled c 1 p = false) (hmap : s.portMap c = []) (hprobe : ∀ k, k < 4 → s.probe k = none) :
    ∃ u, exec (.canvasLine c p y [] []) s = .next u ∧ (u.canvas c).line = y + 1
      ∧ SMap.find y (u.canvas c).rows = some (List.replicate (s.cvp c P.CV_WIDTH 0) (Rgb.of fun k => s.cvp c P.CV_BACKGROUND k))
      ∧ (∀ z, z ≠ y → SMap.find z (u.canvas c).rows = SMap.find z (s.canvas c).rows) ∧ (u.canvas c).underruns = (s.canvas c).underruns
      ∧ (u.canvas c).out = (s.canvas c).out ∧ (∀ n, n ≠ c → u.canvas n = s.canvas n) ∧ u = { s with now := u.now, cv := u.cv } := by
  obtain ⟨lf, k, hout⟩ := outputLine_unmapped (s := s.lineComposed c p y) hmap p y (List.replicate (s.cvp c P.CV_WIDTH 0) (Rgb.of fun k => s.cvp c P.CV_BACKGROUND k))
  refine ⟨_, exec_next (i := .canvasLine c p y [] []) rfl (by simp [Instr.wellFormed, hc, hp])
    ((if_pos ⟨hst, hcomp, hph, htot⟩).trans ((canvasLine_background (pics := unpackPicture) hy hz hev hprobe).trans hout)) rfl, ?_⟩
  have hcan : ∀ n, ((s.lineComposed c p y).modCanvas c fun x => { x with lfsr := lf, clips := k }).canvas n = if n = c then
      { s.canvas c with line := y + 1, lfsr := lf, clips := k, fetched := (s.canvas c).fetched.filter fun e => e.1 % 65536 != y
                        rows := SMap.ins y (List.replicate (s.cvp c P.CV_WIDTH 0) (Rgb.of fun k => s.cvp c P.CV_BACKGROUND k)) (s.canvas c).rows } else s.canvas n := by
    intro n
    unfold State.lineComposed
    simp only [State.canvas_modCanvas]
    split <;> rfl
  refine ⟨?_, ?_, fun z hz => ?_, ?_, ?_, fun n hn => ?_, rfl⟩
  · rw [hcan, if_pos rfl]
  · rw [hcan, if_pos rfl]; exact SMap.find_ins_same _ _ _
  · rw [hcan, if_pos rfl]; exact SMap.find_ins_other hz _ _
  · rw [hcan, if_pos rfl]
  · rw [hcan, if_pos rfl]
  · rw [hcan, if_neg hn]

theorem canvasLine_idle (c p y : Nat) (late : List (Nat × Nat)) (bad : List Nat) (s : State) (hc : c < 16) (hp : p < 4) (hbad : ∀ n ∈ bad, n < 1048576)
    (h : s.cvState c ≠ 2 ∨ (s.canvas c).composing = false ∨ (s.canvas c).phase ≠ p ∨ s.cvp c P.CV_TOTAL_LINES 0 ≤ y) :
    exec (.canvasLine c p y late bad) s = .next s := by
  refine exec_next (i := .canvasLine c p y late bad) rfl (by simp [Instr.wellFormed, hc, hp]; exact hbad) (if_neg fun ⟨h1, h2, h3, h4⟩ => ?_) rfl
  rcases h with h | h | h | h
  · exact h h1
  · exact absurd (h.symm.trans h2) (by decide)
  · exact h h3
  · omega

/-! ### Uniformity cells found bad (R172) -/

/-- In the lines below the canvas nothing is composed. -/
theorem canvasLine_below {c p y : Nat} {s : State} (hy : s.cvp c P.CV_HEIGHT 0 < y) (hev : s.eventEnabled c 1 p = false) (late : List (Nat × Nat))
    (pics : Nat → Option (Nat × Nat)) : s.canvasLine c p y late pics
      = (s.atLeast (s.composeTime c p y / subTick)).modCanvas c fun x => { x with line := y + 1 } := by
  have hev0 : ((s.atLeast (s.composeTime c p y / subTick)).modCanvas c fun x => { x with line := y + 1 }).eventEnabled c 1 p = false := hev
  unfold State.canvasLine
  dsimp only
  rw [lineEvents_none hev0, if_pos (by omega : s.cvp c P.CV_HEIGHT 0 ≤ y), decide_eq_false (by omega : ¬ y = s.cvp c P.CV_HEIGHT 0)]
  rfl

theorem badCellsFound_new {s : State} {n : Nat} (h : n ∉ s.colour.badCells) (c : Nat) : s.badCellsFound c [n]
    = ({ s with colour := { s.colour with badCells := s.colour.badCells ++ [n] } } : State).logFault 0x5 c 0x0503 0 := by
  have hl : ([n].eraseDups.filter fun n => !s.colour.badCells.contains n) = [n] := by simp [List.eraseDups_cons, h]
  unfold State.badCellsFound
  rw [hl]
  rfl

theorem canvasLine_badCell (c p y n : Nat) (s : State) (hc : c < 16) (hp : p < 4) (hst : s.cvState c = 2) (hcomp : (s.canvas c).composing = true)
    (hph : (s.canvas c).phase = p) (htot : y < s.cvp c P.CV_TOTAL_LINES 0) (hy : s.cvp c P.CV_HEIGHT 0 < y) (hev : s.eventEnabled c 1 p = false)
    (hn : n < 1048576) (hnew : n ∉ s.colour.badCells) :
    ∃ u, exec (.canvasLine c p y [] [n]) s = .next u ∧ u.colour = { s.colour with badCells := s.colour.badCells ++ [n] }
      ∧ (u.ctl.faultLog.getLast?.map fun e => (e.seq, e.cls, e.idx, e.code)) = some (s.ctl.faultNext, 0x5, c, 0x0503) ∧ u.params = s.params
      ∧ (∀ v, v < s.ctl.views.length → (u.view v).fault = true) := by
  obtain ⟨hlog, -, hfault, -, -, hctl⟩ := logFault_effect { s with colour := { s.colour with badCells := s.colour.badCells ++ [n] } } 0x5 c 0x0503 0
  have hfound := badCellsFound_new hnew c
  generalize ({ s with colour := { s.colour with badCells := s.colour.badCells ++ [n] } } : State).logFault 0x5 c 0x0503 0 = e at hlog hfault hctl hfound
  obtain ⟨x, rfl⟩ : ∃ x, e = { s with ctl := x, colour := { s.colour with badCells := s.colour.badCells ++ [n] } } := ⟨_, hctl⟩
  have hline := canvasLine_below (c := c) (p := p) (y := y) (s := { s with ctl := x, colour := { s.colour with badCells := s.colour.badCells ++ [n] } })
    hy hev [] unpackPicture
  refine ⟨_, exec_next (i := .canvasLine c p y [] [n]) rfl (by simp [Instr.wellFormed, hc, hp, hn])
    ((if_pos ⟨hst, hcomp, hph, htot⟩).trans ((congrArg (State.canvasLine c p y [] unpackPicture) hfound).trans hline))
    rfl, rfl, ?_, rfl, hfault⟩
  have hlog' : x.faultLog = _ := hlog
  exact (congrArg (fun l : List FaultEntry => l.getLast?.map fun e => (e.seq, e.cls, e.idx, e.code)) hlog').trans (by rw [List.getLast?_concat])

/-! ### LAYER_FETCH (R200) -/

theorem layerFetch_idle (c src y : Nat) (s : State) (hc : c < 16) (hsrc : src < 16) (h : s.fetchAt c src y = none) :
    exec (.layerFetch c src y) s = .next s :=
  exec_next (i := .layerFetch c src y) rfl (by simp [Instr.wellFormed, hc, hsrc]) (by rw [h]) rfl

/-- A fetch that belongs to the raster in progress reads once its time has come. -/
theorem layerFetch_inTime {c src y t : Nat} {s u : State} (hc : c < 16) (hsrc : src < 16) (h : s.fetchAt c src y = some (t, false))
    (hu : (s.atLeast (t / subTick)).fetchLine c src y unpackPicture = u) (hp : u.pending = s.pending) : exec (.layerFetch c src y) s = .next u :=
  exec_next (i := .layerFetch c src y) rfl (by simp [Instr.wellFormed, hc, hsrc]) (by rw [h]; exact (if_neg (by simp)).trans hu) hp

theorem demandRead_flawless {s : State} (h : s.dram.flaws = []) (a n : Nat) : s.demandRead a n = s := by
  unfold State.demandRead
  rw [h]
  rfl

/-- Bytes that can all be read are all mapped. -/
theorem firstUnmapped_of_goodBytes {s : State} {a n : Nat} (h : s.goodBytes a n = n) : s.firstUnmapped a n = none := by
  cases hu : s.firstUnmapped a n with
  | none => rfl
  | some o =>
    have ho : o < n := by
      have := List.mem_of_find?_eq_some hu
      simpa using (List.mem_filter.1 this).2
    unfold State.goodBytes at h
    rw [hu, Option.getD_some] at h
    omega

theorem layerFetch_reads (c l y w : Nat) (k : Layer) (s : State) (hc : c < 16) (hl : l < 8) (hk : s.layerOf c l (s.pictureOf c unpackPicture) = some k)
    (hy : k.y ≤ y) (hyh : y < k.y + k.h) (hat : s.fetchAt c l y = some (w, false)) (hflaws : s.dram.flaws = [])
    (hgood : s.goodBytes (k.base + (y - k.y) * k.stride) (layerBpp k.format * (min (k.x + k.w) (s.cvp c P.CV_WIDTH 0) - k.x))
      = layerBpp k.format * (min (k.x + k.w) (s.cvp c P.CV_WIDTH 0) - k.x)) :
    ∃ u, exec (.layerFetch c l y) s = .next u ∧ SMap.find (l * 65536 + y) (u.canvas c).fetched
        = some (s.devRead (k.base + (y - k.y) * k.stride) (layerBpp k.format * (min (k.x + k.w) (s.cvp c P.CV_WIDTH 0) - k.x)))
      ∧ (∀ j, j ≠ l * 65536 + y → SMap.find j (u.canvas c).fetched = SMap.find j (s.canvas c).fetched) ∧ (∀ n, n ≠ c → u.canvas n = s.canvas n)
      ∧ u = { s with now := max s.now (w / 65536), cv := u.cv } := by
  have hfetch : State.fetchLine c l y unpackPicture (s.atLeast (w / subTick)) = (s.atLeast (w / subTick)).modCanvas c fun x => { x with
      fetched := SMap.ins (l * 65536 + y) (s.devRead (k.base + (y - k.y) * k.stride)
        (layerBpp k.format * (min (k.x + k.w) (s.cvp c P.CV_WIDTH 0) - k.x))) x.fetched } := by
    have hk' : (s.atLeast (w / subTick)).layerOf c l ((s.atLeast (w / subTick)).pictureOf c unpackPicture) = some k := hk
    unfold State.fetchLine
    rw [if_pos hl, hk']
    dsimp only
    rw [if_neg (by omega), demandRead_flawless (s := s.atLeast (w / subTick)) hflaws]
    have hun : (s.atLeast (w / subTick)).firstUnmapped (k.base + (y - k.y) * k.stride)
        (layerBpp k.format * (min (k.x + k.w) ((s.atLeast (w / subTick)).cvp c P.CV_WIDTH 0) - k.x)) = none := firstUnmapped_of_goodBytes hgood
    have hg : (s.atLeast (w / subTick)).goodBytes (k.base + (y - k.y) * k.stride)
        (layerBpp k.format * (min (k.x + k.w) ((s.atLeast (w / subTick)).cvp c P.CV_WIDTH 0) - k.x)) = _ := hgood
    rw [hun, hg]
    rfl
  refine ⟨_, layerFetch_inTime hc (by omega) hat hfetch rfl, ?_, fun j hj => ?_, fun n hn => ?_, rfl⟩
  · rw [State.canvas_modCanvas, if_pos rfl]; exact SMap.find_ins_same _ _ _
  · rw [State.canvas_modCanvas, if_pos rfl]; exact SMap.find_ins_other hj _ _
  · rw [State.canvas_modCanvas, if_neg hn]; rfl

/-! ### Frame store buffers (R197) -/

theorem store_setStore (q p : Nat) (x : Option FrameStore) (s : State) : (s.setStore p x).store q = if q = p then x else s.store q := by
  unfold State.store State.setStore
  split
  next h => rw [h]; exact SMap.get_set_same _ _ _ _
  next h => exact SMap.get_set_other _ _ h _

theorem frameStoreComplete_completes (p t b : Nat) (x : FrameStore) (s : State) (hp : p < 8) (hx : s.store p = some x) (hb : x.writing = some b) :
    ∃ u, exec (.frameStoreComplete p t) s = .next u
      ∧ u.store p = some { x with writing := none, newest := some b, bufs := modAt (fun v => { v with doneAt := t, complete := true }) b x.bufs }
      ∧ (∀ q, q ≠ p → u.store q = s.store q) ∧ u.cv.cvs = s.cv.cvs ∧ u = { s with now := max s.now t, cv := u.cv } := by
  have hx' : (s.atLeast t).store p = some x := hx
  refine ⟨(s.atLeast t).setStore p (some { x with writing := none, newest := some b, bufs := modAt (fun v => { v with doneAt := t, complete := true }) b x.bufs }),
    exec_next (i := .frameStoreComplete p t) rfl (by simp [Instr.wellFormed, hp]) (by dsimp only; rw [hx']; dsimp only; rw [hb]) rfl, ?_, fun q hq => ?_, rfl, rfl⟩
  · rw [store_setStore, if_pos rfl]
  · rw [store_setStore, if_neg hq]; rfl

theorem frameStoreComplete_idle (p t : Nat) (s : State) (hp : p < 8) (h : ∀ x, s.store p = some x → x.writing = none) :
    exec (.frameStoreComplete p t) s = .next (s.atLeast t) := by
  refine exec_next (i := .frameStoreComplete p t) rfl (by simp [Instr.wellFormed, hp]) ?_ rfl
  cases hx : s.store p with
  | none =>
    have hx' : (s.atLeast t).store p = none := hx
    dsimp only
    rw [hx']
  | some x =>
    have hx' : (s.atLeast t).store p = some x := hx
    dsimp only
    rw [hx']
    dsimp only
    rw [h x hx]

/-! ### FRAME_DONE (R198, R202) -/

/-- The same event records stand whatever the canvases are. -/
theorem EventsOnly.withCv {s t : State} (h : EventsOnly s t) (x : Canvases) : EventsOnly { s with cv := x } { t with cv := x } := by
  obtain ⟨⟨w, v, m, a, rfl⟩, hrings⟩ := h
  exact ⟨⟨w, v, m, a, rfl⟩, hrings⟩

/-- What the end of a raster of canvas `c` leaves: its loss record and its rows, and every other canvas. -/
structure LossKept (c : Nat) (s t : State) : Prop where
  events : EventsOnly { s with cv := t.cv } t
  others : ∀ n, n ≠ c → t.canvas n = s.canvas n
  rows : (t.canvas c).rows = (s.canvas c).rows
  lostPrev : (t.canvas c).lostPrev = (s.canvas c).lostPrev

theorem LossKept.refl (c : Nat) (s : State) : LossKept c s s := ⟨EventsOnly.refl s, fun _ _ => rfl, rfl, rfl⟩

theorem LossKept.trans {c : Nat} {s t u : State} (h : LossKept c s t) (g : LossKept c t u) : LossKept c s u :=
  ⟨(h.events.withCv u.cv).trans g.events, fun n hn => (g.others n hn).trans (h.others n hn), g.rows.trans h.rows, g.lostPrev.trans h.lostPrev⟩

theorem LossKept.params {c : Nat} {s t : State} (h : LossKept c s t) : t.params = s.params := by
  obtain ⟨⟨w, v, m, a, hframe⟩, -⟩ := h.events
  rw [hframe]

theorem EventsOnly.lossKept {c : Nat} {s t : State} (h : EventsOnly s t) : LossKept c s t := by
  obtain ⟨⟨w, v, m, a, rfl⟩, hrings⟩ := h
  exact ⟨⟨⟨w, v, m, a, rfl⟩, hrings⟩, fun _ _ => rfl, rfl, rfl⟩

theorem lossKept_modCanvas {c : Nat} {f : Canvas → Canvas} (hr : ∀ x, (f x).rows = x.rows) (hl : ∀ x, (f x).lostPrev = x.lostPrev) (s : State) :
    LossKept c s (s.modCanvas c f) := by
  refine ⟨EventsOnly.refl _, fun n hn => ?_, ?_, ?_⟩
  · rw [State.canvas_modCanvas, if_neg hn]
  · rw [State.canvas_modCanvas, if_pos rfl, hr]
  · rw [State.canvas_modCanvas, if_pos rfl, hl]

theorem restoreInputs_lossKept (c p : Nat) (s : State) : LossKept c s (s.restoreInputs c p) := by
  unfold State.restoreInputs
  refine List.foldlRecOn (motive := fun t : State => LossKept c s t) _ _ (LossKept.refl c s) fun t ht i _ => ht.trans ?_
  split
  · exact LossKept.refl c t
  · dsimp only
    have hmod : LossKept c t (t.modCanvas c fun x => { x with lostPosted := clrBit x.lostPosted i, waiting := clrBit x.waiting i }) :=
      lossKept_modCanvas (f := fun x => { x with lostPosted := clrBit x.lostPosted i, waiting := clrBit x.waiting i }) (fun _ => rfl) (fun _ => rfl) t
    split
    · exact hmod.trans (eventsOnly_postTagged _ _ _ _ _ _).lossKept
    · exact hmod

/-- An engine that encodes no canvas starts no picture. -/
theorem encodeStart_idle {e : Nat} {s : State} (h : s.vcp e P.VC_MODE ≠ 1) (c p : Nat) : s.encodeStart e c p = (s, false) := by
  have hne : (s.vcp e P.VC_MODE == 1) = false := by simp [h]
  unfold State.encodeStart
  simp only [hne, Bool.false_and, Bool.not_false, if_true]

theorem encodeStarts_idle {s : State} (h : ∀ e, e < 2 → s.vcp e P.VC_MODE ≠ 1) (c p : Nat) :
    (List.range 2).foldl (fun (a : State × Bool) e => let b := a.1.encodeStart e c p; (b.1, a.2 || b.2)) (s, false) = (s, false) :=
  foldl_fixed_of_mem fun e he => by
    dsimp only
    rw [encodeStart_idle (h e (List.mem_range.1 he))]
    rfl

theorem vcMode_key_ne {c : Nat} (hc : c < 16) (e : Nat) : pkey (P.vc e P.VC_MODE) 0 ≠ pkey (P.cv c P.CV_SOURCES_OFF) 0 := by
  have := hc
  simp only [pkey, P.vc, P.cv, P.VC_MODE, P.CV_SOURCES_OFF]; omega

/-- The end of a raster of which no encoder takes a picture. -/
theorem frameDone_reports (c p fence : Nat) (s : State) (hc : c < 16) (hp : p < 4) (hst : s.cvState c = 2) (hcomp : (s.canvas c).composing = true)
    (hph : (s.canvas c).phase = p) (henc : ∀ e, e < 2 → s.vcp e P.VC_MODE ≠ 1) :
    ∃ u, exec (.frameDone c ⟨p, fence⟩) s = .next u ∧ u.cvp c P.CV_SOURCES_OFF 0 = (s.canvas c).offMask ∧ (u.canvas c).lostPrev = (s.canvas c).lost
      ∧ (u.canvas c).rows = (s.canvas c).rows ∧ SameParams [pkey (P.cv c P.CV_SOURCES_OFF) 0] s u ∧ (∀ n, n ≠ c → u.canvas n = s.canvas n)
      ∧ EventsOnly { s with now := u.now, params := u.params, cv := u.cv } u := by
  obtain ⟨t, ht⟩ : ∃ t, (s.composeTime c p (s.cvp c P.CV_HEIGHT 0 - 1) + (s.cvp c P.CV_WIDTH 0 / 8 + 60) * subTick * 5 / 6) / subTick = t := ⟨_, rfl⟩
  have hfirst : LossKept c (((s.atLeast t).setP (P.cv c P.CV_SOURCES_OFF) 0 (s.canvas c).offMask).modCanvas c fun y => { y with lostPrev := y.lost })
      ((((s.atLeast t).setP (P.cv c P.CV_SOURCES_OFF) 0 (s.canvas c).offMask).modCanvas c fun y => { y with lostPrev := y.lost }).restoreInputs c p) :=
    restoreInputs_lossKept c p _
  have hcan : ∀ n, ((((s.atLeast t).setP (P.cv c P.CV_SOURCES_OFF) 0 (s.canvas c).offMask).modCanvas c fun y => { y with lostPrev := y.lost }).canvas n)
      = if n = c then { s.canvas c with lostPrev := (s.canvas c).lost } else s.canvas n := fun n => by
    rw [State.canvas_modCanvas]; split <;> rfl
  have hpar : (((s.atLeast t).setP (P.cv c P.CV_SOURCES_OFF) 0 (s.canvas c).offMask).modCanvas c fun y => { y with lostPrev := y.lost }).params
      = SMap.set pdef s.params (pkey (P.cv c P.CV_SOURCES_OFF) 0) (s.canvas c).offMask := rfl
  have hframe : (((s.atLeast t).setP (P.cv c P.CV_SOURCES_OFF) 0 (s.canvas c).offMask).modCanvas c fun y => { y with lostPrev := y.lost })
      = { s with now := max s.now t, params := SMap.set pdef s.params (pkey (P.cv c P.CV_SOURCES_OFF) 0) (s.canvas c).offMask
                 cv := (((s.atLeast t).setP (P.cv c P.CV_SOURCES_OFF) 0 (s.canvas c).offMask).modCanvas c fun y => { y with lostPrev := y.lost }).cv } := rfl
  generalize hs1 : (((s.atLeast t).setP (P.cv c P.CV_SOURCES_OFF) 0 (s.canvas c).offMask).modCanvas c fun y => { y with lostPrev := y.lost }) = s1
    at hfirst hcan hpar hframe
  have henc2 : ∀ e, e < 2 → (s1.restoreInputs c p).vcp e P.VC_MODE ≠ 1 := fun e he => by
    have : (s1.restoreInputs c p).vcp e P.VC_MODE = s.vcp e P.VC_MODE := by
      unfold State.vcp State.getP
      rw [hfirst.params, hpar, SMap.get_set_other pdef _ (vcMode_key_ne hc e)]
    rw [this]; exact henc e he
  have hlast : ∃ u, (if (s1.restoreInputs c p).eventEnabled c 2 p then (s1.restoreInputs c p).postCv 0x12 c (p + at' 2 (b2n false)
      + at' 16 (s.canvas c).offMask) else s1.restoreInputs c p) = u ∧ LossKept c s1 u := by
    refine ⟨_, rfl, ?_⟩
    split
    · exact hfirst.trans (eventsOnly_postTagged _ _ _ _ _ _).lossKept
    · exact hfirst
  obtain ⟨u, hu, hkept⟩ := hlast
  have hbody : exec (.frameDone c ⟨p, fence⟩) s = .next u := by
    refine exec_next (i := .frameDone c ⟨p, fence⟩) rfl (by simp [Instr.wellFormed, hc, hp]) ((if_neg ?_).trans ?_) ?_
    · rintro (h | h | h)
      · exact h hst
      · exact absurd (hcomp.symm.trans h) (by decide)
      · exact h hph
    · dsimp only
      rw [ht, hs1, encodeStarts_idle henc2]
      exact hu
    · obtain ⟨⟨w, v, m, a, h⟩, -⟩ := hkept.events
      rw [h, hframe]
  have hupar : u.params = SMap.set pdef s.params (pkey (P.cv c P.CV_SOURCES_OFF) 0) (s.canvas c).offMask := hkept.params.trans hpar
  refine ⟨u, hbody, ?_, ?_, ?_, fun k hk => ?_, fun n hn => ?_, ?_⟩
  · unfold State.cvp State.getP
    rw [hupar]; exact SMap.get_set_same _ _ _ _
  · rw [hkept.lostPrev, hcan, if_pos rfl]
  · rw [hkept.rows, hcan, if_pos rfl]
  · rw [hupar]; exact SMap.get_set_other pdef _ (by simpa using hk) _
  · rw [hkept.others n hn, hcan, if_neg hn]
  · have hnow : u.now = max s.now t := by
      obtain ⟨⟨w, v, m, a, h⟩, -⟩ := hkept.events
      rw [h, hframe]
    rw [hnow, hupar]
    have h := hkept.events
    rw [hframe] at h
    exact h

theorem frameDone_idle (c p fence : Nat) (s : State) (hc : c < 16) (hp : p < 4)
    (h : s.cvState c ≠ 2 ∨ (s.canvas c).composing = false ∨ (s.canvas c).phase ≠ p) : exec (.frameDone c ⟨p, fence⟩) s = .next s :=
  exec_next (i := .frameDone c ⟨p, fence⟩) rfl (by simp [Instr.wellFormed, hc, hp]) (if_pos h) rfl

end Sys2Proof.Machine

open Sys2Proof Sys2Proof.Machine in
/-- Settles O27: a source that the stacking order does not name shows nowhere (`noneNamed`), and the end of a raster keeps what it showed
(`LossKept`). -/
theorem canvasLinesAreComposed : Obligations.CanvasLinesAreComposed := by
  unfold Obligations.CanvasLinesAreComposed
  exact ⟨canvasLine_composes, canvasLine_idle, canvasLine_badCell, layerFetch_reads, layerFetch_idle, frameDone_reports, frameDone_idle,
    frameStoreComplete_completes, frameStoreComplete_idle⟩
end

section
/-! Completion of the commands of the raw pipelines, colour science and canvases (chapters 4 to 6). -/

open Sys2Proof Sys2Proof.Machine in
/-- Settles O55: each command of the raw pipelines, colour science and canvases completes as its own statement (O24 to O27) says. -/
theorem everyPipelineAndCanvasCommandCompletes : Obligations.EveryPipelineAndCanvasCommandCompletes := by
  unfold Obligations.EveryPipelineAndCanvasCommandCompletes
  refine ⟨fun p s hp hrun hch => ?_, fun p s hp hgate hframes => ?_, fun p r s hp hb => ?_,
    fun c r l s ha ho hhost hp hsel haddr halign hlo hhi hlen hrec hgood => ?_, colourProbe_waits, fun k q r g s hk hq hres haw => ?_,
    fun k q g s hk hq hres haw => ?_, fun c t s hc hq hst => ?_, fun c p s hc hp hst hph hin => ?_,
    fun c p y s hc hp hst hcomp hph htot hy hz hev hmap hprobe => ?_, fun c p fence s hc hp hst hcomp hph henc => ?_,
    fun c l y w k s hc hl hk hy hyh hat hflaws hgood => ?_, fun p t b x s hp hx hb => ?_, fun n p c s hn hp hcv hst hpw hph hmask hprev => ?_,
    fun n t r s hn hup hr ht => ?_, fun c l s ha ho hc hl hmask hrange hclaim himm => ?_, fun c s ha ho hc hst hph => ?_, fun k s hk hcopied => ?_,
    fun k tk g s hk hcopied hwait htk haw => ?_⟩
  case refine_1 => obtain ⟨t, ht, hstate, -⟩ := pipelineWaitTimeout_waits p s hp hrun hch; exact ⟨t, ht, hstate⟩
  case refine_2 => exact ⟨_, sidGateTimeout_expires p s hp hgate hframes, by rw [State.pipe_setPipe, if_pos rfl]⟩
  case refine_3 =>
    obtain ⟨t, ht, hpipe, -, hcount, -⟩ := statsReady_completes p r s hp hb
    exact ⟨t, ht, by rw [hpipe], hcount⟩
  case refine_4 =>
    obtain ⟨t, ht, hans, hbytes, -⟩ := statsRead_reads c r l s ha ho hhost hp hsel haddr halign hlo hhi hlen hrec hgood
    exact ⟨t, ht, hans, hbytes⟩
  case refine_5 => obtain ⟨t, ht, hans, hfree, -⟩ := colourProbeCapture_answers k q r g s hk hq hres haw; exact ⟨t, ht, hans, hfree⟩
  case refine_6 => obtain ⟨t, ht, hans, hfree, -⟩ := probeMissed_answers k q g s hk hq hres haw; exact ⟨t, ht, hans, hfree⟩
  case refine_7 => obtain ⟨u, hu, hstate, htag, -⟩ := firstShow_effect c t s hc hq hst; exact ⟨u, hu, hstate, htag⟩
  case refine_8 => obtain ⟨u, hu, hcv, -⟩ := phaseBoundary_begins c p s hc hp hst hph hin; exact ⟨u, hu, by rw [hcv], by rw [hcv]⟩
  case refine_9 => obtain ⟨u, hu, hline, -⟩ := canvasLine_composes c p y s hc hp hst hcomp hph htot hy hz hev hmap hprobe; exact ⟨u, hu, hline⟩
  case refine_10 => obtain ⟨u, hu, hoff, hlost, -⟩ := frameDone_reports c p fence s hc hp hst hcomp hph henc; exact ⟨u, hu, hoff, hlost⟩
  case refine_11 =>
    obtain ⟨u, hu, hrow, -, -, hframe⟩ := layerFetch_reads c l y w k s hc hl hk hy hyh hat hflaws hgood
    exact ⟨u, hu, hrow, by rw [hframe]⟩
  case refine_12 => obtain ⟨u, hu, hstore, -, hcvs, -⟩ := frameStoreComplete_completes p t b x s hp hx hb; exact ⟨u, hu, hstore, hcvs⟩
  case refine_13 =>
    obtain ⟨u, hu, hup, -, hrise, -⟩ := phaseSyncRise_rises n p c s hn hp hcv hst hpw hph hmask hprev
    exact ⟨u, hu, hup, hrise⟩
  case refine_14 =>
    obtain ⟨u, hu, hdown, -, hframe⟩ := phaseSyncFall_falls n t r s hn hup hr ht
    exact ⟨u, hu, hdown, by rw [hframe]⟩
  case refine_15 =>
    obtain ⟨t, ht, hans, -, hstaged, -⟩ := layerFlip_immediate ha ho hc hl hmask hrange hclaim himm
    exact ⟨t, ht, hans, hstaged⟩
  case refine_16 => obtain ⟨t, r, ht, hans, -, hr, -⟩ := canvasStatus_answers c s ha ho hc hst hph; exact ⟨t, r, ht, hans, hr⟩
  case refine_17 => obtain ⟨t, ht, hnew, hbank, -⟩ := unifBankCopyDone_fills k s hk hcopied; exact ⟨t, ht, hnew, hbank⟩
  case refine_18 => obtain ⟨t, ht, hans, hnone, -⟩ := unifCommitDone_completes k tk g s hk hcopied hwait htk haw; exact ⟨t, ht, hans, hnone⟩
end

section
/-! Three statements of the Midway and partner families that do not hold of every state. -/

namespace Sys2Proof.Machine

/-! ### A reversion on a loop whose directory names no tile (R232) -/

/-- Loop 0 is closed and its directory names no tile; it is intact, its B end feeds one tile, and MW_REVERT lets it revert. -/
def revertingWithoutTiles : State :=
  ((({ ctl := { tables := putBytes tableDefault [] (tableBase 0x0002 0) [2] } } : State).setP (mwLoop 0 P.MW_REVERT) 0 1).modLoop 0 fun x =>
    { x with intact := true, b := { x.b with reach := 1 } })

theorem revert_startsNoEnd : answers (fun t => !(t.loop 0).a.starting) (exec (.revertHoldExpiry 0) revertingWithoutTiles) = true := by
  decide +kernel

/-! ### The device's own ALIGN column in IDENTIFY (R87) -/

/-- The partner link stands in IDENTIFY. -/
def partnerIdentifying : State := ({ } : State).setP P.PT_STATE 0 4

theorem identifying_alignSent : answers (fun t => t.mw.link.aseqTx == 1) (exec (.partnerAlign []) partnerIdentifying) = true := by
  decide +kernel

/-! ### A P_LOOP for a loop whose directory names 33 tiles (R234) -/

/-- Loop 0 is paired and names 33 tiles, one more than a loop has; tile 1 of loop 1 is reachable from its B end. The partner link is
ACTIVE, its partner quarantined: no P_LOOP answers. -/
def pairedBeyondHops : State :=
  ((({ ctl := { tables := putBytes tableDefault [] (tableBase 0x0002 0) [3, 0, 33] } } : State).setP P.PT_STATE 0 5).modTile 1 1 fun x =>
    { x with fromB := true }).setPartner linkId { quarantined := true }

/-- A P_LOOP of loop 0: the partner has found no tile. -/
def foundNoTile : TilePkt :=
  { port := 0, time := 0, hdr := tileHdr 3 0 0 16 0 0, payload := List.replicate 16 0, crc := crc32c (List.replicate 16 0) }

/-- What a P_LOOP of loop `l` with payload `b` makes of the loop and its tiles, before the digests are compared. -/
def State.peerFindings (l : Nat) (b : List Byte) (s : State) : State :=
  let s0 := (s.modLoop l fun y => { y with peer := (byteAt b 2, byteAt b 3, byteAt b 4, byteAt b 5, fieldAt b 8 4) }).reviewFeeder l
  let e := s0.peerEnd l
  let s1 := (s0.modEnd l e fun y => { y with reach := byteAt b 3, found := byteAt b 4, done := true }).evalLoop l 4
  (List.range (s1.dirCount l)).foldl (fun t i => if byteAt b 4 ≤ i then t.setReachable l (t.hopAt l e (i + 1)) e false else t) s1

/-- The comparison of the digests changes no tile. -/
theorem compareDigests_mw (l own digest : Nat) (s : State) :
    (if digest = own then s.clearService (.pairMismatch l) else if s.ctl.service.contains (.pairMismatch l) then s
      else (s.raiseService (.pairMismatch l)).post 0x5E 0x7 l (own + at' 32 digest)).mw = s.mw := by
  obtain ⟨_, hclear⟩ := clearService_frame (.pairMismatch l) s
  obtain ⟨_, hraise⟩ := raiseService_frame (.pairMismatch l) s
  split
  · rw [hclear]
  · split
    · rfl
    · rw [State.post_mw, hraise]

/-- A P_LOOP that is taken leaves the tiles as its findings say. -/
theorem pLoop_tile {p : TilePkt} {l : Nat} {s t : State} (h : exec (.pLoop p) s = .next t) (hw : (Instr.pLoop p).wellFormed = true)
    (hr : (s.atLeast p.time).linkHears = true) (hf : tileFaulty 3 p = false ∧ p.payload.length = 16 ∧ crc32c p.payload = p.crc)
    (hl : fieldAt p.payload 0 2 = l) (hp : (s.atLeast p.time).linkState = 5 ∧ l < 512 ∧ (s.atLeast p.time).dirMode l = 3) (k j : Nat) :
    t.tile k j = ((s.atLeast p.time).peerFindings l p.payload).tile k j := by
  obtain ⟨hfive, hlow, hpaired⟩ := hp
  subst hl
  have htaken : ¬ ((s.atLeast p.time).linkState ≠ 5 ∨ 512 ≤ fieldAt p.payload 0 2 ∨ (s.atLeast p.time).dirMode (fieldAt p.payload 0 2) ≠ 3) := by
    rintro (hc | hc | hc)
    exacts [hc hfive, absurd hlow (Nat.not_lt.2 hc), hc hpaired]
  have hnext := ((show exec (.pLoop p) s = guarded (.pLoop p) s _ from rfl).trans (if_pos hw)).symm.trans h
  unfold State.partnerReceive at hnext
  rw [if_pos ⟨.inr hfive, hr, hf⟩] at hnext
  injection hnext with hnext
  subst hnext
  exact congrArg (fun m => SMap.get tileDef m.tiles (tileKey k j))
    ((congrArg State.mw (if_neg htaken)).trans (compareDigests_mw ..))

theorem pLoop_reachesNextLoop :
    (((pairedBeyondHops.atLeast foundNoTile.time).peerFindings 0 foundNoTile.payload).tile 1 1).fromB = false := by
  decide +kernel

theorem foundNoTile_losesTile {t : State} (h : exec (.pLoop foundNoTile) pairedBeyondHops = .next t) : (t.tile 1 1).fromB = false := by
  rw [pLoop_tile (l := 0) h (by decide +kernel) (by decide +kernel) (by decide +kernel) (by decide +kernel) (by decide +kernel) 1 1]
  exact pLoop_reachesNextLoop

end Sys2Proof.Machine

open Sys2Proof Sys2Proof.Machine in
/-- Refutes O29: its clause on the reversion of a loop says that the A end, which feeds nothing, starts; but where the directory names no tile there
is nothing for it to feed, and no end starts. -/
theorem not_loopsFailOverAndHandOver : ¬ Obligations.LoopsFailOverAndHandOver := by
  unfold Obligations.LoopsFailOverAndHandOver
  rintro ⟨-, -, -, -, -, -, -, -, -, -, hrevert, -⟩
  obtain ⟨t, ht, hloop, -⟩ := hrevert 0 revertingWithoutTiles (by decide) (by decide +kernel) (by decide +kernel) (by decide +kernel) (by decide +kernel)
    (by decide +kernel) (by decide +kernel) (by decide +kernel)
  have hidle := of_answers revert_startsNoEnd ht
  rw [hloop] at hidle
  exact absurd hidle (by decide +kernel)

open Sys2Proof Sys2Proof.Machine in
/-- Refutes O32: its clause on an ALIGN column outside LOCK and DESKEW says that nothing happens, but in IDENTIFY the link is still in training and the
device's own column leaves (R87). -/
theorem not_partnerLinkTrains : ¬ Obligations.PartnerLinkTrains := by
  unfold Obligations.PartnerLinkTrains
  rintro ⟨-, -, -, -, -, helsewhere, -⟩
  have hkept := of_answers identifying_alignSent (helsewhere [] partnerIdentifying rfl (by decide +kernel) (by decide +kernel))
  exact absurd hkept (by decide +kernel)

open Sys2Proof Sys2Proof.Machine in
/-- Refutes O33: its clause on P_LOOP leaves the tiles of every other loop as they are, but a directory may name 33 tiles (R215 bounds none there), and
the 33rd stands where tile 1 of the next loop does. -/
theorem not_partnersKeepTimeAndLoops : ¬ Obligations.PartnersKeepTimeAndLoops := by
  unfold Obligations.PartnersKeepTimeAndLoops
  rintro ⟨-, -, -, -, -, -, -, hloop, -⟩
  obtain ⟨t, ht, -, -, -, -, honly⟩ := hloop foundNoTile 0 pairedBeyondHops (by decide +kernel) (by decide +kernel) (by decide +kernel) (by decide +kernel)
    (by decide +kernel) (by decide +kernel) (by decide) (by decide +kernel) (by decide +kernel)
  obtain ⟨-, htiles, -⟩ := honly
  have hlost := foundNoTile_losesTile ht
  rw [htiles 1 1 (by decide) (by decide) (by decide)] at hlost
  exact absurd hlost (by decide +kernel)
end

section
/-! Three statements of the recording and queue families that do not hold of every state. -/

namespace Sys2Proof.Machine

/-! ### A frame that is stored in a bin whose number is out of range (R313) -/

/-- A frame of pipeline 0 awaits its fence, for bin 4096. -/
def fenceAwaited : WbFrame := { id := 0, source := 0, typ := 1, tag := 0, size := 0, bins := [4096], phase := 1 }

/-- A clip that begins with frame tag 7. -/
def clipFromSeven : Clip := { id := 0, first := 7, last := 7 }

/-- Bin 4096 has that clip open. -/
def binOfSeven : Bin := { clips := [clipFromSeven] }

def storingOutOfRange : State := { fr := { wb := [fenceAwaited], bins := [(4096, some binOfSeven)] } }

/-- FR_BIN_OLDEST of bin 4096 is the parameter element FR_GAP_FRAMES of pipeline 0. -/
theorem storing_writesGapFrames : answers (fun t => t.getP P.FR_GAP_FRAMES 0 == 7) (exec (.recordFenceDone 0) storingOutOfRange) = true := by
  decide +kernel

/-! ### A deletion that waits for a command of another opcode (R352) -/

/-- A clip queue command of bin 0 with a time limit of 1 ms, for which a deletion waits. -/
def lastRead : QCmd := { cid := 0, entry := [1] ++ List.replicate 35 0 ++ [1] ++ List.replicate 27 0, time := 0, fate := 1 }

/-- The pair in which it stands alone. -/
def pairOfLastRead : Pair := { cmds := [lastRead] }

/-- The bin that it reads. -/
def binDeleting : Bin := { deleting := some 0 }

/-- The command in progress, a PING, that holds the ticket the bin names. -/
def pingWaiting : Flight := { ticket := 0, opcode := 0x0001, cmd := { win := 0, slot := 0 }, priv := true }

def deletingForPing : State :=
  { ctl := { fwReady := true, flights := [pingWaiting] }, fr := { bins := [(0, some binDeleting)] }, cq := { pairs := [(0, some pairOfLastRead)] } }

theorem deletion_answersPing :
    answers (fun t => (t.replyTo pingWaiting.cmd).opcode == 0x0001) (exec (.cqCommandTimeout 0 0 0) deletingForPing) = true := by
  decide +kernel

/-- The reply of the end of a deletion has the opcode of the command that holds its ticket. -/
theorem deletion_notAnsweredAsDelete {t : State} (h : exec (.cqCommandTimeout 0 0 0) deletingForPing = .next t) :
    ¬ Answered 0x0721 pingWaiting.cmd 0 0 0 t := by
  rintro ⟨-, -, -, -, hop, -⟩
  have hping := of_answers deletion_answersPing h
  rw [hop] at hping
  exact absurd hping (by decide)

end Sys2Proof.Machine

open Sys2Proof Sys2Proof.Machine in
/-- Refutes O42: its clause on a frame's fence bounds no bin number; FR_BIN_OLDEST of bin 4096 is the same parameter element as FR_GAP_FRAMES of
pipeline 0, so the store changes a counter that the clause keeps. -/
theorem not_framesAreStoredAndDrained : ¬ Obligations.FramesAreStoredAndDrained := by
  unfold Obligations.FramesAreStoredAndDrained
  rintro ⟨-, hstore, -⟩
  obtain ⟨t, -, ht, -, -, -, -, -, -, -, -, hgaps, -⟩ := hstore 0 4096 32 fenceAwaited binOfSeven clipFromSeven storingOutOfRange (by decide)
    (by decide +kernel) rfl (by decide +kernel) rfl rfl rfl (by decide +kernel) (by decide +kernel) (by decide +kernel)
  have hseven := of_answers storing_writesGapFrames ht
  rw [hgaps] at hseven
  exact absurd hseven (by decide +kernel)

open Sys2Proof Sys2Proof.Machine in
/-- Refutes O46: its clause on the end of a deletion says that the command in progress that holds the ticket is answered as a BIN_DELETE, whatever its
opcode is. -/
theorem not_binsAreAdministered : ¬ Obligations.BinsAreAdministered := by
  unfold Obligations.BinsAreAdministered
  rintro ⟨-, -, -, -, -, -, hlast⟩
  obtain ⟨t, ht, hreply, -⟩ := hlast 0 0 0 0 0 pairOfLastRead lastRead binDeleting pingWaiting deletingForPing (by decide) (by decide) (by decide) rfl rfl
    rfl rfl (by decide +kernel) (by decide +kernel) rfl rfl rfl rfl (by decide +kernel) (by decide)
  exact deletion_notAnsweredAsDelete ht hreply

open Sys2Proof Sys2Proof.Machine in
/-- Refutes O59: its clause on CQ_COMMAND_TIMEOUT is that of the end of a deletion, which says that the command in progress that holds the ticket is
answered as a BIN_DELETE, whatever its opcode is. -/
theorem not_everyRecordingAndQueueCommandCompletes : ¬ Obligations.EveryRecordingAndQueueCommandCompletes := by
  unfold Obligations.EveryRecordingAndQueueCommandCompletes
  rintro ⟨-, -, -, -, -, -, -, -, -, -, -, -, -, -, -, -, htimeout, -⟩
  obtain ⟨t, ht, hreply, -⟩ := htimeout 0 0 0 0 0 pairOfLastRead lastRead binDeleting pingWaiting deletingForPing (by decide) (by decide) (by decide) rfl
    rfl rfl rfl (by decide +kernel) (by decide +kernel) rfl rfl rfl rfl (by decide +kernel) (by decide)
  exact deletion_notAnsweredAsDelete ht hreply
end

section
/-! The management bus target: addresses, reads, frames and replies (14_housekeeping.md, R395 to R406). -/

namespace Sys2Proof.Machine

/-- `s` after a transaction to address `a`, which the device answers, has started. -/
def State.addressed (a : Nat) (s : State) : State := (s.reach .busStart).setP P.MB_LAST_ADDR 0 a

theorem boot_of_busAnswers {s : State} {a : Nat} (h : s.busAnswers a = true) : s.ctl.boot ≠ .off := by
  intro hoff
  simp [State.busAnswers, hoff] at h

theorem busTransaction_answered {s : State} {a : Nat} (h : s.busAnswers a = true) (hst : s.ctl.staged = []) (k : State → State) :
    s.busTransaction a k = k (s.addressed a) := by
  have h1 : (s.reach .busStart).busAnswers a = true := h
  simp only [State.busTransaction, if_neg (boot_of_busAnswers h), applyReached_unstaged hst, h1, if_true]
  rfl

theorem busTransaction_unanswered {s : State} {a : Nat} (h : s.busAnswers a = false) (hst : s.ctl.staged = []) (k : State → State) :
    ∃ r q, s.busTransaction a k = { s with sent := .busNak :: s.sent, ctl := { s.ctl with reached := r, reachedAt := q } } := by
  by_cases hoff : s.ctl.boot = .off
  · refine ⟨s.ctl.reached, s.ctl.reachedAt, ?_⟩
    simp only [State.busTransaction, if_pos hoff, h, Bool.false_eq_true, if_false]
    rfl
  · have h1 : (s.reach .busStart).busAnswers a = false := h
    refine ⟨(s.reach .busStart).ctl.reached, s.now, ?_⟩
    simp only [State.busTransaction, if_neg hoff, applyReached_unstaged hst, h1, Bool.false_eq_true, if_false]
    rfl

theorem addressed_sameParams (a : Nat) (s : State) : SameParams [pkey P.MB_LAST_ADDR 0] s (s.addressed a) :=
  sameParams_setP (s := s.reach .busStart) List.mem_cons_self a

theorem getP_addressed {i e : Nat} (h : pkey i e ≠ pkey P.MB_LAST_ADDR 0) (a : Nat) (s : State) : (s.addressed a).getP i e = s.getP i e :=
  (addressed_sameParams a s).getP (by simpa using h)

theorem getP_addressed_last (a : Nat) (s : State) : (s.addressed a).getP P.MB_LAST_ADDR 0 = a := State.getP_setP_same _ _ _ _

theorem statusWord_addressed (a : Nat) (s : State) : (s.addressed a).statusWord 64 cOK = s.statusWord 64 cOK := by
  have hp : (s.addressed a).getP P.PW_STATE 0 = s.getP P.PW_STATE 0 := getP_addressed (by decide) a s
  simp only [State.statusWord, State.barker, State.powerState, State.powerChanging, hp]
  rfl

/-! ### Transactions that the target does not answer -/

theorem bus_unanswered {i : Instr} {a : Nat} {k : State → State} {s : State} (hi : i.wellFormed = true)
    (hx : exec i s = guarded i s (s.busTransaction a k)) (h : s.busAnswers a = false) (hst : s.ctl.staged = []) :
    ∃ t, exec i s = .next t ∧ t = { s with sent := .busNak :: s.sent, ctl := { s.ctl with reached := t.ctl.reached, reachedAt := t.ctl.reachedAt } } := by
  obtain ⟨r, q, he⟩ := busTransaction_unanswered h hst k
  exact ⟨_, exec_next hx hi he rfl, rfl⟩

/-! ### Reads -/

theorem bus_reads {i : Instr} {a : Nat} {k : State → State} {s : State} (hi : i.wellFormed = true)
    (hx : exec i s = guarded i s (s.busTransaction a k)) (h : s.busAnswers a = true) (hst : s.ctl.staged = []) {code : Nat} {l : List Byte}
    (hk : k (s.addressed a) = (s.addressed a).busRespond a code l) : ∃ t, exec i s = .next t ∧ BusRead a code l s t :=
  ⟨_, exec_next hx hi ((busTransaction_answered h hst k).trans hk) rfl, getP_addressed_last a s, addressed_sameParams a s, rfl⟩

theorem busStatus_addressed (a : Nat) (s : State) :
    (s.addressed a).busStatus = if s.ctl.boot = .auxOnly then 0x00004001 else s.statusWord 64 0 := by
  show (if s.ctl.boot = .auxOnly then _ else _) = _
  rw [statusWord_addressed]

theorem hkWord_addressed {n : Nat} (hn : n < 32) (a : Nat) (s : State) : (s.addressed a).hkWord n
    = if (s.getP P.HK_READING n).testBit 16 = true ∧ (s.getP P.HK_READING n).testBit 17 = false then s.getP P.HK_READING n % 65536 else 0x8000 := by
  have hp : (s.addressed a).getP P.HK_READING n = s.getP P.HK_READING n := by
    refine getP_addressed ?_ a s
    simp only [pkey, P.HK_READING, P.MB_LAST_ADDR]
    omega
  simp only [State.hkWord, hp, Bool.and_eq_true, Bool.not_eq_true']

/-! ### Transactions without effect -/

/-- What is left of a transaction that is refused: the counter `id`, if any, and a NAK if `nak`. -/
def State.refused (id : Option Nat) (nak : Bool) (s : State) : State :=
  let s1 := match id with
    | none => s
    | some i => s.bumpSat i 0 1
  if nak then s1.emit .busNak else s1

theorem bus_refuses {i : Instr} {a : Nat} {k : State → State} {s : State} (hi : i.wellFormed = true)
    (hx : exec i s = guarded i s (s.busTransaction a k)) (h : s.busAnswers a = true) (hst : s.ctl.staged = []) {id : Option Nat} {nak : Bool}
    (hid : ∀ j, id = some j → pkey j 0 ≠ pkey P.MB_LAST_ADDR 0) (hk : k (s.addressed a) = (s.addressed a).refused id nak) :
    ∃ t, exec i s = .next t ∧ BusRefused a id nak s t := by
  refine ⟨(s.addressed a).refused id nak, exec_next hx hi ((busTransaction_answered h hst k).trans hk) (by cases id <;> cases nak <;> rfl), ?_⟩
  cases id with
  | none =>
    refine ⟨?_, by simp, ?_, ?_⟩
    · cases nak <;> exact getP_addressed_last a s
    · cases nak <;> exact addressed_sameParams a s
    · cases nak <;> rfl
  | some j =>
    have hj := hid j rfl
    have hlast : ((s.addressed a).bumpSat j 0 1).getP P.MB_LAST_ADDR 0 = a := by
      rw [State.bumpSat, State.getP_setP, if_neg hj.symm, getP_addressed_last]
    have hcount : ((s.addressed a).bumpSat j 0 1).getP j 0 = min (s.getP j 0 + 1) (2 ^ 32 - 1) := by
      rw [State.bumpSat, State.getP_setP_same, getP_addressed hj, sat32]
      rfl
    have hsame : SameParams [pkey P.MB_LAST_ADDR 0, pkey j 0] s ((s.addressed a).bumpSat j 0 1) :=
      ((addressed_sameParams a s).mono (by simp)).trans (sameParams_setP (by simp) _)
    refine ⟨?_, ?_, ?_, ?_⟩
    · cases nak <;> exact hlast
    · rintro _ ⟨⟩
      cases nak <;> exact hcount
    · cases nak <;> exact hsame
    · cases nak <;> rfl

/-! ### Packet error checking -/

/-- The bytes `l` of a write are followed by the right PEC, or by none where none is required (R400). -/
abbrev State.pecPasses (s : State) (l : List Byte) (p : Option Nat) : Prop := p = none ∧ s.getP P.MB_PEC_REQUIRED 0 ≠ 1 ∨ p = some (crc8 l)

theorem busCheck_passes {s : State} {l : List Byte} {p : Option Nat} (h : s.pecPasses l p) (k : State → State) : s.busCheck l p k = k s := by
  rcases h with ⟨rfl, hn⟩ | rfl
  · exact if_neg hn
  · exact if_pos rfl

theorem busCheck_missing {s : State} (h : s.getP P.MB_PEC_REQUIRED 0 = 1) (l : List Byte) (k : State → State) :
    s.busCheck l none k = s.refused (some P.MB_PEC_ERRORS) false := if_pos h

theorem busCheck_wrong {s : State} {l : List Byte} {v : Nat} (h : v ≠ crc8 l) (k : State → State) :
    s.busCheck l (some v) k = s.refused (some P.MB_PEC_ERRORS) true := if_neg h.symm

theorem pecRequired_addressed (a : Nat) (s : State) : (s.addressed a).getP P.MB_PEC_REQUIRED 0 = s.getP P.MB_PEC_REQUIRED 0 :=
  getP_addressed (by decide) a s

theorem pecPasses_addressed {s : State} {l : List Byte} {p : Option Nat} (h : s.pecPasses l p) (a : Nat) : (s.addressed a).pecPasses l p := by
  unfold State.pecPasses
  rwa [pecRequired_addressed]

/-! ### SUBMIT -/

theorem busFrame_length {f : List Byte} (h : 16 ≤ f.length) : (busFrame f).length = f.length := by
  unfold busFrame
  split
  · rfl
  · simp only [List.length_append, List.length_take, List.length_drop, leBytes_length]
    omega

/-- The slot with the frame in it, rung. -/
def State.busRung (k : Nat) (f : List Byte) (s : State) : State :=
  (s.setWin 64 { s.win 64 with slots := putBytes zeroByte (s.win 64).slots (k * 256) (busFrame f) }).ring' 64 k s.busPrivileged

theorem win_busRung (k : Nat) (f : List Byte) (s : State) (w : Nat) : (s.busRung k f).win w
    = if w = 64 then { s.win 64 with
        slots := putBytes zeroByte (s.win 64).slots (k * 256) (busFrame f), busy := setBit (s.win 64).busy k, rung := setBit (s.win 64).rung k
        rungPriv := if s.busPrivileged then setBit (s.win 64).rungPriv k else clrBit (s.win 64).rungPriv k } else s.win w := by
  unfold State.busRung State.ring'
  rw [State.win_setWin, State.win_setWin_same]
  by_cases hw : w = 64
  · rw [if_pos hw, if_pos hw]
  · rw [if_neg hw, if_neg hw, State.win_setWin, if_neg hw]

theorem busRung_slot {k n : Nat} {f : List Byte} (h16 : 16 ≤ n) (hf : f.length = n) (s : State) :
    takeBytes zeroByte ((s.busRung k f).win 64).slots (k * 256) n = busFrame f := by
  have hlen : (busFrame f).length = n := (busFrame_length (hf ▸ h16)).trans hf
  rw [win_busRung, if_pos rfl]
  exact hlen ▸ takeBytes_putBytes _ _ _ _

theorem busRung_sameButSlot (k : Nat) (f : List Byte) (s : State) : ((s.busRung k f).win 64).sameButSlot k (s.win 64) := by
  rw [win_busRung, if_pos rfl]
  exact ⟨rfl, fun j hj => ⟨setBit_same_other hj, rfl, setBit_same_other hj, rfl⟩⟩

theorem busRung_rungPriv (k : Nat) (f : List Byte) (s : State) : ((s.busRung k f).win 64).rungPriv.testBit k = s.busPrivileged := by
  rw [win_busRung, if_pos rfl]
  cases hb : s.busPrivileged
  · exact testBit_clrBit_same _ _
  · exact testBit_setBit_same _ _

/-- What SUBMIT of a frame does once the address has been answered (R398 to R401, R405, R406). -/
def State.framed (a k n : Nat) (f : List Byte) (p : Option Nat) (s : State) : State :=
  if s.ctl.boot = .auxOnly then s.refused none true
  else if !s.slotFree 64 k then s.refused (some P.MB_SLOT_ERRORS) true
  else if n < 16 ∨ 256 < n then s.refused none true
  else if f.length < n then s.refused (some P.MB_ABORTS) false
  else s.busCheck (busWrite a (0x10 + k) ++ leBytes n 2 ++ f.take n) p fun u => u.busCommit k (f.take n)

theorem submit_exec (a k n : Nat) (f : List Byte) (p : Option Nat) (s : State) :
    exec (.submit a k n f p) s = guarded (.submit a k n f p) s (s.busTransaction a fun t => t.framed a k n f p) := rfl

section
variable (a k n : Nat) (f : List Byte) (p : Option Nat) (s : State) (ha : a < 128) (hk : k < 4) (h : s.busAnswers a = true) (hst : s.ctl.staged = [])
include ha hk h hst

theorem submit_refused {id : Option Nat} {nak : Bool} (hid : id = none ∨ id = some P.MB_SLOT_ERRORS ∨ id = some P.MB_ABORTS ∨ id = some P.MB_PEC_ERRORS)
    (hbody : (s.addressed a).framed a k n f p = (s.addressed a).refused id nak) :
    ∃ t, exec (.submit a k n f p) s = .next t ∧ BusRefused a id nak s t := by
  refine bus_refuses (by simp [Instr.wellFormed, ha, hk]) (submit_exec a k n f p s) h hst ?_ hbody
  rcases hid with rfl | rfl | rfl | rfl <;> rintro j ⟨⟩ <;> decide

theorem submit_unpowered (hb : s.ctl.boot = .auxOnly) : ∃ t, exec (.submit a k n f p) s = .next t ∧ BusRefused a none true s t :=
  submit_refused a k n f p s ha hk h hst (.inl rfl) (if_pos hb)

section
variable (hb : s.ctl.boot ≠ .auxOnly)
include hb

theorem submit_slotTaken (hf : s.slotFree 64 k = false) : ∃ t, exec (.submit a k n f p) s = .next t ∧ BusRefused a (some P.MB_SLOT_ERRORS) true s t := by
  refine submit_refused a k n f p s ha hk h hst (.inr (.inl rfl)) ?_
  have hf' : (!(s.addressed a).slotFree 64 k) = true := congrArg not hf
  rw [State.framed, if_neg (show (s.addressed a).ctl.boot ≠ .auxOnly from hb), if_pos hf']

section
variable (hf : s.slotFree 64 k = true)
include hf

omit ha hk h hst in
theorem framed_free : (s.addressed a).framed a k n f p = (if n < 16 ∨ 256 < n then (s.addressed a).refused none true
    else if f.length < n then (s.addressed a).refused (some P.MB_ABORTS) false
    else (s.addressed a).busCheck (busWrite a (0x10 + k) ++ leBytes n 2 ++ f.take n) p fun u => u.busCommit k (f.take n)) := by
  have hf' : ¬ (!(s.addressed a).slotFree 64 k) = true := by
    rw [show (s.addressed a).slotFree 64 k = true from hf]
    exact Bool.false_ne_true
  rw [State.framed, if_neg (show (s.addressed a).ctl.boot ≠ .auxOnly from hb), if_neg hf']

theorem submit_badLength (hn : n < 16 ∨ 256 < n) : ∃ t, exec (.submit a k n f p) s = .next t ∧ BusRefused a none true s t :=
  submit_refused a k n f p s ha hk h hst (.inl rfl) ((framed_free a k n f p s hb hf).trans (if_pos hn))

section
variable (h16 : 16 ≤ n) (h256 : n ≤ 256)
include h16 h256

theorem submit_cutShort (hl : f.length < n) : ∃ t, exec (.submit a k n f p) s = .next t ∧ BusRefused a (some P.MB_ABORTS) false s t := by
  refine submit_refused a k n f p s ha hk h hst (.inr (.inr (.inl rfl))) ((framed_free a k n f p s hb hf).trans ?_)
  rw [if_neg (by omega), if_pos hl]

section
variable (hl : f.length = n)
include hl

omit ha hk h hst in
theorem framed_whole : (s.addressed a).framed a k n f p
    = (s.addressed a).busCheck (busWrite a (0x10 + k) ++ leBytes n 2 ++ f) p fun u => u.busCommit k f := by
  rw [framed_free a k n f p s hb hf, if_neg (by omega), if_neg (by omega), List.take_of_length_le hl.le]

theorem submit_noPec (hp : s.getP P.MB_PEC_REQUIRED 0 = 1) :
    ∃ t, exec (.submit a k n f none) s = .next t ∧ BusRefused a (some P.MB_PEC_ERRORS) false s t :=
  submit_refused a k n f none s ha hk h hst (.inr (.inr (.inr rfl)))
    ((framed_whole a k n f none s hb hf h16 h256 hl).trans (busCheck_missing ((pecRequired_addressed a s).trans hp) _ _))

theorem submit_wrongPec {v : Nat} (hv : v ≠ crc8 (busWrite a (0x10 + k) ++ leBytes n 2 ++ f)) :
    ∃ t, exec (.submit a k n f (some v)) s = .next t ∧ BusRefused a (some P.MB_PEC_ERRORS) true s t :=
  submit_refused a k n f (some v) s ha hk h hst (.inr (.inr (.inr rfl)))
    ((framed_whole a k n f (some v) s hb hf h16 h256 hl).trans (busCheck_wrong hv _))

theorem submit_rings (hp : s.pecPasses (busWrite a (0x10 + k) ++ leBytes n 2 ++ f) p) :
    ∃ u : State, exec (.submit a k n f p) s = .next { (if s.ctl.fwReady = true then u.takeSlot 64 k else u) with pending := s.pending }
      ∧ u.getP P.MB_LAST_ADDR 0 = a ∧ SameParams [pkey P.MB_LAST_ADDR 0] s u ∧ takeBytes zeroByte (u.win 64).slots (k * 256) n = busFrame f
      ∧ (u.win 64).busy.testBit k = true ∧ (u.win 64).rung.testBit k = true ∧ (u.win 64).rungPriv.testBit k = u.busPrivileged
      ∧ (u.win 64).sameButSlot k (s.win 64) ∧ (∀ w, w ≠ 64 → u.win w = s.win w) ∧ u = { s with
          params := u.params, ctl := { s.ctl with wins := u.ctl.wins, reached := u.ctl.reached, reachedAt := u.ctl.reachedAt } } := by
  have hbody : (s.addressed a).framed a k n f p
      = if s.ctl.fwReady = true then ((s.addressed a).busRung k f).takeSlot 64 k else (s.addressed a).busRung k f :=
    (framed_whole a k n f p s hb hf h16 h256 hl).trans (busCheck_passes (pecPasses_addressed hp a) _)
  refine ⟨(s.addressed a).busRung k f, ?_, getP_addressed_last a s, addressed_sameParams a s, busRung_slot h16 hl _, ?_, ?_, busRung_rungPriv k f _,
    busRung_sameButSlot k f _, fun w hw => (win_busRung k f _ w).trans (if_neg hw), rfl⟩
  · rw [submit_exec, guarded_of_wf s (by simp [Instr.wellFormed, ha, hk]), busTransaction_answered h hst, hbody]
  · rw [win_busRung, if_pos rfl]
    exact testBit_setBit_same _ _
  · rw [win_busRung, if_pos rfl]
    exact testBit_setBit_same _ _

end
end
end
end
end

/-! ### REPLY_ACK -/

/-- What REPLY_ACK does to a slot that is not busy, its PEC right (R399). -/
def State.acknowledged (k : Nat) (s : State) : State :=
  let x := s.win 64
  if x.ready.testBit k then s.setWin 64 { x with ready := clrBit x.ready k, replies := SMap.del k x.replies } else s

theorem acknowledged_ready {k : Nat} {s : State} (h : (s.win 64).ready.testBit k = true) :
    ((s.acknowledged k).win 64).ready.testBit k = false ∧ SMap.find k ((s.acknowledged k).win 64).replies = none
      ∧ ((s.acknowledged k).win 64).busy = (s.win 64).busy ∧ ((s.acknowledged k).win 64).sameButSlot k (s.win 64)
      ∧ (∀ w, w ≠ 64 → (s.acknowledged k).win w = s.win w)
      ∧ s.acknowledged k = { s with ctl := { s.ctl with wins := (s.acknowledged k).ctl.wins } } := by
  have he : s.acknowledged k = s.setWin 64 { s.win 64 with ready := clrBit (s.win 64).ready k, replies := SMap.del k (s.win 64).replies } := if_pos h
  rw [he]
  refine ⟨?_, ?_, ?_, ⟨?_, fun j hj => ?_⟩, fun w hw => ?_, rfl⟩ <;> try rw [State.win_setWin_same]
  · exact testBit_clrBit_same _ _
  · exact SMap.find_del_same _ _
  · exact ⟨rfl, clrBit_same_other hj, rfl, congrArg (Option.getD · _) (SMap.find_del_other hj _)⟩
  · rw [State.win_setWin, if_neg hw]

/-- What REPLY_ACK does once the address has been answered (R398 to R401, R406). -/
def State.replyAcked (a k : Nat) (p : Option Nat) (s : State) : State :=
  if s.ctl.boot = .auxOnly ∨ (s.win 64).busy.testBit k = true then s.refused none true
  else s.busCheck (busWrite a (0x40 + k)) p (State.acknowledged k)

theorem replyAck_exec (a k : Nat) (p : Option Nat) (s : State) :
    exec (.replyAck a k p) s = guarded (.replyAck a k p) s (s.busTransaction a fun t => t.replyAcked a k p) := rfl

section
variable (a k : Nat) (p : Option Nat) (s : State) (ha : a < 128) (hk : k < 4) (h : s.busAnswers a = true) (hst : s.ctl.staged = [])
include ha hk h hst

theorem replyAck_refuses {id : Option Nat} {nak : Bool} (hid : id = none ∨ id = some P.MB_PEC_ERRORS)
    (hbody : (s.addressed a).replyAcked a k p = (s.addressed a).refused id nak) :
    ∃ t, exec (.replyAck a k p) s = .next t ∧ BusRefused a id nak s t := by
  refine bus_refuses (by simp [Instr.wellFormed, ha, hk]) (replyAck_exec a k p s) h hst ?_ hbody
  rcases hid with rfl | rfl <;> rintro j ⟨⟩
  decide

theorem replyAck_refused (hb : s.ctl.boot = .auxOnly ∨ (s.win 64).busy.testBit k = true) :
    ∃ t, exec (.replyAck a k p) s = .next t ∧ BusRefused a none true s t :=
  replyAck_refuses a k p s ha hk h hst (.inl rfl) (if_pos hb)

section
variable (hb : ¬ (s.ctl.boot = .auxOnly ∨ (s.win 64).busy.testBit k = true))
include hb

theorem replyAck_noPec (hp : s.getP P.MB_PEC_REQUIRED 0 = 1) :
    ∃ t, exec (.replyAck a k none) s = .next t ∧ BusRefused a (some P.MB_PEC_ERRORS) false s t :=
  replyAck_refuses a k none s ha hk h hst (.inr rfl) ((if_neg hb).trans (busCheck_missing ((pecRequired_addressed a s).trans hp) _ _))

theorem replyAck_wrongPec {v : Nat} (hv : v ≠ crc8 (busWrite a (0x40 + k))) :
    ∃ t, exec (.replyAck a k (some v)) s = .next t ∧ BusRefused a (some P.MB_PEC_ERRORS) true s t :=
  replyAck_refuses a k (some v) s ha hk h hst (.inr rfl) ((if_neg hb).trans (busCheck_wrong hv _))

theorem replyAck_idle (hp : s.pecPasses (busWrite a (0x40 + k)) p) (hr : (s.win 64).ready.testBit k = false) :
    ∃ t, exec (.replyAck a k p) s = .next t ∧ BusRefused a none false s t := by
  refine replyAck_refuses a k p s ha hk h hst (.inl rfl) ((if_neg hb).trans ((busCheck_passes (pecPasses_addressed hp a) _).trans ?_))
  exact if_neg (by rw [show ((s.addressed a).win 64).ready.testBit k = false from hr]; exact Bool.false_ne_true)

theorem replyAck_frees (hp : s.pecPasses (busWrite a (0x40 + k)) p) (hr : (s.win 64).ready.testBit k = true) :
    ∃ t, exec (.replyAck a k p) s = .next t ∧ t.getP P.MB_LAST_ADDR 0 = a ∧ SameParams [pkey P.MB_LAST_ADDR 0] s t
      ∧ (t.win 64).ready.testBit k = false ∧ SMap.find k (t.win 64).replies = none ∧ (t.win 64).busy = (s.win 64).busy
      ∧ (t.win 64).sameButSlot k (s.win 64) ∧ (∀ w, w ≠ 64 → t.win w = s.win w) ∧ t = { s with
          params := t.params, ctl := { s.ctl with wins := t.ctl.wins, reached := t.ctl.reached, reachedAt := t.ctl.reachedAt } } := by
  obtain ⟨h1, h2, h3, h4, h5, h6⟩ := acknowledged_ready (s := s.addressed a) (k := k) hr
  have hx : s.busTransaction a (fun t => t.replyAcked a k p) = (s.addressed a).acknowledged k :=
    (busTransaction_answered h hst _).trans ((if_neg hb).trans (busCheck_passes (pecPasses_addressed hp a) _))
  generalize (s.addressed a).acknowledged k = u at h1 h2 h3 h4 h5 h6 hx
  refine ⟨u, exec_next (replyAck_exec a k p s) (by simp [Instr.wellFormed, ha, hk]) hx (by rw [h6]; rfl), ?_, ?_, h1, h2, h3, h4, h5, ?_⟩
  · rw [h6]
    exact getP_addressed_last a s
  · rw [h6]
    exact addressed_sameParams a s
  · rw [h6]
    rfl

end
end

/-! ### Aborts and self-reset -/

theorem mbAbort_off {s : State} (h : s.ctl.boot = .off) : exec .mbAbort s = .next s := exec_next rfl rfl (if_pos h) rfl

theorem mbAbort_counts {s : State} (h : s.ctl.boot ≠ .off) : ∃ t, exec .mbAbort s = .next t
    ∧ t.getP P.MB_ABORTS 0 = min (s.getP P.MB_ABORTS 0 + 1) (2 ^ 32 - 1) ∧ SameParams [pkey P.MB_ABORTS 0] s t ∧ t = { s with params := t.params } :=
  ⟨s.bumpSat P.MB_ABORTS 0 1, exec_next rfl rfl (if_neg h) rfl, State.getP_setP_same _ _ _ _, sameParams_setP (by simp) _, rfl⟩

theorem busReset_effect {i : Instr} {cause a x : Nat} {s : State} (hi : i.wellFormed = true) (hx : exec i s = guarded i s (s.busReset cause a x))
    (h : s.busAnswers a = true) (hst : s.ctl.staged = []) :
    ∃ t, exec i s = .next t ∧ t.getP P.MB_RESETS 0 = min (s.getP P.MB_RESETS 0 + 1) (2 ^ 32 - 1) ∧ t.getP P.MB_LAST_ADDR 0 = a
      ∧ SameParams [pkey P.MB_RESETS 0, pkey P.MB_LAST_ADDR 0] s t ∧ EventsOnly { s with
          params := t.params, ctl := { s.ctl with reached := t.ctl.reached, reachedAt := t.ctl.reachedAt } } t := by
  have hbody : s.busReset cause a x = ((s.addressed a).bumpSat P.MB_RESETS 0 1).post 0x92 0x0 0 (cause + at' 8 a + at' 16 x) :=
    busTransaction_answered h hst _
  have hcount : ((s.addressed a).bumpSat P.MB_RESETS 0 1).getP P.MB_RESETS 0 = min (s.getP P.MB_RESETS 0 + 1) (2 ^ 32 - 1) := by
    rw [State.bumpSat, State.getP_setP_same, getP_addressed (by decide), sat32]
    rfl
  have hlast : ((s.addressed a).bumpSat P.MB_RESETS 0 1).getP P.MB_LAST_ADDR 0 = a := by
    rw [State.bumpSat, State.getP_setP, if_neg (by decide), getP_addressed_last]
  have hsame : SameParams [pkey P.MB_RESETS 0, pkey P.MB_LAST_ADDR 0] s ((s.addressed a).bumpSat P.MB_RESETS 0 1) :=
    ((addressed_sameParams a s).mono (by simp)).trans (sameParams_setP (by simp) _)
  obtain ⟨w, v, m, e, he⟩ := eventOnly_post ((s.addressed a).bumpSat P.MB_RESETS 0 1) 0x92 0x0 0 (cause + at' 8 a + at' 16 x)
  have hev := eventsOnly_post ((s.addressed a).bumpSat P.MB_RESETS 0 1) 0x92 0x0 0 (cause + at' 8 a + at' 16 x)
  rw [he] at hbody hev
  exact ⟨_, exec_next hx hi hbody rfl, hcount, hlast, hsame, hev⟩

end Sys2Proof.Machine

open Sys2Proof Sys2Proof.Machine in
/-- Settles O51, from what a transaction does once the address has been answered. -/
theorem managementBusAnswersItsAddresses : Obligations.ManagementBusAnswersItsAddresses := by
  unfold Obligations.ManagementBusAnswersItsAddresses
  refine ⟨fun i a k n x b f p s ha hk hi h hst => ?_, fun a s ha h hst => ?_, fun a k s ha hk h hst => ?_, fun a k n f p s ha hk h hst => ?_,
    fun a k p s ha hk h hst => ?_, fun s => ⟨mbAbort_off, mbAbort_counts⟩, fun i a x s ha h hst hi => ?_⟩
  · simp only [List.mem_cons, List.not_mem_nil, or_false] at hi
    rcases hi with rfl | rfl | rfl | rfl | rfl | rfl | rfl | rfl <;> exact bus_unanswered (by simp [Instr.wellFormed, ha, hk]) rfl h hst
  · have hw : decide (a < 128) = true := decide_eq_true ha
    refine ⟨bus_reads (i := .status ⟨a, false⟩) hw rfl h hst ?_, ?_, bus_reads (i := .slotState a) hw rfl h hst rfl,
      bus_reads (i := .hkRead a) hw rfl h hst ?_⟩
    · rw [← busStatus_addressed a s]
      rfl
    · rintro l rfl
      rw [← busStatus_addressed a s]
      exact ⟨_, exec_next (i := .status ⟨a, true⟩) rfl hw ((busTransaction_answered h hst _).trans (if_pos rfl)) rfl, getP_addressed_last a s,
        addressed_sameParams a s, rfl⟩
    · refine congrArg (State.busRespond a 0x30 · (s.addressed a)) ?_
      exact List.flatMap_congr fun n hn => by rw [hkWord_addressed (List.mem_range.1 hn)]
  · have hw : (Instr.reply a k).wellFormed = true := by simp [Instr.wellFormed, ha, hk]
    refine ⟨fun hb => bus_refuses hw rfl h hst (fun _ hj => nomatch hj) (if_pos hb), fun hb hn => bus_reads hw rfl h hst ((if_neg hb).trans ?_),
      fun r hb hr => bus_reads hw rfl h hst ((if_neg hb).trans ?_)⟩
    · rw [show (s.addressed a).win 64 = s.win 64 from rfl, hn]
    · rw [show (s.addressed a).win 64 = s.win 64 from rfl, hr]
  · refine ⟨submit_unpowered a k n f p s ha hk h hst, fun hb => ⟨submit_slotTaken a k n f p s ha hk h hst hb, submit_badLength a k n f p s ha hk h hst hb,
      submit_cutShort a k n f p s ha hk h hst hb, fun hf h16 h256 hl => ⟨?_, ?_, submit_rings a k n f p s ha hk h hst hb hf h16 h256 hl⟩⟩⟩
    · rintro rfl hp
      exact submit_noPec a k n f s ha hk h hst hb hf h16 h256 hl hp
    · rintro v rfl hv
      exact submit_wrongPec a k n f s ha hk h hst hb hf h16 h256 hl hv
  · refine ⟨replyAck_refused a k p s ha hk h hst, fun hb hbusy => ?_⟩
    have hfree : ¬ (s.ctl.boot = .auxOnly ∨ (s.win 64).busy.testBit k = true) := by simp [hb, hbusy]
    refine ⟨?_, ?_, fun hp => ⟨replyAck_idle a k p s ha hk h hst hfree hp, replyAck_frees a k p s ha hk h hst hfree hp⟩⟩
    · rintro rfl hp
      exact replyAck_noPec a k s ha hk h hst hfree hp
    · rintro v rfl hv
      exact replyAck_wrongPec a k s ha hk h hst hfree hv
  · have hw : decide (a < 128) = true := decide_eq_true ha
    simp only [List.mem_cons, List.not_mem_nil, or_false] at hi
    rcases hi with rfl | rfl <;> exact busReset_effect hw rfl h hst
end

section
/-! Event records beside other changes, and housekeeping: conversions, the thermal trip, throttling and background work (14_housekeeping.md). -/

namespace Sys2Proof.Machine

/-! ### Event records written beside a change -/

/-- `s` with other event rings, views, host memory and AER. -/
def State.withRings (w : SMap Window) (v : List View) (m : SMap Byte) (a : Nat) (s : State) : State :=
  { s with ctl := { s.ctl with wins := w, views := v, hostMem := m, aer := a } }

/-- A change that neither reads nor writes what event records change may be made before them as well. -/
theorem EventsOnly.lift {s t : State} (h : EventsOnly s t) (F : State → State)
    (hF : ∀ (x : State) w v m a, F (x.withRings w v m a) = (F x).withRings w v m a) (hw : ∀ x : State, (F x).ctl.wins = x.ctl.wins) :
    EventsOnly (F s) (F t) := by
  obtain ⟨w, v, m, a, rfl, hr⟩ := h.rings
  refine ⟨⟨w, v, m, a, hF s w v m a⟩, fun n => ?_⟩
  rw [State.win, State.win, hw, hw]
  exact hr n

theorem eventsOnly_mapViews (f : View → View) (s : State) : EventsOnly s (s.mapViews f) := ⟨eventOnly_mapViews s f, fun _ => rfl⟩

theorem eventsOnly_advanceAll (s : State) : EventsOnly s s.advanceAll := eventsOnly_mapViews _ s

theorem raiseService_events (c : ServiceCond) (s : State) :
    ∃ x, EventsOnly { s with ctl := { s.ctl with service := x } } (s.raiseService c) ∧ c ∈ x := by
  unfold State.raiseService
  split
  · next h => exact ⟨s.ctl.service, EventsOnly.refl s, List.contains_iff_mem.1 h⟩
  · exact ⟨c :: s.ctl.service, eventsOnly_advanceAll _, List.mem_cons_self⟩

theorem clearService_events (c : ServiceCond) (s : State) :
    ∃ x, EventsOnly { s with ctl := { s.ctl with service := x } } (s.clearService c) := by
  unfold State.clearService
  split
  · exact ⟨_, eventsOnly_advanceAll _⟩
  · exact ⟨_, EventsOnly.refl s⟩

theorem logFault_events (cls idx code detail : Nat) (s : State) : ∃ l n,
    EventsOnly { s with ctl := { s.ctl with faultLog := l, faultNext := n } } (s.logFault cls idx code detail)
      ∧ (l.getLast?.map fun x => (x.seq, x.cls, x.idx, x.code)) = some (s.ctl.faultNext, cls, idx, code) := by
  obtain ⟨hlog, -⟩ := logFault_effect s cls idx code detail
  refine ⟨_, _, (eventsOnly_mapViews _ _).trans (eventsOnly_post _ 0x0D cls idx _), ?_⟩
  rw [drop_concat_kept _ _ 64 (by decide)]
  simp

/-! ### Readings -/

theorem hkFlags_mod (raw : Nat) (v f o : Bool) : hkFlags raw v f o % 0x10000 = raw % 0x10000 := by
  have key : ∀ x y z : Nat, (raw % 0x10000 + x <<< 16 + y <<< 17 + z <<< 18) % 0x10000 = raw % 0x10000 := by
    intro x y z
    rw [Nat.shiftLeft_eq, Nat.shiftLeft_eq, Nat.shiftLeft_eq]
    omega
  exact key _ _ _

theorem signed_hkFlags (raw : Nat) (v f o : Bool) : signed 16 (hkFlags raw v f o) = signed 16 raw := by
  simp only [signed, show (2 : Nat) ^ 16 = 0x10000 from rfl, hkFlags_mod]

/-- The parameters of channel `n`'s readings. -/
abbrev hkKeys (n : Nat) : List Nat := [pkey P.HK_READING n, pkey P.HK_MIN n, pkey P.HK_MAX n]

theorem hkRange_effect (n raw : Nat) (le : Nat → Nat → Bool) (s : State) :
    s.hkRange n raw le = { s with params := (s.hkRange n raw le).params, hk := { s.hk with seen := setBit s.hk.seen n } }
      ∧ SameParams [pkey P.HK_MIN n, pkey P.HK_MAX n] s (s.hkRange n raw le)
      ∧ (s.hkRange n raw le).getP P.HK_MIN n = (if (!s.hk.seen.testBit n || le raw (s.getP P.HK_MIN n)) = true then raw else s.getP P.HK_MIN n)
      ∧ (s.hkRange n raw le).getP P.HK_MAX n = (if (!s.hk.seen.testBit n || le (s.getP P.HK_MAX n) raw) = true then raw else s.getP P.HK_MAX n) := by
  have hne : pkey P.HK_MIN n ≠ pkey P.HK_MAX n := by simp only [pkey, P.HK_MIN, P.HK_MAX]; omega
  generalize ha : (!s.hk.seen.testBit n || le raw (s.getP P.HK_MIN n)) = a
  generalize hb : (!s.hk.seen.testBit n || le (s.getP P.HK_MAX n) raw) = b
  have he : s.hkRange n raw le = (if b then (if a then State.setP { s with hk := { s.hk with seen := setBit s.hk.seen n } } P.HK_MIN n raw
      else { s with hk := { s.hk with seen := setBit s.hk.seen n } }).setP P.HK_MAX n raw
    else if a then State.setP { s with hk := { s.hk with seen := setBit s.hk.seen n } } P.HK_MIN n raw
      else { s with hk := { s.hk with seen := setBit s.hk.seen n } }) := by
    rw [← ha, ← hb]
    rfl
  rw [he]
  have hsame : ∀ v, SameParams [pkey P.HK_MIN n, pkey P.HK_MAX n] s (State.setP { s with hk := { s.hk with seen := setBit s.hk.seen n } } P.HK_MIN n v) :=
    fun v => (sameParams_of_params rfl).trans (sameParams_setP (by simp) v)
  cases a <;> cases b
  · exact ⟨rfl, fun _ _ => rfl, rfl, rfl⟩
  · exact ⟨rfl, (sameParams_of_params rfl).trans (sameParams_setP (by simp) raw), (State.getP_setP _ _ _ _ _ _).trans (if_neg hne), State.getP_setP_same _ _ _ _⟩
  · exact ⟨rfl, hsame raw, State.getP_setP_same _ _ _ _, (State.getP_setP _ _ _ _ _ _).trans (if_neg hne.symm)⟩
  · exact ⟨rfl, (hsame raw).trans (sameParams_setP (by simp) raw), (State.getP_setP _ _ _ _ _ _).trans ((if_neg hne).trans (State.getP_setP_same _ _ _ _)),
      State.getP_setP_same _ _ _ _⟩

theorem hkFlags_bits {raw : Nat} (h : raw < 65536) (v f o : Bool) :
    hkFlags raw v f o = raw + 0x10000 * b2n v + 0x20000 * b2n f + 0x40000 * b2n o := by
  have key : ∀ x y z : Nat, raw % 0x10000 + x <<< 16 + y <<< 17 + z <<< 18 = raw + 0x10000 * x + 0x20000 * y + 0x40000 * z := by
    intro x y z
    rw [Nat.shiftLeft_eq, Nat.shiftLeft_eq, Nat.shiftLeft_eq, Nat.mod_eq_of_lt h]
    omega
  exact key _ _ _

theorem hkFlags_valid {raw : Nat} (h : raw < 65536) : hkFlags raw true false false = raw + 0x10000 := by
  rw [hkFlags_bits h]
  rfl

theorem hkFlags_none (raw : Nat) : hkFlags raw false false false = raw % 0x10000 := by
  have key : ∀ a : Nat, a + 0 <<< 16 + 0 <<< 17 + 0 <<< 18 = a := by simp
  exact key _

/-! ### Supplies and board inputs (R407, R409) -/

/-- The next channel's turn. -/
def State.nextChannel (s : State) : State := { s with hk := { s.hk with next := (s.hk.next + 1) % 32 } }

theorem hkConversion_supply {r v n : Nat} {s : State} (hb : s.ctl.boot ≠ .off) (hn : s.hk.next = n) (h5 : 5 ≤ n) (hr : r < 65536)
    (hv : v = if n < 15 then r else min r 19200) : exec (.hkConversion r) s
      = guarded (.hkConversion r) s (if n = 31 then (s.nextChannel.supplyConversion n v).roundEnd else s.nextChannel.supplyConversion n v) := by
  subst hn
  have hv' : (if s.hk.next < 15 then r % 0x10000 else min (r % 0x10000) 19200) = v := by rw [Nat.mod_eq_of_lt hr, hv]
  refine (show exec (.hkConversion r) s = guarded (.hkConversion r) s _ from rfl).trans ?_
  rw [if_neg hb]
  dsimp only
  rw [hv', if_neg (show ¬ s.hk.next < 5 by omega)]
  rfl

theorem hkLimit_key {n : Nat} : pkey P.HK_READING n ≠ pkey P.HK_MIN n ∧ pkey P.HK_READING n ≠ pkey P.HK_MAX n := by
  simp only [pkey, P.HK_READING, P.HK_MIN, P.HK_MAX]
  omega

/-- The reading `raw` of channel `n` is kept, with these flags. -/
def State.readingKept (n raw : Nat) (le : Nat → Nat → Bool) (flags : Nat) (s : State) : State := (s.hkRange n raw le).setP P.HK_READING n flags

theorem readingKept_effect (n raw : Nat) (le : Nat → Nat → Bool) (flags : Nat) (s : State) :
    s.readingKept n raw le flags = { s with params := (s.readingKept n raw le flags).params, hk := { s.hk with seen := setBit s.hk.seen n } }
      ∧ SameParams (hkKeys n) s (s.readingKept n raw le flags) ∧ (s.readingKept n raw le flags).getP P.HK_READING n = flags
      ∧ (s.readingKept n raw le flags).getP P.HK_MIN n = (if (!s.hk.seen.testBit n || le raw (s.getP P.HK_MIN n)) = true then raw else s.getP P.HK_MIN n)
      ∧ (s.readingKept n raw le flags).getP P.HK_MAX n = (if (!s.hk.seen.testBit n || le (s.getP P.HK_MAX n) raw) = true then raw else s.getP P.HK_MAX n) := by
  obtain ⟨hf, hs, hmin, hmax⟩ := hkRange_effect n raw le s
  unfold State.readingKept
  generalize s.hkRange n raw le = t at hf hs hmin hmax
  refine ⟨?_, (hs.mono (by simp)).trans (sameParams_setP (by simp) _), State.getP_setP_same _ _ _ _, ?_, ?_⟩
  · generalize t.params = q at hf
    subst hf
    rfl
  · rw [State.getP_setP, if_neg hkLimit_key.1.symm, hmin]
  · rw [State.getP_setP, if_neg hkLimit_key.2.symm, hmax]

/-- The order of supply readings. -/
abbrev supplyLe : Nat → Nat → Bool := fun a b => decide (a ≤ b)

theorem supplyConversion_within {n v : Nat} {s : State} (hwas : (s.getP P.HK_READING n).testBit 18 = false) (hlo : s.getP P.HK_LIMIT_LO n ≤ v)
    (hhi : v ≤ s.getP P.HK_LIMIT_HI n) : s.supplyConversion n v = s.readingKept n v supplyLe (hkFlags v true false false) := by
  have h1 : decide (v < s.getP P.HK_LIMIT_LO n) = false := decide_eq_false (by omega)
  have h2 : decide (s.getP P.HK_LIMIT_HI n < v) = false := decide_eq_false (by omega)
  simp only [State.supplyConversion, hwas, h1, h2, Bool.or_false, Bool.and_false, Bool.false_and, Bool.false_eq_true, if_false]
  rfl

/-- Channel `n` is out of its limits, above or below them. -/
def State.limitPassed (n : Nat) (high : Bool) (s : State) : State :=
  { s with hk := { s.hk with outHigh := if high then setBit s.hk.outHigh n else clrBit s.hk.outHigh n } }

theorem supplyConversion_outside {n v : Nat} {s : State} (hwas : (s.getP P.HK_READING n).testBit 18 = false)
    (hout : v < s.getP P.HK_LIMIT_LO n ∨ s.getP P.HK_LIMIT_HI n < v) (hfree : ¬ (s.getP P.HK_LIMIT_LO n = 0 ∧ s.getP P.HK_LIMIT_HI n = 65535)) :
    s.supplyConversion n v = (((s.readingKept n v supplyLe (hkFlags v true false true)).limitPassed n
      (decide (s.getP P.HK_LIMIT_HI n < v))).raiseService (.hkLimit n)).post 0x91 0xD n (1 + at' 1 (b2n (decide (s.getP P.HK_LIMIT_HI n < v))) + at' 16 v) := by
  have hbad : (!decide (s.getP P.HK_LIMIT_LO n = 0 ∧ s.getP P.HK_LIMIT_HI n = 65535) && (decide (v < s.getP P.HK_LIMIT_LO n) || decide (s.getP P.HK_LIMIT_HI n < v)))
      = true := by simpa [hfree] using hout
  simp only [State.supplyConversion, hwas, hbad, Bool.or_false, Bool.false_and, Bool.not_false, Bool.and_self, if_true]
  rfl

theorem roundEnd_quiet {s : State} (hb : s.ctl.boot ≠ .running) (ht : s.hk.trip = false) :
    s.roundEnd = { s.bumpWrap P.HK_ROUNDS 0 1 with hk := { s.hk with lastRound := s.now } } := by
  have ht' : ¬ (s.bumpWrap P.HK_ROUNDS 0 1).hk.trip = true := by
    rw [show (s.bumpWrap P.HK_ROUNDS 0 1).hk.trip = false from ht]
    exact Bool.false_ne_true
  unfold State.roundEnd
  dsimp only
  rw [if_neg ht']
  exact if_neg hb

theorem rounds_key {n : Nat} : pkey P.HK_ROUNDS 0 ∉ hkKeys n ∨ 32 ≤ n := by
  simp only [hkKeys, pkey, P.HK_READING, P.HK_MIN, P.HK_MAX, P.HK_ROUNDS, List.mem_cons, List.not_mem_nil, or_false]
  omega

theorem hkConversion_within {r v n lo hi : Nat} {fresh : Bool} {s : State} (hb : s.ctl.boot ≠ .off) (hn : s.hk.next = n) (h5 : 5 ≤ n) (h31 : n ≤ 31)
    (hr : r < 65536) (hv : v = if n < 15 then r else min r 19200) (hlo : lo = s.getP P.HK_LIMIT_LO n) (hhi : hi = s.getP P.HK_LIMIT_HI n)
    (hwas : (s.getP P.HK_READING n).testBit 18 = false) (hfresh : fresh = !s.hk.seen.testBit n) (h1 : lo ≤ v) (h2 : v ≤ hi)
    (hend : n = 31 → s.ctl.boot ≠ .running ∧ s.hk.trip = false) : ∃ t, exec (.hkConversion r) s = .next t ∧ t.getP P.HK_READING n = v + 0x10000
      ∧ t.getP P.HK_MIN n = (if fresh = true then v else min v (s.getP P.HK_MIN n)) ∧ t.getP P.HK_MAX n = (if fresh = true then v else max v (s.getP P.HK_MAX n))
      ∧ t.getP P.HK_ROUNDS 0 = (if n = 31 then (s.getP P.HK_ROUNDS 0 + 1) % 2 ^ 32 else s.getP P.HK_ROUNDS 0)
      ∧ SameParams [pkey P.HK_READING n, pkey P.HK_MIN n, pkey P.HK_MAX n, pkey P.HK_ROUNDS 0] s t
      ∧ t = { s with params := t.params, hk := { s.hk with
          next := (n + 1) % 32, seen := setBit s.hk.seen n, lastRound := if n = 31 then s.now else s.hk.lastRound } } := by
  have hv16 : v < 65536 := by rw [hv]; split <;> omega
  have hx := hkConversion_supply hb hn h5 hr hv
  rw [supplyConversion_within (s := s.nextChannel) hwas (hlo ▸ h1) (hhi ▸ h2)] at hx
  obtain ⟨hf, hs, hread, hmin, hmax⟩ := readingKept_effect n v supplyLe (hkFlags v true false false) s.nextChannel
  generalize s.nextChannel.readingKept n v supplyLe (hkFlags v true false false) = t at hx hf hs hread hmin hmax
  have hreading : t.getP P.HK_READING n = v + 0x10000 := by rw [hread, hkFlags_bits hv16]; rfl
  have hmin' : t.getP P.HK_MIN n = if fresh = true then v else min v (s.getP P.HK_MIN n) := by
    rw [hmin, hfresh, show s.nextChannel.hk.seen = s.hk.seen from rfl, show s.nextChannel.getP P.HK_MIN n = s.getP P.HK_MIN n from rfl]
    cases s.hk.seen.testBit n <;> simp [supplyLe, min_def]
  have hmax' : t.getP P.HK_MAX n = if fresh = true then v else max v (s.getP P.HK_MAX n) := by
    rw [hmax, hfresh, show s.nextChannel.hk.seen = s.hk.seen from rfl, show s.nextChannel.getP P.HK_MAX n = s.getP P.HK_MAX n from rfl]
    cases s.hk.seen.testBit n <;> simp [supplyLe, max_def]
    split <;> split <;> omega
  have hrounds : t.getP P.HK_ROUNDS 0 = s.getP P.HK_ROUNDS 0 := hs.getP (rounds_key.resolve_right (by omega))
  have hs' : SameParams [pkey P.HK_READING n, pkey P.HK_MIN n, pkey P.HK_MAX n, pkey P.HK_ROUNDS 0] s t := SameParams.mono (s := s) hs (by simp)
  subst hn
  by_cases hlast : s.hk.next = 31
  · obtain ⟨hnr, htrip⟩ := hend hlast
    have hkey : ∀ i, i = P.HK_READING ∨ i = P.HK_MIN ∨ i = P.HK_MAX → pkey i s.hk.next ≠ pkey P.HK_ROUNDS 0 := by
      simp only [pkey, P.HK_READING, P.HK_MIN, P.HK_MAX, P.HK_ROUNDS]
      omega
    have hr2 : t.roundEnd = { t.bumpWrap P.HK_ROUNDS 0 1 with hk := { t.hk with lastRound := t.now } } :=
      roundEnd_quiet (by rw [hf]; exact hnr) (by rw [hf]; exact htrip)
    rw [if_pos hlast, hr2] at hx
    refine ⟨_, exec_next hx rfl rfl (by rw [hf]; rfl), ?_, ?_, ?_, ?_, hs'.trans (sameParams_setP (by simp) _), ?_⟩
    · exact ((State.getP_setP _ _ _ _ _ _).trans (if_neg (hkey _ (.inl rfl)))).trans hreading
    · exact ((State.getP_setP _ _ _ _ _ _).trans (if_neg (hkey _ (.inr (.inl rfl))))).trans hmin'
    · exact ((State.getP_setP _ _ _ _ _ _).trans (if_neg (hkey _ (.inr (.inr rfl))))).trans hmax'
    · rw [if_pos hlast, ← hrounds]
      exact State.getP_setP_same _ _ _ _
    · generalize hq : t.bumpWrap P.HK_ROUNDS 0 1 = b
      have hb : b = { t with params := b.params } := by rw [← hq]; rfl
      generalize b.params = q at hb
      generalize t.params = q' at hf
      subst hb hf
      simp only [if_pos hlast]
      rfl
  · rw [if_neg hlast] at hx
    refine ⟨t, exec_next hx rfl rfl (by rw [hf]; rfl), hreading, hmin', hmax', by rw [if_neg hlast, hrounds], hs', ?_⟩
    rw [if_neg hlast]
    exact hf

theorem limitPassed_outHigh (n : Nat) (high : Bool) (s : State) : (s.limitPassed n high).hk.outHigh.testBit n = high := by
  cases high
  · exact testBit_clrBit_same _ _
  · exact testBit_setBit_same _ _

theorem hkConversion_outside {r v n lo hi : Nat} {s : State} (hb : s.ctl.boot ≠ .off) (hn : s.hk.next = n) (h5 : 5 ≤ n) (h31 : n < 31)
    (hr : r < 65536) (hv : v = if n < 15 then r else min r 19200) (hlo : lo = s.getP P.HK_LIMIT_LO n) (hhi : hi = s.getP P.HK_LIMIT_HI n)
    (hwas : (s.getP P.HK_READING n).testBit 18 = false) (hout : v < lo ∨ hi < v) (hfree : ¬ (lo = 0 ∧ hi = 65535)) :
    ∃ t, exec (.hkConversion r) s = .next t ∧ t.getP P.HK_READING n = v + 0x50000
      ∧ t.hk.outHigh.testBit n = decide (hi < v) ∧ .hkLimit n ∈ t.ctl.service ∧ SameParams [pkey P.HK_READING n, pkey P.HK_MIN n, pkey P.HK_MAX n] s t
      ∧ EventsOnly { s with params := t.params, hk := { s.hk with next := n + 1, seen := setBit s.hk.seen n, outHigh := t.hk.outHigh }, ctl := { s.ctl with service := t.ctl.service } } t := by
  have hv16 : v < 65536 := by rw [hv]; split <;> omega
  subst hlo hhi
  have hx := hkConversion_supply hb hn h5 hr hv
  rw [if_neg (by omega), supplyConversion_outside (s := s.nextChannel) hwas hout hfree] at hx
  obtain ⟨hf, hs, hread, -, -⟩ := readingKept_effect n v supplyLe (hkFlags v true false true) s.nextChannel
  generalize s.nextChannel.readingKept n v supplyLe (hkFlags v true false true) = x at hx hf hs hread
  have hreading : x.getP P.HK_READING n = v + 0x50000 := (hread.trans (hkFlags_bits hv16 _ _ _)).trans (Nat.add_assoc v 0x10000 0x40000)
  rw [show s.nextChannel.getP P.HK_LIMIT_HI n = s.getP P.HK_LIMIT_HI n from rfl] at hx
  generalize hh : decide (s.getP P.HK_LIMIT_HI n < v) = high at hx
  have hhigh := limitPassed_outHigh n high x
  obtain ⟨c, hev, hc⟩ := raiseService_events (.hkLimit n) (x.limitPassed n high)
  have hev2 := hev.trans (eventsOnly_post _ 0x91 0xD n (1 + at' 1 (b2n high) + at' 16 v))
  generalize (((x.limitPassed n high).raiseService (.hkLimit n)).post 0x91 0xD n (1 + at' 1 (b2n high) + at' 16 v)) = t at hx hev2
  have hnext : s.nextChannel.hk.next = n + 1 := by
    show (s.hk.next + 1) % 32 = n + 1
    omega
  obtain ⟨w, e, m, a, rfl, hrings⟩ := hev2.rings
  generalize x.params = q at hf
  subst hf
  refine ⟨_, exec_next hx rfl rfl rfl, hreading, hhigh, hc, SameParams.mono (s := s) hs (by simp), ?_⟩
  refine ⟨⟨w, e, m, a, ?_⟩, hrings⟩
  rw [← hnext]
  rfl

/-! ### Diodes (R408, R410) -/

theorem nextChannel_eq {n : Nat} {s : State} (hn : s.hk.next = n) (h5 : n < 5) : s.nextChannel = { s with hk := { s.hk with next := n + 1 } } := by
  have hmod : (s.hk.next + 1) % 32 = n + 1 := by omega
  rw [State.nextChannel, hmod]

theorem hkConversion_diode {r n : Nat} {s : State} (hb : s.ctl.boot ≠ .off) (hn : s.hk.next = n) (h5 : n < 5) (hr : r < 65536) :
    exec (.hkConversion r) s = guarded (.hkConversion r) s (s.nextChannel.diodeConversion n r) := by
  subst hn
  have hv' : (if s.hk.next < 15 then r % 0x10000 else min (r % 0x10000) 19200) = r := by rw [Nat.mod_eq_of_lt hr, if_pos (by omega)]
  refine (show exec (.hkConversion r) s = guarded (.hkConversion r) s _ from rfl).trans ?_
  rw [if_neg hb]
  dsimp only
  rw [hv', if_pos h5, if_neg (by omega)]
  rfl

theorem diode_modDiode (n : Nat) (f : Diode → Diode) (s : State) (k : Nat) :
    (s.modDiode n f).diode k = if k = n ∧ n < s.hk.diodes.length then f (s.diode k) else s.diode k := modAt_getD f {} n k s.hk.diodes

theorem dieTemp_of_sound {s : State} {n : Nat} (h : (s.diode n).faulty = false) : s.dieTemp n = s.hkReading n :=
  if_neg (show ¬ (s.diode n).faulty = true by simp [h])

theorem dieTemp_congr {s t : State} (hd : t.hk.diodes = s.hk.diodes) (hr : ∀ k, k < 5 → t.getP P.HK_READING k = s.getP P.HK_READING k) {k : Nat} (hk : k < 5) :
    t.dieTemp k = s.dieTemp k := by
  have hread : ∀ n, n < 5 → t.hkReading n = s.hkReading n := fun n hn => congrArg (signed 16) (hr n hn)
  have hvalid : t.hottestValid = s.hottestValid := by
    unfold State.hottestValid
    rw [hd]
    refine List.foldl_ext _ _ _ fun a n hn => ?_
    have := hread n (List.mem_range.1 (List.mem_filter.1 hn).1)
    cases a <;> simp only [this]
  simp only [State.dieTemp, hd, hvalid, hread k hk]

theorem hottest_congr {s t : State} (hd : t.hk.diodes = s.hk.diodes) (hr : ∀ k, k < 5 → t.getP P.HK_READING k = s.getP P.HK_READING k) :
    t.hottest = s.hottest := by
  unfold State.hottest
  rw [dieTemp_congr hd hr (by decide : 0 < 5)]
  refine List.foldl_ext _ _ _ fun a n hn => ?_
  rw [dieTemp_congr hd hr (List.mem_range.1 hn)]

theorem hottest_lt {s : State} {m : Int} (h : ∀ k, k < 5 → s.dieTemp k < m) : s.hottest.1 < m := by
  unfold State.hottest
  refine List.foldlRecOn (motive := fun b : Int × Nat => b.1 < m) _ _ (h 0 (by decide)) fun b hb n hn => ?_
  split
  · exact h n (List.mem_range.1 hn)
  · exact hb

/-- A valid round of a diode (R408). -/
def Diode.good (x : Diode) : Diode := { x with badRun := 0, goodRun := x.goodRun + 1 }

/-- An invalid round of a diode. -/
def Diode.bad (x : Diode) : Diode := { x with badRun := x.badRun + 1, goodRun := 0 }

/-- The order of diode readings. -/
abbrev diodeLe : Nat → Nat → Bool := fun a b => decide (signed 16 a ≤ signed 16 b)

/-- A valid reading of a diode that is not FAULTY is kept. -/
def State.diodeKept (n raw : Nat) (s : State) : State := (s.modDiode n Diode.good).readingKept n raw diodeLe (hkFlags raw true false false)

/-- TH_HOTTEST follows the dies. -/
def State.hottestNoted (s : State) : State := s.setP P.TH_HOTTEST 0 (unsigned 16 s.hottest.1 + at' 16 s.hottest.2)

/-- The thermal trip and the throttle threshold after a conversion (R411, R412): `hot` says that a reading is past the shutdown threshold. -/
def State.heatReviewed (n : Nat) (hot : Bool) (before h : Int) (s : State) : State :=
  let s1 := if hot || s.allFaulty then s.thermalTrip n else s
  if before < s1.threshold 1 ∧ s1.threshold 1 ≤ h ∧ !s1.hk.trip then s1.setStep (min (s1.getP P.TH_STEP 0 + 1) (s1.getP P.TH_STEP_MAX 0)) else s1

/-- The three thresholds of a diode. -/
def State.crossings (n : Nat) (s : State) : State := [0, 1, 2].foldl (fun u i => u.crossing n i) s

theorem diodeConversion_valid {n raw : Nat} {s : State} (hv : -640 ≤ signed 16 raw ∧ signed 16 raw ≤ 2400) (hn : n < s.hk.diodes.length)
    (hf : (s.diode n).faulty = false) : s.diodeConversion n raw = (((s.diodeKept n raw).crossings n).hottestNoted).heatReviewed n
      (decide ((((s.diodeKept n raw).crossings n).hottestNoted).threshold 2 ≤ signed 16 raw)) s.hottestReading ((s.diodeKept n raw).crossings n).hottest.1 := by
  have hround : s.diodeRound n raw true = s.modDiode n Diode.good := by
    simp only [State.diodeRound, hf, Bool.false_eq_true, false_and, if_true, if_false]
    rfl
  have hdiode : ((s.modDiode n Diode.good).hkRange n raw diodeLe).diode n = (s.diode n).good := by
    rw [State.diode, (hkRange_effect n raw diodeLe (s.modDiode n Diode.good)).1]
    exact (diode_modDiode n Diode.good s n).trans (if_pos ⟨rfl, hn⟩)
  have hfaulty : (((s.modDiode n Diode.good).hkRange n raw diodeLe).diode n).faulty = false := by rw [hdiode]; exact hf
  unfold State.diodeConversion
  dsimp only
  rw [decide_eq_true hv]
  simp only [hround, hfaulty, if_true, Bool.true_or, Bool.true_and]
  rfl

theorem diodeConversion_invalid {n raw : Nat} {s : State} (hv : ¬ (-640 ≤ signed 16 raw ∧ signed 16 raw ≤ 2400)) (hn : n < s.hk.diodes.length)
    (hf : (s.diode n).faulty = false) (hb : (s.diode n).badRun = 0) : s.diodeConversion n raw
      = (((s.modDiode n Diode.bad).setP P.HK_READING n (hkFlags (s.getP P.HK_READING n) false false false)).hottestNoted).heatReviewed n false s.hottestReading
        ((s.modDiode n Diode.bad).setP P.HK_READING n (hkFlags (s.getP P.HK_READING n) false false false)).hottest.1 := by
  have hround : s.diodeRound n raw false = s.modDiode n Diode.bad := by
    simp only [State.diodeRound, hf, hb, Bool.false_eq_true, if_false, Bool.not_false, true_and]
    exact if_neg (by decide)
  have hfaulty : ((s.modDiode n Diode.bad).diode n).faulty = false := by
    rw [diode_modDiode, if_pos ⟨rfl, hn⟩]
    exact hf
  have hfaulty' : ∀ v, (((s.modDiode n Diode.bad).setP P.HK_READING n v).diode n).faulty = false := fun _ => hfaulty
  unfold State.diodeConversion
  dsimp only
  rw [decide_eq_false hv]
  simp only [hround, hfaulty, hfaulty', Bool.false_eq_true, if_false, Bool.false_or, Bool.or_false, Bool.false_and]
  rfl

theorem diodeKept_effect (n raw : Nat) (s : State) :
    s.diodeKept n raw = { s with
        params := (s.diodeKept n raw).params, hk := { s.hk with seen := setBit s.hk.seen n, diodes := modAt Diode.good n s.hk.diodes } }
      ∧ SameParams (hkKeys n) s (s.diodeKept n raw) ∧ (s.diodeKept n raw).getP P.HK_READING n = hkFlags raw true false false := by
  obtain ⟨hf, hs, hread, -, -⟩ := readingKept_effect n raw diodeLe (hkFlags raw true false false) (s.modDiode n Diode.good)
  exact ⟨hf, hs, hread⟩

/-- The thresholds' parameters. -/
abbrev thresholdKeys : List Nat := [pkey P.TH_WARN 0, pkey P.TH_THROTTLE 0, pkey P.TH_SHUTDOWN 0]

theorem threshold_congr {l : List Nat} {s t : State} (h : SameParams l s t) (hl : ∀ k ∈ thresholdKeys, k ∉ l) (i : Nat) :
    t.threshold i = s.threshold i := by
  simp only [State.threshold, h.getP (hl (pkey P.TH_WARN 0) (by simp)), h.getP (hl (pkey P.TH_THROTTLE 0) (by simp)),
    h.getP (hl (pkey P.TH_SHUTDOWN 0) (by simp))]

theorem thresholdKeys_hkKeys (n : Nat) (hn : n < 5) : ∀ k ∈ thresholdKeys, k ∉ hkKeys n := by
  simp only [thresholdKeys, hkKeys, pkey, P.TH_WARN, P.TH_THROTTLE, P.TH_SHUTDOWN, P.HK_READING, P.HK_MIN, P.HK_MAX, List.mem_cons, List.not_mem_nil,
    or_false]
  omega

theorem heatReviewed_calm {n : Nat} {before h : Int} {s : State} (hf : s.allFaulty = false) (hh : h < s.threshold 1) :
    s.heatReviewed n false before h = s := by
  simp only [State.heatReviewed, hf, Bool.or_self, Bool.false_eq_true, if_false]
  exact if_neg fun hc => absurd hc.2.1 (by omega)

theorem not_allFaulty {s : State} {k : Nat} (hk : k < 5) (h : (s.diode k).faulty = false) : s.allFaulty = false := by
  unfold State.allFaulty
  rw [List.all_eq_false]
  exact ⟨k, List.mem_range.2 hk, by simp [h]⟩

theorem hottestNoted_hottest (s : State) : s.hottestNoted.hottest = s.hottest :=
  hottest_congr rfl fun k hk => (State.getP_setP _ _ _ _ _ _).trans (if_neg (by simp only [pkey, P.HK_READING, P.TH_HOTTEST]; omega))

theorem hottestNoted_threshold (s : State) (i : Nat) : s.hottestNoted.threshold i = s.threshold i :=
  threshold_congr (l := [pkey P.TH_HOTTEST 0]) (sameParams_setP (by simp) _) (by decide) i

theorem hottestNoted_diode (s : State) (k : Nat) : s.hottestNoted.diode k = s.diode k := by
  rw [State.diode, State.hottestNoted, State.setP_hk]
  rfl

theorem hottestNoted_effect (s : State) : (∃ q, s.hottestNoted = { s with params := q }) ∧ SameParams [pkey P.TH_HOTTEST 0] s s.hottestNoted
    ∧ s.hottestNoted.getP P.TH_HOTTEST 0 = unsigned 16 s.hottestNoted.hottest.1 + at' 16 s.hottestNoted.hottest.2
    ∧ ∀ k, s.hottestNoted.diode k = s.diode k := by
  rw [hottestNoted_hottest]
  exact ⟨⟨_, rfl⟩, sameParams_setP (by simp) _, State.getP_setP_same _ _ _ _, hottestNoted_diode s⟩

theorem heatReviewed_noted {n k : Nat} {before : Int} {s : State} (hk : k < 5) (hf : (s.diode k).faulty = false)
    (hlt : ∀ k, k < 5 → s.dieTemp k < s.threshold 1) : s.hottestNoted.heatReviewed n false before s.hottest.1 = s.hottestNoted := by
  have hall : s.hottestNoted.allFaulty = false := not_allFaulty hk (by rw [hottestNoted_diode, hf])
  have hh : s.hottest.1 < s.hottestNoted.threshold 1 := by
    rw [hottestNoted_threshold]
    exact hottest_lt hlt
  exact heatReviewed_calm hall hh

theorem crossing_none {n i : Nat} {s : State} (ha : (s.diode n).above = 0) (ht : s.dieTemp n < s.threshold i) : s.crossing n i = s := by
  simp only [State.crossing, ha, Nat.zero_testBit, Bool.not_false, true_and, Bool.false_eq_true, false_and, if_false]
  exact if_neg (by omega)

theorem readingKey_ne {k n : Nat} (h : k ≠ n) (hk : k < 5) (hn : n < 5) : pkey P.HK_READING k ∉ hkKeys n := by
  simp only [hkKeys, pkey, P.HK_READING, P.HK_MIN, P.HK_MAX, List.mem_cons, List.not_mem_nil, or_false]
  omega

theorem readingKey_ne_hottest {n : Nat} (h : n < 5) : pkey P.HK_READING n ≠ pkey P.TH_HOTTEST 0 := by
  simp only [pkey, P.HK_READING, P.TH_HOTTEST]
  omega

section
variable {r n : Nat} {v : Int} {d : Diode} {s : State} (hb : s.ctl.boot ≠ .off) (hn : s.hk.next = n) (h5 : n < 5) (hr : r < 65536) (hv : v = signed 16 r)
  (hlen : s.hk.diodes.length = 5) (hd : s.diode n = d) (hdf : d.faulty = false)
include hb hn h5 hr hv hlen hd hdf

theorem hkConversion_cool (hcool : ∀ k, k < 5 → (s.diode k).faulty = false ∧ (k ≠ n → s.hkReading k < s.threshold 1)) (habove : d.above = 0)
    (hlo : -640 ≤ v) (hhi : v ≤ 2400) (hbelow : ∀ i, i < 3 → v < s.threshold i) : ∃ t, exec (.hkConversion r) s = .next t
      ∧ t.getP P.HK_READING n = r + 0x10000 ∧ t.diode n = { d with badRun := 0, goodRun := d.goodRun + 1 } ∧ (∀ k, k ≠ n → t.diode k = s.diode k)
      ∧ t.getP P.TH_HOTTEST 0 = unsigned 16 t.hottest.1 + at' 16 t.hottest.2
      ∧ SameParams [pkey P.HK_READING n, pkey P.HK_MIN n, pkey P.HK_MAX n, pkey P.TH_HOTTEST 0] s t
      ∧ t = { s with params := t.params, hk := { s.hk with next := n + 1, seen := setBit s.hk.seen n, diodes := t.hk.diodes } } := by
  have hx := hkConversion_diode hb hn h5 hr
  have hn' : n < s.nextChannel.hk.diodes.length := hlen ▸ h5
  rw [diodeConversion_valid (s := s.nextChannel) ⟨hv ▸ hlo, hv ▸ hhi⟩ hn' ((congrArg Diode.faulty hd).trans hdf)] at hx
  obtain ⟨hf, hs, hread⟩ := diodeKept_effect n r s.nextChannel
  have hdiode : ∀ k, (s.nextChannel.diodeKept n r).diode k = if k = n then (s.diode k).good else s.diode k := fun k => by
    rw [State.diode, hf]
    refine (modAt_getD Diode.good {} n k s.hk.diodes).trans ?_
    simp only [hlen, h5, and_true]
    rfl
  generalize s.nextChannel.diodeKept n r = x at hx hf hs hread hdiode
  have hsound : ∀ k, k < 5 → (x.diode k).faulty = false := fun k hk => by
    rw [hdiode]
    split
    · exact (hcool k hk).1
    · exact (hcool k hk).1
  have hthr : ∀ i, x.threshold i = s.threshold i := threshold_congr (s := s) hs (thresholdKeys_hkKeys n h5)
  have htemp : x.dieTemp n = v := by rw [dieTemp_of_sound (hsound n h5), State.hkReading, hread, signed_hkFlags, hv]
  have hlt : ∀ k, k < 5 → x.dieTemp k < x.threshold 1 := fun k hk => by
    by_cases hkn : k = n
    · rw [hkn, htemp, hthr]
      exact hbelow 1 (by decide)
    · rw [dieTemp_of_sound (hsound k hk), State.hkReading, hs.getP (readingKey_ne hkn hk h5), hthr]
      exact (hcool k hk).2 hkn
  have hab : (x.diode n).above = 0 := by
    rw [hdiode, if_pos rfl, hd]
    exact habove
  have hcross : x.crossings n = x := foldl_fixed_of_mem fun i hi => crossing_none hab (by
    rw [htemp, hthr]
    exact hbelow i (by simp only [List.mem_cons, List.not_mem_nil, or_false] at hi; omega))
  have hnot : decide (x.hottestNoted.threshold 2 ≤ signed 16 r) = false := by
    rw [hottestNoted_threshold, hthr, ← hv]
    have := hbelow 2 (by decide)
    exact decide_eq_false (by omega)
  have hcalm := heatReviewed_noted (n := n) (before := s.nextChannel.hottestReading) h5 (hsound n h5) hlt
  rw [hcross, hnot, hcalm] at hx
  have hnext : s.nextChannel.hk.next = n + 1 := by
    show (s.hk.next + 1) % 32 = n + 1
    omega
  obtain ⟨⟨q, hq⟩, hps, hhot, hdi⟩ := hottestNoted_effect x
  generalize x.hottestNoted = u at hx hq hps hhot hdi
  have hframe : u = { s with params := q, hk := { s.hk with next := n + 1, seen := setBit s.hk.seen n, diodes := modAt Diode.good n s.hk.diodes } } := by
    rw [hq, hf, ← hnext]
    rfl
  refine ⟨u, exec_next hx rfl rfl (by rw [hframe]), ?_, ?_, fun k hk => ?_, hhot, (SameParams.mono (s := s) hs (by simp)).trans (hps.mono (by simp)), ?_⟩
  · rw [hps.getP (by simpa using readingKey_ne_hottest h5), hread, hkFlags_valid hr]
  · rw [hdi, hdiode, if_pos rfl, hd]
    rfl
  · rw [hdi, hdiode, if_neg hk]
  · rw [hframe]

theorem hkConversion_invalid (hcool : ∀ k, k < 5 → (s.diode k).faulty = false ∧ s.hkReading k < s.threshold 1) (hbad : d.badRun = 0)
    (hout : v < -640 ∨ 2400 < v) : ∃ t, exec (.hkConversion r) s = .next t
      ∧ t.getP P.HK_READING n = s.getP P.HK_READING n % 0x10000 ∧ t.diode n = { d with badRun := 1, goodRun := 0 } ∧ (∀ k, k ≠ n → t.diode k = s.diode k)
      ∧ SameParams [pkey P.HK_READING n, pkey P.TH_HOTTEST 0] s t ∧ t = { s with params := t.params, hk := { s.hk with next := n + 1, diodes := t.hk.diodes } } := by
  have hx := hkConversion_diode hb hn h5 hr
  have hn' : n < s.nextChannel.hk.diodes.length := hlen ▸ h5
  rw [diodeConversion_invalid (s := s.nextChannel) (by omega) hn' ((congrArg Diode.faulty hd).trans hdf) ((congrArg Diode.badRun hd).trans hbad)] at hx
  have hdiode : ∀ k, ((s.nextChannel.modDiode n Diode.bad).setP P.HK_READING n
      (hkFlags (s.nextChannel.getP P.HK_READING n) false false false)).diode k = if k = n then (s.diode k).bad else s.diode k := fun k => by
    refine (modAt_getD Diode.bad {} n k s.hk.diodes).trans ?_
    simp only [hlen, h5, and_true]
    rfl
  have hread : ((s.nextChannel.modDiode n Diode.bad).setP P.HK_READING n (hkFlags (s.nextChannel.getP P.HK_READING n) false false false)).getP P.HK_READING n
      = hkFlags (s.getP P.HK_READING n) false false false := State.getP_setP_same _ _ _ _
  have hs : SameParams [pkey P.HK_READING n] s
      ((s.nextChannel.modDiode n Diode.bad).setP P.HK_READING n (hkFlags (s.nextChannel.getP P.HK_READING n) false false false)) :=
    (sameParams_of_params (s := s) (t := s.nextChannel.modDiode n Diode.bad) rfl).trans (sameParams_setP (by simp) _)
  have hf : (s.nextChannel.modDiode n Diode.bad).setP P.HK_READING n (hkFlags (s.nextChannel.getP P.HK_READING n) false false false)
      = { s with
        params := ((s.nextChannel.modDiode n Diode.bad).setP P.HK_READING n (hkFlags (s.nextChannel.getP P.HK_READING n) false false false)).params
        hk := { s.hk with next := (s.hk.next + 1) % 32, diodes := modAt Diode.bad n s.hk.diodes } } := rfl
  generalize (s.nextChannel.modDiode n Diode.bad).setP P.HK_READING n (hkFlags (s.nextChannel.getP P.HK_READING n) false false false) = x
    at hx hdiode hread hs hf
  have hsound : ∀ k, k < 5 → (x.diode k).faulty = false := fun k hk => by
    rw [hdiode]
    split
    · exact (hcool k hk).1
    · exact (hcool k hk).1
  have hthr : x.threshold 1 = s.threshold 1 :=
    threshold_congr hs (fun k hk => fun hm => thresholdKeys_hkKeys n h5 k hk (List.mem_cons.2 (.inl (List.mem_singleton.1 hm)))) 1
  have hlt : ∀ k, k < 5 → x.dieTemp k < x.threshold 1 := fun k hk => by
    rw [dieTemp_of_sound (hsound k hk), hthr]
    have := (hcool k hk).2
    by_cases hkn : k = n
    · rwa [hkn, State.hkReading, hread, signed_hkFlags, ← State.hkReading, ← hkn]
    · rwa [State.hkReading, hs.getP (fun hm => readingKey_ne hkn hk h5 (List.mem_cons.2 (.inl (List.mem_singleton.1 hm))))]
  rw [heatReviewed_noted (n := n) h5 (hsound n h5) hlt] at hx
  have hnext : (s.hk.next + 1) % 32 = n + 1 := by omega
  obtain ⟨⟨q, hq⟩, hps, -, hdi⟩ := hottestNoted_effect x
  generalize x.hottestNoted = u at hx hq hps hdi
  have hframe : u = { s with params := q, hk := { s.hk with next := n + 1, diodes := modAt Diode.bad n s.hk.diodes } } := by rw [hq, hf, ← hnext]
  refine ⟨u, exec_next hx rfl rfl (by rw [hframe]), ?_, ?_, fun k hk => ?_, (SameParams.mono (s := s) hs (by simp)).trans (hps.mono (by simp)), ?_⟩
  · rw [hps.getP (by simpa using readingKey_ne_hottest h5), hread, hkFlags_none]
  · rw [hdi, hdiode, if_pos rfl, hd, Diode.bad, hbad]
  · rw [hdi, hdiode, if_neg hk]
  · rw [hframe]

end

/-! ### The throttle step and the thermal trip (R411, R412) -/

theorem EventsOnly.sameParams {s t : State} (h : EventsOnly s t) (l : List Nat) : SameParams l s t := by
  obtain ⟨w, v, m, a, rfl, -⟩ := h.rings
  exact fun _ _ => rfl

theorem EventsOnly.getP {s t : State} (h : EventsOnly s t) (i e : Nat) : t.getP i e = s.getP i e := by
  obtain ⟨w, v, m, a, rfl, -⟩ := h.rings
  rfl

/-- The parameters that follow the throttle step. -/
abbrev stepKeys : List Nat := pkey P.TH_STEP 0 :: bwKeys

/-- The throttle step is `new` and the shortfalls have followed, before its event record. -/
def State.stepTaken (new : Nat) (s : State) : State := (State.setP { s with hk := { s.hk with stepTime := s.now } } P.TH_STEP 0 new).bwReport

theorem stepTaken_effect (new : Nat) (s : State) : ∃ p, s.stepTaken new = { s with params := p, hk := { s.hk with stepTime := s.now } }
    ∧ SameParams stepKeys s { s with params := p } ∧ SMap.get pdef p (pkey P.TH_STEP 0) = new := by
  obtain ⟨hbw, hbs⟩ := bwReport_paramsOnly (State.setP { s with hk := { s.hk with stepTime := s.now } } P.TH_STEP 0 new)
  have hset : SameParams stepKeys s (State.setP { s with hk := { s.hk with stepTime := s.now } } P.TH_STEP 0 new) :=
    sameParams_setP (s := { s with hk := { s.hk with stepTime := s.now } }) (by simp) new
  have hstep : SMap.get pdef (State.setP { s with hk := { s.hk with stepTime := s.now } } P.TH_STEP 0 new).params (pkey P.TH_STEP 0) = new :=
    State.getP_setP_same (s := { s with hk := { s.hk with stepTime := s.now } }) _ _ _
  have hall : SameParams stepKeys s (s.stepTaken new) := hset.trans (SameParams.mono hbs fun k hk => List.mem_cons_of_mem _ hk)
  exact ⟨(s.stepTaken new).params, hbw, fun k hk => hall k hk, (hbs _ (by decide)).trans hstep⟩

theorem setStep_new {new : Nat} {s : State} (h : s.getP P.TH_STEP 0 ≠ new) : ∃ m, s.setStep new
    = if 5 ≤ new then ((s.stepTaken new).post 0x90 0x0 0 m).raiseService .throttle else ((s.stepTaken new).post 0x90 0x0 0 m).clearService .throttle :=
  ⟨_, if_neg h⟩

theorem throttleService_effect (new : Nat) (s : State) :
    ∃ c, EventsOnly { s with ctl := { s.ctl with service := c } } (if 5 ≤ new then s.raiseService .throttle else s.clearService .throttle) := by
  split
  · obtain ⟨c, hc, -⟩ := raiseService_events .throttle s
    exact ⟨c, hc⟩
  · exact clearService_events .throttle s

theorem setStep_effect (new : Nat) (s : State) : ∃ p x,
    EventsOnly { s with params := p, hk := { s.hk with stepTime := s.now }, ctl := { s.ctl with service := x } } (s.setStep new)
      ∧ SameParams stepKeys s { s with params := p } ∧ SMap.get pdef p (pkey P.TH_STEP 0) = new := by
  by_cases hold : s.getP P.TH_STEP 0 = new
  · have he : s.setStep new = { s with hk := { s.hk with stepTime := s.now } } := if_pos hold
    rw [he]
    exact ⟨s.params, s.ctl.service, EventsOnly.refl _, fun _ _ => rfl, hold⟩
  · obtain ⟨m, he⟩ := setStep_new hold
    obtain ⟨p, hx, hsame, hstep⟩ := stepTaken_effect new s
    rw [he, hx]
    have hpost := eventsOnly_post { s with params := p, hk := { s.hk with stepTime := s.now } } 0x90 0x0 0 m
    obtain ⟨c, hc⟩ := throttleService_effect new (State.post 0x90 0x0 0 m { s with params := p, hk := { s.hk with stepTime := s.now } })
    refine ⟨p, c, ?_, hsame, hstep⟩
    exact (hpost.lift (fun z => { z with ctl := { z.ctl with service := c } }) (fun _ _ _ _ _ => rfl) fun _ => rfl).trans hc

theorem crossing_effect (n i : Nat) (s : State) : ∃ d, EventsOnly { s with hk := { s.hk with diodes := d } } (s.crossing n i) := by
  unfold State.crossing
  dsimp only
  split
  · exact ⟨_, (eventsOnly_advanceAll _).trans (eventsOnly_post _ _ _ _ _)⟩
  · split
    · exact ⟨_, (eventsOnly_advanceAll _).trans (eventsOnly_post _ _ _ _ _)⟩
    · exact ⟨s.hk.diodes, EventsOnly.refl s⟩

theorem crossings_effect (n : Nat) (s : State) : ∃ d, EventsOnly { s with hk := { s.hk with diodes := d } } (s.crossings n) := by
  unfold State.crossings
  refine List.foldlRecOn (motive := fun t : State => ∃ d, EventsOnly { s with hk := { s.hk with diodes := d } } t) _ _ ⟨s.hk.diodes, EventsOnly.refl s⟩ ?_
  rintro t ⟨d, hd⟩ i -
  obtain ⟨d', hd'⟩ := crossing_effect n i t
  exact ⟨d', (hd.lift (fun z => { z with hk := { z.hk with diodes := d' } }) (fun _ _ _ _ _ => rfl) fun _ => rfl).trans hd'⟩

theorem thermalTrip_effect {n : Nat} {s : State} (ht : s.hk.trip = false) : ∃ p x l q,
    EventsOnly { s with
      params := p, hk := { s.hk with trip := true, coolRound := false, stepTime := s.now }
      ctl := { s.ctl with service := x, faultLog := l, faultNext := q } } (s.thermalTrip n)
      ∧ SameParams stepKeys s { s with params := p } ∧ SMap.get pdef p (pkey P.TH_STEP 0) = 6
      ∧ (l.getLast?.map fun f => (f.seq, f.cls, f.idx, f.code)) = some (s.ctl.faultNext, 0xD, n, 0x0A02) := by
  have he : s.thermalTrip n = (State.setStep 6 { s with hk := { s.hk with trip := true, coolRound := false } }).logFault 0xD n 0x0A02 0 :=
    if_neg (by simp [ht])
  obtain ⟨p, x, hev, hs, h6⟩ := setStep_effect 6 { s with hk := { s.hk with trip := true, coolRound := false } }
  rw [he]
  generalize State.setStep 6 { s with hk := { s.hk with trip := true, coolRound := false } } = y at hev
  obtain ⟨l, q, hlog, hlast⟩ := logFault_events 0xD n 0x0A02 0 y
  obtain ⟨w, v, m, a, hy, -⟩ := hev.rings
  have hnext : y.ctl.faultNext = s.ctl.faultNext := by rw [hy]
  refine ⟨p, x, l, q, ?_, hs, h6, hnext ▸ hlast⟩
  exact (hev.lift (fun z => { z with ctl := { z.ctl with faultLog := l, faultNext := q } }) (fun _ _ _ _ _ => rfl) fun _ => rfl).trans hlog

theorem heatReviewed_trips {n : Nat} {before h : Int} {s : State} (ht : (s.thermalTrip n).hk.trip = true) :
    s.heatReviewed n true before h = s.thermalTrip n := by
  simp only [State.heatReviewed, Bool.true_or, if_true, ht, Bool.not_true, Bool.false_eq_true, and_false, if_false]

/-- A valid diode reading at the shutdown threshold is kept and reviewed as one. -/
theorem hkConversion_hot {r n : Nat} {v : Int} {d : Diode} {s : State} (hb : s.ctl.boot ≠ .off) (hn : s.hk.next = n) (h5 : n < 5) (hr : r < 65536)
    (hv : v = signed 16 r) (hlen : s.hk.diodes.length = 5) (hd : s.diode n = d) (hdf : d.faulty = false) (hhi : v ≤ 2400)
    (hlo : -640 ≤ v) (hhot : s.threshold 2 ≤ v) : ∃ u p ds before h,
    exec (.hkConversion r) s = guarded (.hkConversion r) s (u.heatReviewed n true before h)
      ∧ EventsOnly { s with params := p, hk := { s.hk with next := n + 1, seen := setBit s.hk.seen n, diodes := ds } } u
      ∧ u.getP P.HK_READING n = r + 0x10000
      ∧ SameParams [pkey P.HK_READING n, pkey P.HK_MIN n, pkey P.HK_MAX n, pkey P.TH_HOTTEST 0] s u := by
  have hx := hkConversion_diode hb hn h5 hr
  have hn' : n < s.nextChannel.hk.diodes.length := hlen ▸ h5
  rw [diodeConversion_valid (s := s.nextChannel) ⟨hv ▸ hlo, hv ▸ hhi⟩ hn' ((congrArg Diode.faulty hd).trans hdf)] at hx
  obtain ⟨hf, hs, hread⟩ := diodeKept_effect n r s.nextChannel
  generalize s.nextChannel.diodeKept n r = x at hx hf hs hread
  obtain ⟨e, hcross⟩ := crossings_effect n x
  generalize x.crossings n = y at hx hcross
  obtain ⟨⟨q, hq⟩, hps, -, -⟩ := hottestNoted_effect y
  have hthr : y.hottestNoted.threshold 2 = s.threshold 2 := by
    rw [hottestNoted_threshold, threshold_congr (hcross.sameParams []) (fun _ _ => List.not_mem_nil) 2]
    exact threshold_congr (s := s) hs (thresholdKeys_hkKeys n h5) 2
  rw [hthr, ← hv, decide_eq_true hhot] at hx
  have hreading : y.hottestNoted.getP P.HK_READING n = r + 0x10000 := by
    rw [hps.getP (by simpa using readingKey_ne_hottest h5), hcross.getP]
    exact hread.trans (hkFlags_valid hr)
  have hsame : SameParams [pkey P.HK_READING n, pkey P.HK_MIN n, pkey P.HK_MAX n, pkey P.TH_HOTTEST 0] s y.hottestNoted :=
    ((SameParams.mono (s := s) hs (by simp)).trans (hcross.sameParams (s := { x with hk := { x.hk with diodes := e } }) _)).trans (hps.mono (by simp))
  have hev := hcross.lift (fun z => { z with params := q }) (fun _ _ _ _ _ => rfl) fun _ => rfl
  rw [← hq] at hev
  rw [nextChannel_eq hn h5] at hf
  generalize x.params = q' at hf
  subst hf
  exact ⟨_, q, e, _, _, hx, hev, hreading, hsame⟩

theorem readingKey_not_stepKeys (n : Nat) (h5 : n < 5) : pkey P.HK_READING n ∉ stepKeys := by
  rw [List.mem_cons, not_or]
  refine ⟨by simp only [pkey, P.HK_READING, P.TH_STEP]; omega, fun hmem => ?_⟩
  simp only [bwKeys, List.mem_flatMap, List.mem_range, List.mem_cons, List.not_mem_nil, or_false, pkey, P.HK_READING, P.BW_RESERVED, P.BW_SHORTFALL] at hmem
  omega

theorem hkConversion_trips {r n : Nat} {v : Int} {d : Diode} {s : State} (hb : s.ctl.boot ≠ .off) (hn : s.hk.next = n) (h5 : n < 5) (hr : r < 65536)
    (hv : v = signed 16 r) (hlen : s.hk.diodes.length = 5) (hd : s.diode n = d) (hdf : d.faulty = false) (htrip : s.hk.trip = false) (hhi : v ≤ 2400)
    (hlo : -640 ≤ v) (hhot : s.threshold 2 ≤ v) : ∃ t, exec (.hkConversion r) s = .next t ∧ t.hk.trip = true ∧ t.getP P.TH_STEP 0 = 6
      ∧ t.getP P.HK_READING n = r + 0x10000 ∧ (t.ctl.faultLog.getLast?.map fun f => (f.seq, f.cls, f.idx, f.code)) = some (s.ctl.faultNext, 0xD, n, 0x0A02)
      ∧ SameParams ([pkey P.HK_READING n, pkey P.HK_MIN n, pkey P.HK_MAX n, pkey P.TH_HOTTEST 0, pkey P.TH_STEP 0] ++ bwKeys) s t
      ∧ EventsOnly { s with
          params := t.params
          hk := { s.hk with next := n + 1, seen := setBit s.hk.seen n, diodes := t.hk.diodes, trip := true, coolRound := false, stepTime := s.now }
          ctl := { s.ctl with service := t.ctl.service, faultLog := t.ctl.faultLog, faultNext := t.ctl.faultNext } } t := by
  obtain ⟨u, q, ds, b, h, hx, hev, hreading, hsame⟩ := hkConversion_hot hb hn h5 hr hv hlen hd hdf hhi hlo hhot
  obtain ⟨w, vw, m, a, hu, -⟩ := hev.rings
  have hfault : u.ctl.faultNext = s.ctl.faultNext := by rw [hu]
  obtain ⟨p, sv, l, nx, htr, hstep, h6, hlast⟩ := thermalTrip_effect (n := n) (s := u) (by rw [hu]; exact htrip)
  have hrev : (u.thermalTrip n).hk.trip = true := by
    obtain ⟨w', vw', m', a', ht, -⟩ := htr.rings
    rw [ht]
  rw [heatReviewed_trips hrev] at hx
  generalize u.thermalTrip n = t at hx htr
  have hbase := (hev.lift (fun z => { z with
    params := p, hk := { z.hk with trip := true, coolRound := false, stepTime := z.now }
    ctl := { z.ctl with service := sv, faultLog := l, faultNext := nx } }) (fun _ _ _ _ _ => rfl) fun _ => rfl).trans htr
  obtain ⟨w', vw', m', a', ht, hrings⟩ := hbase.rings
  have hall : SameParams ([pkey P.HK_READING n, pkey P.HK_MIN n, pkey P.HK_MAX n, pkey P.TH_HOTTEST 0, pkey P.TH_STEP 0] ++ bwKeys) s { u with params := p } :=
    (hsame.mono fun k hk => by simp only [List.mem_append, List.mem_cons, List.not_mem_nil, or_false] at hk ⊢; tauto).trans
      (hstep.mono fun k hk => by simp only [List.mem_append, List.mem_cons, List.not_mem_nil, or_false] at hk ⊢; tauto)
  have hparams : t.params = p := by rw [ht]
  have hget (id idx : Nat) : t.getP id idx = SMap.get pdef p (pkey id idx) := congrArg (SMap.get pdef · (pkey id idx)) hparams
  refine ⟨t, exec_next hx rfl rfl (by rw [ht]), by rw [ht], (hget _ _).trans h6, (hget _ _).trans ((hstep _ (readingKey_not_stepKeys n h5)).trans hreading), ?_,
    fun k hk => (congrArg (SMap.get pdef · k) hparams).trans (hall k hk), ?_⟩
  · rw [ht, ← hfault]
    exact hlast
  · clear hx hev htr hall hparams hget hstep hlast
    subst ht
    exact ⟨⟨w', vw', m', a', rfl⟩, hrings⟩

/-! ### THROTTLE_STEP (R411) -/

/-- TH_STEP_MS has passed since the step last changed. -/
abbrev State.stepDue (s : State) : State := s.atLeast (s.hk.stepTime + s.getP P.TH_STEP_MS 0 * 1000000)

theorem throttleStep_exec (s : State) : exec .throttleStep s = guarded .throttleStep s
    (if s.hk.trip = true then { s.stepDue with hk := { s.hk with stepTime := s.stepDue.now } }
      else if s.threshold 1 ≤ s.hottest.1 then s.stepDue.setStep (max (s.getP P.TH_STEP 0) (min (s.getP P.TH_STEP 0 + 1) (s.getP P.TH_STEP_MAX 0)))
      else if s.hottest.1 < s.threshold 1 - s.hyst then s.stepDue.setStep (s.getP P.TH_STEP 0 - 1)
      else { s.stepDue with hk := { s.hk with stepTime := s.stepDue.now } }) := rfl

theorem throttleStep_keeps {now : Nat} {s : State} (hnow : now = max s.now (s.hk.stepTime + s.getP P.TH_STEP_MS 0 * 1000000))
    (h : s.hk.trip = true ∨ s.hottest.1 < s.threshold 1 ∧ s.threshold 1 - s.hyst ≤ s.hottest.1) :
    exec .throttleStep s = .next { s with now := now, hk := { s.hk with stepTime := now } } := by
  subst hnow
  refine exec_next (throttleStep_exec s) rfl ?_ rfl
  by_cases ht : s.hk.trip = true
  · exact if_pos ht
  · obtain ⟨h1, h2⟩ := h.resolve_left ht
    rw [if_neg ht, if_neg (by omega), if_neg (by omega)]
    rfl

theorem throttleStep_moves {now : Nat} {s : State} (hnow : now = max s.now (s.hk.stepTime + s.getP P.TH_STEP_MS 0 * 1000000)) (ht : s.hk.trip = false)
    (h : s.threshold 1 ≤ s.hottest.1 ∨ s.hottest.1 < s.threshold 1 - s.hyst) : ∃ t, exec .throttleStep s = .next t
      ∧ t.getP P.TH_STEP 0 = (if s.threshold 1 ≤ s.hottest.1 then max (s.getP P.TH_STEP 0) (min (s.getP P.TH_STEP 0 + 1) (s.getP P.TH_STEP_MAX 0)) else s.getP P.TH_STEP 0 - 1)
      ∧ SameParams (pkey P.TH_STEP 0 :: bwKeys) s t
      ∧ EventsOnly { s with now := now, params := t.params, hk := { s.hk with stepTime := now }, ctl := { s.ctl with service := t.ctl.service } } t := by
  subst hnow
  generalize hk : (if s.threshold 1 ≤ s.hottest.1 then max (s.getP P.TH_STEP 0) (min (s.getP P.TH_STEP 0 + 1) (s.getP P.TH_STEP_MAX 0)) else s.getP P.TH_STEP 0 - 1) = k
  have hx : exec .throttleStep s = guarded .throttleStep s (s.stepDue.setStep k) := by
    rw [throttleStep_exec, if_neg (by simp [ht]), ← hk]
    by_cases h1 : s.threshold 1 ≤ s.hottest.1
    · rw [if_pos h1, if_pos h1]
    · rw [if_neg h1, if_neg h1, if_pos (h.resolve_left h1)]
  obtain ⟨p, x, hev, hs, hstep⟩ := setStep_effect k s.stepDue
  generalize s.stepDue.setStep k = t at hx hev
  obtain ⟨w, v, m, a, rfl, hrings⟩ := hev.rings
  exact ⟨_, exec_next hx rfl rfl rfl, hstep, fun k hk => hs k hk, ⟨⟨w, v, m, a, rfl⟩, hrings⟩⟩

/-! ### Background work (R413 to R417) -/

theorem foldl_setP (id : Nat) (f : Nat → Nat) : ∀ (l : List Nat) (s : State), ∃ p, l.foldl (fun u t => u.setP id t (f t)) s = { s with params := p }
    ∧ (∀ k ∈ l, SMap.get pdef p (pkey id k) = f k) ∧ SameParams (l.map fun k => pkey id k) s { s with params := p }
  | [], s => ⟨s.params, rfl, by simp, fun _ _ => rfl⟩
  | t :: l, s => by
    obtain ⟨p, he, hget, hsame⟩ := foldl_setP id f l (s.setP id t (f t))
    refine ⟨p, he, fun k hk => ?_, fun k hk => ?_⟩
    · by_cases hl : k ∈ l
      · exact hget k hl
      · obtain rfl : k = t := (List.mem_cons.1 hk).resolve_right hl
        have hnot : pkey id k ∉ l.map fun k => pkey id k := by
          simp only [List.mem_map, not_exists, not_and, pkey]
          intro j hj he
          exact hl ((by omega : j = k) ▸ hj)
        exact (hsame _ hnot).trans (State.getP_setP_same (s := s) id k (f k))
    · rw [List.map_cons, List.mem_cons, not_or] at hk
      exact (hsame k hk.2).trans (SMap.get_set_other pdef _ hk.1 _)

theorem bgScheduler_states (s : State) : ∃ t, exec .bgScheduler s = .next t ∧ (∀ k, k < 11 → t.getP P.BG_STATE k = s.taskState k)
    ∧ SameParams ((List.range 11).map fun k => pkey P.BG_STATE k) s t ∧ t = { s with params := t.params } := by
  obtain ⟨p, he, hget, hsame⟩ := foldl_setP P.BG_STATE s.taskState (List.range 11) s
  exact ⟨_, exec_next rfl rfl he rfl, fun k hk => hget k (List.mem_range.2 hk), hsame, rfl⟩

theorem scrubCheck_quiet {bit kind region idx progress start interval e : Nat} {s : State} (he : e = (s.now - start) * 1000 / max interval 1)
    (h : s.hk.behind.testBit bit = false ∧ e ≤ progress + 50 ∨ s.hk.behind.testBit bit = true ∧ progress < e) :
    s.scrubCheck bit kind region idx progress start interval = s := by
  subst he
  unfold State.scrubCheck
  dsimp only
  rcases h with ⟨hb, hp⟩ | ⟨hb, hp⟩
  · rw [if_neg (fun hc => absurd hc.2 (by omega)), if_neg (by simp [hb])]
  · rw [if_neg (by simp [hb]), if_neg (fun hc => absurd hc.2 (by omega))]

theorem scrubCheck_posts {bit kind region idx progress start interval e : Nat} {s : State} (he : e = (s.now - start) * 1000 / max interval 1)
    (h : s.hk.behind.testBit bit = false ∧ progress + 50 < e ∨ s.hk.behind.testBit bit = true ∧ e ≤ progress) : ∃ b,
    EventsOnly { s with hk := { s.hk with behind := b } } (s.scrubCheck bit kind region idx progress start interval)
      ∧ b.testBit bit = (!s.hk.behind.testBit bit) ∧ ∀ k, k ≠ bit → b.testBit k = s.hk.behind.testBit k := by
  subst he
  unfold State.scrubCheck
  dsimp only
  rcases h with ⟨hb, hp⟩ | ⟨hb, hp⟩
  · rw [if_pos ⟨by simp [hb], hp⟩, hb]
    exact ⟨_, eventsOnly_post _ _ _ _ _, testBit_setBit_same _ _, fun k hk => setBit_same_other hk⟩
  · rw [if_neg (by simp [hb]), if_pos ⟨hb, hp⟩, hb]
    exact ⟨_, eventsOnly_post _ _ _ _ _, testBit_clrBit_same _ _, fun k hk => clrBit_same_other hk⟩

/-- The patrol scrub's pass against its interval. -/
def State.patrolCheck (s : State) : State :=
  s.scrubCheck 32 0 0 0 (s.getP P.MEM_SCRUB_PROGRESS 0) s.hk.patrolStart (s.getP P.MEM_SCRUB_HOURS 0 * 3600000000000)

theorem scrubBehind_patrol {s : State} (hp : s.powerState ≠ 2) {t : State} (ht : s.patrolCheck = t) (hreg : t.cxl.regions = []) (hpend : t.pending = s.pending) :
    exec .scrubBehind s = .next t := by
  refine exec_next rfl rfl ((if_neg hp).trans ?_) hpend
  rw [show s.scrubCheck 32 0 0 0 (s.getP P.MEM_SCRUB_PROGRESS 0) s.hk.patrolStart (s.getP P.MEM_SCRUB_HOURS 0 * 3600000000000) = t from ht]
  dsimp only
  rw [hreg]
  rfl

/-! ### HK_STATUS and BG_STATUS (R418) -/

/-- The bytes of HK_STATUS (Table 14-10). -/
def State.hkStatusBytes (s : State) : List Byte :=
  leBytes (s.getP P.TH_STEP 0) 1 ++ leBytes (s.getP P.TH_HOTTEST 0 / 65536) 1 ++ leBytes (s.getP P.TH_HOTTEST 0) 2
    ++ leBytes (s.getP P.HK_ROUNDS 0) 4 ++ leBytes s.hk.powerMw 4 ++ (List.range 4).flatMap (fun i => leBytes (s.hk.d2d.getD i 0) 2) ++ leBytes 0 4
    ++ leBytes s.hk.telemetryTime 8 ++ (List.range 32).flatMap fun n => leBytes (s.getP P.HK_READING n) 4

/-- The bytes of BG_STATUS (Table 14-9). -/
def State.bgStatusBytes (s : State) : List Byte :=
  leBytes 0 8 ++ (List.range 11).flatMap fun k => leBytes (s.taskState k) 2 ++ leBytes (s.hk.tasks.getD k {}).progress 2
    ++ leBytes (s.hk.tasks.getD k {}).runs 4 ++ leBytes (s.hk.tasks.getD k {}).last 8

theorem entered_hkStatusBytes (s : State) (op : Nat) (c : Cmd) : (s.entered op c).hkStatusBytes = s.hkStatusBytes := by
  simp [State.hkStatusBytes]

theorem entered_taskState (s : State) (op : Nat) (c : Cmd) (k : Nat) : (s.entered op c).taskState k = s.taskState k := by
  unfold State.taskState State.taskDue State.taskRuns State.bgHeld State.pollDue State.telemetryDue State.powerState
  rw [State.entered_ctl_switch, State.entered_ctl_restarting]
  simp only [State.entered_getP, State.entered_hk, State.entered_now, State.entered_dram, State.entered_ln, State.entered_cxl]

theorem entered_bgStatusBytes (s : State) (op : Nat) (c : Cmd) : (s.entered op c).bgStatusBytes = s.bgStatusBytes := by
  simp [State.bgStatusBytes, entered_taskState]

theorem hkStatus_answers {c : Cmd} {s : State} (ha : s.accepts false 0x0A01 c) (ho : c.operands 0 0) :
    ∃ t, exec (.hkStatus c) s = .next t ∧ Answered 0x0A01 c 0 160 (ofLE s.hkStatusBytes) t ∧ CommandOnly c s t := by
  refine completes_reading (i := .hkStatus c) (spec := hkStatusSpec) (body := hkStatusBody) ha.1.1 ha (by simp [hkStatusSpec, OpSpec.fixed, ho.1])
    (by simp [hkStatusSpec, OpSpec.fixed]) (fun _ => rfl) (by decide) ?_
  rw [← entered_hkStatusBytes s hkStatusSpec.op c]
  rfl

theorem bgStatus_answers {c : Cmd} {s : State} (ha : s.accepts false 0x0A02 c) (ho : c.operands 0 0) :
    ∃ t, exec (.bgStatus c) s = .next t ∧ Answered 0x0A02 c 0 184 (ofLE s.bgStatusBytes) t ∧ CommandOnly c s t := by
  refine completes_reading (i := .bgStatus c) (spec := bgStatusSpec) (body := bgStatusBody) ha.1.1 ha (by simp [bgStatusSpec, OpSpec.fixed, ho.1])
    (by simp [bgStatusSpec, OpSpec.fixed]) (fun _ => rfl) (by decide) ?_
  rw [← entered_bgStatusBytes s bgStatusSpec.op c]
  rfl

end Sys2Proof.Machine

open Sys2Proof Sys2Proof.Machine in
/-- Settles O50, clause by clause: what each conversion, step and background task does. -/
theorem conversionsThrottleAndBackgroundWork : Obligations.ConversionsThrottleAndBackgroundWork := by
  unfold Obligations.ConversionsThrottleAndBackgroundWork
  refine ⟨fun r s hb => exec_next rfl rfl (if_pos hb) rfl, fun r v n lo hi fresh s hb hn h5 h31 hr hv hlo hhi hwas hfresh => ⟨fun h1 h2 hend => ?_,
    fun hlt hout hfree => ?_⟩, fun r n v d s hb hn h5 hr hv hlen hd hdf => ⟨fun hcool ha hlo hhi hbelow => ?_, fun hcool hbad hout => ?_,
    fun htrip hhi hlo hhot => ?_⟩, fun now h s hnow hh => ?_, bgScheduler_states, fun mw now l s => ⟨fun hh => ?_, fun hh hnow => ?_⟩,
    fun n s => ⟨fun h => ?_, fun hh hn => ?_, fun hh hne hn => ?_⟩, fun s hp => exec_next rfl rfl (if_pos hp) rfl, fun e s hp hreg he => ⟨fun h => ?_, fun h => ?_⟩,
    fun c s ho => ⟨fun ha => ?_, fun ha => ?_⟩⟩
  · exact hkConversion_within hb hn h5 h31 hr hv hlo hhi hwas hfresh h1 h2 hend
  · exact hkConversion_outside hb hn h5 hlt hr hv hlo hhi hwas hout hfree
  · exact hkConversion_cool hb hn h5 hr hv hlen hd hdf hcool ha hlo hhi hbelow
  · exact hkConversion_invalid hb hn h5 hr hv hlen hd hdf hcool hbad hout
  · exact hkConversion_trips hb hn h5 hr hv hlen hd hdf htrip hhi hlo hhot
  · subst hh
    exact ⟨throttleStep_keeps hnow, throttleStep_moves hnow⟩
  · exact exec_next rfl rfl (if_pos hh) rfl
  · subst hnow
    exact exec_next rfl rfl (if_neg (by simp [hh])) rfl
  · exact exec_next rfl rfl (if_pos (h.imp id List.isEmpty_iff.2)) rfl
  · have hne : s.dram.dirty ≠ [] := fun h0 => by simp [h0] at hn
    refine exec_next rfl rfl ((if_neg (by simp [hh, hne])).trans ?_) rfl
    dsimp only
    exact if_neg (by simp [List.isEmpty_iff, List.drop_eq_nil_iff, hn])
  · refine exec_next rfl rfl ((if_neg (by simp [hh, hne])).trans ?_) rfl
    dsimp only
    rw [List.drop_eq_nil_iff.2 hn]
    exact if_pos rfl
  · have hq : s.patrolCheck = s := scrubCheck_quiet he h
    exact scrubBehind_patrol hp hq hreg rfl
  · obtain ⟨b, hev, hb, hothers⟩ := scrubCheck_posts (kind := 0) (region := 0) (idx := 0) he h
    rw [show s.scrubCheck 32 0 0 0 (s.getP P.MEM_SCRUB_PROGRESS 0) s.hk.patrolStart (s.getP P.MEM_SCRUB_HOURS 0 * 3600000000000) = s.patrolCheck from rfl] at hev
    generalize ht : s.patrolCheck = t at hev
    obtain ⟨w, v, m, a, rfl, hrings⟩ := hev.rings
    exact ⟨_, scrubBehind_patrol hp ht hreg rfl, hb, hothers, ⟨⟨w, v, m, a, rfl⟩, hrings⟩⟩
  · obtain ⟨t, ht, hans, hco⟩ := hkStatus_answers ha ho
    exact ⟨t, ht, hco, hans⟩
  · obtain ⟨t, ht, hans, hco⟩ := bgStatus_answers ha ho
    exact ⟨t, ht, hco, hans⟩
end

section
/-! Start-up, resets, the power pins and the power states (O52). -/

namespace Sys2Proof.Machine

/-! ### VAUX (R426, R436) -/

theorem vauxValid_powered {m : Nat} {s : State} (hm : m < 4) (h1 : s.ctl.boot ≠ .off) (h2 : s.ctl.boot ≠ .auxOnly) : exec (.vauxValid m) s = .next s :=
  exec_next rfl (decide_eq_true hm) (if_pos ⟨h1, h2⟩) rfl

/-- The straps are sampled. -/
def State.strapped (m : Nat) (s : State) : State :=
  (State.setP { s with ctl := { s.ctl with boot := .auxOnly }, bus := { s.bus with mgtAddr := m } } P.MB_ADDR 0 (0x1D8 + m)).setP P.PW_RESET_CAUSE 0 0

theorem vauxValid_samples {m : Nat} {s : State} (hm : m < 4) (h : s.ctl.boot = .off ∨ s.ctl.boot = .auxOnly) :
    ∃ t, exec (.vauxValid m) s = .next t ∧ t.ctl.boot = .auxOnly ∧ t.bus.mgtAddr = m ∧ t.getP P.MB_ADDR 0 = 0x1D8 + m
      ∧ t.getP P.PW_RESET_CAUSE 0 = 0 ∧ SameParams [pkey P.MB_ADDR 0, pkey P.PW_RESET_CAUSE 0] s t
      ∧ t = { s with params := t.params, ctl := { s.ctl with boot := .auxOnly }, bus := { s.bus with mgtAddr := m } } := by
  have hif : ¬ (s.ctl.boot ≠ .off ∧ s.ctl.boot ≠ .auxOnly) := fun hn => h.elim hn.1 hn.2
  refine ⟨s.strapped m, exec_next rfl (decide_eq_true hm) (if_neg hif) rfl, rfl, rfl, ?_, State.getP_setP_same (s := State.setP _ _ _ _) _ _ _, fun k hk => ?_, rfl⟩
  · unfold State.strapped
    rw [State.getP_setP, if_neg (by decide), State.getP_setP_same]
  · have h1 := sameParams_setP (l := [pkey P.MB_ADDR 0, pkey P.PW_RESET_CAUSE 0])
      (s := { s with ctl := { s.ctl with boot := .auxOnly }, bus := { s.bus with mgtAddr := m } }) (i := P.MB_ADDR) (e := 0) (by simp) (0x1D8 + m)
    exact (h1.trans (sameParams_setP (by simp) 0)) k hk

/-! ### What a loss of power keeps (R297, R425) -/

/-- Recording, parameters, event records and the DRAM controller may differ, but not the rows remapped. -/
def RecordingOnly (s t : State) : Prop := ∃ p c f d, t = { s with params := p, ctl := c, fr := f, dram := d } ∧ d.remap = s.dram.remap

theorem RecordingOnly.refl (s : State) : RecordingOnly s s := ⟨_, _, _, _, rfl, rfl⟩

theorem RecordingOnly.trans {s t u : State} (h : RecordingOnly s t) (g : RecordingOnly t u) : RecordingOnly s u := by
  obtain ⟨p, c, f, d, rfl, hd⟩ := h
  obtain ⟨p', c', f', d', rfl, hd'⟩ := g
  exact ⟨p', c', f', d', rfl, hd'.trans hd⟩

theorem RecordingOnly.foldl {α : Type} {f : State → α → State} (h : ∀ t a, RecordingOnly t (f t a)) (l : List α) (s : State) : RecordingOnly s (l.foldl f s) :=
  List.foldlRecOn (motive := fun t : State => RecordingOnly s t) l f (RecordingOnly.refl s) fun _ ht a _ => ht.trans (h _ a)

theorem recordingOnly_setP (id i v : Nat) (s : State) : RecordingOnly s (s.setP id i v) := ⟨_, s.ctl, s.fr, s.dram, rfl, rfl⟩

theorem recordingOnly_events {s t : State} (h : EventsOnly s t) : RecordingOnly s t := by
  obtain ⟨w, v, m, a, rfl, -⟩ := h.rings
  exact ⟨s.params, _, s.fr, s.dram, rfl, rfl⟩

theorem recordingOnly_modBin (b : Nat) (f : Bin → Bin) (s : State) : RecordingOnly s (s.modBin b f) := by
  unfold State.modBin
  split
  · exact ⟨s.params, s.ctl, _, s.dram, rfl, rfl⟩
  · exact RecordingOnly.refl s

theorem recordingOnly_binReport (b : Nat) (s : State) : RecordingOnly s (s.binReport b) := by
  unfold State.binReport
  split <;> exact ((recordingOnly_setP _ _ _ _).trans (recordingOnly_setP _ _ _ _)).trans (recordingOnly_setP _ _ _ _)

theorem recordingOnly_discardImport (b : Nat) (s : State) : RecordingOnly s (s.discardImport b) :=
  (recordingOnly_modBin b _ s).trans (recordingOnly_binReport b _)

theorem recordingOnly_setBinState (b new reason : Nat) (s : State) : RecordingOnly s (s.setBinState b new reason) := by
  unfold State.setBinState
  dsimp only
  split
  · exact RecordingOnly.refl s
  · exact (recordingOnly_setP _ _ _ s).trans (recordingOnly_events (eventsOnly_post _ _ _ _ _))

theorem recordingOnly_addRun (b source reason tag number n : Nat) (s : State) : RecordingOnly s (s.addRun b source reason tag number n) :=
  recordingOnly_modBin b _ s

theorem recordingOnly_gapFrames (p n : Nat) (s : State) : RecordingOnly s (s.gapFrames p n) := by
  unfold State.gapFrames
  split
  · exact recordingOnly_setP _ _ _ s
  · exact RecordingOnly.refl s

theorem recordingOnly_wbMod (id : Nat) (f : WbFrame → WbFrame) (s : State) : RecordingOnly s (s.wbMod id f) := ⟨s.params, s.ctl, _, s.dram, rfl, rfl⟩

theorem recordingOnly_setUse (used quota kind i v : Nat) (s : State) : RecordingOnly s (s.setUse used quota kind i v) := by
  unfold State.setUse State.memQuotaEvent State.quotaChange
  dsimp only
  split
  · exact recordingOnly_setP _ _ _ s
  · split <;> exact (recordingOnly_setP _ _ _ s).trans (recordingOnly_events (eventsOnly_post _ _ _ _ _))

theorem recordingOnly_memReport (s : State) : RecordingOnly s s.memReport :=
  (RecordingOnly.foldl (fun t k => recordingOnly_setUse _ _ 2 k _ t) _ s).trans (RecordingOnly.foldl (fun t w => recordingOnly_setUse _ _ 3 w _ t) _ _)

theorem recordingOnly_pressure {s t : State} (h : RecordingOnly s t) (v m : Nat) :
    RecordingOnly s (State.post 0x76 0x0 0 m { t with fr := { t.fr with pressure := v == 1 } }) := by
  have hp : RecordingOnly t { t with fr := { t.fr with pressure := v == 1 } } := ⟨t.params, t.ctl, _, t.dram, rfl, rfl⟩
  exact (h.trans hp).trans (recordingOnly_events (eventsOnly_post _ _ _ _ _))

theorem recordingOnly_wbReport (s : State) : RecordingOnly s s.wbReport := by
  have h := (recordingOnly_setP P.FR_WB_USED 0 (rdivN s.wbUsed 0x100000) s).trans (recordingOnly_memReport _)
  unfold State.wbReport
  dsimp only
  split
  · exact recordingOnly_pressure h 1 _
  · split
    · exact recordingOnly_pressure h 0 _
    · exact h

theorem recordingOnly_wbDrop (id : Nat) (s : State) : RecordingOnly s (s.wbDrop id) :=
  RecordingOnly.trans ⟨s.params, s.ctl, _, s.dram, rfl, rfl⟩ (recordingOnly_wbReport _)

theorem recordingOnly_recordBw (s : State) : RecordingOnly s s.recordBw := RecordingOnly.foldl (fun t p => by
  obtain ⟨h, -⟩ := bwSet_frame 2 p (2 * s.recordRate p) t
  rw [h]
  exact ⟨_, t.ctl, t.fr, _, rfl, rfl⟩) _ s

/-- A bin is suspended without draining: its frames in the write buffer are lost. -/
theorem recordingOnly_suspendBin (b : Nat) (s : State) : RecordingOnly s (s.suspendBin b false) := by
  unfold State.suspendBin
  simp only [Bool.false_eq_true, if_false, ite_self]
  refine RecordingOnly.trans ?_ (recordingOnly_recordBw _)
  refine RecordingOnly.trans ?_ (RecordingOnly.foldl (fun t f => recordingOnly_wbDrop _ t) _ _)
  refine RecordingOnly.trans ?_ (recordingOnly_modBin b _ _)
  refine RecordingOnly.trans ?_ (RecordingOnly.foldl (fun t f => recordingOnly_wbMod _ _ t) _ _)
  refine RecordingOnly.trans ?_ (RecordingOnly.foldl (fun t f => ?_) _ _)
  · split
    · split
      · exact recordingOnly_discardImport b s
      · exact RecordingOnly.refl s
    · refine RecordingOnly.trans ?_ (recordingOnly_setBinState b 5 1 _)
      split
      · exact recordingOnly_discardImport b s
      · exact RecordingOnly.refl s
  · split
    · exact (recordingOnly_addRun _ _ _ _ _ _ t).trans (recordingOnly_gapFrames _ _ _)
    · exact RecordingOnly.refl t

theorem recordingOnly_binsLose (s : State) : RecordingOnly s s.binsLose :=
  RecordingOnly.foldl (fun t b => (recordingOnly_suspendBin b t).trans (recordingOnly_modBin b _ _)) _ s

theorem SMap.find_map {α : Type} (f : α → α) (k : Nat) : ∀ m : SMap α, SMap.find k (m.map fun e => (e.1, f e.2)) = (SMap.find k m).map f
  | [] => rfl
  | (j, v) :: r => by
    rw [List.map_cons, SMap.find, SMap.find]
    split
    · rfl
    · exact SMap.find_map f k r

theorem SMap.get_map {α : Type} {d : Nat → α} (f : α → α) (hd : ∀ k, f (d k) = d k) (m : SMap α) (k : Nat) :
    SMap.get d (m.map fun e => (e.1, f e.2)) k = f (SMap.get d m k) := by
  unfold SMap.get
  rw [SMap.find_map]
  cases SMap.find k m with
  | none => exact (hd k).symm
  | some v => rfl

/-- What a loss of power keeps outside recording. -/
theorem kept_units (s : State) : s.kept.cxl.exps = s.cxl.exps ∧ (∀ r, s.kept.region r = { s.region r with verifying := false })
    ∧ s.kept.dram = { remap := s.dram.remap } ∧ s.kept.pw = { refclk := s.pw.refclk, clkMode := s.pw.clkMode } := by
  have hbins := recordingOnly_binsLose s
  unfold State.kept
  generalize s.binsLose = t at hbins
  obtain ⟨p, c, f, d, rfl, hd⟩ := hbins
  refine ⟨rfl, fun r => ?_, congrArg (fun x => ({ remap := x } : Dram)) hd, rfl⟩
  exact SMap.get_map (fun g : Region => { g with verifying := false }) (fun _ => rfl) _ r

/-! ### Resets (R424) -/

theorem SMap.find_filter {α : Type} (p : Nat → Bool) (k : Nat) : ∀ m : SMap α, SMap.find k (m.filter fun e => p e.1) = if p k then SMap.find k m else none
  | [] => (ite_self _).symm
  | (j, v) :: r => by
    rw [List.filter_cons, SMap.find]
    by_cases hj : j = k
    · subst hj
      by_cases hp : p j = true
      · rw [if_pos hp, if_pos hp, if_pos rfl, SMap.find, if_pos rfl]
      · rw [if_neg hp, if_neg hp, SMap.find_filter p j r, if_neg hp]
    · rw [if_neg hj, ← SMap.find_filter p k r]
      split
      · rw [SMap.find, if_neg hj]
      · rfl

theorem SMap.get_filter {α : Type} (d : Nat → α) (p : Nat → Bool) (m : SMap α) (k : Nat) :
    SMap.get d (m.filter fun e => p e.1) k = if p k then SMap.get d m k else d k := by
  unfold SMap.get
  rw [SMap.find_filter]
  split <;> rfl

/-- A reset, after which the boot code stands at `b`. -/
def State.restarted (s : State) (cause : Nat) (b : Boot) (r : Bool) : State :=
  { s.mainReset.setP P.PW_RESET_CAUSE 0 cause with ctl := { s.mainReset.ctl with boot := b, fwReady := r } }

theorem restarted_restarted (s : State) (cause : Nat) (b : Boot) (r : Bool) : Restarted cause s (s.restarted cause b r) := by
  obtain ⟨hexps, hregions, hdram, hpw⟩ := kept_units s
  have hget (k : Nat) (hk : k ≠ pkey P.PW_RESET_CAUSE 0) : SMap.get pdef (s.restarted cause b r).params k = if vauxParam k then SMap.get pdef s.params k else pdef k :=
    (SMap.get_set_other pdef _ hk _).trans (SMap.get_filter pdef vauxParam s.params k)
  refine ⟨rfl, State.getP_setP_same (s := s.mainReset) _ _ _, fun k hv hk => (hget k hk).trans (if_pos hv), fun k hv hk => (hget k hk).trans (if_neg (by simp [hv])), ?_⟩
  exact ⟨rfl, rfl, rfl, rfl, rfl, rfl, rfl, rfl, rfl, rfl, rfl, rfl, rfl, rfl, rfl, rfl, rfl, rfl, rfl, rfl, rfl, rfl, rfl, rfl, rfl, rfl, rfl, hdram, hpw, hexps, hregions⟩

theorem mainReset_slotValid (s : State) (n : Nat) : s.mainReset.slotValid n = s.slotValid n := by
  unfold State.slotValid State.fwSlot
  split <;> rfl

theorem startUp_valid {cause : Nat} {s : State} (h : s.slotValid s.ctl.bootSlot = true) : s.mainReset.startUp cause = s.restarted cause .training false :=
  if_pos ((mainReset_slotValid s s.ctl.bootSlot).trans h)

theorem startUp_invalid {cause : Nat} {s : State} (h : s.slotValid s.ctl.bootSlot = false) (h' : s.slotValid (1 - s.ctl.bootSlot) = false) :
    s.mainReset.startUp cause = s.restarted cause .recoveryImage true :=
  (if_neg (by rw [Bool.not_eq_true]; exact (mainReset_slotValid s s.ctl.bootSlot).trans h)).trans
    (if_neg (by rw [Bool.not_eq_true]; exact (mainReset_slotValid s (1 - s.ctl.bootSlot)).trans h'))

theorem pwrgdRise_restarts {s t : State} (hb : s.ctl.boot = .auxOnly) (ht : s.mainReset.startUp 1 = t) (hp : t.pending = s.pending) : exec .pwrgdRise s = .next t :=
  exec_next rfl rfl ((if_pos hb).trans ht) hp

theorem pwrgdRise_powered {s : State} (hb : s.ctl.boot ≠ .auxOnly) :
    exec .pwrgdRise s = .next (if s.pw.stop = some 0 then { s with pw := { s.pw with stop := some 1 } } else s) :=
  exec_next rfl rfl (if_neg hb) (by split <;> rfl)

theorem vauxLoss_keeps (s : State) : ∃ t, exec .vauxLoss s = .next t ∧ t.ctl.boot = .off ∧ t.now = 0 ∧ t.params = [] ∧ t.ctl.wins = [] ∧ t.ctl.flights = [] ∧ t.ctl.staged = []
    ∧ t.ctl.faultLog = s.ctl.faultLog ∧ t.ctl.fwFloor = s.ctl.fwFloor ∧ t.ctl.revoked = s.ctl.revoked ∧ t.ctl.fwA.image = s.ctl.fwA.image ∧ t.ctl.fwB.image = s.ctl.fwB.image
    ∧ t.hk = {} ∧ t.bus = {} ∧ t.ring = {} ∧ t.cq = {} ∧ t.cam = {} ∧ t.pipes = [] ∧ t.cv = {} ∧ t.mw = {} ∧ t.ln = {} ∧ t.vc = {} ∧ t.au = {}
    ∧ t.dram = { remap := s.dram.remap } ∧ t.cxl.exps = s.cxl.exps := by
  obtain ⟨hexps, -, hdram, -⟩ := kept_units s
  refine ⟨_, exec_next rfl rfl rfl rfl, rfl, rfl, rfl, rfl, rfl, rfl, rfl, rfl, rfl, rfl, rfl, rfl, rfl, rfl, rfl, rfl, rfl, rfl, rfl, rfl, rfl, rfl, hdram, hexps⟩

/-! ### The power pins and DEVICE_RESET -/

theorem orderStop_held {code : Nat} {s : State} (h : s.ctl.boot = .off ∨ s.ctl.boot = .auxOnly ∨ s.pw.stop = some 0) : s.orderStop code = s := if_pos h

theorem orderStop_ordered {code : Nat} {s : State} (h1 : s.ctl.boot ≠ .off) (h2 : s.ctl.boot ≠ .auxOnly) (h3 : s.pw.stop ≠ some 0) :
    s.orderStop code = { s with pw := { s.pw with stop := some code } } := if_neg fun h => h.elim h1 fun h => h.elim h2 h3

/-- PERST_N rises, and the straps are sampled. -/
def State.perstRaised (m : Nat) (s : State) : State := { s with ctl := { s.ctl with perstN := true }, pw := { s.pw with clkMode := m } }

theorem perstNRise_high {m : Nat} {s : State} (hm : m < 4) (hp : s.ctl.perstN = true) : exec (.perstNRise m) s = .next s :=
  exec_next rfl (decide_eq_true hm) (if_pos hp) rfl

theorem perstNRise_samples {m : Nat} {s : State} (hm : m < 3) (hp : s.ctl.perstN = false) : exec (.perstNRise m) s = .next (s.perstRaised m) :=
  exec_next rfl (decide_eq_true (by omega)) ((if_neg (by simp [hp])).trans (if_neg (by omega))) rfl

theorem perstNRise_traps {s : State} (hp : s.ctl.perstN = false) : ∃ t, exec (.perstNRise 3) s = .next t
    ∧ (t.ctl.faultLog.getLast?.map fun x => (x.seq, x.cls, x.idx, x.code)) = some (s.ctl.faultNext, 0x0, 0, 0x0A03) ∧ EventsOnly { s with
      ctl := { s.ctl with perstN := true, faultLog := t.ctl.faultLog, faultNext := t.ctl.faultNext }, pw := { s.pw with clkMode := 3 } } t := by
  obtain ⟨l, n, hev, hlast⟩ := logFault_events 0x0 0 0x0A03 0 (s.perstRaised 3)
  have hx : exec (.perstNRise 3) s = guarded (.perstNRise 3) s (if s.ctl.perstN = true then s
      else if 3 = 3 then (s.perstRaised 3).logFault 0x0 0 0x0A03 0 else s.perstRaised 3) := rfl
  rw [if_neg (by simp [hp]), if_pos rfl] at hx
  generalize (s.perstRaised 3).logFault 0x0 0 0x0A03 0 = t at hev hx
  obtain ⟨w, v, m, a, rfl, hrings⟩ := hev.rings
  exact ⟨_, exec_next hx rfl rfl rfl, hlast, ⟨⟨w, v, m, a, rfl⟩, hrings⟩⟩

theorem deviceReset_unarmed {c : Cmd} {s : State} (ha : s.accepts true 0x0A10 c) (ho : c.operands 4 0) (h : c.f 0 32 ≠ 0x52534554) :
    ∃ t, exec (.deviceReset c) s = .next t ∧ Answered 0x0A10 c 4 0 0 t ∧ CommandOnly c s t :=
  completes_reading (i := .deviceReset c) (spec := deviceResetSpec) (body := deviceResetBody) ha.1.1 ha (by simp [deviceResetSpec, ho.1]) (by simp [deviceResetSpec])
    (fun _ => rfl) (by decide) (if_pos h)

theorem deviceReset_arms {c : Cmd} {s : State} (ha : s.accepts true 0x0A10 c) (ho : c.operands 4 0) (h : c.f 0 32 = 0x52534554) :
    ∃ t, exec (.deviceReset c) s = .next t ∧ Answered 0x0A10 c 0 0 0 t ∧ CommandOnly c { s with pw := { s.pw with resetAt := some (s.now + 1000000) } } t := by
  have hbody : deviceResetBody { c := c, tk := s.newTicket, priv := s.privOf c } (s.entered deviceResetSpec.op c)
      = ({ s.entered deviceResetSpec.op c with pw := { (s.entered deviceResetSpec.op c).pw with resetAt := some ((s.entered deviceResetSpec.op c).now + 1000000) } }, .ok) :=
    if_neg (not_not.2 h)
  refine Runs.completes (i := .deviceReset c) (spec := deviceResetSpec) (body := deviceResetBody) (code := 0) (len := 0) (r := 0) ha.1.1 ha
    (by simp [deviceResetSpec, ho.1]) (by simp [deviceResetSpec]) (fun _ => rfl) (by rw [hbody]) (by decide) ?_ rfl
  rw [hbody]
  exact runs_of_comm (fun z => { z with pw := { z.pw with resetAt := some (z.now + 1000000) } }) (fun _ _ _ _ => rfl) rfl rfl rfl rfl

/-! ### Start-up (R426) -/

/-- INTERMISSION is reached at start-up, before its event record. -/
def State.started (s : State) : State := State.setP { s with ctl := { s.ctl with boot := .running, fwReady := true } } P.PW_LAST_CHANGE 0 s.now

theorem startupComplete_reaches {s : State} (hb : s.ctl.boot = .starting) : ∃ t, exec .startupComplete s = .next t ∧ t.ctl.boot = .running ∧ t.ctl.fwReady = true
    ∧ t.getP P.PW_LAST_CHANGE 0 = s.now ∧ SameParams [pkey P.PW_LAST_CHANGE 0] s t
    ∧ EventsOnly { s with params := t.params, ctl := { s.ctl with boot := .running, fwReady := true } } t := by
  have hx : exec .startupComplete s = guarded .startupComplete s (if s.ctl.boot ≠ .starting then s
      else s.started.post 0x98 0x0 0 (1 + at' 8 0xFF + at' 16 3 + at' 24 (s.getP P.PW_RESET_CAUSE 0))) := rfl
  rw [if_neg (not_not.2 hb)] at hx
  have hev := eventsOnly_post s.started 0x98 0x0 0 (1 + at' 8 0xFF + at' 16 3 + at' 24 (s.getP P.PW_RESET_CAUSE 0))
  generalize s.started.post 0x98 0x0 0 _ = t at hev hx
  obtain ⟨w, v, m, a, rfl, hrings⟩ := hev.rings
  refine ⟨_, exec_next hx rfl rfl rfl, rfl, rfl, State.getP_setP_same (s := s) _ _ _, ?_, ⟨⟨w, v, m, a, rfl⟩, hrings⟩⟩
  exact fun k hk => SMap.get_set_other pdef _ (by simpa using hk) _

/-- Parameters of a list and event records may differ. -/
def ParamEvents (l : List Nat) (s t : State) : Prop := EventsOnly { s with params := t.params } t ∧ SameParams l s t

theorem ParamEvents.refl (l : List Nat) (s : State) : ParamEvents l s s := ⟨EventsOnly.refl s, fun _ _ => rfl⟩

theorem ParamEvents.trans {l : List Nat} {s t u : State} (h : ParamEvents l s t) (g : ParamEvents l t u) : ParamEvents l s u := by
  obtain ⟨h1, h2⟩ := h
  obtain ⟨g1, g2⟩ := g
  exact ⟨(h1.withParams u.params).trans g1, h2.trans g2⟩

theorem ParamEvents.mono {l m : List Nat} {s t : State} (h : ParamEvents l s t) (hm : ∀ k ∈ l, k ∈ m) : ParamEvents m s t := ⟨h.1, h.2.mono hm⟩

theorem ParamEvents.setP {l : List Nat} {s t : State} (h : ParamEvents l s t) {i e : Nat} (hm : pkey i e ∈ l) (v : Nat) : ParamEvents l s (t.setP i e v) :=
  h.trans ⟨EventsOnly.refl _, sameParams_setP hm v⟩

theorem ParamEvents.events {l : List Nat} {s t u : State} (h : ParamEvents l s t) (g : EventsOnly t u) : ParamEvents l s u := by
  refine h.trans ⟨?_, g.sameParams l⟩
  obtain ⟨w, v, m, a, rfl, hr⟩ := g.rings
  exact ⟨⟨w, v, m, a, rfl⟩, hr⟩

theorem ParamsOnly.events {l : List Nat} {s t : State} (h : ParamsOnly l s t) : ParamEvents l s t := by
  refine ⟨?_, h.2⟩
  rw [← h.1]
  exact EventsOnly.refl t

theorem ParamEvents.foldl {α : Type} {l : List Nat} {f : State → α → State} {m : List α} (h : ∀ t, ∀ a ∈ m, ParamEvents l t (f t a)) (s : State) :
    ParamEvents l s (m.foldl f s) :=
  List.foldlRecOn (motive := fun t : State => ParamEvents l s t) m f (ParamEvents.refl l s) fun _ ht a ha => ht.trans (h _ a ha)

theorem setUse_paramEvents {l : List Nat} {used i : Nat} (hm : pkey used i ∈ l) (quota kind v : Nat) (s : State) : ParamEvents l s (s.setUse used quota kind i v) := by
  have hset := (ParamEvents.refl l s).setP hm v
  unfold State.setUse State.memQuotaEvent State.quotaChange
  dsimp only
  split
  · exact hset
  · split <;> exact hset.events (eventsOnly_post _ _ _ _ _)

theorem memReport_paramEvents (s : State) : ParamEvents memoryKeys s s.memReport := by
  refine (ParamEvents.foldl (fun t k hk => ?_) s).trans (ParamEvents.foldl (fun t w hw => ?_) _)
  · exact setUse_paramEvents (List.mem_append.2 (.inl (List.mem_map.2 ⟨k, hk, rfl⟩))) _ _ _ t
  · exact setUse_paramEvents (List.mem_append.2 (.inr (List.mem_map.2 ⟨w, hw, rfl⟩))) _ _ _ t

theorem regionReport_paramsOnly (s : State) : ParamsOnly regionKeys s s.regionReport := by
  unfold State.regionReport
  have htotal (v : Nat) : ParamsOnly regionKeys s (s.setP P.CXL_PERSIST_TOTAL 0 v) := (ParamsOnly.refl _ s).setP List.mem_cons_self v
  refine List.foldlRecOn (motive := fun t : State => ParamsOnly regionKeys s t) _ _ (htotal _) fun t ht r hr => ?_
  have hmem : pkey P.CXL_REGION_BASE r ∈ regionKeys ∧ pkey P.CXL_REGION_SIZE r ∈ regionKeys := by
    constructor <;> exact List.mem_cons_of_mem _ (List.mem_flatMap.2 ⟨r, hr, by simp⟩)
  exact (ht.setP hmem.1 _).setP hmem.2 _

/-- The DRAM channels of `l` have failed their training twice. -/
def State.channelsFailed (l : List Nat) (s : State) : State :=
  let s1 := l.foldl (fun t ch => t.logFault 0x9 ch 0x0604 ch) s
  if s.ctl.boot = .training then { s1 with ctl := { s1.ctl with boot := .recoveryDram, fwReady := true } } else s1

/-- The image selected runs: its parameters are shown. -/
def State.imageShown (s : State) : State :=
  (((State.setP { s with ctl := { s.ctl with boot := .starting } } P.FW_RELEASE 0 (s.fwSlot s.ctl.bootSlot).release).setP P.FW_ACTIVE_SLOT 0 s.ctl.bootSlot).setP
    P.FW_SECURITY_FLOOR 0 s.ctl.fwFloor)

/-- What the image does at its start. -/
def State.imageStarts (s : State) : State :=
  (List.range 8).foldl (fun t g => t.applyCgEnable g) ((s.imageShown.memReport.bwReport).regionsAtStart).binsAtStart

theorem dramTrainingDone_exec (l : List Nat) (s : State) : exec (.dramTrainingDone l) s = guarded (.dramTrainingDone l) s
    (if s.ctl.boot ≠ .training ∧ s.ctl.boot ≠ .recoveryImage then s else if !l.isEmpty then s.channelsFailed l
      else if s.ctl.boot ≠ .training then s else s.imageStarts) := rfl

theorem dramTrainingDone_idle {l : List Nat} {s : State} (h : s.ctl.boot ≠ .training ∧ s.ctl.boot ≠ .recoveryImage ∨ s.ctl.boot = .recoveryImage ∧ l = []) :
    exec (.dramTrainingDone l) s = .next s := by
  refine exec_next (dramTrainingDone_exec l s) rfl ?_ rfl
  rcases h with h | ⟨hb, rfl⟩
  · exact if_pos h
  · rw [if_neg fun h => h.2 hb, if_neg (by simp), if_pos (by simp [hb])]

theorem dramTrainingDone_channels {n : Nat} {s : State} (hb : s.ctl.boot = .training ∨ s.ctl.boot = .recoveryImage) :
    exec (.dramTrainingDone [n]) s = guarded (.dramTrainingDone [n]) s (s.channelsFailed [n]) := by
  rw [dramTrainingDone_exec, if_neg fun h => hb.elim h.1 h.2, if_pos (by simp)]

theorem dramTrainingDone_fails {n : Nat} {s : State} (hb : s.ctl.boot = .training) : ∃ t, exec (.dramTrainingDone [n]) s = .next t ∧ t.ctl.boot = .recoveryDram
    ∧ t.ctl.fwReady = true ∧ (t.ctl.faultLog.getLast?.map fun x => (x.seq, x.cls, x.idx, x.code)) = some (s.ctl.faultNext, 0x9, n, 0x0604)
    ∧ EventsOnly { s with ctl := { s.ctl with boot := .recoveryDram, fwReady := true, faultLog := t.ctl.faultLog, faultNext := t.ctl.faultNext } } t := by
  have hx := dramTrainingDone_channels (n := n) (.inl hb)
  rw [State.channelsFailed, if_pos hb] at hx
  obtain ⟨l, q, hev, hlast⟩ := logFault_events 0x9 n 0x0604 n s
  change exec _ s = guarded _ s { s.logFault 0x9 n 0x0604 n with ctl := { (s.logFault 0x9 n 0x0604 n).ctl with boot := .recoveryDram, fwReady := true } } at hx
  generalize s.logFault 0x9 n 0x0604 n = t at hev hx
  obtain ⟨w, v, m, a, rfl, hrings⟩ := hev.rings
  exact ⟨_, exec_next hx rfl rfl rfl, rfl, rfl, hlast, ⟨⟨w, v, m, a, rfl⟩, hrings⟩⟩

theorem dramTrainingDone_recovery {n : Nat} {s : State} (hb : s.ctl.boot = .recoveryImage) : ∃ t, exec (.dramTrainingDone [n]) s = .next t
    ∧ (t.ctl.faultLog.getLast?.map fun x => (x.seq, x.cls, x.idx, x.code)) = some (s.ctl.faultNext, 0x9, n, 0x0604)
    ∧ EventsOnly { s with ctl := { s.ctl with faultLog := t.ctl.faultLog, faultNext := t.ctl.faultNext } } t := by
  have hx := dramTrainingDone_channels (n := n) (.inr hb)
  rw [State.channelsFailed, if_neg (by simp [hb])] at hx
  obtain ⟨l, q, hev, hlast⟩ := logFault_events 0x9 n 0x0604 n s
  change exec _ s = guarded _ s (s.logFault 0x9 n 0x0604 n) at hx
  generalize s.logFault 0x9 n 0x0604 n = t at hev hx
  obtain ⟨w, v, m, a, rfl, hrings⟩ := hev.rings
  exact ⟨_, exec_next hx rfl rfl rfl, hlast, ⟨⟨w, v, m, a, rfl⟩, hrings⟩⟩

/-- The parameters that the start of the image sets. -/
abbrev startKeys : List Nat := [pkey P.FW_RELEASE 0, pkey P.FW_ACTIVE_SLOT 0, pkey P.FW_SECURITY_FLOOR 0] ++ (memoryKeys ++ (bwKeys ++ regionKeys))

theorem imageShown_effect (s : State) : ∃ p, s.imageShown = { s with params := p, ctl := { s.ctl with boot := .starting } }
    ∧ SMap.get pdef p (pkey P.FW_RELEASE 0) = (s.fwSlot s.ctl.bootSlot).release ∧ SMap.get pdef p (pkey P.FW_ACTIVE_SLOT 0) = s.ctl.bootSlot
    ∧ SMap.get pdef p (pkey P.FW_SECURITY_FLOOR 0) = s.ctl.fwFloor
    ∧ ∀ k, k ∉ [pkey P.FW_RELEASE 0, pkey P.FW_ACTIVE_SLOT 0, pkey P.FW_SECURITY_FLOOR 0] → SMap.get pdef p k = SMap.get pdef s.params k := by
  refine ⟨SMap.set pdef (SMap.set pdef (SMap.set pdef s.params (pkey P.FW_RELEASE 0) (s.fwSlot s.ctl.bootSlot).release) (pkey P.FW_ACTIVE_SLOT 0) s.ctl.bootSlot)
    (pkey P.FW_SECURITY_FLOOR 0) s.ctl.fwFloor, rfl, ?_, ?_, SMap.get_set_same _ _ _ _, fun k hk => ?_⟩
  · rw [SMap.get_set_other _ _ (by decide), SMap.get_set_other _ _ (by decide), SMap.get_set_same]
  · rw [SMap.get_set_other _ _ (by decide), SMap.get_set_same]
  · simp only [List.mem_cons, List.not_mem_nil, or_false, not_or] at hk
    obtain ⟨h1, h2, h3⟩ := hk
    rw [SMap.get_set_other _ _ h3, SMap.get_set_other _ _ h2, SMap.get_set_other _ _ h1]

theorem reportKeys_range {k : Nat} (h : k ∈ memoryKeys ++ (bwKeys ++ regionKeys)) : 0x61 * 4096 ≤ k ∧ k < 0x63 * 4096 ∨ 0x1000 * 4096 ≤ k := by
  simp only [memoryKeys, bwKeys, regionKeys, List.mem_append, List.mem_map, List.mem_cons, List.mem_flatMap, List.mem_range, List.not_mem_nil, or_false, pkey, P.MEM_CARVE_USED,
    P.MEM_WINDOW_USED, P.BW_RESERVED, P.BW_SHORTFALL, P.CXL_PERSIST_TOTAL, P.CXL_REGION_BASE, P.CXL_REGION_SIZE] at h
  rcases h with (⟨a, -, rfl⟩ | ⟨a, -, rfl⟩) | ⟨a, ha, rfl | rfl⟩ | rfl | ⟨a, -, rfl | rfl⟩ <;> omega

theorem camKey_not_startKeys {i g : Nat} (hg : g < 8) (hi : 0x0100 ≤ i ∧ i ≤ 0x0101) : pkey (P.cg g i) 0 ∉ startKeys := by
  rw [List.mem_append, not_or]
  refine ⟨?_, fun h => ?_⟩
  · simp only [List.mem_cons, List.not_mem_nil, or_false, pkey, P.cg, P.FW_RELEASE, P.FW_ACTIVE_SLOT, P.FW_SECURITY_FLOOR]
    omega
  · have := reportKeys_range h
    simp only [pkey, P.cg] at this
    omega

/-- The start of the image on a device without regions, bins and enabled cameras. -/
theorem imageStarts_effect {s : State} (hr : s.cxl.regions = []) (hbins : s.fr.bins = []) (hcam : ∀ g, g < 8 → s.getP (P.cg g P.CG_ENABLE) 0 = 0 ∧ s.camState g = 0) :
    ∃ t, s.imageStarts = t ∧ t.getP P.FW_RELEASE 0 = (s.fwSlot s.ctl.bootSlot).release ∧ t.getP P.FW_ACTIVE_SLOT 0 = s.ctl.bootSlot
      ∧ t.getP P.FW_SECURITY_FLOOR 0 = s.ctl.fwFloor ∧ SameParams startKeys s t
      ∧ EventsOnly { s with params := t.params, ctl := { s.ctl with boot := .starting } } t := by
  obtain ⟨p, hp, h1, h2, h3, hsame⟩ := imageShown_effect s
  have hrep : ParamEvents (memoryKeys ++ (bwKeys ++ regionKeys)) s.imageShown s.imageShown.memReport.bwReport.regionReport :=
    (((memReport_paramEvents _).mono fun k hk => List.mem_append.2 (.inl hk)).trans
      ((bwReport_paramsOnly _).events.mono fun k hk => List.mem_append.2 (.inr (List.mem_append.2 (.inl hk))))).trans
      ((regionReport_paramsOnly _).events.mono fun k hk => List.mem_append.2 (.inr (List.mem_append.2 (.inr hk))))
  obtain ⟨w, v, m, a, ht, -⟩ := hrep.1.rings
  have hbody : s.imageStarts = s.imageShown.memReport.bwReport.regionReport := by
    have hregions : s.imageShown.memReport.bwReport.regionsAtStart = s.imageShown.memReport.bwReport.regionReport := by
      unfold State.regionsAtStart
      rw [ht, hp]
      dsimp only
      rw [hr]
      rfl
    unfold State.imageStarts
    rw [hregions]
    generalize s.imageShown.memReport.bwReport.regionReport = t at ht hrep
    have hb : t.binsAtStart = t := by
      rw [State.binsAtStart, State.binList, ht, hp]
      dsimp only
      rw [hbins]
      rfl
    have hcg (i g : Nat) (hg : g < 8) (hi : 0x0100 ≤ i ∧ i ≤ 0x0101) : t.getP (P.cg g i) 0 = s.getP (P.cg g i) 0 := by
      obtain ⟨hk1, hk2⟩ := not_or.1 (List.mem_append.not.1 (camKey_not_startKeys hg hi))
      rw [hrep.2.getP hk2, hp]
      exact hsame _ hk1
    rw [hb]
    exact foldl_fixed_of_mem fun g hg => by
      have hg := List.mem_range.1 hg
      rw [State.applyCgEnable, if_pos ((hcg _ g hg (by decide)).trans (hcam g hg).1), if_pos ((hcg _ g hg (by decide)).trans (hcam g hg).2)]
  rw [hbody]
  generalize s.imageShown.memReport.bwReport.regionReport = t at hrep
  rw [hp] at hrep
  obtain ⟨hev, hpar⟩ := hrep
  have hfw (i : Nat) (hi : i < 0x61) : t.getP i 0 = SMap.get pdef p (pkey i 0) := hpar _ fun h => by
    have := reportKeys_range h
    simp only [pkey] at this
    omega
  refine ⟨t, rfl, (hfw _ (by decide)).trans h1, (hfw _ (by decide)).trans h2, (hfw _ (by decide)).trans h3, fun k hk => ?_, hev⟩
  obtain ⟨hk1, hk2⟩ := not_or.1 (List.mem_append.not.1 hk)
  exact (hpar k hk2).trans (hsame k hk1)

theorem dramTrainingDone_starts {s : State} (hb : s.ctl.boot = .training) (hr : s.cxl.regions = []) (hbins : s.fr.bins = [])
    (hcam : ∀ g, g < 8 → s.getP (P.cg g P.CG_ENABLE) 0 = 0 ∧ s.camState g = 0) :
    ∃ t, exec (.dramTrainingDone []) s = .next t ∧ t.ctl.boot = .starting ∧ t.getP P.FW_RELEASE 0 = (s.fwSlot s.ctl.bootSlot).release
      ∧ t.getP P.FW_ACTIVE_SLOT 0 = s.ctl.bootSlot ∧ t.getP P.FW_SECURITY_FLOOR 0 = s.ctl.fwFloor ∧ SameParams startKeys s t
      ∧ EventsOnly { s with params := t.params, ctl := { s.ctl with boot := .starting } } t := by
  obtain ⟨t, ht, h1, h2, h3, hsame, hev⟩ := imageStarts_effect hr hbins hcam
  have hx := dramTrainingDone_exec [] s
  rw [if_neg fun h => h.1 hb, if_neg (by simp), if_neg (not_not.2 hb)] at hx
  refine ⟨t, exec_next hx rfl ht (hev.pending.trans rfl), ?_, h1, h2, h3, hsame, hev⟩
  obtain ⟨w, v, m, a, ht, -⟩ := hev.rings
  rw [ht]

end Sys2Proof.Machine
end

section
/-! The power states: POWER_STATE_SET, the entry to DARK, the exit from it and the return to it (O52). -/

namespace Sys2Proof.Machine

/-! ### A change of power state (R429, R432, R446, R447) -/

/-- A change towards `target` is under way. -/
def State.changing (target : Nat) (step : PwStep) (s : State) : State :=
  State.setP { s with pw := { s.pw with step := step, start := s.now } } P.PW_STATE 0 (s.powerState + at' 8 target + 0x10000)

/-- A power state is reached, before its event record. -/
def State.arrived (new : Nat) (s : State) : State :=
  (State.setP { s with pw := { s.pw with step := .none } } P.PW_STATE 0 new).setP P.PW_LAST_CHANGE 0 s.now

theorem beginChange_events (target : Nat) (step : PwStep) (s : State) : EventsOnly (s.changing target step) (s.beginChange target step) := eventsOnly_advanceAll _

theorem reachPower_events (new reason : Nat) (s : State) : EventsOnly (s.arrived new) (s.reachPower new reason) :=
  (eventsOnly_advanceAll _).trans (eventsOnly_post _ _ _ _ _)

theorem beginChange_reachPower_events (target : Nat) (step : PwStep) (new reason : Nat) (s : State) :
    EventsOnly ((s.changing target step).arrived new) ((s.beginChange target step).reachPower new reason) :=
  ((beginChange_events target step s).lift (State.arrived new) (fun _ _ _ _ _ => rfl) fun _ => rfl).trans (reachPower_events new reason _)

theorem changeReview_waits {s : State} (h : s.pw.canvases ≠ []) : s.changeReview = s := by
  rw [State.changeReview, if_pos (by cases hc : s.pw.canvases <;> simp_all)]

theorem changeReview_show {s : State} (h : s.pw.canvases = []) (hs : s.pw.step = .toShow) : s.changeReview = (s.reachPower 0 s.pw.reason).answerPower := by
  rw [State.changeReview, h, hs]
  rfl

theorem changeReview_intermission {s : State} (h : s.pw.canvases = []) (hs : s.pw.step = .toIntermission) (ht : s.pw.thenTarget = none) :
    s.changeReview = (s.reachPower 1 s.pw.reason).answerPower := by
  rw [State.changeReview, h, hs]
  change (match s.pw.thenTarget with | some k => _ | none => _) = _
  rw [ht]

theorem answerPower_none {s : State} (h : s.pw.tickets = []) : s.answerPower = { s with pw := { s.pw with tickets := [] } } := by
  rw [State.answerPower, h]
  rfl

theorem answerPower_one {tk : Nat} {s : State} (h : s.pw.tickets = [tk]) :
    s.answerPower = State.finalReply tk cOK 12 (s.powerState + at' 32 s.now) { s with pw := { s.pw with tickets := [] } } := by
  rw [State.answerPower, h]
  rfl

/-! ### POWER_STATE_SET (R432 to R434, R445) -/

theorem entered_powerState (s : State) (op : Nat) (c : Cmd) : (s.entered op c).powerState = s.powerState := congrArg (· % 256) (State.entered_getP s op c _ _)

theorem entered_runningCanvases (s : State) (op : Nat) (c : Cmd) : (s.entered op c).runningCanvases = s.runningCanvases := by
  unfold State.runningCanvases State.cvState
  simp only [State.entered_getP]

/-- A command whose meaning gives its own final reply completes. -/
theorem RunsEvents.completes_inside {i : Instr} {spec : OpSpec} {body : Body} {c : Cmd} {s e u : State} {code len r : Nat} (hi : i.wellFormed = true)
    (ha : s.accepts (spec.priv || spec.privIf c) spec.op c) (hl : spec.len c = true) (hr : (c.ops % 2 ^ (8 * c.opLen)) &&& spec.rsvd = 0)
    (hb : c.win = 64 → spec.bus c = true)
    (h2 : body { c := c, tk := s.newTicket, priv := s.privOf c } (s.entered spec.op c) = (u.finalReply s.newTicket code len r, .wait)) (hc : code < 256)
    (h1 : RunsEvents s spec.op c e u) (hp : e.pending = s.pending) :
    ∃ t, guarded i s (submit spec body c s) = .next t ∧ Answered spec.op c code len r t ∧ CommandEvents c e t := by
  have hd := s.aipexDown_of_ready ha.1.2.2.2.1
  have hpend : (body { c := c, tk := s.newTicket, priv := s.privOf c } (s.entered spec.op c)).1.pending = s.pending := by
    rw [h2, State.finalReply_pending]
    exact h1.pending.trans hp
  refine ⟨_, submit_waits (i := i) (body := body) hi ha hl hr hb (by rw [h2]) hpend, ?_, ?_⟩
  · rw [h2]
    exact h1.answered hd hc len r
  · rw [h2]
    obtain ⟨v, hv, hev⟩ := h1
    exact RunsEvents.commandEvents ⟨v, hv, hev⟩ hd code len r hv.2.2.2.1

section
variable {c : Cmd} {g old : Nat} {s : State}

theorem powerStateSetBody_eq (k : Call) (s : State) : powerStateSetBody k s =
    (if 2 < k.c.f 0 8 ∨ ((k.c.f 8 1 == 1) = true ∧ k.c.f 0 8 ≠ 2) then (s, .err cBAD_PARAM)
    else if s.pw.step = .toIntermission ∨ s.pw.step = .toShow then (s, .err cBUSY)
    else if s.pw.step = .none ∧ k.c.f 0 8 = s.powerState then
      (s, if k.c.immediate then .ok else .done cOK 12 (k.c.f 0 8 + at' 32 (s.getP P.PW_LAST_CHANGE 0)))
    else
      (if s.pw.step = .none then State.changePower (k.c.f 0 8) (k.c.f 8 1 == 1) (if k.c.immediate then s else { s with pw := { s.pw with tickets := s.pw.tickets ++ [k.tk] } })
        else if k.c.immediate then s else { s with pw := { s.pw with tickets := s.pw.tickets ++ [k.tk] } }, if k.c.immediate then .ok else .wait)) := rfl

/-- The meaning of POWER_STATE_SET on a device in which no change is in progress and that is not in the state asked for. -/
theorem powerStateSetBody_begins {k : Call} {s : State} (hg : k.c.f 0 8 ≤ 2) (hh : k.c.f 8 1 = 1 → k.c.f 0 8 = 2) (hstep : s.pw.step = .none)
    (hne : k.c.f 0 8 ≠ s.powerState) (himm : k.c.immediate = false) :
    powerStateSetBody k s = (State.changePower (k.c.f 0 8) (k.c.f 8 1 == 1) { s with pw := { s.pw with tickets := s.pw.tickets ++ [k.tk] } }, .wait) := by
  rw [powerStateSetBody_eq, if_neg, if_neg (by simp [hstep]), if_neg fun h => hne h.2, if_pos hstep, himm]
  · rfl
  · rintro (h | ⟨h1, h2⟩)
    · omega
    · exact h2 (hh (by simpa using h1))

variable (ha : s.accepts true 0x0040 c) (ho : c.operands 4 0xFFFFFE00)
include ha ho

theorem powerStateSet_answers {code len r : Nat} (hc : code < 256)
    (hbody : powerStateSetBody { c := c, tk := s.newTicket, priv := s.privOf c } (s.entered 0x0040 c) = (s.entered 0x0040 c, .done code len r)) :
    ∃ t, exec (.powerStateSet c) s = .next t ∧ Answered 0x0040 c code len r t ∧ CommandOnly c s t :=
  completes_reading (i := .powerStateSet c) (spec := powerStateSetSpec) (body := powerStateSetBody) ha.1.1 ha (by simp [powerStateSetSpec, ho.1])
    (by rw [ho.1]; exact ho.2) (fun _ => rfl) hc hbody

theorem powerStateSet_badParam (h : 2 < c.f 0 8 ∨ c.f 8 1 = 1 ∧ c.f 0 8 ≠ 2) :
    ∃ t, exec (.powerStateSet c) s = .next t ∧ Answered 0x0040 c 4 0 0 t ∧ CommandOnly c s t :=
  powerStateSet_answers ha ho (by decide) (by rw [powerStateSetBody_eq, if_pos (by simpa using h)])

theorem powerStateSet_busy (hg : ¬ (2 < c.f 0 8 ∨ c.f 8 1 = 1 ∧ c.f 0 8 ≠ 2)) (h : s.pw.step = .toIntermission ∨ s.pw.step = .toShow) :
    ∃ t, exec (.powerStateSet c) s = .next t ∧ Answered 0x0040 c 2 0 0 t ∧ CommandOnly c s t :=
  powerStateSet_answers ha ho (by decide) (by
    rw [powerStateSetBody_eq, if_neg (by simpa using hg), if_pos]
    rwa [State.entered_pw])

theorem powerStateSet_held (hg : ¬ (2 < c.f 0 8 ∨ c.f 8 1 = 1 ∧ c.f 0 8 ≠ 2)) (h : s.pw.step = .none) (he : c.f 0 8 = s.powerState) :
    ∃ t, exec (.powerStateSet c) s = .next t ∧ CommandOnly c s t
      ∧ (if c.immediate then Answered 0x0040 c 0 0 0 t else Answered 0x0040 c 0 12 (c.f 0 8 + at' 32 (s.getP P.PW_LAST_CHANGE 0)) t) := by
  have hstep : (s.entered 0x0040 c).pw.step = .none := by rwa [State.entered_pw]
  have hbody : powerStateSetBody { c := c, tk := s.newTicket, priv := s.privOf c } (s.entered 0x0040 c)
      = (s.entered 0x0040 c, if c.immediate then .ok else .done cOK 12 (c.f 0 8 + at' 32 (s.getP P.PW_LAST_CHANGE 0))) := by
    rw [powerStateSetBody_eq, if_neg (by simpa using hg), if_neg (by rw [hstep]; simp), if_pos ⟨hstep, by rw [entered_powerState]; exact he⟩, State.entered_getP]
  cases himm : c.immediate with
  | true =>
    obtain ⟨t, hx, hans, hcmd⟩ := powerStateSet_answers (code := 0) ha ho (by decide) (by rw [hbody, himm]; rfl)
    exact ⟨t, hx, hcmd, hans⟩
  | false =>
    obtain ⟨t, hx, hans, hcmd⟩ := powerStateSet_answers (code := 0) ha ho (by decide) (by rw [hbody, himm]; rfl)
    exact ⟨t, hx, hcmd, hans⟩

/-- The change is under way, and the command waits. -/
theorem powerStateSet_waits {x : Nat} {q : Power} {u : State}
    (hbody : powerStateSetBody { c := c, tk := s.newTicket, priv := s.privOf c } (s.entered 0x0040 c) = (u, .wait))
    (hev : EventsOnly { s.entered 0x0040 c with params := SMap.set pdef (s.entered 0x0040 c).params (pkey P.PW_STATE 0) x, pw := q } u) :
    ∃ t, exec (.powerStateSet c) s = .next t ∧ t.getP P.PW_STATE 0 = x ∧ SameParams [pkey P.PW_STATE 0] s t
      ∧ WaitsEvents 0x0040 c { s with params := t.params, pw := q } t := by
  have hrun : RunsEvents s 0x0040 c { s with params := SMap.set pdef s.params (pkey P.PW_STATE 0) x, pw := q } u :=
    ⟨_, runs_of_comm (fun z => { z with params := SMap.set pdef z.params (pkey P.PW_STATE 0) x, pw := q }) (fun _ _ _ _ => rfl) rfl rfl rfl rfl, hev⟩
  obtain ⟨hx, hw⟩ := RunsEvents.waits (i := .powerStateSet c) (spec := powerStateSetSpec) (body := powerStateSetBody) ha.1.1 ha (by simp [powerStateSetSpec, ho.1])
    (by rw [ho.1]; exact ho.2) (fun _ => rfl) hbody hrun rfl rfl
  have hparams : u.params = SMap.set pdef s.params (pkey P.PW_STATE 0) x := by
    obtain ⟨w, v, m, a, k, f, hu⟩ := hrun.frame
    rw [hu]
  refine ⟨u, hx, ?_, fun k hk => ?_, by rw [hparams]; exact hw⟩
  · rw [State.getP, hparams, SMap.get_set_same]
  · rw [hparams]
    exact SMap.get_set_other _ _ (by simpa using hk) _

/-- The change is over at once, and the command complete. -/
theorem powerStateSet_completes {x new : Nat} {q : Power} {u : State} (hq : q.step = .none)
    (hbody : powerStateSetBody { c := c, tk := s.newTicket, priv := s.privOf c } (s.entered 0x0040 c) = (u.finalReply s.newTicket 0 12 (new + at' 32 s.now), .wait))
    (hev : EventsOnly { s.entered 0x0040 c with
      params := SMap.set pdef (SMap.set pdef (SMap.set pdef (s.entered 0x0040 c).params (pkey P.PW_STATE 0) x) (pkey P.PW_STATE 0) new) (pkey P.PW_LAST_CHANGE 0) (s.entered 0x0040 c).now
      pw := q } u) :
    ∃ t, exec (.powerStateSet c) s = .next t ∧ Answered 0x0040 c 0 12 (new + at' 32 s.now) t ∧ t.getP P.PW_STATE 0 = new ∧ t.getP P.PW_LAST_CHANGE 0 = s.now
      ∧ t.pw.step = .none ∧ SameParams [pkey P.PW_STATE 0, pkey P.PW_LAST_CHANGE 0] s t ∧ CommandEvents c { s with params := t.params, pw := t.pw } t := by
  generalize hp : (fun p => SMap.set pdef (SMap.set pdef (SMap.set pdef p (pkey P.PW_STATE 0) x) (pkey P.PW_STATE 0) new) (pkey P.PW_LAST_CHANGE 0) (s.entered 0x0040 c).now) = P
  have hrun : RunsEvents s 0x0040 c { s with params := P s.params, pw := q } u :=
    ⟨_, runs_of_comm (fun z => { z with params := P z.params, pw := q }) (fun _ _ _ _ => rfl) rfl rfl rfl rfl, hp ▸ hev⟩
  obtain ⟨t, hx, hans, hcmd⟩ := RunsEvents.completes_inside (i := .powerStateSet c) (spec := powerStateSetSpec) (body := powerStateSetBody) ha.1.1 ha
    (by simp [powerStateSetSpec, ho.1]) (by rw [ho.1]; exact ho.2) (fun _ => rfl) hbody (by decide) hrun rfl
  obtain ⟨hframe, hother, hsame⟩ := hcmd
  have hparams : t.params = P s.params := by rw [hframe]
  have hpw : t.pw = { q with returnFrom := t.pw.returnFrom } := by conv_lhs => rw [hframe]
  refine ⟨t, hx, hans, ?_, ?_, by rw [hpw]; exact hq, fun k hk => ?_, ?_, hother, hsame⟩
  · rw [State.getP, hparams, ← hp, SMap.get_set_other _ _ (by decide), SMap.get_set_same]
  · rw [State.getP, hparams, ← hp, SMap.get_set_same, State.entered_now]
  · simp only [List.mem_cons, List.not_mem_nil, or_false, not_or] at hk
    rw [hparams, ← hp]
    rw [SMap.get_set_other _ _ hk.2, SMap.get_set_other _ _ hk.1, SMap.get_set_other _ _ hk.1]
  · exact hframe.trans (by rw [hparams, ← hpw])

end

/-! The changes that POWER_STATE_SET begins (Table 15-6). -/

/-- The command's ticket waits for the change. -/
abbrev State.awaited (tk : Nat) (s : State) : State := { s with pw := { s.pw with tickets := s.pw.tickets ++ [tk] } }

section
variable {s : State} {target : Nat} {handover : Bool}

theorem changePower_show_waits (h : s.powerState = 0) (hr : s.runningCanvases ≠ []) : s.changePower target handover = State.beginChange target .toIntermission
    { s with pw := { s.pw with reason := 0, canvases := s.runningCanvases, thenTarget := if target = 2 then some (2 + 256 * b2n handover) else none, returnFrom := none } } :=
  (if_pos h).trans (changeReview_waits hr)

theorem changePower_intermission_waits (h : s.powerState = 1) (hr : s.runningCanvases ≠ []) : s.changePower 0 handover = State.beginChange 0 .toShow
    { s with pw := { s.pw with reason := 0, canvases := s.runningCanvases, returnFrom := none } } :=
  (if_neg (by omega)).trans ((if_pos rfl).trans (changeReview_waits hr))

theorem answerPower_reached {new tk : Nat} {z r : State} (hnew : new < 256) (ht : z.pw.tickets = [tk]) (hr : EventsOnly (z.arrived new) r) :
    ∃ u, r.answerPower = u.finalReply tk cOK 12 (new + at' 32 z.now) ∧ EventsOnly { z.arrived new with pw := { z.pw with step := .none, tickets := [] } } u := by
  have hlift := hr.lift (fun z => { z with pw := { z.pw with tickets := [] } }) (fun _ _ _ _ _ => rfl) fun _ => rfl
  obtain ⟨w, v, m, a, he, -⟩ := hr.rings
  have hpow : r.powerState = new := by
    rw [State.powerState, hr.getP]
    have hget : (z.arrived new).getP P.PW_STATE 0 = new := by
      unfold State.arrived
      rw [State.getP_setP, if_neg (by decide), State.getP_setP_same]
    rw [hget, Nat.mod_eq_of_lt hnew]
  have hnow : r.now = z.now := by
    rw [he]
    rfl
  refine ⟨{ r with pw := { r.pw with tickets := [] } }, ?_, hlift⟩
  rw [answerPower_one (tk := tk) (by rw [he]; exact ht), hpow, hnow]

/-- The state in which a change from `s` towards `target` begins and ends at once. -/
abbrev State.passed (target new : Nat) (q : Power) (s : State) : State :=
  { s with
    params := SMap.set pdef (SMap.set pdef (SMap.set pdef s.params (pkey P.PW_STATE 0) (s.powerState + at' 8 target + 0x10000)) (pkey P.PW_STATE 0) new) (pkey P.PW_LAST_CHANGE 0) s.now
    pw := q }

theorem changePower_show_over {tk : Nat} (h : s.powerState = 0) (hr : s.runningCanvases = []) (ht : s.pw.tickets = [tk]) : ∃ u,
    s.changePower 1 handover = u.finalReply tk cOK 12 (1 + at' 32 s.now)
      ∧ EventsOnly (s.passed 1 1 { s.pw with step := .none, start := s.now, reason := 0, canvases := [], thenTarget := none, returnFrom := none, tickets := [] }) u := by
  have hbegin : s.changePower 1 handover = State.changeReview (State.beginChange 1 .toIntermission
      { s with pw := { s.pw with reason := 0, canvases := [], thenTarget := none, returnFrom := none } }) := (if_pos h).trans (by rw [hr]; rfl)
  rw [hbegin, changeReview_intermission rfl rfl rfl]
  have hev := beginChange_reachPower_events 1 .toIntermission 1 0 { s with pw := { s.pw with reason := 0, canvases := [], thenTarget := none, returnFrom := none } }
  obtain ⟨u, hu, hev'⟩ := answerPower_reached (z := State.changing _ _ _) (new := 1) (by decide) (by exact ht) hev
  exact ⟨u, hu, hev'⟩

theorem changePower_intermission_over {tk : Nat} (h : s.powerState = 1) (hr : s.runningCanvases = []) (ht : s.pw.tickets = [tk]) : ∃ u,
    s.changePower 0 handover = u.finalReply tk cOK 12 (0 + at' 32 s.now)
      ∧ EventsOnly (s.passed 0 0 { s.pw with step := .none, start := s.now, reason := 0, canvases := [], returnFrom := none, tickets := [] }) u := by
  have hbegin : s.changePower 0 handover = State.changeReview (State.beginChange 0 .toShow { s with pw := { s.pw with reason := 0, canvases := [], returnFrom := none } }) :=
    (if_neg (by omega)).trans ((if_pos rfl).trans (by rw [hr]))
  rw [hbegin, changeReview_show rfl rfl]
  have hev := beginChange_reachPower_events 0 .toShow 0 0 { s with pw := { s.pw with reason := 0, canvases := [], returnFrom := none } }
  obtain ⟨u, hu, hev'⟩ := answerPower_reached (z := State.changing _ _ _) (new := 0) (by decide) (by exact ht) hev
  exact ⟨u, hu, hev'⟩

/-- The entry to DARK without a handover of loops. -/
theorem beginDark_events (reason : Nat) (s : State) : EventsOnly { s with
    params := SMap.set pdef s.params (pkey P.PW_STATE 0) (s.powerState + at' 8 2 + 0x10000)
    pw := { s.pw with step := .awaitBoundary, start := s.now, reason := reason, thenTarget := none, returnFrom := none } } (s.beginDark false reason) :=
  beginChange_events 2 .awaitBoundary { s with pw := { s.pw with reason := reason, thenTarget := none, returnFrom := none } }

theorem changePower_dark (h : s.powerState = 1) : s.changePower 2 handover = s.beginDark handover 0 := (if_neg (by omega)).trans (if_neg (by decide))

end

/-- The command of ticket `tk` alone waits for a change of power state. -/
def State.ticketed (tk : Nat) (s : State) : State := { s with pw := { s.pw with tickets := [tk] } }

section
variable {k : Call} {s : State} (hstep : s.pw.step = .none) (htk : s.pw.tickets = []) (himm : k.c.immediate = false)
include hstep htk himm

theorem body_begins (hg : k.c.f 0 8 ≤ 2) (hh : k.c.f 8 1 = 1 → k.c.f 0 8 = 2) (hne : k.c.f 0 8 ≠ s.powerState) :
    powerStateSetBody k s = (State.changePower (k.c.f 0 8) (k.c.f 8 1 == 1) (s.ticketed k.tk), .wait) := by
  rw [powerStateSetBody_begins hg hh hstep hne himm, htk]
  rfl

theorem body_show_waits (hg : k.c.f 0 8 ≤ 2) (hh : k.c.f 8 1 = 1 → k.c.f 0 8 = 2) (hp : s.powerState = 0) (h1 : 1 ≤ k.c.f 0 8) (hr : s.runningCanvases ≠ []) : ∃ u,
    powerStateSetBody k s = (u, .wait) ∧ EventsOnly { s with
      params := SMap.set pdef s.params (pkey P.PW_STATE 0) (s.powerState + at' 8 (k.c.f 0 8) + 0x10000)
      pw := { s.pw with
        step := .toIntermission, start := s.now, tickets := [k.tk], reason := 0, canvases := s.runningCanvases, returnFrom := none
        thenTarget := if k.c.f 0 8 = 2 then some (2 + 256 * k.c.f 8 1) else none } } u := by
  have hb : b2n (k.c.f 8 1 == 1) = k.c.f 8 1 := by
    have : k.c.f 8 1 < 2 := Nat.mod_lt _ (by decide)
    rcases (by omega : k.c.f 8 1 = 0 ∨ k.c.f 8 1 = 1) with h | h <;> rw [h] <;> rfl
  refine ⟨_, (body_begins hstep htk himm hg hh (by omega)).trans (by rw [changePower_show_waits (s := s.ticketed k.tk) hp hr, hb]), ?_⟩
  exact beginChange_events _ _ _

theorem body_intermission_waits (hg : k.c.f 0 8 = 0) (hh : k.c.f 8 1 = 1 → k.c.f 0 8 = 2) (hp : s.powerState = 1) (hr : s.runningCanvases ≠ []) : ∃ u,
    powerStateSetBody k s = (u, .wait) ∧ EventsOnly { s with
      params := SMap.set pdef s.params (pkey P.PW_STATE 0) (s.powerState + at' 8 0 + 0x10000)
      pw := { s.pw with step := .toShow, start := s.now, tickets := [k.tk], reason := 0, canvases := s.runningCanvases, returnFrom := none } } u := by
  refine ⟨_, (body_begins hstep htk himm (by omega) hh (by omega)).trans (by rw [hg, changePower_intermission_waits (s := s.ticketed k.tk) hp hr]), ?_⟩
  exact beginChange_events _ _ _

theorem body_dark_waits (hg : k.c.f 0 8 = 2) (hh : k.c.f 8 1 = 0) (hp : s.powerState = 1) : ∃ u,
    powerStateSetBody k s = (u, .wait) ∧ EventsOnly { s with
      params := SMap.set pdef s.params (pkey P.PW_STATE 0) (s.powerState + at' 8 2 + 0x10000)
      pw := { s.pw with step := .awaitBoundary, start := s.now, tickets := [k.tk], reason := 0, thenTarget := none, returnFrom := none } } u := by
  refine ⟨_, (body_begins hstep htk himm (by omega) (by omega) (by omega)).trans (by rw [hg, hh, changePower_dark (s := s.ticketed k.tk) hp]), ?_⟩
  exact beginDark_events _ _

theorem body_show_over (hg : k.c.f 0 8 = 1) (hh : k.c.f 8 1 = 1 → k.c.f 0 8 = 2) (hp : s.powerState = 0) (hr : s.runningCanvases = []) : ∃ u,
    powerStateSetBody k s = (u.finalReply k.tk cOK 12 (1 + at' 32 s.now), .wait)
      ∧ EventsOnly (s.passed 1 1 { s.pw with step := .none, start := s.now, reason := 0, canvases := [], thenTarget := none, returnFrom := none, tickets := [] }) u := by
  obtain ⟨u, hu, hev⟩ := changePower_show_over (s := s.ticketed k.tk) (handover := k.c.f 8 1 == 1) hp hr rfl
  exact ⟨u, (body_begins hstep htk himm (by omega) hh (by omega)).trans (by rw [hg, hu]; rfl), hev⟩

theorem body_intermission_over (hg : k.c.f 0 8 = 0) (hh : k.c.f 8 1 = 1 → k.c.f 0 8 = 2) (hp : s.powerState = 1) (hr : s.runningCanvases = []) : ∃ u,
    powerStateSetBody k s = (u.finalReply k.tk cOK 12 (0 + at' 32 s.now), .wait)
      ∧ EventsOnly (s.passed 0 0 { s.pw with step := .none, start := s.now, reason := 0, canvases := [], returnFrom := none, tickets := [] }) u := by
  obtain ⟨u, hu, hev⟩ := changePower_intermission_over (s := s.ticketed k.tk) (handover := k.c.f 8 1 == 1) hp hr rfl
  exact ⟨u, (body_begins hstep htk himm (by omega) hh (by omega)).trans (by rw [hg, hu]; rfl), hev⟩

end

section
variable {c : Cmd} {g old : Nat} {s : State} (ha : s.accepts true 0x0040 c) (ho : c.operands 4 0xFFFFFE00) (hg : g = c.f 0 8) (hold : old = s.powerState)
  (hstep : s.pw.step = .none) (htk : s.pw.tickets = []) (himm : c.immediate = false)
include ha ho hg hold hstep htk himm

theorem powerStateSet_change_waits (hh : c.f 8 1 = 1 → g = 2) (hr : s.runningCanvases ≠ []) (hg2 : g ≤ 2) (h : old = 0 ∧ 1 ≤ g ∨ old = 1 ∧ g = 0) :
    ∃ t, exec (.powerStateSet c) s = .next t ∧ t.getP P.PW_STATE 0 = old + at' 8 g + 0x10000 ∧ SameParams [pkey P.PW_STATE 0] s t ∧ WaitsEvents 0x0040 c { s with
      params := t.params
      pw := { s.pw with
        step := if old = 0 then .toIntermission else .toShow, start := s.now, tickets := [s.newTicket], reason := 0, canvases := s.runningCanvases, returnFrom := none
        thenTarget := if old = 1 then s.pw.thenTarget else if g = 2 then some (2 + 256 * c.f 8 1) else none } } t := by
  subst hg
  have hrun := entered_runningCanvases s 0x0040 c
  have hpow := entered_powerState s 0x0040 c
  rcases h with ⟨rfl, h1⟩ | ⟨rfl, h0⟩
  · obtain ⟨u, hbody, hev⟩ := body_show_waits (k := { c := c, tk := s.newTicket, priv := s.privOf c }) (s := s.entered 0x0040 c) (by rwa [State.entered_pw])
      (by rwa [State.entered_pw]) himm hg2 hh (hpow.trans hold.symm) h1 (by rwa [hrun])
    obtain ⟨t, hx, hget, hsame, hw⟩ := powerStateSet_waits ha ho hbody hev
    rw [hrun, State.entered_pw, State.entered_now] at hw
    rw [hpow, ← hold] at hget
    exact ⟨t, hx, hget, hsame, hw⟩
  · obtain ⟨u, hbody, hev⟩ := body_intermission_waits (k := { c := c, tk := s.newTicket, priv := s.privOf c }) (s := s.entered 0x0040 c) (by rwa [State.entered_pw])
      (by rwa [State.entered_pw]) himm h0 hh (hpow.trans hold.symm) (by rwa [hrun])
    obtain ⟨t, hx, hget, hsame, hw⟩ := powerStateSet_waits ha ho hbody hev
    rw [hrun, State.entered_pw, State.entered_now] at hw
    rw [hpow, ← hold] at hget
    rw [h0]
    exact ⟨t, hx, hget, hsame, hw⟩

theorem powerStateSet_dark_waits (h1 : old = 1) (h2 : g = 2) (hh : c.f 8 1 = 0) :
    ∃ t, exec (.powerStateSet c) s = .next t ∧ t.getP P.PW_STATE 0 = 1 + at' 8 2 + 0x10000 ∧ SameParams [pkey P.PW_STATE 0] s t ∧ WaitsEvents 0x0040 c { s with
      params := t.params
      pw := { s.pw with step := .awaitBoundary, start := s.now, tickets := [s.newTicket], reason := 0, thenTarget := none, returnFrom := none } } t := by
  obtain ⟨u, hbody, hev⟩ := body_dark_waits (k := { c := c, tk := s.newTicket, priv := s.privOf c }) (s := s.entered 0x0040 c) (by rwa [State.entered_pw])
    (by rwa [State.entered_pw]) himm (hg ▸ h2) hh ((entered_powerState s _ c).trans (hold ▸ h1))
  obtain ⟨t, hx, hget, hsame, hw⟩ := powerStateSet_waits ha ho hbody hev
  rw [State.entered_pw, State.entered_now] at hw
  rw [entered_powerState, ← hold, h1] at hget
  exact ⟨t, hx, hget, hsame, hw⟩

theorem powerStateSet_over (hr : s.runningCanvases = []) (hh : c.f 8 1 = 1 → g = 2) (h : old = 0 ∧ g = 1 ∨ old = 1 ∧ g = 0) :
    ∃ t, exec (.powerStateSet c) s = .next t ∧ Answered 0x0040 c 0 12 (g + at' 32 s.now) t ∧ t.getP P.PW_STATE 0 = g ∧ t.getP P.PW_LAST_CHANGE 0 = s.now
      ∧ t.pw.step = .none ∧ SameParams [pkey P.PW_STATE 0, pkey P.PW_LAST_CHANGE 0] s t ∧ CommandEvents c { s with params := t.params, pw := t.pw } t := by
  subst hg
  have hrun := entered_runningCanvases s 0x0040 c
  have hpow := entered_powerState s 0x0040 c
  have hnow := State.entered_now s 0x0040 c
  rcases h with ⟨rfl, h1⟩ | ⟨rfl, h0⟩
  · obtain ⟨u, hbody, hev⟩ := body_show_over (k := { c := c, tk := s.newTicket, priv := s.privOf c }) (s := s.entered 0x0040 c) (by rwa [State.entered_pw])
      (by rwa [State.entered_pw]) himm h1 hh (hpow.trans hold.symm) (hrun.trans hr)
    rw [hnow] at hbody
    rw [h1]
    exact powerStateSet_completes (new := 1) ha ho rfl hbody hev
  · obtain ⟨u, hbody, hev⟩ := body_intermission_over (k := { c := c, tk := s.newTicket, priv := s.privOf c }) (s := s.entered 0x0040 c) (by rwa [State.entered_pw])
      (by rwa [State.entered_pw]) himm h0 hh (hpow.trans hold.symm) (hrun.trans hr)
    rw [hnow] at hbody
    rw [h0]
    exact powerStateSet_completes (new := 0) ha ho rfl hbody hev

end

/-! ### DARK_REACHED (Table 15-7, step 6) -/

theorem SMap.get_foldl_set {α : Type} [DecidableEq α] (d : Nat → α) (f : α → α) (m : SMap α) (k : Nat) : ∀ n,
    SMap.get d ((List.range n).foldl (fun m i => SMap.set d m i (f (SMap.get d m i))) m) k = if k < n then f (SMap.get d m k) else SMap.get d m k
  | 0 => rfl
  | n + 1 => by
    rw [List.range_succ, List.foldl_append, List.foldl_cons, List.foldl_nil, SMap.get_set]
    by_cases hk : k = n
    · subst hk
      rw [if_pos rfl, SMap.get_foldl_set d f m k k, if_neg (Nat.lt_irrefl k), if_pos (Nat.lt_succ_self k)]
    · rw [if_neg hk, SMap.get_foldl_set d f m k n]
      by_cases h : k < n
      · rw [if_pos h, if_pos (by omega)]
      · rw [if_neg h, if_neg (by omega)]

theorem foldl_modSensor (f : Sensor → Sensor) : ∀ (l : List Nat) (s : State), l.foldl (fun t k => t.modSensor k f) s
    = { s with cam := { s.cam with sensors := l.foldl (fun m i => SMap.set sensorDef m i (f (SMap.get sensorDef m i))) s.cam.sensors } }
  | [], _ => rfl
  | k :: l, s => foldl_modSensor f l (s.modSensor k f)

theorem foldl_modPipe (f : Pipe → Pipe) : ∀ (l : List Nat) (s : State), l.foldl (fun t k => t.modPipe k f) s
    = { s with pipes := l.foldl (fun m i => SMap.set pipeDef m i (f (SMap.get pipeDef m i))) s.pipes }
  | [], _ => rfl
  | k :: l, s => foldl_modPipe f l (s.modPipe k f)

/-- Cameras freeze: 32 sensors and 8 pipelines. -/
theorem freezeCameras_effect (s : State) : ∃ x y, s.freezeCameras = { s with cam := { s.cam with sensors := x }, pipes := y }
    ∧ (∀ k, k < 32 → SMap.get sensorDef x k = { s.sensor k with openFrame := .none }) ∧ (∀ p, p < 8 → SMap.get pipeDef y p = { s.pipe p with cur := none })
    ∧ ∀ p, 8 ≤ p → SMap.get pipeDef y p = s.pipe p := by
  exact ⟨_, _, (foldl_modPipe _ _ _).trans (by rw [foldl_modSensor]),
    fun k hk => (SMap.get_foldl_set sensorDef (fun x => { x with openFrame := .none }) s.cam.sensors k 32).trans (if_pos hk),
    fun p hp => (SMap.get_foldl_set pipeDef (fun x => { x with cur := none }) s.pipes p 8).trans (if_pos hp),
    fun p hp => (SMap.get_foldl_set pipeDef (fun x => { x with cur := none }) s.pipes p 8).trans (if_neg (by omega))⟩

theorem darkReached_exec (s : State) : exec .darkReached s = guarded .darkReached s (if s.pw.step ≠ .sleeping then s
    else
      let s1 := (s.freezeCameras.reachPower 2 s.pw.reason).answerPower
      let s2 : State := { s1 with cv := { s1.cv with pso := 0 } }
      if s2.pw.exitWanted then s2.beginDarkExit 1 else s2) := rfl

/-- DARK is reached, and no held command ends the stay. -/
theorem darkReached_stays {s u : State} (hstep : s.pw.step = .sleeping) (hu : (s.freezeCameras.reachPower 2 s.pw.reason).answerPower = u) (he : u.pw.exitWanted = false)
    (hp : u.pending = s.pending) : exec .darkReached s = .next { u with cv := { u.cv with pso := 0 } } := by
  refine exec_next (darkReached_exec s) rfl ?_ hp
  rw [if_neg (not_not.2 hstep), hu]
  exact if_neg (by simp [he])

theorem arrived_get (new : Nat) (s : State) : (s.arrived new).getP P.PW_STATE 0 = new ∧ (s.arrived new).getP P.PW_LAST_CHANGE 0 = s.now
    ∧ SameParams [pkey P.PW_STATE 0, pkey P.PW_LAST_CHANGE 0] s (s.arrived new) := by
  unfold State.arrived
  refine ⟨?_, State.getP_setP_same _ _ _ _, ?_⟩
  · rw [State.getP_setP, if_neg (by decide), State.getP_setP_same]
  · exact SameParams.trans (t := State.setP { s with pw := { s.pw with step := .none } } P.PW_STATE 0 new)
      (sameParams_setP (s := { s with pw := { s.pw with step := .none } }) (by simp) new) (sameParams_setP (by simp) _)

/-- DARK reached in `z`, whose cameras are frozen. -/
theorem darkReached_from {z r : State} {reason : Nat} (hr : z.reachPower 2 reason = r) (htk : z.pw.tickets = []) (he : z.pw.exitWanted = false) : ∃ t,
    r.answerPower.pw.exitWanted = false ∧ { r.answerPower with cv := { r.answerPower.cv with pso := 0 } } = t ∧ r.answerPower.pending = z.pending ∧ t.getP P.PW_STATE 0 = 2
      ∧ t.getP P.PW_LAST_CHANGE 0 = z.now ∧ SameParams [pkey P.PW_STATE 0, pkey P.PW_LAST_CHANGE 0] z t
      ∧ EventsOnly { z with params := t.params, cv := { z.cv with pso := 0 }, pw := { z.pw with step := .none } } t := by
  obtain ⟨h1, h2, h3⟩ := arrived_get 2 z
  have hev := reachPower_events 2 reason z
  rw [hr] at hev
  obtain ⟨w, v, m, a, rfl, hrings⟩ := hev.rings
  rw [answerPower_none (by exact htk)]
  refine ⟨_, he, rfl, rfl, h1, h2, fun k hk => h3 k hk, ?_⟩
  have hq : ({ (z.arrived 2).pw with tickets := [] } : Power) = { z.pw with step := .none } := by
    conv_rhs => rw [show z.pw = { z.pw with tickets := [] } by rw [← htk]]
    rfl
  rw [← hq]
  exact ⟨⟨w, v, m, a, rfl⟩, hrings⟩

theorem darkReached_quiet {s : State} (hstep : s.pw.step = .sleeping) (htk : s.pw.tickets = []) (he : s.pw.exitWanted = false) :
    ∃ t, exec .darkReached s = .next t ∧ t.getP P.PW_STATE 0 = 2 ∧ t.getP P.PW_LAST_CHANGE 0 = s.now
      ∧ SameParams [pkey P.PW_STATE 0, pkey P.PW_LAST_CHANGE 0] s t ∧ t.cv.pso = 0 ∧ (∀ k, k < 32 → t.sensor k = { s.sensor k with openFrame := .none })
      ∧ (∀ p, p < 8 → t.pipe p = { s.pipe p with cur := none }) ∧ (∀ p, 8 ≤ p → t.pipe p = s.pipe p) ∧ EventsOnly { s with
          params := t.params, cam := { s.cam with sensors := t.cam.sensors }, pipes := t.pipes, cv := { s.cv with pso := 0 }, pw := { s.pw with step := .none } } t := by
  obtain ⟨x, y, hf, hx, hy, hz⟩ := freezeCameras_effect s
  obtain ⟨t, hex, ht, hp, h1, h2, h3, hev⟩ := darkReached_from (z := s.freezeCameras) (reason := s.pw.reason) rfl (by rw [hf]; exact htk) (by rw [hf]; exact he)
  rw [hf] at h2 h3 hev
  obtain ⟨w, v, m, a, hframe, -⟩ := hev.rings
  have hcam : t.cam.sensors = x := by rw [hframe]
  have hpipes : t.pipes = y := by rw [hframe]
  refine ⟨t, (darkReached_stays hstep rfl hex (hp.trans (by rw [hf]))).trans (congrArg Host.Outcome.next ht), h1, h2, fun k hk => h3 k hk, by rw [hframe], ?_, ?_, ?_, ?_⟩
  · exact fun k hk => (congrArg (SMap.get sensorDef · k) hcam).trans (hx k hk)
  · exact fun p hp => (congrArg (SMap.get pipeDef · p) hpipes).trans (hy p hp)
  · exact fun p hp => (congrArg (SMap.get pipeDef · p) hpipes).trans (hz p hp)
  · rw [hcam, hpipes]
    exact hev

/-- DARK reached answers the POWER_STATE_SET that waits for it. -/
theorem darkReached_answers {s : State} {tk : Nat} {f : Flight} (hstep : s.pw.step = .sleeping) (htk : s.pw.tickets = [tk]) (he : s.pw.exitWanted = false)
    (haw : s.awaits tk f) : ∃ t, exec .darkReached s = .next t ∧ Answered f.opcode f.cmd 0 12 (2 + at' 32 s.now) t ∧ t.getP P.PW_STATE 0 = 2 ∧ t.pw.step = .none
      ∧ t.pw.tickets = [] := by
  obtain ⟨hflight, hup⟩ := haw
  obtain ⟨x, y, hf, -, -, -⟩ := freezeCameras_effect s
  obtain ⟨u, hu, hev⟩ := answerPower_reached (new := 2) (tk := tk) (by decide) (by rw [hf]; exact htk) (reachPower_events 2 s.pw.reason s.freezeCameras)
  rw [show s.freezeCameras.now = s.now by rw [hf]] at hu
  obtain ⟨w, v, m, a, hframe, -⟩ := hev.rings
  have hflights : u.ctl.flights = s.ctl.flights := by rw [hframe, hf]; rfl
  have hdown : u.aipexDown = false := by rw [← hup, hframe, hf]; rfl
  have hget : u.getP P.PW_STATE 0 = 2 := hev.getP _ _ |>.trans (arrived_get 2 s.freezeCameras).1
  have hpw : u.pw = { s.freezeCameras.pw with step := .none, tickets := [] } := by rw [hframe]
  have hx := darkReached_stays hstep hu (by rw [State.finalReply_pw_exitWanted, hpw, hf]; exact he) (by rw [State.finalReply_pending, hframe, hf]; rfl)
  refine ⟨_, hx, finalReply_answered u hdown ((State.flight?_congr hflights tk).trans hflight) (by decide) 12 _, ?_, ?_, ?_⟩
  · exact (State.finalReply_getP u tk cOK 12 _ _ _).trans hget
  · exact (State.finalReply_pw_step u tk cOK 12 _).trans (by rw [hpw])
  · exact (State.finalReply_pw_tickets u tk cOK 12 _).trans (by rw [hpw])

/-! ### DARK_EXIT_DONE and DARK_RETURN_TIMER (R430, R432, R435) -/

theorem settleLane_modLane (k : Nat) (s : State) : ∃ f, s.settleLane k = s.modLane k f ∨ s.settleLane k = (s.sendAlign k 0x40).modLane k f := by
  have key (p : Prop) [Decidable p] (f : Lane → Lane) :
      State.modLane k f (if p then s.sendAlign k 0x40 else s) = s.modLane k f ∨ State.modLane k f (if p then s.sendAlign k 0x40 else s) = (s.sendAlign k 0x40).modLane k f := by
    split
    · exact .inr rfl
    · exact .inl rfl
  unfold State.settleLane
  dsimp only
  exact ⟨_, key _ _⟩

/-- What settling a lane changes: an ALIGN sent, and the lanes. -/
theorem settleLane_frame (k : Nat) (s : State) : ∃ o q x, s.settleLane k = { s with sent := o, mw := { s.mw with aseq := q }, ln := { s.ln with lanes := x } } := by
  obtain ⟨f, h | h⟩ := settleLane_modLane k s
  · exact ⟨s.sent, s.mw.aseq, _, h⟩
  · exact ⟨_, _, _, h⟩

theorem settleLanes_frame (l : List Nat) (s : State) : ∃ o q x, s.settleLanes l = { s with sent := o, mw := { s.mw with aseq := q }, ln := { s.ln with lanes := x } } := by
  refine List.foldlRecOn (motive := fun t : State => ∃ o q x, t = { s with sent := o, mw := { s.mw with aseq := q }, ln := { s.ln with lanes := x } }) _ _
    ⟨s.sent, s.mw.aseq, s.ln.lanes, rfl⟩ ?_
  rintro t ⟨o, q, x, rfl⟩ k -
  obtain ⟨o', q', x', h⟩ := settleLane_frame k { s with sent := o, mw := { s.mw with aseq := q }, ln := { s.ln with lanes := x } }
  exact ⟨o', q', x', h⟩

theorem darkExitDone_exec (s : State) : exec .darkExitDone s = guarded .darkExitDone s (if s.pw.step ≠ .exiting then s
    else
      let s1 := ((s.shiftPasses (s.now - s.getP P.PW_LAST_CHANGE 0)).reachPower 1 s.pw.reason).bumpWrap P.PW_AUTO_EXITS 0 1
      let s2 := (List.range 8).foldl (fun t g => if t.camState g = 5 then (t.enterGroup g 2 0).resetTraining g true else t) s1
      let s3 := (State.settleLanes allLanes s2).resumeCapture
      { s3 with pw := { s3.pw with returnFrom := some s3.now } }) := rfl

theorem resumeCapture_idle {s : State} (h : s.fr.bins = []) : s.resumeCapture = s := by
  rw [State.resumeCapture, State.binList, h]
  rfl

/-- Without ACTIVE camera groups none retrains. -/
theorem retrain_idle {s : State} (h : ∀ g, g < 8 → s.camState g ≠ 5) :
    (List.range 8).foldl (fun t g => if t.camState g = 5 then (t.enterGroup g 2 0).resetTraining g true else t) s = s :=
  foldl_fixed_of_mem fun g hg => if_neg (h g (List.mem_range.1 hg))

/-- DARK has been left at `z`, whose passes have been shifted; lanes have settled. -/
def State.intermissionResumed (exits : Nat) (o : List Tx) (q : SMap Nat) (x : SMap Lane) (z : State) : State :=
  { z.setP P.PW_AUTO_EXITS 0 exits with
    sent := o, mw := { z.mw with aseq := q }, ln := { z.ln with lanes := x }, pw := { z.pw with returnFrom := some z.now } }

theorem darkExitDone_resumes {s : State} (hstep : s.pw.step = .exiting) (hbins : s.fr.bins = []) (hcam : ∀ g, g < 8 → s.camState g ≠ 5) : ∃ o q x t,
    exec .darkExitDone s = .next t
      ∧ EventsOnly (((s.shiftPasses (s.now - s.getP P.PW_LAST_CHANGE 0)).arrived 1).intermissionResumed (wrap32 (s.getP P.PW_AUTO_EXITS 0 + 1)) o q x) t := by
  have hx := darkExitDone_exec s
  rw [if_neg (not_not.2 hstep)] at hx
  have hev := reachPower_events 1 s.pw.reason (s.shiftPasses (s.now - s.getP P.PW_LAST_CHANGE 0))
  obtain ⟨hk, hz⟩ : ∃ hk, s.shiftPasses (s.now - s.getP P.PW_LAST_CHANGE 0) = { s with hk := hk } := ⟨_, rfl⟩
  generalize s.shiftPasses (s.now - s.getP P.PW_LAST_CHANGE 0) = z at hx hev hz
  have hstate (i : Nat) (hi : i ≠ 0x80 ∧ i ≠ 0x84) : (z.reachPower 1 s.pw.reason).getP i 0 = s.getP i 0 := by
    rw [hev.getP, (arrived_get 1 z).2.2.getP (by simp only [List.mem_cons, List.not_mem_nil, or_false, pkey, P.PW_STATE, P.PW_LAST_CHANGE]; omega), hz]
    rfl
  generalize z.reachPower 1 s.pw.reason = r at hx hev hstate
  have hbump : r.bumpWrap P.PW_AUTO_EXITS 0 1 = r.setP P.PW_AUTO_EXITS 0 (wrap32 (s.getP P.PW_AUTO_EXITS 0 + 1)) := by
    rw [State.bumpWrap, hstate _ (by decide)]
  have hcams : ∀ g, g < 8 → (r.setP P.PW_AUTO_EXITS 0 (wrap32 (s.getP P.PW_AUTO_EXITS 0 + 1))).camState g ≠ 5 := fun g hg => by
    rw [State.camState, State.getP_setP, if_neg (by simp only [pkey, P.cg, P.CG_STATE, P.PW_AUTO_EXITS]; omega), hstate _ (by simp only [P.cg, P.CG_STATE]; omega)]
    exact hcam g hg
  obtain ⟨o, q, x, hset⟩ := settleLanes_frame allLanes (r.setP P.PW_AUTO_EXITS 0 (wrap32 (s.getP P.PW_AUTO_EXITS 0 + 1)))
  have hb : (State.settleLanes allLanes (r.setP P.PW_AUTO_EXITS 0 (wrap32 (s.getP P.PW_AUTO_EXITS 0 + 1)))).fr.bins = [] := by
    obtain ⟨w, v, m, a, hr, -⟩ := hev.rings
    rw [hset, hr, hz]
    exact hbins
  have hpend : r.pending = s.pending := by
    rw [hev.pending, hz]
    rfl
  dsimp only at hx
  rw [hbump, retrain_idle hcams, resumeCapture_idle hb, hset] at hx
  exact ⟨o, q, x, _, exec_next hx rfl rfl hpend, hev.lift (State.intermissionResumed _ o q x) (fun _ _ _ _ _ => rfl) fun _ => rfl⟩

theorem darkExitDone_leaves {s : State} (hstep : s.pw.step = .exiting) (hbins : s.fr.bins = []) (hcam : ∀ g, g < 8 → s.camState g ≠ 5) :
    ∃ t, exec .darkExitDone s = .next t ∧ t.getP P.PW_STATE 0 = 1
      ∧ t.getP P.PW_LAST_CHANGE 0 = s.now ∧ t.getP P.PW_AUTO_EXITS 0 = (s.getP P.PW_AUTO_EXITS 0 + 1) % 2 ^ 32
      ∧ SameParams [pkey P.PW_STATE 0, pkey P.PW_LAST_CHANGE 0, pkey P.PW_AUTO_EXITS 0] s t
      ∧ EventsOnly { s with
          params := t.params, sent := t.sent, ln := { s.ln with lanes := t.ln.lanes }, hk := (s.shiftPasses (s.now - s.getP P.PW_LAST_CHANGE 0)).hk
          mw := { s.mw with aseq := t.mw.aseq }, pw := { s.pw with step := .none, returnFrom := some s.now } } t := by
  obtain ⟨o, q, x, t, hx, hev⟩ := darkExitDone_resumes hstep hbins hcam
  have hz : s.shiftPasses (s.now - s.getP P.PW_LAST_CHANGE 0) = { s with hk := (s.shiftPasses (s.now - s.getP P.PW_LAST_CHANGE 0)).hk } := rfl
  generalize (s.shiftPasses (s.now - s.getP P.PW_LAST_CHANGE 0)).hk = hk at hz ⊢
  rw [hz] at hev
  obtain ⟨h1, h2, h3⟩ := arrived_get 1 { s with hk := hk }
  rw [show (s.getP P.PW_AUTO_EXITS 0 + 1) % 2 ^ 32 = wrap32 (s.getP P.PW_AUTO_EXITS 0 + 1) from rfl]
  generalize wrap32 (s.getP P.PW_AUTO_EXITS 0 + 1) = n at hev ⊢
  have hne (i : Nat) (hi : i ≠ P.PW_AUTO_EXITS) : t.getP i 0 = (State.arrived 1 { s with hk := hk }).getP i 0 :=
    (hev.getP i 0).trans (SMap.get_set_other _ _ (by simp only [pkey]; omega) _)
  refine ⟨t, hx, (hne _ (by decide)).trans h1, (hne _ (by decide)).trans h2, (hev.getP _ _).trans (SMap.get_set_same _ _ _ _), fun k hk' => ?_, ?_⟩
  · simp only [List.mem_cons, List.not_mem_nil, or_false, not_or] at hk'
    obtain ⟨ha, hb, hc⟩ := hk'
    refine (hev.sameParams [] k List.not_mem_nil).trans ((SMap.get_set_other _ _ hc _).trans (h3 k ?_))
    simpa using ⟨ha, hb⟩
  · obtain ⟨w, v, m, a, ht, hr⟩ := hev.rings
    subst ht
    exact ⟨⟨w, v, m, a, rfl⟩, hr⟩

theorem deviceResetFire_exec (s : State) : exec .deviceResetFire s = guarded .deviceResetFire s (match s.pw.resetAt with
    | some t => (State.atLeast t { s with pw := { s.pw with resetAt := none } }).orderStop 3
    | none => s) := rfl

theorem deviceResetFire_idle {s : State} (h : s.pw.resetAt = none) : exec .deviceResetFire s = .next s := exec_next (deviceResetFire_exec s) rfl (by rw [h]) rfl

theorem deviceResetFire_stops {s : State} {u : Nat} (h : s.pw.resetAt = some u) (hb : s.ctl.boot = .running) (hs : s.pw.stop ≠ some 0) :
    exec .deviceResetFire s = .next { s with now := max s.now u, pw := { s.pw with resetAt := none, stop := some 3 } } := by
  have hx := deviceResetFire_exec s
  rw [h] at hx
  dsimp only at hx
  exact exec_next hx rfl (orderStop_ordered (s := State.atLeast u { s with pw := { s.pw with resetAt := none } }) (by simp [State.atLeast, hb]) (by simp [State.atLeast, hb]) hs) rfl

theorem darkReturnTimer_exec (s : State) : exec .darkReturnTimer s = guarded .darkReturnTimer s (match s.pw.returnFrom with
    | some f =>
      if s.powerState = 1 ∧ s.pw.step = .none ∧ s.getP P.PW_DARK_RETURN_MS 0 ≠ 0 then
        (s.atLeast (f + s.getP P.PW_DARK_RETURN_MS 0 * 1000000)).beginDark false 2
      else s
    | none => s) := rfl

theorem darkReturnTimer_stays {s : State} (h : s.pw.returnFrom = none ∨ s.powerState ≠ 1 ∨ s.pw.step ≠ .none ∨ s.getP P.PW_DARK_RETURN_MS 0 = 0) :
    exec .darkReturnTimer s = .next s := by
  refine exec_next (darkReturnTimer_exec s) rfl ?_ rfl
  cases hf : s.pw.returnFrom with
  | none => rfl
  | some f =>
    refine if_neg fun ⟨h1, h2, h3⟩ => ?_
    rcases h with h | h | h | h
    · rw [hf] at h; cases h
    · exact h h1
    · exact h h2
    · exact h3 h

theorem darkReturnTimer_returns {s : State} {f now : Nat} (hf : s.pw.returnFrom = some f) (h1 : s.powerState = 1) (h2 : s.pw.step = .none)
    (h3 : s.getP P.PW_DARK_RETURN_MS 0 ≠ 0) (hnow : now = max s.now (f + s.getP P.PW_DARK_RETURN_MS 0 * 1000000)) :
    ∃ t, exec .darkReturnTimer s = .next t ∧ t.getP P.PW_STATE 0 = 1 + at' 8 2 + 0x10000 ∧ SameParams [pkey P.PW_STATE 0] s t ∧ EventsOnly { s with
      now := now, params := t.params
      pw := { s.pw with step := .awaitBoundary, start := now, reason := 2, thenTarget := none, returnFrom := none } } t := by
  have hx := darkReturnTimer_exec s
  rw [hf] at hx
  dsimp only at hx
  rw [if_pos ⟨h1, h2, h3⟩, State.atLeast, ← hnow] at hx
  have hev := beginDark_events 2 { s with now := now }
  generalize State.beginDark false 2 { s with now := now } = t at hx hev
  have hpow : State.powerState { s with now := now } = 1 := h1
  rw [hpow] at hev
  have hget : t.getP P.PW_STATE 0 = 1 + at' 8 2 + 0x10000 := (hev.getP _ _).trans (SMap.get_set_same pdef s.params (pkey P.PW_STATE 0) (1 + at' 8 2 + 0x10000))
  have hsame : SameParams [pkey P.PW_STATE 0] s t := fun k hk =>
    (hev.sameParams [] k List.not_mem_nil).trans (SMap.get_set_other pdef s.params (k := pkey P.PW_STATE 0) (by simpa using hk) (1 + at' 8 2 + 0x10000))
  obtain ⟨w, v, m, a, rfl, hr⟩ := hev.rings
  exact ⟨_, exec_next hx rfl rfl rfl, hget, hsame, ⟨⟨w, v, m, a, rfl⟩, hr⟩⟩

end Sys2Proof.Machine

open Sys2Proof Sys2Proof.Machine in
/-- Settles O52: a reset keeps what `kept_units` says, the pins and timers answer by their own branch of the model, and each change of power state is one update of PW_STATE
and of the power unit beside event records. -/
theorem powerComesGoesAndChangesState : Obligations.PowerComesGoesAndChangesState := by
  unfold Obligations.PowerComesGoesAndChangesState
  refine ⟨fun m s hm => ⟨vauxValid_powered hm, vauxValid_samples hm⟩, fun s => ?_, fun l s h => dramTrainingDone_idle h, fun n s hb => dramTrainingDone_recovery hb,
    fun n s hb => dramTrainingDone_fails hb, fun s hb hr hbins hcam => dramTrainingDone_starts hb hr hbins hcam, fun s => ?_, fun c s ha ho => ?_, fun c g old s ha ho hg hold => ?_,
    fun s => ?_⟩
  · refine ⟨fun hb hs => ?_, fun hb hs => ?_, fun hb hv => ?_, fun hb hv hv' => ?_⟩
    · rw [pwrgdRise_powered hb, if_neg hs]
    · rw [pwrgdRise_powered hb, if_pos hs]
    · exact ⟨_, pwrgdRise_restarts hb (startUp_valid hv) rfl, restarted_restarted s 1 _ _, rfl, rfl⟩
    · exact ⟨_, pwrgdRise_restarts hb (startUp_invalid hv hv') rfl, restarted_restarted s 1 _ _, rfl, rfl⟩
  · refine ⟨fun hb => exec_next rfl rfl (if_pos hb) rfl, startupComplete_reaches, fun h => ⟨exec_next rfl rfl (orderStop_held h) rfl, exec_next rfl rfl (orderStop_held h) rfl⟩,
      fun h1 h2 h3 => ⟨exec_next rfl rfl (orderStop_ordered h1 h2 h3) rfl, exec_next rfl rfl (orderStop_ordered h1 h2 h3) rfl⟩, fun h => ?_, fun u hu hb hs => ?_, vauxLoss_keeps s,
      exec_next rfl rfl rfl rfl, exec_next rfl rfl rfl rfl, fun m => ⟨fun hm hp => perstNRise_high hm hp, fun hm hp => perstNRise_samples hm hp, fun hm hp => ?_⟩⟩
    · exact deviceResetFire_idle h
    · exact deviceResetFire_stops hu hb hs
    · subst hm
      exact perstNRise_traps hp
  · exact ⟨deviceReset_unarmed ha ho, deviceReset_arms ha ho⟩
  · refine ⟨fun h => powerStateSet_badParam ha ho (hg ▸ h), fun hg2 hh => ?_⟩
    have hok : ¬ (2 < c.f 0 8 ∨ c.f 8 1 = 1 ∧ c.f 0 8 ≠ 2) := by
      rw [← hg]
      rintro (h | ⟨h1, h2⟩)
      · omega
      · exact h2 (hh h1)
    refine ⟨powerStateSet_busy ha ho hok, fun hs he => ?_, fun hs htk himm hr h => ?_, fun hs htk himm hr h => ?_, fun hs htk himm h1 h2 h3 => ?_⟩
    · rw [hg]
      exact powerStateSet_held ha ho hok hs (hg ▸ he.trans hold)
    · exact powerStateSet_change_waits ha ho hg hold hs htk himm hh hr hg2 h
    · exact powerStateSet_over ha ho hg hold hs htk himm hr hh h
    · exact powerStateSet_dark_waits ha ho hg hold hs htk himm h1 h2 h3
  · exact ⟨fun h => exec_next rfl rfl (if_pos h) rfl, darkReached_quiet, fun tk f => darkReached_answers, fun h => exec_next rfl rfl (if_pos h) rfl, darkExitDone_leaves,
      darkReturnTimer_stays, fun f now => darkReturnTimer_returns⟩
end

section
/-! Expanders and their states: enumeration, surprise removal, the poison list and verification (O40, the first half; 09_memory.md). -/

namespace Sys2Proof.Machine

/-! ### State changes of slots and regions -/

theorem ParamEvents.frame {l : List Nat} {s t : State} (h : ParamEvents l s t) : ∃ p w v m a,
    t = { s with params := p, ctl := { s.ctl with wins := w, views := v, hostMem := m, aer := a } } := by
  obtain ⟨w, v, m, a, ht, -⟩ := h.1.rings
  exact ⟨_, w, v, m, a, ht⟩

theorem ParamEvents.getP {l : List Nat} {s t : State} (h : ParamEvents l s t) {i e : Nat} (hk : pkey i e ∉ l) : t.getP i e = s.getP i e := h.2.getP hk

/-- A change of parameters and events carried through a change that touches neither. -/
theorem ParamEvents.lift {l : List Nat} {s t : State} (h : ParamEvents l s t) (F : State → State)
    (hF : ∀ (x : State) w v m a, F (x.withRings w v m a) = (F x).withRings w v m a) (hw : ∀ x : State, (F x).ctl.wins = x.ctl.wins)
    (hp : ∀ (x : State) p, F { x with params := p } = { F x with params := p }) (hq : ∀ x : State, (F x).params = x.params) : ParamEvents l (F s) (F t) := by
  refine ⟨?_, fun k hk => ?_⟩
  · rw [hq, ← hp]
    exact h.1.lift F hF hw
  · rw [hq, hq]
    exact h.2 k hk

theorem setExpState_effect (slot new reason : Nat) (s : State) :
    ParamEvents [pkey P.CXL_EXP_STATE slot] s (s.setExpState slot new reason) ∧ (s.setExpState slot new reason).getP P.CXL_EXP_STATE slot = new := by
  unfold State.setExpState
  dsimp only
  split
  · next h => exact ⟨ParamEvents.refl _ s, h⟩
  · exact ⟨((ParamEvents.refl _ s).setP List.mem_cons_self new).events (eventsOnly_post _ _ _ _ _), (State.post_getP _ _ _ _ _ _ _).trans (State.getP_setP_same _ _ _ _)⟩

theorem binOn_congr {s t : State} (h : t.fr = s.fr) (r : Nat) : t.binOn r = s.binOn r := by
  simp only [State.binOn, State.binList, State.bin?, h]

/-- A region without a bin changes state. -/
theorem setRegionState_effect {r : Nat} {s : State} (h : s.binOn r = none) (new reason : Nat) :
    ParamEvents [pkey P.CXL_REGION_STATE r] s (s.setRegionState r new reason) ∧ (s.setRegionState r new reason).getP P.CXL_REGION_STATE r = new := by
  by_cases hold : s.getP P.CXL_REGION_STATE r = new
  · rw [show s.setRegionState r new reason = s from if_pos hold]
    exact ⟨ParamEvents.refl _ s, hold⟩
  · have hx : s.setRegionState r new reason = (s.setP P.CXL_REGION_STATE r new).post 0x6B 0x9 (32 + (s.region r).slots.headD 0)
        (r + at' 8 new + at' 16 (s.getP P.CXL_REGION_STATE r) + at' 24 reason) := by
      refine (if_neg hold).trans ?_
      rw [binOn_congr (s := s) (by rw [State.post_fr]; rfl) r, h]
    rw [hx]
    exact ⟨((ParamEvents.refl _ s).setP List.mem_cons_self new).events (eventsOnly_post _ _ _ _ _), (State.post_getP _ _ _ _ _ _ _).trans (State.getP_setP_same _ _ _ _)⟩

theorem partnerDeparts_events (p : PartnerId) (s : State) : ∃ x, EventsOnly { s with ctl := { s.ctl with partners := x } } (s.partnerDeparts p) := by
  unfold State.partnerDeparts
  dsimp only
  split
  · split
    · exact ⟨_, (eventsOnly_mapViews _ _).trans (eventsOnly_post _ _ _ _ _)⟩
    · exact ⟨_, EventsOnly.refl _⟩
  · exact ⟨s.ctl.partners, EventsOnly.refl s⟩

theorem expander_modExpander (n m : Nat) (f : Expander → Expander) (s : State) :
    (s.modExpander n f).expander m = if m = n then f (s.expander n) else s.expander m := SMap.get_set expDef _ _ _ _

/-! ### EXPANDER_PRESENT (R293) -/

/-- The expander record that presence writes into a slot that held `x`. -/
def expanderRecord (e : ExpanderInfo) (x : Expander) : Expander :=
  { serial := e.serial, port := e.port, sw := e.swPort, vol := e.volGiB, pers := e.persGiB, gpf := e.gpf, phase2Ms := e.phase2Ms, lsa := e.lsa
    locked := e.locked, type3 := e.type3, patrol := e.patrol, foreign := e.foreignLabel, dirty := e.dirtyCount
    recorded := if x.assigned && x.serial == e.serial then x.recorded else e.dirtyCount
    labels := if x.assigned && x.serial == e.serial then x.labels else [], assigned := true }

/-- The parameters that enumeration sets for slot `n`, its poison count among them. -/
def State.expanderShown (e : ExpanderInfo) (n poison : Nat) (s : State) : State :=
  (((s.setP P.CXL_EXP_SERIAL n e.serial).setP P.CXL_EXP_PORT n (e.port + at' 8 e.swPort)).setP P.CXL_EXP_CAPACITY n
    (e.volGiB + at' 32 e.persGiB)).setP P.CXL_EXP_POISON n poison

/-- The indicators of slot `n` go out. -/
def State.indicatorsOff (n : Nat) (s : State) : State :=
  { s with cxl := { s.cxl with powerOff := clrBit s.cxl.powerOff n, attention := clrBit s.cxl.attention n } }

/-- The expanders on a port. -/
abbrev State.onPort (s : State) (port : Nat) : List Nat := (List.range 32).filter fun m => s.getP P.CXL_EXP_STATE m != 0 && (s.expander m).port == port

theorem onPort_link (s : State) (port p v : Nat) (hp : p < 4) : (s.setP P.CXL_PORT_LINK p v).onPort port = s.onPort port := by
  refine List.filter_congr fun m hm => ?_
  have hm := List.mem_range.1 hm
  rw [State.getP_setP, if_neg (by simp only [pkey, P.CXL_EXP_STATE, P.CXL_PORT_LINK]; omega)]
  rfl

/-- The poison count of slot `n` with expander `e` in it. -/
abbrev State.keptPoison (s : State) (e : ExpanderInfo) (n : Nat) : Nat :=
  if (s.expander n).assigned && (s.expander n).serial == e.serial then s.getP P.CXL_EXP_POISON n else 0

/-- Slot `n` takes the expander in, and enumeration starts. -/
def State.expanderEnters (e : ExpanderInfo) (n : Nat) (s : State) : State :=
  State.setExpState n 1 0 (((s.modExpander n (expanderRecord e)).expanderShown e n (s.keptPoison e n)).indicatorsOff n)

/-- The presence of an expander, its port's link shown. -/
def State.expanderSeen (e : ExpanderInfo) (s : State) : State :=
  match if decide (16 ≤ (s.onPort e.port).length) then none else s.slotFor e.serial with
  | none => s.post 0x6A 0x9 (16 + e.port) (5 + at' 16 5)
  | some n => if s.getP P.CXL_EXP_STATE n ≠ 0 then s else s.expanderEnters e n

theorem expanderPresent_exec (e : ExpanderInfo) (s : State) : exec (.expanderPresent e) s = guarded (.expanderPresent e) s
    ((s.setP P.CXL_PORT_LINK e.port e.link).expanderSeen e) := rfl

theorem expanderPresent_refused {e : ExpanderInfo} {s : State} (hp : e.port < 4)
    (h : (s.setP P.CXL_PORT_LINK e.port e.link).slotFor e.serial = none ∨ 16 ≤ (s.onPort e.port).length) :
    ∃ t, exec (.expanderPresent e) s = .next t ∧ EventsOnly (s.setP P.CXL_PORT_LINK e.port e.link) t := by
  have hnone : (if decide (16 ≤ ((s.setP P.CXL_PORT_LINK e.port e.link).onPort e.port).length) then none else (s.setP P.CXL_PORT_LINK e.port e.link).slotFor e.serial) = none := by
    rw [onPort_link s _ _ _ hp]
    rcases h with h | h
    · rw [h, ite_self]
    · rw [if_pos (decide_eq_true h)]
  have hseen : (s.setP P.CXL_PORT_LINK e.port e.link).expanderSeen e = (s.setP P.CXL_PORT_LINK e.port e.link).post 0x6A 0x9 (16 + e.port) (5 + at' 16 5) := by
    rw [State.expanderSeen, hnone]
  exact ⟨_, exec_next (expanderPresent_exec e s) (decide_eq_true hp) hseen (State.post_pending _ _ _ _ _), eventsOnly_post _ _ _ _ _⟩

theorem expanderShown_effect (e : ExpanderInfo) (n v : Nat) (s : State) :
    ParamsOnly [pkey P.CXL_EXP_STATE n, pkey P.CXL_EXP_SERIAL n, pkey P.CXL_EXP_PORT n, pkey P.CXL_EXP_CAPACITY n, pkey P.CXL_EXP_POISON n] s
        (s.expanderShown e n v)
      ∧ (s.expanderShown e n v).getP P.CXL_EXP_SERIAL n = e.serial ∧ (s.expanderShown e n v).getP P.CXL_EXP_PORT n = e.port + at' 8 e.swPort
      ∧ (s.expanderShown e n v).getP P.CXL_EXP_CAPACITY n = e.volGiB + at' 32 e.persGiB ∧ (s.expanderShown e n v).getP P.CXL_EXP_POISON n = v := by
  have hne : ∀ a b : Nat, a ≠ b → pkey a n ≠ pkey b n := fun a b h => by simp only [pkey]; omega
  unfold State.expanderShown
  refine ⟨((((ParamsOnly.refl _ s).setP (by simp) _).setP (by simp) _).setP (by simp) _).setP (by simp) _, ?_, ?_, ?_, State.getP_setP_same _ _ _ _⟩
  · rw [State.getP_setP, if_neg (hne _ _ (by decide)), State.getP_setP, if_neg (hne _ _ (by decide)), State.getP_setP, if_neg (hne _ _ (by decide)), State.getP_setP_same]
  · rw [State.getP_setP, if_neg (hne _ _ (by decide)), State.getP_setP, if_neg (hne _ _ (by decide)), State.getP_setP_same]
  · rw [State.getP_setP, if_neg (hne _ _ (by decide)), State.getP_setP_same]

theorem expanderEnters_effect {e : ExpanderInfo} {n : Nat} (hn : n < 32) (hp : e.port < 4) (s : State) : ∃ t, s.expanderEnters e n = t
    ∧ t.getP P.CXL_EXP_STATE n = 1 ∧ t.getP P.CXL_EXP_SERIAL n = e.serial ∧ t.getP P.CXL_EXP_PORT n = e.port + at' 8 e.swPort
    ∧ t.getP P.CXL_EXP_CAPACITY n = e.volGiB + at' 32 e.persGiB ∧ t.getP P.CXL_EXP_POISON n = s.keptPoison e n ∧ t.getP P.CXL_PORT_LINK e.port = s.getP P.CXL_PORT_LINK e.port
    ∧ SameParams [pkey P.CXL_EXP_STATE n, pkey P.CXL_EXP_SERIAL n, pkey P.CXL_EXP_PORT n, pkey P.CXL_EXP_CAPACITY n, pkey P.CXL_EXP_POISON n, pkey P.CXL_PORT_LINK e.port] s t
    ∧ t.expander n = expanderRecord e (s.expander n) ∧ (∀ m, m ≠ n → t.expander m = s.expander m) ∧ EventsOnly { s with
        params := t.params, cxl := { s.cxl with exps := t.cxl.exps, powerOff := clrBit s.cxl.powerOff n, attention := clrBit s.cxl.attention n } } t := by
  obtain ⟨⟨hf, hs⟩, h1, h2, h3, h4⟩ := expanderShown_effect e n (s.keptPoison e n) (s.modExpander n (expanderRecord e))
  unfold State.expanderEnters
  generalize (s.modExpander n (expanderRecord e)).expanderShown e n (s.keptPoison e n) = x at hf hs h1 h2 h3 h4
  obtain ⟨hev, hst⟩ := setExpState_effect n 1 0 (x.indicatorsOff n)
  generalize (x.indicatorsOff n).setExpState n 1 0 = t at hev hst
  have hne (a : Nat) (h : a ≠ P.CXL_EXP_STATE) : t.getP a n = x.getP a n := hev.getP (by simp only [List.mem_singleton, pkey]; omega)
  have hlink : t.getP P.CXL_PORT_LINK e.port = s.getP P.CXL_PORT_LINK e.port := by
    have hk : pkey P.CXL_PORT_LINK e.port ∉ [pkey P.CXL_EXP_STATE n, pkey P.CXL_EXP_SERIAL n, pkey P.CXL_EXP_PORT n, pkey P.CXL_EXP_CAPACITY n, pkey P.CXL_EXP_POISON n] := by
      simp only [List.mem_cons, List.not_mem_nil, or_false, not_or, pkey, P.CXL_PORT_LINK, P.CXL_EXP_STATE, P.CXL_EXP_SERIAL, P.CXL_EXP_PORT, P.CXL_EXP_CAPACITY, P.CXL_EXP_POISON]
      omega
    exact (hev.getP fun h => hk (List.mem_cons.2 (.inl (List.mem_singleton.1 h)))).trans (hs.getP hk)
  obtain ⟨w, v, m, a, ht, hr⟩ := hev.1.rings
  have hexp : t.cxl.exps = SMap.set expDef s.cxl.exps n (expanderRecord e (s.expander n)) := by
    rw [ht, hf]
    rfl
  have hget (m : Nat) : t.expander m = if m = n then expanderRecord e (s.expander n) else s.expander m :=
    (congrArg (SMap.get expDef · m) hexp).trans (SMap.get_set expDef _ _ _ _)
  refine ⟨_, rfl, hst, (hne _ (by decide)).trans h1, (hne _ (by decide)).trans h2, (hne _ (by decide)).trans h3, (hne _ (by decide)).trans h4, hlink, ?_, ?_, ?_, ?_⟩
  · exact SameParams.trans (fun k hk => hs k fun h => hk (by revert h; simp only [List.mem_cons, List.not_mem_nil, or_false]; tauto)) (hev.2.mono (by simp))
  · rw [hget, if_pos rfl]
  · exact fun m hm => by rw [hget, if_neg hm]
  · have he : { x.indicatorsOff n with params := t.params } = { s with
        params := t.params, cxl := { s.cxl with exps := t.cxl.exps, powerOff := clrBit s.cxl.powerOff n, attention := clrBit s.cxl.attention n } } := by
      rw [hexp, hf]
      rfl
    exact he ▸ hev.1

theorem expanderPresent_enters {e : ExpanderInfo} {n : Nat} {s : State} (hp : e.port < 4) (hfull : (s.onPort e.port).length < 16)
    (hslot : (s.setP P.CXL_PORT_LINK e.port e.link).slotFor e.serial = some n) (hn : n < 32) (hst : s.getP P.CXL_EXP_STATE n = 0) :
    ∃ t, exec (.expanderPresent e) s = .next t ∧ t.getP P.CXL_EXP_STATE n = 1 ∧ t.getP P.CXL_EXP_SERIAL n = e.serial ∧ t.getP P.CXL_EXP_PORT n = e.port + at' 8 e.swPort
      ∧ t.getP P.CXL_EXP_CAPACITY n = e.volGiB + at' 32 e.persGiB ∧ t.getP P.CXL_EXP_POISON n = s.keptPoison e n ∧ t.getP P.CXL_PORT_LINK e.port = e.link
      ∧ SameParams [pkey P.CXL_EXP_STATE n, pkey P.CXL_EXP_SERIAL n, pkey P.CXL_EXP_PORT n, pkey P.CXL_EXP_CAPACITY n, pkey P.CXL_EXP_POISON n, pkey P.CXL_PORT_LINK e.port] s t
      ∧ t.expander n = expanderRecord e (s.expander n) ∧ (∀ m, m ≠ n → t.expander m = s.expander m) ∧ EventsOnly { s with
          params := t.params, cxl := { s.cxl with exps := t.cxl.exps, powerOff := clrBit s.cxl.powerOff n, attention := clrBit s.cxl.attention n } } t := by
  have hlink (a : Nat) (ha : a ≠ P.CXL_PORT_LINK) (ha' : 0x1720 ≤ a) : (s.setP P.CXL_PORT_LINK e.port e.link).getP a n = s.getP a n := by
    rw [State.getP_setP, if_neg (by simp only [pkey, P.CXL_PORT_LINK] at ha ⊢; omega)]
  have hseen : (s.setP P.CXL_PORT_LINK e.port e.link).expanderSeen e = (s.setP P.CXL_PORT_LINK e.port e.link).expanderEnters e n := by
    rw [State.expanderSeen, onPort_link s _ _ _ hp, if_neg (by simpa using hfull), hslot]
    exact if_neg (by rw [hlink _ (by decide) (by decide), hst]; simp)
  obtain ⟨t, ht, h1, h2, h3, h4, h5, h6, hsame, hn1, hn2, hev⟩ := expanderEnters_effect hn hp (s.setP P.CXL_PORT_LINK e.port e.link)
  refine ⟨t, exec_next (expanderPresent_exec e s) (decide_eq_true hp) (hseen.trans ht) hev.pending, h1, h2, h3, h4, h5.trans ?_, h6.trans (State.getP_setP_same _ _ _ _), ?_,
    hn1, hn2, hev⟩
  · rw [State.keptPoison, hlink _ (by decide) (by decide)]
    rfl
  · exact (sameParams_setP (by simp) _).trans hsame

/-! ### ENUMERATION_DONE (R293, R295, R299) -/

/-- The state that enumeration gives the expander, and the reason that its event names. -/
def Expander.fitness (x : Expander) : Nat × Nat := if x.locked then (5, 3) else if !x.type3 then (5, 4) else (2, 0)

theorem fitness_state (x : Expander) : (Expander.fitness x).1 = if x.locked = true ∨ x.type3 = false then 5 else 2 := by
  unfold Expander.fitness
  cases x.locked <;> cases x.type3 <;> rfl

/-- Slot `n` has been enumerated, and its expander arrives. -/
def State.enumerated (n : Nat) (s : State) : State :=
  (s.setExpState n (Expander.fitness (s.expander n)).1 (Expander.fitness (s.expander n)).2).partnerArrives (expanderId n) (srcOf 0x9 (32 + n)) (s.expander n).serial

theorem enumerationDone_exec (n : Nat) (s : State) : exec (.enumerationDone n) s = guarded (.enumerationDone n) s
    (if s.getP P.CXL_EXP_STATE n ≠ 1 then s
    else if (s.enumerated n).getP P.CXL_EXP_STATE n = 2 then
      (((if (s.expander n).foreign then (s.enumerated n).post 0x6A 0x9 (32 + n) (2 + at' 8 2 + at' 16 6) else s.enumerated n).setPatrol n).regionsOf n).foldl (fun t r => t.rebuildRegion r)
        ((if (s.expander n).foreign then (s.enumerated n).post 0x6A 0x9 (32 + n) (2 + at' 8 2 + at' 16 6) else s.enumerated n).setPatrol n)
    else s.enumerated n) := by
  have key (x : Expander) (t : State) : (if x.locked then t.setExpState n 5 3 else if !x.type3 then t.setExpState n 5 4 else t.setExpState n 2 0)
      = t.setExpState n (Expander.fitness x).1 (Expander.fitness x).2 := by
    unfold Expander.fitness
    cases x.locked <;> cases x.type3 <;> rfl
  unfold State.enumerated
  rw [← key]
  rfl

theorem enumerated_effect (n : Nat) (s : State) : ∃ x, EventsOnly { s with params := (s.enumerated n).params, ctl := { s.ctl with partners := x } } (s.enumerated n)
    ∧ (s.enumerated n).getP P.CXL_EXP_STATE n = (Expander.fitness (s.expander n)).1 ∧ SameParams [pkey P.CXL_EXP_STATE n] s (s.enumerated n)
    ∧ ((s.enumerated n).partner (expanderId n)).present = true ∧ ∀ q, partnerKey q ≠ partnerKey (expanderId n) → (s.enumerated n).partner q = s.partner q := by
  obtain ⟨hev, hst⟩ := setExpState_effect n (Expander.fitness (s.expander n)).1 (Expander.fitness (s.expander n)).2 s
  unfold State.enumerated
  generalize s.setExpState n (Expander.fitness (s.expander n)).1 (Expander.fitness (s.expander n)).2 = u at hev hst
  obtain ⟨w, v, m, a, hu, hr⟩ := hev.1.rings
  have hpart : u.ctl.partners = s.ctl.partners := by rw [hu]
  refine ⟨_, hev.1.lift (fun z => { z with ctl := { z.ctl with partners := (u.partnerArrives (expanderId n) (srcOf 0x9 (32 + n)) (s.expander n).serial).ctl.partners } })
    (fun _ _ _ _ _ => rfl) fun _ => rfl, hst, hev.2, ?_, fun q hq => ?_⟩
  · exact congrArg Partner.present (State.partner_setPartner_same _ _ _)
  · refine (partner_setPartner_other _ _ hq).trans ?_
    rw [State.partner, hpart]
    rfl

theorem setPatrol_idle {n : Nat} {s : State} (h : ¬ ((s.expander n).patrol = true ∧ s.getP P.CXL_EXP_STATE n = 2)) : s.setPatrol n = s :=
  if_neg (by simpa using h)

theorem setPatrol_sets {n : Nat} {s : State} (h : (s.expander n).patrol = true ∧ s.getP P.CXL_EXP_STATE n = 2) : s.setPatrol n = { s with
    sent := .cxl 4 n [s.getP P.CXL_PATROL_HOURS 0] :: s.sent
    cxl := { s.cxl with exps := SMap.set expDef s.cxl.exps n { s.expander n with cycle := s.getP P.CXL_PATROL_HOURS 0 } } } :=
  if_pos (by simpa using h)

theorem setPatrol_regionsOf (n m : Nat) (s : State) : (s.setPatrol n).regionsOf m = s.regionsOf m := by
  unfold State.setPatrol
  split <;> rfl

theorem regionsOf_congr {s t : State} (h : t.cxl.regions = s.cxl.regions) (n : Nat) : t.regionsOf n = s.regionsOf n := by rw [State.regionsOf, h, State.regionsOf]

/-- What enumeration changes. -/
theorem enumerationDone_done {n : Nat} {s : State} (hn : n < 32) (hst : s.getP P.CXL_EXP_STATE n = 1) (hreg : s.regionsOf n = []) : ∃ t, exec (.enumerationDone n) s = .next t
    ∧ t.getP P.CXL_EXP_STATE n = (if (s.expander n).locked = true ∨ (s.expander n).type3 = false then 5 else 2) ∧ SameParams [pkey P.CXL_EXP_STATE n] s t
    ∧ (t.partner (expanderId n)).present = true ∧ (∀ q, partnerKey q ≠ partnerKey (expanderId n) → t.partner q = s.partner q)
    ∧ ((s.expander n).patrol = true ∧ t.getP P.CXL_EXP_STATE n = 2 → t.sent = .cxl 4 n [s.getP P.CXL_PATROL_HOURS 0] :: s.sent
        ∧ t.expander n = { s.expander n with cycle := s.getP P.CXL_PATROL_HOURS 0 })
    ∧ (¬((s.expander n).patrol = true ∧ t.getP P.CXL_EXP_STATE n = 2) → t.sent = s.sent ∧ t.expander n = s.expander n) ∧ (∀ m, m ≠ n → t.expander m = s.expander m)
    ∧ EventsOnly { s with params := t.params, ctl := { s.ctl with partners := t.ctl.partners }, sent := t.sent, cxl := { s.cxl with exps := t.cxl.exps } } t := by
  have hx := enumerationDone_exec n s
  rw [if_neg (not_not.2 hst)] at hx
  obtain ⟨x, hev, h1, h2, h3, h4⟩ := enumerated_effect n s
  rw [fitness_state] at h1
  generalize s.enumerated n = u at hx hev h1 h2 h3 h4
  obtain ⟨v, hv, hbody⟩ : ∃ v, EventsOnly u v ∧ exec (.enumerationDone n) s = guarded (.enumerationDone n) s (v.setPatrol n) := by
    by_cases hu : u.getP P.CXL_EXP_STATE n = 2
    · rw [if_pos hu] at hx
      have hv : EventsOnly u (if (s.expander n).foreign then u.post 0x6A 0x9 (32 + n) (2 + at' 8 2 + at' 16 6) else u) := by
        split
        · exact eventsOnly_post _ _ _ _ _
        · exact EventsOnly.refl u
      generalize (if (s.expander n).foreign then u.post 0x6A 0x9 (32 + n) (2 + at' 8 2 + at' 16 6) else u) = v at hx hv
      refine ⟨v, hv, hx.trans (congrArg _ ?_)⟩
      rw [setPatrol_regionsOf, regionsOf_congr (s := s), hreg]
      · rfl
      · obtain ⟨w, y, m, a, hf, -⟩ := (hev.trans hv).rings
        rw [hf]
    · rw [if_neg hu] at hx
      exact ⟨u, EventsOnly.refl u, hx.trans (congrArg _ (setPatrol_idle fun h => hu h.2).symm)⟩
  have hbase := hev.trans hv
  obtain ⟨w, y, m, a, hf, hr⟩ := hbase.rings
  have hpar : v.params = u.params := by rw [hf]
  have hget (i j : Nat) : v.getP i j = u.getP i j := congrArg (SMap.get pdef · (pkey i j)) hpar
  have hparts (q : PartnerId) : v.partner q = u.partner q := hv.partner q
  have hexp (m : Nat) : v.expander m = s.expander m := by rw [hf]; rfl
  have hsame : SameParams [pkey P.CXL_EXP_STATE n] s v := fun k hk => (congrArg (SMap.get pdef · k) hpar).trans (h2 k hk)
  have hhours : v.getP P.CXL_PATROL_HOURS 0 = s.getP P.CXL_PATROL_HOURS 0 :=
    hsame.getP (by simp only [List.mem_singleton, pkey, P.CXL_PATROL_HOURS, P.CXL_EXP_STATE]; omega)
  have hsent : v.sent = s.sent := by rw [hf]
  have hpend : v.pending = s.pending := by rw [hf]
  have hpartners : v.ctl.partners = x := by rw [hf]
  have hcxl : v.cxl = s.cxl := by rw [hf]
  by_cases hpat : (s.expander n).patrol = true ∧ v.getP P.CXL_EXP_STATE n = 2
  · rw [setPatrol_sets (by rwa [hexp]), hhours, hexp, hsent] at hbody
    refine ⟨_, exec_next hbody (decide_eq_true hn) rfl hpend, (hget _ _).trans h1, fun k hk => hsame k hk, (congrArg Partner.present (hparts _)).trans h3,
      fun q hq => (hparts q).trans (h4 q hq), fun _ => ⟨rfl, SMap.get_set_same expDef _ _ _⟩, fun h => absurd hpat h, fun m hm => ?_, ?_⟩
    · exact (SMap.get_set_other expDef _ hm _).trans (hexp m)
    · rw [← hpar, ← hpartners] at hbase
      exact hbase.lift (fun z => { z with
        sent := .cxl 4 n [s.getP P.CXL_PATROL_HOURS 0] :: s.sent
        cxl := { z.cxl with exps := SMap.set expDef v.cxl.exps n { s.expander n with cycle := s.getP P.CXL_PATROL_HOURS 0 } } }) (fun _ _ _ _ _ => rfl) fun _ => rfl
  · rw [setPatrol_idle (by rwa [hexp])] at hbody
    refine ⟨v, exec_next hbody (decide_eq_true hn) rfl hpend, (hget _ _).trans h1, hsame, (congrArg Partner.present (hparts _)).trans h3,
      fun q hq => (hparts q).trans (h4 q hq), fun h => absurd h hpat, fun _ => ⟨hsent, hexp n⟩, fun m _ => hexp m, ?_⟩
    rw [hpar, hpartners, hsent, hcxl]
    exact hbase

/-! ### EXPANDER_SURPRISE_REMOVE (R301, R302) -/

/-- Commands of a clip queue on no bin meet nothing. -/
theorem meetCmds_none (ops : List Nat) (fate : Nat) (s : State) : s.meetCmds ops [] fate = s := by
  have hcmds (p : Pair) : (p.cmds.map fun c => if (ops.contains (ofLE (c.entry.take 1)) && ([] : List Nat).contains (ofLE ((c.entry.drop 4).take 1)) && decide (c.fate < 2)) then
      { c with fate := fate } else c) = p.cmds := by
    simp
  have hpairs : (s.cq.pairs.map fun e => (e.1, e.2.map fun p => { p with cmds := p.cmds.map fun c =>
      if (ops.contains (ofLE (c.entry.take 1)) && ([] : List Nat).contains (ofLE ((c.entry.drop 4).take 1)) && decide (c.fate < 2)) then { c with fate := fate } else c })) = s.cq.pairs := by
    simp only [hcmds, Option.map_id', List.map_id']
  unfold State.meetCmds
  dsimp only
  rw [hpairs]

theorem endRemoval_none {n code len r : Nat} {s : State} (h : SMap.get (fun _ => none) s.cxl.removals n = none) : s.endRemoval n code len r = s := by
  rw [State.endRemoval, h]

/-- The slot is empty and its regions are OFFLINE. -/
def State.slotEmptied (n : Nat) (s : State) : State :=
  let s1 : State := { s with cxl := { s.cxl with blinking := clrBit s.cxl.blinking n } }
  let s2 := s1.setExpState n 0 (if s.getP P.CXL_EXP_STATE n = 4 then 1 else 2)
  ((s2.regionsOf n).foldl (fun t r => if t.getP P.CXL_REGION_STATE r = 0 then t else t.setRegionState r 4 1) s2).meetCmds [1, 2, 5] ((s2.regionsOf n).filterMap fun r => s2.binOn r) 0x0A

theorem expanderSurpriseRemove_exec (n : Nat) (s : State) : exec (.expanderSurpriseRemove n) s = guarded (.expanderSurpriseRemove n) s
    (if s.getP P.CXL_EXP_STATE n = 0 then s else ((s.slotEmptied n).partnerDeparts (expanderId n)).endRemoval n cMEDIA_ERROR 0 0) := rfl

/-- A slot without regions is emptied. -/
theorem slotEmptied_alone {n : Nat} {s : State} (h : s.regionsOf n = []) : ParamEvents [pkey P.CXL_EXP_STATE n] { s with cxl := { s.cxl with blinking := clrBit s.cxl.blinking n } }
    (s.slotEmptied n) ∧ (s.slotEmptied n).getP P.CXL_EXP_STATE n = 0 := by
  have hset := setExpState_effect n 0 (if s.getP P.CXL_EXP_STATE n = 4 then 1 else 2) { s with cxl := { s.cxl with blinking := clrBit s.cxl.blinking n } }
  unfold State.slotEmptied
  dsimp only
  generalize State.setExpState n 0 (if s.getP P.CXL_EXP_STATE n = 4 then 1 else 2) { s with cxl := { s.cxl with blinking := clrBit s.cxl.blinking n } } = u at hset
  have hreg : u.regionsOf n = [] := by
    obtain ⟨p, w, v, m, a, hu⟩ := hset.1.frame
    rw [regionsOf_congr (s := s) (by rw [hu]), h]
  rw [hreg, List.filterMap_nil, meetCmds_none]
  exact hset

/-- A slot whose only region holds no bin is emptied. -/
theorem slotEmptied_region {n r : Nat} {s : State} (h : s.regionsOf n = [r]) (hbin : s.binOn r = none) (hst : s.getP P.CXL_REGION_STATE r ≠ 0) (hn : n < 32) (hr : r < 32) :
    ParamEvents [pkey P.CXL_EXP_STATE n, pkey P.CXL_REGION_STATE r] { s with cxl := { s.cxl with blinking := clrBit s.cxl.blinking n } } (s.slotEmptied n)
      ∧ (s.slotEmptied n).getP P.CXL_EXP_STATE n = 0 ∧ (s.slotEmptied n).getP P.CXL_REGION_STATE r = 4 := by
  obtain ⟨hset, h0⟩ := setExpState_effect n 0 (if s.getP P.CXL_EXP_STATE n = 4 then 1 else 2) { s with cxl := { s.cxl with blinking := clrBit s.cxl.blinking n } }
  have hkey : pkey P.CXL_EXP_STATE n ≠ pkey P.CXL_REGION_STATE r := by simp only [pkey, P.CXL_EXP_STATE, P.CXL_REGION_STATE]; omega
  unfold State.slotEmptied
  dsimp only
  generalize State.setExpState n 0 (if s.getP P.CXL_EXP_STATE n = 4 then 1 else 2) { s with cxl := { s.cxl with blinking := clrBit s.cxl.blinking n } } = u at hset h0
  obtain ⟨p, w, v, m, a, hu⟩ := hset.frame
  have hb : u.binOn r = none := (binOn_congr (s := s) (by rw [hu]) r).trans hbin
  have hur : u.getP P.CXL_REGION_STATE r ≠ 0 := by
    rw [hset.getP (by simpa using hkey.symm)]
    exact hst
  obtain ⟨hreg, h4⟩ := setRegionState_effect hb 4 1
  rw [regionsOf_congr (s := s) (by rw [hu]), h, List.filterMap_cons, hb, List.filterMap_nil, List.foldl_cons, List.foldl_nil, if_neg hur, meetCmds_none]
  exact ⟨(hset.mono (by simp)).trans (hreg.mono (by simp)), (hreg.getP (by simpa using hkey)).trans h0, h4⟩

theorem expanderSurpriseRemove_alone {n : Nat} {s : State} (hn : n < 32) (hst : s.getP P.CXL_EXP_STATE n ≠ 0) (hreg : s.regionsOf n = [])
    (hrem : SMap.get (fun _ => none) s.cxl.removals n = none) : ∃ t, exec (.expanderSurpriseRemove n) s = .next t ∧ t.getP P.CXL_EXP_STATE n = 0
      ∧ SameParams [pkey P.CXL_EXP_STATE n] s t ∧ t.cxl.blinking.testBit n = false ∧ (t.partner (expanderId n)).present = false
      ∧ (∀ q, partnerKey q ≠ partnerKey (expanderId n) → t.partner q = s.partner q) ∧ EventsOnly { s with
            params := t.params, cxl := { s.cxl with blinking := t.cxl.blinking }, ctl := { s.ctl with partners := t.ctl.partners } } t := by
  have hx := expanderSurpriseRemove_exec n s
  rw [if_neg hst] at hx
  obtain ⟨hev, h0⟩ := slotEmptied_alone hreg
  generalize s.slotEmptied n = u at hx hev h0
  obtain ⟨x, hpart⟩ := partnerDeparts_events (expanderId n) u
  have hpres := partnerDeparts_absent (expanderId n) u
  have hoth : ∀ q, partnerKey q ≠ partnerKey (expanderId n) → (u.partnerDeparts (expanderId n)).partner q = u.partner q := fun q hq => partnerDeparts_other hq u
  generalize u.partnerDeparts (expanderId n) = v at hx hpart hpres hoth
  have hbase := (hev.1.lift (fun z => { z with ctl := { z.ctl with partners := x } }) (fun _ _ _ _ _ => rfl) fun _ => rfl).trans hpart
  obtain ⟨w, y, m, a, hv, -⟩ := hbase.rings
  have hrem' : SMap.get (fun _ => none) v.cxl.removals n = none := by rw [hv]; exact hrem
  have hpar : v.params = u.params := by rw [hv]
  have hblink : v.cxl.blinking = clrBit s.cxl.blinking n := by rw [hv]
  have hpartners : v.ctl.partners = x := by rw [hv]
  have hu : ∀ q, u.partner q = s.partner q := fun q => by
    obtain ⟨p, w', y', m', a', hu⟩ := hev.frame
    rw [hu]
    rfl
  rw [endRemoval_none hrem'] at hx
  refine ⟨v, exec_next hx (decide_eq_true hn) rfl (by rw [hv]), (congrArg (SMap.get pdef · (pkey P.CXL_EXP_STATE n)) hpar).trans h0,
    fun k hk => (congrArg (SMap.get pdef · k) hpar).trans (hev.2 k hk), by rw [hblink]; exact testBit_clrBit_same _ _, hpres, fun q hq => (hoth q hq).trans (hu q), ?_⟩
  rw [hpar, hblink, hpartners]
  exact hbase

theorem endRemoval_params (n code len r : Nat) (s : State) : (s.endRemoval n code len r).params = s.params ∧ (s.endRemoval n code len r).pending = s.pending := by
  unfold State.endRemoval
  split
  · exact ⟨rfl, rfl⟩
  · dsimp only
    split
    · exact ⟨State.finalReply_params _ _ _ _ _, State.finalReply_pending _ _ _ _ _⟩
    · exact ⟨rfl, rfl⟩

theorem expanderSurpriseRemove_region {n r : Nat} {s : State} (hn : n < 32) (hr : r < 32) (hst : s.getP P.CXL_EXP_STATE n ≠ 0) (hreg : s.regionsOf n = [r])
    (hrs : s.getP P.CXL_REGION_STATE r ≠ 0) (hbin : s.binOn r = none) : ∃ t, exec (.expanderSurpriseRemove n) s = .next t ∧ t.getP P.CXL_EXP_STATE n = 0
      ∧ t.getP P.CXL_REGION_STATE r = 4 ∧ SameParams [pkey P.CXL_EXP_STATE n, pkey P.CXL_REGION_STATE r] s t := by
  have hx := expanderSurpriseRemove_exec n s
  rw [if_neg hst] at hx
  obtain ⟨hev, h0, h4⟩ := slotEmptied_region hreg hbin hrs hn hr
  generalize s.slotEmptied n = u at hx hev h0 h4
  obtain ⟨hp, hpend⟩ := endRemoval_params n cMEDIA_ERROR 0 0 (u.partnerDeparts (expanderId n))
  have hpart : (u.partnerDeparts (expanderId n)).params = u.params ∧ (u.partnerDeparts (expanderId n)).pending = u.pending := by
    rw [partnerDeparts_onlyControl (expanderId n) u]
    exact ⟨rfl, rfl⟩
  have hpar := hp.trans hpart.1
  have hup : u.pending = s.pending := hev.1.pending
  exact ⟨_, exec_next hx (decide_eq_true hn) rfl ((hpend.trans hpart.2).trans hup), (congrArg (SMap.get pdef · (pkey P.CXL_EXP_STATE n)) hpar).trans h0,
    (congrArg (SMap.get pdef · (pkey P.CXL_REGION_STATE r)) hpar).trans h4, fun k hk => (congrArg (SMap.get pdef · k) hpar).trans (hev.2 k hk)⟩

/-! ### Poison and verification (R298, R299) -/

theorem cxlEventPoll_exec (n : Nat) (l : List (Nat × Nat)) (s : State) : exec (.cxlEventPoll n l) s = guarded (.cxlEventPoll n l) s
    (if !(s.getP P.CXL_EXP_STATE n == 2 || s.getP P.CXL_EXP_STATE n == 3) || s.bgHeld 4 then s else (l.foldl (fun t e => t.cxlPoison n 2 e.1 e.2) s).taskDone 4) := rfl

theorem cxlEventPoll_idle {n : Nat} {l : List (Nat × Nat)} {s : State} (hn : n < 32) (h : s.getP P.CXL_EXP_STATE n ≠ 2 ∧ s.getP P.CXL_EXP_STATE n ≠ 3 ∨ s.bgHeld 4 = true) :
    exec (.cxlEventPoll n l) s = .next s :=
  exec_next (cxlEventPoll_exec n l s) (decide_eq_true hn) (if_pos (by rcases h with ⟨h1, h2⟩ | h <;> simp_all)) rfl

theorem firstBelow_congr {f g : Nat → Bool} {n : Nat} (h : ∀ k, k < n → f k = g k) : firstBelow f n = firstBelow g n :=
  List.find?_congr fun k hk => h k (List.mem_range.1 hk)

/-- Where an address lies in the region space does not follow an expander's poison count. -/
theorem regionAt_congr {n : Nat} {s t : State} (hn : n < 32) (h : SameParams [pkey P.CXL_EXP_POISON n] s t) (a : Nat) : t.regionAt a = s.regionAt a := by
  have hne (i r : Nat) (hi : 0x1728 ≤ i) : t.getP i r = s.getP i r := h.getP (by simp only [List.mem_singleton, pkey, P.CXL_EXP_POISON]; omega)
  exact firstBelow_congr fun r _ => by rw [hne _ _ (by decide), hne _ _ (by decide), hne _ _ (by decide)]

theorem cxlPoison_nowhere {n kind a m : Nat} {s : State} (hn : n < 32) (hreg : s.regionAt a = none) : ∃ l q,
    EventsOnly { s with params := SMap.set pdef s.params (pkey P.CXL_EXP_POISON n) (sat32 (s.getP P.CXL_EXP_POISON n + 1)), ctl := { s.ctl with faultLog := l, faultNext := q } }
      (s.cxlPoison n kind a m) ∧ (l.getLast?.map fun x => (x.seq, x.cls, x.idx, x.code)) = some (s.ctl.faultNext, 0x9, 32 + n, 0x0603) := by
  have hpost := eventsOnly_post s 0x68 0x9 (32 + n) (kind + at' 16 (a % 2 ^ 48) + at' 64 m)
  unfold State.cxlPoison State.postMemError
  dsimp only
  generalize s.post 0x68 0x9 (32 + n) (kind + at' 16 (a % 2 ^ 48) + at' 64 m) = u at hpost
  obtain ⟨l, q, hlog, hlast⟩ := logFault_events 0x9 (32 + n) 0x0603 0 u
  have hnext : u.ctl.faultNext = s.ctl.faultNext := by
    obtain ⟨w, v, y, x, hu, -⟩ := hpost.rings
    rw [hu]
  rw [hnext] at hlast
  have hev := (hpost.lift (fun z => { z with ctl := { z.ctl with faultLog := l, faultNext := q } }) (fun _ _ _ _ _ => rfl) fun _ => rfl).trans hlog
  generalize u.logFault 0x9 (32 + n) 0x0603 0 = v at hev
  have hget (i j : Nat) : v.getP i j = s.getP i j := hev.getP i j
  have hsame : SameParams [pkey P.CXL_EXP_POISON n] s (v.bumpSat P.CXL_EXP_POISON n 1) := by
    have h1 : SameParams [pkey P.CXL_EXP_POISON n] s v := fun k _ => hev.sameParams [] k List.not_mem_nil
    exact h1.trans (sameParams_setP List.mem_cons_self _)
  rw [regionAt_congr hn hsame, hreg, State.bumpSat, hget]
  refine ⟨l, q, ?_, hlast⟩
  exact hev.lift (fun z => z.setP P.CXL_EXP_POISON n (sat32 (s.getP P.CXL_EXP_POISON n + 1))) (fun _ _ _ _ _ => rfl) fun _ => rfl

theorem cxlEventPoll_logs {n a m : Nat} {s : State} (hn : n < 32) (hst : s.getP P.CXL_EXP_STATE n = 2 ∨ s.getP P.CXL_EXP_STATE n = 3) (hbg : s.bgHeld 4 = false)
    (hreg : s.regionAt a = none) : ∃ t, exec (.cxlEventPoll n [(a, m)]) s = .next t ∧ t.getP P.CXL_EXP_POISON n = min (s.getP P.CXL_EXP_POISON n + 1) (2 ^ 32 - 1)
      ∧ SameParams [pkey P.CXL_EXP_POISON n] s t ∧ (t.ctl.faultLog.getLast?.map fun x => (x.seq, x.cls, x.idx, x.code)) = some (s.ctl.faultNext, 0x9, 32 + n, 0x0603)
      ∧ EventsOnly { s with
          params := t.params, hk := { s.hk with tasks := t.hk.tasks }, ctl := { s.ctl with faultLog := t.ctl.faultLog, faultNext := t.ctl.faultNext } } t := by
  have hx := cxlEventPoll_exec n [(a, m)] s
  rw [if_neg (by rcases hst with h | h <;> simp [h, hbg]), List.foldl_cons, List.foldl_nil] at hx
  obtain ⟨l, q, hev, hlast⟩ := cxlPoison_nowhere (kind := 2) (m := m) hn hreg
  generalize s.cxlPoison n 2 a m = u at hx hev
  have hget : u.getP P.CXL_EXP_POISON n = min (s.getP P.CXL_EXP_POISON n + 1) (2 ^ 32 - 1) := (hev.getP _ _).trans (SMap.get_set_same pdef _ _ _)
  have hsame : SameParams [pkey P.CXL_EXP_POISON n] s u := fun k hk =>
    (hev.sameParams [] k List.not_mem_nil).trans (SMap.get_set_other pdef s.params (by simpa using hk) _)
  obtain ⟨w, v, y, x, hu, hr⟩ := hev.rings
  have hpar : u.params = SMap.set pdef s.params (pkey P.CXL_EXP_POISON n) (sat32 (s.getP P.CXL_EXP_POISON n + 1)) := by rw [hu]
  have hlog : u.ctl.faultLog = l := by rw [hu]
  have hnext : u.ctl.faultNext = q := by rw [hu]
  refine ⟨u.taskDone 4, exec_next hx (decide_eq_true hn) rfl hev.pending, hget, fun k hk => hsame k hk, (congrArg (fun z : List FaultEntry => z.getLast?.map fun x => (x.seq, x.cls, x.idx, x.code)) hlog).trans hlast, ?_⟩
  rw [← hpar, ← hlog, ← hnext] at hev
  exact hev.lift (fun z => { z with hk := { z.hk with tasks := (u.taskDone 4).hk.tasks } }) (fun _ _ _ _ _ => rfl) fun _ => rfl

theorem region_modRegion (r k : Nat) (f : Region → Region) (s : State) : (s.modRegion r f).region k = if k = r then f (s.region r) else s.region k :=
  SMap.get_set regionDef _ _ _ _

theorem cxlVerify_exec (r o : Nat) (p : Bool) (s : State) : exec (.cxlVerify r o p) s = guarded (.cxlVerify r o p) s
    (if s.bgHeld 8 ∨ !(s.region r).persistent ∨ !(s.getP P.CXL_REGION_STATE r == 1 || s.getP P.CXL_REGION_STATE r == 2 || s.getP P.CXL_REGION_STATE r == 3) ∨ s.getP P.CXL_REGION_SIZE r ≤ o then s
    else
      let s1 := if p then s.cxlPoison ((s.region r).memberAt o) 4 (s.getP P.CXL_REGION_BASE r + o) 0x10000 else s
      let m := min (o + 0x10000) (s.getP P.CXL_REGION_SIZE r) * 1000 / s.getP P.CXL_REGION_SIZE r
      State.modTask 8 (fun t => { t with progress := m }) ((s1.modRegion r fun x => { x with verifyPos := o + 0x10000 }).setP P.CXL_VERIFY_PROGRESS 0 m)) := rfl

theorem cxlVerify_idle {r o : Nat} {p : Bool} {s : State} (hr : r < 32) (h : s.bgHeld 8 = true ∨ (s.region r).persistent = false ∨ s.getP P.CXL_REGION_STATE r = 0
    ∨ 4 ≤ s.getP P.CXL_REGION_STATE r ∨ s.getP P.CXL_REGION_SIZE r ≤ o) : exec (.cxlVerify r o p) s = .next s := by
  refine exec_next (cxlVerify_exec r o p s) (decide_eq_true hr) (if_pos ?_) rfl
  rcases h with h | h | h | h | h
  · exact .inl h
  · exact .inr (.inl (by simp [h]))
  · exact .inr (.inr (.inl (by simp [h])))
  · exact .inr (.inr (.inl (by simp; omega)))
  · exact .inr (.inr (.inr h))

theorem cxlVerify_moves {r o : Nat} {s : State} (hr : r < 32) (hbg : s.bgHeld 8 = false) (hp : (s.region r).persistent = true) (h1 : 1 ≤ s.getP P.CXL_REGION_STATE r)
    (h3 : s.getP P.CXL_REGION_STATE r ≤ 3) (ho : o < s.getP P.CXL_REGION_SIZE r) : ∃ t, exec (.cxlVerify r o false) s = .next t
      ∧ t.region r = { s.region r with verifyPos := o + 0x10000 } ∧ (∀ k, k ≠ r → t.region k = s.region k)
      ∧ t.getP P.CXL_VERIFY_PROGRESS 0 = min (o + 0x10000) (s.getP P.CXL_REGION_SIZE r) * 1000 / s.getP P.CXL_REGION_SIZE r ∧ SameParams [pkey P.CXL_VERIFY_PROGRESS 0] s t
      ∧ t = { s with params := t.params, cxl := { s.cxl with regions := t.cxl.regions }, hk := { s.hk with tasks := t.hk.tasks } } := by
  have hx := cxlVerify_exec r o false s
  have hcond : ¬ (s.bgHeld 8 = true ∨ (!(s.region r).persistent) = true
      ∨ (!(s.getP P.CXL_REGION_STATE r == 1 || s.getP P.CXL_REGION_STATE r == 2 || s.getP P.CXL_REGION_STATE r == 3)) = true ∨ s.getP P.CXL_REGION_SIZE r ≤ o) := by
    simp only [hbg, hp, Bool.not_true, Bool.false_eq_true, false_or, not_or, Bool.not_eq_true', Bool.or_eq_false_iff, beq_eq_false_iff_ne, not_and, not_not]
    exact ⟨fun _ => by omega, by omega⟩
  rw [if_neg hcond] at hx
  have hreg (k : Nat) := region_modRegion r k (fun x => { x with verifyPos := o + 0x10000 }) s
  have hget := State.getP_setP_same s P.CXL_VERIFY_PROGRESS 0 (min (o + 0x10000) (s.getP P.CXL_REGION_SIZE r) * 1000 / s.getP P.CXL_REGION_SIZE r)
  have hsame := sameParams_setP (s := s) (i := P.CXL_VERIFY_PROGRESS) (e := 0) (List.mem_singleton_self _)
    (min (o + 0x10000) (s.getP P.CXL_REGION_SIZE r) * 1000 / s.getP P.CXL_REGION_SIZE r)
  exact ⟨_, exec_next hx (decide_eq_true hr) rfl rfl, (hreg r).trans (if_pos rfl), fun k hk => (hreg k).trans (if_neg hk), hget, hsame, rfl⟩

theorem regionVerifyDone_exec (r : Nat) (s : State) : exec (.regionVerifyDone r) s = guarded (.regionVerifyDone r) s
    (if !(s.region r).persistent then s
    else
      let s1 := (s.modRegion r fun x => { x with verifyPos := 0, verifying := false }).setP P.CXL_VERIFY_PROGRESS 0 0
      let s2 : State := State.taskDone 8 (State.modTask 8 (fun t => { t with progress := 0 })
        { s1 with hk := { s1.hk with verifyStart := SMap.set (fun _ => 0) s1.hk.verifyStart r s1.now } })
      if s2.getP P.CXL_REGION_STATE r = 2 then s2.setRegionState r 1 4 else s2) := rfl

/-- The read-verify pass of region `r` is over. -/
def State.passDone (r : Nat) (s : State) : State :=
  let s1 := (s.modRegion r fun x => { x with verifyPos := 0, verifying := false }).setP P.CXL_VERIFY_PROGRESS 0 0
  State.taskDone 8 (State.modTask 8 (fun t => { t with progress := 0 }) { s1 with hk := { s1.hk with verifyStart := SMap.set (fun _ => 0) s1.hk.verifyStart r s1.now } })

theorem passDone_effect (r : Nat) (s : State) : (s.passDone r).region r = { s.region r with verifyPos := 0, verifying := false } ∧ (∀ k, k ≠ r → (s.passDone r).region k = s.region k)
    ∧ (s.passDone r).getP P.CXL_VERIFY_PROGRESS 0 = 0 ∧ SameParams [pkey P.CXL_VERIFY_PROGRESS 0] s (s.passDone r) ∧ s.passDone r = { s with
      params := (s.passDone r).params, cxl := { s.cxl with regions := (s.passDone r).cxl.regions }
      hk := { s.hk with tasks := (s.passDone r).hk.tasks, verifyStart := (s.passDone r).hk.verifyStart } } := by
  have hreg (k : Nat) := region_modRegion r k (fun x => { x with verifyPos := 0, verifying := false }) s
  have hget := State.getP_setP_same s P.CXL_VERIFY_PROGRESS 0 0
  have hsame := sameParams_setP (s := s) (i := P.CXL_VERIFY_PROGRESS) (e := 0) (List.mem_singleton_self _) 0
  exact ⟨(hreg r).trans (if_pos rfl), fun k hk => (hreg k).trans (if_neg hk), hget, hsame, rfl⟩

theorem regionVerifyDone_done {r : Nat} {s : State} (hr : r < 32) (hp : (s.region r).persistent = true) (hbin : s.binOn r = none) : ∃ t, exec (.regionVerifyDone r) s = .next t
    ∧ t.region r = { s.region r with verifyPos := 0, verifying := false } ∧ (∀ k, k ≠ r → t.region k = s.region k)
    ∧ t.getP P.CXL_REGION_STATE r = (if s.getP P.CXL_REGION_STATE r = 2 then 1 else s.getP P.CXL_REGION_STATE r) ∧ t.getP P.CXL_VERIFY_PROGRESS 0 = 0
    ∧ SameParams [pkey P.CXL_REGION_STATE r, pkey P.CXL_VERIFY_PROGRESS 0] s t ∧ EventsOnly { s with
        params := t.params, cxl := { s.cxl with regions := t.cxl.regions }, hk := { s.hk with tasks := t.hk.tasks, verifyStart := t.hk.verifyStart } } t := by
  have hx : exec (.regionVerifyDone r) s = guarded (.regionVerifyDone r) s (if (s.passDone r).getP P.CXL_REGION_STATE r = 2 then (s.passDone r).setRegionState r 1 4 else s.passDone r) :=
    (regionVerifyDone_exec r s).trans (congrArg _ (if_neg (by simp [hp])))
  obtain ⟨h1, h2, h3, h4, h5⟩ := passDone_effect r s
  generalize s.passDone r = u at hx h1 h2 h3 h4 h5
  have hkey : pkey P.CXL_REGION_STATE r ≠ pkey P.CXL_VERIFY_PROGRESS 0 := by simp only [pkey, P.CXL_REGION_STATE, P.CXL_VERIFY_PROGRESS]; omega
  have hst : u.getP P.CXL_REGION_STATE r = s.getP P.CXL_REGION_STATE r := h4.getP (by simpa using hkey)
  have hb : u.binOn r = none := (binOn_congr (s := s) (by rw [h5]) r).trans hbin
  have hpend : u.pending = s.pending := by rw [h5]
  have hset : ParamEvents [pkey P.CXL_REGION_STATE r] u (if u.getP P.CXL_REGION_STATE r = 2 then u.setRegionState r 1 4 else u)
      ∧ (if u.getP P.CXL_REGION_STATE r = 2 then u.setRegionState r 1 4 else u).getP P.CXL_REGION_STATE r = if u.getP P.CXL_REGION_STATE r = 2 then 1 else u.getP P.CXL_REGION_STATE r := by
    by_cases h : u.getP P.CXL_REGION_STATE r = 2
    · rw [if_pos h, if_pos h]
      exact setRegionState_effect hb 1 4
    · rw [if_neg h, if_neg h]
      exact ⟨ParamEvents.refl _ u, rfl⟩
  generalize (if u.getP P.CXL_REGION_STATE r = 2 then u.setRegionState r 1 4 else u) = t at hx hset
  obtain ⟨hev, hstate⟩ := hset
  obtain ⟨p, w, v, m, a, ht⟩ := hev.frame
  have hcxl : t.cxl = u.cxl := by rw [ht]
  have hhk : t.hk = u.hk := by rw [ht]
  have hreg (k : Nat) : t.region k = u.region k := congrArg (fun c : Cxl => SMap.get regionDef c.regions k) hcxl
  refine ⟨t, exec_next hx (decide_eq_true hr) rfl (hev.1.pending.trans hpend), (hreg r).trans h1, fun k hk => (hreg k).trans (h2 k hk), by rw [hstate, hst],
    (hev.getP (by simpa using hkey.symm)).trans h3, (h4.mono (by simp)).trans (hev.2.mono (by simp)), ?_⟩
  rw [hcxl, hhk]
  have he : { u with params := t.params } = { s with
      params := t.params, cxl := { s.cxl with regions := u.cxl.regions }, hk := { s.hk with tasks := u.hk.tasks, verifyStart := u.hk.verifyStart } } := by
    conv_lhs => rw [h5]
  rw [← he]
  exact hev.1

end Sys2Proof.Machine
end

section
/-! CXL regions are created, deleted and accepted (O40, the second half; 09_memory.md). -/

namespace Sys2Proof.Machine

/-! ### Many entries of a map -/

theorem SMap.get_foldl_set_list {α : Type} [DecidableEq α] (d : Nat → α) (f : α → α) (n : Nat) : ∀ (l : List Nat) (m : SMap α), l.Nodup ∨ (∀ x, f (f x) = f x) →
    SMap.get d (l.foldl (fun m i => SMap.set d m i (f (SMap.get d m i))) m) n = if n ∈ l then f (SMap.get d m n) else SMap.get d m n
  | [], _, _ => rfl
  | a :: l, m, h => by
    have hl : l.Nodup ∨ ∀ x, f (f x) = f x := h.imp_left fun h => (List.nodup_cons.1 h).2
    rw [List.foldl_cons, SMap.get_foldl_set_list d f n l _ hl, SMap.get_set]
    by_cases ha : n = a
    · subst ha
      rw [if_pos rfl, if_pos List.mem_cons_self]
      split
      · next hm => exact h.elim (fun h => absurd hm (List.nodup_cons.1 h).1) fun h => h _
      · rfl
    · rw [if_neg ha]
      by_cases hm : n ∈ l
      · rw [if_pos hm, if_pos (List.mem_cons_of_mem _ hm)]
      · rw [if_neg hm, if_neg fun h => (List.mem_cons.1 h).elim ha hm]

theorem foldl_modExpander (f : Expander → Expander) : ∀ (l : List Nat) (s : State), l.foldl (fun t n => t.modExpander n f) s
    = { s with cxl := { s.cxl with exps := l.foldl (fun m i => SMap.set expDef m i (f (SMap.get expDef m i))) s.cxl.exps } }
  | [], _ => rfl
  | n :: l, s => foldl_modExpander f l (s.modExpander n f)

theorem expander_foldl {f : Expander → Expander} {l : List Nat} (h : l.Nodup ∨ ∀ x, f (f x) = f x) (s : State) (n : Nat) :
    (l.foldl (fun t n => t.modExpander n f) s).expander n = if n ∈ l then f (s.expander n) else s.expander n := by
  rw [foldl_modExpander]
  exact SMap.get_foldl_set_list expDef f n l s.cxl.exps h

theorem nodup_of_eraseDups_length {l : List Nat} : l.length ≤ l.eraseDups.length → l.Nodup := by
  have hle (n : Nat) : ∀ m : List Nat, m.length ≤ n → m.eraseDups.length ≤ m.length := by
    induction n with
    | zero => intro m hm; rw [List.length_eq_zero_iff.1 (Nat.le_zero.1 hm)]; exact Nat.le_refl _
    | succ n ih =>
      intro m hm
      cases m with
      | nil => exact Nat.le_refl _
      | cons a m =>
        rw [List.eraseDups_cons, List.length_cons, List.length_cons]
        have hf := List.length_filter_le (fun b => !b == a) m
        exact Nat.succ_le_succ (Nat.le_trans (ih _ (Nat.le_trans hf (Nat.succ_le_succ_iff.1 hm))) hf)
  induction l with
  | nil => exact fun _ => List.nodup_nil
  | cons a l ih =>
    intro h
    rw [List.eraseDups_cons, List.length_cons, List.length_cons] at h
    have hf := List.length_filter_le (fun b => !b == a) l
    have hd := hle _ (l.filter fun b => !b == a) (Nat.le_refl _)
    have hfl : (l.filter fun b => !b == a) = l := List.filter_eq_self.2 (List.length_filter_eq_length_iff.1 (by omega))
    rw [hfl] at h
    refine List.nodup_cons.2 ⟨fun ha => ?_, ih (by omega)⟩
    have := List.filter_eq_self.1 hfl a ha
    simp at this

/-! ### What the region parameters show (R294) -/

/-- The bytes of a region. -/
abbrev Region.size (g : Region) : Nat := g.slots.length * g.gib * 0x40000000

theorem regionReport_get (s : State) {r : Nat} (hr : r < 32) :
    s.regionReport.getP P.CXL_REGION_BASE r = (s.region r).base ∧ s.regionReport.getP P.CXL_REGION_SIZE r = Region.size (s.region r) := by
  have key (u : State) (n : Nat) (hn : n ≤ 4096) (hrn : r < n) :
      ((List.range n).foldl (fun t r => (t.setP P.CXL_REGION_BASE r (s.region r).base).setP P.CXL_REGION_SIZE r (Region.size (s.region r))) u).getP P.CXL_REGION_BASE r = (s.region r).base
      ∧ ((List.range n).foldl (fun t r => (t.setP P.CXL_REGION_BASE r (s.region r).base).setP P.CXL_REGION_SIZE r (Region.size (s.region r))) u).getP P.CXL_REGION_SIZE r
        = Region.size (s.region r) := by
    induction n with
    | zero => omega
    | succ n ih =>
      rw [List.range_succ, List.foldl_append, List.foldl_cons, List.foldl_nil]
      have hne : ∀ a b i j : Nat, a ≠ b → i < 4096 → j < 4096 → pkey a i ≠ pkey b j := fun a b i j h hi hj => by simp only [pkey]; omega
      by_cases hrn' : r = n
      · subst hrn'
        exact ⟨by rw [State.getP_setP, if_neg (hne _ _ _ _ (by decide) (by omega) (by omega)), State.getP_setP_same], State.getP_setP_same _ _ _ _⟩
      · have hsame : ∀ a : Nat, pkey a r ≠ pkey a n := fun a => by simp only [pkey]; omega
        rw [State.getP_setP, if_neg (hne _ _ _ _ (by decide) (by omega) (by omega)), State.getP_setP, if_neg (hsame _), State.getP_setP, if_neg (hsame _), State.getP_setP,
          if_neg (hne _ _ _ _ (by decide) (by omega) (by omega))]
        exact ih (by omega) (by omega)
  unfold State.regionReport
  dsimp only
  exact key _ 32 (by decide) hr

/-! ### CXL_REGION_CREATE (R294, R295) -/

/-- The slots that a CXL_REGION_CREATE names. -/
abbrev regionSlots (c : Cmd) : List Nat := ((List.range 8).map fun i => c.f (64 + 8 * i) 8).take (c.f 16 8)

/-- Operands of CXL_REGION_CREATE that no check of their own refuses. -/
structure RegionOperands (c : Cmd) : Prop where
  region : c.f 0 8 < 32
  ways : c.f 16 8 ∈ [1, 2, 4, 8]
  gib : c.f 32 32 ≠ 0
  slots : ∀ n ∈ regionSlots c, n < 32
  distinct : (regionSlots c).eraseDups.length = c.f 16 8
  rest : ∀ i, c.f 16 8 ≤ i → i < 8 → c.f (64 + 8 * i) 8 = 0xFF

/-- The first check of CXL_REGION_CREATE refuses the operands. -/
abbrev badRegionOperands (c : Cmd) : Prop :=
  32 ≤ c.f 0 8 ∨ !([1, 2, 4, 8].contains (c.f 16 8)) ∨ c.f 32 32 = 0 ∨ ((regionSlots c).any fun n => decide (32 ≤ n)) ∨ (regionSlots c).eraseDups.length ≠ c.f 16 8
    ∨ ((((List.range 8).map fun i => c.f (64 + 8 * i) 8).drop (c.f 16 8)).any fun n => n != 0xFF)

theorem RegionOperands.sound {c : Cmd} (h : RegionOperands c) : ¬ badRegionOperands c := by
  obtain ⟨h1, h2, h3, h4, h5, h6⟩ := h
  have hrest : ¬ ((((List.range 8).map fun i => c.f (64 + 8 * i) 8).drop (c.f 16 8)).any fun n => n != 0xFF) = true := by
    rw [List.any_eq_true]
    rintro ⟨x, hx, hne⟩
    obtain ⟨i, hi, rfl⟩ := List.mem_iff_getElem.1 hx
    rw [List.length_drop, List.length_map, List.length_range] at hi
    rw [List.getElem_drop, List.getElem_map, List.getElem_range, h6 _ (by omega) (by omega)] at hne
    simp at hne
  have hslots : ¬ ((regionSlots c).any fun n => decide (32 ≤ n)) = true := by
    rw [List.any_eq_true]
    rintro ⟨n, hn, hd⟩
    have := h4 n hn
    have := of_decide_eq_true hd
    omega
  rintro (h | h | h | h | h | h)
  · omega
  · rw [List.contains_iff_mem.2 h2] at h
    cases h
  · exact h3 h
  · exact hslots h
  · exact h h5
  · exact hrest h

theorem RegionOperands.nodup {c : Cmd} (h : RegionOperands c) : (regionSlots c).Nodup ∧ (regionSlots c).length = c.f 16 8 := by
  have hlen : (regionSlots c).length = min (c.f 16 8) 8 := by rw [List.length_take, List.length_map, List.length_range]
  have hd := h.distinct
  have hw : c.f 16 8 ≤ 8 := by
    have := h.ways
    simp only [List.mem_cons, List.not_mem_nil, or_false] at this
    omega
  exact ⟨nodup_of_eraseDups_length (by omega), by omega⟩

/-- The body of CXL_REGION_CREATE, its checks in the order of R294. -/
theorem cxlRegionCreateBody_eq (k : Call) (s : State) : cxlRegionCreateBody k s =
    if badRegionOperands k.c then (s, .err cBAD_PARAM)
    else if s.getP P.CXL_REGION_STATE (k.c.f 0 8) ≠ 0 then (s, .err cBUSY)
    else if (regionSlots k.c).any fun n => s.getP P.CXL_EXP_STATE n != 2 then (s, .err cEXPANDER_ABSENT)
    else
      let pers := k.c.f 8 1 == 1
      let force := k.c.f 9 1 == 1
      let free := fun (n : Nat) => (if pers then (s.expander n).pers else (s.expander n).vol) - s.slotUse n pers
      if (regionSlots k.c).any fun n => decide (free n < k.c.f 32 32) || ((s.expander n).foreign && !force) then (s, .err cNO_RESOURCE)
      else if pers && (regionSlots k.c).any fun n => (!(s.expander n).gpf || !(s.expander n).lsa || decide (8 < (s.expander n).phase2Ms)) then (s, .err cEXPANDER_UNFIT)
      else
        let bytes := k.c.f 16 8 * k.c.f 32 32 * 0x40000000
        let l := ((s.cxl.regions.filter fun e => !e.2.slots.isEmpty).map fun e => (e.2.base, e.2.slots.length * e.2.gib * 0x40000000)).mergeSort
          fun a b => decide (a.1 ≤ b.1)
        match fitRegion bytes l 0x200000000000 with
        | none => (s, .err cNO_RESOURCE)
        | some a =>
          if pers && decide (0x100000000000 < s.getP P.CXL_PERSIST_TOTAL 0 + bytes) then (s, .err cNO_RESOURCE)
          else
            let g : Region := { persistent := pers, slots := regionSlots k.c, serials := (regionSlots k.c).map fun n => (s.expander n).serial, gib := k.c.f 32 32, base := a
                                parts := (regionSlots k.c).map fun n => s.slotPieces n pers (k.c.f 32 32) }
            let s1 := (regionSlots k.c).foldl (fun t n => t.modExpander n fun x =>
              { x with foreign := false, labels := if x.lsa then x.labels ++ [k.c.f 0 8] else x.labels }) (s.modRegion (k.c.f 0 8) fun _ => g)
            ((s1.regionReport.startPass (k.c.f 0 8)).setRegionState (k.c.f 0 8) 1 0, .done cOK 8 a) := rfl

section
variable {c : Cmd} {s : State} (ha : s.accepts true 0x0610 c) (ho : c.operands 16 0xFF00FC00)
include ha ho

theorem cxlRegionCreate_answers {code len r : Nat} (hc : code < 256)
    (hbody : cxlRegionCreateBody { c := c, tk := s.newTicket, priv := s.privOf c } (s.entered 0x0610 c) = (s.entered 0x0610 c, .done code len r)) :
    ∃ t, exec (.cxlRegionCreate c) s = .next t ∧ Answered 0x0610 c code len r t ∧ CommandOnly c s t :=
  completes_reading (i := .cxlRegionCreate c) (spec := cxlRegionCreateSpec) (body := cxlRegionCreateBody) ha.1.1 ha (by simp [cxlRegionCreateSpec, ho.1])
    (by rw [ho.1]; exact ho.2) (fun _ => rfl) hc hbody

theorem cxlRegionCreate_badParam (h : badRegionOperands c) : ∃ t, exec (.cxlRegionCreate c) s = .next t ∧ Answered 0x0610 c 4 0 0 t ∧ CommandOnly c s t :=
  cxlRegionCreate_answers ha ho (by decide) (by rw [cxlRegionCreateBody_eq, if_pos h])

theorem cxlRegionCreate_busy (hop : RegionOperands c) (h : s.getP P.CXL_REGION_STATE (c.f 0 8) ≠ 0) :
    ∃ t, exec (.cxlRegionCreate c) s = .next t ∧ Answered 0x0610 c 2 0 0 t ∧ CommandOnly c s t :=
  cxlRegionCreate_answers ha ho (by decide) (by rw [cxlRegionCreateBody_eq, if_neg hop.sound, if_pos (by rwa [State.entered_getP])])

theorem cxlRegionCreate_absent (hop : RegionOperands c) (h : s.getP P.CXL_REGION_STATE (c.f 0 8) = 0) (habs : ∃ n ∈ regionSlots c, s.getP P.CXL_EXP_STATE n ≠ 2) :
    ∃ t, exec (.cxlRegionCreate c) s = .next t ∧ Answered 0x0610 c 0x53 0 0 t ∧ CommandOnly c s t := by
  refine cxlRegionCreate_answers ha ho (by decide) ?_
  obtain ⟨n, hn, hne⟩ := habs
  rw [cxlRegionCreateBody_eq, if_neg hop.sound, if_neg (by rw [State.entered_getP, h]; simp), if_pos]
  exact List.any_eq_true.2 ⟨n, hn, by rw [State.entered_getP]; simpa using hne⟩

end

/-- Region `r` is defined as `g`, and its members are labelled. -/
def State.regionMade (r : Nat) (g : Region) (s : State) : State :=
  g.slots.foldl (fun t n => t.modExpander n fun x => { x with foreign := false, labels := if x.lsa then x.labels ++ [r] else x.labels }) (s.modRegion r fun _ => g)

theorem regionMade_effect {r : Nat} {g : Region} (hd : g.slots.Nodup) (s : State) : ∃ e m, s.regionMade r g = { s with cxl := { s.cxl with exps := e, regions := m } }
    ∧ (∀ k, SMap.get regionDef m k = if k = r then g else s.region k)
    ∧ ∀ n, SMap.get expDef e n = if n ∈ g.slots then { s.expander n with
        foreign := false, labels := if (s.expander n).lsa then (s.expander n).labels ++ [r] else (s.expander n).labels } else s.expander n :=
  ⟨_, _, foldl_modExpander _ _ _, fun _ => SMap.get_set regionDef _ _ _ _, fun n => SMap.get_foldl_set_list expDef
    (fun x => { x with foreign := false, labels := if x.lsa then x.labels ++ [r] else x.labels }) n g.slots s.cxl.exps (.inl hd)⟩

/-- The region parameters follow the definition of region `r`. -/
theorem regionMade_reported {r : Nat} {g : Region} (hd : g.slots.Nodup) (hr : r < 32) (s : State) :
    ParamsOnly regionKeys (s.regionMade r g) (s.regionMade r g).regionReport ∧ (s.regionMade r g).regionReport.getP P.CXL_REGION_BASE r = g.base
      ∧ (s.regionMade r g).regionReport.getP P.CXL_REGION_SIZE r = Region.size g := by
  obtain ⟨e, m, hf, hm, -⟩ := regionMade_effect (r := r) hd s
  have hreg : (s.regionMade r g).region r = g := by
    rw [hf]
    exact (hm r).trans (if_pos rfl)
  obtain ⟨h1, h2⟩ := regionReport_get (s.regionMade r g) hr
  rw [hreg] at h1 h2
  exact ⟨regionReport_paramsOnly _, h1, h2⟩

theorem regionKeys_ids {k : Nat} (h : k ∈ regionKeys) : k / 4096 = P.CXL_PERSIST_TOTAL ∨ k / 4096 = P.CXL_REGION_BASE ∨ k / 4096 = P.CXL_REGION_SIZE := by
  have key (i e : Nat) (he : e < 4096) : pkey i e / 4096 = i := by simp only [pkey]; omega
  rcases List.mem_cons.1 h with rfl | h
  · exact .inl (key _ _ (by decide))
  · obtain ⟨r, hr, h⟩ := List.mem_flatMap.1 h
    have hr := List.mem_range.1 hr
    rcases List.mem_cons.1 h with rfl | h
    · exact .inr (.inl (key _ _ (by omega)))
    · rw [List.mem_singleton.1 h]
      exact .inr (.inr (key _ _ (by omega)))

theorem regionState_not_regionKeys {r : Nat} (hr : r < 32) : pkey P.CXL_REGION_STATE r ∉ regionKeys := by
  intro h
  have hdiv : pkey P.CXL_REGION_STATE r / 4096 = P.CXL_REGION_STATE := by simp only [pkey]; omega
  rcases regionKeys_ids h with h | h | h <;> rw [hdiv] at h <;> exact absurd h (by decide)

theorem startPass_effect (r : Nat) (s : State) : ∃ h, s.startPass r = { s with hk := { s.hk with verifyStart := h } } ∧ SMap.get (fun _ => 0) h r = s.now :=
  ⟨_, rfl, SMap.get_set_same _ _ _ _⟩

/-- A region created, its pass begun, and ONLINE. -/
theorem regionMade_online {r : Nat} {g : Region} (hd : g.slots.Nodup) (hr : r < 32) {s : State} (hbin : s.binOn r = none) : ∃ u,
    (((s.regionMade r g).regionReport.startPass r).setRegionState r 1 0) = u ∧ u.getP P.CXL_REGION_STATE r = 1 ∧ u.getP P.CXL_REGION_BASE r = g.base
      ∧ u.getP P.CXL_REGION_SIZE r = Region.size g ∧ SameParams (pkey P.CXL_REGION_STATE r :: regionKeys) s u ∧ (∀ k, u.region k = if k = r then g else s.region k)
      ∧ (∀ n, u.expander n = if n ∈ g.slots then { s.expander n with
          foreign := false, labels := if (s.expander n).lsa then (s.expander n).labels ++ [r] else (s.expander n).labels } else s.expander n)
      ∧ SMap.get (fun _ => 0) u.hk.verifyStart r = s.now
      ∧ EventsOnly { s with params := u.params, cxl := { s.cxl with exps := u.cxl.exps, regions := u.cxl.regions }, hk := { s.hk with verifyStart := u.hk.verifyStart } } u := by
  obtain ⟨e, m, hf, hm, he⟩ := regionMade_effect (r := r) hd s
  obtain ⟨⟨hrep, hsame⟩, hbase, hsize⟩ := regionMade_reported (r := r) hd hr s
  generalize (s.regionMade r g).regionReport = x at hrep hsame hbase hsize
  rw [hf] at hrep hsame
  obtain ⟨pass, hpass, hstart⟩ := startPass_effect r x
  have hnow : x.now = s.now := by rw [hrep]
  rw [hnow] at hstart
  generalize x.startPass r = y at hpass
  have hyf : y = { s with params := x.params, cxl := { s.cxl with exps := e, regions := m }, hk := { s.hk with verifyStart := pass } } := by
    rw [hpass, hrep]
  have hpar : y.params = x.params := by rw [hyf]
  have hxb : y.binOn r = none := (binOn_congr (s := s) (by rw [hyf]) r).trans hbin
  obtain ⟨hev, h1⟩ := setRegionState_effect hxb 1 0
  generalize y.setRegionState r 1 0 = u at hev h1
  obtain ⟨p, w, v, z, a, huf⟩ := hev.frame
  have hcxl : u.cxl = { s.cxl with exps := e, regions := m } := by rw [huf, hyf]
  have hhk : u.hk = { s.hk with verifyStart := pass } := by rw [huf, hyf]
  have hne (i : Nat) (hi : i = P.CXL_REGION_BASE ∨ i = P.CXL_REGION_SIZE) : u.getP i r = x.getP i r :=
    (hev.getP (by rcases hi with rfl | rfl <;> simp only [List.mem_singleton, pkey, P.CXL_REGION_STATE, P.CXL_REGION_BASE, P.CXL_REGION_SIZE] <;> omega)).trans
      (congrArg (SMap.get pdef · (pkey i r)) hpar)
  have hall : SameParams (pkey P.CXL_REGION_STATE r :: regionKeys) s u := fun k hk => by
    rw [List.mem_cons, not_or] at hk
    exact ((hev.2 k (by simpa using hk.1)).trans (congrArg (SMap.get pdef · k) hpar)).trans (hsame k hk.2)
  refine ⟨u, rfl, h1, (hne _ (.inl rfl)).trans hbase, (hne _ (.inr rfl)).trans hsize, hall, fun k => ?_, fun n => ?_, ?_, ?_⟩
  · rw [State.region, hcxl]
    exact hm k
  · rw [State.expander, hcxl]
    exact he n
  · rw [hhk]
    exact hstart
  · rw [hcxl, hhk]
    have hbase' : { y with params := u.params } = { s with
        params := u.params, cxl := { s.cxl with exps := e, regions := m }, hk := { s.hk with verifyStart := pass } } := by
      rw [hyf]
    exact hbase' ▸ hev.1

/-- The region that a CXL_REGION_CREATE defines first on a device. -/
def firstRegion (c : Cmd) (s : State) : Region :=
  { persistent := c.f 8 1 == 1, slots := regionSlots c, serials := (regionSlots c).map fun n => (s.expander n).serial, gib := c.f 32 32, base := 0x200000000000
    parts := (regionSlots c).map fun _ => [(0, c.f 32 32)] }

/-- The members of a CXL_REGION_CREATE fit it. -/
abbrev membersFit (c : Cmd) (s : State) : Prop :=
  ∀ n ∈ regionSlots c, c.f 32 32 ≤ (if c.f 8 1 = 1 then (s.expander n).pers else (s.expander n).vol) ∧ ((s.expander n).foreign = false ∨ c.f 9 1 = 1)
    ∧ (c.f 8 1 = 1 → (s.expander n).gpf = true ∧ (s.expander n).lsa = true ∧ (s.expander n).phase2Ms ≤ 8)

theorem slotPieces_first {n gib : Nat} {pers : Bool} {s : State} (h : s.cxl.regions = []) (hg : gib ≠ 0) : s.slotPieces n pers gib = [(0, gib)] := by
  rw [State.slotPieces, h, List.filter_nil, List.flatMap_nil, List.mergeSort_nil]
  exact if_neg hg

theorem slotUse_first {n : Nat} {pers : Bool} {s : State} (h : s.cxl.regions = []) : s.slotUse n pers = 0 := by
  rw [State.slotUse, h]
  rfl

/-- The meaning of CXL_REGION_CREATE on a device without regions, on members that fit. -/
theorem cxlRegionCreateBody_first {k : Call} {s : State} (hop : RegionOperands k.c) (hst : s.getP P.CXL_REGION_STATE (k.c.f 0 8) = 0)
    (hready : ∀ n ∈ regionSlots k.c, s.getP P.CXL_EXP_STATE n = 2) (hreg : s.cxl.regions = []) (hfit : membersFit k.c s)
    (hroom : k.c.f 16 8 * k.c.f 32 32 * 0x40000000 ≤ 0x200000000000)
    (htotal : k.c.f 8 1 = 1 → s.getP P.CXL_PERSIST_TOTAL 0 + k.c.f 16 8 * k.c.f 32 32 * 0x40000000 ≤ 0x100000000000) :
    cxlRegionCreateBody k s = ((((s.regionMade (k.c.f 0 8) (firstRegion k.c s)).regionReport.startPass (k.c.f 0 8)).setRegionState (k.c.f 0 8) 1 0), .done cOK 8 0x200000000000) := by
  have hnone {p : Nat → Bool} (h : ∀ n ∈ regionSlots k.c, p n = false) : ¬ (regionSlots k.c).any p = true := by
    rw [List.any_eq_true]
    rintro ⟨n, hn, hp⟩
    rw [h n hn] at hp
    cases hp
  have hpieces : ((regionSlots k.c).map fun n => s.slotPieces n (k.c.f 8 1 == 1) (k.c.f 32 32)) = (regionSlots k.c).map fun _ => [(0, k.c.f 32 32)] :=
    List.map_congr_left fun n _ => slotPieces_first hreg hop.gib
  have hfitRegion : fitRegion (k.c.f 16 8 * k.c.f 32 32 * 0x40000000) (((s.cxl.regions.filter fun e => !e.2.slots.isEmpty).map fun e =>
      (e.2.base, e.2.slots.length * e.2.gib * 0x40000000)).mergeSort fun a b => decide (a.1 ≤ b.1)) 0x200000000000 = some 0x200000000000 := by
    rw [hreg, List.filter_nil, List.map_nil, List.mergeSort_nil]
    exact if_pos (by omega)
  rw [cxlRegionCreateBody_eq, if_neg hop.sound, if_neg (not_not.2 hst), if_neg (hnone fun n hn => by rw [hready n hn]; rfl)]
  dsimp only
  rw [if_neg (hnone fun n hn => ?_), if_neg, hfitRegion]
  · dsimp only
    rw [if_neg, hpieces]
    · rfl
    · simp only [Bool.and_eq_true, beq_iff_eq, decide_eq_true_eq, not_and, Nat.not_lt]
      exact htotal
  · rw [Bool.and_eq_true, beq_iff_eq, not_and]
    refine fun hp => hnone fun n hn => ?_
    obtain ⟨h1, h2, h3⟩ := (hfit n hn).2.2 hp
    simp [h1, h2, h3]
  · obtain ⟨h1, h2, -⟩ := hfit n hn
    rw [Bool.or_eq_false_iff, decide_eq_false_iff_not, Nat.not_lt, Bool.and_eq_false_iff, slotUse_first hreg, Nat.sub_zero]
    refine ⟨by simpa using h1, h2.imp_right fun h => by simp [h]⟩

theorem entered_binOn (s : State) (op : Nat) (c : Cmd) (r : Nat) : (s.entered op c).binOn r = s.binOn r := binOn_congr (State.entered_fr s op c) r

theorem entered_expander (s : State) (op : Nat) (c : Cmd) (n : Nat) : (s.entered op c).expander n = s.expander n := by rw [State.expander, State.entered_cxl, State.expander]

theorem entered_region (s : State) (op : Nat) (c : Cmd) (r : Nat) : (s.entered op c).region r = s.region r := by rw [State.region, State.entered_cxl, State.region]

theorem entered_firstRegion (c : Cmd) (s : State) (op : Nat) : firstRegion c (s.entered op c) = firstRegion c s := by simp only [firstRegion, entered_expander]

theorem cxlRegionCreate_creates {c : Cmd} {s : State} (ha : s.accepts true 0x0610 c) (ho : c.operands 16 0xFF00FC00) (hop : RegionOperands c)
    (hst : s.getP P.CXL_REGION_STATE (c.f 0 8) = 0) (hready : ∀ n ∈ regionSlots c, s.getP P.CXL_EXP_STATE n = 2) (hreg : s.cxl.regions = []) (hbin : s.binOn (c.f 0 8) = none)
    (hfit : membersFit c s) (hroom : c.f 16 8 * c.f 32 32 * 0x40000000 ≤ 0x200000000000)
    (htotal : c.f 8 1 = 1 → s.getP P.CXL_PERSIST_TOTAL 0 + c.f 16 8 * c.f 32 32 * 0x40000000 ≤ 0x100000000000) :
    ∃ t, exec (.cxlRegionCreate c) s = .next t ∧ Answered 0x0610 c 0 8 0x200000000000 t ∧ t.getP P.CXL_REGION_STATE (c.f 0 8) = 1
      ∧ t.getP P.CXL_REGION_BASE (c.f 0 8) = 0x200000000000 ∧ t.getP P.CXL_REGION_SIZE (c.f 0 8) = c.f 16 8 * c.f 32 32 * 0x40000000
      ∧ t.region (c.f 0 8) = firstRegion c s
      ∧ (∀ n, t.expander n = if n ∈ regionSlots c then { s.expander n with
          foreign := false, labels := if (s.expander n).lsa then (s.expander n).labels ++ [c.f 0 8] else (s.expander n).labels } else s.expander n)
      ∧ SameParams (pkey P.CXL_REGION_STATE (c.f 0 8) :: regionKeys) s t ∧ SMap.get (fun _ => 0) t.hk.verifyStart (c.f 0 8) = s.now
      ∧ CommandEvents c { s with params := t.params, cxl := { s.cxl with exps := t.cxl.exps, regions := t.cxl.regions }, hk := { s.hk with verifyStart := t.hk.verifyStart } } t := by
  have hbody := cxlRegionCreateBody_first (k := { c := c, tk := s.newTicket, priv := s.privOf c }) (s := s.entered 0x0610 c) hop (by rwa [State.entered_getP])
    (fun n hn => by rw [State.entered_getP]; exact hready n hn) (by rwa [State.entered_cxl]) (fun n hn => by rw [entered_expander]; exact hfit n hn) hroom
    (by rw [State.entered_getP]; exact htotal)
  rw [entered_firstRegion] at hbody
  obtain ⟨u, hu, h1, h2, h3, h4, h5, h6, h7, h8⟩ := regionMade_online (r := c.f 0 8) (g := firstRegion c s) hop.nodup.1 hop.region (s := s.entered 0x0610 c) (by rwa [entered_binOn])
  dsimp only at hbody
  rw [hu] at hbody
  have hrun : RunsEvents s 0x0610 c { s with
      params := u.params, cxl := { s.cxl with exps := u.cxl.exps, regions := u.cxl.regions }, hk := { s.hk with verifyStart := u.hk.verifyStart } } u :=
    ⟨_, runs_of_comm (fun z => { z with
      params := u.params, cxl := { z.cxl with exps := u.cxl.exps, regions := u.cxl.regions }, hk := { z.hk with verifyStart := u.hk.verifyStart } })
      (fun _ _ _ _ => rfl) rfl rfl rfl rfl, h8⟩
  obtain ⟨t, hx, hans, hcmd, ht⟩ := RunsEvents.completes (i := .cxlRegionCreate c) (spec := cxlRegionCreateSpec) (body := cxlRegionCreateBody) ha.1.1 ha
    (by simp [cxlRegionCreateSpec, ho.1]) (by rw [ho.1]; exact ho.2) (fun _ => rfl) hbody (by decide) hrun rfl
  have hpar : t.params = u.params := by rw [ht, State.finalReply_params]
  have hcxl : t.cxl = u.cxl := by rw [ht, State.finalReply_cxl]
  have hhk : t.hk = u.hk := by rw [ht, State.finalReply_hk]
  have hget (i e : Nat) : t.getP i e = u.getP i e := congrArg (SMap.get pdef · (pkey i e)) hpar
  have hsize : Region.size (firstRegion c s) = c.f 16 8 * c.f 32 32 * 0x40000000 := by rw [Region.size]; simp only [firstRegion]; rw [hop.nodup.2]
  refine ⟨t, hx, hans, (hget _ _).trans h1, (hget _ _).trans h2, ((hget _ _).trans h3).trans hsize, ?_, fun n => ?_, fun k hk => ?_, ?_, ?_⟩
  · rw [State.region, hcxl]
    exact (h5 _).trans (if_pos rfl)
  · rw [State.expander, hcxl, ← entered_expander s 0x0610 c n]
    exact h6 n
  · rw [hpar]
    exact (h4 k hk).trans (by rw [State.entered_params])
  · rw [hhk]
    exact h7.trans (State.entered_now _ _ _)
  · rw [hpar, hcxl, hhk]
    exact hcmd

/-! ### CXL_REGION_DELETE and CXL_REGION_ACCEPT (R294, R298, R441) -/

section
variable {c : Cmd} {s : State} (ho : c.operands 1 0)
include ho

theorem cxlRegionDelete_answers (ha : s.accepts true 0x0611 c) {code : Nat} (hc : code < 256)
    (hbody : cxlRegionDeleteBody { c := c, tk := s.newTicket, priv := s.privOf c } (s.entered 0x0611 c) = (s.entered 0x0611 c, .err code)) :
    ∃ t, exec (.cxlRegionDelete c) s = .next t ∧ Answered 0x0611 c code 0 0 t ∧ CommandOnly c s t :=
  completes_reading (i := .cxlRegionDelete c) (spec := cxlRegionDeleteSpec) (body := cxlRegionDeleteBody) ha.1.1 ha (by simp [cxlRegionDeleteSpec, ho.1])
    (by rw [ho.1]; exact ho.2) (fun _ => rfl) hc hbody

theorem cxlRegionAccept_answers (ha : s.accepts true 0x0612 c) {code : Nat} (hc : code < 256)
    (hbody : cxlRegionAcceptBody { c := c, tk := s.newTicket, priv := s.privOf c } (s.entered 0x0612 c) = (s.entered 0x0612 c, .err code)) :
    ∃ t, exec (.cxlRegionAccept c) s = .next t ∧ Answered 0x0612 c code 0 0 t ∧ CommandOnly c s t :=
  completes_reading (i := .cxlRegionAccept c) (spec := cxlRegionAcceptSpec) (body := cxlRegionAcceptBody) ha.1.1 ha (by simp [cxlRegionAcceptSpec, ho.1])
    (by rw [ho.1]; exact ho.2) (fun _ => rfl) hc hbody

end

/-- The body of CXL_REGION_DELETE. -/
theorem cxlRegionDeleteBody_eq (k : Call) (s : State) : cxlRegionDeleteBody k s =
    if 32 ≤ k.c.f 0 8 then (s, .err cBAD_PARAM)
    else if s.getP P.CXL_REGION_STATE (k.c.f 0 8) = 0 then (s, .err cNOT_PERMITTED)
    else if s.getP P.CXL_REGION_STATE (k.c.f 0 8) = 3 ∨ (s.binOn (k.c.f 0 8)).isSome then (s, .err cBUSY)
    else
      let g := s.region (k.c.f 0 8)
      let s1 := s.setRegionState (k.c.f 0 8) 0 7
      let s2 := if s.getP P.CXL_REGION_STATE (k.c.f 0 8) = 4 then g.slots.foldl (fun t n => t.modExpander n fun x => { x with foreign := x.lsa }) s1
                else g.slots.foldl (fun t n => t.modExpander n fun x => { x with labels := x.labels.filter (· != k.c.f 0 8) }) s1
      ((s2.modRegion (k.c.f 0 8) fun _ => {}).regionReport, .ok) := rfl

/-- Region `r` of state `g` is gone and its members' labels with it. -/
def State.regionGone (r : Nat) (s : State) : State :=
  ((((s.region r).slots.foldl (fun t n => t.modExpander n fun x => { x with labels := x.labels.filter (· != r) }) (s.setRegionState r 0 7)).modRegion r fun _ => {})).regionReport

theorem regionGone_effect {r : Nat} (hr : r < 32) {s : State} (hbin : s.binOn r = none) : (s.regionGone r).getP P.CXL_REGION_STATE r = 0
    ∧ SameParams (pkey P.CXL_REGION_STATE r :: regionKeys) s (s.regionGone r) ∧ (∀ k, (s.regionGone r).region k = if k = r then {} else s.region k)
    ∧ (∀ n, (s.regionGone r).expander n = if n ∈ (s.region r).slots then { s.expander n with labels := (s.expander n).labels.filter (· != r) } else s.expander n)
    ∧ EventsOnly { s with params := (s.regionGone r).params, cxl := { s.cxl with regions := (s.regionGone r).cxl.regions, exps := (s.regionGone r).cxl.exps } } (s.regionGone r) := by
  obtain ⟨hev, h0⟩ := setRegionState_effect hbin 0 7
  unfold State.regionGone
  generalize s.setRegionState r 0 7 = u at hev h0
  obtain ⟨p, w, v, y, a, hu⟩ := hev.frame
  have hcxl : u.cxl = s.cxl := by rw [hu]
  have hexp (n : Nat) : ((s.region r).slots.foldl (fun t n => t.modExpander n fun x => { x with labels := x.labels.filter (· != r) }) u).expander n
      = if n ∈ (s.region r).slots then { s.expander n with labels := (s.expander n).labels.filter (· != r) } else s.expander n := by
    rw [expander_foldl (.inr fun x => by simp), State.expander, hcxl]
    rfl
  obtain ⟨e, hfold⟩ : ∃ e, (s.region r).slots.foldl (fun t n => t.modExpander n fun x => { x with labels := x.labels.filter (· != r) }) u
      = { u with cxl := { u.cxl with exps := e } } := ⟨_, foldl_modExpander _ _ _⟩
  generalize (s.region r).slots.foldl (fun t n => t.modExpander n fun x => { x with labels := x.labels.filter (· != r) }) u = z at hexp hfold
  obtain ⟨m, hm, hget⟩ : ∃ m, z.modRegion r (fun _ => {}) = { z with cxl := { z.cxl with regions := m } } ∧ ∀ k, SMap.get regionDef m k = if k = r then {} else z.region k :=
    ⟨_, rfl, fun _ => SMap.get_set regionDef _ _ _ _⟩
  obtain ⟨hrep, hsame⟩ := regionReport_paramsOnly (z.modRegion r fun _ => {})
  generalize (z.modRegion r fun _ => {}).regionReport = x at hrep hsame
  rw [hm] at hrep hsame
  have hzp : z.params = u.params := by rw [hfold]
  have hxcxl : x.cxl = { s.cxl with exps := e, regions := m } := by rw [hrep, hfold, hu]
  have hreg (k : Nat) : z.region k = s.region k := by rw [State.region, hfold, hu]; rfl
  have hexps : z.cxl.exps = e := by rw [hfold]
  refine ⟨?_, ?_, fun k => ?_, fun n => ?_, ?_⟩
  · rw [hsame.getP (regionState_not_regionKeys hr)]
    exact (congrArg (SMap.get pdef · (pkey P.CXL_REGION_STATE r)) hzp).trans h0
  · intro k hk
    rw [List.mem_cons, not_or] at hk
    exact ((hsame k hk.2).trans (congrArg (SMap.get pdef · k) hzp)).trans (hev.2 k (by simpa using hk.1))
  · rw [State.region, hxcxl]
    exact (hget k).trans (by rw [hreg])
  · rw [State.expander, hxcxl]
    refine Eq.trans ?_ (hexp n)
    rw [State.expander, hexps]
  · rw [hxcxl]
    have hframe : x = { u with params := x.params, cxl := { s.cxl with exps := e, regions := m } } := by
      conv_lhs => rw [hrep, hfold]
      rw [hcxl]
    have hlift := hev.1.lift (fun z => { z with params := x.params, cxl := { s.cxl with exps := e, regions := m } }) (fun _ _ _ _ _ => rfl) fun _ => rfl
    rw [← hframe] at hlift
    exact hlift

theorem aipexDown_congr {s t : State} (h : t.ctl = s.ctl) : t.aipexDown = s.aipexDown := by rw [State.aipexDown, h, State.aipexDown]

theorem cxlRegionDelete_deletes {c : Cmd} {s : State} (ha : s.accepts true 0x0611 c) (ho : c.operands 1 0) (hr : c.f 0 8 < 32)
    (hst : s.getP P.CXL_REGION_STATE (c.f 0 8) = 1 ∨ s.getP P.CXL_REGION_STATE (c.f 0 8) = 2) (hbin : s.binOn (c.f 0 8) = none) :
    ∃ t, exec (.cxlRegionDelete c) s = .next t ∧ Answered 0x0611 c 0 0 0 t
      ∧ t.getP P.CXL_REGION_STATE (c.f 0 8) = 0 ∧ t.region (c.f 0 8) = {} ∧ (∀ k, k ≠ c.f 0 8 → t.region k = s.region k)
      ∧ (∀ n, t.expander n = if n ∈ (s.region (c.f 0 8)).slots then { s.expander n with labels := (s.expander n).labels.filter (· != c.f 0 8) } else s.expander n)
      ∧ SameParams (pkey P.CXL_REGION_STATE (c.f 0 8) :: regionKeys) s t
      ∧ CommandEvents c { s with params := t.params, cxl := { s.cxl with regions := t.cxl.regions, exps := t.cxl.exps } } t := by
  have hbin' : (s.entered 0x0611 c).binOn (c.f 0 8) = none := by rwa [entered_binOn]
  have hbody : cxlRegionDeleteBody { c := c, tk := s.newTicket, priv := s.privOf c } (s.entered 0x0611 c) = ((s.entered 0x0611 c).regionGone (c.f 0 8), .ok) := by
    rw [cxlRegionDeleteBody_eq]
    dsimp only
    rw [if_neg (Nat.not_le.2 hr), State.entered_getP, if_neg (by omega), hbin', if_neg (by simp only [Option.isSome_none, Bool.false_eq_true, or_false]; omega),
      if_neg (by omega), State.regionGone]
  obtain ⟨h1, h2, h3, h4, h5⟩ := regionGone_effect hr hbin'
  generalize (s.entered 0x0611 c).regionGone (c.f 0 8) = u at hbody h1 h2 h3 h4 h5
  have hrun : RunsEvents s 0x0611 c { s with params := u.params, cxl := { s.cxl with regions := u.cxl.regions, exps := u.cxl.exps } } u :=
    ⟨_, runs_of_comm (fun z => { z with params := u.params, cxl := { z.cxl with regions := u.cxl.regions, exps := u.cxl.exps } }) (fun _ _ _ _ => rfl) rfl rfl rfl (aipexDown_congr rfl), h5⟩
  obtain ⟨t, hx, hans, hcmd, ht⟩ := RunsEvents.completes (i := .cxlRegionDelete c) (spec := cxlRegionDeleteSpec) (body := cxlRegionDeleteBody) ha.1.1 ha
    (by simp [cxlRegionDeleteSpec, ho.1]) (by rw [ho.1]; exact ho.2) (fun _ => rfl) hbody (by decide) hrun rfl
  have hpar : t.params = u.params := by rw [ht, State.finalReply_params]
  have hcxl : t.cxl = u.cxl := by rw [ht, State.finalReply_cxl]
  have hreg (k : Nat) : t.region k = if k = c.f 0 8 then {} else s.region k := by
    rw [State.region, hcxl, ← entered_region s 0x0611 c k]
    exact h3 k
  refine ⟨t, hx, hans, (congrArg (SMap.get pdef · (pkey P.CXL_REGION_STATE (c.f 0 8))) hpar).trans h1, (hreg _).trans (if_pos rfl), fun k hk => (hreg k).trans (if_neg hk),
    fun n => ?_, fun k hk => ?_, ?_⟩
  · rw [State.expander, hcxl, ← entered_expander s 0x0611 c n, ← entered_region s 0x0611 c]
    exact h4 n
  · rw [hpar]
    exact (h2 k hk).trans (by rw [State.entered_params])
  · rw [hpar, hcxl]
    exact hcmd

theorem cxlRegionAcceptBody_eq (k : Call) (s : State) : cxlRegionAcceptBody k s =
    if 32 ≤ k.c.f 0 8 then (s, .err cBAD_PARAM)
    else if s.getP P.CXL_REGION_STATE (k.c.f 0 8) ≠ 2 then (s, .err cNOT_PERMITTED)
    else ((s.modRegion (k.c.f 0 8) fun x => { x with verifying := false }).setRegionState (k.c.f 0 8) 1 5, .ok) := rfl

theorem cxlRegionAccept_accepts {c : Cmd} {s : State} (ha : s.accepts true 0x0612 c) (ho : c.operands 1 0) (hr : c.f 0 8 < 32)
    (hst : s.getP P.CXL_REGION_STATE (c.f 0 8) = 2) (hbin : s.binOn (c.f 0 8) = none) : ∃ t, exec (.cxlRegionAccept c) s = .next t ∧ Answered 0x0612 c 0 0 0 t
      ∧ t.getP P.CXL_REGION_STATE (c.f 0 8) = 1 ∧ t.region (c.f 0 8) = { s.region (c.f 0 8) with verifying := false } ∧ (∀ k, k ≠ c.f 0 8 → t.region k = s.region k)
      ∧ SameParams [pkey P.CXL_REGION_STATE (c.f 0 8)] s t ∧ CommandEvents c { s with params := t.params, cxl := { s.cxl with regions := t.cxl.regions } } t := by
  have hbody : cxlRegionAcceptBody { c := c, tk := s.newTicket, priv := s.privOf c } (s.entered 0x0612 c)
      = (((s.entered 0x0612 c).modRegion (c.f 0 8) fun x => { x with verifying := false }).setRegionState (c.f 0 8) 1 5, .ok) := by
    rw [cxlRegionAcceptBody_eq]
    dsimp only
    rw [if_neg (Nat.not_le.2 hr), if_neg (by rw [State.entered_getP, hst]; simp)]
  obtain ⟨m, hm, hget⟩ : ∃ m, (s.entered 0x0612 c).modRegion (c.f 0 8) (fun x => { x with verifying := false })
      = { s.entered 0x0612 c with cxl := { (s.entered 0x0612 c).cxl with regions := m } }
      ∧ ∀ k, SMap.get regionDef m k = if k = c.f 0 8 then { s.region (c.f 0 8) with verifying := false } else s.region k :=
    ⟨_, rfl, fun k => (SMap.get_set regionDef _ _ _ _).trans (by rw [← entered_region s 0x0612 c, ← entered_region s 0x0612 c k]; rfl)⟩
  rw [hm] at hbody
  obtain ⟨hev, h1⟩ := setRegionState_effect (r := c.f 0 8) (s := { s.entered 0x0612 c with cxl := { (s.entered 0x0612 c).cxl with regions := m } })
    ((entered_binOn s 0x0612 c _).trans hbin) 1 5
  generalize State.setRegionState (c.f 0 8) 1 5 { s.entered 0x0612 c with cxl := { (s.entered 0x0612 c).cxl with regions := m } } = u at hbody hev h1
  have hrun : RunsEvents s 0x0612 c { s with params := u.params, cxl := { s.cxl with regions := m } } u :=
    ⟨_, runs_of_comm (fun z => { z with params := u.params, cxl := { z.cxl with regions := m } }) (fun _ _ _ _ => rfl) rfl rfl rfl rfl, hev.1⟩
  obtain ⟨t, hx, hans, hcmd, ht⟩ := RunsEvents.completes (i := .cxlRegionAccept c) (spec := cxlRegionAcceptSpec) (body := cxlRegionAcceptBody) ha.1.1 ha
    (by simp [cxlRegionAcceptSpec, ho.1]) (by rw [ho.1]; exact ho.2) (fun _ => rfl) hbody (by decide) hrun rfl
  have hpar : t.params = u.params := by rw [ht, State.finalReply_params]
  have hregs : t.cxl.regions = m := by
    obtain ⟨p, w, v, y, a, hu⟩ := hev.frame
    rw [ht, State.finalReply_cxl, hu]
  refine ⟨t, hx, hans, (congrArg (SMap.get pdef · (pkey P.CXL_REGION_STATE (c.f 0 8))) hpar).trans h1, ?_, fun k hk => ?_, fun k hk => ?_, ?_⟩
  · rw [State.region, hregs]
    exact (hget _).trans (if_pos rfl)
  · rw [State.region, hregs]
    exact (hget k).trans (if_neg hk)
  · rw [hpar]
    exact (hev.2 k hk).trans (by rw [State.entered_params])
  · rw [hpar, hregs]
    exact hcmd

end Sys2Proof.Machine

open Sys2Proof Sys2Proof.Machine in
/-- Settles O40: an expander enters and leaves by one change of its slot's state, a region by one change of its own, beside parameters and event records. -/
theorem expandersAndRegionsComeAndGo : Obligations.ExpandersAndRegionsComeAndGo := by
  unfold Obligations.ExpandersAndRegionsComeAndGo
  refine ⟨fun e n s hp hfull hslot hn hst => ?_, fun e s hp h => expanderPresent_refused hp h, fun n s hn => ?_, fun n r s hn hr hst hreg hrs hbin =>
    expanderSurpriseRemove_region hn hr hst hreg hrs hbin, fun n l s hn h => cxlEventPoll_idle hn h, fun n a m s hn hst hbg hreg => cxlEventPoll_logs hn hst hbg hreg,
    fun r o p s hr h => cxlVerify_idle hr h, fun r o s hr hbg hp h1 h3 ho => cxlVerify_moves hr hbg hp h1 h3 ho, fun r s hr => ?_, ?_, fun c s ha ho h => ?_, fun c r s ho hr => ?_⟩
  · obtain ⟨t, hx, h1, h2, h3, h4, h5, h6, h7, h8, h9, h10⟩ := expanderPresent_enters hp hfull hslot hn hst
    refine ⟨t, hx, h1, h2, h3, h4, h5.trans (by simp only [State.keptPoison, Bool.and_eq_true, beq_iff_eq]), h6, h7, ?_, ?_, ?_, ?_, h9, h10⟩ <;> rw [h8] <;> rfl
  · exact ⟨fun h => exec_next (enumerationDone_exec n s) (decide_eq_true hn) (if_pos h) rfl, enumerationDone_done hn,
      fun h => exec_next (expanderSurpriseRemove_exec n s) (decide_eq_true hn) (if_pos h) rfl, fun h1 h2 h3 _ => expanderSurpriseRemove_alone hn h1 h2 h3⟩
  · exact ⟨fun h => exec_next (regionVerifyDone_exec r s) (decide_eq_true hr) (if_pos (by simp [h])) rfl, regionVerifyDone_done hr⟩
  · rintro c r w l s ha ho rfl rfl rfl hr hw hg hl hd hrest
    have hop : RegionOperands c := ⟨hr, hw, hg, hl, hd, hrest⟩
    exact ⟨cxlRegionCreate_busy ha ho hop, cxlRegionCreate_absent ha ho hop, fun hst hready hreg hbin hfit hroom htotal =>
      cxlRegionCreate_creates ha ho hop hst hready hreg hbin hfit hroom htotal⟩
  · refine cxlRegionCreate_badParam ha ho ?_
    rcases h with h | h | h
    · exact .inl h
    · exact .inr (.inr (.inl h))
    · exact .inr (.inl (by simpa using h))
  · subst hr
    refine ⟨fun h => ⟨fun ha => cxlRegionDelete_answers ho ha (by decide) (by rw [cxlRegionDeleteBody_eq, if_pos h]), fun ha => cxlRegionAccept_answers ho ha (by decide)
      (by rw [cxlRegionAcceptBody_eq, if_pos h])⟩, fun h ha => ⟨fun h0 => ?_, fun h0 hb => ?_, cxlRegionDelete_deletes ha ho h⟩, fun h ha => ⟨fun h2 => ?_, cxlRegionAccept_accepts ha ho h⟩⟩
    · exact cxlRegionDelete_answers ho ha (by decide) (by rw [cxlRegionDeleteBody_eq, if_neg (Nat.not_le.2 h), if_pos (by rwa [State.entered_getP])])
    · refine cxlRegionDelete_answers ho ha (by decide) ?_
      rw [cxlRegionDeleteBody_eq, if_neg (Nat.not_le.2 h), if_neg (by rwa [State.entered_getP]), if_pos]
      rw [State.entered_getP, entered_binOn]
      exact hb.imp_right fun hb => Option.isSome_iff_ne_none.2 hb
    · exact cxlRegionAccept_answers ho ha (by decide) (by rw [cxlRegionAcceptBody_eq, if_neg (Nat.not_le.2 h), if_pos (by rwa [State.entered_getP])])
end

section
/-! Global Persistent Flush and the removal of an expander (O41; 09_memory.md, 15_power_service.md). -/

namespace Sys2Proof.Machine

/-! ### A final reply after event records -/

/-- A command in progress is answered in a state that differs by event records. -/
theorem EventsOnly.replied {e v : State} {tk : Nat} {f : Flight} (h : EventsOnly e v) (hf : v.awaits tk f) (code len r : Nat) :
    RepliedEvents f e (v.finalReply tk code len r) := by
  obtain ⟨hr, hother, -⟩ := finalReply_replied hf code len r
  refine ⟨?_, fun n hn => ?_, ?_⟩
  · obtain ⟨w, x, m, a, hv, -⟩ := h.rings
    rw [hr, hv]
  · rw [hother n hn]
    exact h.2 n
  · rw [State.finalReply_win_same v hf.2 hf.1]
    exact Window.sameButSlotAndRing_reply ⟨e.win f.cmd.win, ⟨rfl, fun _ _ => ⟨rfl, rfl, rfl, rfl⟩⟩, h.2 f.cmd.win⟩ _

theorem awaits_congr {s t : State} {tk : Nat} {f : Flight} (h : s.awaits tk f) (hf : t.ctl.flights = s.ctl.flights) (hd : t.aipexDown = s.aipexDown) : t.awaits tk f :=
  ⟨(State.flight?_congr hf tk).trans h.1, hd.trans h.2⟩

theorem EventsOnly.awaits {s t : State} {tk : Nat} {f : Flight} (h : EventsOnly s t) (hf : s.awaits tk f) : t.awaits tk f := awaits_congr hf h.flights h.aipexDown

/-! ### GPF_START, GPF_PHASE1_DONE and CXL_PERSIST_FLUSH (R297) -/

theorem gpfStart_exec (g : Nat) (s : State) : exec (.gpfStart g) s = guarded (.gpfStart g) s
    (if s.cxl.gpf.isSome ∨ !s.flushWanted g then s
    else State.emit (.cxl 1 g (if g = 3 then (s.removalFlush.map fun n => [n]).getD [] else s.flushSlots)) { s with cxl := { s.cxl with
      gpf := some { trigger := g, start := s.now, slots := if g = 3 then (s.removalFlush.map fun n => [n]).getD [] else s.flushSlots } } }) := rfl

theorem gpfStart_starts {g : Nat} {s : State} (hg : g ≠ 3) (hnone : s.cxl.gpf = none) (hw : s.flushWanted g = true) : exec (.gpfStart g) s = .next { s with
    sent := .cxl 1 g s.flushSlots :: s.sent, cxl := { s.cxl with gpf := some { trigger := g, start := s.now, slots := s.flushSlots } } } := by
  have hx := gpfStart_exec g s
  rw [if_neg (by simp [hnone, hw]), if_neg hg] at hx
  exact exec_next hx rfl rfl rfl

theorem gpfStart_idle {g : Nat} {s : State} (h : s.cxl.gpf ≠ none ∨ s.flushWanted g = false) : exec (.gpfStart g) s = .next s := by
  refine exec_next (gpfStart_exec g s) rfl (if_pos ?_) rfl
  rcases h with h | h
  · exact .inl (Option.isSome_iff_ne_none.2 h)
  · exact .inr (by rw [h]; rfl)

theorem gpfPhase1Done_exec (t : Nat) (s : State) : exec (.gpfPhase1Done t) s = guarded (.gpfPhase1Done t) s
    (match s.cxl.gpf with
    | some g => if g.phase2 then s else
        State.emit (.cxl 2 g.trigger g.slots) { s.atLeast (min t (g.start + 1000000)) with
          cxl := { s.cxl with gpf := some { g with phase2 := true, flushAt := (s.atLeast (min t (g.start + 1000000))).now } } }
    | none => s) := rfl

theorem gpfPhase1Done_phase2 {t : Nat} {g : Gpf} {s : State} (h : s.cxl.gpf = some g) (h2 : g.phase2 = false) : exec (.gpfPhase1Done t) s = .next { s with
    now := max s.now (min t (g.start + 1000000)), sent := .cxl 2 g.trigger g.slots :: s.sent
    cxl := { s.cxl with gpf := some { g with phase2 := true, flushAt := max s.now (min t (g.start + 1000000)) } } } := by
  have hx := gpfPhase1Done_exec t s
  simp only [h, h2, Bool.false_eq_true, if_false] at hx
  exact exec_next hx rfl rfl rfl

theorem cxlPersistFlush_waits {c : Cmd} {s : State} (ha : s.accepts true 0x0614 c) (ho : c.operands 0 0) : ∃ t, exec (.cxlPersistFlush c) s = .next t
    ∧ Waits 0x0614 c { s with cxl := { s.cxl with flushers := s.cxl.flushers ++ [s.newTicket] } } t :=
  Runs.waits (i := .cxlPersistFlush c) (spec := cxlPersistFlushSpec) (body := cxlPersistFlushBody) ha.1.1 ha (by simp [cxlPersistFlushSpec, ho.1])
    (by rw [ho.1]; exact ho.2) (fun _ => rfl) rfl
    (runs_of_comm (fun z => { z with cxl := { z.cxl with flushers := z.cxl.flushers ++ [s.newTicket] } }) (fun _ _ _ _ => rfl) rfl rfl rfl rfl) rfl rfl

/-! ### GPF_DONE (R297) -/

/-- Every expander of flush `g` has come to its end in time, at tick `t`. -/
def State.flushedInTime (g : Gpf) (t : Nat) (s : State) : State :=
  g.slots.foldl (fun u n => u.modExpander n fun x => { x with recorded := x.dirty }) (s.atLeast (min t (g.flushAt + 8000000)))

/-- The flush has ended in time, and its event is posted. -/
def State.flushOver (g : Gpf) (t : Nat) (s : State) : State :=
  let u := ((s.flushedInTime g t).binsFlushed g.slots []).post 0x6C 0x9 0 (g.trigger + at' 32 (((s.atLeast (min t (g.flushAt + 8000000))).now - g.start) / 1000) + at' 64 0)
  { u with cxl := { u.cxl with gpf := none } }

/-- A flush of a removal lets it go on, and its QUIESCING regions go OFFLINE. -/
def State.removalFlushed (n : Nat) (s : State) : State :=
  let v := match SMap.get (fun _ => none) s.cxl.removals n with
    | some m => { s with cxl := { s.cxl with removals := SMap.set (fun _ => none) s.cxl.removals n (some { m with step := 5 }) } }
    | none => s
  (v.regionsOf n).foldl (fun w r => if w.getP P.CXL_REGION_STATE r = 3 then w.setRegionState r 4 6 else w) v

theorem endFlush_inTime {g : Gpf} {t : Nat} {s : State} (h : s.cxl.gpf = some g) : s.endFlush [] t =
    if g.trigger = 2 then
      (s.flushOver g t).cxl.flushers.foldl
        (fun u tk => u.finalReply tk cOK 4 (wrap32 (((s.atLeast (min t (g.flushAt + 8000000))).now - g.start) / 1000)))
        { s.flushOver g t with cxl := { (s.flushOver g t).cxl with flushers := [] } }
    else if g.trigger = 3 then g.slots.foldl (fun u n => u.removalFlushed n) (s.flushOver g t)
    else s.flushOver g t := by
  have hlate : (g.slots.filter fun n => ([] : List Nat).contains n) = [] := List.filter_eq_nil_iff.2 fun _ _ => by simp
  have hall : (g.slots.filter fun n => !([] : List Nat).contains n) = g.slots := List.filter_eq_self.2 fun _ _ => rfl
  unfold State.endFlush State.flushOver State.flushedInTime
  rw [h]
  dsimp only
  rw [hlate, hall]
  rfl

theorem gpfDone_exec (late : List Nat) (t : Nat) (s : State) : exec (.gpfDone late t) s = guarded (.gpfDone late t) s
    (match s.cxl.gpf with
    | none => s
    | some g =>
      if g.trigger = 0 then (s.endFlush late t).stopNow ((s.endFlush late t).pw.stop.getD 0)
      else if g.trigger = 1 ∧ (s.endFlush late t).pw.step = .flushing then
        State.settleLanes allLanes { s.endFlush late t with pw := { (s.endFlush late t).pw with step := .sleeping } }
      else s.endFlush late t) := rfl

theorem gpfDone_none {late : List Nat} {t : Nat} {s : State} (h : s.cxl.gpf = none) : exec (.gpfDone late t) s = .next s :=
  exec_next (gpfDone_exec late t s) rfl (by rw [h]) rfl

theorem flushOver_effect {g : Gpf} {s : State} (t : Nat) (hbins : s.fr.bins = []) : ∃ e,
    EventsOnly { s with now := max s.now (min t (g.flushAt + 8000000)), cxl := { s.cxl with gpf := none, exps := e } } (s.flushOver g t)
      ∧ ∀ n, SMap.get expDef e n = if n ∈ g.slots then { s.expander n with recorded := (s.expander n).dirty } else s.expander n := by
  refine ⟨(s.flushedInTime g t).cxl.exps, ?_, fun n => ?_⟩
  · have hf : s.flushedInTime g t = { s with now := max s.now (min t (g.flushAt + 8000000)), cxl := { s.cxl with exps := (s.flushedInTime g t).cxl.exps } } := by
      unfold State.flushedInTime
      rw [foldl_modExpander]
      rfl
    have hflush : (s.flushedInTime g t).binsFlushed g.slots [] = s.flushedInTime g t := by
      have hl : (s.flushedInTime g t).binList = [] := by rw [State.binList, hf, hbins]; rfl
      rw [State.binsFlushed, hl]
      rfl
    unfold State.flushOver
    rw [hflush]
    generalize s.flushedInTime g t = u at hf
    have hev := eventsOnly_post u 0x6C 0x9 0 (g.trigger + at' 32 (((s.atLeast (min t (g.flushAt + 8000000))).now - g.start) / 1000) + at' 64 0)
    generalize u.post 0x6C 0x9 0 (g.trigger + at' 32 (((s.atLeast (min t (g.flushAt + 8000000))).now - g.start) / 1000) + at' 64 0) = v at hev
    have hl := hev.lift (fun z => { z with cxl := { z.cxl with gpf := none } }) (fun _ _ _ _ _ => rfl) (fun _ => rfl)
    have he : { u with cxl := { u.cxl with gpf := none } }
        = { s with now := max s.now (min t (g.flushAt + 8000000)), cxl := { s.cxl with gpf := none, exps := u.cxl.exps } } := by
      conv_lhs => rw [hf]
    rw [← he]
    exact hl
  · exact expander_foldl (f := fun x => { x with recorded := x.dirty }) (.inr fun _ => rfl) (s.atLeast (min t (g.flushAt + 8000000))) n

theorem gpfDone_answers {t tk us : Nat} {g : Gpf} {f : Flight} {s : State} (hg : s.cxl.gpf = some g) (ht : g.trigger = 2) (hfl : s.cxl.flushers = [tk])
    (hf : s.awaits tk f) (hbins : s.fr.bins = []) (hus : us = (max s.now (min t (g.flushAt + 8000000)) - g.start) / 1000) (hlt : us < 2 ^ 32) :
    ∃ u, exec (.gpfDone [] t) s = .next u ∧ Answered f.opcode f.cmd 0 4 us u ∧ u.cxl.gpf = none ∧ u.cxl.flushers = []
      ∧ (∀ n, u.expander n = if n ∈ g.slots then { s.expander n with recorded := (s.expander n).dirty } else s.expander n)
      ∧ RepliedEvents f { s with now := max s.now (min t (g.flushAt + 8000000)), cxl := { s.cxl with gpf := none, flushers := [], exps := u.cxl.exps } } u := by
  have hx := gpfDone_exec [] t s
  simp only [hg] at hx
  rw [if_neg (by omega), if_neg (by omega), endFlush_inTime hg, if_pos ht] at hx
  obtain ⟨e, hev, hget⟩ := flushOver_effect (g := g) t hbins
  generalize s.flushOver g t = v at hx hev
  have hcxl : v.cxl = { s.cxl with gpf := none, exps := e } := by
    obtain ⟨⟨_, _, _, _, hv⟩, -⟩ := hev
    rw [hv]
  have hlist : v.cxl.flushers = [tk] := by rw [hcxl]; exact hfl
  rw [hlist, List.foldl_cons, List.foldl_nil] at hx
  have hev' := hev.lift (fun z => { z with cxl := { z.cxl with flushers := [] } }) (fun _ _ _ _ _ => rfl) (fun _ => rfl)
  have hw : wrap32 (((s.atLeast (min t (g.flushAt + 8000000))).now - g.start) / 1000) = us := by
    rw [hus] at hlt ⊢
    exact Nat.mod_eq_of_lt hlt
  rw [hw] at hx
  have hcx : ({ v with cxl := { v.cxl with flushers := [] } } : State).cxl = { s.cxl with gpf := none, flushers := [], exps := e } := by
    dsimp only
    rw [hcxl]
  generalize ({ v with cxl := { v.cxl with flushers := [] } } : State) = y at hx hev' hcx
  have hy : y.awaits tk f := hev'.awaits (awaits_congr hf rfl rfl)
  refine ⟨_, exec_next hx rfl rfl ((State.finalReply_pending _ _ _ _ _).trans hev'.pending), finalReply_answered y hy.2 hy.1 (by decide) _ _, ?_, ?_, fun n => ?_, ?_⟩
  · rw [State.finalReply_cxl, hcx]
  · rw [State.finalReply_cxl, hcx]
  · rw [State.expander, State.finalReply_cxl, hcx]
    exact hget n
  · rw [State.finalReply_cxl, hcx]
    exact hev'.replied hy _ _ _

theorem removalFlushed_effect {n r : Nat} {m : Removal} {s : State} (hm : SMap.get (fun _ => none) s.cxl.removals n = some m) (hreg : s.regionsOf n = [r])
    (hst : s.getP P.CXL_REGION_STATE r = 3) (hbin : s.binOn r = none) :
    ParamEvents [pkey P.CXL_REGION_STATE r] { s with cxl := { s.cxl with removals := (s.removalFlushed n).cxl.removals } } (s.removalFlushed n)
      ∧ (s.removalFlushed n).getP P.CXL_REGION_STATE r = 4 ∧ SMap.get (fun _ => none) (s.removalFlushed n).cxl.removals n = some { m with step := 5 } := by
  obtain ⟨v, hv, hset⟩ : ∃ l, s.removalFlushed n = (if ({ s with cxl := { s.cxl with removals := l } } : State).getP P.CXL_REGION_STATE r = 3
        then ({ s with cxl := { s.cxl with removals := l } } : State).setRegionState r 4 6 else { s with cxl := { s.cxl with removals := l } })
      ∧ SMap.get (fun _ => none) l n = some { m with step := 5 } := by
    refine ⟨SMap.set (fun _ => none) s.cxl.removals n (some { m with step := 5 }), ?_, by rw [SMap.get_set, if_pos rfl]⟩
    unfold State.removalFlushed
    rw [hm]
    dsimp only
    change List.foldl _ _ (s.regionsOf n) = _
    rw [hreg]
    rfl
  replace hv := hv.trans (if_pos hst)
  obtain ⟨hev, h1⟩ := setRegionState_effect (r := r) (s := { s with cxl := { s.cxl with removals := v } }) hbin 4 6
  rw [← hv] at hev h1
  have hcxl : (s.removalFlushed n).cxl.removals = v := by
    obtain ⟨_, _, _, _, _, ht⟩ := hev.frame
    rw [ht]
  rw [hcxl]
  exact ⟨hev, h1, hset⟩

theorem gpfDone_removal {t n r : Nat} {g : Gpf} {m : Removal} {s : State} (hg : s.cxl.gpf = some g) (ht : g.trigger = 3) (hs : g.slots = [n]) (hbins : s.fr.bins = [])
    (hm : SMap.get (fun _ => none) s.cxl.removals n = some m) (hreg : s.regionsOf n = [r]) (hst : s.getP P.CXL_REGION_STATE r = 3) :
    ∃ u, exec (.gpfDone [] t) s = .next u
      ∧ SMap.get (fun _ => none) u.cxl.removals n = some { m with step := 5 } ∧ u.getP P.CXL_REGION_STATE r = 4 ∧ SameParams [pkey P.CXL_REGION_STATE r] s u
      ∧ u.cxl.gpf = none ∧ EventsOnly { s with
          now := max s.now (min t (g.flushAt + 8000000)), params := u.params, cxl := { s.cxl with gpf := none, exps := u.cxl.exps, removals := u.cxl.removals } } u := by
  have hx := gpfDone_exec [] t s
  simp only [hg] at hx
  rw [if_neg (by omega), if_neg (by omega), endFlush_inTime hg, if_neg (by omega), if_pos ht, hs, List.foldl_cons, List.foldl_nil] at hx
  obtain ⟨e, hev, -⟩ := flushOver_effect (g := g) t hbins
  generalize s.flushOver g t = v at hx hev
  have hv : v.cxl = { s.cxl with gpf := none, exps := e } ∧ v.params = s.params ∧ v.fr = s.fr := by
    obtain ⟨⟨_, _, _, _, hv⟩, -⟩ := hev
    rw [hv]
    exact ⟨rfl, rfl, rfl⟩
  obtain ⟨hcxl, hpar, hfr⟩ := hv
  obtain ⟨hflushed, h4, h5⟩ := removalFlushed_effect (n := n) (r := r) (m := m) (s := v) (by rw [hcxl]; exact hm)
    ((regionsOf_congr (s := s) (by rw [hcxl]) n).trans hreg) ((congrArg (SMap.get pdef · (pkey P.CXL_REGION_STATE r)) hpar).trans hst)
    ((binOn_congr hfr r).trans (by simp [State.binOn, State.binList, hbins]))
  generalize v.removalFlushed n = u at hx hflushed h4 h5
  have hu : u.cxl = { s.cxl with gpf := none, exps := e, removals := u.cxl.removals } := by
    obtain ⟨_, _, _, _, _, hu⟩ := hflushed.frame
    have h : u.cxl = { v.cxl with removals := u.cxl.removals } := congrArg State.cxl hu
    rw [hcxl] at h
    exact h
  have hl := hev.lift (fun z => { z with params := u.params, cxl := { z.cxl with removals := u.cxl.removals } }) (fun _ _ _ _ _ => rfl) (fun _ => rfl)
  refine ⟨u, exec_next hx rfl rfl ?_, h5, h4, fun k hk => (hflushed.2 k hk).trans (by rw [hpar]), by rw [hu], ?_⟩
  · exact hflushed.1.pending.trans hev.pending
  · have he : u.cxl.exps = e := by rw [hu]
    rw [he]
    exact hl.trans hflushed.1

/-! ### The removal of an expander (R301) -/

theorem startRemoval_effect {n pol : Nat} {tk : Option Nat} {s : State} (hreg : s.regionsOf n = []) : ∃ l,
    ParamEvents [pkey P.CXL_EXP_STATE n] { s with cxl := { s.cxl with removals := l } } (s.startRemoval n pol tk) ∧ (s.startRemoval n pol tk).getP P.CXL_EXP_STATE n = 3
      ∧ (s.startRemoval n pol tk).cxl.removals = l
      ∧ ∀ m, SMap.get (fun _ => none) l m = if m = n then some { policy := pol, ticket := tk } else SMap.get (fun _ => none) s.cxl.removals m := by
  obtain ⟨l, hl, hget⟩ : ∃ l, SMap.set (fun _ => none) s.cxl.removals n (some { policy := pol, ticket := tk }) = l
      ∧ ∀ m, SMap.get (fun _ => none) l m = if m = n then some { policy := pol, ticket := tk } else SMap.get (fun _ => none) s.cxl.removals m :=
    ⟨_, rfl, fun m => SMap.get_set _ _ _ _ _⟩
  obtain ⟨hev, h3⟩ := setExpState_effect n 3 1 { s with cxl := { s.cxl with removals := l } }
  have hs : s.startRemoval n pol tk = ({ s with cxl := { s.cxl with removals := l } } : State).setExpState n 3 1 := by
    unfold State.startRemoval
    dsimp only
    rw [hl]
    generalize ({ s with cxl := { s.cxl with removals := l } } : State).setExpState n 3 1 = v at hev
    obtain ⟨_, _, _, _, _, hv⟩ := hev.frame
    have hnil : v.regionsOf n = [] := (regionsOf_congr (s := s) (by rw [hv]) n).trans hreg
    rw [hnil]
    rfl
  rw [hs]
  generalize ({ s with cxl := { s.cxl with removals := l } } : State).setExpState n 3 1 = v at hev h3
  obtain ⟨_, _, _, _, _, hv⟩ := hev.frame
  exact ⟨l, hev, h3, by rw [hv], hget⟩

theorem cxlExpanderRemoveBody_eq (k : Call) (s : State) : cxlExpanderRemoveBody k s =
    if 32 ≤ k.c.f 0 8 ∨ (2 < k.c.f 8 8 ∧ k.c.f 8 8 ≠ 0xFF) then (s, .err cBAD_PARAM)
    else if s.getP P.CXL_EXP_STATE (k.c.f 0 8) ≠ 2 then (s, .err cEXPANDER_ABSENT)
    else (s.startRemoval (k.c.f 0 8) (if k.c.f 8 8 = 0xFF then s.getP P.CXL_REMOVE_POLICY 0 else k.c.f 8 8) (some k.tk), .wait) := rfl

theorem cxlExpanderRemove_fails {c : Cmd} {s : State} (ha : s.accepts true 0x0613 c) (ho : c.operands 2 0) {code : Nat} (hc : code < 256)
    (h : cxlExpanderRemoveBody { c := c, tk := s.newTicket, priv := s.privOf c } (s.entered 0x0613 c) = (s.entered 0x0613 c, .err code)) :
    ∃ t, exec (.cxlExpanderRemove c) s = .next t ∧ Answered 0x0613 c code 0 0 t ∧ CommandOnly c s t :=
  completes_reading (i := .cxlExpanderRemove c) (spec := cxlExpanderRemoveSpec) (body := cxlExpanderRemoveBody) ha.1.1 ha (by simp [cxlExpanderRemoveSpec, ho.1])
    (by rw [ho.1]; exact ho.2) (fun _ => rfl) hc h

theorem entered_regionsOf (s : State) (op : Nat) (c : Cmd) (n : Nat) : (s.entered op c).regionsOf n = s.regionsOf n := regionsOf_congr (by rw [State.entered_cxl]) n

theorem cxlExpanderRemove_starts {c : Cmd} {s : State} (ha : s.accepts true 0x0613 c) (ho : c.operands 2 0) (hn : c.f 0 8 < 32) (hp : c.f 8 8 ≤ 2 ∨ c.f 8 8 = 0xFF)
    (hst : s.getP P.CXL_EXP_STATE (c.f 0 8) = 2) (hreg : s.regionsOf (c.f 0 8) = []) : ∃ t, exec (.cxlExpanderRemove c) s = .next t
      ∧ t.getP P.CXL_EXP_STATE (c.f 0 8) = 3 ∧ SameParams [pkey P.CXL_EXP_STATE (c.f 0 8)] s t ∧ SMap.get (fun _ => none) t.cxl.removals (c.f 0 8)
          = some { policy := if c.f 8 8 = 0xFF then s.getP P.CXL_REMOVE_POLICY 0 else c.f 8 8, ticket := some s.newTicket }
      ∧ (∀ m, m ≠ c.f 0 8 → SMap.get (fun _ => none) t.cxl.removals m = SMap.get (fun _ => none) s.cxl.removals m)
      ∧ WaitsEvents 0x0613 c { s with params := t.params, cxl := { s.cxl with removals := t.cxl.removals } } t := by
  have hbody : cxlExpanderRemoveBody { c := c, tk := s.newTicket, priv := s.privOf c } (s.entered 0x0613 c)
      = ((s.entered 0x0613 c).startRemoval (c.f 0 8) (if c.f 8 8 = 0xFF then s.getP P.CXL_REMOVE_POLICY 0 else c.f 8 8) (some s.newTicket), .wait) := by
    rw [cxlExpanderRemoveBody_eq]
    dsimp only
    rw [if_neg (by omega), State.entered_getP, if_neg (by omega), State.entered_getP]
  obtain ⟨l, hev, h3, hl, hget⟩ := startRemoval_effect (pol := if c.f 8 8 = 0xFF then s.getP P.CXL_REMOVE_POLICY 0 else c.f 8 8) (tk := some s.newTicket)
    ((entered_regionsOf s 0x0613 c (c.f 0 8)).trans hreg)
  generalize (s.entered 0x0613 c).startRemoval (c.f 0 8) (if c.f 8 8 = 0xFF then s.getP P.CXL_REMOVE_POLICY 0 else c.f 8 8) (some s.newTicket) = u at hbody hev h3 hl
  rw [State.entered_cxl] at hget
  have hrun : RunsEvents s 0x0613 c { s with params := u.params, cxl := { s.cxl with removals := l } } u :=
    ⟨_, runs_of_comm (fun z => { z with params := u.params, cxl := { z.cxl with removals := l } }) (fun _ _ _ _ => rfl) rfl rfl rfl (aipexDown_congr rfl), hev.1⟩
  obtain ⟨hx, hw⟩ := RunsEvents.waits (i := .cxlExpanderRemove c) (spec := cxlExpanderRemoveSpec) (body := cxlExpanderRemoveBody) ha.1.1 ha
    (by simp [cxlExpanderRemoveSpec, ho.1]) (by rw [ho.1]; exact ho.2) (fun _ => rfl) hbody hrun rfl rfl
  refine ⟨u, hx, h3, fun k hk => (hev.2 k hk).trans (by rw [State.entered_params]), ?_, fun m hm => ?_, ?_⟩
  · rw [hl, hget, if_pos rfl]
  · rw [hl, hget, if_neg hm]
  · rw [hl]
    exact hw

theorem removalDrainDone_exec (n : Nat) (s : State) : exec (.removalDrainDone n) s = guarded (.removalDrainDone n) s
    (match SMap.get (fun _ => none) s.cxl.removals n with
    | some m =>
      if 2 < m.step ∨ s.slotCapturing n = true then s
      else (s.slotBins n).foldl (fun t b => t.drainBin b)
        { s with cxl := { s.cxl with removals := SMap.set (fun _ => none) s.cxl.removals n (some { m with step := 3 }) } }
    | none => s) := rfl

theorem removals_set {n : Nat} {x : Option Removal} {s : State} : ∃ l, SMap.set (fun _ => none) s.cxl.removals n x = l ∧ SMap.get (fun _ => none) l n = x
    ∧ ∀ k, k ≠ n → SMap.get (fun _ => none) l k = SMap.get (fun _ => none) s.cxl.removals k :=
  ⟨_, rfl, SMap.get_set_same _ _ _ _, fun _ hk => SMap.get_set_other _ _ hk _⟩

theorem removalDrainDone_drained {n : Nat} {m : Removal} {s : State} (hn : n < 32) (hm : SMap.get (fun _ => none) s.cxl.removals n = some m) (hb : s.slotBins n = [])
    (h2 : m.step ≤ 2) : ∃ t, exec (.removalDrainDone n) s = .next t ∧ SMap.get (fun _ => none) t.cxl.removals n = some { m with step := 3 }
      ∧ (∀ k, k ≠ n → SMap.get (fun _ => none) t.cxl.removals k = SMap.get (fun _ => none) s.cxl.removals k)
      ∧ t = { s with cxl := { s.cxl with removals := t.cxl.removals } } := by
  have hx := removalDrainDone_exec n s
  have hcap : s.slotCapturing n = false := by simp [State.slotCapturing, hb]
  obtain ⟨l, hl, h1, hother⟩ := removals_set (n := n) (x := some { m with step := 3 }) (s := s)
  simp only [hm] at hx
  rw [if_neg (by rw [hcap]; simpa using h2), hb, List.foldl_nil, hl] at hx
  exact ⟨_, exec_next hx (decide_eq_true hn) rfl rfl, h1, hother, rfl⟩

theorem relocationDone_exec (n : Nat) (s : State) : exec (.relocationDone n) s = guarded (.relocationDone n) s
    (match SMap.get (fun _ => none) s.cxl.removals n with
    | none => s
    | some m =>
      if m.step ≠ 3 then s
      else
        match (s.slotBins n).foldl (fun (a : Option (State × Nat × Nat × Nat)) b =>
            match a with
            | none => none
            | some (t, x, y, z) => match t.relocateBin b n m.policy with
              | none => none
              | some (u, p, q, w) => some (u, x + p, y + q, z + w)) (some (s, 0, 0, 0)) with
        | some (t, moved, dropped, gib) =>
          { t with cxl := { t.cxl with removals := SMap.set (fun _ => none) t.cxl.removals n (some { m with step := 4, relocated := moved, dropped := dropped, gib := gib }) } }
        | none =>
          (((s.setExpState n 2 1).regionsOf n).foldl (fun t q => if t.getP P.CXL_REGION_STATE q = 3 then t.setRegionState q 1 6 else t) (s.setExpState n 2 1)).endRemoval n
            cNO_RESOURCE 0 0) := rfl

theorem relocationDone_relocated {n : Nat} {m : Removal} {s : State} (hn : n < 32) (hm : SMap.get (fun _ => none) s.cxl.removals n = some m) (hb : s.slotBins n = [])
    (h3 : m.step = 3) : ∃ t, exec (.relocationDone n) s = .next t
      ∧ SMap.get (fun _ => none) t.cxl.removals n = some { m with step := 4, relocated := 0, dropped := 0, gib := 0 }
      ∧ (∀ k, k ≠ n → SMap.get (fun _ => none) t.cxl.removals k = SMap.get (fun _ => none) s.cxl.removals k)
      ∧ t = { s with cxl := { s.cxl with removals := t.cxl.removals } } := by
  have hx := relocationDone_exec n s
  obtain ⟨l, hl, h1, hother⟩ := removals_set (n := n) (x := some { m with step := 4, relocated := 0, dropped := 0, gib := 0 }) (s := s)
  simp only [hm] at hx
  rw [if_neg (fun h => h h3), hb, List.foldl_nil] at hx
  simp only [hl] at hx
  exact ⟨_, exec_next hx (decide_eq_true hn) rfl rfl, h1, hother, rfl⟩

theorem slotPowerOff_exec (n : Nat) (s : State) : exec (.slotPowerOff n) s = guarded (.slotPowerOff n) s
    (match SMap.get (fun _ => none) s.cxl.removals n with
    | none => s
    | some m =>
      if m.step ≠ 5 then s
      else
        (((State.emit (.cxl 3 n []) { s with cxl := { s.cxl with powerOff := setBit s.cxl.powerOff n, attention := setBit s.cxl.attention n } }).setExpState n 4 1).partnerDeparts
          (expanderId n)).endRemoval n cOK 12 (wrap32 m.relocated + at' 32 (wrap32 m.dropped) + at' 64 (wrap32 m.gib))) := rfl

/-- Slot `n` is without power, its expander gone. -/
def State.slotOff (n : Nat) (s : State) : State :=
  ((State.emit (.cxl 3 n []) { s with cxl := { s.cxl with powerOff := setBit s.cxl.powerOff n, attention := setBit s.cxl.attention n } }).setExpState n 4 1).partnerDeparts (expanderId n)

theorem slotOff_effect (n : Nat) (s : State) : ∃ b a x,
    EventsOnly { s with params := (s.slotOff n).params, sent := .cxl 3 n [] :: s.sent, cxl := { s.cxl with powerOff := b, attention := a }, ctl := { s.ctl with partners := x } } (s.slotOff n)
      ∧ b.testBit n = true ∧ a.testBit n = true ∧ (s.slotOff n).getP P.CXL_EXP_STATE n = 4 ∧ SameParams [pkey P.CXL_EXP_STATE n] s (s.slotOff n)
      ∧ ((s.slotOff n).partner (expanderId n)).present = false ∧ ∀ q, partnerKey q ≠ partnerKey (expanderId n) → (s.slotOff n).partner q = s.partner q := by
  obtain ⟨b, hb, hb'⟩ : ∃ b, setBit s.cxl.powerOff n = b ∧ b.testBit n = true := ⟨_, rfl, testBit_setBit_same _ _⟩
  obtain ⟨a, ha, ha'⟩ : ∃ a, setBit s.cxl.attention n = a ∧ a.testBit n = true := ⟨_, rfl, testBit_setBit_same _ _⟩
  have hs : s.slotOff n = ((State.emit (.cxl 3 n []) { s with cxl := { s.cxl with powerOff := b, attention := a } }).setExpState n 4 1).partnerDeparts (expanderId n) := by
    rw [State.slotOff, hb, ha]
  rw [hs]
  obtain ⟨hev, h4⟩ := setExpState_effect n 4 1 (State.emit (.cxl 3 n []) { s with cxl := { s.cxl with powerOff := b, attention := a } })
  generalize (State.emit (.cxl 3 n []) { s with cxl := { s.cxl with powerOff := b, attention := a } }).setExpState n 4 1 = u at hev h4
  obtain ⟨x, hpart⟩ := partnerDeparts_events (expanderId n) u
  have hpres := partnerDeparts_absent (expanderId n) u
  have hoth : ∀ q, partnerKey q ≠ partnerKey (expanderId n) → (u.partnerDeparts (expanderId n)).partner q = u.partner q := fun q hq => partnerDeparts_other hq u
  generalize u.partnerDeparts (expanderId n) = v at hpart hpres hoth
  have hbase := (hev.1.lift (fun z => { z with ctl := { z.ctl with partners := x } }) (fun _ _ _ _ _ => rfl) fun _ => rfl).trans hpart
  have hpar : v.params = u.params := by
    obtain ⟨w, y, m, a, hv, -⟩ := hpart.rings
    rw [hv]
  have hu : ∀ q, u.partner q = s.partner q := fun q => by
    obtain ⟨p, w', y', m', a', hu⟩ := hev.frame
    rw [hu]
    rfl
  refine ⟨b, a, x, ?_, hb', ha', (congrArg (SMap.get pdef · (pkey P.CXL_EXP_STATE n)) hpar).trans h4, fun k hk => (congrArg (SMap.get pdef · k) hpar).trans (hev.2 k hk),
    hpres, fun q hq => (hoth q hq).trans (hu q)⟩
  rw [hpar]
  exact hbase

theorem slotPowerOff_removes {n tk : Nat} {m : Removal} {f : Flight} {s : State} (hn : n < 32) (hm : SMap.get (fun _ => none) s.cxl.removals n = some m) (h5 : m.step = 5)
    (htk : m.ticket = some tk) (hf : s.awaits tk f) : ∃ t, exec (.slotPowerOff n) s = .next t
      ∧ Answered f.opcode f.cmd 0 12 (m.relocated % 2 ^ 32 + at' 32 (m.dropped % 2 ^ 32) + at' 64 (m.gib % 2 ^ 32)) t ∧ t.getP P.CXL_EXP_STATE n = 4
      ∧ SameParams [pkey P.CXL_EXP_STATE n] s t ∧ t.cxl.powerOff.testBit n = true ∧ t.cxl.attention.testBit n = true ∧ SMap.get (fun _ => none) t.cxl.removals n = none
      ∧ (t.partner (expanderId n)).present = false ∧ (∀ q, partnerKey q ≠ partnerKey (expanderId n) → t.partner q = s.partner q)
      ∧ RepliedEvents f { s with
          params := t.params, sent := .cxl 3 n [] :: s.sent, cxl := { s.cxl with powerOff := t.cxl.powerOff, attention := t.cxl.attention, removals := t.cxl.removals }
          ctl := { s.ctl with partners := t.ctl.partners } } t := by
  have hx := slotPowerOff_exec n s
  simp only [hm] at hx
  rw [if_neg (fun h => h h5)] at hx
  obtain ⟨b, a, x, hev, hb, ha, h4, hsame, hpres, hoth⟩ := slotOff_effect n s
  change exec (.slotPowerOff n) s = guarded (.slotPowerOff n) s ((s.slotOff n).endRemoval n cOK 12 _) at hx
  generalize s.slotOff n = v at hx hev h4 hsame hpres hoth
  have hcxl : v.cxl = { s.cxl with powerOff := b, attention := a } ∧ v.ctl.partners = x := by
    obtain ⟨⟨_, _, _, _, hv⟩, -⟩ := hev
    rw [hv]
    exact ⟨rfl, rfl⟩
  obtain ⟨hcxl, hpartners⟩ := hcxl
  obtain ⟨l, hl, hnone, -⟩ := removals_set (n := n) (x := none) (s := v)
  have hend (code len r : Nat) : v.endRemoval n code len r = ({ v with cxl := { v.cxl with removals := l } } : State).finalReply tk code len r := by
    have hv : SMap.get (fun _ => none) v.cxl.removals n = some m := by rw [hcxl]; exact hm
    rw [State.endRemoval, hv]
    dsimp only
    rw [htk, hl]
  rw [hend] at hx
  have hev' := hev.lift (fun z => { z with cxl := { z.cxl with removals := l } }) (fun _ _ _ _ _ => rfl) (fun _ => rfl)
  have hy : ({ v with cxl := { v.cxl with removals := l } } : State).cxl = { s.cxl with powerOff := b, attention := a, removals := l } := by
    dsimp only
    rw [hcxl]
  have hyp : ({ v with cxl := { v.cxl with removals := l } } : State).params = v.params := rfl
  have hyc : ({ v with cxl := { v.cxl with removals := l } } : State).ctl.partners = v.ctl.partners := rfl
  generalize ({ v with cxl := { v.cxl with removals := l } } : State) = y at hx hev' hy hyp hyc
  have haw : y.awaits tk f := hev'.awaits (awaits_congr hf rfl rfl)
  obtain ⟨t, ht, hc, hp, hpt⟩ : ∃ t, t = y.finalReply tk cOK 12 (wrap32 m.relocated + at' 32 (wrap32 m.dropped) + at' 64 (wrap32 m.gib)) ∧ t.cxl = y.cxl ∧ t.params = y.params
      ∧ t.ctl.partners = y.ctl.partners := ⟨_, rfl, State.finalReply_cxl _ _ _ _ _, State.finalReply_params _ _ _ _ _, State.finalReply_ctl_partners _ _ _ _ _⟩
  have hpartner (q : PartnerId) : t.partner q = v.partner q := by rw [State.partner, hpt, hyc, State.partner]
  refine ⟨t, exec_next hx (decide_eq_true hn) ht.symm ?_, ?_, ?_, fun k hk => ?_, ?_, ?_, ?_, ?_, fun q hq => ?_, ?_⟩
  · rw [ht, State.finalReply_pending]
    exact hev'.pending
  · rw [ht]
    exact finalReply_answered y haw.2 haw.1 (by decide) _ _
  · exact (congrArg (SMap.get pdef · (pkey P.CXL_EXP_STATE n)) (hp.trans hyp)).trans h4
  · rw [hp, hyp]
    exact hsame k hk
  · rw [hc, hy]
    exact hb
  · rw [hc, hy]
    exact ha
  · rw [hc, hy]
    exact hnone
  · rw [hpartner]
    exact hpres
  · rw [hpartner]
    exact hoth q hq
  · have hrep := hev'.replied haw cOK 12 (wrap32 m.relocated + at' 32 (wrap32 m.dropped) + at' 64 (wrap32 m.gib))
    rw [← ht] at hrep
    rw [hc, hp, hpt, hy, hyp, hyc, hpartners]
    exact hrep

/-! ### The attention button (R440) -/

theorem attentionButton_exec (n : Nat) (s : State) : exec (.attentionButton n) s = guarded (.attentionButton n) s
    (if s.cxl.blinking.testBit n then { s with cxl := { s.cxl with blinking := clrBit s.cxl.blinking n } }
    else if s.getP P.CXL_EXP_STATE n = 2 then { s with cxl := { s.cxl with blinking := setBit s.cxl.blinking n } }
    else s) := rfl

theorem attentionButton_cancels {n : Nat} {s : State} (hn : n < 32) (h : s.cxl.blinking.testBit n = true) : ∃ t, exec (.attentionButton n) s = .next t
    ∧ t.cxl.blinking.testBit n = false ∧ (∀ k, k ≠ n → t.cxl.blinking.testBit k = s.cxl.blinking.testBit k)
    ∧ t = { s with cxl := { s.cxl with blinking := t.cxl.blinking } } :=
  ⟨_, exec_next (attentionButton_exec n s) (decide_eq_true hn) (if_pos h) rfl, testBit_clrBit_same _ _, fun _ hk => clrBit_same_other hk, rfl⟩

theorem attentionButton_blinks {n : Nat} {s : State} (hn : n < 32) (h : s.cxl.blinking.testBit n = false) (hst : s.getP P.CXL_EXP_STATE n = 2) :
    ∃ t, exec (.attentionButton n) s = .next t ∧ t.cxl.blinking.testBit n = true
      ∧ (∀ k, k ≠ n → t.cxl.blinking.testBit k = s.cxl.blinking.testBit k) ∧ t = { s with cxl := { s.cxl with blinking := t.cxl.blinking } } :=
  ⟨_, exec_next (attentionButton_exec n s) (decide_eq_true hn) ((if_neg (by simp [h])).trans (if_pos hst)) rfl, testBit_setBit_same _ _, fun _ hk => setBit_same_other hk, rfl⟩

theorem attentionTimer_exec (n : Nat) (s : State) : exec (.attentionTimer n) s = guarded (.attentionTimer n) s
    (if s.cxl.blinking.testBit n then
      if s.getP P.CXL_EXP_STATE n = 2 then State.startRemoval n (s.getP P.CXL_REMOVE_POLICY 0) none { s with cxl := { s.cxl with blinking := clrBit s.cxl.blinking n } }
      else { s with cxl := { s.cxl with blinking := clrBit s.cxl.blinking n } }
    else s) := rfl

theorem attentionTimer_removes {n : Nat} {s : State} (hn : n < 32) (h : s.cxl.blinking.testBit n = true) (hst : s.getP P.CXL_EXP_STATE n = 2) (hreg : s.regionsOf n = []) :
    ∃ t, exec (.attentionTimer n) s = .next t ∧ t.getP P.CXL_EXP_STATE n = 3
      ∧ SameParams [pkey P.CXL_EXP_STATE n] s t ∧ SMap.get (fun _ => none) t.cxl.removals n = some { policy := s.getP P.CXL_REMOVE_POLICY 0 }
      ∧ t.cxl.blinking.testBit n = false ∧ EventsOnly { s with params := t.params, cxl := { s.cxl with removals := t.cxl.removals, blinking := t.cxl.blinking } } t := by
  have hx := attentionTimer_exec n s
  rw [if_pos h, if_pos hst] at hx
  obtain ⟨b, hb, hb'⟩ : ∃ b, clrBit s.cxl.blinking n = b ∧ b.testBit n = false := ⟨_, rfl, testBit_clrBit_same _ _⟩
  rw [hb] at hx
  obtain ⟨l, hev, h3, hl, hget⟩ := startRemoval_effect (n := n) (pol := s.getP P.CXL_REMOVE_POLICY 0) (tk := none) (s := { s with cxl := { s.cxl with blinking := b } }) hreg
  generalize State.startRemoval n (s.getP P.CXL_REMOVE_POLICY 0) none { s with cxl := { s.cxl with blinking := b } } = t at hx hev h3 hl
  have hblink : t.cxl.blinking = b := by
    obtain ⟨_, _, _, _, _, ht⟩ := hev.frame
    rw [ht]
  refine ⟨t, exec_next hx (decide_eq_true hn) rfl hev.1.pending, h3, hev.2, by rw [hl, hget, if_pos rfl], by rw [hblink]; exact hb', ?_⟩
  rw [hl, hblink]
  exact hev.1

end Sys2Proof.Machine

open Sys2Proof Sys2Proof.Machine in
/-- Settles O41: a flush and a removal are records that each step replaces; beside them a step changes a state of a slot or region, posts events and answers one command. -/
theorem flushesAndRemovalsRunTheirSteps : Obligations.FlushesAndRemovalsRunTheirSteps := by
  unfold Obligations.FlushesAndRemovalsRunTheirSteps
  refine ⟨fun g s hg hnone hw => gpfStart_starts hg hnone hw, fun g s h => gpfStart_idle h,
    fun t s => ⟨fun h => exec_next (gpfPhase1Done_exec t s) rfl (by rw [h]) rfl, fun g h h2 => gpfPhase1Done_phase2 h h2⟩, fun t late s h => gpfDone_none h,
    fun c s ha ho => cxlPersistFlush_waits ha ho, fun t tk us g f s hg ht hfl hf hbins hus hlt => gpfDone_answers hg ht hfl hf hbins hus hlt,
    fun t n r g m s _ _ hg ht hs hbins hm hreg hst => gpfDone_removal hg ht hs hbins hm hreg hst, fun c n s ha ho hn => ?_, fun n s hn h => ⟨?_, ?_, ?_⟩,
    fun n m s hn hm hb => ⟨fun h => removalDrainDone_drained hn hm hb h, fun h => relocationDone_relocated hn hm hb h⟩,
    fun n tk m f s hn hm h5 htk hf _ => slotPowerOff_removes hn hm h5 htk hf, fun n s hn => ⟨fun h => attentionButton_cancels hn h, fun h hst => attentionButton_blinks hn h hst,
      fun h hst => exec_next (attentionButton_exec n s) (decide_eq_true hn) ((if_neg (by simp [h])).trans (if_neg hst)) rfl,
      fun h => exec_next (attentionTimer_exec n s) (decide_eq_true hn) (if_neg (by simp [h])) rfl, fun h hst hreg => attentionTimer_removes hn h hst hreg⟩⟩
  · subst hn
    refine ⟨fun h => cxlExpanderRemove_fails ha ho (by decide) ?_, fun hn hp hst => cxlExpanderRemove_fails ha ho (by decide) ?_, fun hn hp hst hreg =>
      cxlExpanderRemove_starts ha ho hn hp hst hreg⟩
    · rw [cxlExpanderRemoveBody_eq]
      exact if_pos h
    · rw [cxlExpanderRemoveBody_eq]
      dsimp only
      rw [if_neg (by omega), State.entered_getP, if_pos hst]
  · exact exec_next (removalDrainDone_exec n s) (decide_eq_true hn) (by rw [h]) rfl
  · exact exec_next (relocationDone_exec n s) (decide_eq_true hn) (by rw [h]) rfl
  · exact exec_next (slotPowerOff_exec n s) (decide_eq_true hn) (by rw [h]) rfl
end

section
/-! What a lane loss leaves of the queue, and symbol lock, rate matching and wake-up of a lane (O34; 08_serial_lanes.md). -/

namespace Sys2Proof.Machine

/-! ### The queue -/

theorem foldl_keeps {α β : Type} (v : State → β) {f : State → α → State} (h : ∀ t a, v (f t a) = v t) : ∀ (l : List α) (s : State), v (l.foldl f s) = v s
  | [], _ => rfl
  | a :: l, s => (foldl_keeps v h l (f s a)).trans (h s a)

theorem foldl_pending {α : Type} {f : State → α → State} (h : ∀ t a, (f t a).pending = t.pending) (l : List α) (s : State) : (l.foldl f s).pending = s.pending :=
  foldl_keeps State.pending h l s

@[simp] theorem State.modEnd_pending (l e : Nat) (f : LoopEnd → LoopEnd) (s : State) : (s.modEnd l e f).pending = s.pending := rfl

@[simp] theorem State.sendAlign_pending (p d : Nat) (s : State) : (s.sendAlign p d).pending = s.pending := rfl

@[simp] theorem State.emitAfter_pending (t : Nat) (x : Tx) (s : State) : (s.emitAfter t x).pending = s.pending := rfl

@[simp] theorem State.sendTile_pending (l e typ phase dist aux flags : Nat) (p : List Byte) (s : State) : (s.sendTile l e typ phase dist aux flags p).pending = s.pending := rfl

@[simp] theorem State.sendPartner_pending (typ : Nat) (p : List Byte) (s : State) : (s.sendPartner typ p).pending = s.pending := rfl

@[simp] theorem State.settleLane_pending (k : Nat) (s : State) : (s.settleLane k).pending = s.pending := by
  obtain ⟨f, h | h⟩ := settleLane_modLane k s <;> rw [h] <;> rfl

@[simp] theorem State.settleLanes_pending (l : List Nat) (s : State) : (s.settleLanes l).pending = s.pending := foldl_pending (fun t k => State.settleLane_pending k t) l s

@[simp] theorem State.raiseService_pending (c : ServiceCond) (s : State) : (s.raiseService c).pending = s.pending := by
  unfold State.raiseService
  split <;> rfl

@[simp] theorem State.clearService_pending (c : ServiceCond) (s : State) : (s.clearService c).pending = s.pending := by
  unfold State.clearService
  split <;> rfl

@[simp] theorem State.reachReport_pending (l : Nat) (s : State) : (s.reachReport l).pending = s.pending := State.settleLanes_pending _ _

@[simp] theorem State.sendPLoop_pending (l : Nat) (s : State) : (s.sendPLoop l).pending = s.pending := by
  unfold State.sendPLoop
  split <;> rfl

@[simp] theorem State.noteLoop_pending (l : Nat) (s : State) : (s.noteLoop l).pending = s.pending := by
  unfold State.noteLoop
  split
  · exact State.sendPLoop_pending l s
  · rfl

@[simp] theorem State.setLoopState_pending (l new reason : Nat) (s : State) : (s.setLoopState l new reason).pending = s.pending := by
  unfold State.setLoopState
  dsimp only
  split <;> split <;> simp

@[simp] theorem State.evalLoop_pending (l reason : Nat) (s : State) : (s.evalLoop l reason).pending = s.pending := by
  unfold State.evalLoop
  simp

@[simp] theorem State.partnerDeparts_pending (p : PartnerId) (s : State) : (s.partnerDeparts p).pending = s.pending := by
  obtain ⟨x, h⟩ := partnerDeparts_events p s
  exact h.pending

@[simp] theorem State.partnerArrives_pending (p : PartnerId) (src v : Nat) (s : State) : (s.partnerArrives p src v).pending = s.pending := rfl

@[simp] theorem State.setReachable_pending (l hop e : Nat) (v : Bool) (s : State) : (s.setReachable l hop e v).pending = s.pending := by
  unfold State.setReachable
  dsimp only
  have h1 : (s.modTile l hop fun t => if e = 0 then { t with fromA := v } else { t with fromB := v }).pending = s.pending := rfl
  generalize (s.modTile l hop fun t => if e = 0 then { t with fromA := v } else { t with fromB := v }) = s1 at h1 ⊢
  rw [← h1]
  split
  · simp
  · split <;> rfl

@[simp] theorem State.abandonFrames_pending (l : Nat) (p : Nat → Bool) (s : State) : (s.abandonFrames l p).pending = s.pending := by
  refine foldl_pending (fun t i => ?_) _ _
  dsimp only
  split
  · rfl
  · split
    · split <;> rfl
    · rfl

@[simp] theorem State.toWindows_pending (g : Nat) (p : Nat → Bool) (s : State) : (s.toWindows g p).pending = s.pending := rfl

@[simp] theorem State.calDeferred_pending (g r : Nat) (s : State) : (s.calDeferred g r).pending = s.pending := State.post_pending _ _ _ _ _

@[simp] theorem State.trapAbandoned_pending (l : Nat) (s : State) : (s.trapAbandoned l).pending = s.pending := by
  unfold State.trapAbandoned
  dsimp only
  split
  · simp
  · rfl

@[simp] theorem State.trapBroken_pending (l : Nat) (s : State) : (s.trapBroken l).pending = s.pending := by
  unfold State.trapBroken
  dsimp only
  split
  · rfl
  · simp

@[simp] theorem State.darkRefused_pending (code : Nat) (s : State) : (s.darkRefused code).pending = s.pending :=
  foldl_pending (fun t tk => State.finalReply_pending t tk code 0 0) _ _

@[simp] theorem State.darkHanded_pending (f : Bool) (s : State) : (s.darkHanded f).pending = s.pending := by
  unfold State.darkHanded
  split
  · split
    · exact State.darkRefused_pending _ s
    · rfl
  · rfl

@[simp] theorem State.handingDone_pending (l : Nat) (ok : Bool) (s : State) : (s.handingDone l ok).pending = s.pending := by
  unfold State.handingDone
  dsimp only
  split
  · rfl
  · split
    · rfl
    · exact (foldl_pending (fun t tk => State.finalReply_pending t tk _ 0 0) _ _).trans (State.darkHanded_pending _ _)

@[simp] theorem State.abandonHandover_pending (l : Nat) (s : State) : (s.abandonHandover l).pending = s.pending := by
  unfold State.abandonHandover
  split
  · rfl
  · dsimp only
    split <;> simp

@[simp] theorem State.breakTrapeze_pending (l : Nat) (s : State) : (s.breakTrapeze l).pending = s.pending := by
  unfold State.breakTrapeze
  split
  · rfl
  · split <;> simp

@[simp] theorem State.cutReach_pending (l e reach : Nat) (intact : Bool) (s : State) : (s.cutReach l e reach intact).pending = s.pending := by
  refine foldl_pending (fun t i => ?_) _ _
  dsimp only
  split
  · split <;> simp
  · split <;> simp

@[simp] theorem State.startOther_pending (l e reach : Nat) (intact : Bool) (s : State) : (s.startOther l e reach intact).pending = s.pending := by
  unfold State.startOther
  dsimp only
  split <;> split <;> rfl

@[simp] theorem State.portLost_pending (p : Nat) (s : State) : (s.portLost p).pending = s.pending := by
  unfold State.portLost
  split
  · rfl
  · dsimp only
    split <;> simp

@[simp] theorem State.stopCamTrapeze_pending (g : Nat) (s : State) : (s.stopCamTrapeze g).pending = s.pending :=
  foldl_pending (fun t k => State.modLane_pending t k _) _ _

@[simp] theorem State.sendLaneMap_pending (g n : Nat) (s : State) : (s.sendLaneMap g n).pending = s.pending := rfl

@[simp] theorem State.resetTraining_pending (g : Nat) (k : Bool) (s : State) : (s.resetTraining g k).pending = s.pending := rfl

@[simp] theorem State.enterGroup_pending (g n r : Nat) (s : State) : (s.enterGroup g n r).pending = s.pending := by
  have hal (t : State) : (t.sendAligns g).pending = t.pending := by rw [sendAligns_eq]; rfl
  have hdrop (t : State) : (t.dropArrival g).pending = t.pending := by
    unfold State.dropArrival
    dsimp only
    split <;> rfl
  unfold State.enterGroup
  dsimp only
  split
  · split <;> split <;> simp [hal, hdrop, State.postCam]
  · split <;> split <;> simp [hdrop, State.postCam]

@[simp] theorem State.camLaneLost_pending (g n : Nat) (s : State) : (s.camLaneLost g n).pending = s.pending := by
  unfold State.camLaneLost
  dsimp only
  split
  · rfl
  split
  · split <;> simp
  split
  · rfl
  split
  · rfl
  split
  · simp
  · split <;> simp

@[simp] theorem State.sendPartnerAligns_pending (s : State) : s.sendPartnerAligns.pending = s.pending :=
  foldl_pending (fun t (_ : Nat × Nat) => State.emit_pending t _) _ _

@[simp] theorem State.enterLink_pending (n r : Nat) (s : State) : (s.enterLink n r).pending = s.pending := by
  unfold State.enterLink
  dsimp only
  split <;> simp

@[simp] theorem State.setRmState_pending (n : Nat) (s : State) : (s.setRmState n).pending = s.pending := by
  unfold State.setRmState
  dsimp only
  split
  · rfl
  · split <;> simp

@[simp] theorem State.partnerGone_pending (n r : Nat) (s : State) : (s.partnerGone n r).pending = s.pending := by
  unfold State.partnerGone
  dsimp only
  split <;> split <;> simp [State.enterHoldover]

/-! ### One lane's record -/

theorem laneOnly_modLane (k : Nat) (f : Lane → Lane) (s : State) : LaneOnly k s (s.modLane k f) :=
  ⟨fun j hj => (State.lane_modLane s k f j).trans (if_neg hj), rfl⟩

theorem lane_modLane_same (k : Nat) (f : Lane → Lane) (s : State) : (s.modLane k f).lane k = f (s.lane k) := (State.lane_modLane s k f k).trans (if_pos rfl)

theorem LaneOnly.trans {k : Nat} {s t u : State} (h : LaneOnly k s t) (h' : LaneOnly k t u) : LaneOnly k s u := by
  obtain ⟨hj, ht⟩ := h
  obtain ⟨hj', hu⟩ := h'
  refine ⟨fun j hne => (hj' j hne).trans (hj j hne), ?_⟩
  rw [ht] at hu
  exact hu

theorem LaneOnly.pending {k : Nat} {s t : State} (h : LaneOnly k s t) : t.pending = s.pending := by rw [h.2]

theorem portEnd_congr {s t : State} (hl : t.mw.loops = s.mw.loops) (ht : t.ctl.tables = s.ctl.tables) (p : Nat) : t.portEnd p = s.portEnd p := by
  simp only [State.portEnd, State.dirMode, State.feeder, State.dirFeeder, State.loop, State.tableNum, hl, ht]
  rfl

/-! ### The loss of symbol lock (R242, R243) -/

/-- The record of a lane that has left LOCKED for state `new`. -/
abbrev Lane.unlocked (new : Nat) (x : Lane) : Lane := { x with lock := new, commas := 0, errs := 0, validRun := 0 }

theorem loseLock_eq (k new cause : Nat) (s : State) : s.loseLock k new cause =
    if (s.lane k).lock ≠ 3 ∨ s.farAsleep k = true ∨ (s.lane k).measuring = true ∨ s.now < (s.lane k).winEnd then s.modLane k (Lane.unlocked new)
    else (((s.modLane k (Lane.unlocked new)).modLane k fun y => { y with losses := sat32 (y.losses + 1), lost := true }).postLock k true cause).reportLoss k := rfl

/-- LANE_LOCK of the lane has been posted within the last 100 ms. -/
def State.lockPosted (s : State) (k : Nat) : Bool :=
  match (s.lane k).lastPost with
  | some t => decide (s.now < t + 100000000)
  | none => false

theorem postLock_eq (k cause : Nat) (lost : Bool) (s : State) : s.postLock k lost cause =
    if s.lockPosted k then (if lost then s.modLane k fun y => { y with unposted := y.unposted + 1 } else s)
    else (s.modLane k fun y => { y with lastPost := some s.now, unposted := 0 }).post 0x60 (laneSource k).1 (laneSource k).2
      (k + at' 16 (b2n lost) + at' 24 cause + at' 32 (min (s.lane k).unposted 65535)) := rfl

/-- The record of lane `k` takes note of a LANE_LOCK, posted or not. -/
def LockNoted (k : Nat) (s u : State) : Prop := EventsOnly { s with ln := { s.ln with lanes := u.ln.lanes } } u ∧ (∀ j, j ≠ k → u.lane j = s.lane j)
  ∧ ∃ t n, u.lane k = { s.lane k with lastPost := t, unposted := n }

theorem lockNoted_post {k a b c d : Nat} {s u : State} (h : LockNoted k s u) : LockNoted k s (u.post a b c d) := by
  obtain ⟨h1, h2, h3⟩ := h
  have hev := eventsOnly_post u a b c d
  generalize u.post a b c d = v at hev
  have hln : v.ln = u.ln := by
    obtain ⟨⟨_, _, _, _, hv⟩, -⟩ := hev
    rw [hv]
  have hlane (j : Nat) : v.lane j = u.lane j := by rw [State.lane, hln, State.lane]
  obtain ⟨t, n, hk⟩ := h3
  refine ⟨?_, fun j hj => (hlane j).trans (h2 j hj), t, n, (hlane k).trans hk⟩
  rw [hln]
  exact h1.trans hev

theorem lockNoted_modLane {k n : Nat} {t : Option Nat} {s : State} {f : Lane → Lane} (h : f (s.lane k) = { s.lane k with lastPost := t, unposted := n }) :
    LockNoted k s (s.modLane k f) := ⟨EventsOnly.refl _, (laneOnly_modLane k f s).1, t, n, (lane_modLane_same k f s).trans h⟩

theorem postLock_noted (k cause : Nat) (lost : Bool) (s : State) : LockNoted k s (s.postLock k lost cause) := by
  rw [postLock_eq]
  split
  · cases lost with
    | true => exact lockNoted_modLane (f := fun y => { y with unposted := y.unposted + 1 }) (t := (s.lane k).lastPost) (n := (s.lane k).unposted + 1) rfl
    | false => exact ⟨EventsOnly.refl s, fun _ _ => rfl, (s.lane k).lastPost, (s.lane k).unposted, rfl⟩
  · exact lockNoted_post (lockNoted_modLane (f := fun y => { y with lastPost := some s.now, unposted := 0 }) (t := some s.now) (n := 0) rfl)

/-- A lane of a tile port that no loop uses loses its lock, outside its own measurement and window. -/
theorem loseLock_lost {k new cause : Nat} {s : State} (hk : k < 1024) (hp : s.portEnd k = none) (hl : (s.lane k).lock = 3) (hm : (s.lane k).measuring = false)
    (hw : (s.lane k).winEnd ≤ s.now) : LockLost k new s (s.loseLock k new cause) ∧ ∃ t n, (s.loseLock k new cause).lane k
      = { (s.lane k).unlocked new with losses := sat32 ((s.lane k).losses + 1), lost := true, lastPost := t, unposted := n } := by
  have hfar : s.farAsleep k = false := by simp [State.farAsleep, hp]
  rw [loseLock_eq, if_neg (by simp only [hl, hfar, hm]; simp; omega)]
  obtain ⟨u, hu, hone, hlane⟩ : ∃ u, u = (s.modLane k (Lane.unlocked new)).modLane k (fun y => { y with losses := sat32 (y.losses + 1), lost := true }) ∧ LaneOnly k s u
      ∧ u.lane k = { (s.lane k).unlocked new with losses := sat32 ((s.lane k).losses + 1), lost := true } :=
    ⟨_, rfl, (laneOnly_modLane k _ s).trans (laneOnly_modLane k _ _), by rw [lane_modLane_same, lane_modLane_same]⟩
  rw [← hu]
  obtain ⟨hev, hoth, t, n, hk'⟩ := postLock_noted k cause true u
  generalize u.postLock k true cause = v at hev hoth hk'
  have hmw : v.mw = s.mw ∧ v.ctl.tables = s.ctl.tables := by
    obtain ⟨⟨_, _, _, _, hv⟩, -⟩ := hev
    rw [hv, hone.2]
    exact ⟨rfl, rfl⟩
  have hrep : v.reportLoss k = v := by
    unfold State.reportLoss State.portLost
    rw [if_pos hk, portEnd_congr (s := s) (by rw [hmw.1]) hmw.2, hp]
  rw [hrep]
  rw [hlane] at hk'
  refine ⟨⟨by rw [hk'], by rw [hk']; rfl, by rw [hk'], by rw [hk'], fun j hj => (hoth j hj).trans (hone.1 j hj), ?_⟩, t, n, hk'⟩
  have he : { u with ln := { u.ln with lanes := v.ln.lanes } } = { s with ln := { s.ln with lanes := v.ln.lanes } } := by rw [hone.2]
  rw [← he]
  exact hev

theorem loseLock_quietly {k new cause : Nat} {s : State} (h : (s.lane k).measuring = true ∨ s.now < (s.lane k).winEnd) :
    s.loseLock k new cause = s.modLane k (Lane.unlocked new) := by
  rw [loseLock_eq, if_pos (.inr (.inr h))]

theorem LockLost.pending {k n : Nat} {s t : State} (h : LockLost k n s t) : t.pending = s.pending := by
  obtain ⟨-, -, -, -, -, hev⟩ := h
  exact hev.pending

/-- What was lost on a lane of which only the record has changed since is lost on the lane as it was. -/
theorem LockLost.of_laneOnly {k n : Nat} {s u t : State} (h : LaneOnly k s u) (hl : (u.lane k).losses = (s.lane k).losses) (ht : LockLost k n u t) : LockLost k n s t := by
  obtain ⟨h1, h2, h3, h4, h5, h6⟩ := ht
  refine ⟨h1, by rw [h2, hl], h3, h4, fun j hj => (h5 j hj).trans (h.1 j hj), ?_⟩
  have he : { u with ln := { u.ln with lanes := t.ln.lanes } } = { s with ln := { s.ln with lanes := t.ln.lanes } } := by rw [h.2]
  rw [← he]
  exact h6

theorem laneSignalLoss_exec (k : Nat) (s : State) : exec (.laneSignalLoss k) s = guarded (.laneSignalLoss k) s
    (if (s.lane k).lock = 3 then (s.modLane k fun x => { x with signal := false }).loseLock k 0 0 else s.modLane k fun x => { x with signal := false }) := rfl

theorem laneCommaTimeout_exec (k : Nat) (s : State) : exec (.laneCommaTimeout k) s = guarded (.laneCommaTimeout k) s
    (if (s.lane k).lock = 3 then s.loseLock k 1 2 else s) := rfl

theorem laneSignalLoss_quietly {k : Nat} {s : State} (hk : k < 1168) (hl : (s.lane k).lock = 3) (h : (s.lane k).measuring = true ∨ s.now < (s.lane k).winEnd) :
    ∃ t, exec (.laneSignalLoss k) s = .next t ∧ t.lane k = { s.lane k with signal := false, lock := 0, commas := 0, errs := 0, validRun := 0 } ∧ LaneOnly k s t := by
  have hx := laneSignalLoss_exec k s
  have h1 := lane_modLane_same k (fun x => { x with signal := false }) s
  have ho := laneOnly_modLane k (fun x => { x with signal := false }) s
  have hnow : (s.modLane k fun x => { x with signal := false }).now = s.now := rfl
  rw [if_pos hl] at hx
  generalize (s.modLane k fun x => { x with signal := false }) = u at hx h1 ho hnow
  rw [loseLock_quietly (by rw [h1, hnow]; exact h)] at hx
  exact ⟨_, exec_next hx (decide_eq_true hk) rfl ((State.modLane_pending _ _ _).trans ho.pending), by rw [lane_modLane_same, h1], ho.trans (laneOnly_modLane k _ u)⟩

theorem laneSignalLoss_lost {k : Nat} {s : State} (hk : k < 1024) (hp : s.portEnd k = none) (hl : (s.lane k).lock = 3) (hm : (s.lane k).measuring = false)
    (hw : (s.lane k).winEnd ≤ s.now) : ∃ t, exec (.laneSignalLoss k) s = .next t ∧ (t.lane k).signal = false ∧ LockLost k 0 s t := by
  have hx := laneSignalLoss_exec k s
  have h1 := lane_modLane_same k (fun x => { x with signal := false }) s
  have ho := laneOnly_modLane k (fun x => { x with signal := false }) s
  have hnow : (s.modLane k fun x => { x with signal := false }).now = s.now := rfl
  have hport : (s.modLane k fun x => { x with signal := false }).portEnd k = none := hp
  rw [if_pos hl] at hx
  generalize (s.modLane k fun x => { x with signal := false }) = u at hx h1 ho hnow hport
  obtain ⟨hlost, t, n, hlane⟩ := loseLock_lost (new := 0) (cause := 0) hk hport (by rw [h1]; exact hl) (by rw [h1]; exact hm) (by rw [h1, hnow]; exact hw)
  refine ⟨_, exec_next hx (decide_eq_true (by omega)) rfl (hlost.pending.trans ho.pending), by rw [hlane, h1], hlost.of_laneOnly ho (by rw [h1])⟩

/-! ### Commas (R242) -/

theorem laneComma_exec (k p : Nat) (s : State) : exec (.laneComma k p) s = guarded (.laneComma k p) s
    (if (s.lane k).measuring then s
    else if (s.lane k).lock = 1 then s.modLane k fun y => { y with lock := 2, phase := p, commas := 1 }
    else if (s.lane k).lock = 2 then
      if p ≠ (s.lane k).phase then s.modLane k fun y => { y with lock := 1, commas := 0 }
      else if 4 ≤ (s.lane k).commas + 1 then (s.modLane k fun y => { y with commas := 0 }).laneLocked k
      else s.modLane k fun y => { y with commas := y.commas + 1 }
    else s) := rfl

theorem laneComma_wf {k p : Nat} (hk : k < 1168) (hp : p < 10) : (Instr.laneComma k p).wellFormed = true := by
  change (decide (k < 1168) && decide (p < 10)) = true
  simp [hk, hp]

theorem laneComma_changes {k p : Nat} {s : State} {f : Lane → Lane} (hk : k < 1168) (hp : p < 10)
    (h : exec (.laneComma k p) s = guarded (.laneComma k p) s (s.modLane k f)) : ∃ t, exec (.laneComma k p) s = .next t ∧ t.lane k = f (s.lane k) ∧ LaneOnly k s t :=
  ⟨_, exec_next h (laneComma_wf hk hp) rfl rfl, lane_modLane_same k f s, laneOnly_modLane k f s⟩

theorem laneLocked_eq {k : Nat} {s : State} (h : (s.lane k).lost = false) : s.laneLocked k =
    if (s.lane k).adapted then s.modLane k fun y => { y with lock := 3, errs := 0, validRun := 0 }
    else ({ s with free := s.free + 1 } : State).modLane k fun y =>
      { y with lock := 3, errs := 0, validRun := 0, adapted := true, ctle := s.fresh.1 % 16, taps := s.fresh.1 / 16 } := by
  unfold State.laneLocked
  dsimp only
  rw [if_neg (by rw [h]; simp)]
  rfl

theorem laneComma_locks {k p : Nat} {s : State} (hk : k < 1168) (hp : p < 10) (hm : (s.lane k).measuring = false) (hl : (s.lane k).lock = 2) (hph : (s.lane k).phase = p)
    (hc : 3 ≤ (s.lane k).commas) (hlost : (s.lane k).lost = false) :
    ((s.lane k).adapted = true → ∃ t, exec (.laneComma k p) s = .next t ∧ t.lane k = { s.lane k with lock := 3, commas := 0, errs := 0, validRun := 0 } ∧ LaneOnly k s t)
    ∧ ((s.lane k).adapted = false → ∃ t, exec (.laneComma k p) s = .next t ∧ t.lane k = { s.lane k with
          lock := 3, commas := 0, errs := 0, validRun := 0, adapted := true, ctle := (t.lane k).ctle, taps := (t.lane k).taps }
        ∧ LaneOnly k { s with free := s.free + 1 } t) := by
  have hx := laneComma_exec k p s
  rw [if_neg (by simp [hm]), if_neg (by omega), if_pos hl, if_neg (by simp [hph]), if_pos (by omega)] at hx
  have h1 := lane_modLane_same k (fun y => { y with commas := 0 }) s
  have ho := laneOnly_modLane k (fun y => { y with commas := 0 }) s
  generalize (s.modLane k fun y => { y with commas := 0 }) = u at hx h1 ho
  rw [laneLocked_eq (by rw [h1]; exact hlost)] at hx
  refine ⟨fun ha => ?_, fun ha => ?_⟩
  · rw [if_pos (by rw [h1]; exact ha)] at hx
    exact ⟨_, exec_next hx (laneComma_wf hk hp) rfl ((State.modLane_pending _ _ _).trans ho.pending), by rw [lane_modLane_same, h1], ho.trans (laneOnly_modLane k _ u)⟩
  · rw [if_neg (by rw [h1]; simp [ha])] at hx
    have ho' : LaneOnly k { s with free := s.free + 1 } { u with free := u.free + 1 } := by
      refine ⟨ho.1, ?_⟩
      conv_lhs => rw [ho.2]
    obtain ⟨f, hf⟩ : ∃ n, u.fresh.1 = n := ⟨_, rfl⟩
    rw [hf] at hx
    have h2 : ({ u with free := u.free + 1 } : State).lane k = u.lane k := rfl
    refine ⟨_, exec_next hx (laneComma_wf hk hp) rfl ((State.modLane_pending _ _ _).trans ho.pending), ?_, ho'.trans (laneOnly_modLane k _ _)⟩
    rw [lane_modLane_same, h2, h1]

/-! ### Code groups (R241, R242) -/

/-- What one code group does to a lane that may take it. -/
def State.groupArrives (k : Nat) (t : State) (g : Nat) : State := if (t.lane k).lock < 2 || (t.lane k).measuring then t else t.takeGroup k g

theorem laneInvalidSymbol_exec (k : Nat) (l : List Nat) (g : Nat) (s : State) : exec (.laneInvalidSymbol k l g) s = guarded (.laneInvalidSymbol k l g) s
    ((l ++ [g]).foldl (fun t g => t.groupArrives k g) s) := rfl

theorem laneInvalidSymbol_wf {k g : Nat} {l : List Nat} (hk : k < 1168) (hg : g < 1024) (hl : ∀ x ∈ l, x < 1024) : (Instr.laneInvalidSymbol k l g).wellFormed = true := by
  change (decide (k < 1168) && decide (g < 1024) && l.all fun x => decide (x < 1024)) = true
  simpa [hk, hg] using hl

@[simp] theorem State.reportLoss_pending (k : Nat) (s : State) : (s.reportLoss k).pending = s.pending := by
  unfold State.reportLoss
  dsimp only
  split
  · simp
  split
  · split <;> simp
  split <;> simp

@[simp] theorem State.postLock_pending (k cause : Nat) (lost : Bool) (s : State) : (s.postLock k lost cause).pending = s.pending := (postLock_noted k cause lost s).1.pending

@[simp] theorem State.loseLock_pending (k new cause : Nat) (s : State) : (s.loseLock k new cause).pending = s.pending := by
  rw [loseLock_eq]
  split <;> simp

@[simp] theorem State.countSymbols_pending (k n cause : Nat) (s : State) : (s.countSymbols k n cause).pending = s.pending := by
  unfold State.countSymbols
  dsimp only
  split
  · rfl
  split <;> simp

theorem takeGroup_eq (k g : Nat) (s : State) : s.takeGroup k g = match checkGroup g (s.lane k).rd with
    | .valid => (s.modLane k fun y => { y with rd := rdGroup g y.rd }).modLane k fun y => if 16 ≤ y.validRun + 1 then { y with validRun := 0, errs := y.errs - 1 } else { y with validRun := y.validRun + 1 }
    | c => if (s.lane k).lock = 2 then
        ((s.modLane k fun y => { y with rd := rdGroup g y.rd }).modLane k fun y => if c = .disparity then { y with disparity := sat32 (y.disparity + 1) }
          else { y with violations := sat32 (y.violations + 1) }).modLane k fun y => { y with lock := 1, commas := 0, validRun := 0 }
      else State.countSymbols k 1 1 ((s.modLane k fun y => { y with rd := rdGroup g y.rd }).modLane k fun y => if c = .disparity then { y with disparity := sat32 (y.disparity + 1) }
          else { y with violations := sat32 (y.violations + 1) }) := rfl

@[simp] theorem State.takeGroup_pending (k g : Nat) (s : State) : (s.takeGroup k g).pending = s.pending := by
  rw [takeGroup_eq]
  split
  · simp
  · split <;> simp

@[simp] theorem State.groupArrives_pending (k g : Nat) (s : State) : (s.groupArrives k g).pending = s.pending := by
  unfold State.groupArrives
  split
  · rfl
  · exact State.takeGroup_pending k g s

theorem laneInvalidSymbol_cons {k g h : Nat} {r : List Nat} {s : State} (hk : k < 1168) (hg : g < 1024) (hh : h < 1024) (hr : ∀ x ∈ r, x < 1024) :
    ∃ t, exec (.laneInvalidSymbol k [] g) s = .next t ∧ exec (.laneInvalidSymbol k (g :: r) h) s = exec (.laneInvalidSymbol k r h) t := by
  refine ⟨_, exec_next (laneInvalidSymbol_exec k [] g s) (laneInvalidSymbol_wf hk hg (by simp)) rfl (State.groupArrives_pending k g s), ?_⟩
  rw [laneInvalidSymbol_exec, laneInvalidSymbol_exec, guarded_of_wf s (laneInvalidSymbol_wf hk hh (by simpa [hg] using hr)),
    guarded_of_wf _ (laneInvalidSymbol_wf hk hh hr)]
  congr 2
  exact (State.groupArrives_pending k g s).symm

theorem groupArrives_unlocked {k : Nat} {s : State} (h : (s.lane k).lock < 2 ∨ (s.lane k).measuring = true) (g : Nat) : s.groupArrives k g = s :=
  if_pos (by simpa using h)

theorem laneInvalidSymbol_unlocked {k h : Nat} {g : List Nat} {s : State} (hk : k < 1168) (hh : h < 1024) (hg : ∀ x ∈ g, x < 1024)
    (hl : (s.lane k).lock < 2 ∨ (s.lane k).measuring = true) : exec (.laneInvalidSymbol k g h) s = .next s := by
  have key : ∀ l : List Nat, l.foldl (fun t g => t.groupArrives k g) s = s := by
    intro l
    induction l with
    | nil => rfl
    | cons a l ih => rw [List.foldl_cons, groupArrives_unlocked hl, ih]
  exact exec_next (laneInvalidSymbol_exec k g h s) (laneInvalidSymbol_wf hk hh hg) (key _) rfl

theorem laneInvalidSymbol_one {k g : Nat} {s t : State} (hk : k < 1168) (hg : g < 1024) (hm : (s.lane k).measuring = false) (hl : 2 ≤ (s.lane k).lock)
    (ht : s.takeGroup k g = t) : exec (.laneInvalidSymbol k [] g) s = .next t := by
  refine exec_next (laneInvalidSymbol_exec k [] g s) (laneInvalidSymbol_wf hk hg (by simp)) ((if_neg ?_).trans ht) (by rw [← ht]; exact State.takeGroup_pending k g s)
  simp [hm]
  omega

/-- A code group that is not valid is counted by its kind. -/
def Lane.badGroup (c : GroupCheck) (g : Nat) (x : Lane) : Lane :=
  { x with rd := rdGroup g x.rd, disparity := if c = .disparity then sat32 (x.disparity + 1) else x.disparity
           violations := if c = .disparity then x.violations else sat32 (x.violations + 1) }

theorem takeGroup_bad {k g : Nat} {s : State} (h : checkGroup g (s.lane k).rd ≠ .valid) : ∃ u, LaneOnly k s u ∧ u.lane k = (s.lane k).badGroup (checkGroup g (s.lane k).rd) g
    ∧ s.takeGroup k g = if (s.lane k).lock = 2 then u.modLane k fun y => { y with lock := 1, commas := 0, validRun := 0 } else u.countSymbols k 1 1 := by
  refine ⟨_, (laneOnly_modLane k _ s).trans (laneOnly_modLane k (fun y => if checkGroup g (s.lane k).rd = .disparity then { y with disparity := sat32 (y.disparity + 1) }
          else { y with violations := sat32 (y.violations + 1) }) (s.modLane k fun y => { y with rd := rdGroup g y.rd })), ?_, ?_⟩
  · rw [lane_modLane_same, lane_modLane_same]
    unfold Lane.badGroup
    split <;> rfl
  · rw [takeGroup_eq]
    split
    · next hv => exact absurd hv h
    · rfl

theorem takeGroup_valid {k g : Nat} {s : State} (h : checkGroup g (s.lane k).rd = .valid) : LaneOnly k s (s.takeGroup k g) ∧ (s.takeGroup k g).lane k = { s.lane k with
    rd := rdGroup g (s.lane k).rd, validRun := if 15 ≤ (s.lane k).validRun then 0 else (s.lane k).validRun + 1
    errs := if 15 ≤ (s.lane k).validRun then (s.lane k).errs - 1 else (s.lane k).errs } := by
  have ht : s.takeGroup k g = (s.modLane k fun y => { y with rd := rdGroup g y.rd }).modLane k
      fun y => if 16 ≤ y.validRun + 1 then { y with validRun := 0, errs := y.errs - 1 } else { y with validRun := y.validRun + 1 } := by
    rw [takeGroup_eq, h]
  rw [ht]
  refine ⟨(laneOnly_modLane k _ s).trans (laneOnly_modLane k _ _), ?_⟩
  rw [lane_modLane_same, lane_modLane_same]
  by_cases hv : 15 ≤ (s.lane k).validRun
  · rw [if_pos hv, if_pos hv, if_pos (by dsimp only; omega)]
  · rw [if_neg hv, if_neg hv, if_neg (by dsimp only; omega)]

theorem countSymbols_eq (k n cause : Nat) (s : State) : s.countSymbols k n cause =
    if (s.lane k).lock ≠ 3 then s
    else if 4 ≤ (s.lane k).errs + n then s.loseLock k 1 cause
    else s.modLane k fun y => { y with errs := (s.lane k).errs + n, validRun := 0 } := rfl

theorem takeGroup_counted {k g : Nat} {s : State} (h : checkGroup g (s.lane k).rd ≠ .valid) (hl : (s.lane k).lock = 2 ∨ (s.lane k).lock = 3 ∧ (s.lane k).errs < 3) :
    LaneOnly k s (s.takeGroup k g) ∧ (s.takeGroup k g).lane k = { (s.lane k).badGroup (checkGroup g (s.lane k).rd) g with
      validRun := 0, lock := if (s.lane k).lock = 2 then 1 else 3, commas := if (s.lane k).lock = 2 then 0 else (s.lane k).commas
      errs := if (s.lane k).lock = 2 then (s.lane k).errs else (s.lane k).errs + 1 } := by
  obtain ⟨u, ho, hu, ht⟩ := takeGroup_bad h
  rw [ht]
  rcases hl with hl | ⟨hl, he⟩
  · rw [if_pos hl]
    refine ⟨ho.trans (laneOnly_modLane k _ u), ?_⟩
    rw [lane_modLane_same, hu, if_pos hl, if_pos hl, if_pos hl]
    rfl
  · have hul : (u.lane k).lock = 3 := by rw [hu]; exact hl
    have hue : (u.lane k).errs = (s.lane k).errs := by rw [hu]; rfl
    rw [if_neg (by omega), countSymbols_eq, if_neg (by omega), if_neg (by omega)]
    refine ⟨ho.trans (laneOnly_modLane k _ u), ?_⟩
    rw [lane_modLane_same, hu, if_neg (by omega), if_neg (by omega), if_neg (by omega), ← hl]
    rfl

theorem takeGroup_lost {k g : Nat} {s : State} (hk : k < 1024) (h : checkGroup g (s.lane k).rd ≠ .valid) (hp : s.portEnd k = none) (hm : (s.lane k).measuring = false)
    (hw : (s.lane k).winEnd ≤ s.now) (hl : (s.lane k).lock = 3) (he : 3 ≤ (s.lane k).errs) : LockLost k 1 s (s.takeGroup k g) := by
  obtain ⟨u, ho, hu, ht⟩ := takeGroup_bad h
  have hport : u.portEnd k = none := by rw [portEnd_congr (s := s) (by rw [ho.2]) (by rw [ho.2]), hp]
  have hnow : u.now = s.now := by rw [ho.2]
  have hul : (u.lane k).lock = 3 := by rw [hu]; exact hl
  have hue : (u.lane k).errs = (s.lane k).errs := by rw [hu]; rfl
  rw [ht, if_neg (by omega), countSymbols_eq, if_neg (by omega), if_pos (by omega)]
  exact (loseLock_lost hk hport hul (by rw [hu]; exact hm) (by rw [hu, hnow]; exact hw)).1.of_laneOnly ho (by rw [hu]; rfl)

/-! ### Rate matching (R244 to R248) -/

/-- The device's own SKIP, as a receiver checks it. -/
abbrev soundSkip (d1 d2 d3 : Nat) : Bool := d1 == 0x5A && d2 == 0xA5 && d3 == 0x5A

/-- The record of a lane that has received a SKIP with fill `n`. -/
def Lane.skipped (n d1 d2 d3 : Nat) (x : Lane) : Lane := { x.setFill n with skipErr := if !soundSkip d1 d2 d3 then sat32 (x.skipErr + 1) else x.skipErr }

theorem skipReceived_exec (k d1 d2 d3 : Nat) (drift : Int) (s : State) : exec (.skipReceived k drift d1 d2 d3) s = guarded (.skipReceived k drift d1 d2 d3) s
    (if !s.hears k then s
    else if (s.lane k).fill + drift ≤ 0 ∨ 16 < (s.lane k).fill + drift then
      ((s.modLane k (Lane.skipped (clampI 0 16 ((s.lane k).fill + drift)).toNat d1 d2 d3)).modLane k
        fun y => { y.setFill 8 with elastic := sat32 (y.elastic + 1) }).countSymbols k 8 3
    else if ((s.modLane k (Lane.skipped (clampI 0 16 ((s.lane k).fill + drift)).toNat d1 d2 d3)).bonded k).2 then
      ((s.modLane k (Lane.skipped (clampI 0 16 ((s.lane k).fill + drift)).toNat d1 d2 d3)).bonded k).1.foldl
        (fun t j => t.modLane j (Lane.rateMatch (clampI 0 16 ((s.lane k).fill + drift)).toNat))
        (s.modLane k (Lane.skipped (clampI 0 16 ((s.lane k).fill + drift)).toNat d1 d2 d3))
    else s.modLane k (Lane.skipped (clampI 0 16 ((s.lane k).fill + drift)).toNat d1 d2 d3)) := rfl

theorem skipReceived_wf {k d1 d2 d3 : Nat} {drift : Int} (hk : k < 1168) (h1 : d1 < 256) (h2 : d2 < 256) (h3 : d3 < 256) :
    (Instr.skipReceived k drift d1 d2 d3).wellFormed = true := by
  change (decide (k < 1168) && decide (d1 < 256) && decide (d2 < 256) && decide (d3 < 256)) = true
  simp [hk, h1, h2, h3]

theorem State.hears_iff (s : State) (k : Nat) : s.hears k = true ↔ (s.lane k).lock = 3 ∧ (s.lane k).measuring = false := by simp [State.hears]

theorem clampI_of_mem {v : Nat} (h : v ≤ 16) : (clampI 0 16 (v : Int)).toNat = v := by
  unfold clampI
  omega

theorem skipReceived_matched {k v d1 d2 d3 : Nat} {drift : Int} {s : State} (hk : k < 1024) (h1 : d1 < 256) (h2 : d2 < 256) (h3 : d3 < 256) (hh : s.hears k = true)
    (hv : (v : Int) = (s.lane k).fill + drift) (hlo : 1 ≤ v) (hhi : v ≤ 16) : ∃ t, exec (.skipReceived k drift d1 d2 d3) s = .next t
      ∧ t.lane k = ((s.lane k).skipped v d1 d2 d3).rateMatch v ∧ LaneOnly k s t := by
  have hx := skipReceived_exec k d1 d2 d3 drift s
  rw [if_neg (by simp [hh]), ← hv, clampI_of_mem hhi, if_neg (by omega)] at hx
  have hb : (s.modLane k (Lane.skipped v d1 d2 d3)).bonded k = ([k], true) := by
    unfold State.bonded
    rw [if_pos hk]
  rw [hb] at hx
  refine ⟨_, exec_next hx (skipReceived_wf (by omega) h1 h2 h3) (if_pos rfl) rfl, ?_, ?_⟩
  · rw [List.foldl_cons, List.foldl_nil, lane_modLane_same, lane_modLane_same]
  · exact (laneOnly_modLane k _ s).trans (laneOnly_modLane k _ _)

theorem rateMatch_skipped {v d1 d2 d3 : Nat} {x : Lane} (hl : x.lock = 3) (hhi : v ≤ 16) : (x.skipped v d1 d2 d3).rateMatch v = { x with
    fill := if 10 ≤ v then v - 4 else if v ≤ 6 then v + 4 else v, fillClear := false
    fillMin := min (if x.fillClear then v else min x.fillMin v) (if 10 ≤ v then v - 4 else if v ≤ 6 then v + 4 else v)
    fillMax := max (if x.fillClear then v else max x.fillMax v) (if 10 ≤ v then v - 4 else if v ≤ 6 then v + 4 else v)
    skipErr := if d1 = 0x5A ∧ d2 = 0xA5 ∧ d3 = 0x5A then x.skipErr else min (x.skipErr + 1) (2 ^ 32 - 1)
    skipDel := if 10 ≤ v then min (x.skipDel + 1) (2 ^ 32 - 1) else x.skipDel, skipIns := if v ≤ 6 then min (x.skipIns + 1) (2 ^ 32 - 1) else x.skipIns } := by
  have herr : (if !soundSkip d1 d2 d3 then sat32 (x.skipErr + 1) else x.skipErr) = if d1 = 0x5A ∧ d2 = 0xA5 ∧ d3 = 0x5A then x.skipErr else min (x.skipErr + 1) (2 ^ 32 - 1) := by
    by_cases h : d1 = 0x5A ∧ d2 = 0xA5 ∧ d3 = 0x5A
    · rw [if_pos h, if_neg (by simp [soundSkip, h])]
    · rw [if_neg h, if_pos (by rw [Bool.not_eq_true', Bool.eq_false_iff]; simpa [soundSkip, and_assoc] using h)]
      rfl
  refine (if_neg (fun h => h hl)).trans ?_
  unfold Lane.skipped
  rw [herr]
  dsimp only [Lane.setFill]
  by_cases h10 : 10 ≤ v
  · simp only [h10, if_true, if_neg (show ¬ v ≤ 6 by omega)]
    rfl
  · by_cases h6 : v ≤ 6
    · have h16 : min (v + 4) 16 = v + 4 := by omega
      simp only [h10, h6, if_true, if_false, h16]
      rfl
    · have hmin : min (if x.fillClear then v else min x.fillMin v) v = if x.fillClear then v else min x.fillMin v := by split <;> omega
      have hmax : max (if x.fillClear then v else max x.fillMax v) v = if x.fillClear then v else max x.fillMax v := by split <;> omega
      simp only [h10, h6, if_false, hmin, hmax]

theorem skipReceived_recentred {k d1 d2 d3 : Nat} {drift : Int} {s : State} (hk : k < 1024) (h1 : d1 < 256) (h2 : d2 < 256) (h3 : d3 < 256) (hh : s.hears k = true)
    (hv : ((s.lane k).fill : Int) + drift ≤ 0 ∨ 16 < ((s.lane k).fill : Int) + drift) (hp : s.portEnd k = none) (hw : (s.lane k).winEnd ≤ s.now) :
    ∃ t, exec (.skipReceived k drift d1 d2 d3) s = .next t ∧ (t.lane k).elastic = min ((s.lane k).elastic + 1) (2 ^ 32 - 1) ∧ (t.lane k).fill = 8 ∧ LockLost k 1 s t := by
  obtain ⟨hlock, hm⟩ := (s.hears_iff k).1 hh
  have hx := skipReceived_exec k d1 d2 d3 drift s
  rw [if_neg (by simp [hh]), if_pos hv] at hx
  obtain ⟨u, hu, ho, hlane⟩ : ∃ u, u = (s.modLane k (Lane.skipped (clampI 0 16 ((s.lane k).fill + drift)).toNat d1 d2 d3)).modLane k
        (fun y => { y.setFill 8 with elastic := sat32 (y.elastic + 1) }) ∧ LaneOnly k s u
      ∧ u.lane k = { ((s.lane k).skipped (clampI 0 16 ((s.lane k).fill + drift)).toNat d1 d2 d3).setFill 8 with elastic := sat32 ((s.lane k).elastic + 1) } :=
    ⟨_, rfl, (laneOnly_modLane k _ s).trans (laneOnly_modLane k _ _), by rw [lane_modLane_same, lane_modLane_same]; rfl⟩
  rw [← hu] at hx
  have hport : u.portEnd k = none := by rw [portEnd_congr (s := s) (by rw [ho.2]) (by rw [ho.2]), hp]
  have hnow : u.now = s.now := by rw [ho.2]
  have hul : (u.lane k).lock = 3 := by rw [hlane]; exact hlock
  rw [countSymbols_eq, if_neg (by omega), if_pos (by omega)] at hx
  obtain ⟨hlost, t, n, ht⟩ := loseLock_lost (new := 1) (cause := 3) hk hport hul (by rw [hlane]; exact hm) (by rw [hlane, hnow]; exact hw)
  refine ⟨_, exec_next hx (skipReceived_wf (by omega) h1 h2 h3) rfl (hlost.pending.trans ho.pending), ?_, ?_, hlost.of_laneOnly ho (by rw [hlane]; rfl)⟩
  · rw [ht, hlane]
    rfl
  · rw [ht, hlane]
    rfl

theorem skipSend_exec (k : Nat) (s : State) : exec (.skipSend k) s = guarded (.skipSend k) s
    (if (s.lane k).tx ≠ 3 then s else ((s.bonded k).1.filter fun j => (s.lane j).tx == 3).foldl (fun t j => t.emit (.lane j 0 0x5A 0xA5 0x5A)) s) := rfl

/-! ### Wake-up (R256, R258) -/

theorem laneWakeDone_exec (k : Nat) (tx : Bool) (s : State) : exec (.laneWakeDone k tx) s = guarded (.laneWakeDone k tx) s
    (if tx then (if (s.laneWanted k).1 ≤ (s.lane k).tx then s
        else (if (if tx then (s.lane k).tx else (s.lane k).rx) = 1 then
          ({ s with free := s.free + 1 } : State).modLane k fun y => { y with calTime := s.now, corr := s.fresh.1, corrOld := y.corr } else s).modLane k
            fun y => { y with tx := (s.laneWanted k).1 })
    else if (s.laneWanted k).2 ≤ (s.lane k).rx then s
    else (if (if tx then (s.lane k).tx else (s.lane k).rx) = 1 then
        ({ s with free := s.free + 1 } : State).modLane k fun y => { y with calTime := s.now, corr := s.fresh.1, corrOld := y.corr } else s).modLane k
      fun y => { y with rx := (s.laneWanted k).2, rd := false, lock := if y.lock = 0 ∧ y.signal = true ∧ (s.laneWanted k).2 = 3 then 1 else y.lock }) := rfl

/-- The direction that wakes reaches its state in service: at once, or calibrated out of DEEP. -/
theorem laneWakeDone_wakes {k : Nat} {tx : Bool} {s : State} {f : Lane → Lane} (hk : k < 1168)
    (h : exec (.laneWakeDone k tx) s = guarded (.laneWakeDone k tx) s ((if (if tx then (s.lane k).tx else (s.lane k).rx) = 1 then
        ({ s with free := s.free + 1 } : State).modLane k fun y => { y with calTime := s.now, corr := s.fresh.1, corrOld := y.corr } else s).modLane k f)) :
    ((if tx then (s.lane k).tx else (s.lane k).rx) ≠ 1 → ∃ t, exec (.laneWakeDone k tx) s = .next t ∧ t.lane k = f (s.lane k) ∧ LaneOnly k s t)
    ∧ ((if tx then (s.lane k).tx else (s.lane k).rx) = 1 → ∃ t n, exec (.laneWakeDone k tx) s = .next t
        ∧ t.lane k = f { s.lane k with calTime := s.now, corr := n, corrOld := (s.lane k).corr } ∧ LaneOnly k { s with free := s.free + 1 } t) := by
  refine ⟨fun hd => ?_, fun hd => ?_⟩
  · rw [if_neg hd] at h
    exact ⟨_, exec_next h (decide_eq_true hk) rfl rfl, lane_modLane_same k f s, laneOnly_modLane k f s⟩
  · rw [if_pos hd] at h
    refine ⟨_, s.fresh.1, exec_next h (decide_eq_true hk) rfl rfl, ?_, (laneOnly_modLane k _ _).trans (laneOnly_modLane k f _)⟩
    rw [lane_modLane_same, lane_modLane_same]
    rfl

end Sys2Proof.Machine

open Sys2Proof Sys2Proof.Machine in
/-- Settles O34: each command of symbol lock, rate matching and wake-up changes one lane's record; a loss of lock on a port without a loop posts besides. -/
theorem lanesLockAndCount : Obligations.LanesLockAndCount := by
  unfold Obligations.LanesLockAndCount
  refine ⟨fun k s hk => ⟨fun h => ?_, fun h => ?_⟩, fun k s hk hl => ⟨?_, ?_⟩, fun k s hk hl h => laneSignalLoss_quietly hk hl h, fun k s hk hp hl hm hw => ⟨?_, ?_⟩,
    fun k p s hk hp hm => ⟨fun hl => ?_, fun hl hph => ?_, fun hl hph hc => ?_, fun hl hph hc hlost => laneComma_locks hk hp hm hl hph hc hlost⟩, fun k p s hk hp h => ?_,
    fun k g h r s hk hg hh hr => laneInvalidSymbol_cons hk hg hh hr, fun k h g s hk hh hg hl => laneInvalidSymbol_unlocked hk hh hg hl,
    fun k g s hk hg hm hl => ⟨fun hv => ?_, fun hv hcase => ?_, fun hv hl3 he hk' hp hw => ?_⟩, fun k v d1 d2 d3 drift s hk h1 h2 h3 => ⟨fun hh => ?_, fun hh hv hlo hhi => ?_,
      fun hh hv hp hw => skipReceived_recentred hk h1 h2 h3 hh hv hp hw⟩, fun k s hk => ⟨fun h => ?_, fun h => ?_⟩, fun k s hk => ⟨fun h => ?_, fun h => ?_, fun h => ?_, fun h => ?_⟩⟩
  · exact exec_next (i := .laneSignalDetect k) rfl (decide_eq_true hk) (if_neg (by simp [h])) rfl
  · exact ⟨_, exec_next (i := .laneSignalDetect k) rfl (decide_eq_true hk) (if_pos h) rfl, lane_modLane_same k _ s, laneOnly_modLane k _ s⟩
  · exact exec_next (laneCommaTimeout_exec k s) (decide_eq_true hk) (if_neg hl) rfl
  · exact ⟨_, exec_next (laneSignalLoss_exec k s) (decide_eq_true hk) (if_neg hl) rfl, lane_modLane_same k _ s, laneOnly_modLane k _ s⟩
  · exact laneSignalLoss_lost hk hp hl hm hw
  · exact ⟨_, exec_next (laneCommaTimeout_exec k s) (decide_eq_true (by omega)) (if_pos hl) (State.loseLock_pending _ _ _ _), (loseLock_lost hk hp hl hm hw).1⟩
  · have hx := laneComma_exec k p s
    rw [if_neg (by simp [hm]), if_pos hl] at hx
    exact laneComma_changes hk hp hx
  · have hx := laneComma_exec k p s
    rw [if_neg (by simp [hm]), if_neg (by omega), if_pos hl, if_pos fun h => hph h.symm] at hx
    exact laneComma_changes hk hp hx
  · have hx := laneComma_exec k p s
    rw [if_neg (by simp [hm]), if_neg (by omega), if_pos hl, if_neg (by simp [hph]), if_neg (by omega)] at hx
    exact laneComma_changes hk hp hx
  · refine exec_next (laneComma_exec k p s) (laneComma_wf hk hp) ?_ rfl
    by_cases hm : (s.lane k).measuring = true
    · rw [if_pos hm]
    · have hl : (s.lane k).lock = 0 ∨ (s.lane k).lock = 3 := h.resolve_left hm
      rw [if_neg hm, if_neg (by omega), if_neg (by omega)]
  · obtain ⟨ho, hlane⟩ := takeGroup_valid hv
    exact ⟨_, laneInvalidSymbol_one hk hg hm hl rfl, hlane, ho⟩
  · obtain ⟨ho, hlane⟩ := takeGroup_counted hv hcase
    refine ⟨_, laneInvalidSymbol_one hk hg hm hl rfl, by rw [hlane]; rfl, by rw [hlane], by rw [hlane], fun h => ?_, fun h => ?_, by rw [hlane]; rfl, by rw [hlane]; rfl, ho⟩
    · rw [hlane]
      exact if_pos h
    · rw [hlane]
      exact if_neg (by omega)
  · exact ⟨_, laneInvalidSymbol_one hk hg hm hl rfl, takeGroup_lost hk' hv hp hm hw hl3 he⟩
  · exact exec_next (skipReceived_exec k d1 d2 d3 drift s) (skipReceived_wf (by omega) h1 h2 h3) (if_pos (by simp [hh])) rfl
  · obtain ⟨t, hx, hlane, ho⟩ := skipReceived_matched hk h1 h2 h3 hh hv hlo hhi
    rw [rateMatch_skipped ((s.hears_iff k).1 hh).1 hhi] at hlane
    exact ⟨t, hx, by rw [hlane], ho, by rw [hlane], by rw [hlane]⟩
  · exact exec_next (skipSend_exec k s) (decide_eq_true hk) (if_pos h) rfl
  · refine exec_next (skipSend_exec k s) (decide_eq_true hk) ((if_neg fun hne => hne h).trans (foldl_emit _ _ s)) rfl
  · exact exec_next (laneWakeDone_exec k true s) (decide_eq_true hk) (if_pos h) rfl
  · exact exec_next (laneWakeDone_exec k false s) (decide_eq_true hk) (if_pos h) rfl
  · have hx := laneWakeDone_exec k true s
    rw [if_pos rfl, if_neg (by omega)] at hx
    obtain ⟨h1, h2⟩ := laneWakeDone_wakes hk hx
    refine ⟨h1, fun hd => ?_⟩
    obtain ⟨t, n, ht, hlane, ho⟩ := h2 hd
    exact ⟨t, ht, by rw [hlane], ho⟩
  · have hx := laneWakeDone_exec k false s
    rw [if_neg Bool.false_ne_true, if_neg (by omega)] at hx
    obtain ⟨h1, h2⟩ := laneWakeDone_wakes hk hx
    refine ⟨_, rfl, fun hd => h1 hd, fun hd => ?_⟩
    obtain ⟨t, n, ht, hlane, ho⟩ := h2 hd
    exact ⟨t, ht, by rw [hlane], ho⟩
end

section
/-! The figure of merit, the lane monitor and EYE_SCAN (O35; 08_serial_lanes.md). -/

namespace Sys2Proof.Machine

/-! ### FOM_WINDOW (R252) -/

theorem fomWindow_exec (k a d : Nat) (s : State) : exec (.fomWindow k a d) s = guarded (.fomWindow k a d) s
    (if (s.lane k).lock ≠ 3 then s
    else ({ s with free := s.free + 1 } : State).modLane k fun y => { y with
      fom := if a = 0 then s.fresh.1 / 16 % 256 else figureOfMerit a d, fomLow := some (min (if a = 0 then s.fresh.1 / 16 % 256 else figureOfMerit a d) (y.fomLow.getD 255))
      ctle := s.fresh.1 % 16, taps := s.fresh.1 / 4096 }) := rfl

theorem fomWindow_sets {k a d : Nat} {s : State} (hk : k < 1168) (hl : (s.lane k).lock = 3) : ∃ t, exec (.fomWindow k a d) s = .next t
    ∧ (t.lane k).fom = (if a = 0 then s.fresh.1 / 16 % 256 else figureOfMerit a d)
    ∧ t.lane k = { s.lane k with fom := (t.lane k).fom, fomLow := some (min (t.lane k).fom ((s.lane k).fomLow.getD 255)), ctle := (t.lane k).ctle, taps := (t.lane k).taps }
    ∧ LaneOnly k { s with free := s.free + 1 } t := by
  have hx := fomWindow_exec k a d s
  rw [if_neg fun h => h hl] at hx
  have hlane := lane_modLane_same k (fun y => { y with
      fom := if a = 0 then s.fresh.1 / 16 % 256 else figureOfMerit a d, fomLow := some (min (if a = 0 then s.fresh.1 / 16 % 256 else figureOfMerit a d) (y.fomLow.getD 255))
      ctle := s.fresh.1 % 16, taps := s.fresh.1 / 4096 }) { s with free := s.free + 1 }
  exact ⟨_, exec_next hx (decide_eq_true hk) rfl rfl, by rw [hlane], by rw [hlane]; rfl, laneOnly_modLane k _ _⟩

/-! ### LANE_MONITOR (R255) -/

/-- What the monitor does to one lane of group `g`. -/
def State.monitorLane (g : Nat) (scans : List (Nat × Nat)) (t : State) (k : Nat) : State :=
  if (t.lane k).lock ≠ 3 then t
  else if t.getP P.LN_MEASURE g = 0 then (match (t.lane k).fomLow with
    | some q => t.takeQuality k q 0
    | none => t)
  else if t.ln.scans.any (fun e => e.lane == k) then t
  else match scans.find? fun e => e.1 == k with
    | some e => t.takeQuality k (min e.2 254) 1
    | none => t

theorem laneMonitor_exec (g : Nat) (l : List (Nat × Nat)) (s : State) : exec (.laneMonitor g l) s = guarded (.laneMonitor g l) s
    (((groupLanes g).foldl (State.monitorLane g l) s).reportWorst g) := rfl

theorem monitorLane_unlocked {g k : Nat} {l : List (Nat × Nat)} {s : State} (h : (s.lane k).lock ≠ 3) : s.monitorLane g l k = s := if_pos h

theorem reportWorst_unlocked {g : Nat} {s : State} (h : ∀ k ∈ groupLanes g, (s.lane k).lock ≠ 3) : s.reportWorst g = s := by
  have hnil : ((groupLanes g).filter fun k => (s.lane k).lock == 3) = [] := List.filter_eq_nil_iff.2 fun k hk => by simpa using h k hk
  unfold State.reportWorst
  rw [hnil]
  rfl

theorem laneMonitor_unlocked {g : Nat} {l : List (Nat × Nat)} {s : State} (hg : g < 28) (h : ∀ k ∈ groupLanes g, (s.lane k).lock ≠ 3) :
    exec (.laneMonitor g l) s = .next s := by
  refine exec_next (laneMonitor_exec g l s) (decide_eq_true hg) ?_ rfl
  rw [foldl_fixed_of_mem (f := State.monitorLane g l) fun k hk => monitorLane_unlocked (h k hk), reportWorst_unlocked h]

theorem monitorLane_fom {g k q : Nat} {l : List (Nat × Nat)} {s : State} (hl : (s.lane k).lock = 3) (hm : s.getP P.LN_MEASURE g = 0) (hq : (s.lane k).fomLow = some q) :
    s.monitorLane g l k = s.takeQuality k q 0 := by
  unfold State.monitorLane
  rw [if_neg fun h => h hl, if_pos hm, hq]

theorem monitorLane_idle {g k : Nat} {l : List (Nat × Nat)} {s : State} (hm : s.getP P.LN_MEASURE g = 0) (hq : (s.lane k).fomLow = none) : s.monitorLane g l k = s := by
  unfold State.monitorLane
  rw [if_pos hm, hq]
  split <;> rfl

theorem laneGroupOf_mem {g k : Nat} (hg : g < 28) (hk : k ∈ groupLanes g) : laneGroupOf k = g := by
  unfold groupLanes at hk
  unfold laneGroupOf
  split at hk
  · obtain ⟨i, hi, rfl⟩ := List.mem_map.1 hk
    have := List.mem_range.1 hi
    rw [if_pos (by omega)]
    omega
  split at hk
  · obtain ⟨i, hi, rfl⟩ := List.mem_map.1 hk
    have := List.mem_range.1 hi
    rw [if_neg (by omega), if_pos (by omega)]
    omega
  · simp only [List.mem_cons, List.not_mem_nil, or_false] at hk
    rw [if_neg (by omega), if_neg (by omega)]
    omega

/-- The monitor's fold where only lane `k` of the group is LOCKED, and nothing of the others changes when its quality is taken. -/
theorem monitorLanes_one {g k : Nat} {l : List (Nat × Nat)} {s t : State} (hk : k ∈ groupLanes g) (hone : ∀ j ∈ groupLanes g, j ≠ k → (s.lane j).lock ≠ 3)
    (ht : s.monitorLane g l k = t) (hoth : ∀ j, j ≠ k → t.lane j = s.lane j) (hm : t.getP P.LN_MEASURE g = 0) (hq : (t.lane k).fomLow = none) :
    (groupLanes g).foldl (State.monitorLane g l) s = t := by
  obtain ⟨as, bs, hsplit, has⟩ := List.eq_append_cons_of_mem hk
  rw [hsplit] at hone ⊢
  rw [List.foldl_append, List.foldl_cons, foldl_fixed_of_mem (f := State.monitorLane g l) (l := as) fun j hj =>
    monitorLane_unlocked (hone j (by simp [hj]) fun h => has (h ▸ hj)), ht]
  refine foldl_fixed_of_mem (f := State.monitorLane g l) fun j hj => ?_
  by_cases h : j = k
  · rw [h]
    exact monitorLane_idle hm hq
  · exact monitorLane_unlocked (by rw [hoth j h]; exact hone j (by simp [hj]) h)

/-- The lower of the quality found so far and that of lane `k`. -/
def State.worseLane (s : State) (b : Option (Nat × Nat)) (k : Nat) : Option (Nat × Nat) :=
  match b with
  | none => some ((s.lane k).quality, k)
  | some w => if (s.lane k).quality < w.1 then some ((s.lane k).quality, k) else b

theorem reportWorst_eq (g : Nat) (s : State) : s.reportWorst g = match ((groupLanes g).filter fun k => (s.lane k).lock == 3).foldl s.worseLane none with
    | some w => s.setP P.LN_WORST g (w.1 + at' 16 w.2)
    | none => s := rfl

/-- One LOCKED lane of the group is its worst. -/
theorem reportWorst_one {g k : Nat} {s : State} (hk : k ∈ groupLanes g) (hl : (s.lane k).lock = 3) (hone : ∀ j ∈ groupLanes g, j ≠ k → (s.lane j).lock ≠ 3) :
    s.reportWorst g = s.setP P.LN_WORST g ((s.lane k).quality + at' 16 k) := by
  have hall : ∀ j ∈ (groupLanes g).filter (fun k => (s.lane k).lock == 3), j = k := fun j hj => by
    obtain ⟨hj, hjl⟩ := List.mem_filter.1 hj
    exact Decidable.byContradiction fun h => hone j hj h (by simpa using hjl)
  have hmem : k ∈ (groupLanes g).filter (fun k => (s.lane k).lock == 3) := List.mem_filter.2 ⟨hk, by simpa using hl⟩
  rw [reportWorst_eq]
  generalize (groupLanes g).filter (fun k => (s.lane k).lock == 3) = w at hall hmem
  cases w with
  | nil => cases hmem
  | cons a w =>
    have ha : a = k := hall a List.mem_cons_self
    have hrest : w.foldl s.worseLane (some ((s.lane k).quality, k)) = some ((s.lane k).quality, k) := foldl_fixed_of_mem fun j hj => by
      rw [hall j (List.mem_cons_of_mem _ hj)]
      exact if_neg (Nat.lt_irrefl _)
    rw [List.foldl_cons, ha, show s.worseLane none k = some ((s.lane k).quality, k) from rfl, hrest]

/-! ### The quality of one lane (R255, R259) -/

/-- The record of a lane whose quality `q` the monitor has taken. -/
abbrev Lane.monitored (q : Nat) (x : Lane) : Lane := { x with quality := q, fomLow := none }

/-- LANE_QUALITY of lane `k` is posted, as below its limit or as back above it. -/
def State.noteQuality (k q method : Nat) (below : Bool) (t : State) : State :=
  (t.modLane k fun y => { y with low := below }).post 0x61 (laneSource k).1 (laneSource k).2 (k + at' 16 q + at' 24 (b2n below) + at' 25 method)

theorem takeQuality_eq (k q method : Nat) (s : State) : s.takeQuality k q method =
    if q < s.getP P.LN_QUALITY_MIN (laneGroupOf k) then
      if (if (s.lane k).low then s.modLane k (Lane.monitored q) else (s.modLane k (Lane.monitored q)).noteQuality k q method true).getP P.LN_CAL_ENABLE (laneGroupOf k) = 1 then
        (if (s.lane k).low then s.modLane k (Lane.monitored q) else (s.modLane k (Lane.monitored q)).noteQuality k q method true).makeDue (laneGroupOf k) 2
      else if (s.lane k).low then s.modLane k (Lane.monitored q) else (s.modLane k (Lane.monitored q)).noteQuality k q method true
    else if (s.lane k).low ∧ s.getP P.LN_QUALITY_MIN (laneGroupOf k) + 16 ≤ q then (s.modLane k (Lane.monitored q)).noteQuality k q method false
    else s.modLane k (Lane.monitored q) := rfl

theorem takeQuality_below {k q method : Nat} {s : State} (h : q < s.getP P.LN_QUALITY_MIN (laneGroupOf k)) (hlow : (s.lane k).low = false) :
    s.takeQuality k q method = if ((s.modLane k (Lane.monitored q)).noteQuality k q method true).getP P.LN_CAL_ENABLE (laneGroupOf k) = 1
      then ((s.modLane k (Lane.monitored q)).noteQuality k q method true).makeDue (laneGroupOf k) 2 else (s.modLane k (Lane.monitored q)).noteQuality k q method true := by
  rw [takeQuality_eq, if_pos h, hlow, if_neg Bool.false_ne_true]

theorem takeQuality_fine {k q method : Nat} {s : State} (h : s.getP P.LN_QUALITY_MIN (laneGroupOf k) ≤ q) (hlow : (s.lane k).low = false) :
    s.takeQuality k q method = s.modLane k (Lane.monitored q) := by
  rw [takeQuality_eq, if_neg (Nat.not_lt.2 h), if_neg]
  rw [hlow]
  exact fun h => Bool.false_ne_true h.1

theorem makeDue_eq (g reason : Nat) (s : State) : s.makeDue g reason =
    if s.getP P.LN_CAL_STATE g = 0 then (s.setP P.LN_CAL_STATE g 1).modLaneGroup g fun x => { x with reason := reason }
    else if s.getP P.LN_CAL_STATE g = 2 ∧ reason = 2 then s.modLaneGroup g fun x => { x with again := some 2 }
    else s := rfl

theorem noteQuality_effect (k q method : Nat) (s : State) : EventsOnly { s with ln := { s.ln with lanes := (s.noteQuality k q method true).ln.lanes } } (s.noteQuality k q method true)
    ∧ (s.noteQuality k q method true).lane k = { s.lane k with low := true } ∧ ∀ j, j ≠ k → (s.noteQuality k q method true).lane j = s.lane j := by
  unfold State.noteQuality
  have h1 := lane_modLane_same k (fun y => { y with low := true }) s
  have ho := laneOnly_modLane k (fun y => { y with low := true }) s
  generalize (s.modLane k fun y => { y with low := true }) = u at h1 ho
  have hev := eventsOnly_post u 0x61 (laneSource k).1 (laneSource k).2 (k + at' 16 q + at' 24 (b2n true) + at' 25 method)
  generalize u.post 0x61 (laneSource k).1 (laneSource k).2 (k + at' 16 q + at' 24 (b2n true) + at' 25 method) = v at hev
  have hln : v.ln = u.ln := by
    obtain ⟨⟨_, _, _, _, hv⟩, -⟩ := hev
    rw [hv]
  have hlane (j : Nat) : v.lane j = u.lane j := by rw [State.lane, hln, State.lane]
  refine ⟨?_, (hlane k).trans h1, fun j hj => (hlane j).trans (ho.1 j hj)⟩
  have he : u = { s with ln := { s.ln with lanes := v.ln.lanes } } := by
    rw [hln]
    exact ho.2
  rw [← he]
  exact hev

theorem reportWorst_effect {g k : Nat} {s : State} (hk : k ∈ groupLanes g) (hl : (s.lane k).lock = 3) (hone : ∀ j ∈ groupLanes g, j ≠ k → (s.lane j).lock ≠ 3) :
    (s.reportWorst g).getP P.LN_WORST g = (s.lane k).quality + at' 16 k ∧ SameParams [pkey P.LN_WORST g] s (s.reportWorst g)
      ∧ s.reportWorst g = { s with params := (s.reportWorst g).params } := by
  rw [reportWorst_one hk hl hone]
  have hframe (i e v : Nat) : s.setP i e v = { s with params := (s.setP i e v).params } := rfl
  exact ⟨State.getP_setP_same _ _ _ _, sameParams_setP List.mem_cons_self _, hframe _ _ _⟩

/-- A lane of a group of which it is the only LOCKED one, monitored by its figure of merit. -/
structure FomMonitored (g k q : Nat) (s : State) : Prop where
  group : g < 28
  mem : k ∈ groupLanes g
  locked : (s.lane k).lock = 3
  alone : ∀ j ∈ groupLanes g, j ≠ k → (s.lane j).lock ≠ 3
  byFom : s.getP P.LN_MEASURE g = 0
  lowest : (s.lane k).fomLow = some q
  high : (s.lane k).low = false

theorem laneMonitor_fine {g k q : Nat} {l : List (Nat × Nat)} {s : State} (h : FomMonitored g k q s) (hq : s.getP P.LN_QUALITY_MIN g ≤ q) :
    ∃ t, exec (.laneMonitor g l) s = .next t ∧ t.lane k = { s.lane k with quality := q, fomLow := none }
      ∧ t.getP P.LN_WORST g = q + at' 16 k ∧ SameParams [pkey P.LN_WORST g] s t ∧ LaneOnly k { s with params := t.params } t := by
  obtain ⟨hg, hk, hl, hone, hm, hf, hlow⟩ := h
  have hgk := laneGroupOf_mem hg hk
  have ho := laneOnly_modLane k (Lane.monitored q) s
  have h1 := lane_modLane_same k (Lane.monitored q) s
  have hone' : s.monitorLane g l k = s.modLane k (Lane.monitored q) := (monitorLane_fom hl hm hf).trans (takeQuality_fine (by rw [hgk]; exact hq) hlow)
  generalize s.modLane k (Lane.monitored q) = u at ho h1 hone'
  have hmu : u.getP P.LN_MEASURE g = 0 := by rw [ho.2]; exact hm
  obtain ⟨hw, hsame, hu⟩ := reportWorst_effect (s := u) hk (by rw [h1]; exact hl) fun j hj hne => by rw [ho.1 j hne]; exact hone j hj hne
  have hx := laneMonitor_exec g l s
  rw [monitorLanes_one hk hone hone' ho.1 hmu (by rw [h1])] at hx
  generalize u.reportWorst g = t at hx hw hsame hu
  have hln : t.ln = u.ln := by rw [hu]
  have hlane (j : Nat) : t.lane j = u.lane j := by rw [State.lane, hln, State.lane]
  refine ⟨t, exec_next hx (decide_eq_true hg) rfl (by rw [hu]; exact ho.pending), (hlane k).trans h1, by rw [hw, h1], fun i hi => (hsame i hi).trans (by rw [ho.2]), ?_⟩
  refine ⟨fun j hj => (hlane j).trans (ho.1 j hj), ?_⟩
  rw [ho.2] at hu
  rw [hln]
  exact hu

theorem laneMonitor_due {g k q : Nat} {l : List (Nat × Nat)} {s : State} (h : FomMonitored g k q s) (hq : q < s.getP P.LN_QUALITY_MIN g)
    (hen : s.getP P.LN_CAL_ENABLE g = 1) (hst : s.getP P.LN_CAL_STATE g = 0) : ∃ t, exec (.laneMonitor g l) s = .next t
      ∧ t.lane k = { s.lane k with quality := q, fomLow := none, low := true } ∧ t.getP P.LN_CAL_STATE g = 1 ∧ (t.laneGroup g).reason = 2
      ∧ t.getP P.LN_WORST g = q + at' 16 k ∧ SameParams [pkey P.LN_WORST g, pkey P.LN_CAL_STATE g] s t ∧ (∀ j, j ≠ k → t.lane j = s.lane j)
      ∧ (∀ h, h ≠ g → t.laneGroup h = s.laneGroup h) ∧ t.ln.scans = s.ln.scans ∧ EventsOnly { s with params := t.params, ln := t.ln } t := by
  obtain ⟨hg, hk, hl, hone, hm, hf, hlow⟩ := h
  have hgk := laneGroupOf_mem hg hk
  have ho := laneOnly_modLane k (Lane.monitored q) s
  have h1 := lane_modLane_same k (Lane.monitored q) s
  have hone' := (monitorLane_fom (l := l) hl hm hf).trans (takeQuality_below (method := 0) (by rw [hgk]; exact hq) hlow)
  rw [hgk] at hone'
  generalize s.modLane k (Lane.monitored q) = u at ho h1 hone'
  obtain ⟨hev, h2, hoth⟩ := noteQuality_effect k q 0 u
  generalize u.noteQuality k q 0 true = v at hone' hev h2 hoth
  have hpar : v.params = s.params ∧ v.ln.groups = s.ln.groups ∧ v.ln.scans = s.ln.scans := by
    obtain ⟨⟨_, _, _, _, hv⟩, -⟩ := hev
    rw [hv, ho.2]
    exact ⟨rfl, rfl, rfl⟩
  obtain ⟨hpar, hgroups, hscans⟩ := hpar
  have hget (i : Nat) : v.getP i g = s.getP i g := congrArg (SMap.get pdef · (pkey i g)) hpar
  have hlane (j : Nat) (hj : j ≠ k) : v.lane j = s.lane j := (hoth j hj).trans (ho.1 j hj)
  rw [if_pos (by rw [hget]; exact hen), makeDue_eq, if_pos (by rw [hget]; exact hst)] at hone'
  obtain ⟨d, hd, hdgrp, hdoth, hdst, hdsame, hdframe⟩ : ∃ d, d = (v.setP P.LN_CAL_STATE g 1).modLaneGroup g (fun x => { x with reason := 2 })
      ∧ (d.laneGroup g).reason = 2 ∧ (∀ h, h ≠ g → d.laneGroup h = v.laneGroup h) ∧ d.getP P.LN_CAL_STATE g = 1 ∧ SameParams [pkey P.LN_CAL_STATE g] v d
      ∧ d = { v with params := d.params, ln := { v.ln with groups := d.ln.groups } } := by
    refine ⟨_, rfl, ?_, fun h hh => ?_, State.getP_setP_same _ _ _ _, sameParams_setP List.mem_cons_self _, rfl⟩
    · rw [State.laneGroup_modLaneGroup, if_pos rfl]
    · rw [State.laneGroup_modLaneGroup, if_neg hh]
      rfl
  rw [← hd] at hone'
  have hdlane (j : Nat) : d.lane j = v.lane j := by rw [hdframe]; rfl
  have hkm : pkey P.LN_MEASURE g ≠ pkey P.LN_CAL_STATE g := by simp only [pkey, P.LN_MEASURE, P.LN_CAL_STATE]; omega
  have hkw : pkey P.LN_CAL_STATE g ≠ pkey P.LN_WORST g := by simp only [pkey, P.LN_WORST, P.LN_CAL_STATE]; omega
  have hdk : d.lane k = { s.lane k with quality := q, fomLow := none, low := true } := by rw [hdlane, h2, h1]
  obtain ⟨hw, hsame, hu⟩ := reportWorst_effect (s := d) hk (by rw [hdk]; exact hl) fun j hj hne => by rw [hdlane, hlane j hne]; exact hone j hj hne
  have hx := laneMonitor_exec g l s
  rw [monitorLanes_one hk hone hone' (fun j hj => (hdlane j).trans (hlane j hj)) ((hdsame.getP fun h => hkm (List.mem_singleton.1 h)).trans ((hget _).trans hm)) (by rw [hdk])] at hx
  generalize d.reportWorst g = t at hx hw hsame hu
  have hln : t.ln = d.ln := by rw [hu]
  have htl (j : Nat) : t.lane j = d.lane j := by rw [State.lane, hln, State.lane]
  have htg (h : Nat) : t.laneGroup h = d.laneGroup h := by rw [State.laneGroup, hln, State.laneGroup]
  have hevt : EventsOnly { s with params := t.params, ln := t.ln } t := by
    have hl := hev.lift (fun z => { z with params := t.params, ln := t.ln }) (fun _ _ _ _ _ => rfl) (fun _ => rfl)
    have he1 : ({ u with params := t.params, ln := t.ln } : State) = { s with params := t.params, ln := t.ln } := by rw [ho.2]
    have he2 : ({ v with params := t.params, ln := t.ln } : State) = t := by
      rw [hdframe] at hu
      rw [hu]
    rw [← he1]
    exact he2 ▸ hl
  refine ⟨t, exec_next hx (decide_eq_true hg) rfl hevt.pending, (htl k).trans hdk, (hsame.getP fun h => hkw (List.mem_singleton.1 h)).trans hdst, by rw [htg]; exact hdgrp,
    by rw [hw, hdk], ?_, fun j hj => (htl j).trans ((hdlane j).trans (hlane j hj)), fun h hh => ?_, ?_, hevt⟩
  · exact SameParams.trans (fun i hi => (hdsame i fun hc => hi (List.mem_cons_of_mem _ hc)).trans (by rw [hpar])) (hsame.mono (by simp))
  · rw [htg, hdoth h hh, State.laneGroup, hgroups, State.laneGroup]
  · rw [hln, hdframe]
    exact hscans

/-! ### EYE_SCAN (R253, R254) -/

/-- Operands that EYE_SCAN refuses. -/
abbrev badScan (c : Cmd) : Prop :=
  1168 ≤ c.f 0 16 ∨ !([1, 2, 4, 8, 16].contains (c.f 16 8)) ∨ c.f 24 8 < 1 ∨ 127 < c.f 24 8 ∨ c.f 32 8 < 20 ∨ 36 < c.f 32 8 ∨ c.f 64 64 = 0 ∨ c.f 64 64 % 64 ≠ 0
    ∨ c.f 128 32 < 32 + 8 * scanPoints (c.f 16 8) (c.f 24 8)

/-- The scan that EYE_SCAN starts. -/
abbrev scanOf (c : Cmd) (tk now : Nat) : EyeScan :=
  { lane := c.f 0 16, h := c.f 16 8, v := c.f 24 8, d := c.f 32 8, host := c.f 64 64, ticket := tk, start := now }

/-- Scan `e` runs. -/
def State.scanStarted (e : EyeScan) (s : State) : State :=
  State.setP { s with ln := { s.ln with scans := s.ln.scans ++ [e] } } P.LN_SCANS_ACTIVE 0 (s.ln.scans ++ [e]).length

theorem scanStarted_eq (e : EyeScan) (s : State) : s.scanStarted e
    = State.setP { s with ln := { s.ln with scans := s.ln.scans ++ [e] } } P.LN_SCANS_ACTIVE 0 (s.ln.scans.length + 1) := by
  unfold State.scanStarted
  rw [List.length_append, List.length_singleton]

theorem eyeScanBody_eq (q : Call) (s : State) : eyeScanBody q s =
    if badScan q.c then (s, .err cBAD_PARAM)
    else if (s.lane (q.c.f 0 16)).lock ≠ 3 then (s, .err 0x49)
    else if 4 ≤ s.ln.scans.length then (s, .err cNO_RESOURCE)
    else (s.scanStarted (scanOf q.c q.tk s.now), .wait) := rfl

theorem entered_lane (s : State) (op : Nat) (c : Cmd) (k : Nat) : (s.entered op c).lane k = s.lane k := by rw [State.lane, State.entered_ln, State.lane]

section
variable {c : Cmd} {s : State} (ha : s.accepts false 0x0503 c) (ho : c.operands 20 0xFFFFFF0000000000)
include ha ho

theorem eyeScan_fails {code : Nat} (hc : code < 256)
    (h : eyeScanBody { c := c, tk := s.newTicket, priv := s.privOf c } (s.entered 0x0503 c) = (s.entered 0x0503 c, .err code)) :
    ∃ t, exec (.eyeScan c) s = .next t ∧ Answered 0x0503 c code 0 0 t ∧ CommandOnly c s t :=
  completes_reading (i := .eyeScan c) (spec := eyeScanSpec) (body := eyeScanBody) ha.1.1 ha (by simp [eyeScanSpec, ho.1]) (by rw [ho.1]; exact ho.2) (fun _ => rfl) hc h

theorem eyeScan_unlocked (hg : ¬ badScan c) (hl : (s.lane (c.f 0 16)).lock ≠ 3) : ∃ t, exec (.eyeScan c) s = .next t ∧ Answered 0x0503 c 0x49 0 0 t ∧ CommandOnly c s t :=
  eyeScan_fails ha ho (by decide) (by rw [eyeScanBody_eq, if_neg hg, entered_lane, if_pos hl])

theorem eyeScan_full (hg : ¬ badScan c) (hl : (s.lane (c.f 0 16)).lock = 3) (h4 : 4 ≤ s.ln.scans.length) :
    ∃ t, exec (.eyeScan c) s = .next t ∧ Answered 0x0503 c 6 0 0 t ∧ CommandOnly c s t :=
  eyeScan_fails ha ho (by decide) (by rw [eyeScanBody_eq, if_neg hg, entered_lane, if_neg fun h => h hl, State.entered_ln, if_pos h4])

theorem eyeScan_waits (hg : ¬ badScan c) (hl : (s.lane (c.f 0 16)).lock = 3) (h4 : s.ln.scans.length < 4) : ∃ t, exec (.eyeScan c) s = .next t
    ∧ Waits 0x0503 c (State.setP { s with ln := { s.ln with scans := s.ln.scans ++ [scanOf c s.newTicket s.now] } } P.LN_SCANS_ACTIVE 0 (s.ln.scans.length + 1)) t := by
  have hbody : eyeScanBody { c := c, tk := s.newTicket, priv := s.privOf c } (s.entered 0x0503 c) = ((s.entered 0x0503 c).scanStarted (scanOf c s.newTicket s.now), .wait) := by
    rw [eyeScanBody_eq, if_neg hg, entered_lane, if_neg fun h => h hl, if_neg (by rw [State.entered_ln]; omega), State.entered_now]
  rw [← scanStarted_eq]
  exact Runs.waits (i := .eyeScan c) (spec := eyeScanSpec) (body := eyeScanBody) ha.1.1 ha (by simp [eyeScanSpec, ho.1]) (by rw [ho.1]; exact ho.2) (fun _ => rfl) hbody
    (runs_of_comm (fun z => z.scanStarted (scanOf c s.newTicket s.now)) (fun _ _ _ _ => rfl) rfl rfl rfl rfl) rfl rfl

end

/-! ### EYE_SCAN_DONE (R254) -/

/-- An event that no window has enabled is written nowhere. -/
theorem postEvent_unheard {e : Event} {s : State} (h : ∀ w, (s.win w).mask.testBit e.typ = false) : s.postEvent e = s :=
  foldl_fixed_of_mem fun n _ => if_neg (by rw [h n]; exact Bool.false_ne_true)

theorem post_unheard {a b c d : Nat} {s : State} (h : ∀ w, (s.win w).mask.testBit a = false) : s.post a b c d = s := postEvent_unheard h

/-- The scan `e` is gone, its event not yet posted. -/
def State.scanGone (e : EyeScan) (s : State) : State :=
  State.setP { s with ln := { s.ln with scans := s.ln.scans.filter (· != e) } } P.LN_SCANS_ACTIVE 0 (s.ln.scans.filter (· != e)).length

theorem endScan_eq (e : EyeScan) (a : Bool) (q code len r : Nat) (s : State) : s.endScan e a q code len r =
    ((s.scanGone e).post 0x64 (laneSource e.lane).1 (laneSource e.lane).2 (e.lane + at' 16 q + at' 24 (b2n a))).finalReply e.ticket code len r := rfl

/-- A scan that has ended, its command answered. -/
structure ScanEnded (e : EyeScan) (g : Flight) (code len r : Nat) (s u : State) : Prop where
  answered : Answered g.opcode g.cmd code len r u
  scans : u.ln.scans = s.ln.scans.filter (· != e)
  active : u.getP P.LN_SCANS_ACTIVE 0 = u.ln.scans.length
  same : SameParams [pkey P.LN_SCANS_ACTIVE 0] s u
  replied : RepliedEvents g { s with params := u.params, ln := { s.ln with scans := u.ln.scans } } u
  silent : (∀ w, (s.win w).mask.testBit 0x64 = false) → u.ctl.hostMem = s.ctl.hostMem

theorem endScan_ended {e : EyeScan} {g : Flight} {a : Bool} {q code len r : Nat} {s : State} (hf : s.awaits e.ticket g) (hc : code < 256) :
    ScanEnded e g code len r s (s.endScan e a q code len r) := by
  rw [endScan_eq]
  obtain ⟨u, hu, hframe, hget, hsame⟩ : ∃ u, s.scanGone e = u ∧ u = { s with params := u.params, ln := { s.ln with scans := s.ln.scans.filter (· != e) } }
      ∧ u.getP P.LN_SCANS_ACTIVE 0 = (s.ln.scans.filter (· != e)).length ∧ SameParams [pkey P.LN_SCANS_ACTIVE 0] s u :=
    ⟨_, rfl, rfl, State.getP_setP_same _ _ _ _, sameParams_setP (s := { s with ln := { s.ln with scans := s.ln.scans.filter (· != e) } }) List.mem_cons_self _⟩
  rw [hu]
  have hsil (p : Nat) : (∀ w, (s.win w).mask.testBit 0x64 = false) → u.post 0x64 (laneSource e.lane).1 (laneSource e.lane).2 p = u := fun h =>
    post_unheard fun w => by rw [hframe]; exact h w
  have hev (p : Nat) := eventsOnly_post u 0x64 (laneSource e.lane).1 (laneSource e.lane).2 p
  generalize e.lane + at' 16 q + at' 24 (b2n a) = p
  specialize hsil p
  specialize hev p
  generalize u.post 0x64 (laneSource e.lane).1 (laneSource e.lane).2 p = v at hsil hev
  have hv : v.params = u.params ∧ v.ln = u.ln := by
    obtain ⟨⟨_, _, _, _, hv⟩, -⟩ := hev
    rw [hv]
    exact ⟨rfl, rfl⟩
  have huln : u.ln = { s.ln with scans := s.ln.scans.filter (· != e) } := by rw [hframe]
  have haw : v.awaits e.ticket g := hev.awaits (awaits_congr hf (by rw [hframe]) (by rw [hframe]; rfl))
  refine ⟨finalReply_answered v haw.2 haw.1 hc _ _, ?_, ?_, fun k hk => ?_, ?_, fun h => ?_⟩
  · rw [State.finalReply_ln, hv.2, huln]
  · rw [State.finalReply_getP, State.finalReply_ln, hv.2, huln, State.getP, hv.1]
    exact hget
  · rw [State.finalReply_params, hv.1]
    exact hsame k hk
  · rw [State.finalReply_ln, hv.2, huln, State.finalReply_params, hv.1]
    have he : EventsOnly { s with params := u.params, ln := { s.ln with scans := s.ln.scans.filter (· != e) } } v := by
      rw [← hframe]
      exact hev
    exact he.replied haw _ _ _
  · rw [State.finalReply_ctl_hostMem, hsil h, hframe]

theorem eyeScanDone_exec (k t : Nat) (a : Bool) (l : List (Nat × Nat)) (s : State) : exec (.eyeScanDone k a l t) s = guarded (.eyeScanDone k a l t) s
    (match (s.atLeast t).ln.scans.find? fun e => e.lane == k with
    | none => s.atLeast t
    | some e => if a then (s.atLeast t).endScan e true 0 cABORTED 0 0 else (s.atLeast t).writeScan e l t) := rfl

theorem hostWrite_good {a : Nat} {l : List Byte} {s : State} (h : s.hostGood a l.length = l.length) : s.hostWrite a l = (s.withHostMem (putBytes zeroByte s.ctl.hostMem a l), true) := by
  unfold State.hostWrite
  dsimp only
  rw [h, List.take_length, decide_eq_true rfl]

/-- Bytes that read as those of a list. -/
theorem takeBytes_eq_of_get {d : Nat → Byte} : ∀ {l : List Byte} {m : SMap Byte} {a : Nat}, (∀ i (h : i < l.length), SMap.get d m (a + i) = l[i]) → takeBytes d m a l.length = l
  | [], _, _, _ => rfl
  | b :: l, m, a, h => by
    rw [List.length_cons, takeBytes, takeBytes_eq_of_get (l := l) fun i hi => ?_]
    · rw [show SMap.get d m a = b from h 0 (Nat.succ_pos _)]
    · rw [show a + 1 + i = a + (i + 1) by omega]
      exact h (i + 1) (Nat.succ_lt_succ hi)

/-- A part of what has been written reads back. -/
theorem takeBytes_putBytes_part {d : Nat → Byte} (x y z : List Byte) (m : SMap Byte) (a : Nat) : takeBytes d (putBytes d m a (x ++ (y ++ z))) (a + x.length) y.length = y := by
  refine takeBytes_eq_of_get fun i hi => ?_
  have hlen : x.length + i < (x ++ (y ++ z)).length := by
    rw [List.length_append, List.length_append]
    omega
  rw [Nat.add_assoc, get_putBytes_same hlen, List.getElem_append_right (by omega), List.getElem_append_left (by omega)]
  congr 1
  omega

/-- The bytes of point `p` of a scan (Table 8-4). -/
abbrev pointBytes (p : Nat × Nat) : List Byte := leBytes (min p.1 0xFFFFFFFF) 4 ++ leBytes (min (p.2 / 256) 0xFFFFFFFF) 4

/-- The points of scan `e` as bytes. -/
abbrev EyeScan.body (e : EyeScan) (l : List (Nat × Nat)) : List Byte := (List.range (scanPoints e.h e.v)).flatMap fun i => pointBytes (l.getD i (0, 0))

/-- The header of scan `e`, which ended at tick `t`. -/
abbrev EyeScan.header (e : EyeScan) (l : List (Nat × Nat)) (t : Nat) (x : Lane) : List Byte :=
  leBytes (e.lane + 1) 2 ++ leBytes e.h 1 ++ leBytes e.v 1 ++ leBytes e.d 1 ++ leBytes (64 / e.h) 1 ++ leBytes (2 * (127 / e.v) + 1) 2
    ++ leBytes e.start 8 ++ leBytes ((t - e.start) / 1000) 4 ++ leBytes (innerEye e.h e.v l).2 1 ++ leBytes (min (innerEye e.h e.v l).1 254) 1 ++ leBytes x.ctle 1 ++ leBytes x.fom 1
    ++ leBytes 0 8

theorem writeScan_eq (e : EyeScan) (l : List (Nat × Nat)) (t : Nat) (s : State) : s.writeScan e l t =
    if !(s.hostWrite (e.host + 32) (e.body l)).2 then (s.hostWrite (e.host + 32) (e.body l)).1.endScan e true (min (innerEye e.h e.v l).1 254) cABORTED 0 0
    else if ((s.hostWrite (e.host + 32) (e.body l)).1.hostWrite e.host (e.header l t (s.lane e.lane))).2 then
      ((s.hostWrite (e.host + 32) (e.body l)).1.hostWrite e.host (e.header l t (s.lane e.lane))).1.endScan e false (min (innerEye e.h e.v l).1 254) cOK 5
        (32 + 8 * scanPoints e.h e.v + at' 32 (min (innerEye e.h e.v l).1 254))
    else ((s.hostWrite (e.host + 32) (e.body l)).1.hostWrite e.host (e.header l t (s.lane e.lane))).1.endScan e true (min (innerEye e.h e.v l).1 254) cABORTED 0 0 := rfl

theorem scanBody_length (e : EyeScan) (l : List (Nat × Nat)) : (e.body l).length = 8 * scanPoints e.h e.v := by
  rw [length_flatMap_const (k := 8) fun i => by rw [List.length_append, leBytes_length, leBytes_length], List.length_range]

theorem scanHeader_length (e : EyeScan) (l : List (Nat × Nat)) (t : Nat) (x : Lane) : (e.header l t x).length = 32 := by
  simp only [List.length_append, leBytes_length]

/-- Point `i` of a scan stands 8 bytes apart from the one before. -/
theorem scanBody_point {e : EyeScan} {l : List (Nat × Nat)} {i : Nat} (hi : i < scanPoints e.h e.v) : ∃ x z, e.body l = x ++ (leBytes (min (l.getD i (0, 0)).1 0xFFFFFFFF) 4 ++ z)
    ∧ x.length = 8 * i := by
  have hr : List.range (scanPoints e.h e.v) = List.range i ++ (i :: (List.range (scanPoints e.h e.v - i - 1)).map (i + 1 + ·)) := by
    rw [show scanPoints e.h e.v = i + 1 + (scanPoints e.h e.v - i - 1) by omega, List.range_add, List.range_succ, List.append_assoc, show i + 1 + (scanPoints e.h e.v - i - 1) - i - 1
      = scanPoints e.h e.v - i - 1 by omega]
    rfl
  refine ⟨(List.range i).flatMap fun i => pointBytes (l.getD i (0, 0)), leBytes (min ((l.getD i (0, 0)).2 / 256) 0xFFFFFFFF) 4
    ++ ((List.range (scanPoints e.h e.v - i - 1)).map (i + 1 + ·)).flatMap fun i => pointBytes (l.getD i (0, 0)), ?_, ?_⟩
  · unfold EyeScan.body
    rw [hr, List.flatMap_append, List.flatMap_cons]
    simp only [List.append_assoc]
  · rw [length_flatMap_const (k := 8) fun i => by rw [List.length_append, leBytes_length, leBytes_length], List.length_range]

theorem takeBytes_putBytes_other {d : Nat → Byte} {m : SMap Byte} {l : List Byte} {b : Nat} : ∀ {n a : Nat}, (a + n ≤ b ∨ b + l.length ≤ a) →
    takeBytes d (putBytes d m b l) a n = takeBytes d m a n
  | 0, _, _ => rfl
  | n + 1, a, h => by rw [takeBytes, takeBytes, get_putBytes_other (by omega), takeBytes_putBytes_other (n := n) (by omega)]

theorem writeScan_written {e : EyeScan} {l : List (Nat × Nat)} {t : Nat} {s : State} (hb : s.hostGood (e.host + 32) (8 * scanPoints e.h e.v) = 8 * scanPoints e.h e.v)
    (hh : s.hostGood e.host 32 = 32) : ∃ m, s.writeScan e l t = (s.withHostMem m).endScan e false (min (innerEye e.h e.v l).1 254) cOK 5
        (32 + 8 * scanPoints e.h e.v + at' 32 (min (innerEye e.h e.v l).1 254))
      ∧ (∀ i, i < scanPoints e.h e.v → takeBytes zeroByte m (e.host + 32 + 8 * i) 4 = leBytes (min (l.getD i (0, 0)).1 0xFFFFFFFF) 4)
      ∧ takeBytes zeroByte m e.host 2 = leBytes (e.lane + 1) 2
      ∧ ∀ b, (b < e.host ∨ e.host + 32 + 8 * scanPoints e.h e.v ≤ b) → SMap.get zeroByte m b = SMap.get zeroByte s.ctl.hostMem b := by
  have hlen := scanBody_length e l
  have hhead := scanHeader_length e l t (s.lane e.lane)
  have hw1 : s.hostWrite (e.host + 32) (e.body l) = (s.withHostMem (putBytes zeroByte s.ctl.hostMem (e.host + 32) (e.body l)), true) := hostWrite_good (by rw [hlen]; exact hb)
  have hw2 : (s.withHostMem (putBytes zeroByte s.ctl.hostMem (e.host + 32) (e.body l))).hostWrite e.host (e.header l t (s.lane e.lane))
      = ((s.withHostMem (putBytes zeroByte s.ctl.hostMem (e.host + 32) (e.body l))).withHostMem
          (putBytes zeroByte (putBytes zeroByte s.ctl.hostMem (e.host + 32) (e.body l)) e.host (e.header l t (s.lane e.lane))), true) :=
    hostWrite_good (by rw [hhead]; exact hh)
  refine ⟨putBytes zeroByte (putBytes zeroByte s.ctl.hostMem (e.host + 32) (e.body l)) e.host (e.header l t (s.lane e.lane)), ?_, fun i hi => ?_, ?_, fun b hb => ?_⟩
  · rw [writeScan_eq, hw1, if_neg (by simp)]
    dsimp only
    rw [hw2, if_pos rfl]
  · rw [takeBytes_putBytes_other (by rw [hhead]; omega)]
    obtain ⟨x, z, hxz, hx⟩ := scanBody_point (e := e) (l := l) hi
    have h := takeBytes_putBytes_part (d := zeroByte) x (leBytes (min (l.getD i (0, 0)).1 0xFFFFFFFF) 4) z s.ctl.hostMem (e.host + 32)
    rw [← hxz, hx, leBytes_length] at h
    exact h
  · have h := takeBytes_putBytes_part (d := zeroByte) [] (leBytes (e.lane + 1) 2) ((e.header l t (s.lane e.lane)).drop 2) (putBytes zeroByte s.ctl.hostMem (e.host + 32) (e.body l)) e.host
    have hsplit : e.header l t (s.lane e.lane) = leBytes (e.lane + 1) 2 ++ (e.header l t (s.lane e.lane)).drop 2 := by
      simp only [List.append_assoc]
      rw [List.drop_left' (leBytes_length _ _)]
    rw [List.nil_append, ← hsplit, leBytes_length] at h
    exact h
  · rw [get_putBytes_other (by rw [hhead]; omega), get_putBytes_other (by rw [hlen]; omega)]

end Sys2Proof.Machine

open Sys2Proof Sys2Proof.Machine in
/-- Settles O35: the monitor's fold acts on the one LOCKED lane of the group, and a scan that ends writes its points apart and its header last. -/
theorem laneQualityIsMeasured : Obligations.LaneQualityIsMeasured := by
  unfold Obligations.LaneQualityIsMeasured
  refine ⟨fun k a d s hk => ⟨fun h => exec_next (fomWindow_exec k a d s) (decide_eq_true hk) (if_pos h) rfl, fun hl ha => ?_, fun hl ha => ?_⟩,
    fun g l s hg h => laneMonitor_unlocked hg h, fun g k q l s hg hk hl hone hm hf hlow => ⟨fun hq => laneMonitor_fine ⟨hg, hk, hl, hone, hm, hf, hlow⟩ hq,
      fun hq hen hst => laneMonitor_due ⟨hg, hk, hl, hone, hm, hf, hlow⟩ hq hen hst⟩, fun c s ha ho hk hh hv1 hv2 hd1 hd2 hhost hal hlen => ?_, fun c s ha ho h => ?_,
    fun k t a l s hk h => ?_, fun k t e l g s hk hfind hf => ⟨?_, fun hmask hb hh => ?_⟩⟩
  · obtain ⟨t, hx, hfom, hlane, hone⟩ := fomWindow_sets (a := a) (d := d) hk hl
    refine ⟨t, hx, ?_, hlane, hone⟩
    rw [hfom, if_neg ha, figureOfMerit, Int.toNat_of_nonneg]
    unfold clampI
    omega
  · obtain ⟨t, hx, hfom, hlane, hone⟩ := fomWindow_sets (a := a) (d := d) hk hl
    refine ⟨t, hx, ?_, hlane, hone⟩
    rw [hfom, if_pos ha]
    exact Nat.mod_lt _ (by decide)
  · have hgood : ¬ badScan c := by
      rintro (h | h | h | h | h | h | h | h | h)
      · omega
      · rw [List.contains_iff_mem.2 hh] at h
        cases h
      all_goals omega
    exact ⟨fun hl => eyeScan_unlocked ha ho hgood hl, fun hl h4 => eyeScan_full ha ho hgood hl h4, fun hl h4 => eyeScan_waits ha ho hgood hl h4⟩
  · have hbad : badScan c := by
      rcases h with h | h | h
      · exact .inl h
      · exact .inr (.inl (by simpa using h))
      · exact .inr (.inr (by omega))
    exact eyeScan_fails ha ho (by decide) (by rw [eyeScanBody_eq, if_pos hbad])
  · refine exec_next (eyeScanDone_exec k t a l s) (decide_eq_true hk) ?_ rfl
    have hnone : ((s.atLeast t).ln.scans.find? fun e => e.lane == k) = none := List.find?_eq_none.2 fun e he => by simpa using h e he
    rw [hnone]
  · have hx := eyeScanDone_exec k t true l s
    have hend := endScan_ended (a := true) (q := 0) (code := cABORTED) (len := 0) (r := 0) (s := s.atLeast t) (awaits_congr hf rfl rfl) (by decide)
    have hfind' : ((s.atLeast t).ln.scans.find? fun e => e.lane == k) = some e := hfind
    rw [hfind'] at hx
    dsimp only at hx
    rw [if_pos rfl] at hx
    generalize (s.atLeast t).endScan e true 0 cABORTED 0 0 = u at hx hend
    exact ⟨u, exec_next hx (decide_eq_true hk) rfl (by rw [hend.replied.1]; rfl), hend.answered, hend.scans, hend.active, hend.same, hend.replied⟩
  · have hx := eyeScanDone_exec k t false l s
    have hfind' : ((s.atLeast t).ln.scans.find? fun e => e.lane == k) = some e := hfind
    have hlane : e.lane = k := by simpa using List.find?_some hfind
    obtain ⟨m, hw, hpts, hhead, hoth⟩ := writeScan_written (e := e) (l := l) (t := t) (s := s.atLeast t) hb hh
    have hend := endScan_ended (a := false) (q := min (innerEye e.h e.v l).1 254) (code := cOK) (len := 5)
      (r := 32 + 8 * scanPoints e.h e.v + at' 32 (min (innerEye e.h e.v l).1 254)) (s := (s.atLeast t).withHostMem m) (awaits_congr hf rfl rfl) (by decide)
    rw [hfind'] at hx
    dsimp only at hx
    rw [if_neg Bool.false_ne_true, hw] at hx
    generalize ((s.atLeast t).withHostMem m).endScan e false (min (innerEye e.h e.v l).1 254) cOK 5 (32 + 8 * scanPoints e.h e.v + at' 32 (min (innerEye e.h e.v l).1 254)) = u at hx hend
    have hmem : u.ctl.hostMem = m := hend.silent hmask
    refine ⟨u, exec_next hx (decide_eq_true hk) rfl (by rw [hend.replied.1]; rfl), hend.answered, hend.scans, fun i hi => by rw [hmem]; exact hpts i hi, by rw [hmem, hhead, hlane],
      fun b hb => by rw [hmem]; exact hoth b hb, hend.same, ?_⟩
    exact hend.replied
end

section
/-! Calibration of lane groups (O36; 08_serial_lanes.md). -/

namespace Sys2Proof.Machine

/-! ### The review of a run -/

/-- Beside Trapeze, a run with something left goes on, and one with nothing left ends. -/
theorem calReview_idle {g : Nat} {r : CalRun} {s : State} (hg : 24 ≤ g) (hr : (s.laneGroup g).run = some r) :
    s.calReview g = if r.todo.isEmpty && r.restore.isEmpty then s.finishRun g r else s := by
  unfold State.calReview
  rw [if_neg (by omega), if_neg (by omega)]
  dsimp only
  rw [hr]
  simp [show ¬ g < 16 by omega, show ¬ g < 24 by omega]

theorem calReview_busy {g : Nat} {r : CalRun} {s : State} (hg : 24 ≤ g) (hr : (s.laneGroup g).run = some r) (h : r.todo ≠ []) : s.calReview g = s := by
  rw [calReview_idle hg hr, if_neg]
  cases ht : r.todo with
  | nil => exact absurd ht h
  | cons a l => simp

/-! ### CALIBRATION_START (R259, R264) -/

/-- The groups whose calibration runs. -/
abbrev State.runningGroups (s : State) : Nat := ((List.range 28).filter fun g => s.getP P.LN_CAL_STATE g == 2).length

/-- The lowest group that may start. -/
abbrev State.nextGroup (s : State) : Option Nat := (List.range 28).find? fun g => s.getP P.LN_CAL_STATE g == 1 || (s.getP P.LN_CAL_STATE g == 3 && s.runFits g)

theorem calibrationStart_exec (s : State) : exec .calibrationStart s = guarded .calibrationStart s
    (if s.getP P.LN_CAL_PARALLEL 0 ≤ s.runningGroups then s
    else match s.nextGroup with
      | none => s
      | some g => if s.runFits g then s.startRun g else (s.setP P.LN_CAL_STATE g 3).calDeferred g 0) := rfl

theorem nextGroup_none {s : State} (h : ∀ g, g < 28 → s.getP P.LN_CAL_STATE g ≠ 1 ∧ (s.getP P.LN_CAL_STATE g ≠ 3 ∨ s.runFits g = false)) : s.nextGroup = none := by
  refine List.find?_eq_none.2 fun g hg => ?_
  obtain ⟨h1, h3⟩ := h g (List.mem_range.1 hg)
  rcases h3 with h3 | h3
  · simp [h1, h3]
  · simp [h1, h3]

theorem nextGroup_some {g : Nat} {s : State} (hg : g < 28) (h1 : s.getP P.LN_CAL_STATE g = 1)
    (h : ∀ j, j < g → s.getP P.LN_CAL_STATE j ≠ 1 ∧ (s.getP P.LN_CAL_STATE j ≠ 3 ∨ s.runFits j = false)) : s.nextGroup = some g := by
  have hr : List.range 28 = List.range g ++ (g :: (List.range (27 - g)).map (g + 1 + ·)) := by
    rw [show (28 : Nat) = g + 1 + (27 - g) by omega, List.range_add, List.range_succ, List.append_assoc]
    rfl
  unfold State.nextGroup
  rw [hr, List.find?_append, List.find?_eq_none.2 fun j hj => ?_, Option.none_or, List.find?_cons_of_pos (by simp [h1])]
  obtain ⟨h1, h3⟩ := h j (List.mem_range.1 hj)
  rcases h3 with h3 | h3
  · simp [h1, h3]
  · simp [h1, h3]

/-- The lanes that a run of group `g` has to calibrate. -/
abbrev State.liveLanes (s : State) (g : Nat) : List Nat := (groupLanes g).filter fun k => !((s.lane k).tx == 1 && (s.lane k).rx == 1)

/-- The run that starts for group `g`. -/
abbrev State.runOf (s : State) (g : Nat) : CalRun :=
  { reason := (s.laneGroup g).reason, start := s.now, temp := s.groupTemp g, delta := s.groupTemp g - s.getPI P.LN_CAL_TEMP g
    todo := (s.liveLanes g).map fun k => { lane := k, method := s.calMethod k (s.laneGroup g).windowsOnly } }

/-- The lane is LSP, which is measured after the lanes that need it. -/
abbrev State.measuredLast (s : State) (g k : Nat) : Bool :=
  decide (16 ≤ g ∧ g < 24) && (laneCam k).2 == (s.group (g - 16)).lsp && (s.runOf g).todo.any fun c => c.method == 0

theorem startRun_eq (g : Nat) (s : State) : s.startRun g = State.calReview g ((s.runOf g).todo.foldl
    (fun u c => if c.method = 2 ∧ s.measuredLast g c.lane = false then u.startMeasure c.lane else u)
    ((s.modLaneGroup g fun y => { y with run := some (s.runOf g), trapStep := 0 }).setP P.LN_CAL_STATE g 2)) := rfl

theorem abortScans_none {k : Nat} {s : State} (h : ∀ e ∈ s.ln.scans, e.lane ≠ k) : s.abortScans k = s := by
  have hnil : (s.ln.scans.filter fun e => e.lane == k) = [] := List.filter_eq_nil_iff.2 fun e he => by simpa using h e he
  rw [State.abortScans, hnil]
  rfl

/-- A lane under measurement. -/
abbrev Lane.measured (x : Lane) : Lane := { x with measuring := true }

theorem startMeasures {l : List Nat} : ∀ {s : State}, (∀ e ∈ s.ln.scans, e.lane ∉ l) → l.foldl (fun u k => u.startMeasure k) s
    = { s with ln := { s.ln with lanes := l.foldl (fun m i => SMap.set laneDef m i (Lane.measured (SMap.get laneDef m i))) s.ln.lanes } } := by
  induction l with
  | nil => exact fun _ => rfl
  | cons k l ih =>
    intro s h
    rw [List.foldl_cons, State.startMeasure, abortScans_none fun e he hk => h e he (by rw [hk]; exact List.mem_cons_self)]
    exact ih (s := s.modLane k fun y => { y with measuring := true }) fun e he hk => h e he (List.mem_cons_of_mem _ hk)

theorem startRun_idle {g : Nat} {s : State} (hg : 24 ≤ g) (hidle : ∀ k ∈ groupLanes g, ¬((s.lane k).tx = 1 ∧ (s.lane k).rx = 1) ∧ s.laneTraffic k = false)
    (hscan : ∀ e ∈ s.ln.scans, e.lane ∉ groupLanes g) : ∃ l m r, s.startRun g = { s.setP P.LN_CAL_STATE g 2 with ln := { s.ln with lanes := l, groups := m } }
      ∧ (∀ k, SMap.get laneDef l k = if k ∈ groupLanes g then { s.lane k with measuring := true } else s.lane k)
      ∧ (∀ h, h ≠ g → SMap.get laneGroupDef m h = s.laneGroup h) ∧ (SMap.get laneGroupDef m g).run = some r ∧ r.reason = (s.laneGroup g).reason ∧ r.start = s.now
      ∧ r.temp = s.groupTemp g ∧ r.done = 0 ∧ r.todo = (groupLanes g).map fun k => { lane := k, method := 2 } := by
  have hlive : s.liveLanes g = groupLanes g := List.filter_eq_self.2 fun k hk => by
    rw [Bool.not_eq_true', Bool.eq_false_iff]
    simpa using (hidle k hk).1
  have htodo : (s.runOf g).todo = (groupLanes g).map fun k => { lane := k, method := 2 } := by
    show (s.liveLanes g).map _ = _
    rw [hlive]
    refine List.map_congr_left fun k hk => ?_
    rw [show s.calMethod k (s.laneGroup g).windowsOnly = 2 by rw [State.calMethod, (hidle k hk).2]; rfl]
  have hlast (k : Nat) : s.measuredLast g k = false := by simp [State.measuredLast, show ¬ g < 24 by omega]
  obtain ⟨m, hm, hmg⟩ : ∃ m, SMap.set laneGroupDef s.ln.groups g { s.laneGroup g with run := some (s.runOf g), trapStep := 0 } = m
      ∧ ∀ h, SMap.get laneGroupDef m h = if h = g then { s.laneGroup g with run := some (s.runOf g), trapStep := 0 } else s.laneGroup h :=
    ⟨_, rfl, fun h => SMap.get_set _ _ _ _ _⟩
  have hrun : s.startRun g = State.calReview g { s.setP P.LN_CAL_STATE g 2 with ln := { s.ln with
      lanes := (groupLanes g).foldl (fun m i => SMap.set laneDef m i (Lane.measured (SMap.get laneDef m i))) s.ln.lanes, groups := m } } := by
    rw [startRun_eq]
    congr 1
    rw [htodo, List.foldl_map]
    have hf : (fun (u : State) (k : Nat) => if ({ lane := k, method := 2 } : CalLane).method = 2 ∧ s.measuredLast g ({ lane := k, method := 2 } : CalLane).lane = false
        then u.startMeasure ({ lane := k, method := 2 } : CalLane).lane else u) = fun u k => u.startMeasure k := by
      funext u k
      exact if_pos ⟨rfl, hlast k⟩
    rw [hf]
    refine (startMeasures (s := (s.modLaneGroup g fun y => { y with run := some (s.runOf g), trapStep := 0 }).setP P.LN_CAL_STATE g 2) hscan).trans ?_
    rw [← hm]
    rfl
  have hget : ∀ k, SMap.get laneDef ((groupLanes g).foldl (fun m i => SMap.set laneDef m i (Lane.measured (SMap.get laneDef m i))) s.ln.lanes) k
      = if k ∈ groupLanes g then { s.lane k with measuring := true } else s.lane k := fun k =>
    SMap.get_foldl_set_list laneDef Lane.measured k (groupLanes g) s.ln.lanes (.inr fun _ => rfl)
  generalize (groupLanes g).foldl (fun m i => SMap.set laneDef m i (Lane.measured (SMap.get laneDef m i))) s.ln.lanes = l at hrun hget
  refine ⟨l, m, s.runOf g, ?_, hget, fun h hh => (hmg h).trans (if_neg hh), by rw [hmg, if_pos rfl], rfl, rfl, rfl, rfl, htodo⟩
  rw [hrun]
  refine calReview_busy hg (r := s.runOf g) ((congrArg LaneGroup.run (hmg g)).trans (by rw [if_pos rfl])) ?_
  rw [htodo]
  intro h
  have hne : groupLanes g ≠ [] := by
    unfold groupLanes
    rw [if_neg (by omega), if_neg (by omega)]
    exact List.cons_ne_nil _ _
  exact hne (List.map_eq_nil_iff.1 h)

theorem calibrationStart_none {s : State} (h : s.getP P.LN_CAL_PARALLEL 0 ≤ s.runningGroups
    ∨ ∀ g, g < 28 → s.getP P.LN_CAL_STATE g ≠ 1 ∧ (s.getP P.LN_CAL_STATE g ≠ 3 ∨ s.runFits g = false)) : exec .calibrationStart s = .next s := by
  refine exec_next (calibrationStart_exec s) rfl ?_ rfl
  rcases h with h | h
  · exact if_pos h
  · rw [nextGroup_none h]
    split <;> rfl

theorem calibrationStart_next {g : Nat} {s : State} (hg : g < 28) (hpar : s.runningGroups < s.getP P.LN_CAL_PARALLEL 0) (h1 : s.getP P.LN_CAL_STATE g = 1)
    (hlow : ∀ j, j < g → s.getP P.LN_CAL_STATE j ≠ 1 ∧ (s.getP P.LN_CAL_STATE j ≠ 3 ∨ s.runFits j = false)) :
    exec .calibrationStart s = guarded .calibrationStart s (if s.runFits g then s.startRun g else (s.setP P.LN_CAL_STATE g 3).calDeferred g 0) := by
  rw [calibrationStart_exec, if_neg (Nat.not_le.2 hpar), nextGroup_some hg h1 hlow]

theorem calibrationStart_defers {g : Nat} {s : State} (hg : g < 28) (hpar : s.runningGroups < s.getP P.LN_CAL_PARALLEL 0) (h1 : s.getP P.LN_CAL_STATE g = 1)
    (hlow : ∀ j, j < g → s.getP P.LN_CAL_STATE j ≠ 1 ∧ (s.getP P.LN_CAL_STATE j ≠ 3 ∨ s.runFits j = false)) (hfit : s.runFits g = false) :
    ∃ t, exec .calibrationStart s = .next t ∧ t.getP P.LN_CAL_STATE g = 3 ∧ SameParams [pkey P.LN_CAL_STATE g] s t ∧ EventsOnly { s with params := t.params } t := by
  have hx := calibrationStart_next hg hpar h1 hlow
  rw [if_neg (by rw [hfit]; exact Bool.false_ne_true)] at hx
  have hev : ParamEvents [pkey P.LN_CAL_STATE g] s ((s.setP P.LN_CAL_STATE g 3).calDeferred g 0) :=
    ((ParamEvents.refl _ s).setP List.mem_cons_self 3).events (eventsOnly_post _ _ _ _ _)
  exact ⟨_, exec_next hx rfl rfl hev.1.pending, (State.post_getP _ _ _ _ _ _ _).trans (State.getP_setP_same _ _ _ _), hev.2, hev.1⟩

theorem calibrationStart_starts {g : Nat} {s : State} (hg : g < 28) (hpar : s.runningGroups < s.getP P.LN_CAL_PARALLEL 0) (h1 : s.getP P.LN_CAL_STATE g = 1)
    (hlow : ∀ j, j < g → s.getP P.LN_CAL_STATE j ≠ 1 ∧ (s.getP P.LN_CAL_STATE j ≠ 3 ∨ s.runFits j = false)) (h24 : 24 ≤ g) (hfit : s.runFits g = true)
    (hidle : ∀ k ∈ groupLanes g, ¬((s.lane k).tx = 1 ∧ (s.lane k).rx = 1) ∧ s.laneTraffic k = false) (hscan : ∀ e ∈ s.ln.scans, e.lane ∉ groupLanes g) :
    ∃ t r, exec .calibrationStart s = .next t ∧ t.getP P.LN_CAL_STATE g = 2 ∧ SameParams [pkey P.LN_CAL_STATE g] s t
        ∧ (t.laneGroup g).run = some r ∧ r.reason = (s.laneGroup g).reason ∧ r.start = s.now ∧ r.temp = s.groupTemp g ∧ r.done = 0
        ∧ r.todo = (groupLanes g).map (fun k => { lane := k, method := 2 }) ∧ (∀ k ∈ groupLanes g, t.lane k = { s.lane k with measuring := true })
        ∧ (∀ k, k ∉ groupLanes g → t.lane k = s.lane k) ∧ (∀ h, h ≠ g → t.laneGroup h = s.laneGroup h)
        ∧ t = { s with params := t.params, ln := { s.ln with lanes := t.ln.lanes, groups := t.ln.groups } } := by
  have hx := calibrationStart_next hg hpar h1 hlow
  rw [if_pos hfit] at hx
  obtain ⟨l, m, r, hrun, hl, hm, hr, h1, h2, h3, h4, h5⟩ := startRun_idle h24 hidle hscan
  rw [hrun] at hx
  exact ⟨_, r, exec_next hx rfl rfl rfl, State.getP_setP_same _ _ _ _, sameParams_setP (s := s) List.mem_cons_self 2, hr, h1, h2, h3, h4, h5,
    fun k hk => (hl k).trans (if_pos hk), fun k hk => (hl k).trans (if_neg hk), hm, rfl⟩

/-! ### CAL_MEASURE_DONE (R258) -/

/-- The record of a lane whose corrections have been applied. -/
abbrev Lane.calibrated (now q corr : Nat) (x : Lane) : Lane := { x.relock with measuring := false, calTime := now, quality := q, corr := corr, corrOld := x.corr }

/-- The run after lane `k` of quality `q` has been applied by a method. -/
abbrev State.runAfter (s : State) (g k method q : Nat) (r : CalRun) : CalRun := { r with
  todo := r.todo.filter fun c => c.lane != k, methods := setBit r.methods method, done := r.done + 1, worst := min r.worst q
  restore := if decide (q + 16 < (s.lane k).quality ∧ q < s.getP P.LN_QUALITY_MIN g) then r.restore ++ [k] else r.restore }

theorem applyCal_eq (g k method q : Nat) (r : CalRun) (s : State) : s.applyCal g k method q r =
    (({ s with free := s.free + 1 } : State).modLane k (Lane.calibrated s.now q s.fresh.1)).modLaneGroup g fun y => { y with run := some (s.runAfter g k method q r) } := rfl

theorem calMeasureDone_exec (k q : Nat) (s : State) : exec (.calMeasureDone k q) s = guarded (.calMeasureDone k q) s
    (match (s.laneGroup (laneGroupOf k)).run with
    | none => s
    | some r =>
      match r.todo.find? fun c => c.lane == k && c.method != 1 with
      | none => s
      | some c =>
        if !(s.lane k).measuring then s
        else
          (if c.method = 0 ∨ decide (16 ≤ laneGroupOf k ∧ laneGroupOf k < 24 ∧ (s.laneGroup (laneGroupOf k)).trapLane = 16 ∧ (laneCam k).2 = (s.group (laneGroupOf k - 16)).lsp) = true
            then (s.applyCal (laneGroupOf k) k c.method q r).trapMeasured (laneGroupOf k) k else s.applyCal (laneGroupOf k) k c.method q r).calReview (laneGroupOf k)) := rfl

theorem applyCal_effect (g k method q : Nat) (r : CalRun) (s : State) : ∃ t, s.applyCal g k method q r = t ∧ t.lane k = (s.lane k).calibrated s.now q (t.lane k).corr
    ∧ (∀ j, j ≠ k → t.lane j = s.lane j) ∧ t.laneGroup g = { s.laneGroup g with run := some (s.runAfter g k method q r) } ∧ (∀ h, h ≠ g → t.laneGroup h = s.laneGroup h)
    ∧ t = { s with free := s.free + 1, ln := { s.ln with lanes := t.ln.lanes, groups := t.ln.groups } } := by
  obtain ⟨l, hl, hget⟩ : ∃ l, SMap.set laneDef s.ln.lanes k ((s.lane k).calibrated s.now q s.fresh.1) = l
      ∧ ∀ j, SMap.get laneDef l j = if j = k then (s.lane k).calibrated s.now q s.fresh.1 else s.lane j := ⟨_, rfl, fun j => SMap.get_set _ _ _ _ _⟩
  obtain ⟨m, hm, hgrp⟩ : ∃ m, SMap.set laneGroupDef s.ln.groups g { s.laneGroup g with run := some (s.runAfter g k method q r) } = m
      ∧ ∀ h, SMap.get laneGroupDef m h = if h = g then { s.laneGroup g with run := some (s.runAfter g k method q r) } else s.laneGroup h := ⟨_, rfl, fun h => SMap.get_set _ _ _ _ _⟩
  have he : s.applyCal g k method q r = { s with free := s.free + 1, ln := { s.ln with lanes := l, groups := m } } := by
    rw [applyCal_eq, ← hl, ← hm]
    rfl
  refine ⟨_, he, ?_, fun j hj => (hget j).trans (if_neg hj), (hgrp g).trans (if_pos rfl), fun h hh => (hgrp h).trans (if_neg hh), rfl⟩
  have hk : ({ s with free := s.free + 1, ln := { s.ln with lanes := l, groups := m } } : State).lane k = (s.lane k).calibrated s.now q s.fresh.1 := (hget k).trans (if_pos rfl)
  rw [hk]

/-- A lane of the partner link, measured in one piece in a run of its group. -/
structure MeasuredLane (g k : Nat) (r : CalRun) (x : CalLane) (s : State) : Prop where
  lane : k < 1168
  group : g = laneGroupOf k
  partner : 24 ≤ g
  run : (s.laneGroup g).run = some r
  found : (r.todo.find? fun c => c.lane == k && c.method != 1) = some x
  measuring : (s.lane k).measuring = true
  idle : x.method = 2

theorem measuredLane_exec {g k q : Nat} {r : CalRun} {x : CalLane} {s : State} (h : MeasuredLane g k r x s) :
    exec (.calMeasureDone k q) s = guarded (.calMeasureDone k q) s ((s.applyCal g k 2 q r).calReview g) := by
  obtain ⟨-, hg, h24, hr, hf, hm, hx⟩ := h
  rw [calMeasureDone_exec, ← hg, hr]
  dsimp only
  rw [hf]
  dsimp only
  rw [hm, if_neg (by simp), if_neg (by simp [hx, show ¬ g < 24 by omega]), hx]

theorem calMeasureDone_goes_on {g k q : Nat} {r : CalRun} {x : CalLane} {s : State} (h : MeasuredLane g k r x s) (hleft : (r.todo.filter fun c => c.lane != k) ≠ []) :
    ∃ t, exec (.calMeasureDone k q) s = .next t
      ∧ t.lane k = { (s.lane k).relock with measuring := false, calTime := s.now, quality := q, corr := (t.lane k).corr, corrOld := (s.lane k).corr }
      ∧ (∃ r1, (t.laneGroup g).run = some r1 ∧ r1.done = r.done + 1 ∧ r1.worst = min r.worst q ∧ r1.todo = r.todo.filter fun c => c.lane != k)
      ∧ (∀ j, j ≠ k → t.lane j = s.lane j) ∧ (∀ h, h ≠ g → t.laneGroup h = s.laneGroup h)
      ∧ t = { s with free := s.free + 1, ln := { s.ln with lanes := t.ln.lanes, groups := t.ln.groups } } := by
  have hx := measuredLane_exec h (q := q)
  obtain ⟨t, ht, hlane, hoth, hgrp, hgoth, hframe⟩ := applyCal_effect g k 2 q r s
  have hrun : (t.laneGroup g).run = some (s.runAfter g k 2 q r) := by rw [hgrp]
  rw [ht, calReview_busy h.partner hrun hleft] at hx
  exact ⟨t, exec_next hx (decide_eq_true h.lane) rfl (by rw [hframe]), hlane, ⟨_, hrun, rfl, rfl, rfl⟩, hoth, hgoth, hframe⟩

/-- What an ended run reports in group `g`'s parameters. -/
def State.runReported (g : Nat) (r : CalRun) (s : State) : State :=
  ((((s.modLaneGroup g fun y => { y with run := none, tickets := [], windowsOnly := false, trapStep := 0, again := none }).setP P.LN_CAL_TEMP g (toU64 r.temp)).setP P.LN_CAL_LAST g
    s.now).bumpWrap P.LN_CAL_RUNS g 1).setP P.LN_CAL_STATE g 0

/-- The run is over: its event is posted and its commands are answered. -/
def State.runOver (g : Nat) (r : CalRun) (s : State) : State :=
  (s.laneGroup g).tickets.foldl (fun t tk => t.finalReply tk cOK 12 (r.payload g s.now))
    (((s.runReported g r).clearService (.calDeferred g)).post 0x0A (groupSource g).1 (groupSource g).2 (r.payload g s.now))

/-- The group is due again after run `r` where its temperature has moved, or for the reason `again`. -/
def State.dueAfterRun (g : Nat) (r : CalRun) (again : Option Nat) (s : State) : State :=
  if s.getP P.LN_CAL_ENABLE g ≠ 1 then s
  else if ((s.getP P.LN_CAL_DELTA g * 16 : Nat) : Int) < (s.groupTemp g - r.temp).natAbs then s.makeDue g 0
  else match again with
    | some why => s.makeDue g why
    | none => s

theorem finishRun_eq (g : Nat) (r : CalRun) (s : State) : s.finishRun g r = (s.runOver g r).dueAfterRun g r (s.laneGroup g).again := rfl

theorem dueAfterRun_none {g : Nat} {r : CalRun} {s : State} (h : (s.groupTemp g - r.temp).natAbs ≤ s.getP P.LN_CAL_DELTA g * 16) : s.dueAfterRun g r none = s := by
  unfold State.dueAfterRun
  rw [if_neg (show ¬ ((s.getP P.LN_CAL_DELTA g * 16 : Nat) : Int) < (s.groupTemp g - r.temp).natAbs by omega)]
  split <;> rfl

/-- The parameters that an ended run of group `g` writes. -/
abbrev runKeys (g : Nat) : List Nat := [pkey P.LN_CAL_STATE g, pkey P.LN_CAL_LAST g, pkey P.LN_CAL_TEMP g, pkey P.LN_CAL_RUNS g]

theorem runReported_effect (g : Nat) (r : CalRun) (s : State) : ∃ t, s.runReported g r = t ∧ (t.laneGroup g).run = none ∧ (∀ h, h ≠ g → t.laneGroup h = s.laneGroup h)
    ∧ t.getP P.LN_CAL_STATE g = 0 ∧ t.getP P.LN_CAL_LAST g = s.now ∧ t.getP P.LN_CAL_TEMP g = toU64 r.temp ∧ t.getP P.LN_CAL_RUNS g = (s.getP P.LN_CAL_RUNS g + 1) % 2 ^ 32
    ∧ SameParams (runKeys g) s t ∧ t = { s with params := t.params, ln := { s.ln with groups := t.ln.groups } } := by
  have hne (a b : Nat) (h : a ≠ b) : pkey a g ≠ pkey b g := by
    simp only [pkey]
    omega
  obtain ⟨m, hm, hg, ho⟩ : ∃ m, (s.modLaneGroup g fun y => { y with run := none, tickets := [], windowsOnly := false, trapStep := 0, again := none })
        = { s with ln := { s.ln with groups := m } }
      ∧ (SMap.get laneGroupDef m g).run = none ∧ ∀ h, h ≠ g → SMap.get laneGroupDef m h = s.laneGroup h := by
    refine ⟨_, rfl, ?_, fun h hh => ?_⟩
    · rw [SMap.get_set, if_pos rfl]
    · rw [SMap.get_set, if_neg hh]
      rfl
  have hpo : ParamsOnly (runKeys g) { s with ln := { s.ln with groups := m } } (s.runReported g r) := by
    unfold State.runReported State.bumpWrap
    rw [hm]
    exact ((((ParamsOnly.refl _ _).setP (by simp) _).setP (by simp) _).setP (by simp) _).setP (by simp) _
  have hst : (s.runReported g r).getP P.LN_CAL_STATE g = 0 := State.getP_setP_same _ _ _ _
  have hlast : (s.runReported g r).getP P.LN_CAL_LAST g = s.now := by
    unfold State.runReported State.bumpWrap
    rw [State.getP_setP, if_neg (hne _ _ (by decide)), State.getP_setP, if_neg (hne _ _ (by decide)), State.getP_setP_same]
  have htemp : (s.runReported g r).getP P.LN_CAL_TEMP g = toU64 r.temp := by
    unfold State.runReported State.bumpWrap
    rw [State.getP_setP, if_neg (hne _ _ (by decide)), State.getP_setP, if_neg (hne _ _ (by decide)), State.getP_setP, if_neg (hne _ _ (by decide)), State.getP_setP_same]
  have hruns : (s.runReported g r).getP P.LN_CAL_RUNS g = (s.getP P.LN_CAL_RUNS g + 1) % 2 ^ 32 := by
    unfold State.runReported State.bumpWrap
    rw [State.getP_setP, if_neg (hne _ _ (by decide)), State.getP_setP_same, State.getP_setP, if_neg (hne _ _ (by decide)), State.getP_setP, if_neg (hne _ _ (by decide))]
    rfl
  generalize s.runReported g r = t at hpo hst hlast htemp hruns
  obtain ⟨ht, hsame⟩ := hpo
  have hgrp (h : Nat) : t.laneGroup h = SMap.get laneGroupDef m h := by rw [ht]; rfl
  have hgroups : t.ln.groups = m := by rw [ht]
  refine ⟨t, rfl, by rw [hgrp]; exact hg, fun h hh => (hgrp h).trans (ho h hh), hst, hlast, htemp, hruns, hsame, ?_⟩
  rw [hgroups]
  exact ht

/-- A run that no command waits for is over. -/
structure RunOver (g : Nat) (r : CalRun) (s t : State) : Prop where
  run : (t.laneGroup g).run = none
  others : ∀ h, h ≠ g → t.laneGroup h = s.laneGroup h
  idle : t.getP P.LN_CAL_STATE g = 0
  last : t.getP P.LN_CAL_LAST g = s.now
  temp : t.getP P.LN_CAL_TEMP g = toU64 r.temp
  runs : t.getP P.LN_CAL_RUNS g = (s.getP P.LN_CAL_RUNS g + 1) % 2 ^ 32
  served : ServiceCond.calDeferred g ∉ t.ctl.service
  same : SameParams (runKeys g) s t
  events : EventsOnly { s with params := t.params, ln := { s.ln with groups := t.ln.groups }, ctl := { s.ctl with service := t.ctl.service } } t

theorem runOver_over {g : Nat} (r : CalRun) {s : State} (h : (s.laneGroup g).tickets = []) : RunOver g r s (s.runOver g r) := by
  unfold State.runOver
  rw [h, List.foldl_nil]
  obtain ⟨u, hu, hrun, hoth, h1, h2, h3, h4, hsame, hframe⟩ := runReported_effect g r s
  rw [hu]
  have hserved := not_mem_clearService (.calDeferred g) u
  obtain ⟨x, hclear⟩ := clearService_events (.calDeferred g) u
  generalize u.clearService (.calDeferred g) = v at hserved hclear
  have hev := eventsOnly_post v 0x0A (groupSource g).1 (groupSource g).2 (r.payload g s.now)
  generalize v.post 0x0A (groupSource g).1 (groupSource g).2 (r.payload g s.now) = t at hev
  have htot := hclear.trans hev
  have hserv : t.ctl.service = v.ctl.service := by
    obtain ⟨⟨_, _, _, _, ht⟩, -⟩ := hev
    rw [ht]
  have ht : t.params = u.params ∧ t.ln = u.ln ∧ t.ctl.service = x := by
    obtain ⟨⟨_, _, _, _, ht⟩, -⟩ := htot
    rw [ht]
    exact ⟨rfl, rfl, rfl⟩
  obtain ⟨hpar, hln, hx⟩ := ht
  have hget (i : Nat) : t.getP i g = u.getP i g := congrArg (SMap.get pdef · (pkey i g)) hpar
  have hgrp (n : Nat) : t.laneGroup n = u.laneGroup n := by rw [State.laneGroup, hln, State.laneGroup]
  refine ⟨by rw [hgrp]; exact hrun, fun n hn => (hgrp n).trans (hoth n hn), (hget _).trans h1, (hget _).trans h2, (hget _).trans h3, (hget _).trans h4, by rw [hserv]; exact hserved,
    fun k hk => by rw [hpar]; exact hsame k hk, ?_⟩
  rw [hpar, hln, hx]
  have he : { u with ctl := { u.ctl with service := x } } = { s with params := u.params, ln := { s.ln with groups := u.ln.groups }, ctl := { s.ctl with service := x } } := by
    conv_lhs => rw [hframe]
  rw [← he]
  exact htot

theorem RunOver.groupTemp {g : Nat} {r : CalRun} {s t : State} (h : RunOver g r s t) (hg : g < 28) : t.groupTemp g = s.groupTemp g := by
  refine dieTemp_congr ?_ (fun n hn => h.same.getP ?_) ?_
  · obtain ⟨⟨_, _, _, _, ht⟩, -⟩ := h.events
    rw [ht]
  · simp only [List.mem_cons, List.not_mem_nil, or_false, pkey, P.HK_READING, P.LN_CAL_STATE, P.LN_CAL_LAST, P.LN_CAL_TEMP, P.LN_CAL_RUNS]
    omega
  · unfold groupDie
    split
    · omega
    split <;> omega

theorem groupTemp_congr {s t : State} (hp : t.params = s.params) (hh : t.hk = s.hk) (g : Nat) : t.groupTemp g = s.groupTemp g := by
  simp only [State.groupTemp, State.dieTemp, State.hottestValid, State.hkReading, State.getP, hp, hh]

theorem calMeasureDone_ends {g k q : Nat} {r : CalRun} {x : CalLane} {s : State} (h : MeasuredLane g k r x s) (hleft : (r.todo.filter fun c => c.lane != k) = [])
    (hrest : r.restore = []) (htk : (s.laneGroup g).tickets = []) (hagain : (s.laneGroup g).again = none)
    (hq : (s.lane k).quality ≤ q + 16 ∨ s.getP P.LN_QUALITY_MIN g ≤ q) (htemp : (s.groupTemp g - r.temp).natAbs ≤ s.getP P.LN_CAL_DELTA g * 16) :
    ∃ t, exec (.calMeasureDone k q) s = .next t ∧ t.lane k = { (s.lane k).relock with
          measuring := false, calTime := s.now, quality := q, corr := (t.lane k).corr, corrOld := (s.lane k).corr }
        ∧ (t.laneGroup g).run = none ∧ t.getP P.LN_CAL_STATE g = 0 ∧ t.getP P.LN_CAL_LAST g = s.now ∧ t.getP P.LN_CAL_TEMP g = toU64 r.temp
        ∧ t.getP P.LN_CAL_RUNS g = (s.getP P.LN_CAL_RUNS g + 1) % 2 ^ 32 ∧ ServiceCond.calDeferred g ∉ t.ctl.service
        ∧ SameParams [pkey P.LN_CAL_STATE g, pkey P.LN_CAL_LAST g, pkey P.LN_CAL_TEMP g, pkey P.LN_CAL_RUNS g] s t
        ∧ (∀ j, j ≠ k → t.lane j = s.lane j) ∧ (∀ h, h ≠ g → t.laneGroup h = s.laneGroup h)
        ∧ EventsOnly { s with
            free := s.free + 1, params := t.params, ln := { s.ln with lanes := t.ln.lanes, groups := t.ln.groups }
            ctl := { s.ctl with service := t.ctl.service } } t := by
  have hx := measuredLane_exec h (q := q)
  have hg28 : g < 28 := by
    have := h.lane
    rw [h.group, laneGroupOf]
    split
    · omega
    split <;> omega
  obtain ⟨u, hu, hlane, hoth, hgrp, hgoth, hframe⟩ := applyCal_effect g k 2 q r s
  have hrun : (u.laneGroup g).run = some (s.runAfter g k 2 q r) := by rw [hgrp]
  have hdone : ((s.runAfter g k 2 q r).todo.isEmpty && (s.runAfter g k 2 q r).restore.isEmpty) = true := by
    have hbad : decide (q + 16 < (s.lane k).quality ∧ q < s.getP P.LN_QUALITY_MIN g) = false := decide_eq_false (by omega)
    rw [show (s.runAfter g k 2 q r).todo = [] from hleft, show (s.runAfter g k 2 q r).restore = r.restore by
      show (if decide (q + 16 < (s.lane k).quality ∧ q < s.getP P.LN_QUALITY_MIN g) then r.restore ++ [k] else r.restore) = _
      rw [hbad, if_neg Bool.false_ne_true], hrest]
    rfl
  rw [hu, calReview_idle h.partner hrun, if_pos hdone, finishRun_eq] at hx
  have hover := runOver_over (s.runAfter g k 2 q r) (s := u) (by rw [hgrp]; exact htk)
  have hnow : u.now = s.now := by rw [hframe]
  have hpar : u.params = s.params := by rw [hframe]
  have hhk : u.hk = s.hk := by rw [hframe]
  rw [show (u.laneGroup g).again = none by rw [hgrp]; exact hagain] at hx
  generalize u.runOver g (s.runAfter g k 2 q r) = t at hx hover
  have hk : t.ln.lanes = u.ln.lanes ∧ t.hk = u.hk := by
    obtain ⟨⟨_, _, _, _, ht⟩, -⟩ := hover.events
    rw [ht]
    exact ⟨rfl, rfl⟩
  have htl (j : Nat) : t.lane j = u.lane j := by rw [State.lane, hk.1, State.lane]
  have hkd : pkey P.LN_CAL_DELTA g ∉ runKeys g := by
    simp only [List.mem_cons, List.not_mem_nil, or_false, pkey, P.LN_CAL_DELTA, P.LN_CAL_STATE, P.LN_CAL_LAST, P.LN_CAL_TEMP, P.LN_CAL_RUNS]
    omega
  have hdelta : t.getP P.LN_CAL_DELTA g = s.getP P.LN_CAL_DELTA g := (hover.same.getP hkd).trans (congrArg (SMap.get pdef · (pkey P.LN_CAL_DELTA g)) hpar)
  rw [dueAfterRun_none (by rw [hdelta, hover.groupTemp hg28, groupTemp_congr hpar hhk]; exact htemp)] at hx
  have hev : EventsOnly { s with free := s.free + 1, params := t.params, ln := { s.ln with lanes := t.ln.lanes, groups := t.ln.groups }, ctl := { s.ctl with service := t.ctl.service } } t := by
    have he : ({ u with params := t.params, ln := { u.ln with groups := t.ln.groups }, ctl := { u.ctl with service := t.ctl.service } } : State)
        = { s with free := s.free + 1, params := t.params, ln := { s.ln with lanes := t.ln.lanes, groups := t.ln.groups }, ctl := { s.ctl with service := t.ctl.service } } := by
      rw [hk.1]
      conv_lhs => rw [hframe]
    rw [← he]
    exact hover.events
  refine ⟨t, exec_next hx (decide_eq_true h.lane) rfl hev.pending, ?_, hover.run, hover.idle, hover.last.trans hnow, hover.temp,
    hover.runs.trans (by rw [State.getP, hpar, State.getP]), hover.served, fun i hi => (hover.same i hi).trans (by rw [hpar]), fun j hj => (htl j).trans (hoth j hj),
    fun n hn => (hover.others n hn).trans (hgoth n hn), hev⟩
  rw [htl]
  exact hlane

/-! ### CAL_WINDOW (R258, R261) -/

/-- The lanes of a run that are measured in windows. -/
abbrev CalRun.windowed (r : CalRun) : List CalLane := r.todo.filter fun c => c.method == 1

/-- The window of group `g` begins: its end is set, and the restores come first. -/
def State.windowBegun (g : Nat) (r : CalRun) (s : State) : State :=
  r.restore.foldl (fun t k => t.modLane k fun y => { y.relock with corr := y.corrOld, winEnd := s.now + 16000 }) (s.modLaneGroup g fun y =>
    { y with winEnd := s.now + 16000, run := some { r with restored := r.restored + r.restore.length, restore := [] } })

theorem calWindow_exec (g w : Nat) (l : List (Nat × Nat)) (s : State) : exec (.calWindow g ⟨w, l⟩) s = guarded (.calWindow g ⟨w, l⟩) s
    (match ((s.atLeast w).laneGroup g).run with
    | none => s.atLeast w
    | some r =>
      if (r.windowed.map (·.lane) ++ r.restore).any (fun k => !(s.atLeast w).windowOpen k) || (r.windowed.isEmpty && r.restore.isEmpty) then s.atLeast w
      else (r.windowed.foldl (fun t c => t.windowLane g l c) ((s.atLeast w).windowBegun g r)).calReview g) := rfl

theorem calWindow_idle {g w : Nat} {l : List (Nat × Nat)} {s : State} (hg : g < 28) (h : (s.laneGroup g).run = none) : exec (.calWindow g ⟨w, l⟩) s = .next (s.atLeast w) := by
  refine exec_next (calWindow_exec g w l s) (decide_eq_true hg) ?_ rfl
  rw [show ((s.atLeast w).laneGroup g).run = none from h]

/-- The one lane left of a run of the partner link is measured in windows. -/
structure WindowedLane (g : Nat) (r : CalRun) (x : CalLane) (s : State) : Prop where
  partner : 24 ≤ g
  group : g < 28
  run : (s.laneGroup g).run = some r
  todo : r.todo = [x]
  method : x.method = 1
  restore : r.restore = []
  slices : x.slices < 8
  scans : ∀ e ∈ s.ln.scans, e.lane ≠ x.lane
  lane : 1024 ≤ x.lane

theorem windowedLane_exec {g w : Nat} {l : List (Nat × Nat)} {r : CalRun} {x : CalLane} {s : State} (h : WindowedLane g r x s) :
    exec (.calWindow g ⟨w, l⟩) s = guarded (.calWindow g ⟨w, l⟩) s (if (s.atLeast w).windowOpen x.lane then
      (((s.atLeast w).windowBegun g r).windowLane g l x).calReview g else s.atLeast w) := by
  have hwin : r.windowed = [x] := by simp [CalRun.windowed, h.todo, h.method]
  rw [calWindow_exec, show ((s.atLeast w).laneGroup g).run = some r from h.run]
  dsimp only
  rw [hwin, h.restore]
  by_cases hopen : (s.atLeast w).windowOpen x.lane = true
  · rw [if_pos hopen, if_neg (by simp [hopen])]
    rfl
  · rw [if_neg hopen, if_pos (by simp [hopen])]

theorem windowLane_slices {g : Nat} {l : List (Nat × Nat)} {r : CalRun} {x : CalLane} {s : State} (hr : (s.laneGroup g).run = some r) (hl : 1024 ≤ x.lane)
    (hs : ∀ e ∈ s.ln.scans, e.lane ≠ x.lane) (h8 : x.slices < 8) : s.windowLane g l x = (s.modLane x.lane fun y => { y.relock with winEnd := s.now + 16000 }).modLaneGroup g fun y =>
      { y with run := some { r with todo := r.todo.map fun d => if d.lane = x.lane then { d with slices := d.slices + 1 } else d } } := by
  unfold State.windowLane
  rw [hr]
  dsimp only
  rw [if_neg (show ¬ x.lane < 1024 by omega), abortScans_none hs, if_pos h8]

theorem windowedLane_slice {g w : Nat} {l : List (Nat × Nat)} {r : CalRun} {x : CalLane} {s : State} (h : WindowedLane g r x s) (hopen : (s.atLeast w).windowOpen x.lane = true) :
    ∃ t, exec (.calWindow g ⟨w, l⟩) s = .next t
      ∧ t.laneGroup g = { s.laneGroup g with run := some { r with todo := [{ x with slices := x.slices + 1 }] }, winEnd := max s.now w + 16000 }
      ∧ t.lane x.lane = { (s.lane x.lane).relock with winEnd := max s.now w + 16000 } ∧ (∀ k, k ≠ x.lane → t.lane k = s.lane k)
      ∧ (∀ h, h ≠ g → t.laneGroup h = s.laneGroup h) ∧ t = { s with now := max s.now w, ln := { s.ln with lanes := t.ln.lanes, groups := t.ln.groups } } := by
  have hx := windowedLane_exec h (w := w) (l := l)
  rw [if_pos hopen] at hx
  have hr0 : ({ r with restored := r.restored + r.restore.length, restore := [] } : CalRun) = r := by
    have := h.restore
    cases r
    simp_all
  obtain ⟨m, hm, hmg⟩ : ∃ m, SMap.set laneGroupDef s.ln.groups g { s.laneGroup g with winEnd := max s.now w + 16000, run := some r } = m
      ∧ ∀ n, SMap.get laneGroupDef m n = if n = g then { s.laneGroup g with winEnd := max s.now w + 16000, run := some r } else s.laneGroup n := ⟨_, rfl, fun n => SMap.get_set _ _ _ _ _⟩
  have hbegun : (s.atLeast w).windowBegun g r = { s with now := max s.now w, ln := { s.ln with groups := m } } := by
    unfold State.windowBegun
    rw [hr0, h.restore, List.foldl_nil, ← hm]
    rfl
  rw [hbegun, windowLane_slices (r := r) (s := { s with now := max s.now w, ln := { s.ln with groups := m } }) ((congrArg LaneGroup.run (hmg g)).trans (by rw [if_pos rfl])) h.lane h.scans h.slices, h.todo] at hx
  have hmap : [x].map (fun d => if d.lane = x.lane then { d with slices := d.slices + 1 } else d) = [{ x with slices := x.slices + 1 }] := by
    rw [List.map_singleton, if_pos rfl]
  rw [hmap] at hx
  obtain ⟨lm, hlm, hlget⟩ : ∃ lm, SMap.set laneDef s.ln.lanes x.lane { (s.lane x.lane).relock with winEnd := max s.now w + 16000 } = lm
      ∧ ∀ k, SMap.get laneDef lm k = if k = x.lane then { (s.lane x.lane).relock with winEnd := max s.now w + 16000 } else s.lane k := ⟨_, rfl, fun n => SMap.get_set _ _ _ _ _⟩
  obtain ⟨n, hn, hnget⟩ : ∃ n, SMap.set laneGroupDef m g { SMap.get laneGroupDef m g with run := some { r with todo := [{ x with slices := x.slices + 1 }] } } = n
      ∧ ∀ k, SMap.get laneGroupDef n k = if k = g then { SMap.get laneGroupDef m g with run := some { r with todo := [{ x with slices := x.slices + 1 }] } }
        else SMap.get laneGroupDef m k := ⟨_, rfl, fun n => SMap.get_set _ _ _ _ _⟩
  have hu : ((({ s with now := max s.now w, ln := { s.ln with groups := m } } : State).modLane x.lane fun y => { y.relock with winEnd := max s.now w + 16000 }).modLaneGroup g
      fun y => { y with run := some { r with todo := [{ x with slices := x.slices + 1 }] } }) = { s with now := max s.now w, ln := { s.ln with lanes := lm, groups := n } } := by
    rw [← hn, ← hlm]
    rfl
  rw [show ({ s with now := max s.now w, ln := { s.ln with groups := m } } : State).now = max s.now w from rfl, hu] at hx
  have hgrp : SMap.get laneGroupDef n g = { s.laneGroup g with run := some { r with todo := [{ x with slices := x.slices + 1 }] }, winEnd := max s.now w + 16000 } := by
    rw [hnget, if_pos rfl, hmg, if_pos rfl]
  rw [calReview_busy (s := { s with now := max s.now w, ln := { s.ln with lanes := lm, groups := n } }) h.partner (r := { r with todo := [{ x with slices := x.slices + 1 }] }) (congrArg LaneGroup.run hgrp) (List.cons_ne_nil _ _)] at hx
  exact ⟨_, exec_next hx (decide_eq_true h.group) rfl rfl, hgrp, (hlget _).trans (if_pos rfl), fun k hk => (hlget k).trans (if_neg hk),
    fun k hk => (hnget k).trans ((if_neg hk).trans ((hmg k).trans (if_neg hk))), rfl⟩

/-! ### CAL_DEFER_LIMIT (R264) and LANE_CALIBRATE (R259) -/

theorem calDeferLimit_exec (g : Nat) (s : State) : exec (.calDeferLimit g) s = guarded (.calDeferLimit g) s
    (if s.getP P.LN_CAL_STATE g = 0 then s
    else (s.laneGroup g).tickets.foldl (fun t tk => t.finalReply tk cTIMEOUT 0 0)
      (((s.calDeferred g 1).raiseService (.calDeferred g)).modLaneGroup g fun y => { y with tickets := [] })) := rfl

theorem calDeferLimit_answers {g tk : Nat} {f : Flight} {s : State} (hg : g < 28) (hst : s.getP P.LN_CAL_STATE g ≠ 0) (htk : (s.laneGroup g).tickets = [tk]) (hf : s.awaits tk f) :
    ∃ t, exec (.calDeferLimit g) s = .next t ∧ Answered f.opcode f.cmd 9 0 0 t ∧ ServiceCond.calDeferred g ∈ t.ctl.service
      ∧ (t.laneGroup g).tickets = [] ∧ (∀ h, h ≠ g → t.laneGroup h = s.laneGroup h)
      ∧ RepliedEvents f { s with ln := { s.ln with groups := t.ln.groups }, ctl := { s.ctl with service := t.ctl.service } } t := by
  have hx := calDeferLimit_exec g s
  rw [if_neg hst, htk, List.foldl_cons, List.foldl_nil] at hx
  have hev : EventsOnly s (s.calDeferred g 1) := eventsOnly_post _ _ _ _ _
  generalize s.calDeferred g 1 = u at hx hev
  obtain ⟨x, hraise, hmem⟩ := raiseService_events (.calDeferred g) u
  generalize u.raiseService (.calDeferred g) = v at hx hraise
  have hbase := (hev.lift (fun z => { z with ctl := { z.ctl with service := x } }) (fun _ _ _ _ _ => rfl) fun _ => rfl).trans hraise
  have hv : v.ctl.service = x ∧ v.ln = s.ln := by
    obtain ⟨⟨_, _, _, _, hv⟩, -⟩ := hbase
    rw [hv]
    exact ⟨rfl, rfl⟩
  obtain ⟨m, hm, hmg⟩ : ∃ m, v.modLaneGroup g (fun y => { y with tickets := [] }) = { v with ln := { v.ln with groups := m } }
      ∧ ∀ h, SMap.get laneGroupDef m h = if h = g then { s.laneGroup g with tickets := [] } else s.laneGroup h := by
    refine ⟨_, rfl, fun h => ?_⟩
    rw [SMap.get_set, State.laneGroup, State.laneGroup, hv.2]
    rfl
  rw [hm] at hx
  have hbase' := hbase.lift (fun z => { z with ln := { z.ln with groups := m } }) (fun _ _ _ _ _ => rfl) fun _ => rfl
  have hw : ({ v with ln := { v.ln with groups := m } } : State).ln.groups = m ∧ ({ v with ln := { v.ln with groups := m } } : State).ctl.service = x := ⟨rfl, hv.1⟩
  generalize ({ v with ln := { v.ln with groups := m } } : State) = w at hx hbase' hw
  have haw : w.awaits tk f := hbase'.awaits (awaits_congr hf rfl rfl)
  obtain ⟨t, ht, hln, hserv⟩ : ∃ t, t = w.finalReply tk cTIMEOUT 0 0 ∧ t.ln.groups = m ∧ t.ctl.service = x :=
    ⟨_, rfl, by rw [State.finalReply_ln, hw.1], by rw [State.finalReply_ctl_service, hw.2]⟩
  have hgrp (h : Nat) : t.laneGroup h = if h = g then { s.laneGroup g with tickets := [] } else s.laneGroup h := by rw [State.laneGroup, hln, hmg]
  refine ⟨t, exec_next hx (decide_eq_true hg) ht.symm ?_, ?_, by rw [hserv]; exact hmem, by rw [hgrp, if_pos rfl], fun h hh => by rw [hgrp, if_neg hh], ?_⟩
  · rw [ht, State.finalReply_pending]
    exact hbase'.pending
  · rw [ht]
    exact finalReply_answered w haw.2 haw.1 (by decide) _ _
  · rw [hln, hserv, ht]
    exact hbase'.replied haw _ _ _

theorem laneCalibrateBody_eq (q : Call) (s : State) : laneCalibrateBody q s =
    if 28 ≤ q.c.f 0 8 then (s, .err cBAD_PARAM)
    else if s.getP P.LN_CAL_STATE (q.c.f 0 8) = 2 then (s, .err cBUSY)
    else ((s.setP P.LN_CAL_STATE (q.c.f 0 8) 1).modLaneGroup (q.c.f 0 8) fun y =>
      { y with reason := 1, windowsOnly := q.c.ops.testBit 8, tickets := y.tickets ++ [q.tk] }, .wait) := rfl

section
variable {c : Cmd} {s : State} (ha : s.accepts false 0x0502 c) (ho : c.operands 4 0xFFFFFE00)
include ha ho

theorem laneCalibrate_fails {code : Nat} (hc : code < 256)
    (h : laneCalibrateBody { c := c, tk := s.newTicket, priv := s.privOf c } (s.entered 0x0502 c) = (s.entered 0x0502 c, .err code)) :
    ∃ t, exec (.laneCalibrate c) s = .next t ∧ Answered 0x0502 c code 0 0 t ∧ CommandOnly c s t :=
  completes_reading (i := .laneCalibrate c) (spec := laneCalibrateSpec) (body := laneCalibrateBody) ha.1.1 ha (by simp [laneCalibrateSpec, ho.1]) (by rw [ho.1]; exact ho.2)
    (fun _ => rfl) hc h

theorem laneCalibrate_waits (hg : c.f 0 8 < 28) (hst : s.getP P.LN_CAL_STATE (c.f 0 8) ≠ 2) : ∃ t, exec (.laneCalibrate c) s = .next t
      ∧ Waits 0x0502 c ((s.setP P.LN_CAL_STATE (c.f 0 8) 1).modLaneGroup (c.f 0 8) fun y => { y with
          reason := 1, windowsOnly := c.ops.testBit 8, tickets := y.tickets ++ [s.newTicket] }) t :=
  Runs.waits (i := .laneCalibrate c) (spec := laneCalibrateSpec) (body := laneCalibrateBody) ha.1.1 ha (by simp [laneCalibrateSpec, ho.1]) (by rw [ho.1]; exact ho.2)
    (fun _ => rfl) (by rw [laneCalibrateBody_eq]; dsimp only; rw [if_neg (by omega), State.entered_getP, if_neg hst])
    (runs_of_comm (fun z => (z.setP P.LN_CAL_STATE (c.f 0 8) 1).modLaneGroup (c.f 0 8) fun y => { y with
          reason := 1, windowsOnly := c.ops.testBit 8, tickets := y.tickets ++ [s.newTicket] }) (fun _ _ _ _ => rfl) rfl rfl rfl rfl) rfl rfl

end

end Sys2Proof.Machine

open Sys2Proof Sys2Proof.Machine in
/-- Settles O36: a run is a record that each step replaces; beside Trapeze it ends exactly when nothing is left to apply or to restore. -/
theorem groupsAreCalibrated : Obligations.GroupsAreCalibrated := by
  unfold Obligations.GroupsAreCalibrated
  refine ⟨fun s h => calibrationStart_none h, fun g s hg hpar h1 hlow => ⟨fun hfit => calibrationStart_defers hg hpar h1 hlow hfit,
      fun h24 hfit hidle hscan => calibrationStart_starts hg hpar h1 hlow h24 hfit hidle hscan⟩,
    fun g k q r x s hk hg h24 hr hf hm hrest hx => ⟨fun hleft => calMeasureDone_goes_on ⟨hk, hg, h24, hr, hf, hm, hx⟩ hleft,
      fun hleft htk hagain hq htemp => calMeasureDone_ends ⟨hk, hg, h24, hr, hf, hm, hx⟩ hleft hrest htk hagain hq htemp⟩,
    fun g k q w l s => ⟨fun hk h => exec_next (calMeasureDone_exec k q s) (decide_eq_true hk) (by rw [h]) rfl, fun hg h => calWindow_idle hg h⟩,
    fun g w l r x s h24 hg hr ht hm hrest h8 hs hl => ⟨fun hopen => ?_, fun hopen => windowedLane_slice ⟨h24, hg, hr, ht, hm, hrest, h8, hs, hl⟩ hopen⟩,
    fun g s hg h => exec_next (calDeferLimit_exec g s) (decide_eq_true hg) (if_pos h) rfl, fun g tk f s hg hst htk hf => calDeferLimit_answers hg hst htk hf,
    fun c s ha ho => ⟨fun h => laneCalibrate_fails ha ho (by decide) (by rw [laneCalibrateBody_eq, if_pos h]),
      fun h hst => laneCalibrate_fails ha ho (by decide) ?_, fun h hst => laneCalibrate_waits ha ho h hst⟩⟩
  · exact exec_next (windowedLane_exec ⟨h24, hg, hr, ht, hm, hrest, h8, hs, hl⟩) (decide_eq_true hg) (if_neg (by rw [hopen]; exact Bool.false_ne_true)) rfl
  · rw [laneCalibrateBody_eq]
    dsimp only
    rw [if_neg (by omega), State.entered_getP, if_pos hst]
end

section
/-! The lane commands and pattern testing (O37; 08_serial_lanes.md). -/

namespace Sys2Proof.Machine

/-! ### LANE_STATUS (R272) -/

/-- `n` records of `w` bits, one after the other. -/
def packedRecords (w : Nat) (f : Nat → Nat) (n : Nat) : Nat := (List.range n).foldl (fun a i => a + at' (w * i) (f i)) 0

theorem packedRecords_succ (w : Nat) (f : Nat → Nat) (n : Nat) : packedRecords w f (n + 1) = packedRecords w f n + f n * 2 ^ (w * n) := by
  rw [packedRecords, List.range_succ, List.foldl_append, List.foldl_cons, List.foldl_nil]
  exact congrArg (packedRecords w f n + ·) (Nat.shiftLeft_eq _ _)

theorem packedRecords_lt {w : Nat} {f : Nat → Nat} : ∀ {n : Nat}, (∀ i, i < n → f i < 2 ^ w) → packedRecords w f n < 2 ^ (w * n)
  | 0, _ => Nat.one_pos
  | n + 1, h => by
    have ih := packedRecords_lt (f := f) (n := n) fun i hi => h i (by omega)
    have hn : f n + 1 ≤ 2 ^ w := h n (by omega)
    rw [packedRecords_succ, Nat.mul_add, Nat.mul_one, Nat.pow_add]
    calc packedRecords w f n + f n * 2 ^ (w * n) < 2 ^ (w * n) + f n * 2 ^ (w * n) := Nat.add_lt_add_right ih _
      _ = (f n + 1) * 2 ^ (w * n) := by rw [Nat.add_mul, Nat.one_mul, Nat.add_comm]
      _ ≤ 2 ^ w * 2 ^ (w * n) := Nat.mul_le_mul_right _ hn
      _ = 2 ^ (w * n) * 2 ^ w := Nat.mul_comm _ _

theorem packedRecords_get {w : Nat} {f : Nat → Nat} : ∀ {n i : Nat}, (∀ i, i < n → f i < 2 ^ w) → i < n → packedRecords w f n / 2 ^ (w * i) % 2 ^ w = f i
  | 0, _, _, hi => absurd hi (Nat.not_lt_zero _)
  | n + 1, i, h, hi => by
    rw [packedRecords_succ]
    rcases Nat.lt_or_eq_of_le (Nat.le_of_lt_succ hi) with hlt | rfl
    · obtain ⟨d, hd⟩ : ∃ d, n = i + 1 + d := ⟨n - (i + 1), by omega⟩
      have hpow : f n * 2 ^ (w * n) = f n * 2 ^ (w * d) * 2 ^ w * 2 ^ (w * i) := by
        rw [Nat.mul_assoc, Nat.mul_assoc, ← Nat.pow_add, ← Nat.pow_add]
        rw [hd, Nat.mul_add, Nat.mul_add, Nat.mul_one]
        congr 2
        omega
      rw [hpow, Nat.add_mul_div_right _ _ (Nat.two_pow_pos _), Nat.add_mul_mod_self_right]
      exact packedRecords_get (fun i hi => h i (by omega)) hlt
    · have ih := packedRecords_lt (f := f) (n := i) fun j hj => h j (by omega)
      rw [Nat.add_mul_div_right _ _ (Nat.two_pow_pos _), Nat.div_eq_of_lt ih, Nat.zero_add, Nat.mod_eq_of_lt (h i (by omega))]

theorem entered_laneRecord (s : State) (op : Nat) (c : Cmd) (k : Nat) : (s.entered op c).laneRecord k = s.laneRecord k := by
  obtain ⟨w, m, t, f, h⟩ := entered_frame s op c
  rw [h]
  rfl

/-- The record of a lane whose counters have been cleared. -/
abbrev Lane.cleared (x : Lane) : Lane :=
  { x with fillMin := 0, fillMax := 0, fillClear := true, violations := 0, disparity := 0, losses := 0, skipIns := 0, skipDel := 0, skipErr := 0, elastic := 0 }

theorem laneStatusBody_eq (q : Call) (s : State) : laneStatusBody q s =
    if q.c.f 16 8 < 1 ∨ 5 < q.c.f 16 8 ∨ 1168 < q.c.f 0 16 + q.c.f 16 8 then (s, .err cBAD_PARAM)
    else ((if q.c.ops.testBit 24 then (List.range (q.c.f 16 8)).foldl (fun t i => t.modLane (q.c.f 0 16 + i) Lane.cleared) s else s),
      .done cOK (48 * q.c.f 16 8) (packedRecords 384 (fun i => s.laneRecord (q.c.f 0 16 + i)) (q.c.f 16 8))) := rfl

/-- `n` lanes from `k` up are cleared. -/
theorem clearLanes (k n : Nat) (s : State) : ∃ m, (List.range n).foldl (fun t i => t.modLane (k + i) Lane.cleared) s = { s with ln := { s.ln with lanes := m } }
    ∧ ∀ j, SMap.get laneDef m j = if k ≤ j ∧ j < k + n then (s.lane j).cleared else s.lane j := by
  induction n with
  | zero => exact ⟨s.ln.lanes, rfl, fun j => (if_neg (by omega)).symm⟩
  | succ n ih =>
    obtain ⟨m, hm, hget⟩ := ih
    rw [List.range_succ, List.foldl_append, hm]
    refine ⟨_, rfl, fun j => ?_⟩
    rw [SMap.get_set]
    by_cases hj : j = k + n
    · rw [if_pos hj, if_pos (by omega), hj]
      exact congrArg Lane.cleared ((hget (k + n)).trans (if_neg (by omega)))
    · rw [if_neg hj, hget]
      by_cases h : k ≤ j ∧ j < k + n
      · rw [if_pos h, if_pos (by omega)]
      · rw [if_neg h, if_neg (by omega)]

section
variable {c : Cmd} {s : State} (ha : s.accepts false 0x0501 c) (ho : c.operands 4 0xFE000000)
include ha ho

theorem laneStatus_badParam (h : c.f 16 8 = 0 ∨ 5 < c.f 16 8 ∨ 1168 < c.f 0 16 + c.f 16 8) : ∃ t, exec (.laneStatus c) s = .next t ∧ Answered 0x0501 c 4 0 0 t ∧ CommandOnly c s t :=
  completes_reading (i := .laneStatus c) (spec := laneStatusSpec) (body := laneStatusBody) ha.1.1 ha (by simp [laneStatusSpec, ho.1]) (by rw [ho.1]; exact ho.2) (fun _ => rfl)
    (by decide) (by rw [laneStatusBody_eq]; exact if_pos (by dsimp only; omega))

theorem laneStatus_reads (h1 : 1 ≤ c.f 16 8) (h5 : c.f 16 8 ≤ 5) (hk : c.f 0 16 + c.f 16 8 ≤ 1168) (hb : c.ops.testBit 24 = false) :
    ∃ t, exec (.laneStatus c) s = .next t ∧ Answered 0x0501 c 0 (48 * c.f 16 8) (packedRecords 384 (fun i => s.laneRecord (c.f 0 16 + i)) (c.f 16 8)) t ∧ CommandOnly c s t := by
  refine completes_reading (i := .laneStatus c) (spec := laneStatusSpec) (body := laneStatusBody) ha.1.1 ha (by simp [laneStatusSpec, ho.1]) (by rw [ho.1]; exact ho.2)
    (fun _ => rfl) (by decide) ?_
  rw [laneStatusBody_eq]
  dsimp only
  rw [if_neg (by omega), hb, if_neg Bool.false_ne_true]
  simp only [laneStatusSpec, entered_laneRecord]

theorem laneStatus_clears (h1 : 1 ≤ c.f 16 8) (h5 : c.f 16 8 ≤ 5) (hk : c.f 0 16 + c.f 16 8 ≤ 1168) (hb : c.ops.testBit 24 = true) :
    ∃ t, exec (.laneStatus c) s = .next t ∧ Answered 0x0501 c 0 (48 * c.f 16 8) (packedRecords 384 (fun i => s.laneRecord (c.f 0 16 + i)) (c.f 16 8)) t
      ∧ (∀ j, t.lane j = if c.f 0 16 ≤ j ∧ j < c.f 0 16 + c.f 16 8 then (s.lane j).cleared else s.lane j)
      ∧ CommandOnly c { s with ln := { s.ln with lanes := t.ln.lanes } } t := by
  obtain ⟨m, hm, hget⟩ := clearLanes (c.f 0 16) (c.f 16 8) (s.entered 0x0501 c)
  have hbody : laneStatusBody { c := c, tk := s.newTicket, priv := s.privOf c } (s.entered 0x0501 c) = ({ s.entered 0x0501 c with ln := { (s.entered 0x0501 c).ln with lanes := m } },
      .done cOK (48 * c.f 16 8) (packedRecords 384 (fun i => s.laneRecord (c.f 0 16 + i)) (c.f 16 8))) := by
    rw [laneStatusBody_eq]
    dsimp only
    rw [if_neg (by omega), hb, if_pos rfl, hm]
    simp only [entered_laneRecord]
  have hruns : Runs s 0x0501 c { s with ln := { s.ln with lanes := m } } (laneStatusBody { c := c, tk := s.newTicket, priv := s.privOf c } (s.entered 0x0501 c)).1 := by
    rw [hbody]
    exact runs_of_comm (fun z => { z with ln := { z.ln with lanes := m } }) (fun _ _ _ _ => rfl) rfl rfl rfl rfl
  obtain ⟨t, hx, hans, hcmd⟩ := Runs.completes (i := .laneStatus c) (spec := laneStatusSpec) (body := laneStatusBody) ha.1.1 ha (by simp [laneStatusSpec, ho.1])
    (by rw [ho.1]; exact ho.2) (fun _ => rfl) (congrArg Prod.snd hbody) (by decide) hruns rfl
  have hln : t.ln.lanes = m := by rw [hcmd.1]
  refine ⟨t, hx, hans, fun j => ?_, ?_⟩
  · rw [State.lane, hln, hget]
    simp only [entered_lane]
  · rw [hln]
    exact hcmd

end

theorem laneRecord_head {k : Nat} {s : State} (hk : k < 1168) (ht : (s.lane k).tx < 4) (hr : (s.lane k).rx < 4) (hl : (s.lane k).lock < 4) (hm : (s.lane k).measuring = false)
    (hg : (s.lane k).gen = 0) (hc : (s.lane k).chk = 0) : s.laneRecord k % 2 ^ 16 = k ∧ s.laneRecord k / 2 ^ 16 % 2 ^ 8 = (s.lane k).tx
      ∧ s.laneRecord k / 2 ^ 24 % 2 ^ 8 = (s.lane k).rx ∧ s.laneRecord k / 2 ^ 32 % 2 ^ 8 = (s.lane k).lock := by
  unfold State.laneRecord
  dsimp only
  rw [hm, hg, hc]
  simp only [Bool.false_eq_true, if_false, ne_eq, not_true_eq_false, at', Nat.shiftLeft_eq]
  omega

/-! ### PATTERN_SET and PATTERN_STATUS (R268, R269) -/

theorem entered_laneInUse (s : State) (op : Nat) (c : Cmd) (k : Nat) : (s.entered op c).laneInUse k = s.laneInUse k := by
  obtain ⟨w, m, t, f, h⟩ := entered_frame s op c
  rw [h]
  rfl

/-- Lane `x` with the generator, checker, loopback and user pattern that PATTERN_SET names. -/
abbrev Lane.patterned (c : Cmd) (x : Lane) : Lane :=
  { x with gen := c.f 16 3, chk := c.f 20 3, loopback := c.f 24 2, user := c.f 32 40, sync := false, compared := 0, errors := 0, syncLosses := 0, injected := 0
           pat := { out := if c.f 16 3 = 4 then 0 else 2 ^ 40 - 1 } }

theorem patternSetBody_eq (q : Call) (s : State) : patternSetBody q s =
    if 1168 ≤ q.c.f 0 16 ∨ 4 < q.c.f 16 3 ∨ 4 < q.c.f 20 3 ∨ 1 < q.c.f 24 2 then (s, .err cBAD_PARAM)
    else if s.getP P.LN_CAL_STATE (laneGroupOf (q.c.f 0 16)) = 2 then (s, .err cBUSY)
    else if s.laneInUse (q.c.f 0 16) then (s, .err 0x48)
    else (s.modLane (q.c.f 0 16) (Lane.patterned q.c), .ok) := rfl

section
variable {c : Cmd} {s : State} (ha : s.accepts false 0x0504 c) (ho : c.operands 12 0xFFFFFF0000000000FC880000)
include ha ho

theorem patternSet_fails {code : Nat} (hc : code < 256)
    (h : patternSetBody { c := c, tk := s.newTicket, priv := s.privOf c } (s.entered 0x0504 c) = (s.entered 0x0504 c, .err code)) :
    ∃ t, exec (.patternSet c) s = .next t ∧ Answered 0x0504 c code 0 0 t ∧ CommandOnly c s t :=
  completes_reading (i := .patternSet c) (spec := patternSetSpec) (body := patternSetBody) ha.1.1 ha (by simp [patternSetSpec, ho.1]) (by rw [ho.1]; exact ho.2)
    (fun _ => rfl) hc h

theorem patternSet_badParam (h : 1168 ≤ c.f 0 16 ∨ 4 < c.f 16 3 ∨ 4 < c.f 20 3 ∨ 1 < c.f 24 2) :
    ∃ t, exec (.patternSet c) s = .next t ∧ Answered 0x0504 c 4 0 0 t ∧ CommandOnly c s t :=
  patternSet_fails ha ho (by decide) (by rw [patternSetBody_eq]; exact if_pos h)

variable (hok : ¬ (1168 ≤ c.f 0 16 ∨ 4 < c.f 16 3 ∨ 4 < c.f 20 3 ∨ 1 < c.f 24 2))
include hok

theorem patternSet_busy (hst : s.getP P.LN_CAL_STATE (laneGroupOf (c.f 0 16)) = 2) :
    ∃ t, exec (.patternSet c) s = .next t ∧ Answered 0x0504 c 2 0 0 t ∧ CommandOnly c s t :=
  patternSet_fails ha ho (by decide) (by rw [patternSetBody_eq]; dsimp only; rw [if_neg hok, State.entered_getP, if_pos hst])

variable (hst : s.getP P.LN_CAL_STATE (laneGroupOf (c.f 0 16)) ≠ 2)
include hst

theorem patternSet_inUse (hu : s.laneInUse (c.f 0 16) = true) : ∃ t, exec (.patternSet c) s = .next t ∧ Answered 0x0504 c 0x48 0 0 t ∧ CommandOnly c s t :=
  patternSet_fails ha ho (by decide)
    (by rw [patternSetBody_eq]; dsimp only; rw [if_neg hok, State.entered_getP, if_neg hst, entered_laneInUse, if_pos hu])

theorem patternSet_sets (hu : s.laneInUse (c.f 0 16) = false) : ∃ t, exec (.patternSet c) s = .next t ∧ Answered 0x0504 c 0 0 0 t
    ∧ CommandOnly c (s.modLane (c.f 0 16) (Lane.patterned c)) t := by
  have hbody : patternSetBody { c := c, tk := s.newTicket, priv := s.privOf c } (s.entered 0x0504 c)
      = ((s.entered 0x0504 c).modLane (c.f 0 16) (Lane.patterned c), .ok) := by
    rw [patternSetBody_eq]
    dsimp only
    rw [if_neg hok, State.entered_getP, if_neg hst, entered_laneInUse, hu, if_neg Bool.false_ne_true]
  refine Runs.completes (i := .patternSet c) (spec := patternSetSpec) (body := patternSetBody) ha.1.1 ha (by simp [patternSetSpec, ho.1])
    (by rw [ho.1]; exact ho.2) (fun _ => rfl) (congrArg Prod.snd hbody) (by decide) ?_ rfl
  exact (congrArg Prod.fst hbody) ▸ runs_of_comm (fun z => z.modLane (c.f 0 16) (Lane.patterned c)) (fun _ _ _ _ => rfl) rfl rfl rfl rfl

end

/-- The checker's counters and sync of lane `x`, as PATTERN_STATUS answers them. -/
abbrev Lane.patternRecord (x : Lane) : Nat :=
  b2n x.sync + at' 8 x.chk + at' 32 x.compared + at' 96 x.errors + at' 128 x.syncLosses + at' 160 x.injected

theorem Lane.patternRecord_fields {x : Lane} (hk : x.chk < 2 ^ 24) (hc : x.compared < 2 ^ 64) (he : x.errors < 2 ^ 32) :
    x.patternRecord % 2 ^ 8 = b2n x.sync ∧ x.patternRecord / 2 ^ 32 % 2 ^ 64 = x.compared
      ∧ x.patternRecord / 2 ^ 96 % 2 ^ 32 = x.errors := by
  have hb : b2n x.sync ≤ 1 := by cases x.sync <;> decide
  unfold Lane.patternRecord at'
  rw [Nat.shiftLeft_eq, Nat.shiftLeft_eq, Nat.shiftLeft_eq, Nat.shiftLeft_eq, Nat.shiftLeft_eq]
  omega

/-- Lane `x` with the pattern counters cleared. -/
abbrev Lane.uncounted (x : Lane) : Lane := { x with compared := 0, errors := 0, syncLosses := 0, injected := 0 }

theorem patternStatusBody_eq (q : Call) (s : State) : patternStatusBody q s =
    if 1168 ≤ q.c.f 0 16 then (s, .err cBAD_PARAM)
    else ((if q.c.ops.testBit 16 then s.modLane (q.c.f 0 16) Lane.uncounted else s), .done cOK 24 (s.lane (q.c.f 0 16)).patternRecord) := rfl

section
variable {c : Cmd} {s : State} (ha : s.accepts false 0x0505 c) (ho : c.operands 4 0xFFFE0000)
include ha ho

theorem patternStatus_badParam (h : 1168 ≤ c.f 0 16) : ∃ t, exec (.patternStatus c) s = .next t ∧ Answered 0x0505 c 4 0 0 t ∧ CommandOnly c s t :=
  completes_reading (i := .patternStatus c) (spec := patternStatusSpec) (body := patternStatusBody) ha.1.1 ha (by simp [patternStatusSpec, ho.1])
    (by rw [ho.1]; exact ho.2) (fun _ => rfl) (by decide) (by rw [patternStatusBody_eq]; exact if_pos h)

variable (hk : c.f 0 16 < 1168)
include hk

theorem patternStatus_reads (hb : c.ops.testBit 16 = false) :
    ∃ t, exec (.patternStatus c) s = .next t ∧ Answered 0x0505 c 0 24 (s.lane (c.f 0 16)).patternRecord t ∧ CommandOnly c s t := by
  refine completes_reading (i := .patternStatus c) (spec := patternStatusSpec) (body := patternStatusBody) ha.1.1 ha (by simp [patternStatusSpec, ho.1])
    (by rw [ho.1]; exact ho.2) (fun _ => rfl) (by decide) ?_
  rw [patternStatusBody_eq]
  dsimp only
  rw [if_neg (by omega), hb, if_neg Bool.false_ne_true, entered_lane]

theorem patternStatus_clears (hb : c.ops.testBit 16 = true) : ∃ t, exec (.patternStatus c) s = .next t
    ∧ Answered 0x0505 c 0 24 (s.lane (c.f 0 16)).patternRecord t ∧ CommandOnly c (s.modLane (c.f 0 16) Lane.uncounted) t := by
  have hbody : patternStatusBody { c := c, tk := s.newTicket, priv := s.privOf c } (s.entered 0x0505 c)
      = ((s.entered 0x0505 c).modLane (c.f 0 16) Lane.uncounted, .done cOK 24 (s.lane (c.f 0 16)).patternRecord) := by
    rw [patternStatusBody_eq]
    dsimp only
    rw [if_neg (by omega), hb, if_pos rfl, entered_lane]
  refine Runs.completes (i := .patternStatus c) (spec := patternStatusSpec) (body := patternStatusBody) ha.1.1 ha (by simp [patternStatusSpec, ho.1])
    (by rw [ho.1]; exact ho.2) (fun _ => rfl) (congrArg Prod.snd hbody) (by decide) ?_ rfl
  exact (congrArg Prod.fst hbody) ▸ runs_of_comm (fun z => z.modLane (c.f 0 16) Lane.uncounted) (fun _ _ _ _ => rfl) rfl rfl rfl rfl

end

/-! ### PATTERN_SYNC (R268, R269) -/

/-- Event records written after one lane changed. -/
theorem LaneOnly.events {k : Nat} {s u v : State} (h : LaneOnly k s u) (hev : EventsOnly u v) :
    v.lane k = u.lane k ∧ (∀ j, j ≠ k → v.lane j = s.lane j) ∧ EventsOnly { s with ln := { s.ln with lanes := v.ln.lanes } } v := by
  have hln : v.ln = u.ln := by
    obtain ⟨⟨_, _, _, _, hv⟩, -⟩ := hev
    rw [hv]
  have hlane (j : Nat) : v.lane j = u.lane j := by rw [State.lane, hln, State.lane]
  refine ⟨hlane k, fun j hj => (hlane j).trans (h.1 j hj), ?_⟩
  rw [hln, ← h.2]
  exact hev

/-- The lane after the checker has taken bit `b`, in sync or out of it. -/
def Lane.taken (x : Lane) (b : Bool) : Lane := if x.sync then x.compareBit b else x.seekBit b

theorem checkBits_one (x : Lane) (b : Bool) : x.checkBits [b] = (x.taken b, if (x.taken b).sync == x.sync then [] else [x.sync]) := rfl

theorem patternSync_exec (k : Nat) (b : Bool) (s : State) (hl : (s.lane k).loopback ≠ 1) (hc : (s.lane k).chk ≠ 0) :
    exec (.patternSync k [] b []) s = guarded (.patternSync k [] b []) s
      (((s.lane k).checkBits [b]).2.foldl (fun t lost => t.post 0x65 (laneSource k).1 (laneSource k).2 (k + at' 16 (b2n lost)))
        (s.modLane k fun _ => ((s.lane k).checkBits [b]).1)) := by
  show guarded _ _ _ = _
  congr 1
  dsimp only [List.nil_append]
  rw [if_neg hc, if_neg hl]

theorem patternSync_idle {k : Nat} {b : Bool} {l r : List Bool} {s : State} (hk : k < 1168) (h : (s.lane k).chk = 0) :
    exec (.patternSync k l b r) s = .next s := by
  refine exec_next (i := .patternSync k l b r) rfl (decide_eq_true hk) (if_pos h) rfl

section
variable {k : Nat} {b : Bool} {s : State} (hk : k < 1168) (hc : (s.lane k).chk ≠ 0) (hl : (s.lane k).loopback ≠ 1)
include hk hc hl

/-- Without a change of sync nothing is posted. -/
theorem patternSync_goes_on (hs : ((s.lane k).taken b).sync = (s.lane k).sync) : ∃ t, exec (.patternSync k [] b []) s = .next t
    ∧ t.lane k = (s.lane k).taken b ∧ LaneOnly k s t := by
  have hx := patternSync_exec k b s hl hc
  rw [checkBits_one, hs, beq_self_eq_true, if_pos rfl] at hx
  exact ⟨_, exec_next hx (decide_eq_true hk) rfl rfl, lane_modLane_same _ _ _, laneOnly_modLane _ _ _⟩

/-- A change of sync is posted. -/
theorem patternSync_changes (hs : ((s.lane k).taken b).sync ≠ (s.lane k).sync) : ∃ t, exec (.patternSync k [] b []) s = .next t
    ∧ t.lane k = (s.lane k).taken b ∧ (∀ j, j ≠ k → t.lane j = s.lane j) ∧ EventsOnly { s with ln := { s.ln with lanes := t.ln.lanes } } t := by
  have hx := patternSync_exec k b s hl hc
  rw [checkBits_one, if_neg (by simpa using hs)] at hx
  have hev := eventsOnly_post (s.modLane k fun _ => (s.lane k).taken b) 0x65 (laneSource k).1 (laneSource k).2 (k + at' 16 (b2n (s.lane k).sync))
  obtain ⟨hlane, hother, hevents⟩ := (laneOnly_modLane k _ s).events hev
  exact ⟨_, exec_next hx (decide_eq_true hk) rfl hev.pending, hlane.trans (lane_modLane_same _ _ _), hother, hevents⟩

end

/-- In sync the checker counts the bit and its mismatch. -/
theorem Lane.compareBit_eq (x : Lane) (b : Bool) : x.compareBit b =
    let e := patternBit x.chk x.user x.pat.ref != b
    let hist := (2 * x.pat.hist + b2n e) % 2 ^ 128
    let y := { x with compared := (x.compared + 1) % 2 ^ 64, errors := min (x.errors + b2n e) (2 ^ 32 - 1) }
    if 32 ≤ popcount hist 128 then
      { y with sync := false, syncLosses := min (x.syncLosses + 1) (2 ^ 32 - 1), pat := { x.pat with ref := 0, seen := 0, run := 0, hist := 0 } }
    else { y with pat := { x.pat with ref := patternNext x.chk x.pat.ref (patternBit x.chk x.user x.pat.ref), hist := hist } } := rfl

/-- A seeded PRBS checker gains sync at the 64th matching bit in a row. -/
theorem Lane.seekBit_gains {x : Lane} {b : Bool} (hc : x.chk < 4) (hseen : x.pat.seen = seedBits x.chk) (hrun : x.pat.run = 63)
    (hb : patternBit x.chk x.user x.pat.ref = b) :
    x.seekBit b = { x with sync := true, pat := { x.pat with ref := patternNext x.chk x.pat.ref b, run := 0, hist := 0 } } := by
  unfold Lane.seekBit
  dsimp only
  rw [if_neg (by omega), hb, hrun, beq_self_eq_true]
  rfl

section
variable {k : Nat} {b : Bool} {s : State} (hk : k < 1168) (hc : (s.lane k).chk ≠ 0) (hl : (s.lane k).loopback ≠ 1)
include hk hc hl

theorem patternSync_counts (hs : (s.lane k).sync = true)
    (hp : popcount ((2 * (s.lane k).pat.hist + b2n (patternBit (s.lane k).chk (s.lane k).user (s.lane k).pat.ref != b)) % 2 ^ 128) 128 < 32) :
    ∃ t, exec (.patternSync k [] b []) s = .next t ∧ t.lane k = { s.lane k with
        compared := ((s.lane k).compared + 1) % 2 ^ 64
        errors := min ((s.lane k).errors + b2n (patternBit (s.lane k).chk (s.lane k).user (s.lane k).pat.ref != b)) (2 ^ 32 - 1)
        pat := { (s.lane k).pat with
          ref := patternNext (s.lane k).chk (s.lane k).pat.ref (patternBit (s.lane k).chk (s.lane k).user (s.lane k).pat.ref)
          hist := (2 * (s.lane k).pat.hist + b2n (patternBit (s.lane k).chk (s.lane k).user (s.lane k).pat.ref != b)) % 2 ^ 128 } } ∧ LaneOnly k s t := by
  have htaken : (s.lane k).taken b = _ := (if_pos hs).trans (((s.lane k).compareBit_eq b).trans (if_neg (by omega)))
  obtain ⟨t, hx, ht, hlane⟩ := patternSync_goes_on (b := b) hk hc hl (by rw [htaken])
  exact ⟨t, hx, ht.trans htaken, hlane⟩

theorem patternSync_loses (hs : (s.lane k).sync = true)
    (hp : 32 ≤ popcount ((2 * (s.lane k).pat.hist + b2n (patternBit (s.lane k).chk (s.lane k).user (s.lane k).pat.ref != b)) % 2 ^ 128) 128) :
    ∃ t, exec (.patternSync k [] b []) s = .next t ∧ t.lane k = { s.lane k with
        compared := ((s.lane k).compared + 1) % 2 ^ 64
        errors := min ((s.lane k).errors + b2n (patternBit (s.lane k).chk (s.lane k).user (s.lane k).pat.ref != b)) (2 ^ 32 - 1)
        sync := false, syncLosses := min ((s.lane k).syncLosses + 1) (2 ^ 32 - 1), pat := (t.lane k).pat } ∧ (∀ j, j ≠ k → t.lane j = s.lane j)
      ∧ EventsOnly { s with ln := { s.ln with lanes := t.ln.lanes } } t := by
  have htaken : (s.lane k).taken b = _ := (if_pos hs).trans (((s.lane k).compareBit_eq b).trans (if_pos hp))
  obtain ⟨t, hx, ht, hother, hev⟩ := patternSync_changes (b := b) hk hc hl (by rw [htaken, hs]; exact Bool.false_ne_true)
  exact ⟨t, hx, by rw [ht, htaken], hother, hev⟩

theorem patternSync_gains (hs : (s.lane k).sync = false) (h4 : (s.lane k).chk < 4) (hseen : (s.lane k).pat.seen = seedBits (s.lane k).chk)
    (hrun : (s.lane k).pat.run = 63) (hb : patternBit (s.lane k).chk (s.lane k).user (s.lane k).pat.ref = b) :
    ∃ t, exec (.patternSync k [] b []) s = .next t ∧ t.lane k = { s.lane k with sync := true, pat := (t.lane k).pat } ∧ (∀ j, j ≠ k → t.lane j = s.lane j)
      ∧ EventsOnly { s with ln := { s.ln with lanes := t.ln.lanes } } t := by
  have htaken : (s.lane k).taken b = _ := (if_neg (by rw [hs]; decide)).trans (Lane.seekBit_gains h4 hseen hrun hb)
  obtain ⟨t, hx, ht, hother, hev⟩ := patternSync_changes (b := b) hk hc hl (by rw [htaken, hs]; exact nofun)
  exact ⟨t, hx, by rw [ht, htaken], hother, hev⟩

end

/-! ### LANE_INJECT (R270) -/

/-- Lane `x` with an inversion counted, of `n` bits of its generator unless the link is `live`. -/
abbrev Lane.injecting (n : Nat) (live : Bool) (x : Lane) : Lane :=
  { x with injected := min (x.injected + 1) (2 ^ 32 - 1), pat := { x.pat with flip := x.pat.flip + (if live then 0 else n) } }

theorem laneInjectBody_eq (q : Call) (s : State) : laneInjectBody q s =
    if 1168 ≤ q.c.f 0 16 ∨ q.c.f 16 8 < 1 ∨ 64 < q.c.f 16 8 ∨ (q.c.ops.testBit 24 = false ∧ (s.lane (q.c.f 0 16)).gen = 0) then (s, .err cBAD_PARAM)
    else ((s.modLane (q.c.f 0 16) (Lane.injecting (q.c.f 16 8) (q.c.ops.testBit 24))).emit
      (.lane (q.c.f 0 16) 7 (q.c.f 16 8) (b2n (q.c.ops.testBit 24)) 0), .ok) := rfl

section
variable {c : Cmd} {s : State} (ha : s.accepts (c.ops.testBit 24) 0x0506 c) (ho : c.operands 4 0xFE000000)
include ha ho

theorem laneInject_badParam (h : 1168 ≤ c.f 0 16 ∨ c.f 16 8 = 0 ∨ 64 < c.f 16 8 ∨ c.ops.testBit 24 = false ∧ (s.lane (c.f 0 16)).gen = 0) :
    ∃ t, exec (.laneInject c) s = .next t ∧ Answered 0x0506 c 4 0 0 t ∧ CommandOnly c s t := by
  refine completes_reading (i := .laneInject c) (spec := laneInjectSpec) (body := laneInjectBody) ha.1.1 ha (by simp [laneInjectSpec, ho.1])
    (by rw [ho.1]; exact ho.2) (fun _ => rfl) (by decide) ?_
  rw [laneInjectBody_eq]
  dsimp only
  rw [entered_lane]
  exact if_pos (h.imp_right (Or.imp_left Nat.lt_one_iff.2))

theorem laneInject_sends (hk : c.f 0 16 < 1168) (h1 : 1 ≤ c.f 16 8) (h64 : c.f 16 8 ≤ 64) (hg : c.ops.testBit 24 = true ∨ (s.lane (c.f 0 16)).gen ≠ 0) :
    ∃ t, exec (.laneInject c) s = .next t ∧ Answered 0x0506 c 0 0 0 t
      ∧ CommandOnly c ((s.modLane (c.f 0 16) (Lane.injecting (c.f 16 8) (c.ops.testBit 24))).emit
        (.lane (c.f 0 16) 7 (c.f 16 8) (b2n (c.ops.testBit 24)) 0)) t := by
  have hbody : laneInjectBody { c := c, tk := s.newTicket, priv := s.privOf c } (s.entered 0x0506 c)
      = (((s.entered 0x0506 c).modLane (c.f 0 16) (Lane.injecting (c.f 16 8) (c.ops.testBit 24))).emit
        (.lane (c.f 0 16) 7 (c.f 16 8) (b2n (c.ops.testBit 24)) 0), .ok) := by
    have hok : ¬ (1168 ≤ c.f 0 16 ∨ c.f 16 8 < 1 ∨ 64 < c.f 16 8 ∨ c.ops.testBit 24 = false ∧ (s.lane (c.f 0 16)).gen = 0) := by
      rintro (h | h | h | ⟨hf, h0⟩)
      · omega
      · omega
      · omega
      · exact hg.elim (fun h => absurd (h.symm.trans hf) (by decide)) fun h => h h0
    rw [laneInjectBody_eq]
    dsimp only
    rw [entered_lane, if_neg hok]
  refine Runs.completes (i := .laneInject c) (spec := laneInjectSpec) (body := laneInjectBody) ha.1.1 ha (by simp [laneInjectSpec, ho.1])
    (by rw [ho.1]; exact ho.2) (fun _ => rfl) (congrArg Prod.snd hbody) (by decide) ?_ rfl
  exact (congrArg Prod.fst hbody) ▸ runs_of_comm (fun z => (z.modLane (c.f 0 16) (Lane.injecting (c.f 16 8) (c.ops.testBit 24))).emit
    (.lane (c.f 0 16) 7 (c.f 16 8) (b2n (c.ops.testBit 24)) 0)) (fun _ _ _ _ => rfl) rfl rfl rfl rfl

end

/-! ### LANE_TX_SET (R249, R271) -/

/-- The preset of LANE_TX_SET, staged for the boundary of its lane's group. -/
abbrev stagedPreset (c : Cmd) (tk : Option Nat) : Staged :=
  { ats := [.lane (laneGroupOf (c.f 0 16))], what := .laneTx (c.f 0 16) (if c.f 16 8 = 255 then none else some (c.f 16 8)), ticket := tk, left := 8 }

theorem laneTxSetBody_eq (q : Call) (s : State) : laneTxSetBody q s =
    if 1168 ≤ q.c.f 0 16 ∨ (7 < q.c.f 16 8 ∧ q.c.f 16 8 ≠ 255) then (s, .err cBAD_PARAM)
    else (s.stage [stagedPreset q.c (if q.c.immediate then none else some q.tk)], if q.c.immediate then .ok else .wait) := rfl

section
variable {c : Cmd} {s : State} (ha : s.accepts false 0x0507 c) (ho : c.operands 4 0xFF000000)
include ha ho

theorem laneTxSet_badParam (h : 1168 ≤ c.f 0 16 ∨ 7 < c.f 16 8 ∧ c.f 16 8 ≠ 255) :
    ∃ t, exec (.laneTxSet c) s = .next t ∧ Answered 0x0507 c 4 0 0 t ∧ CommandOnly c s t :=
  completes_reading (i := .laneTxSet c) (spec := laneTxSetSpec) (body := laneTxSetBody) ha.1.1 ha (by simp [laneTxSetSpec, ho.1])
    (by rw [ho.1]; exact ho.2) (fun _ => rfl) (by decide) (by rw [laneTxSetBody_eq]; exact if_pos h)

variable (hok : ¬ (1168 ≤ c.f 0 16 ∨ 7 < c.f 16 8 ∧ c.f 16 8 ≠ 255))
include hok

theorem laneTxSet_waits (hi : c.immediate = false) :
    ∃ t, exec (.laneTxSet c) s = .next t ∧ Waits 0x0507 c (s.stage [stagedPreset c (some s.newTicket)]) t :=
  Runs.waits (i := .laneTxSet c) (spec := laneTxSetSpec) (body := laneTxSetBody) ha.1.1 ha (by simp [laneTxSetSpec, ho.1]) (by rw [ho.1]; exact ho.2)
    (fun _ => rfl) (by rw [laneTxSetBody_eq]; dsimp only; rw [if_neg hok, hi, if_neg Bool.false_ne_true, if_neg Bool.false_ne_true])
    (runs_of_comm (fun z => z.stage [stagedPreset c (some s.newTicket)]) (fun _ _ _ _ => rfl) rfl rfl rfl rfl) rfl rfl

theorem laneTxSet_immediate (hi : c.immediate = true) :
    ∃ t, exec (.laneTxSet c) s = .next t ∧ Answered 0x0507 c 0 0 0 t ∧ CommandOnly c (s.stage [stagedPreset c none]) t := by
  have hbody : laneTxSetBody { c := c, tk := s.newTicket, priv := s.privOf c } (s.entered 0x0507 c) = ((s.entered 0x0507 c).stage [stagedPreset c none], .ok) := by
    rw [laneTxSetBody_eq]
    dsimp only
    rw [if_neg hok, hi, if_pos rfl, if_pos rfl]
  refine Runs.completes (i := .laneTxSet c) (spec := laneTxSetSpec) (body := laneTxSetBody) ha.1.1 ha (by simp [laneTxSetSpec, ho.1])
    (by rw [ho.1]; exact ho.2) (fun _ => rfl) (congrArg Prod.snd hbody) (by decide) ?_ rfl
  exact (congrArg Prod.fst hbody) ▸ runs_of_comm (fun z => z.stage [stagedPreset c none]) (fun _ _ _ _ => rfl) rfl rfl rfl rfl

end

end Sys2Proof.Machine

open Sys2Proof Sys2Proof.Machine in
/-- Settles O37: each body is an equation, and a checker's bit is compared in sync and sought outside it. -/
theorem laneCommandsAndPatterns : Obligations.LaneCommandsAndPatterns := by
  unfold Obligations.LaneCommandsAndPatterns
  refine ⟨?_, fun k s hk ht hr hl hm hg hc => laneRecord_head hk ht hr hl hm hg hc, ?_, ?_, fun k b l r s hk h => patternSync_idle hk h, ?_, ?_, ?_⟩
  · rintro c k n s ha ho rfl rfl
    refine ⟨fun h => laneStatus_badParam ha ho h, fun h1 h5 hk hrec => ?_⟩
    have hget (i : Nat) (hi : i < c.f 16 8) : packedRecords 384 (fun i => s.laneRecord (c.f 0 16 + i)) (c.f 16 8) / 2 ^ (384 * i) % 2 ^ 384
        = s.laneRecord (c.f 0 16 + i) := packedRecords_get hrec hi
    cases hb : c.ops.testBit 24 with
    | false =>
      obtain ⟨t, hx, hans, hcmd⟩ := laneStatus_reads ha ho h1 h5 hk hb
      exact ⟨t, _, hx, hans, hget, fun _ => hcmd, fun h => absurd h (by decide)⟩
    | true =>
      obtain ⟨t, hx, hans, hlane, hcmd⟩ := laneStatus_clears ha ho h1 h5 hk hb
      exact ⟨t, _, hx, hans, hget, fun h => absurd h (by decide), fun _ => ⟨fun i hi => (hlane _).trans (if_pos (by omega)),
        fun j hj => (hlane j).trans (if_neg (by omega)), hcmd⟩⟩
  · rintro c k s ha ho rfl
    exact ⟨fun h => patternSet_badParam ha ho h, fun hk hg hc hl => ⟨fun hu hst => patternSet_inUse ha ho (by omega) hst hu,
      fun hst => patternSet_busy ha ho (by omega) hst, fun hu hst => patternSet_sets ha ho (by omega) hst hu⟩⟩
  · rintro c k s ha ho rfl
    refine ⟨fun h => patternStatus_badParam ha ho h, fun hk hchk hcmp herr => ?_⟩
    obtain ⟨hsync, hcompared, herrors⟩ := Lane.patternRecord_fields hchk hcmp herr
    cases hb : c.ops.testBit 16 with
    | false =>
      obtain ⟨t, hx, hans, hcmd⟩ := patternStatus_reads ha ho hk hb
      exact ⟨t, _, hx, hans, hsync, hcompared, herrors, fun _ => hcmd, fun h => absurd h (by decide)⟩
    | true =>
      obtain ⟨t, hx, hans, hcmd⟩ := patternStatus_clears ha ho hk hb
      exact ⟨t, _, hx, hans, hsync, hcompared, herrors, fun h => absurd h (by decide), fun _ => hcmd⟩
  · rintro k b w s hk hc hl rfl
    exact ⟨fun hs hp => patternSync_counts hk hc hl hs hp, fun hs hp => patternSync_loses hk hc hl hs hp,
      fun hs h4 hseen hrun hb => patternSync_gains hk hc hl hs h4 hseen hrun hb⟩
  · rintro c k n s ha ho rfl rfl
    refine ⟨fun h => laneInject_badParam ha ho h, fun hk h1 h64 hg => ?_⟩
    obtain ⟨t, hx, hans, hcmd⟩ := laneInject_sends ha ho hk h1 h64 hg
    have hsent : t.sent = .lane (c.f 0 16) 7 (c.f 16 8) (b2n (c.ops.testBit 24)) 0 :: s.sent := by rw [hcmd.1]; rfl
    exact ⟨t, hx, hans, hsent, by rw [hsent]; exact hcmd⟩
  · rintro c k v s ha ho rfl rfl
    exact ⟨fun h => laneTxSet_badParam ha ho h, fun hk hv hi => laneTxSet_waits ha ho (by omega) hi, fun hk hv hi => laneTxSet_immediate ha ho (by omega) hi⟩
end

section
/-! Completion of the commands of the serial lanes (chapter 8). -/

namespace Sys2Proof.Machine

/-- A command that waits has no final reply yet. -/
theorem Waits.unanswered {op : Nat} {c : Cmd} {e t : State} (h : Waits op c e t) : Unanswered op c t := by
  obtain ⟨⟨f, hf, hc, ho, hs, -⟩, hbusy, -⟩ := h
  exact ⟨⟨f, by rw [hf]; simp, hc, ho, hs⟩, hbusy⟩

/-- What waits leaves of the state outside the control plane. -/
theorem Waits.getP {op : Nat} {c : Cmd} {e t : State} (h : Waits op c e t) (k i : Nat) : t.getP k i = e.getP k i := by
  obtain ⟨-, -, hframe, -⟩ := h
  rw [hframe]
  rfl

end Sys2Proof.Machine

open Sys2Proof Sys2Proof.Machine in
/-- Settles O57: each command of the serial lanes completes as its own statement (O34 to O37) says. -/
theorem everyLaneCommandCompletes : Obligations.EveryLaneCommandCompletes := by
  obtain ⟨hdetect, hunlocked, -, hlost, hcomma, -, -, -, hsymbol, hskip, hsend, hwake⟩ := lanesLockAndCount
  obtain ⟨-, -, hmonitor, hscan, -, -, hscanned⟩ := laneQualityIsMeasured
  obtain ⟨-, hdue, hmeasured, -, hwindow, -, hlimit, hcalibrate⟩ := groupsAreCalibrated
  obtain ⟨hstatus, -, hset, hpattern, -, hsync, hinject, htx⟩ := laneCommandsAndPatterns
  unfold Obligations.EveryLaneCommandCompletes
  refine ⟨fun k s hk hd => ?_, fun k s hk hl => ?_, fun k p s hk hp hm hl hph hc hlo had => ?_, fun k g s hk hg hm hl hv hcase => ?_,
    fun k s hk he hl hm hw => (hlost k s hk he hl hm hw).2, fun k v d1 d2 d3 drift s hk h1 h2 h3 hh hv hlo hhi => ?_, fun k s hk ht => ⟨_, (hsend k s hk).2 ht, rfl⟩,
    fun k a d s hk hl ha => ?_, fun g k q l s hg hk hl hone hm hf hlow hq => ?_, fun k s hk hr => ?_,
    fun g w l r x s h24 hg hr ht hm hrest h8 hs hl hopen => ?_, fun g k q r x s hk hg h24 hr hf hm hrest hx hleft => ?_,
    fun g tk f s hg hst htk hf => ?_, fun k b w s hk hc hl hw hs hp => ?_, fun c k n s ha ho hk hn h1 h5 hkn hrec => ?_, fun c s ha ho hk hst => ?_,
    fun c s ha ho hk hh hv1 hv2 hd1 hd2 hhost hal hlen hl h4 => ?_, fun k t e l g s hk hfind hf hmask hb hh => ?_,
    fun c k s ha ho hk hlt h1 h2 h3 hu hst => ?_, fun c k s ha ho hk hlt hchk hcmp herr => ?_, fun c k n s ha ho hk hn hlt h1 h64 hg => ?_,
    fun c k v s ha ho hk hv hlt hv7 himm => ?_, fun g s hg hpar h1 hlow hfit => ?_⟩
  case refine_1 => obtain ⟨t, ht, hlane, -⟩ := (hdetect k s hk).2 hd; exact ⟨t, ht, by rw [hlane], by rw [hlane]⟩
  case refine_2 => obtain ⟨t, ht, hlane, -⟩ := (hunlocked k s hk hl).2; exact ⟨t, ht, by rw [hlane], by rw [hlane]⟩
  case refine_3 => obtain ⟨t, ht, hlane, -⟩ := ((hcomma k p s hk hp hm).2.2.2 hl hph hc hlo).1 had; exact ⟨t, ht, by rw [hlane]⟩
  case refine_4 => obtain ⟨t, ht, hrd, hrun, -⟩ := (hsymbol k g s hk hg hm hl).2.1 hv hcase; exact ⟨t, ht, hrd, hrun⟩
  case refine_5 => obtain ⟨t, ht, hlane, -⟩ := (hskip k v d1 d2 d3 drift s hk h1 h2 h3).2.1 hh hv hlo hhi; exact ⟨t, ht, by rw [hlane], by rw [hlane]⟩
  case refine_6 =>
    obtain ⟨t, ht, hfom, hlane, -⟩ := fomWindow_sets (a := a) (d := d) hk hl
    exact ⟨t, ht, by rw [hfom, if_pos ha]; exact Nat.mod_lt _ (by decide), by rw [hlane]⟩
  case refine_7 => obtain ⟨t, ht, hlane, hworst, -⟩ := (hmonitor g k q l s hg hk hl hone hm hf hlow).1 hq; exact ⟨t, ht, by rw [hlane], hworst⟩
  case refine_8 =>
    obtain ⟨n, -, hawake, hdeep⟩ := (hwake k s hk).2.2.2 hr
    by_cases h1 : (s.lane k).rx = 1
    · obtain ⟨t, ht, hlane, -⟩ := hdeep h1
      exact ⟨t, ht, by rw [hlane]⟩
    · obtain ⟨t, ht, hlane, -⟩ := hawake h1
      exact ⟨t, ht, by rw [hlane]⟩
  case refine_9 => obtain ⟨t, ht, hgroup, -⟩ := (hwindow g w l r x s h24 hg hr ht hm hrest h8 hs hl).2 hopen; exact ⟨t, ht, by rw [hgroup], by rw [hgroup]⟩
  case refine_10 => obtain ⟨t, ht, hlane, -⟩ := (hmeasured g k q r x s hk hg h24 hr hf hm hrest hx).1 hleft; exact ⟨t, ht, by rw [hlane], by rw [hlane]⟩
  case refine_11 => obtain ⟨t, ht, hans, hcond, -⟩ := hlimit g tk f s hg hst htk hf; exact ⟨t, ht, hans, hcond⟩
  case refine_12 => obtain ⟨t, ht, hlane, -⟩ := (hsync k b w s hk hc hl hw).1 hs hp; exact ⟨t, ht, by rw [hlane]⟩
  case refine_13 => obtain ⟨t, r, ht, hans, -, hcmd, -⟩ := (hstatus c k n s ha ho hk hn).2 h1 h5 hkn hrec; exact ⟨t, r, ht, hans, hcmd⟩
  case refine_14 => obtain ⟨t, ht, hw⟩ := (hcalibrate c s ha ho).2.2 hk hst; exact ⟨t, ht, hw.unanswered, (hw.getP _ _).trans (State.getP_setP_same s _ _ _)⟩
  case refine_15 =>
    obtain ⟨t, ht, hw⟩ := (hscan c s ha ho hk hh hv1 hv2 hd1 hd2 hhost hal hlen).2.2 hl h4
    exact ⟨t, ht, hw.unanswered, (hw.getP _ _).trans (State.getP_setP_same _ _ _ _)⟩
  case refine_16 => obtain ⟨u, hu, hans, hscans, -⟩ := (hscanned k t e l g s hk hfind hf).2 hmask hb hh; exact ⟨u, hu, hans, hscans⟩
  case refine_17 => obtain ⟨t, ht, hans, -⟩ := ((hset c k s ha ho hk).2 hlt h1 h2 h3).2.2 hu hst; exact ⟨t, ht, hans⟩
  case refine_18 => obtain ⟨t, r, ht, hans, hr, -⟩ := (hpattern c k s ha ho hk).2 hlt hchk hcmp herr; exact ⟨t, r, ht, hans, hr⟩
  case refine_19 => obtain ⟨t, ht, hans, hsent, -⟩ := (hinject c k n s ha ho hk hn).2 hlt h1 h64 hg; exact ⟨t, ht, hans, hsent⟩
  case refine_20 => obtain ⟨t, ht, hans, -⟩ := (htx c k v s ha ho hk hv).2.2 hlt hv7 himm; exact ⟨t, ht, hans⟩
  case refine_21 => obtain ⟨t, ht, hst, -⟩ := calibrationStart_defers hg hpar h1 hlow hfit; exact ⟨t, ht, hst⟩
end

section
/-! Host buffers in device memory, and unmapped addresses (R275 to R279). -/

namespace Sys2Proof.Machine

/-! ### Commands that change device memory -/

/-- The state with device memory `d`. -/
abbrev State.remembering (d : Dram) (s : State) : State := { s with dram := d }

theorem runs_remembering (s : State) (op : Nat) (c : Cmd) (d : Dram) : Runs s op c (s.remembering d) ((s.entered op c).remembering d) :=
  runs_of_comm (fun z => z.remembering d) (fun _ _ _ _ => rfl) rfl rfl rfl rfl

/-- A command whose meaning gives device memory a new value completes with it. -/
theorem completes_remembering {i : Instr} {spec : OpSpec} {body : Body} {c : Cmd} {s : State} {d : Dram} {code len r : Nat} (hi : i.wellFormed = true)
    (ha : s.accepts (spec.priv || spec.privIf c) spec.op c) (hl : spec.len c = true) (hr : (c.ops % 2 ^ (8 * c.opLen)) &&& spec.rsvd = 0)
    (hb : c.win = 64 → spec.bus c = true) (hc : code < 256)
    (hbody : body { c := c, tk := s.newTicket, priv := s.privOf c } (s.entered spec.op c) = ((s.entered spec.op c).remembering d, .done code len r)) :
    ∃ t, guarded i s (submit spec body c s) = .next t ∧ Answered spec.op c code len r t ∧ t.dram = d ∧ CommandOnly c (s.remembering d) t := by
  obtain ⟨t, hx, hans, hcmd⟩ := Runs.completes (e := s.remembering d) hi ha hl hr hb (congrArg Prod.snd hbody) hc ((congrArg Prod.fst hbody) ▸ runs_remembering s _ c d) rfl
  exact ⟨t, hx, hans, by rw [hcmd.1], hcmd⟩

/-- A command whose meaning gives device memory a new value and reports the use of the carve-outs completes with it. -/
theorem completes_reported {i : Instr} {spec : OpSpec} {body : Body} {c : Cmd} {s : State} {d : Dram} {code len r : Nat} (hi : i.wellFormed = true)
    (ha : s.accepts (spec.priv || spec.privIf c) spec.op c) (hl : spec.len c = true) (hr : (c.ops % 2 ^ (8 * c.opLen)) &&& spec.rsvd = 0)
    (hb : c.win = 64 → spec.bus c = true) (hc : code < 256)
    (hbody : body { c := c, tk := s.newTicket, priv := s.privOf c } (s.entered spec.op c) = (((s.entered spec.op c).remembering d).memReport, .done code len r)) :
    ∃ t, guarded i s (submit spec body c s) = .next t ∧ Answered spec.op c code len r t ∧ t.dram = d ∧ SameParams memoryKeys s t
      ∧ CommandEvents c { s with dram := t.dram, params := t.params } t := by
  obtain ⟨hev, hparams⟩ := memReport_paramEvents ((s.entered spec.op c).remembering d)
  generalize ((s.entered spec.op c).remembering d).memReport = u at hbody hev hparams
  have hruns : RunsEvents s spec.op c { s.remembering d with params := u.params } u :=
    ⟨_, runs_of_comm (fun z => { z.remembering d with params := u.params }) (fun _ _ _ _ => rfl) rfl rfl rfl (aipexDown_congr rfl), hev⟩
  obtain ⟨t, hx, hans, hcmd, -⟩ := RunsEvents.completes hi ha hl hr hb hbody hc hruns rfl
  have hdram : t.dram = d := by rw [hcmd.1]
  have hpar : t.params = u.params := by rw [hcmd.1]
  refine ⟨t, hx, hans, hdram, fun k hk => ?_, ?_⟩
  · rw [hpar, hparams k hk]
    exact congrArg (fun p => SMap.get pdef p k) (State.entered_params s _ c)
  · rw [hdram, hpar]
    exact hcmd

/-! ### MEM_ALLOC (R277, R278) -/

/-- The buffer that an allocation of `bytes` at `a` makes. -/
def State.newBuffer (k bytes a : Nat) (owner : BufOwner) (s : State) : Buffer :=
  { carve := k, base := a, bytes := cdiv bytes pageBytes * pageBytes, owner := owner, pages := s.choosePages (cdiv bytes pageBytes), order := s.getP P.MEM_CARVE_ORDER k }

/-- Device memory with the buffer `b`, which reads zero. -/
def Dram.withBuffer (b : Buffer) (d : Dram) : Dram :=
  { d with buffers := d.buffers ++ [b], dirty := d.dirty.filter fun p => !b.pages.contains p
           bytes := d.bytes.filter fun e => e.1 < b.base || b.base + b.bytes ≤ e.1
           poison := d.poison.filter fun e => e.1 < b.base || b.base + b.bytes ≤ e.1 }

theorem Dram.withBuffer_byte (b : Buffer) (d : Dram) (x : Nat) : SMap.get zeroByte (d.withBuffer b).bytes x
    = if x < b.base ∨ b.base + b.bytes ≤ x then SMap.get zeroByte d.bytes x else 0 := by
  refine (SMap.get_filter zeroByte (fun x => decide (x < b.base) || decide (b.base + b.bytes ≤ x)) d.bytes x).trans ?_
  simp only [Bool.or_eq_true, decide_eq_true_eq]
  rfl

theorem allocBuffer_places {k bytes a : Nat} {owner : BufOwner} {s : State} (hq : s.carveUsed k + 2 * cdiv bytes pageBytes ≤ s.getP P.MEM_CARVE_QUOTA k)
    (hfree : s.pagesFree (cdiv bytes pageBytes) = true) (hplace : s.placeBuffer k (cdiv bytes pageBytes * pageBytes) = some a) :
    s.allocBuffer k bytes owner = ((s.remembering (s.dram.withBuffer (s.newBuffer k bytes a owner))).memReport, .base a) := by
  unfold State.allocBuffer
  dsimp only
  rw [if_neg (by omega), hfree, if_neg (by decide), hplace]
  rfl

theorem memAllocBody_eq (k : Call) (s : State) : memAllocBody k s =
    if !(k.c.f 0 8 == 2 || k.c.f 0 8 == 3) ∨ k.c.f 32 64 = 0 then (s, .err cBAD_PARAM)
    else if k.c.win < 64 ∧ s.getP P.MEM_WINDOW_QUOTA k.c.win < s.getP P.MEM_WINDOW_USED k.c.win + 2 * cdiv (k.c.f 32 64) pageBytes then (s, .err cQUOTA)
    else match s.allocBuffer (k.c.f 0 8) (k.c.f 32 64) (.window k.c.win) with
      | (t, .base a) => (t, .done cOK 8 a)
      | (t, .fail code) => (t, .err code) := rfl

theorem memAlloc_operands {k n : Nat} : (!(k == 2 || k == 3) ∨ n = 0) ↔ (k ≠ 2 ∧ k ≠ 3 ∨ n = 0) := by simp

theorem memAllocBody_allocates {k : Call} {s : State} {a : Nat} (hk : k.c.f 0 8 = 2 ∨ k.c.f 0 8 = 3) (hn : k.c.f 32 64 ≠ 0)
    (hwin : k.c.win < 64 → s.getP P.MEM_WINDOW_USED k.c.win + 2 * cdiv (k.c.f 32 64) pageBytes ≤ s.getP P.MEM_WINDOW_QUOTA k.c.win)
    (hq : s.carveUsed (k.c.f 0 8) + 2 * cdiv (k.c.f 32 64) pageBytes ≤ s.getP P.MEM_CARVE_QUOTA (k.c.f 0 8)) (hfree : s.pagesFree (cdiv (k.c.f 32 64) pageBytes) = true)
    (hplace : s.placeBuffer (k.c.f 0 8) (cdiv (k.c.f 32 64) pageBytes * pageBytes) = some a) :
    memAllocBody k s = ((s.remembering (s.dram.withBuffer (s.newBuffer (k.c.f 0 8) (k.c.f 32 64) a (.window k.c.win)))).memReport, .done cOK 8 a) := by
  rw [memAllocBody_eq, if_neg fun h => (memAlloc_operands.1 h).elim (by omega) hn, if_neg fun h => absurd (hwin h.1) (Nat.not_le.2 h.2),
    allocBuffer_places hq hfree hplace]

section
variable {c : Cmd} {s : State} (ha : s.accepts false 0x0601 c) (ho : c.operands 12 0xFFFFFF00)
include ha ho

theorem memAlloc_fails {code : Nat} (hc : code < 256)
    (h : memAllocBody { c := c, tk := s.newTicket, priv := s.privOf c } (s.entered 0x0601 c) = (s.entered 0x0601 c, .err code)) :
    ∃ t, exec (.memAlloc c) s = .next t ∧ Answered 0x0601 c code 0 0 t ∧ CommandOnly c s t :=
  completes_reading (i := .memAlloc c) (spec := memAllocSpec) (body := memAllocBody) ha.1.1 ha (by simp [memAllocSpec, ho.1]) (by rw [ho.1]; exact ho.2) (fun _ => rfl) hc h

theorem memAlloc_badParam (h : c.f 0 8 ≠ 2 ∧ c.f 0 8 ≠ 3 ∨ c.f 32 64 = 0) :
    ∃ t, exec (.memAlloc c) s = .next t ∧ Answered 0x0601 c 4 0 0 t ∧ CommandOnly c s t :=
  memAlloc_fails ha ho (by decide) (by rw [memAllocBody_eq]; exact if_pos (memAlloc_operands.2 h))

variable (hk : c.f 0 8 = 2 ∨ c.f 0 8 = 3) (hn : c.f 32 64 ≠ 0)
include hk hn

theorem memAlloc_quota (hw : c.win < 64) (hq : s.getP P.MEM_WINDOW_QUOTA c.win < s.getP P.MEM_WINDOW_USED c.win + 2 * cdiv (c.f 32 64) pageBytes) :
    ∃ t, exec (.memAlloc c) s = .next t ∧ Answered 0x0601 c 7 0 0 t ∧ CommandOnly c s t := by
  refine memAlloc_fails ha ho (by decide) ?_
  rw [memAllocBody_eq]
  dsimp only
  rw [if_neg fun h => (memAlloc_operands.1 h).elim (by omega) hn, State.entered_getP, State.entered_getP, if_pos ⟨hw, hq⟩]

theorem memAlloc_allocates {a : Nat} (hwin : c.win < 64 → s.getP P.MEM_WINDOW_USED c.win + 2 * cdiv (c.f 32 64) pageBytes ≤ s.getP P.MEM_WINDOW_QUOTA c.win)
    (hq : s.carveUsed (c.f 0 8) + 2 * cdiv (c.f 32 64) pageBytes ≤ s.getP P.MEM_CARVE_QUOTA (c.f 0 8)) (hfree : s.pagesFree (cdiv (c.f 32 64) pageBytes) = true)
    (hplace : s.placeBuffer (c.f 0 8) (cdiv (c.f 32 64) pageBytes * pageBytes) = some a) :
    ∃ t, exec (.memAlloc c) s = .next t ∧ Answered 0x0601 c 0 8 a t ∧ t.dram = s.dram.withBuffer (s.newBuffer (c.f 0 8) (c.f 32 64) a (.window c.win))
      ∧ SameParams memoryKeys s t ∧ CommandEvents c { s with dram := t.dram, params := t.params } t := by
  refine completes_reported (i := .memAlloc c) (spec := memAllocSpec) (body := memAllocBody) ha.1.1 ha (by simp [memAllocSpec, ho.1]) (by rw [ho.1]; exact ho.2)
    (fun _ => rfl) (by decide) ?_
  obtain ⟨w, m, tk, f, he⟩ := entered_frame s memAllocSpec.op c
  rw [he]
  exact memAllocBody_allocates (k := { c := c, tk := s.newTicket, priv := s.privOf c })
    (s := { s with ctl := { s.ctl with wins := w, hostMem := m, ticket := tk, flights := f } }) hk hn hwin hq hfree hplace

end

/-! ### MEM_FREE (R278) -/

theorem clearRange_remembering (a n : Nat) (s : State) (d : Dram) : (s.clearRange a n).remembering d = s.remembering d := rfl

/-- Clearing ranges leaves the buffers. -/
theorem foldl_clearRange (l : List Buffer) (s : State) :
    ∃ d : Dram, l.foldl (fun t b => t.clearRange b.base b.bytes) s = s.remembering d ∧ d.buffers = s.dram.buffers := by
  induction l generalizing s with
  | nil => exact ⟨s.dram, rfl, rfl⟩
  | cons b l ih =>
    obtain ⟨d, hd, hbuf⟩ := ih (s.clearRange b.base b.bytes)
    rw [List.foldl_cons, hd, clearRange_remembering]
    exact ⟨d, rfl, hbuf⟩

theorem freeBuffer_frees (base : Nat) (s : State) :
    ∃ d : Dram, s.freeBuffer base = (s.remembering d).memReport ∧ d.buffers = s.dram.buffers.filter fun b => b.base != base := by
  obtain ⟨d, hd, hbuf⟩ := foldl_clearRange (s.dram.buffers.filter fun b => b.base == base) { s with dram := { s.dram with
    buffers := s.dram.buffers.filter fun b => b.base != base, dirty := s.dram.dirty ++ (s.dram.buffers.filter fun b => b.base == base).flatMap fun b => b.pages } }
  have hfree : s.freeBuffer base = State.memReport ((s.dram.buffers.filter fun b => b.base == base).foldl (fun t b => t.clearRange b.base b.bytes) { s with dram := { s.dram with
    buffers := s.dram.buffers.filter fun b => b.base != base, dirty := s.dram.dirty ++ (s.dram.buffers.filter fun b => b.base == base).flatMap fun b => b.pages } }) := rfl
  exact ⟨d, by rw [hfree, hd], hbuf⟩

section
variable {c : Cmd} {s : State} (ha : s.accepts false 0x0602 c) (ho : c.operands 8 0)
include ha ho

theorem memFree_fails {code : Nat} (hc : code < 256)
    (h : memFreeBody { c := c, tk := s.newTicket, priv := s.privOf c } (s.entered 0x0602 c) = (s.entered 0x0602 c, .err code)) :
    ∃ t, exec (.memFree c) s = .next t ∧ Answered 0x0602 c code 0 0 t ∧ CommandOnly c s t :=
  completes_reading (i := .memFree c) (spec := memFreeSpec) (body := memFreeBody) ha.1.1 ha (by simp [memFreeSpec, ho.1]) (by rw [ho.1]; exact ho.2) (fun _ => rfl) hc h

theorem memFree_unmapped (h : (s.dram.buffers.find? fun b => b.base == c.f 0 64 && b.window.isSome) = none) :
    ∃ t, exec (.memFree c) s = .next t ∧ Answered 0x0602 c 0x50 0 0 t ∧ CommandOnly c s t :=
  memFree_fails ha ho (by decide) (by unfold memFreeBody; rw [State.entered_dram, h])

variable {b : Buffer} (hb : (s.dram.buffers.find? fun b => b.base == c.f 0 64 && b.window.isSome) = some b)
include hb

omit ha ho in
theorem memFreeBody_of_some : memFreeBody { c := c, tk := s.newTicket, priv := s.privOf c } (s.entered 0x0602 c) =
    if !b.allows c.win (s.privOf c) then (s.entered 0x0602 c, .err cNOT_PERMITTED)
    else if s.bufferBusy b then (s.entered 0x0602 c, .err cBUSY)
    else ((s.entered 0x0602 c).freeBuffer b.base, .ok) := by
  obtain ⟨w, m, tk, f, he⟩ := entered_frame s 0x0602 c
  have hbusy : (s.entered 0x0602 c).bufferBusy b = s.bufferBusy b := by
    rw [he]
    rfl
  unfold memFreeBody
  rw [State.entered_dram, hb, ← hbusy]

theorem memFree_notPermitted (hw : b.window ≠ some c.win) (hp : ¬ s.privilegedClient c) :
    ∃ t, exec (.memFree c) s = .next t ∧ Answered 0x0602 c 5 0 0 t ∧ CommandOnly c s t := by
  refine memFree_fails ha ho (by decide) ?_
  rw [memFreeBody_of_some hb, privOf_eq_false hp]
  exact if_pos (by simp [Buffer.allows, hw])

omit ha ho hb in
theorem Buffer.allows_owner {b : Buffer} {w : Nat} (h : b.window = some w) (p : Bool) : b.allows w p = true := by simp [Buffer.allows, h]

variable (hw : b.window = some c.win)
include hw

theorem memFree_busy (hbusy : s.bufferBusy b = true) : ∃ t, exec (.memFree c) s = .next t ∧ Answered 0x0602 c 2 0 0 t ∧ CommandOnly c s t := by
  refine memFree_fails ha ho (by decide) ?_
  rw [memFreeBody_of_some hb, b.allows_owner hw, if_neg (by decide), if_pos hbusy]

theorem memFree_frees (hbusy : s.bufferBusy b = false) : ∃ t, exec (.memFree c) s = .next t ∧ Answered 0x0602 c 0 0 0 t
    ∧ t.dram.buffers = (s.dram.buffers.filter fun x => x.base != b.base) ∧ SameParams memoryKeys s t ∧ CommandEvents c { s with dram := t.dram, params := t.params } t := by
  obtain ⟨d, hd, hbuf⟩ := freeBuffer_frees b.base (s.entered 0x0602 c)
  have hbody : memFreeBody { c := c, tk := s.newTicket, priv := s.privOf c } (s.entered 0x0602 c) = (((s.entered 0x0602 c).remembering d).memReport, .ok) := by
    rw [memFreeBody_of_some hb, b.allows_owner hw, if_neg (by decide), hbusy, if_neg Bool.false_ne_true, hd]
  obtain ⟨t, hx, hans, hdram, hpar, hcmd⟩ := completes_reported (i := .memFree c) (spec := memFreeSpec) (body := memFreeBody) ha.1.1 ha (by simp [memFreeSpec, ho.1])
    (by rw [ho.1]; exact ho.2) (fun _ => rfl) (by decide) hbody
  exact ⟨t, hx, hans, by rw [hdram, hbuf, State.entered_dram], hpar, hcmd⟩

end

/-! ### MEM_WRITE and MEM_READ (R279) -/

theorem memMove_eq (move : Nat → Nat → Nat → State → State × Ans) (k : Call) (s : State) : memMove move k s =
    if k.c.f 64 64 = 0 ∨ k.c.f 128 32 = 0 ∨ 0x1000000 < k.c.f 128 32 then (s, .err cBAD_PARAM)
    else match s.hostBuffer (k.c.f 0 64) (k.c.f 128 32) with
      | none => (s, .err cNOT_MAPPED)
      | some b => if b.allows k.c.win k.priv then move (k.c.f 0 64) (k.c.f 64 64) (k.c.f 128 32) s else (s, .err cNOT_PERMITTED) := rfl

section
variable {move : Nat → Nat → Nat → State → State × Ans} {k : Call} {s : State}

theorem memMove_badParam (h : k.c.f 64 64 = 0 ∨ k.c.f 128 32 = 0 ∨ 0x1000000 < k.c.f 128 32) : memMove move k s = (s, .err cBAD_PARAM) := if_pos h

variable (h0 : k.c.f 64 64 ≠ 0) (h1 : 1 ≤ k.c.f 128 32) (h2 : k.c.f 128 32 ≤ 0x1000000)
include h0 h1 h2

theorem memMove_unmapped (h : s.hostBuffer (k.c.f 0 64) (k.c.f 128 32) = none) : memMove move k s = (s, .err cNOT_MAPPED) := by
  rw [memMove_eq, if_neg (by omega), h]

theorem memMove_moves {b : Buffer} (h : s.hostBuffer (k.c.f 0 64) (k.c.f 128 32) = some b) (hw : b.window = some k.c.win) :
    memMove move k s = move (k.c.f 0 64) (k.c.f 64 64) (k.c.f 128 32) s := by
  rw [memMove_eq, if_neg (by omega), h]
  exact if_pos (b.allows_owner hw k.priv)

end

/-- Without flaws a write puts its bytes, and granules written whole lose their poison. -/
theorem devWrite_flawless {s : State} (h : s.dram.flaws = []) (a : Nat) (l : List Byte) (unit : Nat) :
    s.devWrite a l unit = s.remembering { s.dram with poison := (s.unpoison a l.length unit).dram.poison, bytes := putBytes zeroByte s.dram.bytes a l } := by
  unfold State.devWrite
  dsimp only
  rw [if_neg (by rw [h]; exact Bool.false_ne_true), demandRead_flawless h]
  rfl

theorem memWriteBody_writes {k : Call} {s : State} {b : Buffer} {l : List Byte} (h0 : k.c.f 64 64 ≠ 0) (h1 : 1 ≤ k.c.f 128 32) (h2 : k.c.f 128 32 ≤ 0x1000000)
    (hb : s.hostBuffer (k.c.f 0 64) (k.c.f 128 32) = some b) (hw : b.window = some k.c.win) (hflaws : s.dram.flaws = []) (hl : s.hostRead (k.c.f 64 64) (k.c.f 128 32) = l) :
    memWriteBody k s = (s.remembering { s.dram with poison := (s.unpoison (k.c.f 0 64) l.length 32).dram.poison, bytes := putBytes zeroByte s.dram.bytes (k.c.f 0 64) l },
      if l.length = k.c.f 128 32 then .ok else .done cABORTED 4 l.length) := by
  refine (memMove_moves h0 h1 h2 hb hw).trans ?_
  dsimp only
  rw [hl, devWrite_flawless hflaws]
  by_cases hn : l.length = k.c.f 128 32
  · rw [if_pos hn, if_pos hn]
  · rw [if_neg hn, if_neg hn]

theorem memReadBody_reads {k : Call} {s : State} {b : Buffer} {m : Nat} (h0 : k.c.f 64 64 ≠ 0) (h1 : 1 ≤ k.c.f 128 32) (h2 : k.c.f 128 32 ≤ 0x1000000)
    (hb : s.hostBuffer (k.c.f 0 64) (k.c.f 128 32) = some b) (hw : b.window = some k.c.win) (hflaws : s.dram.flaws = [])
    (hm : (s.firstPoison (k.c.f 0 64) (k.c.f 128 32)).getD (k.c.f 128 32) = m) (hgood : s.hostGood (k.c.f 64 64) m = m) :
    memReadBody k s = (s.withHostMem (putBytes zeroByte s.ctl.hostMem (k.c.f 64 64) (s.devRead (k.c.f 0 64) m)),
      if m < k.c.f 128 32 then .done cMEDIA_ERROR 4 m else .ok) := by
  have hlen : (s.devRead (k.c.f 0 64) m).length = m := takeBytes_length _ _ _ _
  refine (memMove_moves h0 h1 h2 hb hw).trans ?_
  dsimp only
  rw [demandRead_flawless hflaws, hm, hostWrite_good (by rw [hlen]; exact hgood)]
  rw [Bool.not_true, if_neg Bool.false_ne_true]
  by_cases hn : m < k.c.f 128 32
  · rw [if_pos hn, if_pos hn]
  · rw [if_neg hn, if_neg hn]

theorem firstPoison_eq_none {s : State} {a n : Nat} (h : ∀ e ∈ s.dram.poison, e.1 + e.2 ≤ a ∨ a + n ≤ e.1) : s.firstPoison a n = none :=
  foldl_fixed_of_mem fun e he => if_pos (h e he)

/-- Whole granules that are written lose their poison. -/
theorem unpoison_clears {s : State} {a n : Nat} (ha : a % 32 = 0) (hn : n % 32 = 0) (h1 : 1 ≤ n) (hp : ∀ e ∈ s.dram.poison, 0 < e.2) :
    ∀ e ∈ (s.unpoison a n 32).dram.poison, e.1 + e.2 ≤ a ∨ a + n ≤ e.1 := by
  intro e he
  obtain ⟨x, hx, hmem⟩ := List.mem_flatMap.1 he
  have hpos := hp x hx
  have hlo : cdiv a 32 * 32 = a := by
    unfold cdiv
    omega
  have hhi : (a + n) / 32 * 32 = a + n := by omega
  rw [hlo, hhi] at hmem
  dsimp only at hmem
  by_cases hk : min (x.1 + x.2) (a + n) ≤ max x.1 a
  · rw [if_pos hk, List.mem_singleton] at hmem
    subst hmem
    omega
  · rw [if_neg hk] at hmem
    rcases List.mem_append.1 hmem with hleft | hright
    · by_cases hl : x.1 < max x.1 a
      · rw [if_pos hl, List.mem_singleton] at hleft
        subst hleft
        dsimp only
        omega
      · rw [if_neg hl] at hleft
        cases hleft
    · by_cases hr : min (x.1 + x.2) (a + n) < x.1 + x.2
      · rw [if_pos hr, List.mem_singleton] at hright
        subst hright
        dsimp only
        omega
      · rw [if_neg hr] at hright
        cases hright

section
variable {c : Cmd} {s : State} (ha : s.accepts false 0x0603 c) (ho : c.operands 20 0) (hwin : c.win < 64)
include ha ho hwin

theorem memWrite_fails {code : Nat} (hc : code < 256)
    (h : memWriteBody { c := c, tk := s.newTicket, priv := s.privOf c } (s.entered 0x0603 c) = (s.entered 0x0603 c, .err code)) :
    ∃ t, exec (.memWrite c) s = .next t ∧ Answered 0x0603 c code 0 0 t ∧ CommandOnly c s t :=
  completes_reading (i := .memWrite c) (spec := memWriteSpec) (body := memWriteBody) ha.1.1 ha (by simp [memWriteSpec, ho.1]) (by rw [ho.1]; exact ho.2)
    (fun h => absurd h (Nat.ne_of_lt hwin)) hc h

/-- MEM_WRITE puts the host bytes that can be read. -/
theorem memWrite_writes {b : Buffer} {l : List Byte} (hhost : c.host = []) (h0 : c.f 64 64 ≠ 0) (h1 : 1 ≤ c.f 128 32) (h2 : c.f 128 32 ≤ 0x1000000)
    (hb : s.hostBuffer (c.f 0 64) (c.f 128 32) = some b) (hw : b.window = some c.win) (hflaws : s.dram.flaws = [])
    (hl : takeBytes zeroByte s.ctl.hostMem (c.f 64 64) (s.hostGood (c.f 64 64) (c.f 128 32)) = l) :
    ∃ t, exec (.memWrite c) s = .next t ∧ t.dram = { s.dram with
        poison := (s.unpoison (c.f 0 64) l.length 32).dram.poison, bytes := putBytes zeroByte s.dram.bytes (c.f 0 64) l }
      ∧ CommandOnly c { s with dram := { s.dram with bytes := t.dram.bytes, poison := t.dram.poison } } t
      ∧ (l.length = c.f 128 32 → Answered 0x0603 c 0 0 0 t) ∧ (l.length ≠ c.f 128 32 → Answered 0x0603 c 0x0B 4 l.length t) := by
  have hread : (s.entered 0x0603 c).hostRead (c.f 64 64) (c.f 128 32) = l := by
    rw [← hl]
    unfold State.hostRead State.hostGood
    rw [State.entered_hostMem s _ c (.inl hhost), State.entered_ctl_hostFault]
  have hbody : memWriteBody { c := c, tk := s.newTicket, priv := s.privOf c } (s.entered 0x0603 c) =
      ((s.entered 0x0603 c).remembering { s.dram with poison := (s.unpoison (c.f 0 64) l.length 32).dram.poison, bytes := putBytes zeroByte s.dram.bytes (c.f 0 64) l },
        if l.length = c.f 128 32 then .ok else .done cABORTED 4 l.length) := by
    have hb' : (s.entered 0x0603 c).hostBuffer (c.f 0 64) (c.f 128 32) = some b := by rw [State.hostBuffer, State.entered_dram]; exact hb
    have hbody := memWriteBody_writes (k := { c := c, tk := s.newTicket, priv := s.privOf c }) h0 h1 h2 hb' hw (by rw [State.entered_dram]; exact hflaws) hread
    rw [State.unpoison, State.entered_dram] at hbody
    exact hbody
  by_cases hn : l.length = c.f 128 32
  · rw [if_pos hn] at hbody
    obtain ⟨t, hx, hans, hdram, hcmd⟩ := completes_remembering (i := .memWrite c) (spec := memWriteSpec) (body := memWriteBody) ha.1.1 ha (by simp [memWriteSpec, ho.1])
      (by rw [ho.1]; exact ho.2) (fun h => absurd h (Nat.ne_of_lt hwin)) (by decide) hbody
    exact ⟨t, hx, hdram, by rw [hdram]; exact hcmd, fun _ => hans, fun h => absurd hn h⟩
  · rw [if_neg hn] at hbody
    obtain ⟨t, hx, hans, hdram, hcmd⟩ := completes_remembering (i := .memWrite c) (spec := memWriteSpec) (body := memWriteBody) ha.1.1 ha (by simp [memWriteSpec, ho.1])
      (by rw [ho.1]; exact ho.2) (fun h => absurd h (Nat.ne_of_lt hwin)) (by decide) hbody
    exact ⟨t, hx, hdram, by rw [hdram]; exact hcmd, fun h => absurd h hn, fun _ => hans⟩

end

section
variable {c : Cmd} {s : State} (ha : s.accepts false 0x0604 c) (ho : c.operands 20 0) (hwin : c.win < 64)
include ha ho hwin

theorem memRead_fails {code : Nat} (hc : code < 256)
    (h : memReadBody { c := c, tk := s.newTicket, priv := s.privOf c } (s.entered 0x0604 c) = (s.entered 0x0604 c, .err code)) :
    ∃ t, exec (.memRead c) s = .next t ∧ Answered 0x0604 c code 0 0 t ∧ CommandOnly c s t :=
  completes_reading (i := .memRead c) (spec := memReadSpec) (body := memReadBody) ha.1.1 ha (by simp [memReadSpec, ho.1]) (by rw [ho.1]; exact ho.2)
    (fun h => absurd h (Nat.ne_of_lt hwin)) hc h

/-- MEM_READ writes the bytes before the first poisoned one. -/
theorem memRead_reads {b : Buffer} {m : Nat} (hhost : c.host = []) (h0 : c.f 64 64 ≠ 0) (h1 : 1 ≤ c.f 128 32) (h2 : c.f 128 32 ≤ 0x1000000)
    (hb : s.hostBuffer (c.f 0 64) (c.f 128 32) = some b) (hw : b.window = some c.win) (hflaws : s.dram.flaws = [])
    (hm : (s.firstPoison (c.f 0 64) (c.f 128 32)).getD (c.f 128 32) = m) (hgood : s.hostGood (c.f 64 64) m = m) :
    ∃ t, exec (.memRead c) s = .next t ∧ t.ctl.hostMem = putBytes zeroByte s.ctl.hostMem (c.f 64 64) (s.devRead (c.f 0 64) m)
      ∧ CommandOnly c (s.withHostMem t.ctl.hostMem) t
      ∧ (m < c.f 128 32 → Answered 0x0604 c 0x0A 4 m t) ∧ (¬ m < c.f 128 32 → Answered 0x0604 c 0 0 0 t) := by
  have hbody : memReadBody { c := c, tk := s.newTicket, priv := s.privOf c } (s.entered 0x0604 c) =
      ((s.entered 0x0604 c).withHostMem (putBytes zeroByte s.ctl.hostMem (c.f 64 64) (s.devRead (c.f 0 64) m)),
        if m < c.f 128 32 then .done cMEDIA_ERROR 4 m else .ok) := by
    have hb' : (s.entered 0x0604 c).hostBuffer (c.f 0 64) (c.f 128 32) = some b := by rw [State.hostBuffer, State.entered_dram]; exact hb
    have hbody := memReadBody_reads (m := m) (k := { c := c, tk := s.newTicket, priv := s.privOf c }) h0 h1 h2 hb' hw (by rw [State.entered_dram]; exact hflaws)
      (by rw [State.firstPoison, State.entered_dram]; exact hm) (by rw [State.hostGood, State.entered_ctl_hostFault]; exact hgood)
    rw [State.devRead, State.entered_dram, State.entered_hostMem s _ c (.inl hhost)] at hbody
    exact hbody
  by_cases hn : m < c.f 128 32
  · rw [if_pos hn] at hbody
    obtain ⟨t, hx, hans, hcmd, hmem⟩ := Runs.completes_writing (i := .memRead c) (spec := memReadSpec) (body := memReadBody) ha.1.1 ha (by simp [memReadSpec, ho.1])
      (by rw [ho.1]; exact ho.2) (fun h => absurd h (Nat.ne_of_lt hwin)) hbody (by decide) (entered_runs s _ c) rfl
    exact ⟨t, hx, hmem, by rw [hmem]; exact hcmd, fun _ => hans, fun h => absurd hn h⟩
  · rw [if_neg hn] at hbody
    obtain ⟨t, hx, hans, hcmd, hmem⟩ := Runs.completes_writing (i := .memRead c) (spec := memReadSpec) (body := memReadBody) ha.1.1 ha (by simp [memReadSpec, ho.1])
      (by rw [ho.1]; exact ho.2) (fun h => absurd h (Nat.ne_of_lt hwin)) hbody (by decide) (entered_runs s _ c) rfl
    exact ⟨t, hx, hmem, by rw [hmem]; exact hcmd, fun h => absurd h hn, fun _ => hans⟩

end

/-! ### ADDRESS_FAULT (R275) -/

theorem addressFault_exec (a : Nat) (w : Bool) (s : State) : exec (.addressFault a w) s = guarded (.addressFault a w) s (if s.mapped a then s else s.logFault 0x9 0 0x0602 0) := rfl

theorem addressFault_logged {a : Nat} {w : Bool} {s : State} (h : s.mapped a = false) : ∃ t, exec (.addressFault a w) s = .next t
    ∧ (t.ctl.faultLog.getLast?.map fun e => (e.seq, e.cls, e.idx, e.code)) = some (s.ctl.faultNext, 0x9, 0, 0x0602)
    ∧ EventsOnly { s with ctl := { s.ctl with faultLog := t.ctl.faultLog, faultNext := t.ctl.faultNext } } t := by
  obtain ⟨l, n, hev, hlast⟩ := logFault_events 0x9 0 0x0602 0 s
  have hx := addressFault_exec a w s
  rw [h, if_neg Bool.false_ne_true] at hx
  generalize s.logFault 0x9 0 0x0602 0 = t at hx hev
  have hlog : t.ctl.faultLog = l := by
    obtain ⟨⟨_, _, _, _, ht⟩, -⟩ := hev
    rw [ht]
  have hnext : t.ctl.faultNext = n := by
    obtain ⟨⟨_, _, _, _, ht⟩, -⟩ := hev
    rw [ht]
  exact ⟨t, exec_next hx rfl rfl hev.pending, by rw [hlog]; exact hlast, by rw [hlog, hnext]; exact hev⟩

end Sys2Proof.Machine

open Sys2Proof Sys2Proof.Machine in
/-- Settles O38: an allocation filters the bytes of its range, and a write takes the poison of whole granules only. -/
theorem hostBuffersAreAllocatedAndMoved : Obligations.HostBuffersAreAllocatedAndMoved := by
  unfold Obligations.HostBuffersAreAllocatedAndMoved
  refine ⟨?_, fun c s ha ho hw hk hn hq => memAlloc_quota ha ho hk hn hw hq, fun c s ha ho h => memAlloc_badParam ha ho h,
    fun c s ha ho => ⟨fun h => memFree_unmapped ha ho h, fun b hb => ⟨fun hw hp => memFree_notPermitted ha ho hb hw hp, fun hw hbusy => memFree_busy ha ho hb hw hbusy,
      fun hw hbusy => memFree_frees ha ho hb hw hbusy⟩⟩, ?_, fun c s ho => ⟨fun h => ⟨fun ha hw => ?_, fun ha hw => ?_⟩, fun h0 h1 h2 h => ⟨fun ha hw => ?_, fun ha hw => ?_⟩⟩,
    fun a w s => ⟨fun h => exec_next (addressFault_exec a w s) rfl (if_pos h) rfl, fun h => addressFault_logged h⟩⟩
  · rintro c n a s ha ho hk hn rfl hwin hq hfree hplace
    obtain ⟨t, hx, hans, hdram, hpar, hcmd⟩ := memAlloc_allocates ha ho hk hn hwin hq hfree hplace
    refine ⟨t, s.newBuffer (c.f 0 8) (c.f 32 64) a (.window c.win), hx, hans, by rw [hdram]; rfl, rfl, rfl, rfl, rfl, fun x h1 h2 => ?_, fun x h => ?_, hpar, hcmd⟩
    · rw [State.devByte, hdram, Dram.withBuffer_byte]
      exact if_neg fun h => h.elim (fun h => absurd h (Nat.not_lt.2 h1)) fun h => absurd h2 (Nat.not_lt.2 h)
    · rw [State.devByte, hdram, Dram.withBuffer_byte]
      exact if_pos h
  · rintro c a h n b s hhost ho rfl rfl rfl h0 h1 h2 hb hw hwin hflaws
    refine ⟨fun ha hgood => ?_, fun ha hlt => ?_, fun m ha hm hle hgood => ?_⟩
    · obtain ⟨t, hx, hdram, hcmd, hok, -⟩ := memWrite_writes ha ho hwin hhost h0 h1 h2 hb hw hflaws rfl
      rw [hgood] at hdram hok
      generalize hl : takeBytes zeroByte s.ctl.hostMem (c.f 64 64) (c.f 128 32) = l at hdram hok
      have hlen : l.length = c.f 128 32 := by rw [← hl, takeBytes_length]
      refine ⟨t, hx, hok hlen, ?_, fun x hx => ?_, fun ha32 hn32 hpos => ?_, ?_⟩
      · rw [State.devRead, hdram, ← hlen]
        exact takeBytes_putBytes _ _ _ _
      · rw [State.devByte, hdram, State.devByte]
        exact get_putBytes_other (by rw [hlen]; exact hx)
      · refine firstPoison_eq_none ?_
        rw [hdram, hlen]
        exact unpoison_clears ha32 hn32 h1 hpos
      · exact hcmd
    · obtain ⟨t, hx, hdram, hcmd, -, hcut⟩ := memWrite_writes ha ho hwin hhost h0 h1 h2 hb hw hflaws rfl
      generalize hl : takeBytes zeroByte s.ctl.hostMem (c.f 64 64) (s.hostGood (c.f 64 64) (c.f 128 32)) = l at hdram hcut
      have hlen : l.length = s.hostGood (c.f 64 64) (c.f 128 32) := by rw [← hl, takeBytes_length]
      refine ⟨t, hx, hlen ▸ hcut (by omega), ?_, fun x hx => ?_, ?_⟩
      · rw [State.devRead, hdram, ← hlen]
        exact takeBytes_putBytes _ _ _ _
      · rw [State.devByte, hdram, State.devByte]
        exact get_putBytes_other (by rw [hlen]; exact hx)
      · exact hcmd
    · obtain ⟨t, hx, hmem, hcmd, hcut, hok⟩ := memRead_reads ha ho hwin hhost h0 h1 h2 hb hw hflaws hm hgood
      have hlen : (s.devRead (c.f 0 64) m).length = m := takeBytes_length _ _ _ _
      refine ⟨t, hx, fun h => hok (by omega), hcut, ?_, fun x hx => ?_, hcmd⟩
      · rw [hmem]
        generalize s.devRead (c.f 0 64) m = l at hlen
        rw [← hlen]
        exact takeBytes_putBytes _ _ _ _
      · rw [hmem]
        exact get_putBytes_other (by rw [hlen]; exact hx)
  · exact memWrite_fails ha ho hw (by decide) (memMove_badParam h)
  · exact memRead_fails ha ho hw (by decide) (memMove_badParam h)
  · exact memWrite_fails ha ho hw (by decide) (memMove_unmapped h0 h1 h2 (by simpa [State.hostBuffer] using h))
  · exact memRead_fails ha ho hw (by decide) (memMove_unmapped h0 h1 h2 (by simpa [State.hostBuffer] using h))
end

section
/-! Refresh, tracking, retirement, retraining and patrol scrub of the DRAM (R284 to R291). -/

namespace Sys2Proof.Machine

/-! ### Refresh and tracking (R288, R290) -/

section
variable (ch : Nat) (s : State)

/-- A bank's refreshes, its count as `n`, with the decayed granules `l`. -/
abbrev State.refreshed (k : Nat) (l : List ScrubFinding) (s : State) : State :=
  { s with dram := { s.dram with
      refreshes := SMap.set (fun _ => 0) s.dram.refreshes k (SMap.get (fun _ => 0) s.dram.refreshes k + 1), flaws := s.dram.flaws ++ l } }

theorem dramRefresh_exec (r : BankRefresh) : exec (.dramRefresh ch r) s = guarded (.dramRefresh ch r) s
    ((s.refreshed (ch * 32 + r.bank) r.decayed).emit (.dram 0 ch (r.bank + 32 * SMap.get (fun _ => 0) s.dram.mr4 ch))) := rfl

theorem mr4Read_exec (r : Nat) : exec (.mr4Read ch r) s = guarded (.mr4Read ch r) s
    { s with dram := { s.dram with mr4 := SMap.set (fun _ => 0) s.dram.mr4 ch r } } := rfl

/-- The delays of byte lanes `4 * ch` on, in order. -/
abbrev trackedWck (w : List Nat) (m : SMap Nat) : SMap Nat := w.zipIdx.foldl (fun m e => SMap.set (fun _ => 0) m (4 * ch + e.2) e.1) m

theorem wckTrack_exec (w : List Nat) : exec (.wckTrack ch w) s = guarded (.wckTrack ch w) s { s with dram := { s.dram with wck := trackedWck ch w s.dram.wck } } := rfl

end

/-- Four delays, one for each byte lane of the channel. -/
theorem trackedWck_get {ch : Nat} {w : List Nat} (hw : w.length = 4) (m : SMap Nat) (k : Nat) : SMap.get (fun _ => 0) (trackedWck ch w m) k
    = if 4 * ch ≤ k ∧ k < 4 * ch + 4 then w.getD (k - 4 * ch) 0 else SMap.get (fun _ => 0) m k := by
  match w, hw with
  | [a, b, c, d], _ =>
    simp only [trackedWck, List.zipIdx_cons, List.zipIdx_nil, List.foldl_cons, List.foldl_nil, SMap.get_set, Nat.zero_add]
    by_cases h : 4 * ch ≤ k ∧ k < 4 * ch + 4
    · obtain ⟨j, hj⟩ : ∃ j, k = 4 * ch + j := ⟨k - 4 * ch, by omega⟩
      subst hj
      have h4 : j = 0 ∨ j = 1 ∨ j = 2 ∨ j = 3 := by omega
      rcases h4 with rfl | rfl | rfl | rfl <;> simp
    · rw [if_neg h, if_neg (by omega), if_neg (by omega), if_neg (by omega), if_neg (by omega)]

/-! ### Row retirement (R286) -/

section
variable {ch b : Nat} {x : Nat × Nat × Nat} {s : State}

/-- The candidate row `x` is taken. -/
abbrev State.candidateTaken (x : Nat × Nat × Nat) (s : State) : State := { s with dram := { s.dram with candidates := s.dram.candidates.filter (· != x) } }

/-- The candidate row `x` is remapped to the spare row `q`. -/
abbrev State.rowRemapped (x : Nat × Nat × Nat) (q : Nat) (s : State) : State :=
  { s.candidateTaken x with dram := { (s.candidateTaken x).dram with remap := s.dram.remap ++ [(x.1, x.2.1, x.2.2, q)] } }

theorem rowRetired_none (hc : ch < 16) (hb : b < 16) (h : (s.dram.candidates.find? fun c => c.1 == ch && c.2.1 == b) = none) : exec (.rowRetired ch b) s = .next s := by
  refine exec_next (i := .rowRetired ch b) rfl (by simp [Instr.wellFormed, hc, hb]) ?_ rfl
  rw [h]

theorem rowRetired_exec (h : (s.dram.candidates.find? fun c => c.1 == ch && c.2.1 == b) = some x) : exec (.rowRetired ch b) s = guarded (.rowRetired ch b) s
    (if (s.dram.remap.filter fun r => r.1 == ch && r.2.1 == b).length < 32 then
      (((s.rowRemapped x (s.spareRow ch b)).bumpWrap P.MEM_RETIRED_ROWS ch 1).post 0x69 0x9 ch (b + at' 8 x.2.2)).taskDone 0
    else ((s.candidateTaken x).raiseService (.rowPool ch b)).post 0x69 0x9 ch (b + at' 8 x.2.2 + at' 32 1)) := by
  refine Eq.trans (b := guarded (.rowRetired ch b) s _) rfl (congrArg _ ?_)
  rw [h]

variable (hc : ch < 16) (hb : b < 16) (h : (s.dram.candidates.find? fun c => c.1 == ch && c.2.1 == b) = some x)
include hc hb h

theorem rowRetired_remaps (hroom : (s.dram.remap.filter fun r => r.1 == ch && r.2.1 == b).length < 32) :
    ∃ t, exec (.rowRetired ch b) s = .next t ∧ t.dram.remap = s.dram.remap ++ [(x.1, x.2.1, x.2.2, s.spareRow ch b)]
      ∧ t.dram.candidates = s.dram.candidates.filter (· != x) ∧ t.getP P.MEM_RETIRED_ROWS ch = (s.getP P.MEM_RETIRED_ROWS ch + 1) % 2 ^ 32
      ∧ SameParams [pkey P.MEM_RETIRED_ROWS ch] s t ∧ EventsOnly { s with
          params := t.params, dram := { s.dram with remap := t.dram.remap, candidates := t.dram.candidates }, hk := { s.hk with tasks := t.hk.tasks } } t := by
  have hx := rowRetired_exec h
  rw [if_pos hroom] at hx
  have hev : EventsOnly _ (((s.rowRemapped x (s.spareRow ch b)).bumpWrap P.MEM_RETIRED_ROWS ch 1).post 0x69 0x9 ch (b + at' 8 x.2.2)) := eventsOnly_post _ _ _ _ _
  have hget : ((s.rowRemapped x (s.spareRow ch b)).bumpWrap P.MEM_RETIRED_ROWS ch 1).getP P.MEM_RETIRED_ROWS ch = (s.getP P.MEM_RETIRED_ROWS ch + 1) % 2 ^ 32 :=
    State.getP_setP_same _ _ _ _
  have hpar : SameParams [pkey P.MEM_RETIRED_ROWS ch] s ((s.rowRemapped x (s.spareRow ch b)).bumpWrap P.MEM_RETIRED_ROWS ch 1) :=
    sameParams_setP (s := s.rowRemapped x (s.spareRow ch b)) List.mem_cons_self _
  have hfr : ∃ p, (s.rowRemapped x (s.spareRow ch b)).bumpWrap P.MEM_RETIRED_ROWS ch 1 = { s.rowRemapped x (s.spareRow ch b) with params := p } := ⟨_, rfl⟩
  generalize (s.rowRemapped x (s.spareRow ch b)).bumpWrap P.MEM_RETIRED_ROWS ch 1 = u at hx hev hget hpar hfr
  generalize u.post 0x69 0x9 ch (b + at' 8 x.2.2) = v at hx hev
  obtain ⟨p, hu⟩ := hfr
  obtain ⟨⟨w, y, m, a, hv⟩, -⟩ := id hev
  have htask : EventsOnly { u with hk := { u.hk with tasks := (v.taskDone 0).hk.tasks } } (v.taskDone 0) :=
    hev.lift (fun z => { z with hk := { z.hk with tasks := (v.taskDone 0).hk.tasks } }) (fun _ _ _ _ _ => rfl) fun _ => rfl
  refine ⟨v.taskDone 0, exec_next hx (by simp [Instr.wellFormed, hc, hb]) rfl (by rw [hv, hu]; rfl), by rw [hv, hu]; rfl, by rw [hv, hu]; rfl, ?_, fun k hk => ?_, ?_⟩
  · rw [← hget, hv]
    rfl
  · rw [← hpar k hk, hv]
    rfl
  · have hparams : (v.taskDone 0).params = u.params := by rw [hv]; rfl
    have hdram : (v.taskDone 0).dram = u.dram := by rw [hv]; rfl
    rw [hparams, hdram]
    generalize (v.taskDone 0) = z at htask
    rw [hu] at htask ⊢
    exact htask

theorem rowRetired_full (hroom : 32 ≤ (s.dram.remap.filter fun r => r.1 == ch && r.2.1 == b).length) :
    ∃ t, exec (.rowRetired ch b) s = .next t ∧ ServiceCond.rowPool ch b ∈ t.ctl.service
      ∧ t.dram = { s.dram with candidates := s.dram.candidates.filter (· != x) } ∧ EventsOnly { s with dram := t.dram, ctl := { s.ctl with service := t.ctl.service } } t := by
  have hx := rowRetired_exec h
  rw [if_neg (by omega)] at hx
  obtain ⟨l, hraise, hmem⟩ := raiseService_events (.rowPool ch b) (s.candidateTaken x)
  have hev := hraise.trans (eventsOnly_post _ 0x69 0x9 ch (b + at' 8 x.2.2 + at' 32 1))
  generalize (((s.candidateTaken x).raiseService (.rowPool ch b)).post 0x69 0x9 ch (b + at' 8 x.2.2 + at' 32 1)) = t at hx hev
  obtain ⟨⟨w, y, m, a, ht⟩, -⟩ := id hev
  have hserv : t.ctl.service = l := by rw [ht]
  have hdram : t.dram = (s.candidateTaken x).dram := by rw [ht]
  refine ⟨t, exec_next hx (by simp [Instr.wellFormed, hc, hb]) rfl hev.pending, by rw [hserv]; exact hmem, hdram, ?_⟩
  rw [hserv, hdram]
  exact hev

end

/-! ### Retraining (R290) -/

theorem retrainInterval_due {ch : Nat} (hc : ch < 16) (s : State) : ∃ t, exec (.retrainInterval ch) s = .next t ∧ t.dram.retrainDue = s.dram.retrainDue ||| 1 <<< ch
    ∧ t.dram = { s.dram with retrainDue := t.dram.retrainDue, retrainReason := if s.dram.retrainDue = 0 then 1 else s.dram.retrainReason }
    ∧ t.hk.tasks = modAt (fun k => { k with due := true }) 3 s.hk.tasks ∧ t = { s with now := t.now, dram := t.dram, hk := { s.hk with tasks := t.hk.tasks } } := by
  have hne : ¬ 1 <<< ch = 0 := by
    rw [Nat.shiftLeft_eq, Nat.one_mul]
    exact Nat.ne_of_gt (Nat.two_pow_pos ch)
  refine ⟨_, exec_next (i := .retrainInterval ch) rfl (decide_eq_true hc) (if_neg hne) rfl, rfl, rfl, rfl, rfl⟩

/-- The run that the due channels start. -/
def State.newRetrain (s : State) (t : Nat) : RetrainRun := { mask := s.dram.retrainDue, reason := s.dram.retrainReason, start := t, temp := s.dieTemp 0, slices := 1 }

theorem retrainSlice_idle_exec {s : State} (t : Nat) (h : s.dram.retrain = none) : exec (.retrainSlice t) s = guarded (.retrainSlice t) s
    (if s.dram.retrainDue = 0 ∨ s.bgHeld 3 then s.atLeast t else { s.atLeast t with dram := { s.dram with retrain := some (s.newRetrain t), retrainDue := 0 } }) := by
  refine Eq.trans (b := guarded (.retrainSlice t) s _) rfl (congrArg _ ?_)
  dsimp only
  rw [show (s.atLeast t).dram.retrain = none from h]
  rfl

theorem retrainSlice_run_exec {s : State} (t : Nat) {r : RetrainRun} (h : s.dram.retrain = some r) : exec (.retrainSlice t) s = guarded (.retrainSlice t) s
    (if 64 ≤ r.slices + 1 then (s.atLeast t).retrainEnd r else { s.atLeast t with dram := { s.dram with retrain := some { r with slices := r.slices + 1 } } }) := by
  refine Eq.trans (b := guarded (.retrainSlice t) s _) rfl (congrArg _ ?_)
  dsimp only
  rw [show (s.atLeast t).dram.retrain = some r from h]
  rfl

/-- The temperature of each channel of a run is kept. -/
theorem foldl_retrainTemp (v : Nat) (l : List Nat) (s : State) : (∀ c, (l.foldl (fun t c => t.setP P.MEM_RETRAIN_TEMP c v) s).getP P.MEM_RETRAIN_TEMP c
      = if c ∈ l then v else s.getP P.MEM_RETRAIN_TEMP c)
    ∧ ParamsOnly (l.map fun c => pkey P.MEM_RETRAIN_TEMP c) s (l.foldl (fun t c => t.setP P.MEM_RETRAIN_TEMP c v) s) := by
  refine ⟨fun c => ?_, paramsOnly_foldl (fun a ha t => (ParamsOnly.refl _ t).setP (List.mem_map.2 ⟨a, ha, rfl⟩) v) s⟩
  induction l generalizing s with
  | nil => exact (if_neg List.not_mem_nil).symm
  | cons a l ih =>
    rw [List.foldl_cons, ih]
    by_cases hl : c ∈ l
    · rw [if_pos hl, if_pos (List.mem_cons_of_mem a hl)]
    · rw [if_neg hl]
      by_cases hca : c = a
      · rw [hca, if_pos List.mem_cons_self]
        exact State.getP_setP_same _ _ _ _
      · rw [if_neg fun h => (List.mem_cons.1 h).elim hca hl, State.getP_setP, if_neg]
        simp only [pkey, P.MEM_RETRAIN_TEMP]
        omega

/-- The end of a run: the temperatures are kept, and the task is done. -/
theorem retrainEnd_effect (r : RetrainRun) (s : State) : ∃ p l k, EventsOnly { s with params := p, dram := { s.dram with retrain := none, lastRetrain := l }, hk := { s.hk with tasks := k } } (s.retrainEnd r)
    ∧ (∀ c, c < 16 → (s.retrainEnd r).getP P.MEM_RETRAIN_TEMP c = if r.mask.testBit c then toU64 r.temp else s.getP P.MEM_RETRAIN_TEMP c)
    ∧ SameParams ((List.range 16).map fun c => pkey P.MEM_RETRAIN_TEMP c) s (s.retrainEnd r) := by
  unfold State.retrainEnd
  dsimp only
  obtain ⟨hget, hframe, hpar⟩ := foldl_retrainTemp (toU64 r.temp) ((List.range 16).filter fun c => r.mask.testBit c) s
  generalize ((List.range 16).filter fun c => r.mask.testBit c).foldl (fun t c => t.setP P.MEM_RETRAIN_TEMP c (toU64 r.temp)) s = u at hget hframe hpar
  generalize ((List.range 16).filter fun c => r.mask.testBit c).foldl (fun m c => SMap.set (fun _ => 0) m c u.now) u.dram.lastRetrain = l
  generalize hpay : r.mask + at' 16 r.reason + at' 24 64 + at' 32 (unsigned 16 r.temp) + at' 48 _ + at' 64 _ = pay
  have hev := eventsOnly_post { u with dram := { u.dram with retrain := none, lastRetrain := l } } 0x0A 0x9 (((List.range 16).filter fun c => r.mask.testBit c).headD 0) pay
  generalize ({ u with dram := { u.dram with retrain := none, lastRetrain := l } } : State).post 0x0A 0x9 (((List.range 16).filter fun c => r.mask.testBit c).headD 0) pay = v at hev
  have hparams : (v.taskDone 3).params = u.params := by
    obtain ⟨⟨_, _, _, _, hv⟩, -⟩ := hev
    rw [hv]
    rfl
  have htask := hev.lift (fun z => { z with hk := { z.hk with tasks := (v.taskDone 3).hk.tasks } }) (fun _ _ _ _ _ => rfl) fun _ => rfl
  refine ⟨u.params, l, (v.taskDone 3).hk.tasks, ?_, fun c hc => ?_, fun k hk => ?_⟩
  · rw [hframe] at htask
    exact htask
  · rw [State.getP, hparams]
    refine (hget c).trans ?_
    by_cases hb : r.mask.testBit c = true
    · rw [if_pos (List.mem_filter.2 ⟨List.mem_range.2 hc, hb⟩), if_pos hb]
    · rw [if_neg fun h => hb (List.mem_filter.1 h).2, if_neg hb]
  · rw [hparams]
    refine hpar k fun h => hk ?_
    obtain ⟨c, hc, rfl⟩ := List.mem_map.1 h
    exact List.mem_map.2 ⟨c, (List.mem_filter.1 hc).1, rfl⟩

theorem retrainSlice_ends {s : State} (t : Nat) {r : RetrainRun} (h : s.dram.retrain = some r) (h63 : 63 ≤ r.slices) : ∃ u, exec (.retrainSlice t) s = .next u
    ∧ u.dram.retrain = none
    ∧ (∀ c, c < 16 → u.getP P.MEM_RETRAIN_TEMP c = if r.mask.testBit c then toU64 r.temp else s.getP P.MEM_RETRAIN_TEMP c)
    ∧ SameParams ((List.range 16).map fun c => pkey P.MEM_RETRAIN_TEMP c) s u ∧ EventsOnly { s with
        now := max s.now t, params := u.params, dram := { s.dram with retrain := none, lastRetrain := u.dram.lastRetrain }, hk := { s.hk with tasks := u.hk.tasks } } u := by
  obtain ⟨p, l, k, hev, hget, hpar⟩ := retrainEnd_effect r (s.atLeast t)
  have hx := retrainSlice_run_exec t h
  rw [if_pos (by omega)] at hx
  generalize (s.atLeast t).retrainEnd r = u at hx hev hget hpar
  obtain ⟨⟨w, y, m, a, hu⟩, -⟩ := id hev
  have hp : u.params = p := by rw [hu]
  have hl : u.dram.lastRetrain = l := by rw [hu]
  have hk : u.hk.tasks = k := by rw [hu]
  refine ⟨u, exec_next hx rfl rfl hev.pending, by rw [hu], hget, hpar, ?_⟩
  rw [hp, hl, hk]
  exact hev

/-! ### Patrol scrub (R291) -/

theorem addCandidate_effect (ch b r : Nat) (s : State) : ∃ l, s.addCandidate ch b r = { s with dram := { s.dram with candidates := l } }
    ∧ ((ch, b, r) ∈ l ∨ ∃ q, (ch, b, r, q) ∈ s.dram.remap) := by
  unfold State.addCandidate
  split
  · next h =>
    refine ⟨s.dram.candidates, rfl, ?_⟩
    rcases Bool.or_eq_true_iff.1 h with hc | hr
    · exact .inl (List.contains_iff_mem.1 hc)
    · obtain ⟨⟨c, b', r', q⟩, hmem, heq⟩ := List.any_eq_true.1 hr
      obtain ⟨rfl, rfl, rfl⟩ : c = ch ∧ b' = b ∧ r' = r := by simpa using heq
      exact .inr ⟨q, hmem⟩
  · exact ⟨_, rfl, .inl (by simp)⟩

/-- An uncorrectable granule is poisoned, counted, logged, and its row a candidate. -/
theorem dramError_uncorrectable {e : ScrubFinding} {s : State} (hp : s.poisoned e.addr = false) (hu : e.uncorrectable = true) : ∃ l n k,
    EventsOnly { s.bumpSat P.MEM_UE_COUNT e.chan 1 with
        dram := { s.dram with poison := (e.addr / 32 * 32, 32) :: s.dram.poison, candidates := k }, ctl := { s.ctl with faultLog := l, faultNext := n } } (s.dramError e)
      ∧ (l.getLast?.map fun x => (x.seq, x.cls, x.idx, x.code)) = some (s.ctl.faultNext, 0x9, e.chan, 0x0601)
      ∧ ((e.chan, e.bank, e.row) ∈ k ∨ ∃ q, (e.chan, e.bank, e.row, q) ∈ s.dram.remap) := by
  unfold State.dramError
  rw [if_neg (by rw [hp]; exact Bool.false_ne_true), if_pos hu]
  dsimp only
  obtain ⟨l, n, hlog, hlast⟩ := logFault_events 0x9 e.chan 0x0601 0
    (State.bumpSat { s with dram := { s.dram with poison := (e.addr / 32 * 32, 32) :: s.dram.poison } } P.MEM_UE_COUNT e.chan 1)
  have hev := hlog.trans (eventsOnly_post _ 0x68 0x9 e.chan (1 + at' 16 (e.addr % 2 ^ 48) + at' 64 32))
  unfold State.postMemError
  generalize State.post 0x68 0x9 e.chan (1 + at' 16 (e.addr % 2 ^ 48) + at' 64 32) (State.logFault 0x9 e.chan 0x0601 0 _) = u at hev
  obtain ⟨k, hk, hmem⟩ := addCandidate_effect e.chan e.bank e.row u
  have hremap : u.dram.remap = s.dram.remap := by
    obtain ⟨⟨_, _, _, _, hu⟩, -⟩ := hev
    rw [hu]
    rfl
  rw [hk]
  exact ⟨l, n, k, hev.lift (fun z => { z with dram := { z.dram with candidates := k } }) (fun _ _ _ _ _ => rfl) fun _ => rfl, hlast, hremap ▸ hmem⟩

/-- A correctable granule is counted. -/
theorem dramError_correctable {e : ScrubFinding} {s : State} (hp : s.poisoned e.addr = false) (hu : e.uncorrectable = false) : ∃ l k,
    EventsOnly { s.bumpSat P.MEM_CE_COUNT e.chan 1 with dram := { s.dram with ceLog := l, candidates := k } } (s.dramError e) := by
  have hcand (p : Prop) [Decidable p] (t : State) : ∃ k, (if p then t.addCandidate e.chan e.bank e.row else t) = { t with dram := { t.dram with candidates := k } } := by
    split
    · obtain ⟨k, hk, -⟩ := addCandidate_effect e.chan e.bank e.row t
      exact ⟨k, hk⟩
    · exact ⟨t.dram.candidates, rfl⟩
  unfold State.dramError
  rw [if_neg (by rw [hp]; exact Bool.false_ne_true), if_neg (by rw [hu]; exact Bool.false_ne_true)]
  dsimp only
  generalize ((e.chan, e.bank, e.row, e.granule, s.now) :: _) = l
  have hev : EventsOnly _ (State.postMemError 0 e.chan e.addr 32 (State.bumpSat { s with dram := { s.dram with ceLog := l } } P.MEM_CE_COUNT e.chan 1)) := eventsOnly_post _ _ _ _ _
  generalize State.postMemError 0 e.chan e.addr 32 _ = u at hev
  obtain ⟨k, hk⟩ := hcand (8 ≤ (l.filter fun c => (c.1, c.2.1, c.2.2.1) == (e.chan, e.bank, e.row)).length) u
  rw [hk]
  exact ⟨l, k, hev.lift (fun z => { z with dram := { z.dram with candidates := k } }) (fun _ _ _ _ _ => rfl) fun _ => rfl⟩

/-- The scrub of `n` granules from `s` on, after the errors found have given `u`. -/
def State.scrubbed (s u : State) (n : Nat) : State :=
  if patrolTotal ≤ s.dram.patrolPos + n then
    State.taskDone 7 (State.modTask 7 (fun t => { t with progress := 0 })
      (State.setP { u with dram := { u.dram with patrolPos := 0 }, hk := { u.hk with patrolStart := u.now } } P.MEM_SCRUB_PROGRESS 0 0))
  else State.modTask 7 (fun t => { t with progress := (s.dram.patrolPos + n) * 1000 / patrolTotal })
    (State.setP { u with dram := { u.dram with patrolPos := s.dram.patrolPos + n } } P.MEM_SCRUB_PROGRESS 0 ((s.dram.patrolPos + n) * 1000 / patrolTotal))

/-- The decayed granules that a scrub finds are known from then on. -/
abbrev State.known (l : List ScrubFinding) (s : State) : State :=
  { s with dram := { s.dram with flaws := s.dram.flaws.filter fun e => !(l.any fun d => d.addr / 32 == e.addr / 32) } }

theorem patrolScrub_exec (n : Nat) (l : List ScrubFinding) (s : State) : exec (.patrolScrub n l) s = guarded (.patrolScrub n l) s
    (if s.bgHeld 7 then s else s.scrubbed (l.foldl (fun t e => t.dramError e) (s.known l)) n) := rfl

theorem known_nil (s : State) : s.known [] = s := by
  unfold State.known
  simp

/-- A scrub within the pass moves its position. -/
theorem scrubbed_goes_on {s u : State} {n : Nat} (h : s.dram.patrolPos + n < patrolTotal) : ∃ k, s.scrubbed u n = { u.setP P.MEM_SCRUB_PROGRESS 0 ((s.dram.patrolPos + n) * 1000 / patrolTotal) with
    dram := { u.dram with patrolPos := s.dram.patrolPos + n }, hk := { u.hk with tasks := k } } := ⟨_, if_neg (by omega)⟩

/-- A scrub past the end of the pass starts anew. -/
theorem scrubbed_wraps {s u : State} {n : Nat} (h : patrolTotal ≤ s.dram.patrolPos + n) : ∃ k, s.scrubbed u n = { u.setP P.MEM_SCRUB_PROGRESS 0 0 with
    dram := { u.dram with patrolPos := 0 }, hk := { u.hk with tasks := k, patrolStart := u.now } } := ⟨_, if_pos h⟩

/-- The counter of a channel that an error raised, and the progress set after it. -/
theorem scrub_params {s u : State} {id ch x : Nat} (hne : pkey id ch ≠ pkey P.MEM_SCRUB_PROGRESS 0) (hu : u.params = (s.setP id ch x).params) (v : Nat) :
    (u.setP P.MEM_SCRUB_PROGRESS 0 v).getP id ch = x ∧ SameParams [pkey P.MEM_SCRUB_PROGRESS 0, pkey id ch] s (u.setP P.MEM_SCRUB_PROGRESS 0 v) := by
  have hpar : ParamsOnly [pkey P.MEM_SCRUB_PROGRESS 0, pkey id ch] s ((s.setP id ch x).setP P.MEM_SCRUB_PROGRESS 0 v) :=
    ((ParamsOnly.refl _ s).setP (by simp) x).setP (by simp) v
  have hval : ((s.setP id ch x).setP P.MEM_SCRUB_PROGRESS 0 v).getP id ch = x := by
    rw [State.getP_setP, if_neg hne]
    exact State.getP_setP_same _ _ _ _
  unfold State.getP SameParams State.setP
  rw [hu]
  exact ⟨hval, hpar.2⟩

section
variable {s : State} {n : Nat} (hh : s.bgHeld 7 = false)
include hh

theorem patrolScrub_next (l : List ScrubFinding) (hp : ((l.foldl (fun t e => t.dramError e) (s.known l)).pending = s.pending)) :
    exec (.patrolScrub n l) s = .next (s.scrubbed (l.foldl (fun t e => t.dramError e) (s.known l)) n) := by
  refine exec_next (patrolScrub_exec n l s) rfl (if_neg (by rw [hh]; exact Bool.false_ne_true)) ?_
  rw [← hp]
  unfold State.scrubbed
  split <;> rfl

theorem patrolScrub_moves (hp : s.dram.patrolPos + n < patrolTotal) : ∃ t, exec (.patrolScrub n []) s = .next t ∧ t.dram = { s.dram with patrolPos := s.dram.patrolPos + n }
    ∧ t.getP P.MEM_SCRUB_PROGRESS 0 = (s.dram.patrolPos + n) * 1000 / 4026531840 ∧ SameParams [pkey P.MEM_SCRUB_PROGRESS 0] s t
    ∧ t = { s with params := t.params, dram := t.dram, hk := { s.hk with tasks := t.hk.tasks } } := by
  obtain ⟨k, hk⟩ := scrubbed_goes_on (u := s) hp
  have hx := patrolScrub_next (n := n) hh [] (by rw [known_nil]; rfl)
  rw [known_nil, List.foldl_nil, hk] at hx
  exact ⟨_, hx, rfl, State.getP_setP_same _ _ _ _, sameParams_setP (s := s) List.mem_cons_self _, rfl⟩

theorem patrolScrub_wraps (hp : patrolTotal ≤ s.dram.patrolPos + n) : ∃ t, exec (.patrolScrub n []) s = .next t ∧ t.dram = { s.dram with patrolPos := 0 }
    ∧ t.getP P.MEM_SCRUB_PROGRESS 0 = 0 ∧ SameParams [pkey P.MEM_SCRUB_PROGRESS 0] s t
    ∧ t = { s with params := t.params, dram := t.dram, hk := { s.hk with tasks := t.hk.tasks, patrolStart := t.hk.patrolStart } } := by
  have hx := patrolScrub_next (n := n) hh [] (by rw [known_nil]; rfl)
  obtain ⟨k, hk⟩ := scrubbed_wraps (u := s) hp
  rw [known_nil, List.foldl_nil, hk] at hx
  exact ⟨_, hx, rfl, State.getP_setP_same s P.MEM_SCRUB_PROGRESS 0 0, sameParams_setP (s := s) (i := P.MEM_SCRUB_PROGRESS) (e := 0) List.mem_cons_self 0, rfl⟩

variable (hp : s.dram.patrolPos + n < patrolTotal) {e : ScrubFinding} (hc : e.chan < 16) (hpois : s.poisoned e.addr = false)
include hp hc hpois

theorem patrolScrub_uncorrectable (hu : e.uncorrectable = true) : ∃ t, exec (.patrolScrub n [e]) s = .next t ∧ t.dram.poison = (e.addr / 32 * 32, 32) :: s.dram.poison
    ∧ t.getP P.MEM_UE_COUNT e.chan = min (s.getP P.MEM_UE_COUNT e.chan + 1) (2 ^ 32 - 1) ∧ SameParams [pkey P.MEM_SCRUB_PROGRESS 0, pkey P.MEM_UE_COUNT e.chan] s t
    ∧ ((e.chan, e.bank, e.row) ∈ t.dram.candidates ∨ ∃ q, (e.chan, e.bank, e.row, q) ∈ s.dram.remap) ∧ t.dram.bytes = s.dram.bytes ∧ t.dram.buffers = s.dram.buffers
    ∧ (t.ctl.faultLog.getLast?.map fun x => (x.seq, x.cls, x.idx, x.code)) = some (s.ctl.faultNext, 0x9, e.chan, 0x0601) := by
  obtain ⟨l, m, k, ⟨⟨_, _, _, _, he⟩, -⟩, hlast, hmem⟩ := dramError_uncorrectable (s := s.known [e]) hpois hu
  have hx := patrolScrub_next (n := n) hh [e] (by rw [List.foldl_cons, List.foldl_nil, he]; rfl)
  rw [List.foldl_cons, List.foldl_nil] at hx
  generalize (s.known [e]).dramError e = u at he hx
  obtain ⟨j, hj⟩ := scrubbed_goes_on (u := u) hp
  rw [hj] at hx
  have hkey : pkey P.MEM_UE_COUNT e.chan ≠ pkey P.MEM_SCRUB_PROGRESS 0 := by
    simp only [pkey, P.MEM_UE_COUNT, P.MEM_SCRUB_PROGRESS]
    omega
  have hpar : u.params = (s.bumpSat P.MEM_UE_COUNT e.chan 1).params := by rw [he]; rfl
  obtain ⟨hget, hsame⟩ := scrub_params hkey hpar ((s.dram.patrolPos + n) * 1000 / patrolTotal)
  exact ⟨_, hx, by rw [he], hget, hsame, by rw [he]; exact hmem, by rw [he], by rw [he], by rw [he]; exact hlast⟩

theorem patrolScrub_correctable (hu : e.uncorrectable = false) : ∃ t, exec (.patrolScrub n [e]) s = .next t ∧ t.dram.poison = s.dram.poison
    ∧ t.getP P.MEM_CE_COUNT e.chan = min (s.getP P.MEM_CE_COUNT e.chan + 1) (2 ^ 32 - 1) ∧ SameParams [pkey P.MEM_SCRUB_PROGRESS 0, pkey P.MEM_CE_COUNT e.chan] s t
    ∧ t.ctl.faultLog = s.ctl.faultLog ∧ t.dram.bytes = s.dram.bytes ∧ t.dram.buffers = s.dram.buffers := by
  obtain ⟨l, k, ⟨_, _, _, _, he⟩, -⟩ := dramError_correctable (s := s.known [e]) hpois hu
  have hx := patrolScrub_next (n := n) hh [e] (by rw [List.foldl_cons, List.foldl_nil, he]; rfl)
  rw [List.foldl_cons, List.foldl_nil] at hx
  generalize (s.known [e]).dramError e = u at he hx
  obtain ⟨j, hj⟩ := scrubbed_goes_on (u := u) hp
  rw [hj] at hx
  have hkey : pkey P.MEM_CE_COUNT e.chan ≠ pkey P.MEM_SCRUB_PROGRESS 0 := by
    simp only [pkey, P.MEM_CE_COUNT, P.MEM_SCRUB_PROGRESS]
    omega
  have hpar : u.params = (s.bumpSat P.MEM_CE_COUNT e.chan 1).params := by rw [he]; rfl
  obtain ⟨hget, hsame⟩ := scrub_params hkey hpar ((s.dram.patrolPos + n) * 1000 / patrolTotal)
  exact ⟨_, hx, by rw [he], hget, hsame, by rw [he]; rfl, by rw [he], by rw [he]⟩

end

end Sys2Proof.Machine

open Sys2Proof Sys2Proof.Machine in
/-- Settles O39: each step of the DRAM is an equation, and an error found is one of two effects. -/
theorem dramIsKept : Obligations.DramIsKept := by
  unfold Obligations.DramIsKept
  refine ⟨fun ch b r w l s hc hb hw => ⟨?_, ?_, ?_⟩, fun ch b x s hc hb h hroom => rowRetired_remaps hc hb h hroom, fun ch b x s hc hb h hroom => rowRetired_full hc hb h hroom,
    fun ch b s hc hb h => rowRetired_none hc hb h, fun ch s hc => retrainInterval_due hc s,
    fun t s => ⟨fun h hdue hh => ?_, fun h hidle => exec_next (retrainSlice_idle_exec t h) rfl (if_pos hidle) rfl, fun r h hlt => ?_, fun r h h63 => retrainSlice_ends t h h63⟩,
    fun n l s hh => exec_next (patrolScrub_exec n l s) rfl (if_pos hh) rfl,
    fun n s hh hp => ⟨patrolScrub_moves hh hp, fun e hc hpois hu => patrolScrub_uncorrectable hh hp hc hpois hu, fun e hc hpois hu => patrolScrub_correctable hh hp hc hpois hu⟩,
    fun n s hh hp => patrolScrub_wraps hh hp⟩
  · exact ⟨_, exec_next (dramRefresh_exec ch s ⟨b, l⟩) (by simp [Instr.wellFormed, hc, hb]) rfl rfl, SMap.get_set_same (fun _ => 0) s.dram.refreshes (ch * 32 + b) (SMap.get (fun _ => 0) s.dram.refreshes (ch * 32 + b) + 1),
      fun k hk => SMap.get_set_other (fun _ => 0) s.dram.refreshes hk (SMap.get (fun _ => 0) s.dram.refreshes (ch * 32 + b) + 1), rfl⟩
  · exact ⟨_, exec_next (mr4Read_exec ch s r) (decide_eq_true hc) rfl rfl, SMap.get_set_same _ _ _ _, fun k hk => SMap.get_set_other _ _ hk _, rfl⟩
  · refine ⟨_, exec_next (wckTrack_exec ch s w) (by simp [Instr.wellFormed, hc, hw]) rfl rfl, fun j hj => ?_, fun k hk => ?_, rfl⟩
    · refine (trackedWck_get hw _ _).trans ((if_pos (by omega)).trans ?_)
      rw [Nat.add_sub_cancel_left]
    · exact (trackedWck_get hw _ _).trans (if_neg (by omega))
  · refine exec_next (retrainSlice_idle_exec t h) rfl (if_neg ?_) rfl
    rw [hh]
    exact not_or.2 ⟨hdue, Bool.false_ne_true⟩
  · exact exec_next (retrainSlice_run_exec t h) rfl (if_neg (by omega)) rfl
end

section
/-! Completion of the commands of DRAM, host buffers, expanders, regions and flushes (chapter 9). -/

open Sys2Proof Sys2Proof.Machine in
/-- Settles O58: each command of the memory completes as its own statement (O38 to O41) says. -/
theorem everyMemoryCommandCompletes : Obligations.EveryMemoryCommandCompletes := by
  obtain ⟨halloc, -, -, hfree, hmove, -, hfault⟩ := hostBuffersAreAllocatedAndMoved
  obtain ⟨hkeep, -, hfull, -, hdue, hslice, -, -, hwrap⟩ := dramIsKept
  obtain ⟨-, hport, hslot, hsurprise, -, hpoll, -, hverify, hverified, hcreate, -, hregion⟩ := expandersAndRegionsComeAndGo
  obtain ⟨hstart, -, hphase, -, hflush, hdone, -, hremove, -, hstep, hoff, hbutton⟩ := flushesAndRemovalsRunTheirSteps
  unfold Obligations.EveryMemoryCommandCompletes
  refine ⟨fun c n a s ha ho hk hn hp hwin hq hpages hplace => ?_, fun c s b ha ho hb hw hbusy => ?_,
    fun c a h n b s hhost ho hca hch hcn h0 h1 h2 hb hw hwin hflaws ha hgood => ?_, fun c a h n b s m hhost ho hca hch hcn h0 h1 h2 hb hw hwin hflaws ha hm hle hgood => ?_,
    fun a w s h => ?_, fun ch b x s hc hb h hroom => ?_, fun ch b l s hc hb => ?_, fun ch r s hc => ?_, fun ch w s hc hw => ?_, fun ch s hc => ?_, fun t s r h h63 => ?_,
    fun n s hh hp => ?_, fun e s hp h => ?_, fun n s hn hst hr => ?_, fun n r s hn hr hst hreg hrs hbin => ?_, fun n a m s hn hst hh hr => ?_,
    fun r o s hr hh hper h1 h3 ho => ?_, fun r s hr hper hbin => ?_, fun g s hg hnone hw => ⟨_, hstart g s hg hnone hw, rfl, rfl⟩,
    fun t s g hg hp => ⟨_, (hphase t s).2 g hg hp, rfl⟩, fun t tk us g f s hg h2 hfl hf hbins hus hlt => ?_,
    fun c r w l s ha ho hr hw hl hr32 hmem h0 hlt hdup hpad hst hall hnone hbin hfit hroom hper => ?_, fun c r s ho hr hr32 ha hst hbin => ?_,
    fun c r s ho hr hr32 ha hst hbin => ?_, fun c n s ha ho hn hn32 hpol hst hreg => ?_, fun n m s hn hm hbins hs => ?_, fun n m s hn hm hbins hs => ?_,
    fun n tk m f s hn hm hs htk hf hpres => ?_, fun c s ha ho => ?_, fun n s hn hb => ?_, fun n s hn hb hst hreg => ?_⟩
  case refine_1 => obtain ⟨t, b, ht, hans, hbuf, -⟩ := halloc c n a s ha ho hk hn hp hwin hq hpages hplace; exact ⟨t, b, ht, hans, hbuf⟩
  case refine_2 => obtain ⟨t, ht, hans, hbuf, -⟩ := ((hfree c s ha ho).2 b hb).2.2 hw hbusy; exact ⟨t, ht, hans, hbuf⟩
  case refine_3 => obtain ⟨t, ht, hans, hread, -⟩ := (hmove c a h n b s hhost ho hca hch hcn h0 h1 h2 hb hw hwin hflaws).1 ha hgood; exact ⟨t, ht, hans, hread⟩
  case refine_4 => obtain ⟨t, ht, hok, hcut, -⟩ := (hmove c a h n b s hhost ho hca hch hcn h0 h1 h2 hb hw hwin hflaws).2.2 m ha hm hle hgood; exact ⟨t, ht, hok, hcut⟩
  case refine_5 => obtain ⟨t, ht, hlog, -⟩ := (hfault a w s).2 h; exact ⟨t, ht, hlog⟩
  case refine_6 => obtain ⟨t, ht, hcond, hdram, -⟩ := hfull ch b x s hc hb h hroom; exact ⟨t, ht, hcond, by rw [hdram]⟩
  case refine_7 =>
    obtain ⟨t, ht, hcount, -, hframe⟩ := (hkeep ch b 0 [0, 0, 0, 0] l s hc hb rfl).1
    exact ⟨t, ht, hcount, by rw [hframe]⟩
  case refine_8 => obtain ⟨t, ht, hrate, -⟩ := (hkeep ch 0 r [0, 0, 0, 0] [] s hc (by decide) rfl).2.1; exact ⟨t, ht, hrate⟩
  case refine_9 => obtain ⟨t, ht, hwck, -⟩ := (hkeep ch 0 0 w [] s hc (by decide) hw).2.2; exact ⟨t, ht, hwck⟩
  case refine_10 => obtain ⟨t, ht, hmask, hdram, -⟩ := hdue ch s hc; exact ⟨t, ht, hmask, by rw [hdram]⟩
  case refine_11 => obtain ⟨u, hu, hnone, -⟩ := (hslice t s).2.2.2 r h h63; exact ⟨u, hu, hnone⟩
  case refine_12 => obtain ⟨t, ht, -, hprog, -⟩ := hwrap n s hh hp; exact ⟨t, ht, hprog⟩
  case refine_13 =>
    obtain ⟨t, ht, hev⟩ := hport e s hp h
    exact ⟨t, ht, (hev.getP _ _).trans (State.getP_setP_same s _ _ _)⟩
  case refine_14 => obtain ⟨t, ht, hst', -, hpres, -⟩ := (hslot n s hn).2.1 hst hr; exact ⟨t, ht, hst', hpres⟩
  case refine_15 => obtain ⟨t, ht, hexp, hreg', -⟩ := hsurprise n r s hn hr hst hreg hrs hbin; exact ⟨t, ht, hexp, hreg'⟩
  case refine_16 => obtain ⟨t, ht, hpois, -, hlog, -⟩ := hpoll n a m s hn hst hh hr; exact ⟨t, ht, hpois, hlog⟩
  case refine_17 => obtain ⟨t, ht, hreg, -, hprog, -⟩ := hverify r o s hr hh hper h1 h3 ho; exact ⟨t, ht, by rw [hreg], hprog⟩
  case refine_18 => obtain ⟨t, ht, -, -, hst, hprog, -⟩ := (hverified r s hr).2 hper hbin; exact ⟨t, ht, hst, hprog⟩
  case refine_19 => obtain ⟨u, hu, hans, hnone, -⟩ := hdone t tk us g f s hg h2 hfl hf hbins hus hlt; exact ⟨u, hu, hans, hnone⟩
  case refine_20 =>
    obtain ⟨t, ht, hans, hst', -⟩ := (hcreate c r w l s ha ho hr hw hl hr32 hmem h0 hlt hdup hpad).2.2 hst hall hnone hbin hfit hroom hper
    exact ⟨t, ht, hans, hst'⟩
  case refine_21 => obtain ⟨t, ht, hans, hst', -⟩ := ((hregion c r s ho hr).2.1 hr32 ha).2.2 hst hbin; exact ⟨t, ht, hans, hst'⟩
  case refine_22 => obtain ⟨t, ht, hans, hst', -⟩ := ((hregion c r s ho hr).2.2 hr32 ha).2 hst hbin; exact ⟨t, ht, hans, hst'⟩
  case refine_23 => obtain ⟨t, ht, hst', -, hrem, -⟩ := (hremove c n s ha ho hn).2.2 hn32 hpol hst hreg; exact ⟨t, ht, hst', hrem⟩
  case refine_24 => obtain ⟨t, ht, hrem, -⟩ := (hstep n m s hn hm hbins).1 hs; exact ⟨t, ht, hrem⟩
  case refine_25 => obtain ⟨t, ht, hrem, -⟩ := (hstep n m s hn hm hbins).2 hs; exact ⟨t, ht, hrem⟩
  case refine_26 => obtain ⟨t, ht, hans, hst', -⟩ := hoff n tk m f s hn hm hs htk hf hpres; exact ⟨t, ht, hans, hst'⟩
  case refine_27 =>
    obtain ⟨t, ht, hw⟩ := hflush c s ha ho
    have hframe := hw.2.2.1
    exact ⟨t, ht, hw.unanswered, by rw [hframe]⟩
  case refine_28 => obtain ⟨t, ht, hbit, -⟩ := (hbutton n s hn).1 hb; exact ⟨t, ht, hbit⟩
  case refine_29 => obtain ⟨t, ht, hst', -, hrem, -⟩ := (hbutton n s hn).2.2.2.2 hb hst hreg; exact ⟨t, ht, hst', hrem⟩
end

section
/-! Audio ports: clocks, rates, output blocks, common starts (R380 to R392). -/

namespace Sys2Proof.Machine

/-! ### Ports -/

theorem port_modPort (n : Nat) (f : AudioPort → AudioPort) (s : State) (k : Nat) : (s.modPort n f).port k = if k = n then f (s.port n) else s.port k :=
  SMap.get_set portDef _ _ _ _

theorem port_modPort_same (n : Nat) (f : AudioPort → AudioPort) (s : State) : (s.modPort n f).port n = f (s.port n) := (port_modPort n f s n).trans (if_pos rfl)

theorem port_modPort_other {n k : Nat} (h : k ≠ n) (f : AudioPort → AudioPort) (s : State) : (s.modPort n f).port k = s.port k := (port_modPort n f s k).trans (if_neg h)

theorem port_setP (i e v : Nat) (s : State) (k : Nat) : (s.setP i e v).port k = s.port k := rfl

theorem app_modPort (n : Nat) (f : AudioPort → AudioPort) (s : State) (k i : Nat) : (s.modPort n f).app k i = s.app k i := rfl

theorem EventsOnly.port {s t : State} (h : EventsOnly s t) (k : Nat) : t.port k = s.port k := by
  obtain ⟨⟨_, _, _, _, rfl⟩, -⟩ := h
  rfl

/-- Besides port `n`'s own record, the parameters at the keys `l` and event records, `t` is `s`. -/
def PortStep (n : Nat) (l : List Nat) (s t : State) : Prop :=
  (∀ k, k ≠ n → t.port k = s.port k) ∧ SameParams l s t ∧ EventsOnly { s with params := t.params, au := { s.au with ports := t.au.ports } } t

theorem PortStep.refl (n : Nat) (l : List Nat) (s : State) : PortStep n l s s := ⟨fun _ _ => rfl, fun _ _ => rfl, EventsOnly.refl s⟩

theorem PortStep.trans {n : Nat} {l : List Nat} {s t u : State} (h : PortStep n l s t) (g : PortStep n l t u) : PortStep n l s u := by
  obtain ⟨hport, hpar, hev⟩ := h
  obtain ⟨gport, gpar, gev⟩ := g
  exact ⟨fun k hk => (gport k hk).trans (hport k hk), hpar.trans gpar,
    (hev.lift (fun z => { z with params := u.params, au := { z.au with ports := u.au.ports } }) (fun _ _ _ _ _ => rfl) fun _ => rfl).trans gev⟩

theorem portStep_modPort (n : Nat) (l : List Nat) (f : AudioPort → AudioPort) (s : State) : PortStep n l s (s.modPort n f) :=
  ⟨fun _ hk => port_modPort_other hk f s, fun _ _ => rfl, EventsOnly.refl _⟩

theorem ParamEvents.portStep {n : Nat} {l : List Nat} {s t : State} (h : ParamEvents l s t) : PortStep n l s t := by
  obtain ⟨hev, hpar⟩ := h
  obtain ⟨⟨w, v, m, a, ht⟩, -⟩ := id hev
  have hports : t.au = s.au := by rw [ht]
  refine ⟨fun k _ => hev.port k, hpar, ?_⟩
  rw [hports]
  exact hev

theorem PortStep.pending {n : Nat} {l : List Nat} {s t : State} (h : PortStep n l s t) : t.pending = s.pending := h.2.2.pending

/-- A change of a port's state. -/
theorem setApState_effect (n new reason : Nat) (s : State) :
    ParamEvents [pkey (P.ap n P.AP_STATE) 0] s (s.setApState n new reason) ∧ (s.setApState n new reason).apState n = new := by
  unfold State.setApState
  dsimp only
  split
  · next h => exact ⟨ParamEvents.refl _ s, h⟩
  · exact ⟨((ParamEvents.refl _ s).setP List.mem_cons_self new).events (eventsOnly_post _ _ _ _ _),
      (State.post_getP _ _ _ _ _ _ _).trans (State.getP_setP_same s _ _ _)⟩

/-! ### Clock and rate (R380) -/

/-- The record of a port whose clock has been detected. -/
abbrev AudioPort.detected (x : AudioPort) : AudioPort := { x with clock := true, edges := 0, missed := 0 }

/-- Port `n`'s clock is present, and its source has arrived. -/
def State.clockArrived (n : Nat) (s : State) : State := (s.modPort n AudioPort.detected).partnerArrives (clockId n) (srcOf 0xC n) 0

theorem partnerArrives_port (q : PartnerId) (src v : Nat) (s : State) (k : Nat) : (s.partnerArrives q src v).port k = s.port k := rfl

theorem clockArrived_effect (n : Nat) (s : State) : (s.clockArrived n).port n = (s.port n).detected ∧ (∀ k, k ≠ n → (s.clockArrived n).port k = s.port k)
    ∧ (s.clockArrived n).partner (clockId n) = { s.partner (clockId n) with present := true, since := s.now, reported := false, src := srcOf 0xC n, payload := 0 }
    ∧ (∀ q, partnerKey q ≠ partnerKey (clockId n) → (s.clockArrived n).partner q = s.partner q)
    ∧ ∃ p m, s.clockArrived n = { s with au := { s.au with ports := m }, ctl := { s.ctl with partners := p } } :=
  ⟨port_modPort_same n _ s, fun _ hk => port_modPort_other hk _ s, partner_partnerArrives_same (clockId n) (srcOf 0xC n) 0 (s.modPort n AudioPort.detected),
    fun _ hq => partner_partnerArrives_other hq _ _ (s.modPort n AudioPort.detected), _, _, rfl⟩

section
variable {n : Nat} {x : AudioPort} {s : State} (hn : n < 16) (hx : s.port n = x)
include hn hx

theorem audioClockDetect_present (h : x.clock = true) : exec (.audioClockDetect n) s = .next s :=
  exec_next (i := .audioClockDetect n) rfl (decide_eq_true hn) (if_pos (by rw [hx]; exact h)) rfl

theorem audioClockDetect_detects (h : x.clock = false) : ∃ t, exec (.audioClockDetect n) s = .next t ∧ t.port n = x.detected
    ∧ (∀ k, k ≠ n → t.port k = s.port k) ∧ t.apState n = (if s.apState n = 1 ∧ (s.partner (clockId n)).quarantined = false then 2 else s.apState n)
    ∧ (t.partner (clockId n)).present = true ∧ (t.partner (clockId n)).since = s.now
    ∧ (∀ q, partnerKey q ≠ partnerKey (clockId n) → t.partner q = s.partner q) ∧ SameParams [pkey (P.ap n P.AP_STATE) 0] s t
    ∧ EventsOnly { s with params := t.params, au := { s.au with ports := t.au.ports }, ctl := { s.ctl with partners := t.ctl.partners } } t := by
  have hexec : exec (.audioClockDetect n) s = guarded (.audioClockDetect n) s
      (if (s.port n).clock then s else if (s.clockArrived n).apState n = 1 ∧ (s.clockArrived n).clockUsable n = true then (s.clockArrived n).setApState n 2 2 else s.clockArrived n) := rfl
  rw [if_neg (by rw [hx, h]; exact Bool.false_ne_true)] at hexec
  obtain ⟨hport, hother, hpartner, hothers, p, m, hu⟩ := clockArrived_effect n s
  generalize s.clockArrived n = u at hexec hport hother hpartner hothers hu
  have hst : u.apState n = s.apState n := by rw [hu]; rfl
  have husable : u.clockUsable n = !(s.partner (clockId n)).quarantined := by
    rw [State.clockUsable, hport, hpartner]
    rfl
  obtain ⟨v, hv, hpe, hstate⟩ : ∃ v, (if u.apState n = 1 ∧ u.clockUsable n = true then u.setApState n 2 2 else u) = v ∧ ParamEvents [pkey (P.ap n P.AP_STATE) 0] u v
      ∧ v.apState n = if s.apState n = 1 ∧ (s.partner (clockId n)).quarantined = false then 2 else s.apState n := by
    rw [hst, husable]
    obtain ⟨hpe, hnew⟩ := setApState_effect n 2 2 u
    by_cases hc : s.apState n = 1 ∧ (s.partner (clockId n)).quarantined = false
    · exact ⟨_, if_pos (by simpa using hc), hpe, by rw [if_pos hc]; exact hnew⟩
    · exact ⟨_, if_neg (by simpa using hc), ParamEvents.refl _ u, by rw [if_neg hc]; exact hst⟩
  obtain ⟨w, y, z, a, hframe⟩ := id hpe.1.1
  have hpar : v.partner = u.partner := by
    funext q
    rw [hframe]
    rfl
  have hprts : v.ctl.partners = p := by rw [hframe, hu]
  have hports : v.au.ports = m := by rw [hframe, hu]
  refine ⟨v, exec_next hexec (decide_eq_true hn) hv (by rw [hframe, hu]), (hpe.1.port n).trans (hport.trans (by rw [hx])), fun k hk => (hpe.1.port k).trans (hother k hk), hstate,
    by rw [hpar, hpartner], by rw [hpar, hpartner], fun q hq => by rw [hpar, hothers q hq], fun k hk => by rw [hpe.2 k hk, hu], ?_⟩
  rw [hprts, hports]
  have hev := hpe.1
  generalize v.params = q at hev ⊢
  rw [hu] at hev
  exact hev

theorem audioClockLost_absent (h : x.clock = false) : exec (.audioClockLost n) s = .next s :=
  exec_next (i := .audioClockLost n) rfl (decide_eq_true hn) (if_pos (by rw [hx, h]; rfl)) rfl

/-- The port without its clock, back in NO_CLOCK if it had come further. -/
def State.clockGone (n : Nat) (s : State) : State :=
  if 2 ≤ s.apState n ∧ s.apState n ≤ 5 then ((s.modPort n fun x => { x with clock := false }).modPort n AudioPort.unplaced).setApState n 1 1
  else s.modPort n fun x => { x with clock := false }

omit hn in
theorem clockGone_effect : PortStep n [pkey (P.ap n P.AP_STATE) 0] s (s.clockGone n)
    ∧ (s.clockGone n).port n = (if 2 ≤ s.apState n ∧ s.apState n ≤ 5 then { x.unplaced with clock := false } else { x with clock := false })
    ∧ (s.clockGone n).apState n = (if 2 ≤ s.apState n ∧ s.apState n ≤ 5 then 1 else s.apState n) := by
  have h1 := portStep_modPort n [pkey (P.ap n P.AP_STATE) 0] (fun x => { x with clock := false }) s
  have hp1 := port_modPort_same n (fun x => { x with clock := false }) s
  have hst : (s.modPort n fun x => { x with clock := false }).apState n = s.apState n := rfl
  unfold State.clockGone
  generalize (s.modPort n fun x => { x with clock := false }) = u at h1 hp1 hst
  by_cases hc : 2 ≤ s.apState n ∧ s.apState n ≤ 5
  · rw [if_pos hc, if_pos hc, if_pos hc]
    obtain ⟨hpe, hnew⟩ := setApState_effect n 1 1 (u.modPort n AudioPort.unplaced)
    refine ⟨(h1.trans (portStep_modPort n _ _ u)).trans hpe.portStep, ?_, hnew⟩
    rw [hpe.1.port, ← hx]
    exact (port_modPort_same n _ u).trans (by rw [hp1]; rfl)
  · rw [if_neg hc, if_neg hc, if_neg hc]
    exact ⟨h1, by rw [hp1, hx], hst⟩

theorem audioClockLost_loses (h : x.clock = true) : ∃ t, exec (.audioClockLost n) s = .next t
    ∧ t.port n = (if 2 ≤ s.apState n ∧ s.apState n ≤ 5 then { x.unplaced with clock := false } else { x with clock := false }) ∧ (∀ k, k ≠ n → t.port k = s.port k)
    ∧ t.apState n = (if 2 ≤ s.apState n ∧ s.apState n ≤ 5 then 1 else s.apState n) ∧ (t.partner (clockId n)).present = false
    ∧ (∀ q, partnerKey q ≠ partnerKey (clockId n) → t.partner q = s.partner q) ∧ SameParams [pkey (P.ap n P.AP_STATE) 0] s t
    ∧ EventsOnly { s with params := t.params, au := { s.au with ports := t.au.ports }, ctl := { s.ctl with partners := t.ctl.partners } } t := by
  have hexec : exec (.audioClockLost n) s = guarded (.audioClockLost n) s (if !(s.port n).clock then s else (s.clockGone n).partnerDeparts (clockId n)) := by
    have hcond : (2 ≤ s.apState n ∧ s.apState n ≤ 5) = (s.apState n = 2 ∨ s.apState n = 3 ∨ s.apState n = 4 ∨ s.apState n = 5) := propext (by omega)
    unfold State.clockGone
    simp only [hcond]
    rfl
  rw [if_neg (by rw [hx, h]; decide)] at hexec
  obtain ⟨⟨hother, hpar, hev⟩, hport, hst⟩ := clockGone_effect hx
  generalize s.clockGone n = u at hexec hother hpar hev hport hst
  have hgone := partnerDeparts_absent (clockId n) u
  have hothers (q : PartnerId) (hq : partnerKey q ≠ partnerKey (clockId n)) := partnerDeparts_other hq u
  obtain ⟨p, hdep⟩ := partnerDeparts_events (clockId n) u
  generalize u.partnerDeparts (clockId n) = t at hexec hgone hothers hdep
  obtain ⟨⟨w, y, z, a, ht⟩, -⟩ := id hdep
  have hparams : t.params = u.params := by rw [ht]
  have hau : t.au = u.au := by rw [ht]
  have hprts : t.ctl.partners = p := by rw [ht]
  have hp (k : Nat) : t.port k = u.port k := by rw [State.port, hau, State.port]
  refine ⟨t, exec_next hexec (decide_eq_true hn) rfl (by rw [hdep.pending]; exact hev.pending), (hp n).trans hport, fun k hk => (hp k).trans (hother k hk), ?_, hgone,
    fun q hq => (hothers q hq).trans (hev.partner q), fun k hk => by rw [hparams, hpar k hk], ?_⟩
  · rw [← hst, State.apState, State.app, State.getP, hparams]
    rfl
  · rw [hparams, hau, hprts]
    exact (hev.lift (fun z => { z with ctl := { z.ctl with partners := p } }) (fun _ _ _ _ _ => rfl) fun _ => rfl).trans hdep

end

/-! ### The rate (R380) -/

/-- The error of the rate `r`, in parts of 10^-8 of the nominal rate. -/
def State.rateError (s : State) (n r : Nat) : Nat := unsigned 32 (rdiv (((r : Int) - (s.apHz n * 1000000 : Nat)) * 100000000) (s.apHz n * 1000000 : Nat))

/-- The error of the rate `r` is kept. -/
abbrev State.rated (n r : Nat) (s : State) : State := s.setP (P.ap n P.AP_RATE_ERR) 0 (s.rateError n r)

theorem audioRateMeasure_exec (n r : Nat) (s : State) : exec (.audioRateMeasure n r) s = guarded (.audioRateMeasure n r) s
    (if s.apState n ≠ 3 ∧ s.apState n ≠ 4 ∧ s.apState n ≠ 5 then s
    else if s.apHz n * 1000000 < ((r : Int) - (s.apHz n * 1000000 : Nat)).natAbs * 1000 then ((s.rated n r).modPort n AudioPort.unplaced).setApState n 5 4
    else if s.apState n = 5 then (s.rated n r).setApState n 3 4 else s.rated n r) := rfl

/-- AP_STATE and AP_RATE_ERR of port `n`. -/
abbrev rateKeys (n : Nat) : List Nat := [pkey (P.ap n P.AP_RATE_ERR) 0, pkey (P.ap n P.AP_STATE) 0]

theorem rateErr_ne_state (n : Nat) : pkey (P.ap n P.AP_RATE_ERR) 0 ≠ pkey (P.ap n P.AP_STATE) 0 := by
  simp only [pkey, P.ap, P.AP_RATE_ERR, P.AP_STATE]
  omega

theorem setApState_rated (n r new reason : Nat) {s u : State} (hs : PortStep n (rateKeys n) s u)
    (hr : u.app n P.AP_RATE_ERR = s.rateError n r) :
    PortStep n (rateKeys n) s (u.setApState n new reason) ∧ (u.setApState n new reason).apState n = new ∧ (u.setApState n new reason).port n = u.port n
      ∧ (u.setApState n new reason).app n P.AP_RATE_ERR = s.rateError n r := by
  obtain ⟨hpe, hnew⟩ := setApState_effect n new reason u
  have hkey : pkey (P.ap n P.AP_RATE_ERR) 0 ∉ [pkey (P.ap n P.AP_STATE) 0] := fun h => rateErr_ne_state n (List.mem_singleton.1 h)
  exact ⟨hs.trans (hpe.mono fun k hk => List.mem_cons_of_mem _ hk).portStep, hnew, hpe.1.port n, (hpe.getP hkey).trans hr⟩

theorem rated_paramEvents (n r : Nat) (s : State) : ParamEvents (rateKeys n) s (s.rated n r) := (ParamEvents.refl _ s).setP List.mem_cons_self _

theorem rated_apState (n r : Nat) (s : State) : (s.rated n r).apState n = s.apState n :=
  (State.getP_setP s (P.ap n P.AP_RATE_ERR) 0 (s.rateError n r) (P.ap n P.AP_STATE) 0).trans (if_neg (rateErr_ne_state n).symm)

theorem rated_portStep (n r : Nat) (s : State) : PortStep n (rateKeys n) s (s.rated n r) ∧ (s.rated n r).port n = s.port n ∧ (s.rated n r).apState n = s.apState n
    ∧ (s.rated n r).app n P.AP_RATE_ERR = s.rateError n r :=
  ⟨(rated_paramEvents n r s).portStep, port_setP _ _ _ s n, rated_apState n r s, State.getP_setP_same s _ _ _⟩

theorem audioRateMeasure_idle {n r : Nat} {s : State} (hn : n < 16) (h : s.apState n < 3 ∨ 5 < s.apState n) : exec (.audioRateMeasure n r) s = .next s :=
  exec_next (audioRateMeasure_exec n r s) (decide_eq_true hn) (if_pos (by omega)) rfl

section
variable {n r : Nat} {s : State} (hn : n < 16) (h3 : 3 ≤ s.apState n) (h5 : s.apState n ≤ 5)
include hn h3 h5

theorem audioRateMeasure_within (hr : ((r : Int) - (s.apHz n * 1000000 : Nat)).natAbs * 1000 ≤ s.apHz n * 1000000) : ∃ u, exec (.audioRateMeasure n r) s = .next u
    ∧ u.app n P.AP_RATE_ERR = s.rateError n r
    ∧ u.apState n = (if s.apState n = 5 then 3 else s.apState n) ∧ SameParams (rateKeys n) s u ∧ EventsOnly { s with params := u.params } u := by
  have hx := audioRateMeasure_exec n r s
  rw [if_neg (by omega), if_neg (by omega)] at hx
  obtain ⟨hstep, hport, hst, herr⟩ := rated_portStep n r s
  have hpe : ParamEvents (rateKeys n) s (s.rated n r) := (ParamEvents.refl _ s).setP List.mem_cons_self _
  generalize s.rated n r = u at hx hstep hport hst herr hpe
  by_cases hc : s.apState n = 5
  · rw [if_pos hc] at hx ⊢
    obtain ⟨-, hnew, -, herr'⟩ := setApState_rated n r 3 4 hstep herr
    have hset := hpe.trans ((setApState_effect n 3 4 u).1.mono fun k hk => List.mem_cons_of_mem _ hk)
    exact ⟨_, exec_next hx (decide_eq_true hn) rfl hset.1.pending, herr', hnew, hset.2, hset.1⟩
  · rw [if_neg hc] at hx ⊢
    exact ⟨_, exec_next hx (decide_eq_true hn) rfl hpe.1.pending, herr, hst, hpe.2, hpe.1⟩

theorem audioRateMeasure_off (hr : s.apHz n * 1000000 < ((r : Int) - (s.apHz n * 1000000 : Nat)).natAbs * 1000) : ∃ u, exec (.audioRateMeasure n r) s = .next u
    ∧ u.app n P.AP_RATE_ERR = s.rateError n r
    ∧ u.apState n = 5 ∧ u.port n = (s.port n).unplaced ∧ (∀ k, k ≠ n → u.port k = s.port k) ∧ SameParams (rateKeys n) s u
    ∧ EventsOnly { s with params := u.params, au := { s.au with ports := u.au.ports } } u := by
  have hx := audioRateMeasure_exec n r s
  rw [if_neg (by omega), if_pos hr] at hx
  obtain ⟨hstep, hport, -, herr⟩ := rated_portStep n r s
  generalize s.rated n r = v at hx hstep hport herr
  rw [← app_modPort n AudioPort.unplaced] at herr
  have hp1 := port_modPort_same n AudioPort.unplaced v
  have hstep1 := hstep.trans (portStep_modPort n _ AudioPort.unplaced v)
  generalize v.modPort n AudioPort.unplaced = w at hx herr hp1 hstep1
  obtain ⟨⟨hother, hpar, hev⟩, hnew, hp, herr'⟩ := setApState_rated n r 5 4 hstep1 herr
  exact ⟨_, exec_next hx (decide_eq_true hn) rfl hev.pending, herr', hnew, hp.trans (hp1.trans (by rw [hport])), hother, hpar, hev⟩

end

/-! ### Output blocks (R387, R388) -/

theorem readBlock_flawless {s : State} (h : s.dram.flaws = []) (n b : Nat) : s.readBlock n b = s := by
  unfold State.readBlock
  rw [h]
  rfl

section
variable {n b : Nat} {s : State} (hn : n < 16)
include hn

theorem audioBlockFetch_idle {late : Bool} (h : s.apState n ≠ 4 ∨ s.blockNear n b = false) : exec (.audioBlockFetch n b late) s = .next s :=
  exec_next (i := .audioBlockFetch n b late) rfl (decide_eq_true hn) (if_pos h) rfl

theorem audioBlockDeadline_idle (h : s.apState n ≠ 4 ∨ s.blockDue n b = false) : exec (.audioBlockDeadline n b) s = .next s :=
  exec_next (i := .audioBlockDeadline n b) rfl (decide_eq_true hn) (if_pos h) rfl

variable {x : AudioPort} (h4 : s.apState n = 4) (hx : s.port n = x)
include h4 hx

theorem audioBlockFetch_notes {late : Bool} (hnear : s.blockNear n b = true) (hflaws : s.dram.flaws = []) : ∃ t, exec (.audioBlockFetch n b late) s = .next t
    ∧ t.port n = { x with
        fetched := b :: x.fetched.filter fun k => decide (b < k + 2000)
        missing := (if late = true ∨ s.blockLacks n b = true then [b] else []) ++ x.missing.filter fun k => k != b && decide (b < k + 2000) }
    ∧ (∀ k, k ≠ n → t.port k = s.port k) ∧ t = { s with au := { s.au with ports := t.au.ports } } := by
  refine ⟨s.modPort n fun x => { x with
      fetched := b :: x.fetched.filter fun k => decide (b < k + 2000)
      missing := (if late || s.blockLacks n b then [b] else []) ++ x.missing.filter fun k => k != b && decide (b < k + 2000) },
    exec_next (i := .audioBlockFetch n b late) rfl (decide_eq_true hn) ?_ rfl, ?_, fun k hk => port_modPort_other hk _ s, rfl⟩
  · refine (if_neg (not_or.2 ⟨fun h => h h4, by rw [hnear]; nofun⟩)).trans ?_
    dsimp only
    rw [readBlock_flawless hflaws]
  · rw [port_modPort_same, hx]
    simp only [Bool.or_eq_true]

/-- The record of a port whose block `b` has been judged. -/
abbrev AudioPort.judging (b : Nat) (x : AudioPort) : AudioPort := { x with judged := some b }

/-- The record of a port whose block `b` is lost. -/
abbrev AudioPort.losing (b : Nat) (x : AudioPort) : AudioPort :=
  { x with lost := x.lost + 1, missing := if x.missing.contains b then x.missing else b :: x.missing }

/-- Every slot that is on changes by `g`. -/
abbrev AudioPort.eachOn (g : OutSlot → OutSlot) (x : AudioPort) : AudioPort := { x with out := x.out.map fun o => if o.on then g o else o }

omit hn h4 hx in
theorem judging_pending : (s.modPort n (AudioPort.judging b)).pending = s.pending := rfl

omit hn h4 hx in
theorem fadeLen_modPort (f : AudioPort → AudioPort) : (s.modPort n f).fadeLen n = s.fadeLen n := rfl

/-- What the deadline of a due block does once the block is judged. -/
def State.judgedBlock (port block : Nat) (s : State) : State :=
  let x := s.port port
  let f := s.fadeLen port
  let m := block * blockLen
  let each := fun (g : OutSlot → OutSlot) (y : AudioPort) => { y with out := y.out.map fun (o : OutSlot) => if o.on then g o else o }
  if x.missing.contains block || !x.fetched.contains block then
    let s1 := s.modPort port fun y => { y with lost := y.lost + 1, missing := if y.missing.contains block then y.missing else block :: y.missing }
    if x.gone then s1
    else
      let s2 := s1.modPort port fun y => { each (OutSlot.fade f (m - f)) y with gone := true }
      (s2.bumpSat (P.ap port P.AP_FADES) 0 1).postAp 0x89 port (b2n (s.blockOverrun port block) + at' 16 m)
  else if x.gone then
    (s.modPort port fun y => { each (OutSlot.ramp f m) y with gone := false }).postAp 0x89 port (2 + at' 16 m)
  else s

omit hn h4 hx in
theorem blockBad_iff {y : AudioPort} : (y.missing.contains b || !y.fetched.contains b) = true ↔ b ∈ y.missing ∨ b ∉ y.fetched := by simp

omit hn h4 in
theorem judgedBlock_fine (hm : b ∉ x.missing) (hf : b ∈ x.fetched) : s.judgedBlock n b = if x.gone then
      (s.modPort n fun y => { y.eachOn (OutSlot.ramp (s.fadeLen n) (b * 32)) with gone := false }).postAp 0x89 n (2 + at' 16 (b * 32)) else s := by
  unfold State.judgedBlock
  rw [hx]
  exact if_neg fun h => (blockBad_iff.1 h).elim hm fun h => h hf

omit hn h4 in
theorem judgedBlock_lost (h : b ∈ x.missing ∨ b ∉ x.fetched) : s.judgedBlock n b = if x.gone then s.modPort n (AudioPort.losing b)
    else (((s.modPort n (AudioPort.losing b)).modPort n fun y => { y.eachOn (OutSlot.fade (s.fadeLen n) (b * 32 - s.fadeLen n)) with gone := true }).bumpSat (P.ap n P.AP_FADES) 0 1).postAp
      0x89 n (b2n (s.blockOverrun n b) + at' 16 (b * 32)) := by
  unfold State.judgedBlock
  rw [hx]
  exact if_pos (blockBad_iff.2 h)

omit hn h4 hx in
theorem losing_missing (y : AudioPort) : y.losing b = { y with lost := y.lost + 1, missing := if b ∈ y.missing then y.missing else b :: y.missing } := by
  simp only [AudioPort.losing, List.contains_iff_mem]

variable (hdue : s.blockDue n b = true)
include hdue

omit hn hx in
theorem audioBlockDeadline_exec : exec (.audioBlockDeadline n b) s = guarded (.audioBlockDeadline n b) s ((s.modPort n (AudioPort.judging b)).judgedBlock n b) := by
  refine Eq.trans (b := guarded (.audioBlockDeadline n b) s _) rfl (congrArg _ ?_)
  rw [if_neg (not_or.2 ⟨fun h => h h4, by rw [hdue]; nofun⟩)]
  rfl

theorem audioBlockDeadline_fine (hm : b ∉ x.missing) (hf : b ∈ x.fetched) (hg : x.gone = false) : ∃ t, exec (.audioBlockDeadline n b) s = .next t
    ∧ t.port n = { x with judged := some b } ∧ (∀ k, k ≠ n → t.port k = s.port k) ∧ t = { s with au := { s.au with ports := t.au.ports } } := by
  have hexec := audioBlockDeadline_exec h4 hdue
  have hp : (s.modPort n (AudioPort.judging b)).port n = x.judging b := (port_modPort_same n _ s).trans (by rw [hx])
  rw [judgedBlock_fine hp hm hf, if_neg (by rw [hg]; exact Bool.false_ne_true)] at hexec
  exact ⟨_, exec_next hexec (decide_eq_true hn) rfl rfl, hp, fun k hk => port_modPort_other hk _ s, rfl⟩

theorem audioBlockDeadline_ramps (hm : b ∉ x.missing) (hf : b ∈ x.fetched) (hg : x.gone = true) : ∃ t, exec (.audioBlockDeadline n b) s = .next t
    ∧ t.port n = { x with judged := some b, gone := false, out := x.out.map fun o => if o.on then o.ramp (s.fadeLen n) (b * 32) else o } ∧ (∀ k, k ≠ n → t.port k = s.port k)
    ∧ EventsOnly { s with au := { s.au with ports := t.au.ports } } t := by
  have hexec := audioBlockDeadline_exec h4 hdue
  have hp : (s.modPort n (AudioPort.judging b)).port n = x.judging b := (port_modPort_same n _ s).trans (by rw [hx])
  rw [judgedBlock_fine hp hm hf, if_pos hg, fadeLen_modPort] at hexec
  have hp2 := port_modPort_same n (fun y => { y.eachOn (OutSlot.ramp (s.fadeLen n) (b * 32)) with gone := false }) (s.modPort n (AudioPort.judging b))
  have ho2 (k : Nat) (hk : k ≠ n) := port_modPort_other hk (fun y => { y.eachOn (OutSlot.ramp (s.fadeLen n) (b * 32)) with gone := false }) (s.modPort n (AudioPort.judging b))
  have hframe : ∃ m, ((s.modPort n (AudioPort.judging b)).modPort n fun y => { y.eachOn (OutSlot.ramp (s.fadeLen n) (b * 32)) with gone := false })
      = { s with au := { s.au with ports := m } } := ⟨_, rfl⟩
  generalize ((s.modPort n (AudioPort.judging b)).modPort n fun y => { y.eachOn (OutSlot.ramp (s.fadeLen n) (b * 32)) with gone := false }) = u at hexec hp2 ho2 hframe
  obtain ⟨m, hu⟩ := hframe
  have hev : EventsOnly u (u.postAp 0x89 n (2 + at' 16 (b * 32))) := eventsOnly_post _ _ _ _ _
  generalize u.postAp 0x89 n (2 + at' 16 (b * 32)) = t at hexec hev
  have hports : t.au.ports = m := by
    obtain ⟨⟨_, _, _, _, ht⟩, -⟩ := hev
    rw [ht, hu]
  refine ⟨t, exec_next hexec (decide_eq_true hn) rfl (hev.pending.trans (by rw [hu])), ((hev.port n).trans hp2).trans (by rw [hp]),
    fun k hk => (hev.port k).trans ((ho2 k hk).trans (port_modPort_other hk _ s)), ?_⟩
  rw [hports, ← hu]
  exact hev

section
variable (h : b ∈ x.missing ∨ b ∉ x.fetched)
include h

theorem audioBlockDeadline_counts (hg : x.gone = true) : ∃ t, exec (.audioBlockDeadline n b) s = .next t
    ∧ t.port n = { x with judged := some b, lost := x.lost + 1, missing := if b ∈ x.missing then x.missing else b :: x.missing } ∧ (∀ k, k ≠ n → t.port k = s.port k)
    ∧ t = { s with au := { s.au with ports := t.au.ports } } := by
  have hexec := audioBlockDeadline_exec h4 hdue
  have hp : (s.modPort n (AudioPort.judging b)).port n = x.judging b := (port_modPort_same n _ s).trans (by rw [hx])
  rw [judgedBlock_lost hp h, if_pos hg] at hexec
  exact ⟨_, exec_next hexec (decide_eq_true hn) rfl rfl, (port_modPort_same n _ _).trans (by rw [hp]; exact losing_missing _),
    fun k hk => (port_modPort_other hk _ _).trans (port_modPort_other hk _ s), rfl⟩

theorem audioBlockDeadline_fades (hg : x.gone = false) : ∃ t, exec (.audioBlockDeadline n b) s = .next t
    ∧ t.port n = { x with
        judged := some b, lost := x.lost + 1, missing := if b ∈ x.missing then x.missing else b :: x.missing, gone := true
        out := x.out.map fun o => if o.on then o.fade (s.fadeLen n) (b * 32 - s.fadeLen n) else o }
    ∧ (∀ k, k ≠ n → t.port k = s.port k) ∧ t.app n P.AP_FADES = min (s.app n P.AP_FADES + 1) (2 ^ 32 - 1) ∧ SameParams [pkey (P.ap n P.AP_FADES) 0] s t
    ∧ EventsOnly { s with params := t.params, au := { s.au with ports := t.au.ports } } t := by
  have hexec := audioBlockDeadline_exec h4 hdue
  have hp : (s.modPort n (AudioPort.judging b)).port n = x.judging b := (port_modPort_same n _ s).trans (by rw [hx])
  rw [judgedBlock_lost hp h, if_neg (by rw [hg]; exact Bool.false_ne_true), fadeLen_modPort] at hexec
  have hp1 := port_modPort_same n (AudioPort.losing b) (s.modPort n (AudioPort.judging b))
  have hp2 := port_modPort_same n (fun y => { y.eachOn (OutSlot.fade (s.fadeLen n) (b * 32 - s.fadeLen n)) with gone := true }) ((s.modPort n (AudioPort.judging b)).modPort n (AudioPort.losing b))
  have hstep : PortStep n [pkey (P.ap n P.AP_FADES) 0] s (((s.modPort n (AudioPort.judging b)).modPort n (AudioPort.losing b)).modPort n
      fun y => { y.eachOn (OutSlot.fade (s.fadeLen n) (b * 32 - s.fadeLen n)) with gone := true }) :=
    ((portStep_modPort n _ _ s).trans (portStep_modPort n _ _ _)).trans (portStep_modPort n _ _ _)
  have happ : (((s.modPort n (AudioPort.judging b)).modPort n (AudioPort.losing b)).modPort n
      fun y => { y.eachOn (OutSlot.fade (s.fadeLen n) (b * 32 - s.fadeLen n)) with gone := true }).app n P.AP_FADES = s.app n P.AP_FADES :=
    (app_modPort _ _ _ _ _).trans ((app_modPort _ _ _ _ _).trans (app_modPort _ _ _ _ _))
  generalize (((s.modPort n (AudioPort.judging b)).modPort n (AudioPort.losing b)).modPort n
    fun y => { y.eachOn (OutSlot.fade (s.fadeLen n) (b * 32 - s.fadeLen n)) with gone := true }) = u at hexec hp2 hstep happ
  have hpe : ParamEvents [pkey (P.ap n P.AP_FADES) 0] u ((u.bumpSat (P.ap n P.AP_FADES) 0 1).postAp 0x89 n (b2n ((s.modPort n (AudioPort.judging b)).blockOverrun n b) + at' 16 (b * 32))) :=
    ((ParamEvents.refl _ u).setP List.mem_cons_self _).events (eventsOnly_post _ _ _ _ _)
  have hfades : ((u.bumpSat (P.ap n P.AP_FADES) 0 1).postAp 0x89 n (b2n ((s.modPort n (AudioPort.judging b)).blockOverrun n b) + at' 16 (b * 32))).app n P.AP_FADES
      = min (s.app n P.AP_FADES + 1) (2 ^ 32 - 1) := by
    rw [← happ]
    exact (State.post_getP _ _ _ _ _ _ _).trans (State.getP_setP_same u _ _ _)
  obtain ⟨hother, hpar, hev⟩ := hstep.trans hpe.portStep
  refine ⟨_, exec_next hexec (decide_eq_true hn) rfl hev.pending, ((hpe.1.port n).trans hp2).trans ?_, hother, hfades, hpar, hev⟩
  rw [hp1, hp, losing_missing]

end

end

/-! ### AUDIO_START (R382) -/

/-- The ports of the mask `m`. -/
def portsOf (m : Nat) : List Nat := (List.range 16).filter fun n => m.testBit n

theorem mem_portsOf {m k : Nat} : k ∈ portsOf m ↔ k < 16 ∧ m.testBit k = true := by rw [portsOf, List.mem_filter, List.mem_range]

/-- Some port of the mask has another rate than the first. -/
def State.ratesDiffer (s : State) (m : Nat) : Bool := (portsOf m).any fun n => s.app n P.AP_RATE != s.app ((portsOf m).headD 0) P.AP_RATE

/-- Some port of the mask cannot start. -/
def State.portUnusable (s : State) (m : Nat) : Bool := (portsOf m).any fun n => s.apState n == 0 || s.apState n == 5 || s.apState n == 6

/-- A common start in progress names a port of the mask. -/
def State.portStarting (s : State) (m : Nat) : Bool := s.au.starts.any fun a => a.mask &&& m != 0

/-- The tag of AUDIO_START is less than two master periods ahead. -/
abbrev State.startLate (s : State) (c : Cmd) : Prop :=
  c.f 16 1 = 0 ∧ ((c.f 32 32 + 2 ^ 32 - s.ring.tag) % 2 ^ 32 = 0 ∨ 2 ^ 31 ≤ (c.f 32 32 + 2 ^ 32 - s.ring.tag) % 2 ^ 32
    ∨ s.ring.next - s.now * 65536 + ((c.f 32 32 + 2 ^ 32 - s.ring.tag) % 2 ^ 32 - 1) * s.ring.period < 2 * s.ring.period)

/-- The common start that AUDIO_START asks for, to be answered at `tk`. -/
abbrev startOf (c : Cmd) (tk : Nat) : AudioStart := { mask := c.f 0 16, mode := c.f 16 1, tag := if c.f 16 1 = 0 then c.f 32 32 else 0, ticket := tk }

/-- The trigger is armed at `t` if the start waits for it and it is not. -/
def State.armedFor (c : Cmd) (t : Nat) (s : State) : State :=
  if c.f 16 1 = 1 ∧ s.getP P.TRIG_ARM 0 = 0 then State.setP { s with ring := { s.ring with armedAt := t } } P.TRIG_ARM 0 1 else s

/-- The common start `a` waits. -/
abbrev State.awaitingStart (a : AudioStart) (s : State) : State := { s with au := { s.au with starts := s.au.starts ++ [a] } }

theorem audioStartBody_eq (q : Call) (s : State) : audioStartBody q s =
    if q.c.f 0 16 = 0 ∨ s.ratesDiffer (q.c.f 0 16) then (s, .err cBAD_PARAM)
    else if s.portUnusable (q.c.f 0 16) then (s, .err cPORT_UNUSABLE)
    else if s.startLate q.c then (s, .err cLATE)
    else if s.portStarting (q.c.f 0 16) then (s, .err cBUSY)
    else ((s.awaitingStart (startOf q.c (if q.c.immediate then 0 else q.tk))).armedFor q.c s.now, if q.c.immediate then .ok else .wait) := rfl

theorem audioStartBody_late {q : Call} {s : State} (hr : ¬ (q.c.f 0 16 = 0 ∨ s.ratesDiffer (q.c.f 0 16) = true)) (hu : s.portUnusable (q.c.f 0 16) = false) (h : s.startLate q.c) :
    audioStartBody q s = (s, .err cLATE) := by rw [audioStartBody_eq, if_neg hr, if_neg (Bool.eq_false_iff.1 hu), if_pos h]

theorem audioStartBody_busy {q : Call} {s : State} (hr : ¬ (q.c.f 0 16 = 0 ∨ s.ratesDiffer (q.c.f 0 16) = true)) (hu : s.portUnusable (q.c.f 0 16) = false) (hl : ¬ s.startLate q.c)
    (h : s.portStarting (q.c.f 0 16) = true) : audioStartBody q s = (s, .err cBUSY) := by rw [audioStartBody_eq, if_neg hr, if_neg (Bool.eq_false_iff.1 hu), if_neg hl, if_pos h]

theorem audioStartBody_starts {q : Call} {s : State} (hr : ¬ (q.c.f 0 16 = 0 ∨ s.ratesDiffer (q.c.f 0 16) = true)) (hu : s.portUnusable (q.c.f 0 16) = false) (hl : ¬ s.startLate q.c)
    (h : s.portStarting (q.c.f 0 16) = false) :
    audioStartBody q s = ((s.awaitingStart (startOf q.c (if q.c.immediate then 0 else q.tk))).armedFor q.c s.now, if q.c.immediate then .ok else .wait) := by
  rw [audioStartBody_eq, if_neg hr, if_neg (Bool.eq_false_iff.1 hu), if_neg hl, if_neg (Bool.eq_false_iff.1 h)]

theorem ratesDiffer_of_pair {s : State} {m j k : Nat} (hj : j < 16) (hk : k < 16) (hmj : m.testBit j = true) (hmk : m.testBit k = true) (h : s.app j P.AP_RATE ≠ s.app k P.AP_RATE) :
    s.ratesDiffer m = true := by
  rw [State.ratesDiffer, List.any_eq_true]
  by_cases hh : s.app j P.AP_RATE = s.app ((portsOf m).headD 0) P.AP_RATE
  · exact ⟨k, mem_portsOf.2 ⟨hk, hmk⟩, bne_iff_ne.2 fun hkk => h (hh.trans hkk.symm)⟩
  · exact ⟨j, mem_portsOf.2 ⟨hj, hmj⟩, bne_iff_ne.2 hh⟩

theorem ratesDiffer_of_same {s : State} {m r : Nat} (h : ∀ k, k < 16 → m.testBit k = true → s.app k P.AP_RATE = r) : s.ratesDiffer m = false := by
  have hrate : ∀ k ∈ portsOf m, s.app k P.AP_RATE = r := fun k hk => h k (mem_portsOf.1 hk).1 (mem_portsOf.1 hk).2
  rw [State.ratesDiffer, List.any_eq_false]
  intro k hk
  obtain ⟨a, l, hl⟩ : ∃ a l, portsOf m = a :: l := List.exists_cons_of_ne_nil (List.ne_nil_of_mem hk)
  rw [hrate k hk, hl, List.headD_cons, hrate a (by rw [hl]; exact List.mem_cons_self)]
  simp

section
variable {c : Cmd} {s : State} (ha : s.accepts false 0x0901 c) (ho : c.operands 8 0xFFFE0000)
include ha ho

theorem audioStart_fails {code : Nat} (hc : code < 256)
    (h : ∀ ctl, audioStartBody { c := c, tk := s.newTicket, priv := s.privOf c } { s with ctl := ctl } = ({ s with ctl := ctl }, .err code)) :
    ∃ t, exec (.audioStart c) s = .next t ∧ Answered 0x0901 c code 0 0 t ∧ CommandOnly c s t := by
  refine completes_reading (i := .audioStart c) (spec := audioStartSpec) (body := audioStartBody) ha.1.1 ha (by simp [audioStartSpec, ho.1]) (by rw [ho.1]; exact ho.2) (fun _ => rfl) hc ?_
  obtain ⟨w, m, tk, f, he⟩ := entered_frame s audioStartSpec.op c
  rw [he]
  exact h _

theorem audioStart_badParam (h : c.f 0 16 = 0 ∨ s.ratesDiffer (c.f 0 16) = true) : ∃ t, exec (.audioStart c) s = .next t ∧ Answered 0x0901 c 4 0 0 t ∧ CommandOnly c s t :=
  audioStart_fails ha ho (by decide) fun _ => if_pos h

variable (h0 : c.f 0 16 ≠ 0) (hrate : s.ratesDiffer (c.f 0 16) = false)
include h0 hrate

omit ha ho in
theorem audioStart_rates : ¬ (c.f 0 16 = 0 ∨ s.ratesDiffer (c.f 0 16) = true) := fun h => h.elim h0 fun h => by rw [hrate] at h; cases h

theorem audioStart_unusable (h : s.portUnusable (c.f 0 16) = true) : ∃ t, exec (.audioStart c) s = .next t ∧ Answered 0x0901 c 0x68 0 0 t ∧ CommandOnly c s t :=
  audioStart_fails ha ho (by decide) fun _ => (if_neg (audioStart_rates h0 hrate)).trans (if_pos h)

variable (husable : s.portUnusable (c.f 0 16) = false)
include husable

theorem audioStart_late (h : s.startLate c) : ∃ t, exec (.audioStart c) s = .next t ∧ Answered 0x0901 c 0xC 0 0 t ∧ CommandOnly c s t :=
  audioStart_fails ha ho (by decide) fun ctl => audioStartBody_late (s := { s with ctl := ctl }) (audioStart_rates h0 hrate) husable h

variable (hlate : ¬ s.startLate c)
include hlate

theorem audioStart_busy (h : s.portStarting (c.f 0 16) = true) : ∃ t, exec (.audioStart c) s = .next t ∧ Answered 0x0901 c 2 0 0 t ∧ CommandOnly c s t :=
  audioStart_fails ha ho (by decide) fun ctl => audioStartBody_busy (s := { s with ctl := ctl }) (audioStart_rates h0 hrate) husable hlate h

variable (hfree : s.portStarting (c.f 0 16) = false)
include hfree

omit ha ho in
theorem audioStart_entered (tk : Nat) (priv : Bool) : audioStartBody { c := c, tk := tk, priv := priv } (s.entered 0x0901 c) =
    (((s.entered 0x0901 c).awaitingStart (startOf c (if c.immediate then 0 else tk))).armedFor c s.now, if c.immediate then .ok else .wait) := by
  obtain ⟨w, m, tk', f, he⟩ := entered_frame s 0x0901 c
  rw [he]
  exact audioStartBody_starts (s := { s with ctl := { s.ctl with wins := w, hostMem := m, ticket := tk', flights := f } }) (audioStart_rates h0 hrate) husable hlate hfree

omit ha ho h0 hrate husable hlate hfree in
theorem runs_starting (op : Nat) (tk : Nat) : Runs s op c { s.armedFor c s.now with au := { s.au with starts := s.au.starts ++ [startOf c tk] } }
    (((s.entered op c).awaitingStart (startOf c tk)).armedFor c s.now) := by
  obtain ⟨w, m, tk', f, he⟩ := entered_frame s op c
  unfold State.armedFor
  rw [show ((s.entered op c).awaitingStart (startOf c tk)).getP P.TRIG_ARM 0 = s.getP P.TRIG_ARM 0 by rw [← State.entered_getP s op c]; rfl]
  unfold Runs
  rw [he]
  split <;> exact ⟨rfl, rfl, rfl, rfl, rfl⟩

theorem audioStart_immediate (hi : c.immediate = true) : ∃ t, exec (.audioStart c) s = .next t ∧ Answered 0x0901 c 0 0 0 t
    ∧ CommandOnly c { s.armedFor c s.now with au := { s.au with starts := s.au.starts ++ [startOf c 0] } } t := by
  have hbody : audioStartBody { c := c, tk := s.newTicket, priv := s.privOf c } (s.entered 0x0901 c) = (((s.entered 0x0901 c).awaitingStart (startOf c 0)).armedFor c s.now, .ok) := by
    rw [audioStart_entered h0 hrate husable hlate hfree, hi]
    rfl
  refine Runs.completes (i := .audioStart c) (spec := audioStartSpec) (body := audioStartBody) ha.1.1 ha (by simp [audioStartSpec, ho.1])
    (by rw [ho.1]; exact ho.2) (fun _ => rfl) (congrArg Prod.snd hbody) (by decide) ((congrArg Prod.fst hbody) ▸ runs_starting 0x0901 0) ?_
  unfold State.armedFor
  split <;> rfl

theorem audioStart_waits (hi : c.immediate = false) : ∃ t, exec (.audioStart c) s = .next t
    ∧ Waits 0x0901 c { s.armedFor c s.now with au := { s.au with starts := s.au.starts ++ [startOf c s.newTicket] } } t := by
  have hbody : audioStartBody { c := c, tk := s.newTicket, priv := s.privOf c } (s.entered 0x0901 c) = (((s.entered 0x0901 c).awaitingStart (startOf c s.newTicket)).armedFor c s.now, .wait) := by
    rw [audioStart_entered h0 hrate husable hlate hfree, hi]
    rfl
  refine Runs.waits (i := .audioStart c) (spec := audioStartSpec) (body := audioStartBody) ha.1.1 ha (by simp [audioStartSpec, ho.1])
    (by rw [ho.1]; exact ho.2) (fun _ => rfl) hbody (runs_starting 0x0901 s.newTicket) ?_ ?_
  · unfold State.armedFor
    split <;> rfl
  · unfold State.armedFor
    split <;> rfl

end

/-! ### AUDIO_STATUS (R392) -/

theorem audioStatusBody_eq (q : Call) (s : State) : audioStatusBody q s =
    if 16 ≤ q.c.f 0 8 then (s, .err cBAD_PARAM)
    else (s, .done cOK 40 (s.apState (q.c.f 0 8) + at' 8 (s.app (q.c.f 0 8) P.AP_GROUP) + at' 16 (((s.port (q.c.f 0 8)).group.bind fun g => s.reference g).getD 255)
      + at' 24 (s.envelopeCode (q.c.f 0 8)) + at' 32 (s.port (q.c.f 0 8)).boundaryTag + at' 64 ((s.port (q.c.f 0 8)).boundary.getD 0) + at' 128 (s.app (q.c.f 0 8) P.AP_POSITION)
      + at' 192 (s.app (q.c.f 0 8) P.AP_POS_TIME) + at' 256 (s.app (q.c.f 0 8) P.AP_RATE_ERR))) := rfl

section
variable {c : Cmd} {s : State} (ha : s.accepts false 0x0902 c) (ho : c.operands 1 0)
include ha ho

theorem audioStatus_badParam (h : 16 ≤ c.f 0 8) : ∃ t, exec (.audioStatus c) s = .next t ∧ Answered 0x0902 c 4 0 0 t ∧ CommandOnly c s t :=
  completes_reading (i := .audioStatus c) (spec := audioStatusSpec) (body := audioStatusBody) ha.1.1 ha (by simp [audioStatusSpec, OpSpec.fixed, ho.1]) (by rw [ho.1]; exact ho.2)
    (fun _ => rfl) (by decide) (by rw [audioStatusBody_eq]; exact if_pos h)

theorem audioStatus_reads (h : c.f 0 8 < 16) : ∃ t, exec (.audioStatus c) s = .next t
    ∧ Answered 0x0902 c 0 40 (s.apState (c.f 0 8) + at' 8 (s.app (c.f 0 8) P.AP_GROUP) + at' 16 (((s.port (c.f 0 8)).group.bind fun g => s.reference g).getD 255)
      + at' 24 (s.envelopeCode (c.f 0 8)) + at' 32 (s.port (c.f 0 8)).boundaryTag + at' 64 ((s.port (c.f 0 8)).boundary.getD 0) + at' 128 (s.app (c.f 0 8) P.AP_POSITION)
      + at' 192 (s.app (c.f 0 8) P.AP_POS_TIME) + at' 256 (s.app (c.f 0 8) P.AP_RATE_ERR)) t ∧ CommandOnly c s t := by
  refine completes_reading (i := .audioStatus c) (spec := audioStatusSpec) (body := audioStatusBody) ha.1.1 ha (by simp [audioStatusSpec, OpSpec.fixed, ho.1]) (by rw [ho.1]; exact ho.2)
    (fun _ => rfl) (by decide) ?_
  obtain ⟨w, m, tk, f, he⟩ := entered_frame s audioStatusSpec.op c
  rw [audioStatusBody_eq, he]
  exact if_neg (Nat.not_le.2 h)

end

end Sys2Proof.Machine
end

section
/-! Audio ports: frames by FS edge and by flywheel (R379 to R386), and all that AUDIO commands do. -/

namespace Sys2Proof.Machine

/-! ### A frame leaves -/

theorem outSample_unplaced {n : Nat} {s : State} (h : (s.port n).pos = none) (k : Nat) : s.outSample n k = 0 ∨ s.outSample n k = 0x1000000 := by
  unfold State.outSample
  dsimp only
  rw [h]
  dsimp only
  split
  · exact .inl rfl
  · split
    · exact .inr rfl
    · exact .inl rfl

theorem sendFrame_unplaced {n : Nat} {s : State} (h : (s.port n).pos = none) : ∃ m, s.sendFrame n = s.emit (.audio n m)
    ∧ m.length = audioSlots (s.app n P.AP_RATE) ∧ ∀ v ∈ m, v = 0 ∨ v = 0x1000000 := by
  unfold State.sendFrame
  dsimp only
  rw [h]
  refine ⟨_, rfl, by rw [List.length_map, List.length_range], fun v hv => ?_⟩
  obtain ⟨k, -, rfl⟩ := List.mem_map.1 hv
  exact outSample_unplaced h k

theorem sendFrame_placed {n q : Nat} {s : State} (h : (s.port n).pos = some q) : ∃ (m : List Nat) (f : List OutSlot → List OutSlot), s.sendFrame n = (s.modPort n fun y => { y with out := f y.out }).emit (.audio n m)
    ∧ m.length = audioSlots (s.app n P.AP_RATE) := by
  unfold State.sendFrame
  dsimp only
  rw [h]
  exact ⟨_, fun _ => _, rfl, by rw [List.length_map, List.length_range]⟩

/-- The port has begun a frame at `t`. -/
abbrev AudioPort.timed (t : Nat) (y : AudioPort) : AudioPort := { y with posTime := t }

/-- A port that is not placed by the frame only notes its time. -/
theorem audioFrame_silent {n t reason : Nat} {edge overrun : Bool} {l : List Nat} {s : State}
    (h : s.apState n ≠ 3 ∧ s.apState n ≠ 4 ∨ (s.port n).group = none ∧ (s.port n).zero = false) :
    s.audioFrame n t edge reason l overrun = (s.modPort n (AudioPort.timed t)).sendFrame n := by
  by_cases hc : (s.apState n ≠ 3 ∧ s.apState n ≠ 4) ∨ s.captureHeld = true ∨ (s.port n).zero = true ∧ (!edge) = true
  · exact if_pos hc
  · obtain ⟨hgroup, hzero⟩ := h.resolve_left fun h => hc (.inl h)
    have hpos : s.positionAt n t = none := by
      unfold State.positionAt
      dsimp only
      rw [hzero, hgroup]
      rfl
    refine (if_neg hc).trans ?_
    rw [hpos]

theorem reference_congr {s t : State} (hport : ∀ k, (t.port k).group = (s.port k).group ∧ (t.port k).pos.isSome = (s.port k).pos.isSome) (hst : ∀ k, t.apState k = s.apState k) (g : Nat) :
    t.reference g = s.reference g := by
  simp only [State.reference, State.groupPorts, hst, fun k => (hport k).1, fun k => (hport k).2]

/-- The reference port `n` of group `g` at position `p` since `t`. -/
def State.placedAt (n g p t : Nat) (s : State) : State :=
  { (State.setP (State.setP (s.modPort n fun y => { y with pos := some p, posTime := t, zero := false }) (P.ap n P.AP_POSITION) 0 p) (P.ap n P.AP_POS_TIME) 0 t) with
    au := { s.au with
      ports := (s.modPort n fun y => { y with pos := some p, posTime := t, zero := false }).au.ports
      lastPos := SMap.set (fun _ => (0, 0)) s.au.lastPos g (p, t) } }

theorem posKeys_ne (n : Nat) : pkey (P.ap n P.AP_POSITION) 0 ≠ pkey (P.ap n P.AP_POS_TIME) 0 := by
  simp only [pkey, P.ap, P.AP_POSITION, P.AP_POS_TIME]
  omega

theorem placedAt_effect (n g p t : Nat) (s : State) : SameParams [pkey (P.ap n P.AP_POSITION) 0, pkey (P.ap n P.AP_POS_TIME) 0] s (s.placedAt n g p t)
    ∧ (s.placedAt n g p t).app n P.AP_POSITION = p ∧ (s.placedAt n g p t).app n P.AP_POS_TIME = t ∧ SMap.get (fun _ => (0, 0)) (s.placedAt n g p t).au.lastPos g = (p, t)
    ∧ s.placedAt n g p t = { s with
        params := (s.placedAt n g p t).params, au := { s.au with ports := (s.placedAt n g p t).au.ports, lastPos := (s.placedAt n g p t).au.lastPos } } := by
  refine ⟨?_, ?_, ?_, SMap.get_set_same _ _ _ _, rfl⟩
  · intro k hk
    simp only [List.mem_cons, List.not_mem_nil, or_false, not_or] at hk
    exact (SMap.get_set_other pdef _ hk.2 _).trans (SMap.get_set_other pdef _ hk.1 _)
  · exact (SMap.get_set_other pdef _ (posKeys_ne n) _).trans (SMap.get_set_same pdef _ _ _)
  · exact SMap.get_set_same pdef _ _ _

section
variable {n g p : Nat} {s : State} (href : s.reference g = some n) (hpos : (s.port n).pos = some p)
include href hpos

theorem reference_placed (p' t : Nat) :
    (State.setP (State.setP (s.modPort n fun y => { y with pos := some p', posTime := t, zero := false }) (P.ap n P.AP_POSITION) 0 p') (P.ap n P.AP_POS_TIME) 0 t).reference g = some n := by
  refine (reference_congr (s := s) (fun k => ?_) (fun k => ?_) g).trans href
  · rw [port_setP, port_setP, port_modPort]
    split
    · next hk => subst hk; rw [hpos]; exact ⟨rfl, rfl⟩
    · exact ⟨rfl, rfl⟩
  · rw [State.apState, State.app, State.getP_setP, if_neg (by simp only [pkey, P.ap, P.AP_STATE, P.AP_POS_TIME]; omega), State.getP_setP,
      if_neg (by simp only [pkey, P.ap, P.AP_STATE, P.AP_POSITION]; omega)]
    rfl

variable (hg : (s.port n).group = some g) (hzero : (s.port n).zero = false)
include hg hzero

theorem positionAt_reference (t : Nat) : s.positionAt n t = some (p + 1, none) := by
  unfold State.positionAt
  dsimp only
  rw [hzero, hg]
  dsimp only
  rw [href, hpos]
  simp

theorem audioFrame_follows {t reason : Nat} {l : List Nat} (h4 : s.apState n = 4) (hheld : s.captureHeld = false) :
    s.audioFrame n t true reason l false = (State.writeFrame n (p + 1) l false false (s.placedAt n g (p + 1) t)).sendFrame n := by
  refine (if_neg (by rw [hheld, hzero]; simp [h4])).trans ?_
  rw [positionAt_reference href hpos hg hzero]
  dsimp -zeta only
  extract_lets first repeated s1 s2 s3 s4 s5 au s6
  have hfirst : first = false := by simp only [first, hpos, hzero]; rfl
  have hrep : repeated = false := by simp [repeated, hpos]
  have h1 : s1 = s.modPort n fun y => { y with pos := some (p + 1), posTime := t, zero := false } := by simp only [s1, hfirst]; rfl
  have h5 : s5 = (s1.setP (P.ap n P.AP_POSITION) 0 (p + 1)).setP (P.ap n P.AP_POS_TIME) 0 t :=
    (if_neg (by rw [hfirst]; exact Bool.false_ne_true)).trans ((if_pos h4).trans (if_pos rfl))
  have hgroup : (s5.port n).group = some g := by
    rw [h5, port_setP, port_setP, h1, port_modPort_same]
    exact hg
  have h6 : s6 = s.placedAt n g (p + 1) t := by
    simp only [s6, au, hgroup]
    rw [h5, h1, if_pos (reference_placed href hpos (p + 1) t)]
    rfl
  rw [hrep, h6]

end

theorem writeFrame_writes {n p a : Nat} {l : List Nat} {s : State} (h : (s.port n).line = some a) : ∃ f : AudioPort → AudioPort,
    s.writeFrame n p l false false = (s.devWrite (s.sampleAddr n a p 0) ((List.range (audioSlots (s.app n P.AP_RATE))).flatMap fun k => leBytes (l.getD k 0) 3) 32).modPort n f
    ∧ ∀ y, f y = { y with overrun := (f y).overrun, written := (f y).written } := by
  unfold State.writeFrame
  dsimp only
  rw [h]
  exact ⟨fun y => { y with overrun := _, written := _ }, rfl, fun _ => rfl⟩

/-! ### FS_EDGE (R379) -/

theorem fsEdge_exec (n t b : Nat) (l : List Nat) (o : Bool) (s : State) :
    exec (.fsEdge n t b l o) s = guarded (.fsEdge n t b l o) s (s.fsEdge n t b l o fun x => x.applyReached (.tdm n)) := rfl

section
variable {n t b : Nat} {l : List Nat} {o : Bool} {f : State → State} {s : State}

theorem fsEdge_first (hst : s.apState n = 2) (he : (s.port n).edges = 0) :
    s.fsEdge n t b l o f = (s.atLeast t).modPort n fun y => { y with edges := 1, bclk := b, posTime := t } :=
  (if_pos hst).trans (if_pos he)

theorem fsEdge_ignored (hst : s.apState n = 2 ∧ (s.port n).edges ≠ 0 ∨ 3 ≤ s.apState n ∧ s.apState n ≤ 5) (hb : b ≠ (s.port n).bclk + audioFrameBits (s.app n P.AP_RATE)) :
    s.fsEdge n t b l o f = (s.atLeast t).bumpSat (P.ap n P.AP_FRAMING_ERRORS) 0 1 := by
  obtain ⟨hst, he⟩ | h := hst
  · exact (if_pos hst).trans ((if_neg he).trans (if_pos hb))
  · exact (if_neg (by omega)).trans ((if_pos (by omega)).trans (if_pos hb))

/-- The edge accepted while syncing has been counted. -/
abbrev AudioPort.counted (t b : Nat) (y : AudioPort) : AudioPort := { y with edges := y.edges + 1, bclk := b, posTime := t, missed := 0 }

abbrev State.edgeCounted (n t b : Nat) (s : State) : State := (s.atLeast t).modPort n (AudioPort.counted t b)

variable (hb : b = (s.port n).bclk + audioFrameBits (s.app n P.AP_RATE))
include hb

theorem fsEdge_second (hst : s.apState n = 2) (he : (s.port n).edges = 1) : s.fsEdge n t b l o f = s.edgeCounted n t b :=
  (if_pos hst).trans ((if_neg (by omega)).trans ((if_neg (not_not_intro hb)).trans (if_pos (by omega))))

theorem fsEdge_third (hst : s.apState n = 2) (he : (s.port n).edges = 2) {u : State} (hu : f (s.edgeCounted n t b) = u) (h2 : u.apState n = 2) (h3 : (u.port n).edges = 3)
    (hgroup : (u.port n).group = none) : s.fsEdge n t b l o f = (u.setApState n 3 3).audioFrame n t true 3 l o := by
  subst hu
  refine (if_pos hst).trans ((if_neg (by omega)).trans ((if_neg (not_not_intro hb)).trans ((if_neg (by omega)).trans ((if_neg ?_).trans (if_pos (.inl ?_))))))
  · exact fun h => h.elim (fun h => h h2) fun h => by rw [h3] at h; omega
  · rw [hgroup]
    rfl

theorem fsEdge_running (hst : s.apState n = 4) {u : State} (hu : f ((s.atLeast t).modPort n fun y => { y with bclk := b, missed := 0 }) = u) (h4 : u.apState n = 4) :
    s.fsEdge n t b l o f = u.audioFrame n t true 3 l o := by
  subst hu
  exact (if_neg (by omega)).trans ((if_pos (by omega)).trans ((if_neg (not_not_intro hb)).trans (if_pos (h4.trans hst.symm))))

end

section
variable {n t b : Nat} {l : List Nat} {o : Bool} {x : AudioPort} {s : State} (hn : n < 16) (hx : s.port n = x)
include hn

theorem exec_fsEdge {u : State} (hu : (s.fsEdge n t b l o fun x => x.applyReached (.tdm n)) = u) (hp : u.pending = s.pending) : exec (.fsEdge n t b l o) s = .next u :=
  exec_next (fsEdge_exec n t b l o s) (decide_eq_true hn) hu hp

theorem fsEdge_idle (h : s.apState n < 2 ∨ 5 < s.apState n) : exec (.fsEdge n t b l o) s = .next { s with now := max s.now t } :=
  exec_fsEdge hn ((if_neg (by omega)).trans (if_neg (by omega))) rfl

include hx

theorem fsEdge_begins (hst : s.apState n = 2) (he : x.edges = 0) : ∃ u, exec (.fsEdge n t b l o) s = .next u ∧ u.port n = { x with edges := 1, bclk := b, posTime := t }
    ∧ (∀ k, k ≠ n → u.port k = s.port k) ∧ u = { s with now := max s.now t, au := { s.au with ports := u.au.ports } } := by
  subst hx
  exact ⟨_, exec_fsEdge hn (fsEdge_first hst he) rfl, port_modPort_same n _ (s.atLeast t), fun _ hk => port_modPort_other hk _ _, rfl⟩

theorem fsEdge_counted (hst : s.apState n = 2 ∧ x.edges ≠ 0 ∨ 3 ≤ s.apState n ∧ s.apState n ≤ 5) (hb : b ≠ x.bclk + audioFrameBits (s.app n P.AP_RATE)) :
    ∃ u, exec (.fsEdge n t b l o) s = .next u ∧ u.app n P.AP_FRAMING_ERRORS = min (s.app n P.AP_FRAMING_ERRORS + 1) (2 ^ 32 - 1)
      ∧ SameParams [pkey (P.ap n P.AP_FRAMING_ERRORS) 0] s u ∧ u = { s with now := max s.now t, params := u.params } := by
  subst hx
  exact ⟨_, exec_fsEdge hn (fsEdge_ignored hst hb) rfl, State.getP_setP_same (s.atLeast t) _ _ _, sameParams_setP (s := s.atLeast t) List.mem_cons_self _, rfl⟩

variable (hb : b = x.bclk + audioFrameBits (s.app n P.AP_RATE))
include hb

theorem fsEdge_repeated (hst : s.apState n = 2) (he : x.edges = 1) : ∃ u, exec (.fsEdge n t b l o) s = .next u
    ∧ u.port n = { x with edges := 2, bclk := b, posTime := t, missed := 0 } ∧ (∀ k, k ≠ n → u.port k = s.port k)
    ∧ u = { s with now := max s.now t, au := { s.au with ports := u.au.ports } } := by
  subst hx
  exact ⟨_, exec_fsEdge hn (fsEdge_second hb hst he) rfl, (port_modPort_same n _ (s.atLeast t)).trans (show (s.port n).counted t b = _ by rw [AudioPort.counted, he]),
    fun _ hk => port_modPort_other hk _ _, rfl⟩

theorem fsEdge_frames (hst : s.apState n = 2) (he : x.edges = 2) (hstaged : s.ctl.staged = []) (hgroup : x.group = none) (hzero : x.zero = false) (hpos : x.pos = none) :
    ∃ u m, exec (.fsEdge n t b l o) s = .next u ∧ u.apState n = 3 ∧ u.port n = { x with edges := 3, bclk := b, posTime := t, missed := 0 } ∧ (∀ k, k ≠ n → u.port k = s.port k)
      ∧ u.sent = .audio n m :: s.sent ∧ m.length = audioSlots (s.app n P.AP_RATE) ∧ (∀ v ∈ m, v = 0 ∨ v = 0x1000000) ∧ SameParams [pkey (P.ap n P.AP_STATE) 0] s u
      ∧ EventsOnly { s with
          now := max s.now t, params := u.params, sent := u.sent, au := { s.au with ports := u.au.ports }
          ctl := { s.ctl with reached := u.ctl.reached, reachedAt := u.ctl.reachedAt } } u := by
  subst hx
  obtain ⟨r, hr⟩ : ∃ r, r = (s.edgeCounted n t b).reach (.tdm n) := ⟨_, rfl⟩
  have hrport : r.port n = { s.port n with edges := 3, bclk := b, posTime := t, missed := 0 } := by
    rw [hr]
    exact (port_modPort_same n (AudioPort.counted t b) (s.atLeast t)).trans (show (s.port n).counted t b = _ by rw [AudioPort.counted, he])
  have hrother : ∀ k, k ≠ n → r.port k = s.port k := fun k hk => by
    rw [hr]
    exact port_modPort_other hk (AudioPort.counted t b) (s.atLeast t)
  have hedge : s.fsEdge n t b l o (fun x => x.applyReached (.tdm n)) = (r.setApState n 3 3).audioFrame n t true 3 l o :=
    fsEdge_third hb hst he ((applyReached_unstaged (s := s.edgeCounted n t b) hstaged _).trans hr.symm) (by rw [hr]; exact hst) (by rw [hrport]) (by rw [hrport]; exact hgroup)
  obtain ⟨⟨hev, hpar⟩, hnew⟩ := setApState_effect n 3 3 r
  generalize r.setApState n 3 3 = v at hedge hev hpar hnew
  have hvport : v.port n = { s.port n with edges := 3, bclk := b, posTime := t, missed := 0 } := (hev.port n).trans hrport
  rw [audioFrame_silent (.inr (by rw [hvport]; exact ⟨hgroup, hzero⟩))] at hedge
  have hwport : (v.modPort n (AudioPort.timed t)).port n = { s.port n with edges := 3, bclk := b, posTime := t, missed := 0 } :=
    (port_modPort_same n _ v).trans (by rw [hvport])
  obtain ⟨m, hsend, hlen, hmem⟩ := sendFrame_unplaced (s := v.modPort n (AudioPort.timed t)) (n := n) (by rw [hwport]; exact hpos)
  rw [hsend] at hedge
  have hrate : v.app n P.AP_RATE = s.app n P.AP_RATE := (hpar.getP (by simp only [List.mem_singleton, pkey, P.ap, P.AP_STATE, P.AP_RATE]; omega)).trans (by rw [hr]; rfl)
  obtain ⟨hsent, hau, hreached, hreachedAt⟩ : v.sent = s.sent ∧ v.au = { s.au with ports := v.au.ports } ∧ v.ctl.reached = r.ctl.reached ∧ v.ctl.reachedAt = r.ctl.reachedAt := by
    obtain ⟨⟨_, _, _, _, h⟩, -⟩ := hev
    rw [h, hr]
    exact ⟨rfl, rfl, rfl, rfl⟩
  refine ⟨_, m, exec_fsEdge hn hedge ?_, hnew, hwport, fun k hk => (port_modPort_other hk (AudioPort.timed t) v).trans ((hev.port k).trans (hrother k hk)), ?_, ?_, hmem, ?_, ?_⟩
  · exact hev.pending.trans (by rw [hr]; rfl)
  · exact congrArg _ hsent
  · exact hlen.trans (congrArg _ hrate)
  · exact fun k hk => (hpar k hk).trans (by rw [hr]; rfl)
  · have hF := hev.lift (fun z => { z with sent := .audio n m :: v.sent, au := { s.au with ports := (v.modPort n (AudioPort.timed t)).au.ports } }) (fun _ _ _ _ _ => rfl) fun _ => rfl
    have hu : (v.modPort n (AudioPort.timed t)).emit (.audio n m) = { v with
        sent := .audio n m :: v.sent, au := { s.au with ports := (v.modPort n (AudioPort.timed t)).au.ports } } := by
      rw [State.emit, State.modPort]
      dsimp only
      rw [hau]
    rw [hu]
    refine (congrArg (EventsOnly · _) ?_).mp hF
    dsimp only
    rw [hreached, hreachedAt, hr]
    rfl

omit hb in
/-- The record that an accepted edge leaves. -/
abbrev AudioPort.edged (b : Nat) (y : AudioPort) : AudioPort := { y with bclk := b, missed := 0 }

theorem fsEdge_positions {g p a : Nat} (hst : s.apState n = 4) (hstaged : s.ctl.staged = []) (hheld : s.captureHeld = false) (hzero : x.zero = false) (hgroup : x.group = some g)
    (href : s.reference g = some n) (hpos : x.pos = some p) (hline : x.line = some a) (ho : o = false) (hflaws : s.dram.flaws = []) :
    ∃ u m, exec (.fsEdge n t b l o) s = .next u ∧ (u.port n).pos = some (p + 1) ∧ (u.port n).posTime = t ∧ (u.port n).bclk = b
        ∧ (u.port n).missed = 0 ∧ (u.port n).group = some g ∧ (u.port n).line = some a ∧ (∀ k, k ≠ n → u.port k = s.port k)
        ∧ u.app n P.AP_POSITION = p + 1 ∧ u.app n P.AP_POS_TIME = t ∧ SameParams [pkey (P.ap n P.AP_POSITION) 0, pkey (P.ap n P.AP_POS_TIME) 0] s u
        ∧ SMap.get (fun _ => (0, 0)) u.au.lastPos g = (p + 1, t) ∧ u.sent = .audio n m :: s.sent ∧ m.length = audioSlots (s.app n P.AP_RATE)
        ∧ u.devRead (s.sampleAddr n a (p + 1) 0) (3 * audioSlots (s.app n P.AP_RATE))
          = ((List.range (audioSlots (s.app n P.AP_RATE))).flatMap fun k => leBytes (l.getD k 0) 3)
        ∧ (∀ q, (q < s.sampleAddr n a (p + 1) 0 ∨ s.sampleAddr n a (p + 1) 0 + 3 * audioSlots (s.app n P.AP_RATE) ≤ q) → u.devByte q = s.devByte q)
        ∧ u = { s with
            now := max s.now t, params := u.params, sent := u.sent, au := { s.au with ports := u.au.ports, lastPos := u.au.lastPos }
            dram := { s.dram with bytes := u.dram.bytes, poison := u.dram.poison }
            ctl := { s.ctl with reached := u.ctl.reached, reachedAt := u.ctl.reachedAt } } := by
  subst hx ho
  obtain ⟨r, hr⟩ : ∃ r, r = ((s.atLeast t).modPort n (AudioPort.edged b)).reach (.tdm n) := ⟨_, rfl⟩
  have hrport : r.port n = (s.port n).edged b := by
    rw [hr]
    exact port_modPort_same n (AudioPort.edged b) (s.atLeast t)
  have hrother : ∀ k, k ≠ n → r.port k = s.port k := fun k hk => by
    rw [hr]
    exact port_modPort_other hk (AudioPort.edged b) (s.atLeast t)
  have hr4 : r.apState n = 4 := by rw [hr]; exact hst
  have hedge : s.fsEdge n t b l false (fun x => x.applyReached (.tdm n)) = r.audioFrame n t true 3 l false :=
    fsEdge_running hb hst ((applyReached_unstaged (s := (s.atLeast t).modPort n (AudioPort.edged b)) hstaged _).trans hr.symm) hr4
  have hrref : r.reference g = some n := by
    refine (reference_congr (s := s) (fun k => ?_) (fun k => by rw [hr]; rfl) g).trans href
    by_cases hk : k = n
    · subst hk; rw [hrport]; exact ⟨rfl, rfl⟩
    · rw [hrother k hk]; exact ⟨rfl, rfl⟩
  have hrrate : r.app n P.AP_RATE = s.app n P.AP_RATE := by rw [hr]; rfl
  have hraddr : ∀ q, r.sampleAddr n a q 0 = s.sampleAddr n a q 0 := fun q => by rw [State.sampleAddr, State.sampleAddr, hrrate]
  rw [audioFrame_follows hrref (by rw [hrport]; exact hpos) (by rw [hrport]; exact hgroup) (by rw [hrport]; exact hzero) hr4 (by rw [hr]; exact hheld)] at hedge
  have hp1 : (r.placedAt n g (p + 1) t).port n = { (s.port n).edged b with pos := some (p + 1), posTime := t, zero := false } := by
    refine (port_modPort_same n (fun y => { y with pos := some (p + 1), posTime := t, zero := false }) r).trans ?_
    rw [hrport]
  have hother1 : ∀ k, k ≠ n → (r.placedAt n g (p + 1) t).port k = s.port k := fun k hk =>
    (port_modPort_other hk (fun y => { y with pos := some (p + 1), posTime := t, zero := false }) r).trans (hrother k hk)
  obtain ⟨hpar, hposn, htime, hlast, hframe⟩ := placedAt_effect n g (p + 1) t r
  generalize r.placedAt n g (p + 1) t = w at hedge hp1 hother1 hpar hposn htime hlast hframe
  obtain ⟨f, hwrite, hf⟩ := writeFrame_writes (l := l) (p := p + 1) (s := w) (n := n) (a := a) (by rw [hp1]; exact hline)
  have hwrate : w.app n P.AP_RATE = s.app n P.AP_RATE := (hpar.getP (by simp only [List.mem_cons, List.not_mem_nil, or_false, pkey, P.ap, P.AP_POSITION, P.AP_POS_TIME, P.AP_RATE]; omega)).trans hrrate
  have hwaddr : w.sampleAddr n a (p + 1) 0 = s.sampleAddr n a (p + 1) 0 := by rw [State.sampleAddr, State.sampleAddr, hwrate]
  have hwflaws : w.dram.flaws = [] := by rw [hframe, hr]; exact hflaws
  rw [hwrite, devWrite_flawless hwflaws, hwaddr, hwrate] at hedge
  obtain ⟨bytes, hbytes⟩ : ∃ y, ((List.range (audioSlots (s.app n P.AP_RATE))).flatMap fun k => leBytes (l.getD k 0) 3) = y := ⟨_, rfl⟩
  have hblen : bytes.length = 3 * audioSlots (s.app n P.AP_RATE) := by
    rw [← hbytes, List.length_flatMap]
    simp [Nat.mul_comm]
  rw [hbytes] at hedge ⊢
  generalize (w.unpoison (s.sampleAddr n a (p + 1) 0) bytes.length 32).dram.poison = poison at hedge
  generalize s.sampleAddr n a (p + 1) 0 = addr at hedge ⊢
  obtain ⟨v, hv⟩ : ∃ v, v = (w.remembering { w.dram with poison := poison, bytes := putBytes zeroByte w.dram.bytes addr bytes }).modPort n f := ⟨_, rfl⟩
  rw [← hv] at hedge
  have hvport : v.port n = f (w.port n) := by
    rw [hv]
    exact port_modPort_same n f (w.remembering _)
  obtain ⟨m, turn, hsend, hlen⟩ := sendFrame_placed (n := n) (q := p + 1) (s := v) (by rw [hvport, hf, hp1])
  rw [hsend] at hedge
  have hvother : ∀ k, k ≠ n → v.port k = s.port k := fun k hk => by
    rw [hv]
    exact (port_modPort_other hk f (w.remembering _)).trans (hother1 k hk)
  have hvsent : v.sent = s.sent := by rw [hv, State.modPort, State.remembering, hframe, hr]; rfl
  have hvpar : v.params = w.params := by rw [hv]; rfl
  have hvlast : v.au.lastPos = w.au.lastPos := by rw [hv]; rfl
  have hvbytes : v.dram.bytes = putBytes zeroByte s.dram.bytes addr bytes := by rw [hv, State.modPort, State.remembering, hframe, hr]; rfl
  have hvframe : v = { s with
      now := max s.now t, params := v.params, au := { s.au with ports := v.au.ports, lastPos := v.au.lastPos }
      dram := { s.dram with bytes := v.dram.bytes, poison := v.dram.poison }
      ctl := { s.ctl with reached := v.ctl.reached, reachedAt := v.ctl.reachedAt } } := by
    rw [hv, State.modPort, State.remembering, hframe, hr]
    rfl
  obtain ⟨u, hu⟩ : ∃ u, u = (v.modPort n fun y => { y with out := turn y.out }).emit (.audio n m) := ⟨_, rfl⟩
  rw [← hu] at hedge
  have huport : u.port n = { f (w.port n) with out := turn (f (w.port n)).out } := by
    rw [hu, ← hvport]
    exact port_modPort_same n (fun y => { y with out := turn y.out }) v
  rw [hf, hp1] at huport
  have hupar : u.params = w.params := by rw [hu, ← hvpar]; rfl
  have hub : u.dram.bytes = putBytes zeroByte s.dram.bytes addr bytes := by rw [hu, ← hvbytes]; rfl
  refine ⟨u, m, exec_fsEdge hn hedge (by rw [hu]; exact show v.pending = s.pending by rw [hvframe]), by rw [huport], by rw [huport], by rw [huport], by rw [huport], by rw [huport]; exact hgroup, by rw [huport]; exact hline, fun k hk => ?_, ?_, ?_, fun k hk => ?_, ?_, ?_, ?_, ?_, fun q hq => ?_, ?_⟩
  · rw [hu]
    exact (port_modPort_other hk (fun y => { y with out := turn y.out }) v).trans (hvother k hk)
  · rw [State.app, State.getP, hupar]
    exact hposn
  · rw [State.app, State.getP, hupar]
    exact htime
  · rw [hupar]
    exact (hpar k hk).trans (by rw [hr]; rfl)
  · rw [hu, ← hlast, ← hvlast]
    rfl
  · rw [hu, ← hvsent]
    rfl
  · rw [hlen, State.app, State.getP, hvpar]
    exact congrArg _ hwrate
  · rw [State.devRead, hub, ← hblen]
    exact takeBytes_putBytes _ _ _ _
  · rw [State.devByte, hub]
    exact get_putBytes_other (by rw [hblen]; exact hq)
  · rw [hu, State.emit, State.modPort, hvframe]

end

/-! ### FS_FLYWHEEL (R379) -/

/-- The record of a port whose expected edge is missing. -/
abbrev AudioPort.flown (bits : Nat) (y : AudioPort) : AudioPort := { y with bclk := y.bclk + bits, missed := y.missed + 1 }

/-- The record of a port that returns to SYNCING. -/
abbrev AudioPort.unframed (y : AudioPort) : AudioPort := { y.unplaced with edges := 0, missed := 0 }

/-- A frame by flywheel begins. -/
abbrev State.flown (n t : Nat) (l : List Nat) (s : State) : State :=
  ((s.atLeast t).modPort n (AudioPort.flown (audioFrameBits (s.app n P.AP_RATE)))).audioFrame n t false 3 l false

theorem fsFlywheel_exec (n : Nat) (l : List Nat) (s : State) : exec (.fsFlywheel n l) s = guarded (.fsFlywheel n l) s
    (if s.apState n = 2 then s.modPort n fun y => { y with edges := 0 }
    else if s.apState n ≠ 3 ∧ s.apState n ≠ 4 ∧ s.apState n ≠ 5 then s
    else if 8 ≤ (s.port n).missed + 1 then
      (State.modPort n AudioPort.unframed (s.flown n ((s.port n).posTime + rdivN 1000000000 (s.apHz n)) l)).setApState n 2 3
    else s.flown n ((s.port n).posTime + rdivN 1000000000 (s.apHz n)) l) := rfl

section
variable {n : Nat} {l : List Nat} {x : AudioPort} {s : State} (hn : n < 16) (hx : s.port n = x)
include hn

theorem fsFlywheel_idle (h : s.apState n < 2 ∨ 5 < s.apState n) : exec (.fsFlywheel n l) s = .next s :=
  exec_next (fsFlywheel_exec n l s) (decide_eq_true hn) ((if_neg (by omega)).trans (if_pos (by omega))) rfl

include hx

theorem fsFlywheel_syncing (h : s.apState n = 2) : ∃ u, exec (.fsFlywheel n l) s = .next u ∧ u.port n = { x with edges := 0 } ∧ (∀ k, k ≠ n → u.port k = s.port k)
    ∧ u = { s with au := { s.au with ports := u.au.ports } } := by
  subst hx
  exact ⟨_, exec_next (fsFlywheel_exec n l s) (decide_eq_true hn) (if_pos h) rfl, port_modPort_same n _ s, fun _ hk => port_modPort_other hk _ s, rfl⟩

variable (hst : s.apState n = 5 ∨ s.apState n = 3 ∧ x.group = none ∧ x.zero = false) (hpos : x.pos = none)
include hst hpos

omit hn in
theorem flown_effect (t : Nat) : ∃ u m, s.flown n t l = u ∧ u.port n = { x with bclk := x.bclk + audioFrameBits (s.app n P.AP_RATE), missed := x.missed + 1, posTime := t }
    ∧ (∀ k, k ≠ n → u.port k = s.port k) ∧ u.sent = .audio n m :: s.sent ∧ m.length = audioSlots (s.app n P.AP_RATE) ∧ (∀ v ∈ m, v = 0 ∨ v = 0x1000000)
    ∧ u = { s with now := max s.now t, sent := u.sent, au := { s.au with ports := u.au.ports } } := by
  subst hx
  obtain ⟨r, hr⟩ : ∃ r, r = (s.atLeast t).modPort n (AudioPort.flown (audioFrameBits (s.app n P.AP_RATE))) := ⟨_, rfl⟩
  have hrport : r.port n = (s.port n).flown (audioFrameBits (s.app n P.AP_RATE)) := by
    rw [hr]
    exact port_modPort_same n _ (s.atLeast t)
  have hwport : (r.modPort n (AudioPort.timed t)).port n = { s.port n with bclk := (s.port n).bclk + audioFrameBits (s.app n P.AP_RATE), missed := (s.port n).missed + 1, posTime := t } :=
    (port_modPort_same n _ r).trans (by rw [hrport])
  have hwother : ∀ k, k ≠ n → (r.modPort n (AudioPort.timed t)).port k = s.port k := fun k hk => by
    rw [port_modPort_other hk, hr]
    exact port_modPort_other hk (AudioPort.flown (audioFrameBits (s.app n P.AP_RATE))) (s.atLeast t)
  have hsilent : r.apState n ≠ 3 ∧ r.apState n ≠ 4 ∨ (r.port n).group = none ∧ (r.port n).zero = false := by
    rw [hrport, show r.apState n = s.apState n by rw [hr]; rfl]
    exact hst.imp (fun h => by omega) fun h => h.2
  obtain ⟨m, hsend, hlen, hmem⟩ := sendFrame_unplaced (s := r.modPort n (AudioPort.timed t)) (n := n) (by rw [hwport]; exact hpos)
  refine ⟨(r.modPort n (AudioPort.timed t)).emit (.audio n m), m, ?_, hwport, hwother, ?_, ?_, hmem, ?_⟩
  · rw [State.flown, ← hr, audioFrame_silent hsilent, hsend]
  · rw [hr]
    rfl
  · rw [hlen, hr]
    rfl
  · rw [hr]
    rfl

theorem fsFlywheel_frames (hm : x.missed < 7) : ∃ u m, exec (.fsFlywheel n l) s = .next u
    ∧ u.port n = { x with bclk := x.bclk + audioFrameBits (s.app n P.AP_RATE), missed := x.missed + 1, posTime := x.posTime + rdivN 1000000000 (s.apHz n) }
    ∧ (∀ k, k ≠ n → u.port k = s.port k) ∧ u.sent = .audio n m :: s.sent ∧ m.length = audioSlots (s.app n P.AP_RATE) ∧ (∀ v ∈ m, v = 0 ∨ v = 0x1000000)
    ∧ u = { s with now := max s.now (x.posTime + rdivN 1000000000 (s.apHz n)), sent := u.sent, au := { s.au with ports := u.au.ports } } := by
  obtain ⟨u, m, hu, hport, hother, hsent, hlen, hmem, hframe⟩ := flown_effect (l := l) hx hst hpos (x.posTime + rdivN 1000000000 (s.apHz n))
  have hexec := fsFlywheel_exec n l s
  rw [if_neg (by omega), if_neg (by omega), hx, if_neg (by omega), hu] at hexec
  exact ⟨u, m, exec_next hexec (decide_eq_true hn) rfl (by rw [hframe]), hport, hother, hsent, hlen, hmem, hframe⟩

theorem fsFlywheel_unframes (hm : 7 ≤ x.missed) : ∃ u m, exec (.fsFlywheel n l) s = .next u
    ∧ u.apState n = 2 ∧ (u.port n).edges = 0 ∧ (u.port n).missed = 0 ∧ (u.port n).pos = none ∧ (u.port n).clock = x.clock ∧ (∀ k, k ≠ n → u.port k = s.port k)
    ∧ u.sent = .audio n m :: s.sent ∧ SameParams [pkey (P.ap n P.AP_STATE) 0] s u
    ∧ EventsOnly { s with now := max s.now (x.posTime + rdivN 1000000000 (s.apHz n)), params := u.params, sent := u.sent, au := { s.au with ports := u.au.ports } } u := by
  obtain ⟨u, m, hu, hport, hother, hsent, -, -, hframe⟩ := flown_effect (l := l) hx hst hpos (x.posTime + rdivN 1000000000 (s.apHz n))
  have hexec := fsFlywheel_exec n l s
  rw [if_neg (by omega), if_neg (by omega), hx, if_pos (by omega), hu] at hexec
  obtain ⟨w, hw⟩ : ∃ w, w = u.modPort n AudioPort.unframed := ⟨_, rfl⟩
  have hwport : w.port n = (u.port n).unframed := by rw [hw]; exact port_modPort_same n _ u
  have hwother : ∀ k, k ≠ n → w.port k = s.port k := fun k hk => by rw [hw, port_modPort_other hk]; exact hother k hk
  have hwframe : w = { s with now := max s.now (x.posTime + rdivN 1000000000 (s.apHz n)), sent := u.sent, au := { s.au with ports := w.au.ports } } := by
    rw [hw, State.modPort, hframe]
  obtain ⟨⟨hev, hpar⟩, hnew⟩ := setApState_effect n 2 3 w
  rw [← hw] at hexec
  generalize w.setApState n 2 3 = v at hexec hev hpar hnew
  have hvport : v.port n = (u.port n).unframed := (hev.port n).trans hwport
  obtain ⟨hvsent, hvau⟩ : v.sent = u.sent ∧ v.au.ports = w.au.ports := by
    obtain ⟨⟨_, _, _, _, h⟩, -⟩ := id hev
    rw [h]
    exact ⟨by rw [hwframe], rfl⟩
  refine ⟨v, m, exec_next hexec (decide_eq_true hn) rfl (hev.pending.trans (by rw [hwframe])), hnew, by rw [hvport], by rw [hvport], by rw [hvport]; rfl, by rw [hvport, hport]; rfl,
    fun k hk => (hev.port k).trans (hwother k hk), hvsent.trans hsent, fun k hk => (hpar k hk).trans (by rw [hwframe]), ?_⟩
  rw [hvsent, hvau]
  refine (congrArg (EventsOnly · _) ?_).mp hev
  rw [hwframe]

end

/-! ### What stands in the way of a common start (R391) -/

section
variable {s : State} {m : Nat} {c : Cmd}

theorem portUnusable_iff : s.portUnusable m = true ↔ ∃ k, k < 16 ∧ m.testBit k = true ∧ (s.apState k = 0 ∨ s.apState k = 5 ∨ s.apState k = 6) := by
  simp only [State.portUnusable, List.any_eq_true, mem_portsOf, Bool.or_eq_true, beq_iff_eq, and_assoc, or_assoc]

theorem portUnusable_eq_false (h : ∀ k, k < 16 → m.testBit k = true → s.apState k ≠ 0 ∧ s.apState k ≠ 5 ∧ s.apState k ≠ 6) : s.portUnusable m = false := by
  refine Bool.eq_false_iff.2 fun hu => ?_
  obtain ⟨k, hk, hm, hst⟩ := portUnusable_iff.1 hu
  have := h k hk hm
  omega

theorem portStarting_iff : s.portStarting m = true ↔ ∃ x ∈ s.au.starts, x.mask &&& m ≠ 0 := by
  simp only [State.portStarting, List.any_eq_true, bne_iff_ne]

theorem portStarting_eq_false (h : ∀ x ∈ s.au.starts, x.mask &&& m = 0) : s.portStarting m = false := by
  refine Bool.eq_false_iff.2 fun hs => ?_
  obtain ⟨x, hx, hne⟩ := portStarting_iff.1 hs
  exact hne (h x hx)

theorem not_startLate (h : c.f 16 1 = 0 → (c.f 32 32 + 2 ^ 32 - s.ring.tag) % 2 ^ 32 ≠ 0 ∧ (c.f 32 32 + 2 ^ 32 - s.ring.tag) % 2 ^ 32 < 2 ^ 31
    ∧ 2 * s.ring.period ≤ s.ring.next - s.now * 65536 + ((c.f 32 32 + 2 ^ 32 - s.ring.tag) % 2 ^ 32 - 1) * s.ring.period) : ¬ s.startLate c := by
  rintro ⟨h16, hl⟩
  obtain ⟨h0, h1, h2⟩ := h h16
  exact hl.elim h0 fun hl => hl.elim (Nat.not_le.2 h1) (Nat.not_lt.2 h2)

end

end Sys2Proof.Machine

open Sys2Proof Sys2Proof.Machine in
/-- Settles O49: every clause is the effect of its row of the model; a frame of a port without a position leaves as silence. -/
theorem audioPortsFollowClocksAndPlayBlocks : Obligations.AudioPortsFollowClocksAndPlayBlocks := by
  unfold Obligations.AudioPortsFollowClocksAndPlayBlocks
  refine ⟨⟨?clock, ?edge, ?fly, ?rate⟩, ?idle, ?fetch, ?deadline, ?start, ?status⟩
  case clock =>
    intro n x s hn hx
    exact ⟨audioClockDetect_present hn hx, audioClockDetect_detects hn hx, audioClockLost_absent hn hx, audioClockLost_loses hn hx⟩
  case edge =>
    rintro n t b - l o x s hn hx rfl
    exact ⟨fsEdge_idle hn, fsEdge_begins hn hx, fsEdge_counted hn hx, fun h1 h2 h3 => fsEdge_repeated hn hx h3 h1 h2,
      fun h1 h2 h3 h4 h5 h6 h7 => fsEdge_frames hn hx h3 h1 h2 h4 h5 h6 h7,
      fun g p a h1 h2 h3 h4 h5 h6 h7 h8 h9 h10 h11 => fsEdge_positions hn hx h2 h1 h3 h4 h5 h6 h7 h8 h9 h10 h11⟩
  case fly =>
    rintro n - l x s hn hx rfl
    exact ⟨fsFlywheel_idle hn, fsFlywheel_syncing hn hx, fsFlywheel_frames hn hx, fsFlywheel_unframes hn hx⟩
  case rate =>
    rintro n r - s hn rfl
    exact ⟨audioRateMeasure_idle hn, audioRateMeasure_within hn, audioRateMeasure_off hn⟩
  case idle => exact fun n b late s hn => ⟨audioBlockFetch_idle hn, audioBlockDeadline_idle hn⟩
  case fetch =>
    intro n b late x s hn h4 hx hnear hflaws
    exact audioBlockFetch_notes hn h4 hx hnear hflaws
  case deadline =>
    intro n b x s hn h4 hx hdue
    exact ⟨audioBlockDeadline_fine hn h4 hx hdue, audioBlockDeadline_ramps hn h4 hx hdue, audioBlockDeadline_counts hn h4 hx hdue, audioBlockDeadline_fades hn h4 hx hdue⟩
  case start =>
    rintro c - - s ha ho rfl rfl
    refine ⟨fun h => audioStart_badParam ha ho (h.imp_right fun ⟨j, k, hj, hk, hmj, hmk, hne⟩ => ratesDiffer_of_pair hj hk hmj hmk hne), fun r h0 hsame => ?_⟩
    have hrate := ratesDiffer_of_same hsame
    refine ⟨fun h => audioStart_unusable ha ho h0 hrate (portUnusable_iff.2 h), fun h => ?_⟩
    have husable := portUnusable_eq_false h
    refine ⟨fun h16 h => audioStart_late ha ho h0 hrate husable ⟨h16, h⟩, fun h => ?_⟩
    have hlate := not_startLate h
    refine ⟨fun h => audioStart_busy ha ho h0 hrate husable hlate (portStarting_iff.2 h), fun h => ?_⟩
    rintro - rfl
    exact ⟨audioStart_immediate ha ho h0 hrate husable hlate (portStarting_eq_false h), audioStart_waits ha ho h0 hrate husable hlate (portStarting_eq_false h)⟩
  case status =>
    rintro c - s ha ho rfl
    exact ⟨audioStatus_badParam ha ho, fun h => by
      obtain ⟨t, ht, hans, hcmd⟩ := audioStatus_reads ha ho h
      exact ⟨t, ht, hcmd, hans⟩⟩
end

section
/-! Codec engines: the decoder's input and the completion of pictures (R359, R363 to R373). -/

namespace Sys2Proof.Machine

/-- A command whose meaning gives its own final reply. -/
theorem Runs.completes_itself {i : Instr} {spec : OpSpec} {body : Body} {c : Cmd} {s e v : State} {code len r : Nat} (hi : i.wellFormed = true)
    (ha : s.accepts (spec.priv || spec.privIf c) spec.op c) (hl : spec.len c = true) (hr : (c.ops % 2 ^ (8 * c.opLen)) &&& spec.rsvd = 0)
    (hb : c.win = 64 → spec.bus c = true)
    (hbody : body { c := c, tk := s.newTicket, priv := s.privOf c } (s.entered spec.op c) = (v.finalReply s.newTicket code len r, .wait)) (hc : code < 256)
    (hrun : Runs s spec.op c e v) (hp : e.pending = s.pending) :
    ∃ t, guarded i s (submit spec body c s) = .next t ∧ Answered spec.op c code len r t ∧ CommandOnly c e t ∧ ∃ w f p, t = { v with
      ctl := { v.ctl with wins := w, flights := f }, pw := { v.pw with returnFrom := p } } := by
  have hd := s.aipexDown_of_ready ha.1.2.2.2.1
  have hpend : (v.finalReply s.newTicket code len r).pending = s.pending := (State.finalReply_pending v _ _ _ _).trans (by rw [hrun.1, ← hp])
  have hnext := submit_waits (i := i) (body := body) hi ha hl hr hb (by rw [hbody]) (by rw [hbody]; exact hpend)
  rw [hbody] at hnext
  exact ⟨_, hnext, hrun.answered hd hc len r, hrun.commandOnly hd code len r, finalReply_shape v (hrun.up hd) _ code len r⟩

/-! ### Engines -/

theorem engine_modEngine (e : Nat) (f : Engine → Engine) (s : State) (k : Nat) : (s.modEngine e f).engine k = if k = e then f (s.engine e) else s.engine k :=
  SMap.get_set engineDef _ _ _ _

theorem engine_modEngine_same (e : Nat) (f : Engine → Engine) (s : State) : (s.modEngine e f).engine e = f (s.engine e) := (engine_modEngine e f s e).trans (if_pos rfl)

theorem engine_modEngine_other {e k : Nat} (h : k ≠ e) (f : Engine → Engine) (s : State) : (s.modEngine e f).engine k = s.engine k := (engine_modEngine e f s k).trans (if_neg h)

theorem otherEngines_modEngine (e : Nat) (f : Engine → Engine) (s : State) : OtherEngines e s (s.modEngine e f) := fun _ hk => engine_modEngine_other hk f s

theorem engine_setP (i j v : Nat) (s : State) (k : Nat) : (s.setP i j v).engine k = s.engine k := rfl

theorem OtherEngines.trans {e : Nat} {s t u : State} (h : OtherEngines e s t) (g : OtherEngines e t u) : OtherEngines e s u := fun k hk => (g k hk).trans (h k hk)

theorem EventsOnly.engine {s t : State} (h : EventsOnly s t) (k : Nat) : t.engine k = s.engine k := by
  obtain ⟨⟨_, _, _, _, rfl⟩, -⟩ := h
  rfl

/-! ### VC_DEC_FEED and FEED_TIMEOUT (R367) -/

/-- A feed joins those that wait. -/
abbrev State.feeding (e : Nat) (f : Feed) (s : State) : State := s.modEngine e fun x => { x with feeds := x.feeds ++ [f] }

/-- The chunk `l` of feed `f` has been copied into the ring. -/
abbrev State.fed (e : Nat) (f : Feed) (r : List Feed) (l : List Byte) (s : State) : State :=
  (s.modEngine e fun y => { y with feeds := r, input := y.input ++ l, ended := y.ended || f.fin }).inputReport e

theorem takeFeeds_one_nil {e : Nat} {s : State} (h : (s.engine e).feeds = []) : State.takeFeeds e 1 s = s := by
  unfold State.takeFeeds
  dsimp only
  rw [h]

theorem takeFeeds_one_full {e : Nat} {f : Feed} {r : List Feed} {s : State} (h : (s.engine e).feeds = f :: r) (hfull : ringBytes < (s.engine e).input.length + (s.feedBytes f).length) :
    State.takeFeeds e 1 s = s := by
  unfold State.takeFeeds
  dsimp only
  rw [h]
  exact if_pos hfull

theorem takeFeeds_one_fits {e : Nat} {f : Feed} {r : List Feed} {s : State} (h : (s.engine e).feeds = f :: r) (hfits : (s.engine e).input.length + (s.feedBytes f).length ≤ ringBytes) :
    State.takeFeeds e 1 s = (s.fed e f r (s.feedBytes f)).finalReply f.ticket cOK 0 0 := by
  unfold State.takeFeeds
  dsimp only
  rw [h]
  exact if_neg (Nat.not_lt.2 hfits)

section
variable {k : Call} {s : State}

/-- Where the chunk of VC_DEC_FEED stands. -/
def feedOf (k : Call) (s : State) : Feed :=
  if k.c.f 9 1 = 1 then { ticket := k.tk, bytes := [], fin := k.c.f 8 1 == 1, since := s.now, source := some (k.c.f 64 64, k.c.f 32 32) }
  else { ticket := k.tk, bytes := s.hostRead (k.c.f 64 64) (k.c.f 32 32), fin := k.c.f 8 1 == 1, since := s.now }

/-- What VC_DEC_FEED does with its chunk once the stream is open to it. -/
def feedChunk (k : Call) (s : State) : State × Ans :=
  let c := k.c
  let e := c.f 0 8
  let n := c.f 32 32
  let a := c.f 64 64
  let fin := c.f 8 1 == 1
  let take := fun (t : State) (f : Feed) => (State.takeFeeds e 1 (t.feeding e f), Ans.wait)
  if c.f 9 1 = 1 then
    match s.hostBuffer a n with
    | none => if n = 0 then take s { ticket := k.tk, bytes := [], fin := fin, since := s.now } else (s, .err cNOT_MAPPED)
    | some b =>
      if b.carve ≠ 2 ∧ b.carve ≠ 3 then (s, .err cNOT_MAPPED)
      else if !b.allows c.win k.priv then (s, .err cNOT_PERMITTED)
      else
        let s := s.demandRead a n
        if (s.firstPoison a n).isSome then (s, .err cMEDIA_ERROR)
        else take s { ticket := k.tk, bytes := [], fin := fin, since := s.now, source := some (a, n) }
  else
    let l := s.hostRead a n
    if l.length < n then (s, .err cABORTED) else take s { ticket := k.tk, bytes := l, fin := fin, since := s.now }

theorem feedChunk_host (h9 : k.c.f 9 1 = 0) : feedChunk k s =
    if (s.hostRead (k.c.f 64 64) (k.c.f 32 32)).length < k.c.f 32 32 then (s, .err cABORTED)
    else (State.takeFeeds (k.c.f 0 8) 1 (s.feeding (k.c.f 0 8) (feedOf k s)), .wait) := by
  have h : ¬ k.c.f 9 1 = 1 := by rw [h9]; decide
  unfold feedOf
  rw [if_neg h]
  exact if_neg h

variable (h9 : k.c.f 9 1 = 1)
include h9

theorem feedChunk_unmapped (hn0 : k.c.f 32 32 ≠ 0) (h : s.hostBuffer (k.c.f 64 64) (k.c.f 32 32) = none) : feedChunk k s = (s, .err cNOT_MAPPED) := by
  refine (if_pos h9).trans ?_
  rw [h]
  exact if_neg hn0

theorem feedChunk_buffer {b : Buffer} (hpoison : s.firstPoison (k.c.f 64 64) (k.c.f 32 32) = none) (hflaws : s.dram.flaws = [])
    (hb : s.hostBuffer (k.c.f 64 64) (k.c.f 32 32) = some b) (hcarve : b.carve = 2 ∨ b.carve = 3) (hw : b.window = some k.c.win) :
    feedChunk k s = (State.takeFeeds (k.c.f 0 8) 1 (s.feeding (k.c.f 0 8) (feedOf k s)), .wait) := by
  unfold feedOf
  rw [if_pos h9]
  refine (if_pos h9).trans ?_
  rw [hb]
  refine (if_neg (by omega)).trans ((if_neg (by rw [b.allows_owner hw]; exact Bool.false_ne_true)).trans ?_)
  dsimp only
  rw [demandRead_flawless hflaws]
  exact if_neg (by rw [hpoison]; exact Bool.false_ne_true)

end

section
variable {k : Call} {s : State}

theorem vcDecFeedBody_badParam (h : 2 ≤ k.c.f 0 8 ∨ 0x1000000 < k.c.f 32 32 ∨ k.c.f 32 32 = 0 ∧ k.c.f 8 1 = 0) : vcDecFeedBody k s = (s, .err cBAD_PARAM) := by
  refine if_pos (h.imp_right (Or.imp_right fun h => ⟨h.1, ?_⟩))
  rw [h.2]
  rfl

variable (he : k.c.f 0 8 < 2) (hn : k.c.f 32 32 ≤ 0x1000000) (hfin : k.c.f 32 32 ≠ 0 ∨ k.c.f 8 1 = 1)
include he hn hfin

theorem feedOperands : ¬ (2 ≤ k.c.f 0 8 ∨ 0x1000000 < k.c.f 32 32 ∨ (k.c.f 32 32 = 0 ∧ (!(k.c.f 8 1 == 1)) = true)) := by
  simp only [Bool.not_eq_true', beq_eq_false_iff_ne]
  omega

theorem vcDecFeedBody_notHolder (h : s.holds k.c.win (k.c.f 0 8) = false) : vcDecFeedBody k s = (s, .err cNOT_HOLDER) :=
  (if_neg (feedOperands he hn hfin)).trans (if_pos (by rw [h]; rfl))

variable (hhold : s.holds k.c.win (k.c.f 0 8) = true)
include hhold

theorem vcDecFeedBody_wrongMode (h : s.vcp (k.c.f 0 8) P.VC_MODE ≠ 2) : vcDecFeedBody k s = (s, .err cWRONG_MODE) :=
  (if_neg (feedOperands he hn hfin)).trans ((if_neg (by rw [hhold]; exact Bool.false_ne_true)).trans (if_pos h))

variable (hmode : s.vcp (k.c.f 0 8) P.VC_MODE = 2)
include hmode

theorem vcDecFeedBody_ended (h : (s.engine (k.c.f 0 8)).ended = true) : vcDecFeedBody k s = (s, .err cSTREAM_END) :=
  (if_neg (feedOperands he hn hfin)).trans ((if_neg (by rw [hhold]; exact Bool.false_ne_true)).trans ((if_neg (not_not_intro hmode)).trans (if_pos (by rw [h]; rfl))))

variable (hend : (s.engine (k.c.f 0 8)).ended = false) (hfeeds : ∀ f ∈ (s.engine (k.c.f 0 8)).feeds, f.fin = false)
include hend hfeeds

omit he hn hfin hhold hmode in
theorem feedOpen : ¬ ((s.engine (k.c.f 0 8)).ended || (s.engine (k.c.f 0 8)).feeds.any fun f => f.fin) = true := by
  rw [hend, Bool.false_or, List.any_eq_true]
  rintro ⟨f, hf, h⟩
  rw [hfeeds f hf] at h
  cases h

theorem vcDecFeedBody_open : vcDecFeedBody k s = feedChunk k s :=
  (if_neg (feedOperands he hn hfin)).trans ((if_neg (by rw [hhold]; exact Bool.false_ne_true)).trans ((if_neg (not_not_intro hmode)).trans (if_neg (feedOpen hend hfeeds))))

theorem vcDecFeedBody_aborted (h9 : k.c.f 9 1 = 0) (h : (s.hostRead (k.c.f 64 64) (k.c.f 32 32)).length < k.c.f 32 32) : vcDecFeedBody k s = (s, .err cABORTED) := by
  rw [vcDecFeedBody_open he hn hfin hhold hmode hend hfeeds, feedChunk_host h9, if_pos h]

theorem vcDecFeedBody_unmapped (h9 : k.c.f 9 1 = 1) (hn0 : k.c.f 32 32 ≠ 0) (h : s.hostBuffer (k.c.f 64 64) (k.c.f 32 32) = none) : vcDecFeedBody k s = (s, .err cNOT_MAPPED) := by
  rw [vcDecFeedBody_open he hn hfin hhold hmode hend hfeeds, feedChunk_unmapped h9 hn0 h]

/-- The chunk `l` is to be had, from host memory or from a buffer of the window. -/
abbrev State.feedable (s : State) (c : Cmd) (l : List Byte) : Prop :=
  c.f 9 1 = 0 ∧ s.hostGood (c.f 64 64) (c.f 32 32) = c.f 32 32 ∧ l = takeBytes zeroByte s.ctl.hostMem (c.f 64 64) (c.f 32 32)
    ∨ c.f 9 1 = 1 ∧ s.firstPoison (c.f 64 64) (c.f 32 32) = none ∧ s.dram.flaws = [] ∧ l = s.devRead (c.f 64 64) (c.f 32 32)
      ∧ ∃ b, s.hostBuffer (c.f 64 64) (c.f 32 32) = some b ∧ (b.carve = 2 ∨ b.carve = 3) ∧ b.window = some c.win

omit he hn hfin hhold hmode hend hfeeds in
theorem State.feedable.length {c : Cmd} {l : List Byte} (h : s.feedable c l) : l.length = c.f 32 32 := by
  obtain ⟨-, -, rfl⟩ | ⟨-, -, -, rfl, -⟩ := h
  · exact takeBytes_length _ _ _ _
  · exact takeBytes_length _ _ _ _

theorem vcDecFeedBody_takes {l : List Byte} (hl : s.feedable k.c l) : ∃ f : Feed, f.ticket = k.tk ∧ (∀ t : State, t.dram = s.dram → t.feedBytes f = l)
    ∧ f.fin = (k.c.f 8 1 == 1) ∧ f.since = s.now
    ∧ vcDecFeedBody k s = (State.takeFeeds (k.c.f 0 8) 1 (s.feeding (k.c.f 0 8) f), .wait) := by
  rw [vcDecFeedBody_open he hn hfin hhold hmode hend hfeeds]
  refine ⟨feedOf k s, ?_⟩
  obtain ⟨h9, hgood, hl⟩ | ⟨h9, hpoison, hflaws, hl, b, hb, hcarve, hw⟩ := hl
  · have hchunk : s.hostRead (k.c.f 64 64) (k.c.f 32 32) = l := by rw [State.hostRead, hgood, hl]
    rw [feedChunk_host h9, hchunk, if_neg (by rw [hl, takeBytes_length]; exact Nat.lt_irrefl _)]
    unfold feedOf
    rw [if_neg (by rw [h9]; decide)]
    exact ⟨rfl, fun _ _ => hchunk, rfl, rfl, rfl⟩
  · rw [feedChunk_buffer h9 hpoison hflaws hb hcarve hw]
    unfold feedOf
    rw [if_pos h9]
    refine ⟨rfl, fun t ht => ?_, rfl, rfl, rfl⟩
    rw [hl]
    exact congrArg (fun d : Dram => takeBytes zeroByte d.bytes (k.c.f 64 64) (k.c.f 32 32)) ht

end

theorem feeding_engine {e : Nat} {f : Feed} {s : State} : (s.feeding e f).engine e = { s.engine e with feeds := (s.engine e).feeds ++ [f] } := engine_modEngine_same e _ s

/-- The state once the chunk `l` of feed `f`, which found none before it, has been copied. -/
def State.fedAlone (e : Nat) (f : Feed) (l : List Byte) (s : State) : State := (s.feeding e f).fed e f [] l

theorem fedAlone_effect {e : Nat} {f : Feed} {l : List Byte} {s : State} (hfeeds : (s.engine e).feeds = []) (hend : (s.engine e).ended = false) (hmode : s.vcp e P.VC_MODE = 2) :
    (s.fedAlone e f l).engine e = { s.engine e with input := (s.engine e).input ++ l, ended := f.fin } ∧ OtherEngines e s (s.fedAlone e f l)
    ∧ (s.fedAlone e f l).vcp e P.VC_INPUT_FREE = 0x4000000 - ((s.engine e).input.length + l.length) ∧ SameParams [pkey (P.vc e P.VC_INPUT_FREE) 0] s (s.fedAlone e f l)
    ∧ s.fedAlone e f l = { s with params := (s.fedAlone e f l).params, vc := { s.vc with engines := (s.fedAlone e f l).vc.engines } } := by
  have hengine : (s.fedAlone e f l).engine e = { s.engine e with input := (s.engine e).input ++ l, ended := f.fin } := by
    refine (engine_modEngine_same e (fun y => { y with feeds := [], input := y.input ++ l, ended := y.ended || f.fin }) (s.feeding e f)).trans ?_
    rw [feeding_engine]
    dsimp only
    rw [hend, Bool.false_or, ← hfeeds]
  refine ⟨hengine, ?_, ?_, fun k hk => SMap.get_set_other pdef _ (by simpa using hk) _, rfl⟩
  · exact fun k hk => (engine_modEngine_other hk (fun y => { y with feeds := [], input := y.input ++ l, ended := y.ended || f.fin }) (s.feeding e f)).trans
      (engine_modEngine_other hk _ s)
  · refine (State.getP_setP_same _ _ _ _).trans ((if_pos hmode).trans ?_)
    rw [← List.length_append]
    exact congrArg (fun x : Engine => 0x4000000 - x.input.length) hengine

section
variable {c : Cmd} {s : State} (ha : s.accepts false 0x0804 c) (hwin : c.win < 64) (ho : c.operands 16 0xFFFFFC00)
include ha hwin ho

theorem vcDecFeed_fails {code : Nat} (hc : code < 256)
    (h : ∀ ctl, vcDecFeedBody { c := c, tk := s.newTicket, priv := s.privOf c } { s with ctl := ctl } = ({ s with ctl := ctl }, .err code)) :
    ∃ t, exec (.vcDecFeed c) s = .next t ∧ Answered 0x0804 c code 0 0 t ∧ CommandOnly c s t := by
  refine completes_reading (i := .vcDecFeed c) (spec := vcDecFeedSpec) (body := vcDecFeedBody) ha.1.1 ha (by simp [vcDecFeedSpec, ho.1]) (by rw [ho.1]; exact ho.2)
    (fun h => absurd h (Nat.ne_of_lt hwin)) hc ?_
  obtain ⟨w, m, tk, f, he⟩ := entered_frame s vcDecFeedSpec.op c
  rw [he]
  exact h _

theorem vcDecFeed_badParam (h : 2 ≤ c.f 0 8 ∨ 0x1000000 < c.f 32 32 ∨ c.f 32 32 = 0 ∧ c.f 8 1 = 0) :
    ∃ t, exec (.vcDecFeed c) s = .next t ∧ Answered 0x0804 c 4 0 0 t ∧ CommandOnly c s t :=
  vcDecFeed_fails ha hwin ho (by decide) fun _ => vcDecFeedBody_badParam h

variable (he : c.f 0 8 < 2) (hn : c.f 32 32 ≤ 0x1000000) (hfin : c.f 32 32 ≠ 0 ∨ c.f 8 1 = 1)
include he hn hfin

theorem vcDecFeed_notHolder (h : s.holds c.win (c.f 0 8) = false) : ∃ t, exec (.vcDecFeed c) s = .next t ∧ Answered 0x0804 c 0x61 0 0 t ∧ CommandOnly c s t :=
  vcDecFeed_fails ha hwin ho (by decide) fun ctl => vcDecFeedBody_notHolder (s := { s with ctl := ctl }) he hn hfin h

variable (hhold : s.holds c.win (c.f 0 8) = true)
include hhold

theorem vcDecFeed_wrongMode (h : s.vcp (c.f 0 8) P.VC_MODE ≠ 2) : ∃ t, exec (.vcDecFeed c) s = .next t ∧ Answered 0x0804 c 0x60 0 0 t ∧ CommandOnly c s t :=
  vcDecFeed_fails ha hwin ho (by decide) fun ctl => vcDecFeedBody_wrongMode (s := { s with ctl := ctl }) he hn hfin hhold h

variable (hmode : s.vcp (c.f 0 8) P.VC_MODE = 2)
include hmode

theorem vcDecFeed_ended (h : (s.engine (c.f 0 8)).ended = true) : ∃ t, exec (.vcDecFeed c) s = .next t ∧ Answered 0x0804 c 0x63 0 0 t ∧ CommandOnly c s t :=
  vcDecFeed_fails ha hwin ho (by decide) fun ctl => vcDecFeedBody_ended (s := { s with ctl := ctl }) he hn hfin hhold hmode h

variable (hend : (s.engine (c.f 0 8)).ended = false) (hfeeds : ∀ f ∈ (s.engine (c.f 0 8)).feeds, f.fin = false)
include hend hfeeds

theorem vcDecFeed_unmapped (h9 : c.f 9 1 = 1) (hn0 : c.f 32 32 ≠ 0) (h : s.hostBuffer (c.f 64 64) (c.f 32 32) = none) :
    ∃ t, exec (.vcDecFeed c) s = .next t ∧ Answered 0x0804 c 0x50 0 0 t ∧ CommandOnly c s t :=
  vcDecFeed_fails ha hwin ho (by decide) fun ctl => vcDecFeedBody_unmapped (s := { s with ctl := ctl }) he hn hfin hhold hmode hend hfeeds h9 hn0 h

variable (hhost : c.host = [])
include hhost

omit ha hwin ho he hn hfin hhold hmode hend hfeeds in
theorem entered_hostRead (op a n : Nat) : (s.entered op c).hostRead a n = s.hostRead a n := by
  unfold State.hostRead State.hostGood
  rw [State.entered_hostMem s _ c (.inl hhost), State.entered_ctl_hostFault]

theorem vcDecFeed_aborted (h9 : c.f 9 1 = 0) (h : s.hostGood (c.f 64 64) (c.f 32 32) < c.f 32 32) :
    ∃ t, exec (.vcDecFeed c) s = .next t ∧ Answered 0x0804 c 0xB 0 0 t ∧ CommandOnly c s t := by
  refine completes_reading (i := .vcDecFeed c) (spec := vcDecFeedSpec) (body := vcDecFeedBody) ha.1.1 ha (by simp [vcDecFeedSpec, ho.1]) (by rw [ho.1]; exact ho.2)
    (fun h => absurd h (Nat.ne_of_lt hwin)) (by decide) ?_
  have hread : ((s.entered vcDecFeedSpec.op c).hostRead (c.f 64 64) (c.f 32 32)).length < c.f 32 32 := by
    rw [entered_hostRead hhost, State.hostRead, takeBytes_length]
    exact h
  obtain ⟨w, m, tk, f, hent⟩ := entered_frame s vcDecFeedSpec.op c
  rw [hent] at hread ⊢
  exact vcDecFeedBody_aborted (s := { s with ctl := { s.ctl with wins := w, hostMem := m, ticket := tk, flights := f } }) he hn hfin hhold hmode hend hfeeds h9 hread

omit ha hwin ho in
theorem vcDecFeed_body {l : List Byte} (hl : s.feedable c l) : ∃ f : Feed, f.ticket = s.newTicket ∧ (∀ t : State, t.dram = s.dram → t.feedBytes f = l)
    ∧ f.fin = (c.f 8 1 == 1) ∧ f.since = s.now
    ∧ vcDecFeedBody { c := c, tk := s.newTicket, priv := s.privOf c } (s.entered 0x0804 c) = (State.takeFeeds (c.f 0 8) 1 ((s.entered 0x0804 c).feeding (c.f 0 8) f), .wait) := by
  have hmem := State.entered_hostMem s 0x0804 c (.inl hhost)
  obtain ⟨w, m, tk, f, hent⟩ := entered_frame s 0x0804 c
  rw [hent] at hmem ⊢
  obtain rfl : m = s.ctl.hostMem := hmem
  exact vcDecFeedBody_takes (k := { c := c, tk := s.newTicket, priv := s.privOf c }) (s := { s with ctl := { s.ctl with wins := w, ticket := tk, flights := f } })
    he hn hfin hhold hmode hend hfeeds hl

variable {l : List Byte} (hl : s.feedable c l)
include hl

/-- A chunk that fits, with none before it, is copied at once. -/
theorem vcDecFeed_copies (hnone : (s.engine (c.f 0 8)).feeds = []) (hfits : (s.engine (c.f 0 8)).input.length + c.f 32 32 ≤ 0x4000000) :
    ∃ t, exec (.vcDecFeed c) s = .next t ∧ Answered 0x0804 c 0 0 0 t
      ∧ t.engine (c.f 0 8) = { s.engine (c.f 0 8) with input := (s.engine (c.f 0 8)).input ++ l, ended := c.f 8 1 == 1 } ∧ OtherEngines (c.f 0 8) s t
      ∧ t.vcp (c.f 0 8) P.VC_INPUT_FREE = 0x4000000 - ((s.engine (c.f 0 8)).input.length + c.f 32 32) ∧ SameParams [pkey (P.vc (c.f 0 8) P.VC_INPUT_FREE) 0] s t
      ∧ CommandOnly c { s with params := t.params, vc := { s.vc with engines := t.vc.engines } } t := by
  obtain ⟨f, hft, hfl, hffin, -, hbody⟩ := vcDecFeed_body he hn hfin hhold hmode hend hfeeds hhost hl
  have hlen := hl.length
  obtain ⟨E, hE⟩ : ∃ E, s.entered 0x0804 c = E := ⟨_, rfl⟩
  have hEengine : ∀ k, E.engine k = s.engine k := fun k => by rw [← hE, State.engine, State.entered_vc]; rfl
  have hwait : ((E.feeding (c.f 0 8) f).engine (c.f 0 8)).feeds = [f] := by rw [feeding_engine, hEengine, hnone]; rfl
  have hbytes : (E.feeding (c.f 0 8) f).feedBytes f = l := hfl _ (by rw [← State.entered_dram s 0x0804 c, hE]; rfl)
  have hroom : ((E.feeding (c.f 0 8) f).engine (c.f 0 8)).input.length + ((E.feeding (c.f 0 8) f).feedBytes f).length ≤ ringBytes := by
    rw [hbytes, hlen, feeding_engine, hEengine]
    exact hfits
  rw [hE, takeFeeds_one_fits hwait hroom, hbytes, hft, ← hE] at hbody
  obtain ⟨hengine, hother, hfree, hpar, hframe⟩ := fedAlone_effect (f := f) (l := l) hnone hend hmode
  obtain ⟨t, hx, hans, hcmd, -⟩ := Runs.completes_itself (i := .vcDecFeed c) (spec := vcDecFeedSpec) (body := vcDecFeedBody) (e := s.fedAlone (c.f 0 8) f l) ha.1.1 ha
    (by simp [vcDecFeedSpec, ho.1]) (by rw [ho.1]; exact ho.2) (fun h => absurd h (Nat.ne_of_lt hwin)) hbody (by decide)
    (runs_of_comm (State.fedAlone (c.f 0 8) f l) (fun _ _ _ _ => rfl) rfl rfl rfl rfl) rfl
  have hp : t.params = (s.fedAlone (c.f 0 8) f l).params := by rw [hcmd.1]
  have hv : t.vc = (s.fedAlone (c.f 0 8) f l).vc := by rw [hcmd.1]
  have hte : ∀ k, t.engine k = (s.fedAlone (c.f 0 8) f l).engine k := fun k => by rw [State.engine, hv]; rfl
  refine ⟨t, hx, hans, by rw [hte, hengine, hffin], fun k hk => (hte k).trans (hother k hk), ?_, fun k hk => by rw [hp]; exact hpar k hk, ?_⟩
  · rw [State.vcp, State.getP, hp, ← hlen]
    exact hfree
  · rw [hp, hv, ← hframe]
    exact hcmd

/-- A chunk that does not fit, or that others stand before that do not fit, waits. -/
theorem vcDecFeed_waits (hfull : (s.engine (c.f 0 8)).feeds = [] ∧ 0x4000000 < (s.engine (c.f 0 8)).input.length + c.f 32 32
      ∨ ∃ g r, (s.engine (c.f 0 8)).feeds = g :: r ∧ 0x4000000 < (s.engine (c.f 0 8)).input.length + (s.feedBytes g).length) :
    ∃ t f, exec (.vcDecFeed c) s = .next t ∧ t.engine (c.f 0 8) = { s.engine (c.f 0 8) with feeds := (s.engine (c.f 0 8)).feeds ++ [f] } ∧ f.ticket = s.newTicket
      ∧ s.feedBytes f = l ∧ f.fin = (c.f 8 1 == 1) ∧ f.since = s.now ∧ OtherEngines (c.f 0 8) s t ∧ Waits 0x0804 c { s with vc := { s.vc with engines := t.vc.engines } } t := by
  obtain ⟨f, hft, hfl, hffin, hsince, hbody⟩ := vcDecFeed_body he hn hfin hhold hmode hend hfeeds hhost hl
  have hlen := hl.length
  obtain ⟨E, hE⟩ : ∃ E, s.entered 0x0804 c = E := ⟨_, rfl⟩
  have hEengine : ∀ k, E.engine k = s.engine k := fun k => by rw [← hE, State.engine, State.entered_vc]; rfl
  have hEbytes : ∀ g, (E.feeding (c.f 0 8) f).feedBytes g = s.feedBytes g := fun g => by
    unfold State.feedBytes State.devRead
    rw [show (E.feeding (c.f 0 8) f).dram = s.dram by rw [← State.entered_dram s 0x0804 c, hE]; rfl]
  have htake : State.takeFeeds (c.f 0 8) 1 (E.feeding (c.f 0 8) f) = E.feeding (c.f 0 8) f := by
    obtain ⟨hnone, hfull⟩ | ⟨g, r, hg, hfull⟩ := hfull
    · refine takeFeeds_one_full (f := f) (r := []) (by rw [feeding_engine, hEengine, hnone]; rfl) ?_
      rw [hEbytes, hfl s rfl, hlen, feeding_engine, hEengine]
      exact hfull
    · refine takeFeeds_one_full (f := g) (r := r ++ [f]) (by rw [feeding_engine, hEengine, hg]; rfl) ?_
      rw [hEbytes, feeding_engine, hEengine]
      exact hfull
  rw [hE, htake, ← hE] at hbody
  obtain ⟨t, hx, hwaits⟩ := Runs.waits (i := .vcDecFeed c) (spec := vcDecFeedSpec) (body := vcDecFeedBody) (e := s.feeding (c.f 0 8) f) ha.1.1 ha
    (by simp [vcDecFeedSpec, ho.1]) (by rw [ho.1]; exact ho.2) (fun h => absurd h (Nat.ne_of_lt hwin)) hbody
    (runs_of_comm (fun z => z.feeding (c.f 0 8) f) (fun _ _ _ _ => rfl) rfl rfl rfl rfl) rfl rfl
  have hv : t.vc = (s.feeding (c.f 0 8) f).vc := by rw [hwaits.2.2.1]
  have hte : ∀ k, t.engine k = (s.feeding (c.f 0 8) f).engine k := fun k => by rw [State.engine, hv]; rfl
  refine ⟨t, f, hx, (hte _).trans feeding_engine, hft, hfl s rfl, hffin, hsince, fun k hk => (hte k).trans (engine_modEngine_other hk _ s), ?_⟩
  rw [hv]
  exact hwaits

end

/-! ### FEED_TIMEOUT -/

theorem feedTimeout_idle {e : Nat} {s : State} (he : e < 2) (h : (s.engine e).feeds = []) : exec (.feedTimeout e) s = .next s := by
  refine exec_next (i := .feedTimeout e) rfl (decide_eq_true he) ?_ rfl
  rw [h]

theorem feedTimeout_answers {e : Nat} {f : Feed} {g : Flight} {s : State} (he : e < 2) (hfeeds : (s.engine e).feeds = [f]) (haw : s.awaits f.ticket g) :
    ∃ t, exec (.feedTimeout e) s = .next t ∧ Answered g.opcode g.cmd 9 0 0 t ∧ t.engine e = { s.engine e with feeds := [] } ∧ OtherEngines e s t
      ∧ Replied g { s with now := max s.now (f.since + 1000000000), vc := { s.vc with engines := t.vc.engines } } t := by
  obtain ⟨u, hu⟩ : ∃ u, u = (s.atLeast (f.since + 1000000000)).modEngine e fun x => { x with feeds := [] } := ⟨_, rfl⟩
  have haw' : u.awaits f.ticket g := awaits_congr haw (by rw [hu]; rfl) (by rw [hu]; rfl)
  have hexec : exec (.feedTimeout e) s = .next (u.finalReply f.ticket cTIMEOUT 0 0) := by
    refine exec_next (i := .feedTimeout e) rfl (decide_eq_true he) ?_ ((State.finalReply_pending _ _ _ _ _).trans (by rw [hu]; rfl))
    rw [hfeeds, hu]
    rfl
  have hrep := finalReply_replied haw' cTIMEOUT 0 0
  have hv : (u.finalReply f.ticket cTIMEOUT 0 0).vc = u.vc := State.finalReply_vc _ _ _ _ _
  have hte : ∀ k, (u.finalReply f.ticket cTIMEOUT 0 0).engine k = u.engine k := fun k => by rw [State.engine, hv]; rfl
  refine ⟨_, hexec, finalReply_answered u haw'.2 haw'.1 (by decide) 0 0, ?_, fun k hk => ?_, ?_⟩
  · rw [hte, hu]
    exact engine_modEngine_same e _ (s.atLeast _)
  · rw [hte, hu]
    exact engine_modEngine_other hk _ (s.atLeast _)
  · rw [hv]
    rw [hu] at hrep ⊢
    exact hrep

/-! ### PICTURE_DONE and PICTURE_DEADLINE: pictures that are dropped, and encoded ones (R359, R363 to R366) -/

/-- What an engine keeps of a dropped picture. -/
abbrev Engine.pictureless (x : Engine) : Engine :=
  { x with work := none, skipped := x.skipped + 1, dropped := x.dropped + 1, idr := (x.work.bind fun w => w.idr).toList ++ x.idr }

theorem afterPicture_open {e : Nat} {s : State} (hend : ¬ (s.vcp e P.VC_MODE = 2 ∧ (s.engine e).atEnd = true)) (hclosing : (s.engine e).closing = none) : s.afterPicture e = s := by
  unfold State.afterPicture
  dsimp only
  rw [if_neg (c := s.vcp e P.VC_MODE = 2 ∧ _ ∧ _) fun h => hend ⟨h.1, h.2.2⟩, if_neg fun h => by rw [hclosing] at h; exact Bool.false_ne_true h.1]

/-- Besides engine `e`'s own record, the parameters at the keys `l` and event records, `t` is `s`. -/
def EngineStep (e : Nat) (l : List Nat) (s t : State) : Prop :=
  OtherEngines e s t ∧ SameParams l s t ∧ EventsOnly { s with params := t.params, vc := { s.vc with engines := t.vc.engines } } t

theorem EngineStep.refl (e : Nat) (l : List Nat) (s : State) : EngineStep e l s s := ⟨fun _ _ => rfl, fun _ _ => rfl, EventsOnly.refl s⟩

theorem EngineStep.trans {e : Nat} {l : List Nat} {s t u : State} (h : EngineStep e l s t) (g : EngineStep e l t u) : EngineStep e l s u := by
  obtain ⟨heng, hpar, hev⟩ := h
  obtain ⟨geng, gpar, gev⟩ := g
  exact ⟨heng.trans geng, hpar.trans gpar,
    (hev.lift (fun z => { z with params := u.params, vc := { z.vc with engines := u.vc.engines } }) (fun _ _ _ _ _ => rfl) fun _ => rfl).trans gev⟩

theorem engineStep_modEngine (e : Nat) (l : List Nat) (f : Engine → Engine) (s : State) : EngineStep e l s (s.modEngine e f) :=
  ⟨otherEngines_modEngine e f s, fun _ _ => rfl, EventsOnly.refl _⟩

theorem ParamEvents.engineStep {e : Nat} {l : List Nat} {s t : State} (h : ParamEvents l s t) : EngineStep e l s t := by
  obtain ⟨hev, hpar⟩ := h
  have hvc : t.vc = s.vc := by
    obtain ⟨⟨_, _, _, _, h⟩, -⟩ := hev
    rw [h]
  exact ⟨fun k _ => hev.engine k, hpar, by rw [hvc]; exact hev⟩

/-- The parameters of an engine do not share keys. -/
theorem vcp_setP_other (e v : Nat) {i j : Nat} (h : j ≠ i) (s : State) : (s.setP (P.vc e i) 0 v).vcp e j = s.vcp e j := by
  refine (State.getP_setP s _ _ _ _ _).trans (if_neg ?_)
  simp only [pkey, P.vc]
  omega

section
variable {e t : Nat} {o : PicOutcome} {s : State} (he : e < 2)
include he

theorem pictureDone_idle (h : (s.engine e).work = none) : exec (.pictureDone e t o) s = .next { s with now := max s.now t } := by
  refine exec_next (i := .pictureDone e t o) rfl (decide_eq_true he) ?_ rfl
  dsimp only
  rw [show ((s.atLeast t).engine e).work = none from h]
  rfl

theorem pictureDeadline_idle (h : (s.engine e).work = none) : exec (.pictureDeadline e) s = .next s := by
  refine exec_next (i := .pictureDeadline e) rfl (decide_eq_true he) ?_ rfl
  rw [h]

variable {x : Engine} {w : PicWork} (hx : s.engine e = x) (hw : x.work = some w)
include hx hw

omit he in
theorem pictureDone_exec : exec (.pictureDone e t o) s = guarded (.pictureDone e t o) s (State.afterPicture e
    (if w.deadline < t then (s.atLeast t).dropPicture e
    else if s.vcp e P.VC_MODE = 1 then (s.atLeast t).encodeDone e t w o else (s.atLeast t).decodeDone e t w o)) := by
  refine Eq.trans (b := guarded (.pictureDone e t o) s _) rfl (congrArg _ ?_)
  dsimp only
  rw [show ((s.atLeast t).engine e).work = some w from hx ▸ hw]
  rfl

omit he in
theorem pictureDeadline_exec : exec (.pictureDeadline e) s = guarded (.pictureDeadline e) s (State.afterPicture e ((s.atLeast w.deadline).dropPicture e)) := by
  refine Eq.trans (b := guarded (.pictureDeadline e) s _) rfl (congrArg _ ?_)
  rw [show (s.engine e).work = some w from hx ▸ hw]

variable (hclosing : x.closing = none) (hend : ¬ (s.vcp e P.VC_MODE = 2 ∧ x.atEnd = true))
include hclosing hend

omit he in
theorem dropPicture_effect (now : Nat) : ∃ u, State.afterPicture e ((s.atLeast now).dropPicture e) = u
    ∧ u.engine e = { x with work := none, skipped := x.skipped + 1, dropped := x.dropped + 1, idr := w.idr.toList ++ x.idr } ∧ OtherEngines e s u
    ∧ u.vcp e P.VC_SKIPPED = min (s.vcp e P.VC_SKIPPED + 1) (2 ^ 32 - 1) ∧ SameParams [pkey (P.vc e P.VC_SKIPPED) 0] s u
    ∧ u = { s with now := max s.now now, params := u.params, vc := { s.vc with engines := u.vc.engines } } := by
  have hengine : ((s.atLeast now).dropPicture e).engine e = { x with work := none, skipped := x.skipped + 1, dropped := x.dropped + 1, idr := w.idr.toList ++ x.idr } := by
    refine (engine_modEngine_same e Engine.pictureless (s.atLeast now)).trans ?_
    rw [show (s.atLeast now).engine e = x from hx, Engine.pictureless, hw]
    rfl
  have hmode : ((s.atLeast now).dropPicture e).vcp e P.VC_MODE = s.vcp e P.VC_MODE := vcp_setP_other e _ (by decide) _
  refine ⟨(s.atLeast now).dropPicture e, afterPicture_open ?_ (by rw [hengine]; exact hclosing), hengine, fun k hk => engine_modEngine_other hk Engine.pictureless (s.atLeast now),
    State.getP_setP_same _ _ _ _, fun k hk => SMap.get_set_other pdef _ (by simpa using hk) _, rfl⟩
  rw [hmode, hengine]
  exact hend

theorem pictureDone_late (hlate : w.deadline < t) : ∃ u, exec (.pictureDone e t o) s = .next u
      ∧ u.engine e = { x with work := none, skipped := x.skipped + 1, dropped := x.dropped + 1, idr := w.idr.toList ++ x.idr } ∧ OtherEngines e s u
      ∧ u.vcp e P.VC_SKIPPED = min (s.vcp e P.VC_SKIPPED + 1) (2 ^ 32 - 1) ∧ SameParams [pkey (P.vc e P.VC_SKIPPED) 0] s u
      ∧ u = { s with now := max s.now t, params := u.params, vc := { s.vc with engines := u.vc.engines } } := by
  obtain ⟨u, hu, hengine, hother, hskip, hpar, hframe⟩ := dropPicture_effect hx hw hclosing hend t
  have hexec := pictureDone_exec (t := t) (o := o) hx hw
  rw [if_pos hlate, hu] at hexec
  exact ⟨u, exec_next hexec (decide_eq_true he) rfl (by rw [hframe]), hengine, hother, hskip, hpar, hframe⟩

theorem pictureDeadline_drops : ∃ u, exec (.pictureDeadline e) s = .next u
      ∧ u.engine e = { x with work := none, skipped := x.skipped + 1, dropped := x.dropped + 1, idr := w.idr.toList ++ x.idr } ∧ OtherEngines e s u
      ∧ u.vcp e P.VC_SKIPPED = min (s.vcp e P.VC_SKIPPED + 1) (2 ^ 32 - 1) ∧ SameParams [pkey (P.vc e P.VC_SKIPPED) 0] s u
      ∧ u = { s with now := max s.now w.deadline, params := u.params, vc := { s.vc with engines := u.vc.engines } } := by
  obtain ⟨u, hu, hengine, hother, hskip, hpar, hframe⟩ := dropPicture_effect hx hw hclosing hend w.deadline
  have hexec := pictureDeadline_exec hx hw
  rw [hu] at hexec
  exact ⟨u, exec_next hexec (decide_eq_true he) rfl (by rw [hframe]), hengine, hother, hskip, hpar, hframe⟩

end

/-! ### Encoded pictures (R363 to R366) -/

/-- The record of an encoded picture. -/
def encodedRecord (t : Nat) (x : Engine) (w : PicWork) (o : PicOutcome) (k : Option Nat) (m : List Nat) : PicRecord :=
  { tag := w.tag, number := w.number, poc := o.poc, picType := if w.idr.isSome then 0 else 2, flags := 16 + 2 * b2n k.isSome + b2n (!m.isEmpty), damage := m
    firstClamped := (k.map fun c => c / max (ctuCols x.width) 1).getD 0xFFFF, buffer := w.buffer, stride := ycStride x.width, width := x.width
    height := x.height, start := w.start, done := t, bits := min o.bits w.budget, budget := w.budget, qp := o.qpAvg, phase := w.phase, skipped := x.skipped }

/-- A clamped picture is counted. -/
def State.clampCounted (e : Nat) (w : PicWork) (x : Engine) (k : Option Nat) (s : State) : State :=
  if k.isSome then (s.bumpSat (P.vc e P.VC_CLAMPED) 0 1).postVc 0x83 e (w.number + at' 32 ((k.map fun c => c / max (ctuCols x.width) 1).getD 0xFFFF) + at' 48 w.budget) else s

/-- An IDR picture is counted. -/
def State.keyCounted (e : Nat) (w : PicWork) (s : State) : State := if w.idr.isSome then s.bumpWrap (P.vc e P.VC_KEYS) 0 1 else s

/-- What an encoder keeps after a picture. -/
def Engine.encoded (w : PicWork) (r : PicRecord) (a : Bool) (y : Engine) : Engine :=
  { y with
    work := none, first := false, prevBits := r.bits, number := wrap32 (y.number + 1), skipped := 0
    gop := if w.idr.isSome then 1 else y.gop + 1, idr := if a then y.idr else 3 :: y.idr }

theorem encodeDone_eq (e t : Nat) (w : PicWork) (o : PicOutcome) (s : State) : ∀ m r, m = (s.poisonUnits [w.buffer] (s.engine e).width (s.engine e).height).eraseDups →
    r = encodedRecord t (s.engine e) w o (s.clampAt e w o) m → s.encodeDone e t w o =
    let a := ((((s.pictureDamaged e w.number m.length 0).clampCounted e w (s.engine e) (s.clampAt e w o)).keyCounted e w).keepRecord e r).appendPicture e r o.nal
    a.1.modEngine e (Engine.encoded w r a.2) := by
  rintro - - rfl rfl
  rfl

/-- Besides the parameter `i` of engine `e`, which reads `v`, and event records, `t` is `s`. -/
def VcCount (e i v : Nat) (s t : State) : Prop := ParamEvents [pkey (P.vc e i) 0] s t ∧ t.vcp e i = v ∧ ∀ j, j ≠ i → t.vcp e j = s.vcp e j

theorem vcCount_refl (e i : Nat) (s : State) : VcCount e i (s.vcp e i) s s := ⟨ParamEvents.refl _ s, rfl, fun _ _ => rfl⟩

theorem vcCount_setP (e i v : Nat) (s : State) : VcCount e i v s (s.setP (P.vc e i) 0 v) :=
  ⟨(ParamEvents.refl _ s).setP List.mem_cons_self v, State.getP_setP_same _ _ _ _, fun _ h => vcp_setP_other e v h s⟩

theorem VcCount.post {e i v : Nat} {s t : State} (h : VcCount e i v s t) (typ payload : Nat) : VcCount e i v s (t.postVc typ e payload) :=
  ⟨h.1.events (eventsOnly_post _ _ _ _ _), (State.post_getP _ _ _ _ _ _ _).trans h.2.1, fun j hj => (State.post_getP _ _ _ _ _ _ _).trans (h.2.2 j hj)⟩

theorem pictureDamaged_count (e number units extra : Nat) (s : State) :
    VcCount e P.VC_DAMAGED (if units = 0 then s.vcp e P.VC_DAMAGED else min (s.vcp e P.VC_DAMAGED + 1) (2 ^ 32 - 1)) s (s.pictureDamaged e number units extra) := by
  unfold State.pictureDamaged
  split
  · exact vcCount_refl e _ s
  · exact (vcCount_setP e _ _ s).post _ _

theorem clampCounted_count (e : Nat) (w : PicWork) (x : Engine) (k : Option Nat) (s : State) :
    VcCount e P.VC_CLAMPED (if k.isSome then min (s.vcp e P.VC_CLAMPED + 1) (2 ^ 32 - 1) else s.vcp e P.VC_CLAMPED) s (s.clampCounted e w x k) := by
  unfold State.clampCounted
  split
  · exact (vcCount_setP e _ _ s).post _ _
  · exact vcCount_refl e _ s

theorem keyCounted_count (e : Nat) (w : PicWork) (s : State) :
    VcCount e P.VC_KEYS (if w.idr.isSome then (s.vcp e P.VC_KEYS + 1) % 2 ^ 32 else s.vcp e P.VC_KEYS) s (s.keyCounted e w) := by
  unfold State.keyCounted
  split
  · exact vcCount_setP e _ _ s
  · exact vcCount_refl e _ s

/-- The parameters that count pictures. -/
abbrev pictureKeys (e : Nat) : List Nat := [pkey (P.vc e P.VC_PICTURES) 0, pkey (P.vc e P.VC_KEYS) 0, pkey (P.vc e P.VC_CLAMPED) 0, pkey (P.vc e P.VC_DAMAGED) 0]

/-- An encoded picture has been counted, before its record is kept. -/
theorem encodeCounts_effect (e units : Nat) (w : PicWork) (x : Engine) (k : Option Nat) (s : State) :
    ParamEvents (pictureKeys e) s (((s.pictureDamaged e w.number units 0).clampCounted e w x k).keyCounted e w)
    ∧ (((s.pictureDamaged e w.number units 0).clampCounted e w x k).keyCounted e w).vcp e P.VC_DAMAGED
      = (if units = 0 then s.vcp e P.VC_DAMAGED else min (s.vcp e P.VC_DAMAGED + 1) (2 ^ 32 - 1))
    ∧ (((s.pictureDamaged e w.number units 0).clampCounted e w x k).keyCounted e w).vcp e P.VC_CLAMPED
      = (if k.isSome then min (s.vcp e P.VC_CLAMPED + 1) (2 ^ 32 - 1) else s.vcp e P.VC_CLAMPED)
    ∧ (((s.pictureDamaged e w.number units 0).clampCounted e w x k).keyCounted e w).vcp e P.VC_KEYS
      = (if w.idr.isSome then (s.vcp e P.VC_KEYS + 1) % 2 ^ 32 else s.vcp e P.VC_KEYS)
    ∧ ∀ j, j ≠ P.VC_DAMAGED → j ≠ P.VC_CLAMPED → j ≠ P.VC_KEYS → (((s.pictureDamaged e w.number units 0).clampCounted e w x k).keyCounted e w).vcp e j = s.vcp e j := by
  obtain ⟨hd, hdv, hdo⟩ := pictureDamaged_count e w.number units 0 s
  generalize s.pictureDamaged e w.number units 0 = a at hd hdv hdo
  obtain ⟨hc, hcv, hco⟩ := clampCounted_count e w x k a
  generalize a.clampCounted e w x k = b at hc hcv hco
  obtain ⟨hk, hkv, hko⟩ := keyCounted_count e w b
  generalize b.keyCounted e w = u at hk hkv hko
  refine ⟨((hd.mono ?_).trans (hc.mono ?_)).trans (hk.mono ?_), ?_, ?_, ?_, fun j h1 h2 h3 => (hko j h3).trans ((hco j h2).trans (hdo j h1))⟩
  · simp
  · simp
  · simp
  · rw [hko _ (by decide), hco _ (by decide), hdv]
  · rw [hko _ (by decide), hcv, hdo _ (by decide)]
  · rw [hkv, hco _ (by decide), hdo _ (by decide)]

theorem appendPicture_nowhere {e : Nat} {s : State} (h : 64 ≤ s.vcp e P.VC_ENC_BIN) (r : PicRecord) (nal : List Byte) : s.appendPicture e r nal = (s, true) := if_pos h

/-- An engine that keeps the record of a picture. -/
abbrev Engine.keeping (r : PicRecord) (x : Engine) : Engine := { x with records := (r :: x.records).take 16 }

theorem keepRecord_counts (e : Nat) (r : PicRecord) (s : State) : (s.keepRecord e r).vcp e P.VC_PICTURES = (s.vcp e P.VC_PICTURES + 1) % 2 ^ 32
    ∧ ∀ j, j ≠ P.VC_PICTURES → (s.keepRecord e r).vcp e j = s.vcp e j :=
  ⟨State.getP_setP_same (s.modEngine e (Engine.keeping r)) _ _ _, fun _ hj => vcp_setP_other e _ hj (s.modEngine e (Engine.keeping r))⟩

section
variable {e t : Nat} {o : PicOutcome} {x : Engine} {w : PicWork} {s : State} (he : e < 2) (hx : s.engine e = x) (hw : x.work = some w) (hclosing : x.closing = none)
  (ht : t ≤ w.deadline)
include he hx hw hclosing ht

theorem pictureDone_encodes (hmode : s.vcp e P.VC_MODE = 1) (hbin : 64 ≤ s.vcp e P.VC_ENC_BIN) (m : List Nat) (r : PicRecord)
    (hm : m = (s.poisonUnits [w.buffer] x.width x.height).eraseDups) (hr : r = encodedRecord t x w o (s.clampAt e w o) m) :
    ∃ u, exec (.pictureDone e t o) s = .next u ∧ u.engine e = { x with
          work := none, first := false, prevBits := r.bits, number := (x.number + 1) % 2 ^ 32, skipped := 0, gop := if w.idr.isSome then 1 else x.gop + 1
          records := (r :: x.records).take 16 }
        ∧ OtherEngines e s u ∧ u.vcp e P.VC_PICTURES = (s.vcp e P.VC_PICTURES + 1) % 2 ^ 32
        ∧ u.vcp e P.VC_KEYS = (if w.idr.isSome then (s.vcp e P.VC_KEYS + 1) % 2 ^ 32 else s.vcp e P.VC_KEYS)
        ∧ u.vcp e P.VC_CLAMPED = (if (s.clampAt e w o).isSome then min (s.vcp e P.VC_CLAMPED + 1) (2 ^ 32 - 1) else s.vcp e P.VC_CLAMPED)
        ∧ u.vcp e P.VC_DAMAGED = (if m = [] then s.vcp e P.VC_DAMAGED else min (s.vcp e P.VC_DAMAGED + 1) (2 ^ 32 - 1))
        ∧ SameParams (pictureKeys e) s u
        ∧ EventsOnly { s with now := max s.now t, params := u.params, vc := { s.vc with engines := u.vc.engines } } u := by
  have hexec := pictureDone_exec (t := t) (o := o) hx hw
  have hclamp : (s.atLeast t).clampAt e w o = s.clampAt e w o := rfl
  have hxt : (s.atLeast t).engine e = x := hx
  rw [if_neg (Nat.not_lt.2 ht), if_pos hmode, encodeDone_eq e t w o (s.atLeast t) m r (by rw [hxt]; exact hm) (by rw [hxt]; exact hr), hclamp, hxt] at hexec
  obtain ⟨hpe, hdam, hcl, hkey, hsame⟩ := encodeCounts_effect e m.length w x (s.clampAt e w o) (s.atLeast t)
  generalize (((s.atLeast t).pictureDamaged e w.number m.length 0).clampCounted e w x (s.clampAt e w o)).keyCounted e w = v at hexec hpe hdam hcl hkey hsame
  have hstep : EngineStep e (pictureKeys e) (s.atLeast t) (v.keepRecord e r) :=
    (hpe.engineStep.trans (engineStep_modEngine e _ (Engine.keeping r) v)).trans
      ((ParamEvents.refl _ _).setP (by simp) _).engineStep
  obtain ⟨hpic, hother⟩ := keepRecord_counts e r v
  have hengine : (v.keepRecord e r).engine e = x.keeping r := (engine_modEngine_same e (Engine.keeping r) v).trans (congrArg (Engine.keeping r) ((hpe.1.engine e).trans hxt))
  generalize v.keepRecord e r = y at hexec hstep hpic hother hengine
  rw [appendPicture_nowhere (by rw [hother _ (by decide), hsame _ (by decide) (by decide) (by decide)]; exact hbin)] at hexec
  have hzengine : (y.modEngine e (Engine.encoded w r true)).engine e = (x.keeping r).encoded w r true := (engine_modEngine_same e _ y).trans (by rw [hengine])
  have hzstep := hstep.trans (engineStep_modEngine e (pictureKeys e) (Engine.encoded w r true) y)
  have hzvcp : ∀ j, (y.modEngine e (Engine.encoded w r true)).vcp e j = y.vcp e j := fun _ => rfl
  dsimp only at hexec
  generalize y.modEngine e (Engine.encoded w r true) = z at hexec hzengine hzstep hzvcp
  rw [afterPicture_open (s := z) (fun h => by rw [hzvcp, hother _ (by decide), hsame _ (by decide) (by decide) (by decide)] at h; exact absurd (h.1.symm.trans hmode) (by decide))
    (by rw [hzengine]; exact hclosing)] at hexec
  obtain ⟨hzo, hzp, hzev⟩ := hzstep
  have hunits : (m.length = 0) = (m = []) := by rw [List.length_eq_zero_iff]
  refine ⟨z, exec_next hexec (decide_eq_true he) rfl hzev.pending, hzengine, hzo, ?_, ?_, ?_, ?_, hzp, hzev⟩
  · rw [hzvcp, hpic, hsame _ (by decide) (by decide) (by decide)]
    rfl
  · rw [hzvcp, hother _ (by decide), hkey]
    rfl
  · rw [hzvcp, hother _ (by decide), hcl]
    rfl
  · rw [hzvcp, hother _ (by decide), hdam]
    simp only [hunits]
    rfl

end

end Sys2Proof.Machine
end

section
/-! Codec engines: decoded pictures and the pacing of decoders (R359, R367 to R371). -/

namespace Sys2Proof.Machine

/-! ### Decoded pictures (R368 to R371) -/

/-- The units that a decoded picture marks. -/
def State.decodeMarks (s : State) (x : Engine) (w : PicWork) (o : PicOutcome) : List Nat :=
  (o.marked ++ (if w.poisoned then List.range (cdiv o.width 64 * cdiv o.height 64) else if o.picType < 2 then []
    else s.poisonUnits (x.pics.map Prod.snd ++ (x.newest.map Prod.snd).toList) o.width o.height)).eraseDups

/-- The first output buffer that nothing uses. -/
def State.freeOutput (s : State) (x : Engine) : Option Nat :=
  x.bufs.find? fun a => !(s.pictureSelected a || x.newest.any (fun p => p.2 == a) || x.good == some a || x.pics.any fun p => p.2 == a)

/-- What a decoder keeps of a picture that is skipped. -/
abbrev Engine.skipping (y : Engine) : Engine := { y with work := none, skipped := y.skipped + 1 }

/-- A picture that no buffer can take is skipped. -/
abbrev State.pictureSkipped (e : Nat) (s : State) : State := (s.bumpSat (P.vc e P.VC_SKIPPED) 0 1).modEngine e Engine.skipping

/-- The lines of a decoded picture are written. -/
def State.linesWritten (a : Nat) (o : PicOutcome) (row : Nat → List Byte) (n : Nat) (s : State) : State :=
  (List.range n).foldl (fun u y => u.devWrite (a + y * ycStride o.width) (row y) 32) s

/-- The record of a sound decoded picture. -/
def decodedRecord (t : Nat) (x : Engine) (w : PicWork) (o : PicOutcome) (a : Nat) (m : List Nat) : PicRecord :=
  { tag := w.tag, number := w.number, poc := o.poc, picType := o.picType, flags := b2n (!m.isEmpty) + 8 * b2n (x.mode == 1 && !m.isEmpty)
    buffer := a, stride := ycStride o.width, width := o.width, height := o.height, start := w.start, done := t, bits := o.bits, qp := o.qpAvg
    skipped := x.skipped, damage := m }

section
variable {e t : Nat} {o : PicOutcome} {x : Engine} {w : PicWork} {s : State} (hx : s.engine e = x) (hsps : o.sps = none)
include hx hsps

theorem decodeDone_skips (hbad : x.badSps ≠ none) : s.decodeDone e t w o = s.pictureSkipped e := by
  unfold State.decodeDone
  dsimp only
  rw [hsps]
  dsimp only
  rw [hx, if_pos (Option.isSome_iff_ne_none.2 hbad)]

/-- What a decoder keeps of a picture that is output to buffer `a`. -/
abbrev Engine.decoded (w : PicWork) (a : Nat) (y : Engine) : Engine := { y with work := none, skipped := 0, pics := y.pics ++ [(w.number, a)] }

theorem decodeDone_outputs (hbad : x.badSps = none) (hsyn : o.syntaxError = false) (href : o.missingRef = false) (hout : o.output = []) {a : Nat} (ha : s.freeOutput x = some a) :
    ∀ m r, m = s.decodeMarks x w o → r = decodedRecord t x w o a m → ∃ extra, s.decodeDone e t w o =
      (((s.pictureDamaged e w.number m.length extra).linesWritten a o (s.outputRow { o with marked := m } (x.mode == 1) x.good) o.height).keepRecord e r).modEngine e
        (Engine.decoded w a) := by
  rintro m r hm rfl
  unfold State.decodeDone
  dsimp only
  rw [hsps]
  dsimp only
  rw [hx, if_neg (by rw [hbad]; exact Bool.false_ne_true), show (x.bufs.find? _) = some a from ha]
  rw [hsyn, href, hout, show (o.marked ++ _).eraseDups = m from hm.symm]
  exact ⟨_, rfl⟩

end

theorem ycStride_holds (w : Nat) : 4 * w ≤ ycStride w := by
  unfold ycStride cdiv
  omega

theorem linesWritten_succ (a : Nat) (o : PicOutcome) (row : Nat → List Byte) (n : Nat) (s : State) :
    s.linesWritten a o row (n + 1) = (s.linesWritten a o row n).devWrite (a + n * ycStride o.width) (row n) 32 := by
  unfold State.linesWritten
  rw [List.range_succ, List.foldl_append]
  rfl

/-- The lines written stand in the buffer, and only its bytes have changed. -/
theorem linesWritten_effect {a : Nat} {o : PicOutcome} {row : Nat → List Byte} {s : State} (hflaws : s.dram.flaws = []) (hrow : ∀ y, (row y).length = 4 * o.width) (n : Nat) :
    ∃ bytes poison, s.linesWritten a o row n = s.remembering { s.dram with bytes := bytes, poison := poison }
      ∧ (∀ y, y < n → takeBytes zeroByte bytes (a + y * ycStride o.width) (4 * o.width) = row y)
      ∧ ∀ b, (b < a ∨ a + n * ycStride o.width ≤ b) → SMap.get zeroByte bytes b = s.devByte b := by
  induction n with
  | zero => exact ⟨s.dram.bytes, s.dram.poison, rfl, fun y hy => absurd hy (Nat.not_lt_zero y), fun b _ => rfl⟩
  | succ n ih =>
    obtain ⟨bytes, poison, hs, hlines, houtside⟩ := ih
    have hstride := ycStride_holds o.width
    rw [linesWritten_succ, hs, devWrite_flawless (s := s.remembering { s.dram with bytes := bytes, poison := poison }) hflaws]
    refine ⟨_, _, rfl, fun y hy => ?_, fun b hb => ?_⟩
    · obtain rfl | hlt : y = n ∨ y < n := by omega
      · rw [← hrow y]
        exact takeBytes_putBytes _ _ _ _
      · refine (takeBytes_putBytes_other (.inl ?_)).trans (hlines y hlt)
        have := Nat.mul_le_mul_right (ycStride o.width) (Nat.succ_le_of_lt hlt)
        rw [Nat.succ_mul] at this
        omega
    · rw [Nat.succ_mul] at hb
      refine (get_putBytes_other ?_).trans (houtside b (by omega))
      rw [hrow]
      omega

theorem outputRow_length (s : State) (o : PicOutcome) (conceal : Bool) (good : Option Nat) (y : Nat) : (s.outputRow o conceal good y).length = 4 * o.width := by
  refine (length_flatMap_const (fun x => ?_) _).trans (by rw [List.length_range])
  split
  · cases good with
    | none => exact leBytes_length _ _
    | some a => exact takeBytes_length _ _ _ _
  · exact leBytes_length _ _

section
variable {e t : Nat} {o : PicOutcome} {x : Engine} {w : PicWork} {s : State} (he : e < 2) (hx : s.engine e = x) (hw : x.work = some w) (hclosing : x.closing = none)
  (hend : ¬ (s.vcp e P.VC_MODE = 2 ∧ x.atEnd = true)) (ht : t ≤ w.deadline) (hmode : 2 ≤ s.vcp e P.VC_MODE) (hsps : o.sps = none)
include he hx hw hclosing hend ht hmode hsps

theorem pictureDone_skips (hbad : x.badSps ≠ none) : ∃ u, exec (.pictureDone e t o) s = .next u
      ∧ u.engine e = { x with work := none, skipped := x.skipped + 1 } ∧ OtherEngines e s u
      ∧ u.vcp e P.VC_SKIPPED = min (s.vcp e P.VC_SKIPPED + 1) (2 ^ 32 - 1) ∧ SameParams [pkey (P.vc e P.VC_SKIPPED) 0] s u
      ∧ u = { s with now := max s.now t, params := u.params, vc := { s.vc with engines := u.vc.engines } } := by
  have hexec := pictureDone_exec (t := t) (o := o) hx hw
  rw [if_neg (Nat.not_lt.2 ht), if_neg (by omega), decodeDone_skips (s := s.atLeast t) hx hsps hbad] at hexec
  have hengine : ((s.atLeast t).pictureSkipped e).engine e = { x with work := none, skipped := x.skipped + 1 } :=
    (engine_modEngine_same e Engine.skipping _).trans (congrArg Engine.skipping hx)
  have hvmode : ((s.atLeast t).pictureSkipped e).vcp e P.VC_MODE = s.vcp e P.VC_MODE := vcp_setP_other e _ (by decide) (s.atLeast t)
  rw [afterPicture_open (by rw [hvmode, hengine]; exact hend) (by rw [hengine]; exact hclosing)] at hexec
  exact ⟨_, exec_next hexec (decide_eq_true he) rfl rfl, hengine, fun k hk => engine_modEngine_other hk Engine.skipping ((s.atLeast t).bumpSat _ _ _), State.getP_setP_same (s.atLeast t) _ _ _,
    fun k hk => SMap.get_set_other pdef _ (by simpa using hk) _, rfl⟩

theorem pictureDone_outputs (hbad : x.badSps = none) (hflaws : s.dram.flaws = []) (hsyn : o.syntaxError = false) (href : o.missingRef = false) (hout : o.output = [])
    (a : Nat) (m : List Nat) (r : PicRecord) (hm : m = s.decodeMarks x w o) (ha : s.freeOutput x = some a) (hr : r = decodedRecord t x w o a m) :
    ∃ u, exec (.pictureDone e t o) s = .next u
        ∧ u.engine e = { x with work := none, skipped := 0, pics := x.pics ++ [(w.number, a)], records := (r :: x.records).take 16 } ∧ OtherEngines e s u
        ∧ u.vcp e P.VC_PICTURES = (s.vcp e P.VC_PICTURES + 1) % 2 ^ 32
        ∧ u.vcp e P.VC_DAMAGED = (if m = [] then s.vcp e P.VC_DAMAGED else min (s.vcp e P.VC_DAMAGED + 1) (2 ^ 32 - 1))
        ∧ (∀ y, y < o.height → u.devRead (a + y * ycStride o.width) (4 * o.width) = s.outputRow { o with marked := m } (x.mode == 1) x.good y)
        ∧ (∀ b, (b < a ∨ a + o.height * ycStride o.width ≤ b) → u.devByte b = s.devByte b)
        ∧ SameParams [pkey (P.vc e P.VC_PICTURES) 0, pkey (P.vc e P.VC_DAMAGED) 0] s u ∧ EventsOnly { s with
            now := max s.now t, params := u.params, vc := { s.vc with engines := u.vc.engines }
            dram := { s.dram with bytes := u.dram.bytes, poison := u.dram.poison } } u := by
  have hexec := pictureDone_exec (t := t) (o := o) hx hw
  obtain ⟨extra, hdec⟩ := decodeDone_outputs (s := s.atLeast t) (e := e) (t := t) (w := w) hx hsps hbad hsyn href hout ha m r hm hr
  rw [if_neg (Nat.not_lt.2 ht), if_neg (by omega), hdec, show (s.atLeast t).outputRow { o with marked := m } (x.mode == 1) x.good = s.outputRow { o with marked := m } (x.mode == 1) x.good from rfl] at hexec
  obtain ⟨row, hrow⟩ : ∃ row, s.outputRow { o with marked := m } (x.mode == 1) x.good = row := ⟨_, rfl⟩
  have hlen : ∀ y, (row y).length = 4 * o.width := fun y => by
    rw [← hrow]
    exact outputRow_length s { o with marked := m } _ _ y
  rw [hrow] at hexec ⊢
  obtain ⟨hpe, hdam, hsame⟩ := pictureDamaged_count e w.number m.length extra (s.atLeast t)
  generalize (s.atLeast t).pictureDamaged e w.number m.length extra = v at hexec hpe hdam hsame
  have hvdram : v.dram = s.dram := by
    obtain ⟨⟨_, _, _, _, h⟩, -⟩ := hpe.1
    rw [h]
    rfl
  obtain ⟨bytes, poison, hlines, hin, hout⟩ := linesWritten_effect (a := a) (o := o) (s := v) (by rw [hvdram]; exact hflaws) hlen o.height
  rw [hlines] at hexec
  obtain ⟨hpic, hother⟩ := keepRecord_counts e r (v.remembering { v.dram with bytes := bytes, poison := poison })
  have hengine : ((v.remembering { v.dram with bytes := bytes, poison := poison }).keepRecord e r).engine e = x.keeping r :=
    (engine_modEngine_same e (Engine.keeping r) (v.remembering _)).trans (congrArg (Engine.keeping r) ((hpe.1.engine e).trans hx))
  obtain ⟨u, hu⟩ : ∃ u, u = ((v.remembering { v.dram with bytes := bytes, poison := poison }).keepRecord e r).modEngine e (Engine.decoded w a) := ⟨_, rfl⟩
  have huengine : u.engine e = (x.keeping r).decoded w a := by
    rw [hu, engine_modEngine_same, hengine]
  have huother : ∀ k, k ≠ e → u.engine k = s.engine k := fun k hk => by
    rw [hu, engine_modEngine_other hk]
    exact (engine_modEngine_other hk (Engine.keeping r) (v.remembering _)).trans (hpe.1.engine k)
  have hupar : u.params = ((v.remembering { v.dram with bytes := bytes, poison := poison }).keepRecord e r).params := by rw [hu]; rfl
  have huvcp : ∀ j, j ≠ P.VC_PICTURES → u.vcp e j = v.vcp e j := fun j hj => by
    rw [State.vcp, State.getP, hupar]
    exact hother j hj
  rw [← hu, afterPicture_open (by rw [huvcp _ (by decide), hsame _ (by decide), huengine]; exact hend) (by rw [huengine]; exact hclosing)] at hexec
  have hub : u.dram.bytes = bytes := by rw [hu]; rfl
  have hup : u.dram.poison = poison := by rw [hu]; rfl
  have hF := hpe.1.lift (fun z => { z with params := u.params, vc := { z.vc with engines := u.vc.engines }, dram := { z.dram with bytes := bytes, poison := poison } })
    (fun _ _ _ _ _ => rfl) fun _ => rfl
  refine ⟨u, exec_next hexec (decide_eq_true he) rfl ?_, huengine, huother, ?_, ?_, fun y hy => ?_, fun b hb => ?_, fun k hk => ?_, ?_⟩
  · exact (show u.pending = v.pending by rw [hu]; rfl).trans hpe.1.pending
  · rw [State.vcp, State.getP, hupar]
    exact hpic.trans (congrArg (fun k => (k + 1) % 2 ^ 32) (hsame P.VC_PICTURES (by decide)))
  · rw [huvcp _ (by decide), hdam]
    simp only [List.length_eq_zero_iff]
    rfl
  · rw [State.devRead, hub]
    exact hin y hy
  · rw [State.devByte, hub, hout b hb, State.devByte, hvdram]
    rfl
  · simp only [List.mem_cons, List.not_mem_nil, or_false, not_or] at hk
    rw [hupar]
    exact (SMap.get_set_other pdef _ hk.1 _).trans (hpe.2 k (by simpa using hk.2))
  · rw [hub, hup]
    refine (congrArg (EventsOnly _) ?_).mp hF
    rw [hu]
    rfl

end

/-! ### DECODE_PACE (R359, R367, R369) -/

/-- Besides engine `e`'s own record, its VC_STATE and VC_INPUT_FREE, the boundaries reached and event records, `t` is `s`. -/
def PaceStep (e : Nat) (s t : State) : Prop :=
  OtherEngines e s t ∧ SameParams [pkey (P.vc e P.VC_STATE) 0, pkey (P.vc e P.VC_INPUT_FREE) 0] s t ∧ EventsOnly { s with
    params := t.params, vc := { s.vc with engines := t.vc.engines }, ctl := { s.ctl with reached := t.ctl.reached, reachedAt := t.ctl.reachedAt } } t

theorem PaceStep.refl (e : Nat) (s : State) : PaceStep e s s := ⟨fun _ _ => rfl, fun _ _ => rfl, EventsOnly.refl s⟩

theorem PaceStep.trans {e : Nat} {s t u : State} (h : PaceStep e s t) (g : PaceStep e t u) : PaceStep e s u := by
  obtain ⟨heng, hpar, hev⟩ := h
  obtain ⟨geng, gpar, gev⟩ := g
  exact ⟨heng.trans geng, hpar.trans gpar,
    (hev.lift (fun z => { z with params := u.params, vc := { z.vc with engines := u.vc.engines }, ctl := { z.ctl with reached := u.ctl.reached, reachedAt := u.ctl.reachedAt } })
      (fun _ _ _ _ _ => rfl) fun _ => rfl).trans gev⟩

theorem EngineStep.paceStep {e : Nat} {s t : State} (h : EngineStep e [pkey (P.vc e P.VC_STATE) 0, pkey (P.vc e P.VC_INPUT_FREE) 0] s t) : PaceStep e s t := by
  obtain ⟨heng, hpar, hev⟩ := h
  obtain ⟨hr, ha⟩ : t.ctl.reached = s.ctl.reached ∧ t.ctl.reachedAt = s.ctl.reachedAt := by
    obtain ⟨⟨_, _, _, _, h⟩, -⟩ := hev
    rw [h]
    exact ⟨rfl, rfl⟩
  exact ⟨heng, hpar, by rw [hr, ha]; exact hev⟩

theorem paceStep_modEngine (e : Nat) (f : Engine → Engine) (s : State) : PaceStep e s (s.modEngine e f) := (engineStep_modEngine e _ f s).paceStep

theorem paceStep_reach (e : Nat) (b : Boundary) (s : State) : PaceStep e s (s.reach b) := ⟨fun _ _ => rfl, fun _ _ => rfl, EventsOnly.refl _⟩

theorem paceStep_inputReport (e : Nat) (s : State) : PaceStep e s (s.inputReport e) :=
  (ParamEvents.engineStep ((ParamEvents.refl _ s).setP (List.mem_cons_of_mem _ List.mem_cons_self) _)).paceStep

/-- A change of an engine's state. -/
theorem setVcState_effect (e new reason : Nat) (s : State) : PaceStep e s (s.setVcState e new reason) ∧ (s.setVcState e new reason).vcState e = new
    ∧ (s.setVcState e new reason).engine e = s.engine e := by
  unfold State.setVcState
  dsimp only
  split
  · next h => exact ⟨PaceStep.refl e s, h, rfl⟩
  · have hcount := (vcCount_setP e P.VC_STATE new s).post 0x80 (new + at' 8 (s.vcState e) + at' 16 reason + at' 24 (s.vcp e P.VC_MODE))
    exact ⟨(hcount.1.mono (by simp)).engineStep.paceStep, hcount.2.1, hcount.1.1.engine e⟩

/-- The picture that starts with unit `u`. -/
def State.startUnit (e p pace : Nat) (host : Bool) (u : List Byte) (irap : Bool) (s2 : State) : State :=
  let s3 := if irap then (let v := s2.applyReached (.irap e); v.modEngine e fun y => { y with mode := v.vcp e P.VC_DEC_MODE }) else s2
  let s4 := if s3.vcState e = 1 then s3.setVcState e 2 0 else s3
  let n := (s4.engine e).number
  let gap := if pace < 16 then s4.vcp e P.VC_DIV * s4.showPeriod pace / subTick else s4.vcp e P.VC_DEC_INTERVAL
  let w : PicWork := { number := n, tag := if pace < 16 then (s4.canvas pace).tag else s4.ring.tag, start := s4.now
                       deadline := (if pace < 16 then s4.now else p) + gap, idr := if irap then some 0 else none, unit := u
                       poisoned := !host && (s4.engine e).badUnit }
  let s5 := s4.modEngine e fun y => { y with work := some w, number := wrap32 (y.number + 1) }
  if s5.throttled n then s5.dropPicture e else s5

theorem paceStep_frame {e : Nat} {s t : State} (h : PaceStep e s t) : t.now = s.now ∧ t.ring = s.ring ∧ t.ctl.staged = s.ctl.staged ∧ t.pending = s.pending := by
  obtain ⟨-, -, ⟨_, _, _, _, h⟩, -⟩ := h
  rw [h]
  exact ⟨rfl, rfl, rfl, rfl⟩

theorem PaceStep.vcp {e : Nat} {s t : State} (h : PaceStep e s t) {j : Nat} (h1 : j ≠ P.VC_STATE) (h2 : j ≠ P.VC_INPUT_FREE) : t.vcp e j = s.vcp e j := by
  refine h.2.1.getP ?_
  simp only [List.mem_cons, List.not_mem_nil, or_false, not_or, pkey, P.vc]
  simp only [P.VC_STATE, P.VC_INPUT_FREE] at h1 h2 ⊢
  omega

/-- At an IRAP picture the staged decode mode takes effect. -/
def State.irapMode (e : Nat) (irap : Bool) (s : State) : State :=
  if irap then (s.applyReached (.irap e)).modEngine e fun y => { y with mode := (s.applyReached (.irap e)).vcp e P.VC_DEC_MODE } else s

theorem irapMode_effect {e : Nat} {s : State} (irap : Bool) (hstaged : s.ctl.staged = []) : PaceStep e s (s.irapMode e irap) ∧ (s.irapMode e irap).vcState e = s.vcState e
    ∧ (s.irapMode e irap).engine e = { s.engine e with mode := if irap then s.vcp e P.VC_DEC_MODE else (s.engine e).mode } := by
  cases irap with
  | false => exact ⟨PaceStep.refl e s, rfl, rfl⟩
  | true =>
    have h : s.irapMode e true = (s.reach (.irap e)).modEngine e fun y => { y with mode := s.vcp e P.VC_DEC_MODE } := by
      rw [State.irapMode, if_pos rfl, applyReached_unstaged hstaged]
      rfl
    rw [h]
    exact ⟨(paceStep_reach e _ s).trans (paceStep_modEngine e _ _), rfl, engine_modEngine_same e _ (s.reach _)⟩

/-- The engine of a picture that starts runs. -/
def State.runningPicture (e : Nat) (s : State) : State := if s.vcState e = 1 then s.setVcState e 2 0 else s

theorem runningPicture_effect {e : Nat} {s : State} (h : s.vcState e = 1 ∨ s.vcState e = 2) : PaceStep e s (s.runningPicture e) ∧ (s.runningPicture e).vcState e = 2
    ∧ (s.runningPicture e).engine e = s.engine e := by
  unfold State.runningPicture
  split
  · exact setVcState_effect e 2 0 s
  · next hne => exact ⟨PaceStep.refl e s, h.resolve_left hne, rfl⟩

/-- What an engine keeps when picture `w` starts. -/
abbrev Engine.starting (w : PicWork) (y : Engine) : Engine := { y with work := some w, number := wrap32 (y.number + 1) }

theorem not_throttled {s : State} (h : s.getP P.TH_STEP 0 = 0) (n : Nat) : s.throttled n = false := by
  rw [State.throttled, h]
  rfl

theorem startUnit_effect {e p : Nat} {host irap : Bool} {u : List Byte} {s : State} (hstaged : s.ctl.staged = []) (hst : s.vcState e = 1 ∨ s.vcState e = 2)
    (hth : s.getP P.TH_STEP 0 = 0) : ∃ z, s.startUnit e p 255 host u irap = z ∧ PaceStep e s z ∧ z.vcState e = 2
      ∧ z.engine e = { s.engine e with
          mode := if irap then s.vcp e P.VC_DEC_MODE else (s.engine e).mode, number := ((s.engine e).number + 1) % 2 ^ 32
          work := some {
            number := (s.engine e).number, tag := s.ring.tag, start := s.now, deadline := p + s.vcp e P.VC_DEC_INTERVAL, idr := if irap then some 0 else none, unit := u
            poisoned := !host && (s.engine e).badUnit } } := by
  obtain ⟨hirap, hist, hieng⟩ := irapMode_effect (e := e) irap hstaged
  obtain ⟨hrun, hrst, hreng⟩ := runningPicture_effect (e := e) (s := s.irapMode e irap) (by rw [hist]; exact hst)
  have hstep := hirap.trans hrun
  obtain ⟨w, hw, hs⟩ : ∃ w : PicWork, w = {
        number := (((s.irapMode e irap).runningPicture e).engine e).number, tag := ((s.irapMode e irap).runningPicture e).ring.tag
        start := ((s.irapMode e irap).runningPicture e).now, deadline := p + ((s.irapMode e irap).runningPicture e).vcp e P.VC_DEC_INTERVAL
        idr := if irap then some 0 else none, unit := u, poisoned := !host && (((s.irapMode e irap).runningPicture e).engine e).badUnit }
      ∧ s.startUnit e p 255 host u irap = ((s.irapMode e irap).runningPicture e).modEngine e (Engine.starting w) := by
    refine ⟨_, rfl, ?_⟩
    have hth' : (((s.irapMode e irap).runningPicture e)).getP P.TH_STEP 0 = 0 := (hstep.2.1.getP (by simp [pkey, P.vc, P.VC_STATE, P.VC_INPUT_FREE, P.TH_STEP]; omega)).trans hth
    exact if_neg (Bool.eq_false_iff.1 (not_throttled (by exact hth') _))
  obtain ⟨hnow, hring, -, -⟩ := paceStep_frame hstep
  have hint : ((s.irapMode e irap).runningPicture e).vcp e P.VC_DEC_INTERVAL = s.vcp e P.VC_DEC_INTERVAL := hstep.vcp (by decide) (by decide)
  have heng := hreng.trans hieng
  generalize (s.irapMode e irap).runningPicture e = v at hs hw hstep hrst hnow hring hint heng
  refine ⟨_, hs, hstep.trans (paceStep_modEngine e _ v), hrst, ?_⟩
  rw [engine_modEngine_same, hw, heng, hnow, hring, hint]
  rfl

/-- What DECODE_PACE does from the pacing boundary `p` on, for a stream that may run. -/
def State.takeUnit (e p : Nat) (s1 : State) : State :=
  let pace := s1.vcp e P.VC_DEC_PACE
  let host := s1.vcp e P.VC_MODE = 2
  let r := if host then s1.hostUnit e ((s1.engine e).input.length + 1) else s1.binUnit e
  let s2 := if host then (State.takeFeeds e (r.1.engine e).feeds.length r.1).inputReport e else r.1
  match r.2 with
  | none =>
    if host ∧ (s2.engine e).atEnd then s2.setVcState e 3 3
    else if !host ∧ s2.vcState e = 2 then s2.setVcState e 1 3 else s2
  | some (u, irap) => s2.startUnit e p pace host u irap

theorem decodePace_idle {e t : Nat} {s : State} (he : e < 2) (h : s.vcState e = 0 ∨ s.vcState e = 3 ∨ s.vcp e P.VC_MODE < 2 ∨ s.paceTime e = none) :
    exec (.decodePace e t) s = .next { s with now := max s.now t } := by
  refine exec_next (i := .decodePace e t) rfl (decide_eq_true he) ?_ rfl
  by_cases hstop : s.vcState e = 0 ∨ s.vcState e = 3 ∨ s.vcp e P.VC_MODE < 2
  · exact if_pos hstop
  · have hnone : (s.atLeast t).paceTime e = none := h.elim (fun h => absurd (.inl h) hstop) fun h => h.elim (fun h => absurd (.inr (.inl h)) hstop)
      fun h => h.elim (fun h => absurd (.inr (.inr h)) hstop) id
    refine (if_neg hstop).trans ?_
    rw [hnone]
    rfl

/-- The stream at its pacing boundary. -/
theorem decodePace_exec {e t p : Nat} {s v : State} (hgo : ¬ (s.vcState e = 0 ∨ s.vcState e = 3 ∨ s.vcp e P.VC_MODE < 2)) (hp : s.paceTime e = some p)
    (hv : (((s.atLeast t).atLeast p).nextPace e p).pictureBoundary e = v) (hst : v.vcState e ≠ 0)
    (hrun : ¬ ((v.vcp e P.VC_DEC_PACE < 16 ∧ v.cvState (v.vcp e P.VC_DEC_PACE) ≠ 2) ∨ v.powerState = 2 ∨ v.captureHeld = true)) :
    exec (.decodePace e t) s = guarded (.decodePace e t) s (v.takeUnit e p) := by
  subst hv
  refine Eq.trans (b := guarded (.decodePace e t) s _) rfl (congrArg _ ?_)
  refine (if_neg hgo).trans ?_
  rw [show (s.atLeast t).paceTime e = some p from hp]
  exact (if_neg hst).trans (if_neg hrun)

theorem takeUnit_host {e p : Nat} {s v : State} {u : List Byte} {irap : Bool} (hmode : s.vcp e P.VC_MODE = 2) (hr : s.hostUnit e ((s.engine e).input.length + 1) = (v, some (u, irap)))
    (hfeeds : (v.engine e).feeds = []) : s.takeUnit e p = (v.inputReport e).startUnit e p (s.vcp e P.VC_DEC_PACE) true u irap := by
  have htake : (State.takeFeeds e (v.engine e).feeds.length v).inputReport e = v.inputReport e := by rw [hfeeds]; rfl
  unfold State.takeUnit
  dsimp only
  rw [if_pos hmode, if_pos hmode, hr]
  dsimp only
  rw [htake, hmode]
  rfl

theorem takeUnit_bin {e p : Nat} {s v : State} {u : List Byte} {irap : Bool} (hmode : s.vcp e P.VC_MODE ≠ 2) (hr : s.binUnit e = (v, some (u, irap))) :
    s.takeUnit e p = v.startUnit e p (s.vcp e P.VC_DEC_PACE) false u irap := by
  unfold State.takeUnit
  dsimp only
  rw [if_neg hmode, if_neg hmode, hr, decide_eq_false hmode]

theorem pictureBoundary_quiet {e : Nat} {s : State} (hw : (s.engine e).work = none) (hclosing : (s.engine e).closing = none) (hstaged : s.ctl.staged = []) :
    s.pictureBoundary e = s.reach (.picture e) := by
  unfold State.pictureBoundary
  dsimp only
  rw [hw, Option.isSome_none, if_neg Bool.false_ne_true, hclosing, Option.isSome_none, if_neg Bool.false_ne_true, applyReached_unstaged hstaged]

/-- What a decoder keeps of the ring once the access unit before `rest` has been taken. -/
abbrev Engine.unitTaken (rest : List Byte) (irap : Bool) (v : Nat) (y : Engine) : Engine :=
  { y with input := rest, begun := y.begun || irap, skipRasl := if irap then !y.begun && v == 21 else y.skipRasl }

theorem hostUnit_takes {e n v : Nat} {u rest : List Byte} {irap : Bool} {s : State} (hnext : nextUnit (s.engine e).input ((s.engine e).ended && (s.engine e).feeds.isEmpty) = some (u, v, rest))
    (hirap : irap = decide (16 ≤ v ∧ v ≤ 23)) (hb : (s.engine e).begun = true ∨ irap = true) (hs : ¬ ((s.engine e).skipRasl = true ∧ (v = 8 ∨ v = 9))) :
    s.hostUnit e (n + 1) = (s.modEngine e (Engine.unitTaken rest irap v), some (u, irap)) := by
  subst hirap
  unfold State.hostUnit
  dsimp only
  rw [hnext]
  dsimp only
  refine if_neg fun h => ?_
  rw [Bool.or_eq_true, Bool.and_eq_true, Bool.and_eq_true, Bool.or_eq_true, beq_iff_eq, beq_iff_eq, Bool.not_eq_true', Bool.not_eq_true'] at h
  obtain ⟨h1, h2⟩ | h := h
  · rw [h1, h2] at hb
    exact hb.elim Bool.false_ne_true Bool.false_ne_true
  · exact hs h

/-- What a decoder keeps once it has taken record `r` of clip `c`. -/
abbrev Engine.recordTaken (c : Nat) (r : Rec) (bad : Bool) (y : Engine) : Engine := { y with clip := c, nextSeq := some (r.seq + 1), begun := true, badUnit := bad }

theorem binUnit_takes {e q : Nat} {l : List Rec} {r : Rec} {s : State} (hl : s.proxyRecords e = [((s.engine e).clip, l)]) (hq : (s.engine e).nextSeq = some q)
    (hr : (l.find? fun r => decide (q ≤ r.seq)) = some r) : s.binUnit e =
      (s.modEngine e (Engine.recordTaken (s.engine e).clip r !(s.recPoison r).isEmpty), some ((r.body.drop 0x20).take (r.field 0x2C 4), r.isIdr)) := by
  unfold State.binUnit
  dsimp only
  rw [hl, hq]
  simp [hr]

/-- The engine at its pacing boundary `p`. -/
abbrev Engine.paced (d p : Nat) (x : Engine) : Engine := { x with paceDue := false, pace := x.pace.map fun _ => p + d }

/-- The state at the pacing boundary `p` of engine `e`. -/
abbrev State.pacedAt (e t p : Nat) (s : State) : State :=
  (((s.atLeast t).atLeast p).modEngine e (Engine.paced (s.vcp e P.VC_DEC_INTERVAL) p)).reach (.picture e)

/-- What DECODE_PACE starts, once the next access unit is had. -/
theorem decodePace_of_unit {e t now p : Nat} {x y : Engine} {u : List Byte} {irap host : Bool} {s v : State} (he : e < 2) (hx : s.engine e = x) (hw : x.work = none)
    (hclosing : x.closing = none) (hstaged : s.ctl.staged = []) (hheld : s.captureHeld = false) (h255 : s.vcp e P.VC_DEC_PACE = 255) (hp : x.pace = some p)
    (hth : s.getP P.TH_STEP 0 = 0) (hnow : now = max (max s.now t) p) (hst : s.vcState e = 1 ∨ s.vcState e = 2) (hmode : 2 ≤ s.vcp e P.VC_MODE)
    (hv : PaceStep e (s.pacedAt e t p) v) (hvst : v.vcState e = s.vcState e)
    (hve : v.engine e = { y with paceDue := false, pace := some (p + s.vcp e P.VC_DEC_INTERVAL) }) (hym : y.mode = x.mode) (hyn : y.number = x.number)
    (htake : (s.pacedAt e t p).takeUnit e p = v.startUnit e p 255 host u irap) (hbad : (!host && y.badUnit) = y.badUnit) :
    ∃ z, exec (.decodePace e t) s = .next z ∧ z.vcState e = 2
      ∧ z.engine e = { y with
          pace := some (p + s.vcp e P.VC_DEC_INTERVAL), paceDue := false, mode := if irap then s.vcp e P.VC_DEC_MODE else x.mode, number := (x.number + 1) % 2 ^ 32
          work := some {
            number := x.number, tag := s.ring.tag, start := now, deadline := p + s.vcp e P.VC_DEC_INTERVAL, idr := if irap then some 0 else none, unit := u
            poisoned := y.badUnit } }
      ∧ OtherEngines e s z ∧ SameParams [pkey (P.vc e P.VC_STATE) 0, pkey (P.vc e P.VC_INPUT_FREE) 0] s z ∧ EventsOnly { s with
          now := now, params := z.params, vc := { s.vc with engines := z.vc.engines }
          ctl := { s.ctl with reached := z.ctl.reached, reachedAt := z.ctl.reachedAt } } z := by
  have hpaced : ((((s.atLeast t).atLeast p).modEngine e (Engine.paced (s.vcp e P.VC_DEC_INTERVAL) p))).engine e = x.paced (s.vcp e P.VC_DEC_INTERVAL) p :=
    (engine_modEngine_same e _ ((s.atLeast t).atLeast p)).trans (congrArg _ hx)
  have hbound : (((s.atLeast t).atLeast p).nextPace e p).pictureBoundary e = s.pacedAt e t p :=
    pictureBoundary_quiet (s := ((s.atLeast t).atLeast p).modEngine e (Engine.paced (s.vcp e P.VC_DEC_INTERVAL) p)) (by rw [hpaced]; exact hw) (by rw [hpaced]; exact hclosing) hstaged
  have htime : s.paceTime e = some p := by
    unfold State.paceTime
    dsimp only
    rw [if_pos h255, hx, hp]
  have hpower : s.powerState ≠ 2 := fun h => by
    rw [State.captureHeld, h] at hheld
    cases hheld
  have hexec := decodePace_exec (t := t) (by omega) htime hbound (show s.vcState e ≠ 0 by omega) (by
    rintro (⟨h, -⟩ | h | h)
    · rw [show (s.pacedAt e t p).vcp e P.VC_DEC_PACE = s.vcp e P.VC_DEC_PACE from rfl, h255] at h
      omega
    · exact hpower h
    · exact Bool.false_ne_true (hheld.symm.trans h))
  obtain ⟨hvnow, hvring, hvstaged, hvpend⟩ := paceStep_frame hv
  have hvth : v.getP P.TH_STEP 0 = 0 := (hv.2.1.getP (by simp [pkey, P.vc, P.VC_STATE, P.VC_INPUT_FREE, P.TH_STEP]; omega)).trans hth
  obtain ⟨z, hz, hstep, hzst, hzeng⟩ := startUnit_effect (p := p) (host := host) (irap := irap) (u := u) (hvstaged.trans hstaged) (by rw [hvst]; exact hst) hvth
  rw [htake, hz] at hexec
  obtain ⟨hzo, hzp, hzev⟩ := hv.trans hstep
  have hfirst : PaceStep e { s with now := now } (s.pacedAt e t p) := by
    rw [hnow]
    exact (paceStep_modEngine e _ ((s.atLeast t).atLeast p)).trans (paceStep_reach e _ _)
  obtain ⟨hso, hsp, hsev⟩ := hfirst.trans (hv.trans hstep)
  refine ⟨z, exec_next hexec (decide_eq_true he) rfl hzev.pending, hzst, ?_, hso, hsp, hsev⟩
  rw [hzeng, hve, hvnow, hvring, hv.vcp (by decide) (by decide), hv.vcp (by decide) (by decide), hym, hyn]
  dsimp only
  rw [hbad, hnow]
  rfl

theorem pacedAt_engine {e t p : Nat} {x : Engine} {s : State} (hx : s.engine e = x) (hp : x.pace = some p) :
    (s.pacedAt e t p).engine e = { x with paceDue := false, pace := some (p + s.vcp e P.VC_DEC_INTERVAL) } := by
  refine (engine_modEngine_same e (Engine.paced (s.vcp e P.VC_DEC_INTERVAL) p) ((s.atLeast t).atLeast p)).trans ?_
  rw [show ((s.atLeast t).atLeast p).engine e = x from hx, Engine.paced, hp]
  rfl

section
variable {e t now p : Nat} {x y : Engine} {u : List Byte} {irap : Bool} {s : State} (he : e < 2) (hx : s.engine e = x) (hw : x.work = none)
    (hclosing : x.closing = none) (hstaged : s.ctl.staged = []) (hheld : s.captureHeld = false) (h255 : s.vcp e P.VC_DEC_PACE = 255) (hp : x.pace = some p)
    (hth : s.getP P.TH_STEP 0 = 0) (hnow : now = max (max s.now t) p) (hst : s.vcState e = 1 ∨ s.vcState e = 2)
include he hx hw hclosing hstaged hheld h255 hp hth hnow hst

theorem decodePace_host {v : Nat} {rest : List Byte} (hmode : s.vcp e P.VC_MODE = 2) (hfeeds : x.feeds = []) (hnext : nextUnit x.input x.ended = some (u, v, rest))
    (hirap : irap = decide (16 ≤ v ∧ v ≤ 23)) (hbad : x.badUnit = false) (hb : x.begun = true ∨ irap = true) (hs : ¬ (x.skipRasl = true ∧ (v = 8 ∨ v = 9)))
    (hy : y = { x with badUnit := false, input := rest, begun := true, skipRasl := if irap then !x.begun && v == 21 else x.skipRasl }) :
    ∃ z, exec (.decodePace e t) s = .next z ∧ z.vcState e = 2
      ∧ z.engine e = { y with
          pace := some (p + s.vcp e P.VC_DEC_INTERVAL), paceDue := false, mode := if irap then s.vcp e P.VC_DEC_MODE else x.mode, number := (x.number + 1) % 2 ^ 32
          work := some {
            number := x.number, tag := s.ring.tag, start := now, deadline := p + s.vcp e P.VC_DEC_INTERVAL, idr := if irap then some 0 else none, unit := u
            poisoned := y.badUnit } }
      ∧ OtherEngines e s z ∧ SameParams [pkey (P.vc e P.VC_STATE) 0, pkey (P.vc e P.VC_INPUT_FREE) 0] s z ∧ EventsOnly { s with
          now := now, params := z.params, vc := { s.vc with engines := z.vc.engines }
          ctl := { s.ctl with reached := z.ctl.reached, reachedAt := z.ctl.reachedAt } } z := by
  have heng := pacedAt_engine (t := t) hx hp
  have hbegun : (x.begun || irap) = true := by rw [Bool.or_eq_true]; exact hb
  have hunit := hostUnit_takes (n := ((s.pacedAt e t p).engine e).input.length) (s := s.pacedAt e t p) (e := e) (u := u) (v := v) (rest := rest) (irap := irap)
    (by rw [heng, hfeeds]; exact (congrArg (nextUnit x.input) (Bool.and_true _)).trans hnext) hirap (by rw [heng]; exact hb) (by rw [heng]; exact hs)
  have hveng := engine_modEngine_same e (Engine.unitTaken rest irap v) (s.pacedAt e t p)
  rw [heng] at hveng
  have htake := takeUnit_host (p := p) (s := s.pacedAt e t p) hmode hunit (by rw [hveng]; exact hfeeds)
  rw [show (s.pacedAt e t p).vcp e P.VC_DEC_PACE = 255 from h255] at htake
  refine decodePace_of_unit (y := y) he hx hw hclosing hstaged hheld h255 hp hth hnow hst (by omega)
    ((paceStep_modEngine e _ (s.pacedAt e t p)).trans (paceStep_inputReport e _)) ?_ ?_ (by rw [hy]) (by rw [hy]) htake (by rw [hy]; rfl)
  · exact vcp_setP_other e _ (by decide) (State.modEngine e (Engine.unitTaken rest irap v) (s.pacedAt e t p))
  · refine hveng.trans ?_
    rw [hy]
    dsimp only [Engine.unitTaken]
    rw [hbegun, hbad]

theorem decodePace_bin {q : Nat} {l : List Rec} {r : Rec} (hmode : s.vcp e P.VC_MODE = 3) (hl : s.proxyRecords e = [(x.clip, l)]) (hq : x.nextSeq = some q)
    (hr : (l.find? fun r => decide (q ≤ r.seq)) = some r) (hirap : irap = r.isIdr) (hu : u = (r.body.drop 0x20).take (r.field 0x2C 4))
    (hy : y = { x with nextSeq := some (r.seq + 1), begun := true, badUnit := !(s.recPoison r).isEmpty }) :
    ∃ z, exec (.decodePace e t) s = .next z ∧ z.vcState e = 2
      ∧ z.engine e = { y with
          pace := some (p + s.vcp e P.VC_DEC_INTERVAL), paceDue := false, mode := if irap then s.vcp e P.VC_DEC_MODE else x.mode, number := (x.number + 1) % 2 ^ 32
          work := some {
            number := x.number, tag := s.ring.tag, start := now, deadline := p + s.vcp e P.VC_DEC_INTERVAL, idr := if irap then some 0 else none, unit := u
            poisoned := y.badUnit } }
      ∧ OtherEngines e s z ∧ SameParams [pkey (P.vc e P.VC_STATE) 0, pkey (P.vc e P.VC_INPUT_FREE) 0] s z ∧ EventsOnly { s with
          now := now, params := z.params, vc := { s.vc with engines := z.vc.engines }
          ctl := { s.ctl with reached := z.ctl.reached, reachedAt := z.ctl.reachedAt } } z := by
  have heng := pacedAt_engine (t := t) hx hp
  have hrecs : (s.pacedAt e t p).proxyRecords e = s.proxyRecords e := by
    unfold State.proxyRecords
    rw [heng, hx]
    rfl
  have hunit := binUnit_takes (e := e) (s := s.pacedAt e t p) (by rw [hrecs, heng]; exact hl) (by rw [heng]; exact hq) hr
  rw [← hirap, ← hu, show (s.pacedAt e t p).recPoison r = s.recPoison r from rfl, heng] at hunit
  have hveng := engine_modEngine_same e (Engine.recordTaken x.clip r !(s.recPoison r).isEmpty) (s.pacedAt e t p)
  rw [heng] at hveng
  have htake := takeUnit_bin (p := p) (s := s.pacedAt e t p) (by rw [show (s.pacedAt e t p).vcp e P.VC_MODE = 3 from hmode]; decide) hunit
  rw [show (s.pacedAt e t p).vcp e P.VC_DEC_PACE = 255 from h255] at htake
  refine decodePace_of_unit (y := y) he hx hw hclosing hstaged hheld h255 hp hth hnow hst (by omega) (paceStep_modEngine e _ (s.pacedAt e t p)) rfl ?_
    (by rw [hy]) (by rw [hy]) htake rfl
  rw [hy]
  exact hveng

end

end Sys2Proof.Machine

open Sys2Proof Sys2Proof.Machine in
/-- Settles O48: the ring takes a chunk where it fits, a pacing boundary starts the next access unit, and a picture in progress completes or is dropped. -/
theorem picturesAreFedDecodedAndCompleted : Obligations.PicturesAreFedDecodedAndCompleted := by
  unfold Obligations.PicturesAreFedDecodedAndCompleted
  refine ⟨?feed, ?timeout, ?idle, ?pace, ?none, ?done⟩
  case feed =>
    rintro c - - - s ha hwin ho rfl rfl rfl
    refine ⟨vcDecFeed_badParam ha hwin ho, fun he hn hfin => ⟨vcDecFeed_notHolder ha hwin ho he hn hfin, vcDecFeed_wrongMode ha hwin ho he hn hfin,
      vcDecFeed_ended ha hwin ho he hn hfin, fun hhold hmode hend hfeeds hhost => ⟨vcDecFeed_aborted ha hwin ho he hn hfin hhold hmode hend hfeeds hhost,
        vcDecFeed_unmapped ha hwin ho he hn hfin hhold hmode hend hfeeds, fun l hl => ⟨vcDecFeed_copies ha hwin ho he hn hfin hhold hmode hend hfeeds hhost hl,
          vcDecFeed_waits ha hwin ho he hn hfin hhold hmode hend hfeeds hhost hl⟩⟩⟩⟩
  case timeout => exact fun e s he => ⟨feedTimeout_idle he, fun f g hf haw => feedTimeout_answers he hf haw⟩
  case idle => exact fun e t s he h => decodePace_idle he h
  case pace =>
    rintro e t now p x y u irap s he hx hw hclosing hstaged hheld h255 hp hth hnow hst (⟨hmode, hfeeds, v, rest, hnext, hirap, hbad, hb, hs, hy⟩ | ⟨hmode, l, q, r, hl, hq, hr, hirap, hu, hy⟩)
    · exact decodePace_host he hx hw hclosing hstaged hheld h255 hp hth hnow hst hmode hfeeds hnext hirap hbad hb hs hy
    · exact decodePace_bin he hx hw hclosing hstaged hheld h255 hp hth hnow hst hmode hl hq hr hirap hu hy
  case none => exact fun e t o s he h => ⟨pictureDone_idle he h, pictureDeadline_idle he h⟩
  case done =>
    intro e t o x w s he hx hw hclosing hend
    refine ⟨pictureDone_late he hx hw hclosing hend, pictureDeadline_drops he hx hw hclosing hend, ?_, fun ht hmode hsps hbad =>
      pictureDone_skips he hx hw hclosing hend ht hmode hsps hbad, fun ht hmode hsps hbad hflaws hsyn href hout a m r hm ha hr =>
      pictureDone_outputs he hx hw hclosing hend ht hmode hsps hbad hflaws hsyn href hout a m r hm ha hr⟩
    rintro ht hmode hbin - m r rfl hm hr
    exact pictureDone_encodes he hx hw hclosing ht hmode hbin m r hm hr
end

section
/-! Codec engines are opened, closed and read (R356 to R373); what every command of chapters 12 to 15 completes with. -/

namespace Sys2Proof.Machine

/-! ### States that differ in the control plane -/

/-- Only the control plane differs. -/
def CtlOnly (s t : State) : Prop := t = { s with ctl := t.ctl }

theorem CtlOnly.of_ctl (s : State) (x : Control) : CtlOnly s { s with ctl := x } := rfl

theorem CtlOnly.symm {s t : State} (h : CtlOnly s t) : CtlOnly t s := by
  unfold CtlOnly at h ⊢
  rw [h]

theorem CtlOnly.trans {s t u : State} (h : CtlOnly s t) (g : CtlOnly t u) : CtlOnly s u := by
  unfold CtlOnly at h g ⊢
  rw [g, h]

theorem EventsOnly.ctlOnly {s t : State} (h : EventsOnly s t) : CtlOnly s t := by
  obtain ⟨⟨_, _, _, _, h⟩, -⟩ := h
  rw [h]
  exact CtlOnly.of_ctl s _

theorem CtlOnly.setP {s t : State} (h : CtlOnly s t) (i j v : Nat) : CtlOnly (s.setP i j v) (t.setP i j v) := by
  rw [h]
  exact CtlOnly.of_ctl (s.setP i j v) t.ctl

theorem CtlOnly.getP {s t : State} (h : CtlOnly s t) (i j : Nat) : t.getP i j = s.getP i j := by rw [h]; rfl

theorem setUse_ctlOnly (used quota kind i v : Nat) (s : State) : CtlOnly (s.setP used i v) (s.setUse used quota kind i v) := by
  unfold State.setUse
  dsimp only
  split
  · exact CtlOnly.of_ctl _ s.ctl
  · unfold State.memQuotaEvent
    split <;> exact (eventsOnly_post _ _ _ _ _).ctlOnly

theorem CtlOnly.setUse {s t : State} (h : CtlOnly s t) (used quota kind i v : Nat) : CtlOnly (s.setUse used quota kind i v) (t.setUse used quota kind i v) :=
  ((setUse_ctlOnly used quota kind i v s).symm.trans (h.setP used i v)).trans (setUse_ctlOnly used quota kind i v t)

theorem CtlOnly.foldl {α : Type} {f : State → α → State} (hf : ∀ {s t : State} (a : α), CtlOnly s t → CtlOnly (f s a) (f t a)) : ∀ (l : List α) {s t : State},
    CtlOnly s t → CtlOnly (l.foldl f s) (l.foldl f t)
  | [], _, _, h => h
  | a :: l, _, _, h => CtlOnly.foldl hf l (hf a h)

theorem CtlOnly.foldl_setUse {s t : State} (h : CtlOnly s t) (used quota kind : Nat) (v : Nat → Nat) (l : List Nat) :
    CtlOnly (l.foldl (fun t k => t.setUse used quota kind k (v k)) s) (l.foldl (fun t k => t.setUse used quota kind k (v k)) t) :=
  CtlOnly.foldl (fun k hk => hk.setUse used quota kind k (v k)) l h

theorem memReport_eq (s : State) : s.memReport =
    (List.range 64).foldl (fun t w => t.setUse P.MEM_WINDOW_USED P.MEM_WINDOW_QUOTA 3 w (((s.dram.buffers.filter fun b => b.owner == .window w).map fun b => b.bytes / 0x100000).sum))
      ([1, 2, 3, 4].foldl (fun t k => t.setUse P.MEM_CARVE_USED P.MEM_CARVE_QUOTA 2 k (s.carveUsed k)) s) := rfl

theorem CtlOnly.memReport {s t : State} (h : CtlOnly s t) : CtlOnly s.memReport t.memReport := by
  have hd : t.dram = s.dram := by rw [h]
  have hu : t.carveUsed = s.carveUsed := by rw [h]; rfl
  rw [memReport_eq, memReport_eq, hd, hu]
  have hcarve := h.foldl_setUse P.MEM_CARVE_USED P.MEM_CARVE_QUOTA 2 s.carveUsed [1, 2, 3, 4]
  generalize [1, 2, 3, 4].foldl (fun t k => t.setUse P.MEM_CARVE_USED P.MEM_CARVE_QUOTA 2 k (s.carveUsed k)) s = a at hcarve
  generalize [1, 2, 3, 4].foldl (fun t k => t.setUse P.MEM_CARVE_USED P.MEM_CARVE_QUOTA 2 k (s.carveUsed k)) t = b at hcarve
  exact hcarve.foldl_setUse P.MEM_WINDOW_USED P.MEM_WINDOW_QUOTA 3 _ (List.range 64)

/-! ### Buffers of an engine -/

/-- Where an allocation is placed, or the code with which it fails. -/
def State.allocPlan (s : State) (k bytes : Nat) : AllocResult :=
  if s.getP P.MEM_CARVE_QUOTA k < s.carveUsed k + 2 * cdiv bytes pageBytes then .fail cQUOTA
  else if !s.pagesFree (cdiv bytes pageBytes) then .fail cNO_RESOURCE
  else match s.placeBuffer k (cdiv bytes pageBytes * pageBytes) with
    | none => .fail cNO_RESOURCE
    | some a => .base a

theorem allocBuffer_eq (k bytes : Nat) (o : BufOwner) (s : State) : s.allocBuffer k bytes o = match s.allocPlan k bytes with
    | .fail c => (s, .fail c)
    | .base a => ((s.remembering (s.dram.withBuffer (s.newBuffer k bytes a o))).memReport, .base a) := by
  by_cases hq : s.getP P.MEM_CARVE_QUOTA k < s.carveUsed k + 2 * cdiv bytes pageBytes
  · rw [State.allocPlan, if_pos hq]
    exact if_pos hq
  · by_cases hfree : (!s.pagesFree (cdiv bytes pageBytes)) = true
    · rw [State.allocPlan, if_neg hq, if_pos hfree]
      exact (if_neg hq).trans (if_pos hfree)
    · cases hp : s.placeBuffer k (cdiv bytes pageBytes * pageBytes) with
      | none =>
        rw [State.allocPlan, if_neg hq, if_neg hfree, hp]
        refine (if_neg hq).trans ((if_neg hfree).trans ?_)
        rw [hp]
      | some a =>
        rw [State.allocPlan, if_neg hq, if_neg hfree, hp]
        exact allocBuffer_places (Nat.not_lt.1 hq) (by simpa using hfree) hp

theorem CtlOnly.allocBuffer {s t : State} (h : CtlOnly s t) (k bytes : Nat) (o : BufOwner) : (t.allocBuffer k bytes o).2 = (s.allocBuffer k bytes o).2
    ∧ CtlOnly (s.allocBuffer k bytes o).1 (t.allocBuffer k bytes o).1 := by
  have hplan : t.allocPlan k bytes = s.allocPlan k bytes := by rw [h]; rfl
  have hbuf : ∀ a, t.dram.withBuffer (t.newBuffer k bytes a o) = s.dram.withBuffer (s.newBuffer k bytes a o) := fun a => by rw [h]; rfl
  rw [allocBuffer_eq, allocBuffer_eq, hplan]
  cases s.allocPlan k bytes with
  | fail c => exact ⟨rfl, h⟩
  | base a =>
    dsimp only
    rw [hbuf]
    refine ⟨rfl, CtlOnly.memReport ?_⟩
    rw [h]
    exact CtlOnly.of_ctl (s.remembering _) t.ctl

/-! The equation of `codecAlloc`. The kernel must not evaluate the page count of `allocBuffer`, whose divisor has 2 Mi successors; so the recursion's step is
opened as a function, and its match on the outcome is split with the outcome a variable. -/

theorem exists_pair {α β : Type} (p : α × β) : ∃ a b, p = (a, b) := ⟨p.1, p.2, rfl⟩

theorem natBrecOn_succ {β : Nat → Type} (F : (n : Nat) → Nat.below (motive := β) n → β n) (n : Nat) :
    ∃ b : Nat.below (motive := β) (n + 1), Nat.brecOn (motive := β) (n + 1) F = F (n + 1) b ∧ b.1 = Nat.brecOn n F := ⟨_, rfl, rfl⟩

/-- What an allocation of several buffers answers. -/
abbrev AllocRun : Type := State → State × List Nat × Option Nat

/-- The recursive call among those below `m`. -/
def belowHead : (m : Nat) → Nat.below (motive := fun _ => AllocRun) m → AllocRun
  | 0, _ => fun s => (s, [], none)
  | _ + 1, b => b.1

theorem codecAlloc_fun (e bytes : Nat) : State.codecAlloc e bytes = fun n => Nat.brecOn (motive := fun _ => AllocRun) n (State.codecAlloc._f e bytes) := by
  delta State.codecAlloc
  rfl

theorem codecAlloc_unfold (e bytes n : Nat) (s : State) : ∃ b : Nat.below (motive := fun _ => AllocRun) (n + 1),
    s.codecAlloc e bytes (n + 1) = State.codecAlloc._f e bytes (n + 1) b s ∧ b.1 = State.codecAlloc e bytes n := by
  obtain ⟨b, hb, hb1⟩ := natBrecOn_succ (State.codecAlloc._f e bytes) n
  refine ⟨b, ?_, ?_⟩
  · rw [codecAlloc_fun]
    exact congrFun hb s
  · rw [codecAlloc_fun, hb1]

theorem codecAllocStep_fails {e bytes n m c : Nat} {s t : State} (b : Nat.below (motive := fun _ => AllocRun) m) (hm : m = n + 1)
    (h : s.allocBuffer 3 bytes (.codec e n) = (t, .fail c)) : State.codecAlloc._f e bytes m b s = (s, [], some c) := by
  have hf : State.codecAlloc._f e bytes = delta% (State.codecAlloc._f e bytes) := rfl
  rw [hf]
  beta_reduce
  refine congrFun (g := fun _ => (s, [], some c)) ?_ b
  split
  · cases hm
  · obtain rfl := Nat.succ.inj hm
    funext x
    rw [h]

/-- What follows the first buffer `a`, by what the rest answered. -/
def allocated (s : State) (a : Nat) (r : State × List Nat × Option Nat) : State × List Nat × Option Nat :=
  match r.2.2 with
  | some c => (s, [], some c)
  | none => (r.1, a :: r.2.1, none)

theorem codecAllocStep_places {e bytes n m a : Nat} {s t : State} (b : Nat.below (motive := fun _ => AllocRun) m) (hm : m = n + 1)
    (h : s.allocBuffer 3 bytes (.codec e n) = (t, .base a)) : State.codecAlloc._f e bytes m b s = allocated s a (belowHead m b t) := by
  have hf : State.codecAlloc._f e bytes = delta% (State.codecAlloc._f e bytes) := rfl
  rw [hf]
  beta_reduce
  refine congrFun (g := fun b => allocated s a (belowHead m b t)) ?_ b
  split
  · cases hm
  · obtain rfl := Nat.succ.inj hm
    funext x
    rw [h]
    rfl

theorem codecAlloc_fails {e bytes n c : Nat} {s t : State} (h : s.allocBuffer 3 bytes (.codec e n) = (t, .fail c)) : s.codecAlloc e bytes (n + 1) = (s, [], some c) := by
  obtain ⟨b, hb, -⟩ := codecAlloc_unfold e bytes n s
  rw [hb, codecAllocStep_fails b rfl h]

theorem codecAlloc_places {e bytes n a : Nat} {s t : State} (h : s.allocBuffer 3 bytes (.codec e n) = (t, .base a)) :
    s.codecAlloc e bytes (n + 1) = allocated s a (t.codecAlloc e bytes n) := by
  obtain ⟨b, hb, hb1⟩ := codecAlloc_unfold e bytes n s
  rw [hb, codecAllocStep_places b rfl h, ← hb1]
  rfl

theorem codecAlloc_zero (e bytes : Nat) (s : State) : s.codecAlloc e bytes 0 = (s, [], none) := by
  rw [codecAlloc_fun]
  rfl

theorem allocated_code {s t : State} {a : Nat} {x y : State × List Nat × Option Nat} (h : y.2 = x.2) : (allocated t a y).2 = (allocated s a x).2 := by
  unfold allocated
  rw [h]
  cases x.2.2 <;> rfl

theorem CtlOnly.codecAlloc {e bytes : Nat} : ∀ (n : Nat) {s t : State}, CtlOnly s t → (t.codecAlloc e bytes n).2 = (s.codecAlloc e bytes n).2
  | 0, s, t, _ => by rw [codecAlloc_zero, codecAlloc_zero]
  | n + 1, s, t, h => by
    obtain ⟨hres, hstate⟩ := h.allocBuffer 3 bytes (.codec e n)
    obtain ⟨a, x, ha⟩ := exists_pair (s.allocBuffer 3 bytes (.codec e n))
    obtain ⟨b, y, hb⟩ := exists_pair (t.allocBuffer 3 bytes (.codec e n))
    rw [ha, hb] at hres hstate
    obtain rfl : y = x := hres
    cases y with
    | fail c => rw [codecAlloc_fails ha, codecAlloc_fails hb]
    | base p =>
      rw [codecAlloc_places ha, codecAlloc_places hb]
      exact allocated_code (CtlOnly.codecAlloc n hstate)

/-- The commands in progress, and whether Aipex is down, are the same. -/
def SameFlights (s t : State) : Prop := t.ctl.flights = s.ctl.flights ∧ t.aipexDown = s.aipexDown ∧ t.pending = s.pending

theorem SameFlights.refl (s : State) : SameFlights s s := ⟨rfl, rfl, rfl⟩

theorem SameFlights.trans {s t u : State} (h : SameFlights s t) (g : SameFlights t u) : SameFlights s u := ⟨g.1.trans h.1, g.2.1.trans h.2.1, g.2.2.trans h.2.2⟩

theorem EventsOnly.sameFlights {s t : State} (h : EventsOnly s t) : SameFlights s t := ⟨h.flights, h.aipexDown, h.pending⟩

theorem ParamEvents.sameFlights {l : List Nat} {s t : State} (h : ParamEvents l s t) : SameFlights s t := h.1.sameFlights

theorem remembering_sameFlights (s : State) (d : Dram) : SameFlights s (s.remembering d) := ⟨rfl, rfl, rfl⟩

theorem allocBuffer_sameFlights (k bytes : Nat) (o : BufOwner) (s : State) : SameFlights s (s.allocBuffer k bytes o).1 := by
  rw [allocBuffer_eq]
  cases s.allocPlan k bytes with
  | fail c => exact SameFlights.refl s
  | base a =>
    dsimp only
    exact (remembering_sameFlights s _).trans (memReport_paramEvents _).sameFlights

theorem codecAlloc_sameFlights (e bytes : Nat) : ∀ (n : Nat) (s : State), SameFlights s (s.codecAlloc e bytes n).1
  | 0, s => by
    rw [codecAlloc_zero]
    exact SameFlights.refl s
  | n + 1, s => by
    have hfirst := allocBuffer_sameFlights 3 bytes (.codec e n) s
    obtain ⟨a, x, ha⟩ := exists_pair (s.allocBuffer 3 bytes (.codec e n))
    rw [ha] at hfirst
    cases x with
    | fail c =>
      rw [codecAlloc_fails ha]
      exact SameFlights.refl s
    | base p =>
      rw [codecAlloc_places ha]
      have hrest := codecAlloc_sameFlights e bytes n a
      unfold allocated
      cases (a.codecAlloc e bytes n).2.2 with
      | some c => exact SameFlights.refl s
      | none => exact hfirst.trans hrest


/-- The buffers that an engine is opened with. -/
def State.openBuffers (s : State) (c : Cmd) : State × List Nat × Option Nat :=
  if c.f 8 8 = 1 then s.codecAlloc (c.f 0 8) (ycStride (s.preview.capture (c.f 0 8)).outW * (s.preview.capture (c.f 0 8)).outH) 2
  else if c.f 8 8 = 2 then s.codecAlloc (c.f 0 8) ringBytes 1 else (s, [], none)

/-- The engine as VC_OPEN leaves it, with the buffers `l`. -/
abbrev Engine.opened (c : Cmd) (p : Capture) (l : List Nat) (x : Engine) : Engine :=
  { bin := c.f 16 8, recEngine := c.f 24 8, clip := if c.f 8 8 = 3 then c.f 32 32 else 0, tag := c.f 64 32, bufs := l
    width := p.outW, height := p.outH, freeing := x.freeing, dropped := x.dropped }

/-- The holder, the mode and the reports of an engine that is opened. -/
def State.openedReports (c : Cmd) (s : State) : State :=
  (((s.setP (P.vc (c.f 0 8) P.VC_HOLDER) 0 c.win).setP (P.vc (c.f 0 8) P.VC_MODE) 0 (c.f 8 8)).codecReport (c.f 0 8)).inputReport (c.f 0 8)

/-- Whether the stream runs from the start. -/
abbrev State.runsAtOnce (c : Cmd) (s : State) : Prop :=
  c.f 8 8 = 1 ∧ s.cvState (s.vcp (c.f 0 8) P.VC_CAP_CANVAS) = 2 ∧ (s.canvas (s.vcp (c.f 0 8) P.VC_CAP_CANVAS)).held = false

theorem vcOpenBody_opens {k : Call} {s a : State} {l : List Nat} (hop : vcOpenOperands k.c = true) (hok : s.preview.streamOk (k.c.f 0 8) (k.c.f 8 8) = true)
    (hbin : k.c.f 8 8 = 3 → s.bin? (k.c.f 16 8) ≠ none) (hst : s.vcState (k.c.f 0 8) = 0) (hr : s.openBuffers k.c = (a, l, none)) :
    ∃ new, vcOpenBody k s = ((State.openedReports k.c (a.modEngine (k.c.f 0 8) (Engine.opened k.c (s.preview.capture (k.c.f 0 8)) l))).setVcState (k.c.f 0 8) new 0,
      .done cOK 4 ((State.openedReports k.c (a.modEngine (k.c.f 0 8) (Engine.opened k.c (s.preview.capture (k.c.f 0 8)) l))).vcp (k.c.f 0 8) P.VC_BW_RESERVED)) := by
  have hnone : ¬(k.c.f 8 8 = 3 ∧ (s.bin? (k.c.f 16 8)).isNone = true) := fun h => hbin h.1 (Option.isNone_iff_eq_none.1 h.2)
  refine ⟨if s.runsAtOnce k.c then 2 else 1, ?_⟩
  unfold vcOpenBody
  extract_lets e mode cap r s1 s2 s3 cv run
  refine (if_neg (by rw [hop]; decide)).trans ((if_neg (by rw [hok]; decide)).trans ((if_neg hnone).trans ((if_neg (not_not_intro hst)).trans ?_)))
  have hr' : r = (a, l, none) := hr
  clear_value r
  subst hr'
  rfl

/-! ### VC_OPEN completes -/

theorem engine_not_mem_bwKeys (e i : Nat) (hi : 0x17C0 ≤ i) : pkey (P.vc e i) 0 ∉ bwKeys := by
  intro h
  obtain ⟨j, hj, h⟩ := List.mem_flatMap.1 h
  have := List.mem_range.1 hj
  simp only [List.mem_cons, List.not_mem_nil, or_false, pkey, P.vc, P.BW_RESERVED, P.BW_SHORTFALL] at h
  omega

theorem bwSet_vcp (rank owner bps e : Nat) {i : Nat} (hi : 0x17C0 ≤ i) (s : State) : (s.bwSet rank owner bps).vcp e i = s.vcp e i :=
  (bwSet_frame rank owner bps s).2.getP (engine_not_mem_bwKeys e i hi)

theorem sameFlights_of_ctl {s t : State} (h : t.ctl = s.ctl) (hp : t.pending = s.pending) : SameFlights s t := ⟨congrArg _ h, aipexDown_congr h, hp⟩

theorem bwSet_sameFlights (rank owner bps : Nat) (s : State) : SameFlights s (s.bwSet rank owner bps) := by
  have h := (bwSet_frame rank owner bps s).1
  exact sameFlights_of_ctl ((congrArg State.ctl h).trans rfl) ((congrArg State.pending h).trans rfl)

theorem SameFlights.setP {s t : State} (h : SameFlights s t) (i j v : Nat) : SameFlights s (t.setP i j v) := h

theorem codecReport_holder (e : Nat) (s : State) : (s.codecReport e).vcp e P.VC_HOLDER = s.vcp e P.VC_HOLDER ∧ SameFlights s (s.codecReport e) := by
  unfold State.codecReport
  extract_lets m rate
  refine ⟨?_, ((bwSet_sameFlights 3 e _ s).setP _ _ _).setP _ _ _⟩
  rw [vcp_setP_other e _ (by decide), vcp_setP_other e _ (by decide), bwSet_vcp _ _ _ _ (by decide)]

theorem openedReports_holder (c : Cmd) (s : State) : (s.openedReports c).vcp (c.f 0 8) P.VC_HOLDER = c.win ∧ SameFlights s (s.openedReports c) := by
  unfold State.openedReports State.inputReport
  obtain ⟨hh, hf⟩ := codecReport_holder (c.f 0 8) ((s.setP (P.vc (c.f 0 8) P.VC_HOLDER) 0 c.win).setP (P.vc (c.f 0 8) P.VC_MODE) 0 (c.f 8 8))
  refine ⟨?_, (((SameFlights.refl s).setP _ _ _).setP _ _ _ |>.trans hf).setP _ _ _⟩
  rw [vcp_setP_other _ _ (by decide), hh, vcp_setP_other _ _ (by decide)]
  exact State.getP_setP_same _ _ _ _

/-- What a change of an engine's state leaves. -/
theorem setVcState_vcp (e new reason : Nat) {i : Nat} (hi : i ≠ P.VC_STATE) (s : State) : (s.setVcState e new reason).vcp e i = s.vcp e i ∧ SameFlights s (s.setVcState e new reason) := by
  unfold State.setVcState
  dsimp only
  split
  · exact ⟨rfl, SameFlights.refl s⟩
  · have hcount := (vcCount_setP e P.VC_STATE new s).post 0x80 (new + at' 8 (s.vcState e) + at' 16 reason + at' 24 (s.vcp e P.VC_MODE))
    exact ⟨hcount.2.2 i hi, hcount.1.sameFlights⟩

/-- The claim's parameters are read from the parameters alone. -/
theorem streamOk_congr {s t : State} (h : t.params = s.params) (e mode : Nat) : t.streamOk e mode = s.streamOk e mode ∧ t.capture e = s.capture e := by
  have hg : t.getP = s.getP := by
    funext i j
    rw [State.getP, h]
    rfl
  constructor <;> simp only [State.streamOk, State.encodeOk, State.paceOk, State.vcRate, State.divInterval, State.showNominal, State.showFactor, State.levelOk,
    State.capture, State.vcp, State.cvp, hg]

theorem entered_ctlOnly (s : State) (op : Nat) (c : Cmd) : CtlOnly s (s.entered op c) := by
  obtain ⟨_, _, _, _, h⟩ := entered_frame s op c
  rw [h]
  exact CtlOnly.of_ctl s _

theorem entered_preview (s : State) (op : Nat) (c : Cmd) : (s.entered op c).preview.params = s.preview.params :=
  preview_congr (State.entered_params s op c) (State.entered_ctl_staged s op c)

theorem openBuffers_entered (s : State) (op : Nat) (c : Cmd) : ((s.entered op c).openBuffers c).2 = (s.openBuffers c).2 := by
  unfold State.openBuffers
  rw [(streamOk_congr (entered_preview s op c) (c.f 0 8) 0).2]
  by_cases h1 : c.f 8 8 = 1
  · rw [if_pos h1, if_pos h1]
    exact CtlOnly.codecAlloc 2 (entered_ctlOnly s op c)
  · rw [if_neg h1, if_neg h1]
    by_cases h2 : c.f 8 8 = 2
    · rw [if_pos h2, if_pos h2]
      exact CtlOnly.codecAlloc 1 (entered_ctlOnly s op c)
    · rw [if_neg h2, if_neg h2]

theorem openBuffers_sameFlights (s : State) (c : Cmd) : SameFlights s (s.openBuffers c).1 := by
  unfold State.openBuffers
  by_cases h1 : c.f 8 8 = 1
  · rw [if_pos h1]
    exact codecAlloc_sameFlights _ _ 2 s
  · rw [if_neg h1]
    by_cases h2 : c.f 8 8 = 2
    · rw [if_pos h2]
      exact codecAlloc_sameFlights _ _ 1 s
    · rw [if_neg h2]
      exact SameFlights.refl s

theorem vcOpen_opens {c : Cmd} {l : List Nat} {s : State} (ha : s.accepts false 0x0801 c) (hw : c.win < 64) (ho : c.operands 12 0) (hop : vcOpenOperands c = true)
    (hok : s.preview.streamOk (c.f 0 8) (c.f 8 8) = true) (hbin : c.f 8 8 = 3 → s.bin? (c.f 16 8) ≠ none) (hst : s.vcState (c.f 0 8) = 0)
    (hl : (s.openBuffers c).2 = (l, none)) :
    ∃ t, exec (.vcOpen c) s = .next t ∧ Answered 0x0801 c 0 4 (t.vcp (c.f 0 8) P.VC_BW_RESERVED) t ∧ t.vcp (c.f 0 8) P.VC_HOLDER = c.win := by
  have hfl := openBuffers_sameFlights (s.entered 0x0801 c) c
  have hl' : ((s.entered 0x0801 c).openBuffers c).2 = (l, none) := (openBuffers_entered s 0x0801 c).trans hl
  obtain ⟨a, x, hr⟩ := exists_pair ((s.entered 0x0801 c).openBuffers c)
  rw [hr] at hl' hfl
  obtain rfl : x = (l, none) := hl'
  have hbin' : c.f 8 8 = 3 → (s.entered 0x0801 c).bin? (c.f 16 8) ≠ none := fun h => by
    rw [State.bin?, State.entered_fr]
    exact hbin h
  obtain ⟨new, hbody⟩ := vcOpenBody_opens (k := { c := c, tk := s.newTicket, priv := s.privOf c }) hop
    ((streamOk_congr (entered_preview s 0x0801 c) _ _).1.trans hok) hbin'
    ((State.entered_getP s _ c _ _).trans hst) hr
  obtain ⟨hhold, hrep⟩ := openedReports_holder c (a.modEngine (c.f 0 8) (Engine.opened c ((s.entered 0x0801 c).preview.capture (c.f 0 8)) l))
  have hmod : SameFlights a (a.modEngine (c.f 0 8) (Engine.opened c ((s.entered 0x0801 c).preview.capture (c.f 0 8)) l)) := SameFlights.refl a
  have hrep := hmod.trans hrep
  generalize (a.modEngine (c.f 0 8) (Engine.opened c ((s.entered 0x0801 c).preview.capture (c.f 0 8)) l)).openedReports c = u at hbody hhold hrep
  obtain ⟨hres, hst'⟩ := setVcState_vcp (c.f 0 8) new 0 (i := P.VC_BW_RESERVED) (by decide) u
  have hhold' := (setVcState_vcp (c.f 0 8) new 0 (i := P.VC_HOLDER) (by decide) u).1.trans hhold
  generalize u.setVcState (c.f 0 8) new 0 = v at hbody hres hst' hhold'
  obtain ⟨hflights, hdown, hpend⟩ := hfl.trans (hrep.trans hst')
  change vcOpenBody { c := c, tk := s.newTicket, priv := s.privOf c } (s.entered vcOpenSpec.op c) = _ at hbody
  have hnext := submit_done (i := .vcOpen c) (spec := vcOpenSpec) (body := vcOpenBody) (c := c) (s := s) ha.1.1 ha (by simp [vcOpenSpec, ho.1])
    (by rw [ho.1]; exact ho.2) (fun h => absurd h (by omega)) (congrArg Prod.snd hbody) (by rw [hbody]; exact hpend.trans (State.entered_pending s _ c))
  rw [hbody] at hnext
  dsimp only at hnext hres
  refine ⟨_, hnext, ?_, (State.finalReply_getP v _ _ _ _ _ _).trans hhold'⟩
  refine (congrArg (Answered 0x0801 c 0 4 · _) ((State.finalReply_getP v _ _ _ _ _ _).trans hres)).mpr ?_
  exact finalReply_answered v (hdown.trans (((entered_runs s 0x0801 c).up (s.aipexDown_of_ready ha.1.2.2.2.1))))
    ((State.flight?_congr hflights _).trans (s.entered_flight? 0x0801 c)) (by decide) 4 _

/-! ### VC_CLOSE, KEY_NOW and VC_PICTURE_READ complete -/

theorem entered_engine (s : State) (op : Nat) (c : Cmd) (e : Nat) : (s.entered op c).engine e = s.engine e := by rw [State.engine, State.entered_vc, ← State.engine]

/-- What an engine notes when its stream is to end. -/
abbrev Engine.ending (reason : Nat) (l : List Nat) (x : Engine) : Engine := { x with closing := some (match x.closing with
  | some c => (c.1, c.2 ++ l)
  | none => (reason, l)) }

theorem closeEngine_waits {e reason : Nat} {l : List Nat} {s : State} (h : s.vcState e = 2 ∨ (s.engine e).work ≠ none) :
    s.closeEngine e reason l = s.modEngine e (Engine.ending reason l) :=
  if_pos (h.imp id fun h => Option.isSome_iff_ne_none.2 h)

/-- A command that sets its engine's fields and answers at once. -/
theorem completes_modEngine {i : Instr} {spec : OpSpec} {body : Body} {c : Cmd} {s : State} {e : Nat} {f : Engine → Engine} (hi : i.wellFormed = true)
    (ha : s.accepts (spec.priv || spec.privIf c) spec.op c) (hl : spec.len c = true) (hr : (c.ops % 2 ^ (8 * c.opLen)) &&& spec.rsvd = 0)
    (hb : c.win = 64 → spec.bus c = true)
    (hbody : body { c := c, tk := s.newTicket, priv := s.privOf c } (s.entered spec.op c) = ((s.entered spec.op c).modEngine e f, .ok)) :
    ∃ t, guarded i s (submit spec body c s) = .next t ∧ Answered spec.op c 0 0 0 t ∧ t.engine e = f (s.engine e) := by
  obtain ⟨t, hx, hans, hcmd, -⟩ := Runs.completes (code := 0) (len := 0) (r := 0) hi ha hl hr hb (congrArg Prod.snd hbody) (by decide)
    ((congrArg (Runs s spec.op c (s.modEngine e f)) (congrArg Prod.fst hbody)).mpr <| runs_of_comm (fun z => z.modEngine e f) (fun _ _ _ _ => rfl) rfl rfl rfl rfl) rfl
  refine ⟨t, hx, hans, ?_⟩
  rw [hcmd]
  exact engine_modEngine_same e f s

section
variable {c : Cmd} {s : State}

theorem vcClose_closes (ha : s.accepts false 0x0802 c) (hw : c.win < 64) (ho : c.operands 1 0) (he : c.f 0 8 < 2) (hst : s.vcState (c.f 0 8) ≠ 0)
    (hh : s.vcp (c.f 0 8) P.VC_HOLDER = c.win ∨ c.win = 0) (hcl : (s.engine (c.f 0 8)).closing = none)
    (hwork : s.vcState (c.f 0 8) = 2 ∨ (s.engine (c.f 0 8)).work ≠ none) (him : c.immediate = true) :
    ∃ t, exec (.vcClose c) s = .next t ∧ Answered 0x0802 c 0 0 0 t ∧ (t.engine (c.f 0 8)).closing = some (1, []) := by
  have hst' : (s.entered 0x0802 c).vcState (c.f 0 8) = s.vcState (c.f 0 8) := State.entered_getP s _ c _ _
  have hperm : ¬(!(s.entered 0x0802 c).holds c.win (c.f 0 8) && !(c.win == 0 && (s.entered 0x0802 c).vcState (c.f 0 8) != 0)) = true := by
    have hv : (s.entered 0x0802 c).vcp (c.f 0 8) P.VC_HOLDER = s.vcp (c.f 0 8) P.VC_HOLDER := State.entered_getP s _ c _ _
    rw [State.holds, hst', hv]
    rcases hh with hh | hh <;> simp [hst, hh]
  have hwork' : (s.entered 0x0802 c).vcState (c.f 0 8) = 2 ∨ ((s.entered 0x0802 c).engine (c.f 0 8)).work ≠ none := by
    rw [hst', entered_engine]
    exact hwork
  obtain ⟨t, hx, hans, heng⟩ := completes_modEngine (i := .vcClose c) (spec := vcCloseSpec) (body := vcCloseBody) (e := c.f 0 8) (f := Engine.ending 1 []) ha.1.1 ha (by simp [vcCloseSpec, ho.1])
    (by rw [ho.1]; exact ho.2) (fun h => absurd h (by omega))
    (((if_neg (Nat.not_le.2 he)).trans ((if_neg hperm).trans (if_pos him))).trans
      (congrArg (·, Ans.ok) (closeEngine_waits hwork')))
  exact ⟨t, hx, hans, by rw [heng, Engine.ending, hcl]⟩

theorem keyNow_asks (ha : s.accepts false 0x0803 c) (hw : c.win < 64) (ho : c.operands 1 0) (he : c.f 0 8 < 2) (hh : s.holds c.win (c.f 0 8) = true)
    (hm : s.vcp (c.f 0 8) P.VC_MODE = 1) (him : c.immediate = true) :
    ∃ t, exec (.keyNow c) s = .next t ∧ Answered 0x0803 c 0 0 0 t ∧ (t.engine (c.f 0 8)).idr = 1 :: (s.engine (c.f 0 8)).idr := by
  have hget : (s.entered 0x0803 c).getP = s.getP := funext fun i => funext fun j => State.entered_getP s _ c i j
  have hold : ¬(!(s.entered 0x0803 c).holds c.win (c.f 0 8)) = true := by
    rw [State.holds, State.vcState, State.vcp, State.vcp, hget]
    exact fun h => Bool.false_ne_true ((Bool.not_eq_true' _ ▸ h : s.holds c.win (c.f 0 8) = false) ▸ hh)
  have hmode : (s.entered 0x0803 c).vcp (c.f 0 8) P.VC_MODE = 1 := (State.entered_getP s _ c _ _).trans hm
  obtain ⟨t, hx, hans, heng⟩ := completes_modEngine (i := .keyNow c) (spec := keyNowSpec) (body := keyNowBody) (e := c.f 0 8)
    (f := fun x => { x with idr := 1 :: x.idr, keys := if c.immediate then x.keys else x.keys ++ [s.newTicket] }) ha.1.1 ha (by simp [keyNowSpec, ho.1])
    (by rw [ho.1]; exact ho.2) (fun h => absurd h (by omega))
    ((if_neg (Nat.not_le.2 he)).trans ((if_neg hold).trans ((if_neg (not_not_intro hmode)).trans
      (congrArg (fun a : Ans => (_, a)) (if_pos him)))))
  exact ⟨t, hx, hans, by rw [heng]⟩

theorem damageMap_length (l : List Nat) : (damageMap l).length = 2048 := leBytes_length _ _

theorem picRecord_length (r : PicRecord) : r.toBytes.length = 2112 := by
  unfold PicRecord.toBytes
  simp only [List.length_append, leBytes_length, damageMap_length]

theorem vcPictureReadBody_writes {k : Call} {s : State} {r : PicRecord} {m : SMap Byte} (he : k.c.f 0 8 < 2)
    (hsel : k.c.f 8 8 < 2) (h0 : k.c.f 64 64 ≠ 0) (halign : k.c.f 64 64 % 64 = 0) (hlo : 64 ≤ k.c.f 128 32) (hhi : k.c.f 128 32 ≤ 2112) (hlen : k.c.f 128 32 % 64 = 0)
    (hrec : (if k.c.f 8 8 = 0 then (s.engine (k.c.f 0 8)).records.head? else List.find? (fun r => r.number == k.c.f 32 32) (s.engine (k.c.f 0 8)).records) = some r)
    (hw : s.hostWrite (k.c.f 64 64) (r.toBytes.take (k.c.f 128 32)) = (s.withHostMem m, true)) :
    vcPictureReadBody k s = (s.withHostMem m, .done cOK 8 (r.number + at' 32 (k.c.f 128 32))) := by
  unfold vcPictureReadBody
  dsimp only
  rw [if_neg (by omega), hrec]
  dsimp only
  rw [hw]
  exact if_pos rfl

theorem vcPictureRead_reads {o : Option PicRecord} {r : PicRecord} (ha : s.accepts false 0x0805 c) (hw : c.win < 64) (ho : c.operands 20 0xFFFF0000) (he : c.f 0 8 < 2)
    (hsel : c.f 8 8 < 2) (h0 : c.f 64 64 ≠ 0) (halign : c.f 64 64 % 64 = 0) (hlo : 64 ≤ c.f 128 32) (hhi : c.f 128 32 ≤ 2112) (hlen : c.f 128 32 % 64 = 0)
    (hrec : o = if c.f 8 8 = 0 then (s.engine (c.f 0 8)).records.head? else List.find? (fun r => r.number == c.f 32 32) (s.engine (c.f 0 8)).records)
    (hr : o = some r) (hhost : c.host = []) (hgood : s.hostGood (c.f 64 64) (c.f 128 32) = c.f 128 32) :
    ∃ t, exec (.vcPictureRead c) s = .next t ∧ Answered 0x0805 c 0 8 (r.number + at' 32 (c.f 128 32)) t
      ∧ takeBytes zeroByte t.ctl.hostMem (c.f 64 64) (c.f 128 32) = List.take (c.f 128 32) r.toBytes := by
  have htake : (r.toBytes.take (c.f 128 32)).length = c.f 128 32 := by rw [List.length_take, picRecord_length]; omega
  have hgood' : (s.entered 0x0805 c).hostGood (c.f 64 64) (r.toBytes.take (c.f 128 32)).length = (r.toBytes.take (c.f 128 32)).length := by
    rw [htake, State.hostGood, State.entered_ctl_hostFault]; exact hgood
  have hw' : (s.entered 0x0805 c).hostWrite (c.f 64 64) (r.toBytes.take (c.f 128 32))
      = ((s.entered 0x0805 c).withHostMem (putBytes zeroByte s.ctl.hostMem (c.f 64 64) (r.toBytes.take (c.f 128 32))), true) := by
    rw [hostWrite_good hgood', State.entered_hostMem s _ c (.inl hhost)]
  obtain ⟨t, ht, hans, -, hmem⟩ := Runs.completes_writing (i := .vcPictureRead c) (spec := vcPictureReadSpec) (body := vcPictureReadBody) (c := c) (s := s)
    (code := cOK) (len := 8) (r := r.number + at' 32 (c.f 128 32)) ha.1.1 ha (by simp [vcPictureReadSpec, ho.1]) (by rw [ho.1]; exact ho.2) (fun h => absurd h (by omega))
    (vcPictureReadBody_writes he hsel h0 halign hlo hhi hlen (by rw [entered_engine, ← hrec, hr]) hw')
    (by decide) (entered_runs s _ c) rfl
  refine ⟨t, ht, hans, ?_⟩
  have hread := takeBytes_putBytes zeroByte (r.toBytes.take (c.f 128 32)) s.ctl.hostMem (c.f 64 64)
  rw [htake] at hread
  rw [hmem]
  exact hread
end

end Sys2Proof.Machine
end

section
/-! Completion of the commands of the codec engines, audio ports, housekeeping, the management bus and power (chapters 12 to 15). -/

open Sys2Proof Sys2Proof.Machine in
/-- Settles O60: VC_OPEN, VC_CLOSE, KEY_NOW and VC_PICTURE_READ by their own lemmas, the others as their own statements (O48 to O52) say. -/
theorem everyCodecAudioHouseAndPowerCommandCompletes : Obligations.EveryCodecAudioHouseAndPowerCommandCompletes := by
  obtain ⟨hfeed, hfeedTimeout, -, hpace, -, hpicture⟩ := picturesAreFedDecodedAndCompleted
  obtain ⟨⟨hclock, hedge, hfly, hrate⟩, -, hfetch, hdeadline, hstart, hstatus⟩ := audioPortsFollowClocksAndPlayBlocks
  obtain ⟨-, hconv, -, hthrottle, hsched, htelemetry, hzero, -, hbehind, hhouse⟩ := conversionsThrottleAndBackgroundWork
  obtain ⟨-, hread, hreply, hsubmit, hack, habort, hreset⟩ := managementBusAnswersItsAddresses
  obtain ⟨hvaux, hrise, -, -, -, htrained, hpower, hdevice, hset, hdark⟩ := powerComesGoesAndChangesState
  unfold Obligations.EveryCodecAudioHouseAndPowerCommandCompletes
  refine ⟨fun c e m l s r ha hw ho he hm hop hok hbin hst hr hl => ?_, fun c e s ha hw ho he h2 hst hh hcl hwork him => ?_,
    fun c e s ha hw ho he h2 hh hm him => ?_, fun c e n a s l ha hw ho he hn hadr h2 hmax h0 hh hm hend hfin hhost hl hnone hfit => ?_,
    fun e s f g he hf hg => ?_, fun c e h n s o r ha hw ho he hh hn h2 hsel h0 halign hlo hhi hlen hrec hr hhost hgood => ?_,
    fun e t p x y u irap s he hx hw hc hst hheld hp hxp hth hv hy => ?_, fun e t o x w s k he hx hw hc hmode ht h1 h64 hk => ?_, fun e x w s he hx hw hc hmode => ?_,
    fun n x s hn hx hc => ?_, fun n x s hn hx hc => ?_, fun n t b l o x s hn hx hst h0 => ?_, fun n l x s hn hx hst => ?_, fun n r h s hn hh h3 h5 hr => ?_,
    fun n b late x s hn hst hx hnear hfl => ?_, fun n b x s hn hst hx hdue hmis hfet hgone => ?_,
    fun c m a s r ha ho hm ht h0 hr hst htag hfree him => ?_, fun c n s ha ho hn h16 => ?_,
    fun r v n lo hi s hb hn h5 h31 hr hv hlo hhi hpin hl hh hlast => ?_, fun a s ha hb hst => ?_,
    fun a s ha hb hst => ?_, fun a k n f p s ha hk hb hst hboot hfree hlo hhi hlen hpec => ?_,
    fun a k s r ha hk hb hst hboot hr => (hreply a k s ha hk hb hst).2.2 r hboot hr, fun a s ha hb hst => ?_,
    fun a k p s ha hk hb hst hboot hbusy hpec hready => ?_, fun i a x s ha hb hst hi => ?_, fun mw l s hheld => ⟨_, (htelemetry mw _ l s).2 hheld rfl, rfl⟩,
    fun n s hheld hlt => ⟨_, (hzero n s).2.1 hheld hlt, rfl⟩, fun c s ho ha => ?_, fun c s ho ha => ?_, fun m s hm hb => ?_, fun s hb hr hf hg => ?_,
    fun c s ha ho h => ?_, fun c g old s ha ho hg hold h2 hwake hst htk him hrun hgo => ?_, fun s m hm hp => ?_,
    fun h s hh htrip hr => ?_, fun s hb => ?_, fun s => ?_, fun e s hp hr he hb => ?_, fun s hb hv => ?_, fun s hb => ?_,
    fun s h1 h2 h3 => ?_, fun s h1 h2 h3 => ?_,
    fun s u hu hb hst => ?_, fun s tk f hst htk hex hf => ?_, fun s hst hb hg => ?_, fun s f hf hp hst h0 => ?_, fun s => ?_,
    fun s => ?_, fun s => ?_⟩
  case refine_1 =>
    subst he hm
    exact vcOpen_opens ha hw ho hop hok hbin hst (by rw [hr] at hl; exact hl)
  case refine_2 => subst he; exact vcClose_closes ha hw ho h2 hst hh hcl hwork him
  case refine_3 => subst he; exact keyNow_asks ha hw ho h2 hh hm him
  case refine_4 =>
    obtain ⟨-, hrun⟩ := hfeed c e n a s ha hw ho he hn hadr
    obtain ⟨-, -, -, htaken⟩ := hrun h2 hmax h0
    obtain ⟨t, ht, hans, heng, -⟩ := ((htaken hh hm hend hfin hhost).2.2 l hl).1 hnone hfit
    exact ⟨t, ht, hans, by rw [heng]⟩
  case refine_5 => obtain ⟨t, ht, hans, -⟩ := (hfeedTimeout e s he).2 f g hf hg; exact ⟨t, ht, hans⟩
  case refine_6 => subst he hh hn; exact vcPictureRead_reads ha hw ho h2 hsel h0 halign hlo hhi hlen hrec hr hhost hgood
  case refine_7 => obtain ⟨z, hz, hrun, -⟩ := hpace e t _ p x y u irap s he hx hw hc hst hheld hp hxp hth rfl hv hy; exact ⟨z, hz, hrun⟩
  case refine_8 =>
    obtain ⟨-, -, hdone, -⟩ := hpicture e t o x w s he hx hw hc hmode
    obtain ⟨z, hz, heng, -⟩ := hdone ht h1 h64 k _ _ hk rfl rfl
    exact ⟨z, hz, by rw [heng], by rw [heng]⟩
  case refine_9 =>
    obtain ⟨-, ⟨u, hu, heng, -⟩, -⟩ := hpicture e 0 { picType := 0, poc := 0, bits := 0 } x w s he hx hw hc hmode
    exact ⟨u, hu, by rw [heng]⟩
  case refine_10 => obtain ⟨t, ht, hport, -⟩ := (hclock n x s hn hx).2.1 hc; exact ⟨t, ht, by rw [hport]⟩
  case refine_11 =>
    obtain ⟨-, -, -, hlost⟩ := hclock n x s hn hx
    obtain ⟨t, ht, -, -, hap, hpres, -⟩ := hlost hc
    exact ⟨t, ht, hap, hpres⟩
  case refine_12 => obtain ⟨u, hu, hport, -⟩ := (hedge n t b _ l o x s hn hx rfl).2.1 hst h0; exact ⟨u, hu, by rw [hport], by rw [hport]⟩
  case refine_13 => obtain ⟨u, hu, hport, -⟩ := (hfly n _ l x s hn hx rfl).2.1 hst; exact ⟨u, hu, by rw [hport], by rw [hport]⟩
  case refine_14 => obtain ⟨u, hu, -, hap, -⟩ := (hrate n r h s hn hh).2.2 h3 h5 hr; exact ⟨u, hu, hap⟩
  case refine_15 => obtain ⟨t, ht, hport, -⟩ := hfetch n b late x s hn hst hx hnear hfl; exact ⟨t, ht, by rw [hport]; exact List.mem_cons_self⟩
  case refine_16 => obtain ⟨t, ht, hport, -⟩ := (hdeadline n b x s hn hst hx hdue).2.1 hmis hfet hgone; exact ⟨t, ht, by rw [hport]⟩
  case refine_17 =>
    obtain ⟨-, hgood⟩ := hstart c m a s ha ho hm ht
    obtain ⟨t, ht, hans, -⟩ := (((((hgood r h0 hr).2 hst).2 htag).2 hfree) _ rfl).1 him
    exact ⟨t, ht, hans⟩
  case refine_18 => obtain ⟨t, ht, -, hans⟩ := (hstatus c n s ha ho hn).2 h16; exact ⟨t, ht, hans⟩
  case refine_19 => obtain ⟨t, ht, hval, -⟩ := (hconv r v n lo hi _ s hb hn h5 h31 hr hv hlo hhi hpin rfl).1 hl hh hlast; exact ⟨t, ht, hval⟩
  case refine_20 => obtain ⟨hstatus, -⟩ := hread a s ha hb hst; exact hstatus
  case refine_21 => obtain ⟨-, -, hslots, -⟩ := hread a s ha hb hst; exact hslots
  case refine_22 =>
    obtain ⟨-, hrun⟩ := hsubmit a k n f p s ha hk hb hst
    obtain ⟨-, -, -, hwhole⟩ := hrun hboot
    obtain ⟨u, hu, -, -, hbytes, -, hrung, -⟩ := (hwhole hfree hlo hhi hlen).2.2 hpec
    exact ⟨u, hu, hbytes, hrung⟩
  case refine_23 => obtain ⟨-, -, -, hvalues⟩ := hread a s ha hb hst; exact hvalues
  case refine_24 =>
    obtain ⟨t, ht, hlast, -, hrdy, -⟩ := (((hack a k p s ha hk hb hst).2 hboot hbusy).2.2 hpec).2 hready
    exact ⟨t, ht, hlast, hrdy⟩
  case refine_25 => obtain ⟨t, ht, hcount, -⟩ := hreset i a x s ha hb hst hi; exact ⟨t, ht, hcount⟩
  case refine_26 => obtain ⟨t, ht, -, hans⟩ := (hhouse c s ho).1 ha; exact ⟨t, ht, hans⟩
  case refine_27 => obtain ⟨t, ht, -, hans⟩ := (hhouse c s ho).2 ha; exact ⟨t, ht, hans⟩
  case refine_28 => obtain ⟨t, ht, -, haddr, hp, -⟩ := (hvaux m s hm).2 hb; exact ⟨t, ht, haddr, hp⟩
  case refine_29 => obtain ⟨t, ht, hboot, -⟩ := htrained s hb hr hf hg; exact ⟨t, ht, hboot⟩
  case refine_30 => obtain ⟨t, ht, hans, -⟩ := (hdevice c s ha ho).2 h; exact ⟨t, ht, hans⟩
  case refine_31 =>
    obtain ⟨-, hrun'⟩ := hset c g old s ha ho hg hold
    obtain ⟨-, -, -, hatOnce, -⟩ := hrun' h2 hwake
    obtain ⟨t, ht, hans, hst', -⟩ := hatOnce hst htk him hrun hgo
    exact ⟨t, ht, hans, hst'⟩
  case refine_32 =>
    obtain ⟨-, -, -, -, -, -, -, -, -, hpins⟩ := hpower s
    exact ⟨_, (hpins m).2.1 hm hp, rfl⟩
  case refine_33 => obtain ⟨t, ht, hstep, -⟩ := (hthrottle _ h s rfl hh).2 htrip hr; exact ⟨t, ht, hstep⟩
  case refine_34 => obtain ⟨t, ht, hcount, -⟩ := (habort s).2 hb; exact ⟨t, ht, hcount⟩
  case refine_35 => obtain ⟨t, ht, hstate, -⟩ := hsched s; exact ⟨t, ht, hstate⟩
  case refine_36 => obtain ⟨t, ht, hbit, -⟩ := (hbehind e s hp hr he).2 hb; exact ⟨t, ht, hbit⟩
  case refine_37 => obtain ⟨t, ht, -, hboot, -⟩ := (hrise s).2.2.1 hb hv; exact ⟨t, ht, hboot⟩
  case refine_38 => obtain ⟨t, ht, hboot, hready, -⟩ := (hpower s).2.1 hb; exact ⟨t, ht, hboot, hready⟩
  case refine_39 =>
    obtain ⟨-, -, -, hstop, -⟩ := hpower s
    exact ⟨_, (hstop h1 h2 h3).1, rfl⟩
  case refine_40 =>
    obtain ⟨-, -, -, hstop, -⟩ := hpower s
    exact ⟨_, (hstop h1 h2 h3).2, rfl⟩
  case refine_41 =>
    obtain ⟨-, -, -, -, -, hfire, -⟩ := hpower s
    exact ⟨_, hfire u hu hb hst, rfl⟩
  case refine_42 => obtain ⟨t, ht, hans, hst', -⟩ := (hdark s).2.2.1 tk f hst htk hex hf; exact ⟨t, ht, hans, hst'⟩
  case refine_43 =>
    obtain ⟨-, -, -, -, hexit, -⟩ := hdark s
    obtain ⟨t, ht, hst', hlast, -⟩ := hexit hst hb hg
    exact ⟨t, ht, hst', hlast⟩
  case refine_44 =>
    obtain ⟨-, -, -, -, -, -, hreturn⟩ := hdark s
    obtain ⟨t, ht, hst', -⟩ := hreturn f _ hf hp hst h0 rfl
    exact ⟨t, ht, hst'⟩
  case refine_45 =>
    obtain ⟨-, -, -, -, -, -, ⟨t, ht, -, hnow, -, -, -, -, -, -, -, -, -, hhk, -⟩, -⟩ := hpower s
    exact ⟨t, ht, hnow, hhk⟩
  case refine_46 =>
    obtain ⟨-, -, -, -, -, -, -, hloss, -⟩ := hpower s
    exact ⟨_, hloss, rfl⟩
  case refine_47 =>
    obtain ⟨-, -, -, -, -, -, -, -, hback, -⟩ := hpower s
    exact ⟨_, hback, rfl⟩
end

section
/-! Midway: loops and tiles, the packets that leave for them, and what is sent to the tiles of a canvas (O30; 07_midway.md). -/

namespace Sys2Proof.Machine

/-! ### Loops and tiles -/

theorem loop_modLoop_same (l : Nat) (f : Loop → Loop) (s : State) : (s.modLoop l f).loop l = f (s.loop l) := (State.loop_modLoop s l f l).trans (if_pos rfl)

theorem loop_modLoop_other {l k : Nat} (h : k ≠ l) (f : Loop → Loop) (s : State) : (s.modLoop l f).loop k = s.loop k := (State.loop_modLoop s l f k).trans (if_neg h)

theorem tile_modTile (l h : Nat) (f : Tile → Tile) (s : State) (k j : Nat) : (s.modTile l h f).tile k j = if tileKey k j = tileKey l h then f (s.tile l h) else s.tile k j :=
  SMap.get_set tileDef _ _ _ _

theorem tile_modTile_same (l h : Nat) (f : Tile → Tile) (s : State) : (s.modTile l h f).tile l h = f (s.tile l h) := (tile_modTile l h f s l h).trans (if_pos rfl)

theorem tile_modTile_other {l h k j : Nat} (hh : 1 ≤ h) (hj : 1 ≤ j) (hne : k * 32 + j ≠ l * 32 + h) (f : Tile → Tile) (s : State) : (s.modTile l h f).tile k j = s.tile k j :=
  (tile_modTile l h f s k j).trans (if_neg (by simp only [tileKey]; omega))

/-- The directory and the port map are read from the tables. -/
theorem loopCanvas_congr {s t : State} (h : t.ctl.tables = s.ctl.tables) (l : Nat) : t.loopCanvas l = s.loopCanvas l := by
  simp only [State.loopCanvas, State.portMap, State.tableNum, h]

/-! ### Open frames -/

/-- A fold of which one element acts. -/
theorem foldl_once {α β : Type} {f : β → α → β} {a : α} {u : β} : ∀ {l : List α} {s : β}, l.Nodup → a ∈ l → f s a = u → (∀ b ∈ l, b ≠ a → f s b = s) →
    (∀ b ∈ l, b ≠ a → f u b = u) → l.foldl f s = u
  | b :: l, s, hnd, hmem, ha, hbefore, hafter => by
    obtain ⟨hnot, hnd⟩ := List.nodup_cons.1 hnd
    by_cases hb : b = a
    · subst hb
      rw [List.foldl_cons, ha]
      exact foldl_fixed_of_mem fun x hx => hafter x (List.mem_cons_of_mem _ hx) fun h => hnot (h ▸ hx)
    · rw [List.foldl_cons, hbefore b List.mem_cons_self hb]
      exact foldl_once hnd ((List.mem_cons.1 hmem).resolve_left (Ne.symm hb)) ha (fun x hx => hbefore x (List.mem_cons_of_mem _ hx))
        fun x hx => hafter x (List.mem_cons_of_mem _ hx)

/-- A tile without its open frame. -/
abbrev Tile.frameless (x : Tile) : Tile := { x with frame := none }

/-- The open frame of a hop is closed with ABANDONED. -/
def State.abandonFrame (l hop : Nat) (f : TileFrame) (s : State) : State :=
  ((s.modTile l hop Tile.frameless).sendTile l ((s.fedFrom l hop).getD 0) 0x3 f.phase (s.distOf l ((s.fedFrom l hop).getD 0) hop) 0 0
    (leBytes (f.tag + at' 32 f.rows + at' 48 1) 8)).bumpSat
      (P.mw (s.endPort l ((s.fedFrom l hop).getD 0) / 64) P.MW_ABANDONED) (s.endPort l ((s.fedFrom l hop).getD 0) % 64) 1

/-- A frame more of canvas `c` has been abandoned. -/
def State.countAbandoned (c : Nat) (s : State) : State :=
  { s with mw := { s.mw with abandoned := SMap.set (fun _ => 0) s.mw.abandoned c (SMap.get (fun _ => 0) s.mw.abandoned c + 1) } }

theorem countAbandoned_get (c : Nat) (s : State) : SMap.get (fun _ => 0) (s.countAbandoned c).mw.abandoned c = SMap.get (fun _ => 0) s.mw.abandoned c + 1 :=
  SMap.get_set_same (fun _ => 0) s.mw.abandoned c (SMap.get (fun _ => 0) s.mw.abandoned c + 1)

/-- What `abandonFrames` does for hop `i + 1`. -/
def State.abandonStep (l : Nat) (p : Nat → Bool) (s : State) (i : Nat) : State :=
  match (s.tile l (i + 1)).frame with
  | none => s
  | some f =>
    if p (i + 1) then
      match (s.abandonFrame l (i + 1) f).loopCanvas l with
      | some c => (s.abandonFrame l (i + 1) f).countAbandoned c
      | none => s.abandonFrame l (i + 1) f
    else s

theorem abandonFrames_eq (l : Nat) (p : Nat → Bool) (s : State) : s.abandonFrames l p = (List.range 32).foldl (State.abandonStep l p) s := rfl

theorem abandonStep_none {l i : Nat} {p : Nat → Bool} {s : State} (h : (s.tile l (i + 1)).frame = none) : s.abandonStep l p i = s := by
  rw [State.abandonStep, h]

theorem abandonStep_some {l i c : Nat} {p : Nat → Bool} {f : TileFrame} {s : State} (h : (s.tile l (i + 1)).frame = some f) (hp : p (i + 1) = true)
    (hc : s.loopCanvas l = some c) : s.abandonStep l p i = (s.abandonFrame l (i + 1) f).countAbandoned c := by
  have hc' : (s.abandonFrame l (i + 1) f).loopCanvas l = some c := (loopCanvas_congr rfl l).trans hc
  rw [State.abandonStep, h]
  dsimp only
  rw [if_pos hp, hc']

theorem abandonFrames_none {l : Nat} {s : State} (h : ∀ k, 1 ≤ k → k ≤ 32 → (s.tile l k).frame = none) (p : Nat → Bool) : s.abandonFrames l p = s := by
  rw [abandonFrames_eq]
  exact foldl_fixed_of_mem fun i hi => abandonStep_none (h _ (by omega) (by have := List.mem_range.1 hi; omega))

theorem abandonFrame_tile (l hop : Nat) (f : TileFrame) (s : State) (k j : Nat) : (s.abandonFrame l hop f).tile k j = (s.modTile l hop Tile.frameless).tile k j := rfl

theorem abandonFrames_one {l h c : Nat} {f : TileFrame} {p : Nat → Bool} {s : State} (h1 : 1 ≤ h) (h32 : h ≤ 32) (hf : (s.tile l h).frame = some f)
    (hother : ∀ k, 1 ≤ k → k ≤ 32 → k ≠ h → (s.tile l k).frame = none) (hp : p h = true) (hc : s.loopCanvas l = some c) :
    s.abandonFrames l p = (s.abandonFrame l h f).countAbandoned c := by
  obtain ⟨i, rfl⟩ : ∃ i, h = i + 1 := ⟨h - 1, by omega⟩
  rw [abandonFrames_eq]
  refine foldl_once (a := i) List.nodup_range (List.mem_range.2 (by omega)) (abandonStep_some hf hp hc) (fun b hb hne => ?_) fun b hb hne => ?_
  · exact abandonStep_none (hother _ (by omega) (by have := List.mem_range.1 hb; omega) (by omega))
  · refine abandonStep_none ?_
    have hb' := List.mem_range.1 hb
    exact (congrArg Tile.frame (tile_modTile_other (by omega) (by omega) (by omega) Tile.frameless s)).trans (hother _ (by omega) (by omega) (by omega))

/-! ### FSO_SEND -/

/-- The FSO of end A of a loop that alone feeds. -/
theorem sendFso_a {c p l : Nat} {s : State} (hm : s.dirMode l = 1 ∨ s.dirMode l = 2) (hr : (s.loop l).a.reach ≠ 0) (hb : (s.loop l).b.reach = 0) :
    s.sendFso c p l 0 = s.emit (.tileSet (2 * l) 4 (p * 64 + (if (s.loop l).a.reach = s.dirCount l then (s.loop l).a.reach + 1 else (s.loop l).a.reach) % 64)
      ((s.canvas c).tag % 256) (255 - ((p * 64 + (if (s.loop l).a.reach = s.dirCount l then (s.loop l).a.reach + 1 else (s.loop l).a.reach) % 64)
        ^^^ ((s.canvas c).tag % 256)))) := by
  have hown : s.ownsEnd l 0 = true := by rcases hm with h | h <;> simp [State.ownsEnd, h]
  have hport : s.endPort l 0 = 2 * l := if_neg (by simp)
  have hif : (if (s.loop l).a.reach = s.dirCount l ∧ (s.loop l).b.reach = 0 then (s.loop l).a.reach + 1 else (s.loop l).a.reach)
      = if (s.loop l).a.reach = s.dirCount l then (s.loop l).a.reach + 1 else (s.loop l).a.reach := by simp [hb]
  refine (if_neg ?_).trans ?_
  · rintro (h | h)
    · exact hr h
    · rw [hown] at h; exact Bool.false_ne_true h
  · rw [hport]
    exact congrArg (fun r => s.emit (.tileSet (2 * l) 4 (p * 64 + r % 64) ((s.canvas c).tag % 256) (255 - ((p * 64 + r % 64) ^^^ ((s.canvas c).tag % 256))))) hif

theorem sendFso_idle {c p l e : Nat} {s : State} (h : ((s.loop l).side e).reach = 0) : s.sendFso c p l e = s := if_pos (.inl h)

theorem fsoSend_exec (c p : Nat) (s : State) : exec (.fsoSend c p) s = guarded (.fsoSend c p) s
    (if s.cvState c ≠ 2 ∨ s.powerState = 2 ∨ s.cvp c P.CV_PHASES 0 ≤ p then s
      else ((s.atLeast ((s.phaseTime c p + 100 * subTick) / subTick)).canvasLoops c).foldl (init := s.atLeast ((s.phaseTime c p + 100 * subTick) / subTick)) fun t l =>
        (List.range 2).foldl (fun u e => u.sendFso c p l e) (t.abandonFrames l fun _ => true)) := rfl

section
variable {c p l : Nat} {s : State} (hc : c < 16) (hp : p < 4) (hst : s.cvState c = 2) (hpw : s.powerState ≠ 2) (hph : p < s.cvp c P.CV_PHASES 0) (hl : s.canvasLoops c = [l])
include hc hp hst hpw hph hl

/-- FSO_SEND for a canvas of one loop, whose frames are abandoned in state `u`. -/
theorem fsoSend_sends {u : State} (hu : (s.atLeast ((s.phaseTime c p + 100 * subTick) / subTick)).abandonFrames l (fun _ => true) = u) (hpend : u.pending = s.pending)
    (hm : u.dirMode l = 1 ∨ u.dirMode l = 2) (hr : (u.loop l).a.reach ≠ 0) (hb : (u.loop l).b.reach = 0) :
    exec (.fsoSend c p) s = .next (u.emit (.tileSet (2 * l) 4 (p * 64 + (if (u.loop l).a.reach = u.dirCount l then (u.loop l).a.reach + 1 else (u.loop l).a.reach) % 64)
      ((u.canvas c).tag % 256) (255 - ((p * 64 + (if (u.loop l).a.reach = u.dirCount l then (u.loop l).a.reach + 1 else (u.loop l).a.reach) % 64)
        ^^^ ((u.canvas c).tag % 256))))) := by
  refine exec_next (fsoSend_exec c p s) (by simp [Instr.wellFormed, hc, hp]) ((if_neg ?_).trans ?_) hpend
  · rintro (h | h | h)
    exacts [h hst, hpw h, Nat.not_le.2 hph h]
  · have hl' : (s.atLeast ((s.phaseTime c p + 100 * subTick) / subTick)).canvasLoops c = [l] := hl
    rw [hl', List.foldl_cons, List.foldl_nil, hu]
    refine Eq.trans (b := (u.sendFso c p l 0).sendFso c p l 1) rfl ?_
    rw [sendFso_a hm hr hb]
    exact sendFso_idle hb
end

section
variable {c p l r d1 d2 : Nat} {s : State} (hc : c < 16) (hp : p < 4) (hst : s.cvState c = 2) (hpw : s.powerState ≠ 2) (hph : p < s.cvp c P.CV_PHASES 0)
  (hl : s.canvasLoops c = [l]) (hm : s.dirMode l = 1 ∨ s.dirMode l = 2) (hr : (s.loop l).a.reach = r) (h0 : r ≠ 0) (hb : (s.loop l).b.reach = 0)
  (hd1 : d1 = p * 64 + (if r = s.dirCount l then r + 1 else r) % 64) (hd2 : d2 = (s.canvas c).tag % 256)
include hc hp hst hpw hph hl hm hr h0 hb hd1 hd2

theorem fsoSend_plain (hf : ∀ h, 1 ≤ h → h ≤ 32 → (s.tile l h).frame = none) :
    ∃ t, exec (.fsoSend c p) s = .next t ∧ t.sent = .tileSet (2 * l) 4 d1 d2 (255 - (d1 ^^^ d2)) :: s.sent ∧ t = { s with now := t.now, sent := t.sent } := by
  subst hr hd1 hd2
  exact ⟨_, fsoSend_sends hc hp hst hpw hph hl (u := s.atLeast ((s.phaseTime c p + 100 * subTick) / subTick))
    (abandonFrames_none (s := s.atLeast ((s.phaseTime c p + 100 * subTick) / subTick)) hf _) rfl hm h0 hb, rfl, rfl⟩

theorem fsoSend_abandons {h : Nat} {f : TileFrame} (h1 : 1 ≤ h) (hle : h ≤ r) (hcount : r ≤ s.dirCount l) (h32 : h ≤ 32) (hf : (s.tile l h).frame = some f)
    (hother : ∀ k, 1 ≤ k → k ≤ 32 → k ≠ h → (s.tile l k).frame = none) (hcv : s.loopCanvas l = some c) :
    ∃ t, exec (.fsoSend c p) s = .next t
      ∧ t.sent = .tileSet (2 * l) 4 d1 d2 (255 - (d1 ^^^ d2)) :: t.held (s.lane (2 * l)).winEnd (.tilePkt (2 * l) (tileHdr 3 f.phase (h - 1) 8 0 0)
          (withCrc (leBytes (f.tag + at' 32 f.rows + at' 48 1) 8))) :: s.sent
      ∧ t.tile l h = { s.tile l h with frame := none } ∧ (∀ k j, 1 ≤ j → k * 32 + j ≠ l * 32 + h → t.tile k j = s.tile k j)
      ∧ t.getP (P.mw (2 * l / 64) P.MW_ABANDONED) (2 * l % 64) = min (s.getP (P.mw (2 * l / 64) P.MW_ABANDONED) (2 * l % 64) + 1) (2 ^ 32 - 1)
      ∧ SameParams [pkey (P.mw (2 * l / 64) P.MW_ABANDONED) (2 * l % 64)] s t
      ∧ SMap.get (fun _ => 0) t.mw.abandoned c = SMap.get (fun _ => 0) s.mw.abandoned c + 1
      ∧ t = { s with now := t.now, sent := t.sent, params := t.params, mw := { s.mw with tiles := t.mw.tiles, abandoned := t.mw.abandoned } } := by
  subst hr hd1 hd2
  have hfed : s.fedFrom l h = some 0 := by
    rw [State.fedFrom]
    exact (if_neg (by omega)).trans (if_pos hle)
  have hport : s.endPort l 0 = 2 * l := if_neg (by simp)
  have hone := abandonFrames_one (p := fun _ => true) (s := s.atLeast ((s.phaseTime c p + 100 * subTick) / subTick)) h1 h32 hf hother rfl hcv
  have hframe : (s.atLeast ((s.phaseTime c p + 100 * subTick) / subTick)).abandonFrame l h f
      = (((s.atLeast ((s.phaseTime c p + 100 * subTick) / subTick)).modTile l h Tile.frameless).emitAfter (s.lane (2 * l)).winEnd
          (.tilePkt (2 * l) (tileHdr 3 f.phase (h - 1) 8 0 0) (withCrc (leBytes (f.tag + at' 32 f.rows + at' 48 1) 8)))).bumpSat (P.mw (2 * l / 64) P.MW_ABANDONED) (2 * l % 64) 1 := by
    have hfed' : (s.atLeast ((s.phaseTime c p + 100 * subTick) / subTick)).fedFrom l h = some 0 := hfed
    have hport' : ∀ n, (s.atLeast n).endPort l 0 = 2 * l := fun _ => hport
    have hport'' : ∀ n g, ((s.atLeast n).modTile l h g).endPort l 0 = 2 * l := fun _ _ => hport
    rw [State.abandonFrame, hfed', Option.getD_some, hport', State.sendTile, hport'', leBytes_length]
    rfl
  rw [hframe] at hone
  refine ⟨_, fsoSend_sends hc hp hst hpw hph hl hone rfl hm h0 hb, rfl, tile_modTile_same l h _ _, fun k j hj hne => tile_modTile_other h1 hj hne _ _,
    State.getP_setP_same _ _ _ _, fun k hk => SMap.get_set_other pdef _ (by simpa using hk) _, countAbandoned_get c _, rfl⟩
end

theorem fsoSend_idle {c p : Nat} {s : State} (hc : c < 16) (hp : p < 4) (h : s.cvState c ≠ 2 ∨ s.powerState = 2 ∨ s.cvp c P.CV_PHASES 0 ≤ p) :
    exec (.fsoSend c p) s = .next s :=
  exec_next (fsoSend_exec c p s) (by simp [Instr.wellFormed, hc, hp]) (if_pos h) rfl

/-! ### TILE_LINE_SEND -/

/-- A packet as it leaves on the port of an end. -/
abbrev State.tileTx (s : State) (l e typ phase dist aux flags : Nat) (payload : List Byte) : Tx :=
  s.held (s.lane (s.endPort l e)).winEnd (.tilePkt (s.endPort l e) (tileHdr typ phase dist payload.length aux flags) (withCrc payload))

/-- `t` is `s` after packets to hop `h`, newest first, that leave its open frame at `g`. -/
def TileSent (l h : Nat) (items : List Tx) (g : Option TileFrame) (s t : State) : Prop :=
  t.sent = items ++ s.sent ∧ t.tile l h = { s.tile l h with frame := g } ∧ (∀ k j, 1 ≤ j → k * 32 + j ≠ l * 32 + h → t.tile k j = s.tile k j)
    ∧ t = { s with sent := t.sent, mw := { s.mw with tiles := t.mw.tiles } }

theorem TileSent.trans {l h : Nat} {x y : List Tx} {f g : Option TileFrame} {s t u : State} (ht : TileSent l h x f s t) (hu : TileSent l h y g t u) :
    TileSent l h (y ++ x) g s u := by
  obtain ⟨hsent, htile, hother, hframe⟩ := ht
  obtain ⟨hsent', htile', hother', hframe'⟩ := hu
  refine ⟨by rw [hsent', hsent, List.append_assoc], by rw [htile', htile], fun k j hj hne => (hother' k j hj hne).trans (hother k j hj hne), ?_⟩
  rw [hframe', hframe]

/-- A tile with open frame `g`. -/
abbrev Tile.framed (g : Option TileFrame) (x : Tile) : Tile := { x with frame := g }

/-- A packet leaves and the open frame becomes `g`. -/
abbrev State.sendFramed (l h e typ phase dist aux flags : Nat) (payload : List Byte) (g : Option TileFrame) (s : State) : State :=
  (s.modTile l h (Tile.framed g)).sendTile l e typ phase dist aux flags payload

theorem sendFramed_sent {l h : Nat} (h1 : 1 ≤ h) (e typ phase dist aux flags : Nat) (payload : List Byte) (g : Option TileFrame) (s : State) :
    TileSent l h [s.tileTx l e typ phase dist aux flags payload] g s (s.sendFramed l h e typ phase dist aux flags payload g) :=
  ⟨rfl, tile_modTile_same l h (Tile.framed g) s, fun _ _ hj hne => tile_modTile_other h1 hj hne (Tile.framed g) s, rfl⟩

/-- What a packet carries is the same after another. -/
theorem TileSent.tileTx {l h : Nat} {x : List Tx} {g : Option TileFrame} {s t : State} (ht : TileSent l h x g s t) (e typ phase dist aux flags : Nat) (payload : List Byte) :
    t.tileTx l e typ phase dist aux flags payload = s.tileTx l e typ phase dist aux flags payload := by
  rw [ht.2.2.2]
  rfl

/-- The payload of TFH. -/
abbrev State.tfhBytes (s : State) (l h c w n tag : Nat) : List Byte :=
  leBytes (tag + at' 32 w + at' 48 n + at' 64 (s.dirTile l h 12 1) + at' 72 (s.dirTile l h 13 1 % 2) + at' 80 (s.cvp c P.CV_PHASES 0 - 1)) 12

section
variable {l h c p y w n e row tag : Nat} {m : MapEntry} {z : State} (hdims : z.tileDims l h = (w, n)) (hfed : z.fedFrom l h = some e) (htag : (z.canvas c).tag = tag)
  (hrow : row = if m.my then n - 1 - (y - m.y) else y - m.y)
include hdims hfed htag hrow

/-- The packets of a row, whose frame stands open in `u`. -/
theorem sendTileLine_open {u : State} {f : TileFrame} {codes : List Nat}
    (hu : (if y = m.y then z.sendFramed l h e 0x1 p (z.distOf l e h) 0 0 (z.tfhBytes l h c w n tag) (some { phase := p, tag := tag, rows := 0 }) else z) = u)
    (hf : (u.tile l h).frame = some f) (hph : f.phase = p) (hft : f.tag = tag) (hcodes : SMap.get (fun _ => []) (u.canvas c).out (outKey l h y) = codes) :
    z.sendTileLine l h c p y m =
      if y + 1 = m.y + n then (u.sendFramed l h e 0x2 p (z.distOf l e h) row (b2n (decide (y + 1 = m.y + n))) (rowBytes w m.mx codes) (some { f with rows := f.rows + 1 })).sendFramed
          l h e 0x3 p (z.distOf l e h) 0 0 (leBytes (tag + at' 32 (f.rows + 1)) 8) none
      else u.sendFramed l h e 0x2 p (z.distOf l e h) row (b2n (decide (y + 1 = m.y + n))) (rowBytes w m.mx codes) (some { f with rows := f.rows + 1 }) := by
  unfold State.sendTileLine
  rw [hdims, hfed]
  dsimp only [Option.getD_some]
  rw [htag, hu, hf]
  dsimp only
  rw [if_neg (by rw [hph, hft]; simp), hcodes, ← hrow]
end


theorem get_of_find {α : Type} {d : Nat → α} {m : SMap α} {k : Nat} {v : α} (h : SMap.find k m = some v) : SMap.get d m k = v := by rw [SMap.get, h, Option.getD_some]

/-- The open frame that a row belongs to. -/
abbrev State.rowFrame (s : State) (l h p y tag : Nat) (m : MapEntry) : TileFrame :=
  if y = m.y then { phase := p, tag := tag, rows := 0 } else (s.tile l h).frame.getD { phase := p, tag := tag, rows := 0 }

/-- The frame of a row is opened by its first line, or stands. -/
theorem rowFrame_opened {l h c p y w n e tag : Nat} {m : MapEntry} {z : State} (h1 : 1 ≤ h)
    (hopen : y = m.y ∨ ∃ f, (z.tile l h).frame = some f ∧ f.phase = p ∧ f.tag = tag) : ∃ u, (if y = m.y then z.sendFramed l h e 0x1 p (z.distOf l e h) 0 0 (z.tfhBytes l h c w n tag) (some { phase := p, tag := tag, rows := 0 }) else z) = u
    ∧ TileSent l h (if y = m.y then [z.tileTx l e 0x1 p (z.distOf l e h) 0 0 (z.tfhBytes l h c w n tag)] else []) (some (z.rowFrame l h p y tag m)) z u
    ∧ (z.rowFrame l h p y tag m).phase = p ∧ (z.rowFrame l h p y tag m).tag = tag := by
  unfold State.rowFrame
  by_cases hy : y = m.y
  · rw [if_pos hy, if_pos hy, if_pos hy]
    exact ⟨_, rfl, sendFramed_sent h1 _ _ _ _ _ _ _ _ z, rfl, rfl⟩
  · obtain ⟨f, hf, hph, hft⟩ := hopen.resolve_left hy
    rw [if_neg hy, if_neg hy, if_neg hy, hf, Option.getD_some]
    exact ⟨z, rfl, ⟨rfl, by rw [← hf], fun _ _ _ _ => rfl, rfl⟩, hph, hft⟩

section
variable {l h c p y w n e row tag : Nat} {m : MapEntry} {codes : List Nat} {z : State} (h1 : 1 ≤ h) (hdims : z.tileDims l h = (w, n)) (hfed : z.fedFrom l h = some e)
  (htag : (z.canvas c).tag = tag) (hrow : row = if m.my then n - 1 - (y - m.y) else y - m.y) (hcodes : SMap.get (fun _ => []) (z.canvas c).out (outKey l h y) = codes)
  (hopen : y = m.y ∨ ∃ f, (z.tile l h).frame = some f ∧ f.phase = p ∧ f.tag = tag)
include h1 hdims hfed htag hrow hcodes hopen

theorem sendTileLine_sent : TileSent l h
    ((if y + 1 = m.y + n then [z.tileTx l e 0x3 p (z.distOf l e h) 0 0 (leBytes (tag + at' 32 ((z.rowFrame l h p y tag m).rows + 1)) 8)] else [])
      ++ [z.tileTx l e 0x2 p (z.distOf l e h) row (b2n (decide (y + 1 = m.y + n))) (rowBytes w m.mx codes)]
      ++ (if y = m.y then [z.tileTx l e 0x1 p (z.distOf l e h) 0 0 (z.tfhBytes l h c w n tag)] else []))
    (if y + 1 = m.y + n then none else some { z.rowFrame l h p y tag m with rows := (z.rowFrame l h p y tag m).rows + 1 }) z (z.sendTileLine l h c p y m) := by
  obtain ⟨u, hu, hsent, hph, hft⟩ := rowFrame_opened (c := c) (w := w) (n := n) (e := e) h1 hopen
  generalize z.rowFrame l h p y tag m = f at hsent hph hft ⊢
  have hcodes' : SMap.get (fun _ => []) (u.canvas c).out (outKey l h y) = codes := by
    rw [hsent.2.2.2]
    exact hcodes
  rw [sendTileLine_open hdims hfed htag hrow hu (by rw [hsent.2.1]) hph hft hcodes']
  have hline := sendFramed_sent (l := l) h1 e 0x2 p (z.distOf l e h) row (b2n (decide (y + 1 = m.y + n))) (rowBytes w m.mx codes) (some { f with rows := f.rows + 1 }) u
  rw [hsent.tileTx] at hline
  have hrows := hsent.trans hline
  by_cases hlast : y + 1 = m.y + n
  · have hend := sendFramed_sent (l := l) h1 e 0x3 p (z.distOf l e h) 0 0 (leBytes (tag + at' 32 (f.rows + 1)) 8) none
      (u.sendFramed l h e 0x2 p (z.distOf l e h) row (b2n (decide (y + 1 = m.y + n))) (rowBytes w m.mx codes) (some { f with rows := f.rows + 1 }))
    rw [hrows.tileTx] at hend
    have hall := hrows.trans hend
    rw [if_pos hlast, if_pos hlast, if_pos hlast]
    rw [List.append_assoc]
    exact hall
  · rw [if_neg hlast, if_neg hlast, if_neg hlast, List.nil_append]
    exact hrows
end

/-- The row of a line has been handed over. -/
abbrev Canvas.rowTaken (k : Nat) (x : Canvas) : Canvas := { x with out := SMap.del k x.out }

/-- The time from which a tile's row may leave. -/
abbrev State.rowTime (s : State) (c p y : Nat) (m : MapEntry) : Nat := (s.composeTime c p y + 100 * subTick + m.x / 8 * subTick * 5 / 6) / subTick

section
variable {l h c p y : Nat} {m : MapEntry} {codes : List Nat} {s : State} (hl : l < 512) (h1 : 1 ≤ h) (h32 : h ≤ 32) (hc : c < 16) (hp : p < 4)
include hl h1 h32 hc hp

theorem tileLineSend_wellFormed : (Instr.tileLineSend l h c p y).wellFormed = true := by simp [Instr.wellFormed, hl, h1, h32, hc, hp]

theorem tileLineSend_handed {u : State} (hm : ((s.portMap c).find? fun x => x.loop == l && x.hop == h) = some m) (hout : SMap.find (outKey l h y) (s.canvas c).out = some codes)
    (hu : (if (s.atLeast (s.rowTime c p y m)).takesFrames l h p && (s.atLeast (s.rowTime c p y m)).cvState c == 2 && (s.canvas c).phase == p
      then (s.atLeast (s.rowTime c p y m)).sendTileLine l h c p y m else s.atLeast (s.rowTime c p y m)) = u) (hpend : u.pending = s.pending) :
    exec (.tileLineSend l h c p y) s = .next (u.modCanvas c (Canvas.rowTaken (outKey l h y))) := by
  refine exec_next (i := .tileLineSend l h c p y) rfl (tileLineSend_wellFormed hl h1 h32 hc hp) ?_ hpend
  dsimp only
  rw [hm, hout]
  exact congrArg (State.modCanvas c (Canvas.rowTaken (outKey l h y))) hu

theorem tileLineSend_drops (hm : ((s.portMap c).find? fun x => x.loop == l && x.hop == h) = some m) (hout : SMap.find (outKey l h y) (s.canvas c).out = some codes)
    (htakes : s.takesFrames l h p = false) : ∃ t, exec (.tileLineSend l h c p y) s = .next t ∧ t.canvas c = { s.canvas c with out := SMap.del (outKey l h y) (s.canvas c).out }
      ∧ (∀ k, k ≠ c → t.canvas k = s.canvas k) ∧ t = { s with now := t.now, cv := { s.cv with cvs := t.cv.cvs } } := by
  have htakes' : (s.atLeast (s.rowTime c p y m)).takesFrames l h p = false := htakes
  refine ⟨_, tileLineSend_handed hl h1 h32 hc hp hm hout (if_neg (by rw [htakes']; simp)) rfl, ?_, fun k hk => ?_, rfl⟩
  · exact (State.canvas_modCanvas _ c _ c).trans (if_pos rfl)
  · exact (State.canvas_modCanvas _ c _ k).trans (if_neg hk)

theorem tileLineSend_idle (hout : SMap.find (outKey l h y) (s.canvas c).out = none) : exec (.tileLineSend l h c p y) s = .next s := by
  refine exec_next (i := .tileLineSend l h c p y) rfl (tileLineSend_wellFormed hl h1 h32 hc hp) ?_ rfl
  dsimp only
  rw [hout]
  cases (s.portMap c).find? fun x => x.loop == l && x.hop == h <;> rfl
end
end Sys2Proof.Machine

open Sys2Proof Sys2Proof.Machine in
/-- Settles O30: the frames still open are abandoned before the FSO; a row handed over leaves as the packets of its tile, and is handed over once. -/
theorem linesAreSentToTiles : Obligations.LinesAreSentToTiles := by
  unfold Obligations.LinesAreSentToTiles
  refine ⟨fun c p l r d1 d2 s hc hp hst hpw hph hl hm hr h0 hb hd1 hd2 => ⟨fsoSend_plain hc hp hst hpw hph hl hm hr h0 hb hd1 hd2, fun h f h1 hle hcount h32 hf hother _ hcv =>
      fsoSend_abandons hc hp hst hpw hph hl hm hr h0 hb hd1 hd2 h1 hle hcount h32 hf hother hcv⟩,
    fun c p s hc hp h => fsoSend_idle hc hp h, fun l h c p y w n e row tag m codes s hl h1 h32 hc hp hm hout htakes hst hph htag hdims hfed hrow hopen => ?_,
    fun l h c p y m codes s hl h1 h32 hc hp hm hout htakes => tileLineSend_drops hl h1 h32 hc hp hm hout htakes,
    fun l h c p y s hl h1 h32 hc hp hout => tileLineSend_idle hl h1 h32 hc hp hout⟩
  have hsent := sendTileLine_sent (z := s.atLeast (s.rowTime c p y m)) h1 hdims hfed htag hrow (get_of_find hout) hopen
  have hgo : (if (s.atLeast (s.rowTime c p y m)).takesFrames l h p && (s.atLeast (s.rowTime c p y m)).cvState c == 2 && (s.canvas c).phase == p
      then (s.atLeast (s.rowTime c p y m)).sendTileLine l h c p y m else s.atLeast (s.rowTime c p y m)) = (s.atLeast (s.rowTime c p y m)).sendTileLine l h c p y m := by
    have htakes' : (s.atLeast (s.rowTime c p y m)).takesFrames l h p = true := htakes
    have hst' : (s.atLeast (s.rowTime c p y m)).cvState c = 2 := hst
    rw [htakes', hst', hph]
    simp
  have hexec := tileLineSend_handed hl h1 h32 hc hp hm hout hgo (by rw [hsent.2.2.2]; rfl)
  generalize (s.atLeast (s.rowTime c p y m)).sendTileLine l h c p y m = u at hsent hexec
  obtain ⟨htx, htile, hother, hframe⟩ := hsent
  have hnow : u.now = (s.atLeast (s.rowTime c p y m)).now := (congrArg State.now hframe).trans rfl
  have hheld : ∀ w x, (u.modCanvas c (Canvas.rowTaken (outKey l h y))).held w x = (s.atLeast (s.rowTime c p y m)).held w x := fun w x => by
    rw [State.held, State.modCanvas_now, hnow]
  have hcv : u.canvas = s.canvas := by rw [hframe]; rfl
  have hcanvas := fun k => State.canvas_modCanvas u c (Canvas.rowTaken (outKey l h y)) k
  rw [hcv] at hcanvas
  refine ⟨_, _, hexec, rfl, ?_, ?_, hother, ?_, (hcanvas c).trans (if_pos rfl), fun k hk => (hcanvas k).trans (if_neg hk), ?_⟩
  · rw [hheld, hheld, hheld]
    exact htx
  · exact congrArg Tile.frame htile
  · change u.tile l h = Tile.framed (u.tile l h).frame (s.tile l h)
    rw [htile]
    rfl
  · rw [hframe]
    rfl
end

section
/-! Midway: what the functions of one loop leave of the rest, a loop's state, and the packets received from tiles (07_midway.md). -/

namespace Sys2Proof.Machine

/-! ### What one loop's functions leave -/

theorem LoopOnly.refl (l : Nat) (s : State) : LoopOnly l s s := ⟨fun _ _ => rfl, fun _ _ _ _ _ => rfl, fun _ _ => rfl, fun _ _ _ => rfl, fun _ _ => rfl, _, _, _, _, rfl⟩

theorem LoopOnly.trans {l : Nat} {s t u : State} (h : LoopOnly l s t) (g : LoopOnly l t u) : LoopOnly l s u := by
  obtain ⟨hl, ht, hp, hn, hq, _, _, _, _, hf⟩ := h
  obtain ⟨gl, gt, gp, gn, gq, w, v, m, a, gf⟩ := g
  refine ⟨fun k hk => (gl k hk).trans (hl k hk), fun k j hk h1 h32 => (gt k j hk h1 h32).trans (ht k j hk h1 h32), hp.trans gp, fun k h1 h2 => (gn k h1 h2).trans (hn k h1 h2),
    fun q hk => (gq q hk).trans (hq q hk), w, v, m, a, ?_⟩
  rw [gf, hf]

theorem EventsOnly.loopOnly {s t : State} (h : EventsOnly s t) (l : Nat) : LoopOnly l s t := by
  obtain ⟨w, v, m, a, rfl, -⟩ := h.rings
  exact ⟨fun _ _ => rfl, fun _ _ _ _ _ => rfl, fun _ _ => rfl, fun _ _ _ => rfl, fun _ _ => rfl, _, _, _, _, rfl⟩

theorem loopOnly_service (l : Nat) (x : List ServiceCond) (s : State) : LoopOnly l s { s with ctl := { s.ctl with service := x } } :=
  ⟨fun _ _ => rfl, fun _ _ _ _ _ => rfl, fun _ _ => rfl, fun _ _ _ => rfl, fun _ _ => rfl, _, _, _, _, rfl⟩

theorem loopOnly_raiseService (l : Nat) (c : ServiceCond) (s : State) : LoopOnly l s (s.raiseService c) := by
  obtain ⟨x, h, -⟩ := raiseService_events c s
  exact (loopOnly_service l x s).trans (h.loopOnly l)

theorem loopOnly_clearService (l : Nat) (c : ServiceCond) (s : State) : LoopOnly l s (s.clearService c) := by
  obtain ⟨x, h⟩ := clearService_events c s
  exact (loopOnly_service l x s).trans (h.loopOnly l)

theorem loopOnly_setP {l i e : Nat} (h : pkey i e ∈ loopKeys l) (v : Nat) (s : State) : LoopOnly l s (s.setP i e v) :=
  ⟨fun _ _ => rfl, fun _ _ _ _ _ => rfl, sameParams_setP h v, fun _ _ _ => rfl, fun _ _ => rfl, _, _, _, _, rfl⟩

theorem loopOnly_modLoop (l : Nat) (f : Loop → Loop) (s : State) : LoopOnly l s (s.modLoop l f) :=
  ⟨fun _ hk => loop_modLoop_other hk f s, fun _ _ _ _ _ => rfl, fun _ _ => rfl, fun _ _ _ => rfl, fun _ _ => rfl, _, _, _, _, rfl⟩

theorem loopOnly_modEnd (l e : Nat) (f : LoopEnd → LoopEnd) (s : State) : LoopOnly l s (s.modEnd l e f) := loopOnly_modLoop l _ s

theorem loopOnly_modTile {l h : Nat} (h1 : 1 ≤ h) (h32 : h ≤ 32) (f : Tile → Tile) (s : State) : LoopOnly l s (s.modTile l h f) :=
  ⟨fun _ _ => rfl, fun _ _ hk hj hj32 => tile_modTile_other h1 hj (by omega) f s, fun _ _ => rfl, fun _ _ _ => rfl, fun _ _ => rfl, _, _, _, _, rfl⟩

theorem loopOnly_sent (l : Nat) (x : List Tx) (s : State) : LoopOnly l s { s with sent := x } :=
  ⟨fun _ _ => rfl, fun _ _ _ _ _ => rfl, fun _ _ => rfl, fun _ _ _ => rfl, fun _ _ => rfl, _, _, _, _, rfl⟩

theorem loopOnly_sendTile (l k e typ phase dist aux flags : Nat) (p : List Byte) (s : State) : LoopOnly l s (s.sendTile k e typ phase dist aux flags p) := loopOnly_sent l _ s

theorem loopOnly_sendAlign (l port d : Nat) (s : State) : LoopOnly l s (s.sendAlign port d) :=
  ⟨fun _ _ => rfl, fun _ _ _ _ _ => rfl, fun _ _ => rfl, fun _ _ _ => rfl, fun _ _ => rfl, _, _, _, _, rfl⟩

theorem loopOnly_modLane {l k : Nat} (h : k = 2 * l ∨ k = 2 * l + 1) (f : Lane → Lane) (s : State) : LoopOnly l s (s.modLane k f) :=
  ⟨fun _ _ => rfl, fun _ _ _ _ _ => rfl, fun _ _ => rfl, fun j h1 h2 => (State.lane_modLane s k f j).trans (if_neg (by omega)), fun _ _ => rfl, _, _, _, _, rfl⟩

theorem loopOnly_settleLane {l k : Nat} (h : k = 2 * l ∨ k = 2 * l + 1) (s : State) : LoopOnly l s (s.settleLane k) := by
  obtain ⟨f, hf | hf⟩ := settleLane_modLane k s <;> rw [hf]
  · exact loopOnly_modLane h f s
  · exact (loopOnly_sendAlign l k 0x40 s).trans (loopOnly_modLane h f _)

theorem loopOnly_settlePorts (l : Nat) (s : State) : LoopOnly l s (s.settleLanes [2 * l, 2 * l + 1]) :=
  (loopOnly_settleLane (.inl rfl) s).trans (loopOnly_settleLane (.inr rfl) _)

theorem loopOnly_partners {l h : Nat} (h1 : 1 ≤ h) (h32 : h ≤ 32) {t s : State} (hother : ∀ q, partnerKey q ≠ partnerKey (tileId l h) → t.partner q = s.partner q)
    (hf : ∃ x, EventsOnly { s with ctl := { s.ctl with partners := x } } t) : LoopOnly l s t := by
  obtain ⟨x, hx⟩ := hf
  obtain ⟨w, v, m, a, rfl, -⟩ := hx.rings
  exact ⟨fun _ _ => rfl, fun _ _ _ _ _ => rfl, fun _ _ => rfl, fun _ _ _ => rfl, fun q hq => hother q (hq h h1 h32), _, _, _, _, rfl⟩

theorem loopOnly_partnerDeparts {l h : Nat} (h1 : 1 ≤ h) (h32 : h ≤ 32) (s : State) : LoopOnly l s (s.partnerDeparts (tileId l h)) :=
  loopOnly_partners h1 h32 (fun _ hq => partnerDeparts_other hq s) (partnerDeparts_events _ s)

theorem loopOnly_partnerArrives {l h : Nat} (h1 : 1 ≤ h) (h32 : h ≤ 32) (src v : Nat) (s : State) : LoopOnly l s (s.partnerArrives (tileId l h) src v) :=
  loopOnly_partners h1 h32 (fun _ hq => partner_partnerArrives_other hq src v s) ⟨_, EventsOnly.refl _⟩

/-! ### The state of a loop -/

theorem dirMode_congr {s t : State} (h : t.ctl.tables = s.ctl.tables) (l : Nat) : t.dirMode l = s.dirMode l := by simp only [State.dirMode, State.tableNum, h]

theorem dirCount_congr {s t : State} (h : t.ctl.tables = s.ctl.tables) (l : Nat) : t.dirCount l = s.dirCount l := by simp only [State.dirCount, State.tableNum, h]

theorem LoopOnly.tables {l : Nat} {s t : State} (h : LoopOnly l s t) : t.ctl.tables = s.ctl.tables := by
  obtain ⟨-, -, -, -, -, w, v, m, a, hf⟩ := h
  rw [hf]

theorem LoopOnly.dirMode {l : Nat} {s t : State} (h : LoopOnly l s t) (k : Nat) : t.dirMode k = s.dirMode k := dirMode_congr h.tables k

theorem LoopOnly.dirCount {l : Nat} {s t : State} (h : LoopOnly l s t) (k : Nat) : t.dirCount k = s.dirCount k := dirCount_congr h.tables k

theorem LoopOnly.pending {l : Nat} {s t : State} (h : LoopOnly l s t) : t.pending = s.pending := by
  obtain ⟨-, -, -, -, -, w, v, m, a, hf⟩ := h
  rw [hf]

/-- A report of loop `l`: neither the loop nor its tiles change. -/
def LoopReported (l : Nat) (s t : State) : Prop := LoopOnly l s t ∧ t.mw.loops = s.mw.loops ∧ t.mw.tiles = s.mw.tiles

theorem LoopReported.refl (l : Nat) (s : State) : LoopReported l s s := ⟨LoopOnly.refl l s, rfl, rfl⟩

theorem LoopReported.trans {l : Nat} {s t u : State} (h : LoopReported l s t) (g : LoopReported l t u) : LoopReported l s u :=
  ⟨h.1.trans g.1, g.2.1.trans h.2.1, g.2.2.trans h.2.2⟩

theorem LoopReported.loop {l : Nat} {s t : State} (h : LoopReported l s t) (k : Nat) : t.loop k = s.loop k := by rw [State.loop, h.2.1, ← State.loop]

theorem LoopReported.tile {l : Nat} {s t : State} (h : LoopReported l s t) (k j : Nat) : t.tile k j = s.tile k j := by rw [State.tile, h.2.2, ← State.tile]

theorem EventsOnly.loopReported {s t : State} (h : EventsOnly s t) (l : Nat) : LoopReported l s t := by
  refine ⟨h.loopOnly l, ?_⟩
  obtain ⟨w, v, m, a, rfl, -⟩ := h.rings
  exact ⟨rfl, rfl⟩

theorem loopReported_service (l : Nat) (c : ServiceCond) (b : Prop) [Decidable b] (s : State) : LoopReported l s (if b then s.raiseService c else s.clearService c) := by
  split
  · obtain ⟨x, h, -⟩ := raiseService_events c s
    exact LoopReported.trans ⟨loopOnly_service l x s, rfl, rfl⟩ (h.loopReported l)
  · obtain ⟨x, h⟩ := clearService_events c s
    exact LoopReported.trans ⟨loopOnly_service l x s, rfl, rfl⟩ (h.loopReported l)

theorem loopReported_setP {l i e : Nat} (h : pkey i e ∈ loopKeys l) (v : Nat) (s : State) : LoopReported l s (s.setP i e v) := ⟨loopOnly_setP h v s, rfl, rfl⟩

theorem loopReported_settlePorts (l : Nat) (s : State) : LoopReported l s (s.settleLanes [2 * l, 2 * l + 1]) := by
  refine ⟨loopOnly_settlePorts l s, ?_⟩
  obtain ⟨o, q, x, h⟩ := settleLanes_frame [2 * l, 2 * l + 1] s
  rw [h]
  exact ⟨rfl, rfl⟩

theorem loopReported_reach (l : Nat) (s : State) : LoopReported l s (s.reachReport l) :=
  (loopReported_setP (by simp [loopKeys]) _ s).trans (loopReported_settlePorts l _)

/-- A loop that is not paired tells no partner. -/
theorem noteLoop_local {l : Nat} {s : State} (h : s.dirMode l ≠ 3) : s.noteLoop l = s := if_neg (by simp [h])

theorem sendPLoop_local {l : Nat} {s : State} (h : s.dirMode l ≠ 3) : s.sendPLoop l = s := if_neg (by simp [h])

theorem relayTile_local {l : Nat} {s : State} (h : s.dirMode l ≠ 3) (hop kind : Nat) (p : List Byte) : s.relayTile l hop kind p = s := if_neg (by simp [h])

theorem setLoopState_effect {l : Nat} {s : State} (h : s.dirMode l ≠ 3) (new reason : Nat) :
    LoopReported l s (s.setLoopState l new reason) ∧ (s.setLoopState l new reason).loopState l = new := by
  have hserv := loopReported_service l (.loop l) (3 ≤ new ∧ (s.dirMode l = 2 ∨ s.dirMode l = 3)) s
  have hget : ∀ i j, (if 3 ≤ new ∧ (s.dirMode l = 2 ∨ s.dirMode l = 3) then s.raiseService (.loop l) else s.clearService (.loop l)).getP i j = s.getP i j := fun i j => by
    split
    · obtain ⟨x, hx, -⟩ := raiseService_events (.loop l) s
      exact hx.getP i j
    · obtain ⟨x, hx⟩ := clearService_events (.loop l) s
      exact hx.getP i j
  unfold State.setLoopState
  dsimp only
  generalize (if 3 ≤ new ∧ (s.dirMode l = 2 ∨ s.dirMode l = 3) then s.raiseService (.loop l) else s.clearService (.loop l)) = s1 at hserv hget ⊢
  split
  · next hold => exact ⟨hserv, (hget _ _).trans hold⟩
  · have hset := loopReported_setP (l := l) (i := mwLoop l P.MW_LOOP_STATE) (e := l % 32) (by simp [loopKeys]) new s1
    have hpost := eventsOnly_post (s1.setP (mwLoop l P.MW_LOOP_STATE) (l % 32) new) 0x58 0x7 l
      (new + at' 8 (s.loopState l) + at' 16 reason + at' 24 (s1.loop l).a.reach + at' 32 (s1.loop l).b.reach)
    have hall := (hserv.trans hset).trans (hpost.loopReported l)
    rw [noteLoop_local (by rw [hall.1.dirMode]; exact h)]
    exact ⟨hall, (hpost.getP _ _).trans (State.getP_setP_same _ _ _ _)⟩

/-- The state of a loop by what its ends feed and find (Table 7-8). -/
def State.loopVerdict (s : State) (l : Nat) : Nat :=
  let x := s.loop l
  let n := s.dirCount l
  let m := s.dirMode l
  if m = 0 then 0
  else if !x.a.done && !x.b.done then 1
  else if x.a.reach = 0 ∧ x.b.reach = 0 then (if x.a.found = 0 ∧ x.b.found = 0 then 5 else if x.a.starting || x.b.starting then 4 else 1)
  else if x.a.reach ≠ 0 ∧ x.b.reach ≠ 0 then 3
  else if x.a.reach = n ∧ (m = 1 ∨ x.intact = true) then 2
  else if x.b.reach = n ∧ x.intact = true then 2
  else 4

theorem evalLoop_eq (l reason : Nat) (s : State) : s.evalLoop l reason = ((s.reachReport l).setLoopState l (s.loopVerdict l) reason).noteLoop l := rfl

theorem evalLoop_effect {l : Nat} {s : State} (h : s.dirMode l ≠ 3) (reason : Nat) : LoopReported l s (s.evalLoop l reason) ∧ (s.evalLoop l reason).loopState l = s.loopVerdict l := by
  have hreach := loopReported_reach l s
  obtain ⟨hset, hst⟩ := setLoopState_effect (s := s.reachReport l) (by rw [hreach.1.dirMode]; exact h) (s.loopVerdict l) reason
  have hall := hreach.trans hset
  rw [evalLoop_eq, noteLoop_local (by rw [hall.1.dirMode]; exact h)]
  exact ⟨hall, hst⟩

/-- A loop all of whose tiles the A end feeds, and that is known whole, is NORMAL. -/
theorem loopVerdict_fed {l : Nat} {s : State} (hm : s.dirMode l = 1 ∨ s.dirMode l = 2 ∧ (s.loop l).intact = true) (hd : (s.loop l).a.done = true)
    (ha : (s.loop l).a.reach = s.dirCount l) (h0 : s.dirCount l ≠ 0) (hb : (s.loop l).b.reach = 0) : s.loopVerdict l = 2 := by
  unfold State.loopVerdict
  dsimp only
  have hm0 : s.dirMode l ≠ 0 := by rcases hm with h | h <;> omega
  rw [if_neg hm0, hd, if_neg (by simp), if_neg (by rw [ha]; omega), if_neg (by rw [hb]; omega), if_pos ⟨ha, hm.imp id And.right⟩]

end Sys2Proof.Machine
end

section
/-! Midway: packets received from tiles, their checks and their replies, and polls (O28; 07_midway.md). -/

namespace Sys2Proof.Machine

/-! ### The checks of a received packet (R215) -/

section
variable {typ : Nat} {p : TilePkt} {k : Nat → State → State} {s : State}

theorem tileReceive_deaf (h : s.portEnd p.port = none ∨ s.hears p.port = false) : s.tileReceive typ p k = s.atLeast p.time := by
  have hport : (s.atLeast p.time).portEnd p.port = s.portEnd p.port := rfl
  unfold State.tileReceive
  dsimp only
  rw [hport]
  rcases he : s.portEnd p.port with _ | e
  · rfl
  · have hh : (s.atLeast p.time).hears p.port = false := h.resolve_left (by simp [he])
    exact if_pos (by rw [hh]; rfl)

variable {e : Nat} (he : s.portEnd p.port = some e) (hh : s.hears p.port = true)
include he hh

theorem tileReceive_heard : s.tileReceive typ p k
    = if tileFaulty typ p || (typ == 4 && s.dirMode (p.port / 2) == 1) then State.bumpSat (s.atLeast p.time) (P.mw (p.port / 64) P.MW_UP_HCRC_ERRORS) (p.port % 64) 1
      else if p.payload.length != 0 && crc32c p.payload != p.crc then State.bumpSat (s.atLeast p.time) (P.mw (p.port / 64) P.MW_UP_PCRC_ERRORS) (p.port % 64) 1
      else k e (s.atLeast p.time) := by
  have hport : (s.atLeast p.time).portEnd p.port = some e := he
  have hhears : (s.atLeast p.time).hears p.port = true := hh
  unfold State.tileReceive
  dsimp only
  rw [hport]
  exact if_neg (by rw [hhears]; simp)

theorem tileReceive_header (hf : tileFaulty typ p = true ∨ typ = 4 ∧ s.dirMode (p.port / 2) = 1) :
    s.tileReceive typ p k = State.bumpSat (s.atLeast p.time) (P.mw (p.port / 64) P.MW_UP_HCRC_ERRORS) (p.port % 64) 1 := by
  rw [tileReceive_heard he hh]
  exact if_pos (by simpa using hf)

theorem tileReceive_payload (hf : tileFaulty typ p = false) (hm : typ ≠ 4 ∨ s.dirMode (p.port / 2) ≠ 1) (hlen : p.payload ≠ []) (hcrc : crc32c p.payload ≠ p.crc) :
    s.tileReceive typ p k = State.bumpSat (s.atLeast p.time) (P.mw (p.port / 64) P.MW_UP_PCRC_ERRORS) (p.port % 64) 1 := by
  rw [tileReceive_heard he hh]
  refine (if_neg ?_).trans (if_pos (by simpa [hlen] using hcrc))
  rw [hf]
  rcases hm with h | h <;> simp [h]

theorem tileReceive_taken (hp : p.sound typ) (hm : typ ≠ 4 ∨ s.dirMode (p.port / 2) ≠ 1) : s.tileReceive typ p k = k e (s.atLeast p.time) := by
  obtain ⟨-, -, hf, hcrc⟩ := hp
  rw [tileReceive_heard he hh]
  refine (if_neg ?_).trans (if_neg ?_)
  · rw [hf]
    rcases hm with h | h <;> simp [h]
  · rcases hcrc with h | h <;> simp [h]
end

/-! ### The commands that receive one -/

/-- What `i` does with a packet of type `typ` that it takes is `k`. -/
def Receives (typ : Nat) (p : TilePkt) (i : Instr) : Prop := ∃ k, ∀ s : State, exec i s = guarded i s (s.tileReceive typ p k)

/-- The commands that receive a packet of a loop, with the type that each takes. -/
theorem receives_of_mem {p : TilePkt} {i : Nat × Instr} (h : i ∈ [(5, Instr.tileId p), (8, .cfgReply p), (10, .tileStatus p), (4, .discoverReceived p)]) :
    Receives i.1 p i.2 := by
  simp only [List.mem_cons, List.not_mem_nil, or_false] at h
  rcases h with rfl | rfl | rfl | rfl <;> exact ⟨_, fun _ => rfl⟩

/-- A packet that has no effect but its arrival and a counter. -/
theorem Receives.next {typ : Nat} {p : TilePkt} {i : Instr} (h : Receives typ p i) (hi : i.wellFormed = true) {s t : State}
    (ht : ∀ k, s.tileReceive typ p k = t) (hp : t.pending = s.pending) : exec i s = .next t := by
  obtain ⟨k, hk⟩ := h
  exact exec_next (hk s) hi (ht k) hp

theorem rowType_own {n : Nat} {rows : List Nat} {h : List Byte} (hn : hdrType h = n) : rowType n rows h = true := by simp [rowType, hn]

theorem tileId_wellFormed {p : TilePkt} (h : p.sound 5) : (Instr.tileId p).wellFormed = true := Bool.and_eq_true_iff.2 ⟨h.1, rowType_own h.2.1⟩

theorem cfgReply_wellFormed {p : TilePkt} (h : p.sound 8) : (Instr.cfgReply p).wellFormed = true := Bool.and_eq_true_iff.2 ⟨h.1, rowType_own h.2.1⟩

theorem tileStatus_wellFormed {p : TilePkt} (h : p.sound 10) : (Instr.tileStatus p).wellFormed = true := Bool.and_eq_true_iff.2 ⟨h.1, rowType_own h.2.1⟩

theorem discoverReceived_wellFormed {p : TilePkt} (h : p.sound 4) : (Instr.discoverReceived p).wellFormed = true :=
  Bool.and_eq_true_iff.2 ⟨h.1, beq_iff_eq.2 h.2.1⟩

/-! ### TILE_STATUS -/

/-- A tile that has sent its status. -/
abbrev Tile.told (b : List Byte) (x : Tile) : Tile := { x with status := b, misses := 0, poll := none }

theorem tileStatus_kept {p : TilePkt} {e h : Nat} {s : State} (hp : p.sound 10) (he : s.portEnd p.port = some e) (hh : s.hears p.port = true)
    (hlen : p.payload.length = 16) (hm : s.dirMode (p.port / 2) ≠ 3) (hhop : s.hopOfDist (p.port / 2) e (byteAt p.hdr 1 % 64) = h) (h1 : 1 ≤ h) (h32 : h ≤ 32) :
    exec (.tileStatus p) s = .next ((s.atLeast p.time).modTile (p.port / 2) h (Tile.told p.payload)) := by
  subst hhop
  refine exec_next rfl (tileStatus_wellFormed hp) ((tileReceive_taken he hh hp (.inl (by decide))).trans ((if_neg ?_).trans ?_)) rfl
  · rintro (h | h | h)
    · exact h hlen
    · exact absurd h (Nat.not_lt.2 h1)
    · exact absurd h (Nat.not_lt.2 h32)
  · exact relayTile_local (s := (s.atLeast p.time).modTile (p.port / 2) _ (Tile.told p.payload)) hm _ _ _

/-! ### CFG_REPLY and its timeout -/

/-- A loop without the configuration command `k`. -/
abbrev Loop.answered (k : Nat × Nat × Nat) (x : Loop) : Loop := { x with cfg := x.cfg.filter (· != k) }

theorem cfgReply_unasked {l tag : Nat} {b : List Byte} {s : State} (h : ((s.loop l).cfg.find? fun x => x.1 == tag) = none) : s.cfgReply l tag b = s := by
  rw [State.cfgReply, h]

/-- The code, length and result that a CFG_REPLY gives a command. -/
def cfgResult (op : Nat) (b : List Byte) : Nat × Nat × Nat :=
  if byteAt b 8 = 0 then (if op = 0x0403 then (cOK, 4, fieldAt b 4 4) else (cOK, 0, 0)) else (0x41, 0, 0)

theorem cfgReply_asked {l tag : Nat} {b : List Byte} {k : Nat × Nat × Nat} {g : Flight} {s : State} (hk : ((s.loop l).cfg.find? fun x => x.1 == tag) = some k)
    (hlen : b.length = 12) (hr : byteAt b 8 ≤ 2) (hg : s.flight? k.2.2 = some g) :
    s.cfgReply l tag b = (s.modLoop l (Loop.answered k)).finalReply k.2.2 (cfgResult g.opcode b).1 (cfgResult g.opcode b).2.1 (cfgResult g.opcode b).2.2 := by
  have hg' : (s.modLoop l (Loop.answered k)).flight? k.2.2 = some g := hg
  rw [State.cfgReply, hk]
  dsimp only
  rw [if_neg (by omega), hg']
  dsimp only
  unfold cfgResult
  by_cases h0 : byteAt b 8 = 0
  · by_cases hop : g.opcode = 0x0403
    · simp [h0, hop]
    · simp [h0, hop]
  · rw [if_neg h0, if_neg h0]

theorem finalReply_dirMode {s : State} {tk : Nat} {g : Flight} (h : s.awaits tk g) (code len r l : Nat) : (s.finalReply tk code len r).dirMode l = s.dirMode l := by
  obtain ⟨hframe, -⟩ := finalReply_replied h code len r
  refine dirMode_congr ?_ l
  rw [hframe]

theorem cfgReply_completes {p : TilePkt} {e : Nat} {k : Nat × Nat × Nat} {g : Flight} {s : State} (hp : p.sound 8) (he : s.portEnd p.port = some e)
    (hh : s.hears p.port = true) (hlen : p.payload.length = 12) (hr : byteAt p.payload 8 ≤ 2) (hm : s.dirMode (p.port / 2) ≠ 3)
    (hk : ((s.loop (p.port / 2)).cfg.find? fun x => x.1 == hdrAux p.hdr) = some k) (hg : s.awaits k.2.2 g) : ∃ t, exec (.cfgReply p) s = .next t
    ∧ Answered g.opcode g.cmd (cfgResult g.opcode p.payload).1 (cfgResult g.opcode p.payload).2.1 (cfgResult g.opcode p.payload).2.2 t
    ∧ Replied g ((s.atLeast p.time).modLoop (p.port / 2) (Loop.answered k)) t := by
  have hg' : ((s.atLeast p.time).modLoop (p.port / 2) (Loop.answered k)).awaits k.2.2 g := hg
  have hcode : (cfgResult g.opcode p.payload).1 < 256 := by
    unfold cfgResult
    by_cases h0 : byteAt p.payload 8 = 0
    · by_cases hop : g.opcode = 0x0403
      · simp [h0, hop]
      · simp [h0, hop]
    · simp [h0]
  have hbody := (cfgReply_asked (l := p.port / 2) (s := s.atLeast p.time) hk hlen hr hg.1)
  have hrep := finalReply_replied hg' (cfgResult g.opcode p.payload).1 (cfgResult g.opcode p.payload).2.1 (cfgResult g.opcode p.payload).2.2
  have hans := finalReply_answered _ hg'.2 hg'.1 hcode (cfgResult g.opcode p.payload).2.1 (cfgResult g.opcode p.payload).2.2
  have hmode := (finalReply_dirMode hg' (cfgResult g.opcode p.payload).1 (cfgResult g.opcode p.payload).2.1 (cfgResult g.opcode p.payload).2.2 (p.port / 2)).trans
    (show ((s.atLeast p.time).modLoop (p.port / 2) (Loop.answered k)).dirMode (p.port / 2) = s.dirMode (p.port / 2) from rfl)
  generalize ((s.atLeast p.time).modLoop (p.port / 2) (Loop.answered k)).finalReply k.2.2 (cfgResult g.opcode p.payload).1 (cfgResult g.opcode p.payload).2.1
    (cfgResult g.opcode p.payload).2.2 = t at hbody hrep hans hmode
  refine ⟨t, exec_next rfl (cfgReply_wellFormed hp) ((tileReceive_taken he hh hp (.inl (by decide))).trans ?_) ?_, hans, hrep⟩
  · rw [hbody]
    exact relayTile_local (by rw [hmode]; exact hm) _ _ _
  · rw [hrep.1]
    rfl

theorem cfgReply_ignored {p : TilePkt} {e : Nat} {s : State} (hp : p.sound 8) (he : s.portEnd p.port = some e) (hh : s.hears p.port = true)
    (hm : s.dirMode (p.port / 2) ≠ 3) (hk : ((s.loop (p.port / 2)).cfg.find? fun x => x.1 == hdrAux p.hdr) = none) :
    exec (.cfgReply p) s = .next (s.atLeast p.time) := by
  refine exec_next rfl (cfgReply_wellFormed hp) ((tileReceive_taken he hh hp (.inl (by decide))).trans ?_) rfl
  rw [cfgReply_unasked (s := s.atLeast p.time) hk]
  exact relayTile_local (s := s.atLeast p.time) hm _ _ _

theorem tileCfgTimeout_exec (l tag : Nat) (s : State) : exec (.tileCfgTimeout l tag) s = guarded (.tileCfgTimeout l tag) s
    (match (s.loop l).cfg.find? fun e => e.1 == tag with
      | none => s
      | some e => (s.modLoop l (Loop.answered e)).finalReply e.2.2 cTIMEOUT 0 0) := rfl

theorem tileCfgTimeout_completes {l tag : Nat} {k : Nat × Nat × Nat} {g : Flight} {s : State} (hl : l < 512) (ht : tag < 256)
    (hk : ((s.loop l).cfg.find? fun x => x.1 == tag) = some k) (hg : s.awaits k.2.2 g) : ∃ t, exec (.tileCfgTimeout l tag) s = .next t
    ∧ Answered g.opcode g.cmd 9 0 0 t ∧ Replied g (s.modLoop l (Loop.answered k)) t := by
  have hg' : (s.modLoop l (Loop.answered k)).awaits k.2.2 g := hg
  have hrep := finalReply_replied hg' cTIMEOUT 0 0
  refine ⟨_, exec_next (tileCfgTimeout_exec l tag s) (by simp [Instr.wellFormed, hl, ht]) (by rw [hk]) ?_, finalReply_answered _ hg'.2 hg'.1 (by decide) 0 0, hrep⟩
  rw [hrep.1]
  rfl

theorem tileCfgTimeout_idle {l tag : Nat} {s : State} (hl : l < 512) (ht : tag < 256) (hk : ((s.loop l).cfg.find? fun x => x.1 == tag) = none) :
    exec (.tileCfgTimeout l tag) s = .next s :=
  exec_next (tileCfgTimeout_exec l tag s) (by simp [Instr.wellFormed, hl, ht]) (by rw [hk]) rfl

/-! ### TILE_POLL and its timeout -/

/-- A tile that has been sent a POLL with this tag. -/
abbrev Tile.polled (tag : Nat) (x : Tile) : Tile := { x with poll := some tag }

/-- A loop whose newest configuration tag is this one. -/
abbrev Loop.tagged (tag : Nat) (x : Loop) : Loop := { x with cfgTag := tag }

theorem tilePoll_exec (l h : Nat) (s : State) : exec (.tilePoll l h) s = guarded (.tilePoll l h) s
    (match s.ctrlEnd l h with
      | none => s
      | some e => if s.powerState = 2 ∨ s.tileState l h = 4 then s
          else ((s.modLoop l (Loop.tagged (((s.loop l).cfgTag + 1) % 256))).modTile l h (Tile.polled (((s.loop l).cfgTag + 1) % 256))).sendTile l e 0x9 0 (s.distOf l e h)
            (((s.loop l).cfgTag + 1) % 256) 0 []) := rfl

theorem tilePoll_sends {l h e : Nat} {s : State} (hl : l < 512) (h1 : 1 ≤ h) (h32 : h ≤ 32) (he : s.ctrlEnd l h = some e) (hpw : s.powerState ≠ 2)
    (hq : s.tileState l h ≠ 4) : ∃ t, exec (.tilePoll l h) s = .next t
    ∧ (t.loop l).cfgTag = ((s.loop l).cfgTag + 1) % 256 ∧ t.tile l h = { s.tile l h with poll := some (t.loop l).cfgTag }
    ∧ t.sent = s.held (s.lane (s.endPort l e)).winEnd (.tilePkt (s.endPort l e) (tileHdr 9 0 (s.distOf l e h) 0 (t.loop l).cfgTag 0) (withCrc [])) :: s.sent
    ∧ (∀ k, k ≠ l → t.loop k = s.loop k) ∧ (∀ k j, 1 ≤ j → k * 32 + j ≠ l * 32 + h → t.tile k j = s.tile k j)
    ∧ t.loop l = { s.loop l with cfgTag := (t.loop l).cfgTag }
    ∧ t = { s with sent := t.sent, mw := { s.mw with loops := t.mw.loops, tiles := t.mw.tiles } } := by
  have hloop := loop_modLoop_same l (Loop.tagged (((s.loop l).cfgTag + 1) % 256)) s
  have hexec : exec (.tilePoll l h) s = .next (((s.modLoop l (Loop.tagged (((s.loop l).cfgTag + 1) % 256))).modTile l h
      (Tile.polled (((s.loop l).cfgTag + 1) % 256))).sendTile l e 0x9 0 (s.distOf l e h) (((s.loop l).cfgTag + 1) % 256) 0 []) := by
    refine exec_next (tilePoll_exec l h s) (by simp [Instr.wellFormed, hl, h1, h32]) ?_ rfl
    rw [he]
    exact if_neg (by simp [hpw, hq])
  refine ⟨_, hexec,
    congrArg Loop.cfgTag hloop, ?_, ?_, fun k hk => loop_modLoop_other hk _ s, fun k j hj hne => tile_modTile_other h1 hj hne _ _, ?_, rfl⟩
  · exact (tile_modTile_same l h _ _).trans (congrArg (fun x => { s.tile l h with poll := some x }) (congrArg Loop.cfgTag hloop).symm)
  · exact (congrArg (fun x => s.held (s.lane (s.endPort l e)).winEnd (.tilePkt (s.endPort l e) (tileHdr 9 0 (s.distOf l e h) 0 x 0) (withCrc [])) :: s.sent)
      (congrArg Loop.cfgTag hloop)).symm
  · exact hloop.trans (congrArg (fun x => { s.loop l with cfgTag := x }) (congrArg Loop.cfgTag hloop).symm)

theorem tilePoll_idle {l h : Nat} {s : State} (hl : l < 512) (h1 : 1 ≤ h) (h32 : h ≤ 32) (hno : s.ctrlEnd l h = none ∨ s.powerState = 2 ∨ s.tileState l h = 4) :
    exec (.tilePoll l h) s = .next s := by
  refine exec_next (tilePoll_exec l h s) (by simp [Instr.wellFormed, hl, h1, h32]) ?_ rfl
  rcases he : s.ctrlEnd l h with _ | e
  · rfl
  · exact if_pos (hno.resolve_left (by simp [he]))

/-- A tile that has missed a POLL more. -/
abbrev Tile.missed (x : Tile) : Tile := { x with poll := none, misses := x.misses + 1 }

theorem tilePollTimeout_exec (l h : Nat) (s : State) : exec (.tilePollTimeout l h) s = guarded (.tilePollTimeout l h) s
    (if (s.tile l h).poll.isNone ∨ s.tileState l h = 0 then s
      else if (s.tile l h).misses + 1 = 3 then (s.modTile l h Tile.missed).postAlarm l h 3 else s.modTile l h Tile.missed) := rfl

theorem tilePollTimeout_misses {l h : Nat} {s : State} (hl : l < 512) (h1 : 1 ≤ h) (h32 : h ≤ 32) (hp : (s.tile l h).poll ≠ none) (hst : s.tileState l h ≠ 0) :
    ∃ t, exec (.tilePollTimeout l h) s = .next t
    ∧ t.tile l h = { s.tile l h with poll := none, misses := (s.tile l h).misses + 1 } ∧ (∀ k j, 1 ≤ j → k * 32 + j ≠ l * 32 + h → t.tile k j = s.tile k j)
    ∧ EventsOnly { s with mw := { s.mw with tiles := t.mw.tiles } } t ∧ ((s.tile l h).misses ≠ 2 → t.ctl = s.ctl) := by
  have hwf : (Instr.tilePollTimeout l h).wellFormed = true := by simp [Instr.wellFormed, hl, h1, h32]
  have hgo : ¬ ((s.tile l h).poll.isNone ∨ s.tileState l h = 0) := by simp [hp, hst]
  have hsame := tile_modTile_same l h Tile.missed s
  have hother : ∀ k j, 1 ≤ j → k * 32 + j ≠ l * 32 + h → (s.modTile l h Tile.missed).tile k j = s.tile k j := fun k j hj hne => tile_modTile_other h1 hj hne _ s
  have hframe : s.modTile l h Tile.missed = { s with mw := { s.mw with tiles := (s.modTile l h Tile.missed).mw.tiles } } := rfl
  by_cases h3 : (s.tile l h).misses + 1 = 3
  · have hx := eventsOnly_post (s.modTile l h Tile.missed) 0x5A 0x6 ((s.modTile l h Tile.missed).tilePort l h)
      (h + at' 8 3 + at' 16 (byteAt ((s.modTile l h Tile.missed).tile l h).status 2))
    have hexec : exec (.tilePollTimeout l h) s = .next ((s.modTile l h Tile.missed).postAlarm l h 3) :=
      exec_next (tilePollTimeout_exec l h s) hwf ((if_neg hgo).trans (if_pos h3)) (hx.pending.trans rfl)
    unfold State.postAlarm at hexec
    generalize (s.modTile l h Tile.missed).post 0x5A 0x6 ((s.modTile l h Tile.missed).tilePort l h)
      (h + at' 8 3 + at' 16 (byteAt ((s.modTile l h Tile.missed).tile l h).status 2)) = t at hx hexec
    have hrep := hx.loopReported l
    refine ⟨t, hexec, (hrep.tile l h).trans hsame, fun k j hj hne => (hrep.tile k j).trans (hother k j hj hne), ?_, fun h2 => absurd h3 (by omega)⟩
    rw [hrep.2.2]
    exact hx
  · exact ⟨_, exec_next (tilePollTimeout_exec l h s) hwf ((if_neg hgo).trans (if_neg h3)) rfl, hsame, hother, EventsOnly.refl _, fun _ => rfl⟩

theorem tilePollTimeout_idle {l h : Nat} {s : State} (hl : l < 512) (h1 : 1 ≤ h) (h32 : h ≤ 32) (hp : (s.tile l h).poll = none) :
    exec (.tilePollTimeout l h) s = .next s :=
  exec_next (tilePollTimeout_exec l h s) (by simp [Instr.wellFormed, hl, h1, h32]) (if_pos (.inl (by rw [hp]; rfl))) rfl

end Sys2Proof.Machine
end

section
/-! Midway: the discovery of a loop's tiles (O28; 07_midway.md). -/

namespace Sys2Proof.Machine

/-! ### The ends of a loop -/

theorem side_withSide (e : Nat) (f : LoopEnd → LoopEnd) (x : Loop) : (x.withSide e f).side e = f (x.side e) := by
  by_cases h : e = 0 <;> simp [Loop.withSide, Loop.side, h]

theorem side_modEnd (l e : Nat) (f : LoopEnd → LoopEnd) (s : State) : ((s.modEnd l e f).loop l).side e = f ((s.loop l).side e) := by
  rw [State.modEnd, loop_modLoop_same, side_withSide]

/-- An end that asks for its tiles with DISCOVER_ID `id`. -/
abbrev LoopEnd.asking (id : Nat) (y : LoopEnd) : LoopEnd := { y with discId := id, running := true, answers := [] }

theorem closeDiscovery_idle {l e : Nat} {s : State} (h : ((s.loop l).side e).running = false) : s.closeDiscovery l e = s := if_pos (by rw [h]; rfl)

theorem sendDiscoverFrom_idle {l e id : Nat} {s : State} (h : ((s.loop l).side e).running = false) (hid : (((s.loop l).side e).discId + 1) % 65536 = id) :
    s.sendDiscoverFrom l e = (s.modEnd l e (LoopEnd.asking id)).emitAfter (s.lane (s.endPort l e)).winEnd
      (.tilePkt (s.endPort l e) (tileHdr 4 0 63 4 0 0) (withCrc (leBytes (id + at' 16 e) 4))) := by
  unfold State.sendDiscoverFrom
  rw [closeDiscovery_idle h]
  dsimp only
  rw [hid, State.sendTile, leBytes_length]
  rfl

theorem discoverInterval_exec (l e : Nat) (s : State) : exec (.discoverInterval l e) s = guarded (.discoverInterval l e) s
    (if s.powerState = 2 then s
      else if ((s.closeDiscovery l e).sendPLoop l).feedingEnd l e then ((s.closeDiscovery l e).sendPLoop l).sendDiscoverFrom l e else (s.closeDiscovery l e).sendPLoop l) := rfl

theorem discoverInterval_wellFormed {l e : Nat} (hl : l < 512) (he : e < 2) : (Instr.discoverInterval l e).wellFormed = true := by simp [Instr.wellFormed, hl, he]

theorem discoverInterval_asks {l e : Nat} {s : State} (hl : l < 512) (he : e < 2) (hm : s.dirMode l ≠ 3) (hpw : s.powerState ≠ 2) (hfeed : s.feedingEnd l e = true)
    (hrun : ((s.loop l).side e).running = false) :
    ∃ t, exec (.discoverInterval l e) s = .next t ∧ (t.loop l).side e = { (s.loop l).side e with
        discId := (((s.loop l).side e).discId + 1) % 65536, running := true, answers := [] }
      ∧ t.sent = s.held (s.lane (s.endPort l e)).winEnd (.tilePkt (s.endPort l e) (tileHdr 4 0 63 4 0 0) (withCrc (leBytes (((t.loop l).side e).discId + at' 16 e) 4))) :: s.sent
      ∧ (∀ k, k ≠ l → t.loop k = s.loop k) ∧ t.loop l = (s.loop l).withSide e (fun _ => (t.loop l).side e)
      ∧ t = { s with sent := t.sent, mw := { s.mw with loops := t.mw.loops } } := by
  obtain ⟨id, hid⟩ : ∃ id, (((s.loop l).side e).discId + 1) % 65536 = id := ⟨_, rfl⟩
  rw [hid]
  have hexec : exec (.discoverInterval l e) s = .next ((s.modEnd l e (LoopEnd.asking id)).emitAfter (s.lane (s.endPort l e)).winEnd
      (.tilePkt (s.endPort l e) (tileHdr 4 0 63 4 0 0) (withCrc (leBytes (id + at' 16 e) 4)))) := by
    refine exec_next (discoverInterval_exec l e s) (discoverInterval_wellFormed hl he) ((if_neg hpw).trans ?_) rfl
    rw [closeDiscovery_idle hrun, sendPLoop_local hm, if_pos hfeed, sendDiscoverFrom_idle hrun hid]
  have hside : (((s.modEnd l e (LoopEnd.asking id)).emitAfter (s.lane (s.endPort l e)).winEnd
      (.tilePkt (s.endPort l e) (tileHdr 4 0 63 4 0 0) (withCrc (leBytes (id + at' 16 e) 4)))).loop l).side e = LoopEnd.asking id ((s.loop l).side e) := side_modEnd l e (LoopEnd.asking id) s
  have hloop := loop_modLoop_same l (Loop.withSide e (LoopEnd.asking id)) s
  refine ⟨_, hexec, hside, ?_, fun k hk => loop_modLoop_other hk _ s, ?_, rfl⟩
  · rw [hside]
    rfl
  · rw [hside]
    refine hloop.trans ?_
    unfold Loop.withSide Loop.side
    by_cases h0 : e = 0 <;> simp [h0]

theorem discoverInterval_idle {l e : Nat} {s : State} (hl : l < 512) (he : e < 2) (hm : s.dirMode l ≠ 3)
    (hno : s.powerState = 2 ∨ s.feedingEnd l e = false ∧ ((s.loop l).side e).running = false) : exec (.discoverInterval l e) s = .next s := by
  refine exec_next (discoverInterval_exec l e s) (discoverInterval_wellFormed hl he) ?_ rfl
  by_cases hpw : s.powerState = 2
  · exact if_pos hpw
  · obtain ⟨hfeed, hrun⟩ := hno.resolve_left hpw
    rw [if_neg hpw, closeDiscovery_idle hrun, sendPLoop_local hm, if_neg (by rw [hfeed]; exact Bool.false_ne_true)]

/-! ### The reachability of a tile (R224, R225) -/

/-- A tile that end `e` reaches or not. -/
abbrev Tile.reaching (e : Nat) (v : Bool) (x : Tile) : Tile := if e = 0 then { x with fromA := v } else { x with fromB := v }

/-- A tile that has departed. -/
abbrev Tile.gone (x : Tile) : Tile := { x with info := none, mismatch := 0, misses := 0, poll := none, frame := none, status := [] }

theorem setReachable_eq (l hop e : Nat) (v : Bool) (s : State) : s.setReachable l hop e v
    = (if ((s.tile l hop).fromA || (s.tile l hop).fromB) && !((((s.modTile l hop (Tile.reaching e v)).tile l hop).fromA) || (((s.modTile l hop (Tile.reaching e v)).tile l hop).fromB))
      then ((s.modTile l hop (Tile.reaching e v)).partnerDeparts (tileId l hop)).modTile l hop Tile.gone
      else if !((s.tile l hop).fromA || (s.tile l hop).fromB) && ((((s.modTile l hop (Tile.reaching e v)).tile l hop).fromA) || (((s.modTile l hop (Tile.reaching e v)).tile l hop).fromB))
      then (s.modTile l hop (Tile.reaching e v)).partnerArrives (tileId l hop) (srcOf 0x6 ((s.modTile l hop (Tile.reaching e v)).tilePort l hop))
        (tilePayload l hop (((((s.modTile l hop (Tile.reaching e v)).tile l hop)).info.map (·.serial)).getD 0))
      else s.modTile l hop (Tile.reaching e v)) := rfl

theorem reaching_true (e : Nat) (x : Tile) : ((Tile.reaching e true x).fromA || (Tile.reaching e true x).fromB) = true := by
  unfold Tile.reaching
  by_cases h : e = 0 <;> simp [h]

theorem setReachable_arrives {l hop : Nat} {s : State} (ha : (s.tile l hop).fromA = false) (hb : (s.tile l hop).fromB = false) (e : Nat) :
    ∃ src v, s.setReachable l hop e true = (s.modTile l hop (Tile.reaching e true)).partnerArrives (tileId l hop) src v := by
  have h := setReachable_eq l hop e true s
  rw [tile_modTile_same, reaching_true, ha, hb] at h
  exact ⟨_, _, h⟩

/-- An end that did not reach a tile still does not. -/
theorem setReachable_absent {l hop : Nat} {s : State} (ha : (s.tile l hop).fromA = false) : s.setReachable l hop 0 false = s.modTile l hop (Tile.reaching 0 false) := by
  refine (setReachable_eq l hop 0 false s).trans ?_
  rw [tile_modTile_same, ha]
  have hr : Tile.reaching 0 false (s.tile l hop) = s.tile l hop := by
    unfold Tile.reaching
    rw [if_pos rfl]
    exact congrArg (fun v => { s.tile l hop with fromA := v }) ha.symm
  rw [hr, ha]
  cases (s.tile l hop).fromB <;> rfl

/-! ### TILE_ID -/

/-- A tile that has said what it is. -/
abbrev Tile.known (i : TileInfo) (x : Tile) : Tile := { x with info := some i, mismatch := 0 }

/-- An end that has been answered from a hop. -/
abbrev LoopEnd.heardFrom (hop : Nat) (y : LoopEnd) : LoopEnd := { y with answers := y.answers ++ [hop] }

section
variable {l e c h : Nat} {i : TileInfo} {s : State} (h1 : 1 ≤ c) (hc : c ≤ s.dirCount l) (hh : h = s.hopAt l e c) (ha : (s.tile l h).fromA = false)
  (hb : (s.tile l h).fromB = false)
include h1 hc hh ha hb

/-- A tile that no end reached answers from a position of the loop, and matches its directory entry. -/
theorem tileFound_new (hcheck : s.tileCheck l h i = none) (hphase : ∀ v, s.loopCanvas l = some v → s.cvp v P.CV_PHASES 0 ≤ i.maxPhases + 1) :
    ∃ src v, s.tileFound l e c i = (((s.modTile l h (Tile.known i)).modTile l h (Tile.reaching e true)).partnerArrives (tileId l h) src v).modEnd l e (LoopEnd.heardFrom h) := by
  subst hh
  have ha' : ((s.modTile l (s.hopAt l e c) (Tile.known i)).tile l (s.hopAt l e c)).fromA = false := (congrArg Tile.fromA (tile_modTile_same _ _ _ s)).trans ha
  have hb' : ((s.modTile l (s.hopAt l e c) (Tile.known i)).tile l (s.hopAt l e c)).fromB = false := (congrArg Tile.fromB (tile_modTile_same _ _ _ s)).trans hb
  obtain ⟨src, v, hr⟩ := setReachable_arrives ha' hb' e
  have hmine : (if e = 0 then (s.tile l (s.hopAt l e c)).fromB else (s.tile l (s.hopAt l e c)).fromA) = false := by simp [ha, hb]
  refine ⟨src, v, ?_⟩
  unfold State.tileFound
  dsimp only
  rw [if_neg (by omega), if_neg (by omega), if_neg (by rw [hmine]; simp), ha, hb]
  simp only [Bool.or_false, Bool.not_false, Bool.true_or, Bool.and_false, Bool.false_and, Bool.false_eq_true, if_false]
  rw [hcheck]
  dsimp only
  rw [hr]
  have hcv : (((s.modTile l (s.hopAt l e c) (Tile.known i)).modTile l (s.hopAt l e c) (Tile.reaching e true)).partnerArrives (tileId l (s.hopAt l e c)) src v).loopCanvas l
      = s.loopCanvas l := loopCanvas_congr rfl l
  have hcvp : ∀ w, (((s.modTile l (s.hopAt l e c) (Tile.known i)).modTile l (s.hopAt l e c) (Tile.reaching e true)).partnerArrives (tileId l (s.hopAt l e c)) src v).cvp w P.CV_PHASES 0
      = s.cvp w P.CV_PHASES 0 := fun _ => rfl
  rw [hcv]
  refine congrArg (State.modEnd l e (LoopEnd.heardFrom (s.hopAt l e c))) (if_neg ?_)
  rcases hv : s.loopCanvas l with _ | w
  · simp
  · have := hphase w hv
    simpa [hcvp w] using this
end

theorem tileIdHeard_ignored {l : Nat} {b : List Byte} {s : State} (h : 1 < byteAt b 25 ∨ ((s.loop l).side (byteAt b 25)).running = false
    ∨ fieldAt b 26 2 ≠ ((s.loop l).side (byteAt b 25)).discId) : s.tileIdHeard l b = s := by
  refine if_pos ?_
  rcases h with h | h | h
  exacts [.inl h, .inr (.inl (by rw [h]; rfl)), .inr (.inr h)]

theorem tileIdHeard_answers {l e : Nat} {b : List Byte} {s u : State} (he : e < 2) (hb : byteAt b 25 = e) (hrun : ((s.loop l).side e).running = true)
    (hid : fieldAt b 26 2 = ((s.loop l).side e).discId) (hu : s.tileFound l e (byteAt b 24) (tileInfoOf b) = u)
    (hleft : ((u.loop l).side e).answers.length ≠ u.dirCount l) : s.tileIdHeard l b = u := by
  subst hb hu
  refine (if_neg ?_).trans (if_neg hleft)
  rintro (h | h | h)
  · omega
  · rw [hrun] at h; exact Bool.false_ne_true h
  · exact h hid

theorem tileId_exec {p : TilePkt} {e : Nat} {s : State} (hp : p.sound 5) (he : s.portEnd p.port = some e) (hh : s.hears p.port = true)
    (hm : s.dirMode (p.port / 2) ≠ 3) : exec (.tileId p) s
      = guarded (.tileId p) s (if p.payload.length ≠ 32 then s.atLeast p.time else (s.atLeast p.time).tileIdHeard (p.port / 2) p.payload) := by
  have hr : s.tileReceive 5 p (fun _ s => if p.payload.length ≠ 32 then s
      else (s.relayTile (p.port / 2) (s.hopAt (p.port / 2) (byteAt p.payload 25) (byteAt p.payload 24)) 0 p.payload).tileIdHeard (p.port / 2) p.payload)
      = if p.payload.length ≠ 32 then s.atLeast p.time else (s.atLeast p.time).tileIdHeard (p.port / 2) p.payload := by
    rw [tileReceive_taken he hh hp (.inl (by decide)), relayTile_local (s := s.atLeast p.time) hm]
  exact congrArg (guarded (.tileId p) s) hr

theorem tileId_ignored {p : TilePkt} {e f : Nat} {s : State} (hp : p.sound 5) (he : s.portEnd p.port = some f) (hh : s.hears p.port = true)
    (hm : s.dirMode (p.port / 2) ≠ 3) (heq : e = byteAt p.payload 25)
    (hno : 1 < e ∨ ((s.loop (p.port / 2)).side e).running = false ∨ fieldAt p.payload 26 2 ≠ ((s.loop (p.port / 2)).side e).discId) :
    exec (.tileId p) s = .next (s.atLeast p.time) := by
  subst heq
  refine exec_next (tileId_exec hp he hh hm) (tileId_wellFormed hp) ?_ rfl
  rw [tileIdHeard_ignored (s := s.atLeast p.time) hno, ite_self]

theorem tileId_found {p : TilePkt} {e f c h : Nat} {s : State} (he : e < 2) (hp : p.sound 5) (hport : s.portEnd p.port = some f) (hh : s.hears p.port = true)
    (hm : s.dirMode (p.port / 2) ≠ 3) (hlen : p.payload.length = 32) (hrun : ((s.loop (p.port / 2)).side e).running = true) (hend : byteAt p.payload 25 = e)
    (hid : fieldAt p.payload 26 2 = ((s.loop (p.port / 2)).side e).discId) (hpos : byteAt p.payload 24 = c) (h1 : 1 ≤ c) (hc : c ≤ s.dirCount (p.port / 2))
    (hhop : h = s.hopAt (p.port / 2) e c) (ha : (s.tile (p.port / 2) h).fromA = false) (hb : (s.tile (p.port / 2) h).fromB = false)
    (hcheck : s.tileCheck (p.port / 2) h (tileInfoOf p.payload) = none)
    (hphase : ∀ v, s.loopCanvas (p.port / 2) = some v → s.cvp v P.CV_PHASES 0 ≤ (tileInfoOf p.payload).maxPhases + 1)
    (hleft : ((s.loop (p.port / 2)).side e).answers.length + 1 ≠ s.dirCount (p.port / 2)) :
    ∃ t, exec (.tileId p) s = .next t
      ∧ t.tile (p.port / 2) h = { s.tile (p.port / 2) h with info := some (tileInfoOf p.payload), mismatch := 0, fromA := decide (e = 0), fromB := decide (e ≠ 0) }
      ∧ (∀ l k, 1 ≤ k → l * 32 + k ≠ p.port / 2 * 32 + h → t.tile l k = s.tile l k)
      ∧ (t.loop (p.port / 2)).side e = { (s.loop (p.port / 2)).side e with answers := ((s.loop (p.port / 2)).side e).answers ++ [h] }
      ∧ (∀ k, k ≠ p.port / 2 → t.loop k = s.loop k) ∧ (t.partner (tileId (p.port / 2) h)).present = true
      ∧ (t.partner (tileId (p.port / 2) h)).reported = false
      ∧ (∀ q, partnerKey q ≠ partnerKey (tileId (p.port / 2) h) → t.partner q = s.partner q)
      ∧ t = { s with now := max s.now p.time, mw := { s.mw with loops := t.mw.loops, tiles := t.mw.tiles }, ctl := { s.ctl with partners := t.ctl.partners } } := by
  have hh1 : 1 ≤ h := by
    rw [hhop, State.hopAt]
    split <;> omega
  obtain ⟨src, v, hfound⟩ := tileFound_new (s := s.atLeast p.time) h1 hc hhop ha hb hcheck hphase
  have hside := side_modEnd (p.port / 2) e (LoopEnd.heardFrom h)
    ((((s.atLeast p.time).modTile (p.port / 2) h (Tile.known (tileInfoOf p.payload))).modTile (p.port / 2) h (Tile.reaching e true)).partnerArrives (tileId (p.port / 2) h) src v)
  have hheard := tileIdHeard_answers (s := s.atLeast p.time) he hend hrun hid ((congrArg (fun c => (s.atLeast p.time).tileFound (p.port / 2) e c _) hpos).trans hfound) (by
    rw [hside, List.length_append]
    exact hleft)
  refine ⟨_, exec_next (tileId_exec hp hport hh hm) (tileId_wellFormed hp) ((if_neg (not_not_intro hlen)).trans hheard) rfl, ?_, fun l k hk hne => ?_, hside,
    fun k hk => loop_modLoop_other hk _ _, ?_, ?_, fun q hq => partner_partnerArrives_other hq _ _ _, rfl⟩
  · refine (tile_modTile_same _ h (Tile.reaching e true) _).trans ?_
    rw [tile_modTile_same]
    have hx : (s.atLeast p.time).tile (p.port / 2) h = s.tile (p.port / 2) h := rfl
    rw [hx]
    generalize s.tile (p.port / 2) h = x at ha hb
    obtain ⟨_, _, _⟩ := x
    dsimp only at ha hb
    subst ha hb
    by_cases h0 : e = 0 <;> simp [Tile.reaching, h0]
  · exact (tile_modTile_other hh1 hk hne (Tile.reaching e true) _).trans (tile_modTile_other hh1 hk hne (Tile.known _) _)
  · exact congrArg Partner.present (partner_partnerArrives_same (tileId (p.port / 2) h) src v _)
  · exact congrArg Partner.reported (partner_partnerArrives_same (tileId (p.port / 2) h) src v _)

end Sys2Proof.Machine
end

section
/-! Midway: the end of a discovery, and the DISCOVER that proves a loop intact (O28; 07_midway.md). -/

namespace Sys2Proof.Machine

/-! ### The feed follows the tiles found -/

/-- A loop whose A end alone feeds `n` tiles. -/
abbrev Loop.fed (n : Nat) (v : Bool) (y : Loop) : Loop := { y with a := { y.a with reach := n }, b := { y.b with reach := 0 }, intact := y.intact && v }

theorem abandonFrames_keep {l : Nat} {p : Nat → Bool} (h : ∀ k, p k = false) (s : State) : s.abandonFrames l p = s := by
  rw [abandonFrames_eq]
  refine foldl_fixed_of_mem fun i _ => ?_
  unfold State.abandonStep
  split
  · rfl
  · exact if_neg (by rw [h]; exact Bool.false_ne_true)

/-- The A end of an open loop that finds all its tiles feeds them. -/
theorem adjustFeed_all {l n : Nat} {s : State} (hm : s.dirMode l = 1) (hn : s.dirCount l = n) (hd : (s.loop l).a.done = true) (hf : (s.loop l).a.found = n)
    (hr : (s.loop l).a.reach ≤ n) (hb : (s.loop l).b.reach = 0) (hst : (s.loop l).b.starting = false) (hforced : (s.loop l).forced ≠ 2) (reason : Nat) :
    ∃ v, s.adjustFeed l reason = (s.modLoop l (Loop.fed n v)).evalLoop l reason := by
  refine ⟨decide ((s.loop l).a.found = n ∨ (s.loop l).b.found = n), ?_⟩
  have hfeed : (if !(s.loop l).a.done then 0 else if (s.loop l).b.reach = 0 ∧ !(s.loop l).b.starting ∧ (s.loop l).forced ≠ 2 then min (s.loop l).a.found (s.dirCount l)
      else min (s.loop l).a.reach (s.loop l).a.found) = n := by
    rw [hd, if_neg (by simp), if_pos ⟨hb, by rw [hst]; rfl, hforced⟩, hf, hn, Nat.min_self]
  have hother : (if !(s.loop l).b.done then 0 else min (s.loop l).b.reach (s.loop l).b.found) = 0 := by rw [hb, Nat.zero_min, ite_self]
  unfold State.adjustFeed
  dsimp only
  rw [hfeed, hother, hm, abandonFrames_keep (fun k => decide_eq_false (by omega)), if_neg (by simp), hn]

/-! ### The end of a discovery -/

/-- An end whose discovery has found `n` tiles. -/
abbrev LoopEnd.closed (n : Nat) (y : LoopEnd) : LoopEnd := { y with running := false, done := true, found := n, answers := [] }

/-- Only loop `l`'s tiles differ. -/
def TilesOnly (l : Nat) (s t : State) : Prop := LoopOnly l s t ∧ t.mw.loops = s.mw.loops

/-- The tiles that did not answer end A, none of which it reached, are told so. -/
theorem forget_absent {l : Nat} (answers : List Nat) : ∀ (is : List Nat) (s : State),
    (∀ i ∈ is, i < 32 ∧ (answers.contains (i + 1) = false → (s.tile l (i + 1)).fromA = false)) →
    TilesOnly l s (is.foldl (fun t i => if answers.contains (i + 1) then t else t.setReachable l (i + 1) 0 false) s)
  | [], s, _ => ⟨LoopOnly.refl l s, rfl⟩
  | i :: is, s, h => by
    obtain ⟨hi, hfree⟩ := h i List.mem_cons_self
    by_cases hc : answers.contains (i + 1) = true
    · rw [List.foldl_cons, if_pos hc]
      exact forget_absent answers is s fun j hj => h j (List.mem_cons_of_mem _ hj)
    · rw [List.foldl_cons, if_neg hc, setReachable_absent (hfree (eq_false_of_ne_true hc))]
      obtain ⟨hl, hloops⟩ := forget_absent answers is (s.modTile l (i + 1) (Tile.reaching 0 false)) fun j hj => by
        obtain ⟨hj32, hj'⟩ := h j (List.mem_cons_of_mem _ hj)
        refine ⟨hj32, fun hcj => ?_⟩
        rw [tile_modTile]
        split
        · rfl
        · exact hj' hcj
      exact ⟨(loopOnly_modTile (by omega) (by omega) _ s).trans hl, hloops⟩

theorem length_takeWhile_range {n m : Nat} {p : Nat → Bool} (hnm : n ≤ m) (hp : ∀ c, p c = true ↔ c < n) : ((List.range m).takeWhile p).length = n := by
  obtain ⟨k, rfl⟩ := Nat.exists_eq_add_of_le hnm
  rw [List.range_add, List.takeWhile_append_of_pos fun c hc => (hp c).2 (List.mem_range.1 hc), List.length_append, List.length_range]
  cases k with
  | zero => rfl
  | succ k =>
    rw [List.range_succ_eq_map, List.map_cons, List.takeWhile_cons_of_neg (by rw [hp]; omega)]
    rfl

/-- A loop none of whose LOOP_DISCOVERs waits. -/
abbrev Loop.unwaited (y : Loop) : Loop := { y with discWait := [] }

/-- The tiles that did not answer end `e` are told so. -/
def State.forget (l e : Nat) (answers : List Nat) (s : State) : State :=
  (List.range 32).foldl (fun t i => if answers.contains (i + 1) then t else t.setReachable l (i + 1) e false) s

/-- The end's discovery is over; LOOP_DISCOVER is not told yet. -/
def State.discovered (l e : Nat) (s : State) : State :=
  ((s.forget l e ((s.loop l).side e).answers).modEnd l e
    (LoopEnd.closed ((List.range 32).takeWhile fun c => ((s.loop l).side e).answers.contains (s.hopAt l e (c + 1))).length)).adjustFeed l 0

/-- LOOP_DISCOVER is told what has been found, once no discovery of the loop runs. -/
def State.tellFound (l : Nat) (s : State) : State :=
  if (List.range 2).any fun k => s.ownsEnd l k && ((s.loop l).side k).running then s
  else (s.loop l).discWait.foldl (fun t tk => t.finalReply tk cOK 2 ((s.loop l).a.found + at' 8 (if (s.loop l).intact then (s.loop l).a.found else (s.loop l).b.found)))
    (s.modLoop l Loop.unwaited)

theorem closeDiscovery_running {l e : Nat} {s : State} (h : ((s.loop l).side e).running = true) : s.closeDiscovery l e = (s.discovered l e).tellFound l :=
  if_neg (by rw [h]; simp)

theorem tellFound_done {l : Nat} {s : State} (hm : s.dirMode l = 1) (hrun : (s.loop l).a.running = false) (hwait : (s.loop l).discWait = []) :
    s.tellFound l = s.modLoop l Loop.unwaited := by
  refine (if_neg ?_).trans ?_
  · simp [List.range_succ_eq_map, State.ownsEnd, hm, Loop.side, hrun]
  · rw [hwait]
    rfl

/-- The discovery of the A end of an open loop, answered by all `n` tiles, ends. -/
theorem closeDiscovery_all {l n : Nat} {s : State} (hm : s.dirMode l = 1) (hn : s.dirCount l = n) (h1 : 1 ≤ n) (h32 : n ≤ 32) (hrun : (s.loop l).a.running = true)
    (hans : ∀ h, h ∈ (s.loop l).a.answers ↔ 1 ≤ h ∧ h ≤ n) (hrest : ∀ h, n < h → h ≤ 32 → (s.tile l h).fromA = false) (hr : (s.loop l).a.reach ≤ n)
    (hb : (s.loop l).b.reach = 0) (hst : (s.loop l).b.starting = false) (hforced : (s.loop l).forced ≠ 2) (hwait : (s.loop l).discWait = []) :
    ∃ v, LoopOnly l s (s.closeDiscovery l 0) ∧ (s.closeDiscovery l 0).loopState l = 2
      ∧ (s.closeDiscovery l 0).loop l = (((s.loop l).withSide 0 (LoopEnd.closed n)).fed n v).unwaited := by
  have hcontains : ∀ c, (s.loop l).a.answers.contains (c + 1) = true ↔ c < n := fun c => by
    rw [List.contains_iff_mem, hans]
    omega
  have hfound : ((List.range 32).takeWhile fun c => (s.loop l).a.answers.contains (s.hopAt l 0 (c + 1))).length = n := length_takeWhile_range h32 hcontains
  have hforget : TilesOnly l s (s.forget l 0 (s.loop l).a.answers) := forget_absent (l := l) (s.loop l).a.answers (List.range 32) s fun i hi => by
    have hi' := List.mem_range.1 hi
    refine ⟨hi', fun hc => hrest _ ?_ (by omega)⟩
    have := mt (hcontains i).2 (by rw [hc]; exact Bool.false_ne_true)
    omega
  have hclose : s.closeDiscovery l 0 = (s.discovered l 0).tellFound l := closeDiscovery_running hrun
  have hdisc : s.discovered l 0 = ((s.forget l 0 (s.loop l).a.answers).modEnd l 0 (LoopEnd.closed n)).adjustFeed l 0 :=
    congrArg (fun n => ((s.forget l 0 (s.loop l).a.answers).modEnd l 0 (LoopEnd.closed n)).adjustFeed l 0) hfound
  obtain ⟨honly, hloops⟩ := hforget
  generalize s.forget l 0 (s.loop l).a.answers = s1 at honly hloops hdisc
  have hloop1 : s1.loop l = s.loop l := congrArg (fun m => SMap.get loopDef m l) hloops
  have h2 := honly.trans (loopOnly_modEnd l 0 (LoopEnd.closed n) s1)
  have hloop2 : (s1.modEnd l 0 (LoopEnd.closed n)).loop l = (s.loop l).withSide 0 (LoopEnd.closed n) := by rw [State.modEnd, loop_modLoop_same, hloop1]
  generalize s1.modEnd l 0 (LoopEnd.closed n) = s2 at h2 hloop2 hdisc
  have hm2 : s2.dirMode l = 1 := (h2.dirMode l).trans hm
  have hn2 : s2.dirCount l = n := (h2.dirCount l).trans hn
  obtain ⟨v, hfeed⟩ := adjustFeed_all hm2 hn2 (by rw [hloop2]; rfl) (by rw [hloop2]; rfl) (by rw [hloop2]; exact hr) (by rw [hloop2]; exact hb) (by rw [hloop2]; exact hst)
    (by rw [hloop2]; exact hforced) 0
  have h3 := h2.trans (loopOnly_modLoop l (Loop.fed n v) s2)
  have hloop3 := (loop_modLoop_same l (Loop.fed n v) s2).trans (congrArg (Loop.fed n v) hloop2)
  rw [hfeed] at hdisc
  generalize s2.modLoop l (Loop.fed n v) = s3 at h3 hloop3 hdisc
  have hm3 : s3.dirMode l = 1 := (h3.dirMode l).trans hm
  have hn3 : s3.dirCount l = n := (h3.dirCount l).trans hn
  obtain ⟨hrep, hstate⟩ := evalLoop_effect (s := s3) (l := l) (by omega) 0
  rw [loopVerdict_fed (.inl hm3) (by rw [hloop3]; rfl) (by rw [hloop3, hn3]) (by omega) (by rw [hloop3])] at hstate
  have hloop4 := (hrep.loop l).trans hloop3
  have h4 := h3.trans hrep.1
  rw [hclose, hdisc]
  generalize s3.evalLoop l 0 = s4 at hstate hloop4 h4
  rw [tellFound_done ((h4.dirMode l).trans hm) (by rw [hloop4]; rfl) (by rw [hloop4]; exact hwait)]
  exact ⟨v, h4.trans (loopOnly_modLoop l _ s4), hstate, (loop_modLoop_same l _ s4).trans (congrArg Loop.unwaited hloop4)⟩

theorem discoverInterval_closes {l n : Nat} {s : State} (hl : l < 512) (hm : s.dirMode l = 1) (hn : s.dirCount l = n) (h1 : 1 ≤ n) (h32 : n ≤ 32)
    (hpw : s.powerState ≠ 2) (hrun : (s.loop l).a.running = true) (hans : ∀ h, h ∈ (s.loop l).a.answers ↔ 1 ≤ h ∧ h ≤ n)
    (hrest : ∀ h, n < h → h ≤ 32 → (s.tile l h).fromA = false) (hr : (s.loop l).a.reach ≤ n) (hb : (s.loop l).b.reach = 0)
    (hst : (s.loop l).b.starting = false) (hforced : (s.loop l).forced ≠ 2) (hwait : (s.loop l).discWait = []) : ∃ t, exec (.discoverInterval l 0) s = .next t
      ∧ (t.loop l).a.found = n ∧ (t.loop l).a.reach = n ∧ (t.loop l).a.done = true ∧ t.loopState l = 2 ∧ LoopOnly l s t := by
  obtain ⟨v, honly, hstate, hloop⟩ := closeDiscovery_all hm hn h1 h32 hrun hans hrest hr hb hst hforced hwait
  have hx := discoverInterval_exec l 0 s
  rw [if_neg hpw, sendPLoop_local (by rw [honly.dirMode]; omega)] at hx
  generalize s.closeDiscovery l 0 = u at honly hstate hloop hx
  have hwf := discoverInterval_wellFormed (e := 0) hl (by decide)
  cases hf : u.feedingEnd l 0 with
  | false =>
    rw [hf, if_neg Bool.false_ne_true] at hx
    refine ⟨u, exec_next hx hwf rfl honly.pending, ?_, ?_, ?_, hstate, honly⟩ <;> rw [hloop] <;> rfl
  | true =>
    rw [hf, if_pos rfl, sendDiscoverFrom_idle (by rw [hloop]; rfl) rfl] at hx
    have hend := loop_modLoop_same l (Loop.withSide 0 (LoopEnd.asking ((((u.loop l).side 0).discId + 1) % 65536))) u
    generalize (((u.loop l).side 0).discId + 1) % 65536 = id at hx hend
    refine ⟨_, exec_next hx hwf rfl honly.pending, ?_, ?_, ?_, hstate, honly.trans ((loopOnly_modEnd l 0 _ u).trans (loopOnly_sent l _ _))⟩
    · exact (congrArg (fun y : Loop => y.a.found) hend).trans (by rw [hloop]; rfl)
    · exact (congrArg (fun y : Loop => y.a.reach) hend).trans (by rw [hloop]; rfl)
    · exact (congrArg (fun y : Loop => y.a.done) hend).trans (by rw [hloop]; rfl)

/-! ### DISCOVER_RECEIVED -/

/-- A loop known to be intact. -/
abbrev Loop.whole (y : Loop) : Loop := { y with intact := true, a := { y.a with heard := none }, b := { y.b with heard := none } }

theorem loopIntact_eq (l : Nat) (s : State) : s.loopIntact l = s.modLoop l Loop.whole := rfl

/-- A loop of this device whose A end feeds every tile is found to be whole. -/
theorem loopIntact_evaluates {l : Nat} {s : State} (hm : s.dirMode l = 1 ∨ s.dirMode l = 2) (hd : (s.loop l).a.done = true) (hr : (s.loop l).a.reach = s.dirCount l)
    (h0 : s.dirCount l ≠ 0) (hb : (s.loop l).b.reach = 0) (reason : Nat) : ((s.loopIntact l).evalLoop l reason).loop l = Loop.whole (s.loop l)
      ∧ ((s.loopIntact l).evalLoop l reason).loopState l = 2 ∧ LoopOnly l s ((s.loopIntact l).evalLoop l reason) := by
  have hloop := loop_modLoop_same l Loop.whole s
  have hmode : (s.modLoop l Loop.whole).dirMode l = 1 ∨ (s.modLoop l Loop.whole).dirMode l = 2 := hm
  have hcount : (s.modLoop l Loop.whole).dirCount l = s.dirCount l := rfl
  have honly := loopOnly_modLoop l Loop.whole s
  rw [loopIntact_eq]
  generalize s.modLoop l Loop.whole = u at hloop hmode hcount honly
  obtain ⟨hrep, hstate⟩ := evalLoop_effect (s := u) (l := l) (by omega) reason
  rw [loopVerdict_fed (hmode.imp_right fun h => ⟨h, by rw [hloop]⟩) (by rw [hloop]; exact hd) (by rw [hloop, hcount]; exact hr) (by rw [hcount]; exact h0)
    (by rw [hloop]; exact hb)] at hstate
  exact ⟨(hrep.loop l).trans hloop, hstate, honly.trans hrep.1⟩

theorem discoverReceived_exec {p : TilePkt} {e : Nat} {s : State} (hp : p.sound 4) (he : s.portEnd p.port = some e) (hh : s.hears p.port = true)
    (hm : s.dirMode (p.port / 2) = 2) : exec (.discoverReceived p) s = guarded (.discoverReceived p) s
      (if p.payload.length = 4 ∧ byteAt p.payload 2 ≠ e ∧ hdrAux p.hdr = s.dirCount (p.port / 2) then
        ((s.atLeast p.time).loopIntact (p.port / 2)).evalLoop (p.port / 2) (if s.loopState (p.port / 2) = 4 then 2 else 0)
      else s.atLeast p.time) :=
  congrArg (guarded (.discoverReceived p) s) (tileReceive_taken he hh hp (.inr (by omega)))

theorem discoverReceived_proves {p : TilePkt} {e : Nat} {s : State} (hp : p.sound 4) (he : s.portEnd p.port = some e) (hh : s.hears p.port = true)
    (hm : s.dirMode (p.port / 2) = 2) (hlen : p.payload.length = 4) (hfrom : byteAt p.payload 2 ≠ e) (hcount : hdrAux p.hdr = s.dirCount (p.port / 2))
    (hd : (s.loop (p.port / 2)).a.done = true) (hr : (s.loop (p.port / 2)).a.reach = s.dirCount (p.port / 2)) (h0 : s.dirCount (p.port / 2) ≠ 0)
    (hb : (s.loop (p.port / 2)).b.reach = 0) : ∃ t, exec (.discoverReceived p) s = .next t
    ∧ t.loop (p.port / 2) = { s.loop (p.port / 2) with intact := true, a := { (s.loop (p.port / 2)).a with heard := none }, b := { (s.loop (p.port / 2)).b with heard := none } }
    ∧ t.loopState (p.port / 2) = 2 ∧ LoopOnly (p.port / 2) (s.atLeast p.time) t := by
  have hx := discoverReceived_exec hp he hh hm
  rw [if_pos ⟨hlen, hfrom, hcount⟩] at hx
  obtain ⟨hloop, hstate, honly⟩ := loopIntact_evaluates (s := s.atLeast p.time) (.inr hm) hd hr h0 hb (if s.loopState (p.port / 2) = 4 then 2 else 0)
  exact ⟨_, exec_next hx (discoverReceived_wellFormed hp) rfl honly.pending, hloop, hstate, honly⟩

theorem discoverReceived_ignored {p : TilePkt} {e : Nat} {s : State} (hp : p.sound 4) (he : s.portEnd p.port = some e) (hh : s.hears p.port = true)
    (hm : s.dirMode (p.port / 2) = 2) (hno : byteAt p.payload 2 = e ∨ hdrAux p.hdr ≠ s.dirCount (p.port / 2)) :
    exec (.discoverReceived p) s = .next (s.atLeast p.time) := by
  have hx := discoverReceived_exec hp he hh hm
  rw [if_neg] at hx
  · exact exec_next hx (discoverReceived_wellFormed hp) rfl rfl
  · rintro ⟨-, hfrom, hcount⟩
    exact hno.elim hfrom fun h => h hcount

end Sys2Proof.Machine

open Sys2Proof Sys2Proof.Machine in
/-- Settles O28, clause by clause: a packet is received by `tileReceive`, which either counts it or hands it to the row's meaning, and the end of a
discovery feeds what it has found (`closeDiscovery_all`), which the loop's state follows (`evalLoop_effect`). -/
theorem tilesAreDiscoveredByCheckedPackets : Obligations.TilesAreDiscoveredByCheckedPackets := by
  unfold Obligations.TilesAreDiscoveredByCheckedPackets
  refine ⟨⟨?_, ?_, ?_, ?_, ?_, ?_, ?_, ?_, ?_, ?_, ?_, ?_⟩, ?_, ?_, ?_, ?_, ?_, ?_, ?_⟩
  · intro p s h i hi hwf
    simp only [List.mem_cons, List.not_mem_nil, or_false] at hi
    rcases hi with rfl | rfl | rfl | rfl
    · exact exec_next rfl hwf (tileReceive_deaf h) rfl
    · exact exec_next rfl hwf (tileReceive_deaf h) rfl
    · exact exec_next rfl hwf (tileReceive_deaf h) rfl
    · exact exec_next rfl hwf (tileReceive_deaf h) rfl
  · intro p e s he hh i hi hwf hf
    exact (receives_of_mem hi).next hwf (fun _ => tileReceive_header he hh hf) rfl
  · intro p e s he hh hlen hcrc i hi hwf hf hm
    exact (receives_of_mem hi).next hwf (fun _ => tileReceive_payload he hh hf hm hlen hcrc) rfl
  · intro p e h s hp he hh hlen hm hhop h1 h32
    exact ⟨_, tileStatus_kept hp he hh hlen hm hhop h1 h32, tile_modTile_same _ _ _ _, fun _ _ hk hne => tile_modTile_other h1 hk hne _ _, rfl⟩
  · intro p e k g s hp he hh hlen hr hm hk hg
    obtain ⟨t, hexec, hans, hrep⟩ := cfgReply_completes hp he hh hlen hr hm hk hg
    unfold cfgResult at hans
    refine ⟨t, hexec, fun h0 hop => ?_, fun h0 hop => ?_, fun h0 => ?_, hrep⟩
    · simpa [h0, hop] using hans
    · simpa [h0, hop] using hans
    · simpa [h0] using hans
  · exact fun p e s hp he hh hm hk => cfgReply_ignored hp he hh hm hk
  · exact fun l tag k g s hl ht hk hg => tileCfgTimeout_completes hl ht hk hg
  · exact fun l tag s hl ht hk => tileCfgTimeout_idle hl ht hk
  · exact fun l h e s hl h1 h32 he hpw hq => tilePoll_sends hl h1 h32 he hpw hq
  · exact fun l h s hl h1 h32 hno => tilePoll_idle hl h1 h32 hno
  · exact fun l h s hl h1 h32 hp hst => tilePollTimeout_misses hl h1 h32 hp hst
  · exact fun l h s hl h1 h32 hp => tilePollTimeout_idle hl h1 h32 hp
  · exact fun l e s hl he hm hpw hfeed hrun => discoverInterval_asks hl he hm hpw hfeed hrun
  · exact fun l e s hl he hm hno => discoverInterval_idle hl he hm hno
  · exact fun p e f c h s he hp hport hh hm hlen hrun hend hid hpos h1 hc h32 hhop ha hb hcheck hphase hleft =>
      tileId_found he hp hport hh hm hlen hrun hend hid hpos h1 hc hhop ha hb hcheck hphase hleft
  · exact fun p e f s hp hport hh hm heq hno => tileId_ignored hp hport hh hm heq hno
  · exact fun l n s hl hm hn h1 h32 hpw hrun hans hrest hr hb hst hforced hwait => discoverInterval_closes hl hm hn h1 h32 hpw hrun hans hrest hr hb hst hforced hwait
  · exact fun p e s hp he hh hm hlen hfrom hcount hd hr h0 hb => discoverReceived_proves hp he hh hm hlen hfrom hcount hd hr h0 hb
  · exact fun p e s hp he hh hm hno => discoverReceived_ignored hp he hh hm hno
end

section
/-! The commands of Midway (O31; 07_midway.md). -/

namespace Sys2Proof.Machine

/-! ### What the meaning of a command reads of a loop -/

theorem entered_loop (s : State) (op : Nat) (c : Cmd) (l : Nat) : (s.entered op c).loop l = s.loop l := by
  obtain ⟨w, m, t, f, h⟩ := entered_frame s op c
  rw [h]
  rfl

theorem entered_dirMode (s : State) (op : Nat) (c : Cmd) (l : Nat) : (s.entered op c).dirMode l = s.dirMode l := by
  obtain ⟨w, m, t, f, h⟩ := entered_frame s op c
  rw [h]
  rfl

theorem entered_dirCount (s : State) (op : Nat) (c : Cmd) (l : Nat) : (s.entered op c).dirCount l = s.dirCount l := by
  obtain ⟨w, m, t, f, h⟩ := entered_frame s op c
  rw [h]
  rfl

theorem entered_feedingEnd (s : State) (op : Nat) (c : Cmd) (l e : Nat) : (s.entered op c).feedingEnd l e = s.feedingEnd l e := by
  obtain ⟨w, m, t, f, h⟩ := entered_frame s op c
  rw [h]
  rfl

theorem entered_ctrlEnd (s : State) (op : Nat) (c : Cmd) (l h : Nat) : (s.entered op c).ctrlEnd l h = s.ctrlEnd l h := by
  obtain ⟨w, m, t, f, hf⟩ := entered_frame s op c
  rw [hf]
  rfl

theorem entered_tileState (s : State) (op : Nat) (c : Cmd) (l h : Nat) : (s.entered op c).tileState l h = s.tileState l h := by
  obtain ⟨w, m, t, f, hf⟩ := entered_frame s op c
  rw [hf]
  rfl

theorem entered_tile (s : State) (op : Nat) (c : Cmd) (l h : Nat) : (s.entered op c).tile l h = s.tile l h := by
  obtain ⟨w, m, t, f, hf⟩ := entered_frame s op c
  rw [hf]
  rfl

theorem entered_reachesAll (s : State) (op : Nat) (c : Cmd) (l e : Nat) : (s.entered op c).reachesAll l e = s.reachesAll l e := by
  obtain ⟨w, m, t, f, h⟩ := entered_frame s op c
  rw [h]
  rfl

theorem portTx_congr {s t : State} (hn : t.now = s.now) (hl : t.ln = s.ln) (ht : t.ctl.tables = s.ctl.tables) (l e : Nat) (f : Nat → Tx) :
    t.held (t.lane (t.endPort l e)).winEnd (f (t.endPort l e)) = s.held (s.lane (s.endPort l e)).winEnd (f (s.endPort l e)) := by
  have hport : t.endPort l e = s.endPort l e := by
    unfold State.endPort
    rw [dirMode_congr ht]
  have hlane : t.lane (s.endPort l e) = s.lane (s.endPort l e) := by rw [State.lane, hl, ← State.lane]
  rw [hport, hlane, State.held, hn]

theorem entered_portTx (s : State) (op : Nat) (c : Cmd) (l e : Nat) (f : Nat → Tx) (g : Loop → Loop) :
    ((s.entered op c).modLoop l g).held (((s.entered op c).modLoop l g).lane (((s.entered op c).modLoop l g).endPort l e)).winEnd (f (((s.entered op c).modLoop l g).endPort l e))
      = s.held (s.lane (s.endPort l e)).winEnd (f (s.endPort l e)) := by
  obtain ⟨w, m, t, x, h⟩ := entered_frame s op c
  rw [h]
  exact portTx_congr (s := s) rfl rfl rfl l e f

/-! ### LOOP_DISCOVER -/

/-- The ends of a loop that feed. -/
abbrev State.feedingEnds (s : State) (l : Nat) : List Nat := (List.range 2).filter fun e => s.feedingEnd l e

/-- A loop for which one more LOOP_DISCOVER waits. -/
abbrev Loop.awaited (tk : Nat) (y : Loop) : Loop := { y with discWait := y.discWait ++ [tk] }

theorem loopDiscoverBody_eq (q : Call) (s : State) : loopDiscoverBody q s =
    if 512 ≤ q.c.f 0 16 then (s, .err cBAD_PARAM)
    else if (s.feedingEnds (q.c.f 0 16)).isEmpty then (s, .done cOK 2 ((s.loop (q.c.f 0 16)).a.found + at' 8 (s.loop (q.c.f 0 16)).b.found))
    else ((s.feedingEnds (q.c.f 0 16)).foldl (fun t e => t.sendDiscoverFrom (q.c.f 0 16) e) (s.modLoop (q.c.f 0 16) (Loop.awaited q.tk)), .wait) := rfl

/-- An end that asks for its tiles with the next DISCOVER_ID. -/
abbrev LoopEnd.askingNext (y : LoopEnd) : LoopEnd := { y with discId := (y.discId + 1) % 65536, running := true, answers := [] }

theorem modEnd_congr {l e : Nat} {f g : LoopEnd → LoopEnd} {s : State} (h : f ((s.loop l).side e) = g ((s.loop l).side e)) : s.modEnd l e f = s.modEnd l e g := by
  refine congrArg (fun y => { s with mw := { s.mw with loops := SMap.set loopDef s.mw.loops l y } }) ?_
  unfold Loop.side at h
  unfold Loop.withSide
  by_cases h0 : e = 0
  · rw [if_pos h0] at h
    rw [if_pos h0, if_pos h0, h]
  · rw [if_neg h0] at h
    rw [if_neg h0, if_neg h0, h]

theorem feedingEnds_none {l : Nat} {s : State} (ha : s.feedingEnd l 0 = false) (hb : s.feedingEnd l 1 = false) : s.feedingEnds l = [] := by
  simp [State.feedingEnds, List.range_succ_eq_map, ha, hb]

theorem feedingEnds_a {l : Nat} {s : State} (ha : s.feedingEnd l 0 = true) (hb : s.feedingEnd l 1 = false) : s.feedingEnds l = [0] := by
  simp [State.feedingEnds, List.range_succ_eq_map, ha, hb]

theorem loopDiscoverBody_none {q : Call} {s : State} (hl : q.c.f 0 16 < 512) (h : s.feedingEnds (q.c.f 0 16) = []) :
    loopDiscoverBody q s = (s, .done cOK 2 ((s.loop (q.c.f 0 16)).a.found + at' 8 (s.loop (q.c.f 0 16)).b.found)) :=
  (loopDiscoverBody_eq q s).trans ((if_neg (Nat.not_le.2 hl)).trans (if_pos (by rw [h]; rfl)))

theorem loopDiscoverBody_one {q : Call} {s : State} {e : Nat} (hl : q.c.f 0 16 < 512) (h : s.feedingEnds (q.c.f 0 16) = [e]) :
    loopDiscoverBody q s = ((s.modLoop (q.c.f 0 16) (Loop.awaited q.tk)).sendDiscoverFrom (q.c.f 0 16) e, .wait) := by
  refine (loopDiscoverBody_eq q s).trans ((if_neg (Nat.not_le.2 hl)).trans ((if_neg (by rw [h]; simp)).trans ?_))
  rw [h]
  rfl

section
variable {c : Cmd} {s : State} (ha : s.accepts false 0x0401 c) (ho : c.operands 2 0)
include ha ho

theorem loopDiscover_badParam (h : 512 ≤ c.f 0 16) : ∃ t, exec (.loopDiscover c) s = .next t ∧ Answered 0x0401 c 4 0 0 t ∧ CommandOnly c s t :=
  completes_reading (i := .loopDiscover c) (spec := loopDiscoverSpec) (body := loopDiscoverBody) ha.1.1 ha (by simp [loopDiscoverSpec, OpSpec.fixed, ho.1])
    (by rw [ho.1]; exact ho.2) (fun _ => rfl) (by decide) (by rw [loopDiscoverBody_eq]; exact if_pos h)

theorem loopDiscover_answers (hl : c.f 0 16 < 512) (h0 : s.feedingEnd (c.f 0 16) 0 = false) (h1 : s.feedingEnd (c.f 0 16) 1 = false) :
    ∃ t, exec (.loopDiscover c) s = .next t ∧ Answered 0x0401 c 0 2 ((s.loop (c.f 0 16)).a.found + at' 8 (s.loop (c.f 0 16)).b.found) t ∧ CommandOnly c s t := by
  refine completes_reading (i := .loopDiscover c) (spec := loopDiscoverSpec) (body := loopDiscoverBody) ha.1.1 ha (by simp [loopDiscoverSpec, OpSpec.fixed, ho.1])
    (by rw [ho.1]; exact ho.2) (fun _ => rfl) (by decide) ?_
  have hno : (s.entered 0x0401 c).feedingEnds (c.f 0 16) = [] := feedingEnds_none ((entered_feedingEnd ..).trans h0) ((entered_feedingEnd ..).trans h1)
  refine (loopDiscoverBody_none (q := { c := c, tk := s.newTicket, priv := s.privOf c }) (s := s.entered 0x0401 c) hl hno).trans ?_
  rw [entered_loop]
  rfl

omit ha ho in
/-- The DISCOVER of end A, as it leaves. -/
theorem sendDiscoverFrom_a {l id : Nat} (hrun : (s.loop l).a.running = false) (hid : ((s.loop l).a.discId + 1) % 65536 = id) :
    s.sendDiscoverFrom l 0 = (s.modEnd l 0 LoopEnd.askingNext).emit
      (s.held (s.lane (s.endPort l 0)).winEnd (.tilePkt (s.endPort l 0) (tileHdr 4 0 63 4 0 0) (withCrc (leBytes id 4)))) := by
  have hzero : id + at' 16 0 = id := by simp [at']
  rw [sendDiscoverFrom_idle (e := 0) hrun hid, hzero, modEnd_congr (f := LoopEnd.asking id) (g := LoopEnd.askingNext)]
  · rfl
  · exact congrArg (fun n => LoopEnd.asking n (s.loop l).a) hid.symm

theorem loopDiscover_sends {l : Nat} (hf : l = c.f 0 16) (hl : l < 512) (h0 : s.feedingEnd l 0 = true) (h1 : s.feedingEnd l 1 = false)
    (hrun : (s.loop l).a.running = false) : ∃ t, exec (.loopDiscover c) s = .next t ∧ Waits 0x0401 c (((s.modLoop l fun y => { y with
        discWait := y.discWait ++ [s.newTicket] }).modEnd l 0 fun y => { y with discId := (y.discId + 1) % 65536, running := true, answers := [] }).emit
      (s.held (s.lane (s.endPort l 0)).winEnd (.tilePkt (s.endPort l 0) (tileHdr 4 0 63 4 0 0) (withCrc (leBytes (((s.loop l).a.discId + 1) % 65536) 4))))) t := by
  have hone : (s.entered 0x0401 c).feedingEnds l = [0] := feedingEnds_a ((entered_feedingEnd ..).trans h0) ((entered_feedingEnd ..).trans h1)
  have hloop : ((s.entered 0x0401 c).modLoop l (Loop.awaited s.newTicket)).loop l = Loop.awaited s.newTicket (s.loop l) := by
    rw [loop_modLoop_same, entered_loop]
  obtain ⟨id, hid⟩ : ∃ id, ((s.loop l).a.discId + 1) % 65536 = id := ⟨_, rfl⟩
  rw [hid]
  have hsend := sendDiscoverFrom_a (id := id) (l := l) (s := (s.entered 0x0401 c).modLoop l (Loop.awaited s.newTicket)) (by rw [hloop]; exact hrun) (by rw [hloop]; exact hid)
  refine Runs.waits (i := .loopDiscover c) (spec := loopDiscoverSpec) (body := loopDiscoverBody) ha.1.1 ha (by simp [loopDiscoverSpec, OpSpec.fixed, ho.1])
    (by rw [ho.1]; exact ho.2) (fun _ => rfl) ?_ (runs_of_comm (fun z => ((z.modLoop l (Loop.awaited s.newTicket)).modEnd l 0 LoopEnd.askingNext).emit
      (s.held (s.lane (s.endPort l 0)).winEnd (.tilePkt (s.endPort l 0) (tileHdr 4 0 63 4 0 0) (withCrc (leBytes id 4)))))
      (fun _ _ _ _ => rfl) rfl rfl rfl rfl) rfl rfl
  subst hf
  refine (loopDiscoverBody_one (q := { c := c, tk := s.newTicket, priv := s.privOf c }) (s := s.entered 0x0401 c) hl hone).trans ?_
  rw [hsend, entered_portTx s 0x0401 c (c.f 0 16) 0 (fun k => .tilePkt k (tileHdr 4 0 63 4 0 0) (withCrc (leBytes id 4)))]
  rfl
end

/-! ### TILE_CFG_WRITE and TILE_CFG_READ -/

/-- A loop of which hop `h` has been sent a configuration command with this tag. -/
abbrev Loop.asked (tag h tk : Nat) (y : Loop) : Loop := { y with cfgTag := tag, cfg := y.cfg ++ [(tag, h, tk)] }

theorem cfgBody_eq (typ n : Nat) (q : Call) (s : State) : cfgBody typ n q s =
    if 512 ≤ q.c.f 0 16 ∨ q.c.f 16 8 < 1 ∨ 32 < q.c.f 16 8 then (s, .err cBAD_PARAM)
    else match (if s.tileState (q.c.f 0 16) (q.c.f 16 8) = 4 then none else s.ctrlEnd (q.c.f 0 16) (q.c.f 16 8)) with
      | none => (s, .err 0x40)
      | some e => ((s.modLoop (q.c.f 0 16) (Loop.asked (((s.loop (q.c.f 0 16)).cfgTag + 1) % 256) (q.c.f 16 8) q.tk)).sendTile (q.c.f 0 16) e typ 0
          ((s.modLoop (q.c.f 0 16) (Loop.asked (((s.loop (q.c.f 0 16)).cfgTag + 1) % 256) (q.c.f 16 8) q.tk)).distOf (q.c.f 0 16) e (q.c.f 16 8))
          (((s.loop (q.c.f 0 16)).cfgTag + 1) % 256) 0 (leBytes (q.c.f 32 (8 * n)) n), .wait) := rfl

theorem cfgBody_badParam {typ n op : Nat} {c : Cmd} {s : State} (h : 512 ≤ c.f 0 16 ∨ c.f 16 8 = 0 ∨ 32 < c.f 16 8) :
    cfgBody typ n { c := c, tk := s.newTicket, priv := s.privOf c } (s.entered op c) = (s.entered op c, .err cBAD_PARAM) := by
  rw [cfgBody_eq]
  exact if_pos (h.imp_right fun h => h.imp_left Nat.lt_one_iff.2)

theorem cfgBody_absent {typ n op : Nat} {c : Cmd} {s : State} (hl : c.f 0 16 < 512) (h1 : 1 ≤ c.f 16 8) (h32 : c.f 16 8 ≤ 32)
    (h : s.tileState (c.f 0 16) (c.f 16 8) = 4 ∨ s.ctrlEnd (c.f 0 16) (c.f 16 8) = none) :
    cfgBody typ n { c := c, tk := s.newTicket, priv := s.privOf c } (s.entered op c) = (s.entered op c, .err 0x40) := by
  have hno : (if s.tileState (c.f 0 16) (c.f 16 8) = 4 then none else s.ctrlEnd (c.f 0 16) (c.f 16 8)) = none := by
    split
    · rfl
    · next hq => exact h.resolve_left hq
  rw [cfgBody_eq]
  dsimp only
  rw [if_neg (by omega), entered_tileState, entered_ctrlEnd, hno]

theorem cfgBody_sends {typ n op e : Nat} {c : Cmd} {s : State} (hl : c.f 0 16 < 512) (h1 : 1 ≤ c.f 16 8) (h32 : c.f 16 8 ≤ 32)
    (hq : s.tileState (c.f 0 16) (c.f 16 8) ≠ 4) (he : s.ctrlEnd (c.f 0 16) (c.f 16 8) = some e) :
    cfgBody typ n { c := c, tk := s.newTicket, priv := s.privOf c } (s.entered op c)
      = (((s.entered op c).modLoop (c.f 0 16) (Loop.asked (((s.loop (c.f 0 16)).cfgTag + 1) % 256) (c.f 16 8) s.newTicket)).sendTile (c.f 0 16) e typ 0
          (s.distOf (c.f 0 16) e (c.f 16 8)) (((s.loop (c.f 0 16)).cfgTag + 1) % 256) 0 (leBytes (c.f 32 (8 * n)) n), .wait) := by
  have hdist : ∀ f, ((s.entered op c).modLoop (c.f 0 16) f).distOf (c.f 0 16) e (c.f 16 8) = s.distOf (c.f 0 16) e (c.f 16 8) := fun f => by
    rw [State.distOf, State.distOf, ← entered_dirCount s op c]
    rfl
  rw [cfgBody_eq]
  dsimp only
  rw [if_neg (by omega), entered_tileState, entered_ctrlEnd, if_neg hq, he]
  dsimp only
  rw [hdist, entered_loop]

end Sys2Proof.Machine
end

section
/-! TILE_CFG_WRITE, TILE_CFG_READ, TILE_STATUS_READ, LOOP_FEED and PARTNER_CONFIG (O31; 07_midway.md). -/

namespace Sys2Proof.Machine

/-! ### TILE_CFG_WRITE and TILE_CFG_READ -/

section
variable {c : Cmd} {s : State} (ha : s.accepts false 0x0402 c) (ho : c.operands 12 0xFF000000)
include ha ho

theorem tileCfgWrite_fails {code : Nat} (hc : code < 256)
    (h : tileCfgWriteBody { c := c, tk := s.newTicket, priv := s.privOf c } (s.entered 0x0402 c) = (s.entered 0x0402 c, .err code)) :
    ∃ t, exec (.tileCfgWrite c) s = .next t ∧ Answered 0x0402 c code 0 0 t ∧ CommandOnly c s t :=
  completes_reading (i := .tileCfgWrite c) (spec := tileCfgWriteSpec) (body := tileCfgWriteBody) ha.1.1 ha (by simp [tileCfgWriteSpec, ho.1])
    (by rw [ho.1]; exact ho.2) (fun _ => rfl) hc h

theorem tileCfgWrite_sends {l h e tag : Nat} (hl' : l = c.f 0 16) (hh : h = c.f 16 8) (hl : l < 512) (h1 : 1 ≤ h) (h32 : h ≤ 32) (hq : s.tileState l h ≠ 4)
    (he : s.ctrlEnd l h = some e) (htag : tag = ((s.loop l).cfgTag + 1) % 256) : ∃ t, exec (.tileCfgWrite c) s = .next t
      ∧ Waits 0x0402 c ((s.modLoop l (Loop.asked tag h s.newTicket)).emit (s.held (s.lane (s.endPort l e)).winEnd (.tilePkt (s.endPort l e)
          (tileHdr 6 0 (s.distOf l e h) 8 tag 0) (withCrc (leBytes (c.f 32 64) 8))))) t := by
  subst hl' hh
  refine Runs.waits (i := .tileCfgWrite c) (spec := tileCfgWriteSpec) (body := tileCfgWriteBody) ha.1.1 ha (by simp [tileCfgWriteSpec, ho.1])
    (by rw [ho.1]; exact ho.2) (fun _ => rfl) ?_ (runs_of_comm (fun z => (z.modLoop (c.f 0 16) (Loop.asked tag (c.f 16 8) s.newTicket)).emit
      (s.held (s.lane (s.endPort (c.f 0 16) e)).winEnd (.tilePkt (s.endPort (c.f 0 16) e) (tileHdr 6 0 (s.distOf (c.f 0 16) e (c.f 16 8)) 8 tag 0)
        (withCrc (leBytes (c.f 32 64) 8))))) (fun _ _ _ _ => rfl) rfl rfl rfl rfl) rfl rfl
  refine (cfgBody_sends (typ := 6) (n := 8) (op := 0x0402) hl h1 h32 hq he).trans ?_
  rw [State.sendTile, State.emitAfter, leBytes_length, ← htag]
  exact congrArg (fun x => (State.emit x ((s.entered 0x0402 c).modLoop (c.f 0 16) (Loop.asked tag (c.f 16 8) s.newTicket)), Ans.wait))
    (entered_portTx s 0x0402 c (c.f 0 16) e (fun k => .tilePkt k (tileHdr 6 0 (s.distOf (c.f 0 16) e (c.f 16 8)) 8 tag 0) (withCrc (leBytes (c.f 32 64) 8))) _)
end

section
variable {c : Cmd} {s : State} (ha : s.accepts false 0x0403 c) (ho : c.operands 8 0xFF000000)
include ha ho

theorem tileCfgRead_fails {code : Nat} (hc : code < 256)
    (h : tileCfgReadBody { c := c, tk := s.newTicket, priv := s.privOf c } (s.entered 0x0403 c) = (s.entered 0x0403 c, .err code)) :
    ∃ t, exec (.tileCfgRead c) s = .next t ∧ Answered 0x0403 c code 0 0 t ∧ CommandOnly c s t :=
  completes_reading (i := .tileCfgRead c) (spec := tileCfgReadSpec) (body := tileCfgReadBody) ha.1.1 ha (by simp [tileCfgReadSpec, ho.1])
    (by rw [ho.1]; exact ho.2) (fun _ => rfl) hc h

theorem tileCfgRead_sends {l h e tag : Nat} (hl' : l = c.f 0 16) (hh : h = c.f 16 8) (hl : l < 512) (h1 : 1 ≤ h) (h32 : h ≤ 32) (hq : s.tileState l h ≠ 4)
    (he : s.ctrlEnd l h = some e) (htag : tag = ((s.loop l).cfgTag + 1) % 256) : ∃ t, exec (.tileCfgRead c) s = .next t
      ∧ Waits 0x0403 c ((s.modLoop l (Loop.asked tag h s.newTicket)).emit (s.held (s.lane (s.endPort l e)).winEnd (.tilePkt (s.endPort l e)
          (tileHdr 7 0 (s.distOf l e h) 4 tag 0) (withCrc (leBytes (c.f 32 32) 4))))) t := by
  subst hl' hh
  refine Runs.waits (i := .tileCfgRead c) (spec := tileCfgReadSpec) (body := tileCfgReadBody) ha.1.1 ha (by simp [tileCfgReadSpec, ho.1])
    (by rw [ho.1]; exact ho.2) (fun _ => rfl) ?_ (runs_of_comm (fun z => (z.modLoop (c.f 0 16) (Loop.asked tag (c.f 16 8) s.newTicket)).emit
      (s.held (s.lane (s.endPort (c.f 0 16) e)).winEnd (.tilePkt (s.endPort (c.f 0 16) e) (tileHdr 7 0 (s.distOf (c.f 0 16) e (c.f 16 8)) 4 tag 0)
        (withCrc (leBytes (c.f 32 32) 4))))) (fun _ _ _ _ => rfl) rfl rfl rfl rfl) rfl rfl
  refine (cfgBody_sends (typ := 7) (n := 4) (op := 0x0403) hl h1 h32 hq he).trans ?_
  rw [State.sendTile, State.emitAfter, leBytes_length, ← htag]
  exact congrArg (fun x => (State.emit x ((s.entered 0x0403 c).modLoop (c.f 0 16) (Loop.asked tag (c.f 16 8) s.newTicket)), Ans.wait))
    (entered_portTx s 0x0403 c (c.f 0 16) e (fun k => .tilePkt k (tileHdr 7 0 (s.distOf (c.f 0 16) e (c.f 16 8)) 4 tag 0) (withCrc (leBytes (c.f 32 32) 4))) _)
end

/-! ### TILE_STATUS_READ -/

/-- What TILE_STATUS_READ says of a hop. -/
def State.tileRecord (s : State) (l h : Nat) : Nat := h + at' 8 (s.tileState l h) + at' 32 (ofLE (s.tile l h).status)

theorem entered_tileRecord (s : State) (op : Nat) (c : Cmd) (l h : Nat) : (s.entered op c).tileRecord l h = s.tileRecord l h := by
  unfold State.tileRecord
  rw [entered_tileState, entered_tile]

theorem tileStatusReadBody_eq (q : Call) (s : State) : tileStatusReadBody q s =
    if 512 ≤ q.c.f 0 16 ∨ q.c.f 16 8 < 1 ∨ 32 < q.c.f 16 8 ∨ q.c.f 24 8 < 1 ∨ 12 < q.c.f 24 8 ∨ 33 < q.c.f 16 8 + q.c.f 24 8 then (s, .err cBAD_PARAM)
    else (s, .done cOK (20 * q.c.f 24 8) (packedRecords 160 (fun i => s.tileRecord (q.c.f 0 16) (q.c.f 16 8 + i)) (q.c.f 24 8))) := by
  unfold tileStatusReadBody packedRecords State.tileRecord
  rfl

theorem ofLE_lt : ∀ b : List Byte, ofLE b < 2 ^ (8 * b.length)
  | [] => by decide
  | x :: b => by
    have ih := ofLE_lt b
    have hx := x.isLt
    rw [ofLE, List.length_cons, Nat.mul_succ, Nat.pow_add]
    omega

section
variable {c : Cmd} {s : State} (ha : s.accepts false 0x0404 c) (ho : c.operands 4 0)
include ha ho

theorem tileStatusRead_badParam (h : 512 ≤ c.f 0 16 ∨ c.f 16 8 = 0 ∨ 32 < c.f 16 8) :
    ∃ t, exec (.tileStatusRead c) s = .next t ∧ Answered 0x0404 c 4 0 0 t ∧ CommandOnly c s t :=
  completes_reading (i := .tileStatusRead c) (spec := tileStatusReadSpec) (body := tileStatusReadBody) ha.1.1 ha (by simp [tileStatusReadSpec, OpSpec.fixed, ho.1])
    (by rw [ho.1]; exact ho.2) (fun _ => rfl) (by decide)
    (by rw [tileStatusReadBody_eq]; exact if_pos (h.imp_right fun h => h.imp Nat.lt_one_iff.2 .inl))

theorem tileStatusRead_reads {l h n : Nat} (hl' : l = c.f 0 16) (hh : h = c.f 16 8) (hn : n = c.f 24 8) (hl : l < 512) (h1 : 1 ≤ h) (hn1 : 1 ≤ n) (hn12 : n ≤ 12)
    (hfit : h + n ≤ 33) : ∃ t, exec (.tileStatusRead c) s = .next t
      ∧ Answered 0x0404 c 0 (20 * n) (packedRecords 160 (fun i => s.tileRecord l (h + i)) n) t ∧ CommandOnly c s t := by
  subst hl' hh hn
  refine completes_reading (i := .tileStatusRead c) (spec := tileStatusReadSpec) (body := tileStatusReadBody) ha.1.1 ha
    (by simp [tileStatusReadSpec, OpSpec.fixed, ho.1]) (by rw [ho.1]; exact ho.2) (fun _ => rfl) (by decide) ?_
  rw [tileStatusReadBody_eq]
  dsimp only [tileStatusReadSpec, OpSpec.fixed]
  rw [if_neg (by omega)]
  simp only [entered_tileRecord]
end

theorem tileRecord_fields {l h : Nat} {s : State} (hh : h < 256) (hst : s.tileState l h < 256) (hlen : (s.tile l h).status.length ≤ 16) :
    s.tileRecord l h < 2 ^ 160 ∧ s.tileRecord l h % 2 ^ 8 = h ∧ s.tileRecord l h / 2 ^ 8 % 2 ^ 8 = s.tileState l h
      ∧ s.tileRecord l h / 2 ^ 32 % 2 ^ 128 = ofLE (s.tile l h).status := by
  have hb := ofLE_lt (s.tile l h).status
  have hp : 2 ^ (8 * (s.tile l h).status.length) ≤ 2 ^ 128 := Nat.pow_le_pow_right (by decide) (by omega)
  have h8 : at' 8 (s.tileState l h) = s.tileState l h * 256 := Nat.shiftLeft_eq _ _
  have h32 : at' 32 (ofLE (s.tile l h).status) = ofLE (s.tile l h).status * 4294967296 := Nat.shiftLeft_eq _ _
  unfold State.tileRecord
  rw [h8, h32]
  generalize ofLE (s.tile l h).status = x at hb ⊢
  generalize s.tileState l h = y at hst ⊢
  have hx : x < 2 ^ 128 := Nat.lt_of_lt_of_le hb hp
  omega

/-- A field of a record stands where the record does. -/
theorem div_mod_of_record {r v k a w b : Nat} (h : r / 2 ^ k % 2 ^ w = v) (hab : a + b ≤ w) : r / 2 ^ (k + a) % 2 ^ b = v / 2 ^ a % 2 ^ b := by
  rw [← h, Nat.pow_add, ← Nat.div_div_eq_div_mul]
  generalize r / 2 ^ k = x
  obtain ⟨d, rfl⟩ := Nat.exists_eq_add_of_le hab
  rw [Nat.add_assoc, Nat.pow_add, Nat.mod_mul_right_div_self, Nat.pow_add, Nat.mod_mul_right_mod]

end Sys2Proof.Machine
end

section
/-! LOOP_FEED, PARTNER_CONFIG and the states of the partner link (O31; 07_midway.md). -/

namespace Sys2Proof.Machine

/-! ### LOOP_FEED -/

/-- End `e` feeds every tile of the loop alone. -/
def State.feedsAll (s : State) (l e : Nat) : Bool :=
  (if e = 0 then (s.loop l).a.reach else (s.loop l).b.reach) == s.dirCount l && (if e = 0 then (s.loop l).b.reach else (s.loop l).a.reach) == 0

/-- End `e` may be given every tile of the loop. -/
def State.mayFeed (s : State) (l e : Nat) : Bool := (s.dirMode l == 2 || s.dirMode l == 3 || (s.dirMode l == 1 && e == 0)) && s.reachesAll l e

/-- A loop under LOOP_FEED's mode. -/
abbrev Loop.forcedTo (mode : Nat) (y : Loop) : Loop := { y with forced := mode }

theorem loopFeedBody_eq (q : Call) (s : State) : loopFeedBody q s =
    if 512 ≤ q.c.f 0 16 ∨ 2 < q.c.f 16 8 then (s, .err cBAD_PARAM)
    else if (s.loop (q.c.f 0 16)).handover.isSome then (s, .err cBUSY)
    else if q.c.f 16 8 = 0 then
      (if s.feedsAll (q.c.f 0 16) (if q.c.f 16 8 = 2 then 1 else 0) || !s.mayFeed (q.c.f 0 16) (if q.c.f 16 8 = 2 then 1 else 0) then
        (s.modLoop (q.c.f 0 16) (Loop.forcedTo (q.c.f 16 8)), .ok)
      else ((s.modLoop (q.c.f 0 16) (Loop.forcedTo (q.c.f 16 8))).startHandover (q.c.f 0 16) (s.dirCount (q.c.f 0 16)) 0 2 3 (some q.tk), .wait))
    else if !s.mayFeed (q.c.f 0 16) (if q.c.f 16 8 = 2 then 1 else 0) then (s, .err cNO_RESOURCE)
    else if s.feedsAll (q.c.f 0 16) (if q.c.f 16 8 = 2 then 1 else 0) then (s.modLoop (q.c.f 0 16) (Loop.forcedTo (q.c.f 16 8)), .ok)
    else ((s.modLoop (q.c.f 0 16) (Loop.forcedTo (q.c.f 16 8))).startHandover (q.c.f 0 16)
      (if (if q.c.f 16 8 = 2 then 1 else 0) = 0 then s.dirCount (q.c.f 0 16) else 0) (if (if q.c.f 16 8 = 2 then 1 else 0) = 0 then 0 else s.dirCount (q.c.f 0 16)) 2 3
      (some q.tk), .wait) := rfl

section
variable {q : Call} {s : State} {l m : Nat} (hl' : q.c.f 0 16 = l) (hm' : q.c.f 16 8 = m)
include hl' hm'

theorem loopFeedBody_bad (h : 512 ≤ l ∨ 2 < m) : loopFeedBody q s = (s, .err cBAD_PARAM) := by
  subst hl' hm'
  exact if_pos h

variable (hl : l < 512)
include hl

theorem loopFeedBody_busy (hm : m ≤ 2) (h : (s.loop l).handover ≠ none) : loopFeedBody q s = (s, .err cBUSY) := by
  subst hl' hm'
  exact (if_neg (by omega)).trans (if_pos (Option.isSome_iff_ne_none.2 h))

variable (hfree : (s.loop l).handover = none)
include hfree

theorem loopFeedBody_automatic (hm : m = 0) (h : s.reachesAll l 0 = false) : loopFeedBody q s = (s.modLoop l (Loop.forcedTo 0), .ok) := by
  subst hl'
  have hno : s.mayFeed (q.c.f 0 16) 0 = false := by rw [State.mayFeed, h, Bool.and_false]
  rw [loopFeedBody_eq, hm', hm, if_neg (by omega), if_neg (by rw [hfree]; simp), if_pos rfl, if_neg (by decide : ¬ (0 : Nat) = 2), hno, if_pos (by simp)]

theorem loopFeedBody_unable (hm : m = 1 ∨ m = 2) (h : s.reachesAll l (m - 1) = false) : loopFeedBody q s = (s, .err cNO_RESOURCE) := by
  subst hl'
  have he : (if m = 2 then 1 else 0) = m - 1 := by split <;> omega
  have hno : s.mayFeed (q.c.f 0 16) (m - 1) = false := by rw [State.mayFeed, h, Bool.and_false]
  rw [loopFeedBody_eq, hm', if_neg (by omega), if_neg (by rw [hfree]; simp), if_neg (by omega), he, hno, if_pos (by simp)]

theorem loopFeedBody_already (hm : m = 1) (hmode : s.dirMode l = 2) (h : s.reachesAll l 0 = true) (ha : (s.loop l).a.reach = s.dirCount l) (hb : (s.loop l).b.reach = 0) :
    loopFeedBody q s = (s.modLoop l (Loop.forcedTo 1), .ok) := by
  subst hl'
  have hmay : s.mayFeed (q.c.f 0 16) 0 = true := by simp [State.mayFeed, h, hmode]
  have hall : s.feedsAll (q.c.f 0 16) 0 = true := by simp [State.feedsAll, ha, hb]
  rw [loopFeedBody_eq, hm', hm, if_neg (by omega), if_neg (by rw [hfree]; simp), if_neg (by decide), if_neg (by decide : ¬ (1 : Nat) = 2), hmay, if_neg (by simp), hall,
    if_pos rfl]

theorem loopFeedBody_hands (hm : m = 2) (hmode : s.dirMode l = 2) (h : s.reachesAll l 1 = true) (hb : (s.loop l).b.reach = 0) :
    loopFeedBody q s = ((s.modLoop l (Loop.forcedTo 2)).startHandover l 0 (s.dirCount l) 2 3 (some q.tk), .wait) := by
  subst hl'
  have h0 : s.dirCount (q.c.f 0 16) ≠ 0 := fun h0 => by simp [State.reachesAll, h0] at h
  have hmay : s.mayFeed (q.c.f 0 16) 1 = true := by simp [State.mayFeed, h, hmode]
  have hall : s.feedsAll (q.c.f 0 16) 1 = false := by simp [State.feedsAll, hb, Ne.symm h0]
  rw [loopFeedBody_eq, hm', hm, if_neg (by omega), if_neg (by rw [hfree]; simp), if_neg (by decide), if_pos rfl, hmay, if_neg (by simp), hall,
    if_neg Bool.false_ne_true, if_neg (by decide), if_neg (by decide)]
end

section
variable {c : Cmd} {s : State} (ha : s.accepts false 0x0405 c) (ho : c.operands 3 0)
include ha ho

theorem loopFeed_fails {code : Nat} (hc : code < 256)
    (h : loopFeedBody { c := c, tk := s.newTicket, priv := s.privOf c } (s.entered 0x0405 c) = (s.entered 0x0405 c, .err code)) :
    ∃ t, exec (.loopFeed c) s = .next t ∧ Answered 0x0405 c code 0 0 t ∧ CommandOnly c s t :=
  completes_reading (i := .loopFeed c) (spec := loopFeedSpec) (body := loopFeedBody) ha.1.1 ha (by simp [loopFeedSpec, OpSpec.fixed, ho.1])
    (by rw [ho.1]; exact ho.2) (fun _ => rfl) hc h

theorem loopFeed_forces {l m : Nat}
    (h : loopFeedBody { c := c, tk := s.newTicket, priv := s.privOf c } (s.entered 0x0405 c) = ((s.entered 0x0405 c).modLoop l (Loop.forcedTo m), .ok)) :
    ∃ t, exec (.loopFeed c) s = .next t ∧ Answered 0x0405 c 0 0 0 t ∧ CommandOnly c (s.modLoop l (Loop.forcedTo m)) t :=
  Runs.completes (i := .loopFeed c) (spec := loopFeedSpec) (body := loopFeedBody) ha.1.1 ha (by simp [loopFeedSpec, OpSpec.fixed, ho.1])
    (by rw [ho.1]; exact ho.2) (fun _ => rfl) (congrArg Prod.snd h) (by decide)
    (by rw [show (loopFeedBody { c := c, tk := s.newTicket, priv := s.privOf c } (s.entered loopFeedSpec.op c)).1 = _ from congrArg Prod.fst h]
        exact runs_of_comm (fun z => z.modLoop l (Loop.forcedTo m)) (fun _ _ _ _ => rfl) rfl rfl rfl rfl) rfl

/-- A loop whose B end is to be given every tile. -/
abbrev Loop.handing (tag : Option Nat) (n tk : Nat) (y : Loop) : Loop := { y with handover := some { tag := tag, reachA := 0, reachB := n, kind := 2, ticket := some tk } }

omit ha ho in
/-- A handover to the B end of a closed local loop starts it. -/
theorem startHandover_b {l n tk : Nat} {u : State} (hmode : u.dirMode l = 2) (hb : (u.loop l).b.reach = 0) :
    u.startHandover l 0 n 2 3 (some tk) = (u.modLoop l (Loop.handing (u.handoverTag l 100000) n tk)).modEnd l 1 fun y => { y with starting := true } := by
  have hown : u.ownsEnd l 1 = true := by simp [State.ownsEnd, hmode]
  have hloop := loop_modLoop_same l (Loop.handing (u.handoverTag l 100000) n tk) u
  unfold State.startHandover
  simp only [hmode, show ¬ (2 : Nat) = 3 by decide, if_false, ne_eq, not_true_eq_false, hown, decide_false, Bool.not_true, Bool.not_false]
  refine modEnd_congr (s := u.modLoop l (Loop.handing (u.handoverTag l 100000) n tk)) ?_
  rw [hloop]
  have hstart : ((u.loop l).b.starting || (u.loop l).b.reach == 0) = true := by simp [hb]
  exact congrArg (fun b => { (u.loop l).b with starting := b }) hstart

theorem loopFeed_hands {l : Nat} (hf : l = c.f 0 16) (hl : l < 512) (hm : c.f 16 8 = 2) (hfree : (s.loop l).handover = none) (hmode : s.dirMode l = 2)
    (hr : s.reachesAll l 1 = true) (hb : (s.loop l).b.reach = 0) :
    ∃ t, exec (.loopFeed c) s = .next t ∧ Waits 0x0405 c (((s.modLoop l (Loop.forcedTo 2)).modLoop l (Loop.handing (s.handoverTag l 100000) (s.dirCount l) s.newTicket)).modEnd l 1
      fun y => { y with starting := true }) t := by
  refine Runs.waits (i := .loopFeed c) (spec := loopFeedSpec) (body := loopFeedBody) ha.1.1 ha (by simp [loopFeedSpec, OpSpec.fixed, ho.1])
    (by rw [ho.1]; exact ho.2) (fun _ => rfl) ?_ (runs_of_comm (fun z => ((z.modLoop l (Loop.forcedTo 2)).modLoop l
      (Loop.handing (s.handoverTag l 100000) (s.dirCount l) s.newTicket)).modEnd l 1 fun y => { y with starting := true }) (fun _ _ _ _ => rfl) rfl rfl rfl rfl) rfl rfl
  refine (loopFeedBody_hands (q := { c := c, tk := s.newTicket, priv := s.privOf c }) hf.symm hm hl ((congrArg Loop.handover (entered_loop ..)).trans hfree) rfl
    ((entered_dirMode ..).trans hmode) ((entered_reachesAll ..).trans hr) ((congrArg (fun y : Loop => y.b.reach) (entered_loop ..)).trans hb)).trans ?_
  have htag : ((s.entered loopFeedSpec.op c).modLoop l (Loop.forcedTo 2)).handoverTag l 100000 = s.handoverTag l 100000 := by
    obtain ⟨w, m, t, f, h⟩ := entered_frame s loopFeedSpec.op c
    rw [h]
    rfl
  have hloop : (((s.entered loopFeedSpec.op c).modLoop l (Loop.forcedTo 2)).loop l).b.reach = 0 := by
    rw [loop_modLoop_same, entered_loop]
    exact hb
  have hcount : (s.entered loopFeedSpec.op c).dirCount l = s.dirCount l := entered_dirCount ..
  have hmode' : ((s.entered loopFeedSpec.op c).modLoop l (Loop.forcedTo 2)).dirMode l = 2 := (entered_dirMode s loopFeedSpec.op c l).trans hmode
  rw [startHandover_b hmode' hloop, htag, hcount]
end

/-! ### The states of the partner link (Table 3-7, R233) -/

theorem foldl_emit_pairs (f : Nat × Nat → Tx) : ∀ (l : List (Nat × Nat)) (s : State), l.foldl (fun t k => t.emit (f k)) s = { s with sent := (l.map f).reverse ++ s.sent }
  | [], _ => rfl
  | k :: l, s => by rw [List.foldl_cons, foldl_emit_pairs f l]; simp [State.emit]

theorem sendPartnerAligns_eq (s : State) :
    s.sendPartnerAligns = { s with sent := (linkAligns s.mw.link).reverse ++ s.sent, mw := { s.mw with link := s.mw.link.aligned } } := by
  unfold State.sendPartnerAligns
  dsimp only
  rw [foldl_emit_pairs fun e => .lane (1160 + e.1) 5 e.2 s.mw.link.aseqTx (widthCode s.mw.link.width * 32 + 16 * b2n (!s.mw.link.trained))]
  rfl

theorem enterLink_linkIn (n reason : Nat) (s : State) : LinkIn n s (s.enterLink n reason) := by
  have hwidth := State.getP_setP_same (s.setP P.PT_STATE 0 n) P.PT_WIDTH 0 (if n = 5 then s.mw.link.width else 0)
  have hstate : ((s.setP P.PT_STATE 0 n).setP P.PT_WIDTH 0 (if n = 5 then s.mw.link.width else 0)).getP P.PT_STATE 0 = n :=
    ((State.getP_setP (s.setP P.PT_STATE 0 n) _ _ _ P.PT_STATE 0).trans (if_neg (by decide))).trans (State.getP_setP_same s P.PT_STATE 0 n)
  have hsame : SameParams [pkey P.PT_STATE 0, pkey P.PT_WIDTH 0] s ((s.setP P.PT_STATE 0 n).setP P.PT_WIDTH 0 (if n = 5 then s.mw.link.width else 0)) :=
    (sameParams_setP (i := P.PT_STATE) (e := 0) (by simp) n).trans (sameParams_setP (i := P.PT_WIDTH) (e := 0) (by simp) _)
  have hframe : ∃ p, (s.setP P.PT_STATE 0 n).setP P.PT_WIDTH 0 (if n = 5 then s.mw.link.width else 0) = { s with params := p } := ⟨_, rfl⟩
  unfold State.enterLink
  dsimp only
  generalize (s.setP P.PT_STATE 0 n).setP P.PT_WIDTH 0 (if n = 5 then s.mw.link.width else 0) = s1 at hwidth hstate hsame hframe ⊢
  obtain ⟨p, rfl⟩ := hframe
  obtain ⟨w, v, m, a, hpost, hrings⟩ := (eventsOnly_post { s with params := p } 0x5D 0x8 0 (n + at' 8 (if n = 5 then s.mw.link.width else 0) + at' 16 reason)).rings
  rw [hpost]
  obtain ⟨x, hset, hlanes⟩ := settleLanes_camera (l := (List.range 8).map (1160 + ·)) (fun k hk => by
    obtain ⟨i, -, rfl⟩ := List.mem_map.1 hk
    omega) { s with params := p, ctl := { s.ctl with wins := w, views := v, hostMem := m, aer := a } }
  rw [hset]
  have hkept : ∀ k, k < 1160 ∨ 1168 ≤ k → SMap.get laneDef x k = s.lane k := fun k hk => hlanes k fun hmem => by
    obtain ⟨i, hi, rfl⟩ := List.mem_map.1 hmem
    have := List.mem_range.1 hi
    omega
  by_cases ht : 1 ≤ n ∧ n ≤ 4
  · rw [if_pos ht, sendPartnerAligns_eq]
    unfold LinkIn
    rw [if_pos ht, if_pos ht]
    exact ⟨hstate, hwidth, hsame, hkept, rfl, ⟨_, _, _, _, rfl⟩, hrings⟩
  · rw [if_neg ht]
    unfold LinkIn
    rw [if_neg ht, if_neg ht]
    exact ⟨hstate, hwidth, hsame, hkept, rfl, ⟨_, _, _, _, rfl⟩, hrings⟩

end Sys2Proof.Machine
end

section
/-! PARTNER_CONFIG (O31; 07_midway.md). -/

namespace Sys2Proof.Machine

/-- The partner link as PARTNER_CONFIG 1 sets it. -/
abbrev PartnerLink.configured (role mask want : Nat) (x : PartnerLink) : PartnerLink := { x with enabled := true, role := role, mask := mask, want := want }

/-- The partner link as PARTNER_CONFIG 0 leaves it. -/
abbrev PartnerLink.disabled (x : PartnerLink) : PartnerLink := { x with enabled := false }

theorem partnerConfigBody_eq (q : Call) (s : State) : partnerConfigBody q s =
    if 2 < q.c.f 0 8 then (s, .err cBAD_PARAM)
    else if q.c.f 0 8 = 0 then ((if s.linkState = 0 then s else s.partnerGone 0 0).modLink PartnerLink.disabled, .ok)
    else if q.c.f 0 8 = 1 then
      (if 1 < q.c.f 8 8 ∨ !([1, 2, 4, 8].contains (popcount (q.c.f 16 8) 8)) then (s, .err cBAD_PARAM)
      else (((if s.linkState = 0 then s else s.partnerGone 0 0).modLink (PartnerLink.configured (q.c.f 8 8) (q.c.f 16 8) (q.c.f 32 64))).enterLink 1 0, .ok))
    else if !s.linkActive then (s, .err 0x43)
    else if s.fedPaired.isEmpty then (s, .ok) else (s.handOver s.fedPaired (some q.tk), .wait) := rfl

section
variable {q : Call} {s : State}

theorem partnerConfigBody_bad (h : 2 < q.c.f 0 8 ∨ q.c.f 0 8 = 1 ∧ (1 < q.c.f 8 8 ∨ popcount (q.c.f 16 8) 8 ∉ [1, 2, 4, 8])) :
    partnerConfigBody q s = (s, .err cBAD_PARAM) := by
  rw [partnerConfigBody_eq]
  rcases h with h | ⟨h1, h⟩
  · exact if_pos h
  · refine (if_neg (by omega)).trans ((if_neg (by omega)).trans ((if_pos h1).trans (if_pos (h.imp_right fun h => ?_))))
    simpa using h

theorem partnerConfigBody_disables (h : q.c.f 0 8 = 0) (h0 : s.linkState = 0) : partnerConfigBody q s = (s.modLink PartnerLink.disabled, .ok) := by
  rw [partnerConfigBody_eq]
  refine (if_neg (by omega)).trans ((if_pos h).trans ?_)
  rw [if_pos h0]

theorem partnerConfigBody_configures (h : q.c.f 0 8 = 1) (hr : q.c.f 8 8 ≤ 1) (hm : popcount (q.c.f 16 8) 8 ∈ [1, 2, 4, 8]) (h0 : s.linkState = 0) :
    partnerConfigBody q s = ((s.modLink (PartnerLink.configured (q.c.f 8 8) (q.c.f 16 8) (q.c.f 32 64))).enterLink 1 0, .ok) := by
  rw [partnerConfigBody_eq]
  refine (if_neg (by omega)).trans ((if_neg (by omega)).trans ((if_pos h).trans ((if_neg ?_).trans ?_)))
  · rintro (h | h)
    · omega
    · rw [List.contains_iff_mem.2 hm] at h
      exact Bool.false_ne_true h
  · rw [if_pos h0]

theorem partnerConfigBody_inactive (h : q.c.f 0 8 = 2) (ha : s.linkActive = false) : partnerConfigBody q s = (s, .err 0x43) := by
  rw [partnerConfigBody_eq]
  exact (if_neg (by omega)).trans ((if_neg (by omega)).trans ((if_neg (by omega)).trans (if_pos (by rw [ha]; rfl))))

theorem partnerConfigBody_idle (h : q.c.f 0 8 = 2) (ha : s.linkActive = true) (hf : s.fedPaired = []) : partnerConfigBody q s = (s, .ok) := by
  rw [partnerConfigBody_eq]
  exact (if_neg (by omega)).trans ((if_neg (by omega)).trans ((if_neg (by omega)).trans ((if_neg (by rw [ha]; simp)).trans (if_pos (by rw [hf]; rfl)))))
end

theorem entered_fedPaired (s : State) (op : Nat) (c : Cmd) : (s.entered op c).fedPaired = s.fedPaired := by
  obtain ⟨w, m, t, f, h⟩ := entered_frame s op c
  rw [h]
  rfl

/-- The state after PARTNER_CONFIG 1, given what training leaves. -/
abbrev State.linked (link : PartnerLink) (p : SMap Nat) (x : SMap Lane) (o : List Tx) (s : State) : State :=
  { s with params := p, mw := { s.mw with link := link }, ln := { s.ln with lanes := x }, sent := o }

section
variable {c : Cmd} {s : State} (ha : s.accepts true 0x0041 c) (ho : c.operands 12 0xFF000000)
include ha ho

theorem partnerConfig_answers {code : Nat} (hc : code < 256)
    (h : partnerConfigBody { c := c, tk := s.newTicket, priv := s.privOf c } (s.entered 0x0041 c) = (s.entered 0x0041 c, .done code 0 0)) :
    ∃ t, exec (.partnerConfig c) s = .next t ∧ Answered 0x0041 c code 0 0 t ∧ CommandOnly c s t :=
  completes_reading (i := .partnerConfig c) (spec := partnerConfigSpec) (body := partnerConfigBody) ha.1.1 ha (by simp [partnerConfigSpec, ho.1])
    (by rw [ho.1]; exact ho.2) (fun _ => rfl) hc h

theorem partnerConfig_disables (h : c.f 0 8 = 0) (h0 : s.linkState = 0) :
    ∃ t, exec (.partnerConfig c) s = .next t ∧ Answered 0x0041 c 0 0 0 t ∧ CommandOnly c (s.modLink PartnerLink.disabled) t := by
  have hbody := partnerConfigBody_disables (q := { c := c, tk := s.newTicket, priv := s.privOf c }) (s := s.entered 0x0041 c) h ((State.entered_getP ..).trans h0)
  refine Runs.completes (i := .partnerConfig c) (spec := partnerConfigSpec) (body := partnerConfigBody) ha.1.1 ha (by simp [partnerConfigSpec, ho.1])
    (by rw [ho.1]; exact ho.2) (fun _ => rfl) (congrArg Prod.snd hbody) (by decide) ?_ rfl
  rw [show (partnerConfigBody { c := c, tk := s.newTicket, priv := s.privOf c } (s.entered partnerConfigSpec.op c)).1 = _ from congrArg Prod.fst hbody]
  exact runs_of_comm (fun z => z.modLink PartnerLink.disabled) (fun _ _ _ _ => rfl) rfl rfl rfl rfl

theorem partnerConfig_configures (h : c.f 0 8 = 1) (hr : c.f 8 8 ≤ 1) (hm : popcount (c.f 16 8) 8 ∈ [1, 2, 4, 8]) (h0 : s.linkState = 0) :
    ∃ t, exec (.partnerConfig c) s = .next t ∧ Answered 0x0041 c 0 0 0 t
        ∧ t.linkState = 1 ∧ t.getP P.PT_WIDTH 0 = 0 ∧ SameParams [pkey P.PT_STATE 0, pkey P.PT_WIDTH 0] s t
        ∧ t.mw.link = { s.mw.link with enabled := true, role := c.f 8 8, mask := c.f 16 8, want := c.f 32 64, aseqTx := (s.mw.link.aseqTx + 1) % 256 }
        ∧ t.sent = (linkAligns { t.mw.link with aseqTx := s.mw.link.aseqTx }).reverse ++ s.sent ∧ (∀ k, k < 1160 ∨ 1168 ≤ k → t.lane k = s.lane k)
        ∧ CommandEvents c { s with params := t.params, mw := { s.mw with link := t.mw.link }, ln := { s.ln with lanes := t.ln.lanes }, sent := t.sent } t := by
  have hbody := partnerConfigBody_configures (q := { c := c, tk := s.newTicket, priv := s.privOf c }) (s := s.entered 0x0041 c) h hr hm ((State.entered_getP ..).trans h0)
  obtain ⟨hstate, hwidth, hsame, hlanes, hsent, hev⟩ := enterLink_linkIn 1 0 ((s.entered 0x0041 c).modLink (PartnerLink.configured (c.f 8 8) (c.f 16 8) (c.f 32 64)))
  rw [if_pos (by decide)] at hsent hev
  have hlink : (s.entered 0x0041 c).mw = s.mw := by
    obtain ⟨w, m, k, f, hent⟩ := entered_frame s 0x0041 c
    rw [hent]
  have hsent0 : (s.entered 0x0041 c).sent = s.sent := by
    obtain ⟨w, m, k, f, hent⟩ := entered_frame s 0x0041 c
    rw [hent]
  have hlane0 : ∀ k, (s.entered 0x0041 c).lane k = s.lane k := fun k => by
    obtain ⟨w, m, k, f, hent⟩ := entered_frame s 0x0041 c
    rw [hent]
    rfl
  have hparams : (s.entered 0x0041 c).params = s.params := s.entered_params _ _
  have hnew : ((s.entered 0x0041 c).modLink (PartnerLink.configured (c.f 8 8) (c.f 16 8) (c.f 32 64))).mw.link
      = PartnerLink.configured (c.f 8 8) (c.f 16 8) (c.f 32 64) s.mw.link := congrArg (fun y : Midway => PartnerLink.configured (c.f 8 8) (c.f 16 8) (c.f 32 64) y.link) hlink
  rw [hnew] at hsent hev
  generalize ((s.entered 0x0041 c).modLink (PartnerLink.configured (c.f 8 8) (c.f 16 8) (c.f 32 64))).enterLink 1 0 = u at hstate hwidth hsame hlanes hsent hev hbody
  generalize hL : PartnerLink.configured (c.f 8 8) (c.f 16 8) (c.f 32 64) s.mw.link = L at hsent hev
  have hrun : RunsEvents s 0x0041 c (s.linked L.aligned u.params u.ln.lanes u.sent) u :=
    ⟨(s.entered 0x0041 c).linked L.aligned u.params u.ln.lanes u.sent,
      runs_of_comm (fun z => z.linked L.aligned u.params u.ln.lanes u.sent) (fun _ _ _ _ => rfl) rfl rfl rfl rfl, hev⟩
  obtain ⟨t, hexec, hans, hevents, rfl⟩ := hrun.completes (i := .partnerConfig c) (spec := partnerConfigSpec) (body := partnerConfigBody) ha.1.1 ha
    (by simp [partnerConfigSpec, ho.1]) (by rw [ho.1]; exact ho.2) (fun _ => rfl) hbody (by decide) rfl
  have hmw : u.mw.link = L.aligned := by
    obtain ⟨w, v, m, a, hu, -⟩ := hev.rings
    rw [hu]
  refine ⟨_, hexec, hans, (State.finalReply_getP ..).trans hstate, (State.finalReply_getP ..).trans hwidth, ?_, ?_, ?_, ?_, ?_⟩
  · intro k hk
    rw [State.finalReply_params, hsame k hk]
    exact congrArg (fun m => SMap.get pdef m k) hparams
  · rw [State.finalReply_mw, hmw, ← hL]
  · rw [State.finalReply_sent, State.finalReply_mw, hmw, hsent, ← hL]
    exact congrArg (_ ++ ·) hsent0
  · intro k hk
    rw [State.lane, State.finalReply_ln, ← State.lane, hlanes k hk]
    exact hlane0 k
  · rw [State.finalReply_params, State.finalReply_mw, State.finalReply_ln, State.finalReply_sent, hmw]
    exact hevents
end

end Sys2Proof.Machine

open Sys2Proof Sys2Proof.Machine in
/-- Settles O31, opcode by opcode: a command reads of its loop what stands before it, and waits with its packet sent or completes at once. -/
theorem midwayAndPartnerCommands : Obligations.MidwayAndPartnerCommands := by
  unfold Obligations.MidwayAndPartnerCommands
  refine ⟨fun c l s ha ho hf hl h0 h1 hrun => loopDiscover_sends ha ho hf hl h0 h1 hrun, fun c s ha ho hl h0 h1 => loopDiscover_answers ha ho hl h0 h1,
    fun c s ha ho h => loopDiscover_badParam ha ho h, fun c l h e tag s hl' hh hl h1 h32 hq he htag => ⟨fun ha ho => tileCfgWrite_sends ha ho hl' hh hl h1 h32 hq he htag,
      fun ha ho => tileCfgRead_sends ha ho hl' hh hl h1 h32 hq he htag⟩,
    fun c s hl h1 h32 hno => ⟨fun ha ho => tileCfgWrite_fails ha ho (by decide) (cfgBody_absent hl h1 h32 hno),
      fun ha ho => tileCfgRead_fails ha ho (by decide) (cfgBody_absent hl h1 h32 hno)⟩,
    fun c s hbad => ⟨fun ha ho => tileCfgWrite_fails ha ho (by decide) (cfgBody_badParam hbad), fun ha ho => tileCfgRead_fails ha ho (by decide) (cfgBody_badParam hbad),
      fun ha ho => tileStatusRead_badParam ha ho hbad⟩, ?_, ?_, ?_⟩
  · intro c l h n s ha ho hl' hh hn hl h1 hn1 hn12 hfit hok
    obtain ⟨t, hexec, hans, honly⟩ := tileStatusRead_reads ha ho hl' hh hn hl h1 hn1 hn12 hfit
    refine ⟨t, _, hexec, hans, honly, fun i hi => ?_⟩
    have hrec : ∀ j, j < n → s.tileRecord l (h + j) < 2 ^ 160 := fun j hj => (tileRecord_fields (by omega) (hok j hj).1 (hok j hj).2).1
    have hget := packedRecords_get hrec hi
    obtain ⟨-, hhop, hst, hbytes⟩ := tileRecord_fields (l := l) (h := h + i) (by omega) (hok i hi).1 (hok i hi).2
    refine ⟨?_, (div_mod_of_record hget (by decide)).trans hst, (div_mod_of_record hget (by decide)).trans hbytes⟩
    exact (div_mod_of_record (a := 0) (b := 8) hget (by decide)).trans (by rw [Nat.pow_zero, Nat.div_one]; exact hhop)
  · intro c l m s ha ho hl' hm'
    have hloop := entered_loop s 0x0405 c l
    have hmode := entered_dirMode s 0x0405 c l
    have hcount := entered_dirCount s 0x0405 c l
    have hreach := entered_reachesAll s 0x0405 c l
    refine ⟨fun h => loopFeed_fails ha ho (by decide) (loopFeedBody_bad hl'.symm hm'.symm h),
      fun hl hm h => loopFeed_fails ha ho (by decide) (loopFeedBody_busy hl'.symm hm'.symm hl hm (by rw [hloop]; exact h)),
      fun hl hm h hr => loopFeed_fails ha ho (by decide) (loopFeedBody_unable hl'.symm hm'.symm hl (by rw [hloop]; exact h) hm (by rw [hreach]; exact hr)),
      fun hl hm h hmd hr h0 h1 => loopFeed_forces ha ho (loopFeedBody_already hl'.symm hm'.symm hl (by rw [hloop]; exact h) hm (by rw [hmode]; exact hmd)
        (by rw [hreach]; exact hr) (by rw [hloop, hcount]; exact h0) (by rw [hloop]; exact h1)),
      fun hl hm h hr => loopFeed_forces ha ho (loopFeedBody_automatic hl'.symm hm'.symm hl (by rw [hloop]; exact h) hm (by rw [hreach]; exact hr)),
      fun hl hm h hmd hr hb => loopFeed_hands ha ho hl' hl (hm'.symm.trans hm) h hmd hr hb⟩
  · intro c s ha ho
    refine ⟨fun h => partnerConfig_answers ha ho (by decide) (partnerConfigBody_bad h), fun h h0 => partnerConfig_disables ha ho h h0,
      fun h hr hm h0 => partnerConfig_configures ha ho h hr hm h0,
      fun h hact => partnerConfig_answers ha ho (by decide) (partnerConfigBody_inactive h (by rw [State.linkActive, State.entered_getP]; exact hact)),
      fun h hact hf => partnerConfig_answers ha ho (by decide) (partnerConfigBody_idle h (by rw [State.linkActive, State.entered_getP]; exact hact)
        ((entered_fedPaired ..).trans hf))⟩
end

section
/-! Midway: the functions that leave every loop's record as it is, and discovery on a whole loop (O56; 07_midway.md). -/

namespace Sys2Proof.Machine

/-! ### What leaves the loops and the directory as they are -/

/-- Every loop's record and every table is the same. -/
def SameLoops (s t : State) : Prop := t.mw.loops = s.mw.loops ∧ t.ctl.tables = s.ctl.tables

theorem SameLoops.refl (s : State) : SameLoops s s := ⟨rfl, rfl⟩

theorem SameLoops.trans {s t u : State} (h : SameLoops s t) (g : SameLoops t u) : SameLoops s u := ⟨g.1.trans h.1, g.2.trans h.2⟩

theorem SameLoops.loop {s t : State} (h : SameLoops s t) (l : Nat) : t.loop l = s.loop l := by rw [State.loop, h.1, ← State.loop]

theorem SameLoops.dirMode {s t : State} (h : SameLoops s t) (l : Nat) : t.dirMode l = s.dirMode l := dirMode_congr h.2 l

theorem SameLoops.dirCount {s t : State} (h : SameLoops s t) (l : Nat) : t.dirCount l = s.dirCount l := dirCount_congr h.2 l

theorem SameLoops.foldl {α : Type} {f : State → α → State} (h : ∀ t a, SameLoops t (f t a)) : ∀ (l : List α) (s : State), SameLoops s (l.foldl f s)
  | [], s => SameLoops.refl s
  | a :: l, s => (h s a).trans (SameLoops.foldl h l (f s a))

theorem LoopReported.sameLoops {l : Nat} {s t : State} (h : LoopReported l s t) : SameLoops s t := ⟨h.2.1, h.1.tables⟩

theorem EventsOnly.sameLoops {s t : State} (h : EventsOnly s t) : SameLoops s t := (h.loopReported 0).sameLoops

theorem sameLoops_post (s : State) (a b c d : Nat) : SameLoops s (s.post a b c d) := (eventsOnly_post s a b c d).sameLoops

theorem sameLoops_partnerDeparts (p : PartnerId) (s : State) : SameLoops s (s.partnerDeparts p) := by
  obtain ⟨x, hx⟩ := partnerDeparts_events p s
  exact SameLoops.trans ⟨rfl, rfl⟩ hx.sameLoops

theorem sameLoops_raiseService (c : ServiceCond) (s : State) : SameLoops s (s.raiseService c) := by
  obtain ⟨x, hx, -⟩ := raiseService_events c s
  exact SameLoops.trans ⟨rfl, rfl⟩ hx.sameLoops

theorem sameLoops_clearService (c : ServiceCond) (s : State) : SameLoops s (s.clearService c) := by
  obtain ⟨x, hx⟩ := clearService_events c s
  exact SameLoops.trans ⟨rfl, rfl⟩ hx.sameLoops

theorem sameLoops_settleLane (k : Nat) (s : State) : SameLoops s (s.settleLane k) := by
  obtain ⟨f, hf | hf⟩ := settleLane_modLane k s <;> rw [hf] <;> exact ⟨rfl, rfl⟩

theorem sameLoops_reachReport (l : Nat) (s : State) : SameLoops s (s.reachReport l) := (loopReported_reach l s).sameLoops

theorem sameLoops_evalLoop {l : Nat} {s : State} (h : s.dirMode l ≠ 3) (reason : Nat) : SameLoops s (s.evalLoop l reason) := (evalLoop_effect h reason).1.sameLoops

theorem sameLoops_setReachable (l hop e : Nat) (v : Bool) (s : State) : SameLoops s (s.setReachable l hop e v) := by
  have hreach : SameLoops s (s.modTile l hop (Tile.reaching e v)) := ⟨rfl, rfl⟩
  rw [setReachable_eq]
  split
  · exact hreach.trans ((sameLoops_partnerDeparts _ _).trans ⟨rfl, rfl⟩)
  · split
    · exact hreach.trans ⟨rfl, rfl⟩
    · exact hreach

theorem sameLoops_abandonFrames (l : Nat) (p : Nat → Bool) (s : State) : SameLoops s (s.abandonFrames l p) := by
  rw [abandonFrames_eq]
  refine SameLoops.foldl (fun t i => ?_) _ _
  unfold State.abandonStep
  split
  · exact SameLoops.refl t
  · split
    · split <;> exact ⟨rfl, rfl⟩
    · exact SameLoops.refl t

theorem sameLoops_cutReach (l e reach : Nat) (intact : Bool) (s : State) : SameLoops s (s.cutReach l e reach intact) := by
  refine SameLoops.foldl (fun t i => ?_) _ _
  dsimp only
  split
  · split
    · exact sameLoops_setReachable _ _ _ _ _
    · exact SameLoops.refl t
  · refine SameLoops.trans ?_ (sameLoops_setReachable _ _ _ _ _)
    split
    · exact sameLoops_setReachable _ _ _ _ _
    · exact SameLoops.refl t

theorem sameLoops_feedChange {l : Nat} {s : State} (h : s.dirMode l ≠ 3) (kind : Nat) : SameLoops s (s.feedChange l kind) := by
  have hpost := (sameLoops_reachReport l s).trans (sameLoops_post (s.reachReport l) 0x59 0x7 l (kind + at' 8 (s.loop l).a.reach + at' 16 (s.loop l).b.reach + at' 24 (s.nextTag l)))
  unfold State.feedChange
  dsimp only
  generalize (s.reachReport l).post 0x59 0x7 l (kind + at' 8 (s.loop l).a.reach + at' 16 (s.loop l).b.reach + at' 24 (s.nextTag l)) = s1 at hpost ⊢
  have hcount : SameLoops s (if kind = 0 ∨ kind = 3 then s1.bumpSat (mwLoop l P.MW_FAILOVERS) (l % 32) 1 else s1) := by
    split
    · exact hpost.trans ⟨rfl, rfl⟩
    · exact hpost
  rw [noteLoop_local (by rw [hcount.dirMode]; exact h)]
  exact hcount

theorem breakTrapeze_none {l : Nat} {s : State} (h : (s.loop l).trap = 0) : s.breakTrapeze l = s := if_pos h

/-! ### Discovery on a whole loop -/

/-- A loop whose ends may have been asked for their tiles. -/
def Loop.Asked (x y : Loop) : Prop :=
  ∃ i r w j q v, y = { x with a := { x.a with discId := i, running := r, answers := w }, b := { x.b with discId := j, running := q, answers := v } }

theorem Loop.Asked.refl (x : Loop) : Loop.Asked x x := ⟨_, _, _, _, _, _, rfl⟩

theorem Loop.Asked.trans {x y z : Loop} (h : Loop.Asked x y) (g : Loop.Asked y z) : Loop.Asked x z := by
  obtain ⟨_, _, _, _, _, _, rfl⟩ := h
  obtain ⟨_, _, _, _, _, _, rfl⟩ := g
  exact ⟨_, _, _, _, _, _, rfl⟩

theorem asked_asking (e id : Nat) (x : Loop) : Loop.Asked x (x.withSide e (LoopEnd.asking id)) := by
  unfold Loop.withSide
  split <;> exact ⟨_, _, _, _, _, _, rfl⟩

/-- What `discoverLoop` does for end `e`. -/
def State.discoverEnd (l : Nat) (s : State) (e : Nat) : State := if s.feedingEnd l e then s.sendDiscoverFrom l e else s

theorem discoverLoop_eq (l : Nat) (s : State) : s.discoverLoop l = (s.discoverEnd l 0).discoverEnd l 1 := rfl

theorem discoverEnd_pending {l e : Nat} {s : State} (h : ((s.loop l).side e).running = false) : (s.discoverEnd l e).pending = s.pending := by
  unfold State.discoverEnd
  split
  · rw [sendDiscoverFrom_idle h rfl]
    rfl
  · rfl

theorem discoverEnd_tables {l e : Nat} {s : State} (h : ((s.loop l).side e).running = false) : (s.discoverEnd l e).ctl.tables = s.ctl.tables := by
  unfold State.discoverEnd
  split
  · rw [sendDiscoverFrom_idle h rfl]
    rfl
  · rfl

theorem discoverEnd_loop {l e : Nat} {s : State} (h : ((s.loop l).side e).running = false) : (s.discoverEnd l e).loop l
    = if s.feedingEnd l e then (s.loop l).withSide e (LoopEnd.asking ((((s.loop l).side e).discId + 1) % 65536)) else s.loop l := by
  unfold State.discoverEnd
  split
  · rw [sendDiscoverFrom_idle h rfl]
    exact loop_modLoop_same l _ s
  · rfl

theorem discoverEnd_asked {l e : Nat} {s : State} (h : ((s.loop l).side e).running = false) : Loop.Asked (s.loop l) ((s.discoverEnd l e).loop l) := by
  rw [discoverEnd_loop h]
  split
  · exact asked_asking _ _ _
  · exact Loop.Asked.refl _

theorem discoverEnd_b {l : Nat} {s : State} (h : (s.loop l).a.running = false) : ((s.discoverEnd l 0).loop l).b = (s.loop l).b := by
  rw [discoverEnd_loop (e := 0) h]
  split <;> rfl

section
variable {l : Nat} {s : State} (ha : (s.loop l).a.running = false) (hb : (s.loop l).b.running = false)
include ha hb

theorem discoverLoop_asked : Loop.Asked (s.loop l) ((s.discoverLoop l).loop l) := by
  rw [discoverLoop_eq]
  exact (discoverEnd_asked (e := 0) ha).trans (discoverEnd_asked (e := 1) ((congrArg LoopEnd.running (discoverEnd_b ha)).trans hb))

theorem discoverLoop_pending : (s.discoverLoop l).pending = s.pending := by
  rw [discoverLoop_eq]
  exact (discoverEnd_pending (e := 1) ((congrArg LoopEnd.running (discoverEnd_b ha)).trans hb)).trans (discoverEnd_pending (e := 0) ha)
end

end Sys2Proof.Machine
end

section
/-! Midway: alarms, the feed watchdog, failover, handovers and port training (O56; 07_midway.md). -/

namespace Sys2Proof.Machine

/-! ### TILE_ALARM_RECEIVED -/

/-- A loop whose last ALARM came with these HOPS. -/
abbrev Loop.alarmed (hops : Nat) (y : Loop) : Loop := { y with alarm := hops }

/-- An end that has acted on an ALARM. -/
abbrev LoopEnd.heeding (kind hops : Nat) (y : LoopEnd) : LoopEnd := { y with heard := some (kind, hops) }

theorem tileAlarmReceived_exec (port d1 d2 d3 t : Nat) (s : State) : exec (.tileAlarmReceived port d1 d2 d3 t) s = guarded (.tileAlarmReceived port d1 d2 d3 t) s
    (match (s.atLeast t).portEnd port with
    | none => s.atLeast t
    | some e =>
      if (d1 ^^^ d2) + d3 ≠ 255 ∨ (s.atLeast t).hears port = false then s.atLeast t
      else if d1 / 16 = 1 then ((s.atLeast t).bumpSat (mwLoop (port / 2) P.MW_ALARMS) (port / 2 % 32) 1).postAlarm (port / 2)
        (((s.atLeast t).bumpSat (mwLoop (port / 2) P.MW_ALARMS) (port / 2 % 32) 1).hopOfDist (port / 2) e d2) 1
      else if d1 / 16 = 0 ∨ d1 / 16 = 2 then
        (if ((((s.atLeast t).bumpSat (mwLoop (port / 2) P.MW_ALARMS) (port / 2 % 32) 1).loop (port / 2)).side e).heard = some (d1 / 16, d2) then
          (s.atLeast t).bumpSat (mwLoop (port / 2) P.MW_ALARMS) (port / 2 % 32) 1
        else (((((s.atLeast t).bumpSat (mwLoop (port / 2) P.MW_ALARMS) (port / 2 % 32) 1).modLoop (port / 2) (Loop.alarmed d2)).modEnd (port / 2) e
            (LoopEnd.heeding (d1 / 16) d2)).postAlarm (port / 2) (((s.atLeast t).bumpSat (mwLoop (port / 2) P.MW_ALARMS) (port / 2 % 32) 1).hopOfDist (port / 2) e d2)
            (d1 / 16)).alarmFeed (port / 2) e (if d1 / 16 = 0 then d2 + 1 else d2))
      else (s.atLeast t).bumpSat (mwLoop (port / 2) P.MW_ALARMS) (port / 2 % 32) 1) := rfl

/-- An end that an ALARM has narrowed to `r` tiles. -/
abbrev LoopEnd.narrowed (n r was : Nat) (y : LoopEnd) : LoopEnd :=
  { y with found := min r n, done := true, reach := if was = 0 then 0 else min was r, starting := y.starting || was == 0 }

/-- A loop that is known broken. -/
abbrev Loop.broken (y : Loop) : Loop := { y with intact := false }

theorem alarmFeed_eq (l e r : Nat) (s : State) : ∃ p, s.alarmFeed l e r
    = ((((((((s.abandonFrames l p).modEnd l e (LoopEnd.narrowed (s.dirCount l) r ((s.loop l).side e).reach)).modLoop l Loop.broken).startOther l e (min r (s.dirCount l))
        (s.loop l).intact).breakTrapeze l).reachReport l).evalLoop l 1).cutReach l e r (s.loop l).intact) := ⟨_, rfl⟩

theorem alarmFeed_pending (l e r : Nat) (s : State) : (s.alarmFeed l e r).pending = s.pending := by
  obtain ⟨p, hp⟩ := alarmFeed_eq l e r s
  rw [hp]
  simp

theorem startOther_a {l r : Nat} {intact : Bool} {s : State} : ((s.startOther l 0 r intact).loop l).a = (s.loop l).a ∧ ((s.startOther l 0 r intact).loop l).trap = (s.loop l).trap
    ∧ (s.startOther l 0 r intact).ctl.tables = s.ctl.tables := by
  have hb (u : State) (f : LoopEnd → LoopEnd) : ((u.modEnd l 1 f).loop l).a = (u.loop l).a ∧ ((u.modEnd l 1 f).loop l).trap = (u.loop l).trap := by
    rw [State.modEnd, loop_modLoop_same]
    exact ⟨rfl, rfl⟩
  unfold State.startOther
  dsimp only
  split <;> split
  · exact ⟨(hb _ _).1.trans (hb _ _).1, (hb _ _).2.trans (hb _ _).2, rfl⟩
  · exact ⟨(hb _ _).1, (hb _ _).2, rfl⟩
  · exact ⟨(hb _ _).1, (hb _ _).2, rfl⟩
  · exact ⟨rfl, rfl, rfl⟩

/-- An ALARM at the A end of a closed local loop narrows what it feeds. -/
theorem alarmFeed_narrows {l r n : Nat} {s : State} (hm : s.dirMode l = 2) (hn : s.dirCount l = n) (htrap : (s.loop l).trap = 0) (hr1 : 1 ≤ r) (hrn : r < n)
    (hreach : (s.loop l).a.reach = n) : ((s.alarmFeed l 0 r).loop l).a.found = r ∧ ((s.alarmFeed l 0 r).loop l).a.reach = r := by
  obtain ⟨p, hp⟩ := alarmFeed_eq l 0 r s
  rw [hp, hn]
  have h1 := sameLoops_abandonFrames l p s
  generalize s.abandonFrames l p = s1 at h1 ⊢
  have h2 := loop_modLoop_same l (Loop.withSide 0 (LoopEnd.narrowed n r ((s.loop l).side 0).reach)) s1
  have h2t : (s1.modEnd l 0 (LoopEnd.narrowed n r ((s.loop l).side 0).reach)).ctl.tables = s.ctl.tables := h1.2
  rw [h1.loop] at h2
  change (s1.modEnd l 0 (LoopEnd.narrowed n r ((s.loop l).side 0).reach)).loop l = _ at h2
  generalize s1.modEnd l 0 (LoopEnd.narrowed n r ((s.loop l).side 0).reach) = s2 at h2 h2t ⊢
  have h3 := loop_modLoop_same l Loop.broken s2
  have h3t : (s2.modLoop l Loop.broken).ctl.tables = s.ctl.tables := h2t
  rw [h2] at h3
  generalize s2.modLoop l Loop.broken = s3 at h3 h3t ⊢
  obtain ⟨h4a, h4trap, h4t⟩ := startOther_a (l := l) (r := min r n) (intact := (s.loop l).intact) (s := s3)
  generalize s3.startOther l 0 (min r n) (s.loop l).intact = s4 at h4a h4trap h4t ⊢
  rw [breakTrapeze_none (h4trap.trans (by rw [h3]; exact htrap))]
  have h5 := sameLoops_reachReport l s4
  have h6 := h5.trans (sameLoops_evalLoop (l := l) (by rw [h5.dirMode, dirMode_congr (h4t.trans h3t), hm]; decide) 1)
  have h7 := h6.trans (sameLoops_cutReach l 0 r (s.loop l).intact _)
  rw [h7.loop, h4a, h3]
  have hside : ((s.loop l).side 0).reach = n := hreach
  refine ⟨Nat.min_eq_left (Nat.le_of_lt hrn), ?_⟩
  change (if ((s.loop l).side 0).reach = 0 then 0 else min ((s.loop l).side 0).reach r) = r
  rw [hside, if_neg (by omega)]
  exact Nat.min_eq_right (Nat.le_of_lt hrn)

theorem tileAlarmReceived_narrows {p d1 d2 d3 t r : Nat} {s : State} (hp : p < 1024) (h1 : d1 < 256) (h2 : d2 < 256) (hsum : (d1 ^^^ d2) + d3 = 255)
    (he : s.portEnd p = some 0) (hh : s.hears p = true) (hm : s.dirMode (p / 2) = 2) (hnew : (s.loop (p / 2)).a.heard ≠ some (d1 / 16, d2))
    (hkind : d1 / 16 = 0 ∧ r = d2 + 1 ∨ d1 / 16 = 2 ∧ r = d2) (hr1 : 1 ≤ r) (hrn : r < s.dirCount (p / 2)) (htrap : (s.loop (p / 2)).trap = 0)
    (hreach : (s.loop (p / 2)).a.reach = s.dirCount (p / 2)) :
    ∃ u, exec (.tileAlarmReceived p d1 d2 d3 t) s = .next u ∧ (u.loop (p / 2)).a.found = r ∧ (u.loop (p / 2)).a.reach = r := by
  have hwf : (Instr.tileAlarmReceived p d1 d2 d3 t).wellFormed = true := by
    simp only [Instr.wellFormed, Bool.and_eq_true, decide_eq_true_eq]
    omega
  have hx := tileAlarmReceived_exec p d1 d2 d3 t s
  have he' : (s.atLeast t).portEnd p = some 0 := he
  have hh' : (s.atLeast t).hears p = true := hh
  have hmode : ((s.atLeast t).bumpSat (mwLoop (p / 2) P.MW_ALARMS) (p / 2 % 32) 1).dirMode (p / 2) = 2 := hm
  have hcount : ((s.atLeast t).bumpSat (mwLoop (p / 2) P.MW_ALARMS) (p / 2 % 32) 1).dirCount (p / 2) = s.dirCount (p / 2) := rfl
  have hloop : ((s.atLeast t).bumpSat (mwLoop (p / 2) P.MW_ALARMS) (p / 2 % 32) 1).loop (p / 2) = s.loop (p / 2) := rfl
  have hpend : ((s.atLeast t).bumpSat (mwLoop (p / 2) P.MW_ALARMS) (p / 2 % 32) 1).pending = s.pending := rfl
  rw [he', hh'] at hx
  dsimp only at hx
  rw [if_neg (by simp [hsum])] at hx
  generalize (s.atLeast t).bumpSat (mwLoop (p / 2) P.MW_ALARMS) (p / 2 % 32) 1 = s1 at hx hmode hcount hloop hpend
  have hgo : (if d1 / 16 = 0 then d2 + 1 else d2) = r := by
    rcases hkind with ⟨h0, hr⟩ | ⟨h0, hr⟩
    · rw [if_pos h0, hr]
    · rw [if_neg (by omega), hr]
  rw [if_neg (by omega), if_pos (by omega), if_neg (by rw [hloop]; exact hnew), hgo] at hx
  have h2 := (loop_modLoop_same (p / 2) (Loop.withSide 0 (LoopEnd.heeding (d1 / 16) d2)) (s1.modLoop (p / 2) (Loop.alarmed d2))).trans
    (congrArg (Loop.withSide 0 (LoopEnd.heeding (d1 / 16) d2)) ((loop_modLoop_same (p / 2) (Loop.alarmed d2) s1).trans (congrArg (Loop.alarmed d2) hloop)))
  change ((s1.modLoop (p / 2) (Loop.alarmed d2)).modEnd (p / 2) 0 (LoopEnd.heeding (d1 / 16) d2)).loop (p / 2) = _ at h2
  have h2t : ((s1.modLoop (p / 2) (Loop.alarmed d2)).modEnd (p / 2) 0 (LoopEnd.heeding (d1 / 16) d2)).ctl.tables = s1.ctl.tables := rfl
  have h2p : ((s1.modLoop (p / 2) (Loop.alarmed d2)).modEnd (p / 2) 0 (LoopEnd.heeding (d1 / 16) d2)).pending = s1.pending := rfl
  generalize (s1.modLoop (p / 2) (Loop.alarmed d2)).modEnd (p / 2) 0 (LoopEnd.heeding (d1 / 16) d2) = s2 at hx h2 h2t h2p
  have h3 : SameLoops s2 (s2.postAlarm (p / 2) (s1.hopOfDist (p / 2) 0 d2) (d1 / 16)) := sameLoops_post _ _ _ _ _
  have h3p : (s2.postAlarm (p / 2) (s1.hopOfDist (p / 2) 0 d2) (d1 / 16)).pending = s2.pending := State.post_pending _ _ _ _ _
  generalize s2.postAlarm (p / 2) (s1.hopOfDist (p / 2) 0 d2) (d1 / 16) = s3 at hx h3 h3p
  have h3l := (h3.loop (p / 2)).trans h2
  refine ⟨_, exec_next hx hwf rfl ?_, alarmFeed_narrows ((h3.dirMode _).trans ((dirMode_congr h2t _).trans hmode)) ((h3.dirCount _).trans ((dirCount_congr h2t _).trans hcount))
    (by rw [h3l]; exact htrap) hr1 hrn (by rw [h3l]; exact hreach)⟩
  rw [alarmFeed_pending, h3p, h2p, hpend]

/-! ### FEED_WATCHDOG -/

/-- An end that is being started. -/
abbrev LoopEnd.started (y : LoopEnd) : LoopEnd := { y with starting := true }

theorem feedWatchdog_exec (l e : Nat) (s : State) : exec (.feedWatchdog l e) s = guarded (.feedWatchdog l e) s
    (if !s.ownsEnd l e ∨ ((s.loop l).side e).reach ≠ 0 ∨ s.powerState = 2 then s
    else if ((s.loop l).side e).trained then (((s.modLoop l Loop.broken).modEnd l e LoopEnd.started).breakTrapeze l).sendDiscoverFrom l e
    else ((s.modLoop l Loop.broken).modEnd l e LoopEnd.started).breakTrapeze l) := rfl

theorem feedWatchdog_starts {l e : Nat} {s : State} (hl : l < 512) (he : e < 2) (hown : s.ownsEnd l e = true) (hr : ((s.loop l).side e).reach = 0) (hpw : s.powerState ≠ 2)
    (ht : ((s.loop l).side e).trained = true) (hrun : ((s.loop l).side e).running = false) (htrap : (s.loop l).trap = 0) :
    ∃ t, exec (.feedWatchdog l e) s = .next t ∧ ((t.loop l).side e).starting = true := by
  have hx := feedWatchdog_exec l e s
  have h1 := (loop_modLoop_same l (Loop.withSide e LoopEnd.started) (s.modLoop l Loop.broken)).trans
    (congrArg (Loop.withSide e LoopEnd.started) (loop_modLoop_same l Loop.broken s))
  change ((s.modLoop l Loop.broken).modEnd l e LoopEnd.started).loop l = _ at h1
  have hp : ((s.modLoop l Loop.broken).modEnd l e LoopEnd.started).pending = s.pending := rfl
  rw [if_neg (by simp [hown, hr, hpw]), if_pos ht] at hx
  generalize (s.modLoop l Loop.broken).modEnd l e LoopEnd.started = s1 at h1 hp hx
  have hside : (s1.loop l).side e = LoopEnd.started ((s.loop l).side e) := by
    rw [h1, side_withSide]
    rfl
  have htrap1 : (s1.loop l).trap = 0 := by
    rw [h1]
    unfold Loop.withSide
    split <;> exact htrap
  rw [breakTrapeze_none htrap1, sendDiscoverFrom_idle (by rw [hside]; exact hrun) rfl] at hx
  refine ⟨_, exec_next hx (by simp [Instr.wellFormed, hl, he]) rfl hp, ?_⟩
  exact (congrArg LoopEnd.starting (side_modEnd l e _ s1)).trans (by rw [hside])

/-! ### FAILOVER_TRAINED -/

/-- An end that feeds `r` tiles from now on. -/
abbrev LoopEnd.feeding (r : Nat) (y : LoopEnd) : LoopEnd := { y with trained := true, asleep := false, starting := false, reach := r, done := true, found := max y.found r }

/-- The tiles that end `e` takes are reached from it. -/
def State.takeTiles (l e r : Nat) (s : State) : State :=
  (List.range r).foldl (fun t i => if (t.tile l (t.hopAt l e (i + 1))).info.isSome then t.setReachable l (t.hopAt l e (i + 1)) e true else t) s

theorem sameLoops_takeTiles (l e r : Nat) (s : State) : SameLoops s (s.takeTiles l e r) := by
  refine SameLoops.foldl (fun t i => ?_) _ _
  split
  · exact sameLoops_setReachable _ _ _ _ _
  · exact SameLoops.refl t

theorem takeTiles_pending (l e r : Nat) (s : State) : (s.takeTiles l e r).pending = s.pending := by
  refine foldl_pending (fun t i => ?_) _ _
  split <;> simp

theorem feedChange_pending (l kind : Nat) (s : State) : (s.feedChange l kind).pending = s.pending := by
  unfold State.feedChange
  dsimp only
  split <;> simp

/-- The end of a loop that failover starts. -/
abbrev State.startedEnd (s : State) (l : Nat) : Nat := if (s.loop l).b.starting then 1 else 0

theorem failoverTrained_exec (l : Nat) (s : State) : exec (.failoverTrained l) s = guarded (.failoverTrained l) s
    (if !((s.loop l).side (s.startedEnd l)).starting ∨ !s.ownsEnd l (s.startedEnd l) then s
    else ((if s.startReach l (s.startedEnd l) = 0 then
          (s.modEnd l (s.startedEnd l) (LoopEnd.feeding (s.startReach l (s.startedEnd l)))).takeTiles l (s.startedEnd l) (s.startReach l (s.startedEnd l))
        else ((s.modEnd l (s.startedEnd l) (LoopEnd.feeding (s.startReach l (s.startedEnd l)))).takeTiles l (s.startedEnd l) (s.startReach l (s.startedEnd l))).feedChange l
          (if ((s.loop l).side (1 - s.startedEnd l)).reach = 0 then 3 else 0)).evalLoop l 1).discoverLoop l) := rfl

theorem failoverTrained_feeds {l r : Nat} {s : State} (hl : l < 512) (hm : s.dirMode l = 2) (hst : (s.loop l).b.starting = true) (hd : (s.loop l).b.done = true)
    (hbr : (s.loop l).b.running = false) (har : (s.loop l).a.running = false) (hr : r = min (s.dirCount l - (s.loop l).a.reach) (s.loop l).b.found) (h0 : r ≠ 0) :
    ∃ t, exec (.failoverTrained l) s = .next t ∧ (t.loop l).b.reach = r ∧ (t.loop l).b.trained = true := by
  have hone : s.startedEnd l = 1 := if_pos hst
  have hown : s.ownsEnd l 1 = true := by simp [State.ownsEnd, hm]
  have hreach : s.startReach l 1 = r := by
    have hb : ((s.loop l).side 1) = (s.loop l).b := rfl
    unfold State.startReach
    dsimp only
    rw [hb, hd, if_pos rfl, Nat.max_zero, hr]
    rfl
  have hx := failoverTrained_exec l s
  rw [hone, hreach, if_neg (by simp [hown, show ((s.loop l).side 1).starting = true from hst]), if_neg h0] at hx
  have h1 : (s.modEnd l 1 (LoopEnd.feeding r)).loop l = (s.loop l).withSide 1 (LoopEnd.feeding r) := loop_modLoop_same l _ s
  have h1t : (s.modEnd l 1 (LoopEnd.feeding r)).ctl.tables = s.ctl.tables := rfl
  have h1p : (s.modEnd l 1 (LoopEnd.feeding r)).pending = s.pending := rfl
  generalize s.modEnd l 1 (LoopEnd.feeding r) = s1 at hx h1 h1t h1p
  have h2 := sameLoops_takeTiles l 1 r s1
  have h2p := takeTiles_pending l 1 r s1
  generalize s1.takeTiles l 1 r = s2 at hx h2 h2p
  have hm2 : s2.dirMode l ≠ 3 := by rw [h2.dirMode, dirMode_congr h1t, hm]; decide
  have h3 := h2.trans (sameLoops_feedChange (l := l) hm2 (if ((s.loop l).side (1 - 1)).reach = 0 then 3 else 0))
  have h3p := feedChange_pending l (if ((s.loop l).side (1 - 1)).reach = 0 then 3 else 0) s2
  generalize s2.feedChange l (if ((s.loop l).side (1 - 1)).reach = 0 then 3 else 0) = s3 at hx h3 h3p
  have h4 := h3.trans (sameLoops_evalLoop (l := l) (by rw [h3.dirMode, dirMode_congr h1t, hm]; decide) 1)
  have h4p := State.evalLoop_pending l 1 s3
  generalize s3.evalLoop l 1 = s4 at hx h4 h4p
  have h4l := (h4.loop l).trans h1
  have ha4 : (s4.loop l).a.running = false := by rw [h4l]; exact har
  have hb4 : (s4.loop l).b.running = false := by rw [h4l]; exact hbr
  obtain ⟨_, _, _, _, _, _, hasked⟩ := discoverLoop_asked ha4 hb4
  refine ⟨_, exec_next hx (decide_eq_true hl) rfl ?_, ?_, ?_⟩
  · rw [discoverLoop_pending ha4 hb4, h4p, h3p, h2p, h1p]
  · rw [hasked, h4l]
    rfl
  · rw [hasked, h4l]
    rfl

/-! ### REVERT_HOLD_EXPIRY, HANDOVER_READY and HANDOVER_ABANDON -/

/-- A handover on a loop that is not paired is noted. -/
theorem startHandover_local {l ra rb kind reason : Nat} {tk : Option Nat} {s : State} (hm : s.dirMode l ≠ 3) :
    ((s.startHandover l ra rb kind reason tk).loop l).handover.isSome = true ∧ (s.startHandover l ra rb kind reason tk).pending = s.pending := by
  unfold State.startHandover
  simp only [hm, if_false]
  refine ⟨?_, rfl⟩
  have hkeep (x : Loop) (e : Nat) (f : LoopEnd → LoopEnd) : (x.withSide e f).handover = x.handover := by
    unfold Loop.withSide
    split <;> rfl
  rw [State.modEnd, loop_modLoop_same, hkeep, loop_modLoop_same]
  rfl

theorem revertHoldExpiry_exec (l : Nat) (s : State) : exec (.revertHoldExpiry l) s = guarded (.revertHoldExpiry l) s
    (if (s.loop l).b.reach ≠ 0 ∧ (s.loop l).intact = true ∧ (s.loop l).forced = 0 ∧ (s.loop l).trap = 0 ∧ s.getP (mwLoop l P.MW_REVERT) 0 = 1 ∧ (s.loop l).handover = none then
      s.startHandover l (s.dirCount l) 0 1 2 none
    else s) := rfl

theorem revertHoldExpiry_starts {l : Nat} {s : State} (hl : l < 512) (hm : s.dirMode l = 2) (hi : (s.loop l).intact = true) (hf : (s.loop l).forced = 0)
    (hrev : s.getP (mwLoop l P.MW_REVERT) 0 = 1) (hfree : (s.loop l).handover = none) (hb : (s.loop l).b.reach ≠ 0) (htrap : (s.loop l).trap = 0) :
    ∃ t, exec (.revertHoldExpiry l) s = .next t ∧ (t.loop l).handover.isSome = true := by
  obtain ⟨hsome, hp⟩ := startHandover_local (l := l) (ra := s.dirCount l) (rb := 0) (kind := 1) (reason := 2) (tk := none) (s := s) (by omega)
  exact ⟨_, exec_next (revertHoldExpiry_exec l s) (decide_eq_true hl) (if_pos ⟨hb, hi, hf, htrap, hrev, hfree⟩) hp, hsome⟩

/-- A handover whose incoming end has trained. -/
abbrev Handover.readied (h : Handover) : Handover := { h with ready := true }

/-- A loop with this handover in progress. -/
abbrev Loop.handedOver (h : Handover) (y : Loop) : Loop := { y with handover := some h }

/-- An end that has trained to feed `n` tiles. -/
abbrev LoopEnd.incoming (n : Nat) (y : LoopEnd) : LoopEnd := { y with trained := true, asleep := false, done := true, found := max y.found n }

theorem handoverReady_exec {l : Nat} {h : Handover} {s : State} (hh : (s.loop l).handover = some h) (ha : h.reachA ≠ 0) (ht : h.tag ≠ none) :
    exec (.handoverReady l) s = guarded (.handoverReady l) s
      (if h.ready then (s.modLoop l (Loop.handedOver h.readied)).modEnd l 0 (LoopEnd.incoming h.reachA)
      else ((s.modLoop l (Loop.handedOver h.readied)).modEnd l 0 (LoopEnd.incoming h.reachA)).discoverLoop l) := by
  have hend : (if h.reachA ≠ 0 then (0 : Nat) else 1) = 0 := if_pos ha
  have htag : h.tag.isNone = false := Option.isNone_eq_false_iff.2 (Option.isSome_iff_ne_none.2 ht)
  show execHandoverReady l s = _
  unfold execHandoverReady
  rw [hh]
  dsimp only
  rw [hend, htag, if_pos rfl, if_neg (by simp)]

theorem handoverReady_trains {l : Nat} {h : Handover} {s : State} (hl : l < 512) (hh : (s.loop l).handover = some h) (ht : h.tag ≠ none) (ha : h.reachA ≠ 0)
    (har : (s.loop l).a.running = false) (hbr : (s.loop l).b.running = false) :
    ∃ t, exec (.handoverReady l) s = .next t ∧ (t.loop l).handover = some h.readied ∧ (t.loop l).a.trained = true := by
  have hx := handoverReady_exec hh ha ht
  have h1 := (loop_modLoop_same l (Loop.withSide 0 (LoopEnd.incoming h.reachA)) (s.modLoop l (Loop.handedOver h.readied))).trans
    (congrArg (Loop.withSide 0 (LoopEnd.incoming h.reachA)) (loop_modLoop_same l (Loop.handedOver h.readied) s))
  change ((s.modLoop l (Loop.handedOver h.readied)).modEnd l 0 (LoopEnd.incoming h.reachA)).loop l = _ at h1
  have hp : ((s.modLoop l (Loop.handedOver h.readied)).modEnd l 0 (LoopEnd.incoming h.reachA)).pending = s.pending := rfl
  generalize (s.modLoop l (Loop.handedOver h.readied)).modEnd l 0 (LoopEnd.incoming h.reachA) = s1 at hx h1 hp
  cases hr : h.ready with
  | true =>
    rw [hr, if_pos rfl] at hx
    exact ⟨s1, exec_next hx (decide_eq_true hl) rfl hp, by rw [h1]; rfl, by rw [h1]; rfl⟩
  | false =>
    rw [hr, if_neg Bool.false_ne_true] at hx
    have ha1 : (s1.loop l).a.running = false := by rw [h1]; exact har
    have hb1 : (s1.loop l).b.running = false := by rw [h1]; exact hbr
    obtain ⟨_, _, _, _, _, _, hasked⟩ := discoverLoop_asked ha1 hb1
    refine ⟨_, exec_next hx (decide_eq_true hl) rfl ((discoverLoop_pending ha1 hb1).trans hp), ?_, ?_⟩
    · rw [hasked, h1]
      rfl
    · rw [hasked, h1]
      rfl

/-- A loop without a handover in progress. -/
abbrev Loop.kept (y : Loop) : Loop := { y with handover := none, a := { y.a with starting := false }, b := { y.b with starting := false } }

theorem abandonHandover_answers {l tk : Nat} {h : Handover} {s : State} (hh : (s.loop l).handover = some h) (htk : h.ticket = some tk) (htrap : (s.loop l).trap = 0)
    (hhand : l ∉ s.mw.link.handing) : s.abandonHandover l = (s.modLoop l Loop.kept).finalReply tk cTIMEOUT 0 0 := by
  have hdone : (s.modLoop l Loop.kept).handingDone l false = s.modLoop l Loop.kept := if_pos (by
    have : s.mw.link.handing.contains l = false := by simpa using hhand
    exact (congrArg (!·) this).trans rfl)
  have htrap1 : ((s.modLoop l Loop.kept).loop l).trap = 0 := (congrArg Loop.trap (loop_modLoop_same l Loop.kept s)).trans htrap
  have htrapped : (s.modLoop l Loop.kept).trapAbandoned l = s.modLoop l Loop.kept := if_neg (by rw [htrap1]; omega)
  unfold State.abandonHandover
  rw [hh]
  dsimp only
  rw [hdone, htrapped, htk]

theorem handoverAbandon_answers {l tk : Nat} {h : Handover} {g : Flight} {s : State} (hl : l < 512) (hh : (s.loop l).handover = some h) (hgo : h.goes = false)
    (htk : h.ticket = some tk) (hg : s.awaits tk g) (htrap : (s.loop l).trap = 0) (hhand : l ∉ s.mw.link.handing) :
    ∃ t, exec (.handoverAbandon l) s = .next t ∧ Answered g.opcode g.cmd 9 0 0 t := by
  have hx : exec (.handoverAbandon l) s = guarded (.handoverAbandon l) s ((s.modLoop l Loop.kept).finalReply tk cTIMEOUT 0 0) := by
    show execHandoverAbandon l s = _
    unfold execHandoverAbandon
    rw [hh]
    dsimp only
    rw [hgo, if_neg Bool.false_ne_true, abandonHandover_answers hh htk htrap hhand]
  have hg' : (s.modLoop l Loop.kept).awaits tk g := hg
  exact ⟨_, exec_next hx (decide_eq_true hl) rfl (State.finalReply_pending _ _ _ _ _), finalReply_answered _ hg'.2 hg'.1 (by decide) 0 0⟩

/-! ### TILE_PORT_ALIGN and FSO_RECEIVED -/

/-- An end whose link has trained. -/
abbrev LoopEnd.aligned (y : LoopEnd) : LoopEnd := { y with trained := true, asleep := false }

theorem tilePortAlign_exec (port d1 d2 d3 t : Nat) (s : State) : exec (.tilePortAlign port d1 d2 d3 t) s = guarded (.tilePortAlign port d1 d2 d3 t) s
    (match (s.atLeast t).portEnd port with
    | none => s.atLeast t
    | some e =>
      if d2 + d3 ≠ 255 ∨ d1 % 64 ≠ 0 ∨ (s.atLeast t).hears port = false then s.atLeast t
      else if d1.testBit 7 then (if (((s.atLeast t).loop (port / 2)).side e).trained then s.atLeast t else (s.atLeast t).sendAlign port 0x80)
      else if d1.testBit 6 then (s.atLeast t).modEnd (port / 2) e fun y => { y with asleep := true }
      else if (((s.atLeast t).loop (port / 2)).side e).trained then (s.atLeast t).modEnd (port / 2) e fun y => { y with asleep := false }
      else (((s.atLeast t).modEnd (port / 2) e LoopEnd.aligned).discoverLoop (port / 2)).settleLane port) := rfl

theorem ownsEnd_of_portEnd {p e : Nat} {s : State} (h : s.portEnd p = some e) (h3 : s.dirMode (p / 2) ≠ 3) : s.ownsEnd (p / 2) e = true := by
  unfold State.portEnd at h
  unfold State.ownsEnd
  dsimp only at h
  split at h
  · split at h
    · obtain rfl := Option.some.inj h
      rfl
    · exact absurd h (by simp)
  · rfl
  · next hm => exact absurd hm h3
  · exact absurd h (by simp)

theorem ownsEnd_congr {s t : State} {l : Nat} (ht : t.ctl.tables = s.ctl.tables) (h3 : s.dirMode l ≠ 3) (e : Nat) : t.ownsEnd l e = s.ownsEnd l e := by
  unfold State.ownsEnd
  rw [dirMode_congr ht]
  split
  · rfl
  · rfl
  · next hm => exact absurd hm h3
  · rfl

theorem feedingEnd_b_congr {s t : State} {l : Nat} (ht : t.ctl.tables = s.ctl.tables) (h3 : s.dirMode l ≠ 3) (hb : (t.loop l).b = (s.loop l).b) :
    t.feedingEnd l 1 = s.feedingEnd l 1 := by
  have hs : (t.loop l).side 1 = (s.loop l).side 1 := hb
  unfold State.feedingEnd
  rw [ownsEnd_congr ht h3, hs]
  rfl

theorem tilePortAlign_trains {p d1 d2 d3 t : Nat} {s : State} (hp : p < 1024) (h1 : d1 < 256) (hsum : d2 + d3 = 255) (h64 : d1 % 64 = 0) (hh : s.hears p = true)
    (he : s.portEnd p = some 0) (h7 : d1.testBit 7 = false) (h6 : d1.testBit 6 = false) (hnew : ((s.loop (p / 2)).side 0).trained = false)
    (hforced : (s.loop (p / 2)).forced ≠ 2) (hrun : ((s.loop (p / 2)).side 0).running = false) (hm : s.dirMode (p / 2) ≠ 3) (hb : s.feedingEnd (p / 2) 1 = false) :
    ∃ u, exec (.tilePortAlign p d1 d2 d3 t) s = .next u ∧ (u.loop (p / 2)).a.trained = true ∧ (u.loop (p / 2)).a.discId = ((s.loop (p / 2)).a.discId + 1) % 65536 := by
  have hwf : (Instr.tilePortAlign p d1 d2 d3 t).wellFormed = true := by
    simp only [Instr.wellFormed, Bool.and_eq_true, decide_eq_true_eq]
    omega
  have hx := tilePortAlign_exec p d1 d2 d3 t s
  have he' : (s.atLeast t).portEnd p = some 0 := he
  have hh' : (s.atLeast t).hears p = true := hh
  have hnew' : (((s.atLeast t).loop (p / 2)).side 0).trained = false := hnew
  rw [he'] at hx
  dsimp only at hx
  rw [if_neg (by rw [hh']; simp [hsum, h64]), h7, if_neg Bool.false_ne_true, h6, if_neg Bool.false_ne_true, hnew', if_neg Bool.false_ne_true] at hx
  have hl : ((s.atLeast t).modEnd (p / 2) 0 LoopEnd.aligned).loop (p / 2) = (s.loop (p / 2)).withSide 0 LoopEnd.aligned := loop_modLoop_same (p / 2) _ (s.atLeast t)
  have hown : ((s.atLeast t).modEnd (p / 2) 0 LoopEnd.aligned).ownsEnd (p / 2) 0 = true := (ownsEnd_congr (s := s) (t := (s.atLeast t).modEnd (p / 2) 0 LoopEnd.aligned) rfl hm 0).trans (ownsEnd_of_portEnd he hm)
  have hfeedb : ((s.atLeast t).modEnd (p / 2) 0 LoopEnd.aligned).feedingEnd (p / 2) 1 = false := (feedingEnd_b_congr (s := s) (t := (s.atLeast t).modEnd (p / 2) 0 LoopEnd.aligned) rfl hm (by rw [hl]; rfl)).trans hb
  have hmode : ((s.atLeast t).modEnd (p / 2) 0 LoopEnd.aligned).dirMode (p / 2) ≠ 3 := hm
  have hpend : ((s.atLeast t).modEnd (p / 2) 0 LoopEnd.aligned).pending = s.pending := rfl
  generalize (s.atLeast t).modEnd (p / 2) 0 LoopEnd.aligned = s1 at hx hl hown hfeedb hmode hpend
  have hrun1 : ((s1.loop (p / 2)).side 0).running = false := by rw [hl]; exact hrun
  have hfeed : s1.feedingEnd (p / 2) 0 = true := by
    have hforced1 : ((s1.loop (p / 2)).forced != 2) = true := by rw [hl]; simpa [Loop.withSide] using hforced
    have htr : ((s1.loop (p / 2)).side 0).trained = true := by rw [hl]; rfl
    simp [State.feedingEnd, hown, htr, hforced1]
  have h2 := discoverEnd_loop (e := 0) (l := p / 2) hrun1
  have h2t := discoverEnd_tables (e := 0) (l := p / 2) hrun1
  have h2p := discoverEnd_pending (e := 0) (l := p / 2) hrun1
  have h2b := discoverEnd_b (l := p / 2) (s := s1) hrun1
  rw [if_pos hfeed] at h2
  rw [discoverLoop_eq] at hx
  generalize s1.discoverEnd (p / 2) 0 = s2 at hx h2 h2t h2p h2b
  have hskip : s2.discoverEnd (p / 2) 1 = s2 := if_neg (by rw [feedingEnd_b_congr h2t hmode h2b, hfeedb]; exact Bool.false_ne_true)
  rw [hskip] at hx
  have h3 := (sameLoops_settleLane p s2).loop (p / 2)
  refine ⟨_, exec_next hx hwf rfl ((State.settleLane_pending p s2).trans (h2p.trans hpend)), ?_, ?_⟩
  · rw [h3, h2, hl]
    rfl
  · rw [h3, h2, hl]
    rfl

theorem fsoReceived_exec {p e d1 d2 d3 t : Nat} {s : State} (he : s.portEnd p = some e) (hh : s.hears p = true) (hsum : (d1 ^^^ d2) + d3 = 255) :
    exec (.fsoReceived p d1 d2 d3 t) s = guarded (.fsoReceived p d1 d2 d3 t) s
      (if (s.loop (p / 2)).a.reach = s.dirCount (p / 2) ∧ (s.loop (p / 2)).b.reach = 0 then ((s.atLeast t).loopIntact (p / 2)).evalLoop (p / 2) 2 else s.atLeast t) := by
  have he' : (s.atLeast t).portEnd p = some e := he
  have hh' : (s.atLeast t).hears p = true := hh
  show execFsoReceived p d1 d2 d3 t s = _
  unfold execFsoReceived
  dsimp only
  rw [he']
  dsimp only
  rw [if_neg (by rw [hh']; simp [hsum])]
  rfl

theorem fsoReceived_evaluates {p e d1 d2 d3 t : Nat} {s : State} (hp : p < 1024) (h1 : d1 < 256) (h2 : d2 < 256) (hsum : (d1 ^^^ d2) + d3 = 255) (he : s.portEnd p = some e)
    (hh : s.hears p = true) (hm : s.dirMode (p / 2) ≠ 3) (hd : (s.loop (p / 2)).a.done = true) (hr : (s.loop (p / 2)).a.reach = s.dirCount (p / 2))
    (h0 : s.dirCount (p / 2) ≠ 0) (hb : (s.loop (p / 2)).b.reach = 0) : ∃ u, exec (.fsoReceived p d1 d2 d3 t) s = .next u ∧ u.loopState (p / 2) = 2 := by
  have hwf : (Instr.fsoReceived p d1 d2 d3 t).wellFormed = true := by
    simp only [Instr.wellFormed, Bool.and_eq_true, decide_eq_true_eq]
    omega
  have hx := fsoReceived_exec (t := t) he hh hsum
  rw [if_pos ⟨hr, hb⟩] at hx
  have hmode : s.dirMode (p / 2) = 1 ∨ s.dirMode (p / 2) = 2 := by
    unfold State.portEnd at he
    dsimp only at he
    split at he
    · next h => exact .inl h
    · next h => exact .inr h
    · next h => exact absurd h hm
    · exact absurd he (by simp)
  obtain ⟨-, hstate, honly⟩ := loopIntact_evaluates (s := s.atLeast t) hmode hd hr h0 hb 2
  exact ⟨_, exec_next hx hwf rfl honly.pending, hstate⟩

end Sys2Proof.Machine
end

section
/-! The partner link: what its packets, probes and timers do (O56; 07_midway.md). -/

namespace Sys2Proof.Machine

/-! ### Partner packets (R234) -/

section
variable {typ n : Nat} {p : TilePkt} {s : State} {k : State → State}

theorem partnerReceive_taken (hp : p.soundPartner typ n) (hh : s.linkHears = true) (hst : s.linkState = 4 ∨ s.linkState = 5) :
    s.partnerReceive typ p n k = k (s.atLeast p.time) := by
  obtain ⟨-, -, hf, hlen, hcrc⟩ := hp
  exact if_pos ⟨hst, hh, hf, hlen, hcrc⟩
end

theorem pIdentity_wellFormed {p : TilePkt} {n : Nat} (h : p.soundPartner 1 n) : (Instr.pIdentity p).wellFormed = true := Bool.and_eq_true_iff.2 ⟨h.1, rowType_own h.2.1⟩

theorem pHeartbeat_wellFormed {p : TilePkt} {n : Nat} (h : p.soundPartner 2 n) : (Instr.pHeartbeat p).wellFormed = true := Bool.and_eq_true_iff.2 ⟨h.1, rowType_own h.2.1⟩

theorem pLoop_wellFormed {p : TilePkt} {n : Nat} (h : p.soundPartner 3 n) : (Instr.pLoop p).wellFormed = true := Bool.and_eq_true_iff.2 ⟨h.1, rowType_own h.2.1⟩

theorem pHandover_wellFormed {p : TilePkt} {n : Nat} (h : p.soundPartner 4 n) : (Instr.pHandover p).wellFormed = true := Bool.and_eq_true_iff.2 ⟨h.1, rowType_own h.2.1⟩

theorem pTile_wellFormed {p : TilePkt} {n : Nat} (h : p.soundPartner 5 n) : (Instr.pTile p).wellFormed = true := Bool.and_eq_true_iff.2 ⟨h.1, rowType_own h.2.1⟩

/-! ### P_IDENTITY and P_HEARTBEAT -/

/-- A link whose partner is known. -/
abbrev PartnerLink.identified (l : List Byte) (y : PartnerLink) : PartnerLink := { y with peer := some (fieldAt l 0 8, fieldAt l 8 4, byteAt l 12) }

theorem pIdentity_exec {p : TilePkt} {s : State} (hp : p.soundPartner 1 32) (hh : s.linkHears = true) (hst : s.linkState = 4) :
    exec (.pIdentity p) s = guarded (.pIdentity p) s
      (if byteAt p.payload 14 ≠ 1 then (s.atLeast p.time).partnerGone 1 2
      else if byteAt p.payload 12 = s.mw.link.role ∨ (s.mw.link.want ≠ 0 ∧ s.mw.link.want ≠ fieldAt p.payload 0 8) then (s.atLeast p.time).partnerGone 1 0
      else (((s.atLeast p.time).modLink (PartnerLink.identified p.payload)).setP P.PT_PARTNER_SERIAL 0 (fieldAt p.payload 0 8)).linkReview) :=
  congrArg (guarded (.pIdentity p) s) ((partnerReceive_taken hp hh (.inl hst)).trans (if_neg (not_not_intro hst)))

theorem pIdentity_identifies {p : TilePkt} {s : State} (hp : p.soundPartner 1 32) (hh : s.linkHears = true) (hst : s.linkState = 4) (hproto : byteAt p.payload 14 = 1)
    (hrole : byteAt p.payload 12 ≠ s.mw.link.role) (hwant : s.mw.link.want = 0 ∨ s.mw.link.want = fieldAt p.payload 0 8) (hprobes : s.mw.link.probesDone < 16) :
    ∃ t, exec (.pIdentity p) s = .next t ∧ t.getP P.PT_PARTNER_SERIAL 0 = fieldAt p.payload 0 8 ∧ t.now = max s.now p.time := by
  have hx := pIdentity_exec hp hh hst
  rw [if_neg (by simp [hproto]), if_neg (by rintro (h | ⟨h, h'⟩); exacts [hrole h, hwant.elim h h'])] at hx
  have hreview : (((s.atLeast p.time).modLink (PartnerLink.identified p.payload)).setP P.PT_PARTNER_SERIAL 0 (fieldAt p.payload 0 8)).linkReview
      = ((s.atLeast p.time).modLink (PartnerLink.identified p.payload)).setP P.PT_PARTNER_SERIAL 0 (fieldAt p.payload 0 8) :=
    if_neg fun h => absurd (show 16 ≤ s.mw.link.probesDone from h.2.2) (Nat.not_le.2 hprobes)
  rw [hreview] at hx
  exact ⟨_, exec_next hx (pIdentity_wellFormed hp) rfl rfl, State.getP_setP_same _ _ _ _, rfl⟩

/-- A link that has taken the heartbeat with sequence number `q`. -/
abbrev PartnerLink.beaten (now q : Nat) (y : PartnerLink) : PartnerLink := { y with lastHb := now, hbNext := some ((q + 1) % 65536) }

theorem pHeartbeat_counts {p : TilePkt} {e : Nat} {s : State} (hp : p.soundPartner 2 8) (hh : s.linkHears = true) (hst : s.linkState = 5) (hnext : s.mw.link.hbNext = some e) :
    ∃ t, exec (.pHeartbeat p) s = .next t ∧ t.getP P.PT_HEARTBEAT_LOST 0 = min (s.getP P.PT_HEARTBEAT_LOST 0 + (fieldAt p.payload 4 2 + 65536 - e) % 65536) (2 ^ 32 - 1)
      ∧ t.now = max s.now p.time := by
  have hbody : s.partnerReceive 2 p 8 (fun s =>
      if s.linkState ≠ 5 then s
      else
        let q := fieldAt p.payload 4 2
        let lost := match s.mw.link.hbNext with
          | some e => (q + 65536 - e) % 65536
          | none => 0
        let s1 := (s.modLink fun x => { x with lastHb := s.now, hbNext := some ((q + 1) % 65536) }).bumpSat P.PT_HEARTBEAT_LOST 0 lost
        if s1.mw.link.role = 1 then { s1 with ring := { s1.ring with tag := fieldAt p.payload 0 4 } } else s1)
      = if s.mw.link.role = 1 then
          { ((s.atLeast p.time).modLink (PartnerLink.beaten (max s.now p.time) (fieldAt p.payload 4 2))).bumpSat P.PT_HEARTBEAT_LOST 0 ((fieldAt p.payload 4 2 + 65536 - e) % 65536) with
            ring := { s.ring with tag := fieldAt p.payload 0 4 } }
        else ((s.atLeast p.time).modLink (PartnerLink.beaten (max s.now p.time) (fieldAt p.payload 4 2))).bumpSat P.PT_HEARTBEAT_LOST 0
          ((fieldAt p.payload 4 2 + 65536 - e) % 65536) := by
    have hnext' : (s.atLeast p.time).mw.link.hbNext = some e := hnext
    rw [partnerReceive_taken hp hh (.inr hst)]
    dsimp only
    rw [if_neg (not_not_intro (show (s.atLeast p.time).linkState = 5 from hst)), hnext']
    rfl
  have hx : exec (.pHeartbeat p) s = guarded (.pHeartbeat p) s _ := congrArg (guarded (.pHeartbeat p) s) hbody
  have hlost := State.getP_setP_same ((s.atLeast p.time).modLink (PartnerLink.beaten (max s.now p.time) (fieldAt p.payload 4 2))) P.PT_HEARTBEAT_LOST 0
    (min (s.getP P.PT_HEARTBEAT_LOST 0 + (fieldAt p.payload 4 2 + 65536 - e) % 65536) (2 ^ 32 - 1))
  by_cases hr : s.mw.link.role = 1
  · rw [if_pos hr] at hx
    exact ⟨_, exec_next hx (pHeartbeat_wellFormed hp) rfl rfl, hlost, rfl⟩
  · rw [if_neg hr] at hx
    exact ⟨_, exec_next hx (pHeartbeat_wellFormed hp) rfl rfl, hlost, rfl⟩

/-! ### PMARK -/

theorem referenceEdge_first {s : State} {t : Nat} (hst : s.getP P.RM_STATE 0 = 1) (hprev : s.ring.prevEdge = none) :
    s.referenceEdge t = { s.atLeast (t / subTick) with ring := { s.ring with prevEdge := some t } } := by
  have hmiss : s.missedBefore t 8 = s := if_neg fun h => by rw [hst] at h; omega
  have hst' : (s.atLeast (t / subTick)).getP P.RM_STATE 0 = 1 := hst
  have hprev' : (s.atLeast (t / subTick)).ring.prevEdge = none := hprev
  unfold State.referenceEdge
  dsimp only
  rw [hmiss, hst', if_neg (by decide), if_neg (by decide), State.relockEdge, hprev']
  rfl

theorem pmark_exec (t d1 d2 d3 : Nat) (s : State) : exec (.pmark t d1 d2 d3) s = guarded (.pmark t d1 d2 d3) s
    (if (s.atLeast t).partnerTiming && (s.atLeast t).linkHears && d1 + d3 == 255 then
      ((s.atLeast t).referenceEdge ((t - s.getP P.PT_LINK_DELAY 0) * subTick)).setP P.PT_TIME_ERR 0
        (((s.atLeast t).referenceEdge ((t - s.getP P.PT_LINK_DELAY 0) * subTick)).getP P.RM_PHASE_ERR 0)
    else s.atLeast t) := rfl

theorem pmark_first {t d1 d2 d3 : Nat} {s : State} (hsum : d1 + d3 = 255) (h2 : d2 < 256) (hh : s.linkHears = true) (hpt : s.partnerTiming = true)
    (hst : s.getP P.RM_STATE 0 = 1) (hprev : s.ring.prevEdge = none) :
    ∃ u, exec (.pmark t d1 d2 d3) s = .next u ∧ u.ring.prevEdge = some ((t - s.getP P.PT_LINK_DELAY 0) * 65536) ∧ u.getP P.PT_TIME_ERR 0 = s.getP P.RM_PHASE_ERR 0 := by
  have hwf : (Instr.pmark t d1 d2 d3).wellFormed = true := by
    simp only [Instr.wellFormed, Bool.and_eq_true, decide_eq_true_eq]
    omega
  have hh' : (s.atLeast t).linkHears = true := hh
  have hpt' : (s.atLeast t).partnerTiming = true := hpt
  have hx := pmark_exec t d1 d2 d3 s
  rw [if_pos (by rw [hh', hpt']; simp [hsum]), referenceEdge_first (s := s.atLeast t) hst hprev] at hx
  exact ⟨_, exec_next hx hwf rfl rfl, rfl, State.getP_setP_same _ _ _ _⟩

/-! ### The states of the link -/

theorem partnerSignalDetect_locks {k : Nat} {s : State} (hk : k < 8) (hst : s.linkState = 1) (hm : s.mw.link.mask.testBit k = true) :
    ∃ t, exec (.partnerSignalDetect k) s = .next t ∧ LinkIn 2 s t :=
  ⟨_, exec_next rfl (decide_eq_true hk) (if_pos ⟨hst, hm⟩) (State.enterLink_pending 2 0 s), enterLink_linkIn 2 0 s⟩

/-- A link that has noted which of its lanes carry which. -/
abbrev PartnerLink.mapped (l : List AlignSet) (y : PartnerLink) : PartnerLink := { y with lanes := l.foldl (fun m a => SMap.set (fun _ => 31) m a.lane (a.d1 % 32)) y.lanes }

theorem partnerAlign_deskews {l : List AlignSet} {s : State} (hl : l.all AlignSet.wf = true) (hh : ∀ a ∈ l, s.hears (1160 + a.lane) = true) (hst : s.linkState = 2)
    (hfull : fullColumn s.mw.link.width l = true) : ∃ t, exec (.partnerAlign l) s = .next t ∧ t.linkState = 3 := by
  have hall : (l.filter fun a => s.hears (1160 + a.lane)) = l := List.filter_eq_self.2 hh
  have hcol : s.partnerColumn l = (s.modLink (PartnerLink.mapped l)).enterLink 3 0 := (if_pos hst).trans (if_pos hfull)
  obtain ⟨hstate, -⟩ := enterLink_linkIn 3 0 (s.modLink (PartnerLink.mapped l))
  have hbody : (if 2 ≤ s.linkState ∧ s.linkState ≤ 4 ∧ (s.partnerColumn (l.filter fun a => s.hears (1160 + a.lane))).linkState = s.linkState then
      (s.partnerColumn (l.filter fun a => s.hears (1160 + a.lane))).sendPartnerAligns else s.partnerColumn (l.filter fun a => s.hears (1160 + a.lane)))
      = (s.modLink (PartnerLink.mapped l)).enterLink 3 0 := by
    rw [hall, hcol]
    exact if_neg fun h => by rw [hstate, hst] at h; omega
  exact ⟨_, exec_next rfl hl hbody (State.enterLink_pending 3 0 _), hstate⟩

theorem getP_raiseService (c : ServiceCond) (s : State) (i e : Nat) : (s.raiseService c).getP i e = s.getP i e := by
  obtain ⟨x, hx, -⟩ := raiseService_events c s
  exact hx.getP i e

theorem enterHoldover_linkState (s : State) : s.enterHoldover.linkState = s.linkState ∧ s.enterHoldover.getP P.PT_WIDTH 0 = s.getP P.PT_WIDTH 0 := by
  have key : ∀ i, pkey i 0 ≠ pkey P.RM_STATE 0 → s.enterHoldover.getP i 0 = s.getP i 0 := fun i hi => by
    unfold State.enterHoldover State.setRmState
    dsimp only
    split
    · rfl
    · rw [if_pos rfl, State.post_getP, getP_raiseService]
      exact (State.getP_setP _ _ _ _ i 0).trans (if_neg hi)
  exact ⟨key P.PT_STATE (by decide), key P.PT_WIDTH (by decide)⟩

theorem partnerGone_state (n reason : Nat) (hn : n ≠ 5) (s : State) : (s.partnerGone n reason).linkState = n ∧ (s.partnerGone n reason).getP P.PT_WIDTH 0 = 0 := by
  obtain ⟨hstate, hwidth, -⟩ := enterLink_linkIn n reason ((s.modLink PartnerLink.forgotten).setP P.PT_PARTNER_SERIAL 0 0)
  rw [if_neg hn] at hwidth
  unfold State.partnerGone
  dsimp only
  generalize ((s.modLink PartnerLink.forgotten).setP P.PT_PARTNER_SERIAL 0 0).enterLink n reason = s2 at hstate hwidth ⊢
  have hdep : (if s.linkActive then s2.partnerDeparts linkId else s2).linkState = n ∧ (if s.linkActive then s2.partnerDeparts linkId else s2).getP P.PT_WIDTH 0 = 0 := by
    split
    · obtain ⟨x, hx⟩ := partnerDeparts_events linkId s2
      exact ⟨(hx.getP P.PT_STATE 0).trans hstate, (hx.getP P.PT_WIDTH 0).trans hwidth⟩
    · exact ⟨hstate, hwidth⟩
  generalize (if s.linkActive then s2.partnerDeparts linkId else s2) = s3 at hdep ⊢
  split
  · exact ⟨(enterHoldover_linkState s3).1.trans hdep.1, (enterHoldover_linkState s3).2.trans hdep.2⟩
  · exact hdep

theorem linkActive_of {s : State} (h : s.linkState = 5) : s.linkActive = true := beq_iff_eq.2 h

theorem partnerHeartbeatTimeout_retrains {s : State} (hst : s.linkState = 5) (hq : s.quietEnd = none) :
    ∃ t, exec .partnerHeartbeatTimeout s = .next t ∧ t.linkState = 1 ∧ t.getP P.PT_WIDTH 0 = 0 := by
  have hact : (s.linkActive && s.quietEnd.isNone) = true := by
    rw [linkActive_of hst, hq]
    rfl
  exact ⟨_, exec_next rfl rfl (if_pos hact) (State.partnerGone_pending 1 1 s), partnerGone_state 1 1 (by decide) s⟩

theorem partnerTrainTimeout_restarts {s : State} (h2 : 2 ≤ s.linkState) (h4 : s.linkState ≤ 4) : ∃ t, exec .partnerTrainTimeout s = .next t ∧ t.linkState = 1 :=
  ⟨_, exec_next rfl rfl (if_pos ⟨h2, h4⟩) (State.partnerGone_pending 1 1 s), (partnerGone_state 1 1 (by decide) s).1⟩

theorem partnerProbe_echoes {q d3 t : Nat} {s : State} (h3 : d3 < 256) (hsum : q + d3 = 255) (hh : s.linkHears = true) (hst : s.linkState = 4 ∨ s.linkState = 5) :
    ∃ u, exec (.partnerProbe q 0 d3 t) s = .next u ∧ u.sent = Tx.partnerSet 6 q 1 (255 - q) :: s.sent := by
  have hwf : (Instr.partnerProbe q 0 d3 t).wellFormed = true := by
    simp only [Instr.wellFormed, Bool.and_eq_true, decide_eq_true_eq]
    omega
  exact ⟨_, exec_next (t := if 0 = 0 ∧ q + d3 = 255 ∧ (s.atLeast t).linkHears = true ∧ ((s.atLeast t).linkState = 4 ∨ (s.atLeast t).linkState = 5) then
      ((s.atLeast t).atLeast (t + 100)).emit (.partnerSet 6 q 1 (255 - q)) else s.atLeast t) rfl hwf (if_pos ⟨rfl, hsum, hh, hst⟩) rfl, rfl⟩

/-- A link whose next own heartbeat has this sequence number. -/
abbrev PartnerLink.beating (q : Nat) (y : PartnerLink) : PartnerLink := { y with hbSeq := q }

theorem pHeartbeatSend_counts {s : State} (hst : s.linkState = 5) (hq : s.quietEnd = none) :
    ∃ t, exec .pHeartbeatSend s = .next t ∧ t.mw.link.hbSeq = (s.mw.link.hbSeq + 1) % 65536 := by
  have hact : (s.linkActive && s.quietEnd.isNone) = true := by
    rw [linkActive_of hst, hq]
    rfl
  have hbody : (if s.linkActive && s.quietEnd.isNone then
      (s.modLink (PartnerLink.beating ((s.mw.link.hbSeq + 1) % 65536))).sendPartner 0x2 (leBytes (s.ring.tag + at' 32 s.mw.link.hbSeq) 8) else s)
      = (s.modLink (PartnerLink.beating ((s.mw.link.hbSeq + 1) % 65536))).sendPartner 0x2 (leBytes (s.ring.tag + at' 32 s.mw.link.hbSeq) 8) := if_pos hact
  exact ⟨_, exec_next rfl rfl hbody rfl, rfl⟩

end Sys2Proof.Machine
end

section
/-! Paired loops at the partner link, and the completion of Midway's commands (O56; 07_midway.md). -/

namespace Sys2Proof.Machine

/-! ### P_LOOP -/

/-- Loop `l` has at most told the partner of itself. -/
def ToldOnly (l : Nat) (s t : State) : Prop := ∃ b, t.loop l = { s.loop l with told := b }

theorem ToldOnly.trans {l : Nat} {s t u : State} (h : ToldOnly l s t) (g : ToldOnly l t u) : ToldOnly l s u := by
  obtain ⟨b, hb⟩ := h
  obtain ⟨c, hc⟩ := g
  exact ⟨c, by rw [hc, hb]⟩

theorem SameLoops.toldOnly {s t : State} (h : SameLoops s t) (l : Nat) : ToldOnly l s t := ⟨(s.loop l).told, h.loop l⟩

theorem noteLoop_toldOnly (l : Nat) (s : State) : ToldOnly l s (s.noteLoop l) := by
  unfold State.noteLoop
  split
  · unfold State.sendPLoop
    split
    · exact ⟨s.pLoopBytes l, loop_modLoop_same l (fun y => { y with told := s.pLoopBytes l }) s⟩
    · exact (SameLoops.refl s).toldOnly l
  · exact (SameLoops.refl s).toldOnly l

theorem setLoopState_toldOnly (l new reason : Nat) (s : State) : ToldOnly l s (s.setLoopState l new reason) := by
  have hserv : SameLoops s (if 3 ≤ new ∧ (s.dirMode l = 2 ∨ s.dirMode l = 3) then s.raiseService (.loop l) else s.clearService (.loop l)) := by
    split
    · exact sameLoops_raiseService _ _
    · exact sameLoops_clearService _ _
  unfold State.setLoopState
  dsimp only
  generalize (if 3 ≤ new ∧ (s.dirMode l = 2 ∨ s.dirMode l = 3) then s.raiseService (.loop l) else s.clearService (.loop l)) = s1 at hserv ⊢
  split
  · exact hserv.toldOnly l
  · have hset : SameLoops s1 (s1.setP (mwLoop l P.MW_LOOP_STATE) (l % 32) new) := ⟨rfl, rfl⟩
    exact ((hserv.trans (hset.trans (sameLoops_post _ _ _ _ _))).toldOnly l).trans (noteLoop_toldOnly l _)

theorem evalLoop_toldOnly (l reason : Nat) (s : State) : ToldOnly l s (s.evalLoop l reason) := by
  rw [evalLoop_eq]
  exact ((sameLoops_reachReport l s).toldOnly l).trans ((setLoopState_toldOnly l _ reason _).trans (noteLoop_toldOnly l _))

/-- A loop of which the partner has told its findings. -/
abbrev Loop.peered (b : List Byte) (y : Loop) : Loop := { y with peer := (byteAt b 2, byteAt b 3, byteAt b 4, byteAt b 5, fieldAt b 8 4) }

/-- An end that the partner has and has told of. -/
abbrev LoopEnd.told (b : List Byte) (y : LoopEnd) : LoopEnd := { y with reach := byteAt b 3, found := byteAt b 4, done := true }

theorem reviewFeeder_primary {l : Nat} {s : State} (hr : s.mw.link.role = 0) (hy : (s.loop l).yields = false) : s.reviewFeeder l = s := by
  unfold State.reviewFeeder
  dsimp only
  rw [hr, hy]
  exact if_pos (by simp)

/-- The tiles that the partner no longer reaches are told so. -/
def State.forgetPeer (l e : Nat) (b : List Byte) (s : State) : State :=
  (List.range (s.dirCount l)).foldl (fun t i => if byteAt b 4 ≤ i then t.setReachable l (t.hopAt l e (i + 1)) e false else t) s

theorem sameLoops_forgetPeer (l e : Nat) (b : List Byte) (s : State) : SameLoops s (s.forgetPeer l e b) := by
  refine SameLoops.foldl (fun t i => ?_) _ _
  split
  · exact sameLoops_setReachable _ _ _ _ _
  · exact SameLoops.refl t

theorem forgetPeer_pending (l e : Nat) (b : List Byte) (s : State) : (s.forgetPeer l e b).pending = s.pending := by
  refine foldl_pending (fun t i => ?_) _ _
  split <;> simp

/-- The digests of a paired loop are compared. -/
def State.compareDigests (l own digest : Nat) (s : State) : State :=
  if digest = own then s.clearService (.pairMismatch l) else if s.ctl.service.contains (.pairMismatch l) then s
  else (s.raiseService (.pairMismatch l)).post 0x5E 0x7 l (own + at' 32 digest)

theorem sameLoops_compareDigests (l own digest : Nat) (s : State) : SameLoops s (s.compareDigests l own digest) := by
  unfold State.compareDigests
  split
  · exact sameLoops_clearService _ _
  · split
    · exact SameLoops.refl s
    · exact (sameLoops_raiseService _ _).trans (sameLoops_post _ _ _ _ _)

theorem compareDigests_pending (l own digest : Nat) (s : State) : (s.compareDigests l own digest).pending = s.pending := by
  unfold State.compareDigests
  split
  · exact State.clearService_pending _ _
  · split
    · rfl
    · exact (State.post_pending _ _ _ _ _).trans (State.raiseService_pending _ _)

/-- What a P_LOOP of a paired loop does. -/
theorem pLoop_exec {p : TilePkt} {l : Nat} {s : State} (hp : p.soundPartner 3 16) (hh : s.linkHears = true) (hst : s.linkState = 5) (hl : fieldAt p.payload 0 2 = l)
    (h512 : l < 512) (hm : s.dirMode l = 3) :
    exec (.pLoop p) s = guarded (.pLoop p) s ((((((((s.atLeast p.time).modLoop l (Loop.peered p.payload)).reviewFeeder l).modEnd l
        ((((s.atLeast p.time).modLoop l (Loop.peered p.payload)).reviewFeeder l).peerEnd l) (LoopEnd.told p.payload)).evalLoop l 4).forgetPeer l
        ((((s.atLeast p.time).modLoop l (Loop.peered p.payload)).reviewFeeder l).peerEnd l) p.payload)).compareDigests l ((s.atLeast p.time).loopDigest l) (fieldAt p.payload 8 4)) := by
  subst hl
  refine congrArg (guarded (.pLoop p) s) ((partnerReceive_taken hp hh (.inr hst)).trans (if_neg ?_))
  rintro (h | h | h)
  exacts [h hst, absurd h512 (Nat.not_lt.2 h), h hm]

theorem pLoop_tells {p : TilePkt} {l : Nat} {s : State} (hp : p.soundPartner 3 16) (hh : s.linkHears = true) (hst : s.linkState = 5) (hrole : s.mw.link.role = 0)
    (hy : (s.loop l).yields = false) (hl : fieldAt p.payload 0 2 = l) (h512 : l < 512) (hm : s.dirMode l = 3) (hf : s.dirFeeder l = 0) :
    ∃ t, exec (.pLoop p) s = .next t ∧ (t.loop l).peer = (byteAt p.payload 2, byteAt p.payload 3, byteAt p.payload 4, byteAt p.payload 5, fieldAt p.payload 8 4)
      ∧ (t.loop l).b.done = true := by
  have hx := pLoop_exec hp hh hst hl h512 hm
  have h1 : ((s.atLeast p.time).modLoop l (Loop.peered p.payload)).loop l = Loop.peered p.payload (s.loop l) := loop_modLoop_same l _ (s.atLeast p.time)
  have hrole1 : ((s.atLeast p.time).modLoop l (Loop.peered p.payload)).mw.link.role = 0 := hrole
  have hf1 : ((s.atLeast p.time).modLoop l (Loop.peered p.payload)).dirFeeder l = 0 := hf
  have hp1 : ((s.atLeast p.time).modLoop l (Loop.peered p.payload)).pending = s.pending := rfl
  generalize (s.atLeast p.time).loopDigest l = own at hx
  generalize (s.atLeast p.time).modLoop l (Loop.peered p.payload) = s1 at hx h1 hrole1 hf1 hp1
  have hend : s1.peerEnd l = 1 := by
    have : s1.feeder l = 0 := by
      unfold State.feeder
      rw [h1, if_neg (by rw [show (Loop.peered p.payload (s.loop l)).yields = false from hy]; exact Bool.false_ne_true), hf1]
    rw [State.peerEnd, this]
  rw [reviewFeeder_primary hrole1 (by rw [h1]; exact hy), hend] at hx
  have h2 := loop_modLoop_same l (Loop.withSide 1 (LoopEnd.told p.payload)) s1
  change (s1.modEnd l 1 (LoopEnd.told p.payload)).loop l = _ at h2
  have hp2 : (s1.modEnd l 1 (LoopEnd.told p.payload)).pending = s1.pending := rfl
  generalize s1.modEnd l 1 (LoopEnd.told p.payload) = s2 at hx h2 hp2
  obtain ⟨b, h3⟩ := evalLoop_toldOnly l 4 s2
  have hp3 := State.evalLoop_pending l 4 s2
  generalize s2.evalLoop l 4 = s3 at hx h3 hp3
  have h4 := (sameLoops_forgetPeer l 1 p.payload s3).trans (sameLoops_compareDigests l own (fieldAt p.payload 8 4) _)
  refine ⟨_, exec_next hx (pLoop_wellFormed hp) rfl ?_, ?_, ?_⟩
  · rw [compareDigests_pending, forgetPeer_pending, hp3, hp2, hp1]
  · rw [h4.loop, h3, h2, h1]
    rfl
  · rw [h4.loop, h3, h2]
    rfl

/-! ### P_HANDOVER and P_TILE -/

theorem handoverAsked_accepted {l tag theirs ours : Nat} {s : State} (hm : s.dirMode l = 3) (hfree : (s.loop l).handover = none) (hf : s.feeder l = 0)
    (hr : s.reachesAll l 0 = true) (h0 : ours ≠ 0) (hcv : s.loopCanvas l = none) :
    ((s.handoverAsked l tag theirs ours).loop l).handover.isSome = true ∧ (s.handoverAsked l tag theirs ours).pending = s.pending := by
  have hkeep (x : Loop) (e : Nat) (f : LoopEnd → LoopEnd) : (x.withSide e f).handover = x.handover := by
    unfold Loop.withSide
    split <;> rfl
  have hcan : (s.dirMode l == 3 && (s.loop l).handover.isNone && (ours == 0 || s.reachesAll l (s.feeder l))) = true := by simp [hm, hfree, hf, hr]
  have hno : (ours == 0) = false := beq_eq_false_iff_ne.2 h0
  unfold State.handoverAsked
  dsimp only
  rw [hcan, if_neg (by simp), hcv, hno, if_neg h0]
  dsimp only
  rw [if_neg (by simp)]
  refine ⟨?_, rfl⟩
  rw [State.modEnd, loop_modLoop_same, hkeep]
  exact (congrArg (fun x : Loop => x.handover.isSome) (loop_modLoop_same l (Loop.handedOver _) s)).trans rfl

theorem pHandover_exec {p : TilePkt} {s : State} (hp : p.soundPartner 4 12) (hh : s.linkHears = true) (hst : s.linkState = 5) (hk : byteAt p.payload 2 = 0) :
    exec (.pHandover p) s = guarded (.pHandover p) s
      (((List.range 512).filter fun l => (s.atLeast p.time).dirMode l == 3 && (fieldAt p.payload 0 2 == l || fieldAt p.payload 0 2 == 0xFFFF)).foldl
        (fun t l => t.handoverAsked l (fieldAt p.payload 4 4) (byteAt p.payload 8) (byteAt p.payload 9)) (s.atLeast p.time)) :=
  congrArg (guarded (.pHandover p) s) ((partnerReceive_taken hp hh (.inr hst)).trans ((if_neg (not_not_intro hst)).trans (if_pos hk)))

theorem pHandover_accepts {p : TilePkt} {l : Nat} {s : State} (hp : p.soundPartner 4 12) (hh : s.linkHears = true) (hst : s.linkState = 5) (hl : l = fieldAt p.payload 0 2)
    (h512 : l < 512) (hm : s.dirMode l = 3) (hk : byteAt p.payload 2 = 0) (hfree : (s.loop l).handover = none) (hf : s.dirFeeder l = 0) (hy : (s.loop l).yields = false)
    (hr : s.reachesAll l 0 = true) (h0 : byteAt p.payload 9 ≠ 0) (hcv : s.loopCanvas l = none) :
    ∃ t, exec (.pHandover p) s = .next t ∧ (t.loop l).handover.isSome = true := by
  have hx := pHandover_exec hp hh hst hk
  have hfeed : (s.atLeast p.time).feeder l = 0 := by
    show (if (s.loop l).yields then 1 - s.dirFeeder l else s.dirFeeder l) = 0
    rw [hy, if_neg Bool.false_ne_true, hf]
  obtain ⟨hsome, hpend⟩ := handoverAsked_accepted (s := s.atLeast p.time) (tag := fieldAt p.payload 4 4) (theirs := byteAt p.payload 8) hm hfree hfeed hr h0 hcv
  have hone : ∀ b ∈ (List.range 512).filter (fun l => (s.atLeast p.time).dirMode l == 3 && (fieldAt p.payload 0 2 == l || fieldAt p.payload 0 2 == 0xFFFF)), b = l := fun b hb => by
    obtain ⟨-, hb⟩ := List.mem_filter.1 hb
    simp only [Bool.and_eq_true, Bool.or_eq_true, beq_iff_eq, ← hl] at hb
    omega
  have hmem : l ∈ (List.range 512).filter (fun l => (s.atLeast p.time).dirMode l == 3 && (fieldAt p.payload 0 2 == l || fieldAt p.payload 0 2 == 0xFFFF)) :=
    List.mem_filter.2 ⟨List.mem_range.2 h512, Bool.and_eq_true_iff.2 ⟨beq_iff_eq.2 hm, by simp [hl]⟩⟩
  rw [foldl_once (List.nodup_range.filter _) hmem rfl (fun b hb hne => absurd (hone b hb) hne) fun b hb hne => absurd (hone b hb) hne] at hx
  exact ⟨_, exec_next hx (pHandover_wellFormed hp) rfl hpend, hsome⟩

theorem pTile_status {p : TilePkt} {l h : Nat} {s : State} (hp : p.soundPartner 5 48) (hh : s.linkHears = true) (hst : s.linkState = 5) (hl : fieldAt p.payload 0 2 = l)
    (h512 : l < 512) (hm : s.dirMode l = 3) (hhop : byteAt p.payload 2 = h) (h1 : 1 ≤ h) (h32 : h ≤ 32) (hk : byteAt p.payload 3 = 1) :
    exec (.pTile p) s = .next ((s.atLeast p.time).modTile l h (Tile.told (List.take 16 (List.drop 16 p.payload)))) := by
  subst hl hhop
  refine exec_next rfl (pTile_wellFormed hp) ((partnerReceive_taken hp hh (.inr hst)).trans ((if_neg ?_).trans ((if_neg (by omega)).trans (if_pos hk)))) rfl
  rintro (h | h | h | h | h)
  exacts [h hst, absurd h512 (Nat.not_lt.2 h), h hm, absurd h1 (by omega), absurd h32 (by omega)]

theorem Waits.loop {op : Nat} {c : Cmd} {e t : State} (h : Waits op c e t) (l : Nat) : t.loop l = e.loop l := by
  obtain ⟨-, -, ht, -⟩ := h
  rw [ht]
  rfl

end Sys2Proof.Machine

open Sys2Proof Sys2Proof.Machine in
/-- Settles O56: each clause names one effect of a command that the lemmas on Midway and on the partner link describe in full. -/
theorem everyMidwayCommandCompletes : Obligations.EveryMidwayCommandCompletes := by
  unfold Obligations.EveryMidwayCommandCompletes
  refine ⟨?_, ?_, ?_, ?_, ?_, ?_, ?_, ?_, ?_, ?_, ?_, ?_, ?_, ?_, ?_, ?_, ?_, ?_, ?_, ?_, ?_, ?_, ?_, ?_, ?_, ?_, ?_, ?_, ?_, ?_, ?_, ?_, ?_, ?_, ?_, ?_⟩
  · intro c p l r d1 d2 s hc hp hst hpw hph hl hm hr h0 hb hd1 hd2 hf
    obtain ⟨t, hexec, hsent, -⟩ := fsoSend_plain hc hp hst hpw hph hl hm hr h0 hb hd1 hd2 hf
    exact ⟨t, hexec, hsent⟩
  · intro l h c p y m codes s hl h1 h32 hc hp hm hout htakes
    obtain ⟨t, hexec, hcv, -⟩ := tileLineSend_drops hl h1 h32 hc hp hm hout htakes
    exact ⟨t, hexec, by rw [hcv]⟩
  · intro l e s hl he hm hpw hfeed hrun
    obtain ⟨t, hexec, hside, -⟩ := discoverInterval_asks hl he hm hpw hfeed hrun
    exact ⟨t, hexec, by rw [hside]⟩
  · intro p e f c h s he hp hport hh hm hlen hrun hend hid hpos h1 hc h32 hhop ha hb hcheck hphase hleft
    obtain ⟨t, hexec, htile, -⟩ := tileId_found he hp hport hh hm hlen hrun hend hid hpos h1 hc hhop ha hb hcheck hphase hleft
    exact ⟨t, hexec, by rw [htile], by rw [htile]⟩
  · intro p e k g s hp he hh hlen hr hm hk hg
    obtain ⟨t, hexec, hans, -⟩ := cfgReply_completes hp he hh hlen hr hm hk hg
    unfold cfgResult at hans
    exact ⟨t, hexec, fun h0 hop => by simpa [h0, hop] using hans, fun h0 hop => by simpa [h0, hop] using hans⟩
  · intro p e h s hp he hh hlen hm hhop h1 h32
    exact ⟨_, tileStatus_kept hp he hh hlen hm hhop h1 h32, congrArg Tile.status (tile_modTile_same _ _ _ _), rfl⟩
  · intro p d1 d2 d3 t r s hp h1 h2 hsum he hh hm hnew hkind hr1 hrn h32 htrap hreach hfound hb
    exact tileAlarmReceived_narrows hp h1 h2 hsum he hh hm hnew hkind hr1 hrn htrap hreach
  · exact fun l e s hl he hown hr hpw ht hrun htrap => feedWatchdog_starts hl he hown hr hpw ht hrun htrap
  · exact fun l r s hl hm h32 hst hd hbr har ha hr h0 => failoverTrained_feeds hl hm hst hd hbr har hr h0
  · intro l h e s hl h1 h32 he hpw hq
    obtain ⟨t, hexec, htag, htile, -⟩ := tilePoll_sends hl h1 h32 he hpw hq
    exact ⟨t, hexec, htag, by rw [htile]⟩
  · intro l h s hl h1 h32 hp hst
    obtain ⟨t, hexec, htile, -, -, hctl⟩ := tilePollTimeout_misses hl h1 h32 hp hst
    exact ⟨t, hexec, by rw [htile], hctl⟩
  · intro l tag k g s hl ht hk hg
    obtain ⟨t, hexec, hans, -⟩ := tileCfgTimeout_completes hl ht hk hg
    exact ⟨t, hexec, hans⟩
  · exact fun l s hl hm hi hf hrev hfree hb htrap => revertHoldExpiry_starts hl hm hi hf hrev hfree hb htrap
  · exact fun l h s hl hh ht ha hm har hbr => handoverReady_trains hl hh ht ha har hbr
  · exact fun l tk h g s hl hh hgo htk hg htrap hhand => handoverAbandon_answers hl hh hgo htk hg htrap hhand
  · exact fun p s hp hh hst hproto hrole hwant hprobes => pIdentity_identifies hp hh hst hproto hrole hwant hprobes
  · exact fun p e s hp hh hst hnext _ => pHeartbeat_counts hp hh hst hnext
  · exact fun t d1 d2 d3 s hsum h2 hh hpt hst hprev => pmark_first hsum h2 hh hpt hst hprev
  · intro p l s hp hh hst hrole hy hl h512 hm hf
    subst hl
    exact pLoop_tells hp hh hst hrole hy rfl h512 hm hf
  · exact fun p l s hp hh hst hl h512 hm hk hfree hf hy hr h0 hcv => pHandover_accepts hp hh hst hl h512 hm hk hfree hf hy hr h0 hcv
  · intro p l h s hp hh hst hl h512 hm hhop h1 h32 hk
    exact ⟨_, pTile_status hp hh hst hl.symm h512 hm hhop.symm h1 h32 hk, congrArg Tile.status (tile_modTile_same _ _ _ _), rfl⟩
  · intro c s ha ho h h0
    obtain ⟨t, hexec, hans, -⟩ := partnerConfig_disables ha ho h h0
    exact ⟨t, hexec, hans⟩
  · intro c s ha ho hl h0 h1
    obtain ⟨t, hexec, hans, -⟩ := loopDiscover_answers ha ho hl h0 h1
    exact ⟨t, hexec, hans⟩
  · intro c l h e tag s hl' hh hl h1 h32 hq he htag ha ho
    obtain ⟨t, hexec, hwait⟩ := tileCfgWrite_sends ha ho hl' hh hl h1 h32 hq he htag
    exact ⟨t, hexec, hwait.unanswered, congrArg Loop.cfgTag ((hwait.loop l).trans (loop_modLoop_same l _ s))⟩
  · intro c l h e tag s hl' hh hl h1 h32 hq he htag ha ho
    obtain ⟨t, hexec, hwait⟩ := tileCfgRead_sends ha ho hl' hh hl h1 h32 hq he htag
    exact ⟨t, hexec, hwait.unanswered, congrArg Loop.cfgTag ((hwait.loop l).trans (loop_modLoop_same l _ s))⟩
  · intro c l h n s ha ho hl' hh hn hl h1 hn1 hn12 hfit hok
    obtain ⟨t, hexec, hans, -⟩ := tileStatusRead_reads ha ho hl' hh hn hl h1 hn1 hn12 hfit
    exact ⟨t, _, hexec, hans⟩
  · intro c l m s ha ho hl' hm' hl hm hfree hr
    obtain ⟨t, hexec, hans, -⟩ := loopFeed_forces ha ho (loopFeedBody_automatic (s := s.entered 0x0405 c) hl'.symm hm'.symm hl
      ((congrArg Loop.handover (entered_loop ..)).trans hfree) hm ((entered_reachesAll ..).trans hr))
    exact ⟨t, hexec, hans⟩
  · intro p d1 d2 d3 t e s hp h1 hsum h64 hh he h7 h6 hnew h0 hforced hrun hm hb
    subst h0
    exact tilePortAlign_trains hp h1 hsum h64 hh he h7 h6 hnew hforced hrun hm hb
  · intro p e s hp he hh hm hlen hfrom hcount hd hr h0 hb
    obtain ⟨t, hexec, hloop, -⟩ := discoverReceived_proves hp he hh hm hlen hfrom hcount hd hr h0 hb
    exact ⟨t, hexec, by rw [hloop]⟩
  · exact fun p d1 d2 d3 t e s hp h1 h2 hsum he hh hm hd hr h0 hb => fsoReceived_evaluates hp h1 h2 hsum he hh hm hd hr h0 hb
  · exact fun k s hk hst hm => partnerSignalDetect_locks hk hst hm
  · exact fun l s hl hh hst hfull => partnerAlign_deskews hl hh hst hfull
  · exact fun q d3 t s h3 hsum hh hst => partnerProbe_echoes h3 hsum hh hst
  · exact fun s hst hq => pHeartbeatSend_counts hst hq
  · exact fun s hst hq _ _ => partnerHeartbeatTimeout_retrains hst hq
  · exact fun s h2 h4 => partnerTrainTimeout_restarts h2 h4
end

section
/-! What a step changes in one bin: the bin, its reports, its service condition and event records (O43; 10_recording.md). -/

namespace Sys2Proof.Machine

/-- Bin `b`, the parameters at the keys `l`, service conditions and event records may differ, and nothing else. -/
def BinStep (b : Nat) (l : List Nat) (s t : State) : Prop :=
  (∀ k, k ≠ b → t.bin? k = s.bin? k) ∧ SameParams l s t
    ∧ EventsOnly { s with params := t.params, ctl := { s.ctl with service := t.ctl.service }, fr := { s.fr with bins := t.fr.bins, volClip := t.fr.volClip } } t

theorem BinStep.refl (b : Nat) (l : List Nat) (s : State) : BinStep b l s s := ⟨fun _ _ => rfl, fun _ _ => rfl, EventsOnly.refl s⟩

theorem BinStep.trans {b : Nat} {l : List Nat} {s t u : State} (h : BinStep b l s t) (g : BinStep b l t u) : BinStep b l s u := by
  obtain ⟨hbin, hpar, hev⟩ := h
  obtain ⟨gbin, gpar, gev⟩ := g
  exact ⟨fun k hk => (gbin k hk).trans (hbin k hk), hpar.trans gpar, (hev.lift (fun x : State => { x with
    params := u.params, ctl := { x.ctl with service := u.ctl.service }, fr := { x.fr with bins := u.fr.bins, volClip := u.fr.volClip } })
      (fun _ _ _ _ _ => rfl) fun _ => rfl).trans gev⟩

theorem BinStep.mono {b : Nat} {l m : List Nat} {s t : State} (h : BinStep b l s t) (hm : ∀ k ∈ l, k ∈ m) : BinStep b m s t := ⟨h.1, h.2.1.mono hm, h.2.2⟩

theorem BinStep.frame {b : Nat} {l : List Nat} {s t : State} (h : BinStep b l s t) : ∃ p sv bins vol w v m a, t = { s with
    params := p, fr := { s.fr with bins := bins, volClip := vol }
    ctl := { s.ctl with service := sv, wins := w, views := v, hostMem := m, aer := a } } := by
  obtain ⟨-, -, hev⟩ := h
  obtain ⟨w, v, m, a, ht, -⟩ := hev.rings
  exact ⟨_, _, _, _, w, v, m, a, ht⟩

theorem BinStep.now {b : Nat} {l : List Nat} {s t : State} (h : BinStep b l s t) : t.now = s.now := by
  obtain ⟨p, sv, bins, vol, w, v, m, a, rfl⟩ := h.frame; rfl

theorem BinStep.ring {b : Nat} {l : List Nat} {s t : State} (h : BinStep b l s t) : t.ring = s.ring := by
  obtain ⟨p, sv, bins, vol, w, v, m, a, rfl⟩ := h.frame; rfl

theorem BinStep.pending {b : Nat} {l : List Nat} {s t : State} (h : BinStep b l s t) : t.pending = s.pending := by
  obtain ⟨p, sv, bins, vol, w, v, m, a, rfl⟩ := h.frame; rfl

theorem BinStep.getP {b : Nat} {l : List Nat} {s t : State} (h : BinStep b l s t) {i e : Nat} (hk : pkey i e ∉ l) : t.getP i e = s.getP i e := h.2.1.getP hk

theorem ParamEvents.binStep {l : List Nat} {s t : State} (h : ParamEvents l s t) (b : Nat) : BinStep b l s t := by
  obtain ⟨hev, hpar⟩ := h
  generalize t.params = p at hev
  obtain ⟨w, v, m, a, rfl, hr⟩ := hev.rings
  exact ⟨fun k _ => rfl, hpar, ⟨w, v, m, a, rfl⟩, hr⟩

theorem EventsOnly.binStep {s t : State} (h : EventsOnly s t) (b : Nat) (l : List Nat) : BinStep b l s t := ((ParamEvents.refl l s).events h).binStep b

theorem EventsOnly.bin? {s t : State} (h : EventsOnly s t) (b : Nat) : t.bin? b = s.bin? b := by
  obtain ⟨w, v, m, a, rfl, -⟩ := h.rings; rfl

/-! ### The operations on a bin -/

theorem State.setBin_bin (b : Nat) (x : Option Bin) (s : State) : (s.setBin b x).bin? b = x := SMap.get_set_same _ _ _ _

theorem setBin_step (b : Nat) (l : List Nat) (x : Option Bin) (s : State) : BinStep b l s (s.setBin b x) :=
  ⟨fun _ hk => SMap.get_set_other _ _ hk _, fun _ _ => rfl, EventsOnly.refl _⟩

theorem State.modBin_some {b : Nat} {x : Bin} {s : State} (h : s.bin? b = some x) (f : Bin → Bin) : s.modBin b f = s.setBin b (some (f x)) := by
  rw [State.modBin, h]

theorem setP_bin (i e v b : Nat) (s : State) : (s.setP i e v).bin? b = s.bin? b := rfl

theorem binKeys_mem (b : Nat) : pkey P.FR_BIN_USED b ∈ binKeys b ∧ pkey P.FR_BIN_PROTECTED b ∈ binKeys b ∧ pkey P.FR_BIN_OLDEST b ∈ binKeys b :=
  ⟨List.mem_cons_self, List.mem_cons_of_mem _ List.mem_cons_self, List.mem_cons_of_mem _ (List.mem_cons_of_mem _ List.mem_cons_self)⟩

theorem binReport_paramsOnly (b : Nat) (s : State) : ParamsOnly (binKeys b) s (s.binReport b) := by
  obtain ⟨hu, hp, ho⟩ := binKeys_mem b
  unfold State.binReport
  split
  · exact (((ParamsOnly.refl _ s).setP hu _).setP hp _).setP ho _
  · exact (((ParamsOnly.refl _ s).setP hu _).setP hp _).setP ho _

theorem binReport_bin (b k : Nat) (s : State) : (s.binReport b).bin? k = s.bin? k := by
  rw [(binReport_paramsOnly b s).1]; rfl

theorem binReport_step (b : Nat) (s : State) : BinStep b (binKeys b) s (s.binReport b) := (binReport_paramsOnly b s).events.binStep b

theorem writeCheckpoint_step {b : Nat} {x : Bin} {s : State} (h : s.bin? b = some x) (l : List Nat) :
    BinStep b l s (s.writeCheckpoint b) ∧ (s.writeCheckpoint b).bin? b = some (x.checkpointed s.now) := by
  have hw : s.writeCheckpoint b = { s with fr := { s.fr with
      bins := SMap.set binDef s.fr.bins b (some (x.checkpointed s.now)), volClip := SMap.set (fun _ => 0) s.fr.volClip b x.nextClip } } := by
    rw [State.writeCheckpoint, h]; rfl
  rw [hw]
  exact ⟨⟨fun k hk => SMap.get_set_other binDef s.fr.bins hk (some (x.checkpointed s.now)), fun _ _ => rfl, EventsOnly.refl _⟩, SMap.get_set_same binDef s.fr.bins b (some (x.checkpointed s.now))⟩

theorem setBinState_effect (b new reason : Nat) (s : State) :
    ParamEvents [pkey P.FR_BIN_STATE b] s (s.setBinState b new reason) ∧ (s.setBinState b new reason).binState b = new ∧ (s.setBinState b new reason).fr = s.fr := by
  unfold State.setBinState
  dsimp only
  split
  · next h => exact ⟨ParamEvents.refl _ s, h, rfl⟩
  · exact ⟨((ParamEvents.refl _ s).setP List.mem_cons_self new).events (eventsOnly_post _ _ _ _ _),
      (State.post_getP _ _ _ _ _ _ _).trans (State.getP_setP_same _ _ _ _), by rw [State.post_fr, State.setP_fr]⟩

theorem raiseService_step (c : ServiceCond) (b : Nat) (l : List Nat) (s : State) : BinStep b l s (s.raiseService c) := by
  obtain ⟨x, hx, -⟩ := raiseService_events c s
  exact BinStep.trans (t := { s with ctl := { s.ctl with service := x } }) ⟨fun _ _ => rfl, fun _ _ => rfl, EventsOnly.refl _⟩ (hx.binStep b l)

theorem clearService_step (c : ServiceCond) (b : Nat) (l : List Nat) (s : State) : BinStep b l s (s.clearService c) := by
  obtain ⟨x, hx⟩ := clearService_events c s
  exact BinStep.trans (t := { s with ctl := { s.ctl with service := x } }) ⟨fun _ _ => rfl, fun _ _ => rfl, EventsOnly.refl _⟩ (hx.binStep b l)

theorem raiseService_bin (c : ServiceCond) (b : Nat) (s : State) : (s.raiseService c).bin? b = s.bin? b := by
  obtain ⟨x, hx, -⟩ := raiseService_events c s
  exact hx.bin? b

theorem clearService_bin (c : ServiceCond) (b : Nat) (s : State) : (s.clearService c).bin? b = s.bin? b := by
  obtain ⟨x, hx⟩ := clearService_events c s
  exact hx.bin? b

/-- The review of a bin's quota notes whether it is over it, and changes nothing else of the bin (R44). -/
theorem reviewBinQuota_step {b : Nat} {x : Bin} {s : State} (h : s.bin? b = some x) (l : List Nat) : BinStep b l s (s.reviewBinQuota b)
    ∧ (s.reviewBinQuota b).bin? b = some { x with quotaOver := decide (x.quota < x.held) } := by
  unfold State.reviewBinQuota
  rw [h]
  dsimp only
  have hnote : ∃ t, (if (decide (x.quota < x.held) == x.quotaOver) = true then s
      else (s.setBin b (some { x with quotaOver := decide (x.quota < x.held) })).quotaChange (decide (x.quota < x.held)) 0 0xA b 0) = t
      ∧ BinStep b l s t ∧ t.bin? b = some { x with quotaOver := decide (x.quota < x.held) } := by
    refine ⟨_, rfl, ?_⟩
    split
    · next hsame =>
      rw [eq_of_beq hsame]
      exact ⟨BinStep.refl b l s, h⟩
    · have hev := eventsOnly_post (s.setBin b (some { x with quotaOver := decide (x.quota < x.held) })) 0x09 0xA b
        (b2n (decide (x.quota < x.held)) + at' 8 0 + at' 16 0)
      exact ⟨(setBin_step b l _ s).trans (hev.binStep b l), (hev.bin? b).trans (State.setBin_bin _ _ _)⟩
  obtain ⟨t, ht, hstep, hbin⟩ := hnote
  rw [ht]
  split
  · exact ⟨hstep.trans (raiseService_step _ b l t), (raiseService_bin _ b t).trans hbin⟩
  · exact ⟨hstep.trans (clearService_step _ b l t), (clearService_bin _ b t).trans hbin⟩

theorem BinStep.post {b : Nat} {l : List Nat} {s t : State} (h : BinStep b l s t) (c d e f : Nat) : BinStep b l s (t.post c d e f) :=
  h.trans ((eventsOnly_post t c d e f).binStep b l)

theorem BinStep.setP {b : Nat} {l : List Nat} {s t : State} (h : BinStep b l s t) {i e : Nat} (hm : pkey i e ∈ l) (v : Nat) : BinStep b l s (t.setP i e v) :=
  h.trans (((ParamEvents.refl l t).setP hm v).binStep b)

theorem State.post_bin (a c d e b : Nat) (s : State) : (s.post a c d e).bin? b = s.bin? b := (eventsOnly_post s a c d e).bin? b

theorem binKeys_own {b : Nat} {k : Nat} (h : k ∈ binKeys b) : k ∈ binOwn b :=
  List.mem_cons_of_mem _ (List.mem_cons_of_mem _ (List.mem_cons_of_mem _ h))

theorem state_own (b : Nat) : pkey P.FR_BIN_STATE b ∈ binOwn b := List.mem_cons_self

theorem quota_own (b : Nat) : pkey P.FR_BIN_QUOTA b ∈ binOwn b := List.mem_cons_of_mem _ List.mem_cons_self

/-- A checkpoint, and then the report of the bin. -/
theorem checkpointReport_step {b : Nat} {x : Bin} {s : State} (h : s.bin? b = some x) : BinStep b (binKeys b) s ((s.writeCheckpoint b).binReport b)
    ∧ ((s.writeCheckpoint b).binReport b).bin? b = some (x.checkpointed s.now) := by
  obtain ⟨hstep, hbin⟩ := writeCheckpoint_step h (binKeys b)
  exact ⟨hstep.trans (binReport_step b _), (binReport_bin b b _).trans hbin⟩

end Sys2Proof.Machine
end

section
/-! BIN_RECOVERY of a bin whose clips are all closed (O43, the first part; R318). -/

namespace Sys2Proof.Machine

theorem recovery_own {b : Nat} {k : Nat} (h : k ∈ binKeys b) : k ∈ pkey P.FR_BIN_STATE b :: pkey P.FR_BIN_QUOTA b :: (binKeys b ++ bwKeys) :=
  List.mem_cons_of_mem _ (List.mem_cons_of_mem _ (List.mem_append_left _ h))

theorem binRecovery_idle {b : Nat} {s : State} (hb : b < 64) (h : s.bin? b = none ∨ s.binState b ≠ 2) : exec (.binRecovery b) s = .next s := by
  refine exec_next (i := .binRecovery b) rfl (decide_eq_true hb) ?_ rfl
  rcases h with h | h
  · rw [h]
  · cases s.bin? b with
    | none => rfl
    | some x => exact if_pos h

/-- Gaps written to the open clip of a bin. -/
def State.writeGaps (b : Nat) (gaps : List GapRun) (s : State) : State :=
  match (s.bin? b).bind Bin.openClip with
  | some c => gaps.foldl (fun v g => v.writeGap b c.id g) s
  | none => s

/-- The state of a recovered bin before the checkpoint, whose clips were all closed: it captures, or it is idle (R318). -/
def State.recovered (b : Nat) (x : Bin) (s : State) : State :=
  if s.getP P.FR_BIN_ARM b == 1 then
    let t := (s.setP P.FR_BIN_QUOTA b x.quota).setBinState b 4 2
    if s.captureHeld then t else (t.startCapture b).writeGaps b (x.lossGaps (s.getP P.FR_BIN_SOURCES b))
  else (((s.setP P.FR_BIN_QUOTA b x.quota).gapClip b 4 (x.runs ++ x.lossGaps (s.getP P.FR_BIN_SOURCES b))).modBin b fun b => { b with runs := [] }).setBinState b 3 2

theorem binRecovery_closed {b : Nat} {x : Bin} {s u : State} (hb : b < 64) (hx : s.bin? b = some x) (hst : s.binState b = 2) (hc : ∀ c ∈ x.clips, c.phase = 2)
    (hu : ((s.recovered b x).writeCheckpoint b).binReport b = u) (hp : u.pending = s.pending) : exec (.binRecovery b) s = .next u := by
  have hopen : x.clips.filter (fun c => decide (c.phase < 2)) = [] := List.filter_eq_nil_iff.2 fun c h => by rw [hc c h]; decide
  have hover : x.clips.filter (fun c => c.phase == 1) = [] := List.filter_eq_nil_iff.2 fun c h => by rw [hc c h]; decide
  refine exec_next (i := .binRecovery b) rfl (decide_eq_true hb) ?_ hp
  rw [hx]
  dsimp only
  rw [if_neg (fun h => h hst), hopen, hover, ← hu]
  rfl

/-- Not armed, without sources and without runs: IDLE after a checkpoint. -/
theorem binRecovery_idles {b : Nat} {x : Bin} {s : State} (hb : b < 64) (hx : s.bin? b = some x) (hst : s.binState b = 2) (hc : ∀ c ∈ x.clips, c.phase = 2)
    (hr : x.runs = []) (ha : s.getP P.FR_BIN_ARM b ≠ 1) (hsrc : s.getP P.FR_BIN_SOURCES b = 0) : ∃ t, exec (.binRecovery b) s = .next t ∧ t.binState b = 3
      ∧ t.bin? b = some (x.checkpointed s.now) ∧ t.getP P.FR_BIN_QUOTA b = x.quota ∧ BinOnly b s t := by
  have hrec : s.recovered b x = ((s.setP P.FR_BIN_QUOTA b x.quota).setBin b (some x)).setBinState b 3 2 := by
    have hnone : x.runs ++ x.lossGaps (s.getP P.FR_BIN_SOURCES b) = [] := by rw [hr, hsrc]; rfl
    have hmod : (s.setP P.FR_BIN_QUOTA b x.quota).modBin b (fun b => { b with runs := [] }) = (s.setP P.FR_BIN_QUOTA b x.quota).setBin b (some x) := by
      rw [State.modBin_some (x := x) (s := s.setP P.FR_BIN_QUOTA b x.quota) hx, ← hr]
    rw [State.recovered, if_neg (by simpa using ha), hnone]
    exact congrArg (State.setBinState b 3 2) hmod
  have hq : ((s.setP P.FR_BIN_QUOTA b x.quota).setBin b (some x)).getP P.FR_BIN_QUOTA b = x.quota := State.getP_setP_same s _ _ _
  have h1 : BinStep b (binOwn b) s ((s.setP P.FR_BIN_QUOTA b x.quota).setBin b (some x)) := ((BinStep.refl b _ s).setP (quota_own b) _).trans (setBin_step b _ _ _)
  have hbin1 : ((s.setP P.FR_BIN_QUOTA b x.quota).setBin b (some x)).bin? b = some x := State.setBin_bin _ _ _
  generalize (s.setP P.FR_BIN_QUOTA b x.quota).setBin b (some x) = v at hrec hq h1 hbin1
  obtain ⟨hset, hstate, hfr⟩ := setBinState_effect b 3 2 v
  have h2 : BinStep b (binOwn b) s (v.setBinState b 3 2) := h1.trans ((hset.binStep b).mono fun k hk => by rw [List.mem_singleton.1 hk]; exact state_own b)
  have hbin2 : (v.setBinState b 3 2).bin? b = some x := by rw [State.bin?, hfr]; exact hbin1
  have hq2 : (v.setBinState b 3 2).getP P.FR_BIN_QUOTA b = x.quota := (hset.getP (fun h => absurd (List.mem_singleton.1 h) (by simp [pkey]))).trans hq
  rw [← hrec] at h2 hbin2 hq2 hstate
  obtain ⟨hstep, hbin⟩ := checkpointReport_step hbin2
  rw [h2.now] at hbin
  have hkeep : ∀ i, pkey i b ∉ binKeys b → (((s.recovered b x).writeCheckpoint b).binReport b).getP i b = (s.recovered b x).getP i b := fun i hi => hstep.getP hi
  have hall := h2.trans (hstep.mono fun k hk => binKeys_own hk)
  exact ⟨_, binRecovery_closed hb hx hst hc rfl hall.pending, (hkeep _ (by simp [binKeys, pkey])).trans hstate, hbin,
    (hkeep _ (by simp [binKeys, pkey])).trans hq2, hall⟩

end Sys2Proof.Machine
end

section
/-! BIN_RECOVERY of an armed bin with one source: a clip opens, and the gap of POWER_LOSS is its first record (O43; R296, R308, R315, R318). -/

namespace Sys2Proof.Machine

/-! ### A record in the room left at the write position (R308) -/

theorem Bin.shedOver_within {x : Bin} (h : x.held ≤ x.quota) (n : Nat) (gone : List Nat) : Bin.shedOver n x gone = (x, gone) := by
  cases n with
  | zero => rfl
  | succ n => exact if_pos h

theorem Bin.allot_room {x : Bin} {n : Nat} (h : x.woff + n ≤ segBytes) (hn : n ≠ 0) (fuel : Nat) (gone : List Nat) :
    Bin.allot (fuel + 1) n x [] gone = ({ x with woff := x.woff + n }, [(x.wseg, x.woff, n)], gone, true) := by
  unfold Bin.allot
  dsimp only
  rw [if_pos (by omega), if_neg hn]
  rfl

/-- The bin with a record appended to its clip `id` in the segment of its write position. -/
def Bin.appended (x : Bin) (id : Nat) (r : Rec) : Bin :=
  { x with woff := x.woff + r.len, seq := x.seq + 1, noSpace := false
           clips := x.clips.map fun c => if c.id = id then
             { c with recs := c.recs ++ [{ r with seq := x.seq, pieces := [(x.wseg, x.woff, r.len)] }] } else c }

theorem binAppend_room {b id : Nat} {x : Bin} {r : Rec} {s : State} (hx : s.bin? b = some x) (hq : x.held ≤ x.quota) (hroom : x.woff + r.len ≤ segBytes) :
    ∃ t o, s.binAppend b id r = (t, true) ∧ BinStep b (binKeys b) s t ∧ t.bin? b = some { x.appended id r with quotaOver := o } := by
  have hset := setBin_step b (binKeys b) (some (x.appended id r)) s
  obtain ⟨hrev, hbin⟩ := reviewBinQuota_step (State.setBin_bin b (some (x.appended id r)) s) (binKeys b)
  refine ⟨_, decide ((x.appended id r).quota < (x.appended id r).held), ?_, (hset.trans hrev).trans (binReport_step b _), (binReport_bin b b _).trans hbin⟩
  have hlen : r.len ≠ 0 := by rw [Rec.len]; omega
  rw [State.binAppend, hx]
  dsimp only
  rw [Bin.shedOver_within hq, Bin.allot_room hroom hlen]
  dsimp only
  rw [if_neg (fun h => absurd h.1 (Nat.not_lt.2 hq)), if_pos rfl]
  rfl

/-- The record of a gap (Table 10-5). -/
def gapRec (g : GapRun) : Rec := { typ := 2, source := g.source, seq := 0, tag := g.tag, body := gapBody g.count g.reason g.number }

theorem gapRec_len (g : GapRun) : (gapRec g).len = 64 := by simp [gapRec, Rec.len, gapBody]

theorem writeGap_room {b id : Nat} {x : Bin} {g : GapRun} {s : State} (hx : s.bin? b = some x) (hq : x.held ≤ x.quota) (hroom : x.woff + 64 ≤ segBytes)
    (hr : x.runs = []) : ∃ o, BinStep b (binKeys b) s (s.writeGap b id g) ∧ (s.writeGap b id g).bin? b = some { x.appended id (gapRec g) with quotaOver := o } := by
  obtain ⟨t, o, happ, hstep, hbin⟩ := binAppend_room (id := id) (r := gapRec g) hx hq (by rw [gapRec_len]; exact hroom)
  have hruns : { x.appended id (gapRec g) with quotaOver := o, runs := x.runs.filter (· != g) } = { x.appended id (gapRec g) with quotaOver := o } := by
    rw [hr]
    change _ = { x.appended id (gapRec g) with quotaOver := o, runs := x.runs }
    rw [hr]; rfl
  have hgap : s.writeGap b id g = (t.modBin b fun x => { x with runs := x.runs.filter (· != g) }).post 0x70 0xA b
      (g.source + at' 8 g.reason + at' 16 g.count + at' 48 g.tag) := by
    unfold State.writeGap
    rw [← gapRec, happ]
    rfl
  rw [hgap, State.modBin_some hbin]
  refine ⟨o, (hstep.trans (setBin_step b _ _ t)).post _ _ _ _, ?_⟩
  rw [State.post_bin, State.setBin_bin]
  exact congrArg some hruns

/-! ### The clip that recovery opens (R309) -/

/-- A clip that begins in the master period of tag `tag`. -/
def freshClip (id tag now sources : Nat) : Clip := { id := id, first := tag, last := tag, recs := [], t0 := now, sources := sources }

/-- The bin with a clip opened. -/
def Bin.opened (x : Bin) (tag now sources : Nat) : Bin :=
  { x with nextClip := x.nextClip + 1, mark := false, clips := x.clips ++ [freshClip x.nextClip tag now sources] }

theorem Bin.opened_held (x : Bin) (tag now sources : Nat) : (x.opened tag now sources).held = x.held := by
  have hused : ∀ g, (x.opened tag now sources).used g = x.used g := fun g => by
    simp [Bin.used, Bin.opened, Clip.uses, freshClip]
  have hfun : (fun g => (x.opened tag now sources).used g) = fun g => x.used g := funext hused
  unfold Bin.held
  rw [hfun]
  rfl

theorem Bin.opened_openClip {x : Bin} (hc : ∀ c ∈ x.clips, c.phase = 2) (tag now sources : Nat) :
    (x.opened tag now sources).openClip = some (freshClip x.nextClip tag now sources) := by
  unfold Bin.openClip Bin.opened
  rw [List.find?_append, List.find?_eq_none.2 fun c h => by rw [hc c h]; decide]
  rfl

theorem startCapture_opens {b : Nat} {x : Bin} {s : State} (hx : s.bin? b = some x) (hc : ∀ c ∈ x.clips, c.phase = 2) (hr : x.runs = []) :
    s.startCapture b = (s.setBin b (some (x.opened s.ring.tag s.now (s.getP P.FR_BIN_SOURCES b)))).recordBw := by
  have hopen : s.openClip b = s.setBin b (some (x.opened s.ring.tag s.now (s.getP P.FR_BIN_SOURCES b))) := State.modBin_some hx _
  have hruns : ∀ id, (s.setBin b (some (x.opened s.ring.tag s.now (s.getP P.FR_BIN_SOURCES b)))).endRuns b id (fun _ => true)
      = s.setBin b (some (x.opened s.ring.tag s.now (s.getP P.FR_BIN_SOURCES b))) := fun id => by
    rw [State.endRuns, State.setBin_bin]
    change (x.runs.filter _).foldl _ _ = _
    rw [hr]; rfl
  rw [State.startCapture, hopen]
  rw [State.setBin_bin, Option.bind_some, Bin.opened_openClip hc]
  exact congrArg State.recordBw (hruns x.nextClip)

theorem recordBw_bw (s : State) : ∃ p w, s.recordBw = { s with params := p, dram := { s.dram with bw := w } } := by
  have key : ∀ (m : List Nat) (f : Nat → Nat), ∃ p w, m.foldl (fun t i => t.bwSet 2 i (f i)) s = { s with params := p, dram := { s.dram with bw := w } } := by
    intro m f
    refine List.foldlRecOn (motive := fun t : State => ∃ p w, t = { s with params := p, dram := { s.dram with bw := w } }) m _ ⟨_, _, rfl⟩ ?_
    rintro _ ⟨p, w, rfl⟩ i -
    exact ⟨_, _, (bwSet_frame 2 i (f i) _).1⟩
  exact key (List.range 8) fun p => 2 * s.recordRate p

theorem recordBw_sameParams (s : State) : SameParams bwKeys s s.recordBw := by
  obtain ⟨_, _, -, h⟩ := recordBw_frame s
  exact h

/-- What the reservations for the recording change between two changes of a bin. -/
theorem BinStep.aroundRecordBw {b : Nat} {l m : List Nat} {s u t : State} (h : BinStep b l s u) (g : BinStep b m u.recordBw t) :
    (∀ k, k ≠ b → t.bin? k = s.bin? k) ∧ SameParams (l ++ m ++ bwKeys) s t ∧ EventsOnly { s with
      params := t.params, ctl := { s.ctl with service := t.ctl.service }, fr := { s.fr with bins := t.fr.bins, volClip := t.fr.volClip }
      dram := { s.dram with bw := t.dram.bw } } t := by
  obtain ⟨p, w, hbw⟩ := recordBw_bw u
  obtain ⟨gbin, gpar, gev⟩ := g
  obtain ⟨hbin, hpar, hev⟩ := h
  have hmid := recordBw_sameParams u
  have hd : t.dram = { u.dram with bw := t.dram.bw } := by
    obtain ⟨_, _, _, _, ht, -⟩ := gev.rings
    rw [ht, hbw]
  refine ⟨fun k hk => (gbin k hk).trans ?_, ?_, ?_⟩
  · rw [hbw]
    exact hbin k hk
  · exact ((hpar.mono fun k hk => by simp [hk]).trans (hmid.mono fun k hk => by simp [hk])).trans (gpar.mono fun k hk => by simp [hk])
  · refine (hev.lift (fun x : State => { x with
      params := t.params, ctl := { x.ctl with service := t.ctl.service }, fr := { x.fr with bins := t.fr.bins, volClip := t.fr.volClip }
      dram := { x.dram with bw := t.dram.bw } }) (fun _ _ _ _ _ => rfl) fun _ => rfl).trans ?_
    have hu : { u.recordBw with params := t.params, ctl := { u.recordBw.ctl with service := t.ctl.service }
                                fr := { u.recordBw.fr with bins := t.fr.bins, volClip := t.fr.volClip } }
        = { u with params := t.params, ctl := { u.ctl with service := t.ctl.service }, fr := { u.fr with bins := t.fr.bins, volClip := t.fr.volClip }
                   dram := t.dram } := by
      obtain ⟨_, _, _, _, ht, -⟩ := gev.rings
      have hdr : u.recordBw.dram = t.dram := by rw [ht]
      rw [← hdr, hbw]
    rw [← hd, ← hu]
    exact gev

end Sys2Proof.Machine
end

section
/-! The recovery of an armed bin assembled (O43; R318). -/

namespace Sys2Proof.Machine

/-- The gap of POWER_LOSS of source `q` that recovery writes. -/
theorem lossGaps_single (x : Bin) {q : Nat} (hq : q < 8) : ∃ g, x.lossGaps (2 ^ q) = [g] ∧ g.source = q ∧ g.reason = 6 ∧ g.count = 0xFFFFFFFF := by
  have hcodes : sourceCodes (2 ^ q) = [q] := (by decide : ∀ q < 8, sourceCodes (2 ^ q) = [q]) q hq
  unfold Bin.lossGaps
  rw [hcodes]
  exact ⟨_, rfl, rfl, rfl, rfl⟩

/-- The clip that opens with the gap as its only record. -/
theorem opened_appended_clips {x : Bin} (hid : ∀ c ∈ x.clips, c.id ≠ x.nextClip) (tag now sources : Nat) {g : GapRun} {q : Nat} (hs : g.source = q) (hr : g.reason = 6) :
    ((x.opened tag now sources).appended x.nextClip (gapRec g)).clips = x.clips ++ [{
      id := x.nextClip, first := tag, last := tag, t0 := now, sources := sources
      recs := [{ typ := 2, source := q, seq := x.seq, tag := g.tag, body := gapBody g.count 6 g.number, pieces := [(x.wseg, x.woff, 64)] }] }] := by
  have hold : x.clips.map (fun c => if c.id = x.nextClip then
      { c with recs := c.recs ++ [{ gapRec g with seq := x.seq, pieces := [(x.wseg, x.woff, (gapRec g).len)] }] } else c) = x.clips :=
    (List.map_congr_left fun c hc => if_neg (hid c hc)).trans (List.map_id x.clips)
  have hmap : ((x.opened tag now sources).appended x.nextClip (gapRec g)).clips = (x.clips ++ [freshClip x.nextClip tag now sources]).map (fun c => if c.id = x.nextClip then
      { c with recs := c.recs ++ [{ gapRec g with seq := x.seq, pieces := [(x.wseg, x.woff, (gapRec g).len)] }] } else c) := rfl
  rw [hmap, List.map_append, hold, gapRec_len]
  unfold gapRec freshClip
  simp [hs, hr]

/-- The armed branch up to the checkpoint: the bin captures, a clip is open, the gap is written. -/
theorem recovered_armed {b q : Nat} {x : Bin} {g : GapRun} {s : State} (hx : s.bin? b = some x) (hc : ∀ c ∈ x.clips, c.phase = 2) (hr : x.runs = [])
    (ha : s.getP P.FR_BIN_ARM b = 1) (hsrc : s.getP P.FR_BIN_SOURCES b = 2 ^ q) (hh : s.captureHeld = false) (hg : x.lossGaps (2 ^ q) = [g]) :
    ∃ w, BinStep b [pkey P.FR_BIN_STATE b, pkey P.FR_BIN_QUOTA b] s w ∧ w.binState b = 4 ∧ w.getP P.FR_BIN_QUOTA b = x.quota
      ∧ w.bin? b = some (x.opened s.ring.tag s.now (2 ^ q)) ∧ s.recovered b x = w.recordBw.writeGap b x.nextClip g := by
  have hqk : pkey P.FR_BIN_QUOTA b ∈ [pkey P.FR_BIN_STATE b, pkey P.FR_BIN_QUOTA b] := List.mem_cons_of_mem _ List.mem_cons_self
  have hq : (s.setP P.FR_BIN_QUOTA b x.quota).getP P.FR_BIN_QUOTA b = x.quota := State.getP_setP_same s _ _ _
  have h1 := (BinStep.refl b [pkey P.FR_BIN_STATE b, pkey P.FR_BIN_QUOTA b] s).setP hqk x.quota
  have hb1 : (s.setP P.FR_BIN_QUOTA b x.quota).bin? b = some x := hx
  have hrec : s.recovered b x = (((s.setP P.FR_BIN_QUOTA b x.quota).setBinState b 4 2).startCapture b).writeGaps b [g] := by
    rw [State.recovered, if_pos (by rw [ha]; rfl)]
    dsimp only
    rw [hh, if_neg Bool.false_ne_true, hsrc, hg]
  generalize s.setP P.FR_BIN_QUOTA b x.quota = p at hq h1 hb1 hrec
  obtain ⟨hset, hstate, hfr⟩ := setBinState_effect b 4 2 p
  have h2 := h1.trans ((hset.binStep b).mono fun k hk => by rw [List.mem_singleton.1 hk]; exact List.mem_cons_self)
  have hb2 : (p.setBinState b 4 2).bin? b = some x := by rw [State.bin?, hfr]; exact hb1
  have hq2 : (p.setBinState b 4 2).getP P.FR_BIN_QUOTA b = x.quota := (hset.getP (fun h => absurd (List.mem_singleton.1 h) (by simp [pkey]))).trans hq
  have hsrc2 : (p.setBinState b 4 2).getP P.FR_BIN_SOURCES b = 2 ^ q := (h2.getP (by simp [pkey])).trans hsrc
  generalize p.setBinState b 4 2 = v at hstate h2 hb2 hq2 hsrc2 hrec
  rw [startCapture_opens hb2 hc hr, hsrc2, h2.now, h2.ring] at hrec
  refine ⟨v.setBin b (some (x.opened s.ring.tag s.now (2 ^ q))), h2.trans (setBin_step b _ _ v), hstate, hq2, State.setBin_bin _ _ _, ?_⟩
  have hbin : (v.setBin b (some (x.opened s.ring.tag s.now (2 ^ q)))).recordBw.bin? b = some (x.opened s.ring.tag s.now (2 ^ q)) := by
    obtain ⟨_, _, hbw⟩ := recordBw_bw (v.setBin b (some (x.opened s.ring.tag s.now (2 ^ q))))
    rw [hbw]
    exact State.setBin_bin b _ v
  rw [hrec, State.writeGaps, hbin, Option.bind_some, Bin.opened_openClip hc]
  rfl

theorem bin_not_mem_bwKeys {b : Nat} (hb : b < 64) : pkey P.FR_BIN_STATE b ∉ bwKeys ∧ pkey P.FR_BIN_QUOTA b ∉ bwKeys := by
  simp only [bwKeys, List.mem_flatMap, List.mem_range, List.mem_cons, List.not_mem_nil, or_false, pkey, P.FR_BIN_STATE, P.FR_BIN_QUOTA, P.BW_RESERVED,
    P.BW_SHORTFALL]
  omega

/-- Armed with one source: CAPTURING, with a clip open that holds the gap. -/
theorem binRecovery_captures {b q : Nat} {x : Bin} {s : State} (hb : b < 64) (hq8 : q < 8) (hx : s.bin? b = some x) (hst : s.binState b = 2)
    (hc : ∀ c ∈ x.clips, c.phase = 2 ∧ c.id ≠ x.nextClip) (hr : x.runs = []) (ha : s.getP P.FR_BIN_ARM b = 1) (hsrc : s.getP P.FR_BIN_SOURCES b = 2 ^ q)
    (hh : s.captureHeld = false) (hheld : x.held ≤ x.quota) (hroom : x.woff + 64 ≤ segBytes) :
    ∃ t y g, exec (.binRecovery b) s = .next t ∧ t.binState b = 4 ∧ x.lossGaps (2 ^ q) = [g] ∧ g.source = q ∧ g.reason = 6 ∧ g.count = 0xFFFFFFFF ∧ t.bin? b = some y
      ∧ y.nextClip = x.nextClip + 1 ∧ y.seq = x.seq + 1 ∧ y.woff = x.woff + 64 ∧ y.clips = x.clips ++ [{
          id := x.nextClip, first := s.ring.tag, last := s.ring.tag, t0 := s.now, sources := 2 ^ q
          recs := [{ typ := 2, source := q, seq := x.seq, tag := g.tag, body := gapBody g.count 6 g.number, pieces := [(x.wseg, x.woff, 64)] }] }]
      ∧ t.getP P.FR_BIN_QUOTA b = x.quota ∧ (∀ k, k ≠ b → t.bin? k = s.bin? k)
      ∧ SameParams (pkey P.FR_BIN_STATE b :: pkey P.FR_BIN_QUOTA b :: (binKeys b ++ bwKeys)) s t ∧ EventsOnly { s with
          params := t.params, ctl := { s.ctl with service := t.ctl.service }, fr := { s.fr with bins := t.fr.bins, volClip := t.fr.volClip }
          dram := { s.dram with bw := t.dram.bw } } t := by
  obtain ⟨g, hg, hgs, hgr, hgc⟩ := lossGaps_single x hq8
  have hphase : ∀ c ∈ x.clips, c.phase = 2 := fun c h => (hc c h).1
  obtain ⟨w, hw, hwst, hwq, hwb, hrec⟩ := recovered_armed hx hphase hr ha hsrc hh hg
  have hub : w.recordBw.bin? b = some (x.opened s.ring.tag s.now (2 ^ q)) := by
    obtain ⟨_, _, hbw⟩ := recordBw_bw w
    rw [hbw]
    exact hwb
  obtain ⟨o, hgap, hgapb⟩ := writeGap_room (id := x.nextClip) (g := g) hub (by rw [Bin.opened_held]; exact hheld) hroom hr
  rw [← hrec] at hgap hgapb
  obtain ⟨hck, hckb⟩ := checkpointReport_step hgapb
  obtain ⟨hbins, hpar, hev⟩ := hw.aroundRecordBw (hgap.trans hck)
  have hbwp : ∀ i, pkey i b ∉ bwKeys → pkey i b ∉ binKeys b → (((s.recovered b x).writeCheckpoint b).binReport b).getP i b = w.getP i b := fun i h1 h2 =>
    ((hgap.trans hck).getP h2).trans ((recordBw_sameParams w).getP h1)
  refine ⟨_, _, g, binRecovery_closed hb hx hst hphase rfl ?_, (hbwp _ ?_ (by simp [binKeys, pkey])).trans hwst, hg, hgs, hgr, hgc, hckb, rfl, rfl, ?_, ?_,
    (hbwp _ ?_ (by simp [binKeys, pkey])).trans hwq, hbins, hpar, hev⟩
  · exact hev.pending
  · exact (bin_not_mem_bwKeys hb).1
  · change x.woff + (gapRec g).len = _
    rw [gapRec_len]
  · exact opened_appended_clips (fun c h => (hc c h).2) _ _ _ hgs hgr
  · exact (bin_not_mem_bwKeys hb).2

end Sys2Proof.Machine
end

section
/-! WEAR_MOVE: a lagging segment moves, or the header segments do (O43; R321). -/

namespace Sys2Proof.Machine

theorem BinStep.hk {b : Nat} {l : List Nat} {s t : State} (h : BinStep b l s t) : t.hk = s.hk := by
  obtain ⟨p, sv, bins, vol, w, v, m, a, rfl⟩ := h.frame; rfl

/-- A background task's run is counted after a change of a bin. -/
theorem BinStep.taskDone {b : Nat} {l : List Nat} {s t : State} (h : BinStep b l s t) (n : Nat) :
    BinStep b l { s with hk := (s.taskDone n).hk } (t.taskDone n) := by
  have hdone : t.taskDone n = { t with hk := (s.taskDone n).hk } := by
    unfold State.taskDone State.modTask
    rw [h.hk, h.now]
  obtain ⟨hbin, hpar, hev⟩ := h
  rw [hdone]
  exact ⟨hbin, hpar, hev.lift (fun x : State => { x with hk := (s.taskDone n).hk }) (fun _ _ _ _ _ => rfl) fun _ => rfl⟩

theorem taskDone_bin (n b : Nat) (s : State) : (s.taskDone n).bin? b = s.bin? b := rfl

theorem wearMove_idle {b : Nat} {s : State} (hb : b < 64) (h : s.bin? b = none ∨ s.bgHeld 9 = true ∨ s.binState b ≠ 3 ∧ s.binState b ≠ 4) :
    exec (.wearMove b) s = .next s := by
  refine exec_next (i := .wearMove b) rfl (decide_eq_true hb) ?_ rfl
  cases hx : s.bin? b with
  | none => rfl
  | some x =>
    refine if_pos ?_
    rcases h with h | h | h
    · rw [h] at hx; nomatch hx
    · exact .inl h
    · exact .inr (by simp [h.1, h.2])

section
variable {b : Nat} {x : Bin} {s : State} (hb : b < 64) (hx : s.bin? b = some x) (hbg : s.bgHeld 9 = false) (hst : s.binState b = 3 ∨ s.binState b = 4)
include hb hx hbg hst

/-- What a bin that may move a segment does. -/
theorem wearMove_next {u : State} (hu : (match x.lagging (s.getP P.FR_WEAR_LAG 0), x.freeAhead with
    | some g, t :: _ =>
      ((((s.setBin b (some (x.moveSeg g t))).writeCheckpoint b).post 0x74 0xA b (g + at' 32 t)).binReport b).taskDone 9
    | _, t :: u :: _ =>
      if (x.data.map fun g => SMap.get (fun _ => 0) x.passes g).sum + 64 * s.getP P.FR_WEAR_LAG 0 * x.data.length
          < max (SMap.get (fun _ => 0) x.passes x.hdrA) (SMap.get (fun _ => 0) x.passes x.hdrB) * x.data.length then
        ((((s.setBin b (some { x with hdrA := t, hdrB := u, gen := x.gen + 1 })).writeCheckpoint b).post 0x74 0xA b (x.hdrA + at' 32 t + at' 64 1)).post 0x74 0xA b
          (x.hdrB + at' 32 u + at' 64 1)).taskDone 9
      else s
    | _, _ => s) = u) (hp : u.pending = s.pending) : exec (.wearMove b) s = .next u := by
  refine exec_next (i := .wearMove b) rfl (decide_eq_true hb) ?_ hp
  rw [hx]
  dsimp only
  rw [if_neg, ← hu]
  · rfl
  · rintro (h | h)
    · rw [hbg] at h; nomatch h
    · rcases hst with h3 | h4
      · simp [h3] at h
      · simp [h4] at h

theorem wearMove_noRoom (hf : x.freeAhead = []) : exec (.wearMove b) s = .next s := by
  refine wearMove_next hb hx hbg hst ?_ rfl
  rw [hf]
  cases x.lagging (s.getP P.FR_WEAR_LAG 0) <;> rfl

theorem wearMove_moves {g f : Nat} {l : List Nat} (hl : x.lagging (s.getP P.FR_WEAR_LAG 0) = some g) (hf : x.freeAhead = f :: l) : ∃ t, exec (.wearMove b) s = .next t
    ∧ t.bin? b = some ((x.moveSeg g f).checkpointed s.now) ∧ BinOnly b { s with hk := (s.taskDone 9).hk } t := by
  have hset := setBin_step b (binOwn b) (some (x.moveSeg g f)) s
  obtain ⟨hck, hckb⟩ := writeCheckpoint_step (State.setBin_bin b (some (x.moveSeg g f)) s) (binOwn b)
  have hall := (((hset.trans hck).post 0x74 0xA b (g + at' 32 f)).trans ((binReport_step b _).mono fun k hk => binKeys_own hk)).taskDone 9
  refine ⟨_, wearMove_next hb hx hbg hst ?_ hall.pending, ?_, hall⟩
  · rw [hl, hf]
  · rw [taskDone_bin, binReport_bin, State.post_bin]
    exact hckb

theorem wearMove_headersStay {f u m : Nat} {l : List Nat} (hl : x.lagging (s.getP P.FR_WEAR_LAG 0) = none) (hf : x.freeAhead = f :: u :: l)
    (hm : m = (x.data.map fun g => SMap.get (fun _ => 0) x.passes g).sum)
    (hpass : max (SMap.get (fun _ => 0) x.passes x.hdrA) (SMap.get (fun _ => 0) x.passes x.hdrB) * x.data.length ≤ m + 64 * s.getP P.FR_WEAR_LAG 0 * x.data.length) :
    exec (.wearMove b) s = .next s := by
  refine wearMove_next hb hx hbg hst ?_ rfl
  rw [hl, hf]
  exact if_neg (Nat.not_lt.2 (hm ▸ hpass))

theorem wearMove_headersMove {f u m : Nat} {l : List Nat} (hl : x.lagging (s.getP P.FR_WEAR_LAG 0) = none) (hf : x.freeAhead = f :: u :: l)
    (hm : m = (x.data.map fun g => SMap.get (fun _ => 0) x.passes g).sum)
    (hpass : m + 64 * s.getP P.FR_WEAR_LAG 0 * x.data.length < max (SMap.get (fun _ => 0) x.passes x.hdrA) (SMap.get (fun _ => 0) x.passes x.hdrB) * x.data.length) :
    ∃ t, exec (.wearMove b) s = .next t ∧ t.bin? b = some (Bin.checkpointed { x with hdrA := f, hdrB := u, gen := x.gen + 1 } s.now)
      ∧ BinOnly b { s with hk := (s.taskDone 9).hk } t := by
  have hset := setBin_step b (binOwn b) (some { x with hdrA := f, hdrB := u, gen := x.gen + 1 }) s
  obtain ⟨hck, hckb⟩ := writeCheckpoint_step (State.setBin_bin b (some { x with hdrA := f, hdrB := u, gen := x.gen + 1 }) s) (binOwn b)
  have hall := (((hset.trans hck).post 0x74 0xA b (x.hdrA + at' 32 f + at' 64 1)).post 0x74 0xA b (x.hdrB + at' 32 u + at' 64 1)).taskDone 9
  refine ⟨_, wearMove_next hb hx hbg hst ?_ hall.pending, ?_, hall⟩
  · rw [hl, hf]
    exact if_pos (hm ▸ hpass)
  · rw [taskDone_bin, State.post_bin, State.post_bin]
    exact hckb

end

end Sys2Proof.Machine
end

section
/-! CLIP_PROTECT and CLIP_MARK, and the statement on recovery, wear and protection assembled (O43; R309, R310, R312). -/

namespace Sys2Proof.Machine

/-- A command that changes one bin completes. -/
theorem BinStep.completes {i : Instr} {spec : OpSpec} {body : Body} {c : Cmd} {s u : State} {b code len r : Nat} (hi : i.wellFormed = true)
    (ha : s.accepts (spec.priv || spec.privIf c) spec.op c) (hl : spec.len c = true) (hr : (c.ops % 2 ^ (8 * c.opLen)) &&& spec.rsvd = 0)
    (hb : c.win = 64 → spec.bus c = true)
    (h2 : body { c := c, tk := s.newTicket, priv := s.privOf c } (s.entered spec.op c) = (u, .done code len r)) (hc : code < 256)
    (h : BinStep b (binOwn b) (s.entered spec.op c) u) :
    ∃ t, guarded i s (submit spec body c s) = .next t ∧ Answered spec.op c code len r t ∧ t.bin? b = u.bin? b ∧ BinCommand c b s t := by
  obtain ⟨hbin, hpar, hev⟩ := h
  have hruns : RunsEvents s spec.op c { s with
      params := u.params, ctl := { s.ctl with service := u.ctl.service }, fr := { s.fr with bins := u.fr.bins, volClip := u.fr.volClip } } u := by
    refine ⟨_, ⟨?_, rfl, rfl, rfl, rfl⟩, hev⟩
    obtain ⟨w, m, k, f, hf⟩ := entered_frame s spec.op c
    rw [hf]
  obtain ⟨t, hx, hans, hcmd, ht⟩ := RunsEvents.completes hi ha hl hr hb h2 hc hruns rfl
  have hfr : t.fr = u.fr := by rw [ht, State.finalReply_fr]
  obtain ⟨hframe, hother, hsame⟩ := hcmd
  have hparams : t.params = u.params := by rw [hframe]
  have hservice : t.ctl.service = u.ctl.service := by rw [hframe]
  have hcq : t.cq = s.cq := by rw [hframe]
  refine ⟨t, hx, hans, by rw [State.bin?, hfr]; rfl, fun k hk => ?_, fun k hk => ?_, ⟨?_, hother, hsame⟩, fun k => by rw [hcq]⟩
  · rw [State.bin?, hfr]
    exact (hbin k hk).trans (by rw [State.bin?, State.entered_fr]; rfl)
  · rw [hparams, hpar k hk, State.entered_params]
  · rw [hparams, hservice, hcq, hfr]
    exact hframe

/-! ### CLIP_PROTECT (R310, R312) -/

/-- The clips that CLIP_PROTECT changes: those that overlap the range, whose protection differs. -/
def Bin.protectHits (x : Bin) (tag lo hi : Nat) (on : Bool) : List Clip :=
  x.clips.filter fun k => k.phase != 3 && tagsMeet k.first (if k.phase = 0 then tag else k.last) lo hi && (k.isProtected != on)

/-- The bin with the protection of the clips named set or cleared. -/
def Bin.flagged (x : Bin) (ids : List Nat) (on : Bool) : Bin :=
  { x with clips := x.clips.map fun (k : Clip) => if ids.contains k.id then { k with flags := if on then setBit k.flags 0 else clrBit k.flags 0 } else k }

theorem Bin.flagged_held (x : Bin) (ids : List Nat) (on : Bool) : (x.flagged ids on).held = x.held := by
  have hused : (fun g => (x.flagged ids on).used g) = fun g => x.used g := by
    funext g
    unfold Bin.used Bin.flagged
    rw [List.any_map]
    refine congrArg (fun p => x.clips.any p) (funext fun k => ?_)
    rw [Function.comp_apply]
    split <;> rfl
  unfold Bin.held
  rw [hused]
  rfl

theorem Bin.checkpointed_held (x : Bin) (now : Nat) : (x.checkpointed now).held = x.held := rfl

/-- The marking of the clips, with a checkpoint if there are any. -/
def State.flagClips (b : Nat) (x : Bin) (ids : List Nat) (on : Bool) (s : State) : State :=
  if ids.isEmpty then s.setBin b (some (x.flagged ids on)) else (s.setBin b (some (x.flagged ids on))).writeCheckpoint b

theorem flagClips_step (b : Nat) (x : Bin) (ids : List Nat) (on : Bool) (s : State) : ∃ y, BinStep b (binOwn b) s (s.flagClips b x ids on)
    ∧ (s.flagClips b x ids on).bin? b = some y ∧ y.clips = (x.flagged ids on).clips ∧ y.ckpt = x.ckpt + (if ids = [] then 0 else 1) ∧ y.held = x.held := by
  have hset := setBin_step b (binOwn b) (some (x.flagged ids on)) s
  have hbin := State.setBin_bin b (some (x.flagged ids on)) s
  cases ids with
  | nil => exact ⟨_, hset, hbin, rfl, rfl, Bin.flagged_held x [] on⟩
  | cons j l =>
    obtain ⟨hck, hckb⟩ := writeCheckpoint_step hbin (binOwn b)
    exact ⟨_, hset.trans hck, hckb, rfl, rfl, Bin.flagged_held x (j :: l) on⟩

/-- A quota that the bin keeps takes effect: nothing is shed (R44). -/
theorem applyBinQuota_within {b : Nat} {x : Bin} {s : State} (hx : s.bin? b = some x) (hq : x.held ≤ s.getP P.FR_BIN_QUOTA b) :
    ∃ y, BinStep b (binOwn b) s (s.applyBinQuota b) ∧ (s.applyBinQuota b).bin? b = some y ∧ y.clips = x.clips ∧ y.ckpt = x.ckpt := by
  have hset := setBin_step b (binOwn b) (some { x with quota := s.getP P.FR_BIN_QUOTA b }) s
  have hbin := State.setBin_bin b (some { x with quota := s.getP P.FR_BIN_QUOTA b }) s
  have hshed : ∀ n, Bin.shedOver n { x with quota := s.getP P.FR_BIN_QUOTA b
                                            quotaOver := decide (s.getP P.FR_BIN_QUOTA b < Bin.held { x with quota := s.getP P.FR_BIN_QUOTA b }) } []
      = ({ x with quota := s.getP P.FR_BIN_QUOTA b
                  quotaOver := decide (s.getP P.FR_BIN_QUOTA b < Bin.held { x with quota := s.getP P.FR_BIN_QUOTA b }) }, []) := fun n =>
    Bin.shedOver_within hq n []
  obtain ⟨hrev, hrevb⟩ := reviewBinQuota_step hbin (binOwn b)
  have happly : s.applyBinQuota b = (let s1 := (s.setBin b (some { x with quota := s.getP P.FR_BIN_QUOTA b })).reviewBinQuota b
      let y1 := (s1.bin? b).getD { x with quota := s.getP P.FR_BIN_QUOTA b }
      let r := Bin.shedOver y1.clips.length y1 []
      (((s1.setBin b (some { r.1 with noSpace := r.1.noSpace && r.2.isEmpty })).postShed b r.2 true).reviewBinQuota b).binReport b) := by
    rw [State.applyBinQuota, hx]
  have h1 := hset.trans hrev
  generalize (s.setBin b (some { x with quota := s.getP P.FR_BIN_QUOTA b })).reviewBinQuota b = t at happly h1 hrevb
  dsimp only at happly
  rw [hrevb, Option.getD_some, hshed] at happly
  have hset2 := State.setBin_bin b (some { x with quota := s.getP P.FR_BIN_QUOTA b, noSpace := x.noSpace && true
                                                  quotaOver := decide (s.getP P.FR_BIN_QUOTA b < Bin.held { x with quota := s.getP P.FR_BIN_QUOTA b }) }) t
  obtain ⟨hrev2, hrevb2⟩ := reviewBinQuota_step hset2 (binOwn b)
  rw [happly]
  exact ⟨_, ((h1.trans (setBin_step b _ _ t)).trans hrev2).trans ((binReport_step b _).mono fun k hk => binKeys_own hk), (binReport_bin b b _).trans hrevb2, rfl, rfl⟩

/-- What CLIP_PROTECT leaves of a bin that takes it. -/
def State.protects (b : Nat) (x : Bin) (ids : List Nat) (on : Bool) (s : State) : State :=
  if on then (s.flagClips b x ids on).binReport b else ((s.flagClips b x ids on).applyBinQuota b).binReport b

theorem protects_step {b : Nat} {x : Bin} {ids : List Nat} {on : Bool} {s : State} (hq : on = false → x.held ≤ s.getP P.FR_BIN_QUOTA b) :
    ∃ y, BinStep b (binOwn b) s (s.protects b x ids on) ∧ (s.protects b x ids on).bin? b = some y ∧ y.clips = (x.flagged ids on).clips
      ∧ y.ckpt = x.ckpt + (if ids = [] then 0 else 1) := by
  obtain ⟨y, hstep, hbin, hclips, hck, hheld⟩ := flagClips_step b x ids on s
  have hrep : ∀ t, BinStep b (binOwn b) t (State.binReport b t) := fun t => (binReport_step b t).mono fun k hk => binKeys_own hk
  cases on with
  | true => exact ⟨y, hstep.trans (hrep _), (binReport_bin b b _).trans hbin, hclips, hck⟩
  | false =>
    have hkeep : (s.flagClips b x ids false).getP P.FR_BIN_QUOTA b = s.getP P.FR_BIN_QUOTA b := by
      unfold State.flagClips
      split
      · rfl
      · exact ((setBin_step b [] _ s).trans (writeCheckpoint_step (State.setBin_bin b (some (x.flagged ids false)) s) []).1).getP (List.not_mem_nil)
    obtain ⟨z, hstep2, hbin2, hclips2, hck2⟩ := applyBinQuota_within hbin (by rw [hheld, hkeep]; exact hq rfl)
    exact ⟨z, (hstep.trans hstep2).trans (hrep _), (binReport_bin b b _).trans hbin2, hclips2.trans hclips, hck2.trans hck⟩

theorem clipProtectBody_takes {q : Call} {x : Bin} {s : State} (h64 : q.c.f 0 8 < 64) (hx : s.bin? (q.c.f 0 8) = some x) (h1 : s.binState (q.c.f 0 8) ≠ 1)
    (h2 : s.binState (q.c.f 0 8) ≠ 2) : clipProtectBody q s = (let ids := (x.protectHits s.ring.tag (q.c.f 32 32) (q.c.f 64 32) (q.c.f 8 1 == 1)).map fun k => k.id
      if ((q.c.f 8 1 == 1) && !x.mayProtect ids) = true then (s, .err cQUOTA)
      else (s.protects (q.c.f 0 8) x ids (q.c.f 8 1 == 1), .done cOK 8
        (ids.length + at' 32 (x.shed.filter fun e => tagsMeet e.1 e.2 (q.c.f 32 32) (q.c.f 64 32)).length))) := by
  unfold clipProtectBody
  dsimp only
  rw [if_neg (Nat.not_le.2 h64), hx]
  dsimp only
  rw [if_neg (fun h => h.elim h1 h2)]
  rfl

theorem entered_bin (s : State) (op : Nat) (c : Cmd) (b : Nat) : (s.entered op c).bin? b = s.bin? b := by
  rw [State.bin?, State.entered_fr]; rfl

section
variable {c : Cmd} {s : State} (ha : s.accepts false 0x0701 c) (ho : c.operands 12 0xFFFFFE00)
include ha ho

theorem clipProtect_fails {code : Nat} (hc : code < 256)
    (h : clipProtectBody { c := c, tk := s.newTicket, priv := s.privOf c } (s.entered 0x0701 c) = (s.entered 0x0701 c, .err code)) :
    ∃ t, exec (.clipProtect c) s = .next t ∧ Answered 0x0701 c code 0 0 t ∧ CommandOnly c s t :=
  completes_reading (i := .clipProtect c) (spec := clipProtectSpec) (body := clipProtectBody) ha.1.1 ha (by simp [clipProtectSpec, ho.1])
    (by rw [ho.1]; exact ho.2) (fun _ => rfl) hc h

theorem clipProtect_badParam (h : 64 ≤ c.f 0 8) : ∃ t, exec (.clipProtect c) s = .next t ∧ Answered 0x0701 c 4 0 0 t ∧ CommandOnly c s t :=
  clipProtect_fails ha ho (by decide) (if_pos h)

theorem clipProtect_notPermitted (h64 : c.f 0 8 < 64) (h : s.bin? (c.f 0 8) = none ∨ s.binState (c.f 0 8) = 1 ∨ s.binState (c.f 0 8) = 2) :
    ∃ t, exec (.clipProtect c) s = .next t ∧ Answered 0x0701 c 5 0 0 t ∧ CommandOnly c s t := by
  refine clipProtect_fails ha ho (by decide) ((if_neg (Nat.not_le.2 h64)).trans ?_)
  cases hx : s.bin? (c.f 0 8) with
  | none => rw [entered_bin, hx]
  | some x =>
    rw [entered_bin, hx]
    refine if_pos ?_
    rw [State.binState, State.entered_getP]
    exact h.resolve_left (by rw [hx]; nofun)

end

end Sys2Proof.Machine
end

section
/-! CLIP_PROTECT that is taken, CLIP_MARK, and the statement assembled (O43; R309, R310, R312). -/

namespace Sys2Proof.Machine

section
variable {c : Cmd} {x : Bin} {s : State} (ha : s.accepts false 0x0701 c) (ho : c.operands 12 0xFFFFFE00) (h64 : c.f 0 8 < 64) (hx : s.bin? (c.f 0 8) = some x)
  (h1 : s.binState (c.f 0 8) ≠ 1) (h2 : s.binState (c.f 0 8) ≠ 2) {h : List Clip}
  (hh : h = x.protectHits s.ring.tag (c.f 32 32) (c.f 64 32) (c.f 8 1 == 1))
include h64 hx h1 h2 hh

theorem clipProtect_body : clipProtectBody { c := c, tk := s.newTicket, priv := s.privOf c } (s.entered 0x0701 c)
    = if ((c.f 8 1 == 1) && !x.mayProtect (h.map fun k => k.id)) = true then (s.entered 0x0701 c, .err cQUOTA)
      else ((s.entered 0x0701 c).protects (c.f 0 8) x (h.map fun k => k.id) (c.f 8 1 == 1), .done cOK 8
        (h.length + at' 32 (x.shed.filter fun e => tagsMeet e.1 e.2 (c.f 32 32) (c.f 64 32)).length)) := by
  have hbody := clipProtectBody_takes (q := { c := c, tk := s.newTicket, priv := s.privOf c }) (s := s.entered 0x0701 c) h64 ((entered_bin s _ c _).trans hx)
    (by rw [State.binState, State.entered_getP]; exact h1) (by rw [State.binState, State.entered_getP]; exact h2)
  rw [State.entered_ring] at hbody
  dsimp only at hbody
  rw [← hh, List.length_map] at hbody
  exact hbody

include ha ho

theorem clipProtect_quota (hon : c.f 8 1 = 1) (hm : x.mayProtect (h.map fun k => k.id) = false) :
    ∃ t, exec (.clipProtect c) s = .next t ∧ Answered 0x0701 c 7 0 0 t ∧ CommandOnly c s t :=
  clipProtect_fails ha ho (by decide) ((clipProtect_body h64 hx h1 h2 hh).trans (if_pos (by rw [hon, hm]; rfl)))

theorem clipProtect_protects (hon : c.f 8 1 = 1 ∧ x.mayProtect (h.map fun k => k.id) = true ∨ c.f 8 1 = 0 ∧ x.held ≤ s.getP P.FR_BIN_QUOTA (c.f 0 8)) :
    ∃ t y, exec (.clipProtect c) s = .next t
      ∧ Answered 0x0701 c 0 8 (h.length + at' 32 (x.shed.filter fun e => tagsMeet e.1 e.2 (c.f 32 32) (c.f 64 32)).length) t ∧ t.bin? (c.f 0 8) = some y
      ∧ y.clips = (x.clips.map fun k => if k.id ∈ h.map (fun k => k.id) then { k with flags := if c.f 8 1 = 1 then setBit k.flags 0 else clrBit k.flags 0 } else k)
      ∧ y.ckpt = x.ckpt + (if h = [] then 0 else 1) ∧ BinCommand c (c.f 0 8) s t := by
  have hoff : (c.f 8 1 == 1) = false → x.held ≤ (s.entered 0x0701 c).getP P.FR_BIN_QUOTA (c.f 0 8) := fun hf => by
    rw [State.entered_getP]
    exact (hon.resolve_left fun ⟨h1, _⟩ => by rw [h1] at hf; nomatch hf).2
  obtain ⟨y, hstep, hbin, hclips, hck⟩ := protects_step (x := x) (ids := h.map fun k => k.id) (s := s.entered 0x0701 c) hoff
  have hbody := (clipProtect_body h64 hx h1 h2 hh).trans (if_neg (by
    rcases hon with ⟨-, hm⟩ | ⟨h0, -⟩
    · rw [hm]; simp
    · rw [h0]; simp))
  obtain ⟨t, hxt, hans, hbt, hcmd⟩ := BinStep.completes (i := .clipProtect c) (spec := clipProtectSpec) (body := clipProtectBody) ha.1.1 ha
    (by simp [clipProtectSpec, ho.1]) (by rw [ho.1]; exact ho.2) (fun _ => rfl) hbody (by decide) hstep
  refine ⟨t, y, hxt, hans, hbt.trans hbin, hclips.trans ?_, hck.trans (by simp only [List.map_eq_nil_iff]), hcmd⟩
  unfold Bin.flagged
  simp only [List.contains_iff_mem, beq_iff_eq]

end

/-! ### CLIP_MARK (R309) -/

section
variable {c : Cmd} {s : State} (ha : s.accepts false 0x0702 c) (ho : c.operands 1 0)
include ha ho

theorem clipMark_fails {code : Nat} (hc : code < 256)
    (h : clipMarkBody { c := c, tk := s.newTicket, priv := s.privOf c } (s.entered 0x0702 c) = (s.entered 0x0702 c, .err code)) :
    ∃ t, exec (.clipMark c) s = .next t ∧ Answered 0x0702 c code 0 0 t ∧ CommandOnly c s t :=
  completes_reading (i := .clipMark c) (spec := clipMarkSpec) (body := clipMarkBody) ha.1.1 ha (by simp [clipMarkSpec, ho.1])
    (by rw [ho.1]; exact ho.2) (fun _ => rfl) hc h

theorem clipMark_badParam (h : 64 ≤ c.f 0 8) : ∃ t, exec (.clipMark c) s = .next t ∧ Answered 0x0702 c 4 0 0 t ∧ CommandOnly c s t :=
  clipMark_fails ha ho (by decide) (if_pos h)

theorem clipMark_notPermitted (h64 : c.f 0 8 < 64) (h : s.bin? (c.f 0 8) = none ∨ s.binState (c.f 0 8) ≠ 4) :
    ∃ t, exec (.clipMark c) s = .next t ∧ Answered 0x0702 c 5 0 0 t ∧ CommandOnly c s t := by
  refine clipMark_fails ha ho (by decide) ((if_neg (Nat.not_le.2 h64)).trans ?_)
  cases hx : s.bin? (c.f 0 8) with
  | none => rw [entered_bin, hx]
  | some x =>
    rw [entered_bin, hx]
    refine if_pos ?_
    rw [State.binState, State.entered_getP]
    exact h.resolve_left (by rw [hx]; nofun)

theorem clipMark_marks {x : Bin} (h64 : c.f 0 8 < 64) (h4 : s.binState (c.f 0 8) = 4) (hx : s.bin? (c.f 0 8) = some x) :
    ∃ t, exec (.clipMark c) s = .next t ∧ Answered 0x0702 c 0 4 (x.nextClip % 2 ^ 32) t
      ∧ t.bin? (c.f 0 8) = some { x with mark := true } ∧ (∀ k, k ≠ c.f 0 8 → t.bin? k = s.bin? k)
      ∧ CommandOnly c { s with fr := { s.fr with bins := t.fr.bins } } t := by
  have hbody : clipMarkBody { c := c, tk := s.newTicket, priv := s.privOf c } (s.entered 0x0702 c)
      = ((s.entered 0x0702 c).setBin (c.f 0 8) (some { x with mark := true }), .done cOK 4 (x.nextClip % 2 ^ 32)) := by
    refine (if_neg (Nat.not_le.2 h64)).trans ?_
    rw [entered_bin, hx]
    refine (if_neg ?_).trans ?_
    · rw [State.binState, State.entered_getP]
      exact fun h => h h4
    · rw [State.modBin_some ((entered_bin s _ c _).trans hx)]
      rfl
  have hruns : Runs s 0x0702 c (s.setBin (c.f 0 8) (some { x with mark := true })) ((s.entered 0x0702 c).setBin (c.f 0 8) (some { x with mark := true })) := by
    refine ⟨?_, rfl, rfl, rfl, rfl⟩
    obtain ⟨w, m, k, f, hf⟩ := entered_frame s 0x0702 c
    rw [hf]; rfl
  obtain ⟨t, hxt, hans, hcmd⟩ := Runs.completes (i := .clipMark c) (spec := clipMarkSpec) (body := clipMarkBody)
    (e := s.setBin (c.f 0 8) (some { x with mark := true })) ha.1.1 ha (by simp [clipMarkSpec, ho.1])
    (by rw [ho.1]; exact ho.2) (fun _ => rfl) (congrArg Prod.snd hbody) (by decide)
    (by change Runs s 0x0702 c _ (clipMarkBody _ (s.entered 0x0702 c)).1; rw [hbody]; exact hruns) rfl
  have hfr : t.fr = (s.setBin (c.f 0 8) (some { x with mark := true })).fr := by rw [hcmd.1]
  have hbins : ∀ k, t.bin? k = (s.setBin (c.f 0 8) (some { x with mark := true })).bin? k := fun k => by rw [State.bin?, hfr]; rfl
  refine ⟨t, hxt, hans, (hbins _).trans (State.setBin_bin _ _ _), fun k hk => (hbins k).trans ((setBin_step _ [] _ s).1 k hk), ?_⟩
  rw [hfr]
  exact hcmd

end

end Sys2Proof.Machine

open Sys2Proof Sys2Proof.Machine in
/-- Settles O43: recovery, wear rotation, protection and marks of a bin, each from what its operations change in one bin. -/
theorem binsRecoverMoveAndProtect : Obligations.BinsRecoverMoveAndProtect := by
  unfold Obligations.BinsRecoverMoveAndProtect
  refine ⟨fun b s hb h => binRecovery_idle hb h, fun b x s hb hx hst hc hr ha hsrc => binRecovery_idles hb hx hst hc hr ha hsrc,
    fun b q x s hb hq hx hst hc hr ha hsrc hh hheld hroom => binRecovery_captures hb hq hx hst hc hr ha hsrc hh hheld hroom,
    fun b s hb h => wearMove_idle hb h, fun b x s hb hx hbg hst => ⟨fun hf => wearMove_noRoom hb hx hbg hst hf,
      fun g f l hl hf => wearMove_moves hb hx hbg hst hl hf, fun f u l m hl hf hm => ⟨fun hp => wearMove_headersStay hb hx hbg hst hl hf hm hp,
        fun hp => wearMove_headersMove hb hx hbg hst hl hf hm hp⟩⟩, ?_, ?_⟩
  · rintro c b s ha ho rfl
    exact ⟨fun h => clipProtect_badParam ha ho h, fun h64 h => clipProtect_notPermitted ha ho h64 h, fun x h h64 hx h1 h2 hh =>
      ⟨fun hon hm => clipProtect_quota ha ho h64 hx h1 h2 hh hon hm, fun hon => clipProtect_protects ha ho h64 hx h1 h2 hh hon⟩⟩
  · rintro c b s ha ho rfl
    exact ⟨fun h => clipMark_badParam ha ho h, fun h64 h => clipMark_notPermitted ha ho h64 h, fun x h64 h4 hx => clipMark_marks ha ho h64 h4 hx⟩
end

section
/-! A clip queue command completes: it leaves its pair, and its CQ entry is written (O45; R337, R338). -/

namespace Sys2Proof.Machine

/-! ### Nothing waits for reads (R352) -/

/-- No bin of the map waits to be deleted. -/
def State.NoneDeleting (s : State) : Prop := ∀ b, (s.bin? b).bind (fun x => x.deleting) = none

theorem SMap.find_mem {α : Type} {k : Nat} {v : α} : ∀ {m : SMap α}, SMap.find k m = some v → (k, v) ∈ m
  | [], h => nomatch h
  | (j, w) :: r, h => by
    rw [SMap.find] at h
    split at h
    · next hj => rw [hj, Option.some.inj h]; exact List.mem_cons_self
    · exact List.mem_cons_of_mem _ (SMap.find_mem h)

theorem noneDeleting_of_noDeletes {s : State} (h : s.noDeletes) : s.NoneDeleting := fun b => by
  unfold State.bin? SMap.get
  cases hf : SMap.find b s.fr.bins with
  | none => rfl
  | some o => cases o with
    | none => rfl
    | some x =>
      have hall := List.all_eq_true.1 h _ (SMap.find_mem hf)
      exact Option.isNone_iff_eq_none.1 hall

theorem State.NoneDeleting.bin {s : State} (h : s.NoneDeleting) {b : Nat} {x : Bin} (hx : s.bin? b = some x) : x.deleting = none := by
  have hb := h b
  rwa [hx] at hb

theorem State.NoneDeleting.any {s : State} (h : s.NoneDeleting) (b : Nat) : ((s.bin? b).any fun x => x.deleting.isSome) = false := by
  cases hx : s.bin? b with
  | none => rfl
  | some x => rw [Option.any_some, h.bin hx]; rfl

theorem State.NoneDeleting.congr {s t : State} (h : s.NoneDeleting) (hb : t.fr.bins = s.fr.bins) : t.NoneDeleting := fun b => by
  rw [State.bin?, hb]; exact h b

theorem reviewDeletes_none {s : State} (h : s.NoneDeleting) : s.reviewDeletes = s :=
  foldl_fixed_of_mem fun b _ => by rw [h b]

/-! ### The status word while a pair changes (R59) -/

/-- Replacing what is listed at a key by what a predicate does not tell apart. -/
theorem SMap.any_ins {α : Type} {p : Nat × α → Bool} {k : Nat} {v w : α} (hp : p (k, v) = p (k, w)) :
    ∀ {m : SMap α}, SMap.find k m = some w → (SMap.ins k v m).any p = m.any p
  | [], h => nomatch h
  | (j, u) :: r, h => by
    rw [SMap.find] at h
    unfold SMap.ins
    split
    · next hj =>
      rw [if_pos hj] at h
      rw [List.any_cons, List.any_cons, hp, hj, Option.some.inj h]
    · next hj =>
      rw [if_neg hj] at h
      split
      · rw [List.any_cons, hp]
        cases hw : p (k, w) with
        | false => rfl
        | true => exact (List.any_eq_true.2 ⟨_, List.mem_cons_of_mem _ (SMap.find_mem h), hw⟩).symm
      · rw [List.any_cons, List.any_cons, SMap.any_ins hp h]

theorem pair_find {s : State} {w q : Nat} {p : Pair} (h : s.pair? w q = some p) : SMap.find (w * 16 + q) s.cq.pairs = some (some p) := by
  unfold State.pair? SMap.get at h
  cases hf : SMap.find (w * 16 + q) s.cq.pairs with
  | none => rw [hf] at h; nomatch h
  | some o => rw [hf] at h; exact congrArg some h

theorem queueFrozen_setPair {s : State} {w q : Nat} {p y : Pair} (h : s.pair? w q = some p) (hy : y.frozen = p.frozen) (v : Nat) :
    (s.setPair w q (some y)).queueFrozen v = s.queueFrozen v := by
  have hins : (s.setPair w q (some y)).cq.pairs = SMap.ins (w * 16 + q) (some y) s.cq.pairs := by
    change SMap.set pairDef s.cq.pairs (w * 16 + q) (some y) = _
    rw [SMap.set, if_neg (by simp)]
  unfold State.queueFrozen
  rw [hins]
  refine SMap.any_ins (w := some p) ?_ (pair_find h)
  simp [hy]

theorem statusWord_setPair {s : State} {w q : Nat} {p y : Pair} (h : s.pair? w q = some p) (hy : y.frozen = p.frozen) (v code : Nat) :
    (s.setPair w q (some y)).statusWord v code = s.statusWord v code := by
  unfold State.statusWord State.barker
  rw [queueFrozen_setPair h hy]
  rfl

theorem setPair_pair (w q : Nat) (x : Option Pair) (s : State) : (s.setPair w q x).pair? w q = x := SMap.get_set_same _ _ _ _

theorem modPair_some {s : State} {w q : Nat} {p : Pair} (h : s.pair? w q = some p) (f : Pair → Pair) : s.modPair w q f = s.setPair w q (some (f p)) := by
  rw [State.modPair, h]

theorem setPair_others (w q : Nat) (x : Option Pair) (s : State) : OtherPairs w q s (s.setPair w q x) := fun _ hk => SMap.get_set_other _ _ hk _

theorem OtherPairs.trans {w q : Nat} {s t u : State} (h : OtherPairs w q s t) (g : OtherPairs w q t u) : OtherPairs w q s u := fun k hk => (g k hk).trans (h k hk)

/-! ### A CQ entry (R337, R338) -/

/-- The entry that completes command `cid` of a pair. -/
def State.cqEntry (s : State) (w q cid code r0 r1 r2 : Nat) (p : Pair) : List Byte :=
  leBytes (s.statusWord w code) 4 ++ leBytes cid 2 ++ leBytes p.sqHead 2
    ++ leBytes (q + at' 14 1 + at' 15 (b2n ((p.written / 2 ^ p.cqLog) % 2 == 0))) 2 ++ leBytes 0 2 ++ leBytes r0 4 ++ leBytes r1 8 ++ leBytes r2 8

theorem cqEntry_length (s : State) (w q cid code r0 r1 r2 : Nat) (p : Pair) : (s.cqEntry w q cid code r0 r1 r2 p).length = 32 := by
  simp [State.cqEntry]

/-- The pair after an entry has been written. -/
def Pair.entered (p : Pair) (now : Nat) : Pair :=
  { p with cqTail := (p.cqTail + 1) % 2 ^ p.cqLog, written := p.written + 1, unsignalled := p.unsignalled + 1
           oldest := if p.unsignalled = 0 then now else p.oldest }

theorem signalCq_signals {w q : Nat} {s : State} {p : Pair} (h : s.pair? w q = some p) (hv : p.vector ≠ 0xFF) (hu : p.unsignalled ≠ 0) :
    s.signalCq w q = (s.setPair w q (some { p with unsignalled := 0 })).emit (.msix w p.vector) := by
  rw [State.signalCq, h]
  exact if_neg (not_or.2 ⟨hv, hu⟩)

theorem signalCq_silent {w q : Nat} {s : State} {p : Pair} (h : s.pair? w q = some p) (hv : p.vector = 0xFF) : s.signalCq w q = s := by
  rw [State.signalCq, h]
  exact if_pos (.inl hv)

/-- What the completion of a command leaves of its pair, whatever it signals. -/
theorem writeCq_eq {w q cid code r0 r1 r2 : Nat} {s : State} {p : Pair} (h : s.pair? w q = some p) (hg : s.hostGood (p.cqBase + 32 * p.cqTail) 32 = 32) :
    s.writeCq w q cid code true r0 r1 r2 = (if p.aggCount ≤ p.unsignalled + 1 ∨ p.aggTime = 0 then
        ((s.withHostMem (putBytes zeroByte s.ctl.hostMem (p.cqBase + 32 * p.cqTail) (s.cqEntry w q cid code r0 r1 r2 p))).setPair w q (some (p.entered s.now))).signalCq w q
      else (s.withHostMem (putBytes zeroByte s.ctl.hostMem (p.cqBase + 32 * p.cqTail) (s.cqEntry w q cid code r0 r1 r2 p))).setPair w q (some (p.entered s.now))) := by
  have hwrite := hostWrite_good (a := p.cqBase + 32 * p.cqTail) (l := s.cqEntry w q cid code r0 r1 r2 p) (s := s) (by rw [cqEntry_length]; exact hg)
  have hcq : s.writeCq w q cid code true r0 r1 r2 = (let s1 := (s.hostWrite (p.cqBase + 32 * p.cqTail) (s.cqEntry w q cid code r0 r1 r2 p)).1
      if p.aggCount ≤ p.unsignalled + 1 ∨ p.aggTime = 0 then (s1.setPair w q (some (p.entered s.now))).signalCq w q
      else s1.setPair w q (some (p.entered s.now))) := by
    rw [State.writeCq, h]; rfl
  rw [hcq, hwrite]

/-- The pair, the messages and host memory after a CQ entry has been written. -/
theorem writeCq_effect {w q cid code r0 r1 r2 : Nat} {s : State} {p : Pair} (h : s.pair? w q = some p) (hg : s.hostGood (p.cqBase + 32 * p.cqTail) 32 = 32) :
    ∃ y pairs, s.writeCq w q cid code true r0 r1 r2 = { s with
        sent := if p.vector ≠ 0xFF ∧ (p.aggCount ≤ p.unsignalled + 1 ∨ p.aggTime = 0) then .msix w p.vector :: s.sent else s.sent
        ctl := { s.ctl with hostMem := putBytes zeroByte s.ctl.hostMem (p.cqBase + 32 * p.cqTail) (s.cqEntry w q cid code r0 r1 r2 p) }
        cq := { s.cq with pairs := pairs } }
      ∧ SMap.get pairDef pairs (w * 16 + q) = some { p.entered s.now with unsignalled := y }
      ∧ ∀ k, k ≠ w * 16 + q → SMap.get pairDef pairs k = SMap.get pairDef s.cq.pairs k := by
  rw [writeCq_eq h hg]
  have hpair := setPair_pair w q (some (p.entered s.now)) (s.withHostMem (putBytes zeroByte s.ctl.hostMem (p.cqBase + 32 * p.cqTail) (s.cqEntry w q cid code r0 r1 r2 p)))
  have hother := setPair_others w q (some (p.entered s.now)) (s.withHostMem (putBytes zeroByte s.ctl.hostMem (p.cqBase + 32 * p.cqTail) (s.cqEntry w q cid code r0 r1 r2 p)))
  have hframe : ∃ pairs, (s.withHostMem (putBytes zeroByte s.ctl.hostMem (p.cqBase + 32 * p.cqTail) (s.cqEntry w q cid code r0 r1 r2 p))).setPair w q (some (p.entered s.now))
      = { s with ctl := { s.ctl with hostMem := putBytes zeroByte s.ctl.hostMem (p.cqBase + 32 * p.cqTail) (s.cqEntry w q cid code r0 r1 r2 p) }
                 cq := { s.cq with pairs := pairs } } := ⟨_, rfl⟩
  obtain ⟨pairs, hframe⟩ := hframe
  rw [hframe] at hpair hother ⊢
  by_cases hs : p.aggCount ≤ p.unsignalled + 1 ∨ p.aggTime = 0
  · rw [if_pos hs]
    by_cases hv : p.vector = 0xFF
    · rw [signalCq_silent hpair hv, if_neg (fun h => h.1 hv)]
      exact ⟨p.unsignalled + 1, pairs, rfl, hpair, hother⟩
    · rw [signalCq_signals hpair hv (Nat.succ_ne_zero _), if_pos ⟨hv, hs⟩]
      exact ⟨0, SMap.set pairDef pairs (w * 16 + q) (some { p.entered s.now with unsignalled := 0 }), rfl, SMap.get_set_same _ _ _ _,
        fun k hk => (SMap.get_set_other _ _ hk _).trans (hother k hk)⟩
  · rw [if_neg hs, if_neg (fun h => hs h.2)]
    exact ⟨p.unsignalled + 1, pairs, rfl, hpair, hother⟩

/-- A command that does not freeze its pair completes. -/
theorem completeCmd_completed {w q : Nat} {c : QCmd} {a : QAns} {s : State} {p : Pair} (h : s.pair? w q = some p) (hd : s.NoneDeleting)
    (hg : s.hostGood (p.cqBase + 32 * p.cqTail) 32 = 32) (hf : freezing a.code = false) : Completed w q c p a.code a.r0 a.r1 0 s (s.completeCmd w q c a) := by
  have hcmd : s.completeCmd w q c a = (s.setPair w q (some { p with cmds := p.cmds.erase c })).writeCq w q c.cid a.code true a.r0 a.r1 0 := by
    unfold State.completeCmd
    dsimp only
    rw [modPair_some h, reviewDeletes_none (s := s.setPair w q _) (hd.congr rfl), hf]
    exact if_neg Bool.false_ne_true
  have hentry : (s.setPair w q (some { p with cmds := p.cmds.erase c })).cqEntry w q c.cid a.code a.r0 a.r1 0 { p with cmds := p.cmds.erase c }
      = s.cqEntry w q c.cid a.code a.r0 a.r1 0 p := by
    unfold State.cqEntry
    rw [statusWord_setPair (y := { p with cmds := p.cmds.erase c }) h rfl]
  obtain ⟨y, pairs, hw, hpair, hother⟩ := writeCq_effect (cid := c.cid) (code := a.code) (r0 := a.r0) (r1 := a.r1) (r2 := 0)
    (setPair_pair w q (some { p with cmds := p.cmds.erase c }) s) hg
  rw [hcmd, hw, hentry]
  refine ⟨⟨_, hpair, rfl, rfl, rfl, rfl, rfl, rfl, rfl, rfl⟩, ?_, fun k hk => get_putBytes_other (hk.imp_right fun h => ?_), rfl,
    fun k hk => (hother k hk).trans (setPair_others w q _ s k hk), rfl⟩
  · exact (congrArg (takeBytes zeroByte _ _) (cqEntry_length s w q c.cid a.code a.r0 a.r1 0 p)).symm.trans (takeBytes_putBytes _ _ _ _)
  · rw [cqEntry_length]; exact h

end Sys2Proof.Machine
end

section
/-! A clip queue command fails, and its pair freezes (O45; R342, R343). -/

namespace Sys2Proof.Machine

/-! ### What writing CQ entries changes -/

/-- The pairs other than `q` of window `w` are the same; messages, host memory and that pair may differ, and nothing else. -/
def QueueOnly (w q : Nat) (s t : State) : Prop :=
  t = { s with sent := t.sent, ctl := { s.ctl with hostMem := t.ctl.hostMem }, cq := { s.cq with pairs := t.cq.pairs } } ∧ OtherPairs w q s t

theorem QueueOnly.refl (w q : Nat) (s : State) : QueueOnly w q s s := ⟨rfl, fun _ _ => rfl⟩

theorem QueueOnly.trans {w q : Nat} {s t u : State} (h : QueueOnly w q s t) (g : QueueOnly w q t u) : QueueOnly w q s u := by
  obtain ⟨hf, ho⟩ := h
  obtain ⟨gf, go⟩ := g
  refine ⟨?_, ho.trans go⟩
  generalize u.sent = x, u.ctl.hostMem = y, u.cq.pairs = z at gf ⊢
  rw [gf, hf]

theorem queueOnly_setPair (w q : Nat) (x : Option Pair) (s : State) : QueueOnly w q s (s.setPair w q x) := ⟨rfl, setPair_others w q x s⟩

/-- The pair keeps its commands and whether it is frozen. -/
def KeepsPair (w q : Nat) (s t : State) : Prop := ∀ p, s.pair? w q = some p → ∃ y, t.pair? w q = some y ∧ y.frozen = p.frozen ∧ y.cmds = p.cmds

theorem KeepsPair.refl (w q : Nat) (s : State) : KeepsPair w q s s := fun p h => ⟨p, h, rfl, rfl⟩

theorem KeepsPair.trans {w q : Nat} {s t u : State} (h : KeepsPair w q s t) (g : KeepsPair w q t u) : KeepsPair w q s u := fun p hp => by
  obtain ⟨y, hy, hf, hc⟩ := h p hp
  obtain ⟨z, hz, gf, gc⟩ := g y hy
  exact ⟨z, hz, gf.trans hf, gc.trans hc⟩

theorem keepsPair_setPair {w q : Nat} {s : State} {p y : Pair} (h : s.pair? w q = some p) (hf : y.frozen = p.frozen) (hc : y.cmds = p.cmds) :
    KeepsPair w q s (s.setPair w q (some y)) := fun x hx => by
  obtain rfl := Option.some.inj (h.symm.trans hx)
  exact ⟨y, setPair_pair w q _ s, hf, hc⟩

theorem signalCq_keeps (w q : Nat) (s : State) : QueueOnly w q s (s.signalCq w q) ∧ KeepsPair w q s (s.signalCq w q) := by
  unfold State.signalCq
  split
  · next p hp =>
    split
    · exact ⟨QueueOnly.refl w q s, KeepsPair.refl w q s⟩
    · exact ⟨⟨rfl, setPair_others w q _ s⟩, keepsPair_setPair (y := { p with unsignalled := 0 }) hp rfl rfl⟩
  · exact ⟨QueueOnly.refl w q s, KeepsPair.refl w q s⟩

theorem writeCq_keeps (w q cid code : Nat) (final : Bool) (r0 r1 r2 : Nat) (s : State) :
    QueueOnly w q s (s.writeCq w q cid code final r0 r1 r2) ∧ KeepsPair w q s (s.writeCq w q cid code final r0 r1 r2) := by
  unfold State.writeCq
  split
  · exact ⟨QueueOnly.refl w q s, KeepsPair.refl w q s⟩
  · next p hp =>
    dsimp only
    have hset : ∀ (e : List Byte) (y : Pair), y.frozen = p.frozen → y.cmds = p.cmds →
        QueueOnly w q s ((s.hostWrite (p.cqBase + 32 * p.cqTail) e).1.setPair w q (some y))
          ∧ KeepsPair w q s ((s.hostWrite (p.cqBase + 32 * p.cqTail) e).1.setPair w q (some y)) := fun e y hf hc =>
      ⟨⟨rfl, setPair_others w q _ _⟩, keepsPair_setPair (s := (s.hostWrite (p.cqBase + 32 * p.cqTail) e).1) hp hf hc⟩
    have hsignal : ∀ t : State, QueueOnly w q s t ∧ KeepsPair w q s t → QueueOnly w q s (t.signalCq w q) ∧ KeepsPair w q s (t.signalCq w q) := fun t ht =>
      ⟨ht.1.trans (signalCq_keeps w q t).1, ht.2.trans (signalCq_keeps w q t).2⟩
    split
    · refine hsignal _ (hset _ _ ?_ ?_) <;> rfl
    · refine hset _ _ ?_ ?_ <;> rfl

/-- The commands of a pair that are aborted are gone from it, whatever their entries did to it. -/
theorem abortPair_aborts {w q : Nat} {s : State} {p : Pair} (h : s.pair? w q = some p) (hd : s.NoneDeleting) :
    QueueOnly w q s (s.abortPair w q) ∧ ∃ y, (s.abortPair w q).pair? w q = some y ∧ y.frozen = p.frozen ∧ y.cmds = [] := by
  have hfold : ∀ (l : List QCmd) (t : State), QueueOnly w q t (l.foldl (fun t c => t.writeCq w q c.cid cABORTED true 0 0 0) t)
      ∧ KeepsPair w q t (l.foldl (fun t c => t.writeCq w q c.cid cABORTED true 0 0 0) t) := fun l t =>
    List.foldlRecOn (motive := fun u : State => QueueOnly w q t u ∧ KeepsPair w q t u) l _ ⟨QueueOnly.refl w q t, KeepsPair.refl w q t⟩ fun u hu c _ =>
      ⟨hu.1.trans (writeCq_keeps w q c.cid cABORTED true 0 0 0 u).1, hu.2.trans (writeCq_keeps w q c.cid cABORTED true 0 0 0 u).2⟩
  obtain ⟨ho, hk⟩ := hfold p.cmds (s.setPair w q (some { p with cmds := [] }))
  obtain ⟨y, hy, hf, hc⟩ := hk _ (setPair_pair w q _ s)
  have hd' : State.NoneDeleting (p.cmds.foldl (fun t c => t.writeCq w q c.cid cABORTED true 0 0 0) (s.setPair w q (some { p with cmds := [] }))) := hd.congr (by rw [ho.1]; rfl)
  rw [State.abortPair, h]
  dsimp only
  rw [reviewDeletes_none hd']
  exact ⟨(queueOnly_setPair w q _ s).trans ho, y, hy, hf, hc⟩

/-! ### Freezing (R342) -/

/-- The newest entry of a list of at most 16. -/
theorem getLast_drop_concat {α : Type} (l : List α) (a : α) : ((l ++ [a]).drop ((l ++ [a]).length - 16)).getLast? = some a := by
  rw [List.getLast?_drop, if_neg (by simp), List.getLast?_concat]

theorem eventsOnly_advanceWin (w : Nat) (s : State) : EventsOnly s (s.advanceWin w) := by
  unfold State.advanceWin
  dsimp only
  split
  · exact ⟨⟨_, _, _, _, rfl⟩, fun _ => rfl⟩
  · exact ⟨⟨_, _, _, _, rfl⟩, fun _ => rfl⟩

theorem eventsOnly_postTo (n : Nat) (e : Event) (s : State) : EventsOnly s (s.postTo n e) := ⟨eventOnly_postTo s n e, ringsOnly_postTo s n e⟩

/-- The log entry that a window's error log gets (R343). -/
theorem logQueue_logs {w q : Nat} {s : State} {p : Pair} (h : s.pair? w q = some p) (e : QueueLog) : ∃ pairs logs n,
    s.logQueue w q e = { s with cq := { s.cq with
      pairs := pairs, logSeq := SMap.set (fun _ => 0) s.cq.logSeq w n, logs := SMap.set (fun _ => []) s.cq.logs w logs } }
    ∧ n = (SMap.get (fun _ => 0) s.cq.logSeq w + 1) % 2 ^ 32 ∧ logs.getLast? = some { e with seq := n, time := s.now }
    ∧ SMap.get pairDef pairs (w * 16 + q) = some { p with newestLog := n } ∧ ∀ k, k ≠ w * 16 + q → SMap.get pairDef pairs k = SMap.get pairDef s.cq.pairs k := by
  unfold State.logQueue
  dsimp only
  obtain ⟨n, hn⟩ : ∃ n, wrap32 (SMap.get (fun _ => 0) s.cq.logSeq w + 1) = n := ⟨_, rfl⟩
  rw [hn]
  obtain ⟨logs, hl⟩ : ∃ logs, (SMap.get (fun _ => []) s.cq.logs w ++ [{ e with seq := n, time := s.now }]).drop
    ((SMap.get (fun _ => []) s.cq.logs w ++ [{ e with seq := n, time := s.now }]).length - 16) = logs := ⟨_, rfl⟩
  have hlast : logs.getLast? = some { e with seq := n, time := s.now } := by
    rw [← hl]
    exact getLast_drop_concat _ _
  rw [hl]
  rw [modPair_some (s := { s with cq := { s.cq with
    logSeq := SMap.set (fun _ => 0) s.cq.logSeq w n, logs := SMap.set (fun _ => []) s.cq.logs w logs } }) h]
  exact ⟨SMap.set pairDef s.cq.pairs (w * 16 + q) (some { p with newestLog := n }), logs, n, rfl, hn.symm, hlast, SMap.get_set_same _ _ _ _,
    fun k hk => SMap.get_set_other _ _ hk _⟩

end Sys2Proof.Machine
end

section
/-! The freezing of a pair by a command that fails (O45; R342, R343). -/

namespace Sys2Proof.Machine

/-- QUEUE_FROZEN's occurrence and event, and the count of freezes, after the pair has been frozen. -/
def State.tellFreeze (w payload : Nat) (s : State) : State :=
  let t := (s.bumpSat P.CQ_FREEZES w 1).advanceWin w
  if (t.win w).mask.testBit 7 then t.postTo w { typ := 0x07, cls := 0xE, idx := w, payload := payload, tag := t.ring.tag } else t

theorem tellFreeze_effect (w payload : Nat) (s : State) : EventsOnly (s.bumpSat P.CQ_FREEZES w 1) (s.tellFreeze w payload) := by
  unfold State.tellFreeze
  dsimp only
  split
  · exact (eventsOnly_advanceWin w _).trans (eventsOnly_postTo _ _ _)
  · exact eventsOnly_advanceWin w _

/-- The steps of a freeze between the log entry and the telling: the entry of the failing command, and those of the commands that it aborts. -/
def State.haltPair (w q cid code r0 r1 n : Nat) (s : State) : State :=
  ((s.writeCq w q cid code true r0 r1 n).modPair w q fun x => { x with frozen := true }).abortPair w q

theorem haltPair_halts {w q : Nat} {s : State} {p : Pair} (h : s.pair? w q = some p) (hd : s.NoneDeleting) (cid code r0 r1 n : Nat) :
    QueueOnly w q s (s.haltPair w q cid code r0 r1 n) ∧ ∃ y, (s.haltPair w q cid code r0 r1 n).pair? w q = some y ∧ y.frozen = true ∧ y.cmds = [] := by
  obtain ⟨ho, hk⟩ := writeCq_keeps w q cid code true r0 r1 n s
  obtain ⟨y, hy, -, -⟩ := hk p h
  have hd1 : (s.writeCq w q cid code true r0 r1 n).NoneDeleting := hd.congr (by rw [ho.1])
  unfold State.haltPair
  rw [modPair_some hy]
  obtain ⟨ho2, z, hz, hzf, hzc⟩ := abortPair_aborts (setPair_pair w q (some { y with frozen := true }) (s.writeCq w q cid code true r0 r1 n)) (hd1.congr rfl)
  exact ⟨(ho.trans (queueOnly_setPair w q _ _)).trans ho2, z, hz, hzf, hzc⟩

/-- What freezing a pair that runs does: its log entry, its halt, its telling. -/
theorem freeze_eq {w q : Nat} {s : State} {p : Pair} (h : s.pair? w q = some p) (hf : p.frozen = false) (e : QueueLog) (cid r0 r1 : Nat) :
    s.freeze w q e (some (cid, r0, r1)) = (let s1 := s.logQueue w q { e with froze := true, queue := q, sqHead := p.sqHead, aborted := p.cmds.length }
      (s1.haltPair w q cid e.code r0 r1 (SMap.get (fun _ => 0) s1.cq.logSeq w)).tellFreeze w (q + at' 16 (SMap.get (fun _ => 0) s1.cq.logSeq w))) := by
  rw [State.freeze, h]
  dsimp only
  rw [hf]
  rfl

theorem freeze_froze {w q : Nat} {s : State} {p : Pair} (h : s.pair? w q = some p) (hf : p.frozen = false) (hd : s.NoneDeleting) (e : QueueLog) (cid r0 r1 : Nat) :
    Froze w q e.cid e.opcode e.code s (s.freeze w q e (some (cid, r0, r1))) := by
  rw [freeze_eq h hf]
  dsimp only
  obtain ⟨pairs, logs, n, hlog, hn, hlast, hpair, hother⟩ := logQueue_logs h { e with froze := true, queue := q, sqHead := p.sqHead, aborted := p.cmds.length }
  rw [hlog]
  obtain ⟨m, hm⟩ : ∃ m, SMap.get (fun _ => 0) (SMap.set (fun _ => 0) s.cq.logSeq w n) w = m := ⟨_, rfl⟩
  rw [hm]
  obtain ⟨⟨hframe, hoth⟩, y, hy, hyf, hyc⟩ := haltPair_halts (s := { s with cq := { s.cq with
    pairs := pairs, logSeq := SMap.set (fun _ => 0) s.cq.logSeq w n, logs := SMap.set (fun _ => []) s.cq.logs w logs } }) hpair (hd.congr rfl) cid e.code r0 r1 m
  generalize State.haltPair w q cid e.code r0 r1 m _ = u at hframe hoth hy ⊢
  have htell := tellFreeze_effect w (q + at' 16 m) u
  obtain ⟨v, x, hmem, a, ht, hrings⟩ := htell.rings
  generalize u.tellFreeze w (q + at' 16 m) = t at ht hrings ⊢
  have hcq : t.cq = u.cq := by rw [ht]; rfl
  have hparams : t.params = SMap.set pdef s.params (pkey P.CQ_FREEZES w) (sat32 (s.getP P.CQ_FREEZES w + 1)) := by rw [ht, hframe]; rfl
  have hseq : u.cq.logSeq = SMap.set (fun _ => 0) s.cq.logSeq w n := by rw [hframe]
  have hlogs : u.cq.logs = SMap.set (fun _ => []) s.cq.logs w logs := by rw [hframe]
  refine ⟨⟨y, by rw [State.pair?, hcq]; exact hy, hyf, hyc⟩, ?_, ⟨{ e with froze := true, queue := q, sqHead := p.sqHead, aborted := p.cmds.length, seq := n, time := s.now }, ?_, ?_, rfl, rfl, rfl, rfl, rfl, rfl⟩, fun k hk => ⟨?_, ?_⟩, fun k hk => ?_, ?_, fun k hk => ?_, ?_, ?_⟩
  · rw [hcq, hseq, SMap.get_set_same, hn]
  · rw [hcq, hlogs, SMap.get_set_same]
    exact hlast
  · rw [hcq, hseq, SMap.get_set_same]
  · rw [hcq, hlogs, SMap.get_set_other _ _ hk]
  · rw [hcq, hseq, SMap.get_set_other _ _ hk]
  · rw [hcq]
    exact (hoth k hk).trans (hother k hk)
  · rw [State.getP, hparams, SMap.get_set_same]
    rfl
  · rw [hparams, SMap.get_set_other _ _ (fun h => hk (List.mem_singleton.2 h))]
  · refine ⟨v, x, hmem, a, ?_⟩
    have hsent : t.sent = u.sent := by rw [ht]; rfl
    rw [hparams, hcq, hsent, ht, hframe]
    rfl
  · intro k
    have hk := hrings k
    have hwin : (u.bumpSat P.CQ_FREEZES w 1).win k = s.win k := by rw [hframe]; rfl
    rw [ht]
    exact hwin ▸ hk

end Sys2Proof.Machine
end

section
/-! Clip queue commands that may not start, have a bad field, or that something has met (O45; R35, R302, R336, R350). -/

namespace Sys2Proof.Machine

theorem completeCmd_froze {w q : Nat} {c : QCmd} {a : QAns} {s : State} {p : Pair} (h : s.pair? w q = some p) (hp : p.frozen = false) (hd : s.NoneDeleting)
    (hf : freezing a.code = true) : Froze w q c.cid (sqField c.entry 0 1) a.code s (s.completeCmd w q c a) := by
  have hcmd : s.completeCmd w q c a = (s.setPair w q (some { p with cmds := p.cmds.erase c })).freeze w q
      { seq := 0, froze := true, queue := q, cid := c.cid, time := 0, opcode := sqField c.entry 0 1, code := a.code, bin := sqField c.entry 4 1
        field := a.field, clip := sqField c.entry 8 4, detail := a.detail, faultSeq := a.fault } (some (c.cid, a.r0, a.r1)) := by
    unfold State.completeCmd
    dsimp only
    rw [modPair_some h, reviewDeletes_none (s := s.setPair w q _) (hd.congr rfl), hf]
    exact if_pos rfl
  rw [hcmd]
  obtain ⟨hpair, hseq, hlog, hlogs, hother, hfreezes, hparams, hev⟩ := freeze_froze (setPair_pair w q (some { p with cmds := p.cmds.erase c }) s) hp (hd.congr rfl)
    { seq := 0, froze := true, queue := q, cid := c.cid, time := 0, opcode := sqField c.entry 0 1, code := a.code, bin := sqField c.entry 4 1
      field := a.field, clip := sqField c.entry 8 4, detail := a.detail, faultSeq := a.fault } c.cid a.r0 a.r1
  exact ⟨hpair, hseq, hlog, hlogs, (setPair_others w q _ s).trans hother, hfreezes, hparams, hev⟩

theorem queueCmd_found {s : State} {w q cid op : Nat} {c : QCmd} (h : s.queueCmd w q cid op = some c) : c.cid = cid ∧ sqField c.entry 0 1 = op := by
  unfold State.queueCmd at h
  split at h
  · nomatch h
  · split at h
    · nomatch h
    · dsimp only at h
      split at h
      · nomatch h
      · next d hd =>
        split at h
        · nomatch h
        · obtain rfl := Option.some.inj h
          have hc := List.find?_some hd
          simp only [Bool.and_eq_true, beq_iff_eq] at hc
          exact hc

section
variable {w q cid op : Nat} {c : QCmd} {run : List Byte → State → State × QAns} {s : State}

theorem runCmd_none (h : s.queueCmd w q cid op = none) : s.runCmd w q cid op run = s := by
  rw [State.runCmd, h]

theorem runCmd_badField {f : Nat} (h : s.queueCmd w q cid op = some c) (hf : badField c.entry = some f) :
    s.runCmd w q cid op run = s.completeCmd w q c { code := cBAD_PARAM, field := f } := by
  rw [State.runCmd, h]
  dsimp only
  rw [hf]

theorem runCmd_departed (h : s.queueCmd w q cid op = some c) (hf : badField c.entry = none) (hfate : c.fate = 0xA) :
    s.runCmd w q cid op run = s.completeCmd w q c { code := cMEDIA_ERROR, r1 := sqField c.entry 0x10 8, detail := sqField c.entry 0x10 8 } := by
  rw [State.runCmd, h]
  dsimp only
  rw [hf]
  exact if_pos hfate

theorem runCmd_met (h : s.queueCmd w q cid op = some c) (hf : badField c.entry = none) (hfate : c.fate = 0x58) :
    s.runCmd w q cid op run = s.completeCmd w q c { code := 0x58 } := by
  rw [State.runCmd, h]
  dsimp only
  rw [hf, hfate]
  rfl

theorem runCmd_runs (h : s.queueCmd w q cid op = some c) (hf : badField c.entry = none) (hfate : c.fate = 0) (hd : s.NoneDeleting) :
    s.runCmd w q cid op run = (run c.entry s).1.completeCmd w q c (run c.entry s).2 := by
  rw [State.runCmd, h]
  dsimp only
  rw [hf, hfate, hd.any]
  exact (if_neg (by decide)).trans ((if_neg (by decide)).trans (if_neg fun h => Bool.false_ne_true h.2.2))

end

/-- A fetched command of the instruction completes as one that reads or imports would where its bin does not exist. -/
theorem queueReads_run {i : Instr} {op w q cid : Nat} (h : (i, op) ∈ [(.read w q cid, 1), (.readFrame w q cid, 2), (.dirRead w q cid, 3), (.indexRead w q cid, 4),
    (.importClip w q cid [], 5)]) (hw : w < 64) (hq : q < 16) (hc : cid < 65536) : ∃ run, (∀ s, exec i s = guarded i s (s.runCmd w q cid op run)) ∧ i.wellFormed = true
      ∧ ∀ e (s : State), s.bin? (sqField e 4 1) = none → run e s = (s, { code := cNOT_PERMITTED }) := by
  have hwf : (decide (w < 64) && decide (q < 16) && decide (cid < 65536)) = true := by simp [hw, hq, hc]
  have hbin : ∀ e (s : State), s.bin? (sqField e 4 1) = none → s.readBin e = .inr { code := cNOT_PERMITTED } := fun e s h => by rw [State.readBin, h]
  simp only [List.mem_cons, Prod.mk.injEq, List.not_mem_nil, or_false] at h
  obtain ⟨rfl, rfl⟩ | ⟨rfl, rfl⟩ | ⟨rfl, rfl⟩ | ⟨rfl, rfl⟩ | ⟨rfl, rfl⟩ := h
  · exact ⟨readRun, fun _ => rfl, hwf, fun e s h => by rw [readRun, hbin e s h]⟩
  · exact ⟨readFrameRun, fun _ => rfl, hwf, fun e s h => by rw [readFrameRun, hbin e s h]⟩
  · exact ⟨dirReadRun, fun _ => rfl, hwf, fun e s h => by rw [dirReadRun, hbin e s h]⟩
  · exact ⟨indexReadRun, fun _ => rfl, hwf, fun e s h => by rw [indexReadRun, hbin e s h]⟩
  · refine ⟨importRun, fun s => ?_, hwf, fun e s h => by rw [importRun, h]⟩
    change guarded _ s (match s.queueCmd w q cid 5 with
      | none => s
      | some _ => s.runCmd w q cid 5 importRun) = _
    cases hcmd : s.queueCmd w q cid 5 with
    | none => rw [runCmd_none hcmd]
    | some c => rfl

theorem queueInstr_run {i : Instr} {op w q cid : Nat} (h : (i, op) ∈ [(.read w q cid, 1), (.readFrame w q cid, 2), (.dirRead w q cid, 3), (.indexRead w q cid, 4),
    (.importClip w q cid [], 5), (.cqFence w q cid, 6)]) (hw : w < 64) (hq : q < 16) (hc : cid < 65536) :
    ∃ run, (∀ s, exec i s = guarded i s (s.runCmd w q cid op run)) ∧ i.wellFormed = true := by
  rcases List.mem_append.1 (show (i, op) ∈ [(.read w q cid, 1), (.readFrame w q cid, 2), (.dirRead w q cid, 3), (.indexRead w q cid, 4),
    (.importClip w q cid [], 5)] ++ [(.cqFence w q cid, 6)] from h) with h | h
  · obtain ⟨run, hx, hwf, -⟩ := queueReads_run h hw hq hc
    exact ⟨run, hx, hwf⟩
  · obtain ⟨rfl, rfl⟩ := Prod.mk.inj (List.mem_singleton.1 h)
    exact ⟨fun _ t => (t, {}), fun _ => rfl, by simp [Instr.wellFormed, hw, hq, hc]⟩

/-! ### The answers -/

theorem Completed.pending {w q : Nat} {c : QCmd} {p : Pair} {code r0 r1 r2 : Nat} {e t : State} (h : Completed w q c p code r0 r1 r2 e t) : t.pending = e.pending := by
  obtain ⟨-, -, -, -, -, ht⟩ := h
  rw [ht]

theorem Froze.pending {w q cid op code : Nat} {e t : State} (h : Froze w q cid op code e t) : t.pending = e.pending := by
  obtain ⟨-, -, -, -, -, -, -, hev⟩ := h
  exact hev.pending

section
variable {i : Instr} {op w q cid : Nat} {p : Pair} {c : QCmd} {run : List Byte → State → State × QAns} {s : State}
  (hx : exec i s = guarded i s (s.runCmd w q cid op run)) (hwf : i.wellFormed = true)
include hx hwf

theorem queueCmd_idle (h : s.queueCmd w q cid op = none) : exec i s = .next s := exec_next hx hwf (runCmd_none h) rfl

variable (hp : s.pair? w q = some p) (hq : s.queueCmd w q cid op = some c) (hd : s.noDeletes)
include hp hq hd

theorem queueCmd_badField {f : Nat} (hfr : p.frozen = false) (hf : badField c.entry = some f) : ∃ t, exec i s = .next t ∧ Froze w q cid op 4 s t := by
  obtain ⟨rfl, rfl⟩ := queueCmd_found hq
  have hfz := completeCmd_froze (c := c) (a := { code := cBAD_PARAM, field := f }) hp hfr (noneDeleting_of_noDeletes hd) rfl
  exact ⟨_, exec_next hx hwf (runCmd_badField hq hf) hfz.pending, hfz⟩

theorem queueCmd_departed (hf : badField c.entry = none) (hfate : c.fate = 0xA) (hfr : p.frozen = false) : ∃ t, exec i s = .next t ∧ Froze w q cid op 0xA s t := by
  obtain ⟨rfl, rfl⟩ := queueCmd_found hq
  have hfz := completeCmd_froze (c := c) (a := { code := cMEDIA_ERROR, r1 := sqField c.entry 0x10 8, detail := sqField c.entry 0x10 8 }) hp hfr
    (noneDeleting_of_noDeletes hd) rfl
  exact ⟨_, exec_next hx hwf (runCmd_departed hq hf hfate) hfz.pending, hfz⟩

variable (hg : s.hostGood (p.cqBase + 32 * p.cqTail) 32 = 32) (hf : badField c.entry = none)
include hg hf

theorem queueCmd_met (hfate : c.fate = 0x58) : ∃ t, exec i s = .next t ∧ Completed w q c p 0x58 0 0 0 s t := by
  have hc := completeCmd_completed (c := c) (a := { code := 0x58 }) hp (noneDeleting_of_noDeletes hd) hg rfl
  exact ⟨_, exec_next hx hwf (runCmd_met hq hf hfate) hc.pending, hc⟩

/-- A command that answers without a change. -/
theorem queueCmd_answers {a : QAns} (hfate : c.fate = 0) (hr : run c.entry s = (s, a)) (hcode : freezing a.code = false) :
    ∃ t, exec i s = .next t ∧ Completed w q c p a.code a.r0 a.r1 0 s t := by
  have hnone := noneDeleting_of_noDeletes hd
  have hc := completeCmd_completed (c := c) (a := a) hp hnone hg hcode
  have hrun := runCmd_runs (run := run) hq hf hfate hnone
  rw [hr] at hrun
  exact ⟨_, exec_next hx hwf hrun hc.pending, hc⟩

omit hp hg in
/-- A command that leaves the state `e` and completes there. -/
theorem queueCmd_completes {e : State} {a : QAns} (hfate : c.fate = 0) (hr : run c.entry s = (e, a)) (hp : e.pair? w q = some p)
    (hg : e.hostGood (p.cqBase + 32 * p.cqTail) 32 = 32) (hn : e.NoneDeleting) (hcode : freezing a.code = false) (hpe : e.pending = s.pending) :
    ∃ t, exec i s = .next t ∧ Completed w q c p a.code a.r0 a.r1 0 e t := by
  have hc := completeCmd_completed (c := c) (a := a) hp hn hg hcode
  have hrun := runCmd_runs (run := run) hq hf hfate (noneDeleting_of_noDeletes hd)
  rw [hr] at hrun
  exact ⟨_, exec_next hx hwf hrun (hc.pending.trans hpe), hc⟩

end

end Sys2Proof.Machine
end

section
/-! READ, DIR_READ and INDEX_READ of a clip queue (O45; R33, R340). -/

namespace Sys2Proof.Machine

theorem toHost_good {h : Nat} {l : List Byte} {s : State} (hg : s.hostGood h l.length = l.length) (a : QAns) :
    s.toHost h l a = (s.withHostMem (putBytes zeroByte s.ctl.hostMem h l), { a with r0 := a.r0 + l.length }) := by
  rw [State.toHost, hostWrite_good hg]
  rfl

theorem readBin_found {s : State} {e : List Byte} {x : Bin} (hx : s.bin? (sqField e 4 1) = some x) (hst : 2 ≤ s.binState (sqField e 4 1)) :
    s.readBin e = if s.getP P.CXL_REGION_STATE x.region = 4 then .inr { code := cREGION_OFFLINE } else .inl x := by
  rw [State.readBin, hx]
  exact if_neg (by omega)

theorem readClip_shed {x : Bin} {id : Nat} (h : (x.clips.find? fun k => k.id == id && k.phase != 3) = none) (h1 : 1 ≤ id) (h2 : id < x.nextClip) :
    x.readClip id = .inr { code := cCLIP_SHED } := by
  rw [Bin.readClip, h]
  exact if_pos ⟨h1, h2⟩

theorem readClip_found {x : Bin} {id : Nat} {k : Clip} (h : (x.clips.find? fun k => k.id == id && k.phase != 3) = some k) : x.readClip id = .inl k := by
  rw [Bin.readClip, h]

theorem readRecs_flawless {s : State} (h : s.dram.flaws = []) (k : Clip) : s.readRecs k = s := by
  rw [State.readRecs, h]
  rfl

/-- The index entries of a clip are one for each record. -/
theorem indexEntries_length (k : Clip) : (k.recs.foldl (fun (a : List (List Byte) × Nat) r => (a.1 ++ [indexEntry r a.2], a.2 + r.len)) ([], 0)).1.length = k.recs.length := by
  have key : ∀ (l : List Rec) (a : List (List Byte) × Nat),
      (l.foldl (fun (a : List (List Byte) × Nat) r => (a.1 ++ [indexEntry r a.2], a.2 + r.len)) a).1.length = a.1.length + l.length := by
    intro l
    induction l with
    | nil => intro a; rfl
    | cons r l ih =>
      intro a
      rw [List.foldl_cons, ih, List.length_append, List.length_singleton, List.length_cons]
      omega
  exact (key k.recs ([], 0)).trans (Nat.zero_add _)

section
variable {w q cid : Nat} {p : Pair} {c : QCmd} {x : Bin} {s : State} (hw : w < 64) (hq : q < 16) (hc : cid < 65536) (hp : s.pair? w q = some p)
  (hg : s.hostGood (p.cqBase + 32 * p.cqTail) 32 = 32) (hfate : c.fate = 0) (hd : s.noDeletes) (hf : badField c.entry = none)
  (hx : s.bin? (sqField c.entry 4 1) = some x) (hst : 2 ≤ s.binState (sqField c.entry 4 1))

section
include hx hst

theorem readBin_offline (hr : s.getP P.CXL_REGION_STATE x.region = 4) : s.readBin c.entry = .inr { code := cREGION_OFFLINE } :=
  (readBin_found hx hst).trans (if_pos hr)

theorem readBin_online (hr : s.getP P.CXL_REGION_STATE x.region ≠ 4) : s.readBin c.entry = .inl x := (readBin_found hx hst).trans (if_neg hr)

end

section
include hw hq hc

theorem queueInstr_wf : (decide (w < 64) && decide (q < 16) && decide (cid < 65536)) = true := by simp [hw, hq, hc]

end

include hw hq hc hp hg hfate hd hf

/-- READ ends without a change where its bin or clip cannot be read. -/
theorem read_answers {a : QAns} (hcmd : s.queueCmd w q cid 1 = some c) (hr : readRun c.entry s = (s, a)) (hcode : freezing a.code = false) :
    ∃ t, exec (.read w q cid) s = .next t ∧ Completed w q c p a.code a.r0 a.r1 0 s t :=
  queueCmd_answers (i := .read w q cid) (run := readRun) rfl (queueInstr_wf hw hq hc) hp hcmd hd hg hf hfate hr hcode

theorem dirRead_answers {a : QAns} (hcmd : s.queueCmd w q cid 3 = some c) (hr : dirReadRun c.entry s = (s, a)) (hcode : freezing a.code = false) :
    ∃ t, exec (.dirRead w q cid) s = .next t ∧ Completed w q c p a.code a.r0 a.r1 0 s t :=
  queueCmd_answers (i := .dirRead w q cid) (run := dirReadRun) rfl (queueInstr_wf hw hq hc) hp hcmd hd hg hf hfate hr hcode

theorem indexRead_answers {a : QAns} (hcmd : s.queueCmd w q cid 4 = some c) (hr : indexReadRun c.entry s = (s, a)) (hcode : freezing a.code = false) :
    ∃ t, exec (.indexRead w q cid) s = .next t ∧ Completed w q c p a.code a.r0 a.r1 0 s t :=
  queueCmd_answers (i := .indexRead w q cid) (run := indexReadRun) rfl (queueInstr_wf hw hq hc) hp hcmd hd hg hf hfate hr hcode

omit hw hq hc in
/-- A command that writes bytes to host memory and completes. -/
theorem queueCmd_writes {i : Instr} {op h : Nat} {run : List Byte → State → State × QAns} {l : List Byte} {a : QAns}
    (hi : exec i s = guarded i s (s.runCmd w q cid op run)) (hwf : i.wellFormed = true) (hcmd : s.queueCmd w q cid op = some c)
    (hr : run c.entry s = s.toHost h l a) (hgood : s.hostGood h l.length = l.length) (hcode : freezing a.code = false) :
    ∃ t, exec i s = .next t ∧ Completed w q c p a.code (a.r0 + l.length) a.r1 0
      { s with ctl := { s.ctl with hostMem := putBytes zeroByte s.ctl.hostMem h l } } t :=
  queueCmd_completes (e := s.withHostMem (putBytes zeroByte s.ctl.hostMem h l)) (a := { a with r0 := a.r0 + l.length }) hi hwf hcmd hd hf hfate
    (hr.trans (toHost_good hgood a)) hp hg ((noneDeleting_of_noDeletes hd).congr rfl) hcode rfl

include hx hst

theorem read_offline (hr : s.getP P.CXL_REGION_STATE x.region = 4) (hcmd : s.queueCmd w q cid 1 = some c) :
    ∃ t, exec (.read w q cid) s = .next t ∧ Completed w q c p cREGION_OFFLINE 0 0 0 s t :=
  read_answers (a := { code := cREGION_OFFLINE }) hw hq hc hp hg hfate hd hf hcmd (by rw [readRun, readBin_offline hx hst hr]) (by decide)

theorem dirRead_offline (hr : s.getP P.CXL_REGION_STATE x.region = 4) (hcmd : s.queueCmd w q cid 3 = some c) :
    ∃ t, exec (.dirRead w q cid) s = .next t ∧ Completed w q c p cREGION_OFFLINE 0 0 0 s t :=
  dirRead_answers (a := { code := cREGION_OFFLINE }) hw hq hc hp hg hfate hd hf hcmd (by rw [dirReadRun, readBin_offline hx hst hr]) (by decide)

theorem dirRead_reads (hr : s.getP P.CXL_REGION_STATE x.region ≠ 4) (hcmd : s.queueCmd w q cid 3 = some c) {l : List Clip} {d : List Byte}
    (hl : l = (x.clips.filter fun k => k.phase == 2 && decide (sqField c.entry 8 4 ≤ k.id)).take (sqField c.entry 0x20 4 / 128)) (hdat : d = l.flatMap Clip.dirEntry)
    (hgood : s.hostGood (sqField c.entry 0x18 8) d.length = d.length) : ∃ t, exec (.dirRead w q cid) s = .next t
      ∧ Completed w q c p 0 d.length (l.length + at' 32 ((x.openClip.map fun k => k.id % 2 ^ 32).getD 0)) 0
        { s with ctl := { s.ctl with hostMem := putBytes zeroByte s.ctl.hostMem (sqField c.entry 0x18 8) d } } t := by
  have hrun : dirReadRun c.entry s = s.toHost (sqField c.entry 0x18 8) d { r1 := l.length + at' 32 ((x.openClip.map fun k => k.id % 2 ^ 32).getD 0) } := by
    rw [dirReadRun, readBin_online hx hst hr, hdat, hl]
    rfl
  obtain ⟨t, ht, hcomp⟩ := queueCmd_writes (i := .dirRead w q cid) hp hg hfate hd hf rfl (queueInstr_wf hw hq hc) hcmd hrun hgood rfl
  rw [Nat.zero_add] at hcomp
  exact ⟨t, ht, hcomp⟩

theorem read_shed (hr : s.getP P.CXL_REGION_STATE x.region ≠ 4) (hfind : (x.clips.find? fun k => k.id == sqField c.entry 8 4 && k.phase != 3) = none)
    (h1 : 1 ≤ sqField c.entry 8 4) (h2 : sqField c.entry 8 4 < x.nextClip) (hcmd : s.queueCmd w q cid 1 = some c) :
    ∃ t, exec (.read w q cid) s = .next t ∧ Completed w q c p 0x58 0 0 0 s t :=
  read_answers (a := { code := cCLIP_SHED }) hw hq hc hp hg hfate hd hf hcmd (by rw [readRun, readBin_online hx hst hr]; dsimp only; rw [readClip_shed hfind h1 h2]) (by decide)

theorem indexRead_shed (hr : s.getP P.CXL_REGION_STATE x.region ≠ 4) (hfind : (x.clips.find? fun k => k.id == sqField c.entry 8 4 && k.phase != 3) = none)
    (h1 : 1 ≤ sqField c.entry 8 4) (h2 : sqField c.entry 8 4 < x.nextClip) (hcmd : s.queueCmd w q cid 4 = some c) :
    ∃ t, exec (.indexRead w q cid) s = .next t ∧ Completed w q c p 0x58 0 0 0 s t :=
  indexRead_answers (a := { code := cCLIP_SHED }) hw hq hc hp hg hfate hd hf hcmd
    (by rw [indexReadRun, readBin_online hx hst hr]; dsimp only; rw [readClip_shed hfind h1 h2]) (by decide)

variable {k : Clip} {d : List Byte} (hr : s.getP P.CXL_REGION_STATE x.region ≠ 4) (hfind : (x.clips.find? fun k => k.id == sqField c.entry 8 4 && k.phase != 3) = some k)
  (hgood : s.hostGood (sqField c.entry 0x18 8) d.length = d.length)
include hr hfind hgood

theorem read_reads (hflaw : s.dram.flaws = []) (hcmd : s.queueCmd w q cid 1 = some c)
    (hdat : d = ((k.recs.flatMap fun r => r.bytes k.id).drop (sqField c.entry 0x10 8)).take (min (sqField c.entry 0x20 4) (k.bytes - sqField c.entry 0x10 8)))
    (hpoison : s.streamPoison k (sqField c.entry 0x10 8) (min (sqField c.entry 0x20 4) (k.bytes - sqField c.entry 0x10 8)) = none) :
    ∃ t, exec (.read w q cid) s = .next t ∧ Completed w q c p 0 d.length (k.bytes + at' 63 (b2n (k.phase == 2))) 0
      { s with ctl := { s.ctl with hostMem := putBytes zeroByte s.ctl.hostMem (sqField c.entry 0x18 8) d } } t := by
  have hrun : readRun c.entry s = s.toHost (sqField c.entry 0x18 8) d { r1 := k.bytes + at' 63 (b2n (k.phase == 2)) } := by
    rw [readRun, readBin_online hx hst hr]
    dsimp only
    rw [readClip_found hfind]
    dsimp only
    rw [readRecs_flawless hflaw, hpoison, hdat]
  obtain ⟨t, ht, hcomp⟩ := queueCmd_writes (i := .read w q cid) hp hg hfate hd hf rfl (queueInstr_wf hw hq hc) hcmd hrun hgood rfl
  rw [Nat.zero_add] at hcomp
  exact ⟨t, ht, hcomp⟩

theorem indexRead_reads (hcmd : s.queueCmd w q cid 4 = some c)
    (hdat : d = (((k.recs.foldl (fun (a : List (List Byte) × Nat) r => (a.1 ++ [indexEntry r a.2], a.2 + r.len)) ([], 0)).1.drop (sqField c.entry 0x10 8)).take
      (sqField c.entry 0x20 4 / 32)).flatten) : ∃ t, exec (.indexRead w q cid) s = .next t
      ∧ Completed w q c p 0 d.length (min (sqField c.entry 0x20 4 / 32) (k.recs.length - sqField c.entry 0x10 8) + at' 32 k.recs.length) 0
        { s with ctl := { s.ctl with hostMem := putBytes zeroByte s.ctl.hostMem (sqField c.entry 0x18 8) d } } t := by
  have hrun : indexReadRun c.entry s = s.toHost (sqField c.entry 0x18 8) d
      { r1 := min (sqField c.entry 0x20 4 / 32) (k.recs.length - sqField c.entry 0x10 8) + at' 32 k.recs.length } := by
    rw [indexReadRun, readBin_online hx hst hr]
    dsimp only
    rw [readClip_found hfind]
    dsimp only
    rw [List.length_take, List.length_drop, indexEntries_length, hdat]
  obtain ⟨t, ht, hcomp⟩ := queueCmd_writes (i := .indexRead w q cid) hp hg hfate hd hf rfl (queueInstr_wf hw hq hc) hcmd hrun hgood rfl
  rw [Nat.zero_add] at hcomp
  exact ⟨t, ht, hcomp⟩

end

end Sys2Proof.Machine
end

section
/-! READ_FRAME of a frame of one block (O45; R328, R340). -/

namespace Sys2Proof.Machine

theorem hostGood_bumpSat (i e n a m : Nat) (s : State) : (s.bumpSat i e n).hostGood a m = s.hostGood a m := rfl

/-- What READ_FRAME leaves of a frame whose one block has been decoded, at `ok` without a failure. -/
def State.frameRead (s : State) (src h : Nat) (d : List Byte) (ok : Bool) : State :=
  (s.bumpSat P.FR_DECODE_ERRORS (s.decodeEngine src) (b2n !ok)).withHostMem (putBytes zeroByte s.ctl.hostMem h d)

section
variable {x : Bin} {k : Clip} {r : Rec} {bl d : List Byte} {ok : Bool} {n : Nat} {e : List Byte} {s : State}
  (hbin : s.readBin e = .inl x) (hclip : x.readClip (sqField e 8 4) = .inl k) (hflaw : s.dram.flaws = [])
  (hrec : (k.recs.find? fun r => r.typ == 1 && r.source == sqField e 5 1 && r.tag == sqField e 0x0C 4) = some r)
  (hn : n = r.field 0x28 2 * (r.field 0x26 2 * r.field 0x2A 1 / 8)) (hlen : n ≤ sqField e 0x20 4) (hmap : sqField e 0x28 8 = 0)
  (hrows : r.field 0x28 2 ≤ max (blockLines (r.field 0x2A 1) (r.field 0x26 2)) 1) (hbl : frameBlockBytes r = [bl]) (hok : (decodeBlock bl).2 = ok)
  (hd : d = (decodeBlock bl).1.take n)
  (hpoison : s.streamPoison k ((k.recs.takeWhile fun q => q != r).foldl (fun n q => n + q.len) 0) r.len = none)
  (hgood : s.hostGood (sqField e 0x18 8) d.length = d.length)
include hbin hclip hflaw hrec hn hlen hmap hrows hbl hok hd hpoison hgood

theorem readFrameRun_single : readFrameRun e s = (s.frameRead (sqField e 5 1) (sqField e 0x18 8) d ok,
    { code := if ok then 0 else 0xD, r0 := d.length, r1 := 1 + at' 16 (b2n (!ok)) + at' 32 (r.field 0x20 4) }) := by
  have htotal : n ≤ max (blockLines (r.field 0x2A 1) (r.field 0x26 2)) 1 * (r.field 0x26 2 * r.field 0x2A 1 / 8) := by
    rw [hn]
    exact Nat.mul_le_mul_right _ hrows
  have hput : (s.bumpSat P.FR_DECODE_ERRORS (s.decodeEngine (sqField e 5 1)) (b2n !ok)).toHost (sqField e 0x18 8) d {}
      = (s.frameRead (sqField e 5 1) (sqField e 0x18 8) d ok, { r0 := d.length }) := by
    rw [toHost_good (s := s.bumpSat P.FR_DECODE_ERRORS (s.decodeEngine (sqField e 5 1)) (b2n !ok)) hgood, Nat.zero_add]
    rfl
  unfold readFrameRun
  rw [hbin]
  dsimp only
  rw [hclip]
  dsimp only
  rw [readRecs_flawless hflaw, hrec]
  dsimp only
  rw [← hn, if_neg (Nat.not_lt.2 hlen), hpoison, hbl, hmap]
  have hcode : ¬ (({} : QAns).code = cHOST_FAULT) := by decide
  simp only [List.length_cons, List.length_nil, Nat.zero_add, List.take_succ_cons, List.take_nil, List.map_cons, List.map_nil, List.range_one, List.foldl_cons,
    List.foldl_nil, List.getD_cons_zero, Nat.zero_mul, Nat.add_zero, Nat.sub_zero, Nat.min_eq_right htotal, if_true, ← hd, if_neg hcode]
  have hbad : ([0].filter fun i => !([decodeBlock bl].getD i ([], true)).2) = if ok then [] else [0] := by
    change (match !(decodeBlock bl).2 with | true => [0] | false => []) = _
    rw [hok]
    cases ok <;> rfl
  have hcount : (if ok then [] else [0] : List Nat).length = b2n (!ok) := by cases ok <;> rfl
  rw [hbad, hcount, hput]
  cases ok <;> rfl

end

section
variable {w q cid : Nat} {p : Pair} {c : QCmd} {x : Bin} {k : Clip} {r : Rec} {bl d : List Byte} {ok : Bool} {n : Nat} {s : State}

/-- READ_FRAME decodes the frame's block, and its failure is counted. -/
theorem readFrame_reads (hw : w < 64) (hq : q < 16) (hc : cid < 65536) (hp : s.pair? w q = some p) (hg : s.hostGood (p.cqBase + 32 * p.cqTail) 32 = 32) (hfate : c.fate = 0)
    (hd : s.noDeletes) (hf : badField c.entry = none) (hx : s.bin? (sqField c.entry 4 1) = some x) (hst : 2 ≤ s.binState (sqField c.entry 4 1))
    (hr : s.getP P.CXL_REGION_STATE x.region ≠ 4) (hflaw : s.dram.flaws = []) (hfind : (x.clips.find? fun k => k.id == sqField c.entry 8 4 && k.phase != 3) = some k)
    (hgood : s.hostGood (sqField c.entry 0x18 8) d.length = d.length) (hcmd : s.queueCmd w q cid 2 = some c)
    (hrec : (k.recs.find? fun r => r.typ == 1 && r.source == sqField c.entry 5 1 && r.tag == sqField c.entry 0x0C 4) = some r)
    (hn : n = r.field 0x28 2 * (r.field 0x26 2 * r.field 0x2A 1 / 8)) (hlen : n ≤ sqField c.entry 0x20 4) (hmap : sqField c.entry 0x28 8 = 0)
    (hrows : r.field 0x28 2 ≤ max (blockLines (r.field 0x2A 1) (r.field 0x26 2)) 1) (hbl : frameBlockBytes r = [bl]) (hok : (decodeBlock bl).2 = ok)
    (hdat : d = (decodeBlock bl).1.take n)
    (hpoison : s.streamPoison k ((k.recs.takeWhile fun q => q != r).foldl (fun n q => n + q.len) 0) r.len = none) :
    ∃ t e, exec (.readFrame w q cid) s = .next t
      ∧ e.getP P.FR_DECODE_ERRORS (s.decodeEngine (sqField c.entry 5 1))
        = min (s.getP P.FR_DECODE_ERRORS (s.decodeEngine (sqField c.entry 5 1)) + b2n (!ok)) (2 ^ 32 - 1)
      ∧ SameParams [pkey P.FR_DECODE_ERRORS (s.decodeEngine (sqField c.entry 5 1))] s e
      ∧ e = { s with params := e.params, ctl := { s.ctl with hostMem := putBytes zeroByte s.ctl.hostMem (sqField c.entry 0x18 8) d } }
      ∧ Completed w q c p (if ok then 0 else 0xD) d.length (1 + at' 16 (b2n (!ok)) + at' 32 (r.field 0x20 4)) 0 e t := by
  have hrun := readFrameRun_single (readBin_online hx hst hr) (readClip_found hfind) hflaw hrec hn hlen hmap hrows hbl hok hdat hpoison hgood
  obtain ⟨t, ht, hcomp⟩ := queueCmd_completes (i := .readFrame w q cid) (run := readFrameRun) rfl (queueInstr_wf hw hq hc) hcmd hd hf hfate hrun hp hg
    ((noneDeleting_of_noDeletes hd).congr rfl) (by cases ok <;> rfl) rfl
  have hsame := sameParams_setP (s := s) (List.mem_cons_self (a := pkey P.FR_DECODE_ERRORS (s.decodeEngine (sqField c.entry 5 1))) (l := []))
    (sat32 (s.getP P.FR_DECODE_ERRORS (s.decodeEngine (sqField c.entry 5 1)) + b2n (!ok)))
  exact ⟨t, s.frameRead (sqField c.entry 5 1) (sqField c.entry 0x18 8) d ok, ht, State.getP_setP_same s _ _ _, hsame, rfl, hcomp⟩

end

end Sys2Proof.Machine
end

section
/-! IMPORT of one record, FENCE and the command timer of a clip queue, and the statement on queue commands assembled (O45; R35, R340, R347). -/

namespace Sys2Proof.Machine

/-! ### IMPORT (R347) -/

/-- The clip that an import of a record of tag `tag` opens. -/
def importClip (id tag now sources : Nat) : Clip := { id := id, first := tag, last := tag, recs := [], t0 := now, phase := 3, sources := sources }

/-- The bin with an import opened. -/
def Bin.importing (x : Bin) (tag now sources : Nat) : Bin :=
  { x with nextClip := x.nextClip + 1, clips := x.clips ++ [importClip x.nextClip tag now sources] }

theorem Bin.importing_held (x : Bin) (tag now sources : Nat) : (x.importing tag now sources).held = x.held := by
  have hused : (fun g => (x.importing tag now sources).used g) = fun g => x.used g := funext fun g => by
    simp [Bin.used, Bin.importing, Clip.uses, importClip]
  unfold Bin.held
  rw [hused]
  rfl

theorem Bin.importing_find {x : Bin} (h : ∀ k ∈ x.clips, k.phase ≠ 3) (tag now sources : Nat) :
    (x.importing tag now sources).clips.find? (fun k => k.phase == 3) = some (importClip x.nextClip tag now sources) := by
  unfold Bin.importing
  rw [List.find?_append, List.find?_eq_none.2 fun k hk => by simp [h k hk]]
  rfl

/-- The bin after an import of one record: its clip holds it, and ends at its tag. -/
def Bin.imported (x : Bin) (r : Rec) (now sources : Nat) : Bin :=
  { (x.importing r.tag now sources).appended x.nextClip r with
    clips := ((x.importing r.tag now sources).appended x.nextClip r).clips.map fun k => if k.id = x.nextClip then { k with last := (k.recs.getLast?.map fun q => q.tag).getD k.last } else k }

theorem Bin.imported_clips {x : Bin} (h : ∀ k ∈ x.clips, k.id ≠ x.nextClip) (r : Rec) (now sources : Nat) : (x.imported r now sources).clips = x.clips ++ [{
    id := x.nextClip, first := r.tag, last := r.tag, t0 := now, phase := 3, sources := sources
    recs := [{ r with seq := x.seq, pieces := [(x.wseg, x.woff, r.len)] }] }] := by
  have hkeep : ∀ f : Clip → Clip, (x.clips.map fun k => if k.id = x.nextClip then f k else k) = x.clips := fun f =>
    (List.map_congr_left fun k hk => if_neg (h k hk)).trans (List.map_id x.clips)
  unfold Bin.imported Bin.appended Bin.importing
  dsimp only
  rw [List.map_append, List.map_append, hkeep, hkeep]
  unfold importClip
  simp

/-- Importing one record into a bin without an import in progress. -/
theorem importRun_first {b n : Nat} {x : Bin} {r : Rec} {e : List Byte} {s : State} (hb : sqField e 4 1 = b) (hx : s.bin? b = some x) (hst : s.binState b = 3)
    (hfl : sqField e 1 1 = 1) (hn : n = sqField e 0x20 4) (hgood : s.hostGood (sqField e 0x18 8) n = n)
    (hrec : importRecords n (takeBytes zeroByte s.ctl.hostMem (sqField e 0x18 8) n) [] = some [r]) (hc : ∀ k ∈ x.clips, k.phase ≠ 3)
    (hroom : x.woff + r.len ≤ segBytes) (hq : x.held ≤ x.quota) : ∃ t o, importRun e s = (t, { r0 := n, r1 := x.nextClip % 2 ^ 32 }) ∧ BinStep b (binOwn b) s t
      ∧ t.bin? b = some { x.imported r s.now (s.getP P.FR_BIN_SOURCES b) with quotaOver := o } := by
  have hset := setBin_step b (binOwn b) (some (x.importing r.tag s.now (s.getP P.FR_BIN_SOURCES b))) s
  have hsetb := State.setBin_bin b (some (x.importing r.tag s.now (s.getP P.FR_BIN_SOURCES b))) s
  obtain ⟨t, o, happ, hstep, hbin⟩ := binAppend_room (id := x.nextClip) (r := r) hsetb (by rw [Bin.importing_held]; exact hq) hroom
  have hall := (hset.trans (hstep.mono fun k hk => binKeys_own hk)).trans (setBin_step b (binOwn b) (some { x.imported r s.now (s.getP P.FR_BIN_SOURCES b) with quotaOver := o }) t)
  refine ⟨t.setBin b (some { x.imported r s.now (s.getP P.FR_BIN_SOURCES b) with quotaOver := o }), o, ?_, hall, State.setBin_bin _ _ _⟩
  have hnone : x.clips.find? (fun k => k.phase == 3) = none := List.find?_eq_none.2 fun k hk => by simp [hc k hk]
  have hread : s.hostRead (sqField e 0x18 8) n = takeBytes zeroByte s.ctl.hostMem (sqField e 0x18 8) n := by rw [State.hostRead, hgood]
  have hmod : t.modClip b x.nextClip (fun k => { k with last := (k.recs.getLast?.map fun q => q.tag).getD k.last })
      = t.setBin b (some { x.imported r s.now (s.getP P.FR_BIN_SOURCES b) with quotaOver := o }) := State.modBin_some hbin _
  unfold importRun
  dsimp only
  rw [hb, hx]
  dsimp only
  rw [if_neg (fun h => h hst), hnone, hfl, ← hn, hread, takeBytes_length, if_neg (by simp), if_neg (by decide), if_neg (Nat.lt_irrefl n), hrec]
  dsimp only
  rw [if_pos (show Nat.testBit 1 0 = true from rfl), if_neg (show ¬ Nat.testBit 1 1 = true from Bool.false_ne_true), State.modBin_some hx]
  change (let s1 := s.setBin b (some (x.importing r.tag s.now (s.getP P.FR_BIN_SOURCES b)))
    let id := (((s1.bin? b).bind fun y => y.clips.find? fun c => c.phase == 3).map fun c => c.id).getD 0
    let a := s1.binAppend b id r
    if !a.2 then (a.1.discardImport b, { code := cNO_RESOURCE, r0 := n })
    else (a.1.modClip b id fun c => { c with last := (c.recs.getLast?.map fun q => q.tag).getD c.last }, ({ r0 := n, r1 := wrap32 id } : QAns))) = _
  dsimp only
  rw [hsetb, Option.bind_some, Bin.importing_find hc, Option.map_some, Option.getD_some]
  change (let a := (s.setBin b (some (x.importing r.tag s.now (s.getP P.FR_BIN_SOURCES b)))).binAppend b x.nextClip r
    if !a.2 then (a.1.discardImport b, { code := cNO_RESOURCE, r0 := n })
    else (a.1.modClip b x.nextClip fun c => { c with last := (c.recs.getLast?.map fun q => q.tag).getD c.last }, ({ r0 := n, r1 := wrap32 x.nextClip } : QAns))) = _
  rw [happ]
  dsimp only
  rw [hmod]
  rfl

theorem BinStep.noneDeleting {b : Nat} {l : List Nat} {s t : State} {y : Bin} (h : BinStep b l s t) (hn : s.NoneDeleting) (hy : t.bin? b = some y)
    (hyd : y.deleting = none) : t.NoneDeleting := fun k => by
  by_cases hk : k = b
  · rw [hk, hy]; exact hyd
  · rw [h.1 k hk]; exact hn k

section
variable {w q cid : Nat} {p : Pair} {c : QCmd} {s : State} (hw : w < 64) (hq : q < 16) (hc : cid < 65536) (hp : s.pair? w q = some p)
  (hg : s.hostGood (p.cqBase + 32 * p.cqTail) 32 = 32) (hd : s.noDeletes)
include hw hq hc hp hg hd

theorem importClip_imports {b n : Nat} {l : List Byte} {m : SMap Byte} {x : Bin} {r : Rec} (hcmd : s.queueCmd w q cid 5 = some c) (hfate : c.fate = 0)
    (hf : badField c.entry = none) (hb : sqField c.entry 4 1 = b) (hn : n = sqField c.entry 0x20 4) (hfl : sqField c.entry 1 1 = 1) (hx : s.bin? b = some x)
    (hst : s.binState b = 3) (hgood : s.hostGood (sqField c.entry 0x18 8) n = n)
    (hm : m = (if l = [] then s.ctl.hostMem else putBytes zeroByte s.ctl.hostMem (sqField c.entry 0x18 8) l))
    (hrec : importRecords n (takeBytes zeroByte m (sqField c.entry 0x18 8) n) [] = some [r]) (hclips : ∀ k ∈ x.clips, k.phase ≠ 3 ∧ k.id ≠ x.nextClip)
    (hroom : x.woff + r.len ≤ segBytes) (hheld : x.held ≤ x.quota) : ∃ t e y, exec (.importClip w q cid l) s = .next t
      ∧ Completed w q c p 0 n (x.nextClip % 2 ^ 32) 0 e t ∧ BinOnly b { s with ctl := { s.ctl with hostMem := m } } e ∧ e.bin? b = some y
      ∧ y.nextClip = x.nextClip + 1 ∧ y.seq = x.seq + 1 ∧ y.woff = x.woff + r.len ∧ y.clips = x.clips ++ [{
          id := x.nextClip, first := r.tag, last := r.tag, t0 := s.now, phase := 3, sources := s.getP P.FR_BIN_SOURCES b
          recs := [{ r with seq := x.seq, pieces := [(x.wseg, x.woff, r.len)] }] }] := by
  obtain ⟨e, o, hrun, hstep, hbin⟩ := importRun_first (s := s.withHostMem m) hb hx hst hfl hn hgood hrec (fun k hk => (hclips k hk).1) hroom hheld
  have hdata : (if l.isEmpty then s else { s with ctl := { s.ctl with hostMem := putBytes zeroByte s.ctl.hostMem (sqField c.entry 0x18 8) l } }) = s.withHostMem m := by
    rw [hm]
    cases l with
    | nil => rfl
    | cons a l => rfl
  have hnone : (s.withHostMem m).NoneDeleting := (noneDeleting_of_noDeletes hd).congr rfl
  have hexec : exec (.importClip w q cid l) s = guarded (.importClip w q cid l) s ((s.withHostMem m).runCmd w q cid 5 importRun) := by
    rw [← hdata]
    change guarded _ s (match s.queueCmd w q cid 5 with
      | none => s
      | some d => (if l.isEmpty then s else { s with ctl := { s.ctl with hostMem := putBytes zeroByte s.ctl.hostMem (sqField d.entry 0x18 8) l } }).runCmd w q cid 5 importRun) = _
    rw [hcmd]
  have hrunCmd := runCmd_runs (run := importRun) (s := s.withHostMem m) hcmd hf hfate hnone
  rw [hrun] at hrunCmd
  have hdel : x.deleting = none := hnone.bin (s := s.withHostMem m) hx
  obtain ⟨par, sv, bins, vol, win, view, mem, aer, hframe⟩ := hstep.frame
  have hcomp := completeCmd_completed (s := e) (c := c) (a := { r0 := n, r1 := x.nextClip % 2 ^ 32 }) (by rw [hframe]; exact hp)
    (hstep.noneDeleting hnone hbin hdel) (by rw [hframe]; exact hg) rfl
  exact ⟨_, e, _, exec_next hexec (queueInstr_wf hw hq hc) hrunCmd (hcomp.pending.trans hstep.pending), hcomp, hstep, hbin, rfl, rfl, rfl,
    Bin.imported_clips (fun k hk => (hclips k hk).2) r s.now _⟩

/-! ### FENCE and the timer (R35, R340) -/

theorem cqFence_completes (hcmd : s.queueCmd w q cid 6 = some c) (hfate : c.fate = 0) (hf : badField c.entry = none) :
    ∃ t, exec (.cqFence w q cid) s = .next t ∧ Completed w q c p 0 0 0 0 s t :=
  queueCmd_answers (i := .cqFence w q cid) (run := fun _ t => (t, {})) (a := {}) rfl (queueInstr_wf hw hq hc) hp hcmd hd hg hf hfate rfl rfl

omit hg hd in
theorem cqCommandTimeout_untimed (hcmd : (p.cmds.find? fun d => d.cid == cid) = some c) (ht : sqField c.entry 0x24 4 = 0) : exec (.cqCommandTimeout w q cid) s = .next s := by
  refine exec_next (i := .cqCommandTimeout w q cid) rfl (queueInstr_wf hw hq hc) ?_ rfl
  rw [hp, Option.bind_some, hcmd]
  exact if_pos (.inl ht)

theorem cqCommandTimeout_completes (hcmd : (p.cmds.find? fun d => d.cid == cid) = some c) (ht : sqField c.entry 0x24 4 ≠ 0) (hrun : s.queuesRun = true) :
    ∃ t, exec (.cqCommandTimeout w q cid) s = .next t
      ∧ Completed w q c p 9 0 0 0 { s with now := max s.now (c.time + sqField c.entry 0x24 4 * 1000000) } t := by
  have hcomp := completeCmd_completed (s := s.atLeast (c.time + sqField c.entry 0x24 4 * 1000000)) (c := c) (a := { code := cTIMEOUT }) hp
    ((noneDeleting_of_noDeletes hd).congr rfl) hg rfl
  refine ⟨_, exec_next (i := .cqCommandTimeout w q cid) rfl (queueInstr_wf hw hq hc) ?_ hcomp.pending, hcomp⟩
  rw [hp, Option.bind_some, hcmd]
  exact if_neg (by simp [ht, hrun])

end

theorem cqCommandTimeout_idle {w q cid : Nat} {s : State} (hw : w < 64) (hq : q < 16) (hc : cid < 65536) (h : s.pair? w q = none ∨ s.queuesRun = false) :
    exec (.cqCommandTimeout w q cid) s = .next s := by
  refine exec_next (i := .cqCommandTimeout w q cid) rfl (queueInstr_wf hw hq hc) ?_ rfl
  cases hcmd : (s.pair? w q).bind fun p => p.cmds.find? fun c => c.cid == cid with
  | none => rfl
  | some c =>
    refine if_pos (.inr ?_)
    rcases h with h | h
    · rw [h] at hcmd; nomatch hcmd
    · rw [h]; rfl

theorem importClip_idle {w q cid : Nat} {s : State} (hw : w < 64) (hq : q < 16) (hc : cid < 65536) (h : s.queueCmd w q cid 5 = none) (l : List Byte) :
    exec (.importClip w q cid l) s = .next s := by
  refine exec_next (i := .importClip w q cid l) rfl (queueInstr_wf hw hq hc) ?_ rfl
  rw [h]

end Sys2Proof.Machine

open Sys2Proof Sys2Proof.Machine in
/-- Settles O45: a fetched command that may start runs and leaves its pair with one entry, whatever its opcode; what each reads or imports is its own lemma. -/
theorem queueCommandsReadAndImport : Obligations.QueueCommandsReadAndImport := by
  unfold Obligations.QueueCommandsReadAndImport
  refine ⟨fun w q cid s hw hq hc => ?_, fun i op w q cid f p c s hi hw hq hc hp hcmd hfr hd hf => ?_, fun i op w q cid p c s hi hw hq hc hp hcmd hd hf => ?_,
    fun i op w q cid p c s hi hw hq hc hp hcmd hfate hd hf hb hg => ?_, ?_, ?_, fun w q cid p c s hw hq hc hp hg hd => ?_⟩
  · have hwf := queueInstr_wf hw hq hc
    exact ⟨queueCmd_idle (i := .read w q cid) (run := readRun) rfl hwf, queueCmd_idle (i := .readFrame w q cid) (run := readFrameRun) rfl hwf,
      queueCmd_idle (i := .dirRead w q cid) (run := dirReadRun) rfl hwf, queueCmd_idle (i := .indexRead w q cid) (run := indexReadRun) rfl hwf,
      fun h l => importClip_idle hw hq hc h l, queueCmd_idle (i := .cqFence w q cid) (run := fun _ t => (t, {})) rfl hwf, cqCommandTimeout_idle hw hq hc⟩
  · obtain ⟨run, hx, hwf⟩ := queueInstr_run hi hw hq hc
    exact queueCmd_badField (hx s) hwf hp hcmd hd hfr hf
  · obtain ⟨run, hx, hwf, -⟩ := queueReads_run hi hw hq hc
    exact ⟨fun hfate hg => queueCmd_met (hx s) hwf hp hcmd hd hg hf hfate, fun hfate hfr => queueCmd_departed (hx s) hwf hp hcmd hd hf hfate hfr⟩
  · obtain ⟨run, hx, hwf, hnone⟩ := queueReads_run hi hw hq hc
    exact queueCmd_answers (a := { code := cNOT_PERMITTED }) (hx s) hwf hp hcmd hd hg hf hfate (hnone c.entry s hb) rfl
  · rintro w q cid b h p c x s hw hq hc hp hg hfate hd hf rfl rfl hx hst
    exact ⟨fun hr => ⟨read_offline hw hq hc hp hg hfate hd hf hx hst hr, dirRead_offline hw hq hc hp hg hfate hd hf hx hst hr⟩,
      fun hr hcmd l d hl hdat hgood => dirRead_reads hw hq hc hp hg hfate hd hf hx hst hr hcmd hl hdat hgood,
      fun hr hfind h1 h2 => ⟨read_shed hw hq hc hp hg hfate hd hf hx hst hr hfind h1 h2, indexRead_shed hw hq hc hp hg hfate hd hf hx hst hr hfind h1 h2⟩,
      fun k d hr hflaw hfind hgood => ⟨fun hcmd hdat hpoison => read_reads hw hq hc hp hg hfate hd hf hx hst hr hfind hgood hflaw hcmd hdat hpoison,
        fun hcmd hdat => indexRead_reads hw hq hc hp hg hfate hd hf hx hst hr hfind hgood hcmd hdat,
        fun r bl ok n hcmd hrec hn hlen hmap _ hrows hbl hok hdat hpoison =>
          readFrame_reads hw hq hc hp hg hfate hd hf hx hst hr hflaw hfind hgood hcmd hrec hn hlen hmap hrows hbl hok hdat hpoison⟩⟩
  · rintro w q cid b h n l m p c x r s hw hq hc hp hcmd hfate hd hf hg rfl rfl hn hfl hx hst hgood hm hrec hclips hroom - hheld
    exact importClip_imports hw hq hc hp hg hd hcmd hfate hf rfl hn hfl hx hst hgood hm hrec hclips hroom hheld
  · exact ⟨cqFence_completes hw hq hc hp hg hd, cqCommandTimeout_untimed hw hq hc hp, cqCommandTimeout_completes hw hq hc hp hg hd⟩
end
